-- ==== Sys2Proof/Word.lean ====
section
/-!
DEFINITION. The plainest data of the model: bytes, bit fields of natural numbers, little-endian byte
strings and sorted association lists. Nothing here says anything about the module itself.
-/
namespace Sys2Proof

abbrev Byte := BitVec 8

/-- Bits `[lo + w - 1 : lo]` of `v` (the notation of R9). -/
def fld (v lo w : Nat) : Nat := (v >>> lo) % 2 ^ w

/-- Bit `i` of `v`. -/
def bitOf (v i : Nat) : Bool := v.testBit i

/-- `v` with the `w` bits from `lo` replaced by the low bits of `x`. -/
def setFld (v lo w x : Nat) : Nat :=
  v - (fld v lo w) * 2 ^ lo + (x % 2 ^ w) * 2 ^ lo

/-- `x` shifted to bit `lo`: the inverse of `fld` when fields are laid side by side. -/
def at' (lo x : Nat) : Nat := x * 2 ^ lo

def b2n (b : Bool) : Nat := if b then 1 else 0

/-- `n` little-endian bytes of `v`. -/
def leBytes : Nat → Nat → List Byte
  | 0, _ => []
  | n + 1, v => BitVec.ofNat 8 v :: leBytes n (v / 256)

/-- The little-endian value of a byte string. -/
def leNat : List Byte → Nat
  | [] => 0
  | b :: bs => b.toNat + 256 * leNat bs

/-- `ceil (a / b)`. -/
def ceilDiv (a b : Nat) : Nat := (a + b - 1) / b

/-- A two's-complement value of `w` bits read as an integer. -/
def toSigned (w v : Nat) : Int := if v % 2 ^ w < 2 ^ (w - 1) then (v % 2 ^ w : Nat) else (v % 2 ^ w : Nat) - (2 ^ w : Nat)

/-- An integer written in two's complement in `w` bits. -/
def ofSigned (w : Nat) (i : Int) : Nat := (i % (2 ^ w : Nat)).toNat

/-- `0, 1, …, n - 1`, as a list that the kernel can walk. -/
def upto (n : Nat) : List Nat := List.range n

/-- Sparse data by number, sorted by key, each key at most once. -/
abbrev AMap (α : Type) := List (Nat × α)

namespace AMap

variable {α : Type}

def find : AMap α → Nat → Option α
  | [], _ => none
  | (k, v) :: m, i => if k = i then some v else if i < k then none else find m i

/-- The value at `i`, or `d` where nothing is listed. -/
def getD (m : AMap α) (i : Nat) (d : α) : α := (find m i).getD d

def put : AMap α → Nat → α → AMap α
  | [], i, x => [(i, x)]
  | (k, v) :: m, i, x =>
    if k = i then (i, x) :: m else if i < k then (i, x) :: (k, v) :: m else (k, v) :: put m i x

def del : AMap α → Nat → AMap α
  | [], _ => []
  | (k, v) :: m, i => if k = i then m else (k, v) :: del m i

/-- Change the value at `i`, starting from `d` where nothing is listed. -/
def upd (m : AMap α) (i : Nat) (d : α) (f : α → α) : AMap α := put m i (f (getD m i d))

/-- The values whose key and value meet `p`. -/
def only (m : AMap α) (p : Nat → α → Bool) : AMap α := List.filter (fun kv => p kv.1 kv.2) m

def mapVals (m : AMap α) (f : Nat → α → α) : AMap α := List.map (fun kv => (kv.1, f kv.1 kv.2)) m

/-- Keys rise strictly. -/
def sorted : AMap α → Bool
  | [] => true
  | [_] => true
  | (k, _) :: (l, w) :: m => decide (k < l) && sorted ((l, w) :: m)

end AMap

/-- Insert into a strictly rising list of numbers. -/
def insertNat : List Nat → Nat → List Nat
  | [], i => [i]
  | k :: m, i => if k = i then k :: m else if i < k then i :: k :: m else k :: insertNat m i

def removeNat : List Nat → Nat → List Nat
  | [], _ => []
  | k :: m, i => if k = i then m else k :: removeNat m i

/-- Membership in a strictly rising list of numbers. -/
def hasNat : List Nat → Nat → Bool
  | [], _ => false
  | k :: m, i => if k = i then true else if i < k then false else hasNat m i

def risingNat : List Nat → Bool
  | [] => true
  | [_] => true
  | k :: l :: m => decide (k < l) && risingNat (l :: m)

end Sys2Proof
end

