-- ==== Sys2Proof/Syntax.lean ====
section
/-!
DEFINITION. The commands of the block: one constructor of `Instr` for each row of spec/opcode_table.json, in
the table's order, with the operands the row's rule gives it. What a sensor, a crypto unit or a device
measured or decided, and the model cannot compute, comes as an operand (log 8).
-/
namespace Sys2Proof

/-- One of two dies: 0 east, 1 west (R4). -/
abbrev Die := BitVec 1
/-- Tensor core 0–17 (R4). -/
abbrev CoreId := Fin 18
/-- DDR5 subchannel 0–67 (R4). -/
abbrev SubId := Fin 68
/-- Queue identifier (R5). -/
abbrev QueueId := BitVec 17
/-- Partition 0–7 (R6). -/
abbrev PartId := BitVec 3
/-- Video engine e of R347: decoders 0–3, encoders 4–5. -/
abbrev EngineId := Fin 6
/-- Port p of R437: 0 A, 1 B, 2–5 F0–F3. -/
abbrev PortId := Fin 6
/-- Link code of R405: 0 the T1 link, 1 and 2 the fabric links. -/
abbrev LinkId := Fin 3

/-- Outcomes of a start (R574) that depend on devices, optics or cryptography the model does not compute. -/
structure StartReport where
  /-- Steps 1 and 2 of R574: the islands' ROM self-tests. -/
  eastOk : Bool := true
  westOk : Bool := true
  /-- Step 4 (R42): capacitance (µF), ESR (µΩ) and the ESR against manufacture, ×1,000. -/
  holdUpUf : Nat := 3300
  esrUohm : Nat := 0
  esrRatio : Nat := 1000
  /-- Kind 0 of R489 as the cold start measures it, core by core, 0.001 %. -/
  ageing : List Int := []
  /-- Step 5 (R605): the check code of each platform slot, 0 for a pass; a rollback is computed by the model. -/
  slotA : Nat := 0
  slotB : Nat := 0
  /-- R183: subchannels that fail training (step 1) or self-test (step 3). -/
  failedSubs : List (SubId × Nat) := []
  /-- R183, R584: the training cache is valid, so training starts from it. -/
  cacheValid : Bool := true
  /-- R218.08: hPPR resources left in a bank group of a device, as the devices report them at training. -/
  repairsLeft : List (SubId × Fin 3 × Fin 8 × Nat) := []
  /-- R369 steps 1 and 2: refusal reason 0x05, 0x06 or 0x07 of R370, or 0. -/
  runtime : Nat := 0
  /-- R497 step 3: the spares whose self-test passes at the swaps of step 9. -/
  sparesPass : List CoreId := []
  /-- R450: TIME cycles that pass in 32,768 crystal cycles at an entry to PARKED. -/
  crystal : Nat := 250000000
  /-- Digest failure of the reloaded platform image at WARM (R584 step 4). -/
  platformOk : Bool := true
  /-- R610: the start reaches AWAIT_RUNTIME; false leaves it hanging in TRAIN. -/
  reaches : Bool := true
  /-- Readings that R556 asks of a WAKE after a thermal stop: the inlet and the hottest junction (0.01 °C). -/
  inlet : Int := 2500
  hottest : Int := 3000
  deriving DecidableEq, Repr

/-- An upset of a DDR5 line: the beats of one lane that flip (R190). -/
structure LineUpset where
  sub : SubId
  line : BitVec 27
  lane : Fin 40
  flips : BitVec 16
  deriving DecidableEq, Repr

/-- An upset of a scratchpad word: `bits` + 1 bits of its 72 flip (R118). -/
structure SpadUpset where
  core : CoreId
  line : Fin 196608
  word : Fin 8
  bits : Fin 72
  deriving DecidableEq, Repr

/-- How a mailbox message reaches the kernel: on a host mailbox, or in a Pavane command queue (R362). -/
inductive MbxSrc where
  | host (die : Die) (mbx : BitVec 6) (msg : BitVec 512)
  | queue (q : QueueId)
  deriving DecidableEq, Repr

/-- Who orders an action that has both a mailbox message and an object-dictionary entry. -/
inductive CmdSrc where
  /-- The accepted cmd write of the entry. -/
  | entry
  | mailbox (m : MbxSrc)
  /-- The module itself, by a rule of its own (a fault, a limit, a reset). -/
  | module
  deriving DecidableEq, Repr

/-- A Rycia frame as it reaches the protocol (R383): the port, the sender's address, the 20-byte header and
the body in clear. `authentic` is what the security engine found of its tag or signature. -/
structure RFrame where
  port : BitVec 1
  src : BitVec 128 := 0
  /-- The destination address: the port's link-local address, or a global one, coded as OD 0x1100.02. -/
  dst : Option (BitVec 128) := none
  udpPort : BitVec 16 := 48736
  header : BitVec 160
  body : List Byte := []
  /-- Timebase counts from its first part to its last. -/
  spread : Nat := 0
  authentic : Bool := true
  deriving DecidableEq, Repr

/-- One lane's readings in 0.01 dBm and 0.01 dB (R430). -/
structure LaneReading where
  rx : Int
  tx : Int
  refl : Int
  deriving DecidableEq, Repr

/-- Throttling triggers in the order of R554. -/
inductive Trigger where
  | inletHot | outletSlope | coolantSensor | junctionWarm | dramHot | powerLimit | inputLow
  deriving DecidableEq, Repr

/-- A core with an interrupt input (R463). -/
inductive IrqCore where
  | app (n : BitVec 4)
  | fw (n : BitVec 3)
  deriving DecidableEq, Repr

/-- A write to an object-dictionary entry as it is applied (R380). -/
structure OdWrite where
  index : BitVec 16
  sub : BitVec 8
  value : List Byte
  deriving DecidableEq, Repr

/-- The writes of the management windows and of the module itself that have no row of their own. -/
inductive MgmtWrite where
  /-- An operator's write of an entry (R380), with the outcome of its store commit (R597). -/
  | odEntry (w : OdWrite) (storeOk : Bool)
  /-- The host driver writes a queue's context (R149). -/
  | queueContext (q : QueueId) (ctx : BitVec 512)
  /-- The host driver allots and presets a semaphore (R159). -/
  | semaphore (sem : BitVec 12) (owner : Option PartId) (value : BitVec 16)
  /-- The host driver writes a memory page-map entry (R187). -/
  | pageMap (p : PartId) (page : BitVec 18) (entry : BitVec 128)
  /-- The host driver writes a KV page-map entry (R255, R258). -/
  | kvMap (die : Die) (index : BitVec 19) (entry : BitVec 128)
  /-- The host driver writes a steering rule (R414). -/
  | steering (link : LinkId) (ix : BitVec 8) (rule : BitVec 64)
  /-- The host driver writes a job-group entry (R432). -/
  | jobGroup (ix : BitVec 6) (entry : BitVec 256)
  /-- The host driver allots an assignable event source (R454). -/
  | sourceAllot (die : Die) (src : BitVec 10) (owner : Option PartId)
  /-- An application core stores bytes in the module region (R349). -/
  | moduleRegion (addr : BitVec 48) (bytes : List Byte)
  /-- The driver takes messages from an outbound mailbox queue (R362). -/
  | mailboxTaken (die : Die) (mbx : BitVec 6) (count : Nat)
  /-- The serving runtime advances the heartbeat (R578). -/
  | heartbeat
  /-- A partition's runtime loads an adapter with the digest of its pages, or frees a version of it (R304, R306). -/
  | adapterLoad (p : PartId) (adapter : BitVec 10) (digest : BitVec 256)
  | adapterFree (p : PartId) (adapter : BitVec 10) (version : BitVec 16)
  /-- The runtime reports a pause or a resume of a conversation (R302, R303). -/
  | conversationPaused
  | conversationResumed
  /-- An application core is given the runtime process of a partition (R457). -/
  | runtimeCore (core : BitVec 4) (p : Option PartId)
  deriving DecidableEq, Repr

/-- An oldest-page scan request (R271). -/
structure KvScanReq where
  die : Die
  part : PartId
  /-- 0 all pages, 1 only writable 0, 2 only writable 1. -/
  which : BitVec 2
  buf : BitVec 48
  deriving DecidableEq, Repr

/-- Profiles of streams (R311); `other` is any that the decoders do not accept. -/
inductive StreamProfile where
  | constrainedBaseline | main264 | high264 | main265 | main10 | mainStill | mainAv1 | other
  deriving DecidableEq, Repr

/-- Elements of a stream that the module does not support (R313). -/
inductive StreamElement where
  | interlaced | fmo | aso | redundantSlices | dataPartitioning | switchingSlices | scalable | multiview
  | rangeExtension | screenContent | multilayer | threeD | largeScaleTile | spatialLayers | operatingPoint
  deriving DecidableEq, Repr

inductive ColourMatrix where
  | bt601 | bt709 | bt2020
  deriving DecidableEq, Repr

/-- A parameter set or a sequence header of a stream, as a decoder reads it. -/
structure StreamParams where
  profile : StreamProfile := .other
  /-- Level, in tenths: 51 for 5.1. -/
  level : Nat := 0
  depth : Nat := 8
  /-- 0 monochrome, 1 4:2:0, 2 4:2:2, 3 4:4:4. -/
  chroma : Nat := 1
  /-- The low-overhead OBU format, else an Annex B byte stream. -/
  obu : Bool := false
  width : BitVec 16 := 0
  height : BitVec 16 := 0
  cropW : BitVec 16 := 0
  cropH : BitVec 16 := 0
  cropL : BitVec 8 := 0
  cropT : BitVec 8 := 0
  /-- Side of a coding block (CTU, macroblock, superblock) in 16 × 16 units, and the block in raster order that each
  address in coding order names; empty where coding order is raster order. -/
  block : Nat := 1
  scan : List Nat := []
  /-- What the stream signals of its colours (R318). -/
  matrix : Option ColourMatrix := none
  fullRange : Option Bool := none
  elements : List StreamElement := []
  deriving DecidableEq, Repr

inductive PictureKind where
  | idr | cra | rasl | key | plain
  deriving DecidableEq, Repr

/-- A slice segment or an AV1 tile of a unit: its header, and what the entropy decoding of its data meets (R336). -/
structure SliceReport where
  /-- The parameter set that its header names. -/
  params : Nat := 0
  /-- nuh_layer_id. -/
  layer : Nat := 0
  /-- Address of its first block, in coding order. -/
  addr : Nat := 0
  /-- Every value of its header is in range. -/
  valuesOk : Bool := true
  /-- 0 intra, 1 P or inter, 2 B. -/
  kind : BitVec 2 := 0
  /-- Its reference entries: an order key each, or for AV1 a slot. -/
  refs : List Nat := []
  /-- Addresses of its blocks in the order decoded, and which reference entry a block predicts from. -/
  addrs : List Nat := []
  uses : List (Nat × Nat) := []
  /-- A syntax value is illegal; a coefficient lies beyond its limits. -/
  illegal : Bool := false
  overCoeff : Bool := false
  /-- The arithmetic decoder terminates where the slice ends. -/
  terminated : Bool := true
  /-- Bytes of its data, and those that its decoding takes. -/
  bytes : Nat := 0
  used : Nat := 0
  deriving DecidableEq, Repr

/-- What a unit of a bitstream holds, as its standard's syntax gives it: parameter sets, a picture's header and its slices
or tiles. What the spec derives from that the model derives (R311–R314, R325, R336–R339). -/
structure DecodeReport where
  params : List (Nat × StreamParams) := []
  kind : PictureKind := .plain
  orderKey : BitVec 32 := 0
  /-- H.264: frame_num, its modulus, and whether gaps are allowed. -/
  frameNum : Nat := 0
  maxFrameNum : Nat := 16
  gapsAllowed : Bool := false
  /-- AV1: the frame's own size. -/
  size : Option (BitVec 16 × BitVec 16) := none
  shown : Bool := true
  temporalId : BitVec 3 := 0
  /-- Order keys of the pictures that stay references, and whether this one becomes one. -/
  keep : List (BitVec 32) := []
  isRef : Bool := true
  /-- AV1: slots that the frame refreshes, and the slot of show_existing_frame. -/
  refresh : BitVec 8 := 0
  existing : Option (BitVec 3) := none
  /-- AV1: film grain is signalled. -/
  grain : Bool := false
  slices : List SliceReport := []
  /-- Bytes after the unit's last picture. -/
  rest : Nat := 0
  deriving DecidableEq, Repr

/-- What the encoder's firmware decides for a picture (R315): its size in bytes, its QP under rate control, where its
slices end, and whether the scene is steady (R332). -/
structure EncodeReport where
  bytes : Nat := 0
  qp : BitVec 6 := 0
  ends : List Nat := []
  steady : Bool := false
  deriving DecidableEq, Repr

/-- The daily measurements of R489. -/
structure WearSample where
  /-- Kind 0 per core, 0.001 %. -/
  ageing : List Int := []
  /-- Kind 6: transmit power of each lane of each fabric port, 0.01 dBm. -/
  txPower : List (List Int) := []
  deriving DecidableEq, Repr

/-- A bundle registration (R477). -/
structure BundleReg where
  slot : BitVec 4
  part : PartId
  digest : BitVec 256
  pages : List (BitVec 18)
  deriving DecidableEq, Repr

/-- What a firmware component meets while it runs (R355, R357): an access, or what the kernel hears of it. -/
inductive CompEvent where
  | load (addr len : Nat)
  | store (addr : Nat) (bytes : List Byte)
  | fetch (addr : Nat)
  | illegal
  | misaligned
  /-- A failed internal check that the component reports. -/
  | assertion
  /-- An uncorrectable word in its memory, or a poisoned line that it read. -/
  | poison
  deriving DecidableEq, Repr

/-- What an application core does through an aperture (R349, R350). -/
inductive AccessKind where
  | load (len : Nat)
  | store (bytes : List Byte)
  deriving DecidableEq, Repr

/-- How long the condition that opens the input switch has stood (µs), and the items of a store record that is being
written when the stop sequence starts (R600). -/
structure StopReport where
  us : Nat
  torn : List Nat
  deriving DecidableEq, Repr

/-- The core whose junction mean reaches 105 °C (R556), and the items of a store record that is being written then. -/
structure HotCore where
  core : CoreId
  torn : List Nat
  deriving DecidableEq, Repr

/-- Coded bytes that an encoder has made visible, and what a decoder finds when the picture starts now (R334). -/
structure PictureProgress where
  bytes : BitVec 32
  r : DecodeReport
  deriving DecidableEq, Repr

/-- What a component meets, and whether the digest of the image copied afresh for its restart matches (R358). -/
structure CompReport where
  event : CompEvent
  copyOk : Bool
  deriving DecidableEq, Repr

/-- The component whose budget is overrun (R356), and whether the digest of the image copied afresh matches (R358). -/
structure OverrunReport where
  comp : BitVec 4
  copyOk : Bool
  deriving DecidableEq, Repr

/-- Which of the three triggers of R361 takes a firmware core off, and the components whose copied image then fails its
digest. -/
structure CoreLoss where
  trigger : Nat
  badCopies : List (BitVec 4)
  deriving DecidableEq, Repr

/-- The commands, one constructor per row of spec/opcode_table.json. -/
inductive Instr where
  -- the module in its tray
  | powerBladesMate (mv : Nat)
  | presenceFilterExpiry (mv : Nat) (inlet : Int)
  | softStartComplete (r : StartReport)
  | presenceTimeout (pins : BitVec 2)
  | presenceBreak (pins : BitVec 2) (mv : Nat) (stop : StopReport)
  | trayResetAssert
  | trayResetRelease (r : StartReport)
  | trayResetHeldTimeout
  | inputOvervoltage (mv : Nat) (stop : StopReport)
  | inputOvercurrent (ma : Nat) (stop : StopReport)
  | inputSwitchReclose (mv : Nat)
  | inputLoss (mv : Nat) (stop : StopReport)
  | inputBelow40V (mv : Nat)
  | inputBelow36V (mv : Nat) (stop : StopReport)
  | inputSensorFault
  | coolantSensorFault (outlet : Bool)
  | inletWarmed (inlet : Int)
  -- time
  | ppsPulse
  | ppsStuck
  | holdoverEntry
  -- failures of units
  | d2dCrcFailure (toWest : Bool) (sameFlit : Bool)
  | d2dLaneLockLoss
  | pllLossOfLock (domain : Fin 18) (die : Die) (unit : Nat)
  | appCoreFailure (core : BitVec 4)
  | samplerFailure (die : Die)
  | securityEngineFailure (die : Die)
  | sliceFailure (die : Die) (slice : Fin 48)
  -- the tensor core
  | droopTrip (core : CoreId)
  | droopRecoveryStep (core : CoreId)
  | droopGateTimeout (core : CoreId)
  | spadPatrolRead (core : CoreId) (line : Fin 196608) (upsets : List SpadUpset)
  | matmul (q : QueueId)
  | vecop (q : QueueId)
  | copy (q : QueueId)
  | conv (q : QueueId)
  | window (q : QueueId)
  | attn (q : QueueId)
  | residueMismatch (q : QueueId) (column : BitVec 7) (residue : BitVec 2) (tileRow tileCol kchunk : Nat)
      (temp : Int)
  | selfTest (core : CoreId) (src : CmdSrc)
  | selfTestDone (core : CoreId) (failed : Nat) (temp : Int)
  | injectResidue (core : CoreId) (column : BitVec 8)
  | coreReset (core : CoreId) (src : CmdSrc)
  | coreResetDone (core : CoreId) (failed : Nat) (bankPassed : Bool)
  -- queues and credits
  | doorbellProducer (q : QueueId) (word : BitVec 32) (by_ : PartId)
  | doorbellConsumer (q : QueueId) (word : BitVec 32) (by_ : PartId)
  | descriptorDispatch (q : QueueId)
  | semaphoreTake (sem : BitVec 12)
  | descriptorComplete (q : QueueId)
  | dataSlotArrival (dq : QueueId)
  | dataCreditReturn (dq : QueueId)
  | waitTimeout (q : QueueId)
  | creditTimeout (q : QueueId)
  | dataTimeout (q : QueueId)
  | backlogTimeout (q : QueueId)
  | enable (q : QueueId)
  | pause (q : QueueId)
  | resume (q : QueueId)
  | restart (q : QueueId) (arg : Option (BitVec 32))
  | flush (q : QueueId)
  | disable (q : QueueId)
  | registerWrite (w : MgmtWrite)
  -- memory
  | translationInvalidate (p : PartId) (page : BitVec 18)
  | patrolRead (die : Die) (sub : Fin 34) (line : BitVec 27) (upsets : List LineUpset)
  | subchannelRetire (sub : SubId) (src : CmdSrc)
  | migrationPageCopied (die : Die)
  | parkioRead (q : QueueId) (lost : List Nat)
  | parkioWrite (q : QueueId)
  | parkioCreate (q : QueueId)
  | parkioDelete (q : QueueId)
  | parkioTouch (q : QueueId)
  | parkTimeout (q : QueueId)
  | objectExpiry (handle : BitVec 64)
  | parkClockSave
  | eraseObject (handle : BitVec 64)
  | eraseAll (value : Byte)
  -- attention
  | kvInvalidate (die : Die) (index : BitVec 19)
  | kvResidencyTimeout (q : QueueId)
  | kvMapSweep (die : Die)
  | kvScan (r : KvScanReq)
  -- serving
  | sessionOpen (q : QueueId)
  | sessionUpdate (q : QueueId)
  | sessionClose (q : QueueId)
  | sample (q : QueueId)
  | gload (q : QueueId)
  | gfree (q : QueueId)
  | gadvance (q : QueueId)
  -- video
  | vctxOpen (q : QueueId)
  | vctxUpdate (q : QueueId)
  | vctxClose (q : QueueId)
  | vctxDetach (q : QueueId)
  | vctxAdopt (q : QueueId)
  | decode (q : QueueId) (r : DecodeReport)
  | encode (q : QueueId) (r : EncodeReport)
  | subframeProgress (q : QueueId) (count : BitVec 15) (p : PictureProgress)
  | pictureTimeout (q : QueueId)
  | videoEngineRestart (e : EngineId)
  | videoEngineFailure (e : EngineId)
  -- firmware and mailboxes
  | componentFault (die : Die) (comp : BitVec 4) (r : CompReport)
  | budgetOverrun (die : Die) (r : OverrunReport)
  | mailboxWaitTimeout (die : Die) (mbx : BitVec 6)
  | firmwareCoreFailure (core : BitVec 3) (loss : CoreLoss)
  | mailboxReplyTimeout (die : Die) (mbx : BitVec 6)
  | hello (m : MbxSrc)
  | loadComponent (m : MbxSrc)
  | startComponent (m : MbxSrc)
  | stopComponent (m : MbxSrc)
  | componentStatus (m : MbxSrc)
  | bundleHealth (m : MbxSrc)
  | mailboxAssign (m : MbxSrc) (sparesPass : List CoreId)
  | echo (m : MbxSrc)
  | reloadRuntime (runtime : Nat)
  -- Rycia
  | ryciaHello (f : RFrame) (storeOk : Bool)
  | finish (f : RFrame)
  | handshakeTimeout (j : Fin 16)
  | keepalive (f : RFrame)
  | close (f : RFrame)
  | read (f : RFrame)
  | write (f : RFrame)
  | writeBegin (f : RFrame)
  | writeSegment (f : RFrame)
  | writeCommit (f : RFrame)
  | writeCancel (f : RFrame)
  | blockWriteTimeout (j : Fin 16) (index : BitVec 16) (sub : BitVec 8)
  | commandWindowClose (storeOk : Bool) (r : StartReport)
  | sessionIdleTimeout (j : Fin 16)
  | stateQuery (f : RFrame)
  | wake (f : RFrame) (r : StartReport)
  | credentialWrite (w : OdWrite) (storeOk : Bool)
  | ryciaSessionClose (j : Fin 16)
  | controllerPresenceExpiry (secondary : Bool)
  | controllersLost
  | gracePeriodExpiry
  -- network
  | frameReceive (port : PortId) (bytes : List Byte) (fcsOk : Bool)
  | nettx (q : QueueId)
  | netrx (q : QueueId)
  | portFailure (port : PortId) (trigger : Fin 5)
  | replayComplete (link : LinkId)
  | linkDownTimeout (link : LinkId)
  | switchOver (code : Nat)
  | plannedSwitchComplete (link : LinkId)
  | portLinkUp (port : PortId) (lanes : List LaneReading)
  | holdoffExpiry (port : PortId)
  | heartbeat (port : PortId)
  | runDiagnostics (port : PortId) (lanes : List LaneReading)
  | portReturnToService (port : PortId)
  | peerEntryExpiry (link : LinkId) (src : BitVec 16)
  | jobAbortOrdered (group : BitVec 6)
  | jobAbort (port : PortId) (groupId : BitVec 32) (token : BitVec 64)
  -- events and counters
  | eventOccurrence (die : Die) (src : BitVec 10) (level : Bool) (detail : BitVec 47)
  | coalesceTimeout (die : Die) (src : BitVec 10)
  | claim (core : IrqCore)
  | complete (core : IrqCore) (word : BitVec 32)
  | sourceControlWrite (die : Die) (src : BitVec 10) (control : BitVec 64)
  | wakeSubsetOccurrence (src : Fin 10) (level : Bool) (detail : BitVec 47) (r : StartReport)
  | counterThreshold (c : Fin 416) (by_ : Nat)
  | counterWrap (c : Fin 416) (by_ : Nat)
  | counterControlWrite (c : Fin 416) (control : BitVec 64)
  | freeze
  | freezePoint
  | freezeResume
  | snapshot
  | snapshotResume
  | inject
  -- correctness, wear and spares
  | bundleRegister (r : BundleReg)
  | bundleDeregister (slot : BitVec 4)
  | digestPassStart (slot : BitVec 4)
  | digestPassEnd (slot : BitVec 4)
  | checkNow (slot : BitVec 4)
  | reportMismatch (slot : BitVec 4)
  | reportMismatchPoison (slot : BitVec 4)
  | wearCommit
  | dailyWearSample (m : WearSample)
  | coreSwap (core : CoreId) (src : CmdSrc) (passed : Bool)
  | requalify (passed : Bool)
  -- security
  | digest (q : QueueId)
  | seal (q : QueueId)
  | openSealed (q : QueueId)
  | kemgen (q : QueueId)
  | partitionCreate (m : MbxSrc)
  | partitionScrub (p : PartId) (src : CmdSrc)
  | partitionDestroy (m : MbxSrc)
  | scrubComplete (p : PartId)
  | attestRequest (m : MbxSrc) (storeOk : Bool)
  | keyRelease (m : MbxSrc)
  | kemExpiry (p : PartId) (slot : BitVec 2)
  | debugOpen
  | debugClose
  | debugDataRead
  | debugDataWrite (bytes : List Byte)
  | dbgConnectorUse
  | lowerTreeReady
  -- power
  | drain (src : CmdSrc)
  | drainEnd (src : CmdSrc)
  | standbyRequest (src : CmdSrc)
  | parkedRequest (src : CmdSrc)
  | drainTimeout
  | drainAbort (storeOk : Bool) (r : StartReport)
  | idleEntry
  | throttleTriggerAssert (t : Trigger) (detail : BitVec 47)
  | throttleTriggerClear (t : Trigger)
  | throttleLevelRise (t : Trigger)
  | throttleLevelFall (t : Trigger)
  | thermalStop (hot : HotCore)
  | powerCapAdjust (p : PartId) (estimateMw : Nat)
  | ballastAdjust (drawMw : Nat)
  | rampHoldAdjust (drawMw : Nat) (roomMw : Nat)
  -- resets
  | modReset (src : CmdSrc) (r : StartReport)
  | warmReset (cause : Nat) (r : StartReport)
  | runtimeLoadOverrun (r : StartReport)
  | heartbeatCheck
  | prepareWarm (m : MbxSrc)
  | prepareWarmTimeout (r : StartReport)
  | returnToService (r : StartReport)
  -- updates
  | stageOpen
  | stageDiscard
  | stageArm (r : StartReport)
  | chunk (bytes : List Byte)
  | chunkDurable (index : Nat)
  | probationExpiry
  | usePrevious (r : StartReport)
  -- rows at the table's end
  | apertureAccess (die : Die) (core : BitVec 3) (addr : BitVec 48) (kind : AccessKind)
  | refreshRateChange (sub : SubId) (temp : Int)
  | thermalCycle (temp : Int)
  | trainingCacheUpdate
  | compactionEraseComplete
  | trialTimeout
  deriving DecidableEq, Repr

end Sys2Proof
end

