-- ==== Sys2Proof/Config.lean ====
section
/-!
DEFINITION. What the spec leaves open, as opaque constants: free values, the cryptographic functions it names
without defining, the approximate functions of R108, and sizes it does not give. Nothing can evaluate them.
-/
namespace Sys2Proof.Config

open Sys2Proof

/-- A byte of memory not written since its key was generated (R194): free, by key generation and address. -/
opaque freeByte : Nat → Nat → BitVec 8

/-- A fresh free number; the argument is `State.free` when it is drawn (log 1). -/
opaque freeNat : Nat → Nat

/-- A fresh free choice. -/
opaque freeBool : Nat → Bool

/-- SHA-256 (R386, R478, R522): named by the spec, not defined in it. Read as a number below 2²⁵⁶ by `sha`. -/
opaque sha256 : List (BitVec 8) → BitVec 256

/-- AES-256-GCM (R384, R522): key, IV and plaintext give the bytes of the ciphertext, and the tag. -/
opaque gcmSeal : Nat → Nat → List (BitVec 8) → Nat → BitVec 8
opaque gcmTag : Nat → Nat → List (BitVec 8) → BitVec 128
opaque gcmOpen : Nat → Nat → List (BitVec 8) → Nat → BitVec 8

/-- AES-256-XTS (IEEE 1619) of a 64-byte line (R193): key pair, tweak and data. -/
opaque xtsEncrypt : BitVec 512 → BitVec 128 → BitVec 512 → BitVec 512
opaque xtsDecrypt : BitVec 512 → BitVec 128 → BitVec 512 → BitVec 512

/-- The memory key pair of a generation (R194), as the security engine's DRBG makes it. -/
opaque memoryKey : Nat → BitVec 512

/-- The park store's keys (R215): the fused device secret, the 32-byte salt of a generation, the derivation of the module
storage key, the random key pair of an object by its internal number, the spill key of a partition by generation, AES
key wrap of a key pair and its inverse, and AES-256-XTS of a 4 KiB unit: key pair, tweak and data. -/
opaque deviceSecret : BitVec 256
opaque salt : Nat → BitVec 256
opaque storageKey : BitVec 256 → BitVec 256 → BitVec 512
opaque objectKey : Nat → BitVec 512
opaque spillKey : Nat → BitVec 512
opaque wrapPair : BitVec 512 → BitVec 512 → BitVec 576
opaque unwrapPair : BitVec 512 → BitVec 576 → Option (BitVec 512)
opaque xtsUnit : BitVec 512 → BitVec 128 → BitVec 32768 → BitVec 32768

/-- What the image header of a firmware component says of its regions (R355): a number per image digest and field. -/
opaque imageField : Nat → Nat → Nat

/-- ML-KEM (FIPS 203): the encapsulation key of a key pair, and the shared secret of a ciphertext. -/
opaque kemPublic : Nat → Nat → BitVec 8
opaque kemShared : Nat → List (BitVec 8) → BitVec 256

/-- HKDF-SHA256 (RFC 5869) and AES key wrap (NIST SP 800-38F); `none` is an integrity failure. -/
opaque hkdf : BitVec 256 → BitVec 256 → Nat → Nat
opaque keyUnwrap : Nat → List (BitVec 8) → Option Nat

/-- HSS signature bytes of the identity key with a leaf (R514). -/
opaque hssSign : Nat → List (BitVec 8) → Nat → BitVec 8

/-- Random bytes of the security engine's DRBG (R519), as free values. -/
opaque random : Nat → Nat → BitVec 8

/-- The unary functions of R108 in FP32 (by vop code 0x10–0x18), accurate within the stated ULPs and otherwise
open: results as FP32 bits of FP32 bits. -/
opaque approx : Nat → BitVec 32 → BitVec 32

/-- Bytes a codec engine writes (R311, R312): of a picture's descriptor and position. -/
opaque codecByte : Nat → Nat → BitVec 8

/-- Payload bytes of an encoder's parameter set (R312, R328): of the level, the context's descriptor, the set and the
position. -/
opaque paramByte : Nat → Nat → Nat → Nat → BitVec 8

/-- The link-local IPv6 address of ports A and B (R382), set at manufacture, as a little-endian number. -/
opaque linkLocal : Nat → Nat

/-- Bytes of an item in a store commit (R595 gives the largest sizes only). -/
opaque itemBytes : Nat → Nat → Nat

end Sys2Proof.Config
end

