-- ==== Sys2Proof/Machine/Flags.lean ====
section
/-!
DEFINITION. The arithmetic flags of R98, as the 8-bit field of the completion record.
-/
namespace Sys2Proof.Machine

open Sys2Proof

def flNanOut : Nat := 1
def flInfOut : Nat := 2
def flSat : Nat := 4
def flScaleClamp : Nat := 8
def flNanIn : Nat := 16
def flTri2 : Nat := 32

/-- The OR of flags over elements (R98). -/
def orFlags (xs : List Nat) : Nat := xs.foldl (· ||| ·) 0

end Sys2Proof.Machine
end

