-- ==== Sys2Proof/Machine/Formats.lean ====
section
/-!
DEFINITION. Number formats (03 R77–R98): exact values, decoding of elements and scales, rounding, saturation, block
scales, conversion.
-/
namespace Sys2Proof.Machine

open Sys2Proof

/-! ### Exact values -/

/-- A value that a format holds, or that an operation forms exactly: ±m × 2ᵉ. -/
inductive XVal where
  | nan
  | inf (neg : Bool)
  | fin (neg : Bool) (m : Nat) (e : Int)
  deriving DecidableEq, Repr

def XVal.zero : XVal := .fin false 0 0
def XVal.ofInt (i : Int) : XVal := .fin (decide (i < 0)) i.natAbs 0

def XVal.isNan : XVal → Bool
  | .nan => true
  | _ => false

def XVal.isInf : XVal → Bool
  | .inf _ => true
  | _ => false

def XVal.isZero : XVal → Bool
  | .fin _ 0 _ => true
  | _ => false

def XVal.special (x : XVal) : Bool := x.isNan || x.isInf

def XVal.neg : XVal → XVal
  | .nan => .nan
  | .inf n => .inf !n
  | .fin n m e => .fin (!n) m e

/-- A signed multiple of 2ᵘ, for a value whose exponent is at least u. -/
def signedAt (u : Int) (neg : Bool) (m : Nat) (e : Int) : Int :=
  let v : Int := (m * 2 ^ (e - u).toNat : Nat)
  if neg then -v else v

/-- Exact addition with the IEEE rules for zeros and special values (R104, R107). -/
def XVal.add : XVal → XVal → XVal
  | .nan, _ => .nan
  | _, .nan => .nan
  | .inf a, .inf b => if a = b then .inf a else .nan
  | .inf a, _ => .inf a
  | _, .inf b => .inf b
  | .fin a m e, .fin b n f =>
    let u := if e < f then e else f
    let v := signedAt u a m e + signedAt u b n f
    if v = 0 then .fin (a && b) 0 0 else .fin (decide (v < 0)) v.natAbs u

/-- Exact multiplication. -/
def XVal.mul : XVal → XVal → XVal
  | .nan, _ => .nan
  | _, .nan => .nan
  | .inf a, .inf b => .inf (a != b)
  | .inf a, .fin b m _ => if m = 0 then .nan else .inf (a != b)
  | .fin a m _, .inf b => if m = 0 then .nan else .inf (a != b)
  | .fin a m e, .fin b n f => .fin (a != b) (m * n) (e + f)

/-- A quotient kept to at least 64 significant bits with a sticky bit, so that one rounding of it is the rounding of the
exact quotient. -/
def XVal.div : XVal → XVal → XVal
  | .nan, _ => .nan
  | _, .nan => .nan
  | .inf _, .inf _ => .nan
  | .inf a, .fin b _ _ => .inf (a != b)
  | .fin a _ _, .inf b => .fin (a != b) 0 0
  | .fin a m e, .fin b n f =>
    if n = 0 then (if m = 0 then .nan else .inf (a != b))
    else
      let k := 64 + Nat.log2 (n + 1)
      let q := m * 2 ^ k / n
      let sticky := if m * 2 ^ k % n = 0 then 0 else 1
      .fin (a != b) (2 * q + sticky) (e - f - k - 1)

/-- a < b for numbers, with −0 below +0 (maximum and minimum of R107). -/
def XVal.below (x y : XVal) : Bool :=
  match x, y with
  | .inf a, .inf b => a && !b
  | .inf a, _ => a
  | _, .inf b => !b
  | .fin a m e, .fin b n f =>
    let u := if e < f then e else f
    let v := signedAt u a m e
    let w := signedAt u b n f
    if v = 0 && w = 0 then a && !b else decide (v < w)
  | _, _ => false

/-- Maximum and minimum: a NaN operand gives NaN (R107). -/
def XVal.max (x y : XVal) : XVal := if x.isNan || y.isNan then .nan else if x.below y then y else x
def XVal.min (x y : XVal) : XVal := if x.isNan || y.isNan then .nan else if y.below x then y else x

/-! ### Format codes (R77) -/

/-- Element bits. -/
def fmtBits (f : Nat) : Nat :=
  match f with
  | 0 | 13 => 32
  | 1 | 2 | 12 => 16
  | 3 | 4 | 5 | 9 | 10 => 8
  | 6 | 7 => 6
  | 8 | 11 => 4
  | 14 => 2
  | _ => 0

/-- Block elements; 0 for a format without a block scale. -/
def fmtBlock (f : Nat) : Nat := if 5 ≤ f && f ≤ 9 then 32 else if f = 14 then 64 else 0

def fmtIsInt (f : Nat) : Bool := 10 ≤ f && f ≤ 13

/-- Accepted as a vector operand and as a destination: all but TRI2 and the reserved code. -/
def fmtVector (f : Nat) : Bool := f ≤ 13

/-- Accepted as matrix A, and as matrix B. -/
def fmtMatrixA (f : Nat) : Bool := 1 ≤ f && f ≤ 11
def fmtMatrixB (f : Nat) : Bool := (1 ≤ f && f ≤ 11) || f = 14

/-! ### Floating-point elements (R78–R80) -/

/-- What the top exponent holds: infinities and NaNs, E4M3's one NaN significand, or numbers only. -/
inductive FloatTop where
  | ieee | one | none
  deriving DecidableEq, Repr

structure FloatFmt where
  eb : Nat
  sb : Nat
  bias : Int
  top : FloatTop
  /-- Code of the largest finite magnitude, and of the canonical NaN. -/
  max : Nat
  nan : Nat

def fp32 : FloatFmt := ⟨8, 23, 127, .ieee, 0x7F7FFFFF, 0x7FC00000⟩
def fp16 : FloatFmt := ⟨5, 10, 15, .ieee, 0x7BFF, 0x7E00⟩
def bf16 : FloatFmt := ⟨8, 7, 127, .ieee, 0x7F7F, 0x7FC0⟩
def e4m3 : FloatFmt := ⟨4, 3, 7, .one, 0x7E, 0x7F⟩
def e5m2 : FloatFmt := ⟨5, 2, 15, .ieee, 0x7B, 0x7E⟩
def e3m2 : FloatFmt := ⟨3, 2, 3, .none, 0x1F, 0⟩
def e2m3 : FloatFmt := ⟨2, 3, 1, .none, 0x1F, 0⟩
def e2m1 : FloatFmt := ⟨2, 1, 1, .none, 7, 0⟩

/-- The floating-point layout of an element, where it has one. -/
def floatFmt (f : Nat) : Option FloatFmt :=
  match f with
  | 0 => some fp32
  | 1 => some fp16
  | 2 => some bf16
  | 3 | 5 => some e4m3
  | 4 => some e5m2
  | 6 => some e3m2
  | 7 => some e2m3
  | 8 => some e2m1
  | _ => none

def FloatFmt.decode (f : FloatFmt) (c : Nat) : XVal :=
  let neg := bitOf c (f.eb + f.sb)
  let ex := fld c f.sb f.eb
  let sig := fld c 0 f.sb
  let ones := decide (ex = 2 ^ f.eb - 1)
  if ones && f.top = .ieee then (if sig = 0 then .inf neg else .nan)
  else if ones && f.top = .one && sig = 2 ^ f.sb - 1 then .nan
  else if ex = 0 then .fin neg sig (1 - f.bias - f.sb)
  else .fin neg (2 ^ f.sb + sig) (ex - f.bias - f.sb)

/-! ### Rounding (R90–R92) -/

/-- A rounding mode with the draw of stochastic rounding. -/
inductive Round where
  | nearest
  | stochastic (r : Nat)
  | zero
  deriving DecidableEq, Repr

/-- The draw of R92. -/
def draw (seed seq idx : Nat) : Nat :=
  let w := 2 ^ 64
  let z := (seed + seq * 0x9e3779b97f4a7c15 + idx * 0xbf58476d1ce4e5b9) % w
  let z := ((z ^^^ (z >>> 30)) * 0xbf58476d1ce4e5b9) % w
  let z := ((z ^^^ (z >>> 27)) * 0x94d049bb133111eb) % w
  (z ^^^ (z >>> 31)) % 65536

/-- The magnitude m × 2ᵉ in whole units of 2ᵘ. -/
def Round.units (mode : Round) (m : Nat) (e u : Int) : Nat :=
  if u ≤ e then m * 2 ^ (e - u).toNat
  else
    let k := (u - e).toNat
    let q := m / 2 ^ k
    let rem := m % 2 ^ k
    match mode with
    | .nearest => if 2 ^ k < 2 * rem || (2 * rem = 2 ^ k && q % 2 = 1) then q + 1 else q
    | .stochastic r => if 65536 ≤ rem * 65536 / 2 ^ k + r then q + 1 else q
    | .zero => q

/-- The magnitude code of a finite value, none where it overflows: judged after rounding with an unbounded exponent
(R93). -/
def FloatFmt.magnitude (f : FloatFmt) (mode : Round) (m : Nat) (e : Int) : Option Nat :=
  if m = 0 then some 0
  else
    let low : Int := 1 - f.bias - f.sb
    let top : Int := (Nat.log2 m : Int) + e - f.sb
    let u := if top < low then low else top
    let q := mode.units m e u
    let c := if u = low then q else (u - low).toNat * 2 ^ f.sb + q
    if c ≤ f.max then some c else none

def FloatFmt.signed (f : FloatFmt) (neg : Bool) (c : Nat) : Nat := c + at' (f.eb + f.sb) (b2n neg)

/-- A value written to a floating-point destination without a block scale, with the flags it sets (R93, R98). -/
def FloatFmt.encode (f : FloatFmt) (sat : Bool) (mode : Round) : XVal → Nat × Nat
  | .nan => (f.nan, flNanOut)
  | .inf neg =>
    if sat then (f.signed neg f.max, flSat)
    else if f.top = .ieee then (f.signed neg (f.max + 1), flInfOut)
    else (f.nan, flNanOut)
  | .fin neg m e =>
    match f.magnitude mode m e with
    | some c => (f.signed neg c, 0)
    | none =>
      if sat then (f.signed neg f.max, flSat)
      else if f.top = .ieee then (f.signed neg (f.max + 1), flInfOut)
      else (f.nan, flNanOut)

/-- One rounding to nearest in a format, as a value (R107). -/
def FloatFmt.round (f : FloatFmt) (x : XVal) : XVal := f.decode (f.encode false .nearest x).1

/-- A value written to an integer destination of w bits (R81, R93, R96). -/
def encodeInt (w : Nat) (mode : Round) : XVal → Nat × Nat
  | .nan => (0, flSat)
  | .inf neg => (if neg then 2 ^ (w - 1) else 2 ^ (w - 1) - 1, flSat)
  | .fin neg m e =>
    let q := mode.units m e 0
    if neg then (if 2 ^ (w - 1) < q then (2 ^ (w - 1), flSat) else (ofSigned w (-(q : Int)), 0))
    else if 2 ^ (w - 1) - 1 < q then (2 ^ (w - 1) - 1, flSat) else (q, 0)

/-! ### Decoding elements and scales (R81–R87) -/

/-- An element's value before its block scale. -/
def elemVal (f c : Nat) : XVal :=
  match floatFmt f with
  | some x => x.decode c
  | none =>
    if f = 9 then let i := toSigned 8 c; .fin (decide (i < 0)) i.natAbs (-6)
    else if f = 14 then (match c with | 1 => .fin false 1 0 | 3 => .fin true 1 0 | _ => .zero)
    else XVal.ofInt (toSigned (fmtBits f) c)

/-- A block scale: E8M0, or E4M3 for TRI2. -/
def scaleVal (f c : Nat) : XVal :=
  if f = 14 then e4m3.decode c else if c = 255 then .nan else .fin false 1 ((c : Int) - 127)

/-- Flags that reading an element sets. -/
def readFlags (f c : Nat) : Nat :=
  if f = 14 then (if c = 2 then flTri2 else 0) else if (elemVal f c).isNan then flNanIn else 0

/-! ### Block destinations (R88, R89) -/

/-- The exponent E of the floor rule. -/
def blockE (f : Nat) : Int :=
  match f with
  | 5 => 8 | 6 => 4 | 7 => 2 | 8 => 2 | _ => 0

/-- The largest finite magnitude M of an element, as m × 2ᵉ. -/
def blockMax (f : Nat) : Nat × Int :=
  match f with
  | 5 => (448, 0) | 6 => (28, 0) | 7 => (15, -1) | 8 => (6, 0) | _ => (127, -6)

/-- m × 2ᵉ ≤ n × 2ᶠ. -/
def magLe (m : Nat) (e : Int) (n : Nat) (f : Int) : Bool :=
  let u := if e < f then e else f
  decide (m * 2 ^ (e - u).toNat ≤ n * 2 ^ (f - u).toNat)

/-- The largest magnitude among finite elements. -/
def maxMag : List XVal → Nat × Int
  | [] => (0, 0)
  | .fin _ m e :: xs => let (n, f) := maxMag xs; if magLe m e n f then (n, f) else (m, e)
  | _ :: xs => maxMag xs

/-- The scale exponent before clamping, of a non-zero largest magnitude. -/
def scaleExp (f rule m : Nat) (e : Int) : Int :=
  let top : Int := (Nat.log2 m : Int) + e
  if rule = 0 then top - blockE f
  else
    let (n, k) := blockMax f
    let x := top - ((Nat.log2 n : Int) + k)
    if magLe m e n (k + (x - 1)) then x - 1 else if magLe m e n (k + x) then x else x + 1

/-- One element of a block, divided by 2ˣ: its code, with the sat flag where it saturates. -/
def blockElem (f : Nat) (mode : Round) (x : Int) : XVal → Nat × Nat
  | .fin neg m e =>
    match floatFmt f with
    | some g =>
      (match g.magnitude mode m (e - x) with
       | some c => (g.signed neg c, 0)
       | none => (g.signed neg g.max, flSat))
    | none =>
      let q := mode.units m (e - x) (-6)
      if 127 < q then (ofSigned 8 (if neg then -127 else 127), flSat)
      else (ofSigned 8 (if neg then -(q : Int) else q), 0)
  | _ => (0, 0)

/-- A block written in format f: scale byte, element codes and flags. -/
def encodeBlock (f rule : Nat) (xs : List (XVal × Round)) : Nat × List Nat × Nat :=
  let vals := xs.map (·.1)
  if vals.any XVal.special then (255, xs.map (fun _ => 0), flNanOut)
  else
    let (m, e) := maxMag vals
    if m = 0 then
      let cs := xs.map (fun x => blockElem f x.2 0 x.1)
      (127, cs.map (·.1), 0)
    else
      let x := scaleExp f rule m e
      let (x, fl) := if x < -127 then ((-127 : Int), flScaleClamp) else if 127 < x then (127, flScaleClamp) else (x, 0)
      let cs := xs.map (fun y => blockElem f y.2 x y.1)
      ((x + 127).toNat, cs.map (·.1), orFlags (fl :: cs.map (·.2)))

/-! ### Conversion control (R94) and rows -/

def cvSat (c : Nat) : Bool := bitOf c 4
def cvRule (c : Nat) : Nat := fld c 2 2
def cvRound (c : Nat) : Nat := fld c 0 2

/-- The codes 0x33 and 0x34 for a destination, or 0 (R88, R90). -/
def convCheck (conv dst : Nat) : Nat :=
  if cvRound conv = 3 || (cvRound conv = 2 && !(fmtIsInt dst || dst = 9)) then 0x33
  else if fmtBlock dst ≠ 0 && 2 ≤ cvRule conv then 0x34
  else 0

/-- The rounding of an element by its index in the output (R92). -/
def cvMode (conv seed seq idx : Nat) : Round :=
  match cvRound conv with
  | 1 => .stochastic (draw seed seq idx)
  | 2 => .zero
  | _ => .nearest

/-- Bytes of a row of n elements, and of its scales (R84–R86). -/
def rowBytes (f n : Nat) : Nat :=
  let b := fmtBlock f
  if b = 0 then ceilDiv (n * fmtBits f) 8 else ceilDiv n b * (b * fmtBits f / 8)
def scaleBytes (f n : Nat) : Nat := if fmtBlock f = 0 then 0 else ceilDiv n (fmtBlock f)

/-- Codes of w bits packed from the least significant bit (R84). -/
def packCodes (w : Nat) : List Nat → Nat
  | [] => 0
  | c :: cs => c % 2 ^ w + 2 ^ w * packCodes w cs

/-- Cut a list into runs of n. -/
def runs {α : Type} (n : Nat) : Nat → List α → List (List α)
  | 0, _ => []
  | _ + 1, [] => []
  | k + 1, xs => xs.take n :: runs n k (xs.drop n)

/-- A row written in a format (R95): element bytes, scale bytes, flags. `idx` is the linear index of its first
element. -/
def encodeRow (f conv seed seq idx : Nat) (vals : List XVal) : List Byte × List Byte × Nat :=
  let xs := (List.zipIdx vals).map (fun x => (x.1, cvMode conv seed seq (idx + x.2)))
  let n := vals.length
  if fmtBlock f = 0 then
    let cs := xs.map (fun x => match floatFmt f with
      | some g => g.encode (cvSat conv) x.2 x.1
      | none => encodeInt (fmtBits f) x.2 x.1)
    (leBytes (rowBytes f n) (packCodes (fmtBits f) (cs.map (·.1))), [], orFlags (cs.map (·.2)))
  else
    let bs := (runs 32 (n + 1) xs).map (encodeBlock f (cvRule conv))
    let codes := bs.flatMap (fun b => b.2.1 ++ List.replicate (32 - b.2.1.length) 0)
    (leBytes (rowBytes f n) (packCodes (fmtBits f) codes), bs.map (fun b => BitVec.ofNat 8 b.1),
      orFlags (bs.map (fun b => b.2.2)))

/-- A row as read: element values before scales, scales, flags (R86: elements beyond the row are not read). -/
structure Row where
  elems : List XVal
  scales : List XVal
  flags : Nat

/-- Decode a row of n elements from its bytes and its scale bytes. -/
def decodeRow (f n : Nat) (bytes scales : List Byte) : Row :=
  let v := leNat bytes
  let w := fmtBits f
  let cs := (upto n).map (fun i => fld v (w * i) w)
  let sc := scales.map (fun b => scaleVal f b.toNat)
  { elems := cs.map (elemVal f), scales := sc
    flags := orFlags (cs.map (readFlags f)) ||| (if sc.any XVal.isNan then flNanIn else 0) }

/-- Elements with their block scales applied, exactly. -/
def Row.values (x : Row) (f : Nat) : List XVal :=
  let b := fmtBlock f
  if b = 0 then x.elems
  else (List.zipIdx x.elems).map (fun e => e.1.mul (x.scales.getD (e.2 / b) .nan))

end Sys2Proof.Machine
end

