-- ==== Sys2Proof/Machine/Approx.lean ====
section
/-!
DEFINITION. The approximate functions of the vector engine (03 R108): each one's value in fixed point of 2⁻²⁰⁰, which
has at least 16 more exact bits than FP32 wherever an FP32 result has a ULP, and the bound that a result must keep.
-/
namespace Sys2Proof.Machine

open Sys2Proof

/-! ### Fixed point -/

/-- Fraction bits. -/
def fxBits : Nat := 200

def fxOne : Int := 2 ^ fxBits
def fxMul (a b : Int) : Int := a * b / 2 ^ fxBits
def fxDiv (a b : Int) : Int := a * 2 ^ fxBits / b

/-- A number of FP32 in fixed point, exactly: every FP32 number is a multiple of 2⁻¹⁴⁹. -/
def fxOf (neg : Bool) (m : Nat) (e : Int) : Int := signedAt (-200) neg m e

def fxVal (v : Int) : XVal := .fin (decide (v < 0)) v.natAbs (-200)

/-- t + t × f 1 + t × f 1 × f 2 + …: a series of n further terms, each from the one before. -/
def fxSeries (f : Nat → Int → Int) : Nat → Nat → Int → Int
  | 0, _, t => t
  | n + 1, k, t => t + fxSeries f n (k + 1) (f k t)

def fxPi : Int := 0x3243F6A8885A308D313198A2E03707344A4093822299F31D008

/-- exp x of |x| ≤ 128: the series at x ÷ 2¹⁰, squared ten times. -/
def fxExp (x : Int) : Int :=
  let y := x / 1024
  (upto 10).foldl (fun v _ => fxMul v v) (fxSeries (fun k t => fxMul t y / k) 40 1 fxOne)

/-- z ÷ (2k + 1) + z w ÷ (2k + 3) + …: n terms. -/
def fxOdd (w : Int) : Nat → Nat → Int → Int
  | 0, _, _ => 0
  | n + 1, k, z => z / (2 * k + 1 : Nat) + fxOdd w n (k + 1) (fxMul z w)

/-- 2 × artanh z of |z| ≤ 1/3. -/
def fxLogOf (z : Int) : Int := 2 * fxOdd (fxMul z z) 64 0 z

/-- The natural logarithm of m × 2ᵉ, m ≠ 0. -/
def fxLog (m : Nat) (e : Int) : Int :=
  let k := Nat.log2 m
  let a : Int := (m : Int) * 2 ^ (fxBits - k)
  fxLogOf (fxDiv (a - fxOne) (a + fxOne)) + (e + k) * fxLogOf (fxOne / 3)

/-- sin and cos of |x| ≤ 1. -/
def fxSin (x : Int) : Int := fxSeries (fun k t => -(fxMul (fxMul t x) x / ((2 * k) * (2 * k + 1) : Nat))) 30 1 x
def fxCos (x : Int) : Int := fxSeries (fun k t => -(fxMul (fxMul t x) x / ((2 * k - 1) * (2 * k) : Nat))) 30 1 fxOne

/-- sin (x + n × π ÷ 2) of |x| ≤ 2¹⁶. -/
def fxTurn (x : Int) (n : Int) : Int :=
  let k := (2 * x + fxPi / 2) / fxPi
  let r := x - k * fxPi / 2
  match ((k + n) % 4).toNat with
  | 0 => fxSin r
  | 1 => fxCos r
  | 2 => -(fxSin r)
  | _ => -(fxCos r)

/-- The square root of n, rounded down, from bit b. -/
def isqrt (n : Nat) : Nat → Nat → Nat
  | 0, acc => acc
  | b + 1, acc => isqrt n b (if (acc + 2 ^ b) * (acc + 2 ^ b) ≤ n then acc + 2 ^ b else acc)

/-- erf x of 0 ≤ x ≤ 6: 2 ÷ √π × exp(−x²) × the sum of 2ᵏ x²ᵏ⁺¹ ÷ (2k + 1)!!. -/
def fxErf (x : Int) : Int :=
  let s := fxSeries (fun k t => 2 * fxMul (fxMul t x) x / (2 * k + 1 : Nat)) 300 1 x
  2 * fxDiv (fxMul s (fxExp (-(fxMul x x)))) (isqrt (fxPi * 2 ^ fxBits).toNat 202 0)

/-- 1 ÷ √(m × 2ᵉ), to at least 64 significant bits. -/
def rsqrtOf (m : Nat) (e : Int) : XVal :=
  let m' := if e % 2 = 0 then m else 2 * m
  let k := 64 + Nat.log2 (m' + 1)
  .fin false (isqrt (2 ^ (2 * k) / m') (k + 1) 0) (-(k : Int) - e / 2)

/-! ### The functions -/

/-- Larger than any finite FP32 number, and smaller than half its least one. -/
def xHuge : XVal := .fin false 1 200
def xTiny : XVal := .fin false 1 (-200)

def XVal.above (x : XVal) (n : Nat) : Bool := (XVal.fin false n 0).below x
def XVal.under (x : XVal) (n : Nat) : Bool := x.below (.fin true n 0)

def expOf (neg : Bool) (m : Nat) (e : Int) : XVal :=
  let x : XVal := .fin neg m e
  if x.above 128 then xHuge else if x.under 128 then xTiny else fxVal (fxExp (fxOf neg m e))

def tanhOf (neg : Bool) (m : Nat) (e : Int) : XVal :=
  let x : XVal := .fin false m e
  if x.above 60 then .fin neg 1 0
  else
    let t := fxExp (2 * fxOf false m e)
    let v := fxVal (fxDiv (t - fxOne) (t + fxOne))
    if neg then v.neg else v

def sigmoidOf (neg : Bool) (m : Nat) (e : Int) : XVal :=
  let x : XVal := .fin neg m e
  if x.above 128 then .fin false 1 0
  else if x.under 128 then xTiny
  else let t := fxExp (-(fxOf false m e)); fxVal (if neg then fxDiv t (fxOne + t) else fxDiv fxOne (fxOne + t))

def erfOf (neg : Bool) (m : Nat) (e : Int) : XVal :=
  let x : XVal := .fin false m e
  if x.above 6 then .fin neg 1 0
  else let v := fxVal (fxErf (fxOf false m e)); if neg then v.neg else v

/-- sin, and with n = 1 cos, on |x| ≤ 2¹⁶. -/
def turnOf (n : Int) (neg : Bool) (m : Nat) (e : Int) : Option XVal :=
  if (XVal.fin false m e).above 65536 then none else some (fxVal (fxTurn (fxOf neg m e) n))

/-- A function's value at a number: exact, or close enough to tell an error of ULPs; none outside its domain. -/
def funOf (op : Nat) (neg : Bool) (m : Nat) (e : Int) : Option XVal :=
  match op with
  | 0x10 => some (expOf neg m e)
  | 0x11 => if neg || m = 0 then none else some (fxVal (fxLog m e))
  | 0x12 => if m = 0 then none else some ((XVal.fin false 1 0).div (.fin neg m e))
  | 0x13 => if neg || m = 0 then none else some (rsqrtOf m e)
  | 0x14 => some (tanhOf neg m e)
  | 0x15 => some (sigmoidOf neg m e)
  | 0x16 => some (erfOf neg m e)
  | 0x17 => turnOf 0 neg m e
  | 0x18 => turnOf 1 neg m e
  | _ => none

/-- A function's limit at an infinity, where it has one (log 53). -/
def edgeOf (op : Nat) (neg : Bool) : Option XVal :=
  match op with
  | 0x10 => some (if neg then .zero else .inf false)
  | 0x11 => if neg then none else some (.inf false)
  | 0x12 => some (.fin neg 0 0)
  | 0x13 => if neg then none else some .zero
  | 0x14 | 0x16 => some (.fin neg 1 0)
  | 0x15 => some (if neg then .zero else .fin false 1 0)
  | _ => none

/-- A function's value at any operand; NaN where the operand is (R79). -/
def trueOf (op : Nat) : XVal → Option XVal
  | .nan => some .nan
  | .inf neg => edgeOf op neg
  | .fin neg m e => funOf op neg m e

/-! ### The bound (R108) -/

/-- The FP32 bound of a function, in ULPs. -/
def ulpBound (op : Nat) : Nat :=
  match op with
  | 0x12 | 0x13 => 1
  | 0x14 | 0x15 | 0x16 => 3
  | _ => 2

/-- The exponent of one ULP of a number in FP32. -/
def ulp32 (m : Nat) (e : Int) : Int :=
  let u := (Nat.log2 m : Int) + e - 23
  if m = 0 || u < -149 then -149 else u

/-- An FP32 result as a number: an infinity counts as the number after the largest finite one. -/
def asNumber : XVal → XVal
  | .inf neg => .fin neg 1 128
  | x => x

/-- r lies within `b` ULPs of the value v, a ULP being that of the larger of the two (log 53). -/
def ulpNear (b : Nat) (v r : XVal) : Bool :=
  match v, asNumber r with
  | .fin a m e, .fin c n f =>
    (match (XVal.fin a m e).add (.fin (!c) n f) with
     | .fin _ k g =>
       let u := if ulp32 m e < ulp32 n f then ulp32 n f else ulp32 m e
       magLe k g (b * 65536 + 1) (u - 16)
     | _ => false)
  | _, _ => false

/-- A function of R108 in FP32: an opaque number within the bound; one outside it counts as the correctly rounded
value. Where the spec states no value, the number is free. -/
def approx32 (op : Nat) (x : XVal) : XVal :=
  let r := fp32.decode (Config.approx op (BitVec.ofNat 32 (fp32.encode false .nearest x).1)).toNat
  match trueOf op x with
  | none => r
  | some v => if ulpNear (ulpBound op) v r then r else fp32.round v

def exp32 (x : XVal) : XVal := approx32 0x10 x
def rsqrt32 (x : XVal) : XVal := approx32 0x13 x

end Sys2Proof.Machine
end

