-- ==== Sys2Proof/Machine/Parts.lean ====
section
/-!
DEFINITION. The parts of the module's state, as plain data: memories, queues, cores, partitions, sessions,
the event controllers, the stores. `Machine/State.lean` puts them together.
-/
namespace Sys2Proof.Machine

open Sys2Proof

/-! ### Memory -/

/-- What a byte that nothing lists reads as: a free byte of the key it was never written under (R194), or zero
(R63, R577). -/
inductive Fill where
  | unwritten (key : Nat)
  | zeros
  deriving DecidableEq, Repr

/-- A byte memory with poison marks on its 64-byte lines (R118, R192): `cells` rises strictly by address, and a
memory of fill `zeros` lists no zero byte; `poison` rises strictly by line. -/
structure Mem where
  fill : Fill := .zeros
  cells : List Host.Cell := []
  poison : List Nat := []
  deriving DecidableEq, Repr

/-! ### Time (14) -/

/-- The PPS states of R446. -/
inductive Pps where
  | none | locked | slewing | holdover
  deriving DecidableEq, Repr

structure Time where
  /-- The 96-bit value of R440: counts of 4 ns above 32 fraction bits. -/
  base : BitVec 96 := 0
  /-- The rate correction d in units of 2⁻³² (R440). -/
  rate : Int := 0
  /-- The raw count of TIME cycles (before R443). -/
  raw : Nat := 0
  /-- The last accepted raw intervals, newest first, at most 16 (R445). -/
  intervals : List Nat := []
  /-- The frequency estimate f = fNum / fDen (R445). -/
  fNum : Int := 0
  fDen : Nat := 1
  /-- Raw counts of the last accepted and the last filtered pulse (R443). -/
  lastAccepted : Option Nat := Option.none
  lastPassed : Option Nat := Option.none
  pps : Pps := .none
  /-- e of the last accepted pulse in nanoseconds (R444). -/
  phase : Int := 0
  holdSince : Nat := 0
  /-- The first accepted pulse may still step (R447). -/
  mayStep : Bool := true
  stuck : Bool := false
  /-- Time since the last whole second of the park clock, in 1 ÷ 32,768 of a raw cycle (R213). -/
  sub : Nat := 0
  /-- N of R450, measured at the last entry to PARKED. -/
  crystal : Nat := 250000000
  deriving DecidableEq, Repr

/-! ### The tray (01) -/

/-- Where the power sequence of R29, R26, R35 and R563 stands. -/
inductive TrayPhase where
  /-- No input power. -/
  | unpowered
  /-- The islands run on the auxiliary converter; the switch is open, waiting for presence (R29 steps 2–4). -/
  | waitPresence
  /-- R47: presence is met, the inlet is below 2 °C. -/
  | waitInlet
  /-- Step 5 of R29: soft start. -/
  | softStart
  /-- Power is up. -/
  | on
  /-- The switch opened (R26, R563); the islands run. -/
  | switchOpen
  /-- R35: tray_reset_n held for 30 s. -/
  | heldOff
  deriving DecidableEq, Repr

/-- Why the input switch stands open (R26, R33, R556). -/
inductive OpenCause where
  | overvoltage | overcurrent | inputLow | inputLost | withdrawn
  deriving DecidableEq, Repr

structure Tray where
  phase : TrayPhase := .softStart
  present1 : Bool := true
  present2 : Bool := true
  inputMv : Nat := 48000
  inputMa : Nat := 0
  /-- Filtered coolant readings in 0.01 °C (R48). -/
  inlet : Int := 2500
  outlet : Int := 3000
  inputFault : Bool := false
  inletFault : Bool := false
  outletFault : Bool := false
  /-- tray_reset_n as filtered (R34). -/
  resetLow : Bool := false
  /-- R35: its record of the present low is written. -/
  heldRecorded : Bool := false
  openCause : Option OpenCause := Option.none
  /-- Cause codes of the last stop sequence, first cause first (R43). -/
  causes : List Nat := []
  connectorRecorded : Bool := false
  /-- Junction temperature per core in 0.01 °C, as last sampled (R556). -/
  junction : AMap Int := []
  deriving DecidableEq, Repr

/-! ### Module state, resets (00, 18, 19) -/

/-- The states of R11. -/
inductive Mode where
  | off | boot | train | awaitRuntime | ready | serving | draining | standby | parked | recovery | refused
  | outOfService
  deriving DecidableEq, Repr

/-- Entry to DRAINING, STANDBY or PARKED in progress (R551). -/
structure Entry where
  /-- `draining` for a plain drain, else `standby` or `parked`. -/
  target : Mode
  /-- The step of R551 reached: 1 or 2. -/
  step : Nat
  since : Nat
  /-- Ordered by the end of a grace period (R566). -/
  byGrace : Bool := false
  /-- Ends in OUT_OF_SERVICE (R76, R361) with this reason of OD 0x2004.05. -/
  oos : Nat := 0
  /-- Ends in a WARM reset (R612, window ended without health). -/
  thenWarm : Bool := false
  deriving DecidableEq, Repr

inductive ResetKind where
  | pwr | mod | warm | part | core
  deriving DecidableEq, Repr

/-- A reset history record (R589). -/
structure HistRec where
  clock : Nat
  time : Nat
  kind : ResetKind
  cause : Nat
  unit : Nat := 255
  counted : Bool
  merged : Bool := false
  sampled : Bool := false
  fullTraining : Bool := false
  cleared : Bool := false
  sample : Nat := 0
  deriving DecidableEq, Repr

/-- A pre-reset sample (R581, R582). -/
structure Sample where
  no : Nat
  time : Nat
  cause : Nat
  absent : Bool := false
  /-- Its place in the order in which the region took samples and records (R208). -/
  stamp : Nat := 0
  omitted : Bool := false
  abandoned : Bool := false
  offset : Nat := 0
  /-- Core number and its 4 KiB, as a little-endian number; cores not listed are zeros. -/
  spads : AMap Nat := []
  /-- The 32-byte queue entries, as little-endian numbers. -/
  queues : List Nat := []
  /-- Slot number 64 × (64 × die + mailbox) + slot (outbound from 32) and its 512 bits, non-zero ones. -/
  mbx : AMap Nat := []
  deriving DecidableEq, Repr

structure Rst where
  /-- A WARM reset is due, with its cause code of R592. -/
  due : Option Nat := Option.none
  /-- The reset running from its trigger until READY, REFUSED, RECOVERY or OUT_OF_SERVICE. -/
  running : Option (ResetKind × Nat) := some (.pwr, 1)
  /-- A stop sequence took over from a reset whose history record is written (R588). -/
  recorded : Bool := false
  history : List HistRec := []
  oos : Bool := false
  oosReason : Nat := 0
  /-- Timebase of the PREPARE_WARM reply, and the number of its sample (R583). -/
  prepared : Option Nat := Option.none
  sampleNo : Nat := 0
  /-- Last heartbeat value the driver read, and the timebase since when it reads the same (R579). -/
  beat : Nat := 0
  beatSince : Nat := 0
  awaitSince : Nat := 0
  trialSince : Nat := 0
  /-- Another trigger merged into the WARM reset that is due (R587, R588). -/
  merged : Bool := false
  deriving DecidableEq, Repr

/-! ### Tensor cores (04) -/

/-- Roles of OD 0x2110 + n.01. -/
inductive CoreRole where
  | inService | spare | retired | selfTest | resetting
  deriving DecidableEq, Repr

/-- Held tiles (R124): shape, formats, reduction count and the accumulators, row by row. -/
structure Held where
  m : Nat
  n : Nat
  aFmt : Nat
  bFmt : Nat
  kDone : Nat
  acc : List (List Nat)
  deriving DecidableEq, Repr

structure Core where
  role : CoreRole := .inService
  /-- Droop ceiling in MHz; 1100 stands for no droop (R113). -/
  droopMhz : Nat := 1100
  gated : Bool := false
  lastTrip : Nat := 0
  lastRise : Nat := 0
  spad : Mem := {}
  held : Option Held := Option.none
  /-- Bytes 64 KiB of vector registers (R111). -/
  vregs : List Host.Cell := []
  /-- Physical bank of a logical bank where it is not the bank of the same number (R120). -/
  bankMap : AMap Nat := []
  marked : List Nat := []
  spares : List Nat := [48, 49]
  retiredBanks : List Nat := []
  /-- Corrected (timebase, line) pairs of the last 24 h (R120). -/
  lineFix : List (Nat × Nat) := []
  /-- Timebase of detections of the last 24 h (R141). -/
  detect : List Nat := []
  /-- Column to corrupt in the next MATMUL (R142). -/
  inject : Option Nat := Option.none
  /-- A SELF_TEST is ordered and waits for descriptors in flight (R140). -/
  testPending : Bool := false
  /-- The self-test that is running follows a detection, an order or a reset. -/
  resetCause : Nat := 12
  /-- Kind 0 value in 0.001 % (R489), and marked under R491. -/
  ageing : Int := 0
  wearMarked : Bool := false
  limitRetired : Bool := false
  returns : Nat := 0
  /-- A physical bank under requalification (R499). -/
  requalBank : Option Nat := Option.none
  bankReturns : AMap Nat := []
  deriving DecidableEq, Repr

/-! ### Queues (05) -/

inductive QState where
  | disabled | active | paused | fault
  deriving DecidableEq, Repr

/-- How far a descriptor read from its slot has come (R158, R163, R264, R427). -/
inductive JobPhase where
  /-- The check results of steps 1–3 of R158 are held until a completion record is free. -/
  | waitRecord
  | waitSem
  /-- Its semaphore is taken while the queue does not dispatch. -/
  | held
  /-- Handed to the engine. -/
  | handed
  | waitCredit
  | waitData
  /-- An ATTN waits for a page (R264). -/
  | waitKv
  /-- A posted NETRX (R418). -/
  | posted
  /-- A NETTX waits on a down link (R427). -/
  | waitLink
  /-- A mailbox request waits for its reply (R366). -/
  | waitReply
  /-- The engine has finished; the completion record is to be written. -/
  | finished
  deriving DecidableEq, Repr

structure Job where
  desc : BitVec 512
  slot : BitVec 16
  /-- The next_seq value the slot was checked against (R158). -/
  seq : BitVec 32
  phase : JobPhase
  /-- Timebase at which the present wait began (R167). -/
  since : Nat := 0
  status : BitVec 8 := 0
  flags : BitVec 8 := 0
  detail : BitVec 14 := 0
  /-- Position of its record in the completion queue, counted since ENABLE (R158 step 4). -/
  pos : Nat := 0
  /-- Slots moved (COPY), or the list slot that is waited for (ATTN). -/
  prog : Nat := 0
  /-- Pages whose residency event was raised (R264), as 2¹⁹ × die + index. -/
  raised : List Nat := []
  /-- Resident pages that a waiting ATTN has translated (R258). -/
  pages : List Nat := []
  deriving DecidableEq, Repr

structure Queue where
  seed : BitVec 64 := 0
  nextSeq : BitVec 32 := 0
  doneSeq : BitVec 32 := 0xFFFFFFFF
  ringBase : BitVec 48 := 0
  depthLog2 : BitVec 5 := 0
  link0 : BitVec 17 := 0
  link1 : BitVec 17 := 0
  engine : BitVec 12 := 0
  eventSrc : BitVec 10 := 0
  eventEn : Bool := false
  timeout : BitVec 4 := 0
  partition : BitVec 3 := 0
  cls : BitVec 2 := 0
  state : QState := .disabled
  credits : BitVec 17 := 0
  head : BitVec 16 := 0
  tail : BitVec 16 := 0
  faultCode : BitVec 8 := 0
  creditWb : BitVec 48 := 0
  dropped : BitVec 32 := 0
  /-- Descriptors read and not completed, oldest first (R158). -/
  jobs : List Job := []
  /-- Next slot to read for dispatch. -/
  fetch : BitVec 16 := 0
  /-- Completion and event queues: records reserved since ENABLE (R152, R157). -/
  reserved : Nat := 0
  /-- Event queues: a record was dropped since the last one delivered (R174). -/
  overflow : Bool := false
  /-- DISABLE is given and completes with the last pending descriptor (R170). -/
  closing : Bool := false
  /-- A DMA queue's channel is lent to an ATTN of this queue (R265). -/
  lentTo : Option (BitVec 17) := Option.none
  /-- Kind 0xB: slots that the software's doorbell has freed, less descriptors completed (R155; log 143). -/
  lead : Int := 0
  /-- The queue_control entry reads running until the queue's descriptors have completed (R180). -/
  watched : Bool := false
  deriving DecidableEq, Repr

structure Sem where
  value : BitVec 16 := 0
  owner : Option (BitVec 3) := Option.none
  deriving DecidableEq, Repr

/-! ### DDR5 and the park store (06) -/

/-- Roles of OD 0x2210 + s.01. -/
inductive SubRole where
  | inService | spare | retired | migratingOut | migratingIn | degraded | failedTraining
  deriving DecidableEq, Repr

structure Sub where
  role : SubRole := .inService
  mem : Mem := { fill := .unwritten 0 }
  /-- Corrected (timebase, row) pairs of the last 24 h (R197, R203). -/
  fixes : List (Nat × Nat) := []
  /-- Uncorrectable (timebase, row) pairs of the last 24 h. -/
  bad : List (Nat × Nat) := []
  softRows : List Nat := []
  /-- Row repairs that a device has left in a bank group, at 8 × device + group (devices 0 and 1 data, 2 check), one
  where nothing is listed (R197, R218; log 138). -/
  ppr : AMap Nat := []
  temp : Int := 2500
  fastRefresh : Bool := false
  cacheTemp : Int := 2500
  /-- Park-clock seconds of the digest mismatches charged (R486). -/
  mismatches : List Nat := []
  returns : Nat := 0
  limitRetired : Bool := false
  deriving DecidableEq, Repr

/-- A read that corrected a line or word, or marked it as poison (R118, R191). -/
inductive EccReport where
  | line (sub line : Nat) (bad : Bool)
  | spad (core line : Nat) (bad : Bool)
  deriving DecidableEq, Repr

/-- A live retirement (R204). -/
structure Migr where
  src : Nat
  dst : Nat
  /-- Trigger key of cause 0x07 (R503). -/
  trigger : Nat
  /-- Partition × 2¹⁸ + page, still to copy. -/
  left : List Nat
  copied : Nat := 0
  /-- 2 MiB of the module region's blocks on the subchannel, still to copy. -/
  region : Nat := 64
  deriving DecidableEq, Repr

/-- Park-store object (R209). -/
structure ParkObj where
  region : Nat
  owner : BitVec 256
  part : Nat
  extent : Nat := 0
  expires : Nat := 0
  /-- Key generation its content is readable under: the salt generation or the partition's spill key. -/
  key : Nat
  /-- Its internal number, and its own key pair wrapped under the storage key (R215). -/
  inner : Nat := 0
  wrapped : BitVec 576 := 0
  mem : Mem := {}
  deriving DecidableEq, Repr

structure Park where
  objects : AMap ParkObj := []
  clock : Nat := 0
  savedClock : Nat := 0
  /-- Bucket content in bytes, below zero allowed (R214). -/
  budget : Int := 1000000000000
  salt : Nat := 0
  /-- Number of the next object created, which keys the free content of its unwritten bytes (log 1). -/
  nextInner : Nat := 0
  /-- Bytes written over life (OD 0x2201.08). -/
  written : Nat := 0
  deriving DecidableEq, Repr

/-! ### Serving and video (09, 10) -/

structure Session where
  seed : BitVec 64 := 0
  step : BitVec 32 := 0
  temperature : BitVec 32 := 0
  topP : BitVec 32 := 0
  topKm1 : BitVec 18 := 0
  grammar : BitVec 14 := 0
  gstate : BitVec 12 := 0
  maskMode : BitVec 2 := 0
  isOpen : Bool := false
  listLen : BitVec 17 := 0
  listPage : BitVec 27 := 0
  partition : BitVec 3 := 0
  deriving DecidableEq, Repr

/-- A walker slot in use (R292). -/
structure Grammar where
  part : BitVec 3
  page : BitVec 27
  states : Nat
  ranges : Nat
  vocab : Nat
  deriving DecidableEq, Repr

inductive CtxState where
  | closed | opened | detached
  deriving DecidableEq, Repr

/-- A decoded picture (R325): what later pictures and show_existing_frame take from it. -/
structure VPic where
  key : BitVec 32 := 0
  kind : BitVec 2 := 0
  /-- It carries concealed 1 or ref_damaged (R339). -/
  damaged : Bool := false
  width : BitVec 16 := 0
  height : BitVec 16 := 0
  cropW : BitVec 16 := 0
  cropH : BitVec 16 := 0
  cropL : BitVec 8 := 0
  cropT : BitVec 8 := 0
  deriving DecidableEq, Repr

/-- A stream context and its record (R319, R321). -/
structure VCtx where
  state : CtxState := .closed
  queue : QueueId := 0
  part : BitVec 3 := 0
  /-- The VCTX descriptor of OPEN, with the later UPDATEs' fields put in. -/
  desc : BitVec 512 := 0
  /-- Buffers the runtime holds, and those the decoder holds for reference (R326). -/
  runtimeHeld : BitVec 32 := 0
  refHeld : BitVec 32 := 0
  last : Option (Fin 32) := Option.none
  pictures : Nat := 0
  sinceIdr : Nat := 0
  /-- Parsed parameter sets by number, and the size in force. -/
  params : AMap StreamParams := []
  size : Option (BitVec 16 × BitVec 16) := Option.none
  /-- Pictures by buffer; AV1: the buffer of each reference slot. H.264: frame_num of the last reference picture. -/
  pics : AMap VPic := []
  slots : List (Option (Fin 32)) := []
  frameNum : Nat := 0
  /-- Decoding waits for an IRAP picture or key frame (R314); RASL pictures are not decoded (R325). -/
  waits : Bool := false
  noRasl : Bool := false
  /-- Encoder: bytes of the pictures of the last 10 s (R332). -/
  rate : List Nat := []
  deriving DecidableEq, Repr

/-- A picture in progress: its queue, the timebase at which it started, the key of its opaque content, the bands or slices
that are visible with the bytes at the end of each, the timebase of the first, its buffer, and what its unit holds. -/
structure VJob where
  queue : QueueId
  start : Nat
  key : Nat
  count : Nat := 0
  ends : List Nat := []
  first : Nat := 0
  buffer : Nat := 0
  unit : DecodeReport := {}
  deriving DecidableEq, Repr

structure VEngine where
  failed : Bool := false
  part : Option (BitVec 3) := Option.none
  /-- Park-clock seconds of the restarts of the last hour (R486). -/
  restarts : List Nat := []
  ctx : AMap VCtx := []
  /-- The picture in progress (R343). -/
  busy : Option VJob := Option.none
  /-- Timebase at which the last picture ended, and the pictures of the last second (R347). -/
  freeAt : Nat := 0
  spans : List (Nat × Nat) := []
  /-- The queue whose descriptor it took last (R320). -/
  turn : Option QueueId := Option.none
  /-- It restarts (R343). -/
  restarting : Bool := false
  deriving DecidableEq, Repr

/-! ### Firmware (11) -/

inductive CompState where
  | absent | loaded | running | restarting | failed
  deriving DecidableEq, Repr

structure Comp where
  state : CompState := .absent
  version : Nat := 0
  digest : Nat := 0
  /-- What stands in its data and stack regions, by address; zeros after a restart (R355, R358). -/
  data : Mem := {}
  /-- Its device windows are open (R358 step 1). -/
  windows : Bool := true
  core : Nat := 255
  /-- Park-clock seconds of counted restarts of the last 10 min (R360). -/
  restarts : List Nat := []
  lastOverrun : Option Nat := Option.none
  deriving DecidableEq, Repr

inductive MbxKind where
  | unused | host | queue
  deriving DecidableEq, Repr

/-- A request awaiting its reply (R365). -/
structure MbxReq where
  msg : BitVec 512
  since : Nat
  /-- The command queue that carried it, for a queue mailbox. -/
  from_ : Option (BitVec 17)
  /-- The sequence value of the descriptor that carried it. -/
  seq : BitVec 32 := 0
  /-- Waits for a restarting component (R359) rather than being served. -/
  waiting : Bool := false
  deriving DecidableEq, Repr

structure Mbx where
  kind : MbxKind := .unused
  assigned : Bool := false
  part : BitVec 3 := 0
  /-- Requests received and not yet answered, oldest first. -/
  inb : List MbxReq := []
  /-- Messages sent and not yet taken. -/
  outb : List (BitVec 512) := []
  /-- Replies that wait for one of the 32 outbound slots (R362; log 144). -/
  late : List (BitVec 512) := []
  inSeq : BitVec 16 := 0
  outSeq : BitVec 16 := 0
  deriving DecidableEq, Repr

/-- A live adapter version of a partition's model (R304). -/
structure Adapter where
  part : Nat
  id : Nat
  version : Nat
  digest : BitVec 256
  deriving DecidableEq, Repr

structure Fw where
  /-- 16 × die + component. -/
  comps : AMap Comp := []
  /-- 64 × die + mailbox. -/
  mbx : AMap Mbx := []
  /-- Firmware cores offline, and application cores offline. -/
  fwOffline : List Nat := []
  appOffline : List Nat := []
  /-- Step of R369 reached; 0 outside a load. -/
  loadStep : Nat := 0
  helloEast : Bool := false
  helloWest : Bool := false
  /-- Partition whose runtime process an application core runs (R457). -/
  appPart : AMap Nat := []
  /-- Timebase at which R369 began. -/
  loadSince : Nat := 0
  /-- The last precise access fault of an application core: core, address, poison. -/
  lastFault : Option (Nat × Nat × Bool) := Option.none
  /-- Dies whose sampler or walker has failed (R76). -/
  samplerDown : List Nat := []
  deriving DecidableEq, Repr

/-! ### Rycia (12) -/

inductive SessState where
  | free | handshake | opened | suspended
  deriving DecidableEq, Repr

/-- A block write in progress (R390). -/
structure BlockWrite where
  index : Nat
  sub : Nat
  total : Nat
  data : List Byte
  at_ : Nat
  /-- More than 10 s have passed since its last segment. -/
  expired : Bool := false
  deriving DecidableEq, Repr

/-- A snapshot of a long value (R390). -/
structure Snap where
  index : Nat
  sub : Nat
  value : List Byte
  at_ : Nat
  deriving DecidableEq, Repr

/-- A write held in the command window (R392). -/
structure HeldWrite where
  sess : Nat
  /-- Identifier, credential and rights of its session. -/
  id : Nat
  credential : Nat
  rights : Nat
  request : Nat
  op : Nat
  index : Nat
  sub : Nat
  value : List Byte
  counter : Nat
  at_ : Nat
  port : BitVec 1
  deriving DecidableEq, Repr

/-- A READ waiting for its session's write to the same record (R391). -/
structure HeldRead where
  sess : Nat
  id : Nat
  request : Nat
  index : Nat
  sub : Nat
  offset : Nat
  want : Nat
  port : BitVec 1
  deriving DecidableEq, Repr

structure RSess where
  state : SessState := .free
  id : BitVec 32 := 0
  credential : BitVec 16 := 0
  /-- 1 operator, 2 service, 3 owner (OD 0x1130 + j.03). -/
  rights : Nat := 0
  /-- Highest counter accepted, and those accepted within 64 below it (R388). -/
  rxHigh : Nat := 0
  rxSeen : List Nat := []
  txNext : Nat := 1
  peer : BitVec 128 := 0
  port : BitVec 1 := 0
  /-- The UDP port under which it was opened (OD 0x1100.01). -/
  udp : BitVec 16 := 48736
  framesIn : Nat := 0
  framesOut : Nat := 0
  /-- Timebase of the last valid frame, and of the present handshake step. -/
  lastValid : Nat := 0
  stepAt : Nat := 0
  th1 : Nat := 0
  /-- The key pair's generation in a handshake (R385), then the key material as the opaque derivation gives it (R387). -/
  keys : Nat := 0
  blocks : List BlockWrite := []
  snaps : List Snap := []
  deriving DecidableEq, Repr

/-- A command-log record (R403). -/
structure LogRec where
  time : Nat
  index : Nat
  sub : Nat
  sess : Nat
  credential : Nat
  abort : Nat
  value : List Byte
  window : Nat
  deriving DecidableEq, Repr

structure Ryc where
  sess : AMap RSess := []
  window : List HeldWrite := []
  reads : List HeldRead := []
  log : List LogRec := []
  logCount : Nat := 0
  /-- Value of the cmd write that last started an entry's action (R380), by 256 × index + subindex. -/
  lastCmd : AMap Nat := []
  /-- HELLO and island frames in the present second, 2 × per port (R395). -/
  rateSec : Nat := 0
  rate : AMap Nat := []
  /-- Timebase of the last valid frame of a primary and of a secondary session. -/
  lastPrimary : Option Nat := none
  lastSecondary : Option Nat := none
  deriving DecidableEq, Repr

/-! ### Network (13) -/

/-- Roles of OD 0x2610 + p.01. -/
inductive PortRole where
  | active | standby | down | holdoff | resync | failed
  deriving DecidableEq, Repr

structure Port where
  role : PortRole := .standby
  up : Bool := false
  /-- Park-clock seconds of the failures of the last hour (R429). -/
  failures : List Nat := []
  lastChange : Nat := 0
  verdict : Nat := 0
  lanes : List LaneReading := []
  diagTime : Nat := 0
  holdSince : Nat := 0
  /-- ICMPv6 frames to firmware in the present second (R413). -/
  icmpSec : Nat := 0
  icmp : Nat := 0
  deriving DecidableEq, Repr

/-- A DATA frame kept for replay (R424). -/
structure ReplayFrame where
  time : Nat
  part : Nat
  port : Nat
  bytes : List Byte
  deriving DecidableEq, Repr

structure Link where
  /-- Sequence of the next DATA frame (R412). -/
  seq : BitVec 32 := 0
  ring : List ReplayFrame := []
  replaying : Bool := false
  /-- A planned switch in progress, with its start (R425). -/
  switching : Option Nat := none
  /-- Highest seq accepted per source, those accepted below it, and the last use (R426). -/
  peers : AMap (Nat × List Nat × Nat) := []
  /-- The hold of R427 has run out: later NETTX fail at once. -/
  expired : Bool := false
  deriving DecidableEq, Repr

structure Net where
  ports : AMap Port := []
  links : AMap Link := []
  /-- 256 × link + rule. -/
  steer : AMap Nat := []
  groups : AMap Nat := []
  deriving DecidableEq, Repr

/-! ### Events and counters (15) -/

structure Source where
  control : BitVec 64 := 0
  /-- Owner of an assignable source (R454). -/
  owner : Option (BitVec 3) := none
  n : Nat := 0
  t0 : Nat := 0
  detail : Nat := 0
  /-- Level sense: disarmed until its record is written and the condition has been false (R458). -/
  disarmed : Bool := false
  sawFalse : Bool := false
  cond : Bool := false
  condDetail : Nat := 0
  total : Nat := 0
  deriving DecidableEq, Repr

structure Irq where
  /-- (priority, die, source) of the pending records. -/
  pending : List (Nat × Nat × Nat) := []
  stack : List Nat := []
  deriving DecidableEq, Repr

structure Ctr where
  value : BitVec 48 := 0
  threshold : BitVec 48 := 0
  control : BitVec 64 := 0
  assign : Nat := 255
  /-- Remainder of code 0x04 (R467). -/
  carry : Nat := 0
  deriving DecidableEq, Repr

structure Ev where
  /-- 1024 × die + source. -/
  src : AMap Source := []
  /-- Application cores 0–15, firmware cores 16–23. -/
  irq : AMap Irq := []
  /-- Island log: (source, timebase, detail), oldest first (R465). -/
  island : List (Nat × Nat × Nat) := []
  islandLost : List Nat := []
  ctr : AMap Ctr := []
  freezeAt : Option Nat := none
  frozen : Bool := false
  freezeNo : Nat := 0
  /-- Cores reset between the freeze and the copy; cores out of service at T (R471). -/
  coreReset : List Nat := []
  coreOut : List Nat := []
  frozenT : Nat := 0
  /-- A NOTIFY_EVENT was dropped since the last delivered, per die (R461). -/
  notifyLost : List Nat := []
  deriving DecidableEq, Repr

/-! ### Reliability (16) -/

structure Bundle where
  part : BitVec 3
  digest : BitVec 256
  pages : List Nat
  loadPages : List Nat
  load : Nat
  lastPages : List Nat
  last : Nat
  /-- End of the last pass; the last good one, or the registration before any; the moment its period counts from. -/
  lastPass : Nat
  lastGood : Nat
  since : Nat
  verdict : Nat := 0
  mismatched : Nat := 0
  running : Bool := false
  deriving DecidableEq, Repr

/-- A value of a failure record's detail map (R503). -/
inductive DVal where
  | num (n : Nat)
  | int (i : Int)
  | pair (a b : Nat)
  | bytes (len n : Nat)
  deriving DecidableEq, Repr

/-- A failure-signature record (R502). -/
structure FailRec where
  no : Nat
  time : Nat
  tai : Option Int := none
  cause : Nat
  causes : List Nat := []
  kind : Nat
  unit : Nat
  part : Option Nat := none
  state : Nat
  platform : Nat
  bundle : Option Nat := none
  flags : Nat := 0
  suppressed : Nat := 0
  wear : List Nat
  peol : Nat
  temp : Int
  detail : List (Nat × DVal) := []
  /-- Its place in the order in which the region took samples and records (R208). -/
  stamp : Nat := 0
  deriving DecidableEq, Repr

structure Rel where
  bundles : AMap Bundle := []
  /-- Records and samples held in the park store, oldest first, and the next place in their order (R208). -/
  records : List FailRec := []
  samples : List Sample := []
  ringNext : Nat := 0
  /-- Records in the persistent store that await their copy at the next start (R506). -/
  stopRecs : List FailRec := []
  nextRecord : Nat := 1
  reserved : Nat := 0
  /-- (cause, kind, unit, one more than the timebase of the last record or 0 before any, detections merged since). -/
  lastWritten : List (Nat × Nat × Nat × Nat × Nat) := []
  /-- Records written in the present second, per die. -/
  rateSec : Nat := 0
  rate : AMap Nat := []
  /-- Detections charged per unit over life: key 65536 × kind + unit; those of the last 24 h with time. -/
  charged : AMap Nat := []
  charged24 : List (Nat × Nat) := []
  /-- Daily samples per 256 × kind + unit: (day, value × 1000), newest first, at most 30 (R492). -/
  daily : AMap (List (Nat × Int)) := []
  /-- Values × 1,000 of the indicators that are measured at moments of their own (kinds 1, 2, 3 and 6 of R489), by the
  same key. -/
  measured : AMap Int := []
  /-- Figure, kind and group of the module's end of life as last computed (R495). -/
  figure : Nat × Nat × Nat := (65535, 255, 255)
  /-- Timebase of the last daily sample (OD 0x2740 + k.08). -/
  lastSample : Nat := 0
  day : Nat := 0
  holdUf : Nat := 3300
  esrRatio : Nat := 1000
  /-- Units whose wear_limit record is written: 256 × kind + unit. -/
  limited : List Nat := []
  /-- R490: trough and peak in 0.01 °C; equivalent cycles in units of 1/16,000,000 of a cycle (0.01 K squared). -/
  trough : Int := 2500
  peak : Int := 2500
  cycles : Nat := 0
  /-- Conditions that force an end of life of 0 days: R42, R75, R120, R205 as 1 to 4 (OD 0x2700.03). -/
  forced : List Nat := []
  /-- The counts as of the last commit of the wear record (R488). -/
  keptCounts : AMap Nat × List (Nat × Nat) := ([], [])
  deriving DecidableEq, Repr

/-! ### Partitions and security (17) -/

inductive PState where
  | free | active | scrubbing | destroying
  deriving DecidableEq, Repr

/-- A model-key slot (R536). -/
structure ModelKey where
  key : Nat
  bundle : BitVec 256
  deriving DecidableEq, Repr

structure Part where
  state : PState := .free
  owner : BitVec 256 := 0
  cores : BitVec 18 := 0
  subs : BitVec 68 := 0
  slices : BitVec 96 := 0
  engines : BitVec 6 := 0
  /-- First and count of the queues and semaphores of each die, and of the sessions (R526). -/
  q0 : Nat × Nat := (0, 0)
  q1 : Nat × Nat := (0, 0)
  s0 : Nat × Nat := (0, 0)
  s1 : Nat × Nat := (0, 0)
  sess : Nat × Nat := (0, 0)
  /-- Slot positions on the D2D link, the fabric ports and the park store (R530). -/
  d2d : List Nat := []
  fabric : List Nat := []
  parkSlots : List Nat := []
  epoch : Nat := 0
  debug : Bool := false
  /-- Generation of its memory and spill keys. -/
  key : Nat := 0
  modelKeys : AMap ModelKey := []
  /-- KEM slots: generation of the pair, timebase of its last use. -/
  kem : AMap (Nat × Nat) := []
  /-- Timebase of recent ATTEST_REQUESTs (R528). -/
  attests : List Nat := []
  capCeiling : Nat := 1100
  issueShare : Nat := 100
  estimateMw : Nat := 0
  lastCap : Nat := 0
  resetCause : Nat := 10
  deriving DecidableEq, Repr

structure Sec where
  eastOk : Bool := true
  westOk : Bool := true
  lowerTree : Bool := false
  signing : Bool := true
  /-- The newest lower tree that is generated and signed, and the newest that the store holds (R517). -/
  madeTree : Nat := 0
  keptTree : Nat := 0
  epoch : Nat := 1
  nextKey : Nat := 1
  /-- Target debug is open on (R548): none closed. -/
  debugOpen : Option Nat := none
  debugPoison : BitVec 32 := 0
  debugRead : List Byte := []
  /-- The anti-rollback counters fused (R532 key 8). -/
  fusePlatform : Nat := 0
  fuseRuntime : Nat := 0
  personalised : Bool := true
  production : Bool := true
  deriving DecidableEq, Repr

/-! ### Power (18) -/

structure Trig where
  level : Nat := 0
  asserted : Bool := false
  since : Nat := 0
  deriving DecidableEq, Repr

structure Pow where
  /-- Triggers 0–6 in the order of R554. -/
  trig : AMap Trig := []
  /-- Ramp-hold ceiling in MHz, none when off (R561). -/
  ramp : Option Nat := none
  ballastW : Nat := 0
  drawMw : Nat := 0
  /-- The 1 ms means of the last second that were taken: timebase, mW (OD 0x2000.0A). -/
  draws : List (Nat × Nat) := []
  /-- Controller loss (R566). -/
  lost : Bool := false
  lastFrame : Option Nat := none
  graceSince : Nat := 0
  beforeLoss : Option Mode := none
  /-- The present episode's start (R555). -/
  episodeSince : Option Nat := none
  lastDispatch : Nat := 0
  stateSince : Nat := 0
  deriving DecidableEq, Repr

/-! ### The persistent store and the image slots (20) -/

/-- A record of the persistent store (R596). -/
structure PsRecord where
  page : Nat
  pages : Nat
  endMark : Bool
  base : Bool
  stop : Bool
  seq : Nat
  items : List Nat
  deriving DecidableEq, Repr

structure PsBank where
  records : List PsRecord := []
  nextPage : Nat := 0
  erases : Nat := 0
  /-- Items changed since this bank's last complete commit (R597). -/
  stale : List Nat := []
  deriving DecidableEq, Repr

inductive PlatState where
  | empty | active | previous | pending | trial | failed | rejected
  deriving DecidableEq, Repr

inductive RunState where
  | empty | current | previous | candidate | probation | rejected
  deriving DecidableEq, Repr

/-- What the module keeps of an image in a slot (R602). -/
structure Image where
  kind : Nat := 1
  version : Nat := 0
  text : Nat := 0
  counter : Nat := 0
  settings : Nat := 1
  digest : Nat := 0
  /-- Part type and interface version (R602). -/
  parts : List (Nat × Nat) := []
  /-- Part type and SHA-256 digest of the part. -/
  digests : List (Nat × Nat) := []
  /-- Result of the manifest checks R605 that the model makes (0x10, 0x13 or 0). -/
  form : Nat := 0
  deriving DecidableEq, Repr

structure Store where
  bankA : PsBank := {}
  bankB : PsBank := {}
  /-- The next sequence number, and whether bank B holds the newest complete commit. -/
  nextSeq : Nat := 1
  newestB : Bool := false
  newestSeq : Nat := 0
  /-- Compaction in progress: 1 erasing A, 2 erasing B (R599, OD 0x2A00.0B). -/
  compaction : Nat := 0
  /-- Staged image: bytes of durable and of answered chunks (R606, R607). -/
  chunks : AMap Nat := []
  answered : AMap Nat := []
  platA : PlatState := .active
  platB : PlatState := .empty
  imgA : Image := {}
  imgB : Image := {}
  runA : RunState := .current
  runB : RunState := .empty
  runImgA : Image := { kind := 2 }
  runImgB : Image := { kind := 2 }
  /-- Slot the active platform was booted from, and the runtime slot loaded: false A, true B. -/
  bootedB : Bool := false
  loadedB : Bool := false
  /-- SERVING seconds of the present probation already counted, none when not on probation. -/
  probation : Option Nat := none
  /-- A trial has failed and R610 still applies (R614). -/
  trialFailed : Bool := false
  /-- Newest item versions of the platform's and of the runtime's items, and the older copies kept (R615). -/
  platSettings : Nat := 1
  platOlder : Option Nat := Option.none
  runSettings : Nat := 1
  runOlder : Option Nat := Option.none
  deriving DecidableEq, Repr

/-! ### What leaves the module -/

/-- A frame, an answer or a reading that left the module, in the order it left (log 4). -/
inductive Output where
  /-- A Rycia frame (R384): port, type, session, counter, body in clear. -/
  | rycia (port : BitVec 1) (type session counter : Nat) (body : List Byte)
  /-- An Ethernet frame on port p (R411). -/
  | frame (port : Nat) (bytes : List Byte)
  /-- An unsolicited IPv6 neighbour advertisement with the override flag for an address, on a T1 port (R422). -/
  | advertise (port address : Nat)
  /-- A management code answered to the host driver (R149, R170, R456). -/
  | code (c : Nat)
  /-- A claim register read (R463). -/
  | claimed (core value : Nat)
  /-- An application core's load through an aperture (R349). -/
  | loaded (core : Nat) (bytes : List Byte)
  deriving DecidableEq, Repr

end Sys2Proof.Machine
end

