-- ==== Sys2Proof/Machine/State.lean ====
section
/-!
DEFINITION. The state of the module, its fault and refusal reasons, and the state at reset. Every field names
the rule of spec/ that gives it; INVENTORY.md lists each with its reset value.
-/
namespace Sys2Proof.Machine

open Sys2Proof

/-- No command of the block ends a run with a fault: the spec gives each its effect (NOTES.md, Stops). -/
inductive Fault where
  deriving DecidableEq, Repr

/-- Why a command is refused. -/
inductive Refusal where
  /-- The command has no meaning in this model yet; raised by `exec` alone. Safe: the run stops. -/
  | notModelled (mnemonic : String)
  deriving DecidableEq, Repr

/-- The whole state of the module. -/
structure State where
  /-- The waiting commands, first in, first out: the block model's own queue. -/
  pending : List Instr
  /-- Index of the next free value: the model's own field (log 1). -/
  free : Nat
  /-- What left the module, oldest first (log 4). -/
  out : List Output
  /-- 14: the timebase and its servo. -/
  time : Time
  /-- 01: the tray connector, the input and the coolant. -/
  tray : Tray
  /-- R11: the module state, OD 0x2000.01. -/
  mode : Mode
  /-- R549, R550: the IDLE power state. -/
  idle : Bool
  /-- R551: entry to DRAINING, STANDBY or PARKED in progress. -/
  entry : Option Entry
  /-- R552: the state to which a wake from STANDBY returns. -/
  leftMode : Mode
  /-- R552: a WAKE that arrived during entry. -/
  wakeHeld : Bool
  /-- R574 step 2: the west island is primary. -/
  westPrimary : Bool
  /-- R76: no boot path. -/
  noBoot : Bool
  /-- 19: resets, history, samples. -/
  rst : Rst
  /-- 04: tensor cores 0–17. -/
  cores : AMap Core
  /-- 05: queue contexts and their descriptors. -/
  queues : AMap Queue
  /-- R179: (first, number) of the queue ranges whose contexts a PART reset filled with zeros. -/
  queueZero : List (Nat × Nat)
  /-- R159: semaphores. -/
  sems : AMap Sem
  /-- R160: (semaphore, queue) of the waiting takes, in order of arrival. -/
  semWait : List (Nat × Nat)
  /-- 06: subchannels 0–67. -/
  dram : AMap Sub
  /-- R190, R191: upsets that stand in DDR5 lines, at 2²⁷ × subchannel + line: 40 lanes of 16 bits that differ from what was written. -/
  upsets : AMap Nat
  /-- R118: upset bits that stand in scratchpad words, at 8 × (196,608 × core + line) + word. -/
  spadUpsets : AMap Nat
  /-- R118, R191: reads that corrected or poisoned, not yet counted (log 137). -/
  ecc : List EccReport
  /-- R194: the generation of the module region's key pair. -/
  modKey : Nat
  /-- R186: the subchannels over which each die's module region rotates, in order. -/
  rotation : List Nat × List Nat
  /-- R204: the running retirement of each die. -/
  migr : AMap Migr
  /-- R204: (subchannel, trigger) of the retirements that wait. -/
  migrQueue : List (Nat × Nat)
  /-- R187: entry of page at 2¹⁸ × partition + page. -/
  pageMaps : AMap Nat
  /-- R188: cached entries, at 2²¹ × die + 2¹⁸ × partition + page. -/
  tlb : AMap Nat
  /-- R254: entries, at 2¹⁹ × die + index. -/
  kvMaps : AMap Nat
  /-- R257: cached entries of each die's own map. -/
  kvTlb : AMap Nat
  /-- R258: entries changed whose invalidation has not completed. -/
  kvDirty : List Nat
  /-- R63: the shared buffers, addressed as R135. -/
  shared : Mem
  /-- R76: slices withdrawn, 48 × die + slice. -/
  withdrawn : List Nat
  /-- R186, R349: the module region of each die. -/
  modMem : AMap Mem
  /-- 17: partitions 0–7. -/
  parts : AMap Part
  /-- R207–R215: the park store. -/
  park : Park
  /-- R281: session contexts. -/
  sess : AMap Session
  /-- R310: tokens emitted in the last second: timebase, partition, tokens. -/
  emitted : List (Nat × Nat × Nat)
  /-- R292: walker slots in use, at 16,384 × die + slot. -/
  grammars : AMap Grammar
  /-- R304: live adapter versions. -/
  adapters : List Adapter
  /-- R304: the last version number given, at 1,024 × partition + adapter. -/
  adapterLast : AMap Nat
  /-- 10: video engines e of R347. -/
  video : AMap VEngine
  /-- 11: components, mailboxes, cores. -/
  fw : Fw
  /-- 12: Rycia sessions, window, log. -/
  ryc : Ryc
  /-- 13: ports, links, steering, job groups. -/
  net : Net
  /-- 15: sources, interrupts, counters. -/
  ev : Ev
  /-- 16: digests, records, wear. -/
  rel : Rel
  /-- 17: security engines, epochs, debug. -/
  sec : Sec
  /-- 18: triggers, load levelling, controller loss. -/
  pow : Pow
  /-- 20: the persistent store, slots, staging. -/
  store : Store
  /-- Every other entry of the object dictionary that differs from its default, at 256 × index + subindex, as a little-endian number (12 R376–R380). -/
  od : AMap Nat
  /-- R59, R60: failures in succession of the flit under replay, eastward and westward. -/
  d2dFails : Nat × Nat
  deriving DecidableEq, Repr

/-- The port roles of R405 after PWR: A, F0 and F3 active, the others standby. -/
def defaultPorts : AMap Port :=
  [(0, { role := .active }), (1, { role := .standby }), (2, { role := .active }),
   (3, { role := .standby }), (4, { role := .standby }), (5, { role := .active })]

/-- The base commit with which a bank of the store is delivered (log 7). -/
def baseCommit (seq : Nat) : PsRecord :=
  { page := 0, pages := 1, endMark := true, base := true, stop := false, seq := seq, items := [] }

/-- The module right after reset: R29 step 6, the PWR reset about to be released (log 2). -/
def State.reset : State where
  pending := []
  free := 0
  out := []
  time := {}
  tray := {}
  mode := .boot
  idle := false
  entry := none
  leftMode := .ready
  wakeHeld := false
  westPrimary := false
  noBoot := false
  rst := {}
  cores := [(8, { role := .spare }), (17, { role := .spare })]
  queues := []
  queueZero := []
  sems := []
  semWait := []
  dram := [(32, { role := .spare }), (33, { role := .spare }), (66, { role := .spare }), (67, { role := .spare })]
  upsets := []
  spadUpsets := []
  ecc := []
  modKey := 0
  rotation := ((List.range 32), (List.range 32).map (· + 34))
  migr := []
  migrQueue := []
  pageMaps := []
  tlb := []
  kvMaps := []
  kvTlb := []
  kvDirty := []
  shared := {}
  withdrawn := []
  modMem := []
  parts := []
  park := {}
  sess := []
  emitted := []
  grammars := []
  adapters := []
  adapterLast := []
  video := []
  fw := {}
  ryc := {}
  net := { ports := defaultPorts }
  ev := {}
  rel := {}
  sec := {}
  pow := {}
  store := { bankA := { records := [baseCommit 2], nextPage := 1 }, bankB := { records := [baseCommit 1], nextPage := 1 }
             nextSeq := 3, newestSeq := 2 }
  od := []
  d2dFails := (0, 0)

/-! One setter per field. -/

def State.setPending (s : State) (x : List Instr) : State := { s with pending := x }
def State.setFree (s : State) (x : Nat) : State := { s with free := x }
def State.setOut (s : State) (x : List Output) : State := { s with out := x }
def State.setTime (s : State) (x : Time) : State := { s with time := x }
def State.setTray (s : State) (x : Tray) : State := { s with tray := x }
def State.setMode (s : State) (x : Mode) : State := { s with mode := x }
def State.setIdle (s : State) (x : Bool) : State := { s with idle := x }
def State.setEntry (s : State) (x : Option Entry) : State := { s with entry := x }
def State.setLeftMode (s : State) (x : Mode) : State := { s with leftMode := x }
def State.setWakeHeld (s : State) (x : Bool) : State := { s with wakeHeld := x }
def State.setWestPrimary (s : State) (x : Bool) : State := { s with westPrimary := x }
def State.setNoBoot (s : State) (x : Bool) : State := { s with noBoot := x }
def State.setRst (s : State) (x : Rst) : State := { s with rst := x }
def State.setCores (s : State) (x : AMap Core) : State := { s with cores := x }
def State.setQueues (s : State) (x : AMap Queue) : State := { s with queues := x }
def State.setQueueZero (s : State) (x : List (Nat × Nat)) : State := { s with queueZero := x }
def State.setSems (s : State) (x : AMap Sem) : State := { s with sems := x }
def State.setSemWait (s : State) (x : List (Nat × Nat)) : State := { s with semWait := x }
def State.setDram (s : State) (x : AMap Sub) : State := { s with dram := x }
def State.setUpsets (s : State) (x : AMap Nat) : State := { s with upsets := x }
def State.setSpadUpsets (s : State) (x : AMap Nat) : State := { s with spadUpsets := x }
def State.setEcc (s : State) (x : List EccReport) : State := { s with ecc := x }
def State.setModKey (s : State) (x : Nat) : State := { s with modKey := x }
def State.setRotation (s : State) (x : List Nat × List Nat) : State := { s with rotation := x }
def State.setMigr (s : State) (x : AMap Migr) : State := { s with migr := x }
def State.setMigrQueue (s : State) (x : List (Nat × Nat)) : State := { s with migrQueue := x }
def State.setPageMaps (s : State) (x : AMap Nat) : State := { s with pageMaps := x }
def State.setTlb (s : State) (x : AMap Nat) : State := { s with tlb := x }
def State.setKvMaps (s : State) (x : AMap Nat) : State := { s with kvMaps := x }
def State.setKvTlb (s : State) (x : AMap Nat) : State := { s with kvTlb := x }
def State.setKvDirty (s : State) (x : List Nat) : State := { s with kvDirty := x }
def State.setShared (s : State) (x : Mem) : State := { s with shared := x }
def State.setWithdrawn (s : State) (x : List Nat) : State := { s with withdrawn := x }
def State.setModMem (s : State) (x : AMap Mem) : State := { s with modMem := x }
def State.setParts (s : State) (x : AMap Part) : State := { s with parts := x }
def State.setPark (s : State) (x : Park) : State := { s with park := x }
def State.setSess (s : State) (x : AMap Session) : State := { s with sess := x }
def State.setEmitted (s : State) (x : List (Nat × Nat × Nat)) : State := { s with emitted := x }
def State.setGrammars (s : State) (x : AMap Grammar) : State := { s with grammars := x }
def State.setAdapters (s : State) (x : List Adapter) : State := { s with adapters := x }
def State.setAdapterLast (s : State) (x : AMap Nat) : State := { s with adapterLast := x }
def State.setVideo (s : State) (x : AMap VEngine) : State := { s with video := x }
def State.setFw (s : State) (x : Fw) : State := { s with fw := x }
def State.setRyc (s : State) (x : Ryc) : State := { s with ryc := x }
def State.setNet (s : State) (x : Net) : State := { s with net := x }
def State.setEv (s : State) (x : Ev) : State := { s with ev := x }
def State.setRel (s : State) (x : Rel) : State := { s with rel := x }
def State.setSec (s : State) (x : Sec) : State := { s with sec := x }
def State.setPow (s : State) (x : Pow) : State := { s with pow := x }
def State.setStore (s : State) (x : Store) : State := { s with store := x }
def State.setOd (s : State) (x : AMap Nat) : State := { s with od := x }
def State.setD2dFails (s : State) (x : Nat × Nat) : State := { s with d2dFails := x }

end Sys2Proof.Machine
end

