-- ==== Sys2Proof/Machine/OdTable.lean ====
section
/-!
DEFINITION. The object dictionary's entries as the tables of spec/ give them (12 R376–R381, R399–R404 and the
tables of every other chapter): index, type, access, rights, default and reset class of each.
-/
namespace Sys2Proof.Machine

open Sys2Proof

/-- Types of R378. -/
inductive OdTy where
  | bool
  /-- Unsigned and signed integers of this many bytes; TIME64 is `u 8`. -/
  | u (bytes : Nat)
  | s (bytes : Nat)
  | f32
  | enum
  | bits
  | str (n : Nat)
  /-- Raw bytes, exactly n or up to n. -/
  | oct (n : Nat) (upTo : Bool)
  deriving DecidableEq, Repr

/-- Access kinds of R380. -/
inductive OdAccess where
  | ro | rw | rwp | wo | cmd
  deriving DecidableEq, Repr

/-- What the Reset column of an entry's table says. -/
inductive OdReset where
  /-- "—": a constant. -/
  | fixed
  | kept
  /-- Computed from the state. -/
  | live
  /-- Default at PWR, MOD, WARM. -/
  | default_
  /-- Default at PWR, MOD, WARM and, in a partition's window, PART. -/
  | defaultPart
  /-- Cleared at PWR, MOD, WARM. -/
  | cleared
  /-- Cleared at PWR, MOD, WARM; per core at PART and CORE. -/
  | coreCleared
  /-- Cleared at PWR, MOD, WARM, and at the partition's PART. -/
  | partCleared
  | pwr
  | pwrMod
  /-- Cleared at every reset kind but CORE. -/
  | notCore
  /-- Cleared at PARTITION_CREATE. -/
  | creation
  /-- A cmd entry's status: 0 at every reset kind. -/
  | status
  deriving DecidableEq, Repr

/-- One row of an entry table, standing for `count` records and, with `window`, for the eight partition
windows. Rights: bit 0 operator, bit 1 service, bit 2 owner. -/
structure OdRow where
  base : Nat
  count : Nat
  window : Bool
  subLo : Nat
  subHi : Nat
  ty : OdTy
  access : OdAccess
  readers : Nat
  writers : Nat
  dflt : Nat
  reset : OdReset
  range : Option (Nat × Nat)
  deriving DecidableEq, Repr

/-- R144 (04_tensor_core.md). -/
def odR144 : List OdRow := [
  ⟨0x2100, 1, false, 0x01, 0x01, .u 1, .ro, 3, 3, 18, .fixed, none⟩,  -- 0x2100.01 cores_installed
  ⟨0x2100, 1, false, 0x02, 0x02, .u 1, .ro, 3, 3, 16, .live, none⟩,  -- 0x2100.02 cores_in_service
  ⟨0x2100, 1, false, 0x03, 0x03, .bits, .ro, 3, 3, 0, .live, none⟩,  -- 0x2100.03 spare_map
  ⟨0x2100, 1, false, 0x04, 0x04, .bits, .ro, 3, 3, 0, .kept, none⟩,  -- 0x2100.04 retired_map
  ⟨0x2100, 1, false, 0x05, 0x05, .enum, .rwp, 1, 1, 1, .kept, (some (0, 2))⟩,  -- 0x2100.05 arr_policy
  ⟨0x2100, 1, false, 0x06, 0x06, .u 4, .rw, 1, 1, 0, .default_, none⟩,  -- 0x2100.06 spad_sample_offset
  ⟨0x2100, 1, false, 0x07, 0x07, .u 1, .rwp, 1, 1, 3, .kept, (some (1, 255))⟩,  -- 0x2100.07 residue_limit
  ⟨0x2100, 1, false, 0x08, 0x08, .bits, .ro, 3, 3, 0, .live, none⟩  -- 0x2100.08 cores_wear_limited
  ]

/-- R145 (04_tensor_core.md). -/
def odR145 : List OdRow := [
  ⟨0x2110, 18, false, 0x01, 0x01, .enum, .ro, 7, 7, 0, .live, none⟩,  -- 0x2110 + n.01 role
  ⟨0x2110, 18, false, 0x02, 0x02, .u 1, .ro, 7, 7, 255, .live, none⟩,  -- 0x2110 + n.02 partition
  ⟨0x2110, 18, false, 0x03, 0x03, .u 2, .ro, 7, 7, 0, .live, none⟩,  -- 0x2110 + n.03 arr_mhz
  ⟨0x2110, 18, false, 0x04, 0x04, .u 2, .ro, 7, 7, 0, .live, none⟩,  -- 0x2110 + n.04 arr_ceiling_mhz
  ⟨0x2110, 18, false, 0x05, 0x05, .u 2, .ro, 7, 7, 0, .live, none⟩,  -- 0x2110 + n.05 arr_mean_mhz
  ⟨0x2110, 18, false, 0x06, 0x06, .u 4, .ro, 7, 7, 0, .coreCleared, none⟩,  -- 0x2110 + n.06 droop_events
  ⟨0x2110, 18, false, 0x07, 0x07, .oct 48 false, .ro, 3, 3, 0, .kept, none⟩,  -- 0x2110 + n.07 bank_map
  ⟨0x2110, 18, false, 0x08, 0x08, .u 1, .ro, 3, 3, 2, .kept, none⟩,  -- 0x2110 + n.08 spare_banks
  ⟨0x2110, 18, false, 0x09, 0x09, .u 1, .ro, 3, 3, 0, .kept, none⟩,  -- 0x2110 + n.09 banks_marked
  ⟨0x2110, 18, false, 0x0A, 0x0A, .u 4, .ro, 7, 7, 0, .kept, none⟩,  -- 0x2110 + n.0A spad_corrected
  ⟨0x2110, 18, false, 0x0B, 0x0B, .u 4, .ro, 7, 7, 0, .kept, none⟩,  -- 0x2110 + n.0B spad_uncorrectable
  ⟨0x2110, 18, false, 0x0C, 0x0C, .u 4, .ro, 7, 7, 0, .kept, none⟩,  -- 0x2110 + n.0C residue_detections
  ⟨0x2110, 18, false, 0x0D, 0x0D, .u 8, .ro, 7, 7, 0, .coreCleared, none⟩,  -- 0x2110 + n.0D residue_skipped
  ⟨0x2110, 18, false, 0x0E, 0x0E, .u 8, .ro, 7, 7, 0, .kept, none⟩,  -- 0x2110 + n.0E last_detection
  ⟨0x2110, 18, false, 0x0F, 0x0F, .u 8, .ro, 7, 7, 0, .coreCleared, none⟩,  -- 0x2110 + n.0F bank_conflicts
  ⟨0x2110, 18, false, 0x10, 0x10, .u 1, .cmd, 5, 5, 0, .status, none⟩,  -- 0x2110 + n.10 core_reset
  ⟨0x2110, 18, false, 0x11, 0x11, .u 1, .cmd, 3, 3, 0, .status, none⟩,  -- 0x2110 + n.11 self_test
  ⟨0x2110, 18, false, 0x12, 0x12, .u 1, .cmd, 3, 3, 0, .status, none⟩  -- 0x2110 + n.12 inject_residue
  ]

/-- R180 (05_queues_and_credits.md). -/
def odR180 : List OdRow := [
  ⟨0x2300, 1, false, 0x01, 0x01, .u 4, .ro, 3, 3, 65536, .fixed, none⟩,  -- 0x2300.01 queues_per_die
  ⟨0x2300, 1, false, 0x02, 0x02, .u 2, .ro, 3, 3, 2048, .fixed, none⟩,  -- 0x2300.02 semaphores_per_die
  ⟨0x2300, 1, false, 0x03, 0x03, .enum, .rwp, 1, 1, 5, .kept, (some (1, 7))⟩,  -- 0x2300.03 timeout_wait
  ⟨0x2300, 1, false, 0x04, 0x04, .enum, .rwp, 1, 1, 4, .kept, (some (1, 7))⟩,  -- 0x2300.04 timeout_credit
  ⟨0x2300, 1, false, 0x05, 0x05, .enum, .rwp, 1, 1, 4, .kept, (some (1, 7))⟩,  -- 0x2300.05 timeout_data
  ⟨0x2300, 1, false, 0x06, 0x06, .enum, .rwp, 1, 1, 6, .kept, (some (1, 7))⟩,  -- 0x2300.06 timeout_backlog
  ⟨0x2300, 1, false, 0x07, 0x07, .u 4, .ro, 3, 3, 0, .live, none⟩,  -- 0x2300.07 queues_enabled
  ⟨0x2300, 1, false, 0x08, 0x08, .u 8, .ro, 3, 3, 0, .cleared, none⟩,  -- 0x2300.08 queue_faults
  ⟨0x2300, 1, false, 0x09, 0x09, .u 8, .ro, 3, 3, 0, .cleared, none⟩,  -- 0x2300.09 doorbells_dropped
  ⟨0x2300, 1, false, 0x0A, 0x0A, .u 8, .ro, 3, 3, 0, .cleared, none⟩,  -- 0x2300.0A event_records_dropped
  ⟨0x2310, 1, false, 0x01, 0x01, .u 4, .rw, 3, 3, 0, .default_, (some (0, 131071))⟩,  -- 0x2310.01 inspect_queue
  ⟨0x2310, 1, false, 0x02, 0x02, .oct 64 false, .ro, 3, 3, 0, .live, none⟩,  -- 0x2310.02 inspect_context
  ⟨0x2310, 1, false, 0x03, 0x03, .u 2, .rw, 3, 3, 0, .default_, (some (0, 4095))⟩,  -- 0x2310.03 inspect_semaphore (range: log 157)
  ⟨0x2310, 1, false, 0x04, 0x04, .u 2, .ro, 3, 3, 0, .live, none⟩,  -- 0x2310.04 semaphore_value
  ⟨0x2310, 1, false, 0x05, 0x05, .u 1, .cmd, 1, 1, 0, .status, none⟩  -- 0x2310.05 queue_control
  ]

/-- R217 (06_memory_system.md). -/
def odR217 : List OdRow := [
  ⟨0x2200, 1, false, 0x01, 0x01, .u 1, .ro, 3, 3, 68, .fixed, none⟩,  -- 0x2200.01 subchannels_installed
  ⟨0x2200, 1, false, 0x02, 0x02, .u 1, .ro, 3, 3, 64, .live, none⟩,  -- 0x2200.02 subchannels_in_service
  ⟨0x2200, 1, false, 0x03, 0x03, .oct 9 false, .ro, 3, 3, 0, .live, none⟩,  -- 0x2200.03 spare_map
  ⟨0x2200, 1, false, 0x04, 0x04, .oct 9 false, .ro, 3, 3, 0, .kept, none⟩,  -- 0x2200.04 retired_map
  ⟨0x2200, 1, false, 0x05, 0x05, .u 1, .rwp, 1, 1, 24, .kept, (some (1, 24))⟩,  -- 0x2200.05 patrol_period_h
  ⟨0x2200, 1, false, 0x06, 0x06, .u 4, .rwp, 1, 1, 1000, .kept, (some (10, 1000000))⟩,  -- 0x2200.06 retire_ce_limit
  ⟨0x2200, 1, false, 0x07, 0x07, .u 2, .rwp, 1, 1, 2000, .kept, (some (500, 8000))⟩,  -- 0x2200.07 migrate_rate
  ⟨0x2200, 1, false, 0x08, 0x08, .u 8, .ro, 1, 1, 0, .kept, none⟩,  -- 0x2200.08 corrected_total
  ⟨0x2200, 1, false, 0x09, 0x09, .u 8, .ro, 1, 1, 0, .kept, none⟩,  -- 0x2200.09 uncorrectable_total
  ⟨0x2200, 1, false, 0x0A, 0x0A, .u 8, .ro, 1, 1, 0, .cleared, none⟩,  -- 0x2200.0A decode_errors
  ⟨0x2200, 1, false, 0x0B, 0x0B, .f32, .ro, 3, 3, 0, .live, none⟩,  -- 0x2200.0B dram_temp_max
  ⟨0x2200, 1, false, 0x0C, 0x0C, .bits, .ro, 3, 3, 0, .live, none⟩  -- 0x2200.0C migration_active
  ]

/-- R218 (06_memory_system.md). -/
def odR218 : List OdRow := [
  ⟨0x2210, 68, false, 0x01, 0x01, .enum, .ro, 7, 7, 0, .kept, none⟩,  -- 0x2210 + s.01 role
  ⟨0x2210, 68, false, 0x02, 0x02, .u 1, .ro, 7, 7, 255, .live, none⟩,  -- 0x2210 + s.02 partition
  ⟨0x2210, 68, false, 0x03, 0x03, .u 4, .ro, 7, 7, 0, .kept, none⟩,  -- 0x2210 + s.03 corrected
  ⟨0x2210, 68, false, 0x04, 0x04, .u 4, .ro, 7, 7, 0, .kept, none⟩,  -- 0x2210 + s.04 uncorrectable
  ⟨0x2210, 68, false, 0x05, 0x05, .u 4, .ro, 7, 7, 0, .live, none⟩,  -- 0x2210 + s.05 corrected_24h
  ⟨0x2210, 68, false, 0x06, 0x06, .u 1, .ro, 3, 3, 0, .kept, none⟩,  -- 0x2210 + s.06 soft_repairs
  ⟨0x2210, 68, false, 0x07, 0x07, .u 1, .ro, 3, 3, 0, .kept, none⟩,  -- 0x2210 + s.07 hard_repairs
  ⟨0x2210, 68, false, 0x08, 0x08, .u 1, .ro, 3, 3, 0, .kept, none⟩,  -- 0x2210 + s.08 repairs_left
  ⟨0x2210, 68, false, 0x09, 0x09, .f32, .ro, 3, 3, 0, .live, none⟩,  -- 0x2210 + s.09 dram_temp
  ⟨0x2210, 68, false, 0x0A, 0x0A, .u 1, .ro, 3, 3, 0, .live, none⟩,  -- 0x2210 + s.0A migrate_progress
  ⟨0x2210, 68, false, 0x0B, 0x0B, .u 1, .cmd, 1, 1, 0, .status, none⟩  -- 0x2210 + s.0B retire
  ]

/-- R219 (06_memory_system.md). -/
def odR219 : List OdRow := [
  ⟨0x2201, 1, false, 0x01, 0x01, .u 4, .ro, 3, 3, 7680, .fixed, none⟩,  -- 0x2201.01 capacity_gb
  ⟨0x2201, 1, false, 0x02, 0x02, .u 4, .rwp, 1, 1, 2000, .kept, none⟩,  -- 0x2201.02 region_kv_gb
  ⟨0x2201, 1, false, 0x03, 0x03, .u 4, .rwp, 1, 1, 4000, .kept, none⟩,  -- 0x2201.03 region_conv_gb
  ⟨0x2201, 1, false, 0x04, 0x04, .u 4, .ro, 3, 3, 1584, .kept, none⟩,  -- 0x2201.04 region_bundle_gb
  ⟨0x2201, 1, false, 0x05, 0x05, .u 4, .ro, 3, 3, 0, .live, none⟩,  -- 0x2201.05 objects
  ⟨0x2201, 1, false, 0x06, 0x06, .u 4, .rwp, 1, 1, 10000, .kept, (some (1000, 100000))⟩,  -- 0x2201.06 budget_gb_day
  ⟨0x2201, 1, false, 0x07, 0x07, .s 4, .ro, 3, 3, 1000, .live, none⟩,  -- 0x2201.07 budget_left_gb
  ⟨0x2201, 1, false, 0x08, 0x08, .u 8, .ro, 3, 3, 0, .kept, none⟩,  -- 0x2201.08 written_total_gb
  ⟨0x2201, 1, false, 0x09, 0x09, .u 1, .ro, 3, 3, 0, .kept, none⟩,  -- 0x2201.09 wear_used_pct
  ⟨0x2201, 1, false, 0x0A, 0x0A, .u 8, .ro, 3, 3, 0, .kept, none⟩,  -- 0x2201.0A park_clock_s
  ⟨0x2201, 1, false, 0x0B, 0x0B, .u 8, .ro, 3, 3, 0, .kept, none⟩,  -- 0x2201.0B expired_total
  ⟨0x2201, 1, false, 0x0C, 0x0C, .u 8, .cmd, 1, 1, 0, .status, none⟩,  -- 0x2201.0C erase_object
  ⟨0x2201, 1, false, 0x0D, 0x0D, .u 1, .cmd, 1, 1, 0, .status, none⟩  -- 0x2201.0D erase_all
  ]

/-- R250 (07_convolution_and_image_ops.md). -/
def odR250 : List OdRow := [
  ⟨0x2110, 18, false, 0x13, 0x13, .u 8, .ro, 7, 7, 0, .coreCleared, none⟩,  -- 0x2110 + n.13 skipped_taps
  ⟨0x2110, 18, false, 0x14, 0x14, .u 8, .ro, 7, 7, 0, .coreCleared, none⟩  -- 0x2110 + n.14 vector_path_descriptors
  ]

/-- R279 (08_attention_and_kv_cache.md). -/
def odR279 : List OdRow := [
  ⟨0x2260, 1, false, 0x01, 0x01, .u 4, .ro, 3, 3, 524288, .fixed, none⟩,  -- 0x2260.01 kv_map_entries
  ⟨0x2260, 1, false, 0x02, 0x02, .u 2, .ro, 3, 3, 16384, .fixed, none⟩,  -- 0x2260.02 kv_cache_entries
  ⟨0x2260, 1, false, 0x03, 0x03, .enum, .rwp, 1, 1, 5, .kept, (some (1, 7))⟩,  -- 0x2260.03 kv_wait_timeout
  ⟨0x2260, 1, false, 0x04, 0x04, .u 4, .ro, 3, 3, 0, .live, none⟩,  -- 0x2260.04 kv_pages_east
  ⟨0x2260, 1, false, 0x05, 0x05, .u 4, .ro, 3, 3, 0, .live, none⟩,  -- 0x2260.05 kv_pages_west
  ⟨0x2260, 1, false, 0x06, 0x06, .u 4, .ro, 3, 3, 0, .live, none⟩,  -- 0x2260.06 kv_pages_spilled
  ⟨0x2260, 1, false, 0x07, 0x07, .u 8, .ro, 3, 3, 0, .cleared, none⟩,  -- 0x2260.07 kv_cache_misses
  ⟨0x2260, 1, false, 0x08, 0x08, .u 8, .ro, 3, 3, 0, .cleared, none⟩,  -- 0x2260.08 kv_residency_events
  ⟨0x2260, 1, false, 0x09, 0x09, .u 8, .ro, 3, 3, 0, .cleared, none⟩,  -- 0x2260.09 kv_residency_timeouts
  ⟨0x2260, 1, false, 0x0A, 0x0A, .u 8, .ro, 3, 3, 0, .cleared, none⟩,  -- 0x2260.0A kv_spilled_bytes
  ⟨0x2260, 1, false, 0x0B, 0x0B, .u 8, .ro, 3, 3, 0, .cleared, none⟩  -- 0x2260.0B kv_fetched_bytes
  ]

/-- R310 (09_serving.md). -/
def odR310 : List OdRow := [
  ⟨0x2400, 1, false, 0x01, 0x01, .u 4, .ro, 3, 3, 262144, .fixed, none⟩,  -- 0x2400.01 sessions_max
  ⟨0x2400, 1, false, 0x02, 0x02, .u 4, .ro, 3, 3, 0, .live, none⟩,  -- 0x2400.02 sessions_open
  ⟨0x2400, 1, false, 0x03, 0x03, .u 4, .rwp, 1, 1, 86400, .kept, (some (60, 2592000))⟩,  -- 0x2400.03 conv_ttl_default_s
  ⟨0x2400, 1, false, 0x04, 0x04, .u 2, .ro, 3, 3, 16384, .fixed, none⟩,  -- 0x2400.04 grammar_slots_per_die
  ⟨0x2400, 1, false, 0x05, 0x05, .u 2, .ro, 3, 3, 0, .live, none⟩,  -- 0x2400.05 grammars_east
  ⟨0x2400, 1, false, 0x06, 0x06, .u 2, .ro, 3, 3, 0, .live, none⟩,  -- 0x2400.06 grammars_west
  ⟨0x2400, 1, false, 0x07, 0x07, .u 8, .ro, 3, 3, 0, .cleared, none⟩,  -- 0x2400.07 results_total
  ⟨0x2400, 1, false, 0x08, 0x08, .u 8, .ro, 3, 3, 0, .cleared, none⟩,  -- 0x2400.08 samples_total
  ⟨0x2400, 1, false, 0x09, 0x09, .u 8, .ro, 3, 3, 0, .cleared, none⟩,  -- 0x2400.09 drafts_total
  ⟨0x2400, 1, false, 0x0A, 0x0A, .u 8, .ro, 3, 3, 0, .cleared, none⟩,  -- 0x2400.0A drafts_accepted
  ⟨0x2400, 1, false, 0x0B, 0x0B, .f32, .ro, 3, 3, 0, .live, none⟩,  -- 0x2400.0B results_per_s
  ⟨0x2400, 1, false, 0x0C, 0x0C, .u 8, .ro, 3, 3, 0, .cleared, none⟩,  -- 0x2400.0C grammar_dead_ends
  ⟨0x2400, 1, false, 0x0D, 0x0D, .u 8, .ro, 3, 3, 0, .cleared, none⟩,  -- 0x2400.0D sampler_faults
  ⟨0x2400, 1, false, 0x0E, 0x0E, .u 1, .ro, 3, 3, 4, .fixed, none⟩,  -- 0x2400.0E adapter_versions_max
  ⟨0x2400, 1, false, 0x0F, 0x0F, .u 4, .ro, 3, 3, 0, .live, none⟩,  -- 0x2400.0F adapter_versions_live
  ⟨0x2400, 1, false, 0x10, 0x10, .u 8, .ro, 3, 3, 0, .cleared, none⟩,  -- 0x2400.10 pauses_total
  ⟨0x2400, 1, false, 0x11, 0x11, .u 8, .ro, 3, 3, 0, .cleared, none⟩  -- 0x2400.11 resumes_total
  ]

/-- R346 (10_video.md). -/
def odR346 : List OdRow := [
  ⟨0x2500, 1, false, 0x01, 0x01, .u 1, .ro, 3, 3, 4, .fixed, none⟩,  -- 0x2500.01 decoders
  ⟨0x2500, 1, false, 0x02, 0x02, .u 1, .ro, 3, 3, 2, .fixed, none⟩,  -- 0x2500.02 encoders
  ⟨0x2500, 1, false, 0x03, 0x03, .u 2, .ro, 3, 3, 256, .fixed, none⟩,  -- 0x2500.03 contexts_per_engine
  ⟨0x2500, 1, false, 0x04, 0x04, .u 4, .ro, 3, 3, 0, .live, none⟩,  -- 0x2500.04 contexts_open
  ⟨0x2500, 1, false, 0x05, 0x05, .u 8, .ro, 3, 3, 0, .cleared, none⟩,  -- 0x2500.05 pictures_decoded
  ⟨0x2500, 1, false, 0x06, 0x06, .u 8, .ro, 3, 3, 0, .cleared, none⟩,  -- 0x2500.06 pictures_encoded
  ⟨0x2500, 1, false, 0x07, 0x07, .u 8, .ro, 3, 3, 0, .cleared, none⟩,  -- 0x2500.07 pictures_concealed
  ⟨0x2500, 1, false, 0x08, 0x08, .u 8, .ro, 3, 3, 0, .cleared, none⟩,  -- 0x2500.08 missing_references
  ⟨0x2500, 1, false, 0x09, 0x09, .u 8, .ro, 3, 3, 0, .cleared, none⟩,  -- 0x2500.09 syntax_errors
  ⟨0x2500, 1, false, 0x0A, 0x0A, .u 8, .ro, 3, 3, 0, .cleared, none⟩,  -- 0x2500.0A unsupported
  ⟨0x2500, 1, false, 0x0B, 0x0B, .u 2, .rwp, 1, 1, 100, .kept, (some (20, 1000))⟩,  -- 0x2500.0B picture_timeout_ms
  ⟨0x2500, 1, false, 0x0C, 0x0C, .u 8, .ro, 3, 3, 0, .cleared, none⟩  -- 0x2500.0C video_faults
  ]

/-- R347 (10_video.md). -/
def odR347 : List OdRow := [
  ⟨0x2510, 6, false, 0x01, 0x01, .enum, .ro, 3, 3, 0, .live, none⟩,  -- 0x2510 + e.01 role
  ⟨0x2510, 6, false, 0x02, 0x02, .u 1, .ro, 3, 3, 255, .live, none⟩,  -- 0x2510 + e.02 partition
  ⟨0x2510, 6, false, 0x03, 0x03, .u 2, .ro, 3, 3, 0, .live, none⟩,  -- 0x2510 + e.03 contexts_open
  ⟨0x2510, 6, false, 0x04, 0x04, .u 1, .ro, 3, 3, 0, .live, none⟩,  -- 0x2510 + e.04 busy_pct
  ⟨0x2510, 6, false, 0x05, 0x05, .u 8, .ro, 3, 3, 0, .cleared, none⟩,  -- 0x2510 + e.05 pictures
  ⟨0x2510, 6, false, 0x06, 0x06, .u 4, .ro, 3, 3, 0, .kept, none⟩,  -- 0x2510 + e.06 restarts
  ⟨0x2510, 6, false, 0x07, 0x07, .u 1, .cmd, 1, 1, 0, .status, none⟩  -- 0x2510 + e.07 restart
  ]

/-- R374 (11_application_and_firmware_cores.md). -/
def odR374 : List OdRow := [
  ⟨0x2140, 1, false, 0x01, 0x01, .u 1, .ro, 3, 3, 16, .fixed, none⟩,  -- 0x2140.01 app_cores_installed
  ⟨0x2140, 1, false, 0x02, 0x02, .u 1, .ro, 3, 3, 16, .live, none⟩,  -- 0x2140.02 app_cores_online
  ⟨0x2140, 1, false, 0x03, 0x03, .bits, .ro, 3, 3, 0, .kept, none⟩,  -- 0x2140.03 app_offline_map
  ⟨0x2140, 1, false, 0x04, 0x04, .u 4, .ro, 3, 3, 0, .live, none⟩,  -- 0x2140.04 os_memory_mib
  ⟨0x2140, 1, false, 0x05, 0x05, .u 8, .ro, 3, 3, 0, .cleared, none⟩,  -- 0x2140.05 app_poison_faults
  ⟨0x2150, 1, false, 0x01, 0x01, .bits, .ro, 3, 3, 255, .live, none⟩,  -- 0x2150.01 fw_cores_online
  ⟨0x2150, 1, false, 0x02, 0x02, .u 2, .ro, 3, 3, 0, .live, none⟩,  -- 0x2150.02 protocol_kernel
  ⟨0x2150, 1, false, 0x03, 0x03, .u 2, .ro, 3, 3, 0, .default_, none⟩,  -- 0x2150.03 protocol_driver
  ⟨0x2150, 1, false, 0x04, 0x04, .u 2, .ro, 3, 3, 0, .default_, none⟩,  -- 0x2150.04 runtime_interface
  ⟨0x2150, 1, false, 0x05, 0x05, .oct 32 false, .ro, 3, 3, 0, .default_, none⟩,  -- 0x2150.05 bundle_digest
  ⟨0x2150, 1, false, 0x06, 0x06, .str 32, .ro, 3, 3, 0, .default_, none⟩,  -- 0x2150.06 bundle_version
  ⟨0x2150, 1, false, 0x07, 0x07, .enum, .ro, 3, 3, 0, .default_, none⟩,  -- 0x2150.07 refused_reason
  ⟨0x2150, 1, false, 0x08, 0x08, .u 4, .ro, 3, 3, 0, .default_, none⟩,  -- 0x2150.08 load_ms
  ⟨0x2150, 1, false, 0x09, 0x09, .u 8, .ro, 3, 3, 0, .cleared, none⟩,  -- 0x2150.09 mailbox_errors
  ⟨0x2150, 1, false, 0x0A, 0x0A, .u 8, .ro, 3, 3, 0, .cleared, none⟩,  -- 0x2150.0A reply_timeouts
  ⟨0x2150, 1, false, 0x0B, 0x0B, .u 1, .cmd, 1, 1, 0, .status, none⟩  -- 0x2150.0B reload_runtime
  ]

/-- R375 (11_application_and_firmware_cores.md). -/
def odR375 : List OdRow := [
  ⟨0x2160, 16, false, 0x01, 0x01, .str 16, .ro, 3, 3, 0, .live, none⟩,  -- 0x2160 + c.01 name
  ⟨0x2160, 16, false, 0x02, 0x02, .enum, .ro, 3, 3, 0, .live, none⟩,  -- 0x2160 + c.02 bundle
  ⟨0x2160, 16, false, 0x03, 0x03, .u 4, .ro, 3, 3, 0, .live, none⟩,  -- 0x2160 + c.03 version
  ⟨0x2160, 16, false, 0x04, 0x04, .oct 32 false, .ro, 3, 3, 0, .live, none⟩,  -- 0x2160 + c.04 digest_east
  ⟨0x2160, 16, false, 0x05, 0x05, .oct 32 false, .ro, 3, 3, 0, .live, none⟩,  -- 0x2160 + c.05 digest_west
  ⟨0x2160, 16, false, 0x06, 0x06, .enum, .ro, 3, 3, 0, .live, none⟩,  -- 0x2160 + c.06 state_east
  ⟨0x2160, 16, false, 0x07, 0x07, .enum, .ro, 3, 3, 0, .live, none⟩,  -- 0x2160 + c.07 state_west
  ⟨0x2160, 16, false, 0x08, 0x08, .u 1, .ro, 3, 3, 255, .live, none⟩,  -- 0x2160 + c.08 core_east
  ⟨0x2160, 16, false, 0x09, 0x09, .u 1, .ro, 3, 3, 255, .live, none⟩,  -- 0x2160 + c.09 core_west
  ⟨0x2160, 16, false, 0x0A, 0x0A, .u 4, .ro, 3, 3, 0, .cleared, none⟩,  -- 0x2160 + c.0A restarts
  ⟨0x2160, 16, false, 0x0B, 0x0B, .u 8, .ro, 3, 3, 0, .cleared, none⟩,  -- 0x2160 + c.0B last_fault
  ⟨0x2160, 16, false, 0x0C, 0x0C, .enum, .ro, 3, 3, 0, .cleared, none⟩  -- 0x2160 + c.0C last_fault_cause
  ]

/-- R399 (12_object_dictionary_rycia.md). -/
def odR399 : List OdRow := [
  ⟨0x1000, 1, false, 0x01, 0x01, .str 32, .ro, 7, 7, 1981398732652465451600, .fixed, none⟩,  -- 0x1000.01 vendor
  ⟨0x1000, 1, false, 0x02, 0x02, .str 32, .ro, 7, 7, 8244241974902678867, .fixed, none⟩,  -- 0x1000.02 product
  ⟨0x1000, 1, false, 0x03, 0x03, .str 16, .ro, 7, 7, 3616729383048533593, .fixed, none⟩,  -- 0x1000.03 part_number
  ⟨0x1000, 1, false, 0x04, 0x04, .str 16, .ro, 7, 7, 0, .fixed, none⟩,  -- 0x1000.04 serial
  ⟨0x1000, 1, false, 0x05, 0x05, .str 8, .ro, 7, 7, 0, .fixed, none⟩,  -- 0x1000.05 hw_revision
  ⟨0x1000, 1, false, 0x06, 0x06, .u 4, .ro, 7, 7, 0, .fixed, none⟩,  -- 0x1000.06 made_on
  ⟨0x1000, 1, false, 0x07, 0x07, .oct 60 false, .ro, 7, 7, 0, .fixed, none⟩,  -- 0x1000.07 identity_key
  ⟨0x1000, 1, false, 0x08, 0x08, .u 2, .ro, 7, 7, 256, .fixed, none⟩,  -- 0x1000.08 rycia_version
  ⟨0x1000, 1, false, 0x09, 0x09, .u 2, .ro, 7, 7, 0, .live, none⟩,  -- 0x1000.09 od_layout
  ⟨0x1000, 1, false, 0x0A, 0x0A, .str 32, .ro, 7, 7, 0, .live, none⟩,  -- 0x1000.0A platform_version
  ⟨0x1000, 1, false, 0x0B, 0x0B, .oct 32 false, .ro, 7, 7, 0, .live, none⟩  -- 0x1000.0B platform_digest
  ]

/-- R400 (12_object_dictionary_rycia.md). -/
def odR400 : List OdRow := [
  ⟨0x1100, 1, false, 0x01, 0x01, .u 2, .rwp, 1, 1, 48736, .kept, (some (1024, 65535))⟩,  -- 0x1100.01 udp_port
  ⟨0x1100, 1, false, 0x02, 0x02, .oct 16 false, .rwp, 1, 1, 0, .kept, none⟩,  -- 0x1100.02 address_a
  ⟨0x1100, 1, false, 0x03, 0x03, .oct 16 false, .rwp, 1, 1, 0, .kept, none⟩,  -- 0x1100.03 address_b
  ⟨0x1100, 1, false, 0x04, 0x04, .u 1, .rwp, 1, 1, 255, .kept, none⟩,  -- 0x1100.04 primary_credential
  ⟨0x1100, 1, false, 0x05, 0x05, .u 1, .rwp, 1, 1, 255, .kept, none⟩,  -- 0x1100.05 secondary_credential
  ⟨0x1100, 1, false, 0x06, 0x06, .u 1, .ro, 3, 3, 16, .fixed, none⟩,  -- 0x1100.06 sessions_max
  ⟨0x1100, 1, false, 0x07, 0x07, .u 1, .ro, 3, 3, 0, .live, none⟩,  -- 0x1100.07 sessions_open
  ⟨0x1100, 1, false, 0x08, 0x08, .u 2, .rwp, 1, 1, 30, .kept, (some (5, 600))⟩,  -- 0x1100.08 idle_timeout_s
  ⟨0x1100, 1, false, 0x09, 0x09, .u 2, .ro, 3, 3, 250, .fixed, none⟩,  -- 0x1100.09 command_window_us
  ⟨0x1100, 1, false, 0x0A, 0x0A, .u 8, .ro, 3, 3, 0, .cleared, none⟩,  -- 0x1100.0A frames_dropped
  ⟨0x1100, 1, false, 0x0B, 0x0B, .u 8, .ro, 3, 3, 0, .cleared, none⟩,  -- 0x1100.0B auth_failures
  ⟨0x1100, 1, false, 0x0C, 0x0C, .bits, .ro, 3, 3, 0, .live, none⟩,  -- 0x1100.0C controllers_present
  ⟨0x1100, 1, false, 0x0D, 0x0D, .u 8, .ro, 3, 3, 0, .cleared, none⟩,  -- 0x1100.0D conflicts
  ⟨0x1100, 1, false, 0x0E, 0x0E, .u 8, .ro, 3, 3, 0, .kept, none⟩  -- 0x1100.0E wake_counter
  ]

/-- R401 (12_object_dictionary_rycia.md). -/
def odR401 : List OdRow := [
  ⟨0x1110, 16, false, 0x01, 0x01, .enum, .rwp, 1, 1, 0, .kept, (some (0, 2))⟩,  -- 0x1110 + i.01 class
  ⟨0x1110, 16, false, 0x02, 0x02, .oct 60 false, .rwp, 1, 1, 0, .kept, none⟩,  -- 0x1110 + i.02 public_key
  ⟨0x1110, 16, false, 0x03, 0x03, .str 32, .rwp, 1, 1, 0, .kept, none⟩  -- 0x1110 + i.03 label
  ]

/-- R402 (12_object_dictionary_rycia.md). -/
def odR402 : List OdRow := [
  ⟨0x1130, 16, false, 0x01, 0x01, .enum, .ro, 3, 3, 0, .live, none⟩,  -- 0x1130 + j.01 state
  ⟨0x1130, 16, false, 0x02, 0x02, .u 2, .ro, 3, 3, 0, .live, none⟩,  -- 0x1130 + j.02 credential
  ⟨0x1130, 16, false, 0x03, 0x03, .enum, .ro, 3, 3, 0, .live, none⟩,  -- 0x1130 + j.03 rights
  ⟨0x1130, 16, false, 0x04, 0x04, .oct 16 false, .ro, 3, 3, 0, .live, none⟩,  -- 0x1130 + j.04 peer
  ⟨0x1130, 16, false, 0x05, 0x05, .enum, .ro, 3, 3, 0, .live, none⟩,  -- 0x1130 + j.05 last_port
  ⟨0x1130, 16, false, 0x06, 0x06, .u 8, .ro, 3, 3, 0, .live, none⟩,  -- 0x1130 + j.06 frames_in
  ⟨0x1130, 16, false, 0x07, 0x07, .u 8, .ro, 3, 3, 0, .live, none⟩,  -- 0x1130 + j.07 frames_out
  ⟨0x1130, 16, false, 0x08, 0x08, .u 1, .cmd, 1, 1, 0, .status, none⟩  -- 0x1130 + j.08 close
  ]

/-- R403 (12_object_dictionary_rycia.md). -/
def odR403 : List OdRow := [
  ⟨0x1180, 1, false, 0x01, 0x01, .u 8, .ro, 3, 3, 0, .cleared, none⟩,  -- 0x1180.01 log_count
  ⟨0x1180, 1, false, 0x02, 0x02, .u 8, .rw, 3, 3, 0, .default_, none⟩,  -- 0x1180.02 log_select
  ⟨0x1180, 1, false, 0x03, 0x03, .oct 32 false, .ro, 3, 3, 0, .live, none⟩  -- 0x1180.03 log_record
  ]

/-- R404 (12_object_dictionary_rycia.md). -/
def odR404 : List OdRow := [
  ⟨0x1200, 1, false, 0x01, 0x01, .u 8, .ro, 7, 7, 0, .live, none⟩,  -- 0x1200.01 timebase
  ⟨0x1200, 1, false, 0x02, 0x02, .enum, .ro, 7, 7, 0, .live, none⟩,  -- 0x1200.02 pps_state
  ⟨0x1200, 1, false, 0x03, 0x03, .u 8, .ro, 3, 3, 0, .cleared, none⟩,  -- 0x1200.03 pps_accepted
  ⟨0x1200, 1, false, 0x04, 0x04, .u 8, .ro, 3, 3, 0, .cleared, none⟩,  -- 0x1200.04 pps_rejected
  ⟨0x1200, 1, false, 0x05, 0x05, .s 4, .ro, 3, 3, 0, .live, none⟩,  -- 0x1200.05 phase_error_ns
  ⟨0x1200, 1, false, 0x06, 0x06, .u 8, .ro, 3, 3, 0, .live, none⟩,  -- 0x1200.06 holdover_since
  ⟨0x1200, 1, false, 0x07, 0x07, .u 2, .ro, 3, 3, 100, .fixed, none⟩,  -- 0x1200.07 slew_limit_ppm
  ⟨0x1200, 1, false, 0x08, 0x08, .s 8, .rw, 1, 1, 0, .default_, none⟩  -- 0x1200.08 tai_at_zero_ns
  ]

/-- R436 (13_network_ports_failover.md). -/
def odR436 : List OdRow := [
  ⟨0x2600, 1, false, 0x01, 0x01, .enum, .ro, 3, 3, 0, .live, none⟩,  -- 0x2600.01 t1_active
  ⟨0x2600, 1, false, 0x02, 0x02, .enum, .ro, 3, 3, 0, .live, none⟩,  -- 0x2600.02 fab0_active
  ⟨0x2600, 1, false, 0x03, 0x03, .enum, .ro, 3, 3, 1, .live, none⟩,  -- 0x2600.03 fab1_active
  ⟨0x2600, 1, false, 0x04, 0x04, .u 2, .rwp, 1, 1, 0, .kept, (some (1, 65534))⟩,  -- 0x2600.04 fabric_address
  ⟨0x2600, 1, false, 0x05, 0x05, .u 2, .rwp, 1, 1, 10, .kept, (some (1, 3600))⟩,  -- 0x2600.05 holdoff_s
  ⟨0x2600, 1, false, 0x06, 0x06, .u 1, .rwp, 1, 1, 40, .kept, (some (10, 60))⟩,  -- 0x2600.06 replay_us
  ⟨0x2600, 1, false, 0x07, 0x07, .u 2, .rwp, 1, 1, 100, .kept, (some (1, 10000))⟩,  -- 0x2600.07 link_down_hold_ms
  ⟨0x2600, 1, false, 0x08, 0x08, .u 8, .ro, 3, 3, 0, .kept, none⟩,  -- 0x2600.08 switchovers
  ⟨0x2600, 1, false, 0x09, 0x09, .u 8, .ro, 3, 3, 0, .cleared, none⟩,  -- 0x2600.09 duplicates_dropped
  ⟨0x2600, 1, false, 0x0A, 0x0A, .u 1, .cmd, 1, 1, 0, .status, none⟩,  -- 0x2600.0A switch_over
  ⟨0x2600, 1, false, 0x0B, 0x0B, .u 8, .ro, 3, 3, 0, .cleared, none⟩,  -- 0x2600.0B aborts_sent
  ⟨0x2600, 1, false, 0x0C, 0x0C, .u 8, .ro, 3, 3, 0, .cleared, none⟩,  -- 0x2600.0C aborts_received
  ⟨0x2600, 1, false, 0x0D, 0x0D, .u 2, .ro, 3, 3, 0, .live, none⟩,  -- 0x2600.0D steering_rules
  ⟨0x2600, 1, false, 0x0E, 0x0E, .bool, .rwp, 1, 1, 1, .kept, none⟩,  -- 0x2600.0E t1_autoneg
  ⟨0x2600, 1, false, 0x0F, 0x0F, .enum, .rwp, 1, 1, 0, .kept, (some (0, 1))⟩,  -- 0x2600.0F t1_forced_role
  ⟨0x2600, 1, false, 0x10, 0x10, .u 8, .ro, 3, 3, 0, .cleared, none⟩,  -- 0x2600.10 rx_no_buffer
  ⟨0x2600, 1, false, 0x11, 0x11, .u 8, .ro, 3, 3, 0, .cleared, none⟩  -- 0x2600.11 frames_filtered
  ]

/-- R437 (13_network_ports_failover.md). -/
def odR437 : List OdRow := [
  ⟨0x2610, 6, false, 0x01, 0x01, .enum, .ro, 3, 3, 0, .live, none⟩,  -- 0x2610 + p.01 role
  ⟨0x2610, 6, false, 0x02, 0x02, .bool, .ro, 3, 3, 0, .live, none⟩,  -- 0x2610 + p.02 link_up
  ⟨0x2610, 6, false, 0x03, 0x03, .u 1, .ro, 3, 3, 0, .kept, none⟩,  -- 0x2610 + p.03 failures_1h
  ⟨0x2610, 6, false, 0x04, 0x04, .u 8, .ro, 3, 3, 0, .cleared, none⟩,  -- 0x2610 + p.04 fec_corrected
  ⟨0x2610, 6, false, 0x05, 0x05, .u 8, .ro, 3, 3, 0, .cleared, none⟩,  -- 0x2610 + p.05 fec_uncorrected
  ⟨0x2610, 6, false, 0x06, 0x06, .u 8, .ro, 3, 3, 0, .cleared, none⟩,  -- 0x2610 + p.06 frames_in
  ⟨0x2610, 6, false, 0x07, 0x07, .u 8, .ro, 3, 3, 0, .cleared, none⟩,  -- 0x2610 + p.07 frames_out
  ⟨0x2610, 6, false, 0x08, 0x08, .u 8, .ro, 3, 3, 0, .live, none⟩,  -- 0x2610 + p.08 last_change
  ⟨0x2610, 6, false, 0x09, 0x09, .enum, .ro, 3, 3, 0, .live, none⟩,  -- 0x2610 + p.09 lane_verdict
  ⟨0x2610, 6, false, 0x0A, 0x0A, .oct 16 false, .ro, 3, 3, 0, .live, none⟩,  -- 0x2610 + p.0A rx_power_dbm
  ⟨0x2610, 6, false, 0x0B, 0x0B, .oct 16 false, .ro, 3, 3, 0, .live, none⟩,  -- 0x2610 + p.0B tx_power_dbm
  ⟨0x2610, 6, false, 0x0C, 0x0C, .oct 16 false, .ro, 3, 3, 0, .live, none⟩,  -- 0x2610 + p.0C reflection_db
  ⟨0x2610, 6, false, 0x0D, 0x0D, .u 8, .ro, 3, 3, 0, .live, none⟩,  -- 0x2610 + p.0D diag_time
  ⟨0x2610, 6, false, 0x0E, 0x0E, .oct 6 false, .ro, 3, 3, 0, .fixed, none⟩,  -- 0x2610 + p.0E mac_address
  ⟨0x2610, 6, false, 0x0F, 0x0F, .u 1, .cmd, 3, 3, 0, .status, none⟩,  -- 0x2610 + p.0F run_diagnostics
  ⟨0x2610, 6, false, 0x10, 0x10, .u 1, .cmd, 1, 1, 0, .status, none⟩  -- 0x2610 + p.10 return_to_service
  ]

/-- R438 (13_network_ports_failover.md). -/
def odR438 : List OdRow := [
  ⟨0x2620, 8, false, 0x01, 0x01, .oct 16 false, .rwp, 5, 1, 0, .kept, none⟩,  -- 0x2620 + p.01 t1_address
  ⟨0x2620, 8, false, 0x02, 0x02, .oct 16 false, .rwp, 5, 1, 0, .kept, none⟩,  -- 0x2620 + p.02 fabric_address_0
  ⟨0x2620, 8, false, 0x03, 0x03, .oct 16 false, .rwp, 5, 1, 0, .kept, none⟩,  -- 0x2620 + p.03 fabric_address_1
  ⟨0x2620, 8, false, 0x04, 0x04, .u 2, .rwp, 5, 1, 0, .kept, none⟩,  -- 0x2620 + p.04 channel_base
  ⟨0x2620, 8, false, 0x05, 0x05, .u 2, .rwp, 5, 1, 0, .kept, none⟩  -- 0x2620 + p.05 channel_count
  ]

/-- R474 (15_interrupts_and_counters.md). -/
def odR474 : List OdRow := [
  ⟨0x2900, 1, false, 0x01, 0x01, .u 2, .ro, 3, 3, 1024, .fixed, none⟩,  -- 0x2900.01 sources_per_die
  ⟨0x2900, 1, false, 0x02, 0x02, .u 2, .ro, 3, 3, 416, .fixed, none⟩,  -- 0x2900.02 counters_total
  ⟨0x2900, 1, false, 0x03, 0x03, .u 8, .ro, 3, 3, 0, .cleared, none⟩,  -- 0x2900.03 records_written
  ⟨0x2900, 1, false, 0x04, 0x04, .bits, .rwp, 1, 1, 3068, .kept, none⟩,  -- 0x2900.04 wake_mask
  ⟨0x2900, 1, false, 0x05, 0x05, .u 8, .ro, 3, 3, 0, .cleared, none⟩,  -- 0x2900.05 notify_sent
  ⟨0x2900, 1, false, 0x06, 0x06, .u 8, .ro, 3, 3, 0, .cleared, none⟩,  -- 0x2900.06 notify_dropped
  ⟨0x2900, 1, false, 0x07, 0x07, .u 8, .ro, 3, 3, 0, .cleared, none⟩,  -- 0x2900.07 stack_faults
  ⟨0x2900, 1, false, 0x08, 0x08, .u 8, .rw, 3, 3, 0, .default_, none⟩,  -- 0x2900.08 freeze_time
  ⟨0x2900, 1, false, 0x09, 0x09, .u 1, .cmd, 3, 3, 0, .status, none⟩,  -- 0x2900.09 freeze
  ⟨0x2900, 1, false, 0x0A, 0x0A, .bool, .ro, 3, 3, 0, .cleared, none⟩,  -- 0x2900.0A frozen
  ⟨0x2900, 1, false, 0x0B, 0x0B, .u 1, .cmd, 3, 3, 0, .status, none⟩,  -- 0x2900.0B snapshot
  ⟨0x2900, 1, false, 0x0C, 0x0C, .oct 3392 false, .ro, 3, 3, 0, .notCore, none⟩,  -- 0x2900.0C snapshot_image
  ⟨0x2900, 1, false, 0x0D, 0x0D, .u 8, .ro, 3, 3, 0, .pwr, none⟩,  -- 0x2900.0D island_lost
  ⟨0x2910, 1, false, 0x01, 0x01, .u 2, .rw, 3, 3, 0, .default_, none⟩,  -- 0x2910.01 inspect_source
  ⟨0x2910, 1, false, 0x02, 0x02, .oct 8 false, .ro, 3, 3, 0, .live, none⟩,  -- 0x2910.02 source_control
  ⟨0x2910, 1, false, 0x03, 0x03, .u 8, .ro, 3, 3, 0, .cleared, none⟩,  -- 0x2910.03 source_occurrences
  ⟨0x2910, 1, false, 0x04, 0x04, .u 2, .ro, 3, 3, 0, .live, none⟩,  -- 0x2910.04 source_held
  ⟨0x2910, 1, false, 0x05, 0x05, .u 1, .cmd, 3, 3, 0, .status, none⟩,  -- 0x2910.05 inject
  ⟨0x2920, 1, false, 0x01, 0x01, .u 2, .rw, 7, 7, 0, .default_, (some (0, 415))⟩,  -- 0x2920.01 counter_select
  ⟨0x2920, 1, false, 0x02, 0x02, .oct 8 false, .rw, 7, 7, 0, .live, none⟩,  -- 0x2920.02 counter_control
  ⟨0x2920, 1, false, 0x03, 0x03, .u 8, .rw, 7, 7, 0, .live, (some (0, 281474976710655))⟩,  -- 0x2920.03 counter_threshold
  ⟨0x2920, 1, false, 0x04, 0x04, .u 8, .rw, 7, 7, 0, .live, none⟩,  -- 0x2920.04 counter_value
  ⟨0x2920, 1, false, 0x05, 0x05, .u 1, .rw, 1, 1, 255, .live, none⟩  -- 0x2920.05 counter_assign
  ]

/-- R510 (16_reliability_and_wear.md). -/
def odR510 : List OdRow := [
  ⟨0x2700, 1, false, 0x01, 0x01, .u 2, .ro, 3, 3, 65535, .live, none⟩,  -- 0x2700.01 peol_days
  ⟨0x2700, 1, false, 0x02, 0x02, .enum, .ro, 3, 3, 255, .live, none⟩,  -- 0x2700.02 peol_kind
  ⟨0x2700, 1, false, 0x03, 0x03, .enum, .ro, 3, 3, 0, .live, none⟩,  -- 0x2700.03 peol_forced
  ⟨0x2700, 1, false, 0x04, 0x04, .u 1, .ro, 3, 3, 255, .live, none⟩,  -- 0x2700.04 peol_group
  ⟨0x2700, 1, false, 0x05, 0x05, .u 4, .rwp, 1, 1, 600, .kept, (some (60, 86400))⟩,  -- 0x2700.05 digest_period_s
  ⟨0x2700, 1, false, 0x06, 0x06, .u 2, .rwp, 1, 1, 4000, .kept, (some (500, 16000))⟩,  -- 0x2700.06 digest_rate_mbs
  ⟨0x2700, 1, false, 0x07, 0x07, .u 4, .ro, 3, 3, 0, .kept, none⟩,  -- 0x2700.07 thermal_cycles_eq
  ⟨0x2700, 1, false, 0x08, 0x08, .u 8, .ro, 1, 1, 0, .kept, none⟩,  -- 0x2700.08 detections_total
  ⟨0x2700, 1, false, 0x09, 0x09, .u 2, .rwp, 1, 1, 100, .kept, (some (10, 1000))⟩,  -- 0x2700.09 record_rate
  ⟨0x2701, 1, false, 0x01, 0x01, .u 8, .ro, 3, 3, 0, .kept, none⟩,  -- 0x2701.01 records_total
  ⟨0x2701, 1, false, 0x02, 0x02, .u 4, .ro, 3, 3, 0, .live, none⟩,  -- 0x2701.02 records_held
  ⟨0x2701, 1, false, 0x03, 0x03, .u 8, .ro, 3, 3, 0, .live, none⟩,  -- 0x2701.03 oldest_held
  ⟨0x2701, 1, false, 0x04, 0x04, .u 8, .rw, 3, 3, 0, .default_, none⟩,  -- 0x2701.04 record_select
  ⟨0x2701, 1, false, 0x05, 0x05, .oct 2048 true, .ro, 3, 3, 0, .live, none⟩,  -- 0x2701.05 record_read
  ⟨0x2701, 1, false, 0x06, 0x06, .u 8, .ro, 3, 3, 0, .cleared, none⟩  -- 0x2701.06 records_suppressed
  ]

/-- R511 (16_reliability_and_wear.md). -/
def odR511 : List OdRow := [
  ⟨0x2710, 16, false, 0x01, 0x01, .enum, .ro, 7, 7, 0, .live, none⟩,  -- 0x2710 + b.01 state
  ⟨0x2710, 16, false, 0x02, 0x02, .u 1, .ro, 7, 7, 255, .live, none⟩,  -- 0x2710 + b.02 partition
  ⟨0x2710, 16, false, 0x03, 0x03, .oct 32 false, .ro, 7, 7, 0, .live, none⟩,  -- 0x2710 + b.03 bundle_digest
  ⟨0x2710, 16, false, 0x04, 0x04, .u 2, .ro, 7, 7, 0, .live, none⟩,  -- 0x2710 + b.04 pages
  ⟨0x2710, 16, false, 0x05, 0x05, .oct 32 false, .ro, 7, 7, 0, .live, none⟩,  -- 0x2710 + b.05 load_digest
  ⟨0x2710, 16, false, 0x06, 0x06, .oct 32 false, .ro, 7, 7, 0, .live, none⟩,  -- 0x2710 + b.06 last_digest
  ⟨0x2710, 16, false, 0x07, 0x07, .u 8, .ro, 7, 7, 0, .live, none⟩,  -- 0x2710 + b.07 last_pass
  ⟨0x2710, 16, false, 0x08, 0x08, .enum, .ro, 7, 7, 0, .live, none⟩,  -- 0x2710 + b.08 verdict
  ⟨0x2710, 16, false, 0x09, 0x09, .u 4, .ro, 7, 7, 0, .live, none⟩,  -- 0x2710 + b.09 mismatched_pages
  ⟨0x2710, 16, false, 0x0A, 0x0A, .oct 1048576 true, .ro, 7, 7, 0, .live, none⟩,  -- 0x2710 + b.0A page_digests
  ⟨0x2710, 16, false, 0x0B, 0x0B, .u 1, .cmd, 5, 5, 0, .status, none⟩,  -- 0x2710 + b.0B check_now
  ⟨0x2710, 16, false, 0x0C, 0x0C, .u 1, .cmd, 1, 1, 0, .status, none⟩  -- 0x2710 + b.0C report_mismatch
  ]

/-- R512 (16_reliability_and_wear.md). -/
def odR512 : List OdRow := [
  ⟨0x2740, 8, false, 0x01, 0x01, .str 16, .ro, 3, 3, 0, .fixed, none⟩,  -- 0x2740 + k.01 name
  ⟨0x2740, 8, false, 0x02, 0x02, .u 1, .ro, 3, 3, 0, .fixed, none⟩,  -- 0x2740 + k.02 units
  ⟨0x2740, 8, false, 0x03, 0x03, .f32, .ro, 3, 3, 0, .live, none⟩,  -- 0x2740 + k.03 limit
  ⟨0x2740, 8, false, 0x04, 0x04, .oct 272 true, .ro, 3, 3, 0, .kept, none⟩,  -- 0x2740 + k.04 values
  ⟨0x2740, 8, false, 0x05, 0x05, .oct 272 false, .ro, 3, 3, 0, .kept, none⟩,  -- 0x2740 + k.05 slopes
  ⟨0x2740, 8, false, 0x06, 0x06, .oct 136 false, .ro, 3, 3, 0, .kept, none⟩,  -- 0x2740 + k.06 unit_peol
  ⟨0x2740, 8, false, 0x07, 0x07, .oct 6 true, .ro, 3, 3, 0, .kept, none⟩,  -- 0x2740 + k.07 group_peol
  ⟨0x2740, 8, false, 0x08, 0x08, .u 8, .ro, 3, 3, 0, .live, none⟩  -- 0x2740 + k.08 last_sample
  ]

/-- R513 (16_reliability_and_wear.md). -/
def odR513 : List OdRow := [
  ⟨0x2750, 1, false, 0x01, 0x01, .bits, .ro, 3, 3, 0, .kept, none⟩,  -- 0x2750.01 cores_marked
  ⟨0x2750, 1, false, 0x02, 0x02, .u 1, .rw, 1, 1, 255, .default_, (some (0, 17))⟩,  -- 0x2750.02 swap_core
  ⟨0x2750, 1, false, 0x03, 0x03, .u 1, .cmd, 1, 1, 0, .status, none⟩,  -- 0x2750.03 swap
  ⟨0x2750, 1, false, 0x04, 0x04, .enum, .rw, 3, 3, 0, .default_, (some (1, 3))⟩,  -- 0x2750.04 requalify_kind
  ⟨0x2750, 1, false, 0x05, 0x05, .u 2, .rw, 3, 3, 0, .default_, none⟩,  -- 0x2750.05 requalify_unit
  ⟨0x2750, 1, false, 0x06, 0x06, .u 1, .cmd, 3, 3, 0, .status, none⟩,  -- 0x2750.06 requalify
  ⟨0x2750, 1, false, 0x07, 0x07, .enum, .ro, 3, 3, 0, .default_, none⟩  -- 0x2750.07 requalify_result
  ]

/-- R545 (17_security_and_partitions.md). -/
def odR545 : List OdRow := [
  ⟨0x2800, 1, false, 0x01, 0x01, .u 8, .ro, 3, 3, 1073741824, .fixed, none⟩,  -- 0x2800.01 leaves_total
  ⟨0x2800, 1, false, 0x02, 0x02, .u 8, .ro, 3, 3, 0, .kept, none⟩,  -- 0x2800.02 next_leaf
  ⟨0x2800, 1, false, 0x03, 0x03, .u 8, .ro, 3, 3, 0, .kept, none⟩,  -- 0x2800.03 reserved_to
  ⟨0x2800, 1, false, 0x04, 0x04, .u 8, .ro, 3, 3, 0, .kept, none⟩,  -- 0x2800.04 leaves_skipped
  ⟨0x2800, 1, false, 0x05, 0x05, .bits, .ro, 3, 3, 0, .live, none⟩,  -- 0x2800.05 fuse_state
  ⟨0x2800, 1, false, 0x06, 0x06, .bool, .ro, 3, 3, 0, .pwrMod, none⟩,  -- 0x2800.06 module_debug
  ⟨0x2800, 1, false, 0x07, 0x07, .u 1, .ro, 3, 3, 0, .live, none⟩,  -- 0x2800.07 partitions_active
  ⟨0x2800, 1, false, 0x08, 0x08, .u 8, .ro, 3, 3, 0, .cleared, none⟩,  -- 0x2800.08 reports_signed
  ⟨0x2800, 1, false, 0x09, 0x09, .u 8, .ro, 3, 3, 0, .cleared, none⟩,  -- 0x2800.09 keys_released
  ⟨0x2800, 1, false, 0x0A, 0x0A, .u 8, .ro, 3, 3, 0, .cleared, none⟩,  -- 0x2800.0A releases_refused
  ⟨0x2800, 1, false, 0x0B, 0x0B, .oct 64 false, .ro, 3, 3, 0, .live, none⟩,  -- 0x2800.0B slots_d2d
  ⟨0x2800, 1, false, 0x0C, 0x0C, .oct 64 false, .ro, 3, 3, 0, .live, none⟩,  -- 0x2800.0C slots_fabric
  ⟨0x2800, 1, false, 0x0D, 0x0D, .oct 64 false, .ro, 3, 3, 0, .live, none⟩  -- 0x2800.0D slots_park
  ]

/-- R546 (17_security_and_partitions.md). -/
def odR546 : List OdRow := [
  ⟨0x3000, 1, true, 0x01, 0x01, .enum, .ro, 7, 7, 0, .live, none⟩,  -- W+0x000.01 state
  ⟨0x3000, 1, true, 0x02, 0x02, .oct 32 false, .ro, 7, 7, 0, .live, none⟩,  -- W+0x000.02 owner_identity
  ⟨0x3000, 1, true, 0x03, 0x03, .u 4, .ro, 7, 7, 0, .live, none⟩,  -- W+0x000.03 epoch
  ⟨0x3000, 1, true, 0x04, 0x04, .bool, .ro, 7, 7, 0, .live, none⟩,  -- W+0x000.04 debug_latched
  ⟨0x3000, 1, true, 0x05, 0x05, .bits, .ro, 7, 7, 0, .live, none⟩,  -- W+0x000.05 cores
  ⟨0x3000, 1, true, 0x06, 0x06, .oct 9 false, .ro, 7, 7, 0, .live, none⟩,  -- W+0x000.06 subchannels
  ⟨0x3000, 1, true, 0x07, 0x07, .oct 12 false, .ro, 7, 7, 0, .live, none⟩,  -- W+0x000.07 slices
  ⟨0x3000, 1, true, 0x08, 0x08, .u 1, .ro, 7, 7, 0, .live, none⟩,  -- W+0x000.08 video_engines
  ⟨0x3000, 1, true, 0x09, 0x09, .oct 3 false, .ro, 7, 7, 0, .live, none⟩,  -- W+0x000.09 slots
  ⟨0x3000, 1, true, 0x0A, 0x0A, .u 4, .ro, 7, 7, 0, .cleared, none⟩,  -- W+0x000.0A throttle_episodes
  ⟨0x3000, 1, true, 0x0B, 0x0B, .u 8, .ro, 7, 7, 0, .cleared, none⟩,  -- W+0x000.0B throttle_ms
  ⟨0x3000, 1, true, 0x0C, 0x0C, .u 4, .ro, 3, 3, 0, .cleared, none⟩,  -- W+0x000.0C scrubs
  ⟨0x3000, 1, true, 0x0D, 0x0D, .u 1, .cmd, 1, 1, 0, .status, none⟩,  -- W+0x000.0D scrub
  ⟨0x3010, 4, true, 0x01, 0x01, .oct 60 false, .rwp, 5, 1, 0, .kept, none⟩,  -- W+0x010 + i.01 owner_key
  ⟨0x3010, 4, true, 0x02, 0x02, .str 32, .rwp, 5, 1, 0, .kept, none⟩,  -- W+0x010 + i.02 owner_label
  ⟨0x3020, 1, true, 0x01, 0x07, .u 8, .ro, 7, 7, 0, .partCleared, none⟩,  -- W+0x020.01–.07 serving counts
  ⟨0x3030, 1, true, 0x01, 0x07, .u 8, .ro, 7, 7, 0, .partCleared, none⟩,  -- W+0x030.01–.07 video counts
  ⟨0x3040, 1, true, 0x01, 0x01, .u 8, .ro, 7, 7, 0, .creation, none⟩,  -- W+0x040.01 dram_corrected
  ⟨0x3040, 1, true, 0x02, 0x02, .u 8, .ro, 7, 7, 0, .creation, none⟩,  -- W+0x040.02 dram_uncorrectable
  ⟨0x3040, 1, true, 0x03, 0x03, .u 8, .ro, 7, 7, 0, .creation, none⟩,  -- W+0x040.03 spad_errors
  ⟨0x3040, 1, true, 0x04, 0x04, .u 8, .ro, 7, 7, 0, .creation, none⟩,  -- W+0x040.04 residue_detections
  ⟨0x3050, 1, true, 0x01, 0x90, .u 8, .ro, 7, 7, 0, .live, none⟩,  -- W+0x050.(8c + k − 7) user_counter
  ⟨0x3051, 1, true, 0x01, 0x80, .u 8, .ro, 7, 7, 0, .live, none⟩,  -- W+0x051.(64d + k + 1) die_counter
  ⟨0x3060, 1, true, 0x01, 0x01, .u 8, .rw, 7, 7, 0, .defaultPart, none⟩,  -- W+0x060.01 record_select
  ⟨0x3060, 1, true, 0x02, 0x02, .oct 2048 true, .ro, 7, 7, 0, .live, none⟩  -- W+0x060.02 record_read
  ]

/-- R548 (17_security_and_partitions.md). -/
def odR548 : List OdRow := [
  ⟨0x5000, 1, false, 0x01, 0x01, .u 1, .rw, 3, 3, 255, .default_, none⟩,  -- 0x5000.01 debug_target
  ⟨0x5000, 1, false, 0x02, 0x02, .u 1, .cmd, 3, 3, 0, .status, none⟩,  -- 0x5000.02 debug_open
  ⟨0x5000, 1, false, 0x03, 0x03, .u 8, .rw, 3, 3, 0, .default_, none⟩,  -- 0x5000.03 debug_addr
  ⟨0x5000, 1, false, 0x04, 0x04, .oct 1024 false, .rw, 3, 3, 0, .live, none⟩,  -- 0x5000.04 debug_data
  ⟨0x5000, 1, false, 0x05, 0x05, .bits, .ro, 3, 3, 0, .live, none⟩  -- 0x5000.05 debug_poison
  ]

/-- R569 (18_power_thermal_cabinet_events.md). -/
def odR569 : List OdRow := [
  ⟨0x2000, 1, false, 0x01, 0x01, .enum, .ro, 7, 7, 0, .live, none⟩,  -- 0x2000.01 state
  ⟨0x2000, 1, false, 0x02, 0x02, .u 1, .cmd, 1, 1, 0, .status, none⟩,  -- 0x2000.02 state_request
  ⟨0x2000, 1, false, 0x03, 0x03, .f32, .ro, 3, 3, 0, .live, none⟩,  -- 0x2000.03 input_v
  ⟨0x2000, 1, false, 0x04, 0x04, .f32, .ro, 3, 3, 0, .live, none⟩,  -- 0x2000.04 input_w
  ⟨0x2000, 1, false, 0x05, 0x05, .enum, .ro, 3, 3, 0, .live, none⟩,  -- 0x2000.05 step
  ⟨0x2000, 1, false, 0x06, 0x06, .f32, .ro, 3, 3, 0, .live, none⟩,  -- 0x2000.06 inlet_c
  ⟨0x2000, 1, false, 0x07, 0x07, .f32, .ro, 3, 3, 0, .live, none⟩,  -- 0x2000.07 outlet_c
  ⟨0x2000, 1, false, 0x08, 0x08, .u 8, .ro, 3, 3, 0, .default_, none⟩,  -- 0x2000.08 heartbeat
  ⟨0x2000, 1, false, 0x09, 0x09, .f32, .ro, 3, 3, 0, .live, none⟩,  -- 0x2000.09 junction_max_c
  ⟨0x2000, 1, false, 0x0A, 0x0A, .f32, .ro, 3, 3, 0, .live, none⟩,  -- 0x2000.0A peak_w
  ⟨0x2000, 1, false, 0x0B, 0x0B, .u 8, .ro, 3, 3, 0, .kept, none⟩,  -- 0x2000.0B energy_kj
  ⟨0x2000, 1, false, 0x0C, 0x0C, .u 8, .ro, 3, 3, 0, .live, none⟩  -- 0x2000.0C state_since
  ]

/-- R570 (18_power_thermal_cabinet_events.md). -/
def odR570 : List OdRow := [
  ⟨0x2001, 1, false, 0x01, 0x01, .f32, .rwp, 1, 1, 1056964608, .kept, none⟩,  -- 0x2001.01 outlet_slope_kps
  ⟨0x2001, 1, false, 0x02, 0x02, .u 1, .ro, 3, 3, 95, .fixed, none⟩,  -- 0x2001.02 junction_warm_c
  ⟨0x2001, 1, false, 0x03, 0x03, .u 1, .ro, 3, 3, 105, .fixed, none⟩,  -- 0x2001.03 junction_stop_c
  ⟨0x2001, 1, false, 0x04, 0x04, .u 1, .ro, 3, 3, 50, .fixed, none⟩,  -- 0x2001.04 inlet_limit_c
  ⟨0x2001, 1, false, 0x05, 0x05, .u 2, .rwp, 1, 1, 650, .kept, (some (200, 650))⟩,  -- 0x2001.05 power_limit_w
  ⟨0x2001, 1, false, 0x06, 0x06, .u 4, .ro, 3, 3, 0, .cleared, none⟩,  -- 0x2001.06 episodes
  ⟨0x2001, 1, false, 0x07, 0x07, .u 8, .ro, 3, 3, 0, .cleared, none⟩,  -- 0x2001.07 throttled_ms
  ⟨0x2001, 1, false, 0x08, 0x08, .u 4, .ro, 3, 3, 0, .kept, none⟩,  -- 0x2001.08 thermal_stops
  ⟨0x2001, 1, false, 0x09, 0x09, .u 4, .ro, 3, 3, 0, .kept, none⟩  -- 0x2001.09 stop_sequences
  ]

/-- R571 (18_power_thermal_cabinet_events.md). -/
def odR571 : List OdRow := [
  ⟨0x2002, 1, false, 0x01, 0x01, .u 2, .rwp, 1, 1, 0, .kept, none⟩,  -- 0x2002.01 floor_w
  ⟨0x2002, 1, false, 0x02, 0x02, .u 2, .rwp, 1, 1, 0, .kept, none⟩,  -- 0x2002.02 ramp_w_per_ms
  ⟨0x2002, 1, false, 0x03, 0x03, .f32, .ro, 3, 3, 0, .live, none⟩,  -- 0x2002.03 ballast_w
  ⟨0x2002, 1, false, 0x04, 0x04, .u 2, .ro, 3, 3, 0, .live, none⟩,  -- 0x2002.04 ramp_ceiling_mhz
  ⟨0x2003, 1, false, 0x01, 0x01, .u 4, .rwp, 1, 1, 300, .kept, (some (10, 86400))⟩,  -- 0x2003.01 grace_s
  ⟨0x2003, 1, false, 0x02, 0x02, .u 2, .rwp, 1, 1, 10, .kept, (some (1, 600))⟩,  -- 0x2003.02 drain_timeout_s
  ⟨0x2003, 1, false, 0x03, 0x03, .u 2, .rwp, 1, 1, 10, .kept, (some (1, 60000))⟩,  -- 0x2003.03 idle_entry_ms
  ⟨0x2003, 1, false, 0x04, 0x04, .u 4, .ro, 3, 3, 0, .live, none⟩  -- 0x2003.04 controllers_lost_s
  ]

/-- R572 (18_power_thermal_cabinet_events.md). -/
def odR572 : List OdRow := [
  ⟨0x2010, 8, false, 0x01, 0x01, .u 2, .rwp, 5, 1, 0, .kept, none⟩,  -- 0x2010 + p.01 cap_w
  ⟨0x2010, 8, false, 0x02, 0x02, .f32, .ro, 7, 7, 0, .live, none⟩,  -- 0x2010 + p.02 estimate_w
  ⟨0x2010, 8, false, 0x03, 0x03, .u 8, .ro, 7, 7, 0, .partCleared, none⟩,  -- 0x2010 + p.03 capped_ms
  ⟨0x2010, 8, false, 0x04, 0x04, .u 2, .ro, 7, 7, 0, .live, none⟩  -- 0x2010 + p.04 cap_ceiling_mhz
  ]

/-- R593 (19_reset_startup_recovery.md). -/
def odR593 : List OdRow := [
  ⟨0x2004, 1, false, 0x01, 0x01, .enum, .ro, 3, 3, 0, .kept, none⟩,  -- 0x2004.01 last_kind
  ⟨0x2004, 1, false, 0x02, 0x02, .enum, .ro, 3, 3, 0, .kept, none⟩,  -- 0x2004.02 last_cause
  ⟨0x2004, 1, false, 0x03, 0x03, .u 8, .ro, 3, 3, 0, .kept, none⟩,  -- 0x2004.03 last_park_clock_s
  ⟨0x2004, 1, false, 0x04, 0x04, .u 1, .ro, 3, 3, 0, .kept, none⟩,  -- 0x2004.04 counted_in_hour
  ⟨0x2004, 1, false, 0x05, 0x05, .enum, .ro, 3, 3, 0, .kept, none⟩,  -- 0x2004.05 oos_reason
  ⟨0x2004, 1, false, 0x06, 0x06, .u 4, .ro, 3, 3, 0, .kept, none⟩,  -- 0x2004.06 resets_total
  ⟨0x2004, 1, false, 0x07, 0x07, .u 1, .rw, 3, 3, 0, .default_, none⟩,  -- 0x2004.07 history_select
  ⟨0x2004, 1, false, 0x08, 0x08, .oct 32 false, .ro, 3, 3, 0, .live, none⟩,  -- 0x2004.08 history_record
  ⟨0x2004, 1, false, 0x09, 0x09, .u 1, .cmd, 1, 1, 0, .status, none⟩,  -- 0x2004.09 mod_reset
  ⟨0x2004, 1, false, 0x0A, 0x0A, .u 1, .cmd, 1, 1, 0, .status, none⟩,  -- 0x2004.0A warm_reset
  ⟨0x2004, 1, false, 0x0B, 0x0B, .u 1, .cmd, 1, 1, 0, .status, none⟩,  -- 0x2004.0B return_to_service
  ⟨0x2004, 1, false, 0x0C, 0x0C, .bool, .rwp, 1, 1, 1, .kept, none⟩,  -- 0x2004.0C sample_spad
  ⟨0x2004, 1, false, 0x0D, 0x0D, .u 8, .ro, 3, 3, 0, .kept, none⟩,  -- 0x2004.0D sample_latest
  ⟨0x2004, 1, false, 0x0E, 0x0E, .u 8, .rw, 3, 3, 0, .default_, none⟩,  -- 0x2004.0E sample_select
  ⟨0x2004, 1, false, 0x0F, 0x0F, .oct 4792384 true, .ro, 3, 3, 0, .live, none⟩  -- 0x2004.0F sample_read
  ]

/-- R618 (20_update_and_persistent_store.md). -/
def odR618 : List OdRow := [
  ⟨0x2A00, 1, false, 0x01, 0x01, .enum, .ro, 3, 3, 0, .live, none⟩,  -- 0x2A00.01 active_bank
  ⟨0x2A00, 1, false, 0x02, 0x02, .u 8, .ro, 3, 3, 0, .kept, none⟩,  -- 0x2A00.02 sequence
  ⟨0x2A00, 1, false, 0x03, 0x03, .u 4, .ro, 3, 3, 0, .live, none⟩,  -- 0x2A00.03 bank_a_free
  ⟨0x2A00, 1, false, 0x04, 0x04, .u 4, .ro, 3, 3, 0, .live, none⟩,  -- 0x2A00.04 bank_b_free
  ⟨0x2A00, 1, false, 0x05, 0x05, .u 4, .ro, 3, 3, 0, .kept, none⟩,  -- 0x2A00.05 erases_a
  ⟨0x2A00, 1, false, 0x06, 0x06, .u 4, .ro, 3, 3, 0, .kept, none⟩,  -- 0x2A00.06 erases_b
  ⟨0x2A00, 1, false, 0x07, 0x07, .u 8, .ro, 3, 3, 0, .kept, none⟩,  -- 0x2A00.07 commits
  ⟨0x2A00, 1, false, 0x08, 0x08, .u 8, .ro, 3, 3, 0, .kept, none⟩,  -- 0x2A00.08 commit_failures
  ⟨0x2A00, 1, false, 0x09, 0x09, .u 4, .ro, 3, 3, 0, .kept, none⟩,  -- 0x2A00.09 stop_records
  ⟨0x2A00, 1, false, 0x0A, 0x0A, .u 2, .ro, 3, 3, 0, .live, none⟩,  -- 0x2A00.0A settings_version
  ⟨0x2A00, 1, false, 0x0B, 0x0B, .enum, .ro, 3, 3, 0, .live, none⟩  -- 0x2A00.0B compaction
  ]

/-- R619 (20_update_and_persistent_store.md). -/
def odR619 : List OdRow := [
  ⟨0x2A10, 1, false, 0x01, 0x01, .u 8, .rwp, 3, 3, 0, .kept, none⟩,  -- 0x2A10.01 stage_id
  ⟨0x2A10, 1, false, 0x02, 0x02, .enum, .rwp, 3, 3, 1, .kept, (some (1, 2))⟩,  -- 0x2A10.02 stage_kind
  ⟨0x2A10, 1, false, 0x03, 0x03, .u 4, .rwp, 3, 3, 4096, .kept, none⟩,  -- 0x2A10.03 stage_bytes
  ⟨0x2A10, 1, false, 0x04, 0x04, .u 1, .cmd, 3, 3, 0, .status, none⟩,  -- 0x2A10.04 stage_control
  ⟨0x2A10, 1, false, 0x05, 0x05, .enum, .ro, 3, 3, 0, .kept, none⟩,  -- 0x2A10.05 stage_state
  ⟨0x2A10, 1, false, 0x06, 0x06, .oct 65540 true, .wo, 3, 3, 0, .fixed, none⟩,  -- 0x2A10.06 chunk
  ⟨0x2A10, 1, false, 0x07, 0x07, .u 4, .ro, 3, 3, 0, .kept, none⟩,  -- 0x2A10.07 chunks_total
  ⟨0x2A10, 1, false, 0x08, 0x08, .u 4, .ro, 3, 3, 0, .kept, none⟩,  -- 0x2A10.08 chunks_received
  ⟨0x2A10, 1, false, 0x09, 0x09, .u 4, .ro, 3, 3, 0, .kept, none⟩,  -- 0x2A10.09 next_missing
  ⟨0x2A10, 1, false, 0x0A, 0x0A, .oct 2048 true, .ro, 3, 3, 0, .kept, none⟩,  -- 0x2A10.0A missing_map
  ⟨0x2A10, 1, false, 0x0B, 0x0B, .enum, .ro, 3, 3, 0, .kept, none⟩,  -- 0x2A10.0B last_result
  ⟨0x2A10, 1, false, 0x0C, 0x0C, .u 8, .ro, 3, 3, 0, .kept, none⟩  -- 0x2A10.0C last_result_park_s
  ]

/-- R620 (20_update_and_persistent_store.md). -/
def odR620 : List OdRow := [
  ⟨0x2A20, 1, false, 0x01, 0x01, .enum, .ro, 3, 3, 0, .kept, none⟩,  -- 0x2A20.01 platform_active
  ⟨0x2A20, 1, false, 0x02, 0x02, .enum, .ro, 3, 3, 0, .kept, none⟩,  -- 0x2A20.02 platform_a_state
  ⟨0x2A20, 1, false, 0x03, 0x03, .enum, .ro, 3, 3, 0, .kept, none⟩,  -- 0x2A20.03 platform_b_state
  ⟨0x2A20, 1, false, 0x04, 0x04, .str 32, .ro, 3, 3, 0, .kept, none⟩,  -- 0x2A20.04 platform_a_version
  ⟨0x2A20, 1, false, 0x05, 0x05, .str 32, .ro, 3, 3, 0, .kept, none⟩,  -- 0x2A20.05 platform_b_version
  ⟨0x2A20, 1, false, 0x06, 0x06, .enum, .ro, 3, 3, 0, .kept, none⟩,  -- 0x2A20.06 runtime_active
  ⟨0x2A20, 1, false, 0x07, 0x07, .enum, .ro, 3, 3, 0, .kept, none⟩,  -- 0x2A20.07 runtime_a_state
  ⟨0x2A20, 1, false, 0x08, 0x08, .enum, .ro, 3, 3, 0, .kept, none⟩,  -- 0x2A20.08 runtime_b_state
  ⟨0x2A20, 1, false, 0x09, 0x09, .str 32, .ro, 3, 3, 0, .kept, none⟩,  -- 0x2A20.09 runtime_a_version
  ⟨0x2A20, 1, false, 0x0A, 0x0A, .str 32, .ro, 3, 3, 0, .kept, none⟩,  -- 0x2A20.0A runtime_b_version
  ⟨0x2A20, 1, false, 0x0B, 0x0B, .u 4, .rwp, 1, 1, 900, .kept, (some (60, 86400))⟩,  -- 0x2A20.0B probation_s
  ⟨0x2A20, 1, false, 0x0C, 0x0C, .u 4, .ro, 3, 3, 0, .kept, none⟩,  -- 0x2A20.0C probation_left_s
  ⟨0x2A20, 1, false, 0x0D, 0x0D, .bool, .ro, 3, 3, 0, .kept, none⟩,  -- 0x2A20.0D health_seen
  ⟨0x2A20, 1, false, 0x0E, 0x0E, .enum, .ro, 3, 3, 0, .kept, none⟩,  -- 0x2A20.0E recovery_reason
  ⟨0x2A20, 1, false, 0x0F, 0x0F, .u 1, .cmd, 3, 3, 0, .status, none⟩,  -- 0x2A20.0F use_previous
  ⟨0x2A20, 1, false, 0x10, 0x10, .u 4, .ro, 3, 3, 0, .kept, none⟩  -- 0x2A20.10 fallbacks
  ]

/-- Every entry. -/
def odTable : List OdRow :=
  odR144
    ++ odR145
    ++ odR180
    ++ odR217
    ++ odR218
    ++ odR219
    ++ odR250
    ++ odR279
    ++ odR310
    ++ odR346
    ++ odR347
    ++ odR374
    ++ odR375
    ++ odR399
    ++ odR400
    ++ odR401
    ++ odR402
    ++ odR403
    ++ odR404
    ++ odR436
    ++ odR437
    ++ odR438
    ++ odR474
    ++ odR510
    ++ odR511
    ++ odR512
    ++ odR513
    ++ odR545
    ++ odR546
    ++ odR548
    ++ odR569
    ++ odR570
    ++ odR571
    ++ odR572
    ++ odR593
    ++ odR618
    ++ odR619
    ++ odR620

end Sys2Proof.Machine
end

