-- ==== Sys2Proof/Machine/Ops.lean ====
section
/-!
DEFINITION. Operations on memories, entries and the plain parts of the state. Every other file of Machine/ goes
through these.
-/
namespace Sys2Proof.Machine

open Sys2Proof

/-! ### Byte memories -/

def cellFind : List Host.Cell → Nat → Option Byte
  | [], _ => none
  | (k, v) :: m, i => if k = i then some v else if i < k then none else cellFind m i

def cellPut : List Host.Cell → Nat → Byte → List Host.Cell
  | [], i, x => [(i, x)]
  | (k, v) :: m, i, x =>
    if k = i then (i, x) :: m else if i < k then (i, x) :: (k, v) :: m else (k, v) :: cellPut m i x

def cellDel : List Host.Cell → Nat → List Host.Cell
  | [], _ => []
  | (k, v) :: m, i => if k = i then m else if i < k then (k, v) :: m else (k, v) :: cellDel m i

/-- What an unlisted byte reads as (R194, R63, R577). -/
def Mem.unlisted (m : Mem) (a : Nat) : Byte :=
  match m.fill with
  | .zeros => 0
  | .unwritten k => Config.freeByte k a

/-- One byte. -/
def Mem.byte (m : Mem) (a : Nat) : Byte := (cellFind m.cells a).getD (m.unlisted a)

/-- Write one byte, keeping the canonical form. -/
def Mem.put (m : Mem) (a : Nat) (b : Byte) : Mem :=
  match m.fill with
  | .zeros => if b = 0 then { m with cells := cellDel m.cells a } else { m with cells := cellPut m.cells a b }
  | .unwritten _ => { m with cells := cellPut m.cells a b }

/-- `n` bytes from `a`. -/
def Mem.read (m : Mem) : Nat → Nat → List Byte
  | _, 0 => []
  | a, n + 1 => m.byte a :: m.read (a + 1) n

/-- Write bytes from `a`, leaving poison marks alone. -/
def Mem.write (m : Mem) (a : Nat) : List Byte → Mem
  | [] => m
  | b :: bs => (m.put a b).write (a + 1) bs

/-- The 64-byte lines that `n` bytes from `a` touch. -/
def linesOf (a n : Nat) : List Nat :=
  if n = 0 then [] else (upto ((a + n - 1) / 64 - a / 64 + 1)).map (· + a / 64)

def Mem.lineBad (m : Mem) (line : Nat) : Bool := hasNat m.poison line

def Mem.setLine (m : Mem) (line : Nat) (bad : Bool) : Mem :=
  { m with poison := if bad then insertNat m.poison line else removeNat m.poison line }

/-- Some line of the extent is poisoned. -/
def Mem.bad (m : Mem) (a n : Nat) : Bool := (linesOf a n).any m.lineBad

/-- Mark every line of the extent. -/
def Mem.setBad (m : Mem) (a n : Nat) (bad : Bool) : Mem :=
  (linesOf a n).foldl (fun m l => m.setLine l bad) m

/-- A write of bytes with their poison marks (R192, R63): a whole line takes the data's mark, a line written in part
keeps its own or gains the data's. -/
def Mem.store (m : Mem) (a : Nat) (bs : List (Byte × Bool)) : Mem :=
  let w := m.write a (bs.map (·.1))
  (linesOf a bs.length).foldl (fun w l =>
    let lo := 64 * l
    let mark := (List.zipIdx bs).any (fun x => x.1.2 && decide (lo ≤ a + x.2) && decide (a + x.2 < lo + 64))
    let whole := decide (a ≤ lo) && decide (lo + 64 ≤ a + bs.length)
    w.setLine l (mark || (!whole && m.lineBad l))) w

/-- A read of bytes with the mark of their line. -/
def Mem.load (m : Mem) : Nat → Nat → List (Byte × Bool)
  | _, 0 => []
  | a, n + 1 => (m.byte a, m.lineBad (a / 64)) :: m.load (a + 1) n

/-- The canonical form: addresses rise strictly, a memory of zeros lists no zero, marks rise strictly. -/
def Mem.wf (m : Mem) : Bool :=
  AMap.sorted m.cells && risingNat m.poison &&
    (match m.fill with
     | .zeros => m.cells.all (fun c => decide (c.2 ≠ 0))
     | .unwritten _ => true)

def clean (bs : List Byte) : List (Byte × Bool) := bs.map (fun b => (b, false))

/-! ### Parts by number -/

def State.core (s : State) (n : Nat) : Core := s.cores.getD n {}
def State.putCore (s : State) (n : Nat) (c : Core) : State := s.setCores (s.cores.put n c)
def State.updCore (s : State) (n : Nat) (f : Core → Core) : State := s.putCore n (f (s.core n))
/-- A context that nothing has written since its range was filled with zeros (R179). -/
def State.blankQueue (s : State) (q : Nat) : Queue :=
  if s.queueZero.any (fun r => decide (r.1 ≤ q) && decide (q < r.1 + r.2)) then { doneSeq := 0 } else {}
def State.queue (s : State) (q : Nat) : Queue := (s.queues.find q).getD (s.blankQueue q)
def State.putQueue (s : State) (q : Nat) (x : Queue) : State := s.setQueues (s.queues.put q x)
def State.updQueue (s : State) (q : Nat) (f : Queue → Queue) : State := s.putQueue q (f (s.queue q))
def State.sub (s : State) (n : Nat) : Sub := s.dram.getD n {}
def State.putSub (s : State) (n : Nat) (x : Sub) : State := s.setDram (s.dram.put n x)
def State.updSub (s : State) (n : Nat) (f : Sub → Sub) : State := s.putSub n (f (s.sub n))
def State.part (s : State) (p : Nat) : Part := s.parts.getD p {}
def State.putPart (s : State) (p : Nat) (x : Part) : State := s.setParts (s.parts.put p x)
def State.updPart (s : State) (p : Nat) (f : Part → Part) : State := s.putPart p (f (s.part p))
def State.sem (s : State) (n : Nat) : Sem := s.sems.getD n {}
def State.putSem (s : State) (n : Nat) (x : Sem) : State := s.setSems (s.sems.put n x)
def State.engine (s : State) (e : Nat) : VEngine := s.video.getD e {}
def State.putEngine (s : State) (e : Nat) (x : VEngine) : State := s.setVideo (s.video.put e x)
def State.session (s : State) (n : Nat) : Session := s.sess.getD n {}
def State.putSession (s : State) (n : Nat) (x : Session) : State := s.setSess (s.sess.put n x)
def State.mbx (s : State) (die m : Nat) : Mbx := s.fw.mbx.getD (64 * die + m) {}
def State.putMbx (s : State) (die m : Nat) (x : Mbx) : State :=
  s.setFw { s.fw with mbx := s.fw.mbx.put (64 * die + m) x }
def State.comp (s : State) (die c : Nat) : Comp := s.fw.comps.getD (16 * die + c) {}
def State.putComp (s : State) (die c : Nat) (x : Comp) : State :=
  s.setFw { s.fw with comps := s.fw.comps.put (16 * die + c) x }
def State.rsess (s : State) (j : Nat) : RSess := s.ryc.sess.getD j {}
def State.putRsess (s : State) (j : Nat) (x : RSess) : State := s.setRyc { s.ryc with sess := s.ryc.sess.put j x }
def State.port (s : State) (p : Nat) : Port := s.net.ports.getD p {}
def State.putPort (s : State) (p : Nat) (x : Port) : State := s.setNet { s.net with ports := s.net.ports.put p x }
def State.link (s : State) (l : Nat) : Link := s.net.links.getD l {}
def State.putLink (s : State) (l : Nat) (x : Link) : State := s.setNet { s.net with links := s.net.links.put l x }
def State.source (s : State) (die n : Nat) : Source := s.ev.src.getD (1024 * die + n) {}
def State.putSource (s : State) (die n : Nat) (x : Source) : State :=
  s.setEv { s.ev with src := s.ev.src.put (1024 * die + n) x }
def State.irq (s : State) (c : Nat) : Irq := s.ev.irq.getD c {}
def State.putIrq (s : State) (c : Nat) (x : Irq) : State := s.setEv { s.ev with irq := s.ev.irq.put c x }
def State.ctr (s : State) (c : Nat) : Ctr := s.ev.ctr.getD c {}
def State.putCtr (s : State) (c : Nat) (x : Ctr) : State := s.setEv { s.ev with ctr := s.ev.ctr.put c x }
def State.trig (s : State) (t : Nat) : Trig := s.pow.trig.getD t {}
def State.putTrig (s : State) (t : Nat) (x : Trig) : State := s.setPow { s.pow with trig := s.pow.trig.put t x }
def State.moduleMem (s : State) (die : Nat) : Mem := s.modMem.getD die { fill := .unwritten (128 * s.modKey + 68 + die) }
def State.bundle (s : State) (b : Nat) : Option Bundle := s.rel.bundles.find b
def State.putBundle (s : State) (b : Nat) (x : Bundle) : State :=
  s.setRel { s.rel with bundles := s.rel.bundles.put b x }

/-! ### Free values, outputs, time -/

/-- Draw a free number (log 1). -/
def State.drawNat (s : State) : Nat × State := (Config.freeNat s.free, s.setFree (s.free + 1))
def State.drawBool (s : State) : Bool × State := (Config.freeBool s.free, s.setFree (s.free + 1))

/-- A free number from lo to hi. -/
def State.drawIn (s : State) (lo hi : Nat) : Nat × State :=
  let (k, s) := s.drawNat
  (lo + k % (hi - lo + 1), s)

/-- A free number of either sign. -/
def State.drawInt (s : State) : Int × State :=
  let (a, s) := s.drawNat
  let (b, s) := s.drawBool
  (if b then -(a : Int) else a, s)

def State.emit (s : State) (o : Output) : State := s.setOut (s.out ++ [o])

/-- The timebase: counts of 4 ns (R439, R440). -/
def State.now (s : State) : Nat := s.time.base.toNat / 2 ^ 32

/-- Counts of the timebase in a microsecond, a millisecond and a second (R439). -/
def us : Nat := 250
def ms : Nat := 250000
def second : Nat := 250000000

/-- The limits of codes 1–7 of R167, in counts. -/
def limitOf (code : Nat) : Nat :=
  match code with
  | 1 => 10 * us
  | 2 => 100 * us
  | 3 => ms
  | 4 => 10 * ms
  | 5 => 100 * ms
  | 6 => second
  | 7 => 10 * second
  | _ => 0

/-- The code of R11. -/
def Mode.code : Mode → Nat
  | .off => 0 | .boot => 1 | .train => 2 | .awaitRuntime => 3 | .ready => 4 | .serving => 5 | .draining => 6
  | .standby => 7 | .parked => 8 | .recovery => 9 | .refused => 10 | .outOfService => 11

/-- STANDBY and PARKED: the dies are off, the islands run (R13, R465). -/
def State.asleep (s : State) : Bool := s.mode = .standby || s.mode = .parked

/-- The module has input power: the islands, and with them the 32.768 kHz clock, run (R29, R213). -/
def State.powered (s : State) : Bool :=
  match s.tray.phase with
  | .unpowered => false
  | _ => true

/-! ### Object-dictionary storage -/

/-- The eight windows share one table (R546). -/
def odNorm (index : Nat) : Nat := if 0x3000 ≤ index && index < 0x4000 then 0x3000 + (index - 0x3000) % 0x200 else index

def OdRow.covers (r : OdRow) (index sub : Nat) : Bool :=
  let i := odNorm index
  decide (r.base ≤ i) && decide (i < r.base + r.count) && decide (r.subLo ≤ sub) && decide (sub ≤ r.subHi)

def odFind (index sub : Nat) : Option OdRow := odTable.find? (fun r => r.covers index sub)

/-- The index names a record (R377). -/
def odHasIndex (index : Nat) : Bool :=
  odTable.any (fun r => decide (r.base ≤ odNorm index) && decide (odNorm index < r.base + r.count))

/-- The default of an entry; slot 15 of the credentials is written at manufacture (R401). -/
def odDefault (index sub : Nat) : Nat :=
  if index = 0x111F && sub = 1 then 2
  else match odFind index sub with
    | some r => r.dflt
    | none => 0

def odKey (index sub : Nat) : Nat := 256 * index + sub

/-- The stored value of an entry, its default where none is listed. -/
def State.odGet (s : State) (index sub : Nat) : Nat :=
  match s.od.find (odKey index sub) with
  | some v => v
  | none => odDefault index sub

def State.odSet (s : State) (index sub v : Nat) : State := s.setOd (s.od.put (odKey index sub) v)

/-- Advance a count, modulo the width of its entry. -/
def State.odInc (s : State) (index sub n : Nat) : State :=
  let w := match odFind index sub with
    | some r => (match r.ty with | .u b => 8 * b | _ => 64)
    | none => 64
  s.odSet index sub ((s.odGet index sub + n) % 2 ^ w)

/-! ### Entries at resets (R577, the Reset columns) -/

/-- Drop the stored values of entries whose row meets `p`: they read as their defaults. -/
def State.odDrop (s : State) (p : Nat → OdRow → Bool) : State :=
  s.setOd (s.od.only (fun k _ => match odFind (k / 256) (k % 256) with
    | some r => !p (k / 256) r
    | none => true))

/-- Statuses of cmd entries read 0 at every reset kind (log 142). -/
def State.clearStatuses (s : State) : State := s.odDrop (fun _ r => decide (r.reset = .status))

/-- Counts of core n that a reset of it clears (R145, R250). -/
def State.clearCoreEntries (s : State) (n : Nat) : State :=
  s.odDrop (fun ix r => decide (r.reset = .coreCleared) && decide (ix = 0x2110 + n))

/-! ### The fixed numbering of R4 -/

def dieOfCore (n : Nat) : Nat := if n < 9 then 0 else 1
def dieOfSub (n : Nat) : Nat := if n < 34 then 0 else 1
def dieOfApp (n : Nat) : Nat := if n < 8 then 0 else 1
def dieOfFw (n : Nat) : Nat := if n < 4 then 0 else 1
/-- The module's number of a die's subchannel (R4). -/
def subNumber (die : Die) (sub : Fin 34) : Nat := 34 * die.toNat + sub.val
/-- The module's number of a die's application core (R4). -/
def appNumber (die : Die) (core : BitVec 3) : Nat := 8 * die.toNat + core.toNat
/-- Engine e of R347: decoders 0, 1 and encoder 4 east, decoders 2, 3 and encoder 5 west. -/
def dieOfEngine (e : Nat) : Nat := if e < 2 || e = 4 then 0 else 1
def dieOfQueue (q : Nat) : Nat := q / 65536
/-- Ports A, F0, F1 lie on the east die, B, F2, F3 on the west (R405). -/
def dieOfPort (p : Nat) : Nat := if p = 0 || p = 2 || p = 3 then 0 else 1
/-- The link of a port (R405). -/
def linkOfPort (p : Nat) : Nat := if p < 2 then 0 else if p = 2 || p = 4 then 1 else 2
/-- The ports of a link, in the order of R405. -/
def portsOfLink (l : Nat) : List Nat := if l = 0 then [0, 1] else if l = 1 then [2, 4] else [3, 5]
def homeDie (l : Nat) : Nat := if l = 2 then 1 else 0

/-- The partition that owns a core, a subchannel, a slice or an engine (R525). -/
def State.ownerBy (s : State) (f : Part → Bool) : Option Nat :=
  (upto 8).find? (fun p => (s.part p).state ≠ .free && f (s.part p))
def State.coreOwner (s : State) (n : Nat) : Option Nat := s.ownerBy (fun x => x.cores.getLsbD n)
def State.subOwner (s : State) (n : Nat) : Option Nat := s.ownerBy (fun x => x.subs.getLsbD n)
def State.sliceOwner (s : State) (n : Nat) : Option Nat := s.ownerBy (fun x => x.slices.getLsbD n)

/-- Firmware cores of a die that are online (R361). -/
def State.fwOnline (s : State) (die : Nat) : List Nat :=
  (upto 8).filter (fun n => decide (dieOfFw n = die) && !hasNat s.fw.fwOffline n)

/-- Queues by number that satisfy a predicate. -/
def State.queueIds (s : State) (p : Nat → Queue → Bool) : List Nat := (s.queues.only p).map (·.1)

end Sys2Proof.Machine
end

