-- ==== Sys2Proof/Machine/Ecc.lean ====
section
/-!
DEFINITION. The codes that protect memory: the Reed–Solomon code of a DDR5 line with its poison form (06 R190–R192),
encryption of the line (R193, R194), the SEC-DED code of a scratchpad word (04 R118), and what a read of an upset line
does to it.
-/
namespace Sys2Proof.Machine

open Sys2Proof

/-! ### GF(2¹⁶) with x¹⁶ + x¹² + x³ + x + 1 (R190) -/

/-- Multiply by α. -/
def gfX (a : Nat) : Nat := let b := 2 * a; if b < 65536 then b else b ^^^ 0x1100B

def gfMulGo (a b : Nat) : Nat → Nat → Nat
  | 0, acc => acc
  | n + 1, acc => gfMulGo a b n (gfX acc ^^^ (if b.testBit n then a else 0))

def gfMul (a b : Nat) : Nat := if a = 0 || b = 0 then 0 else gfMulGo a b 16 0

/-- αᵏ. -/
def gfPow : Nat → Nat
  | 0 => 1
  | k + 1 => gfX (gfPow k)

/-- (α⁻¹)ᵏ. -/
def gfPowNeg : Nat → Nat
  | 0 => 1
  | k + 1 => gfMul 0x8805 (gfPowNeg k)

def gfInvGo : Nat → Nat → Nat → Nat
  | 0, _, r => r
  | n + 1, s, r => let t := gfMul s s; gfInvGo n t (gfMul r t)

/-- The inverse of a non-zero element: its power 2¹⁶ − 2. -/
def gfInv (a : Nat) : Nat := gfInvGo 15 a 1

/-! ### The codeword: 40 lanes of 16 beats (R190) -/

/-- The symbol of a lane, in 640 bits that hold lane ℓ at bit 16 ℓ. -/
def laneSym (v l : Nat) : Nat := fld v (16 * l) 16

/-- The coefficient that a lane carries. -/
def lanePos (l : Nat) : Nat := if l < 32 then l + 8 else l - 32
def posLane (p : Nat) : Nat := if p < 8 then p + 32 else p - 8

/-- The bit of a 64-byte line that lane ℓ carries at beat b: beat b carries the line's bytes 4b to 4b + 3 (log 135). -/
def lineBit (l b : Nat) : Nat := 32 * b + l

/-- The data symbols of a line, lane by lane. -/
def toLanes (line : Nat) : Nat :=
  (upto 32).foldl (fun v l => v + at' (16 * l) ((upto 16).foldl (fun x b => x + at' b (fld line (lineBit l b) 1)) 0)) 0

def ofLanes (v : Nat) : Nat :=
  (upto 16).foldl (fun x b => x + at' (32 * b) ((upto 32).foldl (fun y l => y + at' l (fld v (16 * l + b) 1)) 0)) 0

/-- The generator (x + α⁰)(x + α¹)…(x + α⁷), its coefficients from x⁰, without the leading 1. -/
def rsGen : List Nat := [0xABBB, 0xD200, 0x74E8, 0xD29A, 0x2D33, 0xC162, 0x3366, 0x00FF]

/-- One step of the division by g: the next data symbol enters at the top. -/
def rsDivide (r : List Nat) (sym : Nat) : List Nat :=
  let f := sym ^^^ r.getLastD 0
  List.zipWith (fun a g => a ^^^ gfMul f g) (0 :: r.dropLast) rsGen

/-- The check symbols: the remainder of d(x) x⁸ divided by g(x). -/
def rsChecks (data : Nat) : List Nat :=
  (upto 32).foldl (fun r i => rsDivide r (laneSym data (31 - i))) (List.replicate 8 0)

/-- The codeword of data symbols. -/
def rsEncode (data : Nat) : Nat :=
  data + (List.zipIdx (rsChecks data)).foldl (fun v x => v + at' (512 + 16 * x.2) x.1) 0

/-- The poison form: each check symbol XORed with 0xA5A5 (R192). -/
def poisonMask : Nat := (upto 8).foldl (fun v i => v + at' (512 + 16 * i) 0xA5A5) 0

/-! ### The decoder (R191) -/

/-- Syndrome j: the word at x = αʲ. -/
def rsSyndrome (v j : Nat) : Nat :=
  (upto 40).foldl (fun a l => a ^^^ gfMul (laneSym v l) (gfPow (j * lanePos l))) 0

def rsSyndromes (v : Nat) : List Nat := (upto 8).map (rsSyndrome v)

def polyXor : List Nat → List Nat → List Nat
  | [], b => b
  | a, [] => a
  | x :: a, y :: b => (x ^^^ y) :: polyXor a b

def polyEval (p : List Nat) (x : Nat) : Nat := p.foldr (fun c a => gfMul a x ^^^ c) 0

/-- Berlekamp–Massey: the connection polynomial, the one before, the length, the shift, the last discrepancy. -/
structure BmState where
  c : List Nat := [1]
  b : List Nat := [1]
  len : Nat := 0
  shift : Nat := 1
  last : Nat := 1

def bmStep (syn : List Nat) (t : BmState) (n : Nat) : BmState :=
  let d := (upto (t.len + 1)).foldl (fun a i => a ^^^ gfMul (t.c.getD i 0) (if i ≤ n then syn.getD (n - i) 0 else 0)) 0
  if d = 0 then { t with shift := t.shift + 1 }
  else
    let k := gfMul d (gfInv t.last)
    let c := polyXor t.c (List.replicate t.shift 0 ++ t.b.map (gfMul k))
    if 2 * t.len ≤ n then { c := c, b := t.c, len := n + 1 - t.len, shift := 1, last := d }
    else { t with c := c, shift := t.shift + 1 }

/-- The locator polynomial of at most four bad symbols, where one fits. -/
def rsLocator (syn : List Nat) : Option (List Nat) :=
  let t := (upto 8).foldl (bmStep syn) {}
  if t.len = 0 || 4 < t.len then none else some (t.c.take (t.len + 1))

/-- The error evaluator S(x) Λ(x), below the number of bad symbols. -/
def rsEvaluator (syn loc : List Nat) : List Nat :=
  (upto (loc.length - 1)).map (fun k => (upto (k + 1)).foldl (fun a i => a ^^^ gfMul (loc.getD i 0) (syn.getD (k - i) 0)) 0)

/-- The formal derivative of a polynomial at x. -/
def polyDeriv (p : List Nat) (x : Nat) : Nat :=
  polyEval ((List.zipIdx (p.drop 1)).map (fun c => if c.2 % 2 = 0 then c.1 else 0)) x

/-- The value of the bad symbol at position p, 0 where the locator has no root there. -/
def rsValue (loc om : List Nat) (p : Nat) : Nat :=
  let x := gfPowNeg p
  if polyEval loc x = 0 then gfMul (gfMul (gfPow p) (polyEval om x)) (gfInv (polyDeriv loc x)) else 0

/-- The pattern of one to four bad symbols that a syndrome is consistent with. -/
def rsPattern (syn : List Nat) : Option Nat :=
  match rsLocator syn with
  | none => none
  | some loc =>
    let om := rsEvaluator syn loc
    let v := (upto 40).foldl (fun v p => v + at' (16 * posLane p) (rsValue loc om p)) 0
    if rsSyndromes v = syn then some v else none

/-- The rows of R191. -/
inductive LineRead where
  | clean | poisoned | corrected | poisonCorrected | uncorrectable
  deriving DecidableEq, Repr

def LineRead.marks : LineRead → Bool
  | .clean | .corrected => false
  | .poisoned | .poisonCorrected | .uncorrectable => true

/-- A read of a word that differs from the line's codeword by `v`: the row of R191, and the difference that the
delivered and written-back word still has. -/
def rsRead (v : Nat) : LineRead × Nat :=
  let syn := rsSyndromes v
  let bad := rsSyndromes poisonMask
  if syn.all (· = 0) then (.clean, v)
  else if syn = bad then (.poisoned, v)
  else match rsPattern syn with
    | some d => (.corrected, v ^^^ d)
    | none => match rsPattern (List.zipWith (· ^^^ ·) syn bad) with
      | some d => (.poisonCorrected, v ^^^ d)
      | none => (.uncorrectable, v)

/-! ### Where a line lives (R185, R186) -/

def lineRow (line : Nat) : Nat := fld line 11 16
def lineBank (line : Nat) : Nat := fld line 9 2
def lineColumn (line : Nat) : Nat := fld line 3 6
def lineGroup (line : Nat) : Nat := fld line 0 3

/-- A row of a subchannel: row, bank group and bank as one number. -/
def rowOfLine (line : Nat) : Nat := 32 * lineRow line + 8 * lineBank line + lineGroup line

/-- First line of the module region in a subchannel. -/
def regionLine : Nat := 129024 * 1024

def indexOf (x : Nat) : List Nat → Option Nat
  | [] => none
  | y :: ys => if x = y then some 0 else (indexOf x ys).map (· + 1)

/-- The subchannels over which the 4 KiB blocks of a die's module region rotate (R186). -/
def State.ringOf (s : State) (die : Nat) : List Nat := if die = 0 then s.rotation.1 else s.rotation.2

/-- Byte address in the module region of a subchannel's line. -/
def State.regionAddr (s : State) (n line : Nat) : Option Nat :=
  (indexOf n (s.ringOf (dieOfSub n))).map (fun i =>
    4096 * (((line - regionLine) / 64) * (s.ringOf (dieOfSub n)).length + i) + 64 * (line % 64))

/-- The memory that holds a line, and the line's number in it; none for a line of the module region that no block
lies on. -/
def State.lineIn (s : State) (n line : Nat) : Option (Mem × Nat) :=
  if line < regionLine then some ((s.sub n).mem, line)
  else (s.regionAddr n line).map (fun a => (s.moduleMem (dieOfSub n), a / 64))

def State.setLineIn (s : State) (n line : Nat) (m : Mem) : State :=
  if line < regionLine then s.updSub n (fun u => { u with mem := m }) else s.setModMem (s.modMem.put (dieOfSub n) m)

/-! ### The stored form (R190–R194) -/

/-- The generation of the key pair that a line is under: its partition's, or the module region's. -/
def State.lineKey (s : State) (n line : Nat) : Nat :=
  if line < regionLine then
    match s.subOwner n with
    | some p => (s.part p).key
    | none => 0
  else s.modKey

/-- The tweak of a line (R193). -/
def lineTweak (n line : Nat) : BitVec 128 := BitVec.ofNat 128 (n * 2 ^ 27 + line)

/-- Ciphertext of a line. -/
def State.cipherLine (s : State) (n line : Nat) (plain : List Byte) : Nat :=
  (Config.xtsEncrypt (Config.memoryKey (s.lineKey n line)) (lineTweak n line) (BitVec.ofNat 512 (leNat plain))).toNat

/-- Key of a standing upset. -/
def upsetKey (n line : Nat) : Nat := 2 ^ 27 * n + line

/-- The 640 bits that the devices hold for a line: the codeword of its ciphertext, in the poison form where it is
poisoned, with the upsets that stand in it. -/
def State.storedLine (s : State) (n line : Nat) : Nat :=
  match s.lineIn n line with
  | some (m, l) =>
    rsEncode (toLanes (s.cipherLine n line (m.read (64 * l) 64))) ^^^ (if m.lineBad l then poisonMask else 0)
      ^^^ s.upsets.getD (upsetKey n line) 0
  | none => s.upsets.getD (upsetKey n line) 0

/-- The plain bytes of a line whose ciphertext has changed by `delta`. -/
def State.garbled (s : State) (n line : Nat) (plain : List Byte) (delta : Nat) : List Byte :=
  if delta = 0 then plain
  else leBytes 64 (Config.xtsDecrypt (Config.memoryKey (s.lineKey n line)) (lineTweak n line)
    (BitVec.ofNat 512 (s.cipherLine n line plain ^^^ delta))).toNat

/-! ### A read of a line in which upsets stand (R191) -/

/-- What a read leaves of the line: delivered and written back alike; a corrected or uncorrectable one is reported. -/
def State.settleLine (s : State) (n line e : Nat) : State :=
  let s := s.setUpsets (s.upsets.del (upsetKey n line))
  match s.lineIn n line with
  | none => s
  | some (m, l) =>
    let (row, rest) := rsRead (e ^^^ (if m.lineBad l then poisonMask else 0))
    let m := m.write (64 * l) (s.garbled n line (m.read (64 * l) 64) (ofLanes (rest % 2 ^ 512)))
    let s := s.setLineIn n line (m.setLine l row.marks)
    match row with
    | .corrected | .poisonCorrected => s.setEcc (s.ecc ++ [.line n line false])
    | .uncorrectable => s.setEcc (s.ecc ++ [.line n line true])
    | .clean | .poisoned => s

/-- A read of the lines of a subchannel that meet `p`. -/
def State.settleWhere (s : State) (n : Nat) (p : Nat → Bool) : State :=
  (s.upsets.only (fun k _ => decide (k / 2 ^ 27 = n) && p (k % 2 ^ 27))).foldl
    (fun s x => s.settleLine n (x.1 % 2 ^ 27) x.2) s

/-- Lines touched by `len` bytes from `a`. -/
def inLines (a len line : Nat) : Bool := decide (0 < len) && decide (a / 64 ≤ line) && decide (line ≤ (a + len - 1) / 64)

/-- A read of `len` bytes from byte `a` of a subchannel. -/
def State.settleRange (s : State) (n a len : Nat) : State := s.settleWhere n (inLines a len)

/-- The line lies whole in the extent. -/
def wholeLine (a len line : Nat) : Bool := decide (a ≤ 64 * line) && decide (64 * line + 64 ≤ a + len)

/-- A write of `len` bytes from byte `a`: a line written in part is read and merged, a whole one is written anew
(R192). -/
def State.settleWrite (s : State) (n a len : Nat) : State :=
  let s := s.settleWhere n (fun l => inLines a len l && !wholeLine a len l)
  s.setUpsets (s.upsets.only (fun k _ => !(decide (k / 2 ^ 27 = n) && wholeLine a len (k % 2 ^ 27))))

/-- New upsets strike lanes of lines. -/
def State.strike (s : State) (xs : List LineUpset) : State :=
  xs.foldl (fun s x =>
    let k := upsetKey x.sub.val x.line.toNat
    let e := s.upsets.getD k 0 ^^^ at' (16 * x.lane.val) x.flips.toNat
    s.setUpsets (if e = 0 then s.upsets.del k else s.upsets.put k e)) s

/-! ### Scratchpad words (R118) -/

/-- Key of the upset bits of a word. -/
def spadKey (core line word : Nat) : Nat := 8 * (196608 * core + line) + word

def State.strikeSpad (s : State) (xs : List SpadUpset) : State :=
  xs.foldl (fun s x => s.setSpadUpsets
    (s.spadUpsets.upd (spadKey x.core.val x.line.val x.word.val) 0 (· + (x.bits.val + 1)))) s

/-- A read of a word with `bits` upset bits: one is corrected and written back; more are taken as the double-bit error,
which poisons the line (log 136). -/
def State.settleWord (s : State) (core key bits : Nat) : State :=
  let line := (key / 8) % 196608
  let s := (s.setSpadUpsets (s.spadUpsets.del key)).setEcc (s.ecc ++ [.spad core line (decide (bits ≠ 1))])
  if bits = 1 then s else s.updCore core (fun c => { c with spad := c.spad.setLine line true })

def State.settleSpadWhere (s : State) (core : Nat) (p : Nat → Bool) : State :=
  (s.spadUpsets.only (fun k _ => decide (k / 8 / 196608 = core) && p ((k / 8) % 196608))).foldl
    (fun s x => s.settleWord core x.1 x.2) s

/-- A read of a scratchpad extent. -/
def State.settleSpad (s : State) (core a len : Nat) : State := s.settleSpadWhere core (inLines a len)

/-- A write of a scratchpad extent: whole words are written anew; a word written in part is read and merged. -/
def State.overwriteSpad (s : State) (core a len : Nat) : State :=
  let word := fun (k : Nat) => 64 * ((k / 8) % 196608) + 8 * (k % 8)
  let mine := fun (k : Nat) => decide (k / 8 / 196608 = core) && decide (a < word k + 8) && decide (word k < a + len)
  let whole := fun (k : Nat) => decide (a ≤ word k) && decide (word k + 8 ≤ a + len)
  let part := s.spadUpsets.only (fun k _ => mine k && !whole k)
  let s := s.setSpadUpsets (s.spadUpsets.only (fun k _ => !(mine k && whole k)))
  part.foldl (fun s x => s.settleWord core x.1 x.2) s

/-- The upsets of a core's scratchpad go with its content. -/
def State.clearSpadUpsets (s : State) (core : Nat) : State :=
  s.setSpadUpsets (s.spadUpsets.only (fun k _ => decide (k / 8 / 196608 ≠ core)))

/-- The upsets of a subchannel go with its content. -/
def State.clearUpsets (s : State) (n : Nat) : State := s.setUpsets (s.upsets.only (fun k _ => decide (k / 2 ^ 27 ≠ n)))

end Sys2Proof.Machine
end

