-- ==== Sys2Proof/Machine/Memory.lean ====
section
/-!
DEFINITION. Partition memory: page-map entries and their translation caches (R187–R189), the coded weight form
(R198–R200), reads and writes of extents, and the shared buffers (R63).
-/
namespace Sys2Proof.Machine

open Sys2Proof

/-! ### Page-map entries (R187) -/

def peValid (e : Nat) : Bool := bitOf e 0
def peWritable (e : Nat) : Bool := bitOf e 1
def peCoded (e : Nat) : Bool := bitOf e 2
def peFill (e : Nat) : Bool := bitOf e 3
def peMigrating (e : Nat) : Bool := bitOf e 4
def peSub (e : Nat) : Nat := fld e 10 7
def peUnit (e : Nat) : Nat := fld e 17 17
def peUnits (e : Nat) : Nat := fld e 34 6
def peCodedLines (e : Nat) : Nat := fld e 40 16
def pePart (e : Nat) : Nat := fld e 64 3
/-- The reserved fields [127:99], [74:67], [63:56] and [9:5]. -/
def peReserved (e : Nat) : Nat := fld e 99 29 + fld e 67 8 + fld e 56 8 + fld e 5 5

/-- The rules for unit and units: a plain page holds 32 units, a coded page ceil(coded_lines ÷ 1,024), and the
extent ends at or before unit 129,024. -/
def peExtentOk (e : Nat) : Bool :=
  (if peCoded e then decide (8720 ≤ peCodedLines e) && decide (peCodedLines e ≤ 32784)
      && decide (peUnits e = ceilDiv (peCodedLines e) 1024)
   else decide (peUnits e = 32) && decide (peCodedLines e = 0))
  && decide (peUnit e + peUnits e ≤ 129024)

/-- An access through an entry by partition p may proceed (R188, R201). The entry's partition must be the map's
(R187; log 10). -/
def State.peOk (s : State) (p e : Nat) (write : Bool) : Bool :=
  peValid e && decide (pePart e = p) && decide (peReserved e = 0) && decide (peSub e < 68)
    && (s.part p).subs.getLsbD (peSub e) && (peCoded e || !peFill e) && peExtentOk e
    && (if write then peWritable e && (!peCoded e || peFill e) else !peFill e)

/-! ### Translation caches (R188) -/

def tlbKey (die p page : Nat) : Nat := 2 ^ 21 * die + 2 ^ 18 * p + page

/-- Put an entry into a die's cache; a full cache loses an entry that the spec does not name (log 1). -/
def State.tlbFill (s : State) (die key e : Nat) : State :=
  let mine := s.tlb.only (fun k _ => decide (k / 2 ^ 21 = die))
  if mine.length < 4096 then s.setTlb (s.tlb.put key e)
  else
    let (r, s) := s.drawNat
    match mine[r % 4096]? with
    | some (k, _) => s.setTlb ((s.tlb.del k).put key e)
    | none => s.setTlb (s.tlb.put key e)

/-- The entry an access of the die uses: before an invalidation completes, the cached or the new one (R189). -/
def State.xlate (s : State) (die p page : Nat) : Nat × State :=
  let key := tlbKey die p page
  let cur := s.pageMaps.getD (2 ^ 18 * p + page) 0
  match s.tlb.find key with
  | some e =>
    if e = cur then (e, s)
    else
      let (b, s) := s.drawBool
      (if b then e else cur, s)
  | none => (cur, s.tlbFill die key cur)

/-- The pieces of an extent, one per 2 MiB page: page, offset, bytes. -/
def piecesOf (a n : Nat) : List (Nat × Nat × Nat) :=
  if n = 0 then []
  else (upto ((a + n - 1) / 2097152 - a / 2097152 + 1)).map (fun i =>
    let page := a / 2097152 + i
    let lo := if i = 0 then a % 2097152 else 0
    let hi := Nat.min 2097152 (a + n - 2097152 * page)
    (page, lo, hi - lo))

/-- Translate an extent: its pieces with their entries, or none when an access to it fails (R188). A write stays within
the page's units (R201; log 10). -/
def State.xlateAll (s : State) (die p : Nat) (write : Bool) :
    List (Nat × Nat × Nat) → Option (List (Nat × Nat × Nat)) × State
  | [] => (some [], s)
  | (page, off, len) :: rest =>
    let (e, s) := s.xlate die p page
    if s.peOk p e write && (!write || decide (off + len ≤ 65536 * peUnits e)) then
      match s.xlateAll die p write rest with
      | (some xs, s) => (some ((e, off, len) :: xs), s)
      | (none, s) => (none, s)
    else (none, s)

def State.extent (s : State) (die p a n : Nat) (write : Bool) : Option (List (Nat × Nat × Nat)) × State :=
  if n = 0 then (some [], s)
  else if a + n > 2 ^ 39 || (s.part p).state = .free then (none, s)
  else s.xlateAll die p write (piecesOf a n)

/-- How many of the extent's pages miss in the die's cache (counter code 0x4C). -/
def State.missesOf (s : State) (die p a n : Nat) : Nat :=
  ((piecesOf a n).filter (fun x => (s.tlb.find (tlbKey die p x.1)).isNone)).length

/-! ### The coded weight form (R198–R200) -/

/-- The code length of each nibble value, from a block's header. -/
def codeLengths (header : Nat) : List Nat := (upto 16).map (fun i => fld header (4 * i) 4)

/-- The canonical prefix code: (length, code, value) by length and then by value. -/
def canonical (lens : List Nat) : List (Nat × Nat × Nat) :=
  let syms := (upto 15).flatMap (fun l => (List.zipIdx lens).filterMap (fun x =>
    if x.1 = l + 1 then some (l + 1, x.2) else none))
  (syms.foldl (fun (acc : List (Nat × Nat × Nat) × Nat × Nat) x =>
    let (out, code, len) := acc
    let code := if out.isEmpty then 0 else (code + 1) * 2 ^ (x.1 - len)
    (out ++ [(x.1, code, x.2)], code, x.1)) ([], 0, 0)).1

/-- The Kraft sum in units of 2⁻¹⁵. -/
def kraft (lens : List Nat) : Nat := (lens.map (fun l => if l = 0 then 0 else 2 ^ (15 - l))).sum

/-- The bits of a byte string, each byte from its least significant bit. -/
def bitsOf (bs : List Byte) : List Bool := bs.flatMap (fun b => (upto 8).map (fun i => b.getLsbD i))

/-- Read `need` nibbles from a bit stream; none when a code is not assigned or the stream ends. -/
def nibbles (codes : List (Nat × Nat × Nat)) : List Bool → Nat → Nat → Nat → List Nat → Option (List Nat)
  | _, _, _, 0, acc => some acc.reverse
  | [], _, _, _ + 1, _ => none
  | b :: bs, code, len, need + 1, acc =>
    let code := 2 * code + b2n b
    let len := len + 1
    match codes.find? (fun c => decide (c.1 = len) && decide (c.2.1 = code)) with
    | some c => nibbles codes bs 0 0 need (c.2.2 :: acc)
    | none => if len ≥ 15 then none else nibbles codes bs code len (need + 1) acc

def pairUp : List Nat → List Byte
  | a :: b :: r => BitVec.ofNat 8 (a + 16 * b) :: pairUp r
  | _ => []

/-- A stored block expanded to its 4 KiB (R199), or none on a decode error (R200). -/
def expandBlock (stored : List Byte) : Option (List Byte) :=
  if stored.length = 4096 then some stored
  else
    let lens := codeLengths (leNat (stored.take 8))
    if kraft lens > 32768 then none
    else (nibbles (canonical lens) (bitsOf (stored.drop 8)) 0 0 8192 []).map pairUp

/-- Start of block b in lines (R198); 512 gives the end of block 511. -/
def blockStart (m : Mem) (base codedLines b : Nat) : Nat :=
  if b = 512 then codedLines else leNat (m.read (base + 2 * b) 2)

/-- The index line that gives a block's start is poisoned, or the one that gives its end (R195). -/
def indexBad (m : Mem) (base b : Nat) : Bool :=
  m.lineBad (base / 64 + b / 32) || (decide (b < 511) && m.lineBad (base / 64 + (b + 1) / 32))

/-- One expanded block of a coded page: its bytes with their marks, and whether it is a decode error. -/
def codedBlock (m : Mem) (base codedLines b : Nat) : List (Byte × Bool) × Bool :=
  let lo := blockStart m base codedLines b
  let hi := blockStart m base codedLines (b + 1)
  let bad : List (Byte × Bool) := (upto 4096).map (fun i => (Config.freeByte (base + b) i, true))
  if indexBad m base b then (bad, false)
  else if hi ≤ lo || hi - lo < 17 || 64 < hi - lo || (b = 0 && lo ≠ 16) || codedLines < hi then (bad, true)
  else if m.bad (base + 64 * lo) (64 * (hi - lo)) then (bad, false)
  else
    match expandBlock (m.read (base + 64 * lo) (64 * (hi - lo))) with
    | some bs => (clean bs, false)
    | none => (bad, true)

/-- `n` expanded bytes from offset `off` of a coded page, and the blocks with a decode error. -/
def codedRead (m : Mem) (base codedLines off n : Nat) : List (Byte × Bool) × List Nat :=
  if n = 0 then ([], [])
  else
    let blocks := (upto ((off + n - 1) / 4096 - off / 4096 + 1)).map (· + off / 4096)
    let got := blocks.map (fun b => (b, codedBlock m base codedLines b))
    (((got.flatMap (fun x => x.2.1)).drop (off % 4096)).take n, (got.filter (fun x => x.2.2)).map (·.1))

/-! ### Reads and writes of partition memory -/

/-- A failed decode: memory page and block. -/
abbrev DecodeErrs := List (Nat × Nat)

/-- Read a translated piece. -/
def State.readPiece (s : State) (x : Nat × Nat × Nat) : List (Byte × Bool) × List Nat :=
  let (e, off, len) := x
  let m := (s.sub (peSub e)).mem
  let base := 65536 * peUnit e
  if peCoded e then codedRead m base (peCodedLines e) off len else (m.load (base + off) len, [])

def State.readPieces (s : State) : List (Nat × Nat × Nat) → List (Byte × Bool) × DecodeErrs
  | [] => ([], [])
  | x :: xs =>
    let (bs, errs) := s.readPiece x
    let (cs, more) := s.readPieces xs
    (bs ++ cs, errs.map (fun b => (x.1, b)) ++ more)

/-- A read of a translated piece meets the upsets that stand in its lines: of a coded piece, in the index lines that
bound its blocks, and then in the blocks (R191, R198). -/
def State.settlePiece (s : State) (x : Nat × Nat × Nat) : State :=
  let (e, off, len) := x
  let base := 65536 * peUnit e
  if s.upsets.isEmpty || len = 0 then s
  else if peCoded e then
    let first := off / 4096
    let last := (off + len - 1) / 4096
    let s := s.settleRange (peSub e) (base + 2 * first) (2 * (Nat.min 511 (last + 1) - first + 1))
    let lo := blockStart (s.sub (peSub e)).mem base (peCodedLines e) first
    let hi := blockStart (s.sub (peSub e)).mem base (peCodedLines e) (last + 1)
    s.settleRange (peSub e) (base + 64 * lo) (64 * (hi - lo))
  else s.settleRange (peSub e) (base + off) len

/-- Read translated pieces, through the check code. -/
def State.takePieces (s : State) (xs : List (Nat × Nat × Nat)) : (List (Byte × Bool) × DecodeErrs) × State :=
  let s := xs.foldl State.settlePiece s
  (s.readPieces xs, s)

/-- Write a translated piece. -/
def State.writePiece (s : State) (x : Nat × Nat × Nat) (bs : List (Byte × Bool)) : State :=
  let (e, off, len) := x
  let s := if s.upsets.isEmpty then s else s.settleWrite (peSub e) (65536 * peUnit e + off) (Nat.min len bs.length)
  s.updSub (peSub e) (fun u => { u with mem := u.mem.store (65536 * peUnit e + off) (bs.take len) })

def State.writePieces (s : State) : List (Nat × Nat × Nat) → List (Byte × Bool) → State
  | [], _ => s
  | x :: xs, bs => (s.writePiece x bs).writePieces xs (bs.drop x.2.2)

/-- A read of partition memory by a unit of the die, without its counts and events. -/
def State.rawRead (s : State) (die p a n : Nat) : Option (List (Byte × Bool) × DecodeErrs) × State :=
  match s.extent die p a n false with
  | (some xs, s) => let (got, s) := s.takePieces xs; (some got, s)
  | (none, s) => (none, s)

/-- A write of partition memory by a unit of the die, without its counts and events; false where it fails and
writes nothing. -/
def State.rawWrite (s : State) (die p a : Nat) (bs : List (Byte × Bool)) : Bool × State :=
  match s.extent die p a bs.length true with
  | (some xs, s) => (true, s.writePieces xs bs)
  | (none, s) => (false, s)

/-- Mark an extent as poison, where it can be written (R483). -/
def State.rawPoison (s : State) (die p a n : Nat) : State :=
  match s.extent die p a n true with
  | (some xs, s) => xs.foldl (fun s x =>
      (if s.upsets.isEmpty then s else s.settleRange (peSub x.1) (65536 * peUnit x.1 + x.2.1) x.2.2).updSub (peSub x.1) (fun u => { u with mem := u.mem.setBad (65536 * peUnit x.1 + x.2.1) x.2.2 true })) s
  | (none, s) => s

/-! ### Shared buffers (R63, R135) -/

/-- Slice number 48 × die + slice of a shared-buffer address; 96 and above name none. -/
def sliceOf (a : Nat) : Nat := if fld a 20 6 < 48 then 48 * fld a 26 1 + fld a 20 6 else 96

/-- The extent lies wholly in slices of the partition that are not withdrawn. -/
def State.sharedOk (s : State) (p a n : Nat) : Bool :=
  decide (a + n ≤ 2 ^ 27) &&
    (n = 0 || (upto ((a + n - 1) / 1048576 - a / 1048576 + 1)).all (fun i =>
      let sl := sliceOf (1048576 * (a / 1048576 + i))
      decide (sl < 96) && (s.part p).slices.getLsbD sl && !hasNat s.withdrawn sl))

/-- Zero a slice: whole, without marks (R63). -/
def Mem.zeroRange (m : Mem) (a n : Nat) : Mem :=
  { m with cells := m.cells.filter (fun c => !(decide (a ≤ c.1) && decide (c.1 < a + n))),
           poison := m.poison.filter (fun l => !(decide (a / 64 ≤ l) && decide (l < (a + n) / 64))) }

end Sys2Proof.Machine
end

