-- ==== Sys2Proof/Machine/Events.lean ====
section
/-!
DEFINITION. Event sources, records, interrupts and performance counters (15), with the record queues they write
to (05 R149, R152, R157, R174) and the notifications of mailbox 0 (11 R363).
-/
namespace Sys2Proof.Machine

open Sys2Proof

def Queue.depth (x : Queue) : Nat := 2 ^ x.depthLog2.toNat

/-! ### Mailbox 0 notifications (R363, R365) -/

/-- The kernel's protocol version, major in [15:8] (OD 0x2150.02): the interface of part 0x03 of the booted
platform image. -/
def State.bootedImage (s : State) : Image := if s.store.bootedB then s.store.imgB else s.store.imgA
def State.kernelVersion (s : State) : Nat :=
  match s.bootedImage.parts.find? (fun x => x.1 = 3) with
  | some x => x.2
  | none => 0x0205

/-- A message of firmware origin (R363). -/
def fwMessage (version type length seq tag status reply body : Nat) : BitVec 512 :=
  BitVec.ofNat 512 (at' 240 body + at' 176 version + at' 160 type + at' 144 length + at' 128 seq
    + at' 112 tag + at' 104 status + at' 96 reply + at' 92 9 + at' 56 0x80)

/-- Put a message in a mailbox's outbound queue; false where its 32 slots are full. -/
def State.mbxSend (s : State) (die m type length tag status reply body : Nat) : Bool × State :=
  let x := s.mbx die m
  if x.outb.length ≥ 32 then (false, s)
  else (true, s.putMbx die m { x with
    outb := x.outb ++ [fwMessage s.kernelVersion type length x.outSeq.toNat tag status reply body]
    outSeq := x.outSeq + 1 })

/-! ### Sources (R452–R456) -/

def scEnable (c : Nat) : Bool := bitOf c 63
def scSense (c : Nat) : Nat := fld c 61 2
def scToQueue (c : Nat) : Bool := bitOf c 60
def scToMailbox (c : Nat) : Bool := bitOf c 59
def scIrqEn (c : Nat) : Bool := bitOf c 58
def scIrqKind (c : Nat) : Nat := fld c 57 1
def scIrqCore (c : Nat) : Nat := fld c 53 4
def scPriority (c : Nat) : Nat := fld c 49 4
def scCoalTime (c : Nat) : Nat := fld c 41 4
def scCoalCount (c : Nat) : Nat := fld c 25 16 + 1
def scQueue (c : Nat) : Nat := fld c 8 17

/-- A condition source (R453, R567). -/
def sourceIsCond (n : Nat) : Bool :=
  [16, 17, 18, 19, 22, 23, 24, 26, 27, 29, 30, 31, 32, 33, 36].contains n
    || (48 ≤ n && n < 112 && n % 8 = 6) || (112 ≤ n && n < 184 && n % 8 = 1)

/-- A number that no unit owns (R453, R567), or 0–4 on the west die. -/
def sourceReserved (die n : Nat) : Bool :=
  (n < 5 && die = 1) || (6 ≤ n && n < 16) || (38 ≤ n && n < 48) || (48 ≤ n && n < 112 && n % 8 = 7)
    || (112 ≤ n && n < 184 && n % 8 ≥ 6) || (191 ≤ n && n < 256)

/-- The partition a source belongs to; none for the module's and for unallotted ones (R454). -/
def State.sourceOwner (s : State) (die n : Nat) : Option Nat :=
  if 48 ≤ n && n < 112 then some ((n - 48) / 8)
  else if 112 ≤ n && n < 184 then s.coreOwner (9 * die + (n - 112) / 8)
  else if 256 ≤ n then (s.source die n).owner.map BitVec.toNat
  else none

/-- A source of the module (R454, R456 bit 48). -/
def sourceIsModule (n : Nat) : Bool := n < 48 || (184 ≤ n && n < 256)

/-- An event record but for its phase bit (R460). -/
def eventRecord (t0 n die : Nat) (overflow : Bool) (count detail : Nat) : Nat :=
  at' 80 (t0 % 2 ^ 48) + at' 70 n + at' 69 die + at' 68 (b2n overflow) + at' 48 (count % 65536)
    + at' 1 (detail % 2 ^ 47)

/-! ### Counters (R466–R468) -/

def ctEnable (c : Nat) : Bool := bitOf c 63
def ctMode (c : Nat) : Nat := fld c 60 2
def ctThrSrc (c : Nat) : Nat := fld c 50 10
def ctFilterEn (c : Nat) : Bool := bitOf c 49
def ctFilter (c : Nat) : Nat := fld c 46 3
def ctCode (c : Nat) : Nat := fld c 38 8

/-- Die of a counter, and the source and detail of its wrap (R466, R453). -/
def dieOfCtr (k : Nat) : Nat := if k < 288 then dieOfCore (k / 16) else (k - 288) / 64
def wrapSource (k : Nat) : Nat := if k < 288 then 112 + 8 * ((k / 16) % 9) + 5 else 190

/-- What a count of `n` does to a counter (R468): the counter, and whether it reaches its threshold and wraps. -/
def Ctr.add (c : Ctr) (n : Nat) : Ctr × Bool × Bool :=
  let old := c.value.toNat
  let thr := c.threshold.toNat
  let new := old + n
  let top := 2 ^ 48
  let setWrapped := c.control ||| BitVec.ofNat 64 (2 ^ 62)
  match ctMode c.control.toNat with
  | 1 =>
    let hit := decide (thr ≠ 0) && decide (old < thr) && decide (thr ≤ new)
    if new < top then ({ c with value := BitVec.ofNat 48 new }, hit, false)
    else ({ c with value := BitVec.ofNat 48 (top - 1), control := setWrapped }, hit, false)
  | 2 =>
    if thr ≠ 0 && old < thr && thr ≤ new then ({ c with value := BitVec.ofNat 48 (new - thr) }, true, false)
    else ({ c with value := BitVec.ofNat 48 new, control := if top ≤ new then setWrapped else c.control }, false, false)
  | _ =>
    let wraps := decide (top ≤ new)
    let hit := decide (thr ≠ 0) &&
      (if wraps then decide (old < thr) || decide (thr ≤ new % top) else decide (old < thr) && decide (thr ≤ new))
    ({ c with value := BitVec.ofNat 48 new, control := if wraps then setWrapped else c.control }, hit, wraps)

/-- The counters are stopped: frozen, or the T of an ordered freeze has come (R470). -/
def State.ctrStopped (s : State) : Bool :=
  s.ev.frozen || (match s.ev.freezeAt with | some t => decide (t ≤ s.now) | none => false)

/-- Count `n` on counter k, raising its sources through `raise`. A counter that is disabled, stopped or of code 0
holds. -/
def ctrBump (raise : State → Nat → Nat → Nat → State) (s : State) (k n : Nat) : State :=
  let c := s.ctr k
  if n = 0 || !ctEnable c.control.toNat || s.ctrStopped then s
  else
    let (c', hit, wraps) := c.add n
    let s := s.putCtr k c'
    let s := if wraps then raise s (dieOfCtr k) (wrapSource k) k else s
    if hit && ctThrSrc c.control.toNat ≠ 0 then raise s (dieOfCtr k) (ctThrSrc c.control.toNat) k else s

/-- The die's counters that count an event of this code for this partition (R466, R467). -/
def State.dieCounters (s : State) (die code : Nat) (part : Option Nat) : List Nat :=
  (s.ev.ctr.only (fun k c => decide (288 + 64 * die ≤ k) && decide (k < 352 + 64 * die)
    && decide (ctCode c.control.toNat = code)
    && (!ctFilterEn c.control.toNat || part = some (ctFilter c.control.toNat)))).map (·.1)

def State.coreCounters (s : State) (core code : Nat) : List Nat :=
  (s.ev.ctr.only (fun k c => decide (16 * core ≤ k) && decide (k < 16 * core + 16)
    && decide (ctCode c.control.toNat = code))).map (·.1)

/-! ### Accesses with their counts and events (R188, R467) -/

/-- How an assertion of a source is made. A failed access asserts one, and so does a counter. -/
abbrev Raise := State → Nat → Nat → Nat → State

/-- Count `n` events of a code on a die's counters (R467). -/
def bumpDieBy (raise : Raise) (s : State) (die code : Nat) (part : Option Nat) (n : Nat) : State :=
  (s.dieCounters die code part).foldl (fun s k => ctrBump raise s k n) s

/-- Stored lines that a read of a coded piece takes: from the start of each block to its end (R198, R202). -/
def State.codedLines (s : State) (x : Nat × Nat × Nat) : Nat :=
  let (e, off, len) := x
  let m := (s.sub (peSub e)).mem
  let base := 65536 * peUnit e
  if len = 0 then 0
  else ((upto ((off + len - 1) / 4096 - off / 4096 + 1)).map (fun i =>
    let b := off / 4096 + i
    Nat.min 64 (blockStart m base (peCodedLines e) (b + 1) - blockStart m base (peCodedLines e) b))).sum

/-- Lines that a translated piece moves in DDR5. -/
def State.pieceLines (s : State) (x : Nat × Nat × Nat) : Nat :=
  if peCoded x.1 && !peFill x.1 then s.codedLines x else (linesOf x.2.1 x.2.2).length

/-- Count the lines of an access on the dies of its subchannels, and the coded lines read (codes 0x41–0x43). -/
def countLinesBy (raise : Raise) (s : State) (code p : Nat) (xs : List (Nat × Nat × Nat)) : State :=
  xs.foldl (fun s x =>
    let d := dieOfSub (peSub x.1)
    let n := s.pieceLines x
    let s := bumpDieBy raise s d code (some p) n
    if peCoded x.1 && code = 0x41 then bumpDieBy raise s d 0x43 (some p) n else s) s

/-- A write of partition memory by a unit of the die: its misses and lines are counted; a failed one asserts the
partition's translation-fault source there (R188). -/
def pwriteBy (raise : Raise) (s : State) (die p a : Nat) (bs : List (Byte × Bool)) : Bool × State :=
  let miss := s.missesOf die p a bs.length
  let s := bumpDieBy raise s die 0x4C (some p) miss
  match s.extent die p a bs.length true with
  | (some xs, s) => (true, countLinesBy raise (s.writePieces xs bs) 0x42 p xs)
  | (none, s) => (false, raise s die (48 + 8 * p + 1) (a % 2 ^ 39 / 4096))

/-! ### Record queues: completion and event queues (R146, R152, R157) -/

/-- The write-back of head and credits (R149 credit_wb). -/
def creditWriteBackBy (raise : Raise) (s : State) (q : Nat) : State :=
  let x := s.queue q
  if x.creditWb = 0 then s
  else (pwriteBy raise s (dieOfQueue q) x.partition.toNat x.creditWb.toNat
    (clean (leBytes 4 x.head.toNat ++ leBytes 4 x.credits.toNat))).2

/-- A record position is free: within a slot already taken, or with a credit for the next (R157). -/
def Queue.hasRoom (x : Queue) : Bool := x.reserved % 4 ≠ 0 || x.credits ≠ 0

/-- Reserve one record (R157): the first of a slot takes the slot's credit and fills the slot. -/
def reserveRecordBy (raise : Raise) (s : State) (q : Nat) : State :=
  let x := s.queue q
  let first := decide (x.reserved % 4 = 0)
  let s := s.putQueue q { x with
    reserved := x.reserved + 1
    credits := if first then x.credits - 1 else x.credits
    tail := if first then BitVec.ofNat 16 ((x.tail.toNat + 1) % x.depth) else x.tail }
  if first then creditWriteBackBy raise s q else s

/-- The phase bit of the record at position `pos`: 1 on the first pass of the ring (R152). -/
def Queue.phase (x : Queue) (pos : Nat) : Nat := if (pos / (4 * x.depth)) % 2 = 0 then 1 else 0

/-- Address of the record at position `pos`. -/
def Queue.recordAddr (x : Queue) (pos : Nat) : Nat :=
  x.ringBase.toNat + 64 * ((pos / 4) % x.depth) + 16 * (pos % 4)

/-- Write the reserved record at a position; `r` carries every bit but the phase. -/
def putRecordBy (raise : Raise) (s : State) (q pos r : Nat) : State :=
  let x := s.queue q
  (pwriteBy raise s (dieOfQueue q) x.partition.toNat (x.recordAddr pos) (clean (leBytes 16 (r + x.phase pos)))).2

/-! ### Occurrences, records, interrupts (R455–R463) -/

/-- A core of R463: application cores 0–15, firmware cores 16–23. -/
def irqIndex (kind core : Nat) : Nat := if kind = 0 then core else 16 + core % 8

def State.irqRaise (s : State) (c prio die n : Nat) : State :=
  let x := s.irq c
  if x.pending.contains (prio, die, n) then s
  else s.putIrq c { x with pending := x.pending ++ [(prio, die, n)] }

/-- Rearm a level source whose record is written and whose condition has been false since (R458). -/
def Source.rearm (x : Source) (now : Nat) : Source :=
  if x.disarmed && x.sawFalse && x.n = 0 then
    if x.cond then { x with disarmed := true, sawFalse := false, n := 1, t0 := now, detail := x.condDetail
                            total := x.total + 1 }
    else { x with disarmed := false, sawFalse := false }
  else x

/-- The record of a delivery in the source's event queue, or the overflow it leaves there (R460, R461). -/
def deliverQueue (raise : State → Nat → Nat → Nat → State) (s : State) (q die n : Nat) (part : Option Nat) (x : Source)
    (lost : Bool) : State :=
  let e := s.queue q
  if e.hasRoom && e.state ≠ .disabled then
    let s := reserveRecordBy raise s q
    let s := putRecordBy raise s q e.reserved (eventRecord x.t0 n die (e.overflow || lost) x.n x.detail)
    let s := s.updQueue q (fun e => { e with overflow := false })
    let s := s.odInc 0x2900 3 1
    let s := (s.dieCounters die 0x48 part).foldl (fun s k => ctrBump raise s k 1) s
    if e.eventEn then raise s (dieOfQueue q) e.eventSrc.toNat 0 else s
  else
    let s := s.updQueue q (fun e => { e with overflow := true, dropped := e.dropped + 1 })
    let s := s.odInc 0x2300 0x0A 1
    (s.dieCounters die 0x49 part).foldl (fun s k => ctrBump raise s k 1) s

/-- The NOTIFY_EVENT of a delivery in the die's mailbox 0, or the mark it leaves there (R460, R461). -/
def deliverMessage (s : State) (die n : Nat) (x : Source) (lost : Bool) : State :=
  let marked := hasNat s.ev.notifyLost die
  match s.mbxSend die 0 0x0080 16 0 0 0 (eventRecord x.t0 n die (marked || lost) x.n x.detail + 1) with
  | (true, t) =>
    ((t.setEv { t.ev with notifyLost := removeNat t.ev.notifyLost die }).odInc 0x2900 5 1).odInc 0x2900 3
      (if scToQueue x.control.toNat then 0 else 1)
  | (false, _) => (s.setEv { s.ev with notifyLost := insertNat s.ev.notifyLost die }).odInc 0x2900 6 1

/-- Deliver the held occurrences of a source in one record (R459–R461); the first after the island lost one carries
overflow (R465). -/
def deliver (raise : State → Nat → Nat → Nat → State) (s : State) (die n : Nat) : State :=
  let x := s.source die n
  let c := x.control.toNat
  let s := s.putSource die n (({ x with n := 0 } : Source).rearm s.now)
  let part := s.sourceOwner die n
  let lost := die = 0 && hasNat s.ev.islandLost n
  let s := if lost && (scToQueue c || scToMailbox c) then s.setEv { s.ev with islandLost := removeNat s.ev.islandLost n } else s
  let s := if scToQueue c then deliverQueue raise s (scQueue c) die n part x lost else s
  let s := if scToMailbox c then deliverMessage s die n x lost else s
  if scIrqEn c then s.irqRaise (irqIndex (scIrqKind c) (scIrqCore c)) (scPriority c) die n else s

/-- Count one occurrence of a source and deliver when its count is reached (R455, R459). -/
def count (raise : State → Nat → Nat → Nat → State) (s : State) (die n detail t : Nat) : State :=
  let x := s.source die n
  let x := { x with total := x.total + 1 }
  if scEnable x.control.toNat then
    let x := if x.n = 0 then { x with n := 1, t0 := t, detail := detail } else { x with n := x.n + 1 }
    let s := s.putSource die n x
    if x.n ≥ scCoalCount x.control.toNat then deliver raise s die n else s
  else s.putSource die n x

/-- The island's log of the wake subset (R465). -/
def State.islandLog (s : State) (n detail : Nat) : State :=
  if s.ev.island.length < 64 then s.setEv { s.ev with island := s.ev.island ++ [(n, s.now, detail)] }
  else (s.setEv { s.ev with islandLost := insertNat s.ev.islandLost n }).odInc 0x2900 0x0D 1

/-- An assertion of a pulse source (R452). `fuel` bounds the chain of sources that a record's queue and counters
raise in turn (R457 keeps it at two links; log 11). -/
def raiseN : Nat → State → Nat → Nat → Nat → State
  | 0, s, _, _, _ => s
  | fuel + 1, s, die, n, detail =>
    if sourceReserved die n then s
    else if s.asleep then (if 18 ≤ n && n < 28 then s.islandLog n detail else s)
    else count (fun s d m x => raiseN fuel s d m x) s die n detail s.now

def State.raise (s : State) (die n detail : Nat) : State := raiseN 4 s die n detail

/-- A condition source's condition becomes true or false (R458). -/
def State.condition (s : State) (die n : Nat) (level : Bool) (detail : Nat) : State :=
  let x := s.source die n
  if sourceReserved die n then s
  else if level then
    if x.cond then s
    else
      let s := s.putSource die n { x with cond := true, condDetail := detail }
      if s.asleep then (if 18 ≤ n && n < 28 then s.islandLog n detail else s)
      else if scSense x.control.toNat = 1 then
        if x.disarmed then s
        else count (fun s d m y => s.raise d m y)
          (s.putSource die n { (s.source die n) with disarmed := scEnable x.control.toNat, sawFalse := false })
          die n detail s.now
      else count (fun s d m y => s.raise d m y) s die n detail s.now
  else s.putSource die n (({ x with cond := false, sawFalse := true } : Source).rearm s.now)

/-- A module source is raised on the east die unless a unit of the west detects it. -/
def State.raiseEast (s : State) (n detail : Nat) : State := s.raise 0 n detail

/-- Count `n` events of a code on a die's counters, and on a core's (R467). -/
def State.bumpDie (s : State) (die code : Nat) (part : Option Nat) (n : Nat) : State := bumpDieBy State.raise s die code part n

def State.bumpCore (s : State) (core code n : Nat) : State :=
  (s.coreCounters core code).foldl (fun s k => ctrBump State.raise s k n) s

/-- A partition's source k (R453), on the die of the unit that detects it. -/
def State.raisePart (s : State) (die p k detail : Nat) : State := s.raise die (48 + 8 * p + k) detail

/-- A core's source k (R453). -/
def State.raiseCore (s : State) (core k detail : Nat) : State :=
  s.raise (dieOfCore core) (112 + 8 * (core % 9) + k) detail

/-! ### Accesses and records that raise -/

def State.creditWriteBack (s : State) (q : Nat) : State := creditWriteBackBy State.raise s q
def State.reserveRecord (s : State) (q : Nat) : State := reserveRecordBy State.raise s q
def State.putRecord (s : State) (q pos r : Nat) : State := putRecordBy State.raise s q pos r
def State.countLines (s : State) (code p : Nat) (xs : List (Nat × Nat × Nat)) : State := countLinesBy State.raise s code p xs

/-- A write of partition memory by a unit of the die (R188). -/
def State.pwrite (s : State) (die p a : Nat) (bs : List (Byte × Bool)) : Bool × State := pwriteBy State.raise s die p a bs

/-- A failed access (R188): the partition's translation-fault event, on the accessing unit's die. -/
def State.translationFault (s : State) (die p a : Nat) : State := s.raisePart die p 1 (a % 2 ^ 39 / 4096)

/-- A read of partition memory by a unit of the die (R188). -/
def State.pread (s : State) (die p a n : Nat) : Option (List (Byte × Bool) × DecodeErrs) × State :=
  let miss := s.missesOf die p a n
  let s := s.bumpDie die 0x4C (some p) miss
  match s.extent die p a n false with
  | (some xs, s) => let (got, s) := s.takePieces xs; (some got, s.countLines 0x41 p xs)
  | (none, s) => (none, s.translationFault die p a)

/-- Whether an extent can be accessed, raising the event where it cannot (R188). -/
def State.pcheck (s : State) (die p a n : Nat) (write : Bool) : Bool × State :=
  match s.extent die p a n write with
  | (some _, s) => (true, s)
  | (none, s) => (false, s.translationFault die p a)

end Sys2Proof.Machine
end

