-- ==== Sys2Proof/Machine/Store.lean ====
section
/-!
DEFINITION. The persistent store (20 R594–R600): commits, the choice of bank, compaction, stop records.
-/
namespace Sys2Proof.Machine

open Sys2Proof

/-! ### Sizes (R594–R596) -/

/-- Pages of a bank, and pages outside its reserve. -/
def bankPages : Nat := 1024
def openPages : Nat := 976

/-- Largest size of an item (R595). -/
def itemLargest (id : Nat) : Nat :=
  match id with
  | 1 => 16384 | 2 => 8192 | 3 => 14336 | 4 => 2112 | 5 => 17408 | 6 => 4096 | 7 => 64 | 8 => 16 | 9 => 4096
  | 10 => 64 | 11 => 4096 | _ => 0

def allItems : List Nat := [1, 2, 3, 4, 5, 6, 7, 8, 9, 10, 11]

/-- Bytes of an item in the commit of sequence `n`: the spec gives the largest only (log 1). -/
def itemSize (id n : Nat) : Nat := Nat.min (Config.itemBytes id n) (itemLargest id)

/-- An item entry: 12 bytes and the data padded to a multiple of 4 (R596). -/
def entrySize (id n : Nat) : Nat := 12 + 4 * ceilDiv (itemSize id n) 4

/-- Pages of a record with a payload of `l` bytes (R596). -/
def recordPages (l : Nat) : Nat := ceilDiv (20 + l) 256

/-- Payloads of the records of a commit: at most 4,076 bytes each (R596, R597). -/
def splitPayload : Nat → Nat → List Nat
  | 0, _ => []
  | fuel + 1, l => if l ≤ 4076 then [l] else 4076 :: splitPayload fuel (l - 4076)

def payloadsOf (items : List Nat) (n : Nat) : List Nat :=
  splitPayload 64 ((items.map (fun i => entrySize i n)).sum)

/-! ### Banks -/

def Store.bank (t : Store) (b : Bool) : PsBank := if b then t.bankB else t.bankA
def Store.putBank (t : Store) (b : Bool) (x : PsBank) : Store := if b then { t with bankB := x } else { t with bankA := x }

/-- The bank that the next commit goes to: not the one with the newest complete commit, and not one that is being
erased (R597, R599). -/
def Store.target (t : Store) : Bool :=
  if t.compaction = 1 then true else if t.compaction = 2 then false else !t.newestB

/-- Free bytes outside the reserve. -/
def PsBank.free (x : PsBank) : Nat := 256 * (openPages - x.nextPage)

/-- Items changed since a bank's last complete commit, with the new ones. -/
def addItems (xs items : List Nat) : List Nat := items.foldl insertNat xs

/-- Start a compaction when the next commit's bank runs short (R599 step 1). The bank loses its log. -/
def Store.compactIfShort (t : Store) : Store :=
  let b := !t.newestB
  if t.compaction = 0 && (t.bank b).free < 32768 then
    { t.putBank b { t.bank b with records := [], stale := allItems } with compaction := if b then 2 else 1 }
  else t

/-- Append records with these payloads to a bank, the last with the end flag. -/
def Store.append (t : Store) (b base : Bool) (items : List Nat) : List Nat → Store
  | [] => t
  | l :: rest =>
    let x := t.bank b
    let r : PsRecord := { page := x.nextPage, pages := recordPages l, endMark := rest.isEmpty, base := base,
                          stop := false, seq := t.nextSeq, items := items }
    let t := t.putBank b { x with records := x.records ++ [r], nextPage := x.nextPage + recordPages l }
    Store.append { t with nextSeq := t.nextSeq + 1 } b base items rest

/-- A record that carries item 2 holds the wear counts as they stand (R488). -/
def State.keepCounts (s : State) (items : List Nat) : State :=
  if hasNat items 2 then s.setRel { s.rel with keptCounts := (s.rel.charged, s.rel.charged24) } else s

/-- A commit of `items` (R597): whether it completes. `ok` false is a record that fails verification twice. -/
def State.psCommit (s : State) (items : List Nat) (ok : Bool) : Bool × State :=
  let t := s.store
  let t := { t with bankA := { t.bankA with stale := addItems t.bankA.stale items }
                    bankB := { t.bankB with stale := addItems t.bankB.stale items } }
  let t := t.compactIfShort
  let b := t.target
  let x := t.bank b
  let ps := payloadsOf x.stale t.nextSeq
  let pages := (ps.map recordPages).sum
  if x.nextPage + pages > openPages || !ok then
    let first := recordPages (ps.headD 0)
    let t := if ok then t else { t.putBank b { x with nextPage := x.nextPage + 2 * first } with nextSeq := t.nextSeq + 2 }
    (false, (s.setStore t.compactIfShort).odInc 0x2A00 8 1)
  else
    let t := t.append b false x.stale ps
    let t := t.putBank b { t.bank b with stale := [] }
    let t := { t with newestB := b, newestSeq := t.nextSeq - 1 }
    (true, ((s.setStore t.compactIfShort).keepCounts x.stale).odInc 0x2A00 7 1)

/-- A commit that nothing waits on. -/
def State.commit (s : State) (items : List Nat) : State := (s.psCommit items true).2

/-- R599 steps 2 to 4: the erase of a bank ends, and the base commit of the whole image goes into it. -/
def State.compactionDone (s : State) : State :=
  let t := s.store
  if t.compaction = 1 || t.compaction = 2 then
    let b := decide (t.compaction = 2)
    let t := t.putBank b { records := [], nextPage := 0, erases := (t.bank b).erases + 1, stale := [] }
    let t := t.append b true allItems (payloadsOf allItems t.nextSeq)
    let t := { t with newestB := b, newestSeq := t.nextSeq - 1, compaction := 0 }
    ((s.setStore t).keepCounts allItems).odInc 0x2A00 7 1
  else s

/-- Pending items of a stop record that fit beside the stop items in 8,192 bytes (R596, R600). -/
def fitItems (n : Nat) : Nat → List Nat → List Nat
  | _, [] => []
  | room, i :: is => if entrySize i n ≤ room then i :: fitItems n (room - entrySize i n) is else fitItems n room is

/-- Where the stop record of R600 goes: bank, page, and the sequence numbers it passes over. `torn` lists the items of
a record that is being written; its write is abandoned at page p, and the stop record follows at p + 16. -/
def Store.stopPlace (t : Store) (torn : List Nat) : Bool × Nat × Nat :=
  if torn.isEmpty then (t.newestB, (t.bank t.newestB).nextPage, 0)
  else (t.target, (t.bank t.target).nextPage + 16, 1)

/-- The stop record of R600: the stop items, the abandoned record's payload and the pending items that fit; an erase
that runs is abandoned. -/
def State.psStop (s : State) (torn : List Nat) : State :=
  let (b, page, passed) := s.store.stopPlace torn
  let t := { s.store with compaction := 0, nextSeq := s.store.nextSeq + passed }
  let x := t.bank b
  let first := insertNat (addItems [] torn) 11
  let used := (first.map (fun i => entrySize i t.nextSeq)).sum
  let rest := x.stale.filter (fun i => !first.contains i)
  let items := addItems first (fitItems t.nextSeq (8172 - used) rest)
  let l := (items.map (fun i => entrySize i t.nextSeq)).sum
  let r : PsRecord := { page := page, pages := recordPages l, endMark := true, base := false, stop := true,
                        seq := t.nextSeq, items := items }
  let t := t.putBank b { x with records := x.records ++ [r], nextPage := page + recordPages l, stale := [] }
  let o := t.bank (!b)
  let t := t.putBank (!b) { o with stale := addItems o.stale items }
  (((s.setStore { t with nextSeq := t.nextSeq + 1, newestB := b, newestSeq := t.nextSeq }).keepCounts items).odInc
    0x2A00 7 1).odInc 0x2A00 9 1

/-- An unclean stop: the hold-up bank fails before the stop record is complete. Its sequence number is passed over, and an
erase that runs is abandoned. The leaves left of the reserved blocks are skipped (R516), as is the rest of the block of
record numbers (R505), and the counts are those of the last commit (R488). -/
def State.psTorn (s : State) (torn : List Nat) : State :=
  let (_, _, passed) := s.store.stopPlace torn
  let s := s.setStore { s.store with compaction := 0, nextSeq := s.store.nextSeq + passed + 1 }
  let s := (s.odInc 0x2800 4 (s.odGet 0x2800 3 - s.odGet 0x2800 2)).odSet 0x2800 2 (Nat.max (s.odGet 0x2800 2) (s.odGet 0x2800 3))
  s.setRel { s.rel with
    nextRecord := Nat.max s.rel.nextRecord s.rel.reserved, charged := s.rel.keptCounts.1, charged24 := s.rel.keptCounts.2 }

/-! ### Choosing a bank (R598) -/

/-- The record that the scan takes at page p: the record there, else a stop record 16 pages on, of a sequence higher
than the last. A record that `records` holds was read back whole, so its magic, length and CRC-32C are right. -/
def PsBank.scanStep (x : PsBank) (p last : Nat) : Option PsRecord :=
  (x.records.find? (fun r => decide (r.page = p) && decide (last < r.seq))).or
    (x.records.find? (fun r => decide (r.page = p + 16) && r.stop && decide (last < r.seq)))

/-- The bank's log from page p on. -/
def PsBank.scan (x : PsBank) : Nat → Nat → Nat → List PsRecord
  | 0, _, _ => []
  | fuel + 1, p, last =>
    match x.scanStep p last with
    | some r => r :: x.scan fuel (r.page + r.pages) r.seq
    | none => []

def PsBank.log (x : PsBank) : List PsRecord := x.scan x.records.length 0 0

/-- A log begins with a complete base commit. -/
def baseComplete : List PsRecord → Bool
  | [] => false
  | r :: rs => r.base && (r.endMark || baseComplete rs)

/-- A valid bank's sequence: that of its last record with the end flag. -/
def PsBank.sequence (x : PsBank) : Option Nat :=
  if baseComplete x.log then (x.log.reverse.find? (·.endMark)).map (·.seq) else none

/-- The highest sequence of a valid stop record in a bank's log. -/
def PsBank.stopSequence (x : PsBank) : Nat := ((x.log.filter (·.stop)).map (·.seq)).foldl Nat.max 0

/-- The island chooses a bank at step 3 of R574; with no valid bank there is no boot path. -/
def State.selectBank (s : State) : Bool × State :=
  let t := s.store
  let take := fun (b : Bool) (n : Nat) =>
    (true, s.setStore { t with newestB := b, newestSeq := Nat.max n (t.bank (!b)).stopSequence })
  match t.bankA.sequence, t.bankB.sequence with
  | some a, some b => if a < b then take true b else take false a
  | some a, none => take false a
  | none, some b => take true b
  | none, none => (false, s)

end Sys2Proof.Machine
end

