-- ==== Sys2Proof/Machine/Reliability.lean ====
section
/-!
DEFINITION. The wear record, the predicted end of life and the failure-signature records (16 R486–R508, 04 R112).
-/
namespace Sys2Proof.Machine

open Sys2Proof

/-! ### Unit kinds (R504) -/

def unitKey (kind unit : Nat) : Nat := 65536 * kind + unit

/-- Counts of 24 hours of the timebase. -/
def day24 : Nat := 86400 * second

/-! ### Wear indicators (R489–R495); values × 1,000 -/

/-- Corrected lines of a subchannel in the last 24 h. -/
def State.fixes24 (s : State) (n : Nat) : Nat :=
  ((s.sub n).fixes.filter (fun x => decide (s.now < x.1 + day24))).length

/-- Lowest lane transmit power of a port (0.01 dBm). -/
def Port.txLow (p : Port) : Int := p.lanes.foldl (fun a l => if l.tx < a then l.tx else a) ((p.lanes.head?.map (·.tx)).getD 0)

/-- What a measurement of an indicator finds. -/
def State.wearNow (s : State) (kind unit : Nat) : Int :=
  match kind with
  | 0 => (s.core unit).ageing
  | 1 => 1000 * (s.fixes24 unit : Nat)
  | 2 => 1000 * (((s.core unit).retiredBanks.length + (s.core unit).marked.length : Nat) : Int)
  | 3 => ((s.park.written / 1000000 : Nat) : Int)
  | 4 => (s.rel.holdUf : Nat)
  | 5 => (s.rel.esrRatio : Nat)
  | 6 => 10 * (s.port (unit + 2)).txLow
  | 7 => ((s.rel.cycles / 16000 : Nat) : Int)
  | _ => 0

/-- Measure an indicator (R489): the corrected lines, the bytes written and the transmit powers daily, the powers at
each link-up too, the banks at each marking. -/
def State.measure (s : State) (kind unit : Nat) : State :=
  s.setRel { s.rel with measured := s.rel.measured.put (256 * kind + unit) (s.wearNow kind unit) }

/-- The value of an indicator: as last measured, or as it stands where R489 measures it at once. -/
def State.wearValue (s : State) (kind unit : Nat) : Int :=
  if kind = 1 || kind = 2 || kind = 3 || kind = 6 then s.rel.measured.getD (256 * kind + unit) 0 else s.wearNow kind unit

/-- The limit of the kind, × 1,000 (R489). -/
def State.wearLimit (s : State) (kind : Nat) : Int :=
  match kind with
  | 0 => 2500
  | 1 => 1000 * (s.odGet 0x2200 6 : Nat)
  | 2 => 3000
  | 3 => 28000000000
  | 4 => 2640
  | 5 => 2000
  | 6 => -2900
  | 7 => 20000000
  | _ => 0

def wearUnits (kind : Nat) : Nat :=
  match kind with
  | 0 => 18 | 1 => 68 | 2 => 18 | 6 => 4 | _ => 1

def wearRising (kind : Nat) : Bool := kind ≠ 4 && kind ≠ 6

/-- At or past its limit. -/
def State.wearAtLimit (s : State) (kind unit : Nat) : Bool :=
  if wearRising kind then decide (s.wearLimit kind ≤ s.wearValue kind unit)
  else decide (s.wearValue kind unit ≤ s.wearLimit kind)

/-- Value × 1,000 at manufacture (log 7): the ratings, and for transmit power the oldest sample held. -/
def State.wearStart (s : State) (kind unit : Nat) : Int :=
  match kind with
  | 4 => 3300
  | 5 => 1000
  | 6 => (((s.rel.daily.getD (256 * kind + unit) []).getLast?).map (·.2)).getD (s.wearValue 6 unit)
  | _ => 0

/-- Samples of the last 30 days. -/
def State.samplesOf (s : State) (kind unit : Nat) : List (Nat × Int) :=
  (s.rel.daily.getD (256 * kind + unit) []).filter (fun x => decide (s.rel.day < x.1 + 30))

/-- How many samples differ from the one before. -/
def changes : List (Nat × Int) → Nat
  | a :: b :: r => (if a.2 = b.2 then 0 else 1) + changes (b :: r)
  | _ => 0

def sumInt (xs : List Int) : Int := xs.foldl (· + ·) 0

/-- The least-squares slope of samples, as numerator and positive denominator. -/
def lsq (xs : List (Nat × Int)) : Int × Int :=
  let n : Int := xs.length
  let sx := sumInt (xs.map (fun p => (p.1 : Int)))
  let sy := sumInt (xs.map (fun p => p.2))
  let sxy := sumInt (xs.map (fun p => (p.1 : Int) * p.2))
  let sxx := sumInt (xs.map (fun p => (p.1 : Int) * p.1))
  (n * sxy - sx * sy, n * sxx - sx * sx)

/-- The slope per day of R492. -/
def State.wearSlope (s : State) (kind unit : Nat) : Int × Int :=
  let xs := s.samplesOf kind unit
  if xs.length < 7 || changes xs < 2 then
    (s.wearValue kind unit - s.wearStart kind unit, (Nat.max s.rel.day 30 : Nat))
  else lsq xs

/-- A unit's predicted end of life in days (R493). -/
def State.unitPeol (s : State) (kind unit : Nat) : Nat :=
  if s.wearAtLimit kind unit then 0
  else
    let (num, den) := s.wearSlope kind unit
    let toward := if wearRising kind then num else -num
    let dist := if wearRising kind then s.wearLimit kind - s.wearValue kind unit
                else s.wearValue kind unit - s.wearLimit kind
    if toward ≤ 0 then 65535 else Nat.min 65535 (dist * den / toward).toNat

/-- The units of a group in service (R494): by die for kinds 0, 1 and 2, by fabric link for kind 6. -/
def State.groupUnits (s : State) (kind g : Nat) : List Nat :=
  let us := upto (wearUnits kind)
  match kind with
  | 0 | 2 => us.filter (fun n => decide (dieOfCore n = g) && decide ((s.core n).role ≠ .spare)
      && decide ((s.core n).role ≠ .retired))
  | 1 => us.filter (fun n => decide (dieOfSub n = g) && !((s.sub n).role = .spare || (s.sub n).role = .retired
      || (s.sub n).role = .failedTraining))
  | 6 => us.filter (fun n => decide (linkOfPort (n + 2) = g + 1) && decide ((s.port (n + 2)).role ≠ .failed))
  | _ => us

def State.spareCores (s : State) (die : Nat) : List Nat :=
  (upto 18).filter (fun n => decide (dieOfCore n = die) && decide ((s.core n).role = .spare))

def State.spareSubs (s : State) (die : Nat) : List Nat :=
  (upto 68).filter (fun n => decide (dieOfSub n = die) && decide ((s.sub n).role = .spare))

/-- The allowance a of R494. -/
def State.allowance (s : State) (kind g : Nat) : Nat :=
  match kind with
  | 0 | 2 => (s.spareCores g).length
  | 1 => (s.spareSubs g).length
  | 6 => if (portsOfLink (g + 1)).any (fun p => decide ((s.port p).role = .standby)) then 1 else 0
  | _ => 0

def insertSorted : List Nat → Nat → List Nat
  | [], x => [x]
  | y :: ys, x => if x ≤ y then x :: y :: ys else y :: insertSorted ys x

/-- A group's figure: the (a + 1)-th smallest end of life of its units (R494). -/
def State.groupPeol (s : State) (kind g : Nat) : Nat :=
  ((((s.groupUnits kind g).map (s.unitPeol kind)).foldl insertSorted []).drop (s.allowance kind g)).headD 65535

def groupsOf (kind : Nat) : List Nat := if kind ≤ 2 || kind = 6 then [0, 1] else [0]

/-- Figure, kind and group of the smallest group figure (R495, OD 0x2700.01, .02, .04). -/
def State.peolFull (s : State) : Nat × Nat × Nat :=
  ((upto 8).flatMap (fun k => (groupsOf k).map (fun g => (k, g)))).foldl (fun acc kg =>
    let f := s.groupPeol kg.1 kg.2
    if f < acc.1 then (f, kg.1, if kg.1 ≤ 2 || kg.1 = 6 then kg.2 else 255) else acc) (65535, 255, 255)

/-- The end of life is computed anew: daily, and after every retirement, insertion and return (R495). -/
def State.foretell (s : State) : State := s.setRel { s.rel with figure := s.peolFull }

/-- The module's predicted end of life (R495): 0 while a condition of R42, R75, R120 or R205 holds. -/
def State.peol (s : State) : Nat := if s.rel.forced.isEmpty then s.rel.figure.1 else 0

/-- The smallest end of life of the indicators of a unit of R504. -/
def State.unitKindPeol (s : State) (kind unit : Nat) : Nat :=
  match kind with
  | 1 => Nat.min (s.unitPeol 0 unit) (s.unitPeol 2 unit)
  | 2 => s.unitPeol 2 (unit / 50)
  | 3 => s.unitPeol 1 unit
  | 9 => if 2 ≤ unit then s.unitPeol 6 (unit - 2) else 65535
  | 13 => s.unitPeol 3 0
  | 14 => Nat.min (s.unitPeol 4 0) (s.unitPeol 5 0)
  | 0 => s.peol
  | _ => 65535

def State.force (s : State) (c : Nat) (on : Bool) : State :=
  s.setRel { s.rel with forced := if on then insertNat s.rel.forced c else removeNat s.rel.forced c }

/-- A core's wear ceiling in MHz (R112, R491), of its ageing in 0.001 %. -/
def wearCeiling (ageing : Int) : Nat :=
  let steps := if ageing < 0 then 0 else ageing.toNat / 500
  Nat.max 600 (1100 - 25 * steps)

/-- Measured ageing, core by core (R489 kind 0); a ceiling below 1,000 MHz marks the core (R491). -/
def State.setAgeing (s : State) (xs : List Int) : State :=
  (List.zipIdx (xs.take 18)).foldl (fun s x => s.updCore x.2 (fun c =>
    { c with ageing := x.1, wearMarked := c.wearMarked || (decide (wearCeiling x.1 < 1000) && decide (c.role ≠ .retired)) })) s

/-! ### Detections (R486) -/

/-- Charge one detection to a unit. -/
def State.charge (s : State) (kind unit : Nat) : State :=
  let k := unitKey kind unit
  (s.setRel { s.rel with charged := s.rel.charged.upd k 0 (· + 1)
                         charged24 := s.rel.charged24 ++ [(s.now, k)] }).odInc 0x2700 8 1

/-- Times a unit has returned (R499). -/
def State.returnsOf (s : State) (kind unit : Nat) : Nat :=
  match kind with
  | 1 => (s.core unit).returns
  | 2 => (s.core (unit / 50)).bankReturns.getD (unit % 50) 0
  | 3 => (s.sub unit).returns
  | _ => 0

def State.wearMap (s : State) (kind unit : Nat) : List Nat :=
  [s.rel.charged.getD (unitKey kind unit) 0,
   (s.rel.charged24.filter (fun x => x.2 = unitKey kind unit && decide (s.now < x.1 + day24))).length,
   s.returnsOf kind unit, s.unitKindPeol kind unit]

/-- The hottest junction (0.01 °C); with no sample yet, as the coolant inlet reads. -/
def State.hottest (s : State) : Int := s.tray.junction.foldl (fun a x => if a < x.2 then x.2 else a) s.tray.inlet

/-! ### Records (R501–R507) -/

/-- TAI in nanoseconds, where the offset entry is set (R502 key 4). -/
def State.tai (s : State) : Option Int :=
  let off := s.odGet 0x1200 8
  if off = 0 then none else some (toSigned 64 off + 4 * (s.now : Int))

/-- The loaded runtime's digest, once it is known. -/
def State.bundleDigest (s : State) : Option Nat := if s.odGet 0x2150 5 = 0 then none else some (s.odGet 0x2150 5)

/-- Take a record number, reserving a block in the store where none is left (R505). -/
def State.takeNumber (s : State) : Nat × State :=
  let n := s.rel.nextRecord
  let s := if s.rel.reserved ≤ n then
      (s.setRel { s.rel with reserved := n + 4096 }).commit [8]
    else s
  (n, s.setRel { s.rel with nextRecord := n + 1 })

/-- Key of a detection for R507. -/
def sameSig (cause kind unit : Nat) (x : Nat × Nat × Nat × Nat × Nat) : Bool :=
  x.1 = cause && x.2.1 = kind && x.2.2.1 = unit

/-- Build a record. -/
def State.makeRecord (s : State) (no cause : Nat) (causes : List Nat) (kind unit : Nat) (part : Option Nat)
    (flags suppressed : Nat) (detail : List (Nat × DVal)) : FailRec :=
  { no := no, time := s.now, tai := s.tai, cause := cause, causes := causes, kind := kind, unit := unit,
    part := part, state := s.mode.code, platform := s.bootedImage.digest, bundle := s.bundleDigest, flags := flags,
    suppressed := suppressed, wear := s.wearMap kind unit, peol := s.peol, temp := s.hottest, detail := detail }

/-- The notification of a record (R506). -/
def failureBody (r : FailRec) : Nat :=
  r.no + at' 64 r.cause + at' 72 r.kind + at' 80 r.unit + at' 96 (r.part.getD 255) + at' 104 r.flags

/-- Bytes of a sample (R582). -/
def Sample.bytes (x : Sample) : Nat := 598080 + 32 * x.queues.length

/-- Bytes that a record takes in the region: its largest length (R501; log 140). -/
def recordBytes : Nat := 2048

/-- Bytes of the region that its records and samples take. -/
def Rel.ringBytes (r : Rel) : Nat := recordBytes * r.records.length + (r.samples.map Sample.bytes).sum

/-- The older of the oldest record and the oldest sample leaves. -/
def Rel.dropOldest (r : Rel) : Rel :=
  match r.records, r.samples with
  | f :: fs, x :: xs => if f.stamp < x.stamp then { r with records := fs } else { r with samples := xs }
  | _ :: fs, [] => { r with records := fs }
  | [], _ => { r with samples := r.samples.drop 1 }

/-- Oldest first, until the region of 64 GB holds the rest (R208). -/
def Rel.fitRing : Nat → Rel → Rel
  | 0, r => r
  | n + 1, r => if r.ringBytes ≤ 64000000000 then r else r.dropOldest.fitRing n

/-- A record, or a sample, enters the region. -/
def Rel.keepRecord (r : Rel) (f : FailRec) : Rel :=
  ({ r with records := r.records ++ [{ f with stamp := r.ringNext }], ringNext := r.ringNext + 1 } : Rel).fitRing
    (r.records.length + r.samples.length + 1)
def Rel.keepSample (r : Rel) (x : Sample) : Rel :=
  ({ r with samples := r.samples ++ [{ x with stamp := r.ringNext }], ringNext := r.ringNext + 1 } : Rel).fitRing
    (r.records.length + r.samples.length + 1)

/-- Every write to the park store draws from the write budget (R214) and counts as written (R219). -/
def State.parkDraw (s : State) (n : Nat) : State :=
  s.setPark { s.park with budget := s.park.budget - n, written := s.park.written + n }

/-- Write a failure-signature record (R506), or merge the detection (R507). -/
def State.failRecord (s : State) (die cause kind unit : Nat) (part : Option Nat) (flags : Nat)
    (detail : List (Nat × DVal)) : State :=
  let r := s.rel
  let secNow := s.now / second
  let r := if r.rateSec = secNow then r else { r with rateSec := secNow, rate := [] }
  let prev := r.lastWritten.find? (sameSig cause kind unit)
  let recent := match prev with
    | some x => decide (0 < x.2.2.2.1) && decide (s.now < x.2.2.2.1 - 1 + second)
    | none => false
  let others := r.lastWritten.filter (fun x => !sameSig cause kind unit x)
  if recent || s.odGet 0x2700 9 ≤ r.rate.getD die 0 then
    let (t, n) := match prev with
      | some x => (x.2.2.2.1, x.2.2.2.2 + 1)
      | none => (0, 1)
    (s.setRel { r with lastWritten := (cause, kind, unit, t, n) :: others }).odInc 0x2701 6 1
  else
    let merged := match prev with
      | some x => x.2.2.2.2
      | none => 0
    let (no, s) := (s.setRel { r with lastWritten := (cause, kind, unit, s.now + 1, 0) :: others
                                      rate := r.rate.upd die 0 (· + 1) }).takeNumber
    let rec' := s.makeRecord no cause [] kind unit part flags merged detail
    let s := ((s.setRel (s.rel.keepRecord rec')).parkDraw recordBytes).odSet 0x2701 1 no
    (s.mbxSend die 0 0x0081 16 0 0 0 (failureBody rec')).2

/-- A record that goes to the persistent store and is copied at the next start: of a stop sequence, with flag bit 1, or
while only the islands run (R31, R35, R506). It is neither merged nor counted (R507). -/
def State.storeRecord (s : State) (causes : List Nat) (kind unit flags : Nat) (detail : List (Nat × DVal)) : State :=
  let (no, s) := s.takeNumber
  let rec' := s.makeRecord no (causes.headD 0) (causes.drop 1) kind unit none flags 0 detail
  (s.setRel { s.rel with stopRecs := s.rel.stopRecs ++ [rec'] }).odSet 0x2701 1 no

/-- The copy of these records to the park store at the next start (R506). -/
def State.copyStopRecord (s : State) : State :=
  (s.setRel (s.rel.stopRecs.foldl Rel.keepRecord { s.rel with stopRecs := [] })).parkDraw (recordBytes * s.rel.stopRecs.length)

/-- The wear_limit record of a unit whose value first reaches the limit of its kind (R489). -/
def State.wearLimitCheck (s : State) (kind unit : Nat) : State :=
  if s.wearAtLimit kind unit && kind ≠ 1 && kind ≠ 4 && !hasNat s.rel.limited (256 * kind + unit) then
    let (uk, un) := match kind with
      | 0 => (1, unit) | 2 => (1, unit) | 3 => (13, 0) | 5 => (14, 0) | 6 => (9, unit + 2) | _ => (0, 0)
    let die := match kind with
      | 0 => dieOfCore unit | 2 => dieOfCore unit | 6 => dieOfPort (unit + 2) | _ => 0
    let part := if uk = 1 then s.coreOwner un else none
    ((s.setRel { s.rel with limited := insertNat s.rel.limited (256 * kind + unit) }).failRecord die 0x1E uk un part 0
      [(0, .num kind), (1, .int (s.wearValue kind unit))]).commit [2]
  else s

/-! ### The CBOR item of a record (R501, R502) -/

def beBytes (n v : Nat) : List Byte := (leBytes n v).reverse

/-- Head of a data item: major type and argument in the shortest form. -/
def cborHead (major n : Nat) : List Byte :=
  let m := 32 * major
  if n < 24 then [BitVec.ofNat 8 (m + n)]
  else if n < 256 then BitVec.ofNat 8 (m + 24) :: beBytes 1 n
  else if n < 65536 then BitVec.ofNat 8 (m + 25) :: beBytes 2 n
  else if n < 4294967296 then BitVec.ofNat 8 (m + 26) :: beBytes 4 n
  else BitVec.ofNat 8 (m + 27) :: beBytes 8 n

def cborInt (i : Int) : List Byte := if 0 ≤ i then cborHead 0 i.toNat else cborHead 1 (-1 - i).toNat

/-- A byte string of `n` bytes held as a little-endian number. -/
def cborBytes (n v : Nat) : List Byte := cborHead 2 n ++ leBytes n v

def cborVal : DVal → List Byte
  | .num n => cborHead 0 n
  | .int i => cborInt i
  | .pair a b => cborHead 4 2 ++ cborHead 0 a ++ cborHead 0 b
  | .bytes n v => cborBytes n v

def cborMap (xs : List (Nat × List Byte)) : List Byte :=
  cborHead 5 xs.length ++ xs.flatMap (fun x => cborHead 0 x.1 ++ x.2)

/-- Length of a string held as a little-endian number. -/
def bytesUsed : Nat → Nat → Nat
  | 0, _ => 0
  | f + 1, v => if v = 0 then 0 else 1 + bytesUsed f (v / 256)

def cborText (v : Nat) : List Byte := let n := bytesUsed 64 v; cborHead 3 n ++ leBytes n v

def State.cborRecord (s : State) (r : FailRec) : List Byte :=
  cborMap ([(0, cborHead 0 1), (1, cborHead 0 r.no), (2, cborText (s.odGet 0x1000 4)), (3, cborHead 0 r.time)]
    ++ (match r.tai with | some t => [(4, cborInt t)] | none => [])
    ++ [(5, cborHead 0 r.cause)]
    ++ (if r.causes.isEmpty then [] else [(6, cborHead 4 r.causes.length ++ r.causes.flatMap (cborHead 0))])
    ++ [(7, cborVal (.pair r.kind r.unit))]
    ++ (match r.part with | some p => [(8, cborHead 0 p)] | none => [])
    ++ [(9, cborHead 0 r.state), (10, cborBytes 32 r.platform)]
    ++ (match r.bundle with | some b => [(11, cborBytes 32 b)] | none => [])
    ++ [(12, cborHead 0 r.flags)]
    ++ (if r.suppressed = 0 then [] else [(13, cborHead 0 r.suppressed)])
    ++ [(14, cborMap ((List.zipIdx r.wear).map (fun x => (x.2, cborHead 0 x.1)))), (15, cborHead 0 r.peol),
        (16, cborInt r.temp), (17, cborMap (r.detail.map (fun d => (d.1, cborVal d.2))))])

end Sys2Proof.Machine
end

