-- ==== Sys2Proof/Machine/Lines.lean ====
section
/-!
DEFINITION. What follows a read that met an error: counts, events, records, marked banks, row repair and retirement of
DDR5 subchannels (04 R118–R120; 06 R191, R195–R197, R203–R205).
-/
namespace Sys2Proof.Machine

open Sys2Proof

/-- Index of an entry of partition p's window (R6, R546). -/
def wIx (p off : Nat) : Nat := 0x3000 + 0x200 * p + off

/-- Advance a count of the partition that owns the unit, where one does. -/
def State.ownerInc (s : State) (p : Option Nat) (off sub n : Nat) : State :=
  match p with
  | some p => s.odInc (wIx p off) sub n
  | none => s

/-! ### The complement of a die (R75) -/

/-- Cores of a die that are in service, being reset or tested. -/
def State.coresActive (s : State) (die : Nat) : Nat :=
  ((upto 18).filter (fun n => decide (dieOfCore n = die) && decide ((s.core n).role ≠ .spare)
    && decide ((s.core n).role ≠ .retired))).length

/-- Subchannels of a die that hold pages. -/
def State.subsActive (s : State) (die : Nat) : Nat :=
  ((upto 68).filter (fun n => decide (dieOfSub n = die) && (match (s.sub n).role with
    | .inService | .migratingOut | .degraded => true
    | _ => false))).length

/-- A unit has left service and no spare of its kind is left on the die. -/
def State.dieShort (s : State) (die : Nat) : Bool :=
  ((s.spareCores die).isEmpty && decide (s.coresActive die < 8))
    || ((s.spareSubs die).isEmpty && decide (s.subsActive die < 32))

/-- After a retirement, insertion or return: the end of life is computed anew, and is 0 days while a die runs without a
unit (R75, R495). -/
def State.checkComplement (s : State) : State := (s.force 2 (s.dieShort 0 || s.dieShort 1)).foretell

/-! ### Scratchpad errors (R118–R120) -/

/-- Logical bank of a line (R116). -/
def bankOfLine (line : Nat) : Nat := 16 * (line / 65536) + line % 16

/-- Mark a logical bank for retirement (R120). -/
def State.markBank (s : State) (n bank corrected bad : Nat) : State :=
  let c := s.core n
  if hasNat c.marked bank then s
  else
    let phys := c.bankMap.getD bank bank
    let s := s.putCore n { c with marked := insertNat c.marked bank }
    let s := (if c.spares.isEmpty then s.force 3 true else s).measure 2 n
    let s := s.raiseCore n 4 bank
    let s := s.failRecord (dieOfCore n) 5 2 (50 * n + phys) (s.coreOwner n) 0
      [(0, .num bank), (1, .num phys), (2, .num corrected), (3, .num bad)]
    (s.wearLimitCheck 2 n).commit [2]

/-- Distinct lines of a bank corrected within 24 h. -/
def State.bankLines24 (s : State) (n bank : Nat) : List Nat :=
  ((s.core n).lineFix.filter (fun x => decide (s.now < x.1 + day24) && decide (bankOfLine x.2 = bank))).foldl
    (fun a x => insertNat a x.2) []

/-- A read met an error in a scratchpad line (R118): its bank's counts, and the mark of R120. -/
def State.spadCount (s : State) (n line : Nat) (bad : Bool) : State :=
  let c := s.core n
  let bank := bankOfLine line
  let unit := 50 * n + c.bankMap.getD bank bank
  let s := if bad then s else s.putCore n { c with lineFix := c.lineFix ++ [(s.now, line)] }
  let s := ((s.odInc (0x2110 + n) (if bad then 0x0B else 0x0A) 1).charge 2 unit).ownerInc (s.coreOwner n) 0x040 3 1
  let k := (s.bankLines24 n bank).length
  if bad || 16 ≤ k then s.markBank n bank k (b2n bad) else s

/-! ### Retirement (R203–R205) -/

/-- Valid pages on a subchannel, as keys of the page maps. -/
def State.pagesOn (s : State) (n : Nat) : List Nat :=
  (s.pageMaps.only (fun _ e => peValid e && decide (peSub e = n))).map (·.1)

/-- Drop the cached translations of an entry on both dies (R189). -/
def State.invalidate (s : State) (key : Nat) : State := s.setTlb ((s.tlb.del key).del (2 ^ 21 + key))

/-- Set migrating and the target fields of a page (R204 step 2). -/
def State.markMigrating (s : State) (key dst : Nat) : State :=
  let e := s.pageMaps.getD key 0
  let e := setFld (setFld (setFld e 4 1 1) 75 7 dst) 82 17 (peUnit e)
  (s.setPageMaps (s.pageMaps.put key e)).invalidate key

/-- Begin a retirement whose die has none running (R204 steps 1 and 2), or leave the subchannel degraded where no spare
is left (R205). Trigger 1 is the limit of R489's kind 1, which bars a return (R499; log 132). -/
def State.beginRetire (s : State) (n trigger : Nat) : State :=
  let die := dieOfSub n
  let s := s.updSub n (fun u => { u with limitRetired := decide (trigger = 1) })
  match s.spareSubs die with
  | t :: _ =>
    let s := match s.subOwner n with
      | some p => s.updPart p (fun x => { x with subs := x.subs ||| BitVec.ofNat 68 (2 ^ t) })
      | none => s
    let fill := (s.sub n).mem.fill
    let s := s.updSub n (fun u => { u with role := .migratingOut })
    let s := (s.updSub t (fun v => { v with role := .migratingIn, mem := { fill := fill } })).clearUpsets t
    let pages := s.pagesOn n
    let s := pages.foldl (fun s k => s.markMigrating k t) s
    let s := s.setMigr (s.migr.put die { src := n, dst := t, trigger := trigger, left := pages
                                         region := if (indexOf n (s.ringOf die)).isSome then 64 else 0 })
    ((s.raise die 184 n).odSet (0x2210 + n) 0x0B 1).commit [2]
  | [] => ((s.updSub n (fun u => { u with role := .degraded })).force 4 true).odSet (0x2210 + n) 0x0B 3

/-- A retirement may be ordered: the subchannel is in service. -/
def State.retireOk (s : State) (n : Nat) : Bool := (s.sub n).role = .inService

/-- Start a retirement, or let it wait in the order of the triggers (R204). -/
def State.retireSub (s : State) (n trigger : Nat) : State :=
  if !s.retireOk n then s
  else if (s.migr.find (dieOfSub n)).isSome then
    if s.migrQueue.any (fun x => x.1 = n) then s else s.setMigrQueue (s.migrQueue ++ [(n, trigger)])
  else s.beginRetire n trigger

/-- Replace one subchannel by another in the rotation of a die's module region. -/
def State.ringSwap (s : State) (a b : Nat) : State :=
  let f := fun (xs : List Nat) => xs.map (fun x => if x = a then b else x)
  s.setRotation (f s.rotation.1, f s.rotation.2)

/-- The roles at the end of a retirement (R204 step 5); the module region's blocks lie on the target. -/
def State.retireRoles (s : State) (m : Migr) : State :=
  let s := ((s.settleWhere m.src (fun _ => true)).ringSwap m.src m.dst)
  let s := s.updSub m.dst (fun u => { u with role := .inService })
  let s := s.updSub m.src (fun u => { u with role := .retired, mem := { fill := u.mem.fill } })
  (s.setParts (s.parts.mapVals (fun _ x => { x with subs := x.subs &&& ~~~(BitVec.ofNat 68 (2 ^ m.src)) }))).checkComplement

/-- The waiting retirements of a die, in order, until one runs; one that finds no spare leaves its subchannel degraded
and lets the next begin. -/
def State.nextRetire (s : State) (die : Nat) : List (Nat × Nat) → State
  | [] => s
  | x :: xs =>
    if dieOfSub x.1 = die && (s.migr.find die).isNone then
      ((s.setMigrQueue (s.migrQueue.filter (fun y => y ≠ x))).retireSub x.1 x.2).nextRetire die xs
    else s.nextRetire die xs

/-- A degraded subchannel leaves service once it holds no page (R205). -/
def State.degradedDone (s : State) : State :=
  let gone := (upto 68).filter (fun n => decide ((s.sub n).role = .degraded) && (s.pagesOn n).isEmpty)
  let s := gone.foldl (fun s n =>
    (s.updSub n (fun u => { u with role := .retired })).setParts
      (s.parts.mapVals (fun _ x => { x with subs := x.subs &&& ~~~(BitVec.ofNat 68 (2 ^ n)) }))) s
  let s := s.setRotation (s.rotation.1.filter (fun n => !gone.contains n), s.rotation.2.filter (fun n => !gone.contains n))
  if gone.isEmpty then s
  else ((s.force 4 ((upto 68).any (fun n => decide ((s.sub n).role = .degraded)))).checkComplement).commit [2]

/-! ### Errors and row repair (R191, R196, R197, R203) -/

/-- Rows of uncorrectable lines of the last 10 s. -/
def State.badRows (s : State) (n : Nat) : List Nat :=
  ((s.sub n).bad.filter (fun x => decide (s.now < x.1 + 10 * second))).foldl (fun a x => insertNat a x.2) []

/-- Repairs left in a bank group of a device (R197). -/
def Sub.pprLeft (u : Sub) (device group : Nat) : Nat := u.ppr.getD (8 * device + group) 1

/-- Every device of the subchannel can repair the row. -/
def Sub.canRepair (u : Sub) (row : Nat) : Bool := (upto 3).all (fun d => decide (0 < u.pprLeft d (row % 8)))

/-- Apply sPPR to a row in each device. -/
def Sub.repaired (u : Sub) (row : Nat) : Sub :=
  { u with softRows := insertNat u.softRows row
           ppr := (upto 3).foldl (fun m d => m.put (8 * d + row % 8) (u.pprLeft d (row % 8) - 1)) u.ppr }

/-- Repair a row (R197): its 64 lines are read and written back; or retire the subchannel where a device cannot take the
repair (R203). -/
def State.repairRow (s : State) (n row : Nat) : State :=
  if (s.sub n).canRepair row then (s.updSub n (fun u => u.repaired row)).settleWhere n (fun l => rowOfLine l = row)
  else s.retireSub n 3

/-- A corrected line is counted; its row may need repair, its subchannel retirement. -/
def State.lineCorrected (s : State) (n line : Nat) : State :=
  let row := rowOfLine line
  let owner := s.subOwner n
  let s := s.updSub n (fun u => { u with fixes := u.fixes ++ [(s.now, row)] })
  let s := (((s.odInc 0x2200 8 1).odInc (0x2210 + n) 3 1).ownerInc owner 0x040 1 1).charge 3 n
  let s := s.bumpDie (dieOfSub n) 0x44 owner 1
  let inRow := ((s.sub n).fixes.filter (fun x => decide (s.now < x.1 + day24) && x.2 = row)).length
  let s := if 2 ≤ inRow then s.repairRow n row else s
  if s.odGet 0x2200 6 ≤ s.fixes24 n then s.retireSub n 1 else s

/-- An uncorrectable line is counted, with its event and record; its row is repaired. -/
def State.lineLost (s : State) (n line : Nat) : State :=
  let row := rowOfLine line
  let die := dieOfSub n
  let owner := s.subOwner n
  let s := s.updSub n (fun u => { u with bad := u.bad ++ [(s.now, row)] })
  let s := (((s.odInc 0x2200 9 1).odInc (0x2210 + n) 4 1).ownerInc owner 0x040 2 1).charge 3 n
  let s := (s.raise die 185 n).failRecord die 6 3 n owner 0 [(0, .num line), (1, .num (lineRow line))]
  let s := s.repairRow n row
  if 4 ≤ (s.badRows n).length then s.retireSub n 2 else s

def State.countReport (s : State) : EccReport → State
  | .line n line bad => if bad then s.lineLost n line else s.lineCorrected n line
  | .spad n line bad => s.spadCount n line bad

/-- The reads that met errors are counted (log 137). -/
def State.account (s : State) : State := if s.ecc.isEmpty then s else s.ecc.foldl State.countReport (s.setEcc [])

end Sys2Proof.Machine
end

