-- ==== Sys2Proof/Machine/Queues.lean ====
section
/-!
DEFINITION. Queues (05): contexts, faults, doorbells, dispatch, completion, control commands; and the job-group
abort that a queue fault starts (13 R432–R434).
-/
namespace Sys2Proof.Machine

open Sys2Proof

/-! ### Context and header words (R149, R151) -/

def QState.code : QState → Nat
  | .disabled => 0 | .active => 1 | .paused => 2 | .fault => 3

/-- The context as software reads it (R149). -/
def Queue.word (x : Queue) : Nat :=
  at' 448 x.seed.toNat + at' 416 x.nextSeq.toNat + at' 384 x.doneSeq.toNat + at' 336 x.ringBase.toNat
    + at' 331 x.depthLog2.toNat + at' 311 x.link0.toNat + at' 294 x.link1.toNat + at' 282 x.engine.toNat
    + at' 272 x.eventSrc.toNat + at' 271 (b2n x.eventEn) + at' 267 x.timeout.toNat + at' 264 x.partition.toNat
    + at' 262 x.cls.toNat + at' 259 x.state.code + at' 239 x.credits.toNat + at' 223 x.head.toNat
    + at' 207 x.tail.toNat + at' 199 x.faultCode.toNat + at' 144 x.creditWb.toNat + at' 112 x.dropped.toNat

/-- A write of the context's rw fields (R149). -/
def Queue.setWord (x : Queue) (w : Nat) : Queue :=
  { x with
    seed := BitVec.ofNat 64 (fld w 448 64)
    nextSeq := BitVec.ofNat 32 (fld w 416 32)
    ringBase := BitVec.ofNat 48 (fld w 336 48)
    depthLog2 := BitVec.ofNat 5 (fld w 331 5)
    link0 := BitVec.ofNat 17 (fld w 311 17)
    link1 := BitVec.ofNat 17 (fld w 294 17)
    engine := BitVec.ofNat 12 (fld w 282 12)
    eventSrc := BitVec.ofNat 10 (fld w 272 10)
    eventEn := bitOf w 271
    timeout := BitVec.ofNat 4 (fld w 267 4)
    partition := BitVec.ofNat 3 (fld w 264 3)
    cls := BitVec.ofNat 2 (fld w 262 2)
    creditWb := BitVec.ofNat 48 (fld w 144 48) }

def Queue.kind (x : Queue) : Nat := x.engine.toNat / 256
def Queue.inst (x : Queue) : Nat := x.engine.toNat % 256
def Queue.part (x : Queue) : Nat := x.partition.toNat

/-- The tensor core of a command or DMA queue (R150). -/
def Queue.coreOf (x : Queue) : Option Nat :=
  if x.cls ≠ 0 then none
  else if x.kind = 1 then some x.inst else if x.kind = 2 then some (x.inst / 8) else none

def dOpcode (d : Nat) : Nat := fld d 56 8
def dSeq (d : Nat) : Nat := fld d 24 32
def dWait (d : Nat) : Nat := fld d 12 12
def dSignal (d : Nat) : Nat := fld d 0 12

def Job.d (j : Job) : Nat := j.desc.toNat

/-- Slots filled and not yet freed. -/
def Queue.occupied (x : Queue) : Nat := x.depth - x.credits.toNat

/-- Codes that put the queue in FAULT (R168 and the engines' tables: R128, R211, R228, R261, R297, R340, R366,
R420, R523). 0x4B, 0x4E and 0x4F lie outside 0x40–0x4A and are not marked (log 12). -/
def faultsQueue (c : Nat) : Bool :=
  (0x11 ≤ c && c ≤ 0x1A) || (0x40 ≤ c && c ≤ 0x4A) || c = 0x4C || c = 0x4D
    || [0x60, 0x62, 0x66, 0x68, 0x6E, 0x6F].contains c
    || (0x80 ≤ c && c ≤ 0x86) || c = 0x8B || (0x90 ≤ c && c ≤ 0x9F)
    || [0xA0, 0xA1, 0xA2, 0xA4, 0xA5, 0xA6, 0xA9, 0xAA, 0xAB].contains c
    || (0xB0 ≤ c && c ≤ 0xB8) || (0xC0 ≤ c && c ≤ 0xC5) || c = 0xC8
    || [0xD0, 0xD1, 0xD2, 0xD3, 0xD5].contains c

/-! ### Reads of memory (R200, R188) -/

/-- A decode error (R200, R486): counted, charged to the decoder of the subchannel's pair, recorded. -/
def State.decodeError (s : State) (die p e block : Nat) : State :=
  let page := match s.pageMaps.find? (fun kv => decide (kv.1 / 2 ^ 18 = p) && decide (kv.2 = e)) with
    | some kv => kv.1 % 2 ^ 18
    | none => 0
  let unit := peSub e / 2
  ((s.odInc 0x2200 0x0A 1).charge 4 unit).failRecord die 9 4 unit (some p) 0 [(0, .num page), (1, .num block)]

/-- A read of partition memory by an engine of the die: its bytes with their marks, or none where the access fails. -/
def State.mread (s : State) (die p a n : Nat) : Option (List (Byte × Bool)) × State :=
  match s.pread die p a n with
  | (some (bs, errs), s) => (some bs, errs.foldl (fun s e => s.decodeError die p e.1 e.2) s)
  | (none, s) => (none, s)

/-! ### Job groups (R432, R433) -/

def jgId (e : Nat) : Nat := fld e 224 32
def jgToken (e : Nat) : Nat := fld e 160 64
def jgPart (e : Nat) : Nat := fld e 157 3
def jgValid (e : Nat) : Bool := bitOf e 156
def jgHas (e q : Nat) : Bool :=
  (decide (fld e 75 17 ≤ q) && decide (q < fld e 75 17 + fld e 58 17))
    || (decide (fld e 41 17 ≤ q) && decide (q < fld e 41 17 + fld e 24 17))

/-- The members' fabric addresses, from the list in partition memory; none where it cannot be read. -/
def State.groupMembers (s : State) (e : Nat) : List Nat × State :=
  let n := fld e 140 8 + 1
  match s.mread 0 (jgPart e) (fld e 92 48) (2 * n) with
  | (some bs, s) => ((upto n).map (fun i => leNat ((bs.map (·.1)).drop (2 * i) |>.take 2)), s)
  | (none, s) => ([], s)

/-- The fabric ports that are up, active or standby. -/
def State.fabricUp (s : State) : List Nat :=
  [2, 3, 4, 5].filter (fun p => (s.port p).up && (decide ((s.port p).role = .active) || decide ((s.port p).role = .standby)))

/-- One frame leaves a port: padded to the shortest length (R411), counted (OD 0x2610 + p.07, code 0x51). -/
def State.sendOn (s : State) (part : Option Nat) (p : Nat) (bs : List Byte) : State :=
  let fabric := bs.getD 12 0 = 0x88 && bs.getD 13 0 = 0xB5
  let least := if fabric then 124 else 60
  let s := (s.emit (.frame p (bs ++ List.replicate (least - bs.length) 0))).odInc (0x2610 + p) 7 1
  if 2 ≤ p then s.bumpDie (dieOfPort p) 0x51 part 1 else s

/-- The MAC address of a fabric address (R411). -/
def macOf (a : Nat) : List Byte :=
  if a = 0xFFFF then List.replicate 6 0xFF else [0x02, 0x46, 0, 0, BitVec.ofNat 8 (a / 256), BitVec.ofNat 8 a]

/-- A frame of the module's own on fabric port p (R411, R412): its type, the receiver and the payload. Fields that R412
gives DATA only are zero. -/
def State.fabricFrame (s : State) (p type dst : Nat) (payload : List Byte) : List Byte :=
  macOf dst ++ leBytes 6 (s.odGet (0x2610 + p) 0x0E) ++ [0x88, 0xB5]
    ++ leBytes 32 (at' 252 1 + at' 248 type + at' 247 (linkOfPort p - 1) + at' 224 (s.odGet 0x2600 4) + at' 208 dst
      + at' 144 payload.length)
    ++ payload

/-- The payload of a JOB_ABORT frame (R433). -/
def abortPayload (e reason time : Nat) : List Byte :=
  leBytes 4 (jgId e) ++ leBytes 8 (jgToken e) ++ leBytes 1 reason ++ leBytes 8 time

/-- A group aborts (R433): one frame to every member on every fabric port that is up; with none up it is counted as
unsent in a record. -/
def State.abortGroup (s : State) (e reason : Nat) : State :=
  if jgValid e then
    let ports := s.fabricUp
    if ports.isEmpty then
      s.failRecord 0 0x13 0 0 (some (jgPart e)) 0 [(0, .num (jgId e)), (1, .num reason)]
    else
      let t := s.now
      let (ms, s) := s.groupMembers e
      let s := (ports.flatMap (fun p => ms.map (fun m => (p, m)))).foldl (fun s x =>
        s.sendOn (some (jgPart e)) x.1 (s.fabricFrame x.1 1 x.2 (abortPayload e reason t))) s
      s.odInc 0x2600 0x0B 1
  else s

/-- Every valid group whose entry meets `p` aborts. -/
def State.abortGroups (s : State) (reason : Nat) (p : Nat → Bool) : State :=
  (s.net.groups.only (fun _ e => jgValid e && p e)).foldl (fun s x => s.abortGroup x.2 reason) s

/-! ### FAULT (R169) -/

/-- Put a queue in FAULT, raising the partition's queue-fault event; the first code stays. -/
def State.faultQueue (s : State) (q code : Nat) : State :=
  let x := s.queue q
  if x.state = .fault || x.state = .disabled then s
  else
    let s := s.putQueue q { x with state := .fault, faultCode := BitVec.ofNat 8 code }
    let s := (s.odInc 0x2300 8 1).raisePart (dieOfQueue q) x.part 0 (q % 2 ^ 17 + at' 17 code)
    if code = 0xC8 then s else s.abortGroups 1 (fun e => jgHas e q)

/-! ### Waits (R167) -/

/-- The limit of a wait, from the queue's code or the default entry (R167, R180). -/
def State.waitLimit (s : State) (code dfltSub : Nat) : Nat :=
  limitOf (if code = 0 then s.odGet 0x2300 dfltSub else code)

/-- The limit of a data-queue wait: the DMA queue's code, the data queue's, the default (R167). -/
def State.dataLimit (s : State) (q dq dfltSub : Nat) : Nat :=
  let a := (s.queue q).timeout.toNat
  let b := (s.queue dq).timeout.toNat
  limitOf (if a ≠ 0 then a else if b ≠ 0 then b else s.odGet 0x2300 dfltSub)

/-! ### Application software as the consumer (R150 kind 0xB; log 143) -/

/-- Finish the handed jobs among the first `n`. -/
def finishLead : Nat → List Job → List Job
  | 0, js => js
  | _, [] => []
  | n + 1, j :: js => (if j.phase = .handed then { j with phase := .finished } else j) :: finishLead n js

/-- The consumer is software: its doorbell returns the slots, and says that their descriptors are done. -/
def Queue.soft (x : Queue) : Bool := x.cls = 0 && x.kind = 11

/-- A descriptor whose slot the software has freed is done. -/
def Queue.freeSoft (x : Queue) : Queue := if x.soft then { x with jobs := finishLead x.lead.toNat x.jobs } else x

/-! ### Doorbells (R153–R156) -/

/-- A doorbell write (R153): bit 31 names the end. `who` is the partition of the software that wrote it. -/
def State.doorbell (s : State) (q word who : Nat) : State :=
  let x := s.queue q
  let consumer := bitOf word 31
  let drop := fld word 16 15 ≠ 0 || who ≠ x.part || decide (x.state = .disabled)
    || (if consumer then x.cls = 1 || (x.cls = 0 && x.kind ≠ 11) else x.cls ≠ 0)
  if drop then s.odInc 0x2300 9 1
  else
    let ix := word % 65536 % x.depth
    if consumer then
      let n := (ix + x.depth - x.head.toNat) % x.depth
      if n > x.occupied then s.faultQueue q 0x19
      else if n = 0 then s
      else (s.putQueue q (({ x with
        head := BitVec.ofNat 16 ix, credits := BitVec.ofNat 17 (x.credits.toNat + n), lead := if x.soft then x.lead + n else x.lead } : Queue).freeSoft)).creditWriteBack q
    else
      let n := (ix + x.depth - x.tail.toNat) % x.depth
      if n > x.credits.toNat then s.faultQueue q 0x19
      else if n = 0 then s
      else (s.putQueue q { x with tail := BitVec.ofNat 16 ix, credits := BitVec.ofNat 17 (x.credits.toNat - n) }).creditWriteBack q

/-! ### Dispatch (R158) -/

/-- Slots announced and not yet read. -/
def Queue.unread (x : Queue) : Nat := ((x.occupied : Int) + x.lead - x.jobs.length).toNat

def Queue.slotAddr (x : Queue) (slot : Nat) : Nat := x.ringBase.toNat + 64 * slot

/-- A semaphore field is zero or names a semaphore of the partition (R158 step 3, R159). -/
def State.semOk (s : State) (sem p : Nat) : Bool := sem = 0 || (s.sem sem).owner.map BitVec.toNat = some p

/-- Steps 1 to 3 of R158: read the next slot and hold its check result. -/
def State.readSlot (s : State) (q : Nat) : Job × State :=
  let x := s.queue q
  let chk := x.nextSeq
  let slot := x.fetch.toNat
  let unreadable : Job := { desc := BitVec.ofNat 512 (at' 24 chk.toNat), slot := x.fetch, seq := chk,
                            phase := .waitRecord, since := s.now, status := 0x1A }
  let (got, s) := s.mread (dieOfQueue q) x.part (x.slotAddr slot) 64
  let j := match got with
    | some bs =>
      if bs.any (·.2) then unreadable
      else
        let d := leNat (bs.map (·.1))
        let st := if dSeq d ≠ chk.toNat then 0x11
          else if s.semOk (dWait d) x.part && s.semOk (dSignal d) x.part then 0 else 0x12
        { desc := BitVec.ofNat 512 d, slot := x.fetch, seq := chk, phase := .waitRecord, since := s.now,
          status := BitVec.ofNat 8 st }
    | none => unreadable
  (j, s.updQueue q (fun x => { x with
    nextSeq := chk + 1, fetch := BitVec.ofNat 16 ((slot + 1) % x.depth), jobs := x.jobs ++ [j] }))

/-- Change the last job of a queue. -/
def Queue.updLast (x : Queue) (f : Job → Job) : Queue :=
  match x.jobs.getLast? with
  | some j => { x with jobs := x.jobs.dropLast ++ [f j] }
  | none => x

/-- A core takes descriptors (R171). -/
def CoreRole.takes : CoreRole → Bool
  | .inService | .selfTest => true
  | _ => false

/-- Activity ends IDLE (R550). -/
def State.active (s : State) : State := if s.idle then s.setIdle false else s

/-- Note the moment of a dispatch (R550). -/
def State.noteDispatch (s : State) : State := s.active.setPow { s.pow with lastDispatch := s.now }

/-- Step 6 of R158: hand the last job to its engine. A core that is resetting, spare or retired answers 0x49 (R171);
a queue that does not dispatch, or whose channel is lent (R265), holds it. -/
def State.handOver (s : State) (q : Nat) : State :=
  let x := s.queue q
  if x.state = .active && x.lentTo.isNone then
    match x.coreOf with
    | some n =>
      if (s.core n).role.takes then
        (s.noteDispatch.putQueue q (x.updLast (fun j => { j with phase := .handed, since := s.now }))).bumpDie (dieOfQueue q) 0x47 (some x.part) 1
      else s.putQueue q (x.updLast (fun j => { j with phase := .finished, status := 0x49 }))
    | none =>
      (s.noteDispatch.putQueue q (x.updLast (fun j => { j with phase := .handed, since := s.now })).freeSoft).bumpDie (dieOfQueue q) 0x47 (some x.part) 1
  else s.putQueue q (x.updLast (fun j => { j with phase := .held }))

/-- Step 5 of R158: take the semaphore, or wait in order of arrival (R160). -/
def State.takeSem (s : State) (q sem : Nat) : State :=
  if sem = 0 then s.handOver q
  else if (s.sem sem).value ≠ 0 && s.semWait.all (fun w => w.1 ≠ sem) then
    (s.putSem sem { s.sem sem with value := (s.sem sem).value - 1 }).handOver q
  else
    (s.updQueue q (fun x => x.updLast (fun j => { j with phase := .waitSem, since := s.now }))).setSemWait
      (s.semWait ++ [(sem, q)])

/-- Step 4 of R158, and what follows it, for the last job of a queue that waits for a record. -/
def State.takeRecord (s : State) (q : Nat) : State :=
  let x := s.queue q
  let cq := x.link0.toNat
  let c := s.queue cq
  match x.jobs.getLast? with
  | some j =>
    if j.phase = .waitRecord && c.state ≠ .disabled && c.hasRoom then
      let s := s.reserveRecord cq
      let s := s.updQueue q (fun x => x.updLast (fun j => { j with pos := c.reserved }))
      if j.status ≠ 0 then s.updQueue q (fun x => x.updLast (fun j => { j with phase := .finished }))
      else s.takeSem q (dWait j.d)
    else s
  | none => s

/-- The next descriptor may be read: every earlier one has gone to its engine and does not wait there for credits, data or
a page (R162), and none ended before it with a code that puts the queue in FAULT. -/
def Queue.mayRead (x : Queue) : Bool :=
  match x.jobs.getLast? with
  | some j => !(j.phase = .waitRecord || j.phase = .waitSem || j.phase = .held
      || j.phase = .waitCredit || j.phase = .waitData || j.phase = .waitKv
      || (decide (j.phase = .finished) && faultsQueue j.status.toNat))
  | none => true

/-- A queue mailbox whose inbound queue is full takes no descriptor (R368). -/
def State.engineFull (s : State) (q : Nat) : Bool :=
  let x := s.queue q
  x.kind = 10 && decide ((s.mbx (dieOfQueue q) x.inst).inb.length ≥ 32)

/-- One dispatch attempt of a command queue (R158), of kind 0xB too (log 143); a lent channel's queue dispatches nothing
(R265). -/
def State.dispatch (s : State) (q : Nat) : State :=
  let x := s.queue q
  if x.state ≠ .active || x.cls ≠ 0 || x.lentTo.isSome || s.asleep || s.rst.due.isSome || s.rst.prepared.isSome then s
  else if x.mayRead then
    if x.unread = 0 || s.engineFull q then s else ((s.readSlot q).2).takeRecord q
  else s.takeRecord q

/-- Give a semaphore's unit to the take that reached it first (R160). -/
def State.serveSem (s : State) (sem : Nat) : State :=
  match s.semWait.find? (fun w => w.1 = sem) with
  | some w =>
    if (s.sem sem).value = 0 then s
    else
      let s := s.putSem sem { s.sem sem with value := (s.sem sem).value - 1 }
      (s.setSemWait (s.semWait.filter (fun v => v ≠ w))).handOver w.2
  | none => s

/-! ### Completion (R152, R160, R161) -/

/-- Finish the queue's first job of phase `ph` with a status. -/
def finishFirst (ph : JobPhase) (status flags detail : Nat) : List Job → List Job
  | [] => []
  | j :: js =>
    if j.phase = ph then
      { j with phase := .finished, status := BitVec.ofNat 8 status, flags := BitVec.ofNat 8 flags,
               detail := BitVec.ofNat 14 detail } :: js
    else j :: finishFirst ph status flags detail js

/-- Finish the job that was checked against sequence value `seq`. -/
def State.finishSeq (s : State) (q : Nat) (seq : BitVec 32) (status : Nat) : State :=
  s.updQueue q (fun x => { x with jobs := x.jobs.map (fun j =>
    if j.seq = seq && (j.phase = .handed || j.phase = .waitReply) then
      { j with phase := .finished, status := BitVec.ofNat 8 status, flags := 0, detail := 0 } else j) })

def State.finish (s : State) (q : Nat) (ph : JobPhase) (status flags detail : Nat) : State :=
  s.updQueue q (fun x => { x with jobs := finishFirst ph status flags detail x.jobs })

/-- The first job of a queue in a phase. -/
def Queue.jobIn (x : Queue) (ph : JobPhase) : Option Job := x.jobs.find? (fun j => j.phase = ph)

/-- A signal (R160): false where it would pass 65,535. A semaphore freed meanwhile takes none. -/
def State.signal (s : State) (sem : Nat) : Bool × State :=
  if sem = 0 || (s.sem sem).owner.isNone then (true, s)
  else if (s.sem sem).value = 0xFFFF then (false, s)
  else (true, s.putSem sem { s.sem sem with value := (s.sem sem).value + 1 })

/-- The completion record of a job but for its phase bit (R152). -/
def completionRecord (now status flags seq q detail : Nat) : Nat :=
  at' 80 (now % 2 ^ 48) + at' 72 status + at' 64 flags + at' 32 seq + at' 15 (q % 2 ^ 17) + at' 1 (detail % 2 ^ 14)

/-- The slot of the oldest job is free again; application software frees its slots itself (log 143). -/
def Queue.freed (x : Queue) : Queue :=
  if x.soft then { x with lead := x.lead - 1 }
  else { x with head := BitVec.ofNat 16 ((x.head.toNat + 1) % x.depth),
                credits := BitVec.ofNat 17 (Nat.min x.depth (x.credits.toNat + 1)) }

/-- A descriptor has been handed over, or has its status, and is not completed. -/
def Queue.atWork (x : Queue) : Bool :=
  x.jobs.any (fun j => match j.phase with
    | .waitSem | .held => false
    | .waitRecord => j.status ≠ 0
    | _ => true)

/-- The control command that the entry gave is done once those descriptors have completed (R170, R180). -/
def State.unwatch (s : State) (x : Queue) : State := if x.watched && !x.atWork then s.odSet 0x2310 5 2 else s

/-- The oldest job leaves its queue, with head and credit (R155, log 154), and a closing queue that it leaves empty is
DISABLED. -/
def State.popFront (s : State) (q : Nat) (j : Job) (rest : List Job) : State :=
  let x := (s.queue q).freed
  let x := { x with
    jobs := rest, doneSeq := j.seq
    state := if x.closing && rest.isEmpty then .disabled else x.state
    closing := x.closing && !rest.isEmpty }
  ((s.putQueue q { x with watched := x.watched && x.atWork }).creditWriteBack q).unwatch x

/-- What follows the record of a completion with status `st`: the core's counters, the completion queue's event, and the
fault of the queue where the status is one. -/
def State.completed (s : State) (q cq st : Nat) (core : Option Nat) : State :=
  let s := match core with
    | some n => (s.bumpCore n 6 1).bumpCore n 7 (if st = 0 || st = 1 then 0 else 1)
    | none => s
  let s := if (s.queue cq).eventEn then s.raise (dieOfQueue cq) (s.queue cq).eventSrc.toNat 0 else s
  if faultsQueue st then s.faultQueue q st else s

/-- Write the completion of the queue's oldest job, once it is finished. -/
def State.completeFront (s : State) (q : Nat) : State :=
  let x := s.queue q
  match x.jobs with
  | j :: rest =>
    if j.phase = .finished then
      let st0 := j.status.toNat
      let (ok, s) := if (st0 = 0 || st0 = 1) then s.signal (dSignal j.d) else (true, s)
      let st := if ok then st0 else 0x13
      let cq := x.link0.toNat
      let s := s.putRecord cq j.pos (completionRecord s.now st j.flags.toNat (dSeq j.d) q j.detail.toNat)
      (s.popFront q j rest).completed q cq st x.coreOf
    else s
  | [] => s

/-- Write completions of finished jobs, oldest first, at most `n`. -/
def State.completeAll : Nat → State → Nat → State
  | 0, s, _ => s
  | n + 1, s, q =>
    match (s.queue q).jobs with
    | j :: _ => if j.phase = .finished then State.completeAll n (s.completeFront q) q else s
    | [] => s

/-- The engine has no more to do for the job: it is done, or what remains comes from outside. -/
def JobPhase.past : JobPhase → Bool
  | .finished | .posted | .waitLink | .waitReply => true
  | .waitRecord | .waitSem | .held | .handed | .waitCredit | .waitData | .waitKv => false

/-- The descriptor at the front of an engine, on a queue of this kind (R150): descriptors take effect in order (R162). -/
def State.atEngine (s : State) (q kind : Nat) : Option Nat :=
  let x := s.queue q
  if x.cls = 0 && x.kind = kind then
    match x.jobs.find? (fun j => !j.phase.past) with
    | some j => if j.phase = .handed then some j.d else none
    | none => none
  else none

/-- The engine answers the descriptor it holds. -/
def State.done (s : State) (q status : Nat) : State := s.finish q .handed status 0 0

/-! ### FLUSH and aborts (R170, R143) -/

/-- The next slot as a job that only completes, with its own sequence number, or the queue's where the slot cannot be
read (R170). -/
def State.flushSlot (s : State) (q status : Nat) : State :=
  let x := s.queue q
  let (got, s) := s.mread (dieOfQueue q) x.part (x.slotAddr x.fetch.toNat) 64
  let d := match got with
    | some bs => if bs.any (·.2) then at' 24 x.nextSeq.toNat else leNat (bs.map (·.1))
    | none => at' 24 x.nextSeq.toNat
  let j : Job := { desc := BitVec.ofNat 512 d, slot := x.fetch, seq := x.nextSeq, phase := .waitRecord,
                   since := s.now, status := BitVec.ofNat 8 status }
  s.updQueue q (fun x => { x with
    nextSeq := x.nextSeq + 1, fetch := BitVec.ofNat 16 ((x.fetch.toNat + 1) % x.depth), jobs := x.jobs ++ [j] })

def State.flushSlots : Nat → State → Nat → Nat → State
  | 0, s, _, _ => s
  | n + 1, s, q, status => State.flushSlots n (s.flushSlot q status) q status

/-- Give a job that has not reached its engine (or, with `all`, any unfinished job) a status. A job without a record
keeps waiting for one. -/
def abortJob (all : Bool) (status : Nat) (j : Job) : Job :=
  match j.phase with
  | .finished => j
  | .waitRecord => if j.status = 0 then { j with status := BitVec.ofNat 8 status } else j
  | .waitSem | .held => { j with phase := .finished, status := BitVec.ofNat 8 status }
  | _ => if all then { j with phase := .finished, status := BitVec.ofNat 8 status, flags := 0, detail := 0 } else j

/-- Reserve records for the jobs that wait with a status, in order. -/
def State.reserveFor (s : State) (q : Nat) : List Job → List Job × State
  | [] => ([], s)
  | j :: js =>
    let cq := (s.queue q).link0.toNat
    let c := s.queue cq
    if j.phase = .waitRecord && j.status ≠ 0 && c.state ≠ .disabled && c.hasRoom then
      let (rest, s) := (s.reserveRecord cq).reserveFor q js
      ({ j with phase := .finished, pos := c.reserved } :: rest, s)
    else
      let (rest, s) := s.reserveFor q js
      (j :: rest, s)

/-- Complete every pending descriptor of a queue with a status, in order (R170 FLUSH; R143 with `all`). -/
def State.flushQueue (s : State) (q status : Nat) (all : Bool) : State :=
  let s := s.setSemWait (s.semWait.filter (fun w => w.2 ≠ q))
  let s := s.updQueue q (fun x => { x with jobs := x.jobs.map (abortJob all status) })
  let s := State.flushSlots (s.queue q).unread s q status
  let (js, s) := s.reserveFor q (s.queue q).jobs
  let s := s.updQueue q (fun x => { x with jobs := js })
  State.completeAll js.length s q

/-- DESCRIPTOR_COMPLETE: the oldest job's record, once finished; a flushed job that had no record takes one first. -/
def State.completeJob (s : State) (q : Nat) : State :=
  match (s.queue q).jobs with
  | j :: _ =>
    if j.phase = .waitRecord && j.status ≠ 0 then
      let (js, s) := s.reserveFor q (s.queue q).jobs
      (s.updQueue q (fun x => { x with jobs := js })).completeFront q
    else s.completeFront q
  | [] => s

/-- What the descriptor's reads met is counted as it completes (log 137). -/
def State.completeNext (s : State) (q : Nat) : State := (s.completeJob q).account

/-! ### Control (R170, R171) -/

/-- The partition's queue range holds the queue (R525, R526). -/
def Part.hasQueue (x : Part) (q : Nat) : Bool :=
  let r := if q < 65536 then x.q0 else x.q1
  decide (r.1 ≤ q % 65536) && decide (q % 65536 < r.1 + r.2) && decide (x.state ≠ .free)

/-- Engine kind and instance exist, on the queue's die (R150). -/
def engineOk (kind inst die : Nat) : Bool :=
  match kind with
  | 1 => decide (inst < 18) && decide (dieOfCore inst = die)
  | 2 => decide (inst < 144) && decide (dieOfCore (inst / 8) = die)
  | 3 => decide (inst < 4) && decide (dieOfEngine inst = die)
  | 4 => decide (inst < 2) && decide (dieOfEngine (4 + inst) = die)
  | 5 | 6 | 7 | 8 => decide (inst < 2) && decide (inst = die)
  | 9 => decide (inst < 6) && decide (dieOfPort inst = die)
  | 10 => decide (inst < 64)
  | 11 => decide (inst = 0)
  | _ => false

/-- A binding stays in the partition (R148): its cores, video engines and queue mailboxes. -/
def State.bindingOk (s : State) (x : Queue) (die : Nat) : Bool :=
  match x.kind with
  | 1 => (s.part x.part).cores.getLsbD x.inst
  | 2 => (s.part x.part).cores.getLsbD (x.inst / 8)
  | 3 => decide ((s.part x.part).state = .active) && decide ((s.engine x.inst).part = some x.partition)
  | 4 => decide ((s.part x.part).state = .active) && decide ((s.engine (4 + x.inst)).part = some x.partition)
  | 10 => decide ((s.mbx die x.inst).kind = .queue) && decide ((s.mbx die x.inst).part = x.partition)
  | _ => true

/-! ### Video engines (R319) -/

/-- Engine e of a queue: decoders 0–3, encoders 4–5. -/
def Queue.videoOf (x : Queue) : Option Nat :=
  if x.cls ≠ 0 then none
  else if x.kind = 3 && x.inst < 4 then some x.inst
  else if x.kind = 4 && x.inst < 2 then some (4 + x.inst) else none

/-- Open contexts of an engine. -/
def VEngine.openCount (x : VEngine) : Nat := (x.ctx.only (fun _ c => decide (c.state = .opened))).length

/-- A linked queue has this class, the same partition, and where asked a DMA channel (R149, R170). -/
def State.linkOk (s : State) (x : Queue) (l cls : Nat) (dma : Bool) : Bool :=
  let y := s.queue l
  decide (y.cls.toNat = cls) && decide (y.partition = x.partition) && (!dma || y.kind = 2)
    && (s.part x.part).hasQueue l

/-- The event source of a record queue is an assignable source of its partition (R454), and an event queue's is none that
writes to a queue (R457). -/
def State.eventOk (s : State) (x : Queue) (die : Nat) : Bool :=
  !x.eventEn || (decide (256 ≤ x.eventSrc.toNat) && decide ((s.source die x.eventSrc.toNat).owner = some x.partition)
    && !(x.cls = 3 && scToQueue (s.source die x.eventSrc.toNat).control.toNat))

/-- Other enabled command-port queues of a core (R150). -/
def State.portQueues (s : State) (q : Nat) (eng : BitVec 12) : Nat :=
  (s.queueIds (fun k y => decide (k ≠ q) && decide (y.state ≠ .disabled) && decide (y.cls = 0) && decide (y.engine = eng))).length

/-- ENABLE's check of the context (R170, R171): true where it is legal. -/
def State.contextOk (s : State) (q : Nat) : Bool :=
  let x := s.queue q
  let die := dieOfQueue q
  let n := x.depthLog2.toNat
  decide (2 ≤ n) && decide (n ≤ 16) && decide (x.timeout.toNat < 8) && (s.part x.part).hasQueue q
    && decide (x.ringBase.toNat % 4096 = 0) && decide (x.creditWb.toNat % 8 = 0)
    && ((s.extent die x.part x.ringBase.toNat (64 * x.depth) true).1).isSome
    && (match x.cls.toNat with
      | 0 => engineOk x.kind x.inst die && s.bindingOk x die && s.linkOk x x.link0.toNat 2 false && decide (x.link1 = 0)
          && (match x.coreOf with
            | some c => decide ((s.core c).role ≠ .spare) && decide ((s.core c).role ≠ .retired)
            | none => true)
          && (x.kind ≠ 1 || decide (s.portQueues q x.engine < 4))
          && ((x.kind ≠ 3 && x.kind ≠ 4) || decide (s.portQueues q x.engine < 16))
      | 1 => decide (x.engine = 0) && s.linkOk x x.link0.toNat 0 true && s.linkOk x x.link1.toNat 0 true
      | _ => decide (x.engine = 0) && decide (x.link0 = 0) && decide (x.link1 = 0) && s.eventOk x die)

/-- A core whose role forbids RESUME and RESTART (R171). -/
def State.coreBlocks (s : State) (x : Queue) : Bool :=
  match x.coreOf with
  | some n => (s.core n).role = .spare || (s.core n).role = .retired || (s.core n).role = .resetting
  | none => false

/-- The management code answered to a control command. -/
def State.answerCode (s : State) (c : Nat) : State := s.emit (.code c)

/-- ENABLE (R170). -/
def State.enableQueue (s : State) (q : Nat) : Nat × State :=
  let x := s.queue q
  if x.state ≠ .disabled then (0x1D, s)
  else if s.contextOk q then
    (0, (s.putQueue q { x with
      head := 0, tail := 0, fetch := 0, credits := BitVec.ofNat 17 x.depth, doneSeq := x.nextSeq - 1,
      faultCode := 0, jobs := [], reserved := 0, overflow := false, closing := false, lead := 0, watched := false
      state := .active }).creditWriteBack q)
  else (0x1C, s)

/-- PAUSE (R170). -/
def State.pauseQueue (s : State) (q : Nat) : Nat × State :=
  if (s.queue q).state = .active then (0, s.updQueue q (fun x => { x with state := .paused })) else (0x1D, s)

/-- Hand over a descriptor that was held while the queue did not dispatch. -/
def State.handHeld (s : State) (q : Nat) : State :=
  match (s.queue q).jobs.getLast? with
  | some j => if j.phase = .held then s.handOver q else s
  | none => s

/-- RESUME (R170, R171). -/
def State.resumeQueue (s : State) (q : Nat) : Nat × State :=
  let x := s.queue q
  if x.state = .paused && !s.coreBlocks x && !x.closing then
    (0, (s.putQueue q { x with state := .active }).handHeld q)
  else (0x1D, s)

/-- RESTART (R170, R171): through the management window its argument replaces next_seq. -/
def State.restartQueue (s : State) (q : Nat) (arg : Option (BitVec 32)) : Nat × State :=
  let x := s.queue q
  if x.state = .fault && !s.coreBlocks x && !x.closing then
    (0, (s.putQueue q { x with state := .active, faultCode := 0, nextSeq := arg.getD x.nextSeq }).handHeld q)
  else (0x1D, s)

/-- The flush of a data, completion or event queue (R170): the records reserved in a partly filled slot go with it. -/
def Queue.emptied (x : Queue) : Queue :=
  { x with head := x.tail, credits := BitVec.ofNat 17 x.depth, reserved := 4 * ceilDiv x.reserved 4 }

/-- FLUSH (R170). -/
def State.flush (s : State) (q : Nat) : Nat × State :=
  let x := s.queue q
  if x.state = .paused || x.state = .fault then
    (0, if x.cls = 0 then s.flushQueue q 0x10 false else (s.putQueue q x.emptied).creditWriteBack q)
  else (0x1D, s)

/-- DISABLE (R170): with descriptors still at their engine or without a record, it ends with the last of them, and is
closing until then (log 158). -/
def State.disableQueue (s : State) (q : Nat) : Nat × State :=
  match s.flush q with
  | (0, s) => (0, s.updQueue q (fun x => if x.jobs.isEmpty then { x with state := .disabled } else { x with closing := true }))
  | (c, s) => (c, s)

/-- A control command's management code, when it is not accepted. -/
def State.control (r : Nat × State) : State := if r.1 = 0 then r.2 else r.2.answerCode r.1

end Sys2Proof.Machine
end

