-- ==== Sys2Proof/Machine/Mailbox.lean ====
section
/-!
DEFINITION. Mailbox messages (11 R362–R368): their fields, the kernel's checks, replies; components (R353, R372);
the order for a WARM reset (19 R573, R587).
-/
namespace Sys2Proof.Machine

open Sys2Proof

/-! ### Fields (R363) -/

def mgBody (w : Nat) : Nat := fld w 240 272
def mgBodyAddr (w : Nat) : Nat := fld w 240 48
def mgReplyAddr (w : Nat) : Nat := fld w 192 48
def mgMajor (w : Nat) : Nat := fld w 184 8
def mgMinor (w : Nat) : Nat := fld w 176 8
def mgType (w : Nat) : Nat := fld w 160 16
def mgLength (w : Nat) : Nat := fld w 144 16
def mgSeq (w : Nat) : Nat := fld w 128 16
def mgTag (w : Nat) : Nat := fld w 112 16
def mgStatus (w : Nat) : Nat := fld w 104 8
def mgExternal (w : Nat) : Bool := bitOf w 97
def mgReply (w : Nat) : Bool := bitOf w 96

/-- Who may send a type (R367). -/
inductive Origins where
  | driver0 | driver | partition | any
  deriving DecidableEq, Repr

/-- An inbound type: origins, body and reply bytes, reply limit in counts, and the component that answers it. -/
structure MsgType where
  origins : Origins
  body : Nat
  reply : Nat
  limit : Nat
  comp : Nat
  deriving DecidableEq, Repr

/-- The inbound types of R367; the component of each follows the duties of R353. -/
def msgType (t : Nat) : Option MsgType :=
  match t with
  | 0x0001 => some ⟨.driver0, 34, 16, 10 * ms, 0⟩
  | 0x0002 => some ⟨.driver, 48, 0, 100 * ms, 1⟩
  | 0x0003 => some ⟨.driver, 1, 0, 500 * ms, 0⟩
  | 0x0004 => some ⟨.driver, 1, 0, 50 * ms, 0⟩
  | 0x0005 => some ⟨.driver, 1, 32, ms, 0⟩
  | 0x0006 => some ⟨.driver, 0, 0, ms, 1⟩
  | 0x0007 => some ⟨.driver0, 4, 0, ms, 0⟩
  | 0x0010 => some ⟨.driver, 256, 8, second, 10⟩
  | 0x0011 => some ⟨.driver, 1, 0, 10 * second, 10⟩
  | 0x0012 => some ⟨.driver, 1, 0, 10 * second, 10⟩
  | 0x0020 => some ⟨.driver, 2, 1, ms, 3⟩
  | 0x0021 => some ⟨.driver, 1, 0, ms, 4⟩
  | 0x0030 => some ⟨.driver, 1, 0, 10 * second, 8⟩
  | 0x0031 => some ⟨.driver, 0, 0, 500 * ms, 9⟩
  | 0x0040 => some ⟨.partition, 34, 4096, 100 * ms, 10⟩
  | 0x0041 => some ⟨.partition, 2048, 64, 100 * ms, 10⟩
  | 0x0060 => some ⟨.any, 0, 0, ms, 0⟩
  | _ => none

/-- A message in hand: where it came from and its 64 bytes. -/
structure MbxIn where
  die : Nat
  mbx : Nat
  word : Nat
  /-- The command queue that carried it. -/
  queue : Option Nat
  since : Nat
  /-- The sequence value of its descriptor. -/
  seq : BitVec 32 := 0
  deriving DecidableEq, Repr

/-- The firmware kernel and the driver run. -/
def State.firmwareUp (s : State) : Bool :=
  match s.mode with
  | .awaitRuntime | .refused | .ready | .serving | .draining | .outOfService => true
  | _ => false

/-- The kind of a mailbox; mailbox 0 is the driver's (R362). -/
def State.mbxKind (s : State) (die m : Nat) : MbxKind := if m = 0 then .host else (s.mbx die m).kind

def MbxReq.back (r : MbxReq) (die m : Nat) : MbxIn := ⟨die, m, r.msg.toNat, r.from_.map BitVec.toNat, r.since, r.seq⟩

/-- The component that answers a message runs. -/
def State.compServes (s : State) (die word : Nat) : Bool :=
  decide ((s.comp die (((msgType (mgType word)).map (·.comp)).getD 0)).state = .running)

/-- The oldest message of queue q that waited for its component and can be served (R359). -/
def State.keptOf (s : State) (die m q : Nat) : Option MbxReq :=
  (s.mbx die m).inb.find? (fun r => r.waiting && decide (r.from_.map BitVec.toNat = some q) && s.compServes die r.msg.toNat)

/-- The message a source carries, where there is one (R362); the hardware writes its origin (R363). A queue mailbox
serves what has waited for its component first. -/
def State.incoming (s : State) : MbxSrc → Option MbxIn
  | .host die m msg =>
    if s.firmwareUp && decide (s.mbxKind die.toNat m.toNat = .host) then
      some ⟨die.toNat, m.toNat, setFld msg.toNat 92 4 8, none, s.now, 0⟩
    else none
  | .queue q =>
    let x := s.queue q.toNat
    let die := dieOfQueue q.toNat
    if s.firmwareUp && x.kind = 10 then
      match s.keptOf die x.inst q.toNat with
      | some r => some (r.back die x.inst)
      | none => (x.jobIn .handed).map (fun j => ⟨die, x.inst, setFld j.d 92 4 x.part, some q.toNat, s.now, j.seq⟩)
    else none

/-! ### Module region (R186, R349) -/

/-- Bytes of a die's module region: 4 GiB. -/
def regionBytes : Nat := 4294967296

/-- `n` bytes from physical address `a` of the application cores' map: the east region, and after it the west. -/
def State.regionRead (s : State) (a n : Nat) : List (Byte × Bool) :=
  let k := Nat.min n (regionBytes - a % regionBytes)
  (s.moduleMem (a / regionBytes)).load (a % regionBytes) k ++ (s.moduleMem (a / regionBytes + 1)).load 0 (n - k)

/-- Store bytes in one die's region. -/
def State.regionStore (s : State) (die off : Nat) (bs : List (Byte × Bool)) : State :=
  if bs.isEmpty then s else s.setModMem (s.modMem.put die ((s.moduleMem die).store off bs))

/-- Standing upsets of the module region whose line's address meets `p`, with what each is. -/
def State.regionUpsets (s : State) (p : Nat → Bool) : List (Nat × Nat) :=
  s.upsets.only (fun k _ => decide (regionLine ≤ k % 2 ^ 27) &&
    (match s.regionAddr (k / 2 ^ 27) (k % 2 ^ 27) with
     | some a => p ((regionBytes * dieOfSub (k / 2 ^ 27) + a) / 64)
     | none => false))

/-- A read of the module region meets the upsets that stand in its lines (R191). -/
def State.settleRegion (s : State) (p : Nat → Bool) : State :=
  if s.upsets.isEmpty then s
  else (s.regionUpsets p).foldl (fun s x => s.settleLine (x.1 / 2 ^ 27) (x.1 % 2 ^ 27) x.2) s

/-- A write: lines written in part are read and merged, whole ones are written anew (R192). -/
def State.regionWrite (s : State) (a : Nat) (bs : List (Byte × Bool)) : State :=
  let n := bs.length
  let s := s.settleRegion (fun l => inLines a n l && !wholeLine a n l)
  let gone := if s.upsets.isEmpty then [] else (s.regionUpsets (wholeLine a n)).map (·.1)
  let s := if gone.isEmpty then s else s.setUpsets (s.upsets.only (fun k _ => !gone.contains k))
  let k := Nat.min n (regionBytes - a % regionBytes)
  (s.regionStore (a / regionBytes) (a % regionBytes) (bs.take k)).regionStore (a / regionBytes + 1) 0 (bs.drop k)

/-! ### Replies (R365, R368) -/

/-- A message of a reply (R363): `ext` says that the body stands at the request's buffer. -/
def replyMessage (version seq : Nat) (req status : Nat) (ext : Bool) (body : List Byte) : BitVec 512 :=
  fwMessage version (mgType req) body.length seq (mgTag req) status 1
      (if ext then mgBodyAddr req else leNat body)
    ||| (if ext then BitVec.ofNat 512 (2 ^ 97) else 0)

/-- Put a reply in an outbound slot; with all 32 filled it waits for one (R362). -/
def Mbx.send (b : Mbx) (m : BitVec 512) : Mbx :=
  if b.outb.length < 32 then { b with outb := b.outb ++ [m] } else { b with late := b.late ++ [m] }

/-- The driver takes `n` messages; replies that waited take the slots. -/
def Mbx.taken (b : Mbx) (n : Nat) : Mbx :=
  let left := b.outb.drop n
  { b with outb := left ++ b.late.take (32 - left.length), late := b.late.drop (32 - left.length) }

/-- Answer a request once. A reply body longer than 34 bytes is written over the request's buffer (R364). -/
def State.answer (s : State) (x : MbxIn) (status : Nat) (body : List Byte) : State :=
  let s := if (0x80 ≤ status && status ≤ 0x86) || status = 0x8B then s.odInc 0x2150 9 1 else s
  let s := if status = 0x88 then s.odInc 0x2150 0x0A 1 else s
  let b := s.mbx x.die x.mbx
  let ext := decide (34 < body.length)
  let m := replyMessage s.kernelVersion b.outSeq.toNat x.word status ext body
  let s := s.putMbx x.die x.mbx { b with outSeq := b.outSeq + 1 }
  match x.queue with
  | none =>
    let s := if ext then s.regionWrite (mgBodyAddr x.word) (clean body) else s
    s.putMbx x.die x.mbx ((s.mbx x.die x.mbx).send m)
  | some q =>
    let p := (s.queue q).part
    let s := if ext then (s.pwrite x.die p (mgBodyAddr x.word) (clean body)).2 else s
    let s := if mgReplyAddr x.word ≠ 0 then (s.pwrite x.die p (mgReplyAddr x.word) (clean (leBytes 64 m.toNat))).2 else s
    s.finishSeq q x.seq status

/-- Keep a request until it is answered. -/
def State.keepRequest (s : State) (x : MbxIn) (waiting : Bool) : State :=
  let b := s.mbx x.die x.mbx
  let s := s.putMbx x.die x.mbx { b with
    inb := b.inb ++ [{ msg := BitVec.ofNat 512 x.word, since := x.since, from_ := x.queue.map (BitVec.ofNat 17), seq := x.seq, waiting := waiting }] }
  match x.queue with
  | some q => s.updQueue q (fun y => { y with jobs := y.jobs.map (fun j =>
      if j.phase = .handed && j.seq = x.seq then { j with phase := .waitReply } else j) })
  | none => s

/-- Answer a kept request, where it is still held: a late reply is discarded (R366, 0x88). -/
def State.answerKept (s : State) (die m : Nat) (r : MbxReq) (status : Nat) (body : List Byte) : State :=
  let b := s.mbx die m
  if b.inb.contains r then
    (s.putMbx die m { b with inb := b.inb.erase r }).answer (r.back die m) status body
  else s

/-- Answer every kept request of a type on both dies. -/
def State.answerType (s : State) (t status : Nat) (body : List Byte) : State :=
  s.fw.mbx.foldl (fun s kb =>
    (kb.2.inb.filter (fun r => decide (mgType r.msg.toNat = t) && !r.waiting)).foldl
      (fun s r => s.answerKept (kb.1 / 64) (kb.1 % 64) r status body) s) s

/-! ### The checks of R366 -/

/-- Reserved fields, a request's status, the host header and the fields that R363 gives as zero. -/
def mgReservedBad (w : Nat) (host : Bool) : Bool :=
  fld w 98 6 ≠ 0 || fld w 64 28 ≠ 0 || mgStatus w ≠ 0 || mgReply w
    || (if host then fld w 0 64 ≠ 0x80 * 2 ^ 56 || mgReplyAddr w ≠ 0 else dOpcode w ≠ 0x80)
    || (mgExternal w && fld w 288 224 ≠ 0)

def originOk (o : Origins) (mbx : Nat) (host : Bool) : Bool :=
  match o with
  | .driver0 => host && mbx = 0
  | .driver => host
  | .partition => !host
  | .any => true

/-- The buffer of an external body: the larger of the request's and the reply's (R364). -/
def MsgType.buffer (t : MsgType) (w : Nat) : Nat := Nat.max (mgLength w) t.reply

/-- The body's and the reply's addresses can be reached (R366, 0x86). -/
def State.spaceOk (s : State) (x : MbxIn) (t : MsgType) : Bool :=
  match x.queue with
  | none => !mgExternal x.word
      || (decide (mgBodyAddr x.word % 64 = 0) && decide (mgBodyAddr x.word + t.buffer x.word ≤ 8589934592))
  | some q =>
    let p := (s.queue q).part
    (!mgExternal x.word || (decide (mgBodyAddr x.word % 64 = 0)
        && ((s.extent x.die p (mgBodyAddr x.word) (t.buffer x.word) (decide (34 < t.reply))).1).isSome
        && ((s.extent x.die p (mgBodyAddr x.word) (mgLength x.word) false).1).isSome))
      && (mgReplyAddr x.word = 0 || (decide (mgReplyAddr x.word % 64 = 0)
        && ((s.extent x.die p (mgReplyAddr x.word) 64 true).1).isSome))

/-- The body's bytes with their marks (R364). -/
def State.bodyBytes (s : State) (x : MbxIn) : List (Byte × Bool) :=
  if mgExternal x.word then
    match x.queue with
    | none => s.regionRead (mgBodyAddr x.word) (mgLength x.word)
    | some q => match (s.rawRead x.die (s.queue q).part (mgBodyAddr x.word) (mgLength x.word)).1 with
      | some (bs, _) => bs
      | none => []
  else clean (leBytes (mgLength x.word) (mgBody x.word))

/-- The body that the receiver reads: bytes beyond those that its type defines are ignored (R367). -/
def State.body (s : State) (x : MbxIn) : List Byte :=
  let bs := (s.bodyBytes x).map (·.1)
  match msgType (mgType x.word) with
  | some t => if mgType x.word = 0x60 then bs else bs.take t.body
  | none => bs

/-- The read of an external body meets the upsets that stand in its lines (R191). -/
def State.meetBody (s : State) (x : MbxIn) : State :=
  if s.upsets.isEmpty || !mgExternal x.word then s
  else match x.queue with
    | none => s.settleRegion (inLines (mgBodyAddr x.word) (mgLength x.word))
    | some q => (s.rawRead x.die (s.queue q).part (mgBodyAddr x.word) (mgLength x.word)).2

/-- The present state allows the type (R366 0x89, R367). -/
def State.typeAllowed (s : State) (t : Nat) : Bool :=
  if s.mode = .awaitRuntime || s.mode = .refused then t ≤ 7 || t = 0x60 else true

/-- The length of R367: ECHO takes up to 34 bytes, a message of a higher minor version may carry more than its type
defines. -/
def State.msgLengthOk (s : State) (t : MsgType) (w : Nat) : Bool :=
  if mgType w = 0x60 then decide (mgLength w ≤ 34)
  else if s.kernelVersion % 256 < mgMinor w then decide (t.body ≤ mgLength w)
  else decide (mgLength w = t.body)

/-- The first failing check (R366), or 0. -/
def State.checkMessage (s : State) (x : MbxIn) : Nat :=
  let w := x.word
  let host := x.queue.isNone
  if mgReservedBad w host then 0x84
  else if mgMajor w ≠ s.kernelVersion / 256 then 0x80
  else if mgSeq w ≠ (s.mbx x.die x.mbx).inSeq.toNat then 0x83
  else match msgType (mgType w) with
    | none => 0x81
    | some t =>
      if !originOk t.origins x.mbx host then 0x85
      else if !s.msgLengthOk t w || (mgExternal w ≠ decide (34 < mgLength w || 34 < t.reply)) then 0x82
      else if !s.spaceOk x t then 0x86
      else if (s.bodyBytes x).any (·.2) then 0x8B
      else if !s.typeAllowed (mgType w) then 0x89
      else 0

/-- HELLO's reply body (R370): the kernel's version, the lowest driver minor it accepts, the component slots. -/
def State.helloBody (s : State) : List Byte :=
  [BitVec.ofNat 8 (s.kernelVersion / 256), BitVec.ofNat 8 (s.kernelVersion % 256)] ++ leBytes 2 2 ++ leBytes 1 16
    ++ leBytes 11 0

/-- Take a message of type `t` (R366): the message to serve, when it passes and its component runs; otherwise the
state after its answer, or with the message waiting for its component (R359). A message of another type that passes is
another command's, and stays where it is. -/
def State.receive (s : State) (src : MbxSrc) (t : Nat) : Option MbxIn × State :=
  match s.incoming src with
  | none => (none, s)
  | some x =>
    let s := s.active
    let b := s.mbx x.die x.mbx
    match b.inb.find? (fun r => r.waiting && r.msg.toNat = x.word) with
    | some r =>
      if mgType x.word = t && s.compServes x.die x.word then
        (some (r.back x.die x.mbx), s.putMbx x.die x.mbx { b with inb := b.inb.erase r })
      else (none, s)
    | none =>
      if b.inb.length ≥ 32 then (none, s)
      else
        let s := s.meetBody x
        let c := s.checkMessage x
        let seqOk := decide (mgSeq x.word = b.inSeq.toNat)
        let good := !mgReservedBad x.word x.queue.isNone && mgMajor x.word = s.kernelVersion / 256 && seqOk
        if c = 0 && mgType x.word ≠ t then (none, s)
        else
          let s := if good then s.putMbx x.die x.mbx { b with inSeq := b.inSeq + 1 } else s
          if c ≠ 0 then
            (none, s.answer x c (if c = 0x83 then leBytes 2 b.inSeq.toNat
              else if c = 0x80 && mgType x.word = 1 then s.helloBody else []))
          else if s.compServes x.die x.word then (some x, s)
          else (none, s.keepRequest x true)

/-! ### Components (R353, R372) -/

def CompState.code : CompState → Nat
  | .absent => 0 | .loaded => 1 | .running => 2 | .restarting => 3 | .failed => 4

/-- A change of a component's state sends NOTIFY_COMPONENT and raises its event (R372, R453). -/
def State.setComp (s : State) (die c : Nat) (st : CompState) (cause : Nat) : State :=
  let s := s.putComp die c { s.comp die c with state := st }
  let (_, s) := s.mbxSend die 0 0x0082 8 0 0 0 (c + at' 8 die + at' 16 st.code + at' 24 cause)
  s.raise die 188 (c + 16 * st.code)

def essential (c : Nat) : Bool := c ≠ 6

/-! ### Orders for a WARM reset (R573, R587, R588) -/

/-- Mark the newest record of the history as merged (R588). -/
def mergeNewest : List HistRec → List HistRec
  | [] => []
  | h :: hs => if hs.isEmpty then [{ h with merged := true }] else h :: mergeNewest hs

/-- A trigger of a WARM reset with its cause (R592): it merges into a WARM that is due or running (R587). REFUSED ends
through none (R371). -/
def State.orderWarm (s : State) (cause : Nat) : State :=
  match s.mode with
  | .off | .standby | .parked | .recovery | .refused => s
  | _ =>
    if s.rst.due.isSome then s.setRst { s.rst with merged := true }
    else match s.rst.running with
      | some (.warm, _) => s.setRst { s.rst with history := mergeNewest s.rst.history }
      | _ => s.setRst { s.rst with due := some cause }

/-- A fatal event (R573): source 0 and a WARM reset with cause 0x08. -/
def State.fatal (s : State) (detail : Nat) : State := (s.raiseEast 0 detail).orderWarm 8

end Sys2Proof.Machine
end

