-- ==== Sys2Proof/Machine/Cores.lean ====
section
/-!
DEFINITION. Tensor cores outside their descriptors (04 R112–R120, R138–R143; 16 R491, R496–R500; 18 R553–R555): the
array clock, scratchpad errors, detections, the self-test, the CORE reset, swaps and requalification.
-/
namespace Sys2Proof.Machine

open Sys2Proof

/-! ### Frequencies (R112, R553, R555) -/

/-- The throttling step in force: the highest trigger level, and 1 for a ramp hold (R553, R555). -/
def State.stepInForce (s : State) : Nat :=
  let t := s.pow.trig.foldl (fun a x => Nat.max a x.2.level) 0
  Nat.max t (if s.pow.ramp.isSome then 1 else 0)

/-- The policy ceiling (R112). -/
def State.policyMhz (s : State) : Nat :=
  match s.odGet 0x2100 5 with
  | 0 => 900
  | 2 => 1100
  | _ => 1000

/-- The ceiling of a step (R553); 1,100 where it sets none of its own. -/
def stepCeiling (n : Nat) : Nat :=
  match n with
  | 2 => 950 | 3 => 850 | 4 => 750 | 5 => 650 | 6 => 600 | 7 => 600 | _ => 1100

/-- The lowest ceiling of R112 other than droop. -/
def State.arrCeiling (s : State) (n : Nat) : Nat :=
  let cap := match s.coreOwner n with
    | some p => (s.part p).capCeiling
    | none => 1100
  Nat.min (Nat.min s.policyMhz (wearCeiling (s.core n).ageing))
    (Nat.min (Nat.min (stepCeiling s.stepInForce) (s.pow.ramp.getD 1100)) cap)

/-- The frequency at which a core's array clock runs (R112). -/
def State.arrMhz (s : State) (n : Nat) : Nat := Nat.min (s.arrCeiling n) (s.core n).droopMhz

/-- The array clock is gated: after a droop at the floor (R114), and of a spare or retired core (R74). -/
def State.clockGated (s : State) (n : Nat) : Bool :=
  (s.core n).gated || decide ((s.core n).role = .spare) || decide ((s.core n).role = .retired)

/-! ### Spares and retirement (R73, R75, R140, R500) -/

/-- Clear a core's performance counters, with their thresholds and controls (R143, R472, R474). -/
def State.clearCoreCounters (s : State) (n : Nat) : State :=
  s.setEv { s.ev with ctr := s.ev.ctr.only (fun k _ => !(decide (16 * n ≤ k) && decide (k < 16 * n + 16))) }

/-- Command and DMA queues bound to a core that are enabled (R171). -/
def State.coreQueues (s : State) (n : Nat) : List Nat :=
  s.queueIds (fun _ x => decide (x.state ≠ .disabled) && decide (x.coreOf = some n))

/-- Put a queue in FAULT with a code and complete everything pending in it with that code (R143, R171). -/
def State.abortQueue (s : State) (q code : Nat) : State := (s.faultQueue q code).flushQueue q code true

/-- Step 2 of R143: spare banks take the logical numbers of marked ones. -/
def Core.swapBanks (c : Core) : Core :=
  c.marked.foldl (fun c b =>
    match c.spares with
    | p :: rest => { c with bankMap := c.bankMap.put b p, retiredBanks := insertNat c.retiredBanks (c.bankMap.getD b b)
                            spares := rest, marked := removeNat c.marked b
                            lineFix := c.lineFix.filter (fun x => bankOfLine x.2 ≠ b) }
    | [] => c) c

/-- The storage of a core in zeros (R143 step 3, R539 step 4, R577). -/
def Core.blank (c : Core) : Core :=
  { c with spad := {}, held := none, vregs := [], droopMhz := 1100, gated := false, inject := none
           testPending := false }

/-- Steps 2 and 3 of R143: banks, then the storage of the core in zeros. -/
def Core.wiped (c : Core) : Core := c.swapBanks.blank

/-- Steps 1 to 3 of R143, leaving the core in `role`. -/
def State.coreDown (s : State) (n : Nat) (role : CoreRole) (cause : Nat) : State :=
  let s := (s.coreQueues n).foldl (fun s q => s.abortQueue q 0x49) s
  let s := s.setQueues (s.queues.mapVals (fun _ x => if x.coreOf = some n then { x with lentTo := none } else x))
  let banks := decide ((s.core n).marked ≠ [])
  let s := s.updCore n (fun c => { c.wiped with role := role, resetCause := cause })
  let s := if s.ctrStopped then s.setEv { s.ev with coreReset := insertNat s.ev.coreReset n } else s
  let s := (((s.clearSpadUpsets n).clearStatuses).clearCoreEntries n).clearCoreCounters n
  let s := (s.odInc 0x2004 6 1).condition (dieOfCore n) (112 + 8 * (n % 9) + 1) false 0
  if banks then s.commit [2] else s

/-- A CORE reset order may be taken: no reset of the whole module is due or running (R587), no PART of its partition
runs, the dies are on, and the core is neither spare nor retired (log 153). -/
def State.coreResetOk (s : State) (n : Nat) : Bool :=
  !s.asleep && s.rst.due.isNone && s.rst.running.isNone
    && ((s.core n).role = .inService || (s.core n).role = .selfTest)
    && (match s.coreOwner n with
      | some p => (s.part p).state = .active
      | none => true)

/-- Begin a CORE reset (R143 steps 1 to 5): the core resets until CORE_RESET_DONE. -/
def State.startCoreReset (s : State) (n cause : Nat) : State :=
  if s.coreResetOk n then (s.coreDown n .resetting cause).odSet (0x2110 + n) 0x10 1 else s

/-- A core leaves service by a CORE reset and is retired (R140, R141). -/
def State.retireCore (s : State) (n cause : Nat) : State :=
  ((s.coreDown n .retired cause).checkComplement).commit [2]

/-! ### Records of a core -/

/-- A failure-signature record of core n. -/
def State.coreRecord (s : State) (n cause flags : Nat) (detail : List (Nat × DVal)) : State :=
  s.failRecord (dieOfCore n) cause 1 n (s.coreOwner n) flags detail

/-- Detections of a core in the last 24 h (R141). -/
def State.detections24 (s : State) (n : Nat) : Nat :=
  ((s.core n).detect.filter (fun t => decide (s.now < t + day24))).length

/-! ### Supply droop (R113, R114) -/

def State.droopTrip (s : State) (n : Nat) : State :=
  let c := s.core n
  if s.asleep || c.gated || (c.role ≠ .inService && c.role ≠ .selfTest) then s
  else
    let f := s.arrMhz n
    let s := s.odInc (0x2110 + n) 6 1
    if 600 < f then s.putCore n { c with droopMhz := Nat.max 600 (f - 25), lastTrip := s.now, lastRise := s.now }
    else
      let s := s.putCore n { c with gated := true, droopMhz := 600, lastTrip := s.now }
      (s.charge 1 n).condition (dieOfCore n) (112 + 8 * (n % 9) + 1) true 0

/-- 10 µs without a trip: one step up, or the gated clock runs again (log 150). -/
def State.droopRecovery (s : State) (n : Nat) : State :=
  let c := s.core n
  if c.lastTrip + 10 * us ≤ s.now && c.lastRise + 10 * us ≤ s.now && (c.gated || c.droopMhz < 1100) then
    if c.gated then
      (s.putCore n { c with gated := false, lastRise := s.now }).condition (dieOfCore n) (112 + 8 * (n % 9) + 1) false 0
    else
      let f := c.droopMhz + 25
      s.putCore n { c with droopMhz := if s.arrCeiling n ≤ f then 1100 else f, lastRise := s.now }
  else s

/-- 1 ms gated (R114): a CORE reset and a record. -/
def State.droopGateTimeout (s : State) (n : Nat) : State :=
  let c := s.core n
  if c.gated && decide (c.lastTrip + ms ≤ s.now) then
    (s.coreRecord n 4 0 [(6, .num 600)]).startCoreReset n 0x0D
  else s

/-! ### The scratchpad patrol (R119) -/

/-- The patrol's read of a line, after the upsets that have struck; what it met is counted at once. -/
def State.spadPatrol (s : State) (n line : Nat) (xs : List SpadUpset) : State :=
  let s := s.strikeSpad xs
  if s.asleep || !(s.core n).role.takes then s else (s.settleSpad n (64 * line) 64).account

/-! ### Self-test (R139, R140) -/

/-- Some descriptor is at the core's engines. -/
def State.coreBusy (s : State) (n : Nat) : Bool :=
  (s.coreQueues n).any (fun q => (s.queue q).jobs.any (fun j =>
    match j.phase with
    | .handed | .waitCredit | .waitData | .waitKv => true
    | _ => false))

/-- Order a self-test: at once, or after the descriptors in flight. -/
def State.orderTest (s : State) (n : Nat) : State :=
  if (s.core n).role = .inService && !s.asleep then
    if s.coreBusy n then s.updCore n (fun c => { c with testPending := true })
    else s.updCore n (fun c => { c with role := .selfTest, testPending := false })
  else s

/-- A self-test that waits starts once the core is free. -/
def State.testIfFree (s : State) (n : Nat) : State := if (s.core n).testPending then s.orderTest n else s

/-- The record of a failed self-test (R503): bit i for row i of the table of R99, the frequency, the temperature. -/
def State.testRecord (s : State) (n failed mhz : Nat) (temp : Int) : State :=
  s.coreRecord n 2 4 [(0, .num (failed % 128)), (6, .num mhz), (7, .int temp)]

/-- The end of a self-test: pass, or the core leaves service. `failed` is the bit map of R503's detail key 0. -/
def State.selfTestDone (s : State) (n failed : Nat) (temp : Int) : State :=
  let c := s.core n
  if c.role = .selfTest then
    if failed % 128 = 0 then (s.putCore n { c with role := .inService }).odSet (0x2110 + n) 0x11 2
    else
      let s := s.raiseCore n 3 0
      let mhz := s.arrMhz n
      ((s.retireCore n 0x0D).testRecord n failed mhz temp).odSet (0x2110 + n) 0x11 3
  else s

/-- What a residue mismatch does to its core (R139 steps 3 to 5, R141); an injected one ends the injection (R142). -/
def State.residueDetected (s : State) (n : Nat) (injected : Bool) (column residue opcode seq tileRow tileCol kchunk : Nat) (temp : Int) : State :=
  let s := s.coreRecord n 1 (b2n injected)
    [(0, .num column), (1, .num residue), (2, .num opcode), (3, .num seq), (4, .pair tileRow tileCol), (5, .num kchunk),
     (6, .num (s.arrMhz n)), (7, .int temp)]
  let s := s.raiseCore n 0 (column + 128 * residue)
  if injected then
    ((s.updCore n (fun c => { c with inject := none })).odSet (0x2110 + n) 0x12 2).orderTest n
  else
    let s := s.updCore n (fun c => { c with detect := c.detect ++ [s.now] })
    let s := ((s.odInc (0x2110 + n) 0x0C 1).odSet (0x2110 + n) 0x0E s.now).charge 1 n
    let s := s.ownerInc (s.coreOwner n) 0x040 4 1
    if s.odGet 0x2100 7 ≤ s.detections24 n then
      (s.retireCore n 0x0D).coreRecord n 3 4 [(0, .num (s.detections24 n))]
    else s.orderTest n

/-! ### The end of a CORE reset (R143 steps 4 to 7) -/

/-- Put a record into the reset history (R589): the last 64. -/
def State.putHistory (s : State) (h : HistRec) : State :=
  let xs := s.rst.history ++ [h]
  (s.setRst { s.rst with history := xs.drop (xs.length - 64) }).commit [4]

/-- A requalified bank of a core (R499 step 2): back as a spare, or still retired. -/
def State.bankTested (s : State) (n : Nat) (passed : Bool) : State :=
  let c := s.core n
  match c.requalBank with
  | none => s
  | some b =>
    if passed then
      let k := c.bankReturns.getD b 0 + 1
      let s := s.putCore n { c with requalBank := none, spares := c.spares ++ [b], retiredBanks := removeNat c.retiredBanks b
                                    bankReturns := c.bankReturns.put b k }
      (((s.foretell.failRecord (dieOfCore n) 0x1D 2 (50 * n + b) (s.coreOwner n) 0 [(0, .num k)]).odSet 0x2750 7 1).odSet 0x2750 6 2).commit [2]
    else (((s.putCore n { c with requalBank := none }).odSet 0x2750 7 2).odSet 0x2750 6 2)

def State.coreResetDone (s : State) (n failed : Nat) (bankPassed : Bool) : State :=
  let c := s.core n
  if c.role = .resetting then
    let s := s.bankTested n bankPassed
    if failed % 128 = 0 then
      ((s.updCore n (fun c => { c with role := .inService })).odSet (0x2110 + n) 0x10 2).raiseCore n 2 0
    else
      let s := s.updCore n (fun c => { c with role := .retired })
      let s := (s.odSet (0x2110 + n) 0x10 3).raiseCore n 2 1
      let s := s.raiseCore n 3 0
      let (temp, s) := s.drawInt
      let s := s.checkComplement.testRecord n failed (s.arrMhz n) temp
      (s.putHistory { clock := s.park.clock, time := s.now, kind := .core, cause := c.resetCause, unit := n, counted := false }).commit [2]
  else s

/-! ### Injection (R142) -/

/-- Arm the injection of a core; the column is 0–127. -/
def State.injectResidue (s : State) (n column : Nat) : State :=
  if column < 128 && !s.asleep then (s.updCore n (fun c => { c with inject := some column })).odSet (0x2110 + n) 0x12 1 else s

/-! ### CORE_CONTROL (R367): byte 0 the core, byte 1 the action (log 13) -/

/-- Actions of CORE_CONTROL as byte 1 gives them. -/
def coreAction (body : List Byte) : Nat := leNat ((body.drop 1).take 1)

/-- Take an order for a core from its source: the message to answer, and whether the order stands. -/
def State.coreOrder (s : State) (n action : Nat) (src : CmdSrc) : Option (Option MbxIn) × State :=
  match src with
  | .mailbox m =>
    match s.receive m 0x20 with
    | (some x, s) =>
      let b := s.body x
      if leNat (b.take 1) = n && coreAction b = action then (some (some x), s) else (none, s.answer x 0x89 [])
    | (none, s) => (none, s)
  | _ => (some none, s)

/-- Answer an order from a mailbox: 0x00 with result 1, or 0x89. -/
def State.orderDone (s : State) (x : Option MbxIn) (ok : Bool) : State :=
  match x with
  | some x => if ok then s.answer x 0 (leBytes 1 1) else s.answer x 0x89 []
  | none => s

/-! ### Swaps and requalification (R497–R500) -/

/-- Replace core a by core b in the partition that owns a. -/
def State.giveCore (s : State) (a b : Nat) : State :=
  match s.coreOwner a with
  | some p => s.updPart p (fun x => { x with
      cores := (x.cores &&& ~~~(BitVec.ofNat 18 (2 ^ a))) ||| BitVec.ofNat 18 (2 ^ b) })
  | none => s

/-- A core may be swapped out: marked, or retired with its place among the die's eight not yet taken (R55); with no
enabled queue bound to it and no held tiles (R497 step 1). -/
def State.swapOk (s : State) (n : Nat) : Bool :=
  let c := s.core n
  ((c.role = .retired && decide (s.coresActive (dieOfCore n) < 8)) || (c.wearMarked && c.role = .inService)) && (s.coreQueues n).isEmpty && c.held.isNone
    && !(s.spareCores (dieOfCore n)).isEmpty && !s.asleep

/-- A swap that passed its check (R497 steps 2 to 4). `passed` is the spare's self-test. -/
def State.swapCore (s : State) (n : Nat) (passed : Bool) : State :=
  match s.spareCores (dieOfCore n) with
  | b :: _ =>
    let s := if (s.core n).role = .inService then
        (s.coreDown n .retired 0x0C).updCore n (fun c => { c with limitRetired := true }) else s
    if passed then
      let s := s.giveCore n b
      let s := (s.updCore b (fun c => { c.blank with role := .inService })).clearSpadUpsets b
      (s.checkComplement.coreRecord b 0x1C 8 [(0, .num n)]).commit [2]
    else
      let (failed, s) := s.drawIn 1 127
      let (temp, s) := s.drawInt
      let s := s.updCore b (fun c => { c with role := .retired })
      (s.checkComplement.testRecord b failed (s.arrMhz b) temp).commit [2]
  | [] => s

/-- CORE_SWAP: the check, the swap and the entry's status (R497, R513). -/
def State.coreSwap (s : State) (n : Nat) (passed : Bool) : Bool × State :=
  if s.swapOk n then (passed, (s.swapCore n passed).odSet 0x2750 3 (if passed then 2 else 3))
  else (false, s.odSet 0x2750 3 3)

/-- Swaps of a start or of a PART reset (R497), for the retired and marked cores `xs`. -/
def State.swapAll (s : State) (pass : List CoreId) : List Nat → State
  | [] => s
  | n :: ns =>
    let s := if s.swapOk n then
        s.swapCore n (pass.any (fun c => decide (some c.val = (s.spareCores (dieOfCore n)).head?))) else s
    State.swapAll s pass ns

/-- Requalification of the selected unit (R499, OD 0x2750.04–.07). `passed` is the outcome of step 2. -/
def State.requalify (s : State) (passed : Bool) : State :=
  let unit := s.odGet 0x2750 5
  match s.odGet 0x2750 4 with
  | 1 =>
    let c := s.core unit
    if unit < 18 && c.role = .retired && !c.limitRetired && c.returns < 2 then
      if passed then
        let s := (s.putCore unit { c.blank with role := .spare, returns := c.returns + 1, wearMarked := false }).clearSpadUpsets unit
        let s := s.checkComplement
        (((s.coreRecord unit 0x1D 0 [(0, .num (c.returns + 1))]).odSet 0x2750 7 1).odSet 0x2750 6 2).commit [2]
      else (s.odSet 0x2750 7 2).odSet 0x2750 6 2
    else (s.odSet 0x2750 7 3).odSet 0x2750 6 3
  | 3 =>
    let u := s.sub unit
    if unit < 68 && u.role = .retired && !u.limitRetired && u.returns < 2 then
      if passed then
        let s := (s.putSub unit { u with role := .spare, returns := u.returns + 1 }).checkComplement
        (((s.failRecord (dieOfSub unit) 0x1D 3 unit none 0 [(0, .num (u.returns + 1))]).odSet 0x2750 7 1).odSet 0x2750 6 2).commit [2]
      else (s.odSet 0x2750 7 2).odSet 0x2750 6 2
    else (s.odSet 0x2750 7 3).odSet 0x2750 6 3
  | 2 =>
    let n := unit / 50
    let c := s.core n
    if unit < 900 && hasNat c.retiredBanks (unit % 50) && c.bankReturns.getD (unit % 50) 0 < 2 then
      (s.putCore n { c with requalBank := some (unit % 50) }).odSet 0x2750 6 1
    else (s.odSet 0x2750 7 3).odSet 0x2750 6 3
  | _ => (s.odSet 0x2750 7 3).odSet 0x2750 6 3

/-! ### The commands -/

/-- DROOP_TRIP -/
def execDroopTrip (core : CoreId) (s : State) : Host.Outcome State Fault Refusal := .next (s.droopTrip core.val)
/-- DROOP_RECOVERY_STEP -/
def execDroopRecoveryStep (core : CoreId) (s : State) : Host.Outcome State Fault Refusal := .next (s.droopRecovery core.val)
/-- DROOP_GATE_TIMEOUT -/
def execDroopGateTimeout (core : CoreId) (s : State) : Host.Outcome State Fault Refusal := .next (s.droopGateTimeout core.val)
/-- SPAD_PATROL_READ -/
def execSpadPatrolRead (core : CoreId) (line : Fin 196608) (upsets : List SpadUpset) (s : State) :
    Host.Outcome State Fault Refusal := .next (s.spadPatrol core.val line.val upsets)
/-- SELF_TEST: the entry 0x2110 + n.11, CORE_CONTROL, or the module after a detection (R139, R140). -/
def execSelfTest (core : CoreId) (src : CmdSrc) (s : State) : Host.Outcome State Fault Refusal :=
  match s.coreOrder core.val 2 src with
  | (some x, s) =>
    let ok := decide ((s.core core.val).role = .inService) && !s.asleep
    .next (((if ok then (s.odSet (0x2110 + core.val) 0x11 1).orderTest core.val else s)).orderDone x ok)
  | (none, s) => .next s
/-- SELF_TEST_DONE -/
def execSelfTestDone (core : CoreId) (failed : Nat) (temp : Int) (s : State) : Host.Outcome State Fault Refusal :=
  .next (s.selfTestDone core.val failed temp)
/-- INJECT_RESIDUE -/
def execInjectResidue (core : CoreId) (column : BitVec 8) (s : State) : Host.Outcome State Fault Refusal :=
  .next (s.injectResidue core.val column.toNat)
/-- CORE_RESET -/
def execCoreReset (core : CoreId) (src : CmdSrc) (s : State) : Host.Outcome State Fault Refusal :=
  match s.coreOrder core.val 1 src with
  | (some x, s) =>
    let ok := s.coreResetOk core.val
    .next ((s.startCoreReset core.val (match src with | .module => 0x0D | _ => 0x0C)).orderDone x ok)
  | (none, s) => .next s
/-- CORE_RESET_DONE -/
def execCoreResetDone (core : CoreId) (failed : Nat) (bankPassed : Bool) (s : State) : Host.Outcome State Fault Refusal :=
  .next (s.coreResetDone core.val failed bankPassed)
/-- CORE_SWAP -/
def execCoreSwap (core : CoreId) (src : CmdSrc) (passed : Bool) (s : State) : Host.Outcome State Fault Refusal :=
  match s.coreOrder core.val 3 src with
  | (some x, s) =>
    let (ok, s) := s.coreSwap core.val passed
    .next (s.orderDone x ok)
  | (none, s) => .next s
/-- REQUALIFY -/
def execRequalify (passed : Bool) (s : State) : Host.Outcome State Fault Refusal := 
  .next (if s.asleep || s.mode = .off then s else s.requalify passed)

end Sys2Proof.Machine
end

