-- ==== Sys2Proof/Machine/Dram.lean ====
section
/-!
DEFINITION. DDR5 subchannels outside the descriptors (06 R183–R197, R203–R205; 19 R585): errors, repair, retirement,
migration, training, refresh, invalidation.
-/
namespace Sys2Proof.Machine

open Sys2Proof

/-! ### Migration (R204) -/

/-- Copy the extent of a page between subchannels, poison included (R204 step 3). -/
def copyExtent (src dst : Mem) (a n : Nat) : Mem :=
  let inside := fun (k : Nat) => decide (a ≤ k) && decide (k < a + n)
  let cells := src.cells.filter (fun c => inside c.1)
  let dst := { dst with cells := dst.cells.filter (fun c => !inside c.1)
                        poison := dst.poison.filter (fun l => !inside (64 * l)) }
  let dst := cells.foldl (fun d c => d.put c.1 c.2) dst
  (src.poison.filter (fun l => inside (64 * l))).foldl (fun d l => d.setLine l true) dst

/-- Copy one page: its lines are read and decoded, and written under the target's tweak. -/
def State.copyPage (s : State) (m : Migr) (key : Nat) : State :=
  let e := s.pageMaps.getD key 0
  if peValid e && peSub e = m.src then
    let s := s.settleRange m.src (65536 * peUnit e) (65536 * peUnits e)
    let s := s.updSub m.dst (fun u => { u with
      mem := copyExtent (s.sub m.src).mem u.mem (65536 * peUnit e) (65536 * peUnits e) })
    let e := setFld (setFld (setFld (setFld e 10 7 m.dst) 4 1 0) 75 7 0) 82 17 0
    (s.setPageMaps (s.pageMaps.put key e)).invalidate key
  else s

/-- The retirement ends (step 5), and the next that waits begins. -/
def State.retireEnd (s : State) (die : Nat) (m : Migr) : State :=
  let part := s.subOwner m.src
  let s := (s.setMigr (s.migr.del die)).retireRoles m
  let s := s.failRecord die 7 3 m.src part 0xC [(0, .num m.trigger), (1, .num m.copied)]
  let s := (s.odSet (0x2210 + m.src) 0x0B 2).commit [2]
  s.nextRetire die s.migrQueue

/-- One page is copied, or 2 MiB of the module region's blocks (log 139), or the retirement ends (R204 steps 3 to 5). -/
def State.pageCopied (s : State) (die : Nat) : State :=
  if s.asleep then s
  else match s.migr.find die with
  | none => s
  | some m =>
    match m.left, m.region with
    | key :: rest, _ =>
      let s := s.copyPage m key
      (s.setMigr (s.migr.put die { m with left := rest, copied := m.copied + 1 })).account
    | [], k + 1 => s.setMigr (s.migr.put die { m with region := k })
    | [], 0 => s.retireEnd die m

/-! ### The patrol (R196) -/

/-- A patrol read of a line, after the upsets that have struck: all 68 subchannels while DRAM is powered outside
self-refresh. What it met is counted at once. -/
def State.patrol (s : State) (n line : Nat) (xs : List LineUpset) : State :=
  let s := s.strike xs
  if s.asleep || s.mode = .off then s else (s.settleRange n (64 * line) 64).account

/-! ### Training (R183, R584, R585) -/

/-- A subchannel fails training: its role, the record, and a spare in its place without a copy (R183 step 4). -/
def State.trainFail (s : State) (n step : Nat) : State :=
  let die := dieOfSub n
  let was := (s.sub n).role
  let s := s.updSub n (fun u => { u with role := .failedTraining })
  let held := decide (was = .inService) || decide (was = .degraded)
  let spare := if held then (s.spareSubs die).head? else none
  let s := match spare with
    | some t => (s.updSub t (fun u => { u with role := .inService })).ringSwap n t
    | none =>
      if held then s.setRotation (s.rotation.1.filter (fun x => x ≠ n), s.rotation.2.filter (fun x => x ≠ n)) else s
  (s.checkComplement.failRecord die 8 3 n none (if spare.isSome then 12 else 4) [(0, .num step)]).commit [2]

/-- Step 2 of R183: every row under sPPR is repaired for good. -/
def State.hardRepair (s : State) : State :=
  (upto 68).foldl (fun s n =>
    let k := (s.sub n).softRows.length
    if k = 0 then s else (s.updSub n (fun u => { u with softRows := [] })).odInc (0x2210 + n) 7 k) s

/-- Fewest repairs left in any bank group of any device (R218). -/
def Sub.fewestPpr (u : Sub) : Nat :=
  (upto 24).foldl (fun a k => Nat.min a (u.pprLeft (k / 8) (k % 8))) (u.pprLeft 0 0)

/-- Training: hard repair at PWR and MOD, then what the report says failed. -/
def State.train (s : State) (r : StartReport) (hard : Bool) : State :=
  let s := if hard then s.hardRepair else s
  let s := r.failedSubs.foldl (fun s x => s.trainFail x.1.val x.2) s
  let s := r.repairsLeft.foldl (fun s x =>
    s.updSub x.1.val (fun u => { u with ppr := u.ppr.put (8 * x.2.1.val + x.2.2.1.val) x.2.2.2 })) s
  (upto 68).foldl (fun s n => s.odSet (0x2210 + n) 8 (s.sub n).fewestPpr) s

/-- A retirement in progress when a reset comes: its step 5 roles are written at once (R205); those
that wait are dropped (log 159). -/
def State.endRetirements (s : State) : State :=
  let ms := s.migr.map (·.2)
  let s := ms.foldl State.retireRoles s
  let s := (s.setMigr []).setMigrQueue []
  if ms.isEmpty then s else s.commit [2]

/-- R585: the cache takes the present temperatures. -/
def State.cacheUpdate (s : State) : State :=
  if s.asleep || s.mode = .off then s
  else (s.setDram (s.dram.mapVals (fun _ u => { u with cacheTemp := u.temp }))).commit [5]

/-! ### The commands -/

/-- TRANSLATION_INVALIDATE (R189) -/
def execTranslationInvalidate (p : PartId) (page : BitVec 18) (s : State) : Host.Outcome State Fault Refusal :=
  .next (s.invalidate (2 ^ 18 * p.toNat + page.toNat))
/-- PATROL_READ -/
def execPatrolRead (die : Die) (sub : Fin 34) (line : BitVec 27) (upsets : List LineUpset) (s : State) :
    Host.Outcome State Fault Refusal := .next (s.patrol (subNumber die sub) line.toNat upsets)
/-- The entry's order (R218): rejected for a subchannel that is not in service, else running. -/
def State.retireEntry (s : State) (n : Nat) : State :=
  if s.retireOk n then (s.odSet (0x2210 + n) 0x0B 1).retireSub n 4 else s.odSet (0x2210 + n) 0x0B 3

/-- SUBCHANNEL_RETIRE: the entry's cmd write, the message, or one of the module's triggers of R203. -/
def execSubchannelRetire (sub : SubId) (src : CmdSrc) (s : State) : Host.Outcome State Fault Refusal :=
  match src with
  | .entry => .next (if s.asleep then s else s.retireEntry sub.val)
  | .mailbox m =>
    match s.receive m 0x21 with
    | (some x, s) =>
      .next (if leNat (s.body x) = sub.val && s.retireOk sub.val then (s.retireSub sub.val 4).answer x 0 [] else s.answer x 0x89 [])
    | (none, s) => .next s
  | .module =>
    .next (if s.odGet 0x2200 6 ≤ s.fixes24 sub.val then s.retireSub sub.val 1
      else if 4 ≤ (s.badRows sub.val).length then s.retireSub sub.val 2 else s)
/-- MIGRATION_PAGE_COPIED -/
def execMigrationPageCopied (die : Die) (s : State) : Host.Outcome State Fault Refusal := .next (s.pageCopied die.toNat)
/-- TRAINING_CACHE_UPDATE -/
def execTrainingCacheUpdate (s : State) : Host.Outcome State Fault Refusal := .next s.cacheUpdate

end Sys2Proof.Machine
end

