-- ==== Sys2Proof/Machine/Modes.lean ====
section
/-!
DEFINITION. Changes of the module state (R11, R12), the reset history's count (19 R589, R590), epochs (17 R527) and
what resets do to entries of the object dictionary.
-/
namespace Sys2Proof.Machine

open Sys2Proof

/-! ### Module states (R11) -/

def Mode.asleep : Mode → Bool
  | .standby | .parked => true
  | _ => false

/-- A state change: it is atomic (R12) and raises source 1 (R453); before the dies go down where they do. Only READY has
IDLE (R549). -/
def State.enterMode (s : State) (m : Mode) : State :=
  let s := if m = .ready then s else s.setIdle false
  if s.mode = m then s
  else if m.asleep then
    let s := s.raiseEast 1 m.code
    (s.setMode m).setPow { s.pow with stateSince := s.now }
  else
    ((s.setMode m).setPow { s.pow with stateSince := s.now }).raiseEast 1 m.code

/-- A session or a stream context is active (R11). -/
def State.anyActive (s : State) : Bool :=
  s.sess.any (fun x => x.2.isOpen) || s.video.any (fun e => e.2.ctx.any (fun c => decide (c.2.state = .opened)))

/-- READY and SERVING follow whether anything is active. -/
def State.follow (s : State) : State :=
  match s.mode with
  | .ready | .serving => s.enterMode (if s.anyActive then .serving else .ready)
  | _ => s

/-! ### The reset history (R588–R590) -/

/-- The count in force: counted records, not cleared, within 3,600 s of the newest (R589). -/
def State.countInForce (s : State) : Nat :=
  match s.rst.history.getLast? with
  | some h => (s.rst.history.filter (fun x => x.counted && !x.cleared && decide (h.clock ≤ x.clock + 3600))).length
  | none => 0

/-- Kinds that count (R573), outside OUT_OF_SERVICE and with another cause than a return to service (R589). -/
def State.counts (s : State) (kind : ResetKind) (cause : Nat) : Bool :=
  decide (kind ≠ .core) && !s.rst.oos && decide (s.mode ≠ .outOfService) && decide (cause ≠ 5)

/-- Record a reset (R589). A counted one raises the escalation source with the count (R453), and the fourth sets the
out-of-service flag (R590). -/
def State.recordReset (s : State) (h : HistRec) : State :=
  let s := (s.odInc 0x2004 6 1).putHistory { h with counted := s.counts h.kind h.cause }
  if s.counts h.kind h.cause then
    let n := s.countInForce
    let s := s.raiseEast 3 n
    if 4 ≤ n then (s.setRst { s.rst with oos := true, oosReason := 1 }).commit [4] else s
  else s

/-! ### Epochs (R527) -/

/-- Draw an epoch. -/
def State.drawEpoch (s : State) : Nat × State := (s.sec.epoch, s.setSec { s.sec with epoch := s.sec.epoch + 1 })

/-- Generate a key: its generation. -/
def State.drawKey (s : State) : Nat × State := (s.sec.nextKey, s.setSec { s.sec with nextKey := s.sec.nextKey + 1 })

/-! ### Windows -/

/-- The index lies in partition p's window. -/
def inWindow (p index : Nat) : Bool := decide (wIx p 0 ≤ index) && decide (index < wIx p 0x200)

/-! ### Values in a list of taken positions -/

/-- The lowest `n` free positions of a frame of 64 slots whose module slots are every `m`-th (R529, R530). -/
def freeSlots (m : Nat) (taken : List Nat) (n : Nat) : List Nat :=
  ((upto 64).filter (fun i => i % m ≠ 0 && !taken.contains i)).take n

end Sys2Proof.Machine
end

