-- ==== Sys2Proof/Machine/Partitions.lean ====
section
/-!
DEFINITION. Partitions (17 R525–R530, R539–R541): creation, the scrub of a PART reset, destruction.
-/
namespace Sys2Proof.Machine

open Sys2Proof

/-! ### Bodies and ranges -/

/-- `n` bytes of a body at an offset, as a number. -/
def bodyAt (b : List Byte) (off n : Nat) : Nat := leNat ((b.drop off).take n)

def inRange (r : Nat × Nat) (n : Nat) : Bool := decide (r.1 ≤ n) && decide (n < r.1 + r.2)

def overlap (a b : Nat × Nat) : Bool :=
  decide (a.2 ≠ 0) && decide (b.2 ≠ 0) && decide (a.1 < b.1 + b.2) && decide (b.1 < a.1 + a.2)

/-- A first and a count less one in 32 bits (R526). -/
def rangeField (v : Nat) : Nat × Nat := (fld v 0 16, fld v 16 16 + 1)

/-- A semaphore identifier lies in a partition's range of its die (R159, R526). -/
def Part.hasSem (x : Part) (sem : Nat) : Bool :=
  inRange (if sem < 2048 then x.s0 else x.s1) (sem % 2048)

/-- What a PARTITION_CREATE asks for (R526). -/
def Part.ofBody (b : List Byte) : Part :=
  { owner := BitVec.ofNat 256 (bodyAt b 64 32)
    cores := BitVec.ofNat 18 (bodyAt b 4 4)
    subs := BitVec.ofNat 68 (bodyAt b 8 9)
    slices := BitVec.ofNat 96 (bodyAt b 17 12)
    engines := BitVec.ofNat 6 (bodyAt b 29 1)
    q0 := rangeField (bodyAt b 32 4), q1 := rangeField (bodyAt b 36 4)
    s0 := rangeField (bodyAt b 40 4), s1 := rangeField (bodyAt b 44 4)
    sess := (bodyAt b 48 4, bodyAt b 52 4) }

/-- A unit of the die is among a partition's. -/
def Part.onDie (x : Part) (die : Nat) : Bool :=
  (upto 18).any (fun n => decide (dieOfCore n = die) && x.cores.getLsbD n)
    || (upto 68).any (fun n => decide (dieOfSub n = die) && x.subs.getLsbD n)
    || (upto 48).any (fun n => x.slices.getLsbD (48 * die + n))
    || (upto 6).any (fun e => decide (dieOfEngine e = die) && x.engines.getLsbD e)

/-! ### Checks of PARTITION_CREATE (R528) -/

/-- 0xE5: a controller loss (R566) or a security-engine failure (R76). -/
def State.partRefused (s : State) : Bool := s.pow.lost || !s.sec.eastOk || !s.sec.westOk

/-- 0xE0. -/
def createRangeBad (b : List Byte) : Bool :=
  let x := Part.ofBody b
  bodyAt b 1 3 ≠ 0 || bodyAt b 30 2 ≠ 0 || bodyAt b 59 5 ≠ 0 || bodyAt b 96 160 ≠ 0
    || decide (7 < bodyAt b 0 1) || decide (x.cores = 0) || decide (x.subs = 0) || decide (x.owner = 0)
    || decide (2 ^ 18 ≤ bodyAt b 4 4) || decide (2 ^ 68 ≤ bodyAt b 8 9) || decide (2 ^ 6 ≤ bodyAt b 29 1)
    || decide (65536 < x.q0.1 + x.q0.2) || decide (65536 < x.q1.1 + x.q1.2)
    || decide (2048 < x.s0.1 + x.s0.2) || decide (2048 < x.s1.1 + x.s1.2)
    || decide (x.sess.2 = 0) || decide (262144 < x.sess.1 + x.sess.2)
    || (x.onDie 0 && x.onDie 1 && decide (bodyAt b 56 1 = 0))
    || decide (62 < bodyAt b 56 1) || decide (56 < bodyAt b 57 1) || decide (60 < bodyAt b 58 1)

/-- Video engine e has an open context or a bound queue (R319). -/
def State.engineInUse (s : State) (e : Nat) : Bool :=
  decide ((s.engine e).openCount ≠ 0) || !(s.queueIds (fun _ x => decide (x.videoOf = some e) && decide (x.state ≠ .disabled))).isEmpty

/-- 0xE1: a unit that is owned, spare, retired or out of service, or a range that overlaps another's. A degraded
subchannel stays in service (R205); a video engine still in use is not reassigned (R319). -/
def State.createTaken (s : State) (x : Part) : Bool :=
  (upto 18).any (fun n => x.cores.getLsbD n && ((s.coreOwner n).isSome || decide ((s.core n).role ≠ .inService)))
    || (upto 68).any (fun n => x.subs.getLsbD n && ((s.subOwner n).isSome
        || (decide ((s.sub n).role ≠ .inService) && decide ((s.sub n).role ≠ .degraded))))
    || (upto 96).any (fun n => x.slices.getLsbD n && ((s.sliceOwner n).isSome || hasNat s.withdrawn n))
    || (upto 6).any (fun e => x.engines.getLsbD e && ((s.engine e).part.isSome || (s.engine e).failed
        || decide ((s.comp (dieOfEngine e) 6).state = .failed) || s.engineInUse e))
    || s.parts.any (fun kp => decide (kp.2.state ≠ .free) && (overlap kp.2.q0 x.q0 || overlap kp.2.q1 x.q1
        || overlap kp.2.s0 x.s0 || overlap kp.2.s1 x.s1 || overlap kp.2.sess x.sess))

/-- Positions of a resource taken by partitions. -/
def State.takenSlots (s : State) (f : Part → List Nat) : List Nat :=
  s.parts.flatMap (fun kp => if kp.2.state = .free then [] else f kp.2)

/-- The positions a creation takes: D2D, fabric, park store (R530). -/
def State.newSlots (s : State) (b : List Byte) : List Nat × List Nat × List Nat :=
  (freeSlots 32 (s.takenSlots Part.d2d) (bodyAt b 56 1), freeSlots 8 (s.takenSlots Part.fabric) (bodyAt b 57 1),
    freeSlots 16 (s.takenSlots Part.parkSlots) (bodyAt b 58 1))

/-- The code that answers a PARTITION_CREATE (R528), 0 for success. -/
def State.createCode (s : State) (b : List Byte) : Nat :=
  let (d, f, k) := s.newSlots b
  if s.partRefused then 0xE5
  else if createRangeBad b then 0xE0
  else if (s.part (bodyAt b 0 1)).state ≠ .free then 0xE2
  else if s.createTaken (Part.ofBody b) then 0xE1
  else if d.length ≠ bodyAt b 56 1 || f.length ≠ bodyAt b 57 1 || k.length ≠ bodyAt b 58 1 then 0xE4
  else 0

/-! ### Keys and content -/

/-- The upsets that stand in the partition's lines go with their content. -/
def State.clearPartUpsets (s : State) (x : Part) : State :=
  s.setUpsets (s.upsets.only (fun k _ => !(x.subs.getLsbD (k / 2 ^ 27) && decide (k % 2 ^ 27 < regionLine))))

/-- Give the partition's subchannels the content that their new key makes of them: nothing written (R194). -/
def State.freshDram (s : State) (x : Part) (key : Nat) : State :=
  (s.clearPartUpsets x).setDram ((upto 68).foldl (fun d n =>
    if x.subs.getLsbD n then
      d.put n { d.getD n {} with mem := { fill := .unwritten (128 * key + n) } }
    else d) s.dram)

/-- The partition's subchannels written with zeros (R539 step 5). -/
def State.zeroDram (s : State) (x : Part) : State :=
  (s.clearPartUpsets x).setDram ((upto 68).foldl (fun d n =>
    if x.subs.getLsbD n then d.put n { d.getD n {} with mem := {} } else d) s.dram)

/-- Zero-fill the partition's slices (R63). -/
def State.zeroSlices (s : State) (x : Part) : State :=
  s.setShared ((upto 96).foldl (fun m n =>
    if x.slices.getLsbD n then m.zeroRange (67108864 * (n / 48) + 1048576 * (n % 48)) 1048576 else m) s.shared)

/-- Create partition p (R527): keys, epoch, slots, zeroed slices, counts of W+0x040 cleared. -/
def State.createPart (s : State) (b : List Byte) : State :=
  let p := bodyAt b 0 1
  let (d, f, k) := s.newSlots b
  let (key, s) := s.drawKey
  let (ep, s) := s.drawEpoch
  let x := { Part.ofBody b with state := .active, d2d := d, fabric := f, parkSlots := k, epoch := ep, key := key }
  let s := ((s.putPart p x).freshDram x key).zeroSlices x
  let s := s.setVideo ((upto 6).foldl (fun v e =>
    if x.engines.getLsbD e then v.put e { v.getD e {} with part := some (BitVec.ofNat 3 p) } else v) s.video)
  s.odDrop (fun ix r => inWindow p ix && decide (r.reset = .creation))

/-! ### The scrub (R539) -/

/-- Owner sessions and what they hold end without an answer (R398). -/
def State.dropSessions (s : State) (p : RSess → Bool) : State :=
  let gone := (s.ryc.sess.only (fun _ x => p x)).map (·.1)
  s.setRyc { s.ryc with
    sess := s.ryc.sess.only (fun _ x => !p x)
    window := s.ryc.window.filter (fun w => !gone.contains w.sess)
    reads := s.ryc.reads.filter (fun r => !gone.contains r.sess) }

/-- A session of an owner of partition p (R386). -/
def RSess.ownedBy (p : Nat) (x : RSess) : Bool :=
  decide (x.state ≠ .free) && decide (x.credential.toNat / 256 = p)

/-- A descriptor at its core's engines ends with a code. -/
def Job.cut (code : Nat) (j : Job) : Job :=
  match j.phase with
  | .handed | .waitCredit | .waitData | .waitKv => { j with phase := .finished, status := BitVec.ofNat 8 code, flags := 0, detail := 0 }
  | _ => j

/-- Step 2 of R539: descriptors in flight on the partition's cores complete with 0x49, and lent channels return (R278). -/
def State.cutFlight (s : State) (p : Nat) : State :=
  (s.queueIds (fun _ x => decide (x.part = p) && x.coreOf.isSome)).foldl (fun s q =>
    let s := s.updQueue q (fun x => { x with jobs := x.jobs.map (Job.cut 0x49), lentTo := none })
    State.completeAll (s.queue q).jobs.length s q) s

/-- The requests of the partition's queue mailboxes that await a reply are answered 0x8A (R373): those that firmware
keeps, then those in a mailbox's inbound queue. -/
def State.cutRequests (s : State) (p : Nat) : State :=
  let s := s.fw.mbx.foldl (fun s kb => if kb.2.kind = .queue && kb.2.part.toNat = p then
      kb.2.inb.foldl (fun s r => s.answerKept (kb.1 / 64) (kb.1 % 64) r 0x8A []) s
    else s) s
  (s.queueIds (fun _ x => decide (x.part = p) && decide (x.kind = 10))).foldl (fun s q =>
    match s.incoming (.queue (BitVec.ofNat 17 q)) with
    | some x => s.answer x 0x8A []
    | none => s) s

/-- Add a queue range to those that were filled with zeros. -/
def zeroedWith (rs : List (Nat × Nat)) (r : Nat × Nat) : List (Nat × Nat) := if rs.contains r then rs else rs ++ [r]

/-- Queue contexts and semaphores in the partition's ranges, page maps and caches (R179, R216, R278). -/
def State.scrubQueues (s : State) (p : Nat) : State :=
  let x := s.part p
  let s := s.setSemWait (s.semWait.filter (fun w => !x.hasQueue w.2 && !x.hasSem w.1))
  let s := s.setQueues (s.queues.only (fun q _ => !x.hasQueue q))
  let s := s.setQueueZero (zeroedWith (zeroedWith s.queueZero x.q0) (65536 + x.q1.1, x.q1.2))
  let s := s.setSems (s.sems.only (fun _ y => decide (y.owner.map BitVec.toNat ≠ some p)))
  let s := s.setPageMaps (s.pageMaps.only (fun k _ => decide (k / 2 ^ 18 ≠ p)))
  let s := s.setTlb (s.tlb.only (fun k _ => decide ((k / 2 ^ 18) % 8 ≠ p)))
  let kv := (s.kvMaps.only (fun _ e => decide (fld e 15 3 = p))).map (·.1)
  let s := s.setKvDirty (s.kvDirty.filter (fun k => !kv.contains k))
  let s := s.setKvTlb (s.kvTlb.only (fun _ e => decide (fld e 15 3 ≠ p)))
  let s := s.setKvMaps (s.kvMaps.only (fun _ e => decide (fld e 15 3 ≠ p)))
  s.setMigr (s.migr.mapVals (fun _ m => { m with left := m.left.filter (fun k => decide (k / 2 ^ 18 ≠ p)) }))

/-- Sessions, grammars, video contexts, KV-spill objects, network state, bundles (R309, R345, R216, R435, R509). -/
def State.scrubServices (s : State) (p : Nat) : State :=
  let s := s.setSess (s.sess.only (fun _ x => decide (x.partition.toNat ≠ p)))
  let s := s.setGrammars (s.grammars.only (fun _ g => decide (g.part.toNat ≠ p)))
  let s := (s.setAdapters (s.adapters.filter (fun a => decide (a.part ≠ p)))).setAdapterLast
    (s.adapterLast.only (fun k _ => decide (k / 1024 ≠ p)))
  let s := s.setVideo (s.video.mapVals (fun _ e =>
    { e with ctx := e.ctx.only (fun _ c => decide (c.part.toNat ≠ p))
             busy := if e.part.map BitVec.toNat = some p then none else e.busy
             freeAt := if e.part.map BitVec.toNat = some p then s.now else e.freeAt }))
  let s := s.setPark { s.park with objects := s.park.objects.only (fun _ o => !(decide (o.region = 1) && decide (o.part = p))) }
  let s := s.setNet { s.net with
    steer := s.net.steer.only (fun _ r => decide (fld r 44 3 ≠ p))
    groups := s.net.groups.only (fun _ e => decide (jgPart e ≠ p))
    links := s.net.links.mapVals (fun _ l => { l with ring := l.ring.filter (fun f => decide (f.part ≠ p)) }) }
  s.setRel { s.rel with bundles := s.rel.bundles.only (fun _ b => decide (b.part.toNat ≠ p)) }

/-- Sources disabled with their controls reset, pending records removed, counters cleared (R472, R473). -/
def State.scrubEvents (s : State) (p : Nat) : State :=
  let mine := fun (k : Nat) => decide (s.sourceOwner (k / 1024) (k % 1024) = some p)
  let cores := (s.part p).cores
  let keep := fun (k : Nat) (c : Ctr) =>
    if k < 288 then decide (8 ≤ k % 16) && !cores.getLsbD (k / 16) else decide (c.assign ≠ 255) && decide (c.assign ≠ p)
  s.setEv { s.ev with
    src := s.ev.src.mapVals (fun k x => if mine k then { x with control := 0, n := 0, disarmed := false } else x)
    irq := s.ev.irq.mapVals (fun _ x => { x with pending := x.pending.filter (fun r => !mine (1024 * r.2.1 + r.2.2)) })
    ctr := s.ev.ctr.only keep }

/-- Firmware: the runtime process ends, the queue mailboxes empty and fall out of use (R373). -/
def State.scrubFirmware (s : State) (p : Nat) : State :=
  s.setFw { s.fw with
    appPart := s.fw.appPart.only (fun _ q => decide (q ≠ p))
    mbx := s.fw.mbx.mapVals (fun _ m => if m.kind = .queue && m.part.toNat = p then { assigned := m.assigned } else m) }

/-- Swaps of the partition's retired and marked cores (R497), with free outcomes of the spares' self-tests (log 1). -/
def State.swapFree (s : State) : List Nat → State
  | [] => s
  | n :: ns =>
    let s :=
      if s.swapOk n then
        let (b, s) := s.drawBool
        s.swapCore n b
      else s
    s.swapFree ns

/-- Scratchpads, accumulators and vector registers of the partition's cores (R539 step 4). -/
def State.scrubCores (s : State) (p : Nat) : State :=
  let mine := (upto 18).filter (fun n => (s.part p).cores.getLsbD n)
  let s := mine.foldl (fun s n =>
    let s := s.updCore n (fun c => { c.blank with role := if c.role = .resetting || c.role = .selfTest then .inService else c.role })
    let s := (s.clearSpadUpsets n).condition (dieOfCore n) (112 + 8 * (n % 9) + 1) false 0
    if s.ctrStopped then s.setEv { s.ev with coreReset := insertNat s.ev.coreReset n } else s) s
  s.swapFree mine

/-- Entries: statuses, the window's rw entries and PART-cleared counts, and those of the partition's cores as they were
before its swaps (R577 and the Reset columns). -/
def State.scrubEntries (s : State) (p : Nat) (cores : BitVec 18) : State :=
  s.odDrop (fun ix r =>
    decide (r.reset = .status)
      || (inWindow p ix && (decide (r.reset = .defaultPart) || decide (r.reset = .partCleared) || decide (r.access = .rw)))
      || (decide (ix = 0x2010 + p) && decide (r.reset = .partCleared))
      || (decide (r.reset = .coreCleared) && decide (0x2110 ≤ ix) && decide (ix < 0x2122) && cores.getLsbD (ix - 0x2110))
      || decide (r.reset = .notCore))

/-- Steps 1 to 5 of R539. -/
def State.scrubSteps (s : State) (p : Nat) : State :=
  let s := s.dropSessions (RSess.ownedBy p)
  let s := (s.abortGroups 2 (fun e => decide (jgPart e = p))).cutFlight p
  let s := s.cutRequests p
  let s := ((s.scrubEvents p).scrubQueues p).scrubServices p
  let (key, s) := s.drawKey
  let s := s.updPart p (fun x => { x with key := key, modelKeys := [], kem := [], capCeiling := 1100, issueShare := 100 })
  let s := ((s.scrubFirmware p).zeroSlices (s.part p)).zeroDram (s.part p)
  let s := if s.sec.debugOpen = some p then (s.setSec { s.sec with debugOpen := none }).odSet 0x5000 2 0 else s
  (((s.scrubCores p).scrubEntries p (s.part p).cores).degradedDone).follow

/-- The newest record of a PART reset of p takes flag bit 1 when an order merges into it (R588). -/
def markMerged (p : Nat) : List HistRec → List HistRec
  | [] => []
  | h :: hs =>
    if h.kind = .part && h.unit = p && hs.all (fun g => !(g.kind = .part && g.unit = p)) then { h with merged := true } :: hs
    else h :: markMerged p hs

/-- A PART reset begins or merges (R539, R541). -/
def State.startScrub (s : State) (p : Nat) (destroy : Bool) : State :=
  let x := s.part p
  match x.state with
  | .free => s
  | .active =>
    let s := s.putPart p { x with state := if destroy then .destroying else .scrubbing }
    let s := s.recordReset { clock := s.park.clock, time := s.now, kind := .part, cause := if destroy then 0x0B else 0x0A
                             unit := p, counted := false }
    s.scrubSteps p
  | _ =>
    let s := if destroy then s.putPart p { x with state := .destroying } else s
    s.setRst { s.rst with history := markMerged p s.rst.history }

/-- The out-of-service flag that a PART reset brought about takes effect at its end (R590). -/
def State.oosIfFlagged (s : State) : State :=
  if s.rst.oos && (s.mode = .ready || s.mode = .serving || s.mode = .draining) then
    (s.setEntry none).enterMode .outOfService
  else s

/-- Answer kept requests of a type whose body's first byte is `p`. -/
def State.answerPart (s : State) (t p status : Nat) : State :=
  s.fw.mbx.foldl (fun s kb =>
    (kb.2.inb.filter (fun r => decide (mgType r.msg.toNat = t) && decide (mgBody r.msg.toNat % 256 = p) && !r.waiting)).foldl
      (fun s r => s.answerKept (kb.1 / 64) (kb.1 % 64) r status []) s) s

/-- Step 6 of R539. -/
def State.scrubDone (s : State) (p : Nat) : State :=
  let x := s.part p
  let s :=
    match x.state with
    | .scrubbing =>
      let (ep, s) := s.drawEpoch
      (s.putPart p { x with state := .active, epoch := ep, debug := false }).raisePart 0 p 5 0
    | .destroying =>
      let s := s.setEv { s.ev with src := s.ev.src.mapVals (fun _ y => if y.owner.map BitVec.toNat = some p then { y with owner := none } else y) }
      let s := s.setVideo (s.video.mapVals (fun _ e => if e.part.map BitVec.toNat = some p then { e with part := none } else e))
      let s := s.setOd (s.od.only (fun k _ => !(decide (wIx p 0x010 ≤ k / 256) && decide (k / 256 < wIx p 0x014))))
      (s.commit [1]).putPart p {}
    | _ => s
  let s := s.odInc (wIx p 0) 0x0C 1
  let s := if s.odGet (wIx p 0) 0x0D = 1 then s.odSet (wIx p 0) 0x0D 2 else s
  ((s.answerPart 0x11 p 0).answerPart 0x12 p 0).oosIfFlagged

/-! ### The commands -/

/-- PARTITION_CREATE (R526–R528) -/
def execPartitionCreate (m : MbxSrc) (s : State) : Host.Outcome State Fault Refusal :=
  match s.receive m 0x10 with
  | (some x, s) =>
    if s.mode ≠ .ready && s.mode ≠ .serving then .next (s.answer x 0x89 [])
    else
      let b := s.body x
      let c := s.createCode b
      if c ≠ 0 then .next (s.answer x c [])
      else
        let s := s.createPart b
        .next (s.answer x 0 (leBytes 4 (s.part (bodyAt b 0 1)).epoch ++ leBytes 4 0))
  | (none, s) => .next s

/-- A SCRUB or DESTROY message: checked, then kept until the scrub ends (R528, R541). -/
def State.scrubMessage (s : State) (m : MbxSrc) (t : Nat) (destroy : Bool) : State :=
  match s.receive m t with
  | (some x, s) =>
    let p := bodyAt (s.body x) 0 1
    if 7 < p then s.answer x 0xE0 []
    else if (s.part p).state = .free then s.answer x 0xE3 []
    else if s.rst.due.isSome then s
    else (s.keepRequest x false).startScrub p destroy
  | (none, s) => s

/-- PARTITION_SCRUB: the message, or the entry W+0x000.0D. -/
def execPartitionScrub (p : PartId) (src : CmdSrc) (s : State) : Host.Outcome State Fault Refusal :=
  match src with
  | .mailbox m => .next (s.scrubMessage m 0x11 false)
  | .entry =>
    if s.asleep || s.rst.due.isSome then .next s
    else if (s.part p.toNat).state = .free then .next (s.odSet (wIx p.toNat 0) 0x0D 3)
    else .next ((s.startScrub p.toNat false).odSet (wIx p.toNat 0) 0x0D 1)
  | .module => .next s
/-- PARTITION_DESTROY -/
def execPartitionDestroy (m : MbxSrc) (s : State) : Host.Outcome State Fault Refusal :=
  .next (s.scrubMessage m 0x12 true)
/-- SCRUB_COMPLETE: step 6 of a running scrub. -/
def execScrubComplete (p : PartId) (s : State) : Host.Outcome State Fault Refusal :=
  match (s.part p.toNat).state with
  | .scrubbing | .destroying => .next (s.scrubDone p.toNat)
  | _ => .next s

end Sys2Proof.Machine
end

