-- ==== Sys2Proof/Machine/Security.lean ====
section
/-!
DEFINITION. The security engines (17 R514–R524, R531–R538, R548): leaves, descriptors, attestation, key release,
debug.
-/
namespace Sys2Proof.Machine

open Sys2Proof

/-! ### Leaves (R514–R518) -/

def leavesTotal : Nat := 2 ^ 30
def State.nextLeaf (s : State) : Nat := s.odGet 0x2800 2
def State.reservedTo (s : State) : Nat := s.odGet 0x2800 3
def State.leavesLeft (s : State) : Nat := leavesTotal - s.nextLeaf

/-- Reserve the next block of 1,024 leaves, when its record commits (R516). -/
def State.reserveLeaves (s : State) (ok : Bool) : State :=
  let (done, s) := s.psCommit [6] ok
  let s := s.setSec { s.sec with signing := done, keptTree := if done then s.sec.madeTree else s.sec.keptTree }
  if done then s.odSet 0x2800 3 (Nat.min leavesTotal (s.reservedTo + 1024)) else s

/-- When the lower tree of leaf `n` passes 16,384 used leaves, the next one is generated and signed (R517). -/
def State.growTree (s : State) (n : Nat) : State :=
  if 16384 ≤ n % 32768 then s.setSec { s.sec with madeTree := Nat.max s.sec.madeTree (n / 32768 + 1) } else s

/-- Use one leaf, in increasing order; none where none is left or none can be reserved (R515, R516, R518). -/
def State.takeLeaf (s : State) (ok : Bool) : Option Nat × State :=
  if s.leavesLeft = 0 then (none, s)
  else
    let s := if s.reservedTo ≤ s.nextLeaf || !s.sec.signing then s.reserveLeaves ok else s
    if s.reservedTo ≤ s.nextLeaf || !s.sec.signing then (none, s)
    else
      let n := s.nextLeaf
      let s := (s.odSet 0x2800 2 (n + 1)).growTree n
      (some n, if n % 1024 = 512 && s.reservedTo < leavesTotal then s.reserveLeaves ok else s)

/-- ASCII bytes of a text. -/
def ascii (t : String) : List Byte := t.toList.map (fun c => BitVec.ofNat 8 c.toNat)

/-- The HSS signature of a message with a leaf: 3,284 bytes (R533). -/
def signature (msg : List Byte) (leaf : Nat) : List Byte := (upto 3284).map (Config.hssSign leaf msg)

/-! ### Key slots (R522, R525) -/

/-- The encapsulation key of a KEM pair: 1,568 bytes. -/
def kemKey (gen : Nat) : List Byte := (upto 1568).map (Config.kemPublic gen)

/-- A KEM slot's pair: in use for at most 10 minutes (R520). -/
def State.kemPair (s : State) (p slot : Nat) : Option Nat :=
  match (s.part p).kem.find slot with
  | some (gen, since) => if s.now < since + 600 * second then some gen else none
  | none => none

/-! ### Descriptors (R521–R523) -/

def sIv (d : Nat) : Nat := fld d 224 96
def sKey (d : Nat) : Nat := fld d 216 8
def sBytes (d : Nat) : Nat := fld d 184 32
def sDst (d : Nat) : Nat := fld d 128 48
def sSrc (d : Nat) : Nat := fld d 64 48
def sReserved (d : Nat) : Nat := fld d 320 192 + fld d 176 8 + fld d 112 16

/-- Bytes read and bytes written by an operation. -/
def secIn (op bytes : Nat) : Nat := match op with | 0x50 => bytes | 0x51 => bytes | 0x52 => bytes + 16 | _ => 0
def secOut (op bytes : Nat) : Nat := match op with | 0x50 => 32 | 0x51 => bytes + 16 | 0x52 => bytes | _ => 1568

/-- 0xD2: a slot or byte count outside its range. -/
def secRangeBad (op d : Nat) : Bool :=
  match op with
  | 0x51 | 0x52 => decide (15 < sKey d) || decide (2 ^ 30 < sBytes d)
  | 0x53 => decide (3 < sKey d)
  | _ => false

/-- The checks of R523 before the input is read, or 0. -/
def State.secCheck (s : State) (die p d : Nat) : Nat × State :=
  let op := dOpcode d
  if sReserved d ≠ 0 then (0xD0, s)
  else if op < 0x50 || 0x53 < op then (0xD1, s)
  else if secRangeBad op d then (0xD2, s)
  else if sDst d % 64 ≠ 0 || ((op = 0x51 || op = 0x52) && sSrc d % 64 ≠ 0) then (0xD3, s)
  else
    match s.pcheck die p (sSrc d) (secIn op (sBytes d)) false with
    | (false, s) => (0xD3, s)
    | (true, s) =>
      match s.pcheck die p (sDst d) (secOut op (sBytes d)) true with
      | (false, s) => (0xD3, s)
      | (true, s) =>
        if (op = 0x51 || op = 0x52) && ((s.part p).modelKeys.find (sKey d)).isNone then (0xD6, s) else (0, s)

/-- What an operation writes, and its status, from its input (R522). -/
def State.secResult (s : State) (die p d : Nat) (bs : List Byte) : Nat × State :=
  let op := dOpcode d
  let key := (((s.part p).modelKeys.find (sKey d)).map ModelKey.key).getD 0
  let n := sBytes d
  match op with
  | 0x50 => (0, (s.pwrite die p (sDst d) (clean (leBytes 32 (Config.sha256 bs).toNat))).2)
  | 0x51 =>
    if n = 0 then (1, s)
    else
      let ct := (upto n).map (Config.gcmSeal key (sIv d) bs)
      (0, (s.pwrite die p (sDst d) (clean (ct ++ leBytes 16 (Config.gcmTag key (sIv d) bs).toNat))).2)
  | 0x52 =>
    let pt := (upto n).map (Config.gcmOpen key (sIv d) (bs.take n))
    if leBytes 16 (Config.gcmTag key (sIv d) pt).toNat = bs.drop n then (0, (s.pwrite die p (sDst d) (clean pt)).2)
    else (0xD4, s.rawPoison die p (sDst d) n)
  | _ =>
    let (gen, s) := s.drawKey
    let s := s.updPart p (fun x => { x with kem := x.kem.put (sKey d) (gen, s.now) })
    (0, (s.pwrite die p (sDst d) (clean (kemKey gen))).2)

/-- Run a descriptor. -/
def State.secRun (s : State) (q d : Nat) : State :=
  let die := dieOfQueue q
  let p := (s.queue q).part
  match s.secCheck die p d with
  | (0, s) =>
    match s.mread die p (sSrc d) (secIn (dOpcode d) (sBytes d)) with
    | (some bs, s) =>
      if bs.any (·.2) then s.done q 0xD5
      else
        let (c, s) := s.secResult die p d (bs.map (·.1))
        s.done q c
    | (none, s) => s.done q 0xD3
  | (c, s) => s.done q c

/-- A command for opcode `op` runs its own descriptors, and any that no opcode of the engine describes. -/
def State.secCommand (s : State) (q op : Nat) : State :=
  match s.atEngine q 7 with
  | some d => if dOpcode d = op || dOpcode d < 0x50 || 0x53 < dOpcode d then s.secRun q d else s
  | none => s

/-- DIGEST -/
def execDigest (q : QueueId) (s : State) : Host.Outcome State Fault Refusal := .next (s.secCommand q.toNat 0x50)
/-- SEAL -/
def execSeal (q : QueueId) (s : State) : Host.Outcome State Fault Refusal := .next (s.secCommand q.toNat 0x51)
/-- OPEN -/
def execOpenSealed (q : QueueId) (s : State) : Host.Outcome State Fault Refusal := .next (s.secCommand q.toNat 0x52)
/-- KEMGEN -/
def execKemgen (q : QueueId) (s : State) : Host.Outcome State Fault Refusal := .next (s.secCommand q.toNat 0x53)

/-! ### Attestation (R531–R533) -/

/-- Digest of component c for the report: zeros unless it runs with one digest on both dies. -/
def State.compDigest (s : State) (c : Nat) : Nat :=
  let e := s.comp 0 c
  let w := s.comp 1 c
  if e.state = .running && w.state = .running && e.digest = w.digest then e.digest else 0

/-- OD 0x2800.05: fuse_state. -/
def State.fuseState (s : State) : Nat :=
  s.sec.fusePlatform + at' 8 s.sec.fuseRuntime + at' 16 (b2n s.sec.personalised) + at' 17 (b2n s.sec.production)

def cborArray (xs : List (List Byte)) : List Byte := cborHead 4 xs.length ++ xs.flatMap id

/-- The report of R532. -/
def State.report (s : State) (p leaf nonce slot : Nat) : List Byte :=
  let x := s.part p
  let digests := (upto 12).map s.compDigest
  let kem := match s.kemPair p slot with
    | some g => (Config.sha256 (kemKey g)).toNat
    | none => 0
  cborMap [(0, cborHead 0 1), (1, cborText (s.odGet 0x1000 4)), (2, cborHead 0 leaf), (3, cborHead 0 s.now),
    (4, cborBytes 32 nonce), (5, cborHead 0 s.mode.code), (6, cborHead 0 p), (7, cborHead 0 x.epoch),
    (8, cborHead 0 s.fuseState),
    (9, cborHead 0 (b2n x.debug + 2 * s.odGet 0x2800 6 + 4 * b2n (digests.contains 0))),
    (10, cborBytes 32 s.bootedImage.digest), (11, cborBytes 32 (s.odGet 0x2150 5)),
    (12, cborHead 2 384 ++ digests.flatMap (leBytes 32)),
    (13, cborArray [cborHead 0 x.cores.toNat, cborBytes 9 x.subs.toNat, cborBytes 12 x.slices.toNat,
      cborHead 0 x.engines.toNat,
      cborArray [cborHead 0 x.d2d.length, cborHead 0 x.fabric.length, cborHead 0 x.parkSlots.length]]),
    (14, cborArray ((s.rel.bundles.filter (fun b => decide (b.2.part.toNat = p))).map
      (fun b => cborBytes 32 b.2.digest.toNat))),
    (15, cborBytes 32 kem)]

/-- The reply body of R533. -/
def attestBody (report : List Byte) (leaf : Nat) : List Byte :=
  let head := leBytes 2 report.length ++ leBytes 2 0 ++ report
  head ++ signature (ascii "septenir-attest-1" ++ head) leaf ++ leBytes (808 - report.length) 0

/-- The partition of a message in a queue mailbox. -/
def State.senderPart (s : State) (x : MbxIn) : Nat := match x.queue with | some q => (s.queue q).part | none => 0

def Part.scrubs (x : Part) : Bool := x.state = .scrubbing || x.state = .destroying

/-- A security engine has failed (R76). -/
def State.secFailed (s : State) : Bool := !s.sec.eastOk || !s.sec.westOk

/-- ATTEST_REQUEST (R528, R531): its checks, then one leaf. -/
def State.attest (s : State) (x : MbxIn) (ok : Bool) : State :=
  let p := s.senderPart x
  let b := s.body x
  let recent := ((s.part p).attests.filter (fun t => decide (s.now < t + second))) ++ [s.now]
  let s := s.updPart p (fun y => { y with attests := recent })
  if s.secFailed then s.answer x 0xE5 []
  else if 3 < bodyAt b 32 2 then s.answer x 0xE0 []
  else if (s.part p).scrubs then s.answer x 0xEC []
  else if 16 < recent.length then s.answer x 0xE6 []
  else if s.leavesLeft < 65536 then s.answer x 0xEB []
  else
    match s.takeLeaf ok with
    | (none, s) => s.answer x 0xEB []
    | (some leaf, s) =>
      (s.odInc 0x2800 8 1).answer x 0 (attestBody (s.report p leaf (bodyAt b 0 32) (bodyAt b 32 2)) leaf)

/-- ATTEST_REQUEST -/
def execAttestRequest (m : MbxSrc) (storeOk : Bool) (s : State) : Host.Outcome State Fault Refusal :=
  match s.receive m 0x40 with
  | (some x, s) => .next (s.attest x storeOk)
  | (none, s) => .next s

/-! ### Key release (R534–R536) -/

/-- The key-encryption key of R535. -/
def keyEncryptionKey (gen : Nat) (ciphertext : List Byte) : Nat :=
  Config.hkdf (Config.kemShared gen ciphertext) (Config.sha256 (kemKey gen)) (leNat (ascii "septenir model key v1"))

/-- Answer a KEY_RELEASE that is refused. -/
def State.refuseKey (s : State) (x : MbxIn) (c : Nat) : State := (s.odInc 0x2800 0x0A 1).answer x c []

/-- KEY_RELEASE (R528, R535, R536). -/
def State.releaseKey (s : State) (x : MbxIn) : State :=
  let p := s.senderPart x
  let y := s.part p
  let b := s.body x
  let slot := bodyAt b 0 1
  let model := bodyAt b 1 1
  if s.secFailed then s.refuseKey x 0xE5
  else if bodyAt b 2 2 ≠ 0 || bodyAt b 1648 400 ≠ 0 || 3 < slot || 15 < model then s.refuseKey x 0xE0
  else if y.scrubs then s.refuseKey x 0xEC
  else
    match s.kemPair p slot with
    | none => s.refuseKey x 0xE8
    | some gen =>
      if bodyAt b 4 4 ≠ y.epoch then s.refuseKey x 0xE7
      else if (y.modelKeys.find model).isSome then s.refuseKey x 0xEA
      else
        let s := s.putPart p { y with kem := y.kem.del slot }
        match Config.keyUnwrap (keyEncryptionKey gen ((b.drop 40).take 1568)) ((b.drop 1608).take 40) with
        | none => s.refuseKey x 0xE9
        | some key =>
          let s := s.updPart p (fun y => { y with
            modelKeys := y.modelKeys.put model { key := key, bundle := BitVec.ofNat 256 (bodyAt b 8 32) } })
          (s.odInc 0x2800 9 1).answer x 0 (leBytes 4 model ++ leBytes 4 y.epoch ++ (b.drop 8).take 32 ++ leBytes 24 0)

/-- A source carries a message of type `t` that this command has just answered with a code of R366. -/
def State.answeredAs (s s' : State) (m : MbxSrc) (t : Nat) : Bool :=
  match s.incoming m with
  | some x => decide (mgType x.word = t) && decide ((s'.mbx x.die x.mbx).outSeq ≠ (s.mbx x.die x.mbx).outSeq)
  | none => false

/-- KEY_RELEASE -/
def execKeyRelease (m : MbxSrc) (s : State) : Host.Outcome State Fault Refusal :=
  match s.receive m 0x41 with
  | (some x, s) => .next (s.releaseKey x)
  | (none, t) => .next (if s.answeredAs t m 0x41 then t.odInc 0x2800 0x0A 1 else t)

/-- KEM_EXPIRY: a pair unused for 10 min is destroyed (R520). -/
def execKemExpiry (p : PartId) (slot : BitVec 2) (s : State) : Host.Outcome State Fault Refusal :=
  match (s.part p.toNat).kem.find slot.toNat with
  | some (_, since) =>
    if since + 600 * second ≤ s.now then .next (s.updPart p.toNat (fun x => { x with kem := x.kem.del slot.toNat })) else .next s
  | none => .next s

/-! ### Debug (R537, R538, R548) -/

/-- Latch the module debug bit. -/
def State.latchModule (s : State) : State := s.odSet 0x2800 6 1

/-- Open debug on the selected target: latch, and a new epoch for a partition. A target that is none, free, or being
scrubbed is rejected (log 17). -/
def State.openDebug (s : State) : State :=
  let t := s.odGet 0x5000 1
  if s.asleep then s
  else if t < 8 then
    if (s.part t).state = .active then
      let (ep, s) := s.drawEpoch
      let s := s.updPart t (fun x => { x with debug := true, epoch := ep })
      (s.setSec { s.sec with debugOpen := some t }).odSet 0x5000 2 2
    else s.odSet 0x5000 2 3
  else if t = 0x80 then ((s.latchModule).setSec { s.sec with debugOpen := some t }).odSet 0x5000 2 2
  else s.odSet 0x5000 2 3

/-- Close access; the latch stays. -/
def State.closeDebug (s : State) : State :=
  if s.asleep then s else (s.setSec { s.sec with debugOpen := none }).odSet 0x5000 2 0

/-- Debug is open on the selected target. -/
def State.debugReady (s : State) : Bool := !s.asleep && s.sec.debugOpen = some (s.odGet 0x5000 1)

/-- The 1,024 bytes at debug_addr, with their marks; none where they cannot be reached. -/
def State.debugBytes (s : State) : Option (List (Byte × Bool)) × State :=
  let a := s.odGet 0x5000 3
  let t := s.odGet 0x5000 1
  if t < 8 then s.mread 0 t a 1024
  else if a + 1024 ≤ 8589934592 then (some (s.regionRead a 1024), s)
  else (none, s)

/-- Read debug_data: poisoned lines read as zero and show in debug_poison. -/
def State.readDebug (s : State) : Option (List Byte) × State :=
  if s.debugReady then
    match s.debugBytes with
    | (some bs, s) =>
      let out := bs.map (fun x => if x.2 then (0 : Byte) else x.1)
      let marks := (upto 16).foldl (fun m i => m + (match bs[64 * i]? with | some (_, true) => 2 ^ i | _ => 0)) 0
      (some out, s.setSec { s.sec with debugRead := out, debugPoison := BitVec.ofNat 32 marks })
    | (none, s) => (none, s)
  else (none, s)

/-- Write debug_data: 1,024 bytes at debug_addr; false where they cannot be reached. -/
def State.writeDebug (s : State) (bs : List Byte) : Bool × State :=
  let a := s.odGet 0x5000 3
  let t := s.odGet 0x5000 1
  if s.debugReady && bs.length = 1024 then
    if t < 8 then s.pwrite 0 t a (clean bs)
    else if a + 1024 ≤ 8589934592 then (true, s.regionWrite a (clean bs))
    else (false, s)
  else (false, s)

/-- DEBUG_OPEN -/
def execDebugOpen (s : State) : Host.Outcome State Fault Refusal := .next s.openDebug
/-- DEBUG_CLOSE -/
def execDebugClose (s : State) : Host.Outcome State Fault Refusal := .next s.closeDebug
/-- DEBUG_DATA_READ -/
def execDebugDataRead (s : State) : Host.Outcome State Fault Refusal := .next s.readDebug.2
/-- DEBUG_DATA_WRITE -/
def execDebugDataWrite (bytes : List Byte) (s : State) : Host.Outcome State Fault Refusal := .next (s.writeDebug bytes).2
/-- DBG_CONNECTOR_USE (R538) -/
def execDbgConnectorUse (s : State) : Host.Outcome State Fault Refusal :=
  .next (if s.mode = .off then s else s.latchModule)
/-- LOWER_TREE_READY (R517, R575): the current lower tree is regenerated. -/
def execLowerTreeReady (s : State) : Host.Outcome State Fault Refusal :=
  .next (if s.mode = .off || s.asleep || s.mode = .boot then s else s.setSec { s.sec with lowerTree := true })

end Sys2Proof.Machine
end

