-- ==== Sys2Proof/Machine/Resets.lean ====
section
/-!
DEFINITION. Starts and resets (19 R573–R591; 20 R605, R609–R612, R615; 11 R369, R370): what each kind loses, the
pre-reset sample, the choice of a platform slot, the runtime load.
-/
namespace Sys2Proof.Machine

open Sys2Proof

/-! ### What is lost (R577 and every chapter's Resets table) -/

/-- Columns of the tables: PWR, MOD, WARM, and the loss of the dies in PARKED. -/
inductive Loss where
  | pwr | mod | warm | parked
  deriving DecidableEq, Repr

def Loss.restartsTime : Loss → Bool
  | .pwr | .mod => true
  | _ => false

/-- Entries that a reset returns to their defaults. -/
def Loss.drops (k : Loss) (r : OdRow) : Bool :=
  match k with
  | .parked => decide (r.access = .rw)
  | _ => decide (r.access = .rw) ||
    (match r.reset with
     | .default_ | .defaultPart | .cleared | .coreCleared | .partCleared | .notCore | .status => true
     | .pwrMod => decide (k ≠ .warm)
     | .pwr => decide (k = .pwr)
     | _ => false)

/-- A core's state at a loss: storage in zeros; a core that was being reset or tested comes back in service. -/
def Core.lost (k : Loss) (c : Core) : Core :=
  let c := { c.blank with
    role := if c.role = .resetting || c.role = .selfTest then .inService else c.role, requalBank := none }
  if k.restartsTime then { c with lineFix := [], detect := [], lastTrip := 0, lastRise := 0 } else c

/-- A subchannel's state at a loss: its content is lost. -/
def Sub.lost (k : Loss) (u : Sub) : Sub :=
  let u := { u with mem := { fill := .unwritten 0 } }
  if k.restartsTime then { u with fixes := [], bad := [] } else u

/-- A port at a loss (R435). -/
def portLost (k : Loss) (p : Nat) (x : Port) : Port :=
  match k with
  | .pwr | .mod => { x with role := (defaultPorts.getD p {}).role, up := false, lastChange := 0, holdSince := 0 }
  | .warm => if 2 ≤ p then { x with up := false } else x
  | .parked => if 2 ≤ p then { x with up := false } else x

/-- A source keeps the condition it senses; its control, allotment, counts and held occurrences go (R473). -/
def Source.lost (k : Loss) (x : Source) : Source :=
  match k with
  | .parked => x
  | _ => { cond := x.cond, condDetail := x.condDetail }

/-- Queues, semaphores, maps, sessions: all that lies in the dies and in DRAM. -/
def State.loseDies (s : State) (k : Loss) : State :=
  let s := s.endRetirements
  let s := ((((((s.setQueues []).setSems []).setSemWait []).setPageMaps []).setTlb []).setKvMaps []).setKvTlb []
  let s := ((((s.setKvDirty []).setShared {}).setModMem []).setParts []).setSess []
  let s := ((s.setQueueZero []).setAdapters []).setAdapterLast []
  let s := ((s.setGrammars []).setEmitted []).setVideo (s.video.mapVals (fun _ e => { failed := e.failed, restarts := e.restarts, freeAt := s.now }))
  let s := s.setCores (s.cores.mapVals (fun _ c => c.lost k))
  let s := s.setDram (s.dram.mapVals (fun _ u => u.lost k))
  let (key, s) := (((s.setUpsets []).setSpadUpsets []).setEcc []).drawKey
  let s := s.setModKey key
  s.setPark { s.park with objects := s.park.objects.only (fun _ o => decide (o.region ≠ 1)) }

/-- Firmware, of which PARKED keeps the restart counts (R373), Rycia, network, events. -/
def State.loseFirmware (s : State) (k : Loss) : State :=
  let s := s.setFw { comps := if k = .parked then s.fw.comps.mapVals (fun _ c => { restarts := c.restarts }) else []
                     fwOffline := s.fw.fwOffline, appOffline := s.fw.appOffline, samplerDown := s.fw.samplerDown }
  let s := (s.setRyc {}).odSet 0x1100 0x0C 0
  let s := s.setNet { ports := (upto 6).map (fun p => (p, portLost k p (s.port p))) }
  let ev := s.ev
  match k with
  | .parked => s.setEv { ev with irq := ev.irq.only (fun c _ => decide (c < 16)) }
  | _ => s.setEv { src := ev.src.mapVals (fun _ x => x.lost k),
                   island := if k = .pwr then [] else ev.island,
                   islandLost := if k = .pwr then [] else ev.islandLost }

/-- The timebase and its servo (R449). The step of R447 is open again after PWR, MOD and PARKED; a WARM reset takes the
module out of TRAIN, and with it the step. -/
def State.loseTime (s : State) (k : Loss) : State :=
  if k.restartsTime then s.setTime { sub := if k = .pwr then 0 else s.time.sub }
  else s.setTime { s.time with mayStep := decide (k = .parked) || (s.time.mayStep && decide (s.mode = .boot)) }

/-- Time, wear windows, power, security. -/
def State.loseRest (s : State) (k : Loss) : State :=
  let s := s.loseTime k
  let s := s.setRel { s.rel with
    bundles := []
    lastWritten := if k.restartsTime then [] else s.rel.lastWritten
    charged24 := if k.restartsTime then [] else s.rel.charged24
    rateSec := if k.restartsTime then 0 else s.rel.rateSec
    rate := if k.restartsTime then [] else s.rel.rate }
  let s := s.setSec { s.sec with lowerTree := false, debugOpen := none, debugPoison := 0, debugRead := [],
                                 epoch := if k = .pwr then 1 else s.sec.epoch }
  let p := s.pow
  let p := { p with ramp := none, ballastW := 0, lost := false, lastFrame := some s.now, graceSince := 0, beforeLoss := none
                    trig := if k.restartsTime then p.trig.mapVals (fun i t =>
                      if t.asserted then { t with level := if i = 6 then 7 else 2, since := s.now } else {}) else p.trig
                    episodeSince := if k.restartsTime then none else p.episodeSince
                    lastDispatch := s.now }
  let s := s.setPow p
  let s := if k = .pwr then s.setPark { s.park with clock := s.park.savedClock } else s
  let s := s.setStore { s.store with answered := [] }
  s.setRst { s.rst with due := none, prepared := none, beat := 0, beatSince := s.now, merged := false }

/-- Everything a reset kind takes away; keys and sessions with it (R520, R577). -/
def State.lose (s : State) (k : Loss) : State :=
  let s := ((s.loseDies k).loseFirmware k).loseRest k
  let s := s.odDrop (fun _ r => k.drops r)
  let s := ((s.setIdle false).setEntry none).setWakeHeld false
  (s.setD2dFails (0, 0)).condition 0 26 false 0

/-! ### The pre-reset sample (R581, R582) -/

/-- Queue entry of 32 bytes. -/
def sampleQueue (q : Nat) (x : Queue) : Nat :=
  q + at' 32 x.head.toNat + at' 48 x.tail.toNat + at' 64 x.credits.toNat + at' 96 x.nextSeq.toNat + at' 128 x.doneSeq.toNat
    + at' 160 x.state.code + at' 168 x.cls.toNat + at' 176 x.faultCode.toNat + at' 184 x.part

/-- Messages that stand in the slots of a mailbox: inbound 0–31, outbound 32–63. -/
def sampleMbx (key : Nat) (m : Mbx) : AMap Nat :=
  (List.zipIdx (m.inb.take 32)).map (fun x => (64 * key + x.2, x.1.msg.toNat))
    ++ (List.zipIdx (m.outb.take 32)).map (fun x => (64 * key + 32 + x.2, x.1.toNat))

/-- The sample of R581; a scratchpad's lines are read as any read of them is (R118). -/
def State.takeSample (s : State) (cause : Nat) : State :=
  let bare := decide (s.odGet 0x2004 0x0C = 0)
  let off := s.odGet 0x2100 6
  let live := (upto 18).filter (fun n => decide ((s.core n).role ≠ .spare) && decide ((s.core n).role ≠ .retired))
  let s := if bare then s else (live.foldl (fun s n => s.settleSpad n off 4096) s).account
  let no := s.rst.sampleNo + 1
  let x : Sample := {
    no := no, time := s.now, cause := cause, omitted := bare, offset := off
    spads := if bare then [] else
      (live.map (fun n => (n, leNat ((s.core n).spad.read off 4096)))).filter (fun y => y.2 ≠ 0)
    queues := (s.queues.filter (fun y => decide (y.2.state ≠ .disabled))).map (fun y => sampleQueue y.1 y.2)
    mbx := s.fw.mbx.flatMap (fun y => sampleMbx y.1 y.2) }
  let s := (s.setRst { s.rst with sampleNo := no }).setRel (s.rel.keepSample x)
  (s.parkDraw x.bytes).odSet 0x2004 0x0D no

/-- Steps 1 and 2 of R584: dispatch stops, groups abort with reason 3, the sample is written. -/
def State.prepare (s : State) (cause : Nat) : State :=
  ((s.abortGroups 3 (fun _ => true)).takeSample cause)

/-! ### Platform slots (R605, R609, R610) -/

def Store.plat (t : Store) (b : Bool) : PlatState := if b then t.platB else t.platA
def Store.putPlat (t : Store) (b : Bool) (x : PlatState) : Store := if b then { t with platB := x } else { t with platA := x }
def Store.img (t : Store) (b : Bool) : Image := if b then t.imgB else t.imgA
def Store.run (t : Store) (b : Bool) : RunState := if b then t.runB else t.runA
def Store.putRun (t : Store) (b : Bool) (x : RunState) : Store := if b then { t with runB := x } else { t with runA := x }
def Store.runImg (t : Store) (b : Bool) : Image := if b then t.runImgB else t.runImgA

/-- The slot in a state, where one is. -/
def Store.platIn (t : Store) (x : PlatState) : Option Bool :=
  if t.platA = x then some false else if t.platB = x then some true else none
def Store.runIn (t : Store) (x : RunState) : Option Bool :=
  if t.runA = x then some false else if t.runB = x then some true else none

/-- The first failing check of R605 for an image, from what the report says of its signature and digests. -/
def imageCode (img : Image) (fuse reported : Nat) : Nat :=
  if img.form = 0x10 || reported = 0x10 then 0x10
  else if reported = 0x11 then 0x11
  else if img.counter < fuse then 0x12
  else if img.form = 0x13 || reported = 0x13 then 0x13
  else if reported = 0x14 then 0x14
  else 0

/-- An outcome of R605, with the park clock. -/
def State.imageResult (s : State) (c : Nat) : State :=
  ((s.odSet 0x2A10 0x0B c).odSet 0x2A10 0x0C s.park.clock).commit [9]

/-- Check a platform slot; an empty one fails its format. -/
def State.platCode (s : State) (r : StartReport) (b : Bool) : Nat :=
  if s.store.plat b = .empty then 0x10
  else imageCode (s.store.img b) s.sec.fusePlatform (if b then r.slotB else r.slotA)

/-- RECOVERY with a reason of OD 0x2A20.0E (R613). -/
def State.toRecovery (s : State) (reason : Nat) : State :=
  ((s.setRst { s.rst with running := none }).odSet 0x2A20 0x0E reason).enterMode .recovery

/-- The trial of the slot on trial fails: a start finds it (R610). -/
def State.failTrial (s : State) : State :=
  let t := s.store
  match t.platIn .trial with
  | some b =>
    let t := { t.putPlat b .failed with
      trialFailed := true, platSettings := t.platOlder.getD t.platSettings, platOlder := none }
    (s.setStore t).imageResult 0x20
  | none => s

/-- Boot a slot; a newer platform migrates its items (R615). -/
def State.bootSlot (s : State) (b : Bool) : State :=
  let t := { s.store with bootedB := b }
  let v := (t.img b).settings
  let t := if t.platSettings < v then { t with platOlder := some t.platSettings, platSettings := v } else t
  s.setStore t

/-- Put a pending or untried slot on trial, or reject it. -/
def State.tryTrial (s : State) (r : StartReport) (b : Bool) : Bool × State :=
  let c := s.platCode r b
  if c = 0 then (true, (s.setStore { s.store.putPlat b .trial with trialFailed := false }).bootSlot b)
  else (false, (s.setStore (s.store.putPlat b .rejected)).imageResult c)

/-- Boot the active slot, or the previous one where the active fails (R609). -/
def State.bootActive (s : State) (r : StartReport) : Bool × State :=
  let b := (s.store.platIn .active).getD false
  if s.store.plat b = .active && s.platCode r b = 0 then (true, s.bootSlot b)
  else
    let s := if s.store.plat b = .active then s.imageResult (s.platCode r b) else s
    if s.store.plat (!b) ≠ .previous then (false, s)
    else if s.platCode r (!b) = 0 then (true, s.bootSlot (!b))
    else (false, s.imageResult (s.platCode r (!b)))

/-- With no trial booted: RECOVERY where one failed, else the active slot. -/
def State.bootFallback (s : State) (r : StartReport) : Bool × State :=
  if s.store.trialFailed then (false, s.toRecovery 2)
  else
    let (ok, s) := s.bootActive r
    if ok then (true, s) else (false, s.toRecovery 1)

/-- Step 5 of R574: true with a booted slot; otherwise the state is RECOVERY. `failing` marks a trial that this reset
ended. -/
def State.activate (s : State) (r : StartReport) (failing : Bool) : Bool × State :=
  let s := if failing then s.failTrial else s
  let tried := match (s.store.platIn .trial).or (s.store.platIn .pending) with
    | some b => s.tryTrial r b
    | none => (false, s)
  if tried.1 then tried else tried.2.bootFallback r

/-! ### The runtime (R369, R370, R611, R612) -/

/-- Probation fails with a result of R605: the candidate is rejected (R612). -/
def State.failProbation (s : State) (c : Nat) : State :=
  let t := s.store
  match t.runIn .probation with
  | some b =>
    let t := { t.putRun b .rejected with probation := none, runSettings := t.runOlder.getD t.runSettings, runOlder := none }
    (((s.setStore t).odInc 0x2A20 0x10 1).odSet 0x2A20 0x0D 0).imageResult c
  | none => s

/-- REFUSED with a reason of R370; a bundle on probation fails it. -/
def State.refuse (s : State) (reason : Nat) : State :=
  let s := (s.setFw { s.fw with loadStep := 0 }).setRst { s.rst with running := none }
  let s := if s.odGet 0x2150 0x0B = 1 then s.odSet 0x2150 0x0B 3 else s
  ((s.odSet 0x2150 7 reason).enterMode .refused).failProbation 0x23

/-- Kernel and loader run on the online cores of both dies, with the digests of parts 0x03 and 0x04 of the booted image;
the entry names the first of a die's cores. -/
def State.startKernels (s : State) : State :=
  let digest := fun (p : Nat) => ((s.bootedImage.digests.find? (fun x => x.1 = p)).map (·.2)).getD 0
  [(0, 0), (0, 1), (1, 0), (1, 1)].foldl (fun s x =>
    let s := s.putComp x.1 x.2 { version := s.bootedImage.version, digest := digest (3 + x.2),
                                 core := (s.fwOnline x.1).headD 255 }
    s.setComp x.1 x.2 .running 0) s

/-- Steps 1 to 3 of R369: the slot to load, its checks, and the wait for HELLO. `reported` is a reason 0x05 to 0x07
of the loader, or 0. -/
def State.loadRuntime (s : State) (reported : Nat) : State :=
  let t := s.store
  let (b, fresh) := match t.runIn .candidate with
    | some b => (b, true)
    | none => match t.runIn .probation with
      | some b => (b, false)
      | none => ((t.runIn .current).getD false, false)
  let s := if fresh then (s.setStore { t.putRun b .probation with probation := some 0 }).odSet 0x2A20 0x0D 0 else s
  let s := s.setStore { s.store with loadedB := b }
  let img := t.runImg b
  let s := (((s.odSet 0x2150 5 img.digest).odSet 0x2150 6 img.text).odSet 0x2150 7 0)
  let s := (s.setFw { s.fw with loadStep := 4, helloEast := false, helloWest := false, loadSince := s.now }).setRst
    { s.rst with awaitSince := s.now }
  let s := s.enterMode .awaitRuntime
  if img.form = 0x10 || reported = 6 || img.counter < s.sec.fuseRuntime then s.refuse 6
  else if img.form = 0x13 || reported = 7 then s.refuse 7
  else if reported = 5 then s.refuse 5
  else s

/-- A die has lost its last firmware core (R361). -/
def State.fwLost (s : State) : Bool :=
  [0, 1, 2, 3].all (hasNat s.fw.fwOffline) || [4, 5, 6, 7].all (hasNat s.fw.fwOffline)

/-- OUT_OF_SERVICE with a reason of OD 0x2004.05 (R590). -/
def State.toOutOfService (s : State) (reason : Nat) : State :=
  ((s.setRst { s.rst with oos := true, oosReason := reason, running := none, due := none }).commit [4]).enterMode .outOfService

/-- Step 8 of R574: the runtime load, or OUT_OF_SERVICE where the flag is set or a condition of R76 or R361 remains. -/
def State.afterTrain (s : State) (r : StartReport) : State :=
  let s := s.startKernels
  if s.rst.oos then s.toOutOfService s.rst.oosReason
  else if s.secFailed then s.toOutOfService 2
  else if s.fwLost then s.toOutOfService 3
  else s.loadRuntime r.runtime

/-- Steps 6 and 7 of R574: the kernels start, then training. A start that hangs stays in TRAIN. -/
def State.trainAndLoad (s : State) (r : StartReport) (hard : Bool) : State :=
  let s := (s.enterMode .train).train r hard
  if r.reaches then s.afterTrain r else s.setRst { s.rst with trialSince := s.now }

/-! ### Starts -/

/-- Step 4 of R574: the hold-up bank (R42). -/
def State.measureHoldup (s : State) (r : StartReport) : State :=
  let s := s.setRel { s.rel with holdUf := r.holdUpUf, esrRatio := r.esrRatio }
  let s := s.force 1 (decide (r.holdUpUf < 2640))
  let s := if r.holdUpUf < 2640 then
      ((s.charge 14 0).failRecord 0 0x15 14 0 none 0 [(0, .num r.holdUpUf), (1, .num r.esrUohm)]).commit [2] else s
  s.wearLimitCheck 5 0

/-- The cold start of R574 from step 1, after the record and the loss: for PWR with the hold-up measurement. -/
def State.coldStart (s : State) (k : Loss) (r : StartReport) (failing : Bool) : State :=
  let s := ((s.enterMode .boot).setTray { s.tray with causes := [] }).condition 0 27 false 0
  let (found, s) := s.selectBank
  let s := s.setNoBoot (!(found && (r.eastOk || r.westOk)))
  if s.noBoot then s
  else
    let s := (s.setWestPrimary (!r.eastOk)).copyStopRecord
    let s := if k = .pwr then s.measureHoldup r else s
    let s := (upto 18).foldl (fun s n => s.wearLimitCheck 0 n) (s.setAgeing r.ageing)
    match s.activate r failing with
    | (true, s) => s.trainAndLoad r k.restartsTime
    | (false, s) => s

/-- Upgrade the newest record when PWR takes over from a reset that was recorded (R588). -/
def takeOver : List HistRec → List HistRec
  | [] => []
  | h :: hs => if hs.isEmpty then [{ h with kind := .pwr, merged := true }] else h :: takeOver hs

/-- A reset of the whole module is taken: its history record, with the cause of the one taken first where one was due
or running (R588, R589). -/
def State.takeReset (s : State) (kind : ResetKind) (cause : Nat) (h : HistRec) : State :=
  let (cause, merged) := match s.rst.due with
    | some c => (c, true)
    | none => (cause, false)
  let s := if s.rst.recorded && kind = .pwr && !s.rst.history.isEmpty then (s.setRst { s.rst with history := takeOver s.rst.history }).commit [4]
    else s.recordReset { h with kind := kind, cause := cause, merged := merged || s.rst.merged }
  s.setRst { s.rst with running := some (kind, cause), recorded := false }

/-- A PWR reset takes hold: record and loss (R573). -/
def State.pwrTake (s : State) (cause : Nat) : State :=
  let s := s.takeReset .pwr cause { clock := s.park.savedClock, time := 0, kind := .pwr, cause := cause, counted := false }
  (s.lose .pwr).enterMode .boot

/-- A PWR start (R29 step 6, R574). -/
def State.pwrStart (s : State) (cause : Nat) (r : StartReport) : State := (s.pwrTake cause).coldStart .pwr r false

/-- A MOD reset takes hold: job groups abort with reason 3 where the fabric runs (R433), then record and loss (R573,
R587). -/
def State.modTake (s : State) (cause : Nat) : State :=
  let s := if s.asleep then s else s.abortGroups 3 (fun _ => true)
  let s := s.takeReset .mod cause { clock := s.park.clock, time := s.now, kind := .mod, cause := cause, counted := false }
  (s.lose .mod).enterMode .boot

/-- A whole MOD reset. A trial that it ends fails (R610). -/
def State.modStart (s : State) (cause : Nat) (r : StartReport) : State :=
  (s.modTake cause).coldStart .mod r (s.store.platIn .trial).isSome

/-- A WARM reset may be taken: the dies run, and the module is not REFUSED (R371). -/
def State.warmOk (s : State) : Bool :=
  match s.mode with
  | .off | .standby | .parked | .recovery | .refused => false
  | _ => !s.noBoot && !s.tray.resetLow && s.tray.phase = .on

/-- A WARM reset (R584): the sample unless PREPARE_WARM took it, the record, the loss, then the start from the training
cache. -/
def State.warmStart (s : State) (cause : Nat) (r : StartReport) : State :=
  let cause := s.rst.due.getD cause
  let s := if s.rst.prepared.isSome then s else s.prepare cause
  let s := s.setRst { s.rst with due := none }
  let s := s.takeReset .warm cause {
    clock := s.park.clock, time := s.now, kind := .warm, cause := cause, counted := false, sampled := true
    fullTraining := !r.cacheValid, sample := s.rst.sampleNo }
  let s := (s.lose .warm).enterMode .boot
  let s := s.failProbation 0x22
  if (s.store.platIn .trial).isSome then (s.failTrial).toRecovery 2
  else if !r.platformOk then s.toRecovery 1
  else s.trainAndLoad r false

end Sys2Proof.Machine
end

