-- ==== Sys2Proof/Machine/Power.lean ====
section
/-!
DEFINITION. Power and heat (18 R549–R566): state requests, throttling, caps, load levelling, the stop sequence, the
loss of the controllers.
-/
namespace Sys2Proof.Machine

open Sys2Proof

/-! ### Throttling (R553–R555) -/

def trigIndex : Trigger → Nat
  | .inletHot => 0 | .outletSlope => 1 | .coolantSensor => 2 | .junctionWarm => 3 | .dramHot => 4 | .powerLimit => 5
  | .inputLow => 6

/-- The trigger's source (R554). -/
def trigSource : Trigger → Nat
  | .inletHot => 23 | .outletSlope => 24 | .coolantSensor => 22 | .junctionWarm => 31 | .dramHot => 32 | .powerLimit => 30
  | .inputLow => 18

/-- The interval of a rise, in counts; the input-low trigger takes its cap at once. -/
def trigInterval : Trigger → Nat
  | .junctionWarm => 100 * ms
  | .powerLimit => 10 * ms
  | .inputLow => 0
  | _ => 2 * second

def trigCap : Trigger → Nat
  | .dramHot => 5
  | .inputLow => 7
  | _ => 6

/-- ACTIVE partitions. -/
def State.activeParts (s : State) : List Nat := (upto 8).filter (fun p => decide ((s.part p).state = .active))

/-- Milliseconds of the timebase between two moments. -/
def msSince (now t : Nat) : Nat := (now - t) / ms

/-- What follows a change of the step in force from `old` (R555): source 28, the partitions' source k = 6 at the end of
a step and at the start of one, and the episode's counts. -/
def State.stepChanged (s : State) (old : Nat) : State :=
  let new := s.stepInForce
  if new = old then s
  else
    let s := s.raiseEast 28 (new + 16 * old)
    let parts := s.activeParts
    let s := if old = 0 then s else parts.foldl (fun s p => (s.condition 0 (48 + 8 * p + 6) false 0).raisePart 0 p 6 old) s
    let s := if new = 0 then s else parts.foldl (fun s p => s.condition 0 (48 + 8 * p + 6) true new) s
    let s := s.condition 0 33 (decide (new = 7)) s.tray.inputMv
    if old = 0 then
      parts.foldl (fun s p => s.odInc (wIx p 0) 0x0A 1)
        ((s.setPow { s.pow with episodeSince := some s.now }).odInc 0x2001 6 1)
    else if new = 0 then
      let n := msSince s.now (s.pow.episodeSince.getD s.now)
      parts.foldl (fun s p => s.odInc (wIx p 0) 0x0B n) ((s.setPow { s.pow with episodeSince := none }).odInc 0x2001 7 n)
    else s

/-- Change a trigger, and the step with it. -/
def State.setTrig (s : State) (t : Trigger) (x : Trig) : State :=
  let old := s.stepInForce
  (s.putTrig (trigIndex t) x).stepChanged old

/-- A trigger asserts: level 2, or 7 for the input (R554). -/
def State.trigAssert (s : State) (t : Trigger) (detail : Nat) : State :=
  let s := s.condition 0 (trigSource t) true detail
  let x := s.trig (trigIndex t)
  if x.asserted || s.mode = .off || s.asleep then s
  else s.setTrig t { level := Nat.max x.level (if t = .inputLow then 7 else 2), asserted := true, since := s.now }

/-- A record with cause 0x22 (R503): 1 inlet, 2 outlet, 3 slope. The dies are on. -/
def State.coolantRecord (s : State) (what : Nat) : State :=
  if s.asleep || s.mode = .off then s else s.failRecord 0 0x22 0 0 none 0 [(0, .num what)]

/-- A coolant sensor fault (R48): the sensor counts as 100 °C, and the trigger asserts (R554). -/
def State.coolantFault (s : State) (outlet : Bool) : State :=
  let t := s.tray
  let known := if outlet then t.outletFault else t.inletFault
  let s := s.setTray (if outlet then { t with outlet := 10000, outletFault := true }
    else { t with inlet := 10000, inletFault := true })
  (if known then s else s.coolantRecord (1 + b2n outlet)).trigAssert .coolantSensor (b2n outlet)

/-- DDR5 devices of the subchannel read above 95 °C (R184). -/
def State.dramOver (s : State) (n : Nat) : Bool := decide (n < 68) && decide (9500 < (s.sub n).temp)

/-- The trigger's condition is true. -/
def State.trigOn (s : State) (t : Trigger) (detail : Nat) : State :=
  match t with
  | .coolantSensor => s.coolantFault (decide (detail = 1))
  | .outletSlope => (if (s.trig 1).asserted then s else s.coolantRecord 3).trigAssert t detail
  | _ => s.trigAssert t detail

/-- A reading that no command carries: free among the `n` values from `lo` (log 134). -/
def State.drawReading (s : State) (lo : Int) (n : Nat) : Int × State :=
  let (k, s) := s.drawNat
  (lo + (k % n : Nat), s)

/-- A valid coolant reading lies within R48's range. -/
def State.freshReading (s : State) : Int × State := s.drawReading (-1000) 11001

/-- Valid coolant readings return: the sensors that were at fault read again (R48). -/
def State.coolantReads (s : State) : State :=
  let (a, s) := s.freshReading
  let (b, s) := s.freshReading
  let t := s.tray
  s.setTray { t with inlet := if t.inletFault then a else t.inlet, outlet := if t.outletFault then b else t.outlet
                     inletFault := false, outletFault := false }

/-- The inlet reads 48 °C or less again. -/
def State.inletCools (s : State) : State :=
  if s.tray.inlet ≤ 4800 then s
  else
    let (a, s) := s.drawReading (-1000) 5801
    s.setTray { s.tray with inlet := a }

/-- The input reads 41 V or more again. -/
def State.inputRises (s : State) : State :=
  let s := s.setTray { s.tray with inputFault := false }
  if 41000 ≤ s.tray.inputMv then s
  else
    let (a, s) := s.drawReading 41000 19001
    s.setTray { s.tray with inputMv := a.toNat }

/-- The draw reads under 95 % of its limit again. -/
def State.drawFalls (s : State) : State :=
  let limit := 950 * s.odGet 0x2001 5
  if s.pow.drawMw < limit then s
  else
    let (a, s) := s.drawReading 0 limit
    s.setPow { s.pow with drawMw := a.toNat }

/-- The junction of core n reads below 90 °C again. -/
def State.junctionCools (s : State) (n : Nat) : State :=
  if s.tray.junction.getD n 0 < 9000 then s
  else
    let (a, s) := s.drawReading 0 9000
    s.setTray { s.tray with junction := s.tray.junction.put n a }

/-- The devices of subchannel n read below 90 °C again; a change of the refresh rate is a command of its own. -/
def State.dramCools (s : State) (n : Nat) : State :=
  if (s.sub n).temp < 9000 then s
  else
    let (a, s) := s.drawReading 8501 499
    s.updSub n (fun u => { u with temp := a })

/-- The readings that a clear condition of R554 asks for. -/
def State.clearReading (s : State) (t : Trigger) : State :=
  match t with
  | .inletHot => s.inletCools
  | .outletSlope => s
  | .coolantSensor => s.coolantReads
  | .junctionWarm => (upto 18).foldl State.junctionCools s
  | .dramHot => (upto 68).foldl State.dramCools s
  | .powerLimit => s.drawFalls
  | .inputLow => s.inputRises

/-- A trigger's clear condition has held for its time. -/
def State.trigClear (s : State) (t : Trigger) : State :=
  let s := (s.condition 0 (trigSource t) false 0).clearReading t
  let x := s.trig (trigIndex t)
  if x.asserted then s.putTrig (trigIndex t) { x with asserted := false, since := s.now } else s

/-- One interval of an asserted trigger passes. -/
def State.levelRise (s : State) (t : Trigger) : State :=
  let x := s.trig (trigIndex t)
  if x.asserted && decide (x.level < (trigCap t)) && decide (x.since + (trigInterval t) ≤ s.now) && !s.asleep then
    s.setTrig t { x with level := x.level + 1, since := s.now }
  else s

/-- 10 s pass after a trigger has cleared. -/
def State.levelFall (s : State) (t : Trigger) : State :=
  let x := s.trig (trigIndex t)
  if !x.asserted && decide (0 < x.level) && decide (x.since + 10 * second ≤ s.now) && !s.asleep then
    s.setTrig t { x with level := x.level - 1, since := s.now }
  else s

/-- A positive F32 as a multiple of 2 to the power of −150. -/
def f32Scaled (v : Nat) : Nat := (2 ^ 23 + fld v 0 23) * 2 ^ fld v 23 8

/-- The outlet's mean slope over 5 s, in 0.01 K/s, is above the limit of OD 0x2001.01 (R554). -/
def State.slopeOver (s : State) (slope : Nat) : Bool := decide (100 * f32Scaled (s.odGet 0x2001 1) < slope * 2 ^ 150)

/-- The threshold of a trigger that the detail carries (R554): the inlet, the slope, the hottest core, the subchannel, the
draw, the input. -/
def State.trigHolds (s : State) (t : Trigger) (detail : Nat) : Bool :=
  match t with
  | .inletHot => decide (5000 < detail)
  | .powerLimit => decide (s.odGet 0x2001 5 < detail)
  | .inputLow => decide (detail < 40000)
  | .junctionWarm => decide (detail < 18)
  | .dramHot => s.dramOver detail
  | .outletSlope => s.slopeOver detail
  | .coolantSensor => true

/-- Note a 1 ms mean draw. -/
def State.noteDraw (s : State) (mw : Nat) : State :=
  s.setPow { s.pow with drawMw := mw
                        draws := (s.now, mw) :: s.pow.draws.filter (fun x => decide (s.now < x.1 + second)) }

/-- The hottest junction reads 95 °C or more; no command carries the reading (log 134). -/
def State.junctionWarms (s : State) (n : Nat) : State :=
  if 9500 ≤ s.tray.junction.getD n 0 then s
  else
    let (a, s) := s.drawReading 9500 1000
    s.setTray { s.tray with junction := s.tray.junction.put n a }

/-- Note the reading that a trigger's detail carries. -/
def State.noteReading (s : State) (t : Trigger) (detail : Nat) : State :=
  match t with
  | .inletHot => s.setTray { s.tray with inlet := detail }
  | .inputLow => s.setTray { s.tray with inputMv := detail }
  | .powerLimit => s.noteDraw (1000 * detail)
  | .junctionWarm => s.junctionWarms detail
  | .outletSlope | .coolantSensor | .dramHot => s

/-- The devices of a subchannel read a temperature: refresh follows it, at the fast rate above 85 °C, and above 95 °C the
trigger asserts (R184, R554). -/
def State.refreshRate (s : State) (n : Nat) (temp : Int) : State :=
  let s := s.updSub n (fun u => { u with temp := temp, fastRefresh := decide (8500 < temp) })
  if s.dramOver n then s.trigAssert .dramHot n else s

/-! ### Partition caps (R557, R558) -/

/-- Each millisecond: the ceiling and then the issue share of a partition over its cap fall; under 95 % of it they
rise every 10 ms. -/
def State.capAdjust (s : State) (p mw : Nat) : State :=
  let cap := 1000 * s.odGet (0x2010 + p) 1
  let x := s.part p
  if x.state ≠ .active || s.asleep then s
  else
    let s := s.putPart p { x with estimateMw := mw }
    let x := s.part p
    let policy := s.policyMhz
    let s :=
      if cap = 0 then s.putPart p { x with capCeiling := 1100, issueShare := 100 }
      else if cap < mw then
        let c := Nat.min x.capCeiling policy
        let s := if policy ≤ x.capCeiling then s.raiseEast 37 p else s
        if 600 < c then s.putPart p { x with capCeiling := Nat.max 600 (c - 25), lastCap := s.now }
        else s.putPart p { x with issueShare := Nat.max 50 (x.issueShare - 5), lastCap := s.now }
      else if 100 * mw < 95 * cap && x.lastCap + 10 * ms ≤ s.now then
        let c := x.capCeiling + 25
        s.putPart p { x with capCeiling := if policy ≤ c then 1100 else c, issueShare := Nat.min 100 (x.issueShare + 5)
                             lastCap := s.now }
      else s
    if (s.part p).capCeiling < policy then s.odInc (0x2010 + p) 3 1 else s

/-! ### Load levelling (R559–R561) -/

/-- The states in which load levelling runs: from READY (R568). -/
def State.levelling (s : State) : Bool := s.mode = .ready || s.mode = .serving || s.mode = .draining

/-- An in-service core has no descriptor in flight (R560). -/
def State.idleCore (s : State) : Bool :=
  (upto 18).any (fun n => decide ((s.core n).role = .inService) && !s.coreBusy n)

def State.setBallast (s : State) (w : Nat) : State :=
  (s.setPow { s.pow with ballastW := w }).condition 0 36 (decide (w ≠ 0)) w

/-- The draw that ballast holds up: the floor, and under a ramp rate what the rate allows to fall from the mean noted
before, in the milliseconds since (R560, R561). -/
def State.ballastTarget (s : State) : Nat :=
  let floor := 1000 * s.odGet 0x2002 1
  let rate := 1000 * s.odGet 0x2002 2
  match s.pow.draws with
  | (t, mw) :: _ => if rate = 0 then floor else Nat.max floor (mw - rate * Nat.max 1 (msSince s.now t))
  | [] => floor

/-- Ballast is added in units of 5 W until the draw reaches its target, and withdrawn down to the floor, at the ramp rate
where one is set (R560, R561). -/
def State.ballastAdjust (s : State) (mw : Nat) : State :=
  let target := s.ballastTarget
  let s := s.noteDraw mw
  let floor := 1000 * s.odGet 0x2002 1
  let rate := s.odGet 0x2002 2
  let b := s.pow.ballastW
  if !s.levelling || (floor = 0 && rate = 0) then (if b = 0 then s else s.setBallast 0)
  else if mw < target then (if s.idleCore then s.setBallast (b + 5 * ceilDiv (target - mw) 5000) else s)
  else
    let down := Nat.min b (5 * ((mw - floor) / 5000))
    s.setBallast (b - (if rate = 0 then down else Nat.min down rate))

/-- The ramp-hold ceiling (R561): set when the rate leaves no room, at a value the spec does not give (log 1), and raised
by 25 MHz where it does. -/
def State.rampAdjust (s : State) (mw room : Nat) : State :=
  let s := s.noteDraw mw
  let old := s.stepInForce
  let policy := s.policyMhz
  if s.odGet 0x2002 2 = 0 || !s.levelling then
    ((s.setPow { s.pow with ramp := none }).condition 0 29 false 0).stepChanged old
  else
    match s.pow.ramp with
    | some c =>
      if room = 0 then s
      else if policy ≤ c + 25 then ((s.setPow { s.pow with ramp := none }).condition 0 29 false 0).stepChanged old
      else s.setPow { s.pow with ramp := some (c + 25) }
    | none =>
      if room ≠ 0 then s
      else
        let (r, s) := s.drawNat
        let c := 600 + 25 * (r % Nat.max 1 ((policy - 600) / 25))
        ((s.setPow { s.pow with ramp := some c }).condition 0 29 true c).stepChanged old

/-! ### The stop sequence (R563–R565) -/

/-- The record's unit for a first cause (R503, R504). -/
def stopUnit (cause : Nat) (core : Nat) : Nat × Nat :=
  if cause = 0x18 then (16, 0) else if cause = 0x21 then (1, core) else (0, 0)

/-- The store record of a stop, complete: the causes, the failure record, the leaf, the park clock, the wear counts. -/
def State.stopRecord (s : State) (cause core : Nat) (detail : List (Nat × DVal)) (torn : List Nat) : State :=
  let (kind, unit) := stopUnit cause core
  let s := s.storeRecord [cause] kind unit 2 detail
  let s := s.setPark { s.park with savedClock := s.park.clock }
  let t := s.store
  let late := [2, 6, 7]
  (s.setStore { t with bankA := { t.bankA with stale := addItems t.bankA.stale late }
                       bankB := { t.bankB with stale := addItems t.bankB.stale late } }).psStop torn

/-- Step 4: the store record. A hold-up bank below its limit no longer guarantees that it completes (R42); a
thermal stop has the input. -/
def State.stopCommit (s : State) (cause core : Nat) (detail : List (Nat × DVal)) (k : Loss) (torn : List Nat) : State :=
  if k ≠ .parked && s.rel.holdUf < 2640 then
    let (complete, s) := s.drawBool
    if complete then s.stopRecord cause core detail torn else s.psTorn torn
  else s.stopRecord cause core detail torn

/-- Steps 2 to 5: groups abort, one record with the causes, the leaf, the park clock, the wear counts and the
retirement roles, then every key but the seed and the storage key goes with the dies. -/
def State.stopSequence (s : State) (cause core : Nat) (detail : List (Nat × DVal)) (k : Loss) (torn : List Nat) : State :=
  let s := (s.raiseEast 35 cause).odInc 0x2001 9 1
  let s := if s.asleep then s else s.abortGroups (if cause = 0x18 then 4 else 3) (fun _ => true)
  let s := s.endRetirements
  let s := s.stopCommit cause core detail k torn
  let s := s.setTray { s.tray with causes := [cause] }
  let due := s.rst.due
  let run := s.rst.running
  let s := s.lose k
  s.setRst { s.rst with due := due, recorded := s.rst.recorded || (run.isSome && !s.rst.history.isEmpty), running := none }

/-- A later cause is added to the list of the same record (R43), once. -/
def State.addCause (s : State) (cause : Nat) : State :=
  if s.tray.causes.isEmpty || s.tray.causes.contains cause then s
  else
    let s := s.setTray { s.tray with causes := s.tray.causes ++ [cause] }
    match s.rel.stopRecs.getLast? with
    | some r => if r.cause ≠ s.tray.causes.headD 0 || r.flags ≠ 2 then s else s.setRel { s.rel with stopRecs := s.rel.stopRecs.dropLast ++ [{ r with causes := r.causes ++ [cause] }] }
    | none => s

/-- The input is gone, and the islands with it. -/
def Tray.dark (t : Tray) : Tray := { t with phase := .unpowered, resetLow := false }

/-- A cause of R43 that ends with the input switch open: the sequence, or its cause added to the one that ran. `torn`
lists the items of a store record that is being written. -/
def State.stopOpen (s : State) (cause : Nat) (detail : List (Nat × DVal)) (why : OpenCause) (phase : TrayPhase)
    (torn : List Nat) : State :=
  let gone := fun (s : State) => if phase = .unpowered then s.setTray s.tray.dark else s
  match s.tray.phase with
  | .on | .softStart | .heldOff =>
    let s := s.stopSequence cause 0 detail .pwr torn
    gone ((s.setTray { s.tray with phase := phase, openCause := some why }).setMode .off)
  | .switchOpen => gone (s.addCause cause)
  | .waitPresence | .waitInlet => gone s
  | .unpowered => s.addCause cause

/-- A thermal stop (R556): the sequence, then PARKED with DRAM down. -/
def State.thermalStop (s : State) (core : Nat) (torn : List Nat) : State :=
  if s.mode = .off then s.addCause 0x21
  else if s.asleep then s
  else
    let s := (s.condition 0 27 true core).raiseEast 34 core
    let s := s.setTray { s.tray with junction := s.tray.junction.put core 10500 }
    let s := (s.odInc 0x2001 8 1).stopSequence 0x21 core [(0, .num core)] .parked torn
    let s := s.setTime { s.time with pps := .holdover }
    (s.setRst { s.rst with due := none, recorded := false }).enterMode .parked

/-! ### State requests (R551, R566) -/

/-- The target of a request's code. -/
def requestTarget (code : Nat) : Option Mode :=
  match code with
  | 7 => some .standby
  | 8 => some .parked
  | _ => none

/-- Begin step 1 of R551 towards a target; a module that is already DRAINING has been in step 1 since then. -/
def State.beginEntry (s : State) (target : Mode) (grace : Bool) (oos : Nat) (warm : Bool) : State :=
  let since := if s.mode = .draining then s.pow.stateSince else s.now
  let left := if s.mode = .draining then s.leftMode else s.mode
  let s := if s.entry.isNone then s.setWakeHeld false else s
  let s := (s.setLeftMode left).setEntry (some { target := target, step := 1, since := since
                                                 byGrace := grace, oos := oos, thenWarm := warm })
  s.enterMode .draining

/-- DRAINING, steps 1 and 2, and then OUT_OF_SERVICE (R76, R361) or a WARM reset (R612). -/
def State.drainFor (s : State) (oos : Nat) (warm : Bool) : State :=
  match s.mode with
  | .ready | .serving | .draining => s.beginEntry .draining false oos warm
  | _ => s

/-- An entry may be replaced: none runs, a plain drain runs, or the grace period's in step 1 (R566). -/
def State.entryFree (s : State) : Bool :=
  match s.entry with
  | none => true
  | some e => decide (e.step = 1) && decide (e.oos = 0) && !e.thenWarm && (e.target = .draining || e.byGrace)

/-- A request for a state code of R551: accepted or not. -/
def State.stateRequest (s : State) (code : Nat) : Bool × State :=
  match code with
  | 6 =>
    match s.mode with
    | .ready | .serving => (true, s.beginEntry .draining false 0 false)
    | _ => (false, s)
  | 4 =>
    match s.mode, s.entry with
    | .draining, some e =>
      if e.step = 1 && e.oos = 0 && !e.thenWarm && !s.pow.lost then
        (true, (s.setEntry none).enterMode (if s.anyActive then .serving else .ready))
      else (false, s)
    | _, _ => (false, s)
  | _ =>
    match requestTarget code, s.mode with
    | some t, .ready | some t, .serving | some t, .draining =>
      if s.entryFree then (true, s.beginEntry t false 0 false) else (false, s)
    | _, _ => (false, s)

/-- A state request from the entry 0x2000.02 or a STATE_REQUEST. The reply to a request for STANDBY or PARKED is due
before the entry completes (R373). -/
def State.stateCommand (s : State) (code : Nat) (src : CmdSrc) : State :=
  match src with
  | .mailbox m =>
    match s.receive m 0x30 with
    | (some x, s) =>
      let c := leNat (s.body x)
      if c ≠ code then s.answer x 0x89 []
      else
        let (ok, s) := s.stateRequest code
        if !ok then s.answer x 0x89 []
        else if code = 7 || code = 8 then s.keepRequest x false
        else s.answer x 0 []
    | (none, s) => s
  | _ =>
    if s.asleep then s
    else
      let (ok, s) := s.stateRequest code
      s.odSet 0x2000 2 (if !ok then 3 else if code = 7 || code = 8 then 1 else 2)

/-- The queues that a receive descriptor waits on complete it with 0x10 and no frame (R435). -/
def State.dropPosted (s : State) : State :=
  let qs := s.queueIds (fun _ x => x.jobs.any (fun j => decide (j.phase = .posted)))
  qs.foldl (fun s q =>
    let n := (s.queue q).jobs.length
    let s := s.updQueue q (fun x => { x with jobs := x.jobs.map (fun j =>
      if j.phase = .posted then { j with phase := .finished, status := 0x10 } else j) })
    State.completeAll n s q) s

/-- Step 1 ends, at any moment up to its bound (R621): every active queue is paused (R551 step 2). -/
def State.drainTimeout (s : State) : State :=
  match s.entry with
  | some e =>
    if e.step = 1 && (e.target ≠ .draining || e.oos ≠ 0 || e.thenWarm) then
      let s := s.setQueues (s.queues.mapVals (fun _ x => if x.state = .active then { x with state := .paused } else x))
      (s.setEntry (some { e with step := 2, since := s.now })).dropPosted
    else s
  | none => s

/-! ### IDLE (R550) -/

def State.idleEntry (s : State) : State :=
  if s.mode = .ready && !s.idle && s.odGet 0x2002 1 = 0 && s.pow.lastDispatch + ms * s.odGet 0x2003 3 ≤ s.now then s.setIdle true
  else s

/-! ### Loss of both controllers (R566) -/

/-- Bit of OD 0x1100.0C for a controller. -/
def presenceBit (secondary : Bool) : Nat := if secondary then 2 else 1

def State.controllerSeen (s : State) (secondary : Bool) : Option Nat :=
  if secondary then s.ryc.lastSecondary else s.ryc.lastPrimary

/-- The last valid frame of a controller session, or the timer's restart (R568). -/
def State.lastController (s : State) : Nat :=
  Nat.max (s.pow.lastFrame.getD 0) (Nat.max (s.ryc.lastPrimary.getD 0) (s.ryc.lastSecondary.getD 0))

/-- 2 s without a valid frame clear a controller's bit. -/
def State.presenceExpiry (s : State) (secondary : Bool) : State :=
  let v := s.odGet 0x1100 0x0C
  match s.controllerSeen secondary with
  | some t => if t + 2 * second ≤ s.now then s.odSet 0x1100 0x0C (v - fld v (presenceBit secondary - 1) 1 * presenceBit secondary) else s
  | none => s

/-- A valid frame of a session opened with the primary or secondary credential: the bit is set, and a loss ends (R566). -/
def State.controllerFrame (s : State) (secondary : Bool) : State :=
  let v := s.odGet 0x1100 0x0C
  let s := if s.asleep then s else s.setRyc (if secondary then { s.ryc with lastSecondary := some s.now } else { s.ryc with lastPrimary := some s.now })
  let s := s.odSet 0x1100 0x0C (setFld v (presenceBit secondary - 1) 1 1)
  if s.pow.lost && !s.asleep then
    let found := (s.setPow { s.pow with lost := false, beforeLoss := none }).condition 0 26 false 0
    match s.entry with
    | some e =>
      if !e.byGrace then found
      else if e.step = 1 then
        match s.pow.beforeLoss with
        | some .draining => found.setEntry (some { target := .draining, step := 1, since := e.since })
        | _ => (found.setEntry none).enterMode (if s.anyActive then .serving else .ready)
      else s
    | none => found
  else s

/-- 10 s after the last controller frame (R566 step 1). -/
def State.controllersLost (s : State) : State :=
  let last := s.lastController
  if s.mode = .off || s.asleep || s.pow.lost || s.odGet 0x1100 0x0C ≠ 0 || s.now < last + 10 * second then s
  else
    let s := s.setPow { s.pow with lost := true, graceSince := s.now, beforeLoss := some s.mode }
    (s.condition 0 26 true 0).failRecord 0 0x23 0 0 none 0 [(0, .num ((s.now - last) / second))]

/-- The grace period ends without a controller (R566 step 3). -/
def State.graceExpiry (s : State) : State :=
  if s.pow.lost && s.pow.graceSince + second * s.odGet 0x2003 1 ≤ s.now && s.levelling && s.entryFree then
    s.beginEntry .standby true 0 false
  else s

/-! ### The commands -/

/-- THROTTLE_TRIGGER_ASSERT -/
def execThrottleTriggerAssert (t : Trigger) (detail : BitVec 47) (s : State) : Host.Outcome State Fault Refusal :=
  .next (if s.trigHolds t detail.toNat then (s.noteReading t detail.toNat).trigOn t detail.toNat else s)
/-- THROTTLE_TRIGGER_CLEAR -/
def execThrottleTriggerClear (t : Trigger) (s : State) : Host.Outcome State Fault Refusal := .next (s.trigClear t)
/-- THROTTLE_LEVEL_RISE -/
def execThrottleLevelRise (t : Trigger) (s : State) : Host.Outcome State Fault Refusal := .next (s.levelRise t)
/-- THROTTLE_LEVEL_FALL -/
def execThrottleLevelFall (t : Trigger) (s : State) : Host.Outcome State Fault Refusal := .next (s.levelFall t)
/-- THERMAL_STOP -/
def execThermalStop (hot : HotCore) (s : State) : Host.Outcome State Fault Refusal :=
  .next (s.thermalStop hot.core.val hot.torn)
/-- REFRESH_RATE_CHANGE -/
def execRefreshRateChange (sub : SubId) (temp : Int) (s : State) : Host.Outcome State Fault Refusal :=
  .next (s.refreshRate sub.val temp)
/-- POWER_CAP_ADJUST -/
def execPowerCapAdjust (p : PartId) (estimateMw : Nat) (s : State) : Host.Outcome State Fault Refusal :=
  .next (s.capAdjust p.toNat estimateMw)
/-- BALLAST_ADJUST -/
def execBallastAdjust (drawMw : Nat) (s : State) : Host.Outcome State Fault Refusal := .next (s.ballastAdjust drawMw)
/-- RAMP_HOLD_ADJUST -/
def execRampHoldAdjust (drawMw : Nat) (roomMw : Nat) (s : State) : Host.Outcome State Fault Refusal :=
  .next (s.rampAdjust drawMw roomMw)
/-- DRAIN: code 0x06 -/
def execDrain (src : CmdSrc) (s : State) : Host.Outcome State Fault Refusal := .next (s.stateCommand 6 src)
/-- DRAIN_END: code 0x04 -/
def execDrainEnd (src : CmdSrc) (s : State) : Host.Outcome State Fault Refusal := .next (s.stateCommand 4 src)
/-- STANDBY_REQUEST: code 0x07 -/
def execStandbyRequest (src : CmdSrc) (s : State) : Host.Outcome State Fault Refusal := .next (s.stateCommand 7 src)
/-- PARKED_REQUEST: code 0x08 -/
def execParkedRequest (src : CmdSrc) (s : State) : Host.Outcome State Fault Refusal := .next (s.stateCommand 8 src)
/-- DRAIN_TIMEOUT -/
def execDrainTimeout (s : State) : Host.Outcome State Fault Refusal := .next s.drainTimeout
/-- IDLE_ENTRY -/
def execIdleEntry (s : State) : Host.Outcome State Fault Refusal := .next s.idleEntry
/-- CONTROLLER_PRESENCE_EXPIRY -/
def execControllerPresenceExpiry (secondary : Bool) (s : State) : Host.Outcome State Fault Refusal :=
  .next (s.presenceExpiry secondary)
/-- CONTROLLERS_LOST -/
def execControllersLost (s : State) : Host.Outcome State Fault Refusal := .next s.controllersLost
/-- GRACE_PERIOD_EXPIRY -/
def execGracePeriodExpiry (s : State) : Host.Outcome State Fault Refusal := .next s.graceExpiry

end Sys2Proof.Machine
end

