-- ==== Sys2Proof/Machine/Tray.lean ====
section
/-!
DEFINITION. The module in its tray (01): mating, presence, the input switch, the tray reset, the sensors of the
board inputs, and the status lines.
-/
namespace Sys2Proof.Machine

open Sys2Proof

def State.setPhase (s : State) (x : TrayPhase) : State := s.setTray { s.tray with phase := x }

/-! ### Status lines (R38, R39) -/

/-- mod_busy_n is driven low. A stop sequence is one step of the model, and ends with the line released. -/
def State.modBusy (s : State) : Bool :=
  !s.noBoot && decide (s.tray.phase ≠ .heldOff) &&
    (match s.mode with
     | .boot | .train | .awaitRuntime | .ready | .serving | .draining | .standby => true
     | _ => false)

/-- mod_fault_n is driven low. -/
def State.modFault (s : State) : Bool :=
  !s.noBoot && (match s.mode with
    | .outOfService | .recovery | .refused => true
    | _ => false)

/-! ### Insertion (R29–R31, R47) -/

/-- Step 1 of R29: the islands come out of power-on reset and see the lines anew. The lock of an overcurrent opening
stays (R26). -/
def State.bladesMate (s : State) (mv : Nat) : State :=
  if s.tray.phase = .unpowered && 28000 ≤ mv then
    s.setTray { s.tray with
      phase := .waitPresence, inputMv := mv, connectorRecorded := false, present1 := false, present2 := false
      resetLow := false, heldRecorded := false, causes := [] }
  else s

/-- The switch may close as far as the input goes: it lies between 40 V and 60 V (R29), after an overvoltage opening
that still stands between 40 V and 59 V, and after an overcurrent opening it has first been below 20 V (R26). -/
def Tray.inputGood (t : Tray) (mv : Nat) : Bool :=
  decide (40000 ≤ mv) && decide (t.openCause ≠ some .overcurrent) &&
    decide (mv ≤ if t.phase = .switchOpen && t.openCause = some .overvoltage then 59000 else 60000)

/-- Both presence pins read low (R30). -/
def Tray.present (t : Tray) : Bool := t.present1 && t.present2

/-- Where step 5 of R29 leads: soft start, or the wait of R47 for an inlet of 2 °C. -/
def Tray.closing (t : Tray) : TrayPhase := if t.inlet < 200 then .waitInlet else .softStart

/-- Step 4 of R29 counts: at insertion, or with a pin open while the switch is open. -/
def Tray.waitsPresence (t : Tray) : Bool := t.phase = .waitPresence || (t.phase = .switchOpen && !t.present)

/-- Step 4 of R29 is met. After an insertion or a withdrawal step 5 follows where the input is good (R29, R33); an
opening of R26 or R563 waits for its own condition. -/
def State.presenceMet (s : State) (mv : Nat) (inlet : Int) : State :=
  let t := { s.tray with present1 := true, present2 := true, inputMv := mv, inlet := inlet }
  if s.tray.waitsPresence then
    s.setTray (if t.phase = .waitPresence || t.openCause = some .withdrawn then
      { t with phase := if t.inputGood mv then t.closing else .waitPresence } else t)
  else s

/-- The inlet has risen to 2 °C. -/
def State.inletRises (s : State) (inlet : Int) : State :=
  if s.tray.phase = .waitInlet && 200 ≤ inlet then s.setTray { s.tray with phase := .softStart, inlet := inlet } else s

/-- Step 6 of R29: the PWR reset is released, or held in reset while tray_reset_n is low (R34). -/
def State.softStartDone (s : State) (r : StartReport) : State :=
  if s.tray.phase = .softStart then
    let cause := if s.tray.openCause.isSome then 2 else 1
    let s := s.setTray { s.tray with phase := .on, openCause := none, causes := [] }
    if s.tray.resetLow then s.pwrTake cause else s.pwrStart cause r
  else s

/-- R31: one record with the pins seen low, and the module goes on waiting. -/
def State.presenceLate (s : State) (pins : Nat) : State :=
  if s.tray.phase = .waitPresence && !s.tray.connectorRecorded then
    ((s.setTray { s.tray with connectorRecorded := true }).storeRecord [0x16] 16 0 0 [(0, .num pins)]).commit [11]
  else s

/-! ### Breaks and stops (R26, R30–R33, R43, R563) -/

/-- Detail of the causes 0x18, 0x19 and 0x1B: the input and the time to commit. -/
def inputDetail (mv us : Nat) : List (Nat × DVal) := [(0, .num mv), (1, .num us)]

/-- A presence break: source 20 and the withdrawal sequence; before step 5 the module only waits again. -/
def State.presenceBreak (s : State) (pins mv us : Nat) (torn : List Nat) : State :=
  let t := { s.tray with
    present1 := s.tray.present1 && !bitOf pins 0, present2 := s.tray.present2 && !bitOf pins 1 }
  if pins = 0 then s
  else match s.tray.phase with
    | .on | .softStart | .heldOff =>
      ((s.setTray t).raiseEast 20 pins).stopOpen 0x18 (inputDetail mv us) .withdrawn .switchOpen torn
    | .switchOpen | .unpowered => (s.setTray t).stopOpen 0x18 (inputDetail mv us) .withdrawn .switchOpen torn
    | .waitPresence | .waitInlet => s.setTray { t with phase := .waitPresence }

/-- The switch opens on overvoltage (R26). -/
def State.overvoltage (s : State) (mv us : Nat) (torn : List Nat) : State :=
  if 61000 < mv && 50 ≤ us then
    (s.setTray { s.tray with inputMv := mv }).stopOpen 0x1A [(0, .num 1)] .overvoltage .switchOpen torn
  else s

/-- The switch opens on overcurrent (R26). -/
def State.overcurrent (s : State) (ma us : Nat) (torn : List Nat) : State :=
  if 40000 < ma || (22000 < ma && 100 ≤ us) then
    (s.setTray { s.tray with inputMa := ma }).stopOpen 0x1A [(0, .num 2)] .overcurrent .switchOpen torn
  else s

/-- A loss of the input: the islands go with it. -/
def State.inputLoss (s : State) (mv us : Nat) (torn : List Nat) : State :=
  (s.setTray { s.tray with inputMv := mv }).stopOpen 0x1B (inputDetail mv us) .inputLost .unpowered torn

/-- The mean below 36 V (R26, R563). -/
def State.below36 (s : State) (mv us : Nat) (torn : List Nat) : State :=
  if mv < 36000 then
    let s := s.setTray { s.tray with inputMv := mv }
    (if s.mode = .off then s else s.condition 0 19 true mv).stopOpen 0x19 (inputDetail mv us) .inputLow .switchOpen torn
  else s

/-- The mean below 40 V (R26, R554). -/
def State.below40 (s : State) (mv : Nat) : State :=
  if mv < 40000 && decide (s.mode ≠ .off) then (s.setTray { s.tray with inputMv := mv }).trigAssert .inputLow mv else s

/-- An input sensor fault: the module sheds as below 40 V, and the source reports it (R48). -/
def State.inputFault (s : State) : State :=
  if s.mode = .off then s
  else (s.setTray { s.tray with inputFault := true }).trigAssert .inputLow s.tray.inputMv

/-- The condition under which an open switch closes again has held (R26): after an overcurrent opening the input has
been below 20 V, which ends the lock and leaves the islands without power; otherwise the input is good and both pins
read low, and step 5 of R29 follows. -/
def State.reclose (s : State) (mv : Nat) : State :=
  let t := s.tray
  if t.openCause = some .overcurrent then
    if mv < 20000 then s.setTray { t with phase := .unpowered, inputMv := mv, openCause := some .inputLost, resetLow := false }
    else s
  else if (t.phase = .switchOpen || t.phase = .waitPresence) && t.present && t.inputGood mv then
    (s.setTray { t with phase := t.closing, inputMv := mv }).condition 0 19 false 0
  else s

/-! ### tray_reset_n (R34, R35) -/

/-- The line is taken low: a MOD reset where power is up. Chamois watches the line in every state, so a start that comes
later is held while it stays low. A stop sequence, during which the line is ignored (R32), is one step. -/
def State.trayResetAssert (s : State) : State :=
  if s.tray.resetLow || s.tray.phase = .unpowered then s
  else
    let low := fun (s : State) => s.setTray { s.tray with resetLow := true, heldRecorded := false }
    if s.tray.phase = .on then (low (s.raiseEast 21 0)).modTake 3 else low s

/-- The tables' column of the reset that the line holds: PWR where it was taken at the end of a soft start. -/
def State.heldLoss (s : State) : Loss :=
  match s.rst.running with
  | some (.pwr, _) => .pwr
  | _ => .mod

/-- The line reads high: the module leaves the reset. -/
def State.trayResetRelease (s : State) (r : StartReport) : State :=
  if !s.tray.resetLow then s
  else
    let held := s.tray.phase = .on || s.tray.phase = .heldOff
    let s := s.setTray { s.tray with resetLow := false, phase := if held then .on else s.tray.phase }
    if held then s.coldStart s.heldLoss r (s.store.platIn .trial).isSome else s

/-- 30 s: the switch opens, only the islands run, one record is written. -/
def State.trayResetHeld (s : State) : State :=
  if s.tray.resetLow && !s.tray.heldRecorded then
    let s := s.setTray { s.tray with heldRecorded := true, phase := if s.tray.phase = .on then .heldOff else s.tray.phase }
    (s.storeRecord [0x17] 16 0 0 []).commit [11]
  else s

/-! ### The commands -/

/-- POWER_BLADES_MATE -/
def execPowerBladesMate (mv : Nat) (s : State) : Host.Outcome State Fault Refusal := .next (s.bladesMate mv)
/-- PRESENCE_FILTER_EXPIRY -/
def execPresenceFilterExpiry (mv : Nat) (inlet : Int) (s : State) : Host.Outcome State Fault Refusal :=
  .next (s.presenceMet mv inlet)
/-- SOFT_START_COMPLETE -/
def execSoftStartComplete (r : StartReport) (s : State) : Host.Outcome State Fault Refusal := .next (s.softStartDone r)
/-- PRESENCE_TIMEOUT -/
def execPresenceTimeout (pins : BitVec 2) (s : State) : Host.Outcome State Fault Refusal := .next (s.presenceLate pins.toNat)
/-- PRESENCE_BREAK -/
def execPresenceBreak (pins : BitVec 2) (mv : Nat) (stop : StopReport) (s : State) : Host.Outcome State Fault Refusal :=
  .next (s.presenceBreak pins.toNat mv stop.us stop.torn)
/-- TRAY_RESET_ASSERT -/
def execTrayResetAssert (s : State) : Host.Outcome State Fault Refusal := .next s.trayResetAssert
/-- TRAY_RESET_RELEASE -/
def execTrayResetRelease (r : StartReport) (s : State) : Host.Outcome State Fault Refusal := .next (s.trayResetRelease r)
/-- TRAY_RESET_HELD_TIMEOUT -/
def execTrayResetHeldTimeout (s : State) : Host.Outcome State Fault Refusal := .next s.trayResetHeld
/-- INPUT_OVERVOLTAGE -/
def execInputOvervoltage (mv : Nat) (stop : StopReport) (s : State) : Host.Outcome State Fault Refusal :=
  .next (s.overvoltage mv stop.us stop.torn)
/-- INPUT_OVERCURRENT -/
def execInputOvercurrent (ma : Nat) (stop : StopReport) (s : State) : Host.Outcome State Fault Refusal :=
  .next (s.overcurrent ma stop.us stop.torn)
/-- INPUT_SWITCH_RECLOSE -/
def execInputSwitchReclose (mv : Nat) (s : State) : Host.Outcome State Fault Refusal := .next (s.reclose mv)
/-- INPUT_LOSS -/
def execInputLoss (mv : Nat) (stop : StopReport) (s : State) : Host.Outcome State Fault Refusal :=
  .next (s.inputLoss mv stop.us stop.torn)
/-- INPUT_BELOW_40V -/
def execInputBelow40V (mv : Nat) (s : State) : Host.Outcome State Fault Refusal := .next (s.below40 mv)
/-- INPUT_BELOW_36V -/
def execInputBelow36V (mv : Nat) (stop : StopReport) (s : State) : Host.Outcome State Fault Refusal :=
  .next (s.below36 mv stop.us stop.torn)
/-- INPUT_SENSOR_FAULT -/
def execInputSensorFault (s : State) : Host.Outcome State Fault Refusal := .next s.inputFault
/-- COOLANT_SENSOR_FAULT -/
def execCoolantSensorFault (outlet : Bool) (s : State) : Host.Outcome State Fault Refusal := .next (s.coolantFault outlet)
/-- INLET_WARMED -/
def execInletWarmed (inlet : Int) (s : State) : Host.Outcome State Fault Refusal := .next (s.inletRises inlet)

end Sys2Proof.Machine
end

