-- ==== Sys2Proof/Machine/Recovery.lean ====
section
/-!
DEFINITION. Reset commands, the watchdog and the return to service (19 R573–R591); staging, slots and probation
(20 R606–R614).
-/
namespace Sys2Proof.Machine

open Sys2Proof

/-! ### Reset commands (R573, R593) -/

/-- The whole module can be reset by a command: its dies or its recovery firmware run. -/
def State.modOk (s : State) : Bool :=
  s.mode ≠ .off && !s.asleep && !s.noBoot && !s.tray.resetLow && s.tray.phase = .on

/-- The write of 0x2004.09: MOD with cause 0x04. -/
def State.modReset (s : State) (r : StartReport) : State := if s.modOk then s.modStart 4 r else s

/-- A WARM reset that is due, or one ordered by the entry or the driver (4), after a hang (6) or by the panic handler
of an application core (7), which raises source 2. -/
def State.warmReset (s : State) (cause : Nat) (r : StartReport) : State :=
  if s.warmOk && (s.rst.due.isSome || cause = 4 || cause = 6 || cause = 7) then
    let s := if cause = 7 then s.raiseEast 2 ((s.fw.lastFault.map (·.1)).getD 0) else s
    s.warmStart cause r
  else s

/-- R576: 10 s in AWAIT_RUNTIME. A bundle on probation fails it. -/
def State.loadOverrun (s : State) (r : StartReport) : State :=
  if s.mode = .awaitRuntime && s.rst.awaitSince + 10 * second ≤ s.now && s.warmOk then
    (((s.setRst { s.rst with running := none }).failProbation 0x24)).warmStart 9 r
  else s

/-- R591. -/
def State.returnToService (s : State) (r : StartReport) : State :=
  if s.mode = .outOfService && s.modOk then
    let s := s.setRst { s.rst with
      oos := false, oosReason := 0, history := s.rst.history.map (fun h => { h with cleared := true }) }
    (s.commit [4]).modStart 5 r
  else s

/-! ### The watchdog (R578–R580, R583) -/

/-- Steps 1 and 2 of R584, ahead of the WARM reset. -/
def State.prepareOnce (s : State) : State :=
  if s.rst.prepared.isSome then s else let s := s.prepare 6; s.setRst { s.rst with prepared := some s.now }

/-- One read of the heartbeat by the driver: 2 s of one value declare a hang. -/
def State.heartbeatCheck (s : State) : State :=
  match s.mode with
  | .ready | .serving | .draining =>
    let v := s.odGet 0x2000 8
    if v ≠ s.rst.beat then s.setRst { s.rst with beat := v, beatSince := s.now }
    else if s.rst.beatSince + 2 * second ≤ s.now then s.prepareOnce.orderWarm 6
    else s
  | _ => s

/-- No WARM reset within 1 s of the reply to PREPARE_WARM. -/
def State.prepareTimeout (s : State) (r : StartReport) : State :=
  match s.rst.prepared with
  | some t => if t + second ≤ s.now && s.warmOk then s.warmStart 6 r else s
  | none => s

/-! ### Staging (R606–R608) -/

/-- stage_kind, stage_bytes, stage_state and chunks_total of OD 0x2A10. -/
def State.stageKind (s : State) : Nat := s.odGet 0x2A10 2
def State.stageBytes (s : State) : Nat := s.odGet 0x2A10 3
def State.stageState (s : State) : Nat := s.odGet 0x2A10 5
def State.chunksTotal (s : State) : Nat := s.odGet 0x2A10 7

/-- The staged sizes that R608 accepts. -/
def State.stageSizeOk (s : State) : Bool :=
  decide (4096 ≤ s.stageBytes) && decide (s.stageBytes ≤ if s.stageKind = 1 then 268435456 else 1073741824)

/-- Open staging: the abort code of the write, 0 where it is taken. -/
def State.stageOpen (s : State) : Nat × State :=
  if s.stageState ≠ 0 then (0x0401, s.odSet 0x2A10 4 3)
  else if !s.stageSizeOk then (0x0302, s.odSet 0x2A10 4 3)
  else
    let s := s.setStore { s.store with chunks := [], answered := [] }
    (0, (((s.odSet 0x2A10 7 (ceilDiv s.stageBytes 65536)).odSet 0x2A10 5 1).odSet 0x2A10 4 2).commit [9])

/-- Empty staging. -/
def State.stageEmpty (s : State) : State :=
  ((s.setStore { s.store with chunks := [], answered := [] }).odSet 0x2A10 7 0).odSet 0x2A10 5 0

def State.stageDiscard (s : State) : State := (s.stageEmpty.imageResult 0x30).odSet 0x2A10 4 2

/-- Bytes of chunk i of the staged image. -/
def State.chunkLen (s : State) (i : Nat) : Nat :=
  if i + 1 = s.chunksTotal then s.stageBytes - 65536 * i else 65536

/-- A chunk write (R607): its abort code, and the chunk as answered. -/
def State.chunkWrite (s : State) (bs : List Byte) : Nat × State :=
  let i := leNat (bs.take 4)
  if s.stageState ≠ 1 then (0x0401, s)
  else if s.chunksTotal ≤ i then (0x0302, s)
  else if bs.length ≠ 4 + s.chunkLen i then (0x0301, s)
  else (0, s.setStore { s.store with answered := s.store.answered.put i (leNat (bs.drop 4)) })

/-- An answered chunk is durable; with the last one the image is complete. -/
def State.chunkDurable (s : State) (i : Nat) : State :=
  match s.store.answered.find i with
  | some v =>
    let s := (s.setStore { s.store with answered := s.store.answered.del i, chunks := s.store.chunks.put i v }).parkDraw (s.chunkLen i)
    if s.store.chunks.length = s.chunksTotal then (s.odSet 0x2A10 5 2).commit [9] else s
  | none => s

/-! ### The manifest (R602–R605) -/

/-- Part types of an image kind (R603). -/
def partTypes (kind : Nat) : List Nat :=
  if kind = 1 then [1, 2, 3, 4, 5, 6] else [0x10, 0x11] ++ (upto 10).map (· + 0x22)

/-- A part entry: type, interface version, offset, length, digest. -/
def partEntry (m : List Byte) (i : Nat) : Nat × Nat × Nat × Nat × Nat :=
  let e := leNat ((m.drop (64 + 56 * i)).take 56)
  (fld e 0 16, fld e 16 16, fld e 64 64, fld e 128 64, fld e 192 256)

/-- Two extents meet. -/
def meets (a b : Nat × Nat) : Bool := decide (0 < a.2) && decide (0 < b.2) && decide (a.1 < b.1 + b.2) && decide (b.1 < a.1 + a.2)

def anyPair {α : Type} (p : α → α → Bool) : List α → Bool
  | [] => false
  | x :: xs => xs.any (p x) || anyPair p xs

/-- The checks of R605 on the form of a manifest: 0x10, 0x13 or 0. -/
def manifestForm (m : List Byte) (kind : Nat) : Nat :=
  let h := leNat (m.take 64)
  let n := fld h 56 8
  let ps := (upto n).map (partEntry m)
  let types := partTypes kind
  if fld h 0 32 ≠ 0x464D5053 || fld h 32 16 ≠ 1 || fld h 48 8 ≠ kind || n = 0 || 32 < n
      || n ≠ types.length || !types.all (fun t => ps.any (fun p => p.1 = t))
      || ps.any (fun p => p.2.2.1 % 4096 ≠ 0 || p.2.2.1 < 64 + 56 * n + 3284) then 0x10
  else if ps.any (fun p => decide (fld h 64 32 < p.2.2.1 + p.2.2.2.1))
      || anyPair (fun a b => meets (a.2.2.1, a.2.2.2.1) (b.2.2.1, b.2.2.2.1)) ps then 0x13
  else 0

/-- What a slot keeps of an image whose first bytes are `m`. -/
def imageOf (m : List Byte) (kind : Nat) : Image :=
  let h := leNat (m.take 64)
  let n := Nat.min 32 (fld h 56 8)
  let ps := (upto n).map (partEntry m)
  { kind := kind, version := fld h 96 32, text := fld h 256 256, counter := fld h 128 8, settings := fld h 144 16
    digest := (Config.sha256 (m.take (64 + 56 * n + 3284))).toNat
    parts := ps.map (fun p => (p.1, p.2.1)), digests := ps.map (fun p => (p.1, p.2.2.2.2)), form := manifestForm m kind }

/-- The first chunk of the staged image, which holds its manifest. -/
def State.stagedHead (s : State) : List Byte := leBytes (s.chunkLen 0) (s.store.chunks.getD 0 0)

/-! ### Arming (R608, R614) -/

def Store.putImg (t : Store) (b : Bool) (x : Image) : Store := if b then { t with imgB := x } else { t with imgA := x }
def Store.putRunImg (t : Store) (b : Bool) (x : Image) : Store :=
  if b then { t with runImgB := x } else { t with runImgA := x }

/-- Arm: accepted while staging is complete and neither a trial nor a probation runs. The image goes into the slot that
does not hold the active platform, or the current runtime. -/
def State.armOk (s : State) : Bool :=
  decide (s.stageState = 2) && (s.store.platIn .trial).isNone && (s.store.runIn .probation).isNone

def State.arm (s : State) : State :=
  let img := imageOf s.stagedHead s.stageKind
  let t := s.store
  let t :=
    if s.stageKind = 1 then
      let b := !((t.platIn .active).getD true)
      (t.putImg b img).putPlat b .pending
    else
      let b := !((t.runIn .current).getD true)
      (t.putRunImg b img).putRun b .candidate
  (((s.setStore t).stageEmpty).odSet 0x2A10 4 2).commit [9]

/-- The write of 3 to stage_control; in RECOVERY a platform image is tried by a MOD start at once. -/
def State.stageArm (s : State) (r : StartReport) : Nat × State :=
  if s.armOk then
    let platform := decide (s.stageKind = 1)
    let s := s.arm
    (0, if s.mode = .recovery && platform then s.modStart 4 r else s)
  else (0x0401, s.odSet 0x2A10 4 3)

/-- The slot that USE_PREVIOUS marks: not the failed or rejected one; with neither, not the active one. -/
def Store.otherSlot (t : Store) : Bool :=
  let bad := fun (b : Bool) => decide (t.plat b = .failed) || decide (t.plat b = .rejected)
  if bad true then false else if bad false then true else !((t.platIn .active).getD true)

/-- The write of 1 to 0x2A20.0F (R614). An empty slot fails the format check. -/
def State.usePrevious (s : State) (r : StartReport) : Nat × State :=
  if s.mode = .recovery then
    let b := s.store.otherSlot
    let t := if s.store.plat b = .empty then s.store.putImg b { s.store.img b with form := 0x10 } else s.store
    (0, (s.setStore (t.putPlat b .pending)).modStart 4 r)
  else (0x0401, s.odSet 0x2A20 0x0F 3)

/-! ### Trial and probation (R610–R612) -/

/-- A start whose slot is on trial has not reached AWAIT_RUNTIME within 10 s of step 6. -/
def State.trialTimeout (s : State) : State :=
  match s.mode with
  | .boot | .train =>
    if (s.store.platIn .trial).isSome && s.rst.trialSince + 10 * second ≤ s.now then s.failTrial.toRecovery 2 else s
  | _ => s

/-- The end of the probation window. -/
def State.probationEnd (s : State) : State :=
  match s.store.probation, s.store.runIn .probation with
  | some n, some b =>
    if n < s.odGet 0x2A20 0x0B then s
    else if s.odGet 0x2A20 0x0D = 1 then
      let t := s.store
      let t := if t.run (!b) = .current then t.putRun (!b) .previous else t
      let t := { t.putRun b .current with probation := none, runOlder := none }
      let s := (s.setStore t).setSec { s.sec with fuseRuntime := Nat.max s.sec.fuseRuntime (t.runImg b).counter }
      s.imageResult 2
    else (s.failProbation 0x21).drainFor 0 true
  | _, _ => s

/-! ### The commands -/

/-- MOD_RESET: the entry 0x2004.09. -/
def execModReset (src : CmdSrc) (r : StartReport) (s : State) : Host.Outcome State Fault Refusal :=
  match src with
  | .entry => .next (s.modReset r)
  | .mailbox _ | .module => .next s
/-- WARM_RESET -/
def execWarmReset (cause : Nat) (r : StartReport) (s : State) : Host.Outcome State Fault Refusal := .next (s.warmReset cause r)
/-- RUNTIME_LOAD_OVERRUN -/
def execRuntimeLoadOverrun (r : StartReport) (s : State) : Host.Outcome State Fault Refusal := .next (s.loadOverrun r)
/-- HEARTBEAT_CHECK -/
def execHeartbeatCheck (s : State) : Host.Outcome State Fault Refusal := .next s.heartbeatCheck
/-- PREPARE_WARM -/
def execPrepareWarm (m : MbxSrc) (s : State) : Host.Outcome State Fault Refusal :=
  match s.receive m 0x31 with
  | (some x, s) => .next (s.prepareOnce.answer x 0 [])
  | (none, s) => .next s
/-- PREPARE_WARM_TIMEOUT -/
def execPrepareWarmTimeout (r : StartReport) (s : State) : Host.Outcome State Fault Refusal := .next (s.prepareTimeout r)
/-- RETURN_TO_SERVICE -/
def execReturnToService (r : StartReport) (s : State) : Host.Outcome State Fault Refusal := .next (s.returnToService r)
/-- STAGE_OPEN -/
def execStageOpen (s : State) : Host.Outcome State Fault Refusal := .next (if s.asleep then s else s.stageOpen.2)
/-- STAGE_DISCARD -/
def execStageDiscard (s : State) : Host.Outcome State Fault Refusal := .next (if s.asleep then s else s.stageDiscard)
/-- STAGE_ARM -/
def execStageArm (r : StartReport) (s : State) : Host.Outcome State Fault Refusal :=
  .next (if s.asleep then s else (s.stageArm r).2)
/-- CHUNK -/
def execChunk (bytes : List Byte) (s : State) : Host.Outcome State Fault Refusal :=
  .next (if s.asleep then s else (s.chunkWrite bytes).2)
/-- CHUNK_DURABLE -/
def execChunkDurable (index : Nat) (s : State) : Host.Outcome State Fault Refusal := .next (s.chunkDurable index)
/-- PROBATION_EXPIRY -/
def execProbationExpiry (s : State) : Host.Outcome State Fault Refusal := .next s.probationEnd
/-- USE_PREVIOUS -/
def execUsePrevious (r : StartReport) (s : State) : Host.Outcome State Fault Refusal := .next (s.usePrevious r).2
/-- COMPACTION_ERASE_COMPLETE -/
def execCompactionEraseComplete (s : State) : Host.Outcome State Fault Refusal := .next s.compactionDone
/-- TRIAL_TIMEOUT -/
def execTrialTimeout (s : State) : Host.Outcome State Fault Refusal := .next s.trialTimeout

end Sys2Proof.Machine
end

