-- ==== Sys2Proof/Machine/Pavane.lean ====
section
/-!
DEFINITION. The commands of Pavane that need no engine (05): doorbells, dispatch, semaphores, completions, timeouts,
control commands.
-/
namespace Sys2Proof.Machine

open Sys2Proof

/-! ### Doorbells and dispatch -/

/-- A doorbell of software (R153–R156); any doorbell ends IDLE (R550). -/
def State.ring (s : State) (q word who : Nat) : State := if s.firmwareUp then s.active.doorbell q word who else s

/-- A doorbell for one end: the word's own end bit decides what it does (R153). -/
def producerWord (w : Nat) : Nat := setFld w 31 1 0
def consumerWord (w : Nat) : Nat := setFld w 31 1 1

/-- A waiting self-test of the queue's core starts once the core is free (R139). -/
def State.testAfter (s : State) (q : Nat) : State :=
  match (s.queue q).coreOf with
  | some n => s.testIfFree n
  | none => s

/-! ### Timeouts (R167) -/

/-- The wait of a job that began at `since` has reached its limit. -/
def State.expired (s : State) (since limit : Nat) : Bool := decide (0 < limit) && decide (since + limit ≤ s.now)

/-- The semaphore take of a queue's last descriptor. -/
def State.waitTimeout (s : State) (q : Nat) : State :=
  let x := s.queue q
  match x.jobIn .waitSem with
  | some j =>
    if s.expired j.since (s.waitLimit x.timeout.toNat 3) then
      (s.finish q .waitSem 0x14 0 (dWait j.d)).setSemWait (s.semWait.filter (fun w => w.2 ≠ q))
    else s
  | none => s

/-- The data queue that a COPY names: the source for a read, the destination for a write (R135). -/
def copySrcQueue (d : Nat) : Nat := fld d 64 17
def copyDstQueue (d : Nat) : Nat := fld d 128 17

/-- The credit wait of a COPY into a data queue. -/
def State.creditTimeout (s : State) (q : Nat) : State :=
  match (s.queue q).jobIn .waitCredit with
  | some j => if s.expired j.since (s.dataLimit q (copyDstQueue j.d) 4) then s.finish q .waitCredit 0x15 0 0 else s
  | none => s

/-- The data wait of a COPY out of a data queue. -/
def State.dataTimeout (s : State) (q : Nat) : State :=
  match (s.queue q).jobIn .waitData with
  | some j => if s.expired j.since (s.dataLimit q (copySrcQueue j.d) 5) then s.finish q .waitData 0x16 0 0 else s
  | none => s

/-- The wait for a completion record goes on, with one backlog event per expiry. -/
def State.backlogTimeout (s : State) (q : Nat) : State :=
  let x := s.queue q
  match x.jobIn .waitRecord with
  | some j =>
    if s.expired j.since (s.waitLimit x.timeout.toNat 6) then
      let js := x.jobs.map (fun k => if k = j then { k with since := s.now } else k)
      (s.putQueue q { x with jobs := js }).raisePart (dieOfQueue q) x.part 4 q
    else s
  | none => s

/-! ### The commands -/

/-- DOORBELL_PRODUCER -/
def execDoorbellProducer (q : QueueId) (word : BitVec 32) (by_ : PartId) (s : State) : Host.Outcome State Fault Refusal :=
  .next (s.ring q.toNat (producerWord word.toNat) by_.toNat)
/-- DOORBELL_CONSUMER -/
def execDoorbellConsumer (q : QueueId) (word : BitVec 32) (by_ : PartId) (s : State) : Host.Outcome State Fault Refusal :=
  .next (s.ring q.toNat (consumerWord word.toNat) by_.toNat)
/-- DESCRIPTOR_DISPATCH -/
def execDescriptorDispatch (q : QueueId) (s : State) : Host.Outcome State Fault Refusal := .next (s.dispatch q.toNat)
/-- SEMAPHORE_TAKE -/
def execSemaphoreTake (sem : BitVec 12) (s : State) : Host.Outcome State Fault Refusal := .next (s.serveSem sem.toNat)
/-- DESCRIPTOR_COMPLETE -/
def execDescriptorComplete (q : QueueId) (s : State) : Host.Outcome State Fault Refusal :=
  .next ((s.completeNext q.toNat).testAfter q.toNat)
/-- WAIT_TIMEOUT -/
def execWaitTimeout (q : QueueId) (s : State) : Host.Outcome State Fault Refusal := .next (s.waitTimeout q.toNat)
/-- CREDIT_TIMEOUT -/
def execCreditTimeout (q : QueueId) (s : State) : Host.Outcome State Fault Refusal := .next (s.creditTimeout q.toNat)
/-- DATA_TIMEOUT -/
def execDataTimeout (q : QueueId) (s : State) : Host.Outcome State Fault Refusal := .next (s.dataTimeout q.toNat)
/-- BACKLOG_TIMEOUT -/
def execBacklogTimeout (q : QueueId) (s : State) : Host.Outcome State Fault Refusal := .next (s.backlogTimeout q.toNat)
/-- ENABLE -/
def execEnable (q : QueueId) (s : State) : Host.Outcome State Fault Refusal := .next (State.control (s.enableQueue q.toNat))
/-- PAUSE -/
def execPause (q : QueueId) (s : State) : Host.Outcome State Fault Refusal := .next (State.control (s.pauseQueue q.toNat))
/-- RESUME -/
def execResume (q : QueueId) (s : State) : Host.Outcome State Fault Refusal := .next (State.control (s.resumeQueue q.toNat))
/-- RESTART -/
def execRestart (q : QueueId) (arg : Option (BitVec 32)) (s : State) : Host.Outcome State Fault Refusal :=
  .next (State.control (s.restartQueue q.toNat arg))
/-- FLUSH -/
def execFlush (q : QueueId) (s : State) : Host.Outcome State Fault Refusal := .next (State.control (s.flush q.toNat))
/-- DISABLE -/
def execDisable (q : QueueId) (s : State) : Host.Outcome State Fault Refusal := .next (State.control (s.disableQueue q.toNat))

end Sys2Proof.Machine
end

