-- ==== Sys2Proof/Machine/Operands.lean ====
section
/-!
DEFINITION. Operands of tensor-core descriptors in the scratchpad (04 R116, R128–R131): rows, extents, and the run of a
descriptor that computes (R123, R124, R139, R483).
-/
namespace Sys2Proof.Machine

open Sys2Proof

/-! ### Extents -/

/-- An extent of addresses, from its first byte to the byte after its last. -/
abbrev Ext := Nat × Nat

def spadEnd : Nat := 0xC00000

def r32 (n : Nat) : Nat := 32 * ceilDiv n 32

/-- Rows of `rb` bytes at a stride, taken as one extent; empty without rows or bytes (R176). -/
def extRows (addr rows stride rb : Nat) : Ext :=
  if rows = 0 || rb = 0 then (addr, addr) else (addr, addr + (rows - 1) * stride + rb)

def extSpan (addr n : Nat) : Ext := (addr, addr + n)

def extMeet (a b : Ext) : Bool :=
  decide (a.1 < a.2) && decide (b.1 < b.2) && decide (a.1 < b.2) && decide (b.1 < a.2)

/-- Reaches 0xC0_0000 or beyond (R116). -/
def extOut (a : Ext) : Bool := decide (a.1 < a.2) && decide (spadEnd < a.2)

/-- A stride smaller than the row's bytes, with more than one row (0x42). A zero stride is not tested here (R176). -/
def strideShort (rows stride rb : Nat) : Bool := decide (1 < rows) && decide (stride ≠ 0) && decide (stride < rb)

/-- A zero stride with more than one row (R178). -/
def strideZero (rows stride rb : Nat) : Bool := decide (1 < rows) && decide (stride = 0) && decide (rb ≠ 0)

/-! ### Rows -/

/-- A row of n elements of format f, and whether a line that it reads is poisoned. -/
def Mem.row (m : Mem) (f n addr saddr : Nat) : Row × Bool :=
  let rb := rowBytes f n
  let sb := scaleBytes f n
  (decodeRow f n (m.read addr rb) (m.read saddr sb), m.bad addr rb || m.bad saddr sb)

/-- Rows at a stride, their scales row after row with no gaps. -/
def Mem.rows (m : Mem) (f n addr stride saddr count : Nat) : List (Row × Bool) :=
  (upto count).map (fun r => m.row f n (addr + r * stride) (saddr + r * scaleBytes f n))

/-! ### Reserved fields (R128 step 1) -/

/-- MATMUL (R130); acc_init 0b11 is reserved. -/
def mmReserved (d : Nat) : Bool :=
  fld d 441 71 ≠ 0 || fld d 368 16 ≠ 0 || fld d 304 16 ≠ 0 || fld d 252 4 ≠ 0 || fld d 249 2 = 3
    || fld d 180 12 ≠ 0 || fld d 116 12 ≠ 0

/-- VECOP (R131). -/
def voReserved (d : Nat) : Bool :=
  fld d 496 16 ≠ 0 || fld d 344 40 ≠ 0 || fld d 304 16 ≠ 0 || fld d 232 24 ≠ 0 || fld d 186 6 ≠ 0

/-- COPY (R135). -/
def cpReserved (d : Nat) : Bool :=
  fld d 416 96 ≠ 0 || fld d 360 24 ≠ 0 || fld d 296 24 ≠ 0 || fld d 232 24 ≠ 0 || fld d 178 14 ≠ 0 || fld d 115 13 ≠ 0

/-- CONV (R227); pad_mode 0b11 is reserved. -/
def cvReserved (d : Nat) : Bool := fld d 510 2 ≠ 0 || fld d 250 2 = 3

/-- WINDOW (R237); pad_mode 0b11 is reserved in the modes that use it. -/
def wnReserved (d : Nat) : Bool :=
  fld d 510 2 ≠ 0 || ((fld d 116 4 ≤ 2 || fld d 116 4 = 10) && fld d 202 2 = 3)

/-- ATTN (R260); the head-dimension code 0b11 is reserved. -/
def atReserved (d : Nat) : Bool :=
  fld d 472 40 ≠ 0 || fld d 374 10 ≠ 0 || fld d 248 8 ≠ 0 || fld d 137 6 ≠ 0 || fld d 368 2 = 3

/-- The reserved fields of a descriptor of a core, by its opcode; an unknown one has none. -/
def coreReserved (d : Nat) : Bool :=
  match dOpcode d with
  | 0x10 => mmReserved d
  | 0x11 => cvReserved d
  | 0x12 => wnReserved d
  | 0x14 => atReserved d
  | 0x18 => voReserved d
  | 0x20 => cpReserved d
  | _ => false

/-- The code of a descriptor whose opcode its queue does not take: reserved fields come first (R128). -/
def wrongOpcode (d : Nat) : Nat := if coreReserved d then 0x4B else 0x4F

/-! ### Runs -/

/-- A part of a descriptor's output that is written as one: where, what, and whether it needs a poisoned operand. -/
structure Piece where
  writes : List (Nat × List Byte)
  bad : Bool := false
  /-- Groups of its results that the residue checker does not compare (R109). -/
  skipped : Nat := 0

/-- What a descriptor that passed its checks does. -/
structure Run where
  pieces : List Piece
  flags : Nat := 0
  /-- The held tiles that it leaves when it succeeds. -/
  held : Option Held := none
  /-- It uses the matrix engine, whose held tiles it ends or continues (R124). -/
  matrix : Bool := true
  ops : Nat := 0
  /-- Pairs that lay outside the input (R229). -/
  taps : Nat := 0

/-- Write pieces into a core's scratchpad; `bad` marks the lines as poison. -/
def Mem.writePieces (m : Mem) (bad : Bool) (ps : List Piece) : Mem :=
  (ps.flatMap (·.writes)).foldl (fun m w =>
    let m := m.store w.1 (clean w.2)
    if bad then m.setBad w.1 w.2.length true else m) m

/-- A free subset: the pieces that were written before a descriptor stopped (log 1). -/
def State.freeSubset {α : Type} (s : State) : List α → List α × State
  | [] => ([], s)
  | x :: xs =>
    let (b, s) := s.drawBool
    let (ys, s) := s.freeSubset xs
    (if b then x :: ys else ys, s)

/-- Count `n` matrix operations on a core's counters of code 0x04, whose remainder is carried (R467). -/
def State.countOps (s : State) (n ops : Nat) : State :=
  (s.coreCounters n 4).foldl (fun s k =>
    let c := s.ctr k
    if !ctEnable c.control.toNat || s.ctrStopped then s
    else
      let t := c.carry + ops
      ctrBump State.raise (s.putCtr k { c with carry := t % 65536 }) k (t / 65536)) s

/-- The core runs descriptors: in service, its clock not gated (R114, R139). -/
def State.coreRuns (s : State) (n : Nat) : Bool := !s.asleep && decide ((s.core n).role = .inService) && !(s.core n).gated

/-- The job an engine of a tensor core holds for a queue of this kind (1 command port, 2 DMA channel), and its core. -/
def State.atCore (s : State) (q kind : Nat) : Option (Nat × Nat) :=
  match s.atEngine q kind, (s.queue q).coreOf with
  | some d, some n => if s.coreRuns n then some (n, d) else none
  | _, _ => none

/-- Opcodes that a command port takes (R126). -/
def portOpcode (op : Nat) : Bool := op = 0x10 || op = 0x11 || op = 0x12 || op = 0x14 || op = 0x18

/-- The free flags of a descriptor that stopped before its end: the spec states none (log 1). -/
def State.freeFlags (s : State) : Nat × State :=
  let (f, s) := s.drawNat
  (f % 64, s)

/-- Groups of pieces that are not compared. -/
def skippedIn (ps : List Piece) : Nat := (ps.map (·.skipped)).sum

/-- Upsets of the words that a descriptor reads are corrected or poison their lines (R118). -/
def State.settleExts (s : State) (n : Nat) (xs : List Ext) : State :=
  if s.spadUpsets.isEmpty then s else xs.foldl (fun s x => s.settleSpad n x.1 (x.2 - x.1)) s

/-- Writes replace the words in which upsets stand. -/
def State.overwriteExts (s : State) (n : Nat) (ws : List (Nat × List Byte)) : State :=
  if s.spadUpsets.isEmpty then s else ws.foldl (fun s w => s.overwriteSpad n w.1 w.2.length) s

/-- Write pieces into the scratchpad of core n, whose held tiles become `held` where the matrix engine ran. -/
def State.land (s : State) (n : Nat) (bad : Bool) (ps : List Piece) (matrix : Bool) (held : Option Held) : State :=
  let s := s.overwriteExts n (ps.flatMap (·.writes))
  let c := s.core n
  s.putCore n { c with spad := c.spad.writePieces bad ps, held := if matrix then held else c.held }

/-- Count a run: operations, groups not compared, pairs outside the input (R109, R229, R467). -/
def State.countRun (s : State) (n ops skipped taps : Nat) : State :=
  let s := ((s.countOps n ops).bumpCore n 0x0B skipped).bumpCore n 0x0C taps
  (s.odInc (0x2110 + n) 0x0D skipped).odInc (0x2110 + n) 0x13 taps

/-- Count a run that stopped after it wrote `ps`: what it met before that is free, at least that of `ps` (log 1). -/
def State.countPart (s : State) (n : Nat) (r : Run) (ps : List Piece) : State :=
  let (a, s) := s.drawIn 0 r.ops
  let (b, s) := s.drawIn (skippedIn ps) (skippedIn r.pieces)
  let (c, s) := s.drawIn 0 r.taps
  s.countRun n a b c

/-- Finish a run on core n: all of it, or, where it meets a poisoned line, the pieces written before it stopped, marked
(R483). -/
def State.finishRun (s : State) (q n : Nat) (r : Run) : State :=
  if r.pieces.any (·.bad) then
    let (ps, s) := s.freeSubset (r.pieces.filter (fun p => !p.bad))
    let (fl, s) := s.freeFlags
    ((s.land n true ps r.matrix none).countPart n r ps).finish q .handed 0x48 fl 0
  else
    ((s.land n false r.pieces r.matrix r.held).countRun n r.ops (skippedIn r.pieces) r.taps).finish q .handed 0 r.flags 0

/-- A residue mismatch in the pieces that `hit` names stops a run (R139): they are not written, and of the others those
that were drained before stand. -/
def State.stopRun (s : State) (q n : Nat) (hit : Nat → Bool) (r : Run) : State :=
  let (ps, s) := s.freeSubset (((List.zipIdx r.pieces).filter (fun p => !p.1.bad && !hit p.2)).map (·.1))
  let (fl, s) := s.freeFlags
  ((s.land n false ps true none).countPart n r ps).finish q .handed 0x4A fl 0

end Sys2Proof.Machine
end

