-- ==== Sys2Proof/Machine/Matrix.lean ====
section
/-!
DEFINITION. The matrix engine (03 R99–R105, 04 R121–R130, R138–R142): accumulation, MATMUL.
-/
namespace Sys2Proof.Machine

open Sys2Proof

/-! ### Operand pairs (R99, R100) -/

inductive Pair where
  | narrow | wide | int
  deriving DecidableEq, Repr

def isNarrow (f : Nat) : Bool := 3 ≤ f && f ≤ 9

def pairOf (a b : Nat) : Option Pair :=
  if isNarrow a && (isNarrow b || b = 14) then some .narrow
  else if (a = 10 || a = 11) && (b = 10 || b = 11) then some .int
  else if (a = 1 && b = 1) || (a = 2 && b = 2) then some .wide
  else none

/-! ### Accumulation (R101–R104) -/

/-- The exact sum of a group's products (R101 steps 2 and 3): +0 where it is zero. -/
def groupSum : List XVal → List XVal → XVal
  | x :: xs, y :: ys => (x.mul y).add (groupSum xs ys)
  | _, _ => .zero

/-- A group value (R101 step 4, R104): the sum times both scales, rounded once; an exactly zero sum gives +0.
A sum that is not zero keeps its sign under a zero scale (log 149). -/
def groupValue (xs ys : List XVal) (scale : XVal) : XVal :=
  let v := groupSum xs ys
  if v.isZero && !scale.isNan then .zero else fp32.round (v.mul scale)

/-- A group takes the special-value path of R104. -/
def groupSpecial (xs ys : List XVal) (scale : XVal) : Bool := (groupSum xs ys).special || scale.isNan

/-- The scale of group g of a row whose blocks hold `b` elements; 1 without a block scale. -/
def Row.scaleAt (x : Row) (f g : Nat) : XVal :=
  if fmtBlock f = 0 then .fin false 1 0 else x.scales.getD (32 * g / fmtBlock f) .nan

/-- Add group values in increasing reduction index (R101 step 5), counting the groups not compared (R109). -/
def narrowDot (scale : Nat → XVal) : Nat → Nat → List XVal → List XVal → XVal → Nat → XVal × Nat
  | 0, _, _, _, acc, k => (acc, k)
  | n + 1, g, xs, ys, acc, k =>
    let x := xs.take 32
    let y := ys.take 32
    if x.isEmpty then (acc, k)
    else
      narrowDot scale n (g + 1) (xs.drop 32) (ys.drop 32) (fp32.round (acc.add (groupValue x y (scale g))))
        (k + b2n (groupSpecial x y (scale g)))

/-- One run of at most 32 products of a 16-bit pair: each product rounded and added (R102); whether some value of the
run is NaN or infinite (R109). -/
def wideRun : List XVal → List XVal → XVal → Bool → XVal × Bool
  | x :: xs, y :: ys, acc, sp =>
    let p := fp32.round (x.mul y)
    let acc := fp32.round (acc.add p)
    wideRun xs ys acc (sp || p.special || acc.special)
  | _, _, acc, sp => (acc, sp)

def wideDot : Nat → List XVal → List XVal → XVal → Nat → XVal × Nat
  | 0, _, _, acc, k => (acc, k)
  | n + 1, xs, ys, acc, k =>
    if xs.isEmpty then (acc, k)
    else
      let (a, sp) := wideRun (xs.take 32) (ys.take 32) acc acc.special
      wideDot n (xs.drop 32) (ys.drop 32) a (k + b2n sp)

/-- The integer that an integer element holds. -/
def XVal.toInt : XVal → Int
  | .fin neg m e => let v : Int := (m * 2 ^ e.toNat : Nat); if neg then -v else v
  | _ => 0

def intDot : List XVal → List XVal → Int → Int
  | x :: xs, y :: ys, acc => intDot xs ys (acc + x.toInt * y.toInt)
  | _, _, acc => acc

/-- An accumulator: FP32 bits, or a 40-bit integer in two's complement. -/
def accVal (p : Pair) (c : Nat) : XVal := if p = .int then XVal.ofInt (toSigned 40 c) else fp32.decode c

/-- One output element: the accumulator after the reduction, and the groups not compared. -/
def accumulate (p : Pair) (af bf : Nat) (a b : Row) (init : Nat) : Nat × Nat :=
  match p with
  | .int => (ofSigned 40 (intDot a.elems b.elems (toSigned 40 init)), 0)
  | .narrow =>
    let (v, k) := narrowDot (fun g => (a.scaleAt af g).mul (b.scaleAt bf g)) (a.elems.length + 1) 0 a.elems b.elems
      (fp32.decode init) 0
    ((fp32.encode false .nearest v).1, k)
  | .wide =>
    let (v, k) := wideDot (a.elems.length + 1) a.elems b.elems (fp32.decode init) 0
    ((fp32.encode false .nearest v).1, k)

/-- An accumulator as it is drained: an integer one saturates to INT32 (R103). -/
def drained (p : Pair) (c : Nat) : XVal × Nat :=
  if p = .int then
    let i := toSigned 40 c
    if i < -2147483648 then (XVal.ofInt (-2147483648), flSat)
    else if 2147483647 < i then (XVal.ofInt 2147483647, flSat)
    else (XVal.ofInt i, 0)
  else (fp32.decode c, 0)

/-! ### MATMUL (R130) -/

def mmK (d : Nat) : Nat := fld d 416 25
def mmN (d : Nat) : Nat := fld d 400 16
def mmM (d : Nat) : Nat := fld d 384 16
def mmCStride (d : Nat) : Nat := fld d 344 24
def mmBStride (d : Nat) : Nat := fld d 320 24
def mmAStride (d : Nat) : Nat := fld d 280 24
def mmCScale (d : Nat) : Nat := fld d 256 24
def mmDrain (d : Nat) : Bool := bitOf d 251
def mmInit (d : Nat) : Nat := fld d 249 2
def mmConv (d : Nat) : Nat := fld d 244 5
def mmCFmt (d : Nat) : Nat := fld d 240 4
def mmCOut (d : Nat) : Nat := fld d 216 24
def mmCIn (d : Nat) : Nat := fld d 192 24
def mmBFmt (d : Nat) : Nat := fld d 176 4
def mmBScale (d : Nat) : Nat := fld d 152 24
def mmB (d : Nat) : Nat := fld d 128 24
def mmAFmt (d : Nat) : Nat := fld d 112 4
def mmAScale (d : Nat) : Nat := fld d 88 24
def mmA (d : Nat) : Nat := fld d 64 24

/-- The format checks (R97, R128 step 4); `count` is the reduction length that held tiles already carry. -/
def mmFormats (d count : Nat) : Nat :=
  let a := mmAFmt d
  let b := mmBFmt d
  let c := mmCFmt d
  let drain := mmDrain d
  if a = 15 || b = 15 || (drain && c = 15) then 0x30
  else if !fmtMatrixA a || !fmtMatrixB b || (drain && !fmtVector c) then 0x32
  else if (pairOf a b).isNone then 0x31
  else
    let cv := if drain then convCheck (mmConv d) c else 0
    if cv ≠ 0 then cv
    else if 2 ^ 24 < mmK d + (if mmInit d = 2 then count else 0) then 0x35
    else 0

/-- Row bytes of A, B, the C input and C, padded as R130 lays rows out. -/
def mmRowA (d : Nat) : Nat := r32 (rowBytes (mmAFmt d) (mmK d))
def mmRowB (d : Nat) : Nat := r32 (rowBytes (mmBFmt d) (mmK d))
def mmRowIn (d : Nat) : Nat := if mmInit d = 1 then r32 (4 * mmN d) else 0
def mmRowOut (d : Nat) : Nat := if mmDrain d then r32 (rowBytes (mmCFmt d) (mmN d)) else 0

/-- C's stride is used. -/
def mmUsesC (d : Nat) : Bool := mmDrain d || mmInit d = 1

def mmInputs (d : Nat) : List Ext :=
  [extRows (mmA d) (mmM d) (mmAStride d) (mmRowA d), extRows (mmB d) (mmN d) (mmBStride d) (mmRowB d),
   extSpan (mmAScale d) (mmM d * scaleBytes (mmAFmt d) (mmK d)),
   extSpan (mmBScale d) (mmN d * scaleBytes (mmBFmt d) (mmK d))]
def mmInExt (d : Nat) : Ext := extRows (mmCIn d) (mmM d) (mmCStride d) (mmRowIn d)
def mmOutExt (d : Nat) : Ext := extRows (mmCOut d) (mmM d) (mmCStride d) (mmRowOut d)
def mmOutScale (d : Nat) : Ext :=
  extSpan (mmCScale d) (if mmDrain d then mmM d * scaleBytes (mmCFmt d) (mmN d) else 0)

/-- Held tiles and acc_init disagree (R124). -/
def mmHeldBad (d : Nat) (h : Option Held) : Bool :=
  match h with
  | some h => mmInit d ≠ 2 || h.m ≠ mmM d || h.n ≠ mmN d || h.aFmt ≠ mmAFmt d || h.bFmt ≠ mmBFmt d
  | none => mmInit d = 2

/-- The check of a MATMUL (R128), with the outcome of its zero fields (R176, R178) last, a no-op before a zero stride
(log 156); 0 where it runs. -/
def mmCheck (d : Nat) (h : Option Held) : Nat :=
  let f := mmFormats d ((h.map Held.kDone).getD 0)
  let useC := mmUsesC d
  let rc := Nat.max (mmRowIn d) (mmRowOut d)
  let out := mmOutExt d
  let outs := [out, mmOutScale d]
  if mmReserved d then 0x4B
  else if f ≠ 0 then f
  else if (mmA d ||| mmB d ||| mmAStride d ||| mmBStride d ||| (if mmInit d = 1 then mmCIn d else 0)
      ||| (if mmDrain d then mmCOut d else 0) ||| (if useC then mmCStride d else 0)) % 32 ≠ 0 then 0x40
  else if (mmInExt d :: outs ++ mmInputs d).any extOut then 0x41
  else if strideShort (mmM d) (mmAStride d) (mmRowA d) || strideShort (mmN d) (mmBStride d) (mmRowB d)
      || (useC && strideShort (mmM d) (mmCStride d) rc) then 0x42
  else if outs.any (fun o => (mmInputs d).any (extMeet o)) || extMeet (mmOutScale d) (mmInExt d)
      || (extMeet out (mmInExt d) && mmCOut d ≠ mmCIn d) then 0x43
  else if mmHeldBad d h then 0x44
  else if !mmDrain d && 4 < ceilDiv (mmM d) 128 * ceilDiv (mmN d) 128 then 0x45
  else if mmM d = 0 || mmN d = 0 || mmK d = 0 then 1
  else if strideZero (mmM d) (mmAStride d) (mmRowA d) || strideZero (mmN d) (mmBStride d) (mmRowB d)
      || (useC && strideZero (mmM d) (mmCStride d) rc) then 0x42
  else 0

/-- Rows and columns `128 i` to `128 i + 127` of a list. -/
def tileOf {α : Type} (i : Nat) (xs : List α) : List α := (xs.drop (128 * i)).take 128

/-- The output tiles, by column tile and row tile. -/
def tilesOf (m n : Nat) : List (Nat × Nat) :=
  (upto (ceilDiv n 128)).flatMap (fun c => (upto (ceilDiv m 128)).map (fun r => (r, c)))

/-- The writes of one row of a tile. -/
def rowWrites (fmt addr saddr c0 : Nat) (enc : List Byte × List Byte × Nat) : List (Nat × List Byte) :=
  (addr + rowBytes fmt c0, enc.1) :: (if enc.2.1.isEmpty then [] else [(saddr + c0 / 32, enc.2.1)])

/-- One drained tile: its writes and flags. -/
def drainTile (p : Pair) (fmt conv seed seq n addr stride saddr : Nat) (t : Nat × Nat) (acc : List (List Nat)) :
    List (Nat × List Byte) × Nat :=
  let rows := (List.zipIdx (tileOf t.1 acc)).map (fun x =>
    let r := 128 * t.1 + x.2
    let vals := (tileOf t.2 x.1).map (drained p)
    let e := encodeRow fmt conv seed seq (r * n + 128 * t.2) (vals.map (·.1))
    (rowWrites fmt (addr + r * stride) (saddr + r * scaleBytes fmt n) (128 * t.2) e, orFlags (e.2.2 :: vals.map (·.2))))
  (rows.flatMap (·.1), orFlags (rows.map (·.2)))

/-- What a MATMUL that passed its checks does. -/
def mmRun (spad : Mem) (h : Option Held) (seed d : Nat) : Run :=
  let m := mmM d
  let n := mmN d
  let k := mmK d
  let af := mmAFmt d
  let bf := mmBFmt d
  let p := (pairOf af bf).getD .narrow
  let as := spad.rows af k (mmA d) (mmAStride d) (mmAScale d) m
  let bs := spad.rows bf k (mmB d) (mmBStride d) (mmBScale d) n
  let cf := if p = .int then 13 else 0
  let cs := if mmInit d = 1 then spad.rows cf n (mmCIn d) (mmCStride d) 0 m else []
  let initAt := fun (r j : Nat) =>
    match mmInit d with
    | 1 =>
      let v := leNat (spad.read (mmCIn d + r * mmCStride d + 4 * j) 4)
      if p = .int then ofSigned 40 (toSigned 32 v) else v
    | 2 => (((h.map Held.acc).getD []).getD r []).getD j 0
    | _ => 0
  let table := (List.zipIdx as).map (fun a => (List.zipIdx bs).map (fun b =>
    accumulate p af bf a.1.1 b.1.1 (initAt a.2 b.2)))
  let acc := table.map (fun r => r.map (·.1))
  let skip := fun (t : Nat × Nat) => ((tileOf t.1 table).map (fun r => ((tileOf t.2 r).map (·.2)).sum)).sum
  let tiles := (tilesOf m n).map (fun t =>
    let bad := (tileOf t.1 as).any (·.2) || (tileOf t.1 cs).any (·.2) || (tileOf t.2 bs).any (·.2)
    if mmDrain d then
      let (ws, fl) := drainTile p (mmCFmt d) (mmConv d) seed (dSeq d) n (mmCOut d) (mmCStride d) (mmCScale d) t acc
      ({ writes := ws, bad := bad, skipped := skip t : Piece }, fl)
    else ({ writes := [], bad := bad, skipped := skip t }, 0))
  { pieces := tiles.map (·.1)
    flags := orFlags ((as ++ bs ++ cs).map (fun x => x.1.flags) ++ tiles.map (·.2))
    held := if mmDrain d then none
      else some { m := m, n := n, aFmt := af, bFmt := bf, kDone := k + (if mmInit d = 2 then (h.map Held.kDone).getD 0 else 0)
                  acc := acc }
    ops := 2 * m * n * k }

/-- Some group of the k-chunk, of an element of row tile and column named, is compared (R109): a prefix of the reduction
that ends with the chunk skips fewer groups more than the one before it than the chunk holds. -/
def mmCompared (spad : Mem) (h : Option Held) (d tileRow column kchunk chunk : Nat) : Bool :=
  let k := mmK d
  let af := mmAFmt d
  let bf := mmBFmt d
  let p := (pairOf af bf).getD .narrow
  let b := spad.row bf k (mmB d + column * mmBStride d) (mmBScale d + column * scaleBytes bf k)
  let rows := (upto (mmM d)).filter (fun r => decide (r / 128 = tileRow))
  let lo := kchunk * chunk
  let hi := Nat.min k (lo + chunk)
  rows.any (fun r =>
    let a := spad.row af k (mmA d + r * mmAStride d) (mmAScale d + r * scaleBytes af k)
    let init := match mmInit d with
      | 1 => leNat (spad.read (mmCIn d + r * mmCStride d + 4 * column) 4)
      | 2 => (((h.map Held.acc).getD []).getD r []).getD column 0
      | _ => 0
    let skips := fun (n : Nat) =>
      (accumulate p af bf { a.1 with elems := a.1.elems.take n } { b.1 with elems := b.1.elems.take n } init).2
    decide (skips hi - skips lo < ceilDiv (hi - lo) 32))

/-! ### The residue check (R139, R142) -/

/-- A mismatch on the run that queue q carries: it stops with 0x4A, and the core records it and tests itself. -/
def State.mismatch (s : State) (q n d : Nat) (r : Run) (hit : Nat → Bool) (injected : Bool)
    (column residue tileRow tileCol kchunk : Nat) (temp : Int) : State :=
  (s.stopRun q n hit r).residueDetected n injected column residue (dOpcode d) (dSeq d) tileRow tileCol kchunk temp

/-- The reduction depth of a B tile (R121). -/
def kChunk (bf : Nat) : Nat :=
  match bf with
  | 8 | 11 => 256
  | 14 => 512
  | 1 | 2 => 32
  | _ => 128

/-- The result that an injection corrupts: some row tile, column tile and k-chunk of the named column (log 1). -/
def State.injected (s : State) (q n d column : Nat) (r : Run) (m cols k chunk : Nat) : State :=
  let (a, s) := s.drawNat
  let (b, s) := s.drawNat
  let (c, s) := s.drawNat
  let (e, s) := s.drawNat
  let rows := ceilDiv m 128
  let tr := a % rows
  let tc := b % (ceilDiv (cols - column) 128)
  s.mismatch q n d r (fun i => decide (i = tc * rows + tr)) true column (1 + e % 3) tr tc (c % ceilDiv k chunk) s.hottest

/-- MATMUL as queue q holds it on core n. -/
def State.matmul (s : State) (q n d : Nat) : State :=
  let code := mmCheck d (s.core n).held
  if code ≠ 0 then s.done q code
  else
    let s := s.settleExts n (mmInExt d :: mmInputs d)
    let c := s.core n
    let r := mmRun c.spad c.held (s.queue q).seed.toNat d
    match c.inject with
    | some col =>
      if col < mmN d then s.injected q n d col r (mmM d) (mmN d) (mmK d) (kChunk (mmBFmt d)) else s.finishRun q n r
    | none => s.finishRun q n r

/-- A command-port row: its own opcode, or one that no engine of the port defines (R126). -/
def State.portCommand (s : State) (q op : Nat) (f : State → Nat → Nat → Nat → State) : State :=
  match s.atCore q 1 with
  | some (n, d) => if dOpcode d = op then f s q n d else if portOpcode (dOpcode d) then s else s.done q (wrongOpcode d)
  | none => s

/-! ### The commands -/

/-- MATMUL -/
def execMatmul (q : QueueId) (s : State) : Host.Outcome State Fault Refusal := .next (s.portCommand q.toNat 0x10 State.matmul)

end Sys2Proof.Machine
end

