-- ==== Sys2Proof/Machine/Vector.lean ====
section
/-!
DEFINITION. The vector engine (03 R106–R108, 04 R131–R134): VECOP.
-/
namespace Sys2Proof.Machine

open Sys2Proof

/-! ### Fields (R131) -/

def voScale1 (d : Nat) : Nat := fld d 472 24
def voScale0 (d : Nat) : Nat := fld d 448 24
def voImm1 (d : Nat) : Nat := fld d 416 32
def voImm0 (d : Nat) : Nat := fld d 384 32
def voDstStride (d : Nat) : Nat := fld d 320 24
def voStride1 (d : Nat) : Nat := fld d 280 24
def voStride0 (d : Nat) : Nat := fld d 256 24
def voCols (d : Nat) : Nat := fld d 208 24
def voRows (d : Nat) : Nat := fld d 192 16
def voBcast (d : Nat) : Bool := bitOf d 185
def voConv (d : Nat) : Nat := fld d 180 5
def voDstFmt (d : Nat) : Nat := fld d 176 4
def voAux (d : Nat) : Nat := fld d 152 24
def voDst (d : Nat) : Nat := fld d 128 24
def voOp (d : Nat) : Nat := fld d 120 8
def voFmt1 (d : Nat) : Nat := fld d 116 4
def voFmt0 (d : Nat) : Nat := fld d 112 4
def voSrc1 (d : Nat) : Nat := fld d 88 24
def voSrc0 (d : Nat) : Nat := fld d 64 24

/-! ### Operations (R132, R133) -/

def voDefined (op : Nat) : Bool :=
  [1, 2, 3, 4, 5, 8, 0x20, 0x21, 0x28, 0x29, 0x2A, 0x30].contains op || (0x10 ≤ op && op ≤ 0x18)

/-- Operations that read src1. -/
def voBinary (op : Nat) : Bool := [1, 2, 3, 4, 5, 0x29, 0x2A].contains op

/-- Row operations, limited to 1,048,576 columns (0x47). -/
def voRowOp (op : Nat) : Bool := [0x20, 0x21, 0x28, 0x29, 0x2A].contains op

inductive Work where
  | exact | float (f : FloatFmt) | int

/-- Formats of the sources. -/
def voSources (d : Nat) : List Nat := if voBinary (voOp d) then [voFmt0 d, voFmt1 d] else [voFmt0 d]

/-- The working format (R133). -/
def voWork (d : Nat) : Work :=
  let op := voOp d
  let srcs := voSources d
  let dst := voDstFmt d
  let half := fun (f : Nat) => f = 1 || f = 3 || f = 4
  if op = 0x30 then .exact
  else if 0x10 ≤ op then .float fp32
  else if (op = 1 || op = 2 || op = 4 || op = 5) && srcs.all fmtIsInt then .int
  else if srcs.all (fun f => half f) && half dst then .float fp16
  else if srcs.all (fun f => f = 2) && dst = 2 then .float bf16
  else .float fp32

/-! ### Reductions (R134) -/

/-- The elements of lane i: j with j mod 512 = i. -/
def laneOf (i : Nat) (xs : List XVal) : List XVal :=
  (List.zipIdx xs).filterMap (fun x => if x.2 % 512 = i then some x.1 else none)

/-- A lane: its first term, then each further one. -/
def lane (first : XVal → XVal) (step : XVal → XVal → XVal) : List XVal → Option XVal
  | [] => none
  | x :: xs => some (xs.foldl step (first x))

/-- One level of the tree: partial i becomes partial 2i combined with partial 2i + 1; an absent one contributes
nothing. -/
def treeLevel (f : XVal → XVal → XVal) : List (Option XVal) → List (Option XVal)
  | a :: b :: r =>
    (match a, b with
     | some x, some y => some (f x y)
     | some x, none => some x
     | none, y => y) :: treeLevel f r
  | r => r

def treeFold (f : XVal → XVal → XVal) : Nat → List (Option XVal) → Option XVal
  | 0, xs => (xs.head?).join
  | n + 1, xs => treeFold f n (treeLevel f xs)

/-- A row reduction; `empty` is what a lane with no elements contributes. -/
def reduce (first : XVal → XVal) (step comb : XVal → XVal → XVal) (empty : Option XVal) (xs : List XVal) : XVal :=
  let lanes := (upto 512).map (fun i => match lane first step (laneOf i xs) with
    | some v => some v
    | none => empty)
  (treeFold comb 9 lanes).getD .zero

def add32 (x y : XVal) : XVal := fp32.round (x.add y)
def mul32 (x y : XVal) : XVal := fp32.round (x.mul y)
def div32 (x y : XVal) : XVal := fp32.round (x.div y)

def rowSum (xs : List XVal) : XVal := reduce id add32 add32 (some .zero) xs
def rowMax (xs : List XVal) : XVal := reduce id XVal.max XVal.max none xs
/-- The sum of squares: t × t rounded once, then acc = fma(t, t, acc). -/
def rowSquares (xs : List XVal) : XVal :=
  reduce (fun t => mul32 t t) (fun acc t => fp32.round ((t.mul t).add acc)) add32 (some .zero) xs

/-! ### Rows -/

def zipX (f : XVal → XVal → XVal) : List XVal → List XVal → List XVal
  | x :: xs, y :: ys => f x y :: zipX f xs ys
  | _, _ => []

/-- An exact integer result saturated to INT32, which holds one zero (R133). -/
def saturate32 (x : XVal) : XVal × Nat :=
  let i := x.toInt
  if i < -2147483648 then (XVal.ofInt (-2147483648), flSat)
  else if 2147483647 < i then (XVal.ofInt 2147483647, flSat)
  else (XVal.ofInt i, 0)

/-- One row of results in the working format, with the flags of R133's integer saturation. -/
def vecRow (op : Nat) (w : Work) (imm0 imm1 : XVal) (s0 s1 bias : List XVal) : List XVal × Nat :=
  match w with
  | .exact => (s0, 0)
  | .int =>
    let r := (zipX (fun x y => match op with
      | 1 => x.add y
      | 2 => x.mul y
      | 4 => x.max y
      | _ => x.min y) s0 s1).map saturate32
    (r.map (·.1), orFlags (r.map (·.2)))
  | .float f =>
    let rd := f.round
    let s0 := s0.map rd
    let s1 := s1.map rd
    let i0 := rd imm0
    let i1 := rd imm1
    let n : XVal := .fin false s0.length 0
    match op with
    | 1 => (zipX (fun x y => rd (x.add y)) s0 s1, 0)
    | 2 => (zipX (fun x y => rd (x.mul y)) s0 s1, 0)
    | 3 => (zipX (fun x y => rd ((rd (i0.mul x)).add (rd (i1.mul y)))) s0 s1, 0)
    | 4 => (zipX XVal.max s0 s1, 0)
    | 5 => (zipX XVal.min s0 s1, 0)
    | 8 => (s0.map (fun x => rd ((i0.mul x).add i1)), 0)
    | 0x20 => ([rowSum s0], 0)
    | 0x21 => ([rowMax s0], 0)
    | 0x28 =>
      let xs := s0.map (mul32 i0)
      let m := rowMax xs
      let es := xs.map (fun x => exp32 (add32 x m.neg))
      let t := rowSum es
      (es.map (fun e => div32 e t), 0)
    | 0x29 =>
      let r := rsqrt32 (add32 (div32 (rowSquares s0) n) i0)
      (zipX (fun x y => mul32 (mul32 x r) y) s0 s1, 0)
    | 0x2A =>
      let mu := div32 (rowSum s0) n
      let ts := s0.map (fun x => add32 x mu.neg)
      let r := rsqrt32 (add32 (div32 (rowSquares ts) n) i0)
      (zipX add32 (zipX (fun t y => mul32 (mul32 t r) y) ts s1) bias, 0)
    | _ => (s0.map (approx32 op), 0)

/-! ### The check (R128) -/

/-- Rows of src1. -/
def voRows1 (d : Nat) : Nat := if voBcast d || voOp d = 0x29 || voOp d = 0x2A then Nat.min 1 (voRows d) else voRows d
/-- Elements of an output row. -/
def voOutCols (d : Nat) : Nat := if voOp d = 0x20 || voOp d = 0x21 then Nat.min 1 (voCols d) else voCols d

def voRow0 (d : Nat) : Nat := r32 (rowBytes (voFmt0 d) (voCols d))
def voRow1 (d : Nat) : Nat := if voBinary (voOp d) then r32 (rowBytes (voFmt1 d) (voCols d)) else 0
def voRowD (d : Nat) : Nat := r32 (rowBytes (voDstFmt d) (voOutCols d))

def voFormats (d : Nat) : Nat :=
  let srcs := voSources d
  let dst := voDstFmt d
  if srcs.any (fun f => f = 15) || dst = 15 then 0x30
  else if !srcs.all fmtVector || !fmtVector dst || (voOp d = 0x2A && fmtBlock dst ≠ 0) then 0x32
  else convCheck (voConv d) dst

def voInputs (d : Nat) : List Ext :=
  let b := voBinary (voOp d)
  [extRows (voSrc0 d) (voRows d) (voStride0 d) (voRow0 d), extSpan (voScale0 d) (voRows d * scaleBytes (voFmt0 d) (voCols d)),
   extRows (voSrc1 d) (voRows1 d) (voStride1 d) (voRow1 d),
   extSpan (voScale1 d) (if b then voRows1 d * scaleBytes (voFmt1 d) (voCols d) else 0),
   extSpan (voAux d) (if voOp d = 0x2A && voRows d ≠ 0 then 4 * voCols d else 0)]
def voOutputs (d : Nat) : List Ext :=
  [extRows (voDst d) (voRows d) (voDstStride d) (voRowD d),
   extSpan (voAux d) (voRows d * scaleBytes (voDstFmt d) (voOutCols d))]

/-- src1's stride is used. -/
def voUses1 (d : Nat) : Bool := voBinary (voOp d) && !(voBcast d || voOp d = 0x29 || voOp d = 0x2A)

def voCheck (d : Nat) : Nat :=
  let f := voFormats d
  let b := voBinary (voOp d)
  if voReserved d then 0x4B
  else if !voDefined (voOp d) then 0x4E
  else if f ≠ 0 then f
  else if (voSrc0 d ||| voStride0 d ||| voDst d ||| voDstStride d ||| (if b then voSrc1 d else 0)
      ||| (if voUses1 d then voStride1 d else 0)) % 32 ≠ 0 then 0x40
  else if (voInputs d ++ voOutputs d).any extOut then 0x41
  else if strideShort (voRows d) (voStride0 d) (voRow0 d) || strideShort (voRows d) (voDstStride d) (voRowD d)
      || (voUses1 d && strideShort (voRows1 d) (voStride1 d) (voRow1 d)) then 0x42
  else if (voOutputs d).any (fun o => (voInputs d).any (extMeet o)) then 0x43
  else if voRowOp (voOp d) && decide (1048576 < voCols d) then 0x47
  else if voRows d = 0 || voCols d = 0 then 1
  else if strideZero (voRows d) (voStride0 d) (voRow0 d) || strideZero (voRows d) (voDstStride d) (voRowD d)
      || (voUses1 d && strideZero (voRows1 d) (voStride1 d) (voRow1 d)) then 0x42
  else 0

/-- What a VECOP that passed its checks does: one piece per row. A ROWSUM or ROWMAX into a block format has one scale byte
per row (log 151). -/
def voRun (spad : Mem) (seed d : Nat) : Run :=
  let op := voOp d
  let cols := voCols d
  let outc := voOutCols d
  let df := voDstFmt d
  let w := voWork d
  let s0 := spad.rows (voFmt0 d) cols (voSrc0 d) (voStride0 d) (voScale0 d) (voRows d)
  let one := decide (voRows1 d = 1)
  let row1 := fun (r : Nat) =>
    if voBinary op then
      let i := if one then 0 else r
      let x := spad.row (voFmt1 d) cols (voSrc1 d + i * voStride1 d) (voScale1 d + i * scaleBytes (voFmt1 d) cols)
      (x.1.values (voFmt1 d), x.1.flags, x.2)
    else ([], 0, false)
  let bias := if op = 0x2A then spad.row 0 cols (voAux d) 0 else (⟨[], [], 0⟩, false)
  let rows := (List.zipIdx s0).map (fun x =>
    let r := x.2
    let y := row1 r
    let (vals, fl) := vecRow op w (fp32.decode (voImm0 d)) (fp32.decode (voImm1 d)) (x.1.1.values (voFmt0 d)) y.1 bias.1.elems
    let e := encodeRow df (voConv d) seed (dSeq d) (r * outc) vals
    ({ writes := rowWrites df (voDst d + r * voDstStride d) (voAux d + r * scaleBytes df outc) 0 e
       bad := x.1.2 || y.2.2 || bias.2 : Piece },
     orFlags [x.1.1.flags, y.2.1, fl, e.2.2]))
  { pieces := rows.map (·.1), flags := orFlags (bias.1.flags :: rows.map (·.2)), matrix := false }

/-- VECOP as queue q holds it on core n. -/
def State.vecop (s : State) (q n d : Nat) : State :=
  let code := voCheck d
  if code ≠ 0 then s.done q code
  else
    let s := s.settleExts n (voInputs d)
    s.finishRun q n (voRun (s.core n).spad (s.queue q).seed.toNat d)

/-- VECOP -/
def execVecop (q : QueueId) (s : State) : Host.Outcome State Fault Refusal := .next (s.portCommand q.toNat 0x18 State.vecop)

end Sys2Proof.Machine
end

