-- ==== Sys2Proof/Machine/Copy.lean ====
section
/-!
DEFINITION. COPY and the data queues (04 R135, R136; 05 R163, R164, R167).
-/
namespace Sys2Proof.Machine

open Sys2Proof

/-! ### Fields (R135) -/

def cpPattern (d : Nat) : Nat := fld d 384 32
def cpDstStride (d : Nat) : Nat := fld d 320 40
def cpSrcStride (d : Nat) : Nat := fld d 256 40
def cpRows (d : Nat) : Nat := fld d 216 16
def cpRowBytes (d : Nat) : Nat := fld d 192 24
def cpDstSpace (d : Nat) : Nat := fld d 176 2
def cpDst (d : Nat) : Nat := fld d 128 48
def cpFill (d : Nat) : Bool := bitOf d 114
def cpSrcSpace (d : Nat) : Nat := fld d 112 2
def cpSrc (d : Nat) : Nat := fld d 64 48

def cpTotal (d : Nat) : Nat := cpRows d * cpRowBytes d
/-- A source is read. -/
def cpReads (d : Nat) : Bool := !cpFill d
def cpFromQueue (d : Nat) : Bool := cpReads d && cpSrcSpace d = 3
def cpToQueue (d : Nat) : Bool := cpDstSpace d = 3

def cpDstExt (d : Nat) : Ext := extRows (cpDst d) (cpRows d) (cpDstStride d) (cpRowBytes d)
def cpSrcExt (d : Nat) : Ext := extRows (cpSrc d) (cpRows d) (cpSrcStride d) (cpRowBytes d)

/-! ### The check -/

/-- Checks 0x4B and 0x40 to 0x43 (R128, R135). The address of a data queue is no byte address; bits above [23:0] of a
scratchpad address are 0x41 (log 152). -/
def cpCheck (d : Nat) : Nat :=
  let srcMem := cpReads d && cpSrcSpace d ≠ 3
  let dstMem := cpDstSpace d ≠ 3
  let spadBad := fun (space addr : Nat) (e : Ext) => space = 0 && (2 ^ 24 ≤ addr || extOut e)
  if cpReserved d then 0x4B
  else if (cpRowBytes d ||| (if dstMem then cpDst d ||| cpDstStride d else 0)
      ||| (if srcMem then cpSrc d ||| cpSrcStride d else 0)) % 4 ≠ 0
      || ((cpToQueue d || cpFromQueue d) && cpTotal d % 64 ≠ 0) then 0x40
  else if spadBad (cpDstSpace d) (cpDst d) (cpDstExt d) || (cpReads d && spadBad (cpSrcSpace d) (cpSrc d) (cpSrcExt d)) then 0x41
  else if (dstMem && strideShort (cpRows d) (cpDstStride d) (cpRowBytes d))
      || (srcMem && strideShort (cpRows d) (cpSrcStride d) (cpRowBytes d)) then 0x42
  else if srcMem && cpSrcSpace d = cpDstSpace d && extMeet (cpSrcExt d) (cpDstExt d) then 0x43
  else 0

/-- Contiguous parts of `len` bytes from offset `off` of a block of rows. -/
def segments (addr stride rb off len : Nat) : List (Nat × Nat) :=
  if rb = 0 || len = 0 then []
  else (upto ((off + len - 1) / rb - off / rb + 1)).map (fun i =>
    let r := off / rb + i
    let lo := Nat.max off (r * rb)
    let hi := Nat.min (off + len) ((r + 1) * rb)
    (addr + r * stride + (lo - r * rb), hi - lo))

/-- Every part can be accessed by partition p from the die (R188, R135); the first that cannot raises its event. -/
def State.partsOk (s : State) (die p space : Nat) (write : Bool) : List (Nat × Nat) → Bool × State
  | [] => (true, s)
  | (a, n) :: xs =>
    match space with
    | 1 =>
      (match s.pcheck die p a n write with
       | (true, s) => s.partsOk die p space write xs
       | (false, s) => (false, s))
    | 2 => if s.sharedOk p a n then s.partsOk die p space write xs else (false, s)
    | _ => (true, s)

/-- A data queue's address field: bits above the identifier are zero (R135). -/
def queueAddrOk (a : Nat) : Bool := a < 2 ^ 17

/-- The check 0x46: the spaces and their addresses. -/
def State.cpSpaces (s : State) (die p d : Nat) : Bool × State :=
  if (cpToQueue d && cpFromQueue d) || (cpToQueue d && !queueAddrOk (cpDst d)) || (cpFromQueue d && !queueAddrOk (cpSrc d)) then
    (false, s)
  else
    let (ok, s) := s.partsOk die p (cpDstSpace d) true (segments (cpDst d) (cpDstStride d) (cpRowBytes d) 0 (cpTotal d))
    if ok && cpReads d then
      s.partsOk die p (cpSrcSpace d) false (segments (cpSrc d) (cpSrcStride d) (cpRowBytes d) 0 (cpTotal d))
    else (ok, s)

/-- The check 0x17 (R164): the COPY's queue is the one that the data queue names. -/
def State.cpBound (s : State) (q d : Nat) : Bool :=
  let same := fun (x : Queue) => x.cls = 1 && x.partition = (s.queue q).partition
  (!cpToQueue d || (same (s.queue (copyDstQueue d)) && (s.queue (copyDstQueue d)).link0.toNat = q))
    && (!cpFromQueue d || (same (s.queue (copySrcQueue d)) && (s.queue (copySrcQueue d)).link1.toNat = q))

/-! ### Moving bytes -/

/-- Read parts of a space, with their poison marks. -/
def State.getParts (s : State) (n p space : Nat) : List (Nat × Nat) → Option (List (Byte × Bool)) × State
  | [] => (some [], s)
  | (a, len) :: xs =>
    let (got, s) := match space with
      | 1 => s.mread (dieOfCore n) p a len
      | 2 => (some (s.shared.load a len), s.bumpDie (fld a 26 1) 0x4A (some p) (linesOf a len).length)
      | _ => let s := s.settleExts n [extSpan a len]; (some ((s.core n).spad.load a len), s)
    match got with
    | some bs =>
      (match s.getParts n p space xs with
       | (some cs, s) => (some (bs ++ cs), s)
       | (none, s) => (none, s))
    | none => (none, s)

/-- Write parts of a space; false where one cannot be written. -/
def State.putParts (s : State) (n p space : Nat) : List (Nat × Nat) → List (Byte × Bool) → Bool × State
  | [], _ => (true, s)
  | (a, len) :: xs, bs =>
    let (ok, s) := match space with
      | 1 => s.pwrite (dieOfCore n) p a (bs.take len)
      | 2 => (true, s.setShared (s.shared.store a (bs.take len)))
      | _ => (true, (s.overwriteExts n [(a, (bs.take len).map Prod.fst)]).updCore n (fun c => { c with spad := c.spad.store a (bs.take len) }))
    if ok then s.putParts n p space xs (bs.drop len) else (false, s)

/-- `len` bytes of the source from offset `off`: the fill pattern, or what the source holds. -/
def State.cpGet (s : State) (n p d off len : Nat) : Option (List (Byte × Bool)) × State :=
  if cpFill d then (some (clean ((upto len).map (fun i => (leBytes 4 (cpPattern d)).getD ((off + i) % 4) 0))), s)
  else s.getParts n p (cpSrcSpace d) (segments (cpSrc d) (cpSrcStride d) (cpRowBytes d) off len)

def State.cpPut (s : State) (n p d off : Nat) (bs : List (Byte × Bool)) : Bool × State :=
  s.putParts n p (cpDstSpace d) (segments (cpDst d) (cpDstStride d) (cpRowBytes d) off bs.length) bs

/-- Count the lines that a channel moved (R467 codes 0x09 and 0x0A). -/
def State.cpCount (s : State) (n bytes : Nat) (reads writes : Bool) : State :=
  let lines := ceilDiv bytes 64
  let s := if reads then s.bumpCore n 9 lines else s
  if writes then s.bumpCore n 0x0A lines else s

/-- Change the first job of a queue in a phase. -/
def updFirst (ph : JobPhase) (f : Job → Job) : List Job → List Job
  | [] => []
  | j :: js => if j.phase = ph then f j :: js else j :: updFirst ph f js

def State.updJob (s : State) (q : Nat) (ph : JobPhase) (f : Job → Job) : State :=
  s.updQueue q (fun x => { x with jobs := updFirst ph f x.jobs })

/-! ### Data queues (R163) -/

/-- What a slot's move came to. -/
inductive Moved where
  /-- The slot moved. -/
  | one
  /-- No credit, or no slot. -/
  | blocked
  /-- A line cannot be accessed: 0x46. -/
  | failed
  deriving DecidableEq, Repr

/-- Write slot i of a COPY into the data queue: one credit, the slot's poison bit from its bytes. A DISABLED queue makes it
wait (log 155). -/
def State.slotIn (s : State) (n p d i : Nat) : Moved × State :=
  let dq := copyDstQueue d
  let x := s.queue dq
  if x.state = .disabled || x.credits = 0 then (.blocked, s)
  else
    match s.cpGet n p d (64 * i) 64 with
    | (some bs, s) =>
      let bad := bs.any (·.2)
      (match s.pwrite (dieOfQueue dq) x.part (x.slotAddr x.tail.toNat) (bs.map (fun b => (b.1, bad))) with
       | (true, s) =>
         (.one, (s.updQueue dq (fun x => { x with
           tail := BitVec.ofNat 16 ((x.tail.toNat + 1) % x.depth), credits := x.credits - 1 })).creditWriteBack dq)
       | (false, s) => (.failed, s))
    | (none, s) => (.failed, s)

/-- Take slot i of a COPY out of the data queue: its bytes land, and its credit returns. -/
def State.slotOut (s : State) (n p d i : Nat) : Moved × State :=
  let dq := copySrcQueue d
  let x := s.queue dq
  if x.state = .disabled || x.occupied = 0 then (.blocked, s)
  else
    match s.mread (dieOfQueue dq) x.part (x.slotAddr x.head.toNat) 64 with
    | (some bs, s) =>
      (match s.cpPut n p d (64 * i) bs with
       | (true, s) =>
         (.one, (s.updQueue dq (fun x => { x with
           head := BitVec.ofNat 16 ((x.head.toNat + 1) % x.depth), credits := x.credits + 1 })).creditWriteBack dq)
       | (false, s) => (.failed, s))
    | (none, s) => (.failed, s)

/-- One slot of a COPY that names a data queue. -/
def State.moveSlot (s : State) (n p d i : Nat) : Moved × State :=
  if cpToQueue d then s.slotIn n p d i else s.slotOut n p d i

/-- Move slots from number i on, at most `fuel`: how many moved, and what stopped it. -/
def State.moveSlots (n p d : Nat) : Nat → State → Nat → Nat × Moved × State
  | 0, s, i => (i, .one, s)
  | fuel + 1, s, i =>
    match s.moveSlot n p d i with
    | (.one, s) => State.moveSlots n p d fuel s (i + 1)
    | (m, s) => (i, m, s)

/-- The job after its slots up to `i` moved: completed, waiting, or failed. -/
def State.streamEnd (s : State) (q n d : Nat) (ph : JobPhase) (j : Job) (i : Nat) (m : Moved) : State :=
  let into := cpToQueue d
  let s := s.cpCount n (64 * (i - j.prog)) (into && cpReads d) (!into)
  let since := if i = j.prog && ph ≠ .handed then j.since else s.now
  match m with
  | .one => s.finish q ph 0 0 0
  | .blocked => s.updJob q ph (fun j => { j with phase := if into then .waitCredit else .waitData, since := since, prog := i })
  | .failed => s.finish q ph 0x46 0 0

/-- Move what can be moved of a COPY that names a data queue, from its phase `ph`. -/
def State.stream (s : State) (q n d : Nat) (ph : JobPhase) : State :=
  match (s.queue q).jobIn ph with
  | some j =>
    let x := State.moveSlots n (s.queue q).part d (cpTotal d / 64 - j.prog) s j.prog
    x.2.2.streamEnd q n d ph j x.1 x.2.1
  | none => s

/-! ### COPY -/

/-- A COPY between memories: every byte with its mark. -/
def State.copyBlock (s : State) (q n p d : Nat) : State :=
  match s.cpGet n p d 0 (cpTotal d) with
  | (some bs, s) =>
    let (ok, s) := s.cpPut n p d 0 bs
    (s.cpCount n (cpTotal d) (cpReads d) true).done q (if ok then 0 else 0x46)
  | (none, s) => s.done q 0x46

/-- COPY as queue q holds it on core n. -/
def State.copy (s : State) (q n d : Nat) : State :=
  let p := (s.queue q).part
  let code := cpCheck d
  if code ≠ 0 then s.done q code
  else
    let (ok, s) := s.cpSpaces (dieOfCore n) p d
    if !ok then s.done q 0x46
    else if !s.cpBound q d then s.done q 0x17
    else if cpTotal d = 0 then s.done q 1
    else if (cpDstSpace d ≠ 3 && strideZero (cpRows d) (cpDstStride d) (cpRowBytes d))
        || (cpReads d && cpSrcSpace d ≠ 3 && strideZero (cpRows d) (cpSrcStride d) (cpRowBytes d)) then s.done q 0x42
    else if cpToQueue d || cpFromQueue d then s.stream q n d .handed
    else s.copyBlock q n p d

/-- The DMA channel of a queue runs: it is not lent to an ATTN (R265). -/
def State.copyCommand (s : State) (q : Nat) : State :=
  match s.atCore q 2 with
  | some (n, d) =>
    if (s.queue q).lentTo.isSome then s
    else if dOpcode d = 0x20 then s.copy q n d
    else s.done q (wrongOpcode d)
  | none => s

/-- A COPY that waits on data queue dq goes on. -/
def State.streamOn (s : State) (q dq : Nat) (ph : JobPhase) (named : Nat → Nat) : State :=
  match (s.queue q).jobIn ph, (s.queue q).coreOf with
  | some j, some n => if named j.d = dq && !s.asleep then s.stream q n j.d ph else s
  | _, _ => s

/-! ### The commands -/

/-- COPY -/
def execCopy (q : QueueId) (s : State) : Host.Outcome State Fault Refusal := .next (s.copyCommand q.toNat)
/-- DATA_SLOT_ARRIVAL: the consumer takes the slots that have arrived. -/
def execDataSlotArrival (dq : QueueId) (s : State) : Host.Outcome State Fault Refusal :=
  .next (s.streamOn (s.queue dq.toNat).link1.toNat dq.toNat .waitData copySrcQueue)
/-- DATA_CREDIT_RETURN: the producer goes on with the credits that have come back. -/
def execDataCreditReturn (dq : QueueId) (s : State) : Host.Outcome State Fault Refusal :=
  .next (s.streamOn (s.queue dq.toNat).link0.toNat dq.toNat .waitCredit copyDstQueue)

end Sys2Proof.Machine
end

