-- ==== Sys2Proof/Machine/Conv.lean ====
section
/-!
DEFINITION. Convolution and image operators (07): image tensors, CONV, WINDOW.
-/
namespace Sys2Proof.Machine

open Sys2Proof

/-! ### Image tensors (R220, R221) -/

/-- Bytes of a row of pixels, and of a row of their scales. -/
def imgRow (f w c : Nat) : Nat := r32 (w * rowBytes f c)
def imgScale (f w c : Nat) : Nat := if fmtBlock f = 0 then 0 else r32 (w * scaleBytes f c)

/-- A band of rows of an image tensor: what a descriptor holds of its input. -/
structure Band where
  fmt : Nat
  addr : Nat
  saddr : Nat
  rows : Nat
  row0 : Nat
  h : Nat
  w : Nat
  c : Nat
  padMode : Nat
  /-- The padding value as converted to `fmt`: its element value and the flags of its conversion (R229). -/
  padVal : XVal := .zero
  padFlags : Nat := 0

def Band.exts (x : Band) (batch : Nat) : List Ext :=
  [extSpan x.addr (batch * x.rows * imgRow x.fmt x.w x.c), extSpan x.saddr (batch * x.rows * imgScale x.fmt x.w x.c)]

/-- Addresses of the elements and of the scales of pixel (iy, ix) of image b. -/
def Band.at (x : Band) (b iy ix : Nat) : Nat × Nat :=
  let r := b * x.rows + (iy - x.row0)
  (x.addr + r * imgRow x.fmt x.w x.c + ix * rowBytes x.fmt x.c,
   x.saddr + r * imgScale x.fmt x.w x.c + ix * scaleBytes x.fmt x.c)

def Band.held (x : Band) (iy : Nat) : Bool := decide (x.row0 ≤ iy) && decide (iy < x.row0 + x.rows)

def clampTo (n : Nat) (i : Int) : Nat := if i < 0 then 0 else Nat.min i.toNat (n - 1)

/-- The FP32 padding value converted once to the input format, to nearest even with saturation (R229): its element value
and the flags of that. A NaN in an element format without one is a free element (log 1). -/
def padElem (f bits free : Nat) : XVal × Nat :=
  let v := fp32.decode bits
  let (code, fl) := match floatFmt f with
    | some g =>
      if g.top = .none && v.isNan then (free % 2 ^ fmtBits f, 0) else g.encode true .nearest v
    | none =>
      if f = 9 then
        (match v with
         | .nan => (free % 256, 0)
         | .inf neg => (ofSigned 8 (if neg then -127 else 127), flSat)
         | x => blockElem 9 .nearest 0 x)
      else encodeInt (fmtBits f) .nearest v
  (elemVal f code, fl % 8 / 4 * 4 ||| readFlags f code)

/-! ### Taps (R222, R229) -/

/-- What a tap reads. -/
inductive Tap where
  | skip
  | pad
  | read (iy ix : Nat)
  deriving DecidableEq, Repr

def tapPos (o st pad r di : Nat) : Int := (o * st + r * di : Nat) - (pad : Int)

def inside (n : Nat) (i : Int) : Bool := decide (0 ≤ i) && decide (i < n)

/-- The tap at an input position, by the padding mode. -/
def Band.tap (x : Band) (iy ix : Int) : Tap :=
  if inside x.h iy && inside x.w ix then .read iy.toNat ix.toNat
  else match x.padMode with
    | 0 => .skip
    | 1 => .pad
    | _ => .read (clampTo x.h iy) (clampTo x.w ix)

/-- A window over the input: filter, stride, dilation and padding. -/
structure Filter where
  fh : Nat
  fw : Nat
  sh : Nat
  sw : Nat
  dh : Nat
  dw : Nat
  padT : Nat
  padL : Nat

/-- The taps of output pixel (y, x) in row-major order. -/
def Filter.taps (g : Filter) (im : Band) (y x : Nat) : List Tap :=
  (upto g.fh).flatMap (fun r => (upto g.fw).map (fun c => im.tap (tapPos y g.sh g.padT r g.dh) (tapPos x g.sw g.padL c g.dw)))

/-- Some tap of the output reads a row that is not held (0x4C). -/
def Filter.halo (g : Filter) (im : Band) (ys : List Nat) (outW : Nat) : Bool :=
  let cols := decide (im.padMode = 2 ∧ 0 < g.fw ∧ 0 < outW) ||
    (upto outW).any (fun x => (upto g.fw).any (fun c => inside im.w (tapPos x g.sw g.padL c g.dw)))
  cols && ys.any (fun y => (upto g.fh).any (fun r =>
    let iy := tapPos y g.sh g.padT r g.dh
    (im.padMode = 2 || inside im.h iy) && !im.held (clampTo im.h iy)))

/-- Some field of the window is zero: 0x18 (R178). -/
def Filter.zero (g : Filter) : Bool := g.fh = 0 || g.fw = 0 || g.sh = 0 || g.sw = 0 || g.dh = 0 || g.dw = 0

/-- A breach of the window's limits (R228); a zero field is exempt with every limit computed from it (R176). -/
def Filter.over (g : Filter) (inH inW outRow0 outH outW : Nat) : Bool :=
  decide (32 < g.fh) || decide (32 < g.fw) || decide (16 < g.sh) || decide (16 < g.sw) || decide (64 < g.dh) || decide (64 < g.dw)
    || (g.fh ≠ 0 && g.dh ≠ 0 && (g.fh - 1) * g.dh < g.padT) || (g.fw ≠ 0 && g.dw ≠ 0 && (g.fw - 1) * g.dw < g.padL)
    || (g.sh ≠ 0 && outH ≠ 0 && inH + g.padT ≤ (outRow0 + outH - 1) * g.sh)
    || (g.sw ≠ 0 && outW ≠ 0 && inW + g.padL ≤ (outW - 1) * g.sw)

/-- What a tap gives: each channel's element and scale, the flags of reading them, poison. -/
structure Got where
  chans : Option (List (XVal × XVal))
  flags : Nat := 0
  bad : Bool := false

def Tap.fetch (spad : Mem) (im : Band) (b : Nat) : Tap → Got
  | .skip => { chans := none }
  | .pad => { chans := some (List.replicate im.c (im.padVal, .fin false 1 0)), flags := im.padFlags }
  | .read iy ix =>
    let (a, sa) := im.at b iy ix
    let (row, bad) := spad.row im.fmt im.c a sa
    let bl := fmtBlock im.fmt
    { chans := some ((List.zipIdx row.elems).map (fun e =>
        (e.1, if bl = 0 then .fin false 1 0 else row.scales.getD (e.2 / bl) .nan)))
      flags := row.flags, bad := bad }

/-- Values with the block scale applied, as the vector engine loads them: a block format in FP32 (R106), else exact. -/
def Got.values (f : Nat) (x : Got) : Option (List XVal) :=
  x.chans.map (fun cs => cs.map (fun c => if fmtBlock f = 0 then c.1 else fp32.round (c.1.mul c.2)))

/-! ### Outputs -/

/-- Where an output pixel goes: image b, row y' of the written rows, column x. -/
structure Out where
  fmt : Nat
  conv : Nat
  addr : Nat
  saddr : Nat
  h : Nat
  w : Nat
  c : Nat

def Out.exts (x : Out) (batch : Nat) : List Ext :=
  [extSpan x.addr (batch * x.h * imgRow x.fmt x.w x.c), extSpan x.saddr (batch * x.h * imgScale x.fmt x.w x.c)]

/-- Pixels of the output, in the order b, y, x (R225). -/
def Out.pixels (x : Out) (batch : Nat) : List (Nat × Nat × Nat) :=
  (upto batch).flatMap (fun b => (upto x.h).flatMap (fun y => (upto x.w).map (fun c => (b, y, c))))

/-- The writes of 32 channels of a pixel from channel c0 on, and their flags. -/
def Out.write (x : Out) (seed seq : Nat) (px : Nat × Nat × Nat) (c0 : Nat) (vals : List XVal) :
    List (Nat × List Byte) × Nat :=
  let (b, y, cx) := px
  let e := encodeRow x.fmt x.conv seed seq (((b * x.h + y) * x.w + cx) * x.c + c0) vals
  (rowWrites x.fmt (x.addr + (b * x.h + y) * imgRow x.fmt x.w x.c + cx * rowBytes x.fmt x.c)
    (x.saddr + (b * x.h + y) * imgScale x.fmt x.w x.c + cx * scaleBytes x.fmt x.c) c0 e, e.2.2)

/-- A whole pixel as one piece. -/
def Out.pixel (x : Out) (seed seq : Nat) (px : Nat × Nat × Nat) (vals : List XVal) (flags : Nat) (bad : Bool) : Piece × Nat :=
  let (ws, fl) := x.write seed seq px 0 vals
  ({ writes := ws, bad := bad }, flags ||| fl)

/-! ### CONV: fields (R227) -/

def cvPadL (d : Nat) : Nat := fld d 499 11
def cvPadT (d : Nat) : Nat := fld d 488 11
def cvFilter (d : Nat) : Filter :=
  { fh := fld d 452 6, fw := fld d 458 6, sh := fld d 464 5, sw := fld d 469 5, dh := fld d 474 7, dw := fld d 481 7
    padT := cvPadT d, padL := cvPadL d }
def cvBatch (d : Nat) : Nat := fld d 444 8
def cvGroups (d : Nat) : Nat := if fld d 428 16 = 0 then 1 else fld d 428 16
def cvOutRow0 (d : Nat) : Nat := fld d 412 16
def cvOutC (d : Nat) : Nat := fld d 396 16
def cvOutW (d : Nat) : Nat := fld d 380 16
def cvOutH (d : Nat) : Nat := fld d 364 16
def cvInC (d : Nat) : Nat := fld d 316 16
def cvPadValue (d : Nat) : Nat := fld d 252 32
def cvPadMode (d : Nat) : Nat := fld d 250 2
def cvBias (d : Nat) : Bool := bitOf d 249
def cvBiasAddr (d : Nat) : Nat := fld d 225 24
def cvWFmt (d : Nat) : Nat := fld d 164 4
def cvWScale (d : Nat) : Nat := fld d 140 24
def cvW (d : Nat) : Nat := fld d 116 24
def cvInFmt (d : Nat) : Nat := fld d 112 4

def cvBand (d : Nat) (pad : XVal × Nat) : Band :=
  { fmt := cvInFmt d, addr := fld d 64 24, saddr := fld d 88 24, rows := fld d 348 16 + 1, row0 := fld d 332 16
    h := fld d 284 16 + 1, w := fld d 300 16 + 1, c := cvInC d, padMode := cvPadMode d, padVal := pad.1, padFlags := pad.2 }

def cvOut (d : Nat) : Out :=
  { fmt := fld d 216 4, conv := fld d 220 5, addr := fld d 168 24, saddr := fld d 192 24, h := cvOutH d, w := cvOutW d
    c := cvOutC d }

/-- Channels of a group, and the depthwise path (R224). -/
def cvCg (d : Nat) : Nat := cvInC d / cvGroups d
def cvNg (d : Nat) : Nat := cvOutC d / cvGroups d
def cvDepth (d : Nat) : Bool := cvInC d = cvGroups d

/-- Reduction slots of a tap (R225), and the reduction length. -/
def cvSpan (d : Nat) : Nat := if fmtBlock (cvInFmt d) = 0 then cvCg d else 32 * ceilDiv (cvCg d) 32
def cvTaps (d : Nat) : Nat := (cvFilter d).fh * (cvFilter d).fw
def cvK (d : Nat) : Nat := cvTaps d * cvSpan d

/-- Rows of the weights and elements of a row (R226, R233). -/
def cvWRows (d : Nat) : Nat × Nat := if cvDepth d then (cvTaps d, cvOutC d) else (cvOutC d, cvK d)

/-! ### CONV: the check (R228) -/

def cvFormats (d : Nat) : Nat :=
  let a := cvInFmt d
  let b := cvWFmt d
  let o := (cvOut d).fmt
  let cv := convCheck (cvOut d).conv o
  if a = 15 || b = 15 || o = 15 then 0x30
  else if !fmtMatrixA a || !fmtMatrixB b || !fmtVector o || (cvDepth d && b = 14) then 0x32
  else if (pairOf a b).isNone then 0x31
  else if cv ≠ 0 then cv
  else if 2 ^ 24 < cvK d then 0x35
  else 0

def cvInputs (d : Nat) : List Ext :=
  let (r, n) := cvWRows d
  (cvBand d (.zero, 0)).exts (cvBatch d) ++
  [extSpan (cvW d) (r * r32 (rowBytes (cvWFmt d) n)), extSpan (cvWScale d) (r * scaleBytes (cvWFmt d) n),
   extSpan (cvBiasAddr d) (if cvBias d then 4 * cvOutC d else 0)]

def cvLimits (d : Nat) : Bool :=
  let im := cvBand d (.zero, 0)
  (cvFilter d).over im.h im.w (cvOutRow0 d) (cvOutH d) (cvOutW d)
    || decide (im.h < im.row0 + im.rows)
    || cvInC d % cvGroups d ≠ 0 || cvOutC d % cvGroups d ≠ 0
    || (fmtBlock im.fmt ≠ 0 && 1 < cvGroups d && cvCg d % 32 ≠ 0)

/-- The check of a CONV, with the outcome of its zero fields last; 0 where it runs. -/
def cvCheck (d : Nat) (h : Option Held) : Nat :=
  let f := cvFormats d
  let im := cvBand d (.zero, 0)
  let o := cvOut d
  let g := cvFilter d
  let outs := o.exts (cvBatch d)
  if cvReserved d then 0x4B
  else if f ≠ 0 then f
  else if (im.addr ||| o.addr ||| cvW d ||| (if fmtBlock im.fmt ≠ 0 then im.saddr else 0)
      ||| (if fmtBlock o.fmt ≠ 0 then o.saddr else 0) ||| (if fmtBlock (cvWFmt d) ≠ 0 then cvWScale d else 0)
      ||| (if cvBias d then cvBiasAddr d else 0)) % 32 ≠ 0 then 0x40
  else if (cvInputs d ++ outs).any extOut then 0x41
  else if outs.any (fun x => (cvInputs d).any (extMeet x)) then 0x43
  else if h.isSome then 0x44
  else if cvLimits d then 0x4D
  else if !g.zero && g.halo im ((upto o.h).map (· + cvOutRow0 d)) o.w then 0x4C
  else if cvBatch d = 0 || o.h = 0 || o.w = 0 || o.c = 0 || im.c = 0 then 1
  else if g.zero then 0x18
  else 0

/-! ### CONV: the matrix path (R225, R226, R229) -/

/-- A slot of a gathered row: an element with its scale, none in a skipped tap. -/
abbrev Slot := Option (XVal × XVal)

/-- The slots of a tap for group g. -/
def tapSlots (d g : Nat) (x : Got) : List Slot :=
  match x.chans with
  | none => List.replicate (cvSpan d) none
  | some cs =>
    ((cs.drop (g * cvCg d)).take (cvCg d)).map some ++ List.replicate (cvSpan d - cvCg d) (some (XVal.zero, .fin false 1 0))

/-- A row of weights: slots beyond C_g are zero, whatever is stored there (R226). -/
def weightRow (spad : Mem) (d o : Nat) : Row × Bool :=
  let f := cvWFmt d
  let k := cvK d
  let rb := rowBytes f k
  let addr := cvW d + o * r32 rb
  let sa := cvWScale d + o * scaleBytes f k
  let v := leNat (spad.read addr rb)
  let w := fmtBits f
  let cs := (upto k).map (fun i => if i % cvSpan d < cvCg d then fld v (w * i) w else 0)
  let sc := (spad.read sa (scaleBytes f k)).map (fun b => scaleVal f b.toNat)
  ({ elems := cs.map (elemVal f), scales := sc,
     flags := orFlags (cs.map (readFlags f)) ||| (if sc.any XVal.isNan then flNanIn else 0) },
   spad.bad addr rb || spad.bad sa (scaleBytes f k))

/-- The slots of a group that hold a value, with their weights. -/
def presentPairs : List Slot → List XVal → List ((XVal × XVal) × XVal)
  | some a :: as, w :: ws => (a, w) :: presentPairs as ws
  | none :: as, _ :: ws => presentPairs as ws
  | _, _ => []

/-- The reduction over a gathered row in groups of 32 slots: the accumulator's value, and the groups not compared. A
group of skipped taps alone adds nothing (R229). -/
def gatherDot (p : Pair) (scale : Nat → XVal) : Nat → Nat → List Slot → List XVal → XVal → Nat → XVal × Nat
  | 0, _, _, _, acc, k => (acc, k)
  | n + 1, g, as, ws, acc, k =>
    if as.isEmpty then (acc, k)
    else
      let ps := presentPairs (as.take 32) (ws.take 32)
      let xs := ps.map (fun x => x.1.1)
      let ys := ps.map (fun x => x.2)
      let (acc, sp) := match ps with
        | [] => (acc, false)
        | x :: _ =>
          if p = .wide then wideRun xs ys acc acc.special
          else
            let sc := x.1.2.mul (scale g)
            (fp32.round (acc.add (groupValue xs ys sc)), groupSpecial xs ys sc)
      gatherDot p scale n (g + 1) (as.drop 32) (ws.drop 32) acc (k + b2n sp)

/-- One output element's accumulator. -/
def gatherElem (p : Pair) (wf : Nat) (as : List Slot) (w : Row) (init : Nat) : Nat × Nat :=
  match p with
  | .int =>
    let ps := presentPairs as w.elems
    (ofSigned 40 (intDot (ps.map (fun x => x.1.1)) (ps.map (fun x => x.2)) (toSigned 40 init)), 0)
  | _ =>
    let (v, k) := gatherDot p (fun g => w.scaleAt wf g) (as.length + 1) 0 as w.elems (fp32.decode init) 0
    ((fp32.encode false .nearest v).1, k)

/-- init(o) as an accumulator (R223), and whether its line is poisoned. -/
def biasInit (spad : Mem) (d : Nat) (p : Pair) (o : Nat) : Nat × Bool :=
  if cvBias d then
    let a := cvBiasAddr d + 4 * o
    let v := leNat (spad.read a 4)
    (if p = .int then ofSigned 40 (toSigned 32 v) else v, spad.bad a 4)
  else (0, false)

/-- Whether reading init(o) reads a NaN. -/
def biasFlags (d : Nat) (p : Pair) (init : Nat) : Nat :=
  if cvBias d && p ≠ .int && (fp32.decode init).isNan then flNanIn else 0

def cvMatrix (spad : Mem) (seed d : Nat) (pad : XVal × Nat) : Run :=
  let p := (pairOf (cvInFmt d) (cvWFmt d)).getD .narrow
  let im := cvBand d pad
  let o := cvOut d
  let ws := (upto (cvOutC d)).map (weightRow spad d)
  let bs := (upto (cvOutC d)).map (biasInit spad d p)
  let px := (o.pixels (cvBatch d)).map (fun x =>
    let taps := (cvFilter d).taps im (x.2.1 + cvOutRow0 d) x.2.2
    let got := taps.map (Tap.fetch spad im x.1)
    let rows := (upto (cvGroups d)).map (fun g => got.flatMap (tapSlots d g))
    let elems := (List.zipIdx (List.zip ws bs)).map (fun w =>
      gatherElem p (cvWFmt d) (rows.getD (w.2 / cvNg d) []) w.1.1.1 w.1.2.1)
    let out := elems.map (fun e => drained p e.1)
    let inBad := got.any (·.bad)
    let pieces := (upto (ceilDiv (cvOutC d) 32)).map (fun j =>
      let (wr, fl) := o.write seed (dSeq d) x (32 * j) (((out.drop (32 * j)).take 32).map (·.1))
      ({ writes := wr, bad := inBad || ((ws.drop (32 * j)).take 32).any (·.2) || ((bs.drop (32 * j)).take 32).any (·.2)
         skipped := (((elems.drop (32 * j)).take 32).map Prod.snd).sum : Piece }, fl))
    (pieces.map (·.1), orFlags (got.map (·.flags) ++ out.map (·.2) ++ pieces.map (·.2)),
      taps.countP (fun (t : Tap) => decide (t = Tap.skip))))
  { pieces := px.flatMap (·.1)
    flags := orFlags (px.map (·.2.1) ++ ws.map (fun w => w.1.flags) ++ bs.map (fun b => biasFlags d p b.1))
    ops := 2 * cvBatch d * cvOutH d * cvOutW d * cvOutC d * (cvTaps d * cvCg d)
    taps := (px.map (·.2.2)).sum }

/-- Some group of the k-chunk, of an output channel named and a pixel of the row tile, is compared (R109). -/
def cvCompared (spad : Mem) (d : Nat) (pad : XVal × Nat) (tileRow o kchunk chunk : Nat) : Bool :=
  let p := (pairOf (cvInFmt d) (cvWFmt d)).getD .narrow
  let im := cvBand d pad
  let w := (weightRow spad d o).1
  let init := (biasInit spad d p o).1
  let lo := kchunk * chunk
  let hi := Nat.min (cvK d) (lo + chunk)
  (((cvOut d).pixels (cvBatch d)).drop (128 * tileRow)).take 128 |>.any (fun x =>
    let got := ((cvFilter d).taps im (x.2.1 + cvOutRow0 d) x.2.2).map (Tap.fetch spad im x.1)
    let row := got.flatMap (tapSlots d (o / cvNg d))
    let skips := fun (n : Nat) => (gatherElem p (cvWFmt d) (row.take n) w init).2
    let live := (runs 32 (hi - lo) ((row.drop lo).take (hi - lo))).countP (fun g => g.any Option.isSome)
    decide (skips hi - skips lo < live))

/-! ### CONV: the depthwise path (R232–R236) -/

def cvDepthRun (spad : Mem) (seed d : Nat) (pad : XVal × Nat) : Run :=
  let p := (pairOf (cvInFmt d) (cvWFmt d)).getD .narrow
  let im := cvBand d pad
  let o := cvOut d
  let n := cvOutC d
  let wf := cvWFmt d
  let ws := (upto (cvTaps d)).map (fun t => spad.row wf n (cvW d + t * r32 (rowBytes wf n)) (cvWScale d + t * scaleBytes wf n))
  let wv := ws.map (fun w => (w.1.values wf).map (fun v => if fmtBlock wf = 0 then v else fp32.round v))
  let bs := (upto n).map (biasInit spad d p)
  let m := cvNg d
  let px := (o.pixels (cvBatch d)).map (fun x =>
    let taps := (cvFilter d).taps im (x.2.1 + cvOutRow0 d) x.2.2
    let got := taps.map (Tap.fetch spad im x.1)
    let vals := got.map (Got.values im.fmt)
    let out := (upto n).map (fun c =>
      let init := (bs.getD c (0, false)).1
      let pairs := (List.zip vals wv).filterMap (fun t => t.1.map (fun cs => (cs.getD (c / m) .zero, t.2.getD c .zero)))
      if p = .int then
        drained p (ofSigned 40 (intDot (pairs.map (·.1)) (pairs.map (·.2)) (toSigned 40 init)))
      else (pairs.foldl (fun acc t => fp32.round ((t.1.mul t.2).add acc)) (fp32.decode init), 0))
    let (pc, fl) := o.pixel seed (dSeq d) x (out.map (·.1)) (orFlags (got.map (·.flags) ++ out.map (·.2)))
      (got.any (·.bad) || ws.any (·.2) || bs.any (·.2))
    (pc, fl, taps.countP (fun (t : Tap) => decide (t = Tap.skip))))
  { pieces := px.map (·.1)
    flags := orFlags (px.map (·.2.1) ++ ws.map (fun w => w.1.flags) ++ bs.map (fun b => biasFlags d p b.1))
    taps := (px.map (·.2.2)).sum }

/-- What a CONV that passed its checks does. -/
def cvRun (spad : Mem) (seed d free : Nat) : Run :=
  let pad := padElem (cvInFmt d) (cvPadValue d) free
  if cvDepth d then cvDepthRun spad seed d pad else cvMatrix spad seed d pad

/-- Column tiles of a group (R121): the groups are walked one after another. -/
def cvHit (d tileRow tileCol i : Nat) : Bool :=
  let chunks := ceilDiv (cvOutC d) 32
  let per := ceilDiv (cvNg d) 128
  let lo := (tileCol / per) * cvNg d + 128 * (tileCol % per)
  let hi := Nat.min (lo + 128) ((tileCol / per + 1) * cvNg d)
  decide (i / chunks / 128 = tileRow) && decide (32 * (i % chunks) < hi) && decide (lo < 32 * (i % chunks) + 32)

/-- Run a descriptor of the vector path: counted (R236, R242). -/
def State.vectorPath (s : State) (q n : Nat) (r : Run) : State :=
  (s.odInc (0x2110 + n) 0x14 1).finishRun q n r

/-- CONV as queue q holds it on core n. -/
def State.conv (s : State) (q n d : Nat) : State :=
  let code := cvCheck d (s.core n).held
  if code ≠ 0 then s.done q code
  else
    let (f, s) := (s.settleExts n (cvInputs d)).drawNat
    let r := cvRun (s.core n).spad (s.queue q).seed.toNat d f
    if cvDepth d then s.vectorPath q n r else s.finishRun q n r

/-! ### WINDOW: fields (R237) -/

def wnStepX (d : Nat) : Nat := fld d 478 32
def wnStepY (d : Nat) : Nat := fld d 446 32
def wnFilter (d : Nat) : Filter :=
  { fh := fld d 388 6, fw := fld d 394 6, sh := fld d 400 5, sw := fld d 405 5, dh := fld d 410 7, dw := fld d 417 7
    padT := fld d 424 11, padL := fld d 435 11 }
def wnBatch (d : Nat) : Nat := fld d 380 8
def wnOutRow0 (d : Nat) : Nat := fld d 364 16
def wnPadValue (d : Nat) : Nat := fld d 204 32
def wnPadMode (d : Nat) : Nat := fld d 202 2
def wnAux (d : Nat) : Bool := bitOf d 201
def wnAuxAddr (d : Nat) : Nat := fld d 177 24
def wnMode (d : Nat) : Nat := fld d 116 4

def wnBand (d : Nat) (pad : XVal × Nat) : Band :=
  { fmt := fld d 112 4, addr := fld d 64 24, saddr := fld d 88 24, rows := fld d 300 16 + 1, row0 := fld d 284 16
    h := fld d 236 16 + 1, w := fld d 252 16 + 1, c := fld d 268 16, padMode := wnPadMode d, padVal := pad.1, padFlags := pad.2 }

def wnOut (d : Nat) : Out :=
  { fmt := fld d 168 4, conv := fld d 172 5, addr := fld d 120 24, saddr := fld d 144 24, h := fld d 316 16
    w := fld d 332 16, c := fld d 348 16 }

def wnPool (d : Nat) : Bool := wnMode d ≤ 2
def wnDefined (m : Nat) : Bool := [0, 1, 2, 4, 5, 8, 10, 11].contains m

/-! ### WINDOW: the check (R228, R238) -/

def wnFormats (d : Nat) : Nat :=
  let a := (wnBand d (.zero, 0)).fmt
  let o := (wnOut d).fmt
  if a = 15 || o = 15 then 0x30
  else if !fmtVector a || !fmtVector o || (wnMode d = 8 && o ≠ 12 && o ≠ 13) then 0x32
  else convCheck (wnOut d).conv o

/-- The value plane of ARGMAX. -/
def wnAuxExt (d : Nat) : Ext :=
  extSpan (wnAuxAddr d) (if wnMode d = 8 && wnAux d then wnBatch d * (wnOut d).h * r32 (4 * (wnOut d).w) else 0)

def wnLimits (d : Nat) : Bool :=
  let im := wnBand d (.zero, 0)
  let o := wnOut d
  let g := wnFilter d
  let b := g.sh
  let step := fun (x : Nat) => decide (x < 0x1000) || decide (0x100000 < x)
  let sameC := o.c ≠ 0 && im.c ≠ 0 && o.c ≠ im.c
  let block := decide (8 < g.sh) || decide (8 < g.sw) || (g.sh ≠ 0 && g.sw ≠ 0 && g.sh ≠ g.sw)
  decide (im.h < im.row0 + im.rows) || (match wnMode d with
    | 4 | 5 => sameC || step (wnStepY d) || step (wnStepX d)
    | 8 => (o.c ≠ 0 && o.c ≠ 1) || (o.w ≠ 0 && o.w ≠ im.w) || (o.fmt = 12 && 32768 < im.c)
    | 10 => block || (b ≠ 0 && o.c ≠ 0 && im.c ≠ 0 && o.c ≠ im.c * b ^ 2) || (b ≠ 0 && o.w ≠ 0 && o.w ≠ ceilDiv im.w b)
    | 11 => block || (b ≠ 0 && o.c ≠ 0 && im.c ≠ 0 && im.c ≠ o.c * b ^ 2) || (b ≠ 0 && o.w ≠ 0 && o.w ≠ im.w * b)
    | _ => sameC || g.over im.h im.w (wnOutRow0 d) o.h o.w)

/-- The position of an output row or column in the source, in units of 2⁻¹⁷ (R240): its integer part and fraction. -/
def srcPos (y step : Nat) : Int × Nat :=
  let p : Int := ((2 * y + 1) * step : Nat) - 65536
  (p / 131072, (p % 131072).toNat)

/-- Source rows that an output row reads, by mode, other than those of a window. -/
def wnRows (d : Nat) (im : Band) (y : Nat) : List Nat :=
  let b := (wnFilter d).sh
  match wnMode d with
  | 4 => [Nat.min ((2 * y + 1) * wnStepY d / 131072) (im.h - 1)]
  | 5 => let i := (srcPos y (wnStepY d)).1; [clampTo im.h i, clampTo im.h (i + 1)]
  | 8 => [y]
  | 10 => (upto b).filterMap (fun dy =>
      if y * b + dy < im.h then some (y * b + dy) else if wnPadMode d = 2 then some (im.h - 1) else none)
  | _ => [y / b]

/-- The fields of R178 that a mode uses are zero: 0x18. -/
def wnZero (d : Nat) : Bool :=
  let g := wnFilter d
  if wnPool d then g.zero else if wnMode d = 10 || wnMode d = 11 then g.sh = 0 || g.sw = 0 else false

def wnCheck (d : Nat) : Nat :=
  let f := wnFormats d
  let im := wnBand d (.zero, 0)
  let o := wnOut d
  let ys := (upto o.h).map (· + wnOutRow0 d)
  let outs := o.exts (wnBatch d) ++ [wnAuxExt d]
  let ins := im.exts (wnBatch d)
  if wnReserved d then 0x4B
  else if !wnDefined (wnMode d) then 0x4E
  else if f ≠ 0 then f
  else if (im.addr ||| o.addr ||| (if fmtBlock im.fmt ≠ 0 then im.saddr else 0)
      ||| (if fmtBlock o.fmt ≠ 0 then o.saddr else 0) ||| (if wnMode d = 8 && wnAux d then wnAuxAddr d else 0)) % 32 ≠ 0 then 0x40
  else if (ins ++ outs).any extOut then 0x41
  else if outs.any (fun x => ins.any (extMeet x)) then 0x43
  else if wnLimits d then 0x4D
  else if !wnZero d && (if wnPool d then (wnFilter d).halo im ys o.w
      else o.w ≠ 0 && ys.any (fun y => (wnRows d im y).any (fun r => !im.held r))) then 0x4C
  else if wnBatch d = 0 || o.h = 0 || o.w = 0 || o.c = 0 || im.c = 0 then 1
  else if wnZero d then 0x18
  else 0

/-! ### WINDOW: the modes (R239–R242) -/

/-- The result of a pooling window over one channel: the taps that are not skipped, in order. -/
def poolElem (mode n : Nat) (xs : List XVal) : XVal :=
  match xs with
  | [] => .zero
  | x :: r =>
    if mode = 0 then r.foldl XVal.max x
    else
      let t := r.foldl (fun a v => add32 a (fp32.round v)) (fp32.round x)
      div32 t (.fin false (if mode = 1 then xs.length else n) 0)

/-- The bilinear blend of R240, every operation rounded to FP32 in its order. -/
def blend (fx fy a b c e : XVal) : XVal :=
  let one : XVal := .fin false 1 0
  let gx := add32 one fx.neg
  let gy := add32 one fy.neg
  add32 (mul32 (add32 (mul32 gx a) (mul32 fx b)) gy) (mul32 (add32 (mul32 gx c) (mul32 fx e)) fy)

def zip4 (f : XVal → XVal → XVal → XVal → XVal) : List XVal → List XVal → List XVal → List XVal → List XVal
  | a :: as, b :: bs, c :: cs, e :: es => f a b c e :: zip4 f as bs cs es
  | _, _, _, _ => []

/-- Index and value of the largest element: the lowest index, a NaN first (R241). -/
def argMax : Nat → List XVal → Option (Nat × XVal) → Nat × XVal
  | _, [], best => best.getD (0, .zero)
  | i, x :: xs, none => argMax (i + 1) xs (some (i, x))
  | i, x :: xs, some (j, v) =>
    let same := v.isZero && x.isZero
    argMax (i + 1) xs (some (if !v.isNan && (x.isNan || (!same && v.below x)) then (i, x) else (j, v)))

/-- Exact values of a pixel, and its flags and poison. -/
def exactPixel (spad : Mem) (im : Band) (b iy ix : Nat) : List XVal × Nat × Bool :=
  let (a, sa) := im.at b iy ix
  let (row, bad) := spad.row im.fmt im.c a sa
  (row.values im.fmt, row.flags, bad)

/-- Element codes of a pixel, as stored. -/
def pixelCodes (spad : Mem) (im : Band) (b iy ix : Nat) : List Nat :=
  let v := leNat (spad.read (im.at b iy ix).1 (rowBytes im.fmt im.c))
  (upto im.c).map (fun i => fld v (fmtBits im.fmt * i) (fmtBits im.fmt))

/-- Flags of an element copied as it is. -/
def codeFlags (f c : Nat) : Nat :=
  let v := elemVal f c
  readFlags f c ||| (if v.isNan then flNanOut else if v.isInf then flInfOut else 0)

/-- The sources of the channels of an output pixel under S2D and D2S, block by block: image row, column, first channel and
channel count; none outside the image. -/
def regroup (d : Nat) (im : Band) (o : Out) (y x : Nat) : List (Option (Nat × Nat × Nat × Nat)) :=
  let b := (wnFilter d).sh
  if wnMode d = 10 then
    (upto b).flatMap (fun dy => (upto b).map (fun dx =>
      let iy := y * b + dy
      let ix := x * b + dx
      if iy < im.h && ix < im.w then some (iy, ix, 0, im.c)
      else if wnPadMode d = 2 then some (Nat.min iy (im.h - 1), Nat.min ix (im.w - 1), 0, im.c)
      else none))
  else [some (y / b, x / b, ((y % b) * b + x % b) * o.c, o.c)]

/-- A regrouped pixel: values converted once, or bytes kept where the formats are the same and have no block scale. -/
def regroupPixel (spad : Mem) (seed d : Nat) (im : Band) (o : Out) (px : Nat × Nat × Nat) : Piece × Nat :=
  let src := regroup d im o (px.2.1 + wnOutRow0 d) px.2.2
  let pad : XVal := if wnPadMode d = 1 then fp32.decode (wnPadValue d) else .zero
  let got := src.map (fun t => match t with
    | some (iy, ix, c0, n) =>
      let (vs, _, bad) := exactPixel spad im px.1 iy ix
      let cs := (pixelCodes spad im px.1 iy ix)
      ((((List.zip vs cs).drop c0).take n).map (fun (x : XVal × Nat) => (x.1, some x.2)), bad)
    | none => (List.replicate im.c (pad, (none : Option Nat)), false))
  let elems := got.flatMap (·.1)
  let bad := got.any (·.2)
  let nanIn := if elems.any (fun x => x.2.isSome && x.1.isNan) then flNanIn else 0
  if im.fmt = o.fmt && fmtBlock o.fmt = 0 then
    let w := fmtBits o.fmt
    let first := ((px.1 * o.h + px.2.1) * o.w + px.2.2) * o.c
    let codes := (List.zipIdx elems).map (fun x => match x.1.2 with
      | some c => (c, codeFlags o.fmt c)
      | none =>
        let mode := cvMode o.conv seed (dSeq d) (first + x.2)
        match floatFmt o.fmt with
        | some g => g.encode (cvSat o.conv) mode pad
        | none => encodeInt w mode pad)
    let a := o.addr + (px.1 * o.h + px.2.1) * imgRow o.fmt o.w o.c + px.2.2 * rowBytes o.fmt o.c
    ({ writes := [(a, leBytes (rowBytes o.fmt o.c) (packCodes w (codes.map (·.1))))], bad := bad }, orFlags (codes.map (·.2)))
  else o.pixel seed (dSeq d) px (elems.map (·.1)) nanIn bad

/-- One output pixel of a WINDOW: its piece, its flags and its skipped taps. -/
def wnPixel (spad : Mem) (seed d : Nat) (im : Band) (px : Nat × Nat × Nat) : Piece × Nat × Nat :=
  let o := wnOut d
  let (b, y', x) := px
  let y := y' + wnOutRow0 d
  match wnMode d with
  | 4 =>
    let iy := Nat.min ((2 * y + 1) * wnStepY d / 131072) (im.h - 1)
    let ix := Nat.min ((2 * x + 1) * wnStepX d / 131072) (im.w - 1)
    let (vs, fl, bad) := exactPixel spad im b iy ix
    let (pc, fl) := o.pixel seed (dSeq d) px vs fl bad
    (pc, fl, 0)
  | 5 =>
    let (iy, fy) := srcPos y (wnStepY d)
    let (ix, fx) := srcPos x (wnStepX d)
    let at_ := fun (i j : Int) => exactPixel spad im b (clampTo im.h i) (clampTo im.w j)
    let ps := [at_ iy ix, at_ iy (ix + 1), at_ (iy + 1) ix, at_ (iy + 1) (ix + 1)]
    let v := fun (i : Nat) => ((ps.map (·.1)).getD i []).map fp32.round
    let vals := zip4 (blend (.fin false fx (-17)) (.fin false fy (-17))) (v 0) (v 1) (v 2) (v 3)
    let (pc, fl) := o.pixel seed (dSeq d) px vals (orFlags (ps.map (·.2.1))) (ps.any (·.2.2))
    (pc, fl, 0)
  | 8 =>
    let (vs, fl, bad) := exactPixel spad im b y x
    let (i, v) := argMax 0 vs none
    let (pc, f1) := o.pixel seed (dSeq d) px [.fin false i 0] fl bad
    if wnAux d then
      let (code, f2) := fp32.encode false .nearest v
      ({ pc with writes := pc.writes ++ [(wnAuxAddr d + (b * o.h + y') * r32 (4 * o.w) + 4 * x, leBytes 4 code)] }, f1 ||| f2, 0)
    else (pc, f1, 0)
  | 10 => let (pc, fl) := regroupPixel spad seed d im o px; (pc, fl, 0)
  | 11 => let (pc, fl) := regroupPixel spad seed d im o px; (pc, fl, 0)
  | m =>
    let taps := (wnFilter d).taps im y x
    let got := taps.map (Tap.fetch spad im b)
    let vals := got.filterMap (Got.values im.fmt)
    let n := (wnFilter d).fh * (wnFilter d).fw
    let out := (upto o.c).map (fun c => poolElem m n (vals.map (fun v => v.getD c .zero)))
    let (pc, fl) := o.pixel seed (dSeq d) px out (orFlags (got.map (·.flags))) (got.any (·.bad))
    (pc, fl, taps.countP (fun (t : Tap) => decide (t = Tap.skip)))

/-- What a WINDOW that passed its checks does: one piece per output pixel. -/
def wnRun (spad : Mem) (seed d free : Nat) : Run :=
  let im := wnBand d (padElem (wnBand d (.zero, 0)).fmt (wnPadValue d) free)
  let px := ((wnOut d).pixels (wnBatch d)).map (wnPixel spad seed d im)
  { pieces := px.map (·.1), flags := orFlags (px.map (·.2.1)), taps := (px.map (·.2.2)).sum, matrix := false }

/-- WINDOW as queue q holds it on core n. -/
def State.window (s : State) (q n d : Nat) : State :=
  let code := wnCheck d
  if code ≠ 0 then s.done q code
  else
    let (f, s) := (s.settleExts n ((wnBand d (.zero, 0)).exts (wnBatch d))).drawNat
    s.vectorPath q n (wnRun (s.core n).spad (s.queue q).seed.toNat d f)

/-! ### The commands -/

/-- CONV -/
def execConv (q : QueueId) (s : State) : Host.Outcome State Fault Refusal := .next (s.portCommand q.toNat 0x11 State.conv)
/-- WINDOW -/
def execWindow (q : QueueId) (s : State) : Host.Outcome State Fault Refusal := .next (s.portCommand q.toNat 0x12 State.window)

end Sys2Proof.Machine
end

