-- ==== Sys2Proof/Machine/Attn.lean ====
section
/-!
DEFINITION. Attention and the KV cache (08): KV pages and their maps, ATTN, invalidation, sweeps and scans; the residue
mismatch row (04 R139).
-/
namespace Sys2Proof.Machine

open Sys2Proof

/-! ### Map entries (R251, R254, R255) -/

def kvValid (e : Nat) : Bool := bitOf e 0
def kvWritable (e : Nat) : Bool := bitOf e 1
def kvLoc (e : Nat) : Nat := fld e 6 2
def kvSize (e : Nat) : Nat := fld e 8 4
def kvPart (e : Nat) : Nat := fld e 15 3
def kvHd (e : Nat) : Nat := fld e 18 2
def kvFmt (e : Nat) : Nat := fld e 20 4
def kvFirst (e : Nat) : Nat := fld e 30 24
def kvFill (e : Nat) : Nat := fld e 54 15
def kvLastUse (e : Nat) : Nat := fld e 69 16
def kvWhere (e : Nat) : Nat := fld e 85 31
def kvGen (e : Nat) : Nat := fld e 116 12
def kvReserved (e : Nat) : Bool := fld e 2 4 ≠ 0 || fld e 12 3 ≠ 0 || fld e 24 6 ≠ 0

/-- Bytes of a page (R251). -/
def kvBytes (e : Nat) : Nat := 4096 * 2 ^ kvSize e
/-- Elements of a head by its code. -/
def hdOf (c : Nat) : Nat := 64 * 2 ^ c

/-- Number of an entry, from a handle's die and index. -/
def kvKey (handle : Nat) : Nat := handle % 2 ^ 20
def kvHandleGen (handle : Nat) : Nat := fld handle 20 12

/-- The present moment in units of last_use. -/
def State.kvNow (s : State) : Nat := fld s.now 24 16

/-! ### Translation (R257, R258) -/

/-- Put an entry in its die's cache; a full cache loses an entry that the spec does not name (log 1). -/
def State.kvCache (s : State) (key e : Nat) : State :=
  let mine := s.kvTlb.only (fun k _ => decide (k / 2 ^ 19 = key / 2 ^ 19))
  if mine.length < 16384 then s.setKvTlb (s.kvTlb.put key e)
  else
    let (r, s) := s.drawNat
    match mine[r % 16384]? with
    | some (k, _) => s.setKvTlb ((s.kvTlb.del k).put key e)
    | none => s.setKvTlb (s.kvTlb.put key e)

/-- The entry an ATTN on core n of partition p uses. Between a change and its invalidation it is the cached or the new
one. -/
def State.kvXlate (s : State) (n p key : Nat) : Nat × State :=
  let cur := s.kvMaps.getD key 0
  match s.kvTlb.find key with
  | some e =>
    if e = cur then (e, s)
    else
      let (b, s) := s.drawBool
      (if b then e else cur, s)
  | none =>
    let s := ((s.kvCache key cur).odInc 0x2260 7 1).bumpCore n 0x0E 1
    (cur, s.bumpDie (key / 2 ^ 19) 0x4B (some p) 1)

/-- Write module-written fields of an entry, in the map and where it is cached. -/
def State.kvUpdate (s : State) (key : Nat) (f : Nat → Nat) : State :=
  let s := s.setKvMaps (s.kvMaps.put key (f (s.kvMaps.getD key 0)))
  match s.kvTlb.find key with
  | some e => s.setKvTlb (s.kvTlb.put key (f e))
  | none => s

/-! ### ATTN: fields (R260) -/

def atStage (d : Nat) : Nat := fld d 448 24
def atRingM (d : Nat) : Nat := fld d 440 8
def atRingG (d : Nat) : Nat := fld d 432 8 + 1
def atPosHi (d : Nat) : Nat := fld d 408 24
def atPosLo (d : Nat) : Nat := fld d 384 24
def atKvFmt (d : Nat) : Nat := fld d 370 4
def atHdCode (d : Nat) : Nat := fld d 368 2
def atHd (d : Nat) : Nat := hdOf (atHdCode d)
def atParts (d : Nat) : Nat := fld d 360 8 + 1
def atStats (d : Nat) : Nat := fld d 336 24
def atScale (d : Nat) : Nat := fld d 304 32
def atVnew (d : Nat) : Nat := fld d 280 24
def atKnew (d : Nat) : Nat := fld d 256 24
def atChans (d : Nat) : Nat := fld d 240 8
def atWindow (d : Nat) : Nat := fld d 216 24 + 1
def atCtx (d : Nat) : Nat := fld d 192 24
def atQRows (d : Nat) : Nat := fld d 184 8
def atHeads (d : Nat) : Nat := fld d 177 7
def atConv (d : Nat) : Nat := fld d 172 5
def atOutFmt (d : Nat) : Nat := fld d 168 4
def atOut (d : Nat) : Nat := fld d 144 24
def atWindowEn (d : Nat) : Bool := bitOf d 143
def atRing (d : Nat) : Bool := bitOf d 136
def atListLen (d : Nat) : Nat := fld d 120 16 + 1
def atList (d : Nat) : Nat := fld d 96 24
def atAppend (d : Nat) : Bool := bitOf d 95
def atMode (d : Nat) : Nat := fld d 92 3
def atQFmt (d : Nat) : Nat := fld d 88 4
def atQ (d : Nat) : Nat := fld d 64 24

def atRows (d : Nat) : Nat := atQRows d * atHeads d
def atMerge (d : Nat) : Bool := atMode d = 2
def atElem (d : Nat) : Nat := fmtBits (atKvFmt d) / 8
/-- Bytes of a key or value row. -/
def atKvRow (d : Nat) : Nat := atHd d * atElem d

/-! ### ATTN: the check (R263) -/

def atFormats (d : Nat) : Nat :=
  let o := atOutFmt d
  let k := atKvFmt d
  let q := atQFmt d
  let outUsed := atMode d ≠ 1
  let outBad := outUsed && (!fmtVector o || fmtBlock o ≠ 0)
  if (outUsed && o = 15) || (!atMerge d && (k = 15 || q = 15)) then 0x30
  else if outBad || (!atMerge d && (!(1 ≤ k && k ≤ 4) || !fmtMatrixA q)) then 0x32
  else if !atMerge d && !(if k = 3 || k = 4 then q = 3 || q = 4 else q = k) then 0x31
  else if outUsed then convCheck (atConv d) o
  else 0

/-- The extents of a descriptor: none may overlap another. -/
def atExts (d : Nat) : List Ext :=
  let rows := atRows d
  let parts := atParts d
  let out := extSpan (atOut d) (rows * r32 (if atMode d = 1 then 4 * atHd d else rowBytes (atOutFmt d) (atHd d)))
  if atMerge d then
    [extSpan (atQ d) (parts * rows * r32 (4 * atHd d)), extSpan (atStats d) (parts * rows * 32), out]
  else
    [extSpan (atQ d) (rows * r32 (rowBytes (atQFmt d) (atHd d))), extSpan (atList d) (4 * atListLen d),
     extSpan (atStage d) (512 * atKvRow d), out,
     extSpan (atKnew d) (if atAppend d then atQRows d * r32 (atKvRow d) else 0),
     extSpan (atVnew d) (if atAppend d then atQRows d * r32 (atKvRow d) else 0),
     extSpan (atStats d) (if atMode d = 1 then rows * 32 else 0)]

/-- Some two extents of a list meet. -/
def anyMeet : List Ext → Bool
  | [] => false
  | x :: xs => xs.any (extMeet x) || anyMeet xs

/-- The limits under 0x96; a zero field is exempt (R176). -/
def atLimits (d : Nat) : Bool :=
  decide (512 < atRows d) || decide (65536 < atRows d * atHd d) || decide (64 < atHeads d)
    || (!atMerge d && (
      (atCtx d ≠ 0 && atCtx d < atQRows d) || (atCtx d ≠ 0 && atCtx d < atPosHi d) || atPosHi d < atPosLo d
        || (atRing d && atRingG d ≤ atRingM d)))

/-- The check of an ATTN before the walk of its list; 0 where it passes. -/
def atCheck (d : Nat) (h : Option Held) : Nat :=
  let f := atFormats d
  if atReserved d then 0x4B
  else if 2 < atMode d then 0x4E
  else if f ≠ 0 then f
  else if (atQ d ||| atOut d ||| (if atMode d = 0 then 0 else atStats d)
      ||| (if atMerge d then 0 else atList d ||| atStage d)
      ||| (if !atMerge d && atAppend d then atKnew d ||| atVnew d else 0)) % 32 ≠ 0 then 0x40
  else if (atExts d).any extOut then 0x41
  else if anyMeet (atExts d) then 0x43
  else if !atMerge d && h.isSome then 0x44
  else if atLimits d then 0x96
  else if !atMerge d && atChans d = 0 then 0x95
  else 0

/-- A no-op: query rows, heads or, where it is used, the context length are zero (R178). -/
def atZero (d : Nat) : Bool := atQRows d = 0 || atHeads d = 0 || (!atMerge d && atCtx d = 0)

/-! ### Positions (R260, R261) -/

/-- Positions that query i attends, before the ring's choice: from, and up to but not including. -/
def atSpan (d i : Nat) : Nat × Nat :=
  let pos := atCtx d - atQRows d + i
  (if atWindowEn d then Nat.max (atPosLo d) (pos + 1 - atWindow d) else atPosLo d, Nat.min (atPosHi d) (pos + 1))

/-- Positions that some query attends, before the ring's choice: the spans of the queries follow one another. -/
def atUnion (d : Nat) : Nat × Nat :=
  if atZero d then (0, 0) else ((atSpan d 0).1, Nat.min (atPosHi d) (atCtx d))

/-- Appended positions. -/
def atNew (d : Nat) : Nat × Nat := if atAppend d && atCtx d ≠ 0 then (atCtx d - atQRows d, atCtx d) else (0, 0)

def cut (x : Nat × Nat) (lo hi : Nat) : Nat × Nat := (Nat.max x.1 lo, Nat.min x.2 hi)
def isSome2 (x : Nat × Nat) : Bool := decide (x.1 < x.2)

/-- Some attended or appended position lies from `lo` up to `hi`. -/
def atNeeds (d lo hi : Nat) : Bool := isSome2 (cut (atUnion d) lo hi) || isSome2 (cut (atNew d) lo hi)

/-- The ring assigns a page to this module. -/
def atMine (d np pos : Nat) : Bool := !atRing d || decide (pos / np % atRingG d = atRingM d)

/-! ### The walk (R263) -/

/-- A page that the descriptor needs. -/
structure KvPage where
  slot : Nat
  key : Nat
  handle : Nat
  e : Nat
  first : Nat
  np : Nat
  deriving DecidableEq, Repr

/-- The attended positions of a page, and the appended ones. -/
def KvPage.att (d : Nat) (x : KvPage) : Nat × Nat :=
  if atMine d x.np x.first then cut (atUnion d) x.first (x.first + x.np) else (0, 0)
def KvPage.new (d : Nat) (x : KvPage) : Nat × Nat := cut (atNew d) x.first (x.first + x.np)

/-- Entry checks: 0x90, then the layout of the entry alone (0x91). -/
def kvOwned (e handle p : Nat) : Bool := kvValid e && kvGen e = kvHandleGen handle && kvPart e = p
def kvNp (d e : Nat) : Nat := kvBytes e / (2 * atKvRow d)
def kvLayout (d e : Nat) : Bool :=
  !kvReserved e && kvSize e ≤ 9 && kvHd e = atHdCode d && kvFmt e = atKvFmt d
    && kvFirst e % kvNp d e = 0 && !(kvLoc e = 1 && kvSize e = 9)

/-- Checks 0x92 and 0x93 of a needed page. -/
def KvPage.extentCode (d : Nat) (x : KvPage) : Nat :=
  let a := x.att d
  let n := x.new d
  let hi := if isSome2 n then Nat.min a.2 (atNew d).1 else a.2
  if Nat.max a.1 (x.first + kvFill x.e) < hi then 0x92
  else if isSome2 n && !kvWritable x.e then 0x93
  else 0

/-- What a walk comes to: the pages needed, or a code with its list slot where one failed. -/
inductive Walk where
  | pages (xs : List KvPage)
  | fail (code : Nat) (slot : Option Nat)

def Walk.cons (x : KvPage) : Walk → Walk
  | .pages xs => .pages (x :: xs)
  | w => w

/-- The walk of a list that is not a ring. `from_` is where the next page must start, none at slot 0. Slots are checked
for 0x90 and 0x91 up to the last one needed, since each gives the place of the next (log 15). -/
def State.walkList (s : State) (n p d : Nat) : List Nat → Nat → Option Nat → Walk × State
  | [], _, from_ => (if atNeeds d (from_.getD 0) (2 ^ 25) then .fail 0x91 none else .pages [], s)
  | h :: hs, i, from_ =>
    if !atNeeds d (from_.getD 0) (2 ^ 25) then (.pages [], s)
    else
      let (e, s) := s.kvXlate n p (kvKey h)
      let first := kvFirst e
      if !kvOwned e h p then (.fail 0x90 (some i), s)
      else if !kvLayout d e || (match from_ with
          | some f => decide (first ≠ f)
          | none => atNeeds d 0 first) then (.fail 0x91 (some i), s)
      else
        let x : KvPage := ⟨i, kvKey h, h, e, first, kvNp d e⟩
        let next := first + x.np
        if atNeeds d first next then
          let c := x.extentCode d
          if c ≠ 0 then (.fail c (some i), s)
          else
            let (w, s) := s.walkList n p d hs (i + 1) (some next)
            (w.cons x, s)
        else s.walkList n p d hs (i + 1) (some next)

/-- The walk of a ring list over the global pages `ks`, whose pages have the size of slot 0's. -/
def State.walkRing (s : State) (n p d size np : Nat) (handles : List Nat) : List Nat → Walk × State
  | [] => (.pages [], s)
  | k :: ks =>
    let i := k / atRingG d % atListLen d
    let h := handles.getD i 0
    let (e, s) := s.kvXlate n p (kvKey h)
    if !kvOwned e h p then (.fail 0x90 (some i), s)
    else if !kvLayout d e || kvSize e ≠ size || kvFirst e ≠ k * np then (.fail 0x91 (some i), s)
    else
      let x : KvPage := ⟨i, kvKey h, h, e, k * np, np⟩
      let c := x.extentCode d
      if c ≠ 0 then (.fail c (some i), s)
      else
        let (w, s) := s.walkRing n p d size np handles ks
        (w.cons x, s)

/-- Global pages of the ring that hold an attended or an appended position. -/
def ringPages (d np : Nat) : List Nat :=
  let pagesOf := fun (x : Nat × Nat) => if isSome2 x then (upto ((x.2 - 1) / np - x.1 / np + 1)).map (· + x.1 / np) else []
  ((pagesOf (atUnion d)).filter (fun k => k % atRingG d = atRingM d) ++ pagesOf (atNew d)).foldl insertNat []

/-- The walk of R263 over the handles. The pages of a ring have the size that slot 0's entry gives (log 15). -/
def State.walk (s : State) (n p d : Nat) (handles : List Nat) : Walk × State :=
  if atRing d then
    if atNeeds d 0 (2 ^ 25) then
      let (e, s) := s.kvXlate n p (kvKey (handles.getD 0 0))
      s.walkRing n p d (kvSize e) (kvNp d e) handles (ringPages d (kvNp d e))
    else (.pages [], s)
  else s.walkList n p d handles 0 none

/-! ### Lent channels (R265) -/

/-- Enabled queues bound to the channels named. -/
def State.channelQueues (s : State) (n mask : Nat) : List Nat :=
  s.queueIds (fun _ y => decide (y.state ≠ .disabled) && decide (y.cls = 0) && decide (y.kind = 2)
    && decide (y.inst / 8 = n) && bitOf mask (y.inst % 8))

/-- A channel's current descriptor has not completed. -/
def Queue.channelBusy (y : Queue) : Bool :=
  y.jobs.any (fun j => match j.phase with
    | .handed | .waitCredit | .waitData => true
    | _ => false)

/-- Take the channels named that are free; whether all of them are taken. -/
def State.lend (s : State) (q n mask : Nat) : Bool × State :=
  let me : Option (BitVec 17) := some (BitVec.ofNat 17 q)
  let s := (s.channelQueues n mask).foldl (fun s k =>
    let y := s.queue k
    if y.lentTo.isNone && !y.channelBusy then s.putQueue k { y with lentTo := me } else s) s
  ((s.channelQueues n mask).all (fun k => (s.queue k).lentTo = me), s)

/-- The channels lent to queue q return, and with them the descriptors that their queues held meanwhile. -/
def State.unlend (s : State) (q : Nat) : State :=
  let me : Option (BitVec 17) := some (BitVec.ofNat 17 q)
  let back := s.queueIds (fun _ y => decide (y.lentTo = me))
  back.foldl State.handHeld (s.setQueues (s.queues.mapVals (fun _ y => if y.lentTo = me then { y with lentTo := none } else y)))

/-! ### Keys and values -/

/-- Space of R135 and address of a page: partition memory or the shared buffer (R255). -/
def kvPlace (e : Nat) : Nat × Nat :=
  if kvLoc e = 1 then (2, 4096 * (kvWhere e % 2 ^ 15)) else (1, 4096 * (kvWhere e % 2 ^ 27))

/-- The parts of positions `x` of a page: their keys, then their values (R252). -/
def KvPage.parts (d : Nat) (p : KvPage) (x : Nat × Nat) : List (Nat × Nat) :=
  let a := (kvPlace p.e).2
  let r := atKvRow d
  if isSome2 x then
    [(a + (x.1 - p.first) * r, (x.2 - x.1) * r), (a + kvBytes p.e / 2 + (x.1 - p.first) * r, (x.2 - x.1) * r)]
  else []

/-- Every part that the descriptor reads or writes can be accessed. -/
def State.kvReach (s : State) (n p d : Nat) : List KvPage → Bool × State
  | [] => (true, s)
  | x :: xs =>
    let (ok, s) := s.partsOk (dieOfCore n) p (kvPlace x.e).1 true (x.parts d (x.new d))
    if ok then
      let (ok, s) := s.partsOk (dieOfCore n) p (kvPlace x.e).1 false (x.parts d (x.att d))
      if ok then s.kvReach n p d xs else (false, s)
    else (false, s)

/-- Write bytes for the appended positions of the pages; `src` gives the key and the value row of an append row. -/
def State.appendRows (s : State) (n p d : Nat) (src : Nat → List (Byte × Bool) × List (Byte × Bool)) :
    List KvPage → State
  | [] => s
  | x :: xs =>
    let w := x.new d
    let is := (upto (w.2 - w.1)).map (fun i => w.1 + i - (atNew d).1)
    let bs := is.flatMap (fun i => (src i).1) ++ is.flatMap (fun i => (src i).2)
    let (_, s) := s.putParts n p (kvPlace x.e).1 (x.parts d w) bs
    (s.cpCount n bs.length false true).appendRows n p d src xs

/-- A key and its value as read, with the poison of their lines. -/
structure KvRow where
  pos : Nat
  k : Row
  v : Row
  bad : Bool

/-- The attended rows of the pages, in increasing position. -/
def State.readRows (s : State) (n p d : Nat) : List KvPage → List KvRow × State
  | [] => ([], s)
  | x :: xs =>
    let a := x.att d
    let r := atKvRow d
    let m := a.2 - a.1
    let (got, s) := s.getParts n p (kvPlace x.e).1 (x.parts d a)
    let bs := got.getD []
    let s := s.cpCount n bs.length true false
    let rows := (upto m).map (fun i =>
      let kb := (bs.drop (i * r)).take r
      let vb := (bs.drop (m * r + i * r)).take r
      ({ pos := a.1 + i, k := decodeRow (atKvFmt d) (atHd d) (kb.map (·.1)) [],
         v := decodeRow (atKvFmt d) (atHd d) (vb.map (·.1)) [], bad := (kb ++ vb).any (·.2) } : KvRow))
    let (more, s) := s.readRows n p d xs
    (rows ++ more, s)

/-! ### Arithmetic (R266) -/

/-- m, l, O as FP32 bits, and the groups not compared. -/
structure Soft where
  m : XVal := .inf true
  l : XVal := .zero
  o : List Nat
  skipped : Nat := 0
  /-- All groups formed. -/
  groups : Nat := 0

/-- One block of at most 128 aligned positions, those that the row attends. -/
def softBlock (p : Pair) (qf kf hd : Nat) (scale : XVal) (q : Row) (a : Soft) (ks : List KvRow) : Soft :=
  let one : XVal := .fin false 1 0
  let ss := ks.map (fun k => accumulate p qf kf q k.k 0)
  let xs := ss.map (fun c => mul32 (fp32.decode c.1) scale)
  let m' := xs.foldl XVal.max a.m
  let al : XVal := if a.m = .inf true then .zero else exp32 (add32 a.m m'.neg)
  let ps := xs.map (fun x => exp32 (add32 x m'.neg))
  let t := match ps with
    | [] => .zero
    | y :: ys => ys.foldl add32 y
  let pv := ps.map (fun y => match floatFmt qf with
    | some g => g.decode (g.encode true .nearest y).1
    | none => y)
  let at_ := List.zip (ks.map (fun k => k.pos % 128)) (List.zip pv (ks.map (·.v.elems)))
  let slots : List Slot := (upto 128).map (fun i => (at_.find? (fun x => x.1 = i)).map (fun x => (x.2.1, one)))
  let cols := (upto hd).map (fun c =>
    let col := (upto 128).map (fun i => ((at_.find? (fun x => x.1 = i)).map (fun x => x.2.2.getD c .zero)).getD .zero)
    let init := mul32 (fp32.decode (a.o.getD c 0)) al
    let (v, k) := gatherDot p (fun _ => one) 5 0 slots col init 0
    ((fp32.encode false .nearest v).1, k))
  { m := m', l := add32 (mul32 a.l al) t, o := cols.map (·.1),
    skipped := a.skipped + (ss.map (·.2)).sum + (cols.map (·.2)).sum
    groups := a.groups + ks.length * ceilDiv hd 32 + hd * (runs 32 4 slots).countP (fun g => g.any Option.isSome) }

/-- The blocks of attended rows, by position ÷ 128. -/
def blocksOf (ks : List KvRow) : List (List KvRow) :=
  ((ks.map (fun k => k.pos / 128)).foldl insertNat []).map (fun b => ks.filter (fun k => k.pos / 128 = b))

/-- The sign of a zero. -/
def XVal.isNeg : XVal → Bool
  | .fin n _ _ => n
  | _ => false

/-- One output row of FINAL and of MERGE: O ÷ l converted once; +0 where l is +0. -/
def finalRow (d seed r : Nat) (o : List XVal) (l : XVal) : List (Nat × List Byte) × Nat :=
  let vals := if l.isZero && !l.isNeg then o.map (fun _ => XVal.zero) else o.map (fun x => div32 x l)
  let e := encodeRow (atOutFmt d) (atConv d) seed (dSeq d) (r * atHd d) vals
  ([(atOut d + r * r32 (rowBytes (atOutFmt d) (atHd d)), e.1)], e.2.2)

/-- Query row r, the key rows that it attends, and its result over their blocks. -/
def softRow (spad : Mem) (d : Nat) (rows : List KvRow) (r : Nat) : (Row × Bool) × List KvRow × Soft :=
  let qf := atQFmt d
  let hd := atHd d
  let q := spad.row qf hd (atQ d + r * r32 (rowBytes qf hd)) 0
  let sp := atSpan d (r / atHeads d)
  let mine := rows.filter (fun (k : KvRow) => decide (sp.1 ≤ k.pos) && decide (k.pos < sp.2))
  (q, mine, (blocksOf mine).foldl (softBlock ((pairOf qf (atKvFmt d)).getD .narrow) qf (atKvFmt d) hd (fp32.decode (atScale d)) q.1)
    { o := List.replicate hd 0 })

/-- Some group of a row of the tile is compared (R109). -/
def atCompared (spad : Mem) (d : Nat) (rows : List KvRow) (tileRow : Nat) : Bool :=
  ((upto (atRows d)).filter (fun r => decide (r / 128 = tileRow))).any (fun r =>
    let a := (softRow spad d rows r).2.2
    decide (a.skipped < a.groups))

/-- What a FINAL or PARTIAL that may run does, over the rows it read. `badNew` is a poisoned append row. -/
def atRun (spad : Mem) (seed d : Nat) (rows : List KvRow) (badNew : Bool) : Run :=
  let hd := atHd d
  let outs : List (Piece × Nat × Nat) := (upto (atRows d)).map (fun (r : Nat) =>
    let ((q, qbad), mine, a) := softRow spad d rows r
    let (ws, fl) :=
      if atMode d = 0 then finalRow d seed r (a.o.map fp32.decode) a.l
      else
        let mc := fp32.encode false .nearest a.m
        let lc := fp32.encode false .nearest a.l
        let oc := a.o.map (fun c => fp32.encode false .nearest (fp32.decode c))
        ([(atOut d + r * r32 (4 * hd), (oc.map (·.1)).flatMap (leBytes 4)), (atStats d + 32 * r, leBytes 4 mc.1 ++ leBytes 4 lc.1)],
          orFlags (mc.2 :: lc.2 :: oc.map (·.2)))
    let piece : Piece := { writes := ws, bad := badNew || qbad || mine.any (·.bad), skipped := a.skipped }
    (piece, q.flags ||| fl, mine.length))
  { pieces := outs.map (·.1)
    flags := orFlags (outs.map (·.2.1) ++ rows.map (fun k => k.k.flags ||| k.v.flags))
    ops := 4 * hd * (outs.map (·.2.2)).sum }

/-- MERGE (R267). Each sum starts from +0, so that a partial of no positions changes no bit (R274). -/
def atMergeRun (spad : Mem) (seed d : Nat) : Run :=
  let hd := atHd d
  let rows := atRows d
  let outs : List (Piece × Nat) := (upto rows).map (fun (r : Nat) =>
    let ts : List (XVal × XVal × List XVal × Nat × Bool) := (upto (atParts d)).map (fun t =>
      let (o, b1) := spad.row 0 hd (atQ d + (t * rows + r) * r32 (4 * hd)) 0
      let (st, b2) := spad.row 0 2 (atStats d + 32 * (t * rows + r)) 0
      (st.elems.getD 0 .nan, st.elems.getD 1 .nan, o.elems, o.flags ||| st.flags, b1 || b2))
    let m := ts.foldl (fun m t => XVal.max m t.1) (.inf true)
    let ws := ts.map (fun t => if t.1 = .inf true then XVal.zero else exp32 (add32 t.1 m.neg))
    let sum := fun (xs : List XVal) => xs.foldl add32 .zero
    let l := sum ((List.zip ts ws).map (fun t => mul32 t.1.2.1 t.2))
    let o := (upto hd).map (fun c => sum ((List.zip ts ws).map (fun t => mul32 (t.1.2.2.1.getD c .zero) t.2)))
    let (w, fl) := finalRow d seed r o l
    let piece : Piece := { writes := w, bad := ts.any (fun t => t.2.2.2.2) }
    (piece, orFlags (fl :: ts.map (fun t => t.2.2.2.1))))
  { pieces := outs.map (·.1), flags := orFlags (outs.map (·.2)), matrix := false }

/-! ### ATTN: its course -/

/-- The handles of the list, and whether a line of it is poisoned. -/
def atHandles (spad : Mem) (d : Nat) : List Nat × Bool :=
  ((upto (atListLen d)).map (fun i => leNat (spad.read (atList d + 4 * i) 4)), spad.bad (atList d) (4 * atListLen d))

def detailOf (slot : Nat) : Nat := slot % 16384

/-- End a waiting or running ATTN with a code. -/
def State.atFail (s : State) (q code detail : Nat) : State := (s.finish q .handed code 0 detail).unlend q

/-- What a FINAL or PARTIAL reads of the scratchpad beside its list; what a MERGE reads. -/
def atInputs (d : Nat) : List Ext :=
  if atMerge d then
    [extSpan (atQ d) (atParts d * atRows d * r32 (4 * atHd d)), extSpan (atStats d) (atParts d * atRows d * 32)]
  else
    let new := if atAppend d then atQRows d * r32 (atKvRow d) else 0
    [extSpan (atQ d) (atRows d * r32 (rowBytes (atQFmt d) (atHd d))), extSpan (atKnew d) new, extSpan (atVnew d) new]

/-- Raise the residency event of a page in the park store, once (R264). -/
def State.raiseKv (s : State) (q n p : Nat) (x : KvPage) : State :=
  match (s.queue q).jobIn .handed with
  | some j =>
    if kvLoc x.e = 2 && !j.raised.contains x.key then
      (((s.updJob q .handed (fun j => { j with raised := j.raised ++ [x.key] })).raisePart (dieOfCore n) p 2
        (x.handle + 2 ^ 32 * n)).odInc 0x2260 8 1)
    else s
  | none => s

/-- Resident: in partition memory or in the shared buffer. -/
def KvPage.resident (x : KvPage) : Bool := kvLoc x.e < 2

/-- Mark the pages as used now; after a success, with the fill of the pages written (R255, R269). -/
def State.usePages (s : State) (d : Nat) (ok : Bool) : List KvPage → State
  | [] => s
  | x :: xs =>
    let t := s.kvNow
    let w := x.new d
    (s.kvUpdate x.key (fun e =>
      let e := setFld e 69 16 t
      if ok && isSome2 w then setFld e 54 15 (Nat.max (kvFill e) (w.2 - x.first)) else e)).usePages d ok xs

/-- The staging area after an ATTN: the spec does not say what it holds (log 1). -/
def State.stage (s : State) (n d : Nat) : State :=
  let (k, s) := s.drawNat
  (s.overwriteExts n [(atStage d, (upto (512 * atKvRow d)).map (Config.freeByte k))]).updCore n (fun c => { c with spad := c.spad.write (atStage d) ((upto (512 * atKvRow d)).map (Config.freeByte k)) })

/-- A FINAL or PARTIAL that may run: its appended rows written, and the rows that it reads; whether an append row is
poisoned. -/
def State.atLoad (s : State) (q n d : Nat) (pages : List KvPage) : (List KvRow × Bool) × State :=
  let p := (s.queue q).part
  let s := s.settleExts n (atInputs d)
  let spad := (s.core n).spad
  let r := atKvRow d
  let src := fun i => (spad.load (atKnew d + i * r32 r) r, spad.load (atVnew d + i * r32 r) r)
  let new := atNew d
  let badNew := (upto (new.2 - new.1)).any (fun i => ((src i).1 ++ (src i).2).any (·.2))
  let s := s.appendRows n p d src (pages.filter (fun x => isSome2 (x.new d)))
  let (rows, s) := s.readRows n p d (pages.filter (fun x => isSome2 (x.att d)))
  ((rows, badNew), s)

/-- What it computes. -/
def State.atCompute (s : State) (q n d : Nat) (x : List KvRow × Bool) : Run × State :=
  (atRun (s.core n).spad (s.queue q).seed.toNat d x.1 x.2, s.stage n d)

/-- Leave unspecified bytes at the appended positions of a descriptor that failed (R269, log 1). -/
def State.spoilNew (s : State) (q n d : Nat) (pages : List KvPage) : State :=
  let (k, s) := s.drawNat
  let r := atKvRow d
  let src := fun i => (clean ((upto r).map (fun j => Config.freeByte k (2 * i * r + j))),
    clean ((upto r).map (fun j => Config.freeByte k ((2 * i + 1) * r + j))))
  s.appendRows n (s.queue q).part d src (pages.filter (fun x => isSome2 (x.new d)))

/-- How far an ATTN may go: its pages when it can run, else the state after its code or its wait. -/
def State.atReady (s : State) (q n d since : Nat) : Option (List KvPage) × State :=
  let p := (s.queue q).part
  let (lent, s) := s.lend q n (atChans d)
  if !lent then (none, s)
  else
    let s := s.settleExts n [extSpan (atList d) (4 * atListLen d)]
    let (hs, bad) := atHandles (s.core n).spad d
    if bad then (none, s.atFail q 0x48 0)
    else
      match s.walk n p d hs with
      | (.fail c slot, s) =>
        let (f, s) := match slot with
          | some i => (i, s)
          | none => s.drawNat
        (none, s.atFail q c (detailOf f))
      | (.pages xs, s) =>
        if atZero d then (none, s.atFail q 1 0)
        else match xs.find? (fun x => !x.resident) with
        | some x =>
          let s := xs.foldl (fun s x => s.raiseKv q n p x) s
          (none, s.updJob q .handed (fun j => { j with
            phase := .waitKv, since := since, prog := x.slot, pages := (xs.filter KvPage.resident).map (·.key) }))
        | none =>
          match s.kvReach n p d xs with
          | (true, s) => (some xs, s)
          | (false, s) => (none, s.atFail q 0x46 0)

/-- ATTN as queue q holds it on core n; `since` is when its wait for pages began. -/
def State.attn (s : State) (since q n d : Nat) : State :=
  let code := atCheck d (s.core n).held
  if code ≠ 0 then (s.done q code).unlend q
  else if atMerge d then
    if atZero d then s.done q 1
    else
      let s := s.settleExts n (atInputs d)
      s.finishRun q n (atMergeRun (s.core n).spad (s.queue q).seed.toNat d)
  else
    match s.atReady q n d since with
    | (none, s) => s
    | (some xs, s) =>
      let (x, s) := s.atLoad q n d xs
      let (r, s) := s.atCompute q n d x
      let ok := !r.pieces.any (·.bad)
      let s := s.usePages d ok xs
      let s := if ok then s else s.spoilNew q n d xs
      (s.finishRun q n r).unlend q

/-- An ATTN that waits for a page looks again (R264). -/
def State.attnAgain (s : State) (q : Nat) : State :=
  match (s.queue q).jobIn .waitKv, (s.queue q).coreOf with
  | some j, some n =>
    if s.coreRuns n then (s.updJob q .waitKv (fun j => { j with phase := .handed, pages := [] })).attn j.since q n j.d
    else s
  | _, _ => s

/-- ATTN of a queue: the descriptor it holds, or the one that waits. -/
def State.attnCommand (s : State) (q : Nat) : State :=
  if ((s.queue q).jobIn .waitKv).isSome then s.attnAgain q
  else s.portCommand q 0x14 (fun s q n d => s.attn s.now q n d)

/-! ### The residue mismatch (R139) -/

/-- A mismatch of the residue checker on the descriptor that queue q holds: a MATMUL, a CONV on the matrix path or an ATTN
other than MERGE that passes its checks. -/
def State.residueMismatch (s0 : State) (q column residue tileRow tileCol kchunk : Nat) (temp : Int) : State :=
  match s0.atCore q 1 with
  | some (n, d) =>
    let c := s0.core n
    let seed := (s0.queue q).seed.toNat
    if residue = 0 then s0
    else if dOpcode d = 0x10 then
      let rows := ceilDiv (mmM d) 128
      let col := 128 * tileCol + column
      let chunk := kChunk (mmBFmt d)
      if mmCheck d c.held = 0 && tileRow < rows && col < mmN d && kchunk < ceilDiv (mmK d) chunk
          && mmCompared c.spad c.held d tileRow col kchunk chunk then
        let s := s0.settleExts n (mmInExt d :: mmInputs d)
        s.mismatch q n d (mmRun (s.core n).spad c.held seed d) (fun i => decide (i = tileCol * rows + tileRow))
          (decide (c.inject = some column)) column residue tileRow tileCol kchunk temp
      else s0
    else if dOpcode d = 0x11 then
      let per := ceilDiv (cvNg d) 128
      let o := (tileCol / per) * cvNg d + 128 * (tileCol % per) + column
      let chunk := kChunk (cvWFmt d)
      let s := s0.settleExts n (cvInputs d)
      let (f, s) := s.drawNat
      let pad := padElem (cvInFmt d) (cvPadValue d) f
      if cvCheck d c.held = 0 && !cvDepth d && tileRow < ceilDiv (cvBatch d * cvOutH d * cvOutW d) 128
          && tileCol < cvGroups d * per && 128 * (tileCol % per) + column < cvNg d && kchunk < ceilDiv (cvK d) chunk
          && cvCompared (s.core n).spad d pad tileRow o kchunk chunk then
        s.mismatch q n d (cvRun (s.core n).spad seed d f) (cvHit d tileRow tileCol) false column residue tileRow tileCol kchunk
          temp
      else s0
    else if dOpcode d = 0x14 then
      if atCheck d c.held = 0 && !atMerge d && tileRow < ceilDiv (atRows d) 128 then
        match s0.atReady q n d s0.now with
        | (some xs, s) =>
          let (x, s) := s.atLoad q n d xs
          if atCompared (s.core n).spad d x.1 tileRow then
            let (r, s) := s.atCompute q n d x
            let s := (s.usePages d false xs).spoilNew q n d xs
            (s.mismatch q n d r (fun i => decide (i / 128 = tileRow)) false column residue tileRow tileCol kchunk temp).unlend q
          else s0
        | (none, _) => s0
      else s0
    else s0
  | none => s0

/-! ### Invalidation, timeouts, sweeps, scans -/

/-- Queues with an ATTN that waits for a page. -/
def State.kvWaiters (s : State) : List Nat := s.queueIds (fun _ x => (x.jobIn .waitKv).isSome)

/-- The invalidation of an entry completes (R258), unless a running ATTN has translated the old entry; ATTNs that wait
look again. -/
def State.kvInvalidate (s : State) (key : Nat) : State :=
  let holds := s.kvWaiters.any (fun q => match (s.queue q).jobIn .waitKv with
    | some j => j.pages.contains key
    | none => false)
  if s.asleep || holds then s
  else
    let s := (s.setKvTlb (s.kvTlb.del key)).setKvDirty (s.kvDirty.filter (· ≠ key))
    s.kvWaiters.foldl State.attnAgain s

/-- The wait of R264 expires. -/
def State.kvExpire (s : State) (q : Nat) : State :=
  match (s.queue q).jobIn .waitKv with
  | some j =>
    if j.since + limitOf (s.odGet 0x2260 3) ≤ s.now then
      ((s.finish q .waitKv 0x94 0 (detailOf j.prog)).unlend q).odInc 0x2260 9 1
    else s
  | none => s

/-- The age of an entry, in units of last_use (R259). -/
def kvAge (now e : Nat) : Nat := (now + 65536 - kvLastUse e) % 65536

/-- A sweep of a die's map (R259). -/
def State.kvSweep (s : State) (die : Nat) : State :=
  if s.asleep then s
  else
    let t := s.kvNow
    ((s.kvMaps.only (fun k e => decide (k / 2 ^ 19 = die) && kvValid e && decide (0xFC00 ≤ kvAge t e))).map (·.1)).foldl
      (fun s k => s.kvUpdate k (fun e => setFld e 69 16 (t + 65536 - 0xFC00))) s

/-- Insert by age, oldest first; entries of one age stay in the order of their index. -/
def byAge (x : Nat × Nat) : List (Nat × Nat) → List (Nat × Nat)
  | [] => [x]
  | y :: ys => if y.1 < x.1 then x :: y :: ys else y :: byAge x ys

/-- The oldest pages of a partition (R271), as handles. -/
def State.kvOldest (s : State) (die p which : Nat) : List Nat :=
  let t := s.kvNow
  let mine := s.kvMaps.only (fun k e => decide (k / 2 ^ 19 = die) && kvValid e && decide (kvPart e = p) && decide (kvLoc e < 2)
    && (which = 0 || (which = 1 && !kvWritable e) || (which = 2 && kvWritable e)))
  (((mine.map (fun x => (kvAge t x.2, x.1 + 2 ^ 20 * kvGen x.2))).foldl (fun xs x => byAge x xs) []).take 1024).map (·.2)

/-- A scan (R271). -/
def State.kvScan (s : State) (r : KvScanReq) : State :=
  if s.asleep then s
  else (s.pwrite r.die.toNat r.part.toNat r.buf.toNat
    (clean ((s.kvOldest r.die.toNat r.part.toNat r.which.toNat).flatMap (leBytes 4)))).2

/-! ### The commands -/

/-- ATTN -/
def execAttn (q : QueueId) (s : State) : Host.Outcome State Fault Refusal := .next (s.attnCommand q.toNat)
/-- RESIDUE_MISMATCH -/
def execResidueMismatch (q : QueueId) (column : BitVec 7) (residue : BitVec 2) (tileRow tileCol kchunk : Nat) (temp : Int)
    (s : State) : Host.Outcome State Fault Refusal :=
  .next (s.residueMismatch q.toNat column.toNat residue.toNat tileRow tileCol kchunk temp)
/-- KV_INVALIDATE -/
def execKvInvalidate (die : Die) (index : BitVec 19) (s : State) : Host.Outcome State Fault Refusal :=
  .next (s.kvInvalidate (2 ^ 19 * die.toNat + index.toNat))
/-- KV_RESIDENCY_TIMEOUT -/
def execKvResidencyTimeout (q : QueueId) (s : State) : Host.Outcome State Fault Refusal := .next (s.kvExpire q.toNat)
/-- KV_MAP_SWEEP -/
def execKvMapSweep (die : Die) (s : State) : Host.Outcome State Fault Refusal := .next (s.kvSweep die.toNat)
/-- KV_SCAN -/
def execKvScan (r : KvScanReq) (s : State) : Host.Outcome State Fault Refusal := .next (s.kvScan r)

end Sys2Proof.Machine
end

