-- ==== Sys2Proof/Machine/Park.lean ====
section
/-!
DEFINITION. The park store (06 R207–R219): PARKIO, expiry, the park clock, erasure.
-/
namespace Sys2Proof.Machine

open Sys2Proof

/-! ### Objects and regions (R208, R209) -/

/-- Objects the store holds at most (R207). -/
def parkObjects : Nat := 4194304

def Park.find (k : Park) (h : Nat) : Option ParkObj := AMap.find k.objects h

/-- Bytes used in a region. -/
def Park.used (k : Park) (region : Nat) : Nat := ((k.objects.only (fun _ o => o.region = region)).map (fun x => x.2.extent)).sum

/-- Size of a region in bytes (R208, OD 0x2201.02–04). -/
def State.regionSize (s : State) (region : Nat) : Nat :=
  1000000000 * (match region with
    | 1 => s.odGet 0x2201 2
    | 2 => s.odGet 0x2201 3
    | 3 => 7584 - s.odGet 0x2201 2 - s.odGet 0x2201 3
    | _ => 0)

def State.setObject (s : State) (h : Nat) (o : ParkObj) : State := s.setPark { s.park with objects := s.park.objects.put h o }
def State.delObject (s : State) (h : Nat) : State := s.setPark { s.park with objects := s.park.objects.del h }

/-- A conversation object's time-to-live has run out (R213). -/
def State.outlived (s : State) (o : ParkObj) : Bool := o.region = 2 && o.expires ≤ s.park.clock

/-- An object whose time-to-live has run out is removed and counted (R213, OD 0x2201.0B). -/
def State.expireObject (s : State) (h : Nat) : State :=
  match s.park.find h with
  | some o => if s.outlived o then (s.delObject h).odInc 0x2201 0x0B 1 else s
  | none => s

/-- The partition may reach an object (R208): its own KV-spill objects, and those of its owner identity in the
conversation and bundle regions. -/
def State.mayReach (s : State) (p : Nat) (o : ParkObj) : Bool :=
  if o.region = 1 then o.part = p else (o.region = 2 || o.region = 3) && o.owner = (s.part p).owner

/-! ### Encryption (R215) -/

/-- The module storage key, derived at every start from the device secret and the salt. -/
def State.storageKey (s : State) : BitVec 512 := Config.storageKey Config.deviceSecret (Config.salt s.park.salt)

/-- An object's random key pair under the storage key, as its record keeps it. -/
def State.wrapObject (s : State) (inner : Nat) : BitVec 576 := Config.wrapPair s.storageKey (Config.objectKey inner)

/-- The key pair that opens an object: its partition's spill key while that lives, its own unwrapped; a model bundle lies
as it was delivered. -/
def State.objectKey (s : State) (o : ParkObj) : Option (BitVec 512) :=
  match o.region with
  | 1 => if o.key = (s.part o.part).key then some (Config.spillKey o.key) else none
  | 2 => Config.unwrapPair s.storageKey o.wrapped
  | _ => none

/-- The tweak of a unit: the object's internal number above the unit index (log 141). -/
def unitTweak (inner unit : Nat) : BitVec 128 := BitVec.ofNat 128 (inner * 2 ^ 64 + unit)

/-- What the flash holds of a 4 KiB unit of an object. -/
def State.storedUnit (s : State) (o : ParkObj) (unit : Nat) : BitVec 32768 :=
  let plain := BitVec.ofNat 32768 (leNat (o.mem.read (4096 * unit) 4096))
  match s.objectKey o with
  | some k => Config.xtsUnit k (unitTweak o.inner unit) plain
  | none => plain

/-! ### Fields (R210) -/

def pkTtl (d : Nat) : Nat := fld d 280 32
def pkRegion (d : Nat) : Nat := fld d 272 4
def pkBytes (d : Nat) : Nat := fld d 240 32
def pkOffset (d : Nat) : Nat := fld d 192 48
def pkMem (d : Nat) : Nat := fld d 128 48
def pkHandle (d : Nat) : Nat := fld d 64 64
def pkReserved (d : Nat) : Bool := fld d 312 200 ≠ 0 || fld d 276 4 ≠ 0 || fld d 176 16 ≠ 0

/-- mem_addr, obj_offset or bytes is no multiple of 4,096, whatever the opcode (R211; log 72). -/
def pkAlign (d : Nat) : Bool := decide ((pkMem d ||| pkOffset d ||| pkBytes d) % 4096 ≠ 0)

def ttlOk (t : Nat) : Bool := t = 0 || (60 ≤ t && t ≤ 2592000)

/-- The time-to-live that a descriptor gives: its own, or the default (R178). -/
def State.ttlOf (s : State) (d : Nat) : Nat := if pkTtl d = 0 then s.odGet 0x2400 3 else pkTtl d

/-! ### The operations (R211–R214) -/

/-- The check of a transfer before the object is looked up: alignment, then range; `write` is whether memory is
written. -/
def State.pkTransfer (s : State) (die p d : Nat) (write : Bool) : Nat × State :=
  if pkAlign d then (0x60, s)
  else if pkHandle d = 0 || 0x40000000 < pkBytes d then (0x66, s)
  else
    let beyond := match s.park.find (pkHandle d) with
      | some o => !write && decide (pkBytes d ≠ 0) && decide (o.extent < pkOffset d + pkBytes d)
      | none => false
    if beyond then (0x66, s)
    else
      let (ok, s) := s.pcheck die p (pkMem d) (pkBytes d) (!write)
      (if ok then 0 else 0x66, s)

/-- The checks 0x62 and 0x61 of an operation on an object that must exist. -/
def State.pkObject (s : State) (p h : Nat) : Nat :=
  match s.park.find h with
  | some o => if s.mayReach p o then 0 else 0x62
  | none => 0x61

/-- Bytes of an object with their marks; bytes of the extent that nothing wrote are free (log 1). -/
def ParkObj.read (o : ParkObj) (off n : Nat) : List (Byte × Bool) := o.mem.load off n

/-- The units that flash lost reach memory as poison (0x67): those of `lost` inside the transfer. -/
def loseUnits (lost : List Nat) (off k : Nat) (bs : List (Byte × Bool)) : List (Byte × Bool) :=
  (List.zipIdx bs).map (fun x => if lost.contains ((off + x.2) / 4096) then (Config.freeByte k x.2, true) else x.1)

/-- READ. -/
def State.parkRead (s : State) (lost : List Nat) (q die p d : Nat) : State :=
  let s := s.expireObject (pkHandle d)
  let (c, s) := s.pkTransfer die p d false
  if c ≠ 0 then s.done q c
  else
    let c := s.pkObject p (pkHandle d)
    if c ≠ 0 then s.done q c
    else if pkBytes d = 0 then s.done q 1
    else match s.park.find (pkHandle d) with
    | some o =>
      let first := pkOffset d / 4096
      let units := pkBytes d / 4096
      let gone := (lost.filter (fun u => decide (first ≤ u) && decide (u < first + units))).eraseDups
      let (k, s) := s.drawNat
      let bs := loseUnits gone (pkOffset d) k (o.read (pkOffset d) (pkBytes d))
      let s := (s.pwrite die p (pkMem d) bs).2
      let s := s.bumpDie die 0x4F (some p) units
      let s := if o.region = 1 then s.odInc 0x2260 0x0B (pkBytes d) else s
      if gone.isEmpty then s.done q 0
      else ((s.charge 13 0).failRecord die 0x14 13 0 (some p) 0 [(0, .num gone.length)]).done q 0x67
    | none => s.done q 0x61

/-- WRITE: the budget is drawn by every write, and a KV-spill WRITE is refused while the bucket is empty (R214). -/
def State.parkWrite (s : State) (q die p d : Nat) : State :=
  let s := s.expireObject (pkHandle d)
  let (c, s) := s.pkTransfer die p d true
  if c ≠ 0 then s.done q c
  else
    let c := s.pkObject p (pkHandle d)
    if c ≠ 0 then s.done q c
    else match s.park.find (pkHandle d) with
    | some o =>
      let n := pkBytes d
      let ext := if n = 0 then o.extent else Nat.max o.extent (pkOffset d + n)
      if s.regionSize o.region < s.park.used o.region + (ext - o.extent) then s.done q 0x64
      else if o.region = 1 && decide (s.park.budget ≤ 0) then s.done q 0x65
      else if n = 0 then s.done q 1
      else
        (match s.mread die p (pkMem d) n with
         | (some bs, s) =>
           let s := s.setObject (pkHandle d) { o with extent := ext, mem := o.mem.store (pkOffset d) bs }
           let s := s.parkDraw n
           let s := if o.region = 1 then s.odInc 0x2260 0x0A n else s
           s.done q 0
         | (none, s) => s.done q 0x66)
    | none => s.done q 0x61

/-- CREATE. -/
def State.parkCreate (s : State) (q p d : Nat) : State :=
  let s := s.expireObject (pkHandle d)
  let h := pkHandle d
  let r := pkRegion d
  if pkAlign d then s.done q 0x60
  else if h = 0 || r = 0 || 5 < r || (r = 2 && !ttlOk (pkTtl d)) then s.done q 0x66
  else if 3 < r then s.done q 0x62
  else if (s.park.find h).isSome then s.done q 0x63
  else if parkObjects ≤ s.park.objects.length then s.done q 0x64
  else
    let n := s.park.nextInner
    let o : ParkObj := { inner := n, wrapped := s.wrapObject n, region := r, owner := (s.part p).owner, part := p, key := if r = 1 then (s.part p).key else s.park.salt
                         expires := if r = 2 then s.park.clock + s.ttlOf d else 0
                         mem := { fill := .unwritten (2 ^ 32 + n) } }
    ((s.setPark { s.park with nextInner := n + 1 }).setObject h o).done q 0

/-- DELETE. -/
def State.parkDelete (s : State) (q p d : Nat) : State :=
  let s := s.expireObject (pkHandle d)
  let c := if pkAlign d then 0x60 else if pkHandle d = 0 then 0x66 else s.pkObject p (pkHandle d)
  if c ≠ 0 then s.done q c else (s.delObject (pkHandle d)).done q 0

/-- TOUCH: a new time-to-live from now for a conversation object. -/
def State.parkTouch (s : State) (q p d : Nat) : State :=
  let s := s.expireObject (pkHandle d)
  match s.park.find (pkHandle d) with
  | some o =>
    if pkAlign d then s.done q 0x60
    else if pkHandle d = 0 || (o.region = 2 && !ttlOk (pkTtl d)) then s.done q 0x66
    else
      let c := s.pkObject p (pkHandle d)
      if c ≠ 0 then s.done q c
      else (if o.region = 2 then s.setObject (pkHandle d) { o with expires := s.park.clock + s.ttlOf d } else s).done q 0
  | none => s.done q (if pkAlign d then 0x60 else if pkHandle d = 0 then 0x66 else 0x61)

/-- A PARKIO row: its own opcode; a reserved field first, then an opcode that the interface does not define (R211). -/
def State.parkCommand (s : State) (q op : Nat) (f : State → Nat → Nat → Nat → Nat → State) : State :=
  match s.atEngine q 8 with
  | some d =>
    let o := dOpcode d
    if s.asleep || (0x60 ≤ o && o ≤ 0x64 && o ≠ op) then s
    else if pkReserved d then s.done q 0x6F
    else if o ≠ op then s.done q 0x6E
    else f s q (dieOfQueue q) (s.queue q).part d
  | none => s

/-- A PARKIO that is not complete within 2 s (0x68). -/
def State.parkExpire (s : State) (q : Nat) : State :=
  match (s.queue q).jobIn .handed with
  | some j => if (s.queue q).kind = 8 && j.since + 2 * second ≤ s.now then s.done q 0x68 else s
  | none => s

/-! ### The park clock and erasure (R213, R215, R219) -/

/-- The save of every 10 min. -/
def State.clockSave (s : State) : State :=
  if s.powered && s.park.savedClock + 600 ≤ s.park.clock then
    (s.setPark { s.park with savedClock := s.park.clock }).commit [7]
  else s

/-- The erase command of an object: its abort code and the state. A handle that names no object is rejected. -/
def State.eraseObject (s : State) (h : Nat) : State :=
  if (s.park.find h).isSome then (s.delObject h).odSet 0x2201 0x0C 2 else s.odSet 0x2201 0x0C 3

/-- The erase command (R215, R508): a new salt, and every sealed object and every object under the module storage key is
deleted: conversations, samples, records, staging. -/
def State.eraseAll (s : State) (v : Nat) : State :=
  if v = 0x5A then
    let s := s.setPark { s.park with salt := s.park.salt + 1
                                     objects := s.park.objects.only (fun _ o => decide (o.region = 1 ∨ o.region = 3)) }
    let s := s.setRel { s.rel with records := [], samples := [] }
    let s := if s.stageState = 0 then s else s.stageEmpty
    (s.odSet 0x2201 0x0D 2).commit [7, 9]
  else s.odSet 0x2201 0x0D 3

/-! ### The commands -/

/-- PARKIO_READ -/
def execParkioRead (q : QueueId) (lost : List Nat) (s : State) : Host.Outcome State Fault Refusal :=
  .next (s.parkCommand q.toNat 0x60 (fun s => s.parkRead lost))
/-- PARKIO_WRITE -/
def execParkioWrite (q : QueueId) (s : State) : Host.Outcome State Fault Refusal :=
  .next (s.parkCommand q.toNat 0x61 State.parkWrite)
/-- PARKIO_CREATE -/
def execParkioCreate (q : QueueId) (s : State) : Host.Outcome State Fault Refusal :=
  .next (s.parkCommand q.toNat 0x62 (fun s q _ p d => s.parkCreate q p d))
/-- PARKIO_DELETE -/
def execParkioDelete (q : QueueId) (s : State) : Host.Outcome State Fault Refusal :=
  .next (s.parkCommand q.toNat 0x63 (fun s q _ p d => s.parkDelete q p d))
/-- PARKIO_TOUCH -/
def execParkioTouch (q : QueueId) (s : State) : Host.Outcome State Fault Refusal :=
  .next (s.parkCommand q.toNat 0x64 (fun s q _ p d => s.parkTouch q p d))
/-- PARK_TIMEOUT -/
def execParkTimeout (q : QueueId) (s : State) : Host.Outcome State Fault Refusal :=
  .next (if s.asleep then s else s.parkExpire q.toNat)
/-- OBJECT_EXPIRY -/
def execObjectExpiry (handle : BitVec 64) (s : State) : Host.Outcome State Fault Refusal :=
  .next (s.expireObject handle.toNat)
/-- PARK_CLOCK_SAVE -/
def execParkClockSave (s : State) : Host.Outcome State Fault Refusal := .next s.clockSave
/-- ERASE_OBJECT: the entry's cmd write. -/
def execEraseObject (handle : BitVec 64) (s : State) : Host.Outcome State Fault Refusal :=
  .next (if s.asleep then s else s.eraseObject handle.toNat)
/-- ERASE_ALL: the entry's cmd write. -/
def execEraseAll (value : Byte) (s : State) : Host.Outcome State Fault Refusal :=
  .next (if s.asleep then s else s.eraseAll value.toNat)

end Sys2Proof.Machine
end

