-- ==== Sys2Proof/Machine/Serving.lean ====
section
/-!
DEFINITION. Serving (09): session contexts, the sampler, the grammar walker.
-/
namespace Sys2Proof.Machine

open Sys2Proof

/-! ### Shared pieces -/

/-- The sampler and the walker of a die work (R76). -/
def State.samplerUp (s : State) (die : Nat) : Bool := !s.asleep && !hasNat s.fw.samplerDown die

/-- Finish a descriptor of the sampler or the walker; codes that fault are counted for the module and the partition
(OD 0x2400.0D). -/
def State.serveDone (s : State) (q code flags detail : Nat) : State :=
  let s := if 0xA0 ≤ code && faultsQueue code then
      (s.odInc 0x2400 0x0D 1).ownerInc (some (s.queue q).part) 0x020 7 1
    else s
  s.finish q .handed code flags detail

/-- The slot of a walker loaded by the partition. -/
def State.slot (s : State) (die p n : Nat) : Option Grammar :=
  match AMap.find s.grammars (16384 * die + n) with
  | some g => if g.part.toNat = p then some g else none
  | none => none

/-- A session number lies in the partition's range (R525, R526). -/
def Part.hasSession (x : Part) (n : Nat) : Bool := decide (x.sess.1 ≤ n) && decide (n < x.sess.1 + x.sess.2)

/-- A session is OPEN and belongs to the partition. -/
def Session.isOf (x : Session) (p : Nat) : Bool := x.isOpen && x.partition.toNat = p

/-- Read of a memory space by a unit of the die: 1 partition memory, 2 the shared buffer. -/
def State.spaceRead (s : State) (die p space a n : Nat) : Option (List (Byte × Bool)) × State :=
  if space = 2 then
    if s.sharedOk p a n then (some (s.shared.load a n), s.bumpDie (fld a 26 1) 0x4A (some p) (linesOf a n).length) else (none, s)
  else s.mread die p a n

/-! ### SESSION (R283–R285) -/

def sdSeed (d : Nat) : Nat := fld d 448 64
def sdStep (d : Nat) : Nat := fld d 416 32
def sdTemp (d : Nat) : Nat := fld d 384 32
def sdTopP (d : Nat) : Nat := fld d 352 32
def sdTopK (d : Nat) : Nat := fld d 334 18
def sdGrammar (d : Nat) : Nat := fld d 320 14
def sdGstate (d : Nat) : Nat := fld d 308 12
def sdGset (d : Nat) : Bool := bitOf d 307
def sdMask (d : Nat) : Nat := fld d 305 2
def sdOp (d : Nat) : Nat := fld d 303 2
def sdReseed (d : Nat) : Bool := bitOf d 302
def sdListLen (d : Nat) : Nat := fld d 285 17
def sdListPage (d : Nat) : Nat := fld d 258 27
def sdSession (d : Nat) : Nat := fld d 64 18
def sdReserved (d : Nat) : Bool := fld d 82 176 ≠ 0

def smReserved (d : Nat) : Bool := fld d 82 87 ≠ 0
/-- Walker descriptors have one layout (R294). -/
def wkReserved (d : Nat) : Bool := bitOf d 367 || bitOf d 331 || fld d 96 190 ≠ 0
/-- The reserved fields of a descriptor at the walker. -/
def serveReserved (d : Nat) : Bool :=
  if dOpcode d = 0x40 then smReserved d else if dOpcode d = 0x41 then sdReserved d else wkReserved d

/-- The context that an OPEN or an UPDATE would leave. -/
def sessionAfter (old : Session) (d p : Nat) (reseed : Bool) (gstate : Nat) : Session :=
  { seed := if reseed then BitVec.ofNat 64 (sdSeed d) else old.seed
    step := if reseed then BitVec.ofNat 32 (sdStep d) else old.step
    temperature := BitVec.ofNat 32 (sdTemp d), topP := BitVec.ofNat 32 (sdTopP d), topKm1 := BitVec.ofNat 18 (sdTopK d)
    grammar := BitVec.ofNat 14 (sdGrammar d), gstate := BitVec.ofNat 12 gstate, maskMode := BitVec.ofNat 2 (sdMask d)
    isOpen := true, listLen := BitVec.ofNat 17 (sdListLen d), listPage := BitVec.ofNat 27 (sdListPage d)
    partition := BitVec.ofNat 3 p }

def Session.usesGrammar (x : Session) : Bool := x.maskMode.getLsbD 0
def Session.usesList (x : Session) : Bool := x.maskMode.getLsbD 1

/-- Temperature is +0 or a positive finite FP32. -/
def tempOk (c : Nat) : Bool := c < 0x7F800000

/-- top_p is greater than 0 and at most 1. -/
def topPOk (c : Nat) : Bool := 0 < c && c ≤ 0x3F800000

/-- The checks of R285 on a context to be written. -/
def State.sessionCheck (s : State) (die p : Nat) (x : Session) : Nat :=
  let slotOk := match s.slot die p x.grammar.toNat with
    | some g => decide (x.gstate.toNat < g.states)
    | none => false
  if !tempOk x.temperature.toNat || !topPOk x.topP.toNat || (x.usesList && 65536 < x.listLen.toNat) then 0xA4
  else if x.usesGrammar && !slotOk then 0xA5
  else if x.usesList && x.listLen = 0 then 0x18
  else 0

/-- OPEN. -/
def State.sessionOpen (s : State) (q die p d : Nat) : State :=
  let n := sdSession d
  let x := s.session n
  if x.isOpen && x.partition.toNat ≠ p || !(s.part p).hasSession n then s.serveDone q 0xA2 0 0
  else if x.isOpen then s.serveDone q 0xA3 0 0
  else
    let y := sessionAfter {} d p true (if sdGset d then sdGstate d else 0)
    let c := s.sessionCheck die p y
    if c ≠ 0 then s.serveDone q c 0 0 else ((s.putSession n y).serveDone q 0 0 0).follow

/-- UPDATE. -/
def State.sessionUpdate (s : State) (q die p d : Nat) : State :=
  let n := sdSession d
  let x := s.session n
  if x.isOpen && x.partition.toNat ≠ p then s.serveDone q 0xA2 0 0
  else if !x.isOpen then s.serveDone q 0xA3 0 0
  else
    let g := if sdGset d then sdGstate d else if sdGrammar d = x.grammar.toNat then x.gstate.toNat else 0
    let y := sessionAfter x d p (sdReseed d) g
    let c := s.sessionCheck die p y
    if c ≠ 0 then s.serveDone q c 0 0 else (s.putSession n y).serveDone q 0 0 0

/-- CLOSE: the context in zeros. -/
def State.sessionClose (s : State) (q p d : Nat) : State :=
  let n := sdSession d
  let x := s.session n
  if x.isOpen && x.partition.toNat ≠ p then s.serveDone q 0xA2 0 0
  else if !x.isOpen then s.serveDone q 0xA3 0 0
  else ((s.setSess (s.sess.del n)).serveDone q 0 0 0).follow

/-- A row of the sampler: `mine` says that the descriptor is the row's. Reserved fields, then the opcode, come first
(R297); a SESSION of the reserved op is answered after the owner. -/
def State.samplerCommand (s : State) (q : Nat) (mine : Nat → Bool) (f : State → Nat → Nat → Nat → Nat → State) : State :=
  match s.atEngine q 5 with
  | some d =>
    let die := dieOfQueue q
    let p := (s.queue q).part
    let o := dOpcode d
    if !s.samplerUp die then s
    else if mine d then
      if (if o = 0x40 then smReserved d else sdReserved d) then s.serveDone q 0xA0 0 0 else f s q die p d
    else if o = 0x40 || (o = 0x41 && sdOp d ≠ 3) then s
    else if o = 0x41 then
      if sdReserved d then s.serveDone q 0xA0 0 0
      else if (s.session (sdSession d)).isOpen && (s.session (sdSession d)).partition.toNat ≠ p then s.serveDone q 0xA2 0 0
      else s.serveDone q 0xA4 0 0
    else s.serveDone q (if 0x48 ≤ o && o ≤ 0x4A && wkReserved d then 0xA0 else 0xA1) 0 0
  | none => s

/-! ### The walker (R292–R296) -/

/-- Byte offset of the range table in an image. -/
def tableAt (states : Nat) : Nat := 64 * ceilDiv (8 * states) 64

/-- A state entry: accepting, count, first. -/
def stEntry (w : Nat) : Bool × Nat × Nat := (bitOf w 40, fld w 18 13, fld w 0 18)
def stReserved (w : Nat) : Bool := fld w 41 23 ≠ 0 || fld w 31 9 ≠ 0

/-- A range entry: lo, hi, next. -/
def rgEntry (w : Nat) : Nat × Nat × Nat := (fld w 0 18, fld w 18 18, fld w 40 12)
def rgReserved (w : Nat) : Bool := fld w 52 12 ≠ 0 || fld w 36 4 ≠ 0

/-- 8-byte words of a byte string with their marks. -/
def words8 (bs : List (Byte × Bool)) (n : Nat) : List (Nat × Bool) :=
  (upto n).map (fun i => let x := (bs.drop (8 * i)).take 8; (leNat (x.map (·.1)), x.any (·.2)))

/-- Ranges in increasing lo that do not overlap. -/
def rangesRise : List (Nat × Nat × Nat) → Bool
  | a :: b :: r => decide (a.2.1 < b.1) && rangesRise (b :: r)
  | _ => true

/-- The ranges of a state that are not poisoned: those left must rise and not overlap all the same. -/
def stRanges (rgs : List (Nat × Bool)) (w : Nat) : List (Nat × Nat × Nat) :=
  (((rgs.drop (stEntry w).2.2).take (stEntry w).2.1).filter (fun r => !r.2)).map (fun r => rgEntry r.1)

/-- The image breaks R293. Poisoned lines hold no entries to check; a zero field sets no limit (R176). -/
def imageBad (bs : List (Byte × Bool)) (vocab states n : Nat) : Bool :=
  let sts := words8 bs states
  let rgs := words8 (bs.drop (tableAt states)) n
  sts.any (fun w => !w.2 &&
      (stReserved w.1 || decide (4096 < (stEntry w.1).2.1) || decide (n < (stEntry w.1).2.2 + (stEntry w.1).2.1)
        || !rangesRise (stRanges rgs w.1)))
    || rgs.any (fun w => !w.2 &&
      (let r := rgEntry w.1
       rgReserved w.1 || decide (r.2.1 < r.1) || (vocab ≠ 0 && decide (vocab ≤ r.2.1)) || (states ≠ 0 && decide (states ≤ r.2.2))))

/-- What the walker reads of a state: whether it accepts, and its ranges; or a code. -/
inductive Walked where
  | ok (accepting : Bool) (ranges : List (Nat × Nat × Nat))
  | code (c : Nat)

/-- Read a state and its ranges from the image. -/
def State.walkState (s : State) (die : Nat) (g : Grammar) (st : Nat) : Walked × State :=
  let a := 4096 * g.page.toNat
  match s.mread die g.part.toNat (a + 8 * st) 8 with
  | (some bs, s) =>
    if bs.any (·.2) then (.code 0xAB, s)
    else
      let (acc, n, first) := stEntry (leNat (bs.map (·.1)))
      (match s.mread die g.part.toNat (a + tableAt g.states + 8 * first) (8 * n) with
       | (some rs, s) =>
         if rs.any (·.2) then (.code 0xAB, s)
         else (.ok acc ((words8 rs n).map (fun w => rgEntry w.1)), s)
       | (none, s) => (.code 0xAA, s))
  | (none, s) => (.code 0xAA, s)

/-- The state that a token leads to, where the ranges allow it. -/
def nextState (ranges : List (Nat × Nat × Nat)) (tok : Nat) : Option Nat :=
  (ranges.find? (fun r => decide (r.1 ≤ tok) && decide (tok ≤ r.2.1))).map (·.2.2)

def wkVocab (d : Nat) : Nat := fld d 345 19
def wkStates (d : Nat) : Nat := fld d 332 13
def wkRanges (d : Nat) : Nat := fld d 313 18 + 1
def wkPage (d : Nat) : Nat := fld d 286 27
def wkSlot (d : Nat) : Nat := fld d 82 14
def wkCount (d : Nat) : Nat := fld d 364 3 + 1
def wkToken (d i : Nat) : Nat := fld d (368 + 18 * i) 18

/-- GLOAD (R293, R295). -/
def State.gload (s : State) (q die p d : Nat) : State :=
  let key := 16384 * die + wkSlot d
  let busy := (AMap.find s.grammars key).isSome
  if 262144 < wkVocab d || 4096 < wkStates d then s.serveDone q 0xA4 0 0
  else
    match s.mread die p (4096 * wkPage d) (tableAt (wkStates d) + 8 * wkRanges d) with
    | (some bs, s) =>
      if imageBad bs (wkVocab d) (wkStates d) (wkRanges d) then s.serveDone q 0xA6 0 0
      else if busy then s.serveDone q 0xA7 0 0
      else if bs.any (·.2) then s.serveDone q 0xAB 0 0
      else if wkVocab d = 0 || wkStates d = 0 then s.serveDone q 0x18 0 0
      else (s.setGrammars (s.grammars.put key
        { part := BitVec.ofNat 3 p, page := BitVec.ofNat 27 (wkPage d), states := wkStates d, ranges := wkRanges d
          vocab := wkVocab d })).serveDone q 0 0 0
    | (none, s) => s.serveDone q (if busy then 0xA7 else 0xAA) 0 0

/-- GFREE (R295). -/
def State.gfree (s : State) (q die p d : Nat) : State :=
  let n := wkSlot d
  if (s.slot die p n).isNone then s.serveDone q 0xA5 0 0
  else if s.sess.any (fun x => x.2.isOf p && x.2.usesGrammar && x.2.grammar.toNat = n) then s.serveDone q 0xA8 0 0
  else (s.setGrammars (s.grammars.del (16384 * die + n))).serveDone q 0 0 0

/-- Step a state through tokens: the state reached, how many tokens were taken, and the code. -/
def State.walkTokens (s : State) (die : Nat) (g : Grammar) : List Nat → Nat → Nat → (Nat × Nat × Nat) × State
  | [], st, k => ((st, k, 0), s)
  | t :: ts, st, k =>
    match s.walkState die g st with
    | (.ok _ rs, s) =>
      (match nextState rs t with
       | some n => s.walkTokens die g ts n (k + 1)
       | none => ((st, k, 0xAC), s))
    | (.code c, s) => ((st, k, c), s)

/-- GADVANCE (R295): the tokens taken before a refused one count. -/
def State.gadvance (s : State) (q die p d : Nat) : State :=
  let n := sdSession d
  let x := s.session n
  if !x.isOf p then s.serveDone q 0xA2 0 0
  else match s.slot die p x.grammar.toNat with
  | some g =>
    if g.states ≤ x.gstate.toNat then s.serveDone q 0xA5 0 0
    else
      let ((st, k, c), s) := s.walkTokens die g ((upto (wkCount d)).map (wkToken d)) x.gstate.toNat 0
      if c = 0 || c = 0xAC then
        (s.putSession n { x with gstate := BitVec.ofNat 12 st }).serveDone q c 0 (if c = 0 then 0 else k)
      else s.serveDone q c 0 0
  | none => s.serveDone q 0xA5 0 0

/-- A row of the walker. -/
def State.walkerCommand (s : State) (q op : Nat) (f : State → Nat → Nat → Nat → Nat → State) : State :=
  match s.atEngine q 6 with
  | some d =>
    let o := dOpcode d
    if !s.samplerUp (dieOfQueue q) || (0x48 ≤ o && o ≤ 0x4A && o ≠ op) then s
    else if serveReserved d then s.serveDone q 0xA0 0 0
    else if o ≠ op then s.serveDone q 0xA1 0 0
    else f s q (dieOfQueue q) (s.queue q).part d
  | none => s

/-! ### SAMPLE: fields (R286) -/

def smDraft (d i : Nat) : Nat := fld d (368 + 18 * i) 18
def smDrafts (d : Nat) : Nat := fld d 364 4
def smVerify (d : Nat) : Nat := fld d 362 2
def smSpace (d : Nat) : Nat := fld d 360 2
def smFmt (d : Nat) : Nat := fld d 356 4
def smVocab (d : Nat) : Nat := fld d 337 19
def smStride (d : Nat) : Nat := fld d 313 24
def smQ (d : Nat) : Nat := fld d 265 48
def smOut (d : Nat) : Nat := fld d 217 48
def smLogits (d : Nat) : Nat := fld d 169 48
def smRowBytes (d : Nat) : Nat := rowBytes (smFmt d) (smVocab d)

/-- A field is out of range (0xA4). -/
def smRange (d : Nat) : Bool :=
  8 < smDrafts d || 1 < smVerify d || smSpace d = 0 || smSpace d = 3 || 2 < smFmt d || 262144 < smVocab d
    || smStride d % 32 ≠ 0 || smStride d < smRowBytes d || smLogits d % 32 ≠ 0 || smOut d % 64 ≠ 0

/-! ### SAMPLE: choice (R287–R290) -/

/-- The draw of R288: a fraction of 24 bits. -/
def sampleDraw (seed step row purpose : Nat) : XVal :=
  let w := 2 ^ 64
  let z := (seed + step * 0x9e3779b97f4a7c15 + (4 * row + purpose) * 0xbf58476d1ce4e5b9) % w
  let z := ((z ^^^ (z >>> 30)) * 0xbf58476d1ce4e5b9) % w
  let z := ((z ^^^ (z >>> 27)) * 0x94d049bb133111eb) % w
  .fin false ((z ^^^ (z >>> 31)) / 2 ^ 40) (-24)

/-- a < b as numbers: the zeros are equal, a NaN is below nothing. -/
def numLt (a b : XVal) : Bool := !a.isNan && !b.isNan && a.below b && !(a.isZero && b.isZero)
def numGe (a b : XVal) : Bool := !a.isNan && !b.isNan && !numLt a b

/-- Insert a token by value, descending; the list comes in increasing token order, so ties keep the lower index
first. -/
def insertDesc (x : Nat × XVal) : List (Nat × XVal) → List (Nat × XVal)
  | [] => [x]
  | y :: ys => if numLt y.2 x.2 then x :: y :: ys else y :: insertDesc x ys

/-- Running sums from +0. -/
def runSums : XVal → List XVal → List XVal
  | _, [] => []
  | c, e :: es => let c := add32 c e; c :: runSums c es

/-- The first position whose sum meets `p`, or the last. -/
def firstOr (p : XVal → Bool) (cs : List XVal) : Nat :=
  match cs.findIdx? p with
  | some i => i
  | none => cs.length - 1

/-- Step 6 of R289 over weights: the position chosen. -/
def pick (ws : List XVal) (u : XVal) : Nat :=
  let cs := runSums .zero ws
  let t := mul32 u (cs.getLast?.getD .zero)
  firstOr (fun c => numLt t c) cs

/-- The kept set of steps 1 to 5: tokens with their e_r, and c_R. -/
def keptSet (allowed : List (Nat × XVal)) (temp topP : XVal) (topK : Nat) : List (Nat × XVal) × XVal :=
  let xs := (allowed.map (fun a => (a.1, div32 a.2 temp))).foldl (fun acc x => insertDesc x acc) []
  let top := xs.take (topK + 1)
  let x1 := ((top.head?).map (·.2)).getD .zero
  let es := top.map (fun x => (x.1, exp32 (add32 x.2 x1.neg)))
  let cs := runSums .zero (es.map (·.2))
  let k := cs.length
  let r := if numLt topP (.fin false 1 0) then
      firstOr (fun c => numGe c (mul32 topP (cs.getLast?.getD .zero))) cs + 1
    else k
  (es.take r, (cs.take r).getLast?.getD .zero)

/-- The greedy choice: the largest, the lowest index on ties. -/
def greedy : List (Nat × XVal) → Option (Nat × XVal) → Option Nat
  | [], b => b.map (·.1)
  | x :: xs, none => greedy xs (some x)
  | x :: xs, some b => greedy xs (some (if numLt b.2 x.2 then x else b))

/-- What a row comes to: a draft accepted, a token emitted that ends the SAMPLE, or nothing. -/
inductive RowOut where
  | accept (tok : Nat)
  | emit (tok : Nat)
  | none_

/-- One row (R289, R290). `draft` is its draft, `qs` the drafter's probabilities where they are given. -/
def sampleRow (x : Session) (row : Nat) (allowed : List (Nat × XVal)) (draft : Option Nat)
    (qs : Option (List XVal)) : RowOut :=
  if allowed.isEmpty then .none_
  else
    let seed := x.seed.toNat
    let step := x.step.toNat
    if x.temperature = 0 then
      match greedy allowed none with
      | some g => if draft = some g then .accept g else .emit g
      | none => .none_
    else
      let (kept, cR) := keptSet allowed (fp32.decode x.temperature.toNat) (fp32.decode x.topP.toNat) x.topKm1.toNat
      let tokAt := fun (xs : List (Nat × XVal)) (i : Nat) => ((xs[i]?).map (·.1)).getD 0
      let ordinary := tokAt kept (pick (kept.map (·.2)) (sampleDraw seed step row 0))
      match draft with
      | none => .emit ordinary
      | some d =>
        let ua := sampleDraw seed step row 1
        let res := sampleDraw seed step row 2
        let ed := (kept.find? (fun k => k.1 = d)).map (·.2)
        match qs with
        | none =>
          let ok := match ed with
            | some e => numLt (mul32 ua cR) e
            | none => false
          if ok then .accept d
          else
            let rest := kept.filter (fun k => k.1 ≠ d)
            if rest.isEmpty then .none_ else .emit (tokAt rest (pick (rest.map (·.2)) res))
        | some qs =>
          let qd := qs.getD d .zero
          let pos := numLt .zero qd && !qd.isInf
          let ok := match ed with
            | some e => !pos || numLt (mul32 (mul32 ua qd) cR) e
            | none => false
          if ok then .accept d
          else
            let ws := kept.map (fun k =>
              let v := add32 (div32 k.2 cR) (qs.getD k.1 .zero).neg
              if v.isNan || !numLt .zero v then XVal.zero else v)
            if ws.all XVal.isZero then .emit ordinary else .emit (tokAt kept (pick ws res))

/-! ### SAMPLE: its course (R287, R291, R296) -/

/-- What a SAMPLE has come to so far. -/
structure Sampled where
  toks : List Nat := []
  accepted : Nat := 0
  gstate : Nat
  reason : Nat := 0
  flags : Nat := 0
  code : Nat := 0

/-- A row of values of the logits' format, decoded exactly; or a code. -/
def State.logitRow (s : State) (die p d base i : Nat) : (List XVal × Nat) × State :=
  match s.spaceRead die p (smSpace d) (base + i * smStride d) (smRowBytes d) with
  | (some bs, s) =>
    if bs.any (·.2) then (([], 0xAB), s)
    else (((decodeRow (smFmt d) (smVocab d) (bs.map (·.1)) []).elems, 0), s)
  | (none, s) => (([], 0xAA), s)

/-- The mask of a row, where a grammar is used. -/
def State.rowMask (s : State) (die : Nat) (g : Option Grammar) (gstate : Nat) : Walked × State :=
  match g with
  | some g => s.walkState die g gstate
  | none => (.ok false [], s)

/-- Of the codes of a row's logits and of its mask, the one checked first: 0xAA before 0xAB (R297). -/
def firstCode (c : Nat) : Walked → Nat
  | .code k => if c = 0 || k < c then k else c
  | .ok _ _ => c

/-- Rows from `i` on, while drafts are accepted; `fuel` bounds them by nine. -/
def State.sampleRows (s : State) (die p d : Nat) (x : Session) (g : Option Grammar) (list : Option (List Nat)) :
    Nat → Nat → Sampled → Sampled × State
  | 0, _, a => (a, s)
  | fuel + 1, i, a =>
    let ((zs, c), s) := s.logitRow die p d (smLogits d) i
    let (wk, s) := s.rowMask die g a.gstate
    if firstCode c wk ≠ 0 then ({ a with code := firstCode c wk }, s)
    else
      let a := if zs.any (fun z => z.isNan || z = .inf false) then { a with flags := flNanIn } else a
      match wk with
      | .code c => ({ a with code := c }, s)
      | .ok accepting ranges =>
        let allowed := ((List.zipIdx zs).map (fun z => (z.2, z.1))).filter (fun z =>
          !z.2.special
            && (match list with
              | some l => l.contains z.1
              | none => true)
            && (g.isNone || (nextState ranges z.1).isSome))
        let draft := if i < smDrafts d then some (smDraft d i) else none
        let usesQ := smVerify d = 1 && draft.isSome && x.temperature ≠ 0 && !allowed.isEmpty
        let ((qs, c), s) := if usesQ then s.logitRow die p d (smQ d) i else (([], 0), s)
        if c ≠ 0 then ({ a with code := c }, s)
        else
          let take := fun (t : Nat) =>
            { a with toks := a.toks ++ [t], gstate := if g.isSome then (nextState ranges t).getD a.gstate else a.gstate }
          match sampleRow x i allowed draft (if usesQ then some qs else none) with
          | .none_ => ({ a with reason := if g.isSome && accepting then 1 else 2 }, s)
          | .emit t => (take t, s)
          | .accept t => s.sampleRows die p d x g list fuel (i + 1) { take t with accepted := a.accepted + 1 }

/-- A list's entries rise strictly and lie below vocab (R287). -/
def listOk (vocab : Nat) : List Nat → Bool
  | [] => true
  | a :: r => decide (a < 2 ^ 18) && (decide (a < vocab) || vocab = 0) && r.all (fun b => decide (a < b)) && listOk vocab r

/-- The session's allowed-token list: its entries, or a code. -/
def State.sessionList (s : State) (die p d : Nat) (x : Session) : (List Nat × Nat) × State :=
  match s.mread die p (4096 * x.listPage.toNat) (4 * x.listLen.toNat) with
  | (some bs, s) =>
    let n := x.listLen.toNat
    let es := (upto n).map (fun i => ((bs.drop (4 * i)).take 4))
    let good := es.filter (fun e => !e.any (·.2))
    if !listOk (smVocab d) (good.map (fun e => leNat (e.map (·.1)))) then (([], 0xA9), s)
    else if good.length < n then (([], 0xAB), s)
    else ((good.map (fun e => leNat (e.map (·.1))), 0), s)
  | (none, s) => (([], 0xAA), s)

/-- The result record of R291. -/
def resultRecord (x : Session) (a : Sampled) : Nat :=
  at' 416 x.step.toNat + at' 404 a.gstate + at' 400 a.toks.length + at' 396 a.accepted + at' 394 a.reason
    + ((List.zipIdx a.toks).map (fun t => at' (18 * t.2) t.1)).sum

/-- Tokens emitted: module and partition counts, the die's counter, the rate of the last second (R310, R467). -/
def State.emitTokens (s : State) (die p n : Nat) : State :=
  let s := (s.odInc 0x2400 7 n).ownerInc (some p) 0x020 1 n
  let s := s.setEmitted ((s.emitted.filter (fun x => decide (s.now < x.1 + second))) ++ [(s.now, p, n)])
  s.bumpDie die 0x4D (some p) n

/-- A SAMPLE that ran: its record, the context, the counts. -/
def State.sampleEnd (s : State) (q die p d n : Nat) (x : Session) (a : Sampled) : State :=
  let s := (s.pwrite die p (smOut d) (clean (leBytes 64 (resultRecord x a)))).2
  let s := s.putSession n { x with step := x.step + 1, gstate := BitVec.ofNat 12 a.gstate }
  let s := (s.odInc 0x2400 8 1).ownerInc (some p) 0x020 2 1
  let s := (s.odInc 0x2400 9 (smDrafts d)).ownerInc (some p) 0x020 3 (smDrafts d)
  let s := (s.odInc 0x2400 0x0A a.accepted).ownerInc (some p) 0x020 4 a.accepted
  let s := if a.reason = 2 then (s.odInc 0x2400 0x0C 1).ownerInc (some p) 0x020 6 1 else s
  (s.emitTokens die p a.toks.length).serveDone q 0 a.flags 0

/-- The rows of a SAMPLE, after its checks. -/
def State.sampleRun (s : State) (q die p d n : Nat) (x : Session) (g : Option Grammar) (list : Option (List Nat)) : State :=
  let r := s.sampleRows die p d x g list (smDrafts d + 1) 0 { gstate := x.gstate.toNat }
  if r.1.code ≠ 0 then r.2.serveDone q r.1.code 0 0 else r.2.sampleEnd q die p d n x r.1

/-- The code of the accesses of row 0, which every SAMPLE needs. -/
def State.rowZero (s : State) (die p d : Nat) (x : Session) (g : Option Grammar) : Nat × State :=
  let ((_, c), s) := s.logitRow die p d (smLogits d) 0
  let (wk, s) := s.rowMask die g x.gstate.toNat
  (firstCode c wk, s)

/-- A SAMPLE whose list is poisoned, or whose vocabulary is zero: the checks that come first (R176, R297), then `code`. -/
def State.sampleStop (s : State) (q die p d : Nat) (x : Session) (g : Option Grammar) (code : Nat) : State :=
  let (k, s) := s.rowZero die p d x g
  s.serveDone q (if k = 0xAA || (k ≠ 0 && code = 0x18) then k else code) 0 0

/-- The checks of a SAMPLE that follow its list, which reads as `l` with code `c`. -/
def State.sampleChecked (s : State) (q die p d n : Nat) (x : Session) (g : Option Grammar) (l : List Nat) (c : Nat) : State :=
  if c = 0xA9 || c = 0xAA then s.serveDone q c 0 0
  else
    let (ok, s) := s.pcheck die p (smOut d) 64 true
    if !ok then s.serveDone q 0xAA 0 0
    else if c ≠ 0 then s.sampleStop q die p d x g c
    else if smVocab d = 0 then s.sampleStop q die p d x g 0x18
    else s.sampleRun q die p d n x g (if x.usesList then some l else none)

/-- SAMPLE. -/
def State.sample (s : State) (q die p d : Nat) : State :=
  let n := sdSession d
  let x := s.session n
  if !x.isOf p then s.serveDone q 0xA2 0 0
  else if smRange d then s.serveDone q 0xA4 0 0
  else
    let g := if x.usesGrammar then s.slot die p x.grammar.toNat else none
    let gBad := x.usesGrammar && (match g with
      | some g => decide (g.states ≤ x.gstate.toNat) || (smVocab d ≠ 0 && g.vocab ≠ smVocab d)
      | none => true)
    if gBad then s.serveDone q 0xA5 0 0
    else
      let ((l, c), s) := if x.usesList then s.sessionList die p d x else (([], 0), s)
      s.sampleChecked q die p d n x g l c

/-! ### The commands -/

/-- SESSION_OPEN -/
def execSessionOpen (q : QueueId) (s : State) : Host.Outcome State Fault Refusal :=
  .next (s.samplerCommand q.toNat (fun d => dOpcode d = 0x41 && sdOp d = 0) State.sessionOpen)
/-- SESSION_UPDATE -/
def execSessionUpdate (q : QueueId) (s : State) : Host.Outcome State Fault Refusal :=
  .next (s.samplerCommand q.toNat (fun d => dOpcode d = 0x41 && sdOp d = 1) State.sessionUpdate)
/-- SESSION_CLOSE -/
def execSessionClose (q : QueueId) (s : State) : Host.Outcome State Fault Refusal :=
  .next (s.samplerCommand q.toNat (fun d => dOpcode d = 0x41 && sdOp d = 2) (fun s q _ p d => s.sessionClose q p d))
/-- SAMPLE -/
def execSample (q : QueueId) (s : State) : Host.Outcome State Fault Refusal :=
  .next (s.samplerCommand q.toNat (fun d => dOpcode d = 0x40) State.sample)
/-- GLOAD -/
def execGload (q : QueueId) (s : State) : Host.Outcome State Fault Refusal := .next (s.walkerCommand q.toNat 0x48 State.gload)
/-- GFREE -/
def execGfree (q : QueueId) (s : State) : Host.Outcome State Fault Refusal := .next (s.walkerCommand q.toNat 0x49 State.gfree)
/-- GADVANCE -/
def execGadvance (q : QueueId) (s : State) : Host.Outcome State Fault Refusal :=
  .next (s.walkerCommand q.toNat 0x4A State.gadvance)

end Sys2Proof.Machine
end

