-- ==== Sys2Proof/Machine/Picture.lean ====
section
/-!
DEFINITION. Pictures (10 R311–R318, R325, R326, R336–R339): their layout in memory, what a decoder makes of a unit of a
bitstream, concealment, the RGB copy; the coded stream of an encoder (R312, R328–R332). The samples that the codec
standards compute are opaque (log 8).
-/
namespace Sys2Proof.Machine

open Sys2Proof

/-! ### The VCTX descriptor (R322) -/

def vcBase (d : Nat) : Nat := fld d 464 48
def vcStride (d : Nat) : Nat := fld d 432 32
def vcW (d : Nat) : Nat := fld d 408 16
def vcH (d : Nat) : Nat := fld d 392 16
def vcPitch (d : Nat) : Nat := fld d 376 16
def vcCount (d : Nat) : Nat := fld d 371 5 + 1
def vcAux (d : Nat) : Nat := fld d 369 2
def vcAuxOff (d : Nat) : Nat := 4096 * fld d 353 16
def vcProgress (d : Nat) : Nat := fld d 305 48
def vcSubframe (d : Nat) : Bool := bitOf d 304
def vcEventSrc (d : Nat) : Nat := fld d 294 10
def vcEventEn (d : Nat) : Bool := bitOf d 293
def vcStats (d : Nat) : Nat := fld d 291 2
def vcRc (d : Nat) : Nat := fld d 289 2
def vcQp (d : Nat) : Nat := fld d 283 6
def vcTarget (d : Nat) : Nat := fld d 263 20
def vcMax (d : Nat) : Nat := fld d 243 20
def vcIdrPeriod (d : Nat) : Nat := fld d 227 16
def vcPeriodUs (d : Nat) : Nat := fld d 207 20 + 1
def vcSlices (d : Nat) : Nat := fld d 201 6 + 1
def vcRefs (d : Nat) : Nat := fld d 200 1 + 1
def vcRelease (d : Nat) : Nat := fld d 168 32
def vcSrcEngine (d : Nat) : Nat := fld d 164 4
def vcSrcCtx (d : Nat) : Nat := fld d 156 8
def vcCodec (d : Nat) : Nat := fld d 152 4
def vcDepth10 (d : Nat) : Bool := bitOf d 151
def vcOp (d : Nat) : Nat := fld d 148 3
def vcCtx (d : Nat) : Nat := fld d 64 8
def vcReserved (d : Nat) : Bool := fld d 424 8 ≠ 0 || fld d 72 76 ≠ 0

/-- Bytes of a sample. -/
def vcSample (d : Nat) : Nat := if vcDepth10 d then 2 else 1

/-! ### Layout (R317, R318) -/

def h16 (h : Nat) : Nat := 16 * ceilDiv h 16
/-- Chroma offset and picture bytes P. -/
def chromaOff (pitch h : Nat) : Nat := 4096 * ceilDiv (pitch * h16 h) 4096
def picBytes (pitch h : Nat) : Nat := chromaOff pitch h + pitch * h16 h / 2

/-- Row bytes of the RGB copy (R220): 3 channels of FP16 or INT8, a multiple of 32. -/
def rgbRow (aux w : Nat) : Nat := 32 * ceilDiv (w * 3 * (if aux = 1 then 2 else 1)) 32

def vcPic (d : Nat) : Nat := picBytes (vcPitch d) (vcH d)
/-- End of what buffer i of the context can hold, from its start. -/
def vcEnd (d : Nat) : Nat := if vcAux d = 0 then vcPic d else vcAuxOff d + rgbRow (vcAux d) (vcW d) * vcH d
def vcBuffer (d i : Nat) : Nat := vcBase d + i * vcStride d

/-- Rows of CTUs, or of macroblocks (R328). -/
def ctuRows (codec h : Nat) : Nat := if codec = 2 then ceilDiv h 64 else ceilDiv h 16

/-- 16 × 16 units of a row of `n` samples. -/
def unitsOf (n : Nat) : Nat := ceilDiv n 16

/-! ### What the decoders accept (R311, R313, R314) -/

/-- The parameters name a stream of the codec that R311 lists and no element of R313. -/
def StreamOk (codec : Nat) (p : StreamParams) : Bool :=
  p.elements.isEmpty && (match codec with
    | 1 => [StreamProfile.constrainedBaseline, .main264, .high264].contains p.profile && decide (p.level ≤ 52)
        && p.depth = 8 && p.chroma = 1 && !p.obu
    | 2 => [StreamProfile.main265, .main10, .mainStill].contains p.profile && decide (p.level ≤ 51)
        && (p.depth = 8 || (p.depth = 10 && p.profile = .main10)) && p.chroma = 1 && !p.obu
    | _ => decide (p.profile = .mainAv1) && decide (p.level ≤ 51) && (p.depth = 8 || p.depth = 10) && decide (p.chroma ≤ 1)
        && p.obu)

/-- IRAP pictures and key frames. -/
def isIrap (k : PictureKind) : Bool :=
  match k with
  | .idr | .cra | .key => true
  | .rasl | .plain => false

/-! ### Errors of slices and tiles (R336) -/

/-- The hardware finds an error in the data: an illegal value, a coefficient beyond its limits, an address out of order, a
termination mismatch, or data past its end. -/
def SliceBad (x : SliceReport) : Bool :=
  x.illegal || x.overCoeff || !x.terminated || decide (x.bytes < x.used)
    || decide (x.addrs ≠ (upto x.addrs.length).map (· + x.addr))

/-- The firmware finds an error in a header: a value out of range, a parameter set that is missing, an address that
repeats or goes back, a tile that overruns the unit. -/
def HeaderBad (sets : AMap StreamParams) (tiles : Bool) (unit : Nat) (last : Option Nat) (taken : Nat) (x : SliceReport) : Bool :=
  !x.valuesOk || (sets.find x.params).isNone
    || (match last with
      | some a => decide (x.addr ≤ a)
      | none => false)
    || (tiles && decide (unit < taken + x.bytes))

/-- The slices whose headers stand, in order. -/
def goodHeaders (sets : AMap StreamParams) (tiles : Bool) (unit : Nat) : Option Nat → Nat → List SliceReport → List SliceReport
  | _, _, [] => []
  | last, taken, x :: xs =>
    if HeaderBad sets tiles unit last taken x then goodHeaders sets tiles unit last taken xs
    else x :: goodHeaders sets tiles unit (some x.addr) (taken + x.bytes) xs

/-- The slices that a decoder takes: NAL units of a higher layer are discarded (R313). -/
def slicesIn (codec : Nat) (r : DecodeReport) : List SliceReport := r.slices.filter (fun x => codec ≠ 2 || x.layer = 0)

/-! ### References (R338) -/

/-- The buffer that a reference entry names, where the decoder holds a picture for it. -/
def VCtx.refOf (c : VCtx) (codec key : Nat) : Option Nat :=
  if codec = 3 then ((c.slots.getD key none).map Fin.val)
  else (c.pics.find? (fun x => decide (x.2.key.toNat = key) && c.refHeld.getLsbD x.1)).map (·.1)

/-- H.264: frame_num jumps without gaps being allowed. -/
def VCtx.jumps (c : VCtx) (codec : Nat) (r : DecodeReport) : Bool :=
  codec = 1 && !isIrap r.kind && !r.gapsAllowed && decide (r.frameNum ≠ c.frameNum)
    && decide (r.frameNum ≠ (c.frameNum + 1) % r.maxFrameNum)

/-! ### What a unit comes to -/

/-- What the decoder makes of a unit: the record's fields, the concealed units of the picture, the slices abandoned, and
the parameter set in force, where one is known. -/
structure Judged where
  picType : Nat
  reason : Nat := 0
  concealed : Bool := false
  damaged : Nat := 0
  abandoned : Nat := 0
  conceal : List Nat := []
  existing : Option Nat := none
  sp : Option StreamParams := none

/-- A unit without a decoded picture. -/
def Judged.nothing (reason : Nat) (sp : Option StreamParams) : Judged := { picType := 3, reason := reason, sp := sp }

/-- The frame's size under its parameter set. -/
def sizeOf' (r : DecodeReport) (p : StreamParams) : BitVec 16 × BitVec 16 := r.size.getD (p.width, p.height)

/-- The block, in raster order, of a 16 × 16 unit. -/
def blockOf (p : StreamParams) (w u : Nat) : Nat :=
  let uw := unitsOf w
  (u / uw / p.block) * ceilDiv uw p.block + u % uw / p.block

/-- Blocks of addresses in coding order. -/
def blocksAt (p : StreamParams) (as : List Nat) : List Nat := as.map (fun a => p.scan.getD a a)

/-- Bytes after the last picture, film grain (R339 bits 4 and 7). -/
def unitReason (r : DecodeReport) : Nat := (if r.rest ≠ 0 then 16 else 0) + (if r.grain then 128 else 0)

/-- The unit ended before its last slice or tile (R339 bit 5, log 148): what was received last neither reaches the last
block nor stops for another error. -/
def unitShort (p : StreamParams) (w h : Nat) (xs : List SliceReport) : Bool :=
  match xs.getLast? with
  | some x => decide (x.addr + x.addrs.length < ceilDiv (unitsOf w) p.block * ceilDiv (unitsOf h) p.block)
      && (!SliceBad x || decide (x.bytes < x.used))
  | none => true

/-- A picture that is decoded, of slices `xs` with sound headers out of `n` received (R337–R339). -/
def VCtx.judgePicture (c : VCtx) (codec : Nat) (r : DecodeReport) (p : StreamParams) (xs : List SliceReport) (n : Nat) : Judged :=
  let w := (sizeOf' r p).1.toNat
  let h := (sizeOf' r p).2.toNat
  let good := xs.filter (fun x => !SliceBad x)
  let units := upto (unitsOf w * unitsOf h)
  let covered := blocksAt p (good.flatMap (·.addrs))
  let conceal := units.filter (fun u => !covered.contains (blockOf p w u))
  let missing := fun (x : SliceReport) (i : Nat) => x.kind ≠ 0 && (c.refOf codec (x.refs.getD i 0)).isNone
  let lacks := xs.any (fun x => (upto x.refs.length).any (missing x)) || c.jumps codec r
  let subst := blocksAt p (good.flatMap (fun x => (x.uses.filter (fun b => missing x b.2)).map (·.1)))
  let hurt := xs.any (fun x => x.kind ≠ 0 && x.refs.any (fun k => match c.refOf codec k with
    | some b => (c.pics.getD b {}).damaged
    | none => false))
  { picType := xs.foldl (fun k x => Nat.max k x.kind.toNat) 0 % 3
    reason := (if conceal.isEmpty then 0 else 1) + (if lacks then 2 else 0) + (if xs.length < n then 4 else 0)
      + (if unitShort p w h xs then 32 else 0) + (if hurt then 64 else 0) + unitReason r
    concealed := !conceal.isEmpty || lacks
    damaged := units.countP (fun u => conceal.contains u || subst.contains (blockOf p w u))
    abandoned := xs.countP SliceBad
    conceal := conceal
    sp := some { p with width := (sizeOf' r p).1, height := (sizeOf' r p).2 } }

/-- The parameter sets after a unit. -/
def VCtx.setsAfter (c : VCtx) (r : DecodeReport) : AMap StreamParams := r.params.foldl (fun m x => m.put x.1 x.2) c.params

/-- The size may hold for the picture: within the context's, and for H.265 changed only at an IRAP picture (R311). -/
def VCtx.sizeFits (c : VCtx) (codec : Nat) (r : DecodeReport) (p : StreamParams) : Bool :=
  let v := c.desc.toNat
  decide ((sizeOf' r p).1.toNat ≤ vcW v) && decide ((sizeOf' r p).2.toNat ≤ vcH v)
    && (codec = 3 || isIrap r.kind || (match c.size with
      | some x => decide (x = sizeOf' r p)
      | none => true))

/-- What the decoder makes of a unit of `bytes` bytes (R311–R314, R325, R336–R339). A picture whose depth is not the
context's is unsupported, and so is one met while an IRAP picture or key frame is waited for (log 148). -/
def VCtx.judge (c : VCtx) (bytes : Nat) (r : DecodeReport) : Judged :=
  let codec := vcCodec c.desc.toNat
  let sets := c.setsAfter r
  match r.existing with
  | some k =>
    match c.slots.getD k.toNat none with
    | some b => { picType := (c.pics.getD b.val {}).kind.toNat, reason := unitReason r, existing := some b.val }
    | none => Judged.nothing (4 + unitReason r) none
  | none =>
    let all := slicesIn codec r
    let xs := goodHeaders sets (decide (codec = 3)) bytes none 0 all
    match (xs.head?).bind (fun x => sets.find x.params) with
    | none => Judged.nothing (4 + unitReason r) none
    | some p =>
      if !StreamOk codec p || decide (p.depth ≠ if vcDepth10 c.desc.toNat then 10 else 8) || !c.sizeFits codec r p
          || (c.waits && !isIrap r.kind) then Judged.nothing (8 + unitReason r) (some p)
      else if r.kind = .rasl && c.noRasl then Judged.nothing 0 (some p)
      else c.judgePicture codec r p xs all.length

/-! ### The samples of a decoded picture (R317, R337) -/

/-- A picture's samples: the key of what the standard computes, layout, and the concealed units with the bytes of the
concealment source, none where there is none. -/
structure Content where
  key : Nat
  ten : Bool
  mono : Bool
  w : Nat
  h : Nat
  pitch : Nat
  conceal : List Nat
  src : Option (List Byte)
  srcW : Nat
  srcH : Nat

def Content.depth (x : Content) : Nat := if x.ten then 10 else 8

/-- Opaque number of a picture by its key, a stream number and a position. -/
def codecWord (key stream i : Nat) : Nat :=
  (Config.codecByte key (2 ^ 44 * stream + 2 * i)).toNat + 256 * (Config.codecByte key (2 ^ 44 * stream + 2 * i + 1)).toNat

/-- Opaque bytes of a picture. -/
def codecBytes (key stream lo n : Nat) : List Byte := (upto n).map (fun i => Config.codecByte key (2 ^ 44 * stream + lo + i))

/-- A sample of the concealment source: plane 0 luma, 1 Cb, 2 Cr. Outside a smaller source's planes it is opaque. -/
def Content.source (x : Content) (plane px py : Nat) : Nat :=
  match x.src with
  | none => 2 ^ (x.depth - 1)
  | some bs =>
    let k := if plane = 0 then 1 else 2
    let s := if x.ten then 2 else 1
    let a := if plane = 0 then py * x.pitch + px * s else chromaOff x.pitch x.srcH + py * x.pitch + (2 * px + plane - 1) * s
    let v := leNat ((bs.drop a).take s)
    if px * k < x.srcW && py * k < x.srcH then (if x.ten then v / 64 else v) else codecWord x.key (12 + plane) (2 ^ 16 * py + px) % 2 ^ x.depth

/-- A sample of the picture. In a concealed unit it is the source's, except where a loop filter changes it, which the
standard decides. -/
def Content.sample (x : Content) (plane px py : Nat) : Nat :=
  let k := if plane = 0 then 1 else 2
  let i := 2 ^ 16 * py + px
  if x.mono && plane ≠ 0 then 2 ^ (x.depth - 1)
  else if x.conceal.contains ((py * k / 16) * unitsOf x.w + px * k / 16) && !(Config.codecByte x.key (2 ^ 44 * (8 + plane) + i)).getLsbD 0 then
    x.source plane px py
  else codecWord x.key plane i % 2 ^ x.depth

/-- A stored sample. -/
def Content.bytes (x : Content) (v : Nat) : List Byte := if x.ten then leBytes 2 (64 * v) else leBytes 1 v

/-- A row of `pitch` bytes: the samples of `n`, then opaque padding. -/
def Content.fill (x : Content) (stream row : Nat) (bs : List Byte) : List Byte :=
  bs ++ codecBytes x.key (4 + stream) (2 ^ 16 * row) (x.pitch - bs.length)

def Content.lumaRow (x : Content) (y : Nat) : List Byte :=
  x.fill 0 y (if y < x.h then (upto x.w).flatMap (fun i => x.bytes (x.sample 0 i y)) else [])

def Content.chromaRow (x : Content) (y : Nat) : List Byte :=
  x.fill 1 y (if 2 * y < x.h || x.mono then
    (upto (ceilDiv x.w 2)).flatMap (fun i => x.bytes (x.sample 1 i y) ++ x.bytes (x.sample 2 i y)) else [])

/-! ### The RGB copy (R318) -/

/-- Kr and Kb of a matrix, in ten-thousandths. -/
def matrixOf (m : ColourMatrix) : Nat × Nat :=
  match m with
  | .bt601 => (2990, 1140)
  | .bt709 => (2126, 722)
  | .bt2020 => (2627, 593)

/-- The matrix and range in force: those signalled, else by the number of lines, and limited. -/
def matrixFor (p : StreamParams) : ColourMatrix := p.matrix.getD (if 720 ≤ p.cropH.toNat then .bt709 else .bt601)

/-- Chroma at a luma position, in eighths: bilinear, for chroma location type 0, at the edge the edge's (log 148). -/
def Content.chromaAt (x : Content) (plane px py : Nat) : Nat :=
  let cw := ceilDiv x.w 2
  let ch := ceilDiv x.h 2
  let at_ := fun (i j : Nat) => x.sample plane (Nat.min i (cw - 1)) (Nat.min j (ch - 1))
  let row := fun (j : Nat) => at_ (px / 2) j + at_ (px / 2 + px % 2) j
  if py % 2 = 0 then row (py / 2 - 1) + 3 * row (py / 2) else 3 * row (py / 2) + row (py / 2 + 1)

/-- R, G and B of a pixel as numerators over one denominator. -/
def Content.rgb (x : Content) (p : StreamParams) (px py : Nat) : List Int × Int :=
  let (kr, kb) := matrixOf (matrixFor p)
  let kg := 10000 - kr - kb
  let full := p.fullRange.getD false
  let q := 2 ^ (x.depth - 8)
  let y0 : Int := if full then 0 else 16 * q
  let ry : Int := if full then 256 * q - 1 else 219 * q
  let rc : Int := if full then 256 * q - 1 else 224 * q
  let y := ((x.sample 0 px py : Nat) - y0) * (8 * rc * 10000 * kg)
  let cb := (x.chromaAt 1 px py : Nat) - 8 * 128 * (q : Int)
  let cr := (x.chromaAt 2 px py : Nat) - 8 * 128 * (q : Int)
  ([y + 2 * (10000 - kr : Nat) * kg * cr * ry,
    y - (2 * kb * (10000 - kb : Nat) * cb + 2 * kr * (10000 - kr : Nat) * cr) * ry,
    y + 2 * (10000 - kb : Nat) * kg * cb * ry], ry * (8 * rc) * 10000 * kg)

/-- One value v = n ÷ d as stored: FP16, or INT8 of 255 v − 128, rounded to nearest even and saturated once. -/
def rgbBytes (aux : Nat) (n d : Int) : List Byte :=
  if aux = 1 then leBytes 2 (fp16.encode true .nearest ((XVal.ofInt n).div (XVal.ofInt d))).1
  else leBytes 1 (encodeInt 8 .nearest ((XVal.ofInt (255 * n - 128 * d)).div (XVal.ofInt d))).1

/-- A row of the copy, from the picture's row `py` on. -/
def Content.rgbLine (x : Content) (p : StreamParams) (aux py : Nat) : List Byte :=
  (upto p.cropW.toNat).flatMap (fun i =>
    let (vs, d) := x.rgb p (p.cropL.toNat + i) py
    vs.flatMap (fun n => rgbBytes aux n d))

/-! ### The buffers of a decoder (R326) -/

/-- Return the buffers of a release mask: a bit for a buffer that the runtime does not hold is ignored. -/
def VCtx.release (c : VCtx) (mask : Nat) : VCtx :=
  { c with runtimeHeld := c.runtimeHeld &&& ~~~(BitVec.ofNat 32 mask) }

/-- The free buffer of lowest index. -/
def VCtx.freeBuffer (c : VCtx) : Option Nat :=
  (upto (vcCount c.desc.toNat)).find? (fun i => !c.runtimeHeld.getLsbD i && !c.refHeld.getLsbD i)

def bitMask (i : Nat) : BitVec 32 := BitVec.ofNat 32 (2 ^ i)

/-- The slots after a frame in buffer b. -/
def VCtx.slotsAfter (c : VCtx) (r : DecodeReport) (b : Nat) : List (Option (Fin 32)) :=
  (upto 8).map (fun i => if r.refresh.getLsbD i then some (Fin.ofNat 32 b) else if r.kind = .key then none else c.slots.getD i none)

/-- The context after a unit that gave no picture. -/
def VCtx.passed (c : VCtx) (r : DecodeReport) (j : Judged) : VCtx :=
  { c with params := c.setsAfter r, waits := c.waits || bitOf j.reason 3 }

/-- The context after a frame shown again. -/
def VCtx.shownAgain (c : VCtx) (r : DecodeReport) (b : Nat) : VCtx :=
  let slots := c.slotsAfter r b
  { c with params := c.setsAfter r, slots := slots, runtimeHeld := c.runtimeHeld ||| bitMask b, pictures := c.pictures + 1
           refHeld := slots.foldl (fun m x => match x with
             | some i => m ||| bitMask i.val
             | none => m) (match c.last with
             | some l => bitMask l.val
             | none => 0) }

/-- What a picture leaves for later ones. -/
def Judged.pic (j : Judged) (r : DecodeReport) (p : StreamParams) : VPic :=
  { key := r.orderKey, kind := BitVec.ofNat 2 j.picType, damaged := j.concealed || bitOf j.reason 6, width := p.width
    height := p.height, cropW := p.cropW, cropH := p.cropH, cropL := p.cropL, cropT := p.cropT }

/-- The context after a picture decoded into buffer b. -/
def VCtx.decoded (c : VCtx) (r : DecodeReport) (j : Judged) (p : StreamParams) (b : Nat) : VCtx :=
  let codec := vcCodec c.desc.toNat
  let slots := if codec = 3 then c.slotsAfter r b else c.slots
  let starts := isIrap r.kind && (c.last.isNone || c.waits)
  let held := if codec = 3 then
      slots.foldl (fun m x => match x with
        | some i => m ||| bitMask i.val
        | none => m) 0
    else if r.kind = .idr then 0
    else c.pics.foldl (fun m x => if c.refHeld.getLsbD x.1 && r.keep.contains x.2.key then m ||| bitMask x.1 else m) 0
  { c with
    params := c.setsAfter r, size := some (p.width, p.height), pics := c.pics.put b (j.pic r p), slots := slots
    refHeld := held ||| bitMask b, runtimeHeld := c.runtimeHeld ||| bitMask b, last := some (Fin.ofNat 32 b)
    pictures := c.pictures + 1, frameNum := if r.isRef then r.frameNum else c.frameNum
    waits := c.waits && !isIrap r.kind
    noRasl := if isIrap r.kind then starts && decide (r.kind = .cra) else c.noRasl }

/-! ### The coded stream (R312, R328, R332) -/

/-- The bound of R328 on the bytes of a coded picture. -/
def codedBound (v : Nat) : Nat := vcW v * h16 (vcH v) * 3 / 2 * vcSample v + 65536

/-- Levels with the largest picture (macroblocks for H.264, luma samples for H.265) and the peak rate in kb/s, of High
profile and of Main tier, and level_idc (log 16). -/
def levels (codec : Nat) : List (Nat × Nat × Nat) :=
  if codec = 2 then
    [(36864, 128, 30), (122880, 1500, 60), (245760, 3000, 63), (552960, 6000, 90), (983040, 10000, 93), (2228224, 12000, 120),
     (2228224, 20000, 123), (8912896, 25000, 150), (8912896, 40000, 153)]
  else
    [(99, 80, 10), (396, 240, 11), (396, 480, 12), (396, 960, 13), (396, 2500, 20), (792, 5000, 21), (1620, 5000, 22),
     (1620, 12500, 30), (3600, 17500, 31), (5120, 25000, 32), (8192, 25000, 40), (8192, 62500, 41), (8704, 62500, 42),
     (22080, 168750, 50), (36864, 300000, 51)]

/-- The peak rate configured, in kb/s; none under CQP. -/
def peakRate (v : Nat) : Nat := match vcRc v with | 0 => 0 | 2 => vcMax v | _ => vcTarget v

/-- level_idc: the lowest level that the picture size and the peak rate allow (R312). -/
def levelIdc (v : Nat) : Option Nat :=
  let size := if vcCodec v = 2 then vcW v * vcH v else unitsOf (vcW v) * unitsOf (vcH v)
  ((levels (vcCodec v)).find? (fun l => decide (size ≤ l.1) && decide (peakRate v ≤ l.2.1))).map (·.2.2)

/-- Pictures of a window of `secs` seconds at the nominal period. -/
def rateWindow (v secs : Nat) : Nat := Nat.max 1 (secs * 1000000 / vcPeriodUs v)

/-- Bytes of the pictures before this one in a window that it ends. -/
def VCtx.windowSum (c : VCtx) (secs : Nat) : Nat :=
  let n := rateWindow c.desc.toNat secs - 1
  (c.rate.drop (c.rate.length - n)).sum

/-- Bytes of a picture under the context's rate control (R332): VBR keeps every 1 s window at or below the peak, CBR
every 10 s window of a steady scene within 5 % of the target. -/
def VCtx.rated (c : VCtx) (r : EncodeReport) : Nat :=
  let v := c.desc.toNat
  match vcRc v with
  | 2 => Nat.min r.bytes (125 * vcMax v - c.windowSum 1)
  | 1 =>
    let t := 1250 * vcTarget v
    if r.steady && rateWindow v 10 ≤ c.rate.length + 1 then
      Nat.max (95 * t / 100 - c.windowSum 10) (Nat.min r.bytes (105 * t / 100 - c.windowSum 10))
    else r.bytes
  | _ => r.bytes

/-- NAL unit headers of the two codecs: the parameter sets, an IDR slice and a P slice (log 16). -/
def setHeaders (codec : Nat) : List (List Byte) := if codec = 2 then [[0x40, 1], [0x42, 1], [0x44, 1]] else [[0x67], [0x68]]
def sliceHeader (codec : Nat) (idr : Bool) : List Byte :=
  if codec = 2 then [if idr then 0x26 else 0x02, 1] else [if idr then 0x65 else 0x61]

/-- An Annex B NAL unit. -/
def nalUnit (header payload : List Byte) : List Byte := [0, 0, 0, 1] ++ header ++ payload

/-- The parameter sets before an IDR; their payloads, of 16 to 1,024 bytes, depend on the level and the context. -/
def paramSets (v : Nat) : List Byte :=
  let byte := Config.paramByte ((levelIdc v).getD 0) v
  (List.zipIdx (setHeaders (vcCodec v))).flatMap (fun x =>
    nalUnit x.1 ((upto (16 + leNat [byte (8 + x.2) 0, byte (8 + x.2) 1] % 1009)).map (byte x.2)))

/-- Bytes before the first slice. -/
def streamBase (v : Nat) (idr : Bool) : Nat := if idr then (paramSets v).length else 0

/-- The slice from byte a of the stream to byte b. -/
def sliceNal (v key : Nat) (idr : Bool) (a b : Nat) : List Byte :=
  let hd := sliceHeader (vcCodec v) idr
  (nalUnit hd (codecBytes key 7 a (b - a - 4 - hd.length))).take (b - a)

/-- The least bytes of a slice. -/
def sliceLeast : Nat := 8

/-- Ends of `n` slices from byte a to byte z, as near to those wanted as slices of the least size allow. -/
def sliceEnds (z : Nat) : Nat → Nat → List Nat → List Nat
  | 0, _, _ => []
  | 1, _, _ => [z]
  | n + 2, a, ws =>
    let e := Nat.max (a + sliceLeast) (Nat.min (ws.headD 0) (z - sliceLeast * (n + 1)))
    e :: sliceEnds z (n + 1) e (ws.drop 1)

/-- Bytes that the picture may take at most: the bound of R328, and under VBR what the last second leaves (R332). -/
def VCtx.room (c : VCtx) : Nat :=
  let v := c.desc.toNat
  if vcRc v = 2 then Nat.min (codedBound v) (125 * vcMax v - c.windowSum 1) else codedBound v

/-- A slice may end at byte `bytes`, after those that end at `ends`: it is not the last, and the others have room. -/
def VCtx.sliceFits (c : VCtx) (idr : Bool) (ends : List Nat) (bytes : Nat) : Bool :=
  let n := vcSlices c.desc.toNat
  decide (ends.length + 1 < n) && decide (ends.getLastD (streamBase c.desc.toNat idr) + sliceLeast ≤ bytes)
    && decide (bytes + sliceLeast * (n - ends.length - 1) ≤ c.room)

/-- The ends of a picture's slices, of which those at `ends` are visible: its bytes as rated, in the bound and with room
for every slice. -/
def VCtx.sliceEndsOf (c : VCtx) (r : EncodeReport) (idr : Bool) (ends : List Nat) : List Nat :=
  let v := c.desc.toNat
  let left := vcSlices v - ends.length
  let a := ends.getLastD (streamBase v idr)
  ends ++ sliceEnds (Nat.max (a + sliceLeast * left) (Nat.min (c.rated r) (codedBound v))) left a (r.ends.drop ends.length)

/-! ### Statistics and QP (R329–R331) -/

def unitsW (v : Nat) : Nat := unitsOf (vcW v)
def unitsH (v : Nat) : Nat := unitsOf (vcH v)
def statsRow (v : Nat) : Nat := 64 * ceilDiv (8 * unitsW v) 64

/-- The region table's entries (R329). -/
def roiEntry (bs : List Byte) (i : Nat) : Nat := leNat ((bs.drop (8 * i)).take 8)
def roiReserved (x : Nat) : Bool := fld x 40 24 ≠ 0
def roiDelta (x : Nat) : Int := toSigned 8 (fld x 32 8)
def roiCovers (x ux uy : Nat) : Bool :=
  decide (fld x 0 8 ≤ ux) && decide (ux ≤ fld x 0 8 + fld x 16 8) && decide (fld x 8 8 ≤ uy) && decide (uy ≤ fld x 8 8 + fld x 24 8)

/-- A unit's QP (R329): the picture QP plus the delta of the first region that covers it, in the codec's range. -/
def unitQp (v qp : Nat) (regions : List Nat) (ux uy : Nat) : Int :=
  let d := match regions.find? (fun x => roiCovers x ux uy) with
    | some x => roiDelta x
    | none => 0
  let lo : Int := if vcDepth10 v then -12 else 0
  let q := (qp : Int) + d
  if q < lo then lo else if 51 < q then 51 else q

/-- The picture QP (R322, R332): the context's under CQP and for the first picture, else what rate control chose. -/
def VCtx.pictureQp (c : VCtx) (r : EncodeReport) : Nat :=
  let v := c.desc.toNat
  if vcRc v = 0 || c.pictures = 0 then vcQp v else Nat.min 51 r.qp.toNat

/-- Mean QP over the units, rounded to nearest; `up` decides a tie (R333). -/
def meanQp (v qp : Nat) (regions : List Nat) (up : Bool) : Nat :=
  let us := (upto (unitsH v)).flatMap (fun y => (upto (unitsW v)).map (fun x => unitQp v qp regions x y))
  let n : Int := us.length
  let t := sumInt us
  let q := t / n
  let r2 := 2 * (t - q * n)
  ofSigned 6 (if n < r2 || (r2 = n && up) then q + 1 else q)

/-- A vector component within ±`lim` quarter samples, opaque (R331). -/
def codedVector (key pos lim : Nat) : Nat := ofSigned 16 (((codecWord key 4 pos % (2 * lim + 1) : Nat) : Int) - lim)

/-- The Hadamard transform of 2ⁿ numbers. -/
def hadamard : Nat → List Int → List Int
  | 0, xs => xs
  | n + 1, xs =>
    let a := xs.take (2 ^ n)
    let b := xs.drop (2 ^ n)
    hadamard n (List.zipWith (· + ·) a b) ++ hadamard n (List.zipWith (· - ·) a b)

/-- Columns of rows. -/
def columns (n : Nat) (rows : List (List Int)) : List (List Int) := (upto n).map (fun i => rows.map (fun r => r.getD i 0))

/-- Sum of the magnitudes of the transform of an 8 × 8 block. -/
def hadamardSum (rows : List (List Int)) : Nat :=
  (((columns 8 (rows.map (hadamard 3))).map (hadamard 3)).map (fun r => (r.map Int.natAbs).sum)).sum

/-- The cost of unit (ux, uy) (R330): the intra residual of the input picture, whose prediction the encoder chooses, in
8 × 8 transforms (log 148), ÷ 16, saturated. -/
def unitCost (pic : List Byte) (v key ux uy : Nat) : Nat :=
  let s := vcSample v
  let res := fun (x y : Nat) =>
    let a := y * vcPitch v + x * s
    let z := leNat ((pic.drop a).take s)
    ((if vcDepth10 v then z / 64 else z : Nat) : Int) - ((codecWord key 6 (2 ^ 16 * y + x) % 2 ^ (if vcDepth10 v then 10 else 8) : Nat) : Int)
  let block := fun (k : Nat) => hadamardSum ((upto 8).map (fun j => (upto 8).map (fun i =>
    res (16 * ux + 8 * (k % 2) + i) (16 * uy + 8 * (k / 2) + j))))
  Nat.min 65535 (((upto 4).map block).sum / 16)

/-- One statistics entry (R330). -/
def statEntry (pic : List Byte) (key v ux uy : Nat) (idr : Bool) : Nat :=
  let u := uy * unitsW v + ux
  let intra := idr || (Config.codecByte key (2 ^ 44 * 5 + u)).getLsbD 0
  (if bitOf (vcStats v) 0 then (if intra then 2 ^ 48 else at' 16 (codedVector key (2 * u) 256) + codedVector key (2 * u + 1) 512) else 0)
    + (if bitOf (vcStats v) 1 then at' 32 (unitCost pic v key ux uy) else 0)

end Sys2Proof.Machine
end

