-- ==== Sys2Proof/Machine/Video.lean ====
section
/-!
DEFINITION. Video engines (10): stream contexts, DECODE, ENCODE, sub-frame output, round-robin, restarts and failures of
an engine. The pictures and streams themselves are those of Picture.lean.
-/
namespace Sys2Proof.Machine

open Sys2Proof

/-! ### Engines (R319, R320, R347) -/

def isEncoder (e : Nat) : Bool := 4 ≤ e

/-- An engine does not work: it has failed, or its die's video firmware has (R360). -/
def State.engineDown (s : State) (e : Nat) : Bool := (s.engine e).failed || (s.comp (dieOfEngine e) 6).state = .failed

/-- The engine and the descriptor that a queue has at the head of its video engine. -/
def State.atVideo (s : State) (q : Nat) : Option (Nat × Nat) :=
  match (s.queue q).videoOf, (s.queue q).jobIn .handed with
  | some e, some j => if s.engineDown e || (s.engine e).restarting || s.asleep then none else some (e, j.d)
  | _, _ => none

/-- The queue whose descriptor the engine takes next: of those that have one ready, the first after the one it took last,
in the cyclic order of their identifiers (R320, log 148). -/
def State.videoNext (s : State) (e : Nat) : Option Nat :=
  let ready := s.queueIds (fun _ x => decide (x.videoOf = some e) && (x.jobIn .handed).isSome)
  match (s.engine e).turn with
  | some t => ((ready.find? (fun q => decide (t.toNat < q))).or ready.head?)
  | none => ready.head?

/-- When the engine took, or could take, the descriptor of queue q (R320). -/
def State.takenAt (s : State) (e q : Nat) : Nat :=
  match (s.queue q).jobIn .handed with
  | some j => Nat.max j.since (s.engine e).freeAt
  | none => s.now

/-- The turn of queue q ends: the engine is free for the next, and a picture in progress counts for busy_pct (R347). -/
def State.endTurn (s : State) (e q : Nat) : State :=
  let x := s.engine e
  let spans := match x.busy with
    | some j => (x.spans ++ [(j.start, s.now)]).filter (fun y => decide (s.now < y.2 + second))
    | none => x.spans
  s.putEngine e { x with busy := none, freeAt := s.now, turn := some (BitVec.ofNat 17 q), spans := spans }

/-- Finish a video descriptor; a code of R340 counts for the module and the partition (OD 0x2500.0C). -/
def State.videoDone (s : State) (q code : Nat) : State :=
  let s := if 0xB0 ≤ code && code ≤ 0xB8 then
      (s.odInc 0x2500 0x0C 1).ownerInc (some (s.queue q).part) 0x030 7 1
    else s
  let s := match (s.queue q).videoOf with
    | some e => s.endTurn e q
    | none => s
  s.done q code

/-- Advance one of the counts 0x2500.05–0A, and the partition's (0x030.01–06). -/
def State.videoCount (s : State) (p sub n : Nat) : State :=
  if n = 0 then s else (s.odInc 0x2500 sub n).ownerInc (some p) 0x030 (sub - 4) n

def VEngine.vctx (x : VEngine) (c : Nat) : VCtx := x.ctx.getD c {}

/-- A context is open and belongs to the queue. -/
def VCtx.openOn (c : VCtx) (q : Nat) : Bool := decide (c.state = .opened) && decide (c.queue.toNat = q)

/-- Time of a span within the last second. -/
def lastSecond (now a b : Nat) : Nat := Nat.min b now - Nat.max a (now - second)

/-- Time of the last second spent on pictures, with the picture in progress (R347). -/
def State.busyTime (s : State) (e : Nat) : Nat :=
  let x := s.engine e
  let cur := match x.busy, s.videoNext e with
    | some j, _ => lastSecond s.now j.start s.now
    | none, some q => (match (s.queue q).jobIn .handed with
      | some j => if dOpcode j.d = 0x31 || dOpcode j.d = 0x32 then lastSecond s.now (s.takenAt e q) s.now else 0
      | none => 0)
    | none, none => 0
  (x.spans.map (fun y => lastSecond s.now y.1 y.2)).sum + cur

/-! ### OPEN and UPDATE checks (R323) -/

/-- The rate fields of an encoder's context, as far as its mode uses them; the rates lead to a level (R312). -/
def ratesOk (d : Nat) : Bool :=
  vcRc d ≠ 3 && vcQp d ≤ 51 &&
    (vcRc d = 0 ||
      (decide (16 ≤ vcTarget d) && decide (vcTarget d ≤ 1000000)
        && (vcRc d ≠ 2 || (decide (vcTarget d ≤ vcMax d) && decide (vcMax d ≤ 1000000)))
        && (levelIdc d).isSome))

/-- The event source is an assignable one of the partition (R454). -/
def State.vcEventOk (s : State) (die p d : Nat) : Bool :=
  !vcEventEn d || (decide (256 ≤ vcEventSrc d) && decide ((s.source die (vcEventSrc d)).owner.map BitVec.toNat = some p))

/-- The picture size of OPEN; a zero side is exempt, and with it every limit computed from it (R176). -/
def sizeOk (e d : Nat) : Bool :=
  let w := vcW d
  let h := vcH d
  let enc := isEncoder e
  (w = 0 || (decide (w % 2 = 0) && decide ((if enc then 64 else 16) ≤ w) && decide (w ≤ (if enc then 4096 else 8192))
      && decide (w * vcSample d ≤ vcPitch d)))
    && (h = 0 || (decide (h % 2 = 0) && decide ((if enc then 64 else 16) ≤ h) && decide (h ≤ (if enc then 2304 else 4352))
      && decide (vcPic d ≤ vcStride d) && (enc || vcAux d = 0 || decide (vcPic d ≤ vcAuxOff d))
      && (!enc || decide (vcSlices d ≤ ctuRows (vcCodec d) h))))
    && (w = 0 || h = 0 || enc || vcAux d = 0 || decide (vcEnd d ≤ vcStride d))
    && (!enc || vcCodec d ≠ 2 || decide (w * h ≤ 8912896))

/-- 0xB3 at OPEN. -/
def State.openRange (s : State) (e die p d : Nat) : Bool :=
  let enc := isEncoder e
  let codec := vcCodec d
  decide (1 ≤ codec) && decide (codec ≤ (if enc then 2 else 3)) && (codec ≠ 1 || !vcDepth10 d)
    && sizeOk e d && s.vcEventOk die p d
    && (if enc then decide (vcRefs d + 1 ≤ vcCount d) && ratesOk d else vcAux d ≠ 3)

/-- 0xB4 at OPEN: alignment, and the frame stores and the progress word as extents that can be written. -/
def State.openSpace (s : State) (die p d : Nat) : Bool × State :=
  if vcBase d % 4096 ≠ 0 || vcStride d % 4096 ≠ 0 || vcPitch d % 64 ≠ 0 || vcProgress d % 8 ≠ 0 then (false, s)
  else
    let n := if vcW d = 0 || vcH d = 0 then 0 else vcEnd d
    s.partsOk die p 1 true ((upto (vcCount d)).map (fun i => (vcBuffer d i, n)) ++ [(vcProgress d, if vcProgress d = 0 then 0 else 8)])

/-- The descriptor of a context after an UPDATE: progress, statistics, rate and period fields change (R323). -/
def updatedDesc (old d : Nat) : Nat := setFld (setFld old 305 48 (vcProgress d)) 207 98 (fld d 207 98)

/-! ### VCTX (R322, R323) -/

def State.putCtx (s : State) (e c : Nat) (x : VCtx) : State :=
  s.putEngine e { s.engine e with ctx := (s.engine e).ctx.put c x }

/-- OPEN. -/
def State.vctxOpen (s : State) (q e p d : Nat) : State :=
  let die := dieOfEngine e
  if (((s.engine e).vctx (vcCtx d)).state = .opened) then s.videoDone q 0xB2
  else if !s.openRange e die p d then s.videoDone q 0xB3
  else
    let (ok, s) := s.openSpace die p d
    if !ok then s.videoDone q 0xB4
    else if vcW d = 0 || vcH d = 0 then s.videoDone q 0x18
    else ((s.putCtx e (vcCtx d) { state := .opened, queue := BitVec.ofNat 17 q, part := BitVec.ofNat 3 p,
                                  desc := BitVec.ofNat 512 d }).videoDone q 0).follow

/-- UPDATE. -/
def State.vctxUpdate (s : State) (q e p d : Nat) : State :=
  let c := (s.engine e).vctx (vcCtx d)
  let die := dieOfEngine e
  if !c.openOn q then s.videoDone q 0xB2
  else if !s.vcEventOk die p d || (isEncoder e && !ratesOk (updatedDesc c.desc.toNat d)) then s.videoDone q 0xB3
  else
    let (ok, s) := if vcProgress d % 8 ≠ 0 then (false, s) else s.pcheck die p (vcProgress d) (if vcProgress d = 0 then 0 else 8) true
    if !ok then s.videoDone q 0xB4
    else
      let c := if isEncoder e then c else c.release (vcRelease d)
      (s.putCtx e (vcCtx d) { c with desc := BitVec.ofNat 512 (updatedDesc c.desc.toNat d) }).videoDone q 0

/-- CLOSE: the context ends and its buffers go to the runtime. -/
def State.vctxClose (s : State) (q e d : Nat) : State :=
  if !((s.engine e).vctx (vcCtx d)).openOn q then s.videoDone q 0xB2
  else ((s.putEngine e { s.engine e with ctx := (s.engine e).ctx.del (vcCtx d) }).videoDone q 0).follow

/-- DETACH: the record stays for ADOPT. -/
def State.vctxDetach (s : State) (q e d : Nat) : State :=
  let c := (s.engine e).vctx (vcCtx d)
  if !c.openOn q then s.videoDone q 0xB2
  else ((s.putCtx e (vcCtx d) { c with state := .detached }).videoDone q 0).follow

/-- The record that ADOPT names (R323, R344): detached, or of a context of a failed engine, of the same kind and
partition. -/
def State.adoptable (s : State) (e p d : Nat) : Option (Nat × VCtx) :=
  let from_ := (if isEncoder e then 4 else 0) + vcSrcEngine d
  let y := s.engine from_
  match y.ctx.find (vcSrcCtx d) with
  | some c =>
    if c.part.toNat = p && (c.state = .detached || (c.state = .opened && s.engineDown from_)) then some (from_, c) else none
  | none => none

/-- ADOPT: the record is consumed, and the context goes on from it under the adopting queue. -/
def State.vctxAdopt (s : State) (q e p d : Nat) : State :=
  if vcSrcEngine d ≥ (if isEncoder e then 2 else 4) then
    s.videoDone q (if ((s.engine e).vctx (vcCtx d)).state = .opened then 0xB2 else 0xB3)
  else if ((s.engine e).vctx (vcCtx d)).state = .opened then s.videoDone q 0xB2
  else
    match s.adoptable e p d with
    | some (from_, c) =>
      let s := s.putEngine from_ { s.engine from_ with ctx := (s.engine from_).ctx.del (vcSrcCtx d) }
      ((s.putCtx e (vcCtx d) { c with state := .opened, queue := BitVec.ofNat 17 q }).videoDone q 0).follow
    | none => s.videoDone q 0xB2

/-- A non-zero reserved field of a video descriptor. -/
def videoReserved (d : Nat) : Bool :=
  match dOpcode d with
  | 0x30 => vcReserved d
  | 0x31 => fld d 72 224 ≠ 0
  | 0x32 => fld d 340 12 ≠ 0 || fld d 88 103 ≠ 0
  | _ => false

/-- A row of a video engine (R340): it runs between pictures, in its queue's turn (R320); `mine` says that the descriptor
is the row's. A reserved op is answered by any VCTX row, another opcode or one of the other kind of engine by any row. -/
def State.videoCommand (s : State) (q : Nat) (mine : Nat → Bool) (f : State → Nat → Nat → Nat → Nat → State) : State :=
  match s.atVideo q with
  | some (e, d) =>
    let p := (s.queue q).part
    let o := dOpcode d
    let known := o = 0x30 || (o = 0x31 && !isEncoder e) || (o = 0x32 && isEncoder e)
    match (s.engine e).busy with
    | some j => if mine d && known && o ≠ 0x30 && j.queue.toNat = q then f s q e p d else s
    | none =>
      if s.videoNext e ≠ some q then s
      else if known && mine d then (if videoReserved d then s.videoDone q 0xB0 else f s q e p d)
      else if known && !(o = 0x30 && vcOp d ≥ 5) then s
      else if videoReserved d then s.videoDone q 0xB0
      else if !known then s.videoDone q 0xB1
      else
        let c := (s.engine e).vctx (vcCtx d)
        s.videoDone q (if c.state = .opened && !c.openOn q then 0xB2 else 0xB3)
  | none => s

/-! ### DECODE and ENCODE descriptors (R324, R327) -/

def vdPts (d : Nat) : Nat := fld d 448 64
def vdBs (d : Nat) : Nat := fld d 400 48
def vdBytes (d : Nat) : Nat := fld d 376 24
def vdRelease (d : Nat) : Nat := fld d 344 32
def vdResult (d : Nat) : Nat := fld d 296 48

def veIn (d : Nat) : Nat := fld d 400 48
def veOut (d : Nat) : Nat := fld d 352 48
def veRoi (d : Nat) : Nat := fld d 292 48
def veRoiCount (d : Nat) : Nat := fld d 288 4
def veForce (d : Nat) : Bool := bitOf d 287
def veStats (d : Nat) : Nat := fld d 239 48
def veResult (d : Nat) : Nat := fld d 191 48
def veCapacity (d : Nat) : Nat := 4096 * (fld d 72 16 + 1)

/-! ### A picture in progress -/

/-- Start a picture: the key of its opaque content is fresh (log 1). -/
def State.newJob (s : State) (e q b : Nat) (r : DecodeReport) : VJob × State :=
  let j : VJob := { queue := BitVec.ofNat 17 q, start := s.takenAt e q, key := s.free, buffer := b, unit := r }
  (j, (s.putEngine e { s.engine e with busy := some j }).setFree (s.free + 1))

/-- Note a slice or band that is visible, with the bytes at its end. -/
def State.noteVisible (s : State) (e : Nat) (j : VJob) (bytes : Nat) : State :=
  s.putEngine e { s.engine e with busy := some { j with
    count := j.count + 1, ends := j.ends ++ [bytes], first := if j.count = 0 then s.now else j.first } }

/-- Leave an extent's content unspecified (R340, log 1). -/
def State.spoilBuffer (s : State) (die p at_ n : Nat) : State :=
  ((s.setFree (s.free + 1)).pwrite die p at_ (clean (codecBytes s.free 2 0 n))).2

/-- Raise a context's event (R335). -/
def State.vctxEvent (s : State) (die v : Nat) : State :=
  if vcEventEn v then s.raise die (vcEventSrc v) 0 else s

/-- The progress word (R334), then its event. -/
def State.progress (s : State) (die p v picture : Nat) (fin : Bool) (count bytes : Nat) : State :=
  if vcProgress v = 0 then s
  else
    let w := at' 48 (picture % 65536) + at' 47 (b2n fin) + at' 32 (count % 32768) + bytes % 2 ^ 32
    ((s.pwrite die p (vcProgress v) (clean (leBytes 8 w))).2).vctxEvent die v

/-- Show the last pieces of a picture of n, slices or bands: each with its word under sub-frame output, otherwise all and
one word at the end (R334, R335). -/
def State.showPieces (s : State) (die p v picture n : Nat) (bytes : Nat → Nat) (put : State → Nat → State) : List Nat → State
  | [] => s
  | k :: ks =>
    let s := put s k
    let s := if vcSubframe v || decide (k + 1 = n) then s.progress die p v picture (decide (k + 1 = n)) (k + 1) (bytes k) else s
    s.showPieces die p v picture n bytes put ks

/-- Write the luma and chroma rows of a band of 16 rows (R317). -/
def State.writeBand (s : State) (die p at_ : Nat) (x : Content) (k : Nat) : State :=
  let s := (s.pwrite die p (at_ + 16 * k * x.pitch) (clean ((upto 16).flatMap (fun i => x.lumaRow (16 * k + i))))).2
  (s.pwrite die p (at_ + chromaOff x.pitch x.h + 8 * k * x.pitch)
    (clean ((upto 8).flatMap (fun i => x.chromaRow (8 * k + i))))).2

/-- Write a line of the RGB copy (R318). -/
def State.writeRgb (s : State) (die p at_ v : Nat) (x : Content) (sp : StreamParams) (py : Nat) : State :=
  if vcAux v ≠ 0 && sp.cropT.toNat ≤ py && py < sp.cropT.toNat + sp.cropH.toNat then
    (s.pwrite die p (at_ + vcAuxOff v + rgbRow (vcAux v) sp.cropW.toNat * (py - sp.cropT.toNat))
      (clean (x.rgbLine sp (vcAux v) py))).2
  else s

/-- Bands of a picture. -/
def Content.bands (x : Content) : List Nat := upto (unitsOf x.h)

/-! ### DECODE (R324–R326, R336–R339) -/

/-- The extents of a DECODE. -/
def State.decodeSpace (s : State) (die p d v : Nat) (buf : Option Nat) : Bool × State :=
  if vdResult d % 64 ≠ 0 then (false, s)
  else
    match s.pcheck die p (vdBs d) (vdBytes d) false with
    | (true, s) => s.partsOk die p 1 true ([(vdResult d, 64), (vcProgress v, if vcProgress v = 0 then 0 else 8)]
        ++ (match buf with | some b => [(vcBuffer v b, vcEnd v)] | none => []))
    | (false, s) => (false, s)

/-- Some buffer of the mask holds a poisoned line of its picture. -/
def State.refsBad (s : State) (die p v mask : Nat) : Bool × State :=
  (upto (vcCount v)).foldl (fun (acc : Bool × State) i =>
    if bitOf mask i then
      match acc.2.rawRead die p (vcBuffer v i) (vcPic v) with
      | (some (bs, _), s) => (acc.1 || bs.any (·.2), s)
      | (none, s) => (acc.1, s)
    else acc) (false, s)

/-- A picture that predicts from references reads lines of them that the codec decides (log 1). -/
def State.refPoison (s : State) (die p v mask : Nat) (inter : Bool) : Bool × State :=
  if inter then
    let (bad, s) := s.refsBad die p v mask
    let (b, s) := s.drawBool
    (bad && b, s)
  else (false, s)

/-- The record of R325 for the picture `h`. -/
def decodeRecord (d now : Nat) (r : DecodeReport) (w : Judged) (h : VPic) (ref : BitVec 32) (buffer : Nat) : Nat :=
  at' 448 (vdPts d) + at' 384 now + at' 352 h.key.toNat + at' 336 h.width.toNat + at' 320 h.height.toNat
    + at' 304 h.cropW.toNat + at' 288 h.cropH.toNat + at' 280 h.cropL.toNat + at' 272 h.cropT.toNat + at' 240 ref.toNat
    + at' 220 (w.damaged % 2 ^ 20) + at' 212 w.reason + at' 210 w.picType + at' 209 (b2n (r.shown || w.existing.isSome))
    + at' 208 (b2n w.concealed) + at' 203 buffer + at' 200 r.temporalId.toNat

/-- The counts of a record (R339, R346, R347, code 0x4E). -/
def State.countRecord (s : State) (e p : Nat) (w : Judged) : State :=
  let pic := b2n (decide (w.picType ≠ 3))
  let s := s.videoCount p 5 pic
  let s := s.videoCount p 7 (b2n w.concealed)
  let s := s.videoCount p 8 (b2n (bitOf w.reason 1))
  let s := s.videoCount p 9 w.abandoned
  let s := s.videoCount p 0x0A (b2n (bitOf w.reason 3))
  (if pic = 0 then s else s.odInc (0x2510 + e) 5 1).bumpDie (dieOfEngine e) 0x4E (some p) pic

/-- The record, the context after it and the completion (R335). -/
def State.decodeOut (s : State) (q e p d : Nat) (c : VCtx) (r : DecodeReport) (w : Judged) (h : VPic) (b : Nat) : State :=
  let s := (s.pwrite (dieOfEngine e) p (vdResult d) (clean (leBytes 64 (decodeRecord d s.now r w h c.refHeld b)))).2
  ((s.putCtx e (fld d 64 8) c).countRecord e p w).videoDone q 0

/-- End a picture with a code, leaving its context as it was and the content of the buffer it wrote unspecified (R340). -/
def State.decodeFail (s : State) (q e p v : Nat) (b : Option Nat) (code : Nat) : State :=
  let s := match b with
    | some b => s.spoilBuffer (dieOfEngine e) p (vcBuffer v b) (vcEnd v)
    | none => s
  s.videoDone q code

/-- The picture of a DECODE: the one in progress, or one that its checks let start; else a code (R340). -/
def State.decodeJob (s : State) (q e p d : Nat) (r : DecodeReport) : Except Nat (VCtx × VJob) × State :=
  let die := dieOfEngine e
  let c0 := (s.engine e).vctx (fld d 64 8)
  let c := c0.release (vdRelease d)
  match (s.engine e).busy with
  | some j => (.ok (c, j), s)
  | none =>
    if !c0.openOn q then (.error 0xB2, s)
    else match s.decodeSpace die p d c.desc.toNat c.freeBuffer with
      | (false, s) => (.error 0xB4, s)
      | (true, s) =>
        if vdBytes d = 0 then (.error 1, s)
        else match s.mread die p (vdBs d) (vdBytes d) with
          | (none, s) => (.error 0xB4, s)
          | (some bs, s) =>
            if bs.any Prod.snd then (.error 0xB5, s)
            else match c.freeBuffer with
              | none => (.error 0xB6, s)
              | some b => let (j, s) := s.newJob e q b r; (.ok (c, j), s)

/-- Bytes of the concealment source's lines that a unit of a picture `w` samples wide takes: where each run starts and
its length. -/
def concealRuns (v pitch w h u : Nat) : List (Nat × Nat) :=
  let n := 16 * vcSample v
  let a := u % unitsOf w * n
  let y := u / unitsOf w
  (upto 16).map (fun i => ((16 * y + i) * pitch + a, n)) ++ (upto 8).map (fun i => (chromaOff pitch h + (8 * y + i) * pitch + a, n))

/-- The samples of a picture that is decoded (R337), none where a concealed unit's source is poisoned (R340). -/
def State.content (s : State) (die p : Nat) (c : VCtx) (j : VJob) (w : Judged) (sp : StreamParams) : Option Content × State :=
  let v := c.desc.toNat
  let x : Content := { key := j.key, ten := vcDepth10 v, mono := decide (sp.chroma = 0), w := sp.width.toNat, h := sp.height.toNat
                       pitch := vcPitch v, conceal := w.conceal, src := none, srcW := 0, srcH := 0 }
  match w.conceal.isEmpty, c.last with
  | false, some l =>
    let pic := c.pics.getD l.val {}
    match s.mread die p (vcBuffer v l.val) (picBytes (vcPitch v) pic.height.toNat) with
    | (some bs, s) =>
      if w.conceal.any (fun u => (concealRuns v (vcPitch v) x.w pic.height.toNat u).any (fun r => ((bs.drop r.1).take r.2).any Prod.snd))
      then (none, s)
      else (some { x with src := some (bs.map (·.1)), srcW := pic.width.toNat, srcH := pic.height.toNat }, s)
    | (none, s) => (some { x with src := some [] }, s)
  | _, _ => (some x, s)

/-- Write a band of a decoded picture and its part of the RGB copy. -/
def State.decodedBand (s : State) (die p v b : Nat) (x : Content) (sp : StreamParams) (k : Nat) : State :=
  (upto 16).foldl (fun s i => s.writeRgb die p (vcBuffer v b) v x sp (16 * k + i)) (s.writeBand die p (vcBuffer v b) x k)

/-- A picture is decoded into its buffer, or a poisoned reference ends it. -/
def State.decodePicture (s : State) (q e p d : Nat) (c : VCtx) (j : VJob) (w : Judged) (sp : StreamParams) : State :=
  let die := dieOfEngine e
  let v := c.desc.toNat
  let (bad, s) := s.refPoison die p v c.refHeld.toNat (decide (w.picType ≠ 0))
  if bad then s.decodeFail q e p v (some j.buffer) 0xB5
  else match s.content die p c j w sp with
    | (none, s) => s.decodeFail q e p v (some j.buffer) 0xB5
    | (some x, s) =>
      let s := s.showPieces die p v c.pictures x.bands.length (fun _ => 0) (fun s k => s.decodedBand die p v j.buffer x sp k)
        (x.bands.drop j.count)
      s.decodeOut q e p d (c.decoded j.unit w sp j.buffer) j.unit w (w.pic j.unit sp) j.buffer

/-- Without a parameter set the sizes of the record are free (log 1). -/
def State.paramsOr (s : State) (x : Option StreamParams) : StreamParams × State :=
  match x with
  | some sp => (sp, s)
  | none =>
    let (n, s) := s.drawNat
    ({ width := BitVec.ofNat 16 n, height := BitVec.ofNat 16 (n / 2 ^ 16), cropW := BitVec.ofNat 16 (n / 2 ^ 32)
       cropH := BitVec.ofNat 16 (n / 2 ^ 48), cropL := BitVec.ofNat 8 (n / 2 ^ 64), cropT := BitVec.ofNat 8 (n / 2 ^ 72) }, s)

/-- End a DECODE whose picture is in progress: what the unit comes to, its last progress word, its record. -/
def State.decodeEnd (s : State) (q e p d : Nat) (c : VCtx) (j : VJob) : State :=
  let die := dieOfEngine e
  let v := c.desc.toNat
  let w := c.judge (vdBytes d) j.unit
  match w.existing, w.sp with
  | some b, _ =>
    let h := c.pics.getD b {}
    let s := s.progress die p v c.pictures true (unitsOf h.height.toNat) 0
    s.decodeOut q e p d (c.shownAgain j.unit b) j.unit w h b
  | none, sp =>
    match decide (w.picType = 3), sp with
    | false, some sp => s.decodePicture q e p d c j w sp
    | _, sp =>
      let (sp, s) := s.paramsOr sp
      let s := s.progress die p v c.pictures true 0 0
      s.decodeOut q e p d (c.passed j.unit w) j.unit w (w.pic j.unit sp) 0

/-- DECODE. -/
def State.decode (s : State) (q e p d : Nat) (r : DecodeReport) : State :=
  match s.decodeJob q e p d r with
  | (.ok (c, j), s) => s.decodeEnd q e p d c j
  | (.error code, s) =>
    let c := ((s.engine e).vctx (fld d 64 8)).release (vdRelease d)
    s.decodeFail q e p c.desc.toNat (if code = 0xB5 then c.freeBuffer else none) code

/-! ### ENCODE (R327–R333) -/

/-- Write the statistics of a picture of bytes `pic`. -/
def State.writeStats (s : State) (die p key v at_ : Nat) (pic : List Byte) (idr : Bool) : State :=
  (upto (unitsH v)).foldl (fun s y =>
    (s.pwrite die p (at_ + statsRow v * y)
      (clean ((upto (unitsW v)).flatMap (fun x => leBytes 8 (statEntry pic key v x y idr))))).2) s

/-- The input picture's planes (R317). -/
def planesOf (v at_ : Nat) : List (Nat × Nat) :=
  [(at_, vcPitch v * h16 (vcH v)), (at_ + chromaOff (vcPitch v) (vcH v), vcPitch v * h16 (vcH v) / 2)]

/-- 0xB4 of an ENCODE; a field that is not used is not checked (R129). -/
def State.encodeSpace (s : State) (die p d v : Nat) : Bool × State :=
  if veIn d % 4096 ≠ 0 || veOut d % 64 ≠ 0 || veResult d % 64 ≠ 0 || (veRoiCount d ≠ 0 && veRoi d % 8 ≠ 0)
      || (vcStats v ≠ 0 && veStats d % 64 ≠ 0) then (false, s)
  else
    match s.partsOk die p 1 false (planesOf v (veIn d) ++ [(veRoi d, 8 * veRoiCount d)]) with
    | (true, s) => s.partsOk die p 1 true ([(veOut d, veCapacity d), (veResult d, 64),
        (veStats d, if vcStats v = 0 then 0 else statsRow v * unitsH v), (vcProgress v, if vcProgress v = 0 then 0 else 8)]
        ++ (upto (vcCount v)).map (fun i => (vcBuffer v i, vcPic v)))
    | (false, s) => (false, s)

/-- The checks of an ENCODE (R340): a code, or the context. -/
def State.encodeCheck (s : State) (q e p d : Nat) : Except Nat VCtx × State :=
  let c := (s.engine e).vctx (fld d 64 8)
  let v := c.desc.toNat
  if !c.openOn q then (.error 0xB2, s)
  else if 8 < veRoiCount d || veCapacity d < codedBound v then (.error 0xB3, s)
  else match s.encodeSpace (dieOfEngine e) p d v with
    | (false, s) => (.error 0xB4, s)
    | (true, s) => (.ok c, s)

/-- A picture is an IDR (R332). -/
def VCtx.codesIdr (c : VCtx) (d : Nat) : Bool :=
  let v := c.desc.toNat
  c.pictures = 0 || veForce d || (vcIdrPeriod v ≠ 0xFFFF && decide (vcIdrPeriod v < c.sinceIdr))

/-- The buffer for the reconstruction: one that holds no reference; which one is free. -/
def State.reconBuffer (s : State) (c : VCtx) : Nat × State :=
  let free := (upto (vcCount c.desc.toNat)).filter (fun i => !c.refHeld.getLsbD i)
  let (n, s) := s.drawNat
  (free.getD (n % free.length) 0, s)

/-- The context after a coded picture of n bytes: the refs_m1 + 1 pictures coded last are references, none older than an
IDR (R331). -/
def VCtx.encoded (c : VCtx) (b n : Nat) (idr : Bool) : VCtx :=
  let v := c.desc.toNat
  let keep := match c.last with
    | some l => if !idr && vcRefs v = 2 then bitMask l.val else 0
    | none => 0
  let rate := c.rate ++ [n]
  { c with refHeld := keep ||| bitMask b, last := some (Fin.ofNat 32 b), pictures := c.pictures + 1,
           sinceIdr := if idr then 1 else c.sinceIdr + 1, rate := rate.drop (rate.length - rateWindow v 10) }

/-- The record of R333. -/
def encodeRecord (d now first bytes slices : Nat) (idr : Bool) (qp : Nat) : Nat :=
  at' 448 (vdPts d) + at' 384 now + at' 320 first + at' 296 bytes + at' 289 slices + at' 287 (if idr then 0 else 1)
    + at' 281 (qp % 64)

/-- End an ENCODE with a code: its context as it was; the bytes it may have written and the buffer of its reconstruction
unspecified (R340). -/
def State.encodeFail (s : State) (q e p d v b code : Nat) : State :=
  let die := dieOfEngine e
  let (n, s) := s.drawNat
  let s := s.spoilBuffer die p (veOut d) (n % (codedBound v + 1))
  (s.spoilBuffer die p (vcBuffer v b) (vcPic v)).videoDone q code

/-- The picture of an ENCODE: the one in progress, or one that its checks let start; else a code (R340). -/
def State.encodeJob (s : State) (q e p d : Nat) : Except Nat (VCtx × VJob) × State :=
  match (s.engine e).busy with
  | some j => (.ok ((s.engine e).vctx (fld d 64 8), j), s)
  | none =>
    match s.encodeCheck q e p d with
    | (.error code, s) => (.error code, s)
    | (.ok c, s) =>
      let (b, s) := s.reconBuffer c
      let (j, s) := s.newJob e q b {}
      (.ok (c, j), s)

/-- The poison and region checks of an ENCODE (R340, R329): the picture's bytes and the regions, or a code. -/
def State.encodeReads (s : State) (die p d v : Nat) : Except Nat (List Byte × List Nat) × State :=
  match s.getParts (if die = 0 then 0 else 9) p 1 (planesOf v (veIn d)) with
  | (none, s) => (.error 0xB4, s)
  | (some pic, s) =>
    match s.mread die p (veRoi d) (8 * veRoiCount d) with
    | (none, s) => (.error 0xB4, s)
    | (some roi, s) =>
      if pic.any Prod.snd || roi.any Prod.snd then (.error 0xB5, s)
      else
        let rs := (upto (veRoiCount d)).map (roiEntry (roi.map (·.1)))
        if rs.any roiReserved then (.error 0xB0, s)
        else if rs.any (fun x => decide (roiDelta x < -31) || decide (31 < roiDelta x)) then (.error 0xB3, s)
        else (.ok (pic.map (·.1), rs), s)

/-- Write slice k, after the parameter sets for the first slice of an IDR (R328). -/
def State.writeSlice (s : State) (die p v out key : Nat) (idr : Bool) (ends : List Nat) (k : Nat) : State :=
  let base := streamBase v idr
  if k = 0 then (s.pwrite die p out (clean ((if idr then paramSets v else []) ++ sliceNal v key idr base (ends.getD 0 0)))).2
  else (s.pwrite die p (out + ends.getD (k - 1) 0) (clean (sliceNal v key idr (ends.getD (k - 1) 0) (ends.getD k 0)))).2

/-- When the first slice was visible: noted, or between the picture's start and now, free (log 1). -/
def State.firstVisible (s : State) (j : VJob) : Nat × State :=
  if j.count ≠ 0 then (j.first, s)
  else
    let (n, s) := s.drawNat
    (j.start + n % (s.now - j.start + 1), s)

/-- The reconstruction of a coded picture. -/
def codedContent (v key : Nat) : Content :=
  { key := key, ten := vcDepth10 v, mono := false, w := vcW v, h := vcH v, pitch := vcPitch v, conceal := [], src := none
    srcW := 0, srcH := 0 }

/-- A picture is coded: its reconstruction, statistics, stream, progress and record (R329–R333). -/
def State.encodeEnd (s : State) (q e p d : Nat) (c : VCtx) (j : VJob) (pic : List Byte) (regions : List Nat) (r : EncodeReport) :
    State :=
  let die := dieOfEngine e
  let v := c.desc.toNat
  let idr := c.codesIdr d
  let ends := c.sliceEndsOf r idr j.ends
  let n := ends.getLastD 0
  let x := codedContent v j.key
  let (up, s) := s.drawBool
  let s := x.bands.foldl (fun s k => s.writeBand die p (vcBuffer v j.buffer) x k) s
  let s := if vcStats v = 0 then s else s.writeStats die p j.key v (veStats d) pic idr
  let s := s.showPieces die p v c.pictures (vcSlices v) (fun k => ends.getD k 0)
    (fun s k => s.writeSlice die p v (veOut d) j.key idr ends k) ((upto (vcSlices v)).drop j.count)
  let (first, s) := s.firstVisible j
  let s := (s.pwrite die p (veResult d) (clean (leBytes 64
    (encodeRecord d s.now first n (vcSlices v) idr (meanQp v (c.pictureQp r) regions up))))).2
  let s := (s.putCtx e (fld d 64 8) (c.encoded j.buffer n idr)).videoCount p 6 1
  ((s.odInc (0x2510 + e) 5 1).bumpDie die 0x4E (some p) 1).videoDone q 0

/-- ENCODE. -/
def State.encode (s : State) (q e p d : Nat) (r : EncodeReport) : State :=
  let die := dieOfEngine e
  match s.encodeJob q e p d with
  | (.error code, s) => s.videoDone q code
  | (.ok (c, j), s) =>
    let v := c.desc.toNat
    (match s.encodeReads die p d v with
     | (.error code, s) => s.encodeFail q e p d v j.buffer code
     | (.ok (pic, regions), s) =>
       let (bad, s) := s.refPoison die p v c.refHeld.toNat (!c.codesIdr d)
       if bad then s.encodeFail q e p d v j.buffer 0xB5 else s.encodeEnd q e p d c j pic regions r)

/-! ### Sub-frame output (R334, R335) -/

/-- A slice of a coded picture is visible: not its last, whose word says that the picture is complete. -/
def State.sliceVisible (s : State) (q e p d count bytes : Nat) : State :=
  let die := dieOfEngine e
  match s.encodeJob q e p d with
  | (.ok (c, j), t) =>
    let v := c.desc.toNat
    if vcSubframe v && count = j.count + 1 && c.sliceFits (c.codesIdr d) j.ends bytes then
      (match t.encodeReads die p d v with
       | (.ok _, t) =>
         let ends := j.ends ++ [bytes]
         let t := t.writeSlice die p v (veOut d) j.key (c.codesIdr d) ends j.count
         (t.progress die p v c.pictures false count bytes).noteVisible e j bytes
       | (.error _, _) => s)
    else s
  | (.error _, _) => s

/-- A band of a decoded picture is final: not its last. -/
def State.bandFinal (s : State) (q e p d count : Nat) (r : DecodeReport) : State :=
  let die := dieOfEngine e
  match s.decodeJob q e p d r with
  | (.ok (c, j), t) =>
    let v := c.desc.toNat
    let w := c.judge (vdBytes d) j.unit
    (match w.picType ≠ 3 && w.existing.isNone, w.sp with
     | true, some sp =>
       (match t.content die p c j w sp with
        | (some x, t) =>
          if vcSubframe v && count = j.count + 1 && count < x.bands.length then
            ((t.decodedBand die p v j.buffer x sp j.count).progress die p v c.pictures false count 0).noteVisible e j 0
          else s
        | (none, _) => s)
     | _, _ => s)
  | (.error _, _) => s

/-! ### Restart and failure (R343, R344, R486) -/

/-- The queue whose picture is in progress: the engine takes a ready one at once (R320). -/
def State.inFlight (s : State) (e : Nat) : Option Nat :=
  match (s.engine e).busy with
  | some j => some j.queue.toNat
  | none => (s.videoNext e).filter (fun q => match (s.queue q).jobIn .handed with
    | some j => dOpcode j.d = 0x31 || dOpcode j.d = 0x32
    | none => false)

/-- The buffer that the picture in progress writes: the job's, or the one a picture started unseen would write. -/
def State.writtenBuffer (s : State) (e : Nat) (c : VCtx) : Option Nat × State :=
  match (s.engine e).busy with
  | some j => (some j.buffer, s)
  | none =>
    if c.state ≠ .opened then (none, s)
    else if isEncoder e then let (b, s) := s.reconBuffer c; (some b, s)
    else (c.freeBuffer, s)

/-- The picture of queue q ends with a code; one that is not in progress only completes. -/
def State.abortPicture (s : State) (e q code : Nat) : State :=
  match (s.queue q).jobIn .handed with
  | some j =>
    let d := j.d
    let p := (s.queue q).part
    let c := (s.engine e).vctx (fld d 64 8)
    let c := if isEncoder e then c else c.release (vdRelease d)
    if s.inFlight e ≠ some q then s.done q code
    else match s.writtenBuffer e c with
      | (some b, s) =>
        if isEncoder e then s.encodeFail q e p d c.desc.toNat b code else s.decodeFail q e p c.desc.toNat (some b) code
      | (none, s) => s.videoDone q code
  | none => s.endTurn e q

def State.abortInFlight (s : State) (e code : Nat) : State :=
  match s.inFlight e with
  | some q => s.abortPicture e q code
  | none => s

/-- Park-clock hour of R486. -/
def State.restartsLastHour (s : State) (e : Nat) : List Nat :=
  (s.engine e).restarts.filter (fun t => decide (s.park.clock < t + 3600))

/-- An engine fails (R76, R344): its picture ends, its contexts stay as records for ADOPT. -/
def State.engineFails (s : State) (e : Nat) : State :=
  if (s.engine e).failed then s
  else
    let s := s.abortInFlight e 0xB8
    let s := s.putEngine e { s.engine e with failed := true, restarting := false }
    s.failRecord (dieOfEngine e) 0x11 8 e ((s.engine e).part.map BitVec.toNat) 0 [(0, .num (s.restartsLastHour e).length)]

/-- An engine restarts itself (R343), until the block's next idle step (log 145); the fifth restart within an hour fails it
(R486). -/
def State.restartEngine (s : State) (e code : Nat) : State :=
  if s.engineDown e then s
  else
    let s := s.abortInFlight e code
    let s := s.putEngine e { s.engine e with restarts := s.restartsLastHour e ++ [s.park.clock], restarting := true }
    let s := ((s.odInc (0x2510 + e) 6 1).charge 8 e).raise (dieOfEngine e) 189 e
    if 5 ≤ (s.engine e).restarts.length then s.engineFails e else s

/-- The restart entry's command: running until the restart ends, failed where the engine fails. -/
def State.orderRestart (s : State) (e : Nat) : State :=
  if s.asleep then s
  else if s.engineDown e then s.odSet (0x2510 + e) 7 3
  else
    let s := s.restartEngine e 0xB8
    s.odSet (0x2510 + e) 7 (if s.engineDown e then 3 else 1)

/-- The picture of queue q, in progress at its engine since its start, has taken longer than OD 0x2500.0B. -/
def State.pictureTimeout (s : State) (q : Nat) : State :=
  match s.atVideo q with
  | some (e, _) =>
    let start := match (s.engine e).busy with
      | some j => j.start
      | none => s.takenAt e q
    if s.inFlight e = some q && start + ms * s.odGet 0x2500 0x0B < s.now then s.restartEngine e 0xB7 else s
  | none => s

/-! ### The commands -/

def isVctx (op : Nat) (d : Nat) : Bool := dOpcode d = 0x30 && vcOp d = op

/-- VCTX_OPEN -/
def execVctxOpen (q : QueueId) (s : State) : Host.Outcome State Fault Refusal :=
  .next (s.videoCommand q.toNat (isVctx 0) (fun s q e p d => s.vctxOpen q e p d))
/-- VCTX_UPDATE -/
def execVctxUpdate (q : QueueId) (s : State) : Host.Outcome State Fault Refusal :=
  .next (s.videoCommand q.toNat (isVctx 1) (fun s q e p d => s.vctxUpdate q e p d))
/-- VCTX_CLOSE -/
def execVctxClose (q : QueueId) (s : State) : Host.Outcome State Fault Refusal :=
  .next (s.videoCommand q.toNat (isVctx 2) (fun s q e _ d => s.vctxClose q e d))
/-- VCTX_DETACH -/
def execVctxDetach (q : QueueId) (s : State) : Host.Outcome State Fault Refusal :=
  .next (s.videoCommand q.toNat (isVctx 3) (fun s q e _ d => s.vctxDetach q e d))
/-- VCTX_ADOPT -/
def execVctxAdopt (q : QueueId) (s : State) : Host.Outcome State Fault Refusal :=
  .next (s.videoCommand q.toNat (isVctx 4) (fun s q e p d => s.vctxAdopt q e p d))
/-- DECODE -/
def execDecode (q : QueueId) (r : DecodeReport) (s : State) : Host.Outcome State Fault Refusal :=
  .next (s.videoCommand q.toNat (fun d => dOpcode d = 0x31) (fun s q e p d => s.decode q e p d r))
/-- ENCODE -/
def execEncode (q : QueueId) (r : EncodeReport) (s : State) : Host.Outcome State Fault Refusal :=
  .next (s.videoCommand q.toNat (fun d => dOpcode d = 0x32) (fun s q e p d => s.encode q e p d r))
/-- SUBFRAME_PROGRESS: of a picture that is in progress or starts now. -/
def execSubframeProgress (q : QueueId) (count : BitVec 15) (prog : PictureProgress) (s : State) :
    Host.Outcome State Fault Refusal :=
  .next (match s.atVideo q.toNat with
    | some (e, d) =>
      let p := (s.queue q.toNat).part
      if s.inFlight e ≠ some q.toNat || videoReserved d then s
      else if isEncoder e then (if dOpcode d = 0x32 then s.sliceVisible q.toNat e p d count.toNat prog.bytes.toNat else s)
      else if dOpcode d = 0x31 then s.bandFinal q.toNat e p d count.toNat prog.r else s
    | none => s)
/-- PICTURE_TIMEOUT -/
def execPictureTimeout (q : QueueId) (s : State) : Host.Outcome State Fault Refusal := .next (s.pictureTimeout q.toNat)
/-- VIDEO_ENGINE_RESTART -/
def execVideoEngineRestart (e : EngineId) (s : State) : Host.Outcome State Fault Refusal := .next (s.orderRestart e.val)
/-- VIDEO_ENGINE_FAILURE -/
def execVideoEngineFailure (e : EngineId) (s : State) : Host.Outcome State Fault Refusal :=
  .next (if s.asleep then s else s.engineFails e.val)

end Sys2Proof.Machine
end

