-- ==== Sys2Proof/Machine/Firmware.lean ====
section
/-!
DEFINITION. The runtime load and its messages (11 R366–R371), mailbox waits (R359, R366), health (20 R611).
-/
namespace Sys2Proof.Machine

open Sys2Proof

/-! ### Steps of R369 -/

/-- Interface version of a part of the runtime image that is being loaded, where its manifest lists it (log 7). -/
def Image.iface (x : Image) (part : Nat) : Option Nat := (x.parts.find? (fun p => p.1 = part)).map (·.2)
def Image.partDigest (x : Image) (part : Nat) : Option Nat := (x.digests.find? (fun p => p.1 = part)).map (·.2)
def State.loadedImage (s : State) : Image := s.store.runImg s.store.loadedB

/-- Ids of the runtime components (R353). -/
def runtimeComps : List Nat := [2, 3, 4, 5, 6, 7, 8, 9, 10, 11]

/-- Every runtime component of both dies is in a state that meets `p`. -/
def State.compsAll (s : State) (p : CompState → Bool) : Bool :=
  [0, 1].all (fun d => runtimeComps.all (fun c => p (s.comp d c).state))

/-- Every mailbox 1–63 of both dies has been assigned. -/
def State.mbxAll (s : State) : Bool := [0, 1].all (fun d => (upto 63).all (fun m => (s.mbx d (m + 1)).assigned))

/-- The settings migration of step 7 (R615): a newer runtime converts the items; one that reads the older copy drops the
newer. -/
def Store.migrate (t : Store) : Store :=
  let v := (t.runImg t.loadedB).settings
  if t.runSettings < v then { t with runOlder := some t.runSettings, runSettings := v }
  else if v < t.runSettings then { t with runSettings := t.runOlder.getD t.runSettings, runOlder := none }
  else t

/-- Retired and marked cores, in order (R497). -/
def State.swapList (s : State) : List Nat :=
  (upto 18).filter (fun n => decide ((s.core n).role = .retired) || (s.core n).wearMarked)

/-- The load is complete: migration, the core swaps, READY (R369 step 7, R574 step 9, R584 step 6). The watchdog restarts
with the runtime (R579). -/
def State.loadComplete (s : State) (sparesPass : List CoreId) : State :=
  let s := s.setStore s.store.migrate
  let s := (s.setFw { s.fw with loadStep := 0 }).odSet 0x2150 8 (msSince s.now s.fw.loadSince)
  let s := if s.odGet 0x2150 0x0B = 1 then s.odSet 0x2150 0x0B 2 else s
  let s := State.swapAll s sparesPass s.swapList
  ((s.setRst { s.rst with running := none, beat := s.odGet 0x2000 8, beatSince := s.now }).enterMode .ready).follow

/-! ### HELLO (R370) -/

/-- The first failing check of step 4, in the table's order; the major has matched. -/
def State.helloReason (s : State) (minor required : Nat) : Nat :=
  let img := s.loadedImage
  let t := s.store
  let compBad := (runtimeComps.filterMap (fun c => img.iface (0x20 + c))).any (fun v => decide (v / 256 ≠ s.kernelVersion / 256))
  let driver := match img.iface 0x10 with
    | some v => decide (v / 256 = required / 256) && decide (required % 256 ≤ v % 256)
    | none => true
  let newer := decide (img.settings < t.runSettings) && (match t.runOlder with
    | some v => decide (img.settings < v)
    | none => true)
  if minor < 2 then 2 else if compBad then 3 else if !driver then 4 else if newer then 8 else 0

/-- A trial is proven when both kernels have replied (R610). -/
def State.proveTrial (s : State) : State :=
  let t := s.store
  match t.platIn .trial with
  | some b =>
    let t := match t.platIn .active with
      | some a => t.putPlat a .previous
      | none => t
    let t := { t.putPlat b .active with trialFailed := false, platOlder := none }
    ((s.setStore t).setSec { s.sec with fusePlatform := Nat.max s.sec.fusePlatform (t.img b).counter }).imageResult 1
  | none => s

/-- An accepted HELLO: mailbox 0 starts both sequences at 0, then the reply goes out (R365). At step 4 of the load it is
compared (R370); with both dies answered, the load goes on. -/
def State.helloAccepted (s : State) (x : MbxIn) : State :=
  let b := s.body x
  let required := leNat ((b.drop 32).take 2)
  let s := (s.odSet 0x2150 3 (256 * mgMajor x.word + mgMinor x.word)).odSet 0x2150 4 required
  let reason := s.helloReason (mgMinor x.word) required
  let waits := decide (s.mode = .awaitRuntime) && decide (s.fw.loadStep = 4)
  if reason ≠ 0 then
    let s := s.answer x 0 s.helloBody
    if waits then s.refuse reason else s
  else
    let s := s.putMbx x.die 0 { s.mbx x.die 0 with inSeq := 0, outSeq := 0 }
    let s := s.answer x 0 s.helloBody
    if waits then
      let s := s.setFw { s.fw with helloEast := s.fw.helloEast || x.die = 0, helloWest := s.fw.helloWest || x.die = 1 }
      if s.fw.helloEast && s.fw.helloWest then (s.setFw { s.fw with loadStep := 5 }).proveTrial else s
    else s

/-- HELLO with another major is answered 0x80 with the same body, and refuses the bundle (R370, R371). -/
def State.hello (s : State) (m : MbxSrc) : State :=
  let wrong : Bool := match s.incoming m with
    | some x => decide (mgType x.word = 1) && decide (s.checkMessage x = 0x80) && decide (s.mode = .awaitRuntime)
        && decide (s.fw.loadStep = 4)
    | none => false
  match s.incoming m, s.receive m 1 with
  | _, (some x, s) => s.helloAccepted x
  | some x, (none, s) =>
    let s := if mgType x.word = 1 && mgMajor x.word ≠ s.kernelVersion / 256 && !mgReservedBad x.word x.queue.isNone then
        s.odSet 0x2150 3 (256 * mgMajor x.word + mgMinor x.word)
      else s
    if wrong then s.refuse 1 else s
  | none, (none, s) => s

/-! ### Components -/

/-- A component of the runtime bundle that its state lets the loader load, start or stop. -/
def State.compIn (s : State) (die c : Nat) (ok : CompState → Bool) : Bool :=
  decide (2 ≤ c) && decide (c ≤ 11) && ok (s.comp die c).state

/-- The home core of R354, which the spec leaves open (log 1). -/
def State.homeCore (s : State) (die : Nat) : Nat × State :=
  let (n, s) := s.drawNat
  let cs := s.fwOnline die
  (cs.getD (n % cs.length) 255, s)

/-- LOAD_COMPONENT (R369 step 5; log 14 gives the body): a digest that differs from the manifest refuses the bundle. -/
def State.loadComponent (s : State) (x : MbxIn) : State :=
  let b := s.body x
  let c := leNat (b.take 1)
  let digest := leNat (b.drop 16)
  let step := s.fw.loadStep
  if !(s.compIn x.die c (fun st => st = .absent || st = .loaded)) || s.mode = .refused || step = 4 then s.answer x 0x89 []
  else
    let img := s.loadedImage
    let good := match img.partDigest (0x20 + c) with
      | some d => decide (d = digest)
      | none => true
    if !good then
      let s := s.answer x 0x89 []
      if s.mode = .awaitRuntime then s.refuse 5 else s
    else
      let (core, s) := s.homeCore x.die
      let s := s.putComp x.die c { s.comp x.die c with
        version := img.version, digest := digest, core := core, data := {}, windows := true }
      let s := (s.setComp x.die c .loaded 0).answer x 0 []
      if step = 5 && s.compsAll (fun st => st = .loaded || st = .running) then s.setFw { s.fw with loadStep := 6 } else s

/-- START_COMPONENT (R369 step 6). -/
def State.startComponent (s : State) (x : MbxIn) : State :=
  let c := leNat ((s.body x).take 1)
  if s.compIn x.die c (fun st => st = .loaded || st = .running) then
    let s := if (s.comp x.die c).state = .loaded then s.setComp x.die c .running 0 else s
    let s := s.answer x 0 []
    if s.fw.loadStep = 6 && s.compsAll (fun st => st = .running) then s.setFw { s.fw with loadStep := 7 } else s
  else s.answer x 0x89 []

/-- STOP_COMPONENT. -/
def State.stopComponent (s : State) (x : MbxIn) : State :=
  let c := leNat ((s.body x).take 1)
  if s.compIn x.die c (fun st => st = .loaded || st = .running) then
    (if (s.comp x.die c).state = .running then s.setComp x.die c .loaded 0 else s).answer x 0 []
  else s.answer x 0x89 []

/-- COMPONENT_STATUS: the layout of its 32 bytes is not given (log 1). -/
def State.componentStatus (s : State) (x : MbxIn) : State :=
  let (n, s) := s.drawNat
  s.answer x 0 (leBytes 32 n)

/-- BUNDLE_HEALTH (R611). -/
def State.bundleHealth (s : State) (x : MbxIn) : State :=
  (if s.store.probation.isSome then (s.odSet 0x2A20 0x0D 1).commit [9] else s).answer x 0 []

/-! ### MAILBOX_ASSIGN (R362, R369 step 7) -/

def mbxKindOf (k : Nat) : MbxKind := if k = 1 then .host else if k = 2 then .queue else .unused

def State.mailboxAssign (s : State) (x : MbxIn) (sparesPass : List CoreId) : State :=
  let b := s.body x
  let m := leNat (b.take 1)
  let k := leNat ((b.drop 1).take 1)
  let p := leNat ((b.drop 2).take 1)
  let step := s.fw.loadStep
  if m = 0 || 63 < m || 2 < k || 7 < p || leNat (b.drop 3) ≠ 0 then s.answer x 0x84 []
  else if (step ≠ 0 && step ≠ 7) || s.mode = .refused || !(s.mbx x.die m).inb.isEmpty then s.answer x 0x89 []
  else
    let s := s.putMbx x.die m { kind := mbxKindOf k, assigned := true, part := BitVec.ofNat 3 p }
    let s := s.answer x 0 []
    if step = 7 && s.mbxAll then s.loadComplete sparesPass else s

/-! ### Waits (R359, R366) -/

/-- The oldest request that waits for its component has waited 100 ms: 0x87. -/
def State.mailboxWait (s : State) (die m : Nat) : State :=
  match (s.mbx die m).inb.find? (fun r => r.waiting && decide (r.since + 100 * ms ≤ s.now)) with
  | some r => s.answerKept die m r 0x87 []
  | none => s

/-- The oldest request that has had no reply within its type's limit: 0x88. -/
def State.replyTimeout (s : State) (die m : Nat) : State :=
  match (s.mbx die m).inb.find? (fun r => match msgType (mgType r.msg.toNat) with
      | some t => decide (r.since + t.limit < s.now)
      | none => false) with
  | some r => s.answerKept die m r 0x88 []
  | none => s

/-! ### The reload of a refused bundle (R371) -/

/-- Components of the runtime go back to absent before R369 starts again. -/
def State.dropComps (s : State) : State :=
  [0, 1].foldl (fun s d => runtimeComps.foldl (fun s c =>
    if (s.comp d c).state = .absent then s else s.setComp d c .absent 0) s) s

def State.reloadRuntime (s : State) (reported : Nat) : State :=
  if s.mode = .refused then (s.dropComps.odSet 0x2150 0x0B 1).loadRuntime reported
  else if s.mode = .off || s.asleep then s else s.odSet 0x2150 0x0B 3

/-! ### The commands -/

/-- HELLO -/
def execHello (m : MbxSrc) (s : State) : Host.Outcome State Fault Refusal := .next (s.hello m)
/-- LOAD_COMPONENT -/
def execLoadComponent (m : MbxSrc) (s : State) : Host.Outcome State Fault Refusal :=
  match s.receive m 2 with
  | (some x, s) => .next (s.loadComponent x)
  | (none, s) => .next s
/-- START_COMPONENT -/
def execStartComponent (m : MbxSrc) (s : State) : Host.Outcome State Fault Refusal :=
  match s.receive m 3 with
  | (some x, s) => .next (s.startComponent x)
  | (none, s) => .next s
/-- STOP_COMPONENT -/
def execStopComponent (m : MbxSrc) (s : State) : Host.Outcome State Fault Refusal :=
  match s.receive m 4 with
  | (some x, s) => .next (s.stopComponent x)
  | (none, s) => .next s
/-- COMPONENT_STATUS -/
def execComponentStatus (m : MbxSrc) (s : State) : Host.Outcome State Fault Refusal :=
  match s.receive m 5 with
  | (some x, s) => .next (s.componentStatus x)
  | (none, s) => .next s
/-- BUNDLE_HEALTH -/
def execBundleHealth (m : MbxSrc) (s : State) : Host.Outcome State Fault Refusal :=
  match s.receive m 6 with
  | (some x, s) => .next (s.bundleHealth x)
  | (none, s) => .next s
/-- MAILBOX_ASSIGN -/
def execMailboxAssign (m : MbxSrc) (sparesPass : List CoreId) (s : State) : Host.Outcome State Fault Refusal :=
  match s.receive m 7 with
  | (some x, s) => .next (s.mailboxAssign x sparesPass)
  | (none, s) => .next s
/-- ECHO returns its body. -/
def execEcho (m : MbxSrc) (s : State) : Host.Outcome State Fault Refusal :=
  match s.receive m 0x60 with
  | (some x, s) => .next (s.answer x 0 (s.body x))
  | (none, s) => .next s
/-- MAILBOX_WAIT_TIMEOUT -/
def execMailboxWaitTimeout (die : Die) (mbx : BitVec 6) (s : State) : Host.Outcome State Fault Refusal :=
  .next (s.mailboxWait die.toNat mbx.toNat)
/-- MAILBOX_REPLY_TIMEOUT -/
def execMailboxReplyTimeout (die : Die) (mbx : BitVec 6) (s : State) : Host.Outcome State Fault Refusal :=
  .next (s.replyTimeout die.toNat mbx.toNat)
/-- RELOAD_RUNTIME -/
def execReloadRuntime (runtime : Nat) (s : State) : Host.Outcome State Fault Refusal := .next (s.reloadRuntime runtime)

end Sys2Proof.Machine
end

