-- ==== Sys2Proof/Machine/Network.lean ====
section
/-!
DEFINITION. The network ports (13): frames, steering, NETTX and NETRX, failover and replay, returning ports, lane
diagnostics, job-abort frames. A frame is its bytes from the destination address on, without FCS.
-/
namespace Sys2Proof.Machine

open Sys2Proof

/-! ### Links and roles (R405, R406, R427) -/

def PortRole.code : PortRole → Nat
  | .active => 0 | .standby => 1 | .down => 2 | .holdoff => 3 | .resync => 4 | .failed => 5

/-- A change of role is noted and raises its event (OD 0x2610 + p.08, R453). -/
def State.setRole (s : State) (p : Nat) (r : PortRole) : State :=
  if (s.port p).role = r then s
  else
    (s.putPort p { s.port p with role := r, lastChange := s.now }).raise (dieOfPort p) 186 (p + 16 * r.code)

/-- The active port of a link. -/
def State.activePort (s : State) (l : Nat) : Option Nat := (portsOfLink l).find? (fun p => decide ((s.port p).role = .active))
/-- The standby port of a link, with its link up. -/
def State.standbyPort (s : State) (l : Nat) : Option Nat :=
  (portsOfLink l).find? (fun p => decide ((s.port p).role = .standby) && (s.port p).up)

/-- The ports a link's frames leave on: the active one, and the standby one during a planned switch (R425). None while
the link is down, or its active port has no link yet. -/
def State.txPorts (s : State) (l : Nat) : List Nat :=
  match s.activePort l with
  | some p =>
    if (s.port p).up then
      p :: (if (s.link l).switching.isSome then (match s.standbyPort l with | some b => [b] | none => []) else [])
    else []
  | none => []

/-- The MAC's link of a queue (R407). -/
def Queue.linkOf (x : Queue) : Nat := linkOfPort x.inst

/-! ### Frame fields (R411, R412) -/

def beNat (bs : List Byte) : Nat := leNat bs.reverse
def fEther (bs : List Byte) : Nat := beNat ((bs.drop 12).take 2)
/-- The 32-byte header after the EtherType (R412). -/
def fHeader (bs : List Byte) : Nat := leNat ((bs.drop 14).take 32)
def fhVersion (h : Nat) : Nat := fld h 252 4
def fhType (h : Nat) : Nat := fld h 248 4
def fhReserved (h : Nat) : Bool := fld h 240 6 ≠ 0 || fld h 0 144 ≠ 0
def fhSrc (h : Nat) : Nat := fld h 224 16
def fhDst (h : Nat) : Nat := fld h 208 16
def fhSeq (h : Nat) : Nat := fld h 176 32
def fhChannel (h : Nat) : Nat := fld h 160 16
def fhLength (h : Nat) : Nat := fld h 144 16

/-- The frame with another header. -/
def withHeader (bs : List Byte) (h : Nat) : List Byte := bs.take 14 ++ leBytes 32 h ++ bs.drop 46

/-- IPv6 fields: version, payload length, next header, hop limit, source and destination as little-endian numbers of
their 16 bytes. -/
def ipVersion (bs : List Byte) : Nat := (bs.getD 14 0).toNat / 16
def ipLength (bs : List Byte) : Nat := beNat ((bs.drop 18).take 2)
def ipNext (bs : List Byte) : Nat := (bs.getD 20 0).toNat
def ipHops (bs : List Byte) : Nat := (bs.getD 21 0).toNat
def ipSrc (bs : List Byte) : Nat := leNat ((bs.drop 22).take 16)
def ipDst (bs : List Byte) : Nat := leNat ((bs.drop 38).take 16)

/-- Walk the extension headers: the upper-layer protocol and its offset; none where a fragment header is met. -/
def upperLayer (bs : List Byte) : Nat → Nat → Nat → Option (Nat × Nat)
  | 0, next, off => some (next, off)
  | f + 1, next, off =>
    if next = 44 then none
    else if next = 0 || next = 43 || next = 60 then
      upperLayer bs f (bs.getD off 0).toNat (off + 8 * ((bs.getD (off + 1) 0).toNat + 1))
    else some (next, off)

def ipUpper (bs : List Byte) : Option (Nat × Nat) := upperLayer bs 16 (ipNext bs) 54

/-- One's complement sum of 16-bit words. -/
def sumWords : List Byte → Nat
  | a :: b :: r => 256 * a.toNat + b.toNat + sumWords r
  | [a] => 256 * a.toNat
  | [] => 0

def foldSum : Nat → Nat → Nat
  | 0, x => x
  | f + 1, x => if x < 65536 then x else foldSum f (x % 65536 + x / 65536)

/-- The checksum of a UDP datagram over IPv6 at `off`, its own field taken as zero. -/
def udpSum (bs : List Byte) (off : Nat) : Nat :=
  let n := ipLength bs + 54 - off
  let seg := (bs.drop off).take n
  let body := seg.take 6 ++ [0, 0] ++ seg.drop 8
  let s := sumWords ((bs.drop 22).take 32) + n % 65536 + n / 65536 + 17 + sumWords body
  let c := 65535 - foldSum 16 s
  if c = 0 then 65535 else c

def withSum (bs : List Byte) (off : Nat) : List Byte := bs.take (off + 6) ++ beBytes 2 (udpSum bs off) ++ bs.drop (off + 8)

/-- A partition's address on a link (R438). -/
def State.linkAddress (s : State) (p l : Nat) : Nat := s.odGet (0x2620 + p) (l + 1)
/-- A channel of the partition's range. -/
def State.ownsChannel (s : State) (p c : Nat) : Bool :=
  decide (s.odGet (0x2620 + p) 4 ≤ c) && decide (c < s.odGet (0x2620 + p) 4 + s.odGet (0x2620 + p) 5)

/-! ### NETTX (R417, R420, R427) -/

def txBytes (d : Nat) : Nat := fld d 112 14
def txAddr (d : Nat) : Nat := fld d 64 48
def txCsum (d : Nat) : Bool := bitOf d 128

/-- Some steering rule names the queue. -/
def State.ruled (s : State) (q : Nat) : Bool := s.net.steer.any (fun x => decide (fld x.2 42 2 ≠ 0) && decide (fld x.2 47 17 = q))

/-- 0xC4: EtherType, type, source address and channel of a frame to send (R416). -/
def State.sourceOk (s : State) (p l : Nat) (bs : List Byte) : Bool :=
  if fEther bs = 0x86DD then decide (54 ≤ bs.length) && decide (ipSrc bs = s.linkAddress p l) && decide (ipSrc bs ≠ 0)
  else if fEther bs = 0x88B5 then l ≠ 0 && 46 ≤ bs.length && fhType (fHeader bs) = 0 && s.ownsChannel p (fhChannel (fHeader bs))
  else false

/-- What the MAC writes: the transport header's fields, or the UDP checksum where it is asked. -/
def State.macWrites (s : State) (l d : Nat) (bs : List Byte) : List Byte :=
  if fEther bs = 0x88B5 then
    let h := fHeader bs
    let h := setFld (setFld (setFld (setFld h 252 4 1) 247 1 (l - 1)) 246 1 0) 224 16 (s.odGet 0x2600 4)
    withHeader bs (setFld h 176 32 (s.link l).seq.toNat)
  else if txCsum d then
    match ipUpper bs with
    | some (17, off) => withSum bs off
    | _ => bs
  else bs

/-- Send a checked frame on a link that has ports to send on. -/
def State.transmit (s : State) (q d : Nat) (ph : JobPhase) (bs : List Byte) : State :=
  let x := s.queue q
  let l := x.linkOf
  let out := s.macWrites l d bs
  let s := if fEther bs = 0x88B5 then
      let k := s.link l
      let keep := k.ring.filter (fun f => decide (s.now ≤ f.time + us * s.odGet 0x2600 6))
      s.putLink l { k with seq := k.seq + 1
                           ring := keep ++ [{ time := s.now, part := x.part, port := (s.activePort l).getD 0, bytes := out }] }
    else s
  let s := (s.txPorts l).foldl (fun s p => s.sendOn (some x.part) p out) s
  s.finish q ph 0 0 0

/-- Checks 0xC0 to 0xC3, the zero field first (R420). -/
def State.txCheck (s : State) (q d : Nat) : Nat × State :=
  let x := s.queue q
  let big := if x.linkOf = 0 then 1514 else 9212
  if txBytes d = 0 then (0x18, s)
  else if fld d 129 383 ≠ 0 || fld d 126 2 ≠ 0 then (0xC0, s)
  else if s.ruled q then (0xC1, s)
  else if big < txBytes d then (0xC2, s)
  else if txAddr d % 8 ≠ 0 then (0xC3, s)
  else
    let (ok, s) := s.pcheck (dieOfQueue q) x.part (txAddr d) (txBytes d) false
    (if ok then 0 else 0xC3, s)

/-- A NETTX in phase `ph`: checked, then sent, held while the link is down or replays, or ended. -/
def State.nettxJob (s : State) (q d : Nat) (ph : JobPhase) : State :=
  let x := s.queue q
  let l := x.linkOf
  let (c, s) := s.txCheck q d
  if c ≠ 0 then s.finish q ph c 0 0
  else
    match s.mread (dieOfQueue q) x.part (txAddr d) (txBytes d) with
    | (none, s) => s.finish q ph 0xC3 0 0
    | (some bs, s) =>
      let frame := bs.map (·.1)
      let headBad := (bs.take 64).any (·.2)
      if !headBad && !s.sourceOk x.part l frame then s.finish q ph 0xC4 0 0
      else if bs.any (·.2) then s.finish q ph 0xC5 0 0
      else if (s.link l).replaying then s
      else if (s.txPorts l).isEmpty then
        if (s.link l).expired then s.finish q ph 0xC6 0 0
        else if ph = .handed then s.updJob q .handed (fun j => { j with phase := .waitLink, since := s.now }) else s
      else s.transmit q d ph frame

/-- The frames that wait on a link, oldest first in each queue. -/
def State.waitingTx (s : State) (l : Nat) : List Nat :=
  s.queueIds (fun _ x => decide (x.kind = 9) && decide (x.linkOf = l) && x.jobs.any (fun j => decide (j.phase = .waitLink)))

def State.sendWaiting (s : State) (l : Nat) : State :=
  (s.waitingTx l).foldl (fun s q =>
    ((s.queue q).jobs.filter (fun j => decide (j.phase = .waitLink))).foldl (fun s j => s.nettxJob q j.d .waitLink) s) s

/-! ### NETRX (R418) -/

def rxAddr (d : Nat) : Nat := fld d 64 48
def rxBytes (d : Nat) : Nat := 4096 * (fld d 112 8 + 1)

/-- A row of a port MAC: its own opcode, or one that the MAC does not know. -/
def State.macCommand (s : State) (q op : Nat) (f : State → Nat → State) : State :=
  if s.asleep then s
  else
    match s.atEngine q 9 with
    | some d =>
      if dOpcode d = op then f s d
      else if dOpcode d = 0x70 || dOpcode d = 0x71 then s
      else if fld d 129 383 ≠ 0 then s.done q 0xC0 else s.done q 0xC1
    | none => s

def State.netrx (s : State) (q d : Nat) : State :=
  if fld d 120 392 ≠ 0 then s.done q 0xC0
  else if !s.ruled q then s.done q 0xC1
  else if rxAddr d % 64 ≠ 0 then s.done q 0xC3
  else
    let (ok, s) := s.pcheck (dieOfQueue q) (s.queue q).part (rxAddr d) (rxBytes d) true
    if ok then s.updJob q .handed (fun j => { j with phase := .posted, since := s.now }) else s.done q 0xC3

/-! ### Filters (R411, R413) -/

/-- Frame length with FCS is in its range. -/
def lengthOk (p : Nat) (bs : List Byte) : Bool :=
  let n := bs.length + 4
  if fEther bs = 0x88B5 then decide (128 ≤ n) && decide (n ≤ 9216)
  else decide (64 ≤ n) && decide (n ≤ if p < 2 then 1518 else 9216)

/-- Neighbour discovery (RFC 4861): ICMPv6 types 133 to 137. -/
def isNeighbour (bs : List Byte) (off : Nat) : Bool :=
  let t := (bs.getD off 0).toNat
  decide (133 ≤ t) && decide (t ≤ 137)

/-- The IPv6 checks of R413; padding may follow a short packet. -/
def ipOk (bs : List Byte) : Bool :=
  decide (54 ≤ bs.length) && decide (ipVersion bs = 6) &&
    (decide (54 + ipLength bs = bs.length) || (decide (54 + ipLength bs < bs.length) && decide (bs.length = 60))) &&
    (match ipUpper bs with
     | some (n, off) => n ≠ 58 || !isNeighbour bs off || decide (ipHops bs = 255)
     | none => false)

/-- All-nodes and solicited-node multicast addresses, as the numbers of their bytes. -/
def isNodeGroup (a : Nat) : Bool :=
  let b := leBytes 16 a
  b = [0xFF, 0x02, 0, 0, 0, 0, 0, 0, 0, 0, 0, 0, 0, 0, 0, 1]
    || b.take 13 = [0xFF, 0x02, 0, 0, 0, 0, 0, 0, 0, 0, 0, 1, 0xFF]

/-- A destination that a T1 port accepts: its own addresses, a node group, or a partition's (R382, R413, R416). -/
def State.t1Dst (s : State) (p a : Nat) : Bool :=
  decide (a = Config.linkLocal p) || (decide (a = s.odGet 0x1100 (2 + p)) && a ≠ 0) || isNodeGroup a
    || (a ≠ 0 && (upto 8).any (fun k => decide (s.linkAddress k 0 = a)))

/-- A destination MAC address that a fabric port accepts: its own, that of the module's fabric address, or broadcast. -/
def State.macOk (s : State) (p : Nat) (bs : List Byte) : Bool :=
  let d := bs.take 6
  let fa := s.odGet 0x2600 4
  d = List.replicate 6 0xFF || decide (leNat d = s.odGet (0x2610 + p) 0x0E)
    || decide (d = macOf fa)

/-- The transport header's checks. -/
def State.fabricOk (s : State) (bs : List Byte) : Bool :=
  let h := fHeader bs
  decide (46 ≤ bs.length) && decide (fhVersion h = 1) && decide (fhType h < 4) && !fhReserved h
    && (decide (46 + fhLength h = bs.length) || (decide (46 + fhLength h < bs.length) && decide (bs.length = 124)))
    && (decide (fhDst h = s.odGet 0x2600 4) || decide (fhDst h = 0xFFFF))

/-- Every filter of R413 but the ICMPv6 rate. -/
def State.accepts (s : State) (p : Nat) (bs : List Byte) (fcsOk : Bool) : Bool :=
  fcsOk && lengthOk p bs &&
    (if p < 2 then decide (bs.take 6 ≠ macOf 0xFFFF) && fEther bs = 0x86DD && ipOk bs && s.t1Dst p (ipDst bs)
     else s.macOk p bs && (if fEther bs = 0x88B5 then s.fabricOk bs else fEther bs = 0x86DD && ipOk bs))

/-! ### Duplicates (R426) -/

def serialDiff (a b : Nat) : Nat := (a + 2 ^ 32 - b) % 2 ^ 32

/-- Whether a DATA frame is new, and the link after it; entries idle for 1 s are free. -/
def Link.take (x : Link) (src seq now : Nat) : Bool × Link :=
  let x := { x with peers := x.peers.only (fun _ e => decide (now < e.2.2 + second)) }
  match x.peers.find src with
  | none =>
    if x.peers.length < 1024 then (true, { x with peers := x.peers.put src (seq, [], now) }) else (false, x)
  | some (hi, seen, _) =>
    let up := serialDiff seq hi
    if up ≠ 0 && up < 2 ^ 31 then
      (true, { x with peers := x.peers.put src (seq, (hi :: seen).filter (fun y => decide (serialDiff seq y ≤ 65536)), now) })
    else if up ≠ 0 && serialDiff hi seq ≤ 65536 && !seen.contains seq then
      (true, { x with peers := x.peers.put src (hi, seq :: seen, now) })
    else (false, { x with peers := x.peers.put src (hi, seen, now) })

/-! ### Job-abort frames (R434) -/

/-- Entries that a frame matches: valid, with its identifier and token. -/
def State.groupsMatching (s : State) (gid token : Nat) : List Nat :=
  (s.net.groups.only (fun _ e => jgValid e && decide (jgId e = gid) && decide (jgToken e = token))).map (·.1)

/-- Queues of an entry's ranges that are ACTIVE or PAUSED. -/
def State.groupQueues (s : State) (e : Nat) : List Nat :=
  s.queueIds (fun q x => jgHas e q && (decide (x.state = .active) || decide (x.state = .paused)))

def State.abortReceived (s : State) (gid token : Nat) : State :=
  let gs := s.groupsMatching gid token
  if gs.isEmpty then s.odInc 0x2600 0x11 1
  else
    let acted := gs.any (fun g => !(s.groupQueues (s.net.groups.getD g 0)).isEmpty)
    let s := gs.foldl (fun s g =>
      let e := s.net.groups.getD g 0
      let qs := s.groupQueues e
      if qs.isEmpty then s
      else (qs.foldl (fun s q => s.faultQueue q 0xC8) s).raisePart 0 (jgPart e) 3 g) s
    if acted then s.odInc 0x2600 0x0C 1 else s

/-! ### Steering and delivery (R414–R416, R418, R419) -/

/-- A valid rule matches a frame on its link. -/
def State.ruleHits (s : State) (l rule : Nat) (bs : List Byte) : Bool :=
  let p := fld rule 44 3
  let v := fld rule 26 16
  match fld rule 42 2 with
  | 1 =>
    fEther bs = 0x86DD && ipDst bs = s.linkAddress p l && ipDst bs ≠ 0 &&
      (match ipUpper bs with
       | some (17, off) => decide (beNat ((bs.drop (off + 2)).take 2) = v)
       | _ => false)
  | 2 => fEther bs = 0x88B5 && fhType (fHeader bs) = 0 && fhChannel (fHeader bs) = v && s.ownsChannel p v
  | _ => false

/-- The first rule that matches. -/
def State.steerTo (s : State) (l : Nat) (bs : List Byte) : Option Nat :=
  ((s.net.steer.only (fun k r => decide (k / 256 = l) && s.ruleHits l r bs)).head?).map (·.2)

/-- The checksum of a UDP datagram: present, and verified. -/
def csumState (bs : List Byte) : Bool × Bool :=
  if fEther bs = 0x86DD then
    match ipUpper bs with
    | some (17, off) =>
      let c := beNat ((bs.drop (off + 6)).take 2)
      if c = 0 then (false, false) else (true, decide (udpSum bs off = c))
    | _ => (false, false)
  else (false, false)

/-- The record of R419. -/
def rxRecord (now port n stored : Nat) (bs : List Byte) (cut : Bool) : Nat :=
  let (chk, good) := csumState bs
  let fab := fEther bs = 0x88B5
  at' 448 now + at' 432 n + at' 416 stored + at' 412 port + at' 411 (b2n chk) + at' 410 (b2n good) + at' 409 (b2n cut)
    + (if fab && fhType (fHeader bs) = 0 then at' 352 (fhSeq (fHeader bs)) else 0)
    + (if fab then at' 336 (fhSrc (fHeader bs)) else 0)

/-- Fill the oldest posted buffer of a queue. -/
def State.fillBuffer (s : State) (q port : Nat) (bs : List Byte) : State :=
  match (s.queue q).jobIn .posted with
  | none => s.odInc 0x2600 0x10 1
  | some j =>
    let d := j.d
    let room := rxBytes d - 64
    let stored := Nat.min bs.length room
    let cut := decide (room < bs.length)
    let data := leBytes 64 (rxRecord s.now port bs.length stored bs cut) ++ bs.take stored
    match s.pwrite (dieOfQueue q) (s.queue q).part (rxAddr d) (clean data) with
    | (true, s) => s.finish q .posted (if cut then 0xC7 else 0) 0 0
    | (false, s) => s.finish q .posted 0xC3 0 0

/-- ICMPv6 to net_mgr: at most 1,000 a second on a port (R413). -/
def State.icmpFrame (s : State) (p : Nat) : State :=
  let x := s.port p
  let sec := s.now / second
  let n := if x.icmpSec = sec then x.icmp else 0
  if n < 1000 then s.putPort p { x with icmpSec := sec, icmp := n + 1 } else s.odInc 0x2600 0x11 1

/-- A UDP frame to the Rycia port on port A or B: the commands of Rycia carry what follows. -/
def State.isRycia (s : State) (p : Nat) (bs : List Byte) : Bool :=
  p < 2 && (match ipUpper bs with
    | some (17, off) => decide (beNat ((bs.drop (off + 2)).take 2) = s.odGet 0x1100 1)
    | _ => false)

/-- Ports A and B answer: the islands or the module are powered (R394, R397). -/
def State.ryciaUp (s : State) : Bool := s.mode ≠ .off && !s.noBoot

/-- A frame dropped without answer (R395). -/
def State.ryciaDrop (s : State) (auth : Bool) : State :=
  let s := s.odInc 0x1100 0x0A 1
  if auth then s.odInc 0x1100 0x0B 1 else s

/-- Bytes of the UDP payload of a frame. -/
def udpPayload (bs : List Byte) : Nat :=
  match ipUpper bs with
  | some (17, off) => beNat ((bs.drop (off + 4)).take 2) - 8
  | _ => 0

/-- A datagram to od_server: a payload outside 20 to 1,232 bytes, an empty one among them, is dropped and counted (R178,
R395); another is the frame that a Rycia command carries. -/
def State.ryciaDatagram (s : State) (bs : List Byte) : State :=
  if !s.ryciaUp || (20 ≤ udpPayload bs && udpPayload bs ≤ 1232) then s else s.ryciaDrop false

/-- Steps 2 to 4 of R415. -/
def State.steerFrame (s : State) (p : Nat) (bs : List Byte) : State :=
  let l := linkOfPort p
  if fEther bs = 0x86DD && (ipUpper bs).map (·.1) = some 58 then s.icmpFrame p
  else
    match s.steerTo l bs with
    | some r =>
      let s := if 2 ≤ p then s.bumpDie (dieOfPort p) 0x52 (some (fld r 44 3)) 1 else s
      s.active.fillBuffer (fld r 47 17) p bs
    | none => s.odInc 0x2600 0x11 1

/-- A frame arrives on a port whose link is up (R413–R415, R426, R434). In STANDBY and PARKED only island frames are
answered (R435). -/
def State.frameIn (s : State) (p : Nat) (bs : List Byte) (fcsOk : Bool) : State :=
  if !(s.port p).up || s.mode = .off then s
  else if s.asleep then s
  else
    let s := s.odInc (0x2610 + p) 6 1
    if !s.accepts p bs fcsOk then s.odInc 0x2600 0x11 1
    else if fEther bs = 0x86DD && s.isRycia p bs then s.ryciaDatagram bs
    else if fEther bs = 0x88B5 then
      let h := fHeader bs
      let l := linkOfPort p
      match fhType h with
      | 0 =>
        let (new, k) := (s.link l).take (fhSrc h) (fhSeq h) s.now
        let s := s.putLink l k
        if new then s.steerFrame p bs else s.odInc 0x2600 9 1
      | 1 => s.abortReceived (leNat ((bs.drop 46).take 4)) (leNat ((bs.drop 50).take 8))
      | _ => s.odInc 0x2600 0x11 1
    else s.steerFrame p bs

/-! ### Failover (R421–R424, R429) -/

/-- Step 3 of R422: a fabric port announces the path, a T1 port advertises the partition addresses. -/
def State.announcePath (s : State) (p : Nat) : State :=
  if 2 ≤ p then s.sendOn none p (s.fabricFrame p 2 0xFFFF [])
  else (((upto 8).map (fun k => s.linkAddress k 0)).filter (· ≠ 0)).foldl (fun s a =>
    (s.emit (.advertise p a)).odInc (0x2610 + p) 7 1) s

/-- A port takes the active role: what waits on the link is sent (R427). -/
def State.makeActive (s : State) (p : Nat) : State :=
  let l := linkOfPort p
  let s := s.setRole p .active
  s.putLink l { s.link l with expired := false }

/-- Step 4 of R422: every DATA frame first sent on the failed port within the replay depth, in order, marked replayed. -/
def State.replay (s : State) (l old new : Nat) : State :=
  let k := s.link l
  let fs := k.ring.filter (fun f => decide (f.port = old) && decide (s.now ≤ f.time + us * s.odGet 0x2600 6))
  let s := s.putLink l { k with replaying := true, ring := k.ring.filter (fun f => decide (f.port ≠ old)) }
  fs.foldl (fun s f => s.sendOn (some f.part) new (withHeader f.bytes (setFld (fHeader f.bytes) 246 1 1))) s

/-- The active port of a link has failed (R422, R427). -/
def State.failover (s : State) (l old : Nat) : State :=
  let s := s.putLink l { s.link l with replaying := false, switching := none }
  match s.standbyPort l with
  | some p =>
    let s := (s.makeActive p).odInc 0x2600 8 1
    let s := s.announcePath p
    if l = 0 then s.sendWaiting l else s.replay l old p
  | none => s.putLink l { s.link l with ring := [] }

/-- Failures of a port within the last hour of the park clock (R429). -/
def State.failuresHour (s : State) (p : Nat) : List Nat :=
  (s.port p).failures.filter (fun t => decide (s.park.clock < t + 3600))

/-- The trigger can occur on the port: codewords and optics on fabric ports, frames on T1 ports (R421). -/
def triggerOn (trigger p : Nat) : Bool :=
  match trigger with
  | 2 | 4 => 2 ≤ p
  | 3 => p < 2
  | _ => true

/-- A planned switch of the link ends without its exchange. -/
def State.dropSwitch (s : State) (l : Nat) : State :=
  if (s.link l).switching.isSome then (s.putLink l { s.link l with switching := none }).odSet 0x2600 0x0A 3 else s

/-- A port fails (R421): counted, recorded with the trigger as 1 to 5, and its link switched where it was active. -/
def State.portFails (s : State) (p trigger : Nat) : State :=
  let x := s.port p
  if x.role = .failed || !triggerOn trigger p || s.mode = .off || s.asleep then s
  else
    let was := x.role
    let l := linkOfPort p
    let fs := s.failuresHour p ++ [s.park.clock]
    let s := s.putPort p { x with failures := fs, up := false }
    let s := s.charge 9 p
    let s := s.failRecord (dieOfPort p) 0x12 9 p none 0 [(0, .num (trigger + 1)), (1, .num x.verdict)]
    let s := s.setRole p (if 6 ≤ fs.length then .failed else .down)
    if was = .active then (s.dropSwitch l).failover l p else if was = .standby then s.dropSwitch l else s

/-- Step 5 of R422: the link's traffic goes on. -/
def State.replayDone (s : State) (l : Nat) : State :=
  if (s.link l).replaying then (s.putLink l { s.link l with replaying := false }).sendWaiting l else s

/-- The hold of R427 is over: what waits completes with 0xC6, and later frames at once. -/
def State.linkTimeout (s : State) (l : Nat) : State :=
  if !(s.txPorts l).isEmpty || s.asleep then s
  else
    let hold := ms * s.odGet 0x2600 7
    let late := fun (j : Job) => decide (j.phase = .waitLink) && decide (j.since + hold ≤ s.now)
    let qs := s.waitingTx l
    if qs.any (fun q => (s.queue q).jobs.any late) then
      let now := s.now
      let s := qs.foldl (fun s q => s.updQueue q (fun x => { x with jobs := x.jobs.map (fun j =>
        if decide (j.phase = .waitLink) && decide (j.since + hold ≤ now) then { j with phase := .finished, status := 0xC6 } else j) })) s
      s.putLink l { s.link l with expired := true }
    else s

/-! ### Planned switches (R425) -/

def State.switchOver (s : State) (code : Nat) : State :=
  if code < 3 && (s.standbyPort code).isSome && (s.link code).switching.isNone && !s.asleep && s.mode ≠ .off then
    (s.putLink code { s.link code with switching := some s.now }).odSet 0x2600 0x0A 1
  else s.odSet 0x2600 0x0A 3

/-- 20 µs of dual emission are over: the roles exchange. -/
def State.switchDone (s : State) (l : Nat) : State :=
  match (s.link l).switching, s.standbyPort l with
  | some t, some p =>
    if t + 20 * us ≤ s.now then
      let s := s.putLink l { s.link l with switching := none }
      let s := match s.activePort l with
        | some a => s.setRole a .standby
        | none => s
      let s := ((s.makeActive p).odInc 0x2600 8 1).announcePath p
      (s.odSet 0x2600 0x0A 2).sendWaiting l
    else s
  | _, _ => s

/-! ### Lane diagnostics (R430, R431) -/

def laneFar (x : LaneReading) : Bool := decide (x.rx < -590)
def laneBad (x : LaneReading) : Bool := laneFar x || decide (-2600 < x.refl)

/-- Highest and lowest of received powers. -/
def rxSpread (xs : List LaneReading) : Int :=
  let hi := xs.foldl (fun (a : Int) x => if a < x.rx then x.rx else a) ((xs.head?.map (·.rx)).getD 0)
  let lo := xs.foldl (fun (a : Int) x => if x.rx < a then x.rx else a) ((xs.head?.map (·.rx)).getD 0)
  hi - lo

/-- The verdict of four lanes. -/
def verdictOf (xs : List LaneReading) : Nat :=
  let bad := (xs.filter laneBad).length
  if xs.any (fun x => decide (x.tx < -290) || decide (400 < x.tx)) then 5
  else if bad = 1 || bad = 2 then 4
  else if 3 ≤ (xs.filter (fun x => decide (-3500 < x.refl))).length
      || (xs.all (fun x => decide (x.rx < -400)) && decide (rxSpread xs ≤ 150)) then 3
  else if xs.all (fun x => laneFar x && decide (x.refl ≤ -3500)) then 2
  else 1

/-- Measure a fabric port's lanes. -/
def State.diagnose (s : State) (p : Nat) (lanes : List LaneReading) : State :=
  let v := verdictOf lanes
  let s := s.putPort p { s.port p with lanes := lanes, verdict := v, diagTime := s.now }
  let s := if 2 ≤ v then s.raise (dieOfPort p) 187 (p + 16 * v) else s
  (s.measure 6 (p - 2)).wearLimitCheck 6 (p - 2)

/-- A link comes up (R428 steps 1 and 2): a returning port starts its hold-off. -/
def State.linkUp (s : State) (p : Nat) (lanes : List LaneReading) : State :=
  let x := s.port p
  if x.up || x.role = .failed || s.mode = .off || (s.asleep && 2 ≤ p) || (2 ≤ p && lanes.length ≠ 4) then s
  else
    let s := if 2 ≤ p then s.diagnose p lanes else s
    let s := s.putPort p { s.port p with up := true, holdSince := s.now }
    if x.role = .down || x.role = .holdoff then s.setRole p .holdoff
    else if x.role = .active then
      (s.putLink (linkOfPort p) { s.link (linkOfPort p) with expired := false }).sendWaiting (linkOfPort p)
    else s

/-- The hold-off is over with no trigger and no verdict 4 or 5 (R428 steps 3 to 5). -/
def State.holdoffEnd (s : State) (p : Nat) : State :=
  let x := s.port p
  if x.role = .holdoff && x.up && x.verdict < 4 && x.holdSince + second * s.odGet 0x2600 5 ≤ s.now then
    (s.setRole p .resync).setRole p .standby
  else s

/-- HEARTBEAT of a fabric standby port (R428). -/
def State.heartbeatOut (s : State) (p : Nat) : State :=
  let x := s.port p
  if 2 ≤ p && x.role = .standby && x.up && !s.asleep then s.sendOn none p (s.fabricFrame p 3 0xFFFF []) else s

def State.runDiagnostics (s : State) (p : Nat) (lanes : List LaneReading) : State :=
  let x := s.port p
  if 2 ≤ p && (x.role = .standby || x.role = .down) && lanes.length = 4 && !s.asleep then
    (s.diagnose p lanes).odSet (0x2610 + p) 0x0F 2
  else s.odSet (0x2610 + p) 0x0F 3

/-- The write of 1 to 0x2610 + p.10 on a failed port (R429). -/
def State.portReturn (s : State) (p : Nat) : State :=
  if (s.port p).role = .failed then (s.setRole p .down).odSet (0x2610 + p) 0x10 2 else s.odSet (0x2610 + p) 0x10 3

/-- An entry idle for 1 s is freed (R426). -/
def State.peerExpiry (s : State) (l src : Nat) : State :=
  match (s.link l).peers.find src with
  | some (_, _, t) => if t + second ≤ s.now then s.putLink l { s.link l with peers := (s.link l).peers.del src } else s
  | none => s

/-! ### The commands -/

/-- FRAME_RECEIVE -/
def execFrameReceive (port : PortId) (bytes : List Byte) (fcsOk : Bool) (s : State) : Host.Outcome State Fault Refusal :=
  .next (s.frameIn port.val bytes fcsOk)
/-- NETTX -/
def execNettx (q : QueueId) (s : State) : Host.Outcome State Fault Refusal :=
  .next (s.macCommand q.toNat 0x70 (fun s d => s.nettxJob q.toNat d .handed))
/-- NETRX -/
def execNetrx (q : QueueId) (s : State) : Host.Outcome State Fault Refusal :=
  .next (s.macCommand q.toNat 0x71 (fun s d => s.netrx q.toNat d))
/-- PORT_FAILURE -/
def execPortFailure (port : PortId) (trigger : Fin 5) (s : State) : Host.Outcome State Fault Refusal :=
  .next (s.portFails port.val trigger.val)
/-- REPLAY_COMPLETE -/
def execReplayComplete (link : LinkId) (s : State) : Host.Outcome State Fault Refusal := .next (s.replayDone link.val)
/-- LINK_DOWN_TIMEOUT -/
def execLinkDownTimeout (link : LinkId) (s : State) : Host.Outcome State Fault Refusal := .next (s.linkTimeout link.val)
/-- SWITCH_OVER -/
def execSwitchOver (code : Nat) (s : State) : Host.Outcome State Fault Refusal := .next (s.switchOver code)
/-- PLANNED_SWITCH_COMPLETE -/
def execPlannedSwitchComplete (link : LinkId) (s : State) : Host.Outcome State Fault Refusal := .next (s.switchDone link.val)
/-- PORT_LINK_UP -/
def execPortLinkUp (port : PortId) (lanes : List LaneReading) (s : State) : Host.Outcome State Fault Refusal :=
  .next (s.linkUp port.val lanes)
/-- HOLDOFF_EXPIRY -/
def execHoldoffExpiry (port : PortId) (s : State) : Host.Outcome State Fault Refusal := .next (s.holdoffEnd port.val)
/-- HEARTBEAT -/
def execHeartbeat (port : PortId) (s : State) : Host.Outcome State Fault Refusal := .next (s.heartbeatOut port.val)
/-- RUN_DIAGNOSTICS -/
def execRunDiagnostics (port : PortId) (lanes : List LaneReading) (s : State) : Host.Outcome State Fault Refusal :=
  .next (s.runDiagnostics port.val lanes)
/-- PORT_RETURN_TO_SERVICE -/
def execPortReturnToService (port : PortId) (s : State) : Host.Outcome State Fault Refusal := .next (s.portReturn port.val)
/-- PEER_ENTRY_EXPIRY -/
def execPeerEntryExpiry (link : LinkId) (src : BitVec 16) (s : State) : Host.Outcome State Fault Refusal :=
  .next (s.peerExpiry link.val src.toNat)
/-- JOB_ABORT_ORDERED: an entry of the job-group table. -/
def execJobAbortOrdered (group : BitVec 6) (s : State) : Host.Outcome State Fault Refusal :=
  .next (if s.asleep then s else s.abortGroup (s.net.groups.getD group.toNat 0) 5)
/-- JOB_ABORT: a frame that passed the filters of its fabric port. -/
def execJobAbort (port : PortId) (groupId : BitVec 32) (token : BitVec 64) (s : State) : Host.Outcome State Fault Refusal :=
  .next (if 2 ≤ port.val && (s.port port.val).up && !s.asleep then s.abortReceived groupId.toNat token.toNat else s)

end Sys2Proof.Machine
end

