-- ==== Sys2Proof/Machine/Frames.lean ====
section
/-!
DEFINITION. Rycia frames and sessions (12 R382–R398, R403): what arrives, what leaves, how a session ends, the command
log.
-/
namespace Sys2Proof.Machine

open Sys2Proof

/-! ### The header (R383) -/

def rfMagic (f : RFrame) : Nat := fld f.header.toNat 0 16
def rfMajor (f : RFrame) : Nat := fld f.header.toNat 16 8
def rfType (f : RFrame) : Nat := fld f.header.toNat 32 8
/-- part and part_count_m1. A message of several parts is one command, under the header of its first part. -/
def rfParts (f : RFrame) : Nat := fld f.header.toNat 40 8
def rfSession (f : RFrame) : Nat := fld f.header.toNat 48 32
def rfCounter (f : RFrame) : Nat := fld f.header.toNat 80 64
def rfReserved (f : RFrame) : Nat := fld f.header.toNat 144 16

/-- Frame types that a controller sends, and all those of R384. -/
def fromController (t : Nat) : Bool := [0x01, 0x03, 0x10, 0x12, 0x13, 0x20, 0x22].contains t

def isProtected (t : Nat) : Bool := t = 0x10 || t = 0x12 || t = 0x13

/-- Bytes that follow the header, with the tag of a protected part (R384, R386). -/
def rfBytes (f : RFrame) : Nat := f.body.length + (if isProtected (rfType f) || rfType f = 0x03 then 16 else 0)

/-- The destination is an address of the port (R382): link-local, or the global one where OD 0x1100.02 or .03 gives one. -/
def State.ownAddress (s : State) (f : RFrame) : Bool :=
  match f.dst with
  | none => true
  | some a => a ≠ 0 && decide (s.odGet 0x1100 (2 + f.port.toNat) = a.toNat)

/-- The filter and the range check of R395: addresses, magic, major, type, reserved bits, parts of at most 1,212 bytes that
arrive within 1 s, and the fields that R383 gives as zero. -/
def State.rfForm (s : State) (f : RFrame) (udp : Nat) : Bool :=
  let t := rfType f
  s.ownAddress f && decide (f.spread ≤ second) && decide (f.udpPort.toNat = udp) && decide (rfMagic f = 0x5259) && decide (rfMajor f = 1)
    && fromController t && decide (rfReserved f = 0)
    && decide (rfParts f = if t = 0x03 || t = 0x22 then ceilDiv (rfBytes f) 1212 - 1 else 0)
    && (t = 0x03 || t = 0x22 || decide (rfBytes f ≤ 1212))
    && (isProtected t || decide (rfCounter f = 0)) && (isProtected t || t = 0x03 || decide (rfSession f = 0))

/-! ### What leaves -/

/-- STATE (R394). -/
def State.sendState (s : State) (port : BitVec 1) (echo abort : Nat) : State :=
  s.emit (.rycia port 0x21 0 0 (leBytes 8 echo ++ leBytes 16 (s.odGet 0x1000 4) ++ leBytes 1 s.mode.code ++ leBytes 1 0
    ++ leBytes 2 abort))

/-- A session ends: its block writes, snapshots and waiting reads end with it. Its writes stay in their window (R392). -/
def State.freeSession (s : State) (j : Nat) : State :=
  s.setRyc { s.ryc with sess := s.ryc.sess.del j, reads := s.ryc.reads.filter (fun r => r.sess ≠ j) }

/-- The module's end of a session with CLOSE (R384, R388). -/
def State.closeSession (s : State) (j : Nat) : State :=
  let x := s.rsess j
  match x.state with
  | .opened => (s.emit (.rycia x.port 0x13 x.id.toNat x.txNext [])).freeSession j
  | .free => s
  | _ => s.freeSession j

/-- A protected frame of session j; at counter 2⁴⁸ the session closes (R388). -/
def State.sendSession (s : State) (j : Nat) (port : BitVec 1) (type : Nat) (body : List Byte) : State :=
  let x := s.rsess j
  if 2 ^ 48 ≤ x.txNext then s.closeSession j
  else (s.emit (.rycia port type x.id.toNat x.txNext body)).putRsess j
    { x with txNext := x.txNext + 1, framesOut := x.framesOut + 1 }

/-! ### What arrives (R388, R395) -/

/-- The session record that an identifier names. -/
def State.sessionOf (s : State) (id : Nat) : Option Nat :=
  (s.ryc.sess.find? (fun x => decide (x.2.state ≠ .free) && decide (x.2.id.toNat = id))).map (·.1)

/-- Rank of a session: 0 primary, 1 secondary, 2 neither (R392, R400). -/
def State.rankOf (s : State) (credential rights : Nat) : Nat :=
  if rights ≠ 1 || credential / 256 ≠ 0xFF then 2
  else if credential % 256 = s.odGet 0x1100 4 then 0
  else if credential % 256 = s.odGet 0x1100 5 then 1
  else 2

/-- A counter that may be accepted. -/
def RSess.fresh (x : RSess) (c : Nat) : Bool :=
  decide (x.rxHigh < c) || (decide (c < x.rxHigh) && decide (x.rxHigh ≤ c + 64) && !x.rxSeen.contains c)

def RSess.accept (x : RSess) (c : Nat) : RSess :=
  let high := Nat.max x.rxHigh c
  { x with rxHigh := high, rxSeen := (c :: x.rxSeen).filter (fun k => decide (high ≤ k + 64)) }

/-- A valid frame of session j: counted, noted, and seen for R400. -/
def State.noteValid (s : State) (j : Nat) (f : RFrame) (frames : Nat) : State :=
  let x := s.rsess j
  let s := s.putRsess j { x with framesIn := x.framesIn + frames, lastValid := s.now, peer := f.src, port := f.port }
  let r := s.rankOf x.credential.toNat x.rights
  if r < 2 then s.controllerFrame (decide (r = 1)) else s

/-- A protected frame of type `t`: the session it is accepted for. A frame of another type that a controller may send is
another command's. -/
def State.takeFrame (s : State) (f : RFrame) (t : Nat) : Option Nat × State :=
  if !s.ryciaUp || (rfType f ≠ t && fromController (rfType f)) then (none, s)
  else
    match s.sessionOf (rfSession f) with
    | none => (none, s.ryciaDrop false)
    | some j =>
      let x := s.rsess j
      let c := rfCounter f
      if !s.rfForm f x.udp.toNat then (none, s.ryciaDrop false)
      else if x.state = .suspended then
        (none, if t = 0x10 then s.sendState f.port c 0x0401 else s.ryciaDrop false)
      else if x.state ≠ .opened then (none, s.ryciaDrop false)
      else if !f.authentic then (none, s.ryciaDrop true)
      else if 2 ^ 48 ≤ c then (none, s.closeSession j)
      else if !x.fresh c then (none, s.ryciaDrop false)
      else (some j, (s.putRsess j (x.accept c)).noteValid j f 1)

/-- The rates of R395 in the present second: 4 HELLO (what 0) and 16 island frames (what 1) a port. -/
def State.rateOk (s : State) (port : BitVec 1) (what : Nat) : Bool × State :=
  let sec := s.now / second
  let r := if s.ryc.rateSec = sec then s.ryc.rate else []
  let k := 2 * port.toNat + what
  let n := r.getD k 0
  if n < (if what = 0 then 4 else 16) then (true, s.setRyc { s.ryc with rateSec := sec, rate := r.put k (n + 1) })
  else (false, s.ryciaDrop false)

/-- A clear frame of type `t` that passes its checks. -/
def State.takeClear (s : State) (f : RFrame) (t what : Nat) : Bool × State :=
  if !s.ryciaUp || (rfType f ≠ t && fromController (rfType f)) then (false, s)
  else if !s.rfForm f (s.odGet 0x1100 1) then (false, s.ryciaDrop false)
  else s.rateOk f.port what

/-! ### Messages (R389) -/

/-- The header of a message, as a number. -/
def msg (f : RFrame) : Nat := leNat (f.body.take 24)
def msRequest (m : Nat) : Nat := fld m 0 16
def msOp (m : Nat) : Nat := fld m 16 8
def msFlags (m : Nat) : Nat := fld m 24 8
def msIndex (m : Nat) : Nat := fld m 32 16
def msSub (m : Nat) : Nat := fld m 48 8
/-- The reserved fields, and the abort code, which a request leaves zero. -/
def msZero (m : Nat) : Bool := fld m 56 8 = 0 && fld m 64 16 = 0 && fld m 80 16 = 0
def msOffset (m : Nat) : Nat := fld m 96 32
def msLength (m : Nat) : Nat := fld m 128 32
def msTotal (m : Nat) : Nat := fld m 160 32

/-- A response's body. -/
def response (request op index sub abort offset total : Nat) (data : List Byte) : List Byte :=
  leBytes 2 request ++ leBytes 1 op ++ leBytes 1 1 ++ leBytes 2 index ++ leBytes 1 sub ++ leBytes 1 0 ++ leBytes 2 abort
    ++ leBytes 2 0 ++ leBytes 4 offset ++ leBytes 4 data.length ++ leBytes 4 total ++ data

/-- Answer a request of the session that had identifier `id`, where it is still open. -/
def State.respond (s : State) (j id : Nat) (port : BitVec 1) (body : List Byte) : State :=
  let x := s.rsess j
  if x.state = .opened && decide (x.id.toNat = id) then s.sendSession j port 0x11 body else s

/-! ### The command log (R403) -/

/-- The last 4,096 writes. -/
def State.logWrite (s : State) (w : HeldWrite) (abort : Nat) : State :=
  let r : LogRec := { time := w.at_, index := w.index, sub := w.sub, sess := w.sess, credential := w.credential,
                      abort := abort, value := w.value, window := w.at_ / 62500 }
  let xs := s.ryc.log ++ [r]
  s.setRyc { s.ryc with log := xs.drop (xs.length - 4096), logCount := s.ryc.logCount + 1 }

/-- The abort code of the newest record, where it has one that is not kept any more. -/
def State.logCode (s : State) (abort : Nat) : State :=
  match s.ryc.log.getLast? with
  | some r => s.setRyc { s.ryc with log := s.ryc.log.dropLast ++ [{ r with abort := abort }] }
  | none => s

def logRecord (r : LogRec) : List Byte :=
  leBytes 8 r.time ++ leBytes 2 r.index ++ leBytes 1 r.sub ++ leBytes 1 r.sess ++ leBytes 2 r.credential
    ++ leBytes 2 r.abort ++ leBytes 4 r.value.length ++ (r.value ++ List.replicate 8 0).take 8 ++ leBytes 4 r.window

/-- Answer a held write. -/
def State.answerWrite (s : State) (w : HeldWrite) (abort : Nat) : State :=
  s.respond w.sess w.id w.port (response w.request w.op w.index w.sub abort 0 0 [])

/-- Answer a held read with an abort code. -/
def State.refuseRead (s : State) (r : HeldRead) (abort : Nat) : State :=
  s.respond r.sess r.id r.port (response r.request 1 r.index r.sub abort r.offset 0 [])

/-- A fault of a die's od_server: the requests that it holds, those of the port on its die, are answered with 0x0901
(R358, R396). -/
def State.serverFault (s : State) (die : Nat) : State :=
  let ws := s.ryc.window.filter (fun w => decide (w.port.toNat = die))
  let rs := s.ryc.reads.filter (fun r => decide (r.port.toNat = die))
  let s := s.setRyc { s.ryc with window := s.ryc.window.filter (fun w => decide (w.port.toNat ≠ die))
                                 reads := s.ryc.reads.filter (fun r => decide (r.port.toNat ≠ die)) }
  let s := ws.foldl (fun s w => (s.logWrite w 0x0901).answerWrite w 0x0901) s
  rs.foldl (fun s r => s.refuseRead r 0x0901) s

end Sys2Proof.Machine
end

