-- ==== Sys2Proof/Machine/Failures.lean ====
section
/-!
DEFINITION. Failures of units: the die-to-die link, clocks, cores and engines without a spare (02 R59, R60, R71, R76),
firmware components and cores (11 R356–R361).
-/
namespace Sys2Proof.Machine

open Sys2Proof

/-- The dies run. -/
def State.diesOn (s : State) : Bool := s.mode ≠ .off && !s.asleep && s.mode ≠ .recovery && !s.noBoot

/-! ### The die-to-die link (R59, R60) -/

/-- A failure of the link: a record with 1 for the CRC or 2 for lock, and a fatal event. -/
def State.linkFails (s : State) (why : Nat) : State :=
  (s.failRecord 0 0x0C 10 0 none 0 [(0, .num why)]).fatal 0x0C

/-- A flit fails its check and is replayed. Sixteen failures of one flit in succession fail the link. -/
def State.flitFails (s : State) (toWest same : Bool) : State :=
  if s.diesOn then
    let n := if same then (if toWest then s.d2dFails.1 else s.d2dFails.2) + 1 else 1
    let s := s.setD2dFails (if toWest then (n, s.d2dFails.2) else (s.d2dFails.1, n))
    let s := (s.charge 10 0).bumpDie (if toWest then 0 else 1) 0x46 none 1
    if n = 16 then s.linkFails 1 else s
  else s

/-! ### Protection regions of a component (R355) -/

/-- Extent i that the image names: 0 code, 1 constants, 2 data, 3 stack, 4 the mailbox ports, from 5 device windows. -/
def imageExtent (digest i : Nat) : Nat × Nat := (Config.imageField digest (2 * i), Config.imageField digest (2 * i + 1))

/-- The image's device windows: up to eight. -/
def imageWindows (digest : Nat) : List (Nat × Nat) :=
  (upto (Config.imageField digest 64 % 9)).map (fun i => imageExtent digest (5 + i))

def extentHolds (r : Nat × Nat) (a n : Nat) : Bool := decide (r.1 ≤ a) && decide (a + n ≤ r.1 + r.2)

/-- Regions that grant both reads and writes; device windows while they are open. -/
def Comp.writable (x : Comp) : List (Nat × Nat) :=
  [2, 3, 4].map (imageExtent x.digest) ++ (if x.windows then imageWindows x.digest else [])

def Comp.readable (x : Comp) : List (Nat × Nat) := [0, 1].map (imageExtent x.digest) ++ x.writable

/-- The access meets the guard band of 256 bytes below the stack. -/
def Comp.guarded (x : Comp) (a n : Nat) : Bool :=
  let base := (imageExtent x.digest 3).1
  decide (a < base) && decide (base < a + n + 256)

/-- The cause of R357 that the protection unit or the kernel finds; 0 where the event is none. -/
def Comp.causeOf (x : Comp) : CompEvent → Nat
  | .load a n => if x.guarded a n then 4 else if x.readable.any (fun r => extentHolds r a n) then 0 else 1
  | .store a bs => if x.guarded a bs.length then 4 else if x.writable.any (fun r => extentHolds r a bs.length) then 0 else 1
  | .fetch a => if x.guarded a 4 then 4 else if extentHolds (imageExtent x.digest 0) a 4 then 0 else 1
  | .illegal => 2
  | .misaligned => 3
  | .assertion => 5
  | .poison => 6

/-- An access that the regions grant: a store to data or stack changes them. -/
def Comp.access (x : Comp) : CompEvent → Comp
  | .store a bs =>
    if [2, 3].any (fun i => extentHolds (imageExtent x.digest i) a bs.length) then { x with data := x.data.write a bs } else x
  | _ => x

/-! ### Restarts of components (R358) -/

/-- Requests that a component holds: those kept while it serves them. -/
def State.abortHeld (s : State) (die c : Nat) : State :=
  s.fw.mbx.foldl (fun s kb =>
    if kb.1 / 64 = die then
      (kb.2.inb.filter (fun r => !r.waiting && decide ((msgType (mgType r.msg.toNat)).map (·.comp) = some c))).foldl
        (fun s r => s.answerKept die (kb.1 % 64) r 0x8A []) s
    else s) s

/-- Steps 1 to 3: the component stops with its windows closed, its requests are answered, its work in engines ends. -/
def State.containComp (s : State) (die c cause : Nat) : State :=
  let s := s.putComp die c { s.comp die c with windows := false }
  let s := (s.setComp die c .restarting cause).abortHeld die c
  match c with
  | 2 => s.serverFault die
  | 6 => ((upto 6).filter (fun e => decide (dieOfEngine e = die))).foldl (fun s e => s.abortInFlight e 0xB8) s
  | _ => s

/-- Steps 4 and 5: its data region in zeros, its image copied anew, then it runs with its windows open. -/
def State.restartComp (s : State) (die c : Nat) : State :=
  (s.putComp die c { s.comp die c with data := {}, windows := true }).setComp die c .running 0

/-- A component that was contained goes on: the restart is counted, and a copy whose digest differs from the manifest's
starts nothing (log 146). -/
def State.resumeComp (s : State) (die c cause : Nat) (copyOk : Bool) : State :=
  let s := ((s.odSet (0x2160 + c) 0x0B s.now).odSet (0x2160 + c) 0x0C cause).odInc (0x2160 + c) 0x0A 1
  if copyOk then s.restartComp die c
  else
    let s := s.setComp die c .failed cause
    if essential c then s.fatal 0x0E else s

/-! ### Clocks (R66, R71) -/

/-- The application cores of a die stop and start again: the processes that ran on them end (log 145). -/
def State.restartApps (s : State) (die : Nat) : State :=
  s.setFw { s.fw with appPart := s.fw.appPart.only (fun c _ => decide (dieOfApp c ≠ die)) }

/-- The firmware cores of a die stop and start again: the runtime components on them restart, without counting against
them (log 145). -/
def State.restartFirmware (s : State) (die : Nat) : State :=
  ((upto 12).filter (fun c => decide (2 ≤ c) && decide ((s.comp die c).state = .running))).foldl
    (fun s c => (s.containComp die c 8).resumeComp die c 8 true) s

/-- A PLL loses lock. Domains count from 0 in the order of R66; `unit` is the core of ARR or the lane of SDS. -/
def State.pllLost (s : State) (domain die unit : Nat) : State :=
  if s.diesOn then
    let s := (s.charge 17 (2 * domain + die)).failRecord die 0x0D 17 (2 * domain + die) none 0 [(0, .num domain)]
    match domain with
    | 0 => s.startCoreReset (unit % 18) 0x0D
    | 1 | 2 | 3 | 4 => s.fatal 0x0D
    | 7 =>
      ((upto 6).filter (fun e => decide (dieOfEngine e = die))).foldl (fun s e => s.restartEngine e 0xB8)
        (s.raiseEast 0 0x0D)
    | 8 => ([2, 3, 4, 5].filter (fun p => decide (dieOfPort p = die))).foldl (fun s p => s.portFails p 0) (s.raiseEast 0 0x0D)
    | 9 => (s.raiseEast 0 0x0D).portFails (2 + unit % 16 / 4) 0
    | 10 => (s.raiseEast 0 0x0D).portFails die 0
    | 5 => (s.raiseEast 0 0x0D).restartApps die
    | 6 => (s.raiseEast 0 0x0D).restartFirmware die
    | _ => s.raiseEast 0 0x0D
  else s

/-! ### Units without a spare (R76) -/

/-- DRAINING and then OUT_OF_SERVICE; at once where the module serves nothing. REFUSED ends through no failure (R371): the
next start finds it. -/
def State.leaveService (s : State) (reason : Nat) : State :=
  match s.mode with
  | .ready | .serving | .draining => s.drainFor reason false
  | .awaitRuntime => s.toOutOfService reason
  | _ => s

def State.appCoreFails (s : State) (n : Nat) : State :=
  if s.diesOn && !hasNat s.fw.appOffline n then
    let s := (s.charge 5 n).failRecord (dieOfApp n) 0x10 5 n ((s.fw.appPart.find n)) 0 [(0, .num 2)]
    ((s.setFw { s.fw with appOffline := insertNat s.fw.appOffline n, appPart := s.fw.appPart.del n }).odSet 0x2140 3
      (setFld (s.odGet 0x2140 3) n 1 1)).commit [2]
  else s

def State.samplerFails (s : State) (die : Nat) : State :=
  if s.diesOn && !hasNat s.fw.samplerDown die then
    (s.failRecord die 0x1F 11 die none 0 []).setFw { s.fw with samplerDown := insertNat s.fw.samplerDown die }
  else s

/-- A security engine fails. -/
def State.securityFails (s : State) (die : Nat) : State :=
  if s.diesOn && (if die = 0 then s.sec.eastOk else s.sec.westOk) then
    let s := s.failRecord die 0x20 12 die none 0 []
    (s.setSec (if die = 0 then { s.sec with eastOk := false } else { s.sec with westOk := false })).leaveService 2
  else s

/-- A slice is withdrawn. R503 and R504 list neither a cause nor a unit kind for its record: both are free (log 32). -/
def State.sliceFails (s : State) (n : Nat) : State :=
  if s.diesOn && !hasNat s.withdrawn n then
    let (cause, s) := s.drawNat
    let (kind, s) := s.drawNat
    (s.failRecord (n / 48) (cause % 256) (kind % 256) n (s.sliceOwner n) 0 []).setWithdrawn (insertNat s.withdrawn n)
  else s

/-! ### Components (R356–R360) -/

/-- Counted restarts of the last 10 min, on the park clock. -/
def Comp.recent (x : Comp) (clock : Nat) : List Nat := x.restarts.filter (fun t => decide (clock < t + 600))

/-- A fault of a running component with a cause of R357: the third counted restart within 10 min marks it failed. -/
def State.compFault (s : State) (die c cause : Nat) (copyOk : Bool) : State :=
  if s.firmwareUp && decide ((s.comp die c).state = .running) then
    let s := ((s.odSet (0x2160 + c) 0x0B s.now).odSet (0x2160 + c) 0x0C cause).charge 7 (16 * die + c)
    if c ≤ 1 then s.fatal 0x0E
    else
      let s := s.containComp die c cause
      let rs := (s.comp die c).recent s.park.clock ++ [s.park.clock]
      let s := (s.putComp die c { s.comp die c with restarts := rs, lastOverrun := none }).odInc
        (0x2160 + c) 0x0A 1
      if rs.length < 3 && copyOk then s.restartComp die c
      else
        let s := (s.setComp die c .failed cause).failRecord die 0x0E 7 (16 * die + c) none 0
          [(0, .num c), (1, .num cause), (2, .num rs.length)]
        let s := s.commit [2]
        if essential c then s.fatal 0x0E else s
  else s

/-- What a running component meets (R357). -/
def State.compEvent (s : State) (die c : Nat) (ev : CompEvent) (copyOk : Bool) : State :=
  let x := s.comp die c
  if x.causeOf ev = 0 then
    (if s.firmwareUp && decide (x.state = .running) then s.putComp die c (x.access ev) else s)
  else s.compFault die c (x.causeOf ev) copyOk

/-- A budget overrun (R356): the first is only counted, a second within 1 s is a fault. -/
def State.overrun (s : State) (die c : Nat) (copyOk : Bool) : State :=
  let x := s.comp die c
  if s.firmwareUp && decide (x.state = .running) then
    match x.lastOverrun with
    | some t => if s.now ≤ t + second then s.compFault die c 7 copyOk else s.putComp die c { x with lastOverrun := some s.now }
    | none => s.putComp die c { x with lastOverrun := some s.now }
  else s

/-! ### Firmware cores (R361) -/

/-- A new home core, where the die has one left (R354, R361). -/
def State.rehome (s : State) (die c : Nat) : State :=
  let (core, s) := if (s.fwOnline die).isEmpty then (255, s) else s.homeCore die
  s.putComp die c { s.comp die c with core := core }

/-- A contained component starts on another core; with none left it stays down. -/
def State.moveComp (s : State) (die c : Nat) (copyOk : Bool) : State :=
  let s := s.rehome die c
  if (s.comp die c).core = 255 then (s.odSet (0x2160 + c) 0x0B s.now).odSet (0x2160 + c) 0x0C 8
  else s.resumeComp die c 8 copyOk

/-- Components of a core restart on the die's other cores with cause 0x08, which R360 does not count. -/
def State.moveComps (s : State) (die : Nat) (bad : List Nat) : List Nat → State
  | [] => s
  | c :: cs => ((s.containComp die c 8).moveComp die c (!bad.contains c)).moveComps die bad cs

/-- The components of a failed firmware core go on on the die's other cores; those not yet started are placed anew. -/
def State.moveFrom (s : State) (n : Nat) (bad : List Nat) : State :=
  let die := dieOfFw n
  let mine := (upto 12).filter (fun c => decide ((s.comp die c).core = n) && (decide ((s.comp die c).state = .running)
    || decide ((s.comp die c).state = .restarting)))
  let placed := (upto 12).filter (fun c => decide ((s.comp die c).core = n) && decide ((s.comp die c).state = .loaded))
  if s.firmwareUp then placed.foldl (fun s c => s.rehome die c) (s.moveComps die bad mine) else s

/-- A firmware core's failure (R361); without a core of the die left the die leaves service. -/
def State.fwCoreFails (s : State) (n trigger : Nat) (bad : List Nat) : State :=
  if s.diesOn && !hasNat s.fw.fwOffline n then
    let die := dieOfFw n
    let s := (s.charge 6 n).failRecord die 0x0F 6 n none 0 [(0, .num trigger)]
    let s := (s.setFw { s.fw with fwOffline := insertNat s.fw.fwOffline n }).commit [2]
    let s := s.moveFrom n bad
    if (s.fwOnline die).isEmpty then s.leaveService 3 else s
  else s

/-! ### The commands -/

/-- D2D_CRC_FAILURE -/
def execD2dCrcFailure (toWest : Bool) (sameFlit : Bool) (s : State) : Host.Outcome State Fault Refusal :=
  .next (s.flitFails toWest sameFlit)
/-- D2D_LANE_LOCK_LOSS -/
def execD2dLaneLockLoss (s : State) : Host.Outcome State Fault Refusal := .next (if s.diesOn then s.linkFails 2 else s)
/-- PLL_LOSS_OF_LOCK -/
def execPllLossOfLock (domain : Fin 18) (die : Die) (unit : Nat) (s : State) : Host.Outcome State Fault Refusal :=
  .next (s.pllLost domain.val die.toNat unit)
/-- APP_CORE_FAILURE -/
def execAppCoreFailure (core : BitVec 4) (s : State) : Host.Outcome State Fault Refusal := .next (s.appCoreFails core.toNat)
/-- SAMPLER_FAILURE -/
def execSamplerFailure (die : Die) (s : State) : Host.Outcome State Fault Refusal := .next (s.samplerFails die.toNat)
/-- SECURITY_ENGINE_FAILURE -/
def execSecurityEngineFailure (die : Die) (s : State) : Host.Outcome State Fault Refusal := .next (s.securityFails die.toNat)
/-- SLICE_FAILURE -/
def execSliceFailure (die : Die) (slice : Fin 48) (s : State) : Host.Outcome State Fault Refusal :=
  .next (s.sliceFails (48 * die.toNat + slice.val))
/-- COMPONENT_FAULT -/
def execComponentFault (die : Die) (comp : BitVec 4) (r : CompReport) (s : State) : Host.Outcome State Fault Refusal :=
  .next (s.compEvent die.toNat comp.toNat r.event r.copyOk)
/-- BUDGET_OVERRUN -/
def execBudgetOverrun (die : Die) (r : OverrunReport) (s : State) : Host.Outcome State Fault Refusal :=
  .next (s.overrun die.toNat r.comp.toNat r.copyOk)
/-- FIRMWARE_CORE_FAILURE -/
def execFirmwareCoreFailure (core : BitVec 3) (loss : CoreLoss) (s : State) : Host.Outcome State Fault Refusal :=
  .next (if 1 ≤ loss.trigger && loss.trigger ≤ 3 then
    s.fwCoreFails core.toNat loss.trigger (loss.badCopies.map BitVec.toNat) else s)

end Sys2Proof.Machine
end

