-- ==== Sys2Proof/Machine/EventCmds.lean ====
section
/-!
DEFINITION. The event controllers' commands (15 R452–R464): occurrences, coalescing, source controls, claim and
complete; counters, freeze and snapshot (R466–R472).
-/
namespace Sys2Proof.Machine

open Sys2Proof

/-! ### Occurrences (R452, R458, R459) -/

/-- A source's input: its condition changes, or a pulse asserts. -/
def State.sense (s : State) (die n : Nat) (level : Bool) (detail : Nat) : State :=
  if s.mode = .off then s
  else if sourceIsCond n then s.condition die n level detail
  else if level then s.raise die n detail else s

/-- The time limit of held occurrences has passed (R459). -/
def State.coalesce (s : State) (die n : Nat) : State :=
  let x := s.source die n
  let c := x.control.toNat
  if 0 < x.n && scEnable c && scCoalTime c ≠ 0 && x.t0 + limitOf (scCoalTime c) ≤ s.now && !s.asleep then
    deliver State.raise s die n
  else s

/-! ### Claim and complete (R463, R464) -/

def irqNumber : IrqCore → Nat
  | .app n => n.toNat
  | .fw n => 16 + n.toNat

def dieOfIrq (c : Nat) : Nat := if c < 16 then dieOfApp c else dieOfFw (c - 16)

/-- The first of two pending records: higher priority, then the east die, then the lower source number. -/
def irqBefore (a b : Nat × Nat × Nat) : Bool :=
  decide (b.1 < a.1) || (decide (a.1 = b.1) && (decide (a.2.1 < b.2.1) || (decide (a.2.1 = b.2.1) && decide (a.2.2 < b.2.2))))

def Irq.best (x : Irq) : Option (Nat × Nat × Nat) :=
  x.pending.foldl (fun o r => match o with
    | some b => if irqBefore r b then some r else some b
    | none => some r) none

/-- The claim register as read. -/
def claimWord (r : Nat × Nat × Nat) : Nat := at' 11 r.1 + at' 10 r.2.1 + r.2.2

def State.claim (s : State) (c : Nat) : State :=
  let x := s.irq c
  match x.best with
  | some r =>
    if (x.stack.headD 0) < r.1 then
      (s.putIrq c { pending := x.pending.erase r, stack := r.1 :: x.stack }).emit (.claimed c (claimWord r))
    else s.emit (.claimed c 0)
  | none => s.emit (.claimed c 0)

/-- A complete that is out of order: the write is discarded, stack_fault raised; from a firmware core it is a kernel fault. -/
def State.stackFault (s : State) (c top word : Nat) : State :=
  let s := (s.odInc 0x2900 7 1).raise (dieOfIrq c) 5 (c % 16 + at' 8 top + at' 12 (word % 16))
  if 16 ≤ c then s.fatal 0x0E else s

/-- A write of the complete register. -/
def State.completeIrq (s : State) (c word : Nat) : State :=
  let x := s.irq c
  match x.stack with
  | top :: rest => if word = top then s.putIrq c { x with stack := rest } else s.stackFault c top word
  | [] => s.stackFault c 0 word

/-! ### Source controls (R454, R456, R457) -/

/-- The partition of a source and whether it is the module's, as bits [48:45] read. -/
def State.controlWord (s : State) (die n : Nat) : Nat :=
  let own := if sourceIsModule n then at' 48 1 else at' 45 ((s.sourceOwner die n).getD 0)
  setFld (s.source die n).control.toNat 45 4 0 + own

/-- The check of R457 when enable is set. -/
def State.enableBad (s : State) (die n c : Nat) : Bool :=
  let q := s.queue (scQueue c)
  let own := s.sourceOwner die n
  (scToQueue c && (sourceIsModule n || q.cls ≠ 3 || some q.part ≠ own
      || s.queues.any (fun kx => decide (dieOfQueue kx.1 = die) && decide (kx.2.cls = 3) && decide (kx.2.state ≠ .disabled)
          && kx.2.eventEn && decide (kx.2.eventSrc.toNat = n))))
    || (scToMailbox c && !sourceIsModule n)
    || (scIrqEn c && !sourceIsModule n && (scIrqKind c = 1 || s.fw.appPart.find (scIrqCore c) ≠ own || own.isNone))

/-- Fields of R456 that are illegal whatever enable says. -/
def controlBad (n c : Nat) : Bool :=
  2 ≤ scSense c || (scSense c = 1 && !sourceIsCond n) || 8 ≤ scCoalTime c || (scPriority c = 0 && scIrqEn c)
    || (scIrqKind c = 1 && 8 ≤ scIrqCore c) || fld c 0 8 ≠ 0

/-- A write of a source control: its management code, 0 where it is taken. The ro bits [48:45] are not written. -/
def State.writeControl (s : State) (die n w : Nat) : Nat × State :=
  let x := s.source die n
  let old := x.control.toNat
  let c := setFld w 45 4 0
  if sourceReserved die n || controlBad n c then (0x1C, s)
  else if scEnable old && setFld c 63 1 0 ≠ setFld old 63 1 0 then (0x1D, s)
  else if scEnable c && !scEnable old && s.enableBad die n c then (0x1C, s)
  else
    let x := { x with control := BitVec.ofNat 64 c }
    (0, s.putSource die n (if scEnable c then x else { x with n := 0, disarmed := false, sawFalse := false }))

/-! ### Counters (R466–R469) -/

/-- A code counts on this counter (R467). -/
def codeOn (k code : Nat) : Bool :=
  code = 0 || (if k < 288 then decide (1 ≤ code) && decide (code ≤ 0x0E) else decide (0x40 ≤ code) && decide (code ≤ 0x52))

/-- The partition of a counter: its core's owner, its assignment, its filter (R454, R469). -/
def State.counterPart (s : State) (k c : Nat) : Option Nat :=
  let x := s.ctr k
  if k < 288 then s.coreOwner (k / 16)
  else if x.assign ≠ 255 then some x.assign
  else if ctFilterEn c then some (ctFilter c) else none

/-- A control that R466 to R469 let stand. -/
def State.counterOk (s : State) (k c : Nat) : Bool :=
  let x := s.ctr k
  let old := x.control.toNat
  decide (ctMode c ≠ 3) && decide (fld c 0 38 = 0) && codeOn k (ctCode c)
    && !(ctFilterEn c && (decide (k < 288) || ctCode c = 0x40 || ctCode c = 0x46))
    && (ctThrSrc c = 0 || (decide (256 ≤ ctThrSrc c)
        && (match (s.source (dieOfCtr k) (ctThrSrc c)).owner with
          | some p => s.counterPart k c = some p.toNat
          | none => false)))
    && (x.assign = 255 || (ctFilterEn c = ctFilterEn old && ctFilter c = ctFilter old))

/-- Write a counter's control; a set wrapped bit stays unless it is written as 0. -/
def State.writeCounter (s : State) (k c : Nat) : State :=
  let x := s.ctr k
  let wrapped := bitOf x.control.toNat 62 && bitOf c 62
  s.putCtr k { x with control := BitVec.ofNat 64 (setFld c 62 1 (b2n wrapped)) }

/-- The counter page of a partition (R469), 4 KiB, mapped read-only into its runtime process: the values of the user
counters of its cores and of the die counters assigned to it, at 8-byte offsets in counter order. -/
def State.counterPage (s : State) (p : Nat) : List Byte :=
  let mine := (upto 416).filter (fun k =>
    if k < 288 then decide (8 ≤ k % 16) && decide (s.coreOwner (k / 16) = some p) else decide ((s.ctr k).assign = p))
  let bs := mine.flatMap (fun k => leBytes 8 (s.ctr k).value.toNat)
  bs ++ List.replicate (4096 - bs.length) 0

/-- A counter counts `n` of its event. -/
def State.countOn (s : State) (k n : Nat) (reaches : Ctr → Ctr × Bool × Bool → Bool) : State :=
  if s.asleep || s.mode = .off || !reaches (s.ctr k) ((s.ctr k).add n) then s else ctrBump State.raise s k n

/-! ### Freeze and snapshot (R470–R472) -/

/-- Order a freeze (OD 0x2900.09, .08). -/
def State.orderFreeze (s : State) : State :=
  if s.ev.frozen then s.odSet 0x2900 9 3
  else if s.ev.freezeAt.isSome then s
  else
    let t := s.odGet 0x2900 8
    (s.setEv { s.ev with coreReset := [], freezeAt := some (if t < s.now + 2 * us then s.now + 2 * us else t) }).odSet 0x2900 9 1

/-- T of an ordered freeze has come. -/
def State.freezeNow (s : State) : State :=
  match s.ev.freezeAt with
  | some t =>
    if t ≤ s.now && !s.asleep then
      let out := (upto 18).filter (fun n => decide ((s.core n).role = .retired) || decide ((s.core n).role = .spare))
      let no := s.ev.freezeNo + 1
      let s := s.setEv { s.ev with freezeAt := none, frozen := true, freezeNo := no, frozenT := t, coreOut := out }
      (s.odSet 0x2900 9 2).raiseEast 4 no
    else s
  | none => s

def State.resumeCounters (s : State) (sub : Nat) : State :=
  if s.ev.frozen then (s.setEv { s.ev with frozen := false }).odSet 0x2900 sub 2 else s.odSet 0x2900 sub 3

/-- One entry of the image. -/
def counterEntry (x : Ctr) : List Byte := leBytes 8 (x.value.toNat + at' 63 (b2n (bitOf x.control.toNat 62)))

/-- The image of R471, 3,392 bytes. -/
def State.snapshotImage (s : State) : List Byte :=
  let mask := fun (xs : List Nat) => (xs.map (fun n => 2 ^ n)).sum
  leBytes 8 s.ev.frozenT ++ leBytes 8 s.now ++ leBytes 4 s.ev.freezeNo ++ leBytes 4 (mask s.ev.coreReset)
    ++ leBytes 4 (mask s.ev.coreOut) ++ leBytes 36 0 ++ (upto 416).flatMap (fun k => counterEntry (s.ctr k))

def State.takeSnapshot (s : State) : State :=
  if s.ev.frozen then (s.odSet 0x2900 0x0C (leNat s.snapshotImage)).odSet 0x2900 0x0B 2 else s.odSet 0x2900 0x0B 3

/-- Write 2 to the snapshot entry: the snapshot, then the resume. -/
def State.snapshotResume (s : State) : State :=
  if s.ev.frozen then (s.takeSnapshot).resumeCounters 0x0B else s.odSet 0x2900 0x0B 3

/-- One occurrence of the source selected at OD 0x2910.01. -/
def State.injectSource (s : State) : State :=
  let v := s.odGet 0x2910 1
  if sourceReserved (v / 1024) (v % 1024) then s.odSet 0x2910 5 3
  else (s.raise (v / 1024) (v % 1024) 0).odSet 0x2910 5 2

/-! ### The commands -/

/-- EVENT_OCCURRENCE -/
def execEventOccurrence (die : Die) (src : BitVec 10) (level : Bool) (detail : BitVec 47) (s : State) :
    Host.Outcome State Fault Refusal := .next (s.sense die.toNat src.toNat level detail.toNat)
/-- COALESCE_TIMEOUT -/
def execCoalesceTimeout (die : Die) (src : BitVec 10) (s : State) : Host.Outcome State Fault Refusal :=
  .next (s.coalesce die.toNat src.toNat)
/-- CLAIM -/
def execClaim (core : IrqCore) (s : State) : Host.Outcome State Fault Refusal :=
  .next (if s.diesOn then s.claim (irqNumber core) else s)
/-- COMPLETE -/
def execComplete (core : IrqCore) (word : BitVec 32) (s : State) : Host.Outcome State Fault Refusal :=
  .next (if s.diesOn then s.completeIrq (irqNumber core) word.toNat else s)
/-- SOURCE_CONTROL_WRITE -/
def execSourceControlWrite (die : Die) (src : BitVec 10) (control : BitVec 64) (s : State) :
    Host.Outcome State Fault Refusal :=
  .next (if s.firmwareUp then State.control (s.writeControl die.toNat src.toNat control.toNat) else s)
/-- COUNTER_THRESHOLD -/
def execCounterThreshold (c : Fin 416) (by_ : Nat) (s : State) : Host.Outcome State Fault Refusal :=
  .next (s.countOn c.val by_ (fun _ r => r.2.1))
/-- COUNTER_WRAP: a wrap, or the stop of a saturating counter. -/
def execCounterWrap (c : Fin 416) (by_ : Nat) (s : State) : Host.Outcome State Fault Refusal :=
  .next (s.countOn c.val by_ (fun x r => r.2.2 || decide (r.1.control ≠ x.control)))
/-- COUNTER_CONTROL_WRITE -/
def execCounterControlWrite (c : Fin 416) (control : BitVec 64) (s : State) : Host.Outcome State Fault Refusal :=
  .next (if s.diesOn && s.counterOk c.val control.toNat then s.writeCounter c.val control.toNat else s)
/-- FREEZE -/
def execFreeze (s : State) : Host.Outcome State Fault Refusal := .next (if s.diesOn then s.orderFreeze else s)
/-- FREEZE_POINT -/
def execFreezePoint (s : State) : Host.Outcome State Fault Refusal := .next s.freezeNow
/-- FREEZE_RESUME -/
def execFreezeResume (s : State) : Host.Outcome State Fault Refusal :=
  .next (if s.diesOn then s.resumeCounters 9 else s)
/-- SNAPSHOT -/
def execSnapshot (s : State) : Host.Outcome State Fault Refusal := .next (if s.diesOn then s.takeSnapshot else s)
/-- SNAPSHOT_RESUME -/
def execSnapshotResume (s : State) : Host.Outcome State Fault Refusal := .next (if s.diesOn then s.snapshotResume else s)
/-- INJECT -/
def execInject (s : State) : Host.Outcome State Fault Refusal := .next (if s.diesOn then s.injectSource else s)

end Sys2Proof.Machine
end

