-- ==== Sys2Proof/Machine/Wear.lean ====
section
/-!
DEFINITION. Weight digests, the daily wear sample and thermal cycles (16 R477–R482, R488–R492).
-/
namespace Sys2Proof.Machine

open Sys2Proof

/-! ### Page and resident digests (R478) -/

/-- Bytes of a page's stored form. -/
def storedBytes (e : Nat) : Nat := if peCoded e then 64 * peCodedLines e else 65536 * peUnits e

/-- SHA-256 of the stored form, and whether a line of it is poison. -/
def State.pageDigest (s : State) (e : Nat) : Nat × Bool :=
  let m := (s.sub (peSub e)).mem
  let a := 65536 * peUnit e
  ((Config.sha256 (m.read a (storedBytes e))).toNat, m.bad a (storedBytes e))

/-- A read of a page's stored form meets the upsets in its lines. -/
def State.settlePage (s : State) (e : Nat) : State :=
  if s.upsets.isEmpty then s else s.settleRange (peSub e) (65536 * peUnit e) (storedBytes e)

/-- The digest of a page as it is read: its lines are counted, the upsets in them met; what a poisoned page digests to
is not given (log 1). -/
def State.digestPage (s : State) (p e : Nat) : Nat × Bool × State :=
  let s := s.bumpDie (dieOfSub (peSub e)) 0x41 (some p) (storedBytes e / 64)
  let s := s.settlePage e
  let (d, bad) := s.pageDigest e
  if bad then
    let (free, s) := s.drawNat
    (free % 2 ^ 256, true, s)
  else (d, false, s)

/-- The digests of a list of pages, in its order. -/
def State.digestPages (s : State) (p : Nat) : List Nat → List Nat × State
  | [] => ([], s)
  | e :: es =>
    let (d, _, s) := s.digestPage p e
    let (ds, s) := s.digestPages p es
    (d :: ds, s)

def residentDigest (pages : List Nat) : Nat := (Config.sha256 (pages.flatMap (fun d => leBytes 32 d))).toNat

/-- The entry of a partition's page. -/
def State.pageEntry (s : State) (p page : Nat) : Nat := s.pageMaps.getD (2 ^ 18 * p + page) 0

/-! ### Registration (R477, R479) -/

/-- A registration into a free slot, of valid pages of the partition, which holds at most 5 slots (R525). -/
def State.registerOk (s : State) (r : BundleReg) : Bool :=
  s.firmwareUp && (s.bundle r.slot.toNat).isNone && decide ((s.part r.part.toNat).state = .active)
    && decide ((s.rel.bundles.filter (fun b => decide (b.2.part = r.part))).length < 5)
    && decide (r.pages.length ≤ 32768)
    && r.pages.all (fun g =>
      let e := s.pageEntry r.part.toNat g.toNat
      peValid e && decide (pePart e = r.part.toNat) && decide (peSub e < 68) && peExtentOk e)

def State.register (s : State) (r : BundleReg) : State :=
  if s.registerOk r then
    let pages := r.pages.map BitVec.toNat
    let (ds, s) := s.digestPages r.part.toNat (pages.map (s.pageEntry r.part.toNat))
    s.account.putBundle r.slot.toNat {
      part := r.part, digest := r.digest, pages := pages, loadPages := ds, load := residentDigest ds, lastPages := []
      last := 0, lastPass := 0, lastGood := s.now, since := s.now }
  else s

def State.deregister (s : State) (b : Nat) : State :=
  if s.firmwareUp then s.setRel { s.rel with bundles := s.rel.bundles.del b } else s

/-! ### Passes (R479–R481) -/

/-- Begin a pass over slot b: the order at OD 0x2710 + b.0B at once, the period's after its time. -/
def State.passStart (s : State) (b : Nat) (ordered : Bool) : State :=
  match s.bundle b with
  | some x =>
    if x.running || !s.diesOn then s
    else if ordered then (s.putBundle b { x with running := true }).odSet (0x2710 + b) 0x0B 1
    else if x.since + second * s.odGet 0x2700 5 ≤ s.now then s.putBundle b { x with running := true }
    else s
  | none => if ordered && s.diesOn then s.odSet (0x2710 + b) 0x0B 3 else s

/-- Rewrite every stored line of a page as poison (R192, R480). -/
def State.poisonPage (s : State) (e : Nat) : State :=
  (if s.upsets.isEmpty then s else s.settleWrite (peSub e) (65536 * peUnit e) (storedBytes e)).updSub (peSub e) (fun u => { u with mem := u.mem.setBad (65536 * peUnit e) (storedBytes e) true })

/-- A mismatching page: poison, the charge, the record (R480), and a second within 30 days retires the subchannel (R486). -/
def State.pageMismatch (s : State) (b page e expected found : Nat) (x : Bundle) : State :=
  let n := peSub e
  let s := (s.poisonPage e).charge 3 n
  let ms := (s.sub n).mismatches.filter (fun t => decide (s.park.clock < t + 2592000)) ++ [s.park.clock]
  let s := s.updSub n (fun u => { u with mismatches := ms })
  let s := s.failRecord (dieOfSub n) 0x0A 3 n (some x.part.toNat) 0
    [(0, .num b), (1, .num page), (2, .num n), (3, .num x.lastGood), (4, .num s.now), (5, .bytes 32 expected), (6, .bytes 32 found)]
  if 2 ≤ ms.length then s.retireSub n 5 else s

/-- One page of a pass: its digest for the resident digest, and whether it mismatched. A page with fill set, or that is
no longer mapped, is skipped; the digest that stands for it is not given (log 1). -/
def State.passPage (s : State) (b page expected : Nat) (x : Bundle) : Nat × Bool × State :=
  let e := s.pageEntry x.part.toNat page
  if !peValid e || peFill e || pePart e ≠ x.part.toNat || 68 ≤ peSub e || !peExtentOk e then
    let (d, s) := s.drawNat
    (d % 2 ^ 256, false, s)
  else
    let (d, bad, s) := s.digestPage x.part.toNat e
    if bad || d ≠ expected then (d, true, s.pageMismatch b page e expected d x) else (d, false, s)

/-- The pages of a pass in list order: their digests and the mismatches. -/
def State.passPages (s : State) (b : Nat) (x : Bundle) : List (Nat × Nat) → List Nat × Nat × State
  | [] => ([], 0, s)
  | (page, expected) :: rest =>
    let (d, bad, s) := s.passPage b page expected x
    let (ds, n, s) := s.passPages b x rest
    (d :: ds, n + b2n bad, s)

/-- The end of a running pass. -/
def State.passEnd (s : State) (b : Nat) : State :=
  match s.bundle b with
  | some x =>
    if x.running && s.diesOn then
      let (ds, n, s) := s.passPages b x (x.pages.zip x.loadPages)
      let s := s.account.putBundle b { x with
        running := false, lastPages := ds, last := residentDigest ds, lastPass := s.now, since := s.now
        lastGood := if n = 0 then s.now else x.lastGood, verdict := if n = 0 then 1 else 2, mismatched := x.mismatched + n }
      if s.odGet (0x2710 + b) 0x0B = 1 then s.odSet (0x2710 + b) 0x0B 2 else s
    else s
  | none => s

/-! ### Replica comparison (R482) -/

/-- A write of `v` to OD 0x2710 + b.0C. -/
def State.reportReplica (s : State) (b v : Nat) : State :=
  match s.bundle b with
  | some x =>
    if !s.diesOn then s
    else
      let s := s.failRecord 0 0x0B 0 0 (some x.part.toNat) 0 [(0, .num b), (1, .num v)]
      let es := (x.pages.map (s.pageEntry x.part.toNat)).filter (fun e =>
        peValid e && decide (pePart e = x.part.toNat) && decide (peSub e < 68) && peExtentOk e)
      let s := if v = 2 then es.foldl (fun s e => s.poisonPage e) s else s
      (s.putBundle b { x with verdict := 3, mismatched := x.mismatched + (if v = 2 then es.length else 0) }).odSet
        (0x2710 + b) 0x0C 2
  | none => if s.diesOn then s.odSet (0x2710 + b) 0x0C 3 else s

/-! ### The daily sample (R489, R492) -/

/-- Transmit power of the lanes of each fabric port. -/
def State.setTxPower (s : State) (xs : List (List Int)) : State :=
  (List.zipIdx (xs.take 4)).foldl (fun s x =>
    let p := s.port (x.2 + 2)
    s.putPort (x.2 + 2) { p with lanes := (p.lanes.zip x.1).map (fun l => { l.1 with tx := l.2 }) ++ p.lanes.drop x.1.length }) s

/-- One sample of every unit of every kind. -/
def State.sampleAll (s : State) : State :=
  let s := [(1, 68), (3, 1), (6, 4)].foldl (fun s ku => (upto ku.2).foldl (fun s u => s.measure ku.1 u) s) s
  let units := (upto 8).flatMap (fun k => (upto (wearUnits k)).map (fun u => (k, u)))
  s.setRel { s.rel with
    daily := units.foldl (fun d ku => d.upd (256 * ku.1 + ku.2) [] (fun xs =>
      ((s.rel.day, s.wearValue ku.1 ku.2) :: xs).take 30)) s.rel.daily
    lastSample := s.now }

def State.dailySample (s : State) (m : WearSample) : State :=
  if s.diesOn then
    let s := (s.setAgeing m.ageing).setTxPower m.txPower
    let s := (s.setRel { s.rel with day := s.rel.day + 1 }).sampleAll
    let s := ((upto 8).filter (fun k => k ≠ 1 && k ≠ 4)).foldl (fun s k =>
      (upto (wearUnits k)).foldl (fun s u => s.wearLimitCheck k u) s) s
    s.foretell.commit [2, 3]
  else s

/-! ### Thermal cycles (R490) -/

/-- The hottest junction reads `t`, in 0.01 °C. -/
def State.thermalCycle (s : State) (t : Int) : State :=
  if s.mode = .off then s
  else
    let r := s.rel
    if r.peak < t then s.setRel { r with peak := t }
    else if 2000 ≤ r.peak - r.trough && 2000 ≤ r.peak - t then
      (s.setRel { r with cycles := r.cycles + ((r.peak - r.trough) * (r.peak - r.trough)).toNat, trough := t, peak := t }).wearLimitCheck 7 0
    else if t < r.trough then s.setRel { r with trough := t, peak := t }
    else s

/-! ### The commands -/

/-- BUNDLE_REGISTER -/
def execBundleRegister (r : BundleReg) (s : State) : Host.Outcome State Fault Refusal := .next (s.register r)
/-- BUNDLE_DEREGISTER -/
def execBundleDeregister (slot : BitVec 4) (s : State) : Host.Outcome State Fault Refusal := .next (s.deregister slot.toNat)
/-- DIGEST_PASS_START: the period of OD 0x2700.05 has passed. -/
def execDigestPassStart (slot : BitVec 4) (s : State) : Host.Outcome State Fault Refusal := .next (s.passStart slot.toNat false)
/-- DIGEST_PASS_END -/
def execDigestPassEnd (slot : BitVec 4) (s : State) : Host.Outcome State Fault Refusal := .next (s.passEnd slot.toNat)
/-- CHECK_NOW -/
def execCheckNow (slot : BitVec 4) (s : State) : Host.Outcome State Fault Refusal := .next (s.passStart slot.toNat true)
/-- REPORT_MISMATCH -/
def execReportMismatch (slot : BitVec 4) (s : State) : Host.Outcome State Fault Refusal := .next (s.reportReplica slot.toNat 1)
/-- REPORT_MISMATCH_POISON -/
def execReportMismatchPoison (slot : BitVec 4) (s : State) : Host.Outcome State Fault Refusal :=
  .next (s.reportReplica slot.toNat 2)
/-- WEAR_COMMIT: the ten-minute commit of R488. -/
def execWearCommit (s : State) : Host.Outcome State Fault Refusal := .next (if s.diesOn then s.commit [2] else s)
/-- DAILY_WEAR_SAMPLE -/
def execDailyWearSample (m : WearSample) (s : State) : Host.Outcome State Fault Refusal := .next (s.dailySample m)
/-- THERMAL_CYCLE -/
def execThermalCycle (temp : Int) (s : State) : Host.Outcome State Fault Refusal := .next (s.thermalCycle temp)

end Sys2Proof.Machine
end

