-- ==== Sys2Proof/Machine/Live.lean ====
section
/-!
DEFINITION. What the entries of the object dictionary read as (12 R376–R380 and the entry tables of every chapter): the
live ones computed from the state, the others as stored.
-/
namespace Sys2Proof.Machine

open Sys2Proof

/-! ### Values -/

/-- Length of a value of a type, of its stored number (R378). -/
def OdTy.len (t : OdTy) (v : Nat) : Nat :=
  match t with
  | .bool | .enum => 1
  | .u n | .s n => n
  | .f32 | .bits => 4
  | .str n => bytesUsed n v
  | .oct n _ => n

/-- The largest length of a value (R390). -/
def OdTy.largest : OdTy → Nat
  | .str n => n
  | t => t.len 0

/-- The F32 nearest to a quotient. -/
def f32Of (num : Int) (den : Nat) : Nat :=
  (fp32.encode false .nearest (XVal.div (XVal.ofInt num) (XVal.ofInt (den : Int)))).1

/-- Little-endian map of the numbers that meet `p`. -/
def mapOf (n : Nat) (p : Nat → Bool) : Nat := ((upto n).map (fun i => if p i then 2 ^ i else 0)).sum

def countOf (n : Nat) (p : Nat → Bool) : Nat := ((upto n).filter p).length

/-- An exact length: what lies past the given bytes is free (log 1). -/
def State.padFree (s : State) (n : Nat) (bs : List Byte) : List Byte × State :=
  let (v, s) := s.drawNat
  (bs ++ leBytes (n - bs.length) v, s)

/-- A free value of at most `n` bytes: of a record or a sample that is not held. -/
def State.freeUpTo (s : State) (n : Nat) : List Byte × State :=
  let (l, s) := s.drawNat
  let (v, s) := s.drawNat
  (leBytes (l % (n + 1)) v, s)

def ResetKind.code : ResetKind → Nat
  | .pwr => 0 | .mod => 1 | .warm => 2 | .part => 3 | .core => 4

def Pps.code : Pps → Nat
  | .none => 0 | .locked => 1 | .slewing => 2 | .holdover => 3

def CoreRole.code : CoreRole → Nat
  | .inService => 0 | .spare => 1 | .retired => 2 | .resetting => 3 | .selfTest => 4

def SubRole.code : SubRole → Nat
  | .inService => 0 | .spare => 1 | .retired => 2 | .migratingOut => 3 | .migratingIn => 4 | .degraded => 5
  | .failedTraining => 6

def PState.code : PState → Nat
  | .free => 0 | .active => 1 | .scrubbing => 2 | .destroying => 3

def SessState.code : SessState → Nat
  | .free => 0 | .handshake => 1 | .opened => 2 | .suspended => 3

def PlatState.code : PlatState → Nat
  | .empty => 0 | .active => 1 | .previous => 2 | .pending => 3 | .trial => 4 | .failed => 5 | .rejected => 6

def RunState.code : RunState → Nat
  | .empty => 0 | .current => 1 | .previous => 2 | .candidate => 3 | .probation => 4 | .rejected => 5

/-! ### Identity, sessions, time (R399–R404) -/

def State.liveIdentity (s : State) (sub : Nat) : Option Nat :=
  match sub with
  | 0x0A => some s.bootedImage.text
  | 0x0B => some s.bootedImage.digest
  | _ => none

def RSess.live (x : RSess) (sub : Nat) : Option Nat :=
  match sub with
  | 1 => some x.state.code
  | 2 => some x.credential.toNat
  | 3 => some x.rights
  | 4 => some x.peer.toNat
  | 5 => some x.port.toNat
  | 6 => some x.framesIn
  | 7 => some x.framesOut
  | _ => none

def State.liveTime (s : State) (sub : Nat) : Option Nat :=
  match sub with
  | 1 => some s.now
  | 2 => some s.time.pps.code
  | 5 => some (ofSigned 32 s.time.phase)
  | 6 => some (if s.time.pps = .holdover then s.time.holdSince else 0)
  | _ => none

/-- The record that log_select names; records are numbered from 0. -/
def State.logSelected (s : State) : Option LogRec :=
  let n := s.odGet 0x1180 2
  let first := s.ryc.logCount - s.ryc.log.length
  if first ≤ n then s.ryc.log[n - first]? else none

/-! ### Power and resets (R569–R572, R593) -/

/-- Milliwatts, hundredths of a degree and millivolts as F32. -/
def milli (n : Nat) : Nat := f32Of n 1000
def centi (i : Int) : Nat := f32Of i 100

def State.livePower (s : State) (sub : Nat) : Option Nat :=
  match sub with
  | 1 => some s.mode.code
  | 3 => some (milli s.tray.inputMv)
  | 4 => some (milli s.pow.drawMw)
  | 5 => some s.stepInForce
  | 6 => some (centi s.tray.inlet)
  | 7 => some (centi s.tray.outlet)
  | 9 => some (centi s.hottest)
  | 0x0A => some (milli ((s.pow.draws.filter (fun x => decide (s.now < x.1 + second))).foldl (fun m x => Nat.max m x.2) 0))
  | 0x0C => some s.pow.stateSince
  | _ => none

def HistRec.bytes (h : HistRec) : List Byte :=
  leBytes 8 h.clock ++ leBytes 8 h.time ++ leBytes 1 h.kind.code ++ leBytes 1 h.cause ++ leBytes 1 h.unit
    ++ leBytes 1 (b2n h.counted + 2 * b2n h.merged + 4 * b2n h.sampled + 8 * b2n h.fullTraining + 16 * b2n h.cleared)
    ++ leBytes 8 h.sample ++ leBytes 4 0

/-- The sample image of R582. -/
def Sample.image (x : Sample) : List Byte :=
  leBytes 8 x.no ++ leBytes 8 x.time ++ leBytes 1 x.cause
    ++ leBytes 1 (b2n x.absent + 2 * b2n x.omitted + 4 * b2n x.abandoned) ++ leBytes 2 18 ++ leBytes 4 x.queues.length
    ++ leBytes 4 128 ++ leBytes 4 x.offset ++ leBytes 32 0
    ++ (upto 18).flatMap (fun n => leBytes 4096 (x.spads.getD n 0))
    ++ x.queues.flatMap (leBytes 32)
    ++ (upto 8192).flatMap (fun k => leBytes 64 (x.mbx.getD k 0))

def State.liveReset (s : State) (sub : Nat) : Option Nat :=
  let last := s.rst.history.getLast?
  match sub with
  | 1 => last.map (·.kind.code)
  | 2 => last.map (·.cause)
  | 3 => some ((last.map (·.clock)).getD 0)
  | 4 => some s.countInForce
  | 5 => some s.rst.oosReason
  | _ => none

/-! ### Cores, memory, queues (R144, R145, R180, R217–R219, R279) -/

def State.liveCores (s : State) (sub : Nat) : Option Nat :=
  match sub with
  | 2 => some (countOf 18 (fun n => decide ((s.core n).role = .inService)))
  | 3 => some (mapOf 18 (fun n => decide ((s.core n).role = .spare)))
  | 4 => some (mapOf 18 (fun n => decide ((s.core n).role = .retired)))
  | 8 => some (mapOf 18 (fun n => decide ((s.core n).role = .inService) && decide (wearCeiling (s.core n).ageing < 1000)))
  | _ => none

def State.liveCore (s : State) (n sub : Nat) : Option Nat :=
  let c := s.core n
  match sub with
  | 1 => some c.role.code
  | 2 => some ((s.coreOwner n).getD 255)
  | 3 => some (if s.clockGated n then 0 else s.arrMhz n)
  | 4 => some (s.arrCeiling n)
  | 7 => some (leNat ((upto 48).flatMap (fun b => leBytes 1 (c.bankMap.getD b b))))
  | 8 => some c.spares.length
  | 9 => some c.marked.length
  | _ => none

/-- Devices that carry data. -/
def SubRole.fitted : SubRole → Bool
  | .failedTraining | .retired => false
  | _ => true

def State.liveMemory (s : State) (sub : Nat) : Option Nat :=
  match sub with
  | 2 => some (countOf 68 (fun n => decide ((s.sub n).role = .inService) || decide ((s.sub n).role = .degraded)))
  | 3 => some (mapOf 68 (fun n => decide ((s.sub n).role = .spare)))
  | 4 => some (mapOf 68 (fun n => decide ((s.sub n).role = .retired)))
  | 0x0B => some (centi ((upto 68).foldl (fun m n => if m < (s.sub n).temp then (s.sub n).temp else m) (s.sub 0).temp))
  | 0x0C => some (mapOf 2 (fun d => (s.migr.find d).isSome))
  | _ => none

/-- Share of the pages copied, of the retirement in which subchannel n takes part. -/
def State.migrated (s : State) (n : Nat) : Nat :=
  match s.migr.find (dieOfSub n) with
  | some m => if m.src = n || m.dst = n then (if m.copied + m.left.length = 0 then 0 else 100 * m.copied / (m.copied + m.left.length)) else 0
  | none => 0

def State.liveSub (s : State) (n sub : Nat) : Option Nat :=
  let x := s.sub n
  match sub with
  | 1 => some x.role.code
  | 2 => some ((s.subOwner n).getD 255)
  | 5 => some (s.fixes24 n)
  | 6 => some x.softRows.length
  | 9 => some (centi x.temp)
  | 0x0A => some (s.migrated n)
  | _ => none

def State.livePark (s : State) (sub : Nat) : Option Nat :=
  match sub with
  | 4 => some (7584 - s.odGet 0x2201 2 - s.odGet 0x2201 3)
  | 5 => some s.park.objects.length
  | 7 => some (ofSigned 32 (s.park.budget / 1000000000))
  | 8 => some (s.park.written / 1000000000)
  | 9 => some (s.park.written * 100 / (28 * 10 ^ 15))
  | 0x0A => some s.park.clock
  | _ => none

def State.liveKv (s : State) (sub : Nat) : Option Nat :=
  let east := 2 ^ 19
  let of (p : Nat → Nat → Bool) : Option Nat := some (s.kvMaps.filter (fun x => kvValid x.2 && p x.1 x.2)).length
  match sub with
  | 4 => of (fun k _ => decide (k < east))
  | 5 => of (fun k _ => decide (east ≤ k))
  | 6 => of (fun _ e => decide (kvLoc e = 2))
  | _ => none

def State.liveQueues (s : State) (index sub : Nat) : Option Nat :=
  match index, sub with
  | 0x2300, 7 => some (s.queueIds (fun _ x => decide (x.state ≠ .disabled))).length
  | 0x2310, 2 => some (s.queue (s.odGet 0x2310 1)).word
  | 0x2310, 4 => some (s.sem (s.odGet 0x2310 3)).value.toNat
  | _, _ => none

/-! ### Serving, video, firmware (R310, R346, R347, R374, R375) -/

def State.liveServing (s : State) (sub : Nat) : Option Nat :=
  let slots (d : Nat) : Nat := (s.grammars.filter (fun x => decide (x.1 / 16384 = d))).length
  match sub with
  | 2 => some (s.sess.filter (fun x => x.2.isOpen)).length
  | 5 => some (slots 0)
  | 6 => some (slots 1)
  | 0x0B => some (f32Of (((s.emitted.filter (fun x => decide (s.now < x.1 + second))).map (fun x => x.2.2)).sum : Nat) 1)
  | 0x0F => some s.adapters.length
  | _ => none

def State.contextsOf (s : State) (e : Nat) : Nat :=
  ((s.engine e).ctx.filter (fun c => decide (c.2.state = .opened))).length

def State.liveEngine (s : State) (e sub : Nat) : Option Nat :=
  match sub with
  | 1 => some (if s.engineDown e then 1 else if (s.engine e).restarting then 2 else 0)
  | 2 => some (((s.engine e).part.map BitVec.toNat).getD 255)
  | 3 => some (s.contextsOf e)
  | _ => none

def State.liveFirmware (s : State) (index sub : Nat) : Option Nat :=
  match index, sub with
  | 0x2140, 2 => some (16 - s.fw.appOffline.length)
  | 0x2150, 1 => some (mapOf 8 (fun n => !hasNat s.fw.fwOffline n))
  | 0x2150, 2 => some s.kernelVersion
  | _, _ => none

/-- Component names of R353; identifiers 12 to 15 are reserved. -/
def compName (c : Nat) : String :=
  match c with
  | 0 => "kernel" | 1 => "loader" | 2 => "od_server" | 3 => "core_mgr" | 4 => "mem_mgr" | 5 => "park_mgr"
  | 6 => "video_fw" | 7 => "net_mgr" | 8 => "power_mgr" | 9 => "rel_mgr" | 10 => "sec_svc" | 11 => "time_svc"
  | _ => ""

def State.liveComp (s : State) (c sub : Nat) : Option Nat :=
  let e := s.comp 0 c
  let w := s.comp 1 c
  match sub with
  | 1 => some (leNat (ascii (compName c)))
  | 2 => some (if c ≤ 1 then 0 else 1)
  | 3 => some e.version
  | 4 => some e.digest
  | 5 => some w.digest
  | 6 => some e.state.code
  | 7 => some w.state.code
  | 8 => some e.core
  | 9 => some w.core
  | _ => none

/-! ### Network (R436, R437) -/

/-- Position of a link's active port in the order of R405; 2 with none. -/
def State.activeAt (s : State) (l : Nat) : Nat :=
  match portsOfLink l with
  | [a, b] => if (s.port a).role = .active then 0 else if (s.port b).role = .active then 1 else 2
  | _ => 2

def State.liveNet (s : State) (sub : Nat) : Option Nat :=
  match sub with
  | 1 => some (s.activeAt 0)
  | 2 => some (s.activeAt 1)
  | 3 => some (s.activeAt 2)
  | 0x0D => some (s.net.steer.filter (fun x => decide (fld x.2 42 2 ≠ 0))).length
  | _ => none

/-- Four F32 of the lanes' readings; a lane without one reads 0. -/
def lanesOf (x : Port) (f : LaneReading → Int) : Nat :=
  leNat ((upto 4).flatMap (fun i => leBytes 4 (match x.lanes[i]? with | some l => centi (f l) | none => 0)))

def State.livePort (s : State) (p sub : Nat) : Option Nat :=
  let x := s.port p
  match sub with
  | 1 => some x.role.code
  | 2 => some (b2n x.up)
  | 3 => some (s.failuresHour p).length
  | 8 => some x.lastChange
  | 9 => some x.verdict
  | 0x0A => some (lanesOf x (·.rx))
  | 0x0B => some (lanesOf x (·.tx))
  | 0x0C => some (lanesOf x (·.refl))
  | 0x0D => some x.diagTime
  | _ => none

/-! ### Reliability (R510–R513) -/

def State.liveWear (s : State) (sub : Nat) : Option Nat :=
  match sub with
  | 1 => some s.peol
  | 2 => some s.rel.figure.2.1
  | 3 => some (s.rel.forced.headD 0)
  | 4 => some s.rel.figure.2.2
  | 7 => some (s.rel.cycles / 16000000)
  | _ => none

def State.liveRecords (s : State) (sub : Nat) : Option Nat :=
  match sub with
  | 2 => some s.rel.records.length
  | 3 => some ((s.rel.records.head?.map (·.no)).getD 0)
  | _ => none

def Bundle.live (x : Bundle) (sub : Nat) : Option Nat :=
  match sub with
  | 1 => some (if x.running then 2 else 1)
  | 2 => some x.part.toNat
  | 3 => some x.digest.toNat
  | 4 => some x.pages.length
  | 5 => some x.load
  | 6 => some x.last
  | 7 => some x.lastPass
  | 8 => some x.verdict
  | 9 => some x.mismatched
  | _ => none

def State.liveKind (s : State) (k sub : Nat) : Option Nat :=
  match sub with
  | 2 => some (wearUnits k)
  | 3 => some (f32Of (s.wearLimit k) 1000)
  | 8 => some s.rel.lastSample
  | _ => none

/-! ### Security, events, the store, images (R474, R545, R548, R618–R620) -/

/-- Owner of each slot position; module slots are those of R529. -/
def State.slotMap (s : State) (m : Nat) (f : Part → List Nat) : Nat :=
  leNat ((upto 64).flatMap (fun i => leBytes 1 (match s.ownerBy (fun x => (f x).contains i) with
    | some p => p
    | none => if i % m = 0 then 0xFE else 0xFF)))

def State.liveSec (s : State) (sub : Nat) : Option Nat :=
  match sub with
  | 5 => some s.fuseState
  | 7 => some (countOf 8 (fun p => decide ((s.part p).state ≠ .free)))
  | 0x0B => some (s.slotMap 32 (·.d2d))
  | 0x0C => some (s.slotMap 8 (·.fabric))
  | 0x0D => some (s.slotMap 16 (·.parkSlots))
  | _ => none

def State.liveSource (s : State) (sub : Nat) : Option Nat :=
  let w := s.odGet 0x2910 1
  let (die, n) := (fld w 10 1, fld w 0 10)
  match sub with
  | 2 => some (s.controlWord die n)
  | 3 => some (s.source die n).total
  | 4 => some (s.source die n).n
  | _ => none

def State.liveCounter (s : State) (sub : Nat) : Option Nat :=
  let x := s.ctr (s.odGet 0x2920 1)
  match sub with
  | 2 => some x.control.toNat
  | 3 => some x.threshold.toNat
  | 4 => some x.value.toNat
  | 5 => some x.assign
  | _ => none

def State.liveStore (s : State) (sub : Nat) : Option Nat :=
  let t := s.store
  match sub with
  | 1 => some (b2n t.newestB)
  | 2 => some t.newestSeq
  | 3 => some t.bankA.free
  | 4 => some t.bankB.free
  | 5 => some t.bankA.erases
  | 6 => some t.bankB.erases
  | 0x0A => some (Nat.max t.platSettings t.runSettings)
  | 0x0B => some t.compaction
  | _ => none

/-- Chunks of the staged image that are not durable. -/
def State.missing (s : State) : List Nat := (upto s.chunksTotal).filter (fun i => (s.store.chunks.find i).isNone)

def State.liveStage (s : State) (sub : Nat) : Option Nat :=
  match sub with
  | 8 => some s.store.chunks.length
  | 9 => some (s.missing.headD s.chunksTotal)
  | _ => none

/-- SERVING time left of the probation (R612). -/
def State.probationLeft (s : State) : Nat :=
  match s.store.probation with
  | some t => s.odGet 0x2A20 0x0B - t
  | none => 0

def State.liveImages (s : State) (sub : Nat) : Option Nat :=
  let t := s.store
  match sub with
  | 1 => some (b2n ((t.platIn .active).getD t.bootedB))
  | 2 => some t.platA.code
  | 3 => some t.platB.code
  | 4 => some t.imgA.text
  | 5 => some t.imgB.text
  | 6 => some (b2n ((t.runIn .current).getD t.loadedB))
  | 7 => some t.runA.code
  | 8 => some t.runB.code
  | 9 => some t.runImgA.text
  | 0x0A => some t.runImgB.text
  | 0x0C => some s.probationLeft
  | _ => none

/-! ### Partition windows (R546) -/

def State.liveWindow (s : State) (p off sub : Nat) : Option Nat :=
  let x := s.part p
  match off with
  | 0 =>
    match sub with
    | 1 => some x.state.code
    | 2 => some x.owner.toNat
    | 3 => some x.epoch
    | 4 => some (b2n x.debug)
    | 5 => some x.cores.toNat
    | 6 => some x.subs.toNat
    | 7 => some x.slices.toNat
    | 8 => some x.engines.toNat
    | 9 => some (x.d2d.length + at' 8 x.fabric.length + at' 16 x.parkSlots.length)
    | _ => none
  | 0x50 =>
    let c := (sub - 1) / 8
    some (if s.coreOwner c = some p then (s.ctr (16 * c + 8 + (sub - 1) % 8)).value.toNat else 0)
  | 0x51 =>
    let x := s.ctr (288 + (sub - 1))
    some (if x.assign = p then x.value.toNat else 0)
  | _ => none

/-! ### All of them -/

/-- The value of a live entry of fixed length, as a number. -/
def State.liveValue (s : State) (index sub : Nat) : Option Nat :=
  if 0x1130 ≤ index && index < 0x1140 then (s.rsess (index - 0x1130)).live sub
  else if 0x2010 ≤ index && index < 0x2018 then
    match sub with
    | 2 => some (milli (s.part (index - 0x2010)).estimateMw)
    | 4 => some (let c := (s.part (index - 0x2010)).capCeiling; if c < 1100 then c else 0)
    | _ => none
  else if 0x2110 ≤ index && index < 0x2122 then s.liveCore (index - 0x2110) sub
  else if 0x2160 ≤ index && index < 0x2170 then s.liveComp (index - 0x2160) sub
  else if 0x2210 ≤ index && index < 0x2254 then s.liveSub (index - 0x2210) sub
  else if 0x2510 ≤ index && index < 0x2516 then s.liveEngine (index - 0x2510) sub
  else if 0x2610 ≤ index && index < 0x2616 then s.livePort (index - 0x2610) sub
  else if 0x2710 ≤ index && index < 0x2720 then (s.bundle (index - 0x2710)).bind (fun x => x.live sub)
  else if 0x2740 ≤ index && index < 0x2748 then s.liveKind (index - 0x2740) sub
  else if 0x3000 ≤ index && index < 0x4000 then s.liveWindow ((index - 0x3000) / 0x200) ((index - 0x3000) % 0x200) sub
  else
    match index with
    | 0x1000 => s.liveIdentity sub
    | 0x1100 => if sub = 7 then some (s.ryc.sess.filter (fun x => decide (x.2.state = .opened))).length else none
    | 0x1180 => if sub = 1 then some s.ryc.logCount else none
    | 0x1200 => s.liveTime sub
    | 0x2000 => s.livePower sub
    | 0x2002 => if sub = 3 then some (f32Of s.pow.ballastW 1) else if sub = 4 then some (s.pow.ramp.getD 0) else none
    | 0x2003 =>
      if sub = 4 then some (if s.odGet 0x1100 0x0C ≠ 0 then 0 else (s.now - s.lastController) / second) else none
    | 0x2004 => s.liveReset sub
    | 0x2100 => s.liveCores sub
    | 0x2140 => s.liveFirmware index sub
    | 0x2150 => s.liveFirmware index sub
    | 0x2200 => s.liveMemory sub
    | 0x2201 => s.livePark sub
    | 0x2260 => s.liveKv sub
    | 0x2300 => s.liveQueues index sub
    | 0x2310 => s.liveQueues index sub
    | 0x2400 => s.liveServing sub
    | 0x2500 => if sub = 4 then some ((upto 6).map s.contextsOf).sum else none
    | 0x2600 => s.liveNet sub
    | 0x2700 => s.liveWear sub
    | 0x2701 => s.liveRecords sub
    | 0x2750 => if sub = 1 then some (mapOf 18 (fun n => (s.core n).wearMarked)) else none
    | 0x2800 => s.liveSec sub
    | 0x2900 => if sub = 0x0A then some (b2n s.ev.frozen) else none
    | 0x2910 => s.liveSource sub
    | 0x2920 => s.liveCounter sub
    | 0x2A00 => s.liveStore sub
    | 0x2A10 => s.liveStage sub
    | 0x2A20 => s.liveImages sub
    | 0x5000 => if sub = 5 then some s.sec.debugPoison.toNat else none
    | _ => none

/-- Entries whose value the spec leaves open, read by read: what no rule computes, or a device measures (log 6). -/
def openEntry (index sub : Nat) : Bool :=
  (index = 0x1000 && sub = 9) || (0x2110 ≤ index && index < 0x2122 && (sub = 5 || sub = 0x0F)) || (index = 0x2140 && sub = 4)
    || (index = 0x2000 && sub = 0x0B) || (0x2610 ≤ index && index < 0x2616 && (sub = 4 || sub = 5))
    || (0x2740 ≤ index && index < 0x2748 && sub = 1)

/-- The record that a record_select names, where it is held and `p` may read it (R508). -/
def State.recordNo (s : State) (no : Nat) (p : Option Nat) : Option FailRec :=
  s.rel.records.find? (fun r => decide (r.no = no) && (p = none || r.part = p))

/-- Bytes, or at most n free ones where nothing is selected (log 1). -/
def State.orFree (s : State) (n : Nat) (x : Option (List Byte)) : List Byte × State :=
  match x with
  | some bs => (bs, s)
  | none => s.freeUpTo n

/-- The block that a debug access reads, free where none is selected. -/
def State.debugBlock (s : State) : List Byte × State :=
  match s.readDebug with
  | (some bs, s) => (bs, s)
  | (none, s) => s.padFree 1024 []

/-- Entries of bytes whose length or content is not a stored number. -/
def State.liveLong (s : State) (index sub : Nat) : Option (List Byte × State) :=
  if 0x2740 ≤ index && index < 0x2748 then
    let k := index - 0x2740
    let us := upto (wearUnits k)
    match sub with
    | 4 => some (us.flatMap (fun u => leBytes 4 (f32Of (s.wearValue k u) 1000)), s)
    | 5 => some (s.padFree 272 (us.flatMap (fun u =>
        let x := s.wearSlope k u
        leBytes 4 (f32Of x.1 (1000 * x.2.toNat)))))
    | 6 => some (s.padFree 136 (us.flatMap (fun u => leBytes 2 (s.unitPeol k u))))
    | 7 => some ((groupsOf k).flatMap (fun g => leBytes 2 (s.groupPeol k g)), s)
    | _ => none
  else if 0x2710 ≤ index && index < 0x2720 && sub = 0x0A then
    some ((match s.bundle (index - 0x2710) with | some x => x.lastPages.flatMap (leBytes 32) | none => []), s)
  else if 0x3000 ≤ index && index < 0x4000 then
    let p := (index - 0x3000) / 0x200
    match (index - 0x3000) % 0x200, sub with
    | 0x20, 5 => some (leBytes 4 (f32Of (((s.emitted.filter (fun x => decide (s.now < x.1 + second) && decide (x.2.1 = p))).map
        (fun x => x.2.2)).sum : Nat) 1), s)
    | 0x60, 2 => some (s.orFree 2048 ((s.recordNo (s.odGet (wIx p 0x60) 1) (some p)).map s.cborRecord))
    | _, _ => none
  else if index = 0x1180 && sub = 3 then
    some (match s.logSelected with
      | some r => (logRecord r, s)
      | none => s.padFree 32 [])
  else if index = 0x2004 && sub = 8 then
    some (match s.rst.history.reverse[s.odGet 0x2004 7]? with
      | some h => (h.bytes, s)
      | none => s.padFree 32 [])
  else if index = 0x2004 && sub = 0x0F then
    some (s.orFree 4792384 ((s.rel.samples.find? (fun x => decide (x.no = s.odGet 0x2004 0x0E))).map Sample.image))
  else if index = 0x2701 && sub = 5 then some (s.orFree 2048 ((s.recordNo (s.odGet 0x2701 4) none).map s.cborRecord))
  else if index = 0x2A10 && sub = 0x0A then
    some (leBytes (ceilDiv s.chunksTotal 8) (mapOf s.chunksTotal (fun i => (s.store.chunks.find i).isNone)), s)
  else if index = 0x5000 && sub = 4 then some s.debugBlock
  else none

/-- The highest subindex that the records of an index define (R376). -/
def highestSub (index : Nat) : Nat :=
  (odTable.filter (fun r => decide (r.base ≤ odNorm index) && decide (odNorm index < r.base + r.count))).foldl
    (fun m r => Nat.max m r.subHi) 0

/-- busy_pct: the percentage of the last second, whose rounding the spec leaves open (log 103). -/
def State.busyPct (s : State) (e : Nat) : Nat × State :=
  let t := 100 * s.busyTime e
  let (up, s) := s.drawBool
  (t / second + b2n (up && decide (t % second ≠ 0)), s)

/-- The value of an entry (R376, R378). -/
def State.readEntry (s : State) (index sub : Nat) : List Byte × State :=
  if sub = 0 then (leBytes 1 (highestSub index), s)
  else
    let ty := (odFind index sub).map (·.ty) |>.getD (.u 1)
    match s.liveLong index sub with
    | some r => r
    | none =>
      if 0x2510 ≤ index && index < 0x2516 && sub = 4 then
        let (v, s) := s.busyPct (index - 0x2510)
        (leBytes 1 v, s)
      else if openEntry index sub then
        let (v, s) := s.drawNat
        let v := match ty with | .str n => v % 256 ^ n | _ => v
        (leBytes (ty.len v) v, s)
      else
        let v := (s.liveValue index sub).getD (s.odGet index sub)
        (leBytes (ty.len v) v, s)

end Sys2Proof.Machine
end

