-- ==== Sys2Proof/Machine/Dictionary.lean ====
section
/-!
DEFINITION. Access to the object dictionary (12 R377–R381, R396–R402): who may reach an entry, in which state, which
values are taken, and what an accepted write does.
-/
namespace Sys2Proof.Machine

open Sys2Proof

/-! ### Who asks (R381) -/

/-- The class of a session (1 operator, 2 service, 3 owner), and the partition or 0xFF and the slot of its credential. -/
structure Who where
  rights : Nat
  part : Nat
  slot : Nat
  deriving DecidableEq, Repr

def whoOf (rights credential : Nat) : Who := ⟨rights, credential / 256, credential % 256⟩

/-- The host's own writes of entries stand for an operator's. -/
def operator : Who := ⟨1, 255, 0⟩

def Who.isOwner (w : Who) : Bool := w.rights = 3

/-- The bit of a class in a row's rights. -/
def Who.bit (w : Who) : Nat := if w.rights = 1 then 0 else if w.rights = 2 then 1 else 2

/-- A record of credential slot 15, which only a service session changes (R401). -/
def slot15 (index : Nat) : Bool := index = 0x111F

/-- The class may perform the access. Subindex 0 is read by every class that reads some entry of the record. -/
def Who.may (w : Who) (write : Bool) (index sub : Nat) : Bool :=
  if sub = 0 then odTable.any (fun r => decide (r.base ≤ odNorm index) && decide (odNorm index < r.base + r.count) &&
    r.readers.testBit w.bit)
  else
    match odFind index sub with
    | some r =>
      if 0x1110 ≤ index && index < 0x1120 then
        if slot15 index then w.rights = 2 || (w.rights = 1 && !write) else decide (w.rights = 1)
      else (if write then r.writers else r.readers).testBit w.bit
    | none => false

/-- The access kind of an entry; subindex 0 is read only (R376). -/
def odAccess (index sub : Nat) : OdAccess :=
  match odFind index sub with
  | some r => if sub = 0 then .ro else r.access
  | none => .ro

/-- The entry is defined. -/
def odDefined (index sub : Nat) : Bool := odHasIndex index && (sub = 0 || (odFind index sub).isSome)

/-- An owner reaches a counter: a user counter of its cores, or a die counter assigned to it (R469). -/
def State.ownsCounter (s : State) (p k : Nat) : Bool :=
  if k < 288 then decide (8 ≤ k % 16) && decide (s.coreOwner (k / 16) = some p) else decide ((s.ctr k).assign = p)

/-- The entry concerns the module as a whole, or resources of partition p. `sel` is the counter it would select. -/
def State.concerns (s : State) (p index sub : Nat) (sel : Option Nat) : Bool :=
  if 0x2010 ≤ index && index < 0x2018 then decide (index - 0x2010 = p)
  else if 0x2110 ≤ index && index < 0x2122 then decide (s.coreOwner (index - 0x2110) = some p)
  else if 0x2210 ≤ index && index < 0x2254 then decide (s.subOwner (index - 0x2210) = some p)
  else if 0x2620 ≤ index && index < 0x2628 then decide (index - 0x2620 = p)
  else if 0x2710 ≤ index && index < 0x2720 then decide ((s.bundle (index - 0x2710)).map (fun b => b.part.toNat) = some p)
  else if index = 0x2920 then
    if sub = 1 then (match sel with | some k => s.ownsCounter p k | none => true) else s.ownsCounter p (s.odGet 0x2920 1)
  else !(0x3000 ≤ index && index < 0x4000)

/-- NO_INDEX, NO_SUBINDEX and RIGHTS, in the order that R381 gives an owner outside its window. -/
def State.rightsCode (s : State) (w : Who) (write : Bool) (index sub : Nat) (sel : Option Nat) : Nat :=
  if w.isOwner && !inWindow w.part index then
    if odDefined index sub && w.may write index sub && s.concerns w.part index sub sel then 0 else 0x0201
  else if !odHasIndex index then 0x0101
  else if !odDefined index sub then 0x0102
  else if w.may write index sub then 0 else 0x0201

/-! ### The module state (R13, R369, R590, R613) -/

/-- od_server has taken over from the kernel's responder (R369 step 6). -/
def State.serverUp (s : State) : Bool :=
  match s.mode with
  | .ready | .serving | .draining => true
  | .awaitRuntime => (s.comp 0 2).state = .running && (s.comp 1 2).state = .running
  | _ => false

/-- Entries that the kernel's responder answers (R369). -/
def kernelServes (index : Nat) : Bool :=
  (0x1000 ≤ index && index < 0x1300) || [0x2000, 0x2150, 0x2A00, 0x2A10, 0x2A20].contains index

/-- The entry is served in the present module state. -/
def State.served (s : State) (index sub : Nat) : Bool :=
  match s.mode with
  | .recovery => (0x1000 ≤ index && index < 0x1300) || (index = 0x2000 && sub = 1) || index = 0x2004
      || (0x2A00 ≤ index && index < 0x2B00)
  | .outOfService => kernelServes index || index = 0x2004 || (0x2700 ≤ index && index < 0x2800)
  | .refused => kernelServes index
  | .awaitRuntime => s.serverUp || kernelServes index
  | .ready | .serving | .draining => true
  | _ => false

/-- States of the entry itself: debug closed (R548), staging under way (R607, R608, R619), a counter that counts (R474),
a state code that is not reachable (R551), and actions of one state (R591, R614). -/
def State.entryState (s : State) (write : Bool) (index sub : Nat) (v : Option Nat) : Bool :=
  match index with
  | 0x5000 => sub < 3 || s.debugReady
  | 0x2A10 =>
    !write || (if 1 ≤ sub && sub ≤ 3 then decide (s.stageState = 0)
      else if sub = 4 then (v ≠ some 1 || decide (s.stageState = 0)) && (v ≠ some 3 || s.armOk)
      else if sub = 6 then decide (s.stageState = 1) else true)
  | 0x2920 => !write || sub ≠ 4 || !ctEnable (s.ctr (s.odGet 0x2920 1)).control.toNat || s.ev.frozen
  | 0x2000 => !write || sub ≠ 2 || (match v with | some c => (s.stateRequest c).1 | none => true)
  | 0x2004 => !write || sub ≠ 0x0B || decide (s.mode = .outOfService)
  | 0x2A20 => !write || sub ≠ 0x0F || decide (s.mode = .recovery)
  | _ => true

/-! ### Values (R378, R379) -/

/-- Well-formed UTF-8 without a zero byte: `need` continuation bytes are due, the next between `lo` and `hi`. -/
def utf8Ok : List Byte → Nat → Nat → Nat → Bool
  | [], need, _, _ => need = 0
  | b :: bs, need, lo, hi =>
    let c := b.toNat
    if 0 < need then lo ≤ c && c ≤ hi && utf8Ok bs (need - 1) 0x80 0xBF
    else if c = 0 then false
    else if c < 0x80 then utf8Ok bs 0 0x80 0xBF
    else if c < 0xC2 then false
    else if c < 0xE0 then utf8Ok bs 1 0x80 0xBF
    else if c < 0xF0 then utf8Ok bs 2 (if c = 0xE0 then 0xA0 else 0x80) (if c = 0xED then 0x9F else 0xBF)
    else if c < 0xF5 then utf8Ok bs 3 (if c = 0xF0 then 0x90 else 0x80) (if c = 0xF4 then 0x8F else 0xBF)
    else false

/-- LENGTH. A chunk has at least 5 bytes (R619). -/
def OdTy.lengthOk (t : OdTy) (n : Nat) : Bool :=
  match t with
  | .str m => n ≤ m
  | .oct m true => n ≤ m && (m ≠ 65540 || 5 ≤ n)
  | t => n = t.len 0

/-- ENCODING. The one writable set of flags is the wake mask, whose bits outside 2–11 are reserved (R474). -/
def OdTy.encodingOk (r : OdRow) (bs : List Byte) : Bool :=
  let v := leNat bs
  match r.ty with
  | .bool => v ≤ 1
  | .f32 => fld v 23 8 ≠ 255
  | .enum => (match r.range with | some (lo, hi) => lo ≤ v && v ≤ hi | none => true)
  | .bits => fld v 0 2 = 0 && fld v 12 20 = 0
  | .str _ => utf8Ok bs 0 0x80 0xBF
  | _ => true

/-- Values of a cmd entry. -/
def cmdRange (index sub : Nat) : Nat × Nat :=
  if 0x2110 ≤ index && index < 0x2122 then (if sub = 0x12 then (0, 127) else (1, 1))
  else if 0x2710 ≤ index && index < 0x2720 then (if sub = 0x0C then (1, 2) else (1, 1))
  else
    match index, sub with
    | 0x2000, 2 => (0, 255)
    | 0x2201, 0x0C => (0, 2 ^ 64 - 1)
    | 0x2201, 0x0D => (0x5A, 0x5A)
    | 0x2310, 5 => (1, 6)
    | 0x2600, 0x0A => (0, 2)
    | 0x2900, 9 => (1, 2)
    | 0x2900, 0x0B => (1, 2)
    | 0x2A10, 4 => (1, 3)
    | 0x5000, 2 => (1, 2)
    | _, _ => (1, 1)

/-- A slot that may hold a rank: none, or an operator slot (R400). -/
def State.rankSlotOk (s : State) (v : Nat) : Bool := v = 255 || (v < 16 && decide (s.odGet (0x1110 + v) 1 = 1))

/-- The regions of the park store hold what they use (R219). -/
def State.regionsFit (s : State) (kv conv : Nat) : Bool :=
  decide (s.park.used 1 ≤ kv * 1000000000) && decide (s.park.used 2 ≤ conv * 1000000000)
    && decide (s.park.used 3 ≤ (7584 - kv - conv) * 1000000000)

/-- RANGE where an entry's range depends on the state, or is no single interval. -/
def State.rangeOk (s : State) (index sub v : Nat) : Bool :=
  if 0x1110 ≤ index && index < 0x1120 then
    sub ≠ 1 || v = 1 || (decide (s.odGet 0x1100 4 ≠ index - 0x1110) && decide (s.odGet 0x1100 5 ≠ index - 0x1110))
  else if 0x2010 ≤ index && index < 0x2018 then v = 0 || (40 ≤ v && v ≤ 650)
  else if 0x2620 ≤ index && index < 0x2628 then
    if sub = 4 then v + s.odGet index 5 ≤ 65536 else if sub = 5 then s.odGet index 4 + v ≤ 65536 else true
  else if 0x3000 ≤ index && index < 0x4000 then
    let p := (index - 0x3000) / 0x200
    if (index - 0x3000) % 0x200 = 0x60 && sub = 1 then (s.recordNo v (some p)).isSome else true
  else
    match index, sub with
    | 0x1100, 4 => s.rankSlotOk v
    | 0x1100, 5 => s.rankSlotOk v
    | 0x1180, 2 => v < s.ryc.logCount && s.ryc.logCount ≤ v + 4096
    | 0x2001, 1 => 0x3DCCCCCD ≤ v && v ≤ 0x40A00000
    | 0x2002, 1 => v = 0 || v + 50 ≤ s.odGet 0x2001 5
    | 0x2002, 2 => v ≤ 650
    | 0x2004, 7 => v < s.rst.history.length
    | 0x2004, 0x0E => s.rel.samples.any (fun x => decide (x.no = v))
    | 0x2100, 6 => v % 4096 = 0 && v ≤ 0xBFF000
    | 0x2201, 2 => v + s.odGet 0x2201 3 ≤ 7584 && s.regionsFit v (s.odGet 0x2201 3)
    | 0x2201, 3 => v + s.odGet 0x2201 2 ≤ 7584 && s.regionsFit (s.odGet 0x2201 2) v
    | 0x2701, 4 => (s.recordNo v none).isSome
    | 0x2900, 4 => bitOf v 3 && bitOf v 4 && bitOf v 5 && bitOf v 9
    | 0x2910, 1 => v < 2048
    | 0x2920, 2 => s.counterOk (s.odGet 0x2920 1) v
    | 0x2920, 4 => v < 2 ^ 48
    | 0x2920, 5 =>
      let k := s.odGet 0x2920 1
      let c := (s.ctr k).control.toNat
      v = 255 || (288 ≤ k && v < 8 && ctFilterEn c && ctFilter c = v)
    | 0x2A10, 3 => 4096 ≤ v && v ≤ (if s.stageKind = 1 then 268435456 else 1073741824)
    | 0x2A10, 4 => v ≠ 1 || s.stageSizeOk
    | 0x5000, 1 => v < 8 || v = 0x80 || v = 255
    | 0x5000, 3 => v % 64 = 0
    | _, _ => true

/-- The interval that the entry's row states. -/
def OdRow.inRange (r : OdRow) (v : Nat) : Bool :=
  match r.range, r.ty with
  | none, _ => true
  | some _, .enum => true
  | some (lo, hi), _ => lo ≤ v && v ≤ hi

/-- Two ranges of channels share a number. -/
def channelsMeet (b c b' c' : Nat) : Bool := decide (0 < c) && decide (0 < c') && decide (b < b' + c') && decide (b' < b + c)

/-- UNIQUE (R400, R401, R438, R546): the rank slots, every credential's key, the partitions' addresses and channels. -/
def State.uniqueOk (s : State) (index sub v : Nat) : Bool :=
  let keyFree (self : Nat) : Bool :=
    v = 0 || ((upto 16).all (fun i => 0x1110 + i = self || s.odGet (0x1110 + i) 2 ≠ v)
      && (upto 32).all (fun i => wIx (i / 4) (0x10 + i % 4) = self || s.odGet (wIx (i / 4) (0x10 + i % 4)) 1 ≠ v))
  if 0x1110 ≤ index && index < 0x1120 then sub ≠ 2 || keyFree index
  else if 0x3000 ≤ index && index < 0x4000 then
    let off := (index - 0x3000) % 0x200
    !(0x10 ≤ off && off < 0x14 && sub = 1) || keyFree index
  else if 0x2620 ≤ index && index < 0x2628 then
    let others := (upto 8).filter (fun p => decide (0x2620 + p ≠ index))
    if sub ≤ 3 then v = 0 || others.all (fun p => [1, 2, 3].all (fun k => s.odGet (0x2620 + p) k ≠ v))
    else
      let (b, c) := if sub = 4 then (v, s.odGet index 5) else (s.odGet index 4, v)
      others.all (fun p => !channelsMeet b c (s.odGet (0x2620 + p) 4) (s.odGet (0x2620 + p) 5))
  else
    match index, sub with
    | 0x1100, 4 => v = 255 || s.odGet 0x1100 5 ≠ v
    | 0x1100, 5 => v = 255 || s.odGet 0x1100 4 ≠ v
    | _, _ => true

/-- LENGTH, ENCODING, RANGE, UNIQUE and COMMAND_BUSY of a whole value (R396). -/
def State.valueCode (s : State) (r : OdRow) (index sub : Nat) (bs : List Byte) : Nat :=
  let v := leNat bs
  if !r.ty.lengthOk bs.length then 0x0301
  else if !OdTy.encodingOk r bs then 0x0303
  else if index = 0x2A10 && sub = 6 then (s.chunkWrite bs).1
  else if !r.inRange v || !s.rangeOk index sub v
      || (r.access = .cmd && !((cmdRange index sub).1 ≤ v && v ≤ (cmdRange index sub).2)) then 0x0302
  else if !s.uniqueOk index sub v then 0x0304
  else if r.access = .cmd && s.odGet index sub = 1 && s.ryc.lastCmd.find (odKey index sub) ≠ some v then 0x0402
  else 0

/-- The counter that a write of counter_select would select. -/
def selected (index sub : Nat) (bs : List Byte) : Option Nat :=
  if index = 0x2920 && sub = 1 then some (leNat bs) else none

/-- A component is restarting on the die of the port (R359): od_server, which serves every entry. -/
def State.serverRestarting (s : State) (port : Nat) : Bool := s.serverUp && (s.comp port 2).state = .restarting

/-- Everything of R396 from NO_INDEX to RESTARTING for an access; `bs` is the value of a write where it is known. -/
def State.accessCode (s : State) (w : Who) (write : Bool) (index sub port : Nat) (bs : Option (List Byte)) : Nat :=
  let c := s.rightsCode w write index sub (bs.bind (selected index sub))
  if c ≠ 0 then c
  else
    let access := odAccess index sub
    if write && (access = .ro || (index = 0x2920 && sub = 5 && s.odGet 0x2920 1 < 288)) then 0x0202
    else if !write && access = .wo then 0x0203
    else if !s.served index sub || !s.entryState write index sub (bs.map leNat) then 0x0401
    else if s.serverRestarting port then 0x0902
    else 0

/-- The whole check of a write with its value. -/
def State.writeCode (s : State) (w : Who) (index sub port : Nat) (bs : List Byte) : Nat :=
  let c := s.accessCode w true index sub port (some bs)
  if c ≠ 0 then c
  else
    match odFind index sub with
    | some r => s.valueCode r index sub bs
    | none => 0x0102

/-! ### What an accepted write does -/

/-- Close every session that was opened with a credential (R401). -/
def State.closeCredential (s : State) (credential : Nat) : State :=
  (upto 16).foldl (fun s j =>
    let x := s.rsess j
    if x.state ≠ .free && x.credential.toNat = credential then s.closeSession j else s) s

/-- A value that is committed before it stands (R380, R391): a commit that fails leaves it as it was. -/
def State.commitEntry (s : State) (index sub v : Nat) (ok : Bool) : Nat × State :=
  match s.psCommit [1] ok with
  | (true, s) =>
    let s := s.odSet index sub v
    let s := if 0x1110 ≤ index && index < 0x1120 then s.closeCredential (0xFF00 + (index - 0x1110))
      else if 0x3000 ≤ index && index < 0x4000 && 0x10 ≤ (index - 0x3000) % 0x200 && (index - 0x3000) % 0x200 < 0x14 then
        s.closeCredential (256 * ((index - 0x3000) / 0x200) + ((index - 0x3000) % 0x200 - 0x10))
      else s
    (0, s)
  | (false, s) => (0x0601, s)

/-- A volatile value. -/
def State.setEntryValue (s : State) (index sub : Nat) (bs : List Byte) : State :=
  let v := leNat bs
  let k := s.odGet 0x2920 1
  match index, sub with
  | 0x2920, 2 => s.writeCounter k v
  | 0x2920, 3 => s.putCtr k { s.ctr k with threshold := BitVec.ofNat 48 v }
  | 0x2920, 4 => s.putCtr k { s.ctr k with value := BitVec.ofNat 48 v }
  | 0x2920, 5 => s.putCtr k { s.ctr k with assign := v }
  | _, _ => s.odSet index sub v

/-- The close of session record j (R402). -/
def State.closeByEntry (s : State) (j : Nat) : State :=
  if (s.rsess j).state = .free then s.odSet (0x1130 + j) 8 3 else (s.closeSession j).odSet (0x1130 + j) 8 2

/-- A control command of R170 by its code. -/
def State.controlCode (s : State) (q v : Nat) : Nat × State :=
  match v with
  | 1 => s.enableQueue q
  | 2 => s.pauseQueue q
  | 3 => s.resumeQueue q
  | 4 => s.restartQueue q none
  | 5 => s.flush q
  | _ => s.disableQueue q

/-- A control command of R170 on the selected queue: PAUSE, FLUSH and DISABLE run until its descriptors have completed. -/
def State.queueControl (s : State) (v : Nat) : State :=
  let q := s.odGet 0x2310 1
  let (c, s) := s.controlCode q v
  if c ≠ 0 then s.odSet 0x2310 5 3
  else if (v = 2 || v = 5 || v = 6) && (s.queue q).atWork then
    (s.updQueue q (fun x => { x with watched := true })).odSet 0x2310 5 1
  else s.odSet 0x2310 5 2

/-- The self-test that an entry or CORE_CONTROL orders (R140). -/
def State.selfTestByEntry (s : State) (n : Nat) : State :=
  if (s.core n).role = .inService then (s.odSet (0x2110 + n) 0x11 1).orderTest n else s.odSet (0x2110 + n) 0x11 3

/-- An action of a core's record. -/
def State.coreAct (s : State) (n sub v : Nat) : State :=
  match sub with
  | 0x10 => if s.coreResetOk n then s.startCoreReset n 0x0C else s.odSet (0x2110 + n) 0x10 3
  | 0x11 => s.selfTestByEntry n
  | _ => s.injectResidue n v

/-- The action of a cmd entry of a record that stands alone. -/
def State.actSingle (s : State) (index sub v : Nat) (r : StartReport) : State :=
  if index = 0x2000 && sub = 2 then s.stateCommand v .entry
  else if index = 0x2004 && sub = 9 then s.modReset r
  else if index = 0x2004 && sub = 0x0A then s.warmReset 4 r
  else if index = 0x2004 && sub = 0x0B then s.returnToService r
  else if index = 0x2150 && sub = 0x0B then s.reloadRuntime r.runtime
  else if index = 0x2201 && sub = 0x0C then s.eraseObject v
  else if index = 0x2201 && sub = 0x0D then s.eraseAll v
  else if index = 0x2310 && sub = 5 then s.queueControl v
  else if index = 0x2600 && sub = 0x0A then s.switchOver v
  else if index = 0x2750 && sub = 3 then s.odSet 0x2750 3 (if s.swapOk (s.odGet 0x2750 2) then 1 else 3)
  else if index = 0x2750 && sub = 6 then s.odSet 0x2750 6 1
  else if index = 0x2900 && sub = 9 then (if v = 1 then s.orderFreeze else s.resumeCounters 9)
  else if index = 0x2900 && sub = 0x0B then (if v = 1 then s.takeSnapshot else s.snapshotResume)
  else if index = 0x2910 && sub = 5 then s.injectSource
  else if index = 0x2A10 && sub = 4 then (if v = 1 then s.stageOpen.2 else if v = 2 then s.stageDiscard else (s.stageArm r).2)
  else if index = 0x2A20 && sub = 0x0F then (s.usePrevious r).2
  else if index = 0x5000 && sub = 2 then (if v = 1 then s.openDebug else s.closeDebug)
  else s

/-- The action that a cmd write starts. A swap, a requalification and a diagnosis start here; the commands CORE_SWAP,
REQUALIFY and RUN_DIAGNOSTICS bring what the devices found and end them. -/
def State.act (s : State) (index sub v : Nat) (r : StartReport) : State :=
  if 0x1130 ≤ index && index < 0x1140 then s.closeByEntry (index - 0x1130)
  else if 0x2110 ≤ index && index < 0x2122 then s.coreAct (index - 0x2110) sub v
  else if 0x2210 ≤ index && index < 0x2254 then
    let n := index - 0x2210
    s.retireEntry n
  else if 0x2510 ≤ index && index < 0x2516 then s.orderRestart (index - 0x2510)
  else if 0x2610 ≤ index && index < 0x2616 then
    let p := index - 0x2610
    if sub = 0x0F then
      s.odSet index 0x0F (if 2 ≤ p && ((s.port p).role = .standby || (s.port p).role = .down) then 1 else 3)
    else s.portReturn p
  else if 0x2710 ≤ index && index < 0x2720 then
    if sub = 0x0B then s.passStart (index - 0x2710) true else s.reportReplica (index - 0x2710) v
  else if 0x3000 ≤ index && index < 0x4000 then
    let p := (index - 0x3000) / 0x200
    if s.rst.due.isSome then s
    else if (s.part p).state = .free then s.odSet index 0x0D 3
    else (s.startScrub p false).odSet index 0x0D 1
  else s.actSingle index sub v r

/-- Apply a write that passed its checks: STORE_FAILED or 0, and the state. `running` says whether the same value of a
cmd entry is running or has started in the same window: nothing starts twice (R380, R393). -/
def State.applyWrite (s : State) (index sub : Nat) (bs : List Byte) (running ok : Bool) (r : StartReport) : Nat × State :=
  let v := leNat bs
  match odAccess index sub with
  | .rwp => s.commitEntry index sub v ok
  | .rw => if index = 0x5000 && sub = 4 then (if (s.writeDebug bs).1 then (0, (s.writeDebug bs).2) else (0x0302, s))
      else (0, s.setEntryValue index sub bs)
  | .wo => s.chunkWrite bs
  | .cmd =>
    if running then (0, s)
    else (0, (s.setRyc { s.ryc with lastCmd := s.ryc.lastCmd.put (odKey index sub) v }).act index sub v r)
  | .ro => (0, s)

/-- A write that does not come through a command window: the checks and the effect at once. -/
def State.writeNow (s : State) (w : Who) (index sub : Nat) (bs : List Byte) (ok : Bool) : State :=
  if s.writeCode w index sub 0 bs = 0 then (s.applyWrite index sub bs false ok {}).2 else s

end Sys2Proof.Machine
end

