-- ==== Sys2Proof/Machine/Rycia.lean ====
section
/-!
DEFINITION. The Rycia protocol (12 R385–R403): the handshake, requests, block writes, the command window; and the
management writes that have no row of their own.
-/
namespace Sys2Proof.Machine

open Sys2Proof

/-! ### The handshake (R385–R387) -/

/-- Sessions that may exist at once (R388, R613). -/
def State.sessionLimit (s : State) : Nat := if s.mode = .recovery then 2 else 16

/-- The module state allows sessions (R397). -/
def State.sessionsAllowed (s : State) : Bool :=
  match s.mode with
  | .awaitRuntime | .ready | .serving | .draining | .recovery | .refused | .outOfService => s.sec.lowerTree
  | _ => false

/-- A credential that HELLO may name: a module slot, or an owner slot with a key (R386, R547). -/
def State.credentialKnown (s : State) (c : Nat) : Bool :=
  (c / 256 = 0xFF && c % 256 < 16) || (c / 256 < 8 && c % 256 < 4 && s.odGet (wIx (c / 256) (0x10 + c % 256)) 1 ≠ 0)

/-- The rights class of a credential (R381, R401). -/
def State.credentialRights (s : State) (c : Nat) : Nat :=
  if c / 256 = 0xFF then s.odGet (0x1110 + c % 256) 1 else 3

def State.busy (s : State) (port : BitVec 1) (nonce : List Byte) (reason : Nat) : State :=
  s.emit (.rycia port 0x05 0 0 (nonce ++ leBytes 1 reason))

/-- An identifier that no session has: the free number drawn, or the next one that is unused (log 1). -/
def State.newId (s : State) : Nat × State :=
  let (v, s) := s.drawNat
  let used := s.ryc.sess.map (fun x => x.2.id.toNat)
  let pick := ((upto 18).map (fun i => (v + i) % 2 ^ 32)).find? (fun i => i ≠ 0 && !used.contains i)
  (pick.getD 1, s)

/-- Steps 1 and 2: KEY, or BUSY. In BOOT and TRAIN no session frame is answered (R397). -/
def State.ryciaHello (s : State) (f : RFrame) (storeOk : Bool) : State :=
  match s.takeClear f 0x01 0 with
  | (false, s) => s
  | (true, s) =>
    let nonce := f.body.take 32
    let c := leNat ((f.body.drop 32).take 2)
    if f.body.length ≠ 36 || leNat (f.body.drop 34) ≠ 0 || !s.credentialKnown c then s.ryciaDrop false
    else if s.mode = .boot || s.mode = .train then s
    else if !s.sessionsAllowed || (c / 256 ≠ 0xFF && (s.part (c / 256)).state ≠ .active) then s.busy f.port nonce 2
    else
      let free := (upto 16).filter (fun j => decide ((s.rsess j).state = .free))
      if s.sessionLimit ≤ 16 - free.length then s.busy f.port nonce 1
      else
        match s.takeLeaf storeOk with
        | (none, s) => s.busy f.port nonce 1
        | (some leaf, s) =>
          let (pick, s) := s.drawNat
          let j := free.getD (pick % free.length) 0
          let (id, s) := s.newId
          let (gen, s) := s.drawKey
          let (rnd, s) := s.drawNat
          let ek := (upto 1184).map (Config.kemPublic gen)
          let rn := leBytes 32 rnd
          let th1 := Config.sha256 (f.body ++ leBytes 4 id ++ rn ++ ek)
          let key := rn ++ ek ++ signature (leBytes 32 th1.toNat) leaf
          let x : RSess := {
            state := .handshake, id := BitVec.ofNat 32 id, credential := BitVec.ofNat 16 c, rights := s.credentialRights c
            rxSeen := [0], peer := f.src, port := f.port, udp := f.udpPort, framesIn := 1, framesOut := 4
            lastValid := s.now, stepAt := s.now, th1 := th1.toNat, keys := gen }
          (s.putRsess j x).emit (.rycia f.port 0x02 id 0 key)

/-- Steps 3 and 4: the session opens with READY; what is not authentic, or of an empty slot, ends the attempt. -/
def State.finishSession (s : State) (f : RFrame) : State :=
  if !s.ryciaUp || (rfType f ≠ 0x03 && fromController (rfType f)) then s
  else
    match s.sessionOf (rfSession f) with
    | none => s.ryciaDrop false
    | some j =>
      let x := s.rsess j
      if !s.rfForm f x.udp.toNat || x.state ≠ .handshake || f.body.length ≠ 4372 then s.ryciaDrop false
      else if x.stepAt + second < s.now then (s.ryciaDrop false).freeSession j
      else if !f.authentic || x.rights = 0 || s.asleep then (s.ryciaDrop true).freeSession j
      else
        let ct := f.body.take 1088
        let th2 := Config.sha256 (leBytes 32 x.th1 ++ ct)
        let keys := Config.hkdf (Config.kemShared x.keys ct) th2 (leNat (ascii "rycia keys v1"))
        let s := s.putRsess j { x with state := .opened, keys := keys, stepAt := s.now, framesOut := x.framesOut + 1 }
        (s.emit (.rycia f.port 0x04 x.id.toNat 0 [])).noteValid j f 4

/-- A handshake step has not arrived within 1 s. -/
def State.handshakeExpiry (s : State) (j : Nat) : State :=
  let x := s.rsess j
  if x.state = .handshake && x.stepAt + second ≤ s.now then s.freeSession j else s

/-- No valid frame for the idle limit (R388); idle time does not count while suspended. -/
def State.idleExpiry (s : State) (j : Nat) : State :=
  let x := s.rsess j
  if x.state = .opened && x.lastValid + second * s.odGet 0x1100 8 ≤ s.now then s.closeSession j else s

/-! ### Requests (R389–R391, R396) -/

/-- Operations of R390. -/
def opKnown (op : Nat) : Bool := 1 ≤ op && op ≤ 6

/-- OPERATION: the fields of a request that its operation fixes. -/
def requestForm (f : RFrame) : Bool :=
  let m := msg f
  let data := if msOp m = 2 || msOp m = 4 then msLength m else 0
  opKnown (msOp m) && msFlags m = 0 && msZero m && (msOp m ≠ 2 || msOffset m = 0) && msLength m ≤ 1024
    && f.body.length = 24 + data

/-- Requests of a session that wait for an answer (R391). -/
def State.outstanding (s : State) (j : Nat) : Nat :=
  (s.ryc.window.filter (fun w => decide (w.sess = j))).length + (s.ryc.reads.filter (fun r => decide (r.sess = j))).length

/-- Answer a request with an abort code and no data. -/
def State.answerCodeTo (s : State) (f : RFrame) (j : Nat) (abort : Nat) : State :=
  let m := msg f
  s.respond j (s.rsess j).id.toNat f.port (response (msRequest m) (msOp m) (msIndex m) (msSub m) abort 0 0 [])

/-- The held write that a request would become. -/
def State.heldOf (s : State) (f : RFrame) (j : Nat) (value : List Byte) : HeldWrite :=
  let m := msg f
  let x := s.rsess j
  { sess := j, id := x.id.toNat, credential := x.credential.toNat, rights := x.rights, request := msRequest m, op := msOp m
    index := msIndex m, sub := msSub m, value := value, counter := rfCounter f, at_ := s.now, port := f.port }

/-- A write answered with a failure at once is logged as well (R403). -/
def State.refuseWrite (s : State) (f : RFrame) (j : Nat) (value : List Byte) (abort : Nat) : State :=
  (s.logWrite (s.heldOf f j value) abort).answerCodeTo f j abort

/-- Take a REQUEST of operation `op`: the session, when it passes OUTSTANDING and OPERATION. A request of another operation
is another command's; one whose operation R390 does not list is answered by whichever takes it. -/
def State.takeRequest (s : State) (f : RFrame) (op : Nat) : Option Nat × State :=
  let m := msg f
  if rfType f = 0x10 && 24 ≤ f.body.length && opKnown (msOp m) && msOp m ≠ op then (none, s)
  else
    match s.takeFrame f 0x10 with
    | (none, s) => (none, s)
    | (some j, s) =>
      let s := s.active
      if f.body.length < 24 then (none, s.ryciaDrop false)
      else
        let c := if 32 ≤ s.outstanding j then 0x0403 else if requestForm f then 0 else 0x0504
        if c = 0 then (some j, s)
        else if msOp m = 2 || msOp m = 5 then (none, s.refuseWrite f j (f.body.drop 24) c)
        else (none, s.answerCodeTo f j c)

/-- The check of a request's entry, for the session that sends it. -/
def State.requestCode (s : State) (f : RFrame) (j : Nat) (write : Bool) : Nat :=
  let x := s.rsess j
  let m := msg f
  s.accessCode (whoOf x.rights x.credential.toNat) write (msIndex m) (msSub m) f.port.toNat none

/-- Answer a READ: from the snapshot at a higher offset within 10 s, otherwise from the value; a value of more than 1,024
bytes read at offset 0 becomes the snapshot (R390). -/
def State.answerRead (s : State) (r : HeldRead) : State :=
  let x := s.rsess r.sess
  if x.state ≠ .opened || x.id.toNat ≠ r.id then s
  else
    let kept := x.snaps.find? (fun p => decide (p.index = r.index) && decide (p.sub = r.sub) && decide (s.now ≤ p.at_ + 10 * second))
    let (value, s) : List Byte × State := match kept, r.offset with
      | some p, _ + 1 => (p.value, s)
      | _, _ => s.readEntry r.index r.sub
    let others := x.snaps.filter (fun p => decide (p.index ≠ r.index) || decide (p.sub ≠ r.sub))
    let s := if r.offset = 0 && 1024 < value.length then
        s.putRsess r.sess { s.rsess r.sess with snaps := ⟨r.index, r.sub, value, s.now⟩ :: others }
      else s
    s.respond r.sess r.id r.port (response r.request 1 r.index r.sub 0 r.offset value.length
      ((value.drop r.offset).take r.want))

def State.readRequest (s : State) (f : RFrame) : State :=
  match s.takeRequest f 1 with
  | (none, s) => s
  | (some j, s) =>
    let m := msg f
    let c := s.requestCode f j false
    let r : HeldRead := { sess := j, id := (s.rsess j).id.toNat, request := msRequest m, index := msIndex m, sub := msSub m
                          offset := msOffset m, want := msLength m, port := f.port }
    if c ≠ 0 then s.answerCodeTo f j c
    else if s.ryc.window.any (fun w => decide (w.sess = j) && decide (w.index = r.index)) then
      s.setRyc { s.ryc with reads := s.ryc.reads ++ [r] }
    else s.answerRead r

/-- A whole value for an entry: refused, or held for its window. -/
def State.holdWrite (s : State) (f : RFrame) (j : Nat) (value : List Byte) : State :=
  let w := s.heldOf f j value
  let c := s.writeCode (whoOf w.rights w.credential) w.index w.sub f.port.toNat value
  if c ≠ 0 then s.refuseWrite f j value c else s.setRyc { s.ryc with window := s.ryc.window ++ [w] }

def State.writeRequest (s : State) (f : RFrame) : State :=
  match s.takeRequest f 2 with
  | (none, s) => s
  | (some j, s) => s.holdWrite f j (f.body.drop 24)

/-! ### Block writes (R390) -/

/-- The block write of a session on an entry, and the others. -/
def RSess.block (x : RSess) (index sub : Nat) : Option BlockWrite :=
  x.blocks.find? (fun b => decide (b.index = index) && decide (b.sub = sub))
def RSess.otherBlocks (x : RSess) (index sub : Nat) : List BlockWrite :=
  x.blocks.filter (fun b => decide (b.index ≠ index) || decide (b.sub ≠ sub))

/-- More than 10 s have passed since the last segment. -/
def BlockWrite.late (b : BlockWrite) (now : Nat) : Bool := b.expired || decide (b.at_ + 10 * second < now)

def State.putBlocks (s : State) (j : Nat) (bs : List BlockWrite) : State := s.putRsess j { s.rsess j with blocks := bs }

def State.blockBegin (s : State) (f : RFrame) : State :=
  match s.takeRequest f 3 with
  | (none, s) => s
  | (some j, s) =>
    let m := msg f
    let x := s.rsess j
    let c := s.requestCode f j true
    let open_ := match x.block (msIndex m) (msSub m) with | some b => !b.late s.now | none => false
    let largest := match odFind (msIndex m) (msSub m) with | some r => r.ty.largest | none => 0
    if c ≠ 0 then s.answerCodeTo f j c
    else if open_ then s.answerCodeTo f j 0x0501
    else if 16777216 < msTotal m || largest < msTotal m then s.answerCodeTo f j 0x0503
    else
      let b : BlockWrite := { index := msIndex m, sub := msSub m, total := msTotal m, data := [], at_ := s.now }
      (s.putBlocks j (b :: x.otherBlocks (msIndex m) (msSub m))).answerCodeTo f j 0

def State.blockSegment (s : State) (f : RFrame) : State :=
  match s.takeRequest f 4 with
  | (none, s) => s
  | (some j, s) =>
    let m := msg f
    let x := s.rsess j
    let c := s.requestCode f j true
    let rest := x.otherBlocks (msIndex m) (msSub m)
    if c ≠ 0 then s.answerCodeTo f j c
    else
      match x.block (msIndex m) (msSub m) with
      | none => s.answerCodeTo f j 0x0501
      | some b =>
        if b.late s.now then (s.putBlocks j rest).answerCodeTo f j 0x0502
        else if msOffset m ≠ b.data.length then s.answerCodeTo f j 0x0501
        else if b.total < b.data.length + msLength m then s.answerCodeTo f j 0x0503
        else (s.putBlocks j ({ b with data := b.data ++ f.body.drop 24, at_ := s.now } :: rest)).answerCodeTo f j 0

def State.blockCommit (s : State) (f : RFrame) : State :=
  match s.takeRequest f 5 with
  | (none, s) => s
  | (some j, s) =>
    let m := msg f
    let x := s.rsess j
    let c := s.requestCode f j true
    let rest := x.otherBlocks (msIndex m) (msSub m)
    if c ≠ 0 then s.refuseWrite f j [] c
    else
      match x.block (msIndex m) (msSub m) with
      | none => s.refuseWrite f j [] 0x0501
      | some b =>
        if b.late s.now then (s.putBlocks j rest).refuseWrite f j b.data 0x0502
        else if b.data.length < b.total then s.refuseWrite f j b.data 0x0501
        else (s.putBlocks j rest).holdWrite f j b.data

def State.blockCancel (s : State) (f : RFrame) : State :=
  match s.takeRequest f 6 with
  | (none, s) => s
  | (some j, s) =>
    let c := s.requestCode f j true
    if c ≠ 0 then s.answerCodeTo f j c
    else (s.putBlocks j ((s.rsess j).otherBlocks (msIndex (msg f)) (msSub (msg f)))).answerCodeTo f j 0

/-- 10 s have passed since the last segment of a block write: it has ended, and what follows is answered with 0x0502. -/
def State.blockExpiry (s : State) (j index sub : Nat) : State :=
  let x := s.rsess j
  match x.block index sub with
  | some b =>
    if b.at_ + 10 * second < s.now && !s.asleep then s.putBlocks j ({ b with expired := true } :: x.otherBlocks index sub) else s
  | none => s

/-! ### The command window (R392, R393) -/

def State.rankOfWrite (s : State) (w : HeldWrite) : Nat := s.rankOf w.credential w.rights

/-- The command window in which a write was authenticated (R392). -/
def HeldWrite.window (w : HeldWrite) : Nat := w.at_ / 62500

/-- A write comes no later than another: by window, then rank, then counter for the ranked ones, arrival for the others. -/
def State.writeBefore (s : State) (a b : HeldWrite) : Bool :=
  let ra := s.rankOfWrite a
  let rb := s.rankOfWrite b
  if a.window ≠ b.window then decide (a.window < b.window)
  else decide (ra < rb) || (decide (ra = rb) && (ra = 2 || decide (a.counter ≤ b.counter)))

def State.insertWrite (s : State) (w : HeldWrite) : List HeldWrite → List HeldWrite
  | [] => [w]
  | x :: xs => if s.writeBefore x w then x :: s.insertWrite w xs else w :: x :: xs

/-- The writes of windows in the order of R392. -/
def State.windowOrder (s : State) (ws : List HeldWrite) : List HeldWrite := ws.foldl (fun xs w => s.insertWrite w xs) []

/-- Two entries are interlocked: of one record, the power limit with record 0x2002, or of the partitions' network records
(R393, R438, R570). -/
def interlocked (a b : HeldWrite) : Bool :=
  decide (a.index = b.index)
    || (a.index = 0x2001 && a.sub = 5 && b.index = 0x2002) || (b.index = 0x2001 && b.sub = 5 && a.index = 0x2002)
    || (0x2620 ≤ a.index && a.index < 0x2628 && 0x2620 ≤ b.index && b.index < 0x2628)

/-- Two writes of one window are contradictory, one being the primary's and the other the secondary's. -/
def contradicts (a b : HeldWrite) : Bool :=
  decide (a.window = b.window) && if a.index = b.index && a.sub = b.sub then decide (a.value ≠ b.value) else interlocked a b

/-- Apply one write of the window: its code. `started` holds the cmd writes that this window has started. -/
def State.settle (s : State) (prims started : List HeldWrite) (w : HeldWrite) (ok : Bool) (r : StartReport) : Nat × State :=
  if s.rankOfWrite w = 1 && prims.any (fun p => contradicts p w) then (0x0801, s.odInc 0x1100 0x0D 1)
  else
    let again := started.any (fun p => decide (p.window = w.window) && decide (p.index = w.index) && decide (p.sub = w.sub) && decide (p.value = w.value))
    let c := if again then 0 else s.writeCode (whoOf w.rights w.credential) w.index w.sub w.port.toNat w.value
    if c ≠ 0 then (c, s)
    else
      let running := again || (decide (s.odGet w.index w.sub = 1) && odAccess w.index w.sub = .cmd)
      s.applyWrite w.index w.sub w.value running ok r

/-- Apply the writes at the head of the window that `due` lets through. A reset that one of them starts empties the
window, and the loop ends with it. -/
def State.settleAll (ok : Bool) (r : StartReport) (prims : List HeldWrite) (due : HeldWrite → Bool) :
    Nat → List HeldWrite → State → State
  | 0, _, s => s
  | n + 1, started, s =>
    match s.ryc.window with
    | [] => s
    | w :: rest =>
      if due w then
        let s := (s.setRyc { s.ryc with window := rest }).logWrite w 0
        let (c, s) := s.settle prims started w ok r
        let s := (if c = 0 then s else s.logCode c).answerWrite w c
        State.settleAll ok r prims due n (if odAccess w.index w.sub = .cmd && c = 0 then w :: started else started) s
      else s

/-- Close the windows that `due` names: their writes, then the reads that waited for them. -/
def State.closeWindows (s : State) (due : HeldWrite → Bool) (ok : Bool) (r : StartReport) : State :=
  let now := s.windowOrder (s.ryc.window.filter due)
  let s := s.setRyc { s.ryc with window := now ++ s.ryc.window.filter (fun w => !due w) }
  let prims := now.filter (fun w => decide (s.rankOfWrite w = 0))
  let s := State.settleAll ok r prims due now.length [] s
  let waits (q : HeldRead) : Bool := s.ryc.window.any (fun w => decide (w.sess = q.sess) && decide (w.index = q.index))
  let ready := s.ryc.reads.filter (fun q => !waits q)
  let s := s.setRyc { s.ryc with reads := s.ryc.reads.filter waits }
  ready.foldl (fun s q => s.answerRead q) s

/-- The end of every window before the present one. -/
def State.windowClose (s : State) (ok : Bool) (r : StartReport) : State :=
  if s.asleep || s.mode = .off then s
  else s.closeWindows (fun w => decide (w.window < s.now / 62500)) ok r

/-! ### Management writes -/

/-- A management write that its rule rejects without naming a code: the code is free (log 1). -/
def State.rejectWrite (s : State) : State :=
  let (c, s) := s.drawNat
  s.answerCode (c % 256)

def putOrDel (m : AMap Nat) (k v : Nat) : AMap Nat := if v = 0 then m.del k else m.put k v

/-- A steering rule that the management window takes (R414, R416). -/
def State.ruleOk (s : State) (w : Nat) : Bool :=
  let p := fld w 44 3
  fld w 0 26 = 0 && match fld w 42 2 with
  | 0 => true
  | 1 => (s.part p).hasQueue (fld w 47 17)
  | 2 => (s.part p).hasQueue (fld w 47 17) && s.ownsChannel p (fld w 26 16)
  | _ => false

/-! ### Adapter versions (R304, R306) -/

/-- The number of the next version: 1 upward, after 65,535 from 1 again, past those that live. -/
def nextVersion (live : List Nat) : Nat → Nat → Nat
  | 0, v => v
  | fuel + 1, v => if live.contains v then nextVersion live fuel (v % 65535 + 1) else v

/-- Load an adapter: a new version, refused where four of it live. -/
def State.adapterLoad (s : State) (p a : Nat) (digest : BitVec 256) : State :=
  let live := (s.adapters.filter (fun x => decide (x.part = p) && decide (x.id = a))).map (·.version)
  if 4 ≤ live.length then s
  else
    let k := 1024 * p + a
    let v := nextVersion live 4 (s.adapterLast.getD k 0 % 65535 + 1)
    (s.setAdapters (s.adapters ++ [{ part := p, id := a, version := v, digest := digest }])).setAdapterLast (s.adapterLast.put k v)

/-- Free a version. -/
def State.adapterFree (s : State) (p a v : Nat) : State :=
  s.setAdapters (s.adapters.filter (fun x => !(decide (x.part = p) && decide (x.id = a) && decide (x.version = v))))

/-! ### Reserved fields of written entries (R10) -/

/-- R149: [330:328] and [111:0]. -/
def contextReserved (w : Nat) : Bool := fld w 328 3 ≠ 0 || fld w 0 112 ≠ 0
/-- R432: [155:148] and [23:0]. -/
def groupReserved (w : Nat) : Bool := fld w 148 8 ≠ 0 || fld w 0 24 ≠ 0

/-- A write of a DISABLED queue's context (R149): code 0x1D in another state, 0x1C with a reserved field (log 111). -/
def State.writeContext (s : State) (q w : Nat) : State :=
  if (s.queue q).state ≠ .disabled then s.answerCode 0x1D
  else if contextReserved w then s.answerCode 0x1C
  else s.updQueue q (fun x => x.setWord w)

/-- A write of a page-map entry. The ro fields stay; a reserved field fails every access through the entry (R188). A
degraded subchannel that has lost its last page leaves service (R205). -/
def State.writePage (s : State) (k e : Nat) : State :=
  let old := s.pageMaps.getD k 0
  let v := setFld (setFld (setFld e 82 17 (fld old 82 17)) 75 7 (fld old 75 7)) 4 1 (fld old 4 1)
  (s.setPageMaps (putOrDel s.pageMaps k v)).degradedDone

/-- A write of a KV-map entry, to be followed by its invalidation (R258). -/
def State.writeKv (s : State) (k e : Nat) : State :=
  if kvReserved e then s.rejectWrite
  else
    let v := setFld e 69 16 (kvLastUse (s.kvMaps.getD k 0))
    (s.setKvMaps (putOrDel s.kvMaps k v)).setKvDirty (insertNat s.kvDirty k)

/-- The writes of the host driver, the operating system and the runtime. -/
def State.manage (s : State) (w : MgmtWrite) : State :=
  match w with
  | .odEntry w ok => if odAccess w.index.toNat w.sub.toNat = .cmd then s
      else s.writeNow operator w.index.toNat w.sub.toNat w.value ok
  | .queueContext q ctx =>
    s.writeContext q.toNat ctx.toNat
  | .semaphore sem owner value => if sem = 0 then s.rejectWrite else s.putSem sem.toNat { value := value, owner := owner }
  | .pageMap p page e =>
    s.writePage (2 ^ 18 * p.toNat + page.toNat) e.toNat
  | .kvMap die ix e =>
    s.writeKv (2 ^ 19 * die.toNat + ix.toNat) e.toNat
  | .steering l ix rule =>
    if s.ruleOk rule.toNat then
      s.setNet { s.net with steer := putOrDel s.net.steer (256 * l.val + ix.toNat) rule.toNat }
    else s.rejectWrite
  | .jobGroup ix e => if groupReserved e.toNat then s.rejectWrite else s.setNet { s.net with groups := putOrDel s.net.groups ix.toNat e.toNat }
  | .sourceAllot die src owner =>
    if src.toNat < 256 then s.rejectWrite
    else s.putSource die.toNat src.toNat { s.source die.toNat src.toNat with owner := owner }
  | .moduleRegion a bytes =>
    if a.toNat + bytes.length ≤ 8589934592 then s.regionWrite a.toNat (clean bytes) else s
  | .mailboxTaken die m n => s.putMbx die.toNat m.toNat ((s.mbx die.toNat m.toNat).taken n)
  | .heartbeat => s.odInc 0x2000 8 1
  | .adapterLoad p a digest => s.adapterLoad p.toNat a.toNat digest
  | .adapterFree p a v => s.adapterFree p.toNat a.toNat v.toNat
  | .conversationPaused => s.odInc 0x2400 0x10 1
  | .conversationResumed => s.odInc 0x2400 0x11 1
  | .runtimeCore c p =>
    s.setFw { s.fw with appPart := match p with | some p => s.fw.appPart.put c.toNat p.toNat | none => s.fw.appPart.del c.toNat }

/-- A write of a credential record (R401, R546): the operator's, or the service's for slot 15. -/
def State.writeCredential (s : State) (w : OdWrite) (ok : Bool) : State :=
  let i := w.index.toNat
  let off := (i - 0x3000) % 0x200
  if (0x1110 ≤ i && i < 0x1120) || (0x3000 ≤ i && i < 0x4000 && 0x10 ≤ off && off < 0x14) then
    s.writeNow (if slot15 i then ⟨2, 255, 15⟩ else operator) i w.sub.toNat w.value ok
  else s

/-! ### The commands -/

/-- REGISTER_WRITE -/
def execRegisterWrite (w : MgmtWrite) (s : State) : Host.Outcome State Fault Refusal :=
  .next (if s.asleep || s.mode = .off then s else s.manage w)
/-- RYCIA_HELLO -/
def execRyciaHello (f : RFrame) (storeOk : Bool) (s : State) : Host.Outcome State Fault Refusal := .next (s.ryciaHello f storeOk)
/-- FINISH -/
def execFinish (f : RFrame) (s : State) : Host.Outcome State Fault Refusal := .next (s.finishSession f)
/-- HANDSHAKE_TIMEOUT -/
def execHandshakeTimeout (j : Fin 16) (s : State) : Host.Outcome State Fault Refusal := .next (s.handshakeExpiry j.val)
/-- KEEPALIVE is answered with a KEEPALIVE. -/
def execKeepalive (f : RFrame) (s : State) : Host.Outcome State Fault Refusal :=
  match s.takeFrame f 0x12 with
  | (some j, s) => .next (s.sendSession j f.port 0x12 [])
  | (none, s) => .next s
/-- CLOSE ends the session without answer. -/
def execClose (f : RFrame) (s : State) : Host.Outcome State Fault Refusal :=
  match s.takeFrame f 0x13 with
  | (some j, s) => .next (s.freeSession j)
  | (none, s) => .next s
/-- READ -/
def execRead (f : RFrame) (s : State) : Host.Outcome State Fault Refusal := .next (s.readRequest f)
/-- WRITE -/
def execWrite (f : RFrame) (s : State) : Host.Outcome State Fault Refusal := .next (s.writeRequest f)
/-- WRITE_BEGIN -/
def execWriteBegin (f : RFrame) (s : State) : Host.Outcome State Fault Refusal := .next (s.blockBegin f)
/-- WRITE_SEGMENT -/
def execWriteSegment (f : RFrame) (s : State) : Host.Outcome State Fault Refusal := .next (s.blockSegment f)
/-- WRITE_COMMIT -/
def execWriteCommit (f : RFrame) (s : State) : Host.Outcome State Fault Refusal := .next (s.blockCommit f)
/-- WRITE_CANCEL -/
def execWriteCancel (f : RFrame) (s : State) : Host.Outcome State Fault Refusal := .next (s.blockCancel f)
/-- BLOCK_WRITE_TIMEOUT -/
def execBlockWriteTimeout (j : Fin 16) (index : BitVec 16) (sub : BitVec 8) (s : State) : Host.Outcome State Fault Refusal :=
  .next (s.blockExpiry j.val index.toNat sub.toNat)
/-- COMMAND_WINDOW_CLOSE -/
def execCommandWindowClose (storeOk : Bool) (r : StartReport) (s : State) : Host.Outcome State Fault Refusal :=
  .next (s.windowClose storeOk r)
/-- SESSION_IDLE_TIMEOUT -/
def execSessionIdleTimeout (j : Fin 16) (s : State) : Host.Outcome State Fault Refusal := .next (s.idleExpiry j.val)
/-- STATE_QUERY -/
def execStateQuery (f : RFrame) (s : State) : Host.Outcome State Fault Refusal :=
  match s.takeClear f 0x20 1 with
  | (true, s) => .next (if f.body.length = 8 then s.sendState f.port (leNat f.body) 0 else s.ryciaDrop false)
  | (false, s) => .next s
/-- CREDENTIAL_WRITE -/
def execCredentialWrite (w : OdWrite) (storeOk : Bool) (s : State) : Host.Outcome State Fault Refusal :=
  .next (s.writeCredential w storeOk)
/-- RYCIA_SESSION_CLOSE: the entry 0x1130 + j.08. -/
def execRyciaSessionClose (j : Fin 16) (s : State) : Host.Outcome State Fault Refusal :=
  .next (if s.asleep || s.mode = .off then s else s.closeByEntry j.val)

end Sys2Proof.Machine
end

