-- ==== Sys2Proof/Machine/Entry.lean ====
section
/-!
DEFINITION. Entry to STANDBY, PARKED or OUT_OF_SERVICE after step 2, and the wake (18 R551, R552, R622; 12 R394; 15 R465);
the apertures of the application cores (11 R349–R352).
-/
namespace Sys2Proof.Machine

open Sys2Proof

/-! ### Aborted descriptors (R622) -/

/-- `n` free bytes of a key. -/
def freeBytes (k n : Nat) : List Byte := (upto n).map (Config.freeByte k)

/-- Leave an extent of a core's scratchpad unspecified. -/
def Mem.spoil (k : Nat) (m : Mem) (x : Ext) : Mem :=
  if x.1 < x.2 && !extOut x then m.write x.1 (freeBytes k (x.2 - x.1)) else m

/-- The output extents that a tensor-core descriptor names in the scratchpad. -/
def portOutputs (d : Nat) : List Ext :=
  match dOpcode d with
  | 0x10 => [mmOutExt d, mmOutScale d]
  | 0x11 => (cvOut d).exts (cvBatch d)
  | 0x12 => (wnOut d).exts (wnBatch d) ++ [wnAuxExt d]
  | 0x14 => if atMerge d then (atExts d).drop 2 else ((atExts d).drop 2).take 2 ++ (atExts d).drop 6
  | 0x18 => voOutputs d
  | _ => []

/-- Leave a partition's extent unspecified, where it can be written. -/
def State.spoilMem (s : State) (die p k a n : Nat) : State := (s.rawWrite die p a (clean (freeBytes k n))).2

/-- The parts of a COPY's destination. -/
def State.spoilParts (s : State) (n p k d : Nat) : State :=
  (segments (cpDst d) (cpDstStride d) (cpRowBytes d) 0 (cpTotal d)).foldl (fun s x =>
    match cpDstSpace d with
    | 0 => s.updCore n (fun c => { c with spad := c.spad.spoil k (extSpan x.1 x.2) })
    | 1 => s.spoilMem (dieOfCore n) p k x.1 x.2
    | 2 => if s.sharedOk p x.1 x.2 then s.setShared (s.shared.write x.1 (freeBytes k x.2)) else s
    | _ => s) s

/-- The rows that an aborted ATTN appends, in the pages it may reach. -/
def State.spoilAppend (s : State) (q n d : Nat) : State :=
  if dOpcode d = 0x14 && atAppend d && !atMerge d && !atZero d then
    match s.walk n (s.queue q).part d (atHandles (s.core n).spad d).1 with
    | (.pages xs, s) => s.spoilNew q n d (xs.filter KvPage.resident)
    | (.fail _ _, s) => s
  else s

/-- A descriptor that has been dispatched and has not completed. -/
def Job.unfinished (j : Job) : Bool := !(j.phase = .finished || j.phase = .waitRecord)

/-- The output extent of an aborted descriptor is unspecified; one that continued held tiles drops them. -/
def State.spoilJob (s : State) (q : Nat) (j : Job) : State :=
  let x := s.queue q
  let d := j.d
  let die := dieOfQueue q
  let (k, s) := s.drawNat
  match x.kind, x.coreOf with
  | 1, some n =>
    let c := s.core n
    let drops := j.phase = .handed && dOpcode d = 0x10 && mmInit d = 2
    (s.putCore n { c with spad := (portOutputs d).foldl (Mem.spoil k) c.spad, held := if drops then none else c.held }).spoilAppend q n d
  | 2, some n => if dOpcode d = 0x20 && cpCheck d = 0 then s.spoilParts n x.part k d else s
  | 3, _ | 4, _ =>
    (match x.videoOf with
     | some e => if j.phase = .handed && (dOpcode d = 0x31 || dOpcode d = 0x32) then s.abortPicture e q 0x10 else s
     | none => s)
  | 5, _ => if dOpcode d = 0x40 then s.spoilMem die x.part k (smOut d) 64 else s
  | 7, _ => s.spoilMem die x.part k (sDst d) (secOut (dOpcode d) (sBytes d))
  | 8, _ =>
    if dOpcode d = 0x60 then s.spoilMem die x.part k (pkMem d) (pkBytes d)
    else if dOpcode d = 0x61 && s.pkObject x.part (pkHandle d) = 0 then
      (match s.park.find (pkHandle d) with
       | some o => s.setObject (pkHandle d) { o with mem := o.mem.write (pkOffset d) (freeBytes k (Nat.min (pkBytes d) (o.extent - pkOffset d))) }
       | none => s)
    else s
  | _, _ => s

/-- Abort what a queue has not completed, with 0x10; the queue stays PAUSED. -/
def State.abortPending (s : State) (q : Nat) : State :=
  let todo := (s.queue q).jobs.filter Job.unfinished
  let s := todo.foldl (fun s j => s.spoilJob q j) s
  let s := (s.unlend q).setSemWait (s.semWait.filter (fun w => w.2 ≠ q))
  let s := s.updQueue q (fun x => { x with jobs := x.jobs.map (abortJob true 0x10) })
  let (js, s) := s.reserveFor q (s.queue q).jobs
  let s := s.updQueue q (fun x => { x with jobs := js })
  State.completeAll js.length s q

/-- Queues with descriptors that have not completed. -/
def State.busyQueues (s : State) : List Nat := s.queueIds (fun _ x => decide (x.cls = 0) && !x.jobs.isEmpty)

def State.allDone (s : State) : Bool := s.queues.all (fun x => x.2.jobs.all (fun j => !j.unfinished))

/-- A scrub runs (R541). -/
def State.anyScrub (s : State) : Bool := s.parts.any (fun x => x.2.scrubs)

/-! ### Before the dies go down (R373, R398, R473, R617) -/

/-- Requests that await their reply: the state request itself succeeds, what waits for a component is answered 0x87. -/
def State.answerAll (s : State) : State :=
  s.fw.mbx.foldl (fun s kb => kb.2.inb.foldl (fun s r =>
    s.answerKept (kb.1 / 64) (kb.1 % 64) r (if r.waiting then 0x87 else 0) []) s) s

/-- Chunks that are answered become durable. -/
def State.finishChunks (s : State) : State := s.store.answered.foldl (fun s x => s.chunkDurable x.1) s

/-- Held occurrences are delivered, and the firmware cores' interrupts end. -/
def State.deliverAll (s : State) : State :=
  let s := s.ev.src.foldl (fun s kx =>
    if 0 < (s.source (kx.1 / 1024) (kx.1 % 1024)).n then deliver State.raise s (kx.1 / 1024) (kx.1 % 1024) else s) s
  s.setEv { s.ev with irq := s.ev.irq.only (fun c _ => decide (c < 16)) }

/-- A requalification is abandoned (R509): its entry reads idle. -/
def State.dropRequal (s : State) : State :=
  let s := s.setCores (s.cores.mapVals (fun _ c => { c with requalBank := none }))
  if s.odGet 0x2750 6 = 1 then s.odSet 0x2750 6 0 else s

/-- The state changes to a sleeping one: source 1, what was held, and the mode. -/
def State.fallAsleep (s : State) (m : Mode) : State :=
  let s := (s.raiseEast 1 m.code).deliverAll
  let s := if s.odGet 0x2000 2 = 1 then s.odSet 0x2000 2 2 else s
  ((s.setMode m).setPow { s.pow with stateSince := s.now }).setEntry none

/-- STANDBY: sessions are suspended, the fabric goes down, load levelling is off. -/
def State.toStandby (s : State) : State :=
  let s := s.fallAsleep .standby
  let s := s.setIdle false
  let s := s.setRyc { s.ryc with sess := (s.ryc.sess.only (fun _ x => x.state = .opened)).mapVals (fun _ x => { x with state := .suspended }) }
  let s := s.setNet { s.net with
    steer := [], groups := []
    links := s.net.links.mapVals (fun _ l => { seq := l.seq })
    ports := s.net.ports.mapVals (fun p x => if 2 ≤ p then { x with up := false } else x) }
  let s := ((s.setPow { s.pow with ramp := none, ballastW := 0 }).condition 0 29 false 0).condition 0 36 false 0
  s.setVideo (s.video.mapVals (fun _ e => { e with busy := none }))

/-- PARKED: the park clock and the next leaf are committed, the keys go, DRAM and the TIME oscillator go down once Chamois
has measured it (R450). -/
def State.toParked (s : State) (crystal : Nat) : State :=
  let s := (s.setPark { s.park with savedClock := s.park.clock }).commit [2, 6, 7]
  let s := (s.fallAsleep .parked).lose .parked
  s.setTime { s.time with pps := .holdover, crystal := crystal }

/-! ### Wake (R552, R465) -/

/-- A logged occurrence is sensed with its logged time. -/
def State.resense (s : State) (x : Nat × Nat × Nat) : State :=
  let (n, t, detail) := x
  let src := s.source 0 n
  let raise := fun (s : State) d m y => s.raise d m y
  if sourceIsCond n && scSense src.control.toNat = 1 then
    if src.disarmed then s
    else count raise (s.putSource 0 n { src with disarmed := scEnable src.control.toNat, sawFalse := !src.cond }) 0 n detail t
  else count raise s 0 n detail t

/-- The island's log, sensed once the controllers run again. -/
def State.replayLog (s : State) : State :=
  let xs := s.ev.island
  xs.foldl State.resense (s.setEv { s.ev with island := [] })

def triggers : List Trigger :=
  [.inletHot, .outletSlope, .coolantSensor, .junctionWarm, .dramHot, .powerLimit, .inputLow]

/-- Triggers keep their levels, and are evaluated anew (R568). -/
def State.thaw (s : State) : State :=
  triggers.foldl (fun s t =>
    let x := s.trig (trigIndex t)
    let s := if x.level ≠ 0 then s.putTrig (trigIndex t) { x with since := s.now } else s
    if (s.source 0 (trigSource t)).cond then s.trigAssert t (s.source 0 (trigSource t)).condDetail else s) s

/-- From STANDBY: the state it left, with the cores' storage in zeros and the suspended sessions open. -/
def State.wakeStandby (s : State) : State :=
  let s := (s.setCores (s.cores.mapVals (fun _ c => { c with spad := {}, held := none, vregs := [] }))).setSpadUpsets []
  let s := s.setRyc { s.ryc with sess := s.ryc.sess.mapVals (fun _ x =>
    if x.state = .suspended then { x with state := .opened, lastValid := s.now } else x) }
  let s := s.setRst { s.rst with beatSince := s.now }
  let s := s.setPow { s.pow with lost := false, beforeLoss := none, lastFrame := some s.now, lastDispatch := s.now }
  let s := ((s.condition 0 26 false 0).setWakeHeld false).enterMode s.leftMode
  s.replayLog.thaw.follow

/-- From PARKED: the cold start from BOOT. -/
def State.wakeParked (s : State) (r : StartReport) : State :=
  let s := (s.setWakeHeld false).coldStart .parked r false
  if s.noBoot then s else s.replayLog.thaw

/-- A wake begins; during entry it is held. -/
def State.wakeUp (s : State) (r : StartReport) : State :=
  match s.mode with
  | .standby => s.wakeStandby
  | .parked => s.wakeParked r
  | _ =>
    match s.entry with
    | some e => if e.target.asleep then s.setWakeHeld true else s
    | none => s

/-- After a thermal stop a WAKE is accepted only when the module has cooled (R556). -/
def State.tooHot (s : State) (r : StartReport) : Bool :=
  s.mode = .parked && s.tray.causes.contains 0x21 && (decide (4500 < r.inlet) || decide (6000 < r.hottest))

/-- A WAKE frame's fields (R394). -/
def wakeSerial (f : RFrame) : Nat := leNat (f.body.take 16)
def wakeCounter (f : RFrame) : Nat := leNat ((f.body.drop 16).take 8)
def wakeCredential (f : RFrame) : Nat := leNat ((f.body.drop 24).take 2)
def wakeReserved (f : RFrame) : Nat := leNat ((f.body.drop 26).take 2)

/-- What R394 asks of a WAKE beside its signature. -/
def State.wakeNames (s : State) (f : RFrame) : Bool :=
  let c := wakeCredential f
  decide (f.body.length = 3312) && decide (wakeSerial f = s.odGet 0x1000 4) && decide (wakeReserved f = 0)
    && decide (c / 256 = 0xFF) && decide (c % 256 < 16) && decide (s.credentialRights c = 1)
    && decide (s.odGet 0x1100 0x0E < wakeCounter f)

/-- WAKE (R394): answered with STATE, its counter committed, source 25 raised, then the wake. -/
def State.wakeFrame (s : State) (f : RFrame) (r : StartReport) : State :=
  match s.takeClear f 0x22 1 with
  | (false, s) => s
  | (true, s) =>
    if !s.wakeNames f then s.ryciaDrop false
    else if !f.authentic then s.ryciaDrop true
    else
      let s := s.sendState f.port (wakeCounter f) 0
      if s.tooHot r then s
      else (((s.odSet 0x1100 0x0E (wakeCounter f)).commit [10]).raiseEast 25 (wakeCounter f % 2 ^ 32)).wakeUp r

/-- An occurrence of the wake subset while the dies are off: the island logs it, and acts on it (R465). What the
occurrence does not carry of a stop's record is free (log 1). -/
def State.wakeSubset (s : State) (n : Nat) (level : Bool) (detail : Nat) (r : StartReport) : State :=
  if !s.asleep then s
  else if !level then (if sourceIsCond n then s.condition 0 n false detail else s)
  else
    match n with
    | 19 => let (us, s) := s.drawNat; s.below36 detail us []
    | 20 => let (us, s) := s.drawNat; s.presenceBreak (detail % 4) s.tray.inputMv us []
    | 21 => s.trayResetAssert
    | 25 => (s.raiseEast 25 detail).wakeUp r
    | _ =>
      if sourceIsCond n && (s.source 0 n).cond then s
      else
      let s := if sourceIsCond n then s.condition 0 n true detail else s.raiseEast n detail
      if bitOf (s.odGet 0x2900 4) (n - 16) then s.wakeUp r else s

/-! ### The end of step 2 (R551, R622) -/

/-- Where entry leads once step 2 has ended. -/
def State.completeEntry (s : State) (e : Entry) (storeOk : Bool) (r : StartReport) : State :=
  if e.oos ≠ 0 then (s.setEntry none).toOutOfService e.oos
  else if e.thenWarm then (s.setEntry none).orderWarm 4
  else
    let s := s.closeWindows (fun _ => true) storeOk r
    if s.mode = .draining && s.entry.isSome then
      let s := s.finishChunks.dropRequal
      let held := s.wakeHeld
      let s := if e.target = .parked then s.toParked r.crystal else s.toStandby
      if held then s.wakeUp r else s
    else s

/-- Step 2 has ended: nothing dispatched is unfinished, or its 100 ms have passed, and no scrub runs. -/
def State.drainAbort (s : State) (storeOk : Bool) (r : StartReport) : State :=
  match s.entry with
  | some e =>
    if e.step = 2 && !s.anyScrub && (s.allDone || e.since + 100 * ms ≤ s.now) then
      let s := if e.target.asleep then s.answerAll else s
      (s.busyQueues.foldl State.abortPending s).completeEntry e storeOk r
    else s
  | none => s

/-! ### Apertures (R349, R350, R352) -/

/-- A precise access fault of an application core. -/
def State.accessFault (s : State) (core a : Nat) (poison : Bool) : State :=
  s.setFw { s.fw with lastFault := some (core, a, poison) }

/-- A load that met poison: counted, charged, recorded. -/
def State.poisonFault (s : State) (core a : Nat) (part : Option Nat) : State :=
  let s := (s.accessFault core a true).odInc 0x2140 5 1
  (s.charge 5 core).failRecord (dieOfApp core) 0x10 5 core part 0 [(0, .num 1)]

/-- In an aperture, the process that owns the page ends: the partition's runtime. -/
def State.processEnds (s : State) (core p : Nat) : State :=
  if s.fw.appPart.find core = some p then s.setFw { s.fw with appPart := s.fw.appPart.only (fun _ x => decide (x ≠ p)) } else s

/-- In the module region, the fault is the operating system's own: its panic handler asks for a WARM reset (R352, R592). -/
def State.panic (s : State) (core : Nat) : State := (s.raiseEast 2 core).orderWarm 7

/-- A range of the physical address map (R349): an aperture with its partition and offset, a device window, or the module
regions. -/
inductive AppRange where
  | region | window | aperture (p off : Nat) | nothing
  deriving DecidableEq, Repr

def appRange (a : Nat) : AppRange :=
  if a < 2 * regionBytes then .region
  else if a < 2 * regionBytes + 2147483648 then .window
  else if 2 ^ 42 ≤ a && a < 2 ^ 43 then .aperture ((a - 2 ^ 42) / 2 ^ 39) ((a - 2 ^ 42) % 2 ^ 39)
  else .nothing

/-- An access stays within the range that its first byte lies in. -/
def appFits (a n : Nat) : Bool :=
  match appRange a with
  | .aperture _ off => decide (off + n ≤ 2 ^ 39)
  | .region => decide (a + n ≤ 2 * regionBytes)
  | .window => decide (a + n ≤ 2 * regionBytes + 2147483648)
  | .nothing => false

/-- A load of an application core. A device window answers through the commands of its registers (log 147). -/
def State.appLoad (s : State) (core a n : Nat) : State :=
  if !appFits a n then s.accessFault core a false
  else match appRange a with
    | .region =>
      let s := s.settleRegion (inLines a n)
      let bs := s.regionRead a n
      if bs.any (·.2) then (s.poisonFault core a none).panic core else s.emit (.loaded core (bs.map (·.1)))
    | .aperture p off =>
      (match s.mread (dieOfApp core) p off n with
       | (some bs, s) => if bs.any (·.2) then (s.poisonFault core a (some p)).processEnds core p else s.emit (.loaded core (bs.map (·.1)))
       | (none, s) => s.accessFault core a false)
    | .window | .nothing => s

/-- A store of an application core. -/
def State.appStore (s : State) (core a : Nat) (bs : List Byte) : State :=
  if !appFits a bs.length then s.accessFault core a false
  else match appRange a with
    | .region => s.regionWrite a (clean bs)
    | .aperture p off =>
      (match s.pwrite (dieOfApp core) p off (clean bs) with
       | (true, s) => s
       | (false, s) => s.accessFault core a false)
    | .window | .nothing => s

/-- An access of an application core that runs; what it met in memory is counted with it. -/
def State.aperture (s : State) (core a : Nat) (kind : AccessKind) : State :=
  if !s.firmwareUp || hasNat s.fw.appOffline core then s
  else
    match kind with
    | .load n => (s.appLoad core a n).account
    | .store bs => (s.appStore core a bs).account

/-! ### The commands -/

/-- WAKE -/
def execWake (f : RFrame) (r : StartReport) (s : State) : Host.Outcome State Fault Refusal := .next (s.wakeFrame f r)
/-- WAKE_SUBSET_OCCURRENCE -/
def execWakeSubsetOccurrence (src : Fin 10) (level : Bool) (detail : BitVec 47) (r : StartReport) (s : State) :
    Host.Outcome State Fault Refusal := .next (s.wakeSubset (18 + src.val) level detail.toNat r)
/-- DRAIN_ABORT -/
def execDrainAbort (storeOk : Bool) (r : StartReport) (s : State) : Host.Outcome State Fault Refusal :=
  .next (s.drainAbort storeOk r)
/-- APERTURE_ACCESS -/
def execApertureAccess (die : Die) (core : BitVec 3) (addr : BitVec 48) (kind : AccessKind) (s : State) :
    Host.Outcome State Fault Refusal := .next (s.aperture (appNumber die core) addr.toNat kind)

end Sys2Proof.Machine
end

