-- ==== Sys2Proof/Machine/Time.lean ====
section
/-!
DEFINITION. The timebase and the PPS servo (14 R439–R451, 01 R37): one TIME cycle, a filtered pulse, the stuck line,
holdover.
-/
namespace Sys2Proof.Machine

open Sys2Proof

/-- The TIME clock runs: in every powered state but PARKED (R449, R450). -/
def State.timeRuns (s : State) : Bool := s.mode ≠ .off && s.mode ≠ .parked

/-- One cycle of the TIME clock adds 1 + d (R440). -/
def Time.cycle (t : Time) : Time :=
  { t with raw := t.raw + 1, base := t.base + BitVec.ofNat 96 ((4294967296 + t.rate).toNat) }

/-- 1.5 s and 1 s of raw cycles (R443). -/
def raw15 : Nat := 375000000
def raw1 : Nat := 250000000

/-- A raw count lies within the last 1.5 s. -/
def Time.recent (t : Time) (r : Option Nat) : Option Nat :=
  match r with
  | some x => if t.raw ≤ x + raw15 then some x else none
  | none => none

/-- The reference pulse of R443. -/
def Time.reference (t : Time) : Option Nat :=
  match t.recent t.lastAccepted with
  | some x => some x
  | none => t.recent t.lastPassed

/-- The pulse time in units of 2⁻³² counts: the first of the 251 samples, 250 cycles ago, less 25 ns (R37, R443). -/
def Time.pulseTime (t : Time) : Int :=
  (t.base.toNat : Int) - 250 * (4294967296 + t.rate) - 26843545600

/-- One second of counts with the fraction. -/
def secondFrac : Int := 250000000 * 4294967296

/-- The phase of a pulse time against the nearest whole second, with the fraction: [−½ s, ½ s) (R444). -/
def phaseOf (p : Int) : Int := (p + secondFrac / 2) % secondFrac - secondFrac / 2

/-- A rational rounded to an integer: down, or up where the free choice says so (log 1). -/
def roundFree (up : Bool) (num : Int) (den : Nat) : Int :=
  let q := num / (den : Int)
  if up && q * (den : Int) ≠ num then q + 1 else q

def clampInt (lo hi x : Int) : Int := if x < lo then lo else if hi < x then hi else x

/-- The frequency estimate over at most 16 accepted intervals, clamped to ±5 ppm (R445), as a fraction. -/
def freqOf (xs : List Nat) : Int × Nat :=
  let n := xs.length
  let num := sumInt (xs.map (fun (x : Nat) => (x : Int) - 250000000))
  let den := n * 250000000
  if n = 0 then (0, 1)
  else if 5 * (den : Int) < num * 1000000 then (5, 1000000)
  else if num * 1000000 < -(5 * (den : Int)) then (-5, 1000000)
  else (num, den)

/-- d in units of 2⁻³² for an estimate and a phase in nanoseconds, within 100 ppm (R445). -/
def rateOf (up : Bool) (f : Int × Nat) (e : Int) : Int :=
  clampInt (-429496) 429496 (roundFree up (-(f.1 * 1000000000 + e * f.2) * 4294967296) (f.2 * 1000000000))

/-- What an accepted pulse does to the servo (R444–R447). -/
def State.acceptPulse (s : State) (interval : Nat) : State :=
  let t := s.time
  let ph := phaseOf t.pulseTime
  let (upE, s) := s.drawBool
  let (upD, s) := s.drawBool
  let steps := t.mayStep && (s.mode = .boot || s.mode = .train)
  let add : Int := if steps then (if ph < 0 then -ph else if 0 < ph then secondFrac - ph else 0) else 0
  let e := if steps then 0 else roundFree upE (ph * 4) 4294967296
  let xs := (interval :: t.intervals).take 16
  let f := freqOf xs
  let st := if -100 ≤ e && e ≤ 100 then Pps.locked else .slewing
  let s := s.setTime { t with
    base := t.base + BitVec.ofNat 96 add.toNat
    rate := rateOf upD f e
    intervals := xs, fNum := f.1, fDen := f.2
    lastAccepted := some t.raw, lastPassed := some t.raw
    pps := st, phase := e, holdSince := 0, mayStep := false, stuck := false }
  (s.odInc 0x1200 3 1).condition 0 16 false 0

/-- A pulse that passes the filter (R443). In PARKED pulses are ignored (R449). A stop
sequence, which ignores them too (R32), is one step. -/
def State.ppsPulse (s : State) : State :=
  if s.timeRuns then
    let s := s.condition 0 17 false 0
    let t := s.time
    match t.reference with
    | none => s.setTime { t with lastPassed := some t.raw, stuck := false }
    | some r =>
      let d := t.raw - r
      if 249950000 ≤ d && d ≤ 250050000 then s.acceptPulse d
      else (s.setTime { t with lastPassed := some t.raw, stuck := false }).odInc 0x1200 4 1
  else s

/-- Holdover: d = −f (R446). -/
def State.enterHoldover (s : State) : State :=
  let t := s.time
  let (up, s) := s.drawBool
  (s.setTime { t with pps := .holdover, holdSince := s.now, rate := rateOf up (t.fNum, t.fDen) 0 }).condition 0 16 true 0

/-- A high level of more than 900 ms marks the line stuck (R37, R446). -/
def State.ppsStuck (s : State) : State :=
  if s.timeRuns then
    let s := (s.setTime { s.time with stuck := true }).condition 0 17 true 0
    match s.time.pps with
    | .locked | .slewing => s.enterHoldover
    | _ => s
  else s

/-- 1.5 s without an accepted pulse, in states 1 and 2 (R446). -/
def State.holdoverEntry (s : State) : State :=
  match s.time.pps with
  | .locked | .slewing =>
    if s.timeRuns && (s.time.recent s.time.lastAccepted).isNone then s.enterHoldover else s
  | _ => s

/-- PPS_PULSE -/
def execPpsPulse (s : State) : Host.Outcome State Fault Refusal := .next s.ppsPulse
/-- PPS_STUCK -/
def execPpsStuck (s : State) : Host.Outcome State Fault Refusal := .next s.ppsStuck
/-- HOLDOVER_ENTRY -/
def execHoldoverEntry (s : State) : Host.Outcome State Fault Refusal := .next s.holdoverEntry

/-! ### An idle step: one TIME cycle (log 3) -/

/-- The refill of the write budget in one second: OD 0x2201.06 GB a day, at most 1 TB held (R214). -/
def State.refill (s : State) : State :=
  let add : Int := ((s.odGet 0x2201 6 * 1000000000 / 86400 : Nat) : Int)
  let b := s.park.budget + add
  s.setPark { s.park with budget := if 1000000000000 < b then 1000000000000 else b }

/-- One second of input power: the park clock (R213), the budget (R214), the probation count in SERVING (R611). -/
def State.secondPasses (s : State) : State :=
  let s := (s.setPark { s.park with clock := s.park.clock + 1 }).refill
  match s.store.probation with
  | some n => if s.mode = .serving then s.setStore { s.store with probation := some (n + 1) } else s
  | none => s

/-- Count time towards the park clock's seconds, in 1 ÷ 32,768 of a raw cycle. -/
def State.countTime (s : State) (n : Nat) : State :=
  if s.time.sub + n < raw1 * 32768 then s.setTime { s.time with sub := s.time.sub + n }
  else (s.setTime { s.time with sub := s.time.sub + n - raw1 * 32768 }).secondPasses

/-- A crystal cycle adds N ÷ 32,768 × (1 + d) counts (R450). -/
def Time.crystalCycle (t : Time) (up : Bool) : Time :=
  { t with base := t.base + BitVec.ofNat 96 ((roundFree up (t.crystal * (4294967296 + t.rate)) 32768).toNat) }

/-- PARKED: one cycle of the islands' crystal (R450). -/
def State.crystalTick (s : State) : State :=
  let (up, s) := s.drawBool
  (s.setTime (s.time.crystalCycle up)).countTime raw1

/-- The restarts of video engines end, and with them the commands that ordered them (R347, log 145). -/
def State.restartsEnd (s : State) : State :=
  (upto 6).foldl (fun s e =>
    if (s.engine e).restarting then
      let s := s.putEngine e { s.engine e with restarting := false }
      if s.odGet (0x2510 + e) 7 = 1 then s.odSet (0x2510 + e) 7 2 else s
    else s) s

/-- What an idle block does: reads that met errors are counted (log 137), video engines end their restarts, one TIME
cycle passes, and a second's count at each whole second of them. In PARKED a crystal cycle passes (R450); with the module
off and input power present the park clock alone goes on (R213). -/
def State.tick (s : State) : State :=
  if s.mode = .off then (if s.powered then s.countTime 32768 else s)
  else if s.mode = .parked then s.crystalTick
  else
    let s := s.account.restartsEnd
    (s.setTime s.time.cycle).countTime 32768

end Sys2Proof.Machine
end

