-- ==== Sys2Proof/Machine/Dispatch.lean ====
section
/-!
DEFINITION. The dispatch of commands to their meanings: one arm per command.
-/
namespace Sys2Proof.Machine

open Sys2Proof

/-- The effect of one command on everything but the queue of waiting commands. -/
def exec (i : Instr) (s : State) : Host.Outcome State Fault Refusal :=
  match i with
  | .powerBladesMate mv => Sys2Proof.Machine.execPowerBladesMate mv s
  | .presenceFilterExpiry mv inlet => Sys2Proof.Machine.execPresenceFilterExpiry mv inlet s
  | .softStartComplete r => Sys2Proof.Machine.execSoftStartComplete r s
  | .presenceTimeout pins => Sys2Proof.Machine.execPresenceTimeout pins s
  | .presenceBreak pins mv stop => Sys2Proof.Machine.execPresenceBreak pins mv stop s
  | .trayResetAssert => Sys2Proof.Machine.execTrayResetAssert s
  | .trayResetRelease r => Sys2Proof.Machine.execTrayResetRelease r s
  | .trayResetHeldTimeout => Sys2Proof.Machine.execTrayResetHeldTimeout s
  | .inputOvervoltage mv stop => Sys2Proof.Machine.execInputOvervoltage mv stop s
  | .inputOvercurrent ma stop => Sys2Proof.Machine.execInputOvercurrent ma stop s
  | .inputSwitchReclose mv => Sys2Proof.Machine.execInputSwitchReclose mv s
  | .inputLoss mv stop => Sys2Proof.Machine.execInputLoss mv stop s
  | .inputBelow40V mv => Sys2Proof.Machine.execInputBelow40V mv s
  | .inputBelow36V mv stop => Sys2Proof.Machine.execInputBelow36V mv stop s
  | .inputSensorFault => Sys2Proof.Machine.execInputSensorFault s
  | .coolantSensorFault outlet => Sys2Proof.Machine.execCoolantSensorFault outlet s
  | .inletWarmed inlet => Sys2Proof.Machine.execInletWarmed inlet s
  | .ppsPulse => Sys2Proof.Machine.execPpsPulse s
  | .ppsStuck => Sys2Proof.Machine.execPpsStuck s
  | .holdoverEntry => Sys2Proof.Machine.execHoldoverEntry s
  | .d2dCrcFailure toWest sameFlit => Sys2Proof.Machine.execD2dCrcFailure toWest sameFlit s
  | .d2dLaneLockLoss => Sys2Proof.Machine.execD2dLaneLockLoss s
  | .pllLossOfLock domain die unit => Sys2Proof.Machine.execPllLossOfLock domain die unit s
  | .appCoreFailure core => Sys2Proof.Machine.execAppCoreFailure core s
  | .samplerFailure die => Sys2Proof.Machine.execSamplerFailure die s
  | .securityEngineFailure die => Sys2Proof.Machine.execSecurityEngineFailure die s
  | .sliceFailure die slice => Sys2Proof.Machine.execSliceFailure die slice s
  | .droopTrip core => Sys2Proof.Machine.execDroopTrip core s
  | .droopRecoveryStep core => Sys2Proof.Machine.execDroopRecoveryStep core s
  | .droopGateTimeout core => Sys2Proof.Machine.execDroopGateTimeout core s
  | .spadPatrolRead core line upsets => Sys2Proof.Machine.execSpadPatrolRead core line upsets s
  | .matmul q => Sys2Proof.Machine.execMatmul q s
  | .vecop q => Sys2Proof.Machine.execVecop q s
  | .copy q => Sys2Proof.Machine.execCopy q s
  | .conv q => Sys2Proof.Machine.execConv q s
  | .window q => Sys2Proof.Machine.execWindow q s
  | .attn q => Sys2Proof.Machine.execAttn q s
  | .residueMismatch q column residue tileRow tileCol kchunk temp => Sys2Proof.Machine.execResidueMismatch q column residue tileRow tileCol kchunk temp s
  | .selfTest core src => Sys2Proof.Machine.execSelfTest core src s
  | .selfTestDone core failed temp => Sys2Proof.Machine.execSelfTestDone core failed temp s
  | .injectResidue core column => Sys2Proof.Machine.execInjectResidue core column s
  | .coreReset core src => Sys2Proof.Machine.execCoreReset core src s
  | .coreResetDone core failed bankPassed => Sys2Proof.Machine.execCoreResetDone core failed bankPassed s
  | .doorbellProducer q word by_ => Sys2Proof.Machine.execDoorbellProducer q word by_ s
  | .doorbellConsumer q word by_ => Sys2Proof.Machine.execDoorbellConsumer q word by_ s
  | .descriptorDispatch q => Sys2Proof.Machine.execDescriptorDispatch q s
  | .semaphoreTake sem => Sys2Proof.Machine.execSemaphoreTake sem s
  | .descriptorComplete q => Sys2Proof.Machine.execDescriptorComplete q s
  | .dataSlotArrival dq => Sys2Proof.Machine.execDataSlotArrival dq s
  | .dataCreditReturn dq => Sys2Proof.Machine.execDataCreditReturn dq s
  | .waitTimeout q => Sys2Proof.Machine.execWaitTimeout q s
  | .creditTimeout q => Sys2Proof.Machine.execCreditTimeout q s
  | .dataTimeout q => Sys2Proof.Machine.execDataTimeout q s
  | .backlogTimeout q => Sys2Proof.Machine.execBacklogTimeout q s
  | .enable q => Sys2Proof.Machine.execEnable q s
  | .pause q => Sys2Proof.Machine.execPause q s
  | .resume q => Sys2Proof.Machine.execResume q s
  | .restart q arg => Sys2Proof.Machine.execRestart q arg s
  | .flush q => Sys2Proof.Machine.execFlush q s
  | .disable q => Sys2Proof.Machine.execDisable q s
  | .registerWrite w => Sys2Proof.Machine.execRegisterWrite w s
  | .translationInvalidate p page => Sys2Proof.Machine.execTranslationInvalidate p page s
  | .patrolRead die sub line upsets => Sys2Proof.Machine.execPatrolRead die sub line upsets s
  | .subchannelRetire sub src => Sys2Proof.Machine.execSubchannelRetire sub src s
  | .migrationPageCopied die => Sys2Proof.Machine.execMigrationPageCopied die s
  | .parkioRead q lost => Sys2Proof.Machine.execParkioRead q lost s
  | .parkioWrite q => Sys2Proof.Machine.execParkioWrite q s
  | .parkioCreate q => Sys2Proof.Machine.execParkioCreate q s
  | .parkioDelete q => Sys2Proof.Machine.execParkioDelete q s
  | .parkioTouch q => Sys2Proof.Machine.execParkioTouch q s
  | .parkTimeout q => Sys2Proof.Machine.execParkTimeout q s
  | .objectExpiry handle => Sys2Proof.Machine.execObjectExpiry handle s
  | .parkClockSave => Sys2Proof.Machine.execParkClockSave s
  | .eraseObject handle => Sys2Proof.Machine.execEraseObject handle s
  | .eraseAll value => Sys2Proof.Machine.execEraseAll value s
  | .kvInvalidate die index => Sys2Proof.Machine.execKvInvalidate die index s
  | .kvResidencyTimeout q => Sys2Proof.Machine.execKvResidencyTimeout q s
  | .kvMapSweep die => Sys2Proof.Machine.execKvMapSweep die s
  | .kvScan r => Sys2Proof.Machine.execKvScan r s
  | .sessionOpen q => Sys2Proof.Machine.execSessionOpen q s
  | .sessionUpdate q => Sys2Proof.Machine.execSessionUpdate q s
  | .sessionClose q => Sys2Proof.Machine.execSessionClose q s
  | .sample q => Sys2Proof.Machine.execSample q s
  | .gload q => Sys2Proof.Machine.execGload q s
  | .gfree q => Sys2Proof.Machine.execGfree q s
  | .gadvance q => Sys2Proof.Machine.execGadvance q s
  | .vctxOpen q => Sys2Proof.Machine.execVctxOpen q s
  | .vctxUpdate q => Sys2Proof.Machine.execVctxUpdate q s
  | .vctxClose q => Sys2Proof.Machine.execVctxClose q s
  | .vctxDetach q => Sys2Proof.Machine.execVctxDetach q s
  | .vctxAdopt q => Sys2Proof.Machine.execVctxAdopt q s
  | .decode q r => Sys2Proof.Machine.execDecode q r s
  | .encode q r => Sys2Proof.Machine.execEncode q r s
  | .subframeProgress q count prog => Sys2Proof.Machine.execSubframeProgress q count prog s
  | .pictureTimeout q => Sys2Proof.Machine.execPictureTimeout q s
  | .videoEngineRestart e => Sys2Proof.Machine.execVideoEngineRestart e s
  | .videoEngineFailure e => Sys2Proof.Machine.execVideoEngineFailure e s
  | .componentFault die comp r => Sys2Proof.Machine.execComponentFault die comp r s
  | .budgetOverrun die r => Sys2Proof.Machine.execBudgetOverrun die r s
  | .mailboxWaitTimeout die mbx => Sys2Proof.Machine.execMailboxWaitTimeout die mbx s
  | .firmwareCoreFailure core loss => Sys2Proof.Machine.execFirmwareCoreFailure core loss s
  | .mailboxReplyTimeout die mbx => Sys2Proof.Machine.execMailboxReplyTimeout die mbx s
  | .hello m => Sys2Proof.Machine.execHello m s
  | .loadComponent m => Sys2Proof.Machine.execLoadComponent m s
  | .startComponent m => Sys2Proof.Machine.execStartComponent m s
  | .stopComponent m => Sys2Proof.Machine.execStopComponent m s
  | .componentStatus m => Sys2Proof.Machine.execComponentStatus m s
  | .bundleHealth m => Sys2Proof.Machine.execBundleHealth m s
  | .mailboxAssign m sparesPass => Sys2Proof.Machine.execMailboxAssign m sparesPass s
  | .echo m => Sys2Proof.Machine.execEcho m s
  | .reloadRuntime runtime => Sys2Proof.Machine.execReloadRuntime runtime s
  | .ryciaHello f storeOk => Sys2Proof.Machine.execRyciaHello f storeOk s
  | .finish f => Sys2Proof.Machine.execFinish f s
  | .handshakeTimeout j => Sys2Proof.Machine.execHandshakeTimeout j s
  | .keepalive f => Sys2Proof.Machine.execKeepalive f s
  | .close f => Sys2Proof.Machine.execClose f s
  | .read f => Sys2Proof.Machine.execRead f s
  | .write f => Sys2Proof.Machine.execWrite f s
  | .writeBegin f => Sys2Proof.Machine.execWriteBegin f s
  | .writeSegment f => Sys2Proof.Machine.execWriteSegment f s
  | .writeCommit f => Sys2Proof.Machine.execWriteCommit f s
  | .writeCancel f => Sys2Proof.Machine.execWriteCancel f s
  | .blockWriteTimeout j index sub => Sys2Proof.Machine.execBlockWriteTimeout j index sub s
  | .commandWindowClose storeOk r => Sys2Proof.Machine.execCommandWindowClose storeOk r s
  | .sessionIdleTimeout j => Sys2Proof.Machine.execSessionIdleTimeout j s
  | .stateQuery f => Sys2Proof.Machine.execStateQuery f s
  | .wake f r => Sys2Proof.Machine.execWake f r s
  | .credentialWrite w storeOk => Sys2Proof.Machine.execCredentialWrite w storeOk s
  | .ryciaSessionClose j => Sys2Proof.Machine.execRyciaSessionClose j s
  | .controllerPresenceExpiry secondary => Sys2Proof.Machine.execControllerPresenceExpiry secondary s
  | .controllersLost => Sys2Proof.Machine.execControllersLost s
  | .gracePeriodExpiry => Sys2Proof.Machine.execGracePeriodExpiry s
  | .frameReceive port bytes fcsOk => Sys2Proof.Machine.execFrameReceive port bytes fcsOk s
  | .nettx q => Sys2Proof.Machine.execNettx q s
  | .netrx q => Sys2Proof.Machine.execNetrx q s
  | .portFailure port trigger => Sys2Proof.Machine.execPortFailure port trigger s
  | .replayComplete link => Sys2Proof.Machine.execReplayComplete link s
  | .linkDownTimeout link => Sys2Proof.Machine.execLinkDownTimeout link s
  | .switchOver code => Sys2Proof.Machine.execSwitchOver code s
  | .plannedSwitchComplete link => Sys2Proof.Machine.execPlannedSwitchComplete link s
  | .portLinkUp port lanes => Sys2Proof.Machine.execPortLinkUp port lanes s
  | .holdoffExpiry port => Sys2Proof.Machine.execHoldoffExpiry port s
  | .heartbeat port => Sys2Proof.Machine.execHeartbeat port s
  | .runDiagnostics port lanes => Sys2Proof.Machine.execRunDiagnostics port lanes s
  | .portReturnToService port => Sys2Proof.Machine.execPortReturnToService port s
  | .peerEntryExpiry link src => Sys2Proof.Machine.execPeerEntryExpiry link src s
  | .jobAbortOrdered group => Sys2Proof.Machine.execJobAbortOrdered group s
  | .jobAbort port groupId token => Sys2Proof.Machine.execJobAbort port groupId token s
  | .eventOccurrence die src level detail => Sys2Proof.Machine.execEventOccurrence die src level detail s
  | .coalesceTimeout die src => Sys2Proof.Machine.execCoalesceTimeout die src s
  | .claim core => Sys2Proof.Machine.execClaim core s
  | .complete core word => Sys2Proof.Machine.execComplete core word s
  | .sourceControlWrite die src control => Sys2Proof.Machine.execSourceControlWrite die src control s
  | .wakeSubsetOccurrence src level detail r => Sys2Proof.Machine.execWakeSubsetOccurrence src level detail r s
  | .counterThreshold c by_ => Sys2Proof.Machine.execCounterThreshold c by_ s
  | .counterWrap c by_ => Sys2Proof.Machine.execCounterWrap c by_ s
  | .counterControlWrite c control => Sys2Proof.Machine.execCounterControlWrite c control s
  | .freeze => Sys2Proof.Machine.execFreeze s
  | .freezePoint => Sys2Proof.Machine.execFreezePoint s
  | .freezeResume => Sys2Proof.Machine.execFreezeResume s
  | .snapshot => Sys2Proof.Machine.execSnapshot s
  | .snapshotResume => Sys2Proof.Machine.execSnapshotResume s
  | .inject => Sys2Proof.Machine.execInject s
  | .bundleRegister r => Sys2Proof.Machine.execBundleRegister r s
  | .bundleDeregister slot => Sys2Proof.Machine.execBundleDeregister slot s
  | .digestPassStart slot => Sys2Proof.Machine.execDigestPassStart slot s
  | .digestPassEnd slot => Sys2Proof.Machine.execDigestPassEnd slot s
  | .checkNow slot => Sys2Proof.Machine.execCheckNow slot s
  | .reportMismatch slot => Sys2Proof.Machine.execReportMismatch slot s
  | .reportMismatchPoison slot => Sys2Proof.Machine.execReportMismatchPoison slot s
  | .wearCommit => Sys2Proof.Machine.execWearCommit s
  | .dailyWearSample m => Sys2Proof.Machine.execDailyWearSample m s
  | .coreSwap core src passed => Sys2Proof.Machine.execCoreSwap core src passed s
  | .requalify passed => Sys2Proof.Machine.execRequalify passed s
  | .digest q => Sys2Proof.Machine.execDigest q s
  | .seal q => Sys2Proof.Machine.execSeal q s
  | .openSealed q => Sys2Proof.Machine.execOpenSealed q s
  | .kemgen q => Sys2Proof.Machine.execKemgen q s
  | .partitionCreate m => Sys2Proof.Machine.execPartitionCreate m s
  | .partitionScrub p src => Sys2Proof.Machine.execPartitionScrub p src s
  | .partitionDestroy m => Sys2Proof.Machine.execPartitionDestroy m s
  | .scrubComplete p => Sys2Proof.Machine.execScrubComplete p s
  | .attestRequest m storeOk => Sys2Proof.Machine.execAttestRequest m storeOk s
  | .keyRelease m => Sys2Proof.Machine.execKeyRelease m s
  | .kemExpiry p slot => Sys2Proof.Machine.execKemExpiry p slot s
  | .debugOpen => Sys2Proof.Machine.execDebugOpen s
  | .debugClose => Sys2Proof.Machine.execDebugClose s
  | .debugDataRead => Sys2Proof.Machine.execDebugDataRead s
  | .debugDataWrite bytes => Sys2Proof.Machine.execDebugDataWrite bytes s
  | .dbgConnectorUse => Sys2Proof.Machine.execDbgConnectorUse s
  | .lowerTreeReady => Sys2Proof.Machine.execLowerTreeReady s
  | .drain src => Sys2Proof.Machine.execDrain src s
  | .drainEnd src => Sys2Proof.Machine.execDrainEnd src s
  | .standbyRequest src => Sys2Proof.Machine.execStandbyRequest src s
  | .parkedRequest src => Sys2Proof.Machine.execParkedRequest src s
  | .drainTimeout => Sys2Proof.Machine.execDrainTimeout s
  | .drainAbort storeOk r => Sys2Proof.Machine.execDrainAbort storeOk r s
  | .idleEntry => Sys2Proof.Machine.execIdleEntry s
  | .throttleTriggerAssert t detail => Sys2Proof.Machine.execThrottleTriggerAssert t detail s
  | .throttleTriggerClear t => Sys2Proof.Machine.execThrottleTriggerClear t s
  | .throttleLevelRise t => Sys2Proof.Machine.execThrottleLevelRise t s
  | .throttleLevelFall t => Sys2Proof.Machine.execThrottleLevelFall t s
  | .thermalStop hot => Sys2Proof.Machine.execThermalStop hot s
  | .powerCapAdjust p estimateMw => Sys2Proof.Machine.execPowerCapAdjust p estimateMw s
  | .ballastAdjust drawMw => Sys2Proof.Machine.execBallastAdjust drawMw s
  | .rampHoldAdjust drawMw roomMw => Sys2Proof.Machine.execRampHoldAdjust drawMw roomMw s
  | .modReset src r => Sys2Proof.Machine.execModReset src r s
  | .warmReset cause r => Sys2Proof.Machine.execWarmReset cause r s
  | .runtimeLoadOverrun r => Sys2Proof.Machine.execRuntimeLoadOverrun r s
  | .heartbeatCheck => Sys2Proof.Machine.execHeartbeatCheck s
  | .prepareWarm m => Sys2Proof.Machine.execPrepareWarm m s
  | .prepareWarmTimeout r => Sys2Proof.Machine.execPrepareWarmTimeout r s
  | .returnToService r => Sys2Proof.Machine.execReturnToService r s
  | .stageOpen => Sys2Proof.Machine.execStageOpen s
  | .stageDiscard => Sys2Proof.Machine.execStageDiscard s
  | .stageArm r => Sys2Proof.Machine.execStageArm r s
  | .chunk bytes => Sys2Proof.Machine.execChunk bytes s
  | .chunkDurable index => Sys2Proof.Machine.execChunkDurable index s
  | .probationExpiry => Sys2Proof.Machine.execProbationExpiry s
  | .usePrevious r => Sys2Proof.Machine.execUsePrevious r s
  | .apertureAccess die core addr kind => Sys2Proof.Machine.execApertureAccess die core addr kind s
  | .refreshRateChange sub temp => Sys2Proof.Machine.execRefreshRateChange sub temp s
  | .thermalCycle temp => Sys2Proof.Machine.execThermalCycle temp s
  | .trainingCacheUpdate => Sys2Proof.Machine.execTrainingCacheUpdate s
  | .compactionEraseComplete => Sys2Proof.Machine.execCompactionEraseComplete s
  | .trialTimeout => Sys2Proof.Machine.execTrialTimeout s

end Sys2Proof.Machine
end

