-- ==== Sys2Proof/Safety.lean ====
section
/-!
DEFINITION. The terms in which claims are stated: what a command completes with, which fields of the state it may change,
and the invariants.
-/
namespace Sys2Proof.Machine

open Sys2Proof

/-! ### Frames -/

/-- The fields of the state. -/
inductive Field where
  | pending | free | out | time | tray | mode | idle | entry
  | leftMode | wakeHeld | westPrimary | noBoot | rst | cores | queues | queueZero
  | sems | semWait | dram | upsets | spadUpsets | ecc | modKey | rotation
  | migr | migrQueue | pageMaps | tlb | kvMaps | kvTlb | kvDirty | shared
  | withdrawn | modMem | parts | park | sess | emitted | grammars | adapters
  | adapterLast | video | fw | ryc | net | ev | rel | sec
  | pow | store | od | d2dFails
  deriving DecidableEq, Repr

def Field.bit : Field → Nat
  | .pending => 0 | .free => 1 | .out => 2 | .time => 3 | .tray => 4 | .mode => 5
  | .idle => 6 | .entry => 7 | .leftMode => 8 | .wakeHeld => 9 | .westPrimary => 10 | .noBoot => 11
  | .rst => 12 | .cores => 13 | .queues => 14 | .queueZero => 15 | .sems => 16 | .semWait => 17
  | .dram => 18 | .upsets => 19 | .spadUpsets => 20 | .ecc => 21 | .modKey => 22 | .rotation => 23
  | .migr => 24 | .migrQueue => 25 | .pageMaps => 26 | .tlb => 27 | .kvMaps => 28 | .kvTlb => 29
  | .kvDirty => 30 | .shared => 31 | .withdrawn => 32 | .modMem => 33 | .parts => 34 | .park => 35
  | .sess => 36 | .emitted => 37 | .grammars => 38 | .adapters => 39 | .adapterLast => 40 | .video => 41
  | .fw => 42 | .ryc => 43 | .net => 44 | .ev => 45 | .rel => 46 | .sec => 47
  | .pow => 48 | .store => 49 | .od => 50 | .d2dFails => 51

/-- The fields of a list, as the bits of a number. -/
def maskOf (fs : List Field) : Nat := fs.foldl (fun m f => m ||| 2 ^ f.bit) 0

/-- The state with the fields of a mask put back to reset: what the mask does not name. -/
def State.mask (w : Nat) (s : State) : State where
  pending := if w.testBit 0 then State.reset.pending else s.pending
  free := if w.testBit 1 then State.reset.free else s.free
  out := if w.testBit 2 then State.reset.out else s.out
  time := if w.testBit 3 then State.reset.time else s.time
  tray := if w.testBit 4 then State.reset.tray else s.tray
  mode := if w.testBit 5 then State.reset.mode else s.mode
  idle := if w.testBit 6 then State.reset.idle else s.idle
  entry := if w.testBit 7 then State.reset.entry else s.entry
  leftMode := if w.testBit 8 then State.reset.leftMode else s.leftMode
  wakeHeld := if w.testBit 9 then State.reset.wakeHeld else s.wakeHeld
  westPrimary := if w.testBit 10 then State.reset.westPrimary else s.westPrimary
  noBoot := if w.testBit 11 then State.reset.noBoot else s.noBoot
  rst := if w.testBit 12 then State.reset.rst else s.rst
  cores := if w.testBit 13 then State.reset.cores else s.cores
  queues := if w.testBit 14 then State.reset.queues else s.queues
  queueZero := if w.testBit 15 then State.reset.queueZero else s.queueZero
  sems := if w.testBit 16 then State.reset.sems else s.sems
  semWait := if w.testBit 17 then State.reset.semWait else s.semWait
  dram := if w.testBit 18 then State.reset.dram else s.dram
  upsets := if w.testBit 19 then State.reset.upsets else s.upsets
  spadUpsets := if w.testBit 20 then State.reset.spadUpsets else s.spadUpsets
  ecc := if w.testBit 21 then State.reset.ecc else s.ecc
  modKey := if w.testBit 22 then State.reset.modKey else s.modKey
  rotation := if w.testBit 23 then State.reset.rotation else s.rotation
  migr := if w.testBit 24 then State.reset.migr else s.migr
  migrQueue := if w.testBit 25 then State.reset.migrQueue else s.migrQueue
  pageMaps := if w.testBit 26 then State.reset.pageMaps else s.pageMaps
  tlb := if w.testBit 27 then State.reset.tlb else s.tlb
  kvMaps := if w.testBit 28 then State.reset.kvMaps else s.kvMaps
  kvTlb := if w.testBit 29 then State.reset.kvTlb else s.kvTlb
  kvDirty := if w.testBit 30 then State.reset.kvDirty else s.kvDirty
  shared := if w.testBit 31 then State.reset.shared else s.shared
  withdrawn := if w.testBit 32 then State.reset.withdrawn else s.withdrawn
  modMem := if w.testBit 33 then State.reset.modMem else s.modMem
  parts := if w.testBit 34 then State.reset.parts else s.parts
  park := if w.testBit 35 then State.reset.park else s.park
  sess := if w.testBit 36 then State.reset.sess else s.sess
  emitted := if w.testBit 37 then State.reset.emitted else s.emitted
  grammars := if w.testBit 38 then State.reset.grammars else s.grammars
  adapters := if w.testBit 39 then State.reset.adapters else s.adapters
  adapterLast := if w.testBit 40 then State.reset.adapterLast else s.adapterLast
  video := if w.testBit 41 then State.reset.video else s.video
  fw := if w.testBit 42 then State.reset.fw else s.fw
  ryc := if w.testBit 43 then State.reset.ryc else s.ryc
  net := if w.testBit 44 then State.reset.net else s.net
  ev := if w.testBit 45 then State.reset.ev else s.ev
  rel := if w.testBit 46 then State.reset.rel else s.rel
  sec := if w.testBit 47 then State.reset.sec else s.sec
  pow := if w.testBit 48 then State.reset.pow else s.pow
  store := if w.testBit 49 then State.reset.store else s.store
  od := if w.testBit 50 then State.reset.od else s.od
  d2dFails := if w.testBit 51 then State.reset.d2dFails else s.d2dFails

/-- `t` differs from `s` at most in the fields of the list: every other field is the same. -/
def Only (fs : List Field) (s t : State) : Prop := t.mask (maskOf fs) = s.mask (maskOf fs)

/-! ### Completion -/

/-- The command answers a next state, and the state meets `P`. -/
def Gives (c : Instr) (s : State) (P : State → Prop) : Prop := ∃ t, exec c s = .next t ∧ P t

/-- Run `r` of the descriptor that queue q handed to core n is whole: its pieces stand in the core's scratchpad, the held
tiles are those it leaves, no other core changed, and the descriptor is finished with status 0x00 and its flags. -/
def RunsOn (s t : State) (q : QueueId) (n : Nat) (r : Run) : Prop :=
  t.core n = { s.core n with
    spad := (s.core n).spad.writePieces false r.pieces, held := if r.matrix then r.held else (s.core n).held }
  ∧ (∀ m : Nat, m ≠ n → t.core m = s.core m)
  ∧ ∃ u : State, t = u.finish q.toNat .handed 0 r.flags 0

/-! ### Invariants -/

/-- The rate correction is within 100 ppm, in units of 2⁻³² (R440). -/
def RateBound (s : State) : Prop := -429496 ≤ s.time.rate ∧ s.time.rate ≤ 429496

/-- The list of withdrawn slices rises strictly and names slices 0–95 (R63). -/
def WithdrawnOk (s : State) : Prop := risingNat s.withdrawn = true ∧ ∀ n, hasNat s.withdrawn n = true → n < 96

end Sys2Proof.Machine
end

