-- ==== Sys2Proof/WellFormed.lean ====
section
/-!
DEFINITION. Commands that the hardware can meet: the ranges that the spec gives an operand and its type does not
already hold. `exec` takes every command, well-formed or not; a report outside these ranges cannot arise.
-/
namespace Sys2Proof

/-- Outcomes of a start: check codes of R605, refusal reasons 0x05–0x07 of R370, spare cores, a spare's ESR ratio. -/
def StartReport.wellFormed (r : StartReport) : Bool :=
  decide (r.slotA < 256) && decide (r.slotB < 256)
    && (decide (r.runtime = 0) || (decide (5 ≤ r.runtime) && decide (r.runtime ≤ 7)))
    && r.sparesPass.all (fun c => decide (c.val = 8) || decide (c.val = 17))

/-- The four lanes of a fabric port are measured; ports A and B have no lane readings (R409, R430). -/
def lanesWellFormed (p : PortId) (ls : List LaneReading) : Bool := decide (ls.length = if p.val < 2 then 0 else 4)

/-- Lengths of a frame: a VLAN-free Ethernet frame on the T1 link, a fabric frame elsewhere; both have at least a
header. -/
def frameWellFormed (bytes : List Byte) : Bool := decide (14 ≤ bytes.length)

/-- An entry's value is never empty (R376). -/
def OdWrite.wellFormed (w : OdWrite) : Bool := decide (w.value ≠ [])

def MgmtWrite.wellFormed : MgmtWrite → Bool
  | .odEntry w _ => w.wellFormed
  | .moduleRegion _ bytes => decide (bytes ≠ [])
  | .mailboxTaken _ _ count => decide (0 < count) && decide (count ≤ 32)
  | .queueContext _ _ | .semaphore _ _ _ | .pageMap _ _ _ | .kvMap _ _ _ | .steering _ _ _ | .jobGroup _ _
  | .sourceAllot _ _ _ | .heartbeat | .adapterLoad _ _ _ | .adapterFree _ _ _ | .conversationPaused | .conversationResumed
  | .runtimeCore _ _ => true

def AccessKind.wellFormed : AccessKind → Bool
  | .load len => decide (0 < len)
  | .store bytes => decide (bytes ≠ [])

def CompEvent.wellFormed : CompEvent → Bool
  | .load _ len => decide (0 < len)
  | .store _ bytes => decide (bytes ≠ [])
  | .fetch _ | .illegal | .misaligned | .assertion | .poison => true

/-- Item numbers of the persistent store, each once (R595). -/
def tornWellFormed (torn : List Nat) : Bool := torn.all (fun i => decide (1 ≤ i) && decide (i ≤ 11)) && decide (torn.Nodup)

/-- The operands of a command lie in the ranges of its rule. -/
def Instr.wellFormed : Instr → Bool
  | .softStartComplete r | .trayResetRelease r | .commandWindowClose _ r | .wake _ r | .wakeSubsetOccurrence _ _ _ r
  | .drainAbort _ r | .modReset _ r | .runtimeLoadOverrun r | .prepareWarmTimeout r | .returnToService r
  | .stageArm r | .usePrevious r => r.wellFormed
  -- causes of the reset record (R590)
  | .warmReset cause r => decide (cause < 256) && r.wellFormed
  -- a pin of the two has broken (R30)
  | .presenceBreak pins _ stop => decide (pins.toNat ≠ 0) && tornWellFormed stop.torn
  -- the items of a record being written (R595, R600)
  | .inputOvervoltage _ stop | .inputOvercurrent _ stop | .inputLoss _ stop | .inputBelow36V _ stop =>
    tornWellFormed stop.torn
  | .thermalStop hot => tornWellFormed hot.torn
  -- a residue modulo 3 (R138)
  | .residueMismatch _ _ residue _ _ _ _ => decide (residue.toNat < 3)
  -- causes 0x01–0x06 of R357; the module itself finds 0x07 and 0x08
  | .componentFault _ _ r => r.event.wellFormed
  -- the three triggers of R361
  | .firmwareCoreFailure _ loss => decide (1 ≤ loss.trigger) && decide (loss.trigger ≤ 3)
  | .reloadRuntime runtime => decide (runtime = 0) || (decide (5 ≤ runtime) && decide (runtime ≤ 7))
  | .portLinkUp p ls => lanesWellFormed p ls
  | .runDiagnostics p ls => lanesWellFormed p ls
  | .frameReceive _ bytes _ => frameWellFormed bytes
  | .debugDataWrite bytes => decide (bytes.length = 1024)
  | .chunk bytes => decide (bytes ≠ [])
  | .bundleRegister r => decide (r.pages ≠ []) && decide (r.pages.length ≤ 32768)
  | .mailboxAssign _ sparesPass => sparesPass.all (fun c => decide (c.val = 8) || decide (c.val = 17))
  | .credentialWrite w _ => w.wellFormed
  | .registerWrite w => w.wellFormed
  | .apertureAccess _ _ _ kind => kind.wellFormed
  | .powerBladesMate _ | .presenceFilterExpiry _ _ | .trayResetAssert | .trayResetHeldTimeout
  | .presenceTimeout _ | .inputSwitchReclose _ | .inputBelow40V _
  | .inputSensorFault | .coolantSensorFault _ | .inletWarmed _ | .ppsPulse | .ppsStuck | .holdoverEntry
  | .d2dCrcFailure _ _ | .d2dLaneLockLoss | .pllLossOfLock _ _ _ | .appCoreFailure _ | .samplerFailure _
  | .securityEngineFailure _ | .sliceFailure _ _ | .droopTrip _ | .droopRecoveryStep _ | .droopGateTimeout _
  | .spadPatrolRead _ _ _ | .matmul _ | .vecop _ | .copy _ | .conv _ | .window _ | .attn _ | .selfTest _ _
  | .selfTestDone _ _ _ | .injectResidue _ _ | .coreReset _ _ | .coreResetDone _ _ _ | .doorbellProducer _ _ _
  | .doorbellConsumer _ _ _ | .descriptorDispatch _ | .semaphoreTake _ | .descriptorComplete _ | .dataSlotArrival _
  | .dataCreditReturn _ | .waitTimeout _ | .creditTimeout _ | .dataTimeout _ | .backlogTimeout _ | .enable _
  | .pause _ | .resume _ | .restart _ _ | .flush _ | .disable _ | .translationInvalidate _ _ | .patrolRead _ _ _ _
  | .subchannelRetire _ _ | .migrationPageCopied _ | .parkioRead _ _ | .parkioWrite _ | .parkioCreate _
  | .parkioDelete _ | .parkioTouch _ | .parkTimeout _ | .objectExpiry _ | .parkClockSave | .eraseObject _
  | .eraseAll _ | .kvInvalidate _ _ | .kvResidencyTimeout _ | .kvMapSweep _ | .kvScan _ | .sessionOpen _
  | .sessionUpdate _ | .sessionClose _ | .sample _ | .gload _ | .gfree _ | .gadvance _ | .vctxOpen _ | .vctxUpdate _
  | .vctxClose _ | .vctxDetach _ | .vctxAdopt _ | .decode _ _ | .encode _ _ | .subframeProgress _ _ _
  | .pictureTimeout _ | .videoEngineRestart _ | .videoEngineFailure _ | .budgetOverrun _ _ | .mailboxWaitTimeout _ _
  | .mailboxReplyTimeout _ _ | .hello _ | .loadComponent _ | .startComponent _ | .stopComponent _
  | .componentStatus _ | .bundleHealth _ | .echo _ | .ryciaHello _ _ | .finish _ | .handshakeTimeout _ | .keepalive _
  | .close _ | .read _ | .write _ | .writeBegin _ | .writeSegment _ | .writeCommit _ | .writeCancel _
  | .blockWriteTimeout _ _ _ | .sessionIdleTimeout _ | .stateQuery _ | .ryciaSessionClose _
  | .controllerPresenceExpiry _ | .controllersLost | .gracePeriodExpiry | .nettx _ | .netrx _ | .portFailure _ _
  | .replayComplete _ | .linkDownTimeout _ | .switchOver _ | .plannedSwitchComplete _ | .holdoffExpiry _
  | .heartbeat _ | .portReturnToService _ | .peerEntryExpiry _ _ | .jobAbortOrdered _ | .jobAbort _ _ _
  | .eventOccurrence _ _ _ _ | .coalesceTimeout _ _ | .claim _ | .complete _ _ | .sourceControlWrite _ _ _
  | .counterThreshold _ _ | .counterWrap _ _ | .counterControlWrite _ _ | .freeze | .freezePoint | .freezeResume
  | .snapshot | .snapshotResume | .inject | .bundleDeregister _ | .digestPassStart _ | .digestPassEnd _ | .checkNow _
  | .reportMismatch _ | .reportMismatchPoison _ | .wearCommit | .dailyWearSample _ | .coreSwap _ _ _ | .requalify _
  | .digest _ | .seal _ | .openSealed _ | .kemgen _ | .partitionCreate _ | .partitionScrub _ _ | .partitionDestroy _
  | .scrubComplete _ | .attestRequest _ _ | .keyRelease _ | .kemExpiry _ _ | .debugOpen | .debugClose
  | .debugDataRead | .dbgConnectorUse | .lowerTreeReady | .drain _ | .drainEnd _ | .standbyRequest _
  | .parkedRequest _ | .drainTimeout | .idleEntry | .throttleTriggerAssert _ _ | .throttleTriggerClear _
  | .throttleLevelRise _ | .throttleLevelFall _ | .powerCapAdjust _ _ | .ballastAdjust _
  | .rampHoldAdjust _ _ | .heartbeatCheck | .prepareWarm _ | .stageOpen | .stageDiscard | .chunkDurable _
  | .probationExpiry | .refreshRateChange _ _ | .thermalCycle _ | .trainingCacheUpdate | .compactionEraseComplete
  | .trialTimeout => true

end Sys2Proof
end

