-- ==== Sys2Proof/Certificates/Slice0/Obligations.lean ====
section
/-!
DEFINITION. The obligations: what the spec's rules say of the block, stated of the model for the provers.
-/
open Sys2Proof Sys2Proof.Machine

/-- With a command c at the front of its queue, a step is exec of c on the state whose queue is the rest; on an
empty queue the block idles and one TIME cycle passes. That an idle step is one TIME cycle is the model's choice
(log 3). Rests on 95_what_each_step_holds. -/
def Obligations.StepRunsFront : Prop :=
  (∀ (s : State) (c : Instr) (rest : List Instr), s.pending = c :: rest → step s = exec c (s.setPending rest))
  ∧ (∀ s : State, s.pending = [] → step s = .next s.tick)

/-- Whatever command runs in whatever state, exec answers a next state (no command ends a run with a fault or a
refusal), and the queue of waiting commands is the same after it: commands come from outside only. Rests on
95_what_each_step_holds. -/
def Obligations.CommandsKeepQueue : Prop :=
  ∀ (c : Instr) (s : State), ∃ t : State, exec c s = .next t ∧ t.pending = s.pending

/-- For every state whose rate correction d, in units of 2⁻³², lies within 100 ppm (429,496 units, the bound rounded
towards zero), every step that answers a next state keeps it there; an idle step of a module that is neither OFF nor
PARKED adds 1 + d, in units of 2⁻³² of a count, to the 96-bit value, one in PARKED is a cycle of the crystal and
adds N ÷ 32,768 × (1 + d), rounded one way or the other, and the timebase is the integer part of that value, whose
low 32 bits are the fraction. That an idle step is one TIME cycle is the model's choice (log 3). Formalises R440. -/
def Obligations.TimebaseInvariant : Prop :=
  ∀ s t : State, RateBound s → step s = .next t →
    RateBound t
    ∧ (s.pending = [] → s.mode ≠ .off → s.mode ≠ .parked →
      t.time.base = s.time.base + BitVec.ofNat 96 (4294967296 + s.time.rate).toNat)
    ∧ (s.pending = [] → s.mode = .parked → ∃ up : Bool,
      t.time.base = s.time.base + BitVec.ofNat 96 (roundFree up (s.time.crystal * (4294967296 + s.time.rate)) 32768).toNat)
    ∧ t.now = t.time.base.toNat / 2 ^ 32

/-- In every step from every state, a shared-buffer slice that was withdrawn is withdrawn after the step; the list
of withdrawn slices keeps its order and its numbers below 96; and a step that runs anything but SLICE_FAILURE leaves
the list as it was. That a withdrawn slice outlasts every reset is the model's reading (log 9). Rests on R76,
03_fabric_and_io. -/
def Obligations.WithdrawnInvariant : Prop :=
  ∀ s t : State, step s = .next t →
    (∀ n : Nat, hasNat s.withdrawn n = true → WithdrawnOk s → hasNat t.withdrawn n = true)
    ∧ (WithdrawnOk s → WithdrawnOk t)
    ∧ ((∀ (die : Die) (slice : Fin 48) (rest : List Instr), s.pending ≠ .sliceFailure die slice :: rest) →
      t.withdrawn = s.withdrawn)

/-- At reset the rate correction is within its bound, no slice is withdrawn, the shared buffers and every listed
memory are in canonical form, and no command waits. Rests on R440, R574. -/
def Obligations.ResetMeetsInvariants : Prop :=
  RateBound State.reset ∧ WithdrawnOk State.reset ∧ State.reset.shared.wf = true ∧ State.reset.pending = []
    ∧ (∀ n : Nat, (State.reset.core n).spad.wf = true) ∧ (∀ n : Nat, (State.reset.sub n).mem.wf = true)

/-- Right after reset the module state is BOOT, the servo reports no pulse with d = 0, cores 8 and 17 and
subchannels 32, 33, 66 and 67 are spares and every other is in service, ports A, F0 and F3 are active and the others
standby, every partition is free, and no queue, page map, session, video context or message exists. That reset
stands at the end of the soft start is the model's choice (log 2). Rests on R29, R218, R405, R446, R497, R574. -/
def Obligations.ResetValues : Prop :=
  State.reset.mode = .boot ∧ State.reset.time.rate = 0 ∧ State.reset.time.pps = .none
    ∧ (∀ n : Nat, (State.reset.core n).role = if n = 8 ∨ n = 17 then .spare else .inService)
    ∧ (∀ n : Nat, (State.reset.sub n).role = if n = 32 ∨ n = 33 ∨ n = 66 ∨ n = 67 then .spare else .inService)
    ∧ (∀ p : Nat, p < 6 → (State.reset.port p).role = if p = 0 ∨ p = 2 ∨ p = 5 then .active else .standby)
    ∧ (∀ p : Nat, (State.reset.part p).state = .free)
    ∧ State.reset.queues = [] ∧ State.reset.pageMaps = [] ∧ State.reset.sess = [] ∧ State.reset.video = []
    ∧ State.reset.tray.phase = .softStart

/-- Insertion as R29 gives it: mated blades at 28 V or more start the wait for presence; good presence with 40 V to
60 V and an inlet of at least 2 °C starts the soft start, a colder inlet holds the switch open until INLET_WARMED,
and an input outside the range, or the lock of an overcurrent opening, keeps the wait; where the switch opened for
another reason than a withdrawal the pins are only seen; the end of the soft start turns the module on and begins
the PWR start, which is held in reset while tray_reset_n is low; a presence timeout leaves exactly one connector
record per mating. Which input voltage counts as mated power is the model's choice (log 6). Rests on R29, R31, R47.
-/
def Obligations.TrayInsertion : Prop :=
  (∀ (s : State) (mv : Nat), s.tray.phase = .unpowered → 28000 ≤ mv →
    exec (.powerBladesMate mv) s = .next (s.setTray { s.tray with
      phase := .waitPresence, inputMv := mv, connectorRecorded := false, present1 := false, present2 := false
      resetLow := false, heldRecorded := false, causes := [] }))
  ∧ (∀ (s : State) (mv : Nat) (inlet : Int),
    s.tray.phase = .waitPresence ∨ s.tray.phase = .switchOpen ∧ (s.tray.present1 = false ∨ s.tray.present2 = false) →
    exec (.presenceFilterExpiry mv inlet) s = .next (s.setTray { s.tray with
      present1 := true, present2 := true, inputMv := mv, inlet := inlet,
      phase := if s.tray.phase = .switchOpen ∧ s.tray.openCause ≠ some .withdrawn then .switchOpen
        else if mv < 40000 ∨ 60000 < mv ∨ s.tray.openCause = some .overcurrent then .waitPresence
        else if inlet < 200 then .waitInlet else .softStart }))
  ∧ (∀ (s : State) (inlet : Int), s.tray.phase = .waitInlet → 200 ≤ inlet →
    exec (.inletWarmed inlet) s = .next (s.setTray { s.tray with phase := .softStart, inlet := inlet }))
  ∧ (∀ (s : State) (r : StartReport), s.tray.phase = .softStart →
    Gives (.softStartComplete r) s (fun t => t.tray = { s.tray with phase := .on, openCause := none, causes := [] }
      ∧ t.parts = [] ∧ t.sess = [] ∧ t.pageMaps = [] ∧ t.withdrawn = s.withdrawn ∧ t.out = s.out
      ∧ (s.tray.resetLow = true → t.mode = .boot ∧ ∃ cause : Nat, t.rst.running = some (.pwr, cause))))
  ∧ (∀ (s : State) (pins : BitVec 2), s.tray.phase = .waitPresence → s.tray.connectorRecorded = false →
    Gives (.presenceTimeout pins) s (fun t => t.tray = { s.tray with connectorRecorded := true }
      ∧ t.rel.stopRecs.length = s.rel.stopRecs.length + 1 ∧ Only [.tray, .rel, .store, .od] s t))
  ∧ (∀ (s : State) (pins : BitVec 2), s.tray.connectorRecorded = true → exec (.presenceTimeout pins) s = .next s)

/-- With the module on, a presence break of a pin, an overvoltage of more than 61 V for 50 µs, an overcurrent, a
loss of the input and a mean below 36 V each run the stop sequence once: the module state is OFF, the cause is the
only one of the stop, the switch is open for that reason (a lost input leaves no power), and withdrawn slices and
the state a wake would return to are untouched. The sequence being one step is the model's choice (log 2). Rests on
R26, R30, R43, R563. -/
def Obligations.TrayStops : Prop :=
  (∀ (s : State) (pins : BitVec 2) (mv us : Nat) (torn : List Nat), s.tray.phase = .on → pins ≠ 0 →
    Gives (.presenceBreak pins mv ⟨us, torn⟩) s (fun t => t.mode = .off ∧ t.tray.causes = [0x18] ∧ t.tray.phase =
        .switchOpen
      ∧ t.tray.openCause = some .withdrawn ∧ t.withdrawn = s.withdrawn ∧ t.leftMode = s.leftMode ∧ t.queues = []))
  ∧ (∀ (s : State) (mv us : Nat) (torn : List Nat), s.tray.phase = .on → 61000 < mv → 50 ≤ us →
    Gives (.inputOvervoltage mv ⟨us, torn⟩) s (fun t => t.mode = .off ∧ t.tray.causes = [0x1A] ∧ t.tray.phase = .switchOpen
      ∧ t.tray.openCause = some .overvoltage ∧ t.withdrawn = s.withdrawn ∧ t.leftMode = s.leftMode))
  ∧ (∀ (s : State) (ma us : Nat) (torn : List Nat), s.tray.phase = .on → 40000 < ma ∨ 22000 < ma ∧ 100 ≤ us →
    Gives (.inputOvercurrent ma ⟨us, torn⟩) s (fun t => t.mode = .off ∧ t.tray.causes = [0x1A] ∧ t.tray.phase = .switchOpen
      ∧ t.tray.openCause = some .overcurrent ∧ t.withdrawn = s.withdrawn ∧ t.leftMode = s.leftMode))
  ∧ (∀ (s : State) (mv us : Nat) (torn : List Nat), s.tray.phase = .on →
    Gives (.inputLoss mv ⟨us, torn⟩) s (fun t => t.mode = .off ∧ t.tray.causes = [0x1B] ∧ t.tray.phase = .unpowered
      ∧ t.tray.openCause = some .inputLost ∧ t.withdrawn = s.withdrawn ∧ t.leftMode = s.leftMode))
  ∧ (∀ (s : State) (mv us : Nat) (torn : List Nat), s.tray.phase = .on → s.mode ≠ .off → mv < 36000 →
    Gives (.inputBelow36V mv ⟨us, torn⟩) s (fun t => t.mode = .off ∧ t.tray.causes = [0x19] ∧ t.tray.phase = .switchOpen
      ∧ t.tray.openCause = some .inputLow ∧ t.withdrawn = s.withdrawn ∧ t.leftMode = s.leftMode))

/-- An asserted tray_reset_n starts a MOD reset that holds the module in BOOT, with its queues' partitions, sessions
and page maps gone, and its release restarts it; held for 30 s it opens the switch to the reset phase. With both
pins low and the input back in its range an open switch closes again through a soft start, after the wait for a warm
inlet where the inlet is colder than 2 °C; after an overcurrent opening the input must first fall below 20 V, which
leaves the islands without power. A mean below 40 V and an input sensor fault put the input-low trigger at level 7;
a coolant sensor fault counts its sensor as 100 °C and asserts its trigger. That the input sensor fault sheds as the
low input does is the model's reading (log 6). Rests on R26, R34, R35, R47, R48, R554, R573. -/
def Obligations.TrayResetAndInputs : Prop :=
  (∀ s : State, s.tray.phase = .on → s.tray.resetLow = false → s.rst.due = none → s.rst.recorded = false →
    Gives .trayResetAssert s (fun t => t.mode = .boot ∧ t.tray = { s.tray with resetLow := true, heldRecorded := false } ∧
        t.rst.running = some (.mod, 3)
      ∧ t.parts = [] ∧ t.sess = [] ∧ t.pageMaps = [] ∧ Only [.free, .out, .time, .tray, .mode, .idle, .entry, .wakeHeld,
          .rst, .cores, .queues, .queueZero, .sems, .semWait, .dram, .upsets, .spadUpsets, .ecc, .modKey, .rotation,
          .migr, .migrQueue, .pageMaps, .tlb, .kvMaps, .kvTlb, .kvDirty, .shared, .modMem, .parts, .park, .sess, .emitted,
          .grammars, .adapters, .adapterLast, .video, .fw, .ryc, .net, .ev, .rel, .sec, .pow, .store, .od, .d2dFails] s
          t))
  ∧ (∀ (s : State) (r : StartReport), s.tray.phase = .on ∨ s.tray.phase = .heldOff → s.tray.resetLow = true →
    Gives (.trayResetRelease r) s (fun t => t.tray = { s.tray with resetLow := false, phase := .on, causes := [] }
      ∧ t.parts = s.parts ∧ t.sess = s.sess ∧ t.time = s.time ∧ Only [.free, .tray, .mode, .idle, .westPrimary, .noBoot,
          .rst, .cores, .queues, .dram, .upsets, .ecc, .rotation, .tlb, .modMem, .park, .fw, .ev, .rel, .pow, .store, .od]
          s t))
  ∧ (∀ s : State, s.tray.phase = .on → s.tray.resetLow = true → s.tray.heldRecorded = false →
    Gives .trayResetHeldTimeout s (fun t => t.tray = { s.tray with phase := .heldOff, heldRecorded := true }
      ∧ t.rel.stopRecs.length = s.rel.stopRecs.length + 1 ∧ Only [.tray, .rel, .store, .od] s t))
  ∧ (∀ (s : State) (mv : Nat), s.tray.phase = .switchOpen → s.tray.present1 = true → s.tray.present2 = true → 40000 ≤ mv →
    mv ≤ 60000 → s.tray.openCause ≠ some .overcurrent → mv ≤ 59000 ∨ s.tray.openCause ≠ some .overvoltage →
    Gives (.inputSwitchReclose mv) s (fun t => t.tray = { s.tray with
      phase := if s.tray.inlet < 200 then .waitInlet else .softStart, inputMv := mv } ∧ Only [.free, .tray, .queues,
          .dram, .upsets, .ecc, .tlb, .modMem, .fw, .ev, .od] s t))
  ∧ (∀ (s : State) (mv : Nat), s.tray.phase = .switchOpen → s.tray.openCause = some .overcurrent → mv < 20000 →
    Gives (.inputSwitchReclose mv) s (fun t => t.tray = { s.tray with
      phase := .unpowered, inputMv := mv, openCause := some .inputLost, resetLow := false } ∧ Only [.free, .tray, .queues,
          .dram, .upsets, .ecc, .tlb, .modMem, .fw, .ev, .od] s t))
  ∧ (∀ (s : State) (mv : Nat), mv < 40000 → s.mode ≠ .off → s.asleep = false → (s.trig 6).asserted = false →
    Gives (.inputBelow40V mv) s (fun t => t.tray.inputMv = mv ∧ (t.trig 6).asserted = true ∧ (t.trig 6).level = Nat.max
        (s.trig 6).level 7
      ∧ Only [.free, .tray, .queues, .dram, .upsets, .ecc, .tlb, .modMem, .fw, .ev, .pow, .od] s t))
  ∧ (∀ s : State, s.mode ≠ .off → s.asleep = false → (s.trig 6).asserted = false →
    Gives .inputSensorFault s (fun t => t.tray = { s.tray with inputFault := true } ∧ (t.trig 6).asserted = true
      ∧ (t.trig 6).level = Nat.max (s.trig 6).level 7 ∧ Only [.free, .tray, .queues, .dram, .upsets, .ecc, .tlb, .modMem,
          .fw, .ev, .pow, .od] s t))
  ∧ (∀ (s : State) (outlet : Bool), s.mode ≠ .off → s.asleep = false → (s.trig 2).asserted = false →
    Gives (.coolantSensorFault outlet) s (fun t => (if outlet then t.tray.outlet else t.tray.inlet) = 10000
      ∧ (if outlet then t.tray.outletFault else t.tray.inletFault) = true ∧ (t.trig 2).asserted = true
      ∧ (t.trig 2).level = Nat.max (s.trig 2).level 2 ∧ Only [.free, .tray, .queues, .dram, .upsets, .ecc, .tlb, .modMem,
          .park, .fw, .ev, .rel, .pow, .store, .od] s t))

/-- A pulse whose raw interval from its reference is 250,000,000 ± 50,000 cycles is accepted: it becomes the last
accepted pulse, its interval joins the last sixteen, the rate is the clamped correction of R445 for the estimate
over them, the state is locked or slewing, and no later pulse may step; outside a first pulse in BOOT or TRAIN the
timebase does not step. A pulse off that interval is rejected and one without a reference only becomes one; neither
moves the timebase or the rate. Rounding to the units of the registers is free (log 1). Rests on R443, R444, R445,
R446, R447, R37. -/
def Obligations.PulseServo : Prop :=
  (∀ (s : State) (r : Nat), s.timeRuns = true → s.time.reference = some r →
    249950000 ≤ s.time.raw - r → s.time.raw - r ≤ 250050000 →
    Gives .ppsPulse s (fun t => t.time.lastAccepted = some s.time.raw ∧ t.time.lastPassed = some s.time.raw
      ∧ t.time.raw = s.time.raw ∧ t.time.intervals = ((s.time.raw - r) :: s.time.intervals).take 16
      ∧ (t.time.fNum, t.time.fDen) = freqOf (((s.time.raw - r) :: s.time.intervals).take 16)
      ∧ (∃ up : Bool, t.time.rate = rateOf up (t.time.fNum, t.time.fDen) t.time.phase)
      ∧ t.time.pps = (if -100 ≤ t.time.phase ∧ t.time.phase ≤ 100 then .locked else .slewing)
      ∧ t.time.mayStep = false ∧ t.time.stuck = false ∧ t.time.holdSince = 0
      ∧ (s.time.mayStep = false ∨ s.mode ≠ .boot ∧ s.mode ≠ .train → t.time.base = s.time.base)
      ∧ Only [.free, .time, .queues, .dram, .upsets, .ecc, .tlb, .modMem, .fw, .ev, .od] s t))
  ∧ (∀ (s : State) (r : Nat), s.timeRuns = true → s.time.reference = some r →
    s.time.raw - r < 249950000 ∨ 250050000 < s.time.raw - r →
    Gives .ppsPulse s (fun t => t.time.base = s.time.base ∧ t.time.rate = s.time.rate ∧ t.time.pps = s.time.pps
      ∧ t.time.lastAccepted = s.time.lastAccepted))
  ∧ (∀ s : State, s.timeRuns = true → s.time.reference = none →
    Gives .ppsPulse s (fun t => t.time = { s.time with lastPassed := some s.time.raw, stuck := false } ∧ t.od = s.od))
  ∧ (∀ s : State, s.timeRuns = true → s.time.pps = .locked ∨ s.time.pps = .slewing →
    Gives .ppsStuck s (fun t => t.time.pps = .holdover ∧ t.time.holdSince = s.now ∧ t.time.base = s.time.base
      ∧ (∃ up : Bool, t.time.rate = rateOf up (s.time.fNum, s.time.fDen) 0) ∧ Only [.free, .time, .queues, .dram, .upsets,
          .ecc, .tlb, .modMem, .fw, .ev, .od] s t))
  ∧ (∀ s : State, s.timeRuns = true → s.time.pps = .locked ∨ s.time.pps = .slewing → s.time.recent s.time.lastAccepted =
      none →
    Gives .holdoverEntry s (fun t => t.time.pps = .holdover ∧ t.time.holdSince = s.now ∧ t.time.base = s.time.base
      ∧ (∃ up : Bool, t.time.rate = rateOf up (s.time.fNum, s.time.fDen) 0) ∧ Only [.free, .time, .queues, .dram, .upsets,
          .ecc, .tlb, .modMem, .fw, .ev, .od] s t))

/-- A flit that fails its check counts one failure in succession of that flit, or starts the count again for another
flit, and is replayed; the sixteenth in succession, and a lost lane lock, order a WARM reset with cause 0x08 where
none is due or running, and so does a loss of lock of NOC, D2D, MEMC or DPHY; a loss of lock of ARR resets the core
where a reset of it may be taken, and one of the other domains resets no core and orders no reset of the module.
REFUSED ends through none of these (R371). The order of the 18 domains is that of R66. Rests on R59, R60, R71, R573.
-/
def Obligations.LinkAndClockFailures : Prop :=
  (∀ (s : State) (same : Bool), s.diesOn = true →
    Gives (.d2dCrcFailure true same) s (fun t => t.d2dFails = ((if same then s.d2dFails.1 + 1 else 1), s.d2dFails.2)
      ∧ Only [.free, .rst, .queues, .dram, .upsets, .ecc, .tlb, .modMem, .park, .fw, .ev, .rel, .store, .od, .d2dFails] s
          t))
  ∧ (∀ (s : State) (same : Bool), s.diesOn = true →
    Gives (.d2dCrcFailure false same) s (fun t => t.d2dFails = (s.d2dFails.1, (if same then s.d2dFails.2 + 1 else 1))
      ∧ Only [.free, .rst, .queues, .dram, .upsets, .ecc, .tlb, .modMem, .park, .fw, .ev, .rel, .store, .od, .d2dFails] s
          t))
  ∧ (∀ s : State, s.diesOn = true → s.mode ≠ .refused → s.d2dFails.1 = 15 → s.rst.due = none → s.rst.running = none →
    Gives (.d2dCrcFailure true true) s (fun t => t.rst = { s.rst with due := some 8 }))
  ∧ (∀ s : State, s.diesOn = true → s.mode ≠ .refused → s.rst.due = none → s.rst.running = none →
    Gives .d2dLaneLockLoss s (fun t => t.rst = { s.rst with due := some 8 } ∧ Only [.free, .rst, .queues, .dram, .upsets,
        .ecc, .tlb, .modMem, .park, .fw, .ev, .rel, .store, .od] s t))
  ∧ (∀ (s : State) (domain : Fin 18) (die : Die) (unit : Nat), s.diesOn = true → s.mode ≠ .refused → 1 ≤ domain.val →
    domain.val ≤ 4 → s.rst.due = none → s.rst.running = none →
    Gives (.pllLossOfLock domain die unit) s (fun t => t.rst = { s.rst with due := some 8 } ∧ t.cores = s.cores
      ∧ t.video = s.video ∧ t.net = s.net))
  ∧ (∀ (s : State) (die : Die) (unit : Nat), s.diesOn = true → s.rst.due = none → s.rst.running = none →
    (s.core (unit % 18)).role = .inService → s.coreOwner (unit % 18) = none →
    Gives (.pllLossOfLock 0 die unit) s (fun t => (t.core (unit % 18)).role = .resetting ∧ t.rst = s.rst ∧ t.video =
        s.video))
  ∧ (∀ (s : State) (domain : Fin 18) (die : Die) (unit : Nat), s.diesOn = true → 7 ≤ domain.val →
    Gives (.pllLossOfLock domain die unit) s (fun t => t.rst = s.rst ∧ t.cores = s.cores ∧ t.mode = s.mode
      ∧ t.rel.charged = s.rel.charged.upd (unitKey 17 (2 * domain.val + die.toNat)) 0 (· + 1)))

/-- An application core that fails is offline and loses its partition's runtime process; a failed sampler is down; a
failed security engine of a die is no longer trusted, and the other die's is as it was; a failed slice is withdrawn
with a failure record, and every unit is as it was. A second failure of a unit that is already out changes nothing.
Rests on R63, R76, R361, R503. -/
def Obligations.UnitFailures : Prop :=
  (∀ (s : State) (core : BitVec 4), s.diesOn = true → hasNat s.fw.appOffline core.toNat = false →
    Gives (.appCoreFailure core) s (fun t => hasNat t.fw.appOffline core.toNat = true ∧ t.fw.appPart = s.fw.appPart.del
        core.toNat
      ∧ Only [.park, .fw, .rel, .store, .od] s t))
  ∧ (∀ (s : State) (core : BitVec 4), hasNat s.fw.appOffline core.toNat = true → exec (.appCoreFailure core) s = .next s)
  ∧ (∀ (s : State) (die : Die), s.diesOn = true → hasNat s.fw.samplerDown die.toNat = false →
    Gives (.samplerFailure die) s (fun t => hasNat t.fw.samplerDown die.toNat = true ∧ t.fw.appOffline = s.fw.appOffline
      ∧ Only [.park, .fw, .rel, .store, .od] s t))
  ∧ (∀ s : State, s.diesOn = true → s.sec.eastOk = true →
    Gives (.securityEngineFailure 0) s (fun t => t.sec = { s.sec with eastOk := false } ∧ Only [.free, .mode, .idle,
        .entry, .leftMode, .wakeHeld, .rst, .queues, .dram, .upsets, .ecc, .tlb, .modMem, .park, .fw, .ev, .rel, .sec,
        .pow, .store, .od] s t))
  ∧ (∀ s : State, s.diesOn = true → s.sec.westOk = true →
    Gives (.securityEngineFailure 1) s (fun t => t.sec = { s.sec with westOk := false } ∧ Only [.free, .mode, .idle,
        .entry, .leftMode, .wakeHeld, .rst, .queues, .dram, .upsets, .ecc, .tlb, .modMem, .park, .fw, .ev, .rel, .sec,
        .pow, .store, .od] s t))
  ∧ (∀ (s : State) (die : Die) (slice : Fin 48), s.diesOn = true → hasNat s.withdrawn (48 * die.toNat + slice.val) = false →
    Gives (.sliceFailure die slice) s (fun t => t.withdrawn = insertNat s.withdrawn (48 * die.toNat + slice.val)
      ∧ hasNat t.withdrawn (48 * die.toNat + slice.val) = true ∧ Only [.free, .withdrawn, .park, .fw, .rel, .store, .od] s
          t))

/-- What the protection regions of R355 grant is no fault and a granted store changes the component's memory only. A
fault with a cause of R357 of a running component other than the kernel and the loader is charged to that component
and leaves sessions, partitions, cores and the module state as they are; a fault of the kernel or the loader orders
a WARM reset; a first budget overrun of a running component is only noted, and a second within 1 s is a fault with
cause 0x07; a firmware core that fails is offline. Rests on R355, R356, R357, R358, R360, R361. -/
def Obligations.FirmwareFaults : Prop :=
  (∀ (s : State) (die : Die) (comp : BitVec 4) (event : CompEvent) (copyOk : Bool), s.firmwareUp = true → s.mode ≠
      .refused →
    (s.comp die.toNat comp.toNat).causeOf event ≠ 0 → comp.toNat ≤ 1 →
    (s.comp die.toNat comp.toNat).state = .running → s.rst.due = none → s.rst.running = none →
    Gives (.componentFault die comp ⟨event, copyOk⟩) s (fun t => t.rst = { s.rst with due := some 8 } ∧ Only [.free, .out,
        .rst, .queues, .dram, .upsets, .ecc, .tlb, .modMem, .park, .video, .fw, .ryc, .ev, .rel, .store, .od] s t))
  ∧ (∀ (s : State) (die : Die) (comp : BitVec 4) (a : Nat) (bs : List Byte) (copyOk : Bool), s.firmwareUp = true →
    (s.comp die.toNat comp.toNat).state = .running → (s.comp die.toNat comp.toNat).causeOf (.store a bs) = 0 →
    Gives (.componentFault die comp ⟨.store a bs, copyOk⟩) s (fun t =>
      t.comp die.toNat comp.toNat = (s.comp die.toNat comp.toNat).access (.store a bs) ∧ t.rst = s.rst ∧ t.rel = s.rel))
  ∧ (∀ (s : State) (die : Die) (comp : BitVec 4) (event : CompEvent) (copyOk : Bool), s.firmwareUp = true →
    (s.comp die.toNat comp.toNat).causeOf event ≠ 0 → 2 ≤ comp.toNat → (s.comp die.toNat comp.toNat).state = .running →
    Gives (.componentFault die comp ⟨event, copyOk⟩) s (fun t => t.mode = s.mode ∧ t.sess = s.sess ∧ t.parts = s.parts ∧
        t.cores = s.cores
      ∧ t.rel.charged = s.rel.charged.upd (unitKey 7 (16 * die.toNat + comp.toNat)) 0 (· + 1)
      ∧ Only [.free, .out, .rst, .queues, .dram, .upsets, .ecc, .tlb, .modMem, .park, .video, .fw, .ryc, .ev, .rel,
          .store, .od] s t))
  ∧ (∀ (s : State) (die : Die) (comp : BitVec 4) (copyOk : Bool), s.firmwareUp = true →
    (s.comp die.toNat comp.toNat).state = .running → (s.comp die.toNat comp.toNat).lastOverrun = none →
    exec (.budgetOverrun die ⟨comp, copyOk⟩) s = .next (s.putComp die.toNat comp.toNat
      { s.comp die.toNat comp.toNat with lastOverrun := some s.now }))
  ∧ (∀ (s : State) (die : Die) (comp : BitVec 4) (copyOk : Bool) (t0 : Nat), s.firmwareUp = true →
    (s.comp die.toNat comp.toNat).state = .running → (s.comp die.toNat comp.toNat).lastOverrun = some t0 →
    s.now ≤ t0 + 250000000 →
    exec (.budgetOverrun die ⟨comp, copyOk⟩) s = .next (s.compFault die.toNat comp.toNat 7 copyOk))
  ∧ (∀ (s : State) (core : BitVec 3) (trigger : Nat) (badCopies : List (BitVec 4)), s.mode = .train → s.noBoot = false → 1
      ≤ trigger → trigger ≤ 3 →
    hasNat s.fw.fwOffline core.toNat = false →
    Gives (.firmwareCoreFailure core ⟨trigger, badCopies⟩) s (fun t => hasNat t.fw.fwOffline core.toNat = true ∧ t.mode =
        .train
      ∧ Only [.free, .out, .mode, .idle, .entry, .leftMode, .wakeHeld, .rst, .queues, .dram, .upsets, .ecc, .tlb, .modMem,
          .park, .video, .fw, .ryc, .ev, .rel, .pow, .store, .od] s t))

/-- A droop trip above 600 MHz puts the core 25 MHz lower, and not below 600 MHz; at 600 MHz it gates the core.
After 10 µs without a trip an ungated core rises by 25 MHz, or runs free once it reaches its ceiling, and a gated
one runs again; a core gated for 1 ms is reset. A patrol read corrects one upset bit of a word and notes the line,
with the bytes as they were; two or more upset bits of a word mark the line as poison; both leave no upset behind
and every other core as it was. A read of a scratchpad in which no bit is upset changes nothing. That two or more
bits count as the double-bit error is the model's reading (log 136). Rests on R112, R113, R114, R118, R119, R120. -/
def Obligations.DroopAndPatrol : Prop :=
  (∀ (s : State) (n : CoreId), s.asleep = false → (s.core n.val).gated = false → (s.core n.val).role = .inService → 600 <
      s.arrMhz n.val →
    exec (.droopTrip n) s = .next ((s.odInc (0x2110 + n.val) 6 1).putCore n.val { s.core n.val with
      droopMhz := Nat.max 600 (s.arrMhz n.val - 25), lastTrip := s.now, lastRise := s.now }))
  ∧ (∀ (s : State) (n : CoreId), s.asleep = false → (s.core n.val).gated = false → (s.core n.val).role = .inService →
      s.arrMhz n.val ≤ 600 →
    Gives (.droopTrip n) s (fun t => t.core n.val = { s.core n.val with gated := true, droopMhz := 600, lastTrip := s.now }
      ∧ (∀ m : Nat, m ≠ n.val → t.core m = s.core m) ∧ Only [.free, .cores, .queues, .dram, .upsets, .ecc, .tlb, .modMem,
          .fw, .ev, .rel, .od] s t))
  ∧ (∀ (s : State) (n : CoreId), (s.core n.val).lastTrip + 2500 ≤ s.now → (s.core n.val).lastRise + 2500 ≤ s.now →
    (s.core n.val).gated = false → (s.core n.val).droopMhz < 1100 →
    exec (.droopRecoveryStep n) s = .next (s.putCore n.val { s.core n.val with
      lastRise := s.now
      droopMhz := if s.arrCeiling n.val ≤ (s.core n.val).droopMhz + 25 then 1100 else (s.core n.val).droopMhz + 25 }))
  ∧ (∀ (s : State) (n : CoreId), (s.core n.val).lastTrip + 2500 ≤ s.now → (s.core n.val).lastRise + 2500 ≤ s.now →
    (s.core n.val).gated = true →
    Gives (.droopRecoveryStep n) s (fun t => t.core n.val = { s.core n.val with gated := false, lastRise := s.now }
      ∧ (∀ m : Nat, m ≠ n.val → t.core m = s.core m) ∧ Only [.free, .cores, .queues, .dram, .upsets, .ecc, .tlb, .modMem,
          .fw, .ev, .od] s t))
  ∧ (∀ (s : State) (n : CoreId), (s.core n.val).gated = true → (s.core n.val).lastTrip + 250000 ≤ s.now → s.coreResetOk
      n.val = true →
    Gives (.droopGateTimeout n) s (fun t => (t.core n.val).role = .resetting ∧ (t.core n.val).gated = false
      ∧ (t.core n.val).resetCause = 0x0D ∧ (t.core n.val).spad = {} ∧ (∀ m : Nat, m ≠ n.val → t.core m = s.core m)
      ∧ Only [.free, .out, .cores, .queues, .sems, .semWait, .dram, .upsets, .spadUpsets, .ecc, .tlb, .modMem, .park, .fw,
          .ev, .rel, .store, .od] s t))
  ∧ (∀ (s : State) (n : CoreId) (line : Fin 196608), s.spadUpsets = [] → s.ecc = [] →
    exec (.spadPatrolRead n line []) s = .next s)
  ∧ (∀ (s : State) (n : CoreId) (line : Fin 196608) (w : Fin 8), s.spadUpsets = [] → s.ecc = [] → s.asleep = false →
    (s.core n.val).role = .inService →
    Gives (.spadPatrolRead n line [{ core := n, line := line, word := w, bits := 0 }]) s (fun t =>
      (t.core n.val).lineFix = (s.core n.val).lineFix ++ [(s.now, line.val)] ∧ (t.core n.val).spad = (s.core n.val).spad
      ∧ t.spadUpsets = [] ∧ (∀ m : Nat, m ≠ n.val → t.core m = s.core m) ∧ Only [.free, .cores, .queues, .dram, .upsets,
          .spadUpsets, .ecc, .migr, .migrQueue, .pageMaps, .tlb, .modMem, .parts, .park, .fw, .ev, .rel, .store, .od] s
          t))
  ∧ (∀ (s : State) (n : CoreId) (line : Fin 196608) (w : Fin 8) (bits : Fin 72), s.spadUpsets = [] → s.ecc = [] →
    s.asleep = false → (s.core n.val).role = .inService → 0 < bits.val →
    Gives (.spadPatrolRead n line [{ core := n, line := line, word := w, bits := bits }]) s (fun t =>
      (t.core n.val).spad = (s.core n.val).spad.setLine line.val true ∧ t.spadUpsets = []
      ∧ (∀ m : Nat, m ≠ n.val → t.core m = s.core m) ∧ Only [.free, .cores, .queues, .dram, .upsets, .spadUpsets, .ecc,
          .migr, .migrQueue, .pageMaps, .tlb, .modMem, .parts, .park, .fw, .ev, .rel, .store, .od] s t))

/-- An ordered self-test of an idle core takes it out of service for the test; a pass returns it and a failure
retires it by a CORE reset with cause 0x0D. A CORE reset that may be taken zeroes the core's scratchpad, drops its
held tiles and its injection and takes logical numbers for its marked banks from its spares; its end returns the
core to service, or retires it where a step of the reset failed. An armed injection names its column. A swap gives
the partition the spare core in place of the core swapped out; a requalified core is a spare with one more return.
Every core that is not named stays as it was. Rests on R139, R140, R142, R143, R497, R498, R499. -/
def Obligations.CoreTestsAndResets : Prop :=
  (∀ (s : State) (n : CoreId), s.asleep = false → (s.core n.val).role = .inService → s.coreBusy n.val = false →
    Gives (.selfTest n .entry) s (fun t => t.core n.val = { s.core n.val with role := .selfTest, testPending := false }
      ∧ (∀ m : Nat, m ≠ n.val → t.core m = s.core m) ∧ t.odGet (0x2110 + n.val) 0x11 = 1 ∧ Only [.free, .idle, .cores,
          .queues, .dram, .upsets, .ecc, .tlb, .modMem, .fw, .ev, .od] s t))
  ∧ (∀ (s : State) (n : CoreId) (temp : Int), (s.core n.val).role = .selfTest →
    exec (.selfTestDone n 0 temp) s = .next ((s.putCore n.val { s.core n.val with role := .inService }).odSet (0x2110 +
        n.val) 0x11 2))
  ∧ (∀ (s : State) (n : CoreId) (failed : Nat) (temp : Int), (s.core n.val).role = .selfTest → failed ≠ 0 →
    Gives (.selfTestDone n failed temp) s (fun t => (t.core n.val).role = .retired ∧ (t.core n.val).resetCause = 0x0D
      ∧ (t.core n.val).spad = {} ∧ (∀ m : Nat, m ≠ n.val → t.core m = s.core m) ∧ t.odGet (0x2110 + n.val) 0x11 = 3
      ∧ Only [.free, .out, .cores, .queues, .sems, .semWait, .dram, .upsets, .spadUpsets, .ecc, .tlb, .modMem, .park, .fw,
          .ev, .rel, .store, .od] s t))
  ∧ (∀ (s : State) (n : CoreId) (column : BitVec 8), s.asleep = false → column.toNat < 128 →
    exec (.injectResidue n column) s = .next ((s.putCore n.val { s.core n.val with inject := some column.toNat }).odSet
        (0x2110 + n.val) 0x12 1))
  ∧ (∀ (s : State) (n : CoreId), s.coreResetOk n.val = true →
    Gives (.coreReset n .entry) s (fun t => (t.core n.val).role = .resetting ∧ (t.core n.val).resetCause = 0x0C
      ∧ (t.core n.val).spad = {} ∧ (t.core n.val).held = none ∧ (t.core n.val).inject = none
      ∧ (t.core n.val).bankMap = (s.core n.val).swapBanks.bankMap ∧ t.odGet (0x2110 + n.val) 0x10 = 1
      ∧ (∀ m : Nat, m ≠ n.val → t.core m = s.core m) ∧ Only [.free, .out, .idle, .cores, .queues, .sems, .semWait, .dram,
          .upsets, .spadUpsets, .ecc, .tlb, .modMem, .park, .fw, .ev, .rel, .store, .od] s t))
  ∧ (∀ (s : State) (n : CoreId), (s.core n.val).role = .resetting → (s.core n.val).requalBank = none →
    Gives (.coreResetDone n 0 true) s (fun t => t.core n.val = { s.core n.val with role := .inService }
      ∧ (∀ m : Nat, m ≠ n.val → t.core m = s.core m) ∧ Only [.free, .rst, .cores, .queues, .dram, .upsets, .ecc, .tlb,
          .modMem, .park, .fw, .ev, .rel, .store, .od] s t))
  ∧ (∀ (s : State) (n : CoreId) (failed : Nat), (s.core n.val).role = .resetting → (s.core n.val).requalBank = none →
      failed ≠ 0 →
    Gives (.coreResetDone n failed true) s (fun t => t.core n.val = { s.core n.val with role := .retired }
      ∧ (∀ m : Nat, m ≠ n.val → t.core m = s.core m) ∧ Only [.free, .rst, .cores, .queues, .dram, .upsets, .ecc, .tlb,
          .modMem, .park, .fw, .ev, .rel, .store, .od] s t))
  ∧ (∀ (s : State) (n : CoreId) (b : Nat) (bs : List Nat), s.swapOk n.val = true → (s.core n.val).role = .retired →
    s.spareCores (dieOfCore n.val) = b :: bs →
    Gives (.coreSwap n .entry true) s (fun t => (t.core b).role = .inService ∧ (t.core b).spad = {}
      ∧ (∀ m : Nat, m ≠ b → t.core m = s.core m) ∧ t.parts = (s.giveCore n.val b).parts ∧ Only [.free, .out, .idle,
          .cores, .queues, .sems, .semWait, .dram, .upsets, .spadUpsets, .ecc, .tlb, .modMem, .parts, .park, .fw, .ev,
          .rel, .store, .od] s t))
  ∧ (∀ s : State, s.odGet 0x2750 4 = 1 → s.odGet 0x2750 5 < 18 → (s.core (s.odGet 0x2750 5)).role = .retired →
    (s.core (s.odGet 0x2750 5)).limitRetired = false → (s.core (s.odGet 0x2750 5)).returns < 2 →
    Gives (.requalify true) s (fun t => (t.core (s.odGet 0x2750 5)).role = .spare
      ∧ (t.core (s.odGet 0x2750 5)).returns = (s.core (s.odGet 0x2750 5)).returns + 1
      ∧ (∀ m : Nat, m ≠ s.odGet 0x2750 5 → t.core m = s.core m) ∧ Only [.cores, .dram, .spadUpsets, .park, .fw, .rel,
          .store, .od] s t))

/-- For INT8 and INT4 operands and at most 2²⁴ products, the 40-bit accumulator holds exactly the initial INT32
value plus the sum of the products of the signed elements, and a rearrangement of the products gives the same
accumulator; draining it saturates to INT32, and sets the sat flag exactly where it saturates; a MATMUL whose
formats pass never reduces more than 2²⁴ elements, those of held tiles counted. Rests on R99, R103. -/
def Obligations.IntegerReduction : Prop :=
  (∀ (f g a b : Nat) (xs : List (Nat × Nat)) (init : Int), (f = 10 ∨ f = 11) → (g = 10 ∨ g = 11) → xs.length ≤ 2 ^ 24 →
    -2147483648 ≤ init → init ≤ 2147483647 →
    toSigned 40 (accumulate .int a b ⟨xs.map (fun x => elemVal f x.1), [], 0⟩ ⟨xs.map (fun x => elemVal g x.2), [], 0⟩
      (ofSigned 40 init)).1
      = init + (xs.map (fun x => toSigned (fmtBits f) x.1 * toSigned (fmtBits g) x.2)).sum)
  ∧ (∀ (f g a b init : Nat) (xs ys : List (Nat × Nat)), (f = 10 ∨ f = 11) → (g = 10 ∨ g = 11) → xs.Perm ys →
    accumulate .int a b ⟨xs.map (fun x => elemVal f x.1), [], 0⟩ ⟨xs.map (fun x => elemVal g x.2), [], 0⟩ init
      = accumulate .int a b ⟨ys.map (fun x => elemVal f x.1), [], 0⟩ ⟨ys.map (fun x => elemVal g x.2), [], 0⟩ init)
  ∧ (∀ c : Nat, drained .int c = (XVal.ofInt (max (-2147483648) (min 2147483647 (toSigned 40 c))),
      if toSigned 40 c < -2147483648 ∨ 2147483647 < toSigned 40 c then flSat else 0))
  ∧ (∀ d count : Nat, mmFormats d count = 0 → mmK d + (if mmInit d = 2 then count else 0) ≤ 2 ^ 24)

/-- MATMUL, VECOP, CONV and WINDOW, at the front of a command port of a core in service: a descriptor that fails its
checks ends with the code of the failing check and changes nothing but its queue; one that passes them, in a
scratchpad in which no bit is upset, and meets no poison writes exactly its output pieces into its core's
scratchpad, leaves the held tiles as its accumulation gives, completes with status 0x00 and its arithmetic flags,
and leaves every other core as it was. An ATTN MERGE does the same. The value padding may take where the spec states
none is free (log 1). Rests on R126, R128, R130, R133, R226, R235, R483. -/
def Obligations.CommandPortDescriptors : Prop :=
  (∀ (s : State) (q : QueueId) (n d : Nat), s.atCore q.toNat 1 = some (n, d) → dOpcode d = 0x10 → mmCheck d (s.core
      n).held ≠ 0 →
    exec (.matmul q) s = .next (s.finish q.toNat .handed (mmCheck d (s.core n).held) 0 0))
  ∧ (∀ (s : State) (q : QueueId) (n d : Nat), s.atCore q.toNat 1 = some (n, d) → dOpcode d = 0x10 → mmCheck d (s.core
      n).held = 0 → s.spadUpsets = [] →
    (s.core n).inject = none → (mmRun (s.core n).spad (s.core n).held (s.queue q.toNat).seed.toNat d).pieces.any (·.bad) =
        false →
    Gives (.matmul q) s (fun t => RunsOn s t q n (mmRun (s.core n).spad (s.core n).held (s.queue q.toNat).seed.toNat d)
      ∧ Only [.free, .out, .cores, .queues, .sems, .semWait, .dram, .upsets, .spadUpsets, .ecc, .tlb, .modMem, .park, .fw,
          .ev, .rel, .store, .od] s t))
  ∧ (∀ (s : State) (q : QueueId) (n d : Nat), s.atCore q.toNat 1 = some (n, d) → dOpcode d = 0x18 → voCheck d ≠ 0 →
    exec (.vecop q) s = .next (s.finish q.toNat .handed (voCheck d) 0 0))
  ∧ (∀ (s : State) (q : QueueId) (n d : Nat), s.atCore q.toNat 1 = some (n, d) → dOpcode d = 0x18 → voCheck d = 0 →
      s.spadUpsets = [] →
    (voRun (s.core n).spad (s.queue q.toNat).seed.toNat d).pieces.any (·.bad) = false →
    Gives (.vecop q) s (fun t => RunsOn s t q n (voRun (s.core n).spad (s.queue q.toNat).seed.toNat d) ∧ Only [.free,
        .cores, .queues, .dram, .upsets, .spadUpsets, .ecc, .tlb, .modMem, .fw, .ev, .od] s t))
  ∧ (∀ (s : State) (q : QueueId) (n d : Nat), s.atCore q.toNat 1 = some (n, d) → dOpcode d = 0x11 → cvCheck d (s.core
      n).held ≠ 0 →
    exec (.conv q) s = .next (s.finish q.toNat .handed (cvCheck d (s.core n).held) 0 0))
  ∧ (∀ (s : State) (q : QueueId) (n d : Nat), s.atCore q.toNat 1 = some (n, d) → dOpcode d = 0x11 → cvCheck d (s.core
      n).held = 0 → s.spadUpsets = [] →
    (cvRun (s.core n).spad (s.queue q.toNat).seed.toNat d (Config.freeNat s.free)).pieces.any (·.bad) = false →
    Gives (.conv q) s (fun t => RunsOn s t q n (cvRun (s.core n).spad (s.queue q.toNat).seed.toNat d (Config.freeNat
        s.free))
      ∧ Only [.free, .cores, .queues, .dram, .upsets, .spadUpsets, .ecc, .tlb, .modMem, .fw, .ev, .od] s t))
  ∧ (∀ (s : State) (q : QueueId) (n d : Nat), s.atCore q.toNat 1 = some (n, d) → dOpcode d = 0x12 → wnCheck d ≠ 0 →
    exec (.window q) s = .next (s.finish q.toNat .handed (wnCheck d) 0 0))
  ∧ (∀ (s : State) (q : QueueId) (n d : Nat), s.atCore q.toNat 1 = some (n, d) → dOpcode d = 0x12 → wnCheck d = 0 →
      s.spadUpsets = [] →
    (wnRun (s.core n).spad (s.queue q.toNat).seed.toNat d (Config.freeNat s.free)).pieces.any (·.bad) = false →
    Gives (.window q) s (fun t => RunsOn s t q n (wnRun (s.core n).spad (s.queue q.toNat).seed.toNat d (Config.freeNat
        s.free))
      ∧ Only [.free, .cores, .queues, .dram, .upsets, .spadUpsets, .ecc, .tlb, .modMem, .fw, .ev, .od] s t))
  ∧ (∀ (s : State) (q : QueueId) (n d : Nat), ((s.queue q.toNat).jobIn .waitKv) = none → s.atCore q.toNat 1 = some (n, d) →
    dOpcode d = 0x14 → atCheck d (s.core n).held = 0 → atMerge d = true → atZero d = false → s.spadUpsets = [] →
    (atMergeRun (s.core n).spad (s.queue q.toNat).seed.toNat d).pieces.any (·.bad) = false →
    Gives (.attn q) s (fun t => RunsOn s t q n (atMergeRun (s.core n).spad (s.queue q.toNat).seed.toNat d) ∧ Only [.free,
        .idle, .cores, .queues, .dram, .upsets, .spadUpsets, .ecc, .tlb, .kvMaps, .kvTlb, .shared, .modMem, .park, .fw,
        .ev, .rel, .pow, .store, .od] s t))

/-- A COPY whose fields are wrong ends with the code of its first failing check and moves nothing; one that passes
and whose spaces can be reached moves its block by the shared block copy, or its slots where it names a data queue.
An ATTN whose pages are all resident and reachable appends its new rows, attends and finishes its run from them, and
the channels it was lent return. A residue mismatch in a compared column of a MATMUL stops the descriptor with 0x4A,
leaves no held tiles, writes at most the tiles that were drained before, and leaves every other core as it was.
Rests on R135, R137, R139, R158, R164, R249, R264, R266. -/
def Obligations.CopyAndAttention : Prop :=
  (∀ (s : State) (q : QueueId) (n d : Nat), s.atCore q.toNat 2 = some (n, d) → (s.queue q.toNat).lentTo = none → dOpcode d
      = 0x20 →
    cpCheck d ≠ 0 → exec (.copy q) s = .next (s.finish q.toNat .handed (cpCheck d) 0 0))
  ∧ (∀ (s u : State) (q : QueueId) (n d : Nat), s.atCore q.toNat 2 = some (n, d) → (s.queue q.toNat).lentTo = none →
    dOpcode d = 0x20 → cpCheck d = 0 → s.cpSpaces (dieOfCore n) (s.queue q.toNat).part d = (true, u) → u.cpBound q.toNat d
        = true →
    cpTotal d ≠ 0 → cpToQueue d = false → cpFromQueue d = false →
    (cpDstSpace d = 3 ∨ strideZero (cpRows d) (cpDstStride d) (cpRowBytes d) = false) →
    (cpReads d = false ∨ cpSrcSpace d = 3 ∨ strideZero (cpRows d) (cpSrcStride d) (cpRowBytes d) = false) →
    Gives (.copy q) s (fun t => t = u.copyBlock q.toNat n (s.queue q.toNat).part d ∧ Only [.free, .cores, .queues, .dram,
        .upsets, .spadUpsets, .ecc, .tlb, .shared, .modMem, .park, .fw, .ev, .rel, .store, .od] s t))
  ∧ (∀ (s u : State) (q : QueueId) (n d : Nat), s.atCore q.toNat 2 = some (n, d) → (s.queue q.toNat).lentTo = none →
    dOpcode d = 0x20 → cpCheck d = 0 → s.cpSpaces (dieOfCore n) (s.queue q.toNat).part d = (true, u) → u.cpBound q.toNat d
        = true →
    cpTotal d ≠ 0 → (cpDstSpace d = 3 ∨ strideZero (cpRows d) (cpDstStride d) (cpRowBytes d) = false) →
    (cpReads d = false ∨ cpSrcSpace d = 3 ∨ strideZero (cpRows d) (cpSrcStride d) (cpRowBytes d) = false) →
    cpToQueue d = true ∨ cpFromQueue d = true →
    exec (.copy q) s = .next (u.stream q.toNat n d .handed))
  ∧ (∀ (s u v w : State) (q : QueueId) (n d : Nat) (xs : List KvPage) (x : List KvRow × Bool) (r : Run), (s.queue
      q.toNat).jobIn .waitKv = none →
    s.atCore q.toNat 1 = some (n, d) → dOpcode d = 0x14 → atCheck d (s.core n).held = 0 → atMerge d = false →
    s.atReady q.toNat n d s.now = (some xs, u) → u.atLoad q.toNat n d xs = (x, v) → v.atCompute q.toNat n d x = (r, w) →
    r.pieces.any (·.bad) = false →
    Gives (.attn q) s (fun t => t = ((w.usePages d true xs).finishRun q.toNat n r).unlend q.toNat ∧ Only [.free, .idle,
        .cores, .queues, .dram, .upsets, .spadUpsets, .ecc, .tlb, .kvMaps, .kvTlb, .shared, .modMem, .park, .fw, .ev,
        .rel, .pow, .store, .od] s t))
  ∧ (∀ (s : State) (q : QueueId) (column : BitVec 7) (residue : BitVec 2) (tileRow tileCol kchunk n d : Nat) (temp : Int),
    s.atCore q.toNat 1 = some (n, d) → dOpcode d = 0x10 → mmCheck d (s.core n).held = 0 → residue ≠ 0 →
    tileRow < ceilDiv (mmM d) 128 → 128 * tileCol + column.toNat < mmN d → kchunk < ceilDiv (mmK d) (kChunk (mmBFmt d)) →
    mmCompared (s.core n).spad (s.core n).held d tileRow (128 * tileCol + column.toNat) kchunk (kChunk (mmBFmt d)) = true →
    (s.core n).inject = none → s.spadUpsets = [] →
    Gives (.residueMismatch q column residue tileRow tileCol kchunk temp) s (fun t => (t.core n).held = none
      ∧ (∀ m : Nat, m ≠ n → t.core m = s.core m) ∧ Only [.free, .out, .idle, .cores, .queues, .sems, .semWait, .dram,
          .upsets, .spadUpsets, .ecc, .tlb, .kvMaps, .kvTlb, .shared, .modMem, .park, .fw, .ev, .rel, .pow, .store, .od] s
          t))

/-- A producer doorbell that no rule drops, at a command queue of depth 2ⁿ, announces (index − tail) mod 2ⁿ slots:
within the credits the tail becomes the index, taken mod 2ⁿ, and the credits fall by that number; where the number
exceeds the credits the doorbell is ignored, the queue enters FAULT with fault_code 0x19 and raises its partition's
queue-fault event, and the job groups that hold the queue abort; where the queue is in FAULT already the doorbell is
ignored and its fault_code stays. With zero slots nothing of the queue changes. Any doorbell ends IDLE
(State.active; R550). Formalises R154. -/
def Obligations.ProducerDoorbell : Prop :=
  (∀ (s : State) (q : QueueId) (word : BitVec 32) (p : PartId), s.firmwareUp = true → fld word.toNat 16 15 = 0 →
    (s.queue q.toNat).partition = p → (s.queue q.toNat).cls = 0 → (s.queue q.toNat).state ≠ .disabled →
    (word.toNat % 65536 % (s.queue q.toNat).depth + (s.queue q.toNat).depth - (s.queue q.toNat).tail.toNat) % (s.queue
        q.toNat).depth ≠ 0 →
    (word.toNat % 65536 % (s.queue q.toNat).depth + (s.queue q.toNat).depth - (s.queue q.toNat).tail.toNat) % (s.queue
        q.toNat).depth
      ≤ (s.queue q.toNat).credits.toNat →
    exec (.doorbellProducer q word p) s = .next ((s.active.putQueue q.toNat { s.queue q.toNat with
      tail := BitVec.ofNat 16 (word.toNat % 65536 % (s.queue q.toNat).depth)
      credits := BitVec.ofNat 17 ((s.queue q.toNat).credits.toNat
        - (word.toNat % 65536 % (s.queue q.toNat).depth + (s.queue q.toNat).depth - (s.queue q.toNat).tail.toNat)
          % (s.queue q.toNat).depth) }).creditWriteBack q.toNat))
  ∧ (∀ (s : State) (q : QueueId) (word : BitVec 32) (p : PartId), s.firmwareUp = true → fld word.toNat 16 15 = 0 →
    (s.queue q.toNat).partition = p → (s.queue q.toNat).cls = 0 →
    (s.queue q.toNat).state = .active ∨ (s.queue q.toNat).state = .paused →
    (s.queue q.toNat).credits.toNat
      < (word.toNat % 65536 % (s.queue q.toNat).depth + (s.queue q.toNat).depth - (s.queue q.toNat).tail.toNat) % (s.queue
          q.toNat).depth →
    exec (.doorbellProducer q word p) s = .next (State.abortGroups
        (((s.active.putQueue q.toNat { s.queue q.toNat with state := .fault, faultCode := 0x19 }).odInc 0x2300 8
            1).raisePart
          (dieOfQueue q.toNat) (s.queue q.toNat).part 0 (q.toNat + at' 17 0x19)) 1 (fun e => jgHas e q.toNat)))
  ∧ (∀ (s : State) (q : QueueId) (word : BitVec 32) (p : PartId), s.firmwareUp = true → fld word.toNat 16 15 = 0 →
    (s.queue q.toNat).partition = p → (s.queue q.toNat).cls = 0 → (s.queue q.toNat).state = .fault →
    (s.queue q.toNat).credits.toNat
      < (word.toNat % 65536 % (s.queue q.toNat).depth + (s.queue q.toNat).depth - (s.queue q.toNat).tail.toNat) % (s.queue
          q.toNat).depth →
    exec (.doorbellProducer q word p) s = .next s.active)
  ∧ (∀ (s : State) (q : QueueId) (word : BitVec 32) (p : PartId), s.firmwareUp = true → fld word.toNat 16 15 = 0 →
    (s.queue q.toNat).partition = p → (s.queue q.toNat).cls = 0 → (s.queue q.toNat).state ≠ .disabled →
    (word.toNat % 65536 % (s.queue q.toNat).depth + (s.queue q.toNat).depth - (s.queue q.toNat).tail.toNat) % (s.queue
        q.toNat).depth = 0 →
    exec (.doorbellProducer q word p) s = .next s.active)

/-- A consumer doorbell at a completion or event queue returns (index − head) mod 2ⁿ slots as credits and moves the
head; beyond the occupied slots it puts the queue in FAULT with fault_code 0x19. A doorbell of either end with a
non-zero reserved field, of another partition's software, to a DISABLED queue, or to an end whose unit is hardware,
changes nothing but the count of OD 0x2300.09. Application software, as the consumer of a command queue of kind 0xB,
returns slots the same way, and their descriptors are done with it (the model's choice, log 143). Any doorbell ends
IDLE. Rests on R153, R155, R156. -/
def Obligations.ConsumerDoorbellAndDrops : Prop :=
  (∀ (s : State) (q : QueueId) (word : BitVec 32) (p : PartId), s.firmwareUp = true → fld word.toNat 16 15 = 0 →
    (s.queue q.toNat).partition = p → 2 ≤ (s.queue q.toNat).cls.toNat → (s.queue q.toNat).state ≠ .disabled →
    (word.toNat % 65536 % (s.queue q.toNat).depth + (s.queue q.toNat).depth - (s.queue q.toNat).head.toNat) % (s.queue
        q.toNat).depth ≠ 0 →
    (word.toNat % 65536 % (s.queue q.toNat).depth + (s.queue q.toNat).depth - (s.queue q.toNat).head.toNat) % (s.queue
        q.toNat).depth
      ≤ (s.queue q.toNat).occupied →
    exec (.doorbellConsumer q word p) s = .next ((s.active.putQueue q.toNat { s.queue q.toNat with
      head := BitVec.ofNat 16 (word.toNat % 65536 % (s.queue q.toNat).depth)
      credits := BitVec.ofNat 17 ((s.queue q.toNat).credits.toNat
        + (word.toNat % 65536 % (s.queue q.toNat).depth + (s.queue q.toNat).depth - (s.queue q.toNat).head.toNat)
          % (s.queue q.toNat).depth) }).creditWriteBack q.toNat))
  ∧ (∀ (s : State) (q : QueueId) (word : BitVec 32) (p : PartId), s.firmwareUp = true → fld word.toNat 16 15 = 0 →
    (s.queue q.toNat).partition = p → (s.queue q.toNat).soft = true → (s.queue q.toNat).state ≠ .disabled →
    (word.toNat % 65536 % (s.queue q.toNat).depth + (s.queue q.toNat).depth - (s.queue q.toNat).head.toNat) % (s.queue
        q.toNat).depth ≠ 0 →
    (word.toNat % 65536 % (s.queue q.toNat).depth + (s.queue q.toNat).depth - (s.queue q.toNat).head.toNat) % (s.queue
        q.toNat).depth
      ≤ (s.queue q.toNat).occupied →
    Gives (.doorbellConsumer q word p) s (fun t => (t.queue q.toNat).jobs = finishLead (t.queue q.toNat).lead.toNat
        (s.queue q.toNat).jobs
      ∧ (t.queue q.toNat).lead = (s.queue q.toNat).lead
        + (word.toNat % 65536 % (s.queue q.toNat).depth + (s.queue q.toNat).depth - (s.queue q.toNat).head.toNat)
          % (s.queue q.toNat).depth
      ∧ (t.queue q.toNat).head = BitVec.ofNat 16 (word.toNat % 65536 % (s.queue q.toNat).depth) ∧ Only [.free, .out,
          .idle, .queues, .dram, .upsets, .ecc, .tlb, .modMem, .park, .fw, .ev, .rel, .store, .od] s t))
  ∧ (∀ (s : State) (q : QueueId) (word : BitVec 32) (p : PartId), s.firmwareUp = true → fld word.toNat 16 15 = 0 →
    (s.queue q.toNat).partition = p → 2 ≤ (s.queue q.toNat).cls.toNat → (s.queue q.toNat).state = .active →
    (s.queue q.toNat).occupied
      < (word.toNat % 65536 % (s.queue q.toNat).depth + (s.queue q.toNat).depth - (s.queue q.toNat).head.toNat) % (s.queue
          q.toNat).depth →
    Gives (.doorbellConsumer q word p) s (fun t => (t.queue q.toNat).state = .fault ∧ (t.queue q.toNat).faultCode = 0x19
      ∧ (t.queue q.toNat).head = (s.queue q.toNat).head ∧ Only [.free, .out, .idle, .queues, .dram, .upsets, .ecc, .tlb,
          .modMem, .park, .fw, .ev, .rel, .store, .od] s t))
  ∧ (∀ (s : State) (q : QueueId) (word : BitVec 32) (p : PartId), s.firmwareUp = true →
    (fld word.toNat 16 15 ≠ 0 ∨ p.toNat ≠ (s.queue q.toNat).part ∨ (s.queue q.toNat).state = .disabled ∨ (s.queue
        q.toNat).cls ≠ 0) →
    exec (.doorbellProducer q word p) s = .next (s.active.odInc 0x2300 9 1))
  ∧ (∀ (s : State) (q : QueueId) (word : BitVec 32) (p : PartId), s.firmwareUp = true →
    (fld word.toNat 16 15 ≠ 0 ∨ p.toNat ≠ (s.queue q.toNat).part ∨ (s.queue q.toNat).state = .disabled ∨ (s.queue
        q.toNat).cls = 1
      ∨ ((s.queue q.toNat).cls = 0 ∧ (s.queue q.toNat).kind ≠ 11)) →
    exec (.doorbellConsumer q word p) s = .next (s.active.odInc 0x2300 9 1))

/-- A dispatch attempt at an ACTIVE command queue whose earlier descriptors have gone to their engine, and which
holds an unread slot, reads exactly that slot: next_seq and the fetch position advance by one, and one job stands at
the end of the queue's jobs, with the sequence number it is checked against. A job that waits for a record with no
check result, once its completion queue has room, is handed to its engine where it names no semaphore, takes a unit
of its semaphore first where one is free and no take waits, and else waits in order of arrival. A check result is
finished as soon as its record is reserved. A unit that comes free goes to the take that reached the semaphore
first. A queue that is not ACTIVE dispatches nothing. Rests on R158, R160, R171. -/
def Obligations.DispatchSteps : Prop :=
  (∀ (s : State) (q : QueueId), (s.queue q.toNat).state = .active → (s.queue q.toNat).cls = 0 →
    (s.queue q.toNat).lentTo = none → s.asleep = false → s.rst.due = none → s.rst.prepared = none →
    (s.queue q.toNat).mayRead = true → (s.queue q.toNat).unread ≠ 0 → s.engineFull q.toNat = false →
    Gives (.descriptorDispatch q) s (fun t => (t.queue q.toNat).nextSeq = (s.queue q.toNat).nextSeq + 1
      ∧ (t.queue q.toNat).fetch = BitVec.ofNat 16 (((s.queue q.toNat).fetch.toNat + 1) % (s.queue q.toNat).depth)
      ∧ (t.queue q.toNat).jobs.length = (s.queue q.toNat).jobs.length + 1
      ∧ ((s.queue q.toNat).soft = false → ∃ j : Job, (t.queue q.toNat).jobs = (s.queue q.toNat).jobs ++ [j]
        ∧ j.seq = (s.queue q.toNat).nextSeq ∧ j.slot = (s.queue q.toNat).fetch)
      ∧ Only [.free, .idle, .queues, .sems, .semWait, .dram, .upsets, .ecc, .tlb, .modMem, .park, .fw, .ev, .rel, .pow,
          .store, .od] s t))
  ∧ (∀ (s : State) (q : QueueId) (js : List Job) (j : Job), (s.queue q.toNat).state = .active → (s.queue q.toNat).cls = 0 →
    (s.queue q.toNat).lead = 0 ∨ (s.queue q.toNat).soft = false →
    (s.queue q.toNat).coreOf.all (fun n => (s.core n).role.takes) = true → (s.queue q.toNat).lentTo = none → s.asleep =
        false → s.rst.due = none → s.rst.prepared = none →
    (s.queue q.toNat).jobs = js ++ [j] → j.phase = .waitRecord → j.status = 0 → dWait j.d = 0 →
    (s.queue q.toNat).link0.toNat ≠ q.toNat → (s.queue (s.queue q.toNat).link0.toNat).state ≠ .disabled →
    (s.queue (s.queue q.toNat).link0.toNat).hasRoom = true →
    Gives (.descriptorDispatch q) s (fun t => (t.queue q.toNat).jobs = js ++ [{ j with
        phase := .handed, since := s.now, pos := (s.queue (s.queue q.toNat).link0.toNat).reserved }]
      ∧ t.idle = false ∧ t.pow.lastDispatch = s.now ∧ t.sems = s.sems ∧ Only [.free, .idle, .queues, .sems, .semWait,
          .dram, .upsets, .ecc, .tlb, .modMem, .park, .fw, .ev, .rel, .pow, .store, .od] s t))
  ∧ (∀ (s : State) (q : QueueId) (js : List Job) (j : Job), (s.queue q.toNat).state = .active → (s.queue q.toNat).cls = 0 →
    (s.queue q.toNat).lentTo = none → s.asleep = false → s.rst.due = none → s.rst.prepared = none →
    (s.queue q.toNat).jobs = js ++ [j] → j.phase = .waitRecord → j.status = 0 → dWait j.d ≠ 0 →
    (s.queue q.toNat).link0.toNat ≠ q.toNat → (s.queue (s.queue q.toNat).link0.toNat).state ≠ .disabled →
    (s.queue (s.queue q.toNat).link0.toNat).hasRoom = true →
    (s.sem (dWait j.d)).value = 0 ∨ s.semWait.all (fun w => w.1 ≠ dWait j.d) = false →
    Gives (.descriptorDispatch q) s (fun t => t.semWait = s.semWait ++ [(dWait j.d, q.toNat)] ∧ t.sems = s.sems
      ∧ (t.queue q.toNat).jobs = js ++ [{ j with
        phase := .waitSem, since := s.now, pos := (s.queue (s.queue q.toNat).link0.toNat).reserved }]
      ∧ Only [.free, .idle, .queues, .sems, .semWait, .dram, .upsets, .ecc, .tlb, .modMem, .park, .fw, .ev, .rel, .pow,
          .store, .od] s t))
  ∧ (∀ (s : State) (q : QueueId) (js : List Job) (j : Job), (s.queue q.toNat).state = .active → (s.queue q.toNat).cls = 0 →
    (s.queue q.toNat).lentTo = none → s.asleep = false → s.rst.due = none → s.rst.prepared = none →
    (s.queue q.toNat).jobs = js ++ [j] → j.phase = .waitRecord → j.status ≠ 0 →
    (s.queue q.toNat).link0.toNat ≠ q.toNat → (s.queue (s.queue q.toNat).link0.toNat).state ≠ .disabled →
    (s.queue (s.queue q.toNat).link0.toNat).hasRoom = true →
    Gives (.descriptorDispatch q) s (fun t => (t.queue q.toNat).jobs = js ++ [{ j with
        phase := .finished, pos := (s.queue (s.queue q.toNat).link0.toNat).reserved }]
      ∧ t.semWait = s.semWait ∧ Only [.free, .idle, .queues, .sems, .semWait, .dram, .upsets, .ecc, .tlb, .modMem, .park,
          .fw, .ev, .rel, .pow, .store, .od] s t))
  ∧ (∀ (s : State) (q : QueueId), (s.queue q.toNat).state ≠ .active → exec (.descriptorDispatch q) s = .next s)
  ∧ (∀ (s : State) (sem : BitVec 12) (q : Nat), s.semWait.find? (fun w => w.1 = sem.toNat) = some (sem.toNat, q) →
    (s.sem sem.toNat).value ≠ 0 →
    exec (.semaphoreTake sem) s = .next (((s.putSem sem.toNat
        { s.sem sem.toNat with value := (s.sem sem.toNat).value - 1 }).setSemWait
      (s.semWait.filter (fun v => v ≠ (sem.toNat, q)))).handOver q))
  ∧ (∀ (s : State) (sem : BitVec 12), s.semWait.find? (fun w => w.1 = sem.toNat) = none ∨ (s.sem sem.toNat).value = 0 →
    exec (.semaphoreTake sem) s = .next s)

/-- The oldest job of a command queue, once finished, leaves it: done_seq becomes its sequence number, the head
moves by one and the credit returns, and its record, with the time, its status, flags, sequence number, queue and
detail, is written at the position reserved for it. A success signals its semaphore by one; a signal at 65,535
leaves the value and makes the status 0x13, which faults the queue; an error does not signal. A job not finished
does not leave. Rests on R152, R158, R160, R168, R169. -/
def Obligations.Completion : Prop :=
  (∀ (s : State) (q : QueueId) (j : Job) (rest : List Job), (s.queue q.toNat).jobs = j :: rest → j.phase = .finished →
    (j.status ≠ 0 ∧ j.status ≠ 1) ∨ dSignal j.d = 0 →
    exec (.descriptorComplete q) s = .next ((((s.putRecord (s.queue q.toNat).link0.toNat j.pos
      (completionRecord s.now j.status.toNat j.flags.toNat (dSeq j.d) q.toNat j.detail.toNat)).popFront q.toNat j
          rest).completed
        q.toNat (s.queue q.toNat).link0.toNat j.status.toNat (s.queue q.toNat).coreOf).account.testAfter q.toNat))
  ∧ (∀ (s : State) (q : QueueId) (j : Job) (rest : List Job), (s.queue q.toNat).jobs = j :: rest → j.phase = .finished →
    (s.queue q.toNat).soft = false →
    Gives (.descriptorComplete q) s (fun t => (t.queue q.toNat).jobs = rest ∧ (t.queue q.toNat).doneSeq = j.seq
      ∧ (t.queue q.toNat).head = BitVec.ofNat 16 (((s.queue q.toNat).head.toNat + 1) % (s.queue q.toNat).depth)
      ∧ Only [.free, .out, .cores, .queues, .sems, .dram, .upsets, .ecc, .migr, .migrQueue, .pageMaps, .tlb, .modMem,
          .parts, .park, .fw, .ev, .rel, .store, .od] s t))
  ∧ (∀ (s : State) (q : QueueId) (j : Job) (rest : List Job), (s.queue q.toNat).jobs = j :: rest → j.phase = .finished →
    j.status = 0 ∨ j.status = 1 → dSignal j.d ≠ 0 → (s.sem (dSignal j.d)).owner ≠ none → (s.sem (dSignal j.d)).value ≠
        0xFFFF →
    Gives (.descriptorComplete q) s (fun t => (t.sem (dSignal j.d)).value = (s.sem (dSignal j.d)).value + 1
      ∧ (∀ m : Nat, m ≠ dSignal j.d → t.sem m = s.sem m) ∧ Only [.free, .out, .cores, .queues, .sems, .dram, .upsets,
          .ecc, .migr, .migrQueue, .pageMaps, .tlb, .modMem, .parts, .park, .fw, .ev, .rel, .store, .od] s t))
  ∧ (∀ (s : State) (q : QueueId) (j : Job) (rest : List Job), (s.queue q.toNat).jobs = j :: rest → j.phase = .finished →
    j.status = 0 ∨ j.status = 1 → dSignal j.d ≠ 0 → (s.sem (dSignal j.d)).owner ≠ none → (s.sem (dSignal j.d)).value =
        0xFFFF →
    (s.queue q.toNat).state = .active → (s.queue q.toNat).closing = false →
    Gives (.descriptorComplete q) s (fun t => t.sems = s.sems ∧ (t.queue q.toNat).state = .fault
      ∧ (t.queue q.toNat).faultCode = 0x13 ∧ Only [.free, .out, .cores, .queues, .sems, .dram, .upsets, .ecc, .migr,
          .migrQueue, .pageMaps, .tlb, .modMem, .parts, .park, .fw, .ev, .rel, .store, .od] s t))
  ∧ (∀ (s : State) (q : QueueId) (j : Job) (rest : List Job), (s.queue q.toNat).jobs = j :: rest → j.phase = .handed →
    Gives (.descriptorComplete q) s (fun t => (t.queue q.toNat).jobs = j :: rest))

/-- A semaphore wait that has reached its limit ends with 0x14 and the semaphore's number as detail, a credit wait
with 0x15 and a data wait with 0x16; a wait for a completion record goes on from now, and the queue's backlog event
is raised. A wait that has not reached its limit changes nothing. The limit is that of the queue's code, or of the
default entry for code 0, and for a data queue that of the DMA queue, of the data queue or of the default, whichever
comes first non-zero. A slot that arrives, or a credit that comes back, lets the waiting COPY of that data queue go
on. Rests on R135, R167. -/
def Obligations.QueueWaits : Prop :=
  (∀ (s : State) (q : QueueId) (j : Job), (s.queue q.toNat).jobIn .waitSem = some j →
    s.expired j.since (s.waitLimit (s.queue q.toNat).timeout.toNat 3) = true →
    exec (.waitTimeout q) s = .next ((s.finish q.toNat .waitSem 0x14 0 (dWait j.d)).setSemWait
      (s.semWait.filter (fun w => w.2 ≠ q.toNat))))
  ∧ (∀ (s : State) (q : QueueId) (j : Job), (s.queue q.toNat).jobIn .waitSem = some j →
    s.now < j.since + s.waitLimit (s.queue q.toNat).timeout.toNat 3 → exec (.waitTimeout q) s = .next s)
  ∧ (∀ (s : State) (q : QueueId) (j : Job), (s.queue q.toNat).jobIn .waitCredit = some j →
    s.expired j.since (s.dataLimit q.toNat (copyDstQueue j.d) 4) = true →
    exec (.creditTimeout q) s = .next (s.finish q.toNat .waitCredit 0x15 0 0))
  ∧ (∀ (s : State) (q : QueueId) (j : Job), (s.queue q.toNat).jobIn .waitData = some j →
    s.expired j.since (s.dataLimit q.toNat (copySrcQueue j.d) 5) = true →
    exec (.dataTimeout q) s = .next (s.finish q.toNat .waitData 0x16 0 0))
  ∧ (∀ (s : State) (q : QueueId) (j : Job), (s.queue q.toNat).jobIn .waitRecord = some j →
    s.expired j.since (s.waitLimit (s.queue q.toNat).timeout.toNat 6) = true →
    exec (.backlogTimeout q) s = .next ((s.putQueue q.toNat { s.queue q.toNat with
      jobs := (s.queue q.toNat).jobs.map (fun k => if k = j then { k with since := s.now } else k) }).raisePart
        (dieOfQueue q.toNat) (s.queue q.toNat).part 4 q.toNat))
  ∧ (∀ (s : State) (q dq : Nat), s.dataLimit q dq 4 = limitOf (if (s.queue q).timeout ≠ 0 then (s.queue q).timeout.toNat
      else if (s.queue dq).timeout ≠ 0 then (s.queue dq).timeout.toNat else s.odGet 0x2300 4))
  ∧ (∀ (s : State) (dq : QueueId) (j : Job) (n : Nat), s.asleep = false →
    (s.queue (s.queue dq.toNat).link1.toNat).jobIn .waitData = some j → (s.queue (s.queue dq.toNat).link1.toNat).coreOf =
        some n →
    copySrcQueue j.d = dq.toNat →
    exec (.dataSlotArrival dq) s = .next (s.stream (s.queue dq.toNat).link1.toNat n j.d .waitData))
  ∧ (∀ (s : State) (dq : QueueId) (j : Job) (n : Nat), s.asleep = false →
    (s.queue (s.queue dq.toNat).link0.toNat).jobIn .waitCredit = some j → (s.queue (s.queue dq.toNat).link0.toNat).coreOf
        = some n →
    copyDstQueue j.d = dq.toNat →
    exec (.dataCreditReturn dq) s = .next (s.stream (s.queue dq.toNat).link0.toNat n j.d .waitCredit))

/-- ENABLE of a DISABLED queue with a legal context sets head and tail to 0, credits to 2ⁿ and done_seq to next_seq
− 1 and makes it ACTIVE; an illegal context is rejected with 0x1C, among them one with a depth outside 2–16 or a
reserved timeout code. PAUSE acts on an ACTIVE queue, RESUME on a PAUSED one, RESTART on one in FAULT, clearing
fault_code and taking its argument as next_seq, or keeping next_seq without one; FLUSH and DISABLE act on a PAUSED
queue or one in FAULT, and a record or data queue is emptied at once. In any other state the command changes nothing
and is rejected with 0x1D, as are RESUME and RESTART of a queue of a core that is spare, retired or resetting, and
of a queue that a DISABLE is still closing (the model's choice, log 111). Rests on R149, R167, R170, R171. -/
def Obligations.QueueControl : Prop :=
  (∀ (s : State) (q : QueueId), (s.queue q.toNat).state = .disabled → s.contextOk q.toNat = true →
    exec (.enable q) s = .next ((s.putQueue q.toNat { s.queue q.toNat with
      head := 0
      tail := 0
      fetch := 0
      credits := BitVec.ofNat 17 (2 ^ (s.queue q.toNat).depthLog2.toNat)
      doneSeq := (s.queue q.toNat).nextSeq - 1
      faultCode := 0
      jobs := []
      reserved := 0
      overflow := false
      closing := false
      lead := 0
      watched := false
      state := .active }).creditWriteBack q.toNat))
  ∧ (∀ (s : State) (q : QueueId), (s.queue q.toNat).state = .disabled → s.contextOk q.toNat = false →
    exec (.enable q) s = .next (s.emit (.code 0x1C)))
  ∧ (∀ (s : State) (q : Nat), (s.queue q).depthLog2.toNat < 2 ∨ 16 < (s.queue q).depthLog2.toNat ∨ 8 ≤ (s.queue
      q).timeout.toNat →
    s.contextOk q = false)
  ∧ (∀ (s : State) (q : QueueId), (s.queue q.toNat).state ≠ .disabled → exec (.enable q) s = .next (s.emit (.code 0x1D)))
  ∧ (∀ (s : State) (q : QueueId), (s.queue q.toNat).state = .active →
    exec (.pause q) s = .next (s.putQueue q.toNat { s.queue q.toNat with state := .paused }))
  ∧ (∀ (s : State) (q : QueueId), (s.queue q.toNat).state ≠ .active → exec (.pause q) s = .next (s.emit (.code 0x1D)))
  ∧ (∀ (s : State) (q : QueueId), (s.queue q.toNat).state = .paused → s.coreBlocks (s.queue q.toNat) = false →
    (s.queue q.toNat).closing = false → (s.queue q.toNat).jobs.all (fun j => j.phase ≠ .held) = true →
    exec (.resume q) s = .next (s.putQueue q.toNat { s.queue q.toNat with state := .active }))
  ∧ (∀ (s : State) (q : QueueId), (s.queue q.toNat).state ≠ .paused ∨ s.coreBlocks (s.queue q.toNat) = true
      ∨ (s.queue q.toNat).closing = true →
    exec (.resume q) s = .next (s.emit (.code 0x1D)))
  ∧ (∀ (s : State) (q : QueueId) (arg : Option (BitVec 32)), (s.queue q.toNat).state = .fault → s.coreBlocks (s.queue
      q.toNat) = false →
    (s.queue q.toNat).closing = false → (s.queue q.toNat).jobs.all (fun j => j.phase ≠ .held) = true →
    exec (.restart q arg) s = .next (s.putQueue q.toNat { s.queue q.toNat with
      state := .active, faultCode := 0, nextSeq := arg.getD (s.queue q.toNat).nextSeq }))
  ∧ (∀ (s : State) (q : QueueId) (arg : Option (BitVec 32)), (s.queue q.toNat).state ≠ .fault
      ∨ s.coreBlocks (s.queue q.toNat) = true ∨ (s.queue q.toNat).closing = true →
    exec (.restart q arg) s = .next (s.emit (.code 0x1D)))
  ∧ (∀ (s : State) (q : QueueId), (s.queue q.toNat).state = .paused ∨ (s.queue q.toNat).state = .fault → (s.queue
      q.toNat).cls ≠ 0 →
    exec (.flush q) s = .next ((s.putQueue q.toNat (s.queue q.toNat).emptied).creditWriteBack q.toNat))
  ∧ (∀ (s : State) (q : QueueId), (s.queue q.toNat).state = .paused ∨ (s.queue q.toNat).state = .fault → (s.queue
      q.toNat).cls = 0 →
    exec (.flush q) s = .next (s.flushQueue q.toNat 0x10 false))
  ∧ (∀ (s : State) (q : QueueId), (s.queue q.toNat).state = .active ∨ (s.queue q.toNat).state = .disabled →
    exec (.flush q) s = .next (s.emit (.code 0x1D)) ∧ exec (.disable q) s = .next (s.emit (.code 0x1D)))
  ∧ (∀ (s : State) (q : QueueId), (s.queue q.toNat).state = .paused ∨ (s.queue q.toNat).state = .fault → (s.queue
      q.toNat).cls ≠ 0 →
    (s.queue q.toNat).jobs = [] →
    Gives (.disable q) s (fun t => (t.queue q.toNat).state = .disabled ∧ (t.queue q.toNat).head = (s.queue q.toNat).tail
      ∧ (∀ k : Nat, k ≠ q.toNat → (t.queue k).state = (s.queue k).state ∧ (t.queue k).jobs = (s.queue k).jobs) ∧ Only
          [.free, .out, .queues, .sems, .semWait, .dram, .upsets, .ecc, .tlb, .modMem, .park, .fw, .ev, .rel, .store, .od]
          s t))

/-- While the dies run, a write of a queue context takes effect on a DISABLED queue, in its writable fields alone,
is rejected with 0x1D elsewhere, and changes no queue where a reserved field is not zero; a semaphore other than 0
takes its owner and value; a page-map entry keeps the fields that hardware writes; a KV entry keeps its last_use and
waits for its invalidation; steering rules, job groups, the owners of assignable sources, taken mailbox messages,
the heartbeat, the counts of the runtime, an adapter's new version, which no living version of the adapter has, and
the core of a runtime process take the value written. Asleep, and in OFF, no write has an effect. Rests on R10,
R149, R159, R187, R255, R304, R306, R362, R414, R432, R454, R578. -/
def Obligations.ManagementWrites : Prop :=
  (∀ (s : State) (q : QueueId) (ctx : BitVec 512), s.asleep = false → s.mode ≠ .off → (s.queue q.toNat).state = .disabled →
    fld ctx.toNat 328 3 = 0 → fld ctx.toNat 0 112 = 0 →
    exec (.registerWrite (.queueContext q ctx)) s = .next (s.putQueue q.toNat ((s.queue q.toNat).setWord ctx.toNat)))
  ∧ (∀ (s : State) (q : QueueId) (ctx : BitVec 512), s.asleep = false → s.mode ≠ .off → (s.queue q.toNat).state =
      .disabled →
    fld ctx.toNat 328 3 ≠ 0 ∨ fld ctx.toNat 0 112 ≠ 0 →
    Gives (.registerWrite (.queueContext q ctx)) s (fun t => t.queues = s.queues))
  ∧ (∀ (s : State) (q : QueueId) (ctx : BitVec 512), s.asleep = false → s.mode ≠ .off → (s.queue q.toNat).state ≠
      .disabled →
    exec (.registerWrite (.queueContext q ctx)) s = .next (s.emit (.code 0x1D)))
  ∧ (∀ (x : Queue) (w : Nat), (x.setWord w).seed.toNat = fld w 448 64 ∧ (x.setWord w).nextSeq.toNat = fld w 416 32
    ∧ (x.setWord w).ringBase.toNat = fld w 336 48 ∧ (x.setWord w).depthLog2.toNat = fld w 331 5
    ∧ (x.setWord w).engine.toNat = fld w 282 12 ∧ (x.setWord w).timeout.toNat = fld w 267 4
    ∧ (x.setWord w).cls.toNat = fld w 262 2 ∧ (x.setWord w).creditWb.toNat = fld w 144 48
    ∧ (x.setWord w).doneSeq = x.doneSeq ∧ (x.setWord w).state = x.state ∧ (x.setWord w).credits = x.credits
    ∧ (x.setWord w).head = x.head ∧ (x.setWord w).tail = x.tail ∧ (x.setWord w).faultCode = x.faultCode
    ∧ (x.setWord w).jobs = x.jobs)
  ∧ (∀ (s : State) (sem : BitVec 12) (owner : Option PartId) (value : BitVec 16), s.asleep = false → s.mode ≠ .off → sem ≠
      0 →
    exec (.registerWrite (.semaphore sem owner value)) s = .next (s.putSem sem.toNat { value := value, owner := owner }))
  ∧ (∀ (s : State) (p : PartId) (page : BitVec 18) (e : BitVec 128), s.asleep = false → s.mode ≠ .off →
    Gives (.registerWrite (.pageMap p page e)) s (fun t => fld (t.pageMaps.getD (2 ^ 18 * p.toNat + page.toNat) 0) 99 29 =
        fld e.toNat 99 29
      ∧ (∀ n : Nat, (s.sub n).role ≠ .degraded → (t.sub n).role = (s.sub n).role) ∧ Only [.dram, .rotation, .pageMaps,
          .parts, .rel, .store, .od] s t
      ∧ (∀ k : Nat, k ≠ 2 ^ 18 * p.toNat + page.toNat → t.pageMaps.getD k 0 = s.pageMaps.getD k 0) ∧ t.tlb = s.tlb))
  ∧ (∀ (s : State) (die : Die) (ix : BitVec 19) (e : BitVec 128), s.asleep = false → s.mode ≠ .off → kvReserved e.toNat =
      false →
    exec (.registerWrite (.kvMap die ix e)) s = .next ((s.setKvMaps (putOrDel s.kvMaps (2 ^ 19 * die.toNat + ix.toNat)
      (setFld e.toNat 69 16 (kvLastUse (s.kvMaps.getD (2 ^ 19 * die.toNat + ix.toNat) 0))))).setKvDirty
        (insertNat s.kvDirty (2 ^ 19 * die.toNat + ix.toNat))))
  ∧ (∀ (s : State) (l : LinkId) (ix : BitVec 8) (rule : BitVec 64), s.asleep = false → s.mode ≠ .off → s.ruleOk rule.toNat
      = true →
    exec (.registerWrite (.steering l ix rule)) s = .next (s.setNet { s.net with
      steer := putOrDel s.net.steer (256 * l.val + ix.toNat) rule.toNat }))
  ∧ (∀ (s : State) (ix : BitVec 6) (e : BitVec 256), s.asleep = false → s.mode ≠ .off → fld e.toNat 148 8 = 0 →
    fld e.toNat 0 24 = 0 →
    exec (.registerWrite (.jobGroup ix e)) s = .next (s.setNet
        { s.net with groups := putOrDel s.net.groups ix.toNat e.toNat }))
  ∧ (∀ (s : State) (die : Die) (src : BitVec 10) (owner : Option PartId), s.asleep = false → s.mode ≠ .off → 256 ≤
      src.toNat →
    exec (.registerWrite (.sourceAllot die src owner)) s
      = .next (s.putSource die.toNat src.toNat { s.source die.toNat src.toNat with owner := owner }))
  ∧ (∀ (s : State) (die : Die) (m : BitVec 6) (n : Nat), s.asleep = false → s.mode ≠ .off →
    exec (.registerWrite (.mailboxTaken die m n)) s
      = .next (s.putMbx die.toNat m.toNat ((s.mbx die.toNat m.toNat).taken n)))
  ∧ (∀ s : State, s.asleep = false → s.mode ≠ .off →
    Gives (.registerWrite .heartbeat) s (fun t => t.odGet 0x2000 8 = (s.odGet 0x2000 8 + 1) % 2 ^ 64
      ∧ (∀ i sub : Nat, sub < 256 → (i, sub) ≠ (0x2000, 8) → t.odGet i sub = s.odGet i sub) ∧ Only [.od] s t))
  ∧ (∀ (s : State) (p : PartId) (a : BitVec 10) (d : BitVec 256), s.asleep = false → s.mode ≠ .off →
    (s.adapters.filter (fun x => decide (x.part = p.toNat) && decide (x.id = a.toNat))).length < 4 →
    Gives (.registerWrite (.adapterLoad p a d)) s (fun t => ∃ v : Nat, 1 ≤ v ∧ v ≤ 65535
      ∧ t.adapters = s.adapters ++ [{ part := p.toNat, id := a.toNat, version := v, digest := d }]
      ∧ ∀ x ∈ s.adapters, x.part = p.toNat → x.id = a.toNat → x.version ≠ v))
  ∧ (∀ (s : State) (p : PartId) (a : BitVec 10) (v : BitVec 16), s.asleep = false → s.mode ≠ .off →
    exec (.registerWrite (.adapterFree p a v)) s = .next (s.setAdapters (s.adapters.filter (fun x =>
      !(decide (x.part = p.toNat) && decide (x.id = a.toNat) && decide (x.version = v.toNat))))))
  ∧ (∀ s : State, s.asleep = false → s.mode ≠ .off →
    exec (.registerWrite .conversationPaused) s = .next (s.odInc 0x2400 0x10 1)
    ∧ exec (.registerWrite .conversationResumed) s = .next (s.odInc 0x2400 0x11 1))
  ∧ (∀ (s : State) (c : BitVec 4) (p : PartId), s.asleep = false → s.mode ≠ .off →
    exec (.registerWrite (.runtimeCore c (some p))) s = .next (s.setFw
        { s.fw with appPart := s.fw.appPart.put c.toNat p.toNat }))
  ∧ (∀ (s : State) (w : MgmtWrite), s.asleep = true ∨ s.mode = .off → exec (.registerWrite w) s = .next s)

/-- A patrol read of a line in which no upset stands changes nothing. One that corrects the line leaves no upset,
notes the time and the row, leaves the line unpoisoned and every other subchannel's notes as they were; the second
in one row within 24 h repairs the row where each device has a repair left. An uncorrectable line is poisoned, its
row is noted and repaired, and a subchannel in service whose devices cannot repair it begins its retirement. A
subchannel above 85 °C is refreshed at the fast rate. The training cache takes the present temperatures. An
invalidation drops the translation of its page on both dies and nothing else. Rests on R184, R189, R191, R196, R197,
R203, R585. -/
def Obligations.MemoryPatrol : Prop :=
  (∀ (s : State) (die : Die) (sub : Fin 34) (line : BitVec 27), s.upsets = [] → s.ecc = [] → exec (.patrolRead die sub
      line []) s = .next s)
  ∧ (∀ (s : State) (die : Die) (sub : Fin 34) (line : BitVec 27) (xs : List LineUpset) (e : Nat), s.asleep = false →
      s.mode ≠ .off → s.ecc = [] →
    line.toNat < regionLine → (s.sub (subNumber die sub)).mem.lineBad line.toNat = false →
    (s.strike xs).upsets = [(upsetKey (subNumber die sub) line.toNat, e)] → rsRead e = (.corrected, 0) → s.ev.ctr = [] →
    Gives (.patrolRead die sub line xs) s (fun t => t.upsets = [] ∧ t.ecc = []
      ∧ (t.sub (subNumber die sub)).fixes = (s.sub (subNumber die sub)).fixes ++ [(s.now, rowOfLine line.toNat)]
      ∧ (t.sub (subNumber die sub)).bad = (s.sub (subNumber die sub)).bad ∧ (t.sub (subNumber die sub)).mem.lineBad
          line.toNat = false
      ∧ (∀ m : Nat, m ≠ subNumber die sub → (t.sub m).fixes = (s.sub m).fixes) ∧ Only [.free, .cores, .queues, .dram,
          .upsets, .ecc, .migr, .migrQueue, .pageMaps, .tlb, .modMem, .parts, .park, .fw, .ev, .rel, .store, .od] s t))
  ∧ (∀ (s : State) (die : Die) (sub : Fin 34) (line : BitVec 27) (xs : List LineUpset) (e t0 : Nat), s.asleep = false →
      s.mode ≠ .off → s.ecc = [] →
    line.toNat < regionLine → (s.sub (subNumber die sub)).mem.lineBad line.toNat = false →
    (s.strike xs).upsets = [(upsetKey (subNumber die sub) line.toNat, e)] → rsRead e = (.corrected, 0) → s.ev.ctr = [] →
    (t0, rowOfLine line.toNat) ∈ (s.sub (subNumber die sub)).fixes → s.now < t0 + day24 → (s.sub (subNumber die
        sub)).canRepair (rowOfLine line.toNat) = true →
    Gives (.patrolRead die sub line xs) s (fun t => (t.sub (subNumber die sub)).softRows = insertNat (s.sub (subNumber die
        sub)).softRows (rowOfLine line.toNat)
      ∧ (∀ d : Nat, d < 3 → (t.sub (subNumber die sub)).pprLeft d (rowOfLine line.toNat % 8)
        = (s.sub (subNumber die sub)).pprLeft d (rowOfLine line.toNat % 8) - 1)))
  ∧ (∀ (s : State) (die : Die) (sub : Fin 34) (line : BitVec 27) (xs : List LineUpset) (e : Nat), s.asleep = false →
      s.mode ≠ .off → s.ecc = [] →
    line.toNat < regionLine → (s.sub (subNumber die sub)).mem.lineBad line.toNat = false →
    (s.strike xs).upsets = [(upsetKey (subNumber die sub) line.toNat, e)] → (rsRead e).1 = .uncorrectable → s.ev.ctr = [] →
    (s.source (dieOfSub (subNumber die sub)) 184).control = 0 → (s.source (dieOfSub (subNumber die sub)) 185).control = 0 →
    Gives (.patrolRead die sub line xs) s (fun t => t.upsets = [] ∧ (t.sub (subNumber die sub)).mem.lineBad line.toNat =
        true
      ∧ (t.sub (subNumber die sub)).bad = (s.sub (subNumber die sub)).bad ++ [(s.now, rowOfLine line.toNat)]
      ∧ ((s.sub (subNumber die sub)).canRepair (rowOfLine line.toNat) = true →
        (t.sub (subNumber die sub)).softRows = insertNat (s.sub (subNumber die sub)).softRows (rowOfLine line.toNat))
      ∧ ((s.sub (subNumber die sub)).canRepair (rowOfLine line.toNat) = false → (s.sub (subNumber die sub)).role =
          .inService →
        s.migr.find (dieOfSub (subNumber die sub)) = none → s.spareSubs (dieOfSub (subNumber die sub)) ≠ [] → (t.sub
            (subNumber die sub)).role = .migratingOut)
      ∧ Only [.free, .cores, .queues, .dram, .upsets, .ecc, .migr, .migrQueue, .pageMaps, .tlb, .modMem, .parts, .park,
          .fw, .ev, .rel, .store, .od] s t))
  ∧ (∀ (s : State) (n : SubId) (temp : Int), temp ≤ 9500 →
    exec (.refreshRateChange n temp) s = .next (s.putSub n.val { s.sub n.val with
      temp := temp, fastRefresh := decide (8500 < temp) }))
  ∧ (∀ (s : State) (n : SubId) (temp : Int), 9500 < temp → s.mode ≠ .off → s.asleep = false →
    Gives (.refreshRateChange n temp) s (fun t => (t.sub n.val).temp = temp ∧ (t.sub n.val).fastRefresh = true
      ∧ (t.trig (trigIndex .dramHot)).asserted = true))
  ∧ (∀ s : State, s.asleep = false → s.mode ≠ .off →
    Gives .trainingCacheUpdate s (fun t => t.dram = s.dram.mapVals (fun _ u => { u with cacheTemp := u.temp })
      ∧ Only [.dram, .rel, .store, .od] s t))
  ∧ (∀ (s : State) (p : PartId) (page : BitVec 18), exec (.translationInvalidate p page) s
      = .next (s.setTlb ((s.tlb.del (2 ^ 18 * p.toNat + page.toNat)).del (2 ^ 21 + (2 ^ 18 * p.toNat + page.toNat)))))

/-- An ordered retirement of an in-service subchannel, where its die runs none, takes the first spare of the die as
its target and makes the two roles migrating; without a spare the subchannel is degraded; where one runs it waits
behind those that wait. One of a subchannel that is not in service is rejected. A copied page's entry names the
target, is no longer marked as migrating, and its memory there is the copied extent. With no page left, the module
region's blocks on the source follow, 2 MiB at a time (log 139), and then the target is in service and the source is
retired with its memory gone. Rests on R203, R204, R205. -/
def Obligations.SubchannelRetirement : Prop :=
  (∀ (s : State) (n : SubId) (b : Nat) (bs : List Nat), s.asleep = false → (s.sub n.val).role = .inService →
    s.migr.find (dieOfSub n.val) = none → s.spareSubs (dieOfSub n.val) = b :: bs →
    Gives (.subchannelRetire n .entry) s (fun t => (t.sub n.val).role = .migratingOut ∧ (t.sub b).role = .migratingIn
      ∧ t.migr.find (dieOfSub n.val) = some
          { src := n.val, dst := b, trigger := 4, left := s.pagesOn n.val, region := if (indexOf n.val (s.ringOf (dieOfSub n.val))).isSome then 64 else 0 }
      ∧ t.odGet (0x2210 + n.val) 0x0B = 1 ∧ (∀ m : Nat, m ≠ n.val → m ≠ b → (t.sub m).role = (s.sub m).role)
      ∧ Only [.free, .idle, .queues, .dram, .upsets, .ecc, .migr, .migrQueue, .pageMaps, .tlb, .modMem, .parts, .fw, .ev,
          .rel, .store, .od] s t))
  ∧ (∀ (s : State) (n : SubId), s.asleep = false → (s.sub n.val).role = .inService → s.migr.find (dieOfSub n.val) = none →
    s.spareSubs (dieOfSub n.val) = [] →
    Gives (.subchannelRetire n .entry) s (fun t => (t.sub n.val).role = .degraded ∧ t.migr = s.migr
      ∧ t.odGet (0x2210 + n.val) 0x0B = 3 ∧ (∀ m : Nat, m ≠ n.val → (t.sub m).role = (s.sub m).role)
      ∧ Only [.free, .idle, .queues, .dram, .upsets, .ecc, .migr, .migrQueue, .pageMaps, .tlb, .modMem, .parts, .fw, .ev,
          .rel, .store, .od] s t))
  ∧ (∀ (s : State) (n : SubId) (m : Migr), s.asleep = false → (s.sub n.val).role = .inService →
    s.migr.find (dieOfSub n.val) = some m → s.migrQueue.any (fun x => x.1 = n.val) = false →
    exec (.subchannelRetire n .entry) s = .next ((s.odSet (0x2210 + n.val) 0x0B 1).setMigrQueue (s.migrQueue ++ [(n.val,
        4)])))
  ∧ (∀ (s : State) (n : SubId), s.asleep = false → (s.sub n.val).role ≠ .inService →
    exec (.subchannelRetire n .entry) s = .next (s.odSet (0x2210 + n.val) 0x0B 3))
  ∧ (∀ (s : State) (die : Die) (m : Migr) (key : Nat) (rest : List Nat), s.asleep = false → s.migr.find die.toNat = some m →
    m.left = key :: rest → peValid (s.pageMaps.getD key 0) = true → peSub (s.pageMaps.getD key 0) = m.src → m.dst < 68 →
    s.upsets = [] → s.ecc = [] →
    Gives (.migrationPageCopied die) s (fun t => peSub (t.pageMaps.getD key 0) = m.dst
      ∧ fld (t.pageMaps.getD key 0) 4 1 = 0 ∧ peUnit (t.pageMaps.getD key 0) = peUnit (s.pageMaps.getD key 0)
      ∧ (t.sub m.dst).mem = copyExtent (s.sub m.src).mem (s.sub m.dst).mem (65536 * peUnit (s.pageMaps.getD key 0))
          (65536 * peUnits (s.pageMaps.getD key 0))
      ∧ t.migr.find die.toNat = some { m with left := rest, copied := m.copied + 1 }
      ∧ (∀ k : Nat, k ≠ key → t.pageMaps.getD k 0 = s.pageMaps.getD k 0) ∧ (∀ k : Nat, k ≠ m.dst → t.sub k = s.sub k)
      ∧ Only [.dram, .pageMaps, .tlb, .migr] s t))
  ∧ (∀ (s : State) (die : Die) (m : Migr) (k : Nat), s.asleep = false → s.migr.find die.toNat = some m → m.left = [] →
      m.region = k + 1 →
    exec (.migrationPageCopied die) s = .next (s.setMigr (s.migr.put die.toNat { m with region := k })))
  ∧ (∀ (s : State) (die : Die) (m : Migr), s.asleep = false → s.migr.find die.toNat = some m → m.left = [] → m.region = 0 →
    m.src ≠ m.dst → m.src < 68 → s.migrQueue = [] → s.upsets = [] →
    Gives (.migrationPageCopied die) s (fun t => (t.sub m.dst).role = .inService ∧ (t.sub m.src).role = .retired
      ∧ (t.sub m.src).mem.cells = [] ∧ (t.sub m.src).mem.poison = [] ∧ t.odGet (0x2210 + m.src) 0x0B = 2
      ∧ (∀ k : Nat, k ≠ m.src → k ≠ m.dst → t.sub k = s.sub k) ∧ Only [.free, .cores, .queues, .dram, .upsets, .ecc,
          .rotation, .migr, .migrQueue, .pageMaps, .tlb, .modMem, .parts, .park, .fw, .ev, .rel, .store, .od] s t))

/-- A load through an aperture that translates and meets no poison brings back the bytes read; one that meets
poison, and a load or store that does not translate, is a precise access fault with its core, address and kind. A
store that translates writes the shared write of partition memory. A load of the module region brings back the
region's bytes; one that meets poison is a precise access fault after which a WARM reset is due. A store there
writes the region. An access outside the ranges of R349 is a precise access fault, and a core that is offline
accesses nothing. Rests on R188, R349, R350, R352. -/
def Obligations.ApertureAccesses : Prop :=
  (∀ (s u : State) (die : Die) (core : BitVec 3) (a : BitVec 48) (p off n : Nat) (bs : List (Byte × Bool)), s.firmwareUp =
      true →
    hasNat s.fw.appOffline (appNumber die core) = false → appRange a.toNat = .aperture p off → off + n ≤ 2 ^ 39 →
    s.mread (dieOfApp (appNumber die core)) p off n = (some bs, u) → bs.any (·.2) = false →
    exec (.apertureAccess die core a (.load n)) s = .next ((u.emit (.loaded (appNumber die core) (bs.map (·.1)))).account))
  ∧ (∀ (s u : State) (die : Die) (core : BitVec 3) (a : BitVec 48) (p off n : Nat) (bs : List (Byte × Bool)), s.firmwareUp
      = true →
    hasNat s.fw.appOffline (appNumber die core) = false → appRange a.toNat = .aperture p off → off + n ≤ 2 ^ 39 →
    s.mread (dieOfApp (appNumber die core)) p off n = (some bs, u) → bs.any (·.2) = true →
    Gives (.apertureAccess die core a (.load n)) s (fun t => t.fw.lastFault = some (appNumber die core, a.toNat, true) ∧
        t.out = u.out
      ∧ Only [.free, .out, .rst, .cores, .queues, .dram, .upsets, .ecc, .migr, .migrQueue, .pageMaps, .tlb, .modMem,
          .parts, .park, .fw, .ev, .rel, .store, .od] s t))
  ∧ (∀ (s u : State) (die : Die) (core : BitVec 3) (a : BitVec 48) (p off n : Nat), s.firmwareUp = true →
    hasNat s.fw.appOffline (appNumber die core) = false → appRange a.toNat = .aperture p off → off + n ≤ 2 ^ 39 →
    s.mread (dieOfApp (appNumber die core)) p off n = (none, u) →
    exec (.apertureAccess die core a (.load n)) s = .next (u.setFw
        { u.fw with lastFault := some (appNumber die core, a.toNat, false) }).account)
  ∧ (∀ (s u : State) (die : Die) (core : BitVec 3) (a : BitVec 48) (p off : Nat) (bs : List Byte), s.firmwareUp = true →
    hasNat s.fw.appOffline (appNumber die core) = false → appRange a.toNat = .aperture p off → off + bs.length ≤ 2 ^ 39 →
    s.pwrite (dieOfApp (appNumber die core)) p off (clean bs) = (true, u) →
    exec (.apertureAccess die core a (.store bs)) s = .next u.account)
  ∧ (∀ (s u : State) (die : Die) (core : BitVec 3) (a : BitVec 48) (p off : Nat) (bs : List Byte), s.firmwareUp = true →
    hasNat s.fw.appOffline (appNumber die core) = false → appRange a.toNat = .aperture p off → off + bs.length ≤ 2 ^ 39 →
    s.pwrite (dieOfApp (appNumber die core)) p off (clean bs) = (false, u) →
    exec (.apertureAccess die core a (.store bs)) s = .next (u.setFw
        { u.fw with lastFault := some (appNumber die core, a.toNat, false) }).account)
  ∧ (∀ (s : State) (die : Die) (core : BitVec 3) (a : BitVec 48) (n : Nat), s.firmwareUp = true → hasNat s.fw.appOffline
      (appNumber die core) = false →
    a.toNat + n ≤ 2 * regionBytes → appRange a.toNat = .region → s.upsets = [] → s.ecc = [] →
    (s.regionRead a.toNat n).any (·.2) = false →
    exec (.apertureAccess die core a (.load n)) s = .next (s.emit (.loaded (appNumber die core) ((s.regionRead a.toNat
        n).map (·.1)))))
  ∧ (∀ (s : State) (die : Die) (core : BitVec 3) (a : BitVec 48) (n : Nat), s.firmwareUp = true → hasNat s.fw.appOffline
      (appNumber die core) = false →
    a.toNat + n ≤ 2 * regionBytes → appRange a.toNat = .region → s.upsets = [] → s.ecc = [] →
    (s.regionRead a.toNat n).any (·.2) = true → s.mode = .serving → s.rst.due = none → s.rst.running = none →
    Gives (.apertureAccess die core a (.load n)) s (fun t => t.fw.lastFault = some (appNumber die core, a.toNat, true) ∧
        t.out = s.out
      ∧ t.rst.due = some 7 ∧ Only [.free, .out, .rst, .cores, .queues, .dram, .upsets, .ecc, .migr, .migrQueue, .pageMaps,
          .tlb, .modMem, .parts, .park, .fw, .ev, .rel, .store, .od] s t))
  ∧ (∀ (s : State) (die : Die) (core : BitVec 3) (a : BitVec 48) (bs : List Byte), s.firmwareUp = true → hasNat
      s.fw.appOffline (appNumber die core) = false →
    a.toNat + bs.length ≤ 2 * regionBytes → appRange a.toNat = .region → s.upsets = [] → s.ecc = [] →
    exec (.apertureAccess die core a (.store bs)) s = .next (s.regionWrite a.toNat (clean bs)))
  ∧ (∀ (s : State) (die : Die) (core : BitVec 3) (a : BitVec 48) (n : Nat), s.firmwareUp = true → hasNat s.fw.appOffline
      (appNumber die core) = false →
    appRange a.toNat = .nothing → s.ecc = [] →
    exec (.apertureAccess die core a (.load n)) s = .next (s.setFw
        { s.fw with lastFault := some (appNumber die core, a.toNat, false) }))
  ∧ (∀ (s : State) (die : Die) (core : BitVec 3) (a : BitVec 48) (kind : AccessKind), hasNat s.fw.appOffline (appNumber
      die core) = true →
    exec (.apertureAccess die core a kind) s = .next s)

/-- A PARKIO descriptor that passes its checks acts on the object of its handle alone and completes with 0x00:
CREATE adds an empty object of its region with the partition's identity; WRITE stores the bytes read from memory at
its offset, extends the object to them and draws them from the write budget; READ writes the object's bytes to
memory and leaves the store as it is; TOUCH of a conversation object sets its expiry from the park clock; DELETE
removes it. A handle without an object ends with 0x61, one in use ends CREATE with 0x63, a reserved field with 0x6F,
an empty budget a KV-spill WRITE with 0x65, a length of zero with 0x01, and a descriptor not complete within 2 s
with 0x68. Rests on R208, R209, R210, R211, R212, R213, R214. -/
def Obligations.ParkOperations : Prop :=
  (∀ (s : State) (q : QueueId) (d : Nat), s.atEngine q.toNat 8 = some d → dOpcode d = 0x62 → pkReserved d = false →
      s.asleep = false →
    pkAlign d = false → pkHandle d ≠ 0 → pkRegion d = 1 ∨ (pkRegion d = 2 ∧ ttlOk (pkTtl d) = true) ∨ pkRegion d = 3 →
    s.park.find (pkHandle d) = none → s.park.objects.length < 4194304 →
    exec (.parkioCreate q) s = .next (((s.setPark { s.park with nextInner := s.park.nextInner + 1 }).setObject (pkHandle d)
      { inner := s.park.nextInner, wrapped := s.wrapObject s.park.nextInner, region := pkRegion d, owner := (s.part (s.queue q.toNat).part).owner, part := (s.queue q.toNat).part
        key := if pkRegion d = 1 then (s.part (s.queue q.toNat).part).key else s.park.salt
        expires := if pkRegion d = 2 then s.park.clock + s.ttlOf d else 0
        mem := { fill := .unwritten (2 ^ 32 + s.park.nextInner) } }).done q.toNat 0))
  ∧ (∀ (s : State) (q : QueueId) (d : Nat) (o : ParkObj), s.atEngine q.toNat 8 = some d → dOpcode d = 0x62 → pkReserved d
      = false →
    s.asleep = false → pkAlign d = false → pkHandle d ≠ 0 → pkRegion d = 1 → s.park.find (pkHandle d) = some o →
        s.outlived o = false →
    exec (.parkioCreate q) s = .next (s.done q.toNat 0x63))
  ∧ (∀ (s u v : State) (q : QueueId) (d : Nat) (o : ParkObj) (bs : List (Byte × Bool)), s.atEngine q.toNat 8 = some d →
    dOpcode d = 0x61 → pkReserved d = false → s.asleep = false → s.park.find (pkHandle d) = some o → s.outlived o = false →
    s.pkTransfer (dieOfQueue q.toNat) (s.queue q.toNat).part d true = (0, u) →
    s.mayReach (s.queue q.toNat).part o = true → pkBytes d ≠ 0 →
    u.park.used o.region + (Nat.max o.extent (pkOffset d + pkBytes d) - o.extent) ≤ u.regionSize o.region →
    o.region ≠ 1 ∨ 0 < s.park.budget →
    u.mread (dieOfQueue q.toNat) (s.queue q.toNat).part (pkMem d) (pkBytes d) = (some bs, v) →
    Gives (.parkioWrite q) s (fun t => t.park = { v.park with
        objects := v.park.objects.put (pkHandle d) { o with
          extent := Nat.max o.extent (pkOffset d + pkBytes d), mem := o.mem.store (pkOffset d) bs }
        budget := v.park.budget - pkBytes d
        written := v.park.written + pkBytes d }
      ∧ (∃ w : State, t = w.done q.toNat 0) ∧ Only [.free, .queues, .dram, .upsets, .ecc, .tlb, .modMem, .park, .fw, .ev,
          .rel, .store, .od] s t))
  ∧ (∀ (s u : State) (q : QueueId) (d : Nat) (o : ParkObj), s.atEngine q.toNat 8 = some d → dOpcode d = 0x61 → pkReserved
      d = false →
    s.asleep = false → s.park.find (pkHandle d) = some o → s.outlived o = false →
    s.pkTransfer (dieOfQueue q.toNat) (s.queue q.toNat).part d true = (0, u) → s.mayReach (s.queue q.toNat).part o = true →
    o.region = 1 → s.park.budget ≤ 0 → pkBytes d ≠ 0 →
    u.park.used 1 + (Nat.max o.extent (pkOffset d + pkBytes d) - o.extent) ≤ u.regionSize 1 →
    exec (.parkioWrite q) s = .next (u.done q.toNat 0x65))
  ∧ (∀ (s u : State) (q : QueueId) (d : Nat) (o : ParkObj), s.atEngine q.toNat 8 = some d → dOpcode d = 0x60 → pkReserved
      d = false →
    s.asleep = false → s.park.find (pkHandle d) = some o → s.outlived o = false →
    s.pkTransfer (dieOfQueue q.toNat) (s.queue q.toNat).part d false = (0, u) → s.mayReach (s.queue q.toNat).part o = true →
    pkBytes d ≠ 0 →
    Gives (.parkioRead q []) s (fun t => t.park = s.park ∧ (∃ w : State, t = w.done q.toNat 0
        ∧ w.dram = (((u.setFree (u.free + 1)).pwrite (dieOfQueue q.toNat) (s.queue q.toNat).part (pkMem d)
          (o.read (pkOffset d) (pkBytes d))).2.bumpDie (dieOfQueue q.toNat) 0x4F (some (s.queue q.toNat).part)
            (pkBytes d / 4096)).dram)
      ∧ Only [.free, .queues, .dram, .upsets, .ecc, .tlb, .modMem, .park, .fw, .ev, .rel, .store, .od] s t))
  ∧ (∀ (s u : State) (q : QueueId) (d : Nat) (o : ParkObj), s.atEngine q.toNat 8 = some d → dOpcode d = 0x60 → pkReserved
      d = false →
    s.asleep = false → s.park.find (pkHandle d) = some o → s.outlived o = false →
    s.pkTransfer (dieOfQueue q.toNat) (s.queue q.toNat).part d false = (0, u) → s.mayReach (s.queue q.toNat).part o = true →
    pkBytes d = 0 → exec (.parkioRead q []) s = .next (u.done q.toNat 1))
  ∧ (∀ (s u : State) (q : QueueId) (d : Nat), s.atEngine q.toNat 8 = some d → dOpcode d = 0x60 → pkReserved d = false →
    s.asleep = false → s.park.find (pkHandle d) = none →
    s.pkTransfer (dieOfQueue q.toNat) (s.queue q.toNat).part d false = (0, u) →
    exec (.parkioRead q []) s = .next (u.done q.toNat 0x61))
  ∧ (∀ (s : State) (q : QueueId) (d : Nat) (o : ParkObj), s.atEngine q.toNat 8 = some d → dOpcode d = 0x63 → pkReserved d
      = false →
    s.asleep = false → pkAlign d = false → pkHandle d ≠ 0 → s.park.find (pkHandle d) = some o → s.outlived o = false →
    s.mayReach (s.queue q.toNat).part o = true →
    exec (.parkioDelete q) s = .next ((s.delObject (pkHandle d)).done q.toNat 0))
  ∧ (∀ (s : State) (q : QueueId) (d : Nat) (o : ParkObj), s.atEngine q.toNat 8 = some d → dOpcode d = 0x64 → pkReserved d
      = false →
    s.asleep = false → pkAlign d = false → pkHandle d ≠ 0 → s.park.find (pkHandle d) = some o → s.outlived o = false →
        o.region = 2 →
    ttlOk (pkTtl d) = true → s.mayReach (s.queue q.toNat).part o = true →
    exec (.parkioTouch q) s = .next ((s.setObject (pkHandle d) { o with expires := s.park.clock + s.ttlOf d }).done
        q.toNat 0))
  ∧ (∀ (s : State) (q : QueueId) (d : Nat), s.atEngine q.toNat 8 = some d → s.asleep = false → pkReserved d = true →
    (dOpcode d = 0x60 → exec (.parkioRead q []) s = .next (s.done q.toNat 0x6F))
    ∧ (dOpcode d = 0x61 → exec (.parkioWrite q) s = .next (s.done q.toNat 0x6F))
    ∧ (dOpcode d = 0x62 → exec (.parkioCreate q) s = .next (s.done q.toNat 0x6F))
    ∧ (dOpcode d = 0x63 → exec (.parkioDelete q) s = .next (s.done q.toNat 0x6F))
    ∧ (dOpcode d = 0x64 → exec (.parkioTouch q) s = .next (s.done q.toNat 0x6F)))
  ∧ (∀ (s : State) (q : QueueId) (j : Job), s.asleep = false → (s.queue q.toNat).kind = 8 →
    (s.queue q.toNat).jobIn .handed = some j → j.since + 500000000 ≤ s.now →
    exec (.parkTimeout q) s = .next (s.finish q.toNat .handed 0x68 0 0))

/-- A conversation object whose time-to-live has run out is removed and counted, and every other object stays; with
input power the clock is saved once 600 s have passed since the last save; the erase command removes the object of
its handle, and fails where there is none; erasing all with 0x5A renews the salt and leaves only KV-spill and bundle
objects, no failure records and no samples, and any other value fails and erases nothing. Rests on R213, R215, R219,
R508. -/
def Obligations.ParkClockAndErasure : Prop :=
  (∀ (s : State) (h : BitVec 64) (o : ParkObj), s.park.find h.toNat = some o → o.region = 2 → o.expires ≤ s.park.clock →
    exec (.objectExpiry h) s = .next ((s.delObject h.toNat).odInc 0x2201 0x0B 1))
  ∧ (∀ (s : State) (h : BitVec 64) (o : ParkObj), s.park.find h.toNat = some o → o.region ≠ 2 ∨ s.park.clock < o.expires →
    exec (.objectExpiry h) s = .next s)
  ∧ (∀ s : State, s.powered = true → s.park.savedClock + 600 ≤ s.park.clock →
    Gives .parkClockSave s (fun t => t.park = { s.park with savedClock := s.park.clock } ∧ Only [.park, .rel, .store, .od]
        s t))
  ∧ (∀ s : State, s.park.clock < s.park.savedClock + 600 → exec .parkClockSave s = .next s)
  ∧ (∀ (s : State) (h : BitVec 64) (o : ParkObj), s.asleep = false → s.park.find h.toNat = some o →
    exec (.eraseObject h) s = .next ((s.setPark { s.park with objects := s.park.objects.del h.toNat }).odSet 0x2201 0x0C 2))
  ∧ (∀ (s : State) (h : BitVec 64), s.asleep = false → s.park.find h.toNat = none →
    exec (.eraseObject h) s = .next (s.odSet 0x2201 0x0C 3))
  ∧ (∀ s : State, s.asleep = false →
    Gives (.eraseAll 0x5A) s (fun t => t.park.salt = s.park.salt + 1 ∧ t.rel.records = [] ∧ t.rel.samples = []
      ∧ (∀ (h : Nat) (o : ParkObj), (h, o) ∈ t.park.objects ↔ (h, o) ∈ s.park.objects ∧ (o.region = 1 ∨ o.region = 3))
      ∧ t.park.clock = s.park.clock ∧ Only [.park, .rel, .store, .od] s t))
  ∧ (∀ (s : State) (v : Byte), s.asleep = false → v ≠ 0x5A → exec (.eraseAll v) s = .next (s.odSet 0x2201 0x0D 3))

/-- The invalidation of an entry drops its cached copy and completes, unless a running ATTN has translated the old
entry. An ATTN that has waited the limit of OD 0x2260.03 for a page ends with 0x94 and the page's slot as detail,
and its lent channels return; before the limit nothing changes. A sweep brings the age of every valid entry of the
die that has reached 0xFC00 back to 0xFC00, and changes no other entry. A scan writes at most 1,024 handles of the
partition's pages to its buffer. Rests on R257, R258, R259, R264, R271. -/
def Obligations.KvMaintenance : Prop :=
  (∀ (s : State) (die : Die) (ix : BitVec 19), s.asleep = false → s.kvWaiters = [] →
    exec (.kvInvalidate die ix) s = .next ((s.setKvTlb (s.kvTlb.del (2 ^ 19 * die.toNat + ix.toNat))).setKvDirty
      (s.kvDirty.filter (· ≠ 2 ^ 19 * die.toNat + ix.toNat))))
  ∧ (∀ (s : State) (die : Die) (ix : BitVec 19) (q : Nat) (j : Job), q ∈ s.kvWaiters → (s.queue q).jobIn .waitKv = some j →
    j.pages.contains (2 ^ 19 * die.toNat + ix.toNat) = true → exec (.kvInvalidate die ix) s = .next s)
  ∧ (∀ (s : State) (q : QueueId) (j : Job), (s.queue q.toNat).jobIn .waitKv = some j →
    j.since + limitOf (s.odGet 0x2260 3) ≤ s.now →
    exec (.kvResidencyTimeout q) s = .next (((s.finish q.toNat .waitKv 0x94 0 (detailOf j.prog)).unlend q.toNat).odInc
        0x2260 9 1))
  ∧ (∀ (s : State) (q : QueueId) (j : Job), (s.queue q.toNat).jobIn .waitKv = some j →
    s.now < j.since + limitOf (s.odGet 0x2260 3) → exec (.kvResidencyTimeout q) s = .next s)
  ∧ (∀ (s : State) (die : Die), s.asleep = false →
    Gives (.kvMapSweep die) s (fun t =>
      (∀ k : Nat, k ∈ (s.kvMaps.only (fun k e => decide (k / 2 ^ 19 = die.toNat) && kvValid e
          && decide (0xFC00 ≤ kvAge s.kvNow e))).map (·.1) → kvAge s.kvNow (t.kvMaps.getD k 0) = 0xFC00)
      ∧ (∀ k : Nat, k ∉ (s.kvMaps.only (fun k e => decide (k / 2 ^ 19 = die.toNat) && kvValid e
          && decide (0xFC00 ≤ kvAge s.kvNow e))).map (·.1) → t.kvMaps.getD k 0 = s.kvMaps.getD k 0)
      ∧ Only [.kvMaps, .kvTlb] s t))
  ∧ (∀ (s : State) (r : KvScanReq), s.asleep = false →
    exec (.kvScan r) s = .next (s.pwrite r.die.toNat r.part.toNat r.buf.toNat
      (clean ((s.kvOldest r.die.toNat r.part.toNat r.which.toNat).flatMap (leBytes 4)))).2)
  ∧ (∀ (s : State) (die p which : Nat), (s.kvOldest die p which).length ≤ 1024)

/-- OPEN of a session of the partition's range that is not open, with fields that pass the checks of R285, writes
the context of its fields and makes the module SERVING where it was READY; UPDATE of an open one keeps its seed and
step unless it reseeds; CLOSE empties it. A session of another partition ends with 0xA2, an OPEN of an open one and
an UPDATE or CLOSE of a closed one with 0xA3, a failing check with its code, a reserved field with 0xA0. No other
session changes. Rests on R283, R284, R285, R297, R577. -/
def Obligations.Sessions : Prop :=
  (∀ (s : State) (q : QueueId) (d : Nat), s.samplerUp (dieOfQueue q.toNat) = true → s.atEngine q.toNat 5 = some d →
    dOpcode d = 0x41 → sdOp d = 0 → sdReserved d = false → (s.session (sdSession d)).isOpen = false →
    (s.part (s.queue q.toNat).part).hasSession (sdSession d) = true →
    s.sessionCheck (dieOfQueue q.toNat) (s.queue q.toNat).part
      (sessionAfter {} d (s.queue q.toNat).part true (if sdGset d then sdGstate d else 0)) = 0 →
    Gives (.sessionOpen q) s (fun t => t.session (sdSession d)
        = sessionAfter {} d (s.queue q.toNat).part true (if sdGset d then sdGstate d else 0)
      ∧ (t.session (sdSession d)).isOpen = true ∧ (t.session (sdSession d)).seed.toNat = sdSeed d
      ∧ (t.session (sdSession d)).step.toNat = sdStep d
      ∧ (∀ m : Nat, m ≠ sdSession d → t.session m = s.session m)
      ∧ (s.mode = .ready → t.mode = .serving) ∧ (s.mode ≠ .ready → t.mode = s.mode) ∧ Only [.free, .mode, .idle, .queues,
          .dram, .upsets, .ecc, .tlb, .modMem, .sess, .fw, .ev, .pow, .od] s t))
  ∧ (∀ (s : State) (q : QueueId) (d : Nat), s.samplerUp (dieOfQueue q.toNat) = true → s.atEngine q.toNat 5 = some d →
    dOpcode d = 0x41 → sdReserved d = false → (s.session (sdSession d)).isOpen = true →
    (s.session (sdSession d)).partition.toNat ≠ (s.queue q.toNat).part →
    (sdOp d = 0 → exec (.sessionOpen q) s = .next (s.serveDone q.toNat 0xA2 0 0))
    ∧ (sdOp d = 1 → exec (.sessionUpdate q) s = .next (s.serveDone q.toNat 0xA2 0 0))
    ∧ (sdOp d = 2 → exec (.sessionClose q) s = .next (s.serveDone q.toNat 0xA2 0 0)))
  ∧ (∀ (s : State) (q : QueueId) (d : Nat), s.samplerUp (dieOfQueue q.toNat) = true → s.atEngine q.toNat 5 = some d →
    dOpcode d = 0x41 → sdReserved d = false → (s.session (sdSession d)).isOpen = false →
    (sdOp d = 1 → exec (.sessionUpdate q) s = .next (s.serveDone q.toNat 0xA3 0 0))
    ∧ (sdOp d = 2 → exec (.sessionClose q) s = .next (s.serveDone q.toNat 0xA3 0 0)))
  ∧ (∀ (s : State) (q : QueueId) (d : Nat), s.samplerUp (dieOfQueue q.toNat) = true → s.atEngine q.toNat 5 = some d →
    dOpcode d = 0x41 → sdOp d = 1 → sdReserved d = false → (s.session (sdSession d)).isOf (s.queue q.toNat).part = true →
    s.sessionCheck (dieOfQueue q.toNat) (s.queue q.toNat).part
      (sessionAfter (s.session (sdSession d)) d (s.queue q.toNat).part (sdReseed d)
        (if sdGset d then sdGstate d else if sdGrammar d = (s.session (sdSession d)).grammar.toNat
          then (s.session (sdSession d)).gstate.toNat else 0)) = 0 →
    Gives (.sessionUpdate q) s (fun t =>
      (sdReseed d = false → (t.session (sdSession d)).seed = (s.session (sdSession d)).seed
        ∧ (t.session (sdSession d)).step = (s.session (sdSession d)).step)
      ∧ (sdReseed d = true → (t.session (sdSession d)).seed.toNat = sdSeed d ∧ (t.session (sdSession d)).step.toNat =
          sdStep d)
      ∧ (t.session (sdSession d)).temperature.toNat = sdTemp d ∧ (t.session (sdSession d)).topP.toNat = sdTopP d
      ∧ (t.session (sdSession d)).topKm1.toNat = sdTopK d ∧ (t.session (sdSession d)).maskMode.toNat = sdMask d
      ∧ (t.session (sdSession d)).isOpen = true
      ∧ (∀ m : Nat, m ≠ sdSession d → t.session m = s.session m) ∧ Only [.queues, .sess, .od] s t))
  ∧ (∀ (s : State) (q : QueueId) (d : Nat), s.samplerUp (dieOfQueue q.toNat) = true → s.atEngine q.toNat 5 = some d →
    dOpcode d = 0x41 → sdOp d = 2 → sdReserved d = false → (s.session (sdSession d)).isOf (s.queue q.toNat).part = true →
    Gives (.sessionClose q) s (fun t => t.sess = s.sess.del (sdSession d) ∧ Only [.free, .mode, .idle, .queues, .dram,
        .upsets, .ecc, .tlb, .modMem, .sess, .fw, .ev, .pow, .od] s t))
  ∧ (∀ (s : State) (q : QueueId) (d : Nat), s.samplerUp (dieOfQueue q.toNat) = true → s.atEngine q.toNat 5 = some d →
    dOpcode d = 0x41 → sdReserved d = true →
    (sdOp d = 0 → exec (.sessionOpen q) s = .next (s.serveDone q.toNat 0xA0 0 0))
    ∧ (sdOp d = 1 → exec (.sessionUpdate q) s = .next (s.serveDone q.toNat 0xA0 0 0))
    ∧ (sdOp d = 2 → exec (.sessionClose q) s = .next (s.serveDone q.toNat 0xA0 0 0)))
  ∧ (∀ (s : State) (die p : Nat) (x : Session), 0x7F800000 ≤ x.temperature.toNat ∨ x.topP = 0 ∨ 0x3F800000 < x.topP.toNat →
    s.sessionCheck die p x = 0xA4)

/-- Every token a row of SAMPLE accepts or emits is one of the row's allowed tokens; a row without an allowed token
emits none. The number of drafts accepted falls within those given. A SAMPLE of an open session of its partition
whose checks pass and whose rows end without an error advances the session's step by one, moves its grammar state to
the one reached, and completes with 0x00 and the flags of its rows; one that meets an error in a row completes with
that code and leaves every session as it was. A session of another partition, or none, ends with 0xA2. Rests on
R287, R289, R290, R291, R296. -/
def Obligations.Sampling : Prop :=
  (∀ (x : Session) (row tok : Nat) (allowed : List (Nat × XVal)) (draft : Option Nat) (qs : Option (List XVal)),
    sampleRow x row allowed draft qs = .emit tok ∨ sampleRow x row allowed draft qs = .accept tok → tok ∈ allowed.map (·.1))
  ∧ (∀ (x : Session) (row tok : Nat) (allowed : List (Nat × XVal)) (draft : Option Nat) (qs : Option (List XVal)),
    sampleRow x row allowed draft qs = .accept tok → draft = some tok)
  ∧ (∀ (s u v : State) (q : QueueId) (d : Nat) (a : Sampled), s.samplerUp (dieOfQueue q.toNat) = true →
    s.atEngine q.toNat 5 = some d → dOpcode d = 0x40 → fld d 82 87 = 0 →
    (s.session (sdSession d)).isOf (s.queue q.toNat).part = true → smRange d = false →
    (s.session (sdSession d)).maskMode = 0 → s.pcheck (dieOfQueue q.toNat) (s.queue q.toNat).part (smOut d) 64 true =
        (true, u) →
    smVocab d ≠ 0 →
    u.sampleRows (dieOfQueue q.toNat) (s.queue q.toNat).part d (s.session (sdSession d)) none none (smDrafts d + 1) 0
      { gstate := (s.session (sdSession d)).gstate.toNat } = (a, v) → a.code = 0 →
    Gives (.sample q) s (fun t => t.session (sdSession d) = { s.session (sdSession d) with
        step := (s.session (sdSession d)).step + 1
        gstate := BitVec.ofNat 12 a.gstate }
      ∧ (∀ m : Nat, m ≠ sdSession d → t.session m = s.session m)
      ∧ (∃ w : State, t = w.finish q.toNat .handed 0 a.flags 0) ∧ Only [.free, .queues, .dram, .upsets, .ecc, .tlb,
          .modMem, .park, .sess, .emitted, .fw, .ev, .rel, .store, .od] s t))
  ∧ (∀ (s u v : State) (q : QueueId) (d : Nat) (g : Grammar) (a : Sampled), s.samplerUp (dieOfQueue q.toNat) = true →
    s.atEngine q.toNat 5 = some d → dOpcode d = 0x40 → fld d 82 87 = 0 →
    (s.session (sdSession d)).isOf (s.queue q.toNat).part = true → smRange d = false →
    (s.session (sdSession d)).maskMode = 1 →
    s.slot (dieOfQueue q.toNat) (s.queue q.toNat).part (s.session (sdSession d)).grammar.toNat = some g →
    (s.session (sdSession d)).gstate.toNat < g.states → g.vocab = smVocab d →
    s.pcheck (dieOfQueue q.toNat) (s.queue q.toNat).part (smOut d) 64 true = (true, u) → smVocab d ≠ 0 →
    u.sampleRows (dieOfQueue q.toNat) (s.queue q.toNat).part d (s.session (sdSession d)) (some g) none (smDrafts d + 1) 0
      { gstate := (s.session (sdSession d)).gstate.toNat } = (a, v) →
    Gives (.sample q) s (fun t => (a.code = 0 → (t.session (sdSession d)).gstate = BitVec.ofNat 12 a.gstate
        ∧ (t.session (sdSession d)).step = (s.session (sdSession d)).step + 1)
      ∧ (a.code ≠ 0 → t = v.serveDone q.toNat a.code 0 0 ∧ t.sess = s.sess) ∧ Only [.free, .queues, .dram, .upsets, .ecc,
          .tlb, .modMem, .park, .sess, .emitted, .fw, .ev, .rel, .store, .od] s t))
  ∧ (∀ (s : State) (q : QueueId) (d : Nat), s.samplerUp (dieOfQueue q.toNat) = true →
    s.atEngine q.toNat 5 = some d → dOpcode d = 0x40 → fld d 82 87 = 0 →
    (s.session (sdSession d)).isOf (s.queue q.toNat).part = false →
    exec (.sample q) s = .next (s.serveDone q.toNat 0xA2 0 0))

/-- GLOAD of a free slot with a legal and clean image enters the slot under the partition; a slot in use ends with
0xA7, a bad image with 0xA6, a poisoned one with 0xAB. GFREE removes a slot of the partition that no open session
uses; one in use ends with 0xA8. GADVANCE steps the session's state through its tokens, keeps the state before a
refused one, whose index is the detail of 0xAC, and changes no other session. Rests on R292, R293, R294, R295, R297.
-/
def Obligations.GrammarWalker : Prop :=
  (∀ (s u : State) (q : QueueId) (d : Nat) (bs : List (Byte × Bool)), s.samplerUp (dieOfQueue q.toNat) = true →
    s.atEngine q.toNat 6 = some d → dOpcode d = 0x48 → wkReserved d = false → 0 < wkVocab d → wkVocab d ≤ 262144 →
    0 < wkStates d → wkStates d ≤ 4096 → AMap.find s.grammars (16384 * dieOfQueue q.toNat + wkSlot d) = none →
    s.mread (dieOfQueue q.toNat) (s.queue q.toNat).part (4096 * wkPage d) (tableAt (wkStates d) + 8 * wkRanges d) = (some
        bs, u) →
    imageBad bs (wkVocab d) (wkStates d) (wkRanges d) = false → bs.any (·.2) = false →
    Gives (.gload q) s (fun t => t.grammars = s.grammars.put (16384 * dieOfQueue q.toNat + wkSlot d)
        { part := (s.queue q.toNat).partition, page := BitVec.ofNat 27 (wkPage d), states := wkStates d, ranges := wkRanges d, vocab := wkVocab d }
      ∧ (∃ w : State, t = w.finish q.toNat .handed 0 0 0) ∧ Only [.free, .queues, .dram, .upsets, .ecc, .tlb, .modMem,
          .park, .grammars, .fw, .ev, .rel, .store, .od] s t))
  ∧ (∀ (s u : State) (q : QueueId) (d : Nat) (bs : List (Byte × Bool)), s.samplerUp (dieOfQueue q.toNat) = true →
    s.atEngine q.toNat 6 = some d → dOpcode d = 0x48 → wkReserved d = false → 0 < wkVocab d → wkVocab d ≤ 262144 →
    0 < wkStates d → wkStates d ≤ 4096 →
    s.mread (dieOfQueue q.toNat) (s.queue q.toNat).part (4096 * wkPage d) (tableAt (wkStates d) + 8 * wkRanges d) = (some
        bs, u) →
    imageBad bs (wkVocab d) (wkStates d) (wkRanges d) = true → exec (.gload q) s = .next (u.serveDone q.toNat 0xA6 0 0))
  ∧ (∀ (s : State) (q : QueueId) (d : Nat) (g : Grammar), s.samplerUp (dieOfQueue q.toNat) = true →
    s.atEngine q.toNat 6 = some d → dOpcode d = 0x49 → wkReserved d = false →
    s.slot (dieOfQueue q.toNat) (s.queue q.toNat).part (wkSlot d) = some g →
    s.sess.any (fun x => x.2.isOf (s.queue q.toNat).part && x.2.usesGrammar && x.2.grammar.toNat = wkSlot d) = false →
    exec (.gfree q) s = .next ((s.setGrammars (s.grammars.del (16384 * dieOfQueue q.toNat + wkSlot d))).serveDone q.toNat
        0 0 0))
  ∧ (∀ (s : State) (q : QueueId) (d : Nat) (g : Grammar), s.samplerUp (dieOfQueue q.toNat) = true →
    s.atEngine q.toNat 6 = some d → dOpcode d = 0x49 → wkReserved d = false →
    s.slot (dieOfQueue q.toNat) (s.queue q.toNat).part (wkSlot d) = some g →
    s.sess.any (fun x => x.2.isOf (s.queue q.toNat).part && x.2.usesGrammar && x.2.grammar.toNat = wkSlot d) = true →
    exec (.gfree q) s = .next (s.serveDone q.toNat 0xA8 0 0))
  ∧ (∀ (s u : State) (q : QueueId) (d st k c : Nat) (g : Grammar), s.samplerUp (dieOfQueue q.toNat) = true →
    s.atEngine q.toNat 6 = some d → dOpcode d = 0x4A → wkReserved d = false →
    (s.session (sdSession d)).isOf (s.queue q.toNat).part = true →
    s.slot (dieOfQueue q.toNat) (s.queue q.toNat).part (s.session (sdSession d)).grammar.toNat = some g →
    (s.session (sdSession d)).gstate.toNat < g.states →
    s.walkTokens (dieOfQueue q.toNat) g ((upto (wkCount d)).map (wkToken d)) (s.session (sdSession d)).gstate.toNat 0 =
        ((st, k, c), u) →
    c = 0 ∨ c = 0xAC →
    Gives (.gadvance q) s (fun t => t.session (sdSession d) = { s.session (sdSession d) with gstate := BitVec.ofNat 12 st }
      ∧ (∀ m : Nat, m ≠ sdSession d → t.session m = s.session m)
      ∧ (∃ w : State, t = w.finish q.toNat .handed c 0 (if c = 0 then 0 else k)) ∧ Only [.free, .queues, .dram, .upsets,
          .ecc, .tlb, .modMem, .park, .sess, .fw, .ev, .rel, .store, .od] s t))
  ∧ (∀ (s : State) (die : Nat) (g : Grammar) (st k : Nat), s.walkTokens die g [] st k = ((st, k, 0), s))

/-- On a video engine between pictures, in the turn of its queue: OPEN of a context that is not open, with fields in
range and extents that can be written, enters it under its queue and makes the module SERVING where it was READY;
UPDATE of an open one of the queue changes its progress, statistics, rate and period fields, and on a decoder
returns the buffers released; CLOSE removes it; DETACH keeps it as a record; ADOPT takes such a record and opens it
under its own queue. A context open already, or one not of the queue, ends with 0xB2, a field out of range with
0xB3. Each notes its queue as the one the engine took last; other contexts and engines stay as they were. Out of its
queue's turn a descriptor does nothing. That the turns go round by identifier is the model's choice (log 148). Rests
on R319, R320, R322, R323, R340, R344. -/
def Obligations.VideoContexts : Prop :=
  (∀ (s u : State) (q : QueueId) (e d : Nat), s.atVideo q.toNat = some (e, d) → (s.engine e).busy = none → s.videoNext e =
      some q.toNat →
    dOpcode d = 0x30 → vcOp d = 0 → vcReserved d = false → ((s.engine e).vctx (vcCtx d)).state ≠ .opened →
    s.openRange e (dieOfEngine e) (s.queue q.toNat).part d = true →
    s.openSpace (dieOfEngine e) (s.queue q.toNat).part d = (true, u) → vcW d ≠ 0 → vcH d ≠ 0 →
    Gives (.vctxOpen q) s (fun t => (t.engine e).ctx = (s.engine e).ctx.put (vcCtx d) {
          state := .opened, queue := q, part := (s.queue q.toNat).partition, desc := BitVec.ofNat 512 d }
      ∧ (t.engine e).turn = some q ∧ (t.engine e).busy = none
      ∧ (∀ m : Nat, m ≠ e → t.engine m = s.engine m) ∧ (s.mode = .ready → t.mode = .serving) ∧ Only [.free, .mode, .idle,
          .queues, .dram, .upsets, .ecc, .tlb, .modMem, .video, .fw, .ev, .pow, .od] s t))
  ∧ (∀ (s : State) (q : QueueId) (e d : Nat), s.atVideo q.toNat = some (e, d) → (s.engine e).busy = none → s.videoNext e =
      some q.toNat →
    dOpcode d = 0x30 → vcOp d = 0 → vcReserved d = false → ((s.engine e).vctx (vcCtx d)).state = .opened →
    exec (.vctxOpen q) s = .next (s.videoDone q.toNat 0xB2))
  ∧ (∀ (s : State) (q : QueueId) (e d : Nat), s.atVideo q.toNat = some (e, d) → (s.engine e).busy = none → s.videoNext e =
      some q.toNat →
    dOpcode d = 0x30 → vcOp d = 0 → vcReserved d = false → ((s.engine e).vctx (vcCtx d)).state ≠ .opened →
    s.openRange e (dieOfEngine e) (s.queue q.toNat).part d = false →
    exec (.vctxOpen q) s = .next (s.videoDone q.toNat 0xB3))
  ∧ (∀ (s u : State) (q : QueueId) (e d : Nat), s.atVideo q.toNat = some (e, d) → (s.engine e).busy = none → s.videoNext e
      = some q.toNat →
    dOpcode d = 0x30 → vcOp d = 1 → vcReserved d = false → ((s.engine e).vctx (vcCtx d)).openOn q.toNat = true →
    isEncoder e = false ∨ ratesOk (updatedDesc ((s.engine e).vctx (vcCtx d)).desc.toNat d) = true →
    s.vcEventOk (dieOfEngine e) (s.queue q.toNat).part d = true → vcProgress d % 8 = 0 →
    s.pcheck (dieOfEngine e) (s.queue q.toNat).part (vcProgress d) (if vcProgress d = 0 then 0 else 8) true = (true, u) →
    Gives (.vctxUpdate q) s (fun t => (t.engine e).ctx = (s.engine e).ctx.put (vcCtx d) {
          (if isEncoder e then (s.engine e).vctx (vcCtx d) else ((s.engine e).vctx (vcCtx d)).release (vcRelease d)) with
            desc := BitVec.ofNat 512 (updatedDesc ((s.engine e).vctx (vcCtx d)).desc.toNat d) }
      ∧ (t.engine e).turn = some q ∧ (∀ m : Nat, m ≠ e → t.engine m = s.engine m) ∧ Only [.free, .queues, .dram, .upsets,
          .ecc, .tlb, .modMem, .video, .fw, .ev, .od] s t))
  ∧ (∀ (s : State) (q : QueueId) (e d : Nat), s.atVideo q.toNat = some (e, d) → (s.engine e).busy = none → s.videoNext e =
      some q.toNat →
    dOpcode d = 0x30 → vcReserved d = false → ((s.engine e).vctx (vcCtx d)).openOn q.toNat = false →
    (vcOp d = 1 → exec (.vctxUpdate q) s = .next (s.videoDone q.toNat 0xB2))
    ∧ (vcOp d = 2 → exec (.vctxClose q) s = .next (s.videoDone q.toNat 0xB2))
    ∧ (vcOp d = 3 → exec (.vctxDetach q) s = .next (s.videoDone q.toNat 0xB2)))
  ∧ (∀ (s : State) (q : QueueId) (e d : Nat), s.atVideo q.toNat = some (e, d) → (s.engine e).busy = none → s.videoNext e =
      some q.toNat →
    dOpcode d = 0x30 → vcOp d = 2 → vcReserved d = false → ((s.engine e).vctx (vcCtx d)).openOn q.toNat = true →
    Gives (.vctxClose q) s (fun t => (t.engine e).ctx = (s.engine e).ctx.del (vcCtx d) ∧ (t.engine e).turn = some q
      ∧ (∀ m : Nat, m ≠ e → t.engine m = s.engine m) ∧ Only [.free, .mode, .idle, .queues, .dram, .upsets, .ecc, .tlb,
          .modMem, .video, .fw, .ev, .pow, .od] s t))
  ∧ (∀ (s : State) (q : QueueId) (e d : Nat), s.atVideo q.toNat = some (e, d) → (s.engine e).busy = none → s.videoNext e =
      some q.toNat →
    dOpcode d = 0x30 → vcOp d = 3 → vcReserved d = false → ((s.engine e).vctx (vcCtx d)).openOn q.toNat = true →
    Gives (.vctxDetach q) s (fun t =>
      (t.engine e).ctx = (s.engine e).ctx.put (vcCtx d) { (s.engine e).vctx (vcCtx d) with state := .detached }
      ∧ (t.engine e).turn = some q ∧ (∀ m : Nat, m ≠ e → t.engine m = s.engine m) ∧ Only [.free, .mode, .idle, .queues,
          .dram, .upsets, .ecc, .tlb, .modMem, .video, .fw, .ev, .pow, .od] s t))
  ∧ (∀ (s : State) (q : QueueId) (e d b : Nat) (c : VCtx), s.atVideo q.toNat = some (e, d) → (s.engine e).busy = none →
    s.videoNext e = some q.toNat → dOpcode d = 0x30 → vcOp d = 4 → vcReserved d = false →
    ((s.engine e).vctx (vcCtx d)).state ≠ .opened → vcSrcEngine d < (if isEncoder e then 2 else 4) →
    s.adoptable e (s.queue q.toNat).part d = some (b, c) →
    Gives (.vctxAdopt q) s (fun t => (t.engine e).ctx
        = (if b = e then (s.engine e).ctx.del (vcSrcCtx d) else (s.engine e).ctx).put (vcCtx d)
            { c with state := .opened, queue := q }
      ∧ (b ≠ e → t.engine b = { s.engine b with ctx := (s.engine b).ctx.del (vcSrcCtx d) })
      ∧ (t.engine e).turn = some q ∧ (∀ m : Nat, m ≠ e → m ≠ b → t.engine m = s.engine m) ∧ Only [.free, .mode, .idle,
          .queues, .dram, .upsets, .ecc, .tlb, .modMem, .video, .fw, .ev, .pow, .od] s t))
  ∧ (∀ (s : State) (q : QueueId) (e d : Nat), s.atVideo q.toNat = some (e, d) → (s.engine e).busy = none →
    s.videoNext e ≠ some q.toNat →
    exec (.vctxOpen q) s = .next s ∧ exec (.vctxUpdate q) s = .next s ∧ exec (.vctxClose q) s = .next s
    ∧ exec (.vctxDetach q) s = .next s ∧ exec (.vctxAdopt q) s = .next s)

/-- A decoder's free buffer is the lowest one that neither the runtime nor the decoder holds. A DECODE whose picture
is in progress or may start completes with 0x00, frees the engine and leaves the context that its unit comes to: one
shown again, one passed over, or one decoded into its buffer where no poison is met; where a failing check or poison
ends it, with the check's code or 0xB5, the context is as it was. An ENCODE that meets no poison completes with
0x00, counts the picture, and an IDR starts the IDR period again. A slice or a band that becomes visible before the
last leaves the context as it was and the picture in progress, with one more visible. What the codec computes is
opaque (log 8). Rests on R317, R325, R326, R332, R335, R337, R340. -/
def Obligations.VideoPictures : Prop :=
  (∀ (c : VCtx) (b : Nat), c.freeBuffer = some b → b < vcCount c.desc.toNat ∧ c.runtimeHeld.getLsbD b = false
    ∧ c.refHeld.getLsbD b = false ∧ (∀ i : Nat, i < b → c.runtimeHeld.getLsbD i = true ∨ c.refHeld.getLsbD i = true))
  ∧ (∀ (s u : State) (q : QueueId) (r : DecodeReport) (e d : Nat) (c : VCtx) (j : VJob), s.atVideo q.toNat = some (e, d) →
      e < 4 →
    dOpcode d = 0x31 → ((s.engine e).busy = none ∧ s.videoNext e = some q.toNat ∧ videoReserved d = false) ∨ (s.engine
        e).busy = some j →
    j.queue = q → s.decodeJob q.toNat e (s.queue q.toNat).part d r = (.ok (c, j), u) →
    Gives (.decode q r) s (fun t =>
      (∀ b : Nat, (c.judge (vdBytes d) j.unit).existing = some b →
        (t.engine e).ctx = (s.engine e).ctx.put (fld d 64 8) (c.shownAgain j.unit b)
        ∧ (∃ w : State, t = w.finish q.toNat .handed 0 0 0))
      ∧ ((c.judge (vdBytes d) j.unit).existing = none →
        (c.judge (vdBytes d) j.unit).picType = 3 ∨ (c.judge (vdBytes d) j.unit).sp = none →
        (t.engine e).ctx = (s.engine e).ctx.put (fld d 64 8) (c.passed j.unit (c.judge (vdBytes d) j.unit))
        ∧ (∃ w : State, t = w.finish q.toNat .handed 0 0 0))
      ∧ (t.engine e).busy = none ∧ (t.engine e).freeAt = s.now ∧ (t.engine e).turn = some q
      ∧ (∀ m : Nat, m ≠ e → t.engine m = s.engine m) ∧ Only [.free, .queues, .dram, .upsets, .ecc, .tlb, .modMem, .park,
          .video, .fw, .ev, .rel, .store, .od] s t))
  ∧ (∀ (s u v v' : State) (q : QueueId) (r : DecodeReport) (e d : Nat) (c : VCtx) (j : VJob) (sp : StreamParams) (bad :
      Bool)
    (x : Option Content), s.atVideo q.toNat = some (e, d) → e < 4 →
    dOpcode d = 0x31 → ((s.engine e).busy = none ∧ s.videoNext e = some q.toNat ∧ videoReserved d = false) ∨ (s.engine
        e).busy = some j →
    j.queue = q → s.decodeJob q.toNat e (s.queue q.toNat).part d r = (.ok (c, j), u) →
    (c.judge (vdBytes d) j.unit).existing = none → (c.judge (vdBytes d) j.unit).picType ≠ 3 →
    (c.judge (vdBytes d) j.unit).sp = some sp →
    u.refPoison (dieOfEngine e) (s.queue q.toNat).part c.desc.toNat c.refHeld.toNat
      (decide ((c.judge (vdBytes d) j.unit).picType ≠ 0)) = (bad, v) →
    v.content (dieOfEngine e) (s.queue q.toNat).part c j (c.judge (vdBytes d) j.unit) sp = (x, v') →
    Gives (.decode q r) s (fun t =>
      (bad = false → x.isSome = true → (t.engine e).ctx
          = (s.engine e).ctx.put (fld d 64 8) (c.decoded j.unit (c.judge (vdBytes d) j.unit) sp j.buffer)
        ∧ (∃ w : State, t = w.finish q.toNat .handed 0 0 0))
      ∧ (bad = true ∨ x = none → (t.engine e).ctx = (s.engine e).ctx ∧ (∃ w : State, t = w.finish q.toNat .handed 0xB5 0 0))
      ∧ (t.engine e).busy = none ∧ (t.engine e).turn = some q ∧ (∀ m : Nat, m ≠ e → t.engine m = s.engine m) ∧ Only
          [.free, .queues, .dram, .upsets, .ecc, .tlb, .modMem, .park, .video, .fw, .ev, .rel, .store, .od] s t))
  ∧ (∀ (s u : State) (q : QueueId) (r : DecodeReport) (e d code : Nat), s.atVideo q.toNat = some (e, d) →
    (s.engine e).busy = none → s.videoNext e = some q.toNat → e < 4 → dOpcode d = 0x31 → videoReserved d = false →
    s.decodeJob q.toNat e (s.queue q.toNat).part d r = (.error code, u) →
    Gives (.decode q r) s (fun t => (code ≠ 0xB5 → t = u.videoDone q.toNat code) ∧ (t.engine e).ctx = (s.engine e).ctx
      ∧ (t.engine e).busy = none ∧ (∃ w : State, t = w.finish q.toNat .handed code 0 0) ∧ Only [.free, .queues, .dram,
          .upsets, .ecc, .tlb, .modMem, .park, .video, .fw, .ev, .rel, .store, .od] s t))
  ∧ (∀ (s u v w : State) (q : QueueId) (r : EncodeReport) (e d : Nat) (c : VCtx) (j : VJob) (pic : List Byte) (regions :
      List Nat),
    s.atVideo q.toNat = some (e, d) → 4 ≤ e → dOpcode d = 0x32 →
    ((s.engine e).busy = none ∧ s.videoNext e = some q.toNat ∧ videoReserved d = false) ∨ (s.engine e).busy = some j →
        j.queue = q →
    s.encodeJob q.toNat e (s.queue q.toNat).part d = (.ok (c, j), u) →
    u.encodeReads (dieOfEngine e) (s.queue q.toNat).part d c.desc.toNat = (.ok (pic, regions), v) →
    v.refPoison (dieOfEngine e) (s.queue q.toNat).part c.desc.toNat c.refHeld.toNat (!c.codesIdr d) = (false, w) →
    Gives (.encode q r) s (fun t => (t.engine e).ctx = (s.engine e).ctx.put (fld d 64 8)
          (c.encoded j.buffer ((c.sliceEndsOf r (c.codesIdr d) j.ends).getLastD 0) (c.codesIdr d))
      ∧ ((t.engine e).vctx (fld d 64 8)).pictures = c.pictures + 1
      ∧ ((t.engine e).vctx (fld d 64 8)).sinceIdr = (if c.codesIdr d then 1 else c.sinceIdr + 1)
      ∧ (t.engine e).busy = none ∧ (t.engine e).turn = some q ∧ (∀ m : Nat, m ≠ e → t.engine m = s.engine m)
      ∧ (∃ w : State, t = w.finish q.toNat .handed 0 0 0) ∧ Only [.free, .cores, .queues, .dram, .upsets, .spadUpsets,
          .ecc, .tlb, .modMem, .park, .video, .fw, .ev, .rel, .store, .od] s t))
  ∧ (∀ (s u v : State) (q : QueueId) (r : EncodeReport) (e d code : Nat) (c : VCtx) (j : VJob),
    s.atVideo q.toNat = some (e, d) → 4 ≤ e → dOpcode d = 0x32 →
    ((s.engine e).busy = none ∧ s.videoNext e = some q.toNat ∧ videoReserved d = false) ∨ (s.engine e).busy = some j →
        j.queue = q →
    s.encodeJob q.toNat e (s.queue q.toNat).part d = (.ok (c, j), u) →
    u.encodeReads (dieOfEngine e) (s.queue q.toNat).part d c.desc.toNat = (.error code, v) →
    Gives (.encode q r) s (fun t => (t.engine e).ctx = (s.engine e).ctx ∧ (t.engine e).busy = none
      ∧ (∃ w : State, t = w.finish q.toNat .handed code 0 0) ∧ Only [.free, .cores, .queues, .dram, .upsets, .spadUpsets,
          .ecc, .tlb, .modMem, .park, .video, .fw, .ev, .rel, .store, .od] s t))
  ∧ (∀ (s u : State) (q : QueueId) (r : EncodeReport) (e d code : Nat), s.atVideo q.toNat = some (e, d) →
    (s.engine e).busy = none → s.videoNext e = some q.toNat → 4 ≤ e → dOpcode d = 0x32 → videoReserved d = false →
    s.encodeJob q.toNat e (s.queue q.toNat).part d = (.error code, u) → exec (.encode q r) s = .next (u.videoDone q.toNat
        code))
  ∧ (∀ (c : VCtx) (d : Nat), c.pictures = 0 ∨ veForce d = true → c.codesIdr d = true)
  ∧ (∀ (s u v : State) (q : QueueId) (r : DecodeReport) (count : BitVec 15) (bytes : BitVec 32) (e d : Nat) (c : VCtx) (j
      : VJob)
    (x : List Byte × List Nat), s.atVideo q.toNat = some (e, d) → s.inFlight e = some q.toNat → videoReserved d = false →
        4 ≤ e →
    dOpcode d = 0x32 → s.encodeJob q.toNat e (s.queue q.toNat).part d = (.ok (c, j), u) → vcSubframe c.desc.toNat = true →
    count.toNat = j.count + 1 → c.sliceFits (c.codesIdr d) j.ends bytes.toNat = true →
    u.encodeReads (dieOfEngine e) (s.queue q.toNat).part d c.desc.toNat = (.ok x, v) →
    Gives (.subframeProgress q count ⟨bytes, r⟩) s (fun t => (t.engine e).busy = some { j with
          count := j.count + 1, ends := j.ends ++ [bytes.toNat], first := if j.count = 0 then s.now else j.first }
      ∧ (t.engine e).ctx = (s.engine e).ctx ∧ (∀ m : Nat, m ≠ e → t.engine m = s.engine m) ∧ Only [.free, .cores, .queues,
          .dram, .upsets, .spadUpsets, .ecc, .tlb, .modMem, .park, .video, .fw, .ev, .rel, .store, .od] s t))
  ∧ (∀ (s u v : State) (q : QueueId) (r : DecodeReport) (count : BitVec 15) (bytes : BitVec 32) (e d : Nat) (c : VCtx) (j
      : VJob)
    (sp : StreamParams) (x : Content), s.atVideo q.toNat = some (e, d) → s.inFlight e = some q.toNat → videoReserved d =
        false →
    e < 4 → dOpcode d = 0x31 → s.decodeJob q.toNat e (s.queue q.toNat).part d r = (.ok (c, j), u) →
    (c.judge (vdBytes d) j.unit).existing = none → (c.judge (vdBytes d) j.unit).picType ≠ 3 →
    (c.judge (vdBytes d) j.unit).sp = some sp →
    u.content (dieOfEngine e) (s.queue q.toNat).part c j (c.judge (vdBytes d) j.unit) sp = (some x, v) →
    vcSubframe c.desc.toNat = true → count.toNat = j.count + 1 → count.toNat < x.bands.length →
    Gives (.subframeProgress q count ⟨bytes, r⟩) s (fun t => (t.engine e).busy = some { j with
          count := j.count + 1, ends := j.ends ++ [0], first := if j.count = 0 then s.now else j.first }
      ∧ (t.engine e).ctx = (s.engine e).ctx ∧ (∀ m : Nat, m ≠ e → t.engine m = s.engine m) ∧ Only [.free, .cores, .queues,
          .dram, .upsets, .spadUpsets, .ecc, .tlb, .modMem, .park, .video, .fw, .ev, .rel, .store, .od] s t))
  ∧ (∀ (s : State) (q : QueueId) (r : DecodeReport) (count : BitVec 15) (bytes : BitVec 32) (e d : Nat),
    s.atVideo q.toNat = some (e, d) → s.inFlight e ≠ some q.toNat → exec (.subframeProgress q count ⟨bytes, r⟩) s = .next s)

/-- A restart of an engine that works ends the picture in progress, notes its time and leaves every context; the
fifth within an hour fails the engine, whose contexts stay as records; so does an order that comes while the engine
does not work, which only reads back as failed. A picture that has been in progress for longer than OD 0x2500.0B
restarts its engine. Other engines stay as they were. That the restart lasts until the next idle step is the model's
choice (log 145). Rests on R343, R344, R347, R486. -/
def Obligations.VideoEngineRestarts : Prop :=
  (∀ (s : State) (e : EngineId), s.asleep = false → s.engineDown e.val = false → (s.restartsLastHour e.val).length < 4 →
    (∀ j : VJob, (s.engine e.val).busy = some j → (s.queue j.queue.toNat).videoOf = some e.val) →
    Gives (.videoEngineRestart e) s (fun t => (t.engine e.val).ctx = (s.engine e.val).ctx ∧ (t.engine e.val).busy = none
      ∧ (t.engine e.val).restarts = s.restartsLastHour e.val ++ [s.park.clock] ∧ (t.engine e.val).failed = false
      ∧ (t.engine e.val).restarting = true
      ∧ (∀ m : Nat, m ≠ e.val → t.engine m = s.engine m) ∧ t.odGet (0x2510 + e.val) 7 = 1 ∧ Only [.free, .queues, .dram,
          .upsets, .ecc, .tlb, .modMem, .park, .video, .fw, .ev, .rel, .store, .od] s t))
  ∧ (∀ (s : State) (e : EngineId), s.asleep = false → s.engineDown e.val = false → 4 ≤ (s.restartsLastHour e.val).length →
    (∀ j : VJob, (s.engine e.val).busy = some j → (s.queue j.queue.toNat).videoOf = some e.val) →
    Gives (.videoEngineRestart e) s (fun t => (t.engine e.val).ctx = (s.engine e.val).ctx ∧ (t.engine e.val).failed = true
      ∧ (∀ m : Nat, m ≠ e.val → t.engine m = s.engine m) ∧ t.odGet (0x2510 + e.val) 7 = 3 ∧ Only [.free, .queues, .dram,
          .upsets, .ecc, .tlb, .modMem, .park, .video, .fw, .ev, .rel, .store, .od] s t))
  ∧ (∀ (s : State) (e : EngineId), s.asleep = false → s.engineDown e.val = true →
    exec (.videoEngineRestart e) s = .next (s.odSet (0x2510 + e.val) 7 3))
  ∧ (∀ (s : State) (e : EngineId), s.asleep = false → (s.engine e.val).failed = false →
    (∀ j : VJob, (s.engine e.val).busy = some j → (s.queue j.queue.toNat).videoOf = some e.val) →
    Gives (.videoEngineFailure e) s (fun t => (t.engine e.val).failed = true ∧ (t.engine e.val).ctx = (s.engine e.val).ctx
      ∧ (t.engine e.val).busy = none ∧ (∀ m : Nat, m ≠ e.val → t.engine m = s.engine m) ∧ Only [.free, .queues, .dram,
          .upsets, .ecc, .tlb, .modMem, .park, .video, .fw, .ev, .rel, .store, .od] s t))
  ∧ (∀ (s : State) (e : EngineId), (s.engine e.val).failed = true → exec (.videoEngineFailure e) s = .next s)
  ∧ (∀ (s : State) (q : QueueId) (e d : Nat) (j : VJob), s.atVideo q.toNat = some (e, d) → (s.engine e).busy = some j →
      j.queue = q →
    j.start + 250000 * s.odGet 0x2500 0x0B < s.now → (s.restartsLastHour e).length < 4 →
    Gives (.pictureTimeout q) s (fun t => (t.engine e).ctx = (s.engine e).ctx ∧ (t.engine e).busy = none
      ∧ (t.engine e).restarts = s.restartsLastHour e ++ [s.park.clock] ∧ (t.engine e).restarting = true
      ∧ (∀ m : Nat, m ≠ e → t.engine m = s.engine m) ∧ Only [.free, .queues, .dram, .upsets, .ecc, .tlb, .modMem, .park,
          .video, .fw, .ev, .rel, .store, .od] s t))
  ∧ (∀ (s : State) (q : QueueId) (e d : Nat) (j : VJob), s.atVideo q.toNat = some (e, d) → (s.engine e).busy = some j →
    s.now ≤ j.start + 250000 * s.odGet 0x2500 0x0B → exec (.pictureTimeout q) s = .next s)

/-- A message on a host mailbox or in a command queue that passes every check and whose component runs is served and
advances the mailbox's received sequence number by one: ECHO answers 0x00 with its own body. A message with a wrong
reserved field, major, sequence number, type, origin, length, address, a poisoned body or one that the present state
does not allow is answered with the code of its first failing check, and an ECHO that is out of sequence leaves the
received sequence number as it was. A message for a component that does not run waits, and after 100 ms is answered
0x87; a request without a reply within its limit is answered 0x88. Every reply carries the next sequence number of
its mailbox, and the hardware writes the origin of a host message. Rests on R362, R363, R364, R365, R366, R367,
R368. -/
def Obligations.MailboxChecks : Prop :=
  (∀ (s : State) (src : MbxSrc) (x : MbxIn), s.incoming src = some x → s.idle = false → (s.mbx x.die x.mbx).inb = [] →
    mgType x.word = 0x60 → mgExternal x.word = false → s.checkMessage x = 0 → (s.comp x.die 0).state = .running →
    exec (.echo src) s = .next ((s.putMbx x.die x.mbx { s.mbx x.die x.mbx with
      inSeq := (s.mbx x.die x.mbx).inSeq + 1 }).answer x 0 (leBytes (mgLength x.word) (mgBody x.word))))
  ∧ (∀ (s : State) (src : MbxSrc) (x : MbxIn), s.incoming src = some x → x.queue = none → s.idle = false →
    (s.mbx x.die x.mbx).inb = [] → mgType x.word = 0x60 → mgExternal x.word = false → s.checkMessage x = 0 →
    (s.comp x.die 0).state ≠ .running →
    Gives (.echo src) s (fun t => (t.mbx x.die x.mbx).inb
        = [{ msg := BitVec.ofNat 512 x.word, since := x.since, from_ := none, seq := x.seq, waiting := true }]
      ∧ (t.mbx x.die x.mbx).inSeq = (s.mbx x.die x.mbx).inSeq + 1
      ∧ (t.mbx x.die x.mbx).outb = (s.mbx x.die x.mbx).outb ∧ Only [.fw] s t))
  ∧ (∀ (s : State) (src : MbxSrc) (x : MbxIn), s.incoming src = some x → x.queue = none → s.idle = false → s.upsets = [] →
    (s.mbx x.die x.mbx).inb = [] → mgReservedBad x.word true = false → mgMajor x.word = s.kernelVersion / 256 →
    mgSeq x.word ≠ (s.mbx x.die x.mbx).inSeq.toNat → (s.mbx x.die x.mbx).outb.length < 32 →
    Gives (.echo src) s (fun t => (t.mbx x.die x.mbx).inSeq = (s.mbx x.die x.mbx).inSeq
      ∧ (t.mbx x.die x.mbx).outSeq = (s.mbx x.die x.mbx).outSeq + 1
      ∧ (t.mbx x.die x.mbx).outb = (s.mbx x.die x.mbx).outb ++ [replyMessage s.kernelVersion
        (s.mbx x.die x.mbx).outSeq.toNat x.word 0x83 false (leBytes 2 (s.mbx x.die x.mbx).inSeq.toNat)]
      ∧ Only [.fw, .od] s t))
  ∧ (∀ (s : State) (die : Die) (m : BitVec 6) (msg : BitVec 512), s.firmwareUp = true → s.mbxKind die.toNat m.toNat =
      .host →
    s.incoming (.host die m msg) = some ⟨die.toNat, m.toNat, setFld msg.toNat 92 4 8, none, s.now, 0⟩)
  ∧ (∀ (s : State) (x : MbxIn), mgReservedBad x.word x.queue.isNone = true → s.checkMessage x = 0x84)
  ∧ (∀ (s : State) (x : MbxIn), mgReservedBad x.word x.queue.isNone = false → mgMajor x.word ≠ s.kernelVersion / 256 →
    s.checkMessage x = 0x80)
  ∧ (∀ (s : State) (x : MbxIn), mgReservedBad x.word x.queue.isNone = false → mgMajor x.word = s.kernelVersion / 256 →
    mgSeq x.word = (s.mbx x.die x.mbx).inSeq.toNat → msgType (mgType x.word) = none → s.checkMessage x = 0x81)
  ∧ (∀ (s : State) (die : Die) (m : BitVec 6) (r : MbxReq),
    (s.mbx die.toNat m.toNat).inb.find? (fun r => r.waiting && decide (r.since + 25000000 ≤ s.now)) = some r →
    exec (.mailboxWaitTimeout die m) s = .next ((s.putMbx die.toNat m.toNat { s.mbx die.toNat m.toNat with
      inb := (s.mbx die.toNat m.toNat).inb.erase r }).answer (r.back die.toNat m.toNat) 0x87 []))
  ∧ (∀ (s : State) (die : Die) (m : BitVec 6), (s.mbx die.toNat m.toNat).inb.all (fun r => s.now < r.since + 25000000) =
      true →
    exec (.mailboxWaitTimeout die m) s = .next s)
  ∧ (∀ (s : State) (die : Die) (m : BitVec 6) (r : MbxReq) (t : MsgType), (s.mbx die.toNat m.toNat).inb = [r] →
    msgType (mgType r.msg.toNat) = some t → r.since + t.limit < s.now →
    exec (.mailboxReplyTimeout die m) s = .next ((s.putMbx die.toNat m.toNat { s.mbx die.toNat m.toNat with
      inb := [] }).answer (r.back die.toNat m.toNat) 0x88 []))

/-- Once a message of its type has passed (receive): an accepted HELLO notes the driver's versions, starts mailbox
0's sequences at 0 before its reply and, as the second die's at step 4, moves the load to step 5; a HELLO that fails
a check of step 4 refuses the bundle with its reason. A load makes an absent or loaded runtime component loaded with
its digest; a start makes a loaded one running; a stop makes a running one loaded; anything else is answered 0x89
and changes no component. A status request answers 32 bytes that the spec does not lay out (free, log 1). Health
confirms a bundle on probation. A mailbox outside a load takes the kind and partition assigned. A refused bundle is
loaded again; in any other state the reload fails. Rests on R353, R362, R369, R370, R371, R372, R611. -/
def Obligations.RuntimeLoad : Prop :=
  (∀ (s u : State) (m : MbxSrc) (x : MbxIn), s.receive m 1 = (some x, u) → x.mbx = 0 → x.queue = none → u.mode ≠
      .awaitRuntime →
    u.helloReason (mgMinor x.word) (leNat (((u.body x).drop 32).take 2)) = 0 →
    Gives (.hello m) s (fun t => t.odGet 0x2150 3 = 256 * mgMajor x.word + mgMinor x.word
      ∧ (t.mbx x.die 0).inSeq = 0 ∧ (t.mbx x.die 0).outSeq = 1 ∧ t.mode = u.mode ∧ Only [.free, .mode, .idle, .rst,
          .queues, .dram, .upsets, .ecc, .tlb, .modMem, .fw, .ev, .rel, .sec, .pow, .store, .od] s t))
  ∧ (∀ (s u : State) (m : MbxSrc) (x : MbxIn), s.receive m 1 = (some x, u) → x.mbx = 0 → x.queue = none → x.die = 1 →
    u.mode = .awaitRuntime → u.fw.loadStep = 4 → u.fw.helloEast = true →
    u.helloReason (mgMinor x.word) (leNat (((u.body x).drop 32).take 2)) = 0 →
    Gives (.hello m) s (fun t => t.fw.loadStep = 5 ∧ t.fw.helloWest = true ∧ t.mode = .awaitRuntime ∧ Only [.free, .mode,
        .idle, .rst, .queues, .dram, .upsets, .ecc, .tlb, .modMem, .fw, .ev, .rel, .sec, .pow, .store, .od] s t))
  ∧ (∀ (s u : State) (m : MbxSrc) (x : MbxIn), s.receive m 1 = (some x, u) → x.mbx = 0 → x.queue = none →
    u.mode = .awaitRuntime → u.fw.loadStep = 4 →
    u.helloReason (mgMinor x.word) (leNat (((u.body x).drop 32).take 2)) ≠ 0 →
    Gives (.hello m) s (fun t => t.mode = .refused ∧ t.fw.loadStep = 0 ∧ t.rst.running = none
      ∧ t.odGet 0x2150 7 = u.helloReason (mgMinor x.word) (leNat (((u.body x).drop 32).take 2)) ∧ Only [.free, .mode,
          .idle, .rst, .queues, .dram, .upsets, .ecc, .tlb, .modMem, .fw, .ev, .rel, .sec, .pow, .store, .od] s t))
  ∧ (∀ (s u : State) (m : MbxSrc) (x : MbxIn), s.receive m 2 = (some x, u) →
    2 ≤ leNat ((u.body x).take 1) → leNat ((u.body x).take 1) ≤ 11 →
    (u.comp x.die (leNat ((u.body x).take 1))).state = .absent ∨ (u.comp x.die (leNat ((u.body x).take 1))).state =
        .loaded →
    u.mode ≠ .refused → u.fw.loadStep ≠ 4 →
    u.loadedImage.partDigest (0x20 + leNat ((u.body x).take 1)) = some (leNat ((u.body x).drop 16)) →
    Gives (.loadComponent m) s (fun t => (t.comp x.die (leNat ((u.body x).take 1))).state = .loaded
      ∧ (t.comp x.die (leNat ((u.body x).take 1))).digest = leNat ((u.body x).drop 16)
      ∧ (t.comp x.die (leNat ((u.body x).take 1))).version = u.loadedImage.version
      ∧ (∀ c : Nat, c ≠ leNat ((u.body x).take 1) → t.comp x.die c = u.comp x.die c) ∧ Only [.free, .mode, .idle, .rst,
          .queues, .dram, .upsets, .ecc, .tlb, .modMem, .fw, .ev, .rel, .pow, .store, .od] s t))
  ∧ (∀ (s u : State) (m : MbxSrc) (x : MbxIn), s.receive m 3 = (some x, u) →
    2 ≤ leNat ((u.body x).take 1) → leNat ((u.body x).take 1) ≤ 11 →
    (u.comp x.die (leNat ((u.body x).take 1))).state = .loaded →
    Gives (.startComponent m) s (fun t => (t.comp x.die (leNat ((u.body x).take 1))).state = .running
      ∧ (∀ c : Nat, c ≠ leNat ((u.body x).take 1) → t.comp x.die c = u.comp x.die c) ∧ t.mode = s.mode ∧ Only [.free,
          .idle, .queues, .dram, .upsets, .ecc, .tlb, .modMem, .fw, .ev, .od] s t))
  ∧ (∀ (s u : State) (m : MbxSrc) (x : MbxIn), s.receive m 4 = (some x, u) →
    2 ≤ leNat ((u.body x).take 1) → leNat ((u.body x).take 1) ≤ 11 →
    (u.comp x.die (leNat ((u.body x).take 1))).state = .running →
    Gives (.stopComponent m) s (fun t => (t.comp x.die (leNat ((u.body x).take 1))).state = .loaded
      ∧ (∀ c : Nat, c ≠ leNat ((u.body x).take 1) → t.comp x.die c = u.comp x.die c) ∧ t.mode = s.mode ∧ Only [.free,
          .idle, .queues, .dram, .upsets, .ecc, .tlb, .modMem, .fw, .ev, .od] s t))
  ∧ (∀ (s u : State) (m : MbxSrc) (x : MbxIn), leNat ((u.body x).take 1) < 2 ∨ 11 < leNat ((u.body x).take 1) →
    (s.receive m 2 = (some x, u) → exec (.loadComponent m) s = .next (u.answer x 0x89 []))
    ∧ (s.receive m 3 = (some x, u) → exec (.startComponent m) s = .next (u.answer x 0x89 []))
    ∧ (s.receive m 4 = (some x, u) → exec (.stopComponent m) s = .next (u.answer x 0x89 [])))
  ∧ (∀ (s u : State) (m : MbxSrc) (x : MbxIn), s.receive m 5 = (some x, u) →
    exec (.componentStatus m) s = .next ((u.setFree (u.free + 1)).answer x 0 (leBytes 32 (Config.freeNat u.free))))
  ∧ (∀ (s u : State) (m : MbxSrc) (x : MbxIn), s.receive m 6 = (some x, u) → u.store.probation ≠ none →
    Gives (.bundleHealth m) s (fun t => t.odGet 0x2A20 0x0D = 1 ∧ t.mode = s.mode ∧ Only [.free, .idle, .queues, .dram,
        .upsets, .ecc, .tlb, .modMem, .fw, .ev, .rel, .store, .od] s t))
  ∧ (∀ (s u : State) (m : MbxSrc) (x : MbxIn), s.receive m 6 = (some x, u) → u.store.probation = none →
    exec (.bundleHealth m) s = .next (u.answer x 0 []))
  ∧ (∀ (s u : State) (m : MbxSrc) (x : MbxIn) (n k p : Nat), s.receive m 7 = (some x, u) → u.fw.loadStep = 0 → u.mode ≠
      .refused →
    leNat ((u.body x).take 1) = n → leNat (((u.body x).drop 1).take 1) = k → leNat (((u.body x).drop 2).take 1) = p →
    leNat ((u.body x).drop 3) = 0 → 1 ≤ n → n ≤ 63 → k ≤ 2 → p ≤ 7 → (u.mbx x.die n).inb = [] →
    exec (.mailboxAssign m []) s = .next ((u.putMbx x.die n
        { kind := mbxKindOf k, assigned := true, part := BitVec.ofNat 3 p }).answer x 0 []))
  ∧ (∀ (s u : State) (m : MbxSrc) (x : MbxIn), s.receive m 7 = (some x, u) → leNat ((u.body x).take 1) = 0 →
    exec (.mailboxAssign m []) s = .next (u.answer x 0x84 []))
  ∧ (∀ s : State, s.mode = .refused → s.store.runIn .candidate = none → s.store.runIn .probation = none →
    (s.store.runImg ((s.store.runIn .current).getD false)).form = 0 →
    s.sec.fuseRuntime ≤ (s.store.runImg ((s.store.runIn .current).getD false)).counter →
    Gives (.reloadRuntime 0) s (fun t => t.mode = .awaitRuntime ∧ t.fw.loadStep = 4 ∧ t.rst.awaitSince = s.now
      ∧ t.fw.helloEast = false ∧ t.fw.helloWest = false ∧ Only [.free, .mode, .idle, .rst, .queues, .dram, .upsets, .ecc,
          .tlb, .modMem, .fw, .ev, .rel, .pow, .store, .od] s t))
  ∧ (∀ (s : State) (r : Nat), s.mode = .ready ∨ s.mode = .serving ∨ s.mode = .awaitRuntime →
    exec (.reloadRuntime r) s = .next (s.odSet 0x2150 0x0B 3))

/-- A HELLO that passes its filter, names a known credential in a state that allows sessions and finds a free record
and a leaf key is answered with KEY, and one record that was free becomes a handshake of that credential; one that
names no known credential, or has a wrong length, is dropped, and one that the module's state does not allow is
answered BUSY with reason 2; in BOOT and TRAIN it is not answered. An authentic FINISH within 1 s opens the record,
is answered READY and notes the sender; one that is not authentic frees it, as does a handshake step that has not
arrived within 1 s. Other records stay as they were. Rests on R385, R386, R387, R388, R395, R397. -/
def Obligations.RyciaHandshake : Prop :=
  (∀ (s u v : State) (f : RFrame) (ok : Bool) (leaf : Nat), s.takeClear f 0x01 0 = (true, u) → f.body.length = 36 →
    leNat (f.body.drop 34) = 0 → u.credentialKnown (leNat ((f.body.drop 32).take 2)) = true → u.sessionsAllowed = true →
    leNat ((f.body.drop 32).take 2) / 256 = 0xFF → ((upto 16).filter (fun j => decide ((u.rsess j).state = .free))).length
        ≠ 0 →
    16 - ((upto 16).filter (fun j => decide ((u.rsess j).state = .free))).length < u.sessionLimit →
    u.takeLeaf ok = (some leaf, v) →
    Gives (.ryciaHello f ok) s (fun t => ∃ j : Nat, j < 16 ∧ (s.rsess j).state = .free ∧ (t.rsess j).state = .handshake
      ∧ (t.rsess j).credential.toNat = leNat ((f.body.drop 32).take 2) ∧ (t.rsess j).stepAt = s.now ∧ (t.rsess j).peer =
          f.src
      ∧ (t.rsess j).rights = v.credentialRights (leNat ((f.body.drop 32).take 2))
      ∧ (∃ o : Output, t.out = s.out ++ [o]) ∧ (∀ k : Nat, k ≠ j → t.rsess k = s.rsess k) ∧ Only [.free, .out, .ryc, .rel,
          .sec, .store, .od] s t))
  ∧ (∀ (s u : State) (f : RFrame) (ok : Bool), s.takeClear f 0x01 0 = (true, u) →
    f.body.length ≠ 36 ∨ u.credentialKnown (leNat ((f.body.drop 32).take 2)) = false →
    exec (.ryciaHello f ok) s = .next (u.ryciaDrop false))
  ∧ (∀ (s u : State) (f : RFrame) (ok : Bool), s.takeClear f 0x01 0 = (true, u) → f.body.length = 36 →
    leNat (f.body.drop 34) = 0 → u.credentialKnown (leNat ((f.body.drop 32).take 2)) = true → u.sessionsAllowed = false →
    u.mode ≠ .boot → u.mode ≠ .train →
    exec (.ryciaHello f ok) s = .next (u.emit (.rycia f.port 0x05 0 0 (f.body.take 32 ++ leBytes 1 2))))
  ∧ (∀ (s u : State) (f : RFrame) (ok : Bool), s.takeClear f 0x01 0 = (true, u) → f.body.length = 36 →
    leNat (f.body.drop 34) = 0 → u.credentialKnown (leNat ((f.body.drop 32).take 2)) = true → u.mode = .boot ∨ u.mode =
        .train →
    exec (.ryciaHello f ok) s = .next u)
  ∧ (∀ (s : State) (f : RFrame) (ok : Bool), s.ryciaUp = true → rfType f = 0x01 → s.rfForm f (s.odGet 0x1100 1) = false →
    exec (.ryciaHello f ok) s = .next (s.odInc 0x1100 0x0A 1))
  ∧ (∀ (s : State) (f : RFrame) (j : Nat), s.ryciaUp = true → rfType f = 0x03 → s.sessionOf (rfSession f) = some j →
    s.rfForm f (s.rsess j).udp.toNat = true → (s.rsess j).state = .handshake → f.body.length = 4372 →
    s.now ≤ (s.rsess j).stepAt + 250000000 → f.authentic = true → (s.rsess j).rights ≠ 0 → s.asleep = false →
    Gives (.finish f) s (fun t => (t.rsess j).state = .opened ∧ (t.rsess j).peer = f.src ∧ (t.rsess j).lastValid = s.now
      ∧ (t.rsess j).credential = (s.rsess j).credential ∧ (t.rsess j).rights = (s.rsess j).rights
      ∧ t.out = s.out ++ [.rycia f.port 0x04 (s.rsess j).id.toNat 0 []]
      ∧ (∀ k : Nat, k ≠ j → t.rsess k = s.rsess k) ∧ Only [.free, .out, .mode, .idle, .entry, .queues, .dram, .upsets,
          .ecc, .tlb, .modMem, .fw, .ryc, .ev, .pow, .od] s t))
  ∧ (∀ (s : State) (f : RFrame) (j : Nat), s.ryciaUp = true → rfType f = 0x03 → s.sessionOf (rfSession f) = some j →
    s.rfForm f (s.rsess j).udp.toNat = true → (s.rsess j).state = .handshake → f.body.length = 4372 →
    s.now ≤ (s.rsess j).stepAt + 250000000 → f.authentic = false →
    exec (.finish f) s = .next ((s.ryciaDrop true).freeSession j))
  ∧ (∀ (s : State) (j : Fin 16), (s.rsess j.val).state = .handshake → (s.rsess j.val).stepAt + 250000000 ≤ s.now →
    exec (.handshakeTimeout j) s = .next (s.freeSession j.val))
  ∧ (∀ (s : State) (j : Fin 16), (s.rsess j.val).state ≠ .handshake ∨ s.now < (s.rsess j.val).stepAt + 250000000 →
    exec (.handshakeTimeout j) s = .next s)

/-- A counter that was accepted is not accepted again, and one older than 64 below the highest never is. A KEEPALIVE
that is accepted is answered with a KEEPALIVE; a CLOSE frees its record without an answer; a STATE_QUERY is answered
with the module's state and its own echo; a frame that no session record takes is dropped and counted. A session
that has had no valid frame for the idle limit ends, as does one closed through its entry; an entry of a free record
reads back as failed. Rests on R384, R388, R394, R395, R402. -/
def Obligations.RyciaSessionFrames : Prop :=
  (∀ (x : RSess) (c : Nat), (x.accept c).fresh c = false)
  ∧ (∀ (x : RSess) (c : Nat), c + 64 < x.rxHigh → x.fresh c = false)
  ∧ (∀ (s u : State) (f : RFrame) (j : Nat), s.takeFrame f 0x12 = (some j, u) →
    exec (.keepalive f) s = .next (u.sendSession j f.port 0x12 []))
  ∧ (∀ (s : State) (f : RFrame), s.ryciaUp = true → rfType f = 0x12 → s.sessionOf (rfSession f) = none →
    exec (.keepalive f) s = .next (s.odInc 0x1100 0x0A 1))
  ∧ (∀ (s : State) (f : RFrame) (j : Nat), s.ryciaUp = true → rfType f = 0x12 → s.sessionOf (rfSession f) = some j →
    (s.rsess j).state = .opened → s.rfForm f (s.rsess j).udp.toNat = true → f.authentic = true → rfCounter f < 2 ^ 48 →
    (s.rsess j).fresh (rfCounter f) = false → exec (.keepalive f) s = .next (s.odInc 0x1100 0x0A 1))
  ∧ (∀ (s : State) (f : RFrame) (j : Nat), s.ryciaUp = true → rfType f = 0x12 → s.sessionOf (rfSession f) = some j →
    (s.rsess j).state = .opened → s.rfForm f (s.rsess j).udp.toNat = true → f.authentic = true → rfCounter f < 2 ^ 48 →
    (s.rsess j).fresh (rfCounter f) = true → (s.rsess j).txNext < 2 ^ 48 →
    Gives (.keepalive f) s (fun t => t.out = s.out ++ [.rycia f.port 0x12 (s.rsess j).id.toNat (s.rsess j).txNext []]
      ∧ (t.rsess j).txNext = (s.rsess j).txNext + 1 ∧ (t.rsess j).fresh (rfCounter f) = false ∧ (t.rsess j).lastValid =
          s.now
      ∧ (∀ k : Nat, k ≠ j → t.rsess k = s.rsess k) ∧ Only [.free, .out, .mode, .idle, .entry, .queues, .dram, .upsets,
          .ecc, .tlb, .modMem, .fw, .ryc, .ev, .pow, .od] s t))
  ∧ (∀ (s u : State) (f : RFrame) (j : Nat), s.takeFrame f 0x13 = (some j, u) →
    Gives (.close f) s (fun t => t.ryc.sess = u.ryc.sess.del j ∧ t.out = s.out ∧ Only [.free, .out, .mode, .idle, .entry,
        .queues, .dram, .upsets, .ecc, .tlb, .modMem, .fw, .ryc, .ev, .pow, .od] s t))
  ∧ (∀ (s u : State) (f : RFrame), s.takeClear f 0x20 1 = (true, u) → f.body.length = 8 →
    exec (.stateQuery f) s = .next (u.emit (.rycia f.port 0x21 0 0 (leBytes 8 (leNat f.body) ++ leBytes 16 (u.odGet 0x1000
        4)
      ++ leBytes 1 s.mode.code ++ leBytes 1 0 ++ leBytes 2 0))))
  ∧ (∀ (s u : State) (f : RFrame), s.takeClear f 0x20 1 = (true, u) → f.body.length ≠ 8 →
    exec (.stateQuery f) s = .next (u.odInc 0x1100 0x0A 1))
  ∧ (∀ (s : State) (j : Fin 16), (s.rsess j.val).state = .opened →
    (s.rsess j.val).lastValid + 250000000 * s.odGet 0x1100 8 ≤ s.now →
    exec (.sessionIdleTimeout j) s = .next ((s.emit (.rycia (s.rsess j.val).port 0x13 (s.rsess j.val).id.toNat
      (s.rsess j.val).txNext [])).freeSession j.val))
  ∧ (∀ (s : State) (j : Fin 16), s.now < (s.rsess j.val).lastValid + 250000000 * s.odGet 0x1100 8 →
    exec (.sessionIdleTimeout j) s = .next s)
  ∧ (∀ (s : State) (j : Fin 16), s.asleep = false → s.mode ≠ .off → (s.rsess j.val).state = .opened →
    exec (.ryciaSessionClose j) s = .next (((s.emit (.rycia (s.rsess j.val).port 0x13 (s.rsess j.val).id.toNat
      (s.rsess j.val).txNext [])).freeSession j.val).odSet (0x1130 + j.val) 8 2))
  ∧ (∀ (s : State) (j : Fin 16), s.asleep = false → s.mode ≠ .off → (s.rsess j.val).state = .free →
    exec (.ryciaSessionClose j) s = .next (s.odSet (0x1130 + j.val) 8 3))

/-- Once a request of its operation has been taken (takeRequest): a READ that its check refuses is answered with
that code, one of an entry of a held write waits for it, and any other is answered from the entry; a WRITE whose
check refuses it is logged and answered, and one that passes is held until its window closes; WRITE_BEGIN opens a
block write for its entry in place of a late one; WRITE_SEGMENT appends the next bytes to it, and one at another
offset is answered 0x0501 and appends nothing; WRITE_COMMIT of a complete block holds the whole value; WRITE_CANCEL
removes the block. 10 s after its last segment a block write has expired. Rests on R389, R390, R391, R396, R403. -/
def Obligations.RyciaRequests : Prop :=
  (∀ (s u : State) (f : RFrame) (j : Nat), s.takeRequest f 1 = (some j, u) → u.requestCode f j false ≠ 0 →
    exec (.read f) s = .next (u.answerCodeTo f j (u.requestCode f j false)))
  ∧ (∀ (s u : State) (f : RFrame) (j : Nat), s.takeRequest f 1 = (some j, u) → u.requestCode f j false = 0 →
    u.ryc.window.any (fun w => decide (w.sess = j) && decide (w.index = msIndex (msg f))) = false →
    exec (.read f) s = .next (u.answerRead ⟨j, (u.rsess j).id.toNat, msRequest (msg f), msIndex (msg f), msSub (msg f),
      msOffset (msg f), msLength (msg f), f.port⟩))
  ∧ (∀ (s u : State) (f : RFrame) (j : Nat), s.takeRequest f 1 = (some j, u) → u.requestCode f j false = 0 →
    u.ryc.window.any (fun w => decide (w.sess = j) && decide (w.index = msIndex (msg f))) = true →
    Gives (.read f) s (fun t => t.ryc.window = u.ryc.window ∧ t.ryc.reads.length = u.ryc.reads.length + 1 ∧ t.out = u.out
      ∧ Only [.free, .out, .mode, .idle, .entry, .queues, .dram, .upsets, .ecc, .tlb, .modMem, .park, .fw, .ryc, .ev,
          .rel, .sec, .pow, .store, .od] s t))
  ∧ (∀ (s u : State) (f : RFrame) (j : Nat), s.takeRequest f 2 = (some j, u) →
    u.writeCode (whoOf (u.rsess j).rights (u.rsess j).credential.toNat) (msIndex (msg f)) (msSub (msg f)) f.port.toNat
      (f.body.drop 24) = 0 →
    exec (.write f) s = .next (u.setRyc { u.ryc with window := u.ryc.window ++ [u.heldOf f j (f.body.drop 24)] }))
  ∧ (∀ (s u : State) (f : RFrame) (j c : Nat), s.takeRequest f 2 = (some j, u) → c ≠ 0 →
    u.writeCode (whoOf (u.rsess j).rights (u.rsess j).credential.toNat) (msIndex (msg f)) (msSub (msg f)) f.port.toNat
      (f.body.drop 24) = c →
    Gives (.write f) s (fun t => t.ryc.window = u.ryc.window ∧ t.ryc.logCount = u.ryc.logCount + 1 ∧ t.od = u.od ∧ Only
        [.free, .out, .mode, .idle, .entry, .queues, .dram, .upsets, .ecc, .tlb, .modMem, .fw, .ryc, .ev, .pow, .od] s t))
  ∧ (∀ (s u : State) (f : RFrame) (j : Nat), s.takeRequest f 3 = (some j, u) → u.requestCode f j true = 0 →
    (u.rsess j).block (msIndex (msg f)) (msSub (msg f)) = none → msTotal (msg f) ≤ 16777216 →
    (∀ r : OdRow, odFind (msIndex (msg f)) (msSub (msg f)) = some r → msTotal (msg f) ≤ r.ty.largest) →
    odFind (msIndex (msg f)) (msSub (msg f)) ≠ none →
    exec (.writeBegin f) s = .next ((u.putBlocks j ({
      index := msIndex (msg f), sub := msSub (msg f), total := msTotal (msg f), data := [], at_ := u.now } :: (u.rsess
          j).otherBlocks (msIndex (msg f)) (msSub (msg f)))).answerCodeTo f j 0))
  ∧ (∀ (s u : State) (f : RFrame) (j : Nat) (b : BlockWrite), s.takeRequest f 3 = (some j, u) → u.requestCode f j true = 0 →
    (u.rsess j).block (msIndex (msg f)) (msSub (msg f)) = some b → b.late u.now = false →
    exec (.writeBegin f) s = .next (u.answerCodeTo f j 0x0501))
  ∧ (∀ (s u : State) (f : RFrame) (j : Nat) (b : BlockWrite), s.takeRequest f 4 = (some j, u) → u.requestCode f j true = 0 →
    (u.rsess j).block (msIndex (msg f)) (msSub (msg f)) = some b → b.late u.now = false →
    msOffset (msg f) = b.data.length → b.data.length + msLength (msg f) ≤ b.total →
    exec (.writeSegment f) s = .next ((u.putBlocks j ({ b with data := b.data ++ f.body.drop 24, at_ := u.now }
      :: (u.rsess j).otherBlocks (msIndex (msg f)) (msSub (msg f)))).answerCodeTo f j 0))
  ∧ (∀ (s u : State) (f : RFrame) (j : Nat) (b : BlockWrite), s.takeRequest f 4 = (some j, u) → u.requestCode f j true = 0 →
    (u.rsess j).block (msIndex (msg f)) (msSub (msg f)) = some b → b.late u.now = false → msOffset (msg f) ≠ b.data.length →
    exec (.writeSegment f) s = .next (u.answerCodeTo f j 0x0501))
  ∧ (∀ (s u : State) (f : RFrame) (j : Nat) (b : BlockWrite), s.takeRequest f 5 = (some j, u) → u.requestCode f j true = 0 →
    (u.rsess j).block (msIndex (msg f)) (msSub (msg f)) = some b → b.late u.now = false → b.total ≤ b.data.length →
    exec (.writeCommit f) s = .next ((u.putBlocks j ((u.rsess j).otherBlocks (msIndex (msg f)) (msSub (msg f)))).holdWrite
        f j b.data))
  ∧ (∀ (s u : State) (f : RFrame) (j : Nat), s.takeRequest f 6 = (some j, u) → u.requestCode f j true = 0 →
    exec (.writeCancel f) s = .next ((u.putBlocks j ((u.rsess j).otherBlocks (msIndex (msg f)) (msSub (msg
        f)))).answerCodeTo f j 0))
  ∧ (∀ (s : State) (j : Fin 16) (index : BitVec 16) (sub : BitVec 8) (b : BlockWrite), s.asleep = false →
    (s.rsess j.val).block index.toNat sub.toNat = some b → b.at_ + 2500000000 < s.now →
    exec (.blockWriteTimeout j index sub) s = .next (s.putBlocks j.val ({ b with expired := true }
      :: (s.rsess j.val).otherBlocks index.toNat sub.toNat)))

/-- The writes are applied in an order that only rearranges them, puts earlier windows first, and within a window
never a lower rank before a higher one; a secondary's write that contradicts one of the primary's in the same window
is refused with 0x0801 and counted, and changes no entry. A window that holds one write logs it, applies it and
answers it with its code; with nothing due nothing changes. A credential that its checks accept and the store
commits takes its new value and closes the sessions opened with it; one that the store does not commit keeps its
value. Rests on R380, R392, R393, R400, R401, R403. -/
def Obligations.CommandWindows : Prop :=
  (∀ (s : State) (ws : List HeldWrite), (s.windowOrder ws).Perm ws
    ∧ (s.windowOrder ws).Pairwise (fun a b => a.window < b.window ∨ (a.window = b.window ∧ s.rankOfWrite a ≤ s.rankOfWrite
        b)))
  ∧ (∀ (s : State) (prims started : List HeldWrite) (w : HeldWrite) (ok : Bool) (r : StartReport), s.rankOfWrite w = 1 →
    prims.any (fun p => contradicts p w) = true →
    s.settle prims started w ok r = (0x0801, s.odInc 0x1100 0x0D 1))
  ∧ (∀ (a b : HeldWrite), a.window = b.window → a.index = b.index → a.sub = b.sub → (contradicts a b = true ↔ a.value ≠
      b.value))
  ∧ (∀ (s v : State) (ok : Bool) (r : StartReport) (w : HeldWrite) (c : Nat), s.asleep = false → s.mode ≠ .off →
    s.ryc.window = [w] → s.ryc.reads = [] → w.at_ / 62500 < s.now / 62500 →
    ((s.setRyc { s.ryc with window := [] }).logWrite w 0).settle (if s.rankOfWrite w = 0 then [w] else []) [] w ok r = (c,
        v) →
    v.ryc.reads = [] →
    Gives (.commandWindowClose ok r) s (fun t => t = (if c = 0 then v else v.logCode c).answerWrite w c
      ∧ Only [.free, .out, .time, .tray, .mode, .idle, .entry, .leftMode, .wakeHeld, .westPrimary, .noBoot, .rst, .cores,
          .queues, .queueZero, .sems, .semWait, .dram, .upsets, .spadUpsets, .ecc, .modKey, .rotation, .migr, .migrQueue,
          .pageMaps, .tlb, .kvMaps, .kvTlb, .kvDirty, .shared, .modMem, .parts, .park, .sess, .emitted, .grammars,
          .adapters, .adapterLast, .video, .fw, .ryc, .net, .ev, .rel, .sec, .pow, .store, .od, .d2dFails] s t))
  ∧ (∀ (s : State) (ok : Bool) (r : StartReport), s.ryc.window = [] → s.ryc.reads = [] →
    exec (.commandWindowClose ok r) s = .next s)
  ∧ (∀ (s : State) (w : OdWrite), 0x1110 ≤ w.index.toNat → w.index.toNat < 0x111F →
    odAccess w.index.toNat w.sub.toNat = .rwp →
    s.writeCode operator w.index.toNat w.sub.toNat 0 w.value = 0 →
    Gives (.credentialWrite w true) s (fun t => ((s.psCommit [1] true).1 = true → t.odGet w.index.toNat w.sub.toNat =
        leNat w.value)
      ∧ ((s.psCommit [1] true).1 = false → t.odGet w.index.toNat w.sub.toNat = s.odGet w.index.toNat w.sub.toNat)
      ∧ (∀ j : Nat, j < 16 → (s.psCommit [1] true).1 = true →
        (s.rsess j).credential.toNat = 0xFF00 + (w.index.toNat - 0x1110) → (t.rsess j).state = .free)
      ∧ Only [.free, .out, .time, .tray, .mode, .idle, .entry, .leftMode, .wakeHeld, .westPrimary, .noBoot, .rst, .cores,
          .queues, .queueZero, .sems, .semWait, .dram, .upsets, .spadUpsets, .ecc, .modKey, .rotation, .migr, .migrQueue,
          .pageMaps, .tlb, .kvMaps, .kvTlb, .kvDirty, .shared, .modMem, .parts, .park, .sess, .emitted, .grammars,
          .adapters, .adapterLast, .video, .fw, .ryc, .net, .ev, .rel, .sec, .pow, .store, .od, .d2dFails] s t))
  ∧ (∀ (s : State) (w : OdWrite), s.writeCode operator w.index.toNat w.sub.toNat 0 w.value ≠ 0 → w.index.toNat ≠ 0x111F →
    exec (.credentialWrite w true) s = .next s)
  ∧ (∀ (s : State) (w : OdWrite), w.index.toNat < 0x1110 ∨ 0x4000 ≤ w.index.toNat → exec (.credentialWrite w true) s =
      .next s)

/-- A NETTX descriptor that fails a check ends with that check's code. One that passes, whose frame is clean and of
its partition's addresses, leaves on the ports that the link sends on, padded, with the header fields that the MAC
writes; a DATA frame advances the link's sequence number by one and is kept for replay. A frame of other addresses
ends with 0xC4, a poisoned one with 0xC5. While the link has no port to send on the descriptor waits, and once the
hold is over it ends with 0xC6. A NETRX of a queue that no rule names ends with 0xC1; one that passes its checks is
posted. Rests on R412, R416, R417, R418, R420, R424, R427. -/
def Obligations.NetworkDescriptors : Prop :=
  (∀ (s u : State) (q : QueueId) (d c : Nat), s.asleep = false → s.atEngine q.toNat 9 = some d → dOpcode d = 0x70 →
    s.txCheck q.toNat d = (c, u) → c ≠ 0 → exec (.nettx q) s = .next (u.finish q.toNat .handed c 0 0))
  ∧ (∀ (s : State) (q d : Nat), txBytes d = 0 → (s.txCheck q d).1 = 0x18)
  ∧ (∀ (s u v : State) (q : QueueId) (d : Nat) (bs : List (Byte × Bool)), s.asleep = false → s.atEngine q.toNat 9 = some d →
    dOpcode d = 0x70 → s.txCheck q.toNat d = (0, u) →
    u.mread (dieOfQueue q.toNat) (s.queue q.toNat).part (txAddr d) (txBytes d) = (some bs, v) → bs.any (·.2) = false →
    v.sourceOk (s.queue q.toNat).part (s.queue q.toNat).linkOf (bs.map (·.1)) = true →
    (s.link (s.queue q.toNat).linkOf).replaying = false → s.txPorts (s.queue q.toNat).linkOf ≠ [] →
    Gives (.nettx q) s (fun t =>
      t.out = s.out ++ (s.txPorts (s.queue q.toNat).linkOf).map (fun p => Output.frame p
        (v.macWrites (s.queue q.toNat).linkOf d (bs.map (·.1)) ++ List.replicate ((if (v.macWrites (s.queue
            q.toNat).linkOf d
          (bs.map (·.1))).getD 12 0 = 0x88 && (v.macWrites (s.queue q.toNat).linkOf d (bs.map (·.1))).getD 13 0 = 0xB5
              then 124
          else 60) - (v.macWrites (s.queue q.toNat).linkOf d (bs.map (·.1))).length) 0))
      ∧ (fEther (bs.map (·.1)) = 0x88B5 → (t.link (s.queue q.toNat).linkOf).seq = (s.link (s.queue q.toNat).linkOf).seq + 1)
      ∧ (fEther (bs.map (·.1)) ≠ 0x88B5 → t.net = s.net)
      ∧ (∃ w : State, t = w.finish q.toNat .handed 0 0 0) ∧ Only [.free, .out, .queues, .dram, .upsets, .ecc, .tlb,
          .modMem, .park, .fw, .net, .ev, .rel, .store, .od] s t))
  ∧ (∀ (s u v : State) (q : QueueId) (d : Nat) (bs : List (Byte × Bool)), s.asleep = false → s.atEngine q.toNat 9 = some d →
    dOpcode d = 0x70 → s.txCheck q.toNat d = (0, u) →
    u.mread (dieOfQueue q.toNat) (s.queue q.toNat).part (txAddr d) (txBytes d) = (some bs, v) →
    ((bs.take 64).any (·.2) = false → v.sourceOk (s.queue q.toNat).part (s.queue q.toNat).linkOf (bs.map (·.1)) = false →
      exec (.nettx q) s = .next (v.finish q.toNat .handed 0xC4 0 0))
    ∧ (v.sourceOk (s.queue q.toNat).part (s.queue q.toNat).linkOf (bs.map (·.1)) = true → bs.any (·.2) = true →
      exec (.nettx q) s = .next (v.finish q.toNat .handed 0xC5 0 0))
    ∧ (v.sourceOk (s.queue q.toNat).part (s.queue q.toNat).linkOf (bs.map (·.1)) = true → bs.any (·.2) = false →
      (s.link (s.queue q.toNat).linkOf).replaying = false → s.txPorts (s.queue q.toNat).linkOf = [] →
      ((s.link (s.queue q.toNat).linkOf).expired = true → exec (.nettx q) s = .next (v.finish q.toNat .handed 0xC6 0 0))
      ∧ ((s.link (s.queue q.toNat).linkOf).expired = false →
        exec (.nettx q) s = .next (v.updJob q.toNat .handed (fun j => { j with phase := .waitLink, since := v.now })))))
  ∧ (∀ (s u : State) (q : QueueId) (d : Nat), s.asleep = false → s.atEngine q.toNat 9 = some d → dOpcode d = 0x71 →
    fld d 120 392 = 0 → s.ruled q.toNat = true → rxAddr d % 64 = 0 →
    s.pcheck (dieOfQueue q.toNat) (s.queue q.toNat).part (rxAddr d) (rxBytes d) true = (true, u) →
    exec (.netrx q) s = .next (u.updJob q.toNat .handed (fun j => { j with phase := .posted, since := u.now })))
  ∧ (∀ (s : State) (q : QueueId) (d : Nat), s.asleep = false → s.atEngine q.toNat 9 = some d → dOpcode d = 0x71 →
    (fld d 120 392 ≠ 0 → exec (.netrx q) s = .next (s.done q.toNat 0xC0))
    ∧ (fld d 120 392 = 0 → s.ruled q.toNat = false → exec (.netrx q) s = .next (s.done q.toNat 0xC1))
    ∧ (fld d 120 392 = 0 → s.ruled q.toNat = true → rxAddr d % 64 ≠ 0 → exec (.netrx q) s = .next (s.done q.toNat 0xC3)))

/-- A frame that fails a filter of its port is counted and dropped. A DATA frame is delivered at most once from its
source: a number that was taken is not taken again. A duplicate is counted and dropped; a new DATA frame is steered.
A source entry idle for 1 s is freed. A job-abort frame that matches a valid group puts every ACTIVE or PAUSED queue
of its ranges in FAULT with 0xC8, and one that matches none is counted and dropped. An ordered abort of a valid
group sends one frame to every member on every fabric port that is up. Rests on R413, R415, R426, R432, R433, R434.
-/
def Obligations.NetworkReception : Prop :=
  (∀ (x y : Link) (src seq now later : Nat), x.take src seq now = (true, y) → (y.take src seq later).1 = false)
  ∧ (∀ (s : State) (p : PortId) (bs : List Byte) (fcs : Bool), (s.port p.val).up = true → s.mode ≠ .off → s.asleep = false →
    (s.odInc (0x2610 + p.val) 6 1).accepts p.val bs fcs = false →
    exec (.frameReceive p bs fcs) s = .next ((s.odInc (0x2610 + p.val) 6 1).odInc 0x2600 0x11 1))
  ∧ (∀ (s : State) (p : PortId) (bs : List Byte), (s.port p.val).up = true → s.mode ≠ .off → s.asleep = false →
    exec (.frameReceive p bs false) s = .next ((s.odInc (0x2610 + p.val) 6 1).odInc 0x2600 0x11 1))
  ∧ (∀ (s : State) (p : PortId) (bs : List Byte) (fcs : Bool) (k : Link), (s.port p.val).up = true → s.mode ≠ .off →
    s.asleep = false → (s.odInc (0x2610 + p.val) 6 1).accepts p.val bs fcs = true → fEther bs = 0x88B5 → fhType (fHeader
        bs) = 0 →
    (s.link (linkOfPort p.val)).take (fhSrc (fHeader bs)) (fhSeq (fHeader bs)) s.now = (false, k) →
    exec (.frameReceive p bs fcs) s
      = .next (((s.odInc (0x2610 + p.val) 6 1).putLink (linkOfPort p.val) k).odInc 0x2600 9 1))
  ∧ (∀ (s : State) (p : PortId) (bs : List Byte) (fcs : Bool) (k : Link), (s.port p.val).up = true → s.mode ≠ .off →
    s.asleep = false → (s.odInc (0x2610 + p.val) 6 1).accepts p.val bs fcs = true → fEther bs = 0x88B5 → fhType (fHeader
        bs) = 0 →
    (s.link (linkOfPort p.val)).take (fhSrc (fHeader bs)) (fhSeq (fHeader bs)) s.now = (true, k) →
    exec (.frameReceive p bs fcs) s
      = .next (((s.odInc (0x2610 + p.val) 6 1).putLink (linkOfPort p.val) k).steerFrame p.val bs))
  ∧ (∀ (s : State) (l : LinkId) (src : BitVec 16) (hi t : Nat) (seen : List Nat),
    (s.link l.val).peers.find src.toNat = some (hi, seen, t) → t + 250000000 ≤ s.now →
    exec (.peerEntryExpiry l src) s = .next (s.putLink l.val
        { s.link l.val with peers := (s.link l.val).peers.del src.toNat }))
  ∧ (∀ (s : State) (p : PortId) (gid : BitVec 32) (token : BitVec 64), 2 ≤ p.val → (s.port p.val).up = true → s.asleep =
      false →
    s.groupsMatching gid.toNat token.toNat = [] → exec (.jobAbort p gid token) s = .next (s.odInc 0x2600 0x11 1))
  ∧ (∀ (s : State) (p : PortId) (gid : BitVec 32) (token : BitVec 64) (g : Nat), 2 ≤ p.val → (s.port p.val).up = true →
    s.asleep = false → s.groupsMatching gid.toNat token.toNat = [g] →
    Gives (.jobAbort p gid token) s (fun t => ∀ q : Nat, jgHas (s.net.groups.getD g 0) q = true →
      (s.queue q).state = .active ∨ (s.queue q).state = .paused → (t.queue q).state = .fault ∧ (t.queue q).faultCode =
          0xC8))
  ∧ (∀ (s u : State) (g : BitVec 6) (members : List Nat), s.asleep = false → jgValid (s.net.groups.getD g.toNat 0) = true →
    s.fabricUp ≠ [] → s.groupMembers (s.net.groups.getD g.toNat 0) = (members, u) →
    Gives (.jobAbortOrdered g) s (fun t => t.out = s.out ++ s.fabricUp.flatMap (fun p => members.map (fun m =>
        Output.frame p (u.fabricFrame p 1 m (abortPayload (s.net.groups.getD g.toNat 0) 5 s.now)
          ++ List.replicate (124 - (u.fabricFrame p 1 m (abortPayload (s.net.groups.getD g.toNat 0) 5 s.now)).length) 0)))
      ∧ Only [.free, .out, .queues, .dram, .upsets, .ecc, .tlb, .modMem, .park, .fw, .ev, .rel, .store, .od] s t))
  ∧ (∀ (s : State) (g : BitVec 6), jgValid (s.net.groups.getD g.toNat 0) = false → exec (.jobAbortOrdered g) s = .next s)

/-- A failing active port goes down and its link's standby port with its link up takes the active role; without one
the link is down; the sixth failure within an hour makes the port failed. A standby port that fails takes no other
port with it. A planned switch starts only with a standby port, and after 20 µs the two roles exchange. A returning
port is measured where it is a fabric port, waits out its hold-off and becomes standby. A failed port returns only
on order. A standby fabric port sends its heartbeat. A link whose hold is over expires, and a replay that ends lets
the link go on. A diagnosis notes the lanes and their verdict. No other port changes its role. Rests on R405, R421,
R422, R425, R427, R428, R429, R430. -/
def Obligations.PortRoles : Prop :=
  (∀ (s : State) (p : PortId) (trigger : Fin 5) (b : Nat), s.asleep = false → s.mode ≠ .off → triggerOn trigger.val p.val
      = true →
    (s.port p.val).role = .active → s.standbyPort (linkOfPort p.val) = some b → (s.failuresHour p.val).length < 5 →
    Gives (.portFailure p trigger) s (fun t => (t.port p.val).role = .down ∧ (t.port p.val).up = false
      ∧ (t.port b).role = .active ∧ (t.link (linkOfPort p.val)).expired = false ∧ (t.link (linkOfPort p.val)).switching =
          none
      ∧ (∀ k : Nat, k ≠ p.val → k ≠ b → t.port k = s.port k) ∧ Only [.free, .out, .queues, .dram, .upsets, .ecc, .tlb,
          .modMem, .park, .fw, .net, .ev, .rel, .store, .od] s t))
  ∧ (∀ (s : State) (p : PortId) (trigger : Fin 5), s.asleep = false → s.mode ≠ .off → triggerOn trigger.val p.val = true →
    (s.port p.val).role = .active → s.standbyPort (linkOfPort p.val) = none → (s.failuresHour p.val).length < 5 →
    Gives (.portFailure p trigger) s (fun t => (t.port p.val).role = .down ∧ (t.link (linkOfPort p.val)).ring = []
      ∧ (∀ k : Nat, k ≠ p.val → t.port k = s.port k) ∧ Only [.free, .out, .queues, .dram, .upsets, .ecc, .tlb, .modMem,
          .park, .fw, .net, .ev, .rel, .store, .od] s t))
  ∧ (∀ (s : State) (p : PortId) (trigger : Fin 5), s.asleep = false → s.mode ≠ .off → triggerOn trigger.val p.val = true →
    (s.port p.val).role = .standby →
    Gives (.portFailure p trigger) s (fun t => (t.port p.val).role = (if 5 ≤ (s.failuresHour p.val).length then .failed
        else .down)
      ∧ (t.port p.val).up = false ∧ (∀ k : Nat, k ≠ p.val → t.port k = s.port k) ∧ Only [.free, .out, .queues, .dram,
          .upsets, .ecc, .tlb, .modMem, .park, .fw, .net, .ev, .rel, .store, .od] s t))
  ∧ (∀ (s : State) (l : LinkId), s.asleep = false → s.mode ≠ .off → (s.standbyPort l.val).isSome = true →
    (s.link l.val).switching = none →
    exec (.switchOver l.val) s = .next ((s.putLink l.val { s.link l.val with switching := some s.now }).odSet 0x2600 0x0A
        1))
  ∧ (∀ (s : State) (code : Nat), code ≥ 3 ∨ s.standbyPort code = none → exec (.switchOver code) s = .next (s.odSet 0x2600
      0x0A 3))
  ∧ (∀ (s : State) (l : LinkId) (a b t0 : Nat), (s.link l.val).switching = some t0 → t0 + 5000 ≤ s.now →
    s.activePort l.val = some a → s.standbyPort l.val = some b →
    Gives (.plannedSwitchComplete l) s (fun t => (t.port a).role = .standby ∧ (t.port b).role = .active
      ∧ (t.link l.val).switching = none ∧ (∀ k : Nat, k ≠ a → k ≠ b → t.port k = s.port k) ∧ Only [.free, .out, .queues,
          .dram, .upsets, .ecc, .tlb, .modMem, .park, .fw, .net, .ev, .rel, .store, .od] s t))
  ∧ (∀ (s : State) (p : PortId) (lanes : List LaneReading), s.asleep = false → s.mode ≠ .off → 2 ≤ p.val → lanes.length =
      4 →
    (s.port p.val).up = false → (s.port p.val).role = .down →
    Gives (.portLinkUp p lanes) s (fun t => (t.port p.val).role = .holdoff ∧ (t.port p.val).up = true
      ∧ (t.port p.val).holdSince = s.now ∧ (t.port p.val).verdict = verdictOf lanes
      ∧ (∀ k : Nat, k ≠ p.val → t.port k = s.port k) ∧ Only [.free, .out, .queues, .dram, .upsets, .ecc, .tlb, .modMem,
          .park, .fw, .net, .ev, .rel, .store, .od] s t))
  ∧ (∀ (s : State) (p : PortId), (s.port p.val).role = .holdoff → (s.port p.val).up = true → (s.port p.val).verdict < 4 →
    (s.port p.val).holdSince + 250000000 * s.odGet 0x2600 5 ≤ s.now →
    Gives (.holdoffExpiry p) s (fun t => t.port p.val = { s.port p.val with role := .standby, lastChange := s.now }
      ∧ (∀ k : Nat, k ≠ p.val → t.port k = s.port k) ∧ Only [.free, .queues, .dram, .upsets, .ecc, .tlb, .modMem, .fw,
          .net, .ev, .od] s t))
  ∧ (∀ (s : State) (p : PortId), 4 ≤ (s.port p.val).verdict ∨ s.now < (s.port p.val).holdSince + 250000000 * s.odGet
      0x2600 5 →
    exec (.holdoffExpiry p) s = .next s)
  ∧ (∀ (s : State) (p : PortId), s.asleep = false → 2 ≤ p.val → (s.port p.val).role = .standby → (s.port p.val).up = true →
    Gives (.heartbeat p) s (fun t => t.out = s.out ++ [.frame p.val (s.fabricFrame p.val 3 0xFFFF []
          ++ List.replicate (124 - (s.fabricFrame p.val 3 0xFFFF []).length) 0)]
      ∧ (∀ k : Nat, t.port k = s.port k) ∧ Only [.free, .out, .queues, .dram, .upsets, .ecc, .tlb, .modMem, .fw, .ev, .od]
          s t))
  ∧ (∀ (s : State) (l : LinkId) (q : Nat) (j : Job), s.asleep = false → s.txPorts l.val = [] → q ∈ s.waitingTx l.val →
    j ∈ (s.queue q).jobs → j.phase = .waitLink → j.since + 250000 * s.odGet 0x2600 7 ≤ s.now →
    Gives (.linkDownTimeout l) s (fun t => (t.link l.val).expired = true ∧ (∀ k : Nat, t.port k = s.port k) ∧ Only
        [.queues, .net] s t))
  ∧ (∀ (s : State) (l : LinkId), (s.link l.val).replaying = true → s.waitingTx l.val = [] →
    exec (.replayComplete l) s = .next (s.putLink l.val { s.link l.val with replaying := false }))
  ∧ (∀ (s : State) (p : PortId) (lanes : List LaneReading), s.asleep = false → 2 ≤ p.val → lanes.length = 4 →
    (s.port p.val).role = .standby ∨ (s.port p.val).role = .down →
    Gives (.runDiagnostics p lanes) s (fun t => (t.port p.val).verdict = verdictOf lanes ∧ (t.port p.val).lanes = lanes
      ∧ (t.port p.val).role = (s.port p.val).role ∧ (∀ k : Nat, k ≠ p.val → t.port k = s.port k)
      ∧ t.odGet (0x2610 + p.val) 0x0F = 2 ∧ Only [.free, .queues, .dram, .upsets, .ecc, .tlb, .modMem, .park, .fw, .net,
          .ev, .rel, .store, .od] s t))
  ∧ (∀ (s : State) (p : PortId), (s.port p.val).role = .failed →
    Gives (.portReturnToService p) s (fun t => (t.port p.val).role = .down ∧ (∀ k : Nat, k ≠ p.val → t.port k = s.port k)
      ∧ t.odGet (0x2610 + p.val) 0x10 = 2 ∧ Only [.free, .queues, .dram, .upsets, .ecc, .tlb, .modMem, .fw, .net, .ev,
          .od] s t))
  ∧ (∀ (s : State) (p : PortId), (s.port p.val).role ≠ .failed →
    exec (.portReturnToService p) s = .next (s.odSet (0x2610 + p.val) 0x10 3))

/-- An assertion of a disabled pulse source only counts; one of an enabled source below its count is held with the
time of the first; the one that reaches the count is delivered, and where the source interrupts, it is pending at
its core with its priority. A reserved number, and a condition that is true already, have no effect. Held
occurrences are delivered once their time limit has passed, and not before. A control with an illegal field or of a
reserved number is rejected with 0x1C, and one that changes an enabled source with 0x1D; neither changes the source;
one that passes replaces the control. Rests on R452, R453, R455, R456, R457, R458, R459, R463. -/
def Obligations.EventSources : Prop :=
  (∀ (s : State) (die : Die) (n : BitVec 10) (detail : BitVec 47), s.mode ≠ .off → s.asleep = false →
    sourceIsCond n.toNat = false → sourceReserved die.toNat n.toNat = false →
    scEnable (s.source die.toNat n.toNat).control.toNat = false →
    exec (.eventOccurrence die n true detail) s = .next (s.putSource die.toNat n.toNat { s.source die.toNat n.toNat with
      total := (s.source die.toNat n.toNat).total + 1 }))
  ∧ (∀ (s : State) (die : Die) (n : BitVec 10) (detail : BitVec 47), s.mode ≠ .off → s.asleep = false →
    sourceIsCond n.toNat = false → sourceReserved die.toNat n.toNat = false →
    scEnable (s.source die.toNat n.toNat).control.toNat = true → (s.source die.toNat n.toNat).n = 0 →
    1 < scCoalCount (s.source die.toNat n.toNat).control.toNat →
    exec (.eventOccurrence die n true detail) s = .next (s.putSource die.toNat n.toNat { s.source die.toNat n.toNat with
      total := (s.source die.toNat n.toNat).total + 1, n := 1, t0 := s.now, detail := detail.toNat }))
  ∧ (∀ (s : State) (die : Die) (n : BitVec 10) (detail : BitVec 47) (c : Nat), s.mode ≠ .off → s.asleep = false →
    sourceIsCond n.toNat = false → sourceReserved die.toNat n.toNat = false →
    (s.source die.toNat n.toNat).control.toNat = c → scEnable c = true → scToQueue c = false → scToMailbox c = false →
    scIrqEn c = true → (s.source die.toNat n.toNat).disarmed = false → scCoalCount c ≤ (s.source die.toNat n.toNat).n + 1 →
    Gives (.eventOccurrence die n true detail) s (fun t =>
      (scPriority c, die.toNat, n.toNat) ∈ (t.irq (irqIndex (scIrqKind c) (scIrqCore c))).pending
      ∧ (t.source die.toNat n.toNat).n = 0 ∧ (t.source die.toNat n.toNat).total = (s.source die.toNat n.toNat).total + 1
      ∧ (∀ k : Nat, k ≠ irqIndex (scIrqKind c) (scIrqCore c) → t.irq k = s.irq k) ∧ Only [.ev] s t))
  ∧ (∀ (s : State) (die : Die) (n : BitVec 10) (level : Bool) (detail : BitVec 47), sourceReserved die.toNat n.toNat =
      true →
    exec (.eventOccurrence die n level detail) s = .next s)
  ∧ (∀ (s : State) (die : Die) (n : BitVec 10) (detail : BitVec 47), sourceIsCond n.toNat = true →
    (s.source die.toNat n.toNat).cond = true → exec (.eventOccurrence die n true detail) s = .next s)
  ∧ (∀ (s : State) (die : Die) (n : BitVec 10), s.asleep = false → 0 < (s.source die.toNat n.toNat).n →
    scEnable (s.source die.toNat n.toNat).control.toNat = true → scCoalTime (s.source die.toNat n.toNat).control.toNat ≠ 0 →
    (s.source die.toNat n.toNat).t0 + limitOf (scCoalTime (s.source die.toNat n.toNat).control.toNat) ≤ s.now →
    exec (.coalesceTimeout die n) s = .next (deliver State.raise s die.toNat n.toNat))
  ∧ (∀ (s : State) (die : Die) (n : BitVec 10),
    s.now < (s.source die.toNat n.toNat).t0 + limitOf (scCoalTime (s.source die.toNat n.toNat).control.toNat) →
    exec (.coalesceTimeout die n) s = .next s)
  ∧ (∀ (s : State) (die : Die) (n : BitVec 10) (w : BitVec 64), s.firmwareUp = true →
    sourceReserved die.toNat n.toNat = true ∨ controlBad n.toNat (setFld w.toNat 45 4 0) = true →
    exec (.sourceControlWrite die n w) s = .next (s.emit (.code 0x1C)))
  ∧ (∀ (s : State) (die : Die) (n : BitVec 10) (w : BitVec 64), s.firmwareUp = true → sourceReserved die.toNat n.toNat =
      false →
    controlBad n.toNat (setFld w.toNat 45 4 0) = false → scEnable (s.source die.toNat n.toNat).control.toNat = true →
    setFld (setFld w.toNat 45 4 0) 63 1 0 ≠ setFld (s.source die.toNat n.toNat).control.toNat 63 1 0 →
    exec (.sourceControlWrite die n w) s = .next (s.emit (.code 0x1D)))
  ∧ (∀ (s : State) (die : Die) (n : BitVec 10) (w : BitVec 64), s.firmwareUp = true → sourceReserved die.toNat n.toNat =
      false →
    controlBad n.toNat (setFld w.toNat 45 4 0) = false → scEnable (s.source die.toNat n.toNat).control.toNat = false →
    scEnable (setFld w.toNat 45 4 0) = true → s.enableBad die.toNat n.toNat (setFld w.toNat 45 4 0) = false →
    exec (.sourceControlWrite die n w) s = .next (s.putSource die.toNat n.toNat { s.source die.toNat n.toNat with
      control := BitVec.ofNat 64 (setFld w.toNat 45 4 0) }))

/-- The record that a claim considers is one that waits, and none that waits comes before it: higher priority, then
the east die, then the lower source number. A claim takes it where its priority is above that on top of the core's
stack, puts its priority there and answers its claim word; otherwise it answers zero and takes nothing. A complete
of the priority on top removes it; any other is discarded and counted, and one from a firmware core orders a WARM
reset. Rests on R463, R464. -/
def Obligations.Interrupts : Prop :=
  (∀ (x : Irq) (b : Nat × Nat × Nat), x.best = some b → b ∈ x.pending ∧ (∀ r : Nat × Nat × Nat, r ∈ x.pending → irqBefore
      r b = false))
  ∧ (∀ (s : State) (c : IrqCore) (r : Nat × Nat × Nat), s.diesOn = true → (s.irq (irqNumber c)).best = some r →
    (s.irq (irqNumber c)).stack.headD 0 < r.1 →
    exec (.claim c) s = .next ((s.putIrq (irqNumber c) {
      pending := (s.irq (irqNumber c)).pending.erase r, stack := r.1 :: (s.irq (irqNumber c)).stack }).emit (.claimed
          (irqNumber c) (claimWord r))))
  ∧ (∀ (s : State) (c : IrqCore), s.diesOn = true →
    (∀ r : Nat × Nat × Nat, (s.irq (irqNumber c)).best = some r → r.1 ≤ (s.irq (irqNumber c)).stack.headD 0) →
    exec (.claim c) s = .next (s.emit (.claimed (irqNumber c) 0)))
  ∧ (∀ (s : State) (c : IrqCore) (word : BitVec 32) (rest : List Nat), s.diesOn = true →
    (s.irq (irqNumber c)).stack = word.toNat :: rest →
    exec (.complete c word) s = .next (s.putIrq (irqNumber c) { s.irq (irqNumber c) with stack := rest }))
  ∧ (∀ (s : State) (n : BitVec 3) (word : BitVec 32), s.diesOn = true → (s.irq (16 + n.toNat)).stack = [] →
    s.rst.due = none → s.rst.running = none → s.mode ≠ .refused →
    Gives (.complete (.fw n) word) s (fun t => t.rst = { s.rst with due := some 8 } ∧ t.cores = s.cores ∧ Only [.free,
        .rst, .queues, .dram, .upsets, .ecc, .tlb, .modMem, .fw, .ev, .od] s t))

/-- A wrapping counter counts modulo 2⁴⁸; a saturating one stops at 2⁴⁸ − 1; a restarting one begins again from its
threshold. A count that reaches a threshold raises the counter's source, and a wrap the core's or the die's. A
control is written where R466 to R469 let it stand, and has no effect elsewhere. A freeze is ordered for its time or
2 µs from now, whichever is later; at its time the counters are frozen, with one more freeze number, and none counts
further; a second freeze of frozen counters fails. A snapshot of frozen counters takes the image and changes no
counter. A resume, and a snapshot with resume, lets them count again. An injection raises the selected source. Rests
on R466, R467, R468, R469, R470, R471, R472. -/
def Obligations.PerformanceCounters : Prop :=
  (∀ (c : Ctr) (n : Nat), ctMode c.control.toNat = 0 → (c.add n).1.value.toNat = (c.value.toNat + n) % 2 ^ 48)
  ∧ (∀ (c : Ctr) (n : Nat), ctMode c.control.toNat = 1 → (c.add n).1.value.toNat = min (2 ^ 48 - 1) (c.value.toNat + n))
  ∧ (∀ (c : Ctr) (n : Nat), ctMode c.control.toNat = 2 → c.threshold.toNat ≠ 0 → c.threshold.toNat ≤ c.value.toNat + n →
    (c.add n).1.value.toNat = (c.value.toNat + n - c.threshold.toNat) % 2 ^ 48 ∧ (c.add n).2.1 = true)
  ∧ (∀ (s : State) (k : Fin 416) (n : Nat) (c : Ctr), s.asleep = false → s.mode ≠ .off → ctEnable (s.ctr
      k.val).control.toNat = true →
    s.ev.frozen = false → n ≠ 0 → (s.ctr k.val).add n = (c, true, false) →
    (ctThrSrc (s.ctr k.val).control.toNat ≠ 0 → exec (.counterThreshold k n) s
      = .next ((s.putCtr k.val c).raise (dieOfCtr k.val) (ctThrSrc (s.ctr k.val).control.toNat) k.val))
    ∧ (ctThrSrc (s.ctr k.val).control.toNat = 0 → exec (.counterThreshold k n) s = .next (s.putCtr k.val c)))
  ∧ (∀ (s : State) (k : Fin 416) (n : Nat) (c : Ctr), s.asleep = false → s.mode ≠ .off → ctEnable (s.ctr
      k.val).control.toNat = true →
    s.ev.frozen = false → n ≠ 0 → (s.ctr k.val).add n = (c, false, true) →
    exec (.counterWrap k n) s = .next ((s.putCtr k.val c).raise (dieOfCtr k.val) (wrapSource k.val) k.val))
  ∧ (∀ (s : State) (k : Fin 416) (w : BitVec 64), s.diesOn = true → s.counterOk k.val w.toNat = true →
    exec (.counterControlWrite k w) s = .next (s.putCtr k.val { s.ctr k.val with
      control := BitVec.ofNat 64 (setFld w.toNat 62 1 (b2n (bitOf (s.ctr k.val).control.toNat 62 && bitOf w.toNat 62))) }))
  ∧ (∀ (s : State) (k : Fin 416) (w : BitVec 64), s.counterOk k.val w.toNat = false → exec (.counterControlWrite k w) s =
      .next s)
  ∧ (∀ s : State, s.diesOn = true → s.ev.frozen = false → s.ev.freezeAt = none →
    exec .freeze s = .next ((s.setEv
        { s.ev with coreReset := [], freezeAt := some (max (s.odGet 0x2900 8) (s.now + 500)) }).odSet 0x2900 9 1))
  ∧ (∀ s : State, s.diesOn = true → s.ev.frozen = true → exec .freeze s = .next (s.odSet 0x2900 9 3))
  ∧ (∀ (s : State) (t0 : Nat), s.asleep = false → s.ev.freezeAt = some t0 → t0 ≤ s.now →
    Gives .freezePoint s (fun t => t.ev.frozen = true ∧ t.ev.freezeNo = s.ev.freezeNo + 1 ∧ t.ev.frozenT = t0
      ∧ t.ev.freezeAt = none ∧ t.ev.ctr = s.ev.ctr ∧ Only [.free, .queues, .dram, .upsets, .ecc, .tlb, .modMem, .fw, .ev,
          .od] s t))
  ∧ (∀ (s : State) (k : Fin 416) (n : Nat), s.ev.frozen = true →
    exec (.counterThreshold k n) s = .next s ∧ exec (.counterWrap k n) s = .next s)
  ∧ (∀ s : State, s.diesOn = true → s.ev.frozen = true →
    exec .freezeResume s = .next ((s.setEv { s.ev with frozen := false }).odSet 0x2900 9 2))
  ∧ (∀ s : State, s.diesOn = true → s.ev.frozen = false → exec .freezeResume s = .next (s.odSet 0x2900 9 3)
    ∧ exec .snapshot s = .next (s.odSet 0x2900 0x0B 3) ∧ exec .snapshotResume s = .next (s.odSet 0x2900 0x0B 3))
  ∧ (∀ s : State, s.diesOn = true → s.ev.frozen = true →
    exec .snapshot s = .next ((s.odSet 0x2900 0x0C (leNat s.snapshotImage)).odSet 0x2900 0x0B 2))
  ∧ (∀ s : State, s.diesOn = true → s.ev.frozen = true →
    Gives .snapshotResume s (fun t => t.ev = { s.ev with frozen := false } ∧ t.odGet 0x2900 0x0C = leNat s.snapshotImage
      ∧ t.odGet 0x2900 0x0B = 2 ∧ Only [.ev, .od] s t))
  ∧ (∀ s : State, s.snapshotImage.length = 3392)
  ∧ (∀ (s : State) (v : Nat), s.diesOn = true → s.odGet 0x2910 1 = v → sourceReserved (v / 1024) (v % 1024) = false →
    exec .inject s = .next ((s.raise (v / 1024) (v % 1024) 0).odSet 0x2910 5 2))
  ∧ (∀ (s : State) (v : Nat), s.diesOn = true → s.odGet 0x2910 1 = v → sourceReserved (v / 1024) (v % 1024) = true →
    exec .inject s = .next (s.odSet 0x2910 5 3))

/-- A registration into a free slot of valid pages of an active partition enters the slot with the digests of its
pages as they are read, and one that fails changes nothing; a deregistration empties it. A pass starts on order, or
once its period has passed since the last; at its end the slot holds the digests found, a pass without a mismatch is
good from now, and one with a mismatch counts it and gives verdict 2. A replica report gives verdict 3 and, as a
mismatch with poison, marks the valid pages of the slot. A command to an empty slot changes no slot. Rests on R477,
R478, R479, R480, R481, R482. -/
def Obligations.WeightDigests : Prop :=
  (∀ (s u : State) (r : BundleReg) (ds : List Nat), s.registerOk r = true →
    s.digestPages r.part.toNat ((r.pages.map BitVec.toNat).map (s.pageEntry r.part.toNat)) = (ds, u) →
    exec (.bundleRegister r) s = .next (u.account.putBundle r.slot.toNat {
      part := r.part
      digest := r.digest
      pages := r.pages.map BitVec.toNat
      loadPages := ds
      load := residentDigest ds
      lastPages := []
      last := 0
      lastPass := 0
      lastGood := s.now
      since := s.now }))
  ∧ (∀ (s : State) (r : BundleReg), s.registerOk r = false → exec (.bundleRegister r) s = .next s)
  ∧ (∀ (s : State) (b : BitVec 4), s.firmwareUp = true →
    exec (.bundleDeregister b) s = .next (s.setRel { s.rel with bundles := s.rel.bundles.del b.toNat }))
  ∧ (∀ (s : State) (b : BitVec 4) (x : Bundle), s.diesOn = true → s.bundle b.toNat = some x → x.running = false →
    x.since + 250000000 * s.odGet 0x2700 5 ≤ s.now →
    exec (.digestPassStart b) s = .next (s.putBundle b.toNat { x with running := true }))
  ∧ (∀ (s : State) (b : BitVec 4) (x : Bundle), s.bundle b.toNat = some x → s.now < x.since + 250000000 * s.odGet 0x2700 5 →
    exec (.digestPassStart b) s = .next s)
  ∧ (∀ (s : State) (b : BitVec 4) (x : Bundle), s.diesOn = true → s.bundle b.toNat = some x → x.running = false →
    exec (.checkNow b) s = .next ((s.putBundle b.toNat { x with running := true }).odSet (0x2710 + b.toNat) 0x0B 1))
  ∧ (∀ (s : State) (b : BitVec 4), s.diesOn = true → s.bundle b.toNat = none →
    exec (.checkNow b) s = .next (s.odSet (0x2710 + b.toNat) 0x0B 3)
    ∧ exec (.reportMismatch b) s = .next (s.odSet (0x2710 + b.toNat) 0x0C 3)
    ∧ exec (.reportMismatchPoison b) s = .next (s.odSet (0x2710 + b.toNat) 0x0C 3))
  ∧ (∀ (s u : State) (b : BitVec 4) (x : Bundle) (ds : List Nat) (n : Nat), s.diesOn = true → s.bundle b.toNat = some x →
    x.running = true → s.passPages b.toNat x (x.pages.zip x.loadPages) = (ds, n, u) →
    Gives (.digestPassEnd b) s (fun t => t.bundle b.toNat = some { x with
        running := false
        lastPages := ds
        last := residentDigest ds
        lastPass := s.now
        since := s.now
        lastGood := if n = 0 then s.now else x.lastGood
        verdict := if n = 0 then 1 else 2
        mismatched := x.mismatched + n }
      ∧ (∀ c : Nat, c ≠ b.toNat → t.bundle c = s.bundle c) ∧ Only [.free, .cores, .queues, .dram, .upsets, .ecc, .migr,
          .migrQueue, .pageMaps, .tlb, .modMem, .parts, .park, .fw, .ev, .rel, .store, .od] s t))
  ∧ (∀ (s : State) (b : BitVec 4) (x : Bundle), s.diesOn = true → s.bundle b.toNat = some x →
    Gives (.reportMismatch b) s (fun t => t.bundle b.toNat = some { x with verdict := 3 } ∧ t.dram = s.dram
      ∧ (∀ c : Nat, c ≠ b.toNat → t.bundle c = s.bundle c) ∧ Only [.dram, .upsets, .ecc, .modMem, .park, .fw, .rel,
          .store, .od] s t))
  ∧ (∀ (s : State) (b : BitVec 4) (x : Bundle), s.diesOn = true → s.bundle b.toNat = some x →
    Gives (.reportMismatchPoison b) s (fun t => (t.bundle b.toNat).map (·.verdict) = some 3
      ∧ (t.bundle b.toNat).map (·.mismatched) = some (x.mismatched + ((x.pages.map (s.pageEntry x.part.toNat)).filter (fun
          e =>
        peValid e && decide (pePart e = x.part.toNat) && decide (peSub e < 68) && peExtentOk e)).length)
      ∧ t.dram = (((x.pages.map (s.pageEntry x.part.toNat)).filter (fun e => peValid e && decide (pePart e = x.part.toNat)
        && decide (peSub e < 68) && peExtentOk e)).foldl (fun s e => s.poisonPage e) s).dram
      ∧ (∀ c : Nat, c ≠ b.toNat → t.bundle c = s.bundle c) ∧ Only [.dram, .upsets, .ecc, .modMem, .park, .fw, .rel,
          .store, .od] s t))

/-- While the dies run, the commit of wear writes the wear item with the counts as they stand and nothing else of
the machine, and the daily sample counts one more day. A junction above the peak raises the peak; a fall of 20 K
from a peak at least 20 K above the trough counts one cycle, by the square of its swing, and starts again from
there; one below the trough lowers both. A core's wear ceiling is 1,100 MHz less 25 MHz for each 0.5 % of ageing,
and never below 600 MHz. Rests on R488, R489, R490, R491, R492. -/
def Obligations.WearSamples : Prop :=
  (∀ s : State, s.diesOn = true → exec .wearCommit s = .next (s.commit [2]))
  ∧ (∀ s : State, s.diesOn = true → Gives .wearCommit s (fun t =>
      ((s.psCommit [2] true).1 = true → t.rel = { s.rel with keptCounts := (s.rel.charged, s.rel.charged24) })
      ∧ ((s.psCommit [2] true).1 = false → t.rel = s.rel) ∧ Only [.rel, .store, .od] s t))
  ∧ (∀ (s : State) (m : WearSample), s.diesOn = true →
    Gives (.dailyWearSample m) s (fun t => t.rel.day = s.rel.day + 1 ∧ t.rel.lastSample = s.now ∧ t.mode = s.mode
      ∧ (∀ n : Nat, (t.core n).role = (s.core n).role ∧ (t.core n).spad = (s.core n).spad) ∧ Only [.cores, .park, .fw,
          .net, .rel, .store, .od] s t))
  ∧ (∀ (s : State) (temp : Int), s.mode ≠ .off → s.rel.peak < temp →
    exec (.thermalCycle temp) s = .next (s.setRel { s.rel with peak := temp }))
  ∧ (∀ (s : State) (temp : Int), s.mode ≠ .off → temp ≤ s.rel.peak → 2000 ≤ s.rel.peak - s.rel.trough → 2000 ≤ s.rel.peak
      - temp →
    Gives (.thermalCycle temp) s (fun t => t.rel.cycles
        = s.rel.cycles + ((s.rel.peak - s.rel.trough) * (s.rel.peak - s.rel.trough)).toNat
      ∧ t.rel.trough = temp ∧ t.rel.peak = temp ∧ Only [.park, .fw, .rel, .store, .od] s t))
  ∧ (∀ (s : State) (temp : Int), s.mode ≠ .off → temp ≤ s.rel.peak → s.rel.peak - temp < 2000 → s.rel.trough ≤ temp →
    exec (.thermalCycle temp) s = .next s)
  ∧ (∀ ageing : Int, 600 ≤ wearCeiling ageing ∧ wearCeiling ageing ≤ 1100)
  ∧ (∀ k : Nat, wearCeiling (500 * k) = max 600 (1100 - 25 * k))

/-- A descriptor at a security engine that fails a check ends with the code of its first failing one; one whose
input holds a poisoned line ends with 0xD5 and writes nothing. Otherwise DIGEST writes the 32-byte SHA-256 digest of
its input at dst_addr; SEAL writes the ciphertext under the slot's model key and the 16-byte tag after it; OPEN
writes the plaintext where the tag is that of the plaintext, and where it is not poisons every line of its output
and ends with 0xD4; KEMGEN puts a new pair into its slot, the other slots staying as they were. What the ciphers
compute is left to the configuration (log 8). Rests on R188, R192, R520, R521, R522, R523. -/
def Obligations.SecurityDescriptors : Prop :=
  (∀ (s u v : State) (q : QueueId) (d : Nat) (bs : List (Byte × Bool)), s.atEngine q.toNat 7 = some d → dOpcode d = 0x50 →
    s.secCheck (dieOfQueue q.toNat) (s.queue q.toNat).part d = (0, u) →
    u.mread (dieOfQueue q.toNat) (s.queue q.toNat).part (sSrc d) (sBytes d) = (some bs, v) → bs.any (·.2) = false →
    exec (.digest q) s = .next ((v.pwrite (dieOfQueue q.toNat) (s.queue q.toNat).part (sDst d)
      (clean (leBytes 32 (Config.sha256 (bs.map (·.1))).toNat))).2.done q.toNat 0))
  ∧ (∀ (s u v : State) (q : QueueId) (d key : Nat) (mk : ModelKey) (bs : List (Byte × Bool)), s.atEngine q.toNat 7 = some
      d → dOpcode d = 0x51 →
    s.secCheck (dieOfQueue q.toNat) (s.queue q.toNat).part d = (0, u) → sBytes d ≠ 0 →
    u.mread (dieOfQueue q.toNat) (s.queue q.toNat).part (sSrc d) (sBytes d) = (some bs, v) → bs.any (·.2) = false →
    (s.part (s.queue q.toNat).part).modelKeys.find (sKey d) = some mk → mk.key = key →
    exec (.seal q) s = .next ((v.pwrite (dieOfQueue q.toNat) (s.queue q.toNat).part (sDst d)
      (clean ((upto (sBytes d)).map (Config.gcmSeal key (sIv d) (bs.map (·.1)))
        ++ leBytes 16 (Config.gcmTag key (sIv d) (bs.map (·.1))).toNat))).2.done q.toNat 0))
  ∧ (∀ (s u v : State) (q : QueueId) (d key : Nat) (mk : ModelKey) (bs : List (Byte × Bool)) (pt : List Byte),
    s.atEngine q.toNat 7 = some d → dOpcode d = 0x52 →
    s.secCheck (dieOfQueue q.toNat) (s.queue q.toNat).part d = (0, u) →
    u.mread (dieOfQueue q.toNat) (s.queue q.toNat).part (sSrc d) (sBytes d + 16) = (some bs, v) → bs.any (·.2) = false →
    (s.part (s.queue q.toNat).part).modelKeys.find (sKey d) = some mk → mk.key = key →
    pt = (upto (sBytes d)).map (Config.gcmOpen key (sIv d) ((bs.map (·.1)).take (sBytes d))) →
    exec (.openSealed q) s = .next (if leBytes 16 (Config.gcmTag key (sIv d) pt).toNat = (bs.map (·.1)).drop (sBytes d)
      then (v.pwrite (dieOfQueue q.toNat) (s.queue q.toNat).part (sDst d) (clean pt)).2.done q.toNat 0
      else (v.rawPoison (dieOfQueue q.toNat) (s.queue q.toNat).part (sDst d) (sBytes d)).done q.toNat 0xD4))
  ∧ (∀ (s u v : State) (q : QueueId) (d : Nat), s.atEngine q.toNat 7 = some d → dOpcode d = 0x53 →
    s.secCheck (dieOfQueue q.toNat) (s.queue q.toNat).part d = (0, u) →
    u.mread (dieOfQueue q.toNat) (s.queue q.toNat).part (sSrc d) 0 = (some [], v) →
    Gives (.kemgen q) s (fun t => (t.part (s.queue q.toNat).part).kem.find (sKey d) = some (s.sec.nextKey, s.now)
      ∧ (∀ k : Nat, k ≠ sKey d → (t.part (s.queue q.toNat).part).kem.find k = (s.part (s.queue q.toNat).part).kem.find k)
      ∧ t.sec.nextKey = s.sec.nextKey + 1 ∧ (∀ p : Nat, p ≠ (s.queue q.toNat).part → t.part p = s.part p) ∧ Only [.free,
          .queues, .dram, .upsets, .ecc, .tlb, .modMem, .parts, .park, .fw, .ev, .rel, .sec, .store, .od] s t))
  ∧ (∀ (s u : State) (q : QueueId) (d c : Nat), s.atEngine q.toNat 7 = some d → c ≠ 0 →
    s.secCheck (dieOfQueue q.toNat) (s.queue q.toNat).part d = (c, u) →
    (dOpcode d = 0x50 → exec (.digest q) s = .next (u.done q.toNat c))
    ∧ (dOpcode d = 0x51 → exec (.seal q) s = .next (u.done q.toNat c))
    ∧ (dOpcode d = 0x52 → exec (.openSealed q) s = .next (u.done q.toNat c))
    ∧ (dOpcode d = 0x53 → exec (.kemgen q) s = .next (u.done q.toNat c)))
  ∧ (∀ (s u v : State) (q : QueueId) (d : Nat) (bs : List (Byte × Bool)), s.atEngine q.toNat 7 = some d → dOpcode d = 0x50 →
    s.secCheck (dieOfQueue q.toNat) (s.queue q.toNat).part d = (0, u) →
    u.mread (dieOfQueue q.toNat) (s.queue q.toNat).part (sSrc d) (sBytes d) = (some bs, v) → bs.any (·.2) = true →
    exec (.digest q) s = .next (v.done q.toNat 0xD5))

/-- A leaf taken is the next one, lies below the reserved ones, and is never taken again. An attestation request
that passes the checks of R528 takes one leaf and is answered with the report of its partition signed with that
leaf; every request counts when it is received, more than 16 within 1 s are answered 0xE6, and the other refusals
are 0xE5, 0xE0, 0xEC and 0xEB in that order. A key release that passes them destroys the KEM pair whatever the
outcome, answers 0xE9 where the key does not unwrap, and otherwise stores the key in its model-key slot with its
bundle digest; one for an empty or expired slot is answered 0xE8, one with another epoch 0xE7, and one into a used
slot 0xEA. A pair unused for 10 min is destroyed. Rests on R515, R516, R520, R528, R531, R533, R535, R536. -/
def Obligations.AttestationAndKeys : Prop :=
  (∀ (s t : State) (ok : Bool) (leaf : Nat), s.takeLeaf ok = (some leaf, t) →
    leaf = s.nextLeaf ∧ t.nextLeaf = leaf + 1 ∧ leaf < t.reservedTo)
  ∧ (∀ (s u w : State) (m : MbxSrc) (ok : Bool) (x : MbxIn) (p leaf : Nat) (recent : List Nat), s.receive m 0x40 = (some
      x, u) →
    u.senderPart x = p → u.secFailed = false → bodyAt (u.body x) 32 2 ≤ 3 → (u.part p).scrubs = false →
    recent = ((u.part p).attests.filter (fun t => decide (u.now < t + second))) ++ [u.now] → recent.length ≤ 16 →
    65536 ≤ u.leavesLeft → (u.updPart p (fun y => { y with attests := recent })).takeLeaf ok = (some leaf, w) →
    exec (.attestRequest m ok) s = .next ((w.odInc 0x2800 8 1).answer x 0
      (attestBody (w.report p leaf (bodyAt (u.body x) 0 32) (bodyAt (u.body x) 32 2)) leaf)))
  ∧ (∀ (s u : State) (m : MbxSrc) (ok : Bool) (x : MbxIn) (p : Nat), s.receive m 0x40 = (some x, u) →
    u.senderPart x = p → u.secFailed = false → bodyAt (u.body x) 32 2 ≤ 3 → (u.part p).scrubs = false →
    16 ≤ ((u.part p).attests.filter (fun t => decide (u.now < t + second))).length →
    exec (.attestRequest m ok) s = .next ((u.putPart p { u.part p with
      attests := ((u.part p).attests.filter (fun t => decide (u.now < t + second))) ++ [u.now] }).answer x 0xE6 []))
  ∧ (∀ (s u v : State) (m : MbxSrc) (ok : Bool) (x : MbxIn) (p : Nat) (recent : List Nat), s.receive m 0x40 = (some x, u) →
    u.senderPart x = p → recent = ((u.part p).attests.filter (fun t => decide (u.now < t + second))) ++ [u.now] →
    v = u.putPart p { u.part p with attests := recent } →
    (u.secFailed = true → exec (.attestRequest m ok) s = .next (v.answer x 0xE5 []))
    ∧ (u.secFailed = false → 3 < bodyAt (u.body x) 32 2 → exec (.attestRequest m ok) s = .next (v.answer x 0xE0 []))
    ∧ (u.secFailed = false → bodyAt (u.body x) 32 2 ≤ 3 → (u.part p).scrubs = true →
      exec (.attestRequest m ok) s = .next (v.answer x 0xEC []))
    ∧ (u.secFailed = false → bodyAt (u.body x) 32 2 ≤ 3 → (u.part p).scrubs = false → recent.length ≤ 16 →
      u.leavesLeft < 65536 → exec (.attestRequest m ok) s = .next (v.answer x 0xEB [])))
  ∧ (∀ (s u : State) (m : MbxSrc) (x : MbxIn) (p slot model gen : Nat) (b : List Byte), s.receive m 0x41 = (some x, u) →
    u.senderPart x = p → u.body x = b → bodyAt b 0 1 = slot → bodyAt b 1 1 = model → u.secFailed = false → bodyAt b 2 2 =
        0 →
    bodyAt b 1648 400 = 0 → slot ≤ 3 → model ≤ 15 → (u.part p).scrubs = false → u.kemPair p slot = some gen →
    bodyAt b 4 4 = (u.part p).epoch → (u.part p).modelKeys.find model = none →
    Gives (.keyRelease m) s (fun t => (t.part p).kem = (u.part p).kem.del slot
      ∧ (∀ key : Nat, Config.keyUnwrap (keyEncryptionKey gen ((b.drop 40).take 1568)) ((b.drop 1608).take 40) = some key →
        (t.part p).modelKeys.find model = some { key := key, bundle := BitVec.ofNat 256 (bodyAt b 8 32) })
      ∧ (Config.keyUnwrap (keyEncryptionKey gen ((b.drop 40).take 1568)) ((b.drop 1608).take 40) = none →
        t = (u.putPart p { u.part p with kem := (u.part p).kem.del slot }).refuseKey x 0xE9)
      ∧ (∀ k : Nat, k ≠ model → (t.part p).modelKeys.find k = (u.part p).modelKeys.find k)
      ∧ (∀ k : Nat, k ≠ p → t.part k = u.part k) ∧ Only [.free, .idle, .queues, .dram, .upsets, .ecc, .tlb, .modMem,
          .parts, .fw, .ev, .od] s t))
  ∧ (∀ (s u : State) (m : MbxSrc) (x : MbxIn) (p slot model gen : Nat) (b : List Byte), s.receive m 0x41 = (some x, u) →
    u.senderPart x = p → u.body x = b → bodyAt b 0 1 = slot → bodyAt b 1 1 = model → u.secFailed = false → bodyAt b 2 2 =
        0 →
    bodyAt b 1648 400 = 0 → slot ≤ 3 → model ≤ 15 → (u.part p).scrubs = false → u.kemPair p slot = some gen →
    (bodyAt b 4 4 ≠ (u.part p).epoch → exec (.keyRelease m) s = .next (u.refuseKey x 0xE7))
    ∧ (bodyAt b 4 4 = (u.part p).epoch → ((u.part p).modelKeys.find model).isSome = true →
      exec (.keyRelease m) s = .next (u.refuseKey x 0xEA)))
  ∧ (∀ (s u : State) (m : MbxSrc) (x : MbxIn), s.receive m 0x41 = (some x, u) → u.secFailed = false →
    bodyAt (u.body x) 2 2 = 0 → bodyAt (u.body x) 1648 400 = 0 → bodyAt (u.body x) 0 1 ≤ 3 → bodyAt (u.body x) 1 1 ≤ 15 →
    (u.part (u.senderPart x)).scrubs = false → u.kemPair (u.senderPart x) (bodyAt (u.body x) 0 1) = none →
    exec (.keyRelease m) s = .next (u.refuseKey x 0xE8))
  ∧ (∀ (s : State) (p : PartId) (slot : BitVec 2) (gen since : Nat), (s.part p.toNat).kem.find slot.toNat = some (gen,
      since) →
    (since + 150000000000 ≤ s.now → exec (.kemExpiry p slot) s
      = .next (s.putPart p.toNat { s.part p.toNat with kem := (s.part p.toNat).kem.del slot.toNat }))
    ∧ (s.now < since + 150000000000 → exec (.kemExpiry p slot) s = .next s))

/-- While the module is awake, opening debug on an active partition latches its debug bit and gives it a new epoch;
opening it on the module region latches the module debug bit; a target that is none, free or being scrubbed is
rejected (that none and free are is the model's choice, log 17). Closing ends the access and leaves the latch. The
data entry reads 1,024 bytes at the debug address, a poisoned line as zeros marked in debug_poison, and a write of
1,024 bytes stores them there; with debug not open on the target neither changes anything. Use of the connector
latches the module bit. A regenerated lower tree is ready. Rests on R517, R537, R538, R548. -/
def Obligations.DebugAccess : Prop :=
  (∀ (s : State) (p : Nat), s.asleep = false → s.odGet 0x5000 1 = p → p < 8 → (s.part p).state = .active →
    Gives .debugOpen s (fun t => t.part p = { s.part p with debug := true, epoch := s.sec.epoch }
      ∧ (∀ k : Nat, k ≠ p → t.part k = s.part k) ∧ t.sec.epoch = s.sec.epoch + 1 ∧ t.sec.debugOpen = some p
      ∧ t.odGet 0x5000 2 = 2 ∧ Only [.sec, .parts, .od] s t))
  ∧ (∀ s : State, s.asleep = false → s.odGet 0x5000 1 = 0x80 →
    Gives .debugOpen s (fun t => t.sec.debugOpen = some 0x80 ∧ t.odGet 0x2800 6 = 1 ∧ t.odGet 0x5000 2 = 2 ∧ Only [.sec,
        .od] s t))
  ∧ (∀ s : State, s.asleep = false → s.odGet 0x5000 1 ≠ 0x80 →
    8 ≤ s.odGet 0x5000 1 ∨ (s.part (s.odGet 0x5000 1)).state ≠ .active →
    exec .debugOpen s = .next (s.odSet 0x5000 2 3))
  ∧ (∀ s : State, s.asleep = false → Gives .debugClose s (fun t => t.sec.debugOpen = none ∧ t.odGet 0x5000 2 = 0
      ∧ t.odGet 0x2800 6 = s.odGet 0x2800 6 ∧ Only [.sec, .od] s t))
  ∧ (∀ s : State, s.asleep = false → s.odGet 0x5000 1 = 0x80 → s.sec.debugOpen = some 0x80 → s.odGet 0x5000 3 + 1024 ≤
      8589934592 →
    Gives .debugDataRead s (fun t => t.sec.debugRead
        = (s.regionRead (s.odGet 0x5000 3) 1024).map (fun x => if x.2 then 0 else x.1)
      ∧ (∀ i : Nat, i < 16 → t.sec.debugPoison.getLsbD i = ((s.regionRead (s.odGet 0x5000 3) 1024).getD (64 * i) (0,
          false)).2)
      ∧ Only [.sec] s t))
  ∧ (∀ (s u : State) (p : Nat) (bs : List (Byte × Bool)), s.asleep = false → s.odGet 0x5000 1 = p → p < 8 →
    s.sec.debugOpen = some p → s.mread 0 p (s.odGet 0x5000 3) 1024 = (some bs, u) →
    Gives .debugDataRead s (fun t => t.sec.debugRead = bs.map (fun x => if x.2 then 0 else x.1)
      ∧ (∀ i : Nat, i < 16 → t.sec.debugPoison.getLsbD i = (bs.getD (64 * i) (0, false)).2) ∧ t.dram = u.dram
      ∧ Only [.free, .queues, .dram, .upsets, .ecc, .tlb, .modMem, .park, .fw, .ev, .rel, .sec, .store, .od] s t))
  ∧ (∀ (s : State) (bs : List Byte), s.asleep = false → s.odGet 0x5000 1 = 0x80 → s.sec.debugOpen = some 0x80 →
    s.odGet 0x5000 3 + 1024 ≤ 8589934592 → bs.length = 1024 →
    exec (.debugDataWrite bs) s = .next (s.regionWrite (s.odGet 0x5000 3) (clean bs)))
  ∧ (∀ (s : State) (p : Nat) (bs : List Byte), s.asleep = false → s.odGet 0x5000 1 = p → p < 8 →
    s.sec.debugOpen = some p → bs.length = 1024 →
    exec (.debugDataWrite bs) s = .next (s.pwrite 0 p (s.odGet 0x5000 3) (clean bs)).2)
  ∧ (∀ (s : State) (bs : List Byte), s.sec.debugOpen ≠ some (s.odGet 0x5000 1) →
    exec .debugDataRead s = .next s ∧ exec (.debugDataWrite bs) s = .next s)
  ∧ (∀ s : State, s.mode ≠ .off → exec .dbgConnectorUse s = .next (s.odSet 0x2800 6 1))
  ∧ (∀ s : State, s.mode ≠ .off → s.mode ≠ .boot → s.asleep = false →
    exec .lowerTreeReady s = .next (s.setSec { s.sec with lowerTree := true }))

/-- A creation that passes the checks of R528 makes its partition ACTIVE with a new epoch and key, no earlier
content in its subchannels, zeros in its slices, and changes no other partition; one that fails is answered with the
code of its first failing check. A scrub of an active partition makes it SCRUBBING, replaces its key, destroys its
model keys and KEM pairs, and ends its sessions, grammar slots and page-map entries; one that is running merges the
order, and DESTROY makes the running scrub end in FREE. At its end a scrubbed partition is ACTIVE with a new epoch
and its debug latch cleared, and a destroyed one is free. Rests on R527, R528, R539, R541. -/
def Obligations.Partitions : Prop :=
  (∀ (s u : State) (m : MbxSrc) (x : MbxIn) (b : List Byte) (p : Nat), s.receive m 0x10 = (some x, u) → x.queue = none →
    u.mode = .ready ∨ u.mode = .serving → u.body x = b → u.createCode b = 0 → bodyAt b 0 1 = p →
    Gives (.partitionCreate m) s (fun t => t.part p = { Part.ofBody b with
        state := .active
        d2d := (u.newSlots b).1
        fabric := (u.newSlots b).2.1
        parkSlots := (u.newSlots b).2.2
        epoch := u.sec.epoch
        key := u.sec.nextKey }
      ∧ t.sec.epoch = u.sec.epoch + 1 ∧ t.sec.nextKey = u.sec.nextKey + 1
      ∧ (∀ n : Nat, n < 68 → (Part.ofBody b).subs.getLsbD n = true →
        (t.sub n).mem = { fill := .unwritten (128 * u.sec.nextKey + n) })
      ∧ t.shared = (u.zeroSlices (Part.ofBody b)).shared
      ∧ (∀ k : Nat, k ≠ p → t.part k = u.part k) ∧ Only [.free, .idle, .queues, .dram, .upsets, .ecc, .tlb, .shared,
          .modMem, .parts, .video, .fw, .ev, .sec, .od] s t))
  ∧ (∀ (s u : State) (m : MbxSrc) (x : MbxIn), s.receive m 0x10 = (some x, u) → u.mode = .ready ∨ u.mode = .serving →
    u.createCode (u.body x) ≠ 0 → exec (.partitionCreate m) s = .next (u.answer x (u.createCode (u.body x)) []))
  ∧ (∀ (s u : State) (m : MbxSrc) (x : MbxIn), s.receive m 0x10 = (some x, u) → u.mode ≠ .ready → u.mode ≠ .serving →
    exec (.partitionCreate m) s = .next (u.answer x 0x89 []))
  ∧ (∀ (s : State) (p : PartId), s.asleep = false → s.rst.due = none → (s.part p.toNat).state = .active →
    Gives (.partitionScrub p .entry) s (fun t => (t.part p.toNat).state = .scrubbing ∧ (t.part p.toNat).key = s.sec.nextKey
      ∧ (t.part p.toNat).modelKeys = [] ∧ (t.part p.toNat).kem = [] ∧ t.sec.nextKey = s.sec.nextKey + 1
      ∧ t.sess = s.sess.only (fun _ x => decide (x.partition.toNat ≠ p.toNat))
      ∧ t.grammars = s.grammars.only (fun _ g => decide (g.part.toNat ≠ p.toNat))
      ∧ t.pageMaps = s.pageMaps.only (fun k _ => decide (k / 2 ^ 18 ≠ p.toNat))
      ∧ t.shared = (s.zeroSlices (s.part p.toNat)).shared ∧ t.odGet (wIx p.toNat 0) 0x0D = 1
      ∧ (∀ k : Nat, k ≠ p.toNat → (t.part k).state = (s.part k).state ∧ (t.part k).key = (s.part k).key
        ∧ (t.part k).epoch = (s.part k).epoch)
      ∧ Only [.free, .out, .mode, .idle, .rst, .cores, .queues, .queueZero, .sems, .semWait, .dram, .upsets, .spadUpsets,
          .ecc, .rotation, .migr, .pageMaps, .tlb, .kvMaps, .kvTlb, .kvDirty, .shared, .modMem, .parts, .park, .sess,
          .grammars, .adapters, .adapterLast, .video, .fw, .ryc, .net, .ev, .rel, .sec, .pow, .store, .od] s t))
  ∧ (∀ (s : State) (p : PartId), s.asleep = false → s.rst.due = none → (s.part p.toNat).state = .scrubbing →
    exec (.partitionScrub p .entry) s
      = .next ((s.setRst { s.rst with history := markMerged p.toNat s.rst.history }).odSet (wIx p.toNat 0) 0x0D 1))
  ∧ (∀ (s : State) (p : PartId), s.asleep = false → s.rst.due = none → (s.part p.toNat).state = .free →
    exec (.partitionScrub p .entry) s = .next (s.odSet (wIx p.toNat 0) 0x0D 3))
  ∧ (∀ (s u : State) (m : MbxSrc) (x : MbxIn) (p : Nat), s.receive m 0x12 = (some x, u) → bodyAt (u.body x) 0 1 = p → p ≤
      7 →
    u.rst.due = none → (u.part p).state ≠ .free →
    Gives (.partitionDestroy m) s (fun t => (t.part p).state = .destroying
      ∧ (∀ k : Nat, k ≠ p → (t.part k).state = (u.part k).state) ∧ Only [.free, .out, .mode, .idle, .rst, .cores, .queues,
          .queueZero, .sems, .semWait, .dram, .upsets, .spadUpsets, .ecc, .rotation, .migr, .pageMaps, .tlb, .kvMaps,
          .kvTlb, .kvDirty, .shared, .modMem, .parts, .park, .sess, .grammars, .adapters, .adapterLast, .video, .fw, .ryc,
          .net, .ev, .rel, .sec, .pow, .store, .od] s t))
  ∧ (∀ (s u : State) (m : MbxSrc) (x : MbxIn), s.receive m 0x12 = (some x, u) → bodyAt (u.body x) 0 1 ≤ 7 →
    (u.part (bodyAt (u.body x) 0 1)).state = .free → exec (.partitionDestroy m) s = .next (u.answer x 0xE3 []))
  ∧ (∀ (s : State) (p : PartId), (s.part p.toNat).state = .scrubbing →
    Gives (.scrubComplete p) s (fun t => t.part p.toNat = { s.part p.toNat with
        state := .active
        epoch := s.sec.epoch
        debug := false }
      ∧ t.sec.epoch = s.sec.epoch + 1 ∧ (∀ k : Nat, k ≠ p.toNat → t.part k = s.part k) ∧ Only [.free, .mode, .idle,
          .entry, .queues, .dram, .upsets, .ecc, .tlb, .modMem, .parts, .video, .fw, .ev, .rel, .sec, .pow, .store, .od] s
          t))
  ∧ (∀ (s : State) (p : PartId), (s.part p.toNat).state = .destroying →
    Gives (.scrubComplete p) s (fun t => t.part p.toNat = {} ∧ (∀ k : Nat, k ≠ p.toNat → t.part k = s.part k)
      ∧ Only [.free, .mode, .idle, .entry, .queues, .dram, .upsets, .ecc, .tlb, .modMem, .parts, .video, .fw, .ev, .rel,
          .sec, .pow, .store, .od] s t))
  ∧ (∀ (s : State) (p : PartId), (s.part p.toNat).state = .active → exec (.scrubComplete p) s = .next s)

/-- A trigger that asserts takes level 2 at least (7 for the input), and rises one level per interval while it stays
asserted, up to its cap; once clear it falls one level every 10 s; no other trigger changes, and nothing happens
before the interval has passed. A thermal stop of a running module ends PARKED with its cause, and with the
partitions and sessions gone. Over its cap a partition's ceiling falls by 25 MHz to 600 MHz, and then its issue
share by 5 % to 50 %; below 95 % of it both rise every 10 ms; no other partition changes. Ballast is added in 5 W
units, where a core is idle, up to the floor or to what the ramp rate lets the draw fall to, and withdrawn down to
the floor, at the ramp rate where one is set. The ramp-hold ceiling rises by 25 MHz where the rate leaves room, and
ends at the policy ceiling; its first value is free (log 1). Rests on R553, R554, R555, R556, R558, R560, R561,
R563. -/
def Obligations.ThrottleAndLevelling : Prop :=
  (∀ (s : State) (g : Trigger) (d : BitVec 47), s.mode ≠ .off → s.asleep = false → s.trigHolds g d.toNat = true →
    (s.trig (trigIndex g)).asserted = false →
    Gives (.throttleTriggerAssert g d) s (fun t => t.trig (trigIndex g)
        = { level := max (s.trig (trigIndex g)).level (if g = .inputLow then 7 else 2), asserted := true, since := s.now }
      ∧ (∀ i : Nat, i ≠ trigIndex g → t.trig i = s.trig i) ∧ Only [.free, .tray, .queues, .dram, .upsets, .ecc, .tlb,
          .modMem, .park, .fw, .ev, .rel, .pow, .store, .od] s t))
  ∧ (∀ (s : State) (g : Trigger) (d : BitVec 47), s.trigHolds g d.toNat = false →
    exec (.throttleTriggerAssert g d) s = .next s)
  ∧ (∀ (s : State) (g : Trigger), (s.trig (trigIndex g)).asserted = true →
    Gives (.throttleTriggerClear g) s (fun t => t.trig (trigIndex g)
        = { s.trig (trigIndex g) with asserted := false, since := s.now }
      ∧ (∀ i : Nat, i ≠ trigIndex g → t.trig i = s.trig i) ∧ Only [.free, .tray, .queues, .dram, .upsets, .ecc, .tlb,
          .modMem, .fw, .ev, .pow, .od] s t))
  ∧ (∀ (s : State) (g : Trigger), s.asleep = false → (s.trig (trigIndex g)).asserted = true →
    (s.trig (trigIndex g)).level < trigCap g → (s.trig (trigIndex g)).since + trigInterval g ≤ s.now →
    Gives (.throttleLevelRise g) s (fun t => t.trig (trigIndex g)
        = { s.trig (trigIndex g) with level := (s.trig (trigIndex g)).level + 1, since := s.now }
      ∧ (∀ i : Nat, i ≠ trigIndex g → t.trig i = s.trig i) ∧ Only [.free, .queues, .dram, .upsets, .ecc, .tlb, .modMem,
          .fw, .ev, .pow, .od] s t))
  ∧ (∀ (s : State) (g : Trigger), (s.trig (trigIndex g)).asserted = false ∨ trigCap g ≤ (s.trig (trigIndex g)).level
      ∨ s.now < (s.trig (trigIndex g)).since + trigInterval g →
    exec (.throttleLevelRise g) s = .next s)
  ∧ (∀ (s : State) (g : Trigger), s.asleep = false → (s.trig (trigIndex g)).asserted = false →
    0 < (s.trig (trigIndex g)).level → (s.trig (trigIndex g)).since + 2500000000 ≤ s.now →
    Gives (.throttleLevelFall g) s (fun t => t.trig (trigIndex g)
        = { s.trig (trigIndex g) with level := (s.trig (trigIndex g)).level - 1, since := s.now }
      ∧ (∀ i : Nat, i ≠ trigIndex g → t.trig i = s.trig i) ∧ Only [.free, .queues, .dram, .upsets, .ecc, .tlb, .modMem,
          .fw, .ev, .pow, .od] s t))
  ∧ (∀ (s : State) (g : Trigger), (s.trig (trigIndex g)).asserted = true ∨ s.now < (s.trig (trigIndex g)).since +
      2500000000 →
    exec (.throttleLevelFall g) s = .next s)
  ∧ (∀ (s : State) (core : CoreId) (torn : List Nat), s.mode ≠ .off → s.asleep = false →
    Gives (.thermalStop ⟨core, torn⟩) s (fun t => t.mode = .parked ∧ t.tray.causes = [0x21] ∧ t.parts = [] ∧ t.sess = []
      ∧ t.pageMaps = [] ∧ t.entry = none ∧ t.rst.due = none ∧ Only [.free, .out, .time, .tray, .mode, .idle, .entry,
          .wakeHeld, .rst, .cores, .queues, .queueZero, .sems, .semWait, .dram, .upsets, .spadUpsets, .ecc, .modKey,
          .rotation, .migr, .migrQueue, .pageMaps, .tlb, .kvMaps, .kvTlb, .kvDirty, .shared, .modMem, .parts, .park,
          .sess, .emitted, .grammars, .adapters, .adapterLast, .video, .fw, .ryc, .net, .ev, .rel, .sec, .pow, .store,
          .od, .d2dFails] s t))
  ∧ (∀ (s : State) (p : PartId) (mw cap : Nat), s.asleep = false → (s.part p.toNat).state = .active →
    cap = 1000 * s.odGet (0x2010 + p.toNat) 1 →
    Gives (.powerCapAdjust p mw) s (fun t => (∀ k : Nat, k ≠ p.toNat → t.part k = s.part k)
      ∧ (cap = 0 → (t.part p.toNat).capCeiling = 1100 ∧ (t.part p.toNat).issueShare = 100)
      ∧ (cap ≠ 0 → cap < mw → 600 < min (s.part p.toNat).capCeiling s.policyMhz →
        (t.part p.toNat).capCeiling = max 600 (min (s.part p.toNat).capCeiling s.policyMhz - 25)
        ∧ (t.part p.toNat).issueShare = (s.part p.toNat).issueShare ∧ (t.part p.toNat).lastCap = s.now)
      ∧ (cap ≠ 0 → cap < mw → min (s.part p.toNat).capCeiling s.policyMhz ≤ 600 →
        (t.part p.toNat).capCeiling = (s.part p.toNat).capCeiling
        ∧ (t.part p.toNat).issueShare = max 50 ((s.part p.toNat).issueShare - 5) ∧ (t.part p.toNat).lastCap = s.now)
      ∧ (cap ≠ 0 → 100 * mw < 95 * cap → (s.part p.toNat).lastCap + 2500000 ≤ s.now →
        (t.part p.toNat).capCeiling
          = (if s.policyMhz ≤ (s.part p.toNat).capCeiling + 25 then 1100 else (s.part p.toNat).capCeiling + 25)
        ∧ (t.part p.toNat).issueShare = min 100 ((s.part p.toNat).issueShare + 5))
      ∧ (cap ≠ 0 → mw ≤ cap → 95 * cap ≤ 100 * mw →
        t.part p.toNat = { s.part p.toNat with estimateMw := mw })
      ∧ Only [.free, .queues, .dram, .upsets, .ecc, .tlb, .modMem, .parts, .fw, .ev, .od] s t))
  ∧ (∀ (s : State) (mw : Nat), s.levelling = true → mw < s.ballastTarget → s.idleCore = true → s.odGet 0x2002 1 ≠ 0 ∨
      s.odGet 0x2002 2 ≠ 0 →
    Gives (.ballastAdjust mw) s (fun t => t.pow.ballastW = s.pow.ballastW + 5 * ceilDiv (s.ballastTarget - mw) 5000
      ∧ t.pow.drawMw = mw ∧ t.pow.ramp = s.pow.ramp ∧ Only [.free, .queues, .dram, .upsets, .ecc, .tlb, .modMem, .fw, .ev,
          .pow, .od] s t))
  ∧ (∀ (s : State) (mw floor rate : Nat), s.levelling = true → floor = 1000 * s.odGet 0x2002 1 → rate = s.odGet 0x2002 2 →
    floor ≠ 0 ∨ rate ≠ 0 → s.ballastTarget ≤ mw →
    Gives (.ballastAdjust mw) s (fun t => t.pow.ballastW = s.pow.ballastW
        - (if rate = 0 then min s.pow.ballastW (5 * ((mw - floor) / 5000))
          else min (min s.pow.ballastW (5 * ((mw - floor) / 5000))) rate)
      ∧ t.pow.drawMw = mw ∧ Only [.free, .queues, .dram, .upsets, .ecc, .tlb, .modMem, .fw, .ev, .pow, .od] s t))
  ∧ (∀ (s : State) (mw : Nat), s.levelling = true → mw < s.ballastTarget → s.idleCore = false →
    s.odGet 0x2002 1 ≠ 0 ∨ s.odGet 0x2002 2 ≠ 0 →
    Gives (.ballastAdjust mw) s (fun t => t.pow.ballastW = s.pow.ballastW ∧ t.pow.drawMw = mw ∧ Only [.free, .queues,
        .dram, .upsets, .ecc, .tlb, .modMem, .fw, .ev, .pow, .od] s t))
  ∧ (∀ (s : State) (t0 mw : Nat) (rest : List (Nat × Nat)), s.pow.draws = (t0, mw) :: rest → s.odGet 0x2002 2 ≠ 0 →
    s.ballastTarget = max (1000 * s.odGet 0x2002 1) (mw - 1000 * s.odGet 0x2002 2 * max 1 ((s.now - t0) / 250000)))
  ∧ (∀ s : State, s.pow.draws = [] ∨ s.odGet 0x2002 2 = 0 → s.ballastTarget = 1000 * s.odGet 0x2002 1)
  ∧ (∀ (s : State) (mw : Nat), s.levelling = false →
    Gives (.ballastAdjust mw) s (fun t => t.pow.ballastW = 0 ∧ t.pow.drawMw = mw ∧ Only [.free, .queues, .dram, .upsets,
        .ecc, .tlb, .modMem, .fw, .ev, .pow, .od] s t))
  ∧ (∀ (s : State) (mw room c : Nat), s.levelling = true → s.odGet 0x2002 2 ≠ 0 → s.pow.ramp = some c → room ≠ 0 →
    Gives (.rampHoldAdjust mw room) s (fun t => t.pow.ramp = (if s.policyMhz ≤ c + 25 then none else some (c + 25))
      ∧ t.pow.drawMw = mw ∧ Only [.free, .queues, .dram, .upsets, .ecc, .tlb, .modMem, .fw, .ev, .pow, .od] s t))
  ∧ (∀ (s : State) (mw : Nat), s.levelling = true → s.odGet 0x2002 2 ≠ 0 → s.pow.ramp = none →
    Gives (.rampHoldAdjust mw 0) s (fun t => (∃ c : Nat, t.pow.ramp = some c ∧ 600 ≤ c ∧ (600 < s.policyMhz → c <
        s.policyMhz))
      ∧ t.pow.drawMw = mw ∧ Only [.free, .queues, .dram, .upsets, .ecc, .tlb, .modMem, .fw, .ev, .pow, .od] s t))

/-- From READY or SERVING the entry 0x2000.02 starts DRAINING, and ends it with READY or SERVING as anything is
active; a request for STANDBY or PARKED starts step 1 of its entry; a code that the present state does not allow is
rejected. When step 1 ends, at any moment up to its bound, every active queue is paused, the receive descriptors
that wait complete, and step 2 begins; with no entry in step 1 nothing changes. When nothing dispatched is
unfinished, or after 100 ms, and no scrub runs, the module goes to the state that the entry is for: STANDBY with its
Rycia sessions suspended, PARKED with partitions and sessions gone, OUT_OF_SERVICE with the entry's reason, or a
WARM reset that becomes due. READY without a dispatch for its time, and with the ballast floor at zero, becomes
IDLE. Rests on R550, R551, R612, R76, R361, R590. -/
def Obligations.StateRequests : Prop :=
  (∀ s : State, s.mode = .ready ∨ s.mode = .serving →
    Gives (.drain .entry) s (fun t => t.mode = .draining ∧ t.leftMode = s.mode ∧ t.odGet 0x2000 2 = 2
      ∧ t.entry = some { target := .draining, step := 1, since := s.now, byGrace := false, oos := 0, thenWarm := false }
      ∧ Only [.free, .mode, .idle, .entry, .leftMode, .wakeHeld, .queues, .dram, .upsets, .ecc, .tlb, .modMem, .fw, .ev,
          .pow, .od] s t))
  ∧ (∀ s : State, s.asleep = false → s.mode ≠ .ready → s.mode ≠ .serving → exec (.drain .entry) s = .next (s.odSet 0x2000
      2 3))
  ∧ (∀ (s : State) (e : Entry), s.mode = .draining → s.entry = some e → e.step = 1 → e.oos = 0 → e.thenWarm = false →
      s.pow.lost = false →
    Gives (.drainEnd .entry) s (fun t => t.mode = (if s.anyActive then .serving else .ready) ∧ t.entry = none
      ∧ t.odGet 0x2000 2 = 2 ∧ Only [.free, .mode, .idle, .entry, .leftMode, .wakeHeld, .queues, .dram, .upsets, .ecc,
          .tlb, .modMem, .fw, .ev, .pow, .od] s t))
  ∧ (∀ s : State, s.asleep = false → s.mode ≠ .draining → exec (.drainEnd .entry) s = .next (s.odSet 0x2000 2 3))
  ∧ (∀ s : State, s.mode = .ready ∨ s.mode = .serving → s.entryFree = true →
    Gives (.standbyRequest .entry) s (fun t => t.mode = .draining ∧ t.leftMode = s.mode ∧ t.odGet 0x2000 2 = 1
      ∧ t.entry = some { target := .standby, step := 1, since := s.now, byGrace := false, oos := 0, thenWarm := false }
      ∧ Only [.free, .mode, .idle, .entry, .leftMode, .wakeHeld, .queues, .dram, .upsets, .ecc, .tlb, .modMem, .fw, .ev,
          .pow, .od] s t))
  ∧ (∀ s : State, s.mode = .draining → s.entryFree = true →
    Gives (.parkedRequest .entry) s (fun t => t.mode = .draining ∧ t.leftMode = s.leftMode ∧ t.odGet 0x2000 2 = 1
      ∧ t.entry = some
          { target := .parked, step := 1, since := s.pow.stateSince, byGrace := false, oos := 0, thenWarm := false }
      ∧ Only [.free, .mode, .idle, .entry, .leftMode, .wakeHeld, .queues, .dram, .upsets, .ecc, .tlb, .modMem, .fw, .ev,
          .pow, .od] s t))
  ∧ (∀ s : State, s.asleep = false → s.mode ≠ .ready → s.mode ≠ .serving → s.mode ≠ .draining →
    exec (.standbyRequest .entry) s = .next (s.odSet 0x2000 2 3) ∧ exec (.parkedRequest .entry) s = .next (s.odSet 0x2000
        2 3))
  ∧ (∀ (s : State) (e : Entry), s.entry = some e → e.step = 1 → e.target ≠ .draining ∨ e.oos ≠ 0 ∨ e.thenWarm = true →
    exec .drainTimeout s = .next (((s.setQueues (s.queues.mapVals (fun _ x =>
      if x.state = .active then { x with state := .paused } else x))).setEntry (some
          { e with step := 2, since := s.now })).dropPosted))
  ∧ (∀ (s : State) (e : Entry), s.entry = some e → e.step = 1 → e.target ≠ .draining ∨ e.oos ≠ 0 ∨ e.thenWarm = true →
    s.queues.all (fun kx => kx.2.jobs.all (fun j => decide (j.phase ≠ .posted))) = true →
    exec .drainTimeout s = .next ((s.setQueues (s.queues.mapVals (fun _ x =>
      if x.state = .active then { x with state := .paused } else x))).setEntry (some { e with step := 2, since := s.now })))
  ∧ (∀ (s : State) (e : Entry), s.entry = none ∨ (s.entry = some e ∧ (e.step ≠ 1
      ∨ (e.target = .draining ∧ e.oos = 0 ∧ e.thenWarm = false))) → exec .drainTimeout s = .next s)
  ∧ (∀ (s : State) (e : Entry) (ok : Bool) (r : StartReport), s.entry = some e → e.step = 2 → s.anyScrub = false →
    s.allDone = true ∨ e.since + 25000000 ≤ s.now → s.mode = .draining →
    (e.oos ≠ 0 → Gives (.drainAbort ok r) s (fun t => t.mode = .outOfService ∧ t.entry = none ∧ t.rst.oos = true
      ∧ t.rst.oosReason = e.oos))
    ∧ (e.oos = 0 → e.thenWarm = true → s.rst.due = none → s.rst.running = none →
      Gives (.drainAbort ok r) s (fun t => t.mode = .draining ∧ t.entry = none ∧ t.rst.due = some 4))
    ∧ (e.oos = 0 → e.thenWarm = false → s.wakeHeld = false → s.ryc.window = [] → e.target = .standby →
      Gives (.drainAbort ok r) s (fun t => t.mode = .standby ∧ t.entry = none ∧ t.parts = s.parts ∧ t.sess = s.sess
        ∧ (∀ j : Nat, (t.rsess j).state ≠ .opened ∧ (t.rsess j).state ≠ .handshake)))
    ∧ (e.oos = 0 → e.thenWarm = false → s.wakeHeld = false → s.ryc.window = [] → e.target = .parked →
      Gives (.drainAbort ok r) s (fun t => t.mode = .parked ∧ t.entry = none ∧ t.parts = [] ∧ t.sess = [] ∧ t.pageMaps =
          [])))
  ∧ (∀ (s : State) (ok : Bool) (r : StartReport) (e : Entry), s.entry = none ∨ (s.entry = some e
      ∧ (e.step ≠ 2 ∨ s.anyScrub = true ∨ (s.allDone = false ∧ s.now < e.since + 25000000))) →
    exec (.drainAbort ok r) s = .next s)
  ∧ (∀ s : State, s.mode = .ready → s.idle = false → s.odGet 0x2002 1 = 0 →
    s.pow.lastDispatch + 250000 * s.odGet 0x2003 3 ≤ s.now → exec .idleEntry s = .next (s.setIdle true))
  ∧ (∀ s : State, s.mode ≠ .ready ∨ s.odGet 0x2002 1 ≠ 0 ∨ s.now < s.pow.lastDispatch + 250000 * s.odGet 0x2003 3 →
    exec .idleEntry s = .next s)

/-- A controller's bit clears 2 s after its last valid frame; with both clear and 10 s after the last frame the
controllers are lost, and when the grace period has passed the module begins its entry to STANDBY. An authentic WAKE
that names the module wakes it from STANDBY to READY or SERVING with the storage of its cores in zeros, and during
an entry is held; one that names another or is not authentic is dropped. An occurrence of the wake subset while the
dies are off is logged, and wakes the module only where its bit lets it; a condition that ends wakes nothing; awake,
the row does nothing. Rests on R394, R465, R552, R556, R566. -/
def Obligations.ControllersAndWake : Prop :=
  (∀ (s : State) (b : Bool) (t0 v : Nat), (if b then s.ryc.lastSecondary else s.ryc.lastPrimary) = some t0 → t0 +
      500000000 ≤ s.now →
    v = s.odGet 0x1100 0x0C →
    exec (.controllerPresenceExpiry b) s
      = .next (s.odSet 0x1100 0x0C (if b then v - 2 * (v / 2 % 2) else v - v % 2)))
  ∧ (∀ (s : State) (b : Bool) (t0 : Nat), (if b then s.ryc.lastSecondary else s.ryc.lastPrimary) = some t0 →
    s.now < t0 + 500000000 → exec (.controllerPresenceExpiry b) s = .next s)
  ∧ (∀ s : State, s.mode ≠ .off → s.asleep = false → s.pow.lost = false → s.odGet 0x1100 0x0C = 0 →
    s.lastController + 2500000000 ≤ s.now →
    Gives .controllersLost s (fun t => t.pow = { s.pow with lost := true, graceSince := s.now, beforeLoss := some s.mode }
      ∧ t.mode = s.mode ∧ Only [.free, .queues, .dram, .upsets, .ecc, .tlb, .modMem, .park, .fw, .ev, .rel, .pow, .store,
          .od] s t))
  ∧ (∀ s : State, s.pow.lost = true ∨ s.odGet 0x1100 0x0C ≠ 0 ∨ s.now < s.lastController + 2500000000 →
    exec .controllersLost s = .next s)
  ∧ (∀ s : State, s.pow.lost = true → s.pow.graceSince + 250000000 * s.odGet 0x2003 1 ≤ s.now → s.mode = .ready ∨ s.mode =
      .serving →
    s.entryFree = true →
    Gives .gracePeriodExpiry s (fun t => t.mode = .draining ∧ t.leftMode = s.mode
      ∧ t.entry = some { target := .standby, step := 1, since := s.now, byGrace := true, oos := 0, thenWarm := false }
      ∧ Only [.free, .mode, .idle, .entry, .leftMode, .wakeHeld, .queues, .dram, .upsets, .ecc, .tlb, .modMem, .fw, .ev,
          .pow, .od] s t))
  ∧ (∀ s : State, s.pow.lost = false ∨ s.now < s.pow.graceSince + 250000000 * s.odGet 0x2003 1 →
    exec .gracePeriodExpiry s = .next s)
  ∧ (∀ (s u : State) (f : RFrame) (r : StartReport), s.takeClear f 0x22 1 = (true, u) → u.wakeNames f = true → f.authentic
      = true →
    s.mode = .standby → s.leftMode = .ready ∨ s.leftMode = .serving →
    Gives (.wake f r) s (fun t => t.mode = (if s.anyActive then .serving else .ready) ∧ t.pow.lost = false
      ∧ (∀ n : Nat, (t.core n).spad = {} ∧ (t.core n).role = (s.core n).role) ∧ t.wakeHeld = false ∧ t.sess = s.sess
      ∧ Only [.free, .out, .tray, .mode, .idle, .wakeHeld, .westPrimary, .noBoot, .rst, .cores, .queues, .dram, .upsets,
          .spadUpsets, .ecc, .rotation, .tlb, .modMem, .park, .fw, .ryc, .ev, .rel, .pow, .store, .od] s t))
  ∧ (∀ (s u : State) (f : RFrame) (r : StartReport) (e : Entry), s.takeClear f 0x22 1 = (true, u) → u.wakeNames f = true →
    f.authentic = true → s.mode = .draining → s.entry = some e → e.target = .standby ∨ e.target = .parked →
    Gives (.wake f r) s (fun t => t.wakeHeld = true ∧ t.mode = .draining ∧ t.entry = some e ∧ Only [.free, .out, .tray,
        .mode, .idle, .wakeHeld, .westPrimary, .noBoot, .rst, .cores, .queues, .dram, .upsets, .spadUpsets, .ecc,
        .rotation, .tlb, .modMem, .park, .fw, .ryc, .ev, .rel, .pow, .store, .od] s t))
  ∧ (∀ (s u : State) (f : RFrame) (r : StartReport), s.takeClear f 0x22 1 = (true, u) → u.wakeNames f = true → f.authentic
      = true →
    s.mode = .parked → 0x21 ∈ s.tray.causes → 4500 < r.inlet ∨ 6000 < r.hottest →
    Gives (.wake f r) s (fun t => t.mode = .parked ∧ (∃ o : Output, t.out = s.out ++ [o]) ∧ Only [.free, .out, .tray,
        .mode, .idle, .wakeHeld, .westPrimary, .noBoot, .rst, .cores, .queues, .dram, .upsets, .spadUpsets, .ecc,
        .rotation, .tlb, .modMem, .park, .fw, .ryc, .ev, .rel, .pow, .store, .od] s t))
  ∧ (∀ (s u : State) (f : RFrame) (r : StartReport), s.takeClear f 0x22 1 = (true, u) →
    (u.wakeNames f = false → exec (.wake f r) s = .next (u.ryciaDrop false))
    ∧ (u.wakeNames f = true → f.authentic = false → exec (.wake f r) s = .next (u.ryciaDrop true)))
  ∧ (∀ (s x : State) (n : Fin 10) (d : BitVec 47) (r : StartReport), s.asleep = true → n.val ≠ 1 → n.val ≠ 2 → n.val ≠ 3 →
      n.val ≠ 7 →
    sourceIsCond (18 + n.val) = false ∨ (s.source 0 (18 + n.val)).cond = false →
    x = (if sourceIsCond (18 + n.val) then s.condition 0 (18 + n.val) true d.toNat else s.raiseEast (18 + n.val) d.toNat) →
    (bitOf (x.odGet 0x2900 4) (2 + n.val) = true → exec (.wakeSubsetOccurrence n true d r) s = .next (x.wakeUp r))
    ∧ (bitOf (x.odGet 0x2900 4) (2 + n.val) = false → exec (.wakeSubsetOccurrence n true d r) s = .next x))
  ∧ (∀ (s : State) (n : Fin 10) (d : BitVec 47) (r : StartReport), s.asleep = true → n.val ≠ 1 → n.val ≠ 2 → n.val ≠ 3 →
      n.val ≠ 7 →
    sourceIsCond (18 + n.val) = true → (s.source 0 (18 + n.val)).cond = true →
    exec (.wakeSubsetOccurrence n true d r) s = .next s)
  ∧ (∀ (s : State) (d : BitVec 47) (r : StartReport), s.asleep = true →
    exec (.wakeSubsetOccurrence 7 true d r) s = .next ((s.raiseEast 25 d.toNat).wakeUp r))
  ∧ (∀ (s : State) (n : Fin 10) (d : BitVec 47) (r : StartReport), s.asleep = true → sourceIsCond (18 + n.val) = true →
    exec (.wakeSubsetOccurrence n false d r) s = .next (s.condition 0 (18 + n.val) false d.toNat))
  ∧ (∀ (s : State) (n : Fin 10) (level : Bool) (d : BitVec 47) (r : StartReport), s.asleep = false →
    exec (.wakeSubsetOccurrence n level d r) s = .next s)

/-- A MOD reset taken while the module can be reset records itself, restarts the timebase at 0, and leaves no
partition, session, page map or grammar slot; a WARM reset leaves none either and lets the timebase run, without the
step that is open until TRAIN, whether it is ordered, due, taken 1 s after a PREPARE_WARM that none followed, or
ordered by a runtime load of 10 s. A heartbeat that moves restarts the watchdog; one that stands still for 2 s takes
the pre-reset sample and orders a WARM reset; before that nothing changes. PREPARE_WARM takes the sample once. The
return to service clears the out-of-service flag, marks every history record as cleared, and makes a MOD start; in
another state it does nothing. Rests on R573, R576, R577, R579, R583, R584, R587, R591. -/
def Obligations.ModuleResets : Prop :=
  (∀ (s : State) (r : StartReport), s.modOk = true →
    Gives (.modReset .entry r) s (fun t => t.parts = [] ∧ t.sess = [] ∧ t.pageMaps = [] ∧ t.grammars = []
      ∧ t.time = { sub := s.time.sub } ∧ t = (s.modTake 4).coldStart .mod r (s.store.platIn .trial).isSome
      ∧ (s.modTake 4).mode = .boot ∧ ((s.modTake 4).rst.history.getLast?).map (·.kind) = some .mod ∧ Only [.free, .out,
          .time, .tray, .mode, .idle, .entry, .wakeHeld, .westPrimary, .noBoot, .rst, .cores, .queues, .queueZero, .sems,
          .semWait, .dram, .upsets, .spadUpsets, .ecc, .modKey, .rotation, .migr, .migrQueue, .pageMaps, .tlb, .kvMaps,
          .kvTlb, .kvDirty, .shared, .modMem, .parts, .park, .sess, .emitted, .grammars, .adapters, .adapterLast, .video,
          .fw, .ryc, .net, .ev, .rel, .sec, .pow, .store, .od, .d2dFails] s t))
  ∧ (∀ (s : State) (r : StartReport), s.modOk = false → exec (.modReset .entry r) s = .next s)
  ∧ (∀ (s : State) (cause : Nat) (r : StartReport), s.warmOk = true → s.rst.due.isSome = true ∨ cause = 4 ∨ cause = 6 ∨
      cause = 7 →
    Gives (.warmReset cause r) s (fun t => t.parts = [] ∧ t.sess = [] ∧ t.pageMaps = [] ∧ t.grammars = []
      ∧ t.time = { s.time with mayStep := s.time.mayStep && decide (s.mode = .boot) }
      ∧ t.rst.due = none ∧ t.rst.prepared = none ∧ Only [.free, .out, .time, .mode, .idle, .entry, .wakeHeld, .rst,
          .cores, .queues, .queueZero, .sems, .semWait, .dram, .upsets, .spadUpsets, .ecc, .modKey, .rotation, .migr,
          .migrQueue, .pageMaps, .tlb, .kvMaps, .kvTlb, .kvDirty, .shared, .modMem, .parts, .park, .sess, .emitted,
          .grammars, .adapters, .adapterLast, .video, .fw, .ryc, .net, .ev, .rel, .sec, .pow, .store, .od, .d2dFails] s
          t))
  ∧ (∀ (s : State) (cause : Nat) (r : StartReport), s.warmOk = false ∨ (s.rst.due = none ∧ cause ≠ 4 ∧ cause ≠ 6 ∧ cause ≠
      7) →
    exec (.warmReset cause r) s = .next s)
  ∧ (∀ (s : State) (r : StartReport), s.mode = .awaitRuntime → s.rst.awaitSince + 2500000000 ≤ s.now → s.warmOk = true →
    Gives (.runtimeLoadOverrun r) s (fun t => t.parts = [] ∧ t.sess = [] ∧ t.time = { s.time with mayStep := false }
      ∧ (∀ b : Bool, s.store.runIn .probation = some b → t.store.run b = .rejected) ∧ Only [.free, .out, .time, .mode,
          .idle, .entry, .wakeHeld, .rst, .cores, .queues, .queueZero, .sems, .semWait, .dram, .upsets, .spadUpsets, .ecc,
          .modKey, .rotation, .migr, .migrQueue, .pageMaps, .tlb, .kvMaps, .kvTlb, .kvDirty, .shared, .modMem, .parts,
          .park, .sess, .emitted, .grammars, .adapters, .adapterLast, .video, .fw, .ryc, .net, .ev, .rel, .sec, .pow,
          .store, .od, .d2dFails] s t))
  ∧ (∀ (s : State) (r : StartReport), s.mode ≠ .awaitRuntime ∨ s.now < s.rst.awaitSince + 2500000000 →
    exec (.runtimeLoadOverrun r) s = .next s)
  ∧ (∀ s : State, s.mode = .ready ∨ s.mode = .serving ∨ s.mode = .draining → s.odGet 0x2000 8 ≠ s.rst.beat →
    exec .heartbeatCheck s = .next (s.setRst { s.rst with beat := s.odGet 0x2000 8, beatSince := s.now }))
  ∧ (∀ s : State, s.mode = .ready ∨ s.mode = .serving ∨ s.mode = .draining → s.odGet 0x2000 8 = s.rst.beat →
    s.rst.beatSince + 500000000 ≤ s.now → s.rst.prepared = none → s.rst.due = none → s.rst.running = none →
    Gives .heartbeatCheck s (fun t => t.rst.due = some 6 ∧ t.rst.prepared = some s.now
      ∧ t.rst.sampleNo = s.rst.sampleNo + 1 ∧ t.mode = s.mode ∧ Only [.free, .out, .rst, .cores, .queues, .dram, .upsets,
          .spadUpsets, .ecc, .migr, .migrQueue, .pageMaps, .tlb, .modMem, .parts, .park, .fw, .ev, .rel, .store, .od] s
          t))
  ∧ (∀ s : State, s.odGet 0x2000 8 = s.rst.beat → s.now < s.rst.beatSince + 500000000 → exec .heartbeatCheck s = .next s)
  ∧ (∀ (s u : State) (m : MbxSrc) (x : MbxIn), s.receive m 0x31 = (some x, u) → u.rst.prepared = none →
    Gives (.prepareWarm m) s (fun t => t.rst.prepared = some s.now ∧ t.rst.sampleNo = s.rst.sampleNo + 1
      ∧ t.mode = s.mode ∧ Only [.free, .out, .idle, .rst, .cores, .queues, .dram, .upsets, .spadUpsets, .ecc, .migr,
          .migrQueue, .pageMaps, .tlb, .modMem, .parts, .park, .fw, .ev, .rel, .store, .od] s t))
  ∧ (∀ (s u : State) (m : MbxSrc) (x : MbxIn), s.receive m 0x31 = (some x, u) → u.rst.prepared ≠ none →
    exec (.prepareWarm m) s = .next (u.answer x 0 []))
  ∧ (∀ (s : State) (r : StartReport) (t0 : Nat), s.rst.prepared = some t0 → t0 + 250000000 ≤ s.now → s.warmOk = true →
    Gives (.prepareWarmTimeout r) s (fun t => t.parts = [] ∧ t.sess = [] ∧ t.rst.prepared = none
      ∧ t.time = { s.time with mayStep := s.time.mayStep && decide (s.mode = .boot) }
      ∧ t.rst.sampleNo = s.rst.sampleNo ∧ Only [.free, .out, .time, .mode, .idle, .entry, .wakeHeld, .rst, .cores,
          .queues, .queueZero, .sems, .semWait, .dram, .upsets, .spadUpsets, .ecc, .modKey, .rotation, .migr, .migrQueue,
          .pageMaps, .tlb, .kvMaps, .kvTlb, .kvDirty, .shared, .modMem, .parts, .park, .sess, .emitted, .grammars,
          .adapters, .adapterLast, .video, .fw, .ryc, .net, .ev, .rel, .sec, .pow, .store, .od, .d2dFails] s t))
  ∧ (∀ (s : State) (r : StartReport), s.rst.prepared = none ∨ (∃ t0 : Nat, s.rst.prepared = some t0 ∧ s.now < t0 +
      250000000) →
    exec (.prepareWarmTimeout r) s = .next s)
  ∧ (∀ (s : State) (r : StartReport), s.mode = .outOfService → s.modOk = true →
    Gives (.returnToService r) s (fun t => t.parts = [] ∧ t.sess = [] ∧ t.time = { sub := s.time.sub }
      ∧ t = ((s.setRst { s.rst with
        oos := false
        oosReason := 0
        history := s.rst.history.map (fun h => { h with cleared := true }) }).commit [4]).modStart 5 r
      ∧ Only [.free, .out, .time, .tray, .mode, .idle, .entry, .wakeHeld, .westPrimary, .noBoot, .rst, .cores, .queues,
          .queueZero, .sems, .semWait, .dram, .upsets, .spadUpsets, .ecc, .modKey, .rotation, .migr, .migrQueue,
          .pageMaps, .tlb, .kvMaps, .kvTlb, .kvDirty, .shared, .modMem, .parts, .park, .sess, .emitted, .grammars,
          .adapters, .adapterLast, .video, .fw, .ryc, .net, .ev, .rel, .sec, .pow, .store, .od, .d2dFails] s t))
  ∧ (∀ (s : State) (r : StartReport), s.mode ≠ .outOfService → exec (.returnToService r) s = .next s)

/-- Opening empty staging with sizes in range makes it receive its chunks; discarding empties it and records 0x30; a
chunk of the right index and length is answered, another is refused and changes nothing, and an answered chunk
becomes durable, the last one completing the image. Arming a complete image puts it, unchecked, into the inactive
slot, as pending or candidate, and empties staging; during a trial or probation it is refused. A probation window
that ends with health makes the bundle current and raises the fused counter, and one that ends without rejects it.
In RECOVERY the other slot can be marked pending, with a MOD start. A trial of 10 s fails into RECOVERY. The end of
an erase ends its compaction. Rests on R599, R606, R607, R608, R610, R611, R612, R614. -/
def Obligations.StagingAndSlots : Prop :=
  (∀ s : State, s.asleep = false → s.stageState = 0 → s.stageSizeOk = true →
    Gives .stageOpen s (fun t => t.stageState = 1 ∧ t.chunksTotal = ceilDiv s.stageBytes 65536 ∧ t.store.chunks = []
      ∧ t.store.answered = [] ∧ t.odGet 0x2A10 4 = 2 ∧ Only [.rel, .store, .od] s t))
  ∧ (∀ s : State, s.asleep = false → s.stageState ≠ 0 ∨ s.stageSizeOk = false → exec .stageOpen s = .next (s.odSet 0x2A10
      4 3))
  ∧ (∀ s : State, s.asleep = false →
    Gives .stageDiscard s (fun t => t.stageState = 0 ∧ t.chunksTotal = 0 ∧ t.store.chunks = [] ∧ t.store.answered = []
      ∧ t.odGet 0x2A10 0x0B = 0x30 ∧ t.odGet 0x2A10 4 = 2 ∧ Only [.rel, .store, .od] s t))
  ∧ (∀ (s : State) (bs : List Byte), s.asleep = false → s.stageState = 1 → leNat (bs.take 4) < s.chunksTotal →
    bs.length = 4 + s.chunkLen (leNat (bs.take 4)) →
    exec (.chunk bs) s
      = .next (s.setStore { s.store with answered := s.store.answered.put (leNat (bs.take 4)) (leNat (bs.drop 4)) }))
  ∧ (∀ (s : State) (bs : List Byte), s.stageState ≠ 1 ∨ s.chunksTotal ≤ leNat (bs.take 4)
      ∨ bs.length ≠ 4 + s.chunkLen (leNat (bs.take 4)) →
    exec (.chunk bs) s = .next s)
  ∧ (∀ (s : State) (i v : Nat), s.store.answered.find i = some v →
    (s.store.chunks.put i v).length ≠ s.chunksTotal →
    exec (.chunkDurable i) s = .next ((s.setStore { s.store with
      answered := s.store.answered.del i
      chunks := s.store.chunks.put i v }).parkDraw (s.chunkLen i)))
  ∧ (∀ (s : State) (i v : Nat), s.store.answered.find i = some v → (s.store.chunks.put i v).length = s.chunksTotal →
    Gives (.chunkDurable i) s (fun t => t.stageState = 2 ∧ t.store.chunks = s.store.chunks.put i v
      ∧ t.store.answered = s.store.answered.del i ∧ t.park = (s.parkDraw (s.chunkLen i)).park ∧ Only [.park, .rel, .store,
          .od] s t))
  ∧ (∀ (s : State) (i : Nat), s.store.answered.find i = none → exec (.chunkDurable i) s = .next s)
  ∧ (∀ (s : State) (r : StartReport) (b : Bool), s.asleep = false → s.armOk = true → s.mode ≠ .recovery → s.stageKind = 1 →
    b = !((s.store.platIn .active).getD true) →
    Gives (.stageArm r) s (fun t => t.store.plat b = .pending ∧ t.store.plat (!b) = s.store.plat (!b)
      ∧ t.store.img b = imageOf s.stagedHead 1 ∧ t.stageState = 0 ∧ t.store.chunks = [] ∧ t.odGet 0x2A10 4 = 2
      ∧ Only [.rel, .store, .od] s t))
  ∧ (∀ (s : State) (r : StartReport) (b : Bool), s.asleep = false → s.armOk = true → s.stageKind ≠ 1 →
    b = !((s.store.runIn .current).getD true) →
    Gives (.stageArm r) s (fun t => t.store.run b = .candidate ∧ t.store.run (!b) = s.store.run (!b)
      ∧ t.store.runImg b = imageOf s.stagedHead s.stageKind ∧ t.stageState = 0 ∧ t.store.chunks = [] ∧ t.odGet 0x2A10 4 = 2
      ∧ Only [.rel, .store, .od] s t))
  ∧ (∀ (s : State) (r : StartReport), s.armOk = true → s.mode = .recovery → s.stageKind = 1 →
    exec (.stageArm r) s = .next (s.arm.modStart 4 r))
  ∧ (∀ (s : State) (r : StartReport), s.asleep = false → s.armOk = false → exec (.stageArm r) s = .next (s.odSet 0x2A10 4
      3))
  ∧ (∀ (s : State) (n : Nat) (b : Bool), s.store.probation = some n → s.store.runIn .probation = some b → s.odGet 0x2A20
      0x0B ≤ n →
    s.odGet 0x2A20 0x0D = 1 →
    Gives .probationExpiry s (fun t => t.store.run b = .current ∧ t.store.probation = none ∧ t.store.run (!b)
        = (if s.store.run (!b) = .current then .previous else s.store.run (!b))
      ∧ t.sec.fuseRuntime = max s.sec.fuseRuntime (s.store.runImg b).counter ∧ t.odGet 0x2A10 0x0B = 2 ∧ t.mode = s.mode
      ∧ Only [.free, .mode, .idle, .entry, .leftMode, .wakeHeld, .queues, .dram, .upsets, .ecc, .tlb, .modMem, .fw, .ev,
          .rel, .sec, .pow, .store, .od] s t))
  ∧ (∀ (s : State) (n : Nat) (b : Bool), s.store.probation = some n → s.store.runIn .probation = some b → s.odGet 0x2A20
      0x0B ≤ n →
    s.odGet 0x2A20 0x0D ≠ 1 → s.mode = .serving →
    Gives .probationExpiry s (fun t => t.store.run b = .rejected ∧ t.store.run (!b) = s.store.run (!b) ∧ t.store.probation
        = none
      ∧ t.sec.fuseRuntime = s.sec.fuseRuntime ∧ t.mode = .draining ∧ (t.entry.map (·.thenWarm)) = some true
      ∧ Only [.free, .mode, .idle, .entry, .leftMode, .wakeHeld, .queues, .dram, .upsets, .ecc, .tlb, .modMem, .fw, .ev,
          .rel, .sec, .pow, .store, .od] s t))
  ∧ (∀ (s : State) (n : Nat), s.store.probation = none ∨ (s.store.probation = some n ∧ n < s.odGet 0x2A20 0x0B) →
    exec .probationExpiry s = .next s)
  ∧ (∀ (s : State) (r : StartReport) (b : Bool), s.mode = .recovery → s.store.otherSlot = b →
    (s.store.plat b ≠ .empty → exec (.usePrevious r) s = .next ((s.setStore (s.store.putPlat b .pending)).modStart 4 r))
    ∧ (s.store.plat b = .empty → exec (.usePrevious r) s = .next ((s.setStore
      ((s.store.putImg b { s.store.img b with form := 0x10 }).putPlat b .pending)).modStart 4 r)))
  ∧ (∀ (s : State) (r : StartReport), s.mode ≠ .recovery → exec (.usePrevious r) s = .next (s.odSet 0x2A20 0x0F 3))
  ∧ (∀ (s : State) (b : Bool), s.mode = .boot ∨ s.mode = .train → s.store.platIn .trial = some b →
    s.rst.trialSince + 2500000000 ≤ s.now →
    Gives .trialTimeout s (fun t => t.mode = .recovery ∧ t.store.plat b = .failed ∧ t.store.plat (!b) = s.store.plat (!b)
      ∧ t.rst.running = none ∧ Only [.free, .mode, .idle, .rst, .queues, .dram, .upsets, .ecc, .tlb, .modMem, .fw, .ev,
          .rel, .pow, .store, .od] s t))
  ∧ (∀ s : State, s.store.platIn .trial = none ∨ s.now < s.rst.trialSince + 2500000000 → exec .trialTimeout s = .next s)
  ∧ (∀ (s : State) (b : Bool), s.store.compaction = (if b then 2 else 1) →
    Gives .compactionEraseComplete s (fun t => t.store.compaction = 0 ∧ t.store.newestB = b
      ∧ (t.store.bank b).erases = (s.store.bank b).erases + 1 ∧ (t.store.bank b).stale = []
      ∧ t.store.bank (!b) = s.store.bank (!b) ∧ t.rel.keptCounts = (s.rel.charged, s.rel.charged24)
      ∧ Only [.rel, .store, .od] s t))
  ∧ (∀ s : State, s.store.compaction = 0 → exec .compactionEraseComplete s = .next s)
end

