-- ==== Sys2Proof/Laws/Memory.lean ====
section
/-!
SUPPORT. Association lists and byte memories: what a read gives after a write, and that every memory operation keeps
the canonical form.
-/
namespace Sys2Proof

/-! ### Association lists -/

namespace AMap

variable {α : Type}

theorem find_put (m : AMap α) (i j : Nat) (x : α) : (m.put i x).find j = if i = j then some x else m.find j := by
  induction m with
  | nil => by_cases h : i = j <;> simp [put, find, h]
  | cons kv m ih =>
    obtain ⟨k, v⟩ := kv
    rcases Nat.lt_trichotomy k i with h | h | h
    · have h1 : k ≠ i := by omega
      have h2 : ¬ i < k := by omega
      simp only [put, h1, h2, if_false, find, ih]
      by_cases e : i = j
      · have h3 : k ≠ j := by omega
        have h4 : ¬ j < k := by omega
        simp [e, h3, h4]
      · simp [e]
    · subst h
      by_cases e : k = j <;> simp [put, find, e]
    · have h1 : k ≠ i := by omega
      simp only [put, h1, h, if_false, if_true, find]
      by_cases e : i = j
      · simp [e]
      · by_cases e2 : j < i
        · have h2 : k ≠ j := by omega
          have h3 : j < k := by omega
          simp [e, e2, h2, h3]
        · simp [e, e2]

theorem getD_put (m : AMap α) (i j : Nat) (x d : α) : (m.put i x).getD j d = if i = j then x else m.getD j d := by
  unfold getD
  rw [find_put]
  by_cases h : i = j <;> simp [h]

/-- Reading the key just written. -/
@[simp] theorem getD_put_self (m : AMap α) (i : Nat) (x d : α) : (m.put i x).getD i d = x := by simp [getD_put]

/-- Writing one key leaves every other as it was. -/
theorem getD_put_other (m : AMap α) {i j : Nat} (x d : α) (h : i ≠ j) : (m.put i x).getD j d = m.getD j d := by
  simp [getD_put, h]

@[simp] theorem find_put_self (m : AMap α) (i : Nat) (x : α) : (m.put i x).find i = some x := by simp [find_put]

end AMap

end Sys2Proof

namespace Sys2Proof.Machine

open Sys2Proof

/-! ### Byte memories -/

/-- Every listed address from `k` on. -/
def cellsFrom (k : Nat) (m : List Host.Cell) : Bool := m.all (fun c => decide (k ≤ c.1))

theorem sorted_cons {k : Nat} {v : Byte} {m : List Host.Cell} :
    AMap.sorted ((k, v) :: m) = true ↔ AMap.sorted m = true ∧ cellsFrom (k + 1) m = true := by
  induction m generalizing k v with
  | nil => simp [AMap.sorted, cellsFrom]
  | cons c m ih =>
    obtain ⟨l, w⟩ := c
    simp only [AMap.sorted, Bool.and_eq_true, decide_eq_true_eq, cellsFrom, List.all_cons] at *
    constructor
    · rintro ⟨h1, h2⟩
      refine ⟨h2, by omega, ?_⟩
      have h3 := (ih.mp h2).2
      simp only [List.all_eq_true, decide_eq_true_eq] at *
      intro x hx
      have := h3 x hx
      omega
    · rintro ⟨h1, h2, _⟩
      exact ⟨by omega, h1⟩

theorem cellsFrom_mono {j k : Nat} {m : List Host.Cell} (h : j ≤ k) (e : cellsFrom k m = true) : cellsFrom j m = true := by
  simp only [cellsFrom, List.all_eq_true, decide_eq_true_eq] at *
  intro x hx
  have := e x hx
  omega

theorem cellFind_none {k : Nat} {m : List Host.Cell} (h : cellsFrom (k + 1) m = true) : cellFind m k = none := by
  cases m with
  | nil => rfl
  | cons c m =>
    obtain ⟨l, w⟩ := c
    simp only [cellsFrom, List.all_cons, Bool.and_eq_true, decide_eq_true_eq] at h
    have h1 : l ≠ k := by omega
    have h2 : k < l := by omega
    simp [cellFind, h1, h2]

theorem cellFind_put (m : List Host.Cell) (i j : Nat) (x : Byte) :
    cellFind (cellPut m i x) j = if i = j then some x else cellFind m j := by
  have hf : ∀ (m : List Host.Cell) j, cellFind m j = AMap.find m j := by
    intro m j
    induction m with
    | nil => rfl
    | cons c m ih => simp only [cellFind, AMap.find, ih]
  have hp : ∀ (m : List Host.Cell), cellPut m i x = AMap.put m i x := by
    intro m
    induction m with
    | nil => rfl
    | cons c m ih => simp only [cellPut, AMap.put, ih]
  rw [hf, hf, hp, AMap.find_put]

theorem cellFind_del (m : List Host.Cell) (i j : Nat) (h : AMap.sorted m = true) :
    cellFind (cellDel m i) j = if i = j then none else cellFind m j := by
  induction m with
  | nil => simp [cellDel, cellFind]
  | cons c m ih =>
    obtain ⟨k, v⟩ := c
    obtain ⟨hs, hf⟩ := sorted_cons.mp h
    rcases Nat.lt_trichotomy k i with e | e | e
    · have h1 : k ≠ i := by omega
      have h2 : ¬ i < k := by omega
      simp only [cellDel, h1, h2, if_false, cellFind, ih hs]
      by_cases e2 : i = j
      · have h3 : k ≠ j := by omega
        have h4 : ¬ j < k := by omega
        simp [e2, h3, h4]
      · simp [e2]
    · subst e
      simp only [cellDel, if_true, cellFind]
      by_cases e2 : k = j
      · subst e2
        simp [cellFind_none hf]
      · simp only [e2, if_false]
        by_cases e3 : j < k
        · simp only [e3, if_true]
          exact cellFind_none (cellsFrom_mono (by omega) hf)
        · simp [e3]
    · have h1 : k ≠ i := by omega
      simp only [cellDel, h1, e, if_false, if_true, cellFind]
      by_cases e2 : i = j
      · subst e2
        simp [h1, e]
      · simp [e2]

theorem cellsFrom_put {k i : Nat} {x : Byte} {m : List Host.Cell} (h : cellsFrom k m = true) (hi : k ≤ i) :
    cellsFrom k (cellPut m i x) = true := by
  induction m with
  | nil => simp [cellPut, cellsFrom, hi]
  | cons c m ih =>
    obtain ⟨l, w⟩ := c
    simp only [cellsFrom, List.all_cons, Bool.and_eq_true, decide_eq_true_eq] at h ih
    unfold cellPut
    split
    · simp only [cellsFrom, List.all_cons, Bool.and_eq_true, decide_eq_true_eq]; exact ⟨hi, h.2⟩
    · split
      · simp only [cellsFrom, List.all_cons, Bool.and_eq_true, decide_eq_true_eq]; exact ⟨hi, h.1, h.2⟩
      · simp only [cellsFrom, List.all_cons, Bool.and_eq_true, decide_eq_true_eq]; exact ⟨h.1, ih h.2⟩

theorem cellsFrom_del {k i : Nat} {m : List Host.Cell} (h : cellsFrom k m = true) : cellsFrom k (cellDel m i) = true := by
  induction m with
  | nil => rfl
  | cons c m ih =>
    obtain ⟨l, w⟩ := c
    simp only [cellsFrom, List.all_cons, Bool.and_eq_true, decide_eq_true_eq] at h ih
    unfold cellDel
    split
    · exact h.2
    · split
      · simp only [cellsFrom, List.all_cons, Bool.and_eq_true, decide_eq_true_eq]; exact h
      · simp only [cellsFrom, List.all_cons, Bool.and_eq_true, decide_eq_true_eq]; exact ⟨h.1, ih h.2⟩

theorem sorted_cellPut {m : List Host.Cell} (i : Nat) (x : Byte) (h : AMap.sorted m = true) :
    AMap.sorted (cellPut m i x) = true := by
  induction m with
  | nil => rfl
  | cons c m ih =>
    obtain ⟨k, v⟩ := c
    obtain ⟨hs, hf⟩ := sorted_cons.mp h
    unfold cellPut
    split
    · next e => subst e; exact sorted_cons.mpr ⟨hs, hf⟩
    · split
      · next e =>
        refine sorted_cons.mpr ⟨h, ?_⟩
        simp only [cellsFrom, List.all_cons, Bool.and_eq_true, decide_eq_true_eq]
        exact ⟨e, cellsFrom_mono (by omega) hf⟩
      · exact sorted_cons.mpr ⟨ih hs, cellsFrom_put hf (by omega)⟩

theorem sorted_cellDel {m : List Host.Cell} (i : Nat) (h : AMap.sorted m = true) : AMap.sorted (cellDel m i) = true := by
  induction m with
  | nil => rfl
  | cons c m ih =>
    obtain ⟨k, v⟩ := c
    obtain ⟨hs, hf⟩ := sorted_cons.mp h
    unfold cellDel
    split
    · exact hs
    · split
      · exact h
      · exact sorted_cons.mpr ⟨ih hs, cellsFrom_del hf⟩

/-- A property that every listed byte has, and the written one too. -/
theorem all_cellPut {p : Host.Cell → Bool} {m : List Host.Cell} {i : Nat} {x : Byte} (h : m.all p = true) (hx : p (i, x) = true) :
    (cellPut m i x).all p = true := by
  induction m with
  | nil => simp [cellPut, hx]
  | cons c m ih =>
    obtain ⟨k, v⟩ := c
    simp only [List.all_cons, Bool.and_eq_true] at h
    unfold cellPut
    split
    · simp [hx, h.2]
    · split
      · simp [hx, h]
      · simp [h.1, ih h.2]

theorem all_cellDel {p : Host.Cell → Bool} {m : List Host.Cell} {i : Nat} (h : m.all p = true) : (cellDel m i).all p = true := by
  induction m with
  | nil => rfl
  | cons c m ih =>
    obtain ⟨k, v⟩ := c
    simp only [List.all_cons, Bool.and_eq_true] at h
    unfold cellDel
    split
    · exact h.2
    · split
      · simp [h]
      · simp [h.1, ih h.2]

/-- A write of one byte keeps the canonical form. -/
theorem Mem.put_wf (m : Mem) (a : Nat) (b : Byte) (h : m.wf = true) : (m.put a b).wf = true := by
  obtain ⟨fill, cells, poison⟩ := m
  cases fill with
  | unwritten k =>
    simp only [Mem.wf, Mem.put, Bool.and_eq_true] at h ⊢
    exact ⟨⟨sorted_cellPut a b h.1.1, h.1.2⟩, h.2⟩
  | zeros =>
    simp only [Mem.wf, Mem.put, Bool.and_eq_true] at h ⊢
    by_cases e : b = 0
    · simp only [e, if_true]
      exact ⟨⟨sorted_cellDel a h.1.1, h.1.2⟩, all_cellDel h.2⟩
    · simp only [e, if_false]
      exact ⟨⟨sorted_cellPut a b h.1.1, h.1.2⟩, all_cellPut h.2 (by simpa using e)⟩

/-- Reading one byte after writing one. -/
theorem Mem.byte_put (m : Mem) (a i : Nat) (b : Byte) (h : m.wf = true) :
    (m.put a b).byte i = if a = i then b else m.byte i := by
  obtain ⟨fill, cells, poison⟩ := m
  simp only [Mem.wf, Bool.and_eq_true] at h
  cases fill with
  | unwritten k =>
    simp only [Mem.put, Mem.byte, cellFind_put, Mem.unlisted]
    by_cases e : a = i <;> simp [e]
  | zeros =>
    by_cases hb : b = 0
    · simp only [Mem.put, hb, if_true, Mem.byte, cellFind_del _ _ _ h.1.1, Mem.unlisted]
      by_cases e : a = i <;> simp [e]
    · simp only [Mem.put, hb, if_false, Mem.byte, cellFind_put, Mem.unlisted]
      by_cases e : a = i <;> simp [e]

@[simp] theorem Mem.put_poison (m : Mem) (a : Nat) (b : Byte) : (m.put a b).poison = m.poison := by
  unfold Mem.put
  split
  · split <;> rfl
  · rfl

/-- A write of bytes keeps the canonical form. -/
theorem Mem.write_wf (m : Mem) (a : Nat) (bs : List Byte) (h : m.wf = true) : (m.write a bs).wf = true := by
  induction bs generalizing m a with
  | nil => exact h
  | cons b bs ih => exact ih _ _ (Mem.put_wf m a b h)

/-- A write of bytes leaves every byte outside it as it was. -/
theorem Mem.byte_write_out (m : Mem) (a i : Nat) (bs : List Byte) (h : m.wf = true) (hi : i < a ∨ a + bs.length ≤ i) :
    (m.write a bs).byte i = m.byte i := by
  induction bs generalizing m a with
  | nil => rfl
  | cons b bs ih =>
    simp only [List.length_cons] at hi
    rw [Mem.write, ih _ _ (Mem.put_wf m a b h) (by omega), Mem.byte_put m a i b h, if_neg (by omega)]

/-- A write of bytes puts each at its place. -/
theorem Mem.byte_write_in (m : Mem) (a i : Nat) (bs : List Byte) (h : m.wf = true) (hi : i < bs.length) :
    (m.write a bs).byte (a + i) = bs[i] := by
  induction bs generalizing m a i with
  | nil => simp at hi
  | cons b bs ih =>
    cases i with
    | zero =>
      rw [Mem.write, Mem.byte_write_out _ _ _ _ (Mem.put_wf m a b h) (by omega), Mem.byte_put m a _ b h]
      simp
    | succ i =>
      have := ih (m.put a b) (a + 1) i (Mem.put_wf m a b h) (by simpa using hi)
      rw [Mem.write, show a + (i + 1) = a + 1 + i by omega, this]
      rfl

/-- Marks rise strictly after one is set. -/
theorem rising_insert (l : List Nat) (i : Nat) (h : risingNat l = true) : risingNat (insertNat l i) = true := by
  induction l with
  | nil => rfl
  | cons k l ih =>
    unfold insertNat
    split
    · exact h
    · split
      · next e => simp [risingNat, e, h]
      · next e1 e2 =>
        cases l with
        | nil => simp only [insertNat, risingNat, Bool.and_eq_true, decide_eq_true_eq, and_true]; omega
        | cons n l =>
          simp only [risingNat, Bool.and_eq_true, decide_eq_true_eq] at h
          have hi := ih h.2
          unfold insertNat at hi ⊢
          split
          · next e => simp only [risingNat, Bool.and_eq_true, decide_eq_true_eq]; exact h
          · split
            · next e3 e4 =>
              simp only [risingNat, Bool.and_eq_true, decide_eq_true_eq]
              exact ⟨by omega, e4, h.2⟩
            · next e3 e4 =>
              rw [if_neg e3, if_neg e4] at hi
              simp only [risingNat, Bool.and_eq_true, decide_eq_true_eq]
              exact ⟨h.1, hi⟩

theorem rising_tail {k : Nat} {l : List Nat} (h : risingNat (k :: l) = true) : risingNat l = true := by
  cases l with
  | nil => rfl
  | cons n l => simp only [risingNat, Bool.and_eq_true] at h; exact h.2

/-- Marks rise strictly after one is cleared. -/
theorem rising_remove (l : List Nat) (i : Nat) (h : risingNat l = true) : risingNat (removeNat l i) = true := by
  induction l with
  | nil => rfl
  | cons k l ih =>
    unfold removeNat
    split
    · exact rising_tail h
    · have hi := ih (rising_tail h)
      cases l with
      | nil => rfl
      | cons n l =>
        have hk : k < n := by simp only [risingNat, Bool.and_eq_true, decide_eq_true_eq] at h; exact h.1
        unfold removeNat at hi ⊢
        split
        · next e =>
          cases l with
          | nil => rfl
          | cons o l =>
            simp only [risingNat, Bool.and_eq_true, decide_eq_true_eq] at h ⊢
            exact ⟨by omega, h.2.2⟩
        · next e =>
          rw [if_neg e] at hi
          simp only [risingNat, Bool.and_eq_true, decide_eq_true_eq]
          exact ⟨hk, hi⟩

theorem Mem.setLine_wf (m : Mem) (l : Nat) (b : Bool) (h : m.wf = true) : (m.setLine l b).wf = true := by
  simp only [Mem.wf, Mem.setLine, Bool.and_eq_true] at h ⊢
  refine ⟨⟨h.1.1, ?_⟩, h.2⟩
  cases b
  · exact rising_remove _ _ h.1.2
  · exact rising_insert _ _ h.1.2

theorem foldl_wf {α : Type} (f : Mem → α → Mem) (hf : ∀ m x, m.wf = true → (f m x).wf = true) (xs : List α) (m : Mem)
    (h : m.wf = true) : (xs.foldl f m).wf = true := by
  induction xs generalizing m with
  | nil => exact h
  | cons x xs ih => exact ih _ (hf _ _ h)

theorem Mem.setBad_wf (m : Mem) (a n : Nat) (b : Bool) (h : m.wf = true) : (m.setBad a n b).wf = true :=
  foldl_wf _ (fun m l h => Mem.setLine_wf m l b h) _ m h

/-- A write of bytes with their marks keeps the canonical form. -/
theorem Mem.store_wf (m : Mem) (a : Nat) (bs : List (Byte × Bool)) (h : m.wf = true) : (m.store a bs).wf = true :=
  foldl_wf _ (fun w l h => Mem.setLine_wf w l _ h) _ _ (Mem.write_wf m a _ h)

theorem foldl_byte {α : Type} (f : Mem → α → Mem) (hf : ∀ m x i, (f m x).byte i = m.byte i) (xs : List α) (m : Mem) (i : Nat) :
    (xs.foldl f m).byte i = m.byte i := by
  induction xs generalizing m with
  | nil => rfl
  | cons x xs ih => exact (ih _).trans (hf _ _ _)

/-- A write of bytes with their marks leaves every byte outside it as it was. -/
theorem Mem.byte_store_out (m : Mem) (a i : Nat) (bs : List (Byte × Bool)) (h : m.wf = true) (hi : i < a ∨ a + bs.length ≤ i) :
    (m.store a bs).byte i = m.byte i := by
  unfold Mem.store
  rw [foldl_byte]
  · exact Mem.byte_write_out m a i _ h (by simpa using hi)
  · intro m x i
    rfl

end Sys2Proof.Machine
end

