-- ==== Sys2Proof/Laws/Ecc.lean ====
section
/-!
SUPPORT. What the check code does where no upset stands: a read delivers what is held and changes nothing (06 R191).
-/
namespace Sys2Proof.Machine

open Sys2Proof

theorem State.settleWhere_clear {s : State} (h : s.upsets = []) (n : Nat) (p : Nat → Bool) : s.settleWhere n p = s := by
  unfold State.settleWhere
  rw [h]
  rfl

theorem State.settleRange_clear {s : State} (h : s.upsets = []) (n a len : Nat) : s.settleRange n a len = s :=
  s.settleWhere_clear h n _

theorem State.settlePiece_clear {s : State} (h : s.upsets = []) (x : Nat × Nat × Nat) : s.settlePiece x = s := by
  unfold State.settlePiece
  simp [h]

/-- A read of pieces in which no upset stands delivers the bytes held and leaves the state. -/
theorem State.takePieces_clear {s : State} (h : s.upsets = []) (xs : List (Nat × Nat × Nat)) :
    s.takePieces xs = (s.readPieces xs, s) := by
  have e : xs.foldl State.settlePiece s = s := by
    induction xs with
    | nil => rfl
    | cons x xs ih => rw [List.foldl_cons, State.settlePiece_clear h, ih]
  unfold State.takePieces
  simp only [e]

theorem State.settleSpad_clear {s : State} (h : s.spadUpsets = []) (core a len : Nat) : s.settleSpad core a len = s := by
  unfold State.settleSpad State.settleSpadWhere
  rw [h]
  rfl

/-- With no report waiting there is nothing to count. -/
theorem State.account_none {s : State} (h : s.ecc = []) : s.account = s := by
  unfold State.account
  simp [h]

end Sys2Proof.Machine
end

