-- ==== Sys2Proof/Laws/Mask.lean ====
section
/-!
SUPPORT. Masks: a state that agrees outside a mask agrees outside every larger one; each setter stays inside its bit;
a fold of steps that stay inside a mask stays inside it.
-/
namespace Sys2Proof.Machine

open Sys2Proof

theorem pick_mono {α : Type} {b c : Bool} (h : b = true → c = true) {d x y : α} (e : (if b then d else x) = if b then d else y) :
    (if c then d else x) = if c then d else y := by
  cases b <;> cases c <;> simp_all

/-- Agreement outside a mask is agreement outside every larger one. -/
theorem mask_mono {w v : Nat} (h : w &&& v = w) {s t : State} (e : s.mask w = t.mask w) : s.mask v = t.mask v := by
  have hb : ∀ i, w.testBit i = true → v.testBit i = true := by
    intro i hi
    rw [← h, Nat.testBit_and] at hi
    simp_all
  unfold State.mask
  congr 1
  · exact pick_mono (hb 0) (congrArg State.pending e)
  · exact pick_mono (hb 1) (congrArg State.free e)
  · exact pick_mono (hb 2) (congrArg State.out e)
  · exact pick_mono (hb 3) (congrArg State.time e)
  · exact pick_mono (hb 4) (congrArg State.tray e)
  · exact pick_mono (hb 5) (congrArg State.mode e)
  · exact pick_mono (hb 6) (congrArg State.idle e)
  · exact pick_mono (hb 7) (congrArg State.entry e)
  · exact pick_mono (hb 8) (congrArg State.leftMode e)
  · exact pick_mono (hb 9) (congrArg State.wakeHeld e)
  · exact pick_mono (hb 10) (congrArg State.westPrimary e)
  · exact pick_mono (hb 11) (congrArg State.noBoot e)
  · exact pick_mono (hb 12) (congrArg State.rst e)
  · exact pick_mono (hb 13) (congrArg State.cores e)
  · exact pick_mono (hb 14) (congrArg State.queues e)
  · exact pick_mono (hb 15) (congrArg State.queueZero e)
  · exact pick_mono (hb 16) (congrArg State.sems e)
  · exact pick_mono (hb 17) (congrArg State.semWait e)
  · exact pick_mono (hb 18) (congrArg State.dram e)
  · exact pick_mono (hb 19) (congrArg State.upsets e)
  · exact pick_mono (hb 20) (congrArg State.spadUpsets e)
  · exact pick_mono (hb 21) (congrArg State.ecc e)
  · exact pick_mono (hb 22) (congrArg State.modKey e)
  · exact pick_mono (hb 23) (congrArg State.rotation e)
  · exact pick_mono (hb 24) (congrArg State.migr e)
  · exact pick_mono (hb 25) (congrArg State.migrQueue e)
  · exact pick_mono (hb 26) (congrArg State.pageMaps e)
  · exact pick_mono (hb 27) (congrArg State.tlb e)
  · exact pick_mono (hb 28) (congrArg State.kvMaps e)
  · exact pick_mono (hb 29) (congrArg State.kvTlb e)
  · exact pick_mono (hb 30) (congrArg State.kvDirty e)
  · exact pick_mono (hb 31) (congrArg State.shared e)
  · exact pick_mono (hb 32) (congrArg State.withdrawn e)
  · exact pick_mono (hb 33) (congrArg State.modMem e)
  · exact pick_mono (hb 34) (congrArg State.parts e)
  · exact pick_mono (hb 35) (congrArg State.park e)
  · exact pick_mono (hb 36) (congrArg State.sess e)
  · exact pick_mono (hb 37) (congrArg State.emitted e)
  · exact pick_mono (hb 38) (congrArg State.grammars e)
  · exact pick_mono (hb 39) (congrArg State.adapters e)
  · exact pick_mono (hb 40) (congrArg State.adapterLast e)
  · exact pick_mono (hb 41) (congrArg State.video e)
  · exact pick_mono (hb 42) (congrArg State.fw e)
  · exact pick_mono (hb 43) (congrArg State.ryc e)
  · exact pick_mono (hb 44) (congrArg State.net e)
  · exact pick_mono (hb 45) (congrArg State.ev e)
  · exact pick_mono (hb 46) (congrArg State.rel e)
  · exact pick_mono (hb 47) (congrArg State.sec e)
  · exact pick_mono (hb 48) (congrArg State.pow e)
  · exact pick_mono (hb 49) (congrArg State.store e)
  · exact pick_mono (hb 50) (congrArg State.od e)
  · exact pick_mono (hb 51) (congrArg State.d2dFails e)

/-! ### Reading a field off a mask: a field that the mask does not name is the same -/

theorem keeps_pending {w : Nat} {s t : State} (e : t.mask w = s.mask w) (h : w.testBit 0 = false := by decide) : t.pending = s.pending := by
  simpa [State.mask, h] using congrArg State.pending e
theorem keeps_free {w : Nat} {s t : State} (e : t.mask w = s.mask w) (h : w.testBit 1 = false := by decide) : t.free = s.free := by
  simpa [State.mask, h] using congrArg State.free e
theorem keeps_out {w : Nat} {s t : State} (e : t.mask w = s.mask w) (h : w.testBit 2 = false := by decide) : t.out = s.out := by
  simpa [State.mask, h] using congrArg State.out e
theorem keeps_time {w : Nat} {s t : State} (e : t.mask w = s.mask w) (h : w.testBit 3 = false := by decide) : t.time = s.time := by
  simpa [State.mask, h] using congrArg State.time e
theorem keeps_tray {w : Nat} {s t : State} (e : t.mask w = s.mask w) (h : w.testBit 4 = false := by decide) : t.tray = s.tray := by
  simpa [State.mask, h] using congrArg State.tray e
theorem keeps_mode {w : Nat} {s t : State} (e : t.mask w = s.mask w) (h : w.testBit 5 = false := by decide) : t.mode = s.mode := by
  simpa [State.mask, h] using congrArg State.mode e
theorem keeps_idle {w : Nat} {s t : State} (e : t.mask w = s.mask w) (h : w.testBit 6 = false := by decide) : t.idle = s.idle := by
  simpa [State.mask, h] using congrArg State.idle e
theorem keeps_entry {w : Nat} {s t : State} (e : t.mask w = s.mask w) (h : w.testBit 7 = false := by decide) : t.entry = s.entry := by
  simpa [State.mask, h] using congrArg State.entry e
theorem keeps_leftMode {w : Nat} {s t : State} (e : t.mask w = s.mask w) (h : w.testBit 8 = false := by decide) : t.leftMode = s.leftMode := by
  simpa [State.mask, h] using congrArg State.leftMode e
theorem keeps_wakeHeld {w : Nat} {s t : State} (e : t.mask w = s.mask w) (h : w.testBit 9 = false := by decide) : t.wakeHeld = s.wakeHeld := by
  simpa [State.mask, h] using congrArg State.wakeHeld e
theorem keeps_westPrimary {w : Nat} {s t : State} (e : t.mask w = s.mask w) (h : w.testBit 10 = false := by decide) : t.westPrimary = s.westPrimary := by
  simpa [State.mask, h] using congrArg State.westPrimary e
theorem keeps_noBoot {w : Nat} {s t : State} (e : t.mask w = s.mask w) (h : w.testBit 11 = false := by decide) : t.noBoot = s.noBoot := by
  simpa [State.mask, h] using congrArg State.noBoot e
theorem keeps_rst {w : Nat} {s t : State} (e : t.mask w = s.mask w) (h : w.testBit 12 = false := by decide) : t.rst = s.rst := by
  simpa [State.mask, h] using congrArg State.rst e
theorem keeps_cores {w : Nat} {s t : State} (e : t.mask w = s.mask w) (h : w.testBit 13 = false := by decide) : t.cores = s.cores := by
  simpa [State.mask, h] using congrArg State.cores e
theorem keeps_queues {w : Nat} {s t : State} (e : t.mask w = s.mask w) (h : w.testBit 14 = false := by decide) : t.queues = s.queues := by
  simpa [State.mask, h] using congrArg State.queues e
theorem keeps_queueZero {w : Nat} {s t : State} (e : t.mask w = s.mask w) (h : w.testBit 15 = false := by decide) : t.queueZero = s.queueZero := by
  simpa [State.mask, h] using congrArg State.queueZero e
theorem keeps_sems {w : Nat} {s t : State} (e : t.mask w = s.mask w) (h : w.testBit 16 = false := by decide) : t.sems = s.sems := by
  simpa [State.mask, h] using congrArg State.sems e
theorem keeps_semWait {w : Nat} {s t : State} (e : t.mask w = s.mask w) (h : w.testBit 17 = false := by decide) : t.semWait = s.semWait := by
  simpa [State.mask, h] using congrArg State.semWait e
theorem keeps_dram {w : Nat} {s t : State} (e : t.mask w = s.mask w) (h : w.testBit 18 = false := by decide) : t.dram = s.dram := by
  simpa [State.mask, h] using congrArg State.dram e
theorem keeps_upsets {w : Nat} {s t : State} (e : t.mask w = s.mask w) (h : w.testBit 19 = false := by decide) : t.upsets = s.upsets := by
  simpa [State.mask, h] using congrArg State.upsets e
theorem keeps_spadUpsets {w : Nat} {s t : State} (e : t.mask w = s.mask w) (h : w.testBit 20 = false := by decide) : t.spadUpsets = s.spadUpsets := by
  simpa [State.mask, h] using congrArg State.spadUpsets e
theorem keeps_ecc {w : Nat} {s t : State} (e : t.mask w = s.mask w) (h : w.testBit 21 = false := by decide) : t.ecc = s.ecc := by
  simpa [State.mask, h] using congrArg State.ecc e
theorem keeps_modKey {w : Nat} {s t : State} (e : t.mask w = s.mask w) (h : w.testBit 22 = false := by decide) : t.modKey = s.modKey := by
  simpa [State.mask, h] using congrArg State.modKey e
theorem keeps_rotation {w : Nat} {s t : State} (e : t.mask w = s.mask w) (h : w.testBit 23 = false := by decide) : t.rotation = s.rotation := by
  simpa [State.mask, h] using congrArg State.rotation e
theorem keeps_migr {w : Nat} {s t : State} (e : t.mask w = s.mask w) (h : w.testBit 24 = false := by decide) : t.migr = s.migr := by
  simpa [State.mask, h] using congrArg State.migr e
theorem keeps_migrQueue {w : Nat} {s t : State} (e : t.mask w = s.mask w) (h : w.testBit 25 = false := by decide) : t.migrQueue = s.migrQueue := by
  simpa [State.mask, h] using congrArg State.migrQueue e
theorem keeps_pageMaps {w : Nat} {s t : State} (e : t.mask w = s.mask w) (h : w.testBit 26 = false := by decide) : t.pageMaps = s.pageMaps := by
  simpa [State.mask, h] using congrArg State.pageMaps e
theorem keeps_tlb {w : Nat} {s t : State} (e : t.mask w = s.mask w) (h : w.testBit 27 = false := by decide) : t.tlb = s.tlb := by
  simpa [State.mask, h] using congrArg State.tlb e
theorem keeps_kvMaps {w : Nat} {s t : State} (e : t.mask w = s.mask w) (h : w.testBit 28 = false := by decide) : t.kvMaps = s.kvMaps := by
  simpa [State.mask, h] using congrArg State.kvMaps e
theorem keeps_kvTlb {w : Nat} {s t : State} (e : t.mask w = s.mask w) (h : w.testBit 29 = false := by decide) : t.kvTlb = s.kvTlb := by
  simpa [State.mask, h] using congrArg State.kvTlb e
theorem keeps_kvDirty {w : Nat} {s t : State} (e : t.mask w = s.mask w) (h : w.testBit 30 = false := by decide) : t.kvDirty = s.kvDirty := by
  simpa [State.mask, h] using congrArg State.kvDirty e
theorem keeps_shared {w : Nat} {s t : State} (e : t.mask w = s.mask w) (h : w.testBit 31 = false := by decide) : t.shared = s.shared := by
  simpa [State.mask, h] using congrArg State.shared e
theorem keeps_withdrawn {w : Nat} {s t : State} (e : t.mask w = s.mask w) (h : w.testBit 32 = false := by decide) : t.withdrawn = s.withdrawn := by
  simpa [State.mask, h] using congrArg State.withdrawn e
theorem keeps_modMem {w : Nat} {s t : State} (e : t.mask w = s.mask w) (h : w.testBit 33 = false := by decide) : t.modMem = s.modMem := by
  simpa [State.mask, h] using congrArg State.modMem e
theorem keeps_parts {w : Nat} {s t : State} (e : t.mask w = s.mask w) (h : w.testBit 34 = false := by decide) : t.parts = s.parts := by
  simpa [State.mask, h] using congrArg State.parts e
theorem keeps_park {w : Nat} {s t : State} (e : t.mask w = s.mask w) (h : w.testBit 35 = false := by decide) : t.park = s.park := by
  simpa [State.mask, h] using congrArg State.park e
theorem keeps_sess {w : Nat} {s t : State} (e : t.mask w = s.mask w) (h : w.testBit 36 = false := by decide) : t.sess = s.sess := by
  simpa [State.mask, h] using congrArg State.sess e
theorem keeps_emitted {w : Nat} {s t : State} (e : t.mask w = s.mask w) (h : w.testBit 37 = false := by decide) : t.emitted = s.emitted := by
  simpa [State.mask, h] using congrArg State.emitted e
theorem keeps_grammars {w : Nat} {s t : State} (e : t.mask w = s.mask w) (h : w.testBit 38 = false := by decide) : t.grammars = s.grammars := by
  simpa [State.mask, h] using congrArg State.grammars e
theorem keeps_adapters {w : Nat} {s t : State} (e : t.mask w = s.mask w) (h : w.testBit 39 = false := by decide) : t.adapters = s.adapters := by
  simpa [State.mask, h] using congrArg State.adapters e
theorem keeps_adapterLast {w : Nat} {s t : State} (e : t.mask w = s.mask w) (h : w.testBit 40 = false := by decide) : t.adapterLast = s.adapterLast := by
  simpa [State.mask, h] using congrArg State.adapterLast e
theorem keeps_video {w : Nat} {s t : State} (e : t.mask w = s.mask w) (h : w.testBit 41 = false := by decide) : t.video = s.video := by
  simpa [State.mask, h] using congrArg State.video e
theorem keeps_fw {w : Nat} {s t : State} (e : t.mask w = s.mask w) (h : w.testBit 42 = false := by decide) : t.fw = s.fw := by
  simpa [State.mask, h] using congrArg State.fw e
theorem keeps_ryc {w : Nat} {s t : State} (e : t.mask w = s.mask w) (h : w.testBit 43 = false := by decide) : t.ryc = s.ryc := by
  simpa [State.mask, h] using congrArg State.ryc e
theorem keeps_net {w : Nat} {s t : State} (e : t.mask w = s.mask w) (h : w.testBit 44 = false := by decide) : t.net = s.net := by
  simpa [State.mask, h] using congrArg State.net e
theorem keeps_ev {w : Nat} {s t : State} (e : t.mask w = s.mask w) (h : w.testBit 45 = false := by decide) : t.ev = s.ev := by
  simpa [State.mask, h] using congrArg State.ev e
theorem keeps_rel {w : Nat} {s t : State} (e : t.mask w = s.mask w) (h : w.testBit 46 = false := by decide) : t.rel = s.rel := by
  simpa [State.mask, h] using congrArg State.rel e
theorem keeps_sec {w : Nat} {s t : State} (e : t.mask w = s.mask w) (h : w.testBit 47 = false := by decide) : t.sec = s.sec := by
  simpa [State.mask, h] using congrArg State.sec e
theorem keeps_pow {w : Nat} {s t : State} (e : t.mask w = s.mask w) (h : w.testBit 48 = false := by decide) : t.pow = s.pow := by
  simpa [State.mask, h] using congrArg State.pow e
theorem keeps_store {w : Nat} {s t : State} (e : t.mask w = s.mask w) (h : w.testBit 49 = false := by decide) : t.store = s.store := by
  simpa [State.mask, h] using congrArg State.store e
theorem keeps_od {w : Nat} {s t : State} (e : t.mask w = s.mask w) (h : w.testBit 50 = false := by decide) : t.od = s.od := by
  simpa [State.mask, h] using congrArg State.od e
theorem keeps_d2dFails {w : Nat} {s t : State} (e : t.mask w = s.mask w) (h : w.testBit 51 = false := by decide) : t.d2dFails = s.d2dFails := by
  simpa [State.mask, h] using congrArg State.d2dFails e

/-- A mask of both branches is the branches' masks. -/
theorem mask_ite (w : Nat) (c : Prop) [Decidable c] (a b : State) :
    (if c then a else b).mask w = if c then a.mask w else b.mask w := by
  split <;> rfl

theorem mask_ite_snd {α : Type} (w : Nat) (c : Prop) [Decidable c] (a b : α × State) :
    (if c then a else b).2.mask w = if c then a.2.mask w else b.2.mask w := by
  split <;> rfl

/-- A conditional agrees with a state outside a mask when both branches do. -/
theorem mask_ite_eq {w : Nat} {c : Prop} [Decidable c] {a b s : State} (ha : a.mask w = s.mask w) (hb : b.mask w = s.mask w) :
    (if c then a else b).mask w = s.mask w := by
  split <;> assumption

theorem mask_ite_snd_eq {α : Type} {w : Nat} {c : Prop} [Decidable c] {a b : α × State} {s : State} (ha : a.2.mask w = s.mask w)
    (hb : b.2.mask w = s.mask w) : (if c then a else b).2.mask w = s.mask w := by
  split <;> assumption

/-- A fold whose step stays inside a mask. -/
theorem mask_foldl {α : Type} {w : Nat} (g : State → α → State) (h : ∀ s x, (g s x).mask w = s.mask w) (xs : List α) (s : State) :
    (xs.foldl g s).mask w = s.mask w := by
  induction xs generalizing s with
  | nil => rfl
  | cons x xs ih => rw [List.foldl_cons, ih, h]

/-- A fold that carries a result beside the state. -/
theorem mask_foldl_snd {α β : Type} {w : Nat} (g : β × State → α → β × State) (h : ∀ a x, (g a x).2.mask w = a.2.mask w)
    (xs : List α) (a : β × State) : (xs.foldl g a).2.mask w = a.2.mask w := by
  induction xs generalizing a with
  | nil => rfl
  | cons x xs ih => rw [List.foldl_cons, ih, h]

theorem setPending_mask (s : State) (x : List Instr) {w : Nat} (h : w.testBit 0 = true) : (s.setPending x).mask w = s.mask w := by
  simp only [State.mask, State.setPending, h, if_true]
theorem setFree_mask (s : State) (x : Nat) {w : Nat} (h : w.testBit 1 = true) : (s.setFree x).mask w = s.mask w := by
  simp only [State.mask, State.setFree, h, if_true]
theorem setOut_mask (s : State) (x : List Output) {w : Nat} (h : w.testBit 2 = true) : (s.setOut x).mask w = s.mask w := by
  simp only [State.mask, State.setOut, h, if_true]
theorem setTime_mask (s : State) (x : Time) {w : Nat} (h : w.testBit 3 = true) : (s.setTime x).mask w = s.mask w := by
  simp only [State.mask, State.setTime, h, if_true]
theorem setTray_mask (s : State) (x : Tray) {w : Nat} (h : w.testBit 4 = true) : (s.setTray x).mask w = s.mask w := by
  simp only [State.mask, State.setTray, h, if_true]
theorem setMode_mask (s : State) (x : Mode) {w : Nat} (h : w.testBit 5 = true) : (s.setMode x).mask w = s.mask w := by
  simp only [State.mask, State.setMode, h, if_true]
theorem setIdle_mask (s : State) (x : Bool) {w : Nat} (h : w.testBit 6 = true) : (s.setIdle x).mask w = s.mask w := by
  simp only [State.mask, State.setIdle, h, if_true]
theorem setEntry_mask (s : State) (x : Option Entry) {w : Nat} (h : w.testBit 7 = true) : (s.setEntry x).mask w = s.mask w := by
  simp only [State.mask, State.setEntry, h, if_true]
theorem setLeftMode_mask (s : State) (x : Mode) {w : Nat} (h : w.testBit 8 = true) : (s.setLeftMode x).mask w = s.mask w := by
  simp only [State.mask, State.setLeftMode, h, if_true]
theorem setWakeHeld_mask (s : State) (x : Bool) {w : Nat} (h : w.testBit 9 = true) : (s.setWakeHeld x).mask w = s.mask w := by
  simp only [State.mask, State.setWakeHeld, h, if_true]
theorem setWestPrimary_mask (s : State) (x : Bool) {w : Nat} (h : w.testBit 10 = true) : (s.setWestPrimary x).mask w = s.mask w := by
  simp only [State.mask, State.setWestPrimary, h, if_true]
theorem setNoBoot_mask (s : State) (x : Bool) {w : Nat} (h : w.testBit 11 = true) : (s.setNoBoot x).mask w = s.mask w := by
  simp only [State.mask, State.setNoBoot, h, if_true]
theorem setRst_mask (s : State) (x : Rst) {w : Nat} (h : w.testBit 12 = true) : (s.setRst x).mask w = s.mask w := by
  simp only [State.mask, State.setRst, h, if_true]
theorem setCores_mask (s : State) (x : AMap Core) {w : Nat} (h : w.testBit 13 = true) : (s.setCores x).mask w = s.mask w := by
  simp only [State.mask, State.setCores, h, if_true]
theorem setQueues_mask (s : State) (x : AMap Queue) {w : Nat} (h : w.testBit 14 = true) : (s.setQueues x).mask w = s.mask w := by
  simp only [State.mask, State.setQueues, h, if_true]
theorem setQueueZero_mask (s : State) (x : List (Nat × Nat)) {w : Nat} (h : w.testBit 15 = true) : (s.setQueueZero x).mask w = s.mask w := by
  simp only [State.mask, State.setQueueZero, h, if_true]
theorem setSems_mask (s : State) (x : AMap Sem) {w : Nat} (h : w.testBit 16 = true) : (s.setSems x).mask w = s.mask w := by
  simp only [State.mask, State.setSems, h, if_true]
theorem setSemWait_mask (s : State) (x : List (Nat × Nat)) {w : Nat} (h : w.testBit 17 = true) : (s.setSemWait x).mask w = s.mask w := by
  simp only [State.mask, State.setSemWait, h, if_true]
theorem setDram_mask (s : State) (x : AMap Sub) {w : Nat} (h : w.testBit 18 = true) : (s.setDram x).mask w = s.mask w := by
  simp only [State.mask, State.setDram, h, if_true]
theorem setUpsets_mask (s : State) (x : AMap Nat) {w : Nat} (h : w.testBit 19 = true) : (s.setUpsets x).mask w = s.mask w := by
  simp only [State.mask, State.setUpsets, h, if_true]
theorem setSpadUpsets_mask (s : State) (x : AMap Nat) {w : Nat} (h : w.testBit 20 = true) : (s.setSpadUpsets x).mask w = s.mask w := by
  simp only [State.mask, State.setSpadUpsets, h, if_true]
theorem setEcc_mask (s : State) (x : List EccReport) {w : Nat} (h : w.testBit 21 = true) : (s.setEcc x).mask w = s.mask w := by
  simp only [State.mask, State.setEcc, h, if_true]
theorem setModKey_mask (s : State) (x : Nat) {w : Nat} (h : w.testBit 22 = true) : (s.setModKey x).mask w = s.mask w := by
  simp only [State.mask, State.setModKey, h, if_true]
theorem setRotation_mask (s : State) (x : List Nat × List Nat) {w : Nat} (h : w.testBit 23 = true) : (s.setRotation x).mask w = s.mask w := by
  simp only [State.mask, State.setRotation, h, if_true]
theorem setMigr_mask (s : State) (x : AMap Migr) {w : Nat} (h : w.testBit 24 = true) : (s.setMigr x).mask w = s.mask w := by
  simp only [State.mask, State.setMigr, h, if_true]
theorem setMigrQueue_mask (s : State) (x : List (Nat × Nat)) {w : Nat} (h : w.testBit 25 = true) : (s.setMigrQueue x).mask w = s.mask w := by
  simp only [State.mask, State.setMigrQueue, h, if_true]
theorem setPageMaps_mask (s : State) (x : AMap Nat) {w : Nat} (h : w.testBit 26 = true) : (s.setPageMaps x).mask w = s.mask w := by
  simp only [State.mask, State.setPageMaps, h, if_true]
theorem setTlb_mask (s : State) (x : AMap Nat) {w : Nat} (h : w.testBit 27 = true) : (s.setTlb x).mask w = s.mask w := by
  simp only [State.mask, State.setTlb, h, if_true]
theorem setKvMaps_mask (s : State) (x : AMap Nat) {w : Nat} (h : w.testBit 28 = true) : (s.setKvMaps x).mask w = s.mask w := by
  simp only [State.mask, State.setKvMaps, h, if_true]
theorem setKvTlb_mask (s : State) (x : AMap Nat) {w : Nat} (h : w.testBit 29 = true) : (s.setKvTlb x).mask w = s.mask w := by
  simp only [State.mask, State.setKvTlb, h, if_true]
theorem setKvDirty_mask (s : State) (x : List Nat) {w : Nat} (h : w.testBit 30 = true) : (s.setKvDirty x).mask w = s.mask w := by
  simp only [State.mask, State.setKvDirty, h, if_true]
theorem setShared_mask (s : State) (x : Mem) {w : Nat} (h : w.testBit 31 = true) : (s.setShared x).mask w = s.mask w := by
  simp only [State.mask, State.setShared, h, if_true]
theorem setWithdrawn_mask (s : State) (x : List Nat) {w : Nat} (h : w.testBit 32 = true) : (s.setWithdrawn x).mask w = s.mask w := by
  simp only [State.mask, State.setWithdrawn, h, if_true]
theorem setModMem_mask (s : State) (x : AMap Mem) {w : Nat} (h : w.testBit 33 = true) : (s.setModMem x).mask w = s.mask w := by
  simp only [State.mask, State.setModMem, h, if_true]
theorem setParts_mask (s : State) (x : AMap Part) {w : Nat} (h : w.testBit 34 = true) : (s.setParts x).mask w = s.mask w := by
  simp only [State.mask, State.setParts, h, if_true]
theorem setPark_mask (s : State) (x : Park) {w : Nat} (h : w.testBit 35 = true) : (s.setPark x).mask w = s.mask w := by
  simp only [State.mask, State.setPark, h, if_true]
theorem setSess_mask (s : State) (x : AMap Session) {w : Nat} (h : w.testBit 36 = true) : (s.setSess x).mask w = s.mask w := by
  simp only [State.mask, State.setSess, h, if_true]
theorem setEmitted_mask (s : State) (x : List (Nat × Nat × Nat)) {w : Nat} (h : w.testBit 37 = true) : (s.setEmitted x).mask w = s.mask w := by
  simp only [State.mask, State.setEmitted, h, if_true]
theorem setGrammars_mask (s : State) (x : AMap Grammar) {w : Nat} (h : w.testBit 38 = true) : (s.setGrammars x).mask w = s.mask w := by
  simp only [State.mask, State.setGrammars, h, if_true]
theorem setAdapters_mask (s : State) (x : List Adapter) {w : Nat} (h : w.testBit 39 = true) : (s.setAdapters x).mask w = s.mask w := by
  simp only [State.mask, State.setAdapters, h, if_true]
theorem setAdapterLast_mask (s : State) (x : AMap Nat) {w : Nat} (h : w.testBit 40 = true) : (s.setAdapterLast x).mask w = s.mask w := by
  simp only [State.mask, State.setAdapterLast, h, if_true]
theorem setVideo_mask (s : State) (x : AMap VEngine) {w : Nat} (h : w.testBit 41 = true) : (s.setVideo x).mask w = s.mask w := by
  simp only [State.mask, State.setVideo, h, if_true]
theorem setFw_mask (s : State) (x : Fw) {w : Nat} (h : w.testBit 42 = true) : (s.setFw x).mask w = s.mask w := by
  simp only [State.mask, State.setFw, h, if_true]
theorem setRyc_mask (s : State) (x : Ryc) {w : Nat} (h : w.testBit 43 = true) : (s.setRyc x).mask w = s.mask w := by
  simp only [State.mask, State.setRyc, h, if_true]
theorem setNet_mask (s : State) (x : Net) {w : Nat} (h : w.testBit 44 = true) : (s.setNet x).mask w = s.mask w := by
  simp only [State.mask, State.setNet, h, if_true]
theorem setEv_mask (s : State) (x : Ev) {w : Nat} (h : w.testBit 45 = true) : (s.setEv x).mask w = s.mask w := by
  simp only [State.mask, State.setEv, h, if_true]
theorem setRel_mask (s : State) (x : Rel) {w : Nat} (h : w.testBit 46 = true) : (s.setRel x).mask w = s.mask w := by
  simp only [State.mask, State.setRel, h, if_true]
theorem setSec_mask (s : State) (x : Sec) {w : Nat} (h : w.testBit 47 = true) : (s.setSec x).mask w = s.mask w := by
  simp only [State.mask, State.setSec, h, if_true]
theorem setPow_mask (s : State) (x : Pow) {w : Nat} (h : w.testBit 48 = true) : (s.setPow x).mask w = s.mask w := by
  simp only [State.mask, State.setPow, h, if_true]
theorem setStore_mask (s : State) (x : Store) {w : Nat} (h : w.testBit 49 = true) : (s.setStore x).mask w = s.mask w := by
  simp only [State.mask, State.setStore, h, if_true]
theorem setOd_mask (s : State) (x : AMap Nat) {w : Nat} (h : w.testBit 50 = true) : (s.setOd x).mask w = s.mask w := by
  simp only [State.mask, State.setOd, h, if_true]
theorem setD2dFails_mask (s : State) (x : Nat × Nat) {w : Nat} (h : w.testBit 51 = true) : (s.setD2dFails x).mask w = s.mask w := by
  simp only [State.mask, State.setD2dFails, h, if_true]

end Sys2Proof.Machine
end

