-- ==== Sys2Proof/Laws/Frame/Ops.lean ====
section
/-!
SUPPORT. Frames of Machine/Ops.lean: the fields that each function may change, as a mask.
-/
namespace Sys2Proof.Machine

open Sys2Proof

set_option linter.unusedSimpArgs false

theorem State.putCore_mask (s : State) (n : Nat) (c : Core) {m0 : Nat} (hw : 8192 &&& m0 = 8192) :
    (State.putCore s n c).mask m0 = s.mask m0 := by
  refine mask_mono hw ?_
  unfold State.putCore
  repeat' first
    | with_reducible rfl
    | with_reducible refine mask_ite_eq ?_ ?_
    | with_reducible refine mask_ite_snd_eq ?_ ?_
    | (simp (disch := decide) only [setCores_mask, mask_ite, mask_ite_snd, ite_self]; done)
    | dsimp only
    | (with_reducible refine mask_foldl _ (fun s x => ?_) _ _)
    | (with_reducible refine mask_foldl_snd _ (fun s x => ?_) _ _)
    | (with_reducible refine (mask_foldl _ (fun s x => ?_) _ _).trans ?_)
    | (split <;> try (rename_i e; have e2 := congrArg Prod.snd e; dsimp only at e2; subst e2))
    | (simp (disch := decide) only [setCores_mask, mask_ite, mask_ite_snd, ite_self])

theorem State.updCore_mask (s : State) (n : Nat) (f : Core → Core) {m0 : Nat} (hw : 8192 &&& m0 = 8192) :
    (State.updCore s n f).mask m0 = s.mask m0 := by
  refine mask_mono hw ?_
  unfold State.updCore
  repeat' first
    | with_reducible rfl
    | with_reducible refine mask_ite_eq ?_ ?_
    | with_reducible refine mask_ite_snd_eq ?_ ?_
    | (simp (disch := decide) only [State.putCore_mask, mask_ite, mask_ite_snd, ite_self]; done)
    | dsimp only
    | (with_reducible refine mask_foldl _ (fun s x => ?_) _ _)
    | (with_reducible refine mask_foldl_snd _ (fun s x => ?_) _ _)
    | (with_reducible refine (mask_foldl _ (fun s x => ?_) _ _).trans ?_)
    | (split <;> try (rename_i e; have e2 := congrArg Prod.snd e; dsimp only at e2; subst e2))
    | (simp (disch := decide) only [State.putCore_mask, mask_ite, mask_ite_snd, ite_self])

theorem State.putQueue_mask (s : State) (q : Nat) (x : Queue) {m0 : Nat} (hw : 16384 &&& m0 = 16384) :
    (State.putQueue s q x).mask m0 = s.mask m0 := by
  refine mask_mono hw ?_
  unfold State.putQueue
  repeat' first
    | with_reducible rfl
    | with_reducible refine mask_ite_eq ?_ ?_
    | with_reducible refine mask_ite_snd_eq ?_ ?_
    | (simp (disch := decide) only [setQueues_mask, mask_ite, mask_ite_snd, ite_self]; done)
    | dsimp only
    | (with_reducible refine mask_foldl _ (fun s x => ?_) _ _)
    | (with_reducible refine mask_foldl_snd _ (fun s x => ?_) _ _)
    | (with_reducible refine (mask_foldl _ (fun s x => ?_) _ _).trans ?_)
    | (split <;> try (rename_i e; have e2 := congrArg Prod.snd e; dsimp only at e2; subst e2))
    | (simp (disch := decide) only [setQueues_mask, mask_ite, mask_ite_snd, ite_self])

theorem State.updQueue_mask (s : State) (q : Nat) (f : Queue → Queue) {m0 : Nat} (hw : 16384 &&& m0 = 16384) :
    (State.updQueue s q f).mask m0 = s.mask m0 := by
  refine mask_mono hw ?_
  unfold State.updQueue
  repeat' first
    | with_reducible rfl
    | with_reducible refine mask_ite_eq ?_ ?_
    | with_reducible refine mask_ite_snd_eq ?_ ?_
    | (simp (disch := decide) only [State.putQueue_mask, mask_ite, mask_ite_snd, ite_self]; done)
    | dsimp only
    | (with_reducible refine mask_foldl _ (fun s x => ?_) _ _)
    | (with_reducible refine mask_foldl_snd _ (fun s x => ?_) _ _)
    | (with_reducible refine (mask_foldl _ (fun s x => ?_) _ _).trans ?_)
    | (split <;> try (rename_i e; have e2 := congrArg Prod.snd e; dsimp only at e2; subst e2))
    | (simp (disch := decide) only [State.putQueue_mask, mask_ite, mask_ite_snd, ite_self])

theorem State.putSub_mask (s : State) (n : Nat) (x : Sub) {m0 : Nat} (hw : 262144 &&& m0 = 262144) :
    (State.putSub s n x).mask m0 = s.mask m0 := by
  refine mask_mono hw ?_
  unfold State.putSub
  repeat' first
    | with_reducible rfl
    | with_reducible refine mask_ite_eq ?_ ?_
    | with_reducible refine mask_ite_snd_eq ?_ ?_
    | (simp (disch := decide) only [setDram_mask, mask_ite, mask_ite_snd, ite_self]; done)
    | dsimp only
    | (with_reducible refine mask_foldl _ (fun s x => ?_) _ _)
    | (with_reducible refine mask_foldl_snd _ (fun s x => ?_) _ _)
    | (with_reducible refine (mask_foldl _ (fun s x => ?_) _ _).trans ?_)
    | (split <;> try (rename_i e; have e2 := congrArg Prod.snd e; dsimp only at e2; subst e2))
    | (simp (disch := decide) only [setDram_mask, mask_ite, mask_ite_snd, ite_self])

theorem State.updSub_mask (s : State) (n : Nat) (f : Sub → Sub) {m0 : Nat} (hw : 262144 &&& m0 = 262144) :
    (State.updSub s n f).mask m0 = s.mask m0 := by
  refine mask_mono hw ?_
  unfold State.updSub
  repeat' first
    | with_reducible rfl
    | with_reducible refine mask_ite_eq ?_ ?_
    | with_reducible refine mask_ite_snd_eq ?_ ?_
    | (simp (disch := decide) only [State.putSub_mask, mask_ite, mask_ite_snd, ite_self]; done)
    | dsimp only
    | (with_reducible refine mask_foldl _ (fun s x => ?_) _ _)
    | (with_reducible refine mask_foldl_snd _ (fun s x => ?_) _ _)
    | (with_reducible refine (mask_foldl _ (fun s x => ?_) _ _).trans ?_)
    | (split <;> try (rename_i e; have e2 := congrArg Prod.snd e; dsimp only at e2; subst e2))
    | (simp (disch := decide) only [State.putSub_mask, mask_ite, mask_ite_snd, ite_self])

theorem State.putPart_mask (s : State) (p : Nat) (x : Part) {m0 : Nat} (hw : 17179869184 &&& m0 = 17179869184) :
    (State.putPart s p x).mask m0 = s.mask m0 := by
  refine mask_mono hw ?_
  unfold State.putPart
  repeat' first
    | with_reducible rfl
    | with_reducible refine mask_ite_eq ?_ ?_
    | with_reducible refine mask_ite_snd_eq ?_ ?_
    | (simp (disch := decide) only [setParts_mask, mask_ite, mask_ite_snd, ite_self]; done)
    | dsimp only
    | (with_reducible refine mask_foldl _ (fun s x => ?_) _ _)
    | (with_reducible refine mask_foldl_snd _ (fun s x => ?_) _ _)
    | (with_reducible refine (mask_foldl _ (fun s x => ?_) _ _).trans ?_)
    | (split <;> try (rename_i e; have e2 := congrArg Prod.snd e; dsimp only at e2; subst e2))
    | (simp (disch := decide) only [setParts_mask, mask_ite, mask_ite_snd, ite_self])

theorem State.updPart_mask (s : State) (p : Nat) (f : Part → Part) {m0 : Nat} (hw : 17179869184 &&& m0 = 17179869184) :
    (State.updPart s p f).mask m0 = s.mask m0 := by
  refine mask_mono hw ?_
  unfold State.updPart
  repeat' first
    | with_reducible rfl
    | with_reducible refine mask_ite_eq ?_ ?_
    | with_reducible refine mask_ite_snd_eq ?_ ?_
    | (simp (disch := decide) only [State.putPart_mask, mask_ite, mask_ite_snd, ite_self]; done)
    | dsimp only
    | (with_reducible refine mask_foldl _ (fun s x => ?_) _ _)
    | (with_reducible refine mask_foldl_snd _ (fun s x => ?_) _ _)
    | (with_reducible refine (mask_foldl _ (fun s x => ?_) _ _).trans ?_)
    | (split <;> try (rename_i e; have e2 := congrArg Prod.snd e; dsimp only at e2; subst e2))
    | (simp (disch := decide) only [State.putPart_mask, mask_ite, mask_ite_snd, ite_self])

theorem State.putSem_mask (s : State) (n : Nat) (x : Sem) {m0 : Nat} (hw : 65536 &&& m0 = 65536) :
    (State.putSem s n x).mask m0 = s.mask m0 := by
  refine mask_mono hw ?_
  unfold State.putSem
  repeat' first
    | with_reducible rfl
    | with_reducible refine mask_ite_eq ?_ ?_
    | with_reducible refine mask_ite_snd_eq ?_ ?_
    | (simp (disch := decide) only [setSems_mask, mask_ite, mask_ite_snd, ite_self]; done)
    | dsimp only
    | (with_reducible refine mask_foldl _ (fun s x => ?_) _ _)
    | (with_reducible refine mask_foldl_snd _ (fun s x => ?_) _ _)
    | (with_reducible refine (mask_foldl _ (fun s x => ?_) _ _).trans ?_)
    | (split <;> try (rename_i e; have e2 := congrArg Prod.snd e; dsimp only at e2; subst e2))
    | (simp (disch := decide) only [setSems_mask, mask_ite, mask_ite_snd, ite_self])

theorem State.putEngine_mask (s : State) (e : Nat) (x : VEngine) {m0 : Nat} (hw : 2199023255552 &&& m0 = 2199023255552) :
    (State.putEngine s e x).mask m0 = s.mask m0 := by
  refine mask_mono hw ?_
  unfold State.putEngine
  repeat' first
    | with_reducible rfl
    | with_reducible refine mask_ite_eq ?_ ?_
    | with_reducible refine mask_ite_snd_eq ?_ ?_
    | (simp (disch := decide) only [setVideo_mask, mask_ite, mask_ite_snd, ite_self]; done)
    | dsimp only
    | (with_reducible refine mask_foldl _ (fun s x => ?_) _ _)
    | (with_reducible refine mask_foldl_snd _ (fun s x => ?_) _ _)
    | (with_reducible refine (mask_foldl _ (fun s x => ?_) _ _).trans ?_)
    | (split <;> try (rename_i e; have e2 := congrArg Prod.snd e; dsimp only at e2; subst e2))
    | (simp (disch := decide) only [setVideo_mask, mask_ite, mask_ite_snd, ite_self])

theorem State.putSession_mask (s : State) (n : Nat) (x : Session) {m0 : Nat} (hw : 68719476736 &&& m0 = 68719476736) :
    (State.putSession s n x).mask m0 = s.mask m0 := by
  refine mask_mono hw ?_
  unfold State.putSession
  repeat' first
    | with_reducible rfl
    | with_reducible refine mask_ite_eq ?_ ?_
    | with_reducible refine mask_ite_snd_eq ?_ ?_
    | (simp (disch := decide) only [setSess_mask, mask_ite, mask_ite_snd, ite_self]; done)
    | dsimp only
    | (with_reducible refine mask_foldl _ (fun s x => ?_) _ _)
    | (with_reducible refine mask_foldl_snd _ (fun s x => ?_) _ _)
    | (with_reducible refine (mask_foldl _ (fun s x => ?_) _ _).trans ?_)
    | (split <;> try (rename_i e; have e2 := congrArg Prod.snd e; dsimp only at e2; subst e2))
    | (simp (disch := decide) only [setSess_mask, mask_ite, mask_ite_snd, ite_self])

theorem State.putMbx_mask (s : State) (die m : Nat) (x : Mbx) {m0 : Nat} (hw : 4398046511104 &&& m0 = 4398046511104) :
    (State.putMbx s die m x).mask m0 = s.mask m0 := by
  refine mask_mono hw ?_
  unfold State.putMbx
  repeat' first
    | with_reducible rfl
    | with_reducible refine mask_ite_eq ?_ ?_
    | with_reducible refine mask_ite_snd_eq ?_ ?_
    | (simp (disch := decide) only [setFw_mask, mask_ite, mask_ite_snd, ite_self]; done)
    | dsimp only
    | (with_reducible refine mask_foldl _ (fun s x => ?_) _ _)
    | (with_reducible refine mask_foldl_snd _ (fun s x => ?_) _ _)
    | (with_reducible refine (mask_foldl _ (fun s x => ?_) _ _).trans ?_)
    | (split <;> try (rename_i e; have e2 := congrArg Prod.snd e; dsimp only at e2; subst e2))
    | (simp (disch := decide) only [setFw_mask, mask_ite, mask_ite_snd, ite_self])

theorem State.putComp_mask (s : State) (die c : Nat) (x : Comp) {m0 : Nat} (hw : 4398046511104 &&& m0 = 4398046511104) :
    (State.putComp s die c x).mask m0 = s.mask m0 := by
  refine mask_mono hw ?_
  unfold State.putComp
  repeat' first
    | with_reducible rfl
    | with_reducible refine mask_ite_eq ?_ ?_
    | with_reducible refine mask_ite_snd_eq ?_ ?_
    | (simp (disch := decide) only [setFw_mask, mask_ite, mask_ite_snd, ite_self]; done)
    | dsimp only
    | (with_reducible refine mask_foldl _ (fun s x => ?_) _ _)
    | (with_reducible refine mask_foldl_snd _ (fun s x => ?_) _ _)
    | (with_reducible refine (mask_foldl _ (fun s x => ?_) _ _).trans ?_)
    | (split <;> try (rename_i e; have e2 := congrArg Prod.snd e; dsimp only at e2; subst e2))
    | (simp (disch := decide) only [setFw_mask, mask_ite, mask_ite_snd, ite_self])

theorem State.putRsess_mask (s : State) (j : Nat) (x : RSess) {m0 : Nat} (hw : 8796093022208 &&& m0 = 8796093022208) :
    (State.putRsess s j x).mask m0 = s.mask m0 := by
  refine mask_mono hw ?_
  unfold State.putRsess
  repeat' first
    | with_reducible rfl
    | with_reducible refine mask_ite_eq ?_ ?_
    | with_reducible refine mask_ite_snd_eq ?_ ?_
    | (simp (disch := decide) only [setRyc_mask, mask_ite, mask_ite_snd, ite_self]; done)
    | dsimp only
    | (with_reducible refine mask_foldl _ (fun s x => ?_) _ _)
    | (with_reducible refine mask_foldl_snd _ (fun s x => ?_) _ _)
    | (with_reducible refine (mask_foldl _ (fun s x => ?_) _ _).trans ?_)
    | (split <;> try (rename_i e; have e2 := congrArg Prod.snd e; dsimp only at e2; subst e2))
    | (simp (disch := decide) only [setRyc_mask, mask_ite, mask_ite_snd, ite_self])

theorem State.putPort_mask (s : State) (p : Nat) (x : Port) {m0 : Nat} (hw : 17592186044416 &&& m0 = 17592186044416) :
    (State.putPort s p x).mask m0 = s.mask m0 := by
  refine mask_mono hw ?_
  unfold State.putPort
  repeat' first
    | with_reducible rfl
    | with_reducible refine mask_ite_eq ?_ ?_
    | with_reducible refine mask_ite_snd_eq ?_ ?_
    | (simp (disch := decide) only [setNet_mask, mask_ite, mask_ite_snd, ite_self]; done)
    | dsimp only
    | (with_reducible refine mask_foldl _ (fun s x => ?_) _ _)
    | (with_reducible refine mask_foldl_snd _ (fun s x => ?_) _ _)
    | (with_reducible refine (mask_foldl _ (fun s x => ?_) _ _).trans ?_)
    | (split <;> try (rename_i e; have e2 := congrArg Prod.snd e; dsimp only at e2; subst e2))
    | (simp (disch := decide) only [setNet_mask, mask_ite, mask_ite_snd, ite_self])

theorem State.putLink_mask (s : State) (l : Nat) (x : Link) {m0 : Nat} (hw : 17592186044416 &&& m0 = 17592186044416) :
    (State.putLink s l x).mask m0 = s.mask m0 := by
  refine mask_mono hw ?_
  unfold State.putLink
  repeat' first
    | with_reducible rfl
    | with_reducible refine mask_ite_eq ?_ ?_
    | with_reducible refine mask_ite_snd_eq ?_ ?_
    | (simp (disch := decide) only [setNet_mask, mask_ite, mask_ite_snd, ite_self]; done)
    | dsimp only
    | (with_reducible refine mask_foldl _ (fun s x => ?_) _ _)
    | (with_reducible refine mask_foldl_snd _ (fun s x => ?_) _ _)
    | (with_reducible refine (mask_foldl _ (fun s x => ?_) _ _).trans ?_)
    | (split <;> try (rename_i e; have e2 := congrArg Prod.snd e; dsimp only at e2; subst e2))
    | (simp (disch := decide) only [setNet_mask, mask_ite, mask_ite_snd, ite_self])

theorem State.putSource_mask (s : State) (die n : Nat) (x : Source) {m0 : Nat} (hw : 35184372088832 &&& m0 = 35184372088832) :
    (State.putSource s die n x).mask m0 = s.mask m0 := by
  refine mask_mono hw ?_
  unfold State.putSource
  repeat' first
    | with_reducible rfl
    | with_reducible refine mask_ite_eq ?_ ?_
    | with_reducible refine mask_ite_snd_eq ?_ ?_
    | (simp (disch := decide) only [setEv_mask, mask_ite, mask_ite_snd, ite_self]; done)
    | dsimp only
    | (with_reducible refine mask_foldl _ (fun s x => ?_) _ _)
    | (with_reducible refine mask_foldl_snd _ (fun s x => ?_) _ _)
    | (with_reducible refine (mask_foldl _ (fun s x => ?_) _ _).trans ?_)
    | (split <;> try (rename_i e; have e2 := congrArg Prod.snd e; dsimp only at e2; subst e2))
    | (simp (disch := decide) only [setEv_mask, mask_ite, mask_ite_snd, ite_self])

theorem State.putIrq_mask (s : State) (c : Nat) (x : Irq) {m0 : Nat} (hw : 35184372088832 &&& m0 = 35184372088832) :
    (State.putIrq s c x).mask m0 = s.mask m0 := by
  refine mask_mono hw ?_
  unfold State.putIrq
  repeat' first
    | with_reducible rfl
    | with_reducible refine mask_ite_eq ?_ ?_
    | with_reducible refine mask_ite_snd_eq ?_ ?_
    | (simp (disch := decide) only [setEv_mask, mask_ite, mask_ite_snd, ite_self]; done)
    | dsimp only
    | (with_reducible refine mask_foldl _ (fun s x => ?_) _ _)
    | (with_reducible refine mask_foldl_snd _ (fun s x => ?_) _ _)
    | (with_reducible refine (mask_foldl _ (fun s x => ?_) _ _).trans ?_)
    | (split <;> try (rename_i e; have e2 := congrArg Prod.snd e; dsimp only at e2; subst e2))
    | (simp (disch := decide) only [setEv_mask, mask_ite, mask_ite_snd, ite_self])

theorem State.putCtr_mask (s : State) (c : Nat) (x : Ctr) {m0 : Nat} (hw : 35184372088832 &&& m0 = 35184372088832) :
    (State.putCtr s c x).mask m0 = s.mask m0 := by
  refine mask_mono hw ?_
  unfold State.putCtr
  repeat' first
    | with_reducible rfl
    | with_reducible refine mask_ite_eq ?_ ?_
    | with_reducible refine mask_ite_snd_eq ?_ ?_
    | (simp (disch := decide) only [setEv_mask, mask_ite, mask_ite_snd, ite_self]; done)
    | dsimp only
    | (with_reducible refine mask_foldl _ (fun s x => ?_) _ _)
    | (with_reducible refine mask_foldl_snd _ (fun s x => ?_) _ _)
    | (with_reducible refine (mask_foldl _ (fun s x => ?_) _ _).trans ?_)
    | (split <;> try (rename_i e; have e2 := congrArg Prod.snd e; dsimp only at e2; subst e2))
    | (simp (disch := decide) only [setEv_mask, mask_ite, mask_ite_snd, ite_self])

theorem State.putTrig_mask (s : State) (t : Nat) (x : Trig) {m0 : Nat} (hw : 281474976710656 &&& m0 = 281474976710656) :
    (State.putTrig s t x).mask m0 = s.mask m0 := by
  refine mask_mono hw ?_
  unfold State.putTrig
  repeat' first
    | with_reducible rfl
    | with_reducible refine mask_ite_eq ?_ ?_
    | with_reducible refine mask_ite_snd_eq ?_ ?_
    | (simp (disch := decide) only [setPow_mask, mask_ite, mask_ite_snd, ite_self]; done)
    | dsimp only
    | (with_reducible refine mask_foldl _ (fun s x => ?_) _ _)
    | (with_reducible refine mask_foldl_snd _ (fun s x => ?_) _ _)
    | (with_reducible refine (mask_foldl _ (fun s x => ?_) _ _).trans ?_)
    | (split <;> try (rename_i e; have e2 := congrArg Prod.snd e; dsimp only at e2; subst e2))
    | (simp (disch := decide) only [setPow_mask, mask_ite, mask_ite_snd, ite_self])

theorem State.putBundle_mask (s : State) (b : Nat) (x : Bundle) {m0 : Nat} (hw : 70368744177664 &&& m0 = 70368744177664) :
    (State.putBundle s b x).mask m0 = s.mask m0 := by
  refine mask_mono hw ?_
  unfold State.putBundle
  repeat' first
    | with_reducible rfl
    | with_reducible refine mask_ite_eq ?_ ?_
    | with_reducible refine mask_ite_snd_eq ?_ ?_
    | (simp (disch := decide) only [setRel_mask, mask_ite, mask_ite_snd, ite_self]; done)
    | dsimp only
    | (with_reducible refine mask_foldl _ (fun s x => ?_) _ _)
    | (with_reducible refine mask_foldl_snd _ (fun s x => ?_) _ _)
    | (with_reducible refine (mask_foldl _ (fun s x => ?_) _ _).trans ?_)
    | (split <;> try (rename_i e; have e2 := congrArg Prod.snd e; dsimp only at e2; subst e2))
    | (simp (disch := decide) only [setRel_mask, mask_ite, mask_ite_snd, ite_self])

theorem State.drawNat_mask (s : State) {m0 : Nat} (hw : 2 &&& m0 = 2) :
    (State.drawNat s).2.mask m0 = s.mask m0 := by
  refine mask_mono hw ?_
  unfold State.drawNat
  repeat' first
    | with_reducible rfl
    | with_reducible refine mask_ite_eq ?_ ?_
    | with_reducible refine mask_ite_snd_eq ?_ ?_
    | (simp (disch := decide) only [setFree_mask, mask_ite, mask_ite_snd, ite_self]; done)
    | dsimp only
    | (with_reducible refine mask_foldl _ (fun s x => ?_) _ _)
    | (with_reducible refine mask_foldl_snd _ (fun s x => ?_) _ _)
    | (with_reducible refine (mask_foldl _ (fun s x => ?_) _ _).trans ?_)
    | (split <;> try (rename_i e; have e2 := congrArg Prod.snd e; dsimp only at e2; subst e2))
    | (simp (disch := decide) only [setFree_mask, mask_ite, mask_ite_snd, ite_self])

theorem State.drawBool_mask (s : State) {m0 : Nat} (hw : 2 &&& m0 = 2) :
    (State.drawBool s).2.mask m0 = s.mask m0 := by
  refine mask_mono hw ?_
  unfold State.drawBool
  repeat' first
    | with_reducible rfl
    | with_reducible refine mask_ite_eq ?_ ?_
    | with_reducible refine mask_ite_snd_eq ?_ ?_
    | (simp (disch := decide) only [setFree_mask, mask_ite, mask_ite_snd, ite_self]; done)
    | dsimp only
    | (with_reducible refine mask_foldl _ (fun s x => ?_) _ _)
    | (with_reducible refine mask_foldl_snd _ (fun s x => ?_) _ _)
    | (with_reducible refine (mask_foldl _ (fun s x => ?_) _ _).trans ?_)
    | (split <;> try (rename_i e; have e2 := congrArg Prod.snd e; dsimp only at e2; subst e2))
    | (simp (disch := decide) only [setFree_mask, mask_ite, mask_ite_snd, ite_self])

theorem State.drawIn_mask (s : State) (lo hi : Nat) {m0 : Nat} (hw : 2 &&& m0 = 2) :
    (State.drawIn s lo hi).2.mask m0 = s.mask m0 := by
  refine mask_mono hw ?_
  unfold State.drawIn
  repeat' first
    | with_reducible rfl
    | with_reducible refine mask_ite_eq ?_ ?_
    | with_reducible refine mask_ite_snd_eq ?_ ?_
    | (simp (disch := decide) only [State.drawNat_mask, mask_ite, mask_ite_snd, ite_self]; done)
    | dsimp only
    | (with_reducible refine mask_foldl _ (fun s x => ?_) _ _)
    | (with_reducible refine mask_foldl_snd _ (fun s x => ?_) _ _)
    | (with_reducible refine (mask_foldl _ (fun s x => ?_) _ _).trans ?_)
    | (split <;> try (rename_i e; have e2 := congrArg Prod.snd e; dsimp only at e2; subst e2))
    | (simp (disch := decide) only [State.drawNat_mask, mask_ite, mask_ite_snd, ite_self])

theorem State.drawInt_mask (s : State) {m0 : Nat} (hw : 2 &&& m0 = 2) :
    (State.drawInt s).2.mask m0 = s.mask m0 := by
  refine mask_mono hw ?_
  unfold State.drawInt
  repeat' first
    | with_reducible rfl
    | with_reducible refine mask_ite_eq ?_ ?_
    | with_reducible refine mask_ite_snd_eq ?_ ?_
    | (simp (disch := decide) only [State.drawBool_mask, State.drawNat_mask, mask_ite, mask_ite_snd, ite_self]; done)
    | dsimp only
    | (with_reducible refine mask_foldl _ (fun s x => ?_) _ _)
    | (with_reducible refine mask_foldl_snd _ (fun s x => ?_) _ _)
    | (with_reducible refine (mask_foldl _ (fun s x => ?_) _ _).trans ?_)
    | (split <;> try (rename_i e; have e2 := congrArg Prod.snd e; dsimp only at e2; subst e2))
    | (simp (disch := decide) only [State.drawBool_mask, State.drawNat_mask, mask_ite, mask_ite_snd, ite_self])

theorem State.emit_mask (s : State) (o : Output) {m0 : Nat} (hw : 4 &&& m0 = 4) :
    (State.emit s o).mask m0 = s.mask m0 := by
  refine mask_mono hw ?_
  unfold State.emit
  repeat' first
    | with_reducible rfl
    | with_reducible refine mask_ite_eq ?_ ?_
    | with_reducible refine mask_ite_snd_eq ?_ ?_
    | (simp (disch := decide) only [setOut_mask, mask_ite, mask_ite_snd, ite_self]; done)
    | dsimp only
    | (with_reducible refine mask_foldl _ (fun s x => ?_) _ _)
    | (with_reducible refine mask_foldl_snd _ (fun s x => ?_) _ _)
    | (with_reducible refine (mask_foldl _ (fun s x => ?_) _ _).trans ?_)
    | (split <;> try (rename_i e; have e2 := congrArg Prod.snd e; dsimp only at e2; subst e2))
    | (simp (disch := decide) only [setOut_mask, mask_ite, mask_ite_snd, ite_self])

theorem State.odSet_mask (s : State) (index sub v : Nat) {m0 : Nat} (hw : 1125899906842624 &&& m0 = 1125899906842624) :
    (State.odSet s index sub v).mask m0 = s.mask m0 := by
  refine mask_mono hw ?_
  unfold State.odSet
  repeat' first
    | with_reducible rfl
    | with_reducible refine mask_ite_eq ?_ ?_
    | with_reducible refine mask_ite_snd_eq ?_ ?_
    | (simp (disch := decide) only [setOd_mask, mask_ite, mask_ite_snd, ite_self]; done)
    | dsimp only
    | (with_reducible refine mask_foldl _ (fun s x => ?_) _ _)
    | (with_reducible refine mask_foldl_snd _ (fun s x => ?_) _ _)
    | (with_reducible refine (mask_foldl _ (fun s x => ?_) _ _).trans ?_)
    | (split <;> try (rename_i e; have e2 := congrArg Prod.snd e; dsimp only at e2; subst e2))
    | (simp (disch := decide) only [setOd_mask, mask_ite, mask_ite_snd, ite_self])

theorem State.odInc_mask (s : State) (index sub n : Nat) {m0 : Nat} (hw : 1125899906842624 &&& m0 = 1125899906842624) :
    (State.odInc s index sub n).mask m0 = s.mask m0 := by
  refine mask_mono hw ?_
  unfold State.odInc
  repeat' first
    | with_reducible rfl
    | with_reducible refine mask_ite_eq ?_ ?_
    | with_reducible refine mask_ite_snd_eq ?_ ?_
    | (simp (disch := decide) only [State.odSet_mask, mask_ite, mask_ite_snd, ite_self]; done)
    | dsimp only
    | (with_reducible refine mask_foldl _ (fun s x => ?_) _ _)
    | (with_reducible refine mask_foldl_snd _ (fun s x => ?_) _ _)
    | (with_reducible refine (mask_foldl _ (fun s x => ?_) _ _).trans ?_)
    | (split <;> try (rename_i e; have e2 := congrArg Prod.snd e; dsimp only at e2; subst e2))
    | (simp (disch := decide) only [State.odSet_mask, mask_ite, mask_ite_snd, ite_self])

theorem State.odDrop_mask (s : State) (p : Nat → OdRow → Bool) {m0 : Nat} (hw : 1125899906842624 &&& m0 = 1125899906842624) :
    (State.odDrop s p).mask m0 = s.mask m0 := by
  refine mask_mono hw ?_
  unfold State.odDrop
  repeat' first
    | with_reducible rfl
    | with_reducible refine mask_ite_eq ?_ ?_
    | with_reducible refine mask_ite_snd_eq ?_ ?_
    | (simp (disch := decide) only [setOd_mask, mask_ite, mask_ite_snd, ite_self]; done)
    | dsimp only
    | (with_reducible refine mask_foldl _ (fun s x => ?_) _ _)
    | (with_reducible refine mask_foldl_snd _ (fun s x => ?_) _ _)
    | (with_reducible refine (mask_foldl _ (fun s x => ?_) _ _).trans ?_)
    | (split <;> try (rename_i e; have e2 := congrArg Prod.snd e; dsimp only at e2; subst e2))
    | (simp (disch := decide) only [setOd_mask, mask_ite, mask_ite_snd, ite_self])

theorem State.clearStatuses_mask (s : State) {m0 : Nat} (hw : 1125899906842624 &&& m0 = 1125899906842624) :
    (State.clearStatuses s).mask m0 = s.mask m0 := by
  refine mask_mono hw ?_
  unfold State.clearStatuses
  repeat' first
    | with_reducible rfl
    | with_reducible refine mask_ite_eq ?_ ?_
    | with_reducible refine mask_ite_snd_eq ?_ ?_
    | (simp (disch := decide) only [State.odDrop_mask, mask_ite, mask_ite_snd, ite_self]; done)
    | dsimp only
    | (with_reducible refine mask_foldl _ (fun s x => ?_) _ _)
    | (with_reducible refine mask_foldl_snd _ (fun s x => ?_) _ _)
    | (with_reducible refine (mask_foldl _ (fun s x => ?_) _ _).trans ?_)
    | (split <;> try (rename_i e; have e2 := congrArg Prod.snd e; dsimp only at e2; subst e2))
    | (simp (disch := decide) only [State.odDrop_mask, mask_ite, mask_ite_snd, ite_self])

theorem State.clearCoreEntries_mask (s : State) (n : Nat) {m0 : Nat} (hw : 1125899906842624 &&& m0 = 1125899906842624) :
    (State.clearCoreEntries s n).mask m0 = s.mask m0 := by
  refine mask_mono hw ?_
  unfold State.clearCoreEntries
  repeat' first
    | with_reducible rfl
    | with_reducible refine mask_ite_eq ?_ ?_
    | with_reducible refine mask_ite_snd_eq ?_ ?_
    | (simp (disch := decide) only [State.odDrop_mask, mask_ite, mask_ite_snd, ite_self]; done)
    | dsimp only
    | (with_reducible refine mask_foldl _ (fun s x => ?_) _ _)
    | (with_reducible refine mask_foldl_snd _ (fun s x => ?_) _ _)
    | (with_reducible refine (mask_foldl _ (fun s x => ?_) _ _).trans ?_)
    | (split <;> try (rename_i e; have e2 := congrArg Prod.snd e; dsimp only at e2; subst e2))
    | (simp (disch := decide) only [State.odDrop_mask, mask_ite, mask_ite_snd, ite_self])

end Sys2Proof.Machine
end

