-- ==== Sys2Proof/Laws/Frame/Ecc.lean ====
section
/-!
SUPPORT. Frames of Machine/Ecc.lean: the fields that each function may change, as a mask.
-/
namespace Sys2Proof.Machine

open Sys2Proof

set_option linter.unusedSimpArgs false

theorem State.setLineIn_mask (s : State) (n line : Nat) (m : Mem) {m0 : Nat} (hw : 8590196736 &&& m0 = 8590196736) :
    (State.setLineIn s n line m).mask m0 = s.mask m0 := by
  refine mask_mono hw ?_
  unfold State.setLineIn
  repeat' first
    | with_reducible rfl
    | with_reducible refine mask_ite_eq ?_ ?_
    | with_reducible refine mask_ite_snd_eq ?_ ?_
    | (simp (disch := decide) only [setModMem_mask, State.updSub_mask, mask_ite, mask_ite_snd, ite_self]; done)
    | dsimp only
    | (with_reducible refine mask_foldl _ (fun s x => ?_) _ _)
    | (with_reducible refine mask_foldl_snd _ (fun s x => ?_) _ _)
    | (with_reducible refine (mask_foldl _ (fun s x => ?_) _ _).trans ?_)
    | (split <;> try (rename_i e; have e2 := congrArg Prod.snd e; dsimp only at e2; subst e2))
    | (simp (disch := decide) only [setModMem_mask, State.updSub_mask, mask_ite, mask_ite_snd, ite_self])

theorem State.settleLine_mask (s : State) (n line e : Nat) {m0 : Nat} (hw : 8592818176 &&& m0 = 8592818176) :
    (State.settleLine s n line e).mask m0 = s.mask m0 := by
  refine mask_mono hw ?_
  unfold State.settleLine
  repeat' first
    | with_reducible rfl
    | with_reducible refine mask_ite_eq ?_ ?_
    | with_reducible refine mask_ite_snd_eq ?_ ?_
    | (simp (disch := decide) only [setEcc_mask, setUpsets_mask, State.setLineIn_mask, mask_ite, mask_ite_snd, ite_self]; done)
    | dsimp only
    | (with_reducible refine mask_foldl _ (fun s x => ?_) _ _)
    | (with_reducible refine mask_foldl_snd _ (fun s x => ?_) _ _)
    | (with_reducible refine (mask_foldl _ (fun s x => ?_) _ _).trans ?_)
    | (split <;> try (rename_i e; have e2 := congrArg Prod.snd e; dsimp only at e2; subst e2))
    | (simp (disch := decide) only [setEcc_mask, setUpsets_mask, State.setLineIn_mask, mask_ite, mask_ite_snd, ite_self])

theorem State.settleWhere_mask (s : State) (n : Nat) (p : Nat → Bool) {m0 : Nat} (hw : 8592818176 &&& m0 = 8592818176) :
    (State.settleWhere s n p).mask m0 = s.mask m0 := by
  refine mask_mono hw ?_
  unfold State.settleWhere
  repeat' first
    | with_reducible rfl
    | with_reducible refine mask_ite_eq ?_ ?_
    | with_reducible refine mask_ite_snd_eq ?_ ?_
    | (simp (disch := decide) only [State.settleLine_mask, mask_ite, mask_ite_snd, ite_self]; done)
    | dsimp only
    | (with_reducible refine mask_foldl _ (fun s x => ?_) _ _)
    | (with_reducible refine mask_foldl_snd _ (fun s x => ?_) _ _)
    | (with_reducible refine (mask_foldl _ (fun s x => ?_) _ _).trans ?_)
    | (split <;> try (rename_i e; have e2 := congrArg Prod.snd e; dsimp only at e2; subst e2))
    | (simp (disch := decide) only [State.settleLine_mask, mask_ite, mask_ite_snd, ite_self])

theorem State.settleRange_mask (s : State) (n a len : Nat) {m0 : Nat} (hw : 8592818176 &&& m0 = 8592818176) :
    (State.settleRange s n a len).mask m0 = s.mask m0 := by
  refine mask_mono hw ?_
  unfold State.settleRange
  repeat' first
    | with_reducible rfl
    | with_reducible refine mask_ite_eq ?_ ?_
    | with_reducible refine mask_ite_snd_eq ?_ ?_
    | (simp (disch := decide) only [State.settleWhere_mask, mask_ite, mask_ite_snd, ite_self]; done)
    | dsimp only
    | (with_reducible refine mask_foldl _ (fun s x => ?_) _ _)
    | (with_reducible refine mask_foldl_snd _ (fun s x => ?_) _ _)
    | (with_reducible refine (mask_foldl _ (fun s x => ?_) _ _).trans ?_)
    | (split <;> try (rename_i e; have e2 := congrArg Prod.snd e; dsimp only at e2; subst e2))
    | (simp (disch := decide) only [State.settleWhere_mask, mask_ite, mask_ite_snd, ite_self])

theorem State.settleWrite_mask (s : State) (n a len : Nat) {m0 : Nat} (hw : 8592818176 &&& m0 = 8592818176) :
    (State.settleWrite s n a len).mask m0 = s.mask m0 := by
  refine mask_mono hw ?_
  unfold State.settleWrite
  repeat' first
    | with_reducible rfl
    | with_reducible refine mask_ite_eq ?_ ?_
    | with_reducible refine mask_ite_snd_eq ?_ ?_
    | (simp (disch := decide) only [setUpsets_mask, State.settleWhere_mask, mask_ite, mask_ite_snd, ite_self]; done)
    | dsimp only
    | (with_reducible refine mask_foldl _ (fun s x => ?_) _ _)
    | (with_reducible refine mask_foldl_snd _ (fun s x => ?_) _ _)
    | (with_reducible refine (mask_foldl _ (fun s x => ?_) _ _).trans ?_)
    | (split <;> try (rename_i e; have e2 := congrArg Prod.snd e; dsimp only at e2; subst e2))
    | (simp (disch := decide) only [setUpsets_mask, State.settleWhere_mask, mask_ite, mask_ite_snd, ite_self])

theorem State.strike_mask (s : State) (xs : List LineUpset) {m0 : Nat} (hw : 524288 &&& m0 = 524288) :
    (State.strike s xs).mask m0 = s.mask m0 := by
  refine mask_mono hw ?_
  unfold State.strike
  repeat' first
    | with_reducible rfl
    | with_reducible refine mask_ite_eq ?_ ?_
    | with_reducible refine mask_ite_snd_eq ?_ ?_
    | (simp (disch := decide) only [setUpsets_mask, mask_ite, mask_ite_snd, ite_self]; done)
    | dsimp only
    | (with_reducible refine mask_foldl _ (fun s x => ?_) _ _)
    | (with_reducible refine mask_foldl_snd _ (fun s x => ?_) _ _)
    | (with_reducible refine (mask_foldl _ (fun s x => ?_) _ _).trans ?_)
    | (split <;> try (rename_i e; have e2 := congrArg Prod.snd e; dsimp only at e2; subst e2))
    | (simp (disch := decide) only [setUpsets_mask, mask_ite, mask_ite_snd, ite_self])

theorem State.strikeSpad_mask (s : State) (xs : List SpadUpset) {m0 : Nat} (hw : 1048576 &&& m0 = 1048576) :
    (State.strikeSpad s xs).mask m0 = s.mask m0 := by
  refine mask_mono hw ?_
  unfold State.strikeSpad
  repeat' first
    | with_reducible rfl
    | with_reducible refine mask_ite_eq ?_ ?_
    | with_reducible refine mask_ite_snd_eq ?_ ?_
    | (simp (disch := decide) only [setSpadUpsets_mask, mask_ite, mask_ite_snd, ite_self]; done)
    | dsimp only
    | (with_reducible refine mask_foldl _ (fun s x => ?_) _ _)
    | (with_reducible refine mask_foldl_snd _ (fun s x => ?_) _ _)
    | (with_reducible refine (mask_foldl _ (fun s x => ?_) _ _).trans ?_)
    | (split <;> try (rename_i e; have e2 := congrArg Prod.snd e; dsimp only at e2; subst e2))
    | (simp (disch := decide) only [setSpadUpsets_mask, mask_ite, mask_ite_snd, ite_self])

theorem State.settleWord_mask (s : State) (core key bits : Nat) {m0 : Nat} (hw : 3153920 &&& m0 = 3153920) :
    (State.settleWord s core key bits).mask m0 = s.mask m0 := by
  refine mask_mono hw ?_
  unfold State.settleWord
  repeat' first
    | with_reducible rfl
    | with_reducible refine mask_ite_eq ?_ ?_
    | with_reducible refine mask_ite_snd_eq ?_ ?_
    | (simp (disch := decide) only [setEcc_mask, setSpadUpsets_mask, State.updCore_mask, mask_ite, mask_ite_snd, ite_self]; done)
    | dsimp only
    | (with_reducible refine mask_foldl _ (fun s x => ?_) _ _)
    | (with_reducible refine mask_foldl_snd _ (fun s x => ?_) _ _)
    | (with_reducible refine (mask_foldl _ (fun s x => ?_) _ _).trans ?_)
    | (split <;> try (rename_i e; have e2 := congrArg Prod.snd e; dsimp only at e2; subst e2))
    | (simp (disch := decide) only [setEcc_mask, setSpadUpsets_mask, State.updCore_mask, mask_ite, mask_ite_snd, ite_self])

theorem State.settleSpadWhere_mask (s : State) (core : Nat) (p : Nat → Bool) {m0 : Nat} (hw : 3153920 &&& m0 = 3153920) :
    (State.settleSpadWhere s core p).mask m0 = s.mask m0 := by
  refine mask_mono hw ?_
  unfold State.settleSpadWhere
  repeat' first
    | with_reducible rfl
    | with_reducible refine mask_ite_eq ?_ ?_
    | with_reducible refine mask_ite_snd_eq ?_ ?_
    | (simp (disch := decide) only [State.settleWord_mask, mask_ite, mask_ite_snd, ite_self]; done)
    | dsimp only
    | (with_reducible refine mask_foldl _ (fun s x => ?_) _ _)
    | (with_reducible refine mask_foldl_snd _ (fun s x => ?_) _ _)
    | (with_reducible refine (mask_foldl _ (fun s x => ?_) _ _).trans ?_)
    | (split <;> try (rename_i e; have e2 := congrArg Prod.snd e; dsimp only at e2; subst e2))
    | (simp (disch := decide) only [State.settleWord_mask, mask_ite, mask_ite_snd, ite_self])

theorem State.settleSpad_mask (s : State) (core a len : Nat) {m0 : Nat} (hw : 3153920 &&& m0 = 3153920) :
    (State.settleSpad s core a len).mask m0 = s.mask m0 := by
  refine mask_mono hw ?_
  unfold State.settleSpad
  repeat' first
    | with_reducible rfl
    | with_reducible refine mask_ite_eq ?_ ?_
    | with_reducible refine mask_ite_snd_eq ?_ ?_
    | (simp (disch := decide) only [State.settleSpadWhere_mask, mask_ite, mask_ite_snd, ite_self]; done)
    | dsimp only
    | (with_reducible refine mask_foldl _ (fun s x => ?_) _ _)
    | (with_reducible refine mask_foldl_snd _ (fun s x => ?_) _ _)
    | (with_reducible refine (mask_foldl _ (fun s x => ?_) _ _).trans ?_)
    | (split <;> try (rename_i e; have e2 := congrArg Prod.snd e; dsimp only at e2; subst e2))
    | (simp (disch := decide) only [State.settleSpadWhere_mask, mask_ite, mask_ite_snd, ite_self])

theorem State.overwriteSpad_mask (s : State) (core a len : Nat) {m0 : Nat} (hw : 3153920 &&& m0 = 3153920) :
    (State.overwriteSpad s core a len).mask m0 = s.mask m0 := by
  refine mask_mono hw ?_
  unfold State.overwriteSpad
  repeat' first
    | with_reducible rfl
    | with_reducible refine mask_ite_eq ?_ ?_
    | with_reducible refine mask_ite_snd_eq ?_ ?_
    | (simp (disch := decide) only [setSpadUpsets_mask, State.settleWord_mask, mask_ite, mask_ite_snd, ite_self]; done)
    | dsimp only
    | (with_reducible refine mask_foldl _ (fun s x => ?_) _ _)
    | (with_reducible refine mask_foldl_snd _ (fun s x => ?_) _ _)
    | (with_reducible refine (mask_foldl _ (fun s x => ?_) _ _).trans ?_)
    | (split <;> try (rename_i e; have e2 := congrArg Prod.snd e; dsimp only at e2; subst e2))
    | (simp (disch := decide) only [setSpadUpsets_mask, State.settleWord_mask, mask_ite, mask_ite_snd, ite_self])

theorem State.clearSpadUpsets_mask (s : State) (core : Nat) {m0 : Nat} (hw : 1048576 &&& m0 = 1048576) :
    (State.clearSpadUpsets s core).mask m0 = s.mask m0 := by
  refine mask_mono hw ?_
  unfold State.clearSpadUpsets
  repeat' first
    | with_reducible rfl
    | with_reducible refine mask_ite_eq ?_ ?_
    | with_reducible refine mask_ite_snd_eq ?_ ?_
    | (simp (disch := decide) only [setSpadUpsets_mask, mask_ite, mask_ite_snd, ite_self]; done)
    | dsimp only
    | (with_reducible refine mask_foldl _ (fun s x => ?_) _ _)
    | (with_reducible refine mask_foldl_snd _ (fun s x => ?_) _ _)
    | (with_reducible refine (mask_foldl _ (fun s x => ?_) _ _).trans ?_)
    | (split <;> try (rename_i e; have e2 := congrArg Prod.snd e; dsimp only at e2; subst e2))
    | (simp (disch := decide) only [setSpadUpsets_mask, mask_ite, mask_ite_snd, ite_self])

theorem State.clearUpsets_mask (s : State) (n : Nat) {m0 : Nat} (hw : 524288 &&& m0 = 524288) :
    (State.clearUpsets s n).mask m0 = s.mask m0 := by
  refine mask_mono hw ?_
  unfold State.clearUpsets
  repeat' first
    | with_reducible rfl
    | with_reducible refine mask_ite_eq ?_ ?_
    | with_reducible refine mask_ite_snd_eq ?_ ?_
    | (simp (disch := decide) only [setUpsets_mask, mask_ite, mask_ite_snd, ite_self]; done)
    | dsimp only
    | (with_reducible refine mask_foldl _ (fun s x => ?_) _ _)
    | (with_reducible refine mask_foldl_snd _ (fun s x => ?_) _ _)
    | (with_reducible refine (mask_foldl _ (fun s x => ?_) _ _).trans ?_)
    | (split <;> try (rename_i e; have e2 := congrArg Prod.snd e; dsimp only at e2; subst e2))
    | (simp (disch := decide) only [setUpsets_mask, mask_ite, mask_ite_snd, ite_self])

end Sys2Proof.Machine
end

