-- ==== Sys2Proof/Laws/Frame/Memory.lean ====
section
/-!
SUPPORT. Frames of Machine/Memory.lean: the fields that each function may change, as a mask.
-/
namespace Sys2Proof.Machine

open Sys2Proof

set_option linter.unusedSimpArgs false

theorem State.tlbFill_mask (s : State) (die key e : Nat) {m0 : Nat} (hw : 134217730 &&& m0 = 134217730) :
    (State.tlbFill s die key e).mask m0 = s.mask m0 := by
  refine mask_mono hw ?_
  unfold State.tlbFill
  repeat' first
    | with_reducible rfl
    | with_reducible refine mask_ite_eq ?_ ?_
    | with_reducible refine mask_ite_snd_eq ?_ ?_
    | (simp (disch := decide) only [setTlb_mask, State.drawNat_mask, mask_ite, mask_ite_snd, ite_self]; done)
    | dsimp only
    | (with_reducible refine mask_foldl _ (fun s x => ?_) _ _)
    | (with_reducible refine mask_foldl_snd _ (fun s x => ?_) _ _)
    | (with_reducible refine (mask_foldl _ (fun s x => ?_) _ _).trans ?_)
    | (split <;> try (rename_i e; have e2 := congrArg Prod.snd e; dsimp only at e2; subst e2))
    | (simp (disch := decide) only [setTlb_mask, State.drawNat_mask, mask_ite, mask_ite_snd, ite_self])

theorem State.xlate_mask (s : State) (die p page : Nat) {m0 : Nat} (hw : 134217730 &&& m0 = 134217730) :
    (State.xlate s die p page).2.mask m0 = s.mask m0 := by
  refine mask_mono hw ?_
  unfold State.xlate
  repeat' first
    | with_reducible rfl
    | with_reducible refine mask_ite_eq ?_ ?_
    | with_reducible refine mask_ite_snd_eq ?_ ?_
    | (simp (disch := decide) only [State.drawBool_mask, State.tlbFill_mask, mask_ite, mask_ite_snd, ite_self]; done)
    | dsimp only
    | (with_reducible refine mask_foldl _ (fun s x => ?_) _ _)
    | (with_reducible refine mask_foldl_snd _ (fun s x => ?_) _ _)
    | (with_reducible refine (mask_foldl _ (fun s x => ?_) _ _).trans ?_)
    | (split <;> try (rename_i e; have e2 := congrArg Prod.snd e; dsimp only at e2; subst e2))
    | (simp (disch := decide) only [State.drawBool_mask, State.tlbFill_mask, mask_ite, mask_ite_snd, ite_self])

theorem State.xlateAll_mask (s : State) (die p : Nat) (write : Bool) (xs : List (Nat × Nat × Nat)) {m0 : Nat} (hw : 134217730 &&& m0 = 134217730) :
    (State.xlateAll s die p write xs).2.mask m0 = s.mask m0 := by
  refine mask_mono hw ?_
  clear hw
  induction xs generalizing s with
  | nil =>
    unfold State.xlateAll
    first | rfl | (split <;> rfl)
  | cons x xs ih =>
    unfold State.xlateAll
    repeat' first
      | with_reducible rfl
      | with_reducible refine mask_ite_eq ?_ ?_
      | with_reducible refine mask_ite_snd_eq ?_ ?_
      | (simp (disch := decide) only [State.xlate_mask, mask_ite, mask_ite_snd, ite_self, ih]; done)
      | dsimp only
      | (with_reducible refine mask_foldl _ (fun s x => ?_) _ _)
      | (with_reducible refine mask_foldl_snd _ (fun s x => ?_) _ _)
      | (with_reducible refine (mask_foldl _ (fun s x => ?_) _ _).trans ?_)
      | (split <;> try (rename_i e; have e2 := congrArg Prod.snd e; dsimp only at e2; subst e2))
      | (simp (disch := decide) only [State.xlate_mask, mask_ite, mask_ite_snd, ite_self, ih])

theorem State.extent_mask (s : State) (die p a n : Nat) (write : Bool) {m0 : Nat} (hw : 134217730 &&& m0 = 134217730) :
    (State.extent s die p a n write).2.mask m0 = s.mask m0 := by
  refine mask_mono hw ?_
  unfold State.extent
  repeat' first
    | with_reducible rfl
    | with_reducible refine mask_ite_eq ?_ ?_
    | with_reducible refine mask_ite_snd_eq ?_ ?_
    | (simp (disch := decide) only [State.xlateAll_mask, mask_ite, mask_ite_snd, ite_self]; done)
    | dsimp only
    | (with_reducible refine mask_foldl _ (fun s x => ?_) _ _)
    | (with_reducible refine mask_foldl_snd _ (fun s x => ?_) _ _)
    | (with_reducible refine (mask_foldl _ (fun s x => ?_) _ _).trans ?_)
    | (split <;> try (rename_i e; have e2 := congrArg Prod.snd e; dsimp only at e2; subst e2))
    | (simp (disch := decide) only [State.xlateAll_mask, mask_ite, mask_ite_snd, ite_self])

theorem State.settlePiece_mask (s : State) (x : Nat × Nat × Nat) {m0 : Nat} (hw : 8592818176 &&& m0 = 8592818176) :
    (State.settlePiece s x).mask m0 = s.mask m0 := by
  refine mask_mono hw ?_
  unfold State.settlePiece
  repeat' first
    | with_reducible rfl
    | with_reducible refine mask_ite_eq ?_ ?_
    | with_reducible refine mask_ite_snd_eq ?_ ?_
    | (simp (disch := decide) only [State.settleRange_mask, mask_ite, mask_ite_snd, ite_self]; done)
    | dsimp only
    | (with_reducible refine mask_foldl _ (fun s x => ?_) _ _)
    | (with_reducible refine mask_foldl_snd _ (fun s x => ?_) _ _)
    | (with_reducible refine (mask_foldl _ (fun s x => ?_) _ _).trans ?_)
    | (split <;> try (rename_i e; have e2 := congrArg Prod.snd e; dsimp only at e2; subst e2))
    | (simp (disch := decide) only [State.settleRange_mask, mask_ite, mask_ite_snd, ite_self])

theorem State.takePieces_mask (s : State) (xs : List (Nat × Nat × Nat)) {m0 : Nat} (hw : 8592818176 &&& m0 = 8592818176) :
    (State.takePieces s xs).2.mask m0 = s.mask m0 := by
  refine mask_mono hw ?_
  unfold State.takePieces
  repeat' first
    | with_reducible rfl
    | with_reducible refine mask_ite_eq ?_ ?_
    | with_reducible refine mask_ite_snd_eq ?_ ?_
    | (simp (disch := decide) only [State.settlePiece_mask, mask_ite, mask_ite_snd, ite_self]; done)
    | dsimp only
    | (with_reducible refine mask_foldl _ (fun s x => ?_) _ _)
    | (with_reducible refine mask_foldl_snd _ (fun s x => ?_) _ _)
    | (with_reducible refine (mask_foldl _ (fun s x => ?_) _ _).trans ?_)
    | (split <;> try (rename_i e; have e2 := congrArg Prod.snd e; dsimp only at e2; subst e2))
    | (simp (disch := decide) only [State.settlePiece_mask, mask_ite, mask_ite_snd, ite_self])

theorem State.writePiece_mask (s : State) (x : Nat × Nat × Nat) (bs : List (Byte × Bool)) {m0 : Nat} (hw : 8592818176 &&& m0 = 8592818176) :
    (State.writePiece s x bs).mask m0 = s.mask m0 := by
  refine mask_mono hw ?_
  unfold State.writePiece
  repeat' first
    | with_reducible rfl
    | with_reducible refine mask_ite_eq ?_ ?_
    | with_reducible refine mask_ite_snd_eq ?_ ?_
    | (simp (disch := decide) only [State.settleWrite_mask, State.updSub_mask, mask_ite, mask_ite_snd, ite_self]; done)
    | dsimp only
    | (with_reducible refine mask_foldl _ (fun s x => ?_) _ _)
    | (with_reducible refine mask_foldl_snd _ (fun s x => ?_) _ _)
    | (with_reducible refine (mask_foldl _ (fun s x => ?_) _ _).trans ?_)
    | (split <;> try (rename_i e; have e2 := congrArg Prod.snd e; dsimp only at e2; subst e2))
    | (simp (disch := decide) only [State.settleWrite_mask, State.updSub_mask, mask_ite, mask_ite_snd, ite_self])

theorem State.writePieces_mask (s : State) (xs : List (Nat × Nat × Nat)) (bs : List (Byte × Bool)) {m0 : Nat} (hw : 8592818176 &&& m0 = 8592818176) :
    (State.writePieces s xs bs).mask m0 = s.mask m0 := by
  refine mask_mono hw ?_
  clear hw
  induction xs generalizing s bs with
  | nil =>
    unfold State.writePieces
    first | rfl | (split <;> rfl)
  | cons x xs ih =>
    unfold State.writePieces
    repeat' first
      | with_reducible rfl
      | with_reducible refine mask_ite_eq ?_ ?_
      | with_reducible refine mask_ite_snd_eq ?_ ?_
      | (simp (disch := decide) only [State.writePiece_mask, mask_ite, mask_ite_snd, ite_self, ih]; done)
      | dsimp only
      | (with_reducible refine mask_foldl _ (fun s x => ?_) _ _)
      | (with_reducible refine mask_foldl_snd _ (fun s x => ?_) _ _)
      | (with_reducible refine (mask_foldl _ (fun s x => ?_) _ _).trans ?_)
      | (split <;> try (rename_i e; have e2 := congrArg Prod.snd e; dsimp only at e2; subst e2))
      | (simp (disch := decide) only [State.writePiece_mask, mask_ite, mask_ite_snd, ite_self, ih])

theorem State.rawRead_mask (s : State) (die p a n : Nat) {m0 : Nat} (hw : 8727035906 &&& m0 = 8727035906) :
    (State.rawRead s die p a n).2.mask m0 = s.mask m0 := by
  refine mask_mono hw ?_
  unfold State.rawRead
  repeat' first
    | with_reducible rfl
    | with_reducible refine mask_ite_eq ?_ ?_
    | with_reducible refine mask_ite_snd_eq ?_ ?_
    | (simp (disch := decide) only [State.extent_mask, State.takePieces_mask, mask_ite, mask_ite_snd, ite_self]; done)
    | dsimp only
    | (with_reducible refine mask_foldl _ (fun s x => ?_) _ _)
    | (with_reducible refine mask_foldl_snd _ (fun s x => ?_) _ _)
    | (with_reducible refine (mask_foldl _ (fun s x => ?_) _ _).trans ?_)
    | (split <;> try (rename_i e; have e2 := congrArg Prod.snd e; dsimp only at e2; subst e2))
    | (simp (disch := decide) only [State.extent_mask, State.takePieces_mask, mask_ite, mask_ite_snd, ite_self])

theorem State.rawWrite_mask (s : State) (die p a : Nat) (bs : List (Byte × Bool)) {m0 : Nat} (hw : 8727035906 &&& m0 = 8727035906) :
    (State.rawWrite s die p a bs).2.mask m0 = s.mask m0 := by
  refine mask_mono hw ?_
  unfold State.rawWrite
  repeat' first
    | with_reducible rfl
    | with_reducible refine mask_ite_eq ?_ ?_
    | with_reducible refine mask_ite_snd_eq ?_ ?_
    | (simp (disch := decide) only [State.extent_mask, State.writePieces_mask, mask_ite, mask_ite_snd, ite_self]; done)
    | dsimp only
    | (with_reducible refine mask_foldl _ (fun s x => ?_) _ _)
    | (with_reducible refine mask_foldl_snd _ (fun s x => ?_) _ _)
    | (with_reducible refine (mask_foldl _ (fun s x => ?_) _ _).trans ?_)
    | (split <;> try (rename_i e; have e2 := congrArg Prod.snd e; dsimp only at e2; subst e2))
    | (simp (disch := decide) only [State.extent_mask, State.writePieces_mask, mask_ite, mask_ite_snd, ite_self])

theorem State.rawPoison_mask (s : State) (die p a n : Nat) {m0 : Nat} (hw : 8727035906 &&& m0 = 8727035906) :
    (State.rawPoison s die p a n).mask m0 = s.mask m0 := by
  refine mask_mono hw ?_
  unfold State.rawPoison
  repeat' first
    | with_reducible rfl
    | with_reducible refine mask_ite_eq ?_ ?_
    | with_reducible refine mask_ite_snd_eq ?_ ?_
    | (simp (disch := decide) only [State.extent_mask, State.settleRange_mask, State.updSub_mask, mask_ite, mask_ite_snd, ite_self]; done)
    | dsimp only
    | (with_reducible refine mask_foldl _ (fun s x => ?_) _ _)
    | (with_reducible refine mask_foldl_snd _ (fun s x => ?_) _ _)
    | (with_reducible refine (mask_foldl _ (fun s x => ?_) _ _).trans ?_)
    | (split <;> try (rename_i e; have e2 := congrArg Prod.snd e; dsimp only at e2; subst e2))
    | (simp (disch := decide) only [State.extent_mask, State.settleRange_mask, State.updSub_mask, mask_ite, mask_ite_snd, ite_self])

end Sys2Proof.Machine
end

