-- ==== Sys2Proof/Laws/Frame/Events.lean ====
section
/-!
SUPPORT. Frames of Machine/Events.lean: the fields that each function may change, as a mask.
-/
namespace Sys2Proof.Machine

open Sys2Proof

set_option linter.unusedSimpArgs false

theorem State.mbxSend_mask (s : State) (die m type length tag status reply body : Nat) {m0 : Nat} (hw : 4398046511104 &&& m0 = 4398046511104) :
    (State.mbxSend s die m type length tag status reply body).2.mask m0 = s.mask m0 := by
  refine mask_mono hw ?_
  unfold State.mbxSend
  repeat' first
    | with_reducible rfl
    | with_reducible refine mask_ite_eq ?_ ?_
    | with_reducible refine mask_ite_snd_eq ?_ ?_
    | (simp (disch := decide) only [State.putMbx_mask, mask_ite, mask_ite_snd, ite_self]; done)
    | dsimp only
    | (with_reducible refine mask_foldl _ (fun s x => ?_) _ _)
    | (with_reducible refine mask_foldl_snd _ (fun s x => ?_) _ _)
    | (with_reducible refine (mask_foldl _ (fun s x => ?_) _ _).trans ?_)
    | (split <;> try (rename_i e; have e2 := congrArg Prod.snd e; dsimp only at e2; subst e2))
    | (simp (disch := decide) only [State.putMbx_mask, mask_ite, mask_ite_snd, ite_self])

theorem ctrBump_mask (raise : State → Nat → Nat → Nat → State) (s : State) (k n : Nat)
    (hr : ∀ s d m x, (raise s d m x).mask 1165491052494850 = s.mask 1165491052494850) :
    (ctrBump raise s k n).mask 1165491052494850 = s.mask 1165491052494850 := by
  unfold ctrBump
  repeat' first
    | with_reducible rfl
    | with_reducible refine mask_ite_eq ?_ ?_
    | with_reducible refine mask_ite_snd_eq ?_ ?_
    | (simp (disch := decide) only [State.putCtr_mask, hr, mask_ite, mask_ite_snd, ite_self]; done)
    | dsimp only
    | (with_reducible refine mask_foldl _ (fun s x => ?_) _ _)
    | (with_reducible refine mask_foldl_snd _ (fun s x => ?_) _ _)
    | (with_reducible refine (mask_foldl _ (fun s x => ?_) _ _).trans ?_)
    | (split <;> try (rename_i e; have e2 := congrArg Prod.snd e; dsimp only at e2; subst e2))
    | (simp (disch := decide) only [State.putCtr_mask, hr, mask_ite, mask_ite_snd, ite_self])

theorem bumpDieBy_mask (raise : Raise) (s : State) (die code : Nat) (part : Option Nat) (n : Nat)
    (hr : ∀ s d m x, (raise s d m x).mask 1165491052494850 = s.mask 1165491052494850) :
    (bumpDieBy raise s die code part n).mask 1165491052494850 = s.mask 1165491052494850 := by
  unfold bumpDieBy
  repeat' first
    | with_reducible rfl
    | with_reducible refine mask_ite_eq ?_ ?_
    | with_reducible refine mask_ite_snd_eq ?_ ?_
    | (simp (disch := decide) only [ctrBump_mask raise _ _ _ hr, hr, mask_ite, mask_ite_snd, ite_self]; done)
    | dsimp only
    | (with_reducible refine mask_foldl _ (fun s x => ?_) _ _)
    | (with_reducible refine mask_foldl_snd _ (fun s x => ?_) _ _)
    | (with_reducible refine (mask_foldl _ (fun s x => ?_) _ _).trans ?_)
    | (split <;> try (rename_i e; have e2 := congrArg Prod.snd e; dsimp only at e2; subst e2))
    | (simp (disch := decide) only [ctrBump_mask raise _ _ _ hr, hr, mask_ite, mask_ite_snd, ite_self])

theorem countLinesBy_mask (raise : Raise) (s : State) (code p : Nat) (xs : List (Nat × Nat × Nat))
    (hr : ∀ s d m x, (raise s d m x).mask 1165491052494850 = s.mask 1165491052494850) :
    (countLinesBy raise s code p xs).mask 1165491052494850 = s.mask 1165491052494850 := by
  unfold countLinesBy
  repeat' first
    | with_reducible rfl
    | with_reducible refine mask_ite_eq ?_ ?_
    | with_reducible refine mask_ite_snd_eq ?_ ?_
    | (simp (disch := decide) only [bumpDieBy_mask raise _ _ _ _ _ hr, hr, mask_ite, mask_ite_snd, ite_self]; done)
    | dsimp only
    | (with_reducible refine mask_foldl _ (fun s x => ?_) _ _)
    | (with_reducible refine mask_foldl_snd _ (fun s x => ?_) _ _)
    | (with_reducible refine (mask_foldl _ (fun s x => ?_) _ _).trans ?_)
    | (split <;> try (rename_i e; have e2 := congrArg Prod.snd e; dsimp only at e2; subst e2))
    | (simp (disch := decide) only [bumpDieBy_mask raise _ _ _ _ _ hr, hr, mask_ite, mask_ite_snd, ite_self])

theorem pwriteBy_mask (raise : Raise) (s : State) (die p a : Nat) (bs : List (Byte × Bool))
    (hr : ∀ s d m x, (raise s d m x).mask 1165491052494850 = s.mask 1165491052494850) :
    (pwriteBy raise s die p a bs).2.mask 1165491052494850 = s.mask 1165491052494850 := by
  unfold pwriteBy
  repeat' first
    | with_reducible rfl
    | with_reducible refine mask_ite_eq ?_ ?_
    | with_reducible refine mask_ite_snd_eq ?_ ?_
    | (simp (disch := decide) only [State.extent_mask, State.writePieces_mask, bumpDieBy_mask raise _ _ _ _ _ hr, countLinesBy_mask raise _ _ _ _ hr, hr, mask_ite, mask_ite_snd, ite_self]; done)
    | dsimp only
    | (with_reducible refine mask_foldl _ (fun s x => ?_) _ _)
    | (with_reducible refine mask_foldl_snd _ (fun s x => ?_) _ _)
    | (with_reducible refine (mask_foldl _ (fun s x => ?_) _ _).trans ?_)
    | (split <;> try (rename_i e; have e2 := congrArg Prod.snd e; dsimp only at e2; subst e2))
    | (simp (disch := decide) only [State.extent_mask, State.writePieces_mask, bumpDieBy_mask raise _ _ _ _ _ hr, countLinesBy_mask raise _ _ _ _ hr, hr, mask_ite, mask_ite_snd, ite_self])

theorem creditWriteBackBy_mask (raise : Raise) (s : State) (q : Nat)
    (hr : ∀ s d m x, (raise s d m x).mask 1165491052494850 = s.mask 1165491052494850) :
    (creditWriteBackBy raise s q).mask 1165491052494850 = s.mask 1165491052494850 := by
  unfold creditWriteBackBy
  repeat' first
    | with_reducible rfl
    | with_reducible refine mask_ite_eq ?_ ?_
    | with_reducible refine mask_ite_snd_eq ?_ ?_
    | (simp (disch := decide) only [pwriteBy_mask raise _ _ _ _ _ hr, hr, mask_ite, mask_ite_snd, ite_self]; done)
    | dsimp only
    | (with_reducible refine mask_foldl _ (fun s x => ?_) _ _)
    | (with_reducible refine mask_foldl_snd _ (fun s x => ?_) _ _)
    | (with_reducible refine (mask_foldl _ (fun s x => ?_) _ _).trans ?_)
    | (split <;> try (rename_i e; have e2 := congrArg Prod.snd e; dsimp only at e2; subst e2))
    | (simp (disch := decide) only [pwriteBy_mask raise _ _ _ _ _ hr, hr, mask_ite, mask_ite_snd, ite_self])

theorem reserveRecordBy_mask (raise : Raise) (s : State) (q : Nat)
    (hr : ∀ s d m x, (raise s d m x).mask 1165491052494850 = s.mask 1165491052494850) :
    (reserveRecordBy raise s q).mask 1165491052494850 = s.mask 1165491052494850 := by
  unfold reserveRecordBy
  repeat' first
    | with_reducible rfl
    | with_reducible refine mask_ite_eq ?_ ?_
    | with_reducible refine mask_ite_snd_eq ?_ ?_
    | (simp (disch := decide) only [State.putQueue_mask, creditWriteBackBy_mask raise _ _ hr, hr, mask_ite, mask_ite_snd, ite_self]; done)
    | dsimp only
    | (with_reducible refine mask_foldl _ (fun s x => ?_) _ _)
    | (with_reducible refine mask_foldl_snd _ (fun s x => ?_) _ _)
    | (with_reducible refine (mask_foldl _ (fun s x => ?_) _ _).trans ?_)
    | (split <;> try (rename_i e; have e2 := congrArg Prod.snd e; dsimp only at e2; subst e2))
    | (simp (disch := decide) only [State.putQueue_mask, creditWriteBackBy_mask raise _ _ hr, hr, mask_ite, mask_ite_snd, ite_self])

theorem putRecordBy_mask (raise : Raise) (s : State) (q pos r : Nat)
    (hr : ∀ s d m x, (raise s d m x).mask 1165491052494850 = s.mask 1165491052494850) :
    (putRecordBy raise s q pos r).mask 1165491052494850 = s.mask 1165491052494850 := by
  unfold putRecordBy
  repeat' first
    | with_reducible rfl
    | with_reducible refine mask_ite_eq ?_ ?_
    | with_reducible refine mask_ite_snd_eq ?_ ?_
    | (simp (disch := decide) only [pwriteBy_mask raise _ _ _ _ _ hr, hr, mask_ite, mask_ite_snd, ite_self]; done)
    | dsimp only
    | (with_reducible refine mask_foldl _ (fun s x => ?_) _ _)
    | (with_reducible refine mask_foldl_snd _ (fun s x => ?_) _ _)
    | (with_reducible refine (mask_foldl _ (fun s x => ?_) _ _).trans ?_)
    | (split <;> try (rename_i e; have e2 := congrArg Prod.snd e; dsimp only at e2; subst e2))
    | (simp (disch := decide) only [pwriteBy_mask raise _ _ _ _ _ hr, hr, mask_ite, mask_ite_snd, ite_self])

theorem State.irqRaise_mask (s : State) (c prio die n : Nat) {m0 : Nat} (hw : 35184372088832 &&& m0 = 35184372088832) :
    (State.irqRaise s c prio die n).mask m0 = s.mask m0 := by
  refine mask_mono hw ?_
  unfold State.irqRaise
  repeat' first
    | with_reducible rfl
    | with_reducible refine mask_ite_eq ?_ ?_
    | with_reducible refine mask_ite_snd_eq ?_ ?_
    | (simp (disch := decide) only [State.putIrq_mask, mask_ite, mask_ite_snd, ite_self]; done)
    | dsimp only
    | (with_reducible refine mask_foldl _ (fun s x => ?_) _ _)
    | (with_reducible refine mask_foldl_snd _ (fun s x => ?_) _ _)
    | (with_reducible refine (mask_foldl _ (fun s x => ?_) _ _).trans ?_)
    | (split <;> try (rename_i e; have e2 := congrArg Prod.snd e; dsimp only at e2; subst e2))
    | (simp (disch := decide) only [State.putIrq_mask, mask_ite, mask_ite_snd, ite_self])

theorem deliverQueue_mask (raise : State → Nat → Nat → Nat → State) (s : State) (q die n : Nat) (part : Option Nat) (x : Source) (lost : Bool)
    (hr : ∀ s d m x, (raise s d m x).mask 1165491052494850 = s.mask 1165491052494850) :
    (deliverQueue raise s q die n part x lost).mask 1165491052494850 = s.mask 1165491052494850 := by
  unfold deliverQueue
  repeat' first
    | with_reducible rfl
    | with_reducible refine mask_ite_eq ?_ ?_
    | with_reducible refine mask_ite_snd_eq ?_ ?_
    | (simp (disch := decide) only [State.odInc_mask, State.updQueue_mask, ctrBump_mask raise _ _ _ hr, reserveRecordBy_mask raise _ _ hr, putRecordBy_mask raise _ _ _ _ hr, hr, mask_ite, mask_ite_snd, ite_self]; done)
    | dsimp only
    | (with_reducible refine mask_foldl _ (fun s x => ?_) _ _)
    | (with_reducible refine mask_foldl_snd _ (fun s x => ?_) _ _)
    | (with_reducible refine (mask_foldl _ (fun s x => ?_) _ _).trans ?_)
    | (split <;> try (rename_i e; have e2 := congrArg Prod.snd e; dsimp only at e2; subst e2))
    | (simp (disch := decide) only [State.odInc_mask, State.updQueue_mask, ctrBump_mask raise _ _ _ hr, reserveRecordBy_mask raise _ _ hr, putRecordBy_mask raise _ _ _ _ hr, hr, mask_ite, mask_ite_snd, ite_self])

theorem deliverMessage_mask (s : State) (die n : Nat) (x : Source) (lost : Bool) {m0 : Nat} (hw : 1165482325442560 &&& m0 = 1165482325442560) :
    (deliverMessage s die n x lost).mask m0 = s.mask m0 := by
  refine mask_mono hw ?_
  unfold deliverMessage
  repeat' first
    | with_reducible rfl
    | with_reducible refine mask_ite_eq ?_ ?_
    | with_reducible refine mask_ite_snd_eq ?_ ?_
    | (simp (disch := decide) only [setEv_mask, State.mbxSend_mask, State.odInc_mask, mask_ite, mask_ite_snd, ite_self]; done)
    | dsimp only
    | (with_reducible refine mask_foldl _ (fun s x => ?_) _ _)
    | (with_reducible refine mask_foldl_snd _ (fun s x => ?_) _ _)
    | (with_reducible refine (mask_foldl _ (fun s x => ?_) _ _).trans ?_)
    | (split <;> try (rename_i e; have e2 := congrArg Prod.snd e; dsimp only at e2; subst e2))
    | (simp (disch := decide) only [setEv_mask, State.mbxSend_mask, State.odInc_mask, mask_ite, mask_ite_snd, ite_self])

theorem deliver_mask (raise : State → Nat → Nat → Nat → State) (s : State) (die n : Nat)
    (hr : ∀ s d m x, (raise s d m x).mask 1165491052494850 = s.mask 1165491052494850) :
    (deliver raise s die n).mask 1165491052494850 = s.mask 1165491052494850 := by
  unfold deliver
  repeat' first
    | with_reducible rfl
    | with_reducible refine mask_ite_eq ?_ ?_
    | with_reducible refine mask_ite_snd_eq ?_ ?_
    | (simp (disch := decide) only [setEv_mask, State.irqRaise_mask, State.putSource_mask, deliverMessage_mask, deliverQueue_mask raise _ _ _ _ _ _ _ hr, hr, mask_ite, mask_ite_snd, ite_self]; done)
    | dsimp only
    | (with_reducible refine mask_foldl _ (fun s x => ?_) _ _)
    | (with_reducible refine mask_foldl_snd _ (fun s x => ?_) _ _)
    | (with_reducible refine (mask_foldl _ (fun s x => ?_) _ _).trans ?_)
    | (split <;> try (rename_i e; have e2 := congrArg Prod.snd e; dsimp only at e2; subst e2))
    | (simp (disch := decide) only [setEv_mask, State.irqRaise_mask, State.putSource_mask, deliverMessage_mask, deliverQueue_mask raise _ _ _ _ _ _ _ hr, hr, mask_ite, mask_ite_snd, ite_self])

theorem count_mask (raise : State → Nat → Nat → Nat → State) (s : State) (die n detail t : Nat)
    (hr : ∀ s d m x, (raise s d m x).mask 1165491052494850 = s.mask 1165491052494850) :
    (count raise s die n detail t).mask 1165491052494850 = s.mask 1165491052494850 := by
  unfold count
  repeat' first
    | with_reducible rfl
    | with_reducible refine mask_ite_eq ?_ ?_
    | with_reducible refine mask_ite_snd_eq ?_ ?_
    | (simp (disch := decide) only [State.putSource_mask, deliver_mask raise _ _ _ hr, hr, mask_ite, mask_ite_snd, ite_self]; done)
    | dsimp only
    | (with_reducible refine mask_foldl _ (fun s x => ?_) _ _)
    | (with_reducible refine mask_foldl_snd _ (fun s x => ?_) _ _)
    | (with_reducible refine (mask_foldl _ (fun s x => ?_) _ _).trans ?_)
    | (split <;> try (rename_i e; have e2 := congrArg Prod.snd e; dsimp only at e2; subst e2))
    | (simp (disch := decide) only [State.putSource_mask, deliver_mask raise _ _ _ hr, hr, mask_ite, mask_ite_snd, ite_self])

theorem State.islandLog_mask (s : State) (n detail : Nat) {m0 : Nat} (hw : 1161084278931456 &&& m0 = 1161084278931456) :
    (State.islandLog s n detail).mask m0 = s.mask m0 := by
  refine mask_mono hw ?_
  unfold State.islandLog
  repeat' first
    | with_reducible rfl
    | with_reducible refine mask_ite_eq ?_ ?_
    | with_reducible refine mask_ite_snd_eq ?_ ?_
    | (simp (disch := decide) only [setEv_mask, State.odInc_mask, mask_ite, mask_ite_snd, ite_self]; done)
    | dsimp only
    | (with_reducible refine mask_foldl _ (fun s x => ?_) _ _)
    | (with_reducible refine mask_foldl_snd _ (fun s x => ?_) _ _)
    | (with_reducible refine (mask_foldl _ (fun s x => ?_) _ _).trans ?_)
    | (split <;> try (rename_i e; have e2 := congrArg Prod.snd e; dsimp only at e2; subst e2))
    | (simp (disch := decide) only [setEv_mask, State.odInc_mask, mask_ite, mask_ite_snd, ite_self])

theorem raiseN_mask (k : Nat) (s : State) (die n detail : Nat) {m0 : Nat} (hw : 1165491052494850 &&& m0 = 1165491052494850) :
    (raiseN k s die n detail).mask m0 = s.mask m0 := by
  refine mask_mono hw ?_
  clear hw
  induction k generalizing s die n detail with
  | zero => rfl
  | succ k ih =>
    unfold raiseN
    repeat' first
      | with_reducible rfl
      | with_reducible refine mask_ite_eq ?_ ?_
      | with_reducible refine mask_ite_snd_eq ?_ ?_
      | (simp (disch := decide) only [State.islandLog_mask, count_mask _ _ _ _ _ _ (fun s d m x => ih s d m x), mask_ite, ite_self]; done)
      | dsimp only
      | (with_reducible refine mask_foldl _ (fun s x => ?_) _ _)
      | (with_reducible refine mask_foldl_snd _ (fun s x => ?_) _ _)
      | (with_reducible refine (mask_foldl _ (fun s x => ?_) _ _).trans ?_)
      | (split <;> try (rename_i e; have e2 := congrArg Prod.snd e; dsimp only at e2; subst e2))
      | (simp (disch := decide) only [State.islandLog_mask, count_mask _ _ _ _ _ _ (fun s d m x => ih s d m x), mask_ite, ite_self])

theorem State.raise_mask (s : State) (die n detail : Nat) {m0 : Nat} (hw : 1165491052494850 &&& m0 = 1165491052494850) :
    (State.raise s die n detail).mask m0 = s.mask m0 := by
  refine mask_mono hw ?_
  unfold State.raise
  repeat' first
    | with_reducible rfl
    | with_reducible refine mask_ite_eq ?_ ?_
    | with_reducible refine mask_ite_snd_eq ?_ ?_
    | (simp (disch := decide) only [raiseN_mask, mask_ite, mask_ite_snd, ite_self]; done)
    | dsimp only
    | (with_reducible refine mask_foldl _ (fun s x => ?_) _ _)
    | (with_reducible refine mask_foldl_snd _ (fun s x => ?_) _ _)
    | (with_reducible refine (mask_foldl _ (fun s x => ?_) _ _).trans ?_)
    | (split <;> try (rename_i e; have e2 := congrArg Prod.snd e; dsimp only at e2; subst e2))
    | (simp (disch := decide) only [raiseN_mask, mask_ite, mask_ite_snd, ite_self])

theorem ctrBump_raise_mask (s : State) (k n : Nat) {m0 : Nat} (hw : 1165491052494850 &&& m0 = 1165491052494850) :
    (ctrBump State.raise s k n).mask m0 = s.mask m0 :=
  mask_mono hw (ctrBump_mask State.raise s k n (fun s d m x => State.raise_mask s d m x (by decide)))

theorem bumpDieBy_raise_mask (s : State) (die code : Nat) (part : Option Nat) (n : Nat) {m0 : Nat} (hw : 1165491052494850 &&& m0 = 1165491052494850) :
    (bumpDieBy State.raise s die code part n).mask m0 = s.mask m0 :=
  mask_mono hw (bumpDieBy_mask State.raise s die code part n (fun s d m x => State.raise_mask s d m x (by decide)))

theorem countLinesBy_raise_mask (s : State) (code p : Nat) (xs : List (Nat × Nat × Nat)) {m0 : Nat} (hw : 1165491052494850 &&& m0 = 1165491052494850) :
    (countLinesBy State.raise s code p xs).mask m0 = s.mask m0 :=
  mask_mono hw (countLinesBy_mask State.raise s code p xs (fun s d m x => State.raise_mask s d m x (by decide)))

theorem pwriteBy_raise_mask (s : State) (die p a : Nat) (bs : List (Byte × Bool)) {m0 : Nat} (hw : 1165491052494850 &&& m0 = 1165491052494850) :
    (pwriteBy State.raise s die p a bs).2.mask m0 = s.mask m0 :=
  mask_mono hw (pwriteBy_mask State.raise s die p a bs (fun s d m x => State.raise_mask s d m x (by decide)))

theorem creditWriteBackBy_raise_mask (s : State) (q : Nat) {m0 : Nat} (hw : 1165491052494850 &&& m0 = 1165491052494850) :
    (creditWriteBackBy State.raise s q).mask m0 = s.mask m0 :=
  mask_mono hw (creditWriteBackBy_mask State.raise s q (fun s d m x => State.raise_mask s d m x (by decide)))

theorem reserveRecordBy_raise_mask (s : State) (q : Nat) {m0 : Nat} (hw : 1165491052494850 &&& m0 = 1165491052494850) :
    (reserveRecordBy State.raise s q).mask m0 = s.mask m0 :=
  mask_mono hw (reserveRecordBy_mask State.raise s q (fun s d m x => State.raise_mask s d m x (by decide)))

theorem putRecordBy_raise_mask (s : State) (q pos r : Nat) {m0 : Nat} (hw : 1165491052494850 &&& m0 = 1165491052494850) :
    (putRecordBy State.raise s q pos r).mask m0 = s.mask m0 :=
  mask_mono hw (putRecordBy_mask State.raise s q pos r (fun s d m x => State.raise_mask s d m x (by decide)))

theorem deliverQueue_raise_mask (s : State) (q die n : Nat) (part : Option Nat) (x : Source) (lost : Bool) {m0 : Nat} (hw : 1165491052494850 &&& m0 = 1165491052494850) :
    (deliverQueue State.raise s q die n part x lost).mask m0 = s.mask m0 :=
  mask_mono hw (deliverQueue_mask State.raise s q die n part x lost (fun s d m x => State.raise_mask s d m x (by decide)))

theorem deliver_raise_mask (s : State) (die n : Nat) {m0 : Nat} (hw : 1165491052494850 &&& m0 = 1165491052494850) :
    (deliver State.raise s die n).mask m0 = s.mask m0 :=
  mask_mono hw (deliver_mask State.raise s die n (fun s d m x => State.raise_mask s d m x (by decide)))

theorem count_raise_mask (s : State) (die n detail t : Nat) {m0 : Nat} (hw : 1165491052494850 &&& m0 = 1165491052494850) :
    (count State.raise s die n detail t).mask m0 = s.mask m0 :=
  mask_mono hw (count_mask State.raise s die n detail t (fun s d m x => State.raise_mask s d m x (by decide)))


theorem State.condition_mask (s : State) (die n : Nat) (level : Bool) (detail : Nat) {m0 : Nat} (hw : 1165491052494850 &&& m0 = 1165491052494850) :
    (State.condition s die n level detail).mask m0 = s.mask m0 := by
  refine mask_mono hw ?_
  unfold State.condition
  repeat' first
    | with_reducible rfl
    | with_reducible refine mask_ite_eq ?_ ?_
    | with_reducible refine mask_ite_snd_eq ?_ ?_
    | (simp (disch := decide) only [State.islandLog_mask, State.putSource_mask, State.raise_mask, count_raise_mask, mask_ite, mask_ite_snd, ite_self]; done)
    | dsimp only
    | (with_reducible refine mask_foldl _ (fun s x => ?_) _ _)
    | (with_reducible refine mask_foldl_snd _ (fun s x => ?_) _ _)
    | (with_reducible refine (mask_foldl _ (fun s x => ?_) _ _).trans ?_)
    | (split <;> try (rename_i e; have e2 := congrArg Prod.snd e; dsimp only at e2; subst e2))
    | (simp (disch := decide) only [State.islandLog_mask, State.putSource_mask, State.raise_mask, count_raise_mask, mask_ite, mask_ite_snd, ite_self])

theorem State.raiseEast_mask (s : State) (n detail : Nat) {m0 : Nat} (hw : 1165491052494850 &&& m0 = 1165491052494850) :
    (State.raiseEast s n detail).mask m0 = s.mask m0 := by
  refine mask_mono hw ?_
  unfold State.raiseEast
  repeat' first
    | with_reducible rfl
    | with_reducible refine mask_ite_eq ?_ ?_
    | with_reducible refine mask_ite_snd_eq ?_ ?_
    | (simp (disch := decide) only [State.raise_mask, mask_ite, mask_ite_snd, ite_self]; done)
    | dsimp only
    | (with_reducible refine mask_foldl _ (fun s x => ?_) _ _)
    | (with_reducible refine mask_foldl_snd _ (fun s x => ?_) _ _)
    | (with_reducible refine (mask_foldl _ (fun s x => ?_) _ _).trans ?_)
    | (split <;> try (rename_i e; have e2 := congrArg Prod.snd e; dsimp only at e2; subst e2))
    | (simp (disch := decide) only [State.raise_mask, mask_ite, mask_ite_snd, ite_self])

theorem State.bumpDie_mask (s : State) (die code : Nat) (part : Option Nat) (n : Nat) {m0 : Nat} (hw : 1165491052494850 &&& m0 = 1165491052494850) :
    (State.bumpDie s die code part n).mask m0 = s.mask m0 := by
  refine mask_mono hw ?_
  unfold State.bumpDie
  repeat' first
    | with_reducible rfl
    | with_reducible refine mask_ite_eq ?_ ?_
    | with_reducible refine mask_ite_snd_eq ?_ ?_
    | (simp (disch := decide) only [State.raise_mask, bumpDieBy_raise_mask, mask_ite, mask_ite_snd, ite_self]; done)
    | dsimp only
    | (with_reducible refine mask_foldl _ (fun s x => ?_) _ _)
    | (with_reducible refine mask_foldl_snd _ (fun s x => ?_) _ _)
    | (with_reducible refine (mask_foldl _ (fun s x => ?_) _ _).trans ?_)
    | (split <;> try (rename_i e; have e2 := congrArg Prod.snd e; dsimp only at e2; subst e2))
    | (simp (disch := decide) only [State.raise_mask, bumpDieBy_raise_mask, mask_ite, mask_ite_snd, ite_self])

theorem State.bumpCore_mask (s : State) (core code n : Nat) {m0 : Nat} (hw : 1165491052494850 &&& m0 = 1165491052494850) :
    (State.bumpCore s core code n).mask m0 = s.mask m0 := by
  refine mask_mono hw ?_
  unfold State.bumpCore
  repeat' first
    | with_reducible rfl
    | with_reducible refine mask_ite_eq ?_ ?_
    | with_reducible refine mask_ite_snd_eq ?_ ?_
    | (simp (disch := decide) only [State.raise_mask, ctrBump_raise_mask, mask_ite, mask_ite_snd, ite_self]; done)
    | dsimp only
    | (with_reducible refine mask_foldl _ (fun s x => ?_) _ _)
    | (with_reducible refine mask_foldl_snd _ (fun s x => ?_) _ _)
    | (with_reducible refine (mask_foldl _ (fun s x => ?_) _ _).trans ?_)
    | (split <;> try (rename_i e; have e2 := congrArg Prod.snd e; dsimp only at e2; subst e2))
    | (simp (disch := decide) only [State.raise_mask, ctrBump_raise_mask, mask_ite, mask_ite_snd, ite_self])

theorem State.raisePart_mask (s : State) (die p k detail : Nat) {m0 : Nat} (hw : 1165491052494850 &&& m0 = 1165491052494850) :
    (State.raisePart s die p k detail).mask m0 = s.mask m0 := by
  refine mask_mono hw ?_
  unfold State.raisePart
  repeat' first
    | with_reducible rfl
    | with_reducible refine mask_ite_eq ?_ ?_
    | with_reducible refine mask_ite_snd_eq ?_ ?_
    | (simp (disch := decide) only [State.raise_mask, mask_ite, mask_ite_snd, ite_self]; done)
    | dsimp only
    | (with_reducible refine mask_foldl _ (fun s x => ?_) _ _)
    | (with_reducible refine mask_foldl_snd _ (fun s x => ?_) _ _)
    | (with_reducible refine (mask_foldl _ (fun s x => ?_) _ _).trans ?_)
    | (split <;> try (rename_i e; have e2 := congrArg Prod.snd e; dsimp only at e2; subst e2))
    | (simp (disch := decide) only [State.raise_mask, mask_ite, mask_ite_snd, ite_self])

theorem State.raiseCore_mask (s : State) (core k detail : Nat) {m0 : Nat} (hw : 1165491052494850 &&& m0 = 1165491052494850) :
    (State.raiseCore s core k detail).mask m0 = s.mask m0 := by
  refine mask_mono hw ?_
  unfold State.raiseCore
  repeat' first
    | with_reducible rfl
    | with_reducible refine mask_ite_eq ?_ ?_
    | with_reducible refine mask_ite_snd_eq ?_ ?_
    | (simp (disch := decide) only [State.raise_mask, mask_ite, mask_ite_snd, ite_self]; done)
    | dsimp only
    | (with_reducible refine mask_foldl _ (fun s x => ?_) _ _)
    | (with_reducible refine mask_foldl_snd _ (fun s x => ?_) _ _)
    | (with_reducible refine (mask_foldl _ (fun s x => ?_) _ _).trans ?_)
    | (split <;> try (rename_i e; have e2 := congrArg Prod.snd e; dsimp only at e2; subst e2))
    | (simp (disch := decide) only [State.raise_mask, mask_ite, mask_ite_snd, ite_self])

theorem State.creditWriteBack_mask (s : State) (q : Nat) {m0 : Nat} (hw : 1165491052494850 &&& m0 = 1165491052494850) :
    (State.creditWriteBack s q).mask m0 = s.mask m0 := by
  refine mask_mono hw ?_
  unfold State.creditWriteBack
  repeat' first
    | with_reducible rfl
    | with_reducible refine mask_ite_eq ?_ ?_
    | with_reducible refine mask_ite_snd_eq ?_ ?_
    | (simp (disch := decide) only [State.raise_mask, creditWriteBackBy_raise_mask, mask_ite, mask_ite_snd, ite_self]; done)
    | dsimp only
    | (with_reducible refine mask_foldl _ (fun s x => ?_) _ _)
    | (with_reducible refine mask_foldl_snd _ (fun s x => ?_) _ _)
    | (with_reducible refine (mask_foldl _ (fun s x => ?_) _ _).trans ?_)
    | (split <;> try (rename_i e; have e2 := congrArg Prod.snd e; dsimp only at e2; subst e2))
    | (simp (disch := decide) only [State.raise_mask, creditWriteBackBy_raise_mask, mask_ite, mask_ite_snd, ite_self])

theorem State.reserveRecord_mask (s : State) (q : Nat) {m0 : Nat} (hw : 1165491052494850 &&& m0 = 1165491052494850) :
    (State.reserveRecord s q).mask m0 = s.mask m0 := by
  refine mask_mono hw ?_
  unfold State.reserveRecord
  repeat' first
    | with_reducible rfl
    | with_reducible refine mask_ite_eq ?_ ?_
    | with_reducible refine mask_ite_snd_eq ?_ ?_
    | (simp (disch := decide) only [State.raise_mask, reserveRecordBy_raise_mask, mask_ite, mask_ite_snd, ite_self]; done)
    | dsimp only
    | (with_reducible refine mask_foldl _ (fun s x => ?_) _ _)
    | (with_reducible refine mask_foldl_snd _ (fun s x => ?_) _ _)
    | (with_reducible refine (mask_foldl _ (fun s x => ?_) _ _).trans ?_)
    | (split <;> try (rename_i e; have e2 := congrArg Prod.snd e; dsimp only at e2; subst e2))
    | (simp (disch := decide) only [State.raise_mask, reserveRecordBy_raise_mask, mask_ite, mask_ite_snd, ite_self])

theorem State.putRecord_mask (s : State) (q pos r : Nat) {m0 : Nat} (hw : 1165491052494850 &&& m0 = 1165491052494850) :
    (State.putRecord s q pos r).mask m0 = s.mask m0 := by
  refine mask_mono hw ?_
  unfold State.putRecord
  repeat' first
    | with_reducible rfl
    | with_reducible refine mask_ite_eq ?_ ?_
    | with_reducible refine mask_ite_snd_eq ?_ ?_
    | (simp (disch := decide) only [State.raise_mask, putRecordBy_raise_mask, mask_ite, mask_ite_snd, ite_self]; done)
    | dsimp only
    | (with_reducible refine mask_foldl _ (fun s x => ?_) _ _)
    | (with_reducible refine mask_foldl_snd _ (fun s x => ?_) _ _)
    | (with_reducible refine (mask_foldl _ (fun s x => ?_) _ _).trans ?_)
    | (split <;> try (rename_i e; have e2 := congrArg Prod.snd e; dsimp only at e2; subst e2))
    | (simp (disch := decide) only [State.raise_mask, putRecordBy_raise_mask, mask_ite, mask_ite_snd, ite_self])

theorem State.countLines_mask (s : State) (code p : Nat) (xs : List (Nat × Nat × Nat)) {m0 : Nat} (hw : 1165491052494850 &&& m0 = 1165491052494850) :
    (State.countLines s code p xs).mask m0 = s.mask m0 := by
  refine mask_mono hw ?_
  unfold State.countLines
  repeat' first
    | with_reducible rfl
    | with_reducible refine mask_ite_eq ?_ ?_
    | with_reducible refine mask_ite_snd_eq ?_ ?_
    | (simp (disch := decide) only [State.raise_mask, countLinesBy_raise_mask, mask_ite, mask_ite_snd, ite_self]; done)
    | dsimp only
    | (with_reducible refine mask_foldl _ (fun s x => ?_) _ _)
    | (with_reducible refine mask_foldl_snd _ (fun s x => ?_) _ _)
    | (with_reducible refine (mask_foldl _ (fun s x => ?_) _ _).trans ?_)
    | (split <;> try (rename_i e; have e2 := congrArg Prod.snd e; dsimp only at e2; subst e2))
    | (simp (disch := decide) only [State.raise_mask, countLinesBy_raise_mask, mask_ite, mask_ite_snd, ite_self])

theorem State.pwrite_mask (s : State) (die p a : Nat) (bs : List (Byte × Bool)) {m0 : Nat} (hw : 1165491052494850 &&& m0 = 1165491052494850) :
    (State.pwrite s die p a bs).2.mask m0 = s.mask m0 := by
  refine mask_mono hw ?_
  unfold State.pwrite
  repeat' first
    | with_reducible rfl
    | with_reducible refine mask_ite_eq ?_ ?_
    | with_reducible refine mask_ite_snd_eq ?_ ?_
    | (simp (disch := decide) only [State.raise_mask, pwriteBy_raise_mask, mask_ite, mask_ite_snd, ite_self]; done)
    | dsimp only
    | (with_reducible refine mask_foldl _ (fun s x => ?_) _ _)
    | (with_reducible refine mask_foldl_snd _ (fun s x => ?_) _ _)
    | (with_reducible refine (mask_foldl _ (fun s x => ?_) _ _).trans ?_)
    | (split <;> try (rename_i e; have e2 := congrArg Prod.snd e; dsimp only at e2; subst e2))
    | (simp (disch := decide) only [State.raise_mask, pwriteBy_raise_mask, mask_ite, mask_ite_snd, ite_self])

theorem State.translationFault_mask (s : State) (die p a : Nat) {m0 : Nat} (hw : 1165491052494850 &&& m0 = 1165491052494850) :
    (State.translationFault s die p a).mask m0 = s.mask m0 := by
  refine mask_mono hw ?_
  unfold State.translationFault
  repeat' first
    | with_reducible rfl
    | with_reducible refine mask_ite_eq ?_ ?_
    | with_reducible refine mask_ite_snd_eq ?_ ?_
    | (simp (disch := decide) only [State.raisePart_mask, mask_ite, mask_ite_snd, ite_self]; done)
    | dsimp only
    | (with_reducible refine mask_foldl _ (fun s x => ?_) _ _)
    | (with_reducible refine mask_foldl_snd _ (fun s x => ?_) _ _)
    | (with_reducible refine (mask_foldl _ (fun s x => ?_) _ _).trans ?_)
    | (split <;> try (rename_i e; have e2 := congrArg Prod.snd e; dsimp only at e2; subst e2))
    | (simp (disch := decide) only [State.raisePart_mask, mask_ite, mask_ite_snd, ite_self])

theorem State.pread_mask (s : State) (die p a n : Nat) {m0 : Nat} (hw : 1165491052494850 &&& m0 = 1165491052494850) :
    (State.pread s die p a n).2.mask m0 = s.mask m0 := by
  refine mask_mono hw ?_
  unfold State.pread
  repeat' first
    | with_reducible rfl
    | with_reducible refine mask_ite_eq ?_ ?_
    | with_reducible refine mask_ite_snd_eq ?_ ?_
    | (simp (disch := decide) only [State.bumpDie_mask, State.countLines_mask, State.extent_mask, State.takePieces_mask, State.translationFault_mask, mask_ite, mask_ite_snd, ite_self]; done)
    | dsimp only
    | (with_reducible refine mask_foldl _ (fun s x => ?_) _ _)
    | (with_reducible refine mask_foldl_snd _ (fun s x => ?_) _ _)
    | (with_reducible refine (mask_foldl _ (fun s x => ?_) _ _).trans ?_)
    | (split <;> try (rename_i e; have e2 := congrArg Prod.snd e; dsimp only at e2; subst e2))
    | (simp (disch := decide) only [State.bumpDie_mask, State.countLines_mask, State.extent_mask, State.takePieces_mask, State.translationFault_mask, mask_ite, mask_ite_snd, ite_self])

theorem State.pcheck_mask (s : State) (die p a n : Nat) (write : Bool) {m0 : Nat} (hw : 1165491052494850 &&& m0 = 1165491052494850) :
    (State.pcheck s die p a n write).2.mask m0 = s.mask m0 := by
  refine mask_mono hw ?_
  unfold State.pcheck
  repeat' first
    | with_reducible rfl
    | with_reducible refine mask_ite_eq ?_ ?_
    | with_reducible refine mask_ite_snd_eq ?_ ?_
    | (simp (disch := decide) only [State.extent_mask, State.translationFault_mask, mask_ite, mask_ite_snd, ite_self]; done)
    | dsimp only
    | (with_reducible refine mask_foldl _ (fun s x => ?_) _ _)
    | (with_reducible refine mask_foldl_snd _ (fun s x => ?_) _ _)
    | (with_reducible refine (mask_foldl _ (fun s x => ?_) _ _).trans ?_)
    | (split <;> try (rename_i e; have e2 := congrArg Prod.snd e; dsimp only at e2; subst e2))
    | (simp (disch := decide) only [State.extent_mask, State.translationFault_mask, mask_ite, mask_ite_snd, ite_self])

end Sys2Proof.Machine
end

