-- ==== Sys2Proof/Laws/Frame/Store.lean ====
section
/-!
SUPPORT. Frames of Machine/Store.lean: the fields that each function may change, as a mask.
-/
namespace Sys2Proof.Machine

open Sys2Proof

set_option linter.unusedSimpArgs false

theorem State.keepCounts_mask (s : State) (items : List Nat) {m0 : Nat} (hw : 70368744177664 &&& m0 = 70368744177664) :
    (State.keepCounts s items).mask m0 = s.mask m0 := by
  refine mask_mono hw ?_
  unfold State.keepCounts
  repeat' first
    | with_reducible rfl
    | with_reducible refine mask_ite_eq ?_ ?_
    | with_reducible refine mask_ite_snd_eq ?_ ?_
    | (simp (disch := decide) only [setRel_mask, mask_ite, mask_ite_snd, ite_self]; done)
    | dsimp only
    | (with_reducible refine mask_foldl _ (fun s x => ?_) _ _)
    | (with_reducible refine mask_foldl_snd _ (fun s x => ?_) _ _)
    | (with_reducible refine (mask_foldl _ (fun s x => ?_) _ _).trans ?_)
    | (split <;> try (rename_i e; have e2 := congrArg Prod.snd e; dsimp only at e2; subst e2))
    | (simp (disch := decide) only [setRel_mask, mask_ite, mask_ite_snd, ite_self])

theorem State.psCommit_mask (s : State) (items : List Nat) (ok : Bool) {m0 : Nat} (hw : 1759218604441600 &&& m0 = 1759218604441600) :
    (State.psCommit s items ok).2.mask m0 = s.mask m0 := by
  refine mask_mono hw ?_
  unfold State.psCommit
  repeat' first
    | with_reducible rfl
    | with_reducible refine mask_ite_eq ?_ ?_
    | with_reducible refine mask_ite_snd_eq ?_ ?_
    | (simp (disch := decide) only [setStore_mask, State.keepCounts_mask, State.odInc_mask, mask_ite, mask_ite_snd, ite_self]; done)
    | dsimp only
    | (with_reducible refine mask_foldl _ (fun s x => ?_) _ _)
    | (with_reducible refine mask_foldl_snd _ (fun s x => ?_) _ _)
    | (with_reducible refine (mask_foldl _ (fun s x => ?_) _ _).trans ?_)
    | (split <;> try (rename_i e; have e2 := congrArg Prod.snd e; dsimp only at e2; subst e2))
    | (simp (disch := decide) only [setStore_mask, State.keepCounts_mask, State.odInc_mask, mask_ite, mask_ite_snd, ite_self])

theorem State.commit_mask (s : State) (items : List Nat) {m0 : Nat} (hw : 1759218604441600 &&& m0 = 1759218604441600) :
    (State.commit s items).mask m0 = s.mask m0 := by
  refine mask_mono hw ?_
  unfold State.commit
  repeat' first
    | with_reducible rfl
    | with_reducible refine mask_ite_eq ?_ ?_
    | with_reducible refine mask_ite_snd_eq ?_ ?_
    | (simp (disch := decide) only [State.psCommit_mask, mask_ite, mask_ite_snd, ite_self]; done)
    | dsimp only
    | (with_reducible refine mask_foldl _ (fun s x => ?_) _ _)
    | (with_reducible refine mask_foldl_snd _ (fun s x => ?_) _ _)
    | (with_reducible refine (mask_foldl _ (fun s x => ?_) _ _).trans ?_)
    | (split <;> try (rename_i e; have e2 := congrArg Prod.snd e; dsimp only at e2; subst e2))
    | (simp (disch := decide) only [State.psCommit_mask, mask_ite, mask_ite_snd, ite_self])

theorem State.compactionDone_mask (s : State) {m0 : Nat} (hw : 1759218604441600 &&& m0 = 1759218604441600) :
    (State.compactionDone s).mask m0 = s.mask m0 := by
  refine mask_mono hw ?_
  unfold State.compactionDone
  repeat' first
    | with_reducible rfl
    | with_reducible refine mask_ite_eq ?_ ?_
    | with_reducible refine mask_ite_snd_eq ?_ ?_
    | (simp (disch := decide) only [setStore_mask, State.keepCounts_mask, State.odInc_mask, mask_ite, mask_ite_snd, ite_self]; done)
    | dsimp only
    | (with_reducible refine mask_foldl _ (fun s x => ?_) _ _)
    | (with_reducible refine mask_foldl_snd _ (fun s x => ?_) _ _)
    | (with_reducible refine (mask_foldl _ (fun s x => ?_) _ _).trans ?_)
    | (split <;> try (rename_i e; have e2 := congrArg Prod.snd e; dsimp only at e2; subst e2))
    | (simp (disch := decide) only [setStore_mask, State.keepCounts_mask, State.odInc_mask, mask_ite, mask_ite_snd, ite_self])

theorem State.psStop_mask (s : State) (torn : List Nat) {m0 : Nat} (hw : 1759218604441600 &&& m0 = 1759218604441600) :
    (State.psStop s torn).mask m0 = s.mask m0 := by
  refine mask_mono hw ?_
  unfold State.psStop
  repeat' first
    | with_reducible rfl
    | with_reducible refine mask_ite_eq ?_ ?_
    | with_reducible refine mask_ite_snd_eq ?_ ?_
    | (simp (disch := decide) only [setStore_mask, State.keepCounts_mask, State.odInc_mask, mask_ite, mask_ite_snd, ite_self]; done)
    | dsimp only
    | (with_reducible refine mask_foldl _ (fun s x => ?_) _ _)
    | (with_reducible refine mask_foldl_snd _ (fun s x => ?_) _ _)
    | (with_reducible refine (mask_foldl _ (fun s x => ?_) _ _).trans ?_)
    | (split <;> try (rename_i e; have e2 := congrArg Prod.snd e; dsimp only at e2; subst e2))
    | (simp (disch := decide) only [setStore_mask, State.keepCounts_mask, State.odInc_mask, mask_ite, mask_ite_snd, ite_self])

theorem State.psTorn_mask (s : State) (torn : List Nat) {m0 : Nat} (hw : 1759218604441600 &&& m0 = 1759218604441600) :
    (State.psTorn s torn).mask m0 = s.mask m0 := by
  refine mask_mono hw ?_
  unfold State.psTorn
  repeat' first
    | with_reducible rfl
    | with_reducible refine mask_ite_eq ?_ ?_
    | with_reducible refine mask_ite_snd_eq ?_ ?_
    | (simp (disch := decide) only [setRel_mask, setStore_mask, State.odInc_mask, State.odSet_mask, mask_ite, mask_ite_snd, ite_self]; done)
    | dsimp only
    | (with_reducible refine mask_foldl _ (fun s x => ?_) _ _)
    | (with_reducible refine mask_foldl_snd _ (fun s x => ?_) _ _)
    | (with_reducible refine (mask_foldl _ (fun s x => ?_) _ _).trans ?_)
    | (split <;> try (rename_i e; have e2 := congrArg Prod.snd e; dsimp only at e2; subst e2))
    | (simp (disch := decide) only [setRel_mask, setStore_mask, State.odInc_mask, State.odSet_mask, mask_ite, mask_ite_snd, ite_self])

theorem State.selectBank_mask (s : State) {m0 : Nat} (hw : 562949953421312 &&& m0 = 562949953421312) :
    (State.selectBank s).2.mask m0 = s.mask m0 := by
  refine mask_mono hw ?_
  unfold State.selectBank
  repeat' first
    | with_reducible rfl
    | with_reducible refine mask_ite_eq ?_ ?_
    | with_reducible refine mask_ite_snd_eq ?_ ?_
    | (simp (disch := decide) only [setStore_mask, mask_ite, mask_ite_snd, ite_self]; done)
    | dsimp only
    | (with_reducible refine mask_foldl _ (fun s x => ?_) _ _)
    | (with_reducible refine mask_foldl_snd _ (fun s x => ?_) _ _)
    | (with_reducible refine (mask_foldl _ (fun s x => ?_) _ _).trans ?_)
    | (split <;> try (rename_i e; have e2 := congrArg Prod.snd e; dsimp only at e2; subst e2))
    | (simp (disch := decide) only [setStore_mask, mask_ite, mask_ite_snd, ite_self])

end Sys2Proof.Machine
end

