-- ==== Sys2Proof/Laws/Frame/Reliability.lean ====
section
/-!
SUPPORT. Frames of Machine/Reliability.lean: the fields that each function may change, as a mask.
-/
namespace Sys2Proof.Machine

open Sys2Proof

set_option linter.unusedSimpArgs false

theorem State.measure_mask (s : State) (kind unit : Nat) {m0 : Nat} (hw : 70368744177664 &&& m0 = 70368744177664) :
    (State.measure s kind unit).mask m0 = s.mask m0 := by
  refine mask_mono hw ?_
  unfold State.measure
  repeat' first
    | with_reducible rfl
    | with_reducible refine mask_ite_eq ?_ ?_
    | with_reducible refine mask_ite_snd_eq ?_ ?_
    | (simp (disch := decide) only [setRel_mask, mask_ite, mask_ite_snd, ite_self]; done)
    | dsimp only
    | (with_reducible refine mask_foldl _ (fun s x => ?_) _ _)
    | (with_reducible refine mask_foldl_snd _ (fun s x => ?_) _ _)
    | (with_reducible refine (mask_foldl _ (fun s x => ?_) _ _).trans ?_)
    | (split <;> try (rename_i e; have e2 := congrArg Prod.snd e; dsimp only at e2; subst e2))
    | (simp (disch := decide) only [setRel_mask, mask_ite, mask_ite_snd, ite_self])

theorem State.foretell_mask (s : State) {m0 : Nat} (hw : 70368744177664 &&& m0 = 70368744177664) :
    (State.foretell s).mask m0 = s.mask m0 := by
  refine mask_mono hw ?_
  unfold State.foretell
  repeat' first
    | with_reducible rfl
    | with_reducible refine mask_ite_eq ?_ ?_
    | with_reducible refine mask_ite_snd_eq ?_ ?_
    | (simp (disch := decide) only [setRel_mask, mask_ite, mask_ite_snd, ite_self]; done)
    | dsimp only
    | (with_reducible refine mask_foldl _ (fun s x => ?_) _ _)
    | (with_reducible refine mask_foldl_snd _ (fun s x => ?_) _ _)
    | (with_reducible refine (mask_foldl _ (fun s x => ?_) _ _).trans ?_)
    | (split <;> try (rename_i e; have e2 := congrArg Prod.snd e; dsimp only at e2; subst e2))
    | (simp (disch := decide) only [setRel_mask, mask_ite, mask_ite_snd, ite_self])

theorem State.force_mask (s : State) (c : Nat) (on : Bool) {m0 : Nat} (hw : 70368744177664 &&& m0 = 70368744177664) :
    (State.force s c on).mask m0 = s.mask m0 := by
  refine mask_mono hw ?_
  unfold State.force
  repeat' first
    | with_reducible rfl
    | with_reducible refine mask_ite_eq ?_ ?_
    | with_reducible refine mask_ite_snd_eq ?_ ?_
    | (simp (disch := decide) only [setRel_mask, mask_ite, mask_ite_snd, ite_self]; done)
    | dsimp only
    | (with_reducible refine mask_foldl _ (fun s x => ?_) _ _)
    | (with_reducible refine mask_foldl_snd _ (fun s x => ?_) _ _)
    | (with_reducible refine (mask_foldl _ (fun s x => ?_) _ _).trans ?_)
    | (split <;> try (rename_i e; have e2 := congrArg Prod.snd e; dsimp only at e2; subst e2))
    | (simp (disch := decide) only [setRel_mask, mask_ite, mask_ite_snd, ite_self])

theorem State.setAgeing_mask (s : State) (xs : List Int) {m0 : Nat} (hw : 8192 &&& m0 = 8192) :
    (State.setAgeing s xs).mask m0 = s.mask m0 := by
  refine mask_mono hw ?_
  unfold State.setAgeing
  repeat' first
    | with_reducible rfl
    | with_reducible refine mask_ite_eq ?_ ?_
    | with_reducible refine mask_ite_snd_eq ?_ ?_
    | (simp (disch := decide) only [State.updCore_mask, mask_ite, mask_ite_snd, ite_self]; done)
    | dsimp only
    | (with_reducible refine mask_foldl _ (fun s x => ?_) _ _)
    | (with_reducible refine mask_foldl_snd _ (fun s x => ?_) _ _)
    | (with_reducible refine (mask_foldl _ (fun s x => ?_) _ _).trans ?_)
    | (split <;> try (rename_i e; have e2 := congrArg Prod.snd e; dsimp only at e2; subst e2))
    | (simp (disch := decide) only [State.updCore_mask, mask_ite, mask_ite_snd, ite_self])

theorem State.charge_mask (s : State) (kind unit : Nat) {m0 : Nat} (hw : 1196268651020288 &&& m0 = 1196268651020288) :
    (State.charge s kind unit).mask m0 = s.mask m0 := by
  refine mask_mono hw ?_
  unfold State.charge
  repeat' first
    | with_reducible rfl
    | with_reducible refine mask_ite_eq ?_ ?_
    | with_reducible refine mask_ite_snd_eq ?_ ?_
    | (simp (disch := decide) only [setRel_mask, State.odInc_mask, mask_ite, mask_ite_snd, ite_self]; done)
    | dsimp only
    | (with_reducible refine mask_foldl _ (fun s x => ?_) _ _)
    | (with_reducible refine mask_foldl_snd _ (fun s x => ?_) _ _)
    | (with_reducible refine (mask_foldl _ (fun s x => ?_) _ _).trans ?_)
    | (split <;> try (rename_i e; have e2 := congrArg Prod.snd e; dsimp only at e2; subst e2))
    | (simp (disch := decide) only [setRel_mask, State.odInc_mask, mask_ite, mask_ite_snd, ite_self])

theorem State.takeNumber_mask (s : State) {m0 : Nat} (hw : 1759218604441600 &&& m0 = 1759218604441600) :
    (State.takeNumber s).2.mask m0 = s.mask m0 := by
  refine mask_mono hw ?_
  unfold State.takeNumber
  repeat' first
    | with_reducible rfl
    | with_reducible refine mask_ite_eq ?_ ?_
    | with_reducible refine mask_ite_snd_eq ?_ ?_
    | (simp (disch := decide) only [setRel_mask, State.commit_mask, mask_ite, mask_ite_snd, ite_self]; done)
    | dsimp only
    | (with_reducible refine mask_foldl _ (fun s x => ?_) _ _)
    | (with_reducible refine mask_foldl_snd _ (fun s x => ?_) _ _)
    | (with_reducible refine (mask_foldl _ (fun s x => ?_) _ _).trans ?_)
    | (split <;> try (rename_i e; have e2 := congrArg Prod.snd e; dsimp only at e2; subst e2))
    | (simp (disch := decide) only [setRel_mask, State.commit_mask, mask_ite, mask_ite_snd, ite_self])

theorem State.parkDraw_mask (s : State) (n : Nat) {m0 : Nat} (hw : 34359738368 &&& m0 = 34359738368) :
    (State.parkDraw s n).mask m0 = s.mask m0 := by
  refine mask_mono hw ?_
  unfold State.parkDraw
  repeat' first
    | with_reducible rfl
    | with_reducible refine mask_ite_eq ?_ ?_
    | with_reducible refine mask_ite_snd_eq ?_ ?_
    | (simp (disch := decide) only [setPark_mask, mask_ite, mask_ite_snd, ite_self]; done)
    | dsimp only
    | (with_reducible refine mask_foldl _ (fun s x => ?_) _ _)
    | (with_reducible refine mask_foldl_snd _ (fun s x => ?_) _ _)
    | (with_reducible refine (mask_foldl _ (fun s x => ?_) _ _).trans ?_)
    | (split <;> try (rename_i e; have e2 := congrArg Prod.snd e; dsimp only at e2; subst e2))
    | (simp (disch := decide) only [setPark_mask, mask_ite, mask_ite_snd, ite_self])

theorem State.failRecord_mask (s : State) (die cause kind unit : Nat) (part : Option Nat) (flags : Nat) (detail : List (Nat × DVal)) {m0 : Nat} (hw : 1763651010691072 &&& m0 = 1763651010691072) :
    (State.failRecord s die cause kind unit part flags detail).mask m0 = s.mask m0 := by
  refine mask_mono hw ?_
  unfold State.failRecord
  repeat' first
    | with_reducible rfl
    | with_reducible refine mask_ite_eq ?_ ?_
    | with_reducible refine mask_ite_snd_eq ?_ ?_
    | (simp (disch := decide) only [setRel_mask, State.mbxSend_mask, State.odInc_mask, State.odSet_mask, State.parkDraw_mask, State.takeNumber_mask, mask_ite, mask_ite_snd, ite_self]; done)
    | dsimp only
    | (with_reducible refine mask_foldl _ (fun s x => ?_) _ _)
    | (with_reducible refine mask_foldl_snd _ (fun s x => ?_) _ _)
    | (with_reducible refine (mask_foldl _ (fun s x => ?_) _ _).trans ?_)
    | (split <;> try (rename_i e; have e2 := congrArg Prod.snd e; dsimp only at e2; subst e2))
    | (simp (disch := decide) only [setRel_mask, State.mbxSend_mask, State.odInc_mask, State.odSet_mask, State.parkDraw_mask, State.takeNumber_mask, mask_ite, mask_ite_snd, ite_self])

theorem State.storeRecord_mask (s : State) (causes : List Nat) (kind unit flags : Nat) (detail : List (Nat × DVal)) {m0 : Nat} (hw : 1759218604441600 &&& m0 = 1759218604441600) :
    (State.storeRecord s causes kind unit flags detail).mask m0 = s.mask m0 := by
  refine mask_mono hw ?_
  unfold State.storeRecord
  repeat' first
    | with_reducible rfl
    | with_reducible refine mask_ite_eq ?_ ?_
    | with_reducible refine mask_ite_snd_eq ?_ ?_
    | (simp (disch := decide) only [setRel_mask, State.odSet_mask, State.takeNumber_mask, mask_ite, mask_ite_snd, ite_self]; done)
    | dsimp only
    | (with_reducible refine mask_foldl _ (fun s x => ?_) _ _)
    | (with_reducible refine mask_foldl_snd _ (fun s x => ?_) _ _)
    | (with_reducible refine (mask_foldl _ (fun s x => ?_) _ _).trans ?_)
    | (split <;> try (rename_i e; have e2 := congrArg Prod.snd e; dsimp only at e2; subst e2))
    | (simp (disch := decide) only [setRel_mask, State.odSet_mask, State.takeNumber_mask, mask_ite, mask_ite_snd, ite_self])

theorem State.copyStopRecord_mask (s : State) {m0 : Nat} (hw : 70403103916032 &&& m0 = 70403103916032) :
    (State.copyStopRecord s).mask m0 = s.mask m0 := by
  refine mask_mono hw ?_
  unfold State.copyStopRecord
  repeat' first
    | with_reducible rfl
    | with_reducible refine mask_ite_eq ?_ ?_
    | with_reducible refine mask_ite_snd_eq ?_ ?_
    | (simp (disch := decide) only [setRel_mask, State.parkDraw_mask, mask_ite, mask_ite_snd, ite_self]; done)
    | dsimp only
    | (with_reducible refine mask_foldl _ (fun s x => ?_) _ _)
    | (with_reducible refine mask_foldl_snd _ (fun s x => ?_) _ _)
    | (with_reducible refine (mask_foldl _ (fun s x => ?_) _ _).trans ?_)
    | (split <;> try (rename_i e; have e2 := congrArg Prod.snd e; dsimp only at e2; subst e2))
    | (simp (disch := decide) only [setRel_mask, State.parkDraw_mask, mask_ite, mask_ite_snd, ite_self])

theorem State.wearLimitCheck_mask (s : State) (kind unit : Nat) {m0 : Nat} (hw : 1763651010691072 &&& m0 = 1763651010691072) :
    (State.wearLimitCheck s kind unit).mask m0 = s.mask m0 := by
  refine mask_mono hw ?_
  unfold State.wearLimitCheck
  repeat' first
    | with_reducible rfl
    | with_reducible refine mask_ite_eq ?_ ?_
    | with_reducible refine mask_ite_snd_eq ?_ ?_
    | (simp (disch := decide) only [setRel_mask, State.commit_mask, State.failRecord_mask, mask_ite, mask_ite_snd, ite_self]; done)
    | dsimp only
    | (with_reducible refine mask_foldl _ (fun s x => ?_) _ _)
    | (with_reducible refine mask_foldl_snd _ (fun s x => ?_) _ _)
    | (with_reducible refine (mask_foldl _ (fun s x => ?_) _ _).trans ?_)
    | (split <;> try (rename_i e; have e2 := congrArg Prod.snd e; dsimp only at e2; subst e2))
    | (simp (disch := decide) only [setRel_mask, State.commit_mask, State.failRecord_mask, mask_ite, mask_ite_snd, ite_self])

end Sys2Proof.Machine
end

