-- ==== Sys2Proof/Laws/Frame/Lines.lean ====
section
/-!
SUPPORT. Frames of Machine/Lines.lean: the fields that each function may change, as a mask.
-/
namespace Sys2Proof.Machine

open Sys2Proof

set_option linter.unusedSimpArgs false

theorem State.ownerInc_mask (s : State) (p : Option Nat) (off sub n : Nat) {m0 : Nat} (hw : 1125899906842624 &&& m0 = 1125899906842624) :
    (State.ownerInc s p off sub n).mask m0 = s.mask m0 := by
  refine mask_mono hw ?_
  unfold State.ownerInc
  repeat' first
    | with_reducible rfl
    | with_reducible refine mask_ite_eq ?_ ?_
    | with_reducible refine mask_ite_snd_eq ?_ ?_
    | (simp (disch := decide) only [State.odInc_mask, mask_ite, mask_ite_snd, ite_self]; done)
    | dsimp only
    | (with_reducible refine mask_foldl _ (fun s x => ?_) _ _)
    | (with_reducible refine mask_foldl_snd _ (fun s x => ?_) _ _)
    | (with_reducible refine (mask_foldl _ (fun s x => ?_) _ _).trans ?_)
    | (split <;> try (rename_i e; have e2 := congrArg Prod.snd e; dsimp only at e2; subst e2))
    | (simp (disch := decide) only [State.odInc_mask, mask_ite, mask_ite_snd, ite_self])

theorem State.checkComplement_mask (s : State) {m0 : Nat} (hw : 70368744177664 &&& m0 = 70368744177664) :
    (State.checkComplement s).mask m0 = s.mask m0 := by
  refine mask_mono hw ?_
  unfold State.checkComplement
  repeat' first
    | with_reducible rfl
    | with_reducible refine mask_ite_eq ?_ ?_
    | with_reducible refine mask_ite_snd_eq ?_ ?_
    | (simp (disch := decide) only [State.force_mask, State.foretell_mask, mask_ite, mask_ite_snd, ite_self]; done)
    | dsimp only
    | (with_reducible refine mask_foldl _ (fun s x => ?_) _ _)
    | (with_reducible refine mask_foldl_snd _ (fun s x => ?_) _ _)
    | (with_reducible refine (mask_foldl _ (fun s x => ?_) _ _).trans ?_)
    | (split <;> try (rename_i e; have e2 := congrArg Prod.snd e; dsimp only at e2; subst e2))
    | (simp (disch := decide) only [State.force_mask, State.foretell_mask, mask_ite, mask_ite_snd, ite_self])

theorem State.markBank_mask (s : State) (n bank corrected bad : Nat) {m0 : Nat} (hw : 1798844109840386 &&& m0 = 1798844109840386) :
    (State.markBank s n bank corrected bad).mask m0 = s.mask m0 := by
  refine mask_mono hw ?_
  unfold State.markBank
  repeat' first
    | with_reducible rfl
    | with_reducible refine mask_ite_eq ?_ ?_
    | with_reducible refine mask_ite_snd_eq ?_ ?_
    | (simp (disch := decide) only [State.commit_mask, State.failRecord_mask, State.force_mask, State.measure_mask, State.putCore_mask, State.raiseCore_mask, State.wearLimitCheck_mask, mask_ite, mask_ite_snd, ite_self]; done)
    | dsimp only
    | (with_reducible refine mask_foldl _ (fun s x => ?_) _ _)
    | (with_reducible refine mask_foldl_snd _ (fun s x => ?_) _ _)
    | (with_reducible refine (mask_foldl _ (fun s x => ?_) _ _).trans ?_)
    | (split <;> try (rename_i e; have e2 := congrArg Prod.snd e; dsimp only at e2; subst e2))
    | (simp (disch := decide) only [State.commit_mask, State.failRecord_mask, State.force_mask, State.measure_mask, State.putCore_mask, State.raiseCore_mask, State.wearLimitCheck_mask, mask_ite, mask_ite_snd, ite_self])

theorem State.spadCount_mask (s : State) (n line : Nat) (bad : Bool) {m0 : Nat} (hw : 1798844109840386 &&& m0 = 1798844109840386) :
    (State.spadCount s n line bad).mask m0 = s.mask m0 := by
  refine mask_mono hw ?_
  unfold State.spadCount
  repeat' first
    | with_reducible rfl
    | with_reducible refine mask_ite_eq ?_ ?_
    | with_reducible refine mask_ite_snd_eq ?_ ?_
    | (simp (disch := decide) only [State.charge_mask, State.markBank_mask, State.odInc_mask, State.ownerInc_mask, State.putCore_mask, mask_ite, mask_ite_snd, ite_self]; done)
    | dsimp only
    | (with_reducible refine mask_foldl _ (fun s x => ?_) _ _)
    | (with_reducible refine mask_foldl_snd _ (fun s x => ?_) _ _)
    | (with_reducible refine (mask_foldl _ (fun s x => ?_) _ _).trans ?_)
    | (split <;> try (rename_i e; have e2 := congrArg Prod.snd e; dsimp only at e2; subst e2))
    | (simp (disch := decide) only [State.charge_mask, State.markBank_mask, State.odInc_mask, State.ownerInc_mask, State.putCore_mask, mask_ite, mask_ite_snd, ite_self])

theorem State.invalidate_mask (s : State) (key : Nat) {m0 : Nat} (hw : 134217728 &&& m0 = 134217728) :
    (State.invalidate s key).mask m0 = s.mask m0 := by
  refine mask_mono hw ?_
  unfold State.invalidate
  repeat' first
    | with_reducible rfl
    | with_reducible refine mask_ite_eq ?_ ?_
    | with_reducible refine mask_ite_snd_eq ?_ ?_
    | (simp (disch := decide) only [setTlb_mask, mask_ite, mask_ite_snd, ite_self]; done)
    | dsimp only
    | (with_reducible refine mask_foldl _ (fun s x => ?_) _ _)
    | (with_reducible refine mask_foldl_snd _ (fun s x => ?_) _ _)
    | (with_reducible refine (mask_foldl _ (fun s x => ?_) _ _).trans ?_)
    | (split <;> try (rename_i e; have e2 := congrArg Prod.snd e; dsimp only at e2; subst e2))
    | (simp (disch := decide) only [setTlb_mask, mask_ite, mask_ite_snd, ite_self])

theorem State.markMigrating_mask (s : State) (key dst : Nat) {m0 : Nat} (hw : 201326592 &&& m0 = 201326592) :
    (State.markMigrating s key dst).mask m0 = s.mask m0 := by
  refine mask_mono hw ?_
  unfold State.markMigrating
  repeat' first
    | with_reducible rfl
    | with_reducible refine mask_ite_eq ?_ ?_
    | with_reducible refine mask_ite_snd_eq ?_ ?_
    | (simp (disch := decide) only [setPageMaps_mask, State.invalidate_mask, mask_ite, mask_ite_snd, ite_self]; done)
    | dsimp only
    | (with_reducible refine mask_foldl _ (fun s x => ?_) _ _)
    | (with_reducible refine mask_foldl_snd _ (fun s x => ?_) _ _)
    | (with_reducible refine (mask_foldl _ (fun s x => ?_) _ _).trans ?_)
    | (split <;> try (rename_i e; have e2 := congrArg Prod.snd e; dsimp only at e2; subst e2))
    | (simp (disch := decide) only [setPageMaps_mask, State.invalidate_mask, mask_ite, mask_ite_snd, ite_self])

theorem State.beginRetire_mask (s : State) (n trigger : Nat) {m0 : Nat} (hw : 1798827013849090 &&& m0 = 1798827013849090) :
    (State.beginRetire s n trigger).mask m0 = s.mask m0 := by
  refine mask_mono hw ?_
  unfold State.beginRetire
  repeat' first
    | with_reducible rfl
    | with_reducible refine mask_ite_eq ?_ ?_
    | with_reducible refine mask_ite_snd_eq ?_ ?_
    | (simp (disch := decide) only [setMigr_mask, State.clearUpsets_mask, State.commit_mask, State.force_mask, State.markMigrating_mask, State.odSet_mask, State.raise_mask, State.updPart_mask, State.updSub_mask, mask_ite, mask_ite_snd, ite_self]; done)
    | dsimp only
    | (with_reducible refine mask_foldl _ (fun s x => ?_) _ _)
    | (with_reducible refine mask_foldl_snd _ (fun s x => ?_) _ _)
    | (with_reducible refine (mask_foldl _ (fun s x => ?_) _ _).trans ?_)
    | (split <;> try (rename_i e; have e2 := congrArg Prod.snd e; dsimp only at e2; subst e2))
    | (simp (disch := decide) only [setMigr_mask, State.clearUpsets_mask, State.commit_mask, State.force_mask, State.markMigrating_mask, State.odSet_mask, State.raise_mask, State.updPart_mask, State.updSub_mask, mask_ite, mask_ite_snd, ite_self])

theorem State.retireSub_mask (s : State) (n trigger : Nat) {m0 : Nat} (hw : 1798827047403522 &&& m0 = 1798827047403522) :
    (State.retireSub s n trigger).mask m0 = s.mask m0 := by
  refine mask_mono hw ?_
  unfold State.retireSub
  repeat' first
    | with_reducible rfl
    | with_reducible refine mask_ite_eq ?_ ?_
    | with_reducible refine mask_ite_snd_eq ?_ ?_
    | (simp (disch := decide) only [setMigrQueue_mask, State.beginRetire_mask, mask_ite, mask_ite_snd, ite_self]; done)
    | dsimp only
    | (with_reducible refine mask_foldl _ (fun s x => ?_) _ _)
    | (with_reducible refine mask_foldl_snd _ (fun s x => ?_) _ _)
    | (with_reducible refine (mask_foldl _ (fun s x => ?_) _ _).trans ?_)
    | (split <;> try (rename_i e; have e2 := congrArg Prod.snd e; dsimp only at e2; subst e2))
    | (simp (disch := decide) only [setMigrQueue_mask, State.beginRetire_mask, mask_ite, mask_ite_snd, ite_self])

theorem State.ringSwap_mask (s : State) (a b : Nat) {m0 : Nat} (hw : 8388608 &&& m0 = 8388608) :
    (State.ringSwap s a b).mask m0 = s.mask m0 := by
  refine mask_mono hw ?_
  unfold State.ringSwap
  repeat' first
    | with_reducible rfl
    | with_reducible refine mask_ite_eq ?_ ?_
    | with_reducible refine mask_ite_snd_eq ?_ ?_
    | (simp (disch := decide) only [setRotation_mask, mask_ite, mask_ite_snd, ite_self]; done)
    | dsimp only
    | (with_reducible refine mask_foldl _ (fun s x => ?_) _ _)
    | (with_reducible refine mask_foldl_snd _ (fun s x => ?_) _ _)
    | (with_reducible refine (mask_foldl _ (fun s x => ?_) _ _).trans ?_)
    | (split <;> try (rename_i e; have e2 := congrArg Prod.snd e; dsimp only at e2; subst e2))
    | (simp (disch := decide) only [setRotation_mask, mask_ite, mask_ite_snd, ite_self])

theorem State.retireRoles_mask (s : State) (m : Migr) {m0 : Nat} (hw : 70394525253632 &&& m0 = 70394525253632) :
    (State.retireRoles s m).mask m0 = s.mask m0 := by
  refine mask_mono hw ?_
  unfold State.retireRoles
  repeat' first
    | with_reducible rfl
    | with_reducible refine mask_ite_eq ?_ ?_
    | with_reducible refine mask_ite_snd_eq ?_ ?_
    | (simp (disch := decide) only [setParts_mask, State.checkComplement_mask, State.ringSwap_mask, State.settleWhere_mask, State.updSub_mask, mask_ite, mask_ite_snd, ite_self]; done)
    | dsimp only
    | (with_reducible refine mask_foldl _ (fun s x => ?_) _ _)
    | (with_reducible refine mask_foldl_snd _ (fun s x => ?_) _ _)
    | (with_reducible refine (mask_foldl _ (fun s x => ?_) _ _).trans ?_)
    | (split <;> try (rename_i e; have e2 := congrArg Prod.snd e; dsimp only at e2; subst e2))
    | (simp (disch := decide) only [setParts_mask, State.checkComplement_mask, State.ringSwap_mask, State.settleWhere_mask, State.updSub_mask, mask_ite, mask_ite_snd, ite_self])

theorem State.nextRetire_mask (s : State) (die : Nat) (xs : List (Nat × Nat)) {m0 : Nat} (hw : 1798827047403522 &&& m0 = 1798827047403522) :
    (State.nextRetire s die xs).mask m0 = s.mask m0 := by
  refine mask_mono hw ?_
  clear hw
  induction xs generalizing s with
  | nil =>
    unfold State.nextRetire
    first | rfl | (split <;> rfl)
  | cons x xs ih =>
    unfold State.nextRetire
    repeat' first
      | with_reducible rfl
      | with_reducible refine mask_ite_eq ?_ ?_
      | with_reducible refine mask_ite_snd_eq ?_ ?_
      | (simp (disch := decide) only [setMigrQueue_mask, State.retireSub_mask, mask_ite, mask_ite_snd, ite_self, ih]; done)
      | dsimp only
      | (with_reducible refine mask_foldl _ (fun s x => ?_) _ _)
      | (with_reducible refine mask_foldl_snd _ (fun s x => ?_) _ _)
      | (with_reducible refine (mask_foldl _ (fun s x => ?_) _ _).trans ?_)
      | (split <;> try (rename_i e; have e2 := congrArg Prod.snd e; dsimp only at e2; subst e2))
      | (simp (disch := decide) only [setMigrQueue_mask, State.retireSub_mask, mask_ite, mask_ite_snd, ite_self, ih])

theorem State.degradedDone_mask (s : State) {m0 : Nat} (hw : 1759235792961536 &&& m0 = 1759235792961536) :
    (State.degradedDone s).mask m0 = s.mask m0 := by
  refine mask_mono hw ?_
  unfold State.degradedDone
  repeat' first
    | with_reducible rfl
    | with_reducible refine mask_ite_eq ?_ ?_
    | with_reducible refine mask_ite_snd_eq ?_ ?_
    | (simp (disch := decide) only [setParts_mask, setRotation_mask, State.checkComplement_mask, State.commit_mask, State.force_mask, State.updSub_mask, mask_ite, mask_ite_snd, ite_self]; done)
    | dsimp only
    | (with_reducible refine mask_foldl _ (fun s x => ?_) _ _)
    | (with_reducible refine mask_foldl_snd _ (fun s x => ?_) _ _)
    | (with_reducible refine (mask_foldl _ (fun s x => ?_) _ _).trans ?_)
    | (split <;> try (rename_i e; have e2 := congrArg Prod.snd e; dsimp only at e2; subst e2))
    | (simp (disch := decide) only [setParts_mask, setRotation_mask, State.checkComplement_mask, State.commit_mask, State.force_mask, State.updSub_mask, mask_ite, mask_ite_snd, ite_self])

theorem State.repairRow_mask (s : State) (n row : Nat) {m0 : Nat} (hw : 1798827047403522 &&& m0 = 1798827047403522) :
    (State.repairRow s n row).mask m0 = s.mask m0 := by
  refine mask_mono hw ?_
  unfold State.repairRow
  repeat' first
    | with_reducible rfl
    | with_reducible refine mask_ite_eq ?_ ?_
    | with_reducible refine mask_ite_snd_eq ?_ ?_
    | (simp (disch := decide) only [State.retireSub_mask, State.settleWhere_mask, State.updSub_mask, mask_ite, mask_ite_snd, ite_self]; done)
    | dsimp only
    | (with_reducible refine mask_foldl _ (fun s x => ?_) _ _)
    | (with_reducible refine mask_foldl_snd _ (fun s x => ?_) _ _)
    | (with_reducible refine (mask_foldl _ (fun s x => ?_) _ _).trans ?_)
    | (split <;> try (rename_i e; have e2 := congrArg Prod.snd e; dsimp only at e2; subst e2))
    | (simp (disch := decide) only [State.retireSub_mask, State.settleWhere_mask, State.updSub_mask, mask_ite, mask_ite_snd, ite_self])

theorem State.lineCorrected_mask (s : State) (n line : Nat) {m0 : Nat} (hw : 1798827047403522 &&& m0 = 1798827047403522) :
    (State.lineCorrected s n line).mask m0 = s.mask m0 := by
  refine mask_mono hw ?_
  unfold State.lineCorrected
  repeat' first
    | with_reducible rfl
    | with_reducible refine mask_ite_eq ?_ ?_
    | with_reducible refine mask_ite_snd_eq ?_ ?_
    | (simp (disch := decide) only [State.bumpDie_mask, State.charge_mask, State.odInc_mask, State.ownerInc_mask, State.repairRow_mask, State.retireSub_mask, State.updSub_mask, mask_ite, mask_ite_snd, ite_self]; done)
    | dsimp only
    | (with_reducible refine mask_foldl _ (fun s x => ?_) _ _)
    | (with_reducible refine mask_foldl_snd _ (fun s x => ?_) _ _)
    | (with_reducible refine (mask_foldl _ (fun s x => ?_) _ _).trans ?_)
    | (split <;> try (rename_i e; have e2 := congrArg Prod.snd e; dsimp only at e2; subst e2))
    | (simp (disch := decide) only [State.bumpDie_mask, State.charge_mask, State.odInc_mask, State.ownerInc_mask, State.repairRow_mask, State.retireSub_mask, State.updSub_mask, mask_ite, mask_ite_snd, ite_self])

theorem State.lineLost_mask (s : State) (n line : Nat) {m0 : Nat} (hw : 1798861407141890 &&& m0 = 1798861407141890) :
    (State.lineLost s n line).mask m0 = s.mask m0 := by
  refine mask_mono hw ?_
  unfold State.lineLost
  repeat' first
    | with_reducible rfl
    | with_reducible refine mask_ite_eq ?_ ?_
    | with_reducible refine mask_ite_snd_eq ?_ ?_
    | (simp (disch := decide) only [State.charge_mask, State.failRecord_mask, State.odInc_mask, State.ownerInc_mask, State.raise_mask, State.repairRow_mask, State.retireSub_mask, State.updSub_mask, mask_ite, mask_ite_snd, ite_self]; done)
    | dsimp only
    | (with_reducible refine mask_foldl _ (fun s x => ?_) _ _)
    | (with_reducible refine mask_foldl_snd _ (fun s x => ?_) _ _)
    | (with_reducible refine (mask_foldl _ (fun s x => ?_) _ _).trans ?_)
    | (split <;> try (rename_i e; have e2 := congrArg Prod.snd e; dsimp only at e2; subst e2))
    | (simp (disch := decide) only [State.charge_mask, State.failRecord_mask, State.odInc_mask, State.ownerInc_mask, State.raise_mask, State.repairRow_mask, State.retireSub_mask, State.updSub_mask, mask_ite, mask_ite_snd, ite_self])

theorem State.countReport_mask (s : State) (r : EccReport) {m0 : Nat} (hw : 1798861407150082 &&& m0 = 1798861407150082) :
    (s.countReport r).mask m0 = s.mask m0 := by
  refine mask_mono hw ?_
  cases r <;> unfold State.countReport <;> repeat' first
    | with_reducible rfl
    | (simp (disch := decide) only [State.lineLost_mask, State.lineCorrected_mask, State.spadCount_mask, mask_ite, ite_self]; done)

theorem State.account_mask (s : State) {m0 : Nat} (hw : 1798861407150082 &&& m0 = 1798861407150082) :
    (State.account s).mask m0 = s.mask m0 := by
  refine mask_mono hw ?_
  unfold State.account
  repeat' first
    | with_reducible rfl
    | with_reducible refine mask_ite_eq ?_ ?_
    | with_reducible refine mask_ite_snd_eq ?_ ?_
    | (simp (disch := decide) only [setEcc_mask, State.countReport_mask, mask_ite, mask_ite_snd, ite_self]; done)
    | dsimp only
    | (with_reducible refine mask_foldl _ (fun s x => ?_) _ _)
    | (with_reducible refine mask_foldl_snd _ (fun s x => ?_) _ _)
    | (with_reducible refine (mask_foldl _ (fun s x => ?_) _ _).trans ?_)
    | (split <;> try (rename_i e; have e2 := congrArg Prod.snd e; dsimp only at e2; subst e2))
    | (simp (disch := decide) only [setEcc_mask, State.countReport_mask, mask_ite, mask_ite_snd, ite_self])

end Sys2Proof.Machine
end

