-- ==== Sys2Proof/Laws/Frame/Queues.lean ====
section
/-!
SUPPORT. Frames of Machine/Queues.lean: the fields that each function may change, as a mask.
-/
namespace Sys2Proof.Machine

open Sys2Proof

set_option linter.unusedSimpArgs false

theorem State.decodeError_mask (s : State) (die p e block : Nat) {m0 : Nat} (hw : 1763651010691072 &&& m0 = 1763651010691072) :
    (State.decodeError s die p e block).mask m0 = s.mask m0 := by
  refine mask_mono hw ?_
  unfold State.decodeError
  repeat' first
    | with_reducible rfl
    | with_reducible refine mask_ite_eq ?_ ?_
    | with_reducible refine mask_ite_snd_eq ?_ ?_
    | (simp (disch := decide) only [State.charge_mask, State.failRecord_mask, State.odInc_mask, mask_ite, mask_ite_snd, ite_self]; done)
    | dsimp only
    | (with_reducible refine mask_foldl _ (fun s x => ?_) _ _)
    | (with_reducible refine mask_foldl_snd _ (fun s x => ?_) _ _)
    | (with_reducible refine (mask_foldl _ (fun s x => ?_) _ _).trans ?_)
    | (split <;> try (rename_i e; have e2 := congrArg Prod.snd e; dsimp only at e2; subst e2))
    | (simp (disch := decide) only [State.charge_mask, State.failRecord_mask, State.odInc_mask, mask_ite, mask_ite_snd, ite_self])

theorem State.mread_mask (s : State) (die p a n : Nat) {m0 : Nat} (hw : 1798844109832194 &&& m0 = 1798844109832194) :
    (State.mread s die p a n).2.mask m0 = s.mask m0 := by
  refine mask_mono hw ?_
  unfold State.mread
  repeat' first
    | with_reducible rfl
    | with_reducible refine mask_ite_eq ?_ ?_
    | with_reducible refine mask_ite_snd_eq ?_ ?_
    | (simp (disch := decide) only [State.decodeError_mask, State.pread_mask, mask_ite, mask_ite_snd, ite_self]; done)
    | dsimp only
    | (with_reducible refine mask_foldl _ (fun s x => ?_) _ _)
    | (with_reducible refine mask_foldl_snd _ (fun s x => ?_) _ _)
    | (with_reducible refine (mask_foldl _ (fun s x => ?_) _ _).trans ?_)
    | (split <;> try (rename_i e; have e2 := congrArg Prod.snd e; dsimp only at e2; subst e2))
    | (simp (disch := decide) only [State.decodeError_mask, State.pread_mask, mask_ite, mask_ite_snd, ite_self])

theorem State.groupMembers_mask (s : State) (e : Nat) {m0 : Nat} (hw : 1798844109832194 &&& m0 = 1798844109832194) :
    (State.groupMembers s e).2.mask m0 = s.mask m0 := by
  refine mask_mono hw ?_
  unfold State.groupMembers
  repeat' first
    | with_reducible rfl
    | with_reducible refine mask_ite_eq ?_ ?_
    | with_reducible refine mask_ite_snd_eq ?_ ?_
    | (simp (disch := decide) only [State.mread_mask, mask_ite, mask_ite_snd, ite_self]; done)
    | dsimp only
    | (with_reducible refine mask_foldl _ (fun s x => ?_) _ _)
    | (with_reducible refine mask_foldl_snd _ (fun s x => ?_) _ _)
    | (with_reducible refine (mask_foldl _ (fun s x => ?_) _ _).trans ?_)
    | (split <;> try (rename_i e; have e2 := congrArg Prod.snd e; dsimp only at e2; subst e2))
    | (simp (disch := decide) only [State.mread_mask, mask_ite, mask_ite_snd, ite_self])

theorem State.sendOn_mask (s : State) (part : Option Nat) (p : Nat) (bs : List Byte) {m0 : Nat} (hw : 1165491052494854 &&& m0 = 1165491052494854) :
    (State.sendOn s part p bs).mask m0 = s.mask m0 := by
  refine mask_mono hw ?_
  unfold State.sendOn
  repeat' first
    | with_reducible rfl
    | with_reducible refine mask_ite_eq ?_ ?_
    | with_reducible refine mask_ite_snd_eq ?_ ?_
    | (simp (disch := decide) only [State.bumpDie_mask, State.emit_mask, State.odInc_mask, mask_ite, mask_ite_snd, ite_self]; done)
    | dsimp only
    | (with_reducible refine mask_foldl _ (fun s x => ?_) _ _)
    | (with_reducible refine mask_foldl_snd _ (fun s x => ?_) _ _)
    | (with_reducible refine (mask_foldl _ (fun s x => ?_) _ _).trans ?_)
    | (split <;> try (rename_i e; have e2 := congrArg Prod.snd e; dsimp only at e2; subst e2))
    | (simp (disch := decide) only [State.bumpDie_mask, State.emit_mask, State.odInc_mask, mask_ite, mask_ite_snd, ite_self])

theorem State.abortGroup_mask (s : State) (e reason : Nat) {m0 : Nat} (hw : 1798844109832198 &&& m0 = 1798844109832198) :
    (State.abortGroup s e reason).mask m0 = s.mask m0 := by
  refine mask_mono hw ?_
  unfold State.abortGroup
  repeat' first
    | with_reducible rfl
    | with_reducible refine mask_ite_eq ?_ ?_
    | with_reducible refine mask_ite_snd_eq ?_ ?_
    | (simp (disch := decide) only [State.failRecord_mask, State.groupMembers_mask, State.odInc_mask, State.sendOn_mask, mask_ite, mask_ite_snd, ite_self]; done)
    | dsimp only
    | (with_reducible refine mask_foldl _ (fun s x => ?_) _ _)
    | (with_reducible refine mask_foldl_snd _ (fun s x => ?_) _ _)
    | (with_reducible refine (mask_foldl _ (fun s x => ?_) _ _).trans ?_)
    | (split <;> try (rename_i e; have e2 := congrArg Prod.snd e; dsimp only at e2; subst e2))
    | (simp (disch := decide) only [State.failRecord_mask, State.groupMembers_mask, State.odInc_mask, State.sendOn_mask, mask_ite, mask_ite_snd, ite_self])

theorem State.abortGroups_mask (s : State) (reason : Nat) (p : Nat → Bool) {m0 : Nat} (hw : 1798844109832198 &&& m0 = 1798844109832198) :
    (State.abortGroups s reason p).mask m0 = s.mask m0 := by
  refine mask_mono hw ?_
  unfold State.abortGroups
  repeat' first
    | with_reducible rfl
    | with_reducible refine mask_ite_eq ?_ ?_
    | with_reducible refine mask_ite_snd_eq ?_ ?_
    | (simp (disch := decide) only [State.abortGroup_mask, mask_ite, mask_ite_snd, ite_self]; done)
    | dsimp only
    | (with_reducible refine mask_foldl _ (fun s x => ?_) _ _)
    | (with_reducible refine mask_foldl_snd _ (fun s x => ?_) _ _)
    | (with_reducible refine (mask_foldl _ (fun s x => ?_) _ _).trans ?_)
    | (split <;> try (rename_i e; have e2 := congrArg Prod.snd e; dsimp only at e2; subst e2))
    | (simp (disch := decide) only [State.abortGroup_mask, mask_ite, mask_ite_snd, ite_self])

theorem State.faultQueue_mask (s : State) (q code : Nat) {m0 : Nat} (hw : 1798844109832198 &&& m0 = 1798844109832198) :
    (State.faultQueue s q code).mask m0 = s.mask m0 := by
  refine mask_mono hw ?_
  unfold State.faultQueue
  repeat' first
    | with_reducible rfl
    | with_reducible refine mask_ite_eq ?_ ?_
    | with_reducible refine mask_ite_snd_eq ?_ ?_
    | (simp (disch := decide) only [State.abortGroups_mask, State.odInc_mask, State.putQueue_mask, State.raisePart_mask, mask_ite, mask_ite_snd, ite_self]; done)
    | dsimp only
    | (with_reducible refine mask_foldl _ (fun s x => ?_) _ _)
    | (with_reducible refine mask_foldl_snd _ (fun s x => ?_) _ _)
    | (with_reducible refine (mask_foldl _ (fun s x => ?_) _ _).trans ?_)
    | (split <;> try (rename_i e; have e2 := congrArg Prod.snd e; dsimp only at e2; subst e2))
    | (simp (disch := decide) only [State.abortGroups_mask, State.odInc_mask, State.putQueue_mask, State.raisePart_mask, mask_ite, mask_ite_snd, ite_self])

theorem State.doorbell_mask (s : State) (q word who : Nat) {m0 : Nat} (hw : 1798844109832198 &&& m0 = 1798844109832198) :
    (State.doorbell s q word who).mask m0 = s.mask m0 := by
  refine mask_mono hw ?_
  unfold State.doorbell
  repeat' first
    | with_reducible rfl
    | with_reducible refine mask_ite_eq ?_ ?_
    | with_reducible refine mask_ite_snd_eq ?_ ?_
    | (simp (disch := decide) only [State.creditWriteBack_mask, State.faultQueue_mask, State.odInc_mask, State.putQueue_mask, mask_ite, mask_ite_snd, ite_self]; done)
    | dsimp only
    | (with_reducible refine mask_foldl _ (fun s x => ?_) _ _)
    | (with_reducible refine mask_foldl_snd _ (fun s x => ?_) _ _)
    | (with_reducible refine (mask_foldl _ (fun s x => ?_) _ _).trans ?_)
    | (split <;> try (rename_i e; have e2 := congrArg Prod.snd e; dsimp only at e2; subst e2))
    | (simp (disch := decide) only [State.creditWriteBack_mask, State.faultQueue_mask, State.odInc_mask, State.putQueue_mask, mask_ite, mask_ite_snd, ite_self])

theorem State.readSlot_mask (s : State) (q : Nat) {m0 : Nat} (hw : 1798844109832194 &&& m0 = 1798844109832194) :
    (State.readSlot s q).2.mask m0 = s.mask m0 := by
  refine mask_mono hw ?_
  unfold State.readSlot
  repeat' first
    | with_reducible rfl
    | with_reducible refine mask_ite_eq ?_ ?_
    | with_reducible refine mask_ite_snd_eq ?_ ?_
    | (simp (disch := decide) only [State.mread_mask, State.updQueue_mask, mask_ite, mask_ite_snd, ite_self]; done)
    | dsimp only
    | (with_reducible refine mask_foldl _ (fun s x => ?_) _ _)
    | (with_reducible refine mask_foldl_snd _ (fun s x => ?_) _ _)
    | (with_reducible refine (mask_foldl _ (fun s x => ?_) _ _).trans ?_)
    | (split <;> try (rename_i e; have e2 := congrArg Prod.snd e; dsimp only at e2; subst e2))
    | (simp (disch := decide) only [State.mread_mask, State.updQueue_mask, mask_ite, mask_ite_snd, ite_self])

theorem State.active_mask (s : State) {m0 : Nat} (hw : 64 &&& m0 = 64) :
    (State.active s).mask m0 = s.mask m0 := by
  refine mask_mono hw ?_
  unfold State.active
  repeat' first
    | with_reducible rfl
    | with_reducible refine mask_ite_eq ?_ ?_
    | with_reducible refine mask_ite_snd_eq ?_ ?_
    | (simp (disch := decide) only [setIdle_mask, mask_ite, mask_ite_snd, ite_self]; done)
    | dsimp only
    | (with_reducible refine mask_foldl _ (fun s x => ?_) _ _)
    | (with_reducible refine mask_foldl_snd _ (fun s x => ?_) _ _)
    | (with_reducible refine (mask_foldl _ (fun s x => ?_) _ _).trans ?_)
    | (split <;> try (rename_i e; have e2 := congrArg Prod.snd e; dsimp only at e2; subst e2))
    | (simp (disch := decide) only [setIdle_mask, mask_ite, mask_ite_snd, ite_self])

theorem State.noteDispatch_mask (s : State) {m0 : Nat} (hw : 281474976710720 &&& m0 = 281474976710720) :
    (State.noteDispatch s).mask m0 = s.mask m0 := by
  refine mask_mono hw ?_
  unfold State.noteDispatch
  repeat' first
    | with_reducible rfl
    | with_reducible refine mask_ite_eq ?_ ?_
    | with_reducible refine mask_ite_snd_eq ?_ ?_
    | (simp (disch := decide) only [setPow_mask, State.active_mask, mask_ite, mask_ite_snd, ite_self]; done)
    | dsimp only
    | (with_reducible refine mask_foldl _ (fun s x => ?_) _ _)
    | (with_reducible refine mask_foldl_snd _ (fun s x => ?_) _ _)
    | (with_reducible refine (mask_foldl _ (fun s x => ?_) _ _).trans ?_)
    | (split <;> try (rename_i e; have e2 := congrArg Prod.snd e; dsimp only at e2; subst e2))
    | (simp (disch := decide) only [setPow_mask, State.active_mask, mask_ite, mask_ite_snd, ite_self])

theorem State.handOver_mask (s : State) (q : Nat) {m0 : Nat} (hw : 1446966029205570 &&& m0 = 1446966029205570) :
    (State.handOver s q).mask m0 = s.mask m0 := by
  refine mask_mono hw ?_
  unfold State.handOver
  repeat' first
    | with_reducible rfl
    | with_reducible refine mask_ite_eq ?_ ?_
    | with_reducible refine mask_ite_snd_eq ?_ ?_
    | (simp (disch := decide) only [State.bumpDie_mask, State.noteDispatch_mask, State.putQueue_mask, mask_ite, mask_ite_snd, ite_self]; done)
    | dsimp only
    | (with_reducible refine mask_foldl _ (fun s x => ?_) _ _)
    | (with_reducible refine mask_foldl_snd _ (fun s x => ?_) _ _)
    | (with_reducible refine (mask_foldl _ (fun s x => ?_) _ _).trans ?_)
    | (split <;> try (rename_i e; have e2 := congrArg Prod.snd e; dsimp only at e2; subst e2))
    | (simp (disch := decide) only [State.bumpDie_mask, State.noteDispatch_mask, State.putQueue_mask, mask_ite, mask_ite_snd, ite_self])

theorem State.takeSem_mask (s : State) (q sem : Nat) {m0 : Nat} (hw : 1446966029402178 &&& m0 = 1446966029402178) :
    (State.takeSem s q sem).mask m0 = s.mask m0 := by
  refine mask_mono hw ?_
  unfold State.takeSem
  repeat' first
    | with_reducible rfl
    | with_reducible refine mask_ite_eq ?_ ?_
    | with_reducible refine mask_ite_snd_eq ?_ ?_
    | (simp (disch := decide) only [setSemWait_mask, State.handOver_mask, State.putSem_mask, State.updQueue_mask, mask_ite, mask_ite_snd, ite_self]; done)
    | dsimp only
    | (with_reducible refine mask_foldl _ (fun s x => ?_) _ _)
    | (with_reducible refine mask_foldl_snd _ (fun s x => ?_) _ _)
    | (with_reducible refine (mask_foldl _ (fun s x => ?_) _ _).trans ?_)
    | (split <;> try (rename_i e; have e2 := congrArg Prod.snd e; dsimp only at e2; subst e2))
    | (simp (disch := decide) only [setSemWait_mask, State.handOver_mask, State.putSem_mask, State.updQueue_mask, mask_ite, mask_ite_snd, ite_self])

theorem State.takeRecord_mask (s : State) (q : Nat) {m0 : Nat} (hw : 1446966029402178 &&& m0 = 1446966029402178) :
    (State.takeRecord s q).mask m0 = s.mask m0 := by
  refine mask_mono hw ?_
  unfold State.takeRecord
  repeat' first
    | with_reducible rfl
    | with_reducible refine mask_ite_eq ?_ ?_
    | with_reducible refine mask_ite_snd_eq ?_ ?_
    | (simp (disch := decide) only [State.reserveRecord_mask, State.takeSem_mask, State.updQueue_mask, mask_ite, mask_ite_snd, ite_self]; done)
    | dsimp only
    | (with_reducible refine mask_foldl _ (fun s x => ?_) _ _)
    | (with_reducible refine mask_foldl_snd _ (fun s x => ?_) _ _)
    | (with_reducible refine (mask_foldl _ (fun s x => ?_) _ _).trans ?_)
    | (split <;> try (rename_i e; have e2 := congrArg Prod.snd e; dsimp only at e2; subst e2))
    | (simp (disch := decide) only [State.reserveRecord_mask, State.takeSem_mask, State.updQueue_mask, mask_ite, mask_ite_snd, ite_self])

theorem State.dispatch_mask (s : State) (q : Nat) {m0 : Nat} (hw : 2080319086739522 &&& m0 = 2080319086739522) :
    (State.dispatch s q).mask m0 = s.mask m0 := by
  refine mask_mono hw ?_
  unfold State.dispatch
  repeat' first
    | with_reducible rfl
    | with_reducible refine mask_ite_eq ?_ ?_
    | with_reducible refine mask_ite_snd_eq ?_ ?_
    | (simp (disch := decide) only [State.readSlot_mask, State.takeRecord_mask, mask_ite, mask_ite_snd, ite_self]; done)
    | dsimp only
    | (with_reducible refine mask_foldl _ (fun s x => ?_) _ _)
    | (with_reducible refine mask_foldl_snd _ (fun s x => ?_) _ _)
    | (with_reducible refine (mask_foldl _ (fun s x => ?_) _ _).trans ?_)
    | (split <;> try (rename_i e; have e2 := congrArg Prod.snd e; dsimp only at e2; subst e2))
    | (simp (disch := decide) only [State.readSlot_mask, State.takeRecord_mask, mask_ite, mask_ite_snd, ite_self])

theorem State.serveSem_mask (s : State) (sem : Nat) {m0 : Nat} (hw : 1446966029402178 &&& m0 = 1446966029402178) :
    (State.serveSem s sem).mask m0 = s.mask m0 := by
  refine mask_mono hw ?_
  unfold State.serveSem
  repeat' first
    | with_reducible rfl
    | with_reducible refine mask_ite_eq ?_ ?_
    | with_reducible refine mask_ite_snd_eq ?_ ?_
    | (simp (disch := decide) only [setSemWait_mask, State.handOver_mask, State.putSem_mask, mask_ite, mask_ite_snd, ite_self]; done)
    | dsimp only
    | (with_reducible refine mask_foldl _ (fun s x => ?_) _ _)
    | (with_reducible refine mask_foldl_snd _ (fun s x => ?_) _ _)
    | (with_reducible refine (mask_foldl _ (fun s x => ?_) _ _).trans ?_)
    | (split <;> try (rename_i e; have e2 := congrArg Prod.snd e; dsimp only at e2; subst e2))
    | (simp (disch := decide) only [setSemWait_mask, State.handOver_mask, State.putSem_mask, mask_ite, mask_ite_snd, ite_self])

theorem State.finishSeq_mask (s : State) (q : Nat) (seq : BitVec 32) (status : Nat) {m0 : Nat} (hw : 16384 &&& m0 = 16384) :
    (State.finishSeq s q seq status).mask m0 = s.mask m0 := by
  refine mask_mono hw ?_
  unfold State.finishSeq
  repeat' first
    | with_reducible rfl
    | with_reducible refine mask_ite_eq ?_ ?_
    | with_reducible refine mask_ite_snd_eq ?_ ?_
    | (simp (disch := decide) only [State.updQueue_mask, mask_ite, mask_ite_snd, ite_self]; done)
    | dsimp only
    | (with_reducible refine mask_foldl _ (fun s x => ?_) _ _)
    | (with_reducible refine mask_foldl_snd _ (fun s x => ?_) _ _)
    | (with_reducible refine (mask_foldl _ (fun s x => ?_) _ _).trans ?_)
    | (split <;> try (rename_i e; have e2 := congrArg Prod.snd e; dsimp only at e2; subst e2))
    | (simp (disch := decide) only [State.updQueue_mask, mask_ite, mask_ite_snd, ite_self])

theorem State.finish_mask (s : State) (q : Nat) (ph : JobPhase) (status flags detail : Nat) {m0 : Nat} (hw : 16384 &&& m0 = 16384) :
    (State.finish s q ph status flags detail).mask m0 = s.mask m0 := by
  refine mask_mono hw ?_
  unfold State.finish
  repeat' first
    | with_reducible rfl
    | with_reducible refine mask_ite_eq ?_ ?_
    | with_reducible refine mask_ite_snd_eq ?_ ?_
    | (simp (disch := decide) only [State.updQueue_mask, mask_ite, mask_ite_snd, ite_self]; done)
    | dsimp only
    | (with_reducible refine mask_foldl _ (fun s x => ?_) _ _)
    | (with_reducible refine mask_foldl_snd _ (fun s x => ?_) _ _)
    | (with_reducible refine (mask_foldl _ (fun s x => ?_) _ _).trans ?_)
    | (split <;> try (rename_i e; have e2 := congrArg Prod.snd e; dsimp only at e2; subst e2))
    | (simp (disch := decide) only [State.updQueue_mask, mask_ite, mask_ite_snd, ite_self])

theorem State.signal_mask (s : State) (sem : Nat) {m0 : Nat} (hw : 65536 &&& m0 = 65536) :
    (State.signal s sem).2.mask m0 = s.mask m0 := by
  refine mask_mono hw ?_
  unfold State.signal
  repeat' first
    | with_reducible rfl
    | with_reducible refine mask_ite_eq ?_ ?_
    | with_reducible refine mask_ite_snd_eq ?_ ?_
    | (simp (disch := decide) only [State.putSem_mask, mask_ite, mask_ite_snd, ite_self]; done)
    | dsimp only
    | (with_reducible refine mask_foldl _ (fun s x => ?_) _ _)
    | (with_reducible refine mask_foldl_snd _ (fun s x => ?_) _ _)
    | (with_reducible refine (mask_foldl _ (fun s x => ?_) _ _).trans ?_)
    | (split <;> try (rename_i e; have e2 := congrArg Prod.snd e; dsimp only at e2; subst e2))
    | (simp (disch := decide) only [State.putSem_mask, mask_ite, mask_ite_snd, ite_self])

theorem State.unwatch_mask (s : State) (x : Queue) {m0 : Nat} (hw : 1125899906842624 &&& m0 = 1125899906842624) :
    (State.unwatch s x).mask m0 = s.mask m0 := by
  refine mask_mono hw ?_
  unfold State.unwatch
  repeat' first
    | with_reducible rfl
    | with_reducible refine mask_ite_eq ?_ ?_
    | with_reducible refine mask_ite_snd_eq ?_ ?_
    | (simp (disch := decide) only [State.odSet_mask, mask_ite, mask_ite_snd, ite_self]; done)
    | dsimp only
    | (with_reducible refine mask_foldl _ (fun s x => ?_) _ _)
    | (with_reducible refine mask_foldl_snd _ (fun s x => ?_) _ _)
    | (with_reducible refine (mask_foldl _ (fun s x => ?_) _ _).trans ?_)
    | (split <;> try (rename_i e; have e2 := congrArg Prod.snd e; dsimp only at e2; subst e2))
    | (simp (disch := decide) only [State.odSet_mask, mask_ite, mask_ite_snd, ite_self])

theorem State.popFront_mask (s : State) (q : Nat) (j : Job) (rest : List Job) {m0 : Nat} (hw : 1165491052494850 &&& m0 = 1165491052494850) :
    (State.popFront s q j rest).mask m0 = s.mask m0 := by
  refine mask_mono hw ?_
  unfold State.popFront
  repeat' first
    | with_reducible rfl
    | with_reducible refine mask_ite_eq ?_ ?_
    | with_reducible refine mask_ite_snd_eq ?_ ?_
    | (simp (disch := decide) only [State.creditWriteBack_mask, State.putQueue_mask, State.unwatch_mask, mask_ite, mask_ite_snd, ite_self]; done)
    | dsimp only
    | (with_reducible refine mask_foldl _ (fun s x => ?_) _ _)
    | (with_reducible refine mask_foldl_snd _ (fun s x => ?_) _ _)
    | (with_reducible refine (mask_foldl _ (fun s x => ?_) _ _).trans ?_)
    | (split <;> try (rename_i e; have e2 := congrArg Prod.snd e; dsimp only at e2; subst e2))
    | (simp (disch := decide) only [State.creditWriteBack_mask, State.putQueue_mask, State.unwatch_mask, mask_ite, mask_ite_snd, ite_self])

theorem State.completed_mask (s : State) (q cq st : Nat) (core : Option Nat) {m0 : Nat} (hw : 1798844109832198 &&& m0 = 1798844109832198) :
    (State.completed s q cq st core).mask m0 = s.mask m0 := by
  refine mask_mono hw ?_
  unfold State.completed
  repeat' first
    | with_reducible rfl
    | with_reducible refine mask_ite_eq ?_ ?_
    | with_reducible refine mask_ite_snd_eq ?_ ?_
    | (simp (disch := decide) only [State.bumpCore_mask, State.faultQueue_mask, State.raise_mask, mask_ite, mask_ite_snd, ite_self]; done)
    | dsimp only
    | (with_reducible refine mask_foldl _ (fun s x => ?_) _ _)
    | (with_reducible refine mask_foldl_snd _ (fun s x => ?_) _ _)
    | (with_reducible refine (mask_foldl _ (fun s x => ?_) _ _).trans ?_)
    | (split <;> try (rename_i e; have e2 := congrArg Prod.snd e; dsimp only at e2; subst e2))
    | (simp (disch := decide) only [State.bumpCore_mask, State.faultQueue_mask, State.raise_mask, mask_ite, mask_ite_snd, ite_self])

theorem State.completeFront_mask (s : State) (q : Nat) {m0 : Nat} (hw : 1798844109897734 &&& m0 = 1798844109897734) :
    (State.completeFront s q).mask m0 = s.mask m0 := by
  refine mask_mono hw ?_
  unfold State.completeFront
  repeat' first
    | with_reducible rfl
    | with_reducible refine mask_ite_eq ?_ ?_
    | with_reducible refine mask_ite_snd_eq ?_ ?_
    | (simp (disch := decide) only [State.completed_mask, State.popFront_mask, State.putRecord_mask, State.signal_mask, mask_ite, mask_ite_snd, ite_self]; done)
    | dsimp only
    | (with_reducible refine mask_foldl _ (fun s x => ?_) _ _)
    | (with_reducible refine mask_foldl_snd _ (fun s x => ?_) _ _)
    | (with_reducible refine (mask_foldl _ (fun s x => ?_) _ _).trans ?_)
    | (split <;> try (rename_i e; have e2 := congrArg Prod.snd e; dsimp only at e2; subst e2))
    | (simp (disch := decide) only [State.completed_mask, State.popFront_mask, State.putRecord_mask, State.signal_mask, mask_ite, mask_ite_snd, ite_self])

theorem State.completeAll_mask  (k : Nat) (s : State) (q : Nat) {m0 : Nat} (hw : 1798844109897734 &&& m0 = 1798844109897734) :
    (State.completeAll k s q).mask m0 = s.mask m0 := by
  refine mask_mono hw ?_
  clear hw
  induction k generalizing s with
  | zero =>
    unfold State.completeAll
    rfl
  | succ m ih =>
    unfold State.completeAll
    repeat' first
      | with_reducible rfl
      | with_reducible refine mask_ite_eq ?_ ?_
      | with_reducible refine mask_ite_snd_eq ?_ ?_
      | (simp (disch := decide) only [State.completeFront_mask, mask_ite, mask_ite_snd, ite_self, ih]; done)
      | dsimp only
      | (with_reducible refine mask_foldl _ (fun s x => ?_) _ _)
      | (with_reducible refine mask_foldl_snd _ (fun s x => ?_) _ _)
      | (with_reducible refine (mask_foldl _ (fun s x => ?_) _ _).trans ?_)
      | (split <;> try (rename_i e; have e2 := congrArg Prod.snd e; dsimp only at e2; subst e2))
      | (simp (disch := decide) only [State.completeFront_mask, mask_ite, mask_ite_snd, ite_self, ih])

theorem State.done_mask (s : State) (q status : Nat) {m0 : Nat} (hw : 16384 &&& m0 = 16384) :
    (State.done s q status).mask m0 = s.mask m0 := by
  refine mask_mono hw ?_
  unfold State.done
  repeat' first
    | with_reducible rfl
    | with_reducible refine mask_ite_eq ?_ ?_
    | with_reducible refine mask_ite_snd_eq ?_ ?_
    | (simp (disch := decide) only [State.finish_mask, mask_ite, mask_ite_snd, ite_self]; done)
    | dsimp only
    | (with_reducible refine mask_foldl _ (fun s x => ?_) _ _)
    | (with_reducible refine mask_foldl_snd _ (fun s x => ?_) _ _)
    | (with_reducible refine (mask_foldl _ (fun s x => ?_) _ _).trans ?_)
    | (split <;> try (rename_i e; have e2 := congrArg Prod.snd e; dsimp only at e2; subst e2))
    | (simp (disch := decide) only [State.finish_mask, mask_ite, mask_ite_snd, ite_self])

theorem State.flushSlot_mask (s : State) (q status : Nat) {m0 : Nat} (hw : 1798844109832194 &&& m0 = 1798844109832194) :
    (State.flushSlot s q status).mask m0 = s.mask m0 := by
  refine mask_mono hw ?_
  unfold State.flushSlot
  repeat' first
    | with_reducible rfl
    | with_reducible refine mask_ite_eq ?_ ?_
    | with_reducible refine mask_ite_snd_eq ?_ ?_
    | (simp (disch := decide) only [State.mread_mask, State.updQueue_mask, mask_ite, mask_ite_snd, ite_self]; done)
    | dsimp only
    | (with_reducible refine mask_foldl _ (fun s x => ?_) _ _)
    | (with_reducible refine mask_foldl_snd _ (fun s x => ?_) _ _)
    | (with_reducible refine (mask_foldl _ (fun s x => ?_) _ _).trans ?_)
    | (split <;> try (rename_i e; have e2 := congrArg Prod.snd e; dsimp only at e2; subst e2))
    | (simp (disch := decide) only [State.mread_mask, State.updQueue_mask, mask_ite, mask_ite_snd, ite_self])

theorem State.flushSlots_mask  (k : Nat) (s : State) (q : Nat) (status : Nat) {m0 : Nat} (hw : 1798844109832194 &&& m0 = 1798844109832194) :
    (State.flushSlots k s q status).mask m0 = s.mask m0 := by
  refine mask_mono hw ?_
  clear hw
  induction k generalizing s with
  | zero =>
    unfold State.flushSlots
    rfl
  | succ m ih =>
    unfold State.flushSlots
    repeat' first
      | with_reducible rfl
      | with_reducible refine mask_ite_eq ?_ ?_
      | with_reducible refine mask_ite_snd_eq ?_ ?_
      | (simp (disch := decide) only [State.flushSlot_mask, mask_ite, mask_ite_snd, ite_self, ih]; done)
      | dsimp only
      | (with_reducible refine mask_foldl _ (fun s x => ?_) _ _)
      | (with_reducible refine mask_foldl_snd _ (fun s x => ?_) _ _)
      | (with_reducible refine (mask_foldl _ (fun s x => ?_) _ _).trans ?_)
      | (split <;> try (rename_i e; have e2 := congrArg Prod.snd e; dsimp only at e2; subst e2))
      | (simp (disch := decide) only [State.flushSlot_mask, mask_ite, mask_ite_snd, ite_self, ih])

theorem State.reserveFor_mask (s : State) (q : Nat) (js : List Job) {m0 : Nat} (hw : 1165491052494850 &&& m0 = 1165491052494850) :
    (State.reserveFor s q js).2.mask m0 = s.mask m0 := by
  refine mask_mono hw ?_
  clear hw
  induction js generalizing s with
  | nil =>
    unfold State.reserveFor
    first | rfl | (split <;> rfl)
  | cons x xs ih =>
    unfold State.reserveFor
    repeat' first
      | with_reducible rfl
      | with_reducible refine mask_ite_eq ?_ ?_
      | with_reducible refine mask_ite_snd_eq ?_ ?_
      | (simp (disch := decide) only [State.reserveRecord_mask, mask_ite, mask_ite_snd, ite_self, ih]; done)
      | dsimp only
      | (with_reducible refine mask_foldl _ (fun s x => ?_) _ _)
      | (with_reducible refine mask_foldl_snd _ (fun s x => ?_) _ _)
      | (with_reducible refine (mask_foldl _ (fun s x => ?_) _ _).trans ?_)
      | (split <;> try (rename_i e; have e2 := congrArg Prod.snd e; dsimp only at e2; subst e2))
      | (simp (disch := decide) only [State.reserveRecord_mask, mask_ite, mask_ite_snd, ite_self, ih])

theorem State.flushQueue_mask (s : State) (q status : Nat) (all : Bool) {m0 : Nat} (hw : 1798844110028806 &&& m0 = 1798844110028806) :
    (State.flushQueue s q status all).mask m0 = s.mask m0 := by
  refine mask_mono hw ?_
  unfold State.flushQueue
  repeat' first
    | with_reducible rfl
    | with_reducible refine mask_ite_eq ?_ ?_
    | with_reducible refine mask_ite_snd_eq ?_ ?_
    | (simp (disch := decide) only [setSemWait_mask, State.completeAll_mask, State.flushSlots_mask, State.reserveFor_mask, State.updQueue_mask, mask_ite, mask_ite_snd, ite_self]; done)
    | dsimp only
    | (with_reducible refine mask_foldl _ (fun s x => ?_) _ _)
    | (with_reducible refine mask_foldl_snd _ (fun s x => ?_) _ _)
    | (with_reducible refine (mask_foldl _ (fun s x => ?_) _ _).trans ?_)
    | (split <;> try (rename_i e; have e2 := congrArg Prod.snd e; dsimp only at e2; subst e2))
    | (simp (disch := decide) only [setSemWait_mask, State.completeAll_mask, State.flushSlots_mask, State.reserveFor_mask, State.updQueue_mask, mask_ite, mask_ite_snd, ite_self])

theorem State.completeJob_mask (s : State) (q : Nat) {m0 : Nat} (hw : 1798844109897734 &&& m0 = 1798844109897734) :
    (State.completeJob s q).mask m0 = s.mask m0 := by
  refine mask_mono hw ?_
  unfold State.completeJob
  repeat' first
    | with_reducible rfl
    | with_reducible refine mask_ite_eq ?_ ?_
    | with_reducible refine mask_ite_snd_eq ?_ ?_
    | (simp (disch := decide) only [State.completeFront_mask, State.reserveFor_mask, State.updQueue_mask, mask_ite, mask_ite_snd, ite_self]; done)
    | dsimp only
    | (with_reducible refine mask_foldl _ (fun s x => ?_) _ _)
    | (with_reducible refine mask_foldl_snd _ (fun s x => ?_) _ _)
    | (with_reducible refine (mask_foldl _ (fun s x => ?_) _ _).trans ?_)
    | (split <;> try (rename_i e; have e2 := congrArg Prod.snd e; dsimp only at e2; subst e2))
    | (simp (disch := decide) only [State.completeFront_mask, State.reserveFor_mask, State.updQueue_mask, mask_ite, mask_ite_snd, ite_self])

theorem State.completeNext_mask (s : State) (q : Nat) {m0 : Nat} (hw : 1798861407215622 &&& m0 = 1798861407215622) :
    (State.completeNext s q).mask m0 = s.mask m0 := by
  refine mask_mono hw ?_
  unfold State.completeNext
  repeat' first
    | with_reducible rfl
    | with_reducible refine mask_ite_eq ?_ ?_
    | with_reducible refine mask_ite_snd_eq ?_ ?_
    | (simp (disch := decide) only [State.account_mask, State.completeJob_mask, mask_ite, mask_ite_snd, ite_self]; done)
    | dsimp only
    | (with_reducible refine mask_foldl _ (fun s x => ?_) _ _)
    | (with_reducible refine mask_foldl_snd _ (fun s x => ?_) _ _)
    | (with_reducible refine (mask_foldl _ (fun s x => ?_) _ _).trans ?_)
    | (split <;> try (rename_i e; have e2 := congrArg Prod.snd e; dsimp only at e2; subst e2))
    | (simp (disch := decide) only [State.account_mask, State.completeJob_mask, mask_ite, mask_ite_snd, ite_self])

theorem State.answerCode_mask (s : State) (c : Nat) {m0 : Nat} (hw : 4 &&& m0 = 4) :
    (State.answerCode s c).mask m0 = s.mask m0 := by
  refine mask_mono hw ?_
  unfold State.answerCode
  repeat' first
    | with_reducible rfl
    | with_reducible refine mask_ite_eq ?_ ?_
    | with_reducible refine mask_ite_snd_eq ?_ ?_
    | (simp (disch := decide) only [State.emit_mask, mask_ite, mask_ite_snd, ite_self]; done)
    | dsimp only
    | (with_reducible refine mask_foldl _ (fun s x => ?_) _ _)
    | (with_reducible refine mask_foldl_snd _ (fun s x => ?_) _ _)
    | (with_reducible refine (mask_foldl _ (fun s x => ?_) _ _).trans ?_)
    | (split <;> try (rename_i e; have e2 := congrArg Prod.snd e; dsimp only at e2; subst e2))
    | (simp (disch := decide) only [State.emit_mask, mask_ite, mask_ite_snd, ite_self])

theorem State.enableQueue_mask (s : State) (q : Nat) {m0 : Nat} (hw : 1165491052494850 &&& m0 = 1165491052494850) :
    (State.enableQueue s q).2.mask m0 = s.mask m0 := by
  refine mask_mono hw ?_
  unfold State.enableQueue
  repeat' first
    | with_reducible rfl
    | with_reducible refine mask_ite_eq ?_ ?_
    | with_reducible refine mask_ite_snd_eq ?_ ?_
    | (simp (disch := decide) only [State.creditWriteBack_mask, State.putQueue_mask, mask_ite, mask_ite_snd, ite_self]; done)
    | dsimp only
    | (with_reducible refine mask_foldl _ (fun s x => ?_) _ _)
    | (with_reducible refine mask_foldl_snd _ (fun s x => ?_) _ _)
    | (with_reducible refine (mask_foldl _ (fun s x => ?_) _ _).trans ?_)
    | (split <;> try (rename_i e; have e2 := congrArg Prod.snd e; dsimp only at e2; subst e2))
    | (simp (disch := decide) only [State.creditWriteBack_mask, State.putQueue_mask, mask_ite, mask_ite_snd, ite_self])

theorem State.pauseQueue_mask (s : State) (q : Nat) {m0 : Nat} (hw : 16384 &&& m0 = 16384) :
    (State.pauseQueue s q).2.mask m0 = s.mask m0 := by
  refine mask_mono hw ?_
  unfold State.pauseQueue
  repeat' first
    | with_reducible rfl
    | with_reducible refine mask_ite_eq ?_ ?_
    | with_reducible refine mask_ite_snd_eq ?_ ?_
    | (simp (disch := decide) only [State.updQueue_mask, mask_ite, mask_ite_snd, ite_self]; done)
    | dsimp only
    | (with_reducible refine mask_foldl _ (fun s x => ?_) _ _)
    | (with_reducible refine mask_foldl_snd _ (fun s x => ?_) _ _)
    | (with_reducible refine (mask_foldl _ (fun s x => ?_) _ _).trans ?_)
    | (split <;> try (rename_i e; have e2 := congrArg Prod.snd e; dsimp only at e2; subst e2))
    | (simp (disch := decide) only [State.updQueue_mask, mask_ite, mask_ite_snd, ite_self])

theorem State.handHeld_mask (s : State) (q : Nat) {m0 : Nat} (hw : 1446966029205570 &&& m0 = 1446966029205570) :
    (State.handHeld s q).mask m0 = s.mask m0 := by
  refine mask_mono hw ?_
  unfold State.handHeld
  repeat' first
    | with_reducible rfl
    | with_reducible refine mask_ite_eq ?_ ?_
    | with_reducible refine mask_ite_snd_eq ?_ ?_
    | (simp (disch := decide) only [State.handOver_mask, mask_ite, mask_ite_snd, ite_self]; done)
    | dsimp only
    | (with_reducible refine mask_foldl _ (fun s x => ?_) _ _)
    | (with_reducible refine mask_foldl_snd _ (fun s x => ?_) _ _)
    | (with_reducible refine (mask_foldl _ (fun s x => ?_) _ _).trans ?_)
    | (split <;> try (rename_i e; have e2 := congrArg Prod.snd e; dsimp only at e2; subst e2))
    | (simp (disch := decide) only [State.handOver_mask, mask_ite, mask_ite_snd, ite_self])

theorem State.resumeQueue_mask (s : State) (q : Nat) {m0 : Nat} (hw : 1446966029205570 &&& m0 = 1446966029205570) :
    (State.resumeQueue s q).2.mask m0 = s.mask m0 := by
  refine mask_mono hw ?_
  unfold State.resumeQueue
  repeat' first
    | with_reducible rfl
    | with_reducible refine mask_ite_eq ?_ ?_
    | with_reducible refine mask_ite_snd_eq ?_ ?_
    | (simp (disch := decide) only [State.handHeld_mask, State.putQueue_mask, mask_ite, mask_ite_snd, ite_self]; done)
    | dsimp only
    | (with_reducible refine mask_foldl _ (fun s x => ?_) _ _)
    | (with_reducible refine mask_foldl_snd _ (fun s x => ?_) _ _)
    | (with_reducible refine (mask_foldl _ (fun s x => ?_) _ _).trans ?_)
    | (split <;> try (rename_i e; have e2 := congrArg Prod.snd e; dsimp only at e2; subst e2))
    | (simp (disch := decide) only [State.handHeld_mask, State.putQueue_mask, mask_ite, mask_ite_snd, ite_self])

theorem State.restartQueue_mask (s : State) (q : Nat) (arg : Option (BitVec 32)) {m0 : Nat} (hw : 1446966029205570 &&& m0 = 1446966029205570) :
    (State.restartQueue s q arg).2.mask m0 = s.mask m0 := by
  refine mask_mono hw ?_
  unfold State.restartQueue
  repeat' first
    | with_reducible rfl
    | with_reducible refine mask_ite_eq ?_ ?_
    | with_reducible refine mask_ite_snd_eq ?_ ?_
    | (simp (disch := decide) only [State.handHeld_mask, State.putQueue_mask, mask_ite, mask_ite_snd, ite_self]; done)
    | dsimp only
    | (with_reducible refine mask_foldl _ (fun s x => ?_) _ _)
    | (with_reducible refine mask_foldl_snd _ (fun s x => ?_) _ _)
    | (with_reducible refine (mask_foldl _ (fun s x => ?_) _ _).trans ?_)
    | (split <;> try (rename_i e; have e2 := congrArg Prod.snd e; dsimp only at e2; subst e2))
    | (simp (disch := decide) only [State.handHeld_mask, State.putQueue_mask, mask_ite, mask_ite_snd, ite_self])

theorem State.flush_mask (s : State) (q : Nat) {m0 : Nat} (hw : 1798844110028806 &&& m0 = 1798844110028806) :
    (State.flush s q).2.mask m0 = s.mask m0 := by
  refine mask_mono hw ?_
  unfold State.flush
  repeat' first
    | with_reducible rfl
    | with_reducible refine mask_ite_eq ?_ ?_
    | with_reducible refine mask_ite_snd_eq ?_ ?_
    | (simp (disch := decide) only [State.creditWriteBack_mask, State.flushQueue_mask, State.putQueue_mask, mask_ite, mask_ite_snd, ite_self]; done)
    | dsimp only
    | (with_reducible refine mask_foldl _ (fun s x => ?_) _ _)
    | (with_reducible refine mask_foldl_snd _ (fun s x => ?_) _ _)
    | (with_reducible refine (mask_foldl _ (fun s x => ?_) _ _).trans ?_)
    | (split <;> try (rename_i e; have e2 := congrArg Prod.snd e; dsimp only at e2; subst e2))
    | (simp (disch := decide) only [State.creditWriteBack_mask, State.flushQueue_mask, State.putQueue_mask, mask_ite, mask_ite_snd, ite_self])

theorem State.disableQueue_mask (s : State) (q : Nat) {m0 : Nat} (hw : 1798844110028806 &&& m0 = 1798844110028806) :
    (State.disableQueue s q).2.mask m0 = s.mask m0 := by
  refine mask_mono hw ?_
  unfold State.disableQueue
  repeat' first
    | with_reducible rfl
    | with_reducible refine mask_ite_eq ?_ ?_
    | with_reducible refine mask_ite_snd_eq ?_ ?_
    | (simp (disch := decide) only [State.flush_mask, State.updQueue_mask, mask_ite, mask_ite_snd, ite_self]; done)
    | dsimp only
    | (with_reducible refine mask_foldl _ (fun s x => ?_) _ _)
    | (with_reducible refine mask_foldl_snd _ (fun s x => ?_) _ _)
    | (with_reducible refine (mask_foldl _ (fun s x => ?_) _ _).trans ?_)
    | (split <;> try (rename_i e; have e2 := congrArg Prod.snd e; dsimp only at e2; subst e2))
    | (simp (disch := decide) only [State.flush_mask, State.updQueue_mask, mask_ite, mask_ite_snd, ite_self])

end Sys2Proof.Machine
end

