-- ==== Sys2Proof/Laws/Frame/Mailbox.lean ====
section
/-!
SUPPORT. Frames of Machine/Mailbox.lean: the fields that each function may change, as a mask.
-/
namespace Sys2Proof.Machine

open Sys2Proof

set_option linter.unusedSimpArgs false

theorem State.regionStore_mask (s : State) (die off : Nat) (bs : List (Byte × Bool)) {m0 : Nat} (hw : 8589934592 &&& m0 = 8589934592) :
    (State.regionStore s die off bs).mask m0 = s.mask m0 := by
  refine mask_mono hw ?_
  unfold State.regionStore
  repeat' first
    | with_reducible rfl
    | with_reducible refine mask_ite_eq ?_ ?_
    | with_reducible refine mask_ite_snd_eq ?_ ?_
    | (simp (disch := decide) only [setModMem_mask, mask_ite, mask_ite_snd, ite_self]; done)
    | dsimp only
    | (with_reducible refine mask_foldl _ (fun s x => ?_) _ _)
    | (with_reducible refine mask_foldl_snd _ (fun s x => ?_) _ _)
    | (with_reducible refine (mask_foldl _ (fun s x => ?_) _ _).trans ?_)
    | (split <;> try (rename_i e; have e2 := congrArg Prod.snd e; dsimp only at e2; subst e2))
    | (simp (disch := decide) only [setModMem_mask, mask_ite, mask_ite_snd, ite_self])

theorem State.settleRegion_mask (s : State) (p : Nat → Bool) {m0 : Nat} (hw : 8592818176 &&& m0 = 8592818176) :
    (State.settleRegion s p).mask m0 = s.mask m0 := by
  refine mask_mono hw ?_
  unfold State.settleRegion
  repeat' first
    | with_reducible rfl
    | with_reducible refine mask_ite_eq ?_ ?_
    | with_reducible refine mask_ite_snd_eq ?_ ?_
    | (simp (disch := decide) only [State.settleLine_mask, mask_ite, mask_ite_snd, ite_self]; done)
    | dsimp only
    | (with_reducible refine mask_foldl _ (fun s x => ?_) _ _)
    | (with_reducible refine mask_foldl_snd _ (fun s x => ?_) _ _)
    | (with_reducible refine (mask_foldl _ (fun s x => ?_) _ _).trans ?_)
    | (split <;> try (rename_i e; have e2 := congrArg Prod.snd e; dsimp only at e2; subst e2))
    | (simp (disch := decide) only [State.settleLine_mask, mask_ite, mask_ite_snd, ite_self])

theorem State.regionWrite_mask (s : State) (a : Nat) (bs : List (Byte × Bool)) {m0 : Nat} (hw : 8592818176 &&& m0 = 8592818176) :
    (State.regionWrite s a bs).mask m0 = s.mask m0 := by
  refine mask_mono hw ?_
  unfold State.regionWrite
  repeat' first
    | with_reducible rfl
    | with_reducible refine mask_ite_eq ?_ ?_
    | with_reducible refine mask_ite_snd_eq ?_ ?_
    | (simp (disch := decide) only [setUpsets_mask, State.regionStore_mask, State.settleRegion_mask, mask_ite, mask_ite_snd, ite_self]; done)
    | dsimp only
    | (with_reducible refine mask_foldl _ (fun s x => ?_) _ _)
    | (with_reducible refine mask_foldl_snd _ (fun s x => ?_) _ _)
    | (with_reducible refine (mask_foldl _ (fun s x => ?_) _ _).trans ?_)
    | (split <;> try (rename_i e; have e2 := congrArg Prod.snd e; dsimp only at e2; subst e2))
    | (simp (disch := decide) only [setUpsets_mask, State.regionStore_mask, State.settleRegion_mask, mask_ite, mask_ite_snd, ite_self])

theorem State.answer_mask (s : State) (x : MbxIn) (status : Nat) (body : List Byte) {m0 : Nat} (hw : 1165491052494850 &&& m0 = 1165491052494850) :
    (State.answer s x status body).mask m0 = s.mask m0 := by
  refine mask_mono hw ?_
  unfold State.answer
  repeat' first
    | with_reducible rfl
    | with_reducible refine mask_ite_eq ?_ ?_
    | with_reducible refine mask_ite_snd_eq ?_ ?_
    | (simp (disch := decide) only [State.finishSeq_mask, State.odInc_mask, State.putMbx_mask, State.pwrite_mask, State.regionWrite_mask, mask_ite, mask_ite_snd, ite_self]; done)
    | dsimp only
    | (with_reducible refine mask_foldl _ (fun s x => ?_) _ _)
    | (with_reducible refine mask_foldl_snd _ (fun s x => ?_) _ _)
    | (with_reducible refine (mask_foldl _ (fun s x => ?_) _ _).trans ?_)
    | (split <;> try (rename_i e; have e2 := congrArg Prod.snd e; dsimp only at e2; subst e2))
    | (simp (disch := decide) only [State.finishSeq_mask, State.odInc_mask, State.putMbx_mask, State.pwrite_mask, State.regionWrite_mask, mask_ite, mask_ite_snd, ite_self])

theorem State.keepRequest_mask (s : State) (x : MbxIn) (waiting : Bool) {m0 : Nat} (hw : 4398046527488 &&& m0 = 4398046527488) :
    (State.keepRequest s x waiting).mask m0 = s.mask m0 := by
  refine mask_mono hw ?_
  unfold State.keepRequest
  repeat' first
    | with_reducible rfl
    | with_reducible refine mask_ite_eq ?_ ?_
    | with_reducible refine mask_ite_snd_eq ?_ ?_
    | (simp (disch := decide) only [State.putMbx_mask, State.updQueue_mask, mask_ite, mask_ite_snd, ite_self]; done)
    | dsimp only
    | (with_reducible refine mask_foldl _ (fun s x => ?_) _ _)
    | (with_reducible refine mask_foldl_snd _ (fun s x => ?_) _ _)
    | (with_reducible refine (mask_foldl _ (fun s x => ?_) _ _).trans ?_)
    | (split <;> try (rename_i e; have e2 := congrArg Prod.snd e; dsimp only at e2; subst e2))
    | (simp (disch := decide) only [State.putMbx_mask, State.updQueue_mask, mask_ite, mask_ite_snd, ite_self])

theorem State.answerKept_mask (s : State) (die m : Nat) (r : MbxReq) (status : Nat) (body : List Byte) {m0 : Nat} (hw : 1165491052494850 &&& m0 = 1165491052494850) :
    (State.answerKept s die m r status body).mask m0 = s.mask m0 := by
  refine mask_mono hw ?_
  unfold State.answerKept
  repeat' first
    | with_reducible rfl
    | with_reducible refine mask_ite_eq ?_ ?_
    | with_reducible refine mask_ite_snd_eq ?_ ?_
    | (simp (disch := decide) only [State.answer_mask, State.putMbx_mask, mask_ite, mask_ite_snd, ite_self]; done)
    | dsimp only
    | (with_reducible refine mask_foldl _ (fun s x => ?_) _ _)
    | (with_reducible refine mask_foldl_snd _ (fun s x => ?_) _ _)
    | (with_reducible refine (mask_foldl _ (fun s x => ?_) _ _).trans ?_)
    | (split <;> try (rename_i e; have e2 := congrArg Prod.snd e; dsimp only at e2; subst e2))
    | (simp (disch := decide) only [State.answer_mask, State.putMbx_mask, mask_ite, mask_ite_snd, ite_self])

theorem State.answerType_mask (s : State) (t status : Nat) (body : List Byte) {m0 : Nat} (hw : 1165491052494850 &&& m0 = 1165491052494850) :
    (State.answerType s t status body).mask m0 = s.mask m0 := by
  refine mask_mono hw ?_
  unfold State.answerType
  repeat' first
    | with_reducible rfl
    | with_reducible refine mask_ite_eq ?_ ?_
    | with_reducible refine mask_ite_snd_eq ?_ ?_
    | (simp (disch := decide) only [State.answerKept_mask, mask_ite, mask_ite_snd, ite_self]; done)
    | dsimp only
    | (with_reducible refine mask_foldl _ (fun s x => ?_) _ _)
    | (with_reducible refine mask_foldl_snd _ (fun s x => ?_) _ _)
    | (with_reducible refine (mask_foldl _ (fun s x => ?_) _ _).trans ?_)
    | (split <;> try (rename_i e; have e2 := congrArg Prod.snd e; dsimp only at e2; subst e2))
    | (simp (disch := decide) only [State.answerKept_mask, mask_ite, mask_ite_snd, ite_self])

theorem State.meetBody_mask (s : State) (x : MbxIn) {m0 : Nat} (hw : 8727035906 &&& m0 = 8727035906) :
    (State.meetBody s x).mask m0 = s.mask m0 := by
  refine mask_mono hw ?_
  unfold State.meetBody
  repeat' first
    | with_reducible rfl
    | with_reducible refine mask_ite_eq ?_ ?_
    | with_reducible refine mask_ite_snd_eq ?_ ?_
    | (simp (disch := decide) only [State.rawRead_mask, State.settleRegion_mask, mask_ite, mask_ite_snd, ite_self]; done)
    | dsimp only
    | (with_reducible refine mask_foldl _ (fun s x => ?_) _ _)
    | (with_reducible refine mask_foldl_snd _ (fun s x => ?_) _ _)
    | (with_reducible refine (mask_foldl _ (fun s x => ?_) _ _).trans ?_)
    | (split <;> try (rename_i e; have e2 := congrArg Prod.snd e; dsimp only at e2; subst e2))
    | (simp (disch := decide) only [State.rawRead_mask, State.settleRegion_mask, mask_ite, mask_ite_snd, ite_self])

theorem State.receive_mask (s : State) (src : MbxSrc) (t : Nat) {m0 : Nat} (hw : 1165491052494914 &&& m0 = 1165491052494914) :
    (State.receive s src t).2.mask m0 = s.mask m0 := by
  refine mask_mono hw ?_
  unfold State.receive
  repeat' first
    | with_reducible rfl
    | with_reducible refine mask_ite_eq ?_ ?_
    | with_reducible refine mask_ite_snd_eq ?_ ?_
    | (simp (disch := decide) only [State.active_mask, State.answer_mask, State.keepRequest_mask, State.meetBody_mask, State.putMbx_mask, mask_ite, mask_ite_snd, ite_self]; done)
    | dsimp only
    | (with_reducible refine mask_foldl _ (fun s x => ?_) _ _)
    | (with_reducible refine mask_foldl_snd _ (fun s x => ?_) _ _)
    | (with_reducible refine (mask_foldl _ (fun s x => ?_) _ _).trans ?_)
    | (split <;> try (rename_i e; have e2 := congrArg Prod.snd e; dsimp only at e2; subst e2))
    | (simp (disch := decide) only [State.active_mask, State.answer_mask, State.keepRequest_mask, State.meetBody_mask, State.putMbx_mask, mask_ite, mask_ite_snd, ite_self])

theorem State.setComp_mask (s : State) (die c : Nat) (st : CompState) (cause : Nat) {m0 : Nat} (hw : 1165491052494850 &&& m0 = 1165491052494850) :
    (State.setComp s die c st cause).mask m0 = s.mask m0 := by
  refine mask_mono hw ?_
  unfold State.setComp
  repeat' first
    | with_reducible rfl
    | with_reducible refine mask_ite_eq ?_ ?_
    | with_reducible refine mask_ite_snd_eq ?_ ?_
    | (simp (disch := decide) only [State.mbxSend_mask, State.putComp_mask, State.raise_mask, mask_ite, mask_ite_snd, ite_self]; done)
    | dsimp only
    | (with_reducible refine mask_foldl _ (fun s x => ?_) _ _)
    | (with_reducible refine mask_foldl_snd _ (fun s x => ?_) _ _)
    | (with_reducible refine (mask_foldl _ (fun s x => ?_) _ _).trans ?_)
    | (split <;> try (rename_i e; have e2 := congrArg Prod.snd e; dsimp only at e2; subst e2))
    | (simp (disch := decide) only [State.mbxSend_mask, State.putComp_mask, State.raise_mask, mask_ite, mask_ite_snd, ite_self])

theorem State.orderWarm_mask (s : State) (cause : Nat) {m0 : Nat} (hw : 4096 &&& m0 = 4096) :
    (State.orderWarm s cause).mask m0 = s.mask m0 := by
  refine mask_mono hw ?_
  unfold State.orderWarm
  repeat' first
    | with_reducible rfl
    | with_reducible refine mask_ite_eq ?_ ?_
    | with_reducible refine mask_ite_snd_eq ?_ ?_
    | (simp (disch := decide) only [setRst_mask, mask_ite, mask_ite_snd, ite_self]; done)
    | dsimp only
    | (with_reducible refine mask_foldl _ (fun s x => ?_) _ _)
    | (with_reducible refine mask_foldl_snd _ (fun s x => ?_) _ _)
    | (with_reducible refine (mask_foldl _ (fun s x => ?_) _ _).trans ?_)
    | (split <;> try (rename_i e; have e2 := congrArg Prod.snd e; dsimp only at e2; subst e2))
    | (simp (disch := decide) only [setRst_mask, mask_ite, mask_ite_snd, ite_self])

theorem State.fatal_mask (s : State) (detail : Nat) {m0 : Nat} (hw : 1165491052498946 &&& m0 = 1165491052498946) :
    (State.fatal s detail).mask m0 = s.mask m0 := by
  refine mask_mono hw ?_
  unfold State.fatal
  repeat' first
    | with_reducible rfl
    | with_reducible refine mask_ite_eq ?_ ?_
    | with_reducible refine mask_ite_snd_eq ?_ ?_
    | (simp (disch := decide) only [State.orderWarm_mask, State.raiseEast_mask, mask_ite, mask_ite_snd, ite_self]; done)
    | dsimp only
    | (with_reducible refine mask_foldl _ (fun s x => ?_) _ _)
    | (with_reducible refine mask_foldl_snd _ (fun s x => ?_) _ _)
    | (with_reducible refine (mask_foldl _ (fun s x => ?_) _ _).trans ?_)
    | (split <;> try (rename_i e; have e2 := congrArg Prod.snd e; dsimp only at e2; subst e2))
    | (simp (disch := decide) only [State.orderWarm_mask, State.raiseEast_mask, mask_ite, mask_ite_snd, ite_self])

end Sys2Proof.Machine
end

