-- ==== Sys2Proof/Laws/Frame/Cores.lean ====
section
/-!
SUPPORT. Frames of Machine/Cores.lean: the fields that each function may change, as a mask.
-/
namespace Sys2Proof.Machine

open Sys2Proof

set_option linter.unusedSimpArgs false

theorem State.clearCoreCounters_mask (s : State) (n : Nat) {m0 : Nat} (hw : 35184372088832 &&& m0 = 35184372088832) :
    (State.clearCoreCounters s n).mask m0 = s.mask m0 := by
  refine mask_mono hw ?_
  unfold State.clearCoreCounters
  repeat' first
    | with_reducible rfl
    | with_reducible refine mask_ite_eq ?_ ?_
    | with_reducible refine mask_ite_snd_eq ?_ ?_
    | (simp (disch := decide) only [setEv_mask, mask_ite, mask_ite_snd, ite_self]; done)
    | dsimp only
    | (with_reducible refine mask_foldl _ (fun s x => ?_) _ _)
    | (with_reducible refine mask_foldl_snd _ (fun s x => ?_) _ _)
    | (with_reducible refine (mask_foldl _ (fun s x => ?_) _ _).trans ?_)
    | (split <;> try (rename_i e; have e2 := congrArg Prod.snd e; dsimp only at e2; subst e2))
    | (simp (disch := decide) only [setEv_mask, mask_ite, mask_ite_snd, ite_self])

theorem State.abortQueue_mask (s : State) (q code : Nat) {m0 : Nat} (hw : 1798844110028806 &&& m0 = 1798844110028806) :
    (State.abortQueue s q code).mask m0 = s.mask m0 := by
  refine mask_mono hw ?_
  unfold State.abortQueue
  repeat' first
    | with_reducible rfl
    | with_reducible refine mask_ite_eq ?_ ?_
    | with_reducible refine mask_ite_snd_eq ?_ ?_
    | (simp (disch := decide) only [State.faultQueue_mask, State.flushQueue_mask, mask_ite, mask_ite_snd, ite_self]; done)
    | dsimp only
    | (with_reducible refine mask_foldl _ (fun s x => ?_) _ _)
    | (with_reducible refine mask_foldl_snd _ (fun s x => ?_) _ _)
    | (with_reducible refine (mask_foldl _ (fun s x => ?_) _ _).trans ?_)
    | (split <;> try (rename_i e; have e2 := congrArg Prod.snd e; dsimp only at e2; subst e2))
    | (simp (disch := decide) only [State.faultQueue_mask, State.flushQueue_mask, mask_ite, mask_ite_snd, ite_self])

theorem State.coreDown_mask (s : State) (n : Nat) (role : CoreRole) (cause : Nat) {m0 : Nat} (hw : 1798844111085574 &&& m0 = 1798844111085574) :
    (State.coreDown s n role cause).mask m0 = s.mask m0 := by
  refine mask_mono hw ?_
  unfold State.coreDown
  repeat' first
    | with_reducible rfl
    | with_reducible refine mask_ite_eq ?_ ?_
    | with_reducible refine mask_ite_snd_eq ?_ ?_
    | (simp (disch := decide) only [setEv_mask, setQueues_mask, State.abortQueue_mask, State.clearCoreCounters_mask, State.clearCoreEntries_mask, State.clearSpadUpsets_mask, State.clearStatuses_mask, State.commit_mask, State.condition_mask, State.odInc_mask, State.updCore_mask, mask_ite, mask_ite_snd, ite_self]; done)
    | dsimp only
    | (with_reducible refine mask_foldl _ (fun s x => ?_) _ _)
    | (with_reducible refine mask_foldl_snd _ (fun s x => ?_) _ _)
    | (with_reducible refine (mask_foldl _ (fun s x => ?_) _ _).trans ?_)
    | (split <;> try (rename_i e; have e2 := congrArg Prod.snd e; dsimp only at e2; subst e2))
    | (simp (disch := decide) only [setEv_mask, setQueues_mask, State.abortQueue_mask, State.clearCoreCounters_mask, State.clearCoreEntries_mask, State.clearSpadUpsets_mask, State.clearStatuses_mask, State.commit_mask, State.condition_mask, State.odInc_mask, State.updCore_mask, mask_ite, mask_ite_snd, ite_self])

theorem State.startCoreReset_mask (s : State) (n cause : Nat) {m0 : Nat} (hw : 1798844111085574 &&& m0 = 1798844111085574) :
    (State.startCoreReset s n cause).mask m0 = s.mask m0 := by
  refine mask_mono hw ?_
  unfold State.startCoreReset
  repeat' first
    | with_reducible rfl
    | with_reducible refine mask_ite_eq ?_ ?_
    | with_reducible refine mask_ite_snd_eq ?_ ?_
    | (simp (disch := decide) only [State.coreDown_mask, State.odSet_mask, mask_ite, mask_ite_snd, ite_self]; done)
    | dsimp only
    | (with_reducible refine mask_foldl _ (fun s x => ?_) _ _)
    | (with_reducible refine mask_foldl_snd _ (fun s x => ?_) _ _)
    | (with_reducible refine (mask_foldl _ (fun s x => ?_) _ _).trans ?_)
    | (split <;> try (rename_i e; have e2 := congrArg Prod.snd e; dsimp only at e2; subst e2))
    | (simp (disch := decide) only [State.coreDown_mask, State.odSet_mask, mask_ite, mask_ite_snd, ite_self])

theorem State.retireCore_mask (s : State) (n cause : Nat) {m0 : Nat} (hw : 1798844111085574 &&& m0 = 1798844111085574) :
    (State.retireCore s n cause).mask m0 = s.mask m0 := by
  refine mask_mono hw ?_
  unfold State.retireCore
  repeat' first
    | with_reducible rfl
    | with_reducible refine mask_ite_eq ?_ ?_
    | with_reducible refine mask_ite_snd_eq ?_ ?_
    | (simp (disch := decide) only [State.checkComplement_mask, State.commit_mask, State.coreDown_mask, mask_ite, mask_ite_snd, ite_self]; done)
    | dsimp only
    | (with_reducible refine mask_foldl _ (fun s x => ?_) _ _)
    | (with_reducible refine mask_foldl_snd _ (fun s x => ?_) _ _)
    | (with_reducible refine (mask_foldl _ (fun s x => ?_) _ _).trans ?_)
    | (split <;> try (rename_i e; have e2 := congrArg Prod.snd e; dsimp only at e2; subst e2))
    | (simp (disch := decide) only [State.checkComplement_mask, State.commit_mask, State.coreDown_mask, mask_ite, mask_ite_snd, ite_self])

theorem State.coreRecord_mask (s : State) (n cause flags : Nat) (detail : List (Nat × DVal)) {m0 : Nat} (hw : 1763651010691072 &&& m0 = 1763651010691072) :
    (State.coreRecord s n cause flags detail).mask m0 = s.mask m0 := by
  refine mask_mono hw ?_
  unfold State.coreRecord
  repeat' first
    | with_reducible rfl
    | with_reducible refine mask_ite_eq ?_ ?_
    | with_reducible refine mask_ite_snd_eq ?_ ?_
    | (simp (disch := decide) only [State.failRecord_mask, mask_ite, mask_ite_snd, ite_self]; done)
    | dsimp only
    | (with_reducible refine mask_foldl _ (fun s x => ?_) _ _)
    | (with_reducible refine mask_foldl_snd _ (fun s x => ?_) _ _)
    | (with_reducible refine (mask_foldl _ (fun s x => ?_) _ _).trans ?_)
    | (split <;> try (rename_i e; have e2 := congrArg Prod.snd e; dsimp only at e2; subst e2))
    | (simp (disch := decide) only [State.failRecord_mask, mask_ite, mask_ite_snd, ite_self])

theorem State.droopTrip_mask (s : State) (n : Nat) {m0 : Nat} (hw : 1235859796680706 &&& m0 = 1235859796680706) :
    (State.droopTrip s n).mask m0 = s.mask m0 := by
  refine mask_mono hw ?_
  unfold State.droopTrip
  repeat' first
    | with_reducible rfl
    | with_reducible refine mask_ite_eq ?_ ?_
    | with_reducible refine mask_ite_snd_eq ?_ ?_
    | (simp (disch := decide) only [State.charge_mask, State.condition_mask, State.odInc_mask, State.putCore_mask, mask_ite, mask_ite_snd, ite_self]; done)
    | dsimp only
    | (with_reducible refine mask_foldl _ (fun s x => ?_) _ _)
    | (with_reducible refine mask_foldl_snd _ (fun s x => ?_) _ _)
    | (with_reducible refine (mask_foldl _ (fun s x => ?_) _ _).trans ?_)
    | (split <;> try (rename_i e; have e2 := congrArg Prod.snd e; dsimp only at e2; subst e2))
    | (simp (disch := decide) only [State.charge_mask, State.condition_mask, State.odInc_mask, State.putCore_mask, mask_ite, mask_ite_snd, ite_self])

theorem State.droopRecovery_mask (s : State) (n : Nat) {m0 : Nat} (hw : 1165491052503042 &&& m0 = 1165491052503042) :
    (State.droopRecovery s n).mask m0 = s.mask m0 := by
  refine mask_mono hw ?_
  unfold State.droopRecovery
  repeat' first
    | with_reducible rfl
    | with_reducible refine mask_ite_eq ?_ ?_
    | with_reducible refine mask_ite_snd_eq ?_ ?_
    | (simp (disch := decide) only [State.condition_mask, State.putCore_mask, mask_ite, mask_ite_snd, ite_self]; done)
    | dsimp only
    | (with_reducible refine mask_foldl _ (fun s x => ?_) _ _)
    | (with_reducible refine mask_foldl_snd _ (fun s x => ?_) _ _)
    | (with_reducible refine (mask_foldl _ (fun s x => ?_) _ _).trans ?_)
    | (split <;> try (rename_i e; have e2 := congrArg Prod.snd e; dsimp only at e2; subst e2))
    | (simp (disch := decide) only [State.condition_mask, State.putCore_mask, mask_ite, mask_ite_snd, ite_self])

theorem State.droopGateTimeout_mask (s : State) (n : Nat) {m0 : Nat} (hw : 1798844111085574 &&& m0 = 1798844111085574) :
    (State.droopGateTimeout s n).mask m0 = s.mask m0 := by
  refine mask_mono hw ?_
  unfold State.droopGateTimeout
  repeat' first
    | with_reducible rfl
    | with_reducible refine mask_ite_eq ?_ ?_
    | with_reducible refine mask_ite_snd_eq ?_ ?_
    | (simp (disch := decide) only [State.coreRecord_mask, State.startCoreReset_mask, mask_ite, mask_ite_snd, ite_self]; done)
    | dsimp only
    | (with_reducible refine mask_foldl _ (fun s x => ?_) _ _)
    | (with_reducible refine mask_foldl_snd _ (fun s x => ?_) _ _)
    | (with_reducible refine (mask_foldl _ (fun s x => ?_) _ _).trans ?_)
    | (split <;> try (rename_i e; have e2 := congrArg Prod.snd e; dsimp only at e2; subst e2))
    | (simp (disch := decide) only [State.coreRecord_mask, State.startCoreReset_mask, mask_ite, mask_ite_snd, ite_self])

theorem State.spadPatrol_mask (s : State) (n line : Nat) (xs : List SpadUpset) {m0 : Nat} (hw : 1798861408198658 &&& m0 = 1798861408198658) :
    (State.spadPatrol s n line xs).mask m0 = s.mask m0 := by
  refine mask_mono hw ?_
  unfold State.spadPatrol
  repeat' first
    | with_reducible rfl
    | with_reducible refine mask_ite_eq ?_ ?_
    | with_reducible refine mask_ite_snd_eq ?_ ?_
    | (simp (disch := decide) only [State.account_mask, State.settleSpad_mask, State.strikeSpad_mask, mask_ite, mask_ite_snd, ite_self]; done)
    | dsimp only
    | (with_reducible refine mask_foldl _ (fun s x => ?_) _ _)
    | (with_reducible refine mask_foldl_snd _ (fun s x => ?_) _ _)
    | (with_reducible refine (mask_foldl _ (fun s x => ?_) _ _).trans ?_)
    | (split <;> try (rename_i e; have e2 := congrArg Prod.snd e; dsimp only at e2; subst e2))
    | (simp (disch := decide) only [State.account_mask, State.settleSpad_mask, State.strikeSpad_mask, mask_ite, mask_ite_snd, ite_self])

theorem State.orderTest_mask (s : State) (n : Nat) {m0 : Nat} (hw : 8192 &&& m0 = 8192) :
    (State.orderTest s n).mask m0 = s.mask m0 := by
  refine mask_mono hw ?_
  unfold State.orderTest
  repeat' first
    | with_reducible rfl
    | with_reducible refine mask_ite_eq ?_ ?_
    | with_reducible refine mask_ite_snd_eq ?_ ?_
    | (simp (disch := decide) only [State.updCore_mask, mask_ite, mask_ite_snd, ite_self]; done)
    | dsimp only
    | (with_reducible refine mask_foldl _ (fun s x => ?_) _ _)
    | (with_reducible refine mask_foldl_snd _ (fun s x => ?_) _ _)
    | (with_reducible refine (mask_foldl _ (fun s x => ?_) _ _).trans ?_)
    | (split <;> try (rename_i e; have e2 := congrArg Prod.snd e; dsimp only at e2; subst e2))
    | (simp (disch := decide) only [State.updCore_mask, mask_ite, mask_ite_snd, ite_self])

theorem State.testIfFree_mask (s : State) (n : Nat) {m0 : Nat} (hw : 8192 &&& m0 = 8192) :
    (State.testIfFree s n).mask m0 = s.mask m0 := by
  refine mask_mono hw ?_
  unfold State.testIfFree
  repeat' first
    | with_reducible rfl
    | with_reducible refine mask_ite_eq ?_ ?_
    | with_reducible refine mask_ite_snd_eq ?_ ?_
    | (simp (disch := decide) only [State.orderTest_mask, mask_ite, mask_ite_snd, ite_self]; done)
    | dsimp only
    | (with_reducible refine mask_foldl _ (fun s x => ?_) _ _)
    | (with_reducible refine mask_foldl_snd _ (fun s x => ?_) _ _)
    | (with_reducible refine (mask_foldl _ (fun s x => ?_) _ _).trans ?_)
    | (split <;> try (rename_i e; have e2 := congrArg Prod.snd e; dsimp only at e2; subst e2))
    | (simp (disch := decide) only [State.orderTest_mask, mask_ite, mask_ite_snd, ite_self])

theorem State.testRecord_mask (s : State) (n failed mhz : Nat) (temp : Int) {m0 : Nat} (hw : 1763651010691072 &&& m0 = 1763651010691072) :
    (State.testRecord s n failed mhz temp).mask m0 = s.mask m0 := by
  refine mask_mono hw ?_
  unfold State.testRecord
  repeat' first
    | with_reducible rfl
    | with_reducible refine mask_ite_eq ?_ ?_
    | with_reducible refine mask_ite_snd_eq ?_ ?_
    | (simp (disch := decide) only [State.coreRecord_mask, mask_ite, mask_ite_snd, ite_self]; done)
    | dsimp only
    | (with_reducible refine mask_foldl _ (fun s x => ?_) _ _)
    | (with_reducible refine mask_foldl_snd _ (fun s x => ?_) _ _)
    | (with_reducible refine (mask_foldl _ (fun s x => ?_) _ _).trans ?_)
    | (split <;> try (rename_i e; have e2 := congrArg Prod.snd e; dsimp only at e2; subst e2))
    | (simp (disch := decide) only [State.coreRecord_mask, mask_ite, mask_ite_snd, ite_self])

theorem State.selfTestDone_mask (s : State) (n failed : Nat) (temp : Int) {m0 : Nat} (hw : 1798844111085574 &&& m0 = 1798844111085574) :
    (State.selfTestDone s n failed temp).mask m0 = s.mask m0 := by
  refine mask_mono hw ?_
  unfold State.selfTestDone
  repeat' first
    | with_reducible rfl
    | with_reducible refine mask_ite_eq ?_ ?_
    | with_reducible refine mask_ite_snd_eq ?_ ?_
    | (simp (disch := decide) only [State.odSet_mask, State.putCore_mask, State.raiseCore_mask, State.retireCore_mask, State.testRecord_mask, mask_ite, mask_ite_snd, ite_self]; done)
    | dsimp only
    | (with_reducible refine mask_foldl _ (fun s x => ?_) _ _)
    | (with_reducible refine mask_foldl_snd _ (fun s x => ?_) _ _)
    | (with_reducible refine (mask_foldl _ (fun s x => ?_) _ _).trans ?_)
    | (split <;> try (rename_i e; have e2 := congrArg Prod.snd e; dsimp only at e2; subst e2))
    | (simp (disch := decide) only [State.odSet_mask, State.putCore_mask, State.raiseCore_mask, State.retireCore_mask, State.testRecord_mask, mask_ite, mask_ite_snd, ite_self])

theorem State.residueDetected_mask (s : State) (n : Nat) (injected : Bool) (column residue opcode seq tileRow tileCol kchunk : Nat) (temp : Int) {m0 : Nat} (hw : 1798844111085574 &&& m0 = 1798844111085574) :
    (State.residueDetected s n injected column residue opcode seq tileRow tileCol kchunk temp).mask m0 = s.mask m0 := by
  refine mask_mono hw ?_
  unfold State.residueDetected
  repeat' first
    | with_reducible rfl
    | with_reducible refine mask_ite_eq ?_ ?_
    | with_reducible refine mask_ite_snd_eq ?_ ?_
    | (simp (disch := decide) only [State.charge_mask, State.coreRecord_mask, State.odInc_mask, State.odSet_mask, State.orderTest_mask, State.ownerInc_mask, State.raiseCore_mask, State.retireCore_mask, State.updCore_mask, mask_ite, mask_ite_snd, ite_self]; done)
    | dsimp only
    | (with_reducible refine mask_foldl _ (fun s x => ?_) _ _)
    | (with_reducible refine mask_foldl_snd _ (fun s x => ?_) _ _)
    | (with_reducible refine (mask_foldl _ (fun s x => ?_) _ _).trans ?_)
    | (split <;> try (rename_i e; have e2 := congrArg Prod.snd e; dsimp only at e2; subst e2))
    | (simp (disch := decide) only [State.charge_mask, State.coreRecord_mask, State.odInc_mask, State.odSet_mask, State.orderTest_mask, State.ownerInc_mask, State.raiseCore_mask, State.retireCore_mask, State.updCore_mask, mask_ite, mask_ite_snd, ite_self])

theorem State.putHistory_mask (s : State) (h : HistRec) {m0 : Nat} (hw : 1759218604445696 &&& m0 = 1759218604445696) :
    (State.putHistory s h).mask m0 = s.mask m0 := by
  refine mask_mono hw ?_
  unfold State.putHistory
  repeat' first
    | with_reducible rfl
    | with_reducible refine mask_ite_eq ?_ ?_
    | with_reducible refine mask_ite_snd_eq ?_ ?_
    | (simp (disch := decide) only [setRst_mask, State.commit_mask, mask_ite, mask_ite_snd, ite_self]; done)
    | dsimp only
    | (with_reducible refine mask_foldl _ (fun s x => ?_) _ _)
    | (with_reducible refine mask_foldl_snd _ (fun s x => ?_) _ _)
    | (with_reducible refine (mask_foldl _ (fun s x => ?_) _ _).trans ?_)
    | (split <;> try (rename_i e; have e2 := congrArg Prod.snd e; dsimp only at e2; subst e2))
    | (simp (disch := decide) only [setRst_mask, State.commit_mask, mask_ite, mask_ite_snd, ite_self])

theorem State.bankTested_mask (s : State) (n : Nat) (passed : Bool) {m0 : Nat} (hw : 1763651010699264 &&& m0 = 1763651010699264) :
    (State.bankTested s n passed).mask m0 = s.mask m0 := by
  refine mask_mono hw ?_
  unfold State.bankTested
  repeat' first
    | with_reducible rfl
    | with_reducible refine mask_ite_eq ?_ ?_
    | with_reducible refine mask_ite_snd_eq ?_ ?_
    | (simp (disch := decide) only [State.commit_mask, State.failRecord_mask, State.foretell_mask, State.odSet_mask, State.putCore_mask, mask_ite, mask_ite_snd, ite_self]; done)
    | dsimp only
    | (with_reducible refine mask_foldl _ (fun s x => ?_) _ _)
    | (with_reducible refine mask_foldl_snd _ (fun s x => ?_) _ _)
    | (with_reducible refine (mask_foldl _ (fun s x => ?_) _ _).trans ?_)
    | (split <;> try (rename_i e; have e2 := congrArg Prod.snd e; dsimp only at e2; subst e2))
    | (simp (disch := decide) only [State.commit_mask, State.failRecord_mask, State.foretell_mask, State.odSet_mask, State.putCore_mask, mask_ite, mask_ite_snd, ite_self])

theorem State.coreResetDone_mask (s : State) (n failed : Nat) (bankPassed : Bool) {m0 : Nat} (hw : 1798844109844482 &&& m0 = 1798844109844482) :
    (State.coreResetDone s n failed bankPassed).mask m0 = s.mask m0 := by
  refine mask_mono hw ?_
  unfold State.coreResetDone
  repeat' first
    | with_reducible rfl
    | with_reducible refine mask_ite_eq ?_ ?_
    | with_reducible refine mask_ite_snd_eq ?_ ?_
    | (simp (disch := decide) only [State.bankTested_mask, State.checkComplement_mask, State.commit_mask, State.drawInt_mask, State.odSet_mask, State.putHistory_mask, State.raiseCore_mask, State.testRecord_mask, State.updCore_mask, mask_ite, mask_ite_snd, ite_self]; done)
    | dsimp only
    | (with_reducible refine mask_foldl _ (fun s x => ?_) _ _)
    | (with_reducible refine mask_foldl_snd _ (fun s x => ?_) _ _)
    | (with_reducible refine (mask_foldl _ (fun s x => ?_) _ _).trans ?_)
    | (split <;> try (rename_i e; have e2 := congrArg Prod.snd e; dsimp only at e2; subst e2))
    | (simp (disch := decide) only [State.bankTested_mask, State.checkComplement_mask, State.commit_mask, State.drawInt_mask, State.odSet_mask, State.putHistory_mask, State.raiseCore_mask, State.testRecord_mask, State.updCore_mask, mask_ite, mask_ite_snd, ite_self])

theorem State.injectResidue_mask (s : State) (n column : Nat) {m0 : Nat} (hw : 1125899906850816 &&& m0 = 1125899906850816) :
    (State.injectResidue s n column).mask m0 = s.mask m0 := by
  refine mask_mono hw ?_
  unfold State.injectResidue
  repeat' first
    | with_reducible rfl
    | with_reducible refine mask_ite_eq ?_ ?_
    | with_reducible refine mask_ite_snd_eq ?_ ?_
    | (simp (disch := decide) only [State.odSet_mask, State.updCore_mask, mask_ite, mask_ite_snd, ite_self]; done)
    | dsimp only
    | (with_reducible refine mask_foldl _ (fun s x => ?_) _ _)
    | (with_reducible refine mask_foldl_snd _ (fun s x => ?_) _ _)
    | (with_reducible refine (mask_foldl _ (fun s x => ?_) _ _).trans ?_)
    | (split <;> try (rename_i e; have e2 := congrArg Prod.snd e; dsimp only at e2; subst e2))
    | (simp (disch := decide) only [State.odSet_mask, State.updCore_mask, mask_ite, mask_ite_snd, ite_self])

theorem State.coreOrder_mask (s : State) (n action : Nat) (src : CmdSrc) {m0 : Nat} (hw : 1165491052494914 &&& m0 = 1165491052494914) :
    (State.coreOrder s n action src).2.mask m0 = s.mask m0 := by
  refine mask_mono hw ?_
  unfold State.coreOrder
  repeat' first
    | with_reducible rfl
    | with_reducible refine mask_ite_eq ?_ ?_
    | with_reducible refine mask_ite_snd_eq ?_ ?_
    | (simp (disch := decide) only [State.answer_mask, State.receive_mask, mask_ite, mask_ite_snd, ite_self]; done)
    | dsimp only
    | (with_reducible refine mask_foldl _ (fun s x => ?_) _ _)
    | (with_reducible refine mask_foldl_snd _ (fun s x => ?_) _ _)
    | (with_reducible refine (mask_foldl _ (fun s x => ?_) _ _).trans ?_)
    | (split <;> try (rename_i e; have e2 := congrArg Prod.snd e; dsimp only at e2; subst e2))
    | (simp (disch := decide) only [State.answer_mask, State.receive_mask, mask_ite, mask_ite_snd, ite_self])

theorem State.orderDone_mask (s : State) (x : Option MbxIn) (ok : Bool) {m0 : Nat} (hw : 1165491052494850 &&& m0 = 1165491052494850) :
    (State.orderDone s x ok).mask m0 = s.mask m0 := by
  refine mask_mono hw ?_
  unfold State.orderDone
  repeat' first
    | with_reducible rfl
    | with_reducible refine mask_ite_eq ?_ ?_
    | with_reducible refine mask_ite_snd_eq ?_ ?_
    | (simp (disch := decide) only [State.answer_mask, mask_ite, mask_ite_snd, ite_self]; done)
    | dsimp only
    | (with_reducible refine mask_foldl _ (fun s x => ?_) _ _)
    | (with_reducible refine mask_foldl_snd _ (fun s x => ?_) _ _)
    | (with_reducible refine (mask_foldl _ (fun s x => ?_) _ _).trans ?_)
    | (split <;> try (rename_i e; have e2 := congrArg Prod.snd e; dsimp only at e2; subst e2))
    | (simp (disch := decide) only [State.answer_mask, mask_ite, mask_ite_snd, ite_self])

theorem State.giveCore_mask (s : State) (a b : Nat) {m0 : Nat} (hw : 17179869184 &&& m0 = 17179869184) :
    (State.giveCore s a b).mask m0 = s.mask m0 := by
  refine mask_mono hw ?_
  unfold State.giveCore
  repeat' first
    | with_reducible rfl
    | with_reducible refine mask_ite_eq ?_ ?_
    | with_reducible refine mask_ite_snd_eq ?_ ?_
    | (simp (disch := decide) only [State.updPart_mask, mask_ite, mask_ite_snd, ite_self]; done)
    | dsimp only
    | (with_reducible refine mask_foldl _ (fun s x => ?_) _ _)
    | (with_reducible refine mask_foldl_snd _ (fun s x => ?_) _ _)
    | (with_reducible refine (mask_foldl _ (fun s x => ?_) _ _).trans ?_)
    | (split <;> try (rename_i e; have e2 := congrArg Prod.snd e; dsimp only at e2; subst e2))
    | (simp (disch := decide) only [State.updPart_mask, mask_ite, mask_ite_snd, ite_self])

theorem State.swapCore_mask (s : State) (n : Nat) (passed : Bool) {m0 : Nat} (hw : 1798861290954758 &&& m0 = 1798861290954758) :
    (State.swapCore s n passed).mask m0 = s.mask m0 := by
  refine mask_mono hw ?_
  unfold State.swapCore
  repeat' first
    | with_reducible rfl
    | with_reducible refine mask_ite_eq ?_ ?_
    | with_reducible refine mask_ite_snd_eq ?_ ?_
    | (simp (disch := decide) only [State.checkComplement_mask, State.clearSpadUpsets_mask, State.commit_mask, State.coreDown_mask, State.coreRecord_mask, State.drawIn_mask, State.drawInt_mask, State.giveCore_mask, State.testRecord_mask, State.updCore_mask, mask_ite, mask_ite_snd, ite_self]; done)
    | dsimp only
    | (with_reducible refine mask_foldl _ (fun s x => ?_) _ _)
    | (with_reducible refine mask_foldl_snd _ (fun s x => ?_) _ _)
    | (with_reducible refine (mask_foldl _ (fun s x => ?_) _ _).trans ?_)
    | (split <;> try (rename_i e; have e2 := congrArg Prod.snd e; dsimp only at e2; subst e2))
    | (simp (disch := decide) only [State.checkComplement_mask, State.clearSpadUpsets_mask, State.commit_mask, State.coreDown_mask, State.coreRecord_mask, State.drawIn_mask, State.drawInt_mask, State.giveCore_mask, State.testRecord_mask, State.updCore_mask, mask_ite, mask_ite_snd, ite_self])

theorem State.coreSwap_mask (s : State) (n : Nat) (passed : Bool) {m0 : Nat} (hw : 1798861290954758 &&& m0 = 1798861290954758) :
    (State.coreSwap s n passed).2.mask m0 = s.mask m0 := by
  refine mask_mono hw ?_
  unfold State.coreSwap
  repeat' first
    | with_reducible rfl
    | with_reducible refine mask_ite_eq ?_ ?_
    | with_reducible refine mask_ite_snd_eq ?_ ?_
    | (simp (disch := decide) only [State.odSet_mask, State.swapCore_mask, mask_ite, mask_ite_snd, ite_self]; done)
    | dsimp only
    | (with_reducible refine mask_foldl _ (fun s x => ?_) _ _)
    | (with_reducible refine mask_foldl_snd _ (fun s x => ?_) _ _)
    | (with_reducible refine (mask_foldl _ (fun s x => ?_) _ _).trans ?_)
    | (split <;> try (rename_i e; have e2 := congrArg Prod.snd e; dsimp only at e2; subst e2))
    | (simp (disch := decide) only [State.odSet_mask, State.swapCore_mask, mask_ite, mask_ite_snd, ite_self])

theorem State.swapAll_mask (s : State) (pass : List CoreId) (xs : List Nat) {m0 : Nat} (hw : 1798861290954758 &&& m0 = 1798861290954758) :
    (State.swapAll s pass xs).mask m0 = s.mask m0 := by
  refine mask_mono hw ?_
  clear hw
  induction xs generalizing s with
  | nil =>
    unfold State.swapAll
    first | rfl | (split <;> rfl)
  | cons x xs ih =>
    unfold State.swapAll
    repeat' first
      | with_reducible rfl
      | with_reducible refine mask_ite_eq ?_ ?_
      | with_reducible refine mask_ite_snd_eq ?_ ?_
      | (simp (disch := decide) only [State.swapCore_mask, mask_ite, mask_ite_snd, ite_self, ih]; done)
      | dsimp only
      | (with_reducible refine mask_foldl _ (fun s x => ?_) _ _)
      | (with_reducible refine mask_foldl_snd _ (fun s x => ?_) _ _)
      | (with_reducible refine (mask_foldl _ (fun s x => ?_) _ _).trans ?_)
      | (split <;> try (rename_i e; have e2 := congrArg Prod.snd e; dsimp only at e2; subst e2))
      | (simp (disch := decide) only [State.swapCore_mask, mask_ite, mask_ite_snd, ite_self, ih])

theorem State.requalify_mask (s : State) (passed : Bool) {m0 : Nat} (hw : 1763651012009984 &&& m0 = 1763651012009984) :
    (State.requalify s passed).mask m0 = s.mask m0 := by
  refine mask_mono hw ?_
  unfold State.requalify
  repeat' first
    | with_reducible rfl
    | with_reducible refine mask_ite_eq ?_ ?_
    | with_reducible refine mask_ite_snd_eq ?_ ?_
    | (simp (disch := decide) only [State.checkComplement_mask, State.clearSpadUpsets_mask, State.commit_mask, State.coreRecord_mask, State.failRecord_mask, State.odSet_mask, State.putCore_mask, State.putSub_mask, mask_ite, mask_ite_snd, ite_self]; done)
    | dsimp only
    | (with_reducible refine mask_foldl _ (fun s x => ?_) _ _)
    | (with_reducible refine mask_foldl_snd _ (fun s x => ?_) _ _)
    | (with_reducible refine (mask_foldl _ (fun s x => ?_) _ _).trans ?_)
    | (split <;> try (rename_i e; have e2 := congrArg Prod.snd e; dsimp only at e2; subst e2))
    | (simp (disch := decide) only [State.checkComplement_mask, State.clearSpadUpsets_mask, State.commit_mask, State.coreRecord_mask, State.failRecord_mask, State.odSet_mask, State.putCore_mask, State.putSub_mask, mask_ite, mask_ite_snd, ite_self])

end Sys2Proof.Machine
end

