-- ==== Sys2Proof/Laws/Frame/Dram.lean ====
section
/-!
SUPPORT. Frames of Machine/Dram.lean: the fields that each function may change, as a mask.
-/
namespace Sys2Proof.Machine

open Sys2Proof

set_option linter.unusedSimpArgs false

theorem State.copyPage_mask (s : State) (m : Migr) (key : Nat) {m0 : Nat} (hw : 8794144768 &&& m0 = 8794144768) :
    (State.copyPage s m key).mask m0 = s.mask m0 := by
  refine mask_mono hw ?_
  unfold State.copyPage
  repeat' first
    | with_reducible rfl
    | with_reducible refine mask_ite_eq ?_ ?_
    | with_reducible refine mask_ite_snd_eq ?_ ?_
    | (simp (disch := decide) only [setPageMaps_mask, State.invalidate_mask, State.settleRange_mask, State.updSub_mask, mask_ite, mask_ite_snd, ite_self]; done)
    | dsimp only
    | (with_reducible refine mask_foldl _ (fun s x => ?_) _ _)
    | (with_reducible refine mask_foldl_snd _ (fun s x => ?_) _ _)
    | (with_reducible refine (mask_foldl _ (fun s x => ?_) _ _).trans ?_)
    | (split <;> try (rename_i e; have e2 := congrArg Prod.snd e; dsimp only at e2; subst e2))
    | (simp (disch := decide) only [setPageMaps_mask, State.invalidate_mask, State.settleRange_mask, State.updSub_mask, mask_ite, mask_ite_snd, ite_self])

theorem State.retireEnd_mask (s : State) (die : Nat) (m : Migr) {m0 : Nat} (hw : 1798861415530498 &&& m0 = 1798861415530498) :
    (State.retireEnd s die m).mask m0 = s.mask m0 := by
  refine mask_mono hw ?_
  unfold State.retireEnd
  repeat' first
    | with_reducible rfl
    | with_reducible refine mask_ite_eq ?_ ?_
    | with_reducible refine mask_ite_snd_eq ?_ ?_
    | (simp (disch := decide) only [setMigr_mask, State.commit_mask, State.failRecord_mask, State.nextRetire_mask, State.odSet_mask, State.retireRoles_mask, mask_ite, mask_ite_snd, ite_self]; done)
    | dsimp only
    | (with_reducible refine mask_foldl _ (fun s x => ?_) _ _)
    | (with_reducible refine mask_foldl_snd _ (fun s x => ?_) _ _)
    | (with_reducible refine (mask_foldl _ (fun s x => ?_) _ _).trans ?_)
    | (split <;> try (rename_i e; have e2 := congrArg Prod.snd e; dsimp only at e2; subst e2))
    | (simp (disch := decide) only [setMigr_mask, State.commit_mask, State.failRecord_mask, State.nextRetire_mask, State.odSet_mask, State.retireRoles_mask, mask_ite, mask_ite_snd, ite_self])

theorem State.pageCopied_mask (s : State) (die : Nat) {m0 : Nat} (hw : 1798861415538690 &&& m0 = 1798861415538690) :
    (State.pageCopied s die).mask m0 = s.mask m0 := by
  refine mask_mono hw ?_
  unfold State.pageCopied
  repeat' first
    | with_reducible rfl
    | with_reducible refine mask_ite_eq ?_ ?_
    | with_reducible refine mask_ite_snd_eq ?_ ?_
    | (simp (disch := decide) only [setMigr_mask, State.account_mask, State.copyPage_mask, State.retireEnd_mask, mask_ite, mask_ite_snd, ite_self]; done)
    | dsimp only
    | (with_reducible refine mask_foldl _ (fun s x => ?_) _ _)
    | (with_reducible refine mask_foldl_snd _ (fun s x => ?_) _ _)
    | (with_reducible refine (mask_foldl _ (fun s x => ?_) _ _).trans ?_)
    | (split <;> try (rename_i e; have e2 := congrArg Prod.snd e; dsimp only at e2; subst e2))
    | (simp (disch := decide) only [setMigr_mask, State.account_mask, State.copyPage_mask, State.retireEnd_mask, mask_ite, mask_ite_snd, ite_self])

theorem State.patrol_mask (s : State) (n line : Nat) (xs : List LineUpset) {m0 : Nat} (hw : 1798861407150082 &&& m0 = 1798861407150082) :
    (State.patrol s n line xs).mask m0 = s.mask m0 := by
  refine mask_mono hw ?_
  unfold State.patrol
  repeat' first
    | with_reducible rfl
    | with_reducible refine mask_ite_eq ?_ ?_
    | with_reducible refine mask_ite_snd_eq ?_ ?_
    | (simp (disch := decide) only [State.account_mask, State.settleRange_mask, State.strike_mask, mask_ite, mask_ite_snd, ite_self]; done)
    | dsimp only
    | (with_reducible refine mask_foldl _ (fun s x => ?_) _ _)
    | (with_reducible refine mask_foldl_snd _ (fun s x => ?_) _ _)
    | (with_reducible refine (mask_foldl _ (fun s x => ?_) _ _).trans ?_)
    | (split <;> try (rename_i e; have e2 := congrArg Prod.snd e; dsimp only at e2; subst e2))
    | (simp (disch := decide) only [State.account_mask, State.settleRange_mask, State.strike_mask, mask_ite, mask_ite_snd, ite_self])

theorem State.trainFail_mask (s : State) (n step : Nat) {m0 : Nat} (hw : 1763651019341824 &&& m0 = 1763651019341824) :
    (State.trainFail s n step).mask m0 = s.mask m0 := by
  refine mask_mono hw ?_
  unfold State.trainFail
  repeat' first
    | with_reducible rfl
    | with_reducible refine mask_ite_eq ?_ ?_
    | with_reducible refine mask_ite_snd_eq ?_ ?_
    | (simp (disch := decide) only [setRotation_mask, State.checkComplement_mask, State.commit_mask, State.failRecord_mask, State.ringSwap_mask, State.updSub_mask, mask_ite, mask_ite_snd, ite_self]; done)
    | dsimp only
    | (with_reducible refine mask_foldl _ (fun s x => ?_) _ _)
    | (with_reducible refine mask_foldl_snd _ (fun s x => ?_) _ _)
    | (with_reducible refine (mask_foldl _ (fun s x => ?_) _ _).trans ?_)
    | (split <;> try (rename_i e; have e2 := congrArg Prod.snd e; dsimp only at e2; subst e2))
    | (simp (disch := decide) only [setRotation_mask, State.checkComplement_mask, State.commit_mask, State.failRecord_mask, State.ringSwap_mask, State.updSub_mask, mask_ite, mask_ite_snd, ite_self])

theorem State.hardRepair_mask (s : State) {m0 : Nat} (hw : 1125899907104768 &&& m0 = 1125899907104768) :
    (State.hardRepair s).mask m0 = s.mask m0 := by
  refine mask_mono hw ?_
  unfold State.hardRepair
  repeat' first
    | with_reducible rfl
    | with_reducible refine mask_ite_eq ?_ ?_
    | with_reducible refine mask_ite_snd_eq ?_ ?_
    | (simp (disch := decide) only [State.odInc_mask, State.updSub_mask, mask_ite, mask_ite_snd, ite_self]; done)
    | dsimp only
    | (with_reducible refine mask_foldl _ (fun s x => ?_) _ _)
    | (with_reducible refine mask_foldl_snd _ (fun s x => ?_) _ _)
    | (with_reducible refine (mask_foldl _ (fun s x => ?_) _ _).trans ?_)
    | (split <;> try (rename_i e; have e2 := congrArg Prod.snd e; dsimp only at e2; subst e2))
    | (simp (disch := decide) only [State.odInc_mask, State.updSub_mask, mask_ite, mask_ite_snd, ite_self])

theorem State.train_mask (s : State) (r : StartReport) (hard : Bool) {m0 : Nat} (hw : 1763651019341824 &&& m0 = 1763651019341824) :
    (State.train s r hard).mask m0 = s.mask m0 := by
  refine mask_mono hw ?_
  unfold State.train
  repeat' first
    | with_reducible rfl
    | with_reducible refine mask_ite_eq ?_ ?_
    | with_reducible refine mask_ite_snd_eq ?_ ?_
    | (simp (disch := decide) only [State.hardRepair_mask, State.odSet_mask, State.trainFail_mask, State.updSub_mask, mask_ite, mask_ite_snd, ite_self]; done)
    | dsimp only
    | (with_reducible refine mask_foldl _ (fun s x => ?_) _ _)
    | (with_reducible refine mask_foldl_snd _ (fun s x => ?_) _ _)
    | (with_reducible refine (mask_foldl _ (fun s x => ?_) _ _).trans ?_)
    | (split <;> try (rename_i e; have e2 := congrArg Prod.snd e; dsimp only at e2; subst e2))
    | (simp (disch := decide) only [State.hardRepair_mask, State.odSet_mask, State.trainFail_mask, State.updSub_mask, mask_ite, mask_ite_snd, ite_self])

theorem State.endRetirements_mask (s : State) {m0 : Nat} (hw : 1759244435849216 &&& m0 = 1759244435849216) :
    (State.endRetirements s).mask m0 = s.mask m0 := by
  refine mask_mono hw ?_
  unfold State.endRetirements
  repeat' first
    | with_reducible rfl
    | with_reducible refine mask_ite_eq ?_ ?_
    | with_reducible refine mask_ite_snd_eq ?_ ?_
    | (simp (disch := decide) only [setMigr_mask, setMigrQueue_mask, State.commit_mask, State.retireRoles_mask, mask_ite, mask_ite_snd, ite_self]; done)
    | dsimp only
    | (with_reducible refine mask_foldl _ (fun s x => ?_) _ _)
    | (with_reducible refine mask_foldl_snd _ (fun s x => ?_) _ _)
    | (with_reducible refine (mask_foldl _ (fun s x => ?_) _ _).trans ?_)
    | (split <;> try (rename_i e; have e2 := congrArg Prod.snd e; dsimp only at e2; subst e2))
    | (simp (disch := decide) only [setMigr_mask, setMigrQueue_mask, State.commit_mask, State.retireRoles_mask, mask_ite, mask_ite_snd, ite_self])

theorem State.cacheUpdate_mask (s : State) {m0 : Nat} (hw : 1759218604703744 &&& m0 = 1759218604703744) :
    (State.cacheUpdate s).mask m0 = s.mask m0 := by
  refine mask_mono hw ?_
  unfold State.cacheUpdate
  repeat' first
    | with_reducible rfl
    | with_reducible refine mask_ite_eq ?_ ?_
    | with_reducible refine mask_ite_snd_eq ?_ ?_
    | (simp (disch := decide) only [setDram_mask, State.commit_mask, mask_ite, mask_ite_snd, ite_self]; done)
    | dsimp only
    | (with_reducible refine mask_foldl _ (fun s x => ?_) _ _)
    | (with_reducible refine mask_foldl_snd _ (fun s x => ?_) _ _)
    | (with_reducible refine (mask_foldl _ (fun s x => ?_) _ _).trans ?_)
    | (split <;> try (rename_i e; have e2 := congrArg Prod.snd e; dsimp only at e2; subst e2))
    | (simp (disch := decide) only [setDram_mask, State.commit_mask, mask_ite, mask_ite_snd, ite_self])

theorem State.retireEntry_mask (s : State) (n : Nat) {m0 : Nat} (hw : 1798827047403522 &&& m0 = 1798827047403522) :
    (State.retireEntry s n).mask m0 = s.mask m0 := by
  refine mask_mono hw ?_
  unfold State.retireEntry
  repeat' first
    | with_reducible rfl
    | with_reducible refine mask_ite_eq ?_ ?_
    | with_reducible refine mask_ite_snd_eq ?_ ?_
    | (simp (disch := decide) only [State.odSet_mask, State.retireSub_mask, mask_ite, mask_ite_snd, ite_self]; done)
    | dsimp only
    | (with_reducible refine mask_foldl _ (fun s x => ?_) _ _)
    | (with_reducible refine mask_foldl_snd _ (fun s x => ?_) _ _)
    | (with_reducible refine (mask_foldl _ (fun s x => ?_) _ _).trans ?_)
    | (split <;> try (rename_i e; have e2 := congrArg Prod.snd e; dsimp only at e2; subst e2))
    | (simp (disch := decide) only [State.odSet_mask, State.retireSub_mask, mask_ite, mask_ite_snd, ite_self])

end Sys2Proof.Machine
end

