-- ==== Sys2Proof/Laws/Frame/Time.lean ====
section
/-!
SUPPORT. Frames of Machine/Time.lean: the fields that each function may change, as a mask.
-/
namespace Sys2Proof.Machine

open Sys2Proof

set_option linter.unusedSimpArgs false

theorem State.acceptPulse_mask (s : State) (interval : Nat) {m0 : Nat} (hw : 1165491052494858 &&& m0 = 1165491052494858) :
    (State.acceptPulse s interval).mask m0 = s.mask m0 := by
  refine mask_mono hw ?_
  unfold State.acceptPulse
  repeat' first
    | with_reducible rfl
    | with_reducible refine mask_ite_eq ?_ ?_
    | with_reducible refine mask_ite_snd_eq ?_ ?_
    | (simp (disch := decide) only [setTime_mask, State.condition_mask, State.drawBool_mask, State.odInc_mask, mask_ite, mask_ite_snd, ite_self]; done)
    | dsimp only
    | (with_reducible refine mask_foldl _ (fun s x => ?_) _ _)
    | (with_reducible refine mask_foldl_snd _ (fun s x => ?_) _ _)
    | (with_reducible refine (mask_foldl _ (fun s x => ?_) _ _).trans ?_)
    | (split <;> try (rename_i e; have e2 := congrArg Prod.snd e; dsimp only at e2; subst e2))
    | (simp (disch := decide) only [setTime_mask, State.condition_mask, State.drawBool_mask, State.odInc_mask, mask_ite, mask_ite_snd, ite_self])

theorem State.ppsPulse_mask (s : State) {m0 : Nat} (hw : 1165491052494858 &&& m0 = 1165491052494858) :
    (State.ppsPulse s).mask m0 = s.mask m0 := by
  refine mask_mono hw ?_
  unfold State.ppsPulse
  repeat' first
    | with_reducible rfl
    | with_reducible refine mask_ite_eq ?_ ?_
    | with_reducible refine mask_ite_snd_eq ?_ ?_
    | (simp (disch := decide) only [setTime_mask, State.acceptPulse_mask, State.condition_mask, State.odInc_mask, mask_ite, mask_ite_snd, ite_self]; done)
    | dsimp only
    | (with_reducible refine mask_foldl _ (fun s x => ?_) _ _)
    | (with_reducible refine mask_foldl_snd _ (fun s x => ?_) _ _)
    | (with_reducible refine (mask_foldl _ (fun s x => ?_) _ _).trans ?_)
    | (split <;> try (rename_i e; have e2 := congrArg Prod.snd e; dsimp only at e2; subst e2))
    | (simp (disch := decide) only [setTime_mask, State.acceptPulse_mask, State.condition_mask, State.odInc_mask, mask_ite, mask_ite_snd, ite_self])

theorem State.enterHoldover_mask (s : State) {m0 : Nat} (hw : 1165491052494858 &&& m0 = 1165491052494858) :
    (State.enterHoldover s).mask m0 = s.mask m0 := by
  refine mask_mono hw ?_
  unfold State.enterHoldover
  repeat' first
    | with_reducible rfl
    | with_reducible refine mask_ite_eq ?_ ?_
    | with_reducible refine mask_ite_snd_eq ?_ ?_
    | (simp (disch := decide) only [setTime_mask, State.condition_mask, State.drawBool_mask, mask_ite, mask_ite_snd, ite_self]; done)
    | dsimp only
    | (with_reducible refine mask_foldl _ (fun s x => ?_) _ _)
    | (with_reducible refine mask_foldl_snd _ (fun s x => ?_) _ _)
    | (with_reducible refine (mask_foldl _ (fun s x => ?_) _ _).trans ?_)
    | (split <;> try (rename_i e; have e2 := congrArg Prod.snd e; dsimp only at e2; subst e2))
    | (simp (disch := decide) only [setTime_mask, State.condition_mask, State.drawBool_mask, mask_ite, mask_ite_snd, ite_self])

theorem State.ppsStuck_mask (s : State) {m0 : Nat} (hw : 1165491052494858 &&& m0 = 1165491052494858) :
    (State.ppsStuck s).mask m0 = s.mask m0 := by
  refine mask_mono hw ?_
  unfold State.ppsStuck
  repeat' first
    | with_reducible rfl
    | with_reducible refine mask_ite_eq ?_ ?_
    | with_reducible refine mask_ite_snd_eq ?_ ?_
    | (simp (disch := decide) only [setTime_mask, State.condition_mask, State.enterHoldover_mask, mask_ite, mask_ite_snd, ite_self]; done)
    | dsimp only
    | (with_reducible refine mask_foldl _ (fun s x => ?_) _ _)
    | (with_reducible refine mask_foldl_snd _ (fun s x => ?_) _ _)
    | (with_reducible refine (mask_foldl _ (fun s x => ?_) _ _).trans ?_)
    | (split <;> try (rename_i e; have e2 := congrArg Prod.snd e; dsimp only at e2; subst e2))
    | (simp (disch := decide) only [setTime_mask, State.condition_mask, State.enterHoldover_mask, mask_ite, mask_ite_snd, ite_self])

theorem State.holdoverEntry_mask (s : State) {m0 : Nat} (hw : 1165491052494858 &&& m0 = 1165491052494858) :
    (State.holdoverEntry s).mask m0 = s.mask m0 := by
  refine mask_mono hw ?_
  unfold State.holdoverEntry
  repeat' first
    | with_reducible rfl
    | with_reducible refine mask_ite_eq ?_ ?_
    | with_reducible refine mask_ite_snd_eq ?_ ?_
    | (simp (disch := decide) only [State.enterHoldover_mask, mask_ite, mask_ite_snd, ite_self]; done)
    | dsimp only
    | (with_reducible refine mask_foldl _ (fun s x => ?_) _ _)
    | (with_reducible refine mask_foldl_snd _ (fun s x => ?_) _ _)
    | (with_reducible refine (mask_foldl _ (fun s x => ?_) _ _).trans ?_)
    | (split <;> try (rename_i e; have e2 := congrArg Prod.snd e; dsimp only at e2; subst e2))
    | (simp (disch := decide) only [State.enterHoldover_mask, mask_ite, mask_ite_snd, ite_self])

theorem State.refill_mask (s : State) {m0 : Nat} (hw : 34359738368 &&& m0 = 34359738368) :
    (State.refill s).mask m0 = s.mask m0 := by
  refine mask_mono hw ?_
  unfold State.refill
  repeat' first
    | with_reducible rfl
    | with_reducible refine mask_ite_eq ?_ ?_
    | with_reducible refine mask_ite_snd_eq ?_ ?_
    | (simp (disch := decide) only [setPark_mask, mask_ite, mask_ite_snd, ite_self]; done)
    | dsimp only
    | (with_reducible refine mask_foldl _ (fun s x => ?_) _ _)
    | (with_reducible refine mask_foldl_snd _ (fun s x => ?_) _ _)
    | (with_reducible refine (mask_foldl _ (fun s x => ?_) _ _).trans ?_)
    | (split <;> try (rename_i e; have e2 := congrArg Prod.snd e; dsimp only at e2; subst e2))
    | (simp (disch := decide) only [setPark_mask, mask_ite, mask_ite_snd, ite_self])

theorem State.secondPasses_mask (s : State) {m0 : Nat} (hw : 562984313159680 &&& m0 = 562984313159680) :
    (State.secondPasses s).mask m0 = s.mask m0 := by
  refine mask_mono hw ?_
  unfold State.secondPasses
  repeat' first
    | with_reducible rfl
    | with_reducible refine mask_ite_eq ?_ ?_
    | with_reducible refine mask_ite_snd_eq ?_ ?_
    | (simp (disch := decide) only [setPark_mask, setStore_mask, State.refill_mask, mask_ite, mask_ite_snd, ite_self]; done)
    | dsimp only
    | (with_reducible refine mask_foldl _ (fun s x => ?_) _ _)
    | (with_reducible refine mask_foldl_snd _ (fun s x => ?_) _ _)
    | (with_reducible refine (mask_foldl _ (fun s x => ?_) _ _).trans ?_)
    | (split <;> try (rename_i e; have e2 := congrArg Prod.snd e; dsimp only at e2; subst e2))
    | (simp (disch := decide) only [setPark_mask, setStore_mask, State.refill_mask, mask_ite, mask_ite_snd, ite_self])

theorem State.countTime_mask (s : State) (n : Nat) {m0 : Nat} (hw : 562984313159688 &&& m0 = 562984313159688) :
    (State.countTime s n).mask m0 = s.mask m0 := by
  refine mask_mono hw ?_
  unfold State.countTime
  repeat' first
    | with_reducible rfl
    | with_reducible refine mask_ite_eq ?_ ?_
    | with_reducible refine mask_ite_snd_eq ?_ ?_
    | (simp (disch := decide) only [setTime_mask, State.secondPasses_mask, mask_ite, mask_ite_snd, ite_self]; done)
    | dsimp only
    | (with_reducible refine mask_foldl _ (fun s x => ?_) _ _)
    | (with_reducible refine mask_foldl_snd _ (fun s x => ?_) _ _)
    | (with_reducible refine (mask_foldl _ (fun s x => ?_) _ _).trans ?_)
    | (split <;> try (rename_i e; have e2 := congrArg Prod.snd e; dsimp only at e2; subst e2))
    | (simp (disch := decide) only [setTime_mask, State.secondPasses_mask, mask_ite, mask_ite_snd, ite_self])

theorem State.crystalTick_mask (s : State) {m0 : Nat} (hw : 562984313159690 &&& m0 = 562984313159690) :
    (State.crystalTick s).mask m0 = s.mask m0 := by
  refine mask_mono hw ?_
  unfold State.crystalTick
  repeat' first
    | with_reducible rfl
    | with_reducible refine mask_ite_eq ?_ ?_
    | with_reducible refine mask_ite_snd_eq ?_ ?_
    | (simp (disch := decide) only [setTime_mask, State.countTime_mask, State.drawBool_mask, mask_ite, mask_ite_snd, ite_self]; done)
    | dsimp only
    | (with_reducible refine mask_foldl _ (fun s x => ?_) _ _)
    | (with_reducible refine mask_foldl_snd _ (fun s x => ?_) _ _)
    | (with_reducible refine (mask_foldl _ (fun s x => ?_) _ _).trans ?_)
    | (split <;> try (rename_i e; have e2 := congrArg Prod.snd e; dsimp only at e2; subst e2))
    | (simp (disch := decide) only [setTime_mask, State.countTime_mask, State.drawBool_mask, mask_ite, mask_ite_snd, ite_self])

theorem State.restartsEnd_mask (s : State) {m0 : Nat} (hw : 1128098930098176 &&& m0 = 1128098930098176) :
    (State.restartsEnd s).mask m0 = s.mask m0 := by
  refine mask_mono hw ?_
  unfold State.restartsEnd
  repeat' first
    | with_reducible rfl
    | with_reducible refine mask_ite_eq ?_ ?_
    | with_reducible refine mask_ite_snd_eq ?_ ?_
    | (simp (disch := decide) only [State.odSet_mask, State.putEngine_mask, mask_ite, mask_ite_snd, ite_self]; done)
    | dsimp only
    | (with_reducible refine mask_foldl _ (fun s x => ?_) _ _)
    | (with_reducible refine mask_foldl_snd _ (fun s x => ?_) _ _)
    | (with_reducible refine (mask_foldl _ (fun s x => ?_) _ _).trans ?_)
    | (split <;> try (rename_i e; have e2 := congrArg Prod.snd e; dsimp only at e2; subst e2))
    | (simp (disch := decide) only [State.odSet_mask, State.putEngine_mask, mask_ite, mask_ite_snd, ite_self])

theorem State.tick_mask (s : State) {m0 : Nat} (hw : 1801060430405642 &&& m0 = 1801060430405642) :
    (State.tick s).mask m0 = s.mask m0 := by
  refine mask_mono hw ?_
  unfold State.tick
  repeat' first
    | with_reducible rfl
    | with_reducible refine mask_ite_eq ?_ ?_
    | with_reducible refine mask_ite_snd_eq ?_ ?_
    | (simp (disch := decide) only [setTime_mask, State.account_mask, State.countTime_mask, State.crystalTick_mask, State.restartsEnd_mask, mask_ite, mask_ite_snd, ite_self]; done)
    | dsimp only
    | (with_reducible refine mask_foldl _ (fun s x => ?_) _ _)
    | (with_reducible refine mask_foldl_snd _ (fun s x => ?_) _ _)
    | (with_reducible refine (mask_foldl _ (fun s x => ?_) _ _).trans ?_)
    | (split <;> try (rename_i e; have e2 := congrArg Prod.snd e; dsimp only at e2; subst e2))
    | (simp (disch := decide) only [setTime_mask, State.account_mask, State.countTime_mask, State.crystalTick_mask, State.restartsEnd_mask, mask_ite, mask_ite_snd, ite_self])

end Sys2Proof.Machine
end

