-- ==== Sys2Proof/Laws/Frame/Modes.lean ====
section
/-!
SUPPORT. Frames of Machine/Modes.lean: the fields that each function may change, as a mask.
-/
namespace Sys2Proof.Machine

open Sys2Proof

set_option linter.unusedSimpArgs false

theorem State.enterMode_mask (s : State) (m : Mode) {m0 : Nat} (hw : 1446966029205602 &&& m0 = 1446966029205602) :
    (State.enterMode s m).mask m0 = s.mask m0 := by
  refine mask_mono hw ?_
  unfold State.enterMode
  repeat' first
    | with_reducible rfl
    | with_reducible refine mask_ite_eq ?_ ?_
    | with_reducible refine mask_ite_snd_eq ?_ ?_
    | (simp (disch := decide) only [setIdle_mask, setMode_mask, setPow_mask, State.raiseEast_mask, mask_ite, mask_ite_snd, ite_self]; done)
    | dsimp only
    | (with_reducible refine mask_foldl _ (fun s x => ?_) _ _)
    | (with_reducible refine mask_foldl_snd _ (fun s x => ?_) _ _)
    | (with_reducible refine (mask_foldl _ (fun s x => ?_) _ _).trans ?_)
    | (split <;> try (rename_i e; have e2 := congrArg Prod.snd e; dsimp only at e2; subst e2))
    | (simp (disch := decide) only [setIdle_mask, setMode_mask, setPow_mask, State.raiseEast_mask, mask_ite, mask_ite_snd, ite_self])

theorem State.follow_mask (s : State) {m0 : Nat} (hw : 1446966029205602 &&& m0 = 1446966029205602) :
    (State.follow s).mask m0 = s.mask m0 := by
  refine mask_mono hw ?_
  unfold State.follow
  repeat' first
    | with_reducible rfl
    | with_reducible refine mask_ite_eq ?_ ?_
    | with_reducible refine mask_ite_snd_eq ?_ ?_
    | (simp (disch := decide) only [State.enterMode_mask, mask_ite, mask_ite_snd, ite_self]; done)
    | dsimp only
    | (with_reducible refine mask_foldl _ (fun s x => ?_) _ _)
    | (with_reducible refine mask_foldl_snd _ (fun s x => ?_) _ _)
    | (with_reducible refine (mask_foldl _ (fun s x => ?_) _ _).trans ?_)
    | (split <;> try (rename_i e; have e2 := congrArg Prod.snd e; dsimp only at e2; subst e2))
    | (simp (disch := decide) only [State.enterMode_mask, mask_ite, mask_ite_snd, ite_self])

theorem State.recordReset_mask (s : State) (h : HistRec) {m0 : Nat} (hw : 1798809750097922 &&& m0 = 1798809750097922) :
    (State.recordReset s h).mask m0 = s.mask m0 := by
  refine mask_mono hw ?_
  unfold State.recordReset
  repeat' first
    | with_reducible rfl
    | with_reducible refine mask_ite_eq ?_ ?_
    | with_reducible refine mask_ite_snd_eq ?_ ?_
    | (simp (disch := decide) only [setRst_mask, State.commit_mask, State.odInc_mask, State.putHistory_mask, State.raiseEast_mask, mask_ite, mask_ite_snd, ite_self]; done)
    | dsimp only
    | (with_reducible refine mask_foldl _ (fun s x => ?_) _ _)
    | (with_reducible refine mask_foldl_snd _ (fun s x => ?_) _ _)
    | (with_reducible refine (mask_foldl _ (fun s x => ?_) _ _).trans ?_)
    | (split <;> try (rename_i e; have e2 := congrArg Prod.snd e; dsimp only at e2; subst e2))
    | (simp (disch := decide) only [setRst_mask, State.commit_mask, State.odInc_mask, State.putHistory_mask, State.raiseEast_mask, mask_ite, mask_ite_snd, ite_self])

theorem State.drawEpoch_mask (s : State) {m0 : Nat} (hw : 140737488355328 &&& m0 = 140737488355328) :
    (State.drawEpoch s).2.mask m0 = s.mask m0 := by
  refine mask_mono hw ?_
  unfold State.drawEpoch
  repeat' first
    | with_reducible rfl
    | with_reducible refine mask_ite_eq ?_ ?_
    | with_reducible refine mask_ite_snd_eq ?_ ?_
    | (simp (disch := decide) only [setSec_mask, mask_ite, mask_ite_snd, ite_self]; done)
    | dsimp only
    | (with_reducible refine mask_foldl _ (fun s x => ?_) _ _)
    | (with_reducible refine mask_foldl_snd _ (fun s x => ?_) _ _)
    | (with_reducible refine (mask_foldl _ (fun s x => ?_) _ _).trans ?_)
    | (split <;> try (rename_i e; have e2 := congrArg Prod.snd e; dsimp only at e2; subst e2))
    | (simp (disch := decide) only [setSec_mask, mask_ite, mask_ite_snd, ite_self])

theorem State.drawKey_mask (s : State) {m0 : Nat} (hw : 140737488355328 &&& m0 = 140737488355328) :
    (State.drawKey s).2.mask m0 = s.mask m0 := by
  refine mask_mono hw ?_
  unfold State.drawKey
  repeat' first
    | with_reducible rfl
    | with_reducible refine mask_ite_eq ?_ ?_
    | with_reducible refine mask_ite_snd_eq ?_ ?_
    | (simp (disch := decide) only [setSec_mask, mask_ite, mask_ite_snd, ite_self]; done)
    | dsimp only
    | (with_reducible refine mask_foldl _ (fun s x => ?_) _ _)
    | (with_reducible refine mask_foldl_snd _ (fun s x => ?_) _ _)
    | (with_reducible refine (mask_foldl _ (fun s x => ?_) _ _).trans ?_)
    | (split <;> try (rename_i e; have e2 := congrArg Prod.snd e; dsimp only at e2; subst e2))
    | (simp (disch := decide) only [setSec_mask, mask_ite, mask_ite_snd, ite_self])

end Sys2Proof.Machine
end

