-- ==== Sys2Proof/Laws/Frame/Partitions.lean ====
section
/-!
SUPPORT. Frames of Machine/Partitions.lean: the fields that each function may change, as a mask.
-/
namespace Sys2Proof.Machine

open Sys2Proof

set_option linter.unusedSimpArgs false

theorem State.clearPartUpsets_mask (s : State) (x : Part) {m0 : Nat} (hw : 524288 &&& m0 = 524288) :
    (State.clearPartUpsets s x).mask m0 = s.mask m0 := by
  refine mask_mono hw ?_
  unfold State.clearPartUpsets
  repeat' first
    | with_reducible rfl
    | with_reducible refine mask_ite_eq ?_ ?_
    | with_reducible refine mask_ite_snd_eq ?_ ?_
    | (simp (disch := decide) only [setUpsets_mask, mask_ite, mask_ite_snd, ite_self]; done)
    | dsimp only
    | (with_reducible refine mask_foldl _ (fun s x => ?_) _ _)
    | (with_reducible refine mask_foldl_snd _ (fun s x => ?_) _ _)
    | (with_reducible refine (mask_foldl _ (fun s x => ?_) _ _).trans ?_)
    | (split <;> try (rename_i e; have e2 := congrArg Prod.snd e; dsimp only at e2; subst e2))
    | (simp (disch := decide) only [setUpsets_mask, mask_ite, mask_ite_snd, ite_self])

theorem State.freshDram_mask (s : State) (x : Part) (key : Nat) {m0 : Nat} (hw : 786432 &&& m0 = 786432) :
    (State.freshDram s x key).mask m0 = s.mask m0 := by
  refine mask_mono hw ?_
  unfold State.freshDram
  repeat' first
    | with_reducible rfl
    | with_reducible refine mask_ite_eq ?_ ?_
    | with_reducible refine mask_ite_snd_eq ?_ ?_
    | (simp (disch := decide) only [setDram_mask, State.clearPartUpsets_mask, mask_ite, mask_ite_snd, ite_self]; done)
    | dsimp only
    | (with_reducible refine mask_foldl _ (fun s x => ?_) _ _)
    | (with_reducible refine mask_foldl_snd _ (fun s x => ?_) _ _)
    | (with_reducible refine (mask_foldl _ (fun s x => ?_) _ _).trans ?_)
    | (split <;> try (rename_i e; have e2 := congrArg Prod.snd e; dsimp only at e2; subst e2))
    | (simp (disch := decide) only [setDram_mask, State.clearPartUpsets_mask, mask_ite, mask_ite_snd, ite_self])

theorem State.zeroDram_mask (s : State) (x : Part) {m0 : Nat} (hw : 786432 &&& m0 = 786432) :
    (State.zeroDram s x).mask m0 = s.mask m0 := by
  refine mask_mono hw ?_
  unfold State.zeroDram
  repeat' first
    | with_reducible rfl
    | with_reducible refine mask_ite_eq ?_ ?_
    | with_reducible refine mask_ite_snd_eq ?_ ?_
    | (simp (disch := decide) only [setDram_mask, State.clearPartUpsets_mask, mask_ite, mask_ite_snd, ite_self]; done)
    | dsimp only
    | (with_reducible refine mask_foldl _ (fun s x => ?_) _ _)
    | (with_reducible refine mask_foldl_snd _ (fun s x => ?_) _ _)
    | (with_reducible refine (mask_foldl _ (fun s x => ?_) _ _).trans ?_)
    | (split <;> try (rename_i e; have e2 := congrArg Prod.snd e; dsimp only at e2; subst e2))
    | (simp (disch := decide) only [setDram_mask, State.clearPartUpsets_mask, mask_ite, mask_ite_snd, ite_self])

theorem State.zeroSlices_mask (s : State) (x : Part) {m0 : Nat} (hw : 2147483648 &&& m0 = 2147483648) :
    (State.zeroSlices s x).mask m0 = s.mask m0 := by
  refine mask_mono hw ?_
  unfold State.zeroSlices
  repeat' first
    | with_reducible rfl
    | with_reducible refine mask_ite_eq ?_ ?_
    | with_reducible refine mask_ite_snd_eq ?_ ?_
    | (simp (disch := decide) only [setShared_mask, mask_ite, mask_ite_snd, ite_self]; done)
    | dsimp only
    | (with_reducible refine mask_foldl _ (fun s x => ?_) _ _)
    | (with_reducible refine mask_foldl_snd _ (fun s x => ?_) _ _)
    | (with_reducible refine (mask_foldl _ (fun s x => ?_) _ _).trans ?_)
    | (split <;> try (rename_i e; have e2 := congrArg Prod.snd e; dsimp only at e2; subst e2))
    | (simp (disch := decide) only [setShared_mask, mask_ite, mask_ite_snd, ite_self])

theorem State.createPart_mask (s : State) (b : List Byte) {m0 : Nat} (hw : 1268855746592768 &&& m0 = 1268855746592768) :
    (State.createPart s b).mask m0 = s.mask m0 := by
  refine mask_mono hw ?_
  unfold State.createPart
  repeat' first
    | with_reducible rfl
    | with_reducible refine mask_ite_eq ?_ ?_
    | with_reducible refine mask_ite_snd_eq ?_ ?_
    | (simp (disch := decide) only [setVideo_mask, State.drawEpoch_mask, State.drawKey_mask, State.freshDram_mask, State.odDrop_mask, State.putPart_mask, State.zeroSlices_mask, mask_ite, mask_ite_snd, ite_self]; done)
    | dsimp only
    | (with_reducible refine mask_foldl _ (fun s x => ?_) _ _)
    | (with_reducible refine mask_foldl_snd _ (fun s x => ?_) _ _)
    | (with_reducible refine (mask_foldl _ (fun s x => ?_) _ _).trans ?_)
    | (split <;> try (rename_i e; have e2 := congrArg Prod.snd e; dsimp only at e2; subst e2))
    | (simp (disch := decide) only [setVideo_mask, State.drawEpoch_mask, State.drawKey_mask, State.freshDram_mask, State.odDrop_mask, State.putPart_mask, State.zeroSlices_mask, mask_ite, mask_ite_snd, ite_self])

theorem State.dropSessions_mask (s : State) (p : RSess → Bool) {m0 : Nat} (hw : 8796093022208 &&& m0 = 8796093022208) :
    (State.dropSessions s p).mask m0 = s.mask m0 := by
  refine mask_mono hw ?_
  unfold State.dropSessions
  repeat' first
    | with_reducible rfl
    | with_reducible refine mask_ite_eq ?_ ?_
    | with_reducible refine mask_ite_snd_eq ?_ ?_
    | (simp (disch := decide) only [setRyc_mask, mask_ite, mask_ite_snd, ite_self]; done)
    | dsimp only
    | (with_reducible refine mask_foldl _ (fun s x => ?_) _ _)
    | (with_reducible refine mask_foldl_snd _ (fun s x => ?_) _ _)
    | (with_reducible refine (mask_foldl _ (fun s x => ?_) _ _).trans ?_)
    | (split <;> try (rename_i e; have e2 := congrArg Prod.snd e; dsimp only at e2; subst e2))
    | (simp (disch := decide) only [setRyc_mask, mask_ite, mask_ite_snd, ite_self])

theorem State.cutFlight_mask (s : State) (p : Nat) {m0 : Nat} (hw : 1798844109897734 &&& m0 = 1798844109897734) :
    (State.cutFlight s p).mask m0 = s.mask m0 := by
  refine mask_mono hw ?_
  unfold State.cutFlight
  repeat' first
    | with_reducible rfl
    | with_reducible refine mask_ite_eq ?_ ?_
    | with_reducible refine mask_ite_snd_eq ?_ ?_
    | (simp (disch := decide) only [State.completeAll_mask, State.updQueue_mask, mask_ite, mask_ite_snd, ite_self]; done)
    | dsimp only
    | (with_reducible refine mask_foldl _ (fun s x => ?_) _ _)
    | (with_reducible refine mask_foldl_snd _ (fun s x => ?_) _ _)
    | (with_reducible refine (mask_foldl _ (fun s x => ?_) _ _).trans ?_)
    | (split <;> try (rename_i e; have e2 := congrArg Prod.snd e; dsimp only at e2; subst e2))
    | (simp (disch := decide) only [State.completeAll_mask, State.updQueue_mask, mask_ite, mask_ite_snd, ite_self])

theorem State.cutRequests_mask (s : State) (p : Nat) {m0 : Nat} (hw : 1165491052494850 &&& m0 = 1165491052494850) :
    (State.cutRequests s p).mask m0 = s.mask m0 := by
  refine mask_mono hw ?_
  unfold State.cutRequests
  repeat' first
    | with_reducible rfl
    | with_reducible refine mask_ite_eq ?_ ?_
    | with_reducible refine mask_ite_snd_eq ?_ ?_
    | (simp (disch := decide) only [State.answer_mask, State.answerKept_mask, mask_ite, mask_ite_snd, ite_self]; done)
    | dsimp only
    | (with_reducible refine mask_foldl _ (fun s x => ?_) _ _)
    | (with_reducible refine mask_foldl_snd _ (fun s x => ?_) _ _)
    | (with_reducible refine (mask_foldl _ (fun s x => ?_) _ _).trans ?_)
    | (split <;> try (rename_i e; have e2 := congrArg Prod.snd e; dsimp only at e2; subst e2))
    | (simp (disch := decide) only [State.answer_mask, State.answerKept_mask, mask_ite, mask_ite_snd, ite_self])

theorem State.scrubQueues_mask (s : State) (p : Nat) {m0 : Nat} (hw : 2097397760 &&& m0 = 2097397760) :
    (State.scrubQueues s p).mask m0 = s.mask m0 := by
  refine mask_mono hw ?_
  unfold State.scrubQueues
  repeat' first
    | with_reducible rfl
    | with_reducible refine mask_ite_eq ?_ ?_
    | with_reducible refine mask_ite_snd_eq ?_ ?_
    | (simp (disch := decide) only [setKvDirty_mask, setKvMaps_mask, setKvTlb_mask, setMigr_mask, setPageMaps_mask, setQueueZero_mask, setQueues_mask, setSemWait_mask, setSems_mask, setTlb_mask, mask_ite, mask_ite_snd, ite_self]; done)
    | dsimp only
    | (with_reducible refine mask_foldl _ (fun s x => ?_) _ _)
    | (with_reducible refine mask_foldl_snd _ (fun s x => ?_) _ _)
    | (with_reducible refine (mask_foldl _ (fun s x => ?_) _ _).trans ?_)
    | (split <;> try (rename_i e; have e2 := congrArg Prod.snd e; dsimp only at e2; subst e2))
    | (simp (disch := decide) only [setKvDirty_mask, setKvMaps_mask, setKvTlb_mask, setMigr_mask, setPageMaps_mask, setQueueZero_mask, setQueues_mask, setSemWait_mask, setSems_mask, setTlb_mask, mask_ite, mask_ite_snd, ite_self])

theorem State.scrubServices_mask (s : State) (p : Nat) {m0 : Nat} (hw : 92187178041344 &&& m0 = 92187178041344) :
    (State.scrubServices s p).mask m0 = s.mask m0 := by
  refine mask_mono hw ?_
  unfold State.scrubServices
  repeat' first
    | with_reducible rfl
    | with_reducible refine mask_ite_eq ?_ ?_
    | with_reducible refine mask_ite_snd_eq ?_ ?_
    | (simp (disch := decide) only [setAdapterLast_mask, setAdapters_mask, setGrammars_mask, setNet_mask, setPark_mask, setRel_mask, setSess_mask, setVideo_mask, mask_ite, mask_ite_snd, ite_self]; done)
    | dsimp only
    | (with_reducible refine mask_foldl _ (fun s x => ?_) _ _)
    | (with_reducible refine mask_foldl_snd _ (fun s x => ?_) _ _)
    | (with_reducible refine (mask_foldl _ (fun s x => ?_) _ _).trans ?_)
    | (split <;> try (rename_i e; have e2 := congrArg Prod.snd e; dsimp only at e2; subst e2))
    | (simp (disch := decide) only [setAdapterLast_mask, setAdapters_mask, setGrammars_mask, setNet_mask, setPark_mask, setRel_mask, setSess_mask, setVideo_mask, mask_ite, mask_ite_snd, ite_self])

theorem State.scrubEvents_mask (s : State) (p : Nat) {m0 : Nat} (hw : 35184372088832 &&& m0 = 35184372088832) :
    (State.scrubEvents s p).mask m0 = s.mask m0 := by
  refine mask_mono hw ?_
  unfold State.scrubEvents
  repeat' first
    | with_reducible rfl
    | with_reducible refine mask_ite_eq ?_ ?_
    | with_reducible refine mask_ite_snd_eq ?_ ?_
    | (simp (disch := decide) only [setEv_mask, mask_ite, mask_ite_snd, ite_self]; done)
    | dsimp only
    | (with_reducible refine mask_foldl _ (fun s x => ?_) _ _)
    | (with_reducible refine mask_foldl_snd _ (fun s x => ?_) _ _)
    | (with_reducible refine (mask_foldl _ (fun s x => ?_) _ _).trans ?_)
    | (split <;> try (rename_i e; have e2 := congrArg Prod.snd e; dsimp only at e2; subst e2))
    | (simp (disch := decide) only [setEv_mask, mask_ite, mask_ite_snd, ite_self])

theorem State.scrubFirmware_mask (s : State) (p : Nat) {m0 : Nat} (hw : 4398046511104 &&& m0 = 4398046511104) :
    (State.scrubFirmware s p).mask m0 = s.mask m0 := by
  refine mask_mono hw ?_
  unfold State.scrubFirmware
  repeat' first
    | with_reducible rfl
    | with_reducible refine mask_ite_eq ?_ ?_
    | with_reducible refine mask_ite_snd_eq ?_ ?_
    | (simp (disch := decide) only [setFw_mask, mask_ite, mask_ite_snd, ite_self]; done)
    | dsimp only
    | (with_reducible refine mask_foldl _ (fun s x => ?_) _ _)
    | (with_reducible refine mask_foldl_snd _ (fun s x => ?_) _ _)
    | (with_reducible refine (mask_foldl _ (fun s x => ?_) _ _).trans ?_)
    | (split <;> try (rename_i e; have e2 := congrArg Prod.snd e; dsimp only at e2; subst e2))
    | (simp (disch := decide) only [setFw_mask, mask_ite, mask_ite_snd, ite_self])

theorem State.swapFree_mask (s : State) (xs : List Nat) {m0 : Nat} (hw : 1798861290954758 &&& m0 = 1798861290954758) :
    (State.swapFree s xs).mask m0 = s.mask m0 := by
  refine mask_mono hw ?_
  clear hw
  induction xs generalizing s with
  | nil =>
    unfold State.swapFree
    first | rfl | (split <;> rfl)
  | cons x xs ih =>
    unfold State.swapFree
    repeat' first
      | with_reducible rfl
      | with_reducible refine mask_ite_eq ?_ ?_
      | with_reducible refine mask_ite_snd_eq ?_ ?_
      | (simp (disch := decide) only [State.drawBool_mask, State.swapCore_mask, mask_ite, mask_ite_snd, ite_self, ih]; done)
      | dsimp only
      | (with_reducible refine mask_foldl _ (fun s x => ?_) _ _)
      | (with_reducible refine mask_foldl_snd _ (fun s x => ?_) _ _)
      | (with_reducible refine (mask_foldl _ (fun s x => ?_) _ _).trans ?_)
      | (split <;> try (rename_i e; have e2 := congrArg Prod.snd e; dsimp only at e2; subst e2))
      | (simp (disch := decide) only [State.drawBool_mask, State.swapCore_mask, mask_ite, mask_ite_snd, ite_self, ih])

theorem State.scrubCores_mask (s : State) (p : Nat) {m0 : Nat} (hw : 1798861290954758 &&& m0 = 1798861290954758) :
    (State.scrubCores s p).mask m0 = s.mask m0 := by
  refine mask_mono hw ?_
  unfold State.scrubCores
  repeat' first
    | with_reducible rfl
    | with_reducible refine mask_ite_eq ?_ ?_
    | with_reducible refine mask_ite_snd_eq ?_ ?_
    | (simp (disch := decide) only [setEv_mask, State.clearSpadUpsets_mask, State.condition_mask, State.swapFree_mask, State.updCore_mask, mask_ite, mask_ite_snd, ite_self]; done)
    | dsimp only
    | (with_reducible refine mask_foldl _ (fun s x => ?_) _ _)
    | (with_reducible refine mask_foldl_snd _ (fun s x => ?_) _ _)
    | (with_reducible refine (mask_foldl _ (fun s x => ?_) _ _).trans ?_)
    | (split <;> try (rename_i e; have e2 := congrArg Prod.snd e; dsimp only at e2; subst e2))
    | (simp (disch := decide) only [setEv_mask, State.clearSpadUpsets_mask, State.condition_mask, State.swapFree_mask, State.updCore_mask, mask_ite, mask_ite_snd, ite_self])

theorem State.scrubEntries_mask (s : State) (p : Nat) (cores : BitVec 18) {m0 : Nat} (hw : 1125899906842624 &&& m0 = 1125899906842624) :
    (State.scrubEntries s p cores).mask m0 = s.mask m0 := by
  refine mask_mono hw ?_
  unfold State.scrubEntries
  repeat' first
    | with_reducible rfl
    | with_reducible refine mask_ite_eq ?_ ?_
    | with_reducible refine mask_ite_snd_eq ?_ ?_
    | (simp (disch := decide) only [State.odDrop_mask, mask_ite, mask_ite_snd, ite_self]; done)
    | dsimp only
    | (with_reducible refine mask_foldl _ (fun s x => ?_) _ _)
    | (with_reducible refine mask_foldl_snd _ (fun s x => ?_) _ _)
    | (with_reducible refine (mask_foldl _ (fun s x => ?_) _ _).trans ?_)
    | (split <;> try (rename_i e; have e2 := congrArg Prod.snd e; dsimp only at e2; subst e2))
    | (simp (disch := decide) only [State.odDrop_mask, mask_ite, mask_ite_snd, ite_self])

theorem State.scrubSteps_mask (s : State) (p : Nat) {m0 : Nat} (hw : 2251658042007654 &&& m0 = 2251658042007654) :
    (State.scrubSteps s p).mask m0 = s.mask m0 := by
  refine mask_mono hw ?_
  unfold State.scrubSteps
  repeat' first
    | with_reducible rfl
    | with_reducible refine mask_ite_eq ?_ ?_
    | with_reducible refine mask_ite_snd_eq ?_ ?_
    | (simp (disch := decide) only [setSec_mask, State.abortGroups_mask, State.cutFlight_mask, State.cutRequests_mask, State.degradedDone_mask, State.drawKey_mask, State.dropSessions_mask, State.follow_mask, State.odSet_mask, State.scrubCores_mask, State.scrubEntries_mask, State.scrubEvents_mask, State.scrubFirmware_mask, State.scrubQueues_mask, State.scrubServices_mask, State.updPart_mask, State.zeroDram_mask, State.zeroSlices_mask, mask_ite, mask_ite_snd, ite_self]; done)
    | dsimp only
    | (with_reducible refine mask_foldl _ (fun s x => ?_) _ _)
    | (with_reducible refine mask_foldl_snd _ (fun s x => ?_) _ _)
    | (with_reducible refine (mask_foldl _ (fun s x => ?_) _ _).trans ?_)
    | (split <;> try (rename_i e; have e2 := congrArg Prod.snd e; dsimp only at e2; subst e2))
    | (simp (disch := decide) only [setSec_mask, State.abortGroups_mask, State.cutFlight_mask, State.cutRequests_mask, State.degradedDone_mask, State.drawKey_mask, State.dropSessions_mask, State.follow_mask, State.odSet_mask, State.scrubCores_mask, State.scrubEntries_mask, State.scrubEvents_mask, State.scrubFirmware_mask, State.scrubQueues_mask, State.scrubServices_mask, State.updPart_mask, State.zeroDram_mask, State.zeroSlices_mask, mask_ite, mask_ite_snd, ite_self])

theorem State.startScrub_mask (s : State) (p : Nat) (destroy : Bool) {m0 : Nat} (hw : 2251658042011750 &&& m0 = 2251658042011750) :
    (State.startScrub s p destroy).mask m0 = s.mask m0 := by
  refine mask_mono hw ?_
  unfold State.startScrub
  repeat' first
    | with_reducible rfl
    | with_reducible refine mask_ite_eq ?_ ?_
    | with_reducible refine mask_ite_snd_eq ?_ ?_
    | (simp (disch := decide) only [setRst_mask, State.putPart_mask, State.recordReset_mask, State.scrubSteps_mask, mask_ite, mask_ite_snd, ite_self]; done)
    | dsimp only
    | (with_reducible refine mask_foldl _ (fun s x => ?_) _ _)
    | (with_reducible refine mask_foldl_snd _ (fun s x => ?_) _ _)
    | (with_reducible refine (mask_foldl _ (fun s x => ?_) _ _).trans ?_)
    | (split <;> try (rename_i e; have e2 := congrArg Prod.snd e; dsimp only at e2; subst e2))
    | (simp (disch := decide) only [setRst_mask, State.putPart_mask, State.recordReset_mask, State.scrubSteps_mask, mask_ite, mask_ite_snd, ite_self])

theorem State.oosIfFlagged_mask (s : State) {m0 : Nat} (hw : 1446966029205730 &&& m0 = 1446966029205730) :
    (State.oosIfFlagged s).mask m0 = s.mask m0 := by
  refine mask_mono hw ?_
  unfold State.oosIfFlagged
  repeat' first
    | with_reducible rfl
    | with_reducible refine mask_ite_eq ?_ ?_
    | with_reducible refine mask_ite_snd_eq ?_ ?_
    | (simp (disch := decide) only [setEntry_mask, State.enterMode_mask, mask_ite, mask_ite_snd, ite_self]; done)
    | dsimp only
    | (with_reducible refine mask_foldl _ (fun s x => ?_) _ _)
    | (with_reducible refine mask_foldl_snd _ (fun s x => ?_) _ _)
    | (with_reducible refine (mask_foldl _ (fun s x => ?_) _ _).trans ?_)
    | (split <;> try (rename_i e; have e2 := congrArg Prod.snd e; dsimp only at e2; subst e2))
    | (simp (disch := decide) only [setEntry_mask, State.enterMode_mask, mask_ite, mask_ite_snd, ite_self])

theorem State.answerPart_mask (s : State) (t p status : Nat) {m0 : Nat} (hw : 1165491052494850 &&& m0 = 1165491052494850) :
    (State.answerPart s t p status).mask m0 = s.mask m0 := by
  refine mask_mono hw ?_
  unfold State.answerPart
  repeat' first
    | with_reducible rfl
    | with_reducible refine mask_ite_eq ?_ ?_
    | with_reducible refine mask_ite_snd_eq ?_ ?_
    | (simp (disch := decide) only [State.answerKept_mask, mask_ite, mask_ite_snd, ite_self]; done)
    | dsimp only
    | (with_reducible refine mask_foldl _ (fun s x => ?_) _ _)
    | (with_reducible refine mask_foldl_snd _ (fun s x => ?_) _ _)
    | (with_reducible refine (mask_foldl _ (fun s x => ?_) _ _).trans ?_)
    | (split <;> try (rename_i e; have e2 := congrArg Prod.snd e; dsimp only at e2; subst e2))
    | (simp (disch := decide) only [State.answerKept_mask, mask_ite, mask_ite_snd, ite_self])

theorem State.scrubDone_mask (s : State) (p : Nat) {m0 : Nat} (hw : 2223238418284770 &&& m0 = 2223238418284770) :
    (State.scrubDone s p).mask m0 = s.mask m0 := by
  refine mask_mono hw ?_
  unfold State.scrubDone
  repeat' first
    | with_reducible rfl
    | with_reducible refine mask_ite_eq ?_ ?_
    | with_reducible refine mask_ite_snd_eq ?_ ?_
    | (simp (disch := decide) only [setEv_mask, setOd_mask, setVideo_mask, State.answerPart_mask, State.commit_mask, State.drawEpoch_mask, State.odInc_mask, State.odSet_mask, State.oosIfFlagged_mask, State.putPart_mask, State.raisePart_mask, mask_ite, mask_ite_snd, ite_self]; done)
    | dsimp only
    | (with_reducible refine mask_foldl _ (fun s x => ?_) _ _)
    | (with_reducible refine mask_foldl_snd _ (fun s x => ?_) _ _)
    | (with_reducible refine (mask_foldl _ (fun s x => ?_) _ _).trans ?_)
    | (split <;> try (rename_i e; have e2 := congrArg Prod.snd e; dsimp only at e2; subst e2))
    | (simp (disch := decide) only [setEv_mask, setOd_mask, setVideo_mask, State.answerPart_mask, State.commit_mask, State.drawEpoch_mask, State.odInc_mask, State.odSet_mask, State.oosIfFlagged_mask, State.putPart_mask, State.raisePart_mask, mask_ite, mask_ite_snd, ite_self])

theorem State.scrubMessage_mask (s : State) (m : MbxSrc) (t : Nat) (destroy : Bool) {m0 : Nat} (hw : 2251658042011750 &&& m0 = 2251658042011750) :
    (State.scrubMessage s m t destroy).mask m0 = s.mask m0 := by
  refine mask_mono hw ?_
  unfold State.scrubMessage
  repeat' first
    | with_reducible rfl
    | with_reducible refine mask_ite_eq ?_ ?_
    | with_reducible refine mask_ite_snd_eq ?_ ?_
    | (simp (disch := decide) only [State.answer_mask, State.keepRequest_mask, State.receive_mask, State.startScrub_mask, mask_ite, mask_ite_snd, ite_self]; done)
    | dsimp only
    | (with_reducible refine mask_foldl _ (fun s x => ?_) _ _)
    | (with_reducible refine mask_foldl_snd _ (fun s x => ?_) _ _)
    | (with_reducible refine (mask_foldl _ (fun s x => ?_) _ _).trans ?_)
    | (split <;> try (rename_i e; have e2 := congrArg Prod.snd e; dsimp only at e2; subst e2))
    | (simp (disch := decide) only [State.answer_mask, State.keepRequest_mask, State.receive_mask, State.startScrub_mask, mask_ite, mask_ite_snd, ite_self])

end Sys2Proof.Machine
end

