-- ==== Sys2Proof/Laws/Frame/Security.lean ====
section
/-!
SUPPORT. Frames of Machine/Security.lean: the fields that each function may change, as a mask.
-/
namespace Sys2Proof.Machine

open Sys2Proof

set_option linter.unusedSimpArgs false

theorem State.reserveLeaves_mask (s : State) (ok : Bool) {m0 : Nat} (hw : 1899956092796928 &&& m0 = 1899956092796928) :
    (State.reserveLeaves s ok).mask m0 = s.mask m0 := by
  refine mask_mono hw ?_
  unfold State.reserveLeaves
  repeat' first
    | with_reducible rfl
    | with_reducible refine mask_ite_eq ?_ ?_
    | with_reducible refine mask_ite_snd_eq ?_ ?_
    | (simp (disch := decide) only [setSec_mask, State.odSet_mask, State.psCommit_mask, mask_ite, mask_ite_snd, ite_self]; done)
    | dsimp only
    | (with_reducible refine mask_foldl _ (fun s x => ?_) _ _)
    | (with_reducible refine mask_foldl_snd _ (fun s x => ?_) _ _)
    | (with_reducible refine (mask_foldl _ (fun s x => ?_) _ _).trans ?_)
    | (split <;> try (rename_i e; have e2 := congrArg Prod.snd e; dsimp only at e2; subst e2))
    | (simp (disch := decide) only [setSec_mask, State.odSet_mask, State.psCommit_mask, mask_ite, mask_ite_snd, ite_self])

theorem State.growTree_mask (s : State) (n : Nat) {m0 : Nat} (hw : 140737488355328 &&& m0 = 140737488355328) :
    (State.growTree s n).mask m0 = s.mask m0 := by
  refine mask_mono hw ?_
  unfold State.growTree
  repeat' first
    | with_reducible rfl
    | with_reducible refine mask_ite_eq ?_ ?_
    | with_reducible refine mask_ite_snd_eq ?_ ?_
    | (simp (disch := decide) only [setSec_mask, mask_ite, mask_ite_snd, ite_self]; done)
    | dsimp only
    | (with_reducible refine mask_foldl _ (fun s x => ?_) _ _)
    | (with_reducible refine mask_foldl_snd _ (fun s x => ?_) _ _)
    | (with_reducible refine (mask_foldl _ (fun s x => ?_) _ _).trans ?_)
    | (split <;> try (rename_i e; have e2 := congrArg Prod.snd e; dsimp only at e2; subst e2))
    | (simp (disch := decide) only [setSec_mask, mask_ite, mask_ite_snd, ite_self])

theorem State.takeLeaf_mask (s : State) (ok : Bool) {m0 : Nat} (hw : 1899956092796928 &&& m0 = 1899956092796928) :
    (State.takeLeaf s ok).2.mask m0 = s.mask m0 := by
  refine mask_mono hw ?_
  unfold State.takeLeaf
  repeat' first
    | with_reducible rfl
    | with_reducible refine mask_ite_eq ?_ ?_
    | with_reducible refine mask_ite_snd_eq ?_ ?_
    | (simp (disch := decide) only [State.growTree_mask, State.odSet_mask, State.reserveLeaves_mask, mask_ite, mask_ite_snd, ite_self]; done)
    | dsimp only
    | (with_reducible refine mask_foldl _ (fun s x => ?_) _ _)
    | (with_reducible refine mask_foldl_snd _ (fun s x => ?_) _ _)
    | (with_reducible refine (mask_foldl _ (fun s x => ?_) _ _).trans ?_)
    | (split <;> try (rename_i e; have e2 := congrArg Prod.snd e; dsimp only at e2; subst e2))
    | (simp (disch := decide) only [State.growTree_mask, State.odSet_mask, State.reserveLeaves_mask, mask_ite, mask_ite_snd, ite_self])

theorem State.secCheck_mask (s : State) (die p d : Nat) {m0 : Nat} (hw : 1165491052494850 &&& m0 = 1165491052494850) :
    (State.secCheck s die p d).2.mask m0 = s.mask m0 := by
  refine mask_mono hw ?_
  unfold State.secCheck
  repeat' first
    | with_reducible rfl
    | with_reducible refine mask_ite_eq ?_ ?_
    | with_reducible refine mask_ite_snd_eq ?_ ?_
    | (simp (disch := decide) only [State.pcheck_mask, mask_ite, mask_ite_snd, ite_self]; done)
    | dsimp only
    | (with_reducible refine mask_foldl _ (fun s x => ?_) _ _)
    | (with_reducible refine mask_foldl_snd _ (fun s x => ?_) _ _)
    | (with_reducible refine (mask_foldl _ (fun s x => ?_) _ _).trans ?_)
    | (split <;> try (rename_i e; have e2 := congrArg Prod.snd e; dsimp only at e2; subst e2))
    | (simp (disch := decide) only [State.pcheck_mask, mask_ite, mask_ite_snd, ite_self])

theorem State.secResult_mask (s : State) (die p d : Nat) (bs : List Byte) {m0 : Nat} (hw : 1306245720719362 &&& m0 = 1306245720719362) :
    (State.secResult s die p d bs).2.mask m0 = s.mask m0 := by
  refine mask_mono hw ?_
  unfold State.secResult
  repeat' first
    | with_reducible rfl
    | with_reducible refine mask_ite_eq ?_ ?_
    | with_reducible refine mask_ite_snd_eq ?_ ?_
    | (simp (disch := decide) only [State.drawKey_mask, State.pwrite_mask, State.rawPoison_mask, State.updPart_mask, mask_ite, mask_ite_snd, ite_self]; done)
    | dsimp only
    | (with_reducible refine mask_foldl _ (fun s x => ?_) _ _)
    | (with_reducible refine mask_foldl_snd _ (fun s x => ?_) _ _)
    | (with_reducible refine (mask_foldl _ (fun s x => ?_) _ _).trans ?_)
    | (split <;> try (rename_i e; have e2 := congrArg Prod.snd e; dsimp only at e2; subst e2))
    | (simp (disch := decide) only [State.drawKey_mask, State.pwrite_mask, State.rawPoison_mask, State.updPart_mask, mask_ite, mask_ite_snd, ite_self])

theorem State.secRun_mask (s : State) (q d : Nat) {m0 : Nat} (hw : 1939598778056706 &&& m0 = 1939598778056706) :
    (State.secRun s q d).mask m0 = s.mask m0 := by
  refine mask_mono hw ?_
  unfold State.secRun
  repeat' first
    | with_reducible rfl
    | with_reducible refine mask_ite_eq ?_ ?_
    | with_reducible refine mask_ite_snd_eq ?_ ?_
    | (simp (disch := decide) only [State.done_mask, State.mread_mask, State.secCheck_mask, State.secResult_mask, mask_ite, mask_ite_snd, ite_self]; done)
    | dsimp only
    | (with_reducible refine mask_foldl _ (fun s x => ?_) _ _)
    | (with_reducible refine mask_foldl_snd _ (fun s x => ?_) _ _)
    | (with_reducible refine (mask_foldl _ (fun s x => ?_) _ _).trans ?_)
    | (split <;> try (rename_i e; have e2 := congrArg Prod.snd e; dsimp only at e2; subst e2))
    | (simp (disch := decide) only [State.done_mask, State.mread_mask, State.secCheck_mask, State.secResult_mask, mask_ite, mask_ite_snd, ite_self])

theorem State.secCommand_mask (s : State) (q op : Nat) {m0 : Nat} (hw : 1939598778056706 &&& m0 = 1939598778056706) :
    (State.secCommand s q op).mask m0 = s.mask m0 := by
  refine mask_mono hw ?_
  unfold State.secCommand
  repeat' first
    | with_reducible rfl
    | with_reducible refine mask_ite_eq ?_ ?_
    | with_reducible refine mask_ite_snd_eq ?_ ?_
    | (simp (disch := decide) only [State.secRun_mask, mask_ite, mask_ite_snd, ite_self]; done)
    | dsimp only
    | (with_reducible refine mask_foldl _ (fun s x => ?_) _ _)
    | (with_reducible refine mask_foldl_snd _ (fun s x => ?_) _ _)
    | (with_reducible refine (mask_foldl _ (fun s x => ?_) _ _).trans ?_)
    | (split <;> try (rename_i e; have e2 := congrArg Prod.snd e; dsimp only at e2; subst e2))
    | (simp (disch := decide) only [State.secRun_mask, mask_ite, mask_ite_snd, ite_self])

theorem State.attest_mask (s : State) (x : MbxIn) (ok : Bool) {m0 : Nat} (hw : 1939564418318338 &&& m0 = 1939564418318338) :
    (State.attest s x ok).mask m0 = s.mask m0 := by
  refine mask_mono hw ?_
  unfold State.attest
  repeat' first
    | with_reducible rfl
    | with_reducible refine mask_ite_eq ?_ ?_
    | with_reducible refine mask_ite_snd_eq ?_ ?_
    | (simp (disch := decide) only [State.answer_mask, State.odInc_mask, State.takeLeaf_mask, State.updPart_mask, mask_ite, mask_ite_snd, ite_self]; done)
    | dsimp only
    | (with_reducible refine mask_foldl _ (fun s x => ?_) _ _)
    | (with_reducible refine mask_foldl_snd _ (fun s x => ?_) _ _)
    | (with_reducible refine (mask_foldl _ (fun s x => ?_) _ _).trans ?_)
    | (split <;> try (rename_i e; have e2 := congrArg Prod.snd e; dsimp only at e2; subst e2))
    | (simp (disch := decide) only [State.answer_mask, State.odInc_mask, State.takeLeaf_mask, State.updPart_mask, mask_ite, mask_ite_snd, ite_self])

theorem State.refuseKey_mask (s : State) (x : MbxIn) (c : Nat) {m0 : Nat} (hw : 1165491052494850 &&& m0 = 1165491052494850) :
    (State.refuseKey s x c).mask m0 = s.mask m0 := by
  refine mask_mono hw ?_
  unfold State.refuseKey
  repeat' first
    | with_reducible rfl
    | with_reducible refine mask_ite_eq ?_ ?_
    | with_reducible refine mask_ite_snd_eq ?_ ?_
    | (simp (disch := decide) only [State.answer_mask, State.odInc_mask, mask_ite, mask_ite_snd, ite_self]; done)
    | dsimp only
    | (with_reducible refine mask_foldl _ (fun s x => ?_) _ _)
    | (with_reducible refine mask_foldl_snd _ (fun s x => ?_) _ _)
    | (with_reducible refine (mask_foldl _ (fun s x => ?_) _ _).trans ?_)
    | (split <;> try (rename_i e; have e2 := congrArg Prod.snd e; dsimp only at e2; subst e2))
    | (simp (disch := decide) only [State.answer_mask, State.odInc_mask, mask_ite, mask_ite_snd, ite_self])

theorem State.releaseKey_mask (s : State) (x : MbxIn) {m0 : Nat} (hw : 1165508232364034 &&& m0 = 1165508232364034) :
    (State.releaseKey s x).mask m0 = s.mask m0 := by
  refine mask_mono hw ?_
  unfold State.releaseKey
  repeat' first
    | with_reducible rfl
    | with_reducible refine mask_ite_eq ?_ ?_
    | with_reducible refine mask_ite_snd_eq ?_ ?_
    | (simp (disch := decide) only [State.answer_mask, State.odInc_mask, State.putPart_mask, State.refuseKey_mask, State.updPart_mask, mask_ite, mask_ite_snd, ite_self]; done)
    | dsimp only
    | (with_reducible refine mask_foldl _ (fun s x => ?_) _ _)
    | (with_reducible refine mask_foldl_snd _ (fun s x => ?_) _ _)
    | (with_reducible refine (mask_foldl _ (fun s x => ?_) _ _).trans ?_)
    | (split <;> try (rename_i e; have e2 := congrArg Prod.snd e; dsimp only at e2; subst e2))
    | (simp (disch := decide) only [State.answer_mask, State.odInc_mask, State.putPart_mask, State.refuseKey_mask, State.updPart_mask, mask_ite, mask_ite_snd, ite_self])

theorem State.latchModule_mask (s : State) {m0 : Nat} (hw : 1125899906842624 &&& m0 = 1125899906842624) :
    (State.latchModule s).mask m0 = s.mask m0 := by
  refine mask_mono hw ?_
  unfold State.latchModule
  repeat' first
    | with_reducible rfl
    | with_reducible refine mask_ite_eq ?_ ?_
    | with_reducible refine mask_ite_snd_eq ?_ ?_
    | (simp (disch := decide) only [State.odSet_mask, mask_ite, mask_ite_snd, ite_self]; done)
    | dsimp only
    | (with_reducible refine mask_foldl _ (fun s x => ?_) _ _)
    | (with_reducible refine mask_foldl_snd _ (fun s x => ?_) _ _)
    | (with_reducible refine (mask_foldl _ (fun s x => ?_) _ _).trans ?_)
    | (split <;> try (rename_i e; have e2 := congrArg Prod.snd e; dsimp only at e2; subst e2))
    | (simp (disch := decide) only [State.odSet_mask, mask_ite, mask_ite_snd, ite_self])

theorem State.openDebug_mask (s : State) {m0 : Nat} (hw : 1266654575067136 &&& m0 = 1266654575067136) :
    (State.openDebug s).mask m0 = s.mask m0 := by
  refine mask_mono hw ?_
  unfold State.openDebug
  repeat' first
    | with_reducible rfl
    | with_reducible refine mask_ite_eq ?_ ?_
    | with_reducible refine mask_ite_snd_eq ?_ ?_
    | (simp (disch := decide) only [setSec_mask, State.drawEpoch_mask, State.latchModule_mask, State.odSet_mask, State.updPart_mask, mask_ite, mask_ite_snd, ite_self]; done)
    | dsimp only
    | (with_reducible refine mask_foldl _ (fun s x => ?_) _ _)
    | (with_reducible refine mask_foldl_snd _ (fun s x => ?_) _ _)
    | (with_reducible refine (mask_foldl _ (fun s x => ?_) _ _).trans ?_)
    | (split <;> try (rename_i e; have e2 := congrArg Prod.snd e; dsimp only at e2; subst e2))
    | (simp (disch := decide) only [setSec_mask, State.drawEpoch_mask, State.latchModule_mask, State.odSet_mask, State.updPart_mask, mask_ite, mask_ite_snd, ite_self])

theorem State.closeDebug_mask (s : State) {m0 : Nat} (hw : 1266637395197952 &&& m0 = 1266637395197952) :
    (State.closeDebug s).mask m0 = s.mask m0 := by
  refine mask_mono hw ?_
  unfold State.closeDebug
  repeat' first
    | with_reducible rfl
    | with_reducible refine mask_ite_eq ?_ ?_
    | with_reducible refine mask_ite_snd_eq ?_ ?_
    | (simp (disch := decide) only [setSec_mask, State.odSet_mask, mask_ite, mask_ite_snd, ite_self]; done)
    | dsimp only
    | (with_reducible refine mask_foldl _ (fun s x => ?_) _ _)
    | (with_reducible refine mask_foldl_snd _ (fun s x => ?_) _ _)
    | (with_reducible refine (mask_foldl _ (fun s x => ?_) _ _).trans ?_)
    | (split <;> try (rename_i e; have e2 := congrArg Prod.snd e; dsimp only at e2; subst e2))
    | (simp (disch := decide) only [setSec_mask, State.odSet_mask, mask_ite, mask_ite_snd, ite_self])

theorem State.debugBytes_mask (s : State) {m0 : Nat} (hw : 1798844109832194 &&& m0 = 1798844109832194) :
    (State.debugBytes s).2.mask m0 = s.mask m0 := by
  refine mask_mono hw ?_
  unfold State.debugBytes
  repeat' first
    | with_reducible rfl
    | with_reducible refine mask_ite_eq ?_ ?_
    | with_reducible refine mask_ite_snd_eq ?_ ?_
    | (simp (disch := decide) only [State.mread_mask, mask_ite, mask_ite_snd, ite_self]; done)
    | dsimp only
    | (with_reducible refine mask_foldl _ (fun s x => ?_) _ _)
    | (with_reducible refine mask_foldl_snd _ (fun s x => ?_) _ _)
    | (with_reducible refine (mask_foldl _ (fun s x => ?_) _ _).trans ?_)
    | (split <;> try (rename_i e; have e2 := congrArg Prod.snd e; dsimp only at e2; subst e2))
    | (simp (disch := decide) only [State.mread_mask, mask_ite, mask_ite_snd, ite_self])

theorem State.readDebug_mask (s : State) {m0 : Nat} (hw : 1939581598187522 &&& m0 = 1939581598187522) :
    (State.readDebug s).2.mask m0 = s.mask m0 := by
  refine mask_mono hw ?_
  unfold State.readDebug
  repeat' first
    | with_reducible rfl
    | with_reducible refine mask_ite_eq ?_ ?_
    | with_reducible refine mask_ite_snd_eq ?_ ?_
    | (simp (disch := decide) only [setSec_mask, State.debugBytes_mask, mask_ite, mask_ite_snd, ite_self]; done)
    | dsimp only
    | (with_reducible refine mask_foldl _ (fun s x => ?_) _ _)
    | (with_reducible refine mask_foldl_snd _ (fun s x => ?_) _ _)
    | (with_reducible refine (mask_foldl _ (fun s x => ?_) _ _).trans ?_)
    | (split <;> try (rename_i e; have e2 := congrArg Prod.snd e; dsimp only at e2; subst e2))
    | (simp (disch := decide) only [setSec_mask, State.debugBytes_mask, mask_ite, mask_ite_snd, ite_self])

theorem State.writeDebug_mask (s : State) (bs : List Byte) {m0 : Nat} (hw : 1165491052494850 &&& m0 = 1165491052494850) :
    (State.writeDebug s bs).2.mask m0 = s.mask m0 := by
  refine mask_mono hw ?_
  unfold State.writeDebug
  repeat' first
    | with_reducible rfl
    | with_reducible refine mask_ite_eq ?_ ?_
    | with_reducible refine mask_ite_snd_eq ?_ ?_
    | (simp (disch := decide) only [State.pwrite_mask, State.regionWrite_mask, mask_ite, mask_ite_snd, ite_self]; done)
    | dsimp only
    | (with_reducible refine mask_foldl _ (fun s x => ?_) _ _)
    | (with_reducible refine mask_foldl_snd _ (fun s x => ?_) _ _)
    | (with_reducible refine (mask_foldl _ (fun s x => ?_) _ _).trans ?_)
    | (split <;> try (rename_i e; have e2 := congrArg Prod.snd e; dsimp only at e2; subst e2))
    | (simp (disch := decide) only [State.pwrite_mask, State.regionWrite_mask, mask_ite, mask_ite_snd, ite_self])

end Sys2Proof.Machine
end

