-- ==== Sys2Proof/Laws/Frame/Resets.lean ====
section
/-!
SUPPORT. Frames of Machine/Resets.lean: the fields that each function may change, as a mask.
-/
namespace Sys2Proof.Machine

open Sys2Proof

set_option linter.unusedSimpArgs false

theorem State.loseDies_mask (s : State) (k : Loss) {m0 : Nat} (hw : 1904349844332544 &&& m0 = 1904349844332544) :
    (State.loseDies s k).mask m0 = s.mask m0 := by
  refine mask_mono hw ?_
  unfold State.loseDies
  repeat' first
    | with_reducible rfl
    | with_reducible refine mask_ite_eq ?_ ?_
    | with_reducible refine mask_ite_snd_eq ?_ ?_
    | (simp (disch := decide) only [setAdapterLast_mask, setAdapters_mask, setCores_mask, setDram_mask, setEcc_mask, setEmitted_mask, setGrammars_mask, setKvDirty_mask, setKvMaps_mask, setKvTlb_mask, setModKey_mask, setModMem_mask, setPageMaps_mask, setPark_mask, setParts_mask, setQueueZero_mask, setQueues_mask, setSemWait_mask, setSems_mask, setSess_mask, setShared_mask, setSpadUpsets_mask, setTlb_mask, setUpsets_mask, setVideo_mask, State.drawKey_mask, State.endRetirements_mask, mask_ite, mask_ite_snd, ite_self]; done)
    | dsimp only
    | (with_reducible refine mask_foldl _ (fun s x => ?_) _ _)
    | (with_reducible refine mask_foldl_snd _ (fun s x => ?_) _ _)
    | (with_reducible refine (mask_foldl _ (fun s x => ?_) _ _).trans ?_)
    | (split <;> try (rename_i e; have e2 := congrArg Prod.snd e; dsimp only at e2; subst e2))
    | (simp (disch := decide) only [setAdapterLast_mask, setAdapters_mask, setCores_mask, setDram_mask, setEcc_mask, setEmitted_mask, setGrammars_mask, setKvDirty_mask, setKvMaps_mask, setKvTlb_mask, setModKey_mask, setModMem_mask, setPageMaps_mask, setPark_mask, setParts_mask, setQueueZero_mask, setQueues_mask, setSemWait_mask, setSems_mask, setSess_mask, setShared_mask, setSpadUpsets_mask, setTlb_mask, setUpsets_mask, setVideo_mask, State.drawKey_mask, State.endRetirements_mask, mask_ite, mask_ite_snd, ite_self])

theorem State.loseFirmware_mask (s : State) (k : Loss) {m0 : Nat} (hw : 1191870604509184 &&& m0 = 1191870604509184) :
    (State.loseFirmware s k).mask m0 = s.mask m0 := by
  refine mask_mono hw ?_
  unfold State.loseFirmware
  repeat' first
    | with_reducible rfl
    | with_reducible refine mask_ite_eq ?_ ?_
    | with_reducible refine mask_ite_snd_eq ?_ ?_
    | (simp (disch := decide) only [setEv_mask, setFw_mask, setNet_mask, setRyc_mask, State.odSet_mask, mask_ite, mask_ite_snd, ite_self]; done)
    | dsimp only
    | (with_reducible refine mask_foldl _ (fun s x => ?_) _ _)
    | (with_reducible refine mask_foldl_snd _ (fun s x => ?_) _ _)
    | (with_reducible refine (mask_foldl _ (fun s x => ?_) _ _).trans ?_)
    | (split <;> try (rename_i e; have e2 := congrArg Prod.snd e; dsimp only at e2; subst e2))
    | (simp (disch := decide) only [setEv_mask, setFw_mask, setNet_mask, setRyc_mask, State.odSet_mask, mask_ite, mask_ite_snd, ite_self])

theorem State.loseTime_mask (s : State) (k : Loss) {m0 : Nat} (hw : 8 &&& m0 = 8) :
    (State.loseTime s k).mask m0 = s.mask m0 := by
  refine mask_mono hw ?_
  unfold State.loseTime
  repeat' first
    | with_reducible rfl
    | with_reducible refine mask_ite_eq ?_ ?_
    | with_reducible refine mask_ite_snd_eq ?_ ?_
    | (simp (disch := decide) only [setTime_mask, mask_ite, mask_ite_snd, ite_self]; done)
    | dsimp only
    | (with_reducible refine mask_foldl _ (fun s x => ?_) _ _)
    | (with_reducible refine mask_foldl_snd _ (fun s x => ?_) _ _)
    | (with_reducible refine (mask_foldl _ (fun s x => ?_) _ _).trans ?_)
    | (split <;> try (rename_i e; have e2 := congrArg Prod.snd e; dsimp only at e2; subst e2))
    | (simp (disch := decide) only [setTime_mask, mask_ite, mask_ite_snd, ite_self])

theorem State.loseRest_mask (s : State) (k : Loss) {m0 : Nat} (hw : 1055565522407432 &&& m0 = 1055565522407432) :
    (State.loseRest s k).mask m0 = s.mask m0 := by
  refine mask_mono hw ?_
  unfold State.loseRest
  repeat' first
    | with_reducible rfl
    | with_reducible refine mask_ite_eq ?_ ?_
    | with_reducible refine mask_ite_snd_eq ?_ ?_
    | (simp (disch := decide) only [setPark_mask, setPow_mask, setRel_mask, setRst_mask, setSec_mask, setStore_mask, State.loseTime_mask, mask_ite, mask_ite_snd, ite_self]; done)
    | dsimp only
    | (with_reducible refine mask_foldl _ (fun s x => ?_) _ _)
    | (with_reducible refine mask_foldl_snd _ (fun s x => ?_) _ _)
    | (with_reducible refine (mask_foldl _ (fun s x => ?_) _ _).trans ?_)
    | (split <;> try (rename_i e; have e2 := congrArg Prod.snd e; dsimp only at e2; subst e2))
    | (simp (disch := decide) only [setPark_mask, setPow_mask, setRel_mask, setRst_mask, setSec_mask, setStore_mask, State.loseTime_mask, mask_ite, mask_ite_snd, ite_self])

theorem State.lose_mask (s : State) (k : Loss) {m0 : Nat} (hw : 4503595332399818 &&& m0 = 4503595332399818) :
    (State.lose s k).mask m0 = s.mask m0 := by
  refine mask_mono hw ?_
  unfold State.lose
  repeat' first
    | with_reducible rfl
    | with_reducible refine mask_ite_eq ?_ ?_
    | with_reducible refine mask_ite_snd_eq ?_ ?_
    | (simp (disch := decide) only [setD2dFails_mask, setEntry_mask, setIdle_mask, setWakeHeld_mask, State.condition_mask, State.loseDies_mask, State.loseFirmware_mask, State.loseRest_mask, State.odDrop_mask, mask_ite, mask_ite_snd, ite_self]; done)
    | dsimp only
    | (with_reducible refine mask_foldl _ (fun s x => ?_) _ _)
    | (with_reducible refine mask_foldl_snd _ (fun s x => ?_) _ _)
    | (with_reducible refine (mask_foldl _ (fun s x => ?_) _ _).trans ?_)
    | (split <;> try (rename_i e; have e2 := congrArg Prod.snd e; dsimp only at e2; subst e2))
    | (simp (disch := decide) only [setD2dFails_mask, setEntry_mask, setIdle_mask, setWakeHeld_mask, State.condition_mask, State.loseDies_mask, State.loseFirmware_mask, State.loseRest_mask, State.odDrop_mask, mask_ite, mask_ite_snd, ite_self])

theorem State.takeSample_mask (s : State) (cause : Nat) {m0 : Nat} (hw : 1798861408202754 &&& m0 = 1798861408202754) :
    (State.takeSample s cause).mask m0 = s.mask m0 := by
  refine mask_mono hw ?_
  unfold State.takeSample
  repeat' first
    | with_reducible rfl
    | with_reducible refine mask_ite_eq ?_ ?_
    | with_reducible refine mask_ite_snd_eq ?_ ?_
    | (simp (disch := decide) only [setRel_mask, setRst_mask, State.account_mask, State.odSet_mask, State.parkDraw_mask, State.settleSpad_mask, mask_ite, mask_ite_snd, ite_self]; done)
    | dsimp only
    | (with_reducible refine mask_foldl _ (fun s x => ?_) _ _)
    | (with_reducible refine mask_foldl_snd _ (fun s x => ?_) _ _)
    | (with_reducible refine (mask_foldl _ (fun s x => ?_) _ _).trans ?_)
    | (split <;> try (rename_i e; have e2 := congrArg Prod.snd e; dsimp only at e2; subst e2))
    | (simp (disch := decide) only [setRel_mask, setRst_mask, State.account_mask, State.odSet_mask, State.parkDraw_mask, State.settleSpad_mask, mask_ite, mask_ite_snd, ite_self])

theorem State.prepare_mask (s : State) (cause : Nat) {m0 : Nat} (hw : 1798861408202758 &&& m0 = 1798861408202758) :
    (State.prepare s cause).mask m0 = s.mask m0 := by
  refine mask_mono hw ?_
  unfold State.prepare
  repeat' first
    | with_reducible rfl
    | with_reducible refine mask_ite_eq ?_ ?_
    | with_reducible refine mask_ite_snd_eq ?_ ?_
    | (simp (disch := decide) only [State.abortGroups_mask, State.takeSample_mask, mask_ite, mask_ite_snd, ite_self]; done)
    | dsimp only
    | (with_reducible refine mask_foldl _ (fun s x => ?_) _ _)
    | (with_reducible refine mask_foldl_snd _ (fun s x => ?_) _ _)
    | (with_reducible refine (mask_foldl _ (fun s x => ?_) _ _).trans ?_)
    | (split <;> try (rename_i e; have e2 := congrArg Prod.snd e; dsimp only at e2; subst e2))
    | (simp (disch := decide) only [State.abortGroups_mask, State.takeSample_mask, mask_ite, mask_ite_snd, ite_self])

theorem State.imageResult_mask (s : State) (c : Nat) {m0 : Nat} (hw : 1759218604441600 &&& m0 = 1759218604441600) :
    (State.imageResult s c).mask m0 = s.mask m0 := by
  refine mask_mono hw ?_
  unfold State.imageResult
  repeat' first
    | with_reducible rfl
    | with_reducible refine mask_ite_eq ?_ ?_
    | with_reducible refine mask_ite_snd_eq ?_ ?_
    | (simp (disch := decide) only [State.commit_mask, State.odSet_mask, mask_ite, mask_ite_snd, ite_self]; done)
    | dsimp only
    | (with_reducible refine mask_foldl _ (fun s x => ?_) _ _)
    | (with_reducible refine mask_foldl_snd _ (fun s x => ?_) _ _)
    | (with_reducible refine (mask_foldl _ (fun s x => ?_) _ _).trans ?_)
    | (split <;> try (rename_i e; have e2 := congrArg Prod.snd e; dsimp only at e2; subst e2))
    | (simp (disch := decide) only [State.commit_mask, State.odSet_mask, mask_ite, mask_ite_snd, ite_self])

theorem State.toRecovery_mask (s : State) (reason : Nat) {m0 : Nat} (hw : 1446966029209698 &&& m0 = 1446966029209698) :
    (State.toRecovery s reason).mask m0 = s.mask m0 := by
  refine mask_mono hw ?_
  unfold State.toRecovery
  repeat' first
    | with_reducible rfl
    | with_reducible refine mask_ite_eq ?_ ?_
    | with_reducible refine mask_ite_snd_eq ?_ ?_
    | (simp (disch := decide) only [setRst_mask, State.enterMode_mask, State.odSet_mask, mask_ite, mask_ite_snd, ite_self]; done)
    | dsimp only
    | (with_reducible refine mask_foldl _ (fun s x => ?_) _ _)
    | (with_reducible refine mask_foldl_snd _ (fun s x => ?_) _ _)
    | (with_reducible refine (mask_foldl _ (fun s x => ?_) _ _).trans ?_)
    | (split <;> try (rename_i e; have e2 := congrArg Prod.snd e; dsimp only at e2; subst e2))
    | (simp (disch := decide) only [setRst_mask, State.enterMode_mask, State.odSet_mask, mask_ite, mask_ite_snd, ite_self])

theorem State.failTrial_mask (s : State) {m0 : Nat} (hw : 1759218604441600 &&& m0 = 1759218604441600) :
    (State.failTrial s).mask m0 = s.mask m0 := by
  refine mask_mono hw ?_
  unfold State.failTrial
  repeat' first
    | with_reducible rfl
    | with_reducible refine mask_ite_eq ?_ ?_
    | with_reducible refine mask_ite_snd_eq ?_ ?_
    | (simp (disch := decide) only [setStore_mask, State.imageResult_mask, mask_ite, mask_ite_snd, ite_self]; done)
    | dsimp only
    | (with_reducible refine mask_foldl _ (fun s x => ?_) _ _)
    | (with_reducible refine mask_foldl_snd _ (fun s x => ?_) _ _)
    | (with_reducible refine (mask_foldl _ (fun s x => ?_) _ _).trans ?_)
    | (split <;> try (rename_i e; have e2 := congrArg Prod.snd e; dsimp only at e2; subst e2))
    | (simp (disch := decide) only [setStore_mask, State.imageResult_mask, mask_ite, mask_ite_snd, ite_self])

theorem State.bootSlot_mask (s : State) (b : Bool) {m0 : Nat} (hw : 562949953421312 &&& m0 = 562949953421312) :
    (State.bootSlot s b).mask m0 = s.mask m0 := by
  refine mask_mono hw ?_
  unfold State.bootSlot
  repeat' first
    | with_reducible rfl
    | with_reducible refine mask_ite_eq ?_ ?_
    | with_reducible refine mask_ite_snd_eq ?_ ?_
    | (simp (disch := decide) only [setStore_mask, mask_ite, mask_ite_snd, ite_self]; done)
    | dsimp only
    | (with_reducible refine mask_foldl _ (fun s x => ?_) _ _)
    | (with_reducible refine mask_foldl_snd _ (fun s x => ?_) _ _)
    | (with_reducible refine (mask_foldl _ (fun s x => ?_) _ _).trans ?_)
    | (split <;> try (rename_i e; have e2 := congrArg Prod.snd e; dsimp only at e2; subst e2))
    | (simp (disch := decide) only [setStore_mask, mask_ite, mask_ite_snd, ite_self])

theorem State.tryTrial_mask (s : State) (r : StartReport) (b : Bool) {m0 : Nat} (hw : 1759218604441600 &&& m0 = 1759218604441600) :
    (State.tryTrial s r b).2.mask m0 = s.mask m0 := by
  refine mask_mono hw ?_
  unfold State.tryTrial
  repeat' first
    | with_reducible rfl
    | with_reducible refine mask_ite_eq ?_ ?_
    | with_reducible refine mask_ite_snd_eq ?_ ?_
    | (simp (disch := decide) only [setStore_mask, State.bootSlot_mask, State.imageResult_mask, mask_ite, mask_ite_snd, ite_self]; done)
    | dsimp only
    | (with_reducible refine mask_foldl _ (fun s x => ?_) _ _)
    | (with_reducible refine mask_foldl_snd _ (fun s x => ?_) _ _)
    | (with_reducible refine (mask_foldl _ (fun s x => ?_) _ _).trans ?_)
    | (split <;> try (rename_i e; have e2 := congrArg Prod.snd e; dsimp only at e2; subst e2))
    | (simp (disch := decide) only [setStore_mask, State.bootSlot_mask, State.imageResult_mask, mask_ite, mask_ite_snd, ite_self])

theorem State.bootActive_mask (s : State) (r : StartReport) {m0 : Nat} (hw : 1759218604441600 &&& m0 = 1759218604441600) :
    (State.bootActive s r).2.mask m0 = s.mask m0 := by
  refine mask_mono hw ?_
  unfold State.bootActive
  repeat' first
    | with_reducible rfl
    | with_reducible refine mask_ite_eq ?_ ?_
    | with_reducible refine mask_ite_snd_eq ?_ ?_
    | (simp (disch := decide) only [State.bootSlot_mask, State.imageResult_mask, mask_ite, mask_ite_snd, ite_self]; done)
    | dsimp only
    | (with_reducible refine mask_foldl _ (fun s x => ?_) _ _)
    | (with_reducible refine mask_foldl_snd _ (fun s x => ?_) _ _)
    | (with_reducible refine (mask_foldl _ (fun s x => ?_) _ _).trans ?_)
    | (split <;> try (rename_i e; have e2 := congrArg Prod.snd e; dsimp only at e2; subst e2))
    | (simp (disch := decide) only [State.bootSlot_mask, State.imageResult_mask, mask_ite, mask_ite_snd, ite_self])

theorem State.bootFallback_mask (s : State) (r : StartReport) {m0 : Nat} (hw : 2080284726808674 &&& m0 = 2080284726808674) :
    (State.bootFallback s r).2.mask m0 = s.mask m0 := by
  refine mask_mono hw ?_
  unfold State.bootFallback
  repeat' first
    | with_reducible rfl
    | with_reducible refine mask_ite_eq ?_ ?_
    | with_reducible refine mask_ite_snd_eq ?_ ?_
    | (simp (disch := decide) only [State.bootActive_mask, State.toRecovery_mask, mask_ite, mask_ite_snd, ite_self]; done)
    | dsimp only
    | (with_reducible refine mask_foldl _ (fun s x => ?_) _ _)
    | (with_reducible refine mask_foldl_snd _ (fun s x => ?_) _ _)
    | (with_reducible refine (mask_foldl _ (fun s x => ?_) _ _).trans ?_)
    | (split <;> try (rename_i e; have e2 := congrArg Prod.snd e; dsimp only at e2; subst e2))
    | (simp (disch := decide) only [State.bootActive_mask, State.toRecovery_mask, mask_ite, mask_ite_snd, ite_self])

theorem State.activate_mask (s : State) (r : StartReport) (failing : Bool) {m0 : Nat} (hw : 2080284726808674 &&& m0 = 2080284726808674) :
    (State.activate s r failing).2.mask m0 = s.mask m0 := by
  refine mask_mono hw ?_
  unfold State.activate
  repeat' first
    | with_reducible rfl
    | with_reducible refine mask_ite_eq ?_ ?_
    | with_reducible refine mask_ite_snd_eq ?_ ?_
    | (simp (disch := decide) only [State.bootFallback_mask, State.failTrial_mask, State.tryTrial_mask, mask_ite, mask_ite_snd, ite_self]; done)
    | dsimp only
    | (with_reducible refine mask_foldl _ (fun s x => ?_) _ _)
    | (with_reducible refine mask_foldl_snd _ (fun s x => ?_) _ _)
    | (with_reducible refine (mask_foldl _ (fun s x => ?_) _ _).trans ?_)
    | (split <;> try (rename_i e; have e2 := congrArg Prod.snd e; dsimp only at e2; subst e2))
    | (simp (disch := decide) only [State.bootFallback_mask, State.failTrial_mask, State.tryTrial_mask, mask_ite, mask_ite_snd, ite_self])

theorem State.failProbation_mask (s : State) (c : Nat) {m0 : Nat} (hw : 1759218604441600 &&& m0 = 1759218604441600) :
    (State.failProbation s c).mask m0 = s.mask m0 := by
  refine mask_mono hw ?_
  unfold State.failProbation
  repeat' first
    | with_reducible rfl
    | with_reducible refine mask_ite_eq ?_ ?_
    | with_reducible refine mask_ite_snd_eq ?_ ?_
    | (simp (disch := decide) only [setStore_mask, State.imageResult_mask, State.odInc_mask, State.odSet_mask, mask_ite, mask_ite_snd, ite_self]; done)
    | dsimp only
    | (with_reducible refine mask_foldl _ (fun s x => ?_) _ _)
    | (with_reducible refine mask_foldl_snd _ (fun s x => ?_) _ _)
    | (with_reducible refine (mask_foldl _ (fun s x => ?_) _ _).trans ?_)
    | (split <;> try (rename_i e; have e2 := congrArg Prod.snd e; dsimp only at e2; subst e2))
    | (simp (disch := decide) only [setStore_mask, State.imageResult_mask, State.odInc_mask, State.odSet_mask, mask_ite, mask_ite_snd, ite_self])

theorem State.refuse_mask (s : State) (reason : Nat) {m0 : Nat} (hw : 2080284726808674 &&& m0 = 2080284726808674) :
    (State.refuse s reason).mask m0 = s.mask m0 := by
  refine mask_mono hw ?_
  unfold State.refuse
  repeat' first
    | with_reducible rfl
    | with_reducible refine mask_ite_eq ?_ ?_
    | with_reducible refine mask_ite_snd_eq ?_ ?_
    | (simp (disch := decide) only [setFw_mask, setRst_mask, State.enterMode_mask, State.failProbation_mask, State.odSet_mask, mask_ite, mask_ite_snd, ite_self]; done)
    | dsimp only
    | (with_reducible refine mask_foldl _ (fun s x => ?_) _ _)
    | (with_reducible refine mask_foldl_snd _ (fun s x => ?_) _ _)
    | (with_reducible refine (mask_foldl _ (fun s x => ?_) _ _).trans ?_)
    | (split <;> try (rename_i e; have e2 := congrArg Prod.snd e; dsimp only at e2; subst e2))
    | (simp (disch := decide) only [setFw_mask, setRst_mask, State.enterMode_mask, State.failProbation_mask, State.odSet_mask, mask_ite, mask_ite_snd, ite_self])

theorem State.startKernels_mask (s : State) {m0 : Nat} (hw : 1165491052494850 &&& m0 = 1165491052494850) :
    (State.startKernels s).mask m0 = s.mask m0 := by
  refine mask_mono hw ?_
  unfold State.startKernels
  repeat' first
    | with_reducible rfl
    | with_reducible refine mask_ite_eq ?_ ?_
    | with_reducible refine mask_ite_snd_eq ?_ ?_
    | (simp (disch := decide) only [State.putComp_mask, State.setComp_mask, mask_ite, mask_ite_snd, ite_self]; done)
    | dsimp only
    | (with_reducible refine mask_foldl _ (fun s x => ?_) _ _)
    | (with_reducible refine mask_foldl_snd _ (fun s x => ?_) _ _)
    | (with_reducible refine (mask_foldl _ (fun s x => ?_) _ _).trans ?_)
    | (split <;> try (rename_i e; have e2 := congrArg Prod.snd e; dsimp only at e2; subst e2))
    | (simp (disch := decide) only [State.putComp_mask, State.setComp_mask, mask_ite, mask_ite_snd, ite_self])

theorem State.loadRuntime_mask (s : State) (reported : Nat) {m0 : Nat} (hw : 2080284726808674 &&& m0 = 2080284726808674) :
    (State.loadRuntime s reported).mask m0 = s.mask m0 := by
  refine mask_mono hw ?_
  unfold State.loadRuntime
  repeat' first
    | with_reducible rfl
    | with_reducible refine mask_ite_eq ?_ ?_
    | with_reducible refine mask_ite_snd_eq ?_ ?_
    | (simp (disch := decide) only [setFw_mask, setRst_mask, setStore_mask, State.enterMode_mask, State.odSet_mask, State.refuse_mask, mask_ite, mask_ite_snd, ite_self]; done)
    | dsimp only
    | (with_reducible refine mask_foldl _ (fun s x => ?_) _ _)
    | (with_reducible refine mask_foldl_snd _ (fun s x => ?_) _ _)
    | (with_reducible refine (mask_foldl _ (fun s x => ?_) _ _).trans ?_)
    | (split <;> try (rename_i e; have e2 := congrArg Prod.snd e; dsimp only at e2; subst e2))
    | (simp (disch := decide) only [setFw_mask, setRst_mask, setStore_mask, State.enterMode_mask, State.odSet_mask, State.refuse_mask, mask_ite, mask_ite_snd, ite_self])

theorem State.toOutOfService_mask (s : State) (reason : Nat) {m0 : Nat} (hw : 2080284726808674 &&& m0 = 2080284726808674) :
    (State.toOutOfService s reason).mask m0 = s.mask m0 := by
  refine mask_mono hw ?_
  unfold State.toOutOfService
  repeat' first
    | with_reducible rfl
    | with_reducible refine mask_ite_eq ?_ ?_
    | with_reducible refine mask_ite_snd_eq ?_ ?_
    | (simp (disch := decide) only [setRst_mask, State.commit_mask, State.enterMode_mask, mask_ite, mask_ite_snd, ite_self]; done)
    | dsimp only
    | (with_reducible refine mask_foldl _ (fun s x => ?_) _ _)
    | (with_reducible refine mask_foldl_snd _ (fun s x => ?_) _ _)
    | (with_reducible refine (mask_foldl _ (fun s x => ?_) _ _).trans ?_)
    | (split <;> try (rename_i e; have e2 := congrArg Prod.snd e; dsimp only at e2; subst e2))
    | (simp (disch := decide) only [setRst_mask, State.commit_mask, State.enterMode_mask, mask_ite, mask_ite_snd, ite_self])

theorem State.afterTrain_mask (s : State) (r : StartReport) {m0 : Nat} (hw : 2080284726808674 &&& m0 = 2080284726808674) :
    (State.afterTrain s r).mask m0 = s.mask m0 := by
  refine mask_mono hw ?_
  unfold State.afterTrain
  repeat' first
    | with_reducible rfl
    | with_reducible refine mask_ite_eq ?_ ?_
    | with_reducible refine mask_ite_snd_eq ?_ ?_
    | (simp (disch := decide) only [State.loadRuntime_mask, State.startKernels_mask, State.toOutOfService_mask, mask_ite, mask_ite_snd, ite_self]; done)
    | dsimp only
    | (with_reducible refine mask_foldl _ (fun s x => ?_) _ _)
    | (with_reducible refine mask_foldl_snd _ (fun s x => ?_) _ _)
    | (with_reducible refine (mask_foldl _ (fun s x => ?_) _ _).trans ?_)
    | (split <;> try (rename_i e; have e2 := congrArg Prod.snd e; dsimp only at e2; subst e2))
    | (simp (disch := decide) only [State.loadRuntime_mask, State.startKernels_mask, State.toOutOfService_mask, mask_ite, mask_ite_snd, ite_self])

theorem State.trainAndLoad_mask (s : State) (r : StartReport) (hard : Bool) {m0 : Nat} (hw : 2080319094935650 &&& m0 = 2080319094935650) :
    (State.trainAndLoad s r hard).mask m0 = s.mask m0 := by
  refine mask_mono hw ?_
  unfold State.trainAndLoad
  repeat' first
    | with_reducible rfl
    | with_reducible refine mask_ite_eq ?_ ?_
    | with_reducible refine mask_ite_snd_eq ?_ ?_
    | (simp (disch := decide) only [setRst_mask, State.afterTrain_mask, State.enterMode_mask, State.train_mask, mask_ite, mask_ite_snd, ite_self]; done)
    | dsimp only
    | (with_reducible refine mask_foldl _ (fun s x => ?_) _ _)
    | (with_reducible refine mask_foldl_snd _ (fun s x => ?_) _ _)
    | (with_reducible refine (mask_foldl _ (fun s x => ?_) _ _).trans ?_)
    | (split <;> try (rename_i e; have e2 := congrArg Prod.snd e; dsimp only at e2; subst e2))
    | (simp (disch := decide) only [setRst_mask, State.afterTrain_mask, State.enterMode_mask, State.train_mask, mask_ite, mask_ite_snd, ite_self])

theorem State.measureHoldup_mask (s : State) (r : StartReport) {m0 : Nat} (hw : 1763651010691072 &&& m0 = 1763651010691072) :
    (State.measureHoldup s r).mask m0 = s.mask m0 := by
  refine mask_mono hw ?_
  unfold State.measureHoldup
  repeat' first
    | with_reducible rfl
    | with_reducible refine mask_ite_eq ?_ ?_
    | with_reducible refine mask_ite_snd_eq ?_ ?_
    | (simp (disch := decide) only [setRel_mask, State.charge_mask, State.commit_mask, State.failRecord_mask, State.force_mask, State.wearLimitCheck_mask, mask_ite, mask_ite_snd, ite_self]; done)
    | dsimp only
    | (with_reducible refine mask_foldl _ (fun s x => ?_) _ _)
    | (with_reducible refine mask_foldl_snd _ (fun s x => ?_) _ _)
    | (with_reducible refine (mask_foldl _ (fun s x => ?_) _ _).trans ?_)
    | (split <;> try (rename_i e; have e2 := congrArg Prod.snd e; dsimp only at e2; subst e2))
    | (simp (disch := decide) only [setRel_mask, State.charge_mask, State.commit_mask, State.failRecord_mask, State.force_mask, State.wearLimitCheck_mask, mask_ite, mask_ite_snd, ite_self])

theorem State.coldStart_mask (s : State) (k : Loss) (r : StartReport) (failing : Bool) {m0 : Nat} (hw : 2080319094946930 &&& m0 = 2080319094946930) :
    (State.coldStart s k r failing).mask m0 = s.mask m0 := by
  refine mask_mono hw ?_
  unfold State.coldStart
  repeat' first
    | with_reducible rfl
    | with_reducible refine mask_ite_eq ?_ ?_
    | with_reducible refine mask_ite_snd_eq ?_ ?_
    | (simp (disch := decide) only [setNoBoot_mask, setTray_mask, setWestPrimary_mask, State.activate_mask, State.condition_mask, State.copyStopRecord_mask, State.enterMode_mask, State.measureHoldup_mask, State.selectBank_mask, State.setAgeing_mask, State.trainAndLoad_mask, State.wearLimitCheck_mask, mask_ite, mask_ite_snd, ite_self]; done)
    | dsimp only
    | (with_reducible refine mask_foldl _ (fun s x => ?_) _ _)
    | (with_reducible refine mask_foldl_snd _ (fun s x => ?_) _ _)
    | (with_reducible refine (mask_foldl _ (fun s x => ?_) _ _).trans ?_)
    | (split <;> try (rename_i e; have e2 := congrArg Prod.snd e; dsimp only at e2; subst e2))
    | (simp (disch := decide) only [setNoBoot_mask, setTray_mask, setWestPrimary_mask, State.activate_mask, State.condition_mask, State.copyStopRecord_mask, State.enterMode_mask, State.measureHoldup_mask, State.selectBank_mask, State.setAgeing_mask, State.trainAndLoad_mask, State.wearLimitCheck_mask, mask_ite, mask_ite_snd, ite_self])

theorem State.takeReset_mask (s : State) (kind : ResetKind) (cause : Nat) (h : HistRec) {m0 : Nat} (hw : 1798809750097922 &&& m0 = 1798809750097922) :
    (State.takeReset s kind cause h).mask m0 = s.mask m0 := by
  refine mask_mono hw ?_
  unfold State.takeReset
  repeat' first
    | with_reducible rfl
    | with_reducible refine mask_ite_eq ?_ ?_
    | with_reducible refine mask_ite_snd_eq ?_ ?_
    | (simp (disch := decide) only [setRst_mask, State.commit_mask, State.recordReset_mask, mask_ite, mask_ite_snd, ite_self]; done)
    | dsimp only
    | (with_reducible refine mask_foldl _ (fun s x => ?_) _ _)
    | (with_reducible refine mask_foldl_snd _ (fun s x => ?_) _ _)
    | (with_reducible refine (mask_foldl _ (fun s x => ?_) _ _).trans ?_)
    | (split <;> try (rename_i e; have e2 := congrArg Prod.snd e; dsimp only at e2; subst e2))
    | (simp (disch := decide) only [setRst_mask, State.commit_mask, State.recordReset_mask, mask_ite, mask_ite_snd, ite_self])

theorem State.pwrTake_mask (s : State) (cause : Nat) {m0 : Nat} (hw : 4503595332399850 &&& m0 = 4503595332399850) :
    (State.pwrTake s cause).mask m0 = s.mask m0 := by
  refine mask_mono hw ?_
  unfold State.pwrTake
  repeat' first
    | with_reducible rfl
    | with_reducible refine mask_ite_eq ?_ ?_
    | with_reducible refine mask_ite_snd_eq ?_ ?_
    | (simp (disch := decide) only [State.enterMode_mask, State.lose_mask, State.takeReset_mask, mask_ite, mask_ite_snd, ite_self]; done)
    | dsimp only
    | (with_reducible refine mask_foldl _ (fun s x => ?_) _ _)
    | (with_reducible refine mask_foldl_snd _ (fun s x => ?_) _ _)
    | (with_reducible refine (mask_foldl _ (fun s x => ?_) _ _).trans ?_)
    | (split <;> try (rename_i e; have e2 := congrArg Prod.snd e; dsimp only at e2; subst e2))
    | (simp (disch := decide) only [State.enterMode_mask, State.lose_mask, State.takeReset_mask, mask_ite, mask_ite_snd, ite_self])

theorem State.pwrStart_mask (s : State) (cause : Nat) (r : StartReport) {m0 : Nat} (hw : 4503595332402938 &&& m0 = 4503595332402938) :
    (State.pwrStart s cause r).mask m0 = s.mask m0 := by
  refine mask_mono hw ?_
  unfold State.pwrStart
  repeat' first
    | with_reducible rfl
    | with_reducible refine mask_ite_eq ?_ ?_
    | with_reducible refine mask_ite_snd_eq ?_ ?_
    | (simp (disch := decide) only [State.coldStart_mask, State.pwrTake_mask, mask_ite, mask_ite_snd, ite_self]; done)
    | dsimp only
    | (with_reducible refine mask_foldl _ (fun s x => ?_) _ _)
    | (with_reducible refine mask_foldl_snd _ (fun s x => ?_) _ _)
    | (with_reducible refine (mask_foldl _ (fun s x => ?_) _ _).trans ?_)
    | (split <;> try (rename_i e; have e2 := congrArg Prod.snd e; dsimp only at e2; subst e2))
    | (simp (disch := decide) only [State.coldStart_mask, State.pwrTake_mask, mask_ite, mask_ite_snd, ite_self])

theorem State.modTake_mask (s : State) (cause : Nat) {m0 : Nat} (hw : 4503595332399854 &&& m0 = 4503595332399854) :
    (State.modTake s cause).mask m0 = s.mask m0 := by
  refine mask_mono hw ?_
  unfold State.modTake
  repeat' first
    | with_reducible rfl
    | with_reducible refine mask_ite_eq ?_ ?_
    | with_reducible refine mask_ite_snd_eq ?_ ?_
    | (simp (disch := decide) only [State.abortGroups_mask, State.enterMode_mask, State.lose_mask, State.takeReset_mask, mask_ite, mask_ite_snd, ite_self]; done)
    | dsimp only
    | (with_reducible refine mask_foldl _ (fun s x => ?_) _ _)
    | (with_reducible refine mask_foldl_snd _ (fun s x => ?_) _ _)
    | (with_reducible refine (mask_foldl _ (fun s x => ?_) _ _).trans ?_)
    | (split <;> try (rename_i e; have e2 := congrArg Prod.snd e; dsimp only at e2; subst e2))
    | (simp (disch := decide) only [State.abortGroups_mask, State.enterMode_mask, State.lose_mask, State.takeReset_mask, mask_ite, mask_ite_snd, ite_self])

theorem State.modStart_mask (s : State) (cause : Nat) (r : StartReport) {m0 : Nat} (hw : 4503595332402942 &&& m0 = 4503595332402942) :
    (State.modStart s cause r).mask m0 = s.mask m0 := by
  refine mask_mono hw ?_
  unfold State.modStart
  repeat' first
    | with_reducible rfl
    | with_reducible refine mask_ite_eq ?_ ?_
    | with_reducible refine mask_ite_snd_eq ?_ ?_
    | (simp (disch := decide) only [State.coldStart_mask, State.modTake_mask, mask_ite, mask_ite_snd, ite_self]; done)
    | dsimp only
    | (with_reducible refine mask_foldl _ (fun s x => ?_) _ _)
    | (with_reducible refine mask_foldl_snd _ (fun s x => ?_) _ _)
    | (with_reducible refine (mask_foldl _ (fun s x => ?_) _ _).trans ?_)
    | (split <;> try (rename_i e; have e2 := congrArg Prod.snd e; dsimp only at e2; subst e2))
    | (simp (disch := decide) only [State.coldStart_mask, State.modTake_mask, mask_ite, mask_ite_snd, ite_self])

theorem State.warmStart_mask (s : State) (cause : Nat) (r : StartReport) {m0 : Nat} (hw : 4503595332399854 &&& m0 = 4503595332399854) :
    (State.warmStart s cause r).mask m0 = s.mask m0 := by
  refine mask_mono hw ?_
  unfold State.warmStart
  repeat' first
    | with_reducible rfl
    | with_reducible refine mask_ite_eq ?_ ?_
    | with_reducible refine mask_ite_snd_eq ?_ ?_
    | (simp (disch := decide) only [setRst_mask, State.enterMode_mask, State.failProbation_mask, State.failTrial_mask, State.lose_mask, State.prepare_mask, State.takeReset_mask, State.toRecovery_mask, State.trainAndLoad_mask, mask_ite, mask_ite_snd, ite_self]; done)
    | dsimp only
    | (with_reducible refine mask_foldl _ (fun s x => ?_) _ _)
    | (with_reducible refine mask_foldl_snd _ (fun s x => ?_) _ _)
    | (with_reducible refine (mask_foldl _ (fun s x => ?_) _ _).trans ?_)
    | (split <;> try (rename_i e; have e2 := congrArg Prod.snd e; dsimp only at e2; subst e2))
    | (simp (disch := decide) only [setRst_mask, State.enterMode_mask, State.failProbation_mask, State.failTrial_mask, State.lose_mask, State.prepare_mask, State.takeReset_mask, State.toRecovery_mask, State.trainAndLoad_mask, mask_ite, mask_ite_snd, ite_self])

end Sys2Proof.Machine
end

