-- ==== Sys2Proof/Laws/Frame/Power.lean ====
section
/-!
SUPPORT. Frames of Machine/Power.lean: the fields that each function may change, as a mask.
-/
namespace Sys2Proof.Machine

open Sys2Proof

set_option linter.unusedSimpArgs false

theorem State.stepChanged_mask (s : State) (old : Nat) {m0 : Nat} (hw : 1446966029205506 &&& m0 = 1446966029205506) :
    (State.stepChanged s old).mask m0 = s.mask m0 := by
  refine mask_mono hw ?_
  unfold State.stepChanged
  repeat' first
    | with_reducible rfl
    | with_reducible refine mask_ite_eq ?_ ?_
    | with_reducible refine mask_ite_snd_eq ?_ ?_
    | (simp (disch := decide) only [setPow_mask, State.condition_mask, State.odInc_mask, State.raiseEast_mask, State.raisePart_mask, mask_ite, mask_ite_snd, ite_self]; done)
    | dsimp only
    | (with_reducible refine mask_foldl _ (fun s x => ?_) _ _)
    | (with_reducible refine mask_foldl_snd _ (fun s x => ?_) _ _)
    | (with_reducible refine (mask_foldl _ (fun s x => ?_) _ _).trans ?_)
    | (split <;> try (rename_i e; have e2 := congrArg Prod.snd e; dsimp only at e2; subst e2))
    | (simp (disch := decide) only [setPow_mask, State.condition_mask, State.odInc_mask, State.raiseEast_mask, State.raisePart_mask, mask_ite, mask_ite_snd, ite_self])

theorem State.setTrig_mask (s : State) (t : Trigger) (x : Trig) {m0 : Nat} (hw : 1446966029205506 &&& m0 = 1446966029205506) :
    (State.setTrig s t x).mask m0 = s.mask m0 := by
  refine mask_mono hw ?_
  unfold State.setTrig
  repeat' first
    | with_reducible rfl
    | with_reducible refine mask_ite_eq ?_ ?_
    | with_reducible refine mask_ite_snd_eq ?_ ?_
    | (simp (disch := decide) only [State.putTrig_mask, State.stepChanged_mask, mask_ite, mask_ite_snd, ite_self]; done)
    | dsimp only
    | (with_reducible refine mask_foldl _ (fun s x => ?_) _ _)
    | (with_reducible refine mask_foldl_snd _ (fun s x => ?_) _ _)
    | (with_reducible refine (mask_foldl _ (fun s x => ?_) _ _).trans ?_)
    | (split <;> try (rename_i e; have e2 := congrArg Prod.snd e; dsimp only at e2; subst e2))
    | (simp (disch := decide) only [State.putTrig_mask, State.stepChanged_mask, mask_ite, mask_ite_snd, ite_self])

theorem State.trigAssert_mask (s : State) (t : Trigger) (detail : Nat) {m0 : Nat} (hw : 1446966029205506 &&& m0 = 1446966029205506) :
    (State.trigAssert s t detail).mask m0 = s.mask m0 := by
  refine mask_mono hw ?_
  unfold State.trigAssert
  repeat' first
    | with_reducible rfl
    | with_reducible refine mask_ite_eq ?_ ?_
    | with_reducible refine mask_ite_snd_eq ?_ ?_
    | (simp (disch := decide) only [State.condition_mask, State.setTrig_mask, mask_ite, mask_ite_snd, ite_self]; done)
    | dsimp only
    | (with_reducible refine mask_foldl _ (fun s x => ?_) _ _)
    | (with_reducible refine mask_foldl_snd _ (fun s x => ?_) _ _)
    | (with_reducible refine (mask_foldl _ (fun s x => ?_) _ _).trans ?_)
    | (split <;> try (rename_i e; have e2 := congrArg Prod.snd e; dsimp only at e2; subst e2))
    | (simp (disch := decide) only [State.condition_mask, State.setTrig_mask, mask_ite, mask_ite_snd, ite_self])

theorem State.coolantRecord_mask (s : State) (what : Nat) {m0 : Nat} (hw : 1763651010691072 &&& m0 = 1763651010691072) :
    (State.coolantRecord s what).mask m0 = s.mask m0 := by
  refine mask_mono hw ?_
  unfold State.coolantRecord
  repeat' first
    | with_reducible rfl
    | with_reducible refine mask_ite_eq ?_ ?_
    | with_reducible refine mask_ite_snd_eq ?_ ?_
    | (simp (disch := decide) only [State.failRecord_mask, mask_ite, mask_ite_snd, ite_self]; done)
    | dsimp only
    | (with_reducible refine mask_foldl _ (fun s x => ?_) _ _)
    | (with_reducible refine mask_foldl_snd _ (fun s x => ?_) _ _)
    | (with_reducible refine (mask_foldl _ (fun s x => ?_) _ _).trans ?_)
    | (split <;> try (rename_i e; have e2 := congrArg Prod.snd e; dsimp only at e2; subst e2))
    | (simp (disch := decide) only [State.failRecord_mask, mask_ite, mask_ite_snd, ite_self])

theorem State.coolantFault_mask (s : State) (outlet : Bool) {m0 : Nat} (hw : 2080319086542866 &&& m0 = 2080319086542866) :
    (State.coolantFault s outlet).mask m0 = s.mask m0 := by
  refine mask_mono hw ?_
  unfold State.coolantFault
  repeat' first
    | with_reducible rfl
    | with_reducible refine mask_ite_eq ?_ ?_
    | with_reducible refine mask_ite_snd_eq ?_ ?_
    | (simp (disch := decide) only [setTray_mask, State.coolantRecord_mask, State.trigAssert_mask, mask_ite, mask_ite_snd, ite_self]; done)
    | dsimp only
    | (with_reducible refine mask_foldl _ (fun s x => ?_) _ _)
    | (with_reducible refine mask_foldl_snd _ (fun s x => ?_) _ _)
    | (with_reducible refine (mask_foldl _ (fun s x => ?_) _ _).trans ?_)
    | (split <;> try (rename_i e; have e2 := congrArg Prod.snd e; dsimp only at e2; subst e2))
    | (simp (disch := decide) only [setTray_mask, State.coolantRecord_mask, State.trigAssert_mask, mask_ite, mask_ite_snd, ite_self])

theorem State.trigOn_mask (s : State) (t : Trigger) (detail : Nat) {m0 : Nat} (hw : 2080319086542866 &&& m0 = 2080319086542866) :
    (State.trigOn s t detail).mask m0 = s.mask m0 := by
  refine mask_mono hw ?_
  unfold State.trigOn
  repeat' first
    | with_reducible rfl
    | with_reducible refine mask_ite_eq ?_ ?_
    | with_reducible refine mask_ite_snd_eq ?_ ?_
    | (simp (disch := decide) only [State.coolantFault_mask, State.coolantRecord_mask, State.trigAssert_mask, mask_ite, mask_ite_snd, ite_self]; done)
    | dsimp only
    | (with_reducible refine mask_foldl _ (fun s x => ?_) _ _)
    | (with_reducible refine mask_foldl_snd _ (fun s x => ?_) _ _)
    | (with_reducible refine (mask_foldl _ (fun s x => ?_) _ _).trans ?_)
    | (split <;> try (rename_i e; have e2 := congrArg Prod.snd e; dsimp only at e2; subst e2))
    | (simp (disch := decide) only [State.coolantFault_mask, State.coolantRecord_mask, State.trigAssert_mask, mask_ite, mask_ite_snd, ite_self])

theorem State.drawReading_mask (s : State) (lo : Int) (n : Nat) {m0 : Nat} (hw : 2 &&& m0 = 2) :
    (State.drawReading s lo n).2.mask m0 = s.mask m0 := by
  refine mask_mono hw ?_
  unfold State.drawReading
  repeat' first
    | with_reducible rfl
    | with_reducible refine mask_ite_eq ?_ ?_
    | with_reducible refine mask_ite_snd_eq ?_ ?_
    | (simp (disch := decide) only [State.drawNat_mask, mask_ite, mask_ite_snd, ite_self]; done)
    | dsimp only
    | (with_reducible refine mask_foldl _ (fun s x => ?_) _ _)
    | (with_reducible refine mask_foldl_snd _ (fun s x => ?_) _ _)
    | (with_reducible refine (mask_foldl _ (fun s x => ?_) _ _).trans ?_)
    | (split <;> try (rename_i e; have e2 := congrArg Prod.snd e; dsimp only at e2; subst e2))
    | (simp (disch := decide) only [State.drawNat_mask, mask_ite, mask_ite_snd, ite_self])

theorem State.freshReading_mask (s : State) {m0 : Nat} (hw : 2 &&& m0 = 2) :
    (State.freshReading s).2.mask m0 = s.mask m0 := by
  refine mask_mono hw ?_
  unfold State.freshReading
  repeat' first
    | with_reducible rfl
    | with_reducible refine mask_ite_eq ?_ ?_
    | with_reducible refine mask_ite_snd_eq ?_ ?_
    | (simp (disch := decide) only [State.drawReading_mask, mask_ite, mask_ite_snd, ite_self]; done)
    | dsimp only
    | (with_reducible refine mask_foldl _ (fun s x => ?_) _ _)
    | (with_reducible refine mask_foldl_snd _ (fun s x => ?_) _ _)
    | (with_reducible refine (mask_foldl _ (fun s x => ?_) _ _).trans ?_)
    | (split <;> try (rename_i e; have e2 := congrArg Prod.snd e; dsimp only at e2; subst e2))
    | (simp (disch := decide) only [State.drawReading_mask, mask_ite, mask_ite_snd, ite_self])

theorem State.coolantReads_mask (s : State) {m0 : Nat} (hw : 18 &&& m0 = 18) :
    (State.coolantReads s).mask m0 = s.mask m0 := by
  refine mask_mono hw ?_
  unfold State.coolantReads
  repeat' first
    | with_reducible rfl
    | with_reducible refine mask_ite_eq ?_ ?_
    | with_reducible refine mask_ite_snd_eq ?_ ?_
    | (simp (disch := decide) only [setTray_mask, State.freshReading_mask, mask_ite, mask_ite_snd, ite_self]; done)
    | dsimp only
    | (with_reducible refine mask_foldl _ (fun s x => ?_) _ _)
    | (with_reducible refine mask_foldl_snd _ (fun s x => ?_) _ _)
    | (with_reducible refine (mask_foldl _ (fun s x => ?_) _ _).trans ?_)
    | (split <;> try (rename_i e; have e2 := congrArg Prod.snd e; dsimp only at e2; subst e2))
    | (simp (disch := decide) only [setTray_mask, State.freshReading_mask, mask_ite, mask_ite_snd, ite_self])

theorem State.inletCools_mask (s : State) {m0 : Nat} (hw : 18 &&& m0 = 18) :
    (State.inletCools s).mask m0 = s.mask m0 := by
  refine mask_mono hw ?_
  unfold State.inletCools
  repeat' first
    | with_reducible rfl
    | with_reducible refine mask_ite_eq ?_ ?_
    | with_reducible refine mask_ite_snd_eq ?_ ?_
    | (simp (disch := decide) only [setTray_mask, State.drawReading_mask, mask_ite, mask_ite_snd, ite_self]; done)
    | dsimp only
    | (with_reducible refine mask_foldl _ (fun s x => ?_) _ _)
    | (with_reducible refine mask_foldl_snd _ (fun s x => ?_) _ _)
    | (with_reducible refine (mask_foldl _ (fun s x => ?_) _ _).trans ?_)
    | (split <;> try (rename_i e; have e2 := congrArg Prod.snd e; dsimp only at e2; subst e2))
    | (simp (disch := decide) only [setTray_mask, State.drawReading_mask, mask_ite, mask_ite_snd, ite_self])

theorem State.inputRises_mask (s : State) {m0 : Nat} (hw : 18 &&& m0 = 18) :
    (State.inputRises s).mask m0 = s.mask m0 := by
  refine mask_mono hw ?_
  unfold State.inputRises
  repeat' first
    | with_reducible rfl
    | with_reducible refine mask_ite_eq ?_ ?_
    | with_reducible refine mask_ite_snd_eq ?_ ?_
    | (simp (disch := decide) only [setTray_mask, State.drawReading_mask, mask_ite, mask_ite_snd, ite_self]; done)
    | dsimp only
    | (with_reducible refine mask_foldl _ (fun s x => ?_) _ _)
    | (with_reducible refine mask_foldl_snd _ (fun s x => ?_) _ _)
    | (with_reducible refine (mask_foldl _ (fun s x => ?_) _ _).trans ?_)
    | (split <;> try (rename_i e; have e2 := congrArg Prod.snd e; dsimp only at e2; subst e2))
    | (simp (disch := decide) only [setTray_mask, State.drawReading_mask, mask_ite, mask_ite_snd, ite_self])

theorem State.drawFalls_mask (s : State) {m0 : Nat} (hw : 281474976710658 &&& m0 = 281474976710658) :
    (State.drawFalls s).mask m0 = s.mask m0 := by
  refine mask_mono hw ?_
  unfold State.drawFalls
  repeat' first
    | with_reducible rfl
    | with_reducible refine mask_ite_eq ?_ ?_
    | with_reducible refine mask_ite_snd_eq ?_ ?_
    | (simp (disch := decide) only [setPow_mask, State.drawReading_mask, mask_ite, mask_ite_snd, ite_self]; done)
    | dsimp only
    | (with_reducible refine mask_foldl _ (fun s x => ?_) _ _)
    | (with_reducible refine mask_foldl_snd _ (fun s x => ?_) _ _)
    | (with_reducible refine (mask_foldl _ (fun s x => ?_) _ _).trans ?_)
    | (split <;> try (rename_i e; have e2 := congrArg Prod.snd e; dsimp only at e2; subst e2))
    | (simp (disch := decide) only [setPow_mask, State.drawReading_mask, mask_ite, mask_ite_snd, ite_self])

theorem State.junctionCools_mask (s : State) (n : Nat) {m0 : Nat} (hw : 18 &&& m0 = 18) :
    (State.junctionCools s n).mask m0 = s.mask m0 := by
  refine mask_mono hw ?_
  unfold State.junctionCools
  repeat' first
    | with_reducible rfl
    | with_reducible refine mask_ite_eq ?_ ?_
    | with_reducible refine mask_ite_snd_eq ?_ ?_
    | (simp (disch := decide) only [setTray_mask, State.drawReading_mask, mask_ite, mask_ite_snd, ite_self]; done)
    | dsimp only
    | (with_reducible refine mask_foldl _ (fun s x => ?_) _ _)
    | (with_reducible refine mask_foldl_snd _ (fun s x => ?_) _ _)
    | (with_reducible refine (mask_foldl _ (fun s x => ?_) _ _).trans ?_)
    | (split <;> try (rename_i e; have e2 := congrArg Prod.snd e; dsimp only at e2; subst e2))
    | (simp (disch := decide) only [setTray_mask, State.drawReading_mask, mask_ite, mask_ite_snd, ite_self])

theorem State.dramCools_mask (s : State) (n : Nat) {m0 : Nat} (hw : 262146 &&& m0 = 262146) :
    (State.dramCools s n).mask m0 = s.mask m0 := by
  refine mask_mono hw ?_
  unfold State.dramCools
  repeat' first
    | with_reducible rfl
    | with_reducible refine mask_ite_eq ?_ ?_
    | with_reducible refine mask_ite_snd_eq ?_ ?_
    | (simp (disch := decide) only [State.drawReading_mask, State.updSub_mask, mask_ite, mask_ite_snd, ite_self]; done)
    | dsimp only
    | (with_reducible refine mask_foldl _ (fun s x => ?_) _ _)
    | (with_reducible refine mask_foldl_snd _ (fun s x => ?_) _ _)
    | (with_reducible refine (mask_foldl _ (fun s x => ?_) _ _).trans ?_)
    | (split <;> try (rename_i e; have e2 := congrArg Prod.snd e; dsimp only at e2; subst e2))
    | (simp (disch := decide) only [State.drawReading_mask, State.updSub_mask, mask_ite, mask_ite_snd, ite_self])

theorem State.clearReading_mask (s : State) (t : Trigger) {m0 : Nat} (hw : 281474976972818 &&& m0 = 281474976972818) :
    (State.clearReading s t).mask m0 = s.mask m0 := by
  refine mask_mono hw ?_
  unfold State.clearReading
  repeat' first
    | with_reducible rfl
    | with_reducible refine mask_ite_eq ?_ ?_
    | with_reducible refine mask_ite_snd_eq ?_ ?_
    | (simp (disch := decide) only [State.coolantReads_mask, State.dramCools_mask, State.drawFalls_mask, State.inletCools_mask, State.inputRises_mask, State.junctionCools_mask, mask_ite, mask_ite_snd, ite_self]; done)
    | dsimp only
    | (with_reducible refine mask_foldl _ (fun s x => ?_) _ _)
    | (with_reducible refine mask_foldl_snd _ (fun s x => ?_) _ _)
    | (with_reducible refine (mask_foldl _ (fun s x => ?_) _ _).trans ?_)
    | (split <;> try (rename_i e; have e2 := congrArg Prod.snd e; dsimp only at e2; subst e2))
    | (simp (disch := decide) only [State.coolantReads_mask, State.dramCools_mask, State.drawFalls_mask, State.inletCools_mask, State.inputRises_mask, State.junctionCools_mask, mask_ite, mask_ite_snd, ite_self])

theorem State.trigClear_mask (s : State) (t : Trigger) {m0 : Nat} (hw : 1446966029205522 &&& m0 = 1446966029205522) :
    (State.trigClear s t).mask m0 = s.mask m0 := by
  refine mask_mono hw ?_
  unfold State.trigClear
  repeat' first
    | with_reducible rfl
    | with_reducible refine mask_ite_eq ?_ ?_
    | with_reducible refine mask_ite_snd_eq ?_ ?_
    | (simp (disch := decide) only [State.clearReading_mask, State.condition_mask, State.putTrig_mask, mask_ite, mask_ite_snd, ite_self]; done)
    | dsimp only
    | (with_reducible refine mask_foldl _ (fun s x => ?_) _ _)
    | (with_reducible refine mask_foldl_snd _ (fun s x => ?_) _ _)
    | (with_reducible refine (mask_foldl _ (fun s x => ?_) _ _).trans ?_)
    | (split <;> try (rename_i e; have e2 := congrArg Prod.snd e; dsimp only at e2; subst e2))
    | (simp (disch := decide) only [State.clearReading_mask, State.condition_mask, State.putTrig_mask, mask_ite, mask_ite_snd, ite_self])

theorem State.levelRise_mask (s : State) (t : Trigger) {m0 : Nat} (hw : 1446966029205506 &&& m0 = 1446966029205506) :
    (State.levelRise s t).mask m0 = s.mask m0 := by
  refine mask_mono hw ?_
  unfold State.levelRise
  repeat' first
    | with_reducible rfl
    | with_reducible refine mask_ite_eq ?_ ?_
    | with_reducible refine mask_ite_snd_eq ?_ ?_
    | (simp (disch := decide) only [State.setTrig_mask, mask_ite, mask_ite_snd, ite_self]; done)
    | dsimp only
    | (with_reducible refine mask_foldl _ (fun s x => ?_) _ _)
    | (with_reducible refine mask_foldl_snd _ (fun s x => ?_) _ _)
    | (with_reducible refine (mask_foldl _ (fun s x => ?_) _ _).trans ?_)
    | (split <;> try (rename_i e; have e2 := congrArg Prod.snd e; dsimp only at e2; subst e2))
    | (simp (disch := decide) only [State.setTrig_mask, mask_ite, mask_ite_snd, ite_self])

theorem State.levelFall_mask (s : State) (t : Trigger) {m0 : Nat} (hw : 1446966029205506 &&& m0 = 1446966029205506) :
    (State.levelFall s t).mask m0 = s.mask m0 := by
  refine mask_mono hw ?_
  unfold State.levelFall
  repeat' first
    | with_reducible rfl
    | with_reducible refine mask_ite_eq ?_ ?_
    | with_reducible refine mask_ite_snd_eq ?_ ?_
    | (simp (disch := decide) only [State.setTrig_mask, mask_ite, mask_ite_snd, ite_self]; done)
    | dsimp only
    | (with_reducible refine mask_foldl _ (fun s x => ?_) _ _)
    | (with_reducible refine mask_foldl_snd _ (fun s x => ?_) _ _)
    | (with_reducible refine (mask_foldl _ (fun s x => ?_) _ _).trans ?_)
    | (split <;> try (rename_i e; have e2 := congrArg Prod.snd e; dsimp only at e2; subst e2))
    | (simp (disch := decide) only [State.setTrig_mask, mask_ite, mask_ite_snd, ite_self])

theorem State.noteDraw_mask (s : State) (mw : Nat) {m0 : Nat} (hw : 281474976710656 &&& m0 = 281474976710656) :
    (State.noteDraw s mw).mask m0 = s.mask m0 := by
  refine mask_mono hw ?_
  unfold State.noteDraw
  repeat' first
    | with_reducible rfl
    | with_reducible refine mask_ite_eq ?_ ?_
    | with_reducible refine mask_ite_snd_eq ?_ ?_
    | (simp (disch := decide) only [setPow_mask, mask_ite, mask_ite_snd, ite_self]; done)
    | dsimp only
    | (with_reducible refine mask_foldl _ (fun s x => ?_) _ _)
    | (with_reducible refine mask_foldl_snd _ (fun s x => ?_) _ _)
    | (with_reducible refine (mask_foldl _ (fun s x => ?_) _ _).trans ?_)
    | (split <;> try (rename_i e; have e2 := congrArg Prod.snd e; dsimp only at e2; subst e2))
    | (simp (disch := decide) only [setPow_mask, mask_ite, mask_ite_snd, ite_self])

theorem State.junctionWarms_mask (s : State) (n : Nat) {m0 : Nat} (hw : 18 &&& m0 = 18) :
    (State.junctionWarms s n).mask m0 = s.mask m0 := by
  refine mask_mono hw ?_
  unfold State.junctionWarms
  repeat' first
    | with_reducible rfl
    | with_reducible refine mask_ite_eq ?_ ?_
    | with_reducible refine mask_ite_snd_eq ?_ ?_
    | (simp (disch := decide) only [setTray_mask, State.drawReading_mask, mask_ite, mask_ite_snd, ite_self]; done)
    | dsimp only
    | (with_reducible refine mask_foldl _ (fun s x => ?_) _ _)
    | (with_reducible refine mask_foldl_snd _ (fun s x => ?_) _ _)
    | (with_reducible refine (mask_foldl _ (fun s x => ?_) _ _).trans ?_)
    | (split <;> try (rename_i e; have e2 := congrArg Prod.snd e; dsimp only at e2; subst e2))
    | (simp (disch := decide) only [setTray_mask, State.drawReading_mask, mask_ite, mask_ite_snd, ite_self])

theorem State.noteReading_mask (s : State) (t : Trigger) (detail : Nat) {m0 : Nat} (hw : 281474976710674 &&& m0 = 281474976710674) :
    (State.noteReading s t detail).mask m0 = s.mask m0 := by
  refine mask_mono hw ?_
  unfold State.noteReading
  repeat' first
    | with_reducible rfl
    | with_reducible refine mask_ite_eq ?_ ?_
    | with_reducible refine mask_ite_snd_eq ?_ ?_
    | (simp (disch := decide) only [setTray_mask, State.junctionWarms_mask, State.noteDraw_mask, mask_ite, mask_ite_snd, ite_self]; done)
    | dsimp only
    | (with_reducible refine mask_foldl _ (fun s x => ?_) _ _)
    | (with_reducible refine mask_foldl_snd _ (fun s x => ?_) _ _)
    | (with_reducible refine (mask_foldl _ (fun s x => ?_) _ _).trans ?_)
    | (split <;> try (rename_i e; have e2 := congrArg Prod.snd e; dsimp only at e2; subst e2))
    | (simp (disch := decide) only [setTray_mask, State.junctionWarms_mask, State.noteDraw_mask, mask_ite, mask_ite_snd, ite_self])

theorem State.refreshRate_mask (s : State) (n : Nat) (temp : Int) {m0 : Nat} (hw : 1446966029205506 &&& m0 = 1446966029205506) :
    (State.refreshRate s n temp).mask m0 = s.mask m0 := by
  refine mask_mono hw ?_
  unfold State.refreshRate
  repeat' first
    | with_reducible rfl
    | with_reducible refine mask_ite_eq ?_ ?_
    | with_reducible refine mask_ite_snd_eq ?_ ?_
    | (simp (disch := decide) only [State.trigAssert_mask, State.updSub_mask, mask_ite, mask_ite_snd, ite_self]; done)
    | dsimp only
    | (with_reducible refine mask_foldl _ (fun s x => ?_) _ _)
    | (with_reducible refine mask_foldl_snd _ (fun s x => ?_) _ _)
    | (with_reducible refine (mask_foldl _ (fun s x => ?_) _ _).trans ?_)
    | (split <;> try (rename_i e; have e2 := congrArg Prod.snd e; dsimp only at e2; subst e2))
    | (simp (disch := decide) only [State.trigAssert_mask, State.updSub_mask, mask_ite, mask_ite_snd, ite_self])

theorem State.capAdjust_mask (s : State) (p mw : Nat) {m0 : Nat} (hw : 1165508232364034 &&& m0 = 1165508232364034) :
    (State.capAdjust s p mw).mask m0 = s.mask m0 := by
  refine mask_mono hw ?_
  unfold State.capAdjust
  repeat' first
    | with_reducible rfl
    | with_reducible refine mask_ite_eq ?_ ?_
    | with_reducible refine mask_ite_snd_eq ?_ ?_
    | (simp (disch := decide) only [State.odInc_mask, State.putPart_mask, State.raiseEast_mask, mask_ite, mask_ite_snd, ite_self]; done)
    | dsimp only
    | (with_reducible refine mask_foldl _ (fun s x => ?_) _ _)
    | (with_reducible refine mask_foldl_snd _ (fun s x => ?_) _ _)
    | (with_reducible refine (mask_foldl _ (fun s x => ?_) _ _).trans ?_)
    | (split <;> try (rename_i e; have e2 := congrArg Prod.snd e; dsimp only at e2; subst e2))
    | (simp (disch := decide) only [State.odInc_mask, State.putPart_mask, State.raiseEast_mask, mask_ite, mask_ite_snd, ite_self])

theorem State.setBallast_mask (s : State) (w : Nat) {m0 : Nat} (hw : 1446966029205506 &&& m0 = 1446966029205506) :
    (State.setBallast s w).mask m0 = s.mask m0 := by
  refine mask_mono hw ?_
  unfold State.setBallast
  repeat' first
    | with_reducible rfl
    | with_reducible refine mask_ite_eq ?_ ?_
    | with_reducible refine mask_ite_snd_eq ?_ ?_
    | (simp (disch := decide) only [setPow_mask, State.condition_mask, mask_ite, mask_ite_snd, ite_self]; done)
    | dsimp only
    | (with_reducible refine mask_foldl _ (fun s x => ?_) _ _)
    | (with_reducible refine mask_foldl_snd _ (fun s x => ?_) _ _)
    | (with_reducible refine (mask_foldl _ (fun s x => ?_) _ _).trans ?_)
    | (split <;> try (rename_i e; have e2 := congrArg Prod.snd e; dsimp only at e2; subst e2))
    | (simp (disch := decide) only [setPow_mask, State.condition_mask, mask_ite, mask_ite_snd, ite_self])

theorem State.ballastAdjust_mask (s : State) (mw : Nat) {m0 : Nat} (hw : 1446966029205506 &&& m0 = 1446966029205506) :
    (State.ballastAdjust s mw).mask m0 = s.mask m0 := by
  refine mask_mono hw ?_
  unfold State.ballastAdjust
  repeat' first
    | with_reducible rfl
    | with_reducible refine mask_ite_eq ?_ ?_
    | with_reducible refine mask_ite_snd_eq ?_ ?_
    | (simp (disch := decide) only [State.noteDraw_mask, State.setBallast_mask, mask_ite, mask_ite_snd, ite_self]; done)
    | dsimp only
    | (with_reducible refine mask_foldl _ (fun s x => ?_) _ _)
    | (with_reducible refine mask_foldl_snd _ (fun s x => ?_) _ _)
    | (with_reducible refine (mask_foldl _ (fun s x => ?_) _ _).trans ?_)
    | (split <;> try (rename_i e; have e2 := congrArg Prod.snd e; dsimp only at e2; subst e2))
    | (simp (disch := decide) only [State.noteDraw_mask, State.setBallast_mask, mask_ite, mask_ite_snd, ite_self])

theorem State.rampAdjust_mask (s : State) (mw room : Nat) {m0 : Nat} (hw : 1446966029205506 &&& m0 = 1446966029205506) :
    (State.rampAdjust s mw room).mask m0 = s.mask m0 := by
  refine mask_mono hw ?_
  unfold State.rampAdjust
  repeat' first
    | with_reducible rfl
    | with_reducible refine mask_ite_eq ?_ ?_
    | with_reducible refine mask_ite_snd_eq ?_ ?_
    | (simp (disch := decide) only [setPow_mask, State.condition_mask, State.drawNat_mask, State.noteDraw_mask, State.stepChanged_mask, mask_ite, mask_ite_snd, ite_self]; done)
    | dsimp only
    | (with_reducible refine mask_foldl _ (fun s x => ?_) _ _)
    | (with_reducible refine mask_foldl_snd _ (fun s x => ?_) _ _)
    | (with_reducible refine (mask_foldl _ (fun s x => ?_) _ _).trans ?_)
    | (split <;> try (rename_i e; have e2 := congrArg Prod.snd e; dsimp only at e2; subst e2))
    | (simp (disch := decide) only [setPow_mask, State.condition_mask, State.drawNat_mask, State.noteDraw_mask, State.stepChanged_mask, mask_ite, mask_ite_snd, ite_self])

theorem State.stopRecord_mask (s : State) (cause core : Nat) (detail : List (Nat × DVal)) (torn : List Nat) {m0 : Nat} (hw : 1759252964179968 &&& m0 = 1759252964179968) :
    (State.stopRecord s cause core detail torn).mask m0 = s.mask m0 := by
  refine mask_mono hw ?_
  unfold State.stopRecord
  repeat' first
    | with_reducible rfl
    | with_reducible refine mask_ite_eq ?_ ?_
    | with_reducible refine mask_ite_snd_eq ?_ ?_
    | (simp (disch := decide) only [setPark_mask, setStore_mask, State.psStop_mask, State.storeRecord_mask, mask_ite, mask_ite_snd, ite_self]; done)
    | dsimp only
    | (with_reducible refine mask_foldl _ (fun s x => ?_) _ _)
    | (with_reducible refine mask_foldl_snd _ (fun s x => ?_) _ _)
    | (with_reducible refine (mask_foldl _ (fun s x => ?_) _ _).trans ?_)
    | (split <;> try (rename_i e; have e2 := congrArg Prod.snd e; dsimp only at e2; subst e2))
    | (simp (disch := decide) only [setPark_mask, setStore_mask, State.psStop_mask, State.storeRecord_mask, mask_ite, mask_ite_snd, ite_self])

theorem State.stopCommit_mask (s : State) (cause core : Nat) (detail : List (Nat × DVal)) (k : Loss) (torn : List Nat) {m0 : Nat} (hw : 1759252964179970 &&& m0 = 1759252964179970) :
    (State.stopCommit s cause core detail k torn).mask m0 = s.mask m0 := by
  refine mask_mono hw ?_
  unfold State.stopCommit
  repeat' first
    | with_reducible rfl
    | with_reducible refine mask_ite_eq ?_ ?_
    | with_reducible refine mask_ite_snd_eq ?_ ?_
    | (simp (disch := decide) only [State.drawBool_mask, State.psTorn_mask, State.stopRecord_mask, mask_ite, mask_ite_snd, ite_self]; done)
    | dsimp only
    | (with_reducible refine mask_foldl _ (fun s x => ?_) _ _)
    | (with_reducible refine mask_foldl_snd _ (fun s x => ?_) _ _)
    | (with_reducible refine (mask_foldl _ (fun s x => ?_) _ _).trans ?_)
    | (split <;> try (rename_i e; have e2 := congrArg Prod.snd e; dsimp only at e2; subst e2))
    | (simp (disch := decide) only [State.drawBool_mask, State.psTorn_mask, State.stopRecord_mask, mask_ite, mask_ite_snd, ite_self])

theorem State.stopSequence_mask (s : State) (cause core : Nat) (detail : List (Nat × DVal)) (k : Loss) (torn : List Nat) {m0 : Nat} (hw : 4503595332399838 &&& m0 = 4503595332399838) :
    (State.stopSequence s cause core detail k torn).mask m0 = s.mask m0 := by
  refine mask_mono hw ?_
  unfold State.stopSequence
  repeat' first
    | with_reducible rfl
    | with_reducible refine mask_ite_eq ?_ ?_
    | with_reducible refine mask_ite_snd_eq ?_ ?_
    | (simp (disch := decide) only [setRst_mask, setTray_mask, State.abortGroups_mask, State.endRetirements_mask, State.lose_mask, State.odInc_mask, State.raiseEast_mask, State.stopCommit_mask, mask_ite, mask_ite_snd, ite_self]; done)
    | dsimp only
    | (with_reducible refine mask_foldl _ (fun s x => ?_) _ _)
    | (with_reducible refine mask_foldl_snd _ (fun s x => ?_) _ _)
    | (with_reducible refine (mask_foldl _ (fun s x => ?_) _ _).trans ?_)
    | (split <;> try (rename_i e; have e2 := congrArg Prod.snd e; dsimp only at e2; subst e2))
    | (simp (disch := decide) only [setRst_mask, setTray_mask, State.abortGroups_mask, State.endRetirements_mask, State.lose_mask, State.odInc_mask, State.raiseEast_mask, State.stopCommit_mask, mask_ite, mask_ite_snd, ite_self])

theorem State.addCause_mask (s : State) (cause : Nat) {m0 : Nat} (hw : 70368744177680 &&& m0 = 70368744177680) :
    (State.addCause s cause).mask m0 = s.mask m0 := by
  refine mask_mono hw ?_
  unfold State.addCause
  repeat' first
    | with_reducible rfl
    | with_reducible refine mask_ite_eq ?_ ?_
    | with_reducible refine mask_ite_snd_eq ?_ ?_
    | (simp (disch := decide) only [setRel_mask, setTray_mask, mask_ite, mask_ite_snd, ite_self]; done)
    | dsimp only
    | (with_reducible refine mask_foldl _ (fun s x => ?_) _ _)
    | (with_reducible refine mask_foldl_snd _ (fun s x => ?_) _ _)
    | (with_reducible refine (mask_foldl _ (fun s x => ?_) _ _).trans ?_)
    | (split <;> try (rename_i e; have e2 := congrArg Prod.snd e; dsimp only at e2; subst e2))
    | (simp (disch := decide) only [setRel_mask, setTray_mask, mask_ite, mask_ite_snd, ite_self])

theorem State.stopOpen_mask (s : State) (cause : Nat) (detail : List (Nat × DVal)) (why : OpenCause) (phase : TrayPhase) (torn : List Nat) {m0 : Nat} (hw : 4503595332399870 &&& m0 = 4503595332399870) :
    (State.stopOpen s cause detail why phase torn).mask m0 = s.mask m0 := by
  refine mask_mono hw ?_
  unfold State.stopOpen
  repeat' first
    | with_reducible rfl
    | with_reducible refine mask_ite_eq ?_ ?_
    | with_reducible refine mask_ite_snd_eq ?_ ?_
    | (simp (disch := decide) only [setMode_mask, setTray_mask, State.addCause_mask, State.stopSequence_mask, mask_ite, mask_ite_snd, ite_self]; done)
    | dsimp only
    | (with_reducible refine mask_foldl _ (fun s x => ?_) _ _)
    | (with_reducible refine mask_foldl_snd _ (fun s x => ?_) _ _)
    | (with_reducible refine (mask_foldl _ (fun s x => ?_) _ _).trans ?_)
    | (split <;> try (rename_i e; have e2 := congrArg Prod.snd e; dsimp only at e2; subst e2))
    | (simp (disch := decide) only [setMode_mask, setTray_mask, State.addCause_mask, State.stopSequence_mask, mask_ite, mask_ite_snd, ite_self])

theorem State.thermalStop_mask (s : State) (core : Nat) (torn : List Nat) {m0 : Nat} (hw : 4503595332399870 &&& m0 = 4503595332399870) :
    (State.thermalStop s core torn).mask m0 = s.mask m0 := by
  refine mask_mono hw ?_
  unfold State.thermalStop
  repeat' first
    | with_reducible rfl
    | with_reducible refine mask_ite_eq ?_ ?_
    | with_reducible refine mask_ite_snd_eq ?_ ?_
    | (simp (disch := decide) only [setRst_mask, setTime_mask, setTray_mask, State.addCause_mask, State.condition_mask, State.enterMode_mask, State.odInc_mask, State.raiseEast_mask, State.stopSequence_mask, mask_ite, mask_ite_snd, ite_self]; done)
    | dsimp only
    | (with_reducible refine mask_foldl _ (fun s x => ?_) _ _)
    | (with_reducible refine mask_foldl_snd _ (fun s x => ?_) _ _)
    | (with_reducible refine (mask_foldl _ (fun s x => ?_) _ _).trans ?_)
    | (split <;> try (rename_i e; have e2 := congrArg Prod.snd e; dsimp only at e2; subst e2))
    | (simp (disch := decide) only [setRst_mask, setTime_mask, setTray_mask, State.addCause_mask, State.condition_mask, State.enterMode_mask, State.odInc_mask, State.raiseEast_mask, State.stopSequence_mask, mask_ite, mask_ite_snd, ite_self])

theorem State.beginEntry_mask (s : State) (target : Mode) (grace : Bool) (oos : Nat) (warm : Bool) {m0 : Nat} (hw : 1446966029206498 &&& m0 = 1446966029206498) :
    (State.beginEntry s target grace oos warm).mask m0 = s.mask m0 := by
  refine mask_mono hw ?_
  unfold State.beginEntry
  repeat' first
    | with_reducible rfl
    | with_reducible refine mask_ite_eq ?_ ?_
    | with_reducible refine mask_ite_snd_eq ?_ ?_
    | (simp (disch := decide) only [setEntry_mask, setLeftMode_mask, setWakeHeld_mask, State.enterMode_mask, mask_ite, mask_ite_snd, ite_self]; done)
    | dsimp only
    | (with_reducible refine mask_foldl _ (fun s x => ?_) _ _)
    | (with_reducible refine mask_foldl_snd _ (fun s x => ?_) _ _)
    | (with_reducible refine (mask_foldl _ (fun s x => ?_) _ _).trans ?_)
    | (split <;> try (rename_i e; have e2 := congrArg Prod.snd e; dsimp only at e2; subst e2))
    | (simp (disch := decide) only [setEntry_mask, setLeftMode_mask, setWakeHeld_mask, State.enterMode_mask, mask_ite, mask_ite_snd, ite_self])

theorem State.drainFor_mask (s : State) (oos : Nat) (warm : Bool) {m0 : Nat} (hw : 1446966029206498 &&& m0 = 1446966029206498) :
    (State.drainFor s oos warm).mask m0 = s.mask m0 := by
  refine mask_mono hw ?_
  unfold State.drainFor
  repeat' first
    | with_reducible rfl
    | with_reducible refine mask_ite_eq ?_ ?_
    | with_reducible refine mask_ite_snd_eq ?_ ?_
    | (simp (disch := decide) only [State.beginEntry_mask, mask_ite, mask_ite_snd, ite_self]; done)
    | dsimp only
    | (with_reducible refine mask_foldl _ (fun s x => ?_) _ _)
    | (with_reducible refine mask_foldl_snd _ (fun s x => ?_) _ _)
    | (with_reducible refine (mask_foldl _ (fun s x => ?_) _ _).trans ?_)
    | (split <;> try (rename_i e; have e2 := congrArg Prod.snd e; dsimp only at e2; subst e2))
    | (simp (disch := decide) only [State.beginEntry_mask, mask_ite, mask_ite_snd, ite_self])

theorem State.stateRequest_mask (s : State) (code : Nat) {m0 : Nat} (hw : 1446966029206498 &&& m0 = 1446966029206498) :
    (State.stateRequest s code).2.mask m0 = s.mask m0 := by
  refine mask_mono hw ?_
  unfold State.stateRequest
  repeat' first
    | with_reducible rfl
    | with_reducible refine mask_ite_eq ?_ ?_
    | with_reducible refine mask_ite_snd_eq ?_ ?_
    | (simp (disch := decide) only [setEntry_mask, State.beginEntry_mask, State.enterMode_mask, mask_ite, mask_ite_snd, ite_self]; done)
    | dsimp only
    | (with_reducible refine mask_foldl _ (fun s x => ?_) _ _)
    | (with_reducible refine mask_foldl_snd _ (fun s x => ?_) _ _)
    | (with_reducible refine (mask_foldl _ (fun s x => ?_) _ _).trans ?_)
    | (split <;> try (rename_i e; have e2 := congrArg Prod.snd e; dsimp only at e2; subst e2))
    | (simp (disch := decide) only [setEntry_mask, State.beginEntry_mask, State.enterMode_mask, mask_ite, mask_ite_snd, ite_self])

theorem State.stateCommand_mask (s : State) (code : Nat) (src : CmdSrc) {m0 : Nat} (hw : 1446966029206498 &&& m0 = 1446966029206498) :
    (State.stateCommand s code src).mask m0 = s.mask m0 := by
  refine mask_mono hw ?_
  unfold State.stateCommand
  repeat' first
    | with_reducible rfl
    | with_reducible refine mask_ite_eq ?_ ?_
    | with_reducible refine mask_ite_snd_eq ?_ ?_
    | (simp (disch := decide) only [State.answer_mask, State.keepRequest_mask, State.odSet_mask, State.receive_mask, State.stateRequest_mask, mask_ite, mask_ite_snd, ite_self]; done)
    | dsimp only
    | (with_reducible refine mask_foldl _ (fun s x => ?_) _ _)
    | (with_reducible refine mask_foldl_snd _ (fun s x => ?_) _ _)
    | (with_reducible refine (mask_foldl _ (fun s x => ?_) _ _).trans ?_)
    | (split <;> try (rename_i e; have e2 := congrArg Prod.snd e; dsimp only at e2; subst e2))
    | (simp (disch := decide) only [State.answer_mask, State.keepRequest_mask, State.odSet_mask, State.receive_mask, State.stateRequest_mask, mask_ite, mask_ite_snd, ite_self])

theorem State.dropPosted_mask (s : State) {m0 : Nat} (hw : 1798844109897734 &&& m0 = 1798844109897734) :
    (State.dropPosted s).mask m0 = s.mask m0 := by
  refine mask_mono hw ?_
  unfold State.dropPosted
  repeat' first
    | with_reducible rfl
    | with_reducible refine mask_ite_eq ?_ ?_
    | with_reducible refine mask_ite_snd_eq ?_ ?_
    | (simp (disch := decide) only [State.completeAll_mask, State.updQueue_mask, mask_ite, mask_ite_snd, ite_self]; done)
    | dsimp only
    | (with_reducible refine mask_foldl _ (fun s x => ?_) _ _)
    | (with_reducible refine mask_foldl_snd _ (fun s x => ?_) _ _)
    | (with_reducible refine (mask_foldl _ (fun s x => ?_) _ _).trans ?_)
    | (split <;> try (rename_i e; have e2 := congrArg Prod.snd e; dsimp only at e2; subst e2))
    | (simp (disch := decide) only [State.completeAll_mask, State.updQueue_mask, mask_ite, mask_ite_snd, ite_self])

theorem State.drainTimeout_mask (s : State) {m0 : Nat} (hw : 1798844109897862 &&& m0 = 1798844109897862) :
    (State.drainTimeout s).mask m0 = s.mask m0 := by
  refine mask_mono hw ?_
  unfold State.drainTimeout
  repeat' first
    | with_reducible rfl
    | with_reducible refine mask_ite_eq ?_ ?_
    | with_reducible refine mask_ite_snd_eq ?_ ?_
    | (simp (disch := decide) only [setEntry_mask, setQueues_mask, State.dropPosted_mask, mask_ite, mask_ite_snd, ite_self]; done)
    | dsimp only
    | (with_reducible refine mask_foldl _ (fun s x => ?_) _ _)
    | (with_reducible refine mask_foldl_snd _ (fun s x => ?_) _ _)
    | (with_reducible refine (mask_foldl _ (fun s x => ?_) _ _).trans ?_)
    | (split <;> try (rename_i e; have e2 := congrArg Prod.snd e; dsimp only at e2; subst e2))
    | (simp (disch := decide) only [setEntry_mask, setQueues_mask, State.dropPosted_mask, mask_ite, mask_ite_snd, ite_self])

theorem State.idleEntry_mask (s : State) {m0 : Nat} (hw : 64 &&& m0 = 64) :
    (State.idleEntry s).mask m0 = s.mask m0 := by
  refine mask_mono hw ?_
  unfold State.idleEntry
  repeat' first
    | with_reducible rfl
    | with_reducible refine mask_ite_eq ?_ ?_
    | with_reducible refine mask_ite_snd_eq ?_ ?_
    | (simp (disch := decide) only [setIdle_mask, mask_ite, mask_ite_snd, ite_self]; done)
    | dsimp only
    | (with_reducible refine mask_foldl _ (fun s x => ?_) _ _)
    | (with_reducible refine mask_foldl_snd _ (fun s x => ?_) _ _)
    | (with_reducible refine (mask_foldl _ (fun s x => ?_) _ _).trans ?_)
    | (split <;> try (rename_i e; have e2 := congrArg Prod.snd e; dsimp only at e2; subst e2))
    | (simp (disch := decide) only [setIdle_mask, mask_ite, mask_ite_snd, ite_self])

theorem State.presenceExpiry_mask (s : State) (secondary : Bool) {m0 : Nat} (hw : 1125899906842624 &&& m0 = 1125899906842624) :
    (State.presenceExpiry s secondary).mask m0 = s.mask m0 := by
  refine mask_mono hw ?_
  unfold State.presenceExpiry
  repeat' first
    | with_reducible rfl
    | with_reducible refine mask_ite_eq ?_ ?_
    | with_reducible refine mask_ite_snd_eq ?_ ?_
    | (simp (disch := decide) only [State.odSet_mask, mask_ite, mask_ite_snd, ite_self]; done)
    | dsimp only
    | (with_reducible refine mask_foldl _ (fun s x => ?_) _ _)
    | (with_reducible refine mask_foldl_snd _ (fun s x => ?_) _ _)
    | (with_reducible refine (mask_foldl _ (fun s x => ?_) _ _).trans ?_)
    | (split <;> try (rename_i e; have e2 := congrArg Prod.snd e; dsimp only at e2; subst e2))
    | (simp (disch := decide) only [State.odSet_mask, mask_ite, mask_ite_snd, ite_self])

theorem State.controllerFrame_mask (s : State) (secondary : Bool) {m0 : Nat} (hw : 1455762122227938 &&& m0 = 1455762122227938) :
    (State.controllerFrame s secondary).mask m0 = s.mask m0 := by
  refine mask_mono hw ?_
  unfold State.controllerFrame
  repeat' first
    | with_reducible rfl
    | with_reducible refine mask_ite_eq ?_ ?_
    | with_reducible refine mask_ite_snd_eq ?_ ?_
    | (simp (disch := decide) only [setEntry_mask, setPow_mask, setRyc_mask, State.condition_mask, State.enterMode_mask, State.odSet_mask, mask_ite, mask_ite_snd, ite_self]; done)
    | dsimp only
    | (with_reducible refine mask_foldl _ (fun s x => ?_) _ _)
    | (with_reducible refine mask_foldl_snd _ (fun s x => ?_) _ _)
    | (with_reducible refine (mask_foldl _ (fun s x => ?_) _ _).trans ?_)
    | (split <;> try (rename_i e; have e2 := congrArg Prod.snd e; dsimp only at e2; subst e2))
    | (simp (disch := decide) only [setEntry_mask, setPow_mask, setRyc_mask, State.condition_mask, State.enterMode_mask, State.odSet_mask, mask_ite, mask_ite_snd, ite_self])

theorem State.controllersLost_mask (s : State) {m0 : Nat} (hw : 2080319086542850 &&& m0 = 2080319086542850) :
    (State.controllersLost s).mask m0 = s.mask m0 := by
  refine mask_mono hw ?_
  unfold State.controllersLost
  repeat' first
    | with_reducible rfl
    | with_reducible refine mask_ite_eq ?_ ?_
    | with_reducible refine mask_ite_snd_eq ?_ ?_
    | (simp (disch := decide) only [setPow_mask, State.condition_mask, State.failRecord_mask, mask_ite, mask_ite_snd, ite_self]; done)
    | dsimp only
    | (with_reducible refine mask_foldl _ (fun s x => ?_) _ _)
    | (with_reducible refine mask_foldl_snd _ (fun s x => ?_) _ _)
    | (with_reducible refine (mask_foldl _ (fun s x => ?_) _ _).trans ?_)
    | (split <;> try (rename_i e; have e2 := congrArg Prod.snd e; dsimp only at e2; subst e2))
    | (simp (disch := decide) only [setPow_mask, State.condition_mask, State.failRecord_mask, mask_ite, mask_ite_snd, ite_self])

theorem State.graceExpiry_mask (s : State) {m0 : Nat} (hw : 1446966029206498 &&& m0 = 1446966029206498) :
    (State.graceExpiry s).mask m0 = s.mask m0 := by
  refine mask_mono hw ?_
  unfold State.graceExpiry
  repeat' first
    | with_reducible rfl
    | with_reducible refine mask_ite_eq ?_ ?_
    | with_reducible refine mask_ite_snd_eq ?_ ?_
    | (simp (disch := decide) only [State.beginEntry_mask, mask_ite, mask_ite_snd, ite_self]; done)
    | dsimp only
    | (with_reducible refine mask_foldl _ (fun s x => ?_) _ _)
    | (with_reducible refine mask_foldl_snd _ (fun s x => ?_) _ _)
    | (with_reducible refine (mask_foldl _ (fun s x => ?_) _ _).trans ?_)
    | (split <;> try (rename_i e; have e2 := congrArg Prod.snd e; dsimp only at e2; subst e2))
    | (simp (disch := decide) only [State.beginEntry_mask, mask_ite, mask_ite_snd, ite_self])

end Sys2Proof.Machine
end

