-- ==== Sys2Proof/Laws/Frame/Tray.lean ====
section
/-!
SUPPORT. Frames of Machine/Tray.lean: the fields that each function may change, as a mask.
-/
namespace Sys2Proof.Machine

open Sys2Proof

set_option linter.unusedSimpArgs false

theorem State.setPhase_mask (s : State) (x : TrayPhase) {m0 : Nat} (hw : 16 &&& m0 = 16) :
    (State.setPhase s x).mask m0 = s.mask m0 := by
  refine mask_mono hw ?_
  unfold State.setPhase
  repeat' first
    | with_reducible rfl
    | with_reducible refine mask_ite_eq ?_ ?_
    | with_reducible refine mask_ite_snd_eq ?_ ?_
    | (simp (disch := decide) only [setTray_mask, mask_ite, mask_ite_snd, ite_self]; done)
    | dsimp only
    | (with_reducible refine mask_foldl _ (fun s x => ?_) _ _)
    | (with_reducible refine mask_foldl_snd _ (fun s x => ?_) _ _)
    | (with_reducible refine (mask_foldl _ (fun s x => ?_) _ _).trans ?_)
    | (split <;> try (rename_i e; have e2 := congrArg Prod.snd e; dsimp only at e2; subst e2))
    | (simp (disch := decide) only [setTray_mask, mask_ite, mask_ite_snd, ite_self])

theorem State.bladesMate_mask (s : State) (mv : Nat) {m0 : Nat} (hw : 16 &&& m0 = 16) :
    (State.bladesMate s mv).mask m0 = s.mask m0 := by
  refine mask_mono hw ?_
  unfold State.bladesMate
  repeat' first
    | with_reducible rfl
    | with_reducible refine mask_ite_eq ?_ ?_
    | with_reducible refine mask_ite_snd_eq ?_ ?_
    | (simp (disch := decide) only [setTray_mask, mask_ite, mask_ite_snd, ite_self]; done)
    | dsimp only
    | (with_reducible refine mask_foldl _ (fun s x => ?_) _ _)
    | (with_reducible refine mask_foldl_snd _ (fun s x => ?_) _ _)
    | (with_reducible refine (mask_foldl _ (fun s x => ?_) _ _).trans ?_)
    | (split <;> try (rename_i e; have e2 := congrArg Prod.snd e; dsimp only at e2; subst e2))
    | (simp (disch := decide) only [setTray_mask, mask_ite, mask_ite_snd, ite_self])

theorem State.presenceMet_mask (s : State) (mv : Nat) (inlet : Int) {m0 : Nat} (hw : 16 &&& m0 = 16) :
    (State.presenceMet s mv inlet).mask m0 = s.mask m0 := by
  refine mask_mono hw ?_
  unfold State.presenceMet
  repeat' first
    | with_reducible rfl
    | with_reducible refine mask_ite_eq ?_ ?_
    | with_reducible refine mask_ite_snd_eq ?_ ?_
    | (simp (disch := decide) only [setTray_mask, mask_ite, mask_ite_snd, ite_self]; done)
    | dsimp only
    | (with_reducible refine mask_foldl _ (fun s x => ?_) _ _)
    | (with_reducible refine mask_foldl_snd _ (fun s x => ?_) _ _)
    | (with_reducible refine (mask_foldl _ (fun s x => ?_) _ _).trans ?_)
    | (split <;> try (rename_i e; have e2 := congrArg Prod.snd e; dsimp only at e2; subst e2))
    | (simp (disch := decide) only [setTray_mask, mask_ite, mask_ite_snd, ite_self])

theorem State.inletRises_mask (s : State) (inlet : Int) {m0 : Nat} (hw : 16 &&& m0 = 16) :
    (State.inletRises s inlet).mask m0 = s.mask m0 := by
  refine mask_mono hw ?_
  unfold State.inletRises
  repeat' first
    | with_reducible rfl
    | with_reducible refine mask_ite_eq ?_ ?_
    | with_reducible refine mask_ite_snd_eq ?_ ?_
    | (simp (disch := decide) only [setTray_mask, mask_ite, mask_ite_snd, ite_self]; done)
    | dsimp only
    | (with_reducible refine mask_foldl _ (fun s x => ?_) _ _)
    | (with_reducible refine mask_foldl_snd _ (fun s x => ?_) _ _)
    | (with_reducible refine (mask_foldl _ (fun s x => ?_) _ _).trans ?_)
    | (split <;> try (rename_i e; have e2 := congrArg Prod.snd e; dsimp only at e2; subst e2))
    | (simp (disch := decide) only [setTray_mask, mask_ite, mask_ite_snd, ite_self])

theorem State.softStartDone_mask (s : State) (r : StartReport) {m0 : Nat} (hw : 4503595332402938 &&& m0 = 4503595332402938) :
    (State.softStartDone s r).mask m0 = s.mask m0 := by
  refine mask_mono hw ?_
  unfold State.softStartDone
  repeat' first
    | with_reducible rfl
    | with_reducible refine mask_ite_eq ?_ ?_
    | with_reducible refine mask_ite_snd_eq ?_ ?_
    | (simp (disch := decide) only [setTray_mask, State.pwrStart_mask, State.pwrTake_mask, mask_ite, mask_ite_snd, ite_self]; done)
    | dsimp only
    | (with_reducible refine mask_foldl _ (fun s x => ?_) _ _)
    | (with_reducible refine mask_foldl_snd _ (fun s x => ?_) _ _)
    | (with_reducible refine (mask_foldl _ (fun s x => ?_) _ _).trans ?_)
    | (split <;> try (rename_i e; have e2 := congrArg Prod.snd e; dsimp only at e2; subst e2))
    | (simp (disch := decide) only [setTray_mask, State.pwrStart_mask, State.pwrTake_mask, mask_ite, mask_ite_snd, ite_self])

theorem State.presenceLate_mask (s : State) (pins : Nat) {m0 : Nat} (hw : 1759218604441616 &&& m0 = 1759218604441616) :
    (State.presenceLate s pins).mask m0 = s.mask m0 := by
  refine mask_mono hw ?_
  unfold State.presenceLate
  repeat' first
    | with_reducible rfl
    | with_reducible refine mask_ite_eq ?_ ?_
    | with_reducible refine mask_ite_snd_eq ?_ ?_
    | (simp (disch := decide) only [setTray_mask, State.commit_mask, State.storeRecord_mask, mask_ite, mask_ite_snd, ite_self]; done)
    | dsimp only
    | (with_reducible refine mask_foldl _ (fun s x => ?_) _ _)
    | (with_reducible refine mask_foldl_snd _ (fun s x => ?_) _ _)
    | (with_reducible refine (mask_foldl _ (fun s x => ?_) _ _).trans ?_)
    | (split <;> try (rename_i e; have e2 := congrArg Prod.snd e; dsimp only at e2; subst e2))
    | (simp (disch := decide) only [setTray_mask, State.commit_mask, State.storeRecord_mask, mask_ite, mask_ite_snd, ite_self])

theorem State.presenceBreak_mask (s : State) (pins mv us : Nat) (torn : List Nat) {m0 : Nat} (hw : 4503595332399870 &&& m0 = 4503595332399870) :
    (State.presenceBreak s pins mv us torn).mask m0 = s.mask m0 := by
  refine mask_mono hw ?_
  unfold State.presenceBreak
  repeat' first
    | with_reducible rfl
    | with_reducible refine mask_ite_eq ?_ ?_
    | with_reducible refine mask_ite_snd_eq ?_ ?_
    | (simp (disch := decide) only [setTray_mask, State.raiseEast_mask, State.stopOpen_mask, mask_ite, mask_ite_snd, ite_self]; done)
    | dsimp only
    | (with_reducible refine mask_foldl _ (fun s x => ?_) _ _)
    | (with_reducible refine mask_foldl_snd _ (fun s x => ?_) _ _)
    | (with_reducible refine (mask_foldl _ (fun s x => ?_) _ _).trans ?_)
    | (split <;> try (rename_i e; have e2 := congrArg Prod.snd e; dsimp only at e2; subst e2))
    | (simp (disch := decide) only [setTray_mask, State.raiseEast_mask, State.stopOpen_mask, mask_ite, mask_ite_snd, ite_self])

theorem State.overvoltage_mask (s : State) (mv us : Nat) (torn : List Nat) {m0 : Nat} (hw : 4503595332399870 &&& m0 = 4503595332399870) :
    (State.overvoltage s mv us torn).mask m0 = s.mask m0 := by
  refine mask_mono hw ?_
  unfold State.overvoltage
  repeat' first
    | with_reducible rfl
    | with_reducible refine mask_ite_eq ?_ ?_
    | with_reducible refine mask_ite_snd_eq ?_ ?_
    | (simp (disch := decide) only [setTray_mask, State.stopOpen_mask, mask_ite, mask_ite_snd, ite_self]; done)
    | dsimp only
    | (with_reducible refine mask_foldl _ (fun s x => ?_) _ _)
    | (with_reducible refine mask_foldl_snd _ (fun s x => ?_) _ _)
    | (with_reducible refine (mask_foldl _ (fun s x => ?_) _ _).trans ?_)
    | (split <;> try (rename_i e; have e2 := congrArg Prod.snd e; dsimp only at e2; subst e2))
    | (simp (disch := decide) only [setTray_mask, State.stopOpen_mask, mask_ite, mask_ite_snd, ite_self])

theorem State.overcurrent_mask (s : State) (ma us : Nat) (torn : List Nat) {m0 : Nat} (hw : 4503595332399870 &&& m0 = 4503595332399870) :
    (State.overcurrent s ma us torn).mask m0 = s.mask m0 := by
  refine mask_mono hw ?_
  unfold State.overcurrent
  repeat' first
    | with_reducible rfl
    | with_reducible refine mask_ite_eq ?_ ?_
    | with_reducible refine mask_ite_snd_eq ?_ ?_
    | (simp (disch := decide) only [setTray_mask, State.stopOpen_mask, mask_ite, mask_ite_snd, ite_self]; done)
    | dsimp only
    | (with_reducible refine mask_foldl _ (fun s x => ?_) _ _)
    | (with_reducible refine mask_foldl_snd _ (fun s x => ?_) _ _)
    | (with_reducible refine (mask_foldl _ (fun s x => ?_) _ _).trans ?_)
    | (split <;> try (rename_i e; have e2 := congrArg Prod.snd e; dsimp only at e2; subst e2))
    | (simp (disch := decide) only [setTray_mask, State.stopOpen_mask, mask_ite, mask_ite_snd, ite_self])

theorem State.inputLoss_mask (s : State) (mv us : Nat) (torn : List Nat) {m0 : Nat} (hw : 4503595332399870 &&& m0 = 4503595332399870) :
    (State.inputLoss s mv us torn).mask m0 = s.mask m0 := by
  refine mask_mono hw ?_
  unfold State.inputLoss
  repeat' first
    | with_reducible rfl
    | with_reducible refine mask_ite_eq ?_ ?_
    | with_reducible refine mask_ite_snd_eq ?_ ?_
    | (simp (disch := decide) only [setTray_mask, State.stopOpen_mask, mask_ite, mask_ite_snd, ite_self]; done)
    | dsimp only
    | (with_reducible refine mask_foldl _ (fun s x => ?_) _ _)
    | (with_reducible refine mask_foldl_snd _ (fun s x => ?_) _ _)
    | (with_reducible refine (mask_foldl _ (fun s x => ?_) _ _).trans ?_)
    | (split <;> try (rename_i e; have e2 := congrArg Prod.snd e; dsimp only at e2; subst e2))
    | (simp (disch := decide) only [setTray_mask, State.stopOpen_mask, mask_ite, mask_ite_snd, ite_self])

theorem State.below36_mask (s : State) (mv us : Nat) (torn : List Nat) {m0 : Nat} (hw : 4503595332399870 &&& m0 = 4503595332399870) :
    (State.below36 s mv us torn).mask m0 = s.mask m0 := by
  refine mask_mono hw ?_
  unfold State.below36
  repeat' first
    | with_reducible rfl
    | with_reducible refine mask_ite_eq ?_ ?_
    | with_reducible refine mask_ite_snd_eq ?_ ?_
    | (simp (disch := decide) only [setTray_mask, State.condition_mask, State.stopOpen_mask, mask_ite, mask_ite_snd, ite_self]; done)
    | dsimp only
    | (with_reducible refine mask_foldl _ (fun s x => ?_) _ _)
    | (with_reducible refine mask_foldl_snd _ (fun s x => ?_) _ _)
    | (with_reducible refine (mask_foldl _ (fun s x => ?_) _ _).trans ?_)
    | (split <;> try (rename_i e; have e2 := congrArg Prod.snd e; dsimp only at e2; subst e2))
    | (simp (disch := decide) only [setTray_mask, State.condition_mask, State.stopOpen_mask, mask_ite, mask_ite_snd, ite_self])

theorem State.below40_mask (s : State) (mv : Nat) {m0 : Nat} (hw : 1446966029205522 &&& m0 = 1446966029205522) :
    (State.below40 s mv).mask m0 = s.mask m0 := by
  refine mask_mono hw ?_
  unfold State.below40
  repeat' first
    | with_reducible rfl
    | with_reducible refine mask_ite_eq ?_ ?_
    | with_reducible refine mask_ite_snd_eq ?_ ?_
    | (simp (disch := decide) only [setTray_mask, State.trigAssert_mask, mask_ite, mask_ite_snd, ite_self]; done)
    | dsimp only
    | (with_reducible refine mask_foldl _ (fun s x => ?_) _ _)
    | (with_reducible refine mask_foldl_snd _ (fun s x => ?_) _ _)
    | (with_reducible refine (mask_foldl _ (fun s x => ?_) _ _).trans ?_)
    | (split <;> try (rename_i e; have e2 := congrArg Prod.snd e; dsimp only at e2; subst e2))
    | (simp (disch := decide) only [setTray_mask, State.trigAssert_mask, mask_ite, mask_ite_snd, ite_self])

theorem State.inputFault_mask (s : State) {m0 : Nat} (hw : 1446966029205522 &&& m0 = 1446966029205522) :
    (State.inputFault s).mask m0 = s.mask m0 := by
  refine mask_mono hw ?_
  unfold State.inputFault
  repeat' first
    | with_reducible rfl
    | with_reducible refine mask_ite_eq ?_ ?_
    | with_reducible refine mask_ite_snd_eq ?_ ?_
    | (simp (disch := decide) only [setTray_mask, State.trigAssert_mask, mask_ite, mask_ite_snd, ite_self]; done)
    | dsimp only
    | (with_reducible refine mask_foldl _ (fun s x => ?_) _ _)
    | (with_reducible refine mask_foldl_snd _ (fun s x => ?_) _ _)
    | (with_reducible refine (mask_foldl _ (fun s x => ?_) _ _).trans ?_)
    | (split <;> try (rename_i e; have e2 := congrArg Prod.snd e; dsimp only at e2; subst e2))
    | (simp (disch := decide) only [setTray_mask, State.trigAssert_mask, mask_ite, mask_ite_snd, ite_self])

theorem State.reclose_mask (s : State) (mv : Nat) {m0 : Nat} (hw : 1165491052494866 &&& m0 = 1165491052494866) :
    (State.reclose s mv).mask m0 = s.mask m0 := by
  refine mask_mono hw ?_
  unfold State.reclose
  repeat' first
    | with_reducible rfl
    | with_reducible refine mask_ite_eq ?_ ?_
    | with_reducible refine mask_ite_snd_eq ?_ ?_
    | (simp (disch := decide) only [setTray_mask, State.condition_mask, mask_ite, mask_ite_snd, ite_self]; done)
    | dsimp only
    | (with_reducible refine mask_foldl _ (fun s x => ?_) _ _)
    | (with_reducible refine mask_foldl_snd _ (fun s x => ?_) _ _)
    | (with_reducible refine (mask_foldl _ (fun s x => ?_) _ _).trans ?_)
    | (split <;> try (rename_i e; have e2 := congrArg Prod.snd e; dsimp only at e2; subst e2))
    | (simp (disch := decide) only [setTray_mask, State.condition_mask, mask_ite, mask_ite_snd, ite_self])

theorem State.trayResetAssert_mask (s : State) {m0 : Nat} (hw : 4503595332399870 &&& m0 = 4503595332399870) :
    (State.trayResetAssert s).mask m0 = s.mask m0 := by
  refine mask_mono hw ?_
  unfold State.trayResetAssert
  repeat' first
    | with_reducible rfl
    | with_reducible refine mask_ite_eq ?_ ?_
    | with_reducible refine mask_ite_snd_eq ?_ ?_
    | (simp (disch := decide) only [setTray_mask, State.modTake_mask, State.raiseEast_mask, mask_ite, mask_ite_snd, ite_self]; done)
    | dsimp only
    | (with_reducible refine mask_foldl _ (fun s x => ?_) _ _)
    | (with_reducible refine mask_foldl_snd _ (fun s x => ?_) _ _)
    | (with_reducible refine (mask_foldl _ (fun s x => ?_) _ _).trans ?_)
    | (split <;> try (rename_i e; have e2 := congrArg Prod.snd e; dsimp only at e2; subst e2))
    | (simp (disch := decide) only [setTray_mask, State.modTake_mask, State.raiseEast_mask, mask_ite, mask_ite_snd, ite_self])

theorem State.trayResetRelease_mask (s : State) (r : StartReport) {m0 : Nat} (hw : 2080319094946930 &&& m0 = 2080319094946930) :
    (State.trayResetRelease s r).mask m0 = s.mask m0 := by
  refine mask_mono hw ?_
  unfold State.trayResetRelease
  repeat' first
    | with_reducible rfl
    | with_reducible refine mask_ite_eq ?_ ?_
    | with_reducible refine mask_ite_snd_eq ?_ ?_
    | (simp (disch := decide) only [setTray_mask, State.coldStart_mask, mask_ite, mask_ite_snd, ite_self]; done)
    | dsimp only
    | (with_reducible refine mask_foldl _ (fun s x => ?_) _ _)
    | (with_reducible refine mask_foldl_snd _ (fun s x => ?_) _ _)
    | (with_reducible refine (mask_foldl _ (fun s x => ?_) _ _).trans ?_)
    | (split <;> try (rename_i e; have e2 := congrArg Prod.snd e; dsimp only at e2; subst e2))
    | (simp (disch := decide) only [setTray_mask, State.coldStart_mask, mask_ite, mask_ite_snd, ite_self])

theorem State.trayResetHeld_mask (s : State) {m0 : Nat} (hw : 1759218604441616 &&& m0 = 1759218604441616) :
    (State.trayResetHeld s).mask m0 = s.mask m0 := by
  refine mask_mono hw ?_
  unfold State.trayResetHeld
  repeat' first
    | with_reducible rfl
    | with_reducible refine mask_ite_eq ?_ ?_
    | with_reducible refine mask_ite_snd_eq ?_ ?_
    | (simp (disch := decide) only [setTray_mask, State.commit_mask, State.storeRecord_mask, mask_ite, mask_ite_snd, ite_self]; done)
    | dsimp only
    | (with_reducible refine mask_foldl _ (fun s x => ?_) _ _)
    | (with_reducible refine mask_foldl_snd _ (fun s x => ?_) _ _)
    | (with_reducible refine (mask_foldl _ (fun s x => ?_) _ _).trans ?_)
    | (split <;> try (rename_i e; have e2 := congrArg Prod.snd e; dsimp only at e2; subst e2))
    | (simp (disch := decide) only [setTray_mask, State.commit_mask, State.storeRecord_mask, mask_ite, mask_ite_snd, ite_self])

end Sys2Proof.Machine
end

