-- ==== Sys2Proof/Laws/Frame/Recovery.lean ====
section
/-!
SUPPORT. Frames of Machine/Recovery.lean: the fields that each function may change, as a mask.
-/
namespace Sys2Proof.Machine

open Sys2Proof

set_option linter.unusedSimpArgs false

theorem State.modReset_mask (s : State) (r : StartReport) {m0 : Nat} (hw : 4503595332402942 &&& m0 = 4503595332402942) :
    (State.modReset s r).mask m0 = s.mask m0 := by
  refine mask_mono hw ?_
  unfold State.modReset
  repeat' first
    | with_reducible rfl
    | with_reducible refine mask_ite_eq ?_ ?_
    | with_reducible refine mask_ite_snd_eq ?_ ?_
    | (simp (disch := decide) only [State.modStart_mask, mask_ite, mask_ite_snd, ite_self]; done)
    | dsimp only
    | (with_reducible refine mask_foldl _ (fun s x => ?_) _ _)
    | (with_reducible refine mask_foldl_snd _ (fun s x => ?_) _ _)
    | (with_reducible refine (mask_foldl _ (fun s x => ?_) _ _).trans ?_)
    | (split <;> try (rename_i e; have e2 := congrArg Prod.snd e; dsimp only at e2; subst e2))
    | (simp (disch := decide) only [State.modStart_mask, mask_ite, mask_ite_snd, ite_self])

theorem State.warmReset_mask (s : State) (cause : Nat) (r : StartReport) {m0 : Nat} (hw : 4503595332399854 &&& m0 = 4503595332399854) :
    (State.warmReset s cause r).mask m0 = s.mask m0 := by
  refine mask_mono hw ?_
  unfold State.warmReset
  repeat' first
    | with_reducible rfl
    | with_reducible refine mask_ite_eq ?_ ?_
    | with_reducible refine mask_ite_snd_eq ?_ ?_
    | (simp (disch := decide) only [State.raiseEast_mask, State.warmStart_mask, mask_ite, mask_ite_snd, ite_self]; done)
    | dsimp only
    | (with_reducible refine mask_foldl _ (fun s x => ?_) _ _)
    | (with_reducible refine mask_foldl_snd _ (fun s x => ?_) _ _)
    | (with_reducible refine (mask_foldl _ (fun s x => ?_) _ _).trans ?_)
    | (split <;> try (rename_i e; have e2 := congrArg Prod.snd e; dsimp only at e2; subst e2))
    | (simp (disch := decide) only [State.raiseEast_mask, State.warmStart_mask, mask_ite, mask_ite_snd, ite_self])

theorem State.loadOverrun_mask (s : State) (r : StartReport) {m0 : Nat} (hw : 4503595332399854 &&& m0 = 4503595332399854) :
    (State.loadOverrun s r).mask m0 = s.mask m0 := by
  refine mask_mono hw ?_
  unfold State.loadOverrun
  repeat' first
    | with_reducible rfl
    | with_reducible refine mask_ite_eq ?_ ?_
    | with_reducible refine mask_ite_snd_eq ?_ ?_
    | (simp (disch := decide) only [setRst_mask, State.failProbation_mask, State.warmStart_mask, mask_ite, mask_ite_snd, ite_self]; done)
    | dsimp only
    | (with_reducible refine mask_foldl _ (fun s x => ?_) _ _)
    | (with_reducible refine mask_foldl_snd _ (fun s x => ?_) _ _)
    | (with_reducible refine (mask_foldl _ (fun s x => ?_) _ _).trans ?_)
    | (split <;> try (rename_i e; have e2 := congrArg Prod.snd e; dsimp only at e2; subst e2))
    | (simp (disch := decide) only [setRst_mask, State.failProbation_mask, State.warmStart_mask, mask_ite, mask_ite_snd, ite_self])

theorem State.returnToService_mask (s : State) (r : StartReport) {m0 : Nat} (hw : 4503595332402942 &&& m0 = 4503595332402942) :
    (State.returnToService s r).mask m0 = s.mask m0 := by
  refine mask_mono hw ?_
  unfold State.returnToService
  repeat' first
    | with_reducible rfl
    | with_reducible refine mask_ite_eq ?_ ?_
    | with_reducible refine mask_ite_snd_eq ?_ ?_
    | (simp (disch := decide) only [setRst_mask, State.commit_mask, State.modStart_mask, mask_ite, mask_ite_snd, ite_self]; done)
    | dsimp only
    | (with_reducible refine mask_foldl _ (fun s x => ?_) _ _)
    | (with_reducible refine mask_foldl_snd _ (fun s x => ?_) _ _)
    | (with_reducible refine (mask_foldl _ (fun s x => ?_) _ _).trans ?_)
    | (split <;> try (rename_i e; have e2 := congrArg Prod.snd e; dsimp only at e2; subst e2))
    | (simp (disch := decide) only [setRst_mask, State.commit_mask, State.modStart_mask, mask_ite, mask_ite_snd, ite_self])

theorem State.prepareOnce_mask (s : State) {m0 : Nat} (hw : 1798861408202758 &&& m0 = 1798861408202758) :
    (State.prepareOnce s).mask m0 = s.mask m0 := by
  refine mask_mono hw ?_
  unfold State.prepareOnce
  repeat' first
    | with_reducible rfl
    | with_reducible refine mask_ite_eq ?_ ?_
    | with_reducible refine mask_ite_snd_eq ?_ ?_
    | (simp (disch := decide) only [setRst_mask, State.prepare_mask, mask_ite, mask_ite_snd, ite_self]; done)
    | dsimp only
    | (with_reducible refine mask_foldl _ (fun s x => ?_) _ _)
    | (with_reducible refine mask_foldl_snd _ (fun s x => ?_) _ _)
    | (with_reducible refine (mask_foldl _ (fun s x => ?_) _ _).trans ?_)
    | (split <;> try (rename_i e; have e2 := congrArg Prod.snd e; dsimp only at e2; subst e2))
    | (simp (disch := decide) only [setRst_mask, State.prepare_mask, mask_ite, mask_ite_snd, ite_self])

theorem State.heartbeatCheck_mask (s : State) {m0 : Nat} (hw : 1798861408202758 &&& m0 = 1798861408202758) :
    (State.heartbeatCheck s).mask m0 = s.mask m0 := by
  refine mask_mono hw ?_
  unfold State.heartbeatCheck
  repeat' first
    | with_reducible rfl
    | with_reducible refine mask_ite_eq ?_ ?_
    | with_reducible refine mask_ite_snd_eq ?_ ?_
    | (simp (disch := decide) only [setRst_mask, State.orderWarm_mask, State.prepareOnce_mask, mask_ite, mask_ite_snd, ite_self]; done)
    | dsimp only
    | (with_reducible refine mask_foldl _ (fun s x => ?_) _ _)
    | (with_reducible refine mask_foldl_snd _ (fun s x => ?_) _ _)
    | (with_reducible refine (mask_foldl _ (fun s x => ?_) _ _).trans ?_)
    | (split <;> try (rename_i e; have e2 := congrArg Prod.snd e; dsimp only at e2; subst e2))
    | (simp (disch := decide) only [setRst_mask, State.orderWarm_mask, State.prepareOnce_mask, mask_ite, mask_ite_snd, ite_self])

theorem State.prepareTimeout_mask (s : State) (r : StartReport) {m0 : Nat} (hw : 4503595332399854 &&& m0 = 4503595332399854) :
    (State.prepareTimeout s r).mask m0 = s.mask m0 := by
  refine mask_mono hw ?_
  unfold State.prepareTimeout
  repeat' first
    | with_reducible rfl
    | with_reducible refine mask_ite_eq ?_ ?_
    | with_reducible refine mask_ite_snd_eq ?_ ?_
    | (simp (disch := decide) only [State.warmStart_mask, mask_ite, mask_ite_snd, ite_self]; done)
    | dsimp only
    | (with_reducible refine mask_foldl _ (fun s x => ?_) _ _)
    | (with_reducible refine mask_foldl_snd _ (fun s x => ?_) _ _)
    | (with_reducible refine (mask_foldl _ (fun s x => ?_) _ _).trans ?_)
    | (split <;> try (rename_i e; have e2 := congrArg Prod.snd e; dsimp only at e2; subst e2))
    | (simp (disch := decide) only [State.warmStart_mask, mask_ite, mask_ite_snd, ite_self])

theorem State.stageOpen_mask (s : State) {m0 : Nat} (hw : 1759218604441600 &&& m0 = 1759218604441600) :
    (State.stageOpen s).2.mask m0 = s.mask m0 := by
  refine mask_mono hw ?_
  unfold State.stageOpen
  repeat' first
    | with_reducible rfl
    | with_reducible refine mask_ite_eq ?_ ?_
    | with_reducible refine mask_ite_snd_eq ?_ ?_
    | (simp (disch := decide) only [setStore_mask, State.commit_mask, State.odSet_mask, mask_ite, mask_ite_snd, ite_self]; done)
    | dsimp only
    | (with_reducible refine mask_foldl _ (fun s x => ?_) _ _)
    | (with_reducible refine mask_foldl_snd _ (fun s x => ?_) _ _)
    | (with_reducible refine (mask_foldl _ (fun s x => ?_) _ _).trans ?_)
    | (split <;> try (rename_i e; have e2 := congrArg Prod.snd e; dsimp only at e2; subst e2))
    | (simp (disch := decide) only [setStore_mask, State.commit_mask, State.odSet_mask, mask_ite, mask_ite_snd, ite_self])

theorem State.stageEmpty_mask (s : State) {m0 : Nat} (hw : 1688849860263936 &&& m0 = 1688849860263936) :
    (State.stageEmpty s).mask m0 = s.mask m0 := by
  refine mask_mono hw ?_
  unfold State.stageEmpty
  repeat' first
    | with_reducible rfl
    | with_reducible refine mask_ite_eq ?_ ?_
    | with_reducible refine mask_ite_snd_eq ?_ ?_
    | (simp (disch := decide) only [setStore_mask, State.odSet_mask, mask_ite, mask_ite_snd, ite_self]; done)
    | dsimp only
    | (with_reducible refine mask_foldl _ (fun s x => ?_) _ _)
    | (with_reducible refine mask_foldl_snd _ (fun s x => ?_) _ _)
    | (with_reducible refine (mask_foldl _ (fun s x => ?_) _ _).trans ?_)
    | (split <;> try (rename_i e; have e2 := congrArg Prod.snd e; dsimp only at e2; subst e2))
    | (simp (disch := decide) only [setStore_mask, State.odSet_mask, mask_ite, mask_ite_snd, ite_self])

theorem State.stageDiscard_mask (s : State) {m0 : Nat} (hw : 1759218604441600 &&& m0 = 1759218604441600) :
    (State.stageDiscard s).mask m0 = s.mask m0 := by
  refine mask_mono hw ?_
  unfold State.stageDiscard
  repeat' first
    | with_reducible rfl
    | with_reducible refine mask_ite_eq ?_ ?_
    | with_reducible refine mask_ite_snd_eq ?_ ?_
    | (simp (disch := decide) only [State.imageResult_mask, State.odSet_mask, State.stageEmpty_mask, mask_ite, mask_ite_snd, ite_self]; done)
    | dsimp only
    | (with_reducible refine mask_foldl _ (fun s x => ?_) _ _)
    | (with_reducible refine mask_foldl_snd _ (fun s x => ?_) _ _)
    | (with_reducible refine (mask_foldl _ (fun s x => ?_) _ _).trans ?_)
    | (split <;> try (rename_i e; have e2 := congrArg Prod.snd e; dsimp only at e2; subst e2))
    | (simp (disch := decide) only [State.imageResult_mask, State.odSet_mask, State.stageEmpty_mask, mask_ite, mask_ite_snd, ite_self])

theorem State.chunkWrite_mask (s : State) (bs : List Byte) {m0 : Nat} (hw : 562949953421312 &&& m0 = 562949953421312) :
    (State.chunkWrite s bs).2.mask m0 = s.mask m0 := by
  refine mask_mono hw ?_
  unfold State.chunkWrite
  repeat' first
    | with_reducible rfl
    | with_reducible refine mask_ite_eq ?_ ?_
    | with_reducible refine mask_ite_snd_eq ?_ ?_
    | (simp (disch := decide) only [setStore_mask, mask_ite, mask_ite_snd, ite_self]; done)
    | dsimp only
    | (with_reducible refine mask_foldl _ (fun s x => ?_) _ _)
    | (with_reducible refine mask_foldl_snd _ (fun s x => ?_) _ _)
    | (with_reducible refine (mask_foldl _ (fun s x => ?_) _ _).trans ?_)
    | (split <;> try (rename_i e; have e2 := congrArg Prod.snd e; dsimp only at e2; subst e2))
    | (simp (disch := decide) only [setStore_mask, mask_ite, mask_ite_snd, ite_self])

theorem State.chunkDurable_mask (s : State) (i : Nat) {m0 : Nat} (hw : 1759252964179968 &&& m0 = 1759252964179968) :
    (State.chunkDurable s i).mask m0 = s.mask m0 := by
  refine mask_mono hw ?_
  unfold State.chunkDurable
  repeat' first
    | with_reducible rfl
    | with_reducible refine mask_ite_eq ?_ ?_
    | with_reducible refine mask_ite_snd_eq ?_ ?_
    | (simp (disch := decide) only [setStore_mask, State.commit_mask, State.odSet_mask, State.parkDraw_mask, mask_ite, mask_ite_snd, ite_self]; done)
    | dsimp only
    | (with_reducible refine mask_foldl _ (fun s x => ?_) _ _)
    | (with_reducible refine mask_foldl_snd _ (fun s x => ?_) _ _)
    | (with_reducible refine (mask_foldl _ (fun s x => ?_) _ _).trans ?_)
    | (split <;> try (rename_i e; have e2 := congrArg Prod.snd e; dsimp only at e2; subst e2))
    | (simp (disch := decide) only [setStore_mask, State.commit_mask, State.odSet_mask, State.parkDraw_mask, mask_ite, mask_ite_snd, ite_self])

theorem State.arm_mask (s : State) {m0 : Nat} (hw : 1759218604441600 &&& m0 = 1759218604441600) :
    (State.arm s).mask m0 = s.mask m0 := by
  refine mask_mono hw ?_
  unfold State.arm
  repeat' first
    | with_reducible rfl
    | with_reducible refine mask_ite_eq ?_ ?_
    | with_reducible refine mask_ite_snd_eq ?_ ?_
    | (simp (disch := decide) only [setStore_mask, State.commit_mask, State.odSet_mask, State.stageEmpty_mask, mask_ite, mask_ite_snd, ite_self]; done)
    | dsimp only
    | (with_reducible refine mask_foldl _ (fun s x => ?_) _ _)
    | (with_reducible refine mask_foldl_snd _ (fun s x => ?_) _ _)
    | (with_reducible refine (mask_foldl _ (fun s x => ?_) _ _).trans ?_)
    | (split <;> try (rename_i e; have e2 := congrArg Prod.snd e; dsimp only at e2; subst e2))
    | (simp (disch := decide) only [setStore_mask, State.commit_mask, State.odSet_mask, State.stageEmpty_mask, mask_ite, mask_ite_snd, ite_self])

theorem State.stageArm_mask (s : State) (r : StartReport) {m0 : Nat} (hw : 4503595332402942 &&& m0 = 4503595332402942) :
    (State.stageArm s r).2.mask m0 = s.mask m0 := by
  refine mask_mono hw ?_
  unfold State.stageArm
  repeat' first
    | with_reducible rfl
    | with_reducible refine mask_ite_eq ?_ ?_
    | with_reducible refine mask_ite_snd_eq ?_ ?_
    | (simp (disch := decide) only [State.arm_mask, State.modStart_mask, State.odSet_mask, mask_ite, mask_ite_snd, ite_self]; done)
    | dsimp only
    | (with_reducible refine mask_foldl _ (fun s x => ?_) _ _)
    | (with_reducible refine mask_foldl_snd _ (fun s x => ?_) _ _)
    | (with_reducible refine (mask_foldl _ (fun s x => ?_) _ _).trans ?_)
    | (split <;> try (rename_i e; have e2 := congrArg Prod.snd e; dsimp only at e2; subst e2))
    | (simp (disch := decide) only [State.arm_mask, State.modStart_mask, State.odSet_mask, mask_ite, mask_ite_snd, ite_self])

theorem State.usePrevious_mask (s : State) (r : StartReport) {m0 : Nat} (hw : 4503595332402942 &&& m0 = 4503595332402942) :
    (State.usePrevious s r).2.mask m0 = s.mask m0 := by
  refine mask_mono hw ?_
  unfold State.usePrevious
  repeat' first
    | with_reducible rfl
    | with_reducible refine mask_ite_eq ?_ ?_
    | with_reducible refine mask_ite_snd_eq ?_ ?_
    | (simp (disch := decide) only [setStore_mask, State.modStart_mask, State.odSet_mask, mask_ite, mask_ite_snd, ite_self]; done)
    | dsimp only
    | (with_reducible refine mask_foldl _ (fun s x => ?_) _ _)
    | (with_reducible refine mask_foldl_snd _ (fun s x => ?_) _ _)
    | (with_reducible refine (mask_foldl _ (fun s x => ?_) _ _).trans ?_)
    | (split <;> try (rename_i e; have e2 := congrArg Prod.snd e; dsimp only at e2; subst e2))
    | (simp (disch := decide) only [setStore_mask, State.modStart_mask, State.odSet_mask, mask_ite, mask_ite_snd, ite_self])

theorem State.trialTimeout_mask (s : State) {m0 : Nat} (hw : 2080284726808674 &&& m0 = 2080284726808674) :
    (State.trialTimeout s).mask m0 = s.mask m0 := by
  refine mask_mono hw ?_
  unfold State.trialTimeout
  repeat' first
    | with_reducible rfl
    | with_reducible refine mask_ite_eq ?_ ?_
    | with_reducible refine mask_ite_snd_eq ?_ ?_
    | (simp (disch := decide) only [State.failTrial_mask, State.toRecovery_mask, mask_ite, mask_ite_snd, ite_self]; done)
    | dsimp only
    | (with_reducible refine mask_foldl _ (fun s x => ?_) _ _)
    | (with_reducible refine mask_foldl_snd _ (fun s x => ?_) _ _)
    | (with_reducible refine (mask_foldl _ (fun s x => ?_) _ _).trans ?_)
    | (split <;> try (rename_i e; have e2 := congrArg Prod.snd e; dsimp only at e2; subst e2))
    | (simp (disch := decide) only [State.failTrial_mask, State.toRecovery_mask, mask_ite, mask_ite_snd, ite_self])

theorem State.probationEnd_mask (s : State) {m0 : Nat} (hw : 2221022215160802 &&& m0 = 2221022215160802) :
    (State.probationEnd s).mask m0 = s.mask m0 := by
  refine mask_mono hw ?_
  unfold State.probationEnd
  repeat' first
    | with_reducible rfl
    | with_reducible refine mask_ite_eq ?_ ?_
    | with_reducible refine mask_ite_snd_eq ?_ ?_
    | (simp (disch := decide) only [setSec_mask, setStore_mask, State.drainFor_mask, State.failProbation_mask, State.imageResult_mask, mask_ite, mask_ite_snd, ite_self]; done)
    | dsimp only
    | (with_reducible refine mask_foldl _ (fun s x => ?_) _ _)
    | (with_reducible refine mask_foldl_snd _ (fun s x => ?_) _ _)
    | (with_reducible refine (mask_foldl _ (fun s x => ?_) _ _).trans ?_)
    | (split <;> try (rename_i e; have e2 := congrArg Prod.snd e; dsimp only at e2; subst e2))
    | (simp (disch := decide) only [setSec_mask, setStore_mask, State.drainFor_mask, State.failProbation_mask, State.imageResult_mask, mask_ite, mask_ite_snd, ite_self])

end Sys2Proof.Machine
end

