-- ==== Sys2Proof/Laws/Frame/Pavane.lean ====
section
/-!
SUPPORT. Frames of Machine/Pavane.lean: the fields that each function may change, as a mask.
-/
namespace Sys2Proof.Machine

open Sys2Proof

set_option linter.unusedSimpArgs false

theorem State.ring_mask (s : State) (q word who : Nat) {m0 : Nat} (hw : 1798844109832262 &&& m0 = 1798844109832262) :
    (State.ring s q word who).mask m0 = s.mask m0 := by
  refine mask_mono hw ?_
  unfold State.ring
  repeat' first
    | with_reducible rfl
    | with_reducible refine mask_ite_eq ?_ ?_
    | with_reducible refine mask_ite_snd_eq ?_ ?_
    | (simp (disch := decide) only [State.active_mask, State.doorbell_mask, mask_ite, mask_ite_snd, ite_self]; done)
    | dsimp only
    | (with_reducible refine mask_foldl _ (fun s x => ?_) _ _)
    | (with_reducible refine mask_foldl_snd _ (fun s x => ?_) _ _)
    | (with_reducible refine (mask_foldl _ (fun s x => ?_) _ _).trans ?_)
    | (split <;> try (rename_i e; have e2 := congrArg Prod.snd e; dsimp only at e2; subst e2))
    | (simp (disch := decide) only [State.active_mask, State.doorbell_mask, mask_ite, mask_ite_snd, ite_self])

theorem State.testAfter_mask (s : State) (q : Nat) {m0 : Nat} (hw : 8192 &&& m0 = 8192) :
    (State.testAfter s q).mask m0 = s.mask m0 := by
  refine mask_mono hw ?_
  unfold State.testAfter
  repeat' first
    | with_reducible rfl
    | with_reducible refine mask_ite_eq ?_ ?_
    | with_reducible refine mask_ite_snd_eq ?_ ?_
    | (simp (disch := decide) only [State.testIfFree_mask, mask_ite, mask_ite_snd, ite_self]; done)
    | dsimp only
    | (with_reducible refine mask_foldl _ (fun s x => ?_) _ _)
    | (with_reducible refine mask_foldl_snd _ (fun s x => ?_) _ _)
    | (with_reducible refine (mask_foldl _ (fun s x => ?_) _ _).trans ?_)
    | (split <;> try (rename_i e; have e2 := congrArg Prod.snd e; dsimp only at e2; subst e2))
    | (simp (disch := decide) only [State.testIfFree_mask, mask_ite, mask_ite_snd, ite_self])

theorem State.waitTimeout_mask (s : State) (q : Nat) {m0 : Nat} (hw : 147456 &&& m0 = 147456) :
    (State.waitTimeout s q).mask m0 = s.mask m0 := by
  refine mask_mono hw ?_
  unfold State.waitTimeout
  repeat' first
    | with_reducible rfl
    | with_reducible refine mask_ite_eq ?_ ?_
    | with_reducible refine mask_ite_snd_eq ?_ ?_
    | (simp (disch := decide) only [setSemWait_mask, State.finish_mask, mask_ite, mask_ite_snd, ite_self]; done)
    | dsimp only
    | (with_reducible refine mask_foldl _ (fun s x => ?_) _ _)
    | (with_reducible refine mask_foldl_snd _ (fun s x => ?_) _ _)
    | (with_reducible refine (mask_foldl _ (fun s x => ?_) _ _).trans ?_)
    | (split <;> try (rename_i e; have e2 := congrArg Prod.snd e; dsimp only at e2; subst e2))
    | (simp (disch := decide) only [setSemWait_mask, State.finish_mask, mask_ite, mask_ite_snd, ite_self])

theorem State.creditTimeout_mask (s : State) (q : Nat) {m0 : Nat} (hw : 16384 &&& m0 = 16384) :
    (State.creditTimeout s q).mask m0 = s.mask m0 := by
  refine mask_mono hw ?_
  unfold State.creditTimeout
  repeat' first
    | with_reducible rfl
    | with_reducible refine mask_ite_eq ?_ ?_
    | with_reducible refine mask_ite_snd_eq ?_ ?_
    | (simp (disch := decide) only [State.finish_mask, mask_ite, mask_ite_snd, ite_self]; done)
    | dsimp only
    | (with_reducible refine mask_foldl _ (fun s x => ?_) _ _)
    | (with_reducible refine mask_foldl_snd _ (fun s x => ?_) _ _)
    | (with_reducible refine (mask_foldl _ (fun s x => ?_) _ _).trans ?_)
    | (split <;> try (rename_i e; have e2 := congrArg Prod.snd e; dsimp only at e2; subst e2))
    | (simp (disch := decide) only [State.finish_mask, mask_ite, mask_ite_snd, ite_self])

theorem State.dataTimeout_mask (s : State) (q : Nat) {m0 : Nat} (hw : 16384 &&& m0 = 16384) :
    (State.dataTimeout s q).mask m0 = s.mask m0 := by
  refine mask_mono hw ?_
  unfold State.dataTimeout
  repeat' first
    | with_reducible rfl
    | with_reducible refine mask_ite_eq ?_ ?_
    | with_reducible refine mask_ite_snd_eq ?_ ?_
    | (simp (disch := decide) only [State.finish_mask, mask_ite, mask_ite_snd, ite_self]; done)
    | dsimp only
    | (with_reducible refine mask_foldl _ (fun s x => ?_) _ _)
    | (with_reducible refine mask_foldl_snd _ (fun s x => ?_) _ _)
    | (with_reducible refine (mask_foldl _ (fun s x => ?_) _ _).trans ?_)
    | (split <;> try (rename_i e; have e2 := congrArg Prod.snd e; dsimp only at e2; subst e2))
    | (simp (disch := decide) only [State.finish_mask, mask_ite, mask_ite_snd, ite_self])

theorem State.backlogTimeout_mask (s : State) (q : Nat) {m0 : Nat} (hw : 1165491052494850 &&& m0 = 1165491052494850) :
    (State.backlogTimeout s q).mask m0 = s.mask m0 := by
  refine mask_mono hw ?_
  unfold State.backlogTimeout
  repeat' first
    | with_reducible rfl
    | with_reducible refine mask_ite_eq ?_ ?_
    | with_reducible refine mask_ite_snd_eq ?_ ?_
    | (simp (disch := decide) only [State.putQueue_mask, State.raisePart_mask, mask_ite, mask_ite_snd, ite_self]; done)
    | dsimp only
    | (with_reducible refine mask_foldl _ (fun s x => ?_) _ _)
    | (with_reducible refine mask_foldl_snd _ (fun s x => ?_) _ _)
    | (with_reducible refine (mask_foldl _ (fun s x => ?_) _ _).trans ?_)
    | (split <;> try (rename_i e; have e2 := congrArg Prod.snd e; dsimp only at e2; subst e2))
    | (simp (disch := decide) only [State.putQueue_mask, State.raisePart_mask, mask_ite, mask_ite_snd, ite_self])

end Sys2Proof.Machine
end

