-- ==== Sys2Proof/Laws/Frame/Operands.lean ====
section
/-!
SUPPORT. Frames of Machine/Operands.lean: the fields that each function may change, as a mask.
-/
namespace Sys2Proof.Machine

open Sys2Proof

set_option linter.unusedSimpArgs false

theorem State.freeSubset_mask {α : Type} (s : State) (xs : List α) {m0 : Nat} (hw : 2 &&& m0 = 2) :
    (State.freeSubset s xs).2.mask m0 = s.mask m0 := by
  refine mask_mono hw ?_
  clear hw
  induction xs generalizing s with
  | nil =>
    unfold State.freeSubset
    first | rfl | (split <;> rfl)
  | cons x xs ih =>
    unfold State.freeSubset
    repeat' first
      | with_reducible rfl
      | with_reducible refine mask_ite_eq ?_ ?_
      | with_reducible refine mask_ite_snd_eq ?_ ?_
      | (simp (disch := decide) only [State.drawBool_mask, mask_ite, mask_ite_snd, ite_self, ih]; done)
      | dsimp only
      | (with_reducible refine mask_foldl _ (fun s x => ?_) _ _)
      | (with_reducible refine mask_foldl_snd _ (fun s x => ?_) _ _)
      | (with_reducible refine (mask_foldl _ (fun s x => ?_) _ _).trans ?_)
      | (split <;> try (rename_i e; have e2 := congrArg Prod.snd e; dsimp only at e2; subst e2))
      | (simp (disch := decide) only [State.drawBool_mask, mask_ite, mask_ite_snd, ite_self, ih])

theorem State.countOps_mask (s : State) (n ops : Nat) {m0 : Nat} (hw : 1165491052494850 &&& m0 = 1165491052494850) :
    (State.countOps s n ops).mask m0 = s.mask m0 := by
  refine mask_mono hw ?_
  unfold State.countOps
  repeat' first
    | with_reducible rfl
    | with_reducible refine mask_ite_eq ?_ ?_
    | with_reducible refine mask_ite_snd_eq ?_ ?_
    | (simp (disch := decide) only [State.putCtr_mask, State.raise_mask, ctrBump_raise_mask, mask_ite, mask_ite_snd, ite_self]; done)
    | dsimp only
    | (with_reducible refine mask_foldl _ (fun s x => ?_) _ _)
    | (with_reducible refine mask_foldl_snd _ (fun s x => ?_) _ _)
    | (with_reducible refine (mask_foldl _ (fun s x => ?_) _ _).trans ?_)
    | (split <;> try (rename_i e; have e2 := congrArg Prod.snd e; dsimp only at e2; subst e2))
    | (simp (disch := decide) only [State.putCtr_mask, State.raise_mask, ctrBump_raise_mask, mask_ite, mask_ite_snd, ite_self])

theorem State.freeFlags_mask (s : State) {m0 : Nat} (hw : 2 &&& m0 = 2) :
    (State.freeFlags s).2.mask m0 = s.mask m0 := by
  refine mask_mono hw ?_
  unfold State.freeFlags
  repeat' first
    | with_reducible rfl
    | with_reducible refine mask_ite_eq ?_ ?_
    | with_reducible refine mask_ite_snd_eq ?_ ?_
    | (simp (disch := decide) only [State.drawNat_mask, mask_ite, mask_ite_snd, ite_self]; done)
    | dsimp only
    | (with_reducible refine mask_foldl _ (fun s x => ?_) _ _)
    | (with_reducible refine mask_foldl_snd _ (fun s x => ?_) _ _)
    | (with_reducible refine (mask_foldl _ (fun s x => ?_) _ _).trans ?_)
    | (split <;> try (rename_i e; have e2 := congrArg Prod.snd e; dsimp only at e2; subst e2))
    | (simp (disch := decide) only [State.drawNat_mask, mask_ite, mask_ite_snd, ite_self])

theorem State.settleExts_mask (s : State) (n : Nat) (xs : List Ext) {m0 : Nat} (hw : 3153920 &&& m0 = 3153920) :
    (State.settleExts s n xs).mask m0 = s.mask m0 := by
  refine mask_mono hw ?_
  unfold State.settleExts
  repeat' first
    | with_reducible rfl
    | with_reducible refine mask_ite_eq ?_ ?_
    | with_reducible refine mask_ite_snd_eq ?_ ?_
    | (simp (disch := decide) only [State.settleSpad_mask, mask_ite, mask_ite_snd, ite_self]; done)
    | dsimp only
    | (with_reducible refine mask_foldl _ (fun s x => ?_) _ _)
    | (with_reducible refine mask_foldl_snd _ (fun s x => ?_) _ _)
    | (with_reducible refine (mask_foldl _ (fun s x => ?_) _ _).trans ?_)
    | (split <;> try (rename_i e; have e2 := congrArg Prod.snd e; dsimp only at e2; subst e2))
    | (simp (disch := decide) only [State.settleSpad_mask, mask_ite, mask_ite_snd, ite_self])

theorem State.overwriteExts_mask (s : State) (n : Nat) (ws : List (Nat × List Byte)) {m0 : Nat} (hw : 3153920 &&& m0 = 3153920) :
    (State.overwriteExts s n ws).mask m0 = s.mask m0 := by
  refine mask_mono hw ?_
  unfold State.overwriteExts
  repeat' first
    | with_reducible rfl
    | with_reducible refine mask_ite_eq ?_ ?_
    | with_reducible refine mask_ite_snd_eq ?_ ?_
    | (simp (disch := decide) only [State.overwriteSpad_mask, mask_ite, mask_ite_snd, ite_self]; done)
    | dsimp only
    | (with_reducible refine mask_foldl _ (fun s x => ?_) _ _)
    | (with_reducible refine mask_foldl_snd _ (fun s x => ?_) _ _)
    | (with_reducible refine (mask_foldl _ (fun s x => ?_) _ _).trans ?_)
    | (split <;> try (rename_i e; have e2 := congrArg Prod.snd e; dsimp only at e2; subst e2))
    | (simp (disch := decide) only [State.overwriteSpad_mask, mask_ite, mask_ite_snd, ite_self])

theorem State.land_mask (s : State) (n : Nat) (bad : Bool) (ps : List Piece) (matrix : Bool) (held : Option Held) {m0 : Nat} (hw : 8593874944 &&& m0 = 8593874944) :
    (State.land s n bad ps matrix held).mask m0 = s.mask m0 := by
  refine mask_mono hw ?_
  unfold State.land
  repeat' first
    | with_reducible rfl
    | with_reducible refine mask_ite_eq ?_ ?_
    | with_reducible refine mask_ite_snd_eq ?_ ?_
    | (simp (disch := decide) only [State.overwriteExts_mask, State.putCore_mask, State.writePieces_mask, mask_ite, mask_ite_snd, ite_self]; done)
    | dsimp only
    | (with_reducible refine mask_foldl _ (fun s x => ?_) _ _)
    | (with_reducible refine mask_foldl_snd _ (fun s x => ?_) _ _)
    | (with_reducible refine (mask_foldl _ (fun s x => ?_) _ _).trans ?_)
    | (split <;> try (rename_i e; have e2 := congrArg Prod.snd e; dsimp only at e2; subst e2))
    | (simp (disch := decide) only [State.overwriteExts_mask, State.putCore_mask, State.writePieces_mask, mask_ite, mask_ite_snd, ite_self])

theorem State.countRun_mask (s : State) (n ops skipped taps : Nat) {m0 : Nat} (hw : 1165491052494850 &&& m0 = 1165491052494850) :
    (State.countRun s n ops skipped taps).mask m0 = s.mask m0 := by
  refine mask_mono hw ?_
  unfold State.countRun
  repeat' first
    | with_reducible rfl
    | with_reducible refine mask_ite_eq ?_ ?_
    | with_reducible refine mask_ite_snd_eq ?_ ?_
    | (simp (disch := decide) only [State.bumpCore_mask, State.countOps_mask, State.odInc_mask, mask_ite, mask_ite_snd, ite_self]; done)
    | dsimp only
    | (with_reducible refine mask_foldl _ (fun s x => ?_) _ _)
    | (with_reducible refine mask_foldl_snd _ (fun s x => ?_) _ _)
    | (with_reducible refine (mask_foldl _ (fun s x => ?_) _ _).trans ?_)
    | (split <;> try (rename_i e; have e2 := congrArg Prod.snd e; dsimp only at e2; subst e2))
    | (simp (disch := decide) only [State.bumpCore_mask, State.countOps_mask, State.odInc_mask, mask_ite, mask_ite_snd, ite_self])

theorem State.countPart_mask (s : State) (n : Nat) (r : Run) (ps : List Piece) {m0 : Nat} (hw : 1165491052494850 &&& m0 = 1165491052494850) :
    (State.countPart s n r ps).mask m0 = s.mask m0 := by
  refine mask_mono hw ?_
  unfold State.countPart
  repeat' first
    | with_reducible rfl
    | with_reducible refine mask_ite_eq ?_ ?_
    | with_reducible refine mask_ite_snd_eq ?_ ?_
    | (simp (disch := decide) only [State.countRun_mask, State.drawIn_mask, mask_ite, mask_ite_snd, ite_self]; done)
    | dsimp only
    | (with_reducible refine mask_foldl _ (fun s x => ?_) _ _)
    | (with_reducible refine mask_foldl_snd _ (fun s x => ?_) _ _)
    | (with_reducible refine (mask_foldl _ (fun s x => ?_) _ _).trans ?_)
    | (split <;> try (rename_i e; have e2 := congrArg Prod.snd e; dsimp only at e2; subst e2))
    | (simp (disch := decide) only [State.countRun_mask, State.drawIn_mask, mask_ite, mask_ite_snd, ite_self])

theorem State.finishRun_mask (s : State) (q n : Nat) (r : Run) {m0 : Nat} (hw : 1165491053551618 &&& m0 = 1165491053551618) :
    (State.finishRun s q n r).mask m0 = s.mask m0 := by
  refine mask_mono hw ?_
  unfold State.finishRun
  repeat' first
    | with_reducible rfl
    | with_reducible refine mask_ite_eq ?_ ?_
    | with_reducible refine mask_ite_snd_eq ?_ ?_
    | (simp (disch := decide) only [State.countPart_mask, State.countRun_mask, State.finish_mask, State.freeFlags_mask, State.freeSubset_mask, State.land_mask, mask_ite, mask_ite_snd, ite_self]; done)
    | dsimp only
    | (with_reducible refine mask_foldl _ (fun s x => ?_) _ _)
    | (with_reducible refine mask_foldl_snd _ (fun s x => ?_) _ _)
    | (with_reducible refine (mask_foldl _ (fun s x => ?_) _ _).trans ?_)
    | (split <;> try (rename_i e; have e2 := congrArg Prod.snd e; dsimp only at e2; subst e2))
    | (simp (disch := decide) only [State.countPart_mask, State.countRun_mask, State.finish_mask, State.freeFlags_mask, State.freeSubset_mask, State.land_mask, mask_ite, mask_ite_snd, ite_self])

theorem State.stopRun_mask (s : State) (q n : Nat) (hit : Nat → Bool) (r : Run) {m0 : Nat} (hw : 1165491053551618 &&& m0 = 1165491053551618) :
    (State.stopRun s q n hit r).mask m0 = s.mask m0 := by
  refine mask_mono hw ?_
  unfold State.stopRun
  repeat' first
    | with_reducible rfl
    | with_reducible refine mask_ite_eq ?_ ?_
    | with_reducible refine mask_ite_snd_eq ?_ ?_
    | (simp (disch := decide) only [State.countPart_mask, State.finish_mask, State.freeFlags_mask, State.freeSubset_mask, State.land_mask, mask_ite, mask_ite_snd, ite_self]; done)
    | dsimp only
    | (with_reducible refine mask_foldl _ (fun s x => ?_) _ _)
    | (with_reducible refine mask_foldl_snd _ (fun s x => ?_) _ _)
    | (with_reducible refine (mask_foldl _ (fun s x => ?_) _ _).trans ?_)
    | (split <;> try (rename_i e; have e2 := congrArg Prod.snd e; dsimp only at e2; subst e2))
    | (simp (disch := decide) only [State.countPart_mask, State.finish_mask, State.freeFlags_mask, State.freeSubset_mask, State.land_mask, mask_ite, mask_ite_snd, ite_self])

end Sys2Proof.Machine
end

