-- ==== Sys2Proof/Laws/Frame/Matrix.lean ====
section
/-!
SUPPORT. Frames of Machine/Matrix.lean: the fields that each function may change, as a mask.
-/
namespace Sys2Proof.Machine

open Sys2Proof

set_option linter.unusedSimpArgs false

theorem State.mismatch_mask (s : State) (q n d : Nat) (r : Run) (hit : Nat → Bool) (injected : Bool) (column residue tileRow tileCol kchunk : Nat) (temp : Int) {m0 : Nat} (hw : 1798844111085574 &&& m0 = 1798844111085574) :
    (State.mismatch s q n d r hit injected column residue tileRow tileCol kchunk temp).mask m0 = s.mask m0 := by
  refine mask_mono hw ?_
  unfold State.mismatch
  repeat' first
    | with_reducible rfl
    | with_reducible refine mask_ite_eq ?_ ?_
    | with_reducible refine mask_ite_snd_eq ?_ ?_
    | (simp (disch := decide) only [State.residueDetected_mask, State.stopRun_mask, mask_ite, mask_ite_snd, ite_self]; done)
    | dsimp only
    | (with_reducible refine mask_foldl _ (fun s x => ?_) _ _)
    | (with_reducible refine mask_foldl_snd _ (fun s x => ?_) _ _)
    | (with_reducible refine (mask_foldl _ (fun s x => ?_) _ _).trans ?_)
    | (split <;> try (rename_i e; have e2 := congrArg Prod.snd e; dsimp only at e2; subst e2))
    | (simp (disch := decide) only [State.residueDetected_mask, State.stopRun_mask, mask_ite, mask_ite_snd, ite_self])

theorem State.injected_mask (s : State) (q n d column : Nat) (r : Run) (m cols k chunk : Nat) {m0 : Nat} (hw : 1798844111085574 &&& m0 = 1798844111085574) :
    (State.injected s q n d column r m cols k chunk).mask m0 = s.mask m0 := by
  refine mask_mono hw ?_
  unfold State.injected
  repeat' first
    | with_reducible rfl
    | with_reducible refine mask_ite_eq ?_ ?_
    | with_reducible refine mask_ite_snd_eq ?_ ?_
    | (simp (disch := decide) only [State.drawNat_mask, State.mismatch_mask, mask_ite, mask_ite_snd, ite_self]; done)
    | dsimp only
    | (with_reducible refine mask_foldl _ (fun s x => ?_) _ _)
    | (with_reducible refine mask_foldl_snd _ (fun s x => ?_) _ _)
    | (with_reducible refine (mask_foldl _ (fun s x => ?_) _ _).trans ?_)
    | (split <;> try (rename_i e; have e2 := congrArg Prod.snd e; dsimp only at e2; subst e2))
    | (simp (disch := decide) only [State.drawNat_mask, State.mismatch_mask, mask_ite, mask_ite_snd, ite_self])

theorem State.matmul_mask (s : State) (q n d : Nat) {m0 : Nat} (hw : 1798844111085574 &&& m0 = 1798844111085574) :
    (State.matmul s q n d).mask m0 = s.mask m0 := by
  refine mask_mono hw ?_
  unfold State.matmul
  repeat' first
    | with_reducible rfl
    | with_reducible refine mask_ite_eq ?_ ?_
    | with_reducible refine mask_ite_snd_eq ?_ ?_
    | (simp (disch := decide) only [State.done_mask, State.finishRun_mask, State.injected_mask, State.settleExts_mask, mask_ite, mask_ite_snd, ite_self]; done)
    | dsimp only
    | (with_reducible refine mask_foldl _ (fun s x => ?_) _ _)
    | (with_reducible refine mask_foldl_snd _ (fun s x => ?_) _ _)
    | (with_reducible refine (mask_foldl _ (fun s x => ?_) _ _).trans ?_)
    | (split <;> try (rename_i e; have e2 := congrArg Prod.snd e; dsimp only at e2; subst e2))
    | (simp (disch := decide) only [State.done_mask, State.finishRun_mask, State.injected_mask, State.settleExts_mask, mask_ite, mask_ite_snd, ite_self])

end Sys2Proof.Machine
end

