-- ==== Sys2Proof/Laws/Frame/Vector.lean ====
section
/-!
SUPPORT. Frames of Machine/Vector.lean: the fields that each function may change, as a mask.
-/
namespace Sys2Proof.Machine

open Sys2Proof

set_option linter.unusedSimpArgs false

theorem State.vecop_mask (s : State) (q n d : Nat) {m0 : Nat} (hw : 1165491053551618 &&& m0 = 1165491053551618) :
    (State.vecop s q n d).mask m0 = s.mask m0 := by
  refine mask_mono hw ?_
  unfold State.vecop
  repeat' first
    | with_reducible rfl
    | with_reducible refine mask_ite_eq ?_ ?_
    | with_reducible refine mask_ite_snd_eq ?_ ?_
    | (simp (disch := decide) only [State.done_mask, State.finishRun_mask, State.settleExts_mask, mask_ite, mask_ite_snd, ite_self]; done)
    | dsimp only
    | (with_reducible refine mask_foldl _ (fun s x => ?_) _ _)
    | (with_reducible refine mask_foldl_snd _ (fun s x => ?_) _ _)
    | (with_reducible refine (mask_foldl _ (fun s x => ?_) _ _).trans ?_)
    | (split <;> try (rename_i e; have e2 := congrArg Prod.snd e; dsimp only at e2; subst e2))
    | (simp (disch := decide) only [State.done_mask, State.finishRun_mask, State.settleExts_mask, mask_ite, mask_ite_snd, ite_self])

end Sys2Proof.Machine
end

