-- ==== Sys2Proof/Laws/Frame/Copy.lean ====
section
/-!
SUPPORT. Frames of Machine/Copy.lean: the fields that each function may change, as a mask.
-/
namespace Sys2Proof.Machine

open Sys2Proof

set_option linter.unusedSimpArgs false

theorem State.partsOk_mask (s : State) (die p space : Nat) (write : Bool) (xs : List (Nat × Nat)) {m0 : Nat} (hw : 1165491052494850 &&& m0 = 1165491052494850) :
    (State.partsOk s die p space write xs).2.mask m0 = s.mask m0 := by
  refine mask_mono hw ?_
  clear hw
  induction xs generalizing s with
  | nil =>
    unfold State.partsOk
    first | rfl | (split <;> rfl)
  | cons x xs ih =>
    unfold State.partsOk
    repeat' first
      | with_reducible rfl
      | with_reducible refine mask_ite_eq ?_ ?_
      | with_reducible refine mask_ite_snd_eq ?_ ?_
      | (simp (disch := decide) only [State.pcheck_mask, mask_ite, mask_ite_snd, ite_self, ih]; done)
      | dsimp only
      | (with_reducible refine mask_foldl _ (fun s x => ?_) _ _)
      | (with_reducible refine mask_foldl_snd _ (fun s x => ?_) _ _)
      | (with_reducible refine (mask_foldl _ (fun s x => ?_) _ _).trans ?_)
      | (split <;> try (rename_i e; have e2 := congrArg Prod.snd e; dsimp only at e2; subst e2))
      | (simp (disch := decide) only [State.pcheck_mask, mask_ite, mask_ite_snd, ite_self, ih])

theorem State.cpSpaces_mask (s : State) (die p d : Nat) {m0 : Nat} (hw : 1165491052494850 &&& m0 = 1165491052494850) :
    (State.cpSpaces s die p d).2.mask m0 = s.mask m0 := by
  refine mask_mono hw ?_
  unfold State.cpSpaces
  repeat' first
    | with_reducible rfl
    | with_reducible refine mask_ite_eq ?_ ?_
    | with_reducible refine mask_ite_snd_eq ?_ ?_
    | (simp (disch := decide) only [State.partsOk_mask, mask_ite, mask_ite_snd, ite_self]; done)
    | dsimp only
    | (with_reducible refine mask_foldl _ (fun s x => ?_) _ _)
    | (with_reducible refine mask_foldl_snd _ (fun s x => ?_) _ _)
    | (with_reducible refine (mask_foldl _ (fun s x => ?_) _ _).trans ?_)
    | (split <;> try (rename_i e; have e2 := congrArg Prod.snd e; dsimp only at e2; subst e2))
    | (simp (disch := decide) only [State.partsOk_mask, mask_ite, mask_ite_snd, ite_self])

theorem State.getParts_mask (s : State) (n p space : Nat) (xs : List (Nat × Nat)) {m0 : Nat} (hw : 1798844110888962 &&& m0 = 1798844110888962) :
    (State.getParts s n p space xs).2.mask m0 = s.mask m0 := by
  refine mask_mono hw ?_
  clear hw
  induction xs generalizing s with
  | nil =>
    unfold State.getParts
    first | rfl | (split <;> rfl)
  | cons x xs ih =>
    unfold State.getParts
    repeat' first
      | with_reducible rfl
      | with_reducible refine mask_ite_eq ?_ ?_
      | with_reducible refine mask_ite_snd_eq ?_ ?_
      | (simp (disch := decide) only [State.bumpDie_mask, State.mread_mask, State.settleExts_mask, mask_ite, mask_ite_snd, ite_self, ih]; done)
      | dsimp only
      | (with_reducible refine mask_foldl _ (fun s x => ?_) _ _)
      | (with_reducible refine mask_foldl_snd _ (fun s x => ?_) _ _)
      | (with_reducible refine (mask_foldl _ (fun s x => ?_) _ _).trans ?_)
      | (split <;> try (rename_i e; have e2 := congrArg Prod.snd e; dsimp only at e2; subst e2))
      | (simp (disch := decide) only [State.bumpDie_mask, State.mread_mask, State.settleExts_mask, mask_ite, mask_ite_snd, ite_self, ih])

theorem State.putParts_mask (s : State) (n p space : Nat) (xs : List (Nat × Nat)) (bs : List (Byte × Bool)) {m0 : Nat} (hw : 1165493201035266 &&& m0 = 1165493201035266) :
    (State.putParts s n p space xs bs).2.mask m0 = s.mask m0 := by
  refine mask_mono hw ?_
  clear hw
  induction xs generalizing s bs with
  | nil =>
    unfold State.putParts
    first | rfl | (split <;> rfl)
  | cons x xs ih =>
    unfold State.putParts
    repeat' first
      | with_reducible rfl
      | with_reducible refine mask_ite_eq ?_ ?_
      | with_reducible refine mask_ite_snd_eq ?_ ?_
      | (simp (disch := decide) only [setShared_mask, State.overwriteExts_mask, State.pwrite_mask, State.updCore_mask, mask_ite, mask_ite_snd, ite_self, ih]; done)
      | dsimp only
      | (with_reducible refine mask_foldl _ (fun s x => ?_) _ _)
      | (with_reducible refine mask_foldl_snd _ (fun s x => ?_) _ _)
      | (with_reducible refine (mask_foldl _ (fun s x => ?_) _ _).trans ?_)
      | (split <;> try (rename_i e; have e2 := congrArg Prod.snd e; dsimp only at e2; subst e2))
      | (simp (disch := decide) only [setShared_mask, State.overwriteExts_mask, State.pwrite_mask, State.updCore_mask, mask_ite, mask_ite_snd, ite_self, ih])

theorem State.cpGet_mask (s : State) (n p d off len : Nat) {m0 : Nat} (hw : 1798844110888962 &&& m0 = 1798844110888962) :
    (State.cpGet s n p d off len).2.mask m0 = s.mask m0 := by
  refine mask_mono hw ?_
  unfold State.cpGet
  repeat' first
    | with_reducible rfl
    | with_reducible refine mask_ite_eq ?_ ?_
    | with_reducible refine mask_ite_snd_eq ?_ ?_
    | (simp (disch := decide) only [State.getParts_mask, mask_ite, mask_ite_snd, ite_self]; done)
    | dsimp only
    | (with_reducible refine mask_foldl _ (fun s x => ?_) _ _)
    | (with_reducible refine mask_foldl_snd _ (fun s x => ?_) _ _)
    | (with_reducible refine (mask_foldl _ (fun s x => ?_) _ _).trans ?_)
    | (split <;> try (rename_i e; have e2 := congrArg Prod.snd e; dsimp only at e2; subst e2))
    | (simp (disch := decide) only [State.getParts_mask, mask_ite, mask_ite_snd, ite_self])

theorem State.cpPut_mask (s : State) (n p d off : Nat) (bs : List (Byte × Bool)) {m0 : Nat} (hw : 1165493201035266 &&& m0 = 1165493201035266) :
    (State.cpPut s n p d off bs).2.mask m0 = s.mask m0 := by
  refine mask_mono hw ?_
  unfold State.cpPut
  repeat' first
    | with_reducible rfl
    | with_reducible refine mask_ite_eq ?_ ?_
    | with_reducible refine mask_ite_snd_eq ?_ ?_
    | (simp (disch := decide) only [State.putParts_mask, mask_ite, mask_ite_snd, ite_self]; done)
    | dsimp only
    | (with_reducible refine mask_foldl _ (fun s x => ?_) _ _)
    | (with_reducible refine mask_foldl_snd _ (fun s x => ?_) _ _)
    | (with_reducible refine (mask_foldl _ (fun s x => ?_) _ _).trans ?_)
    | (split <;> try (rename_i e; have e2 := congrArg Prod.snd e; dsimp only at e2; subst e2))
    | (simp (disch := decide) only [State.putParts_mask, mask_ite, mask_ite_snd, ite_self])

theorem State.cpCount_mask (s : State) (n bytes : Nat) (reads writes : Bool) {m0 : Nat} (hw : 1165491052494850 &&& m0 = 1165491052494850) :
    (State.cpCount s n bytes reads writes).mask m0 = s.mask m0 := by
  refine mask_mono hw ?_
  unfold State.cpCount
  repeat' first
    | with_reducible rfl
    | with_reducible refine mask_ite_eq ?_ ?_
    | with_reducible refine mask_ite_snd_eq ?_ ?_
    | (simp (disch := decide) only [State.bumpCore_mask, mask_ite, mask_ite_snd, ite_self]; done)
    | dsimp only
    | (with_reducible refine mask_foldl _ (fun s x => ?_) _ _)
    | (with_reducible refine mask_foldl_snd _ (fun s x => ?_) _ _)
    | (with_reducible refine (mask_foldl _ (fun s x => ?_) _ _).trans ?_)
    | (split <;> try (rename_i e; have e2 := congrArg Prod.snd e; dsimp only at e2; subst e2))
    | (simp (disch := decide) only [State.bumpCore_mask, mask_ite, mask_ite_snd, ite_self])

theorem State.updJob_mask (s : State) (q : Nat) (ph : JobPhase) (f : Job → Job) {m0 : Nat} (hw : 16384 &&& m0 = 16384) :
    (State.updJob s q ph f).mask m0 = s.mask m0 := by
  refine mask_mono hw ?_
  unfold State.updJob
  repeat' first
    | with_reducible rfl
    | with_reducible refine mask_ite_eq ?_ ?_
    | with_reducible refine mask_ite_snd_eq ?_ ?_
    | (simp (disch := decide) only [State.updQueue_mask, mask_ite, mask_ite_snd, ite_self]; done)
    | dsimp only
    | (with_reducible refine mask_foldl _ (fun s x => ?_) _ _)
    | (with_reducible refine mask_foldl_snd _ (fun s x => ?_) _ _)
    | (with_reducible refine (mask_foldl _ (fun s x => ?_) _ _).trans ?_)
    | (split <;> try (rename_i e; have e2 := congrArg Prod.snd e; dsimp only at e2; subst e2))
    | (simp (disch := decide) only [State.updQueue_mask, mask_ite, mask_ite_snd, ite_self])

theorem State.slotIn_mask (s : State) (n p d i : Nat) {m0 : Nat} (hw : 1798844110888962 &&& m0 = 1798844110888962) :
    (State.slotIn s n p d i).2.mask m0 = s.mask m0 := by
  refine mask_mono hw ?_
  unfold State.slotIn
  repeat' first
    | with_reducible rfl
    | with_reducible refine mask_ite_eq ?_ ?_
    | with_reducible refine mask_ite_snd_eq ?_ ?_
    | (simp (disch := decide) only [State.cpGet_mask, State.creditWriteBack_mask, State.pwrite_mask, State.updQueue_mask, mask_ite, mask_ite_snd, ite_self]; done)
    | dsimp only
    | (with_reducible refine mask_foldl _ (fun s x => ?_) _ _)
    | (with_reducible refine mask_foldl_snd _ (fun s x => ?_) _ _)
    | (with_reducible refine (mask_foldl _ (fun s x => ?_) _ _).trans ?_)
    | (split <;> try (rename_i e; have e2 := congrArg Prod.snd e; dsimp only at e2; subst e2))
    | (simp (disch := decide) only [State.cpGet_mask, State.creditWriteBack_mask, State.pwrite_mask, State.updQueue_mask, mask_ite, mask_ite_snd, ite_self])

theorem State.slotOut_mask (s : State) (n p d i : Nat) {m0 : Nat} (hw : 1798846258372610 &&& m0 = 1798846258372610) :
    (State.slotOut s n p d i).2.mask m0 = s.mask m0 := by
  refine mask_mono hw ?_
  unfold State.slotOut
  repeat' first
    | with_reducible rfl
    | with_reducible refine mask_ite_eq ?_ ?_
    | with_reducible refine mask_ite_snd_eq ?_ ?_
    | (simp (disch := decide) only [State.cpPut_mask, State.creditWriteBack_mask, State.mread_mask, State.updQueue_mask, mask_ite, mask_ite_snd, ite_self]; done)
    | dsimp only
    | (with_reducible refine mask_foldl _ (fun s x => ?_) _ _)
    | (with_reducible refine mask_foldl_snd _ (fun s x => ?_) _ _)
    | (with_reducible refine (mask_foldl _ (fun s x => ?_) _ _).trans ?_)
    | (split <;> try (rename_i e; have e2 := congrArg Prod.snd e; dsimp only at e2; subst e2))
    | (simp (disch := decide) only [State.cpPut_mask, State.creditWriteBack_mask, State.mread_mask, State.updQueue_mask, mask_ite, mask_ite_snd, ite_self])

theorem State.moveSlot_mask (s : State) (n p d i : Nat) {m0 : Nat} (hw : 1798846258372610 &&& m0 = 1798846258372610) :
    (State.moveSlot s n p d i).2.mask m0 = s.mask m0 := by
  refine mask_mono hw ?_
  unfold State.moveSlot
  repeat' first
    | with_reducible rfl
    | with_reducible refine mask_ite_eq ?_ ?_
    | with_reducible refine mask_ite_snd_eq ?_ ?_
    | (simp (disch := decide) only [State.slotIn_mask, State.slotOut_mask, mask_ite, mask_ite_snd, ite_self]; done)
    | dsimp only
    | (with_reducible refine mask_foldl _ (fun s x => ?_) _ _)
    | (with_reducible refine mask_foldl_snd _ (fun s x => ?_) _ _)
    | (with_reducible refine (mask_foldl _ (fun s x => ?_) _ _).trans ?_)
    | (split <;> try (rename_i e; have e2 := congrArg Prod.snd e; dsimp only at e2; subst e2))
    | (simp (disch := decide) only [State.slotIn_mask, State.slotOut_mask, mask_ite, mask_ite_snd, ite_self])

theorem State.moveSlots_mask (n p d : Nat) (k : Nat) (s : State) (i : Nat) {m0 : Nat} (hw : 1798846258372610 &&& m0 = 1798846258372610) :
    (State.moveSlots n p d k s i).2.2.mask m0 = s.mask m0 := by
  refine mask_mono hw ?_
  clear hw
  induction k generalizing s i with
  | zero =>
    unfold State.moveSlots
    rfl
  | succ m ih =>
    unfold State.moveSlots
    repeat' first
      | with_reducible rfl
      | with_reducible refine mask_ite_eq ?_ ?_
      | with_reducible refine mask_ite_snd_eq ?_ ?_
      | (simp (disch := decide) only [State.moveSlot_mask, mask_ite, mask_ite_snd, ite_self, ih]; done)
      | dsimp only
      | (with_reducible refine mask_foldl _ (fun s x => ?_) _ _)
      | (with_reducible refine mask_foldl_snd _ (fun s x => ?_) _ _)
      | (with_reducible refine (mask_foldl _ (fun s x => ?_) _ _).trans ?_)
      | (split <;> try (rename_i e; have e2 := congrArg Prod.snd e; dsimp only at e2; subst e2))
      | (simp (disch := decide) only [State.moveSlot_mask, mask_ite, mask_ite_snd, ite_self, ih])

theorem State.streamEnd_mask (s : State) (q n d : Nat) (ph : JobPhase) (j : Job) (i : Nat) (m : Moved) {m0 : Nat} (hw : 1165491052494850 &&& m0 = 1165491052494850) :
    (State.streamEnd s q n d ph j i m).mask m0 = s.mask m0 := by
  refine mask_mono hw ?_
  unfold State.streamEnd
  repeat' first
    | with_reducible rfl
    | with_reducible refine mask_ite_eq ?_ ?_
    | with_reducible refine mask_ite_snd_eq ?_ ?_
    | (simp (disch := decide) only [State.cpCount_mask, State.finish_mask, State.updJob_mask, mask_ite, mask_ite_snd, ite_self]; done)
    | dsimp only
    | (with_reducible refine mask_foldl _ (fun s x => ?_) _ _)
    | (with_reducible refine mask_foldl_snd _ (fun s x => ?_) _ _)
    | (with_reducible refine (mask_foldl _ (fun s x => ?_) _ _).trans ?_)
    | (split <;> try (rename_i e; have e2 := congrArg Prod.snd e; dsimp only at e2; subst e2))
    | (simp (disch := decide) only [State.cpCount_mask, State.finish_mask, State.updJob_mask, mask_ite, mask_ite_snd, ite_self])

theorem State.stream_mask (s : State) (q n d : Nat) (ph : JobPhase) {m0 : Nat} (hw : 1798846258372610 &&& m0 = 1798846258372610) :
    (State.stream s q n d ph).mask m0 = s.mask m0 := by
  refine mask_mono hw ?_
  unfold State.stream
  repeat' first
    | with_reducible rfl
    | with_reducible refine mask_ite_eq ?_ ?_
    | with_reducible refine mask_ite_snd_eq ?_ ?_
    | (simp (disch := decide) only [State.moveSlots_mask, State.streamEnd_mask, mask_ite, mask_ite_snd, ite_self]; done)
    | dsimp only
    | (with_reducible refine mask_foldl _ (fun s x => ?_) _ _)
    | (with_reducible refine mask_foldl_snd _ (fun s x => ?_) _ _)
    | (with_reducible refine (mask_foldl _ (fun s x => ?_) _ _).trans ?_)
    | (split <;> try (rename_i e; have e2 := congrArg Prod.snd e; dsimp only at e2; subst e2))
    | (simp (disch := decide) only [State.moveSlots_mask, State.streamEnd_mask, mask_ite, mask_ite_snd, ite_self])

theorem State.copyBlock_mask (s : State) (q n p d : Nat) {m0 : Nat} (hw : 1798846258372610 &&& m0 = 1798846258372610) :
    (State.copyBlock s q n p d).mask m0 = s.mask m0 := by
  refine mask_mono hw ?_
  unfold State.copyBlock
  repeat' first
    | with_reducible rfl
    | with_reducible refine mask_ite_eq ?_ ?_
    | with_reducible refine mask_ite_snd_eq ?_ ?_
    | (simp (disch := decide) only [State.cpCount_mask, State.cpGet_mask, State.cpPut_mask, State.done_mask, mask_ite, mask_ite_snd, ite_self]; done)
    | dsimp only
    | (with_reducible refine mask_foldl _ (fun s x => ?_) _ _)
    | (with_reducible refine mask_foldl_snd _ (fun s x => ?_) _ _)
    | (with_reducible refine (mask_foldl _ (fun s x => ?_) _ _).trans ?_)
    | (split <;> try (rename_i e; have e2 := congrArg Prod.snd e; dsimp only at e2; subst e2))
    | (simp (disch := decide) only [State.cpCount_mask, State.cpGet_mask, State.cpPut_mask, State.done_mask, mask_ite, mask_ite_snd, ite_self])

theorem State.copy_mask (s : State) (q n d : Nat) {m0 : Nat} (hw : 1798846258372610 &&& m0 = 1798846258372610) :
    (State.copy s q n d).mask m0 = s.mask m0 := by
  refine mask_mono hw ?_
  unfold State.copy
  repeat' first
    | with_reducible rfl
    | with_reducible refine mask_ite_eq ?_ ?_
    | with_reducible refine mask_ite_snd_eq ?_ ?_
    | (simp (disch := decide) only [State.copyBlock_mask, State.cpSpaces_mask, State.done_mask, State.stream_mask, mask_ite, mask_ite_snd, ite_self]; done)
    | dsimp only
    | (with_reducible refine mask_foldl _ (fun s x => ?_) _ _)
    | (with_reducible refine mask_foldl_snd _ (fun s x => ?_) _ _)
    | (with_reducible refine (mask_foldl _ (fun s x => ?_) _ _).trans ?_)
    | (split <;> try (rename_i e; have e2 := congrArg Prod.snd e; dsimp only at e2; subst e2))
    | (simp (disch := decide) only [State.copyBlock_mask, State.cpSpaces_mask, State.done_mask, State.stream_mask, mask_ite, mask_ite_snd, ite_self])

theorem State.copyCommand_mask (s : State) (q : Nat) {m0 : Nat} (hw : 1798846258372610 &&& m0 = 1798846258372610) :
    (State.copyCommand s q).mask m0 = s.mask m0 := by
  refine mask_mono hw ?_
  unfold State.copyCommand
  repeat' first
    | with_reducible rfl
    | with_reducible refine mask_ite_eq ?_ ?_
    | with_reducible refine mask_ite_snd_eq ?_ ?_
    | (simp (disch := decide) only [State.copy_mask, State.done_mask, mask_ite, mask_ite_snd, ite_self]; done)
    | dsimp only
    | (with_reducible refine mask_foldl _ (fun s x => ?_) _ _)
    | (with_reducible refine mask_foldl_snd _ (fun s x => ?_) _ _)
    | (with_reducible refine (mask_foldl _ (fun s x => ?_) _ _).trans ?_)
    | (split <;> try (rename_i e; have e2 := congrArg Prod.snd e; dsimp only at e2; subst e2))
    | (simp (disch := decide) only [State.copy_mask, State.done_mask, mask_ite, mask_ite_snd, ite_self])

theorem State.streamOn_mask (s : State) (q dq : Nat) (ph : JobPhase) (named : Nat → Nat) {m0 : Nat} (hw : 1798846258372610 &&& m0 = 1798846258372610) :
    (State.streamOn s q dq ph named).mask m0 = s.mask m0 := by
  refine mask_mono hw ?_
  unfold State.streamOn
  repeat' first
    | with_reducible rfl
    | with_reducible refine mask_ite_eq ?_ ?_
    | with_reducible refine mask_ite_snd_eq ?_ ?_
    | (simp (disch := decide) only [State.stream_mask, mask_ite, mask_ite_snd, ite_self]; done)
    | dsimp only
    | (with_reducible refine mask_foldl _ (fun s x => ?_) _ _)
    | (with_reducible refine mask_foldl_snd _ (fun s x => ?_) _ _)
    | (with_reducible refine (mask_foldl _ (fun s x => ?_) _ _).trans ?_)
    | (split <;> try (rename_i e; have e2 := congrArg Prod.snd e; dsimp only at e2; subst e2))
    | (simp (disch := decide) only [State.stream_mask, mask_ite, mask_ite_snd, ite_self])

end Sys2Proof.Machine
end

