-- ==== Sys2Proof/Laws/Frame/Conv.lean ====
section
/-!
SUPPORT. Frames of Machine/Conv.lean: the fields that each function may change, as a mask.
-/
namespace Sys2Proof.Machine

open Sys2Proof

set_option linter.unusedSimpArgs false

theorem State.vectorPath_mask (s : State) (q n : Nat) (r : Run) {m0 : Nat} (hw : 1165491053551618 &&& m0 = 1165491053551618) :
    (State.vectorPath s q n r).mask m0 = s.mask m0 := by
  refine mask_mono hw ?_
  unfold State.vectorPath
  repeat' first
    | with_reducible rfl
    | with_reducible refine mask_ite_eq ?_ ?_
    | with_reducible refine mask_ite_snd_eq ?_ ?_
    | (simp (disch := decide) only [State.finishRun_mask, State.odInc_mask, mask_ite, mask_ite_snd, ite_self]; done)
    | dsimp only
    | (with_reducible refine mask_foldl _ (fun s x => ?_) _ _)
    | (with_reducible refine mask_foldl_snd _ (fun s x => ?_) _ _)
    | (with_reducible refine (mask_foldl _ (fun s x => ?_) _ _).trans ?_)
    | (split <;> try (rename_i e; have e2 := congrArg Prod.snd e; dsimp only at e2; subst e2))
    | (simp (disch := decide) only [State.finishRun_mask, State.odInc_mask, mask_ite, mask_ite_snd, ite_self])

theorem State.conv_mask (s : State) (q n d : Nat) {m0 : Nat} (hw : 1165491053551618 &&& m0 = 1165491053551618) :
    (State.conv s q n d).mask m0 = s.mask m0 := by
  refine mask_mono hw ?_
  unfold State.conv
  repeat' first
    | with_reducible rfl
    | with_reducible refine mask_ite_eq ?_ ?_
    | with_reducible refine mask_ite_snd_eq ?_ ?_
    | (simp (disch := decide) only [State.done_mask, State.drawNat_mask, State.finishRun_mask, State.settleExts_mask, State.vectorPath_mask, mask_ite, mask_ite_snd, ite_self]; done)
    | dsimp only
    | (with_reducible refine mask_foldl _ (fun s x => ?_) _ _)
    | (with_reducible refine mask_foldl_snd _ (fun s x => ?_) _ _)
    | (with_reducible refine (mask_foldl _ (fun s x => ?_) _ _).trans ?_)
    | (split <;> try (rename_i e; have e2 := congrArg Prod.snd e; dsimp only at e2; subst e2))
    | (simp (disch := decide) only [State.done_mask, State.drawNat_mask, State.finishRun_mask, State.settleExts_mask, State.vectorPath_mask, mask_ite, mask_ite_snd, ite_self])

theorem State.window_mask (s : State) (q n d : Nat) {m0 : Nat} (hw : 1165491053551618 &&& m0 = 1165491053551618) :
    (State.window s q n d).mask m0 = s.mask m0 := by
  refine mask_mono hw ?_
  unfold State.window
  repeat' first
    | with_reducible rfl
    | with_reducible refine mask_ite_eq ?_ ?_
    | with_reducible refine mask_ite_snd_eq ?_ ?_
    | (simp (disch := decide) only [State.done_mask, State.drawNat_mask, State.settleExts_mask, State.vectorPath_mask, mask_ite, mask_ite_snd, ite_self]; done)
    | dsimp only
    | (with_reducible refine mask_foldl _ (fun s x => ?_) _ _)
    | (with_reducible refine mask_foldl_snd _ (fun s x => ?_) _ _)
    | (with_reducible refine (mask_foldl _ (fun s x => ?_) _ _).trans ?_)
    | (split <;> try (rename_i e; have e2 := congrArg Prod.snd e; dsimp only at e2; subst e2))
    | (simp (disch := decide) only [State.done_mask, State.drawNat_mask, State.settleExts_mask, State.vectorPath_mask, mask_ite, mask_ite_snd, ite_self])

end Sys2Proof.Machine
end

