-- ==== Sys2Proof/Laws/Frame/Attn.lean ====
section
/-!
SUPPORT. Frames of Machine/Attn.lean: the fields that each function may change, as a mask.
-/
namespace Sys2Proof.Machine

open Sys2Proof

set_option linter.unusedSimpArgs false

theorem State.kvCache_mask (s : State) (key e : Nat) {m0 : Nat} (hw : 536870914 &&& m0 = 536870914) :
    (State.kvCache s key e).mask m0 = s.mask m0 := by
  refine mask_mono hw ?_
  unfold State.kvCache
  repeat' first
    | with_reducible rfl
    | with_reducible refine mask_ite_eq ?_ ?_
    | with_reducible refine mask_ite_snd_eq ?_ ?_
    | (simp (disch := decide) only [setKvTlb_mask, State.drawNat_mask, mask_ite, mask_ite_snd, ite_self]; done)
    | dsimp only
    | (with_reducible refine mask_foldl _ (fun s x => ?_) _ _)
    | (with_reducible refine mask_foldl_snd _ (fun s x => ?_) _ _)
    | (with_reducible refine (mask_foldl _ (fun s x => ?_) _ _).trans ?_)
    | (split <;> try (rename_i e; have e2 := congrArg Prod.snd e; dsimp only at e2; subst e2))
    | (simp (disch := decide) only [setKvTlb_mask, State.drawNat_mask, mask_ite, mask_ite_snd, ite_self])

theorem State.kvXlate_mask (s : State) (n p key : Nat) {m0 : Nat} (hw : 1165491589365762 &&& m0 = 1165491589365762) :
    (State.kvXlate s n p key).2.mask m0 = s.mask m0 := by
  refine mask_mono hw ?_
  unfold State.kvXlate
  repeat' first
    | with_reducible rfl
    | with_reducible refine mask_ite_eq ?_ ?_
    | with_reducible refine mask_ite_snd_eq ?_ ?_
    | (simp (disch := decide) only [State.bumpCore_mask, State.bumpDie_mask, State.drawBool_mask, State.kvCache_mask, State.odInc_mask, mask_ite, mask_ite_snd, ite_self]; done)
    | dsimp only
    | (with_reducible refine mask_foldl _ (fun s x => ?_) _ _)
    | (with_reducible refine mask_foldl_snd _ (fun s x => ?_) _ _)
    | (with_reducible refine (mask_foldl _ (fun s x => ?_) _ _).trans ?_)
    | (split <;> try (rename_i e; have e2 := congrArg Prod.snd e; dsimp only at e2; subst e2))
    | (simp (disch := decide) only [State.bumpCore_mask, State.bumpDie_mask, State.drawBool_mask, State.kvCache_mask, State.odInc_mask, mask_ite, mask_ite_snd, ite_self])

theorem State.kvUpdate_mask (s : State) (key : Nat) (f : Nat → Nat) {m0 : Nat} (hw : 805306368 &&& m0 = 805306368) :
    (State.kvUpdate s key f).mask m0 = s.mask m0 := by
  refine mask_mono hw ?_
  unfold State.kvUpdate
  repeat' first
    | with_reducible rfl
    | with_reducible refine mask_ite_eq ?_ ?_
    | with_reducible refine mask_ite_snd_eq ?_ ?_
    | (simp (disch := decide) only [setKvMaps_mask, setKvTlb_mask, mask_ite, mask_ite_snd, ite_self]; done)
    | dsimp only
    | (with_reducible refine mask_foldl _ (fun s x => ?_) _ _)
    | (with_reducible refine mask_foldl_snd _ (fun s x => ?_) _ _)
    | (with_reducible refine (mask_foldl _ (fun s x => ?_) _ _).trans ?_)
    | (split <;> try (rename_i e; have e2 := congrArg Prod.snd e; dsimp only at e2; subst e2))
    | (simp (disch := decide) only [setKvMaps_mask, setKvTlb_mask, mask_ite, mask_ite_snd, ite_self])

theorem State.walkList_mask (s : State) (n p d : Nat) (xs : List Nat) (i : Nat) (f : Option Nat) {m0 : Nat} (hw : 1165491589365762 &&& m0 = 1165491589365762) :
    (State.walkList s n p d xs i f).2.mask m0 = s.mask m0 := by
  refine mask_mono hw ?_
  clear hw
  induction xs generalizing s i f with
  | nil =>
    unfold State.walkList
    first | rfl | (split <;> rfl)
  | cons x xs ih =>
    unfold State.walkList
    repeat' first
      | with_reducible rfl
      | with_reducible refine mask_ite_eq ?_ ?_
      | with_reducible refine mask_ite_snd_eq ?_ ?_
      | (simp (disch := decide) only [State.kvXlate_mask, mask_ite, mask_ite_snd, ite_self, ih]; done)
      | dsimp only
      | (with_reducible refine mask_foldl _ (fun s x => ?_) _ _)
      | (with_reducible refine mask_foldl_snd _ (fun s x => ?_) _ _)
      | (with_reducible refine (mask_foldl _ (fun s x => ?_) _ _).trans ?_)
      | (split <;> try (rename_i e; have e2 := congrArg Prod.snd e; dsimp only at e2; subst e2))
      | (simp (disch := decide) only [State.kvXlate_mask, mask_ite, mask_ite_snd, ite_self, ih])

theorem State.walkRing_mask (s : State) (n p d size np : Nat) (handles : List Nat) (xs : List Nat) {m0 : Nat} (hw : 1165491589365762 &&& m0 = 1165491589365762) :
    (State.walkRing s n p d size np handles xs).2.mask m0 = s.mask m0 := by
  refine mask_mono hw ?_
  clear hw
  induction xs generalizing s with
  | nil =>
    unfold State.walkRing
    first | rfl | (split <;> rfl)
  | cons x xs ih =>
    unfold State.walkRing
    repeat' first
      | with_reducible rfl
      | with_reducible refine mask_ite_eq ?_ ?_
      | with_reducible refine mask_ite_snd_eq ?_ ?_
      | (simp (disch := decide) only [State.kvXlate_mask, mask_ite, mask_ite_snd, ite_self, ih]; done)
      | dsimp only
      | (with_reducible refine mask_foldl _ (fun s x => ?_) _ _)
      | (with_reducible refine mask_foldl_snd _ (fun s x => ?_) _ _)
      | (with_reducible refine (mask_foldl _ (fun s x => ?_) _ _).trans ?_)
      | (split <;> try (rename_i e; have e2 := congrArg Prod.snd e; dsimp only at e2; subst e2))
      | (simp (disch := decide) only [State.kvXlate_mask, mask_ite, mask_ite_snd, ite_self, ih])

theorem State.walk_mask (s : State) (n p d : Nat) (handles : List Nat) {m0 : Nat} (hw : 1165491589365762 &&& m0 = 1165491589365762) :
    (State.walk s n p d handles).2.mask m0 = s.mask m0 := by
  refine mask_mono hw ?_
  unfold State.walk
  repeat' first
    | with_reducible rfl
    | with_reducible refine mask_ite_eq ?_ ?_
    | with_reducible refine mask_ite_snd_eq ?_ ?_
    | (simp (disch := decide) only [State.kvXlate_mask, State.walkList_mask, State.walkRing_mask, mask_ite, mask_ite_snd, ite_self]; done)
    | dsimp only
    | (with_reducible refine mask_foldl _ (fun s x => ?_) _ _)
    | (with_reducible refine mask_foldl_snd _ (fun s x => ?_) _ _)
    | (with_reducible refine (mask_foldl _ (fun s x => ?_) _ _).trans ?_)
    | (split <;> try (rename_i e; have e2 := congrArg Prod.snd e; dsimp only at e2; subst e2))
    | (simp (disch := decide) only [State.kvXlate_mask, State.walkList_mask, State.walkRing_mask, mask_ite, mask_ite_snd, ite_self])

theorem State.lend_mask (s : State) (q n mask : Nat) {m0 : Nat} (hw : 16384 &&& m0 = 16384) :
    (State.lend s q n mask).2.mask m0 = s.mask m0 := by
  refine mask_mono hw ?_
  unfold State.lend
  repeat' first
    | with_reducible rfl
    | with_reducible refine mask_ite_eq ?_ ?_
    | with_reducible refine mask_ite_snd_eq ?_ ?_
    | (simp (disch := decide) only [State.putQueue_mask, mask_ite, mask_ite_snd, ite_self]; done)
    | dsimp only
    | (with_reducible refine mask_foldl _ (fun s x => ?_) _ _)
    | (with_reducible refine mask_foldl_snd _ (fun s x => ?_) _ _)
    | (with_reducible refine (mask_foldl _ (fun s x => ?_) _ _).trans ?_)
    | (split <;> try (rename_i e; have e2 := congrArg Prod.snd e; dsimp only at e2; subst e2))
    | (simp (disch := decide) only [State.putQueue_mask, mask_ite, mask_ite_snd, ite_self])

theorem State.unlend_mask (s : State) (q : Nat) {m0 : Nat} (hw : 1446966029205570 &&& m0 = 1446966029205570) :
    (State.unlend s q).mask m0 = s.mask m0 := by
  refine mask_mono hw ?_
  unfold State.unlend
  repeat' first
    | with_reducible rfl
    | with_reducible refine mask_ite_eq ?_ ?_
    | with_reducible refine mask_ite_snd_eq ?_ ?_
    | (simp (disch := decide) only [setQueues_mask, State.handHeld_mask, mask_ite, mask_ite_snd, ite_self]; done)
    | dsimp only
    | (with_reducible refine mask_foldl _ (fun s x => ?_) _ _)
    | (with_reducible refine mask_foldl_snd _ (fun s x => ?_) _ _)
    | (with_reducible refine (mask_foldl _ (fun s x => ?_) _ _).trans ?_)
    | (split <;> try (rename_i e; have e2 := congrArg Prod.snd e; dsimp only at e2; subst e2))
    | (simp (disch := decide) only [setQueues_mask, State.handHeld_mask, mask_ite, mask_ite_snd, ite_self])

theorem State.kvReach_mask (s : State) (n p d : Nat) (xs : List KvPage) {m0 : Nat} (hw : 1165491052494850 &&& m0 = 1165491052494850) :
    (State.kvReach s n p d xs).2.mask m0 = s.mask m0 := by
  refine mask_mono hw ?_
  clear hw
  induction xs generalizing s with
  | nil =>
    unfold State.kvReach
    first | rfl | (split <;> rfl)
  | cons x xs ih =>
    unfold State.kvReach
    repeat' first
      | with_reducible rfl
      | with_reducible refine mask_ite_eq ?_ ?_
      | with_reducible refine mask_ite_snd_eq ?_ ?_
      | (simp (disch := decide) only [State.partsOk_mask, mask_ite, mask_ite_snd, ite_self, ih]; done)
      | dsimp only
      | (with_reducible refine mask_foldl _ (fun s x => ?_) _ _)
      | (with_reducible refine mask_foldl_snd _ (fun s x => ?_) _ _)
      | (with_reducible refine (mask_foldl _ (fun s x => ?_) _ _).trans ?_)
      | (split <;> try (rename_i e; have e2 := congrArg Prod.snd e; dsimp only at e2; subst e2))
      | (simp (disch := decide) only [State.partsOk_mask, mask_ite, mask_ite_snd, ite_self, ih])

theorem State.appendRows_mask (s : State) (n p d : Nat) (src : Nat → List (Byte × Bool) × List (Byte × Bool)) (xs : List KvPage) {m0 : Nat} (hw : 1165493201035266 &&& m0 = 1165493201035266) :
    (State.appendRows s n p d src xs).mask m0 = s.mask m0 := by
  refine mask_mono hw ?_
  clear hw
  induction xs generalizing s with
  | nil =>
    unfold State.appendRows
    first | rfl | (split <;> rfl)
  | cons x xs ih =>
    unfold State.appendRows
    repeat' first
      | with_reducible rfl
      | with_reducible refine mask_ite_eq ?_ ?_
      | with_reducible refine mask_ite_snd_eq ?_ ?_
      | (simp (disch := decide) only [State.cpCount_mask, State.putParts_mask, mask_ite, mask_ite_snd, ite_self, ih]; done)
      | dsimp only
      | (with_reducible refine mask_foldl _ (fun s x => ?_) _ _)
      | (with_reducible refine mask_foldl_snd _ (fun s x => ?_) _ _)
      | (with_reducible refine (mask_foldl _ (fun s x => ?_) _ _).trans ?_)
      | (split <;> try (rename_i e; have e2 := congrArg Prod.snd e; dsimp only at e2; subst e2))
      | (simp (disch := decide) only [State.cpCount_mask, State.putParts_mask, mask_ite, mask_ite_snd, ite_self, ih])

theorem State.readRows_mask (s : State) (n p d : Nat) (xs : List KvPage) {m0 : Nat} (hw : 1798844110888962 &&& m0 = 1798844110888962) :
    (State.readRows s n p d xs).2.mask m0 = s.mask m0 := by
  refine mask_mono hw ?_
  clear hw
  induction xs generalizing s with
  | nil =>
    unfold State.readRows
    first | rfl | (split <;> rfl)
  | cons x xs ih =>
    unfold State.readRows
    repeat' first
      | with_reducible rfl
      | with_reducible refine mask_ite_eq ?_ ?_
      | with_reducible refine mask_ite_snd_eq ?_ ?_
      | (simp (disch := decide) only [State.cpCount_mask, State.getParts_mask, mask_ite, mask_ite_snd, ite_self, ih]; done)
      | dsimp only
      | (with_reducible refine mask_foldl _ (fun s x => ?_) _ _)
      | (with_reducible refine mask_foldl_snd _ (fun s x => ?_) _ _)
      | (with_reducible refine (mask_foldl _ (fun s x => ?_) _ _).trans ?_)
      | (split <;> try (rename_i e; have e2 := congrArg Prod.snd e; dsimp only at e2; subst e2))
      | (simp (disch := decide) only [State.cpCount_mask, State.getParts_mask, mask_ite, mask_ite_snd, ite_self, ih])

theorem State.atFail_mask (s : State) (q code detail : Nat) {m0 : Nat} (hw : 1446966029205570 &&& m0 = 1446966029205570) :
    (State.atFail s q code detail).mask m0 = s.mask m0 := by
  refine mask_mono hw ?_
  unfold State.atFail
  repeat' first
    | with_reducible rfl
    | with_reducible refine mask_ite_eq ?_ ?_
    | with_reducible refine mask_ite_snd_eq ?_ ?_
    | (simp (disch := decide) only [State.finish_mask, State.unlend_mask, mask_ite, mask_ite_snd, ite_self]; done)
    | dsimp only
    | (with_reducible refine mask_foldl _ (fun s x => ?_) _ _)
    | (with_reducible refine mask_foldl_snd _ (fun s x => ?_) _ _)
    | (with_reducible refine (mask_foldl _ (fun s x => ?_) _ _).trans ?_)
    | (split <;> try (rename_i e; have e2 := congrArg Prod.snd e; dsimp only at e2; subst e2))
    | (simp (disch := decide) only [State.finish_mask, State.unlend_mask, mask_ite, mask_ite_snd, ite_self])

theorem State.raiseKv_mask (s : State) (q n p : Nat) (x : KvPage) {m0 : Nat} (hw : 1165491052494850 &&& m0 = 1165491052494850) :
    (State.raiseKv s q n p x).mask m0 = s.mask m0 := by
  refine mask_mono hw ?_
  unfold State.raiseKv
  repeat' first
    | with_reducible rfl
    | with_reducible refine mask_ite_eq ?_ ?_
    | with_reducible refine mask_ite_snd_eq ?_ ?_
    | (simp (disch := decide) only [State.odInc_mask, State.raisePart_mask, State.updJob_mask, mask_ite, mask_ite_snd, ite_self]; done)
    | dsimp only
    | (with_reducible refine mask_foldl _ (fun s x => ?_) _ _)
    | (with_reducible refine mask_foldl_snd _ (fun s x => ?_) _ _)
    | (with_reducible refine (mask_foldl _ (fun s x => ?_) _ _).trans ?_)
    | (split <;> try (rename_i e; have e2 := congrArg Prod.snd e; dsimp only at e2; subst e2))
    | (simp (disch := decide) only [State.odInc_mask, State.raisePart_mask, State.updJob_mask, mask_ite, mask_ite_snd, ite_self])

theorem State.usePages_mask (s : State) (d : Nat) (ok : Bool) (xs : List KvPage) {m0 : Nat} (hw : 805306368 &&& m0 = 805306368) :
    (State.usePages s d ok xs).mask m0 = s.mask m0 := by
  refine mask_mono hw ?_
  clear hw
  induction xs generalizing s with
  | nil =>
    unfold State.usePages
    first | rfl | (split <;> rfl)
  | cons x xs ih =>
    unfold State.usePages
    repeat' first
      | with_reducible rfl
      | with_reducible refine mask_ite_eq ?_ ?_
      | with_reducible refine mask_ite_snd_eq ?_ ?_
      | (simp (disch := decide) only [State.kvUpdate_mask, mask_ite, mask_ite_snd, ite_self, ih]; done)
      | dsimp only
      | (with_reducible refine mask_foldl _ (fun s x => ?_) _ _)
      | (with_reducible refine mask_foldl_snd _ (fun s x => ?_) _ _)
      | (with_reducible refine (mask_foldl _ (fun s x => ?_) _ _).trans ?_)
      | (split <;> try (rename_i e; have e2 := congrArg Prod.snd e; dsimp only at e2; subst e2))
      | (simp (disch := decide) only [State.kvUpdate_mask, mask_ite, mask_ite_snd, ite_self, ih])

theorem State.stage_mask (s : State) (n d : Nat) {m0 : Nat} (hw : 3153922 &&& m0 = 3153922) :
    (State.stage s n d).mask m0 = s.mask m0 := by
  refine mask_mono hw ?_
  unfold State.stage
  repeat' first
    | with_reducible rfl
    | with_reducible refine mask_ite_eq ?_ ?_
    | with_reducible refine mask_ite_snd_eq ?_ ?_
    | (simp (disch := decide) only [State.drawNat_mask, State.overwriteExts_mask, State.updCore_mask, mask_ite, mask_ite_snd, ite_self]; done)
    | dsimp only
    | (with_reducible refine mask_foldl _ (fun s x => ?_) _ _)
    | (with_reducible refine mask_foldl_snd _ (fun s x => ?_) _ _)
    | (with_reducible refine (mask_foldl _ (fun s x => ?_) _ _).trans ?_)
    | (split <;> try (rename_i e; have e2 := congrArg Prod.snd e; dsimp only at e2; subst e2))
    | (simp (disch := decide) only [State.drawNat_mask, State.overwriteExts_mask, State.updCore_mask, mask_ite, mask_ite_snd, ite_self])

theorem State.atLoad_mask (s : State) (q n d : Nat) (pages : List KvPage) {m0 : Nat} (hw : 1798846258372610 &&& m0 = 1798846258372610) :
    (State.atLoad s q n d pages).2.mask m0 = s.mask m0 := by
  refine mask_mono hw ?_
  unfold State.atLoad
  repeat' first
    | with_reducible rfl
    | with_reducible refine mask_ite_eq ?_ ?_
    | with_reducible refine mask_ite_snd_eq ?_ ?_
    | (simp (disch := decide) only [State.appendRows_mask, State.readRows_mask, State.settleExts_mask, mask_ite, mask_ite_snd, ite_self]; done)
    | dsimp only
    | (with_reducible refine mask_foldl _ (fun s x => ?_) _ _)
    | (with_reducible refine mask_foldl_snd _ (fun s x => ?_) _ _)
    | (with_reducible refine (mask_foldl _ (fun s x => ?_) _ _).trans ?_)
    | (split <;> try (rename_i e; have e2 := congrArg Prod.snd e; dsimp only at e2; subst e2))
    | (simp (disch := decide) only [State.appendRows_mask, State.readRows_mask, State.settleExts_mask, mask_ite, mask_ite_snd, ite_self])

theorem State.atCompute_mask (s : State) (q n d : Nat) (x : List KvRow × Bool) {m0 : Nat} (hw : 3153922 &&& m0 = 3153922) :
    (State.atCompute s q n d x).2.mask m0 = s.mask m0 := by
  refine mask_mono hw ?_
  unfold State.atCompute
  repeat' first
    | with_reducible rfl
    | with_reducible refine mask_ite_eq ?_ ?_
    | with_reducible refine mask_ite_snd_eq ?_ ?_
    | (simp (disch := decide) only [State.stage_mask, mask_ite, mask_ite_snd, ite_self]; done)
    | dsimp only
    | (with_reducible refine mask_foldl _ (fun s x => ?_) _ _)
    | (with_reducible refine mask_foldl_snd _ (fun s x => ?_) _ _)
    | (with_reducible refine (mask_foldl _ (fun s x => ?_) _ _).trans ?_)
    | (split <;> try (rename_i e; have e2 := congrArg Prod.snd e; dsimp only at e2; subst e2))
    | (simp (disch := decide) only [State.stage_mask, mask_ite, mask_ite_snd, ite_self])

theorem State.spoilNew_mask (s : State) (q n d : Nat) (pages : List KvPage) {m0 : Nat} (hw : 1165493201035266 &&& m0 = 1165493201035266) :
    (State.spoilNew s q n d pages).mask m0 = s.mask m0 := by
  refine mask_mono hw ?_
  unfold State.spoilNew
  repeat' first
    | with_reducible rfl
    | with_reducible refine mask_ite_eq ?_ ?_
    | with_reducible refine mask_ite_snd_eq ?_ ?_
    | (simp (disch := decide) only [State.appendRows_mask, State.drawNat_mask, mask_ite, mask_ite_snd, ite_self]; done)
    | dsimp only
    | (with_reducible refine mask_foldl _ (fun s x => ?_) _ _)
    | (with_reducible refine mask_foldl_snd _ (fun s x => ?_) _ _)
    | (with_reducible refine (mask_foldl _ (fun s x => ?_) _ _).trans ?_)
    | (split <;> try (rename_i e; have e2 := congrArg Prod.snd e; dsimp only at e2; subst e2))
    | (simp (disch := decide) only [State.appendRows_mask, State.drawNat_mask, mask_ite, mask_ite_snd, ite_self])

theorem State.atReady_mask (s : State) (q n d since : Nat) {m0 : Nat} (hw : 1446966567133250 &&& m0 = 1446966567133250) :
    (State.atReady s q n d since).2.mask m0 = s.mask m0 := by
  refine mask_mono hw ?_
  unfold State.atReady
  repeat' first
    | with_reducible rfl
    | with_reducible refine mask_ite_eq ?_ ?_
    | with_reducible refine mask_ite_snd_eq ?_ ?_
    | (simp (disch := decide) only [State.atFail_mask, State.drawNat_mask, State.kvReach_mask, State.lend_mask, State.raiseKv_mask, State.settleExts_mask, State.updJob_mask, State.walk_mask, mask_ite, mask_ite_snd, ite_self]; done)
    | dsimp only
    | (with_reducible refine mask_foldl _ (fun s x => ?_) _ _)
    | (with_reducible refine mask_foldl_snd _ (fun s x => ?_) _ _)
    | (with_reducible refine (mask_foldl _ (fun s x => ?_) _ _).trans ?_)
    | (split <;> try (rename_i e; have e2 := congrArg Prod.snd e; dsimp only at e2; subst e2))
    | (simp (disch := decide) only [State.atFail_mask, State.drawNat_mask, State.kvReach_mask, State.lend_mask, State.raiseKv_mask, State.settleExts_mask, State.updJob_mask, State.walk_mask, mask_ite, mask_ite_snd, ite_self])

theorem State.attn_mask (s : State) (since q n d : Nat) {m0 : Nat} (hw : 2080322040389698 &&& m0 = 2080322040389698) :
    (State.attn s since q n d).mask m0 = s.mask m0 := by
  refine mask_mono hw ?_
  unfold State.attn
  repeat' first
    | with_reducible rfl
    | with_reducible refine mask_ite_eq ?_ ?_
    | with_reducible refine mask_ite_snd_eq ?_ ?_
    | (simp (disch := decide) only [State.atCompute_mask, State.atLoad_mask, State.atReady_mask, State.done_mask, State.finishRun_mask, State.settleExts_mask, State.spoilNew_mask, State.unlend_mask, State.usePages_mask, mask_ite, mask_ite_snd, ite_self]; done)
    | dsimp only
    | (with_reducible refine mask_foldl _ (fun s x => ?_) _ _)
    | (with_reducible refine mask_foldl_snd _ (fun s x => ?_) _ _)
    | (with_reducible refine (mask_foldl _ (fun s x => ?_) _ _).trans ?_)
    | (split <;> try (rename_i e; have e2 := congrArg Prod.snd e; dsimp only at e2; subst e2))
    | (simp (disch := decide) only [State.atCompute_mask, State.atLoad_mask, State.atReady_mask, State.done_mask, State.finishRun_mask, State.settleExts_mask, State.spoilNew_mask, State.unlend_mask, State.usePages_mask, mask_ite, mask_ite_snd, ite_self])

theorem State.attnAgain_mask (s : State) (q : Nat) {m0 : Nat} (hw : 2080322040389698 &&& m0 = 2080322040389698) :
    (State.attnAgain s q).mask m0 = s.mask m0 := by
  refine mask_mono hw ?_
  unfold State.attnAgain
  repeat' first
    | with_reducible rfl
    | with_reducible refine mask_ite_eq ?_ ?_
    | with_reducible refine mask_ite_snd_eq ?_ ?_
    | (simp (disch := decide) only [State.attn_mask, State.updJob_mask, mask_ite, mask_ite_snd, ite_self]; done)
    | dsimp only
    | (with_reducible refine mask_foldl _ (fun s x => ?_) _ _)
    | (with_reducible refine mask_foldl_snd _ (fun s x => ?_) _ _)
    | (with_reducible refine (mask_foldl _ (fun s x => ?_) _ _).trans ?_)
    | (split <;> try (rename_i e; have e2 := congrArg Prod.snd e; dsimp only at e2; subst e2))
    | (simp (disch := decide) only [State.attn_mask, State.updJob_mask, mask_ite, mask_ite_snd, ite_self])

theorem State.attnCommand_mask (s : State) (q : Nat) {m0 : Nat} (hw : 2080322040389698 &&& m0 = 2080322040389698) :
    (State.attnCommand s q).mask m0 = s.mask m0 := by
  refine mask_mono hw ?_
  unfold State.attnCommand
  repeat' first
    | with_reducible rfl
    | with_reducible refine mask_ite_eq ?_ ?_
    | with_reducible refine mask_ite_snd_eq ?_ ?_
    | (simp (disch := decide) only [State.portCommand, State.attn_mask, State.attnAgain_mask, State.done_mask, mask_ite, mask_ite_snd, ite_self]; done)
    | dsimp only
    | (with_reducible refine mask_foldl _ (fun s x => ?_) _ _)
    | (with_reducible refine mask_foldl_snd _ (fun s x => ?_) _ _)
    | (with_reducible refine (mask_foldl _ (fun s x => ?_) _ _).trans ?_)
    | (split <;> try (rename_i e; have e2 := congrArg Prod.snd e; dsimp only at e2; subst e2))
    | (simp (disch := decide) only [State.portCommand, State.attn_mask, State.attnAgain_mask, State.done_mask, mask_ite, mask_ite_snd, ite_self])

theorem State.residueMismatch_mask (s0 : State) (q column residue tileRow tileCol kchunk : Nat) (temp : Int) {m0 : Nat} (hw : 2080322040586310 &&& m0 = 2080322040586310) :
    (State.residueMismatch s0 q column residue tileRow tileCol kchunk temp).mask m0 = s0.mask m0 := by
  refine mask_mono hw ?_
  unfold State.residueMismatch
  repeat' first
    | with_reducible rfl
    | with_reducible refine mask_ite_eq ?_ ?_
    | with_reducible refine mask_ite_snd_eq ?_ ?_
    | (simp (disch := decide) only [State.atCompute_mask, State.atLoad_mask, State.atReady_mask, State.drawNat_mask, State.mismatch_mask, State.settleExts_mask, State.spoilNew_mask, State.unlend_mask, State.usePages_mask, mask_ite, mask_ite_snd, ite_self]; done)
    | dsimp only
    | (with_reducible refine mask_foldl _ (fun s x => ?_) _ _)
    | (with_reducible refine mask_foldl_snd _ (fun s x => ?_) _ _)
    | (with_reducible refine (mask_foldl _ (fun s x => ?_) _ _).trans ?_)
    | (split <;> try (rename_i e; have e2 := congrArg Prod.snd e; dsimp only at e2; subst e2))
    | (simp (disch := decide) only [State.atCompute_mask, State.atLoad_mask, State.atReady_mask, State.drawNat_mask, State.mismatch_mask, State.settleExts_mask, State.spoilNew_mask, State.unlend_mask, State.usePages_mask, mask_ite, mask_ite_snd, ite_self])

theorem State.kvInvalidate_mask (s : State) (key : Nat) {m0 : Nat} (hw : 2080323114131522 &&& m0 = 2080323114131522) :
    (State.kvInvalidate s key).mask m0 = s.mask m0 := by
  refine mask_mono hw ?_
  unfold State.kvInvalidate
  repeat' first
    | with_reducible rfl
    | with_reducible refine mask_ite_eq ?_ ?_
    | with_reducible refine mask_ite_snd_eq ?_ ?_
    | (simp (disch := decide) only [setKvDirty_mask, setKvTlb_mask, State.attnAgain_mask, mask_ite, mask_ite_snd, ite_self]; done)
    | dsimp only
    | (with_reducible refine mask_foldl _ (fun s x => ?_) _ _)
    | (with_reducible refine mask_foldl_snd _ (fun s x => ?_) _ _)
    | (with_reducible refine (mask_foldl _ (fun s x => ?_) _ _).trans ?_)
    | (split <;> try (rename_i e; have e2 := congrArg Prod.snd e; dsimp only at e2; subst e2))
    | (simp (disch := decide) only [setKvDirty_mask, setKvTlb_mask, State.attnAgain_mask, mask_ite, mask_ite_snd, ite_self])

theorem State.kvExpire_mask (s : State) (q : Nat) {m0 : Nat} (hw : 1446966029205570 &&& m0 = 1446966029205570) :
    (State.kvExpire s q).mask m0 = s.mask m0 := by
  refine mask_mono hw ?_
  unfold State.kvExpire
  repeat' first
    | with_reducible rfl
    | with_reducible refine mask_ite_eq ?_ ?_
    | with_reducible refine mask_ite_snd_eq ?_ ?_
    | (simp (disch := decide) only [State.finish_mask, State.odInc_mask, State.unlend_mask, mask_ite, mask_ite_snd, ite_self]; done)
    | dsimp only
    | (with_reducible refine mask_foldl _ (fun s x => ?_) _ _)
    | (with_reducible refine mask_foldl_snd _ (fun s x => ?_) _ _)
    | (with_reducible refine (mask_foldl _ (fun s x => ?_) _ _).trans ?_)
    | (split <;> try (rename_i e; have e2 := congrArg Prod.snd e; dsimp only at e2; subst e2))
    | (simp (disch := decide) only [State.finish_mask, State.odInc_mask, State.unlend_mask, mask_ite, mask_ite_snd, ite_self])

theorem State.kvSweep_mask (s : State) (die : Nat) {m0 : Nat} (hw : 805306368 &&& m0 = 805306368) :
    (State.kvSweep s die).mask m0 = s.mask m0 := by
  refine mask_mono hw ?_
  unfold State.kvSweep
  repeat' first
    | with_reducible rfl
    | with_reducible refine mask_ite_eq ?_ ?_
    | with_reducible refine mask_ite_snd_eq ?_ ?_
    | (simp (disch := decide) only [State.kvUpdate_mask, mask_ite, mask_ite_snd, ite_self]; done)
    | dsimp only
    | (with_reducible refine mask_foldl _ (fun s x => ?_) _ _)
    | (with_reducible refine mask_foldl_snd _ (fun s x => ?_) _ _)
    | (with_reducible refine (mask_foldl _ (fun s x => ?_) _ _).trans ?_)
    | (split <;> try (rename_i e; have e2 := congrArg Prod.snd e; dsimp only at e2; subst e2))
    | (simp (disch := decide) only [State.kvUpdate_mask, mask_ite, mask_ite_snd, ite_self])

theorem State.kvScan_mask (s : State) (r : KvScanReq) {m0 : Nat} (hw : 1165491052494850 &&& m0 = 1165491052494850) :
    (State.kvScan s r).mask m0 = s.mask m0 := by
  refine mask_mono hw ?_
  unfold State.kvScan
  repeat' first
    | with_reducible rfl
    | with_reducible refine mask_ite_eq ?_ ?_
    | with_reducible refine mask_ite_snd_eq ?_ ?_
    | (simp (disch := decide) only [State.pwrite_mask, mask_ite, mask_ite_snd, ite_self]; done)
    | dsimp only
    | (with_reducible refine mask_foldl _ (fun s x => ?_) _ _)
    | (with_reducible refine mask_foldl_snd _ (fun s x => ?_) _ _)
    | (with_reducible refine (mask_foldl _ (fun s x => ?_) _ _).trans ?_)
    | (split <;> try (rename_i e; have e2 := congrArg Prod.snd e; dsimp only at e2; subst e2))
    | (simp (disch := decide) only [State.pwrite_mask, mask_ite, mask_ite_snd, ite_self])

end Sys2Proof.Machine
end

