-- ==== Sys2Proof/Laws/Frame/Park.lean ====
section
/-!
SUPPORT. Frames of Machine/Park.lean: the fields that each function may change, as a mask.
-/
namespace Sys2Proof.Machine

open Sys2Proof

set_option linter.unusedSimpArgs false

theorem State.setObject_mask (s : State) (h : Nat) (o : ParkObj) {m0 : Nat} (hw : 34359738368 &&& m0 = 34359738368) :
    (State.setObject s h o).mask m0 = s.mask m0 := by
  refine mask_mono hw ?_
  unfold State.setObject
  repeat' first
    | with_reducible rfl
    | with_reducible refine mask_ite_eq ?_ ?_
    | with_reducible refine mask_ite_snd_eq ?_ ?_
    | (simp (disch := decide) only [setPark_mask, mask_ite, mask_ite_snd, ite_self]; done)
    | dsimp only
    | (with_reducible refine mask_foldl _ (fun s x => ?_) _ _)
    | (with_reducible refine mask_foldl_snd _ (fun s x => ?_) _ _)
    | (with_reducible refine (mask_foldl _ (fun s x => ?_) _ _).trans ?_)
    | (split <;> try (rename_i e; have e2 := congrArg Prod.snd e; dsimp only at e2; subst e2))
    | (simp (disch := decide) only [setPark_mask, mask_ite, mask_ite_snd, ite_self])

theorem State.delObject_mask (s : State) (h : Nat) {m0 : Nat} (hw : 34359738368 &&& m0 = 34359738368) :
    (State.delObject s h).mask m0 = s.mask m0 := by
  refine mask_mono hw ?_
  unfold State.delObject
  repeat' first
    | with_reducible rfl
    | with_reducible refine mask_ite_eq ?_ ?_
    | with_reducible refine mask_ite_snd_eq ?_ ?_
    | (simp (disch := decide) only [setPark_mask, mask_ite, mask_ite_snd, ite_self]; done)
    | dsimp only
    | (with_reducible refine mask_foldl _ (fun s x => ?_) _ _)
    | (with_reducible refine mask_foldl_snd _ (fun s x => ?_) _ _)
    | (with_reducible refine (mask_foldl _ (fun s x => ?_) _ _).trans ?_)
    | (split <;> try (rename_i e; have e2 := congrArg Prod.snd e; dsimp only at e2; subst e2))
    | (simp (disch := decide) only [setPark_mask, mask_ite, mask_ite_snd, ite_self])

theorem State.expireObject_mask (s : State) (h : Nat) {m0 : Nat} (hw : 1125934266580992 &&& m0 = 1125934266580992) :
    (State.expireObject s h).mask m0 = s.mask m0 := by
  refine mask_mono hw ?_
  unfold State.expireObject
  repeat' first
    | with_reducible rfl
    | with_reducible refine mask_ite_eq ?_ ?_
    | with_reducible refine mask_ite_snd_eq ?_ ?_
    | (simp (disch := decide) only [State.delObject_mask, State.odInc_mask, mask_ite, mask_ite_snd, ite_self]; done)
    | dsimp only
    | (with_reducible refine mask_foldl _ (fun s x => ?_) _ _)
    | (with_reducible refine mask_foldl_snd _ (fun s x => ?_) _ _)
    | (with_reducible refine (mask_foldl _ (fun s x => ?_) _ _).trans ?_)
    | (split <;> try (rename_i e; have e2 := congrArg Prod.snd e; dsimp only at e2; subst e2))
    | (simp (disch := decide) only [State.delObject_mask, State.odInc_mask, mask_ite, mask_ite_snd, ite_self])

theorem State.pkTransfer_mask (s : State) (die p d : Nat) (write : Bool) {m0 : Nat} (hw : 1165491052494850 &&& m0 = 1165491052494850) :
    (State.pkTransfer s die p d write).2.mask m0 = s.mask m0 := by
  refine mask_mono hw ?_
  unfold State.pkTransfer
  repeat' first
    | with_reducible rfl
    | with_reducible refine mask_ite_eq ?_ ?_
    | with_reducible refine mask_ite_snd_eq ?_ ?_
    | (simp (disch := decide) only [State.pcheck_mask, mask_ite, mask_ite_snd, ite_self]; done)
    | dsimp only
    | (with_reducible refine mask_foldl _ (fun s x => ?_) _ _)
    | (with_reducible refine mask_foldl_snd _ (fun s x => ?_) _ _)
    | (with_reducible refine (mask_foldl _ (fun s x => ?_) _ _).trans ?_)
    | (split <;> try (rename_i e; have e2 := congrArg Prod.snd e; dsimp only at e2; subst e2))
    | (simp (disch := decide) only [State.pcheck_mask, mask_ite, mask_ite_snd, ite_self])

theorem State.parkRead_mask (s : State) (lost : List Nat) (q die p d : Nat) {m0 : Nat} (hw : 1798844109832194 &&& m0 = 1798844109832194) :
    (State.parkRead s lost q die p d).mask m0 = s.mask m0 := by
  refine mask_mono hw ?_
  unfold State.parkRead
  repeat' first
    | with_reducible rfl
    | with_reducible refine mask_ite_eq ?_ ?_
    | with_reducible refine mask_ite_snd_eq ?_ ?_
    | (simp (disch := decide) only [State.bumpDie_mask, State.charge_mask, State.done_mask, State.drawNat_mask, State.expireObject_mask, State.failRecord_mask, State.odInc_mask, State.pkTransfer_mask, State.pwrite_mask, mask_ite, mask_ite_snd, ite_self]; done)
    | dsimp only
    | (with_reducible refine mask_foldl _ (fun s x => ?_) _ _)
    | (with_reducible refine mask_foldl_snd _ (fun s x => ?_) _ _)
    | (with_reducible refine (mask_foldl _ (fun s x => ?_) _ _).trans ?_)
    | (split <;> try (rename_i e; have e2 := congrArg Prod.snd e; dsimp only at e2; subst e2))
    | (simp (disch := decide) only [State.bumpDie_mask, State.charge_mask, State.done_mask, State.drawNat_mask, State.expireObject_mask, State.failRecord_mask, State.odInc_mask, State.pkTransfer_mask, State.pwrite_mask, mask_ite, mask_ite_snd, ite_self])

theorem State.parkWrite_mask (s : State) (q die p d : Nat) {m0 : Nat} (hw : 1798844109832194 &&& m0 = 1798844109832194) :
    (State.parkWrite s q die p d).mask m0 = s.mask m0 := by
  refine mask_mono hw ?_
  unfold State.parkWrite
  repeat' first
    | with_reducible rfl
    | with_reducible refine mask_ite_eq ?_ ?_
    | with_reducible refine mask_ite_snd_eq ?_ ?_
    | (simp (disch := decide) only [State.done_mask, State.expireObject_mask, State.mread_mask, State.odInc_mask, State.parkDraw_mask, State.pkTransfer_mask, State.setObject_mask, mask_ite, mask_ite_snd, ite_self]; done)
    | dsimp only
    | (with_reducible refine mask_foldl _ (fun s x => ?_) _ _)
    | (with_reducible refine mask_foldl_snd _ (fun s x => ?_) _ _)
    | (with_reducible refine (mask_foldl _ (fun s x => ?_) _ _).trans ?_)
    | (split <;> try (rename_i e; have e2 := congrArg Prod.snd e; dsimp only at e2; subst e2))
    | (simp (disch := decide) only [State.done_mask, State.expireObject_mask, State.mread_mask, State.odInc_mask, State.parkDraw_mask, State.pkTransfer_mask, State.setObject_mask, mask_ite, mask_ite_snd, ite_self])

theorem State.parkCreate_mask (s : State) (q p d : Nat) {m0 : Nat} (hw : 1125934266597376 &&& m0 = 1125934266597376) :
    (State.parkCreate s q p d).mask m0 = s.mask m0 := by
  refine mask_mono hw ?_
  unfold State.parkCreate
  repeat' first
    | with_reducible rfl
    | with_reducible refine mask_ite_eq ?_ ?_
    | with_reducible refine mask_ite_snd_eq ?_ ?_
    | (simp (disch := decide) only [setPark_mask, State.done_mask, State.expireObject_mask, State.setObject_mask, mask_ite, mask_ite_snd, ite_self]; done)
    | dsimp only
    | (with_reducible refine mask_foldl _ (fun s x => ?_) _ _)
    | (with_reducible refine mask_foldl_snd _ (fun s x => ?_) _ _)
    | (with_reducible refine (mask_foldl _ (fun s x => ?_) _ _).trans ?_)
    | (split <;> try (rename_i e; have e2 := congrArg Prod.snd e; dsimp only at e2; subst e2))
    | (simp (disch := decide) only [setPark_mask, State.done_mask, State.expireObject_mask, State.setObject_mask, mask_ite, mask_ite_snd, ite_self])

theorem State.parkDelete_mask (s : State) (q p d : Nat) {m0 : Nat} (hw : 1125934266597376 &&& m0 = 1125934266597376) :
    (State.parkDelete s q p d).mask m0 = s.mask m0 := by
  refine mask_mono hw ?_
  unfold State.parkDelete
  repeat' first
    | with_reducible rfl
    | with_reducible refine mask_ite_eq ?_ ?_
    | with_reducible refine mask_ite_snd_eq ?_ ?_
    | (simp (disch := decide) only [State.delObject_mask, State.done_mask, State.expireObject_mask, mask_ite, mask_ite_snd, ite_self]; done)
    | dsimp only
    | (with_reducible refine mask_foldl _ (fun s x => ?_) _ _)
    | (with_reducible refine mask_foldl_snd _ (fun s x => ?_) _ _)
    | (with_reducible refine (mask_foldl _ (fun s x => ?_) _ _).trans ?_)
    | (split <;> try (rename_i e; have e2 := congrArg Prod.snd e; dsimp only at e2; subst e2))
    | (simp (disch := decide) only [State.delObject_mask, State.done_mask, State.expireObject_mask, mask_ite, mask_ite_snd, ite_self])

theorem State.parkTouch_mask (s : State) (q p d : Nat) {m0 : Nat} (hw : 1125934266597376 &&& m0 = 1125934266597376) :
    (State.parkTouch s q p d).mask m0 = s.mask m0 := by
  refine mask_mono hw ?_
  unfold State.parkTouch
  repeat' first
    | with_reducible rfl
    | with_reducible refine mask_ite_eq ?_ ?_
    | with_reducible refine mask_ite_snd_eq ?_ ?_
    | (simp (disch := decide) only [State.done_mask, State.expireObject_mask, State.setObject_mask, mask_ite, mask_ite_snd, ite_self]; done)
    | dsimp only
    | (with_reducible refine mask_foldl _ (fun s x => ?_) _ _)
    | (with_reducible refine mask_foldl_snd _ (fun s x => ?_) _ _)
    | (with_reducible refine (mask_foldl _ (fun s x => ?_) _ _).trans ?_)
    | (split <;> try (rename_i e; have e2 := congrArg Prod.snd e; dsimp only at e2; subst e2))
    | (simp (disch := decide) only [State.done_mask, State.expireObject_mask, State.setObject_mask, mask_ite, mask_ite_snd, ite_self])

theorem State.parkExpire_mask (s : State) (q : Nat) {m0 : Nat} (hw : 16384 &&& m0 = 16384) :
    (State.parkExpire s q).mask m0 = s.mask m0 := by
  refine mask_mono hw ?_
  unfold State.parkExpire
  repeat' first
    | with_reducible rfl
    | with_reducible refine mask_ite_eq ?_ ?_
    | with_reducible refine mask_ite_snd_eq ?_ ?_
    | (simp (disch := decide) only [State.done_mask, mask_ite, mask_ite_snd, ite_self]; done)
    | dsimp only
    | (with_reducible refine mask_foldl _ (fun s x => ?_) _ _)
    | (with_reducible refine mask_foldl_snd _ (fun s x => ?_) _ _)
    | (with_reducible refine (mask_foldl _ (fun s x => ?_) _ _).trans ?_)
    | (split <;> try (rename_i e; have e2 := congrArg Prod.snd e; dsimp only at e2; subst e2))
    | (simp (disch := decide) only [State.done_mask, mask_ite, mask_ite_snd, ite_self])

theorem State.clockSave_mask (s : State) {m0 : Nat} (hw : 1759252964179968 &&& m0 = 1759252964179968) :
    (State.clockSave s).mask m0 = s.mask m0 := by
  refine mask_mono hw ?_
  unfold State.clockSave
  repeat' first
    | with_reducible rfl
    | with_reducible refine mask_ite_eq ?_ ?_
    | with_reducible refine mask_ite_snd_eq ?_ ?_
    | (simp (disch := decide) only [setPark_mask, State.commit_mask, mask_ite, mask_ite_snd, ite_self]; done)
    | dsimp only
    | (with_reducible refine mask_foldl _ (fun s x => ?_) _ _)
    | (with_reducible refine mask_foldl_snd _ (fun s x => ?_) _ _)
    | (with_reducible refine (mask_foldl _ (fun s x => ?_) _ _).trans ?_)
    | (split <;> try (rename_i e; have e2 := congrArg Prod.snd e; dsimp only at e2; subst e2))
    | (simp (disch := decide) only [setPark_mask, State.commit_mask, mask_ite, mask_ite_snd, ite_self])

theorem State.eraseObject_mask (s : State) (h : Nat) {m0 : Nat} (hw : 1125934266580992 &&& m0 = 1125934266580992) :
    (State.eraseObject s h).mask m0 = s.mask m0 := by
  refine mask_mono hw ?_
  unfold State.eraseObject
  repeat' first
    | with_reducible rfl
    | with_reducible refine mask_ite_eq ?_ ?_
    | with_reducible refine mask_ite_snd_eq ?_ ?_
    | (simp (disch := decide) only [State.delObject_mask, State.odSet_mask, mask_ite, mask_ite_snd, ite_self]; done)
    | dsimp only
    | (with_reducible refine mask_foldl _ (fun s x => ?_) _ _)
    | (with_reducible refine mask_foldl_snd _ (fun s x => ?_) _ _)
    | (with_reducible refine (mask_foldl _ (fun s x => ?_) _ _).trans ?_)
    | (split <;> try (rename_i e; have e2 := congrArg Prod.snd e; dsimp only at e2; subst e2))
    | (simp (disch := decide) only [State.delObject_mask, State.odSet_mask, mask_ite, mask_ite_snd, ite_self])

theorem State.eraseAll_mask (s : State) (v : Nat) {m0 : Nat} (hw : 1759252964179968 &&& m0 = 1759252964179968) :
    (State.eraseAll s v).mask m0 = s.mask m0 := by
  refine mask_mono hw ?_
  unfold State.eraseAll
  repeat' first
    | with_reducible rfl
    | with_reducible refine mask_ite_eq ?_ ?_
    | with_reducible refine mask_ite_snd_eq ?_ ?_
    | (simp (disch := decide) only [setPark_mask, setRel_mask, State.commit_mask, State.odSet_mask, State.stageEmpty_mask, mask_ite, mask_ite_snd, ite_self]; done)
    | dsimp only
    | (with_reducible refine mask_foldl _ (fun s x => ?_) _ _)
    | (with_reducible refine mask_foldl_snd _ (fun s x => ?_) _ _)
    | (with_reducible refine (mask_foldl _ (fun s x => ?_) _ _).trans ?_)
    | (split <;> try (rename_i e; have e2 := congrArg Prod.snd e; dsimp only at e2; subst e2))
    | (simp (disch := decide) only [setPark_mask, setRel_mask, State.commit_mask, State.odSet_mask, State.stageEmpty_mask, mask_ite, mask_ite_snd, ite_self])

end Sys2Proof.Machine
end

