-- ==== Sys2Proof/Laws/Frame/Serving.lean ====
section
/-!
SUPPORT. Frames of Machine/Serving.lean: the fields that each function may change, as a mask.
-/
namespace Sys2Proof.Machine

open Sys2Proof

set_option linter.unusedSimpArgs false

theorem State.serveDone_mask (s : State) (q code flags detail : Nat) {m0 : Nat} (hw : 1125899906859008 &&& m0 = 1125899906859008) :
    (State.serveDone s q code flags detail).mask m0 = s.mask m0 := by
  refine mask_mono hw ?_
  unfold State.serveDone
  repeat' first
    | with_reducible rfl
    | with_reducible refine mask_ite_eq ?_ ?_
    | with_reducible refine mask_ite_snd_eq ?_ ?_
    | (simp (disch := decide) only [State.finish_mask, State.odInc_mask, State.ownerInc_mask, mask_ite, mask_ite_snd, ite_self]; done)
    | dsimp only
    | (with_reducible refine mask_foldl _ (fun s x => ?_) _ _)
    | (with_reducible refine mask_foldl_snd _ (fun s x => ?_) _ _)
    | (with_reducible refine (mask_foldl _ (fun s x => ?_) _ _).trans ?_)
    | (split <;> try (rename_i e; have e2 := congrArg Prod.snd e; dsimp only at e2; subst e2))
    | (simp (disch := decide) only [State.finish_mask, State.odInc_mask, State.ownerInc_mask, mask_ite, mask_ite_snd, ite_self])

theorem State.spaceRead_mask (s : State) (die p space a n : Nat) {m0 : Nat} (hw : 1798844109832194 &&& m0 = 1798844109832194) :
    (State.spaceRead s die p space a n).2.mask m0 = s.mask m0 := by
  refine mask_mono hw ?_
  unfold State.spaceRead
  repeat' first
    | with_reducible rfl
    | with_reducible refine mask_ite_eq ?_ ?_
    | with_reducible refine mask_ite_snd_eq ?_ ?_
    | (simp (disch := decide) only [State.bumpDie_mask, State.mread_mask, mask_ite, mask_ite_snd, ite_self]; done)
    | dsimp only
    | (with_reducible refine mask_foldl _ (fun s x => ?_) _ _)
    | (with_reducible refine mask_foldl_snd _ (fun s x => ?_) _ _)
    | (with_reducible refine (mask_foldl _ (fun s x => ?_) _ _).trans ?_)
    | (split <;> try (rename_i e; have e2 := congrArg Prod.snd e; dsimp only at e2; subst e2))
    | (simp (disch := decide) only [State.bumpDie_mask, State.mread_mask, mask_ite, mask_ite_snd, ite_self])

theorem State.sessionOpen_mask (s : State) (q die p d : Nat) {m0 : Nat} (hw : 1447034748682338 &&& m0 = 1447034748682338) :
    (State.sessionOpen s q die p d).mask m0 = s.mask m0 := by
  refine mask_mono hw ?_
  unfold State.sessionOpen
  repeat' first
    | with_reducible rfl
    | with_reducible refine mask_ite_eq ?_ ?_
    | with_reducible refine mask_ite_snd_eq ?_ ?_
    | (simp (disch := decide) only [State.follow_mask, State.putSession_mask, State.serveDone_mask, mask_ite, mask_ite_snd, ite_self]; done)
    | dsimp only
    | (with_reducible refine mask_foldl _ (fun s x => ?_) _ _)
    | (with_reducible refine mask_foldl_snd _ (fun s x => ?_) _ _)
    | (with_reducible refine (mask_foldl _ (fun s x => ?_) _ _).trans ?_)
    | (split <;> try (rename_i e; have e2 := congrArg Prod.snd e; dsimp only at e2; subst e2))
    | (simp (disch := decide) only [State.follow_mask, State.putSession_mask, State.serveDone_mask, mask_ite, mask_ite_snd, ite_self])

theorem State.sessionUpdate_mask (s : State) (q die p d : Nat) {m0 : Nat} (hw : 1125968626335744 &&& m0 = 1125968626335744) :
    (State.sessionUpdate s q die p d).mask m0 = s.mask m0 := by
  refine mask_mono hw ?_
  unfold State.sessionUpdate
  repeat' first
    | with_reducible rfl
    | with_reducible refine mask_ite_eq ?_ ?_
    | with_reducible refine mask_ite_snd_eq ?_ ?_
    | (simp (disch := decide) only [State.putSession_mask, State.serveDone_mask, mask_ite, mask_ite_snd, ite_self]; done)
    | dsimp only
    | (with_reducible refine mask_foldl _ (fun s x => ?_) _ _)
    | (with_reducible refine mask_foldl_snd _ (fun s x => ?_) _ _)
    | (with_reducible refine (mask_foldl _ (fun s x => ?_) _ _).trans ?_)
    | (split <;> try (rename_i e; have e2 := congrArg Prod.snd e; dsimp only at e2; subst e2))
    | (simp (disch := decide) only [State.putSession_mask, State.serveDone_mask, mask_ite, mask_ite_snd, ite_self])

theorem State.sessionClose_mask (s : State) (q p d : Nat) {m0 : Nat} (hw : 1447034748682338 &&& m0 = 1447034748682338) :
    (State.sessionClose s q p d).mask m0 = s.mask m0 := by
  refine mask_mono hw ?_
  unfold State.sessionClose
  repeat' first
    | with_reducible rfl
    | with_reducible refine mask_ite_eq ?_ ?_
    | with_reducible refine mask_ite_snd_eq ?_ ?_
    | (simp (disch := decide) only [setSess_mask, State.follow_mask, State.serveDone_mask, mask_ite, mask_ite_snd, ite_self]; done)
    | dsimp only
    | (with_reducible refine mask_foldl _ (fun s x => ?_) _ _)
    | (with_reducible refine mask_foldl_snd _ (fun s x => ?_) _ _)
    | (with_reducible refine (mask_foldl _ (fun s x => ?_) _ _).trans ?_)
    | (split <;> try (rename_i e; have e2 := congrArg Prod.snd e; dsimp only at e2; subst e2))
    | (simp (disch := decide) only [setSess_mask, State.follow_mask, State.serveDone_mask, mask_ite, mask_ite_snd, ite_self])

theorem State.walkState_mask (s : State) (die : Nat) (g : Grammar) (st : Nat) {m0 : Nat} (hw : 1798844109832194 &&& m0 = 1798844109832194) :
    (State.walkState s die g st).2.mask m0 = s.mask m0 := by
  refine mask_mono hw ?_
  unfold State.walkState
  repeat' first
    | with_reducible rfl
    | with_reducible refine mask_ite_eq ?_ ?_
    | with_reducible refine mask_ite_snd_eq ?_ ?_
    | (simp (disch := decide) only [State.mread_mask, mask_ite, mask_ite_snd, ite_self]; done)
    | dsimp only
    | (with_reducible refine mask_foldl _ (fun s x => ?_) _ _)
    | (with_reducible refine mask_foldl_snd _ (fun s x => ?_) _ _)
    | (with_reducible refine (mask_foldl _ (fun s x => ?_) _ _).trans ?_)
    | (split <;> try (rename_i e; have e2 := congrArg Prod.snd e; dsimp only at e2; subst e2))
    | (simp (disch := decide) only [State.mread_mask, mask_ite, mask_ite_snd, ite_self])

theorem State.gload_mask (s : State) (q die p d : Nat) {m0 : Nat} (hw : 1799118987739138 &&& m0 = 1799118987739138) :
    (State.gload s q die p d).mask m0 = s.mask m0 := by
  refine mask_mono hw ?_
  unfold State.gload
  repeat' first
    | with_reducible rfl
    | with_reducible refine mask_ite_eq ?_ ?_
    | with_reducible refine mask_ite_snd_eq ?_ ?_
    | (simp (disch := decide) only [setGrammars_mask, State.mread_mask, State.serveDone_mask, mask_ite, mask_ite_snd, ite_self]; done)
    | dsimp only
    | (with_reducible refine mask_foldl _ (fun s x => ?_) _ _)
    | (with_reducible refine mask_foldl_snd _ (fun s x => ?_) _ _)
    | (with_reducible refine (mask_foldl _ (fun s x => ?_) _ _).trans ?_)
    | (split <;> try (rename_i e; have e2 := congrArg Prod.snd e; dsimp only at e2; subst e2))
    | (simp (disch := decide) only [setGrammars_mask, State.mread_mask, State.serveDone_mask, mask_ite, mask_ite_snd, ite_self])

theorem State.gfree_mask (s : State) (q die p d : Nat) {m0 : Nat} (hw : 1126174784765952 &&& m0 = 1126174784765952) :
    (State.gfree s q die p d).mask m0 = s.mask m0 := by
  refine mask_mono hw ?_
  unfold State.gfree
  repeat' first
    | with_reducible rfl
    | with_reducible refine mask_ite_eq ?_ ?_
    | with_reducible refine mask_ite_snd_eq ?_ ?_
    | (simp (disch := decide) only [setGrammars_mask, State.serveDone_mask, mask_ite, mask_ite_snd, ite_self]; done)
    | dsimp only
    | (with_reducible refine mask_foldl _ (fun s x => ?_) _ _)
    | (with_reducible refine mask_foldl_snd _ (fun s x => ?_) _ _)
    | (with_reducible refine (mask_foldl _ (fun s x => ?_) _ _).trans ?_)
    | (split <;> try (rename_i e; have e2 := congrArg Prod.snd e; dsimp only at e2; subst e2))
    | (simp (disch := decide) only [setGrammars_mask, State.serveDone_mask, mask_ite, mask_ite_snd, ite_self])

theorem State.walkTokens_mask (s : State) (die : Nat) (g : Grammar) (xs : List Nat) (st : Nat) (k : Nat) {m0 : Nat} (hw : 1798844109832194 &&& m0 = 1798844109832194) :
    (State.walkTokens s die g xs st k).2.mask m0 = s.mask m0 := by
  refine mask_mono hw ?_
  clear hw
  induction xs generalizing s st k with
  | nil =>
    unfold State.walkTokens
    first | rfl | (split <;> rfl)
  | cons x xs ih =>
    unfold State.walkTokens
    repeat' first
      | with_reducible rfl
      | with_reducible refine mask_ite_eq ?_ ?_
      | with_reducible refine mask_ite_snd_eq ?_ ?_
      | (simp (disch := decide) only [State.walkState_mask, mask_ite, mask_ite_snd, ite_self, ih]; done)
      | dsimp only
      | (with_reducible refine mask_foldl _ (fun s x => ?_) _ _)
      | (with_reducible refine mask_foldl_snd _ (fun s x => ?_) _ _)
      | (with_reducible refine (mask_foldl _ (fun s x => ?_) _ _).trans ?_)
      | (split <;> try (rename_i e; have e2 := congrArg Prod.snd e; dsimp only at e2; subst e2))
      | (simp (disch := decide) only [State.walkState_mask, mask_ite, mask_ite_snd, ite_self, ih])

theorem State.gadvance_mask (s : State) (q die p d : Nat) {m0 : Nat} (hw : 1798912829308930 &&& m0 = 1798912829308930) :
    (State.gadvance s q die p d).mask m0 = s.mask m0 := by
  refine mask_mono hw ?_
  unfold State.gadvance
  repeat' first
    | with_reducible rfl
    | with_reducible refine mask_ite_eq ?_ ?_
    | with_reducible refine mask_ite_snd_eq ?_ ?_
    | (simp (disch := decide) only [State.putSession_mask, State.serveDone_mask, State.walkTokens_mask, mask_ite, mask_ite_snd, ite_self]; done)
    | dsimp only
    | (with_reducible refine mask_foldl _ (fun s x => ?_) _ _)
    | (with_reducible refine mask_foldl_snd _ (fun s x => ?_) _ _)
    | (with_reducible refine (mask_foldl _ (fun s x => ?_) _ _).trans ?_)
    | (split <;> try (rename_i e; have e2 := congrArg Prod.snd e; dsimp only at e2; subst e2))
    | (simp (disch := decide) only [State.putSession_mask, State.serveDone_mask, State.walkTokens_mask, mask_ite, mask_ite_snd, ite_self])

theorem State.logitRow_mask (s : State) (die p d base i : Nat) {m0 : Nat} (hw : 1798844109832194 &&& m0 = 1798844109832194) :
    (State.logitRow s die p d base i).2.mask m0 = s.mask m0 := by
  refine mask_mono hw ?_
  unfold State.logitRow
  repeat' first
    | with_reducible rfl
    | with_reducible refine mask_ite_eq ?_ ?_
    | with_reducible refine mask_ite_snd_eq ?_ ?_
    | (simp (disch := decide) only [State.spaceRead_mask, mask_ite, mask_ite_snd, ite_self]; done)
    | dsimp only
    | (with_reducible refine mask_foldl _ (fun s x => ?_) _ _)
    | (with_reducible refine mask_foldl_snd _ (fun s x => ?_) _ _)
    | (with_reducible refine (mask_foldl _ (fun s x => ?_) _ _).trans ?_)
    | (split <;> try (rename_i e; have e2 := congrArg Prod.snd e; dsimp only at e2; subst e2))
    | (simp (disch := decide) only [State.spaceRead_mask, mask_ite, mask_ite_snd, ite_self])

theorem State.rowMask_mask (s : State) (die : Nat) (g : Option Grammar) (gstate : Nat) {m0 : Nat} (hw : 1798844109832194 &&& m0 = 1798844109832194) :
    (State.rowMask s die g gstate).2.mask m0 = s.mask m0 := by
  refine mask_mono hw ?_
  unfold State.rowMask
  repeat' first
    | with_reducible rfl
    | with_reducible refine mask_ite_eq ?_ ?_
    | with_reducible refine mask_ite_snd_eq ?_ ?_
    | (simp (disch := decide) only [State.walkState_mask, mask_ite, mask_ite_snd, ite_self]; done)
    | dsimp only
    | (with_reducible refine mask_foldl _ (fun s x => ?_) _ _)
    | (with_reducible refine mask_foldl_snd _ (fun s x => ?_) _ _)
    | (with_reducible refine (mask_foldl _ (fun s x => ?_) _ _).trans ?_)
    | (split <;> try (rename_i e; have e2 := congrArg Prod.snd e; dsimp only at e2; subst e2))
    | (simp (disch := decide) only [State.walkState_mask, mask_ite, mask_ite_snd, ite_self])

theorem State.sampleRows_mask (s : State) (die p d : Nat) (x : Session) (g : Option Grammar) (list : Option (List Nat)) (k : Nat) (i : Nat) (a : Sampled) {m0 : Nat} (hw : 1798844109832194 &&& m0 = 1798844109832194) :
    (State.sampleRows s die p d x g list k i a).2.mask m0 = s.mask m0 := by
  refine mask_mono hw ?_
  clear hw
  induction k generalizing s i a with
  | zero =>
    unfold State.sampleRows
    rfl
  | succ m ih =>
    unfold State.sampleRows
    repeat' first
      | with_reducible rfl
      | with_reducible refine mask_ite_eq ?_ ?_
      | with_reducible refine mask_ite_snd_eq ?_ ?_
      | (simp (disch := decide) only [State.logitRow_mask, State.rowMask_mask, mask_ite, mask_ite_snd, ite_self, ih]; done)
      | dsimp only
      | (with_reducible refine mask_foldl _ (fun s x => ?_) _ _)
      | (with_reducible refine mask_foldl_snd _ (fun s x => ?_) _ _)
      | (with_reducible refine (mask_foldl _ (fun s x => ?_) _ _).trans ?_)
      | (split <;> try (rename_i e; have e2 := congrArg Prod.snd e; dsimp only at e2; subst e2))
      | (simp (disch := decide) only [State.logitRow_mask, State.rowMask_mask, mask_ite, mask_ite_snd, ite_self, ih])

theorem State.sessionList_mask (s : State) (die p d : Nat) (x : Session) {m0 : Nat} (hw : 1798844109832194 &&& m0 = 1798844109832194) :
    (State.sessionList s die p d x).2.mask m0 = s.mask m0 := by
  refine mask_mono hw ?_
  unfold State.sessionList
  repeat' first
    | with_reducible rfl
    | with_reducible refine mask_ite_eq ?_ ?_
    | with_reducible refine mask_ite_snd_eq ?_ ?_
    | (simp (disch := decide) only [State.mread_mask, mask_ite, mask_ite_snd, ite_self]; done)
    | dsimp only
    | (with_reducible refine mask_foldl _ (fun s x => ?_) _ _)
    | (with_reducible refine mask_foldl_snd _ (fun s x => ?_) _ _)
    | (with_reducible refine (mask_foldl _ (fun s x => ?_) _ _).trans ?_)
    | (split <;> try (rename_i e; have e2 := congrArg Prod.snd e; dsimp only at e2; subst e2))
    | (simp (disch := decide) only [State.mread_mask, mask_ite, mask_ite_snd, ite_self])

theorem State.emitTokens_mask (s : State) (die p n : Nat) {m0 : Nat} (hw : 1165628491448322 &&& m0 = 1165628491448322) :
    (State.emitTokens s die p n).mask m0 = s.mask m0 := by
  refine mask_mono hw ?_
  unfold State.emitTokens
  repeat' first
    | with_reducible rfl
    | with_reducible refine mask_ite_eq ?_ ?_
    | with_reducible refine mask_ite_snd_eq ?_ ?_
    | (simp (disch := decide) only [setEmitted_mask, State.bumpDie_mask, State.odInc_mask, State.ownerInc_mask, mask_ite, mask_ite_snd, ite_self]; done)
    | dsimp only
    | (with_reducible refine mask_foldl _ (fun s x => ?_) _ _)
    | (with_reducible refine mask_foldl_snd _ (fun s x => ?_) _ _)
    | (with_reducible refine (mask_foldl _ (fun s x => ?_) _ _).trans ?_)
    | (split <;> try (rename_i e; have e2 := congrArg Prod.snd e; dsimp only at e2; subst e2))
    | (simp (disch := decide) only [setEmitted_mask, State.bumpDie_mask, State.odInc_mask, State.ownerInc_mask, mask_ite, mask_ite_snd, ite_self])

theorem State.sampleEnd_mask (s : State) (q die p d n : Nat) (x : Session) (a : Sampled) {m0 : Nat} (hw : 1165697210925058 &&& m0 = 1165697210925058) :
    (State.sampleEnd s q die p d n x a).mask m0 = s.mask m0 := by
  refine mask_mono hw ?_
  unfold State.sampleEnd
  repeat' first
    | with_reducible rfl
    | with_reducible refine mask_ite_eq ?_ ?_
    | with_reducible refine mask_ite_snd_eq ?_ ?_
    | (simp (disch := decide) only [State.emitTokens_mask, State.odInc_mask, State.ownerInc_mask, State.putSession_mask, State.pwrite_mask, State.serveDone_mask, mask_ite, mask_ite_snd, ite_self]; done)
    | dsimp only
    | (with_reducible refine mask_foldl _ (fun s x => ?_) _ _)
    | (with_reducible refine mask_foldl_snd _ (fun s x => ?_) _ _)
    | (with_reducible refine (mask_foldl _ (fun s x => ?_) _ _).trans ?_)
    | (split <;> try (rename_i e; have e2 := congrArg Prod.snd e; dsimp only at e2; subst e2))
    | (simp (disch := decide) only [State.emitTokens_mask, State.odInc_mask, State.ownerInc_mask, State.putSession_mask, State.pwrite_mask, State.serveDone_mask, mask_ite, mask_ite_snd, ite_self])

theorem State.sampleRun_mask (s : State) (q die p d n : Nat) (x : Session) (g : Option Grammar) (list : Option (List Nat)) {m0 : Nat} (hw : 1799050268262402 &&& m0 = 1799050268262402) :
    (State.sampleRun s q die p d n x g list).mask m0 = s.mask m0 := by
  refine mask_mono hw ?_
  unfold State.sampleRun
  repeat' first
    | with_reducible rfl
    | with_reducible refine mask_ite_eq ?_ ?_
    | with_reducible refine mask_ite_snd_eq ?_ ?_
    | (simp (disch := decide) only [State.sampleEnd_mask, State.sampleRows_mask, State.serveDone_mask, mask_ite, mask_ite_snd, ite_self]; done)
    | dsimp only
    | (with_reducible refine mask_foldl _ (fun s x => ?_) _ _)
    | (with_reducible refine mask_foldl_snd _ (fun s x => ?_) _ _)
    | (with_reducible refine (mask_foldl _ (fun s x => ?_) _ _).trans ?_)
    | (split <;> try (rename_i e; have e2 := congrArg Prod.snd e; dsimp only at e2; subst e2))
    | (simp (disch := decide) only [State.sampleEnd_mask, State.sampleRows_mask, State.serveDone_mask, mask_ite, mask_ite_snd, ite_self])

theorem State.rowZero_mask (s : State) (die p d : Nat) (x : Session) (g : Option Grammar) {m0 : Nat} (hw : 1798844109832194 &&& m0 = 1798844109832194) :
    (State.rowZero s die p d x g).2.mask m0 = s.mask m0 := by
  refine mask_mono hw ?_
  unfold State.rowZero
  repeat' first
    | with_reducible rfl
    | with_reducible refine mask_ite_eq ?_ ?_
    | with_reducible refine mask_ite_snd_eq ?_ ?_
    | (simp (disch := decide) only [State.logitRow_mask, State.rowMask_mask, mask_ite, mask_ite_snd, ite_self]; done)
    | dsimp only
    | (with_reducible refine mask_foldl _ (fun s x => ?_) _ _)
    | (with_reducible refine mask_foldl_snd _ (fun s x => ?_) _ _)
    | (with_reducible refine (mask_foldl _ (fun s x => ?_) _ _).trans ?_)
    | (split <;> try (rename_i e; have e2 := congrArg Prod.snd e; dsimp only at e2; subst e2))
    | (simp (disch := decide) only [State.logitRow_mask, State.rowMask_mask, mask_ite, mask_ite_snd, ite_self])

theorem State.sampleStop_mask (s : State) (q die p d : Nat) (x : Session) (g : Option Grammar) (code : Nat) {m0 : Nat} (hw : 1798844109832194 &&& m0 = 1798844109832194) :
    (State.sampleStop s q die p d x g code).mask m0 = s.mask m0 := by
  refine mask_mono hw ?_
  unfold State.sampleStop
  repeat' first
    | with_reducible rfl
    | with_reducible refine mask_ite_eq ?_ ?_
    | with_reducible refine mask_ite_snd_eq ?_ ?_
    | (simp (disch := decide) only [State.rowZero_mask, State.serveDone_mask, mask_ite, mask_ite_snd, ite_self]; done)
    | dsimp only
    | (with_reducible refine mask_foldl _ (fun s x => ?_) _ _)
    | (with_reducible refine mask_foldl_snd _ (fun s x => ?_) _ _)
    | (with_reducible refine (mask_foldl _ (fun s x => ?_) _ _).trans ?_)
    | (split <;> try (rename_i e; have e2 := congrArg Prod.snd e; dsimp only at e2; subst e2))
    | (simp (disch := decide) only [State.rowZero_mask, State.serveDone_mask, mask_ite, mask_ite_snd, ite_self])

theorem State.sampleChecked_mask (s : State) (q die p d n : Nat) (x : Session) (g : Option Grammar) (l : List Nat) (c : Nat) {m0 : Nat} (hw : 1799050268262402 &&& m0 = 1799050268262402) :
    (State.sampleChecked s q die p d n x g l c).mask m0 = s.mask m0 := by
  refine mask_mono hw ?_
  unfold State.sampleChecked
  repeat' first
    | with_reducible rfl
    | with_reducible refine mask_ite_eq ?_ ?_
    | with_reducible refine mask_ite_snd_eq ?_ ?_
    | (simp (disch := decide) only [State.pcheck_mask, State.sampleRun_mask, State.sampleStop_mask, State.serveDone_mask, mask_ite, mask_ite_snd, ite_self]; done)
    | dsimp only
    | (with_reducible refine mask_foldl _ (fun s x => ?_) _ _)
    | (with_reducible refine mask_foldl_snd _ (fun s x => ?_) _ _)
    | (with_reducible refine (mask_foldl _ (fun s x => ?_) _ _).trans ?_)
    | (split <;> try (rename_i e; have e2 := congrArg Prod.snd e; dsimp only at e2; subst e2))
    | (simp (disch := decide) only [State.pcheck_mask, State.sampleRun_mask, State.sampleStop_mask, State.serveDone_mask, mask_ite, mask_ite_snd, ite_self])

theorem State.sample_mask (s : State) (q die p d : Nat) {m0 : Nat} (hw : 1799050268262402 &&& m0 = 1799050268262402) :
    (State.sample s q die p d).mask m0 = s.mask m0 := by
  refine mask_mono hw ?_
  unfold State.sample
  repeat' first
    | with_reducible rfl
    | with_reducible refine mask_ite_eq ?_ ?_
    | with_reducible refine mask_ite_snd_eq ?_ ?_
    | (simp (disch := decide) only [State.sampleChecked_mask, State.serveDone_mask, State.sessionList_mask, mask_ite, mask_ite_snd, ite_self]; done)
    | dsimp only
    | (with_reducible refine mask_foldl _ (fun s x => ?_) _ _)
    | (with_reducible refine mask_foldl_snd _ (fun s x => ?_) _ _)
    | (with_reducible refine (mask_foldl _ (fun s x => ?_) _ _).trans ?_)
    | (split <;> try (rename_i e; have e2 := congrArg Prod.snd e; dsimp only at e2; subst e2))
    | (simp (disch := decide) only [State.sampleChecked_mask, State.serveDone_mask, State.sessionList_mask, mask_ite, mask_ite_snd, ite_self])

end Sys2Proof.Machine
end

