-- ==== Sys2Proof/Laws/Frame/Video.lean ====
section
/-!
SUPPORT. Frames of Machine/Video.lean: the fields that each function may change, as a mask.
-/
namespace Sys2Proof.Machine

open Sys2Proof

set_option linter.unusedSimpArgs false

theorem State.endTurn_mask (s : State) (e q : Nat) {m0 : Nat} (hw : 2199023255552 &&& m0 = 2199023255552) :
    (State.endTurn s e q).mask m0 = s.mask m0 := by
  refine mask_mono hw ?_
  unfold State.endTurn
  repeat' first
    | with_reducible rfl
    | with_reducible refine mask_ite_eq ?_ ?_
    | with_reducible refine mask_ite_snd_eq ?_ ?_
    | (simp (disch := decide) only [State.putEngine_mask, mask_ite, mask_ite_snd, ite_self]; done)
    | dsimp only
    | (with_reducible refine mask_foldl _ (fun s x => ?_) _ _)
    | (with_reducible refine mask_foldl_snd _ (fun s x => ?_) _ _)
    | (with_reducible refine (mask_foldl _ (fun s x => ?_) _ _).trans ?_)
    | (split <;> try (rename_i e; have e2 := congrArg Prod.snd e; dsimp only at e2; subst e2))
    | (simp (disch := decide) only [State.putEngine_mask, mask_ite, mask_ite_snd, ite_self])

theorem State.videoDone_mask (s : State) (q code : Nat) {m0 : Nat} (hw : 1128098930114560 &&& m0 = 1128098930114560) :
    (State.videoDone s q code).mask m0 = s.mask m0 := by
  refine mask_mono hw ?_
  unfold State.videoDone
  repeat' first
    | with_reducible rfl
    | with_reducible refine mask_ite_eq ?_ ?_
    | with_reducible refine mask_ite_snd_eq ?_ ?_
    | (simp (disch := decide) only [State.done_mask, State.endTurn_mask, State.odInc_mask, State.ownerInc_mask, mask_ite, mask_ite_snd, ite_self]; done)
    | dsimp only
    | (with_reducible refine mask_foldl _ (fun s x => ?_) _ _)
    | (with_reducible refine mask_foldl_snd _ (fun s x => ?_) _ _)
    | (with_reducible refine (mask_foldl _ (fun s x => ?_) _ _).trans ?_)
    | (split <;> try (rename_i e; have e2 := congrArg Prod.snd e; dsimp only at e2; subst e2))
    | (simp (disch := decide) only [State.done_mask, State.endTurn_mask, State.odInc_mask, State.ownerInc_mask, mask_ite, mask_ite_snd, ite_self])

theorem State.videoCount_mask (s : State) (p sub n : Nat) {m0 : Nat} (hw : 1125899906842624 &&& m0 = 1125899906842624) :
    (State.videoCount s p sub n).mask m0 = s.mask m0 := by
  refine mask_mono hw ?_
  unfold State.videoCount
  repeat' first
    | with_reducible rfl
    | with_reducible refine mask_ite_eq ?_ ?_
    | with_reducible refine mask_ite_snd_eq ?_ ?_
    | (simp (disch := decide) only [State.odInc_mask, State.ownerInc_mask, mask_ite, mask_ite_snd, ite_self]; done)
    | dsimp only
    | (with_reducible refine mask_foldl _ (fun s x => ?_) _ _)
    | (with_reducible refine mask_foldl_snd _ (fun s x => ?_) _ _)
    | (with_reducible refine (mask_foldl _ (fun s x => ?_) _ _).trans ?_)
    | (split <;> try (rename_i e; have e2 := congrArg Prod.snd e; dsimp only at e2; subst e2))
    | (simp (disch := decide) only [State.odInc_mask, State.ownerInc_mask, mask_ite, mask_ite_snd, ite_self])

theorem State.openSpace_mask (s : State) (die p d : Nat) {m0 : Nat} (hw : 1165491052494850 &&& m0 = 1165491052494850) :
    (State.openSpace s die p d).2.mask m0 = s.mask m0 := by
  refine mask_mono hw ?_
  unfold State.openSpace
  repeat' first
    | with_reducible rfl
    | with_reducible refine mask_ite_eq ?_ ?_
    | with_reducible refine mask_ite_snd_eq ?_ ?_
    | (simp (disch := decide) only [State.partsOk_mask, mask_ite, mask_ite_snd, ite_self]; done)
    | dsimp only
    | (with_reducible refine mask_foldl _ (fun s x => ?_) _ _)
    | (with_reducible refine mask_foldl_snd _ (fun s x => ?_) _ _)
    | (with_reducible refine (mask_foldl _ (fun s x => ?_) _ _).trans ?_)
    | (split <;> try (rename_i e; have e2 := congrArg Prod.snd e; dsimp only at e2; subst e2))
    | (simp (disch := decide) only [State.partsOk_mask, mask_ite, mask_ite_snd, ite_self])

theorem State.putCtx_mask (s : State) (e c : Nat) (x : VCtx) {m0 : Nat} (hw : 2199023255552 &&& m0 = 2199023255552) :
    (State.putCtx s e c x).mask m0 = s.mask m0 := by
  refine mask_mono hw ?_
  unfold State.putCtx
  repeat' first
    | with_reducible rfl
    | with_reducible refine mask_ite_eq ?_ ?_
    | with_reducible refine mask_ite_snd_eq ?_ ?_
    | (simp (disch := decide) only [State.putEngine_mask, mask_ite, mask_ite_snd, ite_self]; done)
    | dsimp only
    | (with_reducible refine mask_foldl _ (fun s x => ?_) _ _)
    | (with_reducible refine mask_foldl_snd _ (fun s x => ?_) _ _)
    | (with_reducible refine (mask_foldl _ (fun s x => ?_) _ _).trans ?_)
    | (split <;> try (rename_i e; have e2 := congrArg Prod.snd e; dsimp only at e2; subst e2))
    | (simp (disch := decide) only [State.putEngine_mask, mask_ite, mask_ite_snd, ite_self])

theorem State.vctxOpen_mask (s : State) (q e p d : Nat) {m0 : Nat} (hw : 1449165052461154 &&& m0 = 1449165052461154) :
    (State.vctxOpen s q e p d).mask m0 = s.mask m0 := by
  refine mask_mono hw ?_
  unfold State.vctxOpen
  repeat' first
    | with_reducible rfl
    | with_reducible refine mask_ite_eq ?_ ?_
    | with_reducible refine mask_ite_snd_eq ?_ ?_
    | (simp (disch := decide) only [State.follow_mask, State.openSpace_mask, State.putCtx_mask, State.videoDone_mask, mask_ite, mask_ite_snd, ite_self]; done)
    | dsimp only
    | (with_reducible refine mask_foldl _ (fun s x => ?_) _ _)
    | (with_reducible refine mask_foldl_snd _ (fun s x => ?_) _ _)
    | (with_reducible refine (mask_foldl _ (fun s x => ?_) _ _).trans ?_)
    | (split <;> try (rename_i e; have e2 := congrArg Prod.snd e; dsimp only at e2; subst e2))
    | (simp (disch := decide) only [State.follow_mask, State.openSpace_mask, State.putCtx_mask, State.videoDone_mask, mask_ite, mask_ite_snd, ite_self])

theorem State.vctxUpdate_mask (s : State) (q e p d : Nat) {m0 : Nat} (hw : 1167690075750402 &&& m0 = 1167690075750402) :
    (State.vctxUpdate s q e p d).mask m0 = s.mask m0 := by
  refine mask_mono hw ?_
  unfold State.vctxUpdate
  repeat' first
    | with_reducible rfl
    | with_reducible refine mask_ite_eq ?_ ?_
    | with_reducible refine mask_ite_snd_eq ?_ ?_
    | (simp (disch := decide) only [State.pcheck_mask, State.putCtx_mask, State.videoDone_mask, mask_ite, mask_ite_snd, ite_self]; done)
    | dsimp only
    | (with_reducible refine mask_foldl _ (fun s x => ?_) _ _)
    | (with_reducible refine mask_foldl_snd _ (fun s x => ?_) _ _)
    | (with_reducible refine (mask_foldl _ (fun s x => ?_) _ _).trans ?_)
    | (split <;> try (rename_i e; have e2 := congrArg Prod.snd e; dsimp only at e2; subst e2))
    | (simp (disch := decide) only [State.pcheck_mask, State.putCtx_mask, State.videoDone_mask, mask_ite, mask_ite_snd, ite_self])

theorem State.vctxClose_mask (s : State) (q e d : Nat) {m0 : Nat} (hw : 1449165052461154 &&& m0 = 1449165052461154) :
    (State.vctxClose s q e d).mask m0 = s.mask m0 := by
  refine mask_mono hw ?_
  unfold State.vctxClose
  repeat' first
    | with_reducible rfl
    | with_reducible refine mask_ite_eq ?_ ?_
    | with_reducible refine mask_ite_snd_eq ?_ ?_
    | (simp (disch := decide) only [State.follow_mask, State.putEngine_mask, State.videoDone_mask, mask_ite, mask_ite_snd, ite_self]; done)
    | dsimp only
    | (with_reducible refine mask_foldl _ (fun s x => ?_) _ _)
    | (with_reducible refine mask_foldl_snd _ (fun s x => ?_) _ _)
    | (with_reducible refine (mask_foldl _ (fun s x => ?_) _ _).trans ?_)
    | (split <;> try (rename_i e; have e2 := congrArg Prod.snd e; dsimp only at e2; subst e2))
    | (simp (disch := decide) only [State.follow_mask, State.putEngine_mask, State.videoDone_mask, mask_ite, mask_ite_snd, ite_self])

theorem State.vctxDetach_mask (s : State) (q e d : Nat) {m0 : Nat} (hw : 1449165052461154 &&& m0 = 1449165052461154) :
    (State.vctxDetach s q e d).mask m0 = s.mask m0 := by
  refine mask_mono hw ?_
  unfold State.vctxDetach
  repeat' first
    | with_reducible rfl
    | with_reducible refine mask_ite_eq ?_ ?_
    | with_reducible refine mask_ite_snd_eq ?_ ?_
    | (simp (disch := decide) only [State.follow_mask, State.putCtx_mask, State.videoDone_mask, mask_ite, mask_ite_snd, ite_self]; done)
    | dsimp only
    | (with_reducible refine mask_foldl _ (fun s x => ?_) _ _)
    | (with_reducible refine mask_foldl_snd _ (fun s x => ?_) _ _)
    | (with_reducible refine (mask_foldl _ (fun s x => ?_) _ _).trans ?_)
    | (split <;> try (rename_i e; have e2 := congrArg Prod.snd e; dsimp only at e2; subst e2))
    | (simp (disch := decide) only [State.follow_mask, State.putCtx_mask, State.videoDone_mask, mask_ite, mask_ite_snd, ite_self])

theorem State.vctxAdopt_mask (s : State) (q e p d : Nat) {m0 : Nat} (hw : 1449165052461154 &&& m0 = 1449165052461154) :
    (State.vctxAdopt s q e p d).mask m0 = s.mask m0 := by
  refine mask_mono hw ?_
  unfold State.vctxAdopt
  repeat' first
    | with_reducible rfl
    | with_reducible refine mask_ite_eq ?_ ?_
    | with_reducible refine mask_ite_snd_eq ?_ ?_
    | (simp (disch := decide) only [State.follow_mask, State.putCtx_mask, State.putEngine_mask, State.videoDone_mask, mask_ite, mask_ite_snd, ite_self]; done)
    | dsimp only
    | (with_reducible refine mask_foldl _ (fun s x => ?_) _ _)
    | (with_reducible refine mask_foldl_snd _ (fun s x => ?_) _ _)
    | (with_reducible refine (mask_foldl _ (fun s x => ?_) _ _).trans ?_)
    | (split <;> try (rename_i e; have e2 := congrArg Prod.snd e; dsimp only at e2; subst e2))
    | (simp (disch := decide) only [State.follow_mask, State.putCtx_mask, State.putEngine_mask, State.videoDone_mask, mask_ite, mask_ite_snd, ite_self])

theorem State.newJob_mask (s : State) (e q b : Nat) (r : DecodeReport) {m0 : Nat} (hw : 2199023255554 &&& m0 = 2199023255554) :
    (State.newJob s e q b r).2.mask m0 = s.mask m0 := by
  refine mask_mono hw ?_
  unfold State.newJob
  repeat' first
    | with_reducible rfl
    | with_reducible refine mask_ite_eq ?_ ?_
    | with_reducible refine mask_ite_snd_eq ?_ ?_
    | (simp (disch := decide) only [setFree_mask, State.putEngine_mask, mask_ite, mask_ite_snd, ite_self]; done)
    | dsimp only
    | (with_reducible refine mask_foldl _ (fun s x => ?_) _ _)
    | (with_reducible refine mask_foldl_snd _ (fun s x => ?_) _ _)
    | (with_reducible refine (mask_foldl _ (fun s x => ?_) _ _).trans ?_)
    | (split <;> try (rename_i e; have e2 := congrArg Prod.snd e; dsimp only at e2; subst e2))
    | (simp (disch := decide) only [setFree_mask, State.putEngine_mask, mask_ite, mask_ite_snd, ite_self])

theorem State.noteVisible_mask (s : State) (e : Nat) (j : VJob) (bytes : Nat) {m0 : Nat} (hw : 1167690075750402 &&& m0 = 1167690075750402) :
    (State.noteVisible s e j bytes).mask m0 = s.mask m0 := by
  refine mask_mono hw ?_
  unfold State.noteVisible
  repeat' first
    | with_reducible rfl
    | with_reducible refine mask_ite_eq ?_ ?_
    | with_reducible refine mask_ite_snd_eq ?_ ?_
    | (simp (disch := decide) only [State.putEngine_mask, count_raise_mask, mask_ite, mask_ite_snd, ite_self]; done)
    | dsimp only
    | (with_reducible refine mask_foldl _ (fun s x => ?_) _ _)
    | (with_reducible refine mask_foldl_snd _ (fun s x => ?_) _ _)
    | (with_reducible refine (mask_foldl _ (fun s x => ?_) _ _).trans ?_)
    | (split <;> try (rename_i e; have e2 := congrArg Prod.snd e; dsimp only at e2; subst e2))
    | (simp (disch := decide) only [State.putEngine_mask, count_raise_mask, mask_ite, mask_ite_snd, ite_self])

theorem State.spoilBuffer_mask (s : State) (die p at_ n : Nat) {m0 : Nat} (hw : 1165491052494850 &&& m0 = 1165491052494850) :
    (State.spoilBuffer s die p at_ n).mask m0 = s.mask m0 := by
  refine mask_mono hw ?_
  unfold State.spoilBuffer
  repeat' first
    | with_reducible rfl
    | with_reducible refine mask_ite_eq ?_ ?_
    | with_reducible refine mask_ite_snd_eq ?_ ?_
    | (simp (disch := decide) only [setFree_mask, State.pwrite_mask, mask_ite, mask_ite_snd, ite_self]; done)
    | dsimp only
    | (with_reducible refine mask_foldl _ (fun s x => ?_) _ _)
    | (with_reducible refine mask_foldl_snd _ (fun s x => ?_) _ _)
    | (with_reducible refine (mask_foldl _ (fun s x => ?_) _ _).trans ?_)
    | (split <;> try (rename_i e; have e2 := congrArg Prod.snd e; dsimp only at e2; subst e2))
    | (simp (disch := decide) only [setFree_mask, State.pwrite_mask, mask_ite, mask_ite_snd, ite_self])

theorem State.vctxEvent_mask (s : State) (die v : Nat) {m0 : Nat} (hw : 1165491052494850 &&& m0 = 1165491052494850) :
    (State.vctxEvent s die v).mask m0 = s.mask m0 := by
  refine mask_mono hw ?_
  unfold State.vctxEvent
  repeat' first
    | with_reducible rfl
    | with_reducible refine mask_ite_eq ?_ ?_
    | with_reducible refine mask_ite_snd_eq ?_ ?_
    | (simp (disch := decide) only [State.raise_mask, mask_ite, mask_ite_snd, ite_self]; done)
    | dsimp only
    | (with_reducible refine mask_foldl _ (fun s x => ?_) _ _)
    | (with_reducible refine mask_foldl_snd _ (fun s x => ?_) _ _)
    | (with_reducible refine (mask_foldl _ (fun s x => ?_) _ _).trans ?_)
    | (split <;> try (rename_i e; have e2 := congrArg Prod.snd e; dsimp only at e2; subst e2))
    | (simp (disch := decide) only [State.raise_mask, mask_ite, mask_ite_snd, ite_self])

theorem State.progress_mask (s : State) (die p v picture : Nat) (fin : Bool) (count bytes : Nat) {m0 : Nat} (hw : 1165491052494850 &&& m0 = 1165491052494850) :
    (State.progress s die p v picture fin count bytes).mask m0 = s.mask m0 := by
  refine mask_mono hw ?_
  unfold State.progress
  repeat' first
    | with_reducible rfl
    | with_reducible refine mask_ite_eq ?_ ?_
    | with_reducible refine mask_ite_snd_eq ?_ ?_
    | (simp (disch := decide) only [State.pwrite_mask, State.vctxEvent_mask, count_raise_mask, mask_ite, mask_ite_snd, ite_self]; done)
    | dsimp only
    | (with_reducible refine mask_foldl _ (fun s x => ?_) _ _)
    | (with_reducible refine mask_foldl_snd _ (fun s x => ?_) _ _)
    | (with_reducible refine (mask_foldl _ (fun s x => ?_) _ _).trans ?_)
    | (split <;> try (rename_i e; have e2 := congrArg Prod.snd e; dsimp only at e2; subst e2))
    | (simp (disch := decide) only [State.pwrite_mask, State.vctxEvent_mask, count_raise_mask, mask_ite, mask_ite_snd, ite_self])

theorem State.showPieces_mask (die p v picture n : Nat) (bytes : Nat → Nat) (put : State → Nat → State) (hp : ∀ s k, (put s k).mask 1165491052494850 = s.mask 1165491052494850)
    (xs : List Nat) (s : State) {m0 : Nat} (hw : 1165491052494850 &&& m0 = 1165491052494850) :
    (s.showPieces die p v picture n bytes put xs).mask m0 = s.mask m0 := by
  refine mask_mono hw ?_
  clear hw
  induction xs generalizing s with
  | nil => rfl
  | cons k ks ih =>
    unfold State.showPieces
    dsimp only
    split <;> simp (disch := decide) only [ih, hp, State.progress_mask]

theorem State.writeBand_mask (s : State) (die p at_ : Nat) (x : Content) (k : Nat) {m0 : Nat} (hw : 1165491052494850 &&& m0 = 1165491052494850) :
    (State.writeBand s die p at_ x k).mask m0 = s.mask m0 := by
  refine mask_mono hw ?_
  unfold State.writeBand
  repeat' first
    | with_reducible rfl
    | with_reducible refine mask_ite_eq ?_ ?_
    | with_reducible refine mask_ite_snd_eq ?_ ?_
    | (simp (disch := decide) only [State.pwrite_mask, mask_ite, mask_ite_snd, ite_self]; done)
    | dsimp only
    | (with_reducible refine mask_foldl _ (fun s x => ?_) _ _)
    | (with_reducible refine mask_foldl_snd _ (fun s x => ?_) _ _)
    | (with_reducible refine (mask_foldl _ (fun s x => ?_) _ _).trans ?_)
    | (split <;> try (rename_i e; have e2 := congrArg Prod.snd e; dsimp only at e2; subst e2))
    | (simp (disch := decide) only [State.pwrite_mask, mask_ite, mask_ite_snd, ite_self])

theorem State.writeRgb_mask (s : State) (die p at_ v : Nat) (x : Content) (sp : StreamParams) (py : Nat) {m0 : Nat} (hw : 1165491052494850 &&& m0 = 1165491052494850) :
    (State.writeRgb s die p at_ v x sp py).mask m0 = s.mask m0 := by
  refine mask_mono hw ?_
  unfold State.writeRgb
  repeat' first
    | with_reducible rfl
    | with_reducible refine mask_ite_eq ?_ ?_
    | with_reducible refine mask_ite_snd_eq ?_ ?_
    | (simp (disch := decide) only [State.pwrite_mask, mask_ite, mask_ite_snd, ite_self]; done)
    | dsimp only
    | (with_reducible refine mask_foldl _ (fun s x => ?_) _ _)
    | (with_reducible refine mask_foldl_snd _ (fun s x => ?_) _ _)
    | (with_reducible refine (mask_foldl _ (fun s x => ?_) _ _).trans ?_)
    | (split <;> try (rename_i e; have e2 := congrArg Prod.snd e; dsimp only at e2; subst e2))
    | (simp (disch := decide) only [State.pwrite_mask, mask_ite, mask_ite_snd, ite_self])

theorem State.decodeSpace_mask (s : State) (die p d v : Nat) (buf : Option Nat) {m0 : Nat} (hw : 1165491052494850 &&& m0 = 1165491052494850) :
    (State.decodeSpace s die p d v buf).2.mask m0 = s.mask m0 := by
  refine mask_mono hw ?_
  unfold State.decodeSpace
  repeat' first
    | with_reducible rfl
    | with_reducible refine mask_ite_eq ?_ ?_
    | with_reducible refine mask_ite_snd_eq ?_ ?_
    | (simp (disch := decide) only [State.partsOk_mask, State.pcheck_mask, mask_ite, mask_ite_snd, ite_self]; done)
    | dsimp only
    | (with_reducible refine mask_foldl _ (fun s x => ?_) _ _)
    | (with_reducible refine mask_foldl_snd _ (fun s x => ?_) _ _)
    | (with_reducible refine (mask_foldl _ (fun s x => ?_) _ _).trans ?_)
    | (split <;> try (rename_i e; have e2 := congrArg Prod.snd e; dsimp only at e2; subst e2))
    | (simp (disch := decide) only [State.partsOk_mask, State.pcheck_mask, mask_ite, mask_ite_snd, ite_self])

theorem State.refsBad_mask (s : State) (die p v mask : Nat) {m0 : Nat} (hw : 8727035906 &&& m0 = 8727035906) :
    (State.refsBad s die p v mask).2.mask m0 = s.mask m0 := by
  refine mask_mono hw ?_
  unfold State.refsBad
  repeat' first
    | with_reducible rfl
    | with_reducible refine mask_ite_eq ?_ ?_
    | with_reducible refine mask_ite_snd_eq ?_ ?_
    | (simp (disch := decide) only [State.rawRead_mask, mask_ite, mask_ite_snd, ite_self]; done)
    | dsimp only
    | (with_reducible refine mask_foldl _ (fun s x => ?_) _ _)
    | (with_reducible refine mask_foldl_snd _ (fun s x => ?_) _ _)
    | (with_reducible refine (mask_foldl _ (fun s x => ?_) _ _).trans ?_)
    | (split <;> try (rename_i e; have e2 := congrArg Prod.snd e; dsimp only at e2; subst e2))
    | (simp (disch := decide) only [State.rawRead_mask, mask_ite, mask_ite_snd, ite_self])

theorem State.refPoison_mask (s : State) (die p v mask : Nat) (inter : Bool) {m0 : Nat} (hw : 8727035906 &&& m0 = 8727035906) :
    (State.refPoison s die p v mask inter).2.mask m0 = s.mask m0 := by
  refine mask_mono hw ?_
  unfold State.refPoison
  repeat' first
    | with_reducible rfl
    | with_reducible refine mask_ite_eq ?_ ?_
    | with_reducible refine mask_ite_snd_eq ?_ ?_
    | (simp (disch := decide) only [State.drawBool_mask, State.refsBad_mask, mask_ite, mask_ite_snd, ite_self]; done)
    | dsimp only
    | (with_reducible refine mask_foldl _ (fun s x => ?_) _ _)
    | (with_reducible refine mask_foldl_snd _ (fun s x => ?_) _ _)
    | (with_reducible refine (mask_foldl _ (fun s x => ?_) _ _).trans ?_)
    | (split <;> try (rename_i e; have e2 := congrArg Prod.snd e; dsimp only at e2; subst e2))
    | (simp (disch := decide) only [State.drawBool_mask, State.refsBad_mask, mask_ite, mask_ite_snd, ite_self])

theorem State.countRecord_mask (s : State) (e p : Nat) (w : Judged) {m0 : Nat} (hw : 1165491052494850 &&& m0 = 1165491052494850) :
    (State.countRecord s e p w).mask m0 = s.mask m0 := by
  refine mask_mono hw ?_
  unfold State.countRecord
  repeat' first
    | with_reducible rfl
    | with_reducible refine mask_ite_eq ?_ ?_
    | with_reducible refine mask_ite_snd_eq ?_ ?_
    | (simp (disch := decide) only [State.bumpDie_mask, State.odInc_mask, State.videoCount_mask, mask_ite, mask_ite_snd, ite_self]; done)
    | dsimp only
    | (with_reducible refine mask_foldl _ (fun s x => ?_) _ _)
    | (with_reducible refine mask_foldl_snd _ (fun s x => ?_) _ _)
    | (with_reducible refine (mask_foldl _ (fun s x => ?_) _ _).trans ?_)
    | (split <;> try (rename_i e; have e2 := congrArg Prod.snd e; dsimp only at e2; subst e2))
    | (simp (disch := decide) only [State.bumpDie_mask, State.odInc_mask, State.videoCount_mask, mask_ite, mask_ite_snd, ite_self])

theorem State.decodeOut_mask (s : State) (q e p d : Nat) (c : VCtx) (r : DecodeReport) (w : Judged) (h : VPic) (b : Nat) {m0 : Nat} (hw : 1167690075750402 &&& m0 = 1167690075750402) :
    (State.decodeOut s q e p d c r w h b).mask m0 = s.mask m0 := by
  refine mask_mono hw ?_
  unfold State.decodeOut
  repeat' first
    | with_reducible rfl
    | with_reducible refine mask_ite_eq ?_ ?_
    | with_reducible refine mask_ite_snd_eq ?_ ?_
    | (simp (disch := decide) only [State.countRecord_mask, State.putCtx_mask, State.pwrite_mask, State.videoDone_mask, mask_ite, mask_ite_snd, ite_self]; done)
    | dsimp only
    | (with_reducible refine mask_foldl _ (fun s x => ?_) _ _)
    | (with_reducible refine mask_foldl_snd _ (fun s x => ?_) _ _)
    | (with_reducible refine (mask_foldl _ (fun s x => ?_) _ _).trans ?_)
    | (split <;> try (rename_i e; have e2 := congrArg Prod.snd e; dsimp only at e2; subst e2))
    | (simp (disch := decide) only [State.countRecord_mask, State.putCtx_mask, State.pwrite_mask, State.videoDone_mask, mask_ite, mask_ite_snd, ite_self])

theorem State.decodeFail_mask (s : State) (q e p v : Nat) (b : Option Nat) (code : Nat) {m0 : Nat} (hw : 1167690075750402 &&& m0 = 1167690075750402) :
    (State.decodeFail s q e p v b code).mask m0 = s.mask m0 := by
  refine mask_mono hw ?_
  unfold State.decodeFail
  repeat' first
    | with_reducible rfl
    | with_reducible refine mask_ite_eq ?_ ?_
    | with_reducible refine mask_ite_snd_eq ?_ ?_
    | (simp (disch := decide) only [State.spoilBuffer_mask, State.videoDone_mask, mask_ite, mask_ite_snd, ite_self]; done)
    | dsimp only
    | (with_reducible refine mask_foldl _ (fun s x => ?_) _ _)
    | (with_reducible refine mask_foldl_snd _ (fun s x => ?_) _ _)
    | (with_reducible refine (mask_foldl _ (fun s x => ?_) _ _).trans ?_)
    | (split <;> try (rename_i e; have e2 := congrArg Prod.snd e; dsimp only at e2; subst e2))
    | (simp (disch := decide) only [State.spoilBuffer_mask, State.videoDone_mask, mask_ite, mask_ite_snd, ite_self])

theorem State.decodeJob_mask (s : State) (q e p d : Nat) (r : DecodeReport) {m0 : Nat} (hw : 1801043133087746 &&& m0 = 1801043133087746) :
    (State.decodeJob s q e p d r).2.mask m0 = s.mask m0 := by
  refine mask_mono hw ?_
  unfold State.decodeJob
  repeat' first
    | with_reducible rfl
    | with_reducible refine mask_ite_eq ?_ ?_
    | with_reducible refine mask_ite_snd_eq ?_ ?_
    | (simp (disch := decide) only [State.decodeSpace_mask, State.mread_mask, State.newJob_mask, mask_ite, mask_ite_snd, ite_self]; done)
    | dsimp only
    | (with_reducible refine mask_foldl _ (fun s x => ?_) _ _)
    | (with_reducible refine mask_foldl_snd _ (fun s x => ?_) _ _)
    | (with_reducible refine (mask_foldl _ (fun s x => ?_) _ _).trans ?_)
    | (split <;> try (rename_i e; have e2 := congrArg Prod.snd e; dsimp only at e2; subst e2))
    | (simp (disch := decide) only [State.decodeSpace_mask, State.mread_mask, State.newJob_mask, mask_ite, mask_ite_snd, ite_self])

theorem State.content_mask (s : State) (die p : Nat) (c : VCtx) (j : VJob) (w : Judged) (sp : StreamParams) {m0 : Nat} (hw : 1798844109832194 &&& m0 = 1798844109832194) :
    (State.content s die p c j w sp).2.mask m0 = s.mask m0 := by
  refine mask_mono hw ?_
  unfold State.content
  repeat' first
    | with_reducible rfl
    | with_reducible refine mask_ite_eq ?_ ?_
    | with_reducible refine mask_ite_snd_eq ?_ ?_
    | (simp (disch := decide) only [State.mread_mask, mask_ite, mask_ite_snd, ite_self]; done)
    | dsimp only
    | (with_reducible refine mask_foldl _ (fun s x => ?_) _ _)
    | (with_reducible refine mask_foldl_snd _ (fun s x => ?_) _ _)
    | (with_reducible refine (mask_foldl _ (fun s x => ?_) _ _).trans ?_)
    | (split <;> try (rename_i e; have e2 := congrArg Prod.snd e; dsimp only at e2; subst e2))
    | (simp (disch := decide) only [State.mread_mask, mask_ite, mask_ite_snd, ite_self])

theorem State.decodedBand_mask (s : State) (die p v b : Nat) (x : Content) (sp : StreamParams) (k : Nat) {m0 : Nat} (hw : 1165491052494850 &&& m0 = 1165491052494850) :
    (State.decodedBand s die p v b x sp k).mask m0 = s.mask m0 := by
  refine mask_mono hw ?_
  unfold State.decodedBand
  repeat' first
    | with_reducible rfl
    | with_reducible refine mask_ite_eq ?_ ?_
    | with_reducible refine mask_ite_snd_eq ?_ ?_
    | (simp (disch := decide) only [State.writeBand_mask, State.writeRgb_mask, mask_ite, mask_ite_snd, ite_self]; done)
    | dsimp only
    | (with_reducible refine mask_foldl _ (fun s x => ?_) _ _)
    | (with_reducible refine mask_foldl_snd _ (fun s x => ?_) _ _)
    | (with_reducible refine (mask_foldl _ (fun s x => ?_) _ _).trans ?_)
    | (split <;> try (rename_i e; have e2 := congrArg Prod.snd e; dsimp only at e2; subst e2))
    | (simp (disch := decide) only [State.writeBand_mask, State.writeRgb_mask, mask_ite, mask_ite_snd, ite_self])

theorem State.decodedBand_pieces_mask (die p v b : Nat) (x : Content) (sp : StreamParams) (die' p' v' picture' n' : Nat) (bytes' : Nat → Nat) (xs' : List Nat) (s : State) {m0 : Nat}
    (hw : 1165491052494850 &&& m0 = 1165491052494850) :
    (s.showPieces die' p' v' picture' n' bytes' (fun s k => s.decodedBand die p v b x sp k) xs').mask m0 = s.mask m0 :=
  State.showPieces_mask die' p' v' picture' n' bytes' _ (fun s k => State.decodedBand_mask s die p v b x sp k (by decide)) xs' s hw


theorem State.decodePicture_mask (s : State) (q e p d : Nat) (c : VCtx) (j : VJob) (w : Judged) (sp : StreamParams) {m0 : Nat} (hw : 1801043133087746 &&& m0 = 1801043133087746) :
    (State.decodePicture s q e p d c j w sp).mask m0 = s.mask m0 := by
  refine mask_mono hw ?_
  unfold State.decodePicture
  repeat' first
    | with_reducible rfl
    | with_reducible refine mask_ite_eq ?_ ?_
    | with_reducible refine mask_ite_snd_eq ?_ ?_
    | (simp (disch := decide) only [State.content_mask, State.decodeFail_mask, State.decodeOut_mask, State.decodedBand_mask, State.refPoison_mask, State.decodedBand_pieces_mask, mask_ite, mask_ite_snd, ite_self]; done)
    | dsimp only
    | (with_reducible refine mask_foldl _ (fun s x => ?_) _ _)
    | (with_reducible refine mask_foldl_snd _ (fun s x => ?_) _ _)
    | (with_reducible refine (mask_foldl _ (fun s x => ?_) _ _).trans ?_)
    | (split <;> try (rename_i e; have e2 := congrArg Prod.snd e; dsimp only at e2; subst e2))
    | (simp (disch := decide) only [State.content_mask, State.decodeFail_mask, State.decodeOut_mask, State.decodedBand_mask, State.refPoison_mask, State.decodedBand_pieces_mask, mask_ite, mask_ite_snd, ite_self])

theorem State.paramsOr_mask (s : State) (x : Option StreamParams) {m0 : Nat} (hw : 2 &&& m0 = 2) :
    (State.paramsOr s x).2.mask m0 = s.mask m0 := by
  refine mask_mono hw ?_
  unfold State.paramsOr
  repeat' first
    | with_reducible rfl
    | with_reducible refine mask_ite_eq ?_ ?_
    | with_reducible refine mask_ite_snd_eq ?_ ?_
    | (simp (disch := decide) only [State.drawNat_mask, mask_ite, mask_ite_snd, ite_self]; done)
    | dsimp only
    | (with_reducible refine mask_foldl _ (fun s x => ?_) _ _)
    | (with_reducible refine mask_foldl_snd _ (fun s x => ?_) _ _)
    | (with_reducible refine (mask_foldl _ (fun s x => ?_) _ _).trans ?_)
    | (split <;> try (rename_i e; have e2 := congrArg Prod.snd e; dsimp only at e2; subst e2))
    | (simp (disch := decide) only [State.drawNat_mask, mask_ite, mask_ite_snd, ite_self])

theorem State.decodeEnd_mask (s : State) (q e p d : Nat) (c : VCtx) (j : VJob) {m0 : Nat} (hw : 1801043133087746 &&& m0 = 1801043133087746) :
    (State.decodeEnd s q e p d c j).mask m0 = s.mask m0 := by
  refine mask_mono hw ?_
  unfold State.decodeEnd
  repeat' first
    | with_reducible rfl
    | with_reducible refine mask_ite_eq ?_ ?_
    | with_reducible refine mask_ite_snd_eq ?_ ?_
    | (simp (disch := decide) only [State.decodeOut_mask, State.decodePicture_mask, State.paramsOr_mask, State.progress_mask, mask_ite, mask_ite_snd, ite_self]; done)
    | dsimp only
    | (with_reducible refine mask_foldl _ (fun s x => ?_) _ _)
    | (with_reducible refine mask_foldl_snd _ (fun s x => ?_) _ _)
    | (with_reducible refine (mask_foldl _ (fun s x => ?_) _ _).trans ?_)
    | (split <;> try (rename_i e; have e2 := congrArg Prod.snd e; dsimp only at e2; subst e2))
    | (simp (disch := decide) only [State.decodeOut_mask, State.decodePicture_mask, State.paramsOr_mask, State.progress_mask, mask_ite, mask_ite_snd, ite_self])

theorem State.decode_mask (s : State) (q e p d : Nat) (r : DecodeReport) {m0 : Nat} (hw : 1801043133087746 &&& m0 = 1801043133087746) :
    (State.decode s q e p d r).mask m0 = s.mask m0 := by
  refine mask_mono hw ?_
  unfold State.decode
  repeat' first
    | with_reducible rfl
    | with_reducible refine mask_ite_eq ?_ ?_
    | with_reducible refine mask_ite_snd_eq ?_ ?_
    | (simp (disch := decide) only [State.decodeEnd_mask, State.decodeFail_mask, State.decodeJob_mask, mask_ite, mask_ite_snd, ite_self]; done)
    | dsimp only
    | (with_reducible refine mask_foldl _ (fun s x => ?_) _ _)
    | (with_reducible refine mask_foldl_snd _ (fun s x => ?_) _ _)
    | (with_reducible refine (mask_foldl _ (fun s x => ?_) _ _).trans ?_)
    | (split <;> try (rename_i e; have e2 := congrArg Prod.snd e; dsimp only at e2; subst e2))
    | (simp (disch := decide) only [State.decodeEnd_mask, State.decodeFail_mask, State.decodeJob_mask, mask_ite, mask_ite_snd, ite_self])

theorem State.writeStats_mask (s : State) (die p key v at_ : Nat) (pic : List Byte) (idr : Bool) {m0 : Nat} (hw : 1165491052494850 &&& m0 = 1165491052494850) :
    (State.writeStats s die p key v at_ pic idr).mask m0 = s.mask m0 := by
  refine mask_mono hw ?_
  unfold State.writeStats
  repeat' first
    | with_reducible rfl
    | with_reducible refine mask_ite_eq ?_ ?_
    | with_reducible refine mask_ite_snd_eq ?_ ?_
    | (simp (disch := decide) only [State.pwrite_mask, mask_ite, mask_ite_snd, ite_self]; done)
    | dsimp only
    | (with_reducible refine mask_foldl _ (fun s x => ?_) _ _)
    | (with_reducible refine mask_foldl_snd _ (fun s x => ?_) _ _)
    | (with_reducible refine (mask_foldl _ (fun s x => ?_) _ _).trans ?_)
    | (split <;> try (rename_i e; have e2 := congrArg Prod.snd e; dsimp only at e2; subst e2))
    | (simp (disch := decide) only [State.pwrite_mask, mask_ite, mask_ite_snd, ite_self])

theorem State.encodeSpace_mask (s : State) (die p d v : Nat) {m0 : Nat} (hw : 1165491052494850 &&& m0 = 1165491052494850) :
    (State.encodeSpace s die p d v).2.mask m0 = s.mask m0 := by
  refine mask_mono hw ?_
  unfold State.encodeSpace
  repeat' first
    | with_reducible rfl
    | with_reducible refine mask_ite_eq ?_ ?_
    | with_reducible refine mask_ite_snd_eq ?_ ?_
    | (simp (disch := decide) only [State.partsOk_mask, mask_ite, mask_ite_snd, ite_self]; done)
    | dsimp only
    | (with_reducible refine mask_foldl _ (fun s x => ?_) _ _)
    | (with_reducible refine mask_foldl_snd _ (fun s x => ?_) _ _)
    | (with_reducible refine (mask_foldl _ (fun s x => ?_) _ _).trans ?_)
    | (split <;> try (rename_i e; have e2 := congrArg Prod.snd e; dsimp only at e2; subst e2))
    | (simp (disch := decide) only [State.partsOk_mask, mask_ite, mask_ite_snd, ite_self])

theorem State.encodeCheck_mask (s : State) (q e p d : Nat) {m0 : Nat} (hw : 1165491052494850 &&& m0 = 1165491052494850) :
    (State.encodeCheck s q e p d).2.mask m0 = s.mask m0 := by
  refine mask_mono hw ?_
  unfold State.encodeCheck
  repeat' first
    | with_reducible rfl
    | with_reducible refine mask_ite_eq ?_ ?_
    | with_reducible refine mask_ite_snd_eq ?_ ?_
    | (simp (disch := decide) only [State.encodeSpace_mask, mask_ite, mask_ite_snd, ite_self]; done)
    | dsimp only
    | (with_reducible refine mask_foldl _ (fun s x => ?_) _ _)
    | (with_reducible refine mask_foldl_snd _ (fun s x => ?_) _ _)
    | (with_reducible refine (mask_foldl _ (fun s x => ?_) _ _).trans ?_)
    | (split <;> try (rename_i e; have e2 := congrArg Prod.snd e; dsimp only at e2; subst e2))
    | (simp (disch := decide) only [State.encodeSpace_mask, mask_ite, mask_ite_snd, ite_self])

theorem State.reconBuffer_mask (s : State) (c : VCtx) {m0 : Nat} (hw : 2 &&& m0 = 2) :
    (State.reconBuffer s c).2.mask m0 = s.mask m0 := by
  refine mask_mono hw ?_
  unfold State.reconBuffer
  repeat' first
    | with_reducible rfl
    | with_reducible refine mask_ite_eq ?_ ?_
    | with_reducible refine mask_ite_snd_eq ?_ ?_
    | (simp (disch := decide) only [State.drawNat_mask, mask_ite, mask_ite_snd, ite_self]; done)
    | dsimp only
    | (with_reducible refine mask_foldl _ (fun s x => ?_) _ _)
    | (with_reducible refine mask_foldl_snd _ (fun s x => ?_) _ _)
    | (with_reducible refine (mask_foldl _ (fun s x => ?_) _ _).trans ?_)
    | (split <;> try (rename_i e; have e2 := congrArg Prod.snd e; dsimp only at e2; subst e2))
    | (simp (disch := decide) only [State.drawNat_mask, mask_ite, mask_ite_snd, ite_self])

theorem State.encodeFail_mask (s : State) (q e p d v b code : Nat) {m0 : Nat} (hw : 1167690075750402 &&& m0 = 1167690075750402) :
    (State.encodeFail s q e p d v b code).mask m0 = s.mask m0 := by
  refine mask_mono hw ?_
  unfold State.encodeFail
  repeat' first
    | with_reducible rfl
    | with_reducible refine mask_ite_eq ?_ ?_
    | with_reducible refine mask_ite_snd_eq ?_ ?_
    | (simp (disch := decide) only [State.drawNat_mask, State.spoilBuffer_mask, State.videoDone_mask, mask_ite, mask_ite_snd, ite_self]; done)
    | dsimp only
    | (with_reducible refine mask_foldl _ (fun s x => ?_) _ _)
    | (with_reducible refine mask_foldl_snd _ (fun s x => ?_) _ _)
    | (with_reducible refine (mask_foldl _ (fun s x => ?_) _ _).trans ?_)
    | (split <;> try (rename_i e; have e2 := congrArg Prod.snd e; dsimp only at e2; subst e2))
    | (simp (disch := decide) only [State.drawNat_mask, State.spoilBuffer_mask, State.videoDone_mask, mask_ite, mask_ite_snd, ite_self])

theorem State.encodeJob_mask (s : State) (q e p d : Nat) {m0 : Nat} (hw : 1167690075750402 &&& m0 = 1167690075750402) :
    (State.encodeJob s q e p d).2.mask m0 = s.mask m0 := by
  refine mask_mono hw ?_
  unfold State.encodeJob
  repeat' first
    | with_reducible rfl
    | with_reducible refine mask_ite_eq ?_ ?_
    | with_reducible refine mask_ite_snd_eq ?_ ?_
    | (simp (disch := decide) only [State.encodeCheck_mask, State.newJob_mask, State.reconBuffer_mask, mask_ite, mask_ite_snd, ite_self]; done)
    | dsimp only
    | (with_reducible refine mask_foldl _ (fun s x => ?_) _ _)
    | (with_reducible refine mask_foldl_snd _ (fun s x => ?_) _ _)
    | (with_reducible refine (mask_foldl _ (fun s x => ?_) _ _).trans ?_)
    | (split <;> try (rename_i e; have e2 := congrArg Prod.snd e; dsimp only at e2; subst e2))
    | (simp (disch := decide) only [State.encodeCheck_mask, State.newJob_mask, State.reconBuffer_mask, mask_ite, mask_ite_snd, ite_self])

theorem State.encodeReads_mask (s : State) (die p d v : Nat) {m0 : Nat} (hw : 1798844110888962 &&& m0 = 1798844110888962) :
    (State.encodeReads s die p d v).2.mask m0 = s.mask m0 := by
  refine mask_mono hw ?_
  unfold State.encodeReads
  repeat' first
    | with_reducible rfl
    | with_reducible refine mask_ite_eq ?_ ?_
    | with_reducible refine mask_ite_snd_eq ?_ ?_
    | (simp (disch := decide) only [State.getParts_mask, State.mread_mask, mask_ite, mask_ite_snd, ite_self]; done)
    | dsimp only
    | (with_reducible refine mask_foldl _ (fun s x => ?_) _ _)
    | (with_reducible refine mask_foldl_snd _ (fun s x => ?_) _ _)
    | (with_reducible refine (mask_foldl _ (fun s x => ?_) _ _).trans ?_)
    | (split <;> try (rename_i e; have e2 := congrArg Prod.snd e; dsimp only at e2; subst e2))
    | (simp (disch := decide) only [State.getParts_mask, State.mread_mask, mask_ite, mask_ite_snd, ite_self])

theorem State.writeSlice_mask (s : State) (die p v out key : Nat) (idr : Bool) (ends : List Nat) (k : Nat) {m0 : Nat} (hw : 1165491052494850 &&& m0 = 1165491052494850) :
    (State.writeSlice s die p v out key idr ends k).mask m0 = s.mask m0 := by
  refine mask_mono hw ?_
  unfold State.writeSlice
  repeat' first
    | with_reducible rfl
    | with_reducible refine mask_ite_eq ?_ ?_
    | with_reducible refine mask_ite_snd_eq ?_ ?_
    | (simp (disch := decide) only [State.pwrite_mask, mask_ite, mask_ite_snd, ite_self]; done)
    | dsimp only
    | (with_reducible refine mask_foldl _ (fun s x => ?_) _ _)
    | (with_reducible refine mask_foldl_snd _ (fun s x => ?_) _ _)
    | (with_reducible refine (mask_foldl _ (fun s x => ?_) _ _).trans ?_)
    | (split <;> try (rename_i e; have e2 := congrArg Prod.snd e; dsimp only at e2; subst e2))
    | (simp (disch := decide) only [State.pwrite_mask, mask_ite, mask_ite_snd, ite_self])

theorem State.writeSlice_pieces_mask (die p v out key : Nat) (idr : Bool) (ends : List Nat) (die' p' v' picture' n' : Nat) (bytes' : Nat → Nat) (xs' : List Nat) (s : State) {m0 : Nat}
    (hw : 1165491052494850 &&& m0 = 1165491052494850) :
    (s.showPieces die' p' v' picture' n' bytes' (fun s k => s.writeSlice die p v out key idr ends k) xs').mask m0 = s.mask m0 :=
  State.showPieces_mask die' p' v' picture' n' bytes' _ (fun s k => State.writeSlice_mask s die p v out key idr ends k (by decide)) xs' s hw


theorem State.firstVisible_mask (s : State) (j : VJob) {m0 : Nat} (hw : 2 &&& m0 = 2) :
    (State.firstVisible s j).2.mask m0 = s.mask m0 := by
  refine mask_mono hw ?_
  unfold State.firstVisible
  repeat' first
    | with_reducible rfl
    | with_reducible refine mask_ite_eq ?_ ?_
    | with_reducible refine mask_ite_snd_eq ?_ ?_
    | (simp (disch := decide) only [State.drawNat_mask, mask_ite, mask_ite_snd, ite_self]; done)
    | dsimp only
    | (with_reducible refine mask_foldl _ (fun s x => ?_) _ _)
    | (with_reducible refine mask_foldl_snd _ (fun s x => ?_) _ _)
    | (with_reducible refine (mask_foldl _ (fun s x => ?_) _ _).trans ?_)
    | (split <;> try (rename_i e; have e2 := congrArg Prod.snd e; dsimp only at e2; subst e2))
    | (simp (disch := decide) only [State.drawNat_mask, mask_ite, mask_ite_snd, ite_self])

theorem State.encodeEnd_mask (s : State) (q e p d : Nat) (c : VCtx) (j : VJob) (pic : List Byte) (regions : List Nat) (r : EncodeReport) {m0 : Nat} (hw : 1167690075750402 &&& m0 = 1167690075750402) :
    (State.encodeEnd s q e p d c j pic regions r).mask m0 = s.mask m0 := by
  refine mask_mono hw ?_
  unfold State.encodeEnd
  repeat' first
    | with_reducible rfl
    | with_reducible refine mask_ite_eq ?_ ?_
    | with_reducible refine mask_ite_snd_eq ?_ ?_
    | (simp (disch := decide) only [State.bumpDie_mask, State.drawBool_mask, State.firstVisible_mask, State.odInc_mask, State.putCtx_mask, State.pwrite_mask, State.writeSlice_pieces_mask, State.videoCount_mask, State.videoDone_mask, State.writeBand_mask, State.writeSlice_mask, State.writeStats_mask, mask_ite, mask_ite_snd, ite_self]; done)
    | dsimp only
    | (with_reducible refine mask_foldl _ (fun s x => ?_) _ _)
    | (with_reducible refine mask_foldl_snd _ (fun s x => ?_) _ _)
    | (with_reducible refine (mask_foldl _ (fun s x => ?_) _ _).trans ?_)
    | (split <;> try (rename_i e; have e2 := congrArg Prod.snd e; dsimp only at e2; subst e2))
    | (simp (disch := decide) only [State.bumpDie_mask, State.drawBool_mask, State.firstVisible_mask, State.odInc_mask, State.putCtx_mask, State.pwrite_mask, State.writeSlice_pieces_mask, State.videoCount_mask, State.videoDone_mask, State.writeBand_mask, State.writeSlice_mask, State.writeStats_mask, mask_ite, mask_ite_snd, ite_self])

theorem State.encode_mask (s : State) (q e p d : Nat) (r : EncodeReport) {m0 : Nat} (hw : 1801043134144514 &&& m0 = 1801043134144514) :
    (State.encode s q e p d r).mask m0 = s.mask m0 := by
  refine mask_mono hw ?_
  unfold State.encode
  repeat' first
    | with_reducible rfl
    | with_reducible refine mask_ite_eq ?_ ?_
    | with_reducible refine mask_ite_snd_eq ?_ ?_
    | (simp (disch := decide) only [State.encodeEnd_mask, State.encodeFail_mask, State.encodeJob_mask, State.encodeReads_mask, State.refPoison_mask, State.videoDone_mask, mask_ite, mask_ite_snd, ite_self]; done)
    | dsimp only
    | (with_reducible refine mask_foldl _ (fun s x => ?_) _ _)
    | (with_reducible refine mask_foldl_snd _ (fun s x => ?_) _ _)
    | (with_reducible refine (mask_foldl _ (fun s x => ?_) _ _).trans ?_)
    | (split <;> try (rename_i e; have e2 := congrArg Prod.snd e; dsimp only at e2; subst e2))
    | (simp (disch := decide) only [State.encodeEnd_mask, State.encodeFail_mask, State.encodeJob_mask, State.encodeReads_mask, State.refPoison_mask, State.videoDone_mask, mask_ite, mask_ite_snd, ite_self])

theorem State.sliceVisible_mask (s : State) (q e p d count bytes : Nat) {m0 : Nat} (hw : 1801043134144514 &&& m0 = 1801043134144514) :
    (State.sliceVisible s q e p d count bytes).mask m0 = s.mask m0 := by
  refine mask_mono hw ?_
  unfold State.sliceVisible
  repeat' first
    | with_reducible rfl
    | with_reducible refine mask_ite_eq ?_ ?_
    | with_reducible refine mask_ite_snd_eq ?_ ?_
    | (simp (disch := decide) only [State.encodeJob_mask, State.encodeReads_mask, State.noteVisible_mask, State.progress_mask, State.writeSlice_mask, count_raise_mask, mask_ite, mask_ite_snd, ite_self]; done)
    | dsimp only
    | (with_reducible refine mask_foldl _ (fun s x => ?_) _ _)
    | (with_reducible refine mask_foldl_snd _ (fun s x => ?_) _ _)
    | (with_reducible refine (mask_foldl _ (fun s x => ?_) _ _).trans ?_)
    | (split <;> try (rename_i e; have e2 := congrArg Prod.snd e; dsimp only at e2; subst e2))
    | (simp (disch := decide) only [State.encodeJob_mask, State.encodeReads_mask, State.noteVisible_mask, State.progress_mask, State.writeSlice_mask, count_raise_mask, mask_ite, mask_ite_snd, ite_self])

theorem State.bandFinal_mask (s : State) (q e p d count : Nat) (r : DecodeReport) {m0 : Nat} (hw : 1801043133087746 &&& m0 = 1801043133087746) :
    (State.bandFinal s q e p d count r).mask m0 = s.mask m0 := by
  refine mask_mono hw ?_
  unfold State.bandFinal
  repeat' first
    | with_reducible rfl
    | with_reducible refine mask_ite_eq ?_ ?_
    | with_reducible refine mask_ite_snd_eq ?_ ?_
    | (simp (disch := decide) only [State.content_mask, State.decodeJob_mask, State.decodedBand_mask, State.noteVisible_mask, State.progress_mask, count_raise_mask, mask_ite, mask_ite_snd, ite_self]; done)
    | dsimp only
    | (with_reducible refine mask_foldl _ (fun s x => ?_) _ _)
    | (with_reducible refine mask_foldl_snd _ (fun s x => ?_) _ _)
    | (with_reducible refine (mask_foldl _ (fun s x => ?_) _ _).trans ?_)
    | (split <;> try (rename_i e; have e2 := congrArg Prod.snd e; dsimp only at e2; subst e2))
    | (simp (disch := decide) only [State.content_mask, State.decodeJob_mask, State.decodedBand_mask, State.noteVisible_mask, State.progress_mask, count_raise_mask, mask_ite, mask_ite_snd, ite_self])

theorem State.writtenBuffer_mask (s : State) (e : Nat) (c : VCtx) {m0 : Nat} (hw : 2 &&& m0 = 2) :
    (State.writtenBuffer s e c).2.mask m0 = s.mask m0 := by
  refine mask_mono hw ?_
  unfold State.writtenBuffer
  repeat' first
    | with_reducible rfl
    | with_reducible refine mask_ite_eq ?_ ?_
    | with_reducible refine mask_ite_snd_eq ?_ ?_
    | (simp (disch := decide) only [State.reconBuffer_mask, mask_ite, mask_ite_snd, ite_self]; done)
    | dsimp only
    | (with_reducible refine mask_foldl _ (fun s x => ?_) _ _)
    | (with_reducible refine mask_foldl_snd _ (fun s x => ?_) _ _)
    | (with_reducible refine (mask_foldl _ (fun s x => ?_) _ _).trans ?_)
    | (split <;> try (rename_i e; have e2 := congrArg Prod.snd e; dsimp only at e2; subst e2))
    | (simp (disch := decide) only [State.reconBuffer_mask, mask_ite, mask_ite_snd, ite_self])

theorem State.abortPicture_mask (s : State) (e q code : Nat) {m0 : Nat} (hw : 1167690075750402 &&& m0 = 1167690075750402) :
    (State.abortPicture s e q code).mask m0 = s.mask m0 := by
  refine mask_mono hw ?_
  unfold State.abortPicture
  repeat' first
    | with_reducible rfl
    | with_reducible refine mask_ite_eq ?_ ?_
    | with_reducible refine mask_ite_snd_eq ?_ ?_
    | (simp (disch := decide) only [State.decodeFail_mask, State.done_mask, State.encodeFail_mask, State.endTurn_mask, State.videoDone_mask, State.writtenBuffer_mask, mask_ite, mask_ite_snd, ite_self]; done)
    | dsimp only
    | (with_reducible refine mask_foldl _ (fun s x => ?_) _ _)
    | (with_reducible refine mask_foldl_snd _ (fun s x => ?_) _ _)
    | (with_reducible refine (mask_foldl _ (fun s x => ?_) _ _).trans ?_)
    | (split <;> try (rename_i e; have e2 := congrArg Prod.snd e; dsimp only at e2; subst e2))
    | (simp (disch := decide) only [State.decodeFail_mask, State.done_mask, State.encodeFail_mask, State.endTurn_mask, State.videoDone_mask, State.writtenBuffer_mask, mask_ite, mask_ite_snd, ite_self])

theorem State.abortInFlight_mask (s : State) (e code : Nat) {m0 : Nat} (hw : 1167690075750402 &&& m0 = 1167690075750402) :
    (State.abortInFlight s e code).mask m0 = s.mask m0 := by
  refine mask_mono hw ?_
  unfold State.abortInFlight
  repeat' first
    | with_reducible rfl
    | with_reducible refine mask_ite_eq ?_ ?_
    | with_reducible refine mask_ite_snd_eq ?_ ?_
    | (simp (disch := decide) only [State.abortPicture_mask, mask_ite, mask_ite_snd, ite_self]; done)
    | dsimp only
    | (with_reducible refine mask_foldl _ (fun s x => ?_) _ _)
    | (with_reducible refine mask_foldl_snd _ (fun s x => ?_) _ _)
    | (with_reducible refine (mask_foldl _ (fun s x => ?_) _ _).trans ?_)
    | (split <;> try (rename_i e; have e2 := congrArg Prod.snd e; dsimp only at e2; subst e2))
    | (simp (disch := decide) only [State.abortPicture_mask, mask_ite, mask_ite_snd, ite_self])

theorem State.engineFails_mask (s : State) (e : Nat) {m0 : Nat} (hw : 1801043133087746 &&& m0 = 1801043133087746) :
    (State.engineFails s e).mask m0 = s.mask m0 := by
  refine mask_mono hw ?_
  unfold State.engineFails
  repeat' first
    | with_reducible rfl
    | with_reducible refine mask_ite_eq ?_ ?_
    | with_reducible refine mask_ite_snd_eq ?_ ?_
    | (simp (disch := decide) only [State.abortInFlight_mask, State.failRecord_mask, State.putEngine_mask, mask_ite, mask_ite_snd, ite_self]; done)
    | dsimp only
    | (with_reducible refine mask_foldl _ (fun s x => ?_) _ _)
    | (with_reducible refine mask_foldl_snd _ (fun s x => ?_) _ _)
    | (with_reducible refine (mask_foldl _ (fun s x => ?_) _ _).trans ?_)
    | (split <;> try (rename_i e; have e2 := congrArg Prod.snd e; dsimp only at e2; subst e2))
    | (simp (disch := decide) only [State.abortInFlight_mask, State.failRecord_mask, State.putEngine_mask, mask_ite, mask_ite_snd, ite_self])

theorem State.restartEngine_mask (s : State) (e code : Nat) {m0 : Nat} (hw : 1801043133087746 &&& m0 = 1801043133087746) :
    (State.restartEngine s e code).mask m0 = s.mask m0 := by
  refine mask_mono hw ?_
  unfold State.restartEngine
  repeat' first
    | with_reducible rfl
    | with_reducible refine mask_ite_eq ?_ ?_
    | with_reducible refine mask_ite_snd_eq ?_ ?_
    | (simp (disch := decide) only [State.abortInFlight_mask, State.charge_mask, State.engineFails_mask, State.odInc_mask, State.putEngine_mask, State.raise_mask, mask_ite, mask_ite_snd, ite_self]; done)
    | dsimp only
    | (with_reducible refine mask_foldl _ (fun s x => ?_) _ _)
    | (with_reducible refine mask_foldl_snd _ (fun s x => ?_) _ _)
    | (with_reducible refine (mask_foldl _ (fun s x => ?_) _ _).trans ?_)
    | (split <;> try (rename_i e; have e2 := congrArg Prod.snd e; dsimp only at e2; subst e2))
    | (simp (disch := decide) only [State.abortInFlight_mask, State.charge_mask, State.engineFails_mask, State.odInc_mask, State.putEngine_mask, State.raise_mask, mask_ite, mask_ite_snd, ite_self])

theorem State.orderRestart_mask (s : State) (e : Nat) {m0 : Nat} (hw : 1801043133087746 &&& m0 = 1801043133087746) :
    (State.orderRestart s e).mask m0 = s.mask m0 := by
  refine mask_mono hw ?_
  unfold State.orderRestart
  repeat' first
    | with_reducible rfl
    | with_reducible refine mask_ite_eq ?_ ?_
    | with_reducible refine mask_ite_snd_eq ?_ ?_
    | (simp (disch := decide) only [State.odSet_mask, State.restartEngine_mask, mask_ite, mask_ite_snd, ite_self]; done)
    | dsimp only
    | (with_reducible refine mask_foldl _ (fun s x => ?_) _ _)
    | (with_reducible refine mask_foldl_snd _ (fun s x => ?_) _ _)
    | (with_reducible refine (mask_foldl _ (fun s x => ?_) _ _).trans ?_)
    | (split <;> try (rename_i e; have e2 := congrArg Prod.snd e; dsimp only at e2; subst e2))
    | (simp (disch := decide) only [State.odSet_mask, State.restartEngine_mask, mask_ite, mask_ite_snd, ite_self])

theorem State.pictureTimeout_mask (s : State) (q : Nat) {m0 : Nat} (hw : 1801043133087746 &&& m0 = 1801043133087746) :
    (State.pictureTimeout s q).mask m0 = s.mask m0 := by
  refine mask_mono hw ?_
  unfold State.pictureTimeout
  repeat' first
    | with_reducible rfl
    | with_reducible refine mask_ite_eq ?_ ?_
    | with_reducible refine mask_ite_snd_eq ?_ ?_
    | (simp (disch := decide) only [State.restartEngine_mask, mask_ite, mask_ite_snd, ite_self]; done)
    | dsimp only
    | (with_reducible refine mask_foldl _ (fun s x => ?_) _ _)
    | (with_reducible refine mask_foldl_snd _ (fun s x => ?_) _ _)
    | (with_reducible refine (mask_foldl _ (fun s x => ?_) _ _).trans ?_)
    | (split <;> try (rename_i e; have e2 := congrArg Prod.snd e; dsimp only at e2; subst e2))
    | (simp (disch := decide) only [State.restartEngine_mask, mask_ite, mask_ite_snd, ite_self])

end Sys2Proof.Machine
end

