-- ==== Sys2Proof/Laws/Frame/Firmware.lean ====
section
/-!
SUPPORT. Frames of Machine/Firmware.lean: the fields that each function may change, as a mask.
-/
namespace Sys2Proof.Machine

open Sys2Proof

set_option linter.unusedSimpArgs false

theorem State.loadComplete_mask (s : State) (sparesPass : List CoreId) {m0 : Nat} (hw : 2080336267669606 &&& m0 = 2080336267669606) :
    (State.loadComplete s sparesPass).mask m0 = s.mask m0 := by
  refine mask_mono hw ?_
  unfold State.loadComplete
  repeat' first
    | with_reducible rfl
    | with_reducible refine mask_ite_eq ?_ ?_
    | with_reducible refine mask_ite_snd_eq ?_ ?_
    | (simp (disch := decide) only [setFw_mask, setRst_mask, setStore_mask, State.enterMode_mask, State.follow_mask, State.odSet_mask, State.swapAll_mask, mask_ite, mask_ite_snd, ite_self]; done)
    | dsimp only
    | (with_reducible refine mask_foldl _ (fun s x => ?_) _ _)
    | (with_reducible refine mask_foldl_snd _ (fun s x => ?_) _ _)
    | (with_reducible refine (mask_foldl _ (fun s x => ?_) _ _).trans ?_)
    | (split <;> try (rename_i e; have e2 := congrArg Prod.snd e; dsimp only at e2; subst e2))
    | (simp (disch := decide) only [setFw_mask, setRst_mask, setStore_mask, State.enterMode_mask, State.follow_mask, State.odSet_mask, State.swapAll_mask, mask_ite, mask_ite_snd, ite_self])

theorem State.proveTrial_mask (s : State) {m0 : Nat} (hw : 1899956092796928 &&& m0 = 1899956092796928) :
    (State.proveTrial s).mask m0 = s.mask m0 := by
  refine mask_mono hw ?_
  unfold State.proveTrial
  repeat' first
    | with_reducible rfl
    | with_reducible refine mask_ite_eq ?_ ?_
    | with_reducible refine mask_ite_snd_eq ?_ ?_
    | (simp (disch := decide) only [setSec_mask, setStore_mask, State.imageResult_mask, mask_ite, mask_ite_snd, ite_self]; done)
    | dsimp only
    | (with_reducible refine mask_foldl _ (fun s x => ?_) _ _)
    | (with_reducible refine mask_foldl_snd _ (fun s x => ?_) _ _)
    | (with_reducible refine (mask_foldl _ (fun s x => ?_) _ _).trans ?_)
    | (split <;> try (rename_i e; have e2 := congrArg Prod.snd e; dsimp only at e2; subst e2))
    | (simp (disch := decide) only [setSec_mask, setStore_mask, State.imageResult_mask, mask_ite, mask_ite_snd, ite_self])

theorem State.helloAccepted_mask (s : State) (x : MbxIn) {m0 : Nat} (hw : 2221022215164002 &&& m0 = 2221022215164002) :
    (State.helloAccepted s x).mask m0 = s.mask m0 := by
  refine mask_mono hw ?_
  unfold State.helloAccepted
  repeat' first
    | with_reducible rfl
    | with_reducible refine mask_ite_eq ?_ ?_
    | with_reducible refine mask_ite_snd_eq ?_ ?_
    | (simp (disch := decide) only [setFw_mask, State.answer_mask, State.odSet_mask, State.proveTrial_mask, State.putMbx_mask, State.refuse_mask, mask_ite, mask_ite_snd, ite_self]; done)
    | dsimp only
    | (with_reducible refine mask_foldl _ (fun s x => ?_) _ _)
    | (with_reducible refine mask_foldl_snd _ (fun s x => ?_) _ _)
    | (with_reducible refine (mask_foldl _ (fun s x => ?_) _ _).trans ?_)
    | (split <;> try (rename_i e; have e2 := congrArg Prod.snd e; dsimp only at e2; subst e2))
    | (simp (disch := decide) only [setFw_mask, State.answer_mask, State.odSet_mask, State.proveTrial_mask, State.putMbx_mask, State.refuse_mask, mask_ite, mask_ite_snd, ite_self])

theorem State.hello_mask (s : State) (m : MbxSrc) {m0 : Nat} (hw : 2221022215164002 &&& m0 = 2221022215164002) :
    (State.hello s m).mask m0 = s.mask m0 := by
  refine mask_mono hw ?_
  unfold State.hello
  repeat' first
    | with_reducible rfl
    | with_reducible refine mask_ite_eq ?_ ?_
    | with_reducible refine mask_ite_snd_eq ?_ ?_
    | (simp (disch := decide) only [State.helloAccepted_mask, State.odSet_mask, State.receive_mask, State.refuse_mask, mask_ite, mask_ite_snd, ite_self]; done)
    | dsimp only
    | (with_reducible refine mask_foldl _ (fun s x => ?_) _ _)
    | (with_reducible refine mask_foldl_snd _ (fun s x => ?_) _ _)
    | (with_reducible refine (mask_foldl _ (fun s x => ?_) _ _).trans ?_)
    | (split <;> try (rename_i e; have e2 := congrArg Prod.snd e; dsimp only at e2; subst e2))
    | (simp (disch := decide) only [State.helloAccepted_mask, State.odSet_mask, State.receive_mask, State.refuse_mask, mask_ite, mask_ite_snd, ite_self])

theorem State.homeCore_mask (s : State) (die : Nat) {m0 : Nat} (hw : 2 &&& m0 = 2) :
    (State.homeCore s die).2.mask m0 = s.mask m0 := by
  refine mask_mono hw ?_
  unfold State.homeCore
  repeat' first
    | with_reducible rfl
    | with_reducible refine mask_ite_eq ?_ ?_
    | with_reducible refine mask_ite_snd_eq ?_ ?_
    | (simp (disch := decide) only [State.drawNat_mask, mask_ite, mask_ite_snd, ite_self]; done)
    | dsimp only
    | (with_reducible refine mask_foldl _ (fun s x => ?_) _ _)
    | (with_reducible refine mask_foldl_snd _ (fun s x => ?_) _ _)
    | (with_reducible refine (mask_foldl _ (fun s x => ?_) _ _).trans ?_)
    | (split <;> try (rename_i e; have e2 := congrArg Prod.snd e; dsimp only at e2; subst e2))
    | (simp (disch := decide) only [State.drawNat_mask, mask_ite, mask_ite_snd, ite_self])

theorem State.loadComponent_mask (s : State) (x : MbxIn) {m0 : Nat} (hw : 2080284726808674 &&& m0 = 2080284726808674) :
    (State.loadComponent s x).mask m0 = s.mask m0 := by
  refine mask_mono hw ?_
  unfold State.loadComponent
  repeat' first
    | with_reducible rfl
    | with_reducible refine mask_ite_eq ?_ ?_
    | with_reducible refine mask_ite_snd_eq ?_ ?_
    | (simp (disch := decide) only [setFw_mask, State.answer_mask, State.homeCore_mask, State.putComp_mask, State.refuse_mask, State.setComp_mask, mask_ite, mask_ite_snd, ite_self]; done)
    | dsimp only
    | (with_reducible refine mask_foldl _ (fun s x => ?_) _ _)
    | (with_reducible refine mask_foldl_snd _ (fun s x => ?_) _ _)
    | (with_reducible refine (mask_foldl _ (fun s x => ?_) _ _).trans ?_)
    | (split <;> try (rename_i e; have e2 := congrArg Prod.snd e; dsimp only at e2; subst e2))
    | (simp (disch := decide) only [setFw_mask, State.answer_mask, State.homeCore_mask, State.putComp_mask, State.refuse_mask, State.setComp_mask, mask_ite, mask_ite_snd, ite_self])

theorem State.startComponent_mask (s : State) (x : MbxIn) {m0 : Nat} (hw : 1165491052494850 &&& m0 = 1165491052494850) :
    (State.startComponent s x).mask m0 = s.mask m0 := by
  refine mask_mono hw ?_
  unfold State.startComponent
  repeat' first
    | with_reducible rfl
    | with_reducible refine mask_ite_eq ?_ ?_
    | with_reducible refine mask_ite_snd_eq ?_ ?_
    | (simp (disch := decide) only [setFw_mask, State.answer_mask, State.setComp_mask, mask_ite, mask_ite_snd, ite_self]; done)
    | dsimp only
    | (with_reducible refine mask_foldl _ (fun s x => ?_) _ _)
    | (with_reducible refine mask_foldl_snd _ (fun s x => ?_) _ _)
    | (with_reducible refine (mask_foldl _ (fun s x => ?_) _ _).trans ?_)
    | (split <;> try (rename_i e; have e2 := congrArg Prod.snd e; dsimp only at e2; subst e2))
    | (simp (disch := decide) only [setFw_mask, State.answer_mask, State.setComp_mask, mask_ite, mask_ite_snd, ite_self])

theorem State.stopComponent_mask (s : State) (x : MbxIn) {m0 : Nat} (hw : 1165491052494850 &&& m0 = 1165491052494850) :
    (State.stopComponent s x).mask m0 = s.mask m0 := by
  refine mask_mono hw ?_
  unfold State.stopComponent
  repeat' first
    | with_reducible rfl
    | with_reducible refine mask_ite_eq ?_ ?_
    | with_reducible refine mask_ite_snd_eq ?_ ?_
    | (simp (disch := decide) only [State.answer_mask, State.setComp_mask, mask_ite, mask_ite_snd, ite_self]; done)
    | dsimp only
    | (with_reducible refine mask_foldl _ (fun s x => ?_) _ _)
    | (with_reducible refine mask_foldl_snd _ (fun s x => ?_) _ _)
    | (with_reducible refine (mask_foldl _ (fun s x => ?_) _ _).trans ?_)
    | (split <;> try (rename_i e; have e2 := congrArg Prod.snd e; dsimp only at e2; subst e2))
    | (simp (disch := decide) only [State.answer_mask, State.setComp_mask, mask_ite, mask_ite_snd, ite_self])

theorem State.componentStatus_mask (s : State) (x : MbxIn) {m0 : Nat} (hw : 1165491052494850 &&& m0 = 1165491052494850) :
    (State.componentStatus s x).mask m0 = s.mask m0 := by
  refine mask_mono hw ?_
  unfold State.componentStatus
  repeat' first
    | with_reducible rfl
    | with_reducible refine mask_ite_eq ?_ ?_
    | with_reducible refine mask_ite_snd_eq ?_ ?_
    | (simp (disch := decide) only [State.answer_mask, State.drawNat_mask, mask_ite, mask_ite_snd, ite_self]; done)
    | dsimp only
    | (with_reducible refine mask_foldl _ (fun s x => ?_) _ _)
    | (with_reducible refine mask_foldl_snd _ (fun s x => ?_) _ _)
    | (with_reducible refine (mask_foldl _ (fun s x => ?_) _ _).trans ?_)
    | (split <;> try (rename_i e; have e2 := congrArg Prod.snd e; dsimp only at e2; subst e2))
    | (simp (disch := decide) only [State.answer_mask, State.drawNat_mask, mask_ite, mask_ite_snd, ite_self])

theorem State.bundleHealth_mask (s : State) (x : MbxIn) {m0 : Nat} (hw : 1798809750093826 &&& m0 = 1798809750093826) :
    (State.bundleHealth s x).mask m0 = s.mask m0 := by
  refine mask_mono hw ?_
  unfold State.bundleHealth
  repeat' first
    | with_reducible rfl
    | with_reducible refine mask_ite_eq ?_ ?_
    | with_reducible refine mask_ite_snd_eq ?_ ?_
    | (simp (disch := decide) only [State.answer_mask, State.commit_mask, State.odSet_mask, mask_ite, mask_ite_snd, ite_self]; done)
    | dsimp only
    | (with_reducible refine mask_foldl _ (fun s x => ?_) _ _)
    | (with_reducible refine mask_foldl_snd _ (fun s x => ?_) _ _)
    | (with_reducible refine (mask_foldl _ (fun s x => ?_) _ _).trans ?_)
    | (split <;> try (rename_i e; have e2 := congrArg Prod.snd e; dsimp only at e2; subst e2))
    | (simp (disch := decide) only [State.answer_mask, State.commit_mask, State.odSet_mask, mask_ite, mask_ite_snd, ite_self])

theorem State.mailboxAssign_mask (s : State) (x : MbxIn) (sparesPass : List CoreId) {m0 : Nat} (hw : 2080336267669606 &&& m0 = 2080336267669606) :
    (State.mailboxAssign s x sparesPass).mask m0 = s.mask m0 := by
  refine mask_mono hw ?_
  unfold State.mailboxAssign
  repeat' first
    | with_reducible rfl
    | with_reducible refine mask_ite_eq ?_ ?_
    | with_reducible refine mask_ite_snd_eq ?_ ?_
    | (simp (disch := decide) only [State.answer_mask, State.loadComplete_mask, State.putMbx_mask, mask_ite, mask_ite_snd, ite_self]; done)
    | dsimp only
    | (with_reducible refine mask_foldl _ (fun s x => ?_) _ _)
    | (with_reducible refine mask_foldl_snd _ (fun s x => ?_) _ _)
    | (with_reducible refine (mask_foldl _ (fun s x => ?_) _ _).trans ?_)
    | (split <;> try (rename_i e; have e2 := congrArg Prod.snd e; dsimp only at e2; subst e2))
    | (simp (disch := decide) only [State.answer_mask, State.loadComplete_mask, State.putMbx_mask, mask_ite, mask_ite_snd, ite_self])

theorem State.mailboxWait_mask (s : State) (die m : Nat) {m0 : Nat} (hw : 1165491052494850 &&& m0 = 1165491052494850) :
    (State.mailboxWait s die m).mask m0 = s.mask m0 := by
  refine mask_mono hw ?_
  unfold State.mailboxWait
  repeat' first
    | with_reducible rfl
    | with_reducible refine mask_ite_eq ?_ ?_
    | with_reducible refine mask_ite_snd_eq ?_ ?_
    | (simp (disch := decide) only [State.answerKept_mask, mask_ite, mask_ite_snd, ite_self]; done)
    | dsimp only
    | (with_reducible refine mask_foldl _ (fun s x => ?_) _ _)
    | (with_reducible refine mask_foldl_snd _ (fun s x => ?_) _ _)
    | (with_reducible refine (mask_foldl _ (fun s x => ?_) _ _).trans ?_)
    | (split <;> try (rename_i e; have e2 := congrArg Prod.snd e; dsimp only at e2; subst e2))
    | (simp (disch := decide) only [State.answerKept_mask, mask_ite, mask_ite_snd, ite_self])

theorem State.replyTimeout_mask (s : State) (die m : Nat) {m0 : Nat} (hw : 1165491052494850 &&& m0 = 1165491052494850) :
    (State.replyTimeout s die m).mask m0 = s.mask m0 := by
  refine mask_mono hw ?_
  unfold State.replyTimeout
  repeat' first
    | with_reducible rfl
    | with_reducible refine mask_ite_eq ?_ ?_
    | with_reducible refine mask_ite_snd_eq ?_ ?_
    | (simp (disch := decide) only [State.answerKept_mask, mask_ite, mask_ite_snd, ite_self]; done)
    | dsimp only
    | (with_reducible refine mask_foldl _ (fun s x => ?_) _ _)
    | (with_reducible refine mask_foldl_snd _ (fun s x => ?_) _ _)
    | (with_reducible refine (mask_foldl _ (fun s x => ?_) _ _).trans ?_)
    | (split <;> try (rename_i e; have e2 := congrArg Prod.snd e; dsimp only at e2; subst e2))
    | (simp (disch := decide) only [State.answerKept_mask, mask_ite, mask_ite_snd, ite_self])

theorem State.dropComps_mask (s : State) {m0 : Nat} (hw : 1165491052494850 &&& m0 = 1165491052494850) :
    (State.dropComps s).mask m0 = s.mask m0 := by
  refine mask_mono hw ?_
  unfold State.dropComps
  repeat' first
    | with_reducible rfl
    | with_reducible refine mask_ite_eq ?_ ?_
    | with_reducible refine mask_ite_snd_eq ?_ ?_
    | (simp (disch := decide) only [State.setComp_mask, mask_ite, mask_ite_snd, ite_self]; done)
    | dsimp only
    | (with_reducible refine mask_foldl _ (fun s x => ?_) _ _)
    | (with_reducible refine mask_foldl_snd _ (fun s x => ?_) _ _)
    | (with_reducible refine (mask_foldl _ (fun s x => ?_) _ _).trans ?_)
    | (split <;> try (rename_i e; have e2 := congrArg Prod.snd e; dsimp only at e2; subst e2))
    | (simp (disch := decide) only [State.setComp_mask, mask_ite, mask_ite_snd, ite_self])

theorem State.reloadRuntime_mask (s : State) (reported : Nat) {m0 : Nat} (hw : 2080284726808674 &&& m0 = 2080284726808674) :
    (State.reloadRuntime s reported).mask m0 = s.mask m0 := by
  refine mask_mono hw ?_
  unfold State.reloadRuntime
  repeat' first
    | with_reducible rfl
    | with_reducible refine mask_ite_eq ?_ ?_
    | with_reducible refine mask_ite_snd_eq ?_ ?_
    | (simp (disch := decide) only [State.dropComps_mask, State.loadRuntime_mask, State.odSet_mask, mask_ite, mask_ite_snd, ite_self]; done)
    | dsimp only
    | (with_reducible refine mask_foldl _ (fun s x => ?_) _ _)
    | (with_reducible refine mask_foldl_snd _ (fun s x => ?_) _ _)
    | (with_reducible refine (mask_foldl _ (fun s x => ?_) _ _).trans ?_)
    | (split <;> try (rename_i e; have e2 := congrArg Prod.snd e; dsimp only at e2; subst e2))
    | (simp (disch := decide) only [State.dropComps_mask, State.loadRuntime_mask, State.odSet_mask, mask_ite, mask_ite_snd, ite_self])

end Sys2Proof.Machine
end

