-- ==== Sys2Proof/Laws/Frame/Network.lean ====
section
/-!
SUPPORT. Frames of Machine/Network.lean: the fields that each function may change, as a mask.
-/
namespace Sys2Proof.Machine

open Sys2Proof

set_option linter.unusedSimpArgs false

theorem State.setRole_mask (s : State) (p : Nat) (r : PortRole) {m0 : Nat} (hw : 1183083238539266 &&& m0 = 1183083238539266) :
    (State.setRole s p r).mask m0 = s.mask m0 := by
  refine mask_mono hw ?_
  unfold State.setRole
  repeat' first
    | with_reducible rfl
    | with_reducible refine mask_ite_eq ?_ ?_
    | with_reducible refine mask_ite_snd_eq ?_ ?_
    | (simp (disch := decide) only [State.putPort_mask, State.raise_mask, mask_ite, mask_ite_snd, ite_self]; done)
    | dsimp only
    | (with_reducible refine mask_foldl _ (fun s x => ?_) _ _)
    | (with_reducible refine mask_foldl_snd _ (fun s x => ?_) _ _)
    | (with_reducible refine (mask_foldl _ (fun s x => ?_) _ _).trans ?_)
    | (split <;> try (rename_i e; have e2 := congrArg Prod.snd e; dsimp only at e2; subst e2))
    | (simp (disch := decide) only [State.putPort_mask, State.raise_mask, mask_ite, mask_ite_snd, ite_self])

theorem State.transmit_mask (s : State) (q d : Nat) (ph : JobPhase) (bs : List Byte) {m0 : Nat} (hw : 1183083238539270 &&& m0 = 1183083238539270) :
    (State.transmit s q d ph bs).mask m0 = s.mask m0 := by
  refine mask_mono hw ?_
  unfold State.transmit
  repeat' first
    | with_reducible rfl
    | with_reducible refine mask_ite_eq ?_ ?_
    | with_reducible refine mask_ite_snd_eq ?_ ?_
    | (simp (disch := decide) only [State.finish_mask, State.putLink_mask, State.sendOn_mask, mask_ite, mask_ite_snd, ite_self]; done)
    | dsimp only
    | (with_reducible refine mask_foldl _ (fun s x => ?_) _ _)
    | (with_reducible refine mask_foldl_snd _ (fun s x => ?_) _ _)
    | (with_reducible refine (mask_foldl _ (fun s x => ?_) _ _).trans ?_)
    | (split <;> try (rename_i e; have e2 := congrArg Prod.snd e; dsimp only at e2; subst e2))
    | (simp (disch := decide) only [State.finish_mask, State.putLink_mask, State.sendOn_mask, mask_ite, mask_ite_snd, ite_self])

theorem State.txCheck_mask (s : State) (q d : Nat) {m0 : Nat} (hw : 1165491052494850 &&& m0 = 1165491052494850) :
    (State.txCheck s q d).2.mask m0 = s.mask m0 := by
  refine mask_mono hw ?_
  unfold State.txCheck
  repeat' first
    | with_reducible rfl
    | with_reducible refine mask_ite_eq ?_ ?_
    | with_reducible refine mask_ite_snd_eq ?_ ?_
    | (simp (disch := decide) only [State.pcheck_mask, mask_ite, mask_ite_snd, ite_self]; done)
    | dsimp only
    | (with_reducible refine mask_foldl _ (fun s x => ?_) _ _)
    | (with_reducible refine mask_foldl_snd _ (fun s x => ?_) _ _)
    | (with_reducible refine (mask_foldl _ (fun s x => ?_) _ _).trans ?_)
    | (split <;> try (rename_i e; have e2 := congrArg Prod.snd e; dsimp only at e2; subst e2))
    | (simp (disch := decide) only [State.pcheck_mask, mask_ite, mask_ite_snd, ite_self])

theorem State.nettxJob_mask (s : State) (q d : Nat) (ph : JobPhase) {m0 : Nat} (hw : 1816436295876614 &&& m0 = 1816436295876614) :
    (State.nettxJob s q d ph).mask m0 = s.mask m0 := by
  refine mask_mono hw ?_
  unfold State.nettxJob
  repeat' first
    | with_reducible rfl
    | with_reducible refine mask_ite_eq ?_ ?_
    | with_reducible refine mask_ite_snd_eq ?_ ?_
    | (simp (disch := decide) only [State.finish_mask, State.mread_mask, State.transmit_mask, State.txCheck_mask, State.updJob_mask, mask_ite, mask_ite_snd, ite_self]; done)
    | dsimp only
    | (with_reducible refine mask_foldl _ (fun s x => ?_) _ _)
    | (with_reducible refine mask_foldl_snd _ (fun s x => ?_) _ _)
    | (with_reducible refine (mask_foldl _ (fun s x => ?_) _ _).trans ?_)
    | (split <;> try (rename_i e; have e2 := congrArg Prod.snd e; dsimp only at e2; subst e2))
    | (simp (disch := decide) only [State.finish_mask, State.mread_mask, State.transmit_mask, State.txCheck_mask, State.updJob_mask, mask_ite, mask_ite_snd, ite_self])

theorem State.sendWaiting_mask (s : State) (l : Nat) {m0 : Nat} (hw : 1816436295876614 &&& m0 = 1816436295876614) :
    (State.sendWaiting s l).mask m0 = s.mask m0 := by
  refine mask_mono hw ?_
  unfold State.sendWaiting
  repeat' first
    | with_reducible rfl
    | with_reducible refine mask_ite_eq ?_ ?_
    | with_reducible refine mask_ite_snd_eq ?_ ?_
    | (simp (disch := decide) only [State.nettxJob_mask, mask_ite, mask_ite_snd, ite_self]; done)
    | dsimp only
    | (with_reducible refine mask_foldl _ (fun s x => ?_) _ _)
    | (with_reducible refine mask_foldl_snd _ (fun s x => ?_) _ _)
    | (with_reducible refine (mask_foldl _ (fun s x => ?_) _ _).trans ?_)
    | (split <;> try (rename_i e; have e2 := congrArg Prod.snd e; dsimp only at e2; subst e2))
    | (simp (disch := decide) only [State.nettxJob_mask, mask_ite, mask_ite_snd, ite_self])

theorem State.netrx_mask (s : State) (q d : Nat) {m0 : Nat} (hw : 1165491052494850 &&& m0 = 1165491052494850) :
    (State.netrx s q d).mask m0 = s.mask m0 := by
  refine mask_mono hw ?_
  unfold State.netrx
  repeat' first
    | with_reducible rfl
    | with_reducible refine mask_ite_eq ?_ ?_
    | with_reducible refine mask_ite_snd_eq ?_ ?_
    | (simp (disch := decide) only [State.done_mask, State.pcheck_mask, State.updJob_mask, mask_ite, mask_ite_snd, ite_self]; done)
    | dsimp only
    | (with_reducible refine mask_foldl _ (fun s x => ?_) _ _)
    | (with_reducible refine mask_foldl_snd _ (fun s x => ?_) _ _)
    | (with_reducible refine (mask_foldl _ (fun s x => ?_) _ _).trans ?_)
    | (split <;> try (rename_i e; have e2 := congrArg Prod.snd e; dsimp only at e2; subst e2))
    | (simp (disch := decide) only [State.done_mask, State.pcheck_mask, State.updJob_mask, mask_ite, mask_ite_snd, ite_self])

theorem State.abortReceived_mask (s : State) (gid token : Nat) {m0 : Nat} (hw : 1798844109832198 &&& m0 = 1798844109832198) :
    (State.abortReceived s gid token).mask m0 = s.mask m0 := by
  refine mask_mono hw ?_
  unfold State.abortReceived
  repeat' first
    | with_reducible rfl
    | with_reducible refine mask_ite_eq ?_ ?_
    | with_reducible refine mask_ite_snd_eq ?_ ?_
    | (simp (disch := decide) only [State.faultQueue_mask, State.odInc_mask, State.raisePart_mask, mask_ite, mask_ite_snd, ite_self]; done)
    | dsimp only
    | (with_reducible refine mask_foldl _ (fun s x => ?_) _ _)
    | (with_reducible refine mask_foldl_snd _ (fun s x => ?_) _ _)
    | (with_reducible refine (mask_foldl _ (fun s x => ?_) _ _).trans ?_)
    | (split <;> try (rename_i e; have e2 := congrArg Prod.snd e; dsimp only at e2; subst e2))
    | (simp (disch := decide) only [State.faultQueue_mask, State.odInc_mask, State.raisePart_mask, mask_ite, mask_ite_snd, ite_self])

theorem State.fillBuffer_mask (s : State) (q port : Nat) (bs : List Byte) {m0 : Nat} (hw : 1165491052494850 &&& m0 = 1165491052494850) :
    (State.fillBuffer s q port bs).mask m0 = s.mask m0 := by
  refine mask_mono hw ?_
  unfold State.fillBuffer
  repeat' first
    | with_reducible rfl
    | with_reducible refine mask_ite_eq ?_ ?_
    | with_reducible refine mask_ite_snd_eq ?_ ?_
    | (simp (disch := decide) only [State.finish_mask, State.odInc_mask, State.pwrite_mask, mask_ite, mask_ite_snd, ite_self]; done)
    | dsimp only
    | (with_reducible refine mask_foldl _ (fun s x => ?_) _ _)
    | (with_reducible refine mask_foldl_snd _ (fun s x => ?_) _ _)
    | (with_reducible refine (mask_foldl _ (fun s x => ?_) _ _).trans ?_)
    | (split <;> try (rename_i e; have e2 := congrArg Prod.snd e; dsimp only at e2; subst e2))
    | (simp (disch := decide) only [State.finish_mask, State.odInc_mask, State.pwrite_mask, mask_ite, mask_ite_snd, ite_self])

theorem State.icmpFrame_mask (s : State) (p : Nat) {m0 : Nat} (hw : 1143492092887040 &&& m0 = 1143492092887040) :
    (State.icmpFrame s p).mask m0 = s.mask m0 := by
  refine mask_mono hw ?_
  unfold State.icmpFrame
  repeat' first
    | with_reducible rfl
    | with_reducible refine mask_ite_eq ?_ ?_
    | with_reducible refine mask_ite_snd_eq ?_ ?_
    | (simp (disch := decide) only [State.odInc_mask, State.putPort_mask, mask_ite, mask_ite_snd, ite_self]; done)
    | dsimp only
    | (with_reducible refine mask_foldl _ (fun s x => ?_) _ _)
    | (with_reducible refine mask_foldl_snd _ (fun s x => ?_) _ _)
    | (with_reducible refine (mask_foldl _ (fun s x => ?_) _ _).trans ?_)
    | (split <;> try (rename_i e; have e2 := congrArg Prod.snd e; dsimp only at e2; subst e2))
    | (simp (disch := decide) only [State.odInc_mask, State.putPort_mask, mask_ite, mask_ite_snd, ite_self])

theorem State.ryciaDrop_mask (s : State) (auth : Bool) {m0 : Nat} (hw : 1125899906842624 &&& m0 = 1125899906842624) :
    (State.ryciaDrop s auth).mask m0 = s.mask m0 := by
  refine mask_mono hw ?_
  unfold State.ryciaDrop
  repeat' first
    | with_reducible rfl
    | with_reducible refine mask_ite_eq ?_ ?_
    | with_reducible refine mask_ite_snd_eq ?_ ?_
    | (simp (disch := decide) only [State.odInc_mask, mask_ite, mask_ite_snd, ite_self]; done)
    | dsimp only
    | (with_reducible refine mask_foldl _ (fun s x => ?_) _ _)
    | (with_reducible refine mask_foldl_snd _ (fun s x => ?_) _ _)
    | (with_reducible refine (mask_foldl _ (fun s x => ?_) _ _).trans ?_)
    | (split <;> try (rename_i e; have e2 := congrArg Prod.snd e; dsimp only at e2; subst e2))
    | (simp (disch := decide) only [State.odInc_mask, mask_ite, mask_ite_snd, ite_self])

theorem State.ryciaDatagram_mask (s : State) (bs : List Byte) {m0 : Nat} (hw : 1125899906842624 &&& m0 = 1125899906842624) :
    (State.ryciaDatagram s bs).mask m0 = s.mask m0 := by
  refine mask_mono hw ?_
  unfold State.ryciaDatagram
  repeat' first
    | with_reducible rfl
    | with_reducible refine mask_ite_eq ?_ ?_
    | with_reducible refine mask_ite_snd_eq ?_ ?_
    | (simp (disch := decide) only [State.ryciaDrop_mask, mask_ite, mask_ite_snd, ite_self]; done)
    | dsimp only
    | (with_reducible refine mask_foldl _ (fun s x => ?_) _ _)
    | (with_reducible refine mask_foldl_snd _ (fun s x => ?_) _ _)
    | (with_reducible refine (mask_foldl _ (fun s x => ?_) _ _).trans ?_)
    | (split <;> try (rename_i e; have e2 := congrArg Prod.snd e; dsimp only at e2; subst e2))
    | (simp (disch := decide) only [State.ryciaDrop_mask, mask_ite, mask_ite_snd, ite_self])

theorem State.steerFrame_mask (s : State) (p : Nat) (bs : List Byte) {m0 : Nat} (hw : 1183083238539330 &&& m0 = 1183083238539330) :
    (State.steerFrame s p bs).mask m0 = s.mask m0 := by
  refine mask_mono hw ?_
  unfold State.steerFrame
  repeat' first
    | with_reducible rfl
    | with_reducible refine mask_ite_eq ?_ ?_
    | with_reducible refine mask_ite_snd_eq ?_ ?_
    | (simp (disch := decide) only [State.active_mask, State.bumpDie_mask, State.fillBuffer_mask, State.icmpFrame_mask, State.odInc_mask, mask_ite, mask_ite_snd, ite_self]; done)
    | dsimp only
    | (with_reducible refine mask_foldl _ (fun s x => ?_) _ _)
    | (with_reducible refine mask_foldl_snd _ (fun s x => ?_) _ _)
    | (with_reducible refine (mask_foldl _ (fun s x => ?_) _ _).trans ?_)
    | (split <;> try (rename_i e; have e2 := congrArg Prod.snd e; dsimp only at e2; subst e2))
    | (simp (disch := decide) only [State.active_mask, State.bumpDie_mask, State.fillBuffer_mask, State.icmpFrame_mask, State.odInc_mask, mask_ite, mask_ite_snd, ite_self])

theorem State.frameIn_mask (s : State) (p : Nat) (bs : List Byte) (fcsOk : Bool) {m0 : Nat} (hw : 1816436295876678 &&& m0 = 1816436295876678) :
    (State.frameIn s p bs fcsOk).mask m0 = s.mask m0 := by
  refine mask_mono hw ?_
  unfold State.frameIn
  repeat' first
    | with_reducible rfl
    | with_reducible refine mask_ite_eq ?_ ?_
    | with_reducible refine mask_ite_snd_eq ?_ ?_
    | (simp (disch := decide) only [State.abortReceived_mask, State.odInc_mask, State.putLink_mask, State.ryciaDatagram_mask, State.steerFrame_mask, mask_ite, mask_ite_snd, ite_self]; done)
    | dsimp only
    | (with_reducible refine mask_foldl _ (fun s x => ?_) _ _)
    | (with_reducible refine mask_foldl_snd _ (fun s x => ?_) _ _)
    | (with_reducible refine (mask_foldl _ (fun s x => ?_) _ _).trans ?_)
    | (split <;> try (rename_i e; have e2 := congrArg Prod.snd e; dsimp only at e2; subst e2))
    | (simp (disch := decide) only [State.abortReceived_mask, State.odInc_mask, State.putLink_mask, State.ryciaDatagram_mask, State.steerFrame_mask, mask_ite, mask_ite_snd, ite_self])

theorem State.announcePath_mask (s : State) (p : Nat) {m0 : Nat} (hw : 1165491052494854 &&& m0 = 1165491052494854) :
    (State.announcePath s p).mask m0 = s.mask m0 := by
  refine mask_mono hw ?_
  unfold State.announcePath
  repeat' first
    | with_reducible rfl
    | with_reducible refine mask_ite_eq ?_ ?_
    | with_reducible refine mask_ite_snd_eq ?_ ?_
    | (simp (disch := decide) only [State.emit_mask, State.odInc_mask, State.sendOn_mask, mask_ite, mask_ite_snd, ite_self]; done)
    | dsimp only
    | (with_reducible refine mask_foldl _ (fun s x => ?_) _ _)
    | (with_reducible refine mask_foldl_snd _ (fun s x => ?_) _ _)
    | (with_reducible refine (mask_foldl _ (fun s x => ?_) _ _).trans ?_)
    | (split <;> try (rename_i e; have e2 := congrArg Prod.snd e; dsimp only at e2; subst e2))
    | (simp (disch := decide) only [State.emit_mask, State.odInc_mask, State.sendOn_mask, mask_ite, mask_ite_snd, ite_self])

theorem State.makeActive_mask (s : State) (p : Nat) {m0 : Nat} (hw : 1183083238539266 &&& m0 = 1183083238539266) :
    (State.makeActive s p).mask m0 = s.mask m0 := by
  refine mask_mono hw ?_
  unfold State.makeActive
  repeat' first
    | with_reducible rfl
    | with_reducible refine mask_ite_eq ?_ ?_
    | with_reducible refine mask_ite_snd_eq ?_ ?_
    | (simp (disch := decide) only [State.putLink_mask, State.setRole_mask, mask_ite, mask_ite_snd, ite_self]; done)
    | dsimp only
    | (with_reducible refine mask_foldl _ (fun s x => ?_) _ _)
    | (with_reducible refine mask_foldl_snd _ (fun s x => ?_) _ _)
    | (with_reducible refine (mask_foldl _ (fun s x => ?_) _ _).trans ?_)
    | (split <;> try (rename_i e; have e2 := congrArg Prod.snd e; dsimp only at e2; subst e2))
    | (simp (disch := decide) only [State.putLink_mask, State.setRole_mask, mask_ite, mask_ite_snd, ite_self])

theorem State.replay_mask (s : State) (l old new : Nat) {m0 : Nat} (hw : 1183083238539270 &&& m0 = 1183083238539270) :
    (State.replay s l old new).mask m0 = s.mask m0 := by
  refine mask_mono hw ?_
  unfold State.replay
  repeat' first
    | with_reducible rfl
    | with_reducible refine mask_ite_eq ?_ ?_
    | with_reducible refine mask_ite_snd_eq ?_ ?_
    | (simp (disch := decide) only [State.putLink_mask, State.sendOn_mask, mask_ite, mask_ite_snd, ite_self]; done)
    | dsimp only
    | (with_reducible refine mask_foldl _ (fun s x => ?_) _ _)
    | (with_reducible refine mask_foldl_snd _ (fun s x => ?_) _ _)
    | (with_reducible refine (mask_foldl _ (fun s x => ?_) _ _).trans ?_)
    | (split <;> try (rename_i e; have e2 := congrArg Prod.snd e; dsimp only at e2; subst e2))
    | (simp (disch := decide) only [State.putLink_mask, State.sendOn_mask, mask_ite, mask_ite_snd, ite_self])

theorem State.failover_mask (s : State) (l old : Nat) {m0 : Nat} (hw : 1816436295876614 &&& m0 = 1816436295876614) :
    (State.failover s l old).mask m0 = s.mask m0 := by
  refine mask_mono hw ?_
  unfold State.failover
  repeat' first
    | with_reducible rfl
    | with_reducible refine mask_ite_eq ?_ ?_
    | with_reducible refine mask_ite_snd_eq ?_ ?_
    | (simp (disch := decide) only [State.announcePath_mask, State.makeActive_mask, State.odInc_mask, State.putLink_mask, State.replay_mask, State.sendWaiting_mask, mask_ite, mask_ite_snd, ite_self]; done)
    | dsimp only
    | (with_reducible refine mask_foldl _ (fun s x => ?_) _ _)
    | (with_reducible refine mask_foldl_snd _ (fun s x => ?_) _ _)
    | (with_reducible refine (mask_foldl _ (fun s x => ?_) _ _).trans ?_)
    | (split <;> try (rename_i e; have e2 := congrArg Prod.snd e; dsimp only at e2; subst e2))
    | (simp (disch := decide) only [State.announcePath_mask, State.makeActive_mask, State.odInc_mask, State.putLink_mask, State.replay_mask, State.sendWaiting_mask, mask_ite, mask_ite_snd, ite_self])

theorem State.dropSwitch_mask (s : State) (l : Nat) {m0 : Nat} (hw : 1143492092887040 &&& m0 = 1143492092887040) :
    (State.dropSwitch s l).mask m0 = s.mask m0 := by
  refine mask_mono hw ?_
  unfold State.dropSwitch
  repeat' first
    | with_reducible rfl
    | with_reducible refine mask_ite_eq ?_ ?_
    | with_reducible refine mask_ite_snd_eq ?_ ?_
    | (simp (disch := decide) only [State.odSet_mask, State.putLink_mask, mask_ite, mask_ite_snd, ite_self]; done)
    | dsimp only
    | (with_reducible refine mask_foldl _ (fun s x => ?_) _ _)
    | (with_reducible refine mask_foldl_snd _ (fun s x => ?_) _ _)
    | (with_reducible refine (mask_foldl _ (fun s x => ?_) _ _).trans ?_)
    | (split <;> try (rename_i e; have e2 := congrArg Prod.snd e; dsimp only at e2; subst e2))
    | (simp (disch := decide) only [State.odSet_mask, State.putLink_mask, mask_ite, mask_ite_snd, ite_self])

theorem State.portFails_mask (s : State) (p trigger : Nat) {m0 : Nat} (hw : 1816436295876614 &&& m0 = 1816436295876614) :
    (State.portFails s p trigger).mask m0 = s.mask m0 := by
  refine mask_mono hw ?_
  unfold State.portFails
  repeat' first
    | with_reducible rfl
    | with_reducible refine mask_ite_eq ?_ ?_
    | with_reducible refine mask_ite_snd_eq ?_ ?_
    | (simp (disch := decide) only [State.charge_mask, State.dropSwitch_mask, State.failRecord_mask, State.failover_mask, State.putPort_mask, State.setRole_mask, mask_ite, mask_ite_snd, ite_self]; done)
    | dsimp only
    | (with_reducible refine mask_foldl _ (fun s x => ?_) _ _)
    | (with_reducible refine mask_foldl_snd _ (fun s x => ?_) _ _)
    | (with_reducible refine (mask_foldl _ (fun s x => ?_) _ _).trans ?_)
    | (split <;> try (rename_i e; have e2 := congrArg Prod.snd e; dsimp only at e2; subst e2))
    | (simp (disch := decide) only [State.charge_mask, State.dropSwitch_mask, State.failRecord_mask, State.failover_mask, State.putPort_mask, State.setRole_mask, mask_ite, mask_ite_snd, ite_self])

theorem State.replayDone_mask (s : State) (l : Nat) {m0 : Nat} (hw : 1816436295876614 &&& m0 = 1816436295876614) :
    (State.replayDone s l).mask m0 = s.mask m0 := by
  refine mask_mono hw ?_
  unfold State.replayDone
  repeat' first
    | with_reducible rfl
    | with_reducible refine mask_ite_eq ?_ ?_
    | with_reducible refine mask_ite_snd_eq ?_ ?_
    | (simp (disch := decide) only [State.putLink_mask, State.sendWaiting_mask, mask_ite, mask_ite_snd, ite_self]; done)
    | dsimp only
    | (with_reducible refine mask_foldl _ (fun s x => ?_) _ _)
    | (with_reducible refine mask_foldl_snd _ (fun s x => ?_) _ _)
    | (with_reducible refine (mask_foldl _ (fun s x => ?_) _ _).trans ?_)
    | (split <;> try (rename_i e; have e2 := congrArg Prod.snd e; dsimp only at e2; subst e2))
    | (simp (disch := decide) only [State.putLink_mask, State.sendWaiting_mask, mask_ite, mask_ite_snd, ite_self])

theorem State.linkTimeout_mask (s : State) (l : Nat) {m0 : Nat} (hw : 17592186060800 &&& m0 = 17592186060800) :
    (State.linkTimeout s l).mask m0 = s.mask m0 := by
  refine mask_mono hw ?_
  unfold State.linkTimeout
  repeat' first
    | with_reducible rfl
    | with_reducible refine mask_ite_eq ?_ ?_
    | with_reducible refine mask_ite_snd_eq ?_ ?_
    | (simp (disch := decide) only [State.putLink_mask, State.updQueue_mask, mask_ite, mask_ite_snd, ite_self]; done)
    | dsimp only
    | (with_reducible refine mask_foldl _ (fun s x => ?_) _ _)
    | (with_reducible refine mask_foldl_snd _ (fun s x => ?_) _ _)
    | (with_reducible refine (mask_foldl _ (fun s x => ?_) _ _).trans ?_)
    | (split <;> try (rename_i e; have e2 := congrArg Prod.snd e; dsimp only at e2; subst e2))
    | (simp (disch := decide) only [State.putLink_mask, State.updQueue_mask, mask_ite, mask_ite_snd, ite_self])

theorem State.switchOver_mask (s : State) (code : Nat) {m0 : Nat} (hw : 1143492092887040 &&& m0 = 1143492092887040) :
    (State.switchOver s code).mask m0 = s.mask m0 := by
  refine mask_mono hw ?_
  unfold State.switchOver
  repeat' first
    | with_reducible rfl
    | with_reducible refine mask_ite_eq ?_ ?_
    | with_reducible refine mask_ite_snd_eq ?_ ?_
    | (simp (disch := decide) only [State.odSet_mask, State.putLink_mask, mask_ite, mask_ite_snd, ite_self]; done)
    | dsimp only
    | (with_reducible refine mask_foldl _ (fun s x => ?_) _ _)
    | (with_reducible refine mask_foldl_snd _ (fun s x => ?_) _ _)
    | (with_reducible refine (mask_foldl _ (fun s x => ?_) _ _).trans ?_)
    | (split <;> try (rename_i e; have e2 := congrArg Prod.snd e; dsimp only at e2; subst e2))
    | (simp (disch := decide) only [State.odSet_mask, State.putLink_mask, mask_ite, mask_ite_snd, ite_self])

theorem State.switchDone_mask (s : State) (l : Nat) {m0 : Nat} (hw : 1816436295876614 &&& m0 = 1816436295876614) :
    (State.switchDone s l).mask m0 = s.mask m0 := by
  refine mask_mono hw ?_
  unfold State.switchDone
  repeat' first
    | with_reducible rfl
    | with_reducible refine mask_ite_eq ?_ ?_
    | with_reducible refine mask_ite_snd_eq ?_ ?_
    | (simp (disch := decide) only [State.announcePath_mask, State.makeActive_mask, State.odInc_mask, State.odSet_mask, State.putLink_mask, State.sendWaiting_mask, State.setRole_mask, mask_ite, mask_ite_snd, ite_self]; done)
    | dsimp only
    | (with_reducible refine mask_foldl _ (fun s x => ?_) _ _)
    | (with_reducible refine mask_foldl_snd _ (fun s x => ?_) _ _)
    | (with_reducible refine (mask_foldl _ (fun s x => ?_) _ _).trans ?_)
    | (split <;> try (rename_i e; have e2 := congrArg Prod.snd e; dsimp only at e2; subst e2))
    | (simp (disch := decide) only [State.announcePath_mask, State.makeActive_mask, State.odInc_mask, State.odSet_mask, State.putLink_mask, State.sendWaiting_mask, State.setRole_mask, mask_ite, mask_ite_snd, ite_self])

theorem State.diagnose_mask (s : State) (p : Nat) (lanes : List LaneReading) {m0 : Nat} (hw : 1816436295876610 &&& m0 = 1816436295876610) :
    (State.diagnose s p lanes).mask m0 = s.mask m0 := by
  refine mask_mono hw ?_
  unfold State.diagnose
  repeat' first
    | with_reducible rfl
    | with_reducible refine mask_ite_eq ?_ ?_
    | with_reducible refine mask_ite_snd_eq ?_ ?_
    | (simp (disch := decide) only [State.measure_mask, State.putPort_mask, State.raise_mask, State.wearLimitCheck_mask, mask_ite, mask_ite_snd, ite_self]; done)
    | dsimp only
    | (with_reducible refine mask_foldl _ (fun s x => ?_) _ _)
    | (with_reducible refine mask_foldl_snd _ (fun s x => ?_) _ _)
    | (with_reducible refine (mask_foldl _ (fun s x => ?_) _ _).trans ?_)
    | (split <;> try (rename_i e; have e2 := congrArg Prod.snd e; dsimp only at e2; subst e2))
    | (simp (disch := decide) only [State.measure_mask, State.putPort_mask, State.raise_mask, State.wearLimitCheck_mask, mask_ite, mask_ite_snd, ite_self])

theorem State.linkUp_mask (s : State) (p : Nat) (lanes : List LaneReading) {m0 : Nat} (hw : 1816436295876614 &&& m0 = 1816436295876614) :
    (State.linkUp s p lanes).mask m0 = s.mask m0 := by
  refine mask_mono hw ?_
  unfold State.linkUp
  repeat' first
    | with_reducible rfl
    | with_reducible refine mask_ite_eq ?_ ?_
    | with_reducible refine mask_ite_snd_eq ?_ ?_
    | (simp (disch := decide) only [State.diagnose_mask, State.putLink_mask, State.putPort_mask, State.sendWaiting_mask, State.setRole_mask, mask_ite, mask_ite_snd, ite_self]; done)
    | dsimp only
    | (with_reducible refine mask_foldl _ (fun s x => ?_) _ _)
    | (with_reducible refine mask_foldl_snd _ (fun s x => ?_) _ _)
    | (with_reducible refine (mask_foldl _ (fun s x => ?_) _ _).trans ?_)
    | (split <;> try (rename_i e; have e2 := congrArg Prod.snd e; dsimp only at e2; subst e2))
    | (simp (disch := decide) only [State.diagnose_mask, State.putLink_mask, State.putPort_mask, State.sendWaiting_mask, State.setRole_mask, mask_ite, mask_ite_snd, ite_self])

theorem State.holdoffEnd_mask (s : State) (p : Nat) {m0 : Nat} (hw : 1183083238539266 &&& m0 = 1183083238539266) :
    (State.holdoffEnd s p).mask m0 = s.mask m0 := by
  refine mask_mono hw ?_
  unfold State.holdoffEnd
  repeat' first
    | with_reducible rfl
    | with_reducible refine mask_ite_eq ?_ ?_
    | with_reducible refine mask_ite_snd_eq ?_ ?_
    | (simp (disch := decide) only [State.setRole_mask, mask_ite, mask_ite_snd, ite_self]; done)
    | dsimp only
    | (with_reducible refine mask_foldl _ (fun s x => ?_) _ _)
    | (with_reducible refine mask_foldl_snd _ (fun s x => ?_) _ _)
    | (with_reducible refine (mask_foldl _ (fun s x => ?_) _ _).trans ?_)
    | (split <;> try (rename_i e; have e2 := congrArg Prod.snd e; dsimp only at e2; subst e2))
    | (simp (disch := decide) only [State.setRole_mask, mask_ite, mask_ite_snd, ite_self])

theorem State.heartbeatOut_mask (s : State) (p : Nat) {m0 : Nat} (hw : 1165491052494854 &&& m0 = 1165491052494854) :
    (State.heartbeatOut s p).mask m0 = s.mask m0 := by
  refine mask_mono hw ?_
  unfold State.heartbeatOut
  repeat' first
    | with_reducible rfl
    | with_reducible refine mask_ite_eq ?_ ?_
    | with_reducible refine mask_ite_snd_eq ?_ ?_
    | (simp (disch := decide) only [State.sendOn_mask, mask_ite, mask_ite_snd, ite_self]; done)
    | dsimp only
    | (with_reducible refine mask_foldl _ (fun s x => ?_) _ _)
    | (with_reducible refine mask_foldl_snd _ (fun s x => ?_) _ _)
    | (with_reducible refine (mask_foldl _ (fun s x => ?_) _ _).trans ?_)
    | (split <;> try (rename_i e; have e2 := congrArg Prod.snd e; dsimp only at e2; subst e2))
    | (simp (disch := decide) only [State.sendOn_mask, mask_ite, mask_ite_snd, ite_self])

theorem State.runDiagnostics_mask (s : State) (p : Nat) (lanes : List LaneReading) {m0 : Nat} (hw : 1816436295876610 &&& m0 = 1816436295876610) :
    (State.runDiagnostics s p lanes).mask m0 = s.mask m0 := by
  refine mask_mono hw ?_
  unfold State.runDiagnostics
  repeat' first
    | with_reducible rfl
    | with_reducible refine mask_ite_eq ?_ ?_
    | with_reducible refine mask_ite_snd_eq ?_ ?_
    | (simp (disch := decide) only [State.diagnose_mask, State.odSet_mask, mask_ite, mask_ite_snd, ite_self]; done)
    | dsimp only
    | (with_reducible refine mask_foldl _ (fun s x => ?_) _ _)
    | (with_reducible refine mask_foldl_snd _ (fun s x => ?_) _ _)
    | (with_reducible refine (mask_foldl _ (fun s x => ?_) _ _).trans ?_)
    | (split <;> try (rename_i e; have e2 := congrArg Prod.snd e; dsimp only at e2; subst e2))
    | (simp (disch := decide) only [State.diagnose_mask, State.odSet_mask, mask_ite, mask_ite_snd, ite_self])

theorem State.portReturn_mask (s : State) (p : Nat) {m0 : Nat} (hw : 1183083238539266 &&& m0 = 1183083238539266) :
    (State.portReturn s p).mask m0 = s.mask m0 := by
  refine mask_mono hw ?_
  unfold State.portReturn
  repeat' first
    | with_reducible rfl
    | with_reducible refine mask_ite_eq ?_ ?_
    | with_reducible refine mask_ite_snd_eq ?_ ?_
    | (simp (disch := decide) only [State.odSet_mask, State.setRole_mask, mask_ite, mask_ite_snd, ite_self]; done)
    | dsimp only
    | (with_reducible refine mask_foldl _ (fun s x => ?_) _ _)
    | (with_reducible refine mask_foldl_snd _ (fun s x => ?_) _ _)
    | (with_reducible refine (mask_foldl _ (fun s x => ?_) _ _).trans ?_)
    | (split <;> try (rename_i e; have e2 := congrArg Prod.snd e; dsimp only at e2; subst e2))
    | (simp (disch := decide) only [State.odSet_mask, State.setRole_mask, mask_ite, mask_ite_snd, ite_self])

theorem State.peerExpiry_mask (s : State) (l src : Nat) {m0 : Nat} (hw : 17592186044416 &&& m0 = 17592186044416) :
    (State.peerExpiry s l src).mask m0 = s.mask m0 := by
  refine mask_mono hw ?_
  unfold State.peerExpiry
  repeat' first
    | with_reducible rfl
    | with_reducible refine mask_ite_eq ?_ ?_
    | with_reducible refine mask_ite_snd_eq ?_ ?_
    | (simp (disch := decide) only [State.putLink_mask, mask_ite, mask_ite_snd, ite_self]; done)
    | dsimp only
    | (with_reducible refine mask_foldl _ (fun s x => ?_) _ _)
    | (with_reducible refine mask_foldl_snd _ (fun s x => ?_) _ _)
    | (with_reducible refine (mask_foldl _ (fun s x => ?_) _ _).trans ?_)
    | (split <;> try (rename_i e; have e2 := congrArg Prod.snd e; dsimp only at e2; subst e2))
    | (simp (disch := decide) only [State.putLink_mask, mask_ite, mask_ite_snd, ite_self])

end Sys2Proof.Machine
end

