-- ==== Sys2Proof/Laws/Frame/Frames.lean ====
section
/-!
SUPPORT. Frames of Machine/Frames.lean: the fields that each function may change, as a mask.
-/
namespace Sys2Proof.Machine

open Sys2Proof

set_option linter.unusedSimpArgs false

theorem State.sendState_mask (s : State) (port : BitVec 1) (echo abort : Nat) {m0 : Nat} (hw : 4 &&& m0 = 4) :
    (State.sendState s port echo abort).mask m0 = s.mask m0 := by
  refine mask_mono hw ?_
  unfold State.sendState
  repeat' first
    | with_reducible rfl
    | with_reducible refine mask_ite_eq ?_ ?_
    | with_reducible refine mask_ite_snd_eq ?_ ?_
    | (simp (disch := decide) only [State.emit_mask, mask_ite, mask_ite_snd, ite_self]; done)
    | dsimp only
    | (with_reducible refine mask_foldl _ (fun s x => ?_) _ _)
    | (with_reducible refine mask_foldl_snd _ (fun s x => ?_) _ _)
    | (with_reducible refine (mask_foldl _ (fun s x => ?_) _ _).trans ?_)
    | (split <;> try (rename_i e; have e2 := congrArg Prod.snd e; dsimp only at e2; subst e2))
    | (simp (disch := decide) only [State.emit_mask, mask_ite, mask_ite_snd, ite_self])

theorem State.freeSession_mask (s : State) (j : Nat) {m0 : Nat} (hw : 8796093022208 &&& m0 = 8796093022208) :
    (State.freeSession s j).mask m0 = s.mask m0 := by
  refine mask_mono hw ?_
  unfold State.freeSession
  repeat' first
    | with_reducible rfl
    | with_reducible refine mask_ite_eq ?_ ?_
    | with_reducible refine mask_ite_snd_eq ?_ ?_
    | (simp (disch := decide) only [setRyc_mask, mask_ite, mask_ite_snd, ite_self]; done)
    | dsimp only
    | (with_reducible refine mask_foldl _ (fun s x => ?_) _ _)
    | (with_reducible refine mask_foldl_snd _ (fun s x => ?_) _ _)
    | (with_reducible refine (mask_foldl _ (fun s x => ?_) _ _).trans ?_)
    | (split <;> try (rename_i e; have e2 := congrArg Prod.snd e; dsimp only at e2; subst e2))
    | (simp (disch := decide) only [setRyc_mask, mask_ite, mask_ite_snd, ite_self])

theorem State.closeSession_mask (s : State) (j : Nat) {m0 : Nat} (hw : 8796093022212 &&& m0 = 8796093022212) :
    (State.closeSession s j).mask m0 = s.mask m0 := by
  refine mask_mono hw ?_
  unfold State.closeSession
  repeat' first
    | with_reducible rfl
    | with_reducible refine mask_ite_eq ?_ ?_
    | with_reducible refine mask_ite_snd_eq ?_ ?_
    | (simp (disch := decide) only [State.emit_mask, State.freeSession_mask, mask_ite, mask_ite_snd, ite_self]; done)
    | dsimp only
    | (with_reducible refine mask_foldl _ (fun s x => ?_) _ _)
    | (with_reducible refine mask_foldl_snd _ (fun s x => ?_) _ _)
    | (with_reducible refine (mask_foldl _ (fun s x => ?_) _ _).trans ?_)
    | (split <;> try (rename_i e; have e2 := congrArg Prod.snd e; dsimp only at e2; subst e2))
    | (simp (disch := decide) only [State.emit_mask, State.freeSession_mask, mask_ite, mask_ite_snd, ite_self])

theorem State.sendSession_mask (s : State) (j : Nat) (port : BitVec 1) (type : Nat) (body : List Byte) {m0 : Nat} (hw : 8796093022212 &&& m0 = 8796093022212) :
    (State.sendSession s j port type body).mask m0 = s.mask m0 := by
  refine mask_mono hw ?_
  unfold State.sendSession
  repeat' first
    | with_reducible rfl
    | with_reducible refine mask_ite_eq ?_ ?_
    | with_reducible refine mask_ite_snd_eq ?_ ?_
    | (simp (disch := decide) only [State.closeSession_mask, State.emit_mask, State.putRsess_mask, mask_ite, mask_ite_snd, ite_self]; done)
    | dsimp only
    | (with_reducible refine mask_foldl _ (fun s x => ?_) _ _)
    | (with_reducible refine mask_foldl_snd _ (fun s x => ?_) _ _)
    | (with_reducible refine (mask_foldl _ (fun s x => ?_) _ _).trans ?_)
    | (split <;> try (rename_i e; have e2 := congrArg Prod.snd e; dsimp only at e2; subst e2))
    | (simp (disch := decide) only [State.closeSession_mask, State.emit_mask, State.putRsess_mask, mask_ite, mask_ite_snd, ite_self])

theorem State.noteValid_mask (s : State) (j : Nat) (f : RFrame) (frames : Nat) {m0 : Nat} (hw : 1455762122227938 &&& m0 = 1455762122227938) :
    (State.noteValid s j f frames).mask m0 = s.mask m0 := by
  refine mask_mono hw ?_
  unfold State.noteValid
  repeat' first
    | with_reducible rfl
    | with_reducible refine mask_ite_eq ?_ ?_
    | with_reducible refine mask_ite_snd_eq ?_ ?_
    | (simp (disch := decide) only [State.controllerFrame_mask, State.putRsess_mask, mask_ite, mask_ite_snd, ite_self]; done)
    | dsimp only
    | (with_reducible refine mask_foldl _ (fun s x => ?_) _ _)
    | (with_reducible refine mask_foldl_snd _ (fun s x => ?_) _ _)
    | (with_reducible refine (mask_foldl _ (fun s x => ?_) _ _).trans ?_)
    | (split <;> try (rename_i e; have e2 := congrArg Prod.snd e; dsimp only at e2; subst e2))
    | (simp (disch := decide) only [State.controllerFrame_mask, State.putRsess_mask, mask_ite, mask_ite_snd, ite_self])

theorem State.takeFrame_mask (s : State) (f : RFrame) (t : Nat) {m0 : Nat} (hw : 1455762122227942 &&& m0 = 1455762122227942) :
    (State.takeFrame s f t).2.mask m0 = s.mask m0 := by
  refine mask_mono hw ?_
  unfold State.takeFrame
  repeat' first
    | with_reducible rfl
    | with_reducible refine mask_ite_eq ?_ ?_
    | with_reducible refine mask_ite_snd_eq ?_ ?_
    | (simp (disch := decide) only [State.closeSession_mask, State.noteValid_mask, State.putRsess_mask, State.ryciaDrop_mask, State.sendState_mask, mask_ite, mask_ite_snd, ite_self]; done)
    | dsimp only
    | (with_reducible refine mask_foldl _ (fun s x => ?_) _ _)
    | (with_reducible refine mask_foldl_snd _ (fun s x => ?_) _ _)
    | (with_reducible refine (mask_foldl _ (fun s x => ?_) _ _).trans ?_)
    | (split <;> try (rename_i e; have e2 := congrArg Prod.snd e; dsimp only at e2; subst e2))
    | (simp (disch := decide) only [State.closeSession_mask, State.noteValid_mask, State.putRsess_mask, State.ryciaDrop_mask, State.sendState_mask, mask_ite, mask_ite_snd, ite_self])

theorem State.rateOk_mask (s : State) (port : BitVec 1) (what : Nat) {m0 : Nat} (hw : 1134695999864832 &&& m0 = 1134695999864832) :
    (State.rateOk s port what).2.mask m0 = s.mask m0 := by
  refine mask_mono hw ?_
  unfold State.rateOk
  repeat' first
    | with_reducible rfl
    | with_reducible refine mask_ite_eq ?_ ?_
    | with_reducible refine mask_ite_snd_eq ?_ ?_
    | (simp (disch := decide) only [setRyc_mask, State.ryciaDrop_mask, mask_ite, mask_ite_snd, ite_self]; done)
    | dsimp only
    | (with_reducible refine mask_foldl _ (fun s x => ?_) _ _)
    | (with_reducible refine mask_foldl_snd _ (fun s x => ?_) _ _)
    | (with_reducible refine (mask_foldl _ (fun s x => ?_) _ _).trans ?_)
    | (split <;> try (rename_i e; have e2 := congrArg Prod.snd e; dsimp only at e2; subst e2))
    | (simp (disch := decide) only [setRyc_mask, State.ryciaDrop_mask, mask_ite, mask_ite_snd, ite_self])

theorem State.takeClear_mask (s : State) (f : RFrame) (t what : Nat) {m0 : Nat} (hw : 1134695999864832 &&& m0 = 1134695999864832) :
    (State.takeClear s f t what).2.mask m0 = s.mask m0 := by
  refine mask_mono hw ?_
  unfold State.takeClear
  repeat' first
    | with_reducible rfl
    | with_reducible refine mask_ite_eq ?_ ?_
    | with_reducible refine mask_ite_snd_eq ?_ ?_
    | (simp (disch := decide) only [State.rateOk_mask, State.ryciaDrop_mask, mask_ite, mask_ite_snd, ite_self]; done)
    | dsimp only
    | (with_reducible refine mask_foldl _ (fun s x => ?_) _ _)
    | (with_reducible refine mask_foldl_snd _ (fun s x => ?_) _ _)
    | (with_reducible refine (mask_foldl _ (fun s x => ?_) _ _).trans ?_)
    | (split <;> try (rename_i e; have e2 := congrArg Prod.snd e; dsimp only at e2; subst e2))
    | (simp (disch := decide) only [State.rateOk_mask, State.ryciaDrop_mask, mask_ite, mask_ite_snd, ite_self])

theorem State.respond_mask (s : State) (j id : Nat) (port : BitVec 1) (body : List Byte) {m0 : Nat} (hw : 8796093022212 &&& m0 = 8796093022212) :
    (State.respond s j id port body).mask m0 = s.mask m0 := by
  refine mask_mono hw ?_
  unfold State.respond
  repeat' first
    | with_reducible rfl
    | with_reducible refine mask_ite_eq ?_ ?_
    | with_reducible refine mask_ite_snd_eq ?_ ?_
    | (simp (disch := decide) only [State.sendSession_mask, mask_ite, mask_ite_snd, ite_self]; done)
    | dsimp only
    | (with_reducible refine mask_foldl _ (fun s x => ?_) _ _)
    | (with_reducible refine mask_foldl_snd _ (fun s x => ?_) _ _)
    | (with_reducible refine (mask_foldl _ (fun s x => ?_) _ _).trans ?_)
    | (split <;> try (rename_i e; have e2 := congrArg Prod.snd e; dsimp only at e2; subst e2))
    | (simp (disch := decide) only [State.sendSession_mask, mask_ite, mask_ite_snd, ite_self])

theorem State.logWrite_mask (s : State) (w : HeldWrite) (abort : Nat) {m0 : Nat} (hw : 8796093022208 &&& m0 = 8796093022208) :
    (State.logWrite s w abort).mask m0 = s.mask m0 := by
  refine mask_mono hw ?_
  unfold State.logWrite
  repeat' first
    | with_reducible rfl
    | with_reducible refine mask_ite_eq ?_ ?_
    | with_reducible refine mask_ite_snd_eq ?_ ?_
    | (simp (disch := decide) only [setRyc_mask, mask_ite, mask_ite_snd, ite_self]; done)
    | dsimp only
    | (with_reducible refine mask_foldl _ (fun s x => ?_) _ _)
    | (with_reducible refine mask_foldl_snd _ (fun s x => ?_) _ _)
    | (with_reducible refine (mask_foldl _ (fun s x => ?_) _ _).trans ?_)
    | (split <;> try (rename_i e; have e2 := congrArg Prod.snd e; dsimp only at e2; subst e2))
    | (simp (disch := decide) only [setRyc_mask, mask_ite, mask_ite_snd, ite_self])

theorem State.logCode_mask (s : State) (abort : Nat) {m0 : Nat} (hw : 8796093022208 &&& m0 = 8796093022208) :
    (State.logCode s abort).mask m0 = s.mask m0 := by
  refine mask_mono hw ?_
  unfold State.logCode
  repeat' first
    | with_reducible rfl
    | with_reducible refine mask_ite_eq ?_ ?_
    | with_reducible refine mask_ite_snd_eq ?_ ?_
    | (simp (disch := decide) only [setRyc_mask, mask_ite, mask_ite_snd, ite_self]; done)
    | dsimp only
    | (with_reducible refine mask_foldl _ (fun s x => ?_) _ _)
    | (with_reducible refine mask_foldl_snd _ (fun s x => ?_) _ _)
    | (with_reducible refine (mask_foldl _ (fun s x => ?_) _ _).trans ?_)
    | (split <;> try (rename_i e; have e2 := congrArg Prod.snd e; dsimp only at e2; subst e2))
    | (simp (disch := decide) only [setRyc_mask, mask_ite, mask_ite_snd, ite_self])

theorem State.answerWrite_mask (s : State) (w : HeldWrite) (abort : Nat) {m0 : Nat} (hw : 8796093022212 &&& m0 = 8796093022212) :
    (State.answerWrite s w abort).mask m0 = s.mask m0 := by
  refine mask_mono hw ?_
  unfold State.answerWrite
  repeat' first
    | with_reducible rfl
    | with_reducible refine mask_ite_eq ?_ ?_
    | with_reducible refine mask_ite_snd_eq ?_ ?_
    | (simp (disch := decide) only [State.respond_mask, mask_ite, mask_ite_snd, ite_self]; done)
    | dsimp only
    | (with_reducible refine mask_foldl _ (fun s x => ?_) _ _)
    | (with_reducible refine mask_foldl_snd _ (fun s x => ?_) _ _)
    | (with_reducible refine (mask_foldl _ (fun s x => ?_) _ _).trans ?_)
    | (split <;> try (rename_i e; have e2 := congrArg Prod.snd e; dsimp only at e2; subst e2))
    | (simp (disch := decide) only [State.respond_mask, mask_ite, mask_ite_snd, ite_self])

theorem State.refuseRead_mask (s : State) (r : HeldRead) (abort : Nat) {m0 : Nat} (hw : 8796093022212 &&& m0 = 8796093022212) :
    (State.refuseRead s r abort).mask m0 = s.mask m0 := by
  refine mask_mono hw ?_
  unfold State.refuseRead
  repeat' first
    | with_reducible rfl
    | with_reducible refine mask_ite_eq ?_ ?_
    | with_reducible refine mask_ite_snd_eq ?_ ?_
    | (simp (disch := decide) only [State.respond_mask, mask_ite, mask_ite_snd, ite_self]; done)
    | dsimp only
    | (with_reducible refine mask_foldl _ (fun s x => ?_) _ _)
    | (with_reducible refine mask_foldl_snd _ (fun s x => ?_) _ _)
    | (with_reducible refine (mask_foldl _ (fun s x => ?_) _ _).trans ?_)
    | (split <;> try (rename_i e; have e2 := congrArg Prod.snd e; dsimp only at e2; subst e2))
    | (simp (disch := decide) only [State.respond_mask, mask_ite, mask_ite_snd, ite_self])

theorem State.serverFault_mask (s : State) (die : Nat) {m0 : Nat} (hw : 8796093022212 &&& m0 = 8796093022212) :
    (State.serverFault s die).mask m0 = s.mask m0 := by
  refine mask_mono hw ?_
  unfold State.serverFault
  repeat' first
    | with_reducible rfl
    | with_reducible refine mask_ite_eq ?_ ?_
    | with_reducible refine mask_ite_snd_eq ?_ ?_
    | (simp (disch := decide) only [setRyc_mask, State.answerWrite_mask, State.logWrite_mask, State.refuseRead_mask, mask_ite, mask_ite_snd, ite_self]; done)
    | dsimp only
    | (with_reducible refine mask_foldl _ (fun s x => ?_) _ _)
    | (with_reducible refine mask_foldl_snd _ (fun s x => ?_) _ _)
    | (with_reducible refine (mask_foldl _ (fun s x => ?_) _ _).trans ?_)
    | (split <;> try (rename_i e; have e2 := congrArg Prod.snd e; dsimp only at e2; subst e2))
    | (simp (disch := decide) only [setRyc_mask, State.answerWrite_mask, State.logWrite_mask, State.refuseRead_mask, mask_ite, mask_ite_snd, ite_self])

end Sys2Proof.Machine
end

