-- ==== Sys2Proof/Laws/Frame/Failures.lean ====
section
/-!
SUPPORT. Frames of Machine/Failures.lean: the fields that each function may change, as a mask.
-/
namespace Sys2Proof.Machine

open Sys2Proof

set_option linter.unusedSimpArgs false

theorem State.linkFails_mask (s : State) (why : Nat) {m0 : Nat} (hw : 1798844109836290 &&& m0 = 1798844109836290) :
    (State.linkFails s why).mask m0 = s.mask m0 := by
  refine mask_mono hw ?_
  unfold State.linkFails
  repeat' first
    | with_reducible rfl
    | with_reducible refine mask_ite_eq ?_ ?_
    | with_reducible refine mask_ite_snd_eq ?_ ?_
    | (simp (disch := decide) only [State.failRecord_mask, State.fatal_mask, mask_ite, mask_ite_snd, ite_self]; done)
    | dsimp only
    | (with_reducible refine mask_foldl _ (fun s x => ?_) _ _)
    | (with_reducible refine mask_foldl_snd _ (fun s x => ?_) _ _)
    | (with_reducible refine (mask_foldl _ (fun s x => ?_) _ _).trans ?_)
    | (split <;> try (rename_i e; have e2 := congrArg Prod.snd e; dsimp only at e2; subst e2))
    | (simp (disch := decide) only [State.failRecord_mask, State.fatal_mask, mask_ite, mask_ite_snd, ite_self])

theorem State.flitFails_mask (s : State) (toWest same : Bool) {m0 : Nat} (hw : 4050643923521538 &&& m0 = 4050643923521538) :
    (State.flitFails s toWest same).mask m0 = s.mask m0 := by
  refine mask_mono hw ?_
  unfold State.flitFails
  repeat' first
    | with_reducible rfl
    | with_reducible refine mask_ite_eq ?_ ?_
    | with_reducible refine mask_ite_snd_eq ?_ ?_
    | (simp (disch := decide) only [setD2dFails_mask, State.bumpDie_mask, State.charge_mask, State.linkFails_mask, mask_ite, mask_ite_snd, ite_self]; done)
    | dsimp only
    | (with_reducible refine mask_foldl _ (fun s x => ?_) _ _)
    | (with_reducible refine mask_foldl_snd _ (fun s x => ?_) _ _)
    | (with_reducible refine (mask_foldl _ (fun s x => ?_) _ _).trans ?_)
    | (split <;> try (rename_i e; have e2 := congrArg Prod.snd e; dsimp only at e2; subst e2))
    | (simp (disch := decide) only [setD2dFails_mask, State.bumpDie_mask, State.charge_mask, State.linkFails_mask, mask_ite, mask_ite_snd, ite_self])

theorem State.abortHeld_mask (s : State) (die c : Nat) {m0 : Nat} (hw : 1165491052494850 &&& m0 = 1165491052494850) :
    (State.abortHeld s die c).mask m0 = s.mask m0 := by
  refine mask_mono hw ?_
  unfold State.abortHeld
  repeat' first
    | with_reducible rfl
    | with_reducible refine mask_ite_eq ?_ ?_
    | with_reducible refine mask_ite_snd_eq ?_ ?_
    | (simp (disch := decide) only [State.answerKept_mask, mask_ite, mask_ite_snd, ite_self]; done)
    | dsimp only
    | (with_reducible refine mask_foldl _ (fun s x => ?_) _ _)
    | (with_reducible refine mask_foldl_snd _ (fun s x => ?_) _ _)
    | (with_reducible refine (mask_foldl _ (fun s x => ?_) _ _).trans ?_)
    | (split <;> try (rename_i e; have e2 := congrArg Prod.snd e; dsimp only at e2; subst e2))
    | (simp (disch := decide) only [State.answerKept_mask, mask_ite, mask_ite_snd, ite_self])

theorem State.containComp_mask (s : State) (die c cause : Nat) {m0 : Nat} (hw : 1176486168772614 &&& m0 = 1176486168772614) :
    (State.containComp s die c cause).mask m0 = s.mask m0 := by
  refine mask_mono hw ?_
  unfold State.containComp
  repeat' first
    | with_reducible rfl
    | with_reducible refine mask_ite_eq ?_ ?_
    | with_reducible refine mask_ite_snd_eq ?_ ?_
    | (simp (disch := decide) only [State.abortHeld_mask, State.abortInFlight_mask, State.putComp_mask, State.serverFault_mask, State.setComp_mask, mask_ite, mask_ite_snd, ite_self]; done)
    | dsimp only
    | (with_reducible refine mask_foldl _ (fun s x => ?_) _ _)
    | (with_reducible refine mask_foldl_snd _ (fun s x => ?_) _ _)
    | (with_reducible refine (mask_foldl _ (fun s x => ?_) _ _).trans ?_)
    | (split <;> try (rename_i e; have e2 := congrArg Prod.snd e; dsimp only at e2; subst e2))
    | (simp (disch := decide) only [State.abortHeld_mask, State.abortInFlight_mask, State.putComp_mask, State.serverFault_mask, State.setComp_mask, mask_ite, mask_ite_snd, ite_self])

theorem State.restartComp_mask (s : State) (die c : Nat) {m0 : Nat} (hw : 1165491052494850 &&& m0 = 1165491052494850) :
    (State.restartComp s die c).mask m0 = s.mask m0 := by
  refine mask_mono hw ?_
  unfold State.restartComp
  repeat' first
    | with_reducible rfl
    | with_reducible refine mask_ite_eq ?_ ?_
    | with_reducible refine mask_ite_snd_eq ?_ ?_
    | (simp (disch := decide) only [State.putComp_mask, State.setComp_mask, mask_ite, mask_ite_snd, ite_self]; done)
    | dsimp only
    | (with_reducible refine mask_foldl _ (fun s x => ?_) _ _)
    | (with_reducible refine mask_foldl_snd _ (fun s x => ?_) _ _)
    | (with_reducible refine (mask_foldl _ (fun s x => ?_) _ _).trans ?_)
    | (split <;> try (rename_i e; have e2 := congrArg Prod.snd e; dsimp only at e2; subst e2))
    | (simp (disch := decide) only [State.putComp_mask, State.setComp_mask, mask_ite, mask_ite_snd, ite_self])

theorem State.resumeComp_mask (s : State) (die c cause : Nat) (copyOk : Bool) {m0 : Nat} (hw : 1165491052498946 &&& m0 = 1165491052498946) :
    (State.resumeComp s die c cause copyOk).mask m0 = s.mask m0 := by
  refine mask_mono hw ?_
  unfold State.resumeComp
  repeat' first
    | with_reducible rfl
    | with_reducible refine mask_ite_eq ?_ ?_
    | with_reducible refine mask_ite_snd_eq ?_ ?_
    | (simp (disch := decide) only [State.fatal_mask, State.odInc_mask, State.odSet_mask, State.restartComp_mask, State.setComp_mask, mask_ite, mask_ite_snd, ite_self]; done)
    | dsimp only
    | (with_reducible refine mask_foldl _ (fun s x => ?_) _ _)
    | (with_reducible refine mask_foldl_snd _ (fun s x => ?_) _ _)
    | (with_reducible refine (mask_foldl _ (fun s x => ?_) _ _).trans ?_)
    | (split <;> try (rename_i e; have e2 := congrArg Prod.snd e; dsimp only at e2; subst e2))
    | (simp (disch := decide) only [State.fatal_mask, State.odInc_mask, State.odSet_mask, State.restartComp_mask, State.setComp_mask, mask_ite, mask_ite_snd, ite_self])

theorem State.restartApps_mask (s : State) (die : Nat) {m0 : Nat} (hw : 4398046511104 &&& m0 = 4398046511104) :
    (State.restartApps s die).mask m0 = s.mask m0 := by
  refine mask_mono hw ?_
  unfold State.restartApps
  repeat' first
    | with_reducible rfl
    | with_reducible refine mask_ite_eq ?_ ?_
    | with_reducible refine mask_ite_snd_eq ?_ ?_
    | (simp (disch := decide) only [setFw_mask, mask_ite, mask_ite_snd, ite_self]; done)
    | dsimp only
    | (with_reducible refine mask_foldl _ (fun s x => ?_) _ _)
    | (with_reducible refine mask_foldl_snd _ (fun s x => ?_) _ _)
    | (with_reducible refine (mask_foldl _ (fun s x => ?_) _ _).trans ?_)
    | (split <;> try (rename_i e; have e2 := congrArg Prod.snd e; dsimp only at e2; subst e2))
    | (simp (disch := decide) only [setFw_mask, mask_ite, mask_ite_snd, ite_self])

theorem State.restartFirmware_mask (s : State) (die : Nat) {m0 : Nat} (hw : 1176486168776710 &&& m0 = 1176486168776710) :
    (State.restartFirmware s die).mask m0 = s.mask m0 := by
  refine mask_mono hw ?_
  unfold State.restartFirmware
  repeat' first
    | with_reducible rfl
    | with_reducible refine mask_ite_eq ?_ ?_
    | with_reducible refine mask_ite_snd_eq ?_ ?_
    | (simp (disch := decide) only [State.containComp_mask, State.resumeComp_mask, mask_ite, mask_ite_snd, ite_self]; done)
    | dsimp only
    | (with_reducible refine mask_foldl _ (fun s x => ?_) _ _)
    | (with_reducible refine mask_foldl_snd _ (fun s x => ?_) _ _)
    | (with_reducible refine (mask_foldl _ (fun s x => ?_) _ _).trans ?_)
    | (split <;> try (rename_i e; have e2 := congrArg Prod.snd e; dsimp only at e2; subst e2))
    | (simp (disch := decide) only [State.containComp_mask, State.resumeComp_mask, mask_ite, mask_ite_snd, ite_self])

theorem State.pllLost_mask (s : State) (domain die unit : Nat) {m0 : Nat} (hw : 1827431413411846 &&& m0 = 1827431413411846) :
    (State.pllLost s domain die unit).mask m0 = s.mask m0 := by
  refine mask_mono hw ?_
  unfold State.pllLost
  repeat' first
    | with_reducible rfl
    | with_reducible refine mask_ite_eq ?_ ?_
    | with_reducible refine mask_ite_snd_eq ?_ ?_
    | (simp (disch := decide) only [State.charge_mask, State.failRecord_mask, State.fatal_mask, State.portFails_mask, State.raiseEast_mask, State.restartApps_mask, State.restartEngine_mask, State.restartFirmware_mask, State.startCoreReset_mask, mask_ite, mask_ite_snd, ite_self]; done)
    | dsimp only
    | (with_reducible refine mask_foldl _ (fun s x => ?_) _ _)
    | (with_reducible refine mask_foldl_snd _ (fun s x => ?_) _ _)
    | (with_reducible refine (mask_foldl _ (fun s x => ?_) _ _).trans ?_)
    | (split <;> try (rename_i e; have e2 := congrArg Prod.snd e; dsimp only at e2; subst e2))
    | (simp (disch := decide) only [State.charge_mask, State.failRecord_mask, State.fatal_mask, State.portFails_mask, State.raiseEast_mask, State.restartApps_mask, State.restartEngine_mask, State.restartFirmware_mask, State.startCoreReset_mask, mask_ite, mask_ite_snd, ite_self])

theorem State.leaveService_mask (s : State) (reason : Nat) {m0 : Nat} (hw : 2080284726809570 &&& m0 = 2080284726809570) :
    (State.leaveService s reason).mask m0 = s.mask m0 := by
  refine mask_mono hw ?_
  unfold State.leaveService
  repeat' first
    | with_reducible rfl
    | with_reducible refine mask_ite_eq ?_ ?_
    | with_reducible refine mask_ite_snd_eq ?_ ?_
    | (simp (disch := decide) only [State.drainFor_mask, State.toOutOfService_mask, mask_ite, mask_ite_snd, ite_self]; done)
    | dsimp only
    | (with_reducible refine mask_foldl _ (fun s x => ?_) _ _)
    | (with_reducible refine mask_foldl_snd _ (fun s x => ?_) _ _)
    | (with_reducible refine (mask_foldl _ (fun s x => ?_) _ _).trans ?_)
    | (split <;> try (rename_i e; have e2 := congrArg Prod.snd e; dsimp only at e2; subst e2))
    | (simp (disch := decide) only [State.drainFor_mask, State.toOutOfService_mask, mask_ite, mask_ite_snd, ite_self])

theorem State.appCoreFails_mask (s : State) (n : Nat) {m0 : Nat} (hw : 1763651010691072 &&& m0 = 1763651010691072) :
    (State.appCoreFails s n).mask m0 = s.mask m0 := by
  refine mask_mono hw ?_
  unfold State.appCoreFails
  repeat' first
    | with_reducible rfl
    | with_reducible refine mask_ite_eq ?_ ?_
    | with_reducible refine mask_ite_snd_eq ?_ ?_
    | (simp (disch := decide) only [setFw_mask, State.charge_mask, State.commit_mask, State.failRecord_mask, State.odSet_mask, mask_ite, mask_ite_snd, ite_self]; done)
    | dsimp only
    | (with_reducible refine mask_foldl _ (fun s x => ?_) _ _)
    | (with_reducible refine mask_foldl_snd _ (fun s x => ?_) _ _)
    | (with_reducible refine (mask_foldl _ (fun s x => ?_) _ _).trans ?_)
    | (split <;> try (rename_i e; have e2 := congrArg Prod.snd e; dsimp only at e2; subst e2))
    | (simp (disch := decide) only [setFw_mask, State.charge_mask, State.commit_mask, State.failRecord_mask, State.odSet_mask, mask_ite, mask_ite_snd, ite_self])

theorem State.samplerFails_mask (s : State) (die : Nat) {m0 : Nat} (hw : 1763651010691072 &&& m0 = 1763651010691072) :
    (State.samplerFails s die).mask m0 = s.mask m0 := by
  refine mask_mono hw ?_
  unfold State.samplerFails
  repeat' first
    | with_reducible rfl
    | with_reducible refine mask_ite_eq ?_ ?_
    | with_reducible refine mask_ite_snd_eq ?_ ?_
    | (simp (disch := decide) only [setFw_mask, State.failRecord_mask, mask_ite, mask_ite_snd, ite_self]; done)
    | dsimp only
    | (with_reducible refine mask_foldl _ (fun s x => ?_) _ _)
    | (with_reducible refine mask_foldl_snd _ (fun s x => ?_) _ _)
    | (with_reducible refine (mask_foldl _ (fun s x => ?_) _ _).trans ?_)
    | (split <;> try (rename_i e; have e2 := congrArg Prod.snd e; dsimp only at e2; subst e2))
    | (simp (disch := decide) only [setFw_mask, State.failRecord_mask, mask_ite, mask_ite_snd, ite_self])

theorem State.securityFails_mask (s : State) (die : Nat) {m0 : Nat} (hw : 2221056574903266 &&& m0 = 2221056574903266) :
    (State.securityFails s die).mask m0 = s.mask m0 := by
  refine mask_mono hw ?_
  unfold State.securityFails
  repeat' first
    | with_reducible rfl
    | with_reducible refine mask_ite_eq ?_ ?_
    | with_reducible refine mask_ite_snd_eq ?_ ?_
    | (simp (disch := decide) only [setSec_mask, State.failRecord_mask, State.leaveService_mask, mask_ite, mask_ite_snd, ite_self]; done)
    | dsimp only
    | (with_reducible refine mask_foldl _ (fun s x => ?_) _ _)
    | (with_reducible refine mask_foldl_snd _ (fun s x => ?_) _ _)
    | (with_reducible refine (mask_foldl _ (fun s x => ?_) _ _).trans ?_)
    | (split <;> try (rename_i e; have e2 := congrArg Prod.snd e; dsimp only at e2; subst e2))
    | (simp (disch := decide) only [setSec_mask, State.failRecord_mask, State.leaveService_mask, mask_ite, mask_ite_snd, ite_self])

theorem State.sliceFails_mask (s : State) (n : Nat) {m0 : Nat} (hw : 1763655305658370 &&& m0 = 1763655305658370) :
    (State.sliceFails s n).mask m0 = s.mask m0 := by
  refine mask_mono hw ?_
  unfold State.sliceFails
  repeat' first
    | with_reducible rfl
    | with_reducible refine mask_ite_eq ?_ ?_
    | with_reducible refine mask_ite_snd_eq ?_ ?_
    | (simp (disch := decide) only [setWithdrawn_mask, State.drawNat_mask, State.failRecord_mask, mask_ite, mask_ite_snd, ite_self]; done)
    | dsimp only
    | (with_reducible refine mask_foldl _ (fun s x => ?_) _ _)
    | (with_reducible refine mask_foldl_snd _ (fun s x => ?_) _ _)
    | (with_reducible refine (mask_foldl _ (fun s x => ?_) _ _).trans ?_)
    | (split <;> try (rename_i e; have e2 := congrArg Prod.snd e; dsimp only at e2; subst e2))
    | (simp (disch := decide) only [setWithdrawn_mask, State.drawNat_mask, State.failRecord_mask, mask_ite, mask_ite_snd, ite_self])

theorem State.compFault_mask (s : State) (die c cause : Nat) (copyOk : Bool) {m0 : Nat} (hw : 1809839226114054 &&& m0 = 1809839226114054) :
    (State.compFault s die c cause copyOk).mask m0 = s.mask m0 := by
  refine mask_mono hw ?_
  unfold State.compFault
  repeat' first
    | with_reducible rfl
    | with_reducible refine mask_ite_eq ?_ ?_
    | with_reducible refine mask_ite_snd_eq ?_ ?_
    | (simp (disch := decide) only [State.charge_mask, State.commit_mask, State.containComp_mask, State.failRecord_mask, State.fatal_mask, State.odInc_mask, State.odSet_mask, State.putComp_mask, State.restartComp_mask, State.setComp_mask, mask_ite, mask_ite_snd, ite_self]; done)
    | dsimp only
    | (with_reducible refine mask_foldl _ (fun s x => ?_) _ _)
    | (with_reducible refine mask_foldl_snd _ (fun s x => ?_) _ _)
    | (with_reducible refine (mask_foldl _ (fun s x => ?_) _ _).trans ?_)
    | (split <;> try (rename_i e; have e2 := congrArg Prod.snd e; dsimp only at e2; subst e2))
    | (simp (disch := decide) only [State.charge_mask, State.commit_mask, State.containComp_mask, State.failRecord_mask, State.fatal_mask, State.odInc_mask, State.odSet_mask, State.putComp_mask, State.restartComp_mask, State.setComp_mask, mask_ite, mask_ite_snd, ite_self])

theorem State.compEvent_mask (s : State) (die c : Nat) (ev : CompEvent) (copyOk : Bool) {m0 : Nat} (hw : 1809839226114054 &&& m0 = 1809839226114054) :
    (State.compEvent s die c ev copyOk).mask m0 = s.mask m0 := by
  refine mask_mono hw ?_
  unfold State.compEvent
  repeat' first
    | with_reducible rfl
    | with_reducible refine mask_ite_eq ?_ ?_
    | with_reducible refine mask_ite_snd_eq ?_ ?_
    | (simp (disch := decide) only [State.compFault_mask, State.putComp_mask, mask_ite, mask_ite_snd, ite_self]; done)
    | dsimp only
    | (with_reducible refine mask_foldl _ (fun s x => ?_) _ _)
    | (with_reducible refine mask_foldl_snd _ (fun s x => ?_) _ _)
    | (with_reducible refine (mask_foldl _ (fun s x => ?_) _ _).trans ?_)
    | (split <;> try (rename_i e; have e2 := congrArg Prod.snd e; dsimp only at e2; subst e2))
    | (simp (disch := decide) only [State.compFault_mask, State.putComp_mask, mask_ite, mask_ite_snd, ite_self])

theorem State.overrun_mask (s : State) (die c : Nat) (copyOk : Bool) {m0 : Nat} (hw : 1809839226114054 &&& m0 = 1809839226114054) :
    (State.overrun s die c copyOk).mask m0 = s.mask m0 := by
  refine mask_mono hw ?_
  unfold State.overrun
  repeat' first
    | with_reducible rfl
    | with_reducible refine mask_ite_eq ?_ ?_
    | with_reducible refine mask_ite_snd_eq ?_ ?_
    | (simp (disch := decide) only [State.compFault_mask, State.putComp_mask, mask_ite, mask_ite_snd, ite_self]; done)
    | dsimp only
    | (with_reducible refine mask_foldl _ (fun s x => ?_) _ _)
    | (with_reducible refine mask_foldl_snd _ (fun s x => ?_) _ _)
    | (with_reducible refine (mask_foldl _ (fun s x => ?_) _ _).trans ?_)
    | (split <;> try (rename_i e; have e2 := congrArg Prod.snd e; dsimp only at e2; subst e2))
    | (simp (disch := decide) only [State.compFault_mask, State.putComp_mask, mask_ite, mask_ite_snd, ite_self])

theorem State.rehome_mask (s : State) (die c : Nat) {m0 : Nat} (hw : 4398046511106 &&& m0 = 4398046511106) :
    (State.rehome s die c).mask m0 = s.mask m0 := by
  refine mask_mono hw ?_
  unfold State.rehome
  repeat' first
    | with_reducible rfl
    | with_reducible refine mask_ite_eq ?_ ?_
    | with_reducible refine mask_ite_snd_eq ?_ ?_
    | (simp (disch := decide) only [State.homeCore_mask, State.putComp_mask, mask_ite, mask_ite_snd, ite_self]; done)
    | dsimp only
    | (with_reducible refine mask_foldl _ (fun s x => ?_) _ _)
    | (with_reducible refine mask_foldl_snd _ (fun s x => ?_) _ _)
    | (with_reducible refine (mask_foldl _ (fun s x => ?_) _ _).trans ?_)
    | (split <;> try (rename_i e; have e2 := congrArg Prod.snd e; dsimp only at e2; subst e2))
    | (simp (disch := decide) only [State.homeCore_mask, State.putComp_mask, mask_ite, mask_ite_snd, ite_self])

theorem State.moveComp_mask (s : State) (die c : Nat) (copyOk : Bool) {m0 : Nat} (hw : 1165491052498946 &&& m0 = 1165491052498946) :
    (State.moveComp s die c copyOk).mask m0 = s.mask m0 := by
  refine mask_mono hw ?_
  unfold State.moveComp
  repeat' first
    | with_reducible rfl
    | with_reducible refine mask_ite_eq ?_ ?_
    | with_reducible refine mask_ite_snd_eq ?_ ?_
    | (simp (disch := decide) only [State.odSet_mask, State.rehome_mask, State.resumeComp_mask, mask_ite, mask_ite_snd, ite_self]; done)
    | dsimp only
    | (with_reducible refine mask_foldl _ (fun s x => ?_) _ _)
    | (with_reducible refine mask_foldl_snd _ (fun s x => ?_) _ _)
    | (with_reducible refine (mask_foldl _ (fun s x => ?_) _ _).trans ?_)
    | (split <;> try (rename_i e; have e2 := congrArg Prod.snd e; dsimp only at e2; subst e2))
    | (simp (disch := decide) only [State.odSet_mask, State.rehome_mask, State.resumeComp_mask, mask_ite, mask_ite_snd, ite_self])

theorem State.moveComps_mask (s : State) (die : Nat) (bad : List Nat) (xs : List Nat) {m0 : Nat} (hw : 1176486168776710 &&& m0 = 1176486168776710) :
    (State.moveComps s die bad xs).mask m0 = s.mask m0 := by
  refine mask_mono hw ?_
  clear hw
  induction xs generalizing s with
  | nil =>
    unfold State.moveComps
    first | rfl | (split <;> rfl)
  | cons x xs ih =>
    unfold State.moveComps
    repeat' first
      | with_reducible rfl
      | with_reducible refine mask_ite_eq ?_ ?_
      | with_reducible refine mask_ite_snd_eq ?_ ?_
      | (simp (disch := decide) only [State.containComp_mask, State.moveComp_mask, mask_ite, mask_ite_snd, ite_self, ih]; done)
      | dsimp only
      | (with_reducible refine mask_foldl _ (fun s x => ?_) _ _)
      | (with_reducible refine mask_foldl_snd _ (fun s x => ?_) _ _)
      | (with_reducible refine (mask_foldl _ (fun s x => ?_) _ _).trans ?_)
      | (split <;> try (rename_i e; have e2 := congrArg Prod.snd e; dsimp only at e2; subst e2))
      | (simp (disch := decide) only [State.containComp_mask, State.moveComp_mask, mask_ite, mask_ite_snd, ite_self, ih])

theorem State.moveFrom_mask (s : State) (n : Nat) (bad : List Nat) {m0 : Nat} (hw : 1176486168776710 &&& m0 = 1176486168776710) :
    (State.moveFrom s n bad).mask m0 = s.mask m0 := by
  refine mask_mono hw ?_
  unfold State.moveFrom
  repeat' first
    | with_reducible rfl
    | with_reducible refine mask_ite_eq ?_ ?_
    | with_reducible refine mask_ite_snd_eq ?_ ?_
    | (simp (disch := decide) only [State.moveComps_mask, State.rehome_mask, mask_ite, mask_ite_snd, ite_self]; done)
    | dsimp only
    | (with_reducible refine mask_foldl _ (fun s x => ?_) _ _)
    | (with_reducible refine mask_foldl_snd _ (fun s x => ?_) _ _)
    | (with_reducible refine (mask_foldl _ (fun s x => ?_) _ _).trans ?_)
    | (split <;> try (rename_i e; have e2 := congrArg Prod.snd e; dsimp only at e2; subst e2))
    | (simp (disch := decide) only [State.moveComps_mask, State.rehome_mask, mask_ite, mask_ite_snd, ite_self])

theorem State.fwCoreFails_mask (s : State) (n trigger : Nat) (bad : List Nat) {m0 : Nat} (hw : 2091314202825702 &&& m0 = 2091314202825702) :
    (State.fwCoreFails s n trigger bad).mask m0 = s.mask m0 := by
  refine mask_mono hw ?_
  unfold State.fwCoreFails
  repeat' first
    | with_reducible rfl
    | with_reducible refine mask_ite_eq ?_ ?_
    | with_reducible refine mask_ite_snd_eq ?_ ?_
    | (simp (disch := decide) only [setFw_mask, State.charge_mask, State.commit_mask, State.failRecord_mask, State.leaveService_mask, State.moveFrom_mask, mask_ite, mask_ite_snd, ite_self]; done)
    | dsimp only
    | (with_reducible refine mask_foldl _ (fun s x => ?_) _ _)
    | (with_reducible refine mask_foldl_snd _ (fun s x => ?_) _ _)
    | (with_reducible refine (mask_foldl _ (fun s x => ?_) _ _).trans ?_)
    | (split <;> try (rename_i e; have e2 := congrArg Prod.snd e; dsimp only at e2; subst e2))
    | (simp (disch := decide) only [setFw_mask, State.charge_mask, State.commit_mask, State.failRecord_mask, State.leaveService_mask, State.moveFrom_mask, mask_ite, mask_ite_snd, ite_self])

end Sys2Proof.Machine
end

