-- ==== Sys2Proof/Laws/Frame/EventCmds.lean ====
section
/-!
SUPPORT. Frames of Machine/EventCmds.lean: the fields that each function may change, as a mask.
-/
namespace Sys2Proof.Machine

open Sys2Proof

set_option linter.unusedSimpArgs false

theorem State.sense_mask (s : State) (die n : Nat) (level : Bool) (detail : Nat) {m0 : Nat} (hw : 1165491052494850 &&& m0 = 1165491052494850) :
    (State.sense s die n level detail).mask m0 = s.mask m0 := by
  refine mask_mono hw ?_
  unfold State.sense
  repeat' first
    | with_reducible rfl
    | with_reducible refine mask_ite_eq ?_ ?_
    | with_reducible refine mask_ite_snd_eq ?_ ?_
    | (simp (disch := decide) only [State.condition_mask, State.raise_mask, mask_ite, mask_ite_snd, ite_self]; done)
    | dsimp only
    | (with_reducible refine mask_foldl _ (fun s x => ?_) _ _)
    | (with_reducible refine mask_foldl_snd _ (fun s x => ?_) _ _)
    | (with_reducible refine (mask_foldl _ (fun s x => ?_) _ _).trans ?_)
    | (split <;> try (rename_i e; have e2 := congrArg Prod.snd e; dsimp only at e2; subst e2))
    | (simp (disch := decide) only [State.condition_mask, State.raise_mask, mask_ite, mask_ite_snd, ite_self])

theorem State.coalesce_mask (s : State) (die n : Nat) {m0 : Nat} (hw : 1165491052494850 &&& m0 = 1165491052494850) :
    (State.coalesce s die n).mask m0 = s.mask m0 := by
  refine mask_mono hw ?_
  unfold State.coalesce
  repeat' first
    | with_reducible rfl
    | with_reducible refine mask_ite_eq ?_ ?_
    | with_reducible refine mask_ite_snd_eq ?_ ?_
    | (simp (disch := decide) only [State.raise_mask, deliver_raise_mask, mask_ite, mask_ite_snd, ite_self]; done)
    | dsimp only
    | (with_reducible refine mask_foldl _ (fun s x => ?_) _ _)
    | (with_reducible refine mask_foldl_snd _ (fun s x => ?_) _ _)
    | (with_reducible refine (mask_foldl _ (fun s x => ?_) _ _).trans ?_)
    | (split <;> try (rename_i e; have e2 := congrArg Prod.snd e; dsimp only at e2; subst e2))
    | (simp (disch := decide) only [State.raise_mask, deliver_raise_mask, mask_ite, mask_ite_snd, ite_self])

theorem State.claim_mask (s : State) (c : Nat) {m0 : Nat} (hw : 35184372088836 &&& m0 = 35184372088836) :
    (State.claim s c).mask m0 = s.mask m0 := by
  refine mask_mono hw ?_
  unfold State.claim
  repeat' first
    | with_reducible rfl
    | with_reducible refine mask_ite_eq ?_ ?_
    | with_reducible refine mask_ite_snd_eq ?_ ?_
    | (simp (disch := decide) only [State.emit_mask, State.putIrq_mask, mask_ite, mask_ite_snd, ite_self]; done)
    | dsimp only
    | (with_reducible refine mask_foldl _ (fun s x => ?_) _ _)
    | (with_reducible refine mask_foldl_snd _ (fun s x => ?_) _ _)
    | (with_reducible refine (mask_foldl _ (fun s x => ?_) _ _).trans ?_)
    | (split <;> try (rename_i e; have e2 := congrArg Prod.snd e; dsimp only at e2; subst e2))
    | (simp (disch := decide) only [State.emit_mask, State.putIrq_mask, mask_ite, mask_ite_snd, ite_self])

theorem State.stackFault_mask (s : State) (c top word : Nat) {m0 : Nat} (hw : 1165491052498946 &&& m0 = 1165491052498946) :
    (State.stackFault s c top word).mask m0 = s.mask m0 := by
  refine mask_mono hw ?_
  unfold State.stackFault
  repeat' first
    | with_reducible rfl
    | with_reducible refine mask_ite_eq ?_ ?_
    | with_reducible refine mask_ite_snd_eq ?_ ?_
    | (simp (disch := decide) only [State.fatal_mask, State.odInc_mask, State.raise_mask, mask_ite, mask_ite_snd, ite_self]; done)
    | dsimp only
    | (with_reducible refine mask_foldl _ (fun s x => ?_) _ _)
    | (with_reducible refine mask_foldl_snd _ (fun s x => ?_) _ _)
    | (with_reducible refine (mask_foldl _ (fun s x => ?_) _ _).trans ?_)
    | (split <;> try (rename_i e; have e2 := congrArg Prod.snd e; dsimp only at e2; subst e2))
    | (simp (disch := decide) only [State.fatal_mask, State.odInc_mask, State.raise_mask, mask_ite, mask_ite_snd, ite_self])

theorem State.completeIrq_mask (s : State) (c word : Nat) {m0 : Nat} (hw : 1165491052498946 &&& m0 = 1165491052498946) :
    (State.completeIrq s c word).mask m0 = s.mask m0 := by
  refine mask_mono hw ?_
  unfold State.completeIrq
  repeat' first
    | with_reducible rfl
    | with_reducible refine mask_ite_eq ?_ ?_
    | with_reducible refine mask_ite_snd_eq ?_ ?_
    | (simp (disch := decide) only [State.putIrq_mask, State.stackFault_mask, mask_ite, mask_ite_snd, ite_self]; done)
    | dsimp only
    | (with_reducible refine mask_foldl _ (fun s x => ?_) _ _)
    | (with_reducible refine mask_foldl_snd _ (fun s x => ?_) _ _)
    | (with_reducible refine (mask_foldl _ (fun s x => ?_) _ _).trans ?_)
    | (split <;> try (rename_i e; have e2 := congrArg Prod.snd e; dsimp only at e2; subst e2))
    | (simp (disch := decide) only [State.putIrq_mask, State.stackFault_mask, mask_ite, mask_ite_snd, ite_self])

theorem State.writeControl_mask (s : State) (die n w : Nat) {m0 : Nat} (hw : 35184372088832 &&& m0 = 35184372088832) :
    (State.writeControl s die n w).2.mask m0 = s.mask m0 := by
  refine mask_mono hw ?_
  unfold State.writeControl
  repeat' first
    | with_reducible rfl
    | with_reducible refine mask_ite_eq ?_ ?_
    | with_reducible refine mask_ite_snd_eq ?_ ?_
    | (simp (disch := decide) only [State.putSource_mask, mask_ite, mask_ite_snd, ite_self]; done)
    | dsimp only
    | (with_reducible refine mask_foldl _ (fun s x => ?_) _ _)
    | (with_reducible refine mask_foldl_snd _ (fun s x => ?_) _ _)
    | (with_reducible refine (mask_foldl _ (fun s x => ?_) _ _).trans ?_)
    | (split <;> try (rename_i e; have e2 := congrArg Prod.snd e; dsimp only at e2; subst e2))
    | (simp (disch := decide) only [State.putSource_mask, mask_ite, mask_ite_snd, ite_self])

theorem State.writeCounter_mask (s : State) (k c : Nat) {m0 : Nat} (hw : 35184372088832 &&& m0 = 35184372088832) :
    (State.writeCounter s k c).mask m0 = s.mask m0 := by
  refine mask_mono hw ?_
  unfold State.writeCounter
  repeat' first
    | with_reducible rfl
    | with_reducible refine mask_ite_eq ?_ ?_
    | with_reducible refine mask_ite_snd_eq ?_ ?_
    | (simp (disch := decide) only [State.putCtr_mask, mask_ite, mask_ite_snd, ite_self]; done)
    | dsimp only
    | (with_reducible refine mask_foldl _ (fun s x => ?_) _ _)
    | (with_reducible refine mask_foldl_snd _ (fun s x => ?_) _ _)
    | (with_reducible refine (mask_foldl _ (fun s x => ?_) _ _).trans ?_)
    | (split <;> try (rename_i e; have e2 := congrArg Prod.snd e; dsimp only at e2; subst e2))
    | (simp (disch := decide) only [State.putCtr_mask, mask_ite, mask_ite_snd, ite_self])

theorem State.countOn_mask (s : State) (k n : Nat) (reaches : Ctr → Ctr × Bool × Bool → Bool) {m0 : Nat} (hw : 1165491052494850 &&& m0 = 1165491052494850) :
    (State.countOn s k n reaches).mask m0 = s.mask m0 := by
  refine mask_mono hw ?_
  unfold State.countOn
  repeat' first
    | with_reducible rfl
    | with_reducible refine mask_ite_eq ?_ ?_
    | with_reducible refine mask_ite_snd_eq ?_ ?_
    | (simp (disch := decide) only [State.raise_mask, ctrBump_raise_mask, mask_ite, mask_ite_snd, ite_self]; done)
    | dsimp only
    | (with_reducible refine mask_foldl _ (fun s x => ?_) _ _)
    | (with_reducible refine mask_foldl_snd _ (fun s x => ?_) _ _)
    | (with_reducible refine (mask_foldl _ (fun s x => ?_) _ _).trans ?_)
    | (split <;> try (rename_i e; have e2 := congrArg Prod.snd e; dsimp only at e2; subst e2))
    | (simp (disch := decide) only [State.raise_mask, ctrBump_raise_mask, mask_ite, mask_ite_snd, ite_self])

theorem State.orderFreeze_mask (s : State) {m0 : Nat} (hw : 1161084278931456 &&& m0 = 1161084278931456) :
    (State.orderFreeze s).mask m0 = s.mask m0 := by
  refine mask_mono hw ?_
  unfold State.orderFreeze
  repeat' first
    | with_reducible rfl
    | with_reducible refine mask_ite_eq ?_ ?_
    | with_reducible refine mask_ite_snd_eq ?_ ?_
    | (simp (disch := decide) only [setEv_mask, State.odSet_mask, mask_ite, mask_ite_snd, ite_self]; done)
    | dsimp only
    | (with_reducible refine mask_foldl _ (fun s x => ?_) _ _)
    | (with_reducible refine mask_foldl_snd _ (fun s x => ?_) _ _)
    | (with_reducible refine (mask_foldl _ (fun s x => ?_) _ _).trans ?_)
    | (split <;> try (rename_i e; have e2 := congrArg Prod.snd e; dsimp only at e2; subst e2))
    | (simp (disch := decide) only [setEv_mask, State.odSet_mask, mask_ite, mask_ite_snd, ite_self])

theorem State.freezeNow_mask (s : State) {m0 : Nat} (hw : 1165491052494850 &&& m0 = 1165491052494850) :
    (State.freezeNow s).mask m0 = s.mask m0 := by
  refine mask_mono hw ?_
  unfold State.freezeNow
  repeat' first
    | with_reducible rfl
    | with_reducible refine mask_ite_eq ?_ ?_
    | with_reducible refine mask_ite_snd_eq ?_ ?_
    | (simp (disch := decide) only [setEv_mask, State.odSet_mask, State.raiseEast_mask, mask_ite, mask_ite_snd, ite_self]; done)
    | dsimp only
    | (with_reducible refine mask_foldl _ (fun s x => ?_) _ _)
    | (with_reducible refine mask_foldl_snd _ (fun s x => ?_) _ _)
    | (with_reducible refine (mask_foldl _ (fun s x => ?_) _ _).trans ?_)
    | (split <;> try (rename_i e; have e2 := congrArg Prod.snd e; dsimp only at e2; subst e2))
    | (simp (disch := decide) only [setEv_mask, State.odSet_mask, State.raiseEast_mask, mask_ite, mask_ite_snd, ite_self])

theorem State.resumeCounters_mask (s : State) (sub : Nat) {m0 : Nat} (hw : 1161084278931456 &&& m0 = 1161084278931456) :
    (State.resumeCounters s sub).mask m0 = s.mask m0 := by
  refine mask_mono hw ?_
  unfold State.resumeCounters
  repeat' first
    | with_reducible rfl
    | with_reducible refine mask_ite_eq ?_ ?_
    | with_reducible refine mask_ite_snd_eq ?_ ?_
    | (simp (disch := decide) only [setEv_mask, State.odSet_mask, mask_ite, mask_ite_snd, ite_self]; done)
    | dsimp only
    | (with_reducible refine mask_foldl _ (fun s x => ?_) _ _)
    | (with_reducible refine mask_foldl_snd _ (fun s x => ?_) _ _)
    | (with_reducible refine (mask_foldl _ (fun s x => ?_) _ _).trans ?_)
    | (split <;> try (rename_i e; have e2 := congrArg Prod.snd e; dsimp only at e2; subst e2))
    | (simp (disch := decide) only [setEv_mask, State.odSet_mask, mask_ite, mask_ite_snd, ite_self])

theorem State.takeSnapshot_mask (s : State) {m0 : Nat} (hw : 1125899906842624 &&& m0 = 1125899906842624) :
    (State.takeSnapshot s).mask m0 = s.mask m0 := by
  refine mask_mono hw ?_
  unfold State.takeSnapshot
  repeat' first
    | with_reducible rfl
    | with_reducible refine mask_ite_eq ?_ ?_
    | with_reducible refine mask_ite_snd_eq ?_ ?_
    | (simp (disch := decide) only [State.odSet_mask, mask_ite, mask_ite_snd, ite_self]; done)
    | dsimp only
    | (with_reducible refine mask_foldl _ (fun s x => ?_) _ _)
    | (with_reducible refine mask_foldl_snd _ (fun s x => ?_) _ _)
    | (with_reducible refine (mask_foldl _ (fun s x => ?_) _ _).trans ?_)
    | (split <;> try (rename_i e; have e2 := congrArg Prod.snd e; dsimp only at e2; subst e2))
    | (simp (disch := decide) only [State.odSet_mask, mask_ite, mask_ite_snd, ite_self])

theorem State.snapshotResume_mask (s : State) {m0 : Nat} (hw : 1161084278931456 &&& m0 = 1161084278931456) :
    (State.snapshotResume s).mask m0 = s.mask m0 := by
  refine mask_mono hw ?_
  unfold State.snapshotResume
  repeat' first
    | with_reducible rfl
    | with_reducible refine mask_ite_eq ?_ ?_
    | with_reducible refine mask_ite_snd_eq ?_ ?_
    | (simp (disch := decide) only [State.odSet_mask, State.resumeCounters_mask, State.takeSnapshot_mask, mask_ite, mask_ite_snd, ite_self]; done)
    | dsimp only
    | (with_reducible refine mask_foldl _ (fun s x => ?_) _ _)
    | (with_reducible refine mask_foldl_snd _ (fun s x => ?_) _ _)
    | (with_reducible refine (mask_foldl _ (fun s x => ?_) _ _).trans ?_)
    | (split <;> try (rename_i e; have e2 := congrArg Prod.snd e; dsimp only at e2; subst e2))
    | (simp (disch := decide) only [State.odSet_mask, State.resumeCounters_mask, State.takeSnapshot_mask, mask_ite, mask_ite_snd, ite_self])

theorem State.injectSource_mask (s : State) {m0 : Nat} (hw : 1165491052494850 &&& m0 = 1165491052494850) :
    (State.injectSource s).mask m0 = s.mask m0 := by
  refine mask_mono hw ?_
  unfold State.injectSource
  repeat' first
    | with_reducible rfl
    | with_reducible refine mask_ite_eq ?_ ?_
    | with_reducible refine mask_ite_snd_eq ?_ ?_
    | (simp (disch := decide) only [State.odSet_mask, State.raise_mask, mask_ite, mask_ite_snd, ite_self]; done)
    | dsimp only
    | (with_reducible refine mask_foldl _ (fun s x => ?_) _ _)
    | (with_reducible refine mask_foldl_snd _ (fun s x => ?_) _ _)
    | (with_reducible refine (mask_foldl _ (fun s x => ?_) _ _).trans ?_)
    | (split <;> try (rename_i e; have e2 := congrArg Prod.snd e; dsimp only at e2; subst e2))
    | (simp (disch := decide) only [State.odSet_mask, State.raise_mask, mask_ite, mask_ite_snd, ite_self])

end Sys2Proof.Machine
end

