-- ==== Sys2Proof/Laws/Frame/Wear.lean ====
section
/-!
SUPPORT. Frames of Machine/Wear.lean: the fields that each function may change, as a mask.
-/
namespace Sys2Proof.Machine

open Sys2Proof

set_option linter.unusedSimpArgs false

theorem State.settlePage_mask (s : State) (e : Nat) {m0 : Nat} (hw : 8592818176 &&& m0 = 8592818176) :
    (State.settlePage s e).mask m0 = s.mask m0 := by
  refine mask_mono hw ?_
  unfold State.settlePage
  repeat' first
    | with_reducible rfl
    | with_reducible refine mask_ite_eq ?_ ?_
    | with_reducible refine mask_ite_snd_eq ?_ ?_
    | (simp (disch := decide) only [State.settleRange_mask, mask_ite, mask_ite_snd, ite_self]; done)
    | dsimp only
    | (with_reducible refine mask_foldl _ (fun s x => ?_) _ _)
    | (with_reducible refine mask_foldl_snd _ (fun s x => ?_) _ _)
    | (with_reducible refine (mask_foldl _ (fun s x => ?_) _ _).trans ?_)
    | (split <;> try (rename_i e; have e2 := congrArg Prod.snd e; dsimp only at e2; subst e2))
    | (simp (disch := decide) only [State.settleRange_mask, mask_ite, mask_ite_snd, ite_self])

theorem State.digestPage_mask (s : State) (p e : Nat) {m0 : Nat} (hw : 1165491052494850 &&& m0 = 1165491052494850) :
    (State.digestPage s p e).2.2.mask m0 = s.mask m0 := by
  refine mask_mono hw ?_
  unfold State.digestPage
  repeat' first
    | with_reducible rfl
    | with_reducible refine mask_ite_eq ?_ ?_
    | with_reducible refine mask_ite_snd_eq ?_ ?_
    | (simp (disch := decide) only [State.bumpDie_mask, State.drawNat_mask, State.settlePage_mask, mask_ite, mask_ite_snd, ite_self]; done)
    | dsimp only
    | (with_reducible refine mask_foldl _ (fun s x => ?_) _ _)
    | (with_reducible refine mask_foldl_snd _ (fun s x => ?_) _ _)
    | (with_reducible refine (mask_foldl _ (fun s x => ?_) _ _).trans ?_)
    | (split <;> try (rename_i e; have e2 := congrArg Prod.snd e; dsimp only at e2; subst e2))
    | (simp (disch := decide) only [State.bumpDie_mask, State.drawNat_mask, State.settlePage_mask, mask_ite, mask_ite_snd, ite_self])

theorem State.digestPages_mask (s : State) (p : Nat) (xs : List Nat) {m0 : Nat} (hw : 1165491052494850 &&& m0 = 1165491052494850) :
    (State.digestPages s p xs).2.mask m0 = s.mask m0 := by
  refine mask_mono hw ?_
  clear hw
  induction xs generalizing s with
  | nil =>
    unfold State.digestPages
    first | rfl | (split <;> rfl)
  | cons x xs ih =>
    unfold State.digestPages
    repeat' first
      | with_reducible rfl
      | with_reducible refine mask_ite_eq ?_ ?_
      | with_reducible refine mask_ite_snd_eq ?_ ?_
      | (simp (disch := decide) only [State.digestPage_mask, mask_ite, mask_ite_snd, ite_self, ih]; done)
      | dsimp only
      | (with_reducible refine mask_foldl _ (fun s x => ?_) _ _)
      | (with_reducible refine mask_foldl_snd _ (fun s x => ?_) _ _)
      | (with_reducible refine (mask_foldl _ (fun s x => ?_) _ _).trans ?_)
      | (split <;> try (rename_i e; have e2 := congrArg Prod.snd e; dsimp only at e2; subst e2))
      | (simp (disch := decide) only [State.digestPage_mask, mask_ite, mask_ite_snd, ite_self, ih])

theorem State.register_mask (s : State) (r : BundleReg) {m0 : Nat} (hw : 1798861407150082 &&& m0 = 1798861407150082) :
    (State.register s r).mask m0 = s.mask m0 := by
  refine mask_mono hw ?_
  unfold State.register
  repeat' first
    | with_reducible rfl
    | with_reducible refine mask_ite_eq ?_ ?_
    | with_reducible refine mask_ite_snd_eq ?_ ?_
    | (simp (disch := decide) only [State.account_mask, State.digestPages_mask, State.putBundle_mask, mask_ite, mask_ite_snd, ite_self]; done)
    | dsimp only
    | (with_reducible refine mask_foldl _ (fun s x => ?_) _ _)
    | (with_reducible refine mask_foldl_snd _ (fun s x => ?_) _ _)
    | (with_reducible refine (mask_foldl _ (fun s x => ?_) _ _).trans ?_)
    | (split <;> try (rename_i e; have e2 := congrArg Prod.snd e; dsimp only at e2; subst e2))
    | (simp (disch := decide) only [State.account_mask, State.digestPages_mask, State.putBundle_mask, mask_ite, mask_ite_snd, ite_self])

theorem State.deregister_mask (s : State) (b : Nat) {m0 : Nat} (hw : 70368744177664 &&& m0 = 70368744177664) :
    (State.deregister s b).mask m0 = s.mask m0 := by
  refine mask_mono hw ?_
  unfold State.deregister
  repeat' first
    | with_reducible rfl
    | with_reducible refine mask_ite_eq ?_ ?_
    | with_reducible refine mask_ite_snd_eq ?_ ?_
    | (simp (disch := decide) only [setRel_mask, mask_ite, mask_ite_snd, ite_self]; done)
    | dsimp only
    | (with_reducible refine mask_foldl _ (fun s x => ?_) _ _)
    | (with_reducible refine mask_foldl_snd _ (fun s x => ?_) _ _)
    | (with_reducible refine (mask_foldl _ (fun s x => ?_) _ _).trans ?_)
    | (split <;> try (rename_i e; have e2 := congrArg Prod.snd e; dsimp only at e2; subst e2))
    | (simp (disch := decide) only [setRel_mask, mask_ite, mask_ite_snd, ite_self])

theorem State.passStart_mask (s : State) (b : Nat) (ordered : Bool) {m0 : Nat} (hw : 1196268651020288 &&& m0 = 1196268651020288) :
    (State.passStart s b ordered).mask m0 = s.mask m0 := by
  refine mask_mono hw ?_
  unfold State.passStart
  repeat' first
    | with_reducible rfl
    | with_reducible refine mask_ite_eq ?_ ?_
    | with_reducible refine mask_ite_snd_eq ?_ ?_
    | (simp (disch := decide) only [State.odSet_mask, State.putBundle_mask, mask_ite, mask_ite_snd, ite_self]; done)
    | dsimp only
    | (with_reducible refine mask_foldl _ (fun s x => ?_) _ _)
    | (with_reducible refine mask_foldl_snd _ (fun s x => ?_) _ _)
    | (with_reducible refine (mask_foldl _ (fun s x => ?_) _ _).trans ?_)
    | (split <;> try (rename_i e; have e2 := congrArg Prod.snd e; dsimp only at e2; subst e2))
    | (simp (disch := decide) only [State.odSet_mask, State.putBundle_mask, mask_ite, mask_ite_snd, ite_self])

theorem State.poisonPage_mask (s : State) (e : Nat) {m0 : Nat} (hw : 8592818176 &&& m0 = 8592818176) :
    (State.poisonPage s e).mask m0 = s.mask m0 := by
  refine mask_mono hw ?_
  unfold State.poisonPage
  repeat' first
    | with_reducible rfl
    | with_reducible refine mask_ite_eq ?_ ?_
    | with_reducible refine mask_ite_snd_eq ?_ ?_
    | (simp (disch := decide) only [State.settleWrite_mask, State.updSub_mask, mask_ite, mask_ite_snd, ite_self]; done)
    | dsimp only
    | (with_reducible refine mask_foldl _ (fun s x => ?_) _ _)
    | (with_reducible refine mask_foldl_snd _ (fun s x => ?_) _ _)
    | (with_reducible refine (mask_foldl _ (fun s x => ?_) _ _).trans ?_)
    | (split <;> try (rename_i e; have e2 := congrArg Prod.snd e; dsimp only at e2; subst e2))
    | (simp (disch := decide) only [State.settleWrite_mask, State.updSub_mask, mask_ite, mask_ite_snd, ite_self])

theorem State.pageMismatch_mask (s : State) (b page e expected found : Nat) (x : Bundle) {m0 : Nat} (hw : 1798861407141890 &&& m0 = 1798861407141890) :
    (State.pageMismatch s b page e expected found x).mask m0 = s.mask m0 := by
  refine mask_mono hw ?_
  unfold State.pageMismatch
  repeat' first
    | with_reducible rfl
    | with_reducible refine mask_ite_eq ?_ ?_
    | with_reducible refine mask_ite_snd_eq ?_ ?_
    | (simp (disch := decide) only [State.charge_mask, State.failRecord_mask, State.poisonPage_mask, State.retireSub_mask, State.updSub_mask, mask_ite, mask_ite_snd, ite_self]; done)
    | dsimp only
    | (with_reducible refine mask_foldl _ (fun s x => ?_) _ _)
    | (with_reducible refine mask_foldl_snd _ (fun s x => ?_) _ _)
    | (with_reducible refine (mask_foldl _ (fun s x => ?_) _ _).trans ?_)
    | (split <;> try (rename_i e; have e2 := congrArg Prod.snd e; dsimp only at e2; subst e2))
    | (simp (disch := decide) only [State.charge_mask, State.failRecord_mask, State.poisonPage_mask, State.retireSub_mask, State.updSub_mask, mask_ite, mask_ite_snd, ite_self])

theorem State.passPage_mask (s : State) (b page expected : Nat) (x : Bundle) {m0 : Nat} (hw : 1798861407141890 &&& m0 = 1798861407141890) :
    (State.passPage s b page expected x).2.2.mask m0 = s.mask m0 := by
  refine mask_mono hw ?_
  unfold State.passPage
  repeat' first
    | with_reducible rfl
    | with_reducible refine mask_ite_eq ?_ ?_
    | with_reducible refine mask_ite_snd_eq ?_ ?_
    | (simp (disch := decide) only [State.digestPage_mask, State.drawNat_mask, State.pageMismatch_mask, mask_ite, mask_ite_snd, ite_self]; done)
    | dsimp only
    | (with_reducible refine mask_foldl _ (fun s x => ?_) _ _)
    | (with_reducible refine mask_foldl_snd _ (fun s x => ?_) _ _)
    | (with_reducible refine (mask_foldl _ (fun s x => ?_) _ _).trans ?_)
    | (split <;> try (rename_i e; have e2 := congrArg Prod.snd e; dsimp only at e2; subst e2))
    | (simp (disch := decide) only [State.digestPage_mask, State.drawNat_mask, State.pageMismatch_mask, mask_ite, mask_ite_snd, ite_self])

theorem State.passPages_mask (s : State) (b : Nat) (x : Bundle) (xs : List (Nat × Nat)) {m0 : Nat} (hw : 1798861407141890 &&& m0 = 1798861407141890) :
    (State.passPages s b x xs).2.2.mask m0 = s.mask m0 := by
  refine mask_mono hw ?_
  clear hw
  induction xs generalizing s with
  | nil =>
    unfold State.passPages
    first | rfl | (split <;> rfl)
  | cons x xs ih =>
    unfold State.passPages
    repeat' first
      | with_reducible rfl
      | with_reducible refine mask_ite_eq ?_ ?_
      | with_reducible refine mask_ite_snd_eq ?_ ?_
      | (simp (disch := decide) only [State.passPage_mask, mask_ite, mask_ite_snd, ite_self, ih]; done)
      | dsimp only
      | (with_reducible refine mask_foldl _ (fun s x => ?_) _ _)
      | (with_reducible refine mask_foldl_snd _ (fun s x => ?_) _ _)
      | (with_reducible refine (mask_foldl _ (fun s x => ?_) _ _).trans ?_)
      | (split <;> try (rename_i e; have e2 := congrArg Prod.snd e; dsimp only at e2; subst e2))
      | (simp (disch := decide) only [State.passPage_mask, mask_ite, mask_ite_snd, ite_self, ih])

theorem State.passEnd_mask (s : State) (b : Nat) {m0 : Nat} (hw : 1798861407150082 &&& m0 = 1798861407150082) :
    (State.passEnd s b).mask m0 = s.mask m0 := by
  refine mask_mono hw ?_
  unfold State.passEnd
  repeat' first
    | with_reducible rfl
    | with_reducible refine mask_ite_eq ?_ ?_
    | with_reducible refine mask_ite_snd_eq ?_ ?_
    | (simp (disch := decide) only [State.account_mask, State.odSet_mask, State.passPages_mask, State.putBundle_mask, mask_ite, mask_ite_snd, ite_self]; done)
    | dsimp only
    | (with_reducible refine mask_foldl _ (fun s x => ?_) _ _)
    | (with_reducible refine mask_foldl_snd _ (fun s x => ?_) _ _)
    | (with_reducible refine (mask_foldl _ (fun s x => ?_) _ _).trans ?_)
    | (split <;> try (rename_i e; have e2 := congrArg Prod.snd e; dsimp only at e2; subst e2))
    | (simp (disch := decide) only [State.account_mask, State.odSet_mask, State.passPages_mask, State.putBundle_mask, mask_ite, mask_ite_snd, ite_self])

theorem State.reportReplica_mask (s : State) (b v : Nat) {m0 : Nat} (hw : 1763659603509248 &&& m0 = 1763659603509248) :
    (State.reportReplica s b v).mask m0 = s.mask m0 := by
  refine mask_mono hw ?_
  unfold State.reportReplica
  repeat' first
    | with_reducible rfl
    | with_reducible refine mask_ite_eq ?_ ?_
    | with_reducible refine mask_ite_snd_eq ?_ ?_
    | (simp (disch := decide) only [State.failRecord_mask, State.odSet_mask, State.poisonPage_mask, State.putBundle_mask, mask_ite, mask_ite_snd, ite_self]; done)
    | dsimp only
    | (with_reducible refine mask_foldl _ (fun s x => ?_) _ _)
    | (with_reducible refine mask_foldl_snd _ (fun s x => ?_) _ _)
    | (with_reducible refine (mask_foldl _ (fun s x => ?_) _ _).trans ?_)
    | (split <;> try (rename_i e; have e2 := congrArg Prod.snd e; dsimp only at e2; subst e2))
    | (simp (disch := decide) only [State.failRecord_mask, State.odSet_mask, State.poisonPage_mask, State.putBundle_mask, mask_ite, mask_ite_snd, ite_self])

theorem State.setTxPower_mask (s : State) (xs : List (List Int)) {m0 : Nat} (hw : 17592186044416 &&& m0 = 17592186044416) :
    (State.setTxPower s xs).mask m0 = s.mask m0 := by
  refine mask_mono hw ?_
  unfold State.setTxPower
  repeat' first
    | with_reducible rfl
    | with_reducible refine mask_ite_eq ?_ ?_
    | with_reducible refine mask_ite_snd_eq ?_ ?_
    | (simp (disch := decide) only [State.putPort_mask, mask_ite, mask_ite_snd, ite_self]; done)
    | dsimp only
    | (with_reducible refine mask_foldl _ (fun s x => ?_) _ _)
    | (with_reducible refine mask_foldl_snd _ (fun s x => ?_) _ _)
    | (with_reducible refine (mask_foldl _ (fun s x => ?_) _ _).trans ?_)
    | (split <;> try (rename_i e; have e2 := congrArg Prod.snd e; dsimp only at e2; subst e2))
    | (simp (disch := decide) only [State.putPort_mask, mask_ite, mask_ite_snd, ite_self])

theorem State.sampleAll_mask (s : State) {m0 : Nat} (hw : 70368744177664 &&& m0 = 70368744177664) :
    (State.sampleAll s).mask m0 = s.mask m0 := by
  refine mask_mono hw ?_
  unfold State.sampleAll
  repeat' first
    | with_reducible rfl
    | with_reducible refine mask_ite_eq ?_ ?_
    | with_reducible refine mask_ite_snd_eq ?_ ?_
    | (simp (disch := decide) only [setRel_mask, State.measure_mask, mask_ite, mask_ite_snd, ite_self]; done)
    | dsimp only
    | (with_reducible refine mask_foldl _ (fun s x => ?_) _ _)
    | (with_reducible refine mask_foldl_snd _ (fun s x => ?_) _ _)
    | (with_reducible refine (mask_foldl _ (fun s x => ?_) _ _).trans ?_)
    | (split <;> try (rename_i e; have e2 := congrArg Prod.snd e; dsimp only at e2; subst e2))
    | (simp (disch := decide) only [setRel_mask, State.measure_mask, mask_ite, mask_ite_snd, ite_self])

theorem State.dailySample_mask (s : State) (m : WearSample) {m0 : Nat} (hw : 1781243196743680 &&& m0 = 1781243196743680) :
    (State.dailySample s m).mask m0 = s.mask m0 := by
  refine mask_mono hw ?_
  unfold State.dailySample
  repeat' first
    | with_reducible rfl
    | with_reducible refine mask_ite_eq ?_ ?_
    | with_reducible refine mask_ite_snd_eq ?_ ?_
    | (simp (disch := decide) only [setRel_mask, State.commit_mask, State.foretell_mask, State.sampleAll_mask, State.setAgeing_mask, State.setTxPower_mask, State.wearLimitCheck_mask, mask_ite, mask_ite_snd, ite_self]; done)
    | dsimp only
    | (with_reducible refine mask_foldl _ (fun s x => ?_) _ _)
    | (with_reducible refine mask_foldl_snd _ (fun s x => ?_) _ _)
    | (with_reducible refine (mask_foldl _ (fun s x => ?_) _ _).trans ?_)
    | (split <;> try (rename_i e; have e2 := congrArg Prod.snd e; dsimp only at e2; subst e2))
    | (simp (disch := decide) only [setRel_mask, State.commit_mask, State.foretell_mask, State.sampleAll_mask, State.setAgeing_mask, State.setTxPower_mask, State.wearLimitCheck_mask, mask_ite, mask_ite_snd, ite_self])

theorem State.thermalCycle_mask (s : State) (t : Int) {m0 : Nat} (hw : 1763651010691072 &&& m0 = 1763651010691072) :
    (State.thermalCycle s t).mask m0 = s.mask m0 := by
  refine mask_mono hw ?_
  unfold State.thermalCycle
  repeat' first
    | with_reducible rfl
    | with_reducible refine mask_ite_eq ?_ ?_
    | with_reducible refine mask_ite_snd_eq ?_ ?_
    | (simp (disch := decide) only [setRel_mask, State.wearLimitCheck_mask, mask_ite, mask_ite_snd, ite_self]; done)
    | dsimp only
    | (with_reducible refine mask_foldl _ (fun s x => ?_) _ _)
    | (with_reducible refine mask_foldl_snd _ (fun s x => ?_) _ _)
    | (with_reducible refine (mask_foldl _ (fun s x => ?_) _ _).trans ?_)
    | (split <;> try (rename_i e; have e2 := congrArg Prod.snd e; dsimp only at e2; subst e2))
    | (simp (disch := decide) only [setRel_mask, State.wearLimitCheck_mask, mask_ite, mask_ite_snd, ite_self])

end Sys2Proof.Machine
end

