-- ==== Sys2Proof/Laws/Frame/Live.lean ====
section
/-!
SUPPORT. Frames of Machine/Live.lean: the fields that each function may change, as a mask.
-/
namespace Sys2Proof.Machine

open Sys2Proof

set_option linter.unusedSimpArgs false

theorem State.padFree_mask (s : State) (n : Nat) (bs : List Byte) {m0 : Nat} (hw : 2 &&& m0 = 2) :
    (State.padFree s n bs).2.mask m0 = s.mask m0 := by
  refine mask_mono hw ?_
  unfold State.padFree
  repeat' first
    | with_reducible rfl
    | with_reducible refine mask_ite_eq ?_ ?_
    | with_reducible refine mask_ite_snd_eq ?_ ?_
    | (simp (disch := decide) only [State.drawNat_mask, mask_ite, mask_ite_snd, ite_self]; done)
    | dsimp only
    | (with_reducible refine mask_foldl _ (fun s x => ?_) _ _)
    | (with_reducible refine mask_foldl_snd _ (fun s x => ?_) _ _)
    | (with_reducible refine (mask_foldl _ (fun s x => ?_) _ _).trans ?_)
    | (split <;> try (rename_i e; have e2 := congrArg Prod.snd e; dsimp only at e2; subst e2))
    | (simp (disch := decide) only [State.drawNat_mask, mask_ite, mask_ite_snd, ite_self])

theorem State.freeUpTo_mask (s : State) (n : Nat) {m0 : Nat} (hw : 2 &&& m0 = 2) :
    (State.freeUpTo s n).2.mask m0 = s.mask m0 := by
  refine mask_mono hw ?_
  unfold State.freeUpTo
  repeat' first
    | with_reducible rfl
    | with_reducible refine mask_ite_eq ?_ ?_
    | with_reducible refine mask_ite_snd_eq ?_ ?_
    | (simp (disch := decide) only [State.drawNat_mask, mask_ite, mask_ite_snd, ite_self]; done)
    | dsimp only
    | (with_reducible refine mask_foldl _ (fun s x => ?_) _ _)
    | (with_reducible refine mask_foldl_snd _ (fun s x => ?_) _ _)
    | (with_reducible refine (mask_foldl _ (fun s x => ?_) _ _).trans ?_)
    | (split <;> try (rename_i e; have e2 := congrArg Prod.snd e; dsimp only at e2; subst e2))
    | (simp (disch := decide) only [State.drawNat_mask, mask_ite, mask_ite_snd, ite_self])

theorem State.orFree_mask (s : State) (n : Nat) (x : Option (List Byte)) {m0 : Nat} (hw : 2 &&& m0 = 2) :
    (State.orFree s n x).2.mask m0 = s.mask m0 := by
  refine mask_mono hw ?_
  unfold State.orFree
  repeat' first
    | with_reducible rfl
    | with_reducible refine mask_ite_eq ?_ ?_
    | with_reducible refine mask_ite_snd_eq ?_ ?_
    | (simp (disch := decide) only [State.freeUpTo_mask, mask_ite, mask_ite_snd, ite_self]; done)
    | dsimp only
    | (with_reducible refine mask_foldl _ (fun s x => ?_) _ _)
    | (with_reducible refine mask_foldl_snd _ (fun s x => ?_) _ _)
    | (with_reducible refine (mask_foldl _ (fun s x => ?_) _ _).trans ?_)
    | (split <;> try (rename_i e; have e2 := congrArg Prod.snd e; dsimp only at e2; subst e2))
    | (simp (disch := decide) only [State.freeUpTo_mask, mask_ite, mask_ite_snd, ite_self])

theorem State.debugBlock_mask (s : State) {m0 : Nat} (hw : 1939581598187522 &&& m0 = 1939581598187522) :
    (State.debugBlock s).2.mask m0 = s.mask m0 := by
  refine mask_mono hw ?_
  unfold State.debugBlock
  repeat' first
    | with_reducible rfl
    | with_reducible refine mask_ite_eq ?_ ?_
    | with_reducible refine mask_ite_snd_eq ?_ ?_
    | (simp (disch := decide) only [State.padFree_mask, State.readDebug_mask, mask_ite, mask_ite_snd, ite_self]; done)
    | dsimp only
    | (with_reducible refine mask_foldl _ (fun s x => ?_) _ _)
    | (with_reducible refine mask_foldl_snd _ (fun s x => ?_) _ _)
    | (with_reducible refine (mask_foldl _ (fun s x => ?_) _ _).trans ?_)
    | (split <;> try (rename_i e; have e2 := congrArg Prod.snd e; dsimp only at e2; subst e2))
    | (simp (disch := decide) only [State.padFree_mask, State.readDebug_mask, mask_ite, mask_ite_snd, ite_self])

theorem State.liveLong_mask (s : State) (index sub : Nat) (r : List Byte × State) (e : s.liveLong index sub = some r) :
    r.2.mask 1939581598187522 = s.mask 1939581598187522 := by
  unfold State.liveLong at e
  dsimp only at e
  repeat' first
    | (simp only [reduceCtorEq] at e; done)
    | (simp only [Option.some.injEq] at e
       subst e
       repeat' first
         | with_reducible rfl
         | (simp (disch := decide) only [State.debugBlock_mask, State.orFree_mask, State.padFree_mask]; done)
         | split)
    | split at e


theorem State.busyPct_mask (s : State) (e : Nat) {m0 : Nat} (hw : 2 &&& m0 = 2) :
    (State.busyPct s e).2.mask m0 = s.mask m0 := by
  refine mask_mono hw ?_
  unfold State.busyPct
  repeat' first
    | with_reducible rfl
    | with_reducible refine mask_ite_eq ?_ ?_
    | with_reducible refine mask_ite_snd_eq ?_ ?_
    | (simp (disch := decide) only [State.drawBool_mask, mask_ite, mask_ite_snd, ite_self]; done)
    | dsimp only
    | (with_reducible refine mask_foldl _ (fun s x => ?_) _ _)
    | (with_reducible refine mask_foldl_snd _ (fun s x => ?_) _ _)
    | (with_reducible refine (mask_foldl _ (fun s x => ?_) _ _).trans ?_)
    | (split <;> try (rename_i e; have e2 := congrArg Prod.snd e; dsimp only at e2; subst e2))
    | (simp (disch := decide) only [State.drawBool_mask, mask_ite, mask_ite_snd, ite_self])

theorem State.readEntry_mask (s : State) (index sub : Nat) {m0 : Nat} (hw : 1939581598187522 &&& m0 = 1939581598187522) :
    (State.readEntry s index sub).2.mask m0 = s.mask m0 := by
  refine mask_mono hw ?_
  unfold State.readEntry
  repeat' first
    | with_reducible rfl
    | with_reducible refine mask_ite_eq ?_ ?_
    | with_reducible refine mask_ite_snd_eq ?_ ?_
    | (simp (disch := decide) only [State.busyPct_mask, State.drawNat_mask, mask_ite, mask_ite_snd, ite_self]; done)
    | dsimp only
    | (with_reducible refine mask_foldl _ (fun s x => ?_) _ _)
    | (with_reducible refine mask_foldl_snd _ (fun s x => ?_) _ _)
    | (with_reducible refine (mask_foldl _ (fun s x => ?_) _ _).trans ?_)
    | (split <;> try (rename_i e; have e2 := congrArg Prod.snd e; dsimp only at e2; subst e2))
    | (simp (disch := decide) only [State.busyPct_mask, State.drawNat_mask, mask_ite, mask_ite_snd, ite_self])
    | exact mask_mono (by decide) (State.liveLong_mask _ _ _ _ (by assumption))

end Sys2Proof.Machine
end

