-- ==== Sys2Proof/Laws/Frame/Dictionary.lean ====
section
/-!
SUPPORT. Frames of Machine/Dictionary.lean: the fields that each function may change, as a mask.
-/
namespace Sys2Proof.Machine

open Sys2Proof

set_option linter.unusedSimpArgs false

theorem State.closeCredential_mask (s : State) (credential : Nat) {m0 : Nat} (hw : 8796093022212 &&& m0 = 8796093022212) :
    (State.closeCredential s credential).mask m0 = s.mask m0 := by
  refine mask_mono hw ?_
  unfold State.closeCredential
  repeat' first
    | with_reducible rfl
    | with_reducible refine mask_ite_eq ?_ ?_
    | with_reducible refine mask_ite_snd_eq ?_ ?_
    | (simp (disch := decide) only [State.closeSession_mask, mask_ite, mask_ite_snd, ite_self]; done)
    | dsimp only
    | (with_reducible refine mask_foldl _ (fun s x => ?_) _ _)
    | (with_reducible refine mask_foldl_snd _ (fun s x => ?_) _ _)
    | (with_reducible refine (mask_foldl _ (fun s x => ?_) _ _).trans ?_)
    | (split <;> try (rename_i e; have e2 := congrArg Prod.snd e; dsimp only at e2; subst e2))
    | (simp (disch := decide) only [State.closeSession_mask, mask_ite, mask_ite_snd, ite_self])

theorem State.commitEntry_mask (s : State) (index sub v : Nat) (ok : Bool) {m0 : Nat} (hw : 1768014697463812 &&& m0 = 1768014697463812) :
    (State.commitEntry s index sub v ok).2.mask m0 = s.mask m0 := by
  refine mask_mono hw ?_
  unfold State.commitEntry
  repeat' first
    | with_reducible rfl
    | with_reducible refine mask_ite_eq ?_ ?_
    | with_reducible refine mask_ite_snd_eq ?_ ?_
    | (simp (disch := decide) only [State.closeCredential_mask, State.odSet_mask, State.psCommit_mask, mask_ite, mask_ite_snd, ite_self]; done)
    | dsimp only
    | (with_reducible refine mask_foldl _ (fun s x => ?_) _ _)
    | (with_reducible refine mask_foldl_snd _ (fun s x => ?_) _ _)
    | (with_reducible refine (mask_foldl _ (fun s x => ?_) _ _).trans ?_)
    | (split <;> try (rename_i e; have e2 := congrArg Prod.snd e; dsimp only at e2; subst e2))
    | (simp (disch := decide) only [State.closeCredential_mask, State.odSet_mask, State.psCommit_mask, mask_ite, mask_ite_snd, ite_self])

theorem State.setEntryValue_mask (s : State) (index sub : Nat) (bs : List Byte) {m0 : Nat} (hw : 1161084278931456 &&& m0 = 1161084278931456) :
    (State.setEntryValue s index sub bs).mask m0 = s.mask m0 := by
  refine mask_mono hw ?_
  unfold State.setEntryValue
  repeat' first
    | with_reducible rfl
    | with_reducible refine mask_ite_eq ?_ ?_
    | with_reducible refine mask_ite_snd_eq ?_ ?_
    | (simp (disch := decide) only [State.odSet_mask, State.putCtr_mask, State.writeCounter_mask, mask_ite, mask_ite_snd, ite_self]; done)
    | dsimp only
    | (with_reducible refine mask_foldl _ (fun s x => ?_) _ _)
    | (with_reducible refine mask_foldl_snd _ (fun s x => ?_) _ _)
    | (with_reducible refine (mask_foldl _ (fun s x => ?_) _ _).trans ?_)
    | (split <;> try (rename_i e; have e2 := congrArg Prod.snd e; dsimp only at e2; subst e2))
    | (simp (disch := decide) only [State.odSet_mask, State.putCtr_mask, State.writeCounter_mask, mask_ite, mask_ite_snd, ite_self])

theorem State.closeByEntry_mask (s : State) (j : Nat) {m0 : Nat} (hw : 1134695999864836 &&& m0 = 1134695999864836) :
    (State.closeByEntry s j).mask m0 = s.mask m0 := by
  refine mask_mono hw ?_
  unfold State.closeByEntry
  repeat' first
    | with_reducible rfl
    | with_reducible refine mask_ite_eq ?_ ?_
    | with_reducible refine mask_ite_snd_eq ?_ ?_
    | (simp (disch := decide) only [State.closeSession_mask, State.odSet_mask, mask_ite, mask_ite_snd, ite_self]; done)
    | dsimp only
    | (with_reducible refine mask_foldl _ (fun s x => ?_) _ _)
    | (with_reducible refine mask_foldl_snd _ (fun s x => ?_) _ _)
    | (with_reducible refine (mask_foldl _ (fun s x => ?_) _ _).trans ?_)
    | (split <;> try (rename_i e; have e2 := congrArg Prod.snd e; dsimp only at e2; subst e2))
    | (simp (disch := decide) only [State.closeSession_mask, State.odSet_mask, mask_ite, mask_ite_snd, ite_self])

theorem State.controlCode_mask (s : State) (q v : Nat) {m0 : Nat} (hw : 2080319086739526 &&& m0 = 2080319086739526) :
    (State.controlCode s q v).2.mask m0 = s.mask m0 := by
  refine mask_mono hw ?_
  unfold State.controlCode
  repeat' first
    | with_reducible rfl
    | with_reducible refine mask_ite_eq ?_ ?_
    | with_reducible refine mask_ite_snd_eq ?_ ?_
    | (simp (disch := decide) only [State.disableQueue_mask, State.enableQueue_mask, State.flush_mask, State.pauseQueue_mask, State.restartQueue_mask, State.resumeQueue_mask, mask_ite, mask_ite_snd, ite_self]; done)
    | dsimp only
    | (with_reducible refine mask_foldl _ (fun s x => ?_) _ _)
    | (with_reducible refine mask_foldl_snd _ (fun s x => ?_) _ _)
    | (with_reducible refine (mask_foldl _ (fun s x => ?_) _ _).trans ?_)
    | (split <;> try (rename_i e; have e2 := congrArg Prod.snd e; dsimp only at e2; subst e2))
    | (simp (disch := decide) only [State.disableQueue_mask, State.enableQueue_mask, State.flush_mask, State.pauseQueue_mask, State.restartQueue_mask, State.resumeQueue_mask, mask_ite, mask_ite_snd, ite_self])

theorem State.queueControl_mask (s : State) (v : Nat) {m0 : Nat} (hw : 2080319086739526 &&& m0 = 2080319086739526) :
    (State.queueControl s v).mask m0 = s.mask m0 := by
  refine mask_mono hw ?_
  unfold State.queueControl
  repeat' first
    | with_reducible rfl
    | with_reducible refine mask_ite_eq ?_ ?_
    | with_reducible refine mask_ite_snd_eq ?_ ?_
    | (simp (disch := decide) only [State.controlCode_mask, State.odSet_mask, State.updQueue_mask, mask_ite, mask_ite_snd, ite_self]; done)
    | dsimp only
    | (with_reducible refine mask_foldl _ (fun s x => ?_) _ _)
    | (with_reducible refine mask_foldl_snd _ (fun s x => ?_) _ _)
    | (with_reducible refine (mask_foldl _ (fun s x => ?_) _ _).trans ?_)
    | (split <;> try (rename_i e; have e2 := congrArg Prod.snd e; dsimp only at e2; subst e2))
    | (simp (disch := decide) only [State.controlCode_mask, State.odSet_mask, State.updQueue_mask, mask_ite, mask_ite_snd, ite_self])

theorem State.selfTestByEntry_mask (s : State) (n : Nat) {m0 : Nat} (hw : 1125899906850816 &&& m0 = 1125899906850816) :
    (State.selfTestByEntry s n).mask m0 = s.mask m0 := by
  refine mask_mono hw ?_
  unfold State.selfTestByEntry
  repeat' first
    | with_reducible rfl
    | with_reducible refine mask_ite_eq ?_ ?_
    | with_reducible refine mask_ite_snd_eq ?_ ?_
    | (simp (disch := decide) only [State.odSet_mask, State.orderTest_mask, mask_ite, mask_ite_snd, ite_self]; done)
    | dsimp only
    | (with_reducible refine mask_foldl _ (fun s x => ?_) _ _)
    | (with_reducible refine mask_foldl_snd _ (fun s x => ?_) _ _)
    | (with_reducible refine (mask_foldl _ (fun s x => ?_) _ _).trans ?_)
    | (split <;> try (rename_i e; have e2 := congrArg Prod.snd e; dsimp only at e2; subst e2))
    | (simp (disch := decide) only [State.odSet_mask, State.orderTest_mask, mask_ite, mask_ite_snd, ite_self])

theorem State.coreAct_mask (s : State) (n sub v : Nat) {m0 : Nat} (hw : 1798844111085574 &&& m0 = 1798844111085574) :
    (State.coreAct s n sub v).mask m0 = s.mask m0 := by
  refine mask_mono hw ?_
  unfold State.coreAct
  repeat' first
    | with_reducible rfl
    | with_reducible refine mask_ite_eq ?_ ?_
    | with_reducible refine mask_ite_snd_eq ?_ ?_
    | (simp (disch := decide) only [State.injectResidue_mask, State.odSet_mask, State.selfTestByEntry_mask, State.startCoreReset_mask, mask_ite, mask_ite_snd, ite_self]; done)
    | dsimp only
    | (with_reducible refine mask_foldl _ (fun s x => ?_) _ _)
    | (with_reducible refine mask_foldl_snd _ (fun s x => ?_) _ _)
    | (with_reducible refine (mask_foldl _ (fun s x => ?_) _ _).trans ?_)
    | (split <;> try (rename_i e; have e2 := congrArg Prod.snd e; dsimp only at e2; subst e2))
    | (simp (disch := decide) only [State.injectResidue_mask, State.odSet_mask, State.selfTestByEntry_mask, State.startCoreReset_mask, mask_ite, mask_ite_snd, ite_self])

theorem State.actSingle_mask (s : State) (index sub v : Nat) (r : StartReport) {m0 : Nat} (hw : 4503595332403198 &&& m0 = 4503595332403198) :
    (State.actSingle s index sub v r).mask m0 = s.mask m0 := by
  refine mask_mono hw ?_
  unfold State.actSingle
  repeat' first
    | with_reducible rfl
    | with_reducible refine mask_ite_eq ?_ ?_
    | with_reducible refine mask_ite_snd_eq ?_ ?_
    | (simp (disch := decide) only [State.closeDebug_mask, State.eraseAll_mask, State.eraseObject_mask, State.injectSource_mask, State.modReset_mask, State.odSet_mask, State.openDebug_mask, State.orderFreeze_mask, State.queueControl_mask, State.reloadRuntime_mask, State.resumeCounters_mask, State.returnToService_mask, State.snapshotResume_mask, State.stageArm_mask, State.stageDiscard_mask, State.stageOpen_mask, State.stateCommand_mask, State.switchOver_mask, State.takeSnapshot_mask, State.usePrevious_mask, State.warmReset_mask, mask_ite, mask_ite_snd, ite_self]; done)
    | dsimp only
    | (with_reducible refine mask_foldl _ (fun s x => ?_) _ _)
    | (with_reducible refine mask_foldl_snd _ (fun s x => ?_) _ _)
    | (with_reducible refine (mask_foldl _ (fun s x => ?_) _ _).trans ?_)
    | (split <;> try (rename_i e; have e2 := congrArg Prod.snd e; dsimp only at e2; subst e2))
    | (simp (disch := decide) only [State.closeDebug_mask, State.eraseAll_mask, State.eraseObject_mask, State.injectSource_mask, State.modReset_mask, State.odSet_mask, State.openDebug_mask, State.orderFreeze_mask, State.queueControl_mask, State.reloadRuntime_mask, State.resumeCounters_mask, State.returnToService_mask, State.snapshotResume_mask, State.stageArm_mask, State.stageDiscard_mask, State.stageOpen_mask, State.stateCommand_mask, State.switchOver_mask, State.takeSnapshot_mask, State.usePrevious_mask, State.warmReset_mask, mask_ite, mask_ite_snd, ite_self])

theorem State.act_mask (s : State) (index sub v : Nat) (r : StartReport) {m0 : Nat} (hw : 4503595332403198 &&& m0 = 4503595332403198) :
    (State.act s index sub v r).mask m0 = s.mask m0 := by
  refine mask_mono hw ?_
  unfold State.act
  repeat' first
    | with_reducible rfl
    | with_reducible refine mask_ite_eq ?_ ?_
    | with_reducible refine mask_ite_snd_eq ?_ ?_
    | (simp (disch := decide) only [State.actSingle_mask, State.closeByEntry_mask, State.coreAct_mask, State.odSet_mask, State.orderRestart_mask, State.passStart_mask, State.portReturn_mask, State.reportReplica_mask, State.retireEntry_mask, State.startScrub_mask, mask_ite, mask_ite_snd, ite_self]; done)
    | dsimp only
    | (with_reducible refine mask_foldl _ (fun s x => ?_) _ _)
    | (with_reducible refine mask_foldl_snd _ (fun s x => ?_) _ _)
    | (with_reducible refine (mask_foldl _ (fun s x => ?_) _ _).trans ?_)
    | (split <;> try (rename_i e; have e2 := congrArg Prod.snd e; dsimp only at e2; subst e2))
    | (simp (disch := decide) only [State.actSingle_mask, State.closeByEntry_mask, State.coreAct_mask, State.odSet_mask, State.orderRestart_mask, State.passStart_mask, State.portReturn_mask, State.reportReplica_mask, State.retireEntry_mask, State.startScrub_mask, mask_ite, mask_ite_snd, ite_self])

theorem State.applyWrite_mask (s : State) (index sub : Nat) (bs : List Byte) (running ok : Bool) (r : StartReport) {m0 : Nat} (hw : 4503595332403198 &&& m0 = 4503595332403198) :
    (State.applyWrite s index sub bs running ok r).2.mask m0 = s.mask m0 := by
  refine mask_mono hw ?_
  unfold State.applyWrite
  repeat' first
    | with_reducible rfl
    | with_reducible refine mask_ite_eq ?_ ?_
    | with_reducible refine mask_ite_snd_eq ?_ ?_
    | (simp (disch := decide) only [setRyc_mask, State.act_mask, State.chunkWrite_mask, State.commitEntry_mask, State.setEntryValue_mask, State.writeDebug_mask, mask_ite, mask_ite_snd, ite_self]; done)
    | dsimp only
    | (with_reducible refine mask_foldl _ (fun s x => ?_) _ _)
    | (with_reducible refine mask_foldl_snd _ (fun s x => ?_) _ _)
    | (with_reducible refine (mask_foldl _ (fun s x => ?_) _ _).trans ?_)
    | (split <;> try (rename_i e; have e2 := congrArg Prod.snd e; dsimp only at e2; subst e2))
    | (simp (disch := decide) only [setRyc_mask, State.act_mask, State.chunkWrite_mask, State.commitEntry_mask, State.setEntryValue_mask, State.writeDebug_mask, mask_ite, mask_ite_snd, ite_self])

theorem State.writeNow_mask (s : State) (w : Who) (index sub : Nat) (bs : List Byte) (ok : Bool) {m0 : Nat} (hw : 4503595332403198 &&& m0 = 4503595332403198) :
    (State.writeNow s w index sub bs ok).mask m0 = s.mask m0 := by
  refine mask_mono hw ?_
  unfold State.writeNow
  repeat' first
    | with_reducible rfl
    | with_reducible refine mask_ite_eq ?_ ?_
    | with_reducible refine mask_ite_snd_eq ?_ ?_
    | (simp (disch := decide) only [State.applyWrite_mask, mask_ite, mask_ite_snd, ite_self]; done)
    | dsimp only
    | (with_reducible refine mask_foldl _ (fun s x => ?_) _ _)
    | (with_reducible refine mask_foldl_snd _ (fun s x => ?_) _ _)
    | (with_reducible refine (mask_foldl _ (fun s x => ?_) _ _).trans ?_)
    | (split <;> try (rename_i e; have e2 := congrArg Prod.snd e; dsimp only at e2; subst e2))
    | (simp (disch := decide) only [State.applyWrite_mask, mask_ite, mask_ite_snd, ite_self])

end Sys2Proof.Machine
end

