-- ==== Sys2Proof/Laws/Frame/Rycia.lean ====
section
/-!
SUPPORT. Frames of Machine/Rycia.lean: the fields that each function may change, as a mask.
-/
namespace Sys2Proof.Machine

open Sys2Proof

set_option linter.unusedSimpArgs false

theorem State.busy_mask (s : State) (port : BitVec 1) (nonce : List Byte) (reason : Nat) {m0 : Nat} (hw : 4 &&& m0 = 4) :
    (State.busy s port nonce reason).mask m0 = s.mask m0 := by
  refine mask_mono hw ?_
  unfold State.busy
  repeat' first
    | with_reducible rfl
    | with_reducible refine mask_ite_eq ?_ ?_
    | with_reducible refine mask_ite_snd_eq ?_ ?_
    | (simp (disch := decide) only [State.emit_mask, mask_ite, mask_ite_snd, ite_self]; done)
    | dsimp only
    | (with_reducible refine mask_foldl _ (fun s x => ?_) _ _)
    | (with_reducible refine mask_foldl_snd _ (fun s x => ?_) _ _)
    | (with_reducible refine (mask_foldl _ (fun s x => ?_) _ _).trans ?_)
    | (split <;> try (rename_i e; have e2 := congrArg Prod.snd e; dsimp only at e2; subst e2))
    | (simp (disch := decide) only [State.emit_mask, mask_ite, mask_ite_snd, ite_self])

theorem State.newId_mask (s : State) {m0 : Nat} (hw : 2 &&& m0 = 2) :
    (State.newId s).2.mask m0 = s.mask m0 := by
  refine mask_mono hw ?_
  unfold State.newId
  repeat' first
    | with_reducible rfl
    | with_reducible refine mask_ite_eq ?_ ?_
    | with_reducible refine mask_ite_snd_eq ?_ ?_
    | (simp (disch := decide) only [State.drawNat_mask, mask_ite, mask_ite_snd, ite_self]; done)
    | dsimp only
    | (with_reducible refine mask_foldl _ (fun s x => ?_) _ _)
    | (with_reducible refine mask_foldl_snd _ (fun s x => ?_) _ _)
    | (with_reducible refine (mask_foldl _ (fun s x => ?_) _ _).trans ?_)
    | (split <;> try (rename_i e; have e2 := congrArg Prod.snd e; dsimp only at e2; subst e2))
    | (simp (disch := decide) only [State.drawNat_mask, mask_ite, mask_ite_snd, ite_self])

theorem State.ryciaHello_mask (s : State) (f : RFrame) (storeOk : Bool) {m0 : Nat} (hw : 1908752185819142 &&& m0 = 1908752185819142) :
    (State.ryciaHello s f storeOk).mask m0 = s.mask m0 := by
  refine mask_mono hw ?_
  unfold State.ryciaHello
  repeat' first
    | with_reducible rfl
    | with_reducible refine mask_ite_eq ?_ ?_
    | with_reducible refine mask_ite_snd_eq ?_ ?_
    | (simp (disch := decide) only [State.busy_mask, State.drawKey_mask, State.drawNat_mask, State.emit_mask, State.newId_mask, State.putRsess_mask, State.ryciaDrop_mask, State.takeClear_mask, State.takeLeaf_mask, mask_ite, mask_ite_snd, ite_self]; done)
    | dsimp only
    | (with_reducible refine mask_foldl _ (fun s x => ?_) _ _)
    | (with_reducible refine mask_foldl_snd _ (fun s x => ?_) _ _)
    | (with_reducible refine (mask_foldl _ (fun s x => ?_) _ _).trans ?_)
    | (split <;> try (rename_i e; have e2 := congrArg Prod.snd e; dsimp only at e2; subst e2))
    | (simp (disch := decide) only [State.busy_mask, State.drawKey_mask, State.drawNat_mask, State.emit_mask, State.newId_mask, State.putRsess_mask, State.ryciaDrop_mask, State.takeClear_mask, State.takeLeaf_mask, mask_ite, mask_ite_snd, ite_self])

theorem State.finishSession_mask (s : State) (f : RFrame) {m0 : Nat} (hw : 1455762122227942 &&& m0 = 1455762122227942) :
    (State.finishSession s f).mask m0 = s.mask m0 := by
  refine mask_mono hw ?_
  unfold State.finishSession
  repeat' first
    | with_reducible rfl
    | with_reducible refine mask_ite_eq ?_ ?_
    | with_reducible refine mask_ite_snd_eq ?_ ?_
    | (simp (disch := decide) only [State.emit_mask, State.freeSession_mask, State.noteValid_mask, State.putRsess_mask, State.ryciaDrop_mask, mask_ite, mask_ite_snd, ite_self]; done)
    | dsimp only
    | (with_reducible refine mask_foldl _ (fun s x => ?_) _ _)
    | (with_reducible refine mask_foldl_snd _ (fun s x => ?_) _ _)
    | (with_reducible refine (mask_foldl _ (fun s x => ?_) _ _).trans ?_)
    | (split <;> try (rename_i e; have e2 := congrArg Prod.snd e; dsimp only at e2; subst e2))
    | (simp (disch := decide) only [State.emit_mask, State.freeSession_mask, State.noteValid_mask, State.putRsess_mask, State.ryciaDrop_mask, mask_ite, mask_ite_snd, ite_self])

theorem State.handshakeExpiry_mask (s : State) (j : Nat) {m0 : Nat} (hw : 8796093022208 &&& m0 = 8796093022208) :
    (State.handshakeExpiry s j).mask m0 = s.mask m0 := by
  refine mask_mono hw ?_
  unfold State.handshakeExpiry
  repeat' first
    | with_reducible rfl
    | with_reducible refine mask_ite_eq ?_ ?_
    | with_reducible refine mask_ite_snd_eq ?_ ?_
    | (simp (disch := decide) only [State.freeSession_mask, mask_ite, mask_ite_snd, ite_self]; done)
    | dsimp only
    | (with_reducible refine mask_foldl _ (fun s x => ?_) _ _)
    | (with_reducible refine mask_foldl_snd _ (fun s x => ?_) _ _)
    | (with_reducible refine (mask_foldl _ (fun s x => ?_) _ _).trans ?_)
    | (split <;> try (rename_i e; have e2 := congrArg Prod.snd e; dsimp only at e2; subst e2))
    | (simp (disch := decide) only [State.freeSession_mask, mask_ite, mask_ite_snd, ite_self])

theorem State.idleExpiry_mask (s : State) (j : Nat) {m0 : Nat} (hw : 8796093022212 &&& m0 = 8796093022212) :
    (State.idleExpiry s j).mask m0 = s.mask m0 := by
  refine mask_mono hw ?_
  unfold State.idleExpiry
  repeat' first
    | with_reducible rfl
    | with_reducible refine mask_ite_eq ?_ ?_
    | with_reducible refine mask_ite_snd_eq ?_ ?_
    | (simp (disch := decide) only [State.closeSession_mask, mask_ite, mask_ite_snd, ite_self]; done)
    | dsimp only
    | (with_reducible refine mask_foldl _ (fun s x => ?_) _ _)
    | (with_reducible refine mask_foldl_snd _ (fun s x => ?_) _ _)
    | (with_reducible refine (mask_foldl _ (fun s x => ?_) _ _).trans ?_)
    | (split <;> try (rename_i e; have e2 := congrArg Prod.snd e; dsimp only at e2; subst e2))
    | (simp (disch := decide) only [State.closeSession_mask, mask_ite, mask_ite_snd, ite_self])

theorem State.answerCodeTo_mask (s : State) (f : RFrame) (j : Nat) (abort : Nat) {m0 : Nat} (hw : 8796093022212 &&& m0 = 8796093022212) :
    (State.answerCodeTo s f j abort).mask m0 = s.mask m0 := by
  refine mask_mono hw ?_
  unfold State.answerCodeTo
  repeat' first
    | with_reducible rfl
    | with_reducible refine mask_ite_eq ?_ ?_
    | with_reducible refine mask_ite_snd_eq ?_ ?_
    | (simp (disch := decide) only [State.respond_mask, mask_ite, mask_ite_snd, ite_self]; done)
    | dsimp only
    | (with_reducible refine mask_foldl _ (fun s x => ?_) _ _)
    | (with_reducible refine mask_foldl_snd _ (fun s x => ?_) _ _)
    | (with_reducible refine (mask_foldl _ (fun s x => ?_) _ _).trans ?_)
    | (split <;> try (rename_i e; have e2 := congrArg Prod.snd e; dsimp only at e2; subst e2))
    | (simp (disch := decide) only [State.respond_mask, mask_ite, mask_ite_snd, ite_self])

theorem State.refuseWrite_mask (s : State) (f : RFrame) (j : Nat) (value : List Byte) (abort : Nat) {m0 : Nat} (hw : 8796093022212 &&& m0 = 8796093022212) :
    (State.refuseWrite s f j value abort).mask m0 = s.mask m0 := by
  refine mask_mono hw ?_
  unfold State.refuseWrite
  repeat' first
    | with_reducible rfl
    | with_reducible refine mask_ite_eq ?_ ?_
    | with_reducible refine mask_ite_snd_eq ?_ ?_
    | (simp (disch := decide) only [State.answerCodeTo_mask, State.logWrite_mask, mask_ite, mask_ite_snd, ite_self]; done)
    | dsimp only
    | (with_reducible refine mask_foldl _ (fun s x => ?_) _ _)
    | (with_reducible refine mask_foldl_snd _ (fun s x => ?_) _ _)
    | (with_reducible refine (mask_foldl _ (fun s x => ?_) _ _).trans ?_)
    | (split <;> try (rename_i e; have e2 := congrArg Prod.snd e; dsimp only at e2; subst e2))
    | (simp (disch := decide) only [State.answerCodeTo_mask, State.logWrite_mask, mask_ite, mask_ite_snd, ite_self])

theorem State.takeRequest_mask (s : State) (f : RFrame) (op : Nat) {m0 : Nat} (hw : 1455762122227942 &&& m0 = 1455762122227942) :
    (State.takeRequest s f op).2.mask m0 = s.mask m0 := by
  refine mask_mono hw ?_
  unfold State.takeRequest
  repeat' first
    | with_reducible rfl
    | with_reducible refine mask_ite_eq ?_ ?_
    | with_reducible refine mask_ite_snd_eq ?_ ?_
    | (simp (disch := decide) only [State.active_mask, State.answerCodeTo_mask, State.refuseWrite_mask, State.ryciaDrop_mask, State.takeFrame_mask, mask_ite, mask_ite_snd, ite_self]; done)
    | dsimp only
    | (with_reducible refine mask_foldl _ (fun s x => ?_) _ _)
    | (with_reducible refine mask_foldl_snd _ (fun s x => ?_) _ _)
    | (with_reducible refine (mask_foldl _ (fun s x => ?_) _ _).trans ?_)
    | (split <;> try (rename_i e; have e2 := congrArg Prod.snd e; dsimp only at e2; subst e2))
    | (simp (disch := decide) only [State.active_mask, State.answerCodeTo_mask, State.refuseWrite_mask, State.ryciaDrop_mask, State.takeFrame_mask, mask_ite, mask_ite_snd, ite_self])

theorem State.answerRead_mask (s : State) (r : HeldRead) {m0 : Nat} (hw : 1948377691209734 &&& m0 = 1948377691209734) :
    (State.answerRead s r).mask m0 = s.mask m0 := by
  refine mask_mono hw ?_
  unfold State.answerRead
  repeat' first
    | with_reducible rfl
    | with_reducible refine mask_ite_eq ?_ ?_
    | with_reducible refine mask_ite_snd_eq ?_ ?_
    | (simp (disch := decide) only [State.putRsess_mask, State.readEntry_mask, State.respond_mask, mask_ite, mask_ite_snd, ite_self]; done)
    | dsimp only
    | (with_reducible refine mask_foldl _ (fun s x => ?_) _ _)
    | (with_reducible refine mask_foldl_snd _ (fun s x => ?_) _ _)
    | (with_reducible refine (mask_foldl _ (fun s x => ?_) _ _).trans ?_)
    | (split <;> try (rename_i e; have e2 := congrArg Prod.snd e; dsimp only at e2; subst e2))
    | (simp (disch := decide) only [State.putRsess_mask, State.readEntry_mask, State.respond_mask, mask_ite, mask_ite_snd, ite_self])

theorem State.readRequest_mask (s : State) (f : RFrame) {m0 : Nat} (hw : 2229852667920614 &&& m0 = 2229852667920614) :
    (State.readRequest s f).mask m0 = s.mask m0 := by
  refine mask_mono hw ?_
  unfold State.readRequest
  repeat' first
    | with_reducible rfl
    | with_reducible refine mask_ite_eq ?_ ?_
    | with_reducible refine mask_ite_snd_eq ?_ ?_
    | (simp (disch := decide) only [setRyc_mask, State.answerCodeTo_mask, State.answerRead_mask, State.takeRequest_mask, mask_ite, mask_ite_snd, ite_self]; done)
    | dsimp only
    | (with_reducible refine mask_foldl _ (fun s x => ?_) _ _)
    | (with_reducible refine mask_foldl_snd _ (fun s x => ?_) _ _)
    | (with_reducible refine (mask_foldl _ (fun s x => ?_) _ _).trans ?_)
    | (split <;> try (rename_i e; have e2 := congrArg Prod.snd e; dsimp only at e2; subst e2))
    | (simp (disch := decide) only [setRyc_mask, State.answerCodeTo_mask, State.answerRead_mask, State.takeRequest_mask, mask_ite, mask_ite_snd, ite_self])

theorem State.holdWrite_mask (s : State) (f : RFrame) (j : Nat) (value : List Byte) {m0 : Nat} (hw : 8796093022212 &&& m0 = 8796093022212) :
    (State.holdWrite s f j value).mask m0 = s.mask m0 := by
  refine mask_mono hw ?_
  unfold State.holdWrite
  repeat' first
    | with_reducible rfl
    | with_reducible refine mask_ite_eq ?_ ?_
    | with_reducible refine mask_ite_snd_eq ?_ ?_
    | (simp (disch := decide) only [setRyc_mask, State.refuseWrite_mask, mask_ite, mask_ite_snd, ite_self]; done)
    | dsimp only
    | (with_reducible refine mask_foldl _ (fun s x => ?_) _ _)
    | (with_reducible refine mask_foldl_snd _ (fun s x => ?_) _ _)
    | (with_reducible refine (mask_foldl _ (fun s x => ?_) _ _).trans ?_)
    | (split <;> try (rename_i e; have e2 := congrArg Prod.snd e; dsimp only at e2; subst e2))
    | (simp (disch := decide) only [setRyc_mask, State.refuseWrite_mask, mask_ite, mask_ite_snd, ite_self])

theorem State.writeRequest_mask (s : State) (f : RFrame) {m0 : Nat} (hw : 1455762122227942 &&& m0 = 1455762122227942) :
    (State.writeRequest s f).mask m0 = s.mask m0 := by
  refine mask_mono hw ?_
  unfold State.writeRequest
  repeat' first
    | with_reducible rfl
    | with_reducible refine mask_ite_eq ?_ ?_
    | with_reducible refine mask_ite_snd_eq ?_ ?_
    | (simp (disch := decide) only [State.holdWrite_mask, State.takeRequest_mask, mask_ite, mask_ite_snd, ite_self]; done)
    | dsimp only
    | (with_reducible refine mask_foldl _ (fun s x => ?_) _ _)
    | (with_reducible refine mask_foldl_snd _ (fun s x => ?_) _ _)
    | (with_reducible refine (mask_foldl _ (fun s x => ?_) _ _).trans ?_)
    | (split <;> try (rename_i e; have e2 := congrArg Prod.snd e; dsimp only at e2; subst e2))
    | (simp (disch := decide) only [State.holdWrite_mask, State.takeRequest_mask, mask_ite, mask_ite_snd, ite_self])

theorem State.putBlocks_mask (s : State) (j : Nat) (bs : List BlockWrite) {m0 : Nat} (hw : 8796093022208 &&& m0 = 8796093022208) :
    (State.putBlocks s j bs).mask m0 = s.mask m0 := by
  refine mask_mono hw ?_
  unfold State.putBlocks
  repeat' first
    | with_reducible rfl
    | with_reducible refine mask_ite_eq ?_ ?_
    | with_reducible refine mask_ite_snd_eq ?_ ?_
    | (simp (disch := decide) only [State.putRsess_mask, mask_ite, mask_ite_snd, ite_self]; done)
    | dsimp only
    | (with_reducible refine mask_foldl _ (fun s x => ?_) _ _)
    | (with_reducible refine mask_foldl_snd _ (fun s x => ?_) _ _)
    | (with_reducible refine (mask_foldl _ (fun s x => ?_) _ _).trans ?_)
    | (split <;> try (rename_i e; have e2 := congrArg Prod.snd e; dsimp only at e2; subst e2))
    | (simp (disch := decide) only [State.putRsess_mask, mask_ite, mask_ite_snd, ite_self])

theorem State.blockBegin_mask (s : State) (f : RFrame) {m0 : Nat} (hw : 1455762122227942 &&& m0 = 1455762122227942) :
    (State.blockBegin s f).mask m0 = s.mask m0 := by
  refine mask_mono hw ?_
  unfold State.blockBegin
  repeat' first
    | with_reducible rfl
    | with_reducible refine mask_ite_eq ?_ ?_
    | with_reducible refine mask_ite_snd_eq ?_ ?_
    | (simp (disch := decide) only [State.answerCodeTo_mask, State.putBlocks_mask, State.takeRequest_mask, mask_ite, mask_ite_snd, ite_self]; done)
    | dsimp only
    | (with_reducible refine mask_foldl _ (fun s x => ?_) _ _)
    | (with_reducible refine mask_foldl_snd _ (fun s x => ?_) _ _)
    | (with_reducible refine (mask_foldl _ (fun s x => ?_) _ _).trans ?_)
    | (split <;> try (rename_i e; have e2 := congrArg Prod.snd e; dsimp only at e2; subst e2))
    | (simp (disch := decide) only [State.answerCodeTo_mask, State.putBlocks_mask, State.takeRequest_mask, mask_ite, mask_ite_snd, ite_self])

theorem State.blockSegment_mask (s : State) (f : RFrame) {m0 : Nat} (hw : 1455762122227942 &&& m0 = 1455762122227942) :
    (State.blockSegment s f).mask m0 = s.mask m0 := by
  refine mask_mono hw ?_
  unfold State.blockSegment
  repeat' first
    | with_reducible rfl
    | with_reducible refine mask_ite_eq ?_ ?_
    | with_reducible refine mask_ite_snd_eq ?_ ?_
    | (simp (disch := decide) only [State.answerCodeTo_mask, State.putBlocks_mask, State.takeRequest_mask, mask_ite, mask_ite_snd, ite_self]; done)
    | dsimp only
    | (with_reducible refine mask_foldl _ (fun s x => ?_) _ _)
    | (with_reducible refine mask_foldl_snd _ (fun s x => ?_) _ _)
    | (with_reducible refine (mask_foldl _ (fun s x => ?_) _ _).trans ?_)
    | (split <;> try (rename_i e; have e2 := congrArg Prod.snd e; dsimp only at e2; subst e2))
    | (simp (disch := decide) only [State.answerCodeTo_mask, State.putBlocks_mask, State.takeRequest_mask, mask_ite, mask_ite_snd, ite_self])

theorem State.blockCommit_mask (s : State) (f : RFrame) {m0 : Nat} (hw : 1455762122227942 &&& m0 = 1455762122227942) :
    (State.blockCommit s f).mask m0 = s.mask m0 := by
  refine mask_mono hw ?_
  unfold State.blockCommit
  repeat' first
    | with_reducible rfl
    | with_reducible refine mask_ite_eq ?_ ?_
    | with_reducible refine mask_ite_snd_eq ?_ ?_
    | (simp (disch := decide) only [State.holdWrite_mask, State.putBlocks_mask, State.refuseWrite_mask, State.takeRequest_mask, mask_ite, mask_ite_snd, ite_self]; done)
    | dsimp only
    | (with_reducible refine mask_foldl _ (fun s x => ?_) _ _)
    | (with_reducible refine mask_foldl_snd _ (fun s x => ?_) _ _)
    | (with_reducible refine (mask_foldl _ (fun s x => ?_) _ _).trans ?_)
    | (split <;> try (rename_i e; have e2 := congrArg Prod.snd e; dsimp only at e2; subst e2))
    | (simp (disch := decide) only [State.holdWrite_mask, State.putBlocks_mask, State.refuseWrite_mask, State.takeRequest_mask, mask_ite, mask_ite_snd, ite_self])

theorem State.blockCancel_mask (s : State) (f : RFrame) {m0 : Nat} (hw : 1455762122227942 &&& m0 = 1455762122227942) :
    (State.blockCancel s f).mask m0 = s.mask m0 := by
  refine mask_mono hw ?_
  unfold State.blockCancel
  repeat' first
    | with_reducible rfl
    | with_reducible refine mask_ite_eq ?_ ?_
    | with_reducible refine mask_ite_snd_eq ?_ ?_
    | (simp (disch := decide) only [State.answerCodeTo_mask, State.putBlocks_mask, State.takeRequest_mask, mask_ite, mask_ite_snd, ite_self]; done)
    | dsimp only
    | (with_reducible refine mask_foldl _ (fun s x => ?_) _ _)
    | (with_reducible refine mask_foldl_snd _ (fun s x => ?_) _ _)
    | (with_reducible refine (mask_foldl _ (fun s x => ?_) _ _).trans ?_)
    | (split <;> try (rename_i e; have e2 := congrArg Prod.snd e; dsimp only at e2; subst e2))
    | (simp (disch := decide) only [State.answerCodeTo_mask, State.putBlocks_mask, State.takeRequest_mask, mask_ite, mask_ite_snd, ite_self])

theorem State.blockExpiry_mask (s : State) (j index sub : Nat) {m0 : Nat} (hw : 8796093022208 &&& m0 = 8796093022208) :
    (State.blockExpiry s j index sub).mask m0 = s.mask m0 := by
  refine mask_mono hw ?_
  unfold State.blockExpiry
  repeat' first
    | with_reducible rfl
    | with_reducible refine mask_ite_eq ?_ ?_
    | with_reducible refine mask_ite_snd_eq ?_ ?_
    | (simp (disch := decide) only [State.putBlocks_mask, mask_ite, mask_ite_snd, ite_self]; done)
    | dsimp only
    | (with_reducible refine mask_foldl _ (fun s x => ?_) _ _)
    | (with_reducible refine mask_foldl_snd _ (fun s x => ?_) _ _)
    | (with_reducible refine (mask_foldl _ (fun s x => ?_) _ _).trans ?_)
    | (split <;> try (rename_i e; have e2 := congrArg Prod.snd e; dsimp only at e2; subst e2))
    | (simp (disch := decide) only [State.putBlocks_mask, mask_ite, mask_ite_snd, ite_self])

theorem State.settle_mask (s : State) (prims started : List HeldWrite) (w : HeldWrite) (ok : Bool) (r : StartReport) {m0 : Nat} (hw : 4503595332403198 &&& m0 = 4503595332403198) :
    (State.settle s prims started w ok r).2.mask m0 = s.mask m0 := by
  refine mask_mono hw ?_
  unfold State.settle
  repeat' first
    | with_reducible rfl
    | with_reducible refine mask_ite_eq ?_ ?_
    | with_reducible refine mask_ite_snd_eq ?_ ?_
    | (simp (disch := decide) only [State.applyWrite_mask, State.odInc_mask, mask_ite, mask_ite_snd, ite_self]; done)
    | dsimp only
    | (with_reducible refine mask_foldl _ (fun s x => ?_) _ _)
    | (with_reducible refine mask_foldl_snd _ (fun s x => ?_) _ _)
    | (with_reducible refine (mask_foldl _ (fun s x => ?_) _ _).trans ?_)
    | (split <;> try (rename_i e; have e2 := congrArg Prod.snd e; dsimp only at e2; subst e2))
    | (simp (disch := decide) only [State.applyWrite_mask, State.odInc_mask, mask_ite, mask_ite_snd, ite_self])

theorem State.settleAll_mask (ok : Bool) (r : StartReport) (prims : List HeldWrite) (due : HeldWrite → Bool) (k : Nat) (started : List HeldWrite) (s : State) {m0 : Nat} (hw : 4503595332403198 &&& m0 = 4503595332403198) :
    (State.settleAll ok r prims due k started s).mask m0 = s.mask m0 := by
  refine mask_mono hw ?_
  clear hw
  induction k generalizing s started with
  | zero =>
    unfold State.settleAll
    rfl
  | succ m ih =>
    unfold State.settleAll
    repeat' first
      | with_reducible rfl
      | with_reducible refine mask_ite_eq ?_ ?_
      | with_reducible refine mask_ite_snd_eq ?_ ?_
      | (simp (disch := decide) only [setRyc_mask, State.answerWrite_mask, State.logCode_mask, State.logWrite_mask, State.settle_mask, mask_ite, mask_ite_snd, ite_self, ih]; done)
      | dsimp only
      | (with_reducible refine mask_foldl _ (fun s x => ?_) _ _)
      | (with_reducible refine mask_foldl_snd _ (fun s x => ?_) _ _)
      | (with_reducible refine (mask_foldl _ (fun s x => ?_) _ _).trans ?_)
      | (split <;> try (rename_i e; have e2 := congrArg Prod.snd e; dsimp only at e2; subst e2))
      | (simp (disch := decide) only [setRyc_mask, State.answerWrite_mask, State.logCode_mask, State.logWrite_mask, State.settle_mask, mask_ite, mask_ite_snd, ite_self, ih])

theorem State.closeWindows_mask (s : State) (due : HeldWrite → Bool) (ok : Bool) (r : StartReport) {m0 : Nat} (hw : 4503595332403198 &&& m0 = 4503595332403198) :
    (State.closeWindows s due ok r).mask m0 = s.mask m0 := by
  refine mask_mono hw ?_
  unfold State.closeWindows
  repeat' first
    | with_reducible rfl
    | with_reducible refine mask_ite_eq ?_ ?_
    | with_reducible refine mask_ite_snd_eq ?_ ?_
    | (simp (disch := decide) only [setRyc_mask, State.answerRead_mask, State.settleAll_mask, mask_ite, mask_ite_snd, ite_self]; done)
    | dsimp only
    | (with_reducible refine mask_foldl _ (fun s x => ?_) _ _)
    | (with_reducible refine mask_foldl_snd _ (fun s x => ?_) _ _)
    | (with_reducible refine (mask_foldl _ (fun s x => ?_) _ _).trans ?_)
    | (split <;> try (rename_i e; have e2 := congrArg Prod.snd e; dsimp only at e2; subst e2))
    | (simp (disch := decide) only [setRyc_mask, State.answerRead_mask, State.settleAll_mask, mask_ite, mask_ite_snd, ite_self])

theorem State.windowClose_mask (s : State) (ok : Bool) (r : StartReport) {m0 : Nat} (hw : 4503595332403198 &&& m0 = 4503595332403198) :
    (State.windowClose s ok r).mask m0 = s.mask m0 := by
  refine mask_mono hw ?_
  unfold State.windowClose
  repeat' first
    | with_reducible rfl
    | with_reducible refine mask_ite_eq ?_ ?_
    | with_reducible refine mask_ite_snd_eq ?_ ?_
    | (simp (disch := decide) only [State.closeWindows_mask, mask_ite, mask_ite_snd, ite_self]; done)
    | dsimp only
    | (with_reducible refine mask_foldl _ (fun s x => ?_) _ _)
    | (with_reducible refine mask_foldl_snd _ (fun s x => ?_) _ _)
    | (with_reducible refine (mask_foldl _ (fun s x => ?_) _ _).trans ?_)
    | (split <;> try (rename_i e; have e2 := congrArg Prod.snd e; dsimp only at e2; subst e2))
    | (simp (disch := decide) only [State.closeWindows_mask, mask_ite, mask_ite_snd, ite_self])

theorem State.rejectWrite_mask (s : State) {m0 : Nat} (hw : 6 &&& m0 = 6) :
    (State.rejectWrite s).mask m0 = s.mask m0 := by
  refine mask_mono hw ?_
  unfold State.rejectWrite
  repeat' first
    | with_reducible rfl
    | with_reducible refine mask_ite_eq ?_ ?_
    | with_reducible refine mask_ite_snd_eq ?_ ?_
    | (simp (disch := decide) only [State.answerCode_mask, State.drawNat_mask, mask_ite, mask_ite_snd, ite_self]; done)
    | dsimp only
    | (with_reducible refine mask_foldl _ (fun s x => ?_) _ _)
    | (with_reducible refine mask_foldl_snd _ (fun s x => ?_) _ _)
    | (with_reducible refine (mask_foldl _ (fun s x => ?_) _ _).trans ?_)
    | (split <;> try (rename_i e; have e2 := congrArg Prod.snd e; dsimp only at e2; subst e2))
    | (simp (disch := decide) only [State.answerCode_mask, State.drawNat_mask, mask_ite, mask_ite_snd, ite_self])

theorem State.adapterLoad_mask (s : State) (p a : Nat) (digest : BitVec 256) {m0 : Nat} (hw : 1649267441664 &&& m0 = 1649267441664) :
    (State.adapterLoad s p a digest).mask m0 = s.mask m0 := by
  refine mask_mono hw ?_
  unfold State.adapterLoad
  repeat' first
    | with_reducible rfl
    | with_reducible refine mask_ite_eq ?_ ?_
    | with_reducible refine mask_ite_snd_eq ?_ ?_
    | (simp (disch := decide) only [setAdapterLast_mask, setAdapters_mask, mask_ite, mask_ite_snd, ite_self]; done)
    | dsimp only
    | (with_reducible refine mask_foldl _ (fun s x => ?_) _ _)
    | (with_reducible refine mask_foldl_snd _ (fun s x => ?_) _ _)
    | (with_reducible refine (mask_foldl _ (fun s x => ?_) _ _).trans ?_)
    | (split <;> try (rename_i e; have e2 := congrArg Prod.snd e; dsimp only at e2; subst e2))
    | (simp (disch := decide) only [setAdapterLast_mask, setAdapters_mask, mask_ite, mask_ite_snd, ite_self])

theorem State.adapterFree_mask (s : State) (p a v : Nat) {m0 : Nat} (hw : 549755813888 &&& m0 = 549755813888) :
    (State.adapterFree s p a v).mask m0 = s.mask m0 := by
  refine mask_mono hw ?_
  unfold State.adapterFree
  repeat' first
    | with_reducible rfl
    | with_reducible refine mask_ite_eq ?_ ?_
    | with_reducible refine mask_ite_snd_eq ?_ ?_
    | (simp (disch := decide) only [setAdapters_mask, mask_ite, mask_ite_snd, ite_self]; done)
    | dsimp only
    | (with_reducible refine mask_foldl _ (fun s x => ?_) _ _)
    | (with_reducible refine mask_foldl_snd _ (fun s x => ?_) _ _)
    | (with_reducible refine (mask_foldl _ (fun s x => ?_) _ _).trans ?_)
    | (split <;> try (rename_i e; have e2 := congrArg Prod.snd e; dsimp only at e2; subst e2))
    | (simp (disch := decide) only [setAdapters_mask, mask_ite, mask_ite_snd, ite_self])

theorem State.writeContext_mask (s : State) (q w : Nat) {m0 : Nat} (hw : 16388 &&& m0 = 16388) :
    (State.writeContext s q w).mask m0 = s.mask m0 := by
  refine mask_mono hw ?_
  unfold State.writeContext
  repeat' first
    | with_reducible rfl
    | with_reducible refine mask_ite_eq ?_ ?_
    | with_reducible refine mask_ite_snd_eq ?_ ?_
    | (simp (disch := decide) only [State.answerCode_mask, State.updQueue_mask, mask_ite, mask_ite_snd, ite_self]; done)
    | dsimp only
    | (with_reducible refine mask_foldl _ (fun s x => ?_) _ _)
    | (with_reducible refine mask_foldl_snd _ (fun s x => ?_) _ _)
    | (with_reducible refine (mask_foldl _ (fun s x => ?_) _ _).trans ?_)
    | (split <;> try (rename_i e; have e2 := congrArg Prod.snd e; dsimp only at e2; subst e2))
    | (simp (disch := decide) only [State.answerCode_mask, State.updQueue_mask, mask_ite, mask_ite_snd, ite_self])

theorem State.writePage_mask (s : State) (k e : Nat) {m0 : Nat} (hw : 1759235860070400 &&& m0 = 1759235860070400) :
    (State.writePage s k e).mask m0 = s.mask m0 := by
  refine mask_mono hw ?_
  unfold State.writePage
  repeat' first
    | with_reducible rfl
    | with_reducible refine mask_ite_eq ?_ ?_
    | with_reducible refine mask_ite_snd_eq ?_ ?_
    | (simp (disch := decide) only [setPageMaps_mask, State.degradedDone_mask, mask_ite, mask_ite_snd, ite_self]; done)
    | dsimp only
    | (with_reducible refine mask_foldl _ (fun s x => ?_) _ _)
    | (with_reducible refine mask_foldl_snd _ (fun s x => ?_) _ _)
    | (with_reducible refine (mask_foldl _ (fun s x => ?_) _ _).trans ?_)
    | (split <;> try (rename_i e; have e2 := congrArg Prod.snd e; dsimp only at e2; subst e2))
    | (simp (disch := decide) only [setPageMaps_mask, State.degradedDone_mask, mask_ite, mask_ite_snd, ite_self])

theorem State.writeKv_mask (s : State) (k e : Nat) {m0 : Nat} (hw : 1342177286 &&& m0 = 1342177286) :
    (State.writeKv s k e).mask m0 = s.mask m0 := by
  refine mask_mono hw ?_
  unfold State.writeKv
  repeat' first
    | with_reducible rfl
    | with_reducible refine mask_ite_eq ?_ ?_
    | with_reducible refine mask_ite_snd_eq ?_ ?_
    | (simp (disch := decide) only [setKvDirty_mask, setKvMaps_mask, State.rejectWrite_mask, mask_ite, mask_ite_snd, ite_self]; done)
    | dsimp only
    | (with_reducible refine mask_foldl _ (fun s x => ?_) _ _)
    | (with_reducible refine mask_foldl_snd _ (fun s x => ?_) _ _)
    | (with_reducible refine (mask_foldl _ (fun s x => ?_) _ _).trans ?_)
    | (split <;> try (rename_i e; have e2 := congrArg Prod.snd e; dsimp only at e2; subst e2))
    | (simp (disch := decide) only [setKvDirty_mask, setKvMaps_mask, State.rejectWrite_mask, mask_ite, mask_ite_snd, ite_self])

theorem State.manage_mask (s : State) (w : MgmtWrite) {m0 : Nat} (hw : 4503595332403198 &&& m0 = 4503595332403198) :
    (State.manage s w).mask m0 = s.mask m0 := by
  refine mask_mono hw ?_
  unfold State.manage
  repeat' first
    | with_reducible rfl
    | with_reducible refine mask_ite_eq ?_ ?_
    | with_reducible refine mask_ite_snd_eq ?_ ?_
    | (simp (disch := decide) only [setFw_mask, setNet_mask, State.adapterFree_mask, State.adapterLoad_mask, State.odInc_mask, State.putMbx_mask, State.putSem_mask, State.putSource_mask, State.regionWrite_mask, State.rejectWrite_mask, State.writeContext_mask, State.writeKv_mask, State.writeNow_mask, State.writePage_mask, mask_ite, mask_ite_snd, ite_self]; done)
    | dsimp only
    | (with_reducible refine mask_foldl _ (fun s x => ?_) _ _)
    | (with_reducible refine mask_foldl_snd _ (fun s x => ?_) _ _)
    | (with_reducible refine (mask_foldl _ (fun s x => ?_) _ _).trans ?_)
    | (split <;> try (rename_i e; have e2 := congrArg Prod.snd e; dsimp only at e2; subst e2))
    | (simp (disch := decide) only [setFw_mask, setNet_mask, State.adapterFree_mask, State.adapterLoad_mask, State.odInc_mask, State.putMbx_mask, State.putSem_mask, State.putSource_mask, State.regionWrite_mask, State.rejectWrite_mask, State.writeContext_mask, State.writeKv_mask, State.writeNow_mask, State.writePage_mask, mask_ite, mask_ite_snd, ite_self])

theorem State.writeCredential_mask (s : State) (w : OdWrite) (ok : Bool) {m0 : Nat} (hw : 4503595332403198 &&& m0 = 4503595332403198) :
    (State.writeCredential s w ok).mask m0 = s.mask m0 := by
  refine mask_mono hw ?_
  unfold State.writeCredential
  repeat' first
    | with_reducible rfl
    | with_reducible refine mask_ite_eq ?_ ?_
    | with_reducible refine mask_ite_snd_eq ?_ ?_
    | (simp (disch := decide) only [State.writeNow_mask, mask_ite, mask_ite_snd, ite_self]; done)
    | dsimp only
    | (with_reducible refine mask_foldl _ (fun s x => ?_) _ _)
    | (with_reducible refine mask_foldl_snd _ (fun s x => ?_) _ _)
    | (with_reducible refine (mask_foldl _ (fun s x => ?_) _ _).trans ?_)
    | (split <;> try (rename_i e; have e2 := congrArg Prod.snd e; dsimp only at e2; subst e2))
    | (simp (disch := decide) only [State.writeNow_mask, mask_ite, mask_ite_snd, ite_self])

end Sys2Proof.Machine
end

