-- ==== Sys2Proof/Laws/Frame/Entry.lean ====
section
/-!
SUPPORT. Frames of Machine/Entry.lean: the fields that each function may change, as a mask.
-/
namespace Sys2Proof.Machine

open Sys2Proof

set_option linter.unusedSimpArgs false

theorem State.spoilMem_mask (s : State) (die p k a n : Nat) {m0 : Nat} (hw : 8727035906 &&& m0 = 8727035906) :
    (State.spoilMem s die p k a n).mask m0 = s.mask m0 := by
  refine mask_mono hw ?_
  unfold State.spoilMem
  repeat' first
    | with_reducible rfl
    | with_reducible refine mask_ite_eq ?_ ?_
    | with_reducible refine mask_ite_snd_eq ?_ ?_
    | (simp (disch := decide) only [State.rawWrite_mask, mask_ite, mask_ite_snd, ite_self]; done)
    | dsimp only
    | (with_reducible refine mask_foldl _ (fun s x => ?_) _ _)
    | (with_reducible refine mask_foldl_snd _ (fun s x => ?_) _ _)
    | (with_reducible refine (mask_foldl _ (fun s x => ?_) _ _).trans ?_)
    | (split <;> try (rename_i e; have e2 := congrArg Prod.snd e; dsimp only at e2; subst e2))
    | (simp (disch := decide) only [State.rawWrite_mask, mask_ite, mask_ite_snd, ite_self])

theorem State.spoilParts_mask (s : State) (n p k d : Nat) {m0 : Nat} (hw : 10874527746 &&& m0 = 10874527746) :
    (State.spoilParts s n p k d).mask m0 = s.mask m0 := by
  refine mask_mono hw ?_
  unfold State.spoilParts
  repeat' first
    | with_reducible rfl
    | with_reducible refine mask_ite_eq ?_ ?_
    | with_reducible refine mask_ite_snd_eq ?_ ?_
    | (simp (disch := decide) only [setShared_mask, State.spoilMem_mask, State.updCore_mask, mask_ite, mask_ite_snd, ite_self]; done)
    | dsimp only
    | (with_reducible refine mask_foldl _ (fun s x => ?_) _ _)
    | (with_reducible refine mask_foldl_snd _ (fun s x => ?_) _ _)
    | (with_reducible refine (mask_foldl _ (fun s x => ?_) _ _).trans ?_)
    | (split <;> try (rename_i e; have e2 := congrArg Prod.snd e; dsimp only at e2; subst e2))
    | (simp (disch := decide) only [setShared_mask, State.spoilMem_mask, State.updCore_mask, mask_ite, mask_ite_snd, ite_self])

theorem State.spoilAppend_mask (s : State) (q n d : Nat) {m0 : Nat} (hw : 1165493737906178 &&& m0 = 1165493737906178) :
    (State.spoilAppend s q n d).mask m0 = s.mask m0 := by
  refine mask_mono hw ?_
  unfold State.spoilAppend
  repeat' first
    | with_reducible rfl
    | with_reducible refine mask_ite_eq ?_ ?_
    | with_reducible refine mask_ite_snd_eq ?_ ?_
    | (simp (disch := decide) only [State.spoilNew_mask, State.walk_mask, mask_ite, mask_ite_snd, ite_self]; done)
    | dsimp only
    | (with_reducible refine mask_foldl _ (fun s x => ?_) _ _)
    | (with_reducible refine mask_foldl_snd _ (fun s x => ?_) _ _)
    | (with_reducible refine (mask_foldl _ (fun s x => ?_) _ _).trans ?_)
    | (split <;> try (rename_i e; have e2 := congrArg Prod.snd e; dsimp only at e2; subst e2))
    | (simp (disch := decide) only [State.spoilNew_mask, State.walk_mask, mask_ite, mask_ite_snd, ite_self])

theorem State.spoilJob_mask (s : State) (q : Nat) (j : Job) {m0 : Nat} (hw : 1167727120900098 &&& m0 = 1167727120900098) :
    (State.spoilJob s q j).mask m0 = s.mask m0 := by
  refine mask_mono hw ?_
  unfold State.spoilJob
  repeat' first
    | with_reducible rfl
    | with_reducible refine mask_ite_eq ?_ ?_
    | with_reducible refine mask_ite_snd_eq ?_ ?_
    | (simp (disch := decide) only [State.abortPicture_mask, State.drawNat_mask, State.putCore_mask, State.setObject_mask, State.spoilAppend_mask, State.spoilMem_mask, State.spoilParts_mask, mask_ite, mask_ite_snd, ite_self]; done)
    | dsimp only
    | (with_reducible refine mask_foldl _ (fun s x => ?_) _ _)
    | (with_reducible refine mask_foldl_snd _ (fun s x => ?_) _ _)
    | (with_reducible refine (mask_foldl _ (fun s x => ?_) _ _).trans ?_)
    | (split <;> try (rename_i e; have e2 := congrArg Prod.snd e; dsimp only at e2; subst e2))
    | (simp (disch := decide) only [State.abortPicture_mask, State.drawNat_mask, State.putCore_mask, State.setObject_mask, State.spoilAppend_mask, State.spoilMem_mask, State.spoilParts_mask, mask_ite, mask_ite_snd, ite_self])

theorem State.abortPending_mask (s : State) (q : Nat) {m0 : Nat} (hw : 2082520795406406 &&& m0 = 2082520795406406) :
    (State.abortPending s q).mask m0 = s.mask m0 := by
  refine mask_mono hw ?_
  unfold State.abortPending
  repeat' first
    | with_reducible rfl
    | with_reducible refine mask_ite_eq ?_ ?_
    | with_reducible refine mask_ite_snd_eq ?_ ?_
    | (simp (disch := decide) only [setSemWait_mask, State.completeAll_mask, State.reserveFor_mask, State.spoilJob_mask, State.unlend_mask, State.updQueue_mask, mask_ite, mask_ite_snd, ite_self]; done)
    | dsimp only
    | (with_reducible refine mask_foldl _ (fun s x => ?_) _ _)
    | (with_reducible refine mask_foldl_snd _ (fun s x => ?_) _ _)
    | (with_reducible refine (mask_foldl _ (fun s x => ?_) _ _).trans ?_)
    | (split <;> try (rename_i e; have e2 := congrArg Prod.snd e; dsimp only at e2; subst e2))
    | (simp (disch := decide) only [setSemWait_mask, State.completeAll_mask, State.reserveFor_mask, State.spoilJob_mask, State.unlend_mask, State.updQueue_mask, mask_ite, mask_ite_snd, ite_self])

theorem State.answerAll_mask (s : State) {m0 : Nat} (hw : 1165491052494850 &&& m0 = 1165491052494850) :
    (State.answerAll s).mask m0 = s.mask m0 := by
  refine mask_mono hw ?_
  unfold State.answerAll
  repeat' first
    | with_reducible rfl
    | with_reducible refine mask_ite_eq ?_ ?_
    | with_reducible refine mask_ite_snd_eq ?_ ?_
    | (simp (disch := decide) only [State.answerKept_mask, mask_ite, mask_ite_snd, ite_self]; done)
    | dsimp only
    | (with_reducible refine mask_foldl _ (fun s x => ?_) _ _)
    | (with_reducible refine mask_foldl_snd _ (fun s x => ?_) _ _)
    | (with_reducible refine (mask_foldl _ (fun s x => ?_) _ _).trans ?_)
    | (split <;> try (rename_i e; have e2 := congrArg Prod.snd e; dsimp only at e2; subst e2))
    | (simp (disch := decide) only [State.answerKept_mask, mask_ite, mask_ite_snd, ite_self])

theorem State.finishChunks_mask (s : State) {m0 : Nat} (hw : 1759252964179968 &&& m0 = 1759252964179968) :
    (State.finishChunks s).mask m0 = s.mask m0 := by
  refine mask_mono hw ?_
  unfold State.finishChunks
  repeat' first
    | with_reducible rfl
    | with_reducible refine mask_ite_eq ?_ ?_
    | with_reducible refine mask_ite_snd_eq ?_ ?_
    | (simp (disch := decide) only [State.chunkDurable_mask, mask_ite, mask_ite_snd, ite_self]; done)
    | dsimp only
    | (with_reducible refine mask_foldl _ (fun s x => ?_) _ _)
    | (with_reducible refine mask_foldl_snd _ (fun s x => ?_) _ _)
    | (with_reducible refine (mask_foldl _ (fun s x => ?_) _ _).trans ?_)
    | (split <;> try (rename_i e; have e2 := congrArg Prod.snd e; dsimp only at e2; subst e2))
    | (simp (disch := decide) only [State.chunkDurable_mask, mask_ite, mask_ite_snd, ite_self])

theorem State.deliverAll_mask (s : State) {m0 : Nat} (hw : 1165491052494850 &&& m0 = 1165491052494850) :
    (State.deliverAll s).mask m0 = s.mask m0 := by
  refine mask_mono hw ?_
  unfold State.deliverAll
  repeat' first
    | with_reducible rfl
    | with_reducible refine mask_ite_eq ?_ ?_
    | with_reducible refine mask_ite_snd_eq ?_ ?_
    | (simp (disch := decide) only [setEv_mask, State.raise_mask, deliver_raise_mask, mask_ite, mask_ite_snd, ite_self]; done)
    | dsimp only
    | (with_reducible refine mask_foldl _ (fun s x => ?_) _ _)
    | (with_reducible refine mask_foldl_snd _ (fun s x => ?_) _ _)
    | (with_reducible refine (mask_foldl _ (fun s x => ?_) _ _).trans ?_)
    | (split <;> try (rename_i e; have e2 := congrArg Prod.snd e; dsimp only at e2; subst e2))
    | (simp (disch := decide) only [setEv_mask, State.raise_mask, deliver_raise_mask, mask_ite, mask_ite_snd, ite_self])

theorem State.dropRequal_mask (s : State) {m0 : Nat} (hw : 1125899906850816 &&& m0 = 1125899906850816) :
    (State.dropRequal s).mask m0 = s.mask m0 := by
  refine mask_mono hw ?_
  unfold State.dropRequal
  repeat' first
    | with_reducible rfl
    | with_reducible refine mask_ite_eq ?_ ?_
    | with_reducible refine mask_ite_snd_eq ?_ ?_
    | (simp (disch := decide) only [setCores_mask, State.odSet_mask, mask_ite, mask_ite_snd, ite_self]; done)
    | dsimp only
    | (with_reducible refine mask_foldl _ (fun s x => ?_) _ _)
    | (with_reducible refine mask_foldl_snd _ (fun s x => ?_) _ _)
    | (with_reducible refine (mask_foldl _ (fun s x => ?_) _ _).trans ?_)
    | (split <;> try (rename_i e; have e2 := congrArg Prod.snd e; dsimp only at e2; subst e2))
    | (simp (disch := decide) only [setCores_mask, State.odSet_mask, mask_ite, mask_ite_snd, ite_self])

theorem State.fallAsleep_mask (s : State) (m : Mode) {m0 : Nat} (hw : 1446966029205666 &&& m0 = 1446966029205666) :
    (State.fallAsleep s m).mask m0 = s.mask m0 := by
  refine mask_mono hw ?_
  unfold State.fallAsleep
  repeat' first
    | with_reducible rfl
    | with_reducible refine mask_ite_eq ?_ ?_
    | with_reducible refine mask_ite_snd_eq ?_ ?_
    | (simp (disch := decide) only [setEntry_mask, setMode_mask, setPow_mask, State.deliverAll_mask, State.odSet_mask, State.raiseEast_mask, mask_ite, mask_ite_snd, ite_self]; done)
    | dsimp only
    | (with_reducible refine mask_foldl _ (fun s x => ?_) _ _)
    | (with_reducible refine mask_foldl_snd _ (fun s x => ?_) _ _)
    | (with_reducible refine (mask_foldl _ (fun s x => ?_) _ _).trans ?_)
    | (split <;> try (rename_i e; have e2 := congrArg Prod.snd e; dsimp only at e2; subst e2))
    | (simp (disch := decide) only [setEntry_mask, setMode_mask, setPow_mask, State.deliverAll_mask, State.odSet_mask, State.raiseEast_mask, mask_ite, mask_ite_snd, ite_self])

theorem State.toStandby_mask (s : State) {m0 : Nat} (hw : 1475553331527906 &&& m0 = 1475553331527906) :
    (State.toStandby s).mask m0 = s.mask m0 := by
  refine mask_mono hw ?_
  unfold State.toStandby
  repeat' first
    | with_reducible rfl
    | with_reducible refine mask_ite_eq ?_ ?_
    | with_reducible refine mask_ite_snd_eq ?_ ?_
    | (simp (disch := decide) only [setIdle_mask, setNet_mask, setPow_mask, setRyc_mask, setVideo_mask, State.condition_mask, State.fallAsleep_mask, mask_ite, mask_ite_snd, ite_self]; done)
    | dsimp only
    | (with_reducible refine mask_foldl _ (fun s x => ?_) _ _)
    | (with_reducible refine mask_foldl_snd _ (fun s x => ?_) _ _)
    | (with_reducible refine (mask_foldl _ (fun s x => ?_) _ _).trans ?_)
    | (split <;> try (rename_i e; have e2 := congrArg Prod.snd e; dsimp only at e2; subst e2))
    | (simp (disch := decide) only [setIdle_mask, setNet_mask, setPow_mask, setRyc_mask, setVideo_mask, State.condition_mask, State.fallAsleep_mask, mask_ite, mask_ite_snd, ite_self])

theorem State.toParked_mask (s : State) (crystal : Nat) {m0 : Nat} (hw : 4503595332399850 &&& m0 = 4503595332399850) :
    (State.toParked s crystal).mask m0 = s.mask m0 := by
  refine mask_mono hw ?_
  unfold State.toParked
  repeat' first
    | with_reducible rfl
    | with_reducible refine mask_ite_eq ?_ ?_
    | with_reducible refine mask_ite_snd_eq ?_ ?_
    | (simp (disch := decide) only [setPark_mask, setTime_mask, State.commit_mask, State.fallAsleep_mask, State.lose_mask, mask_ite, mask_ite_snd, ite_self]; done)
    | dsimp only
    | (with_reducible refine mask_foldl _ (fun s x => ?_) _ _)
    | (with_reducible refine mask_foldl_snd _ (fun s x => ?_) _ _)
    | (with_reducible refine (mask_foldl _ (fun s x => ?_) _ _).trans ?_)
    | (split <;> try (rename_i e; have e2 := congrArg Prod.snd e; dsimp only at e2; subst e2))
    | (simp (disch := decide) only [setPark_mask, setTime_mask, State.commit_mask, State.fallAsleep_mask, State.lose_mask, mask_ite, mask_ite_snd, ite_self])

theorem State.resense_mask (s : State) (x : Nat × Nat × Nat) {m0 : Nat} (hw : 1165491052494850 &&& m0 = 1165491052494850) :
    (State.resense s x).mask m0 = s.mask m0 := by
  refine mask_mono hw ?_
  unfold State.resense
  repeat' first
    | with_reducible rfl
    | with_reducible refine mask_ite_eq ?_ ?_
    | with_reducible refine mask_ite_snd_eq ?_ ?_
    | (simp (disch := decide) only [State.putSource_mask, State.raise_mask, count_raise_mask, mask_ite, mask_ite_snd, ite_self]; done)
    | dsimp only
    | (with_reducible refine mask_foldl _ (fun s x => ?_) _ _)
    | (with_reducible refine mask_foldl_snd _ (fun s x => ?_) _ _)
    | (with_reducible refine (mask_foldl _ (fun s x => ?_) _ _).trans ?_)
    | (split <;> try (rename_i e; have e2 := congrArg Prod.snd e; dsimp only at e2; subst e2))
    | (simp (disch := decide) only [State.putSource_mask, State.raise_mask, count_raise_mask, mask_ite, mask_ite_snd, ite_self])

theorem State.replayLog_mask (s : State) {m0 : Nat} (hw : 1165491052494850 &&& m0 = 1165491052494850) :
    (State.replayLog s).mask m0 = s.mask m0 := by
  refine mask_mono hw ?_
  unfold State.replayLog
  repeat' first
    | with_reducible rfl
    | with_reducible refine mask_ite_eq ?_ ?_
    | with_reducible refine mask_ite_snd_eq ?_ ?_
    | (simp (disch := decide) only [setEv_mask, State.resense_mask, mask_ite, mask_ite_snd, ite_self]; done)
    | dsimp only
    | (with_reducible refine mask_foldl _ (fun s x => ?_) _ _)
    | (with_reducible refine mask_foldl_snd _ (fun s x => ?_) _ _)
    | (with_reducible refine (mask_foldl _ (fun s x => ?_) _ _).trans ?_)
    | (split <;> try (rename_i e; have e2 := congrArg Prod.snd e; dsimp only at e2; subst e2))
    | (simp (disch := decide) only [setEv_mask, State.resense_mask, mask_ite, mask_ite_snd, ite_self])

theorem State.thaw_mask (s : State) {m0 : Nat} (hw : 1446966029205506 &&& m0 = 1446966029205506) :
    (State.thaw s).mask m0 = s.mask m0 := by
  refine mask_mono hw ?_
  unfold State.thaw
  repeat' first
    | with_reducible rfl
    | with_reducible refine mask_ite_eq ?_ ?_
    | with_reducible refine mask_ite_snd_eq ?_ ?_
    | (simp (disch := decide) only [State.putTrig_mask, State.trigAssert_mask, mask_ite, mask_ite_snd, ite_self]; done)
    | dsimp only
    | (with_reducible refine mask_foldl _ (fun s x => ?_) _ _)
    | (with_reducible refine mask_foldl_snd _ (fun s x => ?_) _ _)
    | (with_reducible refine (mask_foldl _ (fun s x => ?_) _ _).trans ?_)
    | (split <;> try (rename_i e; have e2 := congrArg Prod.snd e; dsimp only at e2; subst e2))
    | (simp (disch := decide) only [State.putTrig_mask, State.trigAssert_mask, mask_ite, mask_ite_snd, ite_self])

theorem State.wakeStandby_mask (s : State) {m0 : Nat} (hw : 1455762123289186 &&& m0 = 1455762123289186) :
    (State.wakeStandby s).mask m0 = s.mask m0 := by
  refine mask_mono hw ?_
  unfold State.wakeStandby
  repeat' first
    | with_reducible rfl
    | with_reducible refine mask_ite_eq ?_ ?_
    | with_reducible refine mask_ite_snd_eq ?_ ?_
    | (simp (disch := decide) only [setCores_mask, setPow_mask, setRst_mask, setRyc_mask, setSpadUpsets_mask, setWakeHeld_mask, State.condition_mask, State.enterMode_mask, State.follow_mask, State.replayLog_mask, State.thaw_mask, mask_ite, mask_ite_snd, ite_self]; done)
    | dsimp only
    | (with_reducible refine mask_foldl _ (fun s x => ?_) _ _)
    | (with_reducible refine mask_foldl_snd _ (fun s x => ?_) _ _)
    | (with_reducible refine (mask_foldl _ (fun s x => ?_) _ _).trans ?_)
    | (split <;> try (rename_i e; have e2 := congrArg Prod.snd e; dsimp only at e2; subst e2))
    | (simp (disch := decide) only [setCores_mask, setPow_mask, setRst_mask, setRyc_mask, setSpadUpsets_mask, setWakeHeld_mask, State.condition_mask, State.enterMode_mask, State.follow_mask, State.replayLog_mask, State.thaw_mask, mask_ite, mask_ite_snd, ite_self])

theorem State.wakeParked_mask (s : State) (r : StartReport) {m0 : Nat} (hw : 2080319094947442 &&& m0 = 2080319094947442) :
    (State.wakeParked s r).mask m0 = s.mask m0 := by
  refine mask_mono hw ?_
  unfold State.wakeParked
  repeat' first
    | with_reducible rfl
    | with_reducible refine mask_ite_eq ?_ ?_
    | with_reducible refine mask_ite_snd_eq ?_ ?_
    | (simp (disch := decide) only [setWakeHeld_mask, State.coldStart_mask, State.replayLog_mask, State.thaw_mask, mask_ite, mask_ite_snd, ite_self]; done)
    | dsimp only
    | (with_reducible refine mask_foldl _ (fun s x => ?_) _ _)
    | (with_reducible refine mask_foldl_snd _ (fun s x => ?_) _ _)
    | (with_reducible refine (mask_foldl _ (fun s x => ?_) _ _).trans ?_)
    | (split <;> try (rename_i e; have e2 := congrArg Prod.snd e; dsimp only at e2; subst e2))
    | (simp (disch := decide) only [setWakeHeld_mask, State.coldStart_mask, State.replayLog_mask, State.thaw_mask, mask_ite, mask_ite_snd, ite_self])

theorem State.wakeUp_mask (s : State) (r : StartReport) {m0 : Nat} (hw : 2089115189018226 &&& m0 = 2089115189018226) :
    (State.wakeUp s r).mask m0 = s.mask m0 := by
  refine mask_mono hw ?_
  unfold State.wakeUp
  repeat' first
    | with_reducible rfl
    | with_reducible refine mask_ite_eq ?_ ?_
    | with_reducible refine mask_ite_snd_eq ?_ ?_
    | (simp (disch := decide) only [setWakeHeld_mask, State.wakeParked_mask, State.wakeStandby_mask, mask_ite, mask_ite_snd, ite_self]; done)
    | dsimp only
    | (with_reducible refine mask_foldl _ (fun s x => ?_) _ _)
    | (with_reducible refine mask_foldl_snd _ (fun s x => ?_) _ _)
    | (with_reducible refine (mask_foldl _ (fun s x => ?_) _ _).trans ?_)
    | (split <;> try (rename_i e; have e2 := congrArg Prod.snd e; dsimp only at e2; subst e2))
    | (simp (disch := decide) only [setWakeHeld_mask, State.wakeParked_mask, State.wakeStandby_mask, mask_ite, mask_ite_snd, ite_self])

theorem State.wakeFrame_mask (s : State) (f : RFrame) (r : StartReport) {m0 : Nat} (hw : 2089115189018230 &&& m0 = 2089115189018230) :
    (State.wakeFrame s f r).mask m0 = s.mask m0 := by
  refine mask_mono hw ?_
  unfold State.wakeFrame
  repeat' first
    | with_reducible rfl
    | with_reducible refine mask_ite_eq ?_ ?_
    | with_reducible refine mask_ite_snd_eq ?_ ?_
    | (simp (disch := decide) only [State.commit_mask, State.odSet_mask, State.raiseEast_mask, State.ryciaDrop_mask, State.sendState_mask, State.takeClear_mask, State.wakeUp_mask, mask_ite, mask_ite_snd, ite_self]; done)
    | dsimp only
    | (with_reducible refine mask_foldl _ (fun s x => ?_) _ _)
    | (with_reducible refine mask_foldl_snd _ (fun s x => ?_) _ _)
    | (with_reducible refine (mask_foldl _ (fun s x => ?_) _ _).trans ?_)
    | (split <;> try (rename_i e; have e2 := congrArg Prod.snd e; dsimp only at e2; subst e2))
    | (simp (disch := decide) only [State.commit_mask, State.odSet_mask, State.raiseEast_mask, State.ryciaDrop_mask, State.sendState_mask, State.takeClear_mask, State.wakeUp_mask, mask_ite, mask_ite_snd, ite_self])

theorem State.wakeSubset_mask (s : State) (n : Nat) (level : Bool) (detail : Nat) (r : StartReport) {m0 : Nat} (hw : 4503595332402942 &&& m0 = 4503595332402942) :
    (State.wakeSubset s n level detail r).mask m0 = s.mask m0 := by
  refine mask_mono hw ?_
  unfold State.wakeSubset
  repeat' first
    | with_reducible rfl
    | with_reducible refine mask_ite_eq ?_ ?_
    | with_reducible refine mask_ite_snd_eq ?_ ?_
    | (simp (disch := decide) only [State.below36_mask, State.condition_mask, State.drawNat_mask, State.presenceBreak_mask, State.raiseEast_mask, State.trayResetAssert_mask, State.wakeUp_mask, mask_ite, mask_ite_snd, ite_self]; done)
    | dsimp only
    | (with_reducible refine mask_foldl _ (fun s x => ?_) _ _)
    | (with_reducible refine mask_foldl_snd _ (fun s x => ?_) _ _)
    | (with_reducible refine (mask_foldl _ (fun s x => ?_) _ _).trans ?_)
    | (split <;> try (rename_i e; have e2 := congrArg Prod.snd e; dsimp only at e2; subst e2))
    | (simp (disch := decide) only [State.below36_mask, State.condition_mask, State.drawNat_mask, State.presenceBreak_mask, State.raiseEast_mask, State.trayResetAssert_mask, State.wakeUp_mask, mask_ite, mask_ite_snd, ite_self])

theorem State.completeEntry_mask (s : State) (e : Entry) (storeOk : Bool) (r : StartReport) {m0 : Nat} (hw : 4503595332403198 &&& m0 = 4503595332403198) :
    (State.completeEntry s e storeOk r).mask m0 = s.mask m0 := by
  refine mask_mono hw ?_
  unfold State.completeEntry
  repeat' first
    | with_reducible rfl
    | with_reducible refine mask_ite_eq ?_ ?_
    | with_reducible refine mask_ite_snd_eq ?_ ?_
    | (simp (disch := decide) only [setEntry_mask, State.closeWindows_mask, State.dropRequal_mask, State.finishChunks_mask, State.orderWarm_mask, State.toOutOfService_mask, State.toParked_mask, State.toStandby_mask, State.wakeUp_mask, mask_ite, mask_ite_snd, ite_self]; done)
    | dsimp only
    | (with_reducible refine mask_foldl _ (fun s x => ?_) _ _)
    | (with_reducible refine mask_foldl_snd _ (fun s x => ?_) _ _)
    | (with_reducible refine (mask_foldl _ (fun s x => ?_) _ _).trans ?_)
    | (split <;> try (rename_i e; have e2 := congrArg Prod.snd e; dsimp only at e2; subst e2))
    | (simp (disch := decide) only [setEntry_mask, State.closeWindows_mask, State.dropRequal_mask, State.finishChunks_mask, State.orderWarm_mask, State.toOutOfService_mask, State.toParked_mask, State.toStandby_mask, State.wakeUp_mask, mask_ite, mask_ite_snd, ite_self])

theorem State.drainAbort_mask (s : State) (storeOk : Bool) (r : StartReport) {m0 : Nat} (hw : 4503595332403198 &&& m0 = 4503595332403198) :
    (State.drainAbort s storeOk r).mask m0 = s.mask m0 := by
  refine mask_mono hw ?_
  unfold State.drainAbort
  repeat' first
    | with_reducible rfl
    | with_reducible refine mask_ite_eq ?_ ?_
    | with_reducible refine mask_ite_snd_eq ?_ ?_
    | (simp (disch := decide) only [State.abortPending_mask, State.answerAll_mask, State.completeEntry_mask, mask_ite, mask_ite_snd, ite_self]; done)
    | dsimp only
    | (with_reducible refine mask_foldl _ (fun s x => ?_) _ _)
    | (with_reducible refine mask_foldl_snd _ (fun s x => ?_) _ _)
    | (with_reducible refine (mask_foldl _ (fun s x => ?_) _ _).trans ?_)
    | (split <;> try (rename_i e; have e2 := congrArg Prod.snd e; dsimp only at e2; subst e2))
    | (simp (disch := decide) only [State.abortPending_mask, State.answerAll_mask, State.completeEntry_mask, mask_ite, mask_ite_snd, ite_self])

theorem State.accessFault_mask (s : State) (core a : Nat) (poison : Bool) {m0 : Nat} (hw : 4398046511104 &&& m0 = 4398046511104) :
    (State.accessFault s core a poison).mask m0 = s.mask m0 := by
  refine mask_mono hw ?_
  unfold State.accessFault
  repeat' first
    | with_reducible rfl
    | with_reducible refine mask_ite_eq ?_ ?_
    | with_reducible refine mask_ite_snd_eq ?_ ?_
    | (simp (disch := decide) only [setFw_mask, mask_ite, mask_ite_snd, ite_self]; done)
    | dsimp only
    | (with_reducible refine mask_foldl _ (fun s x => ?_) _ _)
    | (with_reducible refine mask_foldl_snd _ (fun s x => ?_) _ _)
    | (with_reducible refine (mask_foldl _ (fun s x => ?_) _ _).trans ?_)
    | (split <;> try (rename_i e; have e2 := congrArg Prod.snd e; dsimp only at e2; subst e2))
    | (simp (disch := decide) only [setFw_mask, mask_ite, mask_ite_snd, ite_self])

theorem State.poisonFault_mask (s : State) (core a : Nat) (part : Option Nat) {m0 : Nat} (hw : 1763651010691072 &&& m0 = 1763651010691072) :
    (State.poisonFault s core a part).mask m0 = s.mask m0 := by
  refine mask_mono hw ?_
  unfold State.poisonFault
  repeat' first
    | with_reducible rfl
    | with_reducible refine mask_ite_eq ?_ ?_
    | with_reducible refine mask_ite_snd_eq ?_ ?_
    | (simp (disch := decide) only [State.accessFault_mask, State.charge_mask, State.failRecord_mask, State.odInc_mask, mask_ite, mask_ite_snd, ite_self]; done)
    | dsimp only
    | (with_reducible refine mask_foldl _ (fun s x => ?_) _ _)
    | (with_reducible refine mask_foldl_snd _ (fun s x => ?_) _ _)
    | (with_reducible refine (mask_foldl _ (fun s x => ?_) _ _).trans ?_)
    | (split <;> try (rename_i e; have e2 := congrArg Prod.snd e; dsimp only at e2; subst e2))
    | (simp (disch := decide) only [State.accessFault_mask, State.charge_mask, State.failRecord_mask, State.odInc_mask, mask_ite, mask_ite_snd, ite_self])

theorem State.processEnds_mask (s : State) (core p : Nat) {m0 : Nat} (hw : 4398046511104 &&& m0 = 4398046511104) :
    (State.processEnds s core p).mask m0 = s.mask m0 := by
  refine mask_mono hw ?_
  unfold State.processEnds
  repeat' first
    | with_reducible rfl
    | with_reducible refine mask_ite_eq ?_ ?_
    | with_reducible refine mask_ite_snd_eq ?_ ?_
    | (simp (disch := decide) only [setFw_mask, mask_ite, mask_ite_snd, ite_self]; done)
    | dsimp only
    | (with_reducible refine mask_foldl _ (fun s x => ?_) _ _)
    | (with_reducible refine mask_foldl_snd _ (fun s x => ?_) _ _)
    | (with_reducible refine (mask_foldl _ (fun s x => ?_) _ _).trans ?_)
    | (split <;> try (rename_i e; have e2 := congrArg Prod.snd e; dsimp only at e2; subst e2))
    | (simp (disch := decide) only [setFw_mask, mask_ite, mask_ite_snd, ite_self])

theorem State.panic_mask (s : State) (core : Nat) {m0 : Nat} (hw : 1165491052498946 &&& m0 = 1165491052498946) :
    (State.panic s core).mask m0 = s.mask m0 := by
  refine mask_mono hw ?_
  unfold State.panic
  repeat' first
    | with_reducible rfl
    | with_reducible refine mask_ite_eq ?_ ?_
    | with_reducible refine mask_ite_snd_eq ?_ ?_
    | (simp (disch := decide) only [State.orderWarm_mask, State.raiseEast_mask, mask_ite, mask_ite_snd, ite_self]; done)
    | dsimp only
    | (with_reducible refine mask_foldl _ (fun s x => ?_) _ _)
    | (with_reducible refine mask_foldl_snd _ (fun s x => ?_) _ _)
    | (with_reducible refine (mask_foldl _ (fun s x => ?_) _ _).trans ?_)
    | (split <;> try (rename_i e; have e2 := congrArg Prod.snd e; dsimp only at e2; subst e2))
    | (simp (disch := decide) only [State.orderWarm_mask, State.raiseEast_mask, mask_ite, mask_ite_snd, ite_self])

theorem State.appLoad_mask (s : State) (core a n : Nat) {m0 : Nat} (hw : 1798844109836294 &&& m0 = 1798844109836294) :
    (State.appLoad s core a n).mask m0 = s.mask m0 := by
  refine mask_mono hw ?_
  unfold State.appLoad
  repeat' first
    | with_reducible rfl
    | with_reducible refine mask_ite_eq ?_ ?_
    | with_reducible refine mask_ite_snd_eq ?_ ?_
    | (simp (disch := decide) only [State.accessFault_mask, State.emit_mask, State.mread_mask, State.panic_mask, State.poisonFault_mask, State.processEnds_mask, State.settleRegion_mask, mask_ite, mask_ite_snd, ite_self]; done)
    | dsimp only
    | (with_reducible refine mask_foldl _ (fun s x => ?_) _ _)
    | (with_reducible refine mask_foldl_snd _ (fun s x => ?_) _ _)
    | (with_reducible refine (mask_foldl _ (fun s x => ?_) _ _).trans ?_)
    | (split <;> try (rename_i e; have e2 := congrArg Prod.snd e; dsimp only at e2; subst e2))
    | (simp (disch := decide) only [State.accessFault_mask, State.emit_mask, State.mread_mask, State.panic_mask, State.poisonFault_mask, State.processEnds_mask, State.settleRegion_mask, mask_ite, mask_ite_snd, ite_self])

theorem State.appStore_mask (s : State) (core a : Nat) (bs : List Byte) {m0 : Nat} (hw : 1165491052494850 &&& m0 = 1165491052494850) :
    (State.appStore s core a bs).mask m0 = s.mask m0 := by
  refine mask_mono hw ?_
  unfold State.appStore
  repeat' first
    | with_reducible rfl
    | with_reducible refine mask_ite_eq ?_ ?_
    | with_reducible refine mask_ite_snd_eq ?_ ?_
    | (simp (disch := decide) only [State.accessFault_mask, State.pwrite_mask, State.regionWrite_mask, mask_ite, mask_ite_snd, ite_self]; done)
    | dsimp only
    | (with_reducible refine mask_foldl _ (fun s x => ?_) _ _)
    | (with_reducible refine mask_foldl_snd _ (fun s x => ?_) _ _)
    | (with_reducible refine (mask_foldl _ (fun s x => ?_) _ _).trans ?_)
    | (split <;> try (rename_i e; have e2 := congrArg Prod.snd e; dsimp only at e2; subst e2))
    | (simp (disch := decide) only [State.accessFault_mask, State.pwrite_mask, State.regionWrite_mask, mask_ite, mask_ite_snd, ite_self])

theorem State.aperture_mask (s : State) (core a : Nat) (kind : AccessKind) {m0 : Nat} (hw : 1798861407154182 &&& m0 = 1798861407154182) :
    (State.aperture s core a kind).mask m0 = s.mask m0 := by
  refine mask_mono hw ?_
  unfold State.aperture
  repeat' first
    | with_reducible rfl
    | with_reducible refine mask_ite_eq ?_ ?_
    | with_reducible refine mask_ite_snd_eq ?_ ?_
    | (simp (disch := decide) only [State.account_mask, State.appLoad_mask, State.appStore_mask, mask_ite, mask_ite_snd, ite_self]; done)
    | dsimp only
    | (with_reducible refine mask_foldl _ (fun s x => ?_) _ _)
    | (with_reducible refine mask_foldl_snd _ (fun s x => ?_) _ _)
    | (with_reducible refine (mask_foldl _ (fun s x => ?_) _ _).trans ?_)
    | (split <;> try (rename_i e; have e2 := congrArg Prod.snd e; dsimp only at e2; subst e2))
    | (simp (disch := decide) only [State.account_mask, State.appLoad_mask, State.appStore_mask, mask_ite, mask_ite_snd, ite_self])

end Sys2Proof.Machine
end

