-- ==== Sys2Proof/Laws/MemoryOps.lean ====
section
/-!
SUPPORT. The operations on whole memories keep the canonical form: zeroing, copying a page, writing pieces, spoiling an
aborted output.
-/
namespace Sys2Proof.Machine

open Sys2Proof

theorem sorted_filter {p : Host.Cell → Bool} {m : List Host.Cell} (h : AMap.sorted m = true) : AMap.sorted (m.filter p) = true := by
  induction m with
  | nil => rfl
  | cons c m ih =>
    obtain ⟨k, v⟩ := c
    obtain ⟨hs, hf⟩ := sorted_cons.mp h
    rw [List.filter_cons]
    split
    · refine sorted_cons.mpr ⟨ih hs, ?_⟩
      simp only [cellsFrom, List.all_eq_true, decide_eq_true_eq] at hf ⊢
      exact fun x hx => hf x (List.mem_filter.mp hx).1
    · exact ih hs

theorem rising_all {k : Nat} {l : List Nat} (h : risingNat (k :: l) = true) : ∀ x ∈ l, k < x := by
  induction l generalizing k with
  | nil => simp
  | cons n l ih =>
    simp only [risingNat, Bool.and_eq_true, decide_eq_true_eq] at h
    intro x hx
    rcases List.mem_cons.mp hx with rfl | hx
    · exact h.1
    · exact Nat.lt_trans h.1 (ih h.2 x hx)

theorem rising_of_all {k : Nat} {l : List Nat} (h : risingNat l = true) (hk : ∀ x ∈ l, k < x) : risingNat (k :: l) = true := by
  cases l with
  | nil => rfl
  | cons n l =>
    simp only [risingNat, Bool.and_eq_true, decide_eq_true_eq]
    exact ⟨hk n (List.mem_cons_self ..), h⟩

theorem rising_filter {p : Nat → Bool} {l : List Nat} (h : risingNat l = true) : risingNat (l.filter p) = true := by
  induction l with
  | nil => rfl
  | cons k l ih =>
    rw [List.filter_cons]
    split
    · exact rising_of_all (ih (rising_tail h)) (fun x hx => rising_all h x (List.mem_filter.mp hx).1)
    · exact ih (rising_tail h)

/-- Dropping listed bytes and marks keeps the canonical form. -/
theorem filter_wf (m : Mem) (p : Host.Cell → Bool) (r : Nat → Bool) (h : m.wf = true) :
    ({ m with cells := m.cells.filter p, poison := m.poison.filter r } : Mem).wf = true := by
  obtain ⟨fill, cells, poison⟩ := m
  cases fill with
  | unwritten k =>
    simp only [Mem.wf, Bool.and_eq_true] at h ⊢
    exact ⟨⟨sorted_filter h.1.1, rising_filter h.1.2⟩, h.2⟩
  | zeros =>
    simp only [Mem.wf, Bool.and_eq_true, List.all_eq_true, decide_eq_true_eq] at h ⊢
    exact ⟨⟨sorted_filter h.1.1, rising_filter h.1.2⟩, fun x hx => h.2 x (List.mem_filter.mp hx).1⟩

theorem Mem.zeroRange_wf (m : Mem) (a n : Nat) (h : m.wf = true) : (m.zeroRange a n).wf = true := filter_wf m _ _ h

theorem copyExtent_wf (src dst : Mem) (a n : Nat) (h : dst.wf = true) : (copyExtent src dst a n).wf = true :=
  foldl_wf _ (fun m l hm => Mem.setLine_wf m l true hm) _ _
    (foldl_wf _ (fun m c hm => Mem.put_wf m c.1 c.2 hm) _ _ (filter_wf dst _ _ h))

theorem Mem.writePieces_wf (m : Mem) (bad : Bool) (ps : List Piece) (h : m.wf = true) : (m.writePieces bad ps).wf = true := by
  refine foldl_wf _ (fun m w hm => ?_) _ m h
  dsimp only
  split
  · exact Mem.setBad_wf _ _ _ _ (Mem.store_wf m _ _ hm)
  · exact Mem.store_wf m _ _ hm

theorem Mem.spoil_wf (k : Nat) (m : Mem) (x : Ext) (h : m.wf = true) : (Mem.spoil k m x).wf = true := by
  unfold Mem.spoil
  split
  · exact Mem.write_wf m _ _ h
  · exact h

end Sys2Proof.Machine
end

