-- ==== Sys2Proof/Laws/State.lean ====
section
/-!
SUPPORT. What each field holds after each field's setter.
-/
namespace Sys2Proof.Machine

open Sys2Proof

@[simp] theorem State.setPending_pending (s : State) (x : List Instr) : (s.setPending x).pending = x := rfl
@[simp] theorem State.setPending_free (s : State) (x : List Instr) : (s.setPending x).free = s.free := rfl
@[simp] theorem State.setPending_out (s : State) (x : List Instr) : (s.setPending x).out = s.out := rfl
@[simp] theorem State.setPending_time (s : State) (x : List Instr) : (s.setPending x).time = s.time := rfl
@[simp] theorem State.setPending_tray (s : State) (x : List Instr) : (s.setPending x).tray = s.tray := rfl
@[simp] theorem State.setPending_mode (s : State) (x : List Instr) : (s.setPending x).mode = s.mode := rfl
@[simp] theorem State.setPending_idle (s : State) (x : List Instr) : (s.setPending x).idle = s.idle := rfl
@[simp] theorem State.setPending_entry (s : State) (x : List Instr) : (s.setPending x).entry = s.entry := rfl
@[simp] theorem State.setPending_leftMode (s : State) (x : List Instr) : (s.setPending x).leftMode = s.leftMode := rfl
@[simp] theorem State.setPending_wakeHeld (s : State) (x : List Instr) : (s.setPending x).wakeHeld = s.wakeHeld := rfl
@[simp] theorem State.setPending_westPrimary (s : State) (x : List Instr) : (s.setPending x).westPrimary = s.westPrimary := rfl
@[simp] theorem State.setPending_noBoot (s : State) (x : List Instr) : (s.setPending x).noBoot = s.noBoot := rfl
@[simp] theorem State.setPending_rst (s : State) (x : List Instr) : (s.setPending x).rst = s.rst := rfl
@[simp] theorem State.setPending_cores (s : State) (x : List Instr) : (s.setPending x).cores = s.cores := rfl
@[simp] theorem State.setPending_queues (s : State) (x : List Instr) : (s.setPending x).queues = s.queues := rfl
@[simp] theorem State.setPending_queueZero (s : State) (x : List Instr) : (s.setPending x).queueZero = s.queueZero := rfl
@[simp] theorem State.setPending_sems (s : State) (x : List Instr) : (s.setPending x).sems = s.sems := rfl
@[simp] theorem State.setPending_semWait (s : State) (x : List Instr) : (s.setPending x).semWait = s.semWait := rfl
@[simp] theorem State.setPending_dram (s : State) (x : List Instr) : (s.setPending x).dram = s.dram := rfl
@[simp] theorem State.setPending_upsets (s : State) (x : List Instr) : (s.setPending x).upsets = s.upsets := rfl
@[simp] theorem State.setPending_spadUpsets (s : State) (x : List Instr) : (s.setPending x).spadUpsets = s.spadUpsets := rfl
@[simp] theorem State.setPending_ecc (s : State) (x : List Instr) : (s.setPending x).ecc = s.ecc := rfl
@[simp] theorem State.setPending_modKey (s : State) (x : List Instr) : (s.setPending x).modKey = s.modKey := rfl
@[simp] theorem State.setPending_rotation (s : State) (x : List Instr) : (s.setPending x).rotation = s.rotation := rfl
@[simp] theorem State.setPending_migr (s : State) (x : List Instr) : (s.setPending x).migr = s.migr := rfl
@[simp] theorem State.setPending_migrQueue (s : State) (x : List Instr) : (s.setPending x).migrQueue = s.migrQueue := rfl
@[simp] theorem State.setPending_pageMaps (s : State) (x : List Instr) : (s.setPending x).pageMaps = s.pageMaps := rfl
@[simp] theorem State.setPending_tlb (s : State) (x : List Instr) : (s.setPending x).tlb = s.tlb := rfl
@[simp] theorem State.setPending_kvMaps (s : State) (x : List Instr) : (s.setPending x).kvMaps = s.kvMaps := rfl
@[simp] theorem State.setPending_kvTlb (s : State) (x : List Instr) : (s.setPending x).kvTlb = s.kvTlb := rfl
@[simp] theorem State.setPending_kvDirty (s : State) (x : List Instr) : (s.setPending x).kvDirty = s.kvDirty := rfl
@[simp] theorem State.setPending_shared (s : State) (x : List Instr) : (s.setPending x).shared = s.shared := rfl
@[simp] theorem State.setPending_withdrawn (s : State) (x : List Instr) : (s.setPending x).withdrawn = s.withdrawn := rfl
@[simp] theorem State.setPending_modMem (s : State) (x : List Instr) : (s.setPending x).modMem = s.modMem := rfl
@[simp] theorem State.setPending_parts (s : State) (x : List Instr) : (s.setPending x).parts = s.parts := rfl
@[simp] theorem State.setPending_park (s : State) (x : List Instr) : (s.setPending x).park = s.park := rfl
@[simp] theorem State.setPending_sess (s : State) (x : List Instr) : (s.setPending x).sess = s.sess := rfl
@[simp] theorem State.setPending_emitted (s : State) (x : List Instr) : (s.setPending x).emitted = s.emitted := rfl
@[simp] theorem State.setPending_grammars (s : State) (x : List Instr) : (s.setPending x).grammars = s.grammars := rfl
@[simp] theorem State.setPending_adapters (s : State) (x : List Instr) : (s.setPending x).adapters = s.adapters := rfl
@[simp] theorem State.setPending_adapterLast (s : State) (x : List Instr) : (s.setPending x).adapterLast = s.adapterLast := rfl
@[simp] theorem State.setPending_video (s : State) (x : List Instr) : (s.setPending x).video = s.video := rfl
@[simp] theorem State.setPending_fw (s : State) (x : List Instr) : (s.setPending x).fw = s.fw := rfl
@[simp] theorem State.setPending_ryc (s : State) (x : List Instr) : (s.setPending x).ryc = s.ryc := rfl
@[simp] theorem State.setPending_net (s : State) (x : List Instr) : (s.setPending x).net = s.net := rfl
@[simp] theorem State.setPending_ev (s : State) (x : List Instr) : (s.setPending x).ev = s.ev := rfl
@[simp] theorem State.setPending_rel (s : State) (x : List Instr) : (s.setPending x).rel = s.rel := rfl
@[simp] theorem State.setPending_sec (s : State) (x : List Instr) : (s.setPending x).sec = s.sec := rfl
@[simp] theorem State.setPending_pow (s : State) (x : List Instr) : (s.setPending x).pow = s.pow := rfl
@[simp] theorem State.setPending_store (s : State) (x : List Instr) : (s.setPending x).store = s.store := rfl
@[simp] theorem State.setPending_od (s : State) (x : List Instr) : (s.setPending x).od = s.od := rfl
@[simp] theorem State.setPending_d2dFails (s : State) (x : List Instr) : (s.setPending x).d2dFails = s.d2dFails := rfl
@[simp] theorem State.setFree_pending (s : State) (x : Nat) : (s.setFree x).pending = s.pending := rfl
@[simp] theorem State.setFree_free (s : State) (x : Nat) : (s.setFree x).free = x := rfl
@[simp] theorem State.setFree_out (s : State) (x : Nat) : (s.setFree x).out = s.out := rfl
@[simp] theorem State.setFree_time (s : State) (x : Nat) : (s.setFree x).time = s.time := rfl
@[simp] theorem State.setFree_tray (s : State) (x : Nat) : (s.setFree x).tray = s.tray := rfl
@[simp] theorem State.setFree_mode (s : State) (x : Nat) : (s.setFree x).mode = s.mode := rfl
@[simp] theorem State.setFree_idle (s : State) (x : Nat) : (s.setFree x).idle = s.idle := rfl
@[simp] theorem State.setFree_entry (s : State) (x : Nat) : (s.setFree x).entry = s.entry := rfl
@[simp] theorem State.setFree_leftMode (s : State) (x : Nat) : (s.setFree x).leftMode = s.leftMode := rfl
@[simp] theorem State.setFree_wakeHeld (s : State) (x : Nat) : (s.setFree x).wakeHeld = s.wakeHeld := rfl
@[simp] theorem State.setFree_westPrimary (s : State) (x : Nat) : (s.setFree x).westPrimary = s.westPrimary := rfl
@[simp] theorem State.setFree_noBoot (s : State) (x : Nat) : (s.setFree x).noBoot = s.noBoot := rfl
@[simp] theorem State.setFree_rst (s : State) (x : Nat) : (s.setFree x).rst = s.rst := rfl
@[simp] theorem State.setFree_cores (s : State) (x : Nat) : (s.setFree x).cores = s.cores := rfl
@[simp] theorem State.setFree_queues (s : State) (x : Nat) : (s.setFree x).queues = s.queues := rfl
@[simp] theorem State.setFree_queueZero (s : State) (x : Nat) : (s.setFree x).queueZero = s.queueZero := rfl
@[simp] theorem State.setFree_sems (s : State) (x : Nat) : (s.setFree x).sems = s.sems := rfl
@[simp] theorem State.setFree_semWait (s : State) (x : Nat) : (s.setFree x).semWait = s.semWait := rfl
@[simp] theorem State.setFree_dram (s : State) (x : Nat) : (s.setFree x).dram = s.dram := rfl
@[simp] theorem State.setFree_upsets (s : State) (x : Nat) : (s.setFree x).upsets = s.upsets := rfl
@[simp] theorem State.setFree_spadUpsets (s : State) (x : Nat) : (s.setFree x).spadUpsets = s.spadUpsets := rfl
@[simp] theorem State.setFree_ecc (s : State) (x : Nat) : (s.setFree x).ecc = s.ecc := rfl
@[simp] theorem State.setFree_modKey (s : State) (x : Nat) : (s.setFree x).modKey = s.modKey := rfl
@[simp] theorem State.setFree_rotation (s : State) (x : Nat) : (s.setFree x).rotation = s.rotation := rfl
@[simp] theorem State.setFree_migr (s : State) (x : Nat) : (s.setFree x).migr = s.migr := rfl
@[simp] theorem State.setFree_migrQueue (s : State) (x : Nat) : (s.setFree x).migrQueue = s.migrQueue := rfl
@[simp] theorem State.setFree_pageMaps (s : State) (x : Nat) : (s.setFree x).pageMaps = s.pageMaps := rfl
@[simp] theorem State.setFree_tlb (s : State) (x : Nat) : (s.setFree x).tlb = s.tlb := rfl
@[simp] theorem State.setFree_kvMaps (s : State) (x : Nat) : (s.setFree x).kvMaps = s.kvMaps := rfl
@[simp] theorem State.setFree_kvTlb (s : State) (x : Nat) : (s.setFree x).kvTlb = s.kvTlb := rfl
@[simp] theorem State.setFree_kvDirty (s : State) (x : Nat) : (s.setFree x).kvDirty = s.kvDirty := rfl
@[simp] theorem State.setFree_shared (s : State) (x : Nat) : (s.setFree x).shared = s.shared := rfl
@[simp] theorem State.setFree_withdrawn (s : State) (x : Nat) : (s.setFree x).withdrawn = s.withdrawn := rfl
@[simp] theorem State.setFree_modMem (s : State) (x : Nat) : (s.setFree x).modMem = s.modMem := rfl
@[simp] theorem State.setFree_parts (s : State) (x : Nat) : (s.setFree x).parts = s.parts := rfl
@[simp] theorem State.setFree_park (s : State) (x : Nat) : (s.setFree x).park = s.park := rfl
@[simp] theorem State.setFree_sess (s : State) (x : Nat) : (s.setFree x).sess = s.sess := rfl
@[simp] theorem State.setFree_emitted (s : State) (x : Nat) : (s.setFree x).emitted = s.emitted := rfl
@[simp] theorem State.setFree_grammars (s : State) (x : Nat) : (s.setFree x).grammars = s.grammars := rfl
@[simp] theorem State.setFree_adapters (s : State) (x : Nat) : (s.setFree x).adapters = s.adapters := rfl
@[simp] theorem State.setFree_adapterLast (s : State) (x : Nat) : (s.setFree x).adapterLast = s.adapterLast := rfl
@[simp] theorem State.setFree_video (s : State) (x : Nat) : (s.setFree x).video = s.video := rfl
@[simp] theorem State.setFree_fw (s : State) (x : Nat) : (s.setFree x).fw = s.fw := rfl
@[simp] theorem State.setFree_ryc (s : State) (x : Nat) : (s.setFree x).ryc = s.ryc := rfl
@[simp] theorem State.setFree_net (s : State) (x : Nat) : (s.setFree x).net = s.net := rfl
@[simp] theorem State.setFree_ev (s : State) (x : Nat) : (s.setFree x).ev = s.ev := rfl
@[simp] theorem State.setFree_rel (s : State) (x : Nat) : (s.setFree x).rel = s.rel := rfl
@[simp] theorem State.setFree_sec (s : State) (x : Nat) : (s.setFree x).sec = s.sec := rfl
@[simp] theorem State.setFree_pow (s : State) (x : Nat) : (s.setFree x).pow = s.pow := rfl
@[simp] theorem State.setFree_store (s : State) (x : Nat) : (s.setFree x).store = s.store := rfl
@[simp] theorem State.setFree_od (s : State) (x : Nat) : (s.setFree x).od = s.od := rfl
@[simp] theorem State.setFree_d2dFails (s : State) (x : Nat) : (s.setFree x).d2dFails = s.d2dFails := rfl
@[simp] theorem State.setOut_pending (s : State) (x : List Output) : (s.setOut x).pending = s.pending := rfl
@[simp] theorem State.setOut_free (s : State) (x : List Output) : (s.setOut x).free = s.free := rfl
@[simp] theorem State.setOut_out (s : State) (x : List Output) : (s.setOut x).out = x := rfl
@[simp] theorem State.setOut_time (s : State) (x : List Output) : (s.setOut x).time = s.time := rfl
@[simp] theorem State.setOut_tray (s : State) (x : List Output) : (s.setOut x).tray = s.tray := rfl
@[simp] theorem State.setOut_mode (s : State) (x : List Output) : (s.setOut x).mode = s.mode := rfl
@[simp] theorem State.setOut_idle (s : State) (x : List Output) : (s.setOut x).idle = s.idle := rfl
@[simp] theorem State.setOut_entry (s : State) (x : List Output) : (s.setOut x).entry = s.entry := rfl
@[simp] theorem State.setOut_leftMode (s : State) (x : List Output) : (s.setOut x).leftMode = s.leftMode := rfl
@[simp] theorem State.setOut_wakeHeld (s : State) (x : List Output) : (s.setOut x).wakeHeld = s.wakeHeld := rfl
@[simp] theorem State.setOut_westPrimary (s : State) (x : List Output) : (s.setOut x).westPrimary = s.westPrimary := rfl
@[simp] theorem State.setOut_noBoot (s : State) (x : List Output) : (s.setOut x).noBoot = s.noBoot := rfl
@[simp] theorem State.setOut_rst (s : State) (x : List Output) : (s.setOut x).rst = s.rst := rfl
@[simp] theorem State.setOut_cores (s : State) (x : List Output) : (s.setOut x).cores = s.cores := rfl
@[simp] theorem State.setOut_queues (s : State) (x : List Output) : (s.setOut x).queues = s.queues := rfl
@[simp] theorem State.setOut_queueZero (s : State) (x : List Output) : (s.setOut x).queueZero = s.queueZero := rfl
@[simp] theorem State.setOut_sems (s : State) (x : List Output) : (s.setOut x).sems = s.sems := rfl
@[simp] theorem State.setOut_semWait (s : State) (x : List Output) : (s.setOut x).semWait = s.semWait := rfl
@[simp] theorem State.setOut_dram (s : State) (x : List Output) : (s.setOut x).dram = s.dram := rfl
@[simp] theorem State.setOut_upsets (s : State) (x : List Output) : (s.setOut x).upsets = s.upsets := rfl
@[simp] theorem State.setOut_spadUpsets (s : State) (x : List Output) : (s.setOut x).spadUpsets = s.spadUpsets := rfl
@[simp] theorem State.setOut_ecc (s : State) (x : List Output) : (s.setOut x).ecc = s.ecc := rfl
@[simp] theorem State.setOut_modKey (s : State) (x : List Output) : (s.setOut x).modKey = s.modKey := rfl
@[simp] theorem State.setOut_rotation (s : State) (x : List Output) : (s.setOut x).rotation = s.rotation := rfl
@[simp] theorem State.setOut_migr (s : State) (x : List Output) : (s.setOut x).migr = s.migr := rfl
@[simp] theorem State.setOut_migrQueue (s : State) (x : List Output) : (s.setOut x).migrQueue = s.migrQueue := rfl
@[simp] theorem State.setOut_pageMaps (s : State) (x : List Output) : (s.setOut x).pageMaps = s.pageMaps := rfl
@[simp] theorem State.setOut_tlb (s : State) (x : List Output) : (s.setOut x).tlb = s.tlb := rfl
@[simp] theorem State.setOut_kvMaps (s : State) (x : List Output) : (s.setOut x).kvMaps = s.kvMaps := rfl
@[simp] theorem State.setOut_kvTlb (s : State) (x : List Output) : (s.setOut x).kvTlb = s.kvTlb := rfl
@[simp] theorem State.setOut_kvDirty (s : State) (x : List Output) : (s.setOut x).kvDirty = s.kvDirty := rfl
@[simp] theorem State.setOut_shared (s : State) (x : List Output) : (s.setOut x).shared = s.shared := rfl
@[simp] theorem State.setOut_withdrawn (s : State) (x : List Output) : (s.setOut x).withdrawn = s.withdrawn := rfl
@[simp] theorem State.setOut_modMem (s : State) (x : List Output) : (s.setOut x).modMem = s.modMem := rfl
@[simp] theorem State.setOut_parts (s : State) (x : List Output) : (s.setOut x).parts = s.parts := rfl
@[simp] theorem State.setOut_park (s : State) (x : List Output) : (s.setOut x).park = s.park := rfl
@[simp] theorem State.setOut_sess (s : State) (x : List Output) : (s.setOut x).sess = s.sess := rfl
@[simp] theorem State.setOut_emitted (s : State) (x : List Output) : (s.setOut x).emitted = s.emitted := rfl
@[simp] theorem State.setOut_grammars (s : State) (x : List Output) : (s.setOut x).grammars = s.grammars := rfl
@[simp] theorem State.setOut_adapters (s : State) (x : List Output) : (s.setOut x).adapters = s.adapters := rfl
@[simp] theorem State.setOut_adapterLast (s : State) (x : List Output) : (s.setOut x).adapterLast = s.adapterLast := rfl
@[simp] theorem State.setOut_video (s : State) (x : List Output) : (s.setOut x).video = s.video := rfl
@[simp] theorem State.setOut_fw (s : State) (x : List Output) : (s.setOut x).fw = s.fw := rfl
@[simp] theorem State.setOut_ryc (s : State) (x : List Output) : (s.setOut x).ryc = s.ryc := rfl
@[simp] theorem State.setOut_net (s : State) (x : List Output) : (s.setOut x).net = s.net := rfl
@[simp] theorem State.setOut_ev (s : State) (x : List Output) : (s.setOut x).ev = s.ev := rfl
@[simp] theorem State.setOut_rel (s : State) (x : List Output) : (s.setOut x).rel = s.rel := rfl
@[simp] theorem State.setOut_sec (s : State) (x : List Output) : (s.setOut x).sec = s.sec := rfl
@[simp] theorem State.setOut_pow (s : State) (x : List Output) : (s.setOut x).pow = s.pow := rfl
@[simp] theorem State.setOut_store (s : State) (x : List Output) : (s.setOut x).store = s.store := rfl
@[simp] theorem State.setOut_od (s : State) (x : List Output) : (s.setOut x).od = s.od := rfl
@[simp] theorem State.setOut_d2dFails (s : State) (x : List Output) : (s.setOut x).d2dFails = s.d2dFails := rfl
@[simp] theorem State.setTime_pending (s : State) (x : Time) : (s.setTime x).pending = s.pending := rfl
@[simp] theorem State.setTime_free (s : State) (x : Time) : (s.setTime x).free = s.free := rfl
@[simp] theorem State.setTime_out (s : State) (x : Time) : (s.setTime x).out = s.out := rfl
@[simp] theorem State.setTime_time (s : State) (x : Time) : (s.setTime x).time = x := rfl
@[simp] theorem State.setTime_tray (s : State) (x : Time) : (s.setTime x).tray = s.tray := rfl
@[simp] theorem State.setTime_mode (s : State) (x : Time) : (s.setTime x).mode = s.mode := rfl
@[simp] theorem State.setTime_idle (s : State) (x : Time) : (s.setTime x).idle = s.idle := rfl
@[simp] theorem State.setTime_entry (s : State) (x : Time) : (s.setTime x).entry = s.entry := rfl
@[simp] theorem State.setTime_leftMode (s : State) (x : Time) : (s.setTime x).leftMode = s.leftMode := rfl
@[simp] theorem State.setTime_wakeHeld (s : State) (x : Time) : (s.setTime x).wakeHeld = s.wakeHeld := rfl
@[simp] theorem State.setTime_westPrimary (s : State) (x : Time) : (s.setTime x).westPrimary = s.westPrimary := rfl
@[simp] theorem State.setTime_noBoot (s : State) (x : Time) : (s.setTime x).noBoot = s.noBoot := rfl
@[simp] theorem State.setTime_rst (s : State) (x : Time) : (s.setTime x).rst = s.rst := rfl
@[simp] theorem State.setTime_cores (s : State) (x : Time) : (s.setTime x).cores = s.cores := rfl
@[simp] theorem State.setTime_queues (s : State) (x : Time) : (s.setTime x).queues = s.queues := rfl
@[simp] theorem State.setTime_queueZero (s : State) (x : Time) : (s.setTime x).queueZero = s.queueZero := rfl
@[simp] theorem State.setTime_sems (s : State) (x : Time) : (s.setTime x).sems = s.sems := rfl
@[simp] theorem State.setTime_semWait (s : State) (x : Time) : (s.setTime x).semWait = s.semWait := rfl
@[simp] theorem State.setTime_dram (s : State) (x : Time) : (s.setTime x).dram = s.dram := rfl
@[simp] theorem State.setTime_upsets (s : State) (x : Time) : (s.setTime x).upsets = s.upsets := rfl
@[simp] theorem State.setTime_spadUpsets (s : State) (x : Time) : (s.setTime x).spadUpsets = s.spadUpsets := rfl
@[simp] theorem State.setTime_ecc (s : State) (x : Time) : (s.setTime x).ecc = s.ecc := rfl
@[simp] theorem State.setTime_modKey (s : State) (x : Time) : (s.setTime x).modKey = s.modKey := rfl
@[simp] theorem State.setTime_rotation (s : State) (x : Time) : (s.setTime x).rotation = s.rotation := rfl
@[simp] theorem State.setTime_migr (s : State) (x : Time) : (s.setTime x).migr = s.migr := rfl
@[simp] theorem State.setTime_migrQueue (s : State) (x : Time) : (s.setTime x).migrQueue = s.migrQueue := rfl
@[simp] theorem State.setTime_pageMaps (s : State) (x : Time) : (s.setTime x).pageMaps = s.pageMaps := rfl
@[simp] theorem State.setTime_tlb (s : State) (x : Time) : (s.setTime x).tlb = s.tlb := rfl
@[simp] theorem State.setTime_kvMaps (s : State) (x : Time) : (s.setTime x).kvMaps = s.kvMaps := rfl
@[simp] theorem State.setTime_kvTlb (s : State) (x : Time) : (s.setTime x).kvTlb = s.kvTlb := rfl
@[simp] theorem State.setTime_kvDirty (s : State) (x : Time) : (s.setTime x).kvDirty = s.kvDirty := rfl
@[simp] theorem State.setTime_shared (s : State) (x : Time) : (s.setTime x).shared = s.shared := rfl
@[simp] theorem State.setTime_withdrawn (s : State) (x : Time) : (s.setTime x).withdrawn = s.withdrawn := rfl
@[simp] theorem State.setTime_modMem (s : State) (x : Time) : (s.setTime x).modMem = s.modMem := rfl
@[simp] theorem State.setTime_parts (s : State) (x : Time) : (s.setTime x).parts = s.parts := rfl
@[simp] theorem State.setTime_park (s : State) (x : Time) : (s.setTime x).park = s.park := rfl
@[simp] theorem State.setTime_sess (s : State) (x : Time) : (s.setTime x).sess = s.sess := rfl
@[simp] theorem State.setTime_emitted (s : State) (x : Time) : (s.setTime x).emitted = s.emitted := rfl
@[simp] theorem State.setTime_grammars (s : State) (x : Time) : (s.setTime x).grammars = s.grammars := rfl
@[simp] theorem State.setTime_adapters (s : State) (x : Time) : (s.setTime x).adapters = s.adapters := rfl
@[simp] theorem State.setTime_adapterLast (s : State) (x : Time) : (s.setTime x).adapterLast = s.adapterLast := rfl
@[simp] theorem State.setTime_video (s : State) (x : Time) : (s.setTime x).video = s.video := rfl
@[simp] theorem State.setTime_fw (s : State) (x : Time) : (s.setTime x).fw = s.fw := rfl
@[simp] theorem State.setTime_ryc (s : State) (x : Time) : (s.setTime x).ryc = s.ryc := rfl
@[simp] theorem State.setTime_net (s : State) (x : Time) : (s.setTime x).net = s.net := rfl
@[simp] theorem State.setTime_ev (s : State) (x : Time) : (s.setTime x).ev = s.ev := rfl
@[simp] theorem State.setTime_rel (s : State) (x : Time) : (s.setTime x).rel = s.rel := rfl
@[simp] theorem State.setTime_sec (s : State) (x : Time) : (s.setTime x).sec = s.sec := rfl
@[simp] theorem State.setTime_pow (s : State) (x : Time) : (s.setTime x).pow = s.pow := rfl
@[simp] theorem State.setTime_store (s : State) (x : Time) : (s.setTime x).store = s.store := rfl
@[simp] theorem State.setTime_od (s : State) (x : Time) : (s.setTime x).od = s.od := rfl
@[simp] theorem State.setTime_d2dFails (s : State) (x : Time) : (s.setTime x).d2dFails = s.d2dFails := rfl
@[simp] theorem State.setTray_pending (s : State) (x : Tray) : (s.setTray x).pending = s.pending := rfl
@[simp] theorem State.setTray_free (s : State) (x : Tray) : (s.setTray x).free = s.free := rfl
@[simp] theorem State.setTray_out (s : State) (x : Tray) : (s.setTray x).out = s.out := rfl
@[simp] theorem State.setTray_time (s : State) (x : Tray) : (s.setTray x).time = s.time := rfl
@[simp] theorem State.setTray_tray (s : State) (x : Tray) : (s.setTray x).tray = x := rfl
@[simp] theorem State.setTray_mode (s : State) (x : Tray) : (s.setTray x).mode = s.mode := rfl
@[simp] theorem State.setTray_idle (s : State) (x : Tray) : (s.setTray x).idle = s.idle := rfl
@[simp] theorem State.setTray_entry (s : State) (x : Tray) : (s.setTray x).entry = s.entry := rfl
@[simp] theorem State.setTray_leftMode (s : State) (x : Tray) : (s.setTray x).leftMode = s.leftMode := rfl
@[simp] theorem State.setTray_wakeHeld (s : State) (x : Tray) : (s.setTray x).wakeHeld = s.wakeHeld := rfl
@[simp] theorem State.setTray_westPrimary (s : State) (x : Tray) : (s.setTray x).westPrimary = s.westPrimary := rfl
@[simp] theorem State.setTray_noBoot (s : State) (x : Tray) : (s.setTray x).noBoot = s.noBoot := rfl
@[simp] theorem State.setTray_rst (s : State) (x : Tray) : (s.setTray x).rst = s.rst := rfl
@[simp] theorem State.setTray_cores (s : State) (x : Tray) : (s.setTray x).cores = s.cores := rfl
@[simp] theorem State.setTray_queues (s : State) (x : Tray) : (s.setTray x).queues = s.queues := rfl
@[simp] theorem State.setTray_queueZero (s : State) (x : Tray) : (s.setTray x).queueZero = s.queueZero := rfl
@[simp] theorem State.setTray_sems (s : State) (x : Tray) : (s.setTray x).sems = s.sems := rfl
@[simp] theorem State.setTray_semWait (s : State) (x : Tray) : (s.setTray x).semWait = s.semWait := rfl
@[simp] theorem State.setTray_dram (s : State) (x : Tray) : (s.setTray x).dram = s.dram := rfl
@[simp] theorem State.setTray_upsets (s : State) (x : Tray) : (s.setTray x).upsets = s.upsets := rfl
@[simp] theorem State.setTray_spadUpsets (s : State) (x : Tray) : (s.setTray x).spadUpsets = s.spadUpsets := rfl
@[simp] theorem State.setTray_ecc (s : State) (x : Tray) : (s.setTray x).ecc = s.ecc := rfl
@[simp] theorem State.setTray_modKey (s : State) (x : Tray) : (s.setTray x).modKey = s.modKey := rfl
@[simp] theorem State.setTray_rotation (s : State) (x : Tray) : (s.setTray x).rotation = s.rotation := rfl
@[simp] theorem State.setTray_migr (s : State) (x : Tray) : (s.setTray x).migr = s.migr := rfl
@[simp] theorem State.setTray_migrQueue (s : State) (x : Tray) : (s.setTray x).migrQueue = s.migrQueue := rfl
@[simp] theorem State.setTray_pageMaps (s : State) (x : Tray) : (s.setTray x).pageMaps = s.pageMaps := rfl
@[simp] theorem State.setTray_tlb (s : State) (x : Tray) : (s.setTray x).tlb = s.tlb := rfl
@[simp] theorem State.setTray_kvMaps (s : State) (x : Tray) : (s.setTray x).kvMaps = s.kvMaps := rfl
@[simp] theorem State.setTray_kvTlb (s : State) (x : Tray) : (s.setTray x).kvTlb = s.kvTlb := rfl
@[simp] theorem State.setTray_kvDirty (s : State) (x : Tray) : (s.setTray x).kvDirty = s.kvDirty := rfl
@[simp] theorem State.setTray_shared (s : State) (x : Tray) : (s.setTray x).shared = s.shared := rfl
@[simp] theorem State.setTray_withdrawn (s : State) (x : Tray) : (s.setTray x).withdrawn = s.withdrawn := rfl
@[simp] theorem State.setTray_modMem (s : State) (x : Tray) : (s.setTray x).modMem = s.modMem := rfl
@[simp] theorem State.setTray_parts (s : State) (x : Tray) : (s.setTray x).parts = s.parts := rfl
@[simp] theorem State.setTray_park (s : State) (x : Tray) : (s.setTray x).park = s.park := rfl
@[simp] theorem State.setTray_sess (s : State) (x : Tray) : (s.setTray x).sess = s.sess := rfl
@[simp] theorem State.setTray_emitted (s : State) (x : Tray) : (s.setTray x).emitted = s.emitted := rfl
@[simp] theorem State.setTray_grammars (s : State) (x : Tray) : (s.setTray x).grammars = s.grammars := rfl
@[simp] theorem State.setTray_adapters (s : State) (x : Tray) : (s.setTray x).adapters = s.adapters := rfl
@[simp] theorem State.setTray_adapterLast (s : State) (x : Tray) : (s.setTray x).adapterLast = s.adapterLast := rfl
@[simp] theorem State.setTray_video (s : State) (x : Tray) : (s.setTray x).video = s.video := rfl
@[simp] theorem State.setTray_fw (s : State) (x : Tray) : (s.setTray x).fw = s.fw := rfl
@[simp] theorem State.setTray_ryc (s : State) (x : Tray) : (s.setTray x).ryc = s.ryc := rfl
@[simp] theorem State.setTray_net (s : State) (x : Tray) : (s.setTray x).net = s.net := rfl
@[simp] theorem State.setTray_ev (s : State) (x : Tray) : (s.setTray x).ev = s.ev := rfl
@[simp] theorem State.setTray_rel (s : State) (x : Tray) : (s.setTray x).rel = s.rel := rfl
@[simp] theorem State.setTray_sec (s : State) (x : Tray) : (s.setTray x).sec = s.sec := rfl
@[simp] theorem State.setTray_pow (s : State) (x : Tray) : (s.setTray x).pow = s.pow := rfl
@[simp] theorem State.setTray_store (s : State) (x : Tray) : (s.setTray x).store = s.store := rfl
@[simp] theorem State.setTray_od (s : State) (x : Tray) : (s.setTray x).od = s.od := rfl
@[simp] theorem State.setTray_d2dFails (s : State) (x : Tray) : (s.setTray x).d2dFails = s.d2dFails := rfl
@[simp] theorem State.setMode_pending (s : State) (x : Mode) : (s.setMode x).pending = s.pending := rfl
@[simp] theorem State.setMode_free (s : State) (x : Mode) : (s.setMode x).free = s.free := rfl
@[simp] theorem State.setMode_out (s : State) (x : Mode) : (s.setMode x).out = s.out := rfl
@[simp] theorem State.setMode_time (s : State) (x : Mode) : (s.setMode x).time = s.time := rfl
@[simp] theorem State.setMode_tray (s : State) (x : Mode) : (s.setMode x).tray = s.tray := rfl
@[simp] theorem State.setMode_mode (s : State) (x : Mode) : (s.setMode x).mode = x := rfl
@[simp] theorem State.setMode_idle (s : State) (x : Mode) : (s.setMode x).idle = s.idle := rfl
@[simp] theorem State.setMode_entry (s : State) (x : Mode) : (s.setMode x).entry = s.entry := rfl
@[simp] theorem State.setMode_leftMode (s : State) (x : Mode) : (s.setMode x).leftMode = s.leftMode := rfl
@[simp] theorem State.setMode_wakeHeld (s : State) (x : Mode) : (s.setMode x).wakeHeld = s.wakeHeld := rfl
@[simp] theorem State.setMode_westPrimary (s : State) (x : Mode) : (s.setMode x).westPrimary = s.westPrimary := rfl
@[simp] theorem State.setMode_noBoot (s : State) (x : Mode) : (s.setMode x).noBoot = s.noBoot := rfl
@[simp] theorem State.setMode_rst (s : State) (x : Mode) : (s.setMode x).rst = s.rst := rfl
@[simp] theorem State.setMode_cores (s : State) (x : Mode) : (s.setMode x).cores = s.cores := rfl
@[simp] theorem State.setMode_queues (s : State) (x : Mode) : (s.setMode x).queues = s.queues := rfl
@[simp] theorem State.setMode_queueZero (s : State) (x : Mode) : (s.setMode x).queueZero = s.queueZero := rfl
@[simp] theorem State.setMode_sems (s : State) (x : Mode) : (s.setMode x).sems = s.sems := rfl
@[simp] theorem State.setMode_semWait (s : State) (x : Mode) : (s.setMode x).semWait = s.semWait := rfl
@[simp] theorem State.setMode_dram (s : State) (x : Mode) : (s.setMode x).dram = s.dram := rfl
@[simp] theorem State.setMode_upsets (s : State) (x : Mode) : (s.setMode x).upsets = s.upsets := rfl
@[simp] theorem State.setMode_spadUpsets (s : State) (x : Mode) : (s.setMode x).spadUpsets = s.spadUpsets := rfl
@[simp] theorem State.setMode_ecc (s : State) (x : Mode) : (s.setMode x).ecc = s.ecc := rfl
@[simp] theorem State.setMode_modKey (s : State) (x : Mode) : (s.setMode x).modKey = s.modKey := rfl
@[simp] theorem State.setMode_rotation (s : State) (x : Mode) : (s.setMode x).rotation = s.rotation := rfl
@[simp] theorem State.setMode_migr (s : State) (x : Mode) : (s.setMode x).migr = s.migr := rfl
@[simp] theorem State.setMode_migrQueue (s : State) (x : Mode) : (s.setMode x).migrQueue = s.migrQueue := rfl
@[simp] theorem State.setMode_pageMaps (s : State) (x : Mode) : (s.setMode x).pageMaps = s.pageMaps := rfl
@[simp] theorem State.setMode_tlb (s : State) (x : Mode) : (s.setMode x).tlb = s.tlb := rfl
@[simp] theorem State.setMode_kvMaps (s : State) (x : Mode) : (s.setMode x).kvMaps = s.kvMaps := rfl
@[simp] theorem State.setMode_kvTlb (s : State) (x : Mode) : (s.setMode x).kvTlb = s.kvTlb := rfl
@[simp] theorem State.setMode_kvDirty (s : State) (x : Mode) : (s.setMode x).kvDirty = s.kvDirty := rfl
@[simp] theorem State.setMode_shared (s : State) (x : Mode) : (s.setMode x).shared = s.shared := rfl
@[simp] theorem State.setMode_withdrawn (s : State) (x : Mode) : (s.setMode x).withdrawn = s.withdrawn := rfl
@[simp] theorem State.setMode_modMem (s : State) (x : Mode) : (s.setMode x).modMem = s.modMem := rfl
@[simp] theorem State.setMode_parts (s : State) (x : Mode) : (s.setMode x).parts = s.parts := rfl
@[simp] theorem State.setMode_park (s : State) (x : Mode) : (s.setMode x).park = s.park := rfl
@[simp] theorem State.setMode_sess (s : State) (x : Mode) : (s.setMode x).sess = s.sess := rfl
@[simp] theorem State.setMode_emitted (s : State) (x : Mode) : (s.setMode x).emitted = s.emitted := rfl
@[simp] theorem State.setMode_grammars (s : State) (x : Mode) : (s.setMode x).grammars = s.grammars := rfl
@[simp] theorem State.setMode_adapters (s : State) (x : Mode) : (s.setMode x).adapters = s.adapters := rfl
@[simp] theorem State.setMode_adapterLast (s : State) (x : Mode) : (s.setMode x).adapterLast = s.adapterLast := rfl
@[simp] theorem State.setMode_video (s : State) (x : Mode) : (s.setMode x).video = s.video := rfl
@[simp] theorem State.setMode_fw (s : State) (x : Mode) : (s.setMode x).fw = s.fw := rfl
@[simp] theorem State.setMode_ryc (s : State) (x : Mode) : (s.setMode x).ryc = s.ryc := rfl
@[simp] theorem State.setMode_net (s : State) (x : Mode) : (s.setMode x).net = s.net := rfl
@[simp] theorem State.setMode_ev (s : State) (x : Mode) : (s.setMode x).ev = s.ev := rfl
@[simp] theorem State.setMode_rel (s : State) (x : Mode) : (s.setMode x).rel = s.rel := rfl
@[simp] theorem State.setMode_sec (s : State) (x : Mode) : (s.setMode x).sec = s.sec := rfl
@[simp] theorem State.setMode_pow (s : State) (x : Mode) : (s.setMode x).pow = s.pow := rfl
@[simp] theorem State.setMode_store (s : State) (x : Mode) : (s.setMode x).store = s.store := rfl
@[simp] theorem State.setMode_od (s : State) (x : Mode) : (s.setMode x).od = s.od := rfl
@[simp] theorem State.setMode_d2dFails (s : State) (x : Mode) : (s.setMode x).d2dFails = s.d2dFails := rfl
@[simp] theorem State.setIdle_pending (s : State) (x : Bool) : (s.setIdle x).pending = s.pending := rfl
@[simp] theorem State.setIdle_free (s : State) (x : Bool) : (s.setIdle x).free = s.free := rfl
@[simp] theorem State.setIdle_out (s : State) (x : Bool) : (s.setIdle x).out = s.out := rfl
@[simp] theorem State.setIdle_time (s : State) (x : Bool) : (s.setIdle x).time = s.time := rfl
@[simp] theorem State.setIdle_tray (s : State) (x : Bool) : (s.setIdle x).tray = s.tray := rfl
@[simp] theorem State.setIdle_mode (s : State) (x : Bool) : (s.setIdle x).mode = s.mode := rfl
@[simp] theorem State.setIdle_idle (s : State) (x : Bool) : (s.setIdle x).idle = x := rfl
@[simp] theorem State.setIdle_entry (s : State) (x : Bool) : (s.setIdle x).entry = s.entry := rfl
@[simp] theorem State.setIdle_leftMode (s : State) (x : Bool) : (s.setIdle x).leftMode = s.leftMode := rfl
@[simp] theorem State.setIdle_wakeHeld (s : State) (x : Bool) : (s.setIdle x).wakeHeld = s.wakeHeld := rfl
@[simp] theorem State.setIdle_westPrimary (s : State) (x : Bool) : (s.setIdle x).westPrimary = s.westPrimary := rfl
@[simp] theorem State.setIdle_noBoot (s : State) (x : Bool) : (s.setIdle x).noBoot = s.noBoot := rfl
@[simp] theorem State.setIdle_rst (s : State) (x : Bool) : (s.setIdle x).rst = s.rst := rfl
@[simp] theorem State.setIdle_cores (s : State) (x : Bool) : (s.setIdle x).cores = s.cores := rfl
@[simp] theorem State.setIdle_queues (s : State) (x : Bool) : (s.setIdle x).queues = s.queues := rfl
@[simp] theorem State.setIdle_queueZero (s : State) (x : Bool) : (s.setIdle x).queueZero = s.queueZero := rfl
@[simp] theorem State.setIdle_sems (s : State) (x : Bool) : (s.setIdle x).sems = s.sems := rfl
@[simp] theorem State.setIdle_semWait (s : State) (x : Bool) : (s.setIdle x).semWait = s.semWait := rfl
@[simp] theorem State.setIdle_dram (s : State) (x : Bool) : (s.setIdle x).dram = s.dram := rfl
@[simp] theorem State.setIdle_upsets (s : State) (x : Bool) : (s.setIdle x).upsets = s.upsets := rfl
@[simp] theorem State.setIdle_spadUpsets (s : State) (x : Bool) : (s.setIdle x).spadUpsets = s.spadUpsets := rfl
@[simp] theorem State.setIdle_ecc (s : State) (x : Bool) : (s.setIdle x).ecc = s.ecc := rfl
@[simp] theorem State.setIdle_modKey (s : State) (x : Bool) : (s.setIdle x).modKey = s.modKey := rfl
@[simp] theorem State.setIdle_rotation (s : State) (x : Bool) : (s.setIdle x).rotation = s.rotation := rfl
@[simp] theorem State.setIdle_migr (s : State) (x : Bool) : (s.setIdle x).migr = s.migr := rfl
@[simp] theorem State.setIdle_migrQueue (s : State) (x : Bool) : (s.setIdle x).migrQueue = s.migrQueue := rfl
@[simp] theorem State.setIdle_pageMaps (s : State) (x : Bool) : (s.setIdle x).pageMaps = s.pageMaps := rfl
@[simp] theorem State.setIdle_tlb (s : State) (x : Bool) : (s.setIdle x).tlb = s.tlb := rfl
@[simp] theorem State.setIdle_kvMaps (s : State) (x : Bool) : (s.setIdle x).kvMaps = s.kvMaps := rfl
@[simp] theorem State.setIdle_kvTlb (s : State) (x : Bool) : (s.setIdle x).kvTlb = s.kvTlb := rfl
@[simp] theorem State.setIdle_kvDirty (s : State) (x : Bool) : (s.setIdle x).kvDirty = s.kvDirty := rfl
@[simp] theorem State.setIdle_shared (s : State) (x : Bool) : (s.setIdle x).shared = s.shared := rfl
@[simp] theorem State.setIdle_withdrawn (s : State) (x : Bool) : (s.setIdle x).withdrawn = s.withdrawn := rfl
@[simp] theorem State.setIdle_modMem (s : State) (x : Bool) : (s.setIdle x).modMem = s.modMem := rfl
@[simp] theorem State.setIdle_parts (s : State) (x : Bool) : (s.setIdle x).parts = s.parts := rfl
@[simp] theorem State.setIdle_park (s : State) (x : Bool) : (s.setIdle x).park = s.park := rfl
@[simp] theorem State.setIdle_sess (s : State) (x : Bool) : (s.setIdle x).sess = s.sess := rfl
@[simp] theorem State.setIdle_emitted (s : State) (x : Bool) : (s.setIdle x).emitted = s.emitted := rfl
@[simp] theorem State.setIdle_grammars (s : State) (x : Bool) : (s.setIdle x).grammars = s.grammars := rfl
@[simp] theorem State.setIdle_adapters (s : State) (x : Bool) : (s.setIdle x).adapters = s.adapters := rfl
@[simp] theorem State.setIdle_adapterLast (s : State) (x : Bool) : (s.setIdle x).adapterLast = s.adapterLast := rfl
@[simp] theorem State.setIdle_video (s : State) (x : Bool) : (s.setIdle x).video = s.video := rfl
@[simp] theorem State.setIdle_fw (s : State) (x : Bool) : (s.setIdle x).fw = s.fw := rfl
@[simp] theorem State.setIdle_ryc (s : State) (x : Bool) : (s.setIdle x).ryc = s.ryc := rfl
@[simp] theorem State.setIdle_net (s : State) (x : Bool) : (s.setIdle x).net = s.net := rfl
@[simp] theorem State.setIdle_ev (s : State) (x : Bool) : (s.setIdle x).ev = s.ev := rfl
@[simp] theorem State.setIdle_rel (s : State) (x : Bool) : (s.setIdle x).rel = s.rel := rfl
@[simp] theorem State.setIdle_sec (s : State) (x : Bool) : (s.setIdle x).sec = s.sec := rfl
@[simp] theorem State.setIdle_pow (s : State) (x : Bool) : (s.setIdle x).pow = s.pow := rfl
@[simp] theorem State.setIdle_store (s : State) (x : Bool) : (s.setIdle x).store = s.store := rfl
@[simp] theorem State.setIdle_od (s : State) (x : Bool) : (s.setIdle x).od = s.od := rfl
@[simp] theorem State.setIdle_d2dFails (s : State) (x : Bool) : (s.setIdle x).d2dFails = s.d2dFails := rfl
@[simp] theorem State.setEntry_pending (s : State) (x : Option Entry) : (s.setEntry x).pending = s.pending := rfl
@[simp] theorem State.setEntry_free (s : State) (x : Option Entry) : (s.setEntry x).free = s.free := rfl
@[simp] theorem State.setEntry_out (s : State) (x : Option Entry) : (s.setEntry x).out = s.out := rfl
@[simp] theorem State.setEntry_time (s : State) (x : Option Entry) : (s.setEntry x).time = s.time := rfl
@[simp] theorem State.setEntry_tray (s : State) (x : Option Entry) : (s.setEntry x).tray = s.tray := rfl
@[simp] theorem State.setEntry_mode (s : State) (x : Option Entry) : (s.setEntry x).mode = s.mode := rfl
@[simp] theorem State.setEntry_idle (s : State) (x : Option Entry) : (s.setEntry x).idle = s.idle := rfl
@[simp] theorem State.setEntry_entry (s : State) (x : Option Entry) : (s.setEntry x).entry = x := rfl
@[simp] theorem State.setEntry_leftMode (s : State) (x : Option Entry) : (s.setEntry x).leftMode = s.leftMode := rfl
@[simp] theorem State.setEntry_wakeHeld (s : State) (x : Option Entry) : (s.setEntry x).wakeHeld = s.wakeHeld := rfl
@[simp] theorem State.setEntry_westPrimary (s : State) (x : Option Entry) : (s.setEntry x).westPrimary = s.westPrimary := rfl
@[simp] theorem State.setEntry_noBoot (s : State) (x : Option Entry) : (s.setEntry x).noBoot = s.noBoot := rfl
@[simp] theorem State.setEntry_rst (s : State) (x : Option Entry) : (s.setEntry x).rst = s.rst := rfl
@[simp] theorem State.setEntry_cores (s : State) (x : Option Entry) : (s.setEntry x).cores = s.cores := rfl
@[simp] theorem State.setEntry_queues (s : State) (x : Option Entry) : (s.setEntry x).queues = s.queues := rfl
@[simp] theorem State.setEntry_queueZero (s : State) (x : Option Entry) : (s.setEntry x).queueZero = s.queueZero := rfl
@[simp] theorem State.setEntry_sems (s : State) (x : Option Entry) : (s.setEntry x).sems = s.sems := rfl
@[simp] theorem State.setEntry_semWait (s : State) (x : Option Entry) : (s.setEntry x).semWait = s.semWait := rfl
@[simp] theorem State.setEntry_dram (s : State) (x : Option Entry) : (s.setEntry x).dram = s.dram := rfl
@[simp] theorem State.setEntry_upsets (s : State) (x : Option Entry) : (s.setEntry x).upsets = s.upsets := rfl
@[simp] theorem State.setEntry_spadUpsets (s : State) (x : Option Entry) : (s.setEntry x).spadUpsets = s.spadUpsets := rfl
@[simp] theorem State.setEntry_ecc (s : State) (x : Option Entry) : (s.setEntry x).ecc = s.ecc := rfl
@[simp] theorem State.setEntry_modKey (s : State) (x : Option Entry) : (s.setEntry x).modKey = s.modKey := rfl
@[simp] theorem State.setEntry_rotation (s : State) (x : Option Entry) : (s.setEntry x).rotation = s.rotation := rfl
@[simp] theorem State.setEntry_migr (s : State) (x : Option Entry) : (s.setEntry x).migr = s.migr := rfl
@[simp] theorem State.setEntry_migrQueue (s : State) (x : Option Entry) : (s.setEntry x).migrQueue = s.migrQueue := rfl
@[simp] theorem State.setEntry_pageMaps (s : State) (x : Option Entry) : (s.setEntry x).pageMaps = s.pageMaps := rfl
@[simp] theorem State.setEntry_tlb (s : State) (x : Option Entry) : (s.setEntry x).tlb = s.tlb := rfl
@[simp] theorem State.setEntry_kvMaps (s : State) (x : Option Entry) : (s.setEntry x).kvMaps = s.kvMaps := rfl
@[simp] theorem State.setEntry_kvTlb (s : State) (x : Option Entry) : (s.setEntry x).kvTlb = s.kvTlb := rfl
@[simp] theorem State.setEntry_kvDirty (s : State) (x : Option Entry) : (s.setEntry x).kvDirty = s.kvDirty := rfl
@[simp] theorem State.setEntry_shared (s : State) (x : Option Entry) : (s.setEntry x).shared = s.shared := rfl
@[simp] theorem State.setEntry_withdrawn (s : State) (x : Option Entry) : (s.setEntry x).withdrawn = s.withdrawn := rfl
@[simp] theorem State.setEntry_modMem (s : State) (x : Option Entry) : (s.setEntry x).modMem = s.modMem := rfl
@[simp] theorem State.setEntry_parts (s : State) (x : Option Entry) : (s.setEntry x).parts = s.parts := rfl
@[simp] theorem State.setEntry_park (s : State) (x : Option Entry) : (s.setEntry x).park = s.park := rfl
@[simp] theorem State.setEntry_sess (s : State) (x : Option Entry) : (s.setEntry x).sess = s.sess := rfl
@[simp] theorem State.setEntry_emitted (s : State) (x : Option Entry) : (s.setEntry x).emitted = s.emitted := rfl
@[simp] theorem State.setEntry_grammars (s : State) (x : Option Entry) : (s.setEntry x).grammars = s.grammars := rfl
@[simp] theorem State.setEntry_adapters (s : State) (x : Option Entry) : (s.setEntry x).adapters = s.adapters := rfl
@[simp] theorem State.setEntry_adapterLast (s : State) (x : Option Entry) : (s.setEntry x).adapterLast = s.adapterLast := rfl
@[simp] theorem State.setEntry_video (s : State) (x : Option Entry) : (s.setEntry x).video = s.video := rfl
@[simp] theorem State.setEntry_fw (s : State) (x : Option Entry) : (s.setEntry x).fw = s.fw := rfl
@[simp] theorem State.setEntry_ryc (s : State) (x : Option Entry) : (s.setEntry x).ryc = s.ryc := rfl
@[simp] theorem State.setEntry_net (s : State) (x : Option Entry) : (s.setEntry x).net = s.net := rfl
@[simp] theorem State.setEntry_ev (s : State) (x : Option Entry) : (s.setEntry x).ev = s.ev := rfl
@[simp] theorem State.setEntry_rel (s : State) (x : Option Entry) : (s.setEntry x).rel = s.rel := rfl
@[simp] theorem State.setEntry_sec (s : State) (x : Option Entry) : (s.setEntry x).sec = s.sec := rfl
@[simp] theorem State.setEntry_pow (s : State) (x : Option Entry) : (s.setEntry x).pow = s.pow := rfl
@[simp] theorem State.setEntry_store (s : State) (x : Option Entry) : (s.setEntry x).store = s.store := rfl
@[simp] theorem State.setEntry_od (s : State) (x : Option Entry) : (s.setEntry x).od = s.od := rfl
@[simp] theorem State.setEntry_d2dFails (s : State) (x : Option Entry) : (s.setEntry x).d2dFails = s.d2dFails := rfl
@[simp] theorem State.setLeftMode_pending (s : State) (x : Mode) : (s.setLeftMode x).pending = s.pending := rfl
@[simp] theorem State.setLeftMode_free (s : State) (x : Mode) : (s.setLeftMode x).free = s.free := rfl
@[simp] theorem State.setLeftMode_out (s : State) (x : Mode) : (s.setLeftMode x).out = s.out := rfl
@[simp] theorem State.setLeftMode_time (s : State) (x : Mode) : (s.setLeftMode x).time = s.time := rfl
@[simp] theorem State.setLeftMode_tray (s : State) (x : Mode) : (s.setLeftMode x).tray = s.tray := rfl
@[simp] theorem State.setLeftMode_mode (s : State) (x : Mode) : (s.setLeftMode x).mode = s.mode := rfl
@[simp] theorem State.setLeftMode_idle (s : State) (x : Mode) : (s.setLeftMode x).idle = s.idle := rfl
@[simp] theorem State.setLeftMode_entry (s : State) (x : Mode) : (s.setLeftMode x).entry = s.entry := rfl
@[simp] theorem State.setLeftMode_leftMode (s : State) (x : Mode) : (s.setLeftMode x).leftMode = x := rfl
@[simp] theorem State.setLeftMode_wakeHeld (s : State) (x : Mode) : (s.setLeftMode x).wakeHeld = s.wakeHeld := rfl
@[simp] theorem State.setLeftMode_westPrimary (s : State) (x : Mode) : (s.setLeftMode x).westPrimary = s.westPrimary := rfl
@[simp] theorem State.setLeftMode_noBoot (s : State) (x : Mode) : (s.setLeftMode x).noBoot = s.noBoot := rfl
@[simp] theorem State.setLeftMode_rst (s : State) (x : Mode) : (s.setLeftMode x).rst = s.rst := rfl
@[simp] theorem State.setLeftMode_cores (s : State) (x : Mode) : (s.setLeftMode x).cores = s.cores := rfl
@[simp] theorem State.setLeftMode_queues (s : State) (x : Mode) : (s.setLeftMode x).queues = s.queues := rfl
@[simp] theorem State.setLeftMode_queueZero (s : State) (x : Mode) : (s.setLeftMode x).queueZero = s.queueZero := rfl
@[simp] theorem State.setLeftMode_sems (s : State) (x : Mode) : (s.setLeftMode x).sems = s.sems := rfl
@[simp] theorem State.setLeftMode_semWait (s : State) (x : Mode) : (s.setLeftMode x).semWait = s.semWait := rfl
@[simp] theorem State.setLeftMode_dram (s : State) (x : Mode) : (s.setLeftMode x).dram = s.dram := rfl
@[simp] theorem State.setLeftMode_upsets (s : State) (x : Mode) : (s.setLeftMode x).upsets = s.upsets := rfl
@[simp] theorem State.setLeftMode_spadUpsets (s : State) (x : Mode) : (s.setLeftMode x).spadUpsets = s.spadUpsets := rfl
@[simp] theorem State.setLeftMode_ecc (s : State) (x : Mode) : (s.setLeftMode x).ecc = s.ecc := rfl
@[simp] theorem State.setLeftMode_modKey (s : State) (x : Mode) : (s.setLeftMode x).modKey = s.modKey := rfl
@[simp] theorem State.setLeftMode_rotation (s : State) (x : Mode) : (s.setLeftMode x).rotation = s.rotation := rfl
@[simp] theorem State.setLeftMode_migr (s : State) (x : Mode) : (s.setLeftMode x).migr = s.migr := rfl
@[simp] theorem State.setLeftMode_migrQueue (s : State) (x : Mode) : (s.setLeftMode x).migrQueue = s.migrQueue := rfl
@[simp] theorem State.setLeftMode_pageMaps (s : State) (x : Mode) : (s.setLeftMode x).pageMaps = s.pageMaps := rfl
@[simp] theorem State.setLeftMode_tlb (s : State) (x : Mode) : (s.setLeftMode x).tlb = s.tlb := rfl
@[simp] theorem State.setLeftMode_kvMaps (s : State) (x : Mode) : (s.setLeftMode x).kvMaps = s.kvMaps := rfl
@[simp] theorem State.setLeftMode_kvTlb (s : State) (x : Mode) : (s.setLeftMode x).kvTlb = s.kvTlb := rfl
@[simp] theorem State.setLeftMode_kvDirty (s : State) (x : Mode) : (s.setLeftMode x).kvDirty = s.kvDirty := rfl
@[simp] theorem State.setLeftMode_shared (s : State) (x : Mode) : (s.setLeftMode x).shared = s.shared := rfl
@[simp] theorem State.setLeftMode_withdrawn (s : State) (x : Mode) : (s.setLeftMode x).withdrawn = s.withdrawn := rfl
@[simp] theorem State.setLeftMode_modMem (s : State) (x : Mode) : (s.setLeftMode x).modMem = s.modMem := rfl
@[simp] theorem State.setLeftMode_parts (s : State) (x : Mode) : (s.setLeftMode x).parts = s.parts := rfl
@[simp] theorem State.setLeftMode_park (s : State) (x : Mode) : (s.setLeftMode x).park = s.park := rfl
@[simp] theorem State.setLeftMode_sess (s : State) (x : Mode) : (s.setLeftMode x).sess = s.sess := rfl
@[simp] theorem State.setLeftMode_emitted (s : State) (x : Mode) : (s.setLeftMode x).emitted = s.emitted := rfl
@[simp] theorem State.setLeftMode_grammars (s : State) (x : Mode) : (s.setLeftMode x).grammars = s.grammars := rfl
@[simp] theorem State.setLeftMode_adapters (s : State) (x : Mode) : (s.setLeftMode x).adapters = s.adapters := rfl
@[simp] theorem State.setLeftMode_adapterLast (s : State) (x : Mode) : (s.setLeftMode x).adapterLast = s.adapterLast := rfl
@[simp] theorem State.setLeftMode_video (s : State) (x : Mode) : (s.setLeftMode x).video = s.video := rfl
@[simp] theorem State.setLeftMode_fw (s : State) (x : Mode) : (s.setLeftMode x).fw = s.fw := rfl
@[simp] theorem State.setLeftMode_ryc (s : State) (x : Mode) : (s.setLeftMode x).ryc = s.ryc := rfl
@[simp] theorem State.setLeftMode_net (s : State) (x : Mode) : (s.setLeftMode x).net = s.net := rfl
@[simp] theorem State.setLeftMode_ev (s : State) (x : Mode) : (s.setLeftMode x).ev = s.ev := rfl
@[simp] theorem State.setLeftMode_rel (s : State) (x : Mode) : (s.setLeftMode x).rel = s.rel := rfl
@[simp] theorem State.setLeftMode_sec (s : State) (x : Mode) : (s.setLeftMode x).sec = s.sec := rfl
@[simp] theorem State.setLeftMode_pow (s : State) (x : Mode) : (s.setLeftMode x).pow = s.pow := rfl
@[simp] theorem State.setLeftMode_store (s : State) (x : Mode) : (s.setLeftMode x).store = s.store := rfl
@[simp] theorem State.setLeftMode_od (s : State) (x : Mode) : (s.setLeftMode x).od = s.od := rfl
@[simp] theorem State.setLeftMode_d2dFails (s : State) (x : Mode) : (s.setLeftMode x).d2dFails = s.d2dFails := rfl
@[simp] theorem State.setWakeHeld_pending (s : State) (x : Bool) : (s.setWakeHeld x).pending = s.pending := rfl
@[simp] theorem State.setWakeHeld_free (s : State) (x : Bool) : (s.setWakeHeld x).free = s.free := rfl
@[simp] theorem State.setWakeHeld_out (s : State) (x : Bool) : (s.setWakeHeld x).out = s.out := rfl
@[simp] theorem State.setWakeHeld_time (s : State) (x : Bool) : (s.setWakeHeld x).time = s.time := rfl
@[simp] theorem State.setWakeHeld_tray (s : State) (x : Bool) : (s.setWakeHeld x).tray = s.tray := rfl
@[simp] theorem State.setWakeHeld_mode (s : State) (x : Bool) : (s.setWakeHeld x).mode = s.mode := rfl
@[simp] theorem State.setWakeHeld_idle (s : State) (x : Bool) : (s.setWakeHeld x).idle = s.idle := rfl
@[simp] theorem State.setWakeHeld_entry (s : State) (x : Bool) : (s.setWakeHeld x).entry = s.entry := rfl
@[simp] theorem State.setWakeHeld_leftMode (s : State) (x : Bool) : (s.setWakeHeld x).leftMode = s.leftMode := rfl
@[simp] theorem State.setWakeHeld_wakeHeld (s : State) (x : Bool) : (s.setWakeHeld x).wakeHeld = x := rfl
@[simp] theorem State.setWakeHeld_westPrimary (s : State) (x : Bool) : (s.setWakeHeld x).westPrimary = s.westPrimary := rfl
@[simp] theorem State.setWakeHeld_noBoot (s : State) (x : Bool) : (s.setWakeHeld x).noBoot = s.noBoot := rfl
@[simp] theorem State.setWakeHeld_rst (s : State) (x : Bool) : (s.setWakeHeld x).rst = s.rst := rfl
@[simp] theorem State.setWakeHeld_cores (s : State) (x : Bool) : (s.setWakeHeld x).cores = s.cores := rfl
@[simp] theorem State.setWakeHeld_queues (s : State) (x : Bool) : (s.setWakeHeld x).queues = s.queues := rfl
@[simp] theorem State.setWakeHeld_queueZero (s : State) (x : Bool) : (s.setWakeHeld x).queueZero = s.queueZero := rfl
@[simp] theorem State.setWakeHeld_sems (s : State) (x : Bool) : (s.setWakeHeld x).sems = s.sems := rfl
@[simp] theorem State.setWakeHeld_semWait (s : State) (x : Bool) : (s.setWakeHeld x).semWait = s.semWait := rfl
@[simp] theorem State.setWakeHeld_dram (s : State) (x : Bool) : (s.setWakeHeld x).dram = s.dram := rfl
@[simp] theorem State.setWakeHeld_upsets (s : State) (x : Bool) : (s.setWakeHeld x).upsets = s.upsets := rfl
@[simp] theorem State.setWakeHeld_spadUpsets (s : State) (x : Bool) : (s.setWakeHeld x).spadUpsets = s.spadUpsets := rfl
@[simp] theorem State.setWakeHeld_ecc (s : State) (x : Bool) : (s.setWakeHeld x).ecc = s.ecc := rfl
@[simp] theorem State.setWakeHeld_modKey (s : State) (x : Bool) : (s.setWakeHeld x).modKey = s.modKey := rfl
@[simp] theorem State.setWakeHeld_rotation (s : State) (x : Bool) : (s.setWakeHeld x).rotation = s.rotation := rfl
@[simp] theorem State.setWakeHeld_migr (s : State) (x : Bool) : (s.setWakeHeld x).migr = s.migr := rfl
@[simp] theorem State.setWakeHeld_migrQueue (s : State) (x : Bool) : (s.setWakeHeld x).migrQueue = s.migrQueue := rfl
@[simp] theorem State.setWakeHeld_pageMaps (s : State) (x : Bool) : (s.setWakeHeld x).pageMaps = s.pageMaps := rfl
@[simp] theorem State.setWakeHeld_tlb (s : State) (x : Bool) : (s.setWakeHeld x).tlb = s.tlb := rfl
@[simp] theorem State.setWakeHeld_kvMaps (s : State) (x : Bool) : (s.setWakeHeld x).kvMaps = s.kvMaps := rfl
@[simp] theorem State.setWakeHeld_kvTlb (s : State) (x : Bool) : (s.setWakeHeld x).kvTlb = s.kvTlb := rfl
@[simp] theorem State.setWakeHeld_kvDirty (s : State) (x : Bool) : (s.setWakeHeld x).kvDirty = s.kvDirty := rfl
@[simp] theorem State.setWakeHeld_shared (s : State) (x : Bool) : (s.setWakeHeld x).shared = s.shared := rfl
@[simp] theorem State.setWakeHeld_withdrawn (s : State) (x : Bool) : (s.setWakeHeld x).withdrawn = s.withdrawn := rfl
@[simp] theorem State.setWakeHeld_modMem (s : State) (x : Bool) : (s.setWakeHeld x).modMem = s.modMem := rfl
@[simp] theorem State.setWakeHeld_parts (s : State) (x : Bool) : (s.setWakeHeld x).parts = s.parts := rfl
@[simp] theorem State.setWakeHeld_park (s : State) (x : Bool) : (s.setWakeHeld x).park = s.park := rfl
@[simp] theorem State.setWakeHeld_sess (s : State) (x : Bool) : (s.setWakeHeld x).sess = s.sess := rfl
@[simp] theorem State.setWakeHeld_emitted (s : State) (x : Bool) : (s.setWakeHeld x).emitted = s.emitted := rfl
@[simp] theorem State.setWakeHeld_grammars (s : State) (x : Bool) : (s.setWakeHeld x).grammars = s.grammars := rfl
@[simp] theorem State.setWakeHeld_adapters (s : State) (x : Bool) : (s.setWakeHeld x).adapters = s.adapters := rfl
@[simp] theorem State.setWakeHeld_adapterLast (s : State) (x : Bool) : (s.setWakeHeld x).adapterLast = s.adapterLast := rfl
@[simp] theorem State.setWakeHeld_video (s : State) (x : Bool) : (s.setWakeHeld x).video = s.video := rfl
@[simp] theorem State.setWakeHeld_fw (s : State) (x : Bool) : (s.setWakeHeld x).fw = s.fw := rfl
@[simp] theorem State.setWakeHeld_ryc (s : State) (x : Bool) : (s.setWakeHeld x).ryc = s.ryc := rfl
@[simp] theorem State.setWakeHeld_net (s : State) (x : Bool) : (s.setWakeHeld x).net = s.net := rfl
@[simp] theorem State.setWakeHeld_ev (s : State) (x : Bool) : (s.setWakeHeld x).ev = s.ev := rfl
@[simp] theorem State.setWakeHeld_rel (s : State) (x : Bool) : (s.setWakeHeld x).rel = s.rel := rfl
@[simp] theorem State.setWakeHeld_sec (s : State) (x : Bool) : (s.setWakeHeld x).sec = s.sec := rfl
@[simp] theorem State.setWakeHeld_pow (s : State) (x : Bool) : (s.setWakeHeld x).pow = s.pow := rfl
@[simp] theorem State.setWakeHeld_store (s : State) (x : Bool) : (s.setWakeHeld x).store = s.store := rfl
@[simp] theorem State.setWakeHeld_od (s : State) (x : Bool) : (s.setWakeHeld x).od = s.od := rfl
@[simp] theorem State.setWakeHeld_d2dFails (s : State) (x : Bool) : (s.setWakeHeld x).d2dFails = s.d2dFails := rfl
@[simp] theorem State.setWestPrimary_pending (s : State) (x : Bool) : (s.setWestPrimary x).pending = s.pending := rfl
@[simp] theorem State.setWestPrimary_free (s : State) (x : Bool) : (s.setWestPrimary x).free = s.free := rfl
@[simp] theorem State.setWestPrimary_out (s : State) (x : Bool) : (s.setWestPrimary x).out = s.out := rfl
@[simp] theorem State.setWestPrimary_time (s : State) (x : Bool) : (s.setWestPrimary x).time = s.time := rfl
@[simp] theorem State.setWestPrimary_tray (s : State) (x : Bool) : (s.setWestPrimary x).tray = s.tray := rfl
@[simp] theorem State.setWestPrimary_mode (s : State) (x : Bool) : (s.setWestPrimary x).mode = s.mode := rfl
@[simp] theorem State.setWestPrimary_idle (s : State) (x : Bool) : (s.setWestPrimary x).idle = s.idle := rfl
@[simp] theorem State.setWestPrimary_entry (s : State) (x : Bool) : (s.setWestPrimary x).entry = s.entry := rfl
@[simp] theorem State.setWestPrimary_leftMode (s : State) (x : Bool) : (s.setWestPrimary x).leftMode = s.leftMode := rfl
@[simp] theorem State.setWestPrimary_wakeHeld (s : State) (x : Bool) : (s.setWestPrimary x).wakeHeld = s.wakeHeld := rfl
@[simp] theorem State.setWestPrimary_westPrimary (s : State) (x : Bool) : (s.setWestPrimary x).westPrimary = x := rfl
@[simp] theorem State.setWestPrimary_noBoot (s : State) (x : Bool) : (s.setWestPrimary x).noBoot = s.noBoot := rfl
@[simp] theorem State.setWestPrimary_rst (s : State) (x : Bool) : (s.setWestPrimary x).rst = s.rst := rfl
@[simp] theorem State.setWestPrimary_cores (s : State) (x : Bool) : (s.setWestPrimary x).cores = s.cores := rfl
@[simp] theorem State.setWestPrimary_queues (s : State) (x : Bool) : (s.setWestPrimary x).queues = s.queues := rfl
@[simp] theorem State.setWestPrimary_queueZero (s : State) (x : Bool) : (s.setWestPrimary x).queueZero = s.queueZero := rfl
@[simp] theorem State.setWestPrimary_sems (s : State) (x : Bool) : (s.setWestPrimary x).sems = s.sems := rfl
@[simp] theorem State.setWestPrimary_semWait (s : State) (x : Bool) : (s.setWestPrimary x).semWait = s.semWait := rfl
@[simp] theorem State.setWestPrimary_dram (s : State) (x : Bool) : (s.setWestPrimary x).dram = s.dram := rfl
@[simp] theorem State.setWestPrimary_upsets (s : State) (x : Bool) : (s.setWestPrimary x).upsets = s.upsets := rfl
@[simp] theorem State.setWestPrimary_spadUpsets (s : State) (x : Bool) : (s.setWestPrimary x).spadUpsets = s.spadUpsets := rfl
@[simp] theorem State.setWestPrimary_ecc (s : State) (x : Bool) : (s.setWestPrimary x).ecc = s.ecc := rfl
@[simp] theorem State.setWestPrimary_modKey (s : State) (x : Bool) : (s.setWestPrimary x).modKey = s.modKey := rfl
@[simp] theorem State.setWestPrimary_rotation (s : State) (x : Bool) : (s.setWestPrimary x).rotation = s.rotation := rfl
@[simp] theorem State.setWestPrimary_migr (s : State) (x : Bool) : (s.setWestPrimary x).migr = s.migr := rfl
@[simp] theorem State.setWestPrimary_migrQueue (s : State) (x : Bool) : (s.setWestPrimary x).migrQueue = s.migrQueue := rfl
@[simp] theorem State.setWestPrimary_pageMaps (s : State) (x : Bool) : (s.setWestPrimary x).pageMaps = s.pageMaps := rfl
@[simp] theorem State.setWestPrimary_tlb (s : State) (x : Bool) : (s.setWestPrimary x).tlb = s.tlb := rfl
@[simp] theorem State.setWestPrimary_kvMaps (s : State) (x : Bool) : (s.setWestPrimary x).kvMaps = s.kvMaps := rfl
@[simp] theorem State.setWestPrimary_kvTlb (s : State) (x : Bool) : (s.setWestPrimary x).kvTlb = s.kvTlb := rfl
@[simp] theorem State.setWestPrimary_kvDirty (s : State) (x : Bool) : (s.setWestPrimary x).kvDirty = s.kvDirty := rfl
@[simp] theorem State.setWestPrimary_shared (s : State) (x : Bool) : (s.setWestPrimary x).shared = s.shared := rfl
@[simp] theorem State.setWestPrimary_withdrawn (s : State) (x : Bool) : (s.setWestPrimary x).withdrawn = s.withdrawn := rfl
@[simp] theorem State.setWestPrimary_modMem (s : State) (x : Bool) : (s.setWestPrimary x).modMem = s.modMem := rfl
@[simp] theorem State.setWestPrimary_parts (s : State) (x : Bool) : (s.setWestPrimary x).parts = s.parts := rfl
@[simp] theorem State.setWestPrimary_park (s : State) (x : Bool) : (s.setWestPrimary x).park = s.park := rfl
@[simp] theorem State.setWestPrimary_sess (s : State) (x : Bool) : (s.setWestPrimary x).sess = s.sess := rfl
@[simp] theorem State.setWestPrimary_emitted (s : State) (x : Bool) : (s.setWestPrimary x).emitted = s.emitted := rfl
@[simp] theorem State.setWestPrimary_grammars (s : State) (x : Bool) : (s.setWestPrimary x).grammars = s.grammars := rfl
@[simp] theorem State.setWestPrimary_adapters (s : State) (x : Bool) : (s.setWestPrimary x).adapters = s.adapters := rfl
@[simp] theorem State.setWestPrimary_adapterLast (s : State) (x : Bool) : (s.setWestPrimary x).adapterLast = s.adapterLast := rfl
@[simp] theorem State.setWestPrimary_video (s : State) (x : Bool) : (s.setWestPrimary x).video = s.video := rfl
@[simp] theorem State.setWestPrimary_fw (s : State) (x : Bool) : (s.setWestPrimary x).fw = s.fw := rfl
@[simp] theorem State.setWestPrimary_ryc (s : State) (x : Bool) : (s.setWestPrimary x).ryc = s.ryc := rfl
@[simp] theorem State.setWestPrimary_net (s : State) (x : Bool) : (s.setWestPrimary x).net = s.net := rfl
@[simp] theorem State.setWestPrimary_ev (s : State) (x : Bool) : (s.setWestPrimary x).ev = s.ev := rfl
@[simp] theorem State.setWestPrimary_rel (s : State) (x : Bool) : (s.setWestPrimary x).rel = s.rel := rfl
@[simp] theorem State.setWestPrimary_sec (s : State) (x : Bool) : (s.setWestPrimary x).sec = s.sec := rfl
@[simp] theorem State.setWestPrimary_pow (s : State) (x : Bool) : (s.setWestPrimary x).pow = s.pow := rfl
@[simp] theorem State.setWestPrimary_store (s : State) (x : Bool) : (s.setWestPrimary x).store = s.store := rfl
@[simp] theorem State.setWestPrimary_od (s : State) (x : Bool) : (s.setWestPrimary x).od = s.od := rfl
@[simp] theorem State.setWestPrimary_d2dFails (s : State) (x : Bool) : (s.setWestPrimary x).d2dFails = s.d2dFails := rfl
@[simp] theorem State.setNoBoot_pending (s : State) (x : Bool) : (s.setNoBoot x).pending = s.pending := rfl
@[simp] theorem State.setNoBoot_free (s : State) (x : Bool) : (s.setNoBoot x).free = s.free := rfl
@[simp] theorem State.setNoBoot_out (s : State) (x : Bool) : (s.setNoBoot x).out = s.out := rfl
@[simp] theorem State.setNoBoot_time (s : State) (x : Bool) : (s.setNoBoot x).time = s.time := rfl
@[simp] theorem State.setNoBoot_tray (s : State) (x : Bool) : (s.setNoBoot x).tray = s.tray := rfl
@[simp] theorem State.setNoBoot_mode (s : State) (x : Bool) : (s.setNoBoot x).mode = s.mode := rfl
@[simp] theorem State.setNoBoot_idle (s : State) (x : Bool) : (s.setNoBoot x).idle = s.idle := rfl
@[simp] theorem State.setNoBoot_entry (s : State) (x : Bool) : (s.setNoBoot x).entry = s.entry := rfl
@[simp] theorem State.setNoBoot_leftMode (s : State) (x : Bool) : (s.setNoBoot x).leftMode = s.leftMode := rfl
@[simp] theorem State.setNoBoot_wakeHeld (s : State) (x : Bool) : (s.setNoBoot x).wakeHeld = s.wakeHeld := rfl
@[simp] theorem State.setNoBoot_westPrimary (s : State) (x : Bool) : (s.setNoBoot x).westPrimary = s.westPrimary := rfl
@[simp] theorem State.setNoBoot_noBoot (s : State) (x : Bool) : (s.setNoBoot x).noBoot = x := rfl
@[simp] theorem State.setNoBoot_rst (s : State) (x : Bool) : (s.setNoBoot x).rst = s.rst := rfl
@[simp] theorem State.setNoBoot_cores (s : State) (x : Bool) : (s.setNoBoot x).cores = s.cores := rfl
@[simp] theorem State.setNoBoot_queues (s : State) (x : Bool) : (s.setNoBoot x).queues = s.queues := rfl
@[simp] theorem State.setNoBoot_queueZero (s : State) (x : Bool) : (s.setNoBoot x).queueZero = s.queueZero := rfl
@[simp] theorem State.setNoBoot_sems (s : State) (x : Bool) : (s.setNoBoot x).sems = s.sems := rfl
@[simp] theorem State.setNoBoot_semWait (s : State) (x : Bool) : (s.setNoBoot x).semWait = s.semWait := rfl
@[simp] theorem State.setNoBoot_dram (s : State) (x : Bool) : (s.setNoBoot x).dram = s.dram := rfl
@[simp] theorem State.setNoBoot_upsets (s : State) (x : Bool) : (s.setNoBoot x).upsets = s.upsets := rfl
@[simp] theorem State.setNoBoot_spadUpsets (s : State) (x : Bool) : (s.setNoBoot x).spadUpsets = s.spadUpsets := rfl
@[simp] theorem State.setNoBoot_ecc (s : State) (x : Bool) : (s.setNoBoot x).ecc = s.ecc := rfl
@[simp] theorem State.setNoBoot_modKey (s : State) (x : Bool) : (s.setNoBoot x).modKey = s.modKey := rfl
@[simp] theorem State.setNoBoot_rotation (s : State) (x : Bool) : (s.setNoBoot x).rotation = s.rotation := rfl
@[simp] theorem State.setNoBoot_migr (s : State) (x : Bool) : (s.setNoBoot x).migr = s.migr := rfl
@[simp] theorem State.setNoBoot_migrQueue (s : State) (x : Bool) : (s.setNoBoot x).migrQueue = s.migrQueue := rfl
@[simp] theorem State.setNoBoot_pageMaps (s : State) (x : Bool) : (s.setNoBoot x).pageMaps = s.pageMaps := rfl
@[simp] theorem State.setNoBoot_tlb (s : State) (x : Bool) : (s.setNoBoot x).tlb = s.tlb := rfl
@[simp] theorem State.setNoBoot_kvMaps (s : State) (x : Bool) : (s.setNoBoot x).kvMaps = s.kvMaps := rfl
@[simp] theorem State.setNoBoot_kvTlb (s : State) (x : Bool) : (s.setNoBoot x).kvTlb = s.kvTlb := rfl
@[simp] theorem State.setNoBoot_kvDirty (s : State) (x : Bool) : (s.setNoBoot x).kvDirty = s.kvDirty := rfl
@[simp] theorem State.setNoBoot_shared (s : State) (x : Bool) : (s.setNoBoot x).shared = s.shared := rfl
@[simp] theorem State.setNoBoot_withdrawn (s : State) (x : Bool) : (s.setNoBoot x).withdrawn = s.withdrawn := rfl
@[simp] theorem State.setNoBoot_modMem (s : State) (x : Bool) : (s.setNoBoot x).modMem = s.modMem := rfl
@[simp] theorem State.setNoBoot_parts (s : State) (x : Bool) : (s.setNoBoot x).parts = s.parts := rfl
@[simp] theorem State.setNoBoot_park (s : State) (x : Bool) : (s.setNoBoot x).park = s.park := rfl
@[simp] theorem State.setNoBoot_sess (s : State) (x : Bool) : (s.setNoBoot x).sess = s.sess := rfl
@[simp] theorem State.setNoBoot_emitted (s : State) (x : Bool) : (s.setNoBoot x).emitted = s.emitted := rfl
@[simp] theorem State.setNoBoot_grammars (s : State) (x : Bool) : (s.setNoBoot x).grammars = s.grammars := rfl
@[simp] theorem State.setNoBoot_adapters (s : State) (x : Bool) : (s.setNoBoot x).adapters = s.adapters := rfl
@[simp] theorem State.setNoBoot_adapterLast (s : State) (x : Bool) : (s.setNoBoot x).adapterLast = s.adapterLast := rfl
@[simp] theorem State.setNoBoot_video (s : State) (x : Bool) : (s.setNoBoot x).video = s.video := rfl
@[simp] theorem State.setNoBoot_fw (s : State) (x : Bool) : (s.setNoBoot x).fw = s.fw := rfl
@[simp] theorem State.setNoBoot_ryc (s : State) (x : Bool) : (s.setNoBoot x).ryc = s.ryc := rfl
@[simp] theorem State.setNoBoot_net (s : State) (x : Bool) : (s.setNoBoot x).net = s.net := rfl
@[simp] theorem State.setNoBoot_ev (s : State) (x : Bool) : (s.setNoBoot x).ev = s.ev := rfl
@[simp] theorem State.setNoBoot_rel (s : State) (x : Bool) : (s.setNoBoot x).rel = s.rel := rfl
@[simp] theorem State.setNoBoot_sec (s : State) (x : Bool) : (s.setNoBoot x).sec = s.sec := rfl
@[simp] theorem State.setNoBoot_pow (s : State) (x : Bool) : (s.setNoBoot x).pow = s.pow := rfl
@[simp] theorem State.setNoBoot_store (s : State) (x : Bool) : (s.setNoBoot x).store = s.store := rfl
@[simp] theorem State.setNoBoot_od (s : State) (x : Bool) : (s.setNoBoot x).od = s.od := rfl
@[simp] theorem State.setNoBoot_d2dFails (s : State) (x : Bool) : (s.setNoBoot x).d2dFails = s.d2dFails := rfl
@[simp] theorem State.setRst_pending (s : State) (x : Rst) : (s.setRst x).pending = s.pending := rfl
@[simp] theorem State.setRst_free (s : State) (x : Rst) : (s.setRst x).free = s.free := rfl
@[simp] theorem State.setRst_out (s : State) (x : Rst) : (s.setRst x).out = s.out := rfl
@[simp] theorem State.setRst_time (s : State) (x : Rst) : (s.setRst x).time = s.time := rfl
@[simp] theorem State.setRst_tray (s : State) (x : Rst) : (s.setRst x).tray = s.tray := rfl
@[simp] theorem State.setRst_mode (s : State) (x : Rst) : (s.setRst x).mode = s.mode := rfl
@[simp] theorem State.setRst_idle (s : State) (x : Rst) : (s.setRst x).idle = s.idle := rfl
@[simp] theorem State.setRst_entry (s : State) (x : Rst) : (s.setRst x).entry = s.entry := rfl
@[simp] theorem State.setRst_leftMode (s : State) (x : Rst) : (s.setRst x).leftMode = s.leftMode := rfl
@[simp] theorem State.setRst_wakeHeld (s : State) (x : Rst) : (s.setRst x).wakeHeld = s.wakeHeld := rfl
@[simp] theorem State.setRst_westPrimary (s : State) (x : Rst) : (s.setRst x).westPrimary = s.westPrimary := rfl
@[simp] theorem State.setRst_noBoot (s : State) (x : Rst) : (s.setRst x).noBoot = s.noBoot := rfl
@[simp] theorem State.setRst_rst (s : State) (x : Rst) : (s.setRst x).rst = x := rfl
@[simp] theorem State.setRst_cores (s : State) (x : Rst) : (s.setRst x).cores = s.cores := rfl
@[simp] theorem State.setRst_queues (s : State) (x : Rst) : (s.setRst x).queues = s.queues := rfl
@[simp] theorem State.setRst_queueZero (s : State) (x : Rst) : (s.setRst x).queueZero = s.queueZero := rfl
@[simp] theorem State.setRst_sems (s : State) (x : Rst) : (s.setRst x).sems = s.sems := rfl
@[simp] theorem State.setRst_semWait (s : State) (x : Rst) : (s.setRst x).semWait = s.semWait := rfl
@[simp] theorem State.setRst_dram (s : State) (x : Rst) : (s.setRst x).dram = s.dram := rfl
@[simp] theorem State.setRst_upsets (s : State) (x : Rst) : (s.setRst x).upsets = s.upsets := rfl
@[simp] theorem State.setRst_spadUpsets (s : State) (x : Rst) : (s.setRst x).spadUpsets = s.spadUpsets := rfl
@[simp] theorem State.setRst_ecc (s : State) (x : Rst) : (s.setRst x).ecc = s.ecc := rfl
@[simp] theorem State.setRst_modKey (s : State) (x : Rst) : (s.setRst x).modKey = s.modKey := rfl
@[simp] theorem State.setRst_rotation (s : State) (x : Rst) : (s.setRst x).rotation = s.rotation := rfl
@[simp] theorem State.setRst_migr (s : State) (x : Rst) : (s.setRst x).migr = s.migr := rfl
@[simp] theorem State.setRst_migrQueue (s : State) (x : Rst) : (s.setRst x).migrQueue = s.migrQueue := rfl
@[simp] theorem State.setRst_pageMaps (s : State) (x : Rst) : (s.setRst x).pageMaps = s.pageMaps := rfl
@[simp] theorem State.setRst_tlb (s : State) (x : Rst) : (s.setRst x).tlb = s.tlb := rfl
@[simp] theorem State.setRst_kvMaps (s : State) (x : Rst) : (s.setRst x).kvMaps = s.kvMaps := rfl
@[simp] theorem State.setRst_kvTlb (s : State) (x : Rst) : (s.setRst x).kvTlb = s.kvTlb := rfl
@[simp] theorem State.setRst_kvDirty (s : State) (x : Rst) : (s.setRst x).kvDirty = s.kvDirty := rfl
@[simp] theorem State.setRst_shared (s : State) (x : Rst) : (s.setRst x).shared = s.shared := rfl
@[simp] theorem State.setRst_withdrawn (s : State) (x : Rst) : (s.setRst x).withdrawn = s.withdrawn := rfl
@[simp] theorem State.setRst_modMem (s : State) (x : Rst) : (s.setRst x).modMem = s.modMem := rfl
@[simp] theorem State.setRst_parts (s : State) (x : Rst) : (s.setRst x).parts = s.parts := rfl
@[simp] theorem State.setRst_park (s : State) (x : Rst) : (s.setRst x).park = s.park := rfl
@[simp] theorem State.setRst_sess (s : State) (x : Rst) : (s.setRst x).sess = s.sess := rfl
@[simp] theorem State.setRst_emitted (s : State) (x : Rst) : (s.setRst x).emitted = s.emitted := rfl
@[simp] theorem State.setRst_grammars (s : State) (x : Rst) : (s.setRst x).grammars = s.grammars := rfl
@[simp] theorem State.setRst_adapters (s : State) (x : Rst) : (s.setRst x).adapters = s.adapters := rfl
@[simp] theorem State.setRst_adapterLast (s : State) (x : Rst) : (s.setRst x).adapterLast = s.adapterLast := rfl
@[simp] theorem State.setRst_video (s : State) (x : Rst) : (s.setRst x).video = s.video := rfl
@[simp] theorem State.setRst_fw (s : State) (x : Rst) : (s.setRst x).fw = s.fw := rfl
@[simp] theorem State.setRst_ryc (s : State) (x : Rst) : (s.setRst x).ryc = s.ryc := rfl
@[simp] theorem State.setRst_net (s : State) (x : Rst) : (s.setRst x).net = s.net := rfl
@[simp] theorem State.setRst_ev (s : State) (x : Rst) : (s.setRst x).ev = s.ev := rfl
@[simp] theorem State.setRst_rel (s : State) (x : Rst) : (s.setRst x).rel = s.rel := rfl
@[simp] theorem State.setRst_sec (s : State) (x : Rst) : (s.setRst x).sec = s.sec := rfl
@[simp] theorem State.setRst_pow (s : State) (x : Rst) : (s.setRst x).pow = s.pow := rfl
@[simp] theorem State.setRst_store (s : State) (x : Rst) : (s.setRst x).store = s.store := rfl
@[simp] theorem State.setRst_od (s : State) (x : Rst) : (s.setRst x).od = s.od := rfl
@[simp] theorem State.setRst_d2dFails (s : State) (x : Rst) : (s.setRst x).d2dFails = s.d2dFails := rfl
@[simp] theorem State.setCores_pending (s : State) (x : AMap Core) : (s.setCores x).pending = s.pending := rfl
@[simp] theorem State.setCores_free (s : State) (x : AMap Core) : (s.setCores x).free = s.free := rfl
@[simp] theorem State.setCores_out (s : State) (x : AMap Core) : (s.setCores x).out = s.out := rfl
@[simp] theorem State.setCores_time (s : State) (x : AMap Core) : (s.setCores x).time = s.time := rfl
@[simp] theorem State.setCores_tray (s : State) (x : AMap Core) : (s.setCores x).tray = s.tray := rfl
@[simp] theorem State.setCores_mode (s : State) (x : AMap Core) : (s.setCores x).mode = s.mode := rfl
@[simp] theorem State.setCores_idle (s : State) (x : AMap Core) : (s.setCores x).idle = s.idle := rfl
@[simp] theorem State.setCores_entry (s : State) (x : AMap Core) : (s.setCores x).entry = s.entry := rfl
@[simp] theorem State.setCores_leftMode (s : State) (x : AMap Core) : (s.setCores x).leftMode = s.leftMode := rfl
@[simp] theorem State.setCores_wakeHeld (s : State) (x : AMap Core) : (s.setCores x).wakeHeld = s.wakeHeld := rfl
@[simp] theorem State.setCores_westPrimary (s : State) (x : AMap Core) : (s.setCores x).westPrimary = s.westPrimary := rfl
@[simp] theorem State.setCores_noBoot (s : State) (x : AMap Core) : (s.setCores x).noBoot = s.noBoot := rfl
@[simp] theorem State.setCores_rst (s : State) (x : AMap Core) : (s.setCores x).rst = s.rst := rfl
@[simp] theorem State.setCores_cores (s : State) (x : AMap Core) : (s.setCores x).cores = x := rfl
@[simp] theorem State.setCores_queues (s : State) (x : AMap Core) : (s.setCores x).queues = s.queues := rfl
@[simp] theorem State.setCores_queueZero (s : State) (x : AMap Core) : (s.setCores x).queueZero = s.queueZero := rfl
@[simp] theorem State.setCores_sems (s : State) (x : AMap Core) : (s.setCores x).sems = s.sems := rfl
@[simp] theorem State.setCores_semWait (s : State) (x : AMap Core) : (s.setCores x).semWait = s.semWait := rfl
@[simp] theorem State.setCores_dram (s : State) (x : AMap Core) : (s.setCores x).dram = s.dram := rfl
@[simp] theorem State.setCores_upsets (s : State) (x : AMap Core) : (s.setCores x).upsets = s.upsets := rfl
@[simp] theorem State.setCores_spadUpsets (s : State) (x : AMap Core) : (s.setCores x).spadUpsets = s.spadUpsets := rfl
@[simp] theorem State.setCores_ecc (s : State) (x : AMap Core) : (s.setCores x).ecc = s.ecc := rfl
@[simp] theorem State.setCores_modKey (s : State) (x : AMap Core) : (s.setCores x).modKey = s.modKey := rfl
@[simp] theorem State.setCores_rotation (s : State) (x : AMap Core) : (s.setCores x).rotation = s.rotation := rfl
@[simp] theorem State.setCores_migr (s : State) (x : AMap Core) : (s.setCores x).migr = s.migr := rfl
@[simp] theorem State.setCores_migrQueue (s : State) (x : AMap Core) : (s.setCores x).migrQueue = s.migrQueue := rfl
@[simp] theorem State.setCores_pageMaps (s : State) (x : AMap Core) : (s.setCores x).pageMaps = s.pageMaps := rfl
@[simp] theorem State.setCores_tlb (s : State) (x : AMap Core) : (s.setCores x).tlb = s.tlb := rfl
@[simp] theorem State.setCores_kvMaps (s : State) (x : AMap Core) : (s.setCores x).kvMaps = s.kvMaps := rfl
@[simp] theorem State.setCores_kvTlb (s : State) (x : AMap Core) : (s.setCores x).kvTlb = s.kvTlb := rfl
@[simp] theorem State.setCores_kvDirty (s : State) (x : AMap Core) : (s.setCores x).kvDirty = s.kvDirty := rfl
@[simp] theorem State.setCores_shared (s : State) (x : AMap Core) : (s.setCores x).shared = s.shared := rfl
@[simp] theorem State.setCores_withdrawn (s : State) (x : AMap Core) : (s.setCores x).withdrawn = s.withdrawn := rfl
@[simp] theorem State.setCores_modMem (s : State) (x : AMap Core) : (s.setCores x).modMem = s.modMem := rfl
@[simp] theorem State.setCores_parts (s : State) (x : AMap Core) : (s.setCores x).parts = s.parts := rfl
@[simp] theorem State.setCores_park (s : State) (x : AMap Core) : (s.setCores x).park = s.park := rfl
@[simp] theorem State.setCores_sess (s : State) (x : AMap Core) : (s.setCores x).sess = s.sess := rfl
@[simp] theorem State.setCores_emitted (s : State) (x : AMap Core) : (s.setCores x).emitted = s.emitted := rfl
@[simp] theorem State.setCores_grammars (s : State) (x : AMap Core) : (s.setCores x).grammars = s.grammars := rfl
@[simp] theorem State.setCores_adapters (s : State) (x : AMap Core) : (s.setCores x).adapters = s.adapters := rfl
@[simp] theorem State.setCores_adapterLast (s : State) (x : AMap Core) : (s.setCores x).adapterLast = s.adapterLast := rfl
@[simp] theorem State.setCores_video (s : State) (x : AMap Core) : (s.setCores x).video = s.video := rfl
@[simp] theorem State.setCores_fw (s : State) (x : AMap Core) : (s.setCores x).fw = s.fw := rfl
@[simp] theorem State.setCores_ryc (s : State) (x : AMap Core) : (s.setCores x).ryc = s.ryc := rfl
@[simp] theorem State.setCores_net (s : State) (x : AMap Core) : (s.setCores x).net = s.net := rfl
@[simp] theorem State.setCores_ev (s : State) (x : AMap Core) : (s.setCores x).ev = s.ev := rfl
@[simp] theorem State.setCores_rel (s : State) (x : AMap Core) : (s.setCores x).rel = s.rel := rfl
@[simp] theorem State.setCores_sec (s : State) (x : AMap Core) : (s.setCores x).sec = s.sec := rfl
@[simp] theorem State.setCores_pow (s : State) (x : AMap Core) : (s.setCores x).pow = s.pow := rfl
@[simp] theorem State.setCores_store (s : State) (x : AMap Core) : (s.setCores x).store = s.store := rfl
@[simp] theorem State.setCores_od (s : State) (x : AMap Core) : (s.setCores x).od = s.od := rfl
@[simp] theorem State.setCores_d2dFails (s : State) (x : AMap Core) : (s.setCores x).d2dFails = s.d2dFails := rfl
@[simp] theorem State.setQueues_pending (s : State) (x : AMap Queue) : (s.setQueues x).pending = s.pending := rfl
@[simp] theorem State.setQueues_free (s : State) (x : AMap Queue) : (s.setQueues x).free = s.free := rfl
@[simp] theorem State.setQueues_out (s : State) (x : AMap Queue) : (s.setQueues x).out = s.out := rfl
@[simp] theorem State.setQueues_time (s : State) (x : AMap Queue) : (s.setQueues x).time = s.time := rfl
@[simp] theorem State.setQueues_tray (s : State) (x : AMap Queue) : (s.setQueues x).tray = s.tray := rfl
@[simp] theorem State.setQueues_mode (s : State) (x : AMap Queue) : (s.setQueues x).mode = s.mode := rfl
@[simp] theorem State.setQueues_idle (s : State) (x : AMap Queue) : (s.setQueues x).idle = s.idle := rfl
@[simp] theorem State.setQueues_entry (s : State) (x : AMap Queue) : (s.setQueues x).entry = s.entry := rfl
@[simp] theorem State.setQueues_leftMode (s : State) (x : AMap Queue) : (s.setQueues x).leftMode = s.leftMode := rfl
@[simp] theorem State.setQueues_wakeHeld (s : State) (x : AMap Queue) : (s.setQueues x).wakeHeld = s.wakeHeld := rfl
@[simp] theorem State.setQueues_westPrimary (s : State) (x : AMap Queue) : (s.setQueues x).westPrimary = s.westPrimary := rfl
@[simp] theorem State.setQueues_noBoot (s : State) (x : AMap Queue) : (s.setQueues x).noBoot = s.noBoot := rfl
@[simp] theorem State.setQueues_rst (s : State) (x : AMap Queue) : (s.setQueues x).rst = s.rst := rfl
@[simp] theorem State.setQueues_cores (s : State) (x : AMap Queue) : (s.setQueues x).cores = s.cores := rfl
@[simp] theorem State.setQueues_queues (s : State) (x : AMap Queue) : (s.setQueues x).queues = x := rfl
@[simp] theorem State.setQueues_queueZero (s : State) (x : AMap Queue) : (s.setQueues x).queueZero = s.queueZero := rfl
@[simp] theorem State.setQueues_sems (s : State) (x : AMap Queue) : (s.setQueues x).sems = s.sems := rfl
@[simp] theorem State.setQueues_semWait (s : State) (x : AMap Queue) : (s.setQueues x).semWait = s.semWait := rfl
@[simp] theorem State.setQueues_dram (s : State) (x : AMap Queue) : (s.setQueues x).dram = s.dram := rfl
@[simp] theorem State.setQueues_upsets (s : State) (x : AMap Queue) : (s.setQueues x).upsets = s.upsets := rfl
@[simp] theorem State.setQueues_spadUpsets (s : State) (x : AMap Queue) : (s.setQueues x).spadUpsets = s.spadUpsets := rfl
@[simp] theorem State.setQueues_ecc (s : State) (x : AMap Queue) : (s.setQueues x).ecc = s.ecc := rfl
@[simp] theorem State.setQueues_modKey (s : State) (x : AMap Queue) : (s.setQueues x).modKey = s.modKey := rfl
@[simp] theorem State.setQueues_rotation (s : State) (x : AMap Queue) : (s.setQueues x).rotation = s.rotation := rfl
@[simp] theorem State.setQueues_migr (s : State) (x : AMap Queue) : (s.setQueues x).migr = s.migr := rfl
@[simp] theorem State.setQueues_migrQueue (s : State) (x : AMap Queue) : (s.setQueues x).migrQueue = s.migrQueue := rfl
@[simp] theorem State.setQueues_pageMaps (s : State) (x : AMap Queue) : (s.setQueues x).pageMaps = s.pageMaps := rfl
@[simp] theorem State.setQueues_tlb (s : State) (x : AMap Queue) : (s.setQueues x).tlb = s.tlb := rfl
@[simp] theorem State.setQueues_kvMaps (s : State) (x : AMap Queue) : (s.setQueues x).kvMaps = s.kvMaps := rfl
@[simp] theorem State.setQueues_kvTlb (s : State) (x : AMap Queue) : (s.setQueues x).kvTlb = s.kvTlb := rfl
@[simp] theorem State.setQueues_kvDirty (s : State) (x : AMap Queue) : (s.setQueues x).kvDirty = s.kvDirty := rfl
@[simp] theorem State.setQueues_shared (s : State) (x : AMap Queue) : (s.setQueues x).shared = s.shared := rfl
@[simp] theorem State.setQueues_withdrawn (s : State) (x : AMap Queue) : (s.setQueues x).withdrawn = s.withdrawn := rfl
@[simp] theorem State.setQueues_modMem (s : State) (x : AMap Queue) : (s.setQueues x).modMem = s.modMem := rfl
@[simp] theorem State.setQueues_parts (s : State) (x : AMap Queue) : (s.setQueues x).parts = s.parts := rfl
@[simp] theorem State.setQueues_park (s : State) (x : AMap Queue) : (s.setQueues x).park = s.park := rfl
@[simp] theorem State.setQueues_sess (s : State) (x : AMap Queue) : (s.setQueues x).sess = s.sess := rfl
@[simp] theorem State.setQueues_emitted (s : State) (x : AMap Queue) : (s.setQueues x).emitted = s.emitted := rfl
@[simp] theorem State.setQueues_grammars (s : State) (x : AMap Queue) : (s.setQueues x).grammars = s.grammars := rfl
@[simp] theorem State.setQueues_adapters (s : State) (x : AMap Queue) : (s.setQueues x).adapters = s.adapters := rfl
@[simp] theorem State.setQueues_adapterLast (s : State) (x : AMap Queue) : (s.setQueues x).adapterLast = s.adapterLast := rfl
@[simp] theorem State.setQueues_video (s : State) (x : AMap Queue) : (s.setQueues x).video = s.video := rfl
@[simp] theorem State.setQueues_fw (s : State) (x : AMap Queue) : (s.setQueues x).fw = s.fw := rfl
@[simp] theorem State.setQueues_ryc (s : State) (x : AMap Queue) : (s.setQueues x).ryc = s.ryc := rfl
@[simp] theorem State.setQueues_net (s : State) (x : AMap Queue) : (s.setQueues x).net = s.net := rfl
@[simp] theorem State.setQueues_ev (s : State) (x : AMap Queue) : (s.setQueues x).ev = s.ev := rfl
@[simp] theorem State.setQueues_rel (s : State) (x : AMap Queue) : (s.setQueues x).rel = s.rel := rfl
@[simp] theorem State.setQueues_sec (s : State) (x : AMap Queue) : (s.setQueues x).sec = s.sec := rfl
@[simp] theorem State.setQueues_pow (s : State) (x : AMap Queue) : (s.setQueues x).pow = s.pow := rfl
@[simp] theorem State.setQueues_store (s : State) (x : AMap Queue) : (s.setQueues x).store = s.store := rfl
@[simp] theorem State.setQueues_od (s : State) (x : AMap Queue) : (s.setQueues x).od = s.od := rfl
@[simp] theorem State.setQueues_d2dFails (s : State) (x : AMap Queue) : (s.setQueues x).d2dFails = s.d2dFails := rfl
@[simp] theorem State.setQueueZero_pending (s : State) (x : List (Nat × Nat)) : (s.setQueueZero x).pending = s.pending := rfl
@[simp] theorem State.setQueueZero_free (s : State) (x : List (Nat × Nat)) : (s.setQueueZero x).free = s.free := rfl
@[simp] theorem State.setQueueZero_out (s : State) (x : List (Nat × Nat)) : (s.setQueueZero x).out = s.out := rfl
@[simp] theorem State.setQueueZero_time (s : State) (x : List (Nat × Nat)) : (s.setQueueZero x).time = s.time := rfl
@[simp] theorem State.setQueueZero_tray (s : State) (x : List (Nat × Nat)) : (s.setQueueZero x).tray = s.tray := rfl
@[simp] theorem State.setQueueZero_mode (s : State) (x : List (Nat × Nat)) : (s.setQueueZero x).mode = s.mode := rfl
@[simp] theorem State.setQueueZero_idle (s : State) (x : List (Nat × Nat)) : (s.setQueueZero x).idle = s.idle := rfl
@[simp] theorem State.setQueueZero_entry (s : State) (x : List (Nat × Nat)) : (s.setQueueZero x).entry = s.entry := rfl
@[simp] theorem State.setQueueZero_leftMode (s : State) (x : List (Nat × Nat)) : (s.setQueueZero x).leftMode = s.leftMode := rfl
@[simp] theorem State.setQueueZero_wakeHeld (s : State) (x : List (Nat × Nat)) : (s.setQueueZero x).wakeHeld = s.wakeHeld := rfl
@[simp] theorem State.setQueueZero_westPrimary (s : State) (x : List (Nat × Nat)) : (s.setQueueZero x).westPrimary = s.westPrimary := rfl
@[simp] theorem State.setQueueZero_noBoot (s : State) (x : List (Nat × Nat)) : (s.setQueueZero x).noBoot = s.noBoot := rfl
@[simp] theorem State.setQueueZero_rst (s : State) (x : List (Nat × Nat)) : (s.setQueueZero x).rst = s.rst := rfl
@[simp] theorem State.setQueueZero_cores (s : State) (x : List (Nat × Nat)) : (s.setQueueZero x).cores = s.cores := rfl
@[simp] theorem State.setQueueZero_queues (s : State) (x : List (Nat × Nat)) : (s.setQueueZero x).queues = s.queues := rfl
@[simp] theorem State.setQueueZero_queueZero (s : State) (x : List (Nat × Nat)) : (s.setQueueZero x).queueZero = x := rfl
@[simp] theorem State.setQueueZero_sems (s : State) (x : List (Nat × Nat)) : (s.setQueueZero x).sems = s.sems := rfl
@[simp] theorem State.setQueueZero_semWait (s : State) (x : List (Nat × Nat)) : (s.setQueueZero x).semWait = s.semWait := rfl
@[simp] theorem State.setQueueZero_dram (s : State) (x : List (Nat × Nat)) : (s.setQueueZero x).dram = s.dram := rfl
@[simp] theorem State.setQueueZero_upsets (s : State) (x : List (Nat × Nat)) : (s.setQueueZero x).upsets = s.upsets := rfl
@[simp] theorem State.setQueueZero_spadUpsets (s : State) (x : List (Nat × Nat)) : (s.setQueueZero x).spadUpsets = s.spadUpsets := rfl
@[simp] theorem State.setQueueZero_ecc (s : State) (x : List (Nat × Nat)) : (s.setQueueZero x).ecc = s.ecc := rfl
@[simp] theorem State.setQueueZero_modKey (s : State) (x : List (Nat × Nat)) : (s.setQueueZero x).modKey = s.modKey := rfl
@[simp] theorem State.setQueueZero_rotation (s : State) (x : List (Nat × Nat)) : (s.setQueueZero x).rotation = s.rotation := rfl
@[simp] theorem State.setQueueZero_migr (s : State) (x : List (Nat × Nat)) : (s.setQueueZero x).migr = s.migr := rfl
@[simp] theorem State.setQueueZero_migrQueue (s : State) (x : List (Nat × Nat)) : (s.setQueueZero x).migrQueue = s.migrQueue := rfl
@[simp] theorem State.setQueueZero_pageMaps (s : State) (x : List (Nat × Nat)) : (s.setQueueZero x).pageMaps = s.pageMaps := rfl
@[simp] theorem State.setQueueZero_tlb (s : State) (x : List (Nat × Nat)) : (s.setQueueZero x).tlb = s.tlb := rfl
@[simp] theorem State.setQueueZero_kvMaps (s : State) (x : List (Nat × Nat)) : (s.setQueueZero x).kvMaps = s.kvMaps := rfl
@[simp] theorem State.setQueueZero_kvTlb (s : State) (x : List (Nat × Nat)) : (s.setQueueZero x).kvTlb = s.kvTlb := rfl
@[simp] theorem State.setQueueZero_kvDirty (s : State) (x : List (Nat × Nat)) : (s.setQueueZero x).kvDirty = s.kvDirty := rfl
@[simp] theorem State.setQueueZero_shared (s : State) (x : List (Nat × Nat)) : (s.setQueueZero x).shared = s.shared := rfl
@[simp] theorem State.setQueueZero_withdrawn (s : State) (x : List (Nat × Nat)) : (s.setQueueZero x).withdrawn = s.withdrawn := rfl
@[simp] theorem State.setQueueZero_modMem (s : State) (x : List (Nat × Nat)) : (s.setQueueZero x).modMem = s.modMem := rfl
@[simp] theorem State.setQueueZero_parts (s : State) (x : List (Nat × Nat)) : (s.setQueueZero x).parts = s.parts := rfl
@[simp] theorem State.setQueueZero_park (s : State) (x : List (Nat × Nat)) : (s.setQueueZero x).park = s.park := rfl
@[simp] theorem State.setQueueZero_sess (s : State) (x : List (Nat × Nat)) : (s.setQueueZero x).sess = s.sess := rfl
@[simp] theorem State.setQueueZero_emitted (s : State) (x : List (Nat × Nat)) : (s.setQueueZero x).emitted = s.emitted := rfl
@[simp] theorem State.setQueueZero_grammars (s : State) (x : List (Nat × Nat)) : (s.setQueueZero x).grammars = s.grammars := rfl
@[simp] theorem State.setQueueZero_adapters (s : State) (x : List (Nat × Nat)) : (s.setQueueZero x).adapters = s.adapters := rfl
@[simp] theorem State.setQueueZero_adapterLast (s : State) (x : List (Nat × Nat)) : (s.setQueueZero x).adapterLast = s.adapterLast := rfl
@[simp] theorem State.setQueueZero_video (s : State) (x : List (Nat × Nat)) : (s.setQueueZero x).video = s.video := rfl
@[simp] theorem State.setQueueZero_fw (s : State) (x : List (Nat × Nat)) : (s.setQueueZero x).fw = s.fw := rfl
@[simp] theorem State.setQueueZero_ryc (s : State) (x : List (Nat × Nat)) : (s.setQueueZero x).ryc = s.ryc := rfl
@[simp] theorem State.setQueueZero_net (s : State) (x : List (Nat × Nat)) : (s.setQueueZero x).net = s.net := rfl
@[simp] theorem State.setQueueZero_ev (s : State) (x : List (Nat × Nat)) : (s.setQueueZero x).ev = s.ev := rfl
@[simp] theorem State.setQueueZero_rel (s : State) (x : List (Nat × Nat)) : (s.setQueueZero x).rel = s.rel := rfl
@[simp] theorem State.setQueueZero_sec (s : State) (x : List (Nat × Nat)) : (s.setQueueZero x).sec = s.sec := rfl
@[simp] theorem State.setQueueZero_pow (s : State) (x : List (Nat × Nat)) : (s.setQueueZero x).pow = s.pow := rfl
@[simp] theorem State.setQueueZero_store (s : State) (x : List (Nat × Nat)) : (s.setQueueZero x).store = s.store := rfl
@[simp] theorem State.setQueueZero_od (s : State) (x : List (Nat × Nat)) : (s.setQueueZero x).od = s.od := rfl
@[simp] theorem State.setQueueZero_d2dFails (s : State) (x : List (Nat × Nat)) : (s.setQueueZero x).d2dFails = s.d2dFails := rfl
@[simp] theorem State.setSems_pending (s : State) (x : AMap Sem) : (s.setSems x).pending = s.pending := rfl
@[simp] theorem State.setSems_free (s : State) (x : AMap Sem) : (s.setSems x).free = s.free := rfl
@[simp] theorem State.setSems_out (s : State) (x : AMap Sem) : (s.setSems x).out = s.out := rfl
@[simp] theorem State.setSems_time (s : State) (x : AMap Sem) : (s.setSems x).time = s.time := rfl
@[simp] theorem State.setSems_tray (s : State) (x : AMap Sem) : (s.setSems x).tray = s.tray := rfl
@[simp] theorem State.setSems_mode (s : State) (x : AMap Sem) : (s.setSems x).mode = s.mode := rfl
@[simp] theorem State.setSems_idle (s : State) (x : AMap Sem) : (s.setSems x).idle = s.idle := rfl
@[simp] theorem State.setSems_entry (s : State) (x : AMap Sem) : (s.setSems x).entry = s.entry := rfl
@[simp] theorem State.setSems_leftMode (s : State) (x : AMap Sem) : (s.setSems x).leftMode = s.leftMode := rfl
@[simp] theorem State.setSems_wakeHeld (s : State) (x : AMap Sem) : (s.setSems x).wakeHeld = s.wakeHeld := rfl
@[simp] theorem State.setSems_westPrimary (s : State) (x : AMap Sem) : (s.setSems x).westPrimary = s.westPrimary := rfl
@[simp] theorem State.setSems_noBoot (s : State) (x : AMap Sem) : (s.setSems x).noBoot = s.noBoot := rfl
@[simp] theorem State.setSems_rst (s : State) (x : AMap Sem) : (s.setSems x).rst = s.rst := rfl
@[simp] theorem State.setSems_cores (s : State) (x : AMap Sem) : (s.setSems x).cores = s.cores := rfl
@[simp] theorem State.setSems_queues (s : State) (x : AMap Sem) : (s.setSems x).queues = s.queues := rfl
@[simp] theorem State.setSems_queueZero (s : State) (x : AMap Sem) : (s.setSems x).queueZero = s.queueZero := rfl
@[simp] theorem State.setSems_sems (s : State) (x : AMap Sem) : (s.setSems x).sems = x := rfl
@[simp] theorem State.setSems_semWait (s : State) (x : AMap Sem) : (s.setSems x).semWait = s.semWait := rfl
@[simp] theorem State.setSems_dram (s : State) (x : AMap Sem) : (s.setSems x).dram = s.dram := rfl
@[simp] theorem State.setSems_upsets (s : State) (x : AMap Sem) : (s.setSems x).upsets = s.upsets := rfl
@[simp] theorem State.setSems_spadUpsets (s : State) (x : AMap Sem) : (s.setSems x).spadUpsets = s.spadUpsets := rfl
@[simp] theorem State.setSems_ecc (s : State) (x : AMap Sem) : (s.setSems x).ecc = s.ecc := rfl
@[simp] theorem State.setSems_modKey (s : State) (x : AMap Sem) : (s.setSems x).modKey = s.modKey := rfl
@[simp] theorem State.setSems_rotation (s : State) (x : AMap Sem) : (s.setSems x).rotation = s.rotation := rfl
@[simp] theorem State.setSems_migr (s : State) (x : AMap Sem) : (s.setSems x).migr = s.migr := rfl
@[simp] theorem State.setSems_migrQueue (s : State) (x : AMap Sem) : (s.setSems x).migrQueue = s.migrQueue := rfl
@[simp] theorem State.setSems_pageMaps (s : State) (x : AMap Sem) : (s.setSems x).pageMaps = s.pageMaps := rfl
@[simp] theorem State.setSems_tlb (s : State) (x : AMap Sem) : (s.setSems x).tlb = s.tlb := rfl
@[simp] theorem State.setSems_kvMaps (s : State) (x : AMap Sem) : (s.setSems x).kvMaps = s.kvMaps := rfl
@[simp] theorem State.setSems_kvTlb (s : State) (x : AMap Sem) : (s.setSems x).kvTlb = s.kvTlb := rfl
@[simp] theorem State.setSems_kvDirty (s : State) (x : AMap Sem) : (s.setSems x).kvDirty = s.kvDirty := rfl
@[simp] theorem State.setSems_shared (s : State) (x : AMap Sem) : (s.setSems x).shared = s.shared := rfl
@[simp] theorem State.setSems_withdrawn (s : State) (x : AMap Sem) : (s.setSems x).withdrawn = s.withdrawn := rfl
@[simp] theorem State.setSems_modMem (s : State) (x : AMap Sem) : (s.setSems x).modMem = s.modMem := rfl
@[simp] theorem State.setSems_parts (s : State) (x : AMap Sem) : (s.setSems x).parts = s.parts := rfl
@[simp] theorem State.setSems_park (s : State) (x : AMap Sem) : (s.setSems x).park = s.park := rfl
@[simp] theorem State.setSems_sess (s : State) (x : AMap Sem) : (s.setSems x).sess = s.sess := rfl
@[simp] theorem State.setSems_emitted (s : State) (x : AMap Sem) : (s.setSems x).emitted = s.emitted := rfl
@[simp] theorem State.setSems_grammars (s : State) (x : AMap Sem) : (s.setSems x).grammars = s.grammars := rfl
@[simp] theorem State.setSems_adapters (s : State) (x : AMap Sem) : (s.setSems x).adapters = s.adapters := rfl
@[simp] theorem State.setSems_adapterLast (s : State) (x : AMap Sem) : (s.setSems x).adapterLast = s.adapterLast := rfl
@[simp] theorem State.setSems_video (s : State) (x : AMap Sem) : (s.setSems x).video = s.video := rfl
@[simp] theorem State.setSems_fw (s : State) (x : AMap Sem) : (s.setSems x).fw = s.fw := rfl
@[simp] theorem State.setSems_ryc (s : State) (x : AMap Sem) : (s.setSems x).ryc = s.ryc := rfl
@[simp] theorem State.setSems_net (s : State) (x : AMap Sem) : (s.setSems x).net = s.net := rfl
@[simp] theorem State.setSems_ev (s : State) (x : AMap Sem) : (s.setSems x).ev = s.ev := rfl
@[simp] theorem State.setSems_rel (s : State) (x : AMap Sem) : (s.setSems x).rel = s.rel := rfl
@[simp] theorem State.setSems_sec (s : State) (x : AMap Sem) : (s.setSems x).sec = s.sec := rfl
@[simp] theorem State.setSems_pow (s : State) (x : AMap Sem) : (s.setSems x).pow = s.pow := rfl
@[simp] theorem State.setSems_store (s : State) (x : AMap Sem) : (s.setSems x).store = s.store := rfl
@[simp] theorem State.setSems_od (s : State) (x : AMap Sem) : (s.setSems x).od = s.od := rfl
@[simp] theorem State.setSems_d2dFails (s : State) (x : AMap Sem) : (s.setSems x).d2dFails = s.d2dFails := rfl
@[simp] theorem State.setSemWait_pending (s : State) (x : List (Nat × Nat)) : (s.setSemWait x).pending = s.pending := rfl
@[simp] theorem State.setSemWait_free (s : State) (x : List (Nat × Nat)) : (s.setSemWait x).free = s.free := rfl
@[simp] theorem State.setSemWait_out (s : State) (x : List (Nat × Nat)) : (s.setSemWait x).out = s.out := rfl
@[simp] theorem State.setSemWait_time (s : State) (x : List (Nat × Nat)) : (s.setSemWait x).time = s.time := rfl
@[simp] theorem State.setSemWait_tray (s : State) (x : List (Nat × Nat)) : (s.setSemWait x).tray = s.tray := rfl
@[simp] theorem State.setSemWait_mode (s : State) (x : List (Nat × Nat)) : (s.setSemWait x).mode = s.mode := rfl
@[simp] theorem State.setSemWait_idle (s : State) (x : List (Nat × Nat)) : (s.setSemWait x).idle = s.idle := rfl
@[simp] theorem State.setSemWait_entry (s : State) (x : List (Nat × Nat)) : (s.setSemWait x).entry = s.entry := rfl
@[simp] theorem State.setSemWait_leftMode (s : State) (x : List (Nat × Nat)) : (s.setSemWait x).leftMode = s.leftMode := rfl
@[simp] theorem State.setSemWait_wakeHeld (s : State) (x : List (Nat × Nat)) : (s.setSemWait x).wakeHeld = s.wakeHeld := rfl
@[simp] theorem State.setSemWait_westPrimary (s : State) (x : List (Nat × Nat)) : (s.setSemWait x).westPrimary = s.westPrimary := rfl
@[simp] theorem State.setSemWait_noBoot (s : State) (x : List (Nat × Nat)) : (s.setSemWait x).noBoot = s.noBoot := rfl
@[simp] theorem State.setSemWait_rst (s : State) (x : List (Nat × Nat)) : (s.setSemWait x).rst = s.rst := rfl
@[simp] theorem State.setSemWait_cores (s : State) (x : List (Nat × Nat)) : (s.setSemWait x).cores = s.cores := rfl
@[simp] theorem State.setSemWait_queues (s : State) (x : List (Nat × Nat)) : (s.setSemWait x).queues = s.queues := rfl
@[simp] theorem State.setSemWait_queueZero (s : State) (x : List (Nat × Nat)) : (s.setSemWait x).queueZero = s.queueZero := rfl
@[simp] theorem State.setSemWait_sems (s : State) (x : List (Nat × Nat)) : (s.setSemWait x).sems = s.sems := rfl
@[simp] theorem State.setSemWait_semWait (s : State) (x : List (Nat × Nat)) : (s.setSemWait x).semWait = x := rfl
@[simp] theorem State.setSemWait_dram (s : State) (x : List (Nat × Nat)) : (s.setSemWait x).dram = s.dram := rfl
@[simp] theorem State.setSemWait_upsets (s : State) (x : List (Nat × Nat)) : (s.setSemWait x).upsets = s.upsets := rfl
@[simp] theorem State.setSemWait_spadUpsets (s : State) (x : List (Nat × Nat)) : (s.setSemWait x).spadUpsets = s.spadUpsets := rfl
@[simp] theorem State.setSemWait_ecc (s : State) (x : List (Nat × Nat)) : (s.setSemWait x).ecc = s.ecc := rfl
@[simp] theorem State.setSemWait_modKey (s : State) (x : List (Nat × Nat)) : (s.setSemWait x).modKey = s.modKey := rfl
@[simp] theorem State.setSemWait_rotation (s : State) (x : List (Nat × Nat)) : (s.setSemWait x).rotation = s.rotation := rfl
@[simp] theorem State.setSemWait_migr (s : State) (x : List (Nat × Nat)) : (s.setSemWait x).migr = s.migr := rfl
@[simp] theorem State.setSemWait_migrQueue (s : State) (x : List (Nat × Nat)) : (s.setSemWait x).migrQueue = s.migrQueue := rfl
@[simp] theorem State.setSemWait_pageMaps (s : State) (x : List (Nat × Nat)) : (s.setSemWait x).pageMaps = s.pageMaps := rfl
@[simp] theorem State.setSemWait_tlb (s : State) (x : List (Nat × Nat)) : (s.setSemWait x).tlb = s.tlb := rfl
@[simp] theorem State.setSemWait_kvMaps (s : State) (x : List (Nat × Nat)) : (s.setSemWait x).kvMaps = s.kvMaps := rfl
@[simp] theorem State.setSemWait_kvTlb (s : State) (x : List (Nat × Nat)) : (s.setSemWait x).kvTlb = s.kvTlb := rfl
@[simp] theorem State.setSemWait_kvDirty (s : State) (x : List (Nat × Nat)) : (s.setSemWait x).kvDirty = s.kvDirty := rfl
@[simp] theorem State.setSemWait_shared (s : State) (x : List (Nat × Nat)) : (s.setSemWait x).shared = s.shared := rfl
@[simp] theorem State.setSemWait_withdrawn (s : State) (x : List (Nat × Nat)) : (s.setSemWait x).withdrawn = s.withdrawn := rfl
@[simp] theorem State.setSemWait_modMem (s : State) (x : List (Nat × Nat)) : (s.setSemWait x).modMem = s.modMem := rfl
@[simp] theorem State.setSemWait_parts (s : State) (x : List (Nat × Nat)) : (s.setSemWait x).parts = s.parts := rfl
@[simp] theorem State.setSemWait_park (s : State) (x : List (Nat × Nat)) : (s.setSemWait x).park = s.park := rfl
@[simp] theorem State.setSemWait_sess (s : State) (x : List (Nat × Nat)) : (s.setSemWait x).sess = s.sess := rfl
@[simp] theorem State.setSemWait_emitted (s : State) (x : List (Nat × Nat)) : (s.setSemWait x).emitted = s.emitted := rfl
@[simp] theorem State.setSemWait_grammars (s : State) (x : List (Nat × Nat)) : (s.setSemWait x).grammars = s.grammars := rfl
@[simp] theorem State.setSemWait_adapters (s : State) (x : List (Nat × Nat)) : (s.setSemWait x).adapters = s.adapters := rfl
@[simp] theorem State.setSemWait_adapterLast (s : State) (x : List (Nat × Nat)) : (s.setSemWait x).adapterLast = s.adapterLast := rfl
@[simp] theorem State.setSemWait_video (s : State) (x : List (Nat × Nat)) : (s.setSemWait x).video = s.video := rfl
@[simp] theorem State.setSemWait_fw (s : State) (x : List (Nat × Nat)) : (s.setSemWait x).fw = s.fw := rfl
@[simp] theorem State.setSemWait_ryc (s : State) (x : List (Nat × Nat)) : (s.setSemWait x).ryc = s.ryc := rfl
@[simp] theorem State.setSemWait_net (s : State) (x : List (Nat × Nat)) : (s.setSemWait x).net = s.net := rfl
@[simp] theorem State.setSemWait_ev (s : State) (x : List (Nat × Nat)) : (s.setSemWait x).ev = s.ev := rfl
@[simp] theorem State.setSemWait_rel (s : State) (x : List (Nat × Nat)) : (s.setSemWait x).rel = s.rel := rfl
@[simp] theorem State.setSemWait_sec (s : State) (x : List (Nat × Nat)) : (s.setSemWait x).sec = s.sec := rfl
@[simp] theorem State.setSemWait_pow (s : State) (x : List (Nat × Nat)) : (s.setSemWait x).pow = s.pow := rfl
@[simp] theorem State.setSemWait_store (s : State) (x : List (Nat × Nat)) : (s.setSemWait x).store = s.store := rfl
@[simp] theorem State.setSemWait_od (s : State) (x : List (Nat × Nat)) : (s.setSemWait x).od = s.od := rfl
@[simp] theorem State.setSemWait_d2dFails (s : State) (x : List (Nat × Nat)) : (s.setSemWait x).d2dFails = s.d2dFails := rfl
@[simp] theorem State.setDram_pending (s : State) (x : AMap Sub) : (s.setDram x).pending = s.pending := rfl
@[simp] theorem State.setDram_free (s : State) (x : AMap Sub) : (s.setDram x).free = s.free := rfl
@[simp] theorem State.setDram_out (s : State) (x : AMap Sub) : (s.setDram x).out = s.out := rfl
@[simp] theorem State.setDram_time (s : State) (x : AMap Sub) : (s.setDram x).time = s.time := rfl
@[simp] theorem State.setDram_tray (s : State) (x : AMap Sub) : (s.setDram x).tray = s.tray := rfl
@[simp] theorem State.setDram_mode (s : State) (x : AMap Sub) : (s.setDram x).mode = s.mode := rfl
@[simp] theorem State.setDram_idle (s : State) (x : AMap Sub) : (s.setDram x).idle = s.idle := rfl
@[simp] theorem State.setDram_entry (s : State) (x : AMap Sub) : (s.setDram x).entry = s.entry := rfl
@[simp] theorem State.setDram_leftMode (s : State) (x : AMap Sub) : (s.setDram x).leftMode = s.leftMode := rfl
@[simp] theorem State.setDram_wakeHeld (s : State) (x : AMap Sub) : (s.setDram x).wakeHeld = s.wakeHeld := rfl
@[simp] theorem State.setDram_westPrimary (s : State) (x : AMap Sub) : (s.setDram x).westPrimary = s.westPrimary := rfl
@[simp] theorem State.setDram_noBoot (s : State) (x : AMap Sub) : (s.setDram x).noBoot = s.noBoot := rfl
@[simp] theorem State.setDram_rst (s : State) (x : AMap Sub) : (s.setDram x).rst = s.rst := rfl
@[simp] theorem State.setDram_cores (s : State) (x : AMap Sub) : (s.setDram x).cores = s.cores := rfl
@[simp] theorem State.setDram_queues (s : State) (x : AMap Sub) : (s.setDram x).queues = s.queues := rfl
@[simp] theorem State.setDram_queueZero (s : State) (x : AMap Sub) : (s.setDram x).queueZero = s.queueZero := rfl
@[simp] theorem State.setDram_sems (s : State) (x : AMap Sub) : (s.setDram x).sems = s.sems := rfl
@[simp] theorem State.setDram_semWait (s : State) (x : AMap Sub) : (s.setDram x).semWait = s.semWait := rfl
@[simp] theorem State.setDram_dram (s : State) (x : AMap Sub) : (s.setDram x).dram = x := rfl
@[simp] theorem State.setDram_upsets (s : State) (x : AMap Sub) : (s.setDram x).upsets = s.upsets := rfl
@[simp] theorem State.setDram_spadUpsets (s : State) (x : AMap Sub) : (s.setDram x).spadUpsets = s.spadUpsets := rfl
@[simp] theorem State.setDram_ecc (s : State) (x : AMap Sub) : (s.setDram x).ecc = s.ecc := rfl
@[simp] theorem State.setDram_modKey (s : State) (x : AMap Sub) : (s.setDram x).modKey = s.modKey := rfl
@[simp] theorem State.setDram_rotation (s : State) (x : AMap Sub) : (s.setDram x).rotation = s.rotation := rfl
@[simp] theorem State.setDram_migr (s : State) (x : AMap Sub) : (s.setDram x).migr = s.migr := rfl
@[simp] theorem State.setDram_migrQueue (s : State) (x : AMap Sub) : (s.setDram x).migrQueue = s.migrQueue := rfl
@[simp] theorem State.setDram_pageMaps (s : State) (x : AMap Sub) : (s.setDram x).pageMaps = s.pageMaps := rfl
@[simp] theorem State.setDram_tlb (s : State) (x : AMap Sub) : (s.setDram x).tlb = s.tlb := rfl
@[simp] theorem State.setDram_kvMaps (s : State) (x : AMap Sub) : (s.setDram x).kvMaps = s.kvMaps := rfl
@[simp] theorem State.setDram_kvTlb (s : State) (x : AMap Sub) : (s.setDram x).kvTlb = s.kvTlb := rfl
@[simp] theorem State.setDram_kvDirty (s : State) (x : AMap Sub) : (s.setDram x).kvDirty = s.kvDirty := rfl
@[simp] theorem State.setDram_shared (s : State) (x : AMap Sub) : (s.setDram x).shared = s.shared := rfl
@[simp] theorem State.setDram_withdrawn (s : State) (x : AMap Sub) : (s.setDram x).withdrawn = s.withdrawn := rfl
@[simp] theorem State.setDram_modMem (s : State) (x : AMap Sub) : (s.setDram x).modMem = s.modMem := rfl
@[simp] theorem State.setDram_parts (s : State) (x : AMap Sub) : (s.setDram x).parts = s.parts := rfl
@[simp] theorem State.setDram_park (s : State) (x : AMap Sub) : (s.setDram x).park = s.park := rfl
@[simp] theorem State.setDram_sess (s : State) (x : AMap Sub) : (s.setDram x).sess = s.sess := rfl
@[simp] theorem State.setDram_emitted (s : State) (x : AMap Sub) : (s.setDram x).emitted = s.emitted := rfl
@[simp] theorem State.setDram_grammars (s : State) (x : AMap Sub) : (s.setDram x).grammars = s.grammars := rfl
@[simp] theorem State.setDram_adapters (s : State) (x : AMap Sub) : (s.setDram x).adapters = s.adapters := rfl
@[simp] theorem State.setDram_adapterLast (s : State) (x : AMap Sub) : (s.setDram x).adapterLast = s.adapterLast := rfl
@[simp] theorem State.setDram_video (s : State) (x : AMap Sub) : (s.setDram x).video = s.video := rfl
@[simp] theorem State.setDram_fw (s : State) (x : AMap Sub) : (s.setDram x).fw = s.fw := rfl
@[simp] theorem State.setDram_ryc (s : State) (x : AMap Sub) : (s.setDram x).ryc = s.ryc := rfl
@[simp] theorem State.setDram_net (s : State) (x : AMap Sub) : (s.setDram x).net = s.net := rfl
@[simp] theorem State.setDram_ev (s : State) (x : AMap Sub) : (s.setDram x).ev = s.ev := rfl
@[simp] theorem State.setDram_rel (s : State) (x : AMap Sub) : (s.setDram x).rel = s.rel := rfl
@[simp] theorem State.setDram_sec (s : State) (x : AMap Sub) : (s.setDram x).sec = s.sec := rfl
@[simp] theorem State.setDram_pow (s : State) (x : AMap Sub) : (s.setDram x).pow = s.pow := rfl
@[simp] theorem State.setDram_store (s : State) (x : AMap Sub) : (s.setDram x).store = s.store := rfl
@[simp] theorem State.setDram_od (s : State) (x : AMap Sub) : (s.setDram x).od = s.od := rfl
@[simp] theorem State.setDram_d2dFails (s : State) (x : AMap Sub) : (s.setDram x).d2dFails = s.d2dFails := rfl
@[simp] theorem State.setUpsets_pending (s : State) (x : AMap Nat) : (s.setUpsets x).pending = s.pending := rfl
@[simp] theorem State.setUpsets_free (s : State) (x : AMap Nat) : (s.setUpsets x).free = s.free := rfl
@[simp] theorem State.setUpsets_out (s : State) (x : AMap Nat) : (s.setUpsets x).out = s.out := rfl
@[simp] theorem State.setUpsets_time (s : State) (x : AMap Nat) : (s.setUpsets x).time = s.time := rfl
@[simp] theorem State.setUpsets_tray (s : State) (x : AMap Nat) : (s.setUpsets x).tray = s.tray := rfl
@[simp] theorem State.setUpsets_mode (s : State) (x : AMap Nat) : (s.setUpsets x).mode = s.mode := rfl
@[simp] theorem State.setUpsets_idle (s : State) (x : AMap Nat) : (s.setUpsets x).idle = s.idle := rfl
@[simp] theorem State.setUpsets_entry (s : State) (x : AMap Nat) : (s.setUpsets x).entry = s.entry := rfl
@[simp] theorem State.setUpsets_leftMode (s : State) (x : AMap Nat) : (s.setUpsets x).leftMode = s.leftMode := rfl
@[simp] theorem State.setUpsets_wakeHeld (s : State) (x : AMap Nat) : (s.setUpsets x).wakeHeld = s.wakeHeld := rfl
@[simp] theorem State.setUpsets_westPrimary (s : State) (x : AMap Nat) : (s.setUpsets x).westPrimary = s.westPrimary := rfl
@[simp] theorem State.setUpsets_noBoot (s : State) (x : AMap Nat) : (s.setUpsets x).noBoot = s.noBoot := rfl
@[simp] theorem State.setUpsets_rst (s : State) (x : AMap Nat) : (s.setUpsets x).rst = s.rst := rfl
@[simp] theorem State.setUpsets_cores (s : State) (x : AMap Nat) : (s.setUpsets x).cores = s.cores := rfl
@[simp] theorem State.setUpsets_queues (s : State) (x : AMap Nat) : (s.setUpsets x).queues = s.queues := rfl
@[simp] theorem State.setUpsets_queueZero (s : State) (x : AMap Nat) : (s.setUpsets x).queueZero = s.queueZero := rfl
@[simp] theorem State.setUpsets_sems (s : State) (x : AMap Nat) : (s.setUpsets x).sems = s.sems := rfl
@[simp] theorem State.setUpsets_semWait (s : State) (x : AMap Nat) : (s.setUpsets x).semWait = s.semWait := rfl
@[simp] theorem State.setUpsets_dram (s : State) (x : AMap Nat) : (s.setUpsets x).dram = s.dram := rfl
@[simp] theorem State.setUpsets_upsets (s : State) (x : AMap Nat) : (s.setUpsets x).upsets = x := rfl
@[simp] theorem State.setUpsets_spadUpsets (s : State) (x : AMap Nat) : (s.setUpsets x).spadUpsets = s.spadUpsets := rfl
@[simp] theorem State.setUpsets_ecc (s : State) (x : AMap Nat) : (s.setUpsets x).ecc = s.ecc := rfl
@[simp] theorem State.setUpsets_modKey (s : State) (x : AMap Nat) : (s.setUpsets x).modKey = s.modKey := rfl
@[simp] theorem State.setUpsets_rotation (s : State) (x : AMap Nat) : (s.setUpsets x).rotation = s.rotation := rfl
@[simp] theorem State.setUpsets_migr (s : State) (x : AMap Nat) : (s.setUpsets x).migr = s.migr := rfl
@[simp] theorem State.setUpsets_migrQueue (s : State) (x : AMap Nat) : (s.setUpsets x).migrQueue = s.migrQueue := rfl
@[simp] theorem State.setUpsets_pageMaps (s : State) (x : AMap Nat) : (s.setUpsets x).pageMaps = s.pageMaps := rfl
@[simp] theorem State.setUpsets_tlb (s : State) (x : AMap Nat) : (s.setUpsets x).tlb = s.tlb := rfl
@[simp] theorem State.setUpsets_kvMaps (s : State) (x : AMap Nat) : (s.setUpsets x).kvMaps = s.kvMaps := rfl
@[simp] theorem State.setUpsets_kvTlb (s : State) (x : AMap Nat) : (s.setUpsets x).kvTlb = s.kvTlb := rfl
@[simp] theorem State.setUpsets_kvDirty (s : State) (x : AMap Nat) : (s.setUpsets x).kvDirty = s.kvDirty := rfl
@[simp] theorem State.setUpsets_shared (s : State) (x : AMap Nat) : (s.setUpsets x).shared = s.shared := rfl
@[simp] theorem State.setUpsets_withdrawn (s : State) (x : AMap Nat) : (s.setUpsets x).withdrawn = s.withdrawn := rfl
@[simp] theorem State.setUpsets_modMem (s : State) (x : AMap Nat) : (s.setUpsets x).modMem = s.modMem := rfl
@[simp] theorem State.setUpsets_parts (s : State) (x : AMap Nat) : (s.setUpsets x).parts = s.parts := rfl
@[simp] theorem State.setUpsets_park (s : State) (x : AMap Nat) : (s.setUpsets x).park = s.park := rfl
@[simp] theorem State.setUpsets_sess (s : State) (x : AMap Nat) : (s.setUpsets x).sess = s.sess := rfl
@[simp] theorem State.setUpsets_emitted (s : State) (x : AMap Nat) : (s.setUpsets x).emitted = s.emitted := rfl
@[simp] theorem State.setUpsets_grammars (s : State) (x : AMap Nat) : (s.setUpsets x).grammars = s.grammars := rfl
@[simp] theorem State.setUpsets_adapters (s : State) (x : AMap Nat) : (s.setUpsets x).adapters = s.adapters := rfl
@[simp] theorem State.setUpsets_adapterLast (s : State) (x : AMap Nat) : (s.setUpsets x).adapterLast = s.adapterLast := rfl
@[simp] theorem State.setUpsets_video (s : State) (x : AMap Nat) : (s.setUpsets x).video = s.video := rfl
@[simp] theorem State.setUpsets_fw (s : State) (x : AMap Nat) : (s.setUpsets x).fw = s.fw := rfl
@[simp] theorem State.setUpsets_ryc (s : State) (x : AMap Nat) : (s.setUpsets x).ryc = s.ryc := rfl
@[simp] theorem State.setUpsets_net (s : State) (x : AMap Nat) : (s.setUpsets x).net = s.net := rfl
@[simp] theorem State.setUpsets_ev (s : State) (x : AMap Nat) : (s.setUpsets x).ev = s.ev := rfl
@[simp] theorem State.setUpsets_rel (s : State) (x : AMap Nat) : (s.setUpsets x).rel = s.rel := rfl
@[simp] theorem State.setUpsets_sec (s : State) (x : AMap Nat) : (s.setUpsets x).sec = s.sec := rfl
@[simp] theorem State.setUpsets_pow (s : State) (x : AMap Nat) : (s.setUpsets x).pow = s.pow := rfl
@[simp] theorem State.setUpsets_store (s : State) (x : AMap Nat) : (s.setUpsets x).store = s.store := rfl
@[simp] theorem State.setUpsets_od (s : State) (x : AMap Nat) : (s.setUpsets x).od = s.od := rfl
@[simp] theorem State.setUpsets_d2dFails (s : State) (x : AMap Nat) : (s.setUpsets x).d2dFails = s.d2dFails := rfl
@[simp] theorem State.setSpadUpsets_pending (s : State) (x : AMap Nat) : (s.setSpadUpsets x).pending = s.pending := rfl
@[simp] theorem State.setSpadUpsets_free (s : State) (x : AMap Nat) : (s.setSpadUpsets x).free = s.free := rfl
@[simp] theorem State.setSpadUpsets_out (s : State) (x : AMap Nat) : (s.setSpadUpsets x).out = s.out := rfl
@[simp] theorem State.setSpadUpsets_time (s : State) (x : AMap Nat) : (s.setSpadUpsets x).time = s.time := rfl
@[simp] theorem State.setSpadUpsets_tray (s : State) (x : AMap Nat) : (s.setSpadUpsets x).tray = s.tray := rfl
@[simp] theorem State.setSpadUpsets_mode (s : State) (x : AMap Nat) : (s.setSpadUpsets x).mode = s.mode := rfl
@[simp] theorem State.setSpadUpsets_idle (s : State) (x : AMap Nat) : (s.setSpadUpsets x).idle = s.idle := rfl
@[simp] theorem State.setSpadUpsets_entry (s : State) (x : AMap Nat) : (s.setSpadUpsets x).entry = s.entry := rfl
@[simp] theorem State.setSpadUpsets_leftMode (s : State) (x : AMap Nat) : (s.setSpadUpsets x).leftMode = s.leftMode := rfl
@[simp] theorem State.setSpadUpsets_wakeHeld (s : State) (x : AMap Nat) : (s.setSpadUpsets x).wakeHeld = s.wakeHeld := rfl
@[simp] theorem State.setSpadUpsets_westPrimary (s : State) (x : AMap Nat) : (s.setSpadUpsets x).westPrimary = s.westPrimary := rfl
@[simp] theorem State.setSpadUpsets_noBoot (s : State) (x : AMap Nat) : (s.setSpadUpsets x).noBoot = s.noBoot := rfl
@[simp] theorem State.setSpadUpsets_rst (s : State) (x : AMap Nat) : (s.setSpadUpsets x).rst = s.rst := rfl
@[simp] theorem State.setSpadUpsets_cores (s : State) (x : AMap Nat) : (s.setSpadUpsets x).cores = s.cores := rfl
@[simp] theorem State.setSpadUpsets_queues (s : State) (x : AMap Nat) : (s.setSpadUpsets x).queues = s.queues := rfl
@[simp] theorem State.setSpadUpsets_queueZero (s : State) (x : AMap Nat) : (s.setSpadUpsets x).queueZero = s.queueZero := rfl
@[simp] theorem State.setSpadUpsets_sems (s : State) (x : AMap Nat) : (s.setSpadUpsets x).sems = s.sems := rfl
@[simp] theorem State.setSpadUpsets_semWait (s : State) (x : AMap Nat) : (s.setSpadUpsets x).semWait = s.semWait := rfl
@[simp] theorem State.setSpadUpsets_dram (s : State) (x : AMap Nat) : (s.setSpadUpsets x).dram = s.dram := rfl
@[simp] theorem State.setSpadUpsets_upsets (s : State) (x : AMap Nat) : (s.setSpadUpsets x).upsets = s.upsets := rfl
@[simp] theorem State.setSpadUpsets_spadUpsets (s : State) (x : AMap Nat) : (s.setSpadUpsets x).spadUpsets = x := rfl
@[simp] theorem State.setSpadUpsets_ecc (s : State) (x : AMap Nat) : (s.setSpadUpsets x).ecc = s.ecc := rfl
@[simp] theorem State.setSpadUpsets_modKey (s : State) (x : AMap Nat) : (s.setSpadUpsets x).modKey = s.modKey := rfl
@[simp] theorem State.setSpadUpsets_rotation (s : State) (x : AMap Nat) : (s.setSpadUpsets x).rotation = s.rotation := rfl
@[simp] theorem State.setSpadUpsets_migr (s : State) (x : AMap Nat) : (s.setSpadUpsets x).migr = s.migr := rfl
@[simp] theorem State.setSpadUpsets_migrQueue (s : State) (x : AMap Nat) : (s.setSpadUpsets x).migrQueue = s.migrQueue := rfl
@[simp] theorem State.setSpadUpsets_pageMaps (s : State) (x : AMap Nat) : (s.setSpadUpsets x).pageMaps = s.pageMaps := rfl
@[simp] theorem State.setSpadUpsets_tlb (s : State) (x : AMap Nat) : (s.setSpadUpsets x).tlb = s.tlb := rfl
@[simp] theorem State.setSpadUpsets_kvMaps (s : State) (x : AMap Nat) : (s.setSpadUpsets x).kvMaps = s.kvMaps := rfl
@[simp] theorem State.setSpadUpsets_kvTlb (s : State) (x : AMap Nat) : (s.setSpadUpsets x).kvTlb = s.kvTlb := rfl
@[simp] theorem State.setSpadUpsets_kvDirty (s : State) (x : AMap Nat) : (s.setSpadUpsets x).kvDirty = s.kvDirty := rfl
@[simp] theorem State.setSpadUpsets_shared (s : State) (x : AMap Nat) : (s.setSpadUpsets x).shared = s.shared := rfl
@[simp] theorem State.setSpadUpsets_withdrawn (s : State) (x : AMap Nat) : (s.setSpadUpsets x).withdrawn = s.withdrawn := rfl
@[simp] theorem State.setSpadUpsets_modMem (s : State) (x : AMap Nat) : (s.setSpadUpsets x).modMem = s.modMem := rfl
@[simp] theorem State.setSpadUpsets_parts (s : State) (x : AMap Nat) : (s.setSpadUpsets x).parts = s.parts := rfl
@[simp] theorem State.setSpadUpsets_park (s : State) (x : AMap Nat) : (s.setSpadUpsets x).park = s.park := rfl
@[simp] theorem State.setSpadUpsets_sess (s : State) (x : AMap Nat) : (s.setSpadUpsets x).sess = s.sess := rfl
@[simp] theorem State.setSpadUpsets_emitted (s : State) (x : AMap Nat) : (s.setSpadUpsets x).emitted = s.emitted := rfl
@[simp] theorem State.setSpadUpsets_grammars (s : State) (x : AMap Nat) : (s.setSpadUpsets x).grammars = s.grammars := rfl
@[simp] theorem State.setSpadUpsets_adapters (s : State) (x : AMap Nat) : (s.setSpadUpsets x).adapters = s.adapters := rfl
@[simp] theorem State.setSpadUpsets_adapterLast (s : State) (x : AMap Nat) : (s.setSpadUpsets x).adapterLast = s.adapterLast := rfl
@[simp] theorem State.setSpadUpsets_video (s : State) (x : AMap Nat) : (s.setSpadUpsets x).video = s.video := rfl
@[simp] theorem State.setSpadUpsets_fw (s : State) (x : AMap Nat) : (s.setSpadUpsets x).fw = s.fw := rfl
@[simp] theorem State.setSpadUpsets_ryc (s : State) (x : AMap Nat) : (s.setSpadUpsets x).ryc = s.ryc := rfl
@[simp] theorem State.setSpadUpsets_net (s : State) (x : AMap Nat) : (s.setSpadUpsets x).net = s.net := rfl
@[simp] theorem State.setSpadUpsets_ev (s : State) (x : AMap Nat) : (s.setSpadUpsets x).ev = s.ev := rfl
@[simp] theorem State.setSpadUpsets_rel (s : State) (x : AMap Nat) : (s.setSpadUpsets x).rel = s.rel := rfl
@[simp] theorem State.setSpadUpsets_sec (s : State) (x : AMap Nat) : (s.setSpadUpsets x).sec = s.sec := rfl
@[simp] theorem State.setSpadUpsets_pow (s : State) (x : AMap Nat) : (s.setSpadUpsets x).pow = s.pow := rfl
@[simp] theorem State.setSpadUpsets_store (s : State) (x : AMap Nat) : (s.setSpadUpsets x).store = s.store := rfl
@[simp] theorem State.setSpadUpsets_od (s : State) (x : AMap Nat) : (s.setSpadUpsets x).od = s.od := rfl
@[simp] theorem State.setSpadUpsets_d2dFails (s : State) (x : AMap Nat) : (s.setSpadUpsets x).d2dFails = s.d2dFails := rfl
@[simp] theorem State.setEcc_pending (s : State) (x : List EccReport) : (s.setEcc x).pending = s.pending := rfl
@[simp] theorem State.setEcc_free (s : State) (x : List EccReport) : (s.setEcc x).free = s.free := rfl
@[simp] theorem State.setEcc_out (s : State) (x : List EccReport) : (s.setEcc x).out = s.out := rfl
@[simp] theorem State.setEcc_time (s : State) (x : List EccReport) : (s.setEcc x).time = s.time := rfl
@[simp] theorem State.setEcc_tray (s : State) (x : List EccReport) : (s.setEcc x).tray = s.tray := rfl
@[simp] theorem State.setEcc_mode (s : State) (x : List EccReport) : (s.setEcc x).mode = s.mode := rfl
@[simp] theorem State.setEcc_idle (s : State) (x : List EccReport) : (s.setEcc x).idle = s.idle := rfl
@[simp] theorem State.setEcc_entry (s : State) (x : List EccReport) : (s.setEcc x).entry = s.entry := rfl
@[simp] theorem State.setEcc_leftMode (s : State) (x : List EccReport) : (s.setEcc x).leftMode = s.leftMode := rfl
@[simp] theorem State.setEcc_wakeHeld (s : State) (x : List EccReport) : (s.setEcc x).wakeHeld = s.wakeHeld := rfl
@[simp] theorem State.setEcc_westPrimary (s : State) (x : List EccReport) : (s.setEcc x).westPrimary = s.westPrimary := rfl
@[simp] theorem State.setEcc_noBoot (s : State) (x : List EccReport) : (s.setEcc x).noBoot = s.noBoot := rfl
@[simp] theorem State.setEcc_rst (s : State) (x : List EccReport) : (s.setEcc x).rst = s.rst := rfl
@[simp] theorem State.setEcc_cores (s : State) (x : List EccReport) : (s.setEcc x).cores = s.cores := rfl
@[simp] theorem State.setEcc_queues (s : State) (x : List EccReport) : (s.setEcc x).queues = s.queues := rfl
@[simp] theorem State.setEcc_queueZero (s : State) (x : List EccReport) : (s.setEcc x).queueZero = s.queueZero := rfl
@[simp] theorem State.setEcc_sems (s : State) (x : List EccReport) : (s.setEcc x).sems = s.sems := rfl
@[simp] theorem State.setEcc_semWait (s : State) (x : List EccReport) : (s.setEcc x).semWait = s.semWait := rfl
@[simp] theorem State.setEcc_dram (s : State) (x : List EccReport) : (s.setEcc x).dram = s.dram := rfl
@[simp] theorem State.setEcc_upsets (s : State) (x : List EccReport) : (s.setEcc x).upsets = s.upsets := rfl
@[simp] theorem State.setEcc_spadUpsets (s : State) (x : List EccReport) : (s.setEcc x).spadUpsets = s.spadUpsets := rfl
@[simp] theorem State.setEcc_ecc (s : State) (x : List EccReport) : (s.setEcc x).ecc = x := rfl
@[simp] theorem State.setEcc_modKey (s : State) (x : List EccReport) : (s.setEcc x).modKey = s.modKey := rfl
@[simp] theorem State.setEcc_rotation (s : State) (x : List EccReport) : (s.setEcc x).rotation = s.rotation := rfl
@[simp] theorem State.setEcc_migr (s : State) (x : List EccReport) : (s.setEcc x).migr = s.migr := rfl
@[simp] theorem State.setEcc_migrQueue (s : State) (x : List EccReport) : (s.setEcc x).migrQueue = s.migrQueue := rfl
@[simp] theorem State.setEcc_pageMaps (s : State) (x : List EccReport) : (s.setEcc x).pageMaps = s.pageMaps := rfl
@[simp] theorem State.setEcc_tlb (s : State) (x : List EccReport) : (s.setEcc x).tlb = s.tlb := rfl
@[simp] theorem State.setEcc_kvMaps (s : State) (x : List EccReport) : (s.setEcc x).kvMaps = s.kvMaps := rfl
@[simp] theorem State.setEcc_kvTlb (s : State) (x : List EccReport) : (s.setEcc x).kvTlb = s.kvTlb := rfl
@[simp] theorem State.setEcc_kvDirty (s : State) (x : List EccReport) : (s.setEcc x).kvDirty = s.kvDirty := rfl
@[simp] theorem State.setEcc_shared (s : State) (x : List EccReport) : (s.setEcc x).shared = s.shared := rfl
@[simp] theorem State.setEcc_withdrawn (s : State) (x : List EccReport) : (s.setEcc x).withdrawn = s.withdrawn := rfl
@[simp] theorem State.setEcc_modMem (s : State) (x : List EccReport) : (s.setEcc x).modMem = s.modMem := rfl
@[simp] theorem State.setEcc_parts (s : State) (x : List EccReport) : (s.setEcc x).parts = s.parts := rfl
@[simp] theorem State.setEcc_park (s : State) (x : List EccReport) : (s.setEcc x).park = s.park := rfl
@[simp] theorem State.setEcc_sess (s : State) (x : List EccReport) : (s.setEcc x).sess = s.sess := rfl
@[simp] theorem State.setEcc_emitted (s : State) (x : List EccReport) : (s.setEcc x).emitted = s.emitted := rfl
@[simp] theorem State.setEcc_grammars (s : State) (x : List EccReport) : (s.setEcc x).grammars = s.grammars := rfl
@[simp] theorem State.setEcc_adapters (s : State) (x : List EccReport) : (s.setEcc x).adapters = s.adapters := rfl
@[simp] theorem State.setEcc_adapterLast (s : State) (x : List EccReport) : (s.setEcc x).adapterLast = s.adapterLast := rfl
@[simp] theorem State.setEcc_video (s : State) (x : List EccReport) : (s.setEcc x).video = s.video := rfl
@[simp] theorem State.setEcc_fw (s : State) (x : List EccReport) : (s.setEcc x).fw = s.fw := rfl
@[simp] theorem State.setEcc_ryc (s : State) (x : List EccReport) : (s.setEcc x).ryc = s.ryc := rfl
@[simp] theorem State.setEcc_net (s : State) (x : List EccReport) : (s.setEcc x).net = s.net := rfl
@[simp] theorem State.setEcc_ev (s : State) (x : List EccReport) : (s.setEcc x).ev = s.ev := rfl
@[simp] theorem State.setEcc_rel (s : State) (x : List EccReport) : (s.setEcc x).rel = s.rel := rfl
@[simp] theorem State.setEcc_sec (s : State) (x : List EccReport) : (s.setEcc x).sec = s.sec := rfl
@[simp] theorem State.setEcc_pow (s : State) (x : List EccReport) : (s.setEcc x).pow = s.pow := rfl
@[simp] theorem State.setEcc_store (s : State) (x : List EccReport) : (s.setEcc x).store = s.store := rfl
@[simp] theorem State.setEcc_od (s : State) (x : List EccReport) : (s.setEcc x).od = s.od := rfl
@[simp] theorem State.setEcc_d2dFails (s : State) (x : List EccReport) : (s.setEcc x).d2dFails = s.d2dFails := rfl
@[simp] theorem State.setModKey_pending (s : State) (x : Nat) : (s.setModKey x).pending = s.pending := rfl
@[simp] theorem State.setModKey_free (s : State) (x : Nat) : (s.setModKey x).free = s.free := rfl
@[simp] theorem State.setModKey_out (s : State) (x : Nat) : (s.setModKey x).out = s.out := rfl
@[simp] theorem State.setModKey_time (s : State) (x : Nat) : (s.setModKey x).time = s.time := rfl
@[simp] theorem State.setModKey_tray (s : State) (x : Nat) : (s.setModKey x).tray = s.tray := rfl
@[simp] theorem State.setModKey_mode (s : State) (x : Nat) : (s.setModKey x).mode = s.mode := rfl
@[simp] theorem State.setModKey_idle (s : State) (x : Nat) : (s.setModKey x).idle = s.idle := rfl
@[simp] theorem State.setModKey_entry (s : State) (x : Nat) : (s.setModKey x).entry = s.entry := rfl
@[simp] theorem State.setModKey_leftMode (s : State) (x : Nat) : (s.setModKey x).leftMode = s.leftMode := rfl
@[simp] theorem State.setModKey_wakeHeld (s : State) (x : Nat) : (s.setModKey x).wakeHeld = s.wakeHeld := rfl
@[simp] theorem State.setModKey_westPrimary (s : State) (x : Nat) : (s.setModKey x).westPrimary = s.westPrimary := rfl
@[simp] theorem State.setModKey_noBoot (s : State) (x : Nat) : (s.setModKey x).noBoot = s.noBoot := rfl
@[simp] theorem State.setModKey_rst (s : State) (x : Nat) : (s.setModKey x).rst = s.rst := rfl
@[simp] theorem State.setModKey_cores (s : State) (x : Nat) : (s.setModKey x).cores = s.cores := rfl
@[simp] theorem State.setModKey_queues (s : State) (x : Nat) : (s.setModKey x).queues = s.queues := rfl
@[simp] theorem State.setModKey_queueZero (s : State) (x : Nat) : (s.setModKey x).queueZero = s.queueZero := rfl
@[simp] theorem State.setModKey_sems (s : State) (x : Nat) : (s.setModKey x).sems = s.sems := rfl
@[simp] theorem State.setModKey_semWait (s : State) (x : Nat) : (s.setModKey x).semWait = s.semWait := rfl
@[simp] theorem State.setModKey_dram (s : State) (x : Nat) : (s.setModKey x).dram = s.dram := rfl
@[simp] theorem State.setModKey_upsets (s : State) (x : Nat) : (s.setModKey x).upsets = s.upsets := rfl
@[simp] theorem State.setModKey_spadUpsets (s : State) (x : Nat) : (s.setModKey x).spadUpsets = s.spadUpsets := rfl
@[simp] theorem State.setModKey_ecc (s : State) (x : Nat) : (s.setModKey x).ecc = s.ecc := rfl
@[simp] theorem State.setModKey_modKey (s : State) (x : Nat) : (s.setModKey x).modKey = x := rfl
@[simp] theorem State.setModKey_rotation (s : State) (x : Nat) : (s.setModKey x).rotation = s.rotation := rfl
@[simp] theorem State.setModKey_migr (s : State) (x : Nat) : (s.setModKey x).migr = s.migr := rfl
@[simp] theorem State.setModKey_migrQueue (s : State) (x : Nat) : (s.setModKey x).migrQueue = s.migrQueue := rfl
@[simp] theorem State.setModKey_pageMaps (s : State) (x : Nat) : (s.setModKey x).pageMaps = s.pageMaps := rfl
@[simp] theorem State.setModKey_tlb (s : State) (x : Nat) : (s.setModKey x).tlb = s.tlb := rfl
@[simp] theorem State.setModKey_kvMaps (s : State) (x : Nat) : (s.setModKey x).kvMaps = s.kvMaps := rfl
@[simp] theorem State.setModKey_kvTlb (s : State) (x : Nat) : (s.setModKey x).kvTlb = s.kvTlb := rfl
@[simp] theorem State.setModKey_kvDirty (s : State) (x : Nat) : (s.setModKey x).kvDirty = s.kvDirty := rfl
@[simp] theorem State.setModKey_shared (s : State) (x : Nat) : (s.setModKey x).shared = s.shared := rfl
@[simp] theorem State.setModKey_withdrawn (s : State) (x : Nat) : (s.setModKey x).withdrawn = s.withdrawn := rfl
@[simp] theorem State.setModKey_modMem (s : State) (x : Nat) : (s.setModKey x).modMem = s.modMem := rfl
@[simp] theorem State.setModKey_parts (s : State) (x : Nat) : (s.setModKey x).parts = s.parts := rfl
@[simp] theorem State.setModKey_park (s : State) (x : Nat) : (s.setModKey x).park = s.park := rfl
@[simp] theorem State.setModKey_sess (s : State) (x : Nat) : (s.setModKey x).sess = s.sess := rfl
@[simp] theorem State.setModKey_emitted (s : State) (x : Nat) : (s.setModKey x).emitted = s.emitted := rfl
@[simp] theorem State.setModKey_grammars (s : State) (x : Nat) : (s.setModKey x).grammars = s.grammars := rfl
@[simp] theorem State.setModKey_adapters (s : State) (x : Nat) : (s.setModKey x).adapters = s.adapters := rfl
@[simp] theorem State.setModKey_adapterLast (s : State) (x : Nat) : (s.setModKey x).adapterLast = s.adapterLast := rfl
@[simp] theorem State.setModKey_video (s : State) (x : Nat) : (s.setModKey x).video = s.video := rfl
@[simp] theorem State.setModKey_fw (s : State) (x : Nat) : (s.setModKey x).fw = s.fw := rfl
@[simp] theorem State.setModKey_ryc (s : State) (x : Nat) : (s.setModKey x).ryc = s.ryc := rfl
@[simp] theorem State.setModKey_net (s : State) (x : Nat) : (s.setModKey x).net = s.net := rfl
@[simp] theorem State.setModKey_ev (s : State) (x : Nat) : (s.setModKey x).ev = s.ev := rfl
@[simp] theorem State.setModKey_rel (s : State) (x : Nat) : (s.setModKey x).rel = s.rel := rfl
@[simp] theorem State.setModKey_sec (s : State) (x : Nat) : (s.setModKey x).sec = s.sec := rfl
@[simp] theorem State.setModKey_pow (s : State) (x : Nat) : (s.setModKey x).pow = s.pow := rfl
@[simp] theorem State.setModKey_store (s : State) (x : Nat) : (s.setModKey x).store = s.store := rfl
@[simp] theorem State.setModKey_od (s : State) (x : Nat) : (s.setModKey x).od = s.od := rfl
@[simp] theorem State.setModKey_d2dFails (s : State) (x : Nat) : (s.setModKey x).d2dFails = s.d2dFails := rfl
@[simp] theorem State.setRotation_pending (s : State) (x : List Nat × List Nat) : (s.setRotation x).pending = s.pending := rfl
@[simp] theorem State.setRotation_free (s : State) (x : List Nat × List Nat) : (s.setRotation x).free = s.free := rfl
@[simp] theorem State.setRotation_out (s : State) (x : List Nat × List Nat) : (s.setRotation x).out = s.out := rfl
@[simp] theorem State.setRotation_time (s : State) (x : List Nat × List Nat) : (s.setRotation x).time = s.time := rfl
@[simp] theorem State.setRotation_tray (s : State) (x : List Nat × List Nat) : (s.setRotation x).tray = s.tray := rfl
@[simp] theorem State.setRotation_mode (s : State) (x : List Nat × List Nat) : (s.setRotation x).mode = s.mode := rfl
@[simp] theorem State.setRotation_idle (s : State) (x : List Nat × List Nat) : (s.setRotation x).idle = s.idle := rfl
@[simp] theorem State.setRotation_entry (s : State) (x : List Nat × List Nat) : (s.setRotation x).entry = s.entry := rfl
@[simp] theorem State.setRotation_leftMode (s : State) (x : List Nat × List Nat) : (s.setRotation x).leftMode = s.leftMode := rfl
@[simp] theorem State.setRotation_wakeHeld (s : State) (x : List Nat × List Nat) : (s.setRotation x).wakeHeld = s.wakeHeld := rfl
@[simp] theorem State.setRotation_westPrimary (s : State) (x : List Nat × List Nat) : (s.setRotation x).westPrimary = s.westPrimary := rfl
@[simp] theorem State.setRotation_noBoot (s : State) (x : List Nat × List Nat) : (s.setRotation x).noBoot = s.noBoot := rfl
@[simp] theorem State.setRotation_rst (s : State) (x : List Nat × List Nat) : (s.setRotation x).rst = s.rst := rfl
@[simp] theorem State.setRotation_cores (s : State) (x : List Nat × List Nat) : (s.setRotation x).cores = s.cores := rfl
@[simp] theorem State.setRotation_queues (s : State) (x : List Nat × List Nat) : (s.setRotation x).queues = s.queues := rfl
@[simp] theorem State.setRotation_queueZero (s : State) (x : List Nat × List Nat) : (s.setRotation x).queueZero = s.queueZero := rfl
@[simp] theorem State.setRotation_sems (s : State) (x : List Nat × List Nat) : (s.setRotation x).sems = s.sems := rfl
@[simp] theorem State.setRotation_semWait (s : State) (x : List Nat × List Nat) : (s.setRotation x).semWait = s.semWait := rfl
@[simp] theorem State.setRotation_dram (s : State) (x : List Nat × List Nat) : (s.setRotation x).dram = s.dram := rfl
@[simp] theorem State.setRotation_upsets (s : State) (x : List Nat × List Nat) : (s.setRotation x).upsets = s.upsets := rfl
@[simp] theorem State.setRotation_spadUpsets (s : State) (x : List Nat × List Nat) : (s.setRotation x).spadUpsets = s.spadUpsets := rfl
@[simp] theorem State.setRotation_ecc (s : State) (x : List Nat × List Nat) : (s.setRotation x).ecc = s.ecc := rfl
@[simp] theorem State.setRotation_modKey (s : State) (x : List Nat × List Nat) : (s.setRotation x).modKey = s.modKey := rfl
@[simp] theorem State.setRotation_rotation (s : State) (x : List Nat × List Nat) : (s.setRotation x).rotation = x := rfl
@[simp] theorem State.setRotation_migr (s : State) (x : List Nat × List Nat) : (s.setRotation x).migr = s.migr := rfl
@[simp] theorem State.setRotation_migrQueue (s : State) (x : List Nat × List Nat) : (s.setRotation x).migrQueue = s.migrQueue := rfl
@[simp] theorem State.setRotation_pageMaps (s : State) (x : List Nat × List Nat) : (s.setRotation x).pageMaps = s.pageMaps := rfl
@[simp] theorem State.setRotation_tlb (s : State) (x : List Nat × List Nat) : (s.setRotation x).tlb = s.tlb := rfl
@[simp] theorem State.setRotation_kvMaps (s : State) (x : List Nat × List Nat) : (s.setRotation x).kvMaps = s.kvMaps := rfl
@[simp] theorem State.setRotation_kvTlb (s : State) (x : List Nat × List Nat) : (s.setRotation x).kvTlb = s.kvTlb := rfl
@[simp] theorem State.setRotation_kvDirty (s : State) (x : List Nat × List Nat) : (s.setRotation x).kvDirty = s.kvDirty := rfl
@[simp] theorem State.setRotation_shared (s : State) (x : List Nat × List Nat) : (s.setRotation x).shared = s.shared := rfl
@[simp] theorem State.setRotation_withdrawn (s : State) (x : List Nat × List Nat) : (s.setRotation x).withdrawn = s.withdrawn := rfl
@[simp] theorem State.setRotation_modMem (s : State) (x : List Nat × List Nat) : (s.setRotation x).modMem = s.modMem := rfl
@[simp] theorem State.setRotation_parts (s : State) (x : List Nat × List Nat) : (s.setRotation x).parts = s.parts := rfl
@[simp] theorem State.setRotation_park (s : State) (x : List Nat × List Nat) : (s.setRotation x).park = s.park := rfl
@[simp] theorem State.setRotation_sess (s : State) (x : List Nat × List Nat) : (s.setRotation x).sess = s.sess := rfl
@[simp] theorem State.setRotation_emitted (s : State) (x : List Nat × List Nat) : (s.setRotation x).emitted = s.emitted := rfl
@[simp] theorem State.setRotation_grammars (s : State) (x : List Nat × List Nat) : (s.setRotation x).grammars = s.grammars := rfl
@[simp] theorem State.setRotation_adapters (s : State) (x : List Nat × List Nat) : (s.setRotation x).adapters = s.adapters := rfl
@[simp] theorem State.setRotation_adapterLast (s : State) (x : List Nat × List Nat) : (s.setRotation x).adapterLast = s.adapterLast := rfl
@[simp] theorem State.setRotation_video (s : State) (x : List Nat × List Nat) : (s.setRotation x).video = s.video := rfl
@[simp] theorem State.setRotation_fw (s : State) (x : List Nat × List Nat) : (s.setRotation x).fw = s.fw := rfl
@[simp] theorem State.setRotation_ryc (s : State) (x : List Nat × List Nat) : (s.setRotation x).ryc = s.ryc := rfl
@[simp] theorem State.setRotation_net (s : State) (x : List Nat × List Nat) : (s.setRotation x).net = s.net := rfl
@[simp] theorem State.setRotation_ev (s : State) (x : List Nat × List Nat) : (s.setRotation x).ev = s.ev := rfl
@[simp] theorem State.setRotation_rel (s : State) (x : List Nat × List Nat) : (s.setRotation x).rel = s.rel := rfl
@[simp] theorem State.setRotation_sec (s : State) (x : List Nat × List Nat) : (s.setRotation x).sec = s.sec := rfl
@[simp] theorem State.setRotation_pow (s : State) (x : List Nat × List Nat) : (s.setRotation x).pow = s.pow := rfl
@[simp] theorem State.setRotation_store (s : State) (x : List Nat × List Nat) : (s.setRotation x).store = s.store := rfl
@[simp] theorem State.setRotation_od (s : State) (x : List Nat × List Nat) : (s.setRotation x).od = s.od := rfl
@[simp] theorem State.setRotation_d2dFails (s : State) (x : List Nat × List Nat) : (s.setRotation x).d2dFails = s.d2dFails := rfl
@[simp] theorem State.setMigr_pending (s : State) (x : AMap Migr) : (s.setMigr x).pending = s.pending := rfl
@[simp] theorem State.setMigr_free (s : State) (x : AMap Migr) : (s.setMigr x).free = s.free := rfl
@[simp] theorem State.setMigr_out (s : State) (x : AMap Migr) : (s.setMigr x).out = s.out := rfl
@[simp] theorem State.setMigr_time (s : State) (x : AMap Migr) : (s.setMigr x).time = s.time := rfl
@[simp] theorem State.setMigr_tray (s : State) (x : AMap Migr) : (s.setMigr x).tray = s.tray := rfl
@[simp] theorem State.setMigr_mode (s : State) (x : AMap Migr) : (s.setMigr x).mode = s.mode := rfl
@[simp] theorem State.setMigr_idle (s : State) (x : AMap Migr) : (s.setMigr x).idle = s.idle := rfl
@[simp] theorem State.setMigr_entry (s : State) (x : AMap Migr) : (s.setMigr x).entry = s.entry := rfl
@[simp] theorem State.setMigr_leftMode (s : State) (x : AMap Migr) : (s.setMigr x).leftMode = s.leftMode := rfl
@[simp] theorem State.setMigr_wakeHeld (s : State) (x : AMap Migr) : (s.setMigr x).wakeHeld = s.wakeHeld := rfl
@[simp] theorem State.setMigr_westPrimary (s : State) (x : AMap Migr) : (s.setMigr x).westPrimary = s.westPrimary := rfl
@[simp] theorem State.setMigr_noBoot (s : State) (x : AMap Migr) : (s.setMigr x).noBoot = s.noBoot := rfl
@[simp] theorem State.setMigr_rst (s : State) (x : AMap Migr) : (s.setMigr x).rst = s.rst := rfl
@[simp] theorem State.setMigr_cores (s : State) (x : AMap Migr) : (s.setMigr x).cores = s.cores := rfl
@[simp] theorem State.setMigr_queues (s : State) (x : AMap Migr) : (s.setMigr x).queues = s.queues := rfl
@[simp] theorem State.setMigr_queueZero (s : State) (x : AMap Migr) : (s.setMigr x).queueZero = s.queueZero := rfl
@[simp] theorem State.setMigr_sems (s : State) (x : AMap Migr) : (s.setMigr x).sems = s.sems := rfl
@[simp] theorem State.setMigr_semWait (s : State) (x : AMap Migr) : (s.setMigr x).semWait = s.semWait := rfl
@[simp] theorem State.setMigr_dram (s : State) (x : AMap Migr) : (s.setMigr x).dram = s.dram := rfl
@[simp] theorem State.setMigr_upsets (s : State) (x : AMap Migr) : (s.setMigr x).upsets = s.upsets := rfl
@[simp] theorem State.setMigr_spadUpsets (s : State) (x : AMap Migr) : (s.setMigr x).spadUpsets = s.spadUpsets := rfl
@[simp] theorem State.setMigr_ecc (s : State) (x : AMap Migr) : (s.setMigr x).ecc = s.ecc := rfl
@[simp] theorem State.setMigr_modKey (s : State) (x : AMap Migr) : (s.setMigr x).modKey = s.modKey := rfl
@[simp] theorem State.setMigr_rotation (s : State) (x : AMap Migr) : (s.setMigr x).rotation = s.rotation := rfl
@[simp] theorem State.setMigr_migr (s : State) (x : AMap Migr) : (s.setMigr x).migr = x := rfl
@[simp] theorem State.setMigr_migrQueue (s : State) (x : AMap Migr) : (s.setMigr x).migrQueue = s.migrQueue := rfl
@[simp] theorem State.setMigr_pageMaps (s : State) (x : AMap Migr) : (s.setMigr x).pageMaps = s.pageMaps := rfl
@[simp] theorem State.setMigr_tlb (s : State) (x : AMap Migr) : (s.setMigr x).tlb = s.tlb := rfl
@[simp] theorem State.setMigr_kvMaps (s : State) (x : AMap Migr) : (s.setMigr x).kvMaps = s.kvMaps := rfl
@[simp] theorem State.setMigr_kvTlb (s : State) (x : AMap Migr) : (s.setMigr x).kvTlb = s.kvTlb := rfl
@[simp] theorem State.setMigr_kvDirty (s : State) (x : AMap Migr) : (s.setMigr x).kvDirty = s.kvDirty := rfl
@[simp] theorem State.setMigr_shared (s : State) (x : AMap Migr) : (s.setMigr x).shared = s.shared := rfl
@[simp] theorem State.setMigr_withdrawn (s : State) (x : AMap Migr) : (s.setMigr x).withdrawn = s.withdrawn := rfl
@[simp] theorem State.setMigr_modMem (s : State) (x : AMap Migr) : (s.setMigr x).modMem = s.modMem := rfl
@[simp] theorem State.setMigr_parts (s : State) (x : AMap Migr) : (s.setMigr x).parts = s.parts := rfl
@[simp] theorem State.setMigr_park (s : State) (x : AMap Migr) : (s.setMigr x).park = s.park := rfl
@[simp] theorem State.setMigr_sess (s : State) (x : AMap Migr) : (s.setMigr x).sess = s.sess := rfl
@[simp] theorem State.setMigr_emitted (s : State) (x : AMap Migr) : (s.setMigr x).emitted = s.emitted := rfl
@[simp] theorem State.setMigr_grammars (s : State) (x : AMap Migr) : (s.setMigr x).grammars = s.grammars := rfl
@[simp] theorem State.setMigr_adapters (s : State) (x : AMap Migr) : (s.setMigr x).adapters = s.adapters := rfl
@[simp] theorem State.setMigr_adapterLast (s : State) (x : AMap Migr) : (s.setMigr x).adapterLast = s.adapterLast := rfl
@[simp] theorem State.setMigr_video (s : State) (x : AMap Migr) : (s.setMigr x).video = s.video := rfl
@[simp] theorem State.setMigr_fw (s : State) (x : AMap Migr) : (s.setMigr x).fw = s.fw := rfl
@[simp] theorem State.setMigr_ryc (s : State) (x : AMap Migr) : (s.setMigr x).ryc = s.ryc := rfl
@[simp] theorem State.setMigr_net (s : State) (x : AMap Migr) : (s.setMigr x).net = s.net := rfl
@[simp] theorem State.setMigr_ev (s : State) (x : AMap Migr) : (s.setMigr x).ev = s.ev := rfl
@[simp] theorem State.setMigr_rel (s : State) (x : AMap Migr) : (s.setMigr x).rel = s.rel := rfl
@[simp] theorem State.setMigr_sec (s : State) (x : AMap Migr) : (s.setMigr x).sec = s.sec := rfl
@[simp] theorem State.setMigr_pow (s : State) (x : AMap Migr) : (s.setMigr x).pow = s.pow := rfl
@[simp] theorem State.setMigr_store (s : State) (x : AMap Migr) : (s.setMigr x).store = s.store := rfl
@[simp] theorem State.setMigr_od (s : State) (x : AMap Migr) : (s.setMigr x).od = s.od := rfl
@[simp] theorem State.setMigr_d2dFails (s : State) (x : AMap Migr) : (s.setMigr x).d2dFails = s.d2dFails := rfl
@[simp] theorem State.setMigrQueue_pending (s : State) (x : List (Nat × Nat)) : (s.setMigrQueue x).pending = s.pending := rfl
@[simp] theorem State.setMigrQueue_free (s : State) (x : List (Nat × Nat)) : (s.setMigrQueue x).free = s.free := rfl
@[simp] theorem State.setMigrQueue_out (s : State) (x : List (Nat × Nat)) : (s.setMigrQueue x).out = s.out := rfl
@[simp] theorem State.setMigrQueue_time (s : State) (x : List (Nat × Nat)) : (s.setMigrQueue x).time = s.time := rfl
@[simp] theorem State.setMigrQueue_tray (s : State) (x : List (Nat × Nat)) : (s.setMigrQueue x).tray = s.tray := rfl
@[simp] theorem State.setMigrQueue_mode (s : State) (x : List (Nat × Nat)) : (s.setMigrQueue x).mode = s.mode := rfl
@[simp] theorem State.setMigrQueue_idle (s : State) (x : List (Nat × Nat)) : (s.setMigrQueue x).idle = s.idle := rfl
@[simp] theorem State.setMigrQueue_entry (s : State) (x : List (Nat × Nat)) : (s.setMigrQueue x).entry = s.entry := rfl
@[simp] theorem State.setMigrQueue_leftMode (s : State) (x : List (Nat × Nat)) : (s.setMigrQueue x).leftMode = s.leftMode := rfl
@[simp] theorem State.setMigrQueue_wakeHeld (s : State) (x : List (Nat × Nat)) : (s.setMigrQueue x).wakeHeld = s.wakeHeld := rfl
@[simp] theorem State.setMigrQueue_westPrimary (s : State) (x : List (Nat × Nat)) : (s.setMigrQueue x).westPrimary = s.westPrimary := rfl
@[simp] theorem State.setMigrQueue_noBoot (s : State) (x : List (Nat × Nat)) : (s.setMigrQueue x).noBoot = s.noBoot := rfl
@[simp] theorem State.setMigrQueue_rst (s : State) (x : List (Nat × Nat)) : (s.setMigrQueue x).rst = s.rst := rfl
@[simp] theorem State.setMigrQueue_cores (s : State) (x : List (Nat × Nat)) : (s.setMigrQueue x).cores = s.cores := rfl
@[simp] theorem State.setMigrQueue_queues (s : State) (x : List (Nat × Nat)) : (s.setMigrQueue x).queues = s.queues := rfl
@[simp] theorem State.setMigrQueue_queueZero (s : State) (x : List (Nat × Nat)) : (s.setMigrQueue x).queueZero = s.queueZero := rfl
@[simp] theorem State.setMigrQueue_sems (s : State) (x : List (Nat × Nat)) : (s.setMigrQueue x).sems = s.sems := rfl
@[simp] theorem State.setMigrQueue_semWait (s : State) (x : List (Nat × Nat)) : (s.setMigrQueue x).semWait = s.semWait := rfl
@[simp] theorem State.setMigrQueue_dram (s : State) (x : List (Nat × Nat)) : (s.setMigrQueue x).dram = s.dram := rfl
@[simp] theorem State.setMigrQueue_upsets (s : State) (x : List (Nat × Nat)) : (s.setMigrQueue x).upsets = s.upsets := rfl
@[simp] theorem State.setMigrQueue_spadUpsets (s : State) (x : List (Nat × Nat)) : (s.setMigrQueue x).spadUpsets = s.spadUpsets := rfl
@[simp] theorem State.setMigrQueue_ecc (s : State) (x : List (Nat × Nat)) : (s.setMigrQueue x).ecc = s.ecc := rfl
@[simp] theorem State.setMigrQueue_modKey (s : State) (x : List (Nat × Nat)) : (s.setMigrQueue x).modKey = s.modKey := rfl
@[simp] theorem State.setMigrQueue_rotation (s : State) (x : List (Nat × Nat)) : (s.setMigrQueue x).rotation = s.rotation := rfl
@[simp] theorem State.setMigrQueue_migr (s : State) (x : List (Nat × Nat)) : (s.setMigrQueue x).migr = s.migr := rfl
@[simp] theorem State.setMigrQueue_migrQueue (s : State) (x : List (Nat × Nat)) : (s.setMigrQueue x).migrQueue = x := rfl
@[simp] theorem State.setMigrQueue_pageMaps (s : State) (x : List (Nat × Nat)) : (s.setMigrQueue x).pageMaps = s.pageMaps := rfl
@[simp] theorem State.setMigrQueue_tlb (s : State) (x : List (Nat × Nat)) : (s.setMigrQueue x).tlb = s.tlb := rfl
@[simp] theorem State.setMigrQueue_kvMaps (s : State) (x : List (Nat × Nat)) : (s.setMigrQueue x).kvMaps = s.kvMaps := rfl
@[simp] theorem State.setMigrQueue_kvTlb (s : State) (x : List (Nat × Nat)) : (s.setMigrQueue x).kvTlb = s.kvTlb := rfl
@[simp] theorem State.setMigrQueue_kvDirty (s : State) (x : List (Nat × Nat)) : (s.setMigrQueue x).kvDirty = s.kvDirty := rfl
@[simp] theorem State.setMigrQueue_shared (s : State) (x : List (Nat × Nat)) : (s.setMigrQueue x).shared = s.shared := rfl
@[simp] theorem State.setMigrQueue_withdrawn (s : State) (x : List (Nat × Nat)) : (s.setMigrQueue x).withdrawn = s.withdrawn := rfl
@[simp] theorem State.setMigrQueue_modMem (s : State) (x : List (Nat × Nat)) : (s.setMigrQueue x).modMem = s.modMem := rfl
@[simp] theorem State.setMigrQueue_parts (s : State) (x : List (Nat × Nat)) : (s.setMigrQueue x).parts = s.parts := rfl
@[simp] theorem State.setMigrQueue_park (s : State) (x : List (Nat × Nat)) : (s.setMigrQueue x).park = s.park := rfl
@[simp] theorem State.setMigrQueue_sess (s : State) (x : List (Nat × Nat)) : (s.setMigrQueue x).sess = s.sess := rfl
@[simp] theorem State.setMigrQueue_emitted (s : State) (x : List (Nat × Nat)) : (s.setMigrQueue x).emitted = s.emitted := rfl
@[simp] theorem State.setMigrQueue_grammars (s : State) (x : List (Nat × Nat)) : (s.setMigrQueue x).grammars = s.grammars := rfl
@[simp] theorem State.setMigrQueue_adapters (s : State) (x : List (Nat × Nat)) : (s.setMigrQueue x).adapters = s.adapters := rfl
@[simp] theorem State.setMigrQueue_adapterLast (s : State) (x : List (Nat × Nat)) : (s.setMigrQueue x).adapterLast = s.adapterLast := rfl
@[simp] theorem State.setMigrQueue_video (s : State) (x : List (Nat × Nat)) : (s.setMigrQueue x).video = s.video := rfl
@[simp] theorem State.setMigrQueue_fw (s : State) (x : List (Nat × Nat)) : (s.setMigrQueue x).fw = s.fw := rfl
@[simp] theorem State.setMigrQueue_ryc (s : State) (x : List (Nat × Nat)) : (s.setMigrQueue x).ryc = s.ryc := rfl
@[simp] theorem State.setMigrQueue_net (s : State) (x : List (Nat × Nat)) : (s.setMigrQueue x).net = s.net := rfl
@[simp] theorem State.setMigrQueue_ev (s : State) (x : List (Nat × Nat)) : (s.setMigrQueue x).ev = s.ev := rfl
@[simp] theorem State.setMigrQueue_rel (s : State) (x : List (Nat × Nat)) : (s.setMigrQueue x).rel = s.rel := rfl
@[simp] theorem State.setMigrQueue_sec (s : State) (x : List (Nat × Nat)) : (s.setMigrQueue x).sec = s.sec := rfl
@[simp] theorem State.setMigrQueue_pow (s : State) (x : List (Nat × Nat)) : (s.setMigrQueue x).pow = s.pow := rfl
@[simp] theorem State.setMigrQueue_store (s : State) (x : List (Nat × Nat)) : (s.setMigrQueue x).store = s.store := rfl
@[simp] theorem State.setMigrQueue_od (s : State) (x : List (Nat × Nat)) : (s.setMigrQueue x).od = s.od := rfl
@[simp] theorem State.setMigrQueue_d2dFails (s : State) (x : List (Nat × Nat)) : (s.setMigrQueue x).d2dFails = s.d2dFails := rfl
@[simp] theorem State.setPageMaps_pending (s : State) (x : AMap Nat) : (s.setPageMaps x).pending = s.pending := rfl
@[simp] theorem State.setPageMaps_free (s : State) (x : AMap Nat) : (s.setPageMaps x).free = s.free := rfl
@[simp] theorem State.setPageMaps_out (s : State) (x : AMap Nat) : (s.setPageMaps x).out = s.out := rfl
@[simp] theorem State.setPageMaps_time (s : State) (x : AMap Nat) : (s.setPageMaps x).time = s.time := rfl
@[simp] theorem State.setPageMaps_tray (s : State) (x : AMap Nat) : (s.setPageMaps x).tray = s.tray := rfl
@[simp] theorem State.setPageMaps_mode (s : State) (x : AMap Nat) : (s.setPageMaps x).mode = s.mode := rfl
@[simp] theorem State.setPageMaps_idle (s : State) (x : AMap Nat) : (s.setPageMaps x).idle = s.idle := rfl
@[simp] theorem State.setPageMaps_entry (s : State) (x : AMap Nat) : (s.setPageMaps x).entry = s.entry := rfl
@[simp] theorem State.setPageMaps_leftMode (s : State) (x : AMap Nat) : (s.setPageMaps x).leftMode = s.leftMode := rfl
@[simp] theorem State.setPageMaps_wakeHeld (s : State) (x : AMap Nat) : (s.setPageMaps x).wakeHeld = s.wakeHeld := rfl
@[simp] theorem State.setPageMaps_westPrimary (s : State) (x : AMap Nat) : (s.setPageMaps x).westPrimary = s.westPrimary := rfl
@[simp] theorem State.setPageMaps_noBoot (s : State) (x : AMap Nat) : (s.setPageMaps x).noBoot = s.noBoot := rfl
@[simp] theorem State.setPageMaps_rst (s : State) (x : AMap Nat) : (s.setPageMaps x).rst = s.rst := rfl
@[simp] theorem State.setPageMaps_cores (s : State) (x : AMap Nat) : (s.setPageMaps x).cores = s.cores := rfl
@[simp] theorem State.setPageMaps_queues (s : State) (x : AMap Nat) : (s.setPageMaps x).queues = s.queues := rfl
@[simp] theorem State.setPageMaps_queueZero (s : State) (x : AMap Nat) : (s.setPageMaps x).queueZero = s.queueZero := rfl
@[simp] theorem State.setPageMaps_sems (s : State) (x : AMap Nat) : (s.setPageMaps x).sems = s.sems := rfl
@[simp] theorem State.setPageMaps_semWait (s : State) (x : AMap Nat) : (s.setPageMaps x).semWait = s.semWait := rfl
@[simp] theorem State.setPageMaps_dram (s : State) (x : AMap Nat) : (s.setPageMaps x).dram = s.dram := rfl
@[simp] theorem State.setPageMaps_upsets (s : State) (x : AMap Nat) : (s.setPageMaps x).upsets = s.upsets := rfl
@[simp] theorem State.setPageMaps_spadUpsets (s : State) (x : AMap Nat) : (s.setPageMaps x).spadUpsets = s.spadUpsets := rfl
@[simp] theorem State.setPageMaps_ecc (s : State) (x : AMap Nat) : (s.setPageMaps x).ecc = s.ecc := rfl
@[simp] theorem State.setPageMaps_modKey (s : State) (x : AMap Nat) : (s.setPageMaps x).modKey = s.modKey := rfl
@[simp] theorem State.setPageMaps_rotation (s : State) (x : AMap Nat) : (s.setPageMaps x).rotation = s.rotation := rfl
@[simp] theorem State.setPageMaps_migr (s : State) (x : AMap Nat) : (s.setPageMaps x).migr = s.migr := rfl
@[simp] theorem State.setPageMaps_migrQueue (s : State) (x : AMap Nat) : (s.setPageMaps x).migrQueue = s.migrQueue := rfl
@[simp] theorem State.setPageMaps_pageMaps (s : State) (x : AMap Nat) : (s.setPageMaps x).pageMaps = x := rfl
@[simp] theorem State.setPageMaps_tlb (s : State) (x : AMap Nat) : (s.setPageMaps x).tlb = s.tlb := rfl
@[simp] theorem State.setPageMaps_kvMaps (s : State) (x : AMap Nat) : (s.setPageMaps x).kvMaps = s.kvMaps := rfl
@[simp] theorem State.setPageMaps_kvTlb (s : State) (x : AMap Nat) : (s.setPageMaps x).kvTlb = s.kvTlb := rfl
@[simp] theorem State.setPageMaps_kvDirty (s : State) (x : AMap Nat) : (s.setPageMaps x).kvDirty = s.kvDirty := rfl
@[simp] theorem State.setPageMaps_shared (s : State) (x : AMap Nat) : (s.setPageMaps x).shared = s.shared := rfl
@[simp] theorem State.setPageMaps_withdrawn (s : State) (x : AMap Nat) : (s.setPageMaps x).withdrawn = s.withdrawn := rfl
@[simp] theorem State.setPageMaps_modMem (s : State) (x : AMap Nat) : (s.setPageMaps x).modMem = s.modMem := rfl
@[simp] theorem State.setPageMaps_parts (s : State) (x : AMap Nat) : (s.setPageMaps x).parts = s.parts := rfl
@[simp] theorem State.setPageMaps_park (s : State) (x : AMap Nat) : (s.setPageMaps x).park = s.park := rfl
@[simp] theorem State.setPageMaps_sess (s : State) (x : AMap Nat) : (s.setPageMaps x).sess = s.sess := rfl
@[simp] theorem State.setPageMaps_emitted (s : State) (x : AMap Nat) : (s.setPageMaps x).emitted = s.emitted := rfl
@[simp] theorem State.setPageMaps_grammars (s : State) (x : AMap Nat) : (s.setPageMaps x).grammars = s.grammars := rfl
@[simp] theorem State.setPageMaps_adapters (s : State) (x : AMap Nat) : (s.setPageMaps x).adapters = s.adapters := rfl
@[simp] theorem State.setPageMaps_adapterLast (s : State) (x : AMap Nat) : (s.setPageMaps x).adapterLast = s.adapterLast := rfl
@[simp] theorem State.setPageMaps_video (s : State) (x : AMap Nat) : (s.setPageMaps x).video = s.video := rfl
@[simp] theorem State.setPageMaps_fw (s : State) (x : AMap Nat) : (s.setPageMaps x).fw = s.fw := rfl
@[simp] theorem State.setPageMaps_ryc (s : State) (x : AMap Nat) : (s.setPageMaps x).ryc = s.ryc := rfl
@[simp] theorem State.setPageMaps_net (s : State) (x : AMap Nat) : (s.setPageMaps x).net = s.net := rfl
@[simp] theorem State.setPageMaps_ev (s : State) (x : AMap Nat) : (s.setPageMaps x).ev = s.ev := rfl
@[simp] theorem State.setPageMaps_rel (s : State) (x : AMap Nat) : (s.setPageMaps x).rel = s.rel := rfl
@[simp] theorem State.setPageMaps_sec (s : State) (x : AMap Nat) : (s.setPageMaps x).sec = s.sec := rfl
@[simp] theorem State.setPageMaps_pow (s : State) (x : AMap Nat) : (s.setPageMaps x).pow = s.pow := rfl
@[simp] theorem State.setPageMaps_store (s : State) (x : AMap Nat) : (s.setPageMaps x).store = s.store := rfl
@[simp] theorem State.setPageMaps_od (s : State) (x : AMap Nat) : (s.setPageMaps x).od = s.od := rfl
@[simp] theorem State.setPageMaps_d2dFails (s : State) (x : AMap Nat) : (s.setPageMaps x).d2dFails = s.d2dFails := rfl
@[simp] theorem State.setTlb_pending (s : State) (x : AMap Nat) : (s.setTlb x).pending = s.pending := rfl
@[simp] theorem State.setTlb_free (s : State) (x : AMap Nat) : (s.setTlb x).free = s.free := rfl
@[simp] theorem State.setTlb_out (s : State) (x : AMap Nat) : (s.setTlb x).out = s.out := rfl
@[simp] theorem State.setTlb_time (s : State) (x : AMap Nat) : (s.setTlb x).time = s.time := rfl
@[simp] theorem State.setTlb_tray (s : State) (x : AMap Nat) : (s.setTlb x).tray = s.tray := rfl
@[simp] theorem State.setTlb_mode (s : State) (x : AMap Nat) : (s.setTlb x).mode = s.mode := rfl
@[simp] theorem State.setTlb_idle (s : State) (x : AMap Nat) : (s.setTlb x).idle = s.idle := rfl
@[simp] theorem State.setTlb_entry (s : State) (x : AMap Nat) : (s.setTlb x).entry = s.entry := rfl
@[simp] theorem State.setTlb_leftMode (s : State) (x : AMap Nat) : (s.setTlb x).leftMode = s.leftMode := rfl
@[simp] theorem State.setTlb_wakeHeld (s : State) (x : AMap Nat) : (s.setTlb x).wakeHeld = s.wakeHeld := rfl
@[simp] theorem State.setTlb_westPrimary (s : State) (x : AMap Nat) : (s.setTlb x).westPrimary = s.westPrimary := rfl
@[simp] theorem State.setTlb_noBoot (s : State) (x : AMap Nat) : (s.setTlb x).noBoot = s.noBoot := rfl
@[simp] theorem State.setTlb_rst (s : State) (x : AMap Nat) : (s.setTlb x).rst = s.rst := rfl
@[simp] theorem State.setTlb_cores (s : State) (x : AMap Nat) : (s.setTlb x).cores = s.cores := rfl
@[simp] theorem State.setTlb_queues (s : State) (x : AMap Nat) : (s.setTlb x).queues = s.queues := rfl
@[simp] theorem State.setTlb_queueZero (s : State) (x : AMap Nat) : (s.setTlb x).queueZero = s.queueZero := rfl
@[simp] theorem State.setTlb_sems (s : State) (x : AMap Nat) : (s.setTlb x).sems = s.sems := rfl
@[simp] theorem State.setTlb_semWait (s : State) (x : AMap Nat) : (s.setTlb x).semWait = s.semWait := rfl
@[simp] theorem State.setTlb_dram (s : State) (x : AMap Nat) : (s.setTlb x).dram = s.dram := rfl
@[simp] theorem State.setTlb_upsets (s : State) (x : AMap Nat) : (s.setTlb x).upsets = s.upsets := rfl
@[simp] theorem State.setTlb_spadUpsets (s : State) (x : AMap Nat) : (s.setTlb x).spadUpsets = s.spadUpsets := rfl
@[simp] theorem State.setTlb_ecc (s : State) (x : AMap Nat) : (s.setTlb x).ecc = s.ecc := rfl
@[simp] theorem State.setTlb_modKey (s : State) (x : AMap Nat) : (s.setTlb x).modKey = s.modKey := rfl
@[simp] theorem State.setTlb_rotation (s : State) (x : AMap Nat) : (s.setTlb x).rotation = s.rotation := rfl
@[simp] theorem State.setTlb_migr (s : State) (x : AMap Nat) : (s.setTlb x).migr = s.migr := rfl
@[simp] theorem State.setTlb_migrQueue (s : State) (x : AMap Nat) : (s.setTlb x).migrQueue = s.migrQueue := rfl
@[simp] theorem State.setTlb_pageMaps (s : State) (x : AMap Nat) : (s.setTlb x).pageMaps = s.pageMaps := rfl
@[simp] theorem State.setTlb_tlb (s : State) (x : AMap Nat) : (s.setTlb x).tlb = x := rfl
@[simp] theorem State.setTlb_kvMaps (s : State) (x : AMap Nat) : (s.setTlb x).kvMaps = s.kvMaps := rfl
@[simp] theorem State.setTlb_kvTlb (s : State) (x : AMap Nat) : (s.setTlb x).kvTlb = s.kvTlb := rfl
@[simp] theorem State.setTlb_kvDirty (s : State) (x : AMap Nat) : (s.setTlb x).kvDirty = s.kvDirty := rfl
@[simp] theorem State.setTlb_shared (s : State) (x : AMap Nat) : (s.setTlb x).shared = s.shared := rfl
@[simp] theorem State.setTlb_withdrawn (s : State) (x : AMap Nat) : (s.setTlb x).withdrawn = s.withdrawn := rfl
@[simp] theorem State.setTlb_modMem (s : State) (x : AMap Nat) : (s.setTlb x).modMem = s.modMem := rfl
@[simp] theorem State.setTlb_parts (s : State) (x : AMap Nat) : (s.setTlb x).parts = s.parts := rfl
@[simp] theorem State.setTlb_park (s : State) (x : AMap Nat) : (s.setTlb x).park = s.park := rfl
@[simp] theorem State.setTlb_sess (s : State) (x : AMap Nat) : (s.setTlb x).sess = s.sess := rfl
@[simp] theorem State.setTlb_emitted (s : State) (x : AMap Nat) : (s.setTlb x).emitted = s.emitted := rfl
@[simp] theorem State.setTlb_grammars (s : State) (x : AMap Nat) : (s.setTlb x).grammars = s.grammars := rfl
@[simp] theorem State.setTlb_adapters (s : State) (x : AMap Nat) : (s.setTlb x).adapters = s.adapters := rfl
@[simp] theorem State.setTlb_adapterLast (s : State) (x : AMap Nat) : (s.setTlb x).adapterLast = s.adapterLast := rfl
@[simp] theorem State.setTlb_video (s : State) (x : AMap Nat) : (s.setTlb x).video = s.video := rfl
@[simp] theorem State.setTlb_fw (s : State) (x : AMap Nat) : (s.setTlb x).fw = s.fw := rfl
@[simp] theorem State.setTlb_ryc (s : State) (x : AMap Nat) : (s.setTlb x).ryc = s.ryc := rfl
@[simp] theorem State.setTlb_net (s : State) (x : AMap Nat) : (s.setTlb x).net = s.net := rfl
@[simp] theorem State.setTlb_ev (s : State) (x : AMap Nat) : (s.setTlb x).ev = s.ev := rfl
@[simp] theorem State.setTlb_rel (s : State) (x : AMap Nat) : (s.setTlb x).rel = s.rel := rfl
@[simp] theorem State.setTlb_sec (s : State) (x : AMap Nat) : (s.setTlb x).sec = s.sec := rfl
@[simp] theorem State.setTlb_pow (s : State) (x : AMap Nat) : (s.setTlb x).pow = s.pow := rfl
@[simp] theorem State.setTlb_store (s : State) (x : AMap Nat) : (s.setTlb x).store = s.store := rfl
@[simp] theorem State.setTlb_od (s : State) (x : AMap Nat) : (s.setTlb x).od = s.od := rfl
@[simp] theorem State.setTlb_d2dFails (s : State) (x : AMap Nat) : (s.setTlb x).d2dFails = s.d2dFails := rfl
@[simp] theorem State.setKvMaps_pending (s : State) (x : AMap Nat) : (s.setKvMaps x).pending = s.pending := rfl
@[simp] theorem State.setKvMaps_free (s : State) (x : AMap Nat) : (s.setKvMaps x).free = s.free := rfl
@[simp] theorem State.setKvMaps_out (s : State) (x : AMap Nat) : (s.setKvMaps x).out = s.out := rfl
@[simp] theorem State.setKvMaps_time (s : State) (x : AMap Nat) : (s.setKvMaps x).time = s.time := rfl
@[simp] theorem State.setKvMaps_tray (s : State) (x : AMap Nat) : (s.setKvMaps x).tray = s.tray := rfl
@[simp] theorem State.setKvMaps_mode (s : State) (x : AMap Nat) : (s.setKvMaps x).mode = s.mode := rfl
@[simp] theorem State.setKvMaps_idle (s : State) (x : AMap Nat) : (s.setKvMaps x).idle = s.idle := rfl
@[simp] theorem State.setKvMaps_entry (s : State) (x : AMap Nat) : (s.setKvMaps x).entry = s.entry := rfl
@[simp] theorem State.setKvMaps_leftMode (s : State) (x : AMap Nat) : (s.setKvMaps x).leftMode = s.leftMode := rfl
@[simp] theorem State.setKvMaps_wakeHeld (s : State) (x : AMap Nat) : (s.setKvMaps x).wakeHeld = s.wakeHeld := rfl
@[simp] theorem State.setKvMaps_westPrimary (s : State) (x : AMap Nat) : (s.setKvMaps x).westPrimary = s.westPrimary := rfl
@[simp] theorem State.setKvMaps_noBoot (s : State) (x : AMap Nat) : (s.setKvMaps x).noBoot = s.noBoot := rfl
@[simp] theorem State.setKvMaps_rst (s : State) (x : AMap Nat) : (s.setKvMaps x).rst = s.rst := rfl
@[simp] theorem State.setKvMaps_cores (s : State) (x : AMap Nat) : (s.setKvMaps x).cores = s.cores := rfl
@[simp] theorem State.setKvMaps_queues (s : State) (x : AMap Nat) : (s.setKvMaps x).queues = s.queues := rfl
@[simp] theorem State.setKvMaps_queueZero (s : State) (x : AMap Nat) : (s.setKvMaps x).queueZero = s.queueZero := rfl
@[simp] theorem State.setKvMaps_sems (s : State) (x : AMap Nat) : (s.setKvMaps x).sems = s.sems := rfl
@[simp] theorem State.setKvMaps_semWait (s : State) (x : AMap Nat) : (s.setKvMaps x).semWait = s.semWait := rfl
@[simp] theorem State.setKvMaps_dram (s : State) (x : AMap Nat) : (s.setKvMaps x).dram = s.dram := rfl
@[simp] theorem State.setKvMaps_upsets (s : State) (x : AMap Nat) : (s.setKvMaps x).upsets = s.upsets := rfl
@[simp] theorem State.setKvMaps_spadUpsets (s : State) (x : AMap Nat) : (s.setKvMaps x).spadUpsets = s.spadUpsets := rfl
@[simp] theorem State.setKvMaps_ecc (s : State) (x : AMap Nat) : (s.setKvMaps x).ecc = s.ecc := rfl
@[simp] theorem State.setKvMaps_modKey (s : State) (x : AMap Nat) : (s.setKvMaps x).modKey = s.modKey := rfl
@[simp] theorem State.setKvMaps_rotation (s : State) (x : AMap Nat) : (s.setKvMaps x).rotation = s.rotation := rfl
@[simp] theorem State.setKvMaps_migr (s : State) (x : AMap Nat) : (s.setKvMaps x).migr = s.migr := rfl
@[simp] theorem State.setKvMaps_migrQueue (s : State) (x : AMap Nat) : (s.setKvMaps x).migrQueue = s.migrQueue := rfl
@[simp] theorem State.setKvMaps_pageMaps (s : State) (x : AMap Nat) : (s.setKvMaps x).pageMaps = s.pageMaps := rfl
@[simp] theorem State.setKvMaps_tlb (s : State) (x : AMap Nat) : (s.setKvMaps x).tlb = s.tlb := rfl
@[simp] theorem State.setKvMaps_kvMaps (s : State) (x : AMap Nat) : (s.setKvMaps x).kvMaps = x := rfl
@[simp] theorem State.setKvMaps_kvTlb (s : State) (x : AMap Nat) : (s.setKvMaps x).kvTlb = s.kvTlb := rfl
@[simp] theorem State.setKvMaps_kvDirty (s : State) (x : AMap Nat) : (s.setKvMaps x).kvDirty = s.kvDirty := rfl
@[simp] theorem State.setKvMaps_shared (s : State) (x : AMap Nat) : (s.setKvMaps x).shared = s.shared := rfl
@[simp] theorem State.setKvMaps_withdrawn (s : State) (x : AMap Nat) : (s.setKvMaps x).withdrawn = s.withdrawn := rfl
@[simp] theorem State.setKvMaps_modMem (s : State) (x : AMap Nat) : (s.setKvMaps x).modMem = s.modMem := rfl
@[simp] theorem State.setKvMaps_parts (s : State) (x : AMap Nat) : (s.setKvMaps x).parts = s.parts := rfl
@[simp] theorem State.setKvMaps_park (s : State) (x : AMap Nat) : (s.setKvMaps x).park = s.park := rfl
@[simp] theorem State.setKvMaps_sess (s : State) (x : AMap Nat) : (s.setKvMaps x).sess = s.sess := rfl
@[simp] theorem State.setKvMaps_emitted (s : State) (x : AMap Nat) : (s.setKvMaps x).emitted = s.emitted := rfl
@[simp] theorem State.setKvMaps_grammars (s : State) (x : AMap Nat) : (s.setKvMaps x).grammars = s.grammars := rfl
@[simp] theorem State.setKvMaps_adapters (s : State) (x : AMap Nat) : (s.setKvMaps x).adapters = s.adapters := rfl
@[simp] theorem State.setKvMaps_adapterLast (s : State) (x : AMap Nat) : (s.setKvMaps x).adapterLast = s.adapterLast := rfl
@[simp] theorem State.setKvMaps_video (s : State) (x : AMap Nat) : (s.setKvMaps x).video = s.video := rfl
@[simp] theorem State.setKvMaps_fw (s : State) (x : AMap Nat) : (s.setKvMaps x).fw = s.fw := rfl
@[simp] theorem State.setKvMaps_ryc (s : State) (x : AMap Nat) : (s.setKvMaps x).ryc = s.ryc := rfl
@[simp] theorem State.setKvMaps_net (s : State) (x : AMap Nat) : (s.setKvMaps x).net = s.net := rfl
@[simp] theorem State.setKvMaps_ev (s : State) (x : AMap Nat) : (s.setKvMaps x).ev = s.ev := rfl
@[simp] theorem State.setKvMaps_rel (s : State) (x : AMap Nat) : (s.setKvMaps x).rel = s.rel := rfl
@[simp] theorem State.setKvMaps_sec (s : State) (x : AMap Nat) : (s.setKvMaps x).sec = s.sec := rfl
@[simp] theorem State.setKvMaps_pow (s : State) (x : AMap Nat) : (s.setKvMaps x).pow = s.pow := rfl
@[simp] theorem State.setKvMaps_store (s : State) (x : AMap Nat) : (s.setKvMaps x).store = s.store := rfl
@[simp] theorem State.setKvMaps_od (s : State) (x : AMap Nat) : (s.setKvMaps x).od = s.od := rfl
@[simp] theorem State.setKvMaps_d2dFails (s : State) (x : AMap Nat) : (s.setKvMaps x).d2dFails = s.d2dFails := rfl
@[simp] theorem State.setKvTlb_pending (s : State) (x : AMap Nat) : (s.setKvTlb x).pending = s.pending := rfl
@[simp] theorem State.setKvTlb_free (s : State) (x : AMap Nat) : (s.setKvTlb x).free = s.free := rfl
@[simp] theorem State.setKvTlb_out (s : State) (x : AMap Nat) : (s.setKvTlb x).out = s.out := rfl
@[simp] theorem State.setKvTlb_time (s : State) (x : AMap Nat) : (s.setKvTlb x).time = s.time := rfl
@[simp] theorem State.setKvTlb_tray (s : State) (x : AMap Nat) : (s.setKvTlb x).tray = s.tray := rfl
@[simp] theorem State.setKvTlb_mode (s : State) (x : AMap Nat) : (s.setKvTlb x).mode = s.mode := rfl
@[simp] theorem State.setKvTlb_idle (s : State) (x : AMap Nat) : (s.setKvTlb x).idle = s.idle := rfl
@[simp] theorem State.setKvTlb_entry (s : State) (x : AMap Nat) : (s.setKvTlb x).entry = s.entry := rfl
@[simp] theorem State.setKvTlb_leftMode (s : State) (x : AMap Nat) : (s.setKvTlb x).leftMode = s.leftMode := rfl
@[simp] theorem State.setKvTlb_wakeHeld (s : State) (x : AMap Nat) : (s.setKvTlb x).wakeHeld = s.wakeHeld := rfl
@[simp] theorem State.setKvTlb_westPrimary (s : State) (x : AMap Nat) : (s.setKvTlb x).westPrimary = s.westPrimary := rfl
@[simp] theorem State.setKvTlb_noBoot (s : State) (x : AMap Nat) : (s.setKvTlb x).noBoot = s.noBoot := rfl
@[simp] theorem State.setKvTlb_rst (s : State) (x : AMap Nat) : (s.setKvTlb x).rst = s.rst := rfl
@[simp] theorem State.setKvTlb_cores (s : State) (x : AMap Nat) : (s.setKvTlb x).cores = s.cores := rfl
@[simp] theorem State.setKvTlb_queues (s : State) (x : AMap Nat) : (s.setKvTlb x).queues = s.queues := rfl
@[simp] theorem State.setKvTlb_queueZero (s : State) (x : AMap Nat) : (s.setKvTlb x).queueZero = s.queueZero := rfl
@[simp] theorem State.setKvTlb_sems (s : State) (x : AMap Nat) : (s.setKvTlb x).sems = s.sems := rfl
@[simp] theorem State.setKvTlb_semWait (s : State) (x : AMap Nat) : (s.setKvTlb x).semWait = s.semWait := rfl
@[simp] theorem State.setKvTlb_dram (s : State) (x : AMap Nat) : (s.setKvTlb x).dram = s.dram := rfl
@[simp] theorem State.setKvTlb_upsets (s : State) (x : AMap Nat) : (s.setKvTlb x).upsets = s.upsets := rfl
@[simp] theorem State.setKvTlb_spadUpsets (s : State) (x : AMap Nat) : (s.setKvTlb x).spadUpsets = s.spadUpsets := rfl
@[simp] theorem State.setKvTlb_ecc (s : State) (x : AMap Nat) : (s.setKvTlb x).ecc = s.ecc := rfl
@[simp] theorem State.setKvTlb_modKey (s : State) (x : AMap Nat) : (s.setKvTlb x).modKey = s.modKey := rfl
@[simp] theorem State.setKvTlb_rotation (s : State) (x : AMap Nat) : (s.setKvTlb x).rotation = s.rotation := rfl
@[simp] theorem State.setKvTlb_migr (s : State) (x : AMap Nat) : (s.setKvTlb x).migr = s.migr := rfl
@[simp] theorem State.setKvTlb_migrQueue (s : State) (x : AMap Nat) : (s.setKvTlb x).migrQueue = s.migrQueue := rfl
@[simp] theorem State.setKvTlb_pageMaps (s : State) (x : AMap Nat) : (s.setKvTlb x).pageMaps = s.pageMaps := rfl
@[simp] theorem State.setKvTlb_tlb (s : State) (x : AMap Nat) : (s.setKvTlb x).tlb = s.tlb := rfl
@[simp] theorem State.setKvTlb_kvMaps (s : State) (x : AMap Nat) : (s.setKvTlb x).kvMaps = s.kvMaps := rfl
@[simp] theorem State.setKvTlb_kvTlb (s : State) (x : AMap Nat) : (s.setKvTlb x).kvTlb = x := rfl
@[simp] theorem State.setKvTlb_kvDirty (s : State) (x : AMap Nat) : (s.setKvTlb x).kvDirty = s.kvDirty := rfl
@[simp] theorem State.setKvTlb_shared (s : State) (x : AMap Nat) : (s.setKvTlb x).shared = s.shared := rfl
@[simp] theorem State.setKvTlb_withdrawn (s : State) (x : AMap Nat) : (s.setKvTlb x).withdrawn = s.withdrawn := rfl
@[simp] theorem State.setKvTlb_modMem (s : State) (x : AMap Nat) : (s.setKvTlb x).modMem = s.modMem := rfl
@[simp] theorem State.setKvTlb_parts (s : State) (x : AMap Nat) : (s.setKvTlb x).parts = s.parts := rfl
@[simp] theorem State.setKvTlb_park (s : State) (x : AMap Nat) : (s.setKvTlb x).park = s.park := rfl
@[simp] theorem State.setKvTlb_sess (s : State) (x : AMap Nat) : (s.setKvTlb x).sess = s.sess := rfl
@[simp] theorem State.setKvTlb_emitted (s : State) (x : AMap Nat) : (s.setKvTlb x).emitted = s.emitted := rfl
@[simp] theorem State.setKvTlb_grammars (s : State) (x : AMap Nat) : (s.setKvTlb x).grammars = s.grammars := rfl
@[simp] theorem State.setKvTlb_adapters (s : State) (x : AMap Nat) : (s.setKvTlb x).adapters = s.adapters := rfl
@[simp] theorem State.setKvTlb_adapterLast (s : State) (x : AMap Nat) : (s.setKvTlb x).adapterLast = s.adapterLast := rfl
@[simp] theorem State.setKvTlb_video (s : State) (x : AMap Nat) : (s.setKvTlb x).video = s.video := rfl
@[simp] theorem State.setKvTlb_fw (s : State) (x : AMap Nat) : (s.setKvTlb x).fw = s.fw := rfl
@[simp] theorem State.setKvTlb_ryc (s : State) (x : AMap Nat) : (s.setKvTlb x).ryc = s.ryc := rfl
@[simp] theorem State.setKvTlb_net (s : State) (x : AMap Nat) : (s.setKvTlb x).net = s.net := rfl
@[simp] theorem State.setKvTlb_ev (s : State) (x : AMap Nat) : (s.setKvTlb x).ev = s.ev := rfl
@[simp] theorem State.setKvTlb_rel (s : State) (x : AMap Nat) : (s.setKvTlb x).rel = s.rel := rfl
@[simp] theorem State.setKvTlb_sec (s : State) (x : AMap Nat) : (s.setKvTlb x).sec = s.sec := rfl
@[simp] theorem State.setKvTlb_pow (s : State) (x : AMap Nat) : (s.setKvTlb x).pow = s.pow := rfl
@[simp] theorem State.setKvTlb_store (s : State) (x : AMap Nat) : (s.setKvTlb x).store = s.store := rfl
@[simp] theorem State.setKvTlb_od (s : State) (x : AMap Nat) : (s.setKvTlb x).od = s.od := rfl
@[simp] theorem State.setKvTlb_d2dFails (s : State) (x : AMap Nat) : (s.setKvTlb x).d2dFails = s.d2dFails := rfl
@[simp] theorem State.setKvDirty_pending (s : State) (x : List Nat) : (s.setKvDirty x).pending = s.pending := rfl
@[simp] theorem State.setKvDirty_free (s : State) (x : List Nat) : (s.setKvDirty x).free = s.free := rfl
@[simp] theorem State.setKvDirty_out (s : State) (x : List Nat) : (s.setKvDirty x).out = s.out := rfl
@[simp] theorem State.setKvDirty_time (s : State) (x : List Nat) : (s.setKvDirty x).time = s.time := rfl
@[simp] theorem State.setKvDirty_tray (s : State) (x : List Nat) : (s.setKvDirty x).tray = s.tray := rfl
@[simp] theorem State.setKvDirty_mode (s : State) (x : List Nat) : (s.setKvDirty x).mode = s.mode := rfl
@[simp] theorem State.setKvDirty_idle (s : State) (x : List Nat) : (s.setKvDirty x).idle = s.idle := rfl
@[simp] theorem State.setKvDirty_entry (s : State) (x : List Nat) : (s.setKvDirty x).entry = s.entry := rfl
@[simp] theorem State.setKvDirty_leftMode (s : State) (x : List Nat) : (s.setKvDirty x).leftMode = s.leftMode := rfl
@[simp] theorem State.setKvDirty_wakeHeld (s : State) (x : List Nat) : (s.setKvDirty x).wakeHeld = s.wakeHeld := rfl
@[simp] theorem State.setKvDirty_westPrimary (s : State) (x : List Nat) : (s.setKvDirty x).westPrimary = s.westPrimary := rfl
@[simp] theorem State.setKvDirty_noBoot (s : State) (x : List Nat) : (s.setKvDirty x).noBoot = s.noBoot := rfl
@[simp] theorem State.setKvDirty_rst (s : State) (x : List Nat) : (s.setKvDirty x).rst = s.rst := rfl
@[simp] theorem State.setKvDirty_cores (s : State) (x : List Nat) : (s.setKvDirty x).cores = s.cores := rfl
@[simp] theorem State.setKvDirty_queues (s : State) (x : List Nat) : (s.setKvDirty x).queues = s.queues := rfl
@[simp] theorem State.setKvDirty_queueZero (s : State) (x : List Nat) : (s.setKvDirty x).queueZero = s.queueZero := rfl
@[simp] theorem State.setKvDirty_sems (s : State) (x : List Nat) : (s.setKvDirty x).sems = s.sems := rfl
@[simp] theorem State.setKvDirty_semWait (s : State) (x : List Nat) : (s.setKvDirty x).semWait = s.semWait := rfl
@[simp] theorem State.setKvDirty_dram (s : State) (x : List Nat) : (s.setKvDirty x).dram = s.dram := rfl
@[simp] theorem State.setKvDirty_upsets (s : State) (x : List Nat) : (s.setKvDirty x).upsets = s.upsets := rfl
@[simp] theorem State.setKvDirty_spadUpsets (s : State) (x : List Nat) : (s.setKvDirty x).spadUpsets = s.spadUpsets := rfl
@[simp] theorem State.setKvDirty_ecc (s : State) (x : List Nat) : (s.setKvDirty x).ecc = s.ecc := rfl
@[simp] theorem State.setKvDirty_modKey (s : State) (x : List Nat) : (s.setKvDirty x).modKey = s.modKey := rfl
@[simp] theorem State.setKvDirty_rotation (s : State) (x : List Nat) : (s.setKvDirty x).rotation = s.rotation := rfl
@[simp] theorem State.setKvDirty_migr (s : State) (x : List Nat) : (s.setKvDirty x).migr = s.migr := rfl
@[simp] theorem State.setKvDirty_migrQueue (s : State) (x : List Nat) : (s.setKvDirty x).migrQueue = s.migrQueue := rfl
@[simp] theorem State.setKvDirty_pageMaps (s : State) (x : List Nat) : (s.setKvDirty x).pageMaps = s.pageMaps := rfl
@[simp] theorem State.setKvDirty_tlb (s : State) (x : List Nat) : (s.setKvDirty x).tlb = s.tlb := rfl
@[simp] theorem State.setKvDirty_kvMaps (s : State) (x : List Nat) : (s.setKvDirty x).kvMaps = s.kvMaps := rfl
@[simp] theorem State.setKvDirty_kvTlb (s : State) (x : List Nat) : (s.setKvDirty x).kvTlb = s.kvTlb := rfl
@[simp] theorem State.setKvDirty_kvDirty (s : State) (x : List Nat) : (s.setKvDirty x).kvDirty = x := rfl
@[simp] theorem State.setKvDirty_shared (s : State) (x : List Nat) : (s.setKvDirty x).shared = s.shared := rfl
@[simp] theorem State.setKvDirty_withdrawn (s : State) (x : List Nat) : (s.setKvDirty x).withdrawn = s.withdrawn := rfl
@[simp] theorem State.setKvDirty_modMem (s : State) (x : List Nat) : (s.setKvDirty x).modMem = s.modMem := rfl
@[simp] theorem State.setKvDirty_parts (s : State) (x : List Nat) : (s.setKvDirty x).parts = s.parts := rfl
@[simp] theorem State.setKvDirty_park (s : State) (x : List Nat) : (s.setKvDirty x).park = s.park := rfl
@[simp] theorem State.setKvDirty_sess (s : State) (x : List Nat) : (s.setKvDirty x).sess = s.sess := rfl
@[simp] theorem State.setKvDirty_emitted (s : State) (x : List Nat) : (s.setKvDirty x).emitted = s.emitted := rfl
@[simp] theorem State.setKvDirty_grammars (s : State) (x : List Nat) : (s.setKvDirty x).grammars = s.grammars := rfl
@[simp] theorem State.setKvDirty_adapters (s : State) (x : List Nat) : (s.setKvDirty x).adapters = s.adapters := rfl
@[simp] theorem State.setKvDirty_adapterLast (s : State) (x : List Nat) : (s.setKvDirty x).adapterLast = s.adapterLast := rfl
@[simp] theorem State.setKvDirty_video (s : State) (x : List Nat) : (s.setKvDirty x).video = s.video := rfl
@[simp] theorem State.setKvDirty_fw (s : State) (x : List Nat) : (s.setKvDirty x).fw = s.fw := rfl
@[simp] theorem State.setKvDirty_ryc (s : State) (x : List Nat) : (s.setKvDirty x).ryc = s.ryc := rfl
@[simp] theorem State.setKvDirty_net (s : State) (x : List Nat) : (s.setKvDirty x).net = s.net := rfl
@[simp] theorem State.setKvDirty_ev (s : State) (x : List Nat) : (s.setKvDirty x).ev = s.ev := rfl
@[simp] theorem State.setKvDirty_rel (s : State) (x : List Nat) : (s.setKvDirty x).rel = s.rel := rfl
@[simp] theorem State.setKvDirty_sec (s : State) (x : List Nat) : (s.setKvDirty x).sec = s.sec := rfl
@[simp] theorem State.setKvDirty_pow (s : State) (x : List Nat) : (s.setKvDirty x).pow = s.pow := rfl
@[simp] theorem State.setKvDirty_store (s : State) (x : List Nat) : (s.setKvDirty x).store = s.store := rfl
@[simp] theorem State.setKvDirty_od (s : State) (x : List Nat) : (s.setKvDirty x).od = s.od := rfl
@[simp] theorem State.setKvDirty_d2dFails (s : State) (x : List Nat) : (s.setKvDirty x).d2dFails = s.d2dFails := rfl
@[simp] theorem State.setShared_pending (s : State) (x : Mem) : (s.setShared x).pending = s.pending := rfl
@[simp] theorem State.setShared_free (s : State) (x : Mem) : (s.setShared x).free = s.free := rfl
@[simp] theorem State.setShared_out (s : State) (x : Mem) : (s.setShared x).out = s.out := rfl
@[simp] theorem State.setShared_time (s : State) (x : Mem) : (s.setShared x).time = s.time := rfl
@[simp] theorem State.setShared_tray (s : State) (x : Mem) : (s.setShared x).tray = s.tray := rfl
@[simp] theorem State.setShared_mode (s : State) (x : Mem) : (s.setShared x).mode = s.mode := rfl
@[simp] theorem State.setShared_idle (s : State) (x : Mem) : (s.setShared x).idle = s.idle := rfl
@[simp] theorem State.setShared_entry (s : State) (x : Mem) : (s.setShared x).entry = s.entry := rfl
@[simp] theorem State.setShared_leftMode (s : State) (x : Mem) : (s.setShared x).leftMode = s.leftMode := rfl
@[simp] theorem State.setShared_wakeHeld (s : State) (x : Mem) : (s.setShared x).wakeHeld = s.wakeHeld := rfl
@[simp] theorem State.setShared_westPrimary (s : State) (x : Mem) : (s.setShared x).westPrimary = s.westPrimary := rfl
@[simp] theorem State.setShared_noBoot (s : State) (x : Mem) : (s.setShared x).noBoot = s.noBoot := rfl
@[simp] theorem State.setShared_rst (s : State) (x : Mem) : (s.setShared x).rst = s.rst := rfl
@[simp] theorem State.setShared_cores (s : State) (x : Mem) : (s.setShared x).cores = s.cores := rfl
@[simp] theorem State.setShared_queues (s : State) (x : Mem) : (s.setShared x).queues = s.queues := rfl
@[simp] theorem State.setShared_queueZero (s : State) (x : Mem) : (s.setShared x).queueZero = s.queueZero := rfl
@[simp] theorem State.setShared_sems (s : State) (x : Mem) : (s.setShared x).sems = s.sems := rfl
@[simp] theorem State.setShared_semWait (s : State) (x : Mem) : (s.setShared x).semWait = s.semWait := rfl
@[simp] theorem State.setShared_dram (s : State) (x : Mem) : (s.setShared x).dram = s.dram := rfl
@[simp] theorem State.setShared_upsets (s : State) (x : Mem) : (s.setShared x).upsets = s.upsets := rfl
@[simp] theorem State.setShared_spadUpsets (s : State) (x : Mem) : (s.setShared x).spadUpsets = s.spadUpsets := rfl
@[simp] theorem State.setShared_ecc (s : State) (x : Mem) : (s.setShared x).ecc = s.ecc := rfl
@[simp] theorem State.setShared_modKey (s : State) (x : Mem) : (s.setShared x).modKey = s.modKey := rfl
@[simp] theorem State.setShared_rotation (s : State) (x : Mem) : (s.setShared x).rotation = s.rotation := rfl
@[simp] theorem State.setShared_migr (s : State) (x : Mem) : (s.setShared x).migr = s.migr := rfl
@[simp] theorem State.setShared_migrQueue (s : State) (x : Mem) : (s.setShared x).migrQueue = s.migrQueue := rfl
@[simp] theorem State.setShared_pageMaps (s : State) (x : Mem) : (s.setShared x).pageMaps = s.pageMaps := rfl
@[simp] theorem State.setShared_tlb (s : State) (x : Mem) : (s.setShared x).tlb = s.tlb := rfl
@[simp] theorem State.setShared_kvMaps (s : State) (x : Mem) : (s.setShared x).kvMaps = s.kvMaps := rfl
@[simp] theorem State.setShared_kvTlb (s : State) (x : Mem) : (s.setShared x).kvTlb = s.kvTlb := rfl
@[simp] theorem State.setShared_kvDirty (s : State) (x : Mem) : (s.setShared x).kvDirty = s.kvDirty := rfl
@[simp] theorem State.setShared_shared (s : State) (x : Mem) : (s.setShared x).shared = x := rfl
@[simp] theorem State.setShared_withdrawn (s : State) (x : Mem) : (s.setShared x).withdrawn = s.withdrawn := rfl
@[simp] theorem State.setShared_modMem (s : State) (x : Mem) : (s.setShared x).modMem = s.modMem := rfl
@[simp] theorem State.setShared_parts (s : State) (x : Mem) : (s.setShared x).parts = s.parts := rfl
@[simp] theorem State.setShared_park (s : State) (x : Mem) : (s.setShared x).park = s.park := rfl
@[simp] theorem State.setShared_sess (s : State) (x : Mem) : (s.setShared x).sess = s.sess := rfl
@[simp] theorem State.setShared_emitted (s : State) (x : Mem) : (s.setShared x).emitted = s.emitted := rfl
@[simp] theorem State.setShared_grammars (s : State) (x : Mem) : (s.setShared x).grammars = s.grammars := rfl
@[simp] theorem State.setShared_adapters (s : State) (x : Mem) : (s.setShared x).adapters = s.adapters := rfl
@[simp] theorem State.setShared_adapterLast (s : State) (x : Mem) : (s.setShared x).adapterLast = s.adapterLast := rfl
@[simp] theorem State.setShared_video (s : State) (x : Mem) : (s.setShared x).video = s.video := rfl
@[simp] theorem State.setShared_fw (s : State) (x : Mem) : (s.setShared x).fw = s.fw := rfl
@[simp] theorem State.setShared_ryc (s : State) (x : Mem) : (s.setShared x).ryc = s.ryc := rfl
@[simp] theorem State.setShared_net (s : State) (x : Mem) : (s.setShared x).net = s.net := rfl
@[simp] theorem State.setShared_ev (s : State) (x : Mem) : (s.setShared x).ev = s.ev := rfl
@[simp] theorem State.setShared_rel (s : State) (x : Mem) : (s.setShared x).rel = s.rel := rfl
@[simp] theorem State.setShared_sec (s : State) (x : Mem) : (s.setShared x).sec = s.sec := rfl
@[simp] theorem State.setShared_pow (s : State) (x : Mem) : (s.setShared x).pow = s.pow := rfl
@[simp] theorem State.setShared_store (s : State) (x : Mem) : (s.setShared x).store = s.store := rfl
@[simp] theorem State.setShared_od (s : State) (x : Mem) : (s.setShared x).od = s.od := rfl
@[simp] theorem State.setShared_d2dFails (s : State) (x : Mem) : (s.setShared x).d2dFails = s.d2dFails := rfl
@[simp] theorem State.setWithdrawn_pending (s : State) (x : List Nat) : (s.setWithdrawn x).pending = s.pending := rfl
@[simp] theorem State.setWithdrawn_free (s : State) (x : List Nat) : (s.setWithdrawn x).free = s.free := rfl
@[simp] theorem State.setWithdrawn_out (s : State) (x : List Nat) : (s.setWithdrawn x).out = s.out := rfl
@[simp] theorem State.setWithdrawn_time (s : State) (x : List Nat) : (s.setWithdrawn x).time = s.time := rfl
@[simp] theorem State.setWithdrawn_tray (s : State) (x : List Nat) : (s.setWithdrawn x).tray = s.tray := rfl
@[simp] theorem State.setWithdrawn_mode (s : State) (x : List Nat) : (s.setWithdrawn x).mode = s.mode := rfl
@[simp] theorem State.setWithdrawn_idle (s : State) (x : List Nat) : (s.setWithdrawn x).idle = s.idle := rfl
@[simp] theorem State.setWithdrawn_entry (s : State) (x : List Nat) : (s.setWithdrawn x).entry = s.entry := rfl
@[simp] theorem State.setWithdrawn_leftMode (s : State) (x : List Nat) : (s.setWithdrawn x).leftMode = s.leftMode := rfl
@[simp] theorem State.setWithdrawn_wakeHeld (s : State) (x : List Nat) : (s.setWithdrawn x).wakeHeld = s.wakeHeld := rfl
@[simp] theorem State.setWithdrawn_westPrimary (s : State) (x : List Nat) : (s.setWithdrawn x).westPrimary = s.westPrimary := rfl
@[simp] theorem State.setWithdrawn_noBoot (s : State) (x : List Nat) : (s.setWithdrawn x).noBoot = s.noBoot := rfl
@[simp] theorem State.setWithdrawn_rst (s : State) (x : List Nat) : (s.setWithdrawn x).rst = s.rst := rfl
@[simp] theorem State.setWithdrawn_cores (s : State) (x : List Nat) : (s.setWithdrawn x).cores = s.cores := rfl
@[simp] theorem State.setWithdrawn_queues (s : State) (x : List Nat) : (s.setWithdrawn x).queues = s.queues := rfl
@[simp] theorem State.setWithdrawn_queueZero (s : State) (x : List Nat) : (s.setWithdrawn x).queueZero = s.queueZero := rfl
@[simp] theorem State.setWithdrawn_sems (s : State) (x : List Nat) : (s.setWithdrawn x).sems = s.sems := rfl
@[simp] theorem State.setWithdrawn_semWait (s : State) (x : List Nat) : (s.setWithdrawn x).semWait = s.semWait := rfl
@[simp] theorem State.setWithdrawn_dram (s : State) (x : List Nat) : (s.setWithdrawn x).dram = s.dram := rfl
@[simp] theorem State.setWithdrawn_upsets (s : State) (x : List Nat) : (s.setWithdrawn x).upsets = s.upsets := rfl
@[simp] theorem State.setWithdrawn_spadUpsets (s : State) (x : List Nat) : (s.setWithdrawn x).spadUpsets = s.spadUpsets := rfl
@[simp] theorem State.setWithdrawn_ecc (s : State) (x : List Nat) : (s.setWithdrawn x).ecc = s.ecc := rfl
@[simp] theorem State.setWithdrawn_modKey (s : State) (x : List Nat) : (s.setWithdrawn x).modKey = s.modKey := rfl
@[simp] theorem State.setWithdrawn_rotation (s : State) (x : List Nat) : (s.setWithdrawn x).rotation = s.rotation := rfl
@[simp] theorem State.setWithdrawn_migr (s : State) (x : List Nat) : (s.setWithdrawn x).migr = s.migr := rfl
@[simp] theorem State.setWithdrawn_migrQueue (s : State) (x : List Nat) : (s.setWithdrawn x).migrQueue = s.migrQueue := rfl
@[simp] theorem State.setWithdrawn_pageMaps (s : State) (x : List Nat) : (s.setWithdrawn x).pageMaps = s.pageMaps := rfl
@[simp] theorem State.setWithdrawn_tlb (s : State) (x : List Nat) : (s.setWithdrawn x).tlb = s.tlb := rfl
@[simp] theorem State.setWithdrawn_kvMaps (s : State) (x : List Nat) : (s.setWithdrawn x).kvMaps = s.kvMaps := rfl
@[simp] theorem State.setWithdrawn_kvTlb (s : State) (x : List Nat) : (s.setWithdrawn x).kvTlb = s.kvTlb := rfl
@[simp] theorem State.setWithdrawn_kvDirty (s : State) (x : List Nat) : (s.setWithdrawn x).kvDirty = s.kvDirty := rfl
@[simp] theorem State.setWithdrawn_shared (s : State) (x : List Nat) : (s.setWithdrawn x).shared = s.shared := rfl
@[simp] theorem State.setWithdrawn_withdrawn (s : State) (x : List Nat) : (s.setWithdrawn x).withdrawn = x := rfl
@[simp] theorem State.setWithdrawn_modMem (s : State) (x : List Nat) : (s.setWithdrawn x).modMem = s.modMem := rfl
@[simp] theorem State.setWithdrawn_parts (s : State) (x : List Nat) : (s.setWithdrawn x).parts = s.parts := rfl
@[simp] theorem State.setWithdrawn_park (s : State) (x : List Nat) : (s.setWithdrawn x).park = s.park := rfl
@[simp] theorem State.setWithdrawn_sess (s : State) (x : List Nat) : (s.setWithdrawn x).sess = s.sess := rfl
@[simp] theorem State.setWithdrawn_emitted (s : State) (x : List Nat) : (s.setWithdrawn x).emitted = s.emitted := rfl
@[simp] theorem State.setWithdrawn_grammars (s : State) (x : List Nat) : (s.setWithdrawn x).grammars = s.grammars := rfl
@[simp] theorem State.setWithdrawn_adapters (s : State) (x : List Nat) : (s.setWithdrawn x).adapters = s.adapters := rfl
@[simp] theorem State.setWithdrawn_adapterLast (s : State) (x : List Nat) : (s.setWithdrawn x).adapterLast = s.adapterLast := rfl
@[simp] theorem State.setWithdrawn_video (s : State) (x : List Nat) : (s.setWithdrawn x).video = s.video := rfl
@[simp] theorem State.setWithdrawn_fw (s : State) (x : List Nat) : (s.setWithdrawn x).fw = s.fw := rfl
@[simp] theorem State.setWithdrawn_ryc (s : State) (x : List Nat) : (s.setWithdrawn x).ryc = s.ryc := rfl
@[simp] theorem State.setWithdrawn_net (s : State) (x : List Nat) : (s.setWithdrawn x).net = s.net := rfl
@[simp] theorem State.setWithdrawn_ev (s : State) (x : List Nat) : (s.setWithdrawn x).ev = s.ev := rfl
@[simp] theorem State.setWithdrawn_rel (s : State) (x : List Nat) : (s.setWithdrawn x).rel = s.rel := rfl
@[simp] theorem State.setWithdrawn_sec (s : State) (x : List Nat) : (s.setWithdrawn x).sec = s.sec := rfl
@[simp] theorem State.setWithdrawn_pow (s : State) (x : List Nat) : (s.setWithdrawn x).pow = s.pow := rfl
@[simp] theorem State.setWithdrawn_store (s : State) (x : List Nat) : (s.setWithdrawn x).store = s.store := rfl
@[simp] theorem State.setWithdrawn_od (s : State) (x : List Nat) : (s.setWithdrawn x).od = s.od := rfl
@[simp] theorem State.setWithdrawn_d2dFails (s : State) (x : List Nat) : (s.setWithdrawn x).d2dFails = s.d2dFails := rfl
@[simp] theorem State.setModMem_pending (s : State) (x : AMap Mem) : (s.setModMem x).pending = s.pending := rfl
@[simp] theorem State.setModMem_free (s : State) (x : AMap Mem) : (s.setModMem x).free = s.free := rfl
@[simp] theorem State.setModMem_out (s : State) (x : AMap Mem) : (s.setModMem x).out = s.out := rfl
@[simp] theorem State.setModMem_time (s : State) (x : AMap Mem) : (s.setModMem x).time = s.time := rfl
@[simp] theorem State.setModMem_tray (s : State) (x : AMap Mem) : (s.setModMem x).tray = s.tray := rfl
@[simp] theorem State.setModMem_mode (s : State) (x : AMap Mem) : (s.setModMem x).mode = s.mode := rfl
@[simp] theorem State.setModMem_idle (s : State) (x : AMap Mem) : (s.setModMem x).idle = s.idle := rfl
@[simp] theorem State.setModMem_entry (s : State) (x : AMap Mem) : (s.setModMem x).entry = s.entry := rfl
@[simp] theorem State.setModMem_leftMode (s : State) (x : AMap Mem) : (s.setModMem x).leftMode = s.leftMode := rfl
@[simp] theorem State.setModMem_wakeHeld (s : State) (x : AMap Mem) : (s.setModMem x).wakeHeld = s.wakeHeld := rfl
@[simp] theorem State.setModMem_westPrimary (s : State) (x : AMap Mem) : (s.setModMem x).westPrimary = s.westPrimary := rfl
@[simp] theorem State.setModMem_noBoot (s : State) (x : AMap Mem) : (s.setModMem x).noBoot = s.noBoot := rfl
@[simp] theorem State.setModMem_rst (s : State) (x : AMap Mem) : (s.setModMem x).rst = s.rst := rfl
@[simp] theorem State.setModMem_cores (s : State) (x : AMap Mem) : (s.setModMem x).cores = s.cores := rfl
@[simp] theorem State.setModMem_queues (s : State) (x : AMap Mem) : (s.setModMem x).queues = s.queues := rfl
@[simp] theorem State.setModMem_queueZero (s : State) (x : AMap Mem) : (s.setModMem x).queueZero = s.queueZero := rfl
@[simp] theorem State.setModMem_sems (s : State) (x : AMap Mem) : (s.setModMem x).sems = s.sems := rfl
@[simp] theorem State.setModMem_semWait (s : State) (x : AMap Mem) : (s.setModMem x).semWait = s.semWait := rfl
@[simp] theorem State.setModMem_dram (s : State) (x : AMap Mem) : (s.setModMem x).dram = s.dram := rfl
@[simp] theorem State.setModMem_upsets (s : State) (x : AMap Mem) : (s.setModMem x).upsets = s.upsets := rfl
@[simp] theorem State.setModMem_spadUpsets (s : State) (x : AMap Mem) : (s.setModMem x).spadUpsets = s.spadUpsets := rfl
@[simp] theorem State.setModMem_ecc (s : State) (x : AMap Mem) : (s.setModMem x).ecc = s.ecc := rfl
@[simp] theorem State.setModMem_modKey (s : State) (x : AMap Mem) : (s.setModMem x).modKey = s.modKey := rfl
@[simp] theorem State.setModMem_rotation (s : State) (x : AMap Mem) : (s.setModMem x).rotation = s.rotation := rfl
@[simp] theorem State.setModMem_migr (s : State) (x : AMap Mem) : (s.setModMem x).migr = s.migr := rfl
@[simp] theorem State.setModMem_migrQueue (s : State) (x : AMap Mem) : (s.setModMem x).migrQueue = s.migrQueue := rfl
@[simp] theorem State.setModMem_pageMaps (s : State) (x : AMap Mem) : (s.setModMem x).pageMaps = s.pageMaps := rfl
@[simp] theorem State.setModMem_tlb (s : State) (x : AMap Mem) : (s.setModMem x).tlb = s.tlb := rfl
@[simp] theorem State.setModMem_kvMaps (s : State) (x : AMap Mem) : (s.setModMem x).kvMaps = s.kvMaps := rfl
@[simp] theorem State.setModMem_kvTlb (s : State) (x : AMap Mem) : (s.setModMem x).kvTlb = s.kvTlb := rfl
@[simp] theorem State.setModMem_kvDirty (s : State) (x : AMap Mem) : (s.setModMem x).kvDirty = s.kvDirty := rfl
@[simp] theorem State.setModMem_shared (s : State) (x : AMap Mem) : (s.setModMem x).shared = s.shared := rfl
@[simp] theorem State.setModMem_withdrawn (s : State) (x : AMap Mem) : (s.setModMem x).withdrawn = s.withdrawn := rfl
@[simp] theorem State.setModMem_modMem (s : State) (x : AMap Mem) : (s.setModMem x).modMem = x := rfl
@[simp] theorem State.setModMem_parts (s : State) (x : AMap Mem) : (s.setModMem x).parts = s.parts := rfl
@[simp] theorem State.setModMem_park (s : State) (x : AMap Mem) : (s.setModMem x).park = s.park := rfl
@[simp] theorem State.setModMem_sess (s : State) (x : AMap Mem) : (s.setModMem x).sess = s.sess := rfl
@[simp] theorem State.setModMem_emitted (s : State) (x : AMap Mem) : (s.setModMem x).emitted = s.emitted := rfl
@[simp] theorem State.setModMem_grammars (s : State) (x : AMap Mem) : (s.setModMem x).grammars = s.grammars := rfl
@[simp] theorem State.setModMem_adapters (s : State) (x : AMap Mem) : (s.setModMem x).adapters = s.adapters := rfl
@[simp] theorem State.setModMem_adapterLast (s : State) (x : AMap Mem) : (s.setModMem x).adapterLast = s.adapterLast := rfl
@[simp] theorem State.setModMem_video (s : State) (x : AMap Mem) : (s.setModMem x).video = s.video := rfl
@[simp] theorem State.setModMem_fw (s : State) (x : AMap Mem) : (s.setModMem x).fw = s.fw := rfl
@[simp] theorem State.setModMem_ryc (s : State) (x : AMap Mem) : (s.setModMem x).ryc = s.ryc := rfl
@[simp] theorem State.setModMem_net (s : State) (x : AMap Mem) : (s.setModMem x).net = s.net := rfl
@[simp] theorem State.setModMem_ev (s : State) (x : AMap Mem) : (s.setModMem x).ev = s.ev := rfl
@[simp] theorem State.setModMem_rel (s : State) (x : AMap Mem) : (s.setModMem x).rel = s.rel := rfl
@[simp] theorem State.setModMem_sec (s : State) (x : AMap Mem) : (s.setModMem x).sec = s.sec := rfl
@[simp] theorem State.setModMem_pow (s : State) (x : AMap Mem) : (s.setModMem x).pow = s.pow := rfl
@[simp] theorem State.setModMem_store (s : State) (x : AMap Mem) : (s.setModMem x).store = s.store := rfl
@[simp] theorem State.setModMem_od (s : State) (x : AMap Mem) : (s.setModMem x).od = s.od := rfl
@[simp] theorem State.setModMem_d2dFails (s : State) (x : AMap Mem) : (s.setModMem x).d2dFails = s.d2dFails := rfl
@[simp] theorem State.setParts_pending (s : State) (x : AMap Part) : (s.setParts x).pending = s.pending := rfl
@[simp] theorem State.setParts_free (s : State) (x : AMap Part) : (s.setParts x).free = s.free := rfl
@[simp] theorem State.setParts_out (s : State) (x : AMap Part) : (s.setParts x).out = s.out := rfl
@[simp] theorem State.setParts_time (s : State) (x : AMap Part) : (s.setParts x).time = s.time := rfl
@[simp] theorem State.setParts_tray (s : State) (x : AMap Part) : (s.setParts x).tray = s.tray := rfl
@[simp] theorem State.setParts_mode (s : State) (x : AMap Part) : (s.setParts x).mode = s.mode := rfl
@[simp] theorem State.setParts_idle (s : State) (x : AMap Part) : (s.setParts x).idle = s.idle := rfl
@[simp] theorem State.setParts_entry (s : State) (x : AMap Part) : (s.setParts x).entry = s.entry := rfl
@[simp] theorem State.setParts_leftMode (s : State) (x : AMap Part) : (s.setParts x).leftMode = s.leftMode := rfl
@[simp] theorem State.setParts_wakeHeld (s : State) (x : AMap Part) : (s.setParts x).wakeHeld = s.wakeHeld := rfl
@[simp] theorem State.setParts_westPrimary (s : State) (x : AMap Part) : (s.setParts x).westPrimary = s.westPrimary := rfl
@[simp] theorem State.setParts_noBoot (s : State) (x : AMap Part) : (s.setParts x).noBoot = s.noBoot := rfl
@[simp] theorem State.setParts_rst (s : State) (x : AMap Part) : (s.setParts x).rst = s.rst := rfl
@[simp] theorem State.setParts_cores (s : State) (x : AMap Part) : (s.setParts x).cores = s.cores := rfl
@[simp] theorem State.setParts_queues (s : State) (x : AMap Part) : (s.setParts x).queues = s.queues := rfl
@[simp] theorem State.setParts_queueZero (s : State) (x : AMap Part) : (s.setParts x).queueZero = s.queueZero := rfl
@[simp] theorem State.setParts_sems (s : State) (x : AMap Part) : (s.setParts x).sems = s.sems := rfl
@[simp] theorem State.setParts_semWait (s : State) (x : AMap Part) : (s.setParts x).semWait = s.semWait := rfl
@[simp] theorem State.setParts_dram (s : State) (x : AMap Part) : (s.setParts x).dram = s.dram := rfl
@[simp] theorem State.setParts_upsets (s : State) (x : AMap Part) : (s.setParts x).upsets = s.upsets := rfl
@[simp] theorem State.setParts_spadUpsets (s : State) (x : AMap Part) : (s.setParts x).spadUpsets = s.spadUpsets := rfl
@[simp] theorem State.setParts_ecc (s : State) (x : AMap Part) : (s.setParts x).ecc = s.ecc := rfl
@[simp] theorem State.setParts_modKey (s : State) (x : AMap Part) : (s.setParts x).modKey = s.modKey := rfl
@[simp] theorem State.setParts_rotation (s : State) (x : AMap Part) : (s.setParts x).rotation = s.rotation := rfl
@[simp] theorem State.setParts_migr (s : State) (x : AMap Part) : (s.setParts x).migr = s.migr := rfl
@[simp] theorem State.setParts_migrQueue (s : State) (x : AMap Part) : (s.setParts x).migrQueue = s.migrQueue := rfl
@[simp] theorem State.setParts_pageMaps (s : State) (x : AMap Part) : (s.setParts x).pageMaps = s.pageMaps := rfl
@[simp] theorem State.setParts_tlb (s : State) (x : AMap Part) : (s.setParts x).tlb = s.tlb := rfl
@[simp] theorem State.setParts_kvMaps (s : State) (x : AMap Part) : (s.setParts x).kvMaps = s.kvMaps := rfl
@[simp] theorem State.setParts_kvTlb (s : State) (x : AMap Part) : (s.setParts x).kvTlb = s.kvTlb := rfl
@[simp] theorem State.setParts_kvDirty (s : State) (x : AMap Part) : (s.setParts x).kvDirty = s.kvDirty := rfl
@[simp] theorem State.setParts_shared (s : State) (x : AMap Part) : (s.setParts x).shared = s.shared := rfl
@[simp] theorem State.setParts_withdrawn (s : State) (x : AMap Part) : (s.setParts x).withdrawn = s.withdrawn := rfl
@[simp] theorem State.setParts_modMem (s : State) (x : AMap Part) : (s.setParts x).modMem = s.modMem := rfl
@[simp] theorem State.setParts_parts (s : State) (x : AMap Part) : (s.setParts x).parts = x := rfl
@[simp] theorem State.setParts_park (s : State) (x : AMap Part) : (s.setParts x).park = s.park := rfl
@[simp] theorem State.setParts_sess (s : State) (x : AMap Part) : (s.setParts x).sess = s.sess := rfl
@[simp] theorem State.setParts_emitted (s : State) (x : AMap Part) : (s.setParts x).emitted = s.emitted := rfl
@[simp] theorem State.setParts_grammars (s : State) (x : AMap Part) : (s.setParts x).grammars = s.grammars := rfl
@[simp] theorem State.setParts_adapters (s : State) (x : AMap Part) : (s.setParts x).adapters = s.adapters := rfl
@[simp] theorem State.setParts_adapterLast (s : State) (x : AMap Part) : (s.setParts x).adapterLast = s.adapterLast := rfl
@[simp] theorem State.setParts_video (s : State) (x : AMap Part) : (s.setParts x).video = s.video := rfl
@[simp] theorem State.setParts_fw (s : State) (x : AMap Part) : (s.setParts x).fw = s.fw := rfl
@[simp] theorem State.setParts_ryc (s : State) (x : AMap Part) : (s.setParts x).ryc = s.ryc := rfl
@[simp] theorem State.setParts_net (s : State) (x : AMap Part) : (s.setParts x).net = s.net := rfl
@[simp] theorem State.setParts_ev (s : State) (x : AMap Part) : (s.setParts x).ev = s.ev := rfl
@[simp] theorem State.setParts_rel (s : State) (x : AMap Part) : (s.setParts x).rel = s.rel := rfl
@[simp] theorem State.setParts_sec (s : State) (x : AMap Part) : (s.setParts x).sec = s.sec := rfl
@[simp] theorem State.setParts_pow (s : State) (x : AMap Part) : (s.setParts x).pow = s.pow := rfl
@[simp] theorem State.setParts_store (s : State) (x : AMap Part) : (s.setParts x).store = s.store := rfl
@[simp] theorem State.setParts_od (s : State) (x : AMap Part) : (s.setParts x).od = s.od := rfl
@[simp] theorem State.setParts_d2dFails (s : State) (x : AMap Part) : (s.setParts x).d2dFails = s.d2dFails := rfl
@[simp] theorem State.setPark_pending (s : State) (x : Park) : (s.setPark x).pending = s.pending := rfl
@[simp] theorem State.setPark_free (s : State) (x : Park) : (s.setPark x).free = s.free := rfl
@[simp] theorem State.setPark_out (s : State) (x : Park) : (s.setPark x).out = s.out := rfl
@[simp] theorem State.setPark_time (s : State) (x : Park) : (s.setPark x).time = s.time := rfl
@[simp] theorem State.setPark_tray (s : State) (x : Park) : (s.setPark x).tray = s.tray := rfl
@[simp] theorem State.setPark_mode (s : State) (x : Park) : (s.setPark x).mode = s.mode := rfl
@[simp] theorem State.setPark_idle (s : State) (x : Park) : (s.setPark x).idle = s.idle := rfl
@[simp] theorem State.setPark_entry (s : State) (x : Park) : (s.setPark x).entry = s.entry := rfl
@[simp] theorem State.setPark_leftMode (s : State) (x : Park) : (s.setPark x).leftMode = s.leftMode := rfl
@[simp] theorem State.setPark_wakeHeld (s : State) (x : Park) : (s.setPark x).wakeHeld = s.wakeHeld := rfl
@[simp] theorem State.setPark_westPrimary (s : State) (x : Park) : (s.setPark x).westPrimary = s.westPrimary := rfl
@[simp] theorem State.setPark_noBoot (s : State) (x : Park) : (s.setPark x).noBoot = s.noBoot := rfl
@[simp] theorem State.setPark_rst (s : State) (x : Park) : (s.setPark x).rst = s.rst := rfl
@[simp] theorem State.setPark_cores (s : State) (x : Park) : (s.setPark x).cores = s.cores := rfl
@[simp] theorem State.setPark_queues (s : State) (x : Park) : (s.setPark x).queues = s.queues := rfl
@[simp] theorem State.setPark_queueZero (s : State) (x : Park) : (s.setPark x).queueZero = s.queueZero := rfl
@[simp] theorem State.setPark_sems (s : State) (x : Park) : (s.setPark x).sems = s.sems := rfl
@[simp] theorem State.setPark_semWait (s : State) (x : Park) : (s.setPark x).semWait = s.semWait := rfl
@[simp] theorem State.setPark_dram (s : State) (x : Park) : (s.setPark x).dram = s.dram := rfl
@[simp] theorem State.setPark_upsets (s : State) (x : Park) : (s.setPark x).upsets = s.upsets := rfl
@[simp] theorem State.setPark_spadUpsets (s : State) (x : Park) : (s.setPark x).spadUpsets = s.spadUpsets := rfl
@[simp] theorem State.setPark_ecc (s : State) (x : Park) : (s.setPark x).ecc = s.ecc := rfl
@[simp] theorem State.setPark_modKey (s : State) (x : Park) : (s.setPark x).modKey = s.modKey := rfl
@[simp] theorem State.setPark_rotation (s : State) (x : Park) : (s.setPark x).rotation = s.rotation := rfl
@[simp] theorem State.setPark_migr (s : State) (x : Park) : (s.setPark x).migr = s.migr := rfl
@[simp] theorem State.setPark_migrQueue (s : State) (x : Park) : (s.setPark x).migrQueue = s.migrQueue := rfl
@[simp] theorem State.setPark_pageMaps (s : State) (x : Park) : (s.setPark x).pageMaps = s.pageMaps := rfl
@[simp] theorem State.setPark_tlb (s : State) (x : Park) : (s.setPark x).tlb = s.tlb := rfl
@[simp] theorem State.setPark_kvMaps (s : State) (x : Park) : (s.setPark x).kvMaps = s.kvMaps := rfl
@[simp] theorem State.setPark_kvTlb (s : State) (x : Park) : (s.setPark x).kvTlb = s.kvTlb := rfl
@[simp] theorem State.setPark_kvDirty (s : State) (x : Park) : (s.setPark x).kvDirty = s.kvDirty := rfl
@[simp] theorem State.setPark_shared (s : State) (x : Park) : (s.setPark x).shared = s.shared := rfl
@[simp] theorem State.setPark_withdrawn (s : State) (x : Park) : (s.setPark x).withdrawn = s.withdrawn := rfl
@[simp] theorem State.setPark_modMem (s : State) (x : Park) : (s.setPark x).modMem = s.modMem := rfl
@[simp] theorem State.setPark_parts (s : State) (x : Park) : (s.setPark x).parts = s.parts := rfl
@[simp] theorem State.setPark_park (s : State) (x : Park) : (s.setPark x).park = x := rfl
@[simp] theorem State.setPark_sess (s : State) (x : Park) : (s.setPark x).sess = s.sess := rfl
@[simp] theorem State.setPark_emitted (s : State) (x : Park) : (s.setPark x).emitted = s.emitted := rfl
@[simp] theorem State.setPark_grammars (s : State) (x : Park) : (s.setPark x).grammars = s.grammars := rfl
@[simp] theorem State.setPark_adapters (s : State) (x : Park) : (s.setPark x).adapters = s.adapters := rfl
@[simp] theorem State.setPark_adapterLast (s : State) (x : Park) : (s.setPark x).adapterLast = s.adapterLast := rfl
@[simp] theorem State.setPark_video (s : State) (x : Park) : (s.setPark x).video = s.video := rfl
@[simp] theorem State.setPark_fw (s : State) (x : Park) : (s.setPark x).fw = s.fw := rfl
@[simp] theorem State.setPark_ryc (s : State) (x : Park) : (s.setPark x).ryc = s.ryc := rfl
@[simp] theorem State.setPark_net (s : State) (x : Park) : (s.setPark x).net = s.net := rfl
@[simp] theorem State.setPark_ev (s : State) (x : Park) : (s.setPark x).ev = s.ev := rfl
@[simp] theorem State.setPark_rel (s : State) (x : Park) : (s.setPark x).rel = s.rel := rfl
@[simp] theorem State.setPark_sec (s : State) (x : Park) : (s.setPark x).sec = s.sec := rfl
@[simp] theorem State.setPark_pow (s : State) (x : Park) : (s.setPark x).pow = s.pow := rfl
@[simp] theorem State.setPark_store (s : State) (x : Park) : (s.setPark x).store = s.store := rfl
@[simp] theorem State.setPark_od (s : State) (x : Park) : (s.setPark x).od = s.od := rfl
@[simp] theorem State.setPark_d2dFails (s : State) (x : Park) : (s.setPark x).d2dFails = s.d2dFails := rfl
@[simp] theorem State.setSess_pending (s : State) (x : AMap Session) : (s.setSess x).pending = s.pending := rfl
@[simp] theorem State.setSess_free (s : State) (x : AMap Session) : (s.setSess x).free = s.free := rfl
@[simp] theorem State.setSess_out (s : State) (x : AMap Session) : (s.setSess x).out = s.out := rfl
@[simp] theorem State.setSess_time (s : State) (x : AMap Session) : (s.setSess x).time = s.time := rfl
@[simp] theorem State.setSess_tray (s : State) (x : AMap Session) : (s.setSess x).tray = s.tray := rfl
@[simp] theorem State.setSess_mode (s : State) (x : AMap Session) : (s.setSess x).mode = s.mode := rfl
@[simp] theorem State.setSess_idle (s : State) (x : AMap Session) : (s.setSess x).idle = s.idle := rfl
@[simp] theorem State.setSess_entry (s : State) (x : AMap Session) : (s.setSess x).entry = s.entry := rfl
@[simp] theorem State.setSess_leftMode (s : State) (x : AMap Session) : (s.setSess x).leftMode = s.leftMode := rfl
@[simp] theorem State.setSess_wakeHeld (s : State) (x : AMap Session) : (s.setSess x).wakeHeld = s.wakeHeld := rfl
@[simp] theorem State.setSess_westPrimary (s : State) (x : AMap Session) : (s.setSess x).westPrimary = s.westPrimary := rfl
@[simp] theorem State.setSess_noBoot (s : State) (x : AMap Session) : (s.setSess x).noBoot = s.noBoot := rfl
@[simp] theorem State.setSess_rst (s : State) (x : AMap Session) : (s.setSess x).rst = s.rst := rfl
@[simp] theorem State.setSess_cores (s : State) (x : AMap Session) : (s.setSess x).cores = s.cores := rfl
@[simp] theorem State.setSess_queues (s : State) (x : AMap Session) : (s.setSess x).queues = s.queues := rfl
@[simp] theorem State.setSess_queueZero (s : State) (x : AMap Session) : (s.setSess x).queueZero = s.queueZero := rfl
@[simp] theorem State.setSess_sems (s : State) (x : AMap Session) : (s.setSess x).sems = s.sems := rfl
@[simp] theorem State.setSess_semWait (s : State) (x : AMap Session) : (s.setSess x).semWait = s.semWait := rfl
@[simp] theorem State.setSess_dram (s : State) (x : AMap Session) : (s.setSess x).dram = s.dram := rfl
@[simp] theorem State.setSess_upsets (s : State) (x : AMap Session) : (s.setSess x).upsets = s.upsets := rfl
@[simp] theorem State.setSess_spadUpsets (s : State) (x : AMap Session) : (s.setSess x).spadUpsets = s.spadUpsets := rfl
@[simp] theorem State.setSess_ecc (s : State) (x : AMap Session) : (s.setSess x).ecc = s.ecc := rfl
@[simp] theorem State.setSess_modKey (s : State) (x : AMap Session) : (s.setSess x).modKey = s.modKey := rfl
@[simp] theorem State.setSess_rotation (s : State) (x : AMap Session) : (s.setSess x).rotation = s.rotation := rfl
@[simp] theorem State.setSess_migr (s : State) (x : AMap Session) : (s.setSess x).migr = s.migr := rfl
@[simp] theorem State.setSess_migrQueue (s : State) (x : AMap Session) : (s.setSess x).migrQueue = s.migrQueue := rfl
@[simp] theorem State.setSess_pageMaps (s : State) (x : AMap Session) : (s.setSess x).pageMaps = s.pageMaps := rfl
@[simp] theorem State.setSess_tlb (s : State) (x : AMap Session) : (s.setSess x).tlb = s.tlb := rfl
@[simp] theorem State.setSess_kvMaps (s : State) (x : AMap Session) : (s.setSess x).kvMaps = s.kvMaps := rfl
@[simp] theorem State.setSess_kvTlb (s : State) (x : AMap Session) : (s.setSess x).kvTlb = s.kvTlb := rfl
@[simp] theorem State.setSess_kvDirty (s : State) (x : AMap Session) : (s.setSess x).kvDirty = s.kvDirty := rfl
@[simp] theorem State.setSess_shared (s : State) (x : AMap Session) : (s.setSess x).shared = s.shared := rfl
@[simp] theorem State.setSess_withdrawn (s : State) (x : AMap Session) : (s.setSess x).withdrawn = s.withdrawn := rfl
@[simp] theorem State.setSess_modMem (s : State) (x : AMap Session) : (s.setSess x).modMem = s.modMem := rfl
@[simp] theorem State.setSess_parts (s : State) (x : AMap Session) : (s.setSess x).parts = s.parts := rfl
@[simp] theorem State.setSess_park (s : State) (x : AMap Session) : (s.setSess x).park = s.park := rfl
@[simp] theorem State.setSess_sess (s : State) (x : AMap Session) : (s.setSess x).sess = x := rfl
@[simp] theorem State.setSess_emitted (s : State) (x : AMap Session) : (s.setSess x).emitted = s.emitted := rfl
@[simp] theorem State.setSess_grammars (s : State) (x : AMap Session) : (s.setSess x).grammars = s.grammars := rfl
@[simp] theorem State.setSess_adapters (s : State) (x : AMap Session) : (s.setSess x).adapters = s.adapters := rfl
@[simp] theorem State.setSess_adapterLast (s : State) (x : AMap Session) : (s.setSess x).adapterLast = s.adapterLast := rfl
@[simp] theorem State.setSess_video (s : State) (x : AMap Session) : (s.setSess x).video = s.video := rfl
@[simp] theorem State.setSess_fw (s : State) (x : AMap Session) : (s.setSess x).fw = s.fw := rfl
@[simp] theorem State.setSess_ryc (s : State) (x : AMap Session) : (s.setSess x).ryc = s.ryc := rfl
@[simp] theorem State.setSess_net (s : State) (x : AMap Session) : (s.setSess x).net = s.net := rfl
@[simp] theorem State.setSess_ev (s : State) (x : AMap Session) : (s.setSess x).ev = s.ev := rfl
@[simp] theorem State.setSess_rel (s : State) (x : AMap Session) : (s.setSess x).rel = s.rel := rfl
@[simp] theorem State.setSess_sec (s : State) (x : AMap Session) : (s.setSess x).sec = s.sec := rfl
@[simp] theorem State.setSess_pow (s : State) (x : AMap Session) : (s.setSess x).pow = s.pow := rfl
@[simp] theorem State.setSess_store (s : State) (x : AMap Session) : (s.setSess x).store = s.store := rfl
@[simp] theorem State.setSess_od (s : State) (x : AMap Session) : (s.setSess x).od = s.od := rfl
@[simp] theorem State.setSess_d2dFails (s : State) (x : AMap Session) : (s.setSess x).d2dFails = s.d2dFails := rfl
@[simp] theorem State.setEmitted_pending (s : State) (x : List (Nat × Nat × Nat)) : (s.setEmitted x).pending = s.pending := rfl
@[simp] theorem State.setEmitted_free (s : State) (x : List (Nat × Nat × Nat)) : (s.setEmitted x).free = s.free := rfl
@[simp] theorem State.setEmitted_out (s : State) (x : List (Nat × Nat × Nat)) : (s.setEmitted x).out = s.out := rfl
@[simp] theorem State.setEmitted_time (s : State) (x : List (Nat × Nat × Nat)) : (s.setEmitted x).time = s.time := rfl
@[simp] theorem State.setEmitted_tray (s : State) (x : List (Nat × Nat × Nat)) : (s.setEmitted x).tray = s.tray := rfl
@[simp] theorem State.setEmitted_mode (s : State) (x : List (Nat × Nat × Nat)) : (s.setEmitted x).mode = s.mode := rfl
@[simp] theorem State.setEmitted_idle (s : State) (x : List (Nat × Nat × Nat)) : (s.setEmitted x).idle = s.idle := rfl
@[simp] theorem State.setEmitted_entry (s : State) (x : List (Nat × Nat × Nat)) : (s.setEmitted x).entry = s.entry := rfl
@[simp] theorem State.setEmitted_leftMode (s : State) (x : List (Nat × Nat × Nat)) : (s.setEmitted x).leftMode = s.leftMode := rfl
@[simp] theorem State.setEmitted_wakeHeld (s : State) (x : List (Nat × Nat × Nat)) : (s.setEmitted x).wakeHeld = s.wakeHeld := rfl
@[simp] theorem State.setEmitted_westPrimary (s : State) (x : List (Nat × Nat × Nat)) : (s.setEmitted x).westPrimary = s.westPrimary := rfl
@[simp] theorem State.setEmitted_noBoot (s : State) (x : List (Nat × Nat × Nat)) : (s.setEmitted x).noBoot = s.noBoot := rfl
@[simp] theorem State.setEmitted_rst (s : State) (x : List (Nat × Nat × Nat)) : (s.setEmitted x).rst = s.rst := rfl
@[simp] theorem State.setEmitted_cores (s : State) (x : List (Nat × Nat × Nat)) : (s.setEmitted x).cores = s.cores := rfl
@[simp] theorem State.setEmitted_queues (s : State) (x : List (Nat × Nat × Nat)) : (s.setEmitted x).queues = s.queues := rfl
@[simp] theorem State.setEmitted_queueZero (s : State) (x : List (Nat × Nat × Nat)) : (s.setEmitted x).queueZero = s.queueZero := rfl
@[simp] theorem State.setEmitted_sems (s : State) (x : List (Nat × Nat × Nat)) : (s.setEmitted x).sems = s.sems := rfl
@[simp] theorem State.setEmitted_semWait (s : State) (x : List (Nat × Nat × Nat)) : (s.setEmitted x).semWait = s.semWait := rfl
@[simp] theorem State.setEmitted_dram (s : State) (x : List (Nat × Nat × Nat)) : (s.setEmitted x).dram = s.dram := rfl
@[simp] theorem State.setEmitted_upsets (s : State) (x : List (Nat × Nat × Nat)) : (s.setEmitted x).upsets = s.upsets := rfl
@[simp] theorem State.setEmitted_spadUpsets (s : State) (x : List (Nat × Nat × Nat)) : (s.setEmitted x).spadUpsets = s.spadUpsets := rfl
@[simp] theorem State.setEmitted_ecc (s : State) (x : List (Nat × Nat × Nat)) : (s.setEmitted x).ecc = s.ecc := rfl
@[simp] theorem State.setEmitted_modKey (s : State) (x : List (Nat × Nat × Nat)) : (s.setEmitted x).modKey = s.modKey := rfl
@[simp] theorem State.setEmitted_rotation (s : State) (x : List (Nat × Nat × Nat)) : (s.setEmitted x).rotation = s.rotation := rfl
@[simp] theorem State.setEmitted_migr (s : State) (x : List (Nat × Nat × Nat)) : (s.setEmitted x).migr = s.migr := rfl
@[simp] theorem State.setEmitted_migrQueue (s : State) (x : List (Nat × Nat × Nat)) : (s.setEmitted x).migrQueue = s.migrQueue := rfl
@[simp] theorem State.setEmitted_pageMaps (s : State) (x : List (Nat × Nat × Nat)) : (s.setEmitted x).pageMaps = s.pageMaps := rfl
@[simp] theorem State.setEmitted_tlb (s : State) (x : List (Nat × Nat × Nat)) : (s.setEmitted x).tlb = s.tlb := rfl
@[simp] theorem State.setEmitted_kvMaps (s : State) (x : List (Nat × Nat × Nat)) : (s.setEmitted x).kvMaps = s.kvMaps := rfl
@[simp] theorem State.setEmitted_kvTlb (s : State) (x : List (Nat × Nat × Nat)) : (s.setEmitted x).kvTlb = s.kvTlb := rfl
@[simp] theorem State.setEmitted_kvDirty (s : State) (x : List (Nat × Nat × Nat)) : (s.setEmitted x).kvDirty = s.kvDirty := rfl
@[simp] theorem State.setEmitted_shared (s : State) (x : List (Nat × Nat × Nat)) : (s.setEmitted x).shared = s.shared := rfl
@[simp] theorem State.setEmitted_withdrawn (s : State) (x : List (Nat × Nat × Nat)) : (s.setEmitted x).withdrawn = s.withdrawn := rfl
@[simp] theorem State.setEmitted_modMem (s : State) (x : List (Nat × Nat × Nat)) : (s.setEmitted x).modMem = s.modMem := rfl
@[simp] theorem State.setEmitted_parts (s : State) (x : List (Nat × Nat × Nat)) : (s.setEmitted x).parts = s.parts := rfl
@[simp] theorem State.setEmitted_park (s : State) (x : List (Nat × Nat × Nat)) : (s.setEmitted x).park = s.park := rfl
@[simp] theorem State.setEmitted_sess (s : State) (x : List (Nat × Nat × Nat)) : (s.setEmitted x).sess = s.sess := rfl
@[simp] theorem State.setEmitted_emitted (s : State) (x : List (Nat × Nat × Nat)) : (s.setEmitted x).emitted = x := rfl
@[simp] theorem State.setEmitted_grammars (s : State) (x : List (Nat × Nat × Nat)) : (s.setEmitted x).grammars = s.grammars := rfl
@[simp] theorem State.setEmitted_adapters (s : State) (x : List (Nat × Nat × Nat)) : (s.setEmitted x).adapters = s.adapters := rfl
@[simp] theorem State.setEmitted_adapterLast (s : State) (x : List (Nat × Nat × Nat)) : (s.setEmitted x).adapterLast = s.adapterLast := rfl
@[simp] theorem State.setEmitted_video (s : State) (x : List (Nat × Nat × Nat)) : (s.setEmitted x).video = s.video := rfl
@[simp] theorem State.setEmitted_fw (s : State) (x : List (Nat × Nat × Nat)) : (s.setEmitted x).fw = s.fw := rfl
@[simp] theorem State.setEmitted_ryc (s : State) (x : List (Nat × Nat × Nat)) : (s.setEmitted x).ryc = s.ryc := rfl
@[simp] theorem State.setEmitted_net (s : State) (x : List (Nat × Nat × Nat)) : (s.setEmitted x).net = s.net := rfl
@[simp] theorem State.setEmitted_ev (s : State) (x : List (Nat × Nat × Nat)) : (s.setEmitted x).ev = s.ev := rfl
@[simp] theorem State.setEmitted_rel (s : State) (x : List (Nat × Nat × Nat)) : (s.setEmitted x).rel = s.rel := rfl
@[simp] theorem State.setEmitted_sec (s : State) (x : List (Nat × Nat × Nat)) : (s.setEmitted x).sec = s.sec := rfl
@[simp] theorem State.setEmitted_pow (s : State) (x : List (Nat × Nat × Nat)) : (s.setEmitted x).pow = s.pow := rfl
@[simp] theorem State.setEmitted_store (s : State) (x : List (Nat × Nat × Nat)) : (s.setEmitted x).store = s.store := rfl
@[simp] theorem State.setEmitted_od (s : State) (x : List (Nat × Nat × Nat)) : (s.setEmitted x).od = s.od := rfl
@[simp] theorem State.setEmitted_d2dFails (s : State) (x : List (Nat × Nat × Nat)) : (s.setEmitted x).d2dFails = s.d2dFails := rfl
@[simp] theorem State.setGrammars_pending (s : State) (x : AMap Grammar) : (s.setGrammars x).pending = s.pending := rfl
@[simp] theorem State.setGrammars_free (s : State) (x : AMap Grammar) : (s.setGrammars x).free = s.free := rfl
@[simp] theorem State.setGrammars_out (s : State) (x : AMap Grammar) : (s.setGrammars x).out = s.out := rfl
@[simp] theorem State.setGrammars_time (s : State) (x : AMap Grammar) : (s.setGrammars x).time = s.time := rfl
@[simp] theorem State.setGrammars_tray (s : State) (x : AMap Grammar) : (s.setGrammars x).tray = s.tray := rfl
@[simp] theorem State.setGrammars_mode (s : State) (x : AMap Grammar) : (s.setGrammars x).mode = s.mode := rfl
@[simp] theorem State.setGrammars_idle (s : State) (x : AMap Grammar) : (s.setGrammars x).idle = s.idle := rfl
@[simp] theorem State.setGrammars_entry (s : State) (x : AMap Grammar) : (s.setGrammars x).entry = s.entry := rfl
@[simp] theorem State.setGrammars_leftMode (s : State) (x : AMap Grammar) : (s.setGrammars x).leftMode = s.leftMode := rfl
@[simp] theorem State.setGrammars_wakeHeld (s : State) (x : AMap Grammar) : (s.setGrammars x).wakeHeld = s.wakeHeld := rfl
@[simp] theorem State.setGrammars_westPrimary (s : State) (x : AMap Grammar) : (s.setGrammars x).westPrimary = s.westPrimary := rfl
@[simp] theorem State.setGrammars_noBoot (s : State) (x : AMap Grammar) : (s.setGrammars x).noBoot = s.noBoot := rfl
@[simp] theorem State.setGrammars_rst (s : State) (x : AMap Grammar) : (s.setGrammars x).rst = s.rst := rfl
@[simp] theorem State.setGrammars_cores (s : State) (x : AMap Grammar) : (s.setGrammars x).cores = s.cores := rfl
@[simp] theorem State.setGrammars_queues (s : State) (x : AMap Grammar) : (s.setGrammars x).queues = s.queues := rfl
@[simp] theorem State.setGrammars_queueZero (s : State) (x : AMap Grammar) : (s.setGrammars x).queueZero = s.queueZero := rfl
@[simp] theorem State.setGrammars_sems (s : State) (x : AMap Grammar) : (s.setGrammars x).sems = s.sems := rfl
@[simp] theorem State.setGrammars_semWait (s : State) (x : AMap Grammar) : (s.setGrammars x).semWait = s.semWait := rfl
@[simp] theorem State.setGrammars_dram (s : State) (x : AMap Grammar) : (s.setGrammars x).dram = s.dram := rfl
@[simp] theorem State.setGrammars_upsets (s : State) (x : AMap Grammar) : (s.setGrammars x).upsets = s.upsets := rfl
@[simp] theorem State.setGrammars_spadUpsets (s : State) (x : AMap Grammar) : (s.setGrammars x).spadUpsets = s.spadUpsets := rfl
@[simp] theorem State.setGrammars_ecc (s : State) (x : AMap Grammar) : (s.setGrammars x).ecc = s.ecc := rfl
@[simp] theorem State.setGrammars_modKey (s : State) (x : AMap Grammar) : (s.setGrammars x).modKey = s.modKey := rfl
@[simp] theorem State.setGrammars_rotation (s : State) (x : AMap Grammar) : (s.setGrammars x).rotation = s.rotation := rfl
@[simp] theorem State.setGrammars_migr (s : State) (x : AMap Grammar) : (s.setGrammars x).migr = s.migr := rfl
@[simp] theorem State.setGrammars_migrQueue (s : State) (x : AMap Grammar) : (s.setGrammars x).migrQueue = s.migrQueue := rfl
@[simp] theorem State.setGrammars_pageMaps (s : State) (x : AMap Grammar) : (s.setGrammars x).pageMaps = s.pageMaps := rfl
@[simp] theorem State.setGrammars_tlb (s : State) (x : AMap Grammar) : (s.setGrammars x).tlb = s.tlb := rfl
@[simp] theorem State.setGrammars_kvMaps (s : State) (x : AMap Grammar) : (s.setGrammars x).kvMaps = s.kvMaps := rfl
@[simp] theorem State.setGrammars_kvTlb (s : State) (x : AMap Grammar) : (s.setGrammars x).kvTlb = s.kvTlb := rfl
@[simp] theorem State.setGrammars_kvDirty (s : State) (x : AMap Grammar) : (s.setGrammars x).kvDirty = s.kvDirty := rfl
@[simp] theorem State.setGrammars_shared (s : State) (x : AMap Grammar) : (s.setGrammars x).shared = s.shared := rfl
@[simp] theorem State.setGrammars_withdrawn (s : State) (x : AMap Grammar) : (s.setGrammars x).withdrawn = s.withdrawn := rfl
@[simp] theorem State.setGrammars_modMem (s : State) (x : AMap Grammar) : (s.setGrammars x).modMem = s.modMem := rfl
@[simp] theorem State.setGrammars_parts (s : State) (x : AMap Grammar) : (s.setGrammars x).parts = s.parts := rfl
@[simp] theorem State.setGrammars_park (s : State) (x : AMap Grammar) : (s.setGrammars x).park = s.park := rfl
@[simp] theorem State.setGrammars_sess (s : State) (x : AMap Grammar) : (s.setGrammars x).sess = s.sess := rfl
@[simp] theorem State.setGrammars_emitted (s : State) (x : AMap Grammar) : (s.setGrammars x).emitted = s.emitted := rfl
@[simp] theorem State.setGrammars_grammars (s : State) (x : AMap Grammar) : (s.setGrammars x).grammars = x := rfl
@[simp] theorem State.setGrammars_adapters (s : State) (x : AMap Grammar) : (s.setGrammars x).adapters = s.adapters := rfl
@[simp] theorem State.setGrammars_adapterLast (s : State) (x : AMap Grammar) : (s.setGrammars x).adapterLast = s.adapterLast := rfl
@[simp] theorem State.setGrammars_video (s : State) (x : AMap Grammar) : (s.setGrammars x).video = s.video := rfl
@[simp] theorem State.setGrammars_fw (s : State) (x : AMap Grammar) : (s.setGrammars x).fw = s.fw := rfl
@[simp] theorem State.setGrammars_ryc (s : State) (x : AMap Grammar) : (s.setGrammars x).ryc = s.ryc := rfl
@[simp] theorem State.setGrammars_net (s : State) (x : AMap Grammar) : (s.setGrammars x).net = s.net := rfl
@[simp] theorem State.setGrammars_ev (s : State) (x : AMap Grammar) : (s.setGrammars x).ev = s.ev := rfl
@[simp] theorem State.setGrammars_rel (s : State) (x : AMap Grammar) : (s.setGrammars x).rel = s.rel := rfl
@[simp] theorem State.setGrammars_sec (s : State) (x : AMap Grammar) : (s.setGrammars x).sec = s.sec := rfl
@[simp] theorem State.setGrammars_pow (s : State) (x : AMap Grammar) : (s.setGrammars x).pow = s.pow := rfl
@[simp] theorem State.setGrammars_store (s : State) (x : AMap Grammar) : (s.setGrammars x).store = s.store := rfl
@[simp] theorem State.setGrammars_od (s : State) (x : AMap Grammar) : (s.setGrammars x).od = s.od := rfl
@[simp] theorem State.setGrammars_d2dFails (s : State) (x : AMap Grammar) : (s.setGrammars x).d2dFails = s.d2dFails := rfl
@[simp] theorem State.setAdapters_pending (s : State) (x : List Adapter) : (s.setAdapters x).pending = s.pending := rfl
@[simp] theorem State.setAdapters_free (s : State) (x : List Adapter) : (s.setAdapters x).free = s.free := rfl
@[simp] theorem State.setAdapters_out (s : State) (x : List Adapter) : (s.setAdapters x).out = s.out := rfl
@[simp] theorem State.setAdapters_time (s : State) (x : List Adapter) : (s.setAdapters x).time = s.time := rfl
@[simp] theorem State.setAdapters_tray (s : State) (x : List Adapter) : (s.setAdapters x).tray = s.tray := rfl
@[simp] theorem State.setAdapters_mode (s : State) (x : List Adapter) : (s.setAdapters x).mode = s.mode := rfl
@[simp] theorem State.setAdapters_idle (s : State) (x : List Adapter) : (s.setAdapters x).idle = s.idle := rfl
@[simp] theorem State.setAdapters_entry (s : State) (x : List Adapter) : (s.setAdapters x).entry = s.entry := rfl
@[simp] theorem State.setAdapters_leftMode (s : State) (x : List Adapter) : (s.setAdapters x).leftMode = s.leftMode := rfl
@[simp] theorem State.setAdapters_wakeHeld (s : State) (x : List Adapter) : (s.setAdapters x).wakeHeld = s.wakeHeld := rfl
@[simp] theorem State.setAdapters_westPrimary (s : State) (x : List Adapter) : (s.setAdapters x).westPrimary = s.westPrimary := rfl
@[simp] theorem State.setAdapters_noBoot (s : State) (x : List Adapter) : (s.setAdapters x).noBoot = s.noBoot := rfl
@[simp] theorem State.setAdapters_rst (s : State) (x : List Adapter) : (s.setAdapters x).rst = s.rst := rfl
@[simp] theorem State.setAdapters_cores (s : State) (x : List Adapter) : (s.setAdapters x).cores = s.cores := rfl
@[simp] theorem State.setAdapters_queues (s : State) (x : List Adapter) : (s.setAdapters x).queues = s.queues := rfl
@[simp] theorem State.setAdapters_queueZero (s : State) (x : List Adapter) : (s.setAdapters x).queueZero = s.queueZero := rfl
@[simp] theorem State.setAdapters_sems (s : State) (x : List Adapter) : (s.setAdapters x).sems = s.sems := rfl
@[simp] theorem State.setAdapters_semWait (s : State) (x : List Adapter) : (s.setAdapters x).semWait = s.semWait := rfl
@[simp] theorem State.setAdapters_dram (s : State) (x : List Adapter) : (s.setAdapters x).dram = s.dram := rfl
@[simp] theorem State.setAdapters_upsets (s : State) (x : List Adapter) : (s.setAdapters x).upsets = s.upsets := rfl
@[simp] theorem State.setAdapters_spadUpsets (s : State) (x : List Adapter) : (s.setAdapters x).spadUpsets = s.spadUpsets := rfl
@[simp] theorem State.setAdapters_ecc (s : State) (x : List Adapter) : (s.setAdapters x).ecc = s.ecc := rfl
@[simp] theorem State.setAdapters_modKey (s : State) (x : List Adapter) : (s.setAdapters x).modKey = s.modKey := rfl
@[simp] theorem State.setAdapters_rotation (s : State) (x : List Adapter) : (s.setAdapters x).rotation = s.rotation := rfl
@[simp] theorem State.setAdapters_migr (s : State) (x : List Adapter) : (s.setAdapters x).migr = s.migr := rfl
@[simp] theorem State.setAdapters_migrQueue (s : State) (x : List Adapter) : (s.setAdapters x).migrQueue = s.migrQueue := rfl
@[simp] theorem State.setAdapters_pageMaps (s : State) (x : List Adapter) : (s.setAdapters x).pageMaps = s.pageMaps := rfl
@[simp] theorem State.setAdapters_tlb (s : State) (x : List Adapter) : (s.setAdapters x).tlb = s.tlb := rfl
@[simp] theorem State.setAdapters_kvMaps (s : State) (x : List Adapter) : (s.setAdapters x).kvMaps = s.kvMaps := rfl
@[simp] theorem State.setAdapters_kvTlb (s : State) (x : List Adapter) : (s.setAdapters x).kvTlb = s.kvTlb := rfl
@[simp] theorem State.setAdapters_kvDirty (s : State) (x : List Adapter) : (s.setAdapters x).kvDirty = s.kvDirty := rfl
@[simp] theorem State.setAdapters_shared (s : State) (x : List Adapter) : (s.setAdapters x).shared = s.shared := rfl
@[simp] theorem State.setAdapters_withdrawn (s : State) (x : List Adapter) : (s.setAdapters x).withdrawn = s.withdrawn := rfl
@[simp] theorem State.setAdapters_modMem (s : State) (x : List Adapter) : (s.setAdapters x).modMem = s.modMem := rfl
@[simp] theorem State.setAdapters_parts (s : State) (x : List Adapter) : (s.setAdapters x).parts = s.parts := rfl
@[simp] theorem State.setAdapters_park (s : State) (x : List Adapter) : (s.setAdapters x).park = s.park := rfl
@[simp] theorem State.setAdapters_sess (s : State) (x : List Adapter) : (s.setAdapters x).sess = s.sess := rfl
@[simp] theorem State.setAdapters_emitted (s : State) (x : List Adapter) : (s.setAdapters x).emitted = s.emitted := rfl
@[simp] theorem State.setAdapters_grammars (s : State) (x : List Adapter) : (s.setAdapters x).grammars = s.grammars := rfl
@[simp] theorem State.setAdapters_adapters (s : State) (x : List Adapter) : (s.setAdapters x).adapters = x := rfl
@[simp] theorem State.setAdapters_adapterLast (s : State) (x : List Adapter) : (s.setAdapters x).adapterLast = s.adapterLast := rfl
@[simp] theorem State.setAdapters_video (s : State) (x : List Adapter) : (s.setAdapters x).video = s.video := rfl
@[simp] theorem State.setAdapters_fw (s : State) (x : List Adapter) : (s.setAdapters x).fw = s.fw := rfl
@[simp] theorem State.setAdapters_ryc (s : State) (x : List Adapter) : (s.setAdapters x).ryc = s.ryc := rfl
@[simp] theorem State.setAdapters_net (s : State) (x : List Adapter) : (s.setAdapters x).net = s.net := rfl
@[simp] theorem State.setAdapters_ev (s : State) (x : List Adapter) : (s.setAdapters x).ev = s.ev := rfl
@[simp] theorem State.setAdapters_rel (s : State) (x : List Adapter) : (s.setAdapters x).rel = s.rel := rfl
@[simp] theorem State.setAdapters_sec (s : State) (x : List Adapter) : (s.setAdapters x).sec = s.sec := rfl
@[simp] theorem State.setAdapters_pow (s : State) (x : List Adapter) : (s.setAdapters x).pow = s.pow := rfl
@[simp] theorem State.setAdapters_store (s : State) (x : List Adapter) : (s.setAdapters x).store = s.store := rfl
@[simp] theorem State.setAdapters_od (s : State) (x : List Adapter) : (s.setAdapters x).od = s.od := rfl
@[simp] theorem State.setAdapters_d2dFails (s : State) (x : List Adapter) : (s.setAdapters x).d2dFails = s.d2dFails := rfl
@[simp] theorem State.setAdapterLast_pending (s : State) (x : AMap Nat) : (s.setAdapterLast x).pending = s.pending := rfl
@[simp] theorem State.setAdapterLast_free (s : State) (x : AMap Nat) : (s.setAdapterLast x).free = s.free := rfl
@[simp] theorem State.setAdapterLast_out (s : State) (x : AMap Nat) : (s.setAdapterLast x).out = s.out := rfl
@[simp] theorem State.setAdapterLast_time (s : State) (x : AMap Nat) : (s.setAdapterLast x).time = s.time := rfl
@[simp] theorem State.setAdapterLast_tray (s : State) (x : AMap Nat) : (s.setAdapterLast x).tray = s.tray := rfl
@[simp] theorem State.setAdapterLast_mode (s : State) (x : AMap Nat) : (s.setAdapterLast x).mode = s.mode := rfl
@[simp] theorem State.setAdapterLast_idle (s : State) (x : AMap Nat) : (s.setAdapterLast x).idle = s.idle := rfl
@[simp] theorem State.setAdapterLast_entry (s : State) (x : AMap Nat) : (s.setAdapterLast x).entry = s.entry := rfl
@[simp] theorem State.setAdapterLast_leftMode (s : State) (x : AMap Nat) : (s.setAdapterLast x).leftMode = s.leftMode := rfl
@[simp] theorem State.setAdapterLast_wakeHeld (s : State) (x : AMap Nat) : (s.setAdapterLast x).wakeHeld = s.wakeHeld := rfl
@[simp] theorem State.setAdapterLast_westPrimary (s : State) (x : AMap Nat) : (s.setAdapterLast x).westPrimary = s.westPrimary := rfl
@[simp] theorem State.setAdapterLast_noBoot (s : State) (x : AMap Nat) : (s.setAdapterLast x).noBoot = s.noBoot := rfl
@[simp] theorem State.setAdapterLast_rst (s : State) (x : AMap Nat) : (s.setAdapterLast x).rst = s.rst := rfl
@[simp] theorem State.setAdapterLast_cores (s : State) (x : AMap Nat) : (s.setAdapterLast x).cores = s.cores := rfl
@[simp] theorem State.setAdapterLast_queues (s : State) (x : AMap Nat) : (s.setAdapterLast x).queues = s.queues := rfl
@[simp] theorem State.setAdapterLast_queueZero (s : State) (x : AMap Nat) : (s.setAdapterLast x).queueZero = s.queueZero := rfl
@[simp] theorem State.setAdapterLast_sems (s : State) (x : AMap Nat) : (s.setAdapterLast x).sems = s.sems := rfl
@[simp] theorem State.setAdapterLast_semWait (s : State) (x : AMap Nat) : (s.setAdapterLast x).semWait = s.semWait := rfl
@[simp] theorem State.setAdapterLast_dram (s : State) (x : AMap Nat) : (s.setAdapterLast x).dram = s.dram := rfl
@[simp] theorem State.setAdapterLast_upsets (s : State) (x : AMap Nat) : (s.setAdapterLast x).upsets = s.upsets := rfl
@[simp] theorem State.setAdapterLast_spadUpsets (s : State) (x : AMap Nat) : (s.setAdapterLast x).spadUpsets = s.spadUpsets := rfl
@[simp] theorem State.setAdapterLast_ecc (s : State) (x : AMap Nat) : (s.setAdapterLast x).ecc = s.ecc := rfl
@[simp] theorem State.setAdapterLast_modKey (s : State) (x : AMap Nat) : (s.setAdapterLast x).modKey = s.modKey := rfl
@[simp] theorem State.setAdapterLast_rotation (s : State) (x : AMap Nat) : (s.setAdapterLast x).rotation = s.rotation := rfl
@[simp] theorem State.setAdapterLast_migr (s : State) (x : AMap Nat) : (s.setAdapterLast x).migr = s.migr := rfl
@[simp] theorem State.setAdapterLast_migrQueue (s : State) (x : AMap Nat) : (s.setAdapterLast x).migrQueue = s.migrQueue := rfl
@[simp] theorem State.setAdapterLast_pageMaps (s : State) (x : AMap Nat) : (s.setAdapterLast x).pageMaps = s.pageMaps := rfl
@[simp] theorem State.setAdapterLast_tlb (s : State) (x : AMap Nat) : (s.setAdapterLast x).tlb = s.tlb := rfl
@[simp] theorem State.setAdapterLast_kvMaps (s : State) (x : AMap Nat) : (s.setAdapterLast x).kvMaps = s.kvMaps := rfl
@[simp] theorem State.setAdapterLast_kvTlb (s : State) (x : AMap Nat) : (s.setAdapterLast x).kvTlb = s.kvTlb := rfl
@[simp] theorem State.setAdapterLast_kvDirty (s : State) (x : AMap Nat) : (s.setAdapterLast x).kvDirty = s.kvDirty := rfl
@[simp] theorem State.setAdapterLast_shared (s : State) (x : AMap Nat) : (s.setAdapterLast x).shared = s.shared := rfl
@[simp] theorem State.setAdapterLast_withdrawn (s : State) (x : AMap Nat) : (s.setAdapterLast x).withdrawn = s.withdrawn := rfl
@[simp] theorem State.setAdapterLast_modMem (s : State) (x : AMap Nat) : (s.setAdapterLast x).modMem = s.modMem := rfl
@[simp] theorem State.setAdapterLast_parts (s : State) (x : AMap Nat) : (s.setAdapterLast x).parts = s.parts := rfl
@[simp] theorem State.setAdapterLast_park (s : State) (x : AMap Nat) : (s.setAdapterLast x).park = s.park := rfl
@[simp] theorem State.setAdapterLast_sess (s : State) (x : AMap Nat) : (s.setAdapterLast x).sess = s.sess := rfl
@[simp] theorem State.setAdapterLast_emitted (s : State) (x : AMap Nat) : (s.setAdapterLast x).emitted = s.emitted := rfl
@[simp] theorem State.setAdapterLast_grammars (s : State) (x : AMap Nat) : (s.setAdapterLast x).grammars = s.grammars := rfl
@[simp] theorem State.setAdapterLast_adapters (s : State) (x : AMap Nat) : (s.setAdapterLast x).adapters = s.adapters := rfl
@[simp] theorem State.setAdapterLast_adapterLast (s : State) (x : AMap Nat) : (s.setAdapterLast x).adapterLast = x := rfl
@[simp] theorem State.setAdapterLast_video (s : State) (x : AMap Nat) : (s.setAdapterLast x).video = s.video := rfl
@[simp] theorem State.setAdapterLast_fw (s : State) (x : AMap Nat) : (s.setAdapterLast x).fw = s.fw := rfl
@[simp] theorem State.setAdapterLast_ryc (s : State) (x : AMap Nat) : (s.setAdapterLast x).ryc = s.ryc := rfl
@[simp] theorem State.setAdapterLast_net (s : State) (x : AMap Nat) : (s.setAdapterLast x).net = s.net := rfl
@[simp] theorem State.setAdapterLast_ev (s : State) (x : AMap Nat) : (s.setAdapterLast x).ev = s.ev := rfl
@[simp] theorem State.setAdapterLast_rel (s : State) (x : AMap Nat) : (s.setAdapterLast x).rel = s.rel := rfl
@[simp] theorem State.setAdapterLast_sec (s : State) (x : AMap Nat) : (s.setAdapterLast x).sec = s.sec := rfl
@[simp] theorem State.setAdapterLast_pow (s : State) (x : AMap Nat) : (s.setAdapterLast x).pow = s.pow := rfl
@[simp] theorem State.setAdapterLast_store (s : State) (x : AMap Nat) : (s.setAdapterLast x).store = s.store := rfl
@[simp] theorem State.setAdapterLast_od (s : State) (x : AMap Nat) : (s.setAdapterLast x).od = s.od := rfl
@[simp] theorem State.setAdapterLast_d2dFails (s : State) (x : AMap Nat) : (s.setAdapterLast x).d2dFails = s.d2dFails := rfl
@[simp] theorem State.setVideo_pending (s : State) (x : AMap VEngine) : (s.setVideo x).pending = s.pending := rfl
@[simp] theorem State.setVideo_free (s : State) (x : AMap VEngine) : (s.setVideo x).free = s.free := rfl
@[simp] theorem State.setVideo_out (s : State) (x : AMap VEngine) : (s.setVideo x).out = s.out := rfl
@[simp] theorem State.setVideo_time (s : State) (x : AMap VEngine) : (s.setVideo x).time = s.time := rfl
@[simp] theorem State.setVideo_tray (s : State) (x : AMap VEngine) : (s.setVideo x).tray = s.tray := rfl
@[simp] theorem State.setVideo_mode (s : State) (x : AMap VEngine) : (s.setVideo x).mode = s.mode := rfl
@[simp] theorem State.setVideo_idle (s : State) (x : AMap VEngine) : (s.setVideo x).idle = s.idle := rfl
@[simp] theorem State.setVideo_entry (s : State) (x : AMap VEngine) : (s.setVideo x).entry = s.entry := rfl
@[simp] theorem State.setVideo_leftMode (s : State) (x : AMap VEngine) : (s.setVideo x).leftMode = s.leftMode := rfl
@[simp] theorem State.setVideo_wakeHeld (s : State) (x : AMap VEngine) : (s.setVideo x).wakeHeld = s.wakeHeld := rfl
@[simp] theorem State.setVideo_westPrimary (s : State) (x : AMap VEngine) : (s.setVideo x).westPrimary = s.westPrimary := rfl
@[simp] theorem State.setVideo_noBoot (s : State) (x : AMap VEngine) : (s.setVideo x).noBoot = s.noBoot := rfl
@[simp] theorem State.setVideo_rst (s : State) (x : AMap VEngine) : (s.setVideo x).rst = s.rst := rfl
@[simp] theorem State.setVideo_cores (s : State) (x : AMap VEngine) : (s.setVideo x).cores = s.cores := rfl
@[simp] theorem State.setVideo_queues (s : State) (x : AMap VEngine) : (s.setVideo x).queues = s.queues := rfl
@[simp] theorem State.setVideo_queueZero (s : State) (x : AMap VEngine) : (s.setVideo x).queueZero = s.queueZero := rfl
@[simp] theorem State.setVideo_sems (s : State) (x : AMap VEngine) : (s.setVideo x).sems = s.sems := rfl
@[simp] theorem State.setVideo_semWait (s : State) (x : AMap VEngine) : (s.setVideo x).semWait = s.semWait := rfl
@[simp] theorem State.setVideo_dram (s : State) (x : AMap VEngine) : (s.setVideo x).dram = s.dram := rfl
@[simp] theorem State.setVideo_upsets (s : State) (x : AMap VEngine) : (s.setVideo x).upsets = s.upsets := rfl
@[simp] theorem State.setVideo_spadUpsets (s : State) (x : AMap VEngine) : (s.setVideo x).spadUpsets = s.spadUpsets := rfl
@[simp] theorem State.setVideo_ecc (s : State) (x : AMap VEngine) : (s.setVideo x).ecc = s.ecc := rfl
@[simp] theorem State.setVideo_modKey (s : State) (x : AMap VEngine) : (s.setVideo x).modKey = s.modKey := rfl
@[simp] theorem State.setVideo_rotation (s : State) (x : AMap VEngine) : (s.setVideo x).rotation = s.rotation := rfl
@[simp] theorem State.setVideo_migr (s : State) (x : AMap VEngine) : (s.setVideo x).migr = s.migr := rfl
@[simp] theorem State.setVideo_migrQueue (s : State) (x : AMap VEngine) : (s.setVideo x).migrQueue = s.migrQueue := rfl
@[simp] theorem State.setVideo_pageMaps (s : State) (x : AMap VEngine) : (s.setVideo x).pageMaps = s.pageMaps := rfl
@[simp] theorem State.setVideo_tlb (s : State) (x : AMap VEngine) : (s.setVideo x).tlb = s.tlb := rfl
@[simp] theorem State.setVideo_kvMaps (s : State) (x : AMap VEngine) : (s.setVideo x).kvMaps = s.kvMaps := rfl
@[simp] theorem State.setVideo_kvTlb (s : State) (x : AMap VEngine) : (s.setVideo x).kvTlb = s.kvTlb := rfl
@[simp] theorem State.setVideo_kvDirty (s : State) (x : AMap VEngine) : (s.setVideo x).kvDirty = s.kvDirty := rfl
@[simp] theorem State.setVideo_shared (s : State) (x : AMap VEngine) : (s.setVideo x).shared = s.shared := rfl
@[simp] theorem State.setVideo_withdrawn (s : State) (x : AMap VEngine) : (s.setVideo x).withdrawn = s.withdrawn := rfl
@[simp] theorem State.setVideo_modMem (s : State) (x : AMap VEngine) : (s.setVideo x).modMem = s.modMem := rfl
@[simp] theorem State.setVideo_parts (s : State) (x : AMap VEngine) : (s.setVideo x).parts = s.parts := rfl
@[simp] theorem State.setVideo_park (s : State) (x : AMap VEngine) : (s.setVideo x).park = s.park := rfl
@[simp] theorem State.setVideo_sess (s : State) (x : AMap VEngine) : (s.setVideo x).sess = s.sess := rfl
@[simp] theorem State.setVideo_emitted (s : State) (x : AMap VEngine) : (s.setVideo x).emitted = s.emitted := rfl
@[simp] theorem State.setVideo_grammars (s : State) (x : AMap VEngine) : (s.setVideo x).grammars = s.grammars := rfl
@[simp] theorem State.setVideo_adapters (s : State) (x : AMap VEngine) : (s.setVideo x).adapters = s.adapters := rfl
@[simp] theorem State.setVideo_adapterLast (s : State) (x : AMap VEngine) : (s.setVideo x).adapterLast = s.adapterLast := rfl
@[simp] theorem State.setVideo_video (s : State) (x : AMap VEngine) : (s.setVideo x).video = x := rfl
@[simp] theorem State.setVideo_fw (s : State) (x : AMap VEngine) : (s.setVideo x).fw = s.fw := rfl
@[simp] theorem State.setVideo_ryc (s : State) (x : AMap VEngine) : (s.setVideo x).ryc = s.ryc := rfl
@[simp] theorem State.setVideo_net (s : State) (x : AMap VEngine) : (s.setVideo x).net = s.net := rfl
@[simp] theorem State.setVideo_ev (s : State) (x : AMap VEngine) : (s.setVideo x).ev = s.ev := rfl
@[simp] theorem State.setVideo_rel (s : State) (x : AMap VEngine) : (s.setVideo x).rel = s.rel := rfl
@[simp] theorem State.setVideo_sec (s : State) (x : AMap VEngine) : (s.setVideo x).sec = s.sec := rfl
@[simp] theorem State.setVideo_pow (s : State) (x : AMap VEngine) : (s.setVideo x).pow = s.pow := rfl
@[simp] theorem State.setVideo_store (s : State) (x : AMap VEngine) : (s.setVideo x).store = s.store := rfl
@[simp] theorem State.setVideo_od (s : State) (x : AMap VEngine) : (s.setVideo x).od = s.od := rfl
@[simp] theorem State.setVideo_d2dFails (s : State) (x : AMap VEngine) : (s.setVideo x).d2dFails = s.d2dFails := rfl
@[simp] theorem State.setFw_pending (s : State) (x : Fw) : (s.setFw x).pending = s.pending := rfl
@[simp] theorem State.setFw_free (s : State) (x : Fw) : (s.setFw x).free = s.free := rfl
@[simp] theorem State.setFw_out (s : State) (x : Fw) : (s.setFw x).out = s.out := rfl
@[simp] theorem State.setFw_time (s : State) (x : Fw) : (s.setFw x).time = s.time := rfl
@[simp] theorem State.setFw_tray (s : State) (x : Fw) : (s.setFw x).tray = s.tray := rfl
@[simp] theorem State.setFw_mode (s : State) (x : Fw) : (s.setFw x).mode = s.mode := rfl
@[simp] theorem State.setFw_idle (s : State) (x : Fw) : (s.setFw x).idle = s.idle := rfl
@[simp] theorem State.setFw_entry (s : State) (x : Fw) : (s.setFw x).entry = s.entry := rfl
@[simp] theorem State.setFw_leftMode (s : State) (x : Fw) : (s.setFw x).leftMode = s.leftMode := rfl
@[simp] theorem State.setFw_wakeHeld (s : State) (x : Fw) : (s.setFw x).wakeHeld = s.wakeHeld := rfl
@[simp] theorem State.setFw_westPrimary (s : State) (x : Fw) : (s.setFw x).westPrimary = s.westPrimary := rfl
@[simp] theorem State.setFw_noBoot (s : State) (x : Fw) : (s.setFw x).noBoot = s.noBoot := rfl
@[simp] theorem State.setFw_rst (s : State) (x : Fw) : (s.setFw x).rst = s.rst := rfl
@[simp] theorem State.setFw_cores (s : State) (x : Fw) : (s.setFw x).cores = s.cores := rfl
@[simp] theorem State.setFw_queues (s : State) (x : Fw) : (s.setFw x).queues = s.queues := rfl
@[simp] theorem State.setFw_queueZero (s : State) (x : Fw) : (s.setFw x).queueZero = s.queueZero := rfl
@[simp] theorem State.setFw_sems (s : State) (x : Fw) : (s.setFw x).sems = s.sems := rfl
@[simp] theorem State.setFw_semWait (s : State) (x : Fw) : (s.setFw x).semWait = s.semWait := rfl
@[simp] theorem State.setFw_dram (s : State) (x : Fw) : (s.setFw x).dram = s.dram := rfl
@[simp] theorem State.setFw_upsets (s : State) (x : Fw) : (s.setFw x).upsets = s.upsets := rfl
@[simp] theorem State.setFw_spadUpsets (s : State) (x : Fw) : (s.setFw x).spadUpsets = s.spadUpsets := rfl
@[simp] theorem State.setFw_ecc (s : State) (x : Fw) : (s.setFw x).ecc = s.ecc := rfl
@[simp] theorem State.setFw_modKey (s : State) (x : Fw) : (s.setFw x).modKey = s.modKey := rfl
@[simp] theorem State.setFw_rotation (s : State) (x : Fw) : (s.setFw x).rotation = s.rotation := rfl
@[simp] theorem State.setFw_migr (s : State) (x : Fw) : (s.setFw x).migr = s.migr := rfl
@[simp] theorem State.setFw_migrQueue (s : State) (x : Fw) : (s.setFw x).migrQueue = s.migrQueue := rfl
@[simp] theorem State.setFw_pageMaps (s : State) (x : Fw) : (s.setFw x).pageMaps = s.pageMaps := rfl
@[simp] theorem State.setFw_tlb (s : State) (x : Fw) : (s.setFw x).tlb = s.tlb := rfl
@[simp] theorem State.setFw_kvMaps (s : State) (x : Fw) : (s.setFw x).kvMaps = s.kvMaps := rfl
@[simp] theorem State.setFw_kvTlb (s : State) (x : Fw) : (s.setFw x).kvTlb = s.kvTlb := rfl
@[simp] theorem State.setFw_kvDirty (s : State) (x : Fw) : (s.setFw x).kvDirty = s.kvDirty := rfl
@[simp] theorem State.setFw_shared (s : State) (x : Fw) : (s.setFw x).shared = s.shared := rfl
@[simp] theorem State.setFw_withdrawn (s : State) (x : Fw) : (s.setFw x).withdrawn = s.withdrawn := rfl
@[simp] theorem State.setFw_modMem (s : State) (x : Fw) : (s.setFw x).modMem = s.modMem := rfl
@[simp] theorem State.setFw_parts (s : State) (x : Fw) : (s.setFw x).parts = s.parts := rfl
@[simp] theorem State.setFw_park (s : State) (x : Fw) : (s.setFw x).park = s.park := rfl
@[simp] theorem State.setFw_sess (s : State) (x : Fw) : (s.setFw x).sess = s.sess := rfl
@[simp] theorem State.setFw_emitted (s : State) (x : Fw) : (s.setFw x).emitted = s.emitted := rfl
@[simp] theorem State.setFw_grammars (s : State) (x : Fw) : (s.setFw x).grammars = s.grammars := rfl
@[simp] theorem State.setFw_adapters (s : State) (x : Fw) : (s.setFw x).adapters = s.adapters := rfl
@[simp] theorem State.setFw_adapterLast (s : State) (x : Fw) : (s.setFw x).adapterLast = s.adapterLast := rfl
@[simp] theorem State.setFw_video (s : State) (x : Fw) : (s.setFw x).video = s.video := rfl
@[simp] theorem State.setFw_fw (s : State) (x : Fw) : (s.setFw x).fw = x := rfl
@[simp] theorem State.setFw_ryc (s : State) (x : Fw) : (s.setFw x).ryc = s.ryc := rfl
@[simp] theorem State.setFw_net (s : State) (x : Fw) : (s.setFw x).net = s.net := rfl
@[simp] theorem State.setFw_ev (s : State) (x : Fw) : (s.setFw x).ev = s.ev := rfl
@[simp] theorem State.setFw_rel (s : State) (x : Fw) : (s.setFw x).rel = s.rel := rfl
@[simp] theorem State.setFw_sec (s : State) (x : Fw) : (s.setFw x).sec = s.sec := rfl
@[simp] theorem State.setFw_pow (s : State) (x : Fw) : (s.setFw x).pow = s.pow := rfl
@[simp] theorem State.setFw_store (s : State) (x : Fw) : (s.setFw x).store = s.store := rfl
@[simp] theorem State.setFw_od (s : State) (x : Fw) : (s.setFw x).od = s.od := rfl
@[simp] theorem State.setFw_d2dFails (s : State) (x : Fw) : (s.setFw x).d2dFails = s.d2dFails := rfl
@[simp] theorem State.setRyc_pending (s : State) (x : Ryc) : (s.setRyc x).pending = s.pending := rfl
@[simp] theorem State.setRyc_free (s : State) (x : Ryc) : (s.setRyc x).free = s.free := rfl
@[simp] theorem State.setRyc_out (s : State) (x : Ryc) : (s.setRyc x).out = s.out := rfl
@[simp] theorem State.setRyc_time (s : State) (x : Ryc) : (s.setRyc x).time = s.time := rfl
@[simp] theorem State.setRyc_tray (s : State) (x : Ryc) : (s.setRyc x).tray = s.tray := rfl
@[simp] theorem State.setRyc_mode (s : State) (x : Ryc) : (s.setRyc x).mode = s.mode := rfl
@[simp] theorem State.setRyc_idle (s : State) (x : Ryc) : (s.setRyc x).idle = s.idle := rfl
@[simp] theorem State.setRyc_entry (s : State) (x : Ryc) : (s.setRyc x).entry = s.entry := rfl
@[simp] theorem State.setRyc_leftMode (s : State) (x : Ryc) : (s.setRyc x).leftMode = s.leftMode := rfl
@[simp] theorem State.setRyc_wakeHeld (s : State) (x : Ryc) : (s.setRyc x).wakeHeld = s.wakeHeld := rfl
@[simp] theorem State.setRyc_westPrimary (s : State) (x : Ryc) : (s.setRyc x).westPrimary = s.westPrimary := rfl
@[simp] theorem State.setRyc_noBoot (s : State) (x : Ryc) : (s.setRyc x).noBoot = s.noBoot := rfl
@[simp] theorem State.setRyc_rst (s : State) (x : Ryc) : (s.setRyc x).rst = s.rst := rfl
@[simp] theorem State.setRyc_cores (s : State) (x : Ryc) : (s.setRyc x).cores = s.cores := rfl
@[simp] theorem State.setRyc_queues (s : State) (x : Ryc) : (s.setRyc x).queues = s.queues := rfl
@[simp] theorem State.setRyc_queueZero (s : State) (x : Ryc) : (s.setRyc x).queueZero = s.queueZero := rfl
@[simp] theorem State.setRyc_sems (s : State) (x : Ryc) : (s.setRyc x).sems = s.sems := rfl
@[simp] theorem State.setRyc_semWait (s : State) (x : Ryc) : (s.setRyc x).semWait = s.semWait := rfl
@[simp] theorem State.setRyc_dram (s : State) (x : Ryc) : (s.setRyc x).dram = s.dram := rfl
@[simp] theorem State.setRyc_upsets (s : State) (x : Ryc) : (s.setRyc x).upsets = s.upsets := rfl
@[simp] theorem State.setRyc_spadUpsets (s : State) (x : Ryc) : (s.setRyc x).spadUpsets = s.spadUpsets := rfl
@[simp] theorem State.setRyc_ecc (s : State) (x : Ryc) : (s.setRyc x).ecc = s.ecc := rfl
@[simp] theorem State.setRyc_modKey (s : State) (x : Ryc) : (s.setRyc x).modKey = s.modKey := rfl
@[simp] theorem State.setRyc_rotation (s : State) (x : Ryc) : (s.setRyc x).rotation = s.rotation := rfl
@[simp] theorem State.setRyc_migr (s : State) (x : Ryc) : (s.setRyc x).migr = s.migr := rfl
@[simp] theorem State.setRyc_migrQueue (s : State) (x : Ryc) : (s.setRyc x).migrQueue = s.migrQueue := rfl
@[simp] theorem State.setRyc_pageMaps (s : State) (x : Ryc) : (s.setRyc x).pageMaps = s.pageMaps := rfl
@[simp] theorem State.setRyc_tlb (s : State) (x : Ryc) : (s.setRyc x).tlb = s.tlb := rfl
@[simp] theorem State.setRyc_kvMaps (s : State) (x : Ryc) : (s.setRyc x).kvMaps = s.kvMaps := rfl
@[simp] theorem State.setRyc_kvTlb (s : State) (x : Ryc) : (s.setRyc x).kvTlb = s.kvTlb := rfl
@[simp] theorem State.setRyc_kvDirty (s : State) (x : Ryc) : (s.setRyc x).kvDirty = s.kvDirty := rfl
@[simp] theorem State.setRyc_shared (s : State) (x : Ryc) : (s.setRyc x).shared = s.shared := rfl
@[simp] theorem State.setRyc_withdrawn (s : State) (x : Ryc) : (s.setRyc x).withdrawn = s.withdrawn := rfl
@[simp] theorem State.setRyc_modMem (s : State) (x : Ryc) : (s.setRyc x).modMem = s.modMem := rfl
@[simp] theorem State.setRyc_parts (s : State) (x : Ryc) : (s.setRyc x).parts = s.parts := rfl
@[simp] theorem State.setRyc_park (s : State) (x : Ryc) : (s.setRyc x).park = s.park := rfl
@[simp] theorem State.setRyc_sess (s : State) (x : Ryc) : (s.setRyc x).sess = s.sess := rfl
@[simp] theorem State.setRyc_emitted (s : State) (x : Ryc) : (s.setRyc x).emitted = s.emitted := rfl
@[simp] theorem State.setRyc_grammars (s : State) (x : Ryc) : (s.setRyc x).grammars = s.grammars := rfl
@[simp] theorem State.setRyc_adapters (s : State) (x : Ryc) : (s.setRyc x).adapters = s.adapters := rfl
@[simp] theorem State.setRyc_adapterLast (s : State) (x : Ryc) : (s.setRyc x).adapterLast = s.adapterLast := rfl
@[simp] theorem State.setRyc_video (s : State) (x : Ryc) : (s.setRyc x).video = s.video := rfl
@[simp] theorem State.setRyc_fw (s : State) (x : Ryc) : (s.setRyc x).fw = s.fw := rfl
@[simp] theorem State.setRyc_ryc (s : State) (x : Ryc) : (s.setRyc x).ryc = x := rfl
@[simp] theorem State.setRyc_net (s : State) (x : Ryc) : (s.setRyc x).net = s.net := rfl
@[simp] theorem State.setRyc_ev (s : State) (x : Ryc) : (s.setRyc x).ev = s.ev := rfl
@[simp] theorem State.setRyc_rel (s : State) (x : Ryc) : (s.setRyc x).rel = s.rel := rfl
@[simp] theorem State.setRyc_sec (s : State) (x : Ryc) : (s.setRyc x).sec = s.sec := rfl
@[simp] theorem State.setRyc_pow (s : State) (x : Ryc) : (s.setRyc x).pow = s.pow := rfl
@[simp] theorem State.setRyc_store (s : State) (x : Ryc) : (s.setRyc x).store = s.store := rfl
@[simp] theorem State.setRyc_od (s : State) (x : Ryc) : (s.setRyc x).od = s.od := rfl
@[simp] theorem State.setRyc_d2dFails (s : State) (x : Ryc) : (s.setRyc x).d2dFails = s.d2dFails := rfl
@[simp] theorem State.setNet_pending (s : State) (x : Net) : (s.setNet x).pending = s.pending := rfl
@[simp] theorem State.setNet_free (s : State) (x : Net) : (s.setNet x).free = s.free := rfl
@[simp] theorem State.setNet_out (s : State) (x : Net) : (s.setNet x).out = s.out := rfl
@[simp] theorem State.setNet_time (s : State) (x : Net) : (s.setNet x).time = s.time := rfl
@[simp] theorem State.setNet_tray (s : State) (x : Net) : (s.setNet x).tray = s.tray := rfl
@[simp] theorem State.setNet_mode (s : State) (x : Net) : (s.setNet x).mode = s.mode := rfl
@[simp] theorem State.setNet_idle (s : State) (x : Net) : (s.setNet x).idle = s.idle := rfl
@[simp] theorem State.setNet_entry (s : State) (x : Net) : (s.setNet x).entry = s.entry := rfl
@[simp] theorem State.setNet_leftMode (s : State) (x : Net) : (s.setNet x).leftMode = s.leftMode := rfl
@[simp] theorem State.setNet_wakeHeld (s : State) (x : Net) : (s.setNet x).wakeHeld = s.wakeHeld := rfl
@[simp] theorem State.setNet_westPrimary (s : State) (x : Net) : (s.setNet x).westPrimary = s.westPrimary := rfl
@[simp] theorem State.setNet_noBoot (s : State) (x : Net) : (s.setNet x).noBoot = s.noBoot := rfl
@[simp] theorem State.setNet_rst (s : State) (x : Net) : (s.setNet x).rst = s.rst := rfl
@[simp] theorem State.setNet_cores (s : State) (x : Net) : (s.setNet x).cores = s.cores := rfl
@[simp] theorem State.setNet_queues (s : State) (x : Net) : (s.setNet x).queues = s.queues := rfl
@[simp] theorem State.setNet_queueZero (s : State) (x : Net) : (s.setNet x).queueZero = s.queueZero := rfl
@[simp] theorem State.setNet_sems (s : State) (x : Net) : (s.setNet x).sems = s.sems := rfl
@[simp] theorem State.setNet_semWait (s : State) (x : Net) : (s.setNet x).semWait = s.semWait := rfl
@[simp] theorem State.setNet_dram (s : State) (x : Net) : (s.setNet x).dram = s.dram := rfl
@[simp] theorem State.setNet_upsets (s : State) (x : Net) : (s.setNet x).upsets = s.upsets := rfl
@[simp] theorem State.setNet_spadUpsets (s : State) (x : Net) : (s.setNet x).spadUpsets = s.spadUpsets := rfl
@[simp] theorem State.setNet_ecc (s : State) (x : Net) : (s.setNet x).ecc = s.ecc := rfl
@[simp] theorem State.setNet_modKey (s : State) (x : Net) : (s.setNet x).modKey = s.modKey := rfl
@[simp] theorem State.setNet_rotation (s : State) (x : Net) : (s.setNet x).rotation = s.rotation := rfl
@[simp] theorem State.setNet_migr (s : State) (x : Net) : (s.setNet x).migr = s.migr := rfl
@[simp] theorem State.setNet_migrQueue (s : State) (x : Net) : (s.setNet x).migrQueue = s.migrQueue := rfl
@[simp] theorem State.setNet_pageMaps (s : State) (x : Net) : (s.setNet x).pageMaps = s.pageMaps := rfl
@[simp] theorem State.setNet_tlb (s : State) (x : Net) : (s.setNet x).tlb = s.tlb := rfl
@[simp] theorem State.setNet_kvMaps (s : State) (x : Net) : (s.setNet x).kvMaps = s.kvMaps := rfl
@[simp] theorem State.setNet_kvTlb (s : State) (x : Net) : (s.setNet x).kvTlb = s.kvTlb := rfl
@[simp] theorem State.setNet_kvDirty (s : State) (x : Net) : (s.setNet x).kvDirty = s.kvDirty := rfl
@[simp] theorem State.setNet_shared (s : State) (x : Net) : (s.setNet x).shared = s.shared := rfl
@[simp] theorem State.setNet_withdrawn (s : State) (x : Net) : (s.setNet x).withdrawn = s.withdrawn := rfl
@[simp] theorem State.setNet_modMem (s : State) (x : Net) : (s.setNet x).modMem = s.modMem := rfl
@[simp] theorem State.setNet_parts (s : State) (x : Net) : (s.setNet x).parts = s.parts := rfl
@[simp] theorem State.setNet_park (s : State) (x : Net) : (s.setNet x).park = s.park := rfl
@[simp] theorem State.setNet_sess (s : State) (x : Net) : (s.setNet x).sess = s.sess := rfl
@[simp] theorem State.setNet_emitted (s : State) (x : Net) : (s.setNet x).emitted = s.emitted := rfl
@[simp] theorem State.setNet_grammars (s : State) (x : Net) : (s.setNet x).grammars = s.grammars := rfl
@[simp] theorem State.setNet_adapters (s : State) (x : Net) : (s.setNet x).adapters = s.adapters := rfl
@[simp] theorem State.setNet_adapterLast (s : State) (x : Net) : (s.setNet x).adapterLast = s.adapterLast := rfl
@[simp] theorem State.setNet_video (s : State) (x : Net) : (s.setNet x).video = s.video := rfl
@[simp] theorem State.setNet_fw (s : State) (x : Net) : (s.setNet x).fw = s.fw := rfl
@[simp] theorem State.setNet_ryc (s : State) (x : Net) : (s.setNet x).ryc = s.ryc := rfl
@[simp] theorem State.setNet_net (s : State) (x : Net) : (s.setNet x).net = x := rfl
@[simp] theorem State.setNet_ev (s : State) (x : Net) : (s.setNet x).ev = s.ev := rfl
@[simp] theorem State.setNet_rel (s : State) (x : Net) : (s.setNet x).rel = s.rel := rfl
@[simp] theorem State.setNet_sec (s : State) (x : Net) : (s.setNet x).sec = s.sec := rfl
@[simp] theorem State.setNet_pow (s : State) (x : Net) : (s.setNet x).pow = s.pow := rfl
@[simp] theorem State.setNet_store (s : State) (x : Net) : (s.setNet x).store = s.store := rfl
@[simp] theorem State.setNet_od (s : State) (x : Net) : (s.setNet x).od = s.od := rfl
@[simp] theorem State.setNet_d2dFails (s : State) (x : Net) : (s.setNet x).d2dFails = s.d2dFails := rfl
@[simp] theorem State.setEv_pending (s : State) (x : Ev) : (s.setEv x).pending = s.pending := rfl
@[simp] theorem State.setEv_free (s : State) (x : Ev) : (s.setEv x).free = s.free := rfl
@[simp] theorem State.setEv_out (s : State) (x : Ev) : (s.setEv x).out = s.out := rfl
@[simp] theorem State.setEv_time (s : State) (x : Ev) : (s.setEv x).time = s.time := rfl
@[simp] theorem State.setEv_tray (s : State) (x : Ev) : (s.setEv x).tray = s.tray := rfl
@[simp] theorem State.setEv_mode (s : State) (x : Ev) : (s.setEv x).mode = s.mode := rfl
@[simp] theorem State.setEv_idle (s : State) (x : Ev) : (s.setEv x).idle = s.idle := rfl
@[simp] theorem State.setEv_entry (s : State) (x : Ev) : (s.setEv x).entry = s.entry := rfl
@[simp] theorem State.setEv_leftMode (s : State) (x : Ev) : (s.setEv x).leftMode = s.leftMode := rfl
@[simp] theorem State.setEv_wakeHeld (s : State) (x : Ev) : (s.setEv x).wakeHeld = s.wakeHeld := rfl
@[simp] theorem State.setEv_westPrimary (s : State) (x : Ev) : (s.setEv x).westPrimary = s.westPrimary := rfl
@[simp] theorem State.setEv_noBoot (s : State) (x : Ev) : (s.setEv x).noBoot = s.noBoot := rfl
@[simp] theorem State.setEv_rst (s : State) (x : Ev) : (s.setEv x).rst = s.rst := rfl
@[simp] theorem State.setEv_cores (s : State) (x : Ev) : (s.setEv x).cores = s.cores := rfl
@[simp] theorem State.setEv_queues (s : State) (x : Ev) : (s.setEv x).queues = s.queues := rfl
@[simp] theorem State.setEv_queueZero (s : State) (x : Ev) : (s.setEv x).queueZero = s.queueZero := rfl
@[simp] theorem State.setEv_sems (s : State) (x : Ev) : (s.setEv x).sems = s.sems := rfl
@[simp] theorem State.setEv_semWait (s : State) (x : Ev) : (s.setEv x).semWait = s.semWait := rfl
@[simp] theorem State.setEv_dram (s : State) (x : Ev) : (s.setEv x).dram = s.dram := rfl
@[simp] theorem State.setEv_upsets (s : State) (x : Ev) : (s.setEv x).upsets = s.upsets := rfl
@[simp] theorem State.setEv_spadUpsets (s : State) (x : Ev) : (s.setEv x).spadUpsets = s.spadUpsets := rfl
@[simp] theorem State.setEv_ecc (s : State) (x : Ev) : (s.setEv x).ecc = s.ecc := rfl
@[simp] theorem State.setEv_modKey (s : State) (x : Ev) : (s.setEv x).modKey = s.modKey := rfl
@[simp] theorem State.setEv_rotation (s : State) (x : Ev) : (s.setEv x).rotation = s.rotation := rfl
@[simp] theorem State.setEv_migr (s : State) (x : Ev) : (s.setEv x).migr = s.migr := rfl
@[simp] theorem State.setEv_migrQueue (s : State) (x : Ev) : (s.setEv x).migrQueue = s.migrQueue := rfl
@[simp] theorem State.setEv_pageMaps (s : State) (x : Ev) : (s.setEv x).pageMaps = s.pageMaps := rfl
@[simp] theorem State.setEv_tlb (s : State) (x : Ev) : (s.setEv x).tlb = s.tlb := rfl
@[simp] theorem State.setEv_kvMaps (s : State) (x : Ev) : (s.setEv x).kvMaps = s.kvMaps := rfl
@[simp] theorem State.setEv_kvTlb (s : State) (x : Ev) : (s.setEv x).kvTlb = s.kvTlb := rfl
@[simp] theorem State.setEv_kvDirty (s : State) (x : Ev) : (s.setEv x).kvDirty = s.kvDirty := rfl
@[simp] theorem State.setEv_shared (s : State) (x : Ev) : (s.setEv x).shared = s.shared := rfl
@[simp] theorem State.setEv_withdrawn (s : State) (x : Ev) : (s.setEv x).withdrawn = s.withdrawn := rfl
@[simp] theorem State.setEv_modMem (s : State) (x : Ev) : (s.setEv x).modMem = s.modMem := rfl
@[simp] theorem State.setEv_parts (s : State) (x : Ev) : (s.setEv x).parts = s.parts := rfl
@[simp] theorem State.setEv_park (s : State) (x : Ev) : (s.setEv x).park = s.park := rfl
@[simp] theorem State.setEv_sess (s : State) (x : Ev) : (s.setEv x).sess = s.sess := rfl
@[simp] theorem State.setEv_emitted (s : State) (x : Ev) : (s.setEv x).emitted = s.emitted := rfl
@[simp] theorem State.setEv_grammars (s : State) (x : Ev) : (s.setEv x).grammars = s.grammars := rfl
@[simp] theorem State.setEv_adapters (s : State) (x : Ev) : (s.setEv x).adapters = s.adapters := rfl
@[simp] theorem State.setEv_adapterLast (s : State) (x : Ev) : (s.setEv x).adapterLast = s.adapterLast := rfl
@[simp] theorem State.setEv_video (s : State) (x : Ev) : (s.setEv x).video = s.video := rfl
@[simp] theorem State.setEv_fw (s : State) (x : Ev) : (s.setEv x).fw = s.fw := rfl
@[simp] theorem State.setEv_ryc (s : State) (x : Ev) : (s.setEv x).ryc = s.ryc := rfl
@[simp] theorem State.setEv_net (s : State) (x : Ev) : (s.setEv x).net = s.net := rfl
@[simp] theorem State.setEv_ev (s : State) (x : Ev) : (s.setEv x).ev = x := rfl
@[simp] theorem State.setEv_rel (s : State) (x : Ev) : (s.setEv x).rel = s.rel := rfl
@[simp] theorem State.setEv_sec (s : State) (x : Ev) : (s.setEv x).sec = s.sec := rfl
@[simp] theorem State.setEv_pow (s : State) (x : Ev) : (s.setEv x).pow = s.pow := rfl
@[simp] theorem State.setEv_store (s : State) (x : Ev) : (s.setEv x).store = s.store := rfl
@[simp] theorem State.setEv_od (s : State) (x : Ev) : (s.setEv x).od = s.od := rfl
@[simp] theorem State.setEv_d2dFails (s : State) (x : Ev) : (s.setEv x).d2dFails = s.d2dFails := rfl
@[simp] theorem State.setRel_pending (s : State) (x : Rel) : (s.setRel x).pending = s.pending := rfl
@[simp] theorem State.setRel_free (s : State) (x : Rel) : (s.setRel x).free = s.free := rfl
@[simp] theorem State.setRel_out (s : State) (x : Rel) : (s.setRel x).out = s.out := rfl
@[simp] theorem State.setRel_time (s : State) (x : Rel) : (s.setRel x).time = s.time := rfl
@[simp] theorem State.setRel_tray (s : State) (x : Rel) : (s.setRel x).tray = s.tray := rfl
@[simp] theorem State.setRel_mode (s : State) (x : Rel) : (s.setRel x).mode = s.mode := rfl
@[simp] theorem State.setRel_idle (s : State) (x : Rel) : (s.setRel x).idle = s.idle := rfl
@[simp] theorem State.setRel_entry (s : State) (x : Rel) : (s.setRel x).entry = s.entry := rfl
@[simp] theorem State.setRel_leftMode (s : State) (x : Rel) : (s.setRel x).leftMode = s.leftMode := rfl
@[simp] theorem State.setRel_wakeHeld (s : State) (x : Rel) : (s.setRel x).wakeHeld = s.wakeHeld := rfl
@[simp] theorem State.setRel_westPrimary (s : State) (x : Rel) : (s.setRel x).westPrimary = s.westPrimary := rfl
@[simp] theorem State.setRel_noBoot (s : State) (x : Rel) : (s.setRel x).noBoot = s.noBoot := rfl
@[simp] theorem State.setRel_rst (s : State) (x : Rel) : (s.setRel x).rst = s.rst := rfl
@[simp] theorem State.setRel_cores (s : State) (x : Rel) : (s.setRel x).cores = s.cores := rfl
@[simp] theorem State.setRel_queues (s : State) (x : Rel) : (s.setRel x).queues = s.queues := rfl
@[simp] theorem State.setRel_queueZero (s : State) (x : Rel) : (s.setRel x).queueZero = s.queueZero := rfl
@[simp] theorem State.setRel_sems (s : State) (x : Rel) : (s.setRel x).sems = s.sems := rfl
@[simp] theorem State.setRel_semWait (s : State) (x : Rel) : (s.setRel x).semWait = s.semWait := rfl
@[simp] theorem State.setRel_dram (s : State) (x : Rel) : (s.setRel x).dram = s.dram := rfl
@[simp] theorem State.setRel_upsets (s : State) (x : Rel) : (s.setRel x).upsets = s.upsets := rfl
@[simp] theorem State.setRel_spadUpsets (s : State) (x : Rel) : (s.setRel x).spadUpsets = s.spadUpsets := rfl
@[simp] theorem State.setRel_ecc (s : State) (x : Rel) : (s.setRel x).ecc = s.ecc := rfl
@[simp] theorem State.setRel_modKey (s : State) (x : Rel) : (s.setRel x).modKey = s.modKey := rfl
@[simp] theorem State.setRel_rotation (s : State) (x : Rel) : (s.setRel x).rotation = s.rotation := rfl
@[simp] theorem State.setRel_migr (s : State) (x : Rel) : (s.setRel x).migr = s.migr := rfl
@[simp] theorem State.setRel_migrQueue (s : State) (x : Rel) : (s.setRel x).migrQueue = s.migrQueue := rfl
@[simp] theorem State.setRel_pageMaps (s : State) (x : Rel) : (s.setRel x).pageMaps = s.pageMaps := rfl
@[simp] theorem State.setRel_tlb (s : State) (x : Rel) : (s.setRel x).tlb = s.tlb := rfl
@[simp] theorem State.setRel_kvMaps (s : State) (x : Rel) : (s.setRel x).kvMaps = s.kvMaps := rfl
@[simp] theorem State.setRel_kvTlb (s : State) (x : Rel) : (s.setRel x).kvTlb = s.kvTlb := rfl
@[simp] theorem State.setRel_kvDirty (s : State) (x : Rel) : (s.setRel x).kvDirty = s.kvDirty := rfl
@[simp] theorem State.setRel_shared (s : State) (x : Rel) : (s.setRel x).shared = s.shared := rfl
@[simp] theorem State.setRel_withdrawn (s : State) (x : Rel) : (s.setRel x).withdrawn = s.withdrawn := rfl
@[simp] theorem State.setRel_modMem (s : State) (x : Rel) : (s.setRel x).modMem = s.modMem := rfl
@[simp] theorem State.setRel_parts (s : State) (x : Rel) : (s.setRel x).parts = s.parts := rfl
@[simp] theorem State.setRel_park (s : State) (x : Rel) : (s.setRel x).park = s.park := rfl
@[simp] theorem State.setRel_sess (s : State) (x : Rel) : (s.setRel x).sess = s.sess := rfl
@[simp] theorem State.setRel_emitted (s : State) (x : Rel) : (s.setRel x).emitted = s.emitted := rfl
@[simp] theorem State.setRel_grammars (s : State) (x : Rel) : (s.setRel x).grammars = s.grammars := rfl
@[simp] theorem State.setRel_adapters (s : State) (x : Rel) : (s.setRel x).adapters = s.adapters := rfl
@[simp] theorem State.setRel_adapterLast (s : State) (x : Rel) : (s.setRel x).adapterLast = s.adapterLast := rfl
@[simp] theorem State.setRel_video (s : State) (x : Rel) : (s.setRel x).video = s.video := rfl
@[simp] theorem State.setRel_fw (s : State) (x : Rel) : (s.setRel x).fw = s.fw := rfl
@[simp] theorem State.setRel_ryc (s : State) (x : Rel) : (s.setRel x).ryc = s.ryc := rfl
@[simp] theorem State.setRel_net (s : State) (x : Rel) : (s.setRel x).net = s.net := rfl
@[simp] theorem State.setRel_ev (s : State) (x : Rel) : (s.setRel x).ev = s.ev := rfl
@[simp] theorem State.setRel_rel (s : State) (x : Rel) : (s.setRel x).rel = x := rfl
@[simp] theorem State.setRel_sec (s : State) (x : Rel) : (s.setRel x).sec = s.sec := rfl
@[simp] theorem State.setRel_pow (s : State) (x : Rel) : (s.setRel x).pow = s.pow := rfl
@[simp] theorem State.setRel_store (s : State) (x : Rel) : (s.setRel x).store = s.store := rfl
@[simp] theorem State.setRel_od (s : State) (x : Rel) : (s.setRel x).od = s.od := rfl
@[simp] theorem State.setRel_d2dFails (s : State) (x : Rel) : (s.setRel x).d2dFails = s.d2dFails := rfl
@[simp] theorem State.setSec_pending (s : State) (x : Sec) : (s.setSec x).pending = s.pending := rfl
@[simp] theorem State.setSec_free (s : State) (x : Sec) : (s.setSec x).free = s.free := rfl
@[simp] theorem State.setSec_out (s : State) (x : Sec) : (s.setSec x).out = s.out := rfl
@[simp] theorem State.setSec_time (s : State) (x : Sec) : (s.setSec x).time = s.time := rfl
@[simp] theorem State.setSec_tray (s : State) (x : Sec) : (s.setSec x).tray = s.tray := rfl
@[simp] theorem State.setSec_mode (s : State) (x : Sec) : (s.setSec x).mode = s.mode := rfl
@[simp] theorem State.setSec_idle (s : State) (x : Sec) : (s.setSec x).idle = s.idle := rfl
@[simp] theorem State.setSec_entry (s : State) (x : Sec) : (s.setSec x).entry = s.entry := rfl
@[simp] theorem State.setSec_leftMode (s : State) (x : Sec) : (s.setSec x).leftMode = s.leftMode := rfl
@[simp] theorem State.setSec_wakeHeld (s : State) (x : Sec) : (s.setSec x).wakeHeld = s.wakeHeld := rfl
@[simp] theorem State.setSec_westPrimary (s : State) (x : Sec) : (s.setSec x).westPrimary = s.westPrimary := rfl
@[simp] theorem State.setSec_noBoot (s : State) (x : Sec) : (s.setSec x).noBoot = s.noBoot := rfl
@[simp] theorem State.setSec_rst (s : State) (x : Sec) : (s.setSec x).rst = s.rst := rfl
@[simp] theorem State.setSec_cores (s : State) (x : Sec) : (s.setSec x).cores = s.cores := rfl
@[simp] theorem State.setSec_queues (s : State) (x : Sec) : (s.setSec x).queues = s.queues := rfl
@[simp] theorem State.setSec_queueZero (s : State) (x : Sec) : (s.setSec x).queueZero = s.queueZero := rfl
@[simp] theorem State.setSec_sems (s : State) (x : Sec) : (s.setSec x).sems = s.sems := rfl
@[simp] theorem State.setSec_semWait (s : State) (x : Sec) : (s.setSec x).semWait = s.semWait := rfl
@[simp] theorem State.setSec_dram (s : State) (x : Sec) : (s.setSec x).dram = s.dram := rfl
@[simp] theorem State.setSec_upsets (s : State) (x : Sec) : (s.setSec x).upsets = s.upsets := rfl
@[simp] theorem State.setSec_spadUpsets (s : State) (x : Sec) : (s.setSec x).spadUpsets = s.spadUpsets := rfl
@[simp] theorem State.setSec_ecc (s : State) (x : Sec) : (s.setSec x).ecc = s.ecc := rfl
@[simp] theorem State.setSec_modKey (s : State) (x : Sec) : (s.setSec x).modKey = s.modKey := rfl
@[simp] theorem State.setSec_rotation (s : State) (x : Sec) : (s.setSec x).rotation = s.rotation := rfl
@[simp] theorem State.setSec_migr (s : State) (x : Sec) : (s.setSec x).migr = s.migr := rfl
@[simp] theorem State.setSec_migrQueue (s : State) (x : Sec) : (s.setSec x).migrQueue = s.migrQueue := rfl
@[simp] theorem State.setSec_pageMaps (s : State) (x : Sec) : (s.setSec x).pageMaps = s.pageMaps := rfl
@[simp] theorem State.setSec_tlb (s : State) (x : Sec) : (s.setSec x).tlb = s.tlb := rfl
@[simp] theorem State.setSec_kvMaps (s : State) (x : Sec) : (s.setSec x).kvMaps = s.kvMaps := rfl
@[simp] theorem State.setSec_kvTlb (s : State) (x : Sec) : (s.setSec x).kvTlb = s.kvTlb := rfl
@[simp] theorem State.setSec_kvDirty (s : State) (x : Sec) : (s.setSec x).kvDirty = s.kvDirty := rfl
@[simp] theorem State.setSec_shared (s : State) (x : Sec) : (s.setSec x).shared = s.shared := rfl
@[simp] theorem State.setSec_withdrawn (s : State) (x : Sec) : (s.setSec x).withdrawn = s.withdrawn := rfl
@[simp] theorem State.setSec_modMem (s : State) (x : Sec) : (s.setSec x).modMem = s.modMem := rfl
@[simp] theorem State.setSec_parts (s : State) (x : Sec) : (s.setSec x).parts = s.parts := rfl
@[simp] theorem State.setSec_park (s : State) (x : Sec) : (s.setSec x).park = s.park := rfl
@[simp] theorem State.setSec_sess (s : State) (x : Sec) : (s.setSec x).sess = s.sess := rfl
@[simp] theorem State.setSec_emitted (s : State) (x : Sec) : (s.setSec x).emitted = s.emitted := rfl
@[simp] theorem State.setSec_grammars (s : State) (x : Sec) : (s.setSec x).grammars = s.grammars := rfl
@[simp] theorem State.setSec_adapters (s : State) (x : Sec) : (s.setSec x).adapters = s.adapters := rfl
@[simp] theorem State.setSec_adapterLast (s : State) (x : Sec) : (s.setSec x).adapterLast = s.adapterLast := rfl
@[simp] theorem State.setSec_video (s : State) (x : Sec) : (s.setSec x).video = s.video := rfl
@[simp] theorem State.setSec_fw (s : State) (x : Sec) : (s.setSec x).fw = s.fw := rfl
@[simp] theorem State.setSec_ryc (s : State) (x : Sec) : (s.setSec x).ryc = s.ryc := rfl
@[simp] theorem State.setSec_net (s : State) (x : Sec) : (s.setSec x).net = s.net := rfl
@[simp] theorem State.setSec_ev (s : State) (x : Sec) : (s.setSec x).ev = s.ev := rfl
@[simp] theorem State.setSec_rel (s : State) (x : Sec) : (s.setSec x).rel = s.rel := rfl
@[simp] theorem State.setSec_sec (s : State) (x : Sec) : (s.setSec x).sec = x := rfl
@[simp] theorem State.setSec_pow (s : State) (x : Sec) : (s.setSec x).pow = s.pow := rfl
@[simp] theorem State.setSec_store (s : State) (x : Sec) : (s.setSec x).store = s.store := rfl
@[simp] theorem State.setSec_od (s : State) (x : Sec) : (s.setSec x).od = s.od := rfl
@[simp] theorem State.setSec_d2dFails (s : State) (x : Sec) : (s.setSec x).d2dFails = s.d2dFails := rfl
@[simp] theorem State.setPow_pending (s : State) (x : Pow) : (s.setPow x).pending = s.pending := rfl
@[simp] theorem State.setPow_free (s : State) (x : Pow) : (s.setPow x).free = s.free := rfl
@[simp] theorem State.setPow_out (s : State) (x : Pow) : (s.setPow x).out = s.out := rfl
@[simp] theorem State.setPow_time (s : State) (x : Pow) : (s.setPow x).time = s.time := rfl
@[simp] theorem State.setPow_tray (s : State) (x : Pow) : (s.setPow x).tray = s.tray := rfl
@[simp] theorem State.setPow_mode (s : State) (x : Pow) : (s.setPow x).mode = s.mode := rfl
@[simp] theorem State.setPow_idle (s : State) (x : Pow) : (s.setPow x).idle = s.idle := rfl
@[simp] theorem State.setPow_entry (s : State) (x : Pow) : (s.setPow x).entry = s.entry := rfl
@[simp] theorem State.setPow_leftMode (s : State) (x : Pow) : (s.setPow x).leftMode = s.leftMode := rfl
@[simp] theorem State.setPow_wakeHeld (s : State) (x : Pow) : (s.setPow x).wakeHeld = s.wakeHeld := rfl
@[simp] theorem State.setPow_westPrimary (s : State) (x : Pow) : (s.setPow x).westPrimary = s.westPrimary := rfl
@[simp] theorem State.setPow_noBoot (s : State) (x : Pow) : (s.setPow x).noBoot = s.noBoot := rfl
@[simp] theorem State.setPow_rst (s : State) (x : Pow) : (s.setPow x).rst = s.rst := rfl
@[simp] theorem State.setPow_cores (s : State) (x : Pow) : (s.setPow x).cores = s.cores := rfl
@[simp] theorem State.setPow_queues (s : State) (x : Pow) : (s.setPow x).queues = s.queues := rfl
@[simp] theorem State.setPow_queueZero (s : State) (x : Pow) : (s.setPow x).queueZero = s.queueZero := rfl
@[simp] theorem State.setPow_sems (s : State) (x : Pow) : (s.setPow x).sems = s.sems := rfl
@[simp] theorem State.setPow_semWait (s : State) (x : Pow) : (s.setPow x).semWait = s.semWait := rfl
@[simp] theorem State.setPow_dram (s : State) (x : Pow) : (s.setPow x).dram = s.dram := rfl
@[simp] theorem State.setPow_upsets (s : State) (x : Pow) : (s.setPow x).upsets = s.upsets := rfl
@[simp] theorem State.setPow_spadUpsets (s : State) (x : Pow) : (s.setPow x).spadUpsets = s.spadUpsets := rfl
@[simp] theorem State.setPow_ecc (s : State) (x : Pow) : (s.setPow x).ecc = s.ecc := rfl
@[simp] theorem State.setPow_modKey (s : State) (x : Pow) : (s.setPow x).modKey = s.modKey := rfl
@[simp] theorem State.setPow_rotation (s : State) (x : Pow) : (s.setPow x).rotation = s.rotation := rfl
@[simp] theorem State.setPow_migr (s : State) (x : Pow) : (s.setPow x).migr = s.migr := rfl
@[simp] theorem State.setPow_migrQueue (s : State) (x : Pow) : (s.setPow x).migrQueue = s.migrQueue := rfl
@[simp] theorem State.setPow_pageMaps (s : State) (x : Pow) : (s.setPow x).pageMaps = s.pageMaps := rfl
@[simp] theorem State.setPow_tlb (s : State) (x : Pow) : (s.setPow x).tlb = s.tlb := rfl
@[simp] theorem State.setPow_kvMaps (s : State) (x : Pow) : (s.setPow x).kvMaps = s.kvMaps := rfl
@[simp] theorem State.setPow_kvTlb (s : State) (x : Pow) : (s.setPow x).kvTlb = s.kvTlb := rfl
@[simp] theorem State.setPow_kvDirty (s : State) (x : Pow) : (s.setPow x).kvDirty = s.kvDirty := rfl
@[simp] theorem State.setPow_shared (s : State) (x : Pow) : (s.setPow x).shared = s.shared := rfl
@[simp] theorem State.setPow_withdrawn (s : State) (x : Pow) : (s.setPow x).withdrawn = s.withdrawn := rfl
@[simp] theorem State.setPow_modMem (s : State) (x : Pow) : (s.setPow x).modMem = s.modMem := rfl
@[simp] theorem State.setPow_parts (s : State) (x : Pow) : (s.setPow x).parts = s.parts := rfl
@[simp] theorem State.setPow_park (s : State) (x : Pow) : (s.setPow x).park = s.park := rfl
@[simp] theorem State.setPow_sess (s : State) (x : Pow) : (s.setPow x).sess = s.sess := rfl
@[simp] theorem State.setPow_emitted (s : State) (x : Pow) : (s.setPow x).emitted = s.emitted := rfl
@[simp] theorem State.setPow_grammars (s : State) (x : Pow) : (s.setPow x).grammars = s.grammars := rfl
@[simp] theorem State.setPow_adapters (s : State) (x : Pow) : (s.setPow x).adapters = s.adapters := rfl
@[simp] theorem State.setPow_adapterLast (s : State) (x : Pow) : (s.setPow x).adapterLast = s.adapterLast := rfl
@[simp] theorem State.setPow_video (s : State) (x : Pow) : (s.setPow x).video = s.video := rfl
@[simp] theorem State.setPow_fw (s : State) (x : Pow) : (s.setPow x).fw = s.fw := rfl
@[simp] theorem State.setPow_ryc (s : State) (x : Pow) : (s.setPow x).ryc = s.ryc := rfl
@[simp] theorem State.setPow_net (s : State) (x : Pow) : (s.setPow x).net = s.net := rfl
@[simp] theorem State.setPow_ev (s : State) (x : Pow) : (s.setPow x).ev = s.ev := rfl
@[simp] theorem State.setPow_rel (s : State) (x : Pow) : (s.setPow x).rel = s.rel := rfl
@[simp] theorem State.setPow_sec (s : State) (x : Pow) : (s.setPow x).sec = s.sec := rfl
@[simp] theorem State.setPow_pow (s : State) (x : Pow) : (s.setPow x).pow = x := rfl
@[simp] theorem State.setPow_store (s : State) (x : Pow) : (s.setPow x).store = s.store := rfl
@[simp] theorem State.setPow_od (s : State) (x : Pow) : (s.setPow x).od = s.od := rfl
@[simp] theorem State.setPow_d2dFails (s : State) (x : Pow) : (s.setPow x).d2dFails = s.d2dFails := rfl
@[simp] theorem State.setStore_pending (s : State) (x : Store) : (s.setStore x).pending = s.pending := rfl
@[simp] theorem State.setStore_free (s : State) (x : Store) : (s.setStore x).free = s.free := rfl
@[simp] theorem State.setStore_out (s : State) (x : Store) : (s.setStore x).out = s.out := rfl
@[simp] theorem State.setStore_time (s : State) (x : Store) : (s.setStore x).time = s.time := rfl
@[simp] theorem State.setStore_tray (s : State) (x : Store) : (s.setStore x).tray = s.tray := rfl
@[simp] theorem State.setStore_mode (s : State) (x : Store) : (s.setStore x).mode = s.mode := rfl
@[simp] theorem State.setStore_idle (s : State) (x : Store) : (s.setStore x).idle = s.idle := rfl
@[simp] theorem State.setStore_entry (s : State) (x : Store) : (s.setStore x).entry = s.entry := rfl
@[simp] theorem State.setStore_leftMode (s : State) (x : Store) : (s.setStore x).leftMode = s.leftMode := rfl
@[simp] theorem State.setStore_wakeHeld (s : State) (x : Store) : (s.setStore x).wakeHeld = s.wakeHeld := rfl
@[simp] theorem State.setStore_westPrimary (s : State) (x : Store) : (s.setStore x).westPrimary = s.westPrimary := rfl
@[simp] theorem State.setStore_noBoot (s : State) (x : Store) : (s.setStore x).noBoot = s.noBoot := rfl
@[simp] theorem State.setStore_rst (s : State) (x : Store) : (s.setStore x).rst = s.rst := rfl
@[simp] theorem State.setStore_cores (s : State) (x : Store) : (s.setStore x).cores = s.cores := rfl
@[simp] theorem State.setStore_queues (s : State) (x : Store) : (s.setStore x).queues = s.queues := rfl
@[simp] theorem State.setStore_queueZero (s : State) (x : Store) : (s.setStore x).queueZero = s.queueZero := rfl
@[simp] theorem State.setStore_sems (s : State) (x : Store) : (s.setStore x).sems = s.sems := rfl
@[simp] theorem State.setStore_semWait (s : State) (x : Store) : (s.setStore x).semWait = s.semWait := rfl
@[simp] theorem State.setStore_dram (s : State) (x : Store) : (s.setStore x).dram = s.dram := rfl
@[simp] theorem State.setStore_upsets (s : State) (x : Store) : (s.setStore x).upsets = s.upsets := rfl
@[simp] theorem State.setStore_spadUpsets (s : State) (x : Store) : (s.setStore x).spadUpsets = s.spadUpsets := rfl
@[simp] theorem State.setStore_ecc (s : State) (x : Store) : (s.setStore x).ecc = s.ecc := rfl
@[simp] theorem State.setStore_modKey (s : State) (x : Store) : (s.setStore x).modKey = s.modKey := rfl
@[simp] theorem State.setStore_rotation (s : State) (x : Store) : (s.setStore x).rotation = s.rotation := rfl
@[simp] theorem State.setStore_migr (s : State) (x : Store) : (s.setStore x).migr = s.migr := rfl
@[simp] theorem State.setStore_migrQueue (s : State) (x : Store) : (s.setStore x).migrQueue = s.migrQueue := rfl
@[simp] theorem State.setStore_pageMaps (s : State) (x : Store) : (s.setStore x).pageMaps = s.pageMaps := rfl
@[simp] theorem State.setStore_tlb (s : State) (x : Store) : (s.setStore x).tlb = s.tlb := rfl
@[simp] theorem State.setStore_kvMaps (s : State) (x : Store) : (s.setStore x).kvMaps = s.kvMaps := rfl
@[simp] theorem State.setStore_kvTlb (s : State) (x : Store) : (s.setStore x).kvTlb = s.kvTlb := rfl
@[simp] theorem State.setStore_kvDirty (s : State) (x : Store) : (s.setStore x).kvDirty = s.kvDirty := rfl
@[simp] theorem State.setStore_shared (s : State) (x : Store) : (s.setStore x).shared = s.shared := rfl
@[simp] theorem State.setStore_withdrawn (s : State) (x : Store) : (s.setStore x).withdrawn = s.withdrawn := rfl
@[simp] theorem State.setStore_modMem (s : State) (x : Store) : (s.setStore x).modMem = s.modMem := rfl
@[simp] theorem State.setStore_parts (s : State) (x : Store) : (s.setStore x).parts = s.parts := rfl
@[simp] theorem State.setStore_park (s : State) (x : Store) : (s.setStore x).park = s.park := rfl
@[simp] theorem State.setStore_sess (s : State) (x : Store) : (s.setStore x).sess = s.sess := rfl
@[simp] theorem State.setStore_emitted (s : State) (x : Store) : (s.setStore x).emitted = s.emitted := rfl
@[simp] theorem State.setStore_grammars (s : State) (x : Store) : (s.setStore x).grammars = s.grammars := rfl
@[simp] theorem State.setStore_adapters (s : State) (x : Store) : (s.setStore x).adapters = s.adapters := rfl
@[simp] theorem State.setStore_adapterLast (s : State) (x : Store) : (s.setStore x).adapterLast = s.adapterLast := rfl
@[simp] theorem State.setStore_video (s : State) (x : Store) : (s.setStore x).video = s.video := rfl
@[simp] theorem State.setStore_fw (s : State) (x : Store) : (s.setStore x).fw = s.fw := rfl
@[simp] theorem State.setStore_ryc (s : State) (x : Store) : (s.setStore x).ryc = s.ryc := rfl
@[simp] theorem State.setStore_net (s : State) (x : Store) : (s.setStore x).net = s.net := rfl
@[simp] theorem State.setStore_ev (s : State) (x : Store) : (s.setStore x).ev = s.ev := rfl
@[simp] theorem State.setStore_rel (s : State) (x : Store) : (s.setStore x).rel = s.rel := rfl
@[simp] theorem State.setStore_sec (s : State) (x : Store) : (s.setStore x).sec = s.sec := rfl
@[simp] theorem State.setStore_pow (s : State) (x : Store) : (s.setStore x).pow = s.pow := rfl
@[simp] theorem State.setStore_store (s : State) (x : Store) : (s.setStore x).store = x := rfl
@[simp] theorem State.setStore_od (s : State) (x : Store) : (s.setStore x).od = s.od := rfl
@[simp] theorem State.setStore_d2dFails (s : State) (x : Store) : (s.setStore x).d2dFails = s.d2dFails := rfl
@[simp] theorem State.setOd_pending (s : State) (x : AMap Nat) : (s.setOd x).pending = s.pending := rfl
@[simp] theorem State.setOd_free (s : State) (x : AMap Nat) : (s.setOd x).free = s.free := rfl
@[simp] theorem State.setOd_out (s : State) (x : AMap Nat) : (s.setOd x).out = s.out := rfl
@[simp] theorem State.setOd_time (s : State) (x : AMap Nat) : (s.setOd x).time = s.time := rfl
@[simp] theorem State.setOd_tray (s : State) (x : AMap Nat) : (s.setOd x).tray = s.tray := rfl
@[simp] theorem State.setOd_mode (s : State) (x : AMap Nat) : (s.setOd x).mode = s.mode := rfl
@[simp] theorem State.setOd_idle (s : State) (x : AMap Nat) : (s.setOd x).idle = s.idle := rfl
@[simp] theorem State.setOd_entry (s : State) (x : AMap Nat) : (s.setOd x).entry = s.entry := rfl
@[simp] theorem State.setOd_leftMode (s : State) (x : AMap Nat) : (s.setOd x).leftMode = s.leftMode := rfl
@[simp] theorem State.setOd_wakeHeld (s : State) (x : AMap Nat) : (s.setOd x).wakeHeld = s.wakeHeld := rfl
@[simp] theorem State.setOd_westPrimary (s : State) (x : AMap Nat) : (s.setOd x).westPrimary = s.westPrimary := rfl
@[simp] theorem State.setOd_noBoot (s : State) (x : AMap Nat) : (s.setOd x).noBoot = s.noBoot := rfl
@[simp] theorem State.setOd_rst (s : State) (x : AMap Nat) : (s.setOd x).rst = s.rst := rfl
@[simp] theorem State.setOd_cores (s : State) (x : AMap Nat) : (s.setOd x).cores = s.cores := rfl
@[simp] theorem State.setOd_queues (s : State) (x : AMap Nat) : (s.setOd x).queues = s.queues := rfl
@[simp] theorem State.setOd_queueZero (s : State) (x : AMap Nat) : (s.setOd x).queueZero = s.queueZero := rfl
@[simp] theorem State.setOd_sems (s : State) (x : AMap Nat) : (s.setOd x).sems = s.sems := rfl
@[simp] theorem State.setOd_semWait (s : State) (x : AMap Nat) : (s.setOd x).semWait = s.semWait := rfl
@[simp] theorem State.setOd_dram (s : State) (x : AMap Nat) : (s.setOd x).dram = s.dram := rfl
@[simp] theorem State.setOd_upsets (s : State) (x : AMap Nat) : (s.setOd x).upsets = s.upsets := rfl
@[simp] theorem State.setOd_spadUpsets (s : State) (x : AMap Nat) : (s.setOd x).spadUpsets = s.spadUpsets := rfl
@[simp] theorem State.setOd_ecc (s : State) (x : AMap Nat) : (s.setOd x).ecc = s.ecc := rfl
@[simp] theorem State.setOd_modKey (s : State) (x : AMap Nat) : (s.setOd x).modKey = s.modKey := rfl
@[simp] theorem State.setOd_rotation (s : State) (x : AMap Nat) : (s.setOd x).rotation = s.rotation := rfl
@[simp] theorem State.setOd_migr (s : State) (x : AMap Nat) : (s.setOd x).migr = s.migr := rfl
@[simp] theorem State.setOd_migrQueue (s : State) (x : AMap Nat) : (s.setOd x).migrQueue = s.migrQueue := rfl
@[simp] theorem State.setOd_pageMaps (s : State) (x : AMap Nat) : (s.setOd x).pageMaps = s.pageMaps := rfl
@[simp] theorem State.setOd_tlb (s : State) (x : AMap Nat) : (s.setOd x).tlb = s.tlb := rfl
@[simp] theorem State.setOd_kvMaps (s : State) (x : AMap Nat) : (s.setOd x).kvMaps = s.kvMaps := rfl
@[simp] theorem State.setOd_kvTlb (s : State) (x : AMap Nat) : (s.setOd x).kvTlb = s.kvTlb := rfl
@[simp] theorem State.setOd_kvDirty (s : State) (x : AMap Nat) : (s.setOd x).kvDirty = s.kvDirty := rfl
@[simp] theorem State.setOd_shared (s : State) (x : AMap Nat) : (s.setOd x).shared = s.shared := rfl
@[simp] theorem State.setOd_withdrawn (s : State) (x : AMap Nat) : (s.setOd x).withdrawn = s.withdrawn := rfl
@[simp] theorem State.setOd_modMem (s : State) (x : AMap Nat) : (s.setOd x).modMem = s.modMem := rfl
@[simp] theorem State.setOd_parts (s : State) (x : AMap Nat) : (s.setOd x).parts = s.parts := rfl
@[simp] theorem State.setOd_park (s : State) (x : AMap Nat) : (s.setOd x).park = s.park := rfl
@[simp] theorem State.setOd_sess (s : State) (x : AMap Nat) : (s.setOd x).sess = s.sess := rfl
@[simp] theorem State.setOd_emitted (s : State) (x : AMap Nat) : (s.setOd x).emitted = s.emitted := rfl
@[simp] theorem State.setOd_grammars (s : State) (x : AMap Nat) : (s.setOd x).grammars = s.grammars := rfl
@[simp] theorem State.setOd_adapters (s : State) (x : AMap Nat) : (s.setOd x).adapters = s.adapters := rfl
@[simp] theorem State.setOd_adapterLast (s : State) (x : AMap Nat) : (s.setOd x).adapterLast = s.adapterLast := rfl
@[simp] theorem State.setOd_video (s : State) (x : AMap Nat) : (s.setOd x).video = s.video := rfl
@[simp] theorem State.setOd_fw (s : State) (x : AMap Nat) : (s.setOd x).fw = s.fw := rfl
@[simp] theorem State.setOd_ryc (s : State) (x : AMap Nat) : (s.setOd x).ryc = s.ryc := rfl
@[simp] theorem State.setOd_net (s : State) (x : AMap Nat) : (s.setOd x).net = s.net := rfl
@[simp] theorem State.setOd_ev (s : State) (x : AMap Nat) : (s.setOd x).ev = s.ev := rfl
@[simp] theorem State.setOd_rel (s : State) (x : AMap Nat) : (s.setOd x).rel = s.rel := rfl
@[simp] theorem State.setOd_sec (s : State) (x : AMap Nat) : (s.setOd x).sec = s.sec := rfl
@[simp] theorem State.setOd_pow (s : State) (x : AMap Nat) : (s.setOd x).pow = s.pow := rfl
@[simp] theorem State.setOd_store (s : State) (x : AMap Nat) : (s.setOd x).store = s.store := rfl
@[simp] theorem State.setOd_od (s : State) (x : AMap Nat) : (s.setOd x).od = x := rfl
@[simp] theorem State.setOd_d2dFails (s : State) (x : AMap Nat) : (s.setOd x).d2dFails = s.d2dFails := rfl
@[simp] theorem State.setD2dFails_pending (s : State) (x : Nat × Nat) : (s.setD2dFails x).pending = s.pending := rfl
@[simp] theorem State.setD2dFails_free (s : State) (x : Nat × Nat) : (s.setD2dFails x).free = s.free := rfl
@[simp] theorem State.setD2dFails_out (s : State) (x : Nat × Nat) : (s.setD2dFails x).out = s.out := rfl
@[simp] theorem State.setD2dFails_time (s : State) (x : Nat × Nat) : (s.setD2dFails x).time = s.time := rfl
@[simp] theorem State.setD2dFails_tray (s : State) (x : Nat × Nat) : (s.setD2dFails x).tray = s.tray := rfl
@[simp] theorem State.setD2dFails_mode (s : State) (x : Nat × Nat) : (s.setD2dFails x).mode = s.mode := rfl
@[simp] theorem State.setD2dFails_idle (s : State) (x : Nat × Nat) : (s.setD2dFails x).idle = s.idle := rfl
@[simp] theorem State.setD2dFails_entry (s : State) (x : Nat × Nat) : (s.setD2dFails x).entry = s.entry := rfl
@[simp] theorem State.setD2dFails_leftMode (s : State) (x : Nat × Nat) : (s.setD2dFails x).leftMode = s.leftMode := rfl
@[simp] theorem State.setD2dFails_wakeHeld (s : State) (x : Nat × Nat) : (s.setD2dFails x).wakeHeld = s.wakeHeld := rfl
@[simp] theorem State.setD2dFails_westPrimary (s : State) (x : Nat × Nat) : (s.setD2dFails x).westPrimary = s.westPrimary := rfl
@[simp] theorem State.setD2dFails_noBoot (s : State) (x : Nat × Nat) : (s.setD2dFails x).noBoot = s.noBoot := rfl
@[simp] theorem State.setD2dFails_rst (s : State) (x : Nat × Nat) : (s.setD2dFails x).rst = s.rst := rfl
@[simp] theorem State.setD2dFails_cores (s : State) (x : Nat × Nat) : (s.setD2dFails x).cores = s.cores := rfl
@[simp] theorem State.setD2dFails_queues (s : State) (x : Nat × Nat) : (s.setD2dFails x).queues = s.queues := rfl
@[simp] theorem State.setD2dFails_queueZero (s : State) (x : Nat × Nat) : (s.setD2dFails x).queueZero = s.queueZero := rfl
@[simp] theorem State.setD2dFails_sems (s : State) (x : Nat × Nat) : (s.setD2dFails x).sems = s.sems := rfl
@[simp] theorem State.setD2dFails_semWait (s : State) (x : Nat × Nat) : (s.setD2dFails x).semWait = s.semWait := rfl
@[simp] theorem State.setD2dFails_dram (s : State) (x : Nat × Nat) : (s.setD2dFails x).dram = s.dram := rfl
@[simp] theorem State.setD2dFails_upsets (s : State) (x : Nat × Nat) : (s.setD2dFails x).upsets = s.upsets := rfl
@[simp] theorem State.setD2dFails_spadUpsets (s : State) (x : Nat × Nat) : (s.setD2dFails x).spadUpsets = s.spadUpsets := rfl
@[simp] theorem State.setD2dFails_ecc (s : State) (x : Nat × Nat) : (s.setD2dFails x).ecc = s.ecc := rfl
@[simp] theorem State.setD2dFails_modKey (s : State) (x : Nat × Nat) : (s.setD2dFails x).modKey = s.modKey := rfl
@[simp] theorem State.setD2dFails_rotation (s : State) (x : Nat × Nat) : (s.setD2dFails x).rotation = s.rotation := rfl
@[simp] theorem State.setD2dFails_migr (s : State) (x : Nat × Nat) : (s.setD2dFails x).migr = s.migr := rfl
@[simp] theorem State.setD2dFails_migrQueue (s : State) (x : Nat × Nat) : (s.setD2dFails x).migrQueue = s.migrQueue := rfl
@[simp] theorem State.setD2dFails_pageMaps (s : State) (x : Nat × Nat) : (s.setD2dFails x).pageMaps = s.pageMaps := rfl
@[simp] theorem State.setD2dFails_tlb (s : State) (x : Nat × Nat) : (s.setD2dFails x).tlb = s.tlb := rfl
@[simp] theorem State.setD2dFails_kvMaps (s : State) (x : Nat × Nat) : (s.setD2dFails x).kvMaps = s.kvMaps := rfl
@[simp] theorem State.setD2dFails_kvTlb (s : State) (x : Nat × Nat) : (s.setD2dFails x).kvTlb = s.kvTlb := rfl
@[simp] theorem State.setD2dFails_kvDirty (s : State) (x : Nat × Nat) : (s.setD2dFails x).kvDirty = s.kvDirty := rfl
@[simp] theorem State.setD2dFails_shared (s : State) (x : Nat × Nat) : (s.setD2dFails x).shared = s.shared := rfl
@[simp] theorem State.setD2dFails_withdrawn (s : State) (x : Nat × Nat) : (s.setD2dFails x).withdrawn = s.withdrawn := rfl
@[simp] theorem State.setD2dFails_modMem (s : State) (x : Nat × Nat) : (s.setD2dFails x).modMem = s.modMem := rfl
@[simp] theorem State.setD2dFails_parts (s : State) (x : Nat × Nat) : (s.setD2dFails x).parts = s.parts := rfl
@[simp] theorem State.setD2dFails_park (s : State) (x : Nat × Nat) : (s.setD2dFails x).park = s.park := rfl
@[simp] theorem State.setD2dFails_sess (s : State) (x : Nat × Nat) : (s.setD2dFails x).sess = s.sess := rfl
@[simp] theorem State.setD2dFails_emitted (s : State) (x : Nat × Nat) : (s.setD2dFails x).emitted = s.emitted := rfl
@[simp] theorem State.setD2dFails_grammars (s : State) (x : Nat × Nat) : (s.setD2dFails x).grammars = s.grammars := rfl
@[simp] theorem State.setD2dFails_adapters (s : State) (x : Nat × Nat) : (s.setD2dFails x).adapters = s.adapters := rfl
@[simp] theorem State.setD2dFails_adapterLast (s : State) (x : Nat × Nat) : (s.setD2dFails x).adapterLast = s.adapterLast := rfl
@[simp] theorem State.setD2dFails_video (s : State) (x : Nat × Nat) : (s.setD2dFails x).video = s.video := rfl
@[simp] theorem State.setD2dFails_fw (s : State) (x : Nat × Nat) : (s.setD2dFails x).fw = s.fw := rfl
@[simp] theorem State.setD2dFails_ryc (s : State) (x : Nat × Nat) : (s.setD2dFails x).ryc = s.ryc := rfl
@[simp] theorem State.setD2dFails_net (s : State) (x : Nat × Nat) : (s.setD2dFails x).net = s.net := rfl
@[simp] theorem State.setD2dFails_ev (s : State) (x : Nat × Nat) : (s.setD2dFails x).ev = s.ev := rfl
@[simp] theorem State.setD2dFails_rel (s : State) (x : Nat × Nat) : (s.setD2dFails x).rel = s.rel := rfl
@[simp] theorem State.setD2dFails_sec (s : State) (x : Nat × Nat) : (s.setD2dFails x).sec = s.sec := rfl
@[simp] theorem State.setD2dFails_pow (s : State) (x : Nat × Nat) : (s.setD2dFails x).pow = s.pow := rfl
@[simp] theorem State.setD2dFails_store (s : State) (x : Nat × Nat) : (s.setD2dFails x).store = s.store := rfl
@[simp] theorem State.setD2dFails_od (s : State) (x : Nat × Nat) : (s.setD2dFails x).od = s.od := rfl
@[simp] theorem State.setD2dFails_d2dFails (s : State) (x : Nat × Nat) : (s.setD2dFails x).d2dFails = x := rfl

end Sys2Proof.Machine
end

