-- ==== Sys2Proof/Laws/Parts.lean ====
section
/-!
SUPPORT. Numbered parts of the state: reading one after writing one, its own number and every other.
-/
namespace Sys2Proof.Machine

open Sys2Proof

theorem State.core_putCore (s : State) (i j : Nat) (x : Core) : (s.putCore i x).core j = if i = j then x else s.core j := AMap.getD_put _ _ _ _ _
@[simp] theorem State.core_putCore_self (s : State) (i : Nat) (x : Core) : (s.putCore i x).core i = x := AMap.getD_put_self _ _ _ _
theorem State.core_putCore_other (s : State) {i j : Nat} (x : Core) (h : i ≠ j) : (s.putCore i x).core j = s.core j := AMap.getD_put_other _ _ _ h

theorem State.queue_putQueue (s : State) (i j : Nat) (x : Queue) : (s.putQueue i x).queue j = if i = j then x else s.queue j := AMap.getD_put _ _ _ _ _
@[simp] theorem State.queue_putQueue_self (s : State) (i : Nat) (x : Queue) : (s.putQueue i x).queue i = x := AMap.getD_put_self _ _ _ _
theorem State.queue_putQueue_other (s : State) {i j : Nat} (x : Queue) (h : i ≠ j) : (s.putQueue i x).queue j = s.queue j := AMap.getD_put_other _ _ _ h

theorem State.sub_putSub (s : State) (i j : Nat) (x : Sub) : (s.putSub i x).sub j = if i = j then x else s.sub j := AMap.getD_put _ _ _ _ _
@[simp] theorem State.sub_putSub_self (s : State) (i : Nat) (x : Sub) : (s.putSub i x).sub i = x := AMap.getD_put_self _ _ _ _
theorem State.sub_putSub_other (s : State) {i j : Nat} (x : Sub) (h : i ≠ j) : (s.putSub i x).sub j = s.sub j := AMap.getD_put_other _ _ _ h

theorem State.part_putPart (s : State) (i j : Nat) (x : Part) : (s.putPart i x).part j = if i = j then x else s.part j := AMap.getD_put _ _ _ _ _
@[simp] theorem State.part_putPart_self (s : State) (i : Nat) (x : Part) : (s.putPart i x).part i = x := AMap.getD_put_self _ _ _ _
theorem State.part_putPart_other (s : State) {i j : Nat} (x : Part) (h : i ≠ j) : (s.putPart i x).part j = s.part j := AMap.getD_put_other _ _ _ h

theorem State.sem_putSem (s : State) (i j : Nat) (x : Sem) : (s.putSem i x).sem j = if i = j then x else s.sem j := AMap.getD_put _ _ _ _ _
@[simp] theorem State.sem_putSem_self (s : State) (i : Nat) (x : Sem) : (s.putSem i x).sem i = x := AMap.getD_put_self _ _ _ _
theorem State.sem_putSem_other (s : State) {i j : Nat} (x : Sem) (h : i ≠ j) : (s.putSem i x).sem j = s.sem j := AMap.getD_put_other _ _ _ h

theorem State.engine_putEngine (s : State) (i j : Nat) (x : VEngine) : (s.putEngine i x).engine j = if i = j then x else s.engine j := AMap.getD_put _ _ _ _ _
@[simp] theorem State.engine_putEngine_self (s : State) (i : Nat) (x : VEngine) : (s.putEngine i x).engine i = x := AMap.getD_put_self _ _ _ _
theorem State.engine_putEngine_other (s : State) {i j : Nat} (x : VEngine) (h : i ≠ j) : (s.putEngine i x).engine j = s.engine j := AMap.getD_put_other _ _ _ h

theorem State.session_putSession (s : State) (i j : Nat) (x : Session) : (s.putSession i x).session j = if i = j then x else s.session j := AMap.getD_put _ _ _ _ _
@[simp] theorem State.session_putSession_self (s : State) (i : Nat) (x : Session) : (s.putSession i x).session i = x := AMap.getD_put_self _ _ _ _
theorem State.session_putSession_other (s : State) {i j : Nat} (x : Session) (h : i ≠ j) : (s.putSession i x).session j = s.session j := AMap.getD_put_other _ _ _ h

theorem State.rsess_putRsess (s : State) (i j : Nat) (x : RSess) : (s.putRsess i x).rsess j = if i = j then x else s.rsess j := AMap.getD_put _ _ _ _ _
@[simp] theorem State.rsess_putRsess_self (s : State) (i : Nat) (x : RSess) : (s.putRsess i x).rsess i = x := AMap.getD_put_self _ _ _ _
theorem State.rsess_putRsess_other (s : State) {i j : Nat} (x : RSess) (h : i ≠ j) : (s.putRsess i x).rsess j = s.rsess j := AMap.getD_put_other _ _ _ h

theorem State.port_putPort (s : State) (i j : Nat) (x : Port) : (s.putPort i x).port j = if i = j then x else s.port j := AMap.getD_put _ _ _ _ _
@[simp] theorem State.port_putPort_self (s : State) (i : Nat) (x : Port) : (s.putPort i x).port i = x := AMap.getD_put_self _ _ _ _
theorem State.port_putPort_other (s : State) {i j : Nat} (x : Port) (h : i ≠ j) : (s.putPort i x).port j = s.port j := AMap.getD_put_other _ _ _ h

theorem State.link_putLink (s : State) (i j : Nat) (x : Link) : (s.putLink i x).link j = if i = j then x else s.link j := AMap.getD_put _ _ _ _ _
@[simp] theorem State.link_putLink_self (s : State) (i : Nat) (x : Link) : (s.putLink i x).link i = x := AMap.getD_put_self _ _ _ _
theorem State.link_putLink_other (s : State) {i j : Nat} (x : Link) (h : i ≠ j) : (s.putLink i x).link j = s.link j := AMap.getD_put_other _ _ _ h

theorem State.irq_putIrq (s : State) (i j : Nat) (x : Irq) : (s.putIrq i x).irq j = if i = j then x else s.irq j := AMap.getD_put _ _ _ _ _
@[simp] theorem State.irq_putIrq_self (s : State) (i : Nat) (x : Irq) : (s.putIrq i x).irq i = x := AMap.getD_put_self _ _ _ _
theorem State.irq_putIrq_other (s : State) {i j : Nat} (x : Irq) (h : i ≠ j) : (s.putIrq i x).irq j = s.irq j := AMap.getD_put_other _ _ _ h

theorem State.ctr_putCtr (s : State) (i j : Nat) (x : Ctr) : (s.putCtr i x).ctr j = if i = j then x else s.ctr j := AMap.getD_put _ _ _ _ _
@[simp] theorem State.ctr_putCtr_self (s : State) (i : Nat) (x : Ctr) : (s.putCtr i x).ctr i = x := AMap.getD_put_self _ _ _ _
theorem State.ctr_putCtr_other (s : State) {i j : Nat} (x : Ctr) (h : i ≠ j) : (s.putCtr i x).ctr j = s.ctr j := AMap.getD_put_other _ _ _ h

theorem State.trig_putTrig (s : State) (i j : Nat) (x : Trig) : (s.putTrig i x).trig j = if i = j then x else s.trig j := AMap.getD_put _ _ _ _ _
@[simp] theorem State.trig_putTrig_self (s : State) (i : Nat) (x : Trig) : (s.putTrig i x).trig i = x := AMap.getD_put_self _ _ _ _
theorem State.trig_putTrig_other (s : State) {i j : Nat} (x : Trig) (h : i ≠ j) : (s.putTrig i x).trig j = s.trig j := AMap.getD_put_other _ _ _ h

@[simp] theorem State.mbx_putMbx_self (s : State) (die i : Nat) (x : Mbx) : (s.putMbx die i x).mbx die i = x := AMap.getD_put_self _ _ _ _
theorem State.mbx_putMbx_other (s : State) {die i e j : Nat} (x : Mbx) (h : 64 * die + i ≠ 64 * e + j) : (s.putMbx die i x).mbx e j = s.mbx e j :=
  AMap.getD_put_other _ _ _ h

@[simp] theorem State.comp_putComp_self (s : State) (die i : Nat) (x : Comp) : (s.putComp die i x).comp die i = x := AMap.getD_put_self _ _ _ _
theorem State.comp_putComp_other (s : State) {die i e j : Nat} (x : Comp) (h : 16 * die + i ≠ 16 * e + j) : (s.putComp die i x).comp e j = s.comp e j :=
  AMap.getD_put_other _ _ _ h

@[simp] theorem State.source_putSource_self (s : State) (die i : Nat) (x : Source) : (s.putSource die i x).source die i = x := AMap.getD_put_self _ _ _ _
theorem State.source_putSource_other (s : State) {die i e j : Nat} (x : Source) (h : 1024 * die + i ≠ 1024 * e + j) : (s.putSource die i x).source e j = s.source e j :=
  AMap.getD_put_other _ _ _ h

end Sys2Proof.Machine
end

