-- ==== Sys2Proof/Laws/PerInstr.lean ====
section
/-!
SUPPORT. Statements made of every command as syntax, constructor by constructor.
-/
namespace Sys2Proof.Laws.Form

open Sys2Proof

/-- A command whose operands have a check beyond their types; one without is well-formed whatever its operands are. -/
def checked : Instr → Bool
  | .softStartComplete _ | .presenceBreak _ _ _ | .trayResetRelease _ | .inputOvervoltage _ _ | .inputOvercurrent _ _
    | .inputLoss _ _ | .inputBelow36V _ _ | .residueMismatch _ _ _ _ _ _ _ | .registerWrite _ | .componentFault _ _ _
    | .firmwareCoreFailure _ _ | .mailboxAssign _ _ | .reloadRuntime _ | .commandWindowClose _ _ | .wake _ _
    | .credentialWrite _ _ | .frameReceive _ _ _ | .portLinkUp _ _ | .runDiagnostics _ _
    | .wakeSubsetOccurrence _ _ _ _ | .bundleRegister _ | .debugDataWrite _ | .drainAbort _ _ | .thermalStop _
    | .modReset _ _ | .warmReset _ _ | .runtimeLoadOverrun _ | .prepareWarmTimeout _ | .returnToService _
    | .stageArm _ | .chunk _ | .usePrevious _ | .apertureAccess _ _ _ _ => true
  | .powerBladesMate _ | .presenceFilterExpiry _ _ | .presenceTimeout _ | .trayResetAssert | .trayResetHeldTimeout
    | .inputSwitchReclose _ | .inputBelow40V _ | .inputSensorFault | .coolantSensorFault _ | .inletWarmed _
    | .ppsPulse | .ppsStuck | .holdoverEntry | .d2dCrcFailure _ _ | .d2dLaneLockLoss | .pllLossOfLock _ _ _
    | .appCoreFailure _ | .samplerFailure _ | .securityEngineFailure _ | .sliceFailure _ _ | .droopTrip _
    | .droopRecoveryStep _ | .droopGateTimeout _ | .spadPatrolRead _ _ _ | .matmul _ | .vecop _ | .copy _ | .conv _
    | .window _ | .attn _ | .selfTest _ _ | .selfTestDone _ _ _ | .injectResidue _ _ | .coreReset _ _
    | .coreResetDone _ _ _ | .doorbellProducer _ _ _ | .doorbellConsumer _ _ _ | .descriptorDispatch _
    | .semaphoreTake _ | .descriptorComplete _ | .dataSlotArrival _ | .dataCreditReturn _ | .waitTimeout _
    | .creditTimeout _ | .dataTimeout _ | .backlogTimeout _ | .enable _ | .pause _ | .resume _ | .restart _ _
    | .flush _ | .disable _ | .translationInvalidate _ _ | .patrolRead _ _ _ _ | .subchannelRetire _ _
    | .migrationPageCopied _ | .parkioRead _ _ | .parkioWrite _ | .parkioCreate _ | .parkioDelete _ | .parkioTouch _
    | .parkTimeout _ | .objectExpiry _ | .parkClockSave | .eraseObject _ | .eraseAll _ | .kvInvalidate _ _
    | .kvResidencyTimeout _ | .kvMapSweep _ | .kvScan _ | .sessionOpen _ | .sessionUpdate _ | .sessionClose _
    | .sample _ | .gload _ | .gfree _ | .gadvance _ | .vctxOpen _ | .vctxUpdate _ | .vctxClose _ | .vctxDetach _
    | .vctxAdopt _ | .decode _ _ | .encode _ _ | .subframeProgress _ _ _ | .pictureTimeout _ | .videoEngineRestart _
    | .videoEngineFailure _ | .budgetOverrun _ _ | .mailboxWaitTimeout _ _ | .mailboxReplyTimeout _ _ | .hello _
    | .loadComponent _ | .startComponent _ | .stopComponent _ | .componentStatus _ | .bundleHealth _ | .echo _
    | .ryciaHello _ _ | .finish _ | .handshakeTimeout _ | .keepalive _ | .close _ | .read _ | .write _ | .writeBegin _
    | .writeSegment _ | .writeCommit _ | .writeCancel _ | .blockWriteTimeout _ _ _ | .sessionIdleTimeout _
    | .stateQuery _ | .ryciaSessionClose _ | .controllerPresenceExpiry _ | .controllersLost | .gracePeriodExpiry
    | .nettx _ | .netrx _ | .portFailure _ _ | .replayComplete _ | .linkDownTimeout _ | .switchOver _
    | .plannedSwitchComplete _ | .holdoffExpiry _ | .heartbeat _ | .portReturnToService _ | .peerEntryExpiry _ _
    | .jobAbortOrdered _ | .jobAbort _ _ _ | .eventOccurrence _ _ _ _ | .coalesceTimeout _ _ | .claim _
    | .complete _ _ | .sourceControlWrite _ _ _ | .counterThreshold _ _ | .counterWrap _ _ | .counterControlWrite _ _
    | .freeze | .freezePoint | .freezeResume | .snapshot | .snapshotResume | .inject | .bundleDeregister _
    | .digestPassStart _ | .digestPassEnd _ | .checkNow _ | .reportMismatch _ | .reportMismatchPoison _ | .wearCommit
    | .dailyWearSample _ | .coreSwap _ _ _ | .requalify _ | .digest _ | .seal _ | .openSealed _ | .kemgen _
    | .partitionCreate _ | .partitionScrub _ _ | .partitionDestroy _ | .scrubComplete _ | .attestRequest _ _
    | .keyRelease _ | .kemExpiry _ _ | .debugOpen | .debugClose | .debugDataRead | .dbgConnectorUse | .lowerTreeReady
    | .drain _ | .drainEnd _ | .standbyRequest _ | .parkedRequest _ | .drainTimeout | .idleEntry
    | .throttleTriggerAssert _ _ | .throttleTriggerClear _ | .throttleLevelRise _ | .throttleLevelFall _
    | .powerCapAdjust _ _ | .ballastAdjust _ | .rampHoldAdjust _ _ | .heartbeatCheck | .prepareWarm _ | .stageOpen
    | .stageDiscard | .chunkDurable _ | .probationExpiry | .refreshRateChange _ _ | .thermalCycle _
    | .trainingCacheUpdate | .compactionEraseComplete | .trialTimeout => false

/-- A command that no rule gives a range of operands beyond its types is well-formed; the others have a check. -/
def Statement (i : Instr) : Prop := checked i = true ∨ i.wellFormed = true

end Sys2Proof.Laws.Form

open Sys2Proof Sys2Proof.Laws.Form

theorem Sys2Proof.Laws.Form.powerBladesMate (mv : Nat) : Statement (.powerBladesMate mv) := Or.inr rfl
theorem Sys2Proof.Laws.Form.presenceFilterExpiry (mv : Nat) (inlet : Int) : Statement (.presenceFilterExpiry mv inlet) := Or.inr rfl
theorem Sys2Proof.Laws.Form.softStartComplete (r : StartReport) : Statement (.softStartComplete r) := Or.inl rfl
theorem Sys2Proof.Laws.Form.presenceTimeout (pins : BitVec 2) : Statement (.presenceTimeout pins) := Or.inr rfl
theorem Sys2Proof.Laws.Form.presenceBreak (pins : BitVec 2) (mv : Nat) (stop : StopReport) : Statement (.presenceBreak pins mv stop) := Or.inl rfl
theorem Sys2Proof.Laws.Form.trayResetAssert : Statement (.trayResetAssert) := Or.inr rfl
theorem Sys2Proof.Laws.Form.trayResetRelease (r : StartReport) : Statement (.trayResetRelease r) := Or.inl rfl
theorem Sys2Proof.Laws.Form.trayResetHeldTimeout : Statement (.trayResetHeldTimeout) := Or.inr rfl
theorem Sys2Proof.Laws.Form.inputOvervoltage (mv : Nat) (stop : StopReport) : Statement (.inputOvervoltage mv stop) := Or.inl rfl
theorem Sys2Proof.Laws.Form.inputOvercurrent (ma : Nat) (stop : StopReport) : Statement (.inputOvercurrent ma stop) := Or.inl rfl
theorem Sys2Proof.Laws.Form.inputSwitchReclose (mv : Nat) : Statement (.inputSwitchReclose mv) := Or.inr rfl
theorem Sys2Proof.Laws.Form.inputLoss (mv : Nat) (stop : StopReport) : Statement (.inputLoss mv stop) := Or.inl rfl
theorem Sys2Proof.Laws.Form.inputBelow40V (mv : Nat) : Statement (.inputBelow40V mv) := Or.inr rfl
theorem Sys2Proof.Laws.Form.inputBelow36V (mv : Nat) (stop : StopReport) : Statement (.inputBelow36V mv stop) := Or.inl rfl
theorem Sys2Proof.Laws.Form.inputSensorFault : Statement (.inputSensorFault) := Or.inr rfl
theorem Sys2Proof.Laws.Form.coolantSensorFault (outlet : Bool) : Statement (.coolantSensorFault outlet) := Or.inr rfl
theorem Sys2Proof.Laws.Form.inletWarmed (inlet : Int) : Statement (.inletWarmed inlet) := Or.inr rfl
theorem Sys2Proof.Laws.Form.ppsPulse : Statement (.ppsPulse) := Or.inr rfl
theorem Sys2Proof.Laws.Form.ppsStuck : Statement (.ppsStuck) := Or.inr rfl
theorem Sys2Proof.Laws.Form.holdoverEntry : Statement (.holdoverEntry) := Or.inr rfl
theorem Sys2Proof.Laws.Form.d2dCrcFailure (toWest : Bool) (sameFlit : Bool) : Statement (.d2dCrcFailure toWest sameFlit) := Or.inr rfl
theorem Sys2Proof.Laws.Form.d2dLaneLockLoss : Statement (.d2dLaneLockLoss) := Or.inr rfl
theorem Sys2Proof.Laws.Form.pllLossOfLock (domain : Fin 18) (die : Die) (unit : Nat) : Statement (.pllLossOfLock domain die unit) := Or.inr rfl
theorem Sys2Proof.Laws.Form.appCoreFailure (core : BitVec 4) : Statement (.appCoreFailure core) := Or.inr rfl
theorem Sys2Proof.Laws.Form.samplerFailure (die : Die) : Statement (.samplerFailure die) := Or.inr rfl
theorem Sys2Proof.Laws.Form.securityEngineFailure (die : Die) : Statement (.securityEngineFailure die) := Or.inr rfl
theorem Sys2Proof.Laws.Form.sliceFailure (die : Die) (slice : Fin 48) : Statement (.sliceFailure die slice) := Or.inr rfl
theorem Sys2Proof.Laws.Form.droopTrip (core : CoreId) : Statement (.droopTrip core) := Or.inr rfl
theorem Sys2Proof.Laws.Form.droopRecoveryStep (core : CoreId) : Statement (.droopRecoveryStep core) := Or.inr rfl
theorem Sys2Proof.Laws.Form.droopGateTimeout (core : CoreId) : Statement (.droopGateTimeout core) := Or.inr rfl
theorem Sys2Proof.Laws.Form.spadPatrolRead (core : CoreId) (line : Fin 196608) (upsets : List SpadUpset) : Statement (.spadPatrolRead core line upsets) := Or.inr rfl
theorem Sys2Proof.Laws.Form.matmul (q : QueueId) : Statement (.matmul q) := Or.inr rfl
theorem Sys2Proof.Laws.Form.vecop (q : QueueId) : Statement (.vecop q) := Or.inr rfl
theorem Sys2Proof.Laws.Form.copy (q : QueueId) : Statement (.copy q) := Or.inr rfl
theorem Sys2Proof.Laws.Form.conv (q : QueueId) : Statement (.conv q) := Or.inr rfl
theorem Sys2Proof.Laws.Form.window (q : QueueId) : Statement (.window q) := Or.inr rfl
theorem Sys2Proof.Laws.Form.attn (q : QueueId) : Statement (.attn q) := Or.inr rfl
theorem Sys2Proof.Laws.Form.residueMismatch (q : QueueId) (column : BitVec 7) (residue : BitVec 2) (tileRow tileCol kchunk : Nat) (temp : Int) : Statement (.residueMismatch q column residue tileRow tileCol kchunk temp) := Or.inl rfl
theorem Sys2Proof.Laws.Form.selfTest (core : CoreId) (src : CmdSrc) : Statement (.selfTest core src) := Or.inr rfl
theorem Sys2Proof.Laws.Form.selfTestDone (core : CoreId) (failed : Nat) (temp : Int) : Statement (.selfTestDone core failed temp) := Or.inr rfl
theorem Sys2Proof.Laws.Form.injectResidue (core : CoreId) (column : BitVec 8) : Statement (.injectResidue core column) := Or.inr rfl
theorem Sys2Proof.Laws.Form.coreReset (core : CoreId) (src : CmdSrc) : Statement (.coreReset core src) := Or.inr rfl
theorem Sys2Proof.Laws.Form.coreResetDone (core : CoreId) (failed : Nat) (bankPassed : Bool) : Statement (.coreResetDone core failed bankPassed) := Or.inr rfl
theorem Sys2Proof.Laws.Form.doorbellProducer (q : QueueId) (word : BitVec 32) (by_ : PartId) : Statement (.doorbellProducer q word by_) := Or.inr rfl
theorem Sys2Proof.Laws.Form.doorbellConsumer (q : QueueId) (word : BitVec 32) (by_ : PartId) : Statement (.doorbellConsumer q word by_) := Or.inr rfl
theorem Sys2Proof.Laws.Form.descriptorDispatch (q : QueueId) : Statement (.descriptorDispatch q) := Or.inr rfl
theorem Sys2Proof.Laws.Form.semaphoreTake (sem : BitVec 12) : Statement (.semaphoreTake sem) := Or.inr rfl
theorem Sys2Proof.Laws.Form.descriptorComplete (q : QueueId) : Statement (.descriptorComplete q) := Or.inr rfl
theorem Sys2Proof.Laws.Form.dataSlotArrival (dq : QueueId) : Statement (.dataSlotArrival dq) := Or.inr rfl
theorem Sys2Proof.Laws.Form.dataCreditReturn (dq : QueueId) : Statement (.dataCreditReturn dq) := Or.inr rfl
theorem Sys2Proof.Laws.Form.waitTimeout (q : QueueId) : Statement (.waitTimeout q) := Or.inr rfl
theorem Sys2Proof.Laws.Form.creditTimeout (q : QueueId) : Statement (.creditTimeout q) := Or.inr rfl
theorem Sys2Proof.Laws.Form.dataTimeout (q : QueueId) : Statement (.dataTimeout q) := Or.inr rfl
theorem Sys2Proof.Laws.Form.backlogTimeout (q : QueueId) : Statement (.backlogTimeout q) := Or.inr rfl
theorem Sys2Proof.Laws.Form.enable (q : QueueId) : Statement (.enable q) := Or.inr rfl
theorem Sys2Proof.Laws.Form.pause (q : QueueId) : Statement (.pause q) := Or.inr rfl
theorem Sys2Proof.Laws.Form.resume (q : QueueId) : Statement (.resume q) := Or.inr rfl
theorem Sys2Proof.Laws.Form.restart (q : QueueId) (arg : Option (BitVec 32)) : Statement (.restart q arg) := Or.inr rfl
theorem Sys2Proof.Laws.Form.flush (q : QueueId) : Statement (.flush q) := Or.inr rfl
theorem Sys2Proof.Laws.Form.disable (q : QueueId) : Statement (.disable q) := Or.inr rfl
theorem Sys2Proof.Laws.Form.registerWrite (w : MgmtWrite) : Statement (.registerWrite w) := Or.inl rfl
theorem Sys2Proof.Laws.Form.translationInvalidate (p : PartId) (page : BitVec 18) : Statement (.translationInvalidate p page) := Or.inr rfl
theorem Sys2Proof.Laws.Form.patrolRead (die : Die) (sub : Fin 34) (line : BitVec 27) (upsets : List LineUpset) : Statement (.patrolRead die sub line upsets) := Or.inr rfl
theorem Sys2Proof.Laws.Form.subchannelRetire (sub : SubId) (src : CmdSrc) : Statement (.subchannelRetire sub src) := Or.inr rfl
theorem Sys2Proof.Laws.Form.migrationPageCopied (die : Die) : Statement (.migrationPageCopied die) := Or.inr rfl
theorem Sys2Proof.Laws.Form.parkioRead (q : QueueId) (lost : List Nat) : Statement (.parkioRead q lost) := Or.inr rfl
theorem Sys2Proof.Laws.Form.parkioWrite (q : QueueId) : Statement (.parkioWrite q) := Or.inr rfl
theorem Sys2Proof.Laws.Form.parkioCreate (q : QueueId) : Statement (.parkioCreate q) := Or.inr rfl
theorem Sys2Proof.Laws.Form.parkioDelete (q : QueueId) : Statement (.parkioDelete q) := Or.inr rfl
theorem Sys2Proof.Laws.Form.parkioTouch (q : QueueId) : Statement (.parkioTouch q) := Or.inr rfl
theorem Sys2Proof.Laws.Form.parkTimeout (q : QueueId) : Statement (.parkTimeout q) := Or.inr rfl
theorem Sys2Proof.Laws.Form.objectExpiry (handle : BitVec 64) : Statement (.objectExpiry handle) := Or.inr rfl
theorem Sys2Proof.Laws.Form.parkClockSave : Statement (.parkClockSave) := Or.inr rfl
theorem Sys2Proof.Laws.Form.eraseObject (handle : BitVec 64) : Statement (.eraseObject handle) := Or.inr rfl
theorem Sys2Proof.Laws.Form.eraseAll (value : Byte) : Statement (.eraseAll value) := Or.inr rfl
theorem Sys2Proof.Laws.Form.kvInvalidate (die : Die) (index : BitVec 19) : Statement (.kvInvalidate die index) := Or.inr rfl
theorem Sys2Proof.Laws.Form.kvResidencyTimeout (q : QueueId) : Statement (.kvResidencyTimeout q) := Or.inr rfl
theorem Sys2Proof.Laws.Form.kvMapSweep (die : Die) : Statement (.kvMapSweep die) := Or.inr rfl
theorem Sys2Proof.Laws.Form.kvScan (r : KvScanReq) : Statement (.kvScan r) := Or.inr rfl
theorem Sys2Proof.Laws.Form.sessionOpen (q : QueueId) : Statement (.sessionOpen q) := Or.inr rfl
theorem Sys2Proof.Laws.Form.sessionUpdate (q : QueueId) : Statement (.sessionUpdate q) := Or.inr rfl
theorem Sys2Proof.Laws.Form.sessionClose (q : QueueId) : Statement (.sessionClose q) := Or.inr rfl
theorem Sys2Proof.Laws.Form.sample (q : QueueId) : Statement (.sample q) := Or.inr rfl
theorem Sys2Proof.Laws.Form.gload (q : QueueId) : Statement (.gload q) := Or.inr rfl
theorem Sys2Proof.Laws.Form.gfree (q : QueueId) : Statement (.gfree q) := Or.inr rfl
theorem Sys2Proof.Laws.Form.gadvance (q : QueueId) : Statement (.gadvance q) := Or.inr rfl
theorem Sys2Proof.Laws.Form.vctxOpen (q : QueueId) : Statement (.vctxOpen q) := Or.inr rfl
theorem Sys2Proof.Laws.Form.vctxUpdate (q : QueueId) : Statement (.vctxUpdate q) := Or.inr rfl
theorem Sys2Proof.Laws.Form.vctxClose (q : QueueId) : Statement (.vctxClose q) := Or.inr rfl
theorem Sys2Proof.Laws.Form.vctxDetach (q : QueueId) : Statement (.vctxDetach q) := Or.inr rfl
theorem Sys2Proof.Laws.Form.vctxAdopt (q : QueueId) : Statement (.vctxAdopt q) := Or.inr rfl
theorem Sys2Proof.Laws.Form.decode (q : QueueId) (r : DecodeReport) : Statement (.decode q r) := Or.inr rfl
theorem Sys2Proof.Laws.Form.encode (q : QueueId) (r : EncodeReport) : Statement (.encode q r) := Or.inr rfl
theorem Sys2Proof.Laws.Form.subframeProgress (q : QueueId) (count : BitVec 15) (p : PictureProgress) : Statement (.subframeProgress q count p) := Or.inr rfl
theorem Sys2Proof.Laws.Form.pictureTimeout (q : QueueId) : Statement (.pictureTimeout q) := Or.inr rfl
theorem Sys2Proof.Laws.Form.videoEngineRestart (e : EngineId) : Statement (.videoEngineRestart e) := Or.inr rfl
theorem Sys2Proof.Laws.Form.videoEngineFailure (e : EngineId) : Statement (.videoEngineFailure e) := Or.inr rfl
theorem Sys2Proof.Laws.Form.componentFault (die : Die) (comp : BitVec 4) (r : CompReport) : Statement (.componentFault die comp r) := Or.inl rfl
theorem Sys2Proof.Laws.Form.budgetOverrun (die : Die) (r : OverrunReport) : Statement (.budgetOverrun die r) := Or.inr rfl
theorem Sys2Proof.Laws.Form.mailboxWaitTimeout (die : Die) (mbx : BitVec 6) : Statement (.mailboxWaitTimeout die mbx) := Or.inr rfl
theorem Sys2Proof.Laws.Form.firmwareCoreFailure (core : BitVec 3) (loss : CoreLoss) : Statement (.firmwareCoreFailure core loss) := Or.inl rfl
theorem Sys2Proof.Laws.Form.mailboxReplyTimeout (die : Die) (mbx : BitVec 6) : Statement (.mailboxReplyTimeout die mbx) := Or.inr rfl
theorem Sys2Proof.Laws.Form.hello (m : MbxSrc) : Statement (.hello m) := Or.inr rfl
theorem Sys2Proof.Laws.Form.loadComponent (m : MbxSrc) : Statement (.loadComponent m) := Or.inr rfl
theorem Sys2Proof.Laws.Form.startComponent (m : MbxSrc) : Statement (.startComponent m) := Or.inr rfl
theorem Sys2Proof.Laws.Form.stopComponent (m : MbxSrc) : Statement (.stopComponent m) := Or.inr rfl
theorem Sys2Proof.Laws.Form.componentStatus (m : MbxSrc) : Statement (.componentStatus m) := Or.inr rfl
theorem Sys2Proof.Laws.Form.bundleHealth (m : MbxSrc) : Statement (.bundleHealth m) := Or.inr rfl
theorem Sys2Proof.Laws.Form.mailboxAssign (m : MbxSrc) (sparesPass : List CoreId) : Statement (.mailboxAssign m sparesPass) := Or.inl rfl
theorem Sys2Proof.Laws.Form.echo (m : MbxSrc) : Statement (.echo m) := Or.inr rfl
theorem Sys2Proof.Laws.Form.reloadRuntime (runtime : Nat) : Statement (.reloadRuntime runtime) := Or.inl rfl
theorem Sys2Proof.Laws.Form.ryciaHello (f : RFrame) (storeOk : Bool) : Statement (.ryciaHello f storeOk) := Or.inr rfl
theorem Sys2Proof.Laws.Form.finish (f : RFrame) : Statement (.finish f) := Or.inr rfl
theorem Sys2Proof.Laws.Form.handshakeTimeout (j : Fin 16) : Statement (.handshakeTimeout j) := Or.inr rfl
theorem Sys2Proof.Laws.Form.keepalive (f : RFrame) : Statement (.keepalive f) := Or.inr rfl
theorem Sys2Proof.Laws.Form.close (f : RFrame) : Statement (.close f) := Or.inr rfl
theorem Sys2Proof.Laws.Form.read (f : RFrame) : Statement (.read f) := Or.inr rfl
theorem Sys2Proof.Laws.Form.write (f : RFrame) : Statement (.write f) := Or.inr rfl
theorem Sys2Proof.Laws.Form.writeBegin (f : RFrame) : Statement (.writeBegin f) := Or.inr rfl
theorem Sys2Proof.Laws.Form.writeSegment (f : RFrame) : Statement (.writeSegment f) := Or.inr rfl
theorem Sys2Proof.Laws.Form.writeCommit (f : RFrame) : Statement (.writeCommit f) := Or.inr rfl
theorem Sys2Proof.Laws.Form.writeCancel (f : RFrame) : Statement (.writeCancel f) := Or.inr rfl
theorem Sys2Proof.Laws.Form.blockWriteTimeout (j : Fin 16) (index : BitVec 16) (sub : BitVec 8) : Statement (.blockWriteTimeout j index sub) := Or.inr rfl
theorem Sys2Proof.Laws.Form.commandWindowClose (storeOk : Bool) (r : StartReport) : Statement (.commandWindowClose storeOk r) := Or.inl rfl
theorem Sys2Proof.Laws.Form.sessionIdleTimeout (j : Fin 16) : Statement (.sessionIdleTimeout j) := Or.inr rfl
theorem Sys2Proof.Laws.Form.stateQuery (f : RFrame) : Statement (.stateQuery f) := Or.inr rfl
theorem Sys2Proof.Laws.Form.wake (f : RFrame) (r : StartReport) : Statement (.wake f r) := Or.inl rfl
theorem Sys2Proof.Laws.Form.credentialWrite (w : OdWrite) (storeOk : Bool) : Statement (.credentialWrite w storeOk) := Or.inl rfl
theorem Sys2Proof.Laws.Form.ryciaSessionClose (j : Fin 16) : Statement (.ryciaSessionClose j) := Or.inr rfl
theorem Sys2Proof.Laws.Form.controllerPresenceExpiry (secondary : Bool) : Statement (.controllerPresenceExpiry secondary) := Or.inr rfl
theorem Sys2Proof.Laws.Form.controllersLost : Statement (.controllersLost) := Or.inr rfl
theorem Sys2Proof.Laws.Form.gracePeriodExpiry : Statement (.gracePeriodExpiry) := Or.inr rfl
theorem Sys2Proof.Laws.Form.frameReceive (port : PortId) (bytes : List Byte) (fcsOk : Bool) : Statement (.frameReceive port bytes fcsOk) := Or.inl rfl
theorem Sys2Proof.Laws.Form.nettx (q : QueueId) : Statement (.nettx q) := Or.inr rfl
theorem Sys2Proof.Laws.Form.netrx (q : QueueId) : Statement (.netrx q) := Or.inr rfl
theorem Sys2Proof.Laws.Form.portFailure (port : PortId) (trigger : Fin 5) : Statement (.portFailure port trigger) := Or.inr rfl
theorem Sys2Proof.Laws.Form.replayComplete (link : LinkId) : Statement (.replayComplete link) := Or.inr rfl
theorem Sys2Proof.Laws.Form.linkDownTimeout (link : LinkId) : Statement (.linkDownTimeout link) := Or.inr rfl
theorem Sys2Proof.Laws.Form.switchOver (code : Nat) : Statement (.switchOver code) := Or.inr rfl
theorem Sys2Proof.Laws.Form.plannedSwitchComplete (link : LinkId) : Statement (.plannedSwitchComplete link) := Or.inr rfl
theorem Sys2Proof.Laws.Form.portLinkUp (port : PortId) (lanes : List LaneReading) : Statement (.portLinkUp port lanes) := Or.inl rfl
theorem Sys2Proof.Laws.Form.holdoffExpiry (port : PortId) : Statement (.holdoffExpiry port) := Or.inr rfl
theorem Sys2Proof.Laws.Form.heartbeat (port : PortId) : Statement (.heartbeat port) := Or.inr rfl
theorem Sys2Proof.Laws.Form.runDiagnostics (port : PortId) (lanes : List LaneReading) : Statement (.runDiagnostics port lanes) := Or.inl rfl
theorem Sys2Proof.Laws.Form.portReturnToService (port : PortId) : Statement (.portReturnToService port) := Or.inr rfl
theorem Sys2Proof.Laws.Form.peerEntryExpiry (link : LinkId) (src : BitVec 16) : Statement (.peerEntryExpiry link src) := Or.inr rfl
theorem Sys2Proof.Laws.Form.jobAbortOrdered (group : BitVec 6) : Statement (.jobAbortOrdered group) := Or.inr rfl
theorem Sys2Proof.Laws.Form.jobAbort (port : PortId) (groupId : BitVec 32) (token : BitVec 64) : Statement (.jobAbort port groupId token) := Or.inr rfl
theorem Sys2Proof.Laws.Form.eventOccurrence (die : Die) (src : BitVec 10) (level : Bool) (detail : BitVec 47) : Statement (.eventOccurrence die src level detail) := Or.inr rfl
theorem Sys2Proof.Laws.Form.coalesceTimeout (die : Die) (src : BitVec 10) : Statement (.coalesceTimeout die src) := Or.inr rfl
theorem Sys2Proof.Laws.Form.claim (core : IrqCore) : Statement (.claim core) := Or.inr rfl
theorem Sys2Proof.Laws.Form.complete (core : IrqCore) (word : BitVec 32) : Statement (.complete core word) := Or.inr rfl
theorem Sys2Proof.Laws.Form.sourceControlWrite (die : Die) (src : BitVec 10) (control : BitVec 64) : Statement (.sourceControlWrite die src control) := Or.inr rfl
theorem Sys2Proof.Laws.Form.wakeSubsetOccurrence (src : Fin 10) (level : Bool) (detail : BitVec 47) (r : StartReport) : Statement (.wakeSubsetOccurrence src level detail r) := Or.inl rfl
theorem Sys2Proof.Laws.Form.counterThreshold (c : Fin 416) (by_ : Nat) : Statement (.counterThreshold c by_) := Or.inr rfl
theorem Sys2Proof.Laws.Form.counterWrap (c : Fin 416) (by_ : Nat) : Statement (.counterWrap c by_) := Or.inr rfl
theorem Sys2Proof.Laws.Form.counterControlWrite (c : Fin 416) (control : BitVec 64) : Statement (.counterControlWrite c control) := Or.inr rfl
theorem Sys2Proof.Laws.Form.freeze : Statement (.freeze) := Or.inr rfl
theorem Sys2Proof.Laws.Form.freezePoint : Statement (.freezePoint) := Or.inr rfl
theorem Sys2Proof.Laws.Form.freezeResume : Statement (.freezeResume) := Or.inr rfl
theorem Sys2Proof.Laws.Form.snapshot : Statement (.snapshot) := Or.inr rfl
theorem Sys2Proof.Laws.Form.snapshotResume : Statement (.snapshotResume) := Or.inr rfl
theorem Sys2Proof.Laws.Form.inject : Statement (.inject) := Or.inr rfl
theorem Sys2Proof.Laws.Form.bundleRegister (r : BundleReg) : Statement (.bundleRegister r) := Or.inl rfl
theorem Sys2Proof.Laws.Form.bundleDeregister (slot : BitVec 4) : Statement (.bundleDeregister slot) := Or.inr rfl
theorem Sys2Proof.Laws.Form.digestPassStart (slot : BitVec 4) : Statement (.digestPassStart slot) := Or.inr rfl
theorem Sys2Proof.Laws.Form.digestPassEnd (slot : BitVec 4) : Statement (.digestPassEnd slot) := Or.inr rfl
theorem Sys2Proof.Laws.Form.checkNow (slot : BitVec 4) : Statement (.checkNow slot) := Or.inr rfl
theorem Sys2Proof.Laws.Form.reportMismatch (slot : BitVec 4) : Statement (.reportMismatch slot) := Or.inr rfl
theorem Sys2Proof.Laws.Form.reportMismatchPoison (slot : BitVec 4) : Statement (.reportMismatchPoison slot) := Or.inr rfl
theorem Sys2Proof.Laws.Form.wearCommit : Statement (.wearCommit) := Or.inr rfl
theorem Sys2Proof.Laws.Form.dailyWearSample (m : WearSample) : Statement (.dailyWearSample m) := Or.inr rfl
theorem Sys2Proof.Laws.Form.coreSwap (core : CoreId) (src : CmdSrc) (passed : Bool) : Statement (.coreSwap core src passed) := Or.inr rfl
theorem Sys2Proof.Laws.Form.requalify (passed : Bool) : Statement (.requalify passed) := Or.inr rfl
theorem Sys2Proof.Laws.Form.digest (q : QueueId) : Statement (.digest q) := Or.inr rfl
theorem Sys2Proof.Laws.Form.seal (q : QueueId) : Statement (.seal q) := Or.inr rfl
theorem Sys2Proof.Laws.Form.openSealed (q : QueueId) : Statement (.openSealed q) := Or.inr rfl
theorem Sys2Proof.Laws.Form.kemgen (q : QueueId) : Statement (.kemgen q) := Or.inr rfl
theorem Sys2Proof.Laws.Form.partitionCreate (m : MbxSrc) : Statement (.partitionCreate m) := Or.inr rfl
theorem Sys2Proof.Laws.Form.partitionScrub (p : PartId) (src : CmdSrc) : Statement (.partitionScrub p src) := Or.inr rfl
theorem Sys2Proof.Laws.Form.partitionDestroy (m : MbxSrc) : Statement (.partitionDestroy m) := Or.inr rfl
theorem Sys2Proof.Laws.Form.scrubComplete (p : PartId) : Statement (.scrubComplete p) := Or.inr rfl
theorem Sys2Proof.Laws.Form.attestRequest (m : MbxSrc) (storeOk : Bool) : Statement (.attestRequest m storeOk) := Or.inr rfl
theorem Sys2Proof.Laws.Form.keyRelease (m : MbxSrc) : Statement (.keyRelease m) := Or.inr rfl
theorem Sys2Proof.Laws.Form.kemExpiry (p : PartId) (slot : BitVec 2) : Statement (.kemExpiry p slot) := Or.inr rfl
theorem Sys2Proof.Laws.Form.debugOpen : Statement (.debugOpen) := Or.inr rfl
theorem Sys2Proof.Laws.Form.debugClose : Statement (.debugClose) := Or.inr rfl
theorem Sys2Proof.Laws.Form.debugDataRead : Statement (.debugDataRead) := Or.inr rfl
theorem Sys2Proof.Laws.Form.debugDataWrite (bytes : List Byte) : Statement (.debugDataWrite bytes) := Or.inl rfl
theorem Sys2Proof.Laws.Form.dbgConnectorUse : Statement (.dbgConnectorUse) := Or.inr rfl
theorem Sys2Proof.Laws.Form.lowerTreeReady : Statement (.lowerTreeReady) := Or.inr rfl
theorem Sys2Proof.Laws.Form.drain (src : CmdSrc) : Statement (.drain src) := Or.inr rfl
theorem Sys2Proof.Laws.Form.drainEnd (src : CmdSrc) : Statement (.drainEnd src) := Or.inr rfl
theorem Sys2Proof.Laws.Form.standbyRequest (src : CmdSrc) : Statement (.standbyRequest src) := Or.inr rfl
theorem Sys2Proof.Laws.Form.parkedRequest (src : CmdSrc) : Statement (.parkedRequest src) := Or.inr rfl
theorem Sys2Proof.Laws.Form.drainTimeout : Statement (.drainTimeout) := Or.inr rfl
theorem Sys2Proof.Laws.Form.drainAbort (storeOk : Bool) (r : StartReport) : Statement (.drainAbort storeOk r) := Or.inl rfl
theorem Sys2Proof.Laws.Form.idleEntry : Statement (.idleEntry) := Or.inr rfl
theorem Sys2Proof.Laws.Form.throttleTriggerAssert (t : Trigger) (detail : BitVec 47) : Statement (.throttleTriggerAssert t detail) := Or.inr rfl
theorem Sys2Proof.Laws.Form.throttleTriggerClear (t : Trigger) : Statement (.throttleTriggerClear t) := Or.inr rfl
theorem Sys2Proof.Laws.Form.throttleLevelRise (t : Trigger) : Statement (.throttleLevelRise t) := Or.inr rfl
theorem Sys2Proof.Laws.Form.throttleLevelFall (t : Trigger) : Statement (.throttleLevelFall t) := Or.inr rfl
theorem Sys2Proof.Laws.Form.thermalStop (hot : HotCore) : Statement (.thermalStop hot) := Or.inl rfl
theorem Sys2Proof.Laws.Form.powerCapAdjust (p : PartId) (estimateMw : Nat) : Statement (.powerCapAdjust p estimateMw) := Or.inr rfl
theorem Sys2Proof.Laws.Form.ballastAdjust (drawMw : Nat) : Statement (.ballastAdjust drawMw) := Or.inr rfl
theorem Sys2Proof.Laws.Form.rampHoldAdjust (drawMw : Nat) (roomMw : Nat) : Statement (.rampHoldAdjust drawMw roomMw) := Or.inr rfl
theorem Sys2Proof.Laws.Form.modReset (src : CmdSrc) (r : StartReport) : Statement (.modReset src r) := Or.inl rfl
theorem Sys2Proof.Laws.Form.warmReset (cause : Nat) (r : StartReport) : Statement (.warmReset cause r) := Or.inl rfl
theorem Sys2Proof.Laws.Form.runtimeLoadOverrun (r : StartReport) : Statement (.runtimeLoadOverrun r) := Or.inl rfl
theorem Sys2Proof.Laws.Form.heartbeatCheck : Statement (.heartbeatCheck) := Or.inr rfl
theorem Sys2Proof.Laws.Form.prepareWarm (m : MbxSrc) : Statement (.prepareWarm m) := Or.inr rfl
theorem Sys2Proof.Laws.Form.prepareWarmTimeout (r : StartReport) : Statement (.prepareWarmTimeout r) := Or.inl rfl
theorem Sys2Proof.Laws.Form.returnToService (r : StartReport) : Statement (.returnToService r) := Or.inl rfl
theorem Sys2Proof.Laws.Form.stageOpen : Statement (.stageOpen) := Or.inr rfl
theorem Sys2Proof.Laws.Form.stageDiscard : Statement (.stageDiscard) := Or.inr rfl
theorem Sys2Proof.Laws.Form.stageArm (r : StartReport) : Statement (.stageArm r) := Or.inl rfl
theorem Sys2Proof.Laws.Form.chunk (bytes : List Byte) : Statement (.chunk bytes) := Or.inl rfl
theorem Sys2Proof.Laws.Form.chunkDurable (index : Nat) : Statement (.chunkDurable index) := Or.inr rfl
theorem Sys2Proof.Laws.Form.probationExpiry : Statement (.probationExpiry) := Or.inr rfl
theorem Sys2Proof.Laws.Form.usePrevious (r : StartReport) : Statement (.usePrevious r) := Or.inl rfl
theorem Sys2Proof.Laws.Form.apertureAccess (die : Die) (core : BitVec 3) (addr : BitVec 48) (kind : AccessKind) : Statement (.apertureAccess die core addr kind) := Or.inl rfl
theorem Sys2Proof.Laws.Form.refreshRateChange (sub : SubId) (temp : Int) : Statement (.refreshRateChange sub temp) := Or.inr rfl
theorem Sys2Proof.Laws.Form.thermalCycle (temp : Int) : Statement (.thermalCycle temp) := Or.inr rfl
theorem Sys2Proof.Laws.Form.trainingCacheUpdate : Statement (.trainingCacheUpdate) := Or.inr rfl
theorem Sys2Proof.Laws.Form.compactionEraseComplete : Statement (.compactionEraseComplete) := Or.inr rfl
theorem Sys2Proof.Laws.Form.trialTimeout : Statement (.trialTimeout) := Or.inr rfl
end

