-- ==== Sys2Proof/Laws/Raise.lean ====
section
/-!
SUPPORT. What an event, and an access of partition memory, may change (15 R455–R463): beside the fields that the frames
name, only the contents of subchannels, the positions and counts of record queues, the outgoing messages of mailboxes, and
the counts of the records 0x2300 and 0x2900.
-/
namespace Sys2Proof.Machine

open Sys2Proof

/-- A queue without the positions and counts that its records move. -/
def Queue.still (x : Queue) : Queue := { x with reserved := 0, credits := 0, tail := 0, overflow := false, dropped := 0 }

/-- What no event changes. -/
structure Still where
  sub : Nat → Sub
  queue : Nat → Queue
  fw : Fw
  mbx : Nat → Mbx
  od : Nat → Option Nat
  src : Nat → BitVec 64 × Option (BitVec 3)

def State.still (s : State) : Still where
  sub := fun n => { s.sub n with mem := {} }
  queue := fun q => (s.queue q).still
  fw := { s.fw with mbx := [] }
  mbx := fun k => { s.fw.mbx.getD k {} with outb := [], outSeq := 0 }
  od := fun k => if k / 256 = 0x2300 ∨ k / 256 = 0x2900 then none else s.od.find k
  src := fun k => ((s.ev.src.getD k {}).control, (s.ev.src.getD k {}).owner)

/-! ### Single changes -/

theorem still_putQueue (s : State) (q : Nat) (x : Queue) (h : x.still = (s.queue q).still) : (s.putQueue q x).still = s.still := by
  have e : (fun k => ((s.putQueue q x).queue k).still) = fun k => (s.queue k).still := by
    funext k
    rw [State.queue_putQueue]
    split
    · subst_vars; exact h
    · rfl
  show { s.still with queue := fun k => ((s.putQueue q x).queue k).still } = s.still
  rw [e]; rfl

theorem still_putSub (s : State) (n : Nat) (x : Sub) (h : { x with mem := {} } = { s.sub n with mem := {} }) :
    (s.putSub n x).still = s.still := by
  have e : (fun k => { (s.putSub n x).sub k with mem := {} }) = fun k => { s.sub k with mem := {} } := by
    funext k
    rw [State.sub_putSub]
    split
    · subst_vars; exact h
    · rfl
  show { s.still with sub := fun k => { (s.putSub n x).sub k with mem := {} } } = s.still
  rw [e]; rfl

theorem still_putMbx (s : State) (die m : Nat) (x : Mbx)
    (h : { x with outb := [], outSeq := 0 } = { s.mbx die m with outb := [], outSeq := 0 }) : (s.putMbx die m x).still = s.still := by
  have e : (fun k => { (s.putMbx die m x).fw.mbx.getD k {} with outb := [], outSeq := 0 })
      = fun k => { s.fw.mbx.getD k {} with outb := [], outSeq := 0 } := by
    funext k
    show { (s.fw.mbx.put (64 * die + m) x).getD k {} with outb := [], outSeq := 0 } = _
    rw [AMap.getD_put]
    split
    · subst_vars; exact h
    · rfl
  show { s.still with mbx := fun k => { (s.putMbx die m x).fw.mbx.getD k {} with outb := [], outSeq := 0 } } = s.still
  rw [e]; rfl

theorem still_putSource (s : State) (die n : Nat) (x : Source)
    (h : x.control = (s.source die n).control) (g : x.owner = (s.source die n).owner) : (s.putSource die n x).still = s.still := by
  have e : (fun k => (((s.putSource die n x).ev.src.getD k {}).control, ((s.putSource die n x).ev.src.getD k {}).owner))
      = fun k => ((s.ev.src.getD k {}).control, (s.ev.src.getD k {}).owner) := by
    funext k
    show (((s.ev.src.put (1024 * die + n) x).getD k {}).control, ((s.ev.src.put (1024 * die + n) x).getD k {}).owner) = _
    rw [AMap.getD_put]
    split
    · subst_vars; rw [h, g]; rfl
    · rfl
  show { s.still with src := fun k => (((s.putSource die n x).ev.src.getD k {}).control,
    ((s.putSource die n x).ev.src.getD k {}).owner) } = s.still
  rw [e]; rfl

theorem still_odSet (s : State) (ix sub v : Nat) (h : odKey ix sub / 256 = 0x2300 ∨ odKey ix sub / 256 = 0x2900) :
    (s.odSet ix sub v).still = s.still := by
  have e : (fun k => if k / 256 = 0x2300 ∨ k / 256 = 0x2900 then none else (s.odSet ix sub v).od.find k)
      = fun k => if k / 256 = 0x2300 ∨ k / 256 = 0x2900 then none else s.od.find k := by
    funext k
    split
    · rfl
    · rename_i n
      show (s.od.put (odKey ix sub) v).find k = s.od.find k
      rw [AMap.find_put]
      split
      · subst_vars; exact absurd h n
      · rfl
  show { s.still with od := fun k => if k / 256 = 0x2300 ∨ k / 256 = 0x2900 then none else (s.odSet ix sub v).od.find k } = s.still
  rw [e]; rfl

theorem still_odInc (s : State) (ix sub n : Nat) (h : odKey ix sub / 256 = 0x2300 ∨ odKey ix sub / 256 = 0x2900) :
    (s.odInc ix sub n).still = s.still := still_odSet s ix sub _ h

theorem still_foldl {α : Type} (f : State → α → State) (h : ∀ s x, (f s x).still = s.still) (xs : List α) (s : State) :
    (xs.foldl f s).still = s.still := by
  induction xs generalizing s with
  | nil => rfl
  | cons x xs ih => exact (ih _).trans (h s x)

/-! ### Translation and raw access -/

theorem still_tlbFill (s : State) (die key e : Nat) : (s.tlbFill die key e).still = s.still := by
  unfold State.tlbFill
  dsimp only
  split
  · rfl
  · split <;> rfl

theorem still_xlate (s : State) (die p page : Nat) : (s.xlate die p page).2.still = s.still := by
  unfold State.xlate
  dsimp only
  split
  · split <;> rfl
  · exact still_tlbFill s _ _ _

theorem still_xlateAll (die p : Nat) (write : Bool) (xs : List (Nat × Nat × Nat)) (s : State) :
    (s.xlateAll die p write xs).2.still = s.still := by
  induction xs generalizing s with
  | nil => rfl
  | cons x xs ih =>
    obtain ⟨page, off, len⟩ := x
    have h := still_xlate s die p page
    unfold State.xlateAll
    dsimp only
    split
    · have g := ih (s.xlate die p page).2
      split
      · rename_i e; rw [e] at g; exact g.trans h
      · rename_i e; rw [e] at g; exact g.trans h
    · exact h

theorem still_extent (s : State) (die p a n : Nat) (write : Bool) : (s.extent die p a n write).2.still = s.still := by
  unfold State.extent
  split
  · rfl
  · split
    · rfl
    · exact still_xlateAll die p write _ s

theorem still_setMemOf (s : State) (n : Nat) (m : Mem) : (s.updSub n (fun u => { u with mem := m })).still = s.still :=
  still_putSub s n _ rfl

theorem still_setLineIn (s : State) (n line : Nat) (m : Mem) : (s.setLineIn n line m).still = s.still := by
  unfold State.setLineIn
  repeat' first | rfl | exact still_putSub s n _ rfl | split

theorem still_settleLine (s : State) (n line e : Nat) : (s.settleLine n line e).still = s.still := by
  unfold State.settleLine
  dsimp only
  split
  · rfl
  · split <;> exact still_setLineIn _ n line _

theorem still_settleWhere (s : State) (n : Nat) (p : Nat → Bool) : (s.settleWhere n p).still = s.still := by
  unfold State.settleWhere
  generalize s.upsets.only _ = xs
  exact still_foldl (fun s x => s.settleLine n (x.1 % 2 ^ 27) x.2) (fun s x => still_settleLine s n (x.1 % 2 ^ 27) x.2) xs s

theorem still_settleRange (s : State) (n a len : Nat) : (s.settleRange n a len).still = s.still := still_settleWhere s n _

theorem still_settleWrite (s : State) (n a len : Nat) : (s.settleWrite n a len).still = s.still := by
  unfold State.settleWrite
  exact still_settleWhere s n _

theorem still_settlePiece (s : State) (x : Nat × Nat × Nat) : (s.settlePiece x).still = s.still := by
  unfold State.settlePiece
  dsimp only
  split
  · rfl
  · split
    · rw [still_settleRange, still_settleRange]
    · exact still_settleRange _ _ _ _

/-- A read through the check code writes back what it delivers, and nothing of `still`. -/
theorem still_takePieces (s : State) (xs : List (Nat × Nat × Nat)) : (s.takePieces xs).2.still = s.still :=
  still_foldl _ (fun s x => still_settlePiece s x) xs s

theorem still_writePiece (s : State) (x : Nat × Nat × Nat) (bs : List (Byte × Bool)) : (s.writePiece x bs).still = s.still := by
  unfold State.writePiece State.updSub
  dsimp only
  split
  · exact still_putSub s _ _ rfl
  · refine (still_putSub _ _ _ ?_).trans (still_settleWrite s _ _ _)
    rfl

theorem still_writePieces (xs : List (Nat × Nat × Nat)) (bs : List (Byte × Bool)) (s : State) :
    (s.writePieces xs bs).still = s.still := by
  induction xs generalizing s bs with
  | nil => rfl
  | cons x xs ih => exact (ih _ _).trans (still_writePiece s x bs)

/-! ### Records, counters, events -/

/-- What `raise` leaves alone. -/
abbrev Quiet (raise : Raise) : Prop := ∀ s d m x, (raise s d m x).still = s.still

theorem still_ctrBump (raise : Raise) (hr : Quiet raise) (s : State) (k n : Nat) : (ctrBump raise s k n).still = s.still := by
  unfold ctrBump
  dsimp only
  split
  · rfl
  · have h : (s.putCtr k ((s.ctr k).add n).1).still = s.still := rfl
    split <;> split <;> simp only [hr, h]

theorem still_bumpDieBy (raise : Raise) (hr : Quiet raise) (s : State) (die code : Nat) (part : Option Nat) (n : Nat) :
    (bumpDieBy raise s die code part n).still = s.still := still_foldl _ (fun s x => still_ctrBump raise hr s x n) _ s

theorem still_countLinesBy (raise : Raise) (hr : Quiet raise) (s : State) (code p : Nat) (xs : List (Nat × Nat × Nat)) :
    (countLinesBy raise s code p xs).still = s.still := by
  refine still_foldl _ (fun s x => ?_) xs s
  dsimp only
  split
  · rw [still_bumpDieBy raise hr, still_bumpDieBy raise hr]
  · exact still_bumpDieBy raise hr _ _ _ _ _

theorem still_pwriteBy (raise : Raise) (hr : Quiet raise) (s : State) (die p a : Nat) (bs : List (Byte × Bool)) :
    (pwriteBy raise s die p a bs).2.still = s.still := by
  unfold pwriteBy
  dsimp only
  have h := (still_extent (bumpDieBy raise s die 0x4C (some p) (s.missesOf die p a bs.length)) die p a bs.length true).trans
    (still_bumpDieBy raise hr s die 0x4C (some p) _)
  split
  · rename_i e; rw [e] at h
    exact (still_countLinesBy raise hr _ _ _ _).trans ((still_writePieces _ _ _).trans h)
  · rename_i e; rw [e] at h
    exact (hr _ _ _ _).trans h

theorem still_creditWriteBackBy (raise : Raise) (hr : Quiet raise) (s : State) (q : Nat) :
    (creditWriteBackBy raise s q).still = s.still := by
  unfold creditWriteBackBy
  dsimp only
  split
  · rfl
  · exact still_pwriteBy raise hr s _ _ _ _

theorem still_reserveRecordBy (raise : Raise) (hr : Quiet raise) (s : State) (q : Nat) :
    (reserveRecordBy raise s q).still = s.still := by
  unfold reserveRecordBy
  dsimp only
  split
  · exact (still_creditWriteBackBy raise hr _ _).trans (still_putQueue s q _ rfl)
  · exact still_putQueue s q _ rfl

theorem still_putRecordBy (raise : Raise) (hr : Quiet raise) (s : State) (q pos r : Nat) :
    (putRecordBy raise s q pos r).still = s.still := still_pwriteBy raise hr s _ _ _ _

theorem still_deliverQueue (raise : Raise) (hr : Quiet raise) (s : State)
    (q die n : Nat) (part : Option Nat) (x : Source) (lost : Bool) : (deliverQueue raise s q die n part x lost).still = s.still := by
  have h : ∀ (ks : List Nat) (u : State), (ks.foldl (fun s k => ctrBump raise s k 1) u).still = u.still :=
    fun ks u => still_foldl _ (fun s x => still_ctrBump raise hr s x 1) ks u
  unfold deliverQueue
  dsimp only
  split
  · have g : ∀ (pos r : Nat) (u : State),
        (((putRecordBy raise u q pos r).updQueue q (fun e => { e with overflow := false })).odInc 0x2900 3 1).still = u.still := by
      intro pos r u
      rw [still_odInc _ _ _ _ (by decide)]
      refine (still_putQueue (putRecordBy raise u q pos r) q _ ?_).trans (still_putRecordBy raise hr _ _ _ _)
      rfl
    split
    · rw [hr, h, g, still_reserveRecordBy raise hr]
    · rw [h, g, still_reserveRecordBy raise hr]
  · rw [h, still_odInc _ _ _ _ (by decide)]
    unfold State.updQueue
    exact still_putQueue s q _ rfl

theorem still_mbxSend (s : State) (die m type length tag status reply body : Nat) :
    (s.mbxSend die m type length tag status reply body).2.still = s.still := by
  unfold State.mbxSend
  dsimp only
  split
  · rfl
  · exact still_putMbx s die m _ rfl

theorem still_deliverMessage (s : State) (die n : Nat) (x : Source) (lost : Bool) : (deliverMessage s die n x lost).still = s.still := by
  unfold deliverMessage
  dsimp only
  split
  · rename_i t e
    have h := still_mbxSend s die 0 0x0080 16 0 0 0 (eventRecord x.t0 n die (hasNat s.ev.notifyLost die || lost) x.n x.detail + 1)
    rw [e] at h
    rw [still_odInc _ _ _ _ (by decide), still_odInc _ _ _ _ (by decide)]
    exact h
  · rw [still_odInc _ _ _ _ (by decide)]; rfl

theorem Source.rearm_control (x : Source) (now : Nat) : (x.rearm now).control = x.control := by
  unfold Source.rearm; split
  · split <;> rfl
  · rfl

theorem Source.rearm_owner (x : Source) (now : Nat) : (x.rearm now).owner = x.owner := by
  unfold Source.rearm; split
  · split <;> rfl
  · rfl

theorem still_irqRaise (s : State) (c prio die n : Nat) : (s.irqRaise c prio die n).still = s.still := by
  unfold State.irqRaise
  dsimp only
  split <;> rfl

theorem still_deliver (raise : Raise) (hr : Quiet raise) (s : State) (die n : Nat) :
    (deliver raise s die n).still = s.still := by
  unfold deliver
  dsimp only
  have h0 : ∀ (x : Source) (now : Nat), x.control = (s.source die n).control → x.owner = (s.source die n).owner →
      (s.putSource die n (x.rearm now)).still = s.still := fun x now hc ho =>
    still_putSource s die n _ ((Source.rearm_control _ _).trans hc) ((Source.rearm_owner _ _).trans ho)
  have h1 : ∀ (b : Prop) [Decidable b] (u v : State), v.still = u.still → (if b then v else u).still = u.still :=
    fun b _ u v h => by
      split
      · exact h
      · rfl
  refine (h1 _ _ _ (still_irqRaise _ _ _ _ _)).trans ((h1 _ _ _ (still_deliverMessage _ _ _ _ _)).trans
    ((h1 _ _ _ (still_deliverQueue raise hr _ _ _ _ _ _ _)).trans ((h1 _ _ _ ?_).trans ?_)))
  · rfl
  · exact h0 _ _ rfl rfl

theorem still_count (raise : Raise) (hr : Quiet raise) (s : State) (die n detail t : Nat) :
    (count raise s die n detail t).still = s.still := by
  unfold count
  dsimp only
  have h : ∀ x : Source, x.control = (s.source die n).control → x.owner = (s.source die n).owner →
      (s.putSource die n x).still = s.still := fun x hc ho => still_putSource s die n x hc ho
  split
  · split <;> split
    all_goals first
      | exact (still_deliver raise hr _ _ _).trans (h _ rfl rfl)
      | exact h _ rfl rfl
  · exact h _ rfl rfl

theorem still_islandLog (s : State) (n detail : Nat) : (s.islandLog n detail).still = s.still := by
  unfold State.islandLog
  split
  · rfl
  · exact still_odInc _ _ _ _ (by decide)

theorem still_raiseN (fuel : Nat) (s : State) (die n detail : Nat) : (raiseN fuel s die n detail).still = s.still := by
  induction fuel generalizing s die n detail with
  | zero => rfl
  | succ k ih =>
    unfold raiseN
    split
    · rfl
    · split
      · split
        · exact still_islandLog s n detail
        · rfl
      · exact still_count _ (fun s d m x => ih s d m x) s die n detail s.now

/-- An event changes nothing of `still`. -/
theorem State.still_raise (s : State) (die n detail : Nat) : (s.raise die n detail).still = s.still := still_raiseN 4 s die n detail

theorem State.still_raiseEast (s : State) (n detail : Nat) : (s.raiseEast n detail).still = s.still := s.still_raise 0 n detail

/-- A condition that changes, and what it raises, change nothing of `still`. -/
theorem State.still_condition (s : State) (die n : Nat) (level : Bool) (detail : Nat) :
    (s.condition die n level detail).still = s.still := by
  unfold State.condition
  dsimp only
  have h : ∀ (x : Source), x.control = (s.source die n).control → x.owner = (s.source die n).owner → (s.putSource die n x).still = s.still :=
    fun x hc ho => still_putSource s die n x hc ho
  split
  · rfl
  · split
    · split
      · rfl
      · split
        · split
          · rw [still_islandLog]; exact h _ rfl rfl
          · exact h _ rfl rfl
        · split
          · split
            · exact h _ rfl rfl
            · refine (still_count _ (fun s d m x => s.still_raise d m x) _ _ _ _ _).trans
                ((still_putSource _ _ _ _ ?_ ?_).trans (h _ rfl rfl)) <;> rfl
          · rw [still_count _ (fun s d m x => s.still_raise d m x)]; exact h _ rfl rfl
    · exact h _ (Source.rearm_control _ _) (Source.rearm_owner _ _)

theorem State.still_bumpDie (s : State) (die code : Nat) (part : Option Nat) (n : Nat) : (s.bumpDie die code part n).still = s.still :=
  still_bumpDieBy _ (fun s d m x => s.still_raise d m x) s die code part n

theorem State.still_bumpCore (s : State) (core code n : Nat) : (s.bumpCore core code n).still = s.still :=
  still_foldl _ (fun s x => still_ctrBump _ (fun s d m x => s.still_raise d m x) s x n) _ s

theorem State.still_countLines (s : State) (code p : Nat) (xs : List (Nat × Nat × Nat)) : (s.countLines code p xs).still = s.still :=
  still_countLinesBy _ (fun s d m x => s.still_raise d m x) s code p xs

theorem State.still_creditWriteBack (s : State) (q : Nat) : (s.creditWriteBack q).still = s.still :=
  still_creditWriteBackBy _ (fun s d m x => s.still_raise d m x) s q

theorem State.still_reserveRecord (s : State) (q : Nat) : (s.reserveRecord q).still = s.still :=
  still_reserveRecordBy _ (fun s d m x => s.still_raise d m x) s q

theorem State.still_putRecord (s : State) (q pos r : Nat) : (s.putRecord q pos r).still = s.still :=
  still_putRecordBy _ (fun s d m x => s.still_raise d m x) s q pos r

/-- A write of partition memory changes nothing of `still`. -/
theorem State.still_pwrite (s : State) (die p a : Nat) (bs : List (Byte × Bool)) : (s.pwrite die p a bs).2.still = s.still :=
  still_pwriteBy _ (fun s d m x => s.still_raise d m x) s die p a bs

/-- A read of partition memory changes nothing of `still`. -/
theorem State.still_pread (s : State) (die p a n : Nat) : (s.pread die p a n).2.still = s.still := by
  unfold State.pread
  dsimp only
  have h := (still_extent (s.bumpDie die 0x4C (some p) (s.missesOf die p a n)) die p a n false).trans
    (s.still_bumpDie die 0x4C (some p) _)
  split
  · rename_i e; rw [e] at h
    exact (State.still_countLines _ _ _ _).trans ((still_takePieces _ _).trans h)
  · rename_i e; rw [e] at h
    exact (State.still_raise _ _ _ _).trans h

/-! ### What `still` gives -/

/-- Entries outside the records 0x2300 and 0x2900 read the same. -/
theorem odGet_of_still {s t : State} (h : t.still = s.still) (ix sub : Nat)
    (hk : odKey ix sub / 256 ≠ 0x2300 ∧ odKey ix sub / 256 ≠ 0x2900) : t.odGet ix sub = s.odGet ix sub := by
  have e := congrFun (congrArg Still.od h) (odKey ix sub)
  simp only [State.still, hk.1, hk.2, or_self, if_false] at e
  unfold State.odGet
  rw [e]

theorem sub_role_of_still {s t : State} (h : t.still = s.still) (n : Nat) : (t.sub n).role = (s.sub n).role :=
  by
  have e := congrArg Sub.role (congrFun (congrArg Still.sub h) n)
  exact e

theorem queue_of_still {s t : State} (h : t.still = s.still) (q : Nat) : (t.queue q).still = (s.queue q).still :=
  congrFun (congrArg Still.queue h) q

theorem queue_state_of_still {s t : State} (h : t.still = s.still) (q : Nat) : (t.queue q).state = (s.queue q).state :=
  by
  have e := congrArg Queue.state (queue_of_still h q)
  exact e

theorem queue_jobs_of_still {s t : State} (h : t.still = s.still) (q : Nat) : (t.queue q).jobs = (s.queue q).jobs :=
  by
  have e := congrArg Queue.jobs (queue_of_still h q)
  exact e

theorem comps_of_still {s t : State} (h : t.still = s.still) : t.fw.comps = s.fw.comps :=
  by
  have e := congrArg Fw.comps (congrArg Still.fw h)
  exact e

theorem source_control_of_still {s t : State} (h : t.still = s.still) (die n : Nat) :
    (t.source die n).control = (s.source die n).control := congrArg Prod.fst (congrFun (congrArg Still.src h) (1024 * die + n))

end Sys2Proof.Machine
end

