-- ==== Sys2Proof/Tests/Slice0.lean ====
section
/-!
SUPPORT. Tests: the worked examples of the spec, an ill-formed command for each check of WellFormed, and for each
obligation concrete states and operands that meet the hypotheses of its clauses.
-/
namespace Sys2Proof.Tests
set_option Elab.async false
open Sys2Proof Sys2Proof.Machine
/-- The module with its power on, in a state of R11. -/
def up (m : Mode) : State := (State.reset.setMode m).setTray { State.reset.tray with phase := .on }
/-- The timebase at `n` counts. -/
def late (s : State) (n : Nat) : State := s.setTime { s.time with base := BitVec.ofNat 96 (n * 4294967296) }
/-- A phase of the power sequence. -/
def atPhase (p : TrayPhase) : State := State.reset.setTray { State.reset.tray with phase := p }
def ready : State := up .ready
/-- No reset runs. -/
def settled (s : State) : State := s.setRst { s.rst with running := none }
/-- A start in which every check passes. -/
def fine : StartReport := {}
/-- A word from its fields: lowest bit and value. -/
def word (xs : List (Nat × Nat)) : Nat := (xs.map (fun x => x.2 * 2 ^ x.1)).sum
def jobOf (ph : JobPhase) (xs : List (Nat × Nat)) : Job := { desc := BitVec.ofNat 512 (word xs), slot := 0, seq := 0, phase := ph }
/-- An active queue of four slots on an engine, holding one descriptor. -/
def busyQ (engine : Nat) (ph : JobPhase) (xs : List (Nat × Nat)) : Queue :=
  { state := .active, engine := BitVec.ofNat 12 engine, depthLog2 := 2, credits := 3, jobs := [jobOf ph xs] }
/-- READY with queue 0 alone. -/
def on0 (x : Queue) : State := ready.setQueues [(0, x)]
def handed (engine : Nat) (xs : List (Nat × Nat)) : State := on0 (busyQ engine .handed xs)
/-- Partition 0 is active and owns subchannel 0; its page 0 is writable there. -/
def mapped (s : State) : State :=
  ((s.setParts [(0, { state := .active, subs := 1, cores := 1, q0 := (0, 8) })]).setPageMaps [(0, word [(0, 1), (1, 1), (34, 32)])]).setDram
    [(0, { mem := {} })]
/-- A message of the host with an inline body. -/
def hostMsg (type length body : Nat) : BitVec 512 :=
  BitVec.ofNat 512 (word [(56, 0x80), (160, type), (144, length), (176, 0x0205), (240, body)])
/-- Components that run. -/
def running (s : State) (cs : List Nat) : State :=
  s.setFw { s.fw with comps := cs.map (fun c => (c, { state := .running })) }
/-- What a command takes from mailbox 0 of a die. -/
def taken (die : Die) (msg : BitVec 512) : MbxIn := ⟨die.toNat, 0, setFld msg.toNat 92 4 8, none, 0, 0⟩
/-- A Rycia frame in clear. -/
def rframe (type session counter : Nat) (body : List Byte) : RFrame :=
  { port := 0, header := BitVec.ofNat 160 (word [(0, 0x5259), (16, 1), (32, type), (48, session), (80, counter)]), body := body }
/-- A request message. -/
def request (op index sub off len total : Nat) (payload : List Byte) : List Byte :=
  leBytes 24 (word [(0, 9), (16, op), (32, index), (48, sub), (96, off), (128, len), (160, total)]) ++ payload
/-- Session record 2 is open for the operator of slot 0. -/
def opened (s : State) : State :=
  s.setRyc { s.ryc with sess := [(2, { state := .opened, id := 77, rights := 1, credential := 0xFF00 })] }
def trusted (s : State) : State := s.setSec { s.sec with lowerTree := true }
def okIs {ε α : Type} [DecidableEq α] (x : Except ε α) (a : α) : Bool := match x with | .ok b => decide (b = a) | .error _ => false
def errIs {ε α : Type} [DecidableEq ε] (x : Except ε α) (e : ε) : Bool := match x with | .error c => decide (c = e) | .ok _ => false
theorem ok_eq {ε α β : Type} [DecidableEq α] {p : Except ε α × β} {a : α} {b : β} (h : okIs p.1 a = true) (hb : p.2 = b) :
    p = (.ok a, b) := by
  obtain ⟨x, y⟩ := p
  cases x with
  | error c => exact absurd h (by simp [okIs])
  | ok c => simp only [okIs, decide_eq_true_eq] at h; simp_all
theorem err_eq {ε α β : Type} [DecidableEq ε] {p : Except ε α × β} {e : ε} {b : β} (h : errIs p.1 e = true) (hb : p.2 = b) :
    p = (.error e, b) := by
  obtain ⟨x, y⟩ := p
  cases x with
  | ok c => exact absurd h (by simp [errIs])
  | error c => simp only [errIs, decide_eq_true_eq] at h; simp_all
theorem some_eq {α β : Type} {p : Option α × β} {d : α} (h : p.1.isSome = true) : p = (some (p.1.getD d), p.2) := by
  obtain ⟨x, y⟩ := p
  cases x with
  | none => exact absurd h (by simp)
  | some c => rfl
def isOk {ε α : Type} (x : Except ε α) : Bool := match x with | .ok _ => true | .error _ => false
def getOk {ε α : Type} (x : Except ε α) (d : α) : α := match x with | .ok a => a | .error _ => d
theorem ok_get {ε α β : Type} {p : Except ε α × β} {d : α} (h : isOk p.1 = true) : p = (.ok (getOk p.1 d), p.2) := by
  obtain ⟨x, y⟩ := p
  cases x with
  | error c => exact absurd h (by simp [isOk])
  | ok c => rfl
/-- A store of no byte at the base of the stack is granted. -/
theorem stack_store (x : Comp) : x.causeOf (.store (imageExtent x.digest 3).1 []) = 0 := by
  simp [Comp.causeOf, Comp.guarded, Comp.writable, extentHolds]
theorem ok_pair {ε α γ β : Type} {p : Except ε (α × γ) × β} {d : α × γ} (h : isOk p.1 = true) :
    p = (.ok ((getOk p.1 d).1, (getOk p.1 d).2), p.2) := ok_get h
theorem pair_eq {α β : Type} {p : α × β} : p = (p.1, p.2) := rfl
theorem triple_eq {α β γ : Type} {p : α × β × γ} : p = (p.1, p.2.1, p.2.2) := rfl
theorem leastOf {o : Option OdRow} {n : Nat} {r : OdRow} (hr : o = some r)
    (h : o.map (fun r => decide (n ≤ r.ty.largest)) = some true) : n ≤ r.ty.largest := by
  subst hr; exact of_decide_eq_true (Option.some.inj h)

/-! ### The worked examples of the spec -/

/-- The worked example of 04_number_formats: 30.0, 1.1, −3.0 and 0.2 in one MXFP4 block, 1.1 and 0.2 as the nearest
FP32 values. -/
def exampleBlock : List (XVal × Round) :=
  (.fin false 30 0, .nearest) :: (.fin false 9227469 (-23), .nearest) :: (.fin true 3 0, .nearest)
    :: (.fin false 13421773 (-26), .nearest) :: List.replicate 28 (.fin false 0 0, .nearest)

/-- Its first column: the floor rule. -/
theorem test_block_floor : encodeBlock 8 0 exampleBlock =
    (0x81, [0x7, 0x1, 0xA, 0x0] ++ List.replicate 28 0, flSat) := by decide +kernel

/-- Its second column: the no-saturation rule. -/
theorem test_block_no_saturation : encodeBlock 8 1 exampleBlock =
    (0x82, [0x6, 0x0, 0x9, 0x0] ++ List.replicate 28 0, 0) := by decide +kernel

/-- The worked example of R199–R202: a block header of Kraft sum 1, and the stream of bytes 0x10 and 0x9A. -/
theorem test_coded_block : kraft (codeLengths 0x6665543666555422) = 2 ^ 15
    ∧ (nibbles (canonical (codeLengths 0x6665543666555422)) (bitsOf [0xD8, 0x01]) 0 0 4 []).map pairUp
      = some [0x10, 0x9A] := by decide +kernel

/-- The worked example of R240: step 1.5, output row 0 lies a quarter past source row 0 (32,768 of 131,072). -/
theorem test_resample_row : srcPos 0 0x18000 = (0, 32768) := by decide +kernel

/-- The worked example of 11_firmware: HELLO at version 2.3 with tag 0x1234 as received, and bits [191:64] of the
reply of a kernel at version 2.5. -/
theorem test_hello_reply :
    mgType (0x02030001002200001234000080000000 * 2 ^ 64) = 1 ∧ mgMinor (0x02030001002200001234000080000000 * 2 ^ 64) = 3
    ∧ mgTag (0x02030001002200001234000080000000 * 2 ^ 64) = 0x1234
    ∧ fld (replyMessage 0x0205 0 (0x02030001002200001234000080000000 * 2 ^ 64) 0 false State.reset.helloBody).toNat 64 128
      = 0x02050001001000001234000190000000 := by decide +kernel

/-- The worked example of 15_events: source 300 of the east die at priority 4 reads 0x212C from claim. -/
theorem test_claim_word : claimWord (4, 0, 300) = 0x212C := by decide +kernel

/-- The worked example of 17_reliability: cores 0 and 3 of the east die with their ageing, a slope of 0.001 % a day,
and core 8 as the one spare left. -/
def worn : State :=
  let days (now : Int) : List (Nat × Int) := (upto 8).map (fun (i : Nat) => (40 - i, now - (i : Int)))
  (((ready.updCore 0 (fun c => { c with ageing := 1200 })).updCore 3 (fun c => { c with ageing := 2100 })).setRel
    { ready.rel with day := 40, daily := [(0, days 1200), (3, days 2100)] })

/-- Its rows of cores 0 and 3, and the second smallest of the group. -/
theorem test_predicted_end_of_life :
    worn.unitPeol 0 0 = 1300 ∧ worn.unitPeol 0 3 = 400 ∧ worn.groupPeol 0 0 = 1300 := by decide +kernel

/-- And core 3's ceiling: 1,100 − 25 × 4 MHz. -/
theorem test_wear_ceiling : wearCeiling 2100 = 1000 ∧ wearCeiling 2500 = 975 := by decide +kernel

/-- The worked example of 14_time: the raw interval of 250,000,500 cycles gives +2 ppm, and corrections of −100 ppm and
−48 ppm follow phases of 340 µs and 46 µs. −48 ppm lies between −206,159 and −206,158 units of 2⁻³². -/
theorem test_rate_correction :
    (freqOf [250000500]).1 * 1000000 = 2 * (freqOf [250000500]).2 ∧ rateOf false (2, 1000000) 340000 = -429496
    ∧ rateOf false (2, 1000000) 46000 = -206159 ∧ rateOf true (2, 1000000) 46000 = -206158 := by decide +kernel

/-- The example of the index windows: the window of partition 5 starts at 0x3A00. -/
theorem test_partition_window : wIx 5 0 = 0x3A00 := by decide +kernel

/-- The claim stack of the worked example of 15_events: core 3 handles priority 6 and completes it; a second complete of
6, with 4 on the stack, is discarded. -/
theorem test_complete_order :
    (((ready.putIrq 3 { stack := [6] }).completeIrq 3 6).irq 3).stack = []
    ∧ (((ready.putIrq 3 { stack := [4] }).completeIrq 3 6).irq 3).stack = [4] := by decide +kernel

/-- R167's example limit: code 1 is 10 µs, 2,500 counts of 4 ns. -/
theorem test_limit_code : limitOf 1 = 2500 := by decide +kernel

/-! ### The queue of commands and the host's helpers -/

/-- A command at the front runs and leaves the rest waiting; an empty queue runs one TIME cycle. -/
theorem test_step :
    step (ready.setPending [.inputSensorFault, .wearCommit]) =
      exec .inputSensorFault ((ready.setPending [.inputSensorFault, .wearCommit]).setPending [.wearCommit])
    ∧ step ready = .next ready.tick ∧ ready.tick.time.raw = 1 := ⟨rfl, rfl, by decide +kernel⟩

/-- The rows give no bits, so no word spells a command. -/
theorem test_no_words : decodeTableWord 0 0 = none ∧ State.reset.withFetchWord 0 0 = State.reset := ⟨rfl, rfl⟩

/-! ### WellFormed: each check refuses a term -/

/-- One ill-formed command for each check. -/
def illFormed : List Instr :=
  [.softStartComplete { slotA := 256 }, .trayResetRelease { slotB := 256 }, .runtimeLoadOverrun { runtime := 4 },
    .returnToService { runtime := 8 }, .stageArm { sparesPass := [0] }, .warmReset 256 {}, .warmReset 1 { slotA := 256 },
    .presenceBreak 0 48000 ⟨51, []⟩, .residueMismatch 0 0 3 0 0 0 5000, .componentFault 0 1 ⟨.load 0 0, true⟩,
    .componentFault 0 1 ⟨.store 0 [], true⟩, .thermalStop ⟨0, [0]⟩, .inputLoss 0 ⟨0, [12]⟩, .inputBelow36V 0 ⟨0, [3, 3]⟩,
    .inputOvervoltage 0 ⟨0, [0]⟩, .inputOvercurrent 0 ⟨0, [12]⟩, .firmwareCoreFailure 0 ⟨0, []⟩, .firmwareCoreFailure 0 ⟨4, []⟩, .reloadRuntime 4, .reloadRuntime 8,
    .portLinkUp 2 [], .runDiagnostics 0 [⟨0, 0, 0⟩], .frameReceive 0 [] true, .debugDataWrite [], .chunk [],
    .bundleRegister ⟨0, 0, 0, []⟩, .mailboxAssign (.queue 0) [0], .credentialWrite ⟨0x3010, 1, []⟩ true,
    .registerWrite (.odEntry ⟨0x2200, 5, []⟩ true), .registerWrite (.moduleRegion 0 []),
    .registerWrite (.mailboxTaken 0 0 0), .registerWrite (.mailboxTaken 0 0 33)]

theorem test_well_formed_refuses : illFormed.all (fun i => !i.wellFormed) = true := by decide +kernel

/-- An aperture access of no byte, read or written. -/
theorem test_well_formed_refuses_access (die : Die) (core : BitVec 3) (addr : BitVec 48) :
    Instr.wellFormed (.apertureAccess die core addr (.load 0)) = false
    ∧ Instr.wellFormed (.apertureAccess die core addr (.store [])) = false := ⟨rfl, rfl⟩

/-- A command within every range passes. -/
theorem test_well_formed_accepts : Instr.wellFormed (.softStartComplete {}) = true
    ∧ Instr.wellFormed (.registerWrite (.mailboxTaken 0 0 32)) = true := by decide +kernel

/-! ### The hypotheses of the two invariants met -/

/-- The servo at −100 ppm, one TIME cycle. -/
theorem test_met_TimebaseInvariant : ∃ s t : State, RateBound s ∧ step s = .next t ∧ s.pending = [] ∧ s.mode ≠ .off :=
  ⟨ready.setTime { ready.time with rate := -429496 }, (ready.setTime { ready.time with rate := -429496 }).tick,
    ⟨by decide +kernel, by decide +kernel⟩, rfl, rfl, by decide +kernel⟩

/-- Slice 95 withdrawn, and a step that runs another command. -/
theorem test_met_WithdrawnInvariant : ∃ (s t : State) (n : Nat), step s = .next t ∧ hasNat s.withdrawn n = true ∧ WithdrawnOk s
    ∧ (∀ (die : Die) (slice : Fin 48) (rest : List Instr), s.pending ≠ .sliceFailure die slice :: rest) :=
  ⟨ready.setWithdrawn [95], (ready.setWithdrawn [95]).tick, 95, rfl, rfl,
    ⟨rfl, fun n h => by
      have h' : hasNat [95] n = true := h
      simp only [hasNat] at h'
      split at h'
      · omega
      · split at h' <;> cases h'⟩,
    fun _ _ _ h => by cases h⟩


/-! ### The hypotheses of the obligations met -/

/-- 2 witnesses of the hypotheses of Obligations.StepRunsFront. -/
theorem test_met_StepRunsFront :
    (∃ (s : State) (c : Instr) (rest : List Instr), s.pending = c :: rest) ∧ (∃ (s : State), s.pending = []) :=
  ⟨⟨ready.setPending [.ppsPulse], .ppsPulse, [], by decide +kernel⟩, ⟨ready, by decide +kernel⟩⟩

/-- 1 witness of the hypotheses of Obligations.ResetValues. -/
theorem test_met_ResetValues :
    (∃ (p : Nat), p < 6) :=
  ⟨5, by decide +kernel⟩

/-- 7 witnesses of the hypotheses of Obligations.TrayInsertion. -/
theorem test_met_TrayInsertion :
    (∃ (s : State) (mv : Nat), s.tray.phase = .unpowered ∧ 28000 ≤ mv) ∧ (∃ (s : State), (s.tray.phase = .waitPresence ∨
    s.tray.phase = .switchOpen ∧ (s.tray.present1 = false ∨ s.tray.present2 = false))) ∧ (∃ (s : State), (s.tray.phase
    = .waitPresence ∨ s.tray.phase = .switchOpen ∧ (s.tray.present1 = false ∨ s.tray.present2 = false))) ∧ (∃ (s :
    State) (inlet : Int), s.tray.phase = .waitInlet ∧ 200 ≤ inlet) ∧ (∃ (s : State), s.tray.phase = .softStart) ∧ (∃
    (s : State), s.tray.phase = .waitPresence ∧ s.tray.connectorRecorded = false) ∧ (∃ (s : State),
    s.tray.connectorRecorded = true) :=
  ⟨⟨atPhase .unpowered, 28000, by decide +kernel⟩, ⟨atPhase .waitPresence, by decide +kernel⟩, ⟨(atPhase
    .switchOpen).setTray { (atPhase .switchOpen).tray with openCause := some .withdrawn, present2 := false },
    by decide +kernel⟩, ⟨atPhase .waitInlet, 200, by decide +kernel⟩, ⟨atPhase .softStart, by decide +kernel⟩,
    ⟨atPhase .waitPresence, by decide +kernel⟩, ⟨(atPhase .waitPresence).setTray
    { (atPhase .waitPresence).tray with connectorRecorded := true }, by decide +kernel⟩⟩

/-- 6 witnesses of the hypotheses of Obligations.TrayStops. -/
theorem test_met_TrayStops :
    (∃ (s : State) (pins : BitVec 2), s.tray.phase = .on ∧ pins ≠ 0) ∧ (∃ (s : State) (mv : Nat) (us : Nat), s.tray.phase
    = .on ∧ 61000 < mv ∧ 50 ≤ us) ∧ (∃ (s : State) (ma : Nat) (us : Nat), s.tray.phase = .on ∧ (40000 < ma ∨ 22000 <
    ma ∧ 100 ≤ us)) ∧ (∃ (s : State) (ma : Nat) (us : Nat), s.tray.phase = .on ∧ (40000 < ma ∨ 22000 < ma ∧ 100 ≤ us))
    ∧ (∃ (s : State), s.tray.phase = .on) ∧ (∃ (s : State) (mv : Nat), s.tray.phase = .on ∧ s.mode ≠ .off ∧ mv <
    36000) :=
  ⟨⟨ready, 1, by decide +kernel⟩, ⟨ready, 61001, 50, by decide +kernel⟩, ⟨ready, 40001, 0, by decide +kernel⟩, ⟨ready,
    22001, 100, by decide +kernel⟩, ⟨ready, by decide +kernel⟩, ⟨ready, 35999, by decide +kernel⟩⟩

/-- 10 witnesses of the hypotheses of Obligations.TrayResetAndInputs. -/
theorem test_met_TrayResetAndInputs :
    (∃ (s : State), s.tray.phase = .on ∧ s.tray.resetLow = false ∧ s.rst.due = none ∧ s.rst.recorded = false) ∧ (∃ (s :
    State), (s.tray.phase = .on ∨ s.tray.phase = .heldOff) ∧ s.tray.resetLow = true) ∧ (∃ (s : State), (s.tray.phase =
    .on ∨ s.tray.phase = .heldOff) ∧ s.tray.resetLow = true) ∧ (∃ (s : State), s.tray.phase = .on ∧ s.tray.resetLow =
    true ∧ s.tray.heldRecorded = false) ∧ (∃ (s : State) (mv : Nat), s.tray.phase = .switchOpen ∧ s.tray.present1 =
    true ∧ s.tray.present2 = true ∧ 40000 ≤ mv ∧ mv ≤ 60000 ∧ s.tray.openCause ≠ some .overcurrent ∧ (mv ≤ 59000 ∨
    s.tray.openCause ≠ some .overvoltage)) ∧ (∃ (s : State) (mv : Nat), s.tray.phase = .switchOpen ∧ s.tray.present1 =
    true ∧ s.tray.present2 = true ∧ 40000 ≤ mv ∧ mv ≤ 60000 ∧ s.tray.openCause ≠ some .overcurrent ∧ (mv ≤ 59000 ∨
    s.tray.openCause ≠ some .overvoltage)) ∧ (∃ (s : State) (mv : Nat), s.tray.phase = .switchOpen ∧ s.tray.openCause
    = some .overcurrent ∧ mv < 20000) ∧ (∃ (s : State) (mv : Nat), mv < 40000 ∧ s.mode ≠ .off ∧ s.asleep = false ∧
    (s.trig 6).asserted = false) ∧ (∃ (s : State), s.mode ≠ .off ∧ s.asleep = false ∧ (s.trig 6).asserted = false) ∧
    (∃ (s : State), s.mode ≠ .off ∧ s.asleep = false ∧ (s.trig 2).asserted = false) :=
  ⟨⟨settled ready, by decide +kernel⟩, ⟨ready.setTray { ready.tray with resetLow := true }, by decide +kernel⟩,
    ⟨(atPhase .heldOff).setTray { (atPhase .heldOff).tray with resetLow := true }, by decide +kernel⟩, ⟨ready.setTray
    { ready.tray with resetLow := true }, by decide +kernel⟩, ⟨(atPhase .switchOpen).setTray
    { (atPhase .switchOpen).tray with openCause := some .inputLow }, 40000, by decide +kernel⟩, ⟨(atPhase
    .switchOpen).setTray { (atPhase .switchOpen).tray with openCause := some .overvoltage }, 59000,
    by decide +kernel⟩, ⟨(atPhase .switchOpen).setTray
    { (atPhase .switchOpen).tray with openCause := some .overcurrent }, 19999, by decide +kernel⟩, ⟨ready, 39999,
    by decide +kernel⟩, ⟨ready, by decide +kernel⟩, ⟨ready, by decide +kernel⟩⟩

/-- 6 witnesses of the hypotheses of Obligations.PulseServo. -/
theorem test_met_PulseServo :
    (∃ (s : State) (r : Nat), s.timeRuns = true ∧ s.time.reference = some r ∧ 249950000 ≤ s.time.raw - r ∧ s.time.raw - r
    ≤ 250050000) ∧ (∃ (s : State) (r : Nat), s.timeRuns = true ∧ s.time.reference = some r ∧ (s.time.raw - r <
    249950000 ∨ 250050000 < s.time.raw - r)) ∧ (∃ (s : State), s.timeRuns = true ∧ s.time.reference = none) ∧ (∃ (s :
    State), s.timeRuns = true ∧ (s.time.pps = .locked ∨ s.time.pps = .slewing)) ∧ (∃ (s : State), s.timeRuns = true ∧
    (s.time.pps = .locked ∨ s.time.pps = .slewing)) ∧ (∃ (s : State), s.timeRuns = true ∧ (s.time.pps = .locked ∨
    s.time.pps = .slewing) ∧ s.time.recent s.time.lastAccepted = none) :=
  ⟨⟨ready.setTime { ready.time with raw := 249951000, lastPassed := some 1000, lastAccepted := some 1000 }, 1000,
    by decide +kernel⟩, ⟨ready.setTime
    { ready.time with raw := 249950999, lastPassed := some 1000, lastAccepted := some 1000 }, 1000,
    by decide +kernel⟩, ⟨ready, by decide +kernel⟩, ⟨ready.setTime { ready.time with pps := .locked },
    by decide +kernel⟩, ⟨ready.setTime { ready.time with pps := .slewing }, by decide +kernel⟩, ⟨ready.setTime
    { ready.time with pps := .locked }, by decide +kernel⟩⟩

/-- 7 witnesses of the hypotheses of Obligations.LinkAndClockFailures. -/
theorem test_met_LinkAndClockFailures :
    (∃ (s : State), s.diesOn = true) ∧ (∃ (s : State), s.diesOn = true) ∧ (∃ (s : State), s.diesOn = true ∧ s.mode ≠
    .refused ∧ s.d2dFails.1 = 15 ∧ s.rst.due = none ∧ s.rst.running = none) ∧ (∃ (s : State), s.diesOn = true ∧ s.mode
    ≠ .refused ∧ s.rst.due = none ∧ s.rst.running = none) ∧ (∃ (s : State) (domain : Fin 18), s.diesOn = true ∧ s.mode
    ≠ .refused ∧ 1 ≤ domain.val ∧ domain.val ≤ 4 ∧ s.rst.due = none ∧ s.rst.running = none) ∧ (∃ (s : State) (unit :
    Nat), s.diesOn = true ∧ s.rst.due = none ∧ s.rst.running = none ∧ (s.core (unit % 18)).role = .inService ∧
    s.coreOwner (unit % 18) = none) ∧ (∃ (s : State) (domain : Fin 18), s.diesOn = true ∧ 7 ≤ domain.val) :=
  ⟨⟨ready, by decide +kernel⟩, ⟨ready, by decide +kernel⟩, ⟨(settled ready).setD2dFails (15, 0), by decide +kernel⟩,
    ⟨settled ready, by decide +kernel⟩, ⟨settled ready, 4, by decide +kernel⟩, ⟨settled ready, 3, by decide +kernel⟩,
    ⟨settled ready, 17, by decide +kernel⟩⟩

/-- 6 witnesses of the hypotheses of Obligations.UnitFailures. -/
theorem test_met_UnitFailures :
    (∃ (s : State) (core : BitVec 4), s.diesOn = true ∧ hasNat s.fw.appOffline core.toNat = false) ∧ (∃ (s : State) (core
    : BitVec 4), hasNat s.fw.appOffline core.toNat = true) ∧ (∃ (s : State) (die : Die), s.diesOn = true ∧ hasNat
    s.fw.samplerDown die.toNat = false) ∧ (∃ (s : State), s.diesOn = true ∧ s.sec.eastOk = true) ∧ (∃ (s : State),
    s.diesOn = true ∧ s.sec.westOk = true) ∧ (∃ (s : State) (die : Die) (slice : Fin 48), s.diesOn = true ∧ hasNat
    s.withdrawn (48 * die.toNat + slice.val) = false) :=
  ⟨⟨ready, 15, by decide +kernel⟩, ⟨ready.setFw { ready.fw with appOffline := [15] }, 15, by decide +kernel⟩, ⟨ready, 1,
    by decide +kernel⟩, ⟨ready, by decide +kernel⟩, ⟨ready, by decide +kernel⟩, ⟨ready, 1, 47, by decide +kernel⟩⟩

/-- 6 witnesses of the hypotheses of Obligations.FirmwareFaults. -/
theorem test_met_FirmwareFaults :
    (∃ (s : State) (die : Die) (comp : BitVec 4) (event : CompEvent), s.firmwareUp = true ∧ s.mode ≠ .refused ∧ (s.comp
    die.toNat comp.toNat).causeOf event ≠ 0 ∧ comp.toNat ≤ 1 ∧ (s.comp die.toNat comp.toNat).state = .running ∧
    s.rst.due = none ∧ s.rst.running = none) ∧ (∃ (s : State) (die : Die) (comp : BitVec 4) (a : Nat) (bs : List
    Byte), s.firmwareUp = true ∧ (s.comp die.toNat comp.toNat).state = .running ∧ (s.comp die.toNat
    comp.toNat).causeOf (.store a bs) = 0) ∧ (∃ (s : State) (die : Die) (comp : BitVec 4) (event : CompEvent),
    s.firmwareUp = true ∧ (s.comp die.toNat comp.toNat).causeOf event ≠ 0 ∧ 2 ≤ comp.toNat ∧ (s.comp die.toNat
    comp.toNat).state = .running) ∧ (∃ (s : State) (die : Die) (comp : BitVec 4), s.firmwareUp = true ∧ (s.comp
    die.toNat comp.toNat).state = .running ∧ (s.comp die.toNat comp.toNat).lastOverrun = none) ∧ (∃ (s : State) (die :
    Die) (comp : BitVec 4) (t0 : Nat), s.firmwareUp = true ∧ (s.comp die.toNat comp.toNat).state = .running ∧ (s.comp
    die.toNat comp.toNat).lastOverrun = some t0 ∧ s.now ≤ t0 + 250000000) ∧ (∃ (s : State) (core : BitVec 3) (trigger
    : Nat), s.mode = .train ∧ s.noBoot = false ∧ 1 ≤ trigger ∧ trigger ≤ 3 ∧ hasNat s.fw.fwOffline core.toNat = false) :=
  ⟨⟨settled (running ready [17]), 1, 1, .poison, by decide +kernel⟩, ⟨ready.setFw
    { ready.fw with comps := [(2, { state := .running, digest := 5 })] }, 0, 2, (imageExtent 5 3).1, [],
    by decide +kernel, by decide +kernel, stack_store _⟩, ⟨running ready [2], 0, 2, .illegal, by decide +kernel⟩,
    ⟨running ready [2], 0, 2, by decide +kernel⟩, ⟨late (ready.setFw
    { ready.fw with comps := [(2, { state := .running, lastOverrun := some 1 })] }) 250000001, 0, 2, 1,
    by decide +kernel⟩, ⟨up .train, 7, 3, by decide +kernel⟩⟩

/-- 8 witnesses of the hypotheses of Obligations.DroopAndPatrol. -/
theorem test_met_DroopAndPatrol :
    (∃ (s : State) (n : CoreId), s.asleep = false ∧ (s.core n.val).gated = false ∧ (s.core n.val).role = .inService ∧ 600
    < s.arrMhz n.val) ∧ (∃ (s : State) (n : CoreId), s.asleep = false ∧ (s.core n.val).gated = false ∧ (s.core
    n.val).role = .inService ∧ s.arrMhz n.val ≤ 600) ∧ (∃ (s : State) (n : CoreId), (s.core n.val).lastTrip + 2500 ≤
    s.now ∧ (s.core n.val).lastRise + 2500 ≤ s.now ∧ (s.core n.val).gated = false ∧ (s.core n.val).droopMhz < 1100) ∧
    (∃ (s : State) (n : CoreId), (s.core n.val).lastTrip + 2500 ≤ s.now ∧ (s.core n.val).lastRise + 2500 ≤ s.now ∧
    (s.core n.val).gated = true) ∧ (∃ (s : State) (n : CoreId), (s.core n.val).gated = true ∧ (s.core n.val).lastTrip
    + 250000 ≤ s.now ∧ s.coreResetOk n.val = true) ∧ (∃ (s : State), s.spadUpsets = [] ∧ s.ecc = []) ∧ (∃ (s : State)
    (n : CoreId), s.spadUpsets = [] ∧ s.ecc = [] ∧ s.asleep = false ∧ (s.core n.val).role = .inService) ∧ (∃ (s :
    State) (n : CoreId) (bits : Fin 72), s.spadUpsets = [] ∧ s.ecc = [] ∧ s.asleep = false ∧ (s.core n.val).role =
    .inService ∧ 0 < bits.val) :=
  ⟨⟨ready.setCores [(17, { droopMhz := 1100 })], 17, by decide +kernel⟩, ⟨ready.setCores [(0, { droopMhz := 600 })], 0,
    by decide +kernel⟩, ⟨late (ready.setCores [(0, { droopMhz := 600 })]) 2500, 0, by decide +kernel⟩, ⟨late
    (ready.setCores [(0, { gated := true })]) 2500, 0, by decide +kernel⟩, ⟨late (settled (ready.setCores [(0,
    { gated := true })])) 250000, 0, by decide +kernel⟩, ⟨ready, by decide +kernel⟩, ⟨ready, 0, by decide +kernel⟩,
    ⟨ready, 0, 71, by decide +kernel⟩⟩

/-- 9 witnesses of the hypotheses of Obligations.CoreTestsAndResets. -/
theorem test_met_CoreTestsAndResets :
    (∃ (s : State) (n : CoreId), s.asleep = false ∧ (s.core n.val).role = .inService ∧ s.coreBusy n.val = false) ∧ (∃ (s :
    State) (n : CoreId), (s.core n.val).role = .selfTest) ∧ (∃ (s : State) (n : CoreId) (failed : Nat), (s.core
    n.val).role = .selfTest ∧ failed ≠ 0) ∧ (∃ (s : State) (column : BitVec 8), s.asleep = false ∧ column.toNat < 128)
    ∧ (∃ (s : State) (n : CoreId), s.coreResetOk n.val = true) ∧ (∃ (s : State) (n : CoreId), (s.core n.val).role =
    .resetting ∧ (s.core n.val).requalBank = none) ∧ (∃ (s : State) (n : CoreId) (failed : Nat), (s.core n.val).role =
    .resetting ∧ (s.core n.val).requalBank = none ∧ failed ≠ 0) ∧ (∃ (s : State) (n : CoreId) (b : Nat) (bs : List
    Nat), s.swapOk n.val = true ∧ (s.core n.val).role = .retired ∧ s.spareCores (dieOfCore n.val) = b :: bs) ∧ (∃ (s :
    State), s.odGet 0x2750 4 = 1 ∧ s.odGet 0x2750 5 < 18 ∧ (s.core (s.odGet 0x2750 5)).role = .retired ∧ (s.core
    (s.odGet 0x2750 5)).limitRetired = false ∧ (s.core (s.odGet 0x2750 5)).returns < 2) :=
  ⟨⟨ready, 0, by decide +kernel⟩, ⟨ready.setCores [(0, { role := .selfTest })], 0, by decide +kernel⟩, ⟨ready.setCores
    [(0, { role := .selfTest })], 0, 1, by decide +kernel⟩, ⟨ready, 127, by decide +kernel⟩, ⟨settled ready, 0,
    by decide +kernel⟩, ⟨ready.setCores [(0, { role := .resetting })], 0, by decide +kernel⟩, ⟨ready.setCores [(0,
    { role := .resetting })], 0, 1, by decide +kernel⟩, ⟨ready.setCores [(0, { role := .retired }), (8,
    { role := .spare })], 0, 8, [], by decide +kernel⟩, ⟨(ready.setCores [(17, { role := .retired })]).setOd [(odKey
    0x2750 4, 1), (odKey 0x2750 5, 17)], by decide +kernel⟩⟩

/-- 3 witnesses of the hypotheses of Obligations.IntegerReduction. -/
theorem test_met_IntegerReduction :
    (∃ (f : Nat) (g : Nat) (xs : List (Nat × Nat)) (init : Int), ((f = 10 ∨ f = 11)) ∧ ((g = 10 ∨ g = 11)) ∧ xs.length ≤ 2
    ^ 24 ∧ -2147483648 ≤ init ∧ init ≤ 2147483647) ∧ (∃ (f : Nat) (g : Nat) (xs : List (Nat × Nat)) (ys : List (Nat ×
    Nat)), ((f = 10 ∨ f = 11)) ∧ ((g = 10 ∨ g = 11)) ∧ xs.Perm ys) ∧ (∃ (d : Nat) (count : Nat), mmFormats d count =
    0) :=
  ⟨⟨10, 11, [(1,2)], -2147483648, by decide +kernel⟩, ⟨10, 10, [(1,2)], [(1,2)], by decide +kernel, by decide +kernel,
    List.Perm.refl _⟩, ⟨word [(112,10),(176,11)], 16777216, by decide +kernel⟩⟩

/-- 9 witnesses of the hypotheses of Obligations.CommandPortDescriptors. -/
theorem test_met_CommandPortDescriptors :
    (∃ (s : State) (q : QueueId) (n : Nat) (d : Nat), s.atCore q.toNat 1 = some (n, d) ∧ dOpcode d = 0x10 ∧ mmCheck d
    (s.core n).held ≠ 0) ∧ (∃ (s : State) (q : QueueId) (n : Nat) (d : Nat), s.atCore q.toNat 1 = some (n, d) ∧
    dOpcode d = 0x10 ∧ mmCheck d (s.core n).held = 0 ∧ s.spadUpsets = [] ∧ (s.core n).inject = none ∧ (mmRun (s.core
    n).spad (s.core n).held (s.queue q.toNat).seed.toNat d).pieces.any (·.bad) = false) ∧ (∃ (s : State) (q : QueueId)
    (n : Nat) (d : Nat), s.atCore q.toNat 1 = some (n, d) ∧ dOpcode d = 0x18 ∧ voCheck d ≠ 0) ∧ (∃ (s : State) (q :
    QueueId) (n : Nat) (d : Nat), s.atCore q.toNat 1 = some (n, d) ∧ dOpcode d = 0x18 ∧ voCheck d = 0 ∧ s.spadUpsets =
    [] ∧ (voRun (s.core n).spad (s.queue q.toNat).seed.toNat d).pieces.any (·.bad) = false) ∧ (∃ (s : State) (q :
    QueueId) (n : Nat) (d : Nat), s.atCore q.toNat 1 = some (n, d) ∧ dOpcode d = 0x11 ∧ cvCheck d (s.core n).held ≠ 0)
    ∧ (∃ (s : State) (q : QueueId) (n : Nat) (d : Nat), s.atCore q.toNat 1 = some (n, d) ∧ dOpcode d = 0x11 ∧ cvCheck
    d (s.core n).held = 0 ∧ s.spadUpsets = [] ∧ (cvRun (s.core n).spad (s.queue q.toNat).seed.toNat d (Config.freeNat
    s.free)).pieces.any (·.bad) = false) ∧ (∃ (s : State) (q : QueueId) (n : Nat) (d : Nat), s.atCore q.toNat 1 = some
    (n, d) ∧ dOpcode d = 0x12 ∧ wnCheck d ≠ 0) ∧ (∃ (s : State) (q : QueueId) (n : Nat) (d : Nat), s.atCore q.toNat 1
    = some (n, d) ∧ dOpcode d = 0x12 ∧ wnCheck d = 0 ∧ s.spadUpsets = [] ∧ (wnRun (s.core n).spad (s.queue
    q.toNat).seed.toNat d (Config.freeNat s.free)).pieces.any (·.bad) = false) ∧ (∃ (s : State) (q : QueueId) (n :
    Nat) (d : Nat), ((s.queue q.toNat).jobIn .waitKv) = none ∧ s.atCore q.toNat 1 = some (n, d) ∧ dOpcode d = 0x14 ∧
    atCheck d (s.core n).held = 0 ∧ atMerge d = true ∧ atZero d = false ∧ s.spadUpsets = [] ∧ (atMergeRun (s.core
    n).spad (s.queue q.toNat).seed.toNat d).pieces.any (·.bad) = false) :=
  ⟨⟨handed 272 [(56, 16), (441, 1)], 0, 16, word [(56, 16), (441, 1)], by decide +kernel⟩, ⟨handed 272 [(56, 16), (64,
    0), (128, 4096), (112, 10), (176, 10), (384, 1), (400, 1), (416, 1), (251, 1), (216, 8192)], 0, 16, word [(56,
    16), (64, 0), (128, 4096), (112, 10), (176, 10), (384, 1), (400, 1), (416, 1), (251, 1), (216, 8192)],
    by decide +kernel⟩, ⟨handed 256 [(56, 24)], 0, 0, word [(56, 24)], by decide +kernel⟩, ⟨handed 256 [(56, 24),
    (120, 1), (64, 0), (88, 4096), (128, 8192), (192, 1), (208, 1)], 0, 0, word [(56, 24), (120, 1), (64, 0), (88,
    4096), (128, 8192), (192, 1), (208, 1)], by decide +kernel⟩, ⟨handed 256 [(56, 17), (510, 1)], 0, 0, word [(56,
    17), (510, 1)], by decide +kernel⟩, ⟨handed 256 [(56, 17), (112, 10), (164, 10), (64, 0), (116, 4096), (168,
    8192), (316, 1), (364, 1), (380, 1), (396, 1), (444, 1), (452, 1), (458, 1), (464, 1), (469, 1), (474, 1), (481,
    1)], 0, 0, word [(56, 17), (112, 10), (164, 10), (64, 0), (116, 4096), (168, 8192), (316, 1), (364, 1), (380, 1),
    (396, 1), (444, 1), (452, 1), (458, 1), (464, 1), (469, 1), (474, 1), (481, 1)], by decide +kernel⟩, ⟨handed 256
    [(56, 18), (116, 15)], 0, 0, word [(56, 18), (116, 15)], by decide +kernel⟩, ⟨handed 256 [(56, 18), (64, 0), (120,
    8192), (268, 1), (316, 1), (332, 1), (348, 1), (380, 1), (388, 1), (394, 1), (400, 1), (405, 1), (410, 1), (417,
    1)], 0, 0, word [(56, 18), (64, 0), (120, 8192), (268, 1), (316, 1), (332, 1), (348, 1), (380, 1), (388, 1), (394,
    1), (400, 1), (405, 1), (410, 1), (417, 1)], by decide +kernel⟩, ⟨handed 256 [(56, 20), (92, 2), (64, 0), (336,
    4096), (144, 8192), (184, 1), (177, 1)], 0, 0, word [(56, 20), (92, 2), (64, 0), (336, 4096), (144, 8192), (184,
    1), (177, 1)], by decide +kernel⟩⟩

/-- 5 witnesses of the hypotheses of Obligations.CopyAndAttention. -/
theorem test_met_CopyAndAttention :
    (∃ (s : State) (q : QueueId) (n : Nat) (d : Nat), s.atCore q.toNat 2 = some (n, d) ∧ (s.queue q.toNat).lentTo = none ∧
    dOpcode d = 0x20 ∧ cpCheck d ≠ 0) ∧ (∃ (s : State) (u : State) (q : QueueId) (n : Nat) (d : Nat), s.atCore q.toNat
    2 = some (n, d) ∧ (s.queue q.toNat).lentTo = none ∧ dOpcode d = 0x20 ∧ cpCheck d = 0 ∧ s.cpSpaces (dieOfCore n)
    (s.queue q.toNat).part d = (true, u) ∧ u.cpBound q.toNat d = true ∧ cpTotal d ≠ 0 ∧ cpToQueue d = false ∧
    cpFromQueue d = false ∧ ((cpDstSpace d = 3 ∨ strideZero (cpRows d) (cpDstStride d) (cpRowBytes d) = false)) ∧
    ((cpReads d = false ∨ cpSrcSpace d = 3 ∨ strideZero (cpRows d) (cpSrcStride d) (cpRowBytes d) = false))) ∧ (∃ (s :
    State) (u : State) (q : QueueId) (n : Nat) (d : Nat), s.atCore q.toNat 2 = some (n, d) ∧ (s.queue q.toNat).lentTo
    = none ∧ dOpcode d = 0x20 ∧ cpCheck d = 0 ∧ s.cpSpaces (dieOfCore n) (s.queue q.toNat).part d = (true, u) ∧
    u.cpBound q.toNat d = true ∧ cpTotal d ≠ 0 ∧ ((cpDstSpace d = 3 ∨ strideZero (cpRows d) (cpDstStride d)
    (cpRowBytes d) = false)) ∧ ((cpReads d = false ∨ cpSrcSpace d = 3 ∨ strideZero (cpRows d) (cpSrcStride d)
    (cpRowBytes d) = false)) ∧ (cpToQueue d = true ∨ cpFromQueue d = true)) ∧ (∃ (s : State) (u : State) (v : State)
    (w : State) (q : QueueId) (n : Nat) (d : Nat) (xs : List KvPage) (x : List KvRow × Bool) (r : Run), (s.queue
    q.toNat).jobIn .waitKv = none ∧ s.atCore q.toNat 1 = some (n, d) ∧ dOpcode d = 0x14 ∧ atCheck d (s.core n).held =
    0 ∧ atMerge d = false ∧ s.atReady q.toNat n d s.now = (some xs, u) ∧ u.atLoad q.toNat n d xs = (x, v) ∧
    v.atCompute q.toNat n d x = (r, w) ∧ r.pieces.any (·.bad) = false) ∧ (∃ (s : State) (q : QueueId) (column : BitVec
    7) (residue : BitVec 2) (tileRow : Nat) (tileCol : Nat) (kchunk : Nat) (n : Nat) (d : Nat), s.atCore q.toNat 1 =
    some (n, d) ∧ dOpcode d = 0x10 ∧ mmCheck d (s.core n).held = 0 ∧ residue ≠ 0 ∧ tileRow < ceilDiv (mmM d) 128 ∧ 128
    * tileCol + column.toNat < mmN d ∧ kchunk < ceilDiv (mmK d) (kChunk (mmBFmt d)) ∧ mmCompared (s.core n).spad
    (s.core n).held d tileRow (128 * tileCol + column.toNat) kchunk (kChunk (mmBFmt d)) = true ∧ (s.core n).inject =
    none ∧ s.spadUpsets = []) :=
  ⟨⟨handed 647 [(56, 32), (416, 1)], 0, 16, word [(56, 32), (416, 1)], by decide +kernel⟩, ⟨handed 519 [(56, 32), (64,
    0), (128, 4096), (192, 64), (216, 1)], ((handed 519 [(56, 32), (64, 0), (128, 4096), (192, 64), (216,
    1)]).cpSpaces 0 0 (word [(56, 32), (64, 0), (128, 4096), (192, 64), (216, 1)])).2, 0, 0, word [(56, 32), (64, 0),
    (128, 4096), (192, 64), (216, 1)], by decide +kernel⟩, ⟨(handed 519 [(56, 32), (64, 0), (128, 5), (176, 3), (192,
    64), (216, 1)]).setQueues [(0, busyQ 519 .handed [(56, 32), (64, 0), (128, 5), (176, 3), (192, 64), (216, 1)]),
    (5, { cls := 1, link0 := 0 })], (State.cpSpaces ((handed 519 [(56, 32), (64, 0), (128, 5), (176, 3), (192, 64),
    (216, 1)]).setQueues [(0, busyQ 519 .handed [(56, 32), (64, 0), (128, 5), (176, 3), (192, 64), (216, 1)]), (5,
    { cls := 1, link0 := 0 })]) 0 0 (word [(56, 32), (64, 0), (128, 5), (176, 3), (192, 64), (216, 1)])).2, 0, 0, word
    [(56, 32), (64, 0), (128, 5), (176, 3), (192, 64), (216, 1)], by decide +kernel⟩, ⟨(handed 256 [(56, 20), (64, 0),
    (88, 1), (370, 1), (96, 4096), (448, 16384), (144, 8192), (184, 1), (177, 1), (192, 1), (240, 1)]), (State.atReady
    (handed 256 [(56, 20), (64, 0), (88, 1), (370, 1), (96, 4096), (448, 16384), (144, 8192), (184, 1), (177, 1),
    (192, 1), (240, 1)]) 0 0 (word [(56, 20), (64, 0), (88, 1), (370, 1), (96, 4096), (448, 16384), (144, 8192), (184,
    1), (177, 1), (192, 1), (240, 1)]) 0).2, (State.atLoad (State.atReady (handed 256 [(56, 20), (64, 0), (88, 1),
    (370, 1), (96, 4096), (448, 16384), (144, 8192), (184, 1), (177, 1), (192, 1), (240, 1)]) 0 0 (word [(56, 20),
    (64, 0), (88, 1), (370, 1), (96, 4096), (448, 16384), (144, 8192), (184, 1), (177, 1), (192, 1), (240, 1)]) 0).2 0
    0 (word [(56, 20), (64, 0), (88, 1), (370, 1), (96, 4096), (448, 16384), (144, 8192), (184, 1), (177, 1), (192,
    1), (240, 1)]) []).2, (State.atCompute (State.atLoad (State.atReady (handed 256 [(56, 20), (64, 0), (88, 1), (370,
    1), (96, 4096), (448, 16384), (144, 8192), (184, 1), (177, 1), (192, 1), (240, 1)]) 0 0 (word [(56, 20), (64, 0),
    (88, 1), (370, 1), (96, 4096), (448, 16384), (144, 8192), (184, 1), (177, 1), (192, 1), (240, 1)]) 0).2 0 0 (word
    [(56, 20), (64, 0), (88, 1), (370, 1), (96, 4096), (448, 16384), (144, 8192), (184, 1), (177, 1), (192, 1), (240,
    1)]) []).2 0 0 (word [(56, 20), (64, 0), (88, 1), (370, 1), (96, 4096), (448, 16384), (144, 8192), (184, 1), (177,
    1), (192, 1), (240, 1)]) (State.atLoad (State.atReady (handed 256 [(56, 20), (64, 0), (88, 1), (370, 1), (96,
    4096), (448, 16384), (144, 8192), (184, 1), (177, 1), (192, 1), (240, 1)]) 0 0 (word [(56, 20), (64, 0), (88, 1),
    (370, 1), (96, 4096), (448, 16384), (144, 8192), (184, 1), (177, 1), (192, 1), (240, 1)]) 0).2 0 0 (word [(56,
    20), (64, 0), (88, 1), (370, 1), (96, 4096), (448, 16384), (144, 8192), (184, 1), (177, 1), (192, 1), (240, 1)])
    []).1).2, 0, 0, (word [(56, 20), (64, 0), (88, 1), (370, 1), (96, 4096), (448, 16384), (144, 8192), (184, 1),
    (177, 1), (192, 1), (240, 1)]), [], (State.atLoad (State.atReady (handed 256 [(56, 20), (64, 0), (88, 1), (370,
    1), (96, 4096), (448, 16384), (144, 8192), (184, 1), (177, 1), (192, 1), (240, 1)]) 0 0 (word [(56, 20), (64, 0),
    (88, 1), (370, 1), (96, 4096), (448, 16384), (144, 8192), (184, 1), (177, 1), (192, 1), (240, 1)]) 0).2 0 0 (word
    [(56, 20), (64, 0), (88, 1), (370, 1), (96, 4096), (448, 16384), (144, 8192), (184, 1), (177, 1), (192, 1), (240,
    1)]) []).1, (State.atCompute (State.atLoad (State.atReady (handed 256 [(56, 20), (64, 0), (88, 1), (370, 1), (96,
    4096), (448, 16384), (144, 8192), (184, 1), (177, 1), (192, 1), (240, 1)]) 0 0 (word [(56, 20), (64, 0), (88, 1),
    (370, 1), (96, 4096), (448, 16384), (144, 8192), (184, 1), (177, 1), (192, 1), (240, 1)]) 0).2 0 0 (word [(56,
    20), (64, 0), (88, 1), (370, 1), (96, 4096), (448, 16384), (144, 8192), (184, 1), (177, 1), (192, 1), (240, 1)])
    []).2 0 0 (word [(56, 20), (64, 0), (88, 1), (370, 1), (96, 4096), (448, 16384), (144, 8192), (184, 1), (177, 1),
    (192, 1), (240, 1)]) (State.atLoad (State.atReady (handed 256 [(56, 20), (64, 0), (88, 1), (370, 1), (96, 4096),
    (448, 16384), (144, 8192), (184, 1), (177, 1), (192, 1), (240, 1)]) 0 0 (word [(56, 20), (64, 0), (88, 1), (370,
    1), (96, 4096), (448, 16384), (144, 8192), (184, 1), (177, 1), (192, 1), (240, 1)]) 0).2 0 0 (word [(56, 20), (64,
    0), (88, 1), (370, 1), (96, 4096), (448, 16384), (144, 8192), (184, 1), (177, 1), (192, 1), (240, 1)]) []).1).1,
    by decide +kernel, by decide +kernel, by decide +kernel, by decide +kernel, by decide +kernel, by decide +kernel,
    pair_eq, pair_eq, by decide +kernel⟩, ⟨handed 256 [(56, 16), (64, 0), (128, 4096), (112, 10), (176, 10), (384, 1),
    (400, 1), (416, 1), (251, 1), (216, 8192)], 0, 0, 1, 0, 0, 0, 0, word [(56, 16), (64, 0), (128, 4096), (112, 10),
    (176, 10), (384, 1), (400, 1), (416, 1), (251, 1), (216, 8192)], by decide +kernel⟩⟩

/-- 4 witnesses of the hypotheses of Obligations.ProducerDoorbell. -/
theorem test_met_ProducerDoorbell :
    (∃ (s : State) (q : QueueId) (word : BitVec 32) (p : PartId), s.firmwareUp = true ∧ fld word.toNat 16 15 = 0 ∧
    (s.queue q.toNat).partition = p ∧ (s.queue q.toNat).cls = 0 ∧ (s.queue q.toNat).state ≠ .disabled ∧ (word.toNat %
    65536 % (s.queue q.toNat).depth + (s.queue q.toNat).depth - (s.queue q.toNat).tail.toNat) % (s.queue
    q.toNat).depth ≠ 0 ∧ (word.toNat % 65536 % (s.queue q.toNat).depth + (s.queue q.toNat).depth - (s.queue
    q.toNat).tail.toNat) % (s.queue q.toNat).depth ≤ (s.queue q.toNat).credits.toNat) ∧ (∃ (s : State) (q : QueueId)
    (word : BitVec 32) (p : PartId), s.firmwareUp = true ∧ fld word.toNat 16 15 = 0 ∧ (s.queue q.toNat).partition = p
    ∧ (s.queue q.toNat).cls = 0 ∧ ((s.queue q.toNat).state = .active ∨ (s.queue q.toNat).state = .paused) ∧ (s.queue
    q.toNat).credits.toNat < (word.toNat % 65536 % (s.queue q.toNat).depth + (s.queue q.toNat).depth - (s.queue
    q.toNat).tail.toNat) % (s.queue q.toNat).depth) ∧ (∃ (s : State) (q : QueueId) (word : BitVec 32) (p : PartId),
    s.firmwareUp = true ∧ fld word.toNat 16 15 = 0 ∧ (s.queue q.toNat).partition = p ∧ (s.queue q.toNat).cls = 0 ∧
    (s.queue q.toNat).state = .fault ∧ (s.queue q.toNat).credits.toNat < (word.toNat % 65536 % (s.queue q.toNat).depth
    + (s.queue q.toNat).depth - (s.queue q.toNat).tail.toNat) % (s.queue q.toNat).depth) ∧ (∃ (s : State) (q :
    QueueId) (word : BitVec 32) (p : PartId), s.firmwareUp = true ∧ fld word.toNat 16 15 = 0 ∧ (s.queue
    q.toNat).partition = p ∧ (s.queue q.toNat).cls = 0 ∧ (s.queue q.toNat).state ≠ .disabled ∧ (word.toNat % 65536 %
    (s.queue q.toNat).depth + (s.queue q.toNat).depth - (s.queue q.toNat).tail.toNat) % (s.queue q.toNat).depth = 0) :=
  ⟨⟨(on0 { partition := 3, state := .active, engine := 256, depthLog2 := 2, credits := 2, tail := 3 }), 0, 1, 3,
    by decide +kernel⟩, ⟨(on0
    { partition := 3, state := .active, engine := 256, depthLog2 := 2, credits := 1, tail := 3 }), 0, 1, 3,
    by decide +kernel⟩, ⟨(on0
    { partition := 3, state := .fault, engine := 256, depthLog2 := 2, credits := 1, tail := 3 }), 0, 1, 3,
    by decide +kernel⟩, ⟨(on0
    { partition := 3, state := .active, engine := 256, depthLog2 := 2, credits := 0, tail := 3 }), 0, 3, 3,
    by decide +kernel⟩⟩

/-- 6 witnesses of the hypotheses of Obligations.ConsumerDoorbellAndDrops. -/
theorem test_met_ConsumerDoorbellAndDrops :
    (∃ (s : State) (q : QueueId) (word : BitVec 32) (p : PartId), s.firmwareUp = true ∧ fld word.toNat 16 15 = 0 ∧
    (s.queue q.toNat).partition = p ∧ 2 ≤ (s.queue q.toNat).cls.toNat ∧ (s.queue q.toNat).state ≠ .disabled ∧
    (word.toNat % 65536 % (s.queue q.toNat).depth + (s.queue q.toNat).depth - (s.queue q.toNat).head.toNat) % (s.queue
    q.toNat).depth ≠ 0 ∧ (word.toNat % 65536 % (s.queue q.toNat).depth + (s.queue q.toNat).depth - (s.queue
    q.toNat).head.toNat) % (s.queue q.toNat).depth ≤ (s.queue q.toNat).occupied) ∧ (∃ (s : State) (q : QueueId) (word
    : BitVec 32) (p : PartId), s.firmwareUp = true ∧ fld word.toNat 16 15 = 0 ∧ (s.queue q.toNat).partition = p ∧
    (s.queue q.toNat).soft = true ∧ (s.queue q.toNat).state ≠ .disabled ∧ (word.toNat % 65536 % (s.queue
    q.toNat).depth + (s.queue q.toNat).depth - (s.queue q.toNat).head.toNat) % (s.queue q.toNat).depth ≠ 0 ∧
    (word.toNat % 65536 % (s.queue q.toNat).depth + (s.queue q.toNat).depth - (s.queue q.toNat).head.toNat) % (s.queue
    q.toNat).depth ≤ (s.queue q.toNat).occupied) ∧ (∃ (s : State) (q : QueueId) (word : BitVec 32) (p : PartId),
    s.firmwareUp = true ∧ fld word.toNat 16 15 = 0 ∧ (s.queue q.toNat).partition = p ∧ 2 ≤ (s.queue q.toNat).cls.toNat
    ∧ (s.queue q.toNat).state = .active ∧ (s.queue q.toNat).occupied < (word.toNat % 65536 % (s.queue q.toNat).depth +
    (s.queue q.toNat).depth - (s.queue q.toNat).head.toNat) % (s.queue q.toNat).depth) ∧ (∃ (s : State) (q : QueueId)
    (word : BitVec 32) (p : PartId), s.firmwareUp = true ∧ ((fld word.toNat 16 15 ≠ 0 ∨ p.toNat ≠ (s.queue
    q.toNat).part ∨ (s.queue q.toNat).state = .disabled ∨ (s.queue q.toNat).cls ≠ 0))) ∧ (∃ (s : State) (q : QueueId)
    (word : BitVec 32) (p : PartId), s.firmwareUp = true ∧ ((fld word.toNat 16 15 ≠ 0 ∨ p.toNat ≠ (s.queue
    q.toNat).part ∨ (s.queue q.toNat).state = .disabled ∨ (s.queue q.toNat).cls = 1 ∨ ((s.queue q.toNat).cls = 0 ∧
    (s.queue q.toNat).kind ≠ 11)))) ∧ (∃ (s : State) (q : QueueId) (word : BitVec 32) (p : PartId), s.firmwareUp =
    true ∧ ((fld word.toNat 16 15 ≠ 0 ∨ p.toNat ≠ (s.queue q.toNat).part ∨ (s.queue q.toNat).state = .disabled ∨
    (s.queue q.toNat).cls = 1 ∨ ((s.queue q.toNat).cls = 0 ∧ (s.queue q.toNat).kind ≠ 11)))) :=
  ⟨⟨(on0 { partition := 3, state := .active, cls := 2, depthLog2 := 2, credits := 2, head := 3 }), 0, 1, 3,
    by decide +kernel⟩, ⟨(on0
    { partition := 3, state := .active, engine := 2816, depthLog2 := 2, credits := 2, head := 3, jobs := [jobOf .handed [], jobOf .handed []] }),
    0, 1, 3, by decide +kernel⟩, ⟨(on0
    { partition := 3, state := .active, cls := 2, depthLog2 := 2, credits := 3, head := 3 }), 0, 1, 3,
    by decide +kernel⟩, ⟨(on0
    { partition := 3, state := .active, engine := 256, depthLog2 := 2, credits := 2, tail := 3 }), 0, 65536, 3,
    by decide +kernel⟩, ⟨(on0
    { partition := 3, state := .active, engine := 256, depthLog2 := 2, credits := 2, tail := 3 }), 0, 0, 2,
    by decide +kernel⟩, ⟨(on0
    { partition := 3, state := .active, engine := 256, depthLog2 := 2, credits := 2, tail := 3 }), 0, 1, 3,
    by decide +kernel⟩⟩

/-- 7 witnesses of the hypotheses of Obligations.DispatchSteps. -/
theorem test_met_DispatchSteps :
    (∃ (s : State) (q : QueueId), (s.queue q.toNat).state = .active ∧ (s.queue q.toNat).cls = 0 ∧ (s.queue q.toNat).lentTo
    = none ∧ s.asleep = false ∧ s.rst.due = none ∧ s.rst.prepared = none ∧ (s.queue q.toNat).mayRead = true ∧ (s.queue
    q.toNat).unread ≠ 0 ∧ s.engineFull q.toNat = false) ∧ (∃ (s : State) (q : QueueId) (js : List Job) (j : Job),
    (s.queue q.toNat).state = .active ∧ (s.queue q.toNat).cls = 0 ∧ ((s.queue q.toNat).lead = 0 ∨ (s.queue
    q.toNat).soft = false) ∧ (s.queue q.toNat).coreOf.all (fun n => (s.core n).role.takes) = true ∧ (s.queue
    q.toNat).lentTo = none ∧ s.asleep = false ∧ s.rst.due = none ∧ s.rst.prepared = none ∧ (s.queue q.toNat).jobs = js
    ++ [j] ∧ j.phase = .waitRecord ∧ j.status = 0 ∧ dWait j.d = 0 ∧ (s.queue q.toNat).link0.toNat ≠ q.toNat ∧ (s.queue
    (s.queue q.toNat).link0.toNat).state ≠ .disabled ∧ (s.queue (s.queue q.toNat).link0.toNat).hasRoom = true) ∧ (∃ (s
    : State) (q : QueueId) (js : List Job) (j : Job), (s.queue q.toNat).state = .active ∧ (s.queue q.toNat).cls = 0 ∧
    (s.queue q.toNat).lentTo = none ∧ s.asleep = false ∧ s.rst.due = none ∧ s.rst.prepared = none ∧ (s.queue
    q.toNat).jobs = js ++ [j] ∧ j.phase = .waitRecord ∧ j.status = 0 ∧ dWait j.d ≠ 0 ∧ (s.queue q.toNat).link0.toNat ≠
    q.toNat ∧ (s.queue (s.queue q.toNat).link0.toNat).state ≠ .disabled ∧ (s.queue (s.queue
    q.toNat).link0.toNat).hasRoom = true ∧ ((s.sem (dWait j.d)).value = 0 ∨ s.semWait.all (fun w => w.1 ≠ dWait j.d) =
    false)) ∧ (∃ (s : State) (q : QueueId) (js : List Job) (j : Job), (s.queue q.toNat).state = .active ∧ (s.queue
    q.toNat).cls = 0 ∧ (s.queue q.toNat).lentTo = none ∧ s.asleep = false ∧ s.rst.due = none ∧ s.rst.prepared = none ∧
    (s.queue q.toNat).jobs = js ++ [j] ∧ j.phase = .waitRecord ∧ j.status ≠ 0 ∧ (s.queue q.toNat).link0.toNat ≠
    q.toNat ∧ (s.queue (s.queue q.toNat).link0.toNat).state ≠ .disabled ∧ (s.queue (s.queue
    q.toNat).link0.toNat).hasRoom = true) ∧ (∃ (s : State) (q : QueueId), (s.queue q.toNat).state ≠ .active) ∧ (∃ (s :
    State) (sem : BitVec 12) (q : Nat), s.semWait.find? (fun w => w.1 = sem.toNat) = some (sem.toNat, q) ∧ (s.sem
    sem.toNat).value ≠ 0) ∧ (∃ (s : State) (sem : BitVec 12), (s.semWait.find? (fun w => w.1 = sem.toNat) = none ∨
    (s.sem sem.toNat).value = 0)) :=
  ⟨⟨(on0 { state := .active, engine := 256, depthLog2 := 2, credits := 3 }), 0, by decide +kernel⟩, ⟨((ready).setQueues
    [(0,
    { state := .active, engine := 1280, depthLog2 := 2, credits := 3, link0 := 7, jobs := [{ jobOf .waitRecord [] with status := 0 }] }),
    (7, { state := .active, cls := 2, depthLog2 := 2, credits := 1 })]), 0, [],
    { jobOf .waitRecord [] with status := 0 }, by decide +kernel⟩, ⟨((ready).setQueues [(0,
    { state := .active, engine := 1280, depthLog2 := 2, credits := 3, link0 := 7, jobs := [{ jobOf .waitRecord [(12, 4095)] with status := 0 }] }),
    (7, { state := .active, cls := 2, depthLog2 := 2, credits := 1 })]), 0, [],
    { jobOf .waitRecord [(12, 4095)] with status := 0 }, by decide +kernel⟩, ⟨((ready).setQueues [(0,
    { state := .active, engine := 1280, depthLog2 := 2, credits := 3, link0 := 7, jobs := [{ jobOf .waitRecord [] with status := 48 }] }),
    (7, { state := .active, cls := 2, depthLog2 := 2, credits := 1 })]), 0, [],
    { jobOf .waitRecord [] with status := 48 }, by decide +kernel⟩, ⟨(on0 { state := .paused }), 0,
    by decide +kernel⟩, ⟨(ready.setSems [(9, { value := 1, owner := some 0 })]).setSemWait [(9, 4)], 9, 4,
    by decide +kernel⟩, ⟨ready.setSemWait [(9, 4)], 9, by decide +kernel⟩⟩

/-- 6 witnesses of the hypotheses of Obligations.Completion. -/
theorem test_met_Completion :
    (∃ (s : State) (q : QueueId) (j : Job) (rest : List Job), (s.queue q.toNat).jobs = j :: rest ∧ j.phase = .finished ∧
    ((j.status ≠ 0 ∧ j.status ≠ 1) ∨ dSignal j.d = 0)) ∧ (∃ (s : State) (q : QueueId) (j : Job) (rest : List Job),
    (s.queue q.toNat).jobs = j :: rest ∧ j.phase = .finished ∧ ((j.status ≠ 0 ∧ j.status ≠ 1) ∨ dSignal j.d = 0)) ∧ (∃
    (s : State) (q : QueueId) (j : Job) (rest : List Job), (s.queue q.toNat).jobs = j :: rest ∧ j.phase = .finished ∧
    (s.queue q.toNat).soft = false) ∧ (∃ (s : State) (q : QueueId) (j : Job) (rest : List Job), (s.queue q.toNat).jobs
    = j :: rest ∧ j.phase = .finished ∧ (j.status = 0 ∨ j.status = 1) ∧ dSignal j.d ≠ 0 ∧ (s.sem (dSignal j.d)).owner
    ≠ none ∧ (s.sem (dSignal j.d)).value ≠ 0xFFFF) ∧ (∃ (s : State) (q : QueueId) (j : Job) (rest : List Job),
    (s.queue q.toNat).jobs = j :: rest ∧ j.phase = .finished ∧ (j.status = 0 ∨ j.status = 1) ∧ dSignal j.d ≠ 0 ∧
    (s.sem (dSignal j.d)).owner ≠ none ∧ (s.sem (dSignal j.d)).value = 0xFFFF ∧ (s.queue q.toNat).state = .active ∧
    (s.queue q.toNat).closing = false) ∧ (∃ (s : State) (q : QueueId) (j : Job) (rest : List Job), (s.queue
    q.toNat).jobs = j :: rest ∧ j.phase = .handed) :=
  ⟨⟨((ready).setQueues [(0,
    { state := .active, engine := 1280, depthLog2 := 2, credits := 3, link0 := 7, reserved := 1, jobs := [{ jobOf .finished [(0, 5)] with status := 48 }] }),
    (7, { state := .active, cls := 2, depthLog2 := 2, credits := 1 })]), 0,
    { jobOf .finished [(0, 5)] with status := 48 }, [], by decide +kernel⟩, ⟨((ready).setQueues [(0,
    { state := .active, engine := 1280, depthLog2 := 2, credits := 3, link0 := 7, reserved := 1, jobs := [{ jobOf .finished [] with status := 0 }] }),
    (7, { state := .active, cls := 2, depthLog2 := 2, credits := 1 })]), 0, { jobOf .finished [] with status := 0 },
    [], by decide +kernel⟩, ⟨((ready).setQueues [(0,
    { state := .active, engine := 1280, depthLog2 := 2, credits := 3, link0 := 7, reserved := 1, jobs := [{ jobOf .finished [] with status := 0 }] }),
    (7, { state := .active, cls := 2, depthLog2 := 2, credits := 1 })]), 0, { jobOf .finished [] with status := 0 },
    [], by decide +kernel⟩, ⟨((ready.setSems [(5, { value := 0xFFFE, owner := some 0 })]).setQueues [(0,
    { state := .active, engine := 1280, depthLog2 := 2, credits := 3, link0 := 7, reserved := 1, jobs := [{ jobOf .finished [(0, 5)] with status := 1 }] }),
    (7, { state := .active, cls := 2, depthLog2 := 2, credits := 1 })]), 0,
    { jobOf .finished [(0, 5)] with status := 1 }, [], by decide +kernel⟩, ⟨((ready.setSems [(5,
    { value := 0xFFFF, owner := some 0 })]).setQueues [(0,
    { state := .active, engine := 1280, depthLog2 := 2, credits := 3, link0 := 7, reserved := 1, jobs := [{ jobOf .finished [(0, 5)] with status := 0 }] }),
    (7, { state := .active, cls := 2, depthLog2 := 2, credits := 1 })]), 0,
    { jobOf .finished [(0, 5)] with status := 0 }, [], by decide +kernel⟩, ⟨handed 1280 [], 0, jobOf .handed [], [],
    by decide +kernel⟩⟩

/-- 7 witnesses of the hypotheses of Obligations.QueueWaits. -/
theorem test_met_QueueWaits :
    (∃ (s : State) (q : QueueId) (j : Job), (s.queue q.toNat).jobIn .waitSem = some j ∧ s.expired j.since (s.waitLimit
    (s.queue q.toNat).timeout.toNat 3) = true) ∧ (∃ (s : State) (q : QueueId) (j : Job), (s.queue q.toNat).jobIn
    .waitSem = some j ∧ s.now < j.since + s.waitLimit (s.queue q.toNat).timeout.toNat 3) ∧ (∃ (s : State) (q :
    QueueId) (j : Job), (s.queue q.toNat).jobIn .waitCredit = some j ∧ s.expired j.since (s.dataLimit q.toNat
    (copyDstQueue j.d) 4) = true) ∧ (∃ (s : State) (q : QueueId) (j : Job), (s.queue q.toNat).jobIn .waitData = some j
    ∧ s.expired j.since (s.dataLimit q.toNat (copySrcQueue j.d) 5) = true) ∧ (∃ (s : State) (q : QueueId) (j : Job),
    (s.queue q.toNat).jobIn .waitRecord = some j ∧ s.expired j.since (s.waitLimit (s.queue q.toNat).timeout.toNat 6) =
    true) ∧ (∃ (s : State) (dq : QueueId) (j : Job) (n : Nat), s.asleep = false ∧ (s.queue (s.queue
    dq.toNat).link1.toNat).jobIn .waitData = some j ∧ (s.queue (s.queue dq.toNat).link1.toNat).coreOf = some n ∧
    copySrcQueue j.d = dq.toNat) ∧ (∃ (s : State) (dq : QueueId) (j : Job) (n : Nat), s.asleep = false ∧ (s.queue
    (s.queue dq.toNat).link0.toNat).jobIn .waitCredit = some j ∧ (s.queue (s.queue dq.toNat).link0.toNat).coreOf =
    some n ∧ copyDstQueue j.d = dq.toNat) :=
  ⟨⟨late (on0
    { state := .active, engine := 1280, depthLog2 := 2, credits := 3, timeout := 1, jobs := [jobOf .waitSem [(12, 9)]] })
    2500, 0, jobOf .waitSem [(12, 9)], by decide +kernel⟩, ⟨late (on0
    { state := .active, engine := 1280, depthLog2 := 2, credits := 3, timeout := 1, jobs := [jobOf .waitSem [(12, 9)]] })
    2499, 0, jobOf .waitSem [(12, 9)], by decide +kernel⟩, ⟨late (on0
    { state := .active, engine := 1280, depthLog2 := 2, credits := 3, timeout := 1, jobs := [jobOf .waitCredit [(128, 5)]] })
    2500, 0, jobOf .waitCredit [(128, 5)], by decide +kernel⟩, ⟨late (on0
    { state := .active, engine := 1280, depthLog2 := 2, credits := 3, timeout := 1, jobs := [jobOf .waitData [(64, 5)]] })
    2500, 0, jobOf .waitData [(64, 5)], by decide +kernel⟩, ⟨late (on0
    { state := .active, engine := 1280, depthLog2 := 2, credits := 3, timeout := 1, jobs := [jobOf .waitRecord []] })
    2500, 0, jobOf .waitRecord [], by decide +kernel⟩, ⟨ready.setQueues [(0, busyQ 519 .waitData [(64, 5), (112, 3)]),
    (5, { cls := 1, link0 := 0, link1 := 0, depthLog2 := 2, credits := 2 })], 5, jobOf .waitData [(64, 5), (112, 3)],
    0, by decide +kernel⟩, ⟨ready.setQueues [(0, busyQ 519 .waitCredit [(128, 5), (176, 3)]), (5,
    { cls := 1, link0 := 0, link1 := 0, depthLog2 := 2, credits := 2 })], 5, jobOf .waitCredit [(128, 5), (176, 3)],
    0, by decide +kernel⟩⟩

/-- 18 witnesses of the hypotheses of Obligations.QueueControl. -/
theorem test_met_QueueControl :
    (∃ (s : State) (q : QueueId), (s.queue q.toNat).state = .disabled ∧ s.contextOk q.toNat = true) ∧ (∃ (s : State) (q :
    QueueId), (s.queue q.toNat).state = .disabled ∧ s.contextOk q.toNat = false) ∧ (∃ (s : State) (q : Nat), ((s.queue
    q).depthLog2.toNat < 2 ∨ 16 < (s.queue q).depthLog2.toNat ∨ 8 ≤ (s.queue q).timeout.toNat)) ∧ (∃ (s : State) (q :
    Nat), ((s.queue q).depthLog2.toNat < 2 ∨ 16 < (s.queue q).depthLog2.toNat ∨ 8 ≤ (s.queue q).timeout.toNat)) ∧ (∃
    (s : State) (q : Nat), ((s.queue q).depthLog2.toNat < 2 ∨ 16 < (s.queue q).depthLog2.toNat ∨ 8 ≤ (s.queue
    q).timeout.toNat)) ∧ (∃ (s : State) (q : QueueId), (s.queue q.toNat).state ≠ .disabled) ∧ (∃ (s : State) (q :
    QueueId), (s.queue q.toNat).state = .active) ∧ (∃ (s : State) (q : QueueId), (s.queue q.toNat).state ≠ .active) ∧
    (∃ (s : State) (q : QueueId), (s.queue q.toNat).state = .paused ∧ s.coreBlocks (s.queue q.toNat) = false ∧
    (s.queue q.toNat).closing = false ∧ (s.queue q.toNat).jobs.all (fun j => j.phase ≠ .held) = true) ∧ (∃ (s : State)
    (q : QueueId), ((s.queue q.toNat).state ≠ .paused ∨ s.coreBlocks (s.queue q.toNat) = true ∨ (s.queue
    q.toNat).closing = true)) ∧ (∃ (s : State) (q : QueueId), ((s.queue q.toNat).state ≠ .paused ∨ s.coreBlocks
    (s.queue q.toNat) = true ∨ (s.queue q.toNat).closing = true)) ∧ (∃ (s : State) (q : QueueId), (s.queue
    q.toNat).state = .fault ∧ s.coreBlocks (s.queue q.toNat) = false ∧ (s.queue q.toNat).closing = false ∧ (s.queue
    q.toNat).jobs.all (fun j => j.phase ≠ .held) = true) ∧ (∃ (s : State) (q : QueueId), ((s.queue q.toNat).state ≠
    .fault ∨ s.coreBlocks (s.queue q.toNat) = true ∨ (s.queue q.toNat).closing = true)) ∧ (∃ (s : State) (q :
    QueueId), ((s.queue q.toNat).state ≠ .fault ∨ s.coreBlocks (s.queue q.toNat) = true ∨ (s.queue q.toNat).closing =
    true)) ∧ (∃ (s : State) (q : QueueId), ((s.queue q.toNat).state = .paused ∨ (s.queue q.toNat).state = .fault) ∧
    (s.queue q.toNat).cls ≠ 0) ∧ (∃ (s : State) (q : QueueId), ((s.queue q.toNat).state = .paused ∨ (s.queue
    q.toNat).state = .fault) ∧ (s.queue q.toNat).cls = 0) ∧ (∃ (s : State) (q : QueueId), ((s.queue q.toNat).state =
    .active ∨ (s.queue q.toNat).state = .disabled)) ∧ (∃ (s : State) (q : QueueId), ((s.queue q.toNat).state = .paused
    ∨ (s.queue q.toNat).state = .fault) ∧ (s.queue q.toNat).cls ≠ 0 ∧ (s.queue q.toNat).jobs = []) :=
  ⟨⟨((ready.setQueues [(0, { engine := 1792, depthLog2 := 2, link0 := 7 }), (7, { cls := 2 })]).setParts [(0,
    { state := .active, subs := 1, q0 := (0, 8) })]).setPageMaps [(0, word [(0, 1), (1, 1), (34, 32)])], 0,
    by decide +kernel⟩, ⟨(on0 { depthLog2 := 1 }), 0, by decide +kernel⟩, ⟨(on0 { depthLog2 := 1 }), 0,
    by decide +kernel⟩, ⟨(on0 { depthLog2 := 17 }), 0, by decide +kernel⟩, ⟨(on0 { timeout := 8 }), 0,
    by decide +kernel⟩, ⟨(on0 { state := .fault }), 0, by decide +kernel⟩, ⟨(on0 { state := .active }), 0,
    by decide +kernel⟩, ⟨(on0 { state := .disabled }), 0, by decide +kernel⟩, ⟨(on0 { state := .paused }), 0,
    by decide +kernel⟩, ⟨(on0 { state := .active }), 0, by decide +kernel⟩, ⟨(on0
    { state := .paused, engine := 264 }), 0, by decide +kernel⟩, ⟨(on0 { state := .fault }), 0, by decide +kernel⟩,
    ⟨(on0 { state := .disabled }), 0, by decide +kernel⟩, ⟨(on0 { state := .fault, engine := 264 }), 0,
    by decide +kernel⟩, ⟨(on0 { state := .fault, cls := 2, depthLog2 := 2 }), 0, by decide +kernel⟩, ⟨(on0
    { state := .paused, engine := 256, depthLog2 := 2, jobs := [jobOf .handed []] }), 0, by decide +kernel⟩, ⟨(on0
    { state := .active }), 0, by decide +kernel⟩, ⟨(on0 { state := .paused, cls := 3, depthLog2 := 2 }), 0,
    by decide +kernel⟩⟩

/-- 17 witnesses of the hypotheses of Obligations.ManagementWrites. -/
theorem test_met_ManagementWrites :
    (∃ (s : State) (q : QueueId) (ctx : BitVec 512), s.asleep = false ∧ s.mode ≠ .off ∧ (s.queue q.toNat).state =
    .disabled ∧ fld ctx.toNat 328 3 = 0 ∧ fld ctx.toNat 0 112 = 0) ∧ (∃ (s : State) (q : QueueId) (ctx : BitVec 512),
    s.asleep = false ∧ s.mode ≠ .off ∧ (s.queue q.toNat).state = .disabled ∧ (fld ctx.toNat 328 3 ≠ 0 ∨ fld ctx.toNat
    0 112 ≠ 0)) ∧ (∃ (s : State) (q : QueueId), s.asleep = false ∧ s.mode ≠ .off ∧ (s.queue q.toNat).state ≠
    .disabled) ∧ (∃ (s : State) (sem : BitVec 12), s.asleep = false ∧ s.mode ≠ .off ∧ sem ≠ 0) ∧ (∃ (s : State),
    s.asleep = false ∧ s.mode ≠ .off) ∧ (∃ (s : State) (e : BitVec 128), s.asleep = false ∧ s.mode ≠ .off ∧ kvReserved
    e.toNat = false) ∧ (∃ (s : State) (rule : BitVec 64), s.asleep = false ∧ s.mode ≠ .off ∧ s.ruleOk rule.toNat =
    true) ∧ (∃ (s : State) (e : BitVec 256), s.asleep = false ∧ s.mode ≠ .off ∧ fld e.toNat 148 8 = 0 ∧ fld e.toNat 0
    24 = 0) ∧ (∃ (s : State) (src : BitVec 10), s.asleep = false ∧ s.mode ≠ .off ∧ 256 ≤ src.toNat) ∧ (∃ (s : State),
    s.asleep = false ∧ s.mode ≠ .off) ∧ (∃ (s : State), s.asleep = false ∧ s.mode ≠ .off) ∧ (∃ (s : State) (p :
    PartId) (a : BitVec 10), s.asleep = false ∧ s.mode ≠ .off ∧ (s.adapters.filter (fun x => decide (x.part = p.toNat)
    && decide (x.id = a.toNat))).length < 4) ∧ (∃ (s : State), s.asleep = false ∧ s.mode ≠ .off) ∧ (∃ (s : State),
    s.asleep = false ∧ s.mode ≠ .off) ∧ (∃ (s : State), s.asleep = false ∧ s.mode ≠ .off) ∧ (∃ (s : State), (s.asleep
    = true ∨ s.mode = .off)) ∧ (∃ (s : State), (s.asleep = true ∨ s.mode = .off)) :=
  ⟨⟨ready, 0, 0, by decide +kernel⟩, ⟨ready, 0, 1, by decide +kernel⟩, ⟨(on0 { state := .active }), 0,
    by decide +kernel⟩, ⟨ready, 1, by decide +kernel⟩, ⟨ready, by decide +kernel⟩, ⟨ready, 1, by decide +kernel⟩,
    ⟨ready, 0, by decide +kernel⟩, ⟨ready, 0, by decide +kernel⟩, ⟨ready, 256, by decide +kernel⟩, ⟨ready,
    by decide +kernel⟩, ⟨ready, by decide +kernel⟩, ⟨ready, 1, 3, by decide +kernel⟩, ⟨ready, by decide +kernel⟩,
    ⟨ready, by decide +kernel⟩, ⟨ready, by decide +kernel⟩, ⟨up .off, by decide +kernel⟩, ⟨up .parked,
    by decide +kernel⟩⟩

/-- 7 witnesses of the hypotheses of Obligations.MemoryPatrol. -/
theorem test_met_MemoryPatrol :
    (∃ (s : State), s.upsets = [] ∧ s.ecc = []) ∧ (∃ (s : State) (die : Die) (sub : Fin 34) (line : BitVec 27) (xs : List
    LineUpset) (e : Nat), s.asleep = false ∧ s.mode ≠ .off ∧ s.ecc = [] ∧ line.toNat < regionLine ∧ (s.sub (subNumber
    die sub)).mem.lineBad line.toNat = false ∧ (s.strike xs).upsets = [(upsetKey (subNumber die sub) line.toNat, e)] ∧
    rsRead e = (.corrected, 0) ∧ s.ev.ctr = []) ∧ (∃ (s : State) (die : Die) (sub : Fin 34) (line : BitVec 27) (xs :
    List LineUpset) (e : Nat) (t0 : Nat), s.asleep = false ∧ s.mode ≠ .off ∧ s.ecc = [] ∧ line.toNat < regionLine ∧
    (s.sub (subNumber die sub)).mem.lineBad line.toNat = false ∧ (s.strike xs).upsets = [(upsetKey (subNumber die sub)
    line.toNat, e)] ∧ rsRead e = (.corrected, 0) ∧ s.ev.ctr = [] ∧ (t0, rowOfLine line.toNat) ∈ (s.sub (subNumber die
    sub)).fixes ∧ s.now < t0 + day24 ∧ (s.sub (subNumber die sub)).canRepair (rowOfLine line.toNat) = true) ∧ (∃ (s :
    State) (die : Die) (sub : Fin 34) (line : BitVec 27) (xs : List LineUpset) (e : Nat), s.asleep = false ∧ s.mode ≠
    .off ∧ s.ecc = [] ∧ line.toNat < regionLine ∧ (s.sub (subNumber die sub)).mem.lineBad line.toNat = false ∧
    (s.strike xs).upsets = [(upsetKey (subNumber die sub) line.toNat, e)] ∧ (rsRead e).1 = .uncorrectable ∧ s.ev.ctr =
    [] ∧ (s.source (dieOfSub (subNumber die sub)) 184).control = 0 ∧ (s.source (dieOfSub (subNumber die sub))
    185).control = 0) ∧ (∃ (temp : Int), temp ≤ 9500) ∧ (∃ (s : State) (temp : Int), 9500 < temp ∧ s.mode ≠ .off ∧
    s.asleep = false) ∧ (∃ (s : State), s.asleep = false ∧ s.mode ≠ .off) :=
  ⟨⟨ready, by decide +kernel⟩, ⟨ready, 0, 33, 2048, [{ sub := 33, line := 2048, lane := 39, flips := 3 }], 3 * 2 ^ 624,
    by decide +kernel⟩, ⟨ready.setDram [(0, { fixes := [(0, 64)] })], 0, 0, 4096,
    [{ sub := 0, line := 4096, lane := 0, flips := 1 }], 1, 0, by decide +kernel⟩, ⟨ready, 1, 0, 7, (upto 5).map (fun
    i => { sub := 34, line := 7, lane := Fin.ofNat 40 (9 * i), flips := 1 }), 1 + 2 ^ 144 + 2 ^ 288 + 2 ^ 432 + 2 ^
    576, by decide +kernel⟩, ⟨9500, by decide +kernel⟩, ⟨ready, 9501, by decide +kernel⟩, ⟨ready, by decide +kernel⟩⟩

/-- 7 witnesses of the hypotheses of Obligations.SubchannelRetirement. -/
theorem test_met_SubchannelRetirement :
    (∃ (s : State) (n : SubId) (b : Nat) (bs : List Nat), s.asleep = false ∧ (s.sub n.val).role = .inService ∧ s.migr.find
    (dieOfSub n.val) = none ∧ s.spareSubs (dieOfSub n.val) = b :: bs) ∧ (∃ (s : State) (n : SubId), s.asleep = false ∧
    (s.sub n.val).role = .inService ∧ s.migr.find (dieOfSub n.val) = none ∧ s.spareSubs (dieOfSub n.val) = []) ∧ (∃ (s
    : State) (n : SubId) (m : Migr), s.asleep = false ∧ (s.sub n.val).role = .inService ∧ s.migr.find (dieOfSub n.val)
    = some m ∧ s.migrQueue.any (fun x => x.1 = n.val) = false) ∧ (∃ (s : State) (n : SubId), s.asleep = false ∧ (s.sub
    n.val).role ≠ .inService) ∧ (∃ (s : State) (die : Die) (m : Migr) (key : Nat) (rest : List Nat), s.asleep = false
    ∧ s.migr.find die.toNat = some m ∧ m.left = key :: rest ∧ peValid (s.pageMaps.getD key 0) = true ∧ peSub
    (s.pageMaps.getD key 0) = m.src ∧ m.dst < 68 ∧ s.upsets = [] ∧ s.ecc = []) ∧ (∃ (s : State) (die : Die) (m : Migr)
    (k : Nat), s.asleep = false ∧ s.migr.find die.toNat = some m ∧ m.left = [] ∧ m.region = k + 1) ∧ (∃ (s : State)
    (die : Die) (m : Migr), s.asleep = false ∧ s.migr.find die.toNat = some m ∧ m.left = [] ∧ m.region = 0 ∧ m.src ≠
    m.dst ∧ m.src < 68 ∧ s.migrQueue = [] ∧ s.upsets = []) :=
  ⟨⟨ready, 0, 32, [33], by decide +kernel⟩, ⟨ready.setDram [(32, { role := .retired }), (33, { role := .retired })], 0,
    by decide +kernel⟩, ⟨ready.setMigr [(1, { src := 40, dst := 66, trigger := 4, left := [5] })], 34,
    { src := 40, dst := 66, trigger := 4, left := [5] }, by decide +kernel⟩, ⟨ready, 32, by decide +kernel⟩,
    ⟨((ready.setDram [(0, { role := .migratingOut, mem := {} }), (32, { role := .migratingIn, mem := {} })]).setMigr
    [(0, { src := 0, dst := 32, trigger := 4, left := [7] })]).setPageMaps [(7, word [(0, 1), (1, 1), (34, 32)])], 0,
    { src := 0, dst := 32, trigger := 4, left := [7] }, 7, [], by decide +kernel⟩, ⟨(ready.setDram [(0,
    { role := .migratingOut, mem := {} }), (32, { role := .migratingIn, mem := {} })]).setMigr [(0,
    { src := 0, dst := 32, trigger := 4, left := [], region := 3 })], 0,
    { src := 0, dst := 32, trigger := 4, left := [], region := 3 }, 2, by decide +kernel⟩, ⟨(ready.setDram [(0,
    { role := .migratingOut, mem := {} }), (32, { role := .migratingIn, mem := {} })]).setMigr [(0,
    { src := 0, dst := 32, trigger := 4, left := [], region := 0 })], 0,
    { src := 0, dst := 32, trigger := 4, left := [], region := 0 }, by decide +kernel⟩⟩

/-- 10 witnesses of the hypotheses of Obligations.ApertureAccesses. -/
theorem test_met_ApertureAccesses :
    (∃ (s : State) (u : State) (die : Die) (core : BitVec 3) (a : BitVec 48) (p : Nat) (off : Nat) (n : Nat) (bs : List
    (Byte × Bool)), s.firmwareUp = true ∧ hasNat s.fw.appOffline (appNumber die core) = false ∧ appRange a.toNat =
    .aperture p off ∧ off + n ≤ 2 ^ 39 ∧ s.mread (dieOfApp (appNumber die core)) p off n = (some bs, u) ∧ bs.any (·.2)
    = false) ∧ (∃ (s : State) (u : State) (die : Die) (core : BitVec 3) (a : BitVec 48) (p : Nat) (off : Nat) (n :
    Nat) (bs : List (Byte × Bool)), s.firmwareUp = true ∧ hasNat s.fw.appOffline (appNumber die core) = false ∧
    appRange a.toNat = .aperture p off ∧ off + n ≤ 2 ^ 39 ∧ s.mread (dieOfApp (appNumber die core)) p off n = (some
    bs, u) ∧ bs.any (·.2) = true) ∧ (∃ (s : State) (u : State) (die : Die) (core : BitVec 3) (a : BitVec 48) (p : Nat)
    (off : Nat) (n : Nat), s.firmwareUp = true ∧ hasNat s.fw.appOffline (appNumber die core) = false ∧ appRange
    a.toNat = .aperture p off ∧ off + n ≤ 2 ^ 39 ∧ s.mread (dieOfApp (appNumber die core)) p off n = (none, u)) ∧ (∃
    (s : State) (u : State) (die : Die) (core : BitVec 3) (a : BitVec 48) (p : Nat) (off : Nat) (bs : List Byte),
    s.firmwareUp = true ∧ hasNat s.fw.appOffline (appNumber die core) = false ∧ appRange a.toNat = .aperture p off ∧
    off + bs.length ≤ 2 ^ 39 ∧ s.pwrite (dieOfApp (appNumber die core)) p off (clean bs) = (true, u)) ∧ (∃ (s : State)
    (u : State) (die : Die) (core : BitVec 3) (a : BitVec 48) (p : Nat) (off : Nat) (bs : List Byte), s.firmwareUp =
    true ∧ hasNat s.fw.appOffline (appNumber die core) = false ∧ appRange a.toNat = .aperture p off ∧ off + bs.length
    ≤ 2 ^ 39 ∧ s.pwrite (dieOfApp (appNumber die core)) p off (clean bs) = (false, u)) ∧ (∃ (s : State) (die : Die)
    (core : BitVec 3) (a : BitVec 48) (n : Nat), s.firmwareUp = true ∧ hasNat s.fw.appOffline (appNumber die core) =
    false ∧ a.toNat + n ≤ 2 * regionBytes ∧ appRange a.toNat = .region ∧ s.upsets = [] ∧ s.ecc = [] ∧ (s.regionRead
    a.toNat n).any (·.2) = false) ∧ (∃ (s : State) (die : Die) (core : BitVec 3) (a : BitVec 48) (n : Nat),
    s.firmwareUp = true ∧ hasNat s.fw.appOffline (appNumber die core) = false ∧ a.toNat + n ≤ 2 * regionBytes ∧
    appRange a.toNat = .region ∧ s.upsets = [] ∧ s.ecc = [] ∧ (s.regionRead a.toNat n).any (·.2) = true ∧ s.mode =
    .serving ∧ s.rst.due = none ∧ s.rst.running = none) ∧ (∃ (s : State) (die : Die) (core : BitVec 3) (a : BitVec 48)
    (bs : List Byte), s.firmwareUp = true ∧ hasNat s.fw.appOffline (appNumber die core) = false ∧ a.toNat + bs.length
    ≤ 2 * regionBytes ∧ appRange a.toNat = .region ∧ s.upsets = [] ∧ s.ecc = []) ∧ (∃ (s : State) (die : Die) (core :
    BitVec 3) (a : BitVec 48), s.firmwareUp = true ∧ hasNat s.fw.appOffline (appNumber die core) = false ∧ appRange
    a.toNat = .nothing ∧ s.ecc = []) ∧ (∃ (s : State) (die : Die) (core : BitVec 3), hasNat s.fw.appOffline (appNumber
    die core) = true) :=
  ⟨⟨mapped ready, (State.mread (mapped ready) 0 0 0 8).2, 0, 0, 4398046511104, 0, 0, 8, ((State.mread (mapped ready) 0 0
    0 8).1).getD [], by decide +kernel⟩, ⟨(mapped ready).setDram [(0, { mem := { poison := [0] } })], (State.mread
    ((mapped ready).setDram [(0, { mem := { poison := [0] } })]) 0 0 0 8).2, 0, 0, 4398046511104, 0, 0, 8,
    ((State.mread ((mapped ready).setDram [(0, { mem := { poison := [0] } })]) 0 0 0 8).1).getD [],
    by decide +kernel⟩, ⟨mapped ready, (State.mread (mapped ready) 0 0 2097151 2).2, 0, 0, 4398048608255, 0, 2097151,
    2, by decide +kernel⟩, ⟨mapped ready, (State.pwrite (mapped ready) 0 0 2097151 (clean [1])).2, 0, 0,
    4398048608255, 0, 2097151, [1], by decide +kernel⟩, ⟨mapped ready, (State.pwrite (mapped ready) 0 0 2097152 (clean
    [1])).2, 0, 0, 4398048608256, 0, 2097152, [1], by decide +kernel⟩, ⟨ready, 0, 3, 4096, 8, by decide +kernel⟩,
    ⟨settled ((up .serving).setModMem [(0, { poison := [0] })]), 0, 3, 0, 8, by decide +kernel⟩, ⟨ready, 0, 3,
    4294967295, [1, 2], by decide +kernel⟩, ⟨ready, 0, 3, 8796093022208, by decide +kernel⟩, ⟨ready.setFw
    { ready.fw with appOffline := [15] }, 1, 7, by decide +kernel⟩⟩

/-- 14 witnesses of the hypotheses of Obligations.ParkOperations. -/
theorem test_met_ParkOperations :
    (∃ (s : State) (q : QueueId) (d : Nat), s.atEngine q.toNat 8 = some d ∧ dOpcode d = 0x62 ∧ pkReserved d = false ∧
    s.asleep = false ∧ pkAlign d = false ∧ pkHandle d ≠ 0 ∧ (pkRegion d = 1 ∨ (pkRegion d = 2 ∧ ttlOk (pkTtl d) =
    true) ∨ pkRegion d = 3) ∧ s.park.find (pkHandle d) = none ∧ s.park.objects.length < 4194304) ∧ (∃ (s : State) (q :
    QueueId) (d : Nat), s.atEngine q.toNat 8 = some d ∧ dOpcode d = 0x62 ∧ pkReserved d = false ∧ s.asleep = false ∧
    pkAlign d = false ∧ pkHandle d ≠ 0 ∧ (pkRegion d = 1 ∨ (pkRegion d = 2 ∧ ttlOk (pkTtl d) = true) ∨ pkRegion d = 3)
    ∧ s.park.find (pkHandle d) = none ∧ s.park.objects.length < 4194304) ∧ (∃ (s : State) (q : QueueId) (d : Nat),
    s.atEngine q.toNat 8 = some d ∧ dOpcode d = 0x62 ∧ pkReserved d = false ∧ s.asleep = false ∧ pkAlign d = false ∧
    pkHandle d ≠ 0 ∧ (pkRegion d = 1 ∨ (pkRegion d = 2 ∧ ttlOk (pkTtl d) = true) ∨ pkRegion d = 3) ∧ s.park.find
    (pkHandle d) = none ∧ s.park.objects.length < 4194304) ∧ (∃ (s : State) (q : QueueId) (d : Nat) (o : ParkObj),
    s.atEngine q.toNat 8 = some d ∧ dOpcode d = 0x62 ∧ pkReserved d = false ∧ s.asleep = false ∧ pkAlign d = false ∧
    pkHandle d ≠ 0 ∧ pkRegion d = 1 ∧ s.park.find (pkHandle d) = some o ∧ s.outlived o = false) ∧ (∃ (s : State) (u :
    State) (v : State) (q : QueueId) (d : Nat) (o : ParkObj) (bs : List (Byte × Bool)), s.atEngine q.toNat 8 = some d
    ∧ dOpcode d = 0x61 ∧ pkReserved d = false ∧ s.asleep = false ∧ s.park.find (pkHandle d) = some o ∧ s.outlived o =
    false ∧ s.pkTransfer (dieOfQueue q.toNat) (s.queue q.toNat).part d true = (0, u) ∧ s.mayReach (s.queue
    q.toNat).part o = true ∧ pkBytes d ≠ 0 ∧ u.park.used o.region + (Nat.max o.extent (pkOffset d + pkBytes d) -
    o.extent) ≤ u.regionSize o.region ∧ (o.region ≠ 1 ∨ 0 < s.park.budget) ∧ u.mread (dieOfQueue q.toNat) (s.queue
    q.toNat).part (pkMem d) (pkBytes d) = (some bs, v)) ∧ (∃ (s : State) (u : State) (q : QueueId) (d : Nat) (o :
    ParkObj), s.atEngine q.toNat 8 = some d ∧ dOpcode d = 0x61 ∧ pkReserved d = false ∧ s.asleep = false ∧ s.park.find
    (pkHandle d) = some o ∧ s.outlived o = false ∧ s.pkTransfer (dieOfQueue q.toNat) (s.queue q.toNat).part d true =
    (0, u) ∧ s.mayReach (s.queue q.toNat).part o = true ∧ o.region = 1 ∧ s.park.budget ≤ 0 ∧ pkBytes d ≠ 0 ∧
    u.park.used 1 + (Nat.max o.extent (pkOffset d + pkBytes d) - o.extent) ≤ u.regionSize 1) ∧ (∃ (s : State) (u :
    State) (q : QueueId) (d : Nat) (o : ParkObj), s.atEngine q.toNat 8 = some d ∧ dOpcode d = 0x60 ∧ pkReserved d =
    false ∧ s.asleep = false ∧ s.park.find (pkHandle d) = some o ∧ s.outlived o = false ∧ s.pkTransfer (dieOfQueue
    q.toNat) (s.queue q.toNat).part d false = (0, u) ∧ s.mayReach (s.queue q.toNat).part o = true ∧ pkBytes d ≠ 0) ∧
    (∃ (s : State) (u : State) (q : QueueId) (d : Nat) (o : ParkObj), s.atEngine q.toNat 8 = some d ∧ dOpcode d = 0x60
    ∧ pkReserved d = false ∧ s.asleep = false ∧ s.park.find (pkHandle d) = some o ∧ s.outlived o = false ∧
    s.pkTransfer (dieOfQueue q.toNat) (s.queue q.toNat).part d false = (0, u) ∧ s.mayReach (s.queue q.toNat).part o =
    true ∧ pkBytes d = 0) ∧ (∃ (s : State) (u : State) (q : QueueId) (d : Nat), s.atEngine q.toNat 8 = some d ∧
    dOpcode d = 0x60 ∧ pkReserved d = false ∧ s.asleep = false ∧ s.park.find (pkHandle d) = none ∧ s.pkTransfer
    (dieOfQueue q.toNat) (s.queue q.toNat).part d false = (0, u)) ∧ (∃ (s : State) (q : QueueId) (d : Nat) (o :
    ParkObj), s.atEngine q.toNat 8 = some d ∧ dOpcode d = 0x63 ∧ pkReserved d = false ∧ s.asleep = false ∧ pkAlign d =
    false ∧ pkHandle d ≠ 0 ∧ s.park.find (pkHandle d) = some o ∧ s.outlived o = false ∧ s.mayReach (s.queue
    q.toNat).part o = true) ∧ (∃ (s : State) (q : QueueId) (d : Nat) (o : ParkObj), s.atEngine q.toNat 8 = some d ∧
    dOpcode d = 0x64 ∧ pkReserved d = false ∧ s.asleep = false ∧ pkAlign d = false ∧ pkHandle d ≠ 0 ∧ s.park.find
    (pkHandle d) = some o ∧ s.outlived o = false ∧ o.region = 2 ∧ ttlOk (pkTtl d) = true ∧ s.mayReach (s.queue
    q.toNat).part o = true) ∧ (∃ (s : State) (q : QueueId) (d : Nat) (o : ParkObj), s.atEngine q.toNat 8 = some d ∧
    dOpcode d = 0x64 ∧ pkReserved d = false ∧ s.asleep = false ∧ pkAlign d = false ∧ pkHandle d ≠ 0 ∧ s.park.find
    (pkHandle d) = some o ∧ s.outlived o = false ∧ o.region = 2 ∧ ttlOk (pkTtl d) = true ∧ s.mayReach (s.queue
    q.toNat).part o = true) ∧ (∃ (s : State) (q : QueueId) (d : Nat), s.atEngine q.toNat 8 = some d ∧ s.asleep = false
    ∧ pkReserved d = true) ∧ (∃ (s : State) (q : QueueId) (j : Job), s.asleep = false ∧ (s.queue q.toNat).kind = 8 ∧
    (s.queue q.toNat).jobIn .handed = some j ∧ j.since + 500000000 ≤ s.now) :=
  ⟨⟨(mapped (handed 2048 [(56, 98), (64, 9), (272, 1)])).setPark { State.reset.park with objects := [] }, 0, word [(56,
    98), (64, 9), (272, 1)], by decide +kernel⟩, ⟨(mapped (handed 2048 [(56, 98), (64, 9), (272, 2), (280,
    60)])).setPark { State.reset.park with objects := [] }, 0, word [(56, 98), (64, 9), (272, 2), (280, 60)],
    by decide +kernel⟩, ⟨(mapped (handed 2048 [(56, 98), (64, 9), (272, 3)])).setPark
    { State.reset.park with objects := [] }, 0, word [(56, 98), (64, 9), (272, 3)], by decide +kernel⟩, ⟨(mapped
    (handed 2048 [(56, 98), (64, 9), (272, 1)])).setPark
    { State.reset.park with objects := [(9, { region := 1, owner := 0, part := 0, key := 0 })] }, 0, word [(56, 98),
    (64, 9), (272, 1)], { region := 1, owner := 0, part := 0, key := 0 }, by decide +kernel⟩, ⟨(mapped (handed 2048
    [(56, 97), (64, 9), (240, 4096)])).setPark
    { State.reset.park with objects := [(9, { region := 3, owner := 0, part := 0, key := 0 })] }, (State.pkTransfer
    ((mapped (handed 2048 [(56, 97), (64, 9), (240, 4096)])).setPark
    { State.reset.park with objects := [(9, { region := 3, owner := 0, part := 0, key := 0 })] }) 0 0 (word [(56, 97),
    (64, 9), (240, 4096)]) true).2, (State.mread (State.pkTransfer ((mapped (handed 2048 [(56, 97), (64, 9), (240,
    4096)])).setPark { State.reset.park with objects := [(9, { region := 3, owner := 0, part := 0, key := 0 })] }) 0 0
    (word [(56, 97), (64, 9), (240, 4096)]) true).2 (dieOfQueue (0 : QueueId).toNat) (State.queue ((mapped (handed
    2048 [(56, 97), (64, 9), (240, 4096)])).setPark
    { State.reset.park with objects := [(9, { region := 3, owner := 0, part := 0, key := 0 })] }) (0 :
    QueueId).toNat).part (pkMem (word [(56, 97), (64, 9), (240, 4096)])) (pkBytes (word [(56, 97), (64, 9), (240,
    4096)]))).2, 0, word [(56, 97), (64, 9), (240, 4096)], { region := 3, owner := 0, part := 0, key := 0 },
    (State.mread (State.pkTransfer ((mapped (handed 2048 [(56, 97), (64, 9), (240, 4096)])).setPark
    { State.reset.park with objects := [(9, { region := 3, owner := 0, part := 0, key := 0 })] }) 0 0 (word [(56, 97),
    (64, 9), (240, 4096)]) true).2 (dieOfQueue (0 : QueueId).toNat) (State.queue ((mapped (handed 2048 [(56, 97), (64,
    9), (240, 4096)])).setPark
    { State.reset.park with objects := [(9, { region := 3, owner := 0, part := 0, key := 0 })] }) (0 :
    QueueId).toNat).part (pkMem (word [(56, 97), (64, 9), (240, 4096)])) (pkBytes (word [(56, 97), (64, 9), (240,
    4096)]))).1.getD [], by decide +kernel, by decide +kernel, by decide +kernel, by decide +kernel,
    by decide +kernel, by decide +kernel, by decide +kernel, by decide +kernel, by decide +kernel, by decide +kernel,
    by decide +kernel, some_eq (by decide +kernel)⟩, ⟨(mapped (handed 2048 [(56, 97), (64, 9), (240, 4096)])).setPark
    { State.reset.park with objects := [(9, { region := 1, owner := 0, part := 0, key := 0 })], budget := 0 },
    (State.pkTransfer ((mapped (handed 2048 [(56, 97), (64, 9), (240, 4096)])).setPark
    { State.reset.park with objects := [(9, { region := 1, owner := 0, part := 0, key := 0 })], budget := 0 }) 0 0
    (word [(56, 97), (64, 9), (240, 4096)]) true).2, 0, word [(56, 97), (64, 9), (240, 4096)],
    { region := 1, owner := 0, part := 0, key := 0 }, by decide +kernel⟩, ⟨(mapped (handed 2048 [(56, 96), (64, 9),
    (240, 4096)])).setPark
    { State.reset.park with objects := [(9, { region := 1, owner := 0, part := 0, key := 0, extent := 4096, mem := {} })] },
    (State.pkTransfer ((mapped (handed 2048 [(56, 96), (64, 9), (240, 4096)])).setPark
    { State.reset.park with objects := [(9, { region := 1, owner := 0, part := 0, key := 0, extent := 4096, mem := {} })] })
    0 0 (word [(56, 96), (64, 9), (240, 4096)]) false).2, 0, word [(56, 96), (64, 9), (240, 4096)],
    { region := 1, owner := 0, part := 0, key := 0, extent := 4096, mem := {} }, by decide +kernel⟩, ⟨(mapped (handed
    2048 [(56, 96), (64, 9)])).setPark
    { State.reset.park with objects := [(9, { region := 3, owner := 0, part := 0, key := 0 })] }, (State.pkTransfer
    ((mapped (handed 2048 [(56, 96), (64, 9)])).setPark
    { State.reset.park with objects := [(9, { region := 3, owner := 0, part := 0, key := 0 })] }) 0 0 (word [(56, 96),
    (64, 9)]) false).2, 0, word [(56, 96), (64, 9)], { region := 3, owner := 0, part := 0, key := 0 },
    by decide +kernel⟩, ⟨(mapped (handed 2048 [(56, 96), (64, 9)])).setPark { State.reset.park with objects := [] },
    (State.pkTransfer ((mapped (handed 2048 [(56, 96), (64, 9)])).setPark { State.reset.park with objects := [] }) 0 0
    (word [(56, 96), (64, 9)]) false).2, 0, word [(56, 96), (64, 9)], by decide +kernel⟩, ⟨(mapped (handed 2048 [(56,
    99), (64, 9)])).setPark
    { State.reset.park with objects := [(9, { region := 2, owner := 0, part := 0, key := 0, expires := 1 })] }, 0,
    word [(56, 99), (64, 9)], { region := 2, owner := 0, part := 0, key := 0, expires := 1 }, by decide +kernel⟩,
    ⟨(mapped (handed 2048 [(56, 100), (64, 9), (280, 60)])).setPark
    { State.reset.park with objects := [(9, { region := 2, owner := 0, part := 0, key := 0, expires := 1 })] }, 0,
    word [(56, 100), (64, 9), (280, 60)], { region := 2, owner := 0, part := 0, key := 0, expires := 1 },
    by decide +kernel⟩, ⟨(mapped (handed 2048 [(56, 100), (64, 9), (280, 2592000)])).setPark
    { State.reset.park with objects := [(9, { region := 2, owner := 0, part := 0, key := 0, expires := 1 })] }, 0,
    word [(56, 100), (64, 9), (280, 2592000)], { region := 2, owner := 0, part := 0, key := 0, expires := 1 },
    by decide +kernel⟩, ⟨(mapped (handed 2048 [(56, 99), (64, 9), (312, 1)])).setPark
    { State.reset.park with objects := [] }, 0, word [(56, 99), (64, 9), (312, 1)], by decide +kernel⟩, ⟨late (handed
    2048 []) 500000000, 0, jobOf .handed [], by decide +kernel⟩⟩

/-- 9 witnesses of the hypotheses of Obligations.ParkClockAndErasure. -/
theorem test_met_ParkClockAndErasure :
    (∃ (s : State) (h : BitVec 64) (o : ParkObj), s.park.find h.toNat = some o ∧ o.region = 2 ∧ o.expires ≤ s.park.clock)
    ∧ (∃ (s : State) (h : BitVec 64) (o : ParkObj), s.park.find h.toNat = some o ∧ (o.region ≠ 2 ∨ s.park.clock <
    o.expires)) ∧ (∃ (s : State) (h : BitVec 64) (o : ParkObj), s.park.find h.toNat = some o ∧ (o.region ≠ 2 ∨
    s.park.clock < o.expires)) ∧ (∃ (s : State), s.powered = true ∧ s.park.savedClock + 600 ≤ s.park.clock) ∧ (∃ (s :
    State), s.park.clock < s.park.savedClock + 600) ∧ (∃ (s : State) (h : BitVec 64) (o : ParkObj), s.asleep = false ∧
    s.park.find h.toNat = some o) ∧ (∃ (s : State) (h : BitVec 64), s.asleep = false ∧ s.park.find h.toNat = none) ∧
    (∃ (s : State), s.asleep = false) ∧ (∃ (s : State) (v : Byte), s.asleep = false ∧ v ≠ 0x5A) :=
  ⟨⟨ready.setPark
    { ready.park with objects := [(9, { region := 2, owner := 0, part := 0, key := 0, expires := 5 })], clock := 5 },
    9, { region := 2, owner := 0, part := 0, key := 0, expires := 5 }, by decide +kernel⟩, ⟨ready.setPark
    { ready.park with objects := [(9, { region := 2, owner := 0, part := 0, key := 0, expires := 6 })], clock := 5 },
    9, { region := 2, owner := 0, part := 0, key := 0, expires := 6 }, by decide +kernel⟩, ⟨ready.setPark
    { ready.park with objects := [(9, { region := 3, owner := 0, part := 0, key := 0, expires := 0 })], clock := 5 },
    9, { region := 3, owner := 0, part := 0, key := 0, expires := 0 }, by decide +kernel⟩, ⟨ready.setPark
    { ready.park with clock := 600 }, by decide +kernel⟩, ⟨ready.setPark { ready.park with clock := 599 },
    by decide +kernel⟩, ⟨ready.setPark
    { ready.park with objects := [(9, { region := 3, owner := 0, part := 0, key := 0, expires := 0 })], clock := 5 },
    9, { region := 3, owner := 0, part := 0, key := 0, expires := 0 }, by decide +kernel⟩, ⟨ready, 9,
    by decide +kernel⟩, ⟨ready, by decide +kernel⟩, ⟨ready, 0x5B, by decide +kernel⟩⟩

/-- 6 witnesses of the hypotheses of Obligations.KvMaintenance. -/
theorem test_met_KvMaintenance :
    (∃ (s : State), s.asleep = false ∧ s.kvWaiters = []) ∧ (∃ (s : State) (die : Die) (ix : BitVec 19) (q : Nat) (j :
    Job), q ∈ s.kvWaiters ∧ (s.queue q).jobIn .waitKv = some j ∧ j.pages.contains (2 ^ 19 * die.toNat + ix.toNat) =
    true) ∧ (∃ (s : State) (q : QueueId) (j : Job), (s.queue q.toNat).jobIn .waitKv = some j ∧ j.since + limitOf
    (s.odGet 0x2260 3) ≤ s.now) ∧ (∃ (s : State) (q : QueueId) (j : Job), (s.queue q.toNat).jobIn .waitKv = some j ∧
    s.now < j.since + limitOf (s.odGet 0x2260 3)) ∧ (∃ (s : State), s.asleep = false) ∧ (∃ (s : State), s.asleep =
    false) :=
  ⟨⟨ready, by decide +kernel⟩, ⟨late (on0
    { state := .active, engine := 256, depthLog2 := 2, credits := 3, jobs := [{ jobOf .waitKv [] with pages := [524294] }] })
    0, 1, 6, 0, { jobOf .waitKv [] with pages := [524294] }, by decide +kernel⟩, ⟨late (on0
    { state := .active, engine := 256, depthLog2 := 2, credits := 3, jobs := [{ jobOf .waitKv [] with pages := [524294] }] })
    25000000, 0, { jobOf .waitKv [] with pages := [524294] }, by decide +kernel⟩, ⟨late (on0
    { state := .active, engine := 256, depthLog2 := 2, credits := 3, jobs := [{ jobOf .waitKv [] with pages := [524294] }] })
    24999999, 0, { jobOf .waitKv [] with pages := [524294] }, by decide +kernel⟩, ⟨ready.setKvMaps [(3, 1)],
    by decide +kernel⟩, ⟨mapped ready, by decide +kernel⟩⟩

/-- 12 witnesses of the hypotheses of Obligations.Sessions. -/
theorem test_met_Sessions :
    (∃ (s : State) (q : QueueId) (d : Nat), s.samplerUp (dieOfQueue q.toNat) = true ∧ s.atEngine q.toNat 5 = some d ∧
    dOpcode d = 0x41 ∧ sdOp d = 0 ∧ sdReserved d = false ∧ (s.session (sdSession d)).isOpen = false ∧ (s.part (s.queue
    q.toNat).part).hasSession (sdSession d) = true ∧ s.sessionCheck (dieOfQueue q.toNat) (s.queue q.toNat).part
    (sessionAfter {} d (s.queue q.toNat).part true (if sdGset d then sdGstate d else 0)) = 0) ∧ (∃ (s : State) (q :
    QueueId) (d : Nat), s.samplerUp (dieOfQueue q.toNat) = true ∧ s.atEngine q.toNat 5 = some d ∧ dOpcode d = 0x41 ∧
    sdReserved d = false ∧ (s.session (sdSession d)).isOpen = true ∧ (s.session (sdSession d)).partition.toNat ≠
    (s.queue q.toNat).part) ∧ (∃ (s : State) (q : QueueId) (d : Nat), s.samplerUp (dieOfQueue q.toNat) = true ∧
    s.atEngine q.toNat 5 = some d ∧ dOpcode d = 0x41 ∧ sdReserved d = false ∧ (s.session (sdSession d)).isOpen = true
    ∧ (s.session (sdSession d)).partition.toNat ≠ (s.queue q.toNat).part) ∧ (∃ (s : State) (q : QueueId) (d : Nat),
    s.samplerUp (dieOfQueue q.toNat) = true ∧ s.atEngine q.toNat 5 = some d ∧ dOpcode d = 0x41 ∧ sdReserved d = false
    ∧ (s.session (sdSession d)).isOpen = false) ∧ (∃ (s : State) (q : QueueId) (d : Nat), s.samplerUp (dieOfQueue
    q.toNat) = true ∧ s.atEngine q.toNat 5 = some d ∧ dOpcode d = 0x41 ∧ sdReserved d = false ∧ (s.session (sdSession
    d)).isOpen = false) ∧ (∃ (s : State) (q : QueueId) (d : Nat), s.samplerUp (dieOfQueue q.toNat) = true ∧ s.atEngine
    q.toNat 5 = some d ∧ dOpcode d = 0x41 ∧ sdOp d = 1 ∧ sdReserved d = false ∧ (s.session (sdSession d)).isOf
    (s.queue q.toNat).part = true ∧ s.sessionCheck (dieOfQueue q.toNat) (s.queue q.toNat).part (sessionAfter
    (s.session (sdSession d)) d (s.queue q.toNat).part (sdReseed d) (if sdGset d then sdGstate d else if sdGrammar d =
    (s.session (sdSession d)).grammar.toNat then (s.session (sdSession d)).gstate.toNat else 0)) = 0) ∧ (∃ (s : State)
    (q : QueueId) (d : Nat), s.samplerUp (dieOfQueue q.toNat) = true ∧ s.atEngine q.toNat 5 = some d ∧ dOpcode d =
    0x41 ∧ sdOp d = 1 ∧ sdReserved d = false ∧ (s.session (sdSession d)).isOf (s.queue q.toNat).part = true ∧
    s.sessionCheck (dieOfQueue q.toNat) (s.queue q.toNat).part (sessionAfter (s.session (sdSession d)) d (s.queue
    q.toNat).part (sdReseed d) (if sdGset d then sdGstate d else if sdGrammar d = (s.session (sdSession
    d)).grammar.toNat then (s.session (sdSession d)).gstate.toNat else 0)) = 0) ∧ (∃ (s : State) (q : QueueId) (d :
    Nat), s.samplerUp (dieOfQueue q.toNat) = true ∧ s.atEngine q.toNat 5 = some d ∧ dOpcode d = 0x41 ∧ sdOp d = 2 ∧
    sdReserved d = false ∧ (s.session (sdSession d)).isOf (s.queue q.toNat).part = true) ∧ (∃ (s : State) (q :
    QueueId) (d : Nat), s.samplerUp (dieOfQueue q.toNat) = true ∧ s.atEngine q.toNat 5 = some d ∧ dOpcode d = 0x41 ∧
    sdReserved d = true) ∧ (∃ (x : Session), (0x7F800000 ≤ x.temperature.toNat ∨ x.topP = 0 ∨ 0x3F800000 <
    x.topP.toNat)) ∧ (∃ (x : Session), (0x7F800000 ≤ x.temperature.toNat ∨ x.topP = 0 ∨ 0x3F800000 < x.topP.toNat)) ∧
    (∃ (x : Session), (0x7F800000 ≤ x.temperature.toNat ∨ x.topP = 0 ∨ 0x3F800000 < x.topP.toNat)) :=
  ⟨⟨(mapped (handed 1280 [(56, 65), (64, 3), (352, 1065353216)])).setParts [(0,
    { state := .active, subs := 1, q0 := (0, 8), sess := (0, 4) })], 0, word [(56, 65), (64, 3), (352, 1065353216)],
    by decide +kernel⟩, ⟨(mapped (handed 1280 [(56, 65), (64, 3)])).setSess [(3, { isOpen := true, partition := 1 })],
    0, word [(56, 65), (64, 3)], by decide +kernel⟩, ⟨(mapped (handed 1280 [(56, 65), (64, 3), (303, 2)])).setSess
    [(3, { isOpen := true, partition := 1 })], 0, word [(56, 65), (64, 3), (303, 2)], by decide +kernel⟩, ⟨mapped
    (handed 1280 [(56, 65), (64, 3), (303, 1)]), 0, word [(56, 65), (64, 3), (303, 1)], by decide +kernel⟩, ⟨mapped
    (handed 1280 [(56, 65), (64, 3), (303, 2)]), 0, word [(56, 65), (64, 3), (303, 2)], by decide +kernel⟩, ⟨(mapped
    (handed 1280 [(56, 65), (64, 3), (352, 1065353216), (303, 1)])).setSess [(3, { isOpen := true, partition := 0 })],
    0, word [(56, 65), (64, 3), (352, 1065353216), (303, 1)], by decide +kernel⟩, ⟨(mapped (handed 1280 [(56, 65),
    (64, 3), (352, 1065353216), (303, 1), (302, 1), (416, 7)])).setSess [(3, { isOpen := true, partition := 0 })], 0,
    word [(56, 65), (64, 3), (352, 1065353216), (303, 1), (302, 1), (416, 7)], by decide +kernel⟩, ⟨(mapped (handed
    1280 [(56, 65), (64, 3), (303, 2)])).setSess [(3, { isOpen := true, partition := 0 })], 0, word [(56, 65), (64,
    3), (303, 2)], by decide +kernel⟩, ⟨mapped (handed 1280 [(56, 65), (82, 1)]), 0, word [(56, 65), (82, 1)],
    by decide +kernel⟩, ⟨{ temperature := 0x7F800000 }, by decide +kernel⟩, ⟨{ topP := 0 }, by decide +kernel⟩,
    ⟨{ topP := 0x3F800001 }, by decide +kernel⟩⟩

/-- 5 witnesses of the hypotheses of Obligations.Sampling. -/
theorem test_met_Sampling :
    (∃ (x : Session) (row : Nat) (tok : Nat) (allowed : List (Nat × XVal)) (draft : Option Nat) (qs : Option (List XVal)),
    (sampleRow x row allowed draft qs = .emit tok ∨ sampleRow x row allowed draft qs = .accept tok)) ∧ (∃ (x :
    Session) (row : Nat) (tok : Nat) (allowed : List (Nat × XVal)) (draft : Option Nat) (qs : Option (List XVal)),
    sampleRow x row allowed draft qs = .accept tok) ∧ (∃ (s : State) (u : State) (v : State) (q : QueueId) (d : Nat)
    (a : Sampled), s.samplerUp (dieOfQueue q.toNat) = true ∧ s.atEngine q.toNat 5 = some d ∧ dOpcode d = 0x40 ∧ fld d
    82 87 = 0 ∧ (s.session (sdSession d)).isOf (s.queue q.toNat).part = true ∧ smRange d = false ∧ (s.session
    (sdSession d)).maskMode = 0 ∧ s.pcheck (dieOfQueue q.toNat) (s.queue q.toNat).part (smOut d) 64 true = (true, u) ∧
    smVocab d ≠ 0 ∧ u.sampleRows (dieOfQueue q.toNat) (s.queue q.toNat).part d (s.session (sdSession d)) none none
    (smDrafts d + 1) 0 { gstate := (s.session (sdSession d)).gstate.toNat } = (a, v) ∧ a.code = 0) ∧ (∃ (s : State) (u
    : State) (v : State) (q : QueueId) (d : Nat) (g : Grammar) (a : Sampled), s.samplerUp (dieOfQueue q.toNat) = true
    ∧ s.atEngine q.toNat 5 = some d ∧ dOpcode d = 0x40 ∧ fld d 82 87 = 0 ∧ (s.session (sdSession d)).isOf (s.queue
    q.toNat).part = true ∧ smRange d = false ∧ (s.session (sdSession d)).maskMode = 1 ∧ s.slot (dieOfQueue q.toNat)
    (s.queue q.toNat).part (s.session (sdSession d)).grammar.toNat = some g ∧ (s.session (sdSession d)).gstate.toNat <
    g.states ∧ g.vocab = smVocab d ∧ s.pcheck (dieOfQueue q.toNat) (s.queue q.toNat).part (smOut d) 64 true = (true,
    u) ∧ smVocab d ≠ 0 ∧ u.sampleRows (dieOfQueue q.toNat) (s.queue q.toNat).part d (s.session (sdSession d)) (some g)
    none (smDrafts d + 1) 0 { gstate := (s.session (sdSession d)).gstate.toNat } = (a, v)) ∧ (∃ (s : State) (q :
    QueueId) (d : Nat), s.samplerUp (dieOfQueue q.toNat) = true ∧ s.atEngine q.toNat 5 = some d ∧ dOpcode d = 0x40 ∧
    fld d 82 87 = 0 ∧ (s.session (sdSession d)).isOf (s.queue q.toNat).part = false) :=
  ⟨⟨{}, 0, 4, [(4, .zero)], none, none, Or.inl rfl⟩, ⟨{}, 0, 4, [(4, .zero)], some 4, none, rfl⟩, ⟨(mapped (handed 1280
    [(56, 64), (64, 3), (360, 1), (337, 1), (313, 32), (217, 4096)])).setSess [(3,
    { isOpen := true, maskMode := 0 })], (State.pcheck ((mapped (handed 1280 [(56, 64), (64, 3), (360, 1), (337, 1),
    (313, 32), (217, 4096)])).setSess [(3, { isOpen := true, maskMode := 0 })]) 0 0 4096 64 true).2, (State.sampleRows
    (State.pcheck ((mapped (handed 1280 [(56, 64), (64, 3), (360, 1), (337, 1), (313, 32), (217, 4096)])).setSess [(3,
    { isOpen := true, maskMode := 0 })]) 0 0 4096 64 true).2 0 0 (word [(56, 64), (64, 3), (360, 1), (337, 1), (313,
    32), (217, 4096)]) ({ isOpen := true, maskMode := 0 } : Session) none none 1 0 { gstate := 0 }).2, 0, word [(56,
    64), (64, 3), (360, 1), (337, 1), (313, 32), (217, 4096)], (State.sampleRows (State.pcheck ((mapped (handed 1280
    [(56, 64), (64, 3), (360, 1), (337, 1), (313, 32), (217, 4096)])).setSess [(3,
    { isOpen := true, maskMode := 0 })]) 0 0 4096 64 true).2 0 0 (word [(56, 64), (64, 3), (360, 1), (337, 1), (313,
    32), (217, 4096)]) ({ isOpen := true, maskMode := 0 } : Session) none none 1 0 { gstate := 0 }).1,
    by decide +kernel, by decide +kernel, by decide +kernel, by decide +kernel, by decide +kernel, by decide +kernel,
    by decide +kernel, by decide +kernel, by decide +kernel, rfl, by decide +kernel⟩, ⟨((mapped (handed 1280 [(56,
    64), (64, 3), (360, 1), (337, 1), (313, 32), (217, 4096)])).setSess [(3,
    { isOpen := true, maskMode := 1 })]).setGrammars [(0,
    { part := 0, page := 0, states := 1, ranges := 1, vocab := 1 })], (State.pcheck (((mapped (handed 1280 [(56, 64),
    (64, 3), (360, 1), (337, 1), (313, 32), (217, 4096)])).setSess [(3,
    { isOpen := true, maskMode := 1 })]).setGrammars [(0,
    { part := 0, page := 0, states := 1, ranges := 1, vocab := 1 })]) 0 0 4096 64 true).2, (State.sampleRows
    (State.pcheck (((mapped (handed 1280 [(56, 64), (64, 3), (360, 1), (337, 1), (313, 32), (217, 4096)])).setSess
    [(3, { isOpen := true, maskMode := 1 })]).setGrammars [(0,
    { part := 0, page := 0, states := 1, ranges := 1, vocab := 1 })]) 0 0 4096 64 true).2 0 0 (word [(56, 64), (64,
    3), (360, 1), (337, 1), (313, 32), (217, 4096)]) ({ isOpen := true, maskMode := 1 } : Session) (some
    { part := 0, page := 0, states := 1, ranges := 1, vocab := 1 }) none 1 0 { gstate := 0 }).2, 0, word [(56, 64),
    (64, 3), (360, 1), (337, 1), (313, 32), (217, 4096)],
    { part := 0, page := 0, states := 1, ranges := 1, vocab := 1 }, (State.sampleRows (State.pcheck (((mapped (handed
    1280 [(56, 64), (64, 3), (360, 1), (337, 1), (313, 32), (217, 4096)])).setSess [(3,
    { isOpen := true, maskMode := 1 })]).setGrammars [(0,
    { part := 0, page := 0, states := 1, ranges := 1, vocab := 1 })]) 0 0 4096 64 true).2 0 0 (word [(56, 64), (64,
    3), (360, 1), (337, 1), (313, 32), (217, 4096)]) ({ isOpen := true, maskMode := 1 } : Session) (some
    { part := 0, page := 0, states := 1, ranges := 1, vocab := 1 }) none 1 0 { gstate := 0 }).1, by decide +kernel,
    by decide +kernel, by decide +kernel, by decide +kernel, by decide +kernel, by decide +kernel, by decide +kernel,
    by decide +kernel, by decide +kernel, by decide +kernel, by decide +kernel, by decide +kernel, rfl⟩, ⟨mapped
    (handed 1280 [(56, 64), (64, 3), (360, 1), (337, 1), (313, 32), (217, 4096)]), 0, word [(56, 64), (64, 3), (360,
    1), (337, 1), (313, 32), (217, 4096)], by decide +kernel⟩⟩

/-- 6 witnesses of the hypotheses of Obligations.GrammarWalker. -/
theorem test_met_GrammarWalker :
    (∃ (s : State) (u : State) (q : QueueId) (d : Nat) (bs : List (Byte × Bool)), s.samplerUp (dieOfQueue q.toNat) = true
    ∧ s.atEngine q.toNat 6 = some d ∧ dOpcode d = 0x48 ∧ wkReserved d = false ∧ 0 < wkVocab d ∧ wkVocab d ≤ 262144 ∧ 0
    < wkStates d ∧ wkStates d ≤ 4096 ∧ AMap.find s.grammars (16384 * dieOfQueue q.toNat + wkSlot d) = none ∧ s.mread
    (dieOfQueue q.toNat) (s.queue q.toNat).part (4096 * wkPage d) (tableAt (wkStates d) + 8 * wkRanges d) = (some bs,
    u) ∧ imageBad bs (wkVocab d) (wkStates d) (wkRanges d) = false ∧ bs.any (·.2) = false) ∧ (∃ (s : State) (u :
    State) (q : QueueId) (d : Nat) (bs : List (Byte × Bool)), s.samplerUp (dieOfQueue q.toNat) = true ∧ s.atEngine
    q.toNat 6 = some d ∧ dOpcode d = 0x48 ∧ wkReserved d = false ∧ 0 < wkVocab d ∧ wkVocab d ≤ 262144 ∧ 0 < wkStates d
    ∧ wkStates d ≤ 4096 ∧ s.mread (dieOfQueue q.toNat) (s.queue q.toNat).part (4096 * wkPage d) (tableAt (wkStates d)
    + 8 * wkRanges d) = (some bs, u) ∧ imageBad bs (wkVocab d) (wkStates d) (wkRanges d) = true) ∧ (∃ (s : State) (q :
    QueueId) (d : Nat) (g : Grammar), s.samplerUp (dieOfQueue q.toNat) = true ∧ s.atEngine q.toNat 6 = some d ∧
    dOpcode d = 0x49 ∧ wkReserved d = false ∧ s.slot (dieOfQueue q.toNat) (s.queue q.toNat).part (wkSlot d) = some g ∧
    s.sess.any (fun x => x.2.isOf (s.queue q.toNat).part && x.2.usesGrammar && x.2.grammar.toNat = wkSlot d) = false)
    ∧ (∃ (s : State) (q : QueueId) (d : Nat) (g : Grammar), s.samplerUp (dieOfQueue q.toNat) = true ∧ s.atEngine
    q.toNat 6 = some d ∧ dOpcode d = 0x49 ∧ wkReserved d = false ∧ s.slot (dieOfQueue q.toNat) (s.queue q.toNat).part
    (wkSlot d) = some g ∧ s.sess.any (fun x => x.2.isOf (s.queue q.toNat).part && x.2.usesGrammar && x.2.grammar.toNat
    = wkSlot d) = true) ∧ (∃ (s : State) (u : State) (q : QueueId) (d : Nat) (st : Nat) (k : Nat) (c : Nat) (g :
    Grammar), s.samplerUp (dieOfQueue q.toNat) = true ∧ s.atEngine q.toNat 6 = some d ∧ dOpcode d = 0x4A ∧ wkReserved
    d = false ∧ (s.session (sdSession d)).isOf (s.queue q.toNat).part = true ∧ s.slot (dieOfQueue q.toNat) (s.queue
    q.toNat).part (s.session (sdSession d)).grammar.toNat = some g ∧ (s.session (sdSession d)).gstate.toNat < g.states
    ∧ s.walkTokens (dieOfQueue q.toNat) g ((upto (wkCount d)).map (wkToken d)) (s.session (sdSession d)).gstate.toNat
    0 = ((st, k, c), u) ∧ (c = 0 ∨ c = 0xAC)) ∧ (∃ (s : State) (u : State) (q : QueueId) (d : Nat) (st : Nat) (k :
    Nat) (c : Nat) (g : Grammar), s.samplerUp (dieOfQueue q.toNat) = true ∧ s.atEngine q.toNat 6 = some d ∧ dOpcode d
    = 0x4A ∧ wkReserved d = false ∧ (s.session (sdSession d)).isOf (s.queue q.toNat).part = true ∧ s.slot (dieOfQueue
    q.toNat) (s.queue q.toNat).part (s.session (sdSession d)).grammar.toNat = some g ∧ (s.session (sdSession
    d)).gstate.toNat < g.states ∧ s.walkTokens (dieOfQueue q.toNat) g ((upto (wkCount d)).map (wkToken d)) (s.session
    (sdSession d)).gstate.toNat 0 = ((st, k, c), u) ∧ (c = 0 ∨ c = 0xAC)) :=
  ⟨⟨mapped (handed 1536 [(56, 72), (345, 1), (332, 1)]), (State.mread (mapped (handed 1536 [(56, 72), (345, 1), (332,
    1)])) 0 0 0 72).2, 0, word [(56, 72), (345, 1), (332, 1)], (State.mread (mapped (handed 1536 [(56, 72), (345, 1),
    (332, 1)])) 0 0 0 72).1.getD [], by decide +kernel⟩, ⟨(mapped (handed 1536 [(56, 72), (345, 1), (332,
    1)])).setDram [(0, { mem := { cells := [(7, 1)] } })], (State.mread ((mapped (handed 1536 [(56, 72), (345, 1),
    (332, 1)])).setDram [(0, { mem := { cells := [(7, 1)] } })]) 0 0 0 72).2, 0, word [(56, 72), (345, 1), (332, 1)],
    (State.mread ((mapped (handed 1536 [(56, 72), (345, 1), (332, 1)])).setDram [(0,
    { mem := { cells := [(7, 1)] } })]) 0 0 0 72).1.getD [], by decide +kernel⟩, ⟨(mapped (handed 1536 [(56, 73), (82,
    5)])).setGrammars [(5, { part := 0, page := 0, states := 1, ranges := 1, vocab := 1 })], 0, word [(56, 73), (82,
    5)], { part := 0, page := 0, states := 1, ranges := 1, vocab := 1 }, by decide +kernel⟩, ⟨((mapped (handed 1536
    [(56, 73), (82, 5)])).setGrammars [(5, { part := 0, page := 0, states := 1, ranges := 1, vocab := 1 })]).setSess
    [(3, { isOpen := true, maskMode := 1, grammar := 5 })], 0, word [(56, 73), (82, 5)],
    { part := 0, page := 0, states := 1, ranges := 1, vocab := 1 }, by decide +kernel⟩, ⟨(((mapped (handed 1536 [(56,
    74), (64, 3)])).setGrammars [(5, { part := 0, page := 0, states := 1, ranges := 1, vocab := 1 })]).setSess [(3,
    { isOpen := true, maskMode := 1, grammar := 5 })]).setDram [(0, { mem := { cells := [(2, 4)] } })],
    (State.walkTokens ((((mapped (handed 1536 [(56, 74), (64, 3)])).setGrammars [(5,
    { part := 0, page := 0, states := 1, ranges := 1, vocab := 1 })]).setSess [(3,
    { isOpen := true, maskMode := 1, grammar := 5 })]).setDram [(0, { mem := { cells := [(2, 4)] } })]) 0
    { part := 0, page := 0, states := 1, ranges := 1, vocab := 1 } ((upto 1).map (wkToken (word [(56, 74), (64, 3)])))
    0 0).2, 0, word [(56, 74), (64, 3)], (State.walkTokens ((((mapped (handed 1536 [(56, 74), (64, 3)])).setGrammars
    [(5, { part := 0, page := 0, states := 1, ranges := 1, vocab := 1 })]).setSess [(3,
    { isOpen := true, maskMode := 1, grammar := 5 })]).setDram [(0, { mem := { cells := [(2, 4)] } })]) 0
    { part := 0, page := 0, states := 1, ranges := 1, vocab := 1 } ((upto 1).map (wkToken (word [(56, 74), (64, 3)])))
    0 0).1.1, (State.walkTokens ((((mapped (handed 1536 [(56, 74), (64, 3)])).setGrammars [(5,
    { part := 0, page := 0, states := 1, ranges := 1, vocab := 1 })]).setSess [(3,
    { isOpen := true, maskMode := 1, grammar := 5 })]).setDram [(0, { mem := { cells := [(2, 4)] } })]) 0
    { part := 0, page := 0, states := 1, ranges := 1, vocab := 1 } ((upto 1).map (wkToken (word [(56, 74), (64, 3)])))
    0 0).1.2.1, (State.walkTokens ((((mapped (handed 1536 [(56, 74), (64, 3)])).setGrammars [(5,
    { part := 0, page := 0, states := 1, ranges := 1, vocab := 1 })]).setSess [(3,
    { isOpen := true, maskMode := 1, grammar := 5 })]).setDram [(0, { mem := { cells := [(2, 4)] } })]) 0
    { part := 0, page := 0, states := 1, ranges := 1, vocab := 1 } ((upto 1).map (wkToken (word [(56, 74), (64, 3)])))
    0 0).1.2.2, { part := 0, page := 0, states := 1, ranges := 1, vocab := 1 }, by decide +kernel⟩, ⟨(((mapped (handed
    1536 [(56, 74), (64, 3)])).setGrammars [(5,
    { part := 0, page := 0, states := 1, ranges := 1, vocab := 1 })]).setSess [(3,
    { isOpen := true, maskMode := 1, grammar := 5 })]).setDram [(0, { mem := { cells := [] } })], (State.walkTokens
    ((((mapped (handed 1536 [(56, 74), (64, 3)])).setGrammars [(5,
    { part := 0, page := 0, states := 1, ranges := 1, vocab := 1 })]).setSess [(3,
    { isOpen := true, maskMode := 1, grammar := 5 })]).setDram [(0, { mem := { cells := [] } })]) 0
    { part := 0, page := 0, states := 1, ranges := 1, vocab := 1 } ((upto 1).map (wkToken (word [(56, 74), (64, 3)])))
    0 0).2, 0, word [(56, 74), (64, 3)], (State.walkTokens ((((mapped (handed 1536 [(56, 74), (64, 3)])).setGrammars
    [(5, { part := 0, page := 0, states := 1, ranges := 1, vocab := 1 })]).setSess [(3,
    { isOpen := true, maskMode := 1, grammar := 5 })]).setDram [(0, { mem := { cells := [] } })]) 0
    { part := 0, page := 0, states := 1, ranges := 1, vocab := 1 } ((upto 1).map (wkToken (word [(56, 74), (64, 3)])))
    0 0).1.1, (State.walkTokens ((((mapped (handed 1536 [(56, 74), (64, 3)])).setGrammars [(5,
    { part := 0, page := 0, states := 1, ranges := 1, vocab := 1 })]).setSess [(3,
    { isOpen := true, maskMode := 1, grammar := 5 })]).setDram [(0, { mem := { cells := [] } })]) 0
    { part := 0, page := 0, states := 1, ranges := 1, vocab := 1 } ((upto 1).map (wkToken (word [(56, 74), (64, 3)])))
    0 0).1.2.1, (State.walkTokens ((((mapped (handed 1536 [(56, 74), (64, 3)])).setGrammars [(5,
    { part := 0, page := 0, states := 1, ranges := 1, vocab := 1 })]).setSess [(3,
    { isOpen := true, maskMode := 1, grammar := 5 })]).setDram [(0, { mem := { cells := [] } })]) 0
    { part := 0, page := 0, states := 1, ranges := 1, vocab := 1 } ((upto 1).map (wkToken (word [(56, 74), (64, 3)])))
    0 0).1.2.2, { part := 0, page := 0, states := 1, ranges := 1, vocab := 1 }, by decide +kernel⟩⟩

/-- 10 witnesses of the hypotheses of Obligations.VideoContexts. -/
theorem test_met_VideoContexts :
    (∃ (s : State) (u : State) (q : QueueId) (e : Nat) (d : Nat), s.atVideo q.toNat = some (e, d) ∧ (s.engine e).busy =
    none ∧ s.videoNext e = some q.toNat ∧ dOpcode d = 0x30 ∧ vcOp d = 0 ∧ vcReserved d = false ∧ ((s.engine e).vctx
    (vcCtx d)).state ≠ .opened ∧ s.openRange e (dieOfEngine e) (s.queue q.toNat).part d = true ∧ s.openSpace
    (dieOfEngine e) (s.queue q.toNat).part d = (true, u) ∧ vcW d ≠ 0 ∧ vcH d ≠ 0) ∧ (∃ (s : State) (q : QueueId) (e :
    Nat) (d : Nat), s.atVideo q.toNat = some (e, d) ∧ (s.engine e).busy = none ∧ s.videoNext e = some q.toNat ∧
    dOpcode d = 0x30 ∧ vcOp d = 0 ∧ vcReserved d = false ∧ ((s.engine e).vctx (vcCtx d)).state = .opened) ∧ (∃ (s :
    State) (q : QueueId) (e : Nat) (d : Nat), s.atVideo q.toNat = some (e, d) ∧ (s.engine e).busy = none ∧ s.videoNext
    e = some q.toNat ∧ dOpcode d = 0x30 ∧ vcOp d = 0 ∧ vcReserved d = false ∧ ((s.engine e).vctx (vcCtx d)).state ≠
    .opened ∧ s.openRange e (dieOfEngine e) (s.queue q.toNat).part d = false) ∧ (∃ (s : State) (u : State) (q :
    QueueId) (e : Nat) (d : Nat), s.atVideo q.toNat = some (e, d) ∧ (s.engine e).busy = none ∧ s.videoNext e = some
    q.toNat ∧ dOpcode d = 0x30 ∧ vcOp d = 1 ∧ vcReserved d = false ∧ ((s.engine e).vctx (vcCtx d)).openOn q.toNat =
    true ∧ (isEncoder e = false ∨ ratesOk (updatedDesc ((s.engine e).vctx (vcCtx d)).desc.toNat d) = true) ∧
    s.vcEventOk (dieOfEngine e) (s.queue q.toNat).part d = true ∧ vcProgress d % 8 = 0 ∧ s.pcheck (dieOfEngine e)
    (s.queue q.toNat).part (vcProgress d) (if vcProgress d = 0 then 0 else 8) true = (true, u)) ∧ (∃ (s : State) (q :
    QueueId) (e : Nat) (d : Nat), s.atVideo q.toNat = some (e, d) ∧ (s.engine e).busy = none ∧ s.videoNext e = some
    q.toNat ∧ dOpcode d = 0x30 ∧ vcReserved d = false ∧ ((s.engine e).vctx (vcCtx d)).openOn q.toNat = false) ∧ (∃ (s
    : State) (q : QueueId) (e : Nat) (d : Nat), s.atVideo q.toNat = some (e, d) ∧ (s.engine e).busy = none ∧
    s.videoNext e = some q.toNat ∧ dOpcode d = 0x30 ∧ vcReserved d = false ∧ ((s.engine e).vctx (vcCtx d)).openOn
    q.toNat = false) ∧ (∃ (s : State) (q : QueueId) (e : Nat) (d : Nat), s.atVideo q.toNat = some (e, d) ∧ (s.engine
    e).busy = none ∧ s.videoNext e = some q.toNat ∧ dOpcode d = 0x30 ∧ vcOp d = 2 ∧ vcReserved d = false ∧ ((s.engine
    e).vctx (vcCtx d)).openOn q.toNat = true) ∧ (∃ (s : State) (q : QueueId) (e : Nat) (d : Nat), s.atVideo q.toNat =
    some (e, d) ∧ (s.engine e).busy = none ∧ s.videoNext e = some q.toNat ∧ dOpcode d = 0x30 ∧ vcOp d = 3 ∧ vcReserved
    d = false ∧ ((s.engine e).vctx (vcCtx d)).openOn q.toNat = true) ∧ (∃ (s : State) (q : QueueId) (e : Nat) (d :
    Nat) (b : Nat) (c : VCtx), s.atVideo q.toNat = some (e, d) ∧ (s.engine e).busy = none ∧ s.videoNext e = some
    q.toNat ∧ dOpcode d = 0x30 ∧ vcOp d = 4 ∧ vcReserved d = false ∧ ((s.engine e).vctx (vcCtx d)).state ≠ .opened ∧
    vcSrcEngine d < (if isEncoder e then 2 else 4) ∧ s.adoptable e (s.queue q.toNat).part d = some (b, c)) ∧ (∃ (s :
    State) (q : QueueId) (e : Nat) (d : Nat), s.atVideo q.toNat = some (e, d) ∧ (s.engine e).busy = none ∧ s.videoNext
    e ≠ some q.toNat) :=
  ⟨⟨mapped (handed 768 [(56, 48), (64, 7), (152, 1), (408, 16), (392, 16), (376, 64), (432, 8192)]), ((mapped (handed
    768 [(56, 48), (64, 7), (152, 1), (408, 16), (392, 16), (376, 64), (432, 8192)])).openSpace 0 0 (word [(56, 48),
    (64, 7), (152, 1), (408, 16), (392, 16), (376, 64), (432, 8192)])).2, 0, 0, word [(56, 48), (64, 7), (152, 1),
    (408, 16), (392, 16), (376, 64), (432, 8192)], by decide +kernel⟩, ⟨(mapped (handed 771 [(56, 48), (64,
    7)])).setVideo [(3,
    { ctx := [(7, { state := .opened, queue := 0, desc := BitVec.ofNat 512 (word [(152, 1)]) })] })], 0, 3, word [(56,
    48), (64, 7)], by decide +kernel⟩, ⟨mapped (handed 1025 [(56, 48), (64, 7)]), 0, 5, word [(56, 48), (64, 7)],
    by decide +kernel⟩, ⟨(mapped (handed 768 [(56, 48), (64, 7), (148, 1), (305, 8192)])).setVideo [(0,
    { ctx := [(7, { state := .opened, queue := 0, desc := BitVec.ofNat 512 (word [(152, 1)]) })] })], (State.pcheck
    ((mapped (handed 768 [(56, 48), (64, 7), (148, 1), (305, 8192)])).setVideo [(0,
    { ctx := [(7, { state := .opened, queue := 0, desc := BitVec.ofNat 512 (word [(152, 1)]) })] })]) 0 0 8192 8
    true).2, 0, 0, word [(56, 48), (64, 7), (148, 1), (305, 8192)], by decide +kernel⟩, ⟨mapped (handed 768 [(56, 48),
    (64, 7), (148, 1)]), 0, 0, word [(56, 48), (64, 7), (148, 1)], by decide +kernel⟩, ⟨mapped (handed 768 [(56, 48),
    (64, 7), (148, 3)]), 0, 0, word [(56, 48), (64, 7), (148, 3)], by decide +kernel⟩, ⟨(mapped (handed 768 [(56, 48),
    (64, 7), (148, 2)])).setVideo [(0,
    { ctx := [(7, { state := .opened, queue := 0, desc := BitVec.ofNat 512 (word [(152, 1)]) })] })], 0, 0, word [(56,
    48), (64, 7), (148, 2)], by decide +kernel⟩, ⟨(mapped (handed 768 [(56, 48), (64, 7), (148, 3)])).setVideo [(0,
    { ctx := [(7, { state := .opened, queue := 0, desc := BitVec.ofNat 512 (word [(152, 1)]) })] })], 0, 0, word [(56,
    48), (64, 7), (148, 3)], by decide +kernel⟩, ⟨(mapped (handed 768 [(56, 48), (64, 7), (148, 4), (164, 1), (156,
    9)])).setVideo [(1, { ctx := [(9, { state := .detached })] })], 0, 0, word [(56, 48), (64, 7), (148, 4), (164, 1),
    (156, 9)], 1, { state := .detached }, by decide +kernel⟩, ⟨(mapped (handed 768 [(56, 48), (64, 7)])).setQueues
    [(0, busyQ 768 .handed [(56, 48), (64, 7)]), (1, busyQ 768 .handed [(56, 48), (64, 7)])], 1, 0, word [(56, 48),
    (64, 7)], by decide +kernel⟩⟩

/-- 13 witnesses of the hypotheses of Obligations.VideoPictures. -/
theorem test_met_VideoPictures :
    (∃ (c : VCtx) (b : Nat), c.freeBuffer = some b) ∧ (∃ (s : State) (u : State) (q : QueueId) (r : DecodeReport) (e :
    Nat) (d : Nat) (c : VCtx) (j : VJob), s.atVideo q.toNat = some (e, d) ∧ e < 4 ∧ dOpcode d = 0x31 ∧ (((s.engine
    e).busy = none ∧ s.videoNext e = some q.toNat ∧ videoReserved d = false) ∨ (s.engine e).busy = some j) ∧ j.queue =
    q ∧ s.decodeJob q.toNat e (s.queue q.toNat).part d r = (.ok (c, j), u)) ∧ (∃ (s : State) (u : State) (q : QueueId)
    (r : DecodeReport) (e : Nat) (d : Nat) (c : VCtx) (j : VJob), s.atVideo q.toNat = some (e, d) ∧ e < 4 ∧ dOpcode d
    = 0x31 ∧ (((s.engine e).busy = none ∧ s.videoNext e = some q.toNat ∧ videoReserved d = false) ∨ (s.engine e).busy
    = some j) ∧ j.queue = q ∧ s.decodeJob q.toNat e (s.queue q.toNat).part d r = (.ok (c, j), u)) ∧ (∃ (s : State) (u
    : State) (v : State) (v' : State) (q : QueueId) (r : DecodeReport) (e : Nat) (d : Nat) (c : VCtx) (j : VJob) (sp :
    StreamParams) (bad : Bool) (x : Option Content), s.atVideo q.toNat = some (e, d) ∧ e < 4 ∧ dOpcode d = 0x31 ∧
    (((s.engine e).busy = none ∧ s.videoNext e = some q.toNat ∧ videoReserved d = false) ∨ (s.engine e).busy = some j)
    ∧ j.queue = q ∧ s.decodeJob q.toNat e (s.queue q.toNat).part d r = (.ok (c, j), u) ∧ (c.judge (vdBytes d)
    j.unit).existing = none ∧ (c.judge (vdBytes d) j.unit).picType ≠ 3 ∧ (c.judge (vdBytes d) j.unit).sp = some sp ∧
    u.refPoison (dieOfEngine e) (s.queue q.toNat).part c.desc.toNat c.refHeld.toNat (decide ((c.judge (vdBytes d)
    j.unit).picType ≠ 0)) = (bad, v) ∧ v.content (dieOfEngine e) (s.queue q.toNat).part c j (c.judge (vdBytes d)
    j.unit) sp = (x, v')) ∧ (∃ (s : State) (u : State) (q : QueueId) (r : DecodeReport) (e : Nat) (d : Nat) (code :
    Nat), s.atVideo q.toNat = some (e, d) ∧ (s.engine e).busy = none ∧ s.videoNext e = some q.toNat ∧ e < 4 ∧ dOpcode
    d = 0x31 ∧ videoReserved d = false ∧ s.decodeJob q.toNat e (s.queue q.toNat).part d r = (.error code, u)) ∧ (∃ (s
    : State) (u : State) (v : State) (w : State) (q : QueueId) (e : Nat) (d : Nat) (c : VCtx) (j : VJob) (pic : List
    Byte) (regions : List Nat), s.atVideo q.toNat = some (e, d) ∧ 4 ≤ e ∧ dOpcode d = 0x32 ∧ (((s.engine e).busy =
    none ∧ s.videoNext e = some q.toNat ∧ videoReserved d = false) ∨ (s.engine e).busy = some j) ∧ j.queue = q ∧
    s.encodeJob q.toNat e (s.queue q.toNat).part d = (.ok (c, j), u) ∧ u.encodeReads (dieOfEngine e) (s.queue
    q.toNat).part d c.desc.toNat = (.ok (pic, regions), v) ∧ v.refPoison (dieOfEngine e) (s.queue q.toNat).part
    c.desc.toNat c.refHeld.toNat (!c.codesIdr d) = (false, w)) ∧ (∃ (s : State) (u : State) (v : State) (q : QueueId)
    (e : Nat) (d : Nat) (code : Nat) (c : VCtx) (j : VJob), s.atVideo q.toNat = some (e, d) ∧ 4 ≤ e ∧ dOpcode d = 0x32
    ∧ (((s.engine e).busy = none ∧ s.videoNext e = some q.toNat ∧ videoReserved d = false) ∨ (s.engine e).busy = some
    j) ∧ j.queue = q ∧ s.encodeJob q.toNat e (s.queue q.toNat).part d = (.ok (c, j), u) ∧ u.encodeReads (dieOfEngine
    e) (s.queue q.toNat).part d c.desc.toNat = (.error code, v)) ∧ (∃ (s : State) (u : State) (q : QueueId) (e : Nat)
    (d : Nat) (code : Nat), s.atVideo q.toNat = some (e, d) ∧ (s.engine e).busy = none ∧ s.videoNext e = some q.toNat
    ∧ 4 ≤ e ∧ dOpcode d = 0x32 ∧ videoReserved d = false ∧ s.encodeJob q.toNat e (s.queue q.toNat).part d = (.error
    code, u)) ∧ (∃ (c : VCtx) (d : Nat), (c.pictures = 0 ∨ veForce d = true)) ∧ (∃ (c : VCtx) (d : Nat), (c.pictures =
    0 ∨ veForce d = true)) ∧ (∃ (s : State) (u : State) (v : State) (q : QueueId) (count : BitVec 15) (bytes : BitVec
    32) (e : Nat) (d : Nat) (c : VCtx) (j : VJob) (x : List Byte × List Nat), s.atVideo q.toNat = some (e, d) ∧
    s.inFlight e = some q.toNat ∧ videoReserved d = false ∧ 4 ≤ e ∧ dOpcode d = 0x32 ∧ s.encodeJob q.toNat e (s.queue
    q.toNat).part d = (.ok (c, j), u) ∧ vcSubframe c.desc.toNat = true ∧ count.toNat = j.count + 1 ∧ c.sliceFits
    (c.codesIdr d) j.ends bytes.toNat = true ∧ u.encodeReads (dieOfEngine e) (s.queue q.toNat).part d c.desc.toNat =
    (.ok x, v)) ∧ (∃ (s : State) (u : State) (v : State) (q : QueueId) (r : DecodeReport) (count : BitVec 15) (e :
    Nat) (d : Nat) (c : VCtx) (j : VJob) (sp : StreamParams) (x : Content), s.atVideo q.toNat = some (e, d) ∧
    s.inFlight e = some q.toNat ∧ videoReserved d = false ∧ e < 4 ∧ dOpcode d = 0x31 ∧ s.decodeJob q.toNat e (s.queue
    q.toNat).part d r = (.ok (c, j), u) ∧ (c.judge (vdBytes d) j.unit).existing = none ∧ (c.judge (vdBytes d)
    j.unit).picType ≠ 3 ∧ (c.judge (vdBytes d) j.unit).sp = some sp ∧ u.content (dieOfEngine e) (s.queue q.toNat).part
    c j (c.judge (vdBytes d) j.unit) sp = (some x, v) ∧ vcSubframe c.desc.toNat = true ∧ count.toNat = j.count + 1 ∧
    count.toNat < x.bands.length) ∧ (∃ (s : State) (q : QueueId) (e : Nat) (d : Nat), s.atVideo q.toNat = some (e, d)
    ∧ s.inFlight e ≠ some q.toNat) :=
  ⟨⟨{ state := .opened, queue := 0, desc := BitVec.ofNat 512 (word [(152, 1)]) }, 0, by decide +kernel⟩, ⟨(mapped
    (handed 768 [(56, 49), (64, 7), (400, 8192), (376, 16)])).setVideo [(0,
    { ctx := [(7, { state := .opened, queue := 0, desc := BitVec.ofNat 512 (word [(152, 3), (408, 16), (392, 16), (376, 64), (432, 16384), (464, 0)]), slots := [some 0], pics := [(0, {})] })], busy := some { queue := 0, start := 0, key := 9, buffer := 0, unit := { existing := some 0 } } })],
    (mapped (handed 768 [(56, 49), (64, 7), (400, 8192), (376, 16)])).setVideo [(0,
    { ctx := [(7, { state := .opened, queue := 0, desc := BitVec.ofNat 512 (word [(152, 3), (408, 16), (392, 16), (376, 64), (432, 16384), (464, 0)]), slots := [some 0], pics := [(0, {})] })], busy := some { queue := 0, start := 0, key := 9, buffer := 0, unit := { existing := some 0 } } })],
    0, {}, 0, word [(56, 49), (64, 7), (400, 8192), (376, 16)],
    { state := .opened, queue := 0, desc := BitVec.ofNat 512 (word [(152, 3), (408, 16), (392, 16), (376, 64), (432, 16384), (464, 0)]), slots := [some 0], pics := [(0, {})] },
    { queue := 0, start := 0, key := 9, buffer := 0, unit := { existing := some 0 } }, by decide +kernel,
    by decide +kernel, by decide +kernel, by decide +kernel, by decide +kernel, ok_eq (by decide +kernel)
    (by decide +kernel)⟩, ⟨(mapped (handed 768 [(56, 49), (64, 7), (400, 8192), (376, 16)])).setVideo [(0,
    { ctx := [(7, { state := .opened, queue := 0, desc := BitVec.ofNat 512 (word [(152, 1), (408, 16), (392, 16), (376, 64), (432, 16384), (464, 0)]) })], busy := some { queue := 0, start := 0, key := 9, buffer := 0, unit := {} } })],
    (mapped (handed 768 [(56, 49), (64, 7), (400, 8192), (376, 16)])).setVideo [(0,
    { ctx := [(7, { state := .opened, queue := 0, desc := BitVec.ofNat 512 (word [(152, 1), (408, 16), (392, 16), (376, 64), (432, 16384), (464, 0)]) })], busy := some { queue := 0, start := 0, key := 9, buffer := 0, unit := {} } })],
    0, {}, 0, word [(56, 49), (64, 7), (400, 8192), (376, 16)],
    { state := .opened, queue := 0, desc := BitVec.ofNat 512 (word [(152, 1), (408, 16), (392, 16), (376, 64), (432, 16384), (464, 0)]) },
    { queue := 0, start := 0, key := 9, buffer := 0, unit := {} }, by decide +kernel, by decide +kernel,
    by decide +kernel, by decide +kernel, by decide +kernel, ok_eq (by decide +kernel) (by decide +kernel)⟩, ⟨(mapped
    (handed 768 [(56, 49), (64, 7), (400, 8192), (376, 16)])).setVideo [(0,
    { ctx := [(7, { state := .opened, queue := 0, desc := BitVec.ofNat 512 (word [(152, 1), (408, 16), (392, 16), (376, 64), (432, 16384), (464, 0)]) })], busy := some { queue := 0, start := 0, key := 9, buffer := 0, unit := { params := [(0, { profile := .main264, width := 16, height := 16, cropW := 16, cropH := 16 })], kind := .idr, slices := [{ addrs := [0] }] } } })],
    (mapped (handed 768 [(56, 49), (64, 7), (400, 8192), (376, 16)])).setVideo [(0,
    { ctx := [(7, { state := .opened, queue := 0, desc := BitVec.ofNat 512 (word [(152, 1), (408, 16), (392, 16), (376, 64), (432, 16384), (464, 0)]) })], busy := some { queue := 0, start := 0, key := 9, buffer := 0, unit := { params := [(0, { profile := .main264, width := 16, height := 16, cropW := 16, cropH := 16 })], kind := .idr, slices := [{ addrs := [0] }] } } })],
    (mapped (handed 768 [(56, 49), (64, 7), (400, 8192), (376, 16)])).setVideo [(0,
    { ctx := [(7, { state := .opened, queue := 0, desc := BitVec.ofNat 512 (word [(152, 1), (408, 16), (392, 16), (376, 64), (432, 16384), (464, 0)]) })], busy := some { queue := 0, start := 0, key := 9, buffer := 0, unit := { params := [(0, { profile := .main264, width := 16, height := 16, cropW := 16, cropH := 16 })], kind := .idr, slices := [{ addrs := [0] }] } } })],
    (State.content ((mapped (handed 768 [(56, 49), (64, 7), (400, 8192), (376, 16)])).setVideo [(0,
    { ctx := [(7, { state := .opened, queue := 0, desc := BitVec.ofNat 512 (word [(152, 1), (408, 16), (392, 16), (376, 64), (432, 16384), (464, 0)]) })], busy := some { queue := 0, start := 0, key := 9, buffer := 0, unit := { params := [(0, { profile := .main264, width := 16, height := 16, cropW := 16, cropH := 16 })], kind := .idr, slices := [{ addrs := [0] }] } } })])
    0 0
    { state := .opened, queue := 0, desc := BitVec.ofNat 512 (word [(152, 1), (408, 16), (392, 16), (376, 64), (432, 16384), (464, 0)]) }
    { queue := 0, start := 0, key := 9, buffer := 0, unit := { params := [(0, { profile := .main264, width := 16, height := 16, cropW := 16, cropH := 16 })], kind := .idr, slices := [{ addrs := [0] }] } }
    (VCtx.judge
    { state := .opened, queue := 0, desc := BitVec.ofNat 512 (word [(152, 1), (408, 16), (392, 16), (376, 64), (432, 16384), (464, 0)]) }
    16
    { params := [(0, { profile := .main264, width := 16, height := 16, cropW := 16, cropH := 16 })], kind := .idr, slices := [{ addrs := [0] }] })
    { profile := .main264, width := 16, height := 16, cropW := 16, cropH := 16 }).2, 0, {}, 0, word [(56, 49), (64,
    7), (400, 8192), (376, 16)],
    { state := .opened, queue := 0, desc := BitVec.ofNat 512 (word [(152, 1), (408, 16), (392, 16), (376, 64), (432, 16384), (464, 0)]) },
    { queue := 0, start := 0, key := 9, buffer := 0, unit := { params := [(0, { profile := .main264, width := 16, height := 16, cropW := 16, cropH := 16 })], kind := .idr, slices := [{ addrs := [0] }] } },
    { profile := .main264, width := 16, height := 16, cropW := 16, cropH := 16 }, false, (State.content ((mapped
    (handed 768 [(56, 49), (64, 7), (400, 8192), (376, 16)])).setVideo [(0,
    { ctx := [(7, { state := .opened, queue := 0, desc := BitVec.ofNat 512 (word [(152, 1), (408, 16), (392, 16), (376, 64), (432, 16384), (464, 0)]) })], busy := some { queue := 0, start := 0, key := 9, buffer := 0, unit := { params := [(0, { profile := .main264, width := 16, height := 16, cropW := 16, cropH := 16 })], kind := .idr, slices := [{ addrs := [0] }] } } })])
    0 0
    { state := .opened, queue := 0, desc := BitVec.ofNat 512 (word [(152, 1), (408, 16), (392, 16), (376, 64), (432, 16384), (464, 0)]) }
    { queue := 0, start := 0, key := 9, buffer := 0, unit := { params := [(0, { profile := .main264, width := 16, height := 16, cropW := 16, cropH := 16 })], kind := .idr, slices := [{ addrs := [0] }] } }
    (VCtx.judge
    { state := .opened, queue := 0, desc := BitVec.ofNat 512 (word [(152, 1), (408, 16), (392, 16), (376, 64), (432, 16384), (464, 0)]) }
    16
    { params := [(0, { profile := .main264, width := 16, height := 16, cropW := 16, cropH := 16 })], kind := .idr, slices := [{ addrs := [0] }] })
    { profile := .main264, width := 16, height := 16, cropW := 16, cropH := 16 }).1, by decide +kernel,
    by decide +kernel, by decide +kernel, by decide +kernel, by decide +kernel, ok_eq (by decide +kernel)
    (by decide +kernel), by decide +kernel, by decide +kernel, by decide +kernel, by decide +kernel, pair_eq⟩,
    ⟨(mapped (handed 768 [(56, 49), (64, 7), (400, 8192), (376, 16)])), (State.decodeJob (mapped (handed 768 [(56,
    49), (64, 7), (400, 8192), (376, 16)])) 0 0 0 (word [(56, 49), (64, 7), (400, 8192), (376, 16)]) {}).2, 0, {}, 0,
    word [(56, 49), (64, 7), (400, 8192), (376, 16)], 0xB2, by decide +kernel, by decide +kernel, by decide +kernel,
    by decide +kernel, by decide +kernel, by decide +kernel, err_eq (by decide +kernel) (by decide +kernel)⟩, ⟨(mapped
    (handed 1024 [(56, 50), (64, 7), (72, 16), (352, 65536)])).setVideo [(4,
    { ctx := [(7, { state := .opened, queue := 0, desc := BitVec.ofNat 512 (word [(152, 1), (408, 2), (392, 2), (376, 64), (371, 1)]) })], busy := some { queue := 0, start := 0, key := 9, buffer := 0, unit := {} } })],
    (mapped (handed 1024 [(56, 50), (64, 7), (72, 16), (352, 65536)])).setVideo [(4,
    { ctx := [(7, { state := .opened, queue := 0, desc := BitVec.ofNat 512 (word [(152, 1), (408, 2), (392, 2), (376, 64), (371, 1)]) })], busy := some { queue := 0, start := 0, key := 9, buffer := 0, unit := {} } })],
    (State.encodeReads ((mapped (handed 1024 [(56, 50), (64, 7), (72, 16), (352, 65536)])).setVideo [(4,
    { ctx := [(7, { state := .opened, queue := 0, desc := BitVec.ofNat 512 (word [(152, 1), (408, 2), (392, 2), (376, 64), (371, 1)]) })], busy := some { queue := 0, start := 0, key := 9, buffer := 0, unit := {} } })])
    0 0 (word [(56, 50), (64, 7), (72, 16), (352, 65536)]) (word [(152, 1), (408, 2), (392, 2), (376, 64), (371,
    1)])).2, (State.encodeReads ((mapped (handed 1024 [(56, 50), (64, 7), (72, 16), (352, 65536)])).setVideo [(4,
    { ctx := [(7, { state := .opened, queue := 0, desc := BitVec.ofNat 512 (word [(152, 1), (408, 2), (392, 2), (376, 64), (371, 1)]) })], busy := some { queue := 0, start := 0, key := 9, buffer := 0, unit := {} } })])
    0 0 (word [(56, 50), (64, 7), (72, 16), (352, 65536)]) (word [(152, 1), (408, 2), (392, 2), (376, 64), (371,
    1)])).2, 0, 4, word [(56, 50), (64, 7), (72, 16), (352, 65536)],
    { state := .opened, queue := 0, desc := BitVec.ofNat 512 (word [(152, 1), (408, 2), (392, 2), (376, 64), (371, 1)]) },
    { queue := 0, start := 0, key := 9, buffer := 0, unit := {} }, (getOk (State.encodeReads ((mapped (handed 1024
    [(56, 50), (64, 7), (72, 16), (352, 65536)])).setVideo [(4,
    { ctx := [(7, { state := .opened, queue := 0, desc := BitVec.ofNat 512 (word [(152, 1), (408, 2), (392, 2), (376, 64), (371, 1)]) })], busy := some { queue := 0, start := 0, key := 9, buffer := 0, unit := {} } })])
    0 0 (word [(56, 50), (64, 7), (72, 16), (352, 65536)]) (word [(152, 1), (408, 2), (392, 2), (376, 64), (371,
    1)])).1 ([], [])).1, (getOk (State.encodeReads ((mapped (handed 1024 [(56, 50), (64, 7), (72, 16), (352,
    65536)])).setVideo [(4,
    { ctx := [(7, { state := .opened, queue := 0, desc := BitVec.ofNat 512 (word [(152, 1), (408, 2), (392, 2), (376, 64), (371, 1)]) })], busy := some { queue := 0, start := 0, key := 9, buffer := 0, unit := {} } })])
    0 0 (word [(56, 50), (64, 7), (72, 16), (352, 65536)]) (word [(152, 1), (408, 2), (392, 2), (376, 64), (371,
    1)])).1 ([], [])).2, by decide +kernel, by decide +kernel, by decide +kernel, by decide +kernel,
    by decide +kernel, ok_eq (by decide +kernel) (by decide +kernel), ok_pair (by decide +kernel), by decide +kernel⟩,
    ⟨((mapped (handed 1024 [(56, 50), (64, 7), (72, 16), (352, 65536)])).setDram [(0,
    { mem := { poison := [0] } })]).setVideo [(4,
    { ctx := [(7, { state := .opened, queue := 0, desc := BitVec.ofNat 512 (word [(152, 1), (408, 2), (392, 2), (376, 64), (371, 1)]) })], busy := some { queue := 0, start := 0, key := 9, buffer := 0, unit := {} } })],
    ((mapped (handed 1024 [(56, 50), (64, 7), (72, 16), (352, 65536)])).setDram [(0,
    { mem := { poison := [0] } })]).setVideo [(4,
    { ctx := [(7, { state := .opened, queue := 0, desc := BitVec.ofNat 512 (word [(152, 1), (408, 2), (392, 2), (376, 64), (371, 1)]) })], busy := some { queue := 0, start := 0, key := 9, buffer := 0, unit := {} } })],
    (State.encodeReads (((mapped (handed 1024 [(56, 50), (64, 7), (72, 16), (352, 65536)])).setDram [(0,
    { mem := { poison := [0] } })]).setVideo [(4,
    { ctx := [(7, { state := .opened, queue := 0, desc := BitVec.ofNat 512 (word [(152, 1), (408, 2), (392, 2), (376, 64), (371, 1)]) })], busy := some { queue := 0, start := 0, key := 9, buffer := 0, unit := {} } })])
    0 0 (word [(56, 50), (64, 7), (72, 16), (352, 65536)]) (word [(152, 1), (408, 2), (392, 2), (376, 64), (371,
    1)])).2, 0, 4, word [(56, 50), (64, 7), (72, 16), (352, 65536)], 0xB5,
    { state := .opened, queue := 0, desc := BitVec.ofNat 512 (word [(152, 1), (408, 2), (392, 2), (376, 64), (371, 1)]) },
    { queue := 0, start := 0, key := 9, buffer := 0, unit := {} }, by decide +kernel, by decide +kernel,
    by decide +kernel, by decide +kernel, by decide +kernel, ok_eq (by decide +kernel) (by decide +kernel), err_eq
    (by decide +kernel) (by decide +kernel)⟩, ⟨(mapped (handed 1024 [(56, 50), (64, 7)])).setVideo [(4,
    { ctx := [(7, { state := .opened, queue := 0, desc := BitVec.ofNat 512 (word [(152, 1), (408, 2), (392, 2), (376, 64), (371, 1)]) })] })],
    (State.encodeJob ((mapped (handed 1024 [(56, 50), (64, 7)])).setVideo [(4,
    { ctx := [(7, { state := .opened, queue := 0, desc := BitVec.ofNat 512 (word [(152, 1), (408, 2), (392, 2), (376, 64), (371, 1)]) })] })])
    0 4 0 (word [(56, 50), (64, 7)])).2, 0, 4, word [(56, 50), (64, 7)], 0xB3, by decide +kernel, by decide +kernel,
    by decide +kernel, by decide +kernel, by decide +kernel, by decide +kernel, err_eq (by decide +kernel)
    (by decide +kernel)⟩, ⟨{}, 0, by decide +kernel⟩,
    ⟨{ pictures := 3, desc := BitVec.ofNat 512 (word [(227, 0xFFFF)]) }, word [(287, 1)], by decide +kernel⟩, ⟨(mapped
    (handed 1024 [(56, 50), (64, 7), (72, 16), (352, 65536)])).setVideo [(4,
    { ctx := [(7, { state := .opened, queue := 0, pictures := 1, desc := BitVec.ofNat 512 (word [(152, 1), (408, 2), (392, 2), (376, 64), (371, 1), (304, 1), (201, 3)]) })], busy := some { queue := 0, start := 0, key := 9, buffer := 0, unit := {} } })],
    (mapped (handed 1024 [(56, 50), (64, 7), (72, 16), (352, 65536)])).setVideo [(4,
    { ctx := [(7, { state := .opened, queue := 0, pictures := 1, desc := BitVec.ofNat 512 (word [(152, 1), (408, 2), (392, 2), (376, 64), (371, 1), (304, 1), (201, 3)]) })], busy := some { queue := 0, start := 0, key := 9, buffer := 0, unit := {} } })],
    (State.encodeReads ((mapped (handed 1024 [(56, 50), (64, 7), (72, 16), (352, 65536)])).setVideo [(4,
    { ctx := [(7, { state := .opened, queue := 0, pictures := 1, desc := BitVec.ofNat 512 (word [(152, 1), (408, 2), (392, 2), (376, 64), (371, 1), (304, 1), (201, 3)]) })], busy := some { queue := 0, start := 0, key := 9, buffer := 0, unit := {} } })])
    0 0 (word [(56, 50), (64, 7), (72, 16), (352, 65536)]) (word [(152, 1), (408, 2), (392, 2), (376, 64), (371, 1),
    (304, 1), (201, 3)])).2, 0, 1, 1000, 4, word [(56, 50), (64, 7), (72, 16), (352, 65536)],
    { state := .opened, queue := 0, pictures := 1, desc := BitVec.ofNat 512 (word [(152, 1), (408, 2), (392, 2), (376, 64), (371, 1), (304, 1), (201, 3)]) },
    { queue := 0, start := 0, key := 9, buffer := 0, unit := {} }, getOk (State.encodeReads ((mapped (handed 1024
    [(56, 50), (64, 7), (72, 16), (352, 65536)])).setVideo [(4,
    { ctx := [(7, { state := .opened, queue := 0, pictures := 1, desc := BitVec.ofNat 512 (word [(152, 1), (408, 2), (392, 2), (376, 64), (371, 1), (304, 1), (201, 3)]) })], busy := some { queue := 0, start := 0, key := 9, buffer := 0, unit := {} } })])
    0 0 (word [(56, 50), (64, 7), (72, 16), (352, 65536)]) (word [(152, 1), (408, 2), (392, 2), (376, 64), (371, 1),
    (304, 1), (201, 3)])).1 ([], []), by decide +kernel, by decide +kernel, by decide +kernel, by decide +kernel,
    by decide +kernel, ok_eq (by decide +kernel) (by decide +kernel), by decide +kernel, by decide +kernel,
    by decide +kernel, ok_get (by decide +kernel)⟩, ⟨(mapped (handed 768 [(56, 49), (64, 7), (400, 8192), (376,
    16)])).setVideo [(0,
    { ctx := [(7, { state := .opened, queue := 0, desc := BitVec.ofNat 512 (word [(152, 1), (408, 16), (392, 32), (376, 64), (432, 16384), (464, 0), (304, 1)]) })], busy := some { queue := 0, start := 0, key := 9, buffer := 0, unit := { params := [(0, { profile := .main264, width := 16, height := 32, cropW := 16, cropH := 32 })], kind := .idr, slices := [{ addrs := [0, 1] }] } } })],
    (mapped (handed 768 [(56, 49), (64, 7), (400, 8192), (376, 16)])).setVideo [(0,
    { ctx := [(7, { state := .opened, queue := 0, desc := BitVec.ofNat 512 (word [(152, 1), (408, 16), (392, 32), (376, 64), (432, 16384), (464, 0), (304, 1)]) })], busy := some { queue := 0, start := 0, key := 9, buffer := 0, unit := { params := [(0, { profile := .main264, width := 16, height := 32, cropW := 16, cropH := 32 })], kind := .idr, slices := [{ addrs := [0, 1] }] } } })],
    (State.content ((mapped (handed 768 [(56, 49), (64, 7), (400, 8192), (376, 16)])).setVideo [(0,
    { ctx := [(7, { state := .opened, queue := 0, desc := BitVec.ofNat 512 (word [(152, 1), (408, 16), (392, 32), (376, 64), (432, 16384), (464, 0), (304, 1)]) })], busy := some { queue := 0, start := 0, key := 9, buffer := 0, unit := { params := [(0, { profile := .main264, width := 16, height := 32, cropW := 16, cropH := 32 })], kind := .idr, slices := [{ addrs := [0, 1] }] } } })])
    0 0
    { state := .opened, queue := 0, desc := BitVec.ofNat 512 (word [(152, 1), (408, 16), (392, 32), (376, 64), (432, 16384), (464, 0), (304, 1)]) }
    { queue := 0, start := 0, key := 9, buffer := 0, unit := { params := [(0, { profile := .main264, width := 16, height := 32, cropW := 16, cropH := 32 })], kind := .idr, slices := [{ addrs := [0, 1] }] } }
    (VCtx.judge
    { state := .opened, queue := 0, desc := BitVec.ofNat 512 (word [(152, 1), (408, 16), (392, 32), (376, 64), (432, 16384), (464, 0), (304, 1)]) }
    16
    { params := [(0, { profile := .main264, width := 16, height := 32, cropW := 16, cropH := 32 })], kind := .idr, slices := [{ addrs := [0, 1] }] })
    { profile := .main264, width := 16, height := 32, cropW := 16, cropH := 32 }).2, 0, {}, 1, 0, word [(56, 49), (64,
    7), (400, 8192), (376, 16)],
    { state := .opened, queue := 0, desc := BitVec.ofNat 512 (word [(152, 1), (408, 16), (392, 32), (376, 64), (432, 16384), (464, 0), (304, 1)]) },
    { queue := 0, start := 0, key := 9, buffer := 0, unit := { params := [(0, { profile := .main264, width := 16, height := 32, cropW := 16, cropH := 32 })], kind := .idr, slices := [{ addrs := [0, 1] }] } },
    { profile := .main264, width := 16, height := 32, cropW := 16, cropH := 32 }, (State.content ((mapped (handed 768
    [(56, 49), (64, 7), (400, 8192), (376, 16)])).setVideo [(0,
    { ctx := [(7, { state := .opened, queue := 0, desc := BitVec.ofNat 512 (word [(152, 1), (408, 16), (392, 32), (376, 64), (432, 16384), (464, 0), (304, 1)]) })], busy := some { queue := 0, start := 0, key := 9, buffer := 0, unit := { params := [(0, { profile := .main264, width := 16, height := 32, cropW := 16, cropH := 32 })], kind := .idr, slices := [{ addrs := [0, 1] }] } } })])
    0 0
    { state := .opened, queue := 0, desc := BitVec.ofNat 512 (word [(152, 1), (408, 16), (392, 32), (376, 64), (432, 16384), (464, 0), (304, 1)]) }
    { queue := 0, start := 0, key := 9, buffer := 0, unit := { params := [(0, { profile := .main264, width := 16, height := 32, cropW := 16, cropH := 32 })], kind := .idr, slices := [{ addrs := [0, 1] }] } }
    (VCtx.judge
    { state := .opened, queue := 0, desc := BitVec.ofNat 512 (word [(152, 1), (408, 16), (392, 32), (376, 64), (432, 16384), (464, 0), (304, 1)]) }
    16
    { params := [(0, { profile := .main264, width := 16, height := 32, cropW := 16, cropH := 32 })], kind := .idr, slices := [{ addrs := [0, 1] }] })
    { profile := .main264, width := 16, height := 32, cropW := 16, cropH := 32 }).1.getD ⟨0, false, false, 0, 0, 0,
    [], none, 0, 0⟩, by decide +kernel, by decide +kernel, by decide +kernel, by decide +kernel, by decide +kernel,
    ok_eq (by decide +kernel) (by decide +kernel), by decide +kernel, by decide +kernel, by decide +kernel, some_eq
    (by decide +kernel), by decide +kernel⟩, ⟨(mapped (handed 768 [(56, 48), (64, 7)])).setQueues [(0, busyQ 768
    .handed [(56, 48), (64, 7)]), (1, busyQ 768 .handed [(56, 48), (64, 7)])], 1, 0, word [(56, 48), (64, 7)],
    by decide +kernel⟩⟩

/-- 8 witnesses of the hypotheses of Obligations.VideoEngineRestarts. -/
theorem test_met_VideoEngineRestarts :
    (∃ (s : State) (e : EngineId), s.asleep = false ∧ s.engineDown e.val = false ∧ (s.restartsLastHour e.val).length < 4 ∧
    ((∀ j : VJob, (s.engine e.val).busy = some j → (s.queue j.queue.toNat).videoOf = some e.val))) ∧ (∃ (s : State) (e
    : EngineId), s.asleep = false ∧ s.engineDown e.val = false ∧ 4 ≤ (s.restartsLastHour e.val).length ∧ ((∀ j : VJob,
    (s.engine e.val).busy = some j → (s.queue j.queue.toNat).videoOf = some e.val))) ∧ (∃ (s : State) (e : EngineId),
    s.asleep = false ∧ s.engineDown e.val = true) ∧ (∃ (s : State) (e : EngineId), s.asleep = false ∧ (s.engine
    e.val).failed = false ∧ ((∀ j : VJob, (s.engine e.val).busy = some j → (s.queue j.queue.toNat).videoOf = some
    e.val))) ∧ (∃ (s : State) (e : EngineId), (s.engine e.val).failed = true) ∧ (∃ (s : State) (q : QueueId) (e : Nat)
    (d : Nat) (j : VJob), s.atVideo q.toNat = some (e, d) ∧ (s.engine e).busy = some j ∧ j.queue = q ∧ j.start +
    250000 * s.odGet 0x2500 0x0B < s.now ∧ (s.restartsLastHour e).length < 4) ∧ (∃ (s : State) (q : QueueId) (e : Nat)
    (d : Nat) (j : VJob), s.atVideo q.toNat = some (e, d) ∧ (s.engine e).busy = some j ∧ j.queue = q ∧ j.start +
    250000 * s.odGet 0x2500 0x0B < s.now ∧ (s.restartsLastHour e).length < 4) ∧ (∃ (s : State) (q : QueueId) (e : Nat)
    (d : Nat) (j : VJob), s.atVideo q.toNat = some (e, d) ∧ (s.engine e).busy = some j ∧ s.now ≤ j.start + 250000 *
    s.odGet 0x2500 0x0B) :=
  ⟨⟨ready.setVideo [(5, { restarts := [0, 0, 0] })], 5, by decide +kernel, by decide +kernel, by decide +kernel, fun _ h
    => nomatch h⟩, ⟨ready.setVideo [(5, { restarts := [0, 0, 0, 0] })], 5, by decide +kernel, by decide +kernel,
    by decide +kernel, fun _ h => nomatch h⟩, ⟨ready.setVideo [(5, { failed := true })], 5, by decide +kernel⟩,
    ⟨ready, 0, by decide +kernel, by decide +kernel, fun _ h => nomatch h⟩, ⟨ready.setVideo [(5, { failed := true })],
    5, by decide +kernel⟩, ⟨late ((mapped (handed 769 [(56, 49)])).setVideo [(1,
    { busy := some { queue := 0, start := 0, key := 0 } })]) 25000001, 0, 1, word [(56, 49)],
    { queue := 0, start := 0, key := 0 }, by decide +kernel⟩, ⟨late ((mapped (handed 1025 [(56, 50)])).setVideo [(5,
    { busy := some { queue := 0, start := 0, key := 0 } })]) 25000001, 0, 5, word [(56, 50)],
    { queue := 0, start := 0, key := 0 }, by decide +kernel⟩, ⟨late ((mapped (handed 769 [(56, 49)])).setVideo [(1,
    { busy := some { queue := 0, start := 0, key := 0 } })]) 25000000, 0, 1, word [(56, 49)],
    { queue := 0, start := 0, key := 0 }, by decide +kernel⟩⟩

/-- 10 witnesses of the hypotheses of Obligations.MailboxChecks. -/
theorem test_met_MailboxChecks :
    (∃ (s : State) (src : MbxSrc) (x : MbxIn), s.incoming src = some x ∧ s.idle = false ∧ (s.mbx x.die x.mbx).inb = [] ∧
    mgType x.word = 0x60 ∧ mgExternal x.word = false ∧ s.checkMessage x = 0 ∧ (s.comp x.die 0).state = .running) ∧ (∃
    (s : State) (src : MbxSrc) (x : MbxIn), s.incoming src = some x ∧ x.queue = none ∧ s.idle = false ∧ (s.mbx x.die
    x.mbx).inb = [] ∧ mgType x.word = 0x60 ∧ mgExternal x.word = false ∧ s.checkMessage x = 0 ∧ (s.comp x.die 0).state
    ≠ .running) ∧ (∃ (s : State) (src : MbxSrc) (x : MbxIn), s.incoming src = some x ∧ x.queue = none ∧ s.idle = false
    ∧ s.upsets = [] ∧ (s.mbx x.die x.mbx).inb = [] ∧ mgReservedBad x.word true = false ∧ mgMajor x.word =
    s.kernelVersion / 256 ∧ mgSeq x.word ≠ (s.mbx x.die x.mbx).inSeq.toNat ∧ (s.mbx x.die x.mbx).outb.length < 32) ∧
    (∃ (s : State) (die : Die) (m : BitVec 6), s.firmwareUp = true ∧ s.mbxKind die.toNat m.toNat = .host) ∧ (∃ (x :
    MbxIn), mgReservedBad x.word x.queue.isNone = true) ∧ (∃ (s : State) (x : MbxIn), mgReservedBad x.word
    x.queue.isNone = false ∧ mgMajor x.word ≠ s.kernelVersion / 256) ∧ (∃ (s : State) (x : MbxIn), mgReservedBad
    x.word x.queue.isNone = false ∧ mgMajor x.word = s.kernelVersion / 256 ∧ mgSeq x.word = (s.mbx x.die
    x.mbx).inSeq.toNat ∧ msgType (mgType x.word) = none) ∧ (∃ (s : State) (die : Die) (m : BitVec 6) (r : MbxReq),
    (s.mbx die.toNat m.toNat).inb.find? (fun r => r.waiting && decide (r.since + 25000000 ≤ s.now)) = some r) ∧ (∃ (s
    : State) (die : Die) (m : BitVec 6), (s.mbx die.toNat m.toNat).inb.all (fun r => s.now < r.since + 25000000) =
    true) ∧ (∃ (s : State) (die : Die) (m : BitVec 6) (r : MbxReq) (t : MsgType), (s.mbx die.toNat m.toNat).inb = [r]
    ∧ msgType (mgType r.msg.toNat) = some t ∧ r.since + t.limit < s.now) :=
  ⟨⟨running ready [0], .host 0 0 (hostMsg 0x60 1 7), taken 0 (hostMsg 0x60 1 7), by decide +kernel⟩, ⟨ready, .host 0 0
    (hostMsg 0x60 1 7), taken 0 (hostMsg 0x60 1 7), by decide +kernel⟩, ⟨ready, .host 0 0 (hostMsg 0x60 1 7 +
    BitVec.ofNat 512 (2 ^ 128)), taken 0 (hostMsg 0x60 1 7 + BitVec.ofNat 512 (2 ^ 128)), by decide +kernel⟩, ⟨ready,
    1, 0, by decide +kernel⟩, ⟨⟨0, 0, 1, none, 0, 0⟩, by decide +kernel⟩, ⟨ready, ⟨0, 0, word [(56, 0x80)], none, 0,
    0⟩, by decide +kernel⟩, ⟨ready, ⟨0, 0, (hostMsg 8 0 0).toNat, none, 0, 0⟩, by decide +kernel⟩, ⟨late (ready.setFw
    { ready.fw with mbx := [(5, { inb := [{ msg := 0, since := 0, from_ := none, waiting := true }] })] }) 25000000,
    0, 5, { msg := 0, since := 0, from_ := none, waiting := true }, by decide +kernel⟩, ⟨late (ready.setFw
    { ready.fw with mbx := [(5, { inb := [{ msg := 0, since := 0, from_ := none, waiting := true }] })] }) 24999999,
    0, 5, by decide +kernel⟩, ⟨late (ready.setFw
    { ready.fw with mbx := [(5, { inb := [{ msg := hostMsg 0x60 0 0, since := 0, from_ := none }] })] }) 250001, 0, 5,
    { msg := hostMsg 0x60 0 0, since := 0, from_ := none }, ⟨.any, 0, 0, ms, 0⟩, by decide +kernel⟩⟩

/-- 17 witnesses of the hypotheses of Obligations.RuntimeLoad. -/
theorem test_met_RuntimeLoad :
    (∃ (s : State) (u : State) (m : MbxSrc) (x : MbxIn), s.receive m 1 = (some x, u) ∧ x.mbx = 0 ∧ x.queue = none ∧ u.mode
    ≠ .awaitRuntime ∧ u.helloReason (mgMinor x.word) (leNat (((u.body x).drop 32).take 2)) = 0) ∧ (∃ (s : State) (u :
    State) (m : MbxSrc) (x : MbxIn), s.receive m 1 = (some x, u) ∧ x.mbx = 0 ∧ x.queue = none ∧ x.die = 1 ∧ u.mode =
    .awaitRuntime ∧ u.fw.loadStep = 4 ∧ u.fw.helloEast = true ∧ u.helloReason (mgMinor x.word) (leNat (((u.body
    x).drop 32).take 2)) = 0) ∧ (∃ (s : State) (u : State) (m : MbxSrc) (x : MbxIn), s.receive m 1 = (some x, u) ∧
    x.mbx = 0 ∧ x.queue = none ∧ u.mode = .awaitRuntime ∧ u.fw.loadStep = 4 ∧ u.helloReason (mgMinor x.word) (leNat
    (((u.body x).drop 32).take 2)) ≠ 0) ∧ (∃ (s : State) (u : State) (m : MbxSrc) (x : MbxIn), s.receive m 2 = (some
    x, u) ∧ 2 ≤ leNat ((u.body x).take 1) ∧ leNat ((u.body x).take 1) ≤ 11 ∧ ((u.comp x.die (leNat ((u.body x).take
    1))).state = .absent ∨ (u.comp x.die (leNat ((u.body x).take 1))).state = .loaded) ∧ u.mode ≠ .refused ∧
    u.fw.loadStep ≠ 4 ∧ u.loadedImage.partDigest (0x20 + leNat ((u.body x).take 1)) = some (leNat ((u.body x).drop
    16))) ∧ (∃ (s : State) (u : State) (m : MbxSrc) (x : MbxIn), s.receive m 3 = (some x, u) ∧ 2 ≤ leNat ((u.body
    x).take 1) ∧ leNat ((u.body x).take 1) ≤ 11 ∧ (u.comp x.die (leNat ((u.body x).take 1))).state = .loaded) ∧ (∃ (s
    : State) (u : State) (m : MbxSrc) (x : MbxIn), s.receive m 4 = (some x, u) ∧ 2 ≤ leNat ((u.body x).take 1) ∧ leNat
    ((u.body x).take 1) ≤ 11 ∧ (u.comp x.die (leNat ((u.body x).take 1))).state = .running) ∧ (∃ (u : State) (x :
    MbxIn), (leNat ((u.body x).take 1) < 2 ∨ 11 < leNat ((u.body x).take 1))) ∧ (∃ (u : State) (x : MbxIn), (leNat
    ((u.body x).take 1) < 2 ∨ 11 < leNat ((u.body x).take 1))) ∧ (∃ (s : State) (u : State) (m : MbxSrc) (x : MbxIn),
    s.receive m 5 = (some x, u)) ∧ (∃ (s : State) (u : State) (m : MbxSrc) (x : MbxIn), s.receive m 6 = (some x, u) ∧
    u.store.probation ≠ none) ∧ (∃ (s : State) (u : State) (m : MbxSrc) (x : MbxIn), s.receive m 6 = (some x, u) ∧
    u.store.probation = none) ∧ (∃ (s : State) (u : State) (m : MbxSrc) (x : MbxIn) (n : Nat) (k : Nat) (p : Nat),
    s.receive m 7 = (some x, u) ∧ u.fw.loadStep = 0 ∧ u.mode ≠ .refused ∧ leNat ((u.body x).take 1) = n ∧ leNat
    (((u.body x).drop 1).take 1) = k ∧ leNat (((u.body x).drop 2).take 1) = p ∧ leNat ((u.body x).drop 3) = 0 ∧ 1 ≤ n
    ∧ n ≤ 63 ∧ k ≤ 2 ∧ p ≤ 7 ∧ (u.mbx x.die n).inb = []) ∧ (∃ (s : State) (u : State) (m : MbxSrc) (x : MbxIn) (n :
    Nat) (k : Nat) (p : Nat), s.receive m 7 = (some x, u) ∧ u.fw.loadStep = 0 ∧ u.mode ≠ .refused ∧ leNat ((u.body
    x).take 1) = n ∧ leNat (((u.body x).drop 1).take 1) = k ∧ leNat (((u.body x).drop 2).take 1) = p ∧ leNat ((u.body
    x).drop 3) = 0 ∧ 1 ≤ n ∧ n ≤ 63 ∧ k ≤ 2 ∧ p ≤ 7 ∧ (u.mbx x.die n).inb = []) ∧ (∃ (s : State) (u : State) (m :
    MbxSrc) (x : MbxIn), s.receive m 7 = (some x, u) ∧ leNat ((u.body x).take 1) = 0) ∧ (∃ (s : State), s.mode =
    .refused ∧ s.store.runIn .candidate = none ∧ s.store.runIn .probation = none ∧ (s.store.runImg ((s.store.runIn
    .current).getD false)).form = 0 ∧ s.sec.fuseRuntime ≤ (s.store.runImg ((s.store.runIn .current).getD
    false)).counter) ∧ (∃ (s : State), (s.mode = .ready ∨ s.mode = .serving ∨ s.mode = .awaitRuntime)) ∧ (∃ (s :
    State), (s.mode = .ready ∨ s.mode = .serving ∨ s.mode = .awaitRuntime)) :=
  ⟨⟨running (ready) [0], (State.receive (running (ready) [0]) (.host 0 0 (BitVec.ofNat 512 (word [(56, 0x80), (160, 1),
    (144, 34), (176, 0x0202)]))) 1).2, .host 0 0 (BitVec.ofNat 512 (word [(56, 0x80), (160, 1), (144, 34), (176,
    0x0202)])), taken 0 (BitVec.ofNat 512 (word [(56, 0x80), (160, 1), (144, 34), (176, 0x0202)])),
    by decide +kernel⟩, ⟨(((up .awaitRuntime).setFw { State.reset.fw with loadStep := 4, helloEast := true })).setFw
    { (((up .awaitRuntime).setFw { State.reset.fw with loadStep := 4, helloEast := true })).fw with comps := [(0, { state := .running }), ( 16, { state := .running })] },
    (State.receive ((((up .awaitRuntime).setFw { State.reset.fw with loadStep := 4, helloEast := true })).setFw
    { (((up .awaitRuntime).setFw { State.reset.fw with loadStep := 4, helloEast := true })).fw with comps := [(0, { state := .running }), ( 16, { state := .running })] })
    (.host 1 0 (BitVec.ofNat 512 (word [(56, 0x80), (160, 1), (144, 34), (176, 0x0202)]))) 1).2, .host 1 0
    (BitVec.ofNat 512 (word [(56, 0x80), (160, 1), (144, 34), (176, 0x0202)])), taken 1 (BitVec.ofNat 512 (word [(56,
    0x80), (160, 1), (144, 34), (176, 0x0202)])), by decide +kernel⟩, ⟨(((up .awaitRuntime).setFw
    { State.reset.fw with loadStep := 4, helloEast := true })).setFw
    { (((up .awaitRuntime).setFw { State.reset.fw with loadStep := 4, helloEast := true })).fw with comps := [(0, { state := .running })] },
    (State.receive ((((up .awaitRuntime).setFw { State.reset.fw with loadStep := 4, helloEast := true })).setFw
    { (((up .awaitRuntime).setFw { State.reset.fw with loadStep := 4, helloEast := true })).fw with comps := [(0, { state := .running })] })
    (.host 0 0 (BitVec.ofNat 512 (word [(56, 0x80), (160, 1), (144, 34), (176, 0x0201)]))) 1).2, .host 0 0
    (BitVec.ofNat 512 (word [(56, 0x80), (160, 1), (144, 34), (176, 0x0201)])), taken 0 (BitVec.ofNat 512 (word [(56,
    0x80), (160, 1), (144, 34), (176, 0x0201)])), by decide +kernel⟩, ⟨running ((ready.setStore
    { ready.store with runImgA := { kind := 2, digests := [(0x22, 0)] } }).setModMem [(0, { cells := [(0, 2)] })])
    [1], (State.receive (running ((ready.setStore
    { ready.store with runImgA := { kind := 2, digests := [(0x22, 0)] } }).setModMem [(0, { cells := [(0, 2)] })])
    [1]) (.host 0 0 (BitVec.ofNat 512 (word [(56, 0x80), (160, 2), (144, 48), (176, 0x0205), (97, 1)]))) 2).2, .host 0
    0 (BitVec.ofNat 512 (word [(56, 0x80), (160, 2), (144, 48), (176, 0x0205), (97, 1)])), taken 0 (BitVec.ofNat 512
    (word [(56, 0x80), (160, 2), (144, 48), (176, 0x0205), (97, 1)])), by decide +kernel⟩, ⟨ready.setFw
    { ready.fw with comps := [(0, { state := .running }), (11, { state := .loaded })] }, (State.receive (ready.setFw
    { ready.fw with comps := [(0, { state := .running }), (11, { state := .loaded })] }) (.host 0 0 (hostMsg 3 1
    (11))) 3).2, .host 0 0 (hostMsg 3 1 (11)), taken 0 (hostMsg 3 1 (11)), by decide +kernel⟩, ⟨ready.setFw
    { ready.fw with comps := [(0, { state := .running }), (2, { state := .running })] }, (State.receive (ready.setFw
    { ready.fw with comps := [(0, { state := .running }), (2, { state := .running })] }) (.host 0 0 (hostMsg 4 1 (2)))
    4).2, .host 0 0 (hostMsg 4 1 (2)), taken 0 (hostMsg 4 1 (2)), by decide +kernel⟩, ⟨(State.receive (running (ready)
    [0]) (.host 0 0 (hostMsg 3 1 (1))) 3).2, taken 0 (hostMsg 3 1 (1)), by decide +kernel⟩, ⟨(State.receive (running
    (ready) [0]) (.host 0 0 (hostMsg 4 1 (12))) 4).2, taken 0 (hostMsg 4 1 (12)), by decide +kernel⟩, ⟨running (ready)
    [0], (State.receive (running (ready) [0]) (.host 0 0 (hostMsg 5 1 (0))) 5).2, .host 0 0 (hostMsg 5 1 (0)), taken 0
    (hostMsg 5 1 (0)), by decide +kernel⟩, ⟨running (ready.setStore { ready.store with probation := some 5 }) [1],
    (State.receive (running (ready.setStore { ready.store with probation := some 5 }) [1]) (.host 0 0 (hostMsg 6 0
    (0))) 6).2, .host 0 0 (hostMsg 6 0 (0)), taken 0 (hostMsg 6 0 (0)), by decide +kernel⟩, ⟨running (ready) [1],
    (State.receive (running (ready) [1]) (.host 0 0 (hostMsg 6 0 (0))) 6).2, .host 0 0 (hostMsg 6 0 (0)), taken 0
    (hostMsg 6 0 (0)), by decide +kernel⟩, ⟨running (ready) [0], (State.receive (running (ready) [0]) (.host 0 0
    (hostMsg 7 4 (63 + 2 * 2 ^ 8 + 7 * 2 ^ 16))) 7).2, .host 0 0 (hostMsg 7 4 (63 + 2 * 2 ^ 8 + 7 * 2 ^ 16)), taken 0
    (hostMsg 7 4 (63 + 2 * 2 ^ 8 + 7 * 2 ^ 16)), 63, 2, 7, by decide +kernel⟩, ⟨running (ready) [0], (State.receive
    (running (ready) [0]) (.host 0 0 (hostMsg 7 4 (1))) 7).2, .host 0 0 (hostMsg 7 4 (1)), taken 0 (hostMsg 7 4 (1)),
    1, 0, 0, by decide +kernel⟩, ⟨running (ready) [0], (State.receive (running (ready) [0]) (.host 0 0 (hostMsg 7 4
    (0))) 7).2, .host 0 0 (hostMsg 7 4 (0)), taken 0 (hostMsg 7 4 (0)), by decide +kernel⟩, ⟨up .refused,
    by decide +kernel⟩, ⟨ready, by decide +kernel⟩, ⟨up .awaitRuntime, by decide +kernel⟩⟩

/-- 11 witnesses of the hypotheses of Obligations.RyciaHandshake. -/
theorem test_met_RyciaHandshake :
    (∃ (s : State) (u : State) (v : State) (f : RFrame) (ok : Bool) (leaf : Nat), s.takeClear f 0x01 0 = (true, u) ∧
    f.body.length = 36 ∧ leNat (f.body.drop 34) = 0 ∧ u.credentialKnown (leNat ((f.body.drop 32).take 2)) = true ∧
    u.sessionsAllowed = true ∧ leNat ((f.body.drop 32).take 2) / 256 = 0xFF ∧ ((upto 16).filter (fun j => decide
    ((u.rsess j).state = .free))).length ≠ 0 ∧ 16 - ((upto 16).filter (fun j => decide ((u.rsess j).state =
    .free))).length < u.sessionLimit ∧ u.takeLeaf ok = (some leaf, v)) ∧ (∃ (s : State) (u : State) (f : RFrame),
    s.takeClear f 0x01 0 = (true, u) ∧ (f.body.length ≠ 36 ∨ u.credentialKnown (leNat ((f.body.drop 32).take 2)) =
    false)) ∧ (∃ (s : State) (u : State) (f : RFrame), s.takeClear f 0x01 0 = (true, u) ∧ (f.body.length ≠ 36 ∨
    u.credentialKnown (leNat ((f.body.drop 32).take 2)) = false)) ∧ (∃ (s : State) (u : State) (f : RFrame),
    s.takeClear f 0x01 0 = (true, u) ∧ f.body.length = 36 ∧ leNat (f.body.drop 34) = 0 ∧ u.credentialKnown (leNat
    ((f.body.drop 32).take 2)) = true ∧ u.sessionsAllowed = false ∧ u.mode ≠ .boot ∧ u.mode ≠ .train) ∧ (∃ (s : State)
    (u : State) (f : RFrame), s.takeClear f 0x01 0 = (true, u) ∧ f.body.length = 36 ∧ leNat (f.body.drop 34) = 0 ∧
    u.credentialKnown (leNat ((f.body.drop 32).take 2)) = true ∧ (u.mode = .boot ∨ u.mode = .train)) ∧ (∃ (s : State)
    (f : RFrame), s.ryciaUp = true ∧ rfType f = 0x01 ∧ s.rfForm f (s.odGet 0x1100 1) = false) ∧ (∃ (s : State) (f :
    RFrame) (j : Nat), s.ryciaUp = true ∧ rfType f = 0x03 ∧ s.sessionOf (rfSession f) = some j ∧ s.rfForm f (s.rsess
    j).udp.toNat = true ∧ (s.rsess j).state = .handshake ∧ f.body.length = 4372 ∧ s.now ≤ (s.rsess j).stepAt +
    250000000 ∧ f.authentic = true ∧ (s.rsess j).rights ≠ 0 ∧ s.asleep = false) ∧ (∃ (s : State) (f : RFrame) (j :
    Nat), s.ryciaUp = true ∧ rfType f = 0x03 ∧ s.sessionOf (rfSession f) = some j ∧ s.rfForm f (s.rsess j).udp.toNat =
    true ∧ (s.rsess j).state = .handshake ∧ f.body.length = 4372 ∧ s.now ≤ (s.rsess j).stepAt + 250000000 ∧
    f.authentic = false) ∧ (∃ (s : State) (j : Fin 16), (s.rsess j.val).state = .handshake ∧ (s.rsess j.val).stepAt +
    250000000 ≤ s.now) ∧ (∃ (s : State) (j : Fin 16), ((s.rsess j.val).state ≠ .handshake ∨ s.now < (s.rsess
    j.val).stepAt + 250000000)) ∧ (∃ (s : State) (j : Fin 16), ((s.rsess j.val).state ≠ .handshake ∨ s.now < (s.rsess
    j.val).stepAt + 250000000)) :=
  ⟨⟨(trusted ready).odSet 0x2800 3 1024, (State.takeClear ((trusted ready).odSet 0x2800 3 1024) (rframe 1 0 0
    (List.replicate 32 0 ++ leBytes 2 0xFF00 ++ [0, 0])) 1 0).2, (((State.takeClear ((trusted ready).odSet 0x2800 3
    1024) (rframe 1 0 0 (List.replicate 32 0 ++ leBytes 2 0xFF00 ++ [0, 0])) 1 0).2).takeLeaf true).2, rframe 1 0 0
    (List.replicate 32 0 ++ leBytes 2 0xFF00 ++ [0, 0]), true, 0, by decide +kernel⟩, ⟨(trusted ready).odSet 0x2800 3
    1024, (State.takeClear ((trusted ready).odSet 0x2800 3 1024) (rframe 1 0 0 []) 1 0).2, rframe 1 0 0 [],
    by decide +kernel⟩, ⟨(trusted ready).odSet 0x2800 3 1024, (State.takeClear ((trusted ready).odSet 0x2800 3 1024)
    (rframe 1 0 0 (List.replicate 32 0 ++ leBytes 2 0xFF10 ++ [0, 0])) 1 0).2, rframe 1 0 0 (List.replicate 32 0 ++
    leBytes 2 0xFF10 ++ [0, 0]), by decide +kernel⟩, ⟨ready, (State.takeClear (ready) (rframe 1 0 0 (List.replicate 32
    0 ++ leBytes 2 0xFF00 ++ [0, 0])) 1 0).2, rframe 1 0 0 (List.replicate 32 0 ++ leBytes 2 0xFF00 ++ [0, 0]),
    by decide +kernel⟩, ⟨up .train, (State.takeClear (up .train) (rframe 1 0 0 (List.replicate 32 0 ++ leBytes 2
    0xFF00 ++ [0, 0])) 1 0).2, rframe 1 0 0 (List.replicate 32 0 ++ leBytes 2 0xFF00 ++ [0, 0]), by decide +kernel⟩,
    ⟨ready, { rframe 1 0 0 [] with udpPort := 1 }, by decide +kernel⟩, ⟨late (ready.setRyc
    { ready.ryc with sess := [(2, { state := .handshake, id := 77, rights := 1, credential := 0xFF00 })] }) 250000000,
    { rframe 3 77 0 (List.replicate 4372 0) with header := BitVec.ofNat 160 (word [(0, 0x5259), (16, 1), (32, 3), (40, 3), (48, 77)]) },
    2, by decide +kernel⟩, ⟨ready.setRyc
    { ready.ryc with sess := [(2, { state := .handshake, id := 77, rights := 1, credential := 0xFF00 })] },
    { rframe 3 77 0 (List.replicate 4372 0) with header := BitVec.ofNat 160 (word [(0, 0x5259), (16, 1), (32, 3), (40, 3), (48, 77)]), authentic := false },
    2, by decide +kernel⟩, ⟨late (ready.setRyc
    { ready.ryc with sess := [(2, { state := .handshake, id := 77, rights := 1, credential := 0xFF00 })] }) 250000000,
    2, by decide +kernel⟩, ⟨late (ready.setRyc
    { ready.ryc with sess := [(2, { state := .handshake, id := 77, rights := 1, credential := 0xFF00 })] }) 249999999,
    2, by decide +kernel⟩, ⟨ready, 2, by decide +kernel⟩⟩

/-- 13 witnesses of the hypotheses of Obligations.RyciaSessionFrames. -/
theorem test_met_RyciaSessionFrames :
    (∃ (x : RSess) (c : Nat), c + 64 < x.rxHigh) ∧ (∃ (s : State) (u : State) (f : RFrame) (j : Nat), s.takeFrame f 0x12 =
    (some j, u)) ∧ (∃ (s : State) (f : RFrame), s.ryciaUp = true ∧ rfType f = 0x12 ∧ s.sessionOf (rfSession f) = none)
    ∧ (∃ (s : State) (f : RFrame) (j : Nat), s.ryciaUp = true ∧ rfType f = 0x12 ∧ s.sessionOf (rfSession f) = some j ∧
    (s.rsess j).state = .opened ∧ s.rfForm f (s.rsess j).udp.toNat = true ∧ f.authentic = true ∧ rfCounter f < 2 ^ 48
    ∧ (s.rsess j).fresh (rfCounter f) = false) ∧ (∃ (s : State) (f : RFrame) (j : Nat), s.ryciaUp = true ∧ rfType f =
    0x12 ∧ s.sessionOf (rfSession f) = some j ∧ (s.rsess j).state = .opened ∧ s.rfForm f (s.rsess j).udp.toNat = true
    ∧ f.authentic = true ∧ rfCounter f < 2 ^ 48 ∧ (s.rsess j).fresh (rfCounter f) = true ∧ (s.rsess j).txNext < 2 ^
    48) ∧ (∃ (s : State) (f : RFrame) (j : Nat), s.ryciaUp = true ∧ rfType f = 0x12 ∧ s.sessionOf (rfSession f) = some
    j ∧ (s.rsess j).state = .opened ∧ s.rfForm f (s.rsess j).udp.toNat = true ∧ f.authentic = true ∧ rfCounter f < 2 ^
    48 ∧ (s.rsess j).fresh (rfCounter f) = true ∧ (s.rsess j).txNext < 2 ^ 48) ∧ (∃ (s : State) (u : State) (f :
    RFrame) (j : Nat), s.takeFrame f 0x13 = (some j, u)) ∧ (∃ (s : State) (u : State) (f : RFrame), s.takeClear f 0x20
    1 = (true, u) ∧ f.body.length = 8) ∧ (∃ (s : State) (u : State) (f : RFrame), s.takeClear f 0x20 1 = (true, u) ∧
    f.body.length ≠ 8) ∧ (∃ (s : State) (j : Fin 16), (s.rsess j.val).state = .opened ∧ (s.rsess j.val).lastValid +
    250000000 * s.odGet 0x1100 8 ≤ s.now) ∧ (∃ (s : State) (j : Fin 16), s.now < (s.rsess j.val).lastValid + 250000000
    * s.odGet 0x1100 8) ∧ (∃ (s : State) (j : Fin 16), s.asleep = false ∧ s.mode ≠ .off ∧ (s.rsess j.val).state =
    .opened) ∧ (∃ (s : State) (j : Fin 16), s.asleep = false ∧ s.mode ≠ .off ∧ (s.rsess j.val).state = .free) :=
  ⟨⟨{ rxHigh := 65 }, 0, by decide +kernel⟩, ⟨opened ready, (State.takeFrame (opened ready) (rframe 0x12 77 1 [])
    0x12).2, rframe 0x12 77 1 [], 2, by decide +kernel⟩, ⟨ready, rframe 0x12 77 1 [], by decide +kernel⟩,
    ⟨ready.setRyc
    { ready.ryc with sess := [(2, { state := .opened, id := 77, rights := 1, credential := 0xFF00, rxHigh := 70 })] },
    rframe 0x12 77 5 [], 2, by decide +kernel⟩, ⟨ready.setRyc
    { ready.ryc with sess := [(2, { state := .opened, id := 77, rights := 1, credential := 0xFF00, rxHigh := 70 })] },
    rframe 0x12 77 6 [], 2, by decide +kernel⟩, ⟨ready.setRyc
    { ready.ryc with sess := [(2, { state := .opened, id := 77, rights := 1, credential := 0xFF00, rxHigh := 70 })] },
    rframe 0x12 77 71 [], 2, by decide +kernel⟩, ⟨opened ready, (State.takeFrame (opened ready) (rframe 0x13 77 1 [])
    0x13).2, rframe 0x13 77 1 [], 2, by decide +kernel⟩, ⟨ready, (State.takeClear (ready) (rframe 0x20 0 0
    (List.replicate 8 0)) 0x20 1).2, rframe 0x20 0 0 (List.replicate 8 0), by decide +kernel⟩, ⟨ready,
    (State.takeClear (ready) (rframe 0x20 0 0 []) 0x20 1).2, rframe 0x20 0 0 [], by decide +kernel⟩, ⟨late (opened
    ready) (250000000*ready.odGet 0x1100 8), 2, by decide +kernel⟩, ⟨late (opened ready) (250000000*ready.odGet 0x1100
    8 - 1), 2, by decide +kernel⟩, ⟨opened ready, 2, by decide +kernel⟩, ⟨ready, 15, by decide +kernel⟩⟩

/-- 12 witnesses of the hypotheses of Obligations.RyciaRequests. -/
theorem test_met_RyciaRequests :
    (∃ (s : State) (u : State) (f : RFrame) (j : Nat), s.takeRequest f 1 = (some j, u) ∧ u.requestCode f j false ≠ 0) ∧ (∃
    (s : State) (u : State) (f : RFrame) (j : Nat), s.takeRequest f 1 = (some j, u) ∧ u.requestCode f j false = 0 ∧
    u.ryc.window.any (fun w => decide (w.sess = j) && decide (w.index = msIndex (msg f))) = false) ∧ (∃ (s : State) (u
    : State) (f : RFrame) (j : Nat), s.takeRequest f 1 = (some j, u) ∧ u.requestCode f j false = 0 ∧ u.ryc.window.any
    (fun w => decide (w.sess = j) && decide (w.index = msIndex (msg f))) = true) ∧ (∃ (s : State) (u : State) (f :
    RFrame) (j : Nat), s.takeRequest f 2 = (some j, u) ∧ u.writeCode (whoOf (u.rsess j).rights (u.rsess
    j).credential.toNat) (msIndex (msg f)) (msSub (msg f)) f.port.toNat (f.body.drop 24) = 0) ∧ (∃ (s : State) (u :
    State) (f : RFrame) (j : Nat) (c : Nat), s.takeRequest f 2 = (some j, u) ∧ c ≠ 0 ∧ u.writeCode (whoOf (u.rsess
    j).rights (u.rsess j).credential.toNat) (msIndex (msg f)) (msSub (msg f)) f.port.toNat (f.body.drop 24) = c) ∧ (∃
    (s : State) (u : State) (f : RFrame) (j : Nat), s.takeRequest f 3 = (some j, u) ∧ u.requestCode f j true = 0 ∧
    (u.rsess j).block (msIndex (msg f)) (msSub (msg f)) = none ∧ msTotal (msg f) ≤ 16777216 ∧ ((∀ r : OdRow, odFind
    (msIndex (msg f)) (msSub (msg f)) = some r → msTotal (msg f) ≤ r.ty.largest)) ∧ odFind (msIndex (msg f)) (msSub
    (msg f)) ≠ none) ∧ (∃ (s : State) (u : State) (f : RFrame) (j : Nat) (b : BlockWrite), s.takeRequest f 3 = (some
    j, u) ∧ u.requestCode f j true = 0 ∧ (u.rsess j).block (msIndex (msg f)) (msSub (msg f)) = some b ∧ b.late u.now =
    false) ∧ (∃ (s : State) (u : State) (f : RFrame) (j : Nat) (b : BlockWrite), s.takeRequest f 4 = (some j, u) ∧
    u.requestCode f j true = 0 ∧ (u.rsess j).block (msIndex (msg f)) (msSub (msg f)) = some b ∧ b.late u.now = false ∧
    msOffset (msg f) = b.data.length ∧ b.data.length + msLength (msg f) ≤ b.total) ∧ (∃ (s : State) (u : State) (f :
    RFrame) (j : Nat) (b : BlockWrite), s.takeRequest f 4 = (some j, u) ∧ u.requestCode f j true = 0 ∧ (u.rsess
    j).block (msIndex (msg f)) (msSub (msg f)) = some b ∧ b.late u.now = false ∧ msOffset (msg f) ≠ b.data.length) ∧
    (∃ (s : State) (u : State) (f : RFrame) (j : Nat) (b : BlockWrite), s.takeRequest f 5 = (some j, u) ∧
    u.requestCode f j true = 0 ∧ (u.rsess j).block (msIndex (msg f)) (msSub (msg f)) = some b ∧ b.late u.now = false ∧
    b.total ≤ b.data.length) ∧ (∃ (s : State) (u : State) (f : RFrame) (j : Nat), s.takeRequest f 6 = (some j, u) ∧
    u.requestCode f j true = 0) ∧ (∃ (s : State) (j : Fin 16) (index : BitVec 16) (sub : BitVec 8) (b : BlockWrite),
    s.asleep = false ∧ (s.rsess j.val).block index.toNat sub.toNat = some b ∧ b.at_ + 2500000000 < s.now) :=
  ⟨⟨opened ready, (State.takeRequest (opened ready) (rframe 0x10 77 1 (request 1 0x7000 1 0 0 0 [])) 1).2, rframe 0x10
    77 1 (request 1 0x7000 1 0 0 0 []), 2, by decide +kernel⟩, ⟨opened ready, (State.takeRequest (opened ready)
    (rframe 0x10 77 1 (request 1 0x2260 3 0 1024 0 [])) 1).2, rframe 0x10 77 1 (request 1 0x2260 3 0 1024 0 []), 2,
    by decide +kernel⟩, ⟨(opened ready).setRyc
    { (opened ready).ryc with window := [{ sess := 2, id := 77, credential := 0xFF00, rights := 1, request := 1, op := 2, index := 0x2260, sub := 3, value := [6], counter := 1, at_ := 0, port := 0 }] },
    (State.takeRequest ((opened ready).setRyc
    { (opened ready).ryc with window := [{ sess := 2, id := 77, credential := 0xFF00, rights := 1, request := 1, op := 2, index := 0x2260, sub := 3, value := [6], counter := 1, at_ := 0, port := 0 }] })
    (rframe 0x10 77 1 (request 1 0x2260 3 0 1 0 [])) 1).2, rframe 0x10 77 1 (request 1 0x2260 3 0 1 0 []), 2,
    by decide +kernel⟩, ⟨opened ready, (State.takeRequest (opened ready) (rframe 0x10 77 1 (request 2 0x2260 3 0 1 0
    [7])) 2).2, rframe 0x10 77 1 (request 2 0x2260 3 0 1 0 [7]), 2, by decide +kernel⟩, ⟨opened ready,
    (State.takeRequest (opened ready) (rframe 0x10 77 1 (request 2 0x2260 3 0 1 0 [8])) 2).2, rframe 0x10 77 1
    (request 2 0x2260 3 0 1 0 [8]), 2, 0x0303, by decide +kernel⟩, ⟨opened ready, (State.takeRequest (opened ready)
    (rframe 0x10 77 1 (request 3 0x2260 3 0 0 1 [])) 3).2, rframe 0x10 77 1 (request 3 0x2260 3 0 0 1 []), 2,
    by decide +kernel, by decide +kernel, by decide +kernel, by decide +kernel, fun r hr => leastOf hr
    (by decide +kernel), by decide +kernel⟩, ⟨ready.setRyc
    { ready.ryc with sess := [(2, { state := .opened, id := 77, rights := 1, credential := 0xFF00, blocks := [{ index := 0x2260, sub := 3, total := 1, data := [], at_ := 0 }] })] },
    (State.takeRequest (ready.setRyc
    { ready.ryc with sess := [(2, { state := .opened, id := 77, rights := 1, credential := 0xFF00, blocks := [{ index := 0x2260, sub := 3, total := 1, data := [], at_ := 0 }] })] })
    (rframe 0x10 77 1 (request 3 0x2260 3 0 0 1 [])) 3).2, rframe 0x10 77 1 (request 3 0x2260 3 0 0 1 []), 2,
    { index := 0x2260, sub := 3, total := 1, data := [], at_ := 0 }, by decide +kernel⟩, ⟨ready.setRyc
    { ready.ryc with sess := [(2, { state := .opened, id := 77, rights := 1, credential := 0xFF00, blocks := [{ index := 0x2260, sub := 3, total := 1, data := [], at_ := 0 }] })] },
    (State.takeRequest (ready.setRyc
    { ready.ryc with sess := [(2, { state := .opened, id := 77, rights := 1, credential := 0xFF00, blocks := [{ index := 0x2260, sub := 3, total := 1, data := [], at_ := 0 }] })] })
    (rframe 0x10 77 1 (request 4 0x2260 3 0 1 0 [7])) 4).2, rframe 0x10 77 1 (request 4 0x2260 3 0 1 0 [7]), 2,
    { index := 0x2260, sub := 3, total := 1, data := [], at_ := 0 }, by decide +kernel⟩, ⟨ready.setRyc
    { ready.ryc with sess := [(2, { state := .opened, id := 77, rights := 1, credential := 0xFF00, blocks := [{ index := 0x2260, sub := 3, total := 1, data := [], at_ := 0 }] })] },
    (State.takeRequest (ready.setRyc
    { ready.ryc with sess := [(2, { state := .opened, id := 77, rights := 1, credential := 0xFF00, blocks := [{ index := 0x2260, sub := 3, total := 1, data := [], at_ := 0 }] })] })
    (rframe 0x10 77 1 (request 4 0x2260 3 1 0 0 [])) 4).2, rframe 0x10 77 1 (request 4 0x2260 3 1 0 0 []), 2,
    { index := 0x2260, sub := 3, total := 1, data := [], at_ := 0 }, by decide +kernel⟩, ⟨ready.setRyc
    { ready.ryc with sess := [(2, { state := .opened, id := 77, rights := 1, credential := 0xFF00, blocks := [{ index := 0x2260, sub := 3, total := 1, data := [7], at_ := 0 }] })] },
    (State.takeRequest (ready.setRyc
    { ready.ryc with sess := [(2, { state := .opened, id := 77, rights := 1, credential := 0xFF00, blocks := [{ index := 0x2260, sub := 3, total := 1, data := [7], at_ := 0 }] })] })
    (rframe 0x10 77 1 (request 5 0x2260 3 0 0 0 [])) 5).2, rframe 0x10 77 1 (request 5 0x2260 3 0 0 0 []), 2,
    { index := 0x2260, sub := 3, total := 1, data := [7], at_ := 0 }, by decide +kernel⟩, ⟨opened ready,
    (State.takeRequest (opened ready) (rframe 0x10 77 1 (request 6 0x2260 3 0 0 0 [])) 6).2, rframe 0x10 77 1 (request
    6 0x2260 3 0 0 0 []), 2, by decide +kernel⟩, ⟨late (ready.setRyc
    { ready.ryc with sess := [(2, { state := .opened, id := 77, rights := 1, credential := 0xFF00, blocks := [{ index := 0x2260, sub := 3, total := 1, data := [], at_ := 0 }] })] })
    2500000001, 2, 0x2260, 3, { index := 0x2260, sub := 3, total := 1, data := [], at_ := 0 }, by decide +kernel⟩⟩

/-- 8 witnesses of the hypotheses of Obligations.CommandWindows. -/
theorem test_met_CommandWindows :
    (∃ (s : State) (prims : List HeldWrite) (w : HeldWrite), s.rankOfWrite w = 1 ∧ prims.any (fun p => contradicts p w) =
    true) ∧ (∃ (a : HeldWrite) (b : HeldWrite), a.window = b.window ∧ a.index = b.index ∧ a.sub = b.sub) ∧ (∃ (s :
    State) (v : State) (ok : Bool) (r : StartReport) (w : HeldWrite) (c : Nat), s.asleep = false ∧ s.mode ≠ .off ∧
    s.ryc.window = [w] ∧ s.ryc.reads = [] ∧ w.at_ / 62500 < s.now / 62500 ∧ ((s.setRyc
    { s.ryc with window := [] }).logWrite w 0).settle (if s.rankOfWrite w = 0 then [w] else []) [] w ok r = (c, v) ∧
    v.ryc.reads = []) ∧ (∃ (s : State), s.ryc.window = [] ∧ s.ryc.reads = []) ∧ (∃ (s : State) (w : OdWrite), 0x1110 ≤
    w.index.toNat ∧ w.index.toNat < 0x111F ∧ odAccess w.index.toNat w.sub.toNat = .rwp ∧ s.writeCode operator
    w.index.toNat w.sub.toNat 0 w.value = 0) ∧ (∃ (s : State) (w : OdWrite), s.writeCode operator w.index.toNat
    w.sub.toNat 0 w.value ≠ 0 ∧ w.index.toNat ≠ 0x111F) ∧ (∃ (w : OdWrite), (w.index.toNat < 0x1110 ∨ 0x4000 ≤
    w.index.toNat)) ∧ (∃ (w : OdWrite), (w.index.toNat < 0x1110 ∨ 0x4000 ≤ w.index.toNat)) :=
  ⟨⟨ready.odSet 0x1100 5 1,
    [{ sess := 2, id := 77, credential := 0xFF00, rights := 1, request := 1, op := 2, index := 0x2260, sub := 1, value := [5, 0], counter := 1, at_ := 0, port := 0 }],
    { sess := 2, id := 77, credential := 0xFF01, rights := 1, request := 1, op := 2, index := 0x2260, sub := 1, value := [6, 0], counter := 1, at_ := 0, port := 0 },
    by decide +kernel⟩,
    ⟨{ sess := 2, id := 77, credential := 0xFF00, rights := 1, request := 1, op := 2, index := 0x2260, sub := 1, value := [5, 0], counter := 1, at_ := 0, port := 0 },
    { sess := 2, id := 77, credential := 0xFF01, rights := 1, request := 1, op := 2, index := 0x2260, sub := 1, value := [6, 0], counter := 1, at_ := 0, port := 0 },
    by decide +kernel⟩, ⟨late (ready.setRyc
    { ready.ryc with window := [{ sess := 2, id := 77, credential := 0xFF00, rights := 1, request := 1, op := 2, index := 0x2920, sub := 1, value := [6, 0], counter := 1, at_ := 0, port := 0 }] })
    62500, (State.settle ((State.setRyc (late (ready.setRyc
    { ready.ryc with window := [{ sess := 2, id := 77, credential := 0xFF00, rights := 1, request := 1, op := 2, index := 0x2920, sub := 1, value := [6, 0], counter := 1, at_ := 0, port := 0 }] })
    62500)
    { (late (ready.setRyc { ready.ryc with window := [{ sess := 2, id := 77, credential := 0xFF00, rights := 1, request := 1, op := 2, index := 0x2920, sub := 1, value := [6, 0], counter := 1, at_ := 0, port := 0 }] }) 62500).ryc with window := [] }).logWrite
    ({ sess := 2, id := 77, credential := 0xFF00, rights := 1, request := 1, op := 2, index := 0x2920, sub := 1, value := [6, 0], counter := 1, at_ := 0, port := 0 })
    0) [] []
    ({ sess := 2, id := 77, credential := 0xFF00, rights := 1, request := 1, op := 2, index := 0x2920, sub := 1, value := [6, 0], counter := 1, at_ := 0, port := 0 })
    true {}).2, true, {},
    { sess := 2, id := 77, credential := 0xFF00, rights := 1, request := 1, op := 2, index := 0x2920, sub := 1, value := [6, 0], counter := 1, at_ := 0, port := 0 },
    (State.settle ((State.setRyc (late (ready.setRyc
    { ready.ryc with window := [{ sess := 2, id := 77, credential := 0xFF00, rights := 1, request := 1, op := 2, index := 0x2920, sub := 1, value := [6, 0], counter := 1, at_ := 0, port := 0 }] })
    62500)
    { (late (ready.setRyc { ready.ryc with window := [{ sess := 2, id := 77, credential := 0xFF00, rights := 1, request := 1, op := 2, index := 0x2920, sub := 1, value := [6, 0], counter := 1, at_ := 0, port := 0 }] }) 62500).ryc with window := [] }).logWrite
    ({ sess := 2, id := 77, credential := 0xFF00, rights := 1, request := 1, op := 2, index := 0x2920, sub := 1, value := [6, 0], counter := 1, at_ := 0, port := 0 })
    0) [] []
    ({ sess := 2, id := 77, credential := 0xFF00, rights := 1, request := 1, op := 2, index := 0x2920, sub := 1, value := [6, 0], counter := 1, at_ := 0, port := 0 })
    true {}).1, by decide +kernel⟩, ⟨ready, by decide +kernel⟩, ⟨opened ready,
    { index := 0x1110, sub := 1, value := [1] }, by decide +kernel⟩, ⟨ready,
    { index := 0x1110, sub := 1, value := [9] }, by decide +kernel⟩, ⟨{ index := 0x110F, sub := 1, value := [] },
    by decide +kernel⟩, ⟨{ index := 0x4000, sub := 1, value := [] }, by decide +kernel⟩⟩

/-- 9 witnesses of the hypotheses of Obligations.NetworkDescriptors. -/
theorem test_met_NetworkDescriptors :
    (∃ (s : State) (u : State) (q : QueueId) (d : Nat) (c : Nat), s.asleep = false ∧ s.atEngine q.toNat 9 = some d ∧
    dOpcode d = 0x70 ∧ s.txCheck q.toNat d = (c, u) ∧ c ≠ 0) ∧ (∃ (d : Nat), txBytes d = 0) ∧ (∃ (s : State) (u :
    State) (v : State) (q : QueueId) (d : Nat) (bs : List (Byte × Bool)), s.asleep = false ∧ s.atEngine q.toNat 9 =
    some d ∧ dOpcode d = 0x70 ∧ s.txCheck q.toNat d = (0, u) ∧ u.mread (dieOfQueue q.toNat) (s.queue q.toNat).part
    (txAddr d) (txBytes d) = (some bs, v) ∧ bs.any (·.2) = false ∧ v.sourceOk (s.queue q.toNat).part (s.queue
    q.toNat).linkOf (bs.map (·.1)) = true ∧ (s.link (s.queue q.toNat).linkOf).replaying = false ∧ s.txPorts (s.queue
    q.toNat).linkOf ≠ []) ∧ (∃ (s : State) (u : State) (v : State) (q : QueueId) (d : Nat) (bs : List (Byte × Bool)),
    s.asleep = false ∧ s.atEngine q.toNat 9 = some d ∧ dOpcode d = 0x70 ∧ s.txCheck q.toNat d = (0, u) ∧ u.mread
    (dieOfQueue q.toNat) (s.queue q.toNat).part (txAddr d) (txBytes d) = (some bs, v)) ∧ (∃ (s : State) (u : State) (v
    : State) (q : QueueId) (d : Nat) (bs : List (Byte × Bool)), s.asleep = false ∧ s.atEngine q.toNat 9 = some d ∧
    dOpcode d = 0x70 ∧ s.txCheck q.toNat d = (0, u) ∧ u.mread (dieOfQueue q.toNat) (s.queue q.toNat).part (txAddr d)
    (txBytes d) = (some bs, v)) ∧ (∃ (s : State) (u : State) (q : QueueId) (d : Nat), s.asleep = false ∧ s.atEngine
    q.toNat 9 = some d ∧ dOpcode d = 0x71 ∧ fld d 120 392 = 0 ∧ s.ruled q.toNat = true ∧ rxAddr d % 64 = 0 ∧ s.pcheck
    (dieOfQueue q.toNat) (s.queue q.toNat).part (rxAddr d) (rxBytes d) true = (true, u)) ∧ (∃ (s : State) (q :
    QueueId) (d : Nat), s.asleep = false ∧ s.atEngine q.toNat 9 = some d ∧ dOpcode d = 0x71) ∧ (∃ (s : State) (q :
    QueueId) (d : Nat), s.asleep = false ∧ s.atEngine q.toNat 9 = some d ∧ dOpcode d = 0x71) ∧ (∃ (s : State) (q :
    QueueId) (d : Nat), s.asleep = false ∧ s.atEngine q.toNat 9 = some d ∧ dOpcode d = 0x71) :=
  ⟨⟨(((mapped (handed 2306 [(56, 112)])).setDram [(0, { mem := { cells := [(12, 0x88), (13, 0xB5)] } })]).setNet
    { State.reset.net with ports := [(2, { role := .active, up := true })] }).setOd [(odKey 0x2620 5, 1)],
    (State.txCheck ((((mapped (handed 2306 [(56, 112)])).setDram [(0,
    { mem := { cells := [(12, 0x88), (13, 0xB5)] } })]).setNet
    { State.reset.net with ports := [(2, { role := .active, up := true })] }).setOd [(odKey 0x2620 5, 1)]) 0 (word
    [(56, 112)])).2, 0, word [(56, 112)], (State.txCheck ((((mapped (handed 2306 [(56, 112)])).setDram [(0,
    { mem := { cells := [(12, 0x88), (13, 0xB5)] } })]).setNet
    { State.reset.net with ports := [(2, { role := .active, up := true })] }).setOd [(odKey 0x2620 5, 1)]) 0 (word
    [(56, 112)])).1, by decide +kernel⟩, ⟨0, by decide +kernel⟩, ⟨(((mapped (handed 2306 [(56, 112), (112,
    46)])).setDram [(0, { mem := { cells := [(12, 0x88), (13, 0xB5)] } })]).setNet
    { State.reset.net with ports := [(2, { role := .active, up := true })] }).setOd [(odKey 0x2620 5, 1)],
    (State.txCheck ((((mapped (handed 2306 [(56, 112), (112, 46)])).setDram [(0,
    { mem := { cells := [(12, 0x88), (13, 0xB5)] } })]).setNet
    { State.reset.net with ports := [(2, { role := .active, up := true })] }).setOd [(odKey 0x2620 5, 1)]) 0 (word
    [(56, 112), (112, 46)])).2, (State.mread (State.txCheck ((((mapped (handed 2306 [(56, 112), (112, 46)])).setDram
    [(0, { mem := { cells := [(12, 0x88), (13, 0xB5)] } })]).setNet
    { State.reset.net with ports := [(2, { role := .active, up := true })] }).setOd [(odKey 0x2620 5, 1)]) 0 (word
    [(56, 112), (112, 46)])).2 0 0 0 46).2, 0, word [(56, 112), (112, 46)], (State.mread (State.txCheck ((((mapped
    (handed 2306 [(56, 112), (112, 46)])).setDram [(0, { mem := { cells := [(12, 0x88), (13, 0xB5)] } })]).setNet
    { State.reset.net with ports := [(2, { role := .active, up := true })] }).setOd [(odKey 0x2620 5, 1)]) 0 (word
    [(56, 112), (112, 46)])).2 0 0 0 46).1.getD [], by decide +kernel⟩, ⟨((mapped (handed 2306 [(56, 112), (112,
    46)])).setDram [(0, { mem := { cells := [(12, 0x88), (13, 0xB5)] } })]).setNet
    { State.reset.net with ports := [(2, { role := .active, up := true })] }, (State.txCheck (((mapped (handed 2306
    [(56, 112), (112, 46)])).setDram [(0, { mem := { cells := [(12, 0x88), (13, 0xB5)] } })]).setNet
    { State.reset.net with ports := [(2, { role := .active, up := true })] }) 0 (word [(56, 112), (112, 46)])).2,
    (State.mread (State.txCheck (((mapped (handed 2306 [(56, 112), (112, 46)])).setDram [(0,
    { mem := { cells := [(12, 0x88), (13, 0xB5)] } })]).setNet
    { State.reset.net with ports := [(2, { role := .active, up := true })] }) 0 (word [(56, 112), (112, 46)])).2 0 0 0
    46).2, 0, word [(56, 112), (112, 46)], (State.mread (State.txCheck (((mapped (handed 2306 [(56, 112), (112,
    46)])).setDram [(0, { mem := { cells := [(12, 0x88), (13, 0xB5)] } })]).setNet
    { State.reset.net with ports := [(2, { role := .active, up := true })] }) 0 (word [(56, 112), (112, 46)])).2 0 0 0
    46).1.getD [], by decide +kernel⟩, ⟨(((mapped (handed 2306 [(56, 112), (112, 46)])).setDram [(0,
    { mem := { cells := [(12, 0x88), (13, 0xB5)], poison := [0] } })]).setNet
    { State.reset.net with ports := [(2, { role := .active, up := true })] }).setOd [(odKey 0x2620 5, 1)],
    (State.txCheck ((((mapped (handed 2306 [(56, 112), (112, 46)])).setDram [(0,
    { mem := { cells := [(12, 0x88), (13, 0xB5)], poison := [0] } })]).setNet
    { State.reset.net with ports := [(2, { role := .active, up := true })] }).setOd [(odKey 0x2620 5, 1)]) 0 (word
    [(56, 112), (112, 46)])).2, (State.mread (State.txCheck ((((mapped (handed 2306 [(56, 112), (112, 46)])).setDram
    [(0, { mem := { cells := [(12, 0x88), (13, 0xB5)], poison := [0] } })]).setNet
    { State.reset.net with ports := [(2, { role := .active, up := true })] }).setOd [(odKey 0x2620 5, 1)]) 0 (word
    [(56, 112), (112, 46)])).2 0 0 0 46).2, 0, word [(56, 112), (112, 46)], (State.mread (State.txCheck ((((mapped
    (handed 2306 [(56, 112), (112, 46)])).setDram [(0,
    { mem := { cells := [(12, 0x88), (13, 0xB5)], poison := [0] } })]).setNet
    { State.reset.net with ports := [(2, { role := .active, up := true })] }).setOd [(odKey 0x2620 5, 1)]) 0 (word
    [(56, 112), (112, 46)])).2 0 0 0 46).1.getD [], by decide +kernel⟩, ⟨(mapped (handed 2306 [(56, 113)])).setNet
    { State.reset.net with steer := [(256, word [(42, 1)])] }, (State.pcheck ((mapped (handed 2306 [(56,
    113)])).setNet { State.reset.net with steer := [(256, word [(42, 1)])] }) 0 0 0 4096 true).2, 0, word [(56, 113)],
    by decide +kernel⟩, ⟨(mapped (handed 2306 [(56, 113), (120, 1)])).setNet
    { State.reset.net with steer := [(256, word [(42, 1)])] }, 0, word [(56, 113), (120, 1)], by decide +kernel⟩,
    ⟨mapped (handed 2306 [(56, 113)]), 0, word [(56, 113)], by decide +kernel⟩, ⟨(mapped (handed 2306 [(56, 113), (64,
    32)])).setNet { State.reset.net with steer := [(256, word [(42, 1)])] }, 0, word [(56, 113), (64, 32)],
    by decide +kernel⟩⟩

/-- 10 witnesses of the hypotheses of Obligations.NetworkReception. -/
theorem test_met_NetworkReception :
    (∃ (x : Link) (y : Link) (src : Nat) (seq : Nat) (now : Nat), x.take src seq now = (true, y)) ∧ (∃ (s : State) (p :
    PortId) (bs : List Byte) (fcs : Bool), (s.port p.val).up = true ∧ s.mode ≠ .off ∧ s.asleep = false ∧ (s.odInc
    (0x2610 + p.val) 6 1).accepts p.val bs fcs = false) ∧ (∃ (s : State) (p : PortId), (s.port p.val).up = true ∧
    s.mode ≠ .off ∧ s.asleep = false) ∧ (∃ (s : State) (p : PortId) (bs : List Byte) (fcs : Bool) (k : Link), (s.port
    p.val).up = true ∧ s.mode ≠ .off ∧ s.asleep = false ∧ (s.odInc (0x2610 + p.val) 6 1).accepts p.val bs fcs = true ∧
    fEther bs = 0x88B5 ∧ fhType (fHeader bs) = 0 ∧ (s.link (linkOfPort p.val)).take (fhSrc (fHeader bs)) (fhSeq
    (fHeader bs)) s.now = (false, k)) ∧ (∃ (s : State) (p : PortId) (bs : List Byte) (fcs : Bool) (k : Link), (s.port
    p.val).up = true ∧ s.mode ≠ .off ∧ s.asleep = false ∧ (s.odInc (0x2610 + p.val) 6 1).accepts p.val bs fcs = true ∧
    fEther bs = 0x88B5 ∧ fhType (fHeader bs) = 0 ∧ (s.link (linkOfPort p.val)).take (fhSrc (fHeader bs)) (fhSeq
    (fHeader bs)) s.now = (true, k)) ∧ (∃ (s : State) (l : LinkId) (src : BitVec 16) (hi : Nat) (t : Nat) (seen : List
    Nat), (s.link l.val).peers.find src.toNat = some (hi, seen, t) ∧ t + 250000000 ≤ s.now) ∧ (∃ (s : State) (p :
    PortId) (gid : BitVec 32) (token : BitVec 64), 2 ≤ p.val ∧ (s.port p.val).up = true ∧ s.asleep = false ∧
    s.groupsMatching gid.toNat token.toNat = []) ∧ (∃ (s : State) (p : PortId) (gid : BitVec 32) (token : BitVec 64)
    (g : Nat), 2 ≤ p.val ∧ (s.port p.val).up = true ∧ s.asleep = false ∧ s.groupsMatching gid.toNat token.toNat = [g])
    ∧ (∃ (s : State) (u : State) (g : BitVec 6) (members : List Nat), s.asleep = false ∧ jgValid (s.net.groups.getD
    g.toNat 0) = true ∧ s.fabricUp ≠ [] ∧ s.groupMembers (s.net.groups.getD g.toNat 0) = (members, u)) ∧ (∃ (s :
    State) (g : BitVec 6), jgValid (s.net.groups.getD g.toNat 0) = false) :=
  ⟨⟨{}, ((Link.take {} 1 7 0)).2, 1, 7, 0, by decide +kernel⟩, ⟨(ready.setNet
    { ready.net with ports := [(2, { role := .active, up := true })] }), 2, (List.replicate 6 0xFF ++ List.replicate 6
    0 ++ [0x88, 0xB5] ++ leBytes 32 (word [(252, 1), (208, 0xFFFF)]) ++ List.replicate 78 0), false,
    by decide +kernel⟩, ⟨(ready.setNet { ready.net with ports := [(2, { role := .active, up := true })] }), 2,
    by decide +kernel⟩, ⟨(ready.setNet
    { ready.net with ports := [(2, { role := .active, up := true })], links := [(1, { peers := [(0, (0, [], 0))] })] }),
    2, (List.replicate 6 0xFF ++ List.replicate 6 0 ++ [0x88, 0xB5] ++ leBytes 32 (word [(252, 1), (208, 0xFFFF)]) ++
    List.replicate 78 0), true, ((Link.take { peers := [(0, (0, [], 0))] } 0 0 0)).2, by decide +kernel⟩,
    ⟨(ready.setNet { ready.net with ports := [(2, { role := .active, up := true })] }), 2, (List.replicate 6 0xFF ++
    List.replicate 6 0 ++ [0x88, 0xB5] ++ leBytes 32 (word [(252, 1), (208, 0xFFFF)]) ++ List.replicate 78 0), true,
    ((Link.take {} 0 0 0)).2, by decide +kernel⟩, ⟨late ((ready.setNet
    { ready.net with ports := [(2, { role := .active, up := true })], links := [(1, { peers := [(7, (4, [], 0))] })] }))
    250000000, 1, 7, 4, 0, [], by decide +kernel⟩, ⟨(ready.setNet
    { ready.net with ports := [(2, { role := .active, up := true })] }), 2, 5, 9, by decide +kernel⟩, ⟨((ready.setNet
    { ready.net with ports := [(2, { role := .active, up := true })], groups := [(3, word [(224, 5), (160, 9), (156, 1), (92, 0), (75, 0), (58, 1)])] })).setQueues
    [(0, { state := .paused })], 2, 5, 9, 3, by decide +kernel⟩, ⟨mapped ((ready.setNet
    { ready.net with ports := [(2, { role := .active, up := true })], groups := [(3, word [(224, 5), (160, 9), (156, 1), (92, 0), (75, 0), (58, 1)])] })),
    ((mapped ((ready.setNet
    { ready.net with ports := [(2, { role := .active, up := true })], groups := [(3, word [(224, 5), (160, 9), (156, 1), (92, 0), (75, 0), (58, 1)])] }))).groupMembers
    (word [(224, 5), (160, 9), (156, 1), (92, 0), (75, 0), (58, 1)])).2, 3, ((mapped ((ready.setNet
    { ready.net with ports := [(2, { role := .active, up := true })], groups := [(3, word [(224, 5), (160, 9), (156, 1), (92, 0), (75, 0), (58, 1)])] }))).groupMembers
    (word [(224, 5), (160, 9), (156, 1), (92, 0), (75, 0), (58, 1)])).1, by decide +kernel⟩, ⟨ready, 63,
    by decide +kernel⟩⟩

/-- 18 witnesses of the hypotheses of Obligations.PortRoles. -/
theorem test_met_PortRoles :
    (∃ (s : State) (p : PortId) (trigger : Fin 5) (b : Nat), s.asleep = false ∧ s.mode ≠ .off ∧ triggerOn trigger.val
    p.val = true ∧ (s.port p.val).role = .active ∧ s.standbyPort (linkOfPort p.val) = some b ∧ (s.failuresHour
    p.val).length < 5) ∧ (∃ (s : State) (p : PortId) (trigger : Fin 5), s.asleep = false ∧ s.mode ≠ .off ∧ triggerOn
    trigger.val p.val = true ∧ (s.port p.val).role = .active ∧ s.standbyPort (linkOfPort p.val) = none ∧
    (s.failuresHour p.val).length < 5) ∧ (∃ (s : State) (p : PortId) (trigger : Fin 5), s.asleep = false ∧ s.mode ≠
    .off ∧ triggerOn trigger.val p.val = true ∧ (s.port p.val).role = .standby) ∧ (∃ (s : State) (p : PortId) (trigger
    : Fin 5), s.asleep = false ∧ s.mode ≠ .off ∧ triggerOn trigger.val p.val = true ∧ (s.port p.val).role = .standby)
    ∧ (∃ (s : State) (l : LinkId), s.asleep = false ∧ s.mode ≠ .off ∧ (s.standbyPort l.val).isSome = true ∧ (s.link
    l.val).switching = none) ∧ (∃ (s : State) (code : Nat), (code ≥ 3 ∨ s.standbyPort code = none)) ∧ (∃ (s : State)
    (code : Nat), (code ≥ 3 ∨ s.standbyPort code = none)) ∧ (∃ (s : State) (l : LinkId) (a : Nat) (b : Nat) (t0 :
    Nat), (s.link l.val).switching = some t0 ∧ t0 + 5000 ≤ s.now ∧ s.activePort l.val = some a ∧ s.standbyPort l.val =
    some b) ∧ (∃ (s : State) (p : PortId) (lanes : List LaneReading), s.asleep = false ∧ s.mode ≠ .off ∧ 2 ≤ p.val ∧
    lanes.length = 4 ∧ (s.port p.val).up = false ∧ (s.port p.val).role = .down) ∧ (∃ (s : State) (p : PortId), (s.port
    p.val).role = .holdoff ∧ (s.port p.val).up = true ∧ (s.port p.val).verdict < 4 ∧ (s.port p.val).holdSince +
    250000000 * s.odGet 0x2600 5 ≤ s.now) ∧ (∃ (s : State) (p : PortId), (4 ≤ (s.port p.val).verdict ∨ s.now < (s.port
    p.val).holdSince + 250000000 * s.odGet 0x2600 5)) ∧ (∃ (s : State) (p : PortId), (4 ≤ (s.port p.val).verdict ∨
    s.now < (s.port p.val).holdSince + 250000000 * s.odGet 0x2600 5)) ∧ (∃ (s : State) (p : PortId), s.asleep = false
    ∧ 2 ≤ p.val ∧ (s.port p.val).role = .standby ∧ (s.port p.val).up = true) ∧ (∃ (s : State) (l : LinkId) (q : Nat)
    (j : Job), s.asleep = false ∧ s.txPorts l.val = [] ∧ q ∈ s.waitingTx l.val ∧ j ∈ (s.queue q).jobs ∧ j.phase =
    .waitLink ∧ j.since + 250000 * s.odGet 0x2600 7 ≤ s.now) ∧ (∃ (s : State) (l : LinkId), (s.link l.val).replaying =
    true ∧ s.waitingTx l.val = []) ∧ (∃ (s : State) (p : PortId) (lanes : List LaneReading), s.asleep = false ∧ 2 ≤
    p.val ∧ lanes.length = 4 ∧ ((s.port p.val).role = .standby ∨ (s.port p.val).role = .down)) ∧ (∃ (s : State) (p :
    PortId), (s.port p.val).role = .failed) ∧ (∃ (s : State) (p : PortId), (s.port p.val).role ≠ .failed) :=
  ⟨⟨ready.setNet
    { ready.net with ports := [(2, { role := .active, up := true }), (4, { role := .standby, up := true })] }, 2, 4,
    4, by decide +kernel⟩, ⟨ready.setNet
    { ready.net with ports := [(2, { role := .active, up := true })], links := [(1, { ring := [{ time := 0, part := 0, port := 2, bytes := [] }] })] },
    2, 0, by decide +kernel⟩, ⟨ready.setNet
    { ready.net with ports := [(2, { role := .active, up := true }), (4, { role := .standby, up := true })] }, 4, 2,
    by decide +kernel⟩, ⟨ready.setNet
    { ready.net with ports := [(2, { role := .active, up := true }), (4, { role := .standby, up := true, failures := [0, 0, 0, 0, 0] })] },
    4, 2, by decide +kernel⟩, ⟨ready.setNet
    { ready.net with ports := [(2, { role := .active, up := true }), (4, { role := .standby, up := true })] }, 1,
    by decide +kernel⟩, ⟨ready, 3, by decide +kernel⟩, ⟨ready, 2, by decide +kernel⟩, ⟨late (ready.setNet
    { ready.net with ports := [(2, { role := .active, up := true }), (4, { role := .standby, up := true })], links := [(1, { switching := some 0 })] })
    5000, 1, 2, 4, 0, by decide +kernel⟩, ⟨ready.setNet { ready.net with ports := [(2, { role := .down })] }, 2, [⟨0,
    0, 0⟩, ⟨0, 0, 0⟩, ⟨0, 0, 0⟩, ⟨0, 0, 0⟩], by decide +kernel⟩, ⟨late (ready.setNet
    { ready.net with ports := [(5, { role := .holdoff, up := true, verdict := 3 })] }) (250000000*ready.odGet 0x2600
    5), 5, by decide +kernel⟩, ⟨ready.setNet
    { ready.net with ports := [(5, { role := .holdoff, up := true, verdict := 4 })] }, 5, by decide +kernel⟩, ⟨late
    (ready.setNet { ready.net with ports := [(5, { role := .holdoff, up := true })] }) (250000000*ready.odGet 0x2600
    5-1), 5, by decide +kernel⟩, ⟨ready.setNet { ready.net with ports := [(4, { role := .standby, up := true })] }, 4,
    by decide +kernel⟩, ⟨late ((ready.setNet { ready.net with ports := [(5, { role := .down })] }).setQueues [(65536,
    busyQ 2309 .waitLink [])]) (250000*ready.odGet 0x2600 7), 2, 65536, jobOf .waitLink [], by decide +kernel⟩,
    ⟨ready.setNet { ready.net with ports := [], links := [(1, { replaying := true })] }, 1, by decide +kernel⟩,
    ⟨ready.setNet { ready.net with ports := [(4, { role := .standby, up := true })] }, 4, [⟨0, 0, 0⟩, ⟨0, 0, 0⟩, ⟨0,
    0, 0⟩, ⟨0, 0, 0⟩], by decide +kernel⟩, ⟨ready.setNet { ready.net with ports := [(1, { role := .failed })] }, 1,
    by decide +kernel⟩, ⟨ready, 1, by decide +kernel⟩⟩

/-- 11 witnesses of the hypotheses of Obligations.EventSources. -/
theorem test_met_EventSources :
    (∃ (s : State) (die : Die) (n : BitVec 10), s.mode ≠ .off ∧ s.asleep = false ∧ sourceIsCond n.toNat = false ∧
    sourceReserved die.toNat n.toNat = false ∧ scEnable (s.source die.toNat n.toNat).control.toNat = false) ∧ (∃ (s :
    State) (die : Die) (n : BitVec 10), s.mode ≠ .off ∧ s.asleep = false ∧ sourceIsCond n.toNat = false ∧
    sourceReserved die.toNat n.toNat = false ∧ scEnable (s.source die.toNat n.toNat).control.toNat = true ∧ (s.source
    die.toNat n.toNat).n = 0 ∧ 1 < scCoalCount (s.source die.toNat n.toNat).control.toNat) ∧ (∃ (s : State) (die :
    Die) (n : BitVec 10) (c : Nat), s.mode ≠ .off ∧ s.asleep = false ∧ sourceIsCond n.toNat = false ∧ sourceReserved
    die.toNat n.toNat = false ∧ (s.source die.toNat n.toNat).control.toNat = c ∧ scEnable c = true ∧ scToQueue c =
    false ∧ scToMailbox c = false ∧ scIrqEn c = true ∧ (s.source die.toNat n.toNat).disarmed = false ∧ scCoalCount c ≤
    (s.source die.toNat n.toNat).n + 1) ∧ (∃ (die : Die) (n : BitVec 10), sourceReserved die.toNat n.toNat = true) ∧
    (∃ (s : State) (die : Die) (n : BitVec 10), sourceIsCond n.toNat = true ∧ (s.source die.toNat n.toNat).cond =
    true) ∧ (∃ (s : State) (die : Die) (n : BitVec 10), s.asleep = false ∧ 0 < (s.source die.toNat n.toNat).n ∧
    scEnable (s.source die.toNat n.toNat).control.toNat = true ∧ scCoalTime (s.source die.toNat n.toNat).control.toNat
    ≠ 0 ∧ (s.source die.toNat n.toNat).t0 + limitOf (scCoalTime (s.source die.toNat n.toNat).control.toNat) ≤ s.now) ∧
    (∃ (s : State) (die : Die) (n : BitVec 10), s.now < (s.source die.toNat n.toNat).t0 + limitOf (scCoalTime
    (s.source die.toNat n.toNat).control.toNat)) ∧ (∃ (s : State) (die : Die) (n : BitVec 10) (w : BitVec 64),
    s.firmwareUp = true ∧ (sourceReserved die.toNat n.toNat = true ∨ controlBad n.toNat (setFld w.toNat 45 4 0) =
    true)) ∧ (∃ (s : State) (die : Die) (n : BitVec 10) (w : BitVec 64), s.firmwareUp = true ∧ (sourceReserved
    die.toNat n.toNat = true ∨ controlBad n.toNat (setFld w.toNat 45 4 0) = true)) ∧ (∃ (s : State) (die : Die) (n :
    BitVec 10) (w : BitVec 64), s.firmwareUp = true ∧ sourceReserved die.toNat n.toNat = false ∧ controlBad n.toNat
    (setFld w.toNat 45 4 0) = false ∧ scEnable (s.source die.toNat n.toNat).control.toNat = true ∧ setFld (setFld
    w.toNat 45 4 0) 63 1 0 ≠ setFld (s.source die.toNat n.toNat).control.toNat 63 1 0) ∧ (∃ (s : State) (die : Die) (n
    : BitVec 10) (w : BitVec 64), s.firmwareUp = true ∧ sourceReserved die.toNat n.toNat = false ∧ controlBad n.toNat
    (setFld w.toNat 45 4 0) = false ∧ scEnable (s.source die.toNat n.toNat).control.toNat = false ∧ scEnable (setFld
    w.toNat 45 4 0) = true ∧ s.enableBad die.toNat n.toNat (setFld w.toNat 45 4 0) = false) :=
  ⟨⟨ready, 0, 300, by decide +kernel⟩, ⟨ready.setEv
    { ready.ev with src := [(300, { control := BitVec.ofNat 64 (word [(63, 1), (25, 1)]) })] }, 0, 300,
    by decide +kernel⟩, ⟨ready.setEv
    { ready.ev with src := [(300, { control := BitVec.ofNat 64 (word [(63, 1), (58, 1), (53, 2), (49, 3)]) })] }, 0,
    300, word [(63, 1), (58, 1), (53, 2), (49, 3)], by decide +kernel⟩, ⟨1, 0, by decide +kernel⟩, ⟨ready.setEv
    { ready.ev with src := [(16, { control := BitVec.ofNat 64 (word []), cond := true })] }, 0, 16,
    by decide +kernel⟩, ⟨late (ready.setEv
    { ready.ev with src := [(300, { control := BitVec.ofNat 64 (word [(63, 1), (41, 1)]), n := 1 })] }) 2500, 0, 300,
    by decide +kernel⟩, ⟨late (ready.setEv
    { ready.ev with src := [(300, { control := BitVec.ofNat 64 (word [(63, 1), (41, 1)]), n := 1 })] }) 2499, 0, 300,
    by decide +kernel⟩, ⟨ready, 1, 4, 0, by decide +kernel⟩, ⟨ready, 0, 300, 1, by decide +kernel⟩, ⟨ready.setEv
    { ready.ev with src := [(300, { control := BitVec.ofNat 64 (word [(63, 1)]) })] }, 0, 300, BitVec.ofNat 64 (word
    [(63, 1), (58, 1), (49, 1)]), by decide +kernel⟩, ⟨ready, 0, 300, BitVec.ofNat 64 (word [(63, 1)]),
    by decide +kernel⟩⟩

/-- 5 witnesses of the hypotheses of Obligations.Interrupts. -/
theorem test_met_Interrupts :
    (∃ (x : Irq) (b : Nat × Nat × Nat), x.best = some b) ∧ (∃ (s : State) (c : IrqCore) (r : Nat × Nat × Nat), s.diesOn =
    true ∧ (s.irq (irqNumber c)).best = some r ∧ (s.irq (irqNumber c)).stack.headD 0 < r.1) ∧ (∃ (s : State) (c :
    IrqCore), s.diesOn = true ∧ ((∀ r : Nat × Nat × Nat, (s.irq (irqNumber c)).best = some r → r.1 ≤ (s.irq (irqNumber
    c)).stack.headD 0))) ∧ (∃ (s : State) (c : IrqCore) (word : BitVec 32) (rest : List Nat), s.diesOn = true ∧ (s.irq
    (irqNumber c)).stack = word.toNat :: rest) ∧ (∃ (s : State) (n : BitVec 3), s.diesOn = true ∧ (s.irq (16 +
    n.toNat)).stack = [] ∧ s.rst.due = none ∧ s.rst.running = none ∧ s.mode ≠ .refused) :=
  ⟨⟨{ pending := [(3, 0, 9), (3, 0, 5)] }, (3, 0, 5), by decide +kernel⟩, ⟨ready.setEv
    { ready.ev with irq := [(2, { pending := [(3, 0, 5)], stack := [2] })] }, .app 2, (3, 0, 5), by decide +kernel⟩,
    ⟨ready.setEv { ready.ev with irq := [(2, { pending := [], stack := [3] })] }, .app 2, by decide +kernel, by
    decide⟩, ⟨ready.setEv { ready.ev with irq := [(23, { pending := [], stack := [196613] })] }, .fw 7, 196613, [],
    by decide +kernel⟩, ⟨settled ready, 7, by decide +kernel⟩⟩

/-- 18 witnesses of the hypotheses of Obligations.PerformanceCounters. -/
theorem test_met_PerformanceCounters :
    (∃ (c : Ctr), ctMode c.control.toNat = 0) ∧ (∃ (c : Ctr), ctMode c.control.toNat = 1) ∧ (∃ (c : Ctr) (n : Nat), ctMode
    c.control.toNat = 2 ∧ c.threshold.toNat ≠ 0 ∧ c.threshold.toNat ≤ c.value.toNat + n) ∧ (∃ (s : State) (k : Fin
    416) (n : Nat) (c : Ctr), s.asleep = false ∧ s.mode ≠ .off ∧ ctEnable (s.ctr k.val).control.toNat = true ∧
    s.ev.frozen = false ∧ n ≠ 0 ∧ (s.ctr k.val).add n = (c, true, false)) ∧ (∃ (s : State) (k : Fin 416) (n : Nat) (c
    : Ctr), s.asleep = false ∧ s.mode ≠ .off ∧ ctEnable (s.ctr k.val).control.toNat = true ∧ s.ev.frozen = false ∧ n ≠
    0 ∧ (s.ctr k.val).add n = (c, true, false)) ∧ (∃ (s : State) (k : Fin 416) (n : Nat) (c : Ctr), s.asleep = false ∧
    s.mode ≠ .off ∧ ctEnable (s.ctr k.val).control.toNat = true ∧ s.ev.frozen = false ∧ n ≠ 0 ∧ (s.ctr k.val).add n =
    (c, false, true)) ∧ (∃ (s : State) (k : Fin 416) (w : BitVec 64), s.diesOn = true ∧ s.counterOk k.val w.toNat =
    true) ∧ (∃ (s : State) (k : Fin 416) (w : BitVec 64), s.counterOk k.val w.toNat = false) ∧ (∃ (s : State),
    s.diesOn = true ∧ s.ev.frozen = false ∧ s.ev.freezeAt = none) ∧ (∃ (s : State), s.diesOn = true ∧ s.ev.frozen =
    true) ∧ (∃ (s : State) (t0 : Nat), s.asleep = false ∧ s.ev.freezeAt = some t0 ∧ t0 ≤ s.now) ∧ (∃ (s : State),
    s.ev.frozen = true) ∧ (∃ (s : State), s.diesOn = true ∧ s.ev.frozen = true) ∧ (∃ (s : State), s.diesOn = true ∧
    s.ev.frozen = false) ∧ (∃ (s : State), s.diesOn = true ∧ s.ev.frozen = true) ∧ (∃ (s : State), s.diesOn = true ∧
    s.ev.frozen = true) ∧ (∃ (s : State) (v : Nat), s.diesOn = true ∧ s.odGet 0x2910 1 = v ∧ sourceReserved (v / 1024)
    (v % 1024) = false) ∧ (∃ (s : State) (v : Nat), s.diesOn = true ∧ s.odGet 0x2910 1 = v ∧ sourceReserved (v / 1024)
    (v % 1024) = true) :=
  ⟨⟨{ value := 0xFFFFFFFFFFFF }, by decide +kernel⟩, ⟨{ control := BitVec.ofNat 64 (2 ^ 60), value := 0xFFFFFFFFFFFF },
    by decide +kernel⟩, ⟨{ control := BitVec.ofNat 64 (2 ^ 61), value := 5, threshold := 7 }, 2, by decide +kernel⟩,
    ⟨ready.setEv
    { ready.ev with ctr := [(415, { control := BitVec.ofNat 64 (word [(63, 1), (50, 300)]), value := 5, threshold := 7 })] },
    415, 2, (Ctr.add { control := BitVec.ofNat 64 (word [(63, 1), (50, 300)]), value := 5, threshold := 7 } 2).1,
    by decide +kernel⟩, ⟨ready.setEv
    { ready.ev with ctr := [(415, { control := BitVec.ofNat 64 (word [(63, 1)]), value := 5, threshold := 7 })] },
    415, 2, (Ctr.add { control := BitVec.ofNat 64 (word [(63, 1)]), value := 5, threshold := 7 } 2).1,
    by decide +kernel⟩, ⟨ready.setEv
    { ready.ev with ctr := [(415, { control := BitVec.ofNat 64 (word [(63, 1)]), value := 0xFFFFFFFFFFFF, threshold := 0 })] },
    415, 1, (Ctr.add { control := BitVec.ofNat 64 (word [(63, 1)]), value := 0xFFFFFFFFFFFF, threshold := 0 } 1).1,
    by decide +kernel⟩, ⟨ready, 415, BitVec.ofNat 64 (word [(63, 1), (38, 0x50)]), by decide +kernel⟩, ⟨ready, 0,
    BitVec.ofNat 64 (word [(60, 3)]), by decide +kernel⟩, ⟨ready, by decide +kernel⟩, ⟨ready.setEv
    { ready.ev with frozen := true }, by decide +kernel⟩, ⟨ready.setEv { ready.ev with freezeAt := some 0 }, 0,
    by decide +kernel⟩, ⟨ready.setEv { ready.ev with frozen := true }, by decide +kernel⟩, ⟨ready.setEv
    { ready.ev with frozen := true }, by decide +kernel⟩, ⟨ready, by decide +kernel⟩, ⟨ready.setEv
    { ready.ev with frozen := true }, by decide +kernel⟩, ⟨ready.setEv { ready.ev with frozen := true },
    by decide +kernel⟩, ⟨ready.odSet 0x2910 1 300, 300, by decide +kernel⟩, ⟨ready.odSet 0x2910 1 1024, 1024,
    by decide +kernel⟩⟩

/-- 11 witnesses of the hypotheses of Obligations.WeightDigests. -/
theorem test_met_WeightDigests :
    (∃ (s : State) (u : State) (r : BundleReg) (ds : List Nat), s.registerOk r = true ∧ s.digestPages r.part.toNat
    ((r.pages.map BitVec.toNat).map (s.pageEntry r.part.toNat)) = (ds, u)) ∧ (∃ (s : State) (r : BundleReg),
    s.registerOk r = false) ∧ (∃ (s : State) (r : BundleReg), s.registerOk r = false) ∧ (∃ (s : State), s.firmwareUp =
    true) ∧ (∃ (s : State) (b : BitVec 4) (x : Bundle), s.diesOn = true ∧ s.bundle b.toNat = some x ∧ x.running =
    false ∧ x.since + 250000000 * s.odGet 0x2700 5 ≤ s.now) ∧ (∃ (s : State) (b : BitVec 4) (x : Bundle), s.bundle
    b.toNat = some x ∧ s.now < x.since + 250000000 * s.odGet 0x2700 5) ∧ (∃ (s : State) (b : BitVec 4) (x : Bundle),
    s.diesOn = true ∧ s.bundle b.toNat = some x ∧ x.running = false) ∧ (∃ (s : State) (b : BitVec 4), s.diesOn = true
    ∧ s.bundle b.toNat = none) ∧ (∃ (s : State) (u : State) (b : BitVec 4) (x : Bundle) (ds : List Nat) (n : Nat),
    s.diesOn = true ∧ s.bundle b.toNat = some x ∧ x.running = true ∧ s.passPages b.toNat x (x.pages.zip x.loadPages) =
    (ds, n, u)) ∧ (∃ (s : State) (b : BitVec 4) (x : Bundle), s.diesOn = true ∧ s.bundle b.toNat = some x) ∧ (∃ (s :
    State) (b : BitVec 4) (x : Bundle), s.diesOn = true ∧ s.bundle b.toNat = some x) :=
  ⟨⟨mapped ready, (State.digestPages (mapped ready) 0 (([(0 : BitVec 18)].map BitVec.toNat).map ((mapped
    ready).pageEntry 0))).2, { slot := 15, part := 0, digest := 7, pages := [0] }, (State.digestPages (mapped ready) 0
    (([(0 : BitVec 18)].map BitVec.toNat).map ((mapped ready).pageEntry 0))).1, by decide +kernel, pair_eq⟩, ⟨ready,
    { slot := 15, part := 0, digest := 7, pages := [0] }, by decide +kernel⟩, ⟨mapped ready,
    { slot := 15, part := 0, digest := 7, pages := [1] }, by decide +kernel⟩, ⟨ready, by decide +kernel⟩, ⟨late
    ((mapped ready).setRel
    { State.reset.rel with bundles := [(15, { part := 0, digest := 0, pages := [0], loadPages := [0], load := 0, lastPages := [], last := 0, lastPass := 0, lastGood := 0, since := 0 })] })
    (250000000*ready.odGet 0x2700 5), 15,
    { part := 0, digest := 0, pages := [0], loadPages := [0], load := 0, lastPages := [], last := 0, lastPass := 0, lastGood := 0, since := 0 },
    by decide +kernel⟩, ⟨late ((mapped ready).setRel
    { State.reset.rel with bundles := [(15, { part := 0, digest := 0, pages := [0], loadPages := [0], load := 0, lastPages := [], last := 0, lastPass := 0, lastGood := 0, since := 0 })] })
    (250000000*ready.odGet 0x2700 5 - 1), 15,
    { part := 0, digest := 0, pages := [0], loadPages := [0], load := 0, lastPages := [], last := 0, lastPass := 0, lastGood := 0, since := 0 },
    by decide +kernel⟩, ⟨(mapped ready).setRel
    { State.reset.rel with bundles := [(15, { part := 0, digest := 0, pages := [0], loadPages := [0], load := 0, lastPages := [], last := 0, lastPass := 0, lastGood := 0, since := 0 })] },
    15,
    { part := 0, digest := 0, pages := [0], loadPages := [0], load := 0, lastPages := [], last := 0, lastPass := 0, lastGood := 0, since := 0 },
    by decide +kernel⟩, ⟨ready, 15, by decide +kernel⟩, ⟨(mapped ready).setRel
    { State.reset.rel with bundles := [(15, { part := 0, digest := 0, pages := [0], loadPages := [0], load := 0, lastPages := [], last := 0, lastPass := 0, lastGood := 0, since := 0, running := true })] },
    (State.passPages ((mapped ready).setRel
    { State.reset.rel with bundles := [(15, { part := 0, digest := 0, pages := [0], loadPages := [0], load := 0, lastPages := [], last := 0, lastPass := 0, lastGood := 0, since := 0, running := true })] })
    (15 : BitVec 4).toNat
    ({ part := 0, digest := 0, pages := [0], loadPages := [0], load := 0, lastPages := [], last := 0, lastPass := 0, lastGood := 0, since := 0, running := true })
    (({ part := 0, digest := 0, pages := [0], loadPages := [0], load := 0, lastPages := [], last := 0, lastPass := 0, lastGood := 0, since := 0, running := true }
    : Bundle).pages.zip
    ({ part := 0, digest := 0, pages := [0], loadPages := [0], load := 0, lastPages := [], last := 0, lastPass := 0, lastGood := 0, since := 0, running := true }
    : Bundle).loadPages)).2.2, 15,
    { part := 0, digest := 0, pages := [0], loadPages := [0], load := 0, lastPages := [], last := 0, lastPass := 0, lastGood := 0, since := 0, running := true },
    (State.passPages ((mapped ready).setRel
    { State.reset.rel with bundles := [(15, { part := 0, digest := 0, pages := [0], loadPages := [0], load := 0, lastPages := [], last := 0, lastPass := 0, lastGood := 0, since := 0, running := true })] })
    (15 : BitVec 4).toNat
    ({ part := 0, digest := 0, pages := [0], loadPages := [0], load := 0, lastPages := [], last := 0, lastPass := 0, lastGood := 0, since := 0, running := true })
    (({ part := 0, digest := 0, pages := [0], loadPages := [0], load := 0, lastPages := [], last := 0, lastPass := 0, lastGood := 0, since := 0, running := true }
    : Bundle).pages.zip
    ({ part := 0, digest := 0, pages := [0], loadPages := [0], load := 0, lastPages := [], last := 0, lastPass := 0, lastGood := 0, since := 0, running := true }
    : Bundle).loadPages)).1, (State.passPages ((mapped ready).setRel
    { State.reset.rel with bundles := [(15, { part := 0, digest := 0, pages := [0], loadPages := [0], load := 0, lastPages := [], last := 0, lastPass := 0, lastGood := 0, since := 0, running := true })] })
    (15 : BitVec 4).toNat
    ({ part := 0, digest := 0, pages := [0], loadPages := [0], load := 0, lastPages := [], last := 0, lastPass := 0, lastGood := 0, since := 0, running := true })
    (({ part := 0, digest := 0, pages := [0], loadPages := [0], load := 0, lastPages := [], last := 0, lastPass := 0, lastGood := 0, since := 0, running := true }
    : Bundle).pages.zip
    ({ part := 0, digest := 0, pages := [0], loadPages := [0], load := 0, lastPages := [], last := 0, lastPass := 0, lastGood := 0, since := 0, running := true }
    : Bundle).loadPages)).2.1, by decide +kernel, by decide +kernel, by decide +kernel, triple_eq⟩, ⟨(mapped
    ready).setRel
    { State.reset.rel with bundles := [(15, { part := 0, digest := 0, pages := [0], loadPages := [0], load := 0, lastPages := [], last := 0, lastPass := 0, lastGood := 0, since := 0 })] },
    15,
    { part := 0, digest := 0, pages := [0], loadPages := [0], load := 0, lastPages := [], last := 0, lastPass := 0, lastGood := 0, since := 0 },
    by decide +kernel⟩, ⟨(mapped ready).setRel
    { State.reset.rel with bundles := [(15, { part := 0, digest := 0, pages := [0], loadPages := [0], load := 0, lastPages := [], last := 0, lastPass := 0, lastGood := 0, since := 0 })] },
    15,
    { part := 0, digest := 0, pages := [0], loadPages := [0], load := 0, lastPages := [], last := 0, lastPass := 0, lastGood := 0, since := 0 },
    by decide +kernel⟩⟩

/-- 6 witnesses of the hypotheses of Obligations.WearSamples. -/
theorem test_met_WearSamples :
    (∃ (s : State), s.diesOn = true) ∧ (∃ (s : State), s.diesOn = true) ∧ (∃ (s : State), s.diesOn = true) ∧ (∃ (s :
    State) (temp : Int), s.mode ≠ .off ∧ s.rel.peak < temp) ∧ (∃ (s : State) (temp : Int), s.mode ≠ .off ∧ temp ≤
    s.rel.peak ∧ 2000 ≤ s.rel.peak - s.rel.trough ∧ 2000 ≤ s.rel.peak - temp) ∧ (∃ (s : State) (temp : Int), s.mode ≠
    .off ∧ temp ≤ s.rel.peak ∧ s.rel.peak - temp < 2000 ∧ s.rel.trough ≤ temp) :=
  ⟨⟨ready, by decide +kernel⟩, ⟨ready, by decide +kernel⟩, ⟨ready, by decide +kernel⟩, ⟨ready, 2501, by decide +kernel⟩,
    ⟨ready.setRel { ready.rel with peak := 4500, trough := 2500 }, 2500, by decide +kernel⟩, ⟨ready.setRel
    { ready.rel with peak := 4499, trough := 2500 }, 2500, by decide +kernel⟩⟩

/-- 6 witnesses of the hypotheses of Obligations.SecurityDescriptors. -/
theorem test_met_SecurityDescriptors :
    (∃ (s : State) (u : State) (v : State) (q : QueueId) (d : Nat) (bs : List (Byte × Bool)), s.atEngine q.toNat 7 = some
    d ∧ dOpcode d = 0x50 ∧ s.secCheck (dieOfQueue q.toNat) (s.queue q.toNat).part d = (0, u) ∧ u.mread (dieOfQueue
    q.toNat) (s.queue q.toNat).part (sSrc d) (sBytes d) = (some bs, v) ∧ bs.any (·.2) = false) ∧ (∃ (s : State) (u :
    State) (v : State) (q : QueueId) (d : Nat) (key : Nat) (mk : ModelKey) (bs : List (Byte × Bool)), s.atEngine
    q.toNat 7 = some d ∧ dOpcode d = 0x51 ∧ s.secCheck (dieOfQueue q.toNat) (s.queue q.toNat).part d = (0, u) ∧ sBytes
    d ≠ 0 ∧ u.mread (dieOfQueue q.toNat) (s.queue q.toNat).part (sSrc d) (sBytes d) = (some bs, v) ∧ bs.any (·.2) =
    false ∧ (s.part (s.queue q.toNat).part).modelKeys.find (sKey d) = some mk ∧ mk.key = key) ∧ (∃ (s : State) (u :
    State) (v : State) (q : QueueId) (d : Nat) (key : Nat) (mk : ModelKey) (bs : List (Byte × Bool)) (pt : List Byte),
    s.atEngine q.toNat 7 = some d ∧ dOpcode d = 0x52 ∧ s.secCheck (dieOfQueue q.toNat) (s.queue q.toNat).part d = (0,
    u) ∧ u.mread (dieOfQueue q.toNat) (s.queue q.toNat).part (sSrc d) (sBytes d + 16) = (some bs, v) ∧ bs.any (·.2) =
    false ∧ (s.part (s.queue q.toNat).part).modelKeys.find (sKey d) = some mk ∧ mk.key = key ∧ pt = (upto (sBytes
    d)).map (Config.gcmOpen key (sIv d) ((bs.map (·.1)).take (sBytes d)))) ∧ (∃ (s : State) (u : State) (v : State) (q
    : QueueId) (d : Nat), s.atEngine q.toNat 7 = some d ∧ dOpcode d = 0x53 ∧ s.secCheck (dieOfQueue q.toNat) (s.queue
    q.toNat).part d = (0, u) ∧ u.mread (dieOfQueue q.toNat) (s.queue q.toNat).part (sSrc d) 0 = (some [], v)) ∧ (∃ (s
    : State) (u : State) (q : QueueId) (d : Nat) (c : Nat), s.atEngine q.toNat 7 = some d ∧ c ≠ 0 ∧ s.secCheck
    (dieOfQueue q.toNat) (s.queue q.toNat).part d = (c, u)) ∧ (∃ (s : State) (u : State) (v : State) (q : QueueId) (d
    : Nat) (bs : List (Byte × Bool)), s.atEngine q.toNat 7 = some d ∧ dOpcode d = 0x50 ∧ s.secCheck (dieOfQueue
    q.toNat) (s.queue q.toNat).part d = (0, u) ∧ u.mread (dieOfQueue q.toNat) (s.queue q.toNat).part (sSrc d) (sBytes
    d) = (some bs, v) ∧ bs.any (·.2) = true) :=
  ⟨⟨mapped (handed 1792 [(56, 80), (128, 4096), (184, 16)]), (State.secCheck (mapped (handed 1792 [(56, 80), (128,
    4096), (184, 16)])) 0 0 (word [(56, 80), (128, 4096), (184, 16)])).2, (State.mread (State.secCheck (mapped (handed
    1792 [(56, 80), (128, 4096), (184, 16)])) 0 0 (word [(56, 80), (128, 4096), (184, 16)])).2 0 0 0 16).2, 0, word
    [(56, 80), (128, 4096), (184, 16)], (State.mread (State.secCheck (mapped (handed 1792 [(56, 80), (128, 4096),
    (184, 16)])) 0 0 (word [(56, 80), (128, 4096), (184, 16)])).2 0 0 0 16).1.getD [], by decide +kernel⟩, ⟨(mapped
    (handed 1792 [(56, 81), (128, 4096), (184, 16)])).setParts [(0,
    { state := .active, subs := 1, q0 := (0, 8), modelKeys := [(0, { key := 5, bundle := 0 })] })], (State.secCheck
    ((mapped (handed 1792 [(56, 81), (128, 4096), (184, 16)])).setParts [(0,
    { state := .active, subs := 1, q0 := (0, 8), modelKeys := [(0, { key := 5, bundle := 0 })] })]) 0 0 (word [(56,
    81), (128, 4096), (184, 16)])).2, (State.mread (State.secCheck ((mapped (handed 1792 [(56, 81), (128, 4096), (184,
    16)])).setParts [(0,
    { state := .active, subs := 1, q0 := (0, 8), modelKeys := [(0, { key := 5, bundle := 0 })] })]) 0 0 (word [(56,
    81), (128, 4096), (184, 16)])).2 0 0 0 16).2, 0, word [(56, 81), (128, 4096), (184, 16)], 5,
    { key := 5, bundle := 0 }, (State.mread (State.secCheck ((mapped (handed 1792 [(56, 81), (128, 4096), (184,
    16)])).setParts [(0,
    { state := .active, subs := 1, q0 := (0, 8), modelKeys := [(0, { key := 5, bundle := 0 })] })]) 0 0 (word [(56,
    81), (128, 4096), (184, 16)])).2 0 0 0 16).1.getD [], by decide +kernel⟩, ⟨(mapped (handed 1792 [(56, 82), (128,
    4096), (184, 16)])).setParts [(0,
    { state := .active, subs := 1, q0 := (0, 8), modelKeys := [(0, { key := 5, bundle := 0 })] })], (State.secCheck
    ((mapped (handed 1792 [(56, 82), (128, 4096), (184, 16)])).setParts [(0,
    { state := .active, subs := 1, q0 := (0, 8), modelKeys := [(0, { key := 5, bundle := 0 })] })]) 0 0 (word [(56,
    82), (128, 4096), (184, 16)])).2, (State.mread (State.secCheck ((mapped (handed 1792 [(56, 82), (128, 4096), (184,
    16)])).setParts [(0,
    { state := .active, subs := 1, q0 := (0, 8), modelKeys := [(0, { key := 5, bundle := 0 })] })]) 0 0 (word [(56,
    82), (128, 4096), (184, 16)])).2 0 0 0 32).2, 0, word [(56, 82), (128, 4096), (184, 16)], 5,
    { key := 5, bundle := 0 }, (State.mread (State.secCheck ((mapped (handed 1792 [(56, 82), (128, 4096), (184,
    16)])).setParts [(0,
    { state := .active, subs := 1, q0 := (0, 8), modelKeys := [(0, { key := 5, bundle := 0 })] })]) 0 0 (word [(56,
    82), (128, 4096), (184, 16)])).2 0 0 0 32).1.getD [], (upto 16).map (Config.gcmOpen 5 (sIv (word [(56, 82), (128,
    4096), (184, 16)])) (((State.mread (State.secCheck ((mapped (handed 1792 [(56, 82), (128, 4096), (184,
    16)])).setParts [(0,
    { state := .active, subs := 1, q0 := (0, 8), modelKeys := [(0, { key := 5, bundle := 0 })] })]) 0 0 (word [(56,
    82), (128, 4096), (184, 16)])).2 0 0 0 32).1.getD []).map (·.1) |>.take (sBytes (word [(56, 82), (128, 4096),
    (184, 16)])))), by decide +kernel, by decide +kernel, by decide +kernel, by decide +kernel, by decide +kernel,
    by decide +kernel, by decide +kernel, rfl⟩, ⟨mapped (handed 1792 [(56, 83), (128, 4096), (216, 3)]),
    (State.secCheck (mapped (handed 1792 [(56, 83), (128, 4096), (216, 3)])) 0 0 (word [(56, 83), (128, 4096), (216,
    3)])).2, (State.mread (State.secCheck (mapped (handed 1792 [(56, 83), (128, 4096), (216, 3)])) 0 0 (word [(56,
    83), (128, 4096), (216, 3)])).2 0 0 0 0).2, 0, word [(56, 83), (128, 4096), (216, 3)], by decide +kernel⟩, ⟨mapped
    (handed 1792 [(56, 83), (216, 4)]), (State.secCheck (mapped (handed 1792 [(56, 83), (216, 4)])) 0 0 (word [(56,
    83), (216, 4)])).2, 0, word [(56, 83), (216, 4)], 0xD2, by decide +kernel⟩, ⟨(mapped (handed 1792 [(56, 80), (128,
    4096), (184, 16)])).setDram [(0, { mem := { poison := [0] } })], (State.secCheck ((mapped (handed 1792 [(56, 80),
    (128, 4096), (184, 16)])).setDram [(0, { mem := { poison := [0] } })]) 0 0 (word [(56, 80), (128, 4096), (184,
    16)])).2, (State.mread (State.secCheck ((mapped (handed 1792 [(56, 80), (128, 4096), (184, 16)])).setDram [(0,
    { mem := { poison := [0] } })]) 0 0 (word [(56, 80), (128, 4096), (184, 16)])).2 0 0 0 16).2, 0, word [(56, 80),
    (128, 4096), (184, 16)], (State.mread (State.secCheck ((mapped (handed 1792 [(56, 80), (128, 4096), (184,
    16)])).setDram [(0, { mem := { poison := [0] } })]) 0 0 (word [(56, 80), (128, 4096), (184, 16)])).2 0 0 0
    16).1.getD [], by decide +kernel⟩⟩

/-- 9 witnesses of the hypotheses of Obligations.AttestationAndKeys. -/
theorem test_met_AttestationAndKeys :
    (∃ (s : State) (t : State) (ok : Bool) (leaf : Nat), s.takeLeaf ok = (some leaf, t)) ∧ (∃ (s : State) (u : State) (w :
    State) (m : MbxSrc) (ok : Bool) (x : MbxIn) (p : Nat) (leaf : Nat) (recent : List Nat), s.receive m 0x40 = (some
    x, u) ∧ u.senderPart x = p ∧ u.secFailed = false ∧ bodyAt (u.body x) 32 2 ≤ 3 ∧ (u.part p).scrubs = false ∧ recent
    = ((u.part p).attests.filter (fun t => decide (u.now < t + second))) ++ [u.now] ∧ recent.length ≤ 16 ∧ 65536 ≤
    u.leavesLeft ∧ (u.updPart p (fun y => { y with attests := recent })).takeLeaf ok = (some leaf, w)) ∧ (∃ (s :
    State) (u : State) (m : MbxSrc) (x : MbxIn) (p : Nat), s.receive m 0x40 = (some x, u) ∧ u.senderPart x = p ∧
    u.secFailed = false ∧ bodyAt (u.body x) 32 2 ≤ 3 ∧ (u.part p).scrubs = false ∧ 16 ≤ ((u.part p).attests.filter
    (fun t => decide (u.now < t + second))).length) ∧ (∃ (s : State) (u : State) (v : State) (m : MbxSrc) (x : MbxIn)
    (p : Nat) (recent : List Nat), s.receive m 0x40 = (some x, u) ∧ u.senderPart x = p ∧ recent = ((u.part
    p).attests.filter (fun t => decide (u.now < t + second))) ++ [u.now] ∧ v = u.putPart p
    { u.part p with attests := recent }) ∧ (∃ (s : State) (u : State) (m : MbxSrc) (x : MbxIn) (p : Nat) (slot : Nat)
    (model : Nat) (gen : Nat) (b : List Byte), s.receive m 0x41 = (some x, u) ∧ u.senderPart x = p ∧ u.body x = b ∧
    bodyAt b 0 1 = slot ∧ bodyAt b 1 1 = model ∧ u.secFailed = false ∧ bodyAt b 2 2 = 0 ∧ bodyAt b 1648 400 = 0 ∧ slot
    ≤ 3 ∧ model ≤ 15 ∧ (u.part p).scrubs = false ∧ u.kemPair p slot = some gen ∧ bodyAt b 4 4 = (u.part p).epoch ∧
    (u.part p).modelKeys.find model = none) ∧ (∃ (s : State) (u : State) (m : MbxSrc) (x : MbxIn) (p : Nat) (slot :
    Nat) (model : Nat) (gen : Nat) (b : List Byte), s.receive m 0x41 = (some x, u) ∧ u.senderPart x = p ∧ u.body x = b
    ∧ bodyAt b 0 1 = slot ∧ bodyAt b 1 1 = model ∧ u.secFailed = false ∧ bodyAt b 2 2 = 0 ∧ bodyAt b 1648 400 = 0 ∧
    slot ≤ 3 ∧ model ≤ 15 ∧ (u.part p).scrubs = false ∧ u.kemPair p slot = some gen) ∧ (∃ (s : State) (u : State) (m :
    MbxSrc) (x : MbxIn) (p : Nat) (slot : Nat) (model : Nat) (gen : Nat) (b : List Byte), s.receive m 0x41 = (some x,
    u) ∧ u.senderPart x = p ∧ u.body x = b ∧ bodyAt b 0 1 = slot ∧ bodyAt b 1 1 = model ∧ u.secFailed = false ∧ bodyAt
    b 2 2 = 0 ∧ bodyAt b 1648 400 = 0 ∧ slot ≤ 3 ∧ model ≤ 15 ∧ (u.part p).scrubs = false ∧ u.kemPair p slot = some
    gen) ∧ (∃ (s : State) (u : State) (m : MbxSrc) (x : MbxIn), s.receive m 0x41 = (some x, u) ∧ u.secFailed = false ∧
    bodyAt (u.body x) 2 2 = 0 ∧ bodyAt (u.body x) 1648 400 = 0 ∧ bodyAt (u.body x) 0 1 ≤ 3 ∧ bodyAt (u.body x) 1 1 ≤
    15 ∧ (u.part (u.senderPart x)).scrubs = false ∧ u.kemPair (u.senderPart x) (bodyAt (u.body x) 0 1) = none) ∧ (∃ (s
    : State) (p : PartId) (slot : BitVec 2) (gen : Nat) (since : Nat), (s.part p.toNat).kem.find slot.toNat = some
    (gen, since)) :=
  ⟨⟨ready.odSet 0x2800 3 1024, ((ready.odSet 0x2800 3 1024).takeLeaf true).2, true, 0, by decide +kernel⟩, ⟨State.odSet
    ((mapped (handed 2565 [(56, 128), (160, 64), (144, 34), (176, 517), (97, 1)])).setFw
    { State.reset.fw with comps := [(0, { state := .running }), (10, { state := .running })] }) 0x2800 3 1024,
    (State.receive (State.odSet ((mapped (handed 2565 [(56, 128), (160, 64), (144, 34), (176, 517), (97, 1)])).setFw
    { State.reset.fw with comps := [(0, { state := .running }), (10, { state := .running })] }) 0x2800 3 1024) (.queue
    0) 64).2, (State.takeLeaf (State.updPart (State.receive (State.odSet ((mapped (handed 2565 [(56, 128), (160, 64),
    (144, 34), (176, 517), (97, 1)])).setFw
    { State.reset.fw with comps := [(0, { state := .running }), (10, { state := .running })] }) 0x2800 3 1024) (.queue
    0) 64).2 0 (fun y => { y with attests := [0] })) true).2, .queue 0, true, ⟨0, 5, word [(56, 128), (160, 64), (144,
    34), (176, 517), (97, 1)], some 0, 0, 0⟩, 0, 0, [0], by decide +kernel⟩, ⟨((mapped (handed 2565 [(56, 128), (160,
    64), (144, 34), (176, 517), (97, 1)])).setFw
    { State.reset.fw with comps := [(0, { state := .running }), (10, { state := .running })] }).setParts [(0,
    { state := .active, subs := 1, q0 := (0, 8), attests := List.replicate 16 0 })], (State.receive (((mapped (handed
    2565 [(56, 128), (160, 64), (144, 34), (176, 517), (97, 1)])).setFw
    { State.reset.fw with comps := [(0, { state := .running }), (10, { state := .running })] }).setParts [(0,
    { state := .active, subs := 1, q0 := (0, 8), attests := List.replicate 16 0 })]) (.queue 0) 64).2, .queue 0, ⟨0,
    5, word [(56, 128), (160, 64), (144, 34), (176, 517), (97, 1)], some 0, 0, 0⟩, 0, by decide +kernel⟩, ⟨((mapped
    (handed 2565 [(56, 128), (160, 64), (144, 34), (176, 517), (97, 1)])).setFw
    { State.reset.fw with comps := [(0, { state := .running }), (10, { state := .running })] }).setSec
    { State.reset.sec with eastOk := false }, (State.receive (((mapped (handed 2565 [(56, 128), (160, 64), (144, 34),
    (176, 517), (97, 1)])).setFw
    { State.reset.fw with comps := [(0, { state := .running }), (10, { state := .running })] }).setSec
    { State.reset.sec with eastOk := false }) (.queue 0) 64).2, State.putPart ((State.receive (((mapped (handed 2565
    [(56, 128), (160, 64), (144, 34), (176, 517), (97, 1)])).setFw
    { State.reset.fw with comps := [(0, { state := .running }), (10, { state := .running })] }).setSec
    { State.reset.sec with eastOk := false }) (.queue 0) 64).2) 0
    { State.part ((State.receive (((mapped (handed 2565 [(56, 128), (160, 64), (144, 34), (176, 517), (97, 1)])).setFw { State.reset.fw with comps := [(0, { state := .running }), (10, { state := .running })] }).setSec { State.reset.sec with eastOk := false }) (.queue 0) 64).2) 0 with attests := [0] },
    .queue 0, ⟨0, 5, word [(56, 128), (160, 64), (144, 34), (176, 517), (97, 1)], some 0, 0, 0⟩, 0, [0],
    by decide +kernel⟩, ⟨((mapped (handed 2565 [(56, 128), (160, 65), (144, 2048), (176, 517), (97, 1)])).setFw
    { State.reset.fw with comps := [(0, { state := .running }), (10, { state := .running })] }).setParts [(0,
    { state := .active, subs := 1, q0 := (0, 8), kem := [(0, (5, 0))]})], (State.receive (((mapped (handed 2565 [(56,
    128), (160, 65), (144, 2048), (176, 517), (97, 1)])).setFw
    { State.reset.fw with comps := [(0, { state := .running }), (10, { state := .running })] }).setParts [(0,
    { state := .active, subs := 1, q0 := (0, 8), kem := [(0, (5, 0))]})]) (.queue 0) 65).2, .queue 0, ⟨0, 5, word
    [(56, 128), (160, 65), (144, 2048), (176, 517), (97, 1)], some 0, 0, 0⟩, 0, 0, 0, 5, List.replicate 2048 0,
    by decide +kernel⟩, ⟨((mapped (handed 2565 [(56, 128), (160, 65), (144, 2048), (176, 517), (97, 1)])).setFw
    { State.reset.fw with comps := [(0, { state := .running }), (10, { state := .running })] }).setParts [(0,
    { state := .active, subs := 1, q0 := (0, 8), kem := [(0, (5, 0))]})], (State.receive (((mapped (handed 2565 [(56,
    128), (160, 65), (144, 2048), (176, 517), (97, 1)])).setFw
    { State.reset.fw with comps := [(0, { state := .running }), (10, { state := .running })] }).setParts [(0,
    { state := .active, subs := 1, q0 := (0, 8), kem := [(0, (5, 0))]})]) (.queue 0) 65).2, .queue 0, ⟨0, 5, word
    [(56, 128), (160, 65), (144, 2048), (176, 517), (97, 1)], some 0, 0, 0⟩, 0, 0, 0, 5, List.replicate 2048 0,
    by decide +kernel⟩, ⟨((mapped (handed 2565 [(56, 128), (160, 65), (144, 2048), (176, 517), (97, 1)])).setFw
    { State.reset.fw with comps := [(0, { state := .running }), (10, { state := .running })] }).setParts [(0,
    { state := .active, subs := 1, q0 := (0, 8), kem := [(0, (5, 0))], epoch := 1 })], (State.receive (((mapped
    (handed 2565 [(56, 128), (160, 65), (144, 2048), (176, 517), (97, 1)])).setFw
    { State.reset.fw with comps := [(0, { state := .running }), (10, { state := .running })] }).setParts [(0,
    { state := .active, subs := 1, q0 := (0, 8), kem := [(0, (5, 0))], epoch := 1 })]) (.queue 0) 65).2, .queue 0, ⟨0,
    5, word [(56, 128), (160, 65), (144, 2048), (176, 517), (97, 1)], some 0, 0, 0⟩, 0, 0, 0, 5, List.replicate 2048
    0, by decide +kernel⟩, ⟨(mapped (handed 2565 [(56, 128), (160, 65), (144, 2048), (176, 517), (97, 1)])).setFw
    { State.reset.fw with comps := [(0, { state := .running }), (10, { state := .running })] }, (State.receive
    ((mapped (handed 2565 [(56, 128), (160, 65), (144, 2048), (176, 517), (97, 1)])).setFw
    { State.reset.fw with comps := [(0, { state := .running }), (10, { state := .running })] }) (.queue 0) 65).2,
    .queue 0, ⟨0, 5, word [(56, 128), (160, 65), (144, 2048), (176, 517), (97, 1)], some 0, 0, 0⟩, by decide +kernel⟩,
    ⟨late (ready.setParts [(7, { kem := [(3, (5, 0))] })]) 150000000000, 7, 3, 5, 0, by decide +kernel⟩⟩

/-- 12 witnesses of the hypotheses of Obligations.DebugAccess. -/
theorem test_met_DebugAccess :
    (∃ (s : State) (p : Nat), s.asleep = false ∧ s.odGet 0x5000 1 = p ∧ p < 8 ∧ (s.part p).state = .active) ∧ (∃ (s :
    State), s.asleep = false ∧ s.odGet 0x5000 1 = 0x80) ∧ (∃ (s : State), s.asleep = false ∧ s.odGet 0x5000 1 ≠ 0x80 ∧
    (8 ≤ s.odGet 0x5000 1 ∨ (s.part (s.odGet 0x5000 1)).state ≠ .active)) ∧ (∃ (s : State), s.asleep = false ∧ s.odGet
    0x5000 1 ≠ 0x80 ∧ (8 ≤ s.odGet 0x5000 1 ∨ (s.part (s.odGet 0x5000 1)).state ≠ .active)) ∧ (∃ (s : State), s.asleep
    = false) ∧ (∃ (s : State), s.asleep = false ∧ s.odGet 0x5000 1 = 0x80 ∧ s.sec.debugOpen = some 0x80 ∧ s.odGet
    0x5000 3 + 1024 ≤ 8589934592) ∧ (∃ (s : State) (u : State) (p : Nat) (bs : List (Byte × Bool)), s.asleep = false ∧
    s.odGet 0x5000 1 = p ∧ p < 8 ∧ s.sec.debugOpen = some p ∧ s.mread 0 p (s.odGet 0x5000 3) 1024 = (some bs, u)) ∧ (∃
    (s : State) (bs : List Byte), s.asleep = false ∧ s.odGet 0x5000 1 = 0x80 ∧ s.sec.debugOpen = some 0x80 ∧ s.odGet
    0x5000 3 + 1024 ≤ 8589934592 ∧ bs.length = 1024) ∧ (∃ (s : State) (p : Nat) (bs : List Byte), s.asleep = false ∧
    s.odGet 0x5000 1 = p ∧ p < 8 ∧ s.sec.debugOpen = some p ∧ bs.length = 1024) ∧ (∃ (s : State), s.sec.debugOpen ≠
    some (s.odGet 0x5000 1)) ∧ (∃ (s : State), s.mode ≠ .off) ∧ (∃ (s : State), s.mode ≠ .off ∧ s.mode ≠ .boot ∧
    s.asleep = false) :=
  ⟨⟨((mapped ready).setOd [(odKey 0x5000 1, 0)]).setSec { State.reset.sec with debugOpen := none }, 0,
    by decide +kernel⟩, ⟨((mapped ready).setOd [(odKey 0x5000 1, 128)]).setSec
    { State.reset.sec with debugOpen := none }, by decide +kernel⟩, ⟨((mapped ready).setOd [(odKey 0x5000 1,
    8)]).setSec { State.reset.sec with debugOpen := none }, by decide +kernel⟩, ⟨((mapped ready).setOd [(odKey 0x5000
    1, 7)]).setSec { State.reset.sec with debugOpen := none }, by decide +kernel⟩, ⟨ready, by decide +kernel⟩,
    ⟨(((mapped ready).setOd [(odKey 0x5000 1, 128)]).setSec { State.reset.sec with debugOpen := some 0x80 }).setModMem
    [(0, {})], by decide +kernel⟩, ⟨((mapped ready).setOd [(odKey 0x5000 1, 0)]).setSec
    { State.reset.sec with debugOpen := some 0 }, (State.mread (((mapped ready).setOd [(odKey 0x5000 1, 0)]).setSec
    { State.reset.sec with debugOpen := some 0 }) 0 0 0 1024).2, 0, (State.mread (((mapped ready).setOd [(odKey 0x5000
    1, 0)]).setSec { State.reset.sec with debugOpen := some 0 }) 0 0 0 1024).1.getD [], by decide +kernel⟩, ⟨((mapped
    ready).setOd [(odKey 0x5000 1, 128)]).setSec { State.reset.sec with debugOpen := some 0x80 }, List.replicate 1024
    7, by decide +kernel⟩, ⟨((mapped ready).setOd [(odKey 0x5000 1, 0)]).setSec
    { State.reset.sec with debugOpen := some 0 }, 0, List.replicate 1024 7, by decide +kernel⟩, ⟨((mapped ready).setOd
    [(odKey 0x5000 1, 0)]).setSec { State.reset.sec with debugOpen := some 0x80 }, by decide +kernel⟩, ⟨ready,
    by decide +kernel⟩, ⟨ready, by decide +kernel⟩⟩

/-- 11 witnesses of the hypotheses of Obligations.Partitions. -/
theorem test_met_Partitions :
    (∃ (s : State) (u : State) (m : MbxSrc) (x : MbxIn) (b : List Byte) (p : Nat), s.receive m 0x10 = (some x, u) ∧
    x.queue = none ∧ (u.mode = .ready ∨ u.mode = .serving) ∧ u.body x = b ∧ u.createCode b = 0 ∧ bodyAt b 0 1 = p) ∧
    (∃ (s : State) (u : State) (m : MbxSrc) (x : MbxIn), s.receive m 0x10 = (some x, u) ∧ (u.mode = .ready ∨ u.mode =
    .serving) ∧ u.createCode (u.body x) ≠ 0) ∧ (∃ (s : State) (u : State) (m : MbxSrc) (x : MbxIn), s.receive m 0x10 =
    (some x, u) ∧ u.mode ≠ .ready ∧ u.mode ≠ .serving) ∧ (∃ (s : State) (p : PartId), s.asleep = false ∧ s.rst.due =
    none ∧ (s.part p.toNat).state = .active) ∧ (∃ (s : State) (p : PartId), s.asleep = false ∧ s.rst.due = none ∧
    (s.part p.toNat).state = .scrubbing) ∧ (∃ (s : State) (p : PartId), s.asleep = false ∧ s.rst.due = none ∧ (s.part
    p.toNat).state = .free) ∧ (∃ (s : State) (u : State) (m : MbxSrc) (x : MbxIn) (p : Nat), s.receive m 0x12 = (some
    x, u) ∧ bodyAt (u.body x) 0 1 = p ∧ p ≤ 7 ∧ u.rst.due = none ∧ (u.part p).state ≠ .free) ∧ (∃ (s : State) (u :
    State) (m : MbxSrc) (x : MbxIn), s.receive m 0x12 = (some x, u) ∧ bodyAt (u.body x) 0 1 ≤ 7 ∧ (u.part (bodyAt
    (u.body x) 0 1)).state = .free) ∧ (∃ (s : State) (p : PartId), (s.part p.toNat).state = .scrubbing) ∧ (∃ (s :
    State) (p : PartId), (s.part p.toNat).state = .destroying) ∧ (∃ (s : State) (p : PartId), (s.part p.toNat).state =
    .active) :=
  ⟨⟨running ((up .ready).setModMem [(0, { cells := [(4, 1), (8, 1), (52, 4), (64, 1)] })]) [0, 10], (State.receive
    (running ((up .ready).setModMem [(0, { cells := [(4, 1), (8, 1), (52, 4), (64, 1)] })]) [0, 10]) (.host 0 0
    (BitVec.ofNat 512 (word [(56, 0x80), (160, 0x10), (144, 256), (176, 0x0205), (97, 1)]))) 0x10).2, .host 0 0
    (BitVec.ofNat 512 (word [(56, 0x80), (160, 0x10), (144, 256), (176, 0x0205), (97, 1)])), taken 0 (BitVec.ofNat 512
    (word [(56, 0x80), (160, 0x10), (144, 256), (176, 0x0205), (97, 1)])), leBytes 256 (2 ^ 32 + 2 ^ 64 + 4 * 2 ^ 416
    + 2 ^ 512), 0, by decide +kernel⟩, ⟨running ((up .ready).setModMem [(0, { cells := [(0, 8)] })]) [0, 10],
    (State.receive (running ((up .ready).setModMem [(0, { cells := [(0, 8)] })]) [0, 10]) (.host 0 0 (BitVec.ofNat 512
    (word [(56, 0x80), (160, 0x10), (144, 256), (176, 0x0205), (97, 1)]))) 0x10).2, .host 0 0 (BitVec.ofNat 512 (word
    [(56, 0x80), (160, 0x10), (144, 256), (176, 0x0205), (97, 1)])), taken 0 (BitVec.ofNat 512 (word [(56, 0x80),
    (160, 0x10), (144, 256), (176, 0x0205), (97, 1)])), by decide +kernel⟩, ⟨running ((up .draining).setModMem [(0,
    {})]) [0, 10], (State.receive (running ((up .draining).setModMem [(0, {})]) [0, 10]) (.host 0 0 (BitVec.ofNat 512
    (word [(56, 0x80), (160, 0x10), (144, 256), (176, 0x0205), (97, 1)]))) 0x10).2, .host 0 0 (BitVec.ofNat 512 (word
    [(56, 0x80), (160, 0x10), (144, 256), (176, 0x0205), (97, 1)])), taken 0 (BitVec.ofNat 512 (word [(56, 0x80),
    (160, 0x10), (144, 256), (176, 0x0205), (97, 1)])), by decide +kernel⟩, ⟨ready.setParts [(7,
    { state := .active })], 7, by decide +kernel⟩, ⟨ready.setParts [(7, { state := .scrubbing })], 7,
    by decide +kernel⟩, ⟨ready, 7, by decide +kernel⟩, ⟨running (ready.setParts [(7, { state := .active })]) [0, 10],
    (State.receive (running (ready.setParts [(7, { state := .active })]) [0, 10]) (.host 0 0 (hostMsg 0x12 1 7))
    0x12).2, .host 0 0 (hostMsg 0x12 1 7), taken 0 (hostMsg 0x12 1 7), 7, by decide +kernel⟩, ⟨running (ready) [0,
    10], (State.receive (running (ready) [0, 10]) (.host 0 0 (hostMsg 0x12 1 7)) 0x12).2, .host 0 0 (hostMsg 0x12 1
    7), taken 0 (hostMsg 0x12 1 7), by decide +kernel⟩, ⟨ready.setParts [(7, { state := .scrubbing })], 7,
    by decide +kernel⟩, ⟨ready.setParts [(7, { state := .destroying })], 7, by decide +kernel⟩, ⟨ready.setParts [(7,
    { state := .active })], 7, by decide +kernel⟩⟩

/-- 26 witnesses of the hypotheses of Obligations.ThrottleAndLevelling. -/
theorem test_met_ThrottleAndLevelling :
    (∃ (s : State) (g : Trigger) (d : BitVec 47), s.mode ≠ .off ∧ s.asleep = false ∧ s.trigHolds g d.toNat = true ∧
    (s.trig (trigIndex g)).asserted = false) ∧ (∃ (s : State) (g : Trigger) (d : BitVec 47), s.mode ≠ .off ∧ s.asleep
    = false ∧ s.trigHolds g d.toNat = true ∧ (s.trig (trigIndex g)).asserted = false) ∧ (∃ (s : State) (g : Trigger)
    (d : BitVec 47), s.mode ≠ .off ∧ s.asleep = false ∧ s.trigHolds g d.toNat = true ∧ (s.trig (trigIndex g)).asserted
    = false) ∧ (∃ (s : State) (g : Trigger) (d : BitVec 47), s.trigHolds g d.toNat = false) ∧ (∃ (s : State) (g :
    Trigger) (d : BitVec 47), s.trigHolds g d.toNat = false) ∧ (∃ (s : State) (g : Trigger), (s.trig (trigIndex
    g)).asserted = true) ∧ (∃ (s : State) (g : Trigger), s.asleep = false ∧ (s.trig (trigIndex g)).asserted = true ∧
    (s.trig (trigIndex g)).level < trigCap g ∧ (s.trig (trigIndex g)).since + trigInterval g ≤ s.now) ∧ (∃ (s : State)
    (g : Trigger), ((s.trig (trigIndex g)).asserted = false ∨ trigCap g ≤ (s.trig (trigIndex g)).level ∨ s.now <
    (s.trig (trigIndex g)).since + trigInterval g)) ∧ (∃ (s : State) (g : Trigger), ((s.trig (trigIndex g)).asserted =
    false ∨ trigCap g ≤ (s.trig (trigIndex g)).level ∨ s.now < (s.trig (trigIndex g)).since + trigInterval g)) ∧ (∃ (s
    : State) (g : Trigger), ((s.trig (trigIndex g)).asserted = false ∨ trigCap g ≤ (s.trig (trigIndex g)).level ∨
    s.now < (s.trig (trigIndex g)).since + trigInterval g)) ∧ (∃ (s : State) (g : Trigger), s.asleep = false ∧ (s.trig
    (trigIndex g)).asserted = false ∧ 0 < (s.trig (trigIndex g)).level ∧ (s.trig (trigIndex g)).since + 2500000000 ≤
    s.now) ∧ (∃ (s : State) (g : Trigger), ((s.trig (trigIndex g)).asserted = true ∨ s.now < (s.trig (trigIndex
    g)).since + 2500000000)) ∧ (∃ (s : State) (g : Trigger), ((s.trig (trigIndex g)).asserted = true ∨ s.now < (s.trig
    (trigIndex g)).since + 2500000000)) ∧ (∃ (s : State), s.mode ≠ .off ∧ s.asleep = false) ∧ (∃ (s : State) (p :
    PartId) (cap : Nat), s.asleep = false ∧ (s.part p.toNat).state = .active ∧ cap = 1000 * s.odGet (0x2010 + p.toNat)
    1) ∧ (∃ (s : State) (p : PartId) (cap : Nat), s.asleep = false ∧ (s.part p.toNat).state = .active ∧ cap = 1000 *
    s.odGet (0x2010 + p.toNat) 1) ∧ (∃ (s : State) (p : PartId) (cap : Nat), s.asleep = false ∧ (s.part p.toNat).state
    = .active ∧ cap = 1000 * s.odGet (0x2010 + p.toNat) 1) ∧ (∃ (s : State) (p : PartId) (cap : Nat), s.asleep = false
    ∧ (s.part p.toNat).state = .active ∧ cap = 1000 * s.odGet (0x2010 + p.toNat) 1) ∧ (∃ (s : State) (mw : Nat),
    s.levelling = true ∧ mw < s.ballastTarget ∧ s.idleCore = true ∧ (s.odGet 0x2002 1 ≠ 0 ∨ s.odGet 0x2002 2 ≠ 0)) ∧
    (∃ (s : State) (mw : Nat) (floor : Nat) (rate : Nat), s.levelling = true ∧ floor = 1000 * s.odGet 0x2002 1 ∧ rate
    = s.odGet 0x2002 2 ∧ (floor ≠ 0 ∨ rate ≠ 0) ∧ s.ballastTarget ≤ mw) ∧ (∃ (s : State) (mw : Nat), s.levelling =
    true ∧ mw < s.ballastTarget ∧ s.idleCore = false ∧ (s.odGet 0x2002 1 ≠ 0 ∨ s.odGet 0x2002 2 ≠ 0)) ∧ (∃ (s : State)
    (t0 : Nat) (mw : Nat) (rest : List (Nat × Nat)), s.pow.draws = (t0, mw) :: rest ∧ s.odGet 0x2002 2 ≠ 0) ∧ (∃ (s :
    State), (s.pow.draws = [] ∨ s.odGet 0x2002 2 = 0)) ∧ (∃ (s : State), s.levelling = false) ∧ (∃ (s : State) (room :
    Nat) (c : Nat), s.levelling = true ∧ s.odGet 0x2002 2 ≠ 0 ∧ s.pow.ramp = some c ∧ room ≠ 0) ∧ (∃ (s : State),
    s.levelling = true ∧ s.odGet 0x2002 2 ≠ 0 ∧ s.pow.ramp = none) :=
  ⟨⟨ready, .inletHot, 5001, by decide +kernel⟩, ⟨ready, .inputLow, 39999, by decide +kernel⟩, ⟨ready, .coolantSensor, 0,
    by decide +kernel⟩, ⟨ready, .inletHot, 5000, by decide +kernel⟩, ⟨ready, .inputLow, 40000, by decide +kernel⟩,
    ⟨ready.setPow { ready.pow with trig := [(4, { level := 3, asserted := true })] }, .dramHot, by decide +kernel⟩,
    ⟨late (ready.setPow { ready.pow with trig := [(4, { level := 4, asserted := true })] }) 500000000, .dramHot,
    by decide +kernel⟩, ⟨late (ready.setPow { ready.pow with trig := [(4, { level := 5, asserted := true })] })
    500000000, .dramHot, by decide +kernel⟩, ⟨late (ready.setPow
    { ready.pow with trig := [(4, { level := 4, asserted := true })] }) 499999999, .dramHot, by decide +kernel⟩,
    ⟨ready, .inputLow, by decide +kernel⟩, ⟨late (ready.setPow
    { ready.pow with trig := [(6, { level := 1, asserted := false })] }) 2500000000, .inputLow, by decide +kernel⟩,
    ⟨late (ready.setPow { ready.pow with trig := [(6, { level := 1, asserted := false })] }) 2499999999, .inputLow,
    by decide +kernel⟩, ⟨ready.setPow { ready.pow with trig := [(6, { level := 1, asserted := true })] }, .inputLow,
    by decide +kernel⟩, ⟨ready, by decide +kernel⟩, ⟨ready.setParts [(7, { state := .active })], 7, 0,
    by decide +kernel⟩, ⟨(ready.setParts [(7, { state := .active })]).odSet 0x2017 1 30, 7, 30000, by decide +kernel⟩,
    ⟨(ready.setParts [(7, { state := .active, capCeiling := 600 })]).odSet 0x2017 1 30, 7, 30000, by decide +kernel⟩,
    ⟨(ready.setParts [(7, { state := .active, capCeiling := 700 })]).odSet 0x2017 1 30, 7, 30000, by decide +kernel⟩,
    ⟨ready.odSet 0x2002 1 100, 99999, by decide +kernel⟩, ⟨ready.odSet 0x2002 1 100, 100000, 100000, 0,
    by decide +kernel⟩, ⟨(ready.odSet 0x2002 1 100).setCores ((upto 18).map (fun n => (n, { role := .retired }))),
    99999, by decide +kernel⟩, ⟨(ready.odSet 0x2002 2 50).setPow { ready.pow with draws := [(0, 7)] }, 0, 7, [],
    by decide +kernel⟩, ⟨ready, by decide +kernel⟩, ⟨up .parked, by decide +kernel⟩, ⟨(ready.odSet 0x2002 2 50).setPow
    { ready.pow with ramp := some 600 }, 1, 600, by decide +kernel⟩, ⟨ready.odSet 0x2002 2 50, by decide +kernel⟩⟩

/-- 23 witnesses of the hypotheses of Obligations.StateRequests. -/
theorem test_met_StateRequests :
    (∃ (s : State), (s.mode = .ready ∨ s.mode = .serving)) ∧ (∃ (s : State), (s.mode = .ready ∨ s.mode = .serving)) ∧ (∃
    (s : State), s.asleep = false ∧ s.mode ≠ .ready ∧ s.mode ≠ .serving) ∧ (∃ (s : State) (e : Entry), s.mode =
    .draining ∧ s.entry = some e ∧ e.step = 1 ∧ e.oos = 0 ∧ e.thenWarm = false ∧ s.pow.lost = false) ∧ (∃ (s : State),
    s.asleep = false ∧ s.mode ≠ .draining) ∧ (∃ (s : State), (s.mode = .ready ∨ s.mode = .serving) ∧ s.entryFree =
    true) ∧ (∃ (s : State), s.mode = .draining ∧ s.entryFree = true) ∧ (∃ (s : State), s.asleep = false ∧ s.mode ≠
    .ready ∧ s.mode ≠ .serving ∧ s.mode ≠ .draining) ∧ (∃ (s : State) (e : Entry), s.entry = some e ∧ e.step = 1 ∧
    (e.target ≠ .draining ∨ e.oos ≠ 0 ∨ e.thenWarm = true)) ∧ (∃ (s : State) (e : Entry), s.entry = some e ∧ e.step =
    1 ∧ (e.target ≠ .draining ∨ e.oos ≠ 0 ∨ e.thenWarm = true)) ∧ (∃ (s : State) (e : Entry), s.entry = some e ∧
    e.step = 1 ∧ (e.target ≠ .draining ∨ e.oos ≠ 0 ∨ e.thenWarm = true) ∧ s.queues.all (fun kx => kx.2.jobs.all (fun j
    => decide (j.phase ≠ .posted))) = true) ∧ (∃ (s : State) (e : Entry), s.entry = some e ∧ e.step = 1 ∧ (e.target ≠
    .draining ∨ e.oos ≠ 0 ∨ e.thenWarm = true) ∧ s.queues.all (fun kx => kx.2.jobs.all (fun j => decide (j.phase ≠
    .posted))) = true) ∧ (∃ (s : State) (e : Entry), (s.entry = none ∨ (s.entry = some e ∧ (e.step ≠ 1 ∨ (e.target =
    .draining ∧ e.oos = 0 ∧ e.thenWarm = false))))) ∧ (∃ (s : State) (e : Entry), (s.entry = none ∨ (s.entry = some e
    ∧ (e.step ≠ 1 ∨ (e.target = .draining ∧ e.oos = 0 ∧ e.thenWarm = false))))) ∧ (∃ (s : State) (e : Entry), s.entry
    = some e ∧ e.step = 2 ∧ s.anyScrub = false ∧ (s.allDone = true ∨ e.since + 25000000 ≤ s.now) ∧ s.mode = .draining)
    ∧ (∃ (s : State) (e : Entry), s.entry = some e ∧ e.step = 2 ∧ s.anyScrub = false ∧ (s.allDone = true ∨ e.since +
    25000000 ≤ s.now) ∧ s.mode = .draining) ∧ (∃ (s : State) (e : Entry), s.entry = some e ∧ e.step = 2 ∧ s.anyScrub =
    false ∧ (s.allDone = true ∨ e.since + 25000000 ≤ s.now) ∧ s.mode = .draining) ∧ (∃ (s : State) (e : Entry),
    s.entry = some e ∧ e.step = 2 ∧ s.anyScrub = false ∧ (s.allDone = true ∨ e.since + 25000000 ≤ s.now) ∧ s.mode =
    .draining) ∧ (∃ (s : State) (e : Entry), (s.entry = none ∨ (s.entry = some e ∧ (e.step ≠ 2 ∨ s.anyScrub = true ∨
    (s.allDone = false ∧ s.now < e.since + 25000000))))) ∧ (∃ (s : State) (e : Entry), (s.entry = none ∨ (s.entry =
    some e ∧ (e.step ≠ 2 ∨ s.anyScrub = true ∨ (s.allDone = false ∧ s.now < e.since + 25000000))))) ∧ (∃ (s : State),
    s.mode = .ready ∧ s.idle = false ∧ s.odGet 0x2002 1 = 0 ∧ s.pow.lastDispatch + 250000 * s.odGet 0x2003 3 ≤ s.now)
    ∧ (∃ (s : State), (s.mode ≠ .ready ∨ s.odGet 0x2002 1 ≠ 0 ∨ s.now < s.pow.lastDispatch + 250000 * s.odGet 0x2003
    3)) ∧ (∃ (s : State), (s.mode ≠ .ready ∨ s.odGet 0x2002 1 ≠ 0 ∨ s.now < s.pow.lastDispatch + 250000 * s.odGet
    0x2003 3)) :=
  ⟨⟨ready, by decide +kernel⟩, ⟨up .serving, by decide +kernel⟩, ⟨up .boot, by decide +kernel⟩, ⟨(up .draining).setEntry
    (some { target := .draining, step := 1, since := 0 }), { target := .draining, step := 1, since := 0 },
    by decide +kernel⟩, ⟨ready, by decide +kernel⟩, ⟨ready, by decide +kernel⟩, ⟨(up .draining).setEntry (some
    { target := .draining, step := 1, since := 0 }), by decide +kernel⟩, ⟨up .boot, by decide +kernel⟩, ⟨late ((up
    .draining).setEntry (some { target := .parked, step := 1, since := 0 })) (250000000 * ready.odGet 0x2003 2),
    { target := .parked, step := 1, since := 0 }, by decide +kernel⟩, ⟨late ((up .draining).setEntry (some
    { target := .draining, step := 1, since := 0, oos := 3 })) (250000000 * ready.odGet 0x2003 2),
    { target := .draining, step := 1, since := 0, oos := 3 }, by decide +kernel⟩, ⟨late ((up .draining).setEntry (some
    { target := .parked, step := 1, since := 0 })) (250000000 * ready.odGet 0x2003 2),
    { target := .parked, step := 1, since := 0 }, by decide +kernel⟩, ⟨late ((up .draining).setEntry (some
    { target := .draining, step := 1, since := 0, oos := 3 })) (250000000 * ready.odGet 0x2003 2),
    { target := .draining, step := 1, since := 0, oos := 3 }, by decide +kernel⟩, ⟨ready,
    { target := .draining, step := 1, since := 0 }, by decide +kernel⟩, ⟨(up .draining).setEntry (some
    { target := .standby, step := 2, since := 0 }), { target := .standby, step := 2, since := 0 }, by decide +kernel⟩,
    ⟨settled ((up .draining).setEntry (some { target := .standby, step := 2, since := 0 })),
    { target := .standby, step := 2, since := 0 }, by decide +kernel⟩, ⟨settled ((up .draining).setEntry (some
    { target := .parked, step := 2, since := 0 })), { target := .parked, step := 2, since := 0 }, by decide +kernel⟩,
    ⟨settled ((up .draining).setEntry (some { target := .draining, step := 2, since := 0, oos := 3 })),
    { target := .draining, step := 2, since := 0, oos := 3 }, by decide +kernel⟩, ⟨settled ((up .draining).setEntry
    (some { target := .draining, step := 2, since := 0, thenWarm := true })),
    { target := .draining, step := 2, since := 0, thenWarm := true }, by decide +kernel⟩, ⟨ready,
    { target := .draining, step := 1, since := 0 }, by decide +kernel⟩, ⟨(up .draining).setEntry (some
    { target := .draining, step := 1, since := 0 }), { target := .draining, step := 1, since := 0 },
    by decide +kernel⟩, ⟨late ready (250000 * ready.odGet 0x2003 3), by decide +kernel⟩, ⟨late ready (250000 *
    ready.odGet 0x2003 3 - 1), by decide +kernel⟩, ⟨up .serving, by decide +kernel⟩⟩

/-- 19 witnesses of the hypotheses of Obligations.ControllersAndWake. -/
theorem test_met_ControllersAndWake :
    (∃ (s : State) (b : Bool) (t0 : Nat) (v : Nat), (if b then s.ryc.lastSecondary else s.ryc.lastPrimary) = some t0 ∧ t0
    + 500000000 ≤ s.now ∧ v = s.odGet 0x1100 0x0C) ∧ (∃ (s : State) (b : Bool) (t0 : Nat), (if b then
    s.ryc.lastSecondary else s.ryc.lastPrimary) = some t0 ∧ s.now < t0 + 500000000) ∧ (∃ (s : State), s.mode ≠ .off ∧
    s.asleep = false ∧ s.pow.lost = false ∧ s.odGet 0x1100 0x0C = 0 ∧ s.lastController + 2500000000 ≤ s.now) ∧ (∃ (s :
    State), (s.pow.lost = true ∨ s.odGet 0x1100 0x0C ≠ 0 ∨ s.now < s.lastController + 2500000000)) ∧ (∃ (s : State),
    (s.pow.lost = true ∨ s.odGet 0x1100 0x0C ≠ 0 ∨ s.now < s.lastController + 2500000000)) ∧ (∃ (s : State),
    s.pow.lost = true ∧ s.pow.graceSince + 250000000 * s.odGet 0x2003 1 ≤ s.now ∧ (s.mode = .ready ∨ s.mode =
    .serving) ∧ s.entryFree = true) ∧ (∃ (s : State), (s.pow.lost = false ∨ s.now < s.pow.graceSince + 250000000 *
    s.odGet 0x2003 1)) ∧ (∃ (s : State), (s.pow.lost = false ∨ s.now < s.pow.graceSince + 250000000 * s.odGet 0x2003
    1)) ∧ (∃ (s : State) (u : State) (f : RFrame), s.takeClear f 0x22 1 = (true, u) ∧ u.wakeNames f = true ∧
    f.authentic = true ∧ s.mode = .standby ∧ (s.leftMode = .ready ∨ s.leftMode = .serving)) ∧ (∃ (s : State) (u :
    State) (f : RFrame) (e : Entry), s.takeClear f 0x22 1 = (true, u) ∧ u.wakeNames f = true ∧ f.authentic = true ∧
    s.mode = .draining ∧ s.entry = some e ∧ (e.target = .standby ∨ e.target = .parked)) ∧ (∃ (s : State) (u : State)
    (f : RFrame) (r : StartReport), s.takeClear f 0x22 1 = (true, u) ∧ u.wakeNames f = true ∧ f.authentic = true ∧
    s.mode = .parked ∧ 0x21 ∈ s.tray.causes ∧ (4500 < r.inlet ∨ 6000 < r.hottest)) ∧ (∃ (s : State) (u : State) (f :
    RFrame), s.takeClear f 0x22 1 = (true, u)) ∧ (∃ (s : State) (u : State) (f : RFrame), s.takeClear f 0x22 1 =
    (true, u)) ∧ (∃ (s : State) (x : State) (n : Fin 10) (d : BitVec 47), s.asleep = true ∧ n.val ≠ 1 ∧ n.val ≠ 2 ∧
    n.val ≠ 3 ∧ n.val ≠ 7 ∧ (sourceIsCond (18 + n.val) = false ∨ (s.source 0 (18 + n.val)).cond = false) ∧ x = (if
    sourceIsCond (18 + n.val) then s.condition 0 (18 + n.val) true d.toNat else s.raiseEast (18 + n.val) d.toNat)) ∧
    (∃ (s : State) (x : State) (n : Fin 10) (d : BitVec 47), s.asleep = true ∧ n.val ≠ 1 ∧ n.val ≠ 2 ∧ n.val ≠ 3 ∧
    n.val ≠ 7 ∧ (sourceIsCond (18 + n.val) = false ∨ (s.source 0 (18 + n.val)).cond = false) ∧ x = (if sourceIsCond
    (18 + n.val) then s.condition 0 (18 + n.val) true d.toNat else s.raiseEast (18 + n.val) d.toNat)) ∧ (∃ (s : State)
    (n : Fin 10), s.asleep = true ∧ n.val ≠ 1 ∧ n.val ≠ 2 ∧ n.val ≠ 3 ∧ n.val ≠ 7 ∧ sourceIsCond (18 + n.val) = true ∧
    (s.source 0 (18 + n.val)).cond = true) ∧ (∃ (s : State), s.asleep = true) ∧ (∃ (s : State) (n : Fin 10), s.asleep
    = true ∧ sourceIsCond (18 + n.val) = true) ∧ (∃ (s : State), s.asleep = false) :=
  ⟨⟨late (ready.setRyc { ready.ryc with lastPrimary := some 0 }) 500000000, false, 0, 0, by decide +kernel⟩, ⟨late
    (ready.setRyc { ready.ryc with lastSecondary := some 0 }) 499999999, true, 0, by decide +kernel⟩, ⟨late ready
    2500000000, by decide +kernel⟩, ⟨late ready 2499999999, by decide +kernel⟩, ⟨ready.setPow
    { ready.pow with lost := true }, by decide +kernel⟩, ⟨late (ready.setPow { ready.pow with lost := true })
    (250000000 * ready.odGet 0x2003 1), by decide +kernel⟩, ⟨late (ready.setPow { ready.pow with lost := true })
    (250000000 * ready.odGet 0x2003 1 - 1), by decide +kernel⟩, ⟨late ready 2500000000, by decide +kernel⟩,
    ⟨State.odSet ((up .standby).setLeftMode .ready) 0x1110 1 1, (State.takeClear (State.odSet ((up
    .standby).setLeftMode .ready) 0x1110 1 1)
    ({ port := 0, header := BitVec.ofNat 160 (word [(0, 0x5259), (16, 1), (32, 0x22), (40, 2)]), body := (leBytes 28 (word [(192, 0xFF00), (128, 1)]) ++ List.replicate 3284 0) })
    0x22 1).2,
    { port := 0, header := BitVec.ofNat 160 (word [(0, 0x5259), (16, 1), (32, 0x22), (40, 2)]), body := (leBytes 28 (word [(192, 0xFF00), (128, 1)]) ++ List.replicate 3284 0) },
    by decide +kernel⟩, ⟨State.odSet ((up .draining).setEntry (some { target := .parked, step := 2, since := 0 }))
    0x1110 1 1, (State.takeClear (State.odSet ((up .draining).setEntry (some
    { target := .parked, step := 2, since := 0 })) 0x1110 1 1)
    ({ port := 0, header := BitVec.ofNat 160 (word [(0, 0x5259), (16, 1), (32, 0x22), (40, 2)]), body := (leBytes 28 (word [(192, 0xFF00), (128, 1)]) ++ List.replicate 3284 0) })
    0x22 1).2,
    { port := 0, header := BitVec.ofNat 160 (word [(0, 0x5259), (16, 1), (32, 0x22), (40, 2)]), body := (leBytes 28 (word [(192, 0xFF00), (128, 1)]) ++ List.replicate 3284 0) },
    { target := .parked, step := 2, since := 0 }, by decide +kernel⟩, ⟨State.odSet ((up .parked).setTray
    { (up .parked).tray with causes := [0x21] }) 0x1110 1 1, (State.takeClear (State.odSet ((up .parked).setTray
    { (up .parked).tray with causes := [0x21] }) 0x1110 1 1)
    ({ port := 0, header := BitVec.ofNat 160 (word [(0, 0x5259), (16, 1), (32, 0x22), (40, 2)]), body := (leBytes 28 (word [(192, 0xFF00), (128, 1)]) ++ List.replicate 3284 0) })
    0x22 1).2,
    { port := 0, header := BitVec.ofNat 160 (word [(0, 0x5259), (16, 1), (32, 0x22), (40, 2)]), body := (leBytes 28 (word [(192, 0xFF00), (128, 1)]) ++ List.replicate 3284 0) },
    { inlet := 4501 }, by decide +kernel⟩, ⟨State.odSet ((up .standby).setLeftMode .ready) 0x1110 1 1,
    (State.takeClear (State.odSet ((up .standby).setLeftMode .ready) 0x1110 1 1)
    ({ port := 0, header := BitVec.ofNat 160 (word [(0, 0x5259), (16, 1), (32, 0x22), (40, 2)]), body := (leBytes 28 (word [(192, 0xFF00), (128, 1)]) ++ List.replicate 3284 0), authentic := false })
    0x22 1).2,
    { port := 0, header := BitVec.ofNat 160 (word [(0, 0x5259), (16, 1), (32, 0x22), (40, 2)]), body := (leBytes 28 (word [(192, 0xFF00), (128, 1)]) ++ List.replicate 3284 0), authentic := false },
    by decide +kernel⟩, ⟨State.odSet ((up .standby).setLeftMode .ready) 0x1110 1 1, (State.takeClear (State.odSet ((up
    .standby).setLeftMode .ready) 0x1110 1 1)
    ({ port := 0, header := BitVec.ofNat 160 (word [(0, 0x5259), (16, 1), (32, 0x22), (40, 2)]), body := (leBytes 28 (word [(192, 0xFE00), (128, 1)]) ++ List.replicate 3284 0) })
    0x22 1).2,
    { port := 0, header := BitVec.ofNat 160 (word [(0, 0x5259), (16, 1), (32, 0x22), (40, 2)]), body := (leBytes 28 (word [(192, 0xFE00), (128, 1)]) ++ List.replicate 3284 0) },
    by decide +kernel⟩, ⟨up .parked, (up .parked).condition 0 18 true 5, 0, 5, by decide +kernel⟩, ⟨up .parked, if
    sourceIsCond 27 then (up .parked).condition 0 27 true 5 else (up .parked).raiseEast 27 5, 9, 5,
    by decide +kernel⟩, ⟨(up .parked).putSource 0 18 { (up .parked).source 0 18 with cond := true }, 0,
    by decide +kernel⟩, ⟨up .standby, by decide +kernel⟩, ⟨up .standby, 0, by decide +kernel⟩, ⟨ready,
    by decide +kernel⟩⟩

/-- 19 witnesses of the hypotheses of Obligations.ModuleResets. -/
theorem test_met_ModuleResets :
    (∃ (s : State), s.modOk = true) ∧ (∃ (s : State), s.modOk = false) ∧ (∃ (s : State), s.modOk = false) ∧ (∃ (s : State)
    (cause : Nat), s.warmOk = true ∧ (s.rst.due.isSome = true ∨ cause = 4 ∨ cause = 6 ∨ cause = 7)) ∧ (∃ (s : State)
    (cause : Nat), s.warmOk = true ∧ (s.rst.due.isSome = true ∨ cause = 4 ∨ cause = 6 ∨ cause = 7)) ∧ (∃ (s : State)
    (cause : Nat), (s.warmOk = false ∨ (s.rst.due = none ∧ cause ≠ 4 ∧ cause ≠ 6 ∧ cause ≠ 7))) ∧ (∃ (s : State)
    (cause : Nat), (s.warmOk = false ∨ (s.rst.due = none ∧ cause ≠ 4 ∧ cause ≠ 6 ∧ cause ≠ 7))) ∧ (∃ (s : State),
    s.mode = .awaitRuntime ∧ s.rst.awaitSince + 2500000000 ≤ s.now ∧ s.warmOk = true) ∧ (∃ (s : State), (s.mode ≠
    .awaitRuntime ∨ s.now < s.rst.awaitSince + 2500000000)) ∧ (∃ (s : State), (s.mode ≠ .awaitRuntime ∨ s.now <
    s.rst.awaitSince + 2500000000)) ∧ (∃ (s : State), (s.mode = .ready ∨ s.mode = .serving ∨ s.mode = .draining) ∧
    s.odGet 0x2000 8 ≠ s.rst.beat) ∧ (∃ (s : State), (s.mode = .ready ∨ s.mode = .serving ∨ s.mode = .draining) ∧
    s.odGet 0x2000 8 = s.rst.beat ∧ s.rst.beatSince + 500000000 ≤ s.now ∧ s.rst.prepared = none ∧ s.rst.due = none ∧
    s.rst.running = none) ∧ (∃ (s : State), s.odGet 0x2000 8 = s.rst.beat ∧ s.now < s.rst.beatSince + 500000000) ∧ (∃
    (s : State) (u : State) (m : MbxSrc) (x : MbxIn), s.receive m 0x31 = (some x, u) ∧ u.rst.prepared = none) ∧ (∃ (s
    : State) (u : State) (m : MbxSrc) (x : MbxIn), s.receive m 0x31 = (some x, u) ∧ u.rst.prepared ≠ none) ∧ (∃ (s :
    State) (t0 : Nat), s.rst.prepared = some t0 ∧ t0 + 250000000 ≤ s.now ∧ s.warmOk = true) ∧ (∃ (s : State),
    (s.rst.prepared = none ∨ (∃ t0 : Nat, s.rst.prepared = some t0 ∧ s.now < t0 + 250000000))) ∧ (∃ (s : State),
    s.mode = .outOfService ∧ s.modOk = true) ∧ (∃ (s : State), s.mode ≠ .outOfService) :=
  ⟨⟨ready, by decide +kernel⟩, ⟨up .parked, by decide +kernel⟩, ⟨State.reset, by decide +kernel⟩, ⟨ready, 7,
    by decide +kernel⟩, ⟨ready.setRst { ready.rst with due := some 8 }, 0, by decide +kernel⟩, ⟨ready, 5,
    by decide +kernel⟩, ⟨up .recovery, 4, by decide +kernel⟩, ⟨late (up .awaitRuntime) 2500000000, by decide +kernel⟩,
    ⟨late (up .awaitRuntime) 2499999999, by decide +kernel⟩, ⟨ready, by decide +kernel⟩, ⟨ready.odSet 0x2000 8 1,
    by decide +kernel⟩, ⟨late (settled ready) 500000000, by decide +kernel⟩, ⟨late ready 499999999,
    by decide +kernel⟩, ⟨running (ready) [0, 9], (State.receive (running (ready) [0, 9]) (.host 0 0 (hostMsg 0x31 0
    0)) 0x31).2, .host 0 0 (hostMsg 0x31 0 0), taken 0 (hostMsg 0x31 0 0), by decide +kernel⟩, ⟨running (ready.setRst
    { ready.rst with prepared := some 5 }) [0, 9], (State.receive (running (ready.setRst
    { ready.rst with prepared := some 5 }) [0, 9]) (.host 0 0 (hostMsg 0x31 0 0)) 0x31).2, .host 0 0 (hostMsg 0x31 0
    0), taken 0 (hostMsg 0x31 0 0), by decide +kernel⟩, ⟨late (ready.setRst { ready.rst with prepared := some 0 })
    250000000, 0, by decide +kernel⟩, ⟨ready, by decide +kernel⟩, ⟨up .outOfService, by decide +kernel⟩, ⟨ready,
    by decide +kernel⟩⟩

/-- 30 witnesses of the hypotheses of Obligations.StagingAndSlots. -/
theorem test_met_StagingAndSlots :
    (∃ (s : State), s.asleep = false ∧ s.stageState = 0 ∧ s.stageSizeOk = true) ∧ (∃ (s : State), s.asleep = false ∧
    s.stageState = 0 ∧ s.stageSizeOk = true) ∧ (∃ (s : State), s.asleep = false ∧ s.stageState = 0 ∧ s.stageSizeOk =
    true) ∧ (∃ (s : State), s.asleep = false ∧ (s.stageState ≠ 0 ∨ s.stageSizeOk = false)) ∧ (∃ (s : State), s.asleep
    = false ∧ (s.stageState ≠ 0 ∨ s.stageSizeOk = false)) ∧ (∃ (s : State), s.asleep = false ∧ (s.stageState ≠ 0 ∨
    s.stageSizeOk = false)) ∧ (∃ (s : State), s.asleep = false) ∧ (∃ (s : State) (bs : List Byte), s.asleep = false ∧
    s.stageState = 1 ∧ leNat (bs.take 4) < s.chunksTotal ∧ bs.length = 4 + s.chunkLen (leNat (bs.take 4))) ∧ (∃ (s :
    State) (bs : List Byte), (s.stageState ≠ 1 ∨ s.chunksTotal ≤ leNat (bs.take 4) ∨ bs.length ≠ 4 + s.chunkLen (leNat
    (bs.take 4)))) ∧ (∃ (s : State) (bs : List Byte), (s.stageState ≠ 1 ∨ s.chunksTotal ≤ leNat (bs.take 4) ∨
    bs.length ≠ 4 + s.chunkLen (leNat (bs.take 4)))) ∧ (∃ (s : State) (bs : List Byte), (s.stageState ≠ 1 ∨
    s.chunksTotal ≤ leNat (bs.take 4) ∨ bs.length ≠ 4 + s.chunkLen (leNat (bs.take 4)))) ∧ (∃ (s : State) (i : Nat) (v
    : Nat), s.store.answered.find i = some v ∧ (s.store.chunks.put i v).length ≠ s.chunksTotal) ∧ (∃ (s : State) (i :
    Nat) (v : Nat), s.store.answered.find i = some v ∧ (s.store.chunks.put i v).length = s.chunksTotal) ∧ (∃ (s :
    State) (i : Nat), s.store.answered.find i = none) ∧ (∃ (s : State) (b : Bool), s.asleep = false ∧ s.armOk = true ∧
    s.mode ≠ .recovery ∧ s.stageKind = 1 ∧ b = !((s.store.platIn .active).getD true)) ∧ (∃ (s : State) (b : Bool),
    s.asleep = false ∧ s.armOk = true ∧ s.stageKind ≠ 1 ∧ b = !((s.store.runIn .current).getD true)) ∧ (∃ (s : State),
    s.armOk = true ∧ s.mode = .recovery ∧ s.stageKind = 1) ∧ (∃ (s : State), s.asleep = false ∧ s.armOk = false) ∧ (∃
    (s : State) (n : Nat) (b : Bool), s.store.probation = some n ∧ s.store.runIn .probation = some b ∧ s.odGet 0x2A20
    0x0B ≤ n ∧ s.odGet 0x2A20 0x0D = 1) ∧ (∃ (s : State) (n : Nat) (b : Bool), s.store.probation = some n ∧
    s.store.runIn .probation = some b ∧ s.odGet 0x2A20 0x0B ≤ n ∧ s.odGet 0x2A20 0x0D ≠ 1 ∧ s.mode = .serving) ∧ (∃ (s
    : State) (n : Nat), (s.store.probation = none ∨ (s.store.probation = some n ∧ n < s.odGet 0x2A20 0x0B))) ∧ (∃ (s :
    State) (n : Nat), (s.store.probation = none ∨ (s.store.probation = some n ∧ n < s.odGet 0x2A20 0x0B))) ∧ (∃ (s :
    State) (b : Bool), s.mode = .recovery ∧ s.store.otherSlot = b) ∧ (∃ (s : State), s.mode ≠ .recovery) ∧ (∃ (s :
    State) (b : Bool), (s.mode = .boot ∨ s.mode = .train) ∧ s.store.platIn .trial = some b ∧ s.rst.trialSince +
    2500000000 ≤ s.now) ∧ (∃ (s : State), (s.store.platIn .trial = none ∨ s.now < s.rst.trialSince + 2500000000)) ∧ (∃
    (s : State), (s.store.platIn .trial = none ∨ s.now < s.rst.trialSince + 2500000000)) ∧ (∃ (s : State) (b : Bool),
    s.store.compaction = (if b then 2 else 1)) ∧ (∃ (s : State) (b : Bool), s.store.compaction = (if b then 2 else 1))
    ∧ (∃ (s : State), s.store.compaction = 0) :=
  ⟨⟨ready.setOd [(odKey 0x2A10 2, 1), (odKey 0x2A10 3, 4096), (odKey 0x2A10 5, 0), (odKey 0x2A10 7, 1)],
    by decide +kernel⟩, ⟨ready.setOd [(odKey 0x2A10 2, 1), (odKey 0x2A10 3, 268435456), (odKey 0x2A10 5, 0), (odKey
    0x2A10 7, 1)], by decide +kernel⟩, ⟨ready.setOd [(odKey 0x2A10 2, 2), (odKey 0x2A10 3, 1073741824), (odKey 0x2A10
    5, 0), (odKey 0x2A10 7, 1)], by decide +kernel⟩, ⟨ready.setOd [(odKey 0x2A10 2, 1), (odKey 0x2A10 3, 4095), (odKey
    0x2A10 5, 0), (odKey 0x2A10 7, 1)], by decide +kernel⟩, ⟨ready.setOd [(odKey 0x2A10 2, 1), (odKey 0x2A10 3,
    268435457), (odKey 0x2A10 5, 0), (odKey 0x2A10 7, 1)], by decide +kernel⟩, ⟨ready.setOd [(odKey 0x2A10 2, 2),
    (odKey 0x2A10 3, 4096), (odKey 0x2A10 5, 2), (odKey 0x2A10 7, 1)], by decide +kernel⟩, ⟨ready, by decide +kernel⟩,
    ⟨ready.setOd [(odKey 0x2A10 2, 1), (odKey 0x2A10 3, 4096), (odKey 0x2A10 5, 1), (odKey 0x2A10 7, 1)],
    List.replicate 4100 0, by decide +kernel⟩, ⟨ready.setOd [(odKey 0x2A10 2, 1), (odKey 0x2A10 3, 4096), (odKey
    0x2A10 5, 1), (odKey 0x2A10 7, 1)], List.replicate 4101 0, by decide +kernel⟩, ⟨ready.setOd [(odKey 0x2A10 2, 1),
    (odKey 0x2A10 3, 4096), (odKey 0x2A10 5, 1), (odKey 0x2A10 7, 1)], [1], by decide +kernel⟩, ⟨ready, [],
    by decide +kernel⟩, ⟨(ready.setOd [(odKey 0x2A10 2, 1), (odKey 0x2A10 3, 131072), (odKey 0x2A10 5, 1), (odKey
    0x2A10 7, 2)]).setStore { State.reset.store with answered := [(1, 9)] }, 1, 9, by decide +kernel⟩, ⟨(ready.setOd
    [(odKey 0x2A10 2, 1), (odKey 0x2A10 3, 4096), (odKey 0x2A10 5, 1), (odKey 0x2A10 7, 1)]).setStore
    { State.reset.store with answered := [(0, 9)] }, 0, 9, by decide +kernel⟩, ⟨ready, 0, by decide +kernel⟩,
    ⟨ready.setOd [(odKey 0x2A10 2, 1), (odKey 0x2A10 3, 4096), (odKey 0x2A10 5, 2), (odKey 0x2A10 7, 1)], true,
    by decide +kernel⟩, ⟨ready.setOd [(odKey 0x2A10 2, 2), (odKey 0x2A10 3, 4096), (odKey 0x2A10 5, 2), (odKey 0x2A10
    7, 1)], true, by decide +kernel⟩, ⟨(up .recovery).setOd [(odKey 0x2A10 2, 1), (odKey 0x2A10 3, 4096), (odKey
    0x2A10 5, 2), (odKey 0x2A10 7, 1)], by decide +kernel⟩, ⟨ready, by decide +kernel⟩, ⟨(ready.setStore
    { ready.store with probation := some 5, runB := .probation }).setOd [(odKey 0x2A20 0x0B, 5), (odKey 0x2A20 0x0D,
    1)], 5, true, by decide +kernel⟩, ⟨((ready.setStore
    { ready.store with probation := some 5, runB := .probation }).setOd [(odKey 0x2A20 0x0B, 5), (odKey 0x2A20 0x0D,
    0)]).setMode .serving, 5, true, by decide +kernel⟩, ⟨(ready.setStore
    { ready.store with probation := some 4, runB := .probation }).setOd [(odKey 0x2A20 0x0B, 5)], 4,
    by decide +kernel⟩, ⟨ready, 0, by decide +kernel⟩, ⟨up .recovery, true, by decide +kernel⟩, ⟨ready,
    by decide +kernel⟩, ⟨late ((up .boot).setStore { ready.store with platB := .trial }) 2500000000, true,
    by decide +kernel⟩, ⟨late ((up .boot).setStore { ready.store with platB := .trial }) 2499999999,
    by decide +kernel⟩, ⟨ready, by decide +kernel⟩, ⟨ready.setStore { ready.store with compaction := 2 }, true,
    by decide +kernel⟩, ⟨ready.setStore { ready.store with compaction := 1 }, false, by decide +kernel⟩, ⟨ready,
    by decide +kernel⟩⟩

end Sys2Proof.Tests
end

section
/-!
Page-map writes (R187) on the list that holds the maps, and the management writes of O25.
A lookup stops at the first larger key, so erasing an entry is safe only in a list whose keys rise: there every other
entry keeps its value (`State.writePage_getD_other_of_sorted`), elsewhere an erased entry may uncover a smaller key
behind it. O25 speaks of every state, also of one whose page maps are listed out of order, and fails there.
-/
namespace Sys2Proof.AMap

variable {α : Type}

theorem sorted_cons_imp {k : Nat} {v : α} {m : AMap α} (h : sorted ((k, v) :: m) = true) :
    sorted m = true ∧ ∀ x ∈ m, k < x.1 := by
  induction m generalizing k v with
  | nil => exact ⟨rfl, fun x hx => absurd hx List.not_mem_nil⟩
  | cons c m ih =>
    obtain ⟨l, w⟩ := c
    simp only [sorted, Bool.and_eq_true, decide_eq_true_eq] at h
    obtain ⟨hkl, hs⟩ := h
    refine ⟨hs, fun x hx => ?_⟩
    rcases List.mem_cons.mp hx with rfl | hx
    · exact hkl
    · exact Nat.lt_trans hkl ((ih hs).2 x hx)

theorem find_eq_none_of_lt {m : AMap α} {k : Nat} (h : ∀ x ∈ m, k < x.1) : m.find k = none := by
  cases m with
  | nil => rfl
  | cons c m =>
    have hk : k < c.1 := h c List.mem_cons_self
    simp only [find, if_neg (Nat.ne_of_gt hk), if_pos hk]

/-- Erasing one key of a sorted list leaves every other as it was. -/
theorem find_del_other {m : AMap α} {i j : Nat} (hs : sorted m = true) (h : i ≠ j) : (m.del i).find j = m.find j := by
  induction m with
  | nil => rfl
  | cons c m ih =>
    obtain ⟨k, v⟩ := c
    obtain ⟨hm, above⟩ := sorted_cons_imp hs
    by_cases e : k = i
    · subst e
      by_cases lt : j < k
      · simp only [del, find, if_true, if_neg h, if_pos lt]
        exact find_eq_none_of_lt (fun x hx => Nat.lt_trans lt (above x hx))
      · simp only [del, find, if_true, if_neg h, if_neg lt]
    · simp only [del, find, if_neg e, ih hm]

end Sys2Proof.AMap

namespace Sys2Proof.Machine

open Sys2Proof

/-- The entry that a page-map write of `e` leaves: `e` with the fields that hardware writes kept from `old` (R187). -/
def pageWritten (old e : Nat) : Nat :=
  setFld (setFld (setFld e 82 17 (fld old 82 17)) 75 7 (fld old 75 7)) 4 1 (fld old 4 1)

theorem State.writePage_pageMaps (s : State) (k e : Nat) :
    (s.writePage k e).pageMaps = putOrDel s.pageMaps k (pageWritten (s.pageMaps.getD k 0) e) :=
  keeps_pageMaps (State.degradedDone_mask _ (m0 := 1759235792961536) rfl)

theorem getD_putOrDel_other {m : AMap Nat} {i j : Nat} (v d : Nat) (hs : m.sorted = true) (h : i ≠ j) :
    (putOrDel m i v).getD j d = m.getD j d := by
  unfold putOrDel
  split
  · exact congrArg (Option.getD · d) (AMap.find_del_other hs h)
  · exact AMap.getD_put_other m v d h

/-- In page maps whose keys rise, a write of one entry leaves every other as it was. -/
theorem State.writePage_getD_other_of_sorted {s : State} {i j : Nat} (e : Nat) (hs : s.pageMaps.sorted = true)
    (h : i ≠ j) : (s.writePage i e).pageMaps.getD j 0 = s.pageMaps.getD j 0 := by
  rw [State.writePage_pageMaps]
  exact getD_putOrDel_other _ 0 hs h

theorem exec_registerWrite_awake {s : State} (w : MgmtWrite) (ha : s.asleep = false) (hm : s.mode ≠ .off) :
    exec (.registerWrite w) s = .next (s.manage w) :=
  congrArg Host.Outcome.next (if_neg (by simp only [ha, hm, Bool.false_or, decide_false, Bool.false_eq_true,
    not_false_eq_true]))

/-- The state after reset, but with the entries of pages 0 and 1 of partition 0 listed in falling order. -/
def unsortedMaps : State := State.reset.setPageMaps [(1, 1), (0, 1)]

/-- A write of zero to page 1 erases its entry and uncovers that of page 0 behind it. -/
theorem writePage_unsortedMaps_uncovers :
    unsortedMaps.pageMaps.getD 0 0 = 0 ∧ (unsortedMaps.writePage 1 0).pageMaps.getD 0 0 = 1 := by
  rw [State.writePage_pageMaps]
  decide

/-- Refutes O25: its page-map clause asks of every state that the entries of other pages stay. In `unsortedMaps`, whose
page maps are not in the canonical order, the write of a zero entry to page 1 changes what page 0 reads as from 0 to 1.
With rising keys that conjunct holds (`State.writePage_getD_other_of_sorted`). -/
theorem not_managementWrites : ¬ Obligations.ManagementWrites := by
  unfold Obligations.ManagementWrites
  rintro ⟨-, -, -, -, -, pageMapClause, -⟩
  have awake : unsortedMaps.asleep = false := rfl
  have running : unsortedMaps.mode ≠ .off := by decide
  obtain ⟨t, run, -, -, -, others, -⟩ := pageMapClause unsortedMaps 0 1 0 awake running
  rw [exec_registerWrite_awake _ awake running] at run
  cases run
  have kept : (unsortedMaps.writePage 1 0).pageMaps.getD 0 0 = unsortedMaps.pageMaps.getD 0 0 := others 0 (by decide)
  obtain ⟨before, after⟩ := writePage_unsortedMaps_uncovers
  rw [before, after] at kept
  exact absurd kept (by decide)

end Sys2Proof.Machine
end

section
/-!
What a loss, a start, a stop record and a trigger leave (R43, R554, R573, R574, R588), for the statements about the tray:
single fields read off the frames of Laws/Frame.
-/
namespace Sys2Proof.Machine

open Sys2Proof

/-- The mask of every field but one: agreement outside it is agreement on that field. -/
def allBut (f : Field) : Nat := 2 ^ 52 - 1 - 2 ^ f.bit

/-! ### What a loss takes and keeps -/

theorem State.loseDies_parts (s : State) (k : Loss) : (s.loseDies k).parts = [] := rfl
theorem State.loseDies_sess (s : State) (k : Loss) : (s.loseDies k).sess = [] := rfl
theorem State.loseDies_pageMaps (s : State) (k : Loss) : (s.loseDies k).pageMaps = [] := rfl

theorem State.loseRest_running (s : State) (k : Loss) : (s.loseRest k).rst.running = s.rst.running := by
  unfold State.loseRest State.loseTime
  cases k <;> rfl

/-- After the dies, a loss leaves the partitions, the sessions and the page maps as they are. -/
theorem State.lose_after_dies (s : State) (k : Loss) :
    Only [.free, .time, .idle, .entry, .wakeHeld, .rst, .queues, .dram, .upsets, .ecc, .tlb, .modMem, .park, .fw, .ryc,
      .net, .ev, .rel, .sec, .pow, .store, .od, .d2dFails] (s.loseDies k) (s.lose k) := by
  unfold Only State.lose
  simp (disch := decide) only [State.condition_mask, setD2dFails_mask, setWakeHeld_mask, setEntry_mask, setIdle_mask,
    State.odDrop_mask, State.loseRest_mask, State.loseFirmware_mask]

@[simp] theorem State.lose_parts (s : State) (k : Loss) : (s.lose k).parts = [] :=
  (keeps_parts (s.lose_after_dies k)).trans (s.loseDies_parts k)

@[simp] theorem State.lose_sess (s : State) (k : Loss) : (s.lose k).sess = [] :=
  (keeps_sess (s.lose_after_dies k)).trans (s.loseDies_sess k)

@[simp] theorem State.lose_pageMaps (s : State) (k : Loss) : (s.lose k).pageMaps = [] :=
  (keeps_pageMaps (s.lose_after_dies k)).trans (s.loseDies_pageMaps k)

/-- A loss keeps which reset is running. -/
@[simp] theorem State.lose_running (s : State) (k : Loss) : (s.lose k).rst.running = s.rst.running := by
  have tail : (s.lose k).rst = (((s.loseDies k).loseFirmware k).loseRest k).rst :=
    (keeps_rst (w := allBut .rst) (State.condition_mask _ _ _ _ _ (by decide))).trans rfl
  have firmware : ((s.loseDies k).loseFirmware k).rst = (s.loseDies k).rst :=
    keeps_rst (w := allBut .rst) (State.loseFirmware_mask _ _ (by decide))
  have dies : (s.loseDies k).rst = s.rst := keeps_rst (w := allBut .rst) (State.loseDies_mask _ _ (by decide))
  rw [tail, State.loseRest_running, firmware, dies]

/-! ### A reset takes hold (R573, R588) -/

@[simp] theorem State.enterMode_mode (s : State) (m : Mode) : (s.enterMode m).mode = m := by
  unfold State.enterMode
  dsimp only
  generalize (if m = .ready then s else s.setIdle false) = u
  split
  · assumption
  · split
    · rfl
    · exact keeps_mode (w := allBut .mode) (State.raiseEast_mask _ _ _ (by decide))

@[simp] theorem State.takeReset_running (s : State) (kind : ResetKind) (cause : Nat) (h : HistRec) :
    (s.takeReset kind cause h).rst.running = some (kind, s.rst.due.getD cause) := by
  unfold State.takeReset
  cases s.rst.due <;> rfl

/-- What every reset of the whole module leaves: BOOT, and none of the partitions, sessions and page maps; the reset that
was taken is the one that runs. -/
theorem State.boot_after_loss (s : State) (k : Loss) :
    ((s.lose k).enterMode .boot).mode = .boot ∧ ((s.lose k).enterMode .boot).parts = []
      ∧ ((s.lose k).enterMode .boot).sess = [] ∧ ((s.lose k).enterMode .boot).pageMaps = []
      ∧ ((s.lose k).enterMode .boot).rst.running = s.rst.running := by
  refine ⟨State.enterMode_mode _ _, ?_, ?_, ?_, ?_⟩
  · rw [keeps_parts (w := allBut .parts) (State.enterMode_mask _ _ (by decide)), State.lose_parts]
  · rw [keeps_sess (w := allBut .sess) (State.enterMode_mask _ _ (by decide)), State.lose_sess]
  · rw [keeps_pageMaps (w := allBut .pageMaps) (State.enterMode_mask _ _ (by decide)), State.lose_pageMaps]
  · rw [keeps_rst (w := allBut .rst) (State.enterMode_mask _ _ (by decide)), State.lose_running]

/-! ### Records of the store -/

theorem State.psCommit_stopRecs (s : State) (items : List Nat) (ok : Bool) :
    (s.psCommit items ok).2.rel.stopRecs = s.rel.stopRecs := by
  have kept (u : State) (xs : List Nat) : (u.keepCounts xs).rel.stopRecs = u.rel.stopRecs := by
    unfold State.keepCounts
    split <;> rfl
  unfold State.psCommit
  dsimp only
  split
  · rfl
  · exact kept _ _

@[simp] theorem State.commit_stopRecs (s : State) (items : List Nat) : (s.commit items).rel.stopRecs = s.rel.stopRecs :=
  s.psCommit_stopRecs items true

theorem State.takeNumber_stopRecs (s : State) : s.takeNumber.2.rel.stopRecs = s.rel.stopRecs := by
  unfold State.takeNumber
  dsimp only
  rw [State.setRel_rel]
  split
  · rw [State.commit_stopRecs]; rfl
  · rfl

/-- A store record is one more stop record. -/
theorem State.storeRecord_stopRecs_length (s : State) (causes : List Nat) (kind unit flags : Nat)
    (detail : List (Nat × DVal)) :
    (s.storeRecord causes kind unit flags detail).rel.stopRecs.length = s.rel.stopRecs.length + 1 := by
  have grown : (s.storeRecord causes kind unit flags detail).rel.stopRecs.length =
      s.takeNumber.2.rel.stopRecs.length + 1 :=
    List.length_append
  rw [grown, State.takeNumber_stopRecs]

/-! ### A cold start on the tray -/

/-- A cold start clears the causes of the last stop (R43) and leaves the rest of the tray. -/
@[simp] theorem State.coldStart_tray (s : State) (k : Loss) (r : StartReport) (failing : Bool) :
    (s.coldStart k r failing).tray = { s.tray with causes := [] } := by
  have begun : (((s.enterMode .boot).setTray { s.tray with causes := [] }).condition 0 27 false 0).tray =
      { s.tray with causes := [] } :=
    keeps_tray (w := allBut .tray) (State.condition_mask _ _ _ _ _ (by decide))
  unfold State.coldStart
  dsimp only at begun ⊢
  generalize ((s.enterMode .boot).setTray _).condition 0 27 false 0 = u at begun ⊢
  rw [← begun]
  apply keeps_tray (w := allBut .tray)
  have checks (v : State) :
      ((upto 18).foldl (fun s n => s.wearLimitCheck 0 n) v).mask (allBut .tray) = v.mask (allBut .tray) :=
    mask_foldl _ (fun s n => State.wearLimitCheck_mask s 0 n (by decide)) _ v
  split
  · simp (disch := decide) only [setNoBoot_mask, State.selectBank_mask]
  · -- Whether or not step 5 boots a slot, the state it answers has the tray of `u`.
    split
    all_goals
      rename_i e
      replace e := congrArg (·.2.mask (allBut .tray)) e
      simp (disch := decide) only [State.activate_mask, checks, State.setAgeing_mask, mask_ite, State.measureHoldup_mask,
        ite_self, State.copyStopRecord_mask, setWestPrimary_mask, setNoBoot_mask, State.selectBank_mask] at e
      simp (disch := decide) only [State.trainAndLoad_mask, e]

/-! ### A trigger asserts (R554) -/

@[simp] theorem State.raiseEast_pow (s : State) (n detail : Nat) : (s.raiseEast n detail).pow = s.pow :=
  keeps_pow (w := allBut .pow) (State.raiseEast_mask s n detail (by decide))

@[simp] theorem State.condition_pow (s : State) (die n : Nat) (level : Bool) (detail : Nat) :
    (s.condition die n level detail).pow = s.pow :=
  keeps_pow (w := allBut .pow) (State.condition_mask s die n level detail (by decide))

@[simp] theorem State.raisePart_pow (s : State) (die p k detail : Nat) : (s.raisePart die p k detail).pow = s.pow :=
  keeps_pow (w := allBut .pow) (State.raisePart_mask s die p k detail (by decide))

@[simp] theorem State.odInc_pow (s : State) (ix sub n : Nat) : (s.odInc ix sub n).pow = s.pow := rfl

theorem pow_foldl {α : Type} (g : State → α → State) (h : ∀ s x, (g s x).pow = s.pow) (xs : List α) (s : State) :
    (xs.foldl g s).pow = s.pow := by
  induction xs generalizing s with
  | nil => rfl
  | cons x xs ih => rw [List.foldl_cons, ih, h]

/-- A change of the step in force opens or ends an episode; the triggers stay as they are. -/
theorem State.stepChanged_trig (s : State) (old : Nat) : (s.stepChanged old).pow.trig = s.pow.trig := by
  unfold State.stepChanged
  dsimp only
  split
  · rfl
  · generalize hu : State.condition _ 0 33 _ _ = u
    have reported : u.pow = s.pow := by
      rw [← hu, State.condition_pow]
      simp only [apply_ite State.pow, pow_foldl, State.condition_pow, State.raisePart_pow, State.raiseEast_pow,
        implies_true, ite_self]
    rw [← reported]
    split
    · rw [pow_foldl _ (fun s p => State.odInc_pow _ _ _ _)]; rfl
    · split
      · rw [pow_foldl _ (fun s p => State.odInc_pow _ _ _ _)]; rfl
      · rfl

@[simp] theorem State.trig_setTrig_self (s : State) (t : Trigger) (x : Trig) : (s.setTrig t x).trig (trigIndex t) = x := by
  unfold State.setTrig State.trig
  rw [State.stepChanged_trig]
  exact State.trig_putTrig_self s (trigIndex t) x

/-- A trigger that was clear is asserted, at the level of R554 or the higher one it still held. -/
theorem State.trigAssert_trig {s : State} (t : Trigger) (detail : Nat) (on : s.mode ≠ .off) (awake : s.asleep = false)
    (clear : (s.trig (trigIndex t)).asserted = false) :
    ((s.trigAssert t detail).trig (trigIndex t)).asserted = true ∧
      ((s.trigAssert t detail).trig (trigIndex t)).level =
        Nat.max (s.trig (trigIndex t)).level (if t = .inputLow then 7 else 2) := by
  unfold State.trigAssert
  generalize hu : s.condition 0 (trigSource t) true detail = u
  have mode : u.mode = s.mode := hu ▸ keeps_mode (w := allBut .mode) (State.condition_mask _ _ _ _ _ (by decide))
  have trig : u.trig (trigIndex t) = s.trig (trigIndex t) := by
    unfold State.trig
    rw [← hu, State.condition_pow]
  have asleep : u.asleep = s.asleep := by
    unfold State.asleep
    rw [mode]
  have acts : ¬ ((u.trig (trigIndex t)).asserted || decide (u.mode = .off) || u.asleep) = true := by
    simp only [trig, clear, mode, on, asleep, awake, decide_false, Bool.or_self, Bool.false_eq_true, not_false_eq_true]
  dsimp only
  rw [if_neg acts, State.trig_setTrig_self, trig]
  exact ⟨rfl, rfl⟩

end Sys2Proof.Machine
end

section
/-!
The module in its tray (01): reset (O6), insertion (O7), and the tray reset with the inputs' readings (O9). Each command
has a lemma that says what its function leaves at its phase; the frames are those of Laws/Frame/Tray.lean.
-/
namespace Sys2Proof.AMap

theorem find_eq_none_of_unlisted {α : Type} {m : AMap α} {k : Nat} (h : ∀ x ∈ m, x.1 ≠ k) : m.find k = none := by
  induction m with
  | nil => rfl
  | cons c m ih =>
    obtain ⟨first, rest⟩ := List.forall_mem_cons.mp h
    simp only [find, if_neg first, ih rest, ite_self]

theorem getD_of_unlisted {α : Type} {m : AMap α} {k : Nat} (d : α) (h : ∀ x ∈ m, x.1 ≠ k) : m.getD k d = d := by
  unfold getD
  rw [find_eq_none_of_unlisted h]
  rfl

end Sys2Proof.AMap

namespace Sys2Proof.Machine

open Sys2Proof

/-! ### The units in service at reset -/

theorem reset_core_role (n : Nat) : (State.reset.core n).role = if n = 8 ∨ n = 17 then .spare else .inService := by
  split
  · rename_i spare
    rcases spare with rfl | rfl <;> rfl
  · rename_i listed
    have unlisted : State.reset.core n = {} :=
      AMap.getD_of_unlisted (m := State.reset.cores) {} (by simpa [State.reset, eq_comm] using listed)
    rw [unlisted]

theorem reset_sub_role (n : Nat) :
    (State.reset.sub n).role = if n = 32 ∨ n = 33 ∨ n = 66 ∨ n = 67 then .spare else .inService := by
  split
  · rename_i spare
    rcases spare with rfl | rfl | rfl | rfl <;> rfl
  · rename_i listed
    have unlisted : State.reset.sub n = {} :=
      AMap.getD_of_unlisted (m := State.reset.dram) {} (by simpa [State.reset, eq_comm] using listed)
    rw [unlisted]

theorem reset_port_role : ∀ p < 6, (State.reset.port p).role = if p = 0 ∨ p = 2 ∨ p = 5 then .active else .standby := by
  decide

/-- Settles O6: the lists of cores and subchannels at reset name the spares alone; the rest of reset is read off. -/
theorem resetValues : Obligations.ResetValues :=
  ⟨rfl, rfl, rfl, reset_core_role, reset_sub_role, reset_port_role, fun _ => rfl, rfl, rfl, rfl, rfl, rfl⟩

/-! ### Insertion -/

theorem Tray.inputGood_iff (t : Tray) (mv : Nat) :
    t.inputGood mv = true ↔ 40000 ≤ mv ∧ t.openCause ≠ some .overcurrent ∧
      mv ≤ if t.phase = .switchOpen ∧ t.openCause = some .overvoltage then 59000 else 60000 := by
  simp only [Tray.inputGood, Bool.and_eq_true, decide_eq_true_eq, and_assoc]

theorem Tray.waitsPresence_iff (t : Tray) :
    t.waitsPresence = true ↔
      t.phase = .waitPresence ∨ t.phase = .switchOpen ∧ (t.present1 = false ∨ t.present2 = false) := by
  simp only [Tray.waitsPresence, Tray.present, Bool.or_eq_true, Bool.and_eq_true, decide_eq_true_eq,
    Bool.not_eq_true', Bool.and_eq_false_iff]

theorem State.bladesMate_of_unpowered {s : State} {mv : Nat} (dark : s.tray.phase = .unpowered) (live : 28000 ≤ mv) :
    s.bladesMate mv = s.setTray { s.tray with
      phase := .waitPresence, inputMv := mv, connectorRecorded := false, present1 := false, present2 := false
      resetLow := false, heldRecorded := false, causes := [] } :=
  if_pos (by simp only [dark, live, decide_true, Bool.and_self])

/-- The input range of R29 holds wherever the switch is not open for an overvoltage. -/
theorem Tray.inputGood_eq_false_iff {t : Tray} (mv : Nat)
    (usual : ¬ (t.phase = .switchOpen ∧ t.openCause = some .overvoltage)) :
    t.inputGood mv = false ↔ mv < 40000 ∨ 60000 < mv ∨ t.openCause = some .overcurrent := by
  rw [← Bool.not_eq_true, Tray.inputGood_iff, if_neg usual, ← Decidable.not_iff_not]
  simp only [Decidable.not_not, not_or, Nat.not_lt]
  exact and_congr_right fun _ => and_comm

theorem State.presenceMet_of_waits {s : State} (mv : Nat) (inlet : Int)
    (waits : s.tray.phase = .waitPresence ∨ s.tray.phase = .switchOpen ∧ (s.tray.present1 = false ∨
      s.tray.present2 = false)) :
    s.presenceMet mv inlet = s.setTray { s.tray with
      present1 := true, present2 := true, inputMv := mv, inlet := inlet,
      phase := if s.tray.phase = .switchOpen ∧ s.tray.openCause ≠ some .withdrawn then .switchOpen
        else if mv < 40000 ∨ 60000 < mv ∨ s.tray.openCause = some .overcurrent then .waitPresence
        else if inlet < 200 then .waitInlet else .softStart } := by
  unfold State.presenceMet
  dsimp only
  rw [if_pos (s.tray.waitsPresence_iff.mpr waits)]
  by_cases stays : s.tray.phase = .switchOpen ∧ s.tray.openCause ≠ some .withdrawn
  · obtain ⟨opened, cause⟩ := stays
    simp [opened, cause]
  · have goes : s.tray.phase = .waitPresence ∨ s.tray.openCause = some .withdrawn := by
      rcases waits with h | ⟨h, -⟩
      · exact .inl h
      · exact .inr (Decidable.not_not.mp fun c => stays ⟨h, c⟩)
    have usual : ¬ (s.tray.phase = .switchOpen ∧ s.tray.openCause = some .overvoltage) := fun ⟨h, c⟩ =>
      stays ⟨h, by rw [c]; decide⟩
    have range : Tray.inputGood { s.tray with present1 := true, present2 := true, inputMv := mv, inlet := inlet } mv = false ↔
        mv < 40000 ∨ 60000 < mv ∨ s.tray.openCause = some .overcurrent := Tray.inputGood_eq_false_iff mv usual
    rw [if_pos (by simpa using goes), if_neg stays]
    simp only [Tray.closing]
    by_cases bad : mv < 40000 ∨ 60000 < mv ∨ s.tray.openCause = some .overcurrent
    · rw [if_neg (ne_true_of_eq_false (range.mpr bad)), if_pos bad]
    · rw [if_pos (eq_true_of_ne_false fun off => bad (range.mp off)), if_neg bad]

theorem State.inletRises_of_waits {s : State} {inlet : Int} (waits : s.tray.phase = .waitInlet) (warm : 200 ≤ inlet) :
    s.inletRises inlet = s.setTray { s.tray with phase := .softStart, inlet := inlet } :=
  if_pos (by simp only [waits, warm, decide_true, Bool.and_self])

/-! ### The PWR start at the end of the soft start (R29 step 6) -/

theorem State.pwrTake_tray (s : State) (cause : Nat) : (s.pwrTake cause).tray = s.tray :=
  keeps_tray (w := allBut .tray) (State.pwrTake_mask s cause (by decide))

/-- What a PWR reset leaves when it takes hold. -/
theorem State.pwrTake_cleared (s : State) (cause : Nat) :
    (s.pwrTake cause).mode = .boot ∧ (s.pwrTake cause).parts = [] ∧ (s.pwrTake cause).sess = [] ∧
      (s.pwrTake cause).pageMaps = [] ∧ (s.pwrTake cause).rst.running = some (.pwr, s.rst.due.getD cause) := by
  unfold State.pwrTake
  dsimp only
  rw [← State.takeReset_running s .pwr cause
    { clock := s.park.savedClock, time := 0, kind := .pwr, cause := cause, counted := false }]
  exact State.boot_after_loss _ .pwr

/-- The reset takes hold, and the cold start follows unless tray_reset_n holds it (R34). -/
theorem State.softStartDone_eq {s : State} (r : StartReport) (soft : s.tray.phase = .softStart) :
    ∃ (cause : Nat) (u : State),
      u = (s.setTray { s.tray with phase := .on, openCause := none, causes := [] }).pwrTake cause ∧
        s.softStartDone r = if s.tray.resetLow then u else u.coldStart .pwr r false :=
  ⟨if s.tray.openCause.isSome then 2 else 1, _, rfl, if_pos soft⟩

/-- A cold start keeps the partitions, the sessions and the page maps, which the reset before it has cleared. -/
theorem State.coldStart_keeps (s : State) (k : Loss) (r : StartReport) (failing : Bool) :
    (s.coldStart k r failing).parts = s.parts ∧ (s.coldStart k r failing).sess = s.sess ∧
      (s.coldStart k r failing).pageMaps = s.pageMaps :=
  ⟨keeps_parts (w := allBut .parts) (State.coldStart_mask s k r failing (by decide)),
    keeps_sess (w := allBut .sess) (State.coldStart_mask s k r failing (by decide)),
    keeps_pageMaps (w := allBut .pageMaps) (State.coldStart_mask s k r failing (by decide))⟩

theorem State.softStartDone_cleared {s : State} (r : StartReport) (soft : s.tray.phase = .softStart) :
    (s.softStartDone r).tray = { s.tray with phase := .on, openCause := none, causes := [] } ∧
      (s.softStartDone r).parts = [] ∧ (s.softStartDone r).sess = [] ∧ (s.softStartDone r).pageMaps = [] ∧
      (s.tray.resetLow = true → (s.softStartDone r).mode = .boot ∧
        ∃ cause : Nat, (s.softStartDone r).rst.running = some (.pwr, cause)) := by
  obtain ⟨cause, u, taken, run⟩ := State.softStartDone_eq r soft
  have tray : u.tray = { s.tray with phase := .on, openCause := none, causes := [] } := taken ▸ State.pwrTake_tray _ cause
  have cleared := State.pwrTake_cleared (s.setTray { s.tray with phase := .on, openCause := none, causes := [] }) cause
  rw [← taken] at cleared
  obtain ⟨mode, parts, sess, maps, running⟩ := cleared
  rw [run]
  cases s.tray.resetLow with
  | true => exact ⟨tray, parts, sess, maps, fun _ => ⟨mode, _, running⟩⟩
  | false =>
    obtain ⟨keptParts, keptSess, keptMaps⟩ := u.coldStart_keeps .pwr r false
    refine ⟨?_, keptParts.trans parts, keptSess.trans sess, keptMaps.trans maps, nofun⟩
    exact (u.coldStart_tray .pwr r false).trans (by rw [tray])

/-! ### Records of the islands (R31, R35) -/

/-- A record that is committed at once is one more stop record, and leaves the tray as it was. -/
theorem State.storeRecord_commit (s : State) (causes : List Nat) (kind unit flags : Nat) (detail : List (Nat × DVal))
    (items : List Nat) :
    ((s.storeRecord causes kind unit flags detail).commit items).tray = s.tray ∧
      ((s.storeRecord causes kind unit flags detail).commit items).rel.stopRecs.length = s.rel.stopRecs.length + 1 := by
  constructor
  · rw [keeps_tray (w := allBut .tray) (State.commit_mask _ items (by decide)),
      keeps_tray (w := allBut .tray) (State.storeRecord_mask s causes kind unit flags detail (by decide))]
  · rw [State.commit_stopRecs, State.storeRecord_stopRecs_length]

theorem State.presenceLate_recorded {s : State} (pins : Nat) (waits : s.tray.phase = .waitPresence)
    (first : s.tray.connectorRecorded = false) :
    (s.presenceLate pins).tray = { s.tray with connectorRecorded := true } ∧
      (s.presenceLate pins).rel.stopRecs.length = s.rel.stopRecs.length + 1 := by
  have late : s.presenceLate pins = ((s.setTray { s.tray with connectorRecorded := true }).storeRecord [0x16] 16 0 0
      [(0, .num pins)]).commit [11] := if_pos (by simp only [waits, first, decide_true, Bool.not_false, Bool.and_self])
  rw [late]
  exact State.storeRecord_commit _ _ _ _ _ _ _

theorem State.presenceLate_of_recorded {s : State} (pins : Nat) (recorded : s.tray.connectorRecorded = true) :
    s.presenceLate pins = s :=
  if_neg (by simp only [recorded, Bool.not_true, Bool.and_false, Bool.false_eq_true, not_false_eq_true])

/-- Settles O7, clause by clause: what the command's function leaves at its phase, and its frame. -/
theorem trayInsertion : Obligations.TrayInsertion := by
  refine ⟨fun s mv dark live => congrArg Host.Outcome.next (State.bladesMate_of_unpowered dark live),
    fun s mv inlet waits => congrArg Host.Outcome.next (State.presenceMet_of_waits mv inlet waits),
    fun s inlet waits warm => congrArg Host.Outcome.next (State.inletRises_of_waits waits warm),
    fun s r soft => ⟨s.softStartDone r, rfl, ?_⟩,
    fun s pins waits first => ⟨s.presenceLate pins.toNat, rfl, ?_⟩,
    fun s pins recorded => congrArg Host.Outcome.next (State.presenceLate_of_recorded pins.toNat recorded)⟩
  · obtain ⟨tray, parts, sess, maps, held⟩ := State.softStartDone_cleared r soft
    exact ⟨tray, parts, sess, maps, keeps_withdrawn (w := allBut .withdrawn) (State.softStartDone_mask s r (by decide)),
      keeps_out (w := allBut .out) (State.softStartDone_mask s r (by decide)), held⟩
  · obtain ⟨tray, recs⟩ := State.presenceLate_recorded pins.toNat waits first
    exact ⟨tray, recs, State.presenceLate_mask s pins.toNat (by decide)⟩

/-! ### The reclosing of the input switch (R26) -/

theorem State.reclose_tray_of_good {s : State} {mv : Nat} (opened : s.tray.phase = .switchOpen)
    (pin1 : s.tray.present1 = true) (pin2 : s.tray.present2 = true) (good : s.tray.inputGood mv = true) :
    (s.reclose mv).tray = { s.tray with phase := s.tray.closing, inputMv := mv } := by
  obtain ⟨-, unlocked, -⟩ := (s.tray.inputGood_iff mv).mp good
  have run : s.reclose mv = (s.setTray { s.tray with phase := s.tray.closing, inputMv := mv }).condition 0 19 false 0 :=
    (if_neg unlocked).trans (if_pos (by
      simp only [opened, good, Tray.present, pin1, pin2, decide_true, Bool.true_or, Bool.and_self]))
  rw [run]
  exact keeps_tray (w := allBut .tray) (State.condition_mask _ _ _ _ _ (by decide))

theorem State.reclose_of_fallen {s : State} {mv : Nat} (locked : s.tray.openCause = some .overcurrent)
    (fallen : mv < 20000) :
    s.reclose mv = s.setTray { s.tray with
      phase := .unpowered, inputMv := mv, openCause := some .inputLost, resetLow := false } :=
  (if_pos locked).trans (if_pos fallen)

/-! ### Input and coolant readings (R48, R554) -/

theorem State.trigAssert_tray (s : State) (t : Trigger) (detail : Nat) : (s.trigAssert t detail).tray = s.tray :=
  keeps_tray (w := allBut .tray) (State.trigAssert_mask s t detail (by decide))

theorem State.below40_of_low {s : State} {mv : Nat} (low : mv < 40000) (on : s.mode ≠ .off) :
    s.below40 mv = (s.setTray { s.tray with inputMv := mv }).trigAssert .inputLow mv :=
  if_pos (by simp only [low, on, decide_true, ne_eq, not_false_eq_true, Bool.and_self])

theorem State.inputFault_of_on {s : State} (on : s.mode ≠ .off) :
    s.inputFault = (s.setTray { s.tray with inputFault := true }).trigAssert .inputLow s.tray.inputMv :=
  if_neg on

/-- The low-input trigger, asserted over a tray that notes the reading. -/
theorem State.trigAssert_inputLow {s : State} (x : Tray) (detail : Nat) (on : s.mode ≠ .off) (awake : s.asleep = false)
    (clear : (s.trig 6).asserted = false) :
    ((s.setTray x).trigAssert .inputLow detail).tray = x ∧
      (((s.setTray x).trigAssert .inputLow detail).trig 6).asserted = true ∧
      (((s.setTray x).trigAssert .inputLow detail).trig 6).level = Nat.max (s.trig 6).level 7 :=
  ⟨State.trigAssert_tray _ _ _, State.trigAssert_trig (s := s.setTray x) .inputLow detail on awake clear⟩

/-- The tray after a fault of a coolant sensor: it counts as 100 °C (R48). -/
def Tray.coolantFaulty (t : Tray) (outlet : Bool) : Tray :=
  if outlet then { t with outlet := 10000, outletFault := true } else { t with inlet := 10000, inletFault := true }

theorem Tray.coolantFaulty_reads (t : Tray) (outlet : Bool) :
    (if outlet then (t.coolantFaulty outlet).outlet else (t.coolantFaulty outlet).inlet) = 10000 ∧
      (if outlet then (t.coolantFaulty outlet).outletFault else (t.coolantFaulty outlet).inletFault) = true := by
  cases outlet <;> exact ⟨rfl, rfl⟩

/-- The record of the fault, if any, comes before the trigger and touches neither the tray, the mode nor the triggers. -/
theorem State.coolantFault_eq (s : State) (outlet : Bool) :
    ∃ u : State, s.coolantFault outlet = u.trigAssert .coolantSensor (b2n outlet) ∧
      Only [.park, .fw, .rel, .store, .od] (s.setTray (s.tray.coolantFaulty outlet)) u :=
  ⟨_, rfl, mask_ite_eq rfl (State.coolantRecord_mask _ _ (by decide))⟩

theorem State.coolantFault_asserts {s : State} (outlet : Bool) (on : s.mode ≠ .off) (awake : s.asleep = false)
    (clear : (s.trig 2).asserted = false) :
    (s.coolantFault outlet).tray = s.tray.coolantFaulty outlet ∧ ((s.coolantFault outlet).trig 2).asserted = true ∧
      ((s.coolantFault outlet).trig 2).level = Nat.max (s.trig 2).level 2 := by
  obtain ⟨u, run, recorded⟩ := s.coolantFault_eq outlet
  have mode : u.mode = s.mode := (keeps_mode recorded).trans rfl
  have pow : u.pow = s.pow := (keeps_pow recorded).trans rfl
  have trigs : u.trig 2 = s.trig 2 := by
    unfold State.trig
    rw [pow]
  have asleep : u.asleep = s.asleep := by
    unfold State.asleep
    rw [mode]
  have asserts := State.trigAssert_trig (s := u) .coolantSensor (b2n outlet) (mode ▸ on) (asleep.trans awake)
    ((congrArg Trig.asserted trigs).trans clear)
  rw [run, ← trigs]
  exact ⟨(State.trigAssert_tray _ _ _).trans (keeps_tray recorded), asserts⟩

/-! ### tray_reset_n (R34, R35) -/

/-- What a MOD reset leaves when it takes hold with no reset due. -/
theorem State.modTake_cleared {s : State} (cause : Nat) (idle : s.rst.due = none) :
    (s.modTake cause).mode = .boot ∧ (s.modTake cause).parts = [] ∧ (s.modTake cause).sess = [] ∧
      (s.modTake cause).pageMaps = [] ∧ (s.modTake cause).rst.running = some (.mod, cause) := by
  unfold State.modTake
  dsimp only
  generalize hu : (if s.asleep then s else s.abortGroups 3 (fun _ => true)) = u
  have due : u.rst.due = none := by
    rw [← hu, keeps_rst (w := allBut .rst) (mask_ite_eq rfl (State.abortGroups_mask s 3 _ (by decide)))]
    exact idle
  have running := State.takeReset_running u .mod cause
    { clock := u.park.clock, time := u.now, kind := .mod, cause := cause, counted := false }
  rw [due, Option.getD_none] at running
  rw [← running]
  exact State.boot_after_loss _ .mod

/-- With power up the line orders the MOD reset of cause 3, after its event. -/
theorem State.trayResetAssert_eq {s : State} (on : s.tray.phase = .on) (high : s.tray.resetLow = false) :
    ∃ u : State, s.trayResetAssert = u.modTake 3 ∧
      u.tray = { s.tray with resetLow := true, heldRecorded := false } ∧ u.rst = s.rst := by
  refine ⟨(s.raiseEast 21 0).setTray { (s.raiseEast 21 0).tray with resetLow := true, heldRecorded := false }, ?_, ?_, ?_⟩
  · unfold State.trayResetAssert
    dsimp only
    rw [if_neg (by simp only [on, high, reduceCtorEq, decide_false, Bool.or_self, Bool.false_eq_true, not_false_eq_true]),
      if_pos on]
  · rw [State.setTray_tray, keeps_tray (w := allBut .tray) (State.raiseEast_mask s 21 0 (by decide))]
  · rw [State.setTray_rst, keeps_rst (w := allBut .rst) (State.raiseEast_mask s 21 0 (by decide))]

theorem State.trayResetAssert_cleared {s : State} (on : s.tray.phase = .on) (high : s.tray.resetLow = false)
    (idle : s.rst.due = none) :
    s.trayResetAssert.mode = .boot ∧ s.trayResetAssert.tray = { s.tray with resetLow := true, heldRecorded := false } ∧
      s.trayResetAssert.rst.running = some (.mod, 3) ∧ s.trayResetAssert.parts = [] ∧ s.trayResetAssert.sess = [] ∧
      s.trayResetAssert.pageMaps = [] := by
  obtain ⟨u, run, tray, rst⟩ := State.trayResetAssert_eq on high
  have due : u.rst.due = none := by rw [rst, idle]
  obtain ⟨mode, parts, sess, maps, running⟩ := State.modTake_cleared 3 due
  rw [run]
  have kept := keeps_tray (w := allBut .tray) (State.modTake_mask u 3 (by decide))
  exact ⟨mode, kept.trans tray, running, parts, sess, maps⟩

theorem State.trayResetRelease_tray {s : State} (r : StartReport) (held : s.tray.phase = .on ∨ s.tray.phase = .heldOff)
    (low : s.tray.resetLow = true) :
    (s.trayResetRelease r).tray = { s.tray with resetLow := false, phase := .on, causes := [] } := by
  have starts : (decide (s.tray.phase = .on) || decide (s.tray.phase = .heldOff)) = true := by
    simpa only [Bool.or_eq_true, decide_eq_true_eq] using held
  unfold State.trayResetRelease
  simp only [low, Bool.not_true, Bool.false_eq_true, if_false, starts, if_true, State.coldStart_tray, State.setTray_tray]

theorem State.trayResetHeld_recorded {s : State} (on : s.tray.phase = .on) (low : s.tray.resetLow = true)
    (first : s.tray.heldRecorded = false) :
    s.trayResetHeld.tray = { s.tray with phase := .heldOff, heldRecorded := true } ∧
      s.trayResetHeld.rel.stopRecs.length = s.rel.stopRecs.length + 1 := by
  have run : s.trayResetHeld = ((s.setTray { s.tray with heldRecorded := true, phase := .heldOff }).storeRecord [0x17] 16 0
      0 []).commit [11] := by
    unfold State.trayResetHeld
    simp only [low, first, on, Bool.not_false, Bool.and_self, if_true]
  rw [run]
  exact State.storeRecord_commit _ _ _ _ _ _ _

/-- Settles O9, clause by clause: what the command's function leaves, and its frame. -/
theorem trayResetAndInputs : Obligations.TrayResetAndInputs := by
  refine ⟨fun s on high idle _ => ⟨s.trayResetAssert, rfl, ?_⟩, fun s r held low => ⟨s.trayResetRelease r, rfl, ?_⟩,
    fun s on low first => ⟨s.trayResetHeld, rfl, ?_⟩,
    fun s mv opened pin1 pin2 least most unlocked after => ⟨s.reclose mv, rfl, ?_, State.reclose_mask s mv (by decide)⟩,
    fun s mv _ locked fallen => ⟨s.reclose mv, rfl, ?_, State.reclose_mask s mv (by decide)⟩,
    fun s mv low on awake clear => ⟨s.below40 mv, rfl, ?_⟩, fun s on awake clear => ⟨s.inputFault, rfl, ?_⟩,
    fun s outlet on awake clear => ⟨s.coolantFault outlet, rfl, ?_⟩⟩
  · obtain ⟨mode, tray, running, parts, sess, maps⟩ := State.trayResetAssert_cleared on high idle
    exact ⟨mode, tray, running, parts, sess, maps, State.trayResetAssert_mask s (by decide)⟩
  · exact ⟨State.trayResetRelease_tray r held low,
      keeps_parts (w := allBut .parts) (State.trayResetRelease_mask s r (by decide)),
      keeps_sess (w := allBut .sess) (State.trayResetRelease_mask s r (by decide)),
      keeps_time (w := allBut .time) (State.trayResetRelease_mask s r (by decide)),
      State.trayResetRelease_mask s r (by decide)⟩
  · obtain ⟨tray, recs⟩ := State.trayResetHeld_recorded on low first
    exact ⟨tray, recs, State.trayResetHeld_mask s (by decide)⟩
  · have good : s.tray.inputGood mv = true := by
      refine (s.tray.inputGood_iff mv).mpr ⟨least, unlocked, ?_⟩
      split
      · rename_i opening
        exact after.resolve_right (not_not_intro opening.2)
      · exact most
    exact State.reclose_tray_of_good opened pin1 pin2 good
  · rw [State.reclose_of_fallen locked fallen]
    rfl
  · obtain ⟨tray, asserted, level⟩ := State.trigAssert_inputLow { s.tray with inputMv := mv } mv on awake clear
    rw [← State.below40_of_low low on] at tray asserted level
    exact ⟨congrArg Tray.inputMv tray, asserted, level, State.below40_mask s mv (by decide)⟩
  · obtain ⟨tray, asserted, level⟩ := State.trigAssert_inputLow { s.tray with inputFault := true } s.tray.inputMv on awake
      clear
    rw [← State.inputFault_of_on on] at tray asserted level
    exact ⟨tray, asserted, level, State.inputFault_mask s (by decide)⟩
  · obtain ⟨tray, asserted, level⟩ := State.coolantFault_asserts outlet on awake clear
    obtain ⟨hot, faulty⟩ := s.tray.coolantFaulty_reads outlet
    rw [← tray] at hot faulty
    exact ⟨hot, faulty, asserted, level, State.coolantFault_mask s outlet (by decide)⟩

end Sys2Proof.Machine
end

section
/-!
Withdrawn slices (R63, R76), for O4. The frames of Laws/Frame say for each function of the model which fields it may
change; only `State.sliceFails` names the list of withdrawn slices. Here they are put together for every command: what
the rows of the engines may change, what each command may change, and so what a step leaves of that list.
-/
namespace Sys2Proof.Machine

open Sys2Proof

/-! ### What an outcome may change -/

/-- Every next state that `o` answers differs from `s` at most in the fields of the mask `w`. -/
def Within (w : Nat) (s : State) (o : Host.Outcome State Fault Refusal) : Prop :=
  ∀ t, o = .next t → t.mask w = s.mask w

theorem Within.next {w : Nat} {s t : State} (e : t.mask w = s.mask w) : Within w s (.next t) := by
  rintro _ ⟨⟩
  exact e

theorem Within.trans {w : Nat} {s u : State} {o : Host.Outcome State Fault Refusal} (e : u.mask w = s.mask w)
    (h : Within w u o) : Within w s o :=
  fun t ht => (h t ht).trans e

theorem Within.ite {w : Nat} {s : State} {c : Prop} [Decidable c] {a b : Host.Outcome State Fault Refusal}
    (ha : Within w s a) (hb : Within w s b) : Within w s (if c then a else b) := by
  split <;> assumption

/-- What a command does with the state `u` that an intake `r` left (a message, an order or a frame taken) stays in the
mask when the intake does. -/
theorem Within.taken {α : Type} {w : Nat} {s u : State} {x : α} {r : α × State} {o : Host.Outcome State Fault Refusal}
    (e : r = (x, u)) (intake : r.2.mask w = s.mask w) (h : Within w u o) : Within w s o := by
  subst e
  exact .trans intake h

/-! ### The rows of the engines: what their own descriptor may change, and the completion of any other -/

theorem State.control_mask {r : Nat × State} {s : State} {w : Nat} (e : r.2.mask w = s.mask w)
    (hw : 4 &&& w = 4 := by rfl) : (State.control r).mask w = s.mask w := by
  unfold State.control
  exact mask_ite_eq e ((State.answerCode_mask _ _ hw).trans e)

theorem State.portCommand_mask {s : State} {q op : Nat} {f : State → Nat → Nat → Nat → State} {w : Nat}
    (own : ∀ n d, (f s q n d).mask w = s.mask w) (hw : 16384 &&& w = 16384 := by rfl) :
    (s.portCommand q op f).mask w = s.mask w := by
  unfold State.portCommand
  split
  · exact mask_ite_eq (own _ _) (mask_ite_eq rfl (State.done_mask _ _ _ hw))
  · rfl

theorem State.parkCommand_mask {s : State} {q op : Nat} {f : State → Nat → Nat → Nat → Nat → State} {w : Nat}
    (own : ∀ die p d, (f s q die p d).mask w = s.mask w) (hw : 16384 &&& w = 16384 := by rfl) :
    (s.parkCommand q op f).mask w = s.mask w := by
  unfold State.parkCommand
  split
  · exact mask_ite_eq rfl (mask_ite_eq (State.done_mask _ _ _ hw) (mask_ite_eq (State.done_mask _ _ _ hw) (own _ _ _)))
  · rfl

theorem State.samplerCommand_mask {s : State} {q : Nat} {mine : Nat → Bool} {f : State → Nat → Nat → Nat → Nat → State}
    {w : Nat} (own : ∀ die p d, (f s q die p d).mask w = s.mask w)
    (hw : 1125899906859008 &&& w = 1125899906859008 := by rfl) : (s.samplerCommand q mine f).mask w = s.mask w := by
  have done (code : Nat) : (s.serveDone q code 0 0).mask w = s.mask w := State.serveDone_mask _ _ _ _ _ hw
  unfold State.samplerCommand
  split
  · refine mask_ite_eq rfl (mask_ite_eq (mask_ite_eq (done _) (own _ _ _)) (mask_ite_eq rfl (mask_ite_eq ?_ (done _))))
    exact mask_ite_eq (done _) (mask_ite_eq (done _) (done _))
  · rfl

theorem State.walkerCommand_mask {s : State} {q op : Nat} {f : State → Nat → Nat → Nat → Nat → State} {w : Nat}
    (own : ∀ die p d, (f s q die p d).mask w = s.mask w) (hw : 1125899906859008 &&& w = 1125899906859008 := by rfl) :
    (s.walkerCommand q op f).mask w = s.mask w := by
  have done (code : Nat) : (s.serveDone q code 0 0).mask w = s.mask w := State.serveDone_mask _ _ _ _ _ hw
  unfold State.walkerCommand
  split
  · exact mask_ite_eq rfl (mask_ite_eq (done _) (mask_ite_eq (done _) (own _ _ _)))
  · rfl

theorem State.videoCommand_mask {s : State} {q : Nat} {mine : Nat → Bool} {f : State → Nat → Nat → Nat → Nat → State}
    {w : Nat} (own : ∀ e p d, (f s q e p d).mask w = s.mask w)
    (hw : 1128098930114560 &&& w = 1128098930114560 := by rfl) : (s.videoCommand q mine f).mask w = s.mask w := by
  have done (code : Nat) : (s.videoDone q code).mask w = s.mask w := State.videoDone_mask _ _ _ hw
  unfold State.videoCommand
  split
  · dsimp only
    split
    · exact mask_ite_eq (own _ _ _) rfl
    · refine mask_ite_eq rfl (mask_ite_eq (mask_ite_eq (done _) (own _ _ _)) (mask_ite_eq rfl ?_))
      exact mask_ite_eq (done _) (mask_ite_eq (done _) (done _))
  · rfl

theorem State.macCommand_mask {s : State} {q op : Nat} {f : State → Nat → State} {w : Nat}
    (own : ∀ d, (f s d).mask w = s.mask w) (hw : 16384 &&& w = 16384 := by rfl) :
    (s.macCommand q op f).mask w = s.mask w := by
  unfold State.macCommand
  refine mask_ite_eq rfl ?_
  split
  · exact mask_ite_eq (own _) (mask_ite_eq rfl (mask_ite_eq (State.done_mask _ _ _ hw) (State.done_mask _ _ _ hw)))
  · rfl

/-! ### Commands that answer by cases -/

/-- The mask of every field but the withdrawn slices: agreement outside it is agreement on them. -/
abbrev notWithdrawn : Nat := allBut .withdrawn

theorem Within.received {s u : State} {m : MbxSrc} {n : Nat} {x : Option MbxIn}
    {o : Host.Outcome State Fault Refusal} (e : s.receive m n = (x, u)) (h : Within notWithdrawn u o) :
    Within notWithdrawn s o :=
  .taken e (State.receive_mask _ _ _ rfl) h

theorem Within.ordered {s u : State} {n action : Nat} {src : CmdSrc} {x : Option (Option MbxIn)}
    {o : Host.Outcome State Fault Refusal} (e : s.coreOrder n action src = (x, u)) (h : Within notWithdrawn u o) :
    Within notWithdrawn s o :=
  .taken e (State.coreOrder_mask _ _ _ _ rfl) h

theorem execSelfTest_within (core : CoreId) (src : CmdSrc) (s : State) :
    Within notWithdrawn s (execSelfTest core src s) := by
  unfold execSelfTest
  split
  next e => exact .ordered e (.next ((State.orderDone_mask (hw := rfl) ..).trans
      (mask_ite_eq ((State.orderTest_mask (hw := rfl) ..).trans (State.odSet_mask (hw := rfl) ..)) rfl)))
  next e => exact .ordered e (.next rfl)

theorem execCoreReset_within (core : CoreId) (src : CmdSrc) (s : State) :
    Within notWithdrawn s (execCoreReset core src s) := by
  unfold execCoreReset
  split
  next e =>
    exact .ordered e (.next ((State.orderDone_mask (hw := rfl) ..).trans (State.startCoreReset_mask (hw := rfl) ..)))
  next e => exact .ordered e (.next rfl)

theorem execCoreSwap_within (core : CoreId) (src : CmdSrc) (passed : Bool) (s : State) :
    Within notWithdrawn s (execCoreSwap core src passed s) := by
  unfold execCoreSwap
  split
  next e => exact .ordered e (.next ((State.orderDone_mask (hw := rfl) ..).trans (State.coreSwap_mask (hw := rfl) ..)))
  next e => exact .ordered e (.next rfl)

theorem execSubchannelRetire_within (sub : SubId) (src : CmdSrc) (s : State) :
    Within notWithdrawn s (execSubchannelRetire sub src s) := by
  have retire (u : State) (cause : Nat) : (u.retireSub sub.val cause).mask notWithdrawn = u.mask notWithdrawn :=
    State.retireSub_mask (hw := rfl) ..
  cases src with
  | entry => exact .next (mask_ite_eq rfl (State.retireEntry_mask (hw := rfl) ..))
  | mailbox m =>
    dsimp only [execSubchannelRetire]
    split
    next e =>
      exact .received e (.next (mask_ite_eq ((State.answer_mask (hw := rfl) ..).trans (retire _ _))
        (State.answer_mask (hw := rfl) ..)))
    next e => exact .received e (.next rfl)
  | module => exact .next (mask_ite_eq (retire _ _) (mask_ite_eq (retire _ _) rfl))

theorem execKeyRelease_within (m : MbxSrc) (s : State) : Within notWithdrawn s (execKeyRelease m s) := by
  unfold execKeyRelease
  split
  next e => exact .received e (.next (State.releaseKey_mask (hw := rfl) ..))
  next e => exact .received e (.next (mask_ite_eq (State.odInc_mask (hw := rfl) ..) rfl))

theorem execPrepareWarm_within (m : MbxSrc) (s : State) : Within notWithdrawn s (execPrepareWarm m s) := by
  unfold execPrepareWarm
  split
  next e => exact .received e (.next ((State.answer_mask (hw := rfl) ..).trans (State.prepareOnce_mask (hw := rfl) ..)))
  next e => exact .received e (.next rfl)

theorem execPartitionCreate_within (m : MbxSrc) (s : State) : Within notWithdrawn s (execPartitionCreate m s) := by
  unfold execPartitionCreate
  split
  next e =>
    have answered (u : State) (x : MbxIn) (status : Nat) (body : List Byte) :
        (u.answer x status body).mask notWithdrawn = u.mask notWithdrawn := State.answer_mask (hw := rfl) ..
    exact .received e (.ite (.next (answered _ _ _ _)) (.ite (.next (answered _ _ _ _))
      (.next ((answered _ _ _ _).trans (State.createPart_mask (hw := rfl) ..)))))
  next e => exact .received e (.next rfl)

theorem execStateQuery_within (f : RFrame) (s : State) : Within notWithdrawn s (execStateQuery f s) := by
  unfold execStateQuery
  split
  next e =>
    exact .taken e (State.takeClear_mask (hw := rfl) ..)
      (.next (mask_ite_eq (State.sendState_mask (hw := rfl) ..) (State.ryciaDrop_mask (hw := rfl) ..)))
  next e => exact .taken e (State.takeClear_mask (hw := rfl) ..) (.next rfl)

theorem execPartitionScrub_within (p : PartId) (src : CmdSrc) (s : State) :
    Within notWithdrawn s (execPartitionScrub p src s) := by
  cases src with
  | mailbox m => exact .next (State.scrubMessage_mask (hw := rfl) ..)
  | entry =>
    exact .ite (.next rfl) (.ite (.next (State.odSet_mask (hw := rfl) ..))
      (.next ((State.odSet_mask (hw := rfl) ..).trans (State.startScrub_mask (hw := rfl) ..))))
  | module => exact .next rfl

theorem execScrubComplete_within (p : PartId) (s : State) : Within notWithdrawn s (execScrubComplete p s) := by
  unfold execScrubComplete
  split
  · exact .next (State.scrubDone_mask (hw := rfl) ..)
  · exact .next (State.scrubDone_mask (hw := rfl) ..)
  · exact .next rfl

theorem execKemExpiry_within (p : PartId) (slot : BitVec 2) (s : State) :
    Within notWithdrawn s (execKemExpiry p slot s) := by
  unfold execKemExpiry
  split
  · exact .ite (.next (State.updPart_mask (hw := rfl) ..)) (.next rfl)
  · exact .next rfl

theorem execModReset_within (src : CmdSrc) (r : StartReport) (s : State) :
    Within notWithdrawn s (execModReset src r s) := by
  cases src with
  | entry => exact .next (State.modReset_mask (hw := rfl) ..)
  | mailbox m => exact .next rfl
  | module => exact .next rfl

theorem execSubframeProgress_within (q : QueueId) (count : BitVec 15) (prog : PictureProgress) (s : State) :
    Within notWithdrawn s (execSubframeProgress q count prog s) := by
  refine .next ?_
  split
  · exact mask_ite_eq rfl (mask_ite_eq (mask_ite_eq (State.sliceVisible_mask (hw := rfl) ..) rfl)
      (mask_ite_eq (State.bandFinal_mask (hw := rfl) ..) rfl))
  · rfl

/-- Every command but SLICE_FAILURE leaves the withdrawn slices: the frame of the function that it runs says so. -/
theorem exec_within_of_ne_sliceFailure (c : Instr) (s : State)
    (other : ∀ (die : Die) (slice : Fin 48), c ≠ .sliceFailure die slice) : Within notWithdrawn s (exec c s) := by
  cases c with
  | powerBladesMate => exact .next (State.bladesMate_mask (hw := rfl) ..)
  | presenceFilterExpiry => exact .next (State.presenceMet_mask (hw := rfl) ..)
  | softStartComplete => exact .next (State.softStartDone_mask (hw := rfl) ..)
  | presenceTimeout => exact .next (State.presenceLate_mask (hw := rfl) ..)
  | presenceBreak => exact .next (State.presenceBreak_mask (hw := rfl) ..)
  | trayResetAssert => exact .next (State.trayResetAssert_mask (hw := rfl) ..)
  | trayResetRelease => exact .next (State.trayResetRelease_mask (hw := rfl) ..)
  | trayResetHeldTimeout => exact .next (State.trayResetHeld_mask (hw := rfl) ..)
  | inputOvervoltage => exact .next (State.overvoltage_mask (hw := rfl) ..)
  | inputOvercurrent => exact .next (State.overcurrent_mask (hw := rfl) ..)
  | inputSwitchReclose => exact .next (State.reclose_mask (hw := rfl) ..)
  | inputLoss => exact .next (State.inputLoss_mask (hw := rfl) ..)
  | inputBelow40V => exact .next (State.below40_mask (hw := rfl) ..)
  | inputBelow36V => exact .next (State.below36_mask (hw := rfl) ..)
  | inputSensorFault => exact .next (State.inputFault_mask (hw := rfl) ..)
  | coolantSensorFault => exact .next (State.coolantFault_mask (hw := rfl) ..)
  | inletWarmed => exact .next (State.inletRises_mask (hw := rfl) ..)
  | ppsPulse => exact .next (State.ppsPulse_mask (hw := rfl) ..)
  | ppsStuck => exact .next (State.ppsStuck_mask (hw := rfl) ..)
  | holdoverEntry => exact .next (State.holdoverEntry_mask (hw := rfl) ..)
  | d2dCrcFailure => exact .next (State.flitFails_mask (hw := rfl) ..)
  | d2dLaneLockLoss => exact .next (mask_ite_eq (State.linkFails_mask (hw := rfl) ..) rfl)
  | pllLossOfLock => exact .next (State.pllLost_mask (hw := rfl) ..)
  | appCoreFailure => exact .next (State.appCoreFails_mask (hw := rfl) ..)
  | samplerFailure => exact .next (State.samplerFails_mask (hw := rfl) ..)
  | securityEngineFailure => exact .next (State.securityFails_mask (hw := rfl) ..)
  | sliceFailure => exact absurd rfl (other _ _)
  | droopTrip => exact .next (State.droopTrip_mask (hw := rfl) ..)
  | droopRecoveryStep => exact .next (State.droopRecovery_mask (hw := rfl) ..)
  | droopGateTimeout => exact .next (State.droopGateTimeout_mask (hw := rfl) ..)
  | spadPatrolRead => exact .next (State.spadPatrol_mask (hw := rfl) ..)
  | matmul => exact .next (State.portCommand_mask fun _ _ => State.matmul_mask (hw := rfl) ..)
  | vecop => exact .next (State.portCommand_mask fun _ _ => State.vecop_mask (hw := rfl) ..)
  | copy => exact .next (State.copyCommand_mask (hw := rfl) ..)
  | conv => exact .next (State.portCommand_mask fun _ _ => State.conv_mask (hw := rfl) ..)
  | window => exact .next (State.portCommand_mask fun _ _ => State.window_mask (hw := rfl) ..)
  | attn => exact .next (State.attnCommand_mask (hw := rfl) ..)
  | residueMismatch => exact .next (State.residueMismatch_mask (hw := rfl) ..)
  | selfTest => exact execSelfTest_within _ _ _
  | selfTestDone => exact .next (State.selfTestDone_mask (hw := rfl) ..)
  | injectResidue => exact .next (State.injectResidue_mask (hw := rfl) ..)
  | coreReset => exact execCoreReset_within _ _ _
  | coreResetDone => exact .next (State.coreResetDone_mask (hw := rfl) ..)
  | doorbellProducer | doorbellConsumer => exact .next (State.ring_mask (hw := rfl) ..)
  | descriptorDispatch => exact .next (State.dispatch_mask (hw := rfl) ..)
  | semaphoreTake => exact .next (State.serveSem_mask (hw := rfl) ..)
  | descriptorComplete =>
    exact .next ((State.testAfter_mask (hw := rfl) ..).trans (State.completeNext_mask (hw := rfl) ..))
  | dataSlotArrival | dataCreditReturn => exact .next (State.streamOn_mask (hw := rfl) ..)
  | waitTimeout => exact .next (State.waitTimeout_mask (hw := rfl) ..)
  | creditTimeout => exact .next (State.creditTimeout_mask (hw := rfl) ..)
  | dataTimeout => exact .next (State.dataTimeout_mask (hw := rfl) ..)
  | backlogTimeout => exact .next (State.backlogTimeout_mask (hw := rfl) ..)
  | enable => exact .next (State.control_mask (State.enableQueue_mask (hw := rfl) ..))
  | pause => exact .next (State.control_mask (State.pauseQueue_mask (hw := rfl) ..))
  | resume => exact .next (State.control_mask (State.resumeQueue_mask (hw := rfl) ..))
  | restart => exact .next (State.control_mask (State.restartQueue_mask (hw := rfl) ..))
  | flush => exact .next (State.control_mask (State.flush_mask (hw := rfl) ..))
  | disable => exact .next (State.control_mask (State.disableQueue_mask (hw := rfl) ..))
  | registerWrite => exact .next (mask_ite_eq rfl (State.manage_mask (hw := rfl) ..))
  | translationInvalidate => exact .next (State.invalidate_mask (hw := rfl) ..)
  | patrolRead => exact .next (State.patrol_mask (hw := rfl) ..)
  | subchannelRetire => exact execSubchannelRetire_within _ _ _
  | migrationPageCopied => exact .next (State.pageCopied_mask (hw := rfl) ..)
  | parkioRead => exact .next (State.parkCommand_mask fun _ _ _ => State.parkRead_mask (hw := rfl) ..)
  | parkioWrite => exact .next (State.parkCommand_mask fun _ _ _ => State.parkWrite_mask (hw := rfl) ..)
  | parkioCreate => exact .next (State.parkCommand_mask fun _ _ _ => State.parkCreate_mask (hw := rfl) ..)
  | parkioDelete => exact .next (State.parkCommand_mask fun _ _ _ => State.parkDelete_mask (hw := rfl) ..)
  | parkioTouch => exact .next (State.parkCommand_mask fun _ _ _ => State.parkTouch_mask (hw := rfl) ..)
  | parkTimeout => exact .next (mask_ite_eq rfl (State.parkExpire_mask (hw := rfl) ..))
  | objectExpiry => exact .next (State.expireObject_mask (hw := rfl) ..)
  | parkClockSave => exact .next (State.clockSave_mask (hw := rfl) ..)
  | eraseObject => exact .next (mask_ite_eq rfl (State.eraseObject_mask (hw := rfl) ..))
  | eraseAll => exact .next (mask_ite_eq rfl (State.eraseAll_mask (hw := rfl) ..))
  | kvInvalidate => exact .next (State.kvInvalidate_mask (hw := rfl) ..)
  | kvResidencyTimeout => exact .next (State.kvExpire_mask (hw := rfl) ..)
  | kvMapSweep => exact .next (State.kvSweep_mask (hw := rfl) ..)
  | kvScan => exact .next (State.kvScan_mask (hw := rfl) ..)
  | sessionOpen => exact .next (State.samplerCommand_mask fun _ _ _ => State.sessionOpen_mask (hw := rfl) ..)
  | sessionUpdate => exact .next (State.samplerCommand_mask fun _ _ _ => State.sessionUpdate_mask (hw := rfl) ..)
  | sessionClose => exact .next (State.samplerCommand_mask fun _ _ _ => State.sessionClose_mask (hw := rfl) ..)
  | sample => exact .next (State.samplerCommand_mask fun _ _ _ => State.sample_mask (hw := rfl) ..)
  | gload => exact .next (State.walkerCommand_mask fun _ _ _ => State.gload_mask (hw := rfl) ..)
  | gfree => exact .next (State.walkerCommand_mask fun _ _ _ => State.gfree_mask (hw := rfl) ..)
  | gadvance => exact .next (State.walkerCommand_mask fun _ _ _ => State.gadvance_mask (hw := rfl) ..)
  | vctxOpen => exact .next (State.videoCommand_mask fun _ _ _ => State.vctxOpen_mask (hw := rfl) ..)
  | vctxUpdate => exact .next (State.videoCommand_mask fun _ _ _ => State.vctxUpdate_mask (hw := rfl) ..)
  | vctxClose => exact .next (State.videoCommand_mask fun _ _ _ => State.vctxClose_mask (hw := rfl) ..)
  | vctxDetach => exact .next (State.videoCommand_mask fun _ _ _ => State.vctxDetach_mask (hw := rfl) ..)
  | vctxAdopt => exact .next (State.videoCommand_mask fun _ _ _ => State.vctxAdopt_mask (hw := rfl) ..)
  | decode => exact .next (State.videoCommand_mask fun _ _ _ => State.decode_mask (hw := rfl) ..)
  | encode => exact .next (State.videoCommand_mask fun _ _ _ => State.encode_mask (hw := rfl) ..)
  | subframeProgress => exact execSubframeProgress_within _ _ _ _
  | pictureTimeout => exact .next (State.pictureTimeout_mask (hw := rfl) ..)
  | videoEngineRestart => exact .next (State.orderRestart_mask (hw := rfl) ..)
  | videoEngineFailure => exact .next (mask_ite_eq rfl (State.engineFails_mask (hw := rfl) ..))
  | componentFault => exact .next (State.compEvent_mask (hw := rfl) ..)
  | budgetOverrun => exact .next (State.overrun_mask (hw := rfl) ..)
  | mailboxWaitTimeout => exact .next (State.mailboxWait_mask (hw := rfl) ..)
  | firmwareCoreFailure => exact .next (mask_ite_eq (State.fwCoreFails_mask (hw := rfl) ..) rfl)
  | mailboxReplyTimeout => exact .next (State.replyTimeout_mask (hw := rfl) ..)
  | hello => exact .next (State.hello_mask (hw := rfl) ..)
  | loadComponent | startComponent | stopComponent | componentStatus | bundleHealth | mailboxAssign | echo
  | attestRequest =>
    dsimp only [exec, execLoadComponent, execStartComponent, execStopComponent, execComponentStatus, execBundleHealth,
      execMailboxAssign, execEcho, execAttestRequest]
    split
    next e =>
      refine .received e (.next ?_)
      simp (disch := decide) only [State.loadComponent_mask, State.startComponent_mask, State.stopComponent_mask,
        State.componentStatus_mask, State.bundleHealth_mask, State.mailboxAssign_mask, State.answer_mask,
        State.attest_mask]
    next e => exact .received e (.next rfl)
  | reloadRuntime => exact .next (State.reloadRuntime_mask (hw := rfl) ..)
  | ryciaHello => exact .next (State.ryciaHello_mask (hw := rfl) ..)
  | finish => exact .next (State.finishSession_mask (hw := rfl) ..)
  | handshakeTimeout => exact .next (State.handshakeExpiry_mask (hw := rfl) ..)
  | keepalive | close =>
    dsimp only [exec, execKeepalive, execClose]
    split
    next e =>
      refine .taken e (State.takeFrame_mask (hw := rfl) ..) (.next ?_)
      simp (disch := decide) only [State.sendSession_mask, State.freeSession_mask]
    next e => exact .taken e (State.takeFrame_mask (hw := rfl) ..) (.next rfl)
  | read => exact .next (State.readRequest_mask (hw := rfl) ..)
  | write => exact .next (State.writeRequest_mask (hw := rfl) ..)
  | writeBegin => exact .next (State.blockBegin_mask (hw := rfl) ..)
  | writeSegment => exact .next (State.blockSegment_mask (hw := rfl) ..)
  | writeCommit => exact .next (State.blockCommit_mask (hw := rfl) ..)
  | writeCancel => exact .next (State.blockCancel_mask (hw := rfl) ..)
  | blockWriteTimeout => exact .next (State.blockExpiry_mask (hw := rfl) ..)
  | commandWindowClose => exact .next (State.windowClose_mask (hw := rfl) ..)
  | sessionIdleTimeout => exact .next (State.idleExpiry_mask (hw := rfl) ..)
  | stateQuery => exact execStateQuery_within _ _
  | wake => exact .next (State.wakeFrame_mask (hw := rfl) ..)
  | credentialWrite => exact .next (State.writeCredential_mask (hw := rfl) ..)
  | ryciaSessionClose => exact .next (mask_ite_eq rfl (State.closeByEntry_mask (hw := rfl) ..))
  | controllerPresenceExpiry => exact .next (State.presenceExpiry_mask (hw := rfl) ..)
  | controllersLost => exact .next (State.controllersLost_mask (hw := rfl) ..)
  | gracePeriodExpiry => exact .next (State.graceExpiry_mask (hw := rfl) ..)
  | frameReceive => exact .next (State.frameIn_mask (hw := rfl) ..)
  | nettx => exact .next (State.macCommand_mask fun _ => State.nettxJob_mask (hw := rfl) ..)
  | netrx => exact .next (State.macCommand_mask fun _ => State.netrx_mask (hw := rfl) ..)
  | portFailure => exact .next (State.portFails_mask (hw := rfl) ..)
  | replayComplete => exact .next (State.replayDone_mask (hw := rfl) ..)
  | linkDownTimeout => exact .next (State.linkTimeout_mask (hw := rfl) ..)
  | switchOver => exact .next (State.switchOver_mask (hw := rfl) ..)
  | plannedSwitchComplete => exact .next (State.switchDone_mask (hw := rfl) ..)
  | portLinkUp => exact .next (State.linkUp_mask (hw := rfl) ..)
  | holdoffExpiry => exact .next (State.holdoffEnd_mask (hw := rfl) ..)
  | heartbeat => exact .next (State.heartbeatOut_mask (hw := rfl) ..)
  | runDiagnostics => exact .next (State.runDiagnostics_mask (hw := rfl) ..)
  | portReturnToService => exact .next (State.portReturn_mask (hw := rfl) ..)
  | peerEntryExpiry => exact .next (State.peerExpiry_mask (hw := rfl) ..)
  | jobAbortOrdered => exact .next (mask_ite_eq rfl (State.abortGroup_mask (hw := rfl) ..))
  | jobAbort => exact .next (mask_ite_eq (State.abortReceived_mask (hw := rfl) ..) rfl)
  | eventOccurrence => exact .next (State.sense_mask (hw := rfl) ..)
  | coalesceTimeout => exact .next (State.coalesce_mask (hw := rfl) ..)
  | claim => exact .next (mask_ite_eq (State.claim_mask (hw := rfl) ..) rfl)
  | complete => exact .next (mask_ite_eq (State.completeIrq_mask (hw := rfl) ..) rfl)
  | sourceControlWrite => exact .next (mask_ite_eq (State.control_mask (State.writeControl_mask (hw := rfl) ..)) rfl)
  | wakeSubsetOccurrence => exact .next (State.wakeSubset_mask (hw := rfl) ..)
  | counterThreshold | counterWrap => exact .next (State.countOn_mask (hw := rfl) ..)
  | counterControlWrite => exact .next (mask_ite_eq (State.writeCounter_mask (hw := rfl) ..) rfl)
  | freeze => exact .next (mask_ite_eq (State.orderFreeze_mask (hw := rfl) ..) rfl)
  | freezePoint => exact .next (State.freezeNow_mask (hw := rfl) ..)
  | freezeResume => exact .next (mask_ite_eq (State.resumeCounters_mask (hw := rfl) ..) rfl)
  | snapshot => exact .next (mask_ite_eq (State.takeSnapshot_mask (hw := rfl) ..) rfl)
  | snapshotResume => exact .next (mask_ite_eq (State.snapshotResume_mask (hw := rfl) ..) rfl)
  | inject => exact .next (mask_ite_eq (State.injectSource_mask (hw := rfl) ..) rfl)
  | bundleRegister => exact .next (State.register_mask (hw := rfl) ..)
  | bundleDeregister => exact .next (State.deregister_mask (hw := rfl) ..)
  | digestPassStart => exact .next (State.passStart_mask (hw := rfl) ..)
  | digestPassEnd => exact .next (State.passEnd_mask (hw := rfl) ..)
  | checkNow => exact .next (State.passStart_mask (hw := rfl) ..)
  | reportMismatch | reportMismatchPoison => exact .next (State.reportReplica_mask (hw := rfl) ..)
  | wearCommit => exact .next (mask_ite_eq (State.commit_mask (hw := rfl) ..) rfl)
  | dailyWearSample => exact .next (State.dailySample_mask (hw := rfl) ..)
  | coreSwap => exact execCoreSwap_within _ _ _ _
  | requalify => exact .next (mask_ite_eq rfl (State.requalify_mask (hw := rfl) ..))
  | partitionCreate => exact execPartitionCreate_within _ _
  | partitionScrub => exact execPartitionScrub_within _ _ _
  | partitionDestroy => exact .next (State.scrubMessage_mask (hw := rfl) ..)
  | scrubComplete => exact execScrubComplete_within _ _
  | keyRelease => exact execKeyRelease_within _ _
  | kemExpiry => exact execKemExpiry_within _ _ _
  | debugOpen => exact .next (State.openDebug_mask (hw := rfl) ..)
  | debugClose => exact .next (State.closeDebug_mask (hw := rfl) ..)
  | debugDataRead => exact .next (State.readDebug_mask (hw := rfl) ..)
  | debugDataWrite => exact .next (State.writeDebug_mask (hw := rfl) ..)
  | dbgConnectorUse => exact .next (mask_ite_eq rfl (State.latchModule_mask (hw := rfl) ..))
  | lowerTreeReady => exact .next (mask_ite_eq rfl (setSec_mask _ _ rfl))
  | drain | drainEnd | standbyRequest | parkedRequest => exact .next (State.stateCommand_mask (hw := rfl) ..)
  | drainTimeout => exact .next (State.drainTimeout_mask (hw := rfl) ..)
  | drainAbort => exact .next (State.drainAbort_mask (hw := rfl) ..)
  | idleEntry => exact .next (State.idleEntry_mask (hw := rfl) ..)
  | throttleTriggerAssert =>
    exact .next (mask_ite_eq ((State.trigOn_mask (hw := rfl) ..).trans (State.noteReading_mask (hw := rfl) ..)) rfl)
  | throttleTriggerClear => exact .next (State.trigClear_mask (hw := rfl) ..)
  | throttleLevelRise => exact .next (State.levelRise_mask (hw := rfl) ..)
  | throttleLevelFall => exact .next (State.levelFall_mask (hw := rfl) ..)
  | thermalStop => exact .next (State.thermalStop_mask (hw := rfl) ..)
  | powerCapAdjust => exact .next (State.capAdjust_mask (hw := rfl) ..)
  | ballastAdjust => exact .next (State.ballastAdjust_mask (hw := rfl) ..)
  | rampHoldAdjust => exact .next (State.rampAdjust_mask (hw := rfl) ..)
  | modReset => exact execModReset_within _ _ _
  | warmReset => exact .next (State.warmReset_mask (hw := rfl) ..)
  | runtimeLoadOverrun => exact .next (State.loadOverrun_mask (hw := rfl) ..)
  | heartbeatCheck => exact .next (State.heartbeatCheck_mask (hw := rfl) ..)
  | prepareWarm => exact execPrepareWarm_within _ _
  | prepareWarmTimeout => exact .next (State.prepareTimeout_mask (hw := rfl) ..)
  | returnToService => exact .next (State.returnToService_mask (hw := rfl) ..)
  | stageOpen => exact .next (mask_ite_eq rfl (State.stageOpen_mask (hw := rfl) ..))
  | stageDiscard => exact .next (mask_ite_eq rfl (State.stageDiscard_mask (hw := rfl) ..))
  | stageArm => exact .next (mask_ite_eq rfl (State.stageArm_mask (hw := rfl) ..))
  | chunk => exact .next (mask_ite_eq rfl (State.chunkWrite_mask (hw := rfl) ..))
  | chunkDurable => exact .next (State.chunkDurable_mask (hw := rfl) ..)
  | probationExpiry => exact .next (State.probationEnd_mask (hw := rfl) ..)
  | usePrevious => exact .next (State.usePrevious_mask (hw := rfl) ..)
  | apertureAccess => exact .next (State.aperture_mask (hw := rfl) ..)
  | refreshRateChange => exact .next (State.refreshRate_mask (hw := rfl) ..)
  | thermalCycle => exact .next (State.thermalCycle_mask (hw := rfl) ..)
  | trainingCacheUpdate => exact .next (State.cacheUpdate_mask (hw := rfl) ..)
  | compactionEraseComplete => exact .next (State.compactionDone_mask (hw := rfl) ..)
  | trialTimeout => exact .next (State.trialTimeout_mask (hw := rfl) ..)
  -- What is left are the descriptors of the security engine: DIGEST, SEAL, OPEN and KEMGEN.
  | _ => exact .next (State.secCommand_mask (hw := rfl) ..)

/-! ### The list of withdrawn slices -/

theorem hasNat_insertNat (l : List Nat) (i n : Nat) :
    hasNat (insertNat l i) n = true ↔ n = i ∨ hasNat l n = true := by
  induction l with
  | nil => grind [insertNat, hasNat]
  | cons k l ih =>
    rcases Nat.lt_trichotomy i k with before | rfl | after <;> grind [insertNat, hasNat]

/-- A failed slice is the only one that its failure withdraws, if it withdraws any. -/
theorem State.sliceFails_withdrawn (s : State) (n : Nat) :
    (s.sliceFails n).withdrawn = s.withdrawn ∨ (s.sliceFails n).withdrawn = insertNat s.withdrawn n := by
  unfold State.sliceFails
  split
  · exact .inr rfl
  · exact .inl rfl

/-- What a step can do to the withdrawn slices: nothing, or, when it runs a slice's failure, withdraw that slice. -/
theorem step_withdrawn {s t : State} (h : step s = .next t) :
    t.withdrawn = s.withdrawn ∨ ∃ (die : Die) (slice : Fin 48) (rest : List Instr),
      s.pending = .sliceFailure die slice :: rest ∧
        t.withdrawn = insertNat s.withdrawn (48 * die.toNat + slice.val) := by
  unfold step at h
  split at h
  next c rest front =>
    by_cases slice : ∃ (die : Die) (slice : Fin 48), c = .sliceFailure die slice
    · obtain ⟨die, slice, rfl⟩ := slice
      cases h
      exact (State.sliceFails_withdrawn _ _).imp_right fun grown => ⟨die, slice, rest, front, grown⟩
    · have other (die : Die) (n : Fin 48) : c ≠ .sliceFailure die n := fun e => slice ⟨die, n, e⟩
      have kept := exec_within_of_ne_sliceFailure c (s.setPending rest) other t h
      exact .inl (keeps_withdrawn kept)
  · cases h
    exact .inl (keeps_withdrawn (w := notWithdrawn) (State.tick_mask s rfl))

theorem WithdrawnOk.of_insert {s t : State} {n : Nat} (ok : WithdrawnOk s) (hn : n < 96)
    (grown : t.withdrawn = insertNat s.withdrawn n) : WithdrawnOk t := by
  obtain ⟨rising, below⟩ := ok
  unfold WithdrawnOk
  rw [grown]
  refine ⟨rising_insert _ _ rising, fun i hi => ?_⟩
  rcases (hasNat_insertNat _ _ _).mp hi with rfl | old
  · exact hn
  · exact below i old

/-- Settles O4: by `step_withdrawn` a step keeps the list or inserts the number of the slice whose failure it runs, and
insertion into the list keeps its members and its order. -/
theorem withdrawnInvariant : Obligations.WithdrawnInvariant := by
  unfold Obligations.WithdrawnInvariant
  intro s t h
  rcases step_withdrawn h with same | ⟨die, slice, rest, front, grown⟩
  · refine ⟨fun n member _ => same ▸ member, fun ok => ?_, fun _ => same⟩
    unfold WithdrawnOk
    rwa [same]
  · have number : 48 * die.toNat + slice.val < 96 := by omega
    refine ⟨fun n member _ => ?_, fun ok => ok.of_insert number grown,
      fun other => absurd front (other die slice rest)⟩
    rw [grown]
    exact (hasNat_insertNat _ _ _).mpr (.inr member)

end Sys2Proof.Machine
end

section
/-!
Integer reduction (R99, R103), for O16. Two's complement in `w` bits is the balanced remainder `Int.bmod · (2 ^ w)`; an
integer reduction is the sum of the integer products, and 2²⁴ products of INT8 elements with an INT32 start stay inside
the 40 bits of the accumulator.
-/
namespace Sys2Proof.Machine

open Sys2Proof

/-! ### Two's complement -/

theorem toSigned_eq_bmod {w : Nat} (hw : 0 < w) (v : Nat) : toSigned w v = (v : Int).bmod (2 ^ w) := by
  obtain ⟨k, rfl⟩ : ∃ k, w = k + 1 := ⟨w - 1, by omega⟩
  have code : (v : Int) % (2 ^ (k + 1) : Nat) = (v % 2 ^ (k + 1) : Nat) := rfl
  have half : (v % 2 ^ (k + 1) : Nat) < ((2 ^ (k + 1) : Nat) + 1 : Int) / 2 ↔ v % 2 ^ (k + 1) < 2 ^ k := by omega
  simp only [toSigned, Int.bmod, Nat.add_sub_cancel, code, half]

theorem neg_le_toSigned {w : Nat} (hw : 0 < w) (v : Nat) : -((2 ^ (w - 1) : Nat) : Int) ≤ toSigned w v := by
  obtain ⟨k, rfl⟩ : ∃ k, w = k + 1 := ⟨w - 1, by omega⟩
  rw [toSigned_eq_bmod hw, Nat.add_sub_cancel]
  have := Int.le_bmod (x := v) (Nat.two_pow_pos (k + 1))
  omega

theorem toSigned_lt {w : Nat} (hw : 0 < w) (v : Nat) : toSigned w v < (2 ^ (w - 1) : Nat) := by
  obtain ⟨k, rfl⟩ : ∃ k, w = k + 1 := ⟨w - 1, by omega⟩
  rw [toSigned_eq_bmod hw, Nat.add_sub_cancel]
  have := Int.bmod_lt (x := v) (Nat.two_pow_pos (k + 1))
  omega

theorem toSigned_ofSigned {w : Nat} (hw : 0 < w) {i : Int} (lo : -((2 ^ (w - 1) : Nat) : Int) ≤ i)
    (hi : i < (2 ^ (w - 1) : Nat)) : toSigned w (ofSigned w i) = i := by
  obtain ⟨k, rfl⟩ : ∃ k, w = k + 1 := ⟨w - 1, by omega⟩
  rw [Nat.add_sub_cancel] at lo hi
  have positive := Nat.two_pow_pos (k + 1)
  have code : (ofSigned (k + 1) i : Int) = i % (2 ^ (k + 1) : Nat) :=
    Int.toNat_of_nonneg (Int.emod_nonneg _ (by omega))
  rw [toSigned_eq_bmod hw, code, Int.emod_bmod]
  exact Int.bmod_eq_of_le (by omega) (by omega)

/-! ### Integer elements -/

theorem XVal.toInt_ofInt (i : Int) : (XVal.ofInt i).toInt = i := by
  simp only [XVal.ofInt, XVal.toInt, Int.toNat_zero, Nat.pow_zero, Nat.mul_one, decide_eq_true_eq]
  split <;> omega

/-- INT8 and INT4, the integer formats that R99 pairs. -/
theorem toInt_elemVal {f : Nat} (hf : f = 10 ∨ f = 11) (c : Nat) :
    (elemVal f c).toInt = toSigned (fmtBits f) c := by
  rcases hf with rfl | rfl <;> exact XVal.toInt_ofInt _

theorem natAbs_toSigned_elem_le {f : Nat} (hf : f = 10 ∨ f = 11) (c : Nat) :
    (toSigned (fmtBits f) c).natAbs ≤ 128 := by
  have bits : fmtBits f = 8 ∨ fmtBits f = 4 := hf.imp (congrArg fmtBits) (congrArg fmtBits)
  rcases bits with bits | bits <;> rw [bits]
  · have := neg_le_toSigned (w := 8) (by decide) c
    have := toSigned_lt (w := 8) (by decide) c
    omega
  · have := neg_le_toSigned (w := 4) (by decide) c
    have := toSigned_lt (w := 4) (by decide) c
    omega

/-! ### The reduction -/

theorem intDot_map_eq_sum {α : Type} (a b : α → XVal) (xs : List α) (acc : Int) :
    intDot (xs.map a) (xs.map b) acc = acc + (xs.map fun x => (a x).toInt * (b x).toInt).sum := by
  induction xs generalizing acc with
  | nil => exact (Int.add_zero acc).symm
  | cons x xs ih => simp only [List.map_cons, intDot, ih, List.sum_cons, Int.add_assoc]

/-- The sum of the products of the signed elements of format `f` with those of format `g`. -/
def signedProducts (f g : Nat) (xs : List (Nat × Nat)) : Int :=
  (xs.map fun x => toSigned (fmtBits f) x.1 * toSigned (fmtBits g) x.2).sum

theorem intDot_elemVal {f g : Nat} (hf : f = 10 ∨ f = 11) (hg : g = 10 ∨ g = 11) (xs : List (Nat × Nat)) (acc : Int) :
    intDot (xs.map fun x => elemVal f x.1) (xs.map fun x => elemVal g x.2) acc = acc + signedProducts f g xs := by
  simp only [intDot_map_eq_sum, toInt_elemVal hf, toInt_elemVal hg, signedProducts]

theorem signedProducts_cons (f g : Nat) (x : Nat × Nat) (xs : List (Nat × Nat)) :
    signedProducts f g (x :: xs)
      = toSigned (fmtBits f) x.1 * toSigned (fmtBits g) x.2 + signedProducts f g xs := by
  simp only [signedProducts, List.map_cons, List.sum_cons]

theorem signedProducts_perm (f g : Nat) {xs ys : List (Nat × Nat)} (h : xs.Perm ys) :
    signedProducts f g xs = signedProducts f g ys := by
  induction h with
  | nil => rfl
  | cons x _ ih => rw [signedProducts_cons, signedProducts_cons, ih]
  | swap x y xs => simp only [signedProducts_cons, Int.add_left_comm]
  | trans _ _ first second => exact first.trans second

/-- Each product is at most 2⁷ × 2⁷ in magnitude. -/
theorem natAbs_signedProducts_le {f g : Nat} (hf : f = 10 ∨ f = 11) (hg : g = 10 ∨ g = 11) (xs : List (Nat × Nat)) :
    (signedProducts f g xs).natAbs ≤ xs.length * 16384 := by
  induction xs with
  | nil => exact Nat.zero_le _
  | cons x xs ih =>
    have product : (toSigned (fmtBits f) x.1 * toSigned (fmtBits g) x.2).natAbs ≤ 128 * 128 := by
      rw [Int.natAbs_mul]
      exact Nat.mul_le_mul (natAbs_toSigned_elem_le hf _) (natAbs_toSigned_elem_le hg _)
    rw [signedProducts_cons, List.length_cons]
    have sum := Int.natAbs_add_le (toSigned (fmtBits f) x.1 * toSigned (fmtBits g) x.2) (signedProducts f g xs)
    omega

/-- 2²⁴ products of magnitude 2¹⁴ and an INT32 start leave the accumulator inside its 40 bits: 2³⁸ + 2³¹ < 2³⁹. -/
theorem toSigned_accumulate_int {f g : Nat} (hf : f = 10 ∨ f = 11) (hg : g = 10 ∨ g = 11) (a b : Nat)
    {xs : List (Nat × Nat)} {init : Int} (count : xs.length ≤ 2 ^ 24) (lo : -2147483648 ≤ init)
    (hi : init ≤ 2147483647) :
    toSigned 40 (accumulate .int a b ⟨xs.map fun x => elemVal f x.1, [], 0⟩ ⟨xs.map fun x => elemVal g x.2, [], 0⟩
      (ofSigned 40 init)).1 = init + signedProducts f g xs := by
  have bound := natAbs_signedProducts_le hf hg xs
  have start : toSigned 40 (ofSigned 40 init) = init := toSigned_ofSigned (by decide) (by omega) (by omega)
  simp only [accumulate, intDot_elemVal hf hg, start]
  exact toSigned_ofSigned (by decide) (by omega) (by omega)

theorem accumulate_int_perm {f g : Nat} (hf : f = 10 ∨ f = 11) (hg : g = 10 ∨ g = 11) (a b init : Nat)
    {xs ys : List (Nat × Nat)} (h : xs.Perm ys) :
    accumulate .int a b ⟨xs.map fun x => elemVal f x.1, [], 0⟩ ⟨xs.map fun x => elemVal g x.2, [], 0⟩ init
      = accumulate .int a b ⟨ys.map fun x => elemVal f x.1, [], 0⟩ ⟨ys.map fun x => elemVal g x.2, [], 0⟩ init := by
  simp only [accumulate, intDot_elemVal hf hg, signedProducts_perm f g h]

/-! ### The drain, and the limit of a MATMUL -/

theorem drained_int (c : Nat) :
    drained .int c = (XVal.ofInt (max (-2147483648) (min 2147483647 (toSigned 40 c))),
      if toSigned 40 c < -2147483648 ∨ 2147483647 < toSigned 40 c then flSat else 0) := by
  rw [drained, if_pos rfl]
  generalize toSigned 40 c = i
  by_cases low : i < -2147483648
  · rw [if_pos low, if_pos (.inl low), Int.max_eq_left (by omega)]
  by_cases high : 2147483647 < i
  · rw [if_neg low, if_pos high, if_pos (.inr high), Int.min_eq_left (by omega), Int.max_eq_right (by decide)]
  · rw [if_neg low, if_neg high, if_neg (by omega), Int.min_eq_right (by omega), Int.max_eq_right (by omega)]

/-- The length check is the last of the format checks: every other failing check answers its own non-zero code. -/
theorem reduction_le_of_mmFormats_eq_zero {d count : Nat} (h : mmFormats d count = 0) :
    mmK d + (if mmInit d = 2 then count else 0) ≤ 2 ^ 24 := by
  refine Nat.le_of_not_lt fun tooLong => ?_
  simp only [mmFormats, if_pos tooLong] at h
  repeat' split at h
  all_goals contradiction

/-- Settles O16: a reduction is the sum of the products, which does not depend on their order and fits the accumulator;
the drain and the length check are read off case by case. -/
theorem integerReduction : Obligations.IntegerReduction := by
  unfold Obligations.IntegerReduction
  exact ⟨fun _ _ a b _ _ hf hg count lo hi => toSigned_accumulate_int hf hg a b count lo hi,
    fun _ _ a b init _ _ hf hg h => accumulate_int_perm hf hg a b init h,
    drained_int, fun _ _ => reduction_le_of_mmFormats_eq_zero⟩

end Sys2Proof.Machine
end

section
/-!
What the droop steps, the patrol reads and the CORE reset leave of the tensor cores (04 R113, R114, R118–R120, R143), for
O14: which core each of them writes and what it holds then; the counts, events and records beside it change no core.
-/
namespace Sys2Proof.Machine

open Sys2Proof

/-! ### One core is written -/

/-- A state that differs from `s` outside the cores only holds the same cores. -/
theorem State.core_of_frame {s t : State} (e : t.mask (allBut .cores) = s.mask (allBut .cores)) (m : Nat) :
    t.core m = s.core m :=
  congrArg (fun cores : AMap Core => cores.getD m {}) (keeps_cores e)

-- Each proof below ends before the next begins: proofs that wait for the long case splits of the files above would
-- otherwise hold a thread each, and with them more memory than the sandbox allows.
set_option Elab.async false

/-- Core `n` is written once, between steps that change no core. -/
theorem State.core_after_putCore {s u t : State} {n : Nat} {c : Core}
    (before : u.mask (allBut .cores) = s.mask (allBut .cores))
    (after : t.mask (allBut .cores) = (u.putCore n c).mask (allBut .cores)) :
    t.core n = c ∧ ∀ m, m ≠ n → t.core m = s.core m := by
  refine ⟨(State.core_of_frame after n).trans (u.core_putCore_self n c), fun m other => ?_⟩
  rw [State.core_of_frame after, State.core_putCore_other u c other.symm, State.core_of_frame before]

/-- The same where what is written depends on what the core held. -/
theorem State.core_after_updCore {s u t : State} {n : Nat} {f : Core → Core}
    (before : u.mask (allBut .cores) = s.mask (allBut .cores))
    (after : t.mask (allBut .cores) = (u.updCore n f).mask (allBut .cores)) :
    t.core n = f (s.core n) ∧ ∀ m, m ≠ n → t.core m = s.core m :=
  State.core_of_frame before n ▸ State.core_after_putCore before after

/-! ### Supply droop (R113, R114) -/

/-- A core that is in service and runs heeds a droop trip. -/
theorem State.heeds_droopTrip {s : State} {n : Nat} (awake : s.asleep = false) (runs : (s.core n).gated = false)
    (serves : (s.core n).role = .inService) :
    ¬(s.asleep || (s.core n).gated || ((s.core n).role ≠ .inService && (s.core n).role ≠ .selfTest)) = true := by
  simp [awake, runs, serves]

theorem State.droopTrip_of_above {s : State} {n : Nat} (awake : s.asleep = false) (runs : (s.core n).gated = false)
    (serves : (s.core n).role = .inService) (above : 600 < s.arrMhz n) :
    s.droopTrip n = (s.odInc (0x2110 + n) 6 1).putCore n { s.core n with
      droopMhz := Nat.max 600 (s.arrMhz n - 25), lastTrip := s.now, lastRise := s.now } :=
  (if_neg (State.heeds_droopTrip awake runs serves)).trans (if_pos above)

theorem State.droopTrip_of_floor {s : State} {n : Nat} (awake : s.asleep = false) (runs : (s.core n).gated = false)
    (serves : (s.core n).role = .inService) (floor : s.arrMhz n ≤ 600) :
    s.droopTrip n = (((s.odInc (0x2110 + n) 6 1).putCore n { s.core n with
      gated := true, droopMhz := 600, lastTrip := s.now }).charge 1 n).condition (dieOfCore n)
        (112 + 8 * (n % 9) + 1) true 0 :=
  (if_neg (State.heeds_droopTrip awake runs serves)).trans (if_neg (Nat.not_lt.mpr floor))

/-- At the floor a trip gates the core's clock, and touches no other core. -/
theorem State.droopTrip_gates {s : State} {n : Nat} (awake : s.asleep = false) (runs : (s.core n).gated = false)
    (serves : (s.core n).role = .inService) (floor : s.arrMhz n ≤ 600) :
    (s.droopTrip n).core n = { s.core n with gated := true, droopMhz := 600, lastTrip := s.now } ∧
      ∀ m, m ≠ n → (s.droopTrip n).core m = s.core m := by
  rw [State.droopTrip_of_floor awake runs serves floor]
  exact State.core_after_putCore (State.odInc_mask _ _ _ _ (by decide))
    ((State.condition_mask _ _ _ _ _ (by decide)).trans (State.charge_mask _ _ _ (by decide)))

/-- The wait of R114 for the next step up is over. -/
theorem State.droopRecovery_due {s : State} {n : Nat} (trip : (s.core n).lastTrip + 2500 ≤ s.now)
    (rise : (s.core n).lastRise + 2500 ≤ s.now) (low : ((s.core n).gated || (s.core n).droopMhz < 1100) = true) :
    ((s.core n).lastTrip + 10 * us ≤ s.now && (s.core n).lastRise + 10 * us ≤ s.now &&
      ((s.core n).gated || (s.core n).droopMhz < 1100)) = true := by
  simp only [us, trip, rise, low, decide_true, Bool.and_self]

theorem State.droopRecovery_of_running {s : State} {n : Nat} (trip : (s.core n).lastTrip + 2500 ≤ s.now)
    (rise : (s.core n).lastRise + 2500 ≤ s.now) (runs : (s.core n).gated = false) (low : (s.core n).droopMhz < 1100) :
    s.droopRecovery n = s.putCore n { s.core n with
      lastRise := s.now
      droopMhz := if s.arrCeiling n ≤ (s.core n).droopMhz + 25 then 1100 else (s.core n).droopMhz + 25 } :=
  (if_pos (State.droopRecovery_due trip rise (by simp only [low, decide_true, Bool.or_true]))).trans
    (if_neg (ne_true_of_eq_false runs))

/-- A gated core runs again, and no other is touched. -/
theorem State.droopRecovery_ungates {s : State} {n : Nat} (trip : (s.core n).lastTrip + 2500 ≤ s.now)
    (rise : (s.core n).lastRise + 2500 ≤ s.now) (gated : (s.core n).gated = true) :
    (s.droopRecovery n).core n = { s.core n with gated := false, lastRise := s.now } ∧
      ∀ m, m ≠ n → (s.droopRecovery n).core m = s.core m := by
  have ungated : s.droopRecovery n = (s.putCore n { s.core n with gated := false, lastRise := s.now }).condition
      (dieOfCore n) (112 + 8 * (n % 9) + 1) false 0 :=
    (if_pos (State.droopRecovery_due trip rise (by simp only [gated, Bool.true_or]))).trans (if_pos gated)
  rw [ungated]
  exact State.core_after_putCore rfl (State.condition_mask _ _ _ _ _ (by decide))

/-! ### The CORE reset (R143) -/

/-- Step 1 of R143: the core's queues are aborted, and what was lent of them ends. -/
def State.dropCoreQueues (s : State) (n : Nat) : State :=
  let s := (s.coreQueues n).foldl (fun s q => s.abortQueue q 0x49) s
  s.setQueues (s.queues.mapVals (fun _ x => if x.coreOf = some n then { x with lentTo := none } else x))

theorem State.dropCoreQueues_mask (s : State) (n : Nat) :
    (s.dropCoreQueues n).mask (allBut .cores) = s.mask (allBut .cores) :=
  (setQueues_mask _ _ (by decide)).trans (mask_foldl _ (fun _ _ => State.abortQueue_mask _ _ _ (by decide)) _ _)

/-- Beside the core, which is wiped in its new role, a core's going down changes no core after its queues. -/
theorem State.coreDown_mask_notCores (s : State) (n : Nat) (role : CoreRole) (cause : Nat) :
    (s.coreDown n role cause).mask (allBut .cores) = ((s.dropCoreQueues n).updCore n (fun c =>
      { c.wiped with role := role, resetCause := cause })).mask (allBut .cores) := by
  unfold State.coreDown
  refine (mask_ite_eq (State.commit_mask _ _ (by decide)) rfl).trans ?_
  simp (disch := decide) only [State.condition_mask, State.odInc_mask, State.clearCoreCounters_mask,
    State.clearCoreEntries_mask, State.clearStatuses_mask, State.clearSpadUpsets_mask]
  exact mask_ite_eq (setEv_mask _ _ (by decide)) rfl

/-- Steps 1 to 3 of R143 leave the core wiped in its new role, and every other core as it was. -/
theorem State.coreDown_core (s : State) (n : Nat) (role : CoreRole) (cause : Nat) :
    (s.coreDown n role cause).core n = { (s.core n).wiped with role := role, resetCause := cause } ∧
      ∀ m, m ≠ n → (s.coreDown n role cause).core m = s.core m :=
  State.core_after_updCore (f := fun c => { c.wiped with role := role, resetCause := cause })
    (s.dropCoreQueues_mask n) (s.coreDown_mask_notCores n role cause)

theorem State.startCoreReset_core {s : State} {n : Nat} (cause : Nat) (ok : s.coreResetOk n = true) :
    (s.startCoreReset n cause).core n = { (s.core n).wiped with role := .resetting, resetCause := cause } ∧
      ∀ m, m ≠ n → (s.startCoreReset n cause).core m = s.core m := by
  rw [State.startCoreReset, if_pos ok]
  exact State.coreDown_core s n .resetting cause

/-- What a record of a core may change plays no part in whether a CORE reset may be taken. -/
theorem State.coreRecord_coreResetOk (s : State) (n cause flags : Nat) (detail : List (Nat × DVal)) (m : Nat) :
    (s.coreRecord n cause flags detail).coreResetOk m = s.coreResetOk m := by
  have masked (u : State) : (u.mask 1763651010691072).coreResetOk m = u.coreResetOk m := rfl
  rw [← masked, State.coreRecord_mask s n cause flags detail rfl, masked]

theorem State.droopGateTimeout_resets {s : State} {n : Nat} (gated : (s.core n).gated = true)
    (late : (s.core n).lastTrip + 250000 ≤ s.now) (ok : s.coreResetOk n = true) :
    (s.droopGateTimeout n).core n = { (s.core n).wiped with role := .resetting, resetCause := 0x0D } ∧
      ∀ m, m ≠ n → (s.droopGateTimeout n).core m = s.core m := by
  have timedOut : s.droopGateTimeout n = (s.coreRecord n 4 0 [(6, .num 600)]).startCoreReset n 0x0D :=
    if_pos (by simp only [gated, ms, late, decide_true, Bool.and_self])
  have record (m : Nat) : (s.coreRecord n 4 0 [(6, .num 600)]).core m = s.core m :=
    State.core_of_frame (State.coreRecord_mask s n 4 0 _ (by decide)) m
  rw [timedOut]
  obtain ⟨own, others⟩ := State.startCoreReset_core 0x0D ((s.coreRecord_coreResetOk n 4 0 _ n).trans ok)
  exact ⟨own.trans (by rw [record]), fun m other => (others m other).trans (record m)⟩

/-! ### A read that met an error is counted (R118, R120) -/

/-- A bank that is not marked yet is marked, and that is all that changes of the cores. -/
theorem State.markBank_core_of_fresh {s : State} {n bank : Nat} (corrected bad : Nat)
    (fresh : ¬hasNat (s.core n).marked bank = true) :
    (s.markBank n bank corrected bad).core n = { s.core n with marked := insertNat (s.core n).marked bank } ∧
      ∀ m, m ≠ n → (s.markBank n bank corrected bad).core m = s.core m := by
  rw [State.markBank, if_neg fresh]
  refine State.core_after_putCore rfl ?_
  simp (disch := decide) only [State.commit_mask, State.wearLimitCheck_mask, State.failRecord_mask,
    State.raiseCore_mask, State.measure_mask]
  exact mask_ite_eq (State.force_mask _ _ _ (by decide)) rfl

/-- Of the cores, a mark for retirement changes the marked banks of its core only. -/
theorem State.markBank_core (s : State) (n bank corrected bad : Nat) :
    (∃ marked, (s.markBank n bank corrected bad).core n = { s.core n with marked := marked }) ∧
      ∀ m, m ≠ n → (s.markBank n bank corrected bad).core m = s.core m := by
  by_cases known : hasNat (s.core n).marked bank = true
  · have same : s.markBank n bank corrected bad = s := if_pos known
    rw [same]
    exact ⟨⟨_, rfl⟩, fun _ _ => rfl⟩
  · obtain ⟨own, others⟩ := State.markBank_core_of_fresh corrected bad known
    exact ⟨⟨_, own⟩, others⟩

/-- What R118 counts of an error in a scratchpad line, before R120 looks at the bank. -/
def State.tallySpad (s : State) (n line : Nat) (bad : Bool) : State :=
  let unit := 50 * n + (s.core n).bankMap.getD (bankOfLine line) (bankOfLine line)
  let u := if bad then s else s.putCore n { s.core n with lineFix := (s.core n).lineFix ++ [(s.now, line)] }
  ((u.odInc (0x2110 + n) (if bad then 0x0B else 0x0A) 1).charge 2 unit).ownerInc (u.coreOwner n) 0x040 3 1

/-- A count of errors ends with the tally, or goes on to mark the bank. -/
theorem State.spadCount_cases (s : State) (n line : Nat) (bad : Bool) :
    s.spadCount n line bad = s.tallySpad n line bad ∨
      ∃ lines, s.spadCount n line bad = (s.tallySpad n line bad).markBank n (bankOfLine line) lines (b2n bad) := by
  by_cases marks : (bad || decide (16 ≤ ((s.tallySpad n line bad).bankLines24 n (bankOfLine line)).length)) = true
  · exact .inr ⟨_, if_pos marks⟩
  · exact .inl (if_neg marks)

/-- The tally notes a corrected line in its core's list. -/
theorem State.tallySpad_core (s : State) (n line : Nat) (bad : Bool) :
    (s.tallySpad n line bad).core n = { s.core n with
      lineFix := if bad then (s.core n).lineFix else (s.core n).lineFix ++ [(s.now, line)] } ∧
      ∀ m, m ≠ n → (s.tallySpad n line bad).core m = s.core m := by
  have counts (u : State) (ix sub unit : Nat) (owner : Option Nat) :
      (((u.odInc ix sub 1).charge 2 unit).ownerInc owner 0x040 3 1).mask (allBut .cores) = u.mask (allBut .cores) := by
    simp (disch := decide) only [State.ownerInc_mask, State.charge_mask, State.odInc_mask]
  cases bad with
  | true => exact ⟨State.core_of_frame (counts ..) n, fun m _ => State.core_of_frame (counts ..) m⟩
  | false => exact State.core_after_putCore rfl (counts ..)

/-- Of the cores, the count of an error changes its core's list of corrected lines and the banks marked. -/
theorem State.spadCount_core (s : State) (n line : Nat) (bad : Bool) :
    (∃ marked, (s.spadCount n line bad).core n = { s.core n with
      marked := marked, lineFix := if bad then (s.core n).lineFix else (s.core n).lineFix ++ [(s.now, line)] }) ∧
      ∀ m, m ≠ n → (s.spadCount n line bad).core m = s.core m := by
  obtain ⟨own, others⟩ := s.tallySpad_core n line bad
  rcases s.spadCount_cases n line bad with run | ⟨lines, run⟩
  · rw [run]
    exact ⟨⟨_, own⟩, others⟩
  · rw [run]
    obtain ⟨⟨marked, ownMark⟩, othersMark⟩ := (s.tallySpad n line bad).markBank_core n (bankOfLine line) lines (b2n bad)
    exact ⟨⟨marked, ownMark.trans (by rw [own])⟩, fun m other => (othersMark m other).trans (others m other)⟩

/-! ### The patrol (R119) -/

/-- Where no bit is upset and nothing waits to be counted, a patrol read meets nothing. -/
theorem State.spadPatrol_of_clean {s : State} (clean : s.spadUpsets = []) (counted : s.ecc = []) (n line : Nat) :
    s.spadPatrol n line [] = s := by
  have accounted : (s.settleSpad n (64 * line) 64).account = s := by
    rw [State.settleSpad_clear clean, State.account_none counted]
  exact (congrArg (ite _ s) accounted).trans (ite_self s)

/-- A key names its core and its line. -/
theorem spadKey_parts {n line w : Nat} (hl : line < 196608) (hw : w < 8) :
    spadKey n line w / 8 / 196608 = n ∧ spadKey n line w / 8 % 196608 = line := by
  have word : spadKey n line w / 8 = 196608 * n + line := by unfold spadKey; omega
  rw [word]
  omega

/-- A read of a line meets its one upset word. -/
theorem State.settleSpad_of_single {s : State} {n line w bits : Nat} (struck : s.spadUpsets = [(spadKey n line w, bits)])
    (hl : line < 196608) (hw : w < 8) : s.settleSpad n (64 * line) 64 = s.settleWord n (spadKey n line w) bits := by
  obtain ⟨core, lineOf⟩ := spadKey_parts (n := n) hl hw
  have mine : (decide (spadKey n line w / 8 / 196608 = n) && inLines (64 * line) 64 (spadKey n line w / 8 % 196608)) =
      true := by
    simp only [core, lineOf, inLines, decide_true, Bool.true_and, Bool.and_eq_true, decide_eq_true_eq]
    omega
  have met : s.spadUpsets.only (fun k _ => decide (k / 8 / 196608 = n) && inLines (64 * line) 64 ((k / 8) % 196608)) =
      [(spadKey n line w, bits)] := by
    rw [struck]
    exact List.filter_cons_of_pos mine
  unfold State.settleSpad State.settleSpadWhere
  rw [met, List.foldl_cons, List.foldl_nil]

theorem State.account_of_single {s : State} {r : EccReport} (h : s.ecc = [r]) :
    s.account = (s.setEcc []).countReport r := by
  unfold State.account
  rw [h]
  rfl

/-- The state after a read that met the one upset word, which nothing has counted yet: no upset stands. -/
theorem State.settleWord_of_single {s : State} (counted : s.ecc = []) {n line w bits : Nat} (hl : line < 196608)
    (hw : w < 8) :
    (s.setSpadUpsets [(spadKey n line w, bits)]).settleWord n (spadKey n line w) bits =
      let u := (s.setSpadUpsets []).setEcc [.spad n line (decide (bits ≠ 1))]
      if bits = 1 then u else u.updCore n (fun c => { c with spad := c.spad.setLine line true }) := by
  have gone : AMap.del [(spadKey n line w, bits)] (spadKey n line w) = [] := if_pos rfl
  unfold State.settleWord
  simp only [State.setSpadUpsets_spadUpsets, gone, State.setSpadUpsets_ecc, counted, (spadKey_parts hl hw).2,
    List.nil_append]
  rfl

section
variable {s : State} {n : CoreId} (clean : s.spadUpsets = []) (counted : s.ecc = []) (awake : s.asleep = false)
  (serves : (s.core n.val).role = .inService) (line : Fin 196608) (w : Fin 8)
include clean counted awake serves

/-- A patrol read of a line in which one word is upset settles that word, and counts it at once. -/
theorem State.spadPatrol_of_single (bits : Fin 72) :
    s.spadPatrol n.val line.val [{ core := n, line := line, word := w, bits := bits }] =
      State.account
        (let u := (s.setSpadUpsets []).setEcc [.spad n.val line.val (decide (bits.val + 1 ≠ 1))]
        if bits.val + 1 = 1 then u
        else u.updCore n.val (fun c => { c with spad := c.spad.setLine line.val true })) := by
  have struck : s.strikeSpad [{ core := n, line := line, word := w, bits := bits }] =
      s.setSpadUpsets [(spadKey n.val line.val w.val, bits.val + 1)] := by
    simp only [State.strikeSpad, List.foldl_cons, List.foldl_nil, clean, AMap.upd, AMap.put, AMap.getD, AMap.find,
      Option.getD_none, Nat.zero_add]
  have reads : ¬(s.asleep || !(s.core n.val).role.takes) = true := by
    simp [awake, serves, CoreRole.takes]
  unfold State.spadPatrol
  rw [struck]
  refine (if_neg reads).trans (congrArg State.account ?_)
  rw [State.settleSpad_of_single rfl line.isLt w.isLt, State.settleWord_of_single counted line.isLt w.isLt]

theorem State.spadPatrol_corrects :
    s.spadPatrol n.val line.val [{ core := n, line := line, word := w, bits := 0 }] =
      ((s.setSpadUpsets []).setEcc []).spadCount n.val line.val false :=
  (State.spadPatrol_of_single clean counted awake serves line w 0).trans
    (State.account_of_single (s := (s.setSpadUpsets []).setEcc [.spad n.val line.val false]) rfl)

theorem State.spadPatrol_poisons {bits : Fin 72} (several : 0 < bits.val) :
    s.spadPatrol n.val line.val [{ core := n, line := line, word := w, bits := bits }] =
      (((s.setSpadUpsets []).setEcc []).updCore n.val (fun c =>
        { c with spad := c.spad.setLine line.val true })).spadCount n.val line.val true := by
  have more : bits.val + 1 ≠ 1 := by omega
  rw [State.spadPatrol_of_single clean counted awake serves line w bits]
  dsimp only
  rw [if_neg more, decide_eq_true more]
  exact State.account_of_single (r := .spad n.val line.val true) rfl

/-- What a corrected read leaves: the line noted in its core, the bytes as they were, and no upset. -/
theorem State.spadPatrol_corrected :
    let t := s.spadPatrol n.val line.val [{ core := n, line := line, word := w, bits := 0 }]
    (t.core n.val).lineFix = (s.core n.val).lineFix ++ [(s.now, line.val)] ∧ (t.core n.val).spad = (s.core n.val).spad ∧
      t.spadUpsets = [] ∧ ∀ m : Nat, m ≠ n.val → t.core m = s.core m := by
  dsimp only
  rw [State.spadPatrol_corrects clean counted awake serves line w]
  obtain ⟨⟨marked, own⟩, others⟩ := ((s.setSpadUpsets []).setEcc []).spadCount_core n.val line.val false
  exact ⟨congrArg Core.lineFix own, (congrArg Core.spad own).trans rfl,
    keeps_spadUpsets (w := allBut .spadUpsets) (State.spadCount_mask _ _ _ _ (by decide)), others⟩

/-- What a read of two or more upset bits leaves: the line marked, and no upset. -/
theorem State.spadPatrol_poisoned {bits : Fin 72} (several : 0 < bits.val) :
    let t := s.spadPatrol n.val line.val [{ core := n, line := line, word := w, bits := bits }]
    (t.core n.val).spad = (s.core n.val).spad.setLine line.val true ∧ t.spadUpsets = [] ∧
      ∀ m : Nat, m ≠ n.val → t.core m = s.core m := by
  dsimp only
  rw [State.spadPatrol_poisons clean counted awake serves line w several]
  obtain ⟨marks, othersKept⟩ := State.core_after_updCore (s := s) (u := (s.setSpadUpsets []).setEcc []) (n := n.val)
    (f := fun c => { c with spad := c.spad.setLine line.val true }) rfl rfl
  obtain ⟨⟨marked, own⟩, others⟩ := State.spadCount_core (((s.setSpadUpsets []).setEcc []).updCore n.val (fun c =>
    { c with spad := c.spad.setLine line.val true })) n.val line.val true
  refine ⟨?_, keeps_spadUpsets (w := allBut .spadUpsets) (State.spadCount_mask _ _ _ _ (by decide)),
    fun m other => (others m other).trans (othersKept m other)⟩
  rw [own, marks]

end

/-- Settles O14, clause by clause: what the droop step, the reset or the patrol read leaves of the cores, and its frame. -/
theorem droopAndPatrol : Obligations.DroopAndPatrol := by
  unfold Obligations.DroopAndPatrol
  refine ⟨fun s n awake runs serves above =>
      congrArg Host.Outcome.next (State.droopTrip_of_above awake runs serves above),
    fun s n awake runs serves floor => ⟨s.droopTrip n.val, rfl, ?_⟩,
    fun s n trip rise runs low => congrArg Host.Outcome.next (State.droopRecovery_of_running trip rise runs low),
    fun s n trip rise gated => ⟨s.droopRecovery n.val, rfl, ?_⟩,
    fun s n gated late ok => ⟨s.droopGateTimeout n.val, rfl, ?_⟩,
    fun s n line clean counted => congrArg Host.Outcome.next (State.spadPatrol_of_clean clean counted n.val line.val),
    fun s n line w clean counted awake serves => ⟨s.spadPatrol n.val line.val _, rfl, ?_⟩,
    fun s n line w bits clean counted awake serves several => ⟨s.spadPatrol n.val line.val _, rfl, ?_⟩⟩
  · obtain ⟨own, others⟩ := State.droopTrip_gates awake runs serves floor
    exact ⟨own, others, State.droopTrip_mask s n.val (by decide)⟩
  · obtain ⟨own, others⟩ := State.droopRecovery_ungates trip rise gated
    exact ⟨own, others, State.droopRecovery_mask s n.val (by decide)⟩
  · obtain ⟨own, others⟩ := State.droopGateTimeout_resets gated late ok
    rw [own]
    exact ⟨rfl, rfl, rfl, rfl, others, State.droopGateTimeout_mask s n.val (by decide)⟩
  · obtain ⟨noted, bytes, settled, others⟩ := State.spadPatrol_corrected clean counted awake serves line w
    exact ⟨noted, bytes, settled, others, State.spadPatrol_mask s n.val line.val _ (by decide)⟩
  · obtain ⟨poisoned, settled, others⟩ := State.spadPatrol_poisoned clean counted awake serves line w several
    exact ⟨poisoned, settled, others, State.spadPatrol_mask s n.val line.val _ (by decide)⟩

end Sys2Proof.Machine
end

section
/-!
The end of a self-test (04 R139, R140; 16 R503), for O15.
-/
namespace Sys2Proof.Machine

set_option Elab.async false
open Sys2Proof

/-- A bit map in which none of the seven rows of R99 is set is a pass, whatever stands above them. -/
theorem State.selfTestDone_of_no_row {s : State} {n failed : Nat} (temp : Int) (testing : (s.core n).role = .selfTest)
    (noRow : failed % 128 = 0) :
    s.selfTestDone n failed temp = (s.putCore n { s.core n with role := .inService }).odSet (0x2110 + n) 0x11 2 :=
  (if_pos testing).trans (if_pos noRow)

/-- The core is retired, and no other is touched. -/
theorem State.retireCore_core (s : State) (n cause : Nat) :
    (s.retireCore n cause).core n = { (s.core n).wiped with role := .retired, resetCause := cause } ∧
      ∀ m, m ≠ n → (s.retireCore n cause).core m = s.core m := by
  have down (m : Nat) : (s.retireCore n cause).core m = (s.coreDown n .retired cause).core m :=
    State.core_of_frame ((State.commit_mask _ _ (by decide)).trans (State.checkComplement_mask _ (by decide))) m
  obtain ⟨own, others⟩ := s.coreDown_core n .retired cause
  exact ⟨(down n).trans own, fun m other => (down m).trans (others m other)⟩

/-- Where a row of R99 failed, the core leaves service as O15 says. -/
theorem State.selfTestDone_of_row {s : State} {n failed : Nat} (temp : Int) (testing : (s.core n).role = .selfTest)
    (row : failed % 128 ≠ 0) :
    (s.selfTestDone n failed temp).core n = { (s.core n).wiped with role := .retired, resetCause := 0x0D } ∧
      ∀ m, m ≠ n → (s.selfTestDone n failed temp).core m = s.core m := by
  have raised (m : Nat) : (s.raiseCore n 3 0).core m = s.core m :=
    State.core_of_frame (State.raiseCore_mask _ _ _ _ (by decide)) m
  have failedTest : s.selfTestDone n failed temp = (((s.raiseCore n 3 0).retireCore n 0x0D).testRecord n failed
      ((s.raiseCore n 3 0).arrMhz n) temp).odSet (0x2110 + n) 0x11 3 := (if_pos testing).trans (if_neg row)
  have kept (m : Nat) : (s.selfTestDone n failed temp).core m = ((s.raiseCore n 3 0).retireCore n 0x0D).core m := by
    rw [failedTest]
    exact State.core_of_frame ((State.odSet_mask _ _ _ _ (by decide)).trans
      (State.testRecord_mask _ _ _ _ _ (by decide))) m
  obtain ⟨own, others⟩ := (s.raiseCore n 3 0).retireCore_core n 0x0D
  exact ⟨(kept n).trans (own.trans (by rw [raised])), fun m other => (kept m).trans ((others m other).trans (raised m))⟩

/-- The state after reset, but with core 0 in its self-test. -/
def coreUnderTest : State := State.reset.setCores [(0, { role := .selfTest })]

/-- Refutes O15: its third clause asks of every non-zero result of a self-test that the core is retired. The result is a
bit map of the seven rows of R99 (R503), and the model reads its low seven bits: in `coreUnderTest` the result 128 returns
core 0 to service. For a result with a row set the core is retired as the clause says (`State.selfTestDone_of_row`). -/
theorem not_coreTestsAndResets : ¬ Obligations.CoreTestsAndResets := by
  unfold Obligations.CoreTestsAndResets
  rintro ⟨-, -, failingClause, -⟩
  have testing : (coreUnderTest.core 0).role = .selfTest := rfl
  obtain ⟨t, run, retired, -⟩ := failingClause coreUnderTest 0 128 0 testing (by decide)
  have passes : exec (.selfTestDone 0 128 0) coreUnderTest = .next _ :=
    congrArg Host.Outcome.next (State.selfTestDone_of_no_row 0 testing rfl)
  rw [passes] at run
  cases run
  exact absurd retired (by decide)

end Sys2Proof.Machine
end

section
/-!
What events, accesses of memory, the aborts of job groups and the accounting of read errors leave of the queues
(05 R149, R152, R157; 15 R457–R461): all but the positions and counts that records move. For O20, O22 and O24.
-/
namespace Sys2Proof.Machine

set_option Elab.async false
open Sys2Proof

/-- Queue `k` without the positions and counts that its records move. -/
def State.stillQueue (s : State) (k : Nat) : Queue := (s.queue k).still

theorem stillQueue_of_still {s t : State} (h : t.still = s.still) : t.stillQueue = s.stillQueue :=
  congrArg Still.queue h

/-- The mask of every field that no queue is read from. -/
def notQueues : Nat := 2 ^ 52 - 1 - 2 ^ Field.queues.bit - 2 ^ Field.queueZero.bit

theorem stillQueue_of_frame {s t : State} (e : t.mask notQueues = s.mask notQueues) : t.stillQueue = s.stillQueue := by
  funext k
  unfold State.stillQueue State.queue State.blankQueue
  rw [keeps_queues e, keeps_queueZero e]

theorem stillQueue_foldl {α : Type} {g : State → α → State} (h : ∀ s x, (g s x).stillQueue = s.stillQueue) (xs : List α)
    (s : State) : (xs.foldl g s).stillQueue = s.stillQueue := by
  induction xs generalizing s with
  | nil => rfl
  | cons x xs ih => exact (ih _).trans (h s x)

theorem stillQueue_ite {c : Prop} [Decidable c] {a b s : State} (ha : a.stillQueue = s.stillQueue)
    (hb : b.stillQueue = s.stillQueue) : (if c then a else b).stillQueue = s.stillQueue := by
  split <;> assumption

/-! ### Events, records and accesses -/

section
variable (s : State)

@[simp] theorem State.stillQueue_raise (die n detail : Nat) : (s.raise die n detail).stillQueue = s.stillQueue :=
  stillQueue_of_still (s.still_raise die n detail)

@[simp] theorem State.stillQueue_raisePart (die p k detail : Nat) :
    (s.raisePart die p k detail).stillQueue = s.stillQueue := s.stillQueue_raise _ _ _

@[simp] theorem State.stillQueue_raiseCore (core k detail : Nat) :
    (s.raiseCore core k detail).stillQueue = s.stillQueue := s.stillQueue_raise _ _ _

@[simp] theorem State.stillQueue_bumpDie (die code : Nat) (part : Option Nat) (n : Nat) :
    (s.bumpDie die code part n).stillQueue = s.stillQueue := stillQueue_of_still (s.still_bumpDie die code part n)

@[simp] theorem State.stillQueue_bumpCore (core code n : Nat) : (s.bumpCore core code n).stillQueue = s.stillQueue :=
  stillQueue_of_still (s.still_bumpCore core code n)

@[simp] theorem State.stillQueue_creditWriteBack (q : Nat) : (s.creditWriteBack q).stillQueue = s.stillQueue :=
  stillQueue_of_still (s.still_creditWriteBack q)

@[simp] theorem State.stillQueue_putRecord (q pos r : Nat) : (s.putRecord q pos r).stillQueue = s.stillQueue :=
  stillQueue_of_still (s.still_putRecord q pos r)

@[simp] theorem State.stillQueue_odSet (ix sub v : Nat) : (s.odSet ix sub v).stillQueue = s.stillQueue := rfl

@[simp] theorem State.stillQueue_odInc (ix sub n : Nat) : (s.odInc ix sub n).stillQueue = s.stillQueue := rfl

@[simp] theorem State.stillQueue_charge (kind unit : Nat) : (s.charge kind unit).stillQueue = s.stillQueue := rfl

@[simp] theorem State.stillQueue_updSub (n : Nat) (f : Sub → Sub) : (s.updSub n f).stillQueue = s.stillQueue := rfl

theorem State.stillQueue_setMigr (m : AMap Migr) : (s.setMigr m).stillQueue = s.stillQueue := rfl

theorem State.stillQueue_clearUpsets (n : Nat) : (s.clearUpsets n).stillQueue = s.stillQueue := rfl

@[simp] theorem State.stillQueue_ownerInc (p : Option Nat) (off sub n : Nat) :
    (s.ownerInc p off sub n).stillQueue = s.stillQueue := by cases p <;> rfl

@[simp] theorem State.stillQueue_commit (items : List Nat) : (s.commit items).stillQueue = s.stillQueue :=
  stillQueue_of_frame (State.commit_mask _ _ (by decide))

@[simp] theorem State.stillQueue_failRecord (die cause kind unit : Nat) (part : Option Nat) (flags : Nat)
    (detail : List (Nat × DVal)) : (s.failRecord die cause kind unit part flags detail).stillQueue = s.stillQueue :=
  stillQueue_of_frame (State.failRecord_mask _ _ _ _ _ _ _ _ (by decide))

@[simp] theorem State.stillQueue_active : s.active.stillQueue = s.stillQueue :=
  stillQueue_of_frame (State.active_mask _ (by decide))

@[simp] theorem State.stillQueue_testAfter (q : Nat) : (s.testAfter q).stillQueue = s.stillQueue :=
  stillQueue_of_frame (State.testAfter_mask _ _ (by decide))

theorem State.stillQueue_mread (die p a n : Nat) : (s.mread die p a n).2.stillQueue = s.stillQueue := by
  have read := stillQueue_of_still (s.still_pread die p a n)
  unfold State.mread
  split <;> rename_i e <;> rw [e] at read
  · exact (stillQueue_foldl (fun s x => stillQueue_of_frame (State.decodeError_mask s _ _ _ _ (by decide))) _ _).trans read
  · exact read

/-! ### Job groups (R432, R433) -/

theorem State.stillQueue_groupMembers (e : Nat) : (s.groupMembers e).2.stillQueue = s.stillQueue := by
  have read := s.stillQueue_mread 0 (jgPart e) (fld e 92 48) (2 * (fld e 140 8 + 1))
  unfold State.groupMembers
  dsimp only
  split <;> rename_i h <;> rw [h] at read <;> exact read

theorem State.stillQueue_sendOn (part : Option Nat) (p : Nat) (bs : List Byte) :
    (s.sendOn part p bs).stillQueue = s.stillQueue := by
  unfold State.sendOn
  exact stillQueue_ite (State.stillQueue_bumpDie _ _ _ _ _) rfl

theorem State.stillQueue_abortGroup (e reason : Nat) : (s.abortGroup e reason).stillQueue = s.stillQueue := by
  unfold State.abortGroup
  refine stillQueue_ite (stillQueue_ite (s.stillQueue_failRecord _ _ _ _ _ _ _) ?_) rfl
  exact (stillQueue_foldl (fun s x => s.stillQueue_sendOn _ _ _) _ _).trans (s.stillQueue_groupMembers e)

@[simp] theorem State.stillQueue_abortGroups (reason : Nat) (p : Nat → Bool) :
    (s.abortGroups reason p).stillQueue = s.stillQueue := by
  unfold State.abortGroups
  exact stillQueue_foldl (fun (u : State) (x : Nat × Nat) => u.stillQueue_abortGroup x.2 reason) _ s

/-! ### The accounting of read errors (R118–R120, R191, R197, R203–R205) -/

theorem State.stillQueue_markBank (n bank corrected bad : Nat) :
    (s.markBank n bank corrected bad).stillQueue = s.stillQueue := by
  have checked (u : State) (kind unit : Nat) : (u.wearLimitCheck kind unit).stillQueue = u.stillQueue :=
    stillQueue_of_frame (State.wearLimitCheck_mask _ _ _ (by decide))
  unfold State.markBank
  refine stillQueue_ite rfl ?_
  dsimp only
  rw [stillQueue_commit, checked, stillQueue_failRecord, stillQueue_raiseCore]
  split <;> rfl

theorem State.stillQueue_spadCount (n line : Nat) (bad : Bool) : (s.spadCount n line bad).stillQueue = s.stillQueue := by
  have counted (u : State) (p : Option Nat) (ix sub unit : Nat) (h : u.stillQueue = s.stillQueue) :
      (((u.odInc ix sub 1).charge 2 unit).ownerInc p 0x040 3 1).stillQueue = s.stillQueue :=
    (State.stillQueue_ownerInc _ _ _ _ _).trans h
  unfold State.spadCount
  refine stillQueue_ite ((State.stillQueue_markBank _ _ _ _ _).trans ?_) ?_ <;>
    exact counted _ _ _ _ _ (stillQueue_ite rfl rfl)

theorem State.stillQueue_beginRetire (n trigger : Nat) : (s.beginRetire n trigger).stillQueue = s.stillQueue := by
  unfold State.beginRetire
  dsimp only
  split
  · rw [stillQueue_commit, stillQueue_odSet, stillQueue_raise, stillQueue_setMigr,
      stillQueue_foldl (g := fun s k => s.markMigrating k _) (fun _ _ => rfl), stillQueue_clearUpsets, stillQueue_updSub,
      stillQueue_updSub]
    split <;> rfl
  · rfl

theorem State.stillQueue_retireSub (n trigger : Nat) : (s.retireSub n trigger).stillQueue = s.stillQueue := by
  unfold State.retireSub
  exact stillQueue_ite rfl (stillQueue_ite (stillQueue_ite rfl rfl) (s.stillQueue_beginRetire n trigger))

theorem State.stillQueue_repairRow (n row : Nat) : (s.repairRow n row).stillQueue = s.stillQueue := by
  unfold State.repairRow
  exact stillQueue_ite (stillQueue_of_frame (State.settleWhere_mask (s.updSub n _) _ _ (by decide)))
    (s.stillQueue_retireSub n 3)

theorem State.stillQueue_lineCorrected (n line : Nat) : (s.lineCorrected n line).stillQueue = s.stillQueue := by
  have repaired (c : Prop) [Decidable c] (u : State) (row : Nat) (h : u.stillQueue = s.stillQueue) :
      (if c then u.repairRow n row else u).stillQueue = s.stillQueue :=
    stillQueue_ite ((u.stillQueue_repairRow n row).trans h) h
  unfold State.lineCorrected
  refine stillQueue_ite ((State.stillQueue_retireSub _ _ _).trans ?_) ?_ <;>
    exact repaired _ _ _ (by simp only [stillQueue_bumpDie, stillQueue_charge, stillQueue_ownerInc, stillQueue_odInc,
      stillQueue_updSub])

theorem State.stillQueue_lineLost (n line : Nat) : (s.lineLost n line).stillQueue = s.stillQueue := by
  have counted : (((((s.updSub n (fun u => { u with bad := u.bad ++ [(s.now, rowOfLine line)] })).odInc 0x2200 9 1).odInc
      (0x2210 + n) 4 1).ownerInc (s.subOwner n) 0x040 2 1).charge 3 n).stillQueue = s.stillQueue := by simp
  unfold State.lineLost
  refine stillQueue_ite ((State.stillQueue_retireSub _ _ _).trans ?_) ?_ <;>
    rw [stillQueue_repairRow, stillQueue_failRecord, stillQueue_raise, counted]

theorem State.stillQueue_countReport (r : EccReport) : (s.countReport r).stillQueue = s.stillQueue := by
  unfold State.countReport
  cases r with
  | line n line bad => exact stillQueue_ite (s.stillQueue_lineLost n line) (s.stillQueue_lineCorrected n line)
  | spad n line bad => exact s.stillQueue_spadCount n line bad

@[simp] theorem State.stillQueue_account : s.account.stillQueue = s.stillQueue := by
  unfold State.account
  exact stillQueue_ite rfl (stillQueue_foldl State.stillQueue_countReport _ _)

end

/-! ### Reading a queue -/

section
variable {t : State} {k : Nat} {x : Queue} (h : t.stillQueue k = x.still)
include h

theorem jobs_of_stillQueue : (t.queue k).jobs = x.jobs := (congrArg Queue.jobs h :)

theorem state_of_stillQueue : (t.queue k).state = x.state := (congrArg Queue.state h :)

theorem head_of_stillQueue : (t.queue k).head = x.head := (congrArg Queue.head h :)

theorem lead_of_stillQueue : (t.queue k).lead = x.lead := (congrArg Queue.lead h :)

theorem doneSeq_of_stillQueue : (t.queue k).doneSeq = x.doneSeq := (congrArg Queue.doneSeq h :)

theorem faultCode_of_stillQueue : (t.queue k).faultCode = x.faultCode := (congrArg Queue.faultCode h :)

end

end Sys2Proof.Machine
end

section
/-!
FAULT (05 R169) and the doorbells (05 R153–R156), for O19 and O20: what a doorbell does, end by end and by the number of
slots that it announces or returns.
-/
namespace Sys2Proof.Machine

set_option Elab.async false
open Sys2Proof

/-! ### FAULT (R169) -/

/-- A context after a fault with `code`: the first code stays, and a DISABLED queue takes none (R169). -/
def Queue.faulted (x : Queue) (code : Nat) : Queue :=
  if x.state = .fault || x.state = .disabled then x else { x with state := .fault, faultCode := BitVec.ofNat 8 code }

theorem Queue.faulted_of_enabled {x : Queue} (code : Nat) (enabled : x.state = .active ∨ x.state = .paused) :
    x.faulted code = { x with state := .fault, faultCode := BitVec.ofNat 8 code } := by
  rcases enabled with h | h <;> simp [faulted, h]

theorem Queue.faulted_still (x : Queue) (code : Nat) : (x.faulted code).still = x.still.faulted code :=
  apply_ite Queue.still _ _ _

@[simp] theorem Queue.faulted_jobs (x : Queue) (code : Nat) : (x.faulted code).jobs = x.jobs :=
  (apply_ite Queue.jobs _ _ _).trans (ite_self _)

@[simp] theorem Queue.faulted_doneSeq (x : Queue) (code : Nat) : (x.faulted code).doneSeq = x.doneSeq :=
  (apply_ite Queue.doneSeq _ _ _).trans (ite_self _)

@[simp] theorem Queue.faulted_head (x : Queue) (code : Nat) : (x.faulted code).head = x.head :=
  (apply_ite Queue.head _ _ _).trans (ite_self _)

/-- A queue in FAULT keeps its code. -/
theorem State.faultQueue_of_fault {s : State} {q : Nat} (code : Nat) (fault : (s.queue q).state = .fault) :
    s.faultQueue q code = s :=
  if_pos (by simp [fault])

/-- A queue that is ACTIVE or PAUSED enters FAULT; its partition's event is raised and its job groups abort. -/
theorem State.faultQueue_of_enabled {s : State} {q code : Nat}
    (enabled : (s.queue q).state = .active ∨ (s.queue q).state = .paused) (aborts : code ≠ 0xC8) :
    s.faultQueue q code = (((s.putQueue q { s.queue q with state := .fault, faultCode := BitVec.ofNat 8 code }).odInc
      0x2300 8 1).raisePart (dieOfQueue q) (s.queue q).part 0 (q % 2 ^ 17 + at' 17 code)).abortGroups 1
        (fun e => jgHas e q) :=
  (if_neg (by rcases enabled with h | h <;> simp [h])).trans (if_neg aborts)

/-- A fault changes the state and the code of its queue alone, but for the positions and counts that records move. -/
theorem State.stillQueue_faultQueue (s : State) (q code : Nat) :
    (s.faultQueue q code).stillQueue q = (s.stillQueue q).faulted code := by
  unfold State.stillQueue
  rw [← Queue.faulted_still]
  unfold State.faultQueue Queue.faulted
  dsimp only
  split
  · rfl
  · have raised (u : State) : (((u.odInc 0x2300 8 1).raisePart (dieOfQueue q) (s.queue q).part 0
        (q % 2 ^ 17 + at' 17 code)).stillQueue q) = (u.queue q).still := by simp; rfl
    split
    · refine (raised _).trans ?_
      rw [State.queue_putQueue_self]
    · refine (congrFun (State.stillQueue_abortGroups _ _ _) q).trans ((raised _).trans ?_)
      rw [State.queue_putQueue_self]

/-! ### The word of a doorbell (R153) -/

section
variable {w : Nat} (h : w < 2 ^ 32)
include h

theorem producerWord_eq : producerWord w = w % 2 ^ 31 := by
  unfold producerWord setFld fld
  rw [Nat.shiftRight_eq_div_pow]
  omega

theorem consumerWord_eq : consumerWord w = w % 2 ^ 31 + 2 ^ 31 := by
  unfold consumerWord setFld fld
  rw [Nat.shiftRight_eq_div_pow]
  omega

end

/-- Bit 31 names the end; the index and the reserved field are those of the word. -/
theorem producerWord_reads {w : Nat} (h : w < 2 ^ 32) : bitOf (producerWord w) 31 = false ∧
    fld (producerWord w) 16 15 = fld w 16 15 ∧ producerWord w % 65536 = w % 65536 := by
  rw [producerWord_eq h]
  unfold bitOf fld
  rw [Nat.testBit_eq_decide_div_mod_eq, Nat.shiftRight_eq_div_pow, Nat.shiftRight_eq_div_pow, decide_eq_false_iff_not]
  omega

theorem consumerWord_reads {w : Nat} (h : w < 2 ^ 32) : bitOf (consumerWord w) 31 = true ∧
    fld (consumerWord w) 16 15 = fld w 16 15 ∧ consumerWord w % 65536 = w % 65536 := by
  rw [consumerWord_eq h]
  unfold bitOf fld
  rw [Nat.testBit_eq_decide_div_mod_eq, Nat.shiftRight_eq_div_pow, Nat.shiftRight_eq_div_pow, decide_eq_true_eq]
  omega

/-! ### What a doorbell does (R154–R156) -/

/-- The slots from position `pos` to the index of a doorbell's word, around the ring. -/
def Queue.slotsTo (x : Queue) (word pos : Nat) : Nat := (word % 65536 % x.depth + x.depth - pos) % x.depth

/-- The context after a consumer has returned the slots up to the word's index (R155; log 143). -/
def Queue.returned (x : Queue) (word : Nat) : Queue :=
  ({ x with
    head := BitVec.ofNat 16 (word % 65536 % x.depth)
    credits := BitVec.ofNat 17 (x.credits.toNat + x.slotsTo word x.head.toNat)
    lead := if x.soft then x.lead + x.slotsTo word x.head.toNat else x.lead } : Queue).freeSoft

@[simp] theorem State.active_queue (s : State) (q : Nat) : s.active.queue q = s.queue q := by
  unfold State.active
  split <;> rfl

theorem Queue.soft_iff (x : Queue) : x.soft = true ↔ x.cls = 0 ∧ x.kind = 11 := by
  simp [Queue.soft]

/-- Hardware is the consumer of the queue's slots: a data queue, or a command queue of another kind than 0xB (R155). -/
theorem Queue.hardwareEnd_iff (x : Queue) :
    (x.cls = 1 ∨ (x.cls = 0 ∧ x.kind ≠ 11)) ↔ ¬(2 ≤ x.cls.toNat ∨ x.soft = true) := by
  rw [x.soft_iff]
  have classes (b : Bool) :
      ∀ c : BitVec 2, (c = 1 ∨ (c = 0 ∧ ¬b = true)) ↔ ¬(2 ≤ c.toNat ∨ (c = 0 ∧ b = true)) := by revert b; decide
  simpa using classes (decide (x.kind = 11)) x.cls

section
variable {s : State} {q : QueueId} {word : BitVec 32} {p : PartId} (up : s.firmwareUp = true)
include up

/-- A producer doorbell that R156 names is dropped and counted. -/
theorem State.ring_producer_of_dropped (named : fld word.toNat 16 15 ≠ 0 ∨ p.toNat ≠ (s.queue q.toNat).part
      ∨ (s.queue q.toNat).state = .disabled ∨ (s.queue q.toNat).cls ≠ 0) :
    s.ring q.toNat (producerWord word.toNat) p.toNat = s.active.odInc 0x2300 9 1 := by
  obtain ⟨producer, field, -⟩ := producerWord_reads word.isLt
  refine (if_pos up).trans (if_pos ?_)
  rw [producer, field]
  simpa [or_assoc] using named

/-- So is a consumer doorbell. -/
theorem State.ring_consumer_of_dropped (named : fld word.toNat 16 15 ≠ 0 ∨ p.toNat ≠ (s.queue q.toNat).part
      ∨ (s.queue q.toNat).state = .disabled ∨ (s.queue q.toNat).cls = 1
      ∨ ((s.queue q.toNat).cls = 0 ∧ (s.queue q.toNat).kind ≠ 11)) :
    s.ring q.toNat (consumerWord word.toNat) p.toNat = s.active.odInc 0x2300 9 1 := by
  obtain ⟨consumer, field, -⟩ := consumerWord_reads word.isLt
  refine (if_pos up).trans (if_pos ?_)
  rw [consumer, field]
  simpa [or_assoc] using named

variable (reserved : fld word.toNat 16 15 = 0) (mine : (s.queue q.toNat).partition = p)
  (enabled : (s.queue q.toNat).state ≠ .disabled)
include reserved mine enabled

/-- A producer doorbell that is not dropped, by the slots it announces. -/
theorem State.ring_producer_of_heeded (command : (s.queue q.toNat).cls = 0) :
    s.ring q.toNat (producerWord word.toNat) p.toNat =
    if (s.queue q.toNat).credits.toNat < (s.queue q.toNat).slotsTo word.toNat (s.queue q.toNat).tail.toNat then
      s.active.faultQueue q.toNat 0x19
    else if (s.queue q.toNat).slotsTo word.toNat (s.queue q.toNat).tail.toNat = 0 then s.active
    else (s.active.putQueue q.toNat { s.queue q.toNat with
      tail := BitVec.ofNat 16 (word.toNat % 65536 % (s.queue q.toNat).depth)
      credits := BitVec.ofNat 17 ((s.queue q.toNat).credits.toNat
        - (s.queue q.toNat).slotsTo word.toNat (s.queue q.toNat).tail.toNat) }).creditWriteBack q.toNat := by
  obtain ⟨producer, field, index⟩ := producerWord_reads word.isLt
  refine (if_pos up).trans ?_
  unfold State.doorbell
  dsimp only
  rw [producer, field, index, State.active_queue, if_neg (by simp [reserved, ← mine, Queue.part, enabled, command])]
  rfl

/-- A consumer doorbell that is not dropped, by the slots it returns. -/
theorem State.ring_consumer_of_heeded (software : 2 ≤ (s.queue q.toNat).cls.toNat ∨ (s.queue q.toNat).soft = true) :
    s.ring q.toNat (consumerWord word.toNat) p.toNat =
    if (s.queue q.toNat).occupied < (s.queue q.toNat).slotsTo word.toNat (s.queue q.toNat).head.toNat then
      s.active.faultQueue q.toNat 0x19
    else if (s.queue q.toNat).slotsTo word.toNat (s.queue q.toNat).head.toNat = 0 then s.active
    else (s.active.putQueue q.toNat ((s.queue q.toNat).returned word.toNat)).creditWriteBack q.toNat := by
  obtain ⟨consumer, field, index⟩ := consumerWord_reads word.isLt
  have heeds := mt (s.queue q.toNat).hardwareEnd_iff.mp (not_not_intro software)
  refine (if_pos up).trans ?_
  unfold State.doorbell
  dsimp only
  rw [consumer, field, index, State.active_queue,
    if_neg (by simpa [reserved, ← mine, Queue.part, enabled] using heeds)]
  rfl

/-- A consumer doorbell that returns some slots, and not more than are occupied, moves the head and the credits. -/
theorem State.ring_consumer_of_within (software : 2 ≤ (s.queue q.toNat).cls.toNat ∨ (s.queue q.toNat).soft = true)
    (slots : (s.queue q.toNat).slotsTo word.toNat (s.queue q.toNat).head.toNat ≠ 0)
    (within : (s.queue q.toNat).slotsTo word.toNat (s.queue q.toNat).head.toNat ≤ (s.queue q.toNat).occupied) :
    s.ring q.toNat (consumerWord word.toNat) p.toNat =
      (s.active.putQueue q.toNat ((s.queue q.toNat).returned word.toNat)).creditWriteBack q.toNat :=
  (State.ring_consumer_of_heeded up reserved mine enabled software).trans
    ((if_neg (Nat.not_lt.mpr within)).trans (if_neg slots))

end

/-- Settles O19, clause by clause: within the credits, beyond them, beyond them in FAULT, and no slot at all. -/
theorem producerDoorbell : Obligations.ProducerDoorbell := by
  unfold Obligations.ProducerDoorbell
  refine ⟨fun s q word p up reserved mine command enabled slots within => ?_,
    fun s q word p up reserved mine command running beyond => ?_,
    fun s q word p up reserved mine command fault beyond => ?_,
    fun s q word p up reserved mine command enabled noSlot => ?_⟩
  all_goals refine congrArg Host.Outcome.next ?_
  · exact (State.ring_producer_of_heeded up reserved mine enabled command).trans
      ((if_neg (Nat.not_lt.mpr within)).trans (if_neg slots))
  · have enabled : (s.queue q.toNat).state ≠ .disabled := by rcases running with h | h <;> simp [h]
    refine (State.ring_producer_of_heeded up reserved mine enabled command).trans ((if_pos beyond).trans ?_)
    rw [State.faultQueue_of_enabled (by rwa [State.active_queue]) (by decide), State.active_queue,
      Nat.mod_eq_of_lt q.isLt]
    rfl
  · exact (State.ring_producer_of_heeded up reserved mine (by simp [fault]) command).trans
      ((if_pos beyond).trans (State.faultQueue_of_fault _ (by rwa [State.active_queue])))
  · have within : (s.queue q.toNat).slotsTo word.toNat (s.queue q.toNat).tail.toNat ≤ (s.queue q.toNat).credits.toNat :=
      Nat.le_trans (Nat.le_of_eq noSlot) (Nat.zero_le _)
    exact (State.ring_producer_of_heeded up reserved mine enabled command).trans
      ((if_neg (Nat.not_lt.mpr within)).trans (if_pos noSlot))

theorem Queue.returned_of_not_soft {x : Queue} (word : Nat) (hard : x.soft = false) : x.returned word = { x with
    head := BitVec.ofNat 16 (word % 65536 % x.depth)
    credits := BitVec.ofNat 17 (x.credits.toNat + x.slotsTo word x.head.toNat) } := by
  unfold Queue.returned
  rw [hard]
  exact if_neg (by rw [← hard]; exact Bool.eq_false_iff.mp hard)

theorem Queue.returned_of_soft {x : Queue} (word : Nat) (soft : x.soft = true) :
    (x.returned word).jobs = finishLead (x.returned word).lead.toNat x.jobs
      ∧ (x.returned word).lead = x.lead + x.slotsTo word x.head.toNat
      ∧ (x.returned word).head = BitVec.ofNat 16 (word % 65536 % x.depth) := by
  have returned : x.returned word = { x with
      head := BitVec.ofNat 16 (word % 65536 % x.depth)
      credits := BitVec.ofNat 17 (x.credits.toNat + x.slotsTo word x.head.toNat)
      lead := x.lead + x.slotsTo word x.head.toNat
      jobs := finishLead (x.lead + x.slotsTo word x.head.toNat).toNat x.jobs } := by
    unfold Queue.returned
    rw [soft]
    exact if_pos soft
  rw [returned]
  exact ⟨rfl, rfl, rfl⟩

/-- Where some slots are counted, nothing is borrowed: over the integers the count is the same. -/
theorem Queue.slotsTo_cast {x : Queue} {word pos : Nat} (slots : x.slotsTo word pos ≠ 0) :
    (x.slotsTo word pos : Int)
      = ((word : Int) % 65536 % (x.depth : Int) + (x.depth : Int) - (pos : Int)) % (x.depth : Int) := by
  have ahead : pos ≤ word % 65536 % x.depth + x.depth := Nat.le_of_not_le fun behind =>
    slots (by rw [Queue.slotsTo, Nat.sub_eq_zero_of_le behind, Nat.zero_mod])
  rw [Queue.slotsTo, Int.natCast_emod, Int.ofNat_sub ahead, Int.natCast_add, Int.natCast_emod, Int.natCast_emod]
  rfl

/-- Settles O20, clause by clause: slots returned, by a record's consumer and by application software, too many slots, and
the doorbells that are dropped. -/
theorem consumerDoorbellAndDrops : Obligations.ConsumerDoorbellAndDrops := by
  unfold Obligations.ConsumerDoorbellAndDrops
  refine ⟨fun s q word p up reserved mine record enabled slots within => congrArg Host.Outcome.next ?_,
    fun s q word p up reserved mine soft enabled slots within => ⟨_, rfl, ?_⟩,
    fun s q word p up reserved mine record running beyond => ⟨_, rfl, ?_⟩,
    fun s q word p up named => congrArg Host.Outcome.next (State.ring_producer_of_dropped up named),
    fun s q word p up named => congrArg Host.Outcome.next (State.ring_consumer_of_dropped up named)⟩
  · have hard : (s.queue q.toNat).soft = false := Bool.eq_false_iff.mpr fun soft => by
      simp [((s.queue q.toNat).soft_iff.mp soft).1] at record
    rw [State.ring_consumer_of_within up reserved mine enabled (.inl record) slots within, Queue.returned_of_not_soft _ hard]
    rfl
  · have own : (s.ring q.toNat (consumerWord word.toNat) p.toNat).stillQueue q.toNat
        = ((s.queue q.toNat).returned word.toNat).still := by
      rw [State.ring_consumer_of_within up reserved mine enabled (.inr soft) slots within,
        State.stillQueue_creditWriteBack, State.stillQueue, State.queue_putQueue_self]
    obtain ⟨finished, ahead, moved⟩ := Queue.returned_of_soft word.toNat soft
    refine ⟨?_, ?_, (head_of_stillQueue own).trans moved, State.ring_mask s _ _ _ (by decide)⟩
    · rw [jobs_of_stillQueue own, lead_of_stillQueue own]
      exact finished
    · exact (lead_of_stillQueue own).trans (ahead.trans (congrArg ((s.queue q.toNat).lead + ·) (Queue.slotsTo_cast slots)))
  · have enabled : (s.queue q.toNat).state ≠ .disabled := by simp [running]
    have own : (s.ring q.toNat (consumerWord word.toNat) p.toNat).stillQueue q.toNat
        = ((s.queue q.toNat).faulted 0x19).still := by
      rw [(State.ring_consumer_of_heeded up reserved mine enabled (.inl record)).trans (if_pos beyond),
        State.stillQueue_faultQueue, State.stillQueue_active, Queue.faulted_still]
      rfl
    rw [Queue.faulted_of_enabled _ (.inl running)] at own
    exact ⟨state_of_stillQueue own, faultCode_of_stillQueue own, (head_of_stillQueue own :),
      State.ring_mask s _ _ _ (by decide)⟩

end Sys2Proof.Machine
end

section
/-!
Completion (05 R152, R155, R158, R160, R168, R169), for O22: what the oldest job's completion is made of, and what it leaves
of its queue and of the semaphores.
-/
namespace Sys2Proof.Machine

set_option Elab.async false
open Sys2Proof

/-! ### The signal (R160) -/

/-- The signal of a job that ends: false where it would pass 65,535 (R160). An error does not signal. -/
def State.signalled (s : State) (j : Job) : Bool × State :=
  if j.status.toNat = 0 || j.status.toNat = 1 then s.signal (dSignal j.d) else (true, s)

/-- The status of the job's record. -/
def State.endStatus (s : State) (j : Job) : Nat := if (s.signalled j).1 then j.status.toNat else 0x13

theorem Job.succeeded_iff (j : Job) :
    (j.status.toNat = 0 || j.status.toNat = 1) = true ↔ j.status = 0 ∨ j.status = 1 := by
  simp [← BitVec.toNat_inj]

theorem State.signalled_of_silent {s : State} {j : Job} (silent : (j.status ≠ 0 ∧ j.status ≠ 1) ∨ dSignal j.d = 0) :
    s.signalled j = (true, s) := by
  unfold State.signalled
  rcases silent with ⟨h0, h1⟩ | noSignal
  · exact if_neg fun succeeded => (j.succeeded_iff.mp succeeded).elim h0 h1
  · split
    · exact if_pos (by simp [noSignal])
    · rfl

section
variable {s : State} {j : Job} (succeeded : j.status = 0 ∨ j.status = 1) (signals : dSignal j.d ≠ 0)
  (owned : (s.sem (dSignal j.d)).owner ≠ none)
include succeeded signals owned

theorem State.signalled_of_owned : s.signalled j =
    if (s.sem (dSignal j.d)).value = 0xFFFF then (false, s)
    else (true, s.putSem (dSignal j.d) { s.sem (dSignal j.d) with value := (s.sem (dSignal j.d)).value + 1 }) :=
  (if_pos (j.succeeded_iff.mpr succeeded)).trans (if_neg (by simp [signals, owned]))

end

/-- A signal writes no queue. -/
theorem State.signalled_queue (s : State) (j : Job) (k : Nat) : (s.signalled j).2.queue k = s.queue k := by
  unfold State.signalled State.signal
  split
  · split
    · rfl
    · split <;> rfl
  · rfl

/-! ### The oldest job's completion -/

/-- The context once its oldest job has left, with head and credit, and `rest` is left (R155). -/
def Queue.popped (x : Queue) (j : Job) (rest : List Job) : Queue :=
  let y := { x.freed with
    jobs := rest, doneSeq := j.seq
    state := if x.freed.closing && rest.isEmpty then .disabled else x.freed.state
    closing := x.freed.closing && !rest.isEmpty }
  { y with watched := y.watched && y.atWork }

/-- The record of a job that ends with status `st`, in the completion queue of queue q. -/
def State.recordJob (s : State) (q : Nat) (j : Job) (st : Nat) : State :=
  s.putRecord (s.queue q).link0.toNat j.pos
    (completionRecord s.now st j.flags.toNat (dSeq j.d) q j.detail.toNat)

/-- A completion is the signal, the record, the job's leaving, and what follows the record. -/
theorem State.completeFront_of_finished {s : State} {q : Nat} {j : Job} {rest : List Job}
    (front : (s.queue q).jobs = j :: rest) (finished : j.phase = .finished) :
    s.completeFront q = (((s.signalled j).2.recordJob q j (s.endStatus j)).popFront q j rest).completed q
      (s.queue q).link0.toNat (s.endStatus j) (s.queue q).coreOf := by
  unfold State.completeFront State.recordJob
  rw [s.signalled_queue]
  dsimp only
  rw [front]
  exact if_pos finished

/-- A job that is not finished does not leave. -/
theorem State.completeFront_of_unfinished {s : State} {q : Nat} {j : Job} {rest : List Job}
    (front : (s.queue q).jobs = j :: rest) (unfinished : j.phase ≠ .finished) : s.completeFront q = s := by
  unfold State.completeFront
  dsimp only
  rw [front]
  exact if_neg unfinished

/-- An oldest job that has its record, or waits for none, is completed as it stands. -/
theorem exec_descriptorComplete {s : State} {q : QueueId} {j : Job} {rest : List Job}
    (front : (s.queue q.toNat).jobs = j :: rest) (recorded : j.phase ≠ .waitRecord) :
    exec (.descriptorComplete q) s = .next ((s.completeFront q.toNat).account.testAfter q.toNat) := by
  have job : s.completeJob q.toNat = s.completeFront q.toNat := by
    unfold State.completeJob
    rw [front]
    exact if_neg (by simp [recorded])
  show Host.Outcome.next (((s.completeJob q.toNat).account).testAfter q.toNat) = _
  rw [job]

/-! ### What is left of the queue -/

theorem Queue.still_popped (x : Queue) (j : Job) (rest : List Job) :
    (x.popped j rest).still = (x.still.popped j rest).still := by
  unfold Queue.popped Queue.freed
  rw [show x.still.soft = x.soft from rfl]
  split <;> rfl

theorem Queue.popped_jobs (x : Queue) (j : Job) (rest : List Job) : (x.popped j rest).jobs = rest := rfl

theorem Queue.popped_doneSeq (x : Queue) (j : Job) (rest : List Job) : (x.popped j rest).doneSeq = j.seq := rfl

theorem Queue.popped_head {x : Queue} (j : Job) (rest : List Job) (hard : x.soft = false) :
    (x.popped j rest).head = BitVec.ofNat 16 ((x.head.toNat + 1) % x.depth) := by
  show x.freed.head = _
  unfold Queue.freed
  rw [hard]
  rfl

theorem Queue.popped_state {x : Queue} (j : Job) (rest : List Job) (stays : x.closing = false) :
    (x.popped j rest).state = x.state := by
  have kept : x.freed.closing = x.closing ∧ x.freed.state = x.state := by
    unfold Queue.freed
    split <;> exact ⟨rfl, rfl⟩
  show (if x.freed.closing && rest.isEmpty then QState.disabled else x.freed.state) = _
  rw [kept.1, stays, kept.2]
  rfl

theorem State.stillQueue_popFront (s : State) (q : Nat) (j : Job) (rest : List Job) :
    (s.popFront q j rest).stillQueue q = ((s.stillQueue q).popped j rest).still := by
  have unwatched (u : State) (x : Queue) : (u.unwatch x).stillQueue = u.stillQueue := stillQueue_ite rfl rfl
  refine Eq.trans ?_ ((s.queue q).still_popped j rest)
  unfold State.popFront
  dsimp only
  rw [unwatched, State.stillQueue_creditWriteBack, State.stillQueue, State.queue_putQueue_self]
  rfl

/-- What follows the record changes its queue by the fault alone, where the status is one. -/
theorem State.stillQueue_completed (s : State) (q cq st : Nat) (core : Option Nat) :
    (s.completed q cq st core).stillQueue q =
      if faultsQueue st then (s.stillQueue q).faulted st else s.stillQueue q := by
  have evented (u : State) (c : Prop) [Decidable c] (die n : Nat) :
      (if c then u.raise die n 0 else u).stillQueue = u.stillQueue := stillQueue_ite (u.stillQueue_raise _ _ _) rfl
  have reached : ∃ u : State, u.stillQueue = s.stillQueue
      ∧ s.completed q cq st core = if faultsQueue st then u.faultQueue q st else u := by
    refine ⟨_, (evented _ _ _ _).trans ?_, rfl⟩
    cases core with
    | none => rfl
    | some n => exact (State.stillQueue_bumpCore _ _ _ _).trans (s.stillQueue_bumpCore n 6 1)
  obtain ⟨u, same, completed⟩ := reached
  rw [completed]
  split
  · rw [State.stillQueue_faultQueue, same]
  · rw [same]

/-- The queue after a completion: its oldest job has left, and the fault has come where the status is one. -/
theorem State.stillQueue_completion {s : State} {q : Nat} {j : Job} {rest : List Job}
    (front : (s.queue q).jobs = j :: rest) (finished : j.phase = .finished) :
    ((s.completeFront q).account.testAfter q).stillQueue q = (if faultsQueue (s.endStatus j) then
      ((s.queue q).popped j rest).faulted (s.endStatus j) else (s.queue q).popped j rest).still := by
  have recorded : ((s.signalled j).2.recordJob q j (s.endStatus j)).stillQueue q = (s.queue q).still :=
    (congrFun (State.stillQueue_putRecord _ _ _ _) q).trans (congrArg Queue.still (s.signalled_queue j q))
  rw [State.stillQueue_testAfter, State.stillQueue_account, State.completeFront_of_finished front finished,
    State.stillQueue_completed, State.stillQueue_popFront, recorded, ← Queue.still_popped, ← Queue.faulted_still]
  exact (apply_ite Queue.still _ _ _).symm

/-! ### What is left of the semaphores -/

/-- After the signal, a completion writes no semaphore. -/
theorem State.completion_sems {s : State} {q : Nat} {j : Job} {rest : List Job}
    (front : (s.queue q).jobs = j :: rest) (finished : j.phase = .finished) :
    ((s.completeFront q).account.testAfter q).sems = (s.signalled j).2.sems := by
  rw [State.completeFront_of_finished front finished]
  exact keeps_sems (w := allBut .sems) ((State.testAfter_mask _ _ (by decide)).trans
    ((State.account_mask _ (by decide)).trans ((State.completed_mask _ _ _ _ _ (by decide)).trans
      ((State.popFront_mask _ _ _ _ (by decide)).trans (State.putRecord_mask _ _ _ _ (by decide))))))

/-- The fields that a completion may change. -/
theorem State.completion_only (s : State) (q : Nat) : Only [.free, .out, .cores, .queues, .sems, .dram, .upsets, .ecc,
    .migr, .migrQueue, .pageMaps, .tlb, .modMem, .parts, .park, .fw, .ev, .rel, .store, .od] s
    ((s.completeFront q).account.testAfter q) :=
  (State.testAfter_mask _ _ (by decide)).trans ((State.account_mask _ (by decide)).trans
    (State.completeFront_mask _ _ (by decide)))

/-- Settles O22, clause by clause: what an unsignalled completion is made of, what it leaves of its queue, a signal within
and one beyond 65,535, and a job that its engine still has. -/
theorem completion : Obligations.Completion := by
  unfold Obligations.Completion
  have recorded {j : Job} (finished : j.phase = .finished) : j.phase ≠ .waitRecord := by simp [finished]
  refine ⟨fun s q j rest front finished silent => ?_,
    fun s q j rest front finished hard => ⟨_, exec_descriptorComplete front (recorded finished), ?_⟩,
    fun s q j rest front finished succeeded signals owned room =>
      ⟨_, exec_descriptorComplete front (recorded finished), ?_⟩,
    fun s q j rest front finished succeeded signals owned full active stays =>
      ⟨_, exec_descriptorComplete front (recorded finished), ?_⟩,
    fun s q j rest front handed => ⟨_, exec_descriptorComplete front (by simp [handed]), ?_⟩⟩
  · rw [exec_descriptorComplete front (recorded finished), State.completeFront_of_finished front finished,
      State.endStatus, State.signalled_of_silent silent]
    rfl
  · have left := State.stillQueue_completion front finished
    refine ⟨(jobs_of_stillQueue left).trans ?_, (doneSeq_of_stillQueue left).trans ?_, (head_of_stillQueue left).trans ?_,
      s.completion_only q.toNat⟩
    · split <;> simp [Queue.popped_jobs]
    · split <;> simp [Queue.popped_doneSeq]
    · split <;> simp [Queue.popped_head j rest hard]
  · have signal := (State.signalled_of_owned succeeded signals owned).trans (if_neg room)
    have sems := State.completion_sems front finished
    rw [signal] at sems
    refine ⟨?_, fun m other => ?_, s.completion_only q.toNat⟩ <;> unfold State.sem <;> rw [sems]
    · exact congrArg Sem.value (s.sem_putSem_self _ _)
    · exact s.sem_putSem_other _ other.symm
  · have signal := (State.signalled_of_owned succeeded signals owned).trans (if_pos full)
    have status : s.endStatus j = 0x13 := if_neg (by simp [signal])
    have sems := State.completion_sems front finished
    have left := State.stillQueue_completion front finished
    have runs : ((s.queue q.toNat).popped j rest).state = .active := (Queue.popped_state j rest stays).trans active
    rw [status, if_pos (by decide), Queue.faulted_of_enabled _ (.inl runs)] at left
    exact ⟨sems.trans (by rw [signal]), state_of_stillQueue left, faultCode_of_stillQueue left, s.completion_only q.toNat⟩
  · rw [State.completeFront_of_unfinished front (by simp [handed])]
    have left : (s.account.testAfter q.toNat).stillQueue q.toNat = (s.queue q.toNat).still := by
      rw [State.stillQueue_testAfter, State.stillQueue_account]
      rfl
    exact (jobs_of_stillQueue left).trans front

end Sys2Proof.Machine
end

section
/-!
The control commands (05 R149, R167, R170, R171), for O24: each acts where R170 says, and is rejected elsewhere.
-/
namespace Sys2Proof.Machine

set_option Elab.async false
open Sys2Proof

/-- A control command that its queue accepts answers no code. -/
theorem State.control_of_accepted {r : Nat × State} {u : State} (h : r = (0, u)) : State.control r = u := by
  rw [h]
  rfl

/-- A control command that its queue rejects answers its code. -/
theorem State.control_of_rejected {r : Nat × State} {s : State} {c : Nat} (h : r = (c, s)) (code : c ≠ 0) :
    State.control r = s.emit (.code c) := by
  rw [h]
  exact if_neg code

/-- ENABLE takes no context with a depth outside 2–16 or a reserved timeout code (R149, R167). -/
theorem State.contextOk_bounds {s : State} {q : Nat} (ok : s.contextOk q = true) :
    2 ≤ (s.queue q).depthLog2.toNat ∧ (s.queue q).depthLog2.toNat ≤ 16 ∧ (s.queue q).timeout.toNat < 8 := by
  unfold State.contextOk at ok
  simp only [Bool.and_eq_true, decide_eq_true_eq, and_assoc] at ok
  obtain ⟨least, most, timeout, -⟩ := ok
  exact ⟨least, most, timeout⟩

/-- No descriptor is held where none of the jobs is. -/
theorem State.handHeld_of_none_held {s : State} {q : Nat} (free : (s.queue q).jobs.all (fun j => j.phase ≠ .held) = true) :
    s.handHeld q = s := by
  unfold State.handHeld
  split
  · rename_i j last
    have held : j.phase ≠ .held := of_decide_eq_true (List.all_eq_true.mp free j (List.mem_of_getLast? last))
    exact if_neg held
  · rfl

section
variable {s : State} {q : Nat}

theorem State.enableQueue_of_legal (disabled : (s.queue q).state = .disabled) (legal : s.contextOk q = true) :
    s.enableQueue q = (0, (s.putQueue q { s.queue q with
      head := 0, tail := 0, fetch := 0, credits := BitVec.ofNat 17 (s.queue q).depth, doneSeq := (s.queue q).nextSeq - 1,
      faultCode := 0, jobs := [], reserved := 0, overflow := false, closing := false, lead := 0, watched := false
      state := .active }).creditWriteBack q) :=
  (if_neg (not_not_intro disabled)).trans (if_pos legal)

theorem State.enableQueue_of_illegal (disabled : (s.queue q).state = .disabled) (illegal : s.contextOk q = false) :
    s.enableQueue q = (0x1C, s) :=
  (if_neg (not_not_intro disabled)).trans (if_neg (by simp [illegal]))

theorem State.enableQueue_of_enabled (enabled : (s.queue q).state ≠ .disabled) : s.enableQueue q = (0x1D, s) :=
  if_pos enabled

theorem State.pauseQueue_of_active (active : (s.queue q).state = .active) :
    s.pauseQueue q = (0, s.putQueue q { s.queue q with state := .paused }) :=
  if_pos active

theorem State.pauseQueue_of_other (other : (s.queue q).state ≠ .active) : s.pauseQueue q = (0x1D, s) := if_neg other

theorem State.resumeQueue_of_ready (paused : (s.queue q).state = .paused) (takes : s.coreBlocks (s.queue q) = false)
    (stays : (s.queue q).closing = false) (free : (s.queue q).jobs.all (fun j => j.phase ≠ .held) = true) :
    s.resumeQueue q = (0, s.putQueue q { s.queue q with state := .active }) := by
  refine (if_pos (by simp [paused, takes, stays])).trans (congrArg (Prod.mk 0) (State.handHeld_of_none_held ?_))
  rw [State.queue_putQueue_self]
  exact free

theorem State.resumeQueue_of_other (other : (s.queue q).state ≠ .paused ∨ s.coreBlocks (s.queue q) = true
    ∨ (s.queue q).closing = true) : s.resumeQueue q = (0x1D, s) :=
  if_neg (by rcases other with h | h | h <;> simp [h])

theorem State.restartQueue_of_ready (arg : Option (BitVec 32)) (fault : (s.queue q).state = .fault)
    (takes : s.coreBlocks (s.queue q) = false) (stays : (s.queue q).closing = false)
    (free : (s.queue q).jobs.all (fun j => j.phase ≠ .held) = true) : s.restartQueue q arg = (0, s.putQueue q
      { s.queue q with state := .active, faultCode := 0, nextSeq := arg.getD (s.queue q).nextSeq }) := by
  refine (if_pos (by simp [fault, takes, stays])).trans (congrArg (Prod.mk 0) (State.handHeld_of_none_held ?_))
  rw [State.queue_putQueue_self]
  exact free

theorem State.restartQueue_of_other (arg : Option (BitVec 32)) (other : (s.queue q).state ≠ .fault
    ∨ s.coreBlocks (s.queue q) = true ∨ (s.queue q).closing = true) : s.restartQueue q arg = (0x1D, s) :=
  if_neg (by rcases other with h | h | h <;> simp [h])

theorem State.flush_of_stopped (stopped : (s.queue q).state = .paused ∨ (s.queue q).state = .fault) :
    s.flush q = (0, if (s.queue q).cls = 0 then s.flushQueue q 0x10 false
      else (s.putQueue q (s.queue q).emptied).creditWriteBack q) :=
  if_pos (by simpa using stopped)

theorem State.flush_of_other (other : (s.queue q).state = .active ∨ (s.queue q).state = .disabled) :
    s.flush q = (0x1D, s) :=
  if_neg (by rcases other with h | h <;> simp [h])

theorem State.disableQueue_of_other (other : (s.queue q).state = .active ∨ (s.queue q).state = .disabled) :
    s.disableQueue q = (0x1D, s) := by
  unfold State.disableQueue
  rw [State.flush_of_other other]
  rfl

/-- A DISABLE whose flush leaves no descriptor is complete (R170). -/
theorem State.disableQueue_of_flushed {u : State} (flushed : s.flush q = (0, u)) (empty : (u.queue q).jobs = []) :
    s.disableQueue q = (0, u.putQueue q { u.queue q with state := .disabled }) := by
  unfold State.disableQueue State.updQueue
  rw [flushed]
  exact congrArg (fun x => (0, u.putQueue q x)) (if_pos (by rw [empty]; rfl))

end

/-- The flush of a data or record queue empties it and leaves every other queue, but for what records move. -/
theorem State.stillQueue_emptied (s : State) (q : Nat) :
    ((s.putQueue q (s.queue q).emptied).creditWriteBack q).stillQueue q = (s.queue q).emptied.still
      ∧ ∀ k, k ≠ q → ((s.putQueue q (s.queue q).emptied).creditWriteBack q).stillQueue k = (s.queue k).still := by
  rw [State.stillQueue_creditWriteBack]
  exact ⟨congrArg Queue.still (s.queue_putQueue_self q _),
    fun k other => congrArg Queue.still (s.queue_putQueue_other _ other.symm)⟩

/-- DISABLE of a record or data queue without descriptors empties it and is complete at once; of the other queues it
keeps the state and the descriptors. -/
theorem gives_disable_of_record {s : State} {q : QueueId}
    (stopped : (s.queue q.toNat).state = .paused ∨ (s.queue q.toNat).state = .fault) (record : (s.queue q.toNat).cls ≠ 0)
    (empty : (s.queue q.toNat).jobs = []) :
    Gives (.disable q) s (fun t => (t.queue q.toNat).state = .disabled ∧ (t.queue q.toNat).head = (s.queue q.toNat).tail
      ∧ (∀ k : Nat, k ≠ q.toNat → (t.queue k).state = (s.queue k).state ∧ (t.queue k).jobs = (s.queue k).jobs)
      ∧ Only [.free, .out, .queues, .sems, .semWait, .dram, .upsets, .ecc, .tlb, .modMem, .park, .fw, .ev, .rel, .store,
          .od] s t) := by
  obtain ⟨own, others⟩ := s.stillQueue_emptied q.toNat
  have disabled := State.disableQueue_of_flushed ((State.flush_of_stopped stopped).trans (congrArg _ (if_neg record)))
    ((jobs_of_stillQueue own).trans empty)
  have frame := State.disableQueue_mask s q.toNat (m0 := maskOf [.free, .out, .queues, .sems, .semWait, .dram, .upsets,
    .ecc, .tlb, .modMem, .park, .fw, .ev, .rel, .store, .od]) (by decide)
  rw [disabled] at frame
  refine ⟨_, congrArg Host.Outcome.next (State.control_of_accepted disabled), ?_, ?_, fun k other => ?_, frame⟩
  · exact congrArg Queue.state (State.queue_putQueue_self _ _ _)
  · exact (congrArg Queue.head (State.queue_putQueue_self _ _ _)).trans (head_of_stillQueue own)
  · rw [State.queue_putQueue_other _ _ other.symm]
    exact ⟨state_of_stillQueue (others k other), jobs_of_stillQueue (others k other)⟩

/-- Settles O24, command by command and state by state: ENABLE, PAUSE, RESUME, RESTART, FLUSH and DISABLE. -/
theorem queueControl : Obligations.QueueControl := by
  unfold Obligations.QueueControl
  have accepts {r : Nat × State} {u : State} (h : r = (0, u)) :=
    congrArg (Host.Outcome.next (φ := Fault) (ρ := Refusal)) (State.control_of_accepted h)
  have rejects {r : Nat × State} {s : State} {c : Nat} (h : r = (c, s)) (code : c ≠ 0) :=
    congrArg (Host.Outcome.next (φ := Fault) (ρ := Refusal)) (State.control_of_rejected h code)
  exact ⟨fun s q disabled legal => accepts (State.enableQueue_of_legal disabled legal),
    fun s q disabled illegal => rejects (State.enableQueue_of_illegal disabled illegal) (by decide),
    fun s q outside => Bool.eq_false_iff.mpr fun ok => by
      obtain ⟨least, most, timeout⟩ := State.contextOk_bounds ok
      omega,
    fun s q enabled => rejects (State.enableQueue_of_enabled enabled) (by decide),
    fun s q active => accepts (State.pauseQueue_of_active active),
    fun s q other => rejects (State.pauseQueue_of_other other) (by decide),
    fun s q paused takes stays free => accepts (State.resumeQueue_of_ready paused takes stays free),
    fun s q other => rejects (State.resumeQueue_of_other other) (by decide),
    fun s q arg fault takes stays free => accepts (State.restartQueue_of_ready arg fault takes stays free),
    fun s q arg other => rejects (State.restartQueue_of_other arg other) (by decide),
    fun s q stopped record => accepts ((State.flush_of_stopped stopped).trans (congrArg _ (if_neg record))),
    fun s q stopped command => accepts ((State.flush_of_stopped stopped).trans (congrArg _ (if_pos command))),
    fun s q other => ⟨rejects (State.flush_of_other other) (by decide),
      rejects (State.disableQueue_of_other other) (by decide)⟩,
    fun s q stopped record empty => gives_disable_of_record stopped record empty⟩

end Sys2Proof.Machine
end

section
/-!
The upkeep of the KV entries (08 R257, R258, R259, R264, R271), for O31: invalidation, the wait for a page, the sweep and
the scan.
-/
namespace Sys2Proof.Machine

open Sys2Proof

/-! ### Invalidation (R258) and the wait for a page (R264) -/

/-- An entry that a waiting ATTN has translated is not invalidated. -/
theorem State.kvInvalidate_of_held {s : State} {key q : Nat} {j : Job} (waits : q ∈ s.kvWaiters)
    (job : (s.queue q).jobIn .waitKv = some j) (translated : j.pages.contains key = true) : s.kvInvalidate key = s := by
  refine if_pos (Bool.or_eq_true_iff.mpr (.inr (List.any_eq_true.mpr ⟨q, waits, ?_⟩)))
  rw [job]
  exact translated

/-- Where no ATTN waits, nothing holds an entry and nothing looks again. -/
theorem State.kvInvalidate_of_no_waiters {s : State} (key : Nat) (awake : s.asleep = false) (unwatched : s.kvWaiters = []) :
    s.kvInvalidate key = (s.setKvTlb (s.kvTlb.del key)).setKvDirty (s.kvDirty.filter (· ≠ key)) := by
  have still : ((s.setKvTlb (s.kvTlb.del key)).setKvDirty (s.kvDirty.filter (· ≠ key))).kvWaiters = [] := unwatched
  unfold State.kvInvalidate
  dsimp only
  rw [still, unwatched, awake]
  rfl

theorem State.kvExpire_of_late {s : State} {q : Nat} {j : Job} (job : (s.queue q).jobIn .waitKv = some j)
    (late : j.since + limitOf (s.odGet 0x2260 3) ≤ s.now) :
    s.kvExpire q = ((s.finish q .waitKv 0x94 0 (detailOf j.prog)).unlend q).odInc 0x2260 9 1 := by
  unfold State.kvExpire
  simp only [job, if_pos late]

theorem State.kvExpire_of_early {s : State} {q : Nat} {j : Job} (job : (s.queue q).jobIn .waitKv = some j)
    (early : s.now < j.since + limitOf (s.odGet 0x2260 3)) : s.kvExpire q = s := by
  unfold State.kvExpire
  simp only [job, if_neg (Nat.not_le_of_lt early)]

/-! ### The sweep (R259) -/

/-- Writing a field keeps the bits below it and those above it. -/
theorem setFld_eq (v lo w x : Nat) :
    setFld v lo w x = v % 2 ^ lo + 2 ^ lo * (2 ^ w * (v / 2 ^ lo / 2 ^ w) + x % 2 ^ w) := by
  have bits : v = v % 2 ^ lo + 2 ^ lo * (v / 2 ^ lo % 2 ^ w) + 2 ^ lo * (2 ^ w * (v / 2 ^ lo / 2 ^ w)) := by
    rw [Nat.add_assoc, ← Nat.mul_add, Nat.mod_add_div, Nat.mod_add_div]
  unfold setFld fld
  rw [Nat.shiftRight_eq_div_pow, Nat.mul_comm _ (2 ^ lo), Nat.mul_comm _ (2 ^ lo), Nat.mul_add]
  omega

/-- A field that was just written reads as the low bits of what was written. -/
theorem fld_setFld_self (v lo w x : Nat) : fld (setFld v lo w x) lo w = x % 2 ^ w := by
  rw [fld, setFld_eq, Nat.shiftRight_eq_div_pow, Nat.add_mul_div_left _ _ (Nat.two_pow_pos lo),
    Nat.div_eq_of_lt (Nat.mod_lt v (Nat.two_pow_pos lo)), Nat.zero_add, Nat.mul_add_mod, Nat.mod_mod]

/-- An entry as a sweep leaves it: its last_use is the present less 0xFC00. -/
def kvSwept (now e : Nat) : Nat := setFld e 69 16 (now + 65536 - 0xFC00)

theorem kvAge_kvSwept {now : Nat} (e : Nat) (inField : now < 65536) : kvAge now (kvSwept now e) = 0xFC00 := by
  unfold kvAge kvLastUse kvSwept
  rw [fld_setFld_self]
  omega

theorem State.kvNow_lt (s : State) : s.kvNow < 65536 := Nat.mod_lt _ (by decide)

@[simp] theorem State.kvUpdate_kvMaps (s : State) (k : Nat) (f : Nat → Nat) :
    (s.kvUpdate k f).kvMaps = s.kvMaps.put k (f (s.kvMaps.getD k 0)) := by
  unfold State.kvUpdate
  dsimp only
  split <;> rfl

section
variable {xs : List Nat} {k : Nat}

/-- Updates of entries leave every entry that they do not name. -/
theorem State.foldl_kvUpdate_getD_of_not_mem (f : Nat → Nat) (s : State) (other : k ∉ xs) :
    (xs.foldl (fun u k => u.kvUpdate k f) s).kvMaps.getD k 0 = s.kvMaps.getD k 0 := by
  induction xs generalizing s with
  | nil => rfl
  | cons x xs ih =>
    have first : k ≠ x := List.ne_of_not_mem_cons other
    have rest : k ∉ xs := List.not_mem_of_not_mem_cons other
    rw [List.foldl_cons, ih _ rest, State.kvUpdate_kvMaps, AMap.getD_put_other _ _ _ first.symm]

/-- An entry that updates name, once or more often, ends as the update of some entry. -/
theorem State.foldl_kvUpdate_getD_of_mem (f : Nat → Nat) (s : State) (named : k ∈ xs) :
    ∃ e, (xs.foldl (fun u k => u.kvUpdate k f) s).kvMaps.getD k 0 = f e := by
  induction xs generalizing s with
  | nil => exact absurd named List.not_mem_nil
  | cons x xs ih =>
    rw [List.foldl_cons]
    by_cases again : k ∈ xs
    · exact ih _ again
    · obtain rfl : k = x := (List.mem_cons.mp named).resolve_right again
      refine ⟨s.kvMaps.getD k 0, ?_⟩
      rw [State.foldl_kvUpdate_getD_of_not_mem _ _ again, State.kvUpdate_kvMaps, AMap.getD_put_self]

end

/-- The numbers of the entries that a sweep of a die's map brings back to the age 0xFC00. -/
def State.agedKeys (s : State) (die : Nat) : List Nat :=
  (s.kvMaps.only (fun k e => decide (k / 2 ^ 19 = die) && kvValid e && decide (0xFC00 ≤ kvAge s.kvNow e))).map (·.1)

theorem State.kvSweep_of_awake {s : State} (die : Nat) (awake : s.asleep = false) :
    s.kvSweep die = (s.agedKeys die).foldl (fun u k => u.kvUpdate k (kvSwept s.kvNow)) s := by
  unfold State.kvSweep State.agedKeys kvSwept
  rw [if_neg (by simp [awake])]

theorem State.kvSweep_age_of_aged {s : State} {die k : Nat} (awake : s.asleep = false) (aged : k ∈ s.agedKeys die) :
    kvAge s.kvNow ((s.kvSweep die).kvMaps.getD k 0) = 0xFC00 := by
  rw [State.kvSweep_of_awake die awake]
  obtain ⟨e, written⟩ := State.foldl_kvUpdate_getD_of_mem (kvSwept s.kvNow) s aged
  rw [written]
  exact kvAge_kvSwept e s.kvNow_lt

theorem State.kvSweep_getD_of_not_aged {s : State} {die k : Nat} (awake : s.asleep = false) (young : k ∉ s.agedKeys die) :
    (s.kvSweep die).kvMaps.getD k 0 = s.kvMaps.getD k 0 := by
  rw [State.kvSweep_of_awake die awake]
  exact State.foldl_kvUpdate_getD_of_not_mem (kvSwept s.kvNow) s young

/-! ### The scan (R271) -/

theorem State.kvScan_of_awake {s : State} (r : KvScanReq) (awake : s.asleep = false) :
    s.kvScan r = (s.pwrite r.die.toNat r.part.toNat r.buf.toNat
      (clean ((s.kvOldest r.die.toNat r.part.toNat r.which.toNat).flatMap (leBytes 4)))).2 :=
  if_neg (by simp [awake])

theorem State.kvOldest_length_le (s : State) (die p which : Nat) : (s.kvOldest die p which).length ≤ 1024 := by
  unfold State.kvOldest
  rw [List.length_map]
  exact List.length_take_le _ _

/-- Settles O31: what each of the four commands leaves, from the lemma about its own function; of the sweep, that the
updates it folds reach exactly the aged entries. -/
theorem kvMaintenance : Obligations.KvMaintenance := by
  unfold Obligations.KvMaintenance
  have answers {s t : State} (h : s = t) := congrArg (Host.Outcome.next (φ := Fault) (ρ := Refusal)) h
  exact ⟨fun s die ix awake unwatched => answers (State.kvInvalidate_of_no_waiters _ awake unwatched),
    fun s die ix q j waits job translated => answers (State.kvInvalidate_of_held waits job translated),
    fun s q j job late => answers (State.kvExpire_of_late job late),
    fun s q j job early => answers (State.kvExpire_of_early job early),
    fun s die awake => ⟨s.kvSweep die.toNat, rfl, fun k aged => State.kvSweep_age_of_aged awake aged,
      fun k young => State.kvSweep_getD_of_not_aged awake young, s.kvSweep_mask die.toNat (by decide)⟩,
    fun s r awake => answers (State.kvScan_of_awake r awake),
    fun s die p which => s.kvOldest_length_le die p which⟩

end Sys2Proof.Machine
end

section
/-!
SESSION (09 R283–R285, R297, R577), for O32: what OPEN, UPDATE and CLOSE do with the context that the descriptor names, and
how a row of the sampler comes to them.
-/
namespace Sys2Proof

/-- What was put into a map is listed there. -/
theorem AMap.mem_put_self {α : Type} (m : AMap α) (i : Nat) (x : α) : (i, x) ∈ m.put i x := by
  induction m with
  | nil => exact List.mem_singleton_self _
  | cons entry m ih =>
    unfold AMap.put
    split
    · exact List.mem_cons_self
    · split
      · exact List.mem_cons_self
      · exact List.mem_cons_of_mem _ ih

end Sys2Proof

namespace Sys2Proof.Machine

set_option Elab.async false
open Sys2Proof

/-! ### The context that a descriptor gives (R283, R285) -/

/-- A register of a field's own width holds the whole field. -/
theorem toNat_ofNat_fld (v lo w : Nat) : (BitVec.ofNat w (fld v lo w)).toNat = fld v lo w :=
  (BitVec.toNat_ofNat _ _).trans (Nat.mod_mod _ _)

theorem sessionAfter_seed_step_of_reseed (old : Session) (d p gstate : Nat) {reseed : Bool} (h : reseed = true) :
    (sessionAfter old d p reseed gstate).seed.toNat = sdSeed d
      ∧ (sessionAfter old d p reseed gstate).step.toNat = sdStep d := by
  subst h
  exact ⟨toNat_ofNat_fld d 448 64, toNat_ofNat_fld d 416 32⟩

theorem sessionAfter_seed_step_of_kept (old : Session) (d p gstate : Nat) {reseed : Bool} (h : reseed = false) :
    (sessionAfter old d p reseed gstate).seed = old.seed ∧ (sessionAfter old d p reseed gstate).step = old.step := by
  subst h
  exact ⟨rfl, rfl⟩

/-- A temperature or a top_p out of its range fails the checks before any other (R285). -/
theorem State.sessionCheck_of_range (s : State) (die p : Nat) {x : Session}
    (range : 0x7F800000 ≤ x.temperature.toNat ∨ x.topP = 0 ∨ 0x3F800000 < x.topP.toNat) : s.sessionCheck die p x = 0xA4 := by
  have fails : (!tempOk x.temperature.toNat || !topPOk x.topP.toNat) = true := by
    unfold tempOk topPOk
    rcases range with hot | none | high
    · simp [Nat.not_lt_of_le hot]
    · simp [none]
    · simp [Nat.not_le_of_lt high]
  exact if_pos (Bool.or_eq_true_iff.mpr (.inl fails))

/-! ### What the completion and the module state leave of the sessions -/

@[simp] theorem State.serveDone_sess (s : State) (q code flags detail : Nat) :
    (s.serveDone q code flags detail).sess = s.sess :=
  keeps_sess (w := allBut .sess) (State.serveDone_mask _ _ _ _ _ (by decide))

@[simp] theorem State.serveDone_session (s : State) (q code flags detail n : Nat) :
    (s.serveDone q code flags detail).session n = s.session n :=
  congrArg (·.getD n {}) (s.serveDone_sess q code flags detail)

@[simp] theorem State.serveDone_mode (s : State) (q code flags detail : Nat) :
    (s.serveDone q code flags detail).mode = s.mode :=
  keeps_mode (w := allBut .mode) (State.serveDone_mask _ _ _ _ _ (by decide))

@[simp] theorem State.follow_sess (s : State) : s.follow.sess = s.sess :=
  keeps_sess (w := allBut .sess) (State.follow_mask _ (by decide))

@[simp] theorem State.follow_session (s : State) (n : Nat) : s.follow.session n = s.session n :=
  congrArg (·.getD n {}) s.follow_sess

/-- While a session is open, READY becomes SERVING and every other state stays (R11). -/
theorem State.follow_mode_of_active {s : State} (active : s.anyActive = true) :
    s.follow.mode = if s.mode = .ready then .serving else s.mode := by
  unfold State.follow
  rw [active]
  cases mode : s.mode <;> simp [mode]

theorem State.anyActive_of_open {s : State} {n : Nat} {x : Session} (listed : (n, x) ∈ s.sess) (opened : x.isOpen = true) :
    s.anyActive = true :=
  Bool.or_eq_true_iff.mpr (.inl (List.any_eq_true.mpr ⟨(n, x), listed, opened⟩))

/-! ### OPEN, UPDATE and CLOSE (R284, R577) -/

section
variable {s : State} {p d : Nat} (q die : Nat)

theorem State.sessionOpen_of_foreign (opened : (s.session (sdSession d)).isOpen = true)
    (foreign : (s.session (sdSession d)).partition.toNat ≠ p) : s.sessionOpen q die p d = s.serveDone q 0xA2 0 0 :=
  if_pos (by simp [opened, foreign])

theorem State.sessionUpdate_of_foreign (opened : (s.session (sdSession d)).isOpen = true)
    (foreign : (s.session (sdSession d)).partition.toNat ≠ p) : s.sessionUpdate q die p d = s.serveDone q 0xA2 0 0 :=
  if_pos (by simp [opened, foreign])

theorem State.sessionClose_of_foreign (opened : (s.session (sdSession d)).isOpen = true)
    (foreign : (s.session (sdSession d)).partition.toNat ≠ p) : s.sessionClose q p d = s.serveDone q 0xA2 0 0 :=
  if_pos (by simp [opened, foreign])

theorem State.sessionUpdate_of_closed (closed : (s.session (sdSession d)).isOpen = false) :
    s.sessionUpdate q die p d = s.serveDone q 0xA3 0 0 :=
  (if_neg (by simp [closed])).trans (if_pos (by simp [closed]))

theorem State.sessionClose_of_closed (closed : (s.session (sdSession d)).isOpen = false) :
    s.sessionClose q p d = s.serveDone q 0xA3 0 0 :=
  (if_neg (by simp [closed])).trans (if_pos (by simp [closed]))

theorem Session.isOf_iff {x : Session} : x.isOf p = true ↔ x.isOpen = true ∧ x.partition.toNat = p := by
  simp [Session.isOf]

/-- The context of an OPEN. -/
def openedBy (d p : Nat) : Session := sessionAfter {} d p true (if sdGset d then sdGstate d else 0)

/-- The context that an UPDATE leaves of `x`: the grammar state stays only under the same grammar. -/
def updatedBy (x : Session) (d p : Nat) : Session :=
  sessionAfter x d p (sdReseed d)
    (if sdGset d then sdGstate d else if sdGrammar d = x.grammar.toNat then x.gstate.toNat else 0)

theorem State.sessionOpen_of_checked (closed : (s.session (sdSession d)).isOpen = false)
    (inRange : (s.part p).hasSession (sdSession d) = true) (passes : s.sessionCheck die p (openedBy d p) = 0) :
    s.sessionOpen q die p d = ((s.putSession (sdSession d) (openedBy d p)).serveDone q 0 0 0).follow :=
  calc s.sessionOpen q die p d
    _ = _ := if_neg (by simp [closed, inRange])
    _ = _ := if_neg (by simp [closed])
    _ = _ := if_neg (not_not_intro passes)

/-- A checked OPEN writes its context and no other. -/
theorem State.sessionOpen_session (closed : (s.session (sdSession d)).isOpen = false)
    (inRange : (s.part p).hasSession (sdSession d) = true) (passes : s.sessionCheck die p (openedBy d p) = 0) (n : Nat) :
    (s.sessionOpen q die p d).session n = if sdSession d = n then openedBy d p else s.session n := by
  rw [State.sessionOpen_of_checked q die closed inRange passes, State.follow_session, State.serveDone_session,
    State.session_putSession]

theorem State.sessionOpen_mode (closed : (s.session (sdSession d)).isOpen = false)
    (inRange : (s.part p).hasSession (sdSession d) = true) (passes : s.sessionCheck die p (openedBy d p) = 0) :
    (s.sessionOpen q die p d).mode = if s.mode = .ready then .serving else s.mode := by
  have listed : (sdSession d, openedBy d p) ∈ ((s.putSession (sdSession d) (openedBy d p)).serveDone q 0 0 0).sess := by
    rw [State.serveDone_sess]
    exact AMap.mem_put_self _ _ _
  rw [State.sessionOpen_of_checked q die closed inRange passes,
    State.follow_mode_of_active (State.anyActive_of_open listed rfl), State.serveDone_mode]
  rfl

theorem State.sessionUpdate_of_checked (own : (s.session (sdSession d)).isOf p = true)
    (passes : s.sessionCheck die p (updatedBy (s.session (sdSession d)) d p) = 0) :
    s.sessionUpdate q die p d
      = (s.putSession (sdSession d) (updatedBy (s.session (sdSession d)) d p)).serveDone q 0 0 0 := by
  obtain ⟨opened, ours⟩ := Session.isOf_iff.mp own
  calc s.sessionUpdate q die p d
    _ = _ := if_neg (by simp [ours])
    _ = _ := if_neg (by simp [opened])
    _ = _ := if_neg (not_not_intro passes)

/-- A checked UPDATE writes its context and no other. -/
theorem State.sessionUpdate_session (own : (s.session (sdSession d)).isOf p = true)
    (passes : s.sessionCheck die p (updatedBy (s.session (sdSession d)) d p) = 0) (n : Nat) :
    (s.sessionUpdate q die p d).session n
      = if sdSession d = n then updatedBy (s.session (sdSession d)) d p else s.session n := by
  rw [State.sessionUpdate_of_checked q die own passes, State.serveDone_session, State.session_putSession]

theorem State.sessionClose_of_own (own : (s.session (sdSession d)).isOf p = true) :
    s.sessionClose q p d = ((s.setSess (s.sess.del (sdSession d))).serveDone q 0 0 0).follow := by
  obtain ⟨opened, ours⟩ := Session.isOf_iff.mp own
  exact (if_neg (by simp [ours])).trans (if_neg (by simp [opened]))

end

/-! ### The rows of the sampler (R297) -/

section
variable {s : State} {q : QueueId} {d : Nat} (up : s.samplerUp (dieOfQueue q.toNat) = true)
  (front : s.atEngine q.toNat 5 = some d) (opcode : dOpcode d = 0x41)
include up front opcode

theorem State.samplerCommand_of_reserved (reserved : sdReserved d = true) {mine : Nat → Bool} (own : mine d = true)
    (f : State → Nat → Nat → Nat → Nat → State) : s.samplerCommand q.toNat mine f = s.serveDone q.toNat 0xA0 0 0 := by
  unfold State.samplerCommand
  simp only [front, up, own, opcode, reserved]
  rfl

theorem State.samplerCommand_of_valid (valid : sdReserved d = false) {mine : Nat → Bool} (own : mine d = true)
    (f : State → Nat → Nat → Nat → Nat → State) :
    s.samplerCommand q.toNat mine f = f s q.toNat (dieOfQueue q.toNat) (s.queue q.toNat).part d := by
  unfold State.samplerCommand
  simp only [front, up, own, opcode, valid]
  rfl

theorem exec_session_of_reserved (reserved : sdReserved d = true) :
    (sdOp d = 0 → exec (.sessionOpen q) s = .next (s.serveDone q.toNat 0xA0 0 0))
    ∧ (sdOp d = 1 → exec (.sessionUpdate q) s = .next (s.serveDone q.toNat 0xA0 0 0))
    ∧ (sdOp d = 2 → exec (.sessionClose q) s = .next (s.serveDone q.toNat 0xA0 0 0)) := by
  refine ⟨fun op => ?_, fun op => ?_, fun op => ?_⟩ <;>
    exact congrArg Host.Outcome.next
      (State.samplerCommand_of_reserved up front opcode reserved (by simp [opcode, op]) _)

section
variable (valid : sdReserved d = false)
include valid

theorem exec_sessionOpen_of_valid (op : sdOp d = 0) : exec (.sessionOpen q) s
    = .next (s.sessionOpen q.toNat (dieOfQueue q.toNat) (s.queue q.toNat).part d) :=
  congrArg Host.Outcome.next (State.samplerCommand_of_valid up front opcode valid (by simp [opcode, op]) _)

theorem exec_sessionUpdate_of_valid (op : sdOp d = 1) : exec (.sessionUpdate q) s
    = .next (s.sessionUpdate q.toNat (dieOfQueue q.toNat) (s.queue q.toNat).part d) :=
  congrArg Host.Outcome.next (State.samplerCommand_of_valid up front opcode valid (by simp [opcode, op]) _)

theorem exec_sessionClose_of_valid (op : sdOp d = 2) : exec (.sessionClose q) s
    = .next (s.sessionClose q.toNat (s.queue q.toNat).part d) :=
  congrArg Host.Outcome.next (State.samplerCommand_of_valid up front opcode valid (by simp [opcode, op]) _)

end

end

/-- Settles O32: `exec_session…_of_valid` brings each row to its own function, and the lemma for the case that applies there
says what becomes of the context. -/
theorem sessions : Obligations.Sessions := by
  unfold Obligations.Sessions
  have answers {s t : State} (h : s = t) := congrArg (Host.Outcome.next (φ := Fault) (ρ := Refusal)) h
  refine ⟨?opens, ?foreign, ?closed, ?updates, ?closes, ?reserved, fun s die p x => s.sessionCheck_of_range die p⟩
  case opens =>
    intro s q d up front opcode op valid closed inRange passes
    have session := State.sessionOpen_session q.toNat _ closed inRange passes
    have mode := State.sessionOpen_mode q.toNat _ closed inRange passes
    have context := (session (sdSession d)).trans (if_pos rfl)
    refine ⟨_, exec_sessionOpen_of_valid up front opcode valid op, context, ?_, ?_, ?_,
      fun m other => (session m).trans (if_neg other.symm), fun ready => mode.trans (if_pos ready),
      fun other => mode.trans (if_neg other), State.sessionOpen_mask _ _ _ _ _ (by decide)⟩ <;> rw [context]
    · rfl
    · exact toNat_ofNat_fld d 448 64
    · exact toNat_ofNat_fld d 416 32
  case foreign =>
    intro s q d up front opcode valid opened foreign
    exact ⟨fun op => (exec_sessionOpen_of_valid up front opcode valid op).trans
        (answers (State.sessionOpen_of_foreign _ _ opened foreign)),
      fun op => (exec_sessionUpdate_of_valid up front opcode valid op).trans
        (answers (State.sessionUpdate_of_foreign _ _ opened foreign)),
      fun op => (exec_sessionClose_of_valid up front opcode valid op).trans
        (answers (State.sessionClose_of_foreign _ opened foreign))⟩
  case closed =>
    intro s q d up front opcode valid closed
    exact ⟨fun op => (exec_sessionUpdate_of_valid up front opcode valid op).trans
        (answers (State.sessionUpdate_of_closed _ _ closed)),
      fun op => (exec_sessionClose_of_valid up front opcode valid op).trans
        (answers (State.sessionClose_of_closed _ closed))⟩
  case updates =>
    intro s q d up front opcode op valid own passes
    have session := State.sessionUpdate_session q.toNat _ own passes
    have context := (session (sdSession d)).trans (if_pos rfl)
    refine ⟨_, exec_sessionUpdate_of_valid up front opcode valid op, ?_, ?_, ?_, ?_, ?_, ?_, ?_,
      fun m other => (session m).trans (if_neg other.symm), State.sessionUpdate_mask _ _ _ _ _ (by decide)⟩ <;>
      rw [context]
    · exact sessionAfter_seed_step_of_kept _ _ _ _
    · exact sessionAfter_seed_step_of_reseed _ _ _ _
    · exact toNat_ofNat_fld d 384 32
    · exact toNat_ofNat_fld d 352 32
    · exact toNat_ofNat_fld d 334 18
    · exact toNat_ofNat_fld d 305 2
    · rfl
  case closes =>
    intro s q d up front opcode op valid own
    refine ⟨_, exec_sessionClose_of_valid up front opcode valid op, ?_, State.sessionClose_mask _ _ _ _ (by decide)⟩
    rw [State.sessionClose_of_own _ own, State.follow_sess, State.serveDone_sess]
    rfl
  case reserved => exact fun s q d up front opcode reserved => exec_session_of_reserved up front opcode reserved

end Sys2Proof.Machine
end

section
/-!
VCTX (10 R319–R323, R340, R344), for O35: what the end of a queue's turn leaves of the video engines, how a row of an
engine comes to its own function, and what OPEN, UPDATE, CLOSE, DETACH and ADOPT do with the contexts they name.
-/
namespace Sys2Proof.Machine

set_option Elab.async false
open Sys2Proof

/-! ### Engines, their queues, and checks of extents -/

theorem State.engine_of_video {s t : State} (h : t.video = s.video) : t.engine = s.engine := by
  unfold State.engine
  rw [h]

theorem videoOf_of_stillQueue {t : State} {k : Nat} {x : Queue} (h : t.stillQueue k = x.still) :
    (t.queue k).videoOf = x.videoOf := (congrArg Queue.videoOf h :)

theorem State.still_pcheck (s : State) (die p a n : Nat) (write : Bool) : (s.pcheck die p a n write).2.still = s.still := by
  have walked := still_extent s die p a n write
  unfold State.pcheck
  split <;> rename_i e <;> rw [e] at walked
  · exact walked
  · exact (State.still_raise _ _ _ _).trans walked

theorem State.still_partsOk (die p : Nat) (write : Bool) (xs : List (Nat × Nat)) (s : State) :
    (s.partsOk die p 1 write xs).2.still = s.still := by
  induction xs generalizing s with
  | nil => rfl
  | cons x xs ih =>
    have checked := s.still_pcheck die p x.1 x.2 write
    rw [State.partsOk]
    split <;> rename_i e <;> rw [e] at checked
    · exact (ih _).trans checked
    · exact checked

theorem State.still_openSpace (s : State) (die p d : Nat) : (s.openSpace die p d).2.still = s.still := by
  unfold State.openSpace
  split
  · rfl
  · exact State.still_partsOk _ _ _ _ _

/-- From `s` to `u` extents have been checked: no engine and no mode has changed, and no queue's engine. -/
structure Checked (s u : State) : Prop where
  engine : u.engine = s.engine
  mode : u.mode = s.mode
  videoOf : ∀ q : Nat, (u.queue q).videoOf = (s.queue q).videoOf

theorem Checked.of_pcheck {s u : State} {die p a n : Nat} {write ok : Bool} (h : s.pcheck die p a n write = (ok, u)) :
    Checked s u := by
  obtain rfl : _ = u := congrArg Prod.snd h
  exact ⟨State.engine_of_video (keeps_video (w := allBut .video) (State.pcheck_mask _ _ _ _ _ _ (by decide))),
    keeps_mode (w := allBut .mode) (State.pcheck_mask _ _ _ _ _ _ (by decide)),
    fun q => videoOf_of_stillQueue (congrFun (stillQueue_of_still (s.still_pcheck die p a n write)) q)⟩

theorem Checked.of_openSpace {s u : State} {die p d : Nat} {ok : Bool} (h : s.openSpace die p d = (ok, u)) :
    Checked s u := by
  obtain rfl : _ = u := congrArg Prod.snd h
  exact ⟨State.engine_of_video (keeps_video (w := allBut .video) (State.openSpace_mask _ _ _ _ (by decide))),
    keeps_mode (w := allBut .mode) (State.openSpace_mask _ _ _ _ (by decide)),
    fun q => videoOf_of_stillQueue (congrFun (stillQueue_of_still (s.still_openSpace die p d)) q)⟩

theorem State.videoOf_of_atVideo {s : State} {q e d : Nat} (front : s.atVideo q = some (e, d)) :
    (s.queue q).videoOf = some e := by
  unfold State.atVideo at front
  split at front
  next bound _ =>
    split at front
    · cases front
    · cases front
      exact bound
  next => cases front

/-! ### The end of a turn (R320, R347) -/

/-- From `s` to `t` the turn of queue `q` at engine `e` has ended: the engine is between pictures, has noted the queue and
keeps its contexts, and the other engines are as they were. -/
structure TurnEnded (s t : State) (e : Nat) (q : QueueId) : Prop where
  ctx : (t.engine e).ctx = (s.engine e).ctx
  turn : (t.engine e).turn = some q
  busy : (t.engine e).busy = none
  other : ∀ m : Nat, m ≠ e → t.engine m = s.engine m

theorem State.videoDone_video {s : State} {q e : Nat} (code : Nat) (bound : (s.queue q).videoOf = some e) :
    (s.videoDone q code).video = (s.endTurn e q).video := by
  have ended (u : State) (queue : u.queue q = s.queue q) (turned : (u.endTurn e q).video = (s.endTurn e q).video) :
      ((match (u.queue q).videoOf with
        | some e => u.endTurn e q
        | none => u).done q code).video = (s.endTurn e q).video := by
    rw [queue, bound]
    exact (keeps_video (w := allBut .video) (State.done_mask _ _ _ (by decide))).trans turned
  unfold State.videoDone
  split
  · exact ended _ rfl rfl
  · exact ended _ rfl rfl

theorem State.videoDone_ended {s : State} {q : QueueId} {e : Nat} (code : Nat)
    (bound : (s.queue q.toNat).videoOf = some e) : TurnEnded s (s.videoDone q.toNat code) e q := by
  have engine : (s.videoDone q.toNat code).engine = (s.endTurn e q.toNat).engine :=
    State.engine_of_video (State.videoDone_video code bound)
  constructor
  case other => exact fun m other => (congrFun engine m).trans (State.engine_putEngine_other _ _ other.symm)
  all_goals rw [engine, State.endTurn, State.engine_putEngine_self]
  case turn => rw [BitVec.ofNat_toNat, BitVec.setWidth_eq]

theorem State.follow_video (s : State) : s.follow.video = s.video :=
  keeps_video (w := allBut .video) (State.follow_mask _ (by decide))

theorem TurnEnded.follow {s t : State} {e : Nat} {q : QueueId} (h : TurnEnded s t e q) : TurnEnded s t.follow e q := by
  have engine : t.follow.engine = t.engine := State.engine_of_video t.follow_video
  constructor <;> rw [engine]
  · exact h.ctx
  · exact h.turn
  · exact h.busy
  · exact h.other

theorem State.videoDone_mode (s : State) (q code : Nat) : (s.videoDone q code).mode = s.mode :=
  keeps_mode (w := allBut .mode) (State.videoDone_mask _ _ _ (by decide))

/-! ### Contexts of an engine (R319) -/

@[simp] theorem State.putCtx_engine_self (s : State) (e c : Nat) (x : VCtx) :
    (s.putCtx e c x).engine e = { s.engine e with ctx := (s.engine e).ctx.put c x } := State.engine_putEngine_self _ _ _

theorem State.putCtx_engine_other (s : State) {e m : Nat} (c : Nat) (x : VCtx) (other : m ≠ e) :
    (s.putCtx e c x).engine m = s.engine m := State.engine_putEngine_other _ _ other.symm

/-- An open context makes the module active (R11). -/
theorem State.anyActive_of_context {s : State} {e c : Nat} {x : VEngine} {y : VCtx} (engine : (e, x) ∈ s.video)
    (context : (c, y) ∈ x.ctx) (opened : y.state = .opened) : s.anyActive = true :=
  Bool.or_eq_true_iff.mpr (.inr (List.any_eq_true.mpr ⟨(e, x), engine,
    List.any_eq_true.mpr ⟨(c, y), context, decide_eq_true opened⟩⟩))

theorem State.follow_mode_of_entered {v : State} {q : QueueId} {e c code : Nat} {x : VCtx}
    (bound : (v.queue q.toNat).videoOf = some e) (opened : x.state = .opened) (ready : v.mode = .ready) :
    ((v.putCtx e c x).videoDone q.toNat code).follow.mode = .serving := by
  have video : ((v.putCtx e c x).videoDone q.toNat code).video = ((v.putCtx e c x).endTurn e q.toNat).video :=
    State.videoDone_video code bound
  have active : ((v.putCtx e c x).videoDone q.toNat code).anyActive = true := by
    refine State.anyActive_of_context (e := e) (c := c) (x := ((v.putCtx e c x).endTurn e q.toNat).engine e) ?_ ?_ opened
    · rw [video, State.endTurn, State.engine_putEngine_self]
      exact AMap.mem_put_self _ _ _
    · rw [State.endTurn, State.engine_putEngine_self, State.putCtx_engine_self]
      exact AMap.mem_put_self _ _ _
  rw [State.follow_mode_of_active active, State.videoDone_mode]
  exact if_pos ready

/-! ### OPEN, UPDATE, CLOSE, DETACH and ADOPT (R322, R323, R344) -/

section
variable {s : State} {q e p d : Nat}

theorem State.vctxOpen_of_opened (opened : ((s.engine e).vctx (vcCtx d)).state = .opened) :
    s.vctxOpen q e p d = s.videoDone q 0xB2 := if_pos opened

theorem State.vctxOpen_of_out_of_range (new : ((s.engine e).vctx (vcCtx d)).state ≠ .opened)
    (range : s.openRange e (dieOfEngine e) p d = false) : s.vctxOpen q e p d = s.videoDone q 0xB3 :=
  (if_neg new).trans (if_pos (by simp [range]))

/-- The context that OPEN enters. -/
def openedContext (q p d : Nat) : VCtx :=
  { state := .opened, queue := BitVec.ofNat 17 q, part := BitVec.ofNat 3 p, desc := BitVec.ofNat 512 d }

theorem State.vctxOpen_of_accepted {u : State} (new : ((s.engine e).vctx (vcCtx d)).state ≠ .opened)
    (range : s.openRange e (dieOfEngine e) p d = true) (space : s.openSpace (dieOfEngine e) p d = (true, u))
    (width : vcW d ≠ 0) (height : vcH d ≠ 0) :
    s.vctxOpen q e p d = ((u.putCtx e (vcCtx d) (openedContext q p d)).videoDone q 0).follow := by
  unfold State.vctxOpen
  simp only [new, range, space, width, height]
  rfl

theorem State.vctxUpdate_of_foreign (foreign : ((s.engine e).vctx (vcCtx d)).openOn q = false) :
    s.vctxUpdate q e p d = s.videoDone q 0xB2 := if_pos (by simp [foreign])

/-- The context that UPDATE leaves of `c`: a decoder also takes back the buffers released. -/
def updatedContext (e d : Nat) (c : VCtx) : VCtx :=
  { (if isEncoder e then c else c.release (vcRelease d)) with desc := BitVec.ofNat 512 (updatedDesc c.desc.toNat d) }

theorem State.vctxUpdate_of_accepted {u : State} (own : ((s.engine e).vctx (vcCtx d)).openOn q = true)
    (rates : isEncoder e = false ∨ ratesOk (updatedDesc ((s.engine e).vctx (vcCtx d)).desc.toNat d) = true)
    (event : s.vcEventOk (dieOfEngine e) p d = true) (aligned : vcProgress d % 8 = 0)
    (space : s.pcheck (dieOfEngine e) p (vcProgress d) (if vcProgress d = 0 then 0 else 8) true = (true, u)) :
    s.vctxUpdate q e p d
      = (u.putCtx e (vcCtx d) (updatedContext e d ((s.engine e).vctx (vcCtx d)))).videoDone q 0 := by
  have fails : (!s.vcEventOk (dieOfEngine e) p d
      || (isEncoder e && !ratesOk (updatedDesc ((s.engine e).vctx (vcCtx d)).desc.toNat d))) = false := by
    rcases rates with decoder | legal <;> simp [*]
  unfold State.vctxUpdate updatedContext
  simp only [own, fails, aligned, space, ne_eq, not_true_eq_false, if_false]
  cases isEncoder e <;> rfl

theorem State.vctxClose_of_foreign (foreign : ((s.engine e).vctx (vcCtx d)).openOn q = false) :
    s.vctxClose q e d = s.videoDone q 0xB2 := if_pos (by simp [foreign])

theorem State.vctxClose_of_own (own : ((s.engine e).vctx (vcCtx d)).openOn q = true) :
    s.vctxClose q e d
      = ((s.putEngine e { s.engine e with ctx := (s.engine e).ctx.del (vcCtx d) }).videoDone q 0).follow :=
  if_neg (by simp [own])

theorem State.vctxDetach_of_foreign (foreign : ((s.engine e).vctx (vcCtx d)).openOn q = false) :
    s.vctxDetach q e d = s.videoDone q 0xB2 := if_pos (by simp [foreign])

theorem State.vctxDetach_of_own (own : ((s.engine e).vctx (vcCtx d)).openOn q = true) :
    s.vctxDetach q e d
      = ((s.putCtx e (vcCtx d) { (s.engine e).vctx (vcCtx d) with state := .detached }).videoDone q 0).follow :=
  if_neg (by simp [own])

/-- The state in which ADOPT has consumed the record of engine `b`. -/
def State.consumeRecord (s : State) (b d : Nat) : State :=
  s.putEngine b { s.engine b with ctx := (s.engine b).ctx.del (vcSrcCtx d) }

theorem State.vctxAdopt_of_adoptable {b : Nat} {c : VCtx} (new : ((s.engine e).vctx (vcCtx d)).state ≠ .opened)
    (source : vcSrcEngine d < (if isEncoder e then 2 else 4)) (record : s.adoptable e p d = some (b, c)) :
    s.vctxAdopt q e p d = (((s.consumeRecord b d).putCtx e (vcCtx d)
      { c with state := .opened, queue := BitVec.ofNat 17 q }).videoDone q 0).follow := by
  unfold State.vctxAdopt
  rw [if_neg (Nat.not_le_of_lt source), if_neg new, record]
  rfl

end

/-! ### The rows of an engine between pictures (R320, R340) -/

section
variable {s : State} {q : QueueId} {e d : Nat} (front : s.atVideo q.toNat = some (e, d))
  (between : (s.engine e).busy = none)
include front between

theorem State.videoCommand_of_other_turn (other : s.videoNext e ≠ some q.toNat) (mine : Nat → Bool)
    (f : State → Nat → Nat → Nat → Nat → State) : s.videoCommand q.toNat mine f = s := by
  unfold State.videoCommand
  simp only [front, between]
  exact if_pos other

section
variable (turn : s.videoNext e = some q.toNat) (opcode : dOpcode d = 0x30) (valid : vcReserved d = false)
include turn opcode valid

theorem State.videoCommand_of_turn {mine : Nat → Bool} (own : mine d = true) (f : State → Nat → Nat → Nat → Nat → State) :
    s.videoCommand q.toNat mine f = f s q.toNat e (s.queue q.toNat).part d := by
  have legal : videoReserved d = false := by
    unfold videoReserved
    rw [opcode]
    exact valid
  unfold State.videoCommand
  simp only [front, between, turn, opcode, own, legal, ne_eq, not_true_eq_false, if_false, decide_true, Bool.true_or]
  rfl

theorem exec_vctxOpen_of_turn (op : vcOp d = 0) :
    exec (.vctxOpen q) s = .next (s.vctxOpen q.toNat e (s.queue q.toNat).part d) :=
  congrArg Host.Outcome.next (State.videoCommand_of_turn front between turn opcode valid (by simp [isVctx, opcode, op]) _)

theorem exec_vctxUpdate_of_turn (op : vcOp d = 1) :
    exec (.vctxUpdate q) s = .next (s.vctxUpdate q.toNat e (s.queue q.toNat).part d) :=
  congrArg Host.Outcome.next (State.videoCommand_of_turn front between turn opcode valid (by simp [isVctx, opcode, op]) _)

theorem exec_vctxClose_of_turn (op : vcOp d = 2) : exec (.vctxClose q) s = .next (s.vctxClose q.toNat e d) :=
  congrArg Host.Outcome.next (State.videoCommand_of_turn front between turn opcode valid (by simp [isVctx, opcode, op]) _)

theorem exec_vctxDetach_of_turn (op : vcOp d = 3) : exec (.vctxDetach q) s = .next (s.vctxDetach q.toNat e d) :=
  congrArg Host.Outcome.next (State.videoCommand_of_turn front between turn opcode valid (by simp [isVctx, opcode, op]) _)

theorem exec_vctxAdopt_of_turn (op : vcOp d = 4) :
    exec (.vctxAdopt q) s = .next (s.vctxAdopt q.toNat e (s.queue q.toNat).part d) :=
  congrArg Host.Outcome.next (State.videoCommand_of_turn front between turn opcode valid (by simp [isVctx, opcode, op]) _)

end

end

/-- Settles O35: `exec_vctx…_of_turn` brings each row to its own function, the lemma for the case that applies there says
which context it writes, and `State.videoDone_ended` what the end of the turn leaves. -/
theorem videoContexts : Obligations.VideoContexts := by
  unfold Obligations.VideoContexts
  have answers {s t : State} (h : s = t) := congrArg (Host.Outcome.next (φ := Fault) (ρ := Refusal)) h
  refine ⟨?opens, ?opened, ?range, ?updates, ?foreign, ?closes, ?detaches, ?adopts, ?waits⟩
  case opens =>
    intro s u q e d front between turn opcode op valid new range space width height
    obtain ⟨engine, mode, videoOf⟩ := Checked.of_openSpace space
    have bound := (videoOf q.toNat).trans (State.videoOf_of_atVideo front)
    have done := (State.videoDone_ended (s := u.putCtx e (vcCtx d) (openedContext q.toNat (s.queue q.toNat).part d)) 0
      bound).follow
    have answer := State.vctxOpen_of_accepted (q := q.toNat) new range space width height
    refine ⟨_, exec_vctxOpen_of_turn front between turn opcode valid op, ?_, ?_, ?_, ?_, ?_,
      State.vctxOpen_mask _ _ _ _ _ (by decide)⟩ <;> rw [answer]
    · rw [done.ctx, State.putCtx_engine_self, engine]
      simp [openedContext, Queue.part]
    · exact done.turn
    · exact done.busy
    · exact fun m other => (done.other m other).trans ((State.putCtx_engine_other _ _ _ other).trans (congrFun engine m))
    · exact fun ready => State.follow_mode_of_entered bound rfl (mode.trans ready)
  case opened =>
    intro s q e d front between turn opcode op valid opened
    exact (exec_vctxOpen_of_turn front between turn opcode valid op).trans (answers (State.vctxOpen_of_opened opened))
  case range =>
    intro s q e d front between turn opcode op valid new range
    exact (exec_vctxOpen_of_turn front between turn opcode valid op).trans
      (answers (State.vctxOpen_of_out_of_range new range))
  case updates =>
    intro s u q e d front between turn opcode op valid own rates event aligned space
    obtain ⟨engine, -, videoOf⟩ := Checked.of_pcheck space
    have bound := (videoOf q.toNat).trans (State.videoOf_of_atVideo front)
    have done := State.videoDone_ended
      (s := u.putCtx e (vcCtx d) (updatedContext e d ((s.engine e).vctx (vcCtx d)))) 0 bound
    have answer := State.vctxUpdate_of_accepted own rates event aligned space
    refine ⟨_, exec_vctxUpdate_of_turn front between turn opcode valid op, ?_, ?_, ?_,
      State.vctxUpdate_mask _ _ _ _ _ (by decide)⟩ <;> rw [answer]
    · rw [done.ctx, State.putCtx_engine_self, engine]
      rfl
    · exact done.turn
    · exact fun m other => (done.other m other).trans ((State.putCtx_engine_other _ _ _ other).trans (congrFun engine m))
  case foreign =>
    intro s q e d front between turn opcode valid foreign
    exact ⟨fun op => (exec_vctxUpdate_of_turn front between turn opcode valid op).trans
        (answers (State.vctxUpdate_of_foreign foreign)),
      fun op => (exec_vctxClose_of_turn front between turn opcode valid op).trans
        (answers (State.vctxClose_of_foreign foreign)),
      fun op => (exec_vctxDetach_of_turn front between turn opcode valid op).trans
        (answers (State.vctxDetach_of_foreign foreign))⟩
  case closes =>
    intro s q e d front between turn opcode op valid own
    have done := (State.videoDone_ended
      (s := s.putEngine e { s.engine e with ctx := (s.engine e).ctx.del (vcCtx d) }) 0
      (State.videoOf_of_atVideo front :)).follow
    refine ⟨_, exec_vctxClose_of_turn front between turn opcode valid op, ?_, ?_, ?_,
      State.vctxClose_mask _ _ _ _ (by decide)⟩ <;> rw [State.vctxClose_of_own own]
    · rw [done.ctx, State.engine_putEngine_self]
    · exact done.turn
    · exact fun m other => (done.other m other).trans (State.engine_putEngine_other _ _ other.symm)
  case detaches =>
    intro s q e d front between turn opcode op valid own
    have done := (State.videoDone_ended
      (s := s.putCtx e (vcCtx d) { (s.engine e).vctx (vcCtx d) with state := .detached }) 0
      (State.videoOf_of_atVideo front :)).follow
    refine ⟨_, exec_vctxDetach_of_turn front between turn opcode valid op, ?_, ?_, ?_,
      State.vctxDetach_mask _ _ _ _ (by decide)⟩ <;> rw [State.vctxDetach_of_own own]
    · rw [done.ctx, State.putCtx_engine_self]
    · exact done.turn
    · exact fun m other => (done.other m other).trans (State.putCtx_engine_other _ _ _ other)
  case adopts =>
    intro s q e d b c front between turn opcode op valid new source record
    have done := (State.videoDone_ended
      (s := (s.consumeRecord b d).putCtx e (vcCtx d) { c with state := .opened, queue := BitVec.ofNat 17 q.toNat }) 0
      (State.videoOf_of_atVideo front :)).follow
    have consumed (m : Nat) : (s.consumeRecord b d).engine m = _ := State.engine_putEngine s b m _
    have answer := State.vctxAdopt_of_adoptable (q := q.toNat) new source record
    have other (m : Nat) (h : m ≠ e) := (done.other m h).trans (State.putCtx_engine_other _ _ _ h)
    refine ⟨_, exec_vctxAdopt_of_turn front between turn opcode valid op, ?_, ?_, ?_, ?_,
      State.vctxAdopt_mask _ _ _ _ _ (by decide)⟩ <;> rw [answer]
    · rw [done.ctx, State.putCtx_engine_self, consumed, BitVec.ofNat_toNat, BitVec.setWidth_eq]
      split <;> simp [*]
    · exact fun elsewhere => (other b elsewhere).trans ((consumed b).trans (if_pos rfl))
    · exact done.turn
    · exact fun m off apart => (other m off).trans ((consumed m).trans (if_neg apart.symm))
  case waits =>
    intro s q e d front between other
    have stays (mine f) := answers (State.videoCommand_of_other_turn front between other mine f)
    exact ⟨stays _ _, stays _ _, stays _ _, stays _ _, stays _ _⟩
end Sys2Proof.Machine
end

section
/-!
Restarts and failures of video engines (10 R343, R344, R347), for O37. An engine ends the picture of the queue that it
takes next, and finds that queue among the listed ones, while the end of the turn goes to the engine that the queue reads
as bound to. In a list of queues whose keys rise the two are one engine (`State.videoOf_of_videoNext_of_sorted`); where
one key is listed twice they may differ. O37 speaks of every state, also of such a one, and fails there.
-/
namespace Sys2Proof

/-- What a list with rising keys lists is what its key reads. -/
theorem AMap.find_of_mem_of_sorted {α : Type} {m : AMap α} {k : Nat} {x : α} (hs : AMap.sorted m = true)
    (listed : (k, x) ∈ m) : m.find k = some x := by
  induction m with
  | nil => cases listed
  | cons c m ih =>
    obtain ⟨l, v⟩ := c
    obtain ⟨tail, above⟩ := AMap.sorted_cons_imp hs
    rcases List.mem_cons.mp listed with same | later
    · cases same
      exact if_pos rfl
    · have lt : l < k := above _ later
      exact (if_neg (Nat.ne_of_lt lt)).trans ((if_neg (Nat.lt_asymm lt)).trans (ih tail later))

end Sys2Proof

namespace Sys2Proof.Machine

set_option Elab.async false
open Sys2Proof

/-- Where the keys of the queues rise, the queue that an engine takes next is bound to this engine. -/
theorem State.videoOf_of_videoNext_of_sorted {s : State} {e q : Nat} (hs : s.queues.sorted = true)
    (next : s.videoNext e = some q) : (s.queue q).videoOf = some e := by
  have ready : q ∈ s.queueIds (fun _ x => decide (x.videoOf = some e) && (x.jobIn .handed).isSome) := by
    unfold State.videoNext at next
    dsimp only at next
    split at next
    · rcases Option.or_eq_some_iff.mp next with found | ⟨-, first⟩
      · exact List.mem_of_find?_eq_some found
      · exact List.mem_of_head? first
    · exact List.mem_of_head? next
  obtain ⟨⟨k, x⟩, listed, rfl⟩ := List.mem_map.mp ready
  obtain ⟨listed, takes⟩ := List.mem_filter.mp listed
  obtain ⟨bound, -⟩ := Bool.and_eq_true_iff.mp takes
  rw [State.queue, AMap.find_of_mem_of_sorted hs listed]
  exact of_decide_eq_true bound

/-- A picture in flight at an engine without contexts writes no buffer: its end only completes the descriptor. -/
theorem State.abortInFlight_of_no_contexts {s : State} {e q code : Nat} {j : Job} (flight : s.inFlight e = some q)
    (job : (s.queue q).jobIn .handed = some j) (between : (s.engine e).busy = none)
    (empty : (s.engine e).ctx = []) : s.abortInFlight e code = s.videoDone q code := by
  have unwritten (c : VCtx) (h : c.state = .closed) : s.writtenBuffer e c = (none, s) := by
    simp [State.writtenBuffer, between, h]
  have closed : ((s.engine e).vctx (fld j.d 64 8)).state = .closed := by
    unfold VEngine.vctx
    rw [empty]
    rfl
  have context : (if isEncoder e then (s.engine e).vctx (fld j.d 64 8)
      else ((s.engine e).vctx (fld j.d 64 8)).release (vdRelease j.d)).state = .closed := by
    split <;> exact closed
  simp only [State.abortInFlight, State.abortPicture, flight, job, unwritten _ context, ne_eq, not_true_eq_false,
    if_false]

/-- The failure of an engine leaves the others as the end of its picture does. -/
theorem State.engineFails_engine_other {s : State} {e m : Nat} (works : (s.engine e).failed = false) (other : m ≠ e) :
    (s.engineFails e).engine m = (s.abortInFlight e 0xB8).engine m := by
  unfold State.engineFails
  rw [works]
  exact (congrFun (State.engine_of_video (keeps_video (w := allBut .video)
    (State.failRecord_mask _ _ _ _ _ _ _ _ (by decide)))) m).trans (State.engine_putEngine_other _ _ other.symm)

theorem exec_videoEngineFailure_awake {s : State} (e : EngineId) (awake : s.asleep = false) :
    exec (.videoEngineFailure e) s = .next (s.engineFails e.val) :=
  congrArg Host.Outcome.next (if_neg (by simp [awake]))

/-- An active queue of decoder `e` whose DECODE is ready. -/
def decodeQueue (e : Nat) : Queue :=
  { state := .active, engine := BitVec.ofNat 12 (768 + e),
    jobs := [{ desc := BitVec.ofNat 512 (0x31 * 2 ^ 56), slot := 0, seq := 0, phase := .handed }] }

/-- READY, with queue 0 listed twice: first as a queue of decoder 1, which is what it reads as, then as one of decoder 0. -/
def doublyListed : State := (State.reset.setMode .ready).setQueues [(0, decodeQueue 1), (0, decodeQueue 0)]

theorem doublyListed_inFlight : doublyListed.inFlight 0 = some 0 := by decide +kernel

theorem doublyListed_videoOf : (doublyListed.queue 0).videoOf = some 1 := by decide +kernel

/-- The failure of decoder 0 ends a turn at decoder 1. -/
theorem engineFails_doublyListed_turn : ((doublyListed.engineFails 0).engine 1).turn = some 0 := by
  rw [State.engineFails_engine_other rfl (by decide), State.abortInFlight_of_no_contexts doublyListed_inFlight rfl rfl rfl]
  exact (State.videoDone_ended (q := 0) 0xB8 doublyListed_videoOf).turn

/-- Refutes O37: it asks of every state that the other engines stay. In `doublyListed` decoder 0 has queue 0 in flight,
which reads as bound to decoder 1; when decoder 0 fails, decoder 1, which had taken no queue, notes queue 0 as its last. -/
theorem not_videoEngineRestarts : ¬ Obligations.VideoEngineRestarts := by
  unfold Obligations.VideoEngineRestarts
  rintro ⟨-, -, -, failureClause, -⟩
  have idle : ∀ j : VJob, (doublyListed.engine 0).busy = some j →
      (doublyListed.queue j.queue.toNat).videoOf = some 0 := fun j busy => nomatch busy
  have awake : doublyListed.asleep = false := rfl
  obtain ⟨t, run, -, -, -, others, -⟩ := failureClause doublyListed 0 awake rfl idle
  rw [exec_videoEngineFailure_awake 0 awake] at run
  obtain rfl : doublyListed.engineFails 0 = t := Host.Outcome.next.inj run
  have kept : (doublyListed.engineFails 0).engine 1 = doublyListed.engine 1 := others 1 (by decide)
  have turn := engineFails_doublyListed_turn
  rw [kept] at turn
  cases turn

end Sys2Proof.Machine
end

section
/-!
The loading of the runtime (11 R353, R362, R365, R369–R372; 20 R611), for O39: HELLO, LOAD, START, STOP and STATUS of a
component, health, mailbox assignment, and the reload of a refused bundle. A reply and a notification move mailboxes,
queues and memory alone: what the loader holds, `State.loader`, goes through them, and a command's own changes remain.
-/
namespace Sys2Proof.Machine

open Sys2Proof

/-! ### Entries of the dictionary -/

@[simp] theorem State.odGet_odSet_self (s : State) (ix sub v : Nat) : (s.odSet ix sub v).odGet ix sub = v := by
  unfold State.odGet State.odSet
  simp

theorem State.odGet_odSet_other (s : State) {ix sub jx tub : Nat} (v : Nat) (other : odKey ix sub ≠ odKey jx tub) :
    (s.odSet ix sub v).odGet jx tub = s.odGet jx tub := by
  show (match (s.od.put (odKey ix sub) v).find (odKey jx tub) with | some v => v | none => odDefault jx tub) = _
  rw [AMap.find_put, if_neg other]
  rfl

theorem State.odGet_odInc_other (s : State) {ix sub jx tub : Nat} (n : Nat) (other : odKey ix sub ≠ odKey jx tub) :
    (s.odInc ix sub n).odGet jx tub = s.odGet jx tub := s.odGet_odSet_other _ other

/-- A commit writes no entry but its own counts (R597). -/
theorem State.odGet_commit_other (s : State) {ix sub : Nat} (items : List Nat) (done : odKey 0x2A00 7 ≠ odKey ix sub)
    (failed : odKey 0x2A00 8 ≠ odKey ix sub) : (s.commit items).odGet ix sub = s.odGet ix sub := by
  unfold State.commit State.psCommit
  dsimp only
  split
  · exact State.odGet_odInc_other _ _ failed
  · rw [State.odGet_odInc_other _ _ done]
    unfold State.keepCounts
    split <;> rfl

/-! ### What the loader holds -/

/-- What the loader holds: the firmware's state but for its mailboxes, and the dictionary but for what events count. -/
def State.loader (s : State) : Fw × (Nat → Option Nat) := (s.still.fw, s.still.od)

theorem loader_of_still {s t : State} (h : t.still = s.still) : t.loader = s.loader :=
  congrArg (fun v : Still => (v.fw, v.od)) h

/-- The mask of every field that `State.loader` is not read from. -/
def notLoader : Nat := 2 ^ 52 - 1 - 2 ^ Field.fw.bit - 2 ^ Field.od.bit

theorem loader_of_frame {s t : State} (e : t.mask notLoader = s.mask notLoader) : t.loader = s.loader := by
  unfold State.loader State.still
  rw [keeps_fw e, keeps_od e]

theorem loader_ite {c : Prop} [Decidable c] {a b s : State} (ha : a.loader = s.loader) (hb : b.loader = s.loader) :
    (if c then a else b).loader = s.loader := by
  split <;> assumption

section
variable {s t : State} (h : t.loader = s.loader)
include h

theorem comps_of_loader : t.fw.comps = s.fw.comps := congrArg (fun v => v.1.comps) h

theorem comp_of_loader (die c : Nat) : t.comp die c = s.comp die c :=
  congrArg (·.getD (16 * die + c) {}) (comps_of_loader h)

theorem loadStep_of_loader : t.fw.loadStep = s.fw.loadStep := congrArg (fun v => v.1.loadStep) h

theorem helloEast_of_loader : t.fw.helloEast = s.fw.helloEast := congrArg (fun v => v.1.helloEast) h

theorem helloWest_of_loader : t.fw.helloWest = s.fw.helloWest := congrArg (fun v => v.1.helloWest) h

theorem odGet_of_loader (ix sub : Nat) (key : odKey ix sub / 256 ≠ 0x2300 ∧ odKey ix sub / 256 ≠ 0x2900) :
    t.odGet ix sub = s.odGet ix sub := by
  have stored : t.still.od (odKey ix sub) = s.still.od (odKey ix sub) := congrFun (congrArg Prod.snd h) _
  unfold State.still at stored
  simp only [key, or_self, if_false] at stored
  unfold State.odGet
  rw [stored]

end

@[simp] theorem State.loader_raise (s : State) (die n detail : Nat) : (s.raise die n detail).loader = s.loader :=
  loader_of_still (s.still_raise die n detail)

@[simp] theorem State.loader_pwrite (s : State) (die p a : Nat) (bs : List (Byte × Bool)) :
    (s.pwrite die p a bs).2.loader = s.loader := loader_of_still (s.still_pwrite die p a bs)

@[simp] theorem State.loader_regionWrite (s : State) (a : Nat) (bs : List (Byte × Bool)) :
    (s.regionWrite a bs).loader = s.loader := loader_of_frame (s.regionWrite_mask a bs (by decide))

theorem State.loader_enterMode (s : State) (m : Mode) : (s.enterMode m).loader = s.loader := by
  have awake : (if m = .ready then s else s.setIdle false).loader = s.loader := loader_ite rfl rfl
  unfold State.enterMode
  dsimp only
  refine Eq.trans ?_ awake
  exact loader_ite rfl (loader_ite (State.loader_raise _ 0 1 m.code) (State.loader_raise _ 0 1 m.code))

/-! ### Replies -/

/-- A reply of success leaves what the loader holds, whoever asked (R364, R365). -/
@[simp] theorem State.loader_answer_ok (s : State) (x : MbxIn) (body : List Byte) :
    (s.answer x 0 body).loader = s.loader := by
  unfold State.answer
  dsimp only
  cases x.queue with
  | none => exact loader_ite (State.loader_regionWrite ..) rfl
  | some q =>
    exact (loader_ite (State.loader_pwrite ..) rfl).trans (loader_ite (State.loader_pwrite ..) rfl)

theorem Mbx.send_inSeq (b : Mbx) (m : BitVec 512) : (b.send m).inSeq = b.inSeq := by
  unfold Mbx.send
  split <;> rfl

theorem Mbx.send_outSeq (b : Mbx) (m : BitVec 512) : (b.send m).outSeq = b.outSeq := by
  unfold Mbx.send
  split <;> rfl

/-- A reply to a driver takes the next outbound sequence number and keeps the inbound one (R365). -/
theorem State.answer_seqs_of_host (s : State) {x : MbxIn} (body : List Byte) (host : x.queue = none) :
    ((s.answer x 0 body).mbx x.die x.mbx).inSeq = (s.mbx x.die x.mbx).inSeq
      ∧ ((s.answer x 0 body).mbx x.die x.mbx).outSeq = (s.mbx x.die x.mbx).outSeq + 1 := by
  have region (c : Prop) [Decidable c] (u : State) (a : Nat) (bs : List (Byte × Bool)) :
      (if c then u.regionWrite a bs else u).mbx x.die x.mbx = u.mbx x.die x.mbx := by
    split
    · exact congrArg (fun f : Fw => f.mbx.getD _ {}) (keeps_fw (w := allBut .fw) (u.regionWrite_mask a bs (by decide)))
    · rfl
  unfold State.answer
  simp only [host, State.mbx_putMbx_self, Mbx.send_inSeq, Mbx.send_outSeq, region]
  exact ⟨rfl, rfl⟩

@[simp] theorem State.answer_mode (s : State) (x : MbxIn) (status : Nat) (body : List Byte) :
    (s.answer x status body).mode = s.mode :=
  keeps_mode (w := allBut .mode) (s.answer_mask x status body (by decide))

/-- A message was received: what the receipt has changed at most. -/
theorem received_mask {s u : State} {m : MbxSrc} {n : Nat} {x : Option MbxIn} (e : s.receive m n = (x, u)) {m0 : Nat}
    (hw : 1165491052494914 &&& m0 = 1165491052494914) : u.mask m0 = s.mask m0 := by
  have frame := s.receive_mask m n hw
  rwa [e] at frame

/-! ### HELLO (R365, R370) -/

/-- What step 4 of the load makes of a HELLO (R370): 0, or the reason of its refusal. -/
abbrev State.helloCheck (s : State) (x : MbxIn) : Nat :=
  s.helloReason (mgMinor x.word) (leNat (((s.body x).drop 32).take 2))

/-- A HELLO is noted: the driver's version and the one it requires. -/
def State.noteDriver (s : State) (x : MbxIn) : State :=
  (s.odSet 0x2150 3 (256 * mgMajor x.word + mgMinor x.word)).odSet 0x2150 4 (leNat (((s.body x).drop 32).take 2))

/-- A HELLO that the bundle meets is answered, with mailbox 0 starting at 0 before the reply (R365). -/
def State.welcome (s : State) (x : MbxIn) : State :=
  let u := s.noteDriver x
  let u := u.putMbx x.die 0 { u.mbx x.die 0 with inSeq := 0, outSeq := 0 }
  u.answer x 0 u.helloBody

/-- The load is at step 4: it waits for HELLO. -/
abbrev State.awaitsHello (s : State) : Prop := s.mode = .awaitRuntime ∧ s.fw.loadStep = 4

theorem State.noteDriver_waits {s : State} (x : MbxIn) (waits : s.awaitsHello) :
    (decide ((s.noteDriver x).mode = .awaitRuntime) && decide ((s.noteDriver x).fw.loadStep = 4)) = true :=
  Bool.and_eq_true_iff.mpr ⟨decide_eq_true waits.1, decide_eq_true waits.2⟩

theorem State.helloAccepted_of_running {s : State} {x : MbxIn} (meets : s.helloCheck x = 0)
    (mode : s.mode ≠ .awaitRuntime) : s.helloAccepted x = s.welcome x := by
  have waits : ¬(decide ((s.noteDriver x).mode = .awaitRuntime) && decide ((s.noteDriver x).fw.loadStep = 4)) = true :=
    fun h => mode (of_decide_eq_true (Bool.and_eq_true_iff.mp h).1)
  exact (if_neg (not_not_intro meets)).trans (if_neg waits)

theorem State.helloAccepted_of_refused {s : State} {x : MbxIn} (fails : s.helloCheck x ≠ 0) (waits : s.awaitsHello) :
    s.helloAccepted x = ((s.noteDriver x).answer x 0 (s.noteDriver x).helloBody).refuse (s.helloCheck x) :=
  (if_pos fails).trans (if_pos (State.noteDriver_waits x waits))

theorem State.loader_welcome (s : State) (x : MbxIn) : (s.welcome x).loader = (s.noteDriver x).loader :=
  State.loader_answer_ok ..

/-- The last HELLO that the load waits for moves it on (R370). -/
theorem State.helloAccepted_of_last {s : State} {x : MbxIn} (meets : s.helloCheck x = 0) (waits : s.awaitsHello)
    (east : s.fw.helloEast = true) (west : x.die = 1) :
    s.helloAccepted x = ((s.welcome x).setFw
      { (s.welcome x).fw with loadStep := 5, helloEast := true, helloWest := true }).proveTrial := by
  have welcomed : s.helloAccepted x =
      let u := (s.welcome x).setFw { (s.welcome x).fw with
        helloEast := (s.welcome x).fw.helloEast || x.die = 0, helloWest := (s.welcome x).fw.helloWest || x.die = 1 }
      if u.fw.helloEast && u.fw.helloWest then (u.setFw { u.fw with loadStep := 5 }).proveTrial else u :=
    (if_neg (not_not_intro meets)).trans (if_pos (State.noteDriver_waits x waits))
  have eastBefore : (s.welcome x).fw.helloEast = true := (helloEast_of_loader (s.loader_welcome x)).trans east
  rw [welcomed]
  simp only [eastBefore, west, Bool.true_or, decide_true, Bool.or_true]
  rfl

@[simp] theorem State.welcome_mode (s : State) (x : MbxIn) : (s.welcome x).mode = s.mode := State.answer_mode ..

theorem State.odGet_noteDriver (s : State) (x : MbxIn) :
    (s.noteDriver x).odGet 0x2150 3 = 256 * mgMajor x.word + mgMinor x.word := by
  rw [State.noteDriver, State.odGet_odSet_other _ _ (by decide), State.odGet_odSet_self]

theorem State.odGet_welcome (s : State) (x : MbxIn) :
    (s.welcome x).odGet 0x2150 3 = 256 * mgMajor x.word + mgMinor x.word :=
  (odGet_of_loader (s.loader_welcome x) _ _ (by decide)).trans (s.odGet_noteDriver x)

theorem State.welcome_seqs (s : State) {x : MbxIn} (mbx0 : x.mbx = 0) (host : x.queue = none) :
    ((s.welcome x).mbx x.die 0).inSeq = 0 ∧ ((s.welcome x).mbx x.die 0).outSeq = 1 := by
  have answered (u : State) (body : List Byte) := u.answer_seqs_of_host body host
  rw [mbx0] at answered
  unfold State.welcome
  dsimp only
  obtain ⟨inSeq, outSeq⟩ := answered ((s.noteDriver x).putMbx x.die 0
    { (s.noteDriver x).mbx x.die 0 with inSeq := 0, outSeq := 0 }) (s.noteDriver x).helloBody
  rw [State.mbx_putMbx_self] at inSeq outSeq
  exact ⟨inSeq, outSeq⟩

/-! ### A refused bundle (R370, R371, R612) -/

theorem State.refuse_mode (s : State) (reason : Nat) : (s.refuse reason).mode = .refused :=
  (keeps_mode (w := allBut .mode) (State.failProbation_mask _ _ (by decide))).trans (State.enterMode_mode ..)

theorem State.refuse_loadStep (s : State) (reason : Nat) : (s.refuse reason).fw.loadStep = 0 := by
  unfold State.refuse
  dsimp only
  rw [keeps_fw (w := allBut .fw) (State.failProbation_mask _ _ (by decide)),
    loadStep_of_loader (State.loader_enterMode ..)]
  split <;> rfl

theorem State.refuse_running (s : State) (reason : Nat) : (s.refuse reason).rst.running = none := by
  unfold State.refuse
  dsimp only
  rw [keeps_rst (w := allBut .rst) (State.failProbation_mask _ _ (by decide)),
    keeps_rst (w := allBut .rst) (State.enterMode_mask _ _ (by decide))]
  split <;> rfl

/-- The failure of a probation writes the records 0x2A00, 0x2A10 and 0x2A20 alone. -/
theorem State.odGet_failProbation_load (s : State) (c sub : Nat) (hsub : sub < 256) :
    (s.failProbation c).odGet 0x2150 sub = s.odGet 0x2150 sub := by
  have other {ix tub : Nat} (h : 0x2A00 ≤ ix) : odKey ix tub ≠ odKey 0x2150 sub := by
    unfold odKey
    omega
  unfold State.failProbation
  dsimp only
  split
  · unfold State.imageResult
    rw [State.odGet_commit_other _ _ (other (by decide)) (other (by decide)),
      State.odGet_odSet_other _ _ (other (by decide)), State.odGet_odSet_other _ _ (other (by decide)),
      State.odGet_odSet_other _ _ (other (by decide)), State.odGet_odInc_other _ _ (other (by decide))]
    rfl
  · rfl

theorem State.odGet_refuse (s : State) (reason : Nat) : (s.refuse reason).odGet 0x2150 7 = reason := by
  unfold State.refuse
  dsimp only
  rw [State.odGet_failProbation_load _ _ _ (by decide), odGet_of_loader (State.loader_enterMode ..) _ _ (by decide),
    State.odGet_odSet_self]

/-! ### Components (R353, R369, R372) -/

/-- A change of a component's state reaches, beside that component, no more than an event and a notification do. -/
theorem State.loader_setComp (s : State) (die c : Nat) (st : CompState) (cause : Nat) :
    (s.setComp die c st cause).loader = (s.putComp die c { s.comp die c with state := st }).loader := by
  unfold State.setComp
  exact (State.loader_raise ..).trans (loader_of_still (still_mbxSend ..))

theorem State.setComp_comp_self (s : State) (die c : Nat) (st : CompState) (cause : Nat) :
    (s.setComp die c st cause).comp die c = { s.comp die c with state := st } :=
  (comp_of_loader (s.loader_setComp die c st cause) die c).trans (s.comp_putComp_self die c _)

theorem State.setComp_comp_other (s : State) (die : Nat) {c d : Nat} (st : CompState) (cause : Nat) (other : d ≠ c) :
    (s.setComp die c st cause).comp die d = s.comp die d :=
  (comp_of_loader (s.loader_setComp die c st cause) die d).trans (s.comp_putComp_other _ (by omega))

theorem State.compIn_of_mem {s : State} {die c : Nat} {ok : CompState → Bool} (low : 2 ≤ c) (high : c ≤ 11)
    (state : ok (s.comp die c).state = true) : s.compIn die c ok = true := by
  simp only [State.compIn, low, high, state, decide_true, Bool.and_true]

/-- The kernel, the loader and the ids above 11 are no components of the runtime. -/
theorem State.compIn_of_foreign {s : State} {die c : Nat} (ok : CompState → Bool) (foreign : c < 2 ∨ 11 < c) :
    s.compIn die c ok = false := by
  have outside : ¬(2 ≤ c ∧ c ≤ 11) := by omega
  rw [State.compIn, ← Bool.decide_and, decide_eq_false outside, Bool.false_and]

/-- The component that a message names. -/
abbrev State.named (s : State) (x : MbxIn) : Nat := leNat ((s.body x).take 1)

/-- A LOAD puts the component in its place, on its home core (R354). -/
def State.placeComp (s : State) (x : MbxIn) : State :=
  (s.homeCore x.die).2.putComp x.die (s.named x) { s.comp x.die (s.named x) with
    version := s.loadedImage.version, digest := leNat ((s.body x).drop 16), core := (s.homeCore x.die).1, data := {},
    windows := true }

/-- A LOAD whose digest is the manifest's is carried out where the component is free to take it. -/
theorem State.loadComponent_comps {s : State} {x : MbxIn} (low : 2 ≤ s.named x) (high : s.named x ≤ 11)
    (free : (s.comp x.die (s.named x)).state = .absent ∨ (s.comp x.die (s.named x)).state = .loaded)
    (mode : s.mode ≠ .refused) (step : s.fw.loadStep ≠ 4)
    (digest : s.loadedImage.partDigest (0x20 + s.named x) = some (leNat ((s.body x).drop 16))) :
    (s.loadComponent x).fw.comps = ((s.placeComp x).setComp x.die (s.named x) .loaded 0).fw.comps := by
  have allowed : s.compIn x.die (s.named x) (fun st => st = .absent || st = .loaded) = true :=
    State.compIn_of_mem low high (by simpa using free)
  unfold State.loadComponent
  dsimp only
  rw [if_neg (by simp [allowed, mode, step]), digest, if_neg (by simp)]
  refine Eq.trans ?_ (comps_of_loader (State.loader_answer_ok _ x []))
  split <;> rfl

theorem State.placeComp_comp_self (s : State) (x : MbxIn) :
    (s.placeComp x).comp x.die (s.named x) = { s.comp x.die (s.named x) with
      version := s.loadedImage.version, digest := leNat ((s.body x).drop 16), core := (s.homeCore x.die).1, data := {},
      windows := true } := State.comp_putComp_self ..

theorem State.placeComp_comp_other (s : State) (x : MbxIn) {c : Nat} (other : c ≠ s.named x) :
    (s.placeComp x).comp x.die c = s.comp x.die c := State.comp_putComp_other _ _ (by omega)

theorem State.startComponent_comps {s : State} {x : MbxIn} (low : 2 ≤ s.named x) (high : s.named x ≤ 11)
    (loaded : (s.comp x.die (s.named x)).state = .loaded) :
    (s.startComponent x).fw.comps = (s.setComp x.die (s.named x) .running 0).fw.comps := by
  have allowed : s.compIn x.die (s.named x) (fun st => st = .loaded || st = .running) = true :=
    State.compIn_of_mem low high (by simp [loaded])
  unfold State.startComponent
  dsimp only
  rw [if_pos allowed, if_pos loaded]
  refine Eq.trans ?_ (comps_of_loader (State.loader_answer_ok _ x []))
  split <;> rfl

theorem State.stopComponent_of_running {s : State} {x : MbxIn} (low : 2 ≤ s.named x) (high : s.named x ≤ 11)
    (running : (s.comp x.die (s.named x)).state = .running) :
    s.stopComponent x = (s.setComp x.die (s.named x) .loaded 0).answer x 0 [] := by
  have allowed : s.compIn x.die (s.named x) (fun st => st = .loaded || st = .running) = true :=
    State.compIn_of_mem low high (by simp [running])
  exact (if_pos allowed).trans (congrArg (fun u : State => u.answer x 0 []) (if_pos running))

section
variable {s : State} {x : MbxIn} (foreign : s.named x < 2 ∨ 11 < s.named x)
include foreign

theorem State.loadComponent_of_foreign : s.loadComponent x = s.answer x 0x89 [] :=
  if_pos (by rw [State.compIn_of_foreign _ foreign]; rfl)

theorem State.startComponent_of_foreign : s.startComponent x = s.answer x 0x89 [] :=
  if_neg (by rw [State.compIn_of_foreign _ foreign]; decide)

theorem State.stopComponent_of_foreign : s.stopComponent x = s.answer x 0x89 [] :=
  if_neg (by rw [State.compIn_of_foreign _ foreign]; decide)

end

/-! ### Health (R611) and mailbox assignment (R362) -/

theorem State.bundleHealth_of_settled {s : State} {x : MbxIn} (settled : s.store.probation = none) :
    s.bundleHealth x = s.answer x 0 [] := by
  unfold State.bundleHealth
  rw [settled]
  rfl

theorem State.odGet_bundleHealth_of_probation {s : State} {x : MbxIn} (probation : s.store.probation ≠ none) :
    (s.bundleHealth x).odGet 0x2A20 0x0D = 1 := by
  unfold State.bundleHealth
  rw [if_pos (Option.isSome_iff_ne_none.mpr probation), odGet_of_loader (State.loader_answer_ok ..) _ _ (by decide),
    State.odGet_commit_other _ _ (by decide) (by decide), State.odGet_odSet_self]

/-- An assignment of mailbox 0, which is the driver's own, is malformed (R362). -/
theorem State.mailboxAssign_of_first {s : State} {x : MbxIn} (spares : List CoreId) (first : s.named x = 0) :
    s.mailboxAssign x spares = s.answer x 0x84 [] :=
  if_pos (by simp [first])

/-- The fields of an assignment: the kind and the partition that the mailbox takes. -/
abbrev State.assignedKind (s : State) (x : MbxIn) : Nat := leNat (((s.body x).drop 1).take 1)
abbrev State.assignedPart (s : State) (x : MbxIn) : Nat := leNat (((s.body x).drop 2).take 1)

/-- An assignment whose fields are in their ranges (R362). -/
def State.AssignmentOk (s : State) (x : MbxIn) : Prop :=
  1 ≤ s.named x ∧ s.named x ≤ 63 ∧ s.assignedKind x ≤ 2 ∧ s.assignedPart x ≤ 7 ∧ leNat ((s.body x).drop 3) = 0

theorem State.mailboxAssign_of_ok {s : State} {x : MbxIn} (spares : List CoreId) (fields : s.AssignmentOk x)
    (step : s.fw.loadStep = 0) (mode : s.mode ≠ .refused) (empty : (s.mbx x.die (s.named x)).inb = []) :
    s.mailboxAssign x spares = (s.putMbx x.die (s.named x)
      { kind := mbxKindOf (s.assignedKind x), assigned := true, part := BitVec.ofNat 3 (s.assignedPart x) }).answer x 0
        [] := by
  obtain ⟨low, high, kinds, parts, rest⟩ := fields
  have wellFormed : ¬(decide (s.named x = 0) || decide (63 < s.named x) || decide (2 < s.assignedKind x)
      || decide (7 < s.assignedPart x) || decide (leNat ((s.body x).drop 3) ≠ 0)) = true := by
    simp only [Bool.or_eq_true, decide_eq_true_eq]
    omega
  have allowed : ¬(decide (s.fw.loadStep ≠ 0) && decide (s.fw.loadStep ≠ 7) || decide (s.mode = .refused)
      || !(s.mbx x.die (s.named x)).inb.isEmpty) = true := by
    simp [step, mode, empty]
  have outside : decide (s.fw.loadStep = 7) = false := by simp [step]
  exact (if_neg wellFormed).trans ((if_neg allowed).trans (if_neg (by rw [outside, Bool.false_and]; decide)))

/-! ### The reload of a refused bundle (R369, R371) -/

/-- The load of the bundle in slot `b` stands at step 4, before the state says so (R369). -/
def State.startLoad (s : State) (b : Bool) : State :=
  let img := s.store.runImg b
  let u := s.setStore { s.store with loadedB := b }
  let u := ((u.odSet 0x2150 5 img.digest).odSet 0x2150 6 img.text).odSet 0x2150 7 0
  (u.setFw { u.fw with loadStep := 4, helloEast := false, helloWest := false, loadSince := u.now }).setRst
    { u.rst with awaitSince := u.now }

/-- The slot of the current bundle; the first one where there is none (R369). -/
abbrev State.currentSlot (s : State) : Bool := (s.store.runIn .current).getD false

/-- The bundle to load is the current one, and its checks pass (R369 steps 1 to 3). -/
def State.CurrentPasses (s : State) : Prop :=
  s.store.runIn .candidate = none ∧ s.store.runIn .probation = none ∧ (s.store.runImg s.currentSlot).form = 0
    ∧ s.sec.fuseRuntime ≤ (s.store.runImg s.currentSlot).counter

theorem State.loadRuntime_of_current {s : State} (passes : s.CurrentPasses) :
    s.loadRuntime 0 = (s.startLoad s.currentSlot).enterMode .awaitRuntime := by
  obtain ⟨noCandidate, noProbation, form, counter⟩ := passes
  unfold State.loadRuntime
  simp only [noCandidate, noProbation, Bool.false_eq_true, if_false]
  unfold State.currentSlot at form counter ⊢
  generalize (s.store.runIn .current).getD false = b at form counter
  have fuse (u : State) : (u.enterMode .awaitRuntime).sec = u.sec :=
    keeps_sec (w := allBut .sec) (State.enterMode_mask _ _ (by decide))
  simp only [form, fuse, State.setRst_sec, State.setFw_sec, State.odSet, State.setOd_sec, State.setStore_sec,
    Nat.not_lt_of_le counter]
  rfl

/-- The components go, while the store, the fuses and the time stay (R371). -/
theorem State.dropComps_frame (s : State) :
    s.dropComps.store = s.store ∧ s.dropComps.sec = s.sec ∧ s.dropComps.now = s.now :=
  have kept {m0 : Nat} (hw : 1165491052494850 &&& m0 = 1165491052494850) : s.dropComps.mask m0 = s.mask m0 :=
    s.dropComps_mask hw
  ⟨keeps_store (w := allBut .store) (kept (by decide)), keeps_sec (w := allBut .sec) (kept (by decide)),
    congrArg (fun t : Time => t.base.toNat / 2 ^ 32) (keeps_time (w := allBut .time) (kept (by decide)))⟩

theorem State.reloadRuntime_of_current {s : State} (refused : s.mode = .refused) (passes : s.CurrentPasses) :
    s.reloadRuntime 0 = ((s.dropComps.odSet 0x2150 0x0B 1).startLoad s.currentSlot).enterMode .awaitRuntime := by
  obtain ⟨store, sec, -⟩ := s.dropComps_frame
  unfold State.reloadRuntime
  rw [if_pos refused]
  generalize s.dropComps = u at store sec
  unfold State.CurrentPasses State.currentSlot at passes
  unfold State.currentSlot
  rw [← store, ← sec] at passes
  rw [← store]
  exact State.loadRuntime_of_current (s := u.odSet 0x2150 0x0B 1) passes

theorem State.reloadRuntime_of_loaded {s : State} (reported : Nat)
    (mode : s.mode = .ready ∨ s.mode = .serving ∨ s.mode = .awaitRuntime) :
    s.reloadRuntime reported = s.odSet 0x2150 0x0B 3 := by
  unfold State.reloadRuntime State.asleep
  rcases mode with mode | mode | mode <;> rw [mode] <;> rfl

/-! ### The commands, once their message has passed -/

section
variable {s u : State} {m : MbxSrc} {x : MbxIn}

theorem exec_hello_of_received (e : s.receive m 1 = (some x, u)) : exec (.hello m) s = .next (u.helloAccepted x) := by
  show Host.Outcome.next (s.hello m) = _
  unfold State.hello
  dsimp only
  rw [e]

theorem exec_loadComponent_of_received (e : s.receive m 2 = (some x, u)) :
    exec (.loadComponent m) s = .next (u.loadComponent x) := by
  show execLoadComponent m s = _
  rw [execLoadComponent, e]

theorem exec_startComponent_of_received (e : s.receive m 3 = (some x, u)) :
    exec (.startComponent m) s = .next (u.startComponent x) := by
  show execStartComponent m s = _
  rw [execStartComponent, e]

theorem exec_stopComponent_of_received (e : s.receive m 4 = (some x, u)) :
    exec (.stopComponent m) s = .next (u.stopComponent x) := by
  show execStopComponent m s = _
  rw [execStopComponent, e]

theorem exec_componentStatus_of_received (e : s.receive m 5 = (some x, u)) :
    exec (.componentStatus m) s = .next (u.componentStatus x) := by
  show execComponentStatus m s = _
  rw [execComponentStatus, e]

theorem exec_bundleHealth_of_received (e : s.receive m 6 = (some x, u)) :
    exec (.bundleHealth m) s = .next (u.bundleHealth x) := by
  show execBundleHealth m s = _
  rw [execBundleHealth, e]

theorem exec_mailboxAssign_of_received (spares : List CoreId) (e : s.receive m 7 = (some x, u)) :
    exec (.mailboxAssign m spares) s = .next (u.mailboxAssign x spares) := by
  show execMailboxAssign m spares s = _
  rw [execMailboxAssign, e]

end

/-- The fields that HELLO may change. -/
abbrev helloFields : List Field := [.free, .mode, .idle, .rst, .queues, .dram, .upsets, .ecc, .tlb, .modMem, .fw, .ev,
  .rel, .sec, .pow, .store, .od]

/-- The fields that a LOAD, or a reload of the bundle, may change. -/
abbrev loadFields : List Field := [.free, .mode, .idle, .rst, .queues, .dram, .upsets, .ecc, .tlb, .modMem, .fw, .ev,
  .rel, .pow, .store, .od]

/-- The fields that a START or a STOP may change. -/
abbrev componentFields : List Field := [.free, .idle, .queues, .dram, .upsets, .ecc, .tlb, .modMem, .fw, .ev, .od]

section
variable {s u : State} {m : MbxSrc} {x : MbxIn}

theorem only_helloAccepted (e : s.receive m 1 = (some x, u)) : Only helloFields s (u.helloAccepted x) :=
  (u.helloAccepted_mask x (by decide)).trans (received_mask e (by decide))

theorem only_startComponent (e : s.receive m 3 = (some x, u)) : Only componentFields s (u.startComponent x) :=
  (u.startComponent_mask x (by decide)).trans (received_mask e (by decide))

theorem only_stopComponent (e : s.receive m 4 = (some x, u)) : Only componentFields s (u.stopComponent x) :=
  (u.stopComponent_mask x (by decide)).trans (received_mask e (by decide))

/-! ### The clauses of O39 -/

theorem gives_hello_of_running (e : s.receive m 1 = (some x, u)) (mbx0 : x.mbx = 0) (host : x.queue = none)
    (mode : u.mode ≠ .awaitRuntime) (meets : u.helloCheck x = 0) :
    Gives (.hello m) s (fun t => t.odGet 0x2150 3 = 256 * mgMajor x.word + mgMinor x.word
      ∧ (t.mbx x.die 0).inSeq = 0 ∧ (t.mbx x.die 0).outSeq = 1 ∧ t.mode = u.mode ∧ Only helloFields s t) := by
  have frame := only_helloAccepted e
  obtain ⟨inSeq, outSeq⟩ := u.welcome_seqs mbx0 host
  refine ⟨_, exec_hello_of_received e, ?_⟩
  rw [State.helloAccepted_of_running meets mode] at frame ⊢
  exact ⟨u.odGet_welcome x, inSeq, outSeq, u.welcome_mode x, frame⟩

theorem gives_hello_of_last (e : s.receive m 1 = (some x, u)) (west : x.die = 1) (waits : u.awaitsHello)
    (east : u.fw.helloEast = true) (meets : u.helloCheck x = 0) :
    Gives (.hello m) s (fun t => t.fw.loadStep = 5 ∧ t.fw.helloWest = true ∧ t.mode = .awaitRuntime
      ∧ Only helloFields s t) := by
  have frame := only_helloAccepted e
  refine ⟨_, exec_hello_of_received e, ?_⟩
  rw [State.helloAccepted_of_last meets waits east west] at frame ⊢
  have firmware (v : State) : v.proveTrial.fw = v.fw := keeps_fw (w := allBut .fw) (v.proveTrial_mask (by decide))
  have state (v : State) : v.proveTrial.mode = v.mode := keeps_mode (w := allBut .mode) (v.proveTrial_mask (by decide))
  exact ⟨congrArg Fw.loadStep (firmware _), congrArg Fw.helloWest (firmware _),
    (state _).trans ((u.welcome_mode x).trans waits.1), frame⟩

theorem gives_hello_of_refused (e : s.receive m 1 = (some x, u)) (waits : u.awaitsHello) (fails : u.helloCheck x ≠ 0) :
    Gives (.hello m) s (fun t => t.mode = .refused ∧ t.fw.loadStep = 0 ∧ t.rst.running = none
      ∧ t.odGet 0x2150 7 = u.helloCheck x ∧ Only helloFields s t) := by
  have frame := only_helloAccepted e
  refine ⟨_, exec_hello_of_received e, ?_⟩
  rw [State.helloAccepted_of_refused fails waits] at frame ⊢
  exact ⟨State.refuse_mode .., State.refuse_loadStep .., State.refuse_running .., State.odGet_refuse .., frame⟩

theorem gives_loadComponent (e : s.receive m 2 = (some x, u)) (low : 2 ≤ u.named x) (high : u.named x ≤ 11)
    (free : (u.comp x.die (u.named x)).state = .absent ∨ (u.comp x.die (u.named x)).state = .loaded)
    (mode : u.mode ≠ .refused) (step : u.fw.loadStep ≠ 4)
    (digest : u.loadedImage.partDigest (0x20 + u.named x) = some (leNat ((u.body x).drop 16))) :
    Gives (.loadComponent m) s (fun t => (t.comp x.die (u.named x)).state = .loaded
      ∧ (t.comp x.die (u.named x)).digest = leNat ((u.body x).drop 16)
      ∧ (t.comp x.die (u.named x)).version = u.loadedImage.version
      ∧ (∀ c : Nat, c ≠ u.named x → t.comp x.die c = u.comp x.die c)
      ∧ Only loadFields s t) := by
  have comps (c : Nat) :
      (u.loadComponent x).comp x.die c = ((u.placeComp x).setComp x.die (u.named x) .loaded 0).comp x.die c :=
    congrArg (·.getD (16 * x.die + c) {}) (State.loadComponent_comps low high free mode step digest)
  have loaded := (comps (u.named x)).trans (State.setComp_comp_self ..)
  rw [State.placeComp_comp_self] at loaded
  refine ⟨_, exec_loadComponent_of_received e, congrArg Comp.state loaded, congrArg Comp.digest loaded,
    congrArg Comp.version loaded, fun c other => ?_,
    (u.loadComponent_mask x (by decide)).trans (received_mask e (by decide))⟩
  rw [comps, State.setComp_comp_other _ _ _ _ other, State.placeComp_comp_other _ _ other]

theorem gives_startComponent (e : s.receive m 3 = (some x, u)) (low : 2 ≤ u.named x) (high : u.named x ≤ 11)
    (loaded : (u.comp x.die (u.named x)).state = .loaded) :
    Gives (.startComponent m) s (fun t => (t.comp x.die (u.named x)).state = .running
      ∧ (∀ c : Nat, c ≠ u.named x → t.comp x.die c = u.comp x.die c) ∧ t.mode = s.mode ∧ Only componentFields s t) := by
  have comps (c : Nat) : (u.startComponent x).comp x.die c = (u.setComp x.die (u.named x) .running 0).comp x.die c :=
    congrArg (·.getD (16 * x.die + c) {}) (State.startComponent_comps low high loaded)
  have frame := only_startComponent e
  exact ⟨_, exec_startComponent_of_received e,
    congrArg Comp.state ((comps _).trans (State.setComp_comp_self ..)),
    fun c other => (comps c).trans (State.setComp_comp_other _ _ _ _ other), keeps_mode frame, frame⟩

theorem gives_stopComponent (e : s.receive m 4 = (some x, u)) (low : 2 ≤ u.named x) (high : u.named x ≤ 11)
    (running : (u.comp x.die (u.named x)).state = .running) :
    Gives (.stopComponent m) s (fun t => (t.comp x.die (u.named x)).state = .loaded
      ∧ (∀ c : Nat, c ≠ u.named x → t.comp x.die c = u.comp x.die c) ∧ t.mode = s.mode ∧ Only componentFields s t) := by
  have comps (c : Nat) : (u.stopComponent x).comp x.die c = (u.setComp x.die (u.named x) .loaded 0).comp x.die c := by
    rw [State.stopComponent_of_running low high running]
    exact comp_of_loader (State.loader_answer_ok ..) x.die c
  have frame := only_stopComponent e
  exact ⟨_, exec_stopComponent_of_received e,
    congrArg Comp.state ((comps _).trans (State.setComp_comp_self ..)),
    fun c other => (comps c).trans (State.setComp_comp_other _ _ _ _ other), keeps_mode frame, frame⟩

theorem exec_component_of_foreign (foreign : u.named x < 2 ∨ 11 < u.named x) :
    (s.receive m 2 = (some x, u) → exec (.loadComponent m) s = .next (u.answer x 0x89 []))
      ∧ (s.receive m 3 = (some x, u) → exec (.startComponent m) s = .next (u.answer x 0x89 []))
      ∧ (s.receive m 4 = (some x, u) → exec (.stopComponent m) s = .next (u.answer x 0x89 [])) :=
  ⟨fun e => (exec_loadComponent_of_received e).trans (congrArg _ (State.loadComponent_of_foreign foreign)),
    fun e => (exec_startComponent_of_received e).trans (congrArg _ (State.startComponent_of_foreign foreign)),
    fun e => (exec_stopComponent_of_received e).trans (congrArg _ (State.stopComponent_of_foreign foreign))⟩

theorem gives_bundleHealth_of_probation (e : s.receive m 6 = (some x, u)) (probation : u.store.probation ≠ none) :
    Gives (.bundleHealth m) s (fun t => t.odGet 0x2A20 0x0D = 1 ∧ t.mode = s.mode
      ∧ Only [.free, .idle, .queues, .dram, .upsets, .ecc, .tlb, .modMem, .fw, .ev, .rel, .store, .od] s t) :=
  have frame : Only [.free, .idle, .queues, .dram, .upsets, .ecc, .tlb, .modMem, .fw, .ev, .rel, .store, .od] s
      (u.bundleHealth x) := (u.bundleHealth_mask x (by decide)).trans (received_mask e (by decide))
  ⟨_, exec_bundleHealth_of_received e, State.odGet_bundleHealth_of_probation probation, keeps_mode frame, frame⟩

end

theorem gives_reloadRuntime_of_current {s : State} (refused : s.mode = .refused) (passes : s.CurrentPasses) :
    Gives (.reloadRuntime 0) s (fun t => t.mode = .awaitRuntime ∧ t.fw.loadStep = 4 ∧ t.rst.awaitSince = s.now
      ∧ t.fw.helloEast = false ∧ t.fw.helloWest = false
      ∧ Only loadFields s t) := by
  obtain ⟨-, -, now⟩ := s.dropComps_frame
  have frame := s.reloadRuntime_mask 0 (m0 := maskOf loadFields) (by decide)
  refine ⟨s.reloadRuntime 0, rfl, ?_⟩
  rw [State.reloadRuntime_of_current refused passes] at frame ⊢
  generalize s.dropComps = v at now frame ⊢
  have entered (v : State) := v.loader_enterMode .awaitRuntime
  refine ⟨State.enterMode_mode .., loadStep_of_loader (entered _), ?_, helloEast_of_loader (entered _),
    helloWest_of_loader (entered _), frame⟩
  exact (congrArg Rst.awaitSince (keeps_rst (w := allBut .rst) (State.enterMode_mask _ _ (by decide)))).trans now

/-- Settles O39, clause by clause: each command is its own function once its message has passed, the lemma for the case
that applies says what that leaves, and the replies and notifications go through `State.loader`. -/
theorem runtimeLoad : Obligations.RuntimeLoad := by
  unfold Obligations.RuntimeLoad
  refine ⟨fun s u m x e mbx0 host mode meets => gives_hello_of_running e mbx0 host mode meets,
    fun s u m x e _ _ west mode step east meets => gives_hello_of_last e west ⟨mode, step⟩ east meets,
    fun s u m x e _ _ mode step fails => gives_hello_of_refused e ⟨mode, step⟩ fails,
    fun s u m x e low high free mode step digest => gives_loadComponent e low high free mode step digest,
    fun s u m x e low high loaded => gives_startComponent e low high loaded,
    fun s u m x e low high running => gives_stopComponent e low high running,
    fun s u m x foreign => exec_component_of_foreign foreign,
    fun s u m x e => exec_componentStatus_of_received e,
    fun s u m x e probation => gives_bundleHealth_of_probation e probation,
    fun s u m x e settled =>
      (exec_bundleHealth_of_received e).trans (congrArg _ (State.bundleHealth_of_settled settled)),
    ?_,
    fun s u m x e first =>
      (exec_mailboxAssign_of_received [] e).trans (congrArg _ (State.mailboxAssign_of_first [] first)),
    fun s refused noCandidate noProbation form counter =>
      gives_reloadRuntime_of_current refused ⟨noCandidate, noProbation, form, counter⟩,
    fun s r mode => congrArg Host.Outcome.next (State.reloadRuntime_of_loaded r mode)⟩
  rintro s u m x _ _ _ e step mode rfl rfl rfl rest low high kinds parts empty
  exact (exec_mailboxAssign_of_received [] e).trans
    (congrArg _ (State.mailboxAssign_of_ok [] ⟨low, high, kinds, parts, rest⟩ step mode empty))

end Sys2Proof.Machine
end

section
/-!
The step and the state at reset (95_what_each_step_holds; R440, R574), for O1 and O5.
-/
namespace Sys2Proof.Machine

set_option Elab.async false
open Sys2Proof

/-- Settles O1: both clauses are the two branches of `step`. -/
theorem stepRunsFront : Obligations.StepRunsFront := by
  refine ⟨fun s c rest front => ?_, fun s empty => ?_⟩
  · unfold step
    rw [front]
  · unfold step
    rw [empty]

theorem reset_core_spad_wf (n : Nat) : (State.reset.core n).spad.wf = true := by
  by_cases spare : n = 8 ∨ n = 17
  · rcases spare with rfl | rfl <;> rfl
  · have unlisted : State.reset.core n = {} :=
      AMap.getD_of_unlisted (m := State.reset.cores) {} (by simpa [State.reset, eq_comm] using spare)
    rw [unlisted]
    rfl

theorem reset_sub_mem_wf (n : Nat) : (State.reset.sub n).mem.wf = true := by
  by_cases spare : n = 32 ∨ n = 33 ∨ n = 66 ∨ n = 67
  · rcases spare with rfl | rfl | rfl | rfl <;> rfl
  · have unlisted : State.reset.sub n = {} :=
      AMap.getD_of_unlisted (m := State.reset.dram) {} (by simpa [State.reset, eq_comm] using spare)
    rw [unlisted]
    rfl

/-- Settles O5: the invariants read off the fields of `State.reset`. -/
theorem resetMeetsInvariants : Obligations.ResetMeetsInvariants :=
  ⟨by unfold RateBound; decide, ⟨rfl, fun _ listed => absurd listed Bool.false_ne_true⟩, rfl, rfl, reset_core_spad_wf,
    reset_sub_mem_wf⟩

end Sys2Proof.Machine
end

section
/-!
Two statements that their own rules do not bear out as written: a restarting counter that is at its threshold already
(R466, log 177), for O49, and a sequence number that comes back after its source's entry has expired (R426), for O45.
-/
namespace Sys2Proof.Machine

set_option Elab.async false
open Sys2Proof

/-- A restarting counter with threshold 1 that stands at 5 already. -/
def pastThreshold : Ctr := { value := 5, threshold := 1, control := 2#64 <<< 60 }

theorem pastThreshold_add_zero : ctMode pastThreshold.control.toNat = 2 ∧ (pastThreshold.add 0).2.1 = false := by decide

/-- Refutes O49: its clause for a restarting counter asks for a restart whenever the count is at or over the threshold.
R466 restarts a counter that crosses it: `pastThreshold` stands over its threshold already, and adding 0 crosses nothing. -/
theorem not_performanceCounters : ¬ Obligations.PerformanceCounters := by
  unfold Obligations.PerformanceCounters
  rintro ⟨-, -, restarts, -⟩
  obtain ⟨mode, stays⟩ := pastThreshold_add_zero
  obtain ⟨-, raised⟩ := restarts pastThreshold 0 mode (by decide) (by decide)
  rw [stays] at raised
  exact absurd raised (by decide)

/-- Number 0 from source 0 is new at time 0, and it is new again 1 s later, when the source's entry has lapsed. -/
theorem Link.take_again_after_expiry :
    (({} : Link).take 0 0 0).1 = true ∧ ((({} : Link).take 0 0 0).2.take 0 0 250000000).1 = true := by decide

/-- Refutes O45: its first clause bounds neither time. A source's entry lapses 1 s after its last frame (R426), so the
number taken at time 0 is taken again at 250,000,000 counts. -/
theorem not_networkReception : ¬ Obligations.NetworkReception := by
  unfold Obligations.NetworkReception
  rintro ⟨once, -⟩
  obtain ⟨first, again⟩ := Link.take_again_after_expiry
  have refused := once {} (({} : Link).take 0 0 0).2 0 0 0 250000000 (Prod.ext first rfl)
  rw [again] at refused
  exact absurd refused (by decide)

end Sys2Proof.Machine
end

section
/-!
What no command changes: the waiting commands, and the bound of the rate correction (R440), for O2 and O3. The frames
of Laws/Frame say of most commands that they leave both fields; the functions that write the time are taken one by one.
-/
namespace Sys2Proof.Machine

set_option Elab.async false
open Sys2Proof

/-- From `s` to `t` the waiting commands stay, and a rate correction within its bound stays within it. -/
def ClockKept (s t : State) : Prop := t.pending = s.pending ∧ (RateBound s → RateBound t)

/-- The mask of every field but the waiting commands and the time. -/
abbrev notClock : Nat := 2 ^ 52 - 1 - 2 ^ Field.pending.bit - 2 ^ Field.time.bit

namespace ClockKept

theorem refl (s : State) : ClockKept s s := ⟨rfl, id⟩

theorem trans {s u t : State} (h : ClockKept s u) (k : ClockKept u t) : ClockKept s t :=
  ⟨k.1.trans h.1, k.2 ∘ h.2⟩

theorem of_eq {s t : State} (pending : t.pending = s.pending) (rate : t.time.rate = s.time.rate) : ClockKept s t :=
  ⟨pending, fun h => by rwa [RateBound, rate]⟩

theorem of_mask {s t : State} (e : t.mask notClock = s.mask notClock) : ClockKept s t :=
  of_eq (keeps_pending e) (by rw [keeps_time e])

theorem masked {s u t : State} (h : ClockKept s u) (e : t.mask notClock = u.mask notClock) : ClockKept s t :=
  h.trans (.of_mask e)

theorem setTime {s : State} {x : Time} (rate : x.rate = s.time.rate) : ClockKept s (s.setTime x) := .of_eq rfl rate

theorem ite {s a b : State} {c : Prop} [Decidable c] (ha : ClockKept s a) (hb : ClockKept s b) :
    ClockKept s (if c then a else b) := by
  split <;> assumption

theorem ite_snd {α : Type} {s : State} {c : Prop} [Decidable c] {a b : α × State} (ha : ClockKept s a.2)
    (hb : ClockKept s b.2) : ClockKept s (if c then a else b).2 := by
  split <;> assumption

end ClockKept

/-! ### The servo (R443–R448) -/

theorem rateOf_bounds (up : Bool) (f : Int × Nat) (e : Int) : -429496 ≤ rateOf up f e ∧ rateOf up f e ≤ 429496 := by
  unfold rateOf clampInt
  omega


theorem State.acceptPulse_rate (s : State) (interval : Nat) :
    ∃ (up : Bool) (f : Int × Nat) (e : Int), (s.acceptPulse interval).time.rate = rateOf up f e := by
  unfold State.acceptPulse
  dsimp only
  rw [keeps_time (w := notClock) (State.condition_mask _ _ _ _ _ (by decide)),
    keeps_time (w := notClock) (State.odInc_mask _ _ _ _ (by decide))]
  exact ⟨_, _, _, rfl⟩

theorem State.acceptPulse_kept (s : State) (interval : Nat) : ClockKept s (s.acceptPulse interval) := by
  refine ⟨keeps_pending (w := allBut .pending) (State.acceptPulse_mask s interval (by decide)), fun _ => ?_⟩
  obtain ⟨up, f, e, rate⟩ := s.acceptPulse_rate interval
  rw [RateBound, rate]
  exact rateOf_bounds up f e

theorem State.ppsPulse_kept (s : State) : ClockKept s s.ppsPulse := by
  unfold State.ppsPulse
  refine .ite (.trans (.of_mask (State.condition_mask s 0 17 false 0 (by decide))) ?_) (.refl s)
  dsimp only
  split
  · exact .setTime rfl
  · refine .ite (State.acceptPulse_kept _ _) (.masked (.setTime ?_) (State.odInc_mask _ _ _ _ (by decide)))
    rfl

theorem State.enterHoldover_kept (s : State) : ClockKept s s.enterHoldover := by
  unfold State.enterHoldover
  dsimp only
  refine .masked ⟨?_, fun _ => ?_⟩ (State.condition_mask (hw := rfl) ..)
  · rfl
  · exact rateOf_bounds _ _ _

theorem State.ppsStuck_kept (s : State) : ClockKept s s.ppsStuck := by
  unfold State.ppsStuck
  refine .ite ?_ (.refl s)
  dsimp only
  have noted : ClockKept s ((s.setTime { s.time with stuck := true }).condition 0 17 true 0) :=
    .masked (u := s.setTime { s.time with stuck := true }) (.setTime rfl) (State.condition_mask _ 0 17 true 0 rfl)
  split
  · exact noted.trans (State.enterHoldover_kept _)
  · exact noted.trans (State.enterHoldover_kept _)
  · exact noted

theorem State.holdoverEntry_kept (s : State) : ClockKept s s.holdoverEntry := by
  unfold State.holdoverEntry
  split
  · exact .ite s.enterHoldover_kept (.refl s)
  · exact .ite s.enterHoldover_kept (.refl s)
  · exact .refl s

/-! ### Losses, starts and stops (R574, R588) -/

/-- A loss that restarts the timebase sets the rate to 0; any other leaves it. -/
theorem State.loseTime_kept (s : State) (k : Loss) : ClockKept s (s.loseTime k) := by
  unfold State.loseTime
  refine .ite ⟨rfl, fun _ => ?_⟩ (.setTime rfl)
  exact (by decide : (-429496 : Int) ≤ 0 ∧ (0 : Int) ≤ 429496)

theorem State.loseRest_pending (s : State) (k : Loss) : (s.loseRest k).pending = s.pending := by
  unfold State.loseRest State.loseTime
  cases k <;> rfl

theorem State.loseRest_rate (s : State) (k : Loss) : (s.loseRest k).time.rate = (s.loseTime k).time.rate := by
  unfold State.loseRest State.loseTime
  cases k <;> rfl

theorem State.loseRest_kept (s : State) (k : Loss) : ClockKept s (s.loseRest k) :=
  ⟨s.loseRest_pending k, fun h => by rw [RateBound, s.loseRest_rate k]; exact (s.loseTime_kept k).2 h⟩

/-- After the time a loss drops dictionary values and clears single fields: neither is a field of the clock. -/
theorem State.lose_after_rest (s : State) (k : Loss) :
    (s.lose k).mask notClock = (((s.loseDies k).loseFirmware k).loseRest k).mask notClock := by
  unfold State.lose
  simp (disch := decide) only [State.condition_mask, setD2dFails_mask, setWakeHeld_mask, setEntry_mask, setIdle_mask,
    State.odDrop_mask]

theorem State.lose_kept (s : State) (k : Loss) : ClockKept s (s.lose k) := by
  have before : ((s.loseDies k).loseFirmware k).mask notClock = s.mask notClock :=
    (State.loseFirmware_mask (hw := rfl) ..).trans (State.loseDies_mask (hw := rfl) ..)
  exact .trans (.of_mask before) ((State.loseRest_kept _ k).trans (.of_mask (s.lose_after_rest k)))

theorem State.pwrTake_kept (s : State) (cause : Nat) : ClockKept s (s.pwrTake cause) :=
  .trans (.of_mask (State.takeReset_mask (hw := rfl) ..))
    ((State.lose_kept _ .pwr).trans (.of_mask (State.enterMode_mask (hw := rfl) ..)))

theorem State.pwrStart_kept (s : State) (cause : Nat) (r : StartReport) : ClockKept s (s.pwrStart cause r) :=
  (s.pwrTake_kept cause).trans (.of_mask (State.coldStart_mask (hw := rfl) ..))

theorem State.modTake_kept (s : State) (cause : Nat) : ClockKept s (s.modTake cause) := by
  refine .trans (.of_mask ?_) (.trans (.of_mask (State.takeReset_mask (hw := rfl) ..))
    ((State.lose_kept _ .mod).trans (.of_mask (State.enterMode_mask (hw := rfl) ..))))
  exact mask_ite_eq rfl (State.abortGroups_mask (hw := rfl) ..)

theorem State.modStart_kept (s : State) (cause : Nat) (r : StartReport) : ClockKept s (s.modStart cause r) :=
  (s.modTake_kept cause).trans (.of_mask (State.coldStart_mask (hw := rfl) ..))

theorem State.warmStart_kept (s : State) (cause : Nat) (r : StartReport) : ClockKept s (s.warmStart cause r) := by
  unfold State.warmStart
  dsimp only
  refine .masked ?_ (mask_ite_eq ((State.toRecovery_mask (hw := rfl) ..).trans (State.failTrial_mask (hw := rfl) ..))
    (mask_ite_eq (State.toRecovery_mask (hw := rfl) ..) (State.trainAndLoad_mask (hw := rfl) ..)))
  refine .masked (.masked ?_ (State.enterMode_mask (hw := rfl) ..)) (State.failProbation_mask (hw := rfl) ..)
  refine .trans (.masked (.masked (.of_mask ?_) (setRst_mask _ _ rfl)) (State.takeReset_mask (hw := rfl) ..))
    (State.lose_kept _ .warm)
  exact mask_ite_eq rfl (State.prepare_mask (hw := rfl) ..)

theorem State.stopSequence_kept (s : State) (cause core : Nat) (detail : List (Nat × DVal)) (k : Loss) (torn : List Nat) :
    ClockKept s (s.stopSequence cause core detail k torn) := by
  unfold State.stopSequence
  dsimp only
  refine .masked (.trans ?_ (State.lose_kept _ k)) (setRst_mask _ _ rfl)
  refine .of_mask ((setTray_mask _ _ rfl).trans ((State.stopCommit_mask (hw := rfl) ..).trans
    ((State.endRetirements_mask (hw := rfl) ..).trans ?_)))
  refine Eq.trans (b := State.mask notClock ((s.raiseEast 35 cause).odInc 0x2001 9 1)) ?_ ?_
  · exact mask_ite_eq rfl (State.abortGroups_mask (hw := rfl) ..)
  · exact (State.odInc_mask (hw := rfl) ..).trans (State.raiseEast_mask (hw := rfl) ..)

theorem State.stopOpen_kept (s : State) (cause : Nat) (detail : List (Nat × DVal)) (why : OpenCause) (phase : TrayPhase)
    (torn : List Nat) : ClockKept s (s.stopOpen cause detail why phase torn) := by
  have gone (u : State) : ClockKept u (if phase = .unpowered then u.setTray u.tray.dark else u) :=
    .ite (.of_mask (setTray_mask _ _ rfl)) (.refl u)
  have added : ClockKept s (s.addCause cause) := .of_mask (State.addCause_mask (hw := rfl) ..)
  have stopped (x : Tray) : ClockKept s (((s.stopSequence cause 0 detail .pwr torn).setTray x).setMode .off) :=
    .masked (s.stopSequence_kept ..) ((setMode_mask _ _ rfl).trans (setTray_mask _ _ rfl))
  unfold State.stopOpen
  dsimp only
  split
  · exact (stopped _).trans (gone _)
  · exact (stopped _).trans (gone _)
  · exact (stopped _).trans (gone _)
  · exact added.trans (gone _)
  · exact gone s
  · exact gone s
  · exact added

theorem State.thermalStop_kept (s : State) (core : Nat) (torn : List Nat) : ClockKept s (s.thermalStop core torn) := by
  have unlocked (u : State) : ClockKept u (u.setTime { u.time with pps := .holdover }) := .setTime rfl
  unfold State.thermalStop
  refine .ite (.of_mask (State.addCause_mask (hw := rfl) ..)) (.ite (.refl s) ?_)
  dsimp only
  refine .masked ?_ ((State.enterMode_mask (hw := rfl) ..).trans (setRst_mask _ _ rfl))
  refine .trans (.trans (.of_mask ?_) (State.stopSequence_kept _ ..)) (unlocked _)
  exact (State.odInc_mask (hw := rfl) ..).trans ((setTray_mask _ _ rfl).trans
    ((State.raiseEast_mask (hw := rfl) ..).trans (State.condition_mask (hw := rfl) ..)))

theorem State.softStartDone_kept (s : State) (r : StartReport) : ClockKept s (s.softStartDone r) := by
  unfold State.softStartDone
  refine .ite ?_ (.refl s)
  exact .trans (.of_mask (setTray_mask _ _ rfl)) (.ite (State.pwrTake_kept _ _) (State.pwrStart_kept _ _ r))

theorem State.presenceBreak_kept (s : State) (pins mv us : Nat) (torn : List Nat) :
    ClockKept s (s.presenceBreak pins mv us torn) := by
  have placed (x : Tray) : ClockKept s (s.setTray x) := .of_mask (setTray_mask _ _ rfl)
  have raised (x : Tray) : ClockKept s ((s.setTray x).raiseEast 20 pins) :=
    (placed x).masked (State.raiseEast_mask (hw := rfl) ..)
  unfold State.presenceBreak
  refine .ite (.refl s) ?_
  split
  · exact (raised _).trans (State.stopOpen_kept _ ..)
  · exact (raised _).trans (State.stopOpen_kept _ ..)
  · exact (raised _).trans (State.stopOpen_kept _ ..)
  · exact (placed _).trans (State.stopOpen_kept _ ..)
  · exact (placed _).trans (State.stopOpen_kept _ ..)
  · exact placed _
  · exact placed _

theorem State.overvoltage_kept (s : State) (mv us : Nat) (torn : List Nat) : ClockKept s (s.overvoltage mv us torn) :=
  .ite (.trans (.of_mask (setTray_mask _ _ rfl)) (State.stopOpen_kept _ ..)) (.refl s)

theorem State.overcurrent_kept (s : State) (ma us : Nat) (torn : List Nat) : ClockKept s (s.overcurrent ma us torn) :=
  .ite (.trans (.of_mask (setTray_mask _ _ rfl)) (State.stopOpen_kept _ ..)) (.refl s)

theorem State.inputLoss_kept (s : State) (mv us : Nat) (torn : List Nat) : ClockKept s (s.inputLoss mv us torn) :=
  .trans (.of_mask (setTray_mask _ _ rfl)) (State.stopOpen_kept _ ..)

theorem State.below36_kept (s : State) (mv us : Nat) (torn : List Nat) : ClockKept s (s.below36 mv us torn) := by
  unfold State.below36
  refine .ite (.trans (.of_mask ?_) (State.stopOpen_kept _ ..)) (.refl s)
  exact (mask_ite_eq rfl (State.condition_mask (hw := rfl) ..)).trans (setTray_mask _ _ rfl)

theorem State.trayResetAssert_kept (s : State) : ClockKept s s.trayResetAssert := by
  unfold State.trayResetAssert
  refine .ite (.refl s) (.ite (.trans (.of_mask ?_) (State.modTake_kept _ 3)) (.of_mask (setTray_mask _ _ rfl)))
  exact (setTray_mask _ _ rfl).trans (State.raiseEast_mask (hw := rfl) ..)

theorem State.modReset_kept (s : State) (r : StartReport) : ClockKept s (s.modReset r) :=
  .ite (s.modStart_kept 4 r) (.refl s)

theorem State.warmReset_kept (s : State) (cause : Nat) (r : StartReport) : ClockKept s (s.warmReset cause r) := by
  unfold State.warmReset
  refine .ite (.trans (.of_mask ?_) (State.warmStart_kept _ cause r)) (.refl s)
  exact mask_ite_eq (State.raiseEast_mask (hw := rfl) ..) rfl

theorem State.loadOverrun_kept (s : State) (r : StartReport) : ClockKept s (s.loadOverrun r) := by
  unfold State.loadOverrun
  refine .ite (.trans (.of_mask ?_) (State.warmStart_kept _ 9 r)) (.refl s)
  exact (State.failProbation_mask (hw := rfl) ..).trans (setRst_mask _ _ rfl)

theorem State.returnToService_kept (s : State) (r : StartReport) : ClockKept s (s.returnToService r) := by
  unfold State.returnToService
  refine .ite (.trans (.of_mask ?_) (State.modStart_kept _ 5 r)) (.refl s)
  exact (State.commit_mask (hw := rfl) ..).trans (setRst_mask _ _ rfl)

theorem State.prepareTimeout_kept (s : State) (r : StartReport) : ClockKept s (s.prepareTimeout r) := by
  unfold State.prepareTimeout
  split
  · exact .ite (s.warmStart_kept 6 r) (.refl s)
  · exact .refl s

theorem State.stageArm_kept (s : State) (r : StartReport) : ClockKept s (s.stageArm r).2 := by
  have armed : ClockKept s s.arm := .of_mask (State.arm_mask (hw := rfl) ..)
  unfold State.stageArm
  dsimp only
  refine .ite_snd ?_ (.of_mask (State.odSet_mask (hw := rfl) ..))
  dsimp only
  exact armed.trans (.ite (State.modStart_kept _ 4 r) (.refl _))

theorem State.usePrevious_kept (s : State) (r : StartReport) : ClockKept s (s.usePrevious r).2 := by
  unfold State.usePrevious
  dsimp only
  refine .ite_snd ?_ (.of_mask (State.odSet_mask (hw := rfl) ..))
  dsimp only
  exact .trans (.of_mask (setStore_mask s _ rfl)) (State.modStart_kept _ 4 r)

/-! ### Writes of the dictionary, and the command windows (R392) -/

theorem State.actSingle_kept (s : State) (index sub v : Nat) (r : StartReport) : ClockKept s (s.actSingle index sub v r) := by
  unfold State.actSingle
  refine .ite (.of_mask (State.stateCommand_mask (hw := rfl) ..)) (.ite (s.modReset_kept r) (.ite (s.warmReset_kept 4 r)
    (.ite (s.returnToService_kept r) (.ite (.of_mask (State.reloadRuntime_mask (hw := rfl) ..)) ?_))))
  refine .ite (.of_mask (State.eraseObject_mask (hw := rfl) ..)) (.ite (.of_mask (State.eraseAll_mask (hw := rfl) ..))
    (.ite (.of_mask (State.queueControl_mask (hw := rfl) ..)) (.ite (.of_mask (State.switchOver_mask (hw := rfl) ..)) ?_)))
  refine .ite (.of_mask (State.odSet_mask (hw := rfl) ..)) (.ite (.of_mask (State.odSet_mask (hw := rfl) ..)) ?_)
  refine .ite (.ite (.of_mask (State.orderFreeze_mask (hw := rfl) ..)) (.of_mask (State.resumeCounters_mask (hw := rfl) ..)))
    (.ite (.ite (.of_mask (State.takeSnapshot_mask (hw := rfl) ..)) (.of_mask (State.snapshotResume_mask (hw := rfl) ..)))
      (.ite (.of_mask (State.injectSource_mask (hw := rfl) ..)) ?_))
  refine .ite (.ite (.of_mask (State.stageOpen_mask (hw := rfl) ..)) (.ite (.of_mask (State.stageDiscard_mask (hw := rfl) ..))
    (s.stageArm_kept r))) (.ite (s.usePrevious_kept r) (.ite (.ite ?_ ?_) (.refl s)))
  · exact .of_mask (State.openDebug_mask (hw := rfl) ..)
  · exact .of_mask (State.closeDebug_mask (hw := rfl) ..)

theorem State.act_kept (s : State) (index sub v : Nat) (r : StartReport) : ClockKept s (s.act index sub v r) := by
  unfold State.act
  refine .ite (.of_mask (State.closeByEntry_mask (hw := rfl) ..)) (.ite (.of_mask (State.coreAct_mask (hw := rfl) ..))
    (.ite (.of_mask (State.retireEntry_mask (hw := rfl) ..)) (.ite (.of_mask (State.orderRestart_mask (hw := rfl) ..)) ?_)))
  refine .ite (.ite (.of_mask (State.odSet_mask (hw := rfl) ..)) (.of_mask (State.portReturn_mask (hw := rfl) ..))) ?_
  refine .ite (.ite (.of_mask (State.passStart_mask (hw := rfl) ..)) (.of_mask (State.reportReplica_mask (hw := rfl) ..))) ?_
  refine .ite (.ite (.refl s) (.ite (.of_mask (State.odSet_mask (hw := rfl) ..)) (.of_mask ?_))) (s.actSingle_kept index sub v r)
  exact (State.odSet_mask (hw := rfl) ..).trans (State.startScrub_mask (hw := rfl) ..)

theorem State.applyWrite_kept (s : State) (index sub : Nat) (bs : List Byte) (running ok : Bool) (r : StartReport) :
    ClockKept s (s.applyWrite index sub bs running ok r).2 := by
  unfold State.applyWrite
  dsimp only
  split
  · exact .of_mask (State.commitEntry_mask (hw := rfl) ..)
  · refine .ite_snd (.ite_snd (.of_mask (State.writeDebug_mask (hw := rfl) ..)) (.refl s)) ?_
    exact .of_mask (State.setEntryValue_mask (hw := rfl) ..)
  · exact .of_mask (State.chunkWrite_mask (hw := rfl) ..)
  · exact .ite_snd (.refl s) (.trans (.of_mask (setRyc_mask _ _ rfl)) (State.act_kept _ index sub _ r))
  · exact .refl s

theorem State.writeNow_kept (s : State) (w : Who) (index sub : Nat) (bs : List Byte) (ok : Bool) :
    ClockKept s (s.writeNow w index sub bs ok) :=
  .ite (s.applyWrite_kept index sub bs false ok {}) (.refl s)

theorem State.settle_kept (s : State) (prims started : List HeldWrite) (w : HeldWrite) (ok : Bool) (r : StartReport) :
    ClockKept s (s.settle prims started w ok r).2 := by
  unfold State.settle
  exact .ite_snd (.of_mask (State.odInc_mask (hw := rfl) ..)) (.ite_snd (.refl s) (s.applyWrite_kept ..))

theorem State.settleAll_kept (ok : Bool) (r : StartReport) (prims : List HeldWrite) (due : HeldWrite → Bool) (n : Nat)
    (started : List HeldWrite) (s : State) : ClockKept s (State.settleAll ok r prims due n started s) := by
  induction n generalizing started s with
  | zero => exact .refl s
  | succ n ih =>
    unfold State.settleAll
    split
    · exact .refl s
    · refine .ite (.trans (.masked ?_ (State.answerWrite_mask (hw := rfl) ..)) (ih _ _)) (.refl s)
      refine .trans ?_ (.ite (.refl _) (.of_mask (State.logCode_mask (hw := rfl) ..)))
      refine .trans (.of_mask ?_) (State.settle_kept _ ..)
      exact (State.logWrite_mask (hw := rfl) ..).trans (setRyc_mask _ _ rfl)

theorem State.closeWindows_kept (s : State) (due : HeldWrite → Bool) (ok : Bool) (r : StartReport) :
    ClockKept s (s.closeWindows due ok r) := by
  unfold State.closeWindows
  dsimp only
  refine .masked ?_ ((mask_foldl _ (fun u q => State.answerRead_mask (hw := rfl) ..) _ _).trans (setRyc_mask _ _ rfl))
  exact .trans (.of_mask (setRyc_mask _ _ rfl)) (State.settleAll_kept ..)

theorem State.windowClose_kept (s : State) (ok : Bool) (r : StartReport) : ClockKept s (s.windowClose ok r) :=
  .ite (.refl s) (s.closeWindows_kept ..)

theorem State.manage_kept (s : State) (w : MgmtWrite) : ClockKept s (s.manage w) := by
  cases w with
  | odEntry w ok => exact .ite (.refl s) (s.writeNow_kept ..)
  | queueContext => exact .of_mask (State.writeContext_mask (hw := rfl) ..)
  | semaphore => exact .ite (.of_mask (State.rejectWrite_mask (hw := rfl) ..)) (.of_mask (State.putSem_mask (hw := rfl) ..))
  | pageMap => exact .of_mask (State.writePage_mask (hw := rfl) ..)
  | kvMap => exact .of_mask (State.writeKv_mask (hw := rfl) ..)
  | steering => exact .ite (.of_mask (setNet_mask _ _ rfl)) (.of_mask (State.rejectWrite_mask (hw := rfl) ..))
  | jobGroup => exact .ite (.of_mask (State.rejectWrite_mask (hw := rfl) ..)) (.of_mask (setNet_mask _ _ rfl))
  | sourceAllot => exact .ite (.of_mask (State.rejectWrite_mask (hw := rfl) ..)) (.of_mask (State.putSource_mask (hw := rfl) ..))
  | moduleRegion => exact .ite (.of_mask (State.regionWrite_mask (hw := rfl) ..)) (.refl s)
  | mailboxTaken => exact .of_mask (State.putMbx_mask (hw := rfl) ..)
  | heartbeat | conversationPaused | conversationResumed => exact .of_mask (State.odInc_mask (hw := rfl) ..)
  | adapterLoad => exact .of_mask (State.adapterLoad_mask (hw := rfl) ..)
  | adapterFree => exact .of_mask (State.adapterFree_mask (hw := rfl) ..)
  | runtimeCore => exact .of_mask (setFw_mask _ _ rfl)

theorem State.writeCredential_kept (s : State) (w : OdWrite) (ok : Bool) : ClockKept s (s.writeCredential w ok) :=
  .ite (s.writeNow_kept ..) (.refl s)

/-! ### Entries to STANDBY and PARKED, and wakes (R551, R552) -/

theorem State.toParked_kept (s : State) (crystal : Nat) : ClockKept s (s.toParked crystal) := by
  have timed (u : State) : ClockKept u (u.setTime { u.time with pps := .holdover, crystal := crystal }) := .setTime rfl
  unfold State.toParked
  dsimp only
  refine .trans (.trans (.of_mask ?_) (State.lose_kept _ .parked)) (timed _)
  exact (State.fallAsleep_mask (hw := rfl) ..).trans ((State.commit_mask (hw := rfl) ..).trans (setPark_mask _ _ rfl))

theorem State.wakeSubset_kept (s : State) (n : Nat) (level : Bool) (detail : Nat) (r : StartReport) :
    ClockKept s (s.wakeSubset n level detail r) := by
  have woken (u : State) : ClockKept u (u.wakeUp r) := .of_mask (State.wakeUp_mask (hw := rfl) ..)
  have drawn : ClockKept s s.drawNat.2 := .of_mask (State.drawNat_mask (hw := rfl) ..)
  have raised (m : Nat) : ClockKept s (s.raiseEast m detail) := .of_mask (State.raiseEast_mask (hw := rfl) ..)
  have set (m : Nat) (v : Bool) : ClockKept s (s.condition 0 m v detail) := .of_mask (State.condition_mask (hw := rfl) ..)
  unfold State.wakeSubset
  refine .ite (.refl s) (.ite (.ite (set _ _) (.refl s)) ?_)
  dsimp only
  split
  · exact drawn.trans (State.below36_kept _ ..)
  · exact drawn.trans (State.presenceBreak_kept _ ..)
  · exact s.trayResetAssert_kept
  · exact (raised _).trans (woken _)
  · exact .ite (.refl s) (.trans (.ite (set _ _) (raised _)) (.ite (woken _) (.refl _)))

theorem State.completeEntry_kept (s : State) (e : Entry) (storeOk : Bool) (r : StartReport) :
    ClockKept s (s.completeEntry e storeOk r) := by
  unfold State.completeEntry
  refine .ite (.of_mask ?_) (.ite (.of_mask ?_) ((s.closeWindows_kept _ storeOk r).trans (.ite ?_ (.refl _))))
  · exact (State.toOutOfService_mask (hw := rfl) ..).trans (setEntry_mask _ _ rfl)
  · exact (State.orderWarm_mask (hw := rfl) ..).trans (setEntry_mask _ _ rfl)
  · refine .trans (.trans (.of_mask ?_) (.ite (State.toParked_kept _ _) (.of_mask (State.toStandby_mask (hw := rfl) ..))))
      (.ite (.of_mask (State.wakeUp_mask (hw := rfl) ..)) (.refl _))
    exact (State.dropRequal_mask (hw := rfl) ..).trans (State.finishChunks_mask (hw := rfl) ..)

theorem State.drainAbort_kept (s : State) (storeOk : Bool) (r : StartReport) : ClockKept s (s.drainAbort storeOk r) := by
  unfold State.drainAbort
  split
  · refine .ite (.trans (.of_mask ?_) (State.completeEntry_kept _ ..)) (.refl s)
    exact (mask_foldl _ (fun u q => State.abortPending_mask (hw := rfl) ..) _ _).trans
      (mask_ite_eq (State.answerAll_mask (hw := rfl) ..) rfl)
  · exact .refl s

/-! ### An idle step (R440, R450) -/

theorem State.secondPasses_time (s : State) : s.secondPasses.time = s.time :=
  keeps_time (w := allBut .time) (State.secondPasses_mask _ (by decide))

theorem State.countTime_time (s : State) (n : Nat) : ∃ sub : Nat, (s.countTime n).time = { s.time with sub := sub } := by
  unfold State.countTime
  split
  · exact ⟨_, rfl⟩
  · exact ⟨_, State.secondPasses_time _⟩

theorem State.countTime_base (s : State) (n : Nat) : (s.countTime n).time.base = s.time.base := by
  obtain ⟨sub, time⟩ := s.countTime_time n
  rw [time]

theorem State.countTime_kept (s : State) (n : Nat) : ClockKept s (s.countTime n) := by
  obtain ⟨sub, time⟩ := s.countTime_time n
  exact .of_eq (keeps_pending (w := allBut .pending) (s.countTime_mask n (by decide))) (by rw [time])

theorem State.crystalTick_kept (s : State) : ClockKept s s.crystalTick := by
  have drawn : ClockKept s s.drawBool.2 := .of_mask (State.drawBool_mask (hw := rfl) ..)
  have ticked : ClockKept s (s.drawBool.2.setTime (s.drawBool.2.time.crystalCycle s.drawBool.1)) := drawn.trans (.setTime rfl)
  exact ticked.trans (State.countTime_kept _ raw1)

theorem State.crystalTick_base (s : State) : s.crystalTick.time.base =
    s.time.base + BitVec.ofNat 96 (roundFree s.drawBool.1 (s.time.crystal * (4294967296 + s.time.rate)) 32768).toNat := by
  unfold State.crystalTick
  dsimp only
  rw [State.countTime_base, State.setTime_time]
  rfl

/-- What an idle step of a module under way does first leaves the time. -/
theorem State.account_restartsEnd_time (s : State) : s.account.restartsEnd.time = s.time :=
  keeps_time (w := allBut .time) ((State.restartsEnd_mask _ (by decide)).trans (s.account_mask (by decide)))

theorem State.tick_kept (s : State) : ClockKept s s.tick := by
  unfold State.tick
  refine .ite (.ite (s.countTime_kept _) (.refl s)) (.ite ?_ ?_)
  · exact s.crystalTick_kept
  · have before : ClockKept s s.account.restartsEnd :=
      .of_mask ((State.restartsEnd_mask (hw := rfl) ..).trans (State.account_mask (hw := rfl) ..))
    dsimp only
    generalize s.account.restartsEnd = u at before ⊢
    have cycled : ClockKept u (u.setTime u.time.cycle) := .setTime rfl
    exact (before.trans cycled).trans (State.countTime_kept _ _)

/-- One TIME cycle: it is counted, and 1 + d is added. -/
def State.cycled (s : State) : State := (s.setTime s.time.cycle).countTime 32768

theorem State.cycled_base (s : State) :
    s.cycled.time.base = s.time.base + BitVec.ofNat 96 (4294967296 + s.time.rate).toNat := by
  unfold State.cycled
  rw [State.countTime_base, State.setTime_time]
  rfl

theorem State.tick_of_running {s : State} (on : s.mode ≠ .off) (awake : s.mode ≠ .parked) :
    s.tick = s.account.restartsEnd.cycled :=
  (if_neg on).trans (if_neg awake)

theorem State.tick_base_of_running {s : State} (on : s.mode ≠ .off) (awake : s.mode ≠ .parked) :
    s.tick.time.base = s.time.base + BitVec.ofNat 96 (4294967296 + s.time.rate).toNat := by
  rw [State.tick_of_running on awake, State.cycled_base, State.account_restartsEnd_time]

theorem State.tick_base_of_parked {s : State} (parked : s.mode = .parked) :
    s.tick.time.base = s.time.base +
      BitVec.ofNat 96 (roundFree s.drawBool.1 (s.time.crystal * (4294967296 + s.time.rate)) 32768).toNat := by
  unfold State.tick
  rw [if_neg (by rw [parked]; decide), if_pos parked]
  exact s.crystalTick_base

/-! ### Every command answers (95_what_each_step_holds) -/

/-- `o` is a next state, and the clock is kept up to it. -/
def Answers (s : State) (o : Host.Outcome State Fault Refusal) : Prop := ∃ t, o = .next t ∧ ClockKept s t

namespace Answers

theorem next {s t : State} (h : ClockKept s t) : Answers s (.next t) := ⟨t, rfl, h⟩

theorem masked {s t : State} (e : t.mask notClock = s.mask notClock) : Answers s (.next t) := .next (.of_mask e)

theorem ite {s : State} {c : Prop} [Decidable c] {a b : Host.Outcome State Fault Refusal} (ha : Answers s a)
    (hb : Answers s b) : Answers s (if c then a else b) := by
  split <;> assumption

/-- A command that works on the state `u` that an intake `r` left answers from `s` when the intake keeps the clock. -/
theorem taken {α : Type} {s u : State} {x : α} {r : α × State} {o : Host.Outcome State Fault Refusal} (e : r = (x, u))
    (intake : r.2.mask notClock = s.mask notClock) (h : Answers u o) : Answers s o := by
  subst e
  obtain ⟨t, run, kept⟩ := h
  exact ⟨t, run, .trans (.of_mask intake) kept⟩

end Answers

theorem Answers.received {s u : State} {m : MbxSrc} {n : Nat} {x : Option MbxIn}
    {o : Host.Outcome State Fault Refusal} (e : s.receive m n = (x, u)) (h : Answers u o) :
    Answers s o :=
  .taken e (State.receive_mask _ _ _ rfl) h

theorem Answers.ordered {s u : State} {n action : Nat} {src : CmdSrc} {x : Option (Option MbxIn)}
    {o : Host.Outcome State Fault Refusal} (e : s.coreOrder n action src = (x, u)) (h : Answers u o) :
    Answers s o :=
  .taken e (State.coreOrder_mask _ _ _ _ rfl) h

theorem execSelfTest_answers (core : CoreId) (src : CmdSrc) (s : State) :
    Answers s (execSelfTest core src s) := by
  unfold execSelfTest
  split
  next e => exact .ordered e (.masked ((State.orderDone_mask (hw := rfl) ..).trans
      (mask_ite_eq ((State.orderTest_mask (hw := rfl) ..).trans (State.odSet_mask (hw := rfl) ..)) rfl)))
  next e => exact .ordered e (.masked rfl)

theorem execCoreReset_answers (core : CoreId) (src : CmdSrc) (s : State) :
    Answers s (execCoreReset core src s) := by
  unfold execCoreReset
  split
  next e =>
    exact .ordered e (.masked ((State.orderDone_mask (hw := rfl) ..).trans (State.startCoreReset_mask (hw := rfl) ..)))
  next e => exact .ordered e (.masked rfl)

theorem execCoreSwap_answers (core : CoreId) (src : CmdSrc) (passed : Bool) (s : State) :
    Answers s (execCoreSwap core src passed s) := by
  unfold execCoreSwap
  split
  next e => exact .ordered e (.masked ((State.orderDone_mask (hw := rfl) ..).trans (State.coreSwap_mask (hw := rfl) ..)))
  next e => exact .ordered e (.masked rfl)

theorem execSubchannelRetire_answers (sub : SubId) (src : CmdSrc) (s : State) :
    Answers s (execSubchannelRetire sub src s) := by
  have retire (u : State) (cause : Nat) : (u.retireSub sub.val cause).mask notClock = u.mask notClock :=
    State.retireSub_mask (hw := rfl) ..
  cases src with
  | entry => exact .masked (mask_ite_eq rfl (State.retireEntry_mask (hw := rfl) ..))
  | mailbox m =>
    dsimp only [execSubchannelRetire]
    split
    next e =>
      exact .received e (.masked (mask_ite_eq ((State.answer_mask (hw := rfl) ..).trans (retire _ _))
        (State.answer_mask (hw := rfl) ..)))
    next e => exact .received e (.masked rfl)
  | module => exact .masked (mask_ite_eq (retire _ _) (mask_ite_eq (retire _ _) rfl))

theorem execKeyRelease_answers (m : MbxSrc) (s : State) : Answers s (execKeyRelease m s) := by
  unfold execKeyRelease
  split
  next e => exact .received e (.masked (State.releaseKey_mask (hw := rfl) ..))
  next e => exact .received e (.masked (mask_ite_eq (State.odInc_mask (hw := rfl) ..) rfl))

theorem execPrepareWarm_answers (m : MbxSrc) (s : State) : Answers s (execPrepareWarm m s) := by
  unfold execPrepareWarm
  split
  next e => exact .received e (.masked ((State.answer_mask (hw := rfl) ..).trans (State.prepareOnce_mask (hw := rfl) ..)))
  next e => exact .received e (.masked rfl)

theorem execPartitionCreate_answers (m : MbxSrc) (s : State) : Answers s (execPartitionCreate m s) := by
  unfold execPartitionCreate
  split
  next e =>
    have answered (u : State) (x : MbxIn) (status : Nat) (body : List Byte) :
        (u.answer x status body).mask notClock = u.mask notClock := State.answer_mask (hw := rfl) ..
    exact .received e (.ite (.masked (answered _ _ _ _)) (.ite (.masked (answered _ _ _ _))
      (.masked ((answered _ _ _ _).trans (State.createPart_mask (hw := rfl) ..)))))
  next e => exact .received e (.masked rfl)

theorem execStateQuery_answers (f : RFrame) (s : State) : Answers s (execStateQuery f s) := by
  unfold execStateQuery
  split
  next e =>
    exact .taken e (State.takeClear_mask (hw := rfl) ..)
      (.masked (mask_ite_eq (State.sendState_mask (hw := rfl) ..) (State.ryciaDrop_mask (hw := rfl) ..)))
  next e => exact .taken e (State.takeClear_mask (hw := rfl) ..) (.masked rfl)

theorem execPartitionScrub_answers (p : PartId) (src : CmdSrc) (s : State) :
    Answers s (execPartitionScrub p src s) := by
  cases src with
  | mailbox m => exact .masked (State.scrubMessage_mask (hw := rfl) ..)
  | entry =>
    exact .ite (.masked rfl) (.ite (.masked (State.odSet_mask (hw := rfl) ..))
      (.masked ((State.odSet_mask (hw := rfl) ..).trans (State.startScrub_mask (hw := rfl) ..))))
  | module => exact .masked rfl

theorem execScrubComplete_answers (p : PartId) (s : State) : Answers s (execScrubComplete p s) := by
  unfold execScrubComplete
  split
  · exact .masked (State.scrubDone_mask (hw := rfl) ..)
  · exact .masked (State.scrubDone_mask (hw := rfl) ..)
  · exact .masked rfl

theorem execKemExpiry_answers (p : PartId) (slot : BitVec 2) (s : State) :
    Answers s (execKemExpiry p slot s) := by
  unfold execKemExpiry
  split
  · exact .ite (.masked (State.updPart_mask (hw := rfl) ..)) (.masked rfl)
  · exact .masked rfl

theorem execModReset_answers (src : CmdSrc) (r : StartReport) (s : State) :
    Answers s (execModReset src r s) := by
  cases src with
  | entry => exact .next (s.modReset_kept r)
  | mailbox m => exact .masked rfl
  | module => exact .masked rfl

theorem execSubframeProgress_answers (q : QueueId) (count : BitVec 15) (prog : PictureProgress) (s : State) :
    Answers s (execSubframeProgress q count prog s) := by
  refine .masked ?_
  split
  · exact mask_ite_eq rfl (mask_ite_eq (mask_ite_eq (State.sliceVisible_mask (hw := rfl) ..) rfl)
      (mask_ite_eq (State.bandFinal_mask (hw := rfl) ..) rfl))
  · rfl

/-- Every command answers, and keeps the clock: by the frame of the function that it runs where that function has no part
in the time, and by the function's own lemma where it has. -/
theorem exec_answers (c : Instr) (s : State) : Answers s (exec c s) := by
  cases c with
  | powerBladesMate => exact .masked (State.bladesMate_mask (hw := rfl) ..)
  | presenceFilterExpiry => exact .masked (State.presenceMet_mask (hw := rfl) ..)
  | softStartComplete => exact .next (State.softStartDone_kept ..)
  | presenceTimeout => exact .masked (State.presenceLate_mask (hw := rfl) ..)
  | presenceBreak => exact .next (State.presenceBreak_kept ..)
  | trayResetAssert => exact .next (State.trayResetAssert_kept ..)
  | trayResetRelease => exact .masked (State.trayResetRelease_mask (hw := rfl) ..)
  | trayResetHeldTimeout => exact .masked (State.trayResetHeld_mask (hw := rfl) ..)
  | inputOvervoltage => exact .next (State.overvoltage_kept ..)
  | inputOvercurrent => exact .next (State.overcurrent_kept ..)
  | inputSwitchReclose => exact .masked (State.reclose_mask (hw := rfl) ..)
  | inputLoss => exact .next (State.inputLoss_kept ..)
  | inputBelow40V => exact .masked (State.below40_mask (hw := rfl) ..)
  | inputBelow36V => exact .next (State.below36_kept ..)
  | inputSensorFault => exact .masked (State.inputFault_mask (hw := rfl) ..)
  | coolantSensorFault => exact .masked (State.coolantFault_mask (hw := rfl) ..)
  | inletWarmed => exact .masked (State.inletRises_mask (hw := rfl) ..)
  | ppsPulse => exact .next (State.ppsPulse_kept ..)
  | ppsStuck => exact .next (State.ppsStuck_kept ..)
  | holdoverEntry => exact .next (State.holdoverEntry_kept ..)
  | d2dCrcFailure => exact .masked (State.flitFails_mask (hw := rfl) ..)
  | d2dLaneLockLoss => exact .masked (mask_ite_eq (State.linkFails_mask (hw := rfl) ..) rfl)
  | pllLossOfLock => exact .masked (State.pllLost_mask (hw := rfl) ..)
  | appCoreFailure => exact .masked (State.appCoreFails_mask (hw := rfl) ..)
  | samplerFailure => exact .masked (State.samplerFails_mask (hw := rfl) ..)
  | securityEngineFailure => exact .masked (State.securityFails_mask (hw := rfl) ..)
  | sliceFailure => exact .masked (State.sliceFails_mask (hw := rfl) ..)
  | droopTrip => exact .masked (State.droopTrip_mask (hw := rfl) ..)
  | droopRecoveryStep => exact .masked (State.droopRecovery_mask (hw := rfl) ..)
  | droopGateTimeout => exact .masked (State.droopGateTimeout_mask (hw := rfl) ..)
  | spadPatrolRead => exact .masked (State.spadPatrol_mask (hw := rfl) ..)
  | matmul => exact .masked (State.portCommand_mask fun _ _ => State.matmul_mask (hw := rfl) ..)
  | vecop => exact .masked (State.portCommand_mask fun _ _ => State.vecop_mask (hw := rfl) ..)
  | copy => exact .masked (State.copyCommand_mask (hw := rfl) ..)
  | conv => exact .masked (State.portCommand_mask fun _ _ => State.conv_mask (hw := rfl) ..)
  | window => exact .masked (State.portCommand_mask fun _ _ => State.window_mask (hw := rfl) ..)
  | attn => exact .masked (State.attnCommand_mask (hw := rfl) ..)
  | residueMismatch => exact .masked (State.residueMismatch_mask (hw := rfl) ..)
  | selfTest => exact execSelfTest_answers _ _ _
  | selfTestDone => exact .masked (State.selfTestDone_mask (hw := rfl) ..)
  | injectResidue => exact .masked (State.injectResidue_mask (hw := rfl) ..)
  | coreReset => exact execCoreReset_answers _ _ _
  | coreResetDone => exact .masked (State.coreResetDone_mask (hw := rfl) ..)
  | doorbellProducer | doorbellConsumer => exact .masked (State.ring_mask (hw := rfl) ..)
  | descriptorDispatch => exact .masked (State.dispatch_mask (hw := rfl) ..)
  | semaphoreTake => exact .masked (State.serveSem_mask (hw := rfl) ..)
  | descriptorComplete =>
    exact .masked ((State.testAfter_mask (hw := rfl) ..).trans (State.completeNext_mask (hw := rfl) ..))
  | dataSlotArrival | dataCreditReturn => exact .masked (State.streamOn_mask (hw := rfl) ..)
  | waitTimeout => exact .masked (State.waitTimeout_mask (hw := rfl) ..)
  | creditTimeout => exact .masked (State.creditTimeout_mask (hw := rfl) ..)
  | dataTimeout => exact .masked (State.dataTimeout_mask (hw := rfl) ..)
  | backlogTimeout => exact .masked (State.backlogTimeout_mask (hw := rfl) ..)
  | enable => exact .masked (State.control_mask (State.enableQueue_mask (hw := rfl) ..))
  | pause => exact .masked (State.control_mask (State.pauseQueue_mask (hw := rfl) ..))
  | resume => exact .masked (State.control_mask (State.resumeQueue_mask (hw := rfl) ..))
  | restart => exact .masked (State.control_mask (State.restartQueue_mask (hw := rfl) ..))
  | flush => exact .masked (State.control_mask (State.flush_mask (hw := rfl) ..))
  | disable => exact .masked (State.control_mask (State.disableQueue_mask (hw := rfl) ..))
  | registerWrite => exact .next (.ite (.refl s) (State.manage_kept ..))
  | translationInvalidate => exact .masked (State.invalidate_mask (hw := rfl) ..)
  | patrolRead => exact .masked (State.patrol_mask (hw := rfl) ..)
  | subchannelRetire => exact execSubchannelRetire_answers _ _ _
  | migrationPageCopied => exact .masked (State.pageCopied_mask (hw := rfl) ..)
  | parkioRead => exact .masked (State.parkCommand_mask fun _ _ _ => State.parkRead_mask (hw := rfl) ..)
  | parkioWrite => exact .masked (State.parkCommand_mask fun _ _ _ => State.parkWrite_mask (hw := rfl) ..)
  | parkioCreate => exact .masked (State.parkCommand_mask fun _ _ _ => State.parkCreate_mask (hw := rfl) ..)
  | parkioDelete => exact .masked (State.parkCommand_mask fun _ _ _ => State.parkDelete_mask (hw := rfl) ..)
  | parkioTouch => exact .masked (State.parkCommand_mask fun _ _ _ => State.parkTouch_mask (hw := rfl) ..)
  | parkTimeout => exact .masked (mask_ite_eq rfl (State.parkExpire_mask (hw := rfl) ..))
  | objectExpiry => exact .masked (State.expireObject_mask (hw := rfl) ..)
  | parkClockSave => exact .masked (State.clockSave_mask (hw := rfl) ..)
  | eraseObject => exact .masked (mask_ite_eq rfl (State.eraseObject_mask (hw := rfl) ..))
  | eraseAll => exact .masked (mask_ite_eq rfl (State.eraseAll_mask (hw := rfl) ..))
  | kvInvalidate => exact .masked (State.kvInvalidate_mask (hw := rfl) ..)
  | kvResidencyTimeout => exact .masked (State.kvExpire_mask (hw := rfl) ..)
  | kvMapSweep => exact .masked (State.kvSweep_mask (hw := rfl) ..)
  | kvScan => exact .masked (State.kvScan_mask (hw := rfl) ..)
  | sessionOpen => exact .masked (State.samplerCommand_mask fun _ _ _ => State.sessionOpen_mask (hw := rfl) ..)
  | sessionUpdate => exact .masked (State.samplerCommand_mask fun _ _ _ => State.sessionUpdate_mask (hw := rfl) ..)
  | sessionClose => exact .masked (State.samplerCommand_mask fun _ _ _ => State.sessionClose_mask (hw := rfl) ..)
  | sample => exact .masked (State.samplerCommand_mask fun _ _ _ => State.sample_mask (hw := rfl) ..)
  | gload => exact .masked (State.walkerCommand_mask fun _ _ _ => State.gload_mask (hw := rfl) ..)
  | gfree => exact .masked (State.walkerCommand_mask fun _ _ _ => State.gfree_mask (hw := rfl) ..)
  | gadvance => exact .masked (State.walkerCommand_mask fun _ _ _ => State.gadvance_mask (hw := rfl) ..)
  | vctxOpen => exact .masked (State.videoCommand_mask fun _ _ _ => State.vctxOpen_mask (hw := rfl) ..)
  | vctxUpdate => exact .masked (State.videoCommand_mask fun _ _ _ => State.vctxUpdate_mask (hw := rfl) ..)
  | vctxClose => exact .masked (State.videoCommand_mask fun _ _ _ => State.vctxClose_mask (hw := rfl) ..)
  | vctxDetach => exact .masked (State.videoCommand_mask fun _ _ _ => State.vctxDetach_mask (hw := rfl) ..)
  | vctxAdopt => exact .masked (State.videoCommand_mask fun _ _ _ => State.vctxAdopt_mask (hw := rfl) ..)
  | decode => exact .masked (State.videoCommand_mask fun _ _ _ => State.decode_mask (hw := rfl) ..)
  | encode => exact .masked (State.videoCommand_mask fun _ _ _ => State.encode_mask (hw := rfl) ..)
  | subframeProgress => exact execSubframeProgress_answers _ _ _ _
  | pictureTimeout => exact .masked (State.pictureTimeout_mask (hw := rfl) ..)
  | videoEngineRestart => exact .masked (State.orderRestart_mask (hw := rfl) ..)
  | videoEngineFailure => exact .masked (mask_ite_eq rfl (State.engineFails_mask (hw := rfl) ..))
  | componentFault => exact .masked (State.compEvent_mask (hw := rfl) ..)
  | budgetOverrun => exact .masked (State.overrun_mask (hw := rfl) ..)
  | mailboxWaitTimeout => exact .masked (State.mailboxWait_mask (hw := rfl) ..)
  | firmwareCoreFailure => exact .masked (mask_ite_eq (State.fwCoreFails_mask (hw := rfl) ..) rfl)
  | mailboxReplyTimeout => exact .masked (State.replyTimeout_mask (hw := rfl) ..)
  | hello => exact .masked (State.hello_mask (hw := rfl) ..)
  | loadComponent | startComponent | stopComponent | componentStatus | bundleHealth | mailboxAssign | echo
  | attestRequest =>
    dsimp only [exec, execLoadComponent, execStartComponent, execStopComponent, execComponentStatus, execBundleHealth,
      execMailboxAssign, execEcho, execAttestRequest]
    split
    next e =>
      refine .received e (.masked ?_)
      simp (disch := decide) only [State.loadComponent_mask, State.startComponent_mask, State.stopComponent_mask,
        State.componentStatus_mask, State.bundleHealth_mask, State.mailboxAssign_mask, State.answer_mask,
        State.attest_mask]
    next e => exact .received e (.masked rfl)
  | reloadRuntime => exact .masked (State.reloadRuntime_mask (hw := rfl) ..)
  | ryciaHello => exact .masked (State.ryciaHello_mask (hw := rfl) ..)
  | finish => exact .masked (State.finishSession_mask (hw := rfl) ..)
  | handshakeTimeout => exact .masked (State.handshakeExpiry_mask (hw := rfl) ..)
  | keepalive | close =>
    dsimp only [exec, execKeepalive, execClose]
    split
    next e =>
      refine .taken e (State.takeFrame_mask (hw := rfl) ..) (.masked ?_)
      simp (disch := decide) only [State.sendSession_mask, State.freeSession_mask]
    next e => exact .taken e (State.takeFrame_mask (hw := rfl) ..) (.masked rfl)
  | read => exact .masked (State.readRequest_mask (hw := rfl) ..)
  | write => exact .masked (State.writeRequest_mask (hw := rfl) ..)
  | writeBegin => exact .masked (State.blockBegin_mask (hw := rfl) ..)
  | writeSegment => exact .masked (State.blockSegment_mask (hw := rfl) ..)
  | writeCommit => exact .masked (State.blockCommit_mask (hw := rfl) ..)
  | writeCancel => exact .masked (State.blockCancel_mask (hw := rfl) ..)
  | blockWriteTimeout => exact .masked (State.blockExpiry_mask (hw := rfl) ..)
  | commandWindowClose => exact .next (State.windowClose_kept ..)
  | sessionIdleTimeout => exact .masked (State.idleExpiry_mask (hw := rfl) ..)
  | stateQuery => exact execStateQuery_answers _ _
  | wake => exact .masked (State.wakeFrame_mask (hw := rfl) ..)
  | credentialWrite => exact .next (State.writeCredential_kept ..)
  | ryciaSessionClose => exact .masked (mask_ite_eq rfl (State.closeByEntry_mask (hw := rfl) ..))
  | controllerPresenceExpiry => exact .masked (State.presenceExpiry_mask (hw := rfl) ..)
  | controllersLost => exact .masked (State.controllersLost_mask (hw := rfl) ..)
  | gracePeriodExpiry => exact .masked (State.graceExpiry_mask (hw := rfl) ..)
  | frameReceive => exact .masked (State.frameIn_mask (hw := rfl) ..)
  | nettx => exact .masked (State.macCommand_mask fun _ => State.nettxJob_mask (hw := rfl) ..)
  | netrx => exact .masked (State.macCommand_mask fun _ => State.netrx_mask (hw := rfl) ..)
  | portFailure => exact .masked (State.portFails_mask (hw := rfl) ..)
  | replayComplete => exact .masked (State.replayDone_mask (hw := rfl) ..)
  | linkDownTimeout => exact .masked (State.linkTimeout_mask (hw := rfl) ..)
  | switchOver => exact .masked (State.switchOver_mask (hw := rfl) ..)
  | plannedSwitchComplete => exact .masked (State.switchDone_mask (hw := rfl) ..)
  | portLinkUp => exact .masked (State.linkUp_mask (hw := rfl) ..)
  | holdoffExpiry => exact .masked (State.holdoffEnd_mask (hw := rfl) ..)
  | heartbeat => exact .masked (State.heartbeatOut_mask (hw := rfl) ..)
  | runDiagnostics => exact .masked (State.runDiagnostics_mask (hw := rfl) ..)
  | portReturnToService => exact .masked (State.portReturn_mask (hw := rfl) ..)
  | peerEntryExpiry => exact .masked (State.peerExpiry_mask (hw := rfl) ..)
  | jobAbortOrdered => exact .masked (mask_ite_eq rfl (State.abortGroup_mask (hw := rfl) ..))
  | jobAbort => exact .masked (mask_ite_eq (State.abortReceived_mask (hw := rfl) ..) rfl)
  | eventOccurrence => exact .masked (State.sense_mask (hw := rfl) ..)
  | coalesceTimeout => exact .masked (State.coalesce_mask (hw := rfl) ..)
  | claim => exact .masked (mask_ite_eq (State.claim_mask (hw := rfl) ..) rfl)
  | complete => exact .masked (mask_ite_eq (State.completeIrq_mask (hw := rfl) ..) rfl)
  | sourceControlWrite => exact .masked (mask_ite_eq (State.control_mask (State.writeControl_mask (hw := rfl) ..)) rfl)
  | wakeSubsetOccurrence => exact .next (State.wakeSubset_kept ..)
  | counterThreshold | counterWrap => exact .masked (State.countOn_mask (hw := rfl) ..)
  | counterControlWrite => exact .masked (mask_ite_eq (State.writeCounter_mask (hw := rfl) ..) rfl)
  | freeze => exact .masked (mask_ite_eq (State.orderFreeze_mask (hw := rfl) ..) rfl)
  | freezePoint => exact .masked (State.freezeNow_mask (hw := rfl) ..)
  | freezeResume => exact .masked (mask_ite_eq (State.resumeCounters_mask (hw := rfl) ..) rfl)
  | snapshot => exact .masked (mask_ite_eq (State.takeSnapshot_mask (hw := rfl) ..) rfl)
  | snapshotResume => exact .masked (mask_ite_eq (State.snapshotResume_mask (hw := rfl) ..) rfl)
  | inject => exact .masked (mask_ite_eq (State.injectSource_mask (hw := rfl) ..) rfl)
  | bundleRegister => exact .masked (State.register_mask (hw := rfl) ..)
  | bundleDeregister => exact .masked (State.deregister_mask (hw := rfl) ..)
  | digestPassStart => exact .masked (State.passStart_mask (hw := rfl) ..)
  | digestPassEnd => exact .masked (State.passEnd_mask (hw := rfl) ..)
  | checkNow => exact .masked (State.passStart_mask (hw := rfl) ..)
  | reportMismatch | reportMismatchPoison => exact .masked (State.reportReplica_mask (hw := rfl) ..)
  | wearCommit => exact .masked (mask_ite_eq (State.commit_mask (hw := rfl) ..) rfl)
  | dailyWearSample => exact .masked (State.dailySample_mask (hw := rfl) ..)
  | coreSwap => exact execCoreSwap_answers _ _ _ _
  | requalify => exact .masked (mask_ite_eq rfl (State.requalify_mask (hw := rfl) ..))
  | partitionCreate => exact execPartitionCreate_answers _ _
  | partitionScrub => exact execPartitionScrub_answers _ _ _
  | partitionDestroy => exact .masked (State.scrubMessage_mask (hw := rfl) ..)
  | scrubComplete => exact execScrubComplete_answers _ _
  | keyRelease => exact execKeyRelease_answers _ _
  | kemExpiry => exact execKemExpiry_answers _ _ _
  | debugOpen => exact .masked (State.openDebug_mask (hw := rfl) ..)
  | debugClose => exact .masked (State.closeDebug_mask (hw := rfl) ..)
  | debugDataRead => exact .masked (State.readDebug_mask (hw := rfl) ..)
  | debugDataWrite => exact .masked (State.writeDebug_mask (hw := rfl) ..)
  | dbgConnectorUse => exact .masked (mask_ite_eq rfl (State.latchModule_mask (hw := rfl) ..))
  | lowerTreeReady => exact .masked (mask_ite_eq rfl (setSec_mask _ _ rfl))
  | drain | drainEnd | standbyRequest | parkedRequest => exact .masked (State.stateCommand_mask (hw := rfl) ..)
  | drainTimeout => exact .masked (State.drainTimeout_mask (hw := rfl) ..)
  | drainAbort => exact .next (State.drainAbort_kept ..)
  | idleEntry => exact .masked (State.idleEntry_mask (hw := rfl) ..)
  | throttleTriggerAssert =>
    exact .masked (mask_ite_eq ((State.trigOn_mask (hw := rfl) ..).trans (State.noteReading_mask (hw := rfl) ..)) rfl)
  | throttleTriggerClear => exact .masked (State.trigClear_mask (hw := rfl) ..)
  | throttleLevelRise => exact .masked (State.levelRise_mask (hw := rfl) ..)
  | throttleLevelFall => exact .masked (State.levelFall_mask (hw := rfl) ..)
  | thermalStop => exact .next (State.thermalStop_kept ..)
  | powerCapAdjust => exact .masked (State.capAdjust_mask (hw := rfl) ..)
  | ballastAdjust => exact .masked (State.ballastAdjust_mask (hw := rfl) ..)
  | rampHoldAdjust => exact .masked (State.rampAdjust_mask (hw := rfl) ..)
  | modReset => exact execModReset_answers _ _ _
  | warmReset => exact .next (State.warmReset_kept ..)
  | runtimeLoadOverrun => exact .next (State.loadOverrun_kept ..)
  | heartbeatCheck => exact .masked (State.heartbeatCheck_mask (hw := rfl) ..)
  | prepareWarm => exact execPrepareWarm_answers _ _
  | prepareWarmTimeout => exact .next (State.prepareTimeout_kept ..)
  | returnToService => exact .next (State.returnToService_kept ..)
  | stageOpen => exact .masked (mask_ite_eq rfl (State.stageOpen_mask (hw := rfl) ..))
  | stageDiscard => exact .masked (mask_ite_eq rfl (State.stageDiscard_mask (hw := rfl) ..))
  | stageArm => exact .next (.ite (.refl s) (State.stageArm_kept ..))
  | chunk => exact .masked (mask_ite_eq rfl (State.chunkWrite_mask (hw := rfl) ..))
  | chunkDurable => exact .masked (State.chunkDurable_mask (hw := rfl) ..)
  | probationExpiry => exact .masked (State.probationEnd_mask (hw := rfl) ..)
  | usePrevious => exact .next (State.usePrevious_kept ..)
  | apertureAccess => exact .masked (State.aperture_mask (hw := rfl) ..)
  | refreshRateChange => exact .masked (State.refreshRate_mask (hw := rfl) ..)
  | thermalCycle => exact .masked (State.thermalCycle_mask (hw := rfl) ..)
  | trainingCacheUpdate => exact .masked (State.cacheUpdate_mask (hw := rfl) ..)
  | compactionEraseComplete => exact .masked (State.compactionDone_mask (hw := rfl) ..)
  | trialTimeout => exact .masked (State.trialTimeout_mask (hw := rfl) ..)
  -- What is left are the descriptors of the security engine: DIGEST, SEAL, OPEN and KEMGEN.
  | _ => exact .masked (State.secCommand_mask (hw := rfl) ..)
/-- Settles O2: every command answers, by `exec_answers`. -/
theorem commandsKeepQueue : Obligations.CommandsKeepQueue := by
  intro c s
  obtain ⟨t, run, pending, -⟩ := exec_answers c s
  exact ⟨t, run, pending⟩

/-- Every step keeps the bound: one with a command in front by `exec_answers`, an idle one by the tick. -/
theorem step_rateBound {s t : State} (bound : RateBound s) (run : step s = .next t) : RateBound t := by
  unfold step at run
  split at run
  · next c rest _ =>
    obtain ⟨u, answered, -, kept⟩ := exec_answers c (s.setPending rest)
    cases answered.symm.trans run
    exact kept bound
  · cases run
    exact s.tick_kept.2 bound

/-- An idle step is one tick. -/
theorem step_of_idle {s t : State} (run : step s = .next t) (idle : s.pending = []) : t = s.tick := by
  unfold step at run
  rw [idle] at run
  cases run
  rfl

/-- Settles O3: the bound by `step_rateBound`, the value of the timebase by the tick of the state's mode. -/
theorem timebaseInvariant : Obligations.TimebaseInvariant := by
  intro s t bound run
  refine ⟨step_rateBound bound run, fun idle on awake => ?_, fun idle parked => ⟨s.drawBool.1, ?_⟩, rfl⟩
  · rw [step_of_idle run idle]
    exact State.tick_base_of_running on awake
  · rw [step_of_idle run idle]
    exact State.tick_base_of_parked parked

end Sys2Proof.Machine
end

section
/-!
Event sources (R452–R463), for O47: what one occurrence does to its source, by the branches of `count`, `deliver` and
`State.writeControl`.
-/
namespace Sys2Proof.Machine

set_option Elab.async false
open Sys2Proof

/-! ### An occurrence -/

theorem State.raise_eq_count {s : State} {die n : Nat} (detail : Nat) (free : sourceReserved die n = false)
    (awake : s.asleep = false) :
    s.raise die n detail = count (fun u d m x => raiseN 3 u d m x) s die n detail s.now :=
  (if_neg (Bool.eq_false_iff.mp free)).trans (if_neg (Bool.eq_false_iff.mp awake))

theorem count_of_disabled {s : State} {die n : Nat} (raise : Raise) (detail t : Nat)
    (off : scEnable (s.source die n).control.toNat = false) :
    count raise s die n detail t =
      s.putSource die n { s.source die n with total := (s.source die n).total + 1 } := by
  unfold count
  simp only [off, Bool.false_eq_true, if_false]

/-- The source with one more occurrence held: the first notes its time and its detail. -/
def Source.hold (x : Source) (detail t : Nat) : Source :=
  if x.n = 0 then { x with total := x.total + 1, n := 1, t0 := t, detail := detail }
  else { x with total := x.total + 1, n := x.n + 1 }

theorem Source.hold_n (x : Source) (detail t : Nat) : (x.hold detail t).n = x.n + 1 := by
  unfold Source.hold
  split
  · rename_i none_held
    rw [none_held]
  · rfl

theorem Source.hold_total (x : Source) (detail t : Nat) : (x.hold detail t).total = x.total + 1 := by
  unfold Source.hold
  split <;> rfl

theorem Source.hold_control (x : Source) (detail t : Nat) : (x.hold detail t).control = x.control := by
  unfold Source.hold
  split <;> rfl

theorem Source.hold_disarmed (x : Source) (detail t : Nat) : (x.hold detail t).disarmed = x.disarmed := by
  unfold Source.hold
  split <;> rfl

theorem count_of_enabled {s : State} {die n : Nat} (raise : Raise) (detail t : Nat)
    (on : scEnable (s.source die n).control.toNat = true) :
    count raise s die n detail t =
      if scCoalCount (s.source die n).control.toNat ≤ (s.source die n).n + 1
      then deliver raise (s.putSource die n ((s.source die n).hold detail t)) die n
      else s.putSource die n ((s.source die n).hold detail t) := by
  unfold count Source.hold
  dsimp only
  rw [if_pos on]
  split <;> simp_all

theorem Source.rearm_of_armed {x : Source} (armed : x.disarmed = false) (now : Nat) : x.rearm now = x := by
  unfold Source.rearm
  rw [armed, Bool.false_and, Bool.false_and, if_neg Bool.false_ne_true]

/-! ### A delivery to an interrupt alone (R463) -/

theorem State.irqRaise_pending (s : State) (c prio die n : Nat) : (prio, die, n) ∈ ((s.irqRaise c prio die n).irq c).pending := by
  unfold State.irqRaise
  dsimp only
  split
  · rename_i listed
    exact List.contains_iff_mem.mp listed
  · rw [State.irq_putIrq_self]
    exact List.mem_append_right _ (List.mem_singleton_self _)

theorem State.irqRaise_irq_other (s : State) {c k : Nat} (prio die n : Nat) (other : k ≠ c) :
    (s.irqRaise c prio die n).irq k = s.irq k := by
  unfold State.irqRaise
  dsimp only
  split
  · rfl
  · exact State.irq_putIrq_other s _ other.symm

theorem State.irqRaise_source (s : State) (c prio die n e m : Nat) :
    (s.irqRaise c prio die n).source e m = s.source e m := by
  unfold State.irqRaise
  dsimp only
  split <;> rfl

theorem deliver_of_irq_only {s : State} {die n : Nat} (raise : Raise) (queue : scToQueue (s.source die n).control.toNat = false)
    (mailbox : scToMailbox (s.source die n).control.toNat = false) (irq : scIrqEn (s.source die n).control.toNat = true)
    (armed : (s.source die n).disarmed = false) :
    deliver raise s die n = (s.putSource die n { s.source die n with n := 0 }).irqRaise
      (irqIndex (scIrqKind (s.source die n).control.toNat) (scIrqCore (s.source die n).control.toNat))
      (scPriority (s.source die n).control.toNat) die n := by
  unfold deliver
  dsimp only
  rw [Source.rearm_of_armed (x := { s.source die n with n := 0 }) armed, queue, mailbox, irq]
  simp only [Bool.or_self, Bool.and_false, Bool.false_eq_true, if_false, if_true]

/-- The occurrence that reaches the count of a source that only interrupts: its record is the pending interrupt. -/
theorem State.raise_of_irq_only {s : State} {die n : Nat} (detail : Nat) (free : sourceReserved die n = false)
    (awake : s.asleep = false) (enabled : scEnable (s.source die n).control.toNat = true)
    (queue : scToQueue (s.source die n).control.toNat = false)
    (mailbox : scToMailbox (s.source die n).control.toNat = false) (irq : scIrqEn (s.source die n).control.toNat = true)
    (armed : (s.source die n).disarmed = false)
    (reached : scCoalCount (s.source die n).control.toNat ≤ (s.source die n).n + 1) :
    s.raise die n detail = ((s.putSource die n ((s.source die n).hold detail s.now)).putSource die n
      { (s.source die n).hold detail s.now with n := 0 }).irqRaise
        (irqIndex (scIrqKind (s.source die n).control.toNat) (scIrqCore (s.source die n).control.toNat))
        (scPriority (s.source die n).control.toNat) die n := by
  have noted : (s.putSource die n ((s.source die n).hold detail s.now)).source die n = (s.source die n).hold detail s.now :=
    State.source_putSource_self _ _ _ _
  rw [State.raise_eq_count _ free awake, count_of_enabled _ _ _ enabled, if_pos reached, deliver_of_irq_only] <;>
    rw [noted] <;> simp only [Source.hold_control, Source.hold_disarmed, queue, mailbox, irq, armed]

/-! ### The commands -/

theorem exec_eventOccurrence_of_pulse {s : State} {die : Die} {n : BitVec 10} (detail : BitVec 47) (on : s.mode ≠ .off)
    (pulse : sourceIsCond n.toNat = false) :
    exec (.eventOccurrence die n true detail) s = .next (s.raise die.toNat n.toNat detail.toNat) := by
  refine congrArg Host.Outcome.next ?_
  unfold State.sense
  rw [if_neg on, pulse]
  simp only [Bool.false_eq_true, if_false, if_true]

theorem State.raise_of_reserved {s : State} {die n : Nat} (detail : Nat) (reserved : sourceReserved die n = true) :
    s.raise die n detail = s := if_pos reserved

theorem State.condition_of_reserved {s : State} {die n : Nat} (level : Bool) (detail : Nat)
    (reserved : sourceReserved die n = true) : s.condition die n level detail = s := if_pos reserved

theorem State.sense_of_reserved {s : State} {die n : Nat} (level : Bool) (detail : Nat)
    (reserved : sourceReserved die n = true) : s.sense die n level detail = s := by
  unfold State.sense
  rw [State.condition_of_reserved level detail reserved, State.raise_of_reserved detail reserved]
  simp only [ite_self]

theorem State.condition_of_true {s : State} {die n : Nat} (detail : Nat) (already : (s.source die n).cond = true) :
    s.condition die n true detail = s := by
  unfold State.condition
  simp only [already, if_true, ite_self]

theorem State.sense_of_true {s : State} {die n : Nat} (detail : Nat) (cond : sourceIsCond n = true)
    (already : (s.source die n).cond = true) : s.sense die n true detail = s := by
  unfold State.sense
  rw [if_pos cond, State.condition_of_true detail already, ite_self]

theorem State.coalesce_of_due {s : State} {die n : Nat} (awake : s.asleep = false) (held : 0 < (s.source die n).n)
    (on : scEnable (s.source die n).control.toNat = true) (limited : scCoalTime (s.source die n).control.toNat ≠ 0)
    (due : (s.source die n).t0 + limitOf (scCoalTime (s.source die n).control.toNat) ≤ s.now) :
    s.coalesce die n = deliver State.raise s die n := by
  unfold State.coalesce
  simp only [held, on, limited, due, awake, ne_eq, not_false_eq_true, decide_true, Bool.not_false, Bool.and_self, if_true]

theorem State.coalesce_of_early {s : State} {die n : Nat}
    (early : s.now < (s.source die n).t0 + limitOf (scCoalTime (s.source die n).control.toNat)) : s.coalesce die n = s := by
  unfold State.coalesce
  simp only [Nat.not_le.mpr early, decide_false, Bool.and_false, Bool.false_and, Bool.false_eq_true, if_false]

/-! ### Writes of a control (R456, R457) -/

theorem exec_sourceControlWrite {s : State} (die : Die) (n : BitVec 10) (w : BitVec 64) (up : s.firmwareUp = true) :
    exec (.sourceControlWrite die n w) s = .next (State.control (s.writeControl die.toNat n.toNat w.toNat)) :=
  congrArg Host.Outcome.next (if_pos up)

theorem State.writeControl_of_illegal {s : State} {die n w : Nat}
    (illegal : sourceReserved die n = true ∨ controlBad n (setFld w 45 4 0) = true) : s.writeControl die n w = (0x1C, s) :=
  if_pos (Bool.or_eq_true _ _ ▸ illegal)

theorem State.writeControl_of_enabled {s : State} {die n w : Nat} (free : sourceReserved die n = false)
    (legal : controlBad n (setFld w 45 4 0) = false) (on : scEnable (s.source die n).control.toNat = true)
    (changed : setFld (setFld w 45 4 0) 63 1 0 ≠ setFld (s.source die n).control.toNat 63 1 0) :
    s.writeControl die n w = (0x1D, s) := by
  unfold State.writeControl
  simp only [free, legal, on, changed, ne_eq, not_false_eq_true, decide_true, Bool.or_self, Bool.and_self,
    Bool.false_eq_true, if_false, if_true]

theorem State.writeControl_of_enabling {s : State} {die n w : Nat} (free : sourceReserved die n = false)
    (legal : controlBad n (setFld w 45 4 0) = false) (off : scEnable (s.source die n).control.toNat = false)
    (on : scEnable (setFld w 45 4 0) = true) (good : s.enableBad die n (setFld w 45 4 0) = false) :
    s.writeControl die n w =
      (0, s.putSource die n { s.source die n with control := BitVec.ofNat 64 (setFld w 45 4 0) }) := by
  unfold State.writeControl
  simp only [free, legal, off, on, good, Bool.or_self, Bool.false_and, Bool.and_false, Bool.false_eq_true,
    if_false, if_true]

/-- Settles O47, a clause for each way that `count`, `State.coalesce` and `State.writeControl` can go. -/
theorem eventSources : Obligations.EventSources := by
  refine ⟨fun s die n detail on awake pulse free off => ?_, fun s die n detail on awake pulse free enabled first below => ?_,
    fun s die n detail c on awake pulse free control enabled queue mailbox irq armed reached => ⟨_,
      exec_eventOccurrence_of_pulse detail on pulse, ?_⟩, fun s die n level detail reserved => ?_,
    fun s die n detail cond already => ?_, fun s die n awake held on limited due => ?_, fun s die n early => ?_,
    fun s die n w up illegal => ?_, fun s die n w up free legal on changed => ?_,
    fun s die n w up free legal off on good => ?_⟩
  · rw [exec_eventOccurrence_of_pulse detail on pulse, State.raise_eq_count _ free awake, count_of_disabled _ _ _ off]
  · rw [exec_eventOccurrence_of_pulse detail on pulse, State.raise_eq_count _ free awake, count_of_enabled _ _ _ enabled,
      if_neg (by omega), Source.hold, if_pos first]
  · subst control
    rw [State.raise_of_irq_only detail.toNat free awake enabled queue mailbox irq armed reached]
    refine ⟨State.irqRaise_pending _ _ _ _ _, ?_, ?_, fun k other => ?_, ?_⟩
    · rw [State.irqRaise_source, State.source_putSource_self]
    · rw [State.irqRaise_source, State.source_putSource_self]
      exact Source.hold_total _ _ _
    · rw [State.irqRaise_irq_other _ _ _ _ other]
      rfl
    · exact (State.irqRaise_mask _ _ _ _ _ (by decide)).trans ((State.putSource_mask _ _ _ _ (by decide)).trans
        (State.putSource_mask _ _ _ _ (by decide)))
  · exact congrArg Host.Outcome.next (State.sense_of_reserved level detail.toNat reserved)
  · exact congrArg Host.Outcome.next (State.sense_of_true detail.toNat cond already)
  · exact congrArg Host.Outcome.next (State.coalesce_of_due awake held on limited due)
  · exact congrArg Host.Outcome.next (State.coalesce_of_early early)
  · rw [exec_sourceControlWrite die n w up, State.writeControl_of_illegal illegal]
    rfl
  · rw [exec_sourceControlWrite die n w up, State.writeControl_of_enabled free legal on changed]
    rfl
  · rw [exec_sourceControlWrite die n w up, State.writeControl_of_enabling free legal off on good]
    rfl

end Sys2Proof.Machine
end

section
/-!
Debug (R517, R537, R538, R548), for O54: the target's latch, the bytes of the data entry and the marks of its poisoned
lines.
-/
namespace Sys2Proof.Machine

set_option Elab.async false
open Sys2Proof

/-! ### Marks -/

/-- Bit i of the sum of 2ⁱ over the marked i below n is the mark of i. -/
theorem testBit_sum_marks (marked : Nat → Bool) (n i : Nat) :
    ((upto n).foldl (fun m k => m + if marked k then 2 ^ k else 0) 0 < 2 ^ n) ∧
      ((upto n).foldl (fun m k => m + if marked k then 2 ^ k else 0) 0).testBit i = (decide (i < n) && marked i) := by
  unfold upto
  induction n with
  | zero => simp
  | succ n ih =>
    obtain ⟨below, bits⟩ := ih
    rw [List.range_succ, List.foldl_append, List.foldl_cons, List.foldl_nil]
    generalize (List.range n).foldl (fun m k => m + if marked k then 2 ^ k else 0) 0 = m at below bits ⊢
    cases set : marked n with
    | false =>
      refine ⟨by simp only [Bool.false_eq_true, if_false]; omega, ?_⟩
      simp only [Bool.false_eq_true, if_false, Nat.add_zero, bits]
      rcases Nat.lt_trichotomy i n with h | rfl | h
      · simp [h, Nat.lt_succ_of_lt h]
      · simp [set]
      · simp [Nat.not_lt.mpr h.le, show ¬ i < n + 1 by omega]
    | true =>
      simp only [if_true]
      refine ⟨by omega, ?_⟩
      rw [Nat.add_comm, ← Nat.mul_one (2 ^ n), Nat.two_pow_add_eq_or_of_lt below, Nat.testBit_or, bits, Nat.mul_one,
        Nat.testBit_two_pow]
      rcases Nat.lt_trichotomy i n with h | rfl | h
      · simp [h, Nat.lt_succ_of_lt h, h.ne']
      · simp [set]
      · simp [Nat.not_lt.mpr h.le, h.ne, show ¬ i < n + 1 by omega]

/-- The marks of the data entry's 16 lines, of the bytes `bs`. -/
def lineMarks (bs : List (Byte × Bool)) : Nat :=
  (upto 16).foldl (fun m i => m + (match bs[64 * i]? with | some (_, true) => 2 ^ i | _ => 0)) 0

theorem lineMarks_getLsbD (bs : List (Byte × Bool)) {i : Nat} (line : i < 16) :
    (BitVec.ofNat 32 (lineMarks bs)).getLsbD i = (bs.getD (64 * i) (0, false)).2 := by
  have marks : lineMarks bs =
      (upto 16).foldl (fun m k => m + if (bs.getD (64 * k) (0, false)).2 then 2 ^ k else 0) 0 := by
    unfold lineMarks
    congr 1
    funext m k
    rw [List.getD_eq_getElem?_getD]
    rcases bs[64 * k]? with _ | ⟨b, _ | _⟩ <;> rfl
  rw [BitVec.getLsbD_ofNat, marks, (testBit_sum_marks _ 16 i).2]
  simp only [line, show i < 32 by omega, decide_true, Bool.true_and]

/-! ### Opening and closing -/

theorem State.openDebug_of_active {s : State} (awake : s.asleep = false) (part : s.odGet 0x5000 1 < 8)
    (active : (s.part (s.odGet 0x5000 1)).state = .active) :
    s.openDebug = (((s.setSec { s.sec with epoch := s.sec.epoch + 1 }).putPart (s.odGet 0x5000 1)
      { s.part (s.odGet 0x5000 1) with debug := true, epoch := s.sec.epoch }).setSec
        { s.sec with epoch := s.sec.epoch + 1, debugOpen := some (s.odGet 0x5000 1) }).odSet 0x5000 2 2 := by
  unfold State.openDebug
  dsimp only
  rw [if_neg (Bool.eq_false_iff.mp awake), if_pos part, if_pos active]
  rfl

theorem State.openDebug_of_module {s : State} (awake : s.asleep = false) (region : s.odGet 0x5000 1 = 0x80) :
    s.openDebug = ((s.latchModule).setSec { s.sec with debugOpen := some 0x80 }).odSet 0x5000 2 2 := by
  unfold State.openDebug
  dsimp only
  rw [if_neg (Bool.eq_false_iff.mp awake), region, if_neg (by decide), if_pos rfl]

theorem State.openDebug_of_none {s : State} (awake : s.asleep = false) (region : s.odGet 0x5000 1 ≠ 0x80)
    (refused : 8 ≤ s.odGet 0x5000 1 ∨ (s.part (s.odGet 0x5000 1)).state ≠ .active) : s.openDebug = s.odSet 0x5000 2 3 := by
  unfold State.openDebug
  dsimp only
  rw [if_neg (Bool.eq_false_iff.mp awake), if_neg region]
  rcases refused with beyond | inactive
  · rw [if_neg (Nat.not_lt.mpr beyond)]
  · rw [if_neg inactive, ite_self]

theorem State.closeDebug_of_awake {s : State} (awake : s.asleep = false) :
    s.closeDebug = (s.setSec { s.sec with debugOpen := none }).odSet 0x5000 2 0 := if_neg (Bool.eq_false_iff.mp awake)

/-! ### The data entry -/

theorem State.debugReady_of_open {s : State} {t : Nat} (awake : s.asleep = false) (target : s.odGet 0x5000 1 = t)
    (opened : s.sec.debugOpen = some t) : s.debugReady = true := by
  unfold State.debugReady
  rw [awake, opened, target]
  simp only [Bool.not_false, decide_true, Bool.and_self]

theorem State.debugReady_of_closed {s : State} (closed : s.sec.debugOpen ≠ some (s.odGet 0x5000 1)) :
    s.debugReady = false := by
  unfold State.debugReady
  simp only [closed, decide_false, Bool.and_false]

theorem State.readDebug_of_bytes {s u : State} {bs : List (Byte × Bool)} (ready : s.debugReady = true)
    (bytes : s.debugBytes = (some bs, u)) :
    s.readDebug.2 = u.setSec { u.sec with
      debugRead := bs.map (fun x => if x.2 then (0 : Byte) else x.1), debugPoison := BitVec.ofNat 32 (lineMarks bs) } := by
  unfold State.readDebug
  rw [if_pos ready, bytes]
  rfl

theorem State.debugBytes_of_module {s : State} (region : s.odGet 0x5000 1 = 0x80)
    (inside : s.odGet 0x5000 3 + 1024 ≤ 8589934592) :
    s.debugBytes = (some (s.regionRead (s.odGet 0x5000 3) 1024), s) := by
  unfold State.debugBytes
  dsimp only
  rw [region, if_neg (by decide), if_pos inside]

theorem State.debugBytes_of_part {s : State} (part : s.odGet 0x5000 1 < 8) :
    s.debugBytes = s.mread 0 (s.odGet 0x5000 1) (s.odGet 0x5000 3) 1024 := if_pos part

theorem State.writeDebug_of_module {s : State} {bs : List Byte} (ready : s.debugReady = true)
    (region : s.odGet 0x5000 1 = 0x80) (inside : s.odGet 0x5000 3 + 1024 ≤ 8589934592) (whole : bs.length = 1024) :
    (s.writeDebug bs).2 = s.regionWrite (s.odGet 0x5000 3) (clean bs) := by
  unfold State.writeDebug
  dsimp only
  rw [if_pos (by simp only [ready, whole, decide_true, Bool.and_self]), region, if_neg (by decide), if_pos inside]

theorem State.writeDebug_of_part {s : State} {bs : List Byte} (ready : s.debugReady = true)
    (part : s.odGet 0x5000 1 < 8) (whole : bs.length = 1024) :
    s.writeDebug bs = s.pwrite 0 (s.odGet 0x5000 1) (s.odGet 0x5000 3) (clean bs) := by
  unfold State.writeDebug
  dsimp only
  rw [if_pos (by simp only [ready, whole, decide_true, Bool.and_self]), if_pos part]

theorem State.readDebug_of_closed {s : State} (closed : s.debugReady = false) : s.readDebug = (none, s) :=
  if_neg (Bool.eq_false_iff.mp closed)

theorem State.writeDebug_of_closed {s : State} (bs : List Byte) (closed : s.debugReady = false) :
    s.writeDebug bs = (false, s) :=
  if_neg (by simp only [closed, Bool.false_and, Bool.false_eq_true, not_false_eq_true])

theorem State.mread_mask_of_some {s u : State} {die p a n w : Nat} {bs : List (Byte × Bool)}
    (read : s.mread die p a n = (some bs, u)) (e : (s.mread die p a n).2.mask w = s.mask w) : u.mask w = s.mask w := by
  rw [read] at e
  exact e

/-- Settles O54, by what `State.openDebug`, `State.readDebug` and `State.writeDebug` are on each target. -/
theorem debugAccess : Obligations.DebugAccess := by
  refine ⟨fun s p awake target part active => ⟨_, rfl, ?_⟩, fun s awake region => ⟨_, rfl, ?_⟩,
    fun s awake region refused => congrArg Host.Outcome.next (State.openDebug_of_none awake region refused),
    fun s awake => ⟨_, rfl, ?_⟩, fun s awake region opened inside => ⟨_, rfl, ?_⟩,
    fun s u p bs awake target part opened read => ⟨_, rfl, ?_⟩, fun s bs awake region opened inside whole => ?_,
    fun s p bs awake target part opened whole => ?_, fun s bs closed => ?_, fun s on => ?_, fun s on booted awake => ?_⟩
  · subst target
    rw [State.openDebug_of_active awake part active]
    refine ⟨State.part_putPart_self _ _ _, fun k other => State.part_putPart_other _ _ other.symm, rfl, rfl,
      State.odGet_odSet_self _ _ _ _, ?_⟩
    exact (State.odSet_mask _ _ _ _ (by decide)).trans ((setSec_mask _ _ (by decide)).trans
      ((State.putPart_mask _ _ _ (by decide)).trans (setSec_mask _ _ (by decide))))
  · rw [State.openDebug_of_module awake region]
    refine ⟨rfl, ?_, State.odGet_odSet_self _ _ _ _, ?_⟩
    · rw [State.odGet_odSet_other _ _ (by decide)]
      exact State.odGet_odSet_self s 0x2800 6 1
    · exact (State.odSet_mask _ _ _ _ (by decide)).trans ((setSec_mask _ _ (by decide)).trans
        (State.latchModule_mask _ (by decide)))
  · rw [State.closeDebug_of_awake awake]
    refine ⟨rfl, State.odGet_odSet_self _ _ _ _, State.odGet_odSet_other _ _ (by decide), ?_⟩
    exact (State.odSet_mask _ _ _ _ (by decide)).trans (setSec_mask _ _ (by decide))
  · rw [State.readDebug_of_bytes (State.debugReady_of_open awake region opened) (State.debugBytes_of_module region inside)]
    exact ⟨rfl, fun i line => lineMarks_getLsbD _ line, setSec_mask _ _ (by decide)⟩
  · subst target
    rw [State.readDebug_of_bytes (State.debugReady_of_open awake rfl opened) ((State.debugBytes_of_part part).trans read)]
    refine ⟨rfl, fun i line => lineMarks_getLsbD _ line, rfl, (setSec_mask _ _ (by decide)).trans ?_⟩
    exact State.mread_mask_of_some read (State.mread_mask _ _ _ _ _ (by decide))
  · exact congrArg Host.Outcome.next
      (State.writeDebug_of_module (State.debugReady_of_open awake region opened) region inside whole)
  · subst target
    exact congrArg (fun r => Host.Outcome.next (Prod.snd r))
      (State.writeDebug_of_part (State.debugReady_of_open awake rfl opened) part whole)
  · have notReady := State.debugReady_of_closed closed
    exact ⟨congrArg (fun r => Host.Outcome.next (Prod.snd r)) (State.readDebug_of_closed notReady),
      congrArg (fun r => Host.Outcome.next (Prod.snd r)) (State.writeDebug_of_closed bs notReady)⟩
  · exact congrArg Host.Outcome.next (if_neg on)
  · refine congrArg Host.Outcome.next (if_neg ?_)
    simp only [on, booted, awake, decide_false, Bool.or_self, Bool.false_eq_true, not_false_eq_true]

end Sys2Proof.Machine
end

section
/-!
Staging, slots and the compaction of the store (R599, R606–R614), for O60. A commit of the persistent store moves records
between its banks and nothing else of it; with that the slots and the staged chunks are read off the commands.
-/
namespace Sys2Proof.Machine

set_option Elab.async false
open Sys2Proof

/-! ### Banks and slots -/

/-- The store without its two banks and the numbers of their records: what no commit changes. -/
def Store.slots (t : Store) : Store :=
  { t with bankA := {}, bankB := {}, nextSeq := 0, newestB := false, newestSeq := 0, compaction := 0 }

theorem Store.slots_putBank (t : Store) (b : Bool) (x : PsBank) : (t.putBank b x).slots = t.slots := by
  cases b <;> rfl

theorem Store.slots_append (b base : Bool) (items ls : List Nat) (t : Store) :
    (Store.append t b base items ls).slots = t.slots := by
  induction ls generalizing t with
  | nil => rfl
  | cons l ls ih =>
    refine (ih _).trans ?_
    exact Store.slots_putBank _ _ _

theorem Store.slots_compactIfShort (t : Store) : t.compactIfShort.slots = t.slots := by
  unfold Store.compactIfShort
  dsimp only
  split
  · exact Store.slots_putBank _ _ _
  · rfl

theorem State.keepCounts_store (s : State) (items : List Nat) : (s.keepCounts items).store = s.store := by
  unfold State.keepCounts
  split <;> rfl

@[simp] theorem State.odSet_store (s : State) (ix sub v : Nat) : (s.odSet ix sub v).store = s.store := rfl

@[simp] theorem State.odInc_store (s : State) (ix sub n : Nat) : (s.odInc ix sub n).store = s.store := rfl

theorem State.psCommit_slots (s : State) (items : List Nat) (ok : Bool) :
    (s.psCommit items ok).2.store.slots = s.store.slots := by
  unfold State.psCommit
  dsimp only
  generalize marked : Store.compactIfShort _ = t
  have kept : t.slots = s.store.slots := marked ▸ Store.slots_compactIfShort _
  have advanced (b : Bool) (x : PsBank) (n : Nat) : { t.putBank b x with nextSeq := n : Store }.slots = s.store.slots :=
    (Store.slots_putBank t b x).trans kept
  split
  · rw [State.odInc_store, State.setStore_store, Store.slots_compactIfShort]
    split
    · exact kept
    · exact advanced _ _ _
  · rw [State.odInc_store, State.keepCounts_store, State.setStore_store, Store.slots_compactIfShort]
    refine Eq.trans (Store.slots_putBank _ _ _) ?_
    exact (Store.slots_append _ _ _ _ t).trans kept

theorem State.commit_slots (s : State) (items : List Nat) : (s.commit items).store.slots = s.store.slots :=
  s.psCommit_slots items true

@[simp] theorem Store.plat_putPlat_self (t : Store) (b : Bool) (x : PlatState) : (t.putPlat b x).plat b = x := by
  cases b <;> rfl

@[simp] theorem Store.plat_putPlat_not (t : Store) (b : Bool) (x : PlatState) : (t.putPlat b x).plat (!b) = t.plat (!b) := by
  cases b <;> rfl

@[simp] theorem Store.run_putRun_self (t : Store) (b : Bool) (x : RunState) : (t.putRun b x).run b = x := by
  cases b <;> rfl

@[simp] theorem Store.run_putRun_not (t : Store) (b : Bool) (x : RunState) : (t.putRun b x).run (!b) = t.run (!b) := by
  cases b <;> rfl

theorem Store.chunks_of_slots {t u : Store} (e : t.slots = u.slots) : t.chunks = u.chunks := congrArg (fun x => x.chunks) e

theorem Store.answered_of_slots {t u : Store} (e : t.slots = u.slots) : t.answered = u.answered :=
  congrArg (fun x => x.answered) e

theorem Store.plat_of_slots {t u : Store} (e : t.slots = u.slots) (b : Bool) : t.plat b = u.plat b :=
  congrArg (fun x => x.plat b) e

theorem Store.img_of_slots {t u : Store} (e : t.slots = u.slots) (b : Bool) : t.img b = u.img b :=
  congrArg (fun x => x.img b) e

theorem Store.run_of_slots {t u : Store} (e : t.slots = u.slots) (b : Bool) : t.run b = u.run b :=
  congrArg (fun x => x.run b) e

theorem Store.runImg_of_slots {t u : Store} (e : t.slots = u.slots) (b : Bool) : t.runImg b = u.runImg b :=
  congrArg (fun x => x.runImg b) e

theorem Store.probation_of_slots {t u : Store} (e : t.slots = u.slots) : t.probation = u.probation :=
  congrArg (fun x => x.probation) e

/-- A commit writes no entry of staging: only the counts of 0x2A00. -/
theorem State.odGet_commit_staging (s : State) (items : List Nat) {sub : Nat} (small : sub < 256) :
    (s.commit items).odGet 0x2A10 sub = s.odGet 0x2A10 sub := by
  refine State.odGet_commit_other _ _ ?_ ?_ <;> · unfold odKey; omega

/-! ### Staging (R606, R607) -/

theorem exec_stageOpen {s : State} (awake : s.asleep = false) : exec .stageOpen s = .next s.stageOpen.2 :=
  congrArg Host.Outcome.next (if_neg (Bool.eq_false_iff.mp awake))

theorem State.stageOpen_of_empty {s : State} (empty : s.stageState = 0) (size : s.stageSizeOk = true) :
    s.stageOpen.2 = ((((s.setStore { s.store with chunks := [], answered := [] }).odSet 0x2A10 7
      (ceilDiv s.stageBytes 65536)).odSet 0x2A10 5 1).odSet 0x2A10 4 2).commit [9] := by
  unfold State.stageOpen
  rw [if_neg (not_not.mpr empty), if_neg (by rw [size]; decide)]
  dsimp only
  rw [show ∀ t, (s.setStore t).stageBytes = s.stageBytes from fun _ => rfl]

theorem State.stageOpen_of_refused {s : State} (refused : s.stageState ≠ 0 ∨ s.stageSizeOk = false) :
    s.stageOpen.2 = s.odSet 0x2A10 4 3 := by
  unfold State.stageOpen
  split
  · rfl
  · next empty =>
    rw [refused.resolve_left empty]
    rfl

theorem State.stageOpen_opens {s : State} (empty : s.stageState = 0) (size : s.stageSizeOk = true) :
    s.stageOpen.2.stageState = 1 ∧ s.stageOpen.2.chunksTotal = ceilDiv s.stageBytes 65536 ∧
      s.stageOpen.2.store.chunks = [] ∧ s.stageOpen.2.store.answered = [] ∧ s.stageOpen.2.odGet 0x2A10 4 = 2 := by
  rw [State.stageOpen_of_empty empty size]
  refine ⟨?_, ?_, Store.chunks_of_slots (State.commit_slots _ _), Store.answered_of_slots (State.commit_slots _ _), ?_⟩
  · rw [State.stageState, State.odGet_commit_staging _ _ (by decide), State.odGet_odSet_other _ _ (by decide),
      State.odGet_odSet_self]
  · rw [State.chunksTotal, State.odGet_commit_staging _ _ (by decide), State.odGet_odSet_other _ _ (by decide),
      State.odGet_odSet_other _ _ (by decide), State.odGet_odSet_self]
  · rw [State.odGet_commit_staging _ _ (by decide), State.odGet_odSet_self]

theorem State.stageDiscard_empties (s : State) :
    s.stageDiscard.stageState = 0 ∧ s.stageDiscard.chunksTotal = 0 ∧ s.stageDiscard.store.chunks = [] ∧
      s.stageDiscard.store.answered = [] ∧ s.stageDiscard.odGet 0x2A10 0x0B = 0x30 ∧ s.stageDiscard.odGet 0x2A10 4 = 2 := by
  have slots : s.stageDiscard.store.slots = { s.store with chunks := [], answered := [] : Store }.slots := by
    rw [State.stageDiscard, State.odSet_store, State.imageResult, State.commit_slots]
    rfl
  refine ⟨?_, ?_, Store.chunks_of_slots slots, Store.answered_of_slots slots, ?_, ?_⟩ <;>
    simp only [State.stageDiscard, State.imageResult, State.stageState, State.chunksTotal]
  · rw [State.odGet_odSet_other _ _ (by decide), State.odGet_commit_staging _ _ (by decide),
      State.odGet_odSet_other _ _ (by decide), State.odGet_odSet_other _ _ (by decide)]
    exact State.odGet_odSet_self _ _ _ _
  · rw [State.odGet_odSet_other _ _ (by decide), State.odGet_commit_staging _ _ (by decide),
      State.odGet_odSet_other _ _ (by decide), State.odGet_odSet_other _ _ (by decide), State.stageEmpty,
      State.odGet_odSet_other _ _ (by decide)]
    exact State.odGet_odSet_self _ _ _ _
  · rw [State.odGet_odSet_other _ _ (by decide), State.odGet_commit_staging _ _ (by decide),
      State.odGet_odSet_other _ _ (by decide)]
    exact State.odGet_odSet_self _ _ _ _
  · exact State.odGet_odSet_self _ _ _ _

theorem State.chunkWrite_of_good {s : State} {bs : List Byte} (receiving : s.stageState = 1)
    (index : leNat (bs.take 4) < s.chunksTotal) (length : bs.length = 4 + s.chunkLen (leNat (bs.take 4))) :
    (s.chunkWrite bs).2 =
      s.setStore { s.store with answered := s.store.answered.put (leNat (bs.take 4)) (leNat (bs.drop 4)) } := by
  unfold State.chunkWrite
  dsimp only
  rw [if_neg (not_not.mpr receiving), if_neg (Nat.not_le.mpr index), if_neg (not_not.mpr length)]

theorem State.chunkWrite_of_refused {s : State} {bs : List Byte} (refused : s.stageState ≠ 1 ∨
    s.chunksTotal ≤ leNat (bs.take 4) ∨ bs.length ≠ 4 + s.chunkLen (leNat (bs.take 4))) : (s.chunkWrite bs).2 = s := by
  unfold State.chunkWrite
  dsimp only
  split
  · rfl
  · next receiving =>
    split
    · rfl
    · next index => rw [if_pos ((refused.resolve_left receiving).resolve_left index)]

theorem State.chunkDurable_of_answered {s : State} {i v : Nat} (answered : s.store.answered.find i = some v) :
    s.chunkDurable i =
      let t := (s.setStore { s.store with
        answered := s.store.answered.del i, chunks := s.store.chunks.put i v }).parkDraw (s.chunkLen i)
      if (s.store.chunks.put i v).length = s.chunksTotal then (t.odSet 0x2A10 5 2).commit [9] else t := by
  unfold State.chunkDurable
  rw [answered]
  rfl

theorem State.chunkDurable_of_last {s : State} {i v : Nat} (answered : s.store.answered.find i = some v)
    (last : (s.store.chunks.put i v).length = s.chunksTotal) :
    (s.chunkDurable i).stageState = 2 ∧ (s.chunkDurable i).store.chunks = s.store.chunks.put i v ∧
      (s.chunkDurable i).store.answered = s.store.answered.del i ∧
      (s.chunkDurable i).park = (s.parkDraw (s.chunkLen i)).park := by
  rw [State.chunkDurable_of_answered answered]
  dsimp only
  rw [if_pos last]
  refine ⟨?_, Store.chunks_of_slots (State.commit_slots _ _), Store.answered_of_slots (State.commit_slots _ _), ?_⟩
  · rw [State.stageState, State.odGet_commit_staging _ _ (by decide)]
    exact State.odGet_odSet_self _ _ _ _
  · rw [keeps_park (w := allBut .park) (State.commit_mask _ _ (by decide))]
    rfl

theorem State.chunkDurable_of_unanswered {s : State} {i : Nat} (unanswered : s.store.answered.find i = none) :
    s.chunkDurable i = s := by
  unfold State.chunkDurable
  rw [unanswered]

/-! ### Arming (R608, R614) -/

theorem exec_stageArm {s : State} (r : StartReport) (awake : s.asleep = false) :
    exec (.stageArm r) s = .next (s.stageArm r).2 := congrArg Host.Outcome.next (if_neg (Bool.eq_false_iff.mp awake))

theorem State.stageArm_of_ok {s : State} (r : StartReport) (ok : s.armOk = true) :
    (s.stageArm r).2 = if s.mode = .recovery ∧ s.stageKind = 1 then s.arm.modStart 4 r else s.arm := by
  have mode : s.arm.mode = s.mode := keeps_mode (w := allBut .mode) (State.arm_mask s (by decide))
  unfold State.stageArm
  rw [if_pos ok]
  dsimp only
  simp only [mode, Bool.and_eq_true, decide_eq_true_eq]

theorem State.stageArm_of_refused {s : State} (r : StartReport) (refused : s.armOk = false) :
    (s.stageArm r).2 = s.odSet 0x2A10 4 3 := congrArg Prod.snd (if_neg (Bool.eq_false_iff.mp refused))

/-- The store with the staged image armed: in the inactive platform slot, or in the runtime slot that is not current. -/
def State.armedStore (s : State) : Store :=
  let img := imageOf s.stagedHead s.stageKind
  if s.stageKind = 1 then
    (s.store.putImg (!((s.store.platIn .active).getD true)) img).putPlat (!((s.store.platIn .active).getD true)) .pending
  else
    (s.store.putRunImg (!((s.store.runIn .current).getD true)) img).putRun (!((s.store.runIn .current).getD true)) .candidate

theorem State.arm_eq (s : State) :
    s.arm = (((s.setStore s.armedStore).stageEmpty).odSet 0x2A10 4 2).commit [9] := rfl

theorem State.arm_slots (s : State) :
    s.arm.store.slots = { s.armedStore with chunks := [], answered := [] : Store }.slots := by
  rw [State.arm_eq, State.commit_slots]
  rfl

theorem State.arm_empties (s : State) :
    s.arm.stageState = 0 ∧ s.arm.store.chunks = [] ∧ s.arm.odGet 0x2A10 4 = 2 := by
  refine ⟨?_, Store.chunks_of_slots s.arm_slots, ?_⟩
  · rw [State.arm_eq, State.stageState, State.odGet_commit_staging _ _ (by decide), State.odGet_odSet_other _ _ (by decide)]
    exact State.odGet_odSet_self _ _ _ _
  · rw [State.arm_eq, State.odGet_commit_staging _ _ (by decide), State.odGet_odSet_self]

theorem State.arm_platform {s : State} {b : Bool} (platform : s.stageKind = 1)
    (slot : b = !((s.store.platIn .active).getD true)) :
    s.arm.store.plat b = .pending ∧ s.arm.store.plat (!b) = s.store.plat (!b) ∧
      s.arm.store.img b = imageOf s.stagedHead 1 := by
  rw [Store.plat_of_slots s.arm_slots, Store.plat_of_slots s.arm_slots, Store.img_of_slots s.arm_slots, State.armedStore]
  simp only [platform, if_true, ← slot]
  cases b <;> exact ⟨rfl, rfl, rfl⟩

theorem State.arm_runtime {s : State} {b : Bool} (runtime : s.stageKind ≠ 1)
    (slot : b = !((s.store.runIn .current).getD true)) :
    s.arm.store.run b = .candidate ∧ s.arm.store.run (!b) = s.store.run (!b) ∧
      s.arm.store.runImg b = imageOf s.stagedHead s.stageKind := by
  rw [Store.run_of_slots s.arm_slots, Store.run_of_slots s.arm_slots, Store.runImg_of_slots s.arm_slots, State.armedStore]
  simp only [runtime, if_false, ← slot]
  cases b <;> exact ⟨rfl, rfl, rfl⟩

/-! ### Trial and probation (R610–R612) -/

theorem State.imageResult_slots (s : State) (c : Nat) : (s.imageResult c).store.slots = s.store.slots :=
  State.commit_slots _ _

theorem State.imageResult_result (s : State) (c : Nat) : (s.imageResult c).odGet 0x2A10 0x0B = c := by
  rw [State.imageResult, State.odGet_commit_staging _ _ (by decide), State.odGet_odSet_other _ _ (by decide),
    State.odGet_odSet_self]

/-- The store once the bundle of slot `b` has passed its probation. -/
def Store.confirm (t : Store) (b : Bool) : Store :=
  let t := if t.run (!b) = .current then t.putRun (!b) .previous else t
  { t.putRun b .current with probation := none, runOlder := none }

theorem Store.confirm_run_self (t : Store) (b : Bool) : (t.confirm b).run b = .current := by
  cases b <;> rfl

theorem Store.confirm_run_not (t : Store) (b : Bool) :
    (t.confirm b).run (!b) = if t.run (!b) = .current then .previous else t.run (!b) := by
  unfold Store.confirm
  split <;> cases b <;> rfl

theorem Store.confirm_runImg (t : Store) (b : Bool) : (t.confirm b).runImg b = t.runImg b := by
  unfold Store.confirm
  split <;> cases b <;> rfl

theorem State.probationEnd_of_healthy {s : State} {n : Nat} {b : Bool} (probation : s.store.probation = some n)
    (slot : s.store.runIn .probation = some b) (past : s.odGet 0x2A20 0x0B ≤ n) (healthy : s.odGet 0x2A20 0x0D = 1) :
    s.probationEnd = ((s.setStore (s.store.confirm b)).setSec { s.sec with
      fuseRuntime := Nat.max s.sec.fuseRuntime ((s.store.confirm b).runImg b).counter }).imageResult 2 := by
  unfold State.probationEnd
  simp only [probation, slot]
  rw [if_neg (Nat.not_lt.mpr past), if_pos healthy]
  rfl

theorem State.probationEnd_of_unhealthy {s : State} {n : Nat} {b : Bool} (probation : s.store.probation = some n)
    (slot : s.store.runIn .probation = some b) (past : s.odGet 0x2A20 0x0B ≤ n) (sick : s.odGet 0x2A20 0x0D ≠ 1) :
    s.probationEnd = (s.failProbation 0x21).drainFor 0 true := by
  unfold State.probationEnd
  simp only [probation, slot]
  rw [if_neg (Nat.not_lt.mpr past), if_neg sick]

theorem State.probationEnd_of_running {s : State}
    (running : s.store.probation = none ∨ ∃ n, s.store.probation = some n ∧ n < s.odGet 0x2A20 0x0B) :
    s.probationEnd = s := by
  unfold State.probationEnd
  rcases running with none_runs | ⟨n, probation, early⟩
  · rw [none_runs]
  · rw [probation]
    split
    · next m b e _ =>
      cases e
      rw [if_pos early]
    · rfl

/-- The store once the bundle of slot `b` has failed its probation. -/
def Store.rejectRun (t : Store) (b : Bool) : Store :=
  { t.putRun b .rejected with probation := none, runSettings := t.runOlder.getD t.runSettings, runOlder := none }

theorem State.failProbation_slots {s : State} {b : Bool} (c : Nat) (slot : s.store.runIn .probation = some b) :
    (s.failProbation c).store.slots = (s.store.rejectRun b).slots := by
  unfold State.failProbation
  dsimp only
  rw [slot]
  exact State.imageResult_slots _ _

theorem State.beginEntry_mode (s : State) (target : Mode) (grace : Bool) (oos : Nat) (warm : Bool) :
    (s.beginEntry target grace oos warm).mode = .draining := State.enterMode_mode _ _

theorem State.enterMode_entry (s : State) (m : Mode) : (s.enterMode m).entry = s.entry :=
  keeps_entry (w := allBut .entry) (State.enterMode_mask s m (by decide))

theorem State.beginEntry_entry (s : State) (target : Mode) (grace : Bool) (oos : Nat) (warm : Bool) :
    (s.beginEntry target grace oos warm).entry = some {
      target := target, step := 1, since := if s.mode = .draining then s.pow.stateSince else s.now
      byGrace := grace, oos := oos, thenWarm := warm } := by
  unfold State.beginEntry
  rw [State.enterMode_entry]
  rfl

theorem State.drainFor_of_serving {s : State} (oos : Nat) (warm : Bool) (serving : s.mode = .serving) :
    s.drainFor oos warm = s.beginEntry .draining false oos warm := by
  unfold State.drainFor
  rw [serving]

theorem State.trialTimeout_of_late {s : State} {b : Bool} (starting : s.mode = .boot ∨ s.mode = .train)
    (trial : s.store.platIn .trial = some b) (late : s.rst.trialSince + 2500000000 ≤ s.now) :
    s.trialTimeout = s.failTrial.toRecovery 2 := by
  have ends : ((s.store.platIn .trial).isSome && decide (s.rst.trialSince + 10 * second ≤ s.now)) = true := by
    rw [trial, decide_eq_true (show s.rst.trialSince + 10 * second ≤ s.now from late)]
    rfl
  unfold State.trialTimeout
  rcases starting with mode | mode <;> rw [mode] <;> exact if_pos ends

theorem State.trialTimeout_of_early {s : State}
    (early : s.store.platIn .trial = none ∨ s.now < s.rst.trialSince + 2500000000) : s.trialTimeout = s := by
  have runs : ((s.store.platIn .trial).isSome && decide (s.rst.trialSince + 10 * second ≤ s.now)) = false := by
    rcases early with none_tried | early
    · rw [none_tried]
      rfl
    · rw [decide_eq_false (show ¬ s.rst.trialSince + 10 * second ≤ s.now from Nat.not_le.mpr early), Bool.and_false]
  unfold State.trialTimeout
  split
  · exact if_neg (Bool.eq_false_iff.mp runs)
  · exact if_neg (Bool.eq_false_iff.mp runs)
  · rfl

/-- The store once the image of slot `b` has failed its trial. -/
def Store.failPlat (t : Store) (b : Bool) : Store :=
  { t.putPlat b .failed with
    trialFailed := true, platSettings := t.platOlder.getD t.platSettings, platOlder := none }

theorem State.failTrial_slots {s : State} {b : Bool} (trial : s.store.platIn .trial = some b) :
    s.failTrial.store.slots = (s.store.failPlat b).slots := by
  unfold State.failTrial
  dsimp only
  rw [trial]
  exact State.imageResult_slots _ _

theorem State.enterMode_store (s : State) (m : Mode) : (s.enterMode m).store = s.store :=
  keeps_store (w := allBut .store) (State.enterMode_mask s m (by decide))

theorem State.enterMode_rst (s : State) (m : Mode) : (s.enterMode m).rst = s.rst :=
  keeps_rst (w := allBut .rst) (State.enterMode_mask s m (by decide))

/-! ### Compaction (R599) -/

theorem Store.bank_putBank_self (t : Store) (b : Bool) (x : PsBank) : (t.putBank b x).bank b = x := by
  cases b <;> rfl

theorem Store.bank_putBank_not (t : Store) (b : Bool) (x : PsBank) : (t.putBank b x).bank (!b) = t.bank (!b) := by
  cases b <;> rfl

/-- Records appended to a bank leave its erasures and its stale items, and the other bank. -/
theorem Store.append_bank (b base : Bool) (items ls : List Nat) (t : Store) :
    ((Store.append t b base items ls).bank b).erases = (t.bank b).erases ∧
      ((Store.append t b base items ls).bank b).stale = (t.bank b).stale ∧
      (Store.append t b base items ls).bank (!b) = t.bank (!b) := by
  induction ls generalizing t with
  | nil => exact ⟨rfl, rfl, rfl⟩
  | cons l ls ih =>
    unfold Store.append
    dsimp only
    refine ⟨(ih _).1.trans ?_, (ih _).2.1.trans ?_, (ih _).2.2.trans ?_⟩ <;> cases b <;> rfl

/-- The store when bank `b` has been erased and holds its base commit. -/
def Store.compacted (t : Store) (b : Bool) : Store :=
  let t := t.putBank b { records := [], nextPage := 0, erases := (t.bank b).erases + 1, stale := [] }
  let t := t.append b true allItems (payloadsOf allItems t.nextSeq)
  { t with newestB := b, newestSeq := t.nextSeq - 1, compaction := 0 }

theorem State.compactionDone_eq {s : State} {b : Bool} (erasing : s.store.compaction = if b then 2 else 1) :
    s.compactionDone = ((s.setStore (s.store.compacted b)).setRel { s.rel with
      keptCounts := (s.rel.charged, s.rel.charged24) }).odInc 0x2A00 7 1 := by
  have found : (decide (s.store.compaction = 1) || decide (s.store.compaction = 2)) = true := by
    rw [erasing]
    cases b <;> rfl
  have slot : decide (s.store.compaction = 2) = b := by
    rw [erasing]
    cases b <;> rfl
  unfold State.compactionDone
  dsimp only
  rw [if_pos found, slot]
  rfl

/-- The erased bank, before its base commit. -/
def Store.erased (t : Store) (b : Bool) : Store :=
  t.putBank b { records := [], nextPage := 0, erases := (t.bank b).erases + 1, stale := [] }

theorem Store.bank_of_counts (t : Store) (newest : Bool) (seq compaction : Nat) (c : Bool) :
    { t with newestB := newest, newestSeq := seq, compaction := compaction : Store }.bank c = t.bank c := by
  cases c <;> rfl

theorem Store.bank_compacted (t : Store) (b c : Bool) : (t.compacted b).bank c =
    (Store.append (t.erased b) b true allItems (payloadsOf allItems (t.erased b).nextSeq)).bank c :=
  Store.bank_of_counts _ _ _ _ _

theorem Store.compacted_bank (t : Store) (b : Bool) :
    ((t.compacted b).bank b).erases = (t.bank b).erases + 1 ∧ ((t.compacted b).bank b).stale = [] ∧
      (t.compacted b).bank (!b) = t.bank (!b) := by
  obtain ⟨erases, stale, other⟩ :=
    Store.append_bank b true allItems (payloadsOf allItems (t.erased b).nextSeq) (t.erased b)
  rw [Store.bank_compacted, Store.bank_compacted, erases, stale, other, Store.erased, Store.bank_putBank_self,
    Store.bank_putBank_not]
  exact ⟨rfl, rfl, rfl⟩

/-- Settles O60, command by command: the slots and chunks through `State.commit_slots`, the rest read off. -/
theorem stagingAndSlots : Obligations.StagingAndSlots := by
  refine ⟨fun s awake empty size => ⟨_, exec_stageOpen awake, ?_⟩, fun s awake refused => ?_,
    fun s awake => ⟨s.stageDiscard, congrArg Host.Outcome.next (if_neg (Bool.eq_false_iff.mp awake)), ?_⟩,
    fun s bs awake receiving index length => ?_, fun s bs refused => ?_, fun s i v answered more => ?_,
    fun s i v answered last => ⟨_, rfl, ?_⟩, fun s i unanswered => ?_, fun s r b awake ok mode platform slot =>
      ⟨_, exec_stageArm r awake, ?_⟩, fun s r b awake ok runtime slot => ⟨_, exec_stageArm r awake, ?_⟩,
    fun s r ok recovery platform => ?_, fun s r awake refused => ?_,
    fun s n b probation slot past healthy => ⟨_, rfl, ?_⟩, fun s n b probation slot past sick serving => ⟨_, rfl, ?_⟩,
    fun s n running => ?_, fun s r b recovery slot => ⟨fun full => ?_, fun empty => ?_⟩, fun s r running => ?_,
    fun s b starting trial late => ⟨_, rfl, ?_⟩, fun s early => ?_, fun s b erasing => ⟨_, rfl, ?_⟩, fun s none_erased => ?_⟩
  · obtain ⟨state, total, chunks, answered, done⟩ := State.stageOpen_opens empty size
    exact ⟨state, total, chunks, answered, done, State.stageOpen_mask s (by decide)⟩
  · rw [exec_stageOpen awake, State.stageOpen_of_refused refused]
  · obtain ⟨state, total, chunks, answered, result, done⟩ := s.stageDiscard_empties
    exact ⟨state, total, chunks, answered, result, done, State.stageDiscard_mask s (by decide)⟩
  · exact congrArg Host.Outcome.next ((if_neg (Bool.eq_false_iff.mp awake)).trans
      (State.chunkWrite_of_good receiving index length))
  · refine congrArg Host.Outcome.next ?_
    rw [State.chunkWrite_of_refused refused, ite_self]
  · refine congrArg Host.Outcome.next ((State.chunkDurable_of_answered answered).trans ?_)
    exact if_neg more
  · obtain ⟨state, chunks, rest, park⟩ := State.chunkDurable_of_last answered last
    exact ⟨state, chunks, rest, park, State.chunkDurable_mask s i (by decide)⟩
  · exact congrArg Host.Outcome.next (State.chunkDurable_of_unanswered unanswered)
  · rw [State.stageArm_of_ok r ok, if_neg (fun both => mode both.1)]
    obtain ⟨plat, other, img⟩ := State.arm_platform platform slot
    obtain ⟨state, chunks, done⟩ := s.arm_empties
    exact ⟨plat, other, img, state, chunks, done, State.arm_mask s (by decide)⟩
  · rw [State.stageArm_of_ok r ok, if_neg (fun both => runtime both.2)]
    obtain ⟨run, other, img⟩ := State.arm_runtime runtime slot
    obtain ⟨state, chunks, done⟩ := s.arm_empties
    exact ⟨run, other, img, state, chunks, done, State.arm_mask s (by decide)⟩
  · have awake : s.asleep = false := by
      rw [State.asleep, recovery]
      rfl
    rw [exec_stageArm r awake, State.stageArm_of_ok r ok, if_pos ⟨recovery, platform⟩]
  · rw [exec_stageArm r awake, State.stageArm_of_refused r refused]
  · rw [State.probationEnd_of_healthy probation slot past healthy]
    have slots := State.imageResult_slots ((s.setStore (s.store.confirm b)).setSec { s.sec with
      fuseRuntime := Nat.max s.sec.fuseRuntime ((s.store.confirm b).runImg b).counter }) 2
    refine ⟨(Store.run_of_slots slots b).trans (Store.confirm_run_self _ _), Store.probation_of_slots slots,
      (Store.run_of_slots slots (!b)).trans (Store.confirm_run_not _ _), ?_, State.imageResult_result _ _, ?_, ?_⟩
    · rw [keeps_sec (w := allBut .sec) (State.imageResult_mask _ _ (by decide)), State.setSec_sec, Store.confirm_runImg]
    · rw [keeps_mode (w := allBut .mode) (State.imageResult_mask _ _ (by decide))]
      rfl
    · exact (State.imageResult_mask _ _ (by decide)).trans ((setSec_mask _ _ (by decide)).trans (setStore_mask _ _ (by decide)))
  · have kept : (s.failProbation 0x21).mode = .serving :=
      (keeps_mode (w := allBut .mode) (State.failProbation_mask s _ (by decide))).trans serving
    have fails := State.probationEnd_of_unhealthy probation slot past sick
    have slots := State.failProbation_slots 0x21 slot
    have frame := State.probationEnd_mask s (m0 := maskOf [.free, .mode, .idle, .entry, .leftMode, .wakeHeld, .queues,
      .dram, .upsets, .ecc, .tlb, .modMem, .fw, .ev, .rel, .sec, .pow, .store, .od]) (by decide)
    rw [State.drainFor_of_serving _ _ kept] at fails
    have store : s.probationEnd.store = (s.failProbation 0x21).store := by
      rw [fails]
      exact keeps_store (w := allBut .store) (State.beginEntry_mask _ _ _ _ _ (by decide))
    have sec : s.probationEnd.sec = s.sec := by
      rw [fails]
      exact (keeps_sec (w := allBut .sec) (State.beginEntry_mask _ _ _ _ _ (by decide))).trans
        (keeps_sec (w := allBut .sec) (State.failProbation_mask _ _ (by decide)))
    refine ⟨?_, ?_, ?_, by rw [sec], ?_, ?_, frame⟩
    · rw [store, Store.run_of_slots slots]
      exact Store.run_putRun_self _ _ _
    · rw [store, Store.run_of_slots slots]
      exact Store.run_putRun_not _ _ _
    · rw [store, Store.probation_of_slots slots]
      rfl
    · rw [fails, State.beginEntry_mode]
    · rw [fails, State.beginEntry_entry]
      rfl
  · exact congrArg Host.Outcome.next (State.probationEnd_of_running (running.imp_right fun h => ⟨n, h⟩))
  · refine congrArg Host.Outcome.next ?_
    subst slot
    unfold State.usePrevious
    rw [if_pos recovery]
    dsimp only
    rw [if_neg full]
  · refine congrArg Host.Outcome.next ?_
    subst slot
    unfold State.usePrevious
    rw [if_pos recovery]
    dsimp only
    rw [if_pos empty]
  · exact congrArg (fun r => Host.Outcome.next (Prod.snd r)) (if_neg running)
  · rw [State.trialTimeout_of_late starting trial late]
    have slots := State.failTrial_slots trial
    have store : (s.failTrial.toRecovery 2).store = s.failTrial.store := State.enterMode_store _ _
    refine ⟨State.enterMode_mode _ _, ?_, ?_, ?_, ?_⟩
    · rw [store, Store.plat_of_slots slots]
      exact Store.plat_putPlat_self _ _ _
    · rw [store, Store.plat_of_slots slots]
      exact Store.plat_putPlat_not _ _ _
    · exact congrArg Rst.running (State.enterMode_rst _ _)
    · exact (State.toRecovery_mask _ _ (by decide)).trans (State.failTrial_mask _ (by decide))
  · exact congrArg Host.Outcome.next (State.trialTimeout_of_early early)
  · rw [State.compactionDone_eq erasing]
    obtain ⟨erases, stale, other⟩ := s.store.compacted_bank b
    exact ⟨rfl, rfl, erases, stale, other, rfl, (State.odInc_mask _ _ _ _ (by decide)).trans
      ((setRel_mask _ _ (by decide)).trans (setStore_mask _ _ (by decide)))⟩
  · refine congrArg Host.Outcome.next ?_
    unfold State.compactionDone
    dsimp only
    rw [none_erased]
    rfl

end Sys2Proof.Machine
end

section
/-!
Leaves, attestation and key release (R515–R520, R528, R531–R536), for O53.
-/
namespace Sys2Proof.Machine

set_option Elab.async false
open Sys2Proof

/-! ### Leaves -/

theorem State.odGet_psCommit_other (s : State) (items : List Nat) (ok : Bool) {ix sub : Nat}
    (done : odKey 0x2A00 7 ≠ odKey ix sub) (failed : odKey 0x2A00 8 ≠ odKey ix sub) :
    (s.psCommit items ok).2.odGet ix sub = s.odGet ix sub := by
  unfold State.psCommit
  dsimp only
  split
  · exact State.odGet_odInc_other _ _ failed
  · rw [State.odGet_odInc_other _ _ done]
    unfold State.keepCounts
    split <;> rfl

theorem State.reserveLeaves_nextLeaf (s : State) (ok : Bool) : (s.reserveLeaves ok).nextLeaf = s.nextLeaf := by
  have committed : (s.psCommit [6] ok).2.nextLeaf = s.nextLeaf :=
    State.odGet_psCommit_other _ _ _ (by decide) (by decide)
  unfold State.reserveLeaves
  generalize s.psCommit [6] ok = r at committed ⊢
  obtain ⟨done, u⟩ := r
  dsimp only at committed ⊢
  split
  · exact (State.odGet_odSet_other _ _ (by decide)).trans committed
  · exact committed

/-- A reservation raises the bound by 1,024 leaves or not at all, and never past the last leaf. -/
theorem State.reserveLeaves_reservedTo (s : State) (ok : Bool) : (s.reserveLeaves ok).reservedTo = s.reservedTo ∨
    (s.reserveLeaves ok).reservedTo = Nat.min leavesTotal (s.reservedTo + 1024) := by
  have committed : (s.psCommit [6] ok).2.reservedTo = s.reservedTo :=
    State.odGet_psCommit_other _ _ _ (by decide) (by decide)
  unfold State.reserveLeaves
  generalize s.psCommit [6] ok = r at committed ⊢
  obtain ⟨done, u⟩ := r
  dsimp only at committed ⊢
  split
  · right
    rw [← committed]
    exact State.odGet_odSet_self _ _ _ _
  · exact .inl committed

theorem State.growTree_odGet (s : State) (n ix sub : Nat) : (s.growTree n).odGet ix sub = s.odGet ix sub := by
  unfold State.growTree
  split <;> rfl

/-- The reservation that leaf 512 of a block makes ahead: it moves no leaf, and lowers no bound. -/
theorem State.reserveAhead_leaves (s : State) (n : Nat) (ok : Bool) (t : State)
    (e : t = if n % 1024 = 512 && s.reservedTo < leavesTotal then s.reserveLeaves ok else s) :
    t.nextLeaf = s.nextLeaf ∧ s.reservedTo ≤ t.reservedTo := by
  subst e
  split
  · next ahead =>
    refine ⟨s.reserveLeaves_nextLeaf ok, ?_⟩
    rw [Bool.and_eq_true, decide_eq_true_eq, decide_eq_true_eq] at ahead
    rcases s.reserveLeaves_reservedTo ok with same | raised
    · exact same.ge
    · rw [raised]
      exact le_min ahead.2.le (Nat.le_add_right _ _)
  · exact ⟨rfl, le_rfl⟩

theorem State.takeLeaf_some {s t : State} {ok : Bool} {leaf : Nat} (taken : s.takeLeaf ok = (some leaf, t)) :
    leaf = s.nextLeaf ∧ t.nextLeaf = leaf + 1 ∧ leaf < t.reservedTo := by
  unfold State.takeLeaf at taken
  dsimp only at taken
  split at taken
  · cases taken
  · generalize reserved : (if s.reservedTo ≤ s.nextLeaf || !s.sec.signing then s.reserveLeaves ok else s) = u at taken
    have next : u.nextLeaf = s.nextLeaf := by
      subst reserved
      split
      · exact s.reserveLeaves_nextLeaf ok
      · rfl
    split at taken
    · cases taken
    · next free =>
      have below : u.nextLeaf < u.reservedTo := by
        rw [Bool.or_eq_true, decide_eq_true_eq, not_or] at free
        exact Nat.not_le.mp free.1
      obtain ⟨rfl, rfl⟩ := Prod.mk.inj taken |>.imp (Option.some.inj ·) id
      obtain ⟨kept, grown⟩ := State.reserveAhead_leaves ((u.odSet 0x2800 2 (u.nextLeaf + 1)).growTree u.nextLeaf)
        u.nextLeaf ok _ rfl
      refine ⟨next, kept.trans ?_, below.trans_le (le_trans (le_of_eq ?_) grown)⟩
      · rw [State.nextLeaf, State.growTree_odGet, State.odGet_odSet_self]
      · rw [State.reservedTo, State.reservedTo, State.growTree_odGet, State.odGet_odSet_other _ _ (by decide)]

/-! ### Attestation (R528, R531) -/

theorem exec_attestRequest_of_received {s u : State} {m : MbxSrc} {x : MbxIn} (ok : Bool)
    (e : s.receive m 0x40 = (some x, u)) : exec (.attestRequest m ok) s = .next (u.attest x ok) := by
  show execAttestRequest m ok s = _
  unfold execAttestRequest
  rw [e]

/-- The requests of partition p received within the last second, with the one received now. -/
abbrev State.recentAttests (s : State) (p : Nat) : List Nat :=
  ((s.part p).attests.filter (fun t => decide (s.now < t + second))) ++ [s.now]

/-- The state with the request counted. -/
abbrev State.countAttest (s : State) (p : Nat) : State :=
  s.putPart p { s.part p with attests := s.recentAttests p }

theorem State.countAttest_scrubs (s : State) (p : Nat) : ((s.countAttest p).part p).scrubs = (s.part p).scrubs := by
  rw [State.part_putPart_self]
  rfl

theorem State.attest_eq (s : State) (x : MbxIn) (ok : Bool) : s.attest x ok =
    let p := s.senderPart x
    let b := s.body x
    let u := s.countAttest p
    if s.secFailed then u.answer x 0xE5 []
    else if 3 < bodyAt b 32 2 then u.answer x 0xE0 []
    else if (s.part p).scrubs then u.answer x 0xEC []
    else if 16 < (s.recentAttests p).length then u.answer x 0xE6 []
    else if s.leavesLeft < 65536 then u.answer x 0xEB []
    else match u.takeLeaf ok with
      | (none, s) => s.answer x 0xEB []
      | (some leaf, s) =>
        (s.odInc 0x2800 8 1).answer x 0 (attestBody (s.report p leaf (bodyAt b 0 32) (bodyAt b 32 2)) leaf) := by
  dsimp only
  rw [← State.countAttest_scrubs]
  rfl

/-! ### Key release (R528, R535) -/

theorem exec_keyRelease_of_received {s u : State} {m : MbxSrc} {x : MbxIn} (e : s.receive m 0x41 = (some x, u)) :
    exec (.keyRelease m) s = .next (u.releaseKey x) := by
  show execKeyRelease m s = _
  unfold execKeyRelease
  rw [e]

theorem State.refuseKey_part (s : State) (x : MbxIn) (c k : Nat) : (s.refuseKey x c).part k = s.part k :=
  congrArg (fun m => AMap.getD m k ({} : Part)) (keeps_parts (w := allBut .parts) (State.refuseKey_mask s x c (by decide)))

/-- The checks of R528 that come before the pair. -/
def State.releaseOk (s : State) (x : MbxIn) : Prop :=
  s.secFailed = false ∧ bodyAt (s.body x) 2 2 = 0 ∧ bodyAt (s.body x) 1648 400 = 0 ∧ bodyAt (s.body x) 0 1 ≤ 3 ∧
    bodyAt (s.body x) 1 1 ≤ 15 ∧ (s.part (s.senderPart x)).scrubs = false

/-- A key release past those checks goes by the pair of its slot. -/
theorem State.releaseKey_of_ok {s : State} {x : MbxIn} (ok : s.releaseOk x) : s.releaseKey x =
    let p := s.senderPart x
    let y := s.part p
    let b := s.body x
    match s.kemPair p (bodyAt b 0 1) with
    | none => s.refuseKey x 0xE8
    | some gen =>
      if bodyAt b 4 4 ≠ y.epoch then s.refuseKey x 0xE7
      else if (y.modelKeys.find (bodyAt b 1 1)).isSome then s.refuseKey x 0xEA
      else
        let s := s.putPart p { y with kem := y.kem.del (bodyAt b 0 1) }
        match Config.keyUnwrap (keyEncryptionKey gen ((b.drop 40).take 1568)) ((b.drop 1608).take 40) with
        | none => s.refuseKey x 0xE9
        | some key =>
          let s := s.updPart p (fun y => { y with
            modelKeys := y.modelKeys.put (bodyAt b 1 1) { key := key, bundle := BitVec.ofNat 256 (bodyAt b 8 32) } })
          (s.odInc 0x2800 9 1).answer x 0 (leBytes 4 (bodyAt b 1 1) ++ leBytes 4 y.epoch ++ (b.drop 8).take 32 ++
            leBytes 24 0) := by
  obtain ⟨engines, reserved, tail, slot, model, steady⟩ := ok
  unfold State.releaseKey
  dsimp only
  refine (if_neg (Bool.eq_false_iff.mp engines)).trans ((if_neg ?_).trans (if_neg (Bool.eq_false_iff.mp steady)))
  simp only [reserved, tail, Nat.not_lt.mpr slot, Nat.not_lt.mpr model, ne_eq, not_true, decide_false, Bool.or_self,
    Bool.false_eq_true, not_false_eq_true]

/-- Partition p after its pair of `slot` is destroyed. -/
abbrev State.destroyPair (s : State) (p slot : Nat) : State := s.putPart p { s.part p with kem := (s.part p).kem.del slot }

/-- Partition p after its pair of `slot` released the model key. -/
abbrev Part.release (y : Part) (slot model key bundle : Nat) : Part :=
  { y with kem := y.kem.del slot, modelKeys := y.modelKeys.put model { key := key, bundle := BitVec.ofNat 256 bundle } }

theorem State.answer_part (s : State) (x : MbxIn) (status : Nat) (body : List Byte) (k : Nat) :
    (s.answer x status body).part k = s.part k :=
  congrArg (fun m => AMap.getD m k ({} : Part)) (keeps_parts (w := allBut .parts) (State.answer_mask s x status body (by decide)))

/-- A release with a fresh pair into a free slot either unwraps the key and stores it, or answers 0xE9; the pair is gone
either way. -/
theorem State.releaseKey_of_fresh {s : State} {x : MbxIn} {p slot model gen : Nat} {b : List Byte} (ok : s.releaseOk x)
    (hp : s.senderPart x = p) (hb : s.body x = b) (hs : bodyAt b 0 1 = slot) (hm : bodyAt b 1 1 = model)
    (pair : s.kemPair p slot = some gen) (epoch : bodyAt b 4 4 = (s.part p).epoch)
    (unused : (s.part p).modelKeys.find model = none) :
    (∃ key : Nat, Config.keyUnwrap (keyEncryptionKey gen ((b.drop 40).take 1568)) ((b.drop 1608).take 40) = some key ∧
      ∀ k : Nat, (s.releaseKey x).part k =
        if p = k then (s.part p).release slot model key (bodyAt b 8 32) else s.part k) ∨
    (Config.keyUnwrap (keyEncryptionKey gen ((b.drop 40).take 1568)) ((b.drop 1608).take 40) = none ∧
      s.releaseKey x = (s.destroyPair p slot).refuseKey x 0xE9) := by
  rw [State.releaseKey_of_ok ok]
  dsimp only
  rw [hp, hb, hs, hm, pair]
  dsimp only
  rw [if_neg (not_not.mpr epoch), unused, if_neg (by decide)]
  split
  · next unwraps => exact .inr ⟨unwraps, rfl⟩
  · next key unwraps =>
    refine .inl ⟨key, unwraps, fun k => ?_⟩
    rw [State.answer_part]
    show (((s.destroyPair p slot).putPart p _).part k) = _
    rw [State.part_putPart, State.part_putPart_self, State.part_putPart]
    split <;> rfl

/-- Settles O53: the leaves by `State.takeLeaf_some`, the requests by the branches of `State.attest` and
`State.releaseKey` in the order of their checks. -/
theorem attestationAndKeys : Obligations.AttestationAndKeys := by
  refine ⟨fun s t ok leaf taken => State.takeLeaf_some taken,
    fun s u w m ok x p leaf recent e hp engines nonce steady hr few left taken => ?_,
    fun s u m ok x p e hp engines nonce steady many => ?_, fun s u v m ok x p recent e hp hr hv => ?_,
    fun s u m x p slot model gen b e hp hb hs hm engines reserved tail small low steady pair epoch unused =>
      ⟨_, exec_keyRelease_of_received e, ?_⟩,
    fun s u m x p slot model gen b e hp hb hs hm engines reserved tail small low steady pair => ?_,
    fun s u m x e engines reserved tail small low steady nopair => ?_, fun s p slot gen since found => ?_⟩
  · subst hp hr
    rw [exec_attestRequest_of_received ok e, State.attest_eq]
    dsimp only
    rw [if_neg (Bool.eq_false_iff.mp engines), if_neg (Nat.not_lt.mpr nonce), if_neg (Bool.eq_false_iff.mp steady),
      if_neg (Nat.not_lt.mpr few), if_neg (Nat.not_lt.mpr left)]
    have same : (u.countAttest (u.senderPart x)).takeLeaf ok = (some leaf, w) := taken
    rw [same]
  · subst hp
    rw [exec_attestRequest_of_received ok e, State.attest_eq]
    dsimp only
    rw [if_neg (Bool.eq_false_iff.mp engines), if_neg (Nat.not_lt.mpr nonce), if_neg (Bool.eq_false_iff.mp steady),
      if_pos (by rw [State.recentAttests, List.length_append]; exact Nat.lt_succ_of_le many)]
  · subst hp hr hv
    rw [exec_attestRequest_of_received ok e, State.attest_eq]
    dsimp only
    refine ⟨fun failed => ?_, fun engines slot => ?_, fun engines nonce scrubs => ?_, fun engines nonce steady few left => ?_⟩
    · rw [if_pos failed]
    · rw [if_neg (Bool.eq_false_iff.mp engines), if_pos slot]
    · rw [if_neg (Bool.eq_false_iff.mp engines), if_neg (Nat.not_lt.mpr nonce), if_pos scrubs]
    · rw [if_neg (Bool.eq_false_iff.mp engines), if_neg (Nat.not_lt.mpr nonce), if_neg (Bool.eq_false_iff.mp steady),
        if_neg (Nat.not_lt.mpr few), if_pos left]
  · have ok : u.releaseOk x := by
      rw [State.releaseOk, hp, hb, hs, hm]
      exact ⟨engines, reserved, tail, small, low, steady⟩
    have frame : Only [.free, .idle, .queues, .dram, .upsets, .ecc, .tlb, .modMem, .parts, .fw, .ev, .od] s
        (u.releaseKey x) := by
      refine (State.releaseKey_mask u x (by decide)).trans ?_
      have intake := State.receive_mask s m 0x41 (m0 := maskOf [.free, .idle, .queues, .dram, .upsets, .ecc, .tlb,
        .modMem, .parts, .fw, .ev, .od]) (by decide)
      rwa [e] at intake
    rcases State.releaseKey_of_fresh ok hp hb hs hm pair epoch unused with ⟨key, unwraps, parts⟩ | ⟨fails, refused⟩
    · refine ⟨?_, fun key' e' => ?_, fun e' => ?_, fun k other => ?_, fun k other => ?_, frame⟩
      · rw [parts, if_pos rfl]
      · cases unwraps.symm.trans e'
        rw [parts, if_pos rfl, AMap.find_put, if_pos rfl]
      · cases unwraps.symm.trans e'
      · rw [parts, if_pos rfl, AMap.find_put, if_neg other.symm]
      · rw [parts, if_neg other.symm]
    · have parts (k : Nat) : (u.releaseKey x).part k = (u.destroyPair p slot).part k := by
        rw [refused, State.refuseKey_part]
      refine ⟨?_, fun key' e' => ?_, fun _ => refused, fun k _ => ?_, fun k other => ?_, frame⟩
      · rw [parts, State.part_putPart_self]
      · cases fails.symm.trans e'
      · rw [parts, State.part_putPart_self]
      · rw [parts, State.part_putPart_other _ _ other.symm]
  · have ok : u.releaseOk x := by
      rw [State.releaseOk, hp, hb, hs, hm]
      exact ⟨engines, reserved, tail, small, low, steady⟩
    rw [exec_keyRelease_of_received e, State.releaseKey_of_ok ok]
    dsimp only
    rw [hp, hb, hs, hm, pair]
    dsimp only
    refine ⟨fun stale => ?_, fun epoch used => ?_⟩
    · rw [if_pos stale]
    · rw [if_neg (not_not.mpr epoch), if_pos used]
  · rw [exec_keyRelease_of_received e, State.releaseKey_of_ok ⟨engines, reserved, tail, small, low, steady⟩]
    dsimp only
    rw [nopair]
  · show (_ → execKemExpiry p slot s = _) ∧ (_ → execKemExpiry p slot s = _)
    unfold execKemExpiry
    rw [found]
    exact ⟨fun old => if_pos old, fun fresh => if_neg (Nat.not_le.mpr fresh)⟩

end Sys2Proof.Machine
end

section
/-!
Requests of a session (R389–R391, R396, R403), for O42: what each operation does with the state `u` in which its request
has been taken.
-/
namespace Sys2Proof.Machine

set_option Elab.async false
open Sys2Proof

/-! ### Answers -/

theorem State.freeSession_ryc (s : State) (j : Nat) : ∃ (sess : AMap RSess) (reads : List HeldRead),
    (s.freeSession j).ryc = { s.ryc with sess := sess, reads := reads } := ⟨_, _, rfl⟩

theorem State.closeSession_ryc (s : State) (j : Nat) : ∃ (sess : AMap RSess) (reads : List HeldRead),
    (s.closeSession j).ryc = { s.ryc with sess := sess, reads := reads } := by
  unfold State.closeSession
  dsimp only
  split
  · exact State.freeSession_ryc _ _
  · exact ⟨_, _, rfl⟩
  · exact State.freeSession_ryc _ _

/-- An answer changes the session records, and the waiting reads where the session ends with it. -/
theorem State.respond_ryc (s : State) (j id : Nat) (port : BitVec 1) (body : List Byte) :
    ∃ (sess : AMap RSess) (reads : List HeldRead),
      (s.respond j id port body).ryc = { s.ryc with sess := sess, reads := reads } := by
  unfold State.respond State.sendSession
  dsimp only
  split
  · split
    · exact State.closeSession_ryc _ _
    · exact ⟨_, _, rfl⟩
  · exact ⟨_, _, rfl⟩

/-! ### Reads and writes -/

theorem exec_read_of_taken {s u : State} {f : RFrame} {j : Nat} (taken : s.takeRequest f 1 = (some j, u)) :
    exec (.read f) s = .next (if u.requestCode f j false ≠ 0 then u.answerCodeTo f j (u.requestCode f j false)
      else if u.ryc.window.any (fun w => decide (w.sess = j) && decide (w.index = msIndex (msg f))) then
        u.setRyc { u.ryc with reads := u.ryc.reads ++ [⟨j, (u.rsess j).id.toNat, msRequest (msg f), msIndex (msg f),
          msSub (msg f), msOffset (msg f), msLength (msg f), f.port⟩] }
      else u.answerRead ⟨j, (u.rsess j).id.toNat, msRequest (msg f), msIndex (msg f), msSub (msg f), msOffset (msg f),
        msLength (msg f), f.port⟩) := by
  refine congrArg Host.Outcome.next ?_
  unfold State.readRequest
  rw [taken]

theorem State.takeRequest_mask_of_taken {s u : State} {f : RFrame} {op w : Nat} {x : Option Nat}
    (taken : s.takeRequest f op = (x, u)) (hw : 1455762122227942 &&& w = 1455762122227942) : u.mask w = s.mask w := by
  have intake := State.takeRequest_mask s f op hw
  rwa [taken] at intake

theorem exec_write_of_taken {s u : State} {f : RFrame} {j : Nat} (taken : s.takeRequest f 2 = (some j, u)) :
    exec (.write f) s = .next (u.holdWrite f j (f.body.drop 24)) := by
  refine congrArg Host.Outcome.next ?_
  unfold State.writeRequest
  rw [taken]

theorem State.holdWrite_of_passed {s : State} {f : RFrame} {j : Nat} {value : List Byte}
    (passed : s.writeCode (whoOf (s.rsess j).rights (s.rsess j).credential.toNat) (msIndex (msg f)) (msSub (msg f))
      f.port.toNat value = 0) :
    s.holdWrite f j value = s.setRyc { s.ryc with window := s.ryc.window ++ [s.heldOf f j value] } :=
  if_neg (not_not.mpr passed)

theorem State.holdWrite_of_refused {s : State} {f : RFrame} {j c : Nat} {value : List Byte} (bad : c ≠ 0)
    (refused : s.writeCode (whoOf (s.rsess j).rights (s.rsess j).credential.toNat) (msIndex (msg f)) (msSub (msg f))
      f.port.toNat value = c) :
    s.holdWrite f j value = s.refuseWrite f j value c := by
  subst refused
  exact if_pos bad

theorem State.logWrite_ryc (s : State) (w : HeldWrite) (abort : Nat) :
    ∃ log : List LogRec, (s.logWrite w abort).ryc = { s.ryc with log := log, logCount := s.ryc.logCount + 1 } := ⟨_, rfl⟩

theorem State.refuseWrite_logs (s : State) (f : RFrame) (j : Nat) (value : List Byte) (abort : Nat) :
    (s.refuseWrite f j value abort).ryc.window = s.ryc.window ∧
      (s.refuseWrite f j value abort).ryc.logCount = s.ryc.logCount + 1 ∧ (s.refuseWrite f j value abort).od = s.od := by
  obtain ⟨log, logged⟩ := s.logWrite_ryc (s.heldOf f j value) abort
  have answered (u : State) : ∃ (sess : AMap RSess) (reads : List HeldRead),
      (u.answerCodeTo f j abort).ryc = { u.ryc with sess := sess, reads := reads } := State.respond_ryc _ _ _ _ _
  obtain ⟨sess, reads, ryc⟩ := answered (s.logWrite (s.heldOf f j value) abort)
  rw [logged] at ryc
  refine ⟨?_, ?_, keeps_od (w := allBut .od) (State.refuseWrite_mask s f j value abort (by decide))⟩
  · rw [State.refuseWrite, ryc]
  · rw [State.refuseWrite, ryc]

/-! ### Block writes -/

theorem exec_writeBegin_of_open {s u : State} {f : RFrame} {j : Nat} {b : BlockWrite}
    (taken : s.takeRequest f 3 = (some j, u)) (allowed : u.requestCode f j true = 0)
    (found : (u.rsess j).block (msIndex (msg f)) (msSub (msg f)) = some b) (timely : b.late u.now = false) :
    exec (.writeBegin f) s = .next (u.answerCodeTo f j 0x0501) := by
  refine congrArg Host.Outcome.next ?_
  unfold State.blockBegin
  rw [taken]
  dsimp only
  rw [if_neg (not_not.mpr allowed), found]
  exact if_pos (by simp only [timely, Bool.not_false])

theorem exec_writeBegin_of_new {s u : State} {f : RFrame} {j : Nat} {row : OdRow}
    (taken : s.takeRequest f 3 = (some j, u)) (allowed : u.requestCode f j true = 0)
    (unopened : (u.rsess j).block (msIndex (msg f)) (msSub (msg f)) = none) (small : msTotal (msg f) ≤ 16777216)
    (known : odFind (msIndex (msg f)) (msSub (msg f)) = some row) (fits : msTotal (msg f) ≤ row.ty.largest) :
    exec (.writeBegin f) s = .next ((u.putBlocks j ({
      index := msIndex (msg f), sub := msSub (msg f), total := msTotal (msg f), data := [], at_ := u.now } ::
        (u.rsess j).otherBlocks (msIndex (msg f)) (msSub (msg f)))).answerCodeTo f j 0) := by
  refine congrArg Host.Outcome.next ?_
  unfold State.blockBegin
  rw [taken]
  dsimp only
  rw [if_neg (not_not.mpr allowed), unopened, known, if_neg Bool.false_ne_true]
  refine if_neg ?_
  simp only [Nat.not_lt.mpr small, Nat.not_lt.mpr fits, decide_false, Bool.or_self, Bool.false_eq_true, not_false_eq_true]

theorem exec_writeSegment_of_taken {s u : State} {f : RFrame} {j : Nat} {b : BlockWrite}
    (taken : s.takeRequest f 4 = (some j, u)) (allowed : u.requestCode f j true = 0)
    (found : (u.rsess j).block (msIndex (msg f)) (msSub (msg f)) = some b) (timely : b.late u.now = false) :
    exec (.writeSegment f) s = .next (
      if msOffset (msg f) ≠ b.data.length then u.answerCodeTo f j 0x0501
      else if b.total < b.data.length + msLength (msg f) then u.answerCodeTo f j 0x0503
      else (u.putBlocks j ({ b with data := b.data ++ f.body.drop 24, at_ := u.now } ::
        (u.rsess j).otherBlocks (msIndex (msg f)) (msSub (msg f)))).answerCodeTo f j 0) := by
  refine congrArg Host.Outcome.next ?_
  unfold State.blockSegment
  rw [taken]
  dsimp only
  rw [if_neg (not_not.mpr allowed), found]
  dsimp only
  rw [if_neg (Bool.eq_false_iff.mp timely)]

theorem exec_writeCommit_of_taken {s u : State} {f : RFrame} {j : Nat} {b : BlockWrite}
    (taken : s.takeRequest f 5 = (some j, u)) (allowed : u.requestCode f j true = 0)
    (found : (u.rsess j).block (msIndex (msg f)) (msSub (msg f)) = some b) (timely : b.late u.now = false)
    (whole : b.total ≤ b.data.length) :
    exec (.writeCommit f) s = .next ((u.putBlocks j ((u.rsess j).otherBlocks (msIndex (msg f)) (msSub
      (msg f)))).holdWrite f j b.data) := by
  refine congrArg Host.Outcome.next ?_
  unfold State.blockCommit
  rw [taken]
  dsimp only
  rw [if_neg (not_not.mpr allowed), found]
  dsimp only
  rw [if_neg (Bool.eq_false_iff.mp timely), if_neg (Nat.not_lt.mpr whole)]

theorem exec_writeCancel_of_taken {s u : State} {f : RFrame} {j : Nat} (taken : s.takeRequest f 6 = (some j, u))
    (allowed : u.requestCode f j true = 0) :
    exec (.writeCancel f) s = .next ((u.putBlocks j ((u.rsess j).otherBlocks (msIndex (msg f)) (msSub
      (msg f)))).answerCodeTo f j 0) := by
  refine congrArg Host.Outcome.next ?_
  unfold State.blockCancel
  rw [taken]
  dsimp only
  rw [if_neg (not_not.mpr allowed)]

/-- Settles O42: each operation by its equation on the taken request. -/
theorem ryciaRequests : Obligations.RyciaRequests := by
  refine ⟨fun s u f j taken refused => ?_, fun s u f j taken allowed clear => ?_, fun s u f j taken allowed held =>
      ⟨_, exec_read_of_taken taken, ?_⟩, fun s u f j taken passed => ?_, fun s u f j c taken bad refused =>
      ⟨_, exec_write_of_taken taken, ?_⟩, fun s u f j taken allowed none_open small fits known => ?_,
    fun s u f j b taken allowed found timely => ?_, fun s u f j b taken allowed found timely next fits => ?_,
    fun s u f j b taken allowed found timely gap => ?_, fun s u f j b taken allowed found timely whole => ?_,
    fun s u f j taken allowed => exec_writeCancel_of_taken taken allowed, fun s j index sub b awake found old => ?_⟩
  · rw [exec_read_of_taken taken, if_pos refused]
  · rw [exec_read_of_taken taken, if_neg (not_not.mpr allowed), if_neg (Bool.eq_false_iff.mp clear)]
  · rw [if_neg (not_not.mpr allowed), if_pos held]
    refine ⟨rfl, List.length_append, rfl, (setRyc_mask _ _ (by decide)).trans ?_⟩
    exact State.takeRequest_mask_of_taken taken (by decide)
  · rw [exec_write_of_taken taken, State.holdWrite_of_passed passed]
  · rw [State.holdWrite_of_refused bad refused]
    obtain ⟨window, logged, od⟩ := u.refuseWrite_logs f j (f.body.drop 24) c
    exact ⟨window, logged, od, (State.refuseWrite_mask _ _ _ _ _ (by decide)).trans
      (State.takeRequest_mask_of_taken taken (by decide))⟩
  · obtain ⟨row, found⟩ := Option.ne_none_iff_exists'.mp known
    exact exec_writeBegin_of_new taken allowed none_open small found (fits row found)
  · exact exec_writeBegin_of_open taken allowed found timely
  · rw [exec_writeSegment_of_taken taken allowed found timely, if_neg (not_not.mpr next), if_neg (Nat.not_lt.mpr fits)]
  · rw [exec_writeSegment_of_taken taken allowed found timely, if_pos gap]
  · exact exec_writeCommit_of_taken taken allowed found timely whole
  · refine congrArg Host.Outcome.next ?_
    unfold State.blockExpiry
    dsimp only
    rw [found]
    refine if_pos ?_
    rw [awake, decide_eq_true (show b.at_ + 10 * second < s.now from old)]
    rfl

end Sys2Proof.Machine
end

section
/-!
Sessions of the Rycia protocol (R384–R388, R394–R397, R402), for O40 and O41: the frames that a session takes, the
handshake, and the ways a session ends. A valid frame touches no session record but its own.
-/
namespace Sys2Proof.Machine

set_option Elab.async false
open Sys2Proof

/-! ### A controller's frame leaves the sessions -/

theorem State.condition_ryc (s : State) (die n : Nat) (level : Bool) (detail : Nat) :
    (s.condition die n level detail).ryc = s.ryc :=
  keeps_ryc (w := allBut .ryc) (State.condition_mask s die n level detail (by decide))

theorem State.enterMode_ryc (s : State) (m : Mode) : (s.enterMode m).ryc = s.ryc :=
  keeps_ryc (w := allBut .ryc) (State.enterMode_mask s m (by decide))

theorem State.controllerFrame_sess (s : State) (secondary : Bool) :
    (s.controllerFrame secondary).ryc.sess = s.ryc.sess := by
  unfold State.controllerFrame
  dsimp only
  generalize seen : State.odSet _ _ _ _ = u
  have kept : u.ryc.sess = s.ryc.sess := by
    subst seen
    show (if s.asleep = true then s else s.setRyc _).ryc.sess = s.ryc.sess
    split
    · rfl
    · rw [State.setRyc_ryc]
      split <;> rfl
  generalize found : State.condition _ 0 26 false 0 = v
  have same : v.ryc.sess = s.ryc.sess := by
    rw [← found, State.condition_ryc]
    exact kept
  split
  · split
    · split
      · exact same
      · split
        · split
          · exact same
          · rw [State.enterMode_ryc]
            exact same
        · exact kept
    · exact same
  · exact kept

theorem State.controllerFrame_rsess (s : State) (secondary : Bool) (k : Nat) :
    (s.controllerFrame secondary).rsess k = s.rsess k :=
  congrArg (fun m => AMap.getD m k ({} : RSess)) (s.controllerFrame_sess secondary)

theorem State.controllerFrame_out (s : State) (secondary : Bool) : (s.controllerFrame secondary).out = s.out :=
  keeps_out (w := allBut .out) (s.controllerFrame_mask secondary (by decide))

@[simp] theorem State.emit_rsess (s : State) (o : Output) (k : Nat) : (s.emit o).rsess k = s.rsess k := rfl

/-- The record of a session after a valid frame. -/
abbrev RSess.noted (x : RSess) (f : RFrame) (frames now : Nat) : RSess :=
  { x with framesIn := x.framesIn + frames, lastValid := now, peer := f.src, port := f.port }

theorem State.noteValid_rsess (s : State) (j : Nat) (f : RFrame) (frames k : Nat) :
    (s.noteValid j f frames).rsess k = if j = k then (s.rsess j).noted f frames s.now else s.rsess k := by
  unfold State.noteValid
  dsimp only
  split
  · rw [State.controllerFrame_rsess, State.rsess_putRsess]
  · rw [State.rsess_putRsess]

theorem State.noteValid_out (s : State) (j : Nat) (f : RFrame) (frames : Nat) : (s.noteValid j f frames).out = s.out :=
  keeps_out (w := allBut .out) (s.noteValid_mask j f frames (by decide))

theorem State.noteValid_now (s : State) (j : Nat) (f : RFrame) (frames : Nat) : (s.noteValid j f frames).now = s.now :=
  congrArg (fun t : Time => t.base.toNat / 2 ^ 32) (keeps_time (w := allBut .time) (s.noteValid_mask j f frames (by decide)))

/-! ### Clear frames -/

theorem State.takeClear_of_malformed {s : State} {f : RFrame} (t what : Nat) (up : s.ryciaUp = true) (type : rfType f = t)
    (bad : s.rfForm f (s.odGet 0x1100 1) = false) : s.takeClear f t what = (false, s.odInc 0x1100 0x0A 1) := by
  unfold State.takeClear
  rw [if_neg (by simp only [up, type, Bool.not_true, ne_eq, not_true, decide_false, Bool.false_and, Bool.or_self,
    Bool.false_eq_true, not_false_eq_true]), bad]
  rfl

theorem State.rateOk_true {s u : State} {port : BitVec 1} {what : Nat} (within : s.rateOk port what = (true, u)) :
    ∃ (sec : Nat) (rate : AMap Nat), u = s.setRyc { s.ryc with rateSec := sec, rate := rate } := by
  unfold State.rateOk at within
  dsimp only at within
  generalize (if s.ryc.rateSec = s.now / second then s.ryc.rate else []) = r at within
  generalize (if what = 0 then 4 else 16) = limit at within
  split at within
  · cases within
    exact ⟨_, _, rfl⟩
  · cases within

/-- What a clear frame that is taken changes: the counts of the rates. -/
theorem State.takeClear_true {s u : State} {f : RFrame} {t what : Nat} (taken : s.takeClear f t what = (true, u)) :
    ∃ (sec : Nat) (rate : AMap Nat), u = s.setRyc { s.ryc with rateSec := sec, rate := rate } := by
  unfold State.takeClear at taken
  split at taken
  · cases taken
  · split at taken
    · cases taken
    · exact State.rateOk_true taken

/-! ### HELLO (R386, R387) -/

/-- The credential that a HELLO names. -/
abbrev helloCredential (f : RFrame) : Nat := leNat ((f.body.drop 32).take 2)

/-- Records that no session has. -/
abbrev State.freeRecords (s : State) : List Nat := (upto 16).filter (fun j => decide ((s.rsess j).state = .free))

theorem State.ryciaHello_of_unknown {s u : State} {f : RFrame} (ok : Bool) (taken : s.takeClear f 0x01 0 = (true, u))
    (bad : f.body.length ≠ 36 ∨ u.credentialKnown (helloCredential f) = false) : s.ryciaHello f ok = u.ryciaDrop false := by
  unfold State.ryciaHello
  rw [taken]
  dsimp only
  refine if_pos ?_
  rcases bad with length | unknown
  · simp only [length, ne_eq, not_false_eq_true, decide_true, Bool.true_or]
  · simp only [unknown, Bool.not_false, Bool.or_true]

/-- A well-formed HELLO of a known credential. -/
structure State.goodHello (u : State) (f : RFrame) : Prop where
  length : f.body.length = 36
  reserved : leNat (f.body.drop 34) = 0
  known : u.credentialKnown (helloCredential f) = true

theorem State.ryciaHello_of_starting {s u : State} {f : RFrame} (ok : Bool) (taken : s.takeClear f 0x01 0 = (true, u))
    (good : u.goodHello f) (starting : u.mode = .boot ∨ u.mode = .train) : s.ryciaHello f ok = u := by
  obtain ⟨length, reserved, known⟩ := good
  unfold State.ryciaHello
  rw [taken]
  dsimp only
  rw [if_neg (by simp only [length, reserved, known, ne_eq, not_true, decide_false, Bool.not_true, Bool.or_self,
    Bool.false_eq_true, not_false_eq_true]), if_pos (by simpa only [Bool.or_eq_true, decide_eq_true_eq] using starting)]

theorem State.ryciaHello_of_disallowed {s u : State} {f : RFrame} (ok : Bool) (taken : s.takeClear f 0x01 0 = (true, u))
    (good : u.goodHello f) (disallowed : u.sessionsAllowed = false) (booted : u.mode ≠ .boot) (trained : u.mode ≠ .train) :
    s.ryciaHello f ok = u.busy f.port (f.body.take 32) 2 := by
  obtain ⟨length, reserved, known⟩ := good
  unfold State.ryciaHello
  rw [taken]
  dsimp only
  rw [if_neg (by simp only [length, reserved, known, ne_eq, not_true, decide_false, Bool.not_true, Bool.or_self,
    Bool.false_eq_true, not_false_eq_true]), if_neg (by simp only [booted, trained, decide_false, Bool.or_self,
    Bool.false_eq_true, not_false_eq_true]), if_pos (by simp only [disallowed, Bool.not_false, Bool.true_or])]

theorem State.sessionsAllowed_mode {s : State} (allowed : s.sessionsAllowed = true) : s.mode ≠ .boot ∧ s.mode ≠ .train := by
  unfold State.sessionsAllowed at allowed
  constructor <;>
  · intro mode
    rw [mode] at allowed
    exact Bool.false_ne_true allowed

/-- The handshake that an answered HELLO opens in record `j`, from the state `v` in which its leaf has been taken. -/
theorem State.ryciaHello_of_answered {s u v : State} {f : RFrame} {ok : Bool} {leaf : Nat}
    (taken : s.takeClear f 0x01 0 = (true, u)) (good : u.goodHello f) (allowed : u.sessionsAllowed = true)
    (module : helloCredential f / 256 = 0xFF) (room : 16 - u.freeRecords.length < u.sessionLimit)
    (signed : u.takeLeaf ok = (some leaf, v)) :
    ∃ (w : State) (x : RSess) (o : Output), s.ryciaHello f ok =
        (w.putRsess (u.freeRecords.getD (v.drawNat.1 % u.freeRecords.length) 0) x).emit o ∧
      w.mask (maskOf [.free, .sec]) = v.mask (maskOf [.free, .sec]) ∧ x.state = .handshake ∧
      x.credential = BitVec.ofNat 16 (helloCredential f) ∧ x.stepAt = v.now ∧ x.peer = f.src ∧
      x.rights = v.credentialRights (helloCredential f) := by
  obtain ⟨length, reserved, known⟩ := good
  obtain ⟨booted, trained⟩ := State.sessionsAllowed_mode allowed
  unfold State.ryciaHello
  rw [taken]
  dsimp only
  rw [if_neg (by simp only [length, reserved, known, ne_eq, not_true, decide_false, Bool.not_true, Bool.or_self,
    Bool.false_eq_true, not_false_eq_true]), if_neg (by simp only [booted, trained, decide_false, Bool.or_self,
    Bool.false_eq_true, not_false_eq_true]), if_neg (by simp only [allowed, module, ne_eq, not_true, decide_false,
    Bool.not_true, Bool.false_and, Bool.or_self, Bool.false_eq_true, not_false_eq_true]), if_neg (Nat.not_le.mpr room),
    signed]
  exact ⟨_, _, _, rfl, rfl, rfl, rfl, rfl, rfl, rfl⟩

theorem leNat_lt (bs : List Byte) : leNat bs < 256 ^ bs.length := by
  induction bs with
  | nil => decide
  | cons b bs ih =>
    have byte := b.isLt
    rw [leNat, List.length_cons, Nat.pow_succ]
    omega

theorem helloCredential_lt (f : RFrame) : helloCredential f < 65536 := by
  have bound := leNat_lt ((f.body.drop 32).take 2)
  have short : ((f.body.drop 32).take 2).length ≤ 2 := List.length_take_le _ _
  calc helloCredential f < 256 ^ ((f.body.drop 32).take 2).length := bound
    _ ≤ 256 ^ 2 := Nat.pow_le_pow_right (by decide) short

theorem State.freeRecords_getD {s : State} (some_free : s.freeRecords.length ≠ 0) (pick : Nat) :
    s.freeRecords.getD (pick % s.freeRecords.length) 0 < 16 ∧
      (s.rsess (s.freeRecords.getD (pick % s.freeRecords.length) 0)).state = .free := by
  have inside : pick % s.freeRecords.length < s.freeRecords.length := Nat.mod_lt _ (Nat.pos_of_ne_zero some_free)
  have member : s.freeRecords.getD (pick % s.freeRecords.length) 0 ∈ s.freeRecords := by
    rw [List.getD_eq_getElem _ _ inside]
    exact List.getElem_mem inside
  obtain ⟨listed, free⟩ := List.mem_filter.mp member
  exact ⟨List.mem_range.mp listed, of_decide_eq_true free⟩

/-! ### FINISH (R387) -/

theorem State.finishSession_of_record {s : State} {f : RFrame} {j : Nat} (up : s.ryciaUp = true) (type : rfType f = 0x03)
    (record : s.sessionOf (rfSession f) = some j) (form : s.rfForm f (s.rsess j).udp.toNat = true)
    (state : (s.rsess j).state = .handshake) (length : f.body.length = 4372)
    (timely : s.now ≤ (s.rsess j).stepAt + 250000000) :
    s.finishSession f =
      if !f.authentic || (s.rsess j).rights = 0 || s.asleep then (s.ryciaDrop true).freeSession j
      else ((s.putRsess j { s.rsess j with
          state := .opened
          keys := Config.hkdf (Config.kemShared (s.rsess j).keys (f.body.take 1088))
            (Config.sha256 (leBytes 32 (s.rsess j).th1 ++ f.body.take 1088)) (leNat (ascii "rycia keys v1"))
          stepAt := s.now, framesOut := (s.rsess j).framesOut + 1 }).emit
        (.rycia f.port 0x04 (s.rsess j).id.toNat 0 [])).noteValid j f 4 := by
  unfold State.finishSession
  rw [if_neg (by simp only [up, type, Bool.not_true, ne_eq, not_true, decide_false, Bool.false_and, Bool.or_self,
    Bool.false_eq_true, not_false_eq_true]), record]
  dsimp only
  rw [if_neg (by simp only [form, state, length, Bool.not_true, ne_eq, not_true, decide_false, Bool.or_self,
    Bool.false_eq_true, not_false_eq_true]), if_neg (show ¬ (s.rsess j).stepAt + second < s.now from Nat.not_lt.mpr timely)]

theorem State.handshakeExpiry_of_late {s : State} {j : Nat} (state : (s.rsess j).state = .handshake)
    (late : (s.rsess j).stepAt + 250000000 ≤ s.now) : s.handshakeExpiry j = s.freeSession j := by
  refine if_pos ?_
  rw [state, decide_eq_true (show (s.rsess j).stepAt + second ≤ s.now from late)]
  rfl

theorem State.handshakeExpiry_of_early {s : State} {j : Nat}
    (early : (s.rsess j).state ≠ .handshake ∨ s.now < (s.rsess j).stepAt + 250000000) : s.handshakeExpiry j = s := by
  refine if_neg ?_
  rw [Bool.and_eq_true, decide_eq_true_eq, decide_eq_true_eq]
  rintro ⟨state, late⟩
  rcases early with other | early
  · exact other state
  · exact absurd late (Nat.not_le.mpr early)

/-- Settles O40: HELLO by what it is answered with, FINISH and the expiry by the record that they name. -/
theorem ryciaHandshake : Obligations.RyciaHandshake := by
  refine ⟨fun s u v f ok leaf taken length reserved known allowed module some_free room signed => ⟨_, rfl, ?_⟩,
    fun s u f ok taken bad => congrArg Host.Outcome.next (State.ryciaHello_of_unknown ok taken bad),
    fun s u f ok taken length reserved known disallowed booted trained => congrArg Host.Outcome.next
      (State.ryciaHello_of_disallowed ok taken ⟨length, reserved, known⟩ disallowed booted trained),
    fun s u f ok taken length reserved known starting => congrArg Host.Outcome.next
      (State.ryciaHello_of_starting ok taken ⟨length, reserved, known⟩ starting),
    fun s f ok up type bad => congrArg Host.Outcome.next ?_,
    fun s f j up type record form state length timely authentic rights awake => ⟨_, rfl, ?_⟩,
    fun s f j up type record form state length timely forged => congrArg Host.Outcome.next ?_,
    fun s j state late => congrArg Host.Outcome.next (State.handshakeExpiry_of_late state late),
    fun s j early => congrArg Host.Outcome.next (State.handshakeExpiry_of_early early)⟩
  · obtain ⟨w, x, o, run, drawn, state, credential, stepAt, peer, rights⟩ :=
      State.ryciaHello_of_answered taken ⟨length, reserved, known⟩ allowed module room signed
    obtain ⟨sec, rate, clear⟩ := State.takeClear_true taken
    obtain ⟨small, free⟩ := State.freeRecords_getD some_free v.drawNat.1
    generalize u.freeRecords.getD (v.drawNat.1 % u.freeRecords.length) 0 = j at run small free
    have leafFrame : v.mask (maskOf [.rel, .sec, .store, .od]) = u.mask (maskOf [.rel, .sec, .store, .od]) := by
      have frame := State.takeLeaf_mask u ok (m0 := maskOf [.rel, .sec, .store, .od]) (by decide)
      rwa [signed] at frame
    have kept : w.ryc.sess = s.ryc.sess := by
      rw [keeps_ryc drawn, keeps_ryc leafFrame, clear]
      rfl
    have out : w.out = s.out := by
      rw [keeps_out drawn, keeps_out leafFrame, clear]
      rfl
    have now : v.now = s.now := by
      rw [State.now, keeps_time leafFrame, clear]
      rfl
    rw [run]
    have own : ((w.putRsess j x).emit o).rsess j = x := State.rsess_putRsess_self _ _ _
    refine ⟨j, small, ?_, ?_, ?_, ?_, ?_, ?_, ⟨o, ?_⟩, fun k other => ?_, ?_⟩
    · subst clear
      exact free
    · rw [own, state]
    · rw [own, credential, BitVec.toNat_ofNat]
      exact Nat.mod_eq_of_lt (helloCredential_lt f)
    · rw [own, stepAt, now]
    · rw [own, peer]
    · rw [own, rights]
    · rw [← out]
      rfl
    · refine (State.rsess_putRsess_other w x other.symm).trans ?_
      exact congrArg (fun m => AMap.getD m k ({} : RSess)) kept
    · rw [← run]
      exact State.ryciaHello_mask s f ok (by decide)
  · unfold State.ryciaHello
    rw [State.takeClear_of_malformed 0x01 0 up type bad]
  · have opened := State.finishSession_of_record up type record form state length timely
    rw [if_neg (by simp only [authentic, rights, awake, Bool.not_true, decide_false, Bool.or_self, Bool.false_eq_true,
      not_false_eq_true])] at opened
    have frame := State.finishSession_mask s f (m0 := maskOf [.free, .out, .mode, .idle, .entry, .queues, .dram, .upsets,
      .ecc, .tlb, .modMem, .fw, .ryc, .ev, .pow, .od]) (by decide)
    generalize s.finishSession f = t at opened frame ⊢
    subst opened
    simp only [State.noteValid_rsess, State.noteValid_out, if_true, State.emit_rsess, State.rsess_putRsess_self]
    refine ⟨trivial, trivial, rfl, trivial, trivial, rfl, fun k other => ?_, frame⟩
    rw [if_neg other.symm, State.rsess_putRsess_other _ _ other.symm]
  · rw [State.finishSession_of_record up type record form state length timely]
    exact if_pos (by simp only [forged, Bool.not_false, Bool.true_or])

/-! ### Counters (R388) -/

theorem RSess.fresh_accept_self (x : RSess) (c : Nat) : (x.accept c).fresh c = false := by
  have top : (x.accept c).rxHigh = Nat.max x.rxHigh c := rfl
  have seen (window : Nat.max x.rxHigh c ≤ c + 64) : (x.accept c).rxSeen.contains c = true := by
    rw [List.contains_iff_mem, RSess.accept]
    exact List.mem_filter.mpr ⟨List.mem_cons_self, decide_eq_true window⟩
  have above : ¬ Nat.max x.rxHigh c < c := Nat.not_lt.mpr (Nat.le_max_right _ _)
  unfold RSess.fresh
  rw [top, decide_eq_false above, Bool.false_or]
  by_cases window : Nat.max x.rxHigh c ≤ c + 64
  · rw [seen window, Bool.not_true, Bool.and_false]
  · rw [decide_eq_false window, Bool.and_false, Bool.false_and]

theorem RSess.fresh_of_old {x : RSess} {c : Nat} (old : c + 64 < x.rxHigh) : x.fresh c = false := by
  unfold RSess.fresh
  rw [decide_eq_false (show ¬ x.rxHigh < c by omega), decide_eq_false (Nat.not_le.mpr old), Bool.and_false, Bool.false_and,
    Bool.or_false]

/-! ### Protected frames (R395) -/

theorem exec_keepalive_of_taken {s u : State} {f : RFrame} {j : Nat} (taken : s.takeFrame f 0x12 = (some j, u)) :
    exec (.keepalive f) s = .next (u.sendSession j f.port 0x12 []) := by
  show execKeepalive f s = _
  unfold execKeepalive
  rw [taken]

theorem exec_keepalive_of_dropped {s u : State} {f : RFrame} (dropped : s.takeFrame f 0x12 = (none, u)) :
    exec (.keepalive f) s = .next u := by
  show execKeepalive f s = _
  unfold execKeepalive
  rw [dropped]

theorem State.takeFrame_of_none {s : State} {f : RFrame} {t : Nat} (up : s.ryciaUp = true) (type : rfType f = t)
    (unknown : s.sessionOf (rfSession f) = none) : s.takeFrame f t = (none, s.odInc 0x1100 0x0A 1) := by
  unfold State.takeFrame
  rw [if_neg (by simp only [up, type, Bool.not_true, ne_eq, not_true, decide_false, Bool.false_and, Bool.or_self,
    Bool.false_eq_true, not_false_eq_true]), unknown]
  rfl

/-- An authentic frame of an open session goes by its counter. -/
theorem State.takeFrame_of_open {s : State} {f : RFrame} {t j : Nat} (up : s.ryciaUp = true) (type : rfType f = t)
    (record : s.sessionOf (rfSession f) = some j) (state : (s.rsess j).state = .opened)
    (form : s.rfForm f (s.rsess j).udp.toNat = true) (authentic : f.authentic = true) (counter : rfCounter f < 2 ^ 48) :
    s.takeFrame f t = if !(s.rsess j).fresh (rfCounter f) then (none, s.odInc 0x1100 0x0A 1)
      else (some j, (s.putRsess j ((s.rsess j).accept (rfCounter f))).noteValid j f 1) := by
  unfold State.takeFrame
  rw [if_neg (by simp only [up, type, Bool.not_true, ne_eq, not_true, decide_false, Bool.false_and, Bool.or_self,
    Bool.false_eq_true, not_false_eq_true]), record]
  dsimp only
  rw [form, authentic, state, if_neg (by decide), if_neg (by decide), if_neg (by decide), if_neg (by decide),
    if_neg (Nat.not_le.mpr counter)]
  rfl

theorem State.sendSession_of_counter {s : State} {j : Nat} (port : BitVec 1) (type : Nat) (body : List Byte)
    (counter : (s.rsess j).txNext < 2 ^ 48) : s.sendSession j port type body =
      (s.emit (.rycia port type (s.rsess j).id.toNat (s.rsess j).txNext body)).putRsess j
        { s.rsess j with txNext := (s.rsess j).txNext + 1, framesOut := (s.rsess j).framesOut + 1 } :=
  if_neg (Nat.not_le.mpr counter)

theorem exec_close_of_taken {s u : State} {f : RFrame} {j : Nat} (taken : s.takeFrame f 0x13 = (some j, u)) :
    exec (.close f) s = .next (u.freeSession j) := by
  show execClose f s = _
  unfold execClose
  rw [taken]

/-- A frame that is taken leaves nothing yet. -/
theorem State.takeFrame_some_out {s u : State} {f : RFrame} {t j : Nat} (taken : s.takeFrame f t = (some j, u)) :
    u.out = s.out := by
  unfold State.takeFrame at taken
  split at taken
  · cases taken
  · split at taken
    · cases taken
    · dsimp only at taken
      iterate 6
        split at taken
        · cases taken
      obtain ⟨-, rfl⟩ := Prod.mk.inj taken
      exact State.noteValid_out _ _ _ _

/-! ### The state query, and the ends of a session (R388, R394, R402) -/

theorem exec_stateQuery_of_taken {s u : State} {f : RFrame} (taken : s.takeClear f 0x20 1 = (true, u)) :
    exec (.stateQuery f) s =
      .next (if f.body.length = 8 then u.sendState f.port (leNat f.body) 0 else u.ryciaDrop false) := by
  show execStateQuery f s = _
  unfold execStateQuery
  rw [taken]

theorem State.closeSession_of_open {s : State} {j : Nat} (state : (s.rsess j).state = .opened) :
    s.closeSession j =
      (s.emit (.rycia (s.rsess j).port 0x13 (s.rsess j).id.toNat (s.rsess j).txNext [])).freeSession j := by
  unfold State.closeSession
  dsimp only
  rw [state]

theorem State.idleExpiry_of_idle {s : State} {j : Nat} (state : (s.rsess j).state = .opened)
    (idle : (s.rsess j).lastValid + 250000000 * s.odGet 0x1100 8 ≤ s.now) : s.idleExpiry j = s.closeSession j := by
  refine if_pos ?_
  rw [state, decide_eq_true (show (s.rsess j).lastValid + second * s.odGet 0x1100 8 ≤ s.now from idle)]
  rfl

theorem State.idleExpiry_of_live {s : State} {j : Nat}
    (live : s.now < (s.rsess j).lastValid + 250000000 * s.odGet 0x1100 8) : s.idleExpiry j = s := by
  refine if_neg ?_
  rw [Bool.and_eq_true, decide_eq_true_eq, decide_eq_true_eq]
  exact fun both => absurd both.2 (Nat.not_le.mpr live)

theorem exec_ryciaSessionClose {s : State} (j : Fin 16) (awake : s.asleep = false) (on : s.mode ≠ .off) :
    exec (.ryciaSessionClose j) s = .next (s.closeByEntry j.val) :=
  congrArg Host.Outcome.next (if_neg (by simp only [awake, on, decide_false, Bool.or_self, Bool.false_eq_true,
    not_false_eq_true]))

/-- Settles O41: the window by `RSess.accept`, each frame by `State.takeFrame`, each end by `State.closeSession`. -/
theorem ryciaSessionFrames : Obligations.RyciaSessionFrames := by
  refine ⟨RSess.fresh_accept_self, fun x c old => RSess.fresh_of_old old,
    fun s u f j taken => exec_keepalive_of_taken taken,
    fun s f up type unknown => exec_keepalive_of_dropped (State.takeFrame_of_none up type unknown),
    fun s f j up type record state form authentic counter stale => exec_keepalive_of_dropped ?_,
    fun s f j up type record state form authentic counter fresh room => ?_,
    fun s u f j taken => ⟨_, exec_close_of_taken taken, rfl, (State.takeFrame_some_out taken :), ?_⟩,
    fun s u f taken length => ?_, fun s u f taken length => ?_,
    fun s j state idle => congrArg Host.Outcome.next
      ((State.idleExpiry_of_idle state idle).trans (State.closeSession_of_open state)),
    fun s j live => congrArg Host.Outcome.next (State.idleExpiry_of_live live),
    fun s j awake on state => ?_, fun s j awake on state => ?_⟩
  · rw [State.takeFrame_of_open up type record state form authentic counter, stale]
    rfl
  · have taken := State.takeFrame_of_open up type record state form authentic counter
    rw [fresh, Bool.not_true, if_neg Bool.false_ne_true] at taken
    have own (k : Nat) : ((s.putRsess j ((s.rsess j).accept (rfCounter f))).noteValid j f 1).rsess k =
        if j = k then ((s.rsess j).accept (rfCounter f)).noted f 1 s.now else s.rsess k := by
      rw [State.noteValid_rsess, State.rsess_putRsess_self]
      split
      · rfl
      · next other => exact State.rsess_putRsess_other _ _ other
    have room' : (((s.putRsess j ((s.rsess j).accept (rfCounter f))).noteValid j f 1).rsess j).txNext < 2 ^ 48 := by
      rw [own, if_pos rfl]
      exact room
    refine ⟨_, exec_keepalive_of_taken taken, ?_⟩
    have frame : Only [.free, .out, .mode, .idle, .entry, .queues, .dram, .upsets, .ecc, .tlb, .modMem, .fw, .ryc, .ev,
        .pow, .od] s (((s.putRsess j ((s.rsess j).accept (rfCounter f))).noteValid j f 1).sendSession j f.port 0x12 []) := by
      refine (State.sendSession_mask _ _ _ _ _ (by decide)).trans ?_
      exact (State.noteValid_mask _ _ _ _ (by decide)).trans (State.putRsess_mask _ _ _ (by decide))
    rw [State.sendSession_of_counter _ _ _ room'] at frame ⊢
    refine ⟨?_, ?_, ?_, ?_, fun k other => ?_, frame⟩
    · rw [own, if_pos rfl]
      show ((s.putRsess j _).noteValid j f 1).out ++ _ = _
      rw [State.noteValid_out]
      rfl
    · rw [State.rsess_putRsess_self, own, if_pos rfl]
      rfl
    · rw [State.rsess_putRsess_self, own, if_pos rfl]
      exact RSess.fresh_accept_self _ _
    · rw [State.rsess_putRsess_self, own, if_pos rfl]
    · rw [State.rsess_putRsess_other _ _ other.symm, State.emit_rsess, own, if_neg other.symm]
  · refine (setRyc_mask _ _ (by decide)).trans ?_
    have frame := State.takeFrame_mask s f 0x13 (m0 := maskOf [.free, .out, .mode, .idle, .entry, .queues, .dram,
      .upsets, .ecc, .tlb, .modMem, .fw, .ryc, .ev, .pow, .od]) (by decide)
    rwa [taken] at frame
  · rw [exec_stateQuery_of_taken taken, if_pos length]
    have mode : u.mode = s.mode := by
      obtain ⟨sec, rate, clear⟩ := State.takeClear_true taken
      rw [clear]
      rfl
    rw [← mode]
    rfl
  · rw [exec_stateQuery_of_taken taken, if_neg length]
    rfl
  · rw [exec_ryciaSessionClose j awake on, State.closeByEntry, if_neg (by rw [state]; decide),
      State.closeSession_of_open state]
  · rw [exec_ryciaSessionClose j awake on, State.closeByEntry, if_pos state]

end Sys2Proof.Machine
end

section
/-!
Credentials (R401), for O43: a state with two records listed under one number, of which the write of a credential closes
the first and uncovers the second.
-/
namespace Sys2Proof.Machine

set_option Elab.async false
open Sys2Proof

/-! ### A commit of item 1 fits an empty bank -/

theorem splitPayload_pages (fuel l : Nat) : ((splitPayload fuel l).map recordPages).sum * 4076 ≤ 16 * (l + 4076) := by
  induction fuel generalizing l with
  | zero => simp [splitPayload]
  | succ fuel ih =>
    unfold splitPayload
    split
    · next short =>
      rw [List.map_singleton, List.sum_singleton, recordPages, ceilDiv]
      omega
    · next long =>
      have rest := ih (l - 4076)
      have full : recordPages 4076 = 16 := by decide
      rw [List.map_cons, List.sum_cons, full]
      generalize ((splitPayload fuel (l - 4076)).map recordPages).sum = pages at rest ⊢
      rw [Nat.sub_add_cancel (Nat.le_of_not_le long)] at rest
      linarith

theorem entrySize_one_le (n : Nat) : entrySize 1 n ≤ 16400 := by
  have small : itemSize 1 n ≤ 16384 := Nat.min_le_right _ _
  unfold entrySize ceilDiv
  omega

theorem payloadsOf_one_pages (n : Nat) : ((payloadsOf [1] n).map recordPages).sum ≤ 80 := by
  have pages := splitPayload_pages 64 (entrySize 1 n + 0)
  have size := entrySize_one_le n
  show ((splitPayload 64 (entrySize 1 n + 0)).map recordPages).sum ≤ 80
  omega

/-- READY after reset, but with two records listed under number 3: one of credential 0xFF00 and one of 0xFF01. -/
def twoRecords : State :=
  (State.reset.setMode .ready).setRyc
    { sess := [(3, { state := .opened, credential := 0xFF00 }), (3, { state := .opened, credential := 0xFF01 })] }

/-- The store that a commit of `items` goes by: its items marked, and a short bank compacted. -/
abbrev Store.marked (t : Store) (items : List Nat) : Store :=
  { t with
    bankA := { t.bankA with stale := addItems t.bankA.stale items }
    bankB := { t.bankB with stale := addItems t.bankB.stale items } : Store }.compactIfShort

theorem State.psCommit_fst_of_room {s : State} {items : List Nat} {t : Store} {x : PsBank} (marked : s.store.marked items = t)
    (bank : t.bank t.target = x)
    (room : x.nextPage + ((payloadsOf x.stale t.nextSeq).map recordPages).sum ≤ openPages) :
    (s.psCommit items true).1 = true := by
  subst bank marked
  unfold State.psCommit
  dsimp only
  rw [if_neg]
  simpa only [Bool.not_true, Bool.or_false, decide_eq_true_eq] using Nat.not_lt.mpr room

theorem twoRecords_commits : (twoRecords.psCommit [1] true).1 = true := by
  refine State.psCommit_fst_of_room (t := { State.reset.store with
    bankA := { State.reset.store.bankA with stale := [1] }, bankB := { State.reset.store.bankB with stale := [1] } })
    (x := { State.reset.store.bankB with stale := [1] }) rfl rfl ?_
  exact (Nat.add_le_add_left (payloadsOf_one_pages 3) 1).trans (by decide)

theorem twoRecords_writable : twoRecords.writeCode operator 0x1110 1 0 [1] = 0 := by decide +kernel

/-! ### Closing the sessions of a credential -/

/-- What `State.closeCredential` does with record j. -/
def State.closeIf (s : State) (credential j : Nat) : State :=
  if (s.rsess j).state ≠ .free && (s.rsess j).credential.toNat = credential then s.closeSession j else s

theorem State.closeCredential_eq (s : State) (credential : Nat) :
    s.closeCredential credential = (upto 16).foldl (fun s j => s.closeIf credential j) s := rfl

theorem State.closeIf_of_free {s : State} {credential j : Nat} (free : (s.rsess j).state = .free) :
    s.closeIf credential j = s := by
  refine if_neg ?_
  simp only [free, ne_eq, not_true, decide_false, Bool.false_and, Bool.false_eq_true, not_false_eq_true]

theorem State.closeIf_foldl_of_free (credential : Nat) (js : List Nat) (s : State)
    (free : ∀ j ∈ js, (s.rsess j).state = .free) : js.foldl (fun s j => s.closeIf credential j) s = s := by
  induction js with
  | nil => rfl
  | cons j js ih =>
    rw [List.foldl_cons, State.closeIf_of_free (free j List.mem_cons_self)]
    exact ih fun k listed => free k (List.mem_cons_of_mem j listed)

theorem State.closeIf_sess {s : State} {credential j : Nat} (state : (s.rsess j).state = .opened)
    (own : (s.rsess j).credential.toNat = credential) : (s.closeIf credential j).ryc.sess = s.ryc.sess.del j := by
  have closes : s.closeIf credential j = s.closeSession j := by
    refine if_pos ?_
    rw [state, own]
    simp only [ne_eq, reduceCtorEq, not_false_eq_true, decide_true, Bool.and_self]
  rw [closes]
  unfold State.closeSession
  dsimp only
  rw [state]
  rfl

/-- The second of the two records is what number 3 reads as once the first is deleted. -/
theorem State.closeCredential_uncovers {s : State} (two : s.ryc.sess = twoRecords.ryc.sess) :
    ((s.closeCredential 0xFF00).rsess 3).state = .opened := by
  have listed (u : State) (k : Nat) (e : u.ryc.sess = twoRecords.ryc.sess) : u.rsess k = twoRecords.rsess k :=
    congrArg (fun m => AMap.getD m k ({} : RSess)) e
  have first (j : Nat) (before : j ∈ [0, 1, 2]) : (s.rsess j).state = .free := by
    rw [listed s j two]
    revert j
    decide
  have state : (s.rsess 3).state = .opened := by
    rw [listed s 3 two]
    rfl
  have own : (s.rsess 3).credential.toNat = 0xFF00 := by
    rw [listed s 3 two]
    rfl
  have uncovered : (s.closeIf 0xFF00 3).ryc.sess = [(3, { state := .opened, credential := 0xFF01 })] := by
    rw [State.closeIf_sess state own, two]
    rfl
  have rest (j : Nat) (after : j ∈ [4, 5, 6, 7, 8, 9, 10, 11, 12, 13, 14, 15]) :
      ((s.closeIf 0xFF00 3).rsess j).state = .free := by
    rw [State.rsess, uncovered]
    revert j
    decide
  have order : upto 16 = [0, 1, 2] ++ 3 :: [4, 5, 6, 7, 8, 9, 10, 11, 12, 13, 14, 15] := by decide
  rw [State.closeCredential_eq, order, List.foldl_append, List.foldl_cons, State.closeIf_foldl_of_free _ _ _ first,
    State.closeIf_foldl_of_free _ _ _ rest, State.rsess, uncovered]
  rfl

theorem State.psCommit_ryc (s : State) (items : List Nat) (ok : Bool) : (s.psCommit items ok).2.ryc = s.ryc :=
  keeps_ryc (w := allBut .ryc) (State.psCommit_mask s items ok (by decide))

/-- The write of class 1 for credential 0xFF00. -/
abbrev classWrite : OdWrite := { index := 0x1110, sub := 1, value := [1] }

theorem twoRecords_write : (twoRecords.writeCredential classWrite true).rsess 3 =
    (((twoRecords.psCommit [1] true).2.odSet 0x1110 1 1).closeCredential 0xFF00).rsess 3 := by
  have commits := twoRecords_commits
  have run : twoRecords.writeCredential classWrite true = (twoRecords.commitEntry 0x1110 1 1 true).2 := by
    have access : odAccess 0x1110 1 = .rwp := by decide
    have value : leNat [1] = 1 := rfl
    have written : twoRecords.writeNow operator 0x1110 1 [1] true = (twoRecords.applyWrite 0x1110 1 [1] false true {}).2 :=
      if_pos twoRecords_writable
    have record : twoRecords.writeCredential classWrite true = twoRecords.writeNow operator 0x1110 1 [1] true := rfl
    rw [record, written, State.applyWrite, access, value]
  rw [run]
  unfold State.commitEntry
  generalize twoRecords.psCommit [1] true = r at commits ⊢
  obtain ⟨done, u⟩ := r
  dsimp only at commits
  subst commits
  dsimp only
  rw [if_pos (by decide)]

/-- Refutes O43: its credential clause asks of every state that each record opened with the credential reads as free once
the write has committed. In `twoRecords` the close of record 3 deletes the first of two records listed under 3, and the
second, of another credential, is what 3 reads as afterwards. -/
theorem not_commandWindows : ¬ Obligations.CommandWindows := by
  unfold Obligations.CommandWindows
  rintro ⟨-, -, -, -, -, credentialClause, -⟩
  obtain ⟨t, run, -, -, closed, -⟩ := credentialClause twoRecords classWrite (by decide) (by decide) (by decide)
    twoRecords_writable
  cases run
  have free := closed 3 (by decide) twoRecords_commits (by decide)
  rw [twoRecords_write, State.closeCredential_uncovers (State.psCommit_ryc twoRecords [1] true ▸ rfl)] at free
  exact absurd free (by decide)

end Sys2Proof.Machine
end

section
/-!
Fields that a mode change, a trigger and a change of the power step leave (R552–R558), for the statements about power,
modes and wakes.
-/
namespace Sys2Proof.Machine

set_option Elab.async false
open Sys2Proof

/-- A change of the step in force writes the begin of the episode, and nothing else of the power state. -/
theorem State.stepChanged_pow (s : State) (old : Nat) :
    ∃ since : Option Nat, (s.stepChanged old).pow = { s.pow with episodeSince := since } := by
  unfold State.stepChanged
  dsimp only
  split
  · exact ⟨_, rfl⟩
  · generalize reported : State.condition _ 0 33 _ _ = u
    have pow : u.pow = s.pow := by
      rw [← reported, State.condition_pow]
      simp only [apply_ite State.pow, pow_foldl, State.condition_pow, State.raisePart_pow, State.raiseEast_pow,
        implies_true, ite_self]
    rw [← pow]
    split
    · exact ⟨_, pow_foldl _ (fun s p => State.odInc_pow _ _ _ _) _ _⟩
    · split
      · exact ⟨_, pow_foldl _ (fun s p => State.odInc_pow _ _ _ _) _ _⟩
      · exact ⟨_, rfl⟩

/-- The power state of a trigger that is set: its own entry, and the begin of the episode. -/
theorem State.setTrig_pow (s : State) (t : Trigger) (x : Trig) : ∃ since : Option Nat,
    (s.setTrig t x).pow = { s.pow with trig := s.pow.trig.put (trigIndex t) x, episodeSince := since } :=
  State.stepChanged_pow _ _

theorem State.trigAssert_pow (s : State) (t : Trigger) (detail : Nat) : ∃ (trig : AMap Trig) (since : Option Nat),
    (s.trigAssert t detail).pow = { s.pow with trig := trig, episodeSince := since } := by
  unfold State.trigAssert
  dsimp only
  split
  · rw [State.condition_pow]
    exact ⟨_, _, rfl⟩
  · obtain ⟨since, pow⟩ := State.setTrig_pow (s.condition 0 (trigSource t) true detail) t
      { level := Nat.max ((s.condition 0 (trigSource t) true detail).trig (trigIndex t)).level (if t = .inputLow then 7 else 2)
        asserted := true, since := (s.condition 0 (trigSource t) true detail).now }
    rw [State.condition_pow] at pow
    exact ⟨_, _, pow⟩

/-- A mode change writes the time of the change, and nothing else of the power state. -/
theorem State.enterMode_pow (s : State) (m : Mode) :
    ∃ since : Nat, (s.enterMode m).pow = { s.pow with stateSince := since } := by
  unfold State.enterMode
  dsimp only
  generalize unidled : (if m = .ready then s else s.setIdle false) = u
  have pow : u.pow = s.pow := by
    subst unidled
    split <;> rfl
  rw [← pow]
  split
  · exact ⟨_, rfl⟩
  · split
    · refine ⟨(u.raiseEast 1 m.code).now, ?_⟩
      rw [← State.raiseEast_pow u 1 m.code]
      rfl
    · rw [State.raiseEast_pow]
      exact ⟨_, rfl⟩

/-! ### What a loss leaves (R574) -/

theorem State.lose_entry (s : State) (k : Loss) : (s.lose k).entry = none :=
  (keeps_entry (w := allBut .entry) (State.condition_mask _ _ _ _ _ (by decide))).trans rfl

theorem State.lose_wakeHeld (s : State) (k : Loss) : (s.lose k).wakeHeld = false :=
  (keeps_wakeHeld (w := allBut .wakeHeld) (State.condition_mask _ _ _ _ _ (by decide))).trans rfl

theorem State.lose_tray (s : State) (k : Loss) : (s.lose k).tray = s.tray :=
  keeps_tray (w := allBut .tray) (State.lose_mask s k (by decide))

theorem State.lose_mode (s : State) (k : Loss) : (s.lose k).mode = s.mode :=
  keeps_mode (w := allBut .mode) (State.lose_mask s k (by decide))

theorem State.lose_grammars (s : State) (k : Loss) : (s.lose k).grammars = [] :=
  (keeps_grammars (s.lose_after_dies k)).trans rfl

end Sys2Proof.Machine
end

section
/-!
Throttle triggers, the thermal stop, caps, ballast and the ramp hold (R553–R563): the statement O56. A trigger's entry is
written by `State.setTrig` alone; the readings that go with an assertion and a clearing leave the triggers.
-/
namespace Sys2Proof.Machine

set_option Elab.async false
open Sys2Proof

theorem State.asleep_congr {s t : State} (mode : t.mode = s.mode) : t.asleep = s.asleep := by
  unfold State.asleep
  rw [mode]

/-! ### The triggers (R553–R555) -/

/-- A trigger that is set takes its value, and every other stays. -/
theorem State.setTrig_trig (s : State) (t : Trigger) (x : Trig) (i : Nat) :
    (s.setTrig t x).trig i = if trigIndex t = i then x else s.trig i :=
  (congrArg (fun m : AMap Trig => m.getD i {}) (State.stepChanged_trig _ _)).trans (State.trig_putTrig s (trigIndex t) i x)

theorem State.setTrig_sets (s : State) (t : Trigger) (x : Trig) :
    (s.setTrig t x).trig (trigIndex t) = x ∧ ∀ i : Nat, i ≠ trigIndex t → (s.setTrig t x).trig i = s.trig i :=
  ⟨s.trig_setTrig_self t x, fun i other => (s.setTrig_trig t x i).trans (if_neg (Ne.symm other))⟩

/-- The readings that a trigger's end implies leave the triggers as they are. -/
theorem State.clearReading_trig (s : State) (t : Trigger) : (s.clearReading t).pow.trig = s.pow.trig := by
  have kept {u : State} (h : u.mask (allBut .pow) = s.mask (allBut .pow)) : u.pow.trig = s.pow.trig :=
    congrArg Pow.trig (keeps_pow h)
  cases t with
  | inletHot => exact kept (State.inletCools_mask _ (by decide))
  | outletSlope => rfl
  | coolantSensor => exact kept (State.coolantReads_mask _ (by decide))
  | junctionWarm => exact kept (mask_foldl _ (fun u n => State.junctionCools_mask u n (by decide)) _ _)
  | dramHot => exact kept (mask_foldl _ (fun u n => State.dramCools_mask u n (by decide)) _ _)
  | powerLimit =>
    unfold State.clearReading State.drawFalls
    dsimp only
    split <;> rfl
  | inputLow => exact kept (State.inputRises_mask _ (by decide))

/-- The reading that an assertion reports leaves the triggers as they are. -/
theorem State.noteReading_trig (s : State) (t : Trigger) (d : Nat) : (s.noteReading t d).pow.trig = s.pow.trig := by
  cases t with
  | junctionWarm => exact congrArg Pow.trig (keeps_pow (w := allBut .pow) (State.junctionWarms_mask _ _ (by decide)))
  | _ => rfl

/-- What R554 makes of a trigger that asserts. -/
def Trig.assertedAt (x : Trig) (g : Trigger) (now : Nat) : Trig :=
  { level := max x.level (if g = .inputLow then 7 else 2), asserted := true, since := now }

section
variable {s u : State} {g : Trigger} {d : Nat}

/-- `u` is `s` but for what reports a trigger: the same triggers, mode and time. -/
def SameTriggers (s u : State) : Prop := u.pow.trig = s.pow.trig ∧ u.mode = s.mode ∧ u.time = s.time

theorem State.trigAssert_sets (same : SameTriggers s u) (on : s.mode ≠ .off) (awake : s.asleep = false)
    (clear : (s.trig (trigIndex g)).asserted = false) :
    (u.trigAssert g d).trig (trigIndex g) = (s.trig (trigIndex g)).assertedAt g s.now ∧
      ∀ i : Nat, i ≠ trigIndex g → (u.trigAssert g d).trig i = s.trig i := by
  obtain ⟨sameTrig, sameMode, sameTime⟩ := same
  unfold State.trigAssert
  generalize reported : u.condition 0 (trigSource g) true d = v
  have mode : v.mode = s.mode :=
    (reported ▸ keeps_mode (w := allBut .mode) (State.condition_mask _ _ _ _ _ (by decide))).trans sameMode
  have time : v.time = s.time :=
    (reported ▸ keeps_time (w := allBut .time) (State.condition_mask _ _ _ _ _ (by decide))).trans sameTime
  have trig (i : Nat) : v.trig i = s.trig i := by
    unfold State.trig
    rw [← reported, State.condition_pow, sameTrig]
  have asleep : v.asleep = false := (State.asleep_congr mode).trans awake
  have acts : ¬ ((v.trig (trigIndex g)).asserted || decide (v.mode = .off) || v.asleep) = true := by
    simp only [trig, clear, mode, on, asleep, decide_false, Bool.or_self, Bool.false_eq_true, not_false_eq_true]
  dsimp only
  rw [if_neg acts]
  obtain ⟨set, others⟩ := v.setTrig_sets g ((v.trig (trigIndex g)).assertedAt g v.now)
  refine ⟨set.trans ?_, fun i other => (others i other).trans (trig i)⟩
  rw [trig, State.now, time]
  rfl

theorem State.coolantRecord_same (v : State) (what : Nat) (same : SameTriggers s v) : SameTriggers s (v.coolantRecord what) :=
  ⟨(congrArg Pow.trig (keeps_pow (w := allBut .pow) (State.coolantRecord_mask _ _ (by decide)))).trans same.1,
    (keeps_mode (w := allBut .mode) (State.coolantRecord_mask _ _ (by decide))).trans same.2.1,
    (keeps_time (w := allBut .time) (State.coolantRecord_mask _ _ (by decide))).trans same.2.2⟩

theorem SameTriggers.ite {c : Prop} [Decidable c] {a b : State} (ha : SameTriggers s a) (hb : SameTriggers s b) :
    SameTriggers s (if c then a else b) := by
  split
  · exact ha
  · exact hb

theorem State.noteReading_same : SameTriggers s (s.noteReading g d) :=
  ⟨s.noteReading_trig g d, keeps_mode (w := allBut .mode) (State.noteReading_mask _ _ _ (by decide)),
    keeps_time (w := allBut .time) (State.noteReading_mask _ _ _ (by decide))⟩

theorem State.trigOn_sets (same : SameTriggers s u) (on : s.mode ≠ .off) (awake : s.asleep = false)
    (clear : (s.trig (trigIndex g)).asserted = false) :
    (u.trigOn g d).trig (trigIndex g) = (s.trig (trigIndex g)).assertedAt g s.now ∧
      ∀ i : Nat, i ≠ trigIndex g → (u.trigOn g d).trig i = s.trig i := by
  cases g with
  | coolantSensor =>
    exact State.trigAssert_sets (.ite same (State.coolantRecord_same _ _ same)) on awake clear
  | outletSlope => exact State.trigAssert_sets (.ite same (State.coolantRecord_same _ _ same)) on awake clear
  | _ => exact State.trigAssert_sets same on awake clear

end

section
variable {s : State} {g : Trigger}

theorem exec_throttleTriggerAssert_of_held {d : BitVec 47} (holds : s.trigHolds g d.toNat = true) :
    exec (.throttleTriggerAssert g d) s = .next ((s.noteReading g d.toNat).trigOn g d.toNat) :=
  congrArg _ (if_pos holds)

theorem exec_throttleTriggerAssert_of_not_held {d : BitVec 47} (not : s.trigHolds g d.toNat = false) :
    exec (.throttleTriggerAssert g d) s = .next s :=
  congrArg _ (if_neg (Bool.eq_false_iff.mp not))

theorem State.trigClear_sets (on : (s.trig (trigIndex g)).asserted = true) :
    (s.trigClear g).trig (trigIndex g) = { s.trig (trigIndex g) with asserted := false, since := s.now } ∧
      ∀ i : Nat, i ≠ trigIndex g → (s.trigClear g).trig i = s.trig i := by
  unfold State.trigClear
  generalize cleared : (s.condition 0 (trigSource g) false 0).clearReading g = u
  have pow : u.pow.trig = s.pow.trig := by rw [← cleared, State.clearReading_trig, State.condition_pow]
  have trig (i : Nat) : u.trig i = s.trig i := congrArg (fun m : AMap Trig => m.getD i {}) pow
  have time : u.time = s.time := cleared ▸ (keeps_time (w := allBut .time) (State.clearReading_mask _ _ (by decide))).trans
    (keeps_time (w := allBut .time) (State.condition_mask _ _ _ _ _ (by decide)))
  dsimp only
  rw [if_pos ((congrArg Trig.asserted (trig _)).trans on)]
  refine ⟨(State.trig_putTrig_self ..).trans ?_, fun i other => (State.trig_putTrig_other _ _ (Ne.symm other)).trans (trig i)⟩
  rw [trig, State.now, time]
  rfl

theorem State.levelRise_of_due (awake : s.asleep = false) (on : (s.trig (trigIndex g)).asserted = true)
    (below : (s.trig (trigIndex g)).level < trigCap g) (due : (s.trig (trigIndex g)).since + trigInterval g ≤ s.now) :
    s.levelRise g = s.setTrig g
      { s.trig (trigIndex g) with level := (s.trig (trigIndex g)).level + 1, since := s.now } :=
  if_pos (by simp only [on, below, due, awake, decide_true, Bool.and_self, Bool.not_false])

theorem State.levelRise_of_not_due (not : (s.trig (trigIndex g)).asserted = false ∨
    trigCap g ≤ (s.trig (trigIndex g)).level ∨ s.now < (s.trig (trigIndex g)).since + trigInterval g) :
    s.levelRise g = s := by
  refine if_neg fun due => ?_
  simp only [Bool.and_eq_true, decide_eq_true_eq] at due
  obtain ⟨⟨⟨on, below⟩, passed⟩, -⟩ := due
  rcases not with off | capped | early
  · exact Bool.eq_false_iff.mp off on
  · exact absurd below (Nat.not_lt.mpr capped)
  · exact absurd passed (Nat.not_le.mpr early)

theorem State.levelFall_of_due (awake : s.asleep = false) (off : (s.trig (trigIndex g)).asserted = false)
    (above : 0 < (s.trig (trigIndex g)).level) (due : (s.trig (trigIndex g)).since + 2500000000 ≤ s.now) :
    s.levelFall g = s.setTrig g
      { s.trig (trigIndex g) with level := (s.trig (trigIndex g)).level - 1, since := s.now } :=
  if_pos (by
    have due : (s.trig (trigIndex g)).since + 10 * second ≤ s.now := due
    simp only [off, above, due, awake, decide_true, Bool.and_self, Bool.not_false])

theorem State.levelFall_of_not_due (not : (s.trig (trigIndex g)).asserted = true ∨
    s.now < (s.trig (trigIndex g)).since + 2500000000) : s.levelFall g = s := by
  refine if_neg fun due => ?_
  simp only [Bool.and_eq_true, decide_eq_true_eq, Bool.not_eq_true'] at due
  obtain ⟨⟨⟨off, -⟩, passed⟩, -⟩ := due
  rcases not with on | early
  · exact Bool.eq_false_iff.mp off on
  · exact Nat.not_le.mpr (show s.now < (s.trig (trigIndex g)).since + 10 * second from early) passed

end

/-! ### The thermal stop (R556) -/

section
variable (s : State) (cause core : Nat) (detail : List (Nat × DVal)) (k : Loss) (torn : List Nat)

/-- What a stop leaves: no partition, session, page map or entry, and its cause alone. -/
theorem State.stopSequence_empties :
    (s.stopSequence cause core detail k torn).parts = [] ∧ (s.stopSequence cause core detail k torn).sess = [] ∧
      (s.stopSequence cause core detail k torn).pageMaps = [] ∧ (s.stopSequence cause core detail k torn).entry = none ∧
      (s.stopSequence cause core detail k torn).tray.causes = [cause] := by
  unfold State.stopSequence
  dsimp only
  generalize hu : State.setTray _ _ = u
  have causes : u.tray.causes = [cause] := by
    subst hu
    rfl
  have empties : (u.lose k).parts = [] ∧ (u.lose k).sess = [] ∧ (u.lose k).pageMaps = [] ∧ (u.lose k).entry = none ∧
      (u.lose k).tray.causes = [cause] :=
    ⟨u.lose_parts k, u.lose_sess k, u.lose_pageMaps k, u.lose_entry k, (congrArg Tray.causes (u.lose_tray k)).trans causes⟩
  generalize u.lose k = v at empties ⊢
  exact empties

end

/-- A thermal stop of a running module. -/
theorem State.thermalStop_of_running {s : State} (core : Nat) (torn : List Nat) (on : s.mode ≠ .off) (awake : s.asleep = false) :
    (s.thermalStop core torn).mode = .parked ∧ (s.thermalStop core torn).tray.causes = [0x21] ∧
      (s.thermalStop core torn).parts = [] ∧ (s.thermalStop core torn).sess = [] ∧
      (s.thermalStop core torn).pageMaps = [] ∧ (s.thermalStop core torn).entry = none ∧
      (s.thermalStop core torn).rst.due = none := by
  unfold State.thermalStop
  rw [if_neg on, if_neg (Bool.eq_false_iff.mp awake)]
  dsimp only
  generalize stopped : State.stopSequence _ 0x21 core _ .parked torn = u
  obtain ⟨parts, sess, maps, entry, causes⟩ : u.parts = [] ∧ u.sess = [] ∧ u.pageMaps = [] ∧ u.entry = none ∧
      u.tray.causes = [0x21] := stopped ▸ State.stopSequence_empties ..
  generalize cleared : (u.setTime { u.time with pps := .holdover }).setRst _ = v
  have kept : Only [.time, .rst] u v := by
    subst cleared
    rfl
  have due : v.rst.due = none := by
    subst cleared
    rfl
  have entered : Only [.free, .mode, .idle, .queues, .dram, .upsets, .ecc, .tlb, .modMem, .fw, .ev, .pow, .od] v (v.enterMode .parked) :=
    State.enterMode_mask _ _ (by decide)
  refine ⟨State.enterMode_mode _ _, ?_, ?_, ?_, ?_, ?_, ?_⟩
  · rw [keeps_tray entered, keeps_tray kept, causes]
  · rw [keeps_parts entered, keeps_parts kept, parts]
  · rw [keeps_sess entered, keeps_sess kept, sess]
  · rw [keeps_pageMaps entered, keeps_pageMaps kept, maps]
  · rw [keeps_entry entered, keeps_entry kept, entry]
  · rw [keeps_rst entered, due]

/-! ### Caps, ballast and the ramp hold (R558–R563) -/

section
variable {s : State} {p mw : Nat}

/-- A partition's ceiling and share at an estimate of its draw (R558), under its cap in mW and the policy ceiling. -/
def Part.capped (x : Part) (cap mw policy now : Nat) : Part :=
  if cap = 0 then { x with capCeiling := 1100, issueShare := 100 }
  else if cap < mw then
    if 600 < min x.capCeiling policy then { x with capCeiling := max 600 (min x.capCeiling policy - 25), lastCap := now }
    else { x with issueShare := max 50 (x.issueShare - 5), lastCap := now }
  else if 100 * mw < 95 * cap ∧ x.lastCap + 2500000 ≤ now then
    { x with capCeiling := if policy ≤ x.capCeiling + 25 then 1100 else x.capCeiling + 25
             issueShare := min 100 (x.issueShare + 5), lastCap := now }
  else x

section
variable {x : Part} {cap policy now : Nat}

theorem Part.capped_of_none : (x.capped 0 mw policy now).capCeiling = 1100 ∧ (x.capped 0 mw policy now).issueShare = 100 :=
  ⟨rfl, rfl⟩

theorem Part.capped_of_over (cap0 : cap ≠ 0) (above : cap < mw) (room : 600 < min x.capCeiling policy) :
    x.capped cap mw policy now = { x with capCeiling := max 600 (min x.capCeiling policy - 25), lastCap := now } := by
  rw [Part.capped, if_neg cap0, if_pos above, if_pos room]

theorem Part.capped_of_floor (cap0 : cap ≠ 0) (above : cap < mw) (floor : min x.capCeiling policy ≤ 600) :
    x.capped cap mw policy now = { x with issueShare := max 50 (x.issueShare - 5), lastCap := now } := by
  rw [Part.capped, if_neg cap0, if_pos above, if_neg (Nat.not_lt.mpr floor)]

theorem Part.capped_of_below (cap0 : cap ≠ 0) (below : 100 * mw < 95 * cap) (due : x.lastCap + 2500000 ≤ now) :
    x.capped cap mw policy now = { x with
      capCeiling := if policy ≤ x.capCeiling + 25 then 1100 else x.capCeiling + 25
      issueShare := min 100 (x.issueShare + 5), lastCap := now } := by
  rw [Part.capped, if_neg cap0, if_neg (by omega), if_pos ⟨below, due⟩]

theorem Part.capped_of_within (cap0 : cap ≠ 0) (under : mw ≤ cap) (within : 95 * cap ≤ 100 * mw) :
    x.capped cap mw policy now = x := by
  rw [Part.capped, if_neg cap0, if_neg (Nat.not_lt.mpr under), if_neg (by omega)]

end

/-- What an adjustment leaves in the partition, and that it leaves the others (R558). -/
theorem State.capAdjust_part (awake : s.asleep = false) (active : (s.part p).state = .active) (k : Nat) :
    (s.capAdjust p mw).part k = if p = k then ({ s.part p with estimateMw := mw } : Part).capped
      (1000 * s.odGet (0x2010 + p) 1) mw s.policyMhz s.now else s.part k := by
  unfold State.capAdjust
  dsimp only
  have runs : ¬ (decide ((s.part p).state ≠ .active) || s.asleep) = true := by
    simp only [active, awake, ne_eq, not_true_eq_false, decide_false, Bool.or_self, Bool.false_eq_true, not_false_eq_true]
  rw [if_neg runs]
  rw [State.part_putPart_self]
  have first : (s.putPart p { s.part p with estimateMw := mw }).part k
      = if p = k then { s.part p with estimateMw := mw } else s.part k := State.part_putPart ..
  have policy : (s.putPart p { s.part p with estimateMw := mw }).policyMhz = s.policyMhz := rfl
  have now : (s.putPart p { s.part p with estimateMw := mw }).now = s.now := rfl
  rw [policy]
  generalize { s.part p with estimateMw := mw } = x at first now ⊢
  generalize s.putPart p x = u at first now ⊢
  have written {w : State} (y : Part) (kept : w.part k = u.part k) :
      (w.putPart p y).part k = if p = k then y else s.part k := by
    rw [State.part_putPart, kept, first]
    split <;> rfl
  have reported (c : Prop) [Decidable c] : (if c then u.raiseEast 37 p else u).part k = u.part k ∧
      (if c then u.raiseEast 37 p else u).now = u.now := by
    split
    · exact ⟨congrArg (fun m : AMap Part => m.getD k {}) (keeps_parts (w := allBut .parts) (State.raiseEast_mask _ _ _ (by decide))),
        congrArg (fun m : Time => m.base.toNat / 2 ^ 32) (keeps_time (w := allBut .time) (State.raiseEast_mask _ _ _ (by decide)))⟩
    · exact ⟨rfl, rfl⟩
  generalize adjusted : (ite (1000 * s.odGet _ _ = 0) _ _ : State) = v
  have value : v.part k = if p = k then x.capped (1000 * s.odGet (0x2010 + p) 1) mw s.policyMhz s.now else s.part k := by
    subst adjusted
    unfold Part.capped
    split
    · exact written _ rfl
    · split
      · obtain ⟨kept, time⟩ := reported (s.policyMhz ≤ x.capCeiling)
        have floor : Nat.min x.capCeiling s.policyMhz = min x.capCeiling s.policyMhz := rfl
        rw [time, now, floor]
        split
        · exact written _ kept
        · exact written _ kept
      · have rises : ((decide (100 * mw < 95 * (1000 * s.odGet (0x2010 + p) 1)) && decide (x.lastCap + 10 * ms ≤ u.now)) = true)
            = (100 * mw < 95 * (1000 * s.odGet (0x2010 + p) 1) ∧ x.lastCap + 2500000 ≤ s.now) := by
          rw [Bool.and_eq_true, decide_eq_true_eq, decide_eq_true_eq, now]
          rfl
        simp only [rises]
        split
        · exact (written _ rfl).trans (by rw [now])
        · exact first
  split
  · exact value
  · exact value

theorem State.setBallast_pow (s : State) (w : Nat) : (s.setBallast w).pow = { s.pow with ballastW := w } :=
  State.condition_pow _ _ _ _ _

theorem State.ballastAdjust_of_not_levelling (not : s.levelling = false) :
    (s.ballastAdjust mw).pow.ballastW = 0 ∧ (s.ballastAdjust mw).pow.drawMw = mw := by
  unfold State.ballastAdjust
  dsimp only
  have off : (!(s.noteDraw mw).levelling || (decide (1000 * (s.noteDraw mw).odGet 0x2002 1 = 0) &&
      decide ((s.noteDraw mw).odGet 0x2002 2 = 0))) = true := by
    have same : (s.noteDraw mw).levelling = false := not
    rw [same]
    rfl
  rw [if_pos off]
  split
  · next none => exact ⟨none, rfl⟩
  · rw [State.setBallast_pow]
    exact ⟨rfl, rfl⟩

/-- The levels that level at all: the block levels the draw and a floor or a rate is set. -/
theorem State.ballastAdjust_of_levelling (levels : s.levelling = true) (set : s.odGet 0x2002 1 ≠ 0 ∨ s.odGet 0x2002 2 ≠ 0) :
    s.ballastAdjust mw = if mw < s.ballastTarget then
        (if s.idleCore then (s.noteDraw mw).setBallast (s.pow.ballastW + 5 * ceilDiv (s.ballastTarget - mw) 5000)
          else s.noteDraw mw)
      else (s.noteDraw mw).setBallast (s.pow.ballastW -
        (if s.odGet 0x2002 2 = 0 then min s.pow.ballastW (5 * ((mw - 1000 * s.odGet 0x2002 1) / 5000))
          else min (min s.pow.ballastW (5 * ((mw - 1000 * s.odGet 0x2002 1) / 5000))) (s.odGet 0x2002 2))) := by
  have on : ¬ (!s.levelling || (decide (1000 * s.odGet 0x2002 1 = 0) && decide (s.odGet 0x2002 2 = 0))) = true := by
    simp only [levels, Bool.not_true, Bool.false_or, Bool.and_eq_true, decide_eq_true_eq]
    omega
  exact if_neg on

theorem State.ballastAdjust_adds (levels : s.levelling = true) (below : mw < s.ballastTarget) (idle : s.idleCore = true)
    (set : s.odGet 0x2002 1 ≠ 0 ∨ s.odGet 0x2002 2 ≠ 0) :
    (s.ballastAdjust mw).pow.ballastW = s.pow.ballastW + 5 * ceilDiv (s.ballastTarget - mw) 5000 ∧
      (s.ballastAdjust mw).pow.drawMw = mw ∧ (s.ballastAdjust mw).pow.ramp = s.pow.ramp := by
  rw [State.ballastAdjust_of_levelling levels set, if_pos below, if_pos idle, State.setBallast_pow]
  exact ⟨rfl, rfl, rfl⟩

theorem State.ballastAdjust_keeps (levels : s.levelling = true) (below : mw < s.ballastTarget) (busy : s.idleCore = false)
    (set : s.odGet 0x2002 1 ≠ 0 ∨ s.odGet 0x2002 2 ≠ 0) :
    (s.ballastAdjust mw).pow.ballastW = s.pow.ballastW ∧ (s.ballastAdjust mw).pow.drawMw = mw := by
  rw [State.ballastAdjust_of_levelling levels set, if_pos below, if_neg (Bool.eq_false_iff.mp busy)]
  exact ⟨rfl, rfl⟩

theorem State.ballastAdjust_withdraws (levels : s.levelling = true) (above : s.ballastTarget ≤ mw)
    (set : s.odGet 0x2002 1 ≠ 0 ∨ s.odGet 0x2002 2 ≠ 0) :
    (s.ballastAdjust mw).pow.ballastW = s.pow.ballastW -
        (if s.odGet 0x2002 2 = 0 then min s.pow.ballastW (5 * ((mw - 1000 * s.odGet 0x2002 1) / 5000))
          else min (min s.pow.ballastW (5 * ((mw - 1000 * s.odGet 0x2002 1) / 5000))) (s.odGet 0x2002 2)) ∧
      (s.ballastAdjust mw).pow.drawMw = mw := by
  rw [State.ballastAdjust_of_levelling levels set, if_neg (Nat.not_lt.mpr above), State.setBallast_pow]
  exact ⟨rfl, rfl⟩

theorem State.ballastTarget_of_drawn {t0 w : Nat} {rest : List (Nat × Nat)} (drawn : s.pow.draws = (t0, w) :: rest)
    (rate : s.odGet 0x2002 2 ≠ 0) : s.ballastTarget
      = max (1000 * s.odGet 0x2002 1) (w - 1000 * s.odGet 0x2002 2 * max 1 ((s.now - t0) / 250000)) := by
  unfold State.ballastTarget
  rw [drawn]
  exact if_neg (by omega)

theorem State.ballastTarget_of_floor (floor : s.pow.draws = [] ∨ s.odGet 0x2002 2 = 0) :
    s.ballastTarget = 1000 * s.odGet 0x2002 1 := by
  unfold State.ballastTarget
  dsimp only
  split
  · next drawn =>
    rcases floor with none | zero
    · rw [none] at drawn
      cases drawn
    · exact if_pos (by rw [zero])
  · rfl

/-- A ramp that ends or changes: what the change of the step in force leaves. -/
theorem State.rampSet_pow (s : State) (ramp : Option Nat) (level : Bool) (detail old : Nat) :
    ((((s.setPow { s.pow with ramp := ramp }).condition 0 29 level detail).stepChanged old).pow.ramp = ramp) ∧
      (((s.setPow { s.pow with ramp := ramp }).condition 0 29 level detail).stepChanged old).pow.drawMw = s.pow.drawMw := by
  obtain ⟨since, pow⟩ := ((s.setPow { s.pow with ramp := ramp }).condition 0 29 level detail).stepChanged_pow old
  rw [pow, State.condition_pow]
  exact ⟨rfl, rfl⟩

theorem State.rampAdjust_of_ramp {room c : Nat} (levels : s.levelling = true) (rate : s.odGet 0x2002 2 ≠ 0)
    (ramp : s.pow.ramp = some c) (leaves : room ≠ 0) :
    (s.rampAdjust mw room).pow.ramp = (if s.policyMhz ≤ c + 25 then none else some (c + 25)) ∧
      (s.rampAdjust mw room).pow.drawMw = mw := by
  have on : ¬ (decide (s.odGet 0x2002 2 = 0) || !s.levelling) = true := by simp [rate, levels]
  unfold State.rampAdjust
  dsimp only
  refine (congrArg (fun u : State => u.pow.ramp = _ ∧ u.pow.drawMw = mw) (if_neg on)).mpr ?_
  have noted : (s.noteDraw mw).pow.ramp = some c := ramp
  rw [noted]
  dsimp only
  rw [if_neg leaves]
  have policy : (s.noteDraw mw).policyMhz = s.policyMhz := rfl
  rw [policy]
  split
  · exact State.rampSet_pow _ _ _ _ _
  · exact ⟨rfl, rfl⟩

theorem State.rampAdjust_starts (levels : s.levelling = true) (rate : s.odGet 0x2002 2 ≠ 0) (ramp : s.pow.ramp = none) :
    (∃ c : Nat, (s.rampAdjust mw 0).pow.ramp = some c ∧ 600 ≤ c ∧ (600 < s.policyMhz → c < s.policyMhz)) ∧
      (s.rampAdjust mw 0).pow.drawMw = mw := by
  have on : ¬ (decide (s.odGet 0x2002 2 = 0) || !s.levelling) = true := by simp [rate, levels]
  have noted : (s.noteDraw mw).pow.ramp = none := ramp
  have policy : (s.noteDraw mw).policyMhz = s.policyMhz := rfl
  unfold State.rampAdjust
  dsimp only
  refine (congrArg (fun u : State => (∃ c : Nat, u.pow.ramp = some c ∧ 600 ≤ c ∧ (600 < s.policyMhz → c < s.policyMhz)) ∧
    u.pow.drawMw = mw) (if_neg on)).mpr ?_
  rw [noted]
  dsimp only
  rw [if_neg (not_not_intro rfl), policy]
  have below (r : Nat) : 600 < s.policyMhz → 600 + 25 * (r % Nat.max 1 ((s.policyMhz - 600) / 25)) < s.policyMhz := by
    intro above
    have pick : r % max 1 ((s.policyMhz - 600) / 25) < max 1 ((s.policyMhz - 600) / 25) := Nat.mod_lt _ (by omega)
    have same : Nat.max 1 ((s.policyMhz - 600) / 25) = max 1 ((s.policyMhz - 600) / 25) := rfl
    rw [same]
    omega
  obtain ⟨set, drawn⟩ := State.rampSet_pow ((s.noteDraw mw).drawNat).2
    (some (600 + 25 * (((s.noteDraw mw).drawNat).1 % Nat.max 1 ((s.policyMhz - 600) / 25)))) true
    (600 + 25 * (((s.noteDraw mw).drawNat).1 % Nat.max 1 ((s.policyMhz - 600) / 25))) (s.noteDraw mw).stepInForce
  exact ⟨⟨_, set, by omega, below _⟩, drawn⟩

end

/-- The clauses of the caps, from the partition that an adjustment leaves. -/
theorem State.capAdjust_gives {s : State} {p : PartId} {mw cap : Nat} (awake : s.asleep = false)
    (active : (s.part p.toNat).state = .active) (capIs : cap = 1000 * s.odGet (0x2010 + p.toNat) 1) :
    (cap = 0 → ((s.capAdjust p.toNat mw).part p.toNat).capCeiling = 1100 ∧ ((s.capAdjust p.toNat mw).part p.toNat).issueShare = 100) ∧
    (cap ≠ 0 → cap < mw → 600 < min (s.part p.toNat).capCeiling s.policyMhz →
        ((s.capAdjust p.toNat mw).part p.toNat).capCeiling = max 600 (min (s.part p.toNat).capCeiling s.policyMhz - 25)
        ∧ ((s.capAdjust p.toNat mw).part p.toNat).issueShare = (s.part p.toNat).issueShare
        ∧ ((s.capAdjust p.toNat mw).part p.toNat).lastCap = s.now) ∧
    (cap ≠ 0 → cap < mw → min (s.part p.toNat).capCeiling s.policyMhz ≤ 600 →
        ((s.capAdjust p.toNat mw).part p.toNat).capCeiling = (s.part p.toNat).capCeiling
        ∧ ((s.capAdjust p.toNat mw).part p.toNat).issueShare = max 50 ((s.part p.toNat).issueShare - 5)
        ∧ ((s.capAdjust p.toNat mw).part p.toNat).lastCap = s.now) ∧
    (cap ≠ 0 → 100 * mw < 95 * cap → (s.part p.toNat).lastCap + 2500000 ≤ s.now →
        ((s.capAdjust p.toNat mw).part p.toNat).capCeiling
          = (if s.policyMhz ≤ (s.part p.toNat).capCeiling + 25 then 1100 else (s.part p.toNat).capCeiling + 25)
        ∧ ((s.capAdjust p.toNat mw).part p.toNat).issueShare = min 100 ((s.part p.toNat).issueShare + 5)) ∧
    (cap ≠ 0 → mw ≤ cap → 95 * cap ≤ 100 * mw →
        (s.capAdjust p.toNat mw).part p.toNat = { s.part p.toNat with estimateMw := mw }) := by
  rw [State.capAdjust_part awake active, if_pos rfl, ← capIs]
  refine ⟨fun none => ?_, fun set above room => ?_, fun set above floor => ?_, fun set below due => ?_,
    fun set under within => Part.capped_of_within set under within⟩
  · rw [none]
    exact Part.capped_of_none
  · have capped := Part.capped_of_over (x := { s.part p.toNat with estimateMw := mw }) (now := s.now) set above room
    exact ⟨(congrArg Part.capCeiling capped).trans rfl, (congrArg Part.issueShare capped).trans rfl, congrArg Part.lastCap capped⟩
  · have capped := Part.capped_of_floor (x := { s.part p.toNat with estimateMw := mw }) (now := s.now) set above floor
    exact ⟨(congrArg Part.capCeiling capped).trans rfl, (congrArg Part.issueShare capped).trans rfl, congrArg Part.lastCap capped⟩
  · have capped := Part.capped_of_below (x := { s.part p.toNat with estimateMw := mw }) (policy := s.policyMhz) (now := s.now) set below due
    exact ⟨(congrArg Part.capCeiling capped).trans rfl, (congrArg Part.issueShare capped).trans rfl⟩

/-- Settles O56: the triggers by `State.setTrig_sets`, the stop by `State.thermalStop_of_running`, the caps by
`State.capAdjust_part`, and ballast and ramp by the equation of each of their cases. -/
theorem throttleAndLevelling : Obligations.ThrottleAndLevelling := by
  unfold Obligations.ThrottleAndLevelling
  refine ⟨fun s g d on awake holds clear => ?_, fun s g d not => exec_throttleTriggerAssert_of_not_held not,
    fun s g on => ?_, fun s g awake on below due => ?_, fun s g not => congrArg _ (State.levelRise_of_not_due not),
    fun s g awake off above due => ?_, fun s g not => congrArg _ (State.levelFall_of_not_due not),
    fun s core torn on awake => ?_, fun s p mw cap awake active capIs => ?_, fun s mw levels below idle set => ?_,
    fun s mw floor rate levels floorIs rateIs set above => ?_, fun s mw levels below busy set => ?_,
    fun s t0 mw rest drawn rate => State.ballastTarget_of_drawn drawn rate, fun s none => State.ballastTarget_of_floor none,
    fun s mw not => ?_, fun s mw room c levels rate ramp leaves => ?_, fun s mw levels rate ramp => ?_⟩
  · obtain ⟨set, others⟩ := State.trigOn_sets (d := d.toNat) State.noteReading_same on awake clear
    exact ⟨_, exec_throttleTriggerAssert_of_held holds, set, others,
      (State.trigOn_mask _ _ _ (by decide)).trans (State.noteReading_mask _ _ _ (by decide))⟩
  · obtain ⟨set, others⟩ := State.trigClear_sets on
    exact ⟨_, rfl, set, others, State.trigClear_mask _ _ (by decide)⟩
  · obtain ⟨set, others⟩ := s.setTrig_sets g
      { s.trig (trigIndex g) with level := (s.trig (trigIndex g)).level + 1, since := s.now }
    exact ⟨_, congrArg Host.Outcome.next (State.levelRise_of_due awake on below due), set, others, State.setTrig_mask _ _ _ (by decide)⟩
  · obtain ⟨set, others⟩ := s.setTrig_sets g
      { s.trig (trigIndex g) with level := (s.trig (trigIndex g)).level - 1, since := s.now }
    exact ⟨_, congrArg Host.Outcome.next (State.levelFall_of_due awake off above due), set, others, State.setTrig_mask _ _ _ (by decide)⟩
  · obtain ⟨mode, causes, parts, sess, maps, entry, due⟩ := State.thermalStop_of_running core.val torn on awake
    exact ⟨_, rfl, mode, causes, parts, sess, maps, entry, due, State.thermalStop_mask _ _ _ (by decide)⟩
  · obtain ⟨uncapped, falls, shares, rises, stays⟩ := State.capAdjust_gives (mw := mw) awake active capIs
    exact ⟨_, rfl, fun k other => (State.capAdjust_part awake active k).trans (if_neg (Ne.symm other)), uncapped, falls,
      shares, rises, stays, State.capAdjust_mask _ _ _ (by decide)⟩
  · obtain ⟨ballast, drawn, ramp⟩ := State.ballastAdjust_adds levels below idle set
    exact ⟨_, rfl, ballast, drawn, ramp, State.ballastAdjust_mask _ _ (by decide)⟩
  · subst floorIs rateIs
    obtain ⟨ballast, drawn⟩ := State.ballastAdjust_withdraws levels above (by omega)
    exact ⟨_, rfl, ballast, drawn, State.ballastAdjust_mask _ _ (by decide)⟩
  · obtain ⟨ballast, drawn⟩ := State.ballastAdjust_keeps levels below busy set
    exact ⟨_, rfl, ballast, drawn, State.ballastAdjust_mask _ _ (by decide)⟩
  · obtain ⟨ballast, drawn⟩ := State.ballastAdjust_of_not_levelling not
    exact ⟨_, rfl, ballast, drawn, State.ballastAdjust_mask _ _ (by decide)⟩
  · obtain ⟨ramp, drawn⟩ := State.rampAdjust_of_ramp (mw := mw) levels rate ramp leaves
    exact ⟨_, rfl, ramp, drawn, State.rampAdjust_mask _ _ _ (by decide)⟩
  · obtain ⟨ramp, drawn⟩ := State.rampAdjust_starts (mw := mw) levels rate ramp
    exact ⟨_, rfl, ramp, drawn, State.rampAdjust_mask _ _ _ (by decide)⟩

end Sys2Proof.Machine
end

section
/-!
The controllers' loss, the grace period and the wakes (R394, R465, R552, R556, R566): the statement O58.
-/
namespace Sys2Proof.Machine

set_option Elab.async false
open Sys2Proof

/-! ### The controllers (R566) -/

section
variable {s : State}

/-- The presence value with the controller's bit cleared. -/
theorem presence_cleared (b : Bool) (v : Nat) : v - fld v (presenceBit b - 1) 1 * presenceBit b
    = if b then v - 2 * (v / 2 % 2) else v - v % 2 := by
  cases b with
  | false => exact congrArg (v - ·) (Nat.mul_one _)
  | true =>
    have bit : fld v 1 1 = v / 2 % 2 := by
      rw [fld, Nat.shiftRight_eq_div_pow]
      rfl
    exact congrArg (v - ·) ((congrArg (· * 2) bit).trans (Nat.mul_comm _ _))

theorem State.presenceExpiry_of_seen {b : Bool} {t0 : Nat}
    (seen : (if b then s.ryc.lastSecondary else s.ryc.lastPrimary) = some t0) : s.presenceExpiry b
      = if t0 + 2 * second ≤ s.now then s.odSet 0x1100 0x0C
          (s.odGet 0x1100 0x0C - fld (s.odGet 0x1100 0x0C) (presenceBit b - 1) 1 * presenceBit b) else s := by
  have known : s.controllerSeen b = some t0 := seen
  unfold State.presenceExpiry
  rw [known]

/-- The loss is recorded: the power state notes it, and the mode stays. -/
theorem State.controllersLost_of_due (on : s.mode ≠ .off) (awake : s.asleep = false) (found : s.pow.lost = false)
    (absent : s.odGet 0x1100 0x0C = 0) (due : s.lastController + 2500000000 ≤ s.now) :
    s.controllersLost.pow = { s.pow with lost := true, graceSince := s.now, beforeLoss := some s.mode } ∧
      s.controllersLost.mode = s.mode := by
  have acts : ¬ (decide (s.mode = .off) || s.asleep || s.pow.lost || decide (s.odGet 0x1100 0x0C ≠ 0) ||
      decide (s.now < s.lastController + 10 * second)) = true := by
    have due : ¬ s.now < s.lastController + 10 * second := Nat.not_lt.mpr due
    simp only [on, awake, found, absent, due, ne_eq, not_true_eq_false, decide_false, Bool.or_self, Bool.false_eq_true,
      not_false_eq_true]
  unfold State.controllersLost
  dsimp only
  rw [if_neg acts]
  constructor
  · rw [keeps_pow (w := allBut .pow) (State.failRecord_mask _ _ _ _ _ _ _ _ (by decide)), State.condition_pow]
    rfl
  · exact (keeps_mode (w := allBut .mode) (State.failRecord_mask _ _ _ _ _ _ _ _ (by decide))).trans
      (keeps_mode (w := allBut .mode) (State.condition_mask _ _ _ _ _ (by decide)))

theorem State.controllersLost_of_not_due
    (not : s.pow.lost = true ∨ s.odGet 0x1100 0x0C ≠ 0 ∨ s.now < s.lastController + 2500000000) : s.controllersLost = s := by
  refine if_pos ?_
  simp only [Bool.or_eq_true, decide_eq_true_eq]
  rcases not with lost | present | early
  · exact .inl (.inl (.inr lost))
  · exact .inl (.inr present)
  · exact .inr early

theorem State.graceExpiry_of_due (lost : s.pow.lost = true) (due : s.pow.graceSince + 250000000 * s.odGet 0x2003 1 ≤ s.now)
    (runs : s.mode = .ready ∨ s.mode = .serving) (free : s.entryFree = true) :
    s.graceExpiry = s.beginEntry .standby true 0 false := by
  have levels : s.levelling = true := by
    unfold State.levelling
    rcases runs with mode | mode <;> rw [mode] <;> rfl
  refine if_pos ?_
  rw [lost, levels, free, decide_eq_true (show s.pow.graceSince + second * s.odGet 0x2003 1 ≤ s.now from due)]
  rfl

theorem State.graceExpiry_of_not_due (not : s.pow.lost = false ∨ s.now < s.pow.graceSince + 250000000 * s.odGet 0x2003 1) :
    s.graceExpiry = s := by
  refine if_neg fun due => ?_
  simp only [Bool.and_eq_true, decide_eq_true_eq] at due
  obtain ⟨⟨⟨lost, passed⟩, -⟩, -⟩ := due
  rcases not with found | early
  · exact Bool.eq_false_iff.mp found lost
  · exact Nat.not_le.mpr (show s.now < s.pow.graceSince + second * s.odGet 0x2003 1 from early) passed

theorem State.beginEntry_leftMode (target : Mode) (grace : Bool) (oos : Nat) (warm : Bool) (running : s.mode ≠ .draining) :
    (s.beginEntry target grace oos warm).leftMode = s.mode :=
  (keeps_leftMode (w := allBut .leftMode) (State.enterMode_mask _ _ (by decide))).trans (if_neg running)

end

/-! ### Wakes from STANDBY (R394, R552) -/

theorem AMap.getD_mapVals {α : Type} (m : AMap α) (f : Nat → α → α) (i : Nat) (d : α) :
    (m.mapVals f).getD i d = ((m.find i).map (f i)).getD d := by
  unfold AMap.getD
  congr 1
  induction m with
  | nil => rfl
  | cons kv m ih =>
    obtain ⟨k, v⟩ := kv
    unfold AMap.mapVals at ih ⊢
    rw [List.map_cons, AMap.find, AMap.find, ih]
    split
    · next same => rw [same]; rfl
    · split <;> rfl

/-- Thawing the triggers leaves the loss as it is. -/
theorem State.thaw_lost (s : State) : s.thaw.pow.lost = s.pow.lost := by
  have step (u : State) (t : Trigger) (detail : Nat) : (u.trigAssert t detail).pow.lost = u.pow.lost := by
    obtain ⟨trig, since, pow⟩ := u.trigAssert_pow t detail
    rw [pow]
  unfold State.thaw
  generalize triggers = ts
  induction ts generalizing s with
  | nil => rfl
  | cons t ts ih =>
    rw [List.foldl_cons, ih]
    dsimp only
    have eased : (if (s.trig (trigIndex t)).level ≠ 0 then
        s.putTrig (trigIndex t) { s.trig (trigIndex t) with since := s.now } else s).pow.lost = s.pow.lost := by
      split <;> rfl
    generalize (ite ((s.trig (trigIndex t)).level ≠ 0) _ _ : State) = u at eased ⊢
    split
    · exact (step _ _ _).trans eased
    · exact eased

theorem State.enterMode_lost (s : State) (m : Mode) : (s.enterMode m).pow.lost = s.pow.lost := by
  obtain ⟨since, pow⟩ := s.enterMode_pow m
  rw [pow]

theorem State.follow_lost (s : State) : s.follow.pow.lost = s.pow.lost := by
  unfold State.follow
  split
  · exact s.enterMode_lost _
  · exact s.enterMode_lost _
  · rfl

theorem State.follow_mode {s : State} (serves : s.mode = .ready ∨ s.mode = .serving) :
    s.follow.mode = if s.anyActive then .serving else .ready := by
  unfold State.follow
  rcases serves with mode | mode
  · rw [mode]
    exact State.enterMode_mode _ _
  · rw [mode]
    exact State.enterMode_mode _ _

/-- What a wake from STANDBY changes before it enters the mode that was left. -/
def State.wokenStandby (s : State) : State :=
  let s := (s.setCores (s.cores.mapVals (fun _ c => { c with spad := {}, held := none, vregs := [] }))).setSpadUpsets []
  let s := s.setRyc { s.ryc with sess := s.ryc.sess.mapVals (fun _ x =>
    if x.state = .suspended then { x with state := .opened, lastValid := s.now } else x) }
  let s := s.setRst { s.rst with beatSince := s.now }
  s.setPow { s.pow with lost := false, beforeLoss := none, lastFrame := some s.now, lastDispatch := s.now }

theorem State.wokenStandby_only (s : State) : Only [.cores, .spadUpsets, .ryc, .rst, .pow] s s.wokenStandby :=
  (setPow_mask _ _ (by decide)).trans ((setRst_mask _ _ (by decide)).trans ((setRyc_mask _ _ (by decide)).trans
    ((setSpadUpsets_mask _ _ (by decide)).trans (setCores_mask _ _ (by decide)))))

theorem State.wakeStandby_eq (s : State) : s.wakeStandby =
    (((s.wokenStandby.condition 0 26 false 0).setWakeHeld false).enterMode s.leftMode).replayLog.thaw.follow := by
  rw [show s.leftMode = s.wokenStandby.leftMode from (keeps_leftMode s.wokenStandby_only).symm]
  rfl

theorem State.wokenStandby_core (s : State) (n : Nat) :
    (s.wokenStandby.core n).spad = {} ∧ (s.wokenStandby.core n).role = (s.core n).role := by
  have mapped : s.wokenStandby.core n
      = (((s.cores.find n).map (fun c => { c with spad := {}, held := none, vregs := [] })).getD {} : Core) :=
    AMap.getD_mapVals s.cores (fun _ c => { c with spad := {}, held := none, vregs := [] }) n {}
  have before : s.core n = (s.cores.find n).getD {} := rfl
  rw [mapped, before]
  cases s.cores.find n with
  | none => exact ⟨rfl, rfl⟩
  | some c => exact ⟨rfl, rfl⟩

/-- A wake from STANDBY, of a module that was serving or ready. -/
theorem State.wakeStandby_of_left {s : State} (left : s.leftMode = .ready ∨ s.leftMode = .serving) :
    s.wakeStandby.mode = (if s.anyActive then .serving else .ready) ∧ s.wakeStandby.pow.lost = false ∧
      (∀ n : Nat, (s.wakeStandby.core n).spad = {} ∧ (s.wakeStandby.core n).role = (s.core n).role) ∧
      s.wakeStandby.wakeHeld = false ∧ s.wakeStandby.sess = s.sess := by
  rw [State.wakeStandby_eq]
  have reported : Only [.free, .queues, .dram, .upsets, .ecc, .tlb, .modMem, .fw, .ev, .od, .wakeHeld] s.wokenStandby
      ((s.wokenStandby.condition 0 26 false 0).setWakeHeld false) :=
    (setWakeHeld_mask _ _ (by decide)).trans (State.condition_mask _ _ _ _ _ (by decide))
  have released : ((s.wokenStandby.condition 0 26 false 0).setWakeHeld false).wakeHeld = false := rfl
  have found : (s.wokenStandby.condition 0 26 false 0).pow.lost = false := by
    rw [State.condition_pow]
    rfl
  have lost : ((s.wokenStandby.condition 0 26 false 0).setWakeHeld false).pow.lost = false := found
  generalize (s.wokenStandby.condition 0 26 false 0).setWakeHeld false = x at reported released lost ⊢
  have core := s.wokenStandby_core
  have sess : x.sess = s.sess := (keeps_sess reported).trans (keeps_sess s.wokenStandby_only)
  have video : x.video = s.video := (keeps_video reported).trans (keeps_video s.wokenStandby_only)
  have cores : x.cores = s.wokenStandby.cores := keeps_cores reported
  generalize s.wokenStandby = y at core cores
  have mode : (x.enterMode s.leftMode).mode = s.leftMode := State.enterMode_mode _ _
  have reached : Only [.free, .mode, .idle, .queues, .dram, .upsets, .ecc, .tlb, .modMem, .fw, .ev, .pow, .od] x
      (x.enterMode s.leftMode) := State.enterMode_mask _ _ (by decide)
  have lost := (x.enterMode_lost s.leftMode).trans lost
  generalize x.enterMode s.leftMode = v at mode reached lost ⊢
  have thawed : Only [.free, .queues, .dram, .upsets, .ecc, .tlb, .modMem, .fw, .ev, .pow, .od] v v.replayLog.thaw :=
    (State.thaw_mask _ (by decide)).trans (State.replayLog_mask _ (by decide))
  have lostThawed : v.replayLog.thaw.pow.lost = v.pow.lost :=
    (State.thaw_lost _).trans (congrArg Pow.lost (keeps_pow (w := allBut .pow) (State.replayLog_mask _ (by decide))))
  generalize v.replayLog.thaw = w at thawed lostThawed ⊢
  have followed : Only [.free, .mode, .idle, .queues, .dram, .upsets, .ecc, .tlb, .modMem, .fw, .ev, .pow, .od] w w.follow :=
    State.follow_mask _ (by decide)
  have active : w.anyActive = s.anyActive := by
    unfold State.anyActive
    rw [keeps_sess thawed, keeps_video thawed, keeps_sess reached, keeps_video reached, sess, video]
  refine ⟨?_, ?_, fun n => ?_, ?_, ?_⟩
  · rw [State.follow_mode (by rw [keeps_mode thawed, mode]; exact left), active]
  · rw [State.follow_lost, lostThawed, lost]
  · unfold State.core
    rw [keeps_cores followed, keeps_cores thawed, keeps_cores reached, cores]
    exact core n
  · rw [keeps_wakeHeld followed, keeps_wakeHeld thawed, keeps_wakeHeld reached, released]
  · rw [keeps_sess followed, keeps_sess thawed, keeps_sess reached, sess]

section
variable {s u : State} {f : RFrame} {r : StartReport}

theorem State.wakeFrame_of_foreign (taken : s.takeClear f 0x22 1 = (true, u)) (foreign : u.wakeNames f = false) :
    s.wakeFrame f r = u.ryciaDrop false := by
  unfold State.wakeFrame
  rw [taken]
  dsimp only
  rw [foreign]
  rfl

theorem State.wakeFrame_of_unauthentic (taken : s.takeClear f 0x22 1 = (true, u)) (names : u.wakeNames f = true)
    (forged : f.authentic = false) : s.wakeFrame f r = u.ryciaDrop true := by
  unfold State.wakeFrame
  rw [taken]
  dsimp only
  rw [if_neg (by rw [names]; decide)]
  exact if_pos (by rw [forged]; decide)

/-- An authentic WAKE that names the module is answered, and wakes it unless it is too hot. -/
theorem State.wakeFrame_of_authentic (taken : s.takeClear f 0x22 1 = (true, u)) (names : u.wakeNames f = true)
    (authentic : f.authentic = true) : s.wakeFrame f r =
      (if u.tooHot r then u.sendState f.port (wakeCounter f) 0
        else ((((u.sendState f.port (wakeCounter f) 0).odSet 0x1100 0x0E (wakeCounter f)).commit [10]).raiseEast 25
          (wakeCounter f % 2 ^ 32)).wakeUp r) := by
  unfold State.wakeFrame
  rw [taken]
  dsimp only
  rw [names, authentic]
  rfl

/-- What the answer and the record of a WAKE leave. -/
theorem State.wakeNoted_only (taken : s.takeClear f 0x22 1 = (true, u)) :
    Only [.free, .out, .queues, .dram, .upsets, .ecc, .tlb, .modMem, .fw, .ryc, .ev, .rel, .store, .od] s
      ((((u.sendState f.port (wakeCounter f) 0).odSet 0x1100 0x0E (wakeCounter f)).commit [10]).raiseEast 25
        (wakeCounter f % 2 ^ 32)) := by
  obtain ⟨sec, rate, rfl⟩ := State.takeClear_true taken
  exact (State.raiseEast_mask _ _ _ (by decide)).trans ((State.commit_mask _ _ (by decide)).trans
    ((State.odSet_mask _ _ _ _ (by decide)).trans ((State.sendState_mask _ _ _ _ (by decide)).trans (setRyc_mask _ _ (by decide)))))

/-- The fields that a WAKE may change. -/
def wakeFields : List Field :=
  [.free, .out, .tray, .mode, .idle, .wakeHeld, .westPrimary, .noBoot, .rst, .cores, .queues, .dram, .upsets, .spadUpsets,
    .ecc, .rotation, .tlb, .modMem, .park, .fw, .ryc, .ev, .rel, .pow, .store, .od]

theorem State.wakeFrame_only (s : State) (f : RFrame) (r : StartReport) : Only wakeFields s (s.wakeFrame f r) :=
  State.wakeFrame_mask _ _ _ (by decide)

theorem State.tooHot_of_mode {v : State} (mode : v.mode ≠ .parked) : v.tooHot r = false := by
  unfold State.tooHot
  rw [decide_eq_false mode]
  rfl

/-- A WAKE of a module in STANDBY. -/
theorem wake_of_standby (taken : s.takeClear f 0x22 1 = (true, u)) (names : u.wakeNames f = true)
    (authentic : f.authentic = true) (mode : s.mode = .standby) (left : s.leftMode = .ready ∨ s.leftMode = .serving) :
    ∃ x : State, x.anyActive = s.anyActive ∧ x.sess = s.sess ∧ x.cores = s.cores ∧ (x.leftMode = .ready ∨ x.leftMode = .serving) ∧
      s.wakeFrame f r = x.wakeStandby := by
  have noted := State.wakeNoted_only taken
  have sameMode : u.mode = s.mode := by
    obtain ⟨sec, rate, rfl⟩ := State.takeClear_true taken
    rfl
  have cool : u.tooHot r = false := State.tooHot_of_mode (by rw [sameMode, mode]; decide)
  have ran := State.wakeFrame_of_authentic (r := r) taken names authentic
  rw [cool, if_neg Bool.false_ne_true] at ran
  generalize State.raiseEast _ 25 (wakeCounter f % 2 ^ 32) = x at noted ran
  refine ⟨x, ?_, keeps_sess noted, keeps_cores noted, ?_, ran.trans ?_⟩
  · unfold State.anyActive
    rw [keeps_sess noted, keeps_video noted]
  · rw [keeps_leftMode noted]
    exact left
  · unfold State.wakeUp
    rw [keeps_mode noted, mode]

/-- A WAKE while the module enters STANDBY or PARKED is held. -/
theorem wake_of_entry {e : Entry} (taken : s.takeClear f 0x22 1 = (true, u)) (names : u.wakeNames f = true)
    (authentic : f.authentic = true) (mode : s.mode = .draining) (entry : s.entry = some e)
    (sleeps : e.target = .standby ∨ e.target = .parked) :
    ∃ x : State, x.mode = .draining ∧ x.entry = some e ∧ s.wakeFrame f r = x.setWakeHeld true := by
  have noted := State.wakeNoted_only taken
  have sameMode : u.mode = s.mode := by
    obtain ⟨sec, rate, rfl⟩ := State.takeClear_true taken
    rfl
  have cool : u.tooHot r = false := State.tooHot_of_mode (by rw [sameMode, mode]; decide)
  have ran := State.wakeFrame_of_authentic (r := r) taken names authentic
  rw [cool, if_neg Bool.false_ne_true] at ran
  generalize State.raiseEast _ 25 (wakeCounter f % 2 ^ 32) = x at noted ran
  have asleep : e.target.asleep = true := by
    rcases sleeps with target | target <;> rw [target] <;> rfl
  refine ⟨x, (keeps_mode noted).trans mode, (keeps_entry noted).trans entry, ran.trans ?_⟩
  unfold State.wakeUp
  rw [keeps_mode noted, mode]
  dsimp only
  rw [keeps_entry noted, entry]
  exact if_pos asleep

theorem State.tooHot_of_hot {v : State} (mode : v.mode = .parked) (stopped : 0x21 ∈ v.tray.causes)
    (hot : 4500 < r.inlet ∨ 6000 < r.hottest) : v.tooHot r = true := by
  unfold State.tooHot
  rw [decide_eq_true mode, List.contains_iff_mem.mpr stopped]
  simpa only [Bool.true_and, Bool.or_eq_true, decide_eq_true_eq] using hot

/-- A WAKE of a module that a thermal stop parked and that is still hot is answered, and no more. -/
theorem wake_of_hot (taken : s.takeClear f 0x22 1 = (true, u)) (names : u.wakeNames f = true)
    (authentic : f.authentic = true) (mode : s.mode = .parked) (stopped : 0x21 ∈ s.tray.causes)
    (hot : 4500 < r.inlet ∨ 6000 < r.hottest) :
    s.wakeFrame f r = u.sendState f.port (wakeCounter f) 0 ∧
      Only [.ryc, .out] s (u.sendState f.port (wakeCounter f) 0) ∧
      ∃ o : Output, (u.sendState f.port (wakeCounter f) 0).out = s.out ++ [o] := by
  have ran := State.wakeFrame_of_authentic (r := r) taken names authentic
  have same : u.mode = s.mode ∧ u.tray = s.tray ∧ u.out = s.out ∧ Only [.ryc] s u := by
    obtain ⟨sec, rate, rfl⟩ := State.takeClear_true taken
    exact ⟨rfl, rfl, rfl, setRyc_mask _ _ (by decide)⟩
  obtain ⟨sameMode, sameTray, sameOut, changed⟩ := same
  rw [State.tooHot_of_hot (sameMode.trans mode) (sameTray ▸ stopped) hot, if_pos rfl] at ran
  exact ⟨ran, (State.sendState_mask _ _ _ _ (by decide)).trans (mask_mono (by decide) changed), _, congrArg (· ++ _) sameOut⟩

end

/-! ### The wake subset (R465) -/

section
variable {s : State} {n : Nat} {d : Nat} {r : StartReport}

theorem State.wakeSubset_of_awake (awake : s.asleep = false) (level : Bool) : s.wakeSubset n level d r = s :=
  if_pos (by rw [awake]; rfl)

theorem State.wakeSubset_of_end (asleep : s.asleep = true) (cond : sourceIsCond n = true) :
    s.wakeSubset n false d r = s.condition 0 n false d := by
  unfold State.wakeSubset
  rw [asleep, cond]
  rfl

/-- An occurrence of a source of the subset that has no action of its own. -/
theorem State.wakeSubset_of_other (asleep : s.asleep = true) (h19 : n ≠ 19) (h20 : n ≠ 20) (h21 : n ≠ 21) (h25 : n ≠ 25) :
    s.wakeSubset n true d r = if sourceIsCond n && (s.source 0 n).cond then s else
      if bitOf ((if sourceIsCond n then s.condition 0 n true d else s.raiseEast n d).odGet 0x2900 4) (n - 16)
        then (if sourceIsCond n then s.condition 0 n true d else s.raiseEast n d).wakeUp r
        else (if sourceIsCond n then s.condition 0 n true d else s.raiseEast n d) := by
  unfold State.wakeSubset
  rw [if_neg (by rw [asleep]; decide), if_neg (by decide)]
  split
  · exact absurd rfl h19
  · exact absurd rfl h20
  · exact absurd rfl h21
  · exact absurd rfl h25
  · rfl

end

/-- Settles O58: each clause by the equation of its case; the wakes by `State.wakeStandby_of_left` and the frame
`State.wakeNoted_only` of a WAKE's answer. -/
theorem controllersAndWake : Obligations.ControllersAndWake := by
  unfold Obligations.ControllersAndWake
  refine ⟨fun s b t0 v seen due vIs => ?_, fun s b t0 seen early => ?_, fun s on awake found absent due => ?_,
    fun s not => congrArg _ (State.controllersLost_of_not_due not), fun s lost due runs free => ?_,
    fun s not => congrArg _ (State.graceExpiry_of_not_due not), fun s u f r taken names authentic mode left => ?_,
    fun s u f r e taken names authentic mode entry sleeps => ?_,
    fun s u f r taken names authentic mode stopped hot => ?_,
    fun s u f r taken => ⟨fun foreign => congrArg Host.Outcome.next (State.wakeFrame_of_foreign taken foreign),
      fun names forged => congrArg Host.Outcome.next (State.wakeFrame_of_unauthentic taken names forged)⟩,
    fun s x n d r asleep h1 h2 h3 h7 fresh xIs => ?_, fun s n d r asleep h1 h2 h3 h7 cond held => ?_,
    fun s d r asleep => ?_, fun s n d r asleep cond => congrArg _ (State.wakeSubset_of_end asleep cond),
    fun s n level d r awake => congrArg _ (State.wakeSubset_of_awake awake level)⟩
  · refine congrArg Host.Outcome.next ((State.presenceExpiry_of_seen seen).trans ((if_pos due).trans ?_))
    rw [presence_cleared, vIs]
  · exact congrArg Host.Outcome.next ((State.presenceExpiry_of_seen seen).trans (if_neg (Nat.not_le.mpr early)))
  · obtain ⟨pow, mode⟩ := State.controllersLost_of_due on awake found absent due
    exact ⟨_, rfl, pow, mode, State.controllersLost_mask _ (by decide)⟩
  · have running : s.mode ≠ .draining := by
      rcases runs with mode | mode <;> rw [mode] <;> decide
    refine ⟨_, congrArg Host.Outcome.next (State.graceExpiry_of_due lost due runs free), State.beginEntry_mode _ _ _ _ _,
      State.beginEntry_leftMode _ _ _ _ running, ?_, State.beginEntry_mask _ _ _ _ _ (by decide)⟩
    rw [State.beginEntry_entry, if_neg running]
  · have frame := s.wakeFrame_only f r
    obtain ⟨x, active, sess, cores, leftX, ran⟩ := wake_of_standby (r := r) taken names authentic mode left
    obtain ⟨modeT, lostT, coreT, heldT, sessT⟩ := State.wakeStandby_of_left leftX
    rw [ran] at frame
    refine ⟨_, congrArg Host.Outcome.next ran, by rw [modeT, active], lostT, fun n => ?_, heldT, sessT.trans sess, frame⟩
    obtain ⟨spad, role⟩ := coreT n
    exact ⟨spad, role.trans (congrArg (fun m : AMap Core => (m.getD n {}).role) cores)⟩
  · have frame := s.wakeFrame_only f r
    obtain ⟨x, modeX, entryX, ran⟩ := wake_of_entry (r := r) taken names authentic mode entry sleeps
    rw [ran] at frame
    exact ⟨_, congrArg Host.Outcome.next ran, rfl, modeX, entryX, frame⟩
  · have frame := s.wakeFrame_only f r
    obtain ⟨ran, only, answered⟩ := wake_of_hot (r := r) taken names authentic mode stopped hot
    rw [ran] at frame
    exact ⟨_, congrArg Host.Outcome.next ran, (keeps_mode only).trans mode, answered, frame⟩
  · have other := State.wakeSubset_of_other (d := d.toNat) (r := r) asleep (n := 18 + n.val) (by omega) (by omega) (by omega) (by omega)
    have bit : 18 + n.val - 16 = 2 + n.val := by omega
    have first : ¬ (sourceIsCond (18 + n.val) && (s.source 0 (18 + n.val)).cond) = true := by
      rcases fresh with pulse | clear
      · rw [pulse]
        exact Bool.false_ne_true
      · rw [clear, Bool.and_false]
        exact Bool.false_ne_true
    rw [if_neg first, ← xIs, bit] at other
    exact ⟨fun set => congrArg Host.Outcome.next (other.trans (if_pos set)),
      fun clear => congrArg Host.Outcome.next (other.trans (if_neg (Bool.eq_false_iff.mp clear)))⟩
  · have other := State.wakeSubset_of_other (d := d.toNat) (r := r) asleep (n := 18 + n.val) (by omega) (by omega) (by omega) (by omega)
    exact congrArg Host.Outcome.next (other.trans (if_pos (by rw [cond, held]; rfl)))
  · refine congrArg Host.Outcome.next ?_
    unfold State.wakeSubset
    rw [if_neg (by rw [asleep]; decide), if_neg (by decide)]
    rfl

end Sys2Proof.Machine
end

section
/-!
State requests, draining, the steps of an entry, and IDLE (R550, R551, R612): the statement O57.
-/
namespace Sys2Proof.Machine

set_option Elab.async false
open Sys2Proof

/-! ### Requests through the entry 0x2000.02 (R551) -/

section
variable {s : State}

theorem State.stateCommand_entry (awake : s.asleep = false) (code : Nat) : s.stateCommand code .entry
    = (s.stateRequest code).2.odSet 0x2000 2
        (if !(s.stateRequest code).1 then 3 else if code = 7 || code = 8 then 1 else 2) :=
  if_neg (Bool.eq_false_iff.mp awake)

theorem State.awake_of_running (runs : s.mode = .ready ∨ s.mode = .serving) : s.asleep = false := by
  unfold State.asleep
  rcases runs with mode | mode <;> rw [mode] <;> rfl

theorem State.awake_of_draining (mode : s.mode = .draining) : s.asleep = false := by
  unfold State.asleep
  rw [mode]
  rfl

theorem State.stateRequest_drain (runs : s.mode = .ready ∨ s.mode = .serving) :
    s.stateRequest 6 = (true, s.beginEntry .draining false 0 false) := by
  unfold State.stateRequest
  rcases runs with mode | mode <;> rw [mode] <;> rfl

theorem State.stateRequest_drain_refused (h1 : s.mode ≠ .ready) (h2 : s.mode ≠ .serving) : s.stateRequest 6 = (false, s) := by
  unfold State.stateRequest
  revert h1 h2
  generalize s.mode = m
  intro h1 h2
  cases m with
  | ready => exact absurd rfl h1
  | serving => exact absurd rfl h2
  | _ => rfl

theorem State.stateRequest_drainEnd {e : Entry} (mode : s.mode = .draining) (entry : s.entry = some e) (first : e.step = 1)
    (serves : e.oos = 0) (cold : e.thenWarm = false) (found : s.pow.lost = false) :
    s.stateRequest 4 = (true, (s.setEntry none).enterMode (if s.anyActive then .serving else .ready)) := by
  unfold State.stateRequest
  rw [mode, entry]
  dsimp only
  rw [first, serves, cold, found]
  rfl

theorem State.stateRequest_drainEnd_refused (h : s.mode ≠ .draining) : s.stateRequest 4 = (false, s) := by
  unfold State.stateRequest
  revert h
  generalize s.mode = m
  intro h
  cases m with
  | draining => exact absurd rfl h
  | _ => rfl

/-- A request for STANDBY or PARKED in a state that allows it, with its entry free. -/
theorem State.stateRequest_entry {code : Nat} {t : Mode} (names : requestTarget code = some t)
    (runs : s.mode = .ready ∨ s.mode = .serving ∨ s.mode = .draining) (free : s.entryFree = true) :
    s.stateRequest code = (true, s.beginEntry t false 0 false) := by
  have h6 : code ≠ 6 := by
    rintro rfl
    cases names
  have h4 : code ≠ 4 := by
    rintro rfl
    cases names
  unfold State.stateRequest
  split
  · exact absurd rfl h6
  · exact absurd rfl h4
  · rw [names]
    rcases runs with mode | mode | mode <;> rw [mode] <;> exact if_pos free

theorem State.stateRequest_entry_refused {code : Nat} {t : Mode} (names : requestTarget code = some t)
    (h1 : s.mode ≠ .ready) (h2 : s.mode ≠ .serving) (h3 : s.mode ≠ .draining) : s.stateRequest code = (false, s) := by
  have h6 : code ≠ 6 := by
    rintro rfl
    cases names
  have h4 : code ≠ 4 := by
    rintro rfl
    cases names
  unfold State.stateRequest
  split
  · exact absurd rfl h6
  · exact absurd rfl h4
  · split
    · next mode => exact absurd mode h1
    · next mode => exact absurd mode h2
    · next mode => exact absurd mode h3
    · rfl

/-- A request that starts an entry, from the entry 0x2000.02. -/
theorem State.stateCommand_begins {code : Nat} {target : Mode} (awake : s.asleep = false)
    (takes : s.stateRequest code = (true, s.beginEntry target false 0 false)) :
    (s.stateCommand code .entry).mode = .draining ∧
      (s.stateCommand code .entry).leftMode = (if s.mode = .draining then s.leftMode else s.mode) ∧
      (s.stateCommand code .entry).odGet 0x2000 2 = (if code = 7 || code = 8 then 1 else 2) ∧
      (s.stateCommand code .entry).entry = some { target := target, step := 1
                                                  since := if s.mode = .draining then s.pow.stateSince else s.now
                                                  byGrace := false, oos := 0, thenWarm := false } ∧
      Only [.free, .mode, .idle, .entry, .leftMode, .wakeHeld, .queues, .dram, .upsets, .ecc, .tlb, .modMem, .fw, .ev,
        .pow, .od] s (s.stateCommand code .entry) := by
  rw [State.stateCommand_entry awake, takes]
  refine ⟨State.beginEntry_mode _ _ _ _ _, ?_, State.odGet_odSet_self _ _ _ _, State.beginEntry_entry _ _ _ _ _, ?_⟩
  · exact keeps_leftMode (w := allBut .leftMode) (State.enterMode_mask _ _ (by decide))
  · exact (State.odSet_mask _ _ _ _ (by decide)).trans (State.beginEntry_mask _ _ _ _ _ (by decide))

/-- The end of a drain, from the entry 0x2000.02. -/
theorem State.stateCommand_drainEnd {e : Entry} (mode : s.mode = .draining) (entry : s.entry = some e) (first : e.step = 1)
    (serves : e.oos = 0) (cold : e.thenWarm = false) (found : s.pow.lost = false) :
    (s.stateCommand 4 .entry).mode = (if s.anyActive then .serving else .ready) ∧ (s.stateCommand 4 .entry).entry = none ∧
      (s.stateCommand 4 .entry).odGet 0x2000 2 = 2 := by
  rw [State.stateCommand_entry (State.awake_of_draining mode), State.stateRequest_drainEnd mode entry first serves cold found]
  exact ⟨State.enterMode_mode _ _, State.enterMode_entry _ _, State.odGet_odSet_self _ _ _ _⟩

theorem State.stateCommand_refused {code : Nat} (awake : s.asleep = false) (refused : s.stateRequest code = (false, s)) :
    s.stateCommand code .entry = s.odSet 0x2000 2 3 := by
  rw [State.stateCommand_entry awake, refused]
  rfl

end

/-! ### The steps of an entry (R551) -/

section
variable {s : State} {e : Entry}

theorem State.drainTimeout_of_step1 (entry : s.entry = some e) (first : e.step = 1)
    (ends : e.target ≠ .draining ∨ e.oos ≠ 0 ∨ e.thenWarm = true) :
    s.drainTimeout = ((s.setQueues (s.queues.mapVals (fun _ x =>
      if x.state = .active then { x with state := .paused } else x))).setEntry
        (some { e with step := 2, since := s.now })).dropPosted := by
  have acts : (decide (e.step = 1) && (decide (e.target ≠ .draining) || decide (e.oos ≠ 0) || e.thenWarm)) = true := by
    simp only [Bool.and_eq_true, Bool.or_eq_true, decide_eq_true_eq]
    exact ⟨first, or_assoc.mpr ends⟩
  unfold State.drainTimeout
  rw [entry]
  exact if_pos acts

/-- With no receive descriptor that waits, none completes. -/
theorem State.dropPosted_of_none (none : s.queues.all (fun kx => kx.2.jobs.all (fun j => decide (j.phase ≠ .posted))) = true) :
    s.dropPosted = s := by
  have empty : s.queueIds (fun _ x => x.jobs.any (fun j => decide (j.phase = .posted))) = [] := by
    unfold State.queueIds AMap.only
    rw [List.map_eq_nil_iff, List.filter_eq_nil_iff]
    intro kx member waits
    obtain ⟨j, inJobs, posted⟩ := List.any_eq_true.mp waits
    have other := List.all_eq_true.mp (List.all_eq_true.mp none kx member) j inJobs
    exact of_decide_eq_true other (of_decide_eq_true posted)
  unfold State.dropPosted
  rw [empty]
  rfl

/-- Pausing queues leaves their jobs. -/
theorem all_jobs_paused (qs : AMap Queue) (p : Job → Bool) :
    (qs.mapVals (fun _ x => if x.state = .active then { x with state := .paused } else x)).all (fun kx => kx.2.jobs.all p)
      = qs.all (fun kx => kx.2.jobs.all p) := by
  unfold AMap.mapVals
  rw [List.all_map]
  congr 1
  funext kx
  dsimp only [Function.comp]
  split <;> rfl

theorem State.drainTimeout_of_none (entry : s.entry = none ∨ (s.entry = some e ∧ (e.step ≠ 1
      ∨ (e.target = .draining ∧ e.oos = 0 ∧ e.thenWarm = false)))) : s.drainTimeout = s := by
  unfold State.drainTimeout
  rcases entry with none | ⟨entry, other | ⟨target, serves, cold⟩⟩
  · rw [none]
  · rw [entry]
    exact if_neg (by rw [decide_eq_false other]; exact Bool.false_ne_true)
  · rw [entry]
    refine if_neg ?_
    simp only [target, serves, cold, ne_eq, not_true, decide_false, Bool.or_self, Bool.and_false, Bool.false_eq_true,
      not_false_eq_true]

theorem State.idleEntry_of_due (mode : s.mode = .ready) (active : s.idle = false) (floor : s.odGet 0x2002 1 = 0)
    (due : s.pow.lastDispatch + 250000 * s.odGet 0x2003 3 ≤ s.now) : s.idleEntry = s.setIdle true := by
  have due : s.pow.lastDispatch + ms * s.odGet 0x2003 3 ≤ s.now := due
  refine if_pos ?_
  simp only [mode, active, floor, due, decide_true, Bool.not_false, Bool.and_self]

theorem State.idleEntry_of_not_due (not : s.mode ≠ .ready ∨ s.odGet 0x2002 1 ≠ 0 ∨
    s.now < s.pow.lastDispatch + 250000 * s.odGet 0x2003 3) : s.idleEntry = s := by
  refine if_neg fun due => ?_
  simp only [Bool.and_eq_true, decide_eq_true_eq] at due
  obtain ⟨⟨⟨mode, -⟩, floor⟩, passed⟩ := due
  rcases not with other | set | early
  · exact other mode
  · exact set floor
  · exact Nat.not_le.mpr (show s.now < s.pow.lastDispatch + ms * s.odGet 0x2003 3 from early) passed

/-! ### The end of an entry (R551, R552) -/

/-- What the answers and the aborts before the end of an entry may change. -/
def pendingFields : List Field :=
  [.free, .out, .idle, .cores, .queues, .sems, .semWait, .dram, .upsets, .spadUpsets, .ecc, .tlb, .kvTlb, .shared, .modMem,
    .park, .video, .fw, .ev, .rel, .pow, .store, .od]

variable {ok : Bool} {r : StartReport}

theorem State.drainAbort_of_due (entry : s.entry = some e) (second : e.step = 2) (still : s.anyScrub = false)
    (done : s.allDone = true ∨ e.since + 25000000 ≤ s.now) :
    ∃ u : State, s.drainAbort ok r = u.completeEntry e ok r ∧ Only pendingFields s u := by
  have acts : (decide (e.step = 2) && !s.anyScrub && (s.allDone || decide (e.since + 100 * ms ≤ s.now))) = true := by
    have done : s.allDone = true ∨ e.since + 100 * ms ≤ s.now := done
    simp only [second, still, decide_true, Bool.not_false, Bool.and_self, Bool.true_and, Bool.or_eq_true, decide_eq_true_eq]
    exact done
  unfold State.drainAbort
  rw [entry]
  dsimp only
  rw [if_pos acts]
  have answered : Only pendingFields s (if e.target.asleep = true then s.answerAll else s) :=
    mask_ite_eq (State.answerAll_mask _ (by decide)) rfl
  generalize (if e.target.asleep = true then s.answerAll else s) = u at answered ⊢
  exact ⟨_, rfl, (mask_foldl _ (fun v q => State.abortPending_mask v q (by decide)) _ _).trans answered⟩

theorem State.drainAbort_of_not_due (not : s.entry = none ∨ (s.entry = some e ∧ (e.step ≠ 2 ∨ s.anyScrub = true ∨
    (s.allDone = false ∧ s.now < e.since + 25000000)))) : s.drainAbort ok r = s := by
  unfold State.drainAbort
  rcases not with none | ⟨entry, early⟩
  · rw [none]
  · rw [entry]
    refine if_neg fun due => ?_
    simp only [Bool.and_eq_true, Bool.or_eq_true, decide_eq_true_eq, Bool.not_eq_true'] at due
    obtain ⟨⟨second, still⟩, done⟩ := due
    rcases early with first | scrubs | ⟨busy, soon⟩
    · exact first second
    · exact Bool.false_ne_true (still.symm.trans scrubs)
    · rcases done with all | passed
      · exact Bool.false_ne_true (busy.symm.trans all)
      · exact Nat.not_le.mpr (show s.now < e.since + 100 * ms from soon) passed

/-- What the answers of the reads that waited for a window may change. -/
def readFields : List Field :=
  [.free, .out, .queues, .dram, .upsets, .ecc, .tlb, .modMem, .park, .fw, .ryc, .ev, .rel, .sec, .store, .od]

/-- Closing the windows with no write held answers the reads that wait, and no more. -/
theorem State.closeWindows_of_empty (due : HeldWrite → Bool) (empty : s.ryc.window = []) :
    Only readFields s (s.closeWindows due ok r) := by
  unfold State.closeWindows
  rw [empty]
  refine (mask_foldl _ (fun u q => State.answerRead_mask u q (by decide)) _ _).trans ((setRyc_mask _ _ (by decide)).trans ?_)
  exact setRyc_mask _ _ (by decide)

theorem State.completeEntry_of_oos (reason : e.oos ≠ 0) : (s.completeEntry e ok r).mode = .outOfService ∧
    (s.completeEntry e ok r).entry = none ∧ (s.completeEntry e ok r).rst.oos = true ∧
    (s.completeEntry e ok r).rst.oosReason = e.oos := by
  have ends : s.completeEntry e ok r = (s.setEntry none).toOutOfService e.oos := if_pos reason
  rw [ends]
  unfold State.toOutOfService
  generalize marked : (s.setEntry none).setRst _ = u
  have facts : u.entry = none ∧ u.rst.oos = true ∧ u.rst.oosReason = e.oos := by
    subst marked
    exact ⟨rfl, rfl, rfl⟩
  obtain ⟨entry, oos, oosReason⟩ := facts
  have kept : Only [.rel, .store, .od] u (u.commit [4]) := State.commit_mask _ _ (by decide)
  refine ⟨State.enterMode_mode _ _, ?_, ?_, ?_⟩
  · rw [State.enterMode_entry, keeps_entry kept, entry]
  · rw [State.enterMode_rst, keeps_rst kept, oos]
  · rw [State.enterMode_rst, keeps_rst kept, oosReason]

theorem State.orderWarm_of_none {cause : Nat} (mode : s.mode = .draining) (due : s.rst.due = none) (running : s.rst.running = none) :
    s.orderWarm cause = s.setRst { s.rst with due := some cause } := by
  unfold State.orderWarm
  rw [mode, due, running]
  rfl

theorem State.completeEntry_of_warm (serves : e.oos = 0) (warm : e.thenWarm = true) (mode : s.mode = .draining)
    (due : s.rst.due = none) (running : s.rst.running = none) : s.completeEntry e ok r
      = (s.setEntry none).setRst { s.rst with due := some 4 } := by
  unfold State.completeEntry
  rw [if_neg (not_not_intro serves), if_pos warm]
  exact State.orderWarm_of_none (s := s.setEntry none) mode due running

/-- An entry to STANDBY or PARKED that no WAKE was held in ends in its target. -/
theorem State.completeEntry_of_sleep (serves : e.oos = 0) (cold : e.thenWarm = false) (mode : s.mode = .draining)
    (entered : s.entry.isSome = true) (unheld : s.wakeHeld = false) (empty : s.ryc.window = []) :
    ∃ u : State, s.completeEntry e ok r = (if e.target = .parked then u.toParked r.crystal else u.toStandby) ∧
      Only (.cores :: readFields) s u := by
  have closed := State.closeWindows_of_empty (ok := ok) (r := r) (fun _ => true) empty
  unfold State.completeEntry
  rw [if_neg (not_not_intro serves), if_neg (Bool.eq_false_iff.mp cold)]
  generalize s.closeWindows (fun _ => true) ok r = v at closed ⊢
  dsimp only
  rw [if_pos (by rw [keeps_mode closed, keeps_entry closed, mode, entered]; rfl)]
  have settled : Only (.cores :: readFields) s v.finishChunks.dropRequal :=
    (State.dropRequal_mask _ (by decide)).trans ((State.finishChunks_mask _ (by decide)).trans (mask_mono (by decide) closed))
  refine ⟨v.finishChunks.dropRequal, ?_, settled⟩
  rw [keeps_wakeHeld settled, unheld]
  rfl

theorem State.fallAsleep_mode (m : Mode) : (s.fallAsleep m).mode = m := rfl

/-- PARKED holds no partition, session or page map. -/
theorem State.toParked_empties (crystal : Nat) : (s.toParked crystal).mode = .parked ∧ (s.toParked crystal).entry = none ∧
    (s.toParked crystal).parts = [] ∧ (s.toParked crystal).sess = [] ∧ (s.toParked crystal).pageMaps = [] := by
  unfold State.toParked
  dsimp only
  generalize fallen : State.fallAsleep _ .parked = u
  have mode : u.mode = .parked := fallen ▸ State.fallAsleep_mode _
  have lost : (u.lose .parked).mode = .parked ∧ (u.lose .parked).entry = none ∧ (u.lose .parked).parts = [] ∧
      (u.lose .parked).sess = [] ∧ (u.lose .parked).pageMaps = [] :=
    ⟨(u.lose_mode _).trans mode, u.lose_entry _, u.lose_parts _, u.lose_sess _, u.lose_pageMaps _⟩
  generalize u.lose .parked = v at lost ⊢
  exact lost

/-- STANDBY keeps the partitions and the device's sessions, and suspends the open Rycia sessions. -/
theorem State.toStandby_keeps : s.toStandby.mode = .standby ∧ s.toStandby.entry = none ∧ s.toStandby.parts = s.parts ∧
    s.toStandby.sess = s.sess ∧ ∀ j : Nat, (s.toStandby.rsess j).state ≠ .opened ∧ (s.toStandby.rsess j).state ≠ .handshake := by
  have suspended (m : AMap RSess) (j : Nat) : ((m.mapVals (fun _ x => { x with state := .suspended })).getD j {}).state ≠ .opened ∧
      ((m.mapVals (fun _ x => { x with state := .suspended })).getD j {}).state ≠ .handshake := by
    rw [AMap.getD_mapVals]
    cases m.find j with
    | none => exact ⟨by decide, by decide⟩
    | some x => exact ⟨SessState.noConfusion, SessState.noConfusion⟩
  unfold State.toStandby
  extract_lets asleep idle ryc held net dark pow silent
  have fell : Only [.free, .mode, .entry, .queues, .dram, .upsets, .ecc, .tlb, .modMem, .fw, .ev, .pow, .od] s asleep :=
    State.fallAsleep_mask _ _ (by decide)
  have mode : asleep.mode = .standby := State.fallAsleep_mode _
  have entry : asleep.entry = none := rfl
  have before : Only [.idle, .ryc] asleep held := (setRyc_mask _ _ (by decide)).trans (setIdle_mask _ _ (by decide))
  have sessions (j : Nat) : (held.rsess j).state ≠ .opened ∧ (held.rsess j).state ≠ .handshake := suspended _ j
  have after (x : AMap VEngine) :
      Only [.free, .queues, .dram, .upsets, .ecc, .tlb, .modMem, .video, .fw, .net, .ev, .pow, .od] held (silent.setVideo x) :=
    (setVideo_mask _ _ (by decide)).trans ((State.condition_mask _ _ _ _ _ (by decide)).trans
      ((State.condition_mask _ _ _ _ _ (by decide)).trans ((setPow_mask _ _ (by decide)).trans (setNet_mask _ _ (by decide)))))
  clear_value silent pow dark net held ryc idle asleep
  replace after := after (silent.video.mapVals (fun _ e => { e with busy := none }))
  generalize silent.setVideo _ = w at after ⊢
  refine ⟨?_, ?_, ?_, ?_, fun j => ?_⟩
  · rw [keeps_mode after, keeps_mode before, mode]
  · rw [keeps_entry after, keeps_entry before, entry]
  · rw [keeps_parts after, keeps_parts before, keeps_parts fell]
  · rw [keeps_sess after, keeps_sess before, keeps_sess fell]
  · have same : w.rsess j = held.rsess j := congrArg (fun y : Ryc => y.sess.getD j {}) (keeps_ryc after)
    rw [same]
    exact sessions j

end

/-- Settles O57: requests by `State.stateCommand_begins` and the case it refuses, the steps of an entry by
`State.drainTimeout_of_step1` and the ends of `State.completeEntry`. -/
theorem stateRequests : Obligations.StateRequests := by
  unfold Obligations.StateRequests
  refine ⟨fun s runs => ?_, fun s awake h1 h2 => ?_, fun s e mode entry first serves cold found => ?_, fun s awake h => ?_,
    fun s runs free => ?_, fun s mode free => ?_, fun s awake h1 h2 h3 => ⟨?_, ?_⟩,
    fun s e entry first ends => congrArg _ (State.drainTimeout_of_step1 entry first ends),
    fun s e entry first ends none => ?_, fun s e not => congrArg _ (State.drainTimeout_of_none not),
    fun s e ok r entry second still done mode => ?_, fun s ok r e not => congrArg _ (State.drainAbort_of_not_due not),
    fun s mode active floor due => congrArg _ (State.idleEntry_of_due mode active floor due),
    fun s not => congrArg _ (State.idleEntry_of_not_due not)⟩
  · have running : s.mode ≠ .draining := by
      rcases runs with mode | mode <;> rw [mode] <;> decide
    obtain ⟨mode, left, code, entry, only⟩ :=
      State.stateCommand_begins (State.awake_of_running runs) (State.stateRequest_drain runs)
    rw [if_neg running] at left entry
    exact ⟨_, rfl, mode, left, code, entry, only⟩
  · exact congrArg _ (State.stateCommand_refused awake (State.stateRequest_drain_refused h1 h2))
  · obtain ⟨modeT, entryT, code⟩ := State.stateCommand_drainEnd mode entry first serves cold found
    exact ⟨_, rfl, modeT, entryT, code, State.stateCommand_mask _ _ _ (by decide)⟩
  · exact congrArg _ (State.stateCommand_refused awake (State.stateRequest_drainEnd_refused h))
  · have running : s.mode ≠ .draining := by
      rcases runs with mode | mode <;> rw [mode] <;> decide
    obtain ⟨mode, left, code, entry, only⟩ := State.stateCommand_begins (State.awake_of_running runs)
      (State.stateRequest_entry (code := 7) rfl (by tauto) free)
    rw [if_neg running] at left entry
    exact ⟨_, rfl, mode, left, code, entry, only⟩
  · obtain ⟨modeT, left, code, entry, only⟩ := State.stateCommand_begins (State.awake_of_draining mode)
      (State.stateRequest_entry (code := 8) rfl (.inr (.inr mode)) free)
    rw [if_pos mode] at left entry
    exact ⟨_, rfl, modeT, left, code, entry, only⟩
  · exact congrArg _ (State.stateCommand_refused awake (State.stateRequest_entry_refused (code := 7) rfl h1 h2 h3))
  · exact congrArg _ (State.stateCommand_refused awake (State.stateRequest_entry_refused (code := 8) rfl h1 h2 h3))
  · refine congrArg _ ((State.drainTimeout_of_step1 entry first ends).trans (State.dropPosted_of_none ?_))
    exact (all_jobs_paused s.queues _).trans none
  · obtain ⟨u, ran, pending⟩ := State.drainAbort_of_due (ok := ok) (r := r) entry second still done
    have modeU : u.mode = .draining := (keeps_mode pending).trans mode
    have entryU : u.entry.isSome = true := by rw [keeps_entry pending, entry]; rfl
    refine ⟨fun reason => ?_, fun serves warm due running => ?_, fun serves cold unheld empty target => ?_,
      fun serves cold unheld empty target => ?_⟩
    · exact ⟨_, congrArg Host.Outcome.next ran, State.completeEntry_of_oos reason⟩
    · refine ⟨_, congrArg Host.Outcome.next (ran.trans (State.completeEntry_of_warm serves warm modeU ?_ ?_)), modeU, rfl, rfl⟩
      · rw [keeps_rst pending, due]
      · rw [keeps_rst pending, running]
    · obtain ⟨v, ended, settled⟩ := State.completeEntry_of_sleep (ok := ok) (r := r) serves cold modeU entryU
        ((keeps_wakeHeld pending).trans unheld) (by rw [keeps_ryc pending, empty])
      rw [if_neg (by rw [target]; decide)] at ended
      obtain ⟨modeT, entryT, parts, sess, sessions⟩ := v.toStandby_keeps
      exact ⟨_, congrArg Host.Outcome.next (ran.trans ended), modeT, entryT,
        parts.trans ((keeps_parts settled).trans (keeps_parts pending)),
        sess.trans ((keeps_sess settled).trans (keeps_sess pending)), sessions⟩
    · obtain ⟨v, ended, settled⟩ := State.completeEntry_of_sleep (ok := ok) (r := r) serves cold modeU entryU
        ((keeps_wakeHeld pending).trans unheld) (by rw [keeps_ryc pending, empty])
      rw [if_pos target] at ended
      exact ⟨_, congrArg Host.Outcome.next (ran.trans ended), v.toParked_empties r.crystal⟩

end Sys2Proof.Machine
end

section
/-!
What failure records, wear and corrected errors leave (R483–R499): the slots of the persistent store and the registered
bundles, read together as `State.records`. A function that neither commits nor records keeps them by its frame; each that
does has its own lemma.
-/
namespace Sys2Proof.Machine

set_option Elab.async false
open Sys2Proof

/-- The slots of the store and the registered bundles. -/
def State.records (s : State) : Store × AMap Bundle := (s.store.slots, s.rel.bundles)

/-- The mask of every field but the two that hold them. -/
def notRecords : Nat := 2 ^ 52 - 1 - 2 ^ Field.rel.bit - 2 ^ Field.store.bit

/-- A change of other fields keeps the records. -/
theorem records_of_mask {s t : State} (h : t.mask notRecords = s.mask notRecords) : t.records = s.records :=
  Prod.ext (congrArg Store.slots (keeps_store h)) (congrArg Rel.bundles (keeps_rel h))

theorem records_ite (c : Prop) [Decidable c] (a b : State) :
    (if c then a else b).records = if c then a.records else b.records := apply_ite _ _ _ _

theorem records_foldl {α : Type} {g : State → α → State} (h : ∀ u x, (g u x).records = u.records) (xs : List α) (s : State) :
    (xs.foldl g s).records = s.records := by
  induction xs generalizing s with
  | nil => rfl
  | cons x xs ih => exact (ih _).trans (h s x)

/-! ### Functions that neither commit nor record -/

@[simp] theorem State.odSet_records (s : State) (index sub v : Nat) : (s.odSet index sub v).records = s.records :=
  records_of_mask (State.odSet_mask (hw := rfl) ..)

@[simp] theorem State.odInc_records (s : State) (index sub n : Nat) : (s.odInc index sub n).records = s.records :=
  records_of_mask (State.odInc_mask (hw := rfl) ..)

@[simp] theorem State.ownerInc_records (s : State) (p : Option Nat) (off sub n : Nat) : (s.ownerInc p off sub n).records = s.records :=
  records_of_mask (State.ownerInc_mask (hw := rfl) ..)

@[simp] theorem State.bumpDie_records (s : State) (die code : Nat) (part : Option Nat) (n : Nat) : (s.bumpDie die code part n).records = s.records :=
  records_of_mask (State.bumpDie_mask (hw := rfl) ..)

@[simp] theorem State.raise_records (s : State) (die n detail : Nat) : (s.raise die n detail).records = s.records :=
  records_of_mask (State.raise_mask (hw := rfl) ..)

@[simp] theorem State.raiseCore_records (s : State) (core k detail : Nat) : (s.raiseCore core k detail).records = s.records :=
  records_of_mask (State.raiseCore_mask (hw := rfl) ..)

@[simp] theorem State.raiseEast_records (s : State) (n detail : Nat) : (s.raiseEast n detail).records = s.records :=
  records_of_mask (State.raiseEast_mask (hw := rfl) ..)

@[simp] theorem State.condition_records (s : State) (die n : Nat) (level : Bool) (detail : Nat) : (s.condition die n level detail).records = s.records :=
  records_of_mask (State.condition_mask (hw := rfl) ..)

@[simp] theorem State.putCore_records (s : State) (n : Nat) (c : Core) : (s.putCore n c).records = s.records :=
  records_of_mask (State.putCore_mask (hw := rfl) ..)

@[simp] theorem State.updSub_records (s : State) (n : Nat) (f : Sub → Sub) : (s.updSub n f).records = s.records :=
  records_of_mask (State.updSub_mask (hw := rfl) ..)

@[simp] theorem State.updPart_records (s : State) (p : Nat) (f : Part → Part) : (s.updPart p f).records = s.records :=
  records_of_mask (State.updPart_mask (hw := rfl) ..)

@[simp] theorem State.settleWhere_records (s : State) (n : Nat) (p : Nat → Bool) : (s.settleWhere n p).records = s.records :=
  records_of_mask (State.settleWhere_mask (hw := rfl) ..)

@[simp] theorem State.settleSpad_records (s : State) (core a len : Nat) : (s.settleSpad core a len).records = s.records :=
  records_of_mask (State.settleSpad_mask (hw := rfl) ..)

@[simp] theorem State.parkDraw_records (s : State) (n : Nat) : (s.parkDraw n).records = s.records :=
  records_of_mask (State.parkDraw_mask (hw := rfl) ..)

@[simp] theorem State.clearUpsets_records (s : State) (n : Nat) : (s.clearUpsets n).records = s.records :=
  records_of_mask (State.clearUpsets_mask (hw := rfl) ..)

@[simp] theorem State.markMigrating_records (s : State) (key dst : Nat) : (s.markMigrating key dst).records = s.records :=
  records_of_mask (State.markMigrating_mask (hw := rfl) ..)

@[simp] theorem State.ringSwap_records (s : State) (a b : Nat) : (s.ringSwap a b).records = s.records :=
  records_of_mask (State.ringSwap_mask (hw := rfl) ..)

@[simp] theorem State.hardRepair_records (s : State) : (s.hardRepair).records = s.records :=
  records_of_mask (State.hardRepair_mask (hw := rfl) ..)

@[simp] theorem State.startKernels_records (s : State) : (s.startKernels).records = s.records :=
  records_of_mask (State.startKernels_mask (hw := rfl) ..)

@[simp] theorem State.enterMode_records (s : State) (m : Mode) : (s.enterMode m).records = s.records :=
  records_of_mask (State.enterMode_mask (hw := rfl) ..)

@[simp] theorem State.poisonPage_records (s : State) (e : Nat) : (s.poisonPage e).records = s.records :=
  records_of_mask (State.poisonPage_mask (hw := rfl) ..)

@[simp] theorem State.odDrop_records (s : State) (p : Nat → OdRow → Bool) : (s.odDrop p).records = s.records :=
  records_of_mask (State.odDrop_mask (hw := rfl) ..)

@[simp] theorem State.loseFirmware_records (s : State) (k : Loss) : (s.loseFirmware k).records = s.records :=
  records_of_mask (State.loseFirmware_mask (hw := rfl) ..)

@[simp] theorem State.sendOn_records (s : State) (part : Option Nat) (p : Nat) (bs : List Byte) : (s.sendOn part p bs).records = s.records :=
  records_of_mask (State.sendOn_mask (hw := rfl) ..)

@[simp] theorem State.setEcc_records (s : State) (x : List EccReport) : (s.setEcc x).records = s.records := rfl

@[simp] theorem State.setMigr_records (s : State) (x : AMap Migr) : (s.setMigr x).records = s.records := rfl

@[simp] theorem State.setMigrQueue_records (s : State) (x : List (Nat × Nat)) : (s.setMigrQueue x).records = s.records := rfl

@[simp] theorem State.setRst_records (s : State) (x : Rst) : (s.setRst x).records = s.records := rfl

/-! ### Commits, records and wear -/

@[simp] theorem State.force_records (s : State) (c : Nat) (on : Bool) : (s.force c on).records = s.records := rfl

@[simp] theorem State.measure_records (s : State) (kind unit : Nat) : (s.measure kind unit).records = s.records :=
  Prod.ext rfl rfl

@[simp] theorem State.foretell_records (s : State) : s.foretell.records = s.records := by
  unfold State.foretell
  generalize s.peolFull = x
  rfl

@[simp] theorem State.charge_records (s : State) (kind unit : Nat) : (s.charge kind unit).records = s.records := rfl

theorem State.setRel_records (s : State) (x : Rel) : (s.setRel x).records = (s.store.slots, x.bundles) := rfl

theorem State.odInc_rel (s : State) (ix sub n : Nat) : (s.odInc ix sub n).rel = s.rel := rfl

theorem State.keepCounts_bundles (s : State) (items : List Nat) : (s.keepCounts items).rel.bundles = s.rel.bundles := by
  unfold State.keepCounts
  split <;> rfl

theorem State.psCommit_bundles (s : State) (items : List Nat) (ok : Bool) :
    (s.psCommit items ok).2.rel.bundles = s.rel.bundles := by
  unfold State.psCommit
  dsimp only
  generalize Store.compactIfShort _ = t
  split
  · exact congrArg Rel.bundles (State.odInc_rel _ _ _ _)
  · exact (congrArg Rel.bundles (State.odInc_rel _ _ _ _)).trans (State.keepCounts_bundles _ _)

@[simp] theorem State.commit_records (s : State) (items : List Nat) : (s.commit items).records = s.records := by
  unfold State.records State.commit
  rw [State.psCommit_slots, State.psCommit_bundles]

@[simp] theorem State.takeNumber_records (s : State) : s.takeNumber.2.records = s.records := by
  have reserved : (if s.rel.reserved ≤ s.rel.nextRecord then
      (s.setRel { s.rel with reserved := s.rel.nextRecord + 4096 }).commit [8] else s).records = s.records := by
    rw [records_ite, State.commit_records, State.setRel_records]
    exact ite_self _
  exact reserved

theorem Rel.dropOldest_bundles (r : Rel) : r.dropOldest.bundles = r.bundles := by
  unfold Rel.dropOldest
  split
  · split <;> rfl
  · rfl
  · rfl

theorem Rel.fitRing_bundles (n : Nat) (r : Rel) : (r.fitRing n).bundles = r.bundles := by
  induction n generalizing r with
  | zero => rfl
  | succ n ih =>
    unfold Rel.fitRing
    split
    · rfl
    · rw [ih]
      exact r.dropOldest_bundles

theorem Rel.keepRecord_bundles (r : Rel) (f : FailRec) : (r.keepRecord f).bundles = r.bundles :=
  (Rel.fitRing_bundles _ _).trans rfl

theorem Rel.keepSample_bundles (r : Rel) (x : Sample) : (r.keepSample x).bundles = r.bundles :=
  (Rel.fitRing_bundles _ _).trans rfl

@[simp] theorem State.failRecord_records (s : State) (die cause kind unit : Nat) (part : Option Nat) (flags : Nat)
    (detail : List (Nat × DVal)) : (s.failRecord die cause kind unit part flags detail).records = s.records := by
  unfold State.failRecord
  dsimp only
  generalize windowed : (if s.rel.rateSec = s.now / second then s.rel else { s.rel with rateSec := s.now / second, rate := [] }) = r
  have same : r.bundles = s.rel.bundles := by
    subst windowed
    split <;> rfl
  rw [records_ite]
  refine ite_eq_iff'.mpr ⟨fun _ => Prod.ext rfl same, fun _ => ?_⟩
  generalize taken : State.takeNumber _ = nu
  have kept : nu.2.records = s.records := by
    rw [← taken, State.takeNumber_records, State.setRel_records]
    exact Prod.ext rfl same
  refine (records_of_mask (State.mbxSend_mask (hw := rfl) ..)).trans ?_
  rw [State.odSet_records, State.parkDraw_records, State.setRel_records, Rel.keepRecord_bundles]
  exact kept

@[simp] theorem State.wearLimitCheck_records (s : State) (kind unit : Nat) : (s.wearLimitCheck kind unit).records = s.records := by
  unfold State.wearLimitCheck
  rw [records_ite]
  refine ite_eq_iff'.mpr ⟨fun _ => ?_, fun _ => rfl⟩
  exact (State.commit_records _ _).trans ((State.failRecord_records _ _ _ _ _ _ _ _).trans rfl)

/-! ### Corrected and lost lines (R144–R146, R488) -/

@[simp] theorem State.markBank_records (s : State) (n bank corrected bad : Nat) :
    (s.markBank n bank corrected bad).records = s.records := by
  unfold State.markBank
  simp [records_ite]

@[simp] theorem State.spadCount_records (s : State) (n line : Nat) (bad : Bool) : (s.spadCount n line bad).records = s.records := by
  unfold State.spadCount
  extract_lets c bank unit u v k
  have kept : u.records = s.records := (records_ite ..).trans (by rw [State.putCore_records, ite_self])
  have counted : v.records = u.records := by rw [State.ownerInc_records, State.charge_records, State.odInc_records]
  rw [records_ite, State.markBank_records, ite_self, counted, kept]

@[simp] theorem State.beginRetire_records (s : State) (n trigger : Nat) : (s.beginRetire n trigger).records = s.records := by
  unfold State.beginRetire
  dsimp only
  split
  · simp only [State.commit_records, State.odSet_records, State.raise_records, State.setMigr_records,
      records_foldl (fun u k => State.markMigrating_records u k _), State.clearUpsets_records, State.updSub_records]
    split <;> simp
  · simp

@[simp] theorem State.retireSub_records (s : State) (n trigger : Nat) : (s.retireSub n trigger).records = s.records := by
  unfold State.retireSub
  simp [records_ite]

@[simp] theorem State.repairRow_records (s : State) (n row : Nat) : (s.repairRow n row).records = s.records := by
  unfold State.repairRow
  simp [records_ite]

@[simp] theorem State.lineCorrected_records (s : State) (n line : Nat) : (s.lineCorrected n line).records = s.records := by
  unfold State.lineCorrected
  simp [records_ite]

@[simp] theorem State.lineLost_records (s : State) (n line : Nat) : (s.lineLost n line).records = s.records := by
  unfold State.lineLost
  simp [records_ite]

@[simp] theorem State.account_records (s : State) : s.account.records = s.records := by
  have counts (u : State) (x : EccReport) : (u.countReport x).records = u.records := by
    cases x with
    | line n line bad => simp [State.countReport, records_ite]
    | spad n line bad => exact State.spadCount_records _ _ _ _
  unfold State.account
  rw [records_ite, records_foldl counts, State.setEcc_records, ite_self]

end Sys2Proof.Machine
end

section
/-!
MOD and WARM resets, the watchdog and the return to service (R573–R591): the statement O59. What a reset leaves of the
timebase and of the reset state is read off `State.lose`; what the start after it writes there is `Restarted`.
-/
namespace Sys2Proof.Machine

set_option Elab.async false
open Sys2Proof

/-! ### What a loss leaves of the timebase, the reset state and the slots (R573, R574) -/

/-- After the rest of a loss, its dictionary values and single fields change neither of these. -/
theorem State.lose_after_loseRest (s : State) (k : Loss) :
    Only [.free, .idle, .entry, .wakeHeld, .queues, .dram, .upsets, .ecc, .tlb, .modMem, .fw, .ev, .od, .d2dFails]
      (((s.loseDies k).loseFirmware k).loseRest k) (s.lose k) := by
  unfold Only State.lose
  simp (disch := decide) only [State.condition_mask, setD2dFails_mask, setWakeHeld_mask, setEntry_mask, setIdle_mask,
    State.odDrop_mask]

/-- Before the rest of a loss, the dies and the firmware change neither of these. -/
theorem State.loseRest_before (s : State) (k : Loss) : ((s.loseDies k).loseFirmware k).rst = s.rst ∧
    ((s.loseDies k).loseFirmware k).time = s.time ∧ ((s.loseDies k).loseFirmware k).mode = s.mode :=
  ⟨(keeps_rst (w := allBut .rst) (State.loseFirmware_mask _ _ (by decide))).trans
      (keeps_rst (w := allBut .rst) (State.loseDies_mask _ _ (by decide))),
    (keeps_time (w := allBut .time) (State.loseFirmware_mask _ _ (by decide))).trans
      (keeps_time (w := allBut .time) (State.loseDies_mask _ _ (by decide))),
    (keeps_mode (w := allBut .mode) (State.loseFirmware_mask _ _ (by decide))).trans
      (keeps_mode (w := allBut .mode) (State.loseDies_mask _ _ (by decide)))⟩

theorem State.loseRest_rst (s : State) (k : Loss) : ∃ since : Nat, (s.loseRest k).rst
    = { s.rst with due := none, prepared := none, beat := 0, beatSince := since, merged := false } := by
  unfold State.loseRest State.loseTime
  cases k <;> exact ⟨_, rfl⟩

theorem State.loseRest_time (s : State) (k : Loss) : (s.loseRest k).time = (s.loseTime k).time := by
  unfold State.loseRest State.loseTime
  cases k <;> rfl

/-- A loss ends what was due and what was prepared; the sample's number and the history stay. -/
theorem State.lose_rst (s : State) (k : Loss) : ∃ since : Nat, (s.lose k).rst
    = { s.rst with due := none, prepared := none, beat := 0, beatSince := since, merged := false } := by
  obtain ⟨rst, -, -⟩ := s.loseRest_before k
  obtain ⟨since, rest⟩ := State.loseRest_rst ((s.loseDies k).loseFirmware k) k
  exact ⟨since, (keeps_rst (s.lose_after_loseRest k)).trans (rest.trans (by rw [rst]))⟩

theorem State.lose_time (s : State) (k : Loss) : (s.lose k).time = (s.loseTime k).time := by
  obtain ⟨-, time, mode⟩ := s.loseRest_before k
  refine (keeps_time (s.lose_after_loseRest k)).trans ((State.loseRest_time _ k).trans ?_)
  unfold State.loseTime
  rw [time, mode]
  split <;> rfl

theorem State.lose_time_mod (s : State) : (s.lose .mod).time = { sub := s.time.sub } :=
  (s.lose_time .mod).trans rfl

theorem State.lose_time_warm (s : State) :
    (s.lose .warm).time = { s.time with mayStep := s.time.mayStep && decide (s.mode = .boot) } :=
  (s.lose_time .warm).trans rfl

theorem State.retireRoles_records (s : State) (m : Migr) : (s.retireRoles m).records = s.records := by
  unfold State.retireRoles State.checkComplement
  simp only [State.foretell_records, State.force_records, State.ringSwap_records, State.settleWhere_records,
    State.updSub_records, show ∀ (u : State) (x : AMap Part), (u.setParts x).records = u.records from fun _ _ => rfl]

theorem State.endRetirements_records (s : State) : s.endRetirements.records = s.records := by
  unfold State.endRetirements
  dsimp only
  have ended : ((((s.migr.map (·.2)).foldl State.retireRoles s).setMigr []).setMigrQueue []).records = s.records :=
    records_foldl State.retireRoles_records _ _
  rw [records_ite, State.commit_records, ended, ite_self]

theorem State.loseRest_store (s : State) (k : Loss) : (s.loseRest k).store = { s.store with answered := [] } := by
  unfold State.loseRest State.loseTime
  cases k <;> rfl

theorem State.loseDies_store (s : State) (k : Loss) : (s.loseDies k).store = s.endRetirements.store := by
  refine keeps_store (w := allBut .store) ?_
  unfold State.loseDies
  simp (disch := decide) only [setAdapterLast_mask, setAdapters_mask, setCores_mask, setDram_mask, setEcc_mask,
    setEmitted_mask, setGrammars_mask, setKvDirty_mask, setKvMaps_mask, setKvTlb_mask, setModKey_mask, setModMem_mask,
    setPageMaps_mask, setPark_mask, setParts_mask, setQueueZero_mask, setQueues_mask, setSemWait_mask, setSems_mask,
    setSess_mask, setShared_mask, setSpadUpsets_mask, setTlb_mask, setUpsets_mask, setVideo_mask, State.drawKey_mask]

/-- The runtime slots that a state has, and the mark of each. -/
theorem run_of_records {s t : State} (h : t.records = s.records) (b : Bool) : t.store.run b = s.store.run b :=
  Store.run_of_slots (congrArg Prod.fst h) b

/-- A loss drops what was answered and not yet durable, and leaves the slots. -/
theorem State.lose_run (s : State) (k : Loss) (b : Bool) : (s.lose k).store.run b = s.store.run b := by
  have dies : (s.loseDies k).store.run b = s.store.run b := by
    rw [State.loseDies_store]
    exact run_of_records s.endRetirements_records b
  have firmware : ((s.loseDies k).loseFirmware k).store = (s.loseDies k).store :=
    keeps_store (w := allBut .store) (State.loseFirmware_mask _ _ (by decide))
  rw [keeps_store (s.lose_after_loseRest k), State.loseRest_store, ← dies, ← firmware]
  rfl

/-! ### The reset state after a start (R574, R588) -/

/-- Nothing is due or prepared, and the last sample is number `n`. -/
def Restarted (n : Nat) (s : State) : Prop := s.rst.due = none ∧ s.rst.prepared = none ∧ s.rst.sampleNo = n

/-- The mask of every field but the reset state. -/
def notRst : Nat := 2 ^ 52 - 1 - 2 ^ Field.rst.bit

theorem Restarted.of_mask {n : Nat} {s t : State} (h : Restarted n s) (same : t.mask notRst = s.mask notRst) :
    Restarted n t := by
  unfold Restarted
  rw [keeps_rst same]
  exact h

theorem Restarted.ite {n : Nat} {c : Prop} [Decidable c] {a b : State} (ha : Restarted n a) (hb : Restarted n b) :
    Restarted n (if c then a else b) := by
  split
  · exact ha
  · exact hb

theorem State.lose_restarted (s : State) (k : Loss) : Restarted s.rst.sampleNo (s.lose k) := by
  obtain ⟨since, rst⟩ := s.lose_rst k
  unfold Restarted
  rw [rst]
  exact ⟨rfl, rfl, rfl⟩

section
variable {n : Nat} {s : State}

theorem Restarted.refuse (h : Restarted n s) (reason : Nat) : Restarted n (s.refuse reason) := by
  have cleared : Restarted n ((s.setFw { s.fw with loadStep := 0 }).setRst { s.rst with running := none }) := h
  unfold State.refuse
  generalize (s.setFw { s.fw with loadStep := 0 }).setRst { s.rst with running := none } = u at cleared ⊢
  refine .of_mask ?_ (State.failProbation_mask (hw := rfl) ..)
  refine .of_mask (s := (if u.odGet 0x2150 0x0B = 1 then u.odSet 0x2150 0x0B 3 else u)) ?_
    ((State.enterMode_mask (hw := rfl) ..).trans (State.odSet_mask (hw := rfl) ..))
  exact .ite (.of_mask cleared (State.odSet_mask (hw := rfl) ..)) cleared

theorem Restarted.loadRuntime (h : Restarted n s) (reported : Nat) : Restarted n (s.loadRuntime reported) := by
  unfold State.loadRuntime
  dsimp only
  generalize entered : State.enterMode _ .awaitRuntime = u
  have kept : Restarted n u := by
    rw [← entered]
    refine .of_mask ?_ (State.enterMode_mask (hw := rfl) ..)
    generalize loaded : State.odSet _ 0x2150 7 0 = x
    have same : x.rst = s.rst := by
      rw [← loaded]
      refine keeps_rst (w := notRst) ?_
      simp (disch := decide) only [State.odSet_mask, setStore_mask, mask_ite, ite_self]
    unfold Restarted at h ⊢
    rw [← same] at h
    exact h
  exact .ite (kept.refuse 6) (.ite (kept.refuse 7) (.ite (kept.refuse 5) kept))

theorem Restarted.toOutOfService (h : Restarted n s) (reason : Nat) : Restarted n (s.toOutOfService reason) := by
  have marked : Restarted n (s.setRst { s.rst with oos := true, oosReason := reason, running := none, due := none }) :=
    ⟨rfl, h.2⟩
  exact .of_mask (.of_mask marked (State.commit_mask (hw := rfl) ..)) (State.enterMode_mask (hw := rfl) ..)

theorem Restarted.toRecovery (h : Restarted n s) (reason : Nat) : Restarted n (s.toRecovery reason) := by
  have marked : Restarted n (s.setRst { s.rst with running := none }) := h
  exact .of_mask (.of_mask marked (State.odSet_mask (hw := rfl) ..)) (State.enterMode_mask (hw := rfl) ..)

theorem Restarted.afterTrain (h : Restarted n s) (r : StartReport) : Restarted n (s.afterTrain r) := by
  have started : Restarted n s.startKernels := .of_mask h (State.startKernels_mask (hw := rfl) ..)
  unfold State.afterTrain
  generalize s.startKernels = u at started ⊢
  exact .ite (started.toOutOfService _) (.ite (started.toOutOfService _) (.ite (started.toOutOfService _)
    (started.loadRuntime _)))

theorem Restarted.tried (h : Restarted n s) (since : Nat) : Restarted n (s.setRst { s.rst with trialSince := since }) := h

theorem Restarted.trainAndLoad (h : Restarted n s) (r : StartReport) (hard : Bool) : Restarted n (s.trainAndLoad r hard) := by
  have trained : Restarted n ((s.enterMode .train).train r hard) :=
    .of_mask (.of_mask h (State.enterMode_mask (hw := rfl) ..)) (State.train_mask (hw := rfl) ..)
  unfold State.trainAndLoad
  exact .ite (trained.afterTrain r) (trained.tried _)

end

/-! ### The record of a reset (R588) -/

theorem State.putHistory_rst (s : State) (h : HistRec) : (s.putHistory h).rst.sampleNo = s.rst.sampleNo ∧
    (s.putHistory h).rst.history.getLast? = some h := by
  have kept : (s.putHistory h).rst = { s.rst with history := (s.rst.history ++ [h]).drop ((s.rst.history ++ [h]).length - 64) } :=
    (keeps_rst (w := notRst) (State.commit_mask (hw := rfl) ..)).trans rfl
  rw [kept]
  refine ⟨rfl, ?_⟩
  have some : (s.rst.history ++ [h]).length - 64 < (s.rst.history ++ [h]).length := by
    rw [List.length_append, List.length_singleton]
    omega
  have last : ((s.rst.history ++ [h]).drop ((s.rst.history ++ [h]).length - 64)).getLast? = Option.some h := by
    rw [List.getLast?_drop, if_neg (by omega), List.getLast?_concat]
  exact last

theorem State.recordReset_rst (s : State) (h : HistRec) : (s.recordReset h).rst.sampleNo = s.rst.sampleNo ∧
    ((s.recordReset h).rst.history.getLast?).map (·.kind) = some h.kind := by
  unfold State.recordReset
  dsimp only
  have put := State.putHistory_rst (s.odInc 0x2004 6 1) { h with counted := s.counts h.kind h.cause }
  generalize (s.odInc 0x2004 6 1).putHistory { h with counted := s.counts h.kind h.cause } = u at put ⊢
  obtain ⟨no, last⟩ := put
  have facts : u.rst.sampleNo = s.rst.sampleNo ∧ (u.rst.history.getLast?).map (·.kind) = some h.kind := by
    rw [last]
    exact ⟨no, rfl⟩
  have raised : (u.raiseEast 3 u.countInForce).rst = u.rst := keeps_rst (w := notRst) (State.raiseEast_mask (hw := rfl) ..)
  generalize u.raiseEast 3 u.countInForce = v at raised ⊢
  split
  · split
    · have flagged : ((v.setRst { v.rst with oos := true, oosReason := 1 }).commit [4]).rst = { v.rst with oos := true, oosReason := 1 } :=
        (keeps_rst (w := notRst) (State.commit_mask (hw := rfl) ..)).trans rfl
      rw [flagged, raised]
      exact facts
    · rw [raised]
      exact facts
  · exact facts

theorem State.takeReset_rst {s : State} {kind : ResetKind} (cause : Nat) (h : HistRec) (warm : kind ≠ .pwr) :
    (s.takeReset kind cause h).rst.sampleNo = s.rst.sampleNo ∧
      ((s.takeReset kind cause h).rst.history.getLast?).map (·.kind) = some kind := by
  have recorded : ¬ (s.rst.recorded && decide (kind = .pwr) && !s.rst.history.isEmpty) = true := by
    rw [decide_eq_false warm, Bool.and_false, Bool.false_and]
    exact Bool.false_ne_true
  unfold State.takeReset
  dsimp only
  rw [if_neg recorded]
  exact State.recordReset_rst _ _

/-! ### MOD resets (R573, R588) -/

/-- What a MOD reset leaves as it takes hold. -/
theorem State.modTake_leaves (s : State) (cause : Nat) : (s.modTake cause).parts = [] ∧ (s.modTake cause).sess = [] ∧
    (s.modTake cause).pageMaps = [] ∧ (s.modTake cause).grammars = [] ∧ (s.modTake cause).time = { sub := s.time.sub } ∧
    (s.modTake cause).mode = .boot ∧ ((s.modTake cause).rst.history.getLast?).map (·.kind) = some .mod := by
  unfold State.modTake
  dsimp only
  have aborted : Only [.free, .out, .queues, .dram, .upsets, .ecc, .tlb, .modMem, .park, .fw, .ev, .rel, .store, .od] s
      (if s.asleep then s else s.abortGroups 3 (fun _ => true)) := mask_ite_eq rfl (State.abortGroups_mask _ _ _ (by decide))
  generalize (if s.asleep then s else s.abortGroups 3 (fun _ => true)) = u at aborted ⊢
  generalize taken : u.takeReset .mod cause _ = v
  have time : v.time = s.time := by
    rw [← taken]
    exact (keeps_time (w := allBut .time) (State.takeReset_mask _ _ _ _ (by decide))).trans (keeps_time aborted)
  have last : (v.rst.history.getLast?).map (·.kind) = some .mod := by
    rw [← taken]
    exact (State.takeReset_rst cause _ (by decide)).2
  have empties : (v.lose .mod).parts = [] ∧ (v.lose .mod).sess = [] ∧ (v.lose .mod).pageMaps = [] ∧ (v.lose .mod).grammars = [] :=
    ⟨v.lose_parts _, v.lose_sess _, v.lose_pageMaps _, v.lose_grammars _⟩
  have restarted : (v.lose .mod).time = { sub := s.time.sub } := by rw [State.lose_time_mod, time]
  have history : ((v.lose .mod).rst.history.getLast?).map (·.kind) = some .mod := by
    obtain ⟨since, rst⟩ := v.lose_rst .mod
    rw [rst]
    exact last
  generalize v.lose .mod = w at empties restarted history ⊢
  obtain ⟨parts, sess, maps, grammars⟩ := empties
  have entered : Only [.free, .mode, .idle, .queues, .dram, .upsets, .ecc, .tlb, .modMem, .fw, .ev, .pow, .od] w
      (w.enterMode .boot) := State.enterMode_mask _ _ (by decide)
  refine ⟨?_, ?_, ?_, ?_, ?_, State.enterMode_mode _ _, ?_⟩
  · rw [keeps_parts entered, parts]
  · rw [keeps_sess entered, sess]
  · rw [keeps_pageMaps entered, maps]
  · rw [keeps_grammars entered, grammars]
  · rw [keeps_time entered, restarted]
  · rw [keeps_rst entered, history]

/-- What a MOD start leaves. -/
theorem State.modStart_leaves (s : State) (cause : Nat) (r : StartReport) : (s.modStart cause r).parts = [] ∧
    (s.modStart cause r).sess = [] ∧ (s.modStart cause r).pageMaps = [] ∧ (s.modStart cause r).grammars = [] ∧
    (s.modStart cause r).time = { sub := s.time.sub } := by
  obtain ⟨parts, sess, maps, grammars, time, -, -⟩ := s.modTake_leaves cause
  unfold State.modStart
  generalize s.modTake cause = u at parts sess maps grammars time ⊢
  have started : Only [.free, .tray, .mode, .idle, .westPrimary, .noBoot, .rst, .cores, .queues, .dram, .upsets, .ecc,
      .rotation, .tlb, .modMem, .park, .fw, .ev, .rel, .pow, .store, .od] u
      (u.coldStart .mod r (s.store.platIn .trial).isSome) := State.coldStart_mask _ _ _ _ (by decide)
  rw [keeps_parts started, keeps_sess started, keeps_pageMaps started, keeps_grammars started, keeps_time started]
  exact ⟨parts, sess, maps, grammars, time⟩

/-! ### WARM resets (R583, R584) -/

/-- The start after a WARM reset has taken hold (R583, R609, R612). -/
def State.warmBoot (s : State) (r : StartReport) : State :=
  let s := s.failProbation 0x22
  if (s.store.platIn .trial).isSome then s.failTrial.toRecovery 2
  else if !r.platformOk then s.toRecovery 1
  else s.trainAndLoad r false

theorem State.warmBoot_only (s : State) (r : StartReport) :
    Only [.free, .mode, .idle, .rst, .queues, .dram, .upsets, .ecc, .rotation, .tlb, .modMem, .park, .fw, .ev, .rel, .pow,
      .store, .od] s (s.warmBoot r) := by
  have failed : Only [.free, .mode, .idle, .rst, .queues, .dram, .upsets, .ecc, .rotation, .tlb, .modMem, .park, .fw, .ev,
      .rel, .pow, .store, .od] s (s.failProbation 0x22) := State.failProbation_mask _ _ (by decide)
  unfold State.warmBoot
  dsimp only
  generalize s.failProbation 0x22 = u at failed ⊢
  refine mask_ite_eq (((State.toRecovery_mask _ _ (by decide)).trans (State.failTrial_mask _ (by decide))).trans failed) ?_
  exact mask_ite_eq ((State.toRecovery_mask _ _ (by decide)).trans failed) ((State.trainAndLoad_mask _ _ _ (by decide)).trans failed)

theorem Restarted.warmBoot {n : Nat} {s : State} (h : Restarted n s) (r : StartReport) : Restarted n (s.warmBoot r) := by
  have failed : Restarted n (s.failProbation 0x22) := .of_mask h (State.failProbation_mask (hw := rfl) ..)
  unfold State.warmBoot
  dsimp only
  generalize s.failProbation 0x22 = u at failed ⊢
  exact .ite (.toRecovery (.of_mask failed (State.failTrial_mask (hw := rfl) ..)) _) (.ite (failed.toRecovery _)
    (failed.trainAndLoad _ _))

/-- The state that a WARM reset's loss starts from. -/
def State.warmTaken (s : State) (cause : Nat) (r : StartReport) : State :=
  let cause := s.rst.due.getD cause
  let s := if s.rst.prepared.isSome then s else s.prepare cause
  let s := s.setRst { s.rst with due := none }
  s.takeReset .warm cause {
    clock := s.park.clock, time := s.now, kind := .warm, cause := cause, counted := false, sampled := true
    fullTraining := !r.cacheValid, sample := s.rst.sampleNo }

theorem State.warmStart_eq (s : State) (cause : Nat) (r : StartReport) :
    s.warmStart cause r = (((s.warmTaken cause r).lose .warm).enterMode .boot).warmBoot r := rfl

theorem State.warmTaken_only (s : State) (cause : Nat) (r : StartReport) :
    Only [.free, .out, .rst, .cores, .queues, .dram, .upsets, .spadUpsets, .ecc, .migr, .migrQueue, .pageMaps, .tlb,
      .modMem, .parts, .park, .fw, .ev, .rel, .store, .od] s (s.warmTaken cause r) := by
  unfold State.warmTaken
  refine (State.takeReset_mask _ _ _ _ (by decide)).trans ((setRst_mask _ _ (by decide)).trans ?_)
  exact mask_ite_eq rfl (State.prepare_mask _ _ (by decide))

/-- With the sample taken before, a WARM reset takes no other. -/
theorem State.warmTaken_sampleNo {s : State} (cause : Nat) (r : StartReport) (prepared : s.rst.prepared.isSome = true) :
    (s.warmTaken cause r).rst.sampleNo = s.rst.sampleNo := by
  unfold State.warmTaken
  dsimp only
  rw [if_pos prepared]
  exact (State.takeReset_rst _ _ (by decide)).1

/-- What a WARM start leaves. -/
theorem State.warmStart_leaves (s : State) (cause : Nat) (r : StartReport) : (s.warmStart cause r).parts = [] ∧
    (s.warmStart cause r).sess = [] ∧ (s.warmStart cause r).pageMaps = [] ∧ (s.warmStart cause r).grammars = [] ∧
    (s.warmStart cause r).time = { s.time with mayStep := s.time.mayStep && decide (s.mode = .boot) } ∧
    Restarted (s.warmTaken cause r).rst.sampleNo (s.warmStart cause r) := by
  have taken := s.warmTaken_only cause r
  rw [State.warmStart_eq]
  generalize s.warmTaken cause r = v at taken ⊢
  have empties : (v.lose .warm).parts = [] ∧ (v.lose .warm).sess = [] ∧ (v.lose .warm).pageMaps = [] ∧ (v.lose .warm).grammars = [] :=
    ⟨v.lose_parts _, v.lose_sess _, v.lose_pageMaps _, v.lose_grammars _⟩
  have time : (v.lose .warm).time = { s.time with mayStep := s.time.mayStep && decide (s.mode = .boot) } := by
    rw [State.lose_time_warm, keeps_time taken, keeps_mode taken]
  have restarted := v.lose_restarted .warm
  generalize v.lose .warm = w at empties time restarted ⊢
  obtain ⟨parts, sess, maps, grammars⟩ := empties
  have entered : Only [.free, .mode, .idle, .queues, .dram, .upsets, .ecc, .tlb, .modMem, .fw, .ev, .pow, .od] w
      (w.enterMode .boot) := State.enterMode_mask _ _ (by decide)
  have restarted : Restarted v.rst.sampleNo (w.enterMode .boot) := restarted.of_mask (State.enterMode_mask (hw := rfl) ..)
  generalize w.enterMode .boot = x at entered restarted ⊢
  have booted := x.warmBoot_only r
  refine ⟨?_, ?_, ?_, ?_, ?_, restarted.warmBoot r⟩
  · rw [keeps_parts booted, keeps_parts entered, parts]
  · rw [keeps_sess booted, keeps_sess entered, sess]
  · rw [keeps_pageMaps booted, keeps_pageMaps entered, maps]
  · rw [keeps_grammars booted, keeps_grammars entered, grammars]
  · rw [keeps_time booted, keeps_time entered, time]

/-! ### A runtime slot that was rejected stays rejected (R611, R612) -/

@[simp] theorem State.decodeError_records (s : State) (die p e block : Nat) : (s.decodeError die p e block).records = s.records := by
  unfold State.decodeError
  rw [State.failRecord_records, State.charge_records, State.odInc_records]

theorem State.mread_records (s : State) (die p a n : Nat) : (s.mread die p a n).2.records = s.records := by
  have read : (s.pread die p a n).2.records = s.records := records_of_mask (State.pread_mask (hw := rfl) ..)
  unfold State.mread
  generalize s.pread die p a n = z at read ⊢
  obtain ⟨_ | ⟨bs, errs⟩, u⟩ := z
  · exact read
  · exact (records_foldl (fun v e => State.decodeError_records v _ _ _ _) _ _).trans read

theorem State.groupMembers_records (s : State) (e : Nat) : (s.groupMembers e).2.records = s.records := by
  have read := s.mread_records 0 (jgPart e) (fld e 92 48) (2 * (fld e 140 8 + 1))
  unfold State.groupMembers
  dsimp only
  generalize s.mread 0 (jgPart e) (fld e 92 48) (2 * (fld e 140 8 + 1)) = z at read ⊢
  obtain ⟨_ | bs, u⟩ := z
  · exact read
  · exact read

theorem State.abortGroup_records (s : State) (e reason : Nat) : (s.abortGroup e reason).records = s.records := by
  have members := s.groupMembers_records e
  unfold State.abortGroup
  dsimp only
  generalize s.groupMembers e = mu at members ⊢
  rw [records_ite, records_ite, State.failRecord_records, State.odInc_records,
    records_foldl (fun v x => State.sendOn_records v _ _ _), members, ite_self, ite_self]

theorem State.abortGroups_records (s : State) (reason : Nat) (p : Nat → Bool) : (s.abortGroups reason p).records = s.records :=
  records_foldl (fun _ _ => State.abortGroup_records _ _ _) _ _

theorem State.takeSample_records (s : State) (cause : Nat) : (s.takeSample cause).records = s.records := by
  unfold State.takeSample
  dsimp only
  generalize settled : (ite (decide (s.odGet 0x2004 0x0C = 0) = true) _ _ : State) = u
  have kept : u.records = s.records := by
    rw [← settled, records_ite, State.account_records, records_foldl (fun v n => State.settleSpad_records v _ _ _), ite_self]
  rw [State.odSet_records, State.parkDraw_records, State.setRel_records, Rel.keepSample_bundles]
  exact kept

theorem State.recordReset_records (s : State) (h : HistRec) : (s.recordReset h).records = s.records := by
  unfold State.recordReset State.putHistory
  simp [records_ite]

theorem State.takeReset_records (s : State) (kind : ResetKind) (cause : Nat) (h : HistRec) :
    (s.takeReset kind cause h).records = s.records := by
  unfold State.takeReset
  dsimp only
  rw [State.setRst_records, records_ite, State.commit_records, State.recordReset_records, State.setRst_records, ite_self]

theorem State.warmTaken_records (s : State) (cause : Nat) (r : StartReport) : (s.warmTaken cause r).records = s.records := by
  unfold State.warmTaken State.prepare
  dsimp only
  rw [State.takeReset_records, State.setRst_records, records_ite, State.takeSample_records, State.abortGroups_records, ite_self]

/-- Runtime slot `b` is rejected. -/
def RunRejected (b : Bool) (s : State) : Prop := s.store.run b = .rejected

section
variable {b : Bool} {s : State}

theorem RunRejected.of_records {t : State} (h : RunRejected b s) (same : t.records = s.records) : RunRejected b t :=
  (run_of_records same b).trans h

theorem RunRejected.ite {c : Prop} [Decidable c] {x y : State} (hx : RunRejected b x) (hy : RunRejected b y) :
    RunRejected b (if c then x else y) := by
  split
  · exact hx
  · exact hy

theorem Store.run_of_runIn {t : Store} {x : RunState} {c : Bool} (slot : t.runIn x = some c) : t.run c = x := by
  unfold Store.runIn at slot
  split at slot
  · next a =>
    cases slot
    exact a
  · split at slot
    · next b =>
      cases slot
      exact b
    · cases slot

/-- A change of the other slot, or a rejection, leaves the slot rejected. -/
theorem Store.run_putRun_rejected {t : Store} {c : Bool} {x : RunState} (rejected : t.run b = .rejected)
    (apart : c = b → x = .rejected) : (t.putRun c x).run b = .rejected := by
  cases hb : decide (c = b) with
  | true =>
    have same := of_decide_eq_true hb
    subst same
    rw [Store.run_putRun_self, apart rfl]
  | false =>
    have other : b = !c := by
      have := of_decide_eq_false hb
      cases b <;> cases c <;> simp_all
    subst other
    rw [Store.run_putRun_not, rejected]

theorem RunRejected.failProbation (h : RunRejected b s) (code : Nat) : RunRejected b (s.failProbation code) := by
  cases slot : s.store.runIn .probation with
  | none =>
    have same : s.failProbation code = s := by
      unfold State.failProbation
      dsimp only
      rw [slot]
    rw [same]
    exact h
  | some c =>
    refine (Store.run_of_slots (State.failProbation_slots code slot) b).trans ?_
    exact Store.run_putRun_rejected h fun _ => rfl

theorem State.failProbation_rejects {c : Bool} (code : Nat) (slot : s.store.runIn .probation = some c) :
    RunRejected c (s.failProbation code) :=
  (Store.run_of_slots (State.failProbation_slots code slot) c).trans (Store.run_putRun_self _ _ _)

theorem RunRejected.failTrial (h : RunRejected b s) : RunRejected b s.failTrial := by
  cases slot : s.store.platIn .trial with
  | none =>
    have same : s.failTrial = s := by
      unfold State.failTrial
      dsimp only
      rw [slot]
    rw [same]
    exact h
  | some c =>
    refine (Store.run_of_slots (State.failTrial_slots slot) b).trans (Eq.trans ?_ h)
    cases b <;> cases c <;> rfl

theorem RunRejected.refuse (h : RunRejected b s) (reason : Nat) : RunRejected b (s.refuse reason) := by
  have cleared : RunRejected b ((s.setFw { s.fw with loadStep := 0 }).setRst { s.rst with running := none }) := h
  unfold State.refuse
  generalize (s.setFw { s.fw with loadStep := 0 }).setRst { s.rst with running := none } = u at cleared ⊢
  refine .failProbation (.of_records (s := (if u.odGet 0x2150 0x0B = 1 then u.odSet 0x2150 0x0B 3 else u)) ?_ ?_) _
  · exact .ite (cleared.of_records (State.odSet_records _ _ _ _)) cleared
  · rw [State.enterMode_records, State.odSet_records]

/-- The slot that is loaded: the candidate, else the one on probation, else the current one. -/
theorem State.loadRuntime_slot (s : State) (reported : Nat) : ∃ u : State, (u.store.runA = s.store.runA ∧ u.store.runB = s.store.runB
      ∨ ∃ c : Bool, s.store.runIn .candidate = some c ∧ u.store.runA = (s.store.putRun c .probation).runA
        ∧ u.store.runB = (s.store.putRun c .probation).runB) ∧
    (s.loadRuntime reported = u.refuse 6 ∨ s.loadRuntime reported = u.refuse 7 ∨ s.loadRuntime reported = u.refuse 5 ∨
      s.loadRuntime reported = u) := by
  have branches (c d e : Prop) [Decidable c] [Decidable d] [Decidable e] (v : State) :
      (if c then v.refuse 6 else if d then v.refuse 7 else if e then v.refuse 5 else v) = v.refuse 6 ∨
        (if c then v.refuse 6 else if d then v.refuse 7 else if e then v.refuse 5 else v) = v.refuse 7 ∨
        (if c then v.refuse 6 else if d then v.refuse 7 else if e then v.refuse 5 else v) = v.refuse 5 ∨
        (if c then v.refuse 6 else if d then v.refuse 7 else if e then v.refuse 5 else v) = v := by
    split
    · exact .inl rfl
    · split
      · exact .inr (.inl rfl)
      · split
        · exact .inr (.inr (.inl rfl))
        · exact .inr (.inr (.inr rfl))
  unfold State.loadRuntime
  extract_lets stored
  split
  next pair b fresh picked =>
    extract_lets marked v kept w image x fw rst y u
    refine ⟨u, ?_, branches _ _ _ u⟩
    have same : u.store = w.store := calc
      u.store = y.store := State.enterMode_store ..
      _ = x.store := rfl
      _ = w.store := by simp only [x, State.odSet_store]
    rw [same]
    cases candidate : s.store.runIn .candidate with
    | some c =>
      rw [show stored.runIn .candidate = some c from candidate] at picked
      cases picked
      exact .inr ⟨b, rfl, rfl, rfl⟩
    | none =>
      rw [show stored.runIn .candidate = Option.none from candidate] at picked
      have unmarked : fresh = false := by
        cases onProbation : stored.runIn .probation <;> rw [onProbation] at picked <;> cases picked <;> rfl
      subst unmarked
      exact .inl ⟨rfl, rfl⟩

theorem RunRejected.loadRuntime (h : RunRejected b s) (reported : Nat) : RunRejected b (s.loadRuntime reported) := by
  obtain ⟨u, slots, cases⟩ := s.loadRuntime_slot reported
  have kept : RunRejected b u := by
    rcases slots with ⟨runA, runB⟩ | ⟨c, candidate, runA, runB⟩
    · refine Eq.trans ?_ h
      unfold Store.run
      rw [runA, runB]
    · have put : (s.store.putRun c .probation).run b = .rejected := by
        refine Store.run_putRun_rejected h fun same => ?_
        have marked := Store.run_of_runIn candidate
        rw [same, show s.store.run b = .rejected from h] at marked
        cases marked
      refine Eq.trans ?_ put
      unfold Store.run
      rw [runA, runB]
  rcases cases with e | e | e | e <;> rw [e]
  · exact kept.refuse 6
  · exact kept.refuse 7
  · exact kept.refuse 5
  · exact kept

theorem RunRejected.toOutOfService (h : RunRejected b s) (reason : Nat) : RunRejected b (s.toOutOfService reason) :=
  h.of_records ((State.enterMode_records _ _).trans ((State.commit_records _ _).trans (State.setRst_records _ _)))

theorem RunRejected.toRecovery (h : RunRejected b s) (reason : Nat) : RunRejected b (s.toRecovery reason) :=
  h.of_records ((State.enterMode_records _ _).trans ((State.odSet_records _ _ _ _).trans (State.setRst_records _ _)))

@[simp] theorem State.trainFail_records (s : State) (n step : Nat) : (s.trainFail n step).records = s.records := by
  unfold State.trainFail State.checkComplement
  dsimp only
  rw [State.commit_records, State.failRecord_records, State.foretell_records, State.force_records]
  have failed := State.updSub_records s n (fun u => { u with role := .failedTraining })
  generalize s.updSub n (fun u => { u with role := .failedTraining }) = v at failed ⊢
  split
  · rw [State.ringSwap_records, State.updSub_records, failed]
  · rw [records_ite, show ∀ x : List Nat × List Nat, (v.setRotation x).records = v.records from fun _ => rfl, ite_self, failed]

theorem State.train_records (s : State) (r : StartReport) (hard : Bool) : (s.train r hard).records = s.records := by
  unfold State.train
  dsimp only
  rw [records_foldl (fun u n => State.odSet_records u _ _ _), records_foldl (fun u x => State.updSub_records u _ _),
    records_foldl (fun u x => State.trainFail_records u _ _), records_ite, State.hardRepair_records, ite_self]

theorem RunRejected.afterTrain (h : RunRejected b s) (r : StartReport) : RunRejected b (s.afterTrain r) := by
  have started : RunRejected b s.startKernels := h.of_records (State.startKernels_records _)
  unfold State.afterTrain
  generalize s.startKernels = u at started ⊢
  exact .ite (started.toOutOfService _) (.ite (started.toOutOfService _) (.ite (started.toOutOfService _)
    (started.loadRuntime _)))

theorem RunRejected.tried (h : RunRejected b s) (since : Nat) : RunRejected b (s.setRst { s.rst with trialSince := since }) := h

theorem RunRejected.trainAndLoad (h : RunRejected b s) (r : StartReport) (hard : Bool) :
    RunRejected b (s.trainAndLoad r hard) := by
  have trained : RunRejected b ((s.enterMode .train).train r hard) :=
    h.of_records ((State.train_records _ _ _).trans (State.enterMode_records _ _))
  unfold State.trainAndLoad
  exact .ite (trained.afterTrain r) (trained.tried _)

theorem RunRejected.warmStart (h : RunRejected b s) (cause : Nat) (r : StartReport) : RunRejected b (s.warmStart cause r) := by
  have taken : RunRejected b (s.warmTaken cause r) := h.of_records (s.warmTaken_records cause r)
  have lost : RunRejected b ((s.warmTaken cause r).lose .warm) := (State.lose_run _ _ _).trans taken
  rw [State.warmStart_eq]
  have failed : RunRejected b ((((s.warmTaken cause r).lose .warm).enterMode .boot).failProbation 0x22) :=
    .failProbation (lost.of_records (State.enterMode_records _ _)) _
  unfold State.warmBoot
  dsimp only
  generalize (((s.warmTaken cause r).lose .warm).enterMode .boot).failProbation 0x22 = u at failed ⊢
  exact .ite (failed.failTrial.toRecovery _) (.ite (failed.toRecovery _) (failed.trainAndLoad _ _))

end

/-! ### The watchdog and the pre-reset sample (R577, R581, R584) -/

section
variable {s : State}

theorem State.takeSample_rst (s : State) (cause : Nat) :
    (s.takeSample cause).rst = { s.rst with sampleNo := s.rst.sampleNo + 1 } := by
  unfold State.takeSample
  dsimp only
  generalize settled : (ite (decide (s.odGet 0x2004 0x0C = 0) = true) _ _ : State) = u
  have kept : u.rst = s.rst := by
    rw [← settled]
    exact keeps_rst (w := notRst) (mask_ite_eq rfl ((State.account_mask (hw := rfl) ..).trans
      (mask_foldl _ (fun v n => State.settleSpad_mask (hw := rfl) ..) _ _)))
  rw [← kept]
  rfl

theorem State.prepare_rst (s : State) (cause : Nat) : (s.prepare cause).rst = { s.rst with sampleNo := s.rst.sampleNo + 1 } := by
  unfold State.prepare
  rw [State.takeSample_rst, keeps_rst (w := notRst) (State.abortGroups_mask s 3 (fun _ => true) (by decide))]

/-- Where none was taken, the sample is taken and the time is noted. -/
theorem State.prepareOnce_rst (untaken : s.rst.prepared = none) :
    s.prepareOnce.rst = { s.rst with sampleNo := s.rst.sampleNo + 1, prepared := some s.now } := by
  have time : (s.prepare 6).now = s.now :=
    congrArg (fun x : Time => x.base.toNat / 2 ^ 32) (keeps_time (w := allBut .time) (State.prepare_mask _ _ (by decide)))
  have rst := s.prepare_rst 6
  unfold State.prepareOnce
  rw [untaken]
  generalize s.prepare 6 = u at time rst ⊢
  show { u.rst with prepared := some u.now } = _
  rw [rst, time]

theorem State.prepareOnce_of_prepared (prepared : s.rst.prepared ≠ none) : s.prepareOnce = s :=
  if_pos (Option.isSome_iff_ne_none.mpr prepared)

theorem State.heartbeatCheck_of_running (runs : s.mode = .ready ∨ s.mode = .serving ∨ s.mode = .draining) :
    s.heartbeatCheck = if s.odGet 0x2000 8 ≠ s.rst.beat then
        s.setRst { s.rst with beat := s.odGet 0x2000 8, beatSince := s.now }
      else if s.rst.beatSince + 2 * second ≤ s.now then s.prepareOnce.orderWarm 6 else s := by
  unfold State.heartbeatCheck
  rcases runs with mode | mode | mode <;> rw [mode]

theorem State.heartbeatCheck_of_early (still : s.odGet 0x2000 8 = s.rst.beat) (early : s.now < s.rst.beatSince + 500000000) :
    s.heartbeatCheck = s := by
  unfold State.heartbeatCheck
  split
  · dsimp only
    rw [if_neg (not_not_intro still)]
    exact if_neg (Nat.not_le.mpr (show s.now < s.rst.beatSince + 2 * second from early))
  · dsimp only
    rw [if_neg (not_not_intro still)]
    exact if_neg (Nat.not_le.mpr (show s.now < s.rst.beatSince + 2 * second from early))
  · dsimp only
    rw [if_neg (not_not_intro still)]
    exact if_neg (Nat.not_le.mpr (show s.now < s.rst.beatSince + 2 * second from early))
  · rfl

theorem State.orderWarm_of_running {cause : Nat} (runs : s.mode = .ready ∨ s.mode = .serving ∨ s.mode = .draining)
    (due : s.rst.due = none) (running : s.rst.running = none) :
    s.orderWarm cause = s.setRst { s.rst with due := some cause } := by
  unfold State.orderWarm
  rcases runs with mode | mode | mode <;> rw [mode, due, running] <;> rfl

/-- A heartbeat that stands still for 2 s: the sample is taken and a WARM reset ordered. -/
theorem State.heartbeatCheck_of_late (runs : s.mode = .ready ∨ s.mode = .serving ∨ s.mode = .draining)
    (still : s.odGet 0x2000 8 = s.rst.beat) (late : s.rst.beatSince + 500000000 ≤ s.now) (untaken : s.rst.prepared = none)
    (due : s.rst.due = none) (running : s.rst.running = none) :
    s.heartbeatCheck.rst.due = some 6 ∧ s.heartbeatCheck.rst.prepared = some s.now ∧
      s.heartbeatCheck.rst.sampleNo = s.rst.sampleNo + 1 := by
  have rst := State.prepareOnce_rst untaken
  have mode : s.prepareOnce.mode = s.mode := keeps_mode (w := allBut .mode) (State.prepareOnce_mask _ (by decide))
  rw [State.heartbeatCheck_of_running runs, if_neg (not_not_intro still),
    if_pos (show s.rst.beatSince + 2 * second ≤ s.now from late)]
  generalize s.prepareOnce = u at rst mode ⊢
  rw [State.orderWarm_of_running (by rw [mode]; exact runs) (by rw [rst]; exact due) (by rw [rst]; exact running)]
  show some 6 = some 6 ∧ u.rst.prepared = some s.now ∧ u.rst.sampleNo = s.rst.sampleNo + 1
  rw [rst]
  exact ⟨rfl, rfl, rfl⟩

theorem exec_prepareWarm_of_received {u : State} {m : MbxSrc} {x : MbxIn} (received : s.receive m 0x31 = (some x, u)) :
    exec (.prepareWarm m) s = .next (u.prepareOnce.answer x 0 []) := by
  show execPrepareWarm m s = _
  unfold execPrepareWarm
  rw [received]

theorem State.receive_only {u : State} {m : MbxSrc} {x : MbxIn} {t : Nat} (received : s.receive m t = (some x, u)) :
    Only [.free, .idle, .queues, .dram, .upsets, .ecc, .tlb, .modMem, .fw, .ev, .od] s u := by
  have frame := State.receive_mask s m t (m0 := maskOf [.free, .idle, .queues, .dram, .upsets, .ecc, .tlb, .modMem, .fw, .ev, .od])
    (by decide)
  rw [received] at frame
  exact frame

end

/-! ### When a reset is taken (R573, R583, R584, R591) -/

section
variable {s : State} {r : StartReport}

theorem State.warmReset_of_ok {cause : Nat} (ok : s.warmOk = true)
    (named : s.rst.due.isSome = true ∨ cause = 4 ∨ cause = 6 ∨ cause = 7) : ∃ u : State,
    s.warmReset cause r = u.warmStart cause r ∧ u.time = s.time ∧ u.mode = s.mode := by
  have acts : (s.warmOk && (s.rst.due.isSome || decide (cause = 4) || decide (cause = 6) || decide (cause = 7))) = true := by
    simp only [ok, Bool.true_and, Bool.or_eq_true, decide_eq_true_eq]
    tauto
  refine ⟨_, if_pos acts, ?_, ?_⟩
  · exact keeps_time (w := allBut .time) (mask_ite_eq (State.raiseEast_mask _ _ _ (by decide)) rfl)
  · exact keeps_mode (w := allBut .mode) (mask_ite_eq (State.raiseEast_mask _ _ _ (by decide)) rfl)

theorem State.warmReset_of_refused {cause : Nat}
    (refused : s.warmOk = false ∨ (s.rst.due = none ∧ cause ≠ 4 ∧ cause ≠ 6 ∧ cause ≠ 7)) : s.warmReset cause r = s := by
  refine if_neg ?_
  rcases refused with not | ⟨due, h4, h6, h7⟩
  · rw [not]
    exact Bool.false_ne_true
  · simp only [due, h4, h6, h7, Option.isSome_none, decide_false, Bool.or_self, Bool.and_false, Bool.false_eq_true,
      not_false_eq_true]

theorem State.loadOverrun_of_late (mode : s.mode = .awaitRuntime) (late : s.rst.awaitSince + 2500000000 ≤ s.now)
    (ok : s.warmOk = true) :
    s.loadOverrun r = ((s.setRst { s.rst with running := none }).failProbation 0x24).warmStart 9 r := by
  refine if_pos ?_
  rw [decide_eq_true mode, decide_eq_true (show s.rst.awaitSince + 10 * second ≤ s.now from late), ok]
  rfl

theorem State.loadOverrun_of_not_late (not : s.mode ≠ .awaitRuntime ∨ s.now < s.rst.awaitSince + 2500000000) :
    s.loadOverrun r = s := by
  refine if_neg fun due => ?_
  simp only [Bool.and_eq_true, decide_eq_true_eq] at due
  obtain ⟨⟨mode, passed⟩, -⟩ := due
  rcases not with other | early
  · exact other mode
  · exact Nat.not_le.mpr (show s.now < s.rst.awaitSince + 10 * second from early) passed

theorem State.prepareTimeout_of_late {t0 : Nat} (prepared : s.rst.prepared = some t0) (late : t0 + 250000000 ≤ s.now)
    (ok : s.warmOk = true) : s.prepareTimeout r = s.warmStart 6 r := by
  unfold State.prepareTimeout
  rw [prepared]
  refine if_pos ?_
  rw [decide_eq_true (show t0 + second ≤ s.now from late), ok]
  rfl

theorem State.prepareTimeout_of_not_late
    (not : s.rst.prepared = none ∨ ∃ t0 : Nat, s.rst.prepared = some t0 ∧ s.now < t0 + 250000000) : s.prepareTimeout r = s := by
  unfold State.prepareTimeout
  rcases not with none | ⟨t0, prepared, early⟩
  · rw [none]
  · rw [prepared]
    refine if_neg ?_
    rw [decide_eq_false (Nat.not_le.mpr (show s.now < t0 + second from early))]
    exact Bool.false_ne_true

theorem State.returnToService_of_out (mode : s.mode = .outOfService) (ok : s.modOk = true) :
    s.returnToService r = ((s.setRst { s.rst with
      oos := false, oosReason := 0, history := s.rst.history.map (fun h => { h with cleared := true }) }).commit [4]).modStart 5 r := by
  refine if_pos ?_
  rw [decide_eq_true mode, ok]
  rfl

end

/-- The fields that a MOD reset may change. -/
def modFields : List Field :=
  [.free, .out, .time, .tray, .mode, .idle, .entry, .wakeHeld, .westPrimary, .noBoot, .rst, .cores, .queues, .queueZero,
    .sems, .semWait, .dram, .upsets, .spadUpsets, .ecc, .modKey, .rotation, .migr, .migrQueue, .pageMaps, .tlb, .kvMaps,
    .kvTlb, .kvDirty, .shared, .modMem, .parts, .park, .sess, .emitted, .grammars, .adapters, .adapterLast, .video, .fw,
    .ryc, .net, .ev, .rel, .sec, .pow, .store, .od, .d2dFails]

/-- The fields that a WARM reset may change. -/
def warmFields : List Field :=
  [.free, .out, .time, .mode, .idle, .entry, .wakeHeld, .rst, .cores, .queues, .queueZero, .sems, .semWait, .dram, .upsets,
    .spadUpsets, .ecc, .modKey, .rotation, .migr, .migrQueue, .pageMaps, .tlb, .kvMaps, .kvTlb, .kvDirty, .shared, .modMem,
    .parts, .park, .sess, .emitted, .grammars, .adapters, .adapterLast, .video, .fw, .ryc, .net, .ev, .rel, .sec, .pow,
    .store, .od, .d2dFails]

/-- Settles O59: a MOD start by `State.modStart_leaves`, a WARM start by `State.warmStart_leaves` and
`RunRejected.warmStart`, the watchdog by `State.heartbeatCheck_of_late`, and each refusal by its equation. -/
theorem moduleResets : Obligations.ModuleResets := by
  unfold Obligations.ModuleResets
  refine ⟨fun s r ok => ?_, fun s r not => ?_, fun s cause r ok named => ?_,
    fun s cause r refused => congrArg _ (State.warmReset_of_refused refused), fun s r mode late ok => ?_,
    fun s r not => congrArg _ (State.loadOverrun_of_not_late not), fun s runs moved => ?_,
    fun s runs still late none due running => ?_,
    fun s still early => congrArg _ (State.heartbeatCheck_of_early still early), fun s u m x received none => ?_,
    fun s u m x received prepared => ?_, fun s r t0 prepared late ok => ?_,
    fun s r not => congrArg _ (State.prepareTimeout_of_not_late not), fun s r mode ok => ?_, fun s r mode => ?_⟩
  · have ran : s.modReset r = s.modStart 4 r := if_pos ok
    have frame := State.modReset_mask s r (m0 := maskOf modFields) (by decide)
    obtain ⟨parts, sess, maps, grammars, time⟩ := s.modStart_leaves 4 r
    obtain ⟨-, -, -, -, -, mode, last⟩ := s.modTake_leaves 4
    rw [ran] at frame
    exact ⟨_, congrArg Host.Outcome.next ran, parts, sess, maps, grammars, time, rfl, mode, last, frame⟩
  · exact congrArg Host.Outcome.next (if_neg (Bool.eq_false_iff.mp not))
  · have frame := State.warmReset_mask s cause r (m0 := maskOf warmFields) (by decide)
    obtain ⟨u, ran, sameTime, sameMode⟩ := State.warmReset_of_ok (r := r) ok named
    obtain ⟨parts, sess, maps, grammars, time, due, prepared, -⟩ := u.warmStart_leaves cause r
    rw [ran] at frame
    rw [sameTime, sameMode] at time
    exact ⟨_, congrArg Host.Outcome.next ran, parts, sess, maps, grammars, time, due, prepared, frame⟩
  · have ran := State.loadOverrun_of_late (r := r) mode late ok
    have frame := State.loadOverrun_mask s r (m0 := maskOf warmFields) (by decide)
    have rejects (b : Bool) (slot : s.store.runIn .probation = some b) :
        RunRejected b ((s.setRst { s.rst with running := none }).failProbation 0x24) :=
      State.failProbation_rejects (s := s.setRst { s.rst with running := none }) _ slot
    have failed : Only [.rel, .store, .od, .rst] s ((s.setRst { s.rst with running := none }).failProbation 0x24) :=
      (State.failProbation_mask _ _ (by decide)).trans (setRst_mask _ _ (by decide))
    rw [ran] at frame
    generalize (s.setRst { s.rst with running := none }).failProbation 0x24 = u at ran frame rejects failed
    obtain ⟨parts, sess, maps, grammars, time, -⟩ := u.warmStart_leaves 9 r
    rw [keeps_time failed, keeps_mode failed, mode] at time
    exact ⟨_, congrArg Host.Outcome.next ran, parts, sess, time.trans (by rw [decide_eq_false (by decide), Bool.and_false]),
      fun b slot => (rejects b slot).warmStart 9 r, frame⟩
  · exact congrArg Host.Outcome.next ((State.heartbeatCheck_of_running runs).trans (if_pos moved))
  · obtain ⟨dueT, preparedT, no⟩ := State.heartbeatCheck_of_late runs still late none due running
    exact ⟨_, rfl, dueT, preparedT, no, keeps_mode (w := allBut .mode) (State.heartbeatCheck_mask _ (by decide)),
      State.heartbeatCheck_mask _ (by decide)⟩
  · have arrived := State.receive_only received
    have rst := State.prepareOnce_rst none
    have answered : Only [.free, .queues, .dram, .upsets, .ecc, .tlb, .modMem, .fw, .ev, .od] u.prepareOnce
        (u.prepareOnce.answer x 0 []) := State.answer_mask _ _ _ _ (by decide)
    have now : u.now = s.now := congrArg (fun x : Time => x.base.toNat / 2 ^ 32) (keeps_time arrived)
    have once : Only [.free, .out, .rst, .cores, .queues, .dram, .upsets, .spadUpsets, .ecc, .migr, .migrQueue, .pageMaps, .tlb,
      .modMem, .parts, .park, .fw, .ev, .rel, .store, .od] u u.prepareOnce := State.prepareOnce_mask _ (by decide)
    refine ⟨_, exec_prepareWarm_of_received received, ?_, ?_, ?_, ?_⟩
    · rw [keeps_rst answered, rst, now]
    · rw [keeps_rst answered, rst, keeps_rst arrived]
    · rw [keeps_mode answered, keeps_mode once, keeps_mode arrived]
    · exact (mask_mono (by decide) answered).trans ((mask_mono (by decide) once).trans (mask_mono (by decide) arrived))
  · rw [exec_prepareWarm_of_received received, State.prepareOnce_of_prepared prepared]
  · have ran := State.prepareTimeout_of_late (r := r) prepared late ok
    have frame := State.prepareTimeout_mask s r (m0 := maskOf warmFields) (by decide)
    obtain ⟨parts, sess, maps, grammars, time, due, preparedT, no⟩ := s.warmStart_leaves 6 r
    rw [State.warmTaken_sampleNo 6 r (by rw [prepared]; rfl)] at no
    rw [ran] at frame
    exact ⟨_, congrArg Host.Outcome.next ran, parts, sess, preparedT, time, no, frame⟩
  · have ran := State.returnToService_of_out (r := r) mode ok
    have frame := State.returnToService_mask s r (m0 := maskOf modFields) (by decide)
    rw [ran] at frame
    generalize cleared : State.commit (s.setRst _) [4] = u at ran frame
    have sameTime : u.time = s.time := by
      rw [← cleared]
      exact (keeps_time (w := allBut .time) (State.commit_mask _ _ (by decide))).trans rfl
    obtain ⟨parts, sess, -, -, time⟩ := u.modStart_leaves 5 r
    rw [sameTime] at time
    exact ⟨_, congrArg Host.Outcome.next ran, parts, sess, time, cleared ▸ rfl, frame⟩
  · exact congrArg Host.Outcome.next (if_neg (by rw [decide_eq_false mode]; exact Bool.false_ne_true))

end Sys2Proof.Machine
end

section
/-!
Bundle slots (R477–R482): the statement O50. The pages that a pass reads and a report poisons leave the slots, by
`State.records`; what poisons a page does not read what a failure record writes.
-/
namespace Sys2Proof.Machine

set_option Elab.async false
open Sys2Proof

/-! ### Poisoning reads nothing that a record writes -/

/-- The fields that a failure record writes. -/
def recordMask : Nat := maskOf [.park, .fw, .rel, .store, .od]

theorem State.setLineIn_recordMask (s : State) (n line : Nat) (m : Mem) :
    (s.mask recordMask).setLineIn n line m = (s.setLineIn n line m).mask recordMask := by
  unfold State.setLineIn
  split <;> rfl

theorem State.setEcc_recordMask (s : State) (x : EccReport) :
    (s.mask recordMask).setEcc ((s.mask recordMask).ecc ++ [x]) = (s.setEcc (s.ecc ++ [x])).mask recordMask := rfl

theorem State.settleLine_recordMask (s : State) (n line e : Nat) :
    (s.mask recordMask).settleLine n line e = (s.settleLine n line e).mask recordMask := by
  have taken : (s.mask recordMask).setUpsets ((s.mask recordMask).upsets.del (upsetKey n line))
      = (s.setUpsets (s.upsets.del (upsetKey n line))).mask recordMask := rfl
  unfold State.settleLine
  dsimp only
  rw [taken]
  generalize s.setUpsets (s.upsets.del (upsetKey n line)) = u
  have found : (u.mask recordMask).lineIn n line = u.lineIn n line := rfl
  rw [found]
  cases u.lineIn n line with
  | none => rfl
  | some ml =>
    dsimp only
    generalize rsRead _ = found
    have plain (bytes : List Byte) (delta : Nat) : (u.mask recordMask).garbled n line bytes delta = u.garbled n line bytes delta := rfl
    rw [plain, State.setLineIn_recordMask]
    generalize u.setLineIn n line _ = v
    cases found.1 with
    | corrected => exact v.setEcc_recordMask _
    | poisonCorrected => exact v.setEcc_recordMask _
    | uncorrectable => exact v.setEcc_recordMask _
    | clean => rfl
    | poisoned => rfl

theorem State.settleWhere_recordMask (s : State) (n : Nat) (p : Nat → Bool) :
    (s.mask recordMask).settleWhere n p = (s.settleWhere n p).mask recordMask := by
  have struck : (s.mask recordMask).upsets = s.upsets := rfl
  unfold State.settleWhere
  rw [struck]
  generalize s.upsets.only (fun k _ => decide (k / 2 ^ 27 = n) && p (k % 2 ^ 27)) = xs
  induction xs generalizing s with
  | nil => rfl
  | cons x xs ih =>
    rw [List.foldl_cons, List.foldl_cons, State.settleLine_recordMask]
    exact ih _ rfl

theorem State.poisonPage_recordMask (s : State) (e : Nat) :
    (s.mask recordMask).poisonPage e = (s.poisonPage e).mask recordMask := by
  have struck : (s.mask recordMask).upsets = s.upsets := rfl
  have written : (s.mask recordMask).settleWrite (peSub e) (65536 * peUnit e) (storedBytes e)
      = (s.settleWrite (peSub e) (65536 * peUnit e) (storedBytes e)).mask recordMask := by
    unfold State.settleWrite
    rw [State.settleWhere_recordMask]
    rfl
  unfold State.poisonPage
  rw [struck, written]
  split <;> rfl

/-- Pages are poisoned alike in two states that differ in what a record writes. -/
theorem poisoned_alike {s t : State} (h : t.mask recordMask = s.mask recordMask) (es : List Nat) :
    (es.foldl (fun s e => s.poisonPage e) t).dram = (es.foldl (fun s e => s.poisonPage e) s).dram := by
  have masked (u : State) : (es.foldl (fun s e => s.poisonPage e) u).mask recordMask
      = es.foldl (fun s e => s.poisonPage e) (u.mask recordMask) := by
    induction es generalizing u with
    | nil => rfl
    | cons e es ih => rw [List.foldl_cons, List.foldl_cons, ih, State.poisonPage_recordMask]
  have same := (masked t).trans ((congrArg (fun u => es.foldl (fun s e => s.poisonPage e) u) h).trans (masked s).symm)
  exact keeps_dram same

/-! ### The slots (R477–R482) -/

theorem State.bundle_of_records {s t : State} (h : t.records = s.records) (b : Nat) : t.bundle b = s.bundle b :=
  congrArg (fun r : Store × AMap Bundle => r.2.find b) h

theorem State.bundle_putBundle (s : State) (b c : Nat) (x : Bundle) :
    (s.putBundle b x).bundle c = if b = c then some x else s.bundle c :=
  AMap.find_put _ _ _ _

section
variable {s : State} {b : Nat} {x : Bundle}

theorem State.digestPages_only (s : State) (p : Nat) (es : List Nat) :
    Only [.free, .queues, .dram, .upsets, .ecc, .tlb, .modMem, .fw, .ev, .od] s (s.digestPages p es).2 :=
  State.digestPages_mask _ _ _ (by decide)

theorem State.register_of_ok {u : State} {r : BundleReg} {ds : List Nat} (ok : s.registerOk r = true)
    (read : s.digestPages r.part.toNat ((r.pages.map BitVec.toNat).map (s.pageEntry r.part.toNat)) = (ds, u)) :
    s.register r = u.account.putBundle r.slot.toNat {
      part := r.part, digest := r.digest, pages := r.pages.map BitVec.toNat, loadPages := ds, load := residentDigest ds
      lastPages := [], last := 0, lastPass := 0, lastGood := s.now, since := s.now } := by
  have time : u.now = s.now := by
    have only := s.digestPages_only r.part.toNat ((r.pages.map BitVec.toNat).map (s.pageEntry r.part.toNat))
    rw [read] at only
    exact congrArg (fun x : Time => x.base.toNat / 2 ^ 32) (keeps_time only)
  unfold State.register
  rw [if_pos ok]
  dsimp only
  rw [read]
  dsimp only
  rw [time]

theorem State.passStart_of_slot (slot : s.bundle b = some x) (ordered : Bool) : s.passStart b ordered =
    if x.running || !s.diesOn then s
    else if ordered then (s.putBundle b { x with running := true }).odSet (0x2710 + b) 0x0B 1
    else if x.since + second * s.odGet 0x2700 5 ≤ s.now then s.putBundle b { x with running := true } else s := by
  unfold State.passStart
  rw [slot]

theorem State.passStart_of_empty (on : s.diesOn = true) (empty : s.bundle b = none) :
    s.passStart b true = s.odSet (0x2710 + b) 0x0B 3 := by
  unfold State.passStart
  rw [empty]
  exact if_pos on

theorem State.reportReplica_of_empty (v : Nat) (on : s.diesOn = true) (empty : s.bundle b = none) :
    s.reportReplica b v = s.odSet (0x2710 + b) 0x0C 3 := by
  unfold State.reportReplica
  rw [empty]
  exact if_pos on

/-! ### Passes (R479, R480) -/

theorem State.pageMismatch_records (s : State) (b page e expected found : Nat) (x : Bundle) :
    (s.pageMismatch b page e expected found x).records = s.records := by
  unfold State.pageMismatch
  simp [records_ite]

theorem State.passPage_records (s : State) (b page expected : Nat) (x : Bundle) :
    (s.passPage b page expected x).2.2.records = s.records := by
  have read := records_of_mask (State.digestPage_mask s x.part.toNat (s.pageEntry x.part.toNat page) (m0 := notRecords) (by decide))
  unfold State.passPage
  dsimp only
  split
  · rfl
  · generalize s.digestPage x.part.toNat (s.pageEntry x.part.toNat page) = z at read ⊢
    obtain ⟨d, bad, u⟩ := z
    dsimp only at read ⊢
    split
    · exact (State.pageMismatch_records _ _ _ _ _ _ _).trans read
    · exact read

theorem State.passPages_records (s : State) (b : Nat) (x : Bundle) (pages : List (Nat × Nat)) :
    (s.passPages b x pages).2.2.records = s.records := by
  induction pages generalizing s with
  | nil => rfl
  | cons p pages ih =>
    obtain ⟨page, expected⟩ := p
    exact (ih _).trans (s.passPage_records b page expected x)

/-- What the end of a pass leaves in the slots. -/
theorem State.passEnd_of_running {u : State} {ds : List Nat} {n : Nat} (on : s.diesOn = true) (slot : s.bundle b = some x)
    (running : x.running = true) (read : s.passPages b x (x.pages.zip x.loadPages) = (ds, n, u)) (c : Nat) :
    (s.passEnd b).bundle c = if b = c then some { x with
        running := false, lastPages := ds, last := residentDigest ds, lastPass := s.now, since := s.now
        lastGood := if n = 0 then s.now else x.lastGood, verdict := if n = 0 then 1 else 2, mismatched := x.mismatched + n }
      else s.bundle c := by
  have kept := s.passPages_records b x (x.pages.zip x.loadPages)
  have time := keeps_time (w := allBut .time) (State.passPages_mask s b x (x.pages.zip x.loadPages) (by decide))
  rw [read] at kept time
  have now : u.now = s.now := congrArg (fun x : Time => x.base.toNat / 2 ^ 32) time
  have acts : (x.running && s.diesOn) = true := by rw [running, on]; rfl
  unfold State.passEnd
  rw [slot]
  dsimp only
  rw [if_pos acts, read]
  dsimp only
  rw [now]
  have placed (y : Bundle) : (u.account.putBundle b y).bundle c = if b = c then some y else s.bundle c := by
    rw [State.bundle_putBundle, State.bundle_of_records ((State.account_records u).trans kept)]
  generalize hy : State.putBundle u.account b _ = v
  have value := placed { x with
    running := false, lastPages := ds, last := residentDigest ds, lastPass := s.now, since := s.now
    lastGood := if n = 0 then s.now else x.lastGood, verdict := if n = 0 then 1 else 2, mismatched := x.mismatched + n }
  rw [hy] at value
  split
  · exact value
  · exact value

/-! ### Replica reports (R481) -/

/-- The pages of a slot that a report may poison. -/
def State.reportedPages (s : State) (x : Bundle) : List Nat :=
  (x.pages.map (s.pageEntry x.part.toNat)).filter (fun e =>
    peValid e && decide (pePart e = x.part.toNat) && decide (peSub e < 68) && peExtentOk e)

theorem State.reportReplica_of_slot (v : Nat) (on : s.diesOn = true) (slot : s.bundle b = some x) : ∃ u : State,
    s.reportReplica b v = ((if v = 2 then (s.reportedPages x).foldl (fun s e => s.poisonPage e) u else u).putBundle b
      { x with verdict := 3, mismatched := x.mismatched + (if v = 2 then (s.reportedPages x).length else 0) }).odSet (0x2710 + b) 0x0C 2 ∧
    u.records = s.records ∧ u.mask recordMask = s.mask recordMask := by
  refine ⟨s.failRecord 0 0x0B 0 0 (some x.part.toNat) 0 [(0, .num b), (1, .num v)], ?_, State.failRecord_records _ _ _ _ _ _ _ _,
    State.failRecord_mask _ _ _ _ _ _ _ _ (by decide)⟩
  have recorded : Only [.park, .fw, .rel, .store, .od] s (s.failRecord 0 0x0B 0 0 (some x.part.toNat) 0 [(0, .num b), (1, .num v)]) :=
    State.failRecord_mask _ _ _ _ _ _ _ _ (by decide)
  have maps := keeps_pageMaps recorded
  unfold State.reportReplica State.reportedPages
  rw [slot]
  dsimp only
  rw [on]
  generalize s.failRecord 0 0x0B 0 0 (some x.part.toNat) 0 [(0, .num b), (1, .num v)] = u at maps ⊢
  have entries : u.pageEntry x.part.toNat = s.pageEntry x.part.toNat := by
    funext page
    unfold State.pageEntry
    rw [maps]
  rw [entries]
  rfl

/-- The slots after a report of a slot's replica. -/
theorem State.reportReplica_bundle (v : Nat) (on : s.diesOn = true) (slot : s.bundle b = some x) (c : Nat) :
    (s.reportReplica b v).bundle c = if b = c then some { x with
        verdict := 3, mismatched := x.mismatched + (if v = 2 then (s.reportedPages x).length else 0) } else s.bundle c := by
  obtain ⟨u, ran, kept, -⟩ := State.reportReplica_of_slot v on slot
  have poisoned : (if v = 2 then (s.reportedPages x).foldl (fun s e => s.poisonPage e) u else u).records = s.records := by
    rw [records_ite, records_foldl (fun w e => State.poisonPage_records w e), ite_self, kept]
  rw [ran]
  generalize (if v = 2 then (s.reportedPages x).foldl (fun s e => s.poisonPage e) u else u) = w at poisoned ⊢
  refine Eq.trans (b := (w.putBundle b _).bundle c) rfl ?_
  rw [State.bundle_putBundle, State.bundle_of_records poisoned]

theorem State.reportReplica_dram (v : Nat) (on : s.diesOn = true) (slot : s.bundle b = some x) :
    (s.reportReplica b v).dram = (if v = 2 then (s.reportedPages x).foldl (fun s e => s.poisonPage e) s else s).dram := by
  obtain ⟨u, ran, -, recorded⟩ := State.reportReplica_of_slot v on slot
  have poisoned : (if v = 2 then (s.reportedPages x).foldl (fun s e => s.poisonPage e) u else u).dram
      = (if v = 2 then (s.reportedPages x).foldl (fun s e => s.poisonPage e) s else s).dram := by
    split
    · exact poisoned_alike recorded _
    · exact keeps_dram recorded
  rw [ran, ← poisoned]
  rfl

end

/-- Settles O50: registrations and passes by the equations of their cases, the slots after a pass by
`State.passEnd_of_running`, and a replica report by `State.reportReplica_bundle` and `State.reportReplica_dram`. -/
theorem weightDigests : Obligations.WeightDigests := by
  unfold Obligations.WeightDigests
  refine ⟨fun s u r ds ok read => congrArg _ (State.register_of_ok ok read),
    fun s r refused => congrArg Host.Outcome.next (if_neg (Bool.eq_false_iff.mp refused)),
    fun s b up => congrArg Host.Outcome.next (if_pos up), fun s b x on slot idle due => ?_, fun s b x slot early => ?_,
    fun s b x on slot idle => ?_, fun s b on empty => ⟨congrArg _ (State.passStart_of_empty on empty),
      congrArg _ (State.reportReplica_of_empty 1 on empty), congrArg _ (State.reportReplica_of_empty 2 on empty)⟩,
    fun s u b x ds n on slot running read => ?_, fun s b x on slot => ?_, fun s b x on slot => ?_⟩
  · refine congrArg Host.Outcome.next ((State.passStart_of_slot slot false).trans ?_)
    rw [if_neg (by rw [idle, on]; decide), if_neg Bool.false_ne_true]
    exact if_pos due
  · refine congrArg Host.Outcome.next ((State.passStart_of_slot slot false).trans ?_)
    rw [if_neg Bool.false_ne_true, if_neg (Nat.not_le.mpr (show s.now < x.since + second * s.odGet 0x2700 5 from early)), ite_self]
  · refine congrArg Host.Outcome.next ((State.passStart_of_slot slot true).trans ?_)
    rw [if_neg (by rw [idle, on]; decide)]
    exact if_pos rfl
  · have slots := State.passEnd_of_running on slot running read
    exact ⟨_, rfl, (slots b.toNat).trans (if_pos rfl), fun c other => (slots c).trans (if_neg (Ne.symm other)),
      State.passEnd_mask _ _ (by decide)⟩
  · have slots := State.reportReplica_bundle 1 on slot
    refine ⟨_, rfl, (slots b.toNat).trans (if_pos rfl), State.reportReplica_dram 1 on slot,
      fun c other => (slots c).trans (if_neg (Ne.symm other)), State.reportReplica_mask _ _ _ (by decide)⟩
  · have slots := State.reportReplica_bundle 2 on slot
    have own := (slots b.toNat).trans (if_pos rfl)
    exact ⟨_, rfl, congrArg (Option.map (·.verdict)) own, congrArg (Option.map (·.mismatched)) own,
      State.reportReplica_dram 2 on slot, fun c other => (slots c).trans (if_neg (Ne.symm other)),
      State.reportReplica_mask _ _ _ (by decide)⟩

end Sys2Proof.Machine
end

section
/-!
Port roles (R405, R421–R430): the statement O46. A role changes through `State.setRole` alone; what is sent, recorded and
measured around a change keeps the ports and the flags of the links, which is `LinesKept`.
-/
namespace Sys2Proof.Machine

set_option Elab.async false
open Sys2Proof

/-! ### Traffic keeps the ports and the flags of the links -/

/-- The ports are those of `s`, and no link switches or expires otherwise. -/
def LinesKept (s t : State) : Prop :=
  t.net.ports = s.net.ports ∧ ∀ l : Nat, (t.link l).switching = (s.link l).switching ∧ (t.link l).expired = (s.link l).expired

/-- The mask of every field but the network's. -/
def notNet : Nat := 2 ^ 52 - 1 - 2 ^ Field.net.bit

theorem LinesKept.refl (s : State) : LinesKept s s := ⟨rfl, fun _ => ⟨rfl, rfl⟩⟩

theorem LinesKept.trans {s t u : State} (h : LinesKept s t) (g : LinesKept t u) : LinesKept s u :=
  ⟨g.1.trans h.1, fun l => ⟨(g.2 l).1.trans (h.2 l).1, (g.2 l).2.trans (h.2 l).2⟩⟩

theorem LinesKept.of_net {s t : State} (same : t.net = s.net) : LinesKept s t := by
  unfold LinesKept State.link
  rw [same]
  exact ⟨rfl, fun _ => ⟨rfl, rfl⟩⟩

theorem LinesKept.of_mask {s t : State} (h : t.mask notNet = s.mask notNet) : LinesKept s t := .of_net (keeps_net h)

theorem LinesKept.ite {c : Prop} [Decidable c] {s a b : State} (ha : LinesKept s a) (hb : LinesKept s b) :
    LinesKept s (if c then a else b) := by
  split
  · exact ha
  · exact hb

theorem LinesKept.foldl {α : Type} {g : State → α → State} (h : ∀ u x, LinesKept u (g u x)) (xs : List α) (s : State) :
    LinesKept s (xs.foldl g s) := by
  induction xs generalizing s with
  | nil => exact .refl s
  | cons x xs ih => exact (h s x).trans (ih _)

/-- A link's entry is written with the same flags. -/
theorem LinesKept.putLink (s : State) (l : Nat) {k : Link} (switching : k.switching = (s.link l).switching)
    (expired : k.expired = (s.link l).expired) : LinesKept s (s.putLink l k) := by
  refine ⟨rfl, fun m => ?_⟩
  rw [State.link_putLink]
  split
  · next same =>
    subst same
    exact ⟨switching, expired⟩
  · exact ⟨rfl, rfl⟩

section
variable (s : State)

theorem State.transmit_kept (q d : Nat) (ph : JobPhase) (bs : List Byte) : LinesKept s (s.transmit q d ph bs) := by
  unfold State.transmit
  refine .trans (.trans (.ite (.putLink s _ ?_ ?_) (.refl s)) (.foldl (fun u p => .of_mask (State.sendOn_mask (hw := rfl) ..)) _ _))
    (.of_mask (State.finish_mask (hw := rfl) ..))
  · rfl
  · rfl

theorem State.nettxJob_kept (q d : Nat) (ph : JobPhase) : LinesKept s (s.nettxJob q d ph) := by
  have ended (u : State) (status : Nat) : LinesKept u (u.finish q ph status 0 0) := .of_mask (State.finish_mask (hw := rfl) ..)
  have checked : LinesKept s (s.txCheck q d).2 := .of_mask (State.txCheck_mask (hw := rfl) ..)
  unfold State.nettxJob
  dsimp only
  generalize s.txCheck q d = cu at checked ⊢
  obtain ⟨c, u⟩ := cu
  dsimp only at checked ⊢
  refine .ite (checked.trans (ended u c)) ?_
  have read : LinesKept s (u.mread (dieOfQueue q) (s.queue q).part (txAddr d) (txBytes d)).2 :=
    checked.trans (.of_mask (State.mread_mask (hw := rfl) ..))
  generalize u.mread (dieOfQueue q) (s.queue q).part (txAddr d) (txBytes d) = z at read ⊢
  obtain ⟨_ | bs, v⟩ := z
  · exact read.trans (ended v _)
  · dsimp only at read ⊢
    refine .ite (read.trans (ended v _)) (.ite (read.trans (ended v _)) (.ite read (.ite (.ite (read.trans (ended v _)) (.ite ?_ read)) ?_)))
    · exact read.trans (.of_mask (State.updJob_mask (hw := rfl) ..))
    · exact read.trans (v.transmit_kept _ _ _ _)

theorem State.sendWaiting_kept (l : Nat) : LinesKept s (s.sendWaiting l) :=
  .foldl (fun _ _ => .foldl (fun v _ => v.nettxJob_kept _ _ _) _ _) _ _

theorem State.replay_kept (l old new : Nat) : LinesKept s (s.replay l old new) := by
  unfold State.replay
  refine LinesKept.trans (t := s.putLink l _) (.putLink s l ?_ ?_)
    (.foldl (fun u f => .of_mask (State.sendOn_mask (hw := rfl) ..)) _ _)
  · rfl
  · rfl

theorem State.announcePath_kept (p : Nat) : LinesKept s (s.announcePath p) := .of_mask (State.announcePath_mask (hw := rfl) ..)

end

/-! ### Roles (R405, R421) -/

section
variable {s : State} {p : Nat} {r : PortRole}

theorem State.setRole_of_change (change : (s.port p).role ≠ r) :
    (s.setRole p r).net = (s.putPort p { s.port p with role := r, lastChange := s.now }).net := by
  unfold State.setRole
  rw [if_neg change]
  exact keeps_net (w := notNet) (State.raise_mask (hw := rfl) ..)

theorem State.setRole_of_same (same : (s.port p).role = r) : s.setRole p r = s := if_pos same

/-- The port takes the role and notes the time of a change; nothing else of it changes. -/
theorem State.setRole_port (s : State) (p : Nat) (r : PortRole) :
    ∃ changed : Nat, (s.setRole p r).port p = { s.port p with role := r, lastChange := changed } := by
  by_cases same : (s.port p).role = r
  · rw [State.setRole_of_same same]
    exact ⟨(s.port p).lastChange, by rw [← same]⟩
  · refine ⟨s.now, ?_⟩
    unfold State.port
    rw [State.setRole_of_change same]
    exact State.port_putPort_self s p _

theorem State.setRole_port_other (s : State) (r : PortRole) {k : Nat} (other : k ≠ p) : (s.setRole p r).port k = s.port k := by
  by_cases same : (s.port p).role = r
  · rw [State.setRole_of_same same]
  · unfold State.port
    rw [State.setRole_of_change same]
    exact State.port_putPort_other s _ (Ne.symm other)

theorem State.setRole_link (s : State) (p : Nat) (r : PortRole) (l : Nat) : (s.setRole p r).link l = s.link l := by
  by_cases same : (s.port p).role = r
  · rw [State.setRole_of_same same]
  · unfold State.link
    rw [State.setRole_of_change same]
    rfl

theorem State.makeActive_port (s : State) (p : Nat) : ∃ changed : Nat,
    (s.makeActive p).port p = { s.port p with role := .active, lastChange := changed } := s.setRole_port p .active

theorem State.makeActive_port_other (s : State) {k : Nat} (other : k ≠ p) : (s.makeActive p).port k = s.port k :=
  s.setRole_port_other .active other

theorem State.makeActive_link (s : State) (p : Nat) : ((s.makeActive p).link (linkOfPort p)).expired = false ∧
    ((s.makeActive p).link (linkOfPort p)).switching = (s.link (linkOfPort p)).switching := by
  unfold State.makeActive
  rw [State.link_putLink_self, State.setRole_link]
  exact ⟨rfl, rfl⟩

theorem linkOfPort_of_mem {l b : Nat} (link : l < 3) (member : b ∈ portsOfLink l) : linkOfPort b = l := by
  have cases : l = 0 ∨ l = 1 ∨ l = 2 := by omega
  rcases cases with rfl | rfl | rfl
  · have ports : b = 0 ∨ b = 1 := by simpa [portsOfLink] using member
    rcases ports with rfl | rfl <;> rfl
  · have ports : b = 2 ∨ b = 4 := by simpa [portsOfLink] using member
    rcases ports with rfl | rfl <;> rfl
  · have ports : b = 3 ∨ b = 5 := by simpa [portsOfLink] using member
    rcases ports with rfl | rfl <;> rfl

theorem State.standbyPort_found {l b : Nat} (found : s.standbyPort l = some b) :
    b ∈ portsOfLink l ∧ (s.port b).role = .standby := by
  have holds := List.find?_some found
  rw [Bool.and_eq_true, decide_eq_true_eq] at holds
  exact ⟨List.mem_of_find?_eq_some found, holds.1⟩

/-- The standby port is found among the ports as they are. -/
theorem State.standbyPort_congr {t : State} (l : Nat)
    (same : ∀ k : Nat, t.port k = s.port k ∨ ((t.port k).role ≠ .standby ∧ (s.port k).role ≠ .standby)) :
    t.standbyPort l = s.standbyPort l := by
  unfold State.standbyPort
  congr 1
  funext k
  rcases same k with port | ⟨away, before⟩
  · rw [port]
  · rw [decide_eq_false away, decide_eq_false before, Bool.false_and, Bool.false_and]

/-! ### Failures (R421–R424, R429) -/

theorem State.dropSwitch_ports (s : State) (l : Nat) : (s.dropSwitch l).net.ports = s.net.ports := by
  unfold State.dropSwitch
  split <;> rfl

theorem State.dropSwitch_port (s : State) (l k : Nat) : (s.dropSwitch l).port k = s.port k :=
  congrArg (fun m : AMap Port => m.getD k {}) (s.dropSwitch_ports l)

/-- The fields that a failing port may change. -/
def portFields : List Field :=
  [.free, .out, .queues, .dram, .upsets, .ecc, .tlb, .modMem, .park, .fw, .net, .ev, .rel, .store, .od]

theorem State.portFails_only (s : State) (p trigger : Nat) : Only portFields s (s.portFails p trigger) :=
  State.portFails_mask _ _ _ (by decide)

/-- A failover to a standby port: it takes the active role, and the link neither switches nor expires. -/
theorem State.failover_of_standby {l old b : Nat} (link : l < 3) (found : s.standbyPort l = some b) :
    ((s.failover l old).port b).role = .active ∧ ((s.failover l old).link l).expired = false ∧
      ((s.failover l old).link l).switching = none ∧ ∀ k : Nat, k ≠ b → (s.failover l old).port k = s.port k := by
  have ended : (s.putLink l { s.link l with replaying := false, switching := none }).standbyPort l = some b := found
  have port (k : Nat) : (s.putLink l { s.link l with replaying := false, switching := none }).port k = s.port k := rfl
  have released : ((s.putLink l { s.link l with replaying := false, switching := none }).link l).switching = none := by
    rw [State.link_putLink_self]
  have own : linkOfPort b = l := linkOfPort_of_mem link (State.standbyPort_found found).1
  unfold State.failover
  dsimp only
  rw [ended]
  dsimp only
  generalize s.putLink l { s.link l with replaying := false, switching := none } = u at port released ⊢
  obtain ⟨changed, active⟩ := u.makeActive_port b
  obtain ⟨live, switching⟩ := u.makeActive_link b
  have others (k : Nat) (other : k ≠ b) : (u.makeActive b).port k = u.port k := u.makeActive_port_other other
  rw [own] at live switching
  have sent : LinesKept (u.makeActive b) (if l = 0 then (((u.makeActive b).odInc 0x2600 8 1).announcePath b).sendWaiting l
      else (((u.makeActive b).odInc 0x2600 8 1).announcePath b).replay l old b) := by
    have announced : LinesKept (u.makeActive b) (((u.makeActive b).odInc 0x2600 8 1).announcePath b) :=
      .trans (.of_mask (State.odInc_mask (hw := rfl) ..)) (State.announcePath_kept _ _)
    exact .ite (announced.trans (State.sendWaiting_kept _ _)) (announced.trans (State.replay_kept _ _ _ _))
  generalize (if l = 0 then (((u.makeActive b).odInc 0x2600 8 1).announcePath b).sendWaiting l
      else (((u.makeActive b).odInc 0x2600 8 1).announcePath b).replay l old b) = t at sent ⊢
  have ports (k : Nat) : t.port k = (u.makeActive b).port k := congrArg (fun m : AMap Port => m.getD k {}) sent.1
  refine ⟨?_, ?_, ?_, fun k other => ?_⟩
  · rw [ports, active]
  · rw [(sent.2 l).2, live]
  · rw [(sent.2 l).1, switching, released]
  · rw [ports, others k other, port]

theorem State.failover_of_none {l old : Nat} (alone : s.standbyPort l = none) :
    ((s.failover l old).link l).ring = [] ∧ ∀ k : Nat, (s.failover l old).port k = s.port k := by
  have ended : (s.putLink l { s.link l with replaying := false, switching := none }).standbyPort l = none := alone
  unfold State.failover
  dsimp only
  rw [ended]
  dsimp only
  rw [State.link_putLink_self]
  exact ⟨rfl, fun _ => rfl⟩

/-- A failing port before its link is switched: counted, recorded, and in the role that its failures give. -/
def State.portCounted (s : State) (p trigger : Nat) : State :=
  let fs := s.failuresHour p ++ [s.park.clock]
  let u := (((s.putPort p { s.port p with failures := fs, up := false }).charge 9 p).failRecord (dieOfPort p) 0x12 9 p none 0
    [(0, .num (trigger + 1)), (1, .num (s.port p).verdict)])
  u.setRole p (if 6 ≤ fs.length then .failed else .down)

theorem State.portFails_eq {trigger : Nat} (awake : s.asleep = false) (on : s.mode ≠ .off) (can : triggerOn trigger p = true)
    (runs : (s.port p).role ≠ .failed) : s.portFails p trigger =
      if (s.port p).role = .active then ((s.portCounted p trigger).dropSwitch (linkOfPort p)).failover (linkOfPort p) p
      else if (s.port p).role = .standby then (s.portCounted p trigger).dropSwitch (linkOfPort p) else s.portCounted p trigger := by
  refine if_neg ?_
  simp only [runs, can, on, awake, decide_false, Bool.not_true, Bool.or_self, Bool.false_eq_true, not_false_eq_true]

theorem State.portCounted_port (s : State) (p trigger : Nat) :
    ((s.portCounted p trigger).port p).role = (if 5 ≤ (s.failuresHour p).length then .failed else .down) ∧
      ((s.portCounted p trigger).port p).up = false ∧ ∀ k : Nat, k ≠ p → (s.portCounted p trigger).port k = s.port k := by
  unfold State.portCounted
  dsimp only
  generalize recorded : State.failRecord _ (dieOfPort p) 0x12 9 p none 0 _ = u
  have net : u.net = (s.putPort p { s.port p with failures := s.failuresHour p ++ [s.park.clock], up := false }).net := by
    rw [← recorded]
    exact (keeps_net (w := notNet) (State.failRecord_mask (hw := rfl) ..)).trans
      (keeps_net (w := notNet) (State.charge_mask (hw := rfl) ..))
  have port : (u.port p).up = false := by
    unfold State.port
    rw [net]
    exact congrArg Port.up (State.port_putPort_self s p _)
  have others (k : Nat) (other : k ≠ p) : u.port k = s.port k := by
    unfold State.port
    rw [net]
    exact State.port_putPort_other s _ (Ne.symm other)
  have count : (6 ≤ (s.failuresHour p ++ [s.park.clock]).length) = (5 ≤ (s.failuresHour p).length) := by
    rw [List.length_append, List.length_singleton, propext Nat.succ_le_succ_iff]
  simp only [count]
  obtain ⟨changed, set⟩ := u.setRole_port p (if 5 ≤ (s.failuresHour p).length then .failed else .down)
  refine ⟨by rw [set], by rw [set]; exact port, fun k other => (u.setRole_port_other _ other).trans (others k other)⟩

theorem State.standbyPort_portCounted {trigger l : Nat} (active : (s.port p).role = .active) :
    ((s.portCounted p trigger).dropSwitch l).standbyPort l = s.standbyPort l := by
  obtain ⟨role, -, others⟩ := s.portCounted_port p trigger
  have ports := (s.portCounted p trigger).dropSwitch_port l
  refine State.standbyPort_congr l fun k => ?_
  rw [ports]
  by_cases same : k = p
  · subst same
    rw [role, active]
    refine .inr ⟨?_, by decide⟩
    split <;> decide
  · exact .inl (others k same)

/-! ### Planned switches and returning ports (R425, R428, R430) -/

theorem State.activePort_found {l a : Nat} (found : s.activePort l = some a) : (s.port a).role = .active :=
  of_decide_eq_true (List.find?_some (p := fun p => decide ((s.port p).role = .active)) found)

theorem State.switchDone_of_due {l a b t0 : Nat} (link : l < 3) (switching : (s.link l).switching = some t0)
    (due : t0 + 5000 ≤ s.now) (active : s.activePort l = some a) (standby : s.standbyPort l = some b) :
    ((s.switchDone l).port a).role = .standby ∧ ((s.switchDone l).port b).role = .active ∧
      ((s.switchDone l).link l).switching = none ∧ ∀ k : Nat, k ≠ a → k ≠ b → (s.switchDone l).port k = s.port k := by
  have apart : a ≠ b := by
    rintro rfl
    have role := State.activePort_found active
    rw [(State.standbyPort_found standby).2] at role
    cases role
  have own : linkOfPort b = l := linkOfPort_of_mem link (State.standbyPort_found standby).1
  have port (k : Nat) : (s.putLink l { s.link l with switching := none }).port k = s.port k := rfl
  have still : (s.putLink l { s.link l with switching := none }).activePort l = some a := active
  have released : ((s.putLink l { s.link l with switching := none }).link l).switching = none := by
    rw [State.link_putLink_self]
  unfold State.switchDone
  rw [switching, standby]
  dsimp only
  rw [if_pos (show t0 + 20 * us ≤ s.now from due), still]
  dsimp only
  generalize s.putLink l { s.link l with switching := none } = u at port released ⊢
  obtain ⟨changedA, roleA⟩ := u.setRole_port a .standby
  have othersA (k : Nat) (other : k ≠ a) : (u.setRole a .standby).port k = u.port k := u.setRole_port_other _ other
  have linkA := u.setRole_link a .standby l
  generalize u.setRole a .standby = v at roleA othersA linkA ⊢
  obtain ⟨changedB, roleB⟩ := v.makeActive_port b
  have othersB (k : Nat) (other : k ≠ b) : (v.makeActive b).port k = v.port k := v.makeActive_port_other other
  have linkB := (v.makeActive_link b).2
  rw [own] at linkB
  generalize v.makeActive b = w at roleB othersB linkB ⊢
  have sent : LinesKept w ((((w.odInc 0x2600 8 1).announcePath b).odSet 0x2600 0x0A 2).sendWaiting l) :=
    (LinesKept.of_mask (State.odInc_mask (hw := rfl) ..)).trans ((State.announcePath_kept _ _).trans
      ((LinesKept.of_mask (State.odSet_mask (hw := rfl) ..)).trans (State.sendWaiting_kept _ _)))
  generalize (((w.odInc 0x2600 8 1).announcePath b).odSet 0x2600 0x0A 2).sendWaiting l = t at sent ⊢
  have ports (k : Nat) : t.port k = w.port k := congrArg (fun m : AMap Port => m.getD k {}) sent.1
  refine ⟨?_, ?_, ?_, fun k otherA otherB => ?_⟩
  · rw [ports, othersB a apart, roleA]
  · rw [ports, roleB]
  · rw [(sent.2 l).1, linkB, linkA, released]
  · rw [ports, othersB k otherB, othersA k otherA, port]

/-- A measurement writes the lanes, their verdict and its time. -/
theorem State.diagnose_net (s : State) (p : Nat) (lanes : List LaneReading) : (s.diagnose p lanes).net =
    (s.putPort p { s.port p with lanes := lanes, verdict := verdictOf lanes, diagTime := s.now }).net := by
  unfold State.diagnose
  exact keeps_net (w := notNet) ((State.wearLimitCheck_mask (hw := rfl) ..).trans ((State.measure_mask (hw := rfl) ..).trans
    (mask_ite_eq (State.raise_mask (hw := rfl) ..) rfl)))

theorem State.diagnose_port (s : State) (p : Nat) (lanes : List LaneReading) : (s.diagnose p lanes).port p =
    { s.port p with lanes := lanes, verdict := verdictOf lanes, diagTime := s.now } := by
  unfold State.port
  rw [State.diagnose_net]
  exact State.port_putPort_self s p _

theorem State.diagnose_port_other (s : State) (lanes : List LaneReading) {k : Nat} (other : k ≠ p) :
    (s.diagnose p lanes).port k = s.port k := by
  unfold State.port
  rw [State.diagnose_net]
  exact State.port_putPort_other s _ (Ne.symm other)

theorem State.linkUp_of_down {lanes : List LaneReading} (awake : s.asleep = false) (on : s.mode ≠ .off) (fabric : 2 ≤ p)
    (four : lanes.length = 4) (dark : (s.port p).up = false) (down : (s.port p).role = .down) :
    ((s.linkUp p lanes).port p).role = .holdoff ∧ ((s.linkUp p lanes).port p).up = true ∧
      ((s.linkUp p lanes).port p).holdSince = s.now ∧ ((s.linkUp p lanes).port p).verdict = verdictOf lanes ∧
      ∀ k : Nat, k ≠ p → (s.linkUp p lanes).port k = s.port k := by
  have acts : ¬ ((s.port p).up || decide ((s.port p).role = .failed) || decide (s.mode = .off) || (s.asleep && decide (2 ≤ p)) ||
      (decide (2 ≤ p) && decide (lanes.length ≠ 4))) = true := by
    simp [dark, down, on, awake, four]
  have measured := s.diagnose_port p lanes
  have others (k : Nat) (other : k ≠ p) : (s.diagnose p lanes).port k = s.port k := s.diagnose_port_other lanes other
  have now : (s.diagnose p lanes).now = s.now := congrArg (fun x : Time => x.base.toNat / 2 ^ 32)
    (keeps_time (w := allBut .time) (State.diagnose_mask _ _ _ (by decide)))
  unfold State.linkUp
  dsimp only
  rw [if_neg acts, if_pos fabric, if_pos (by rw [down]; rfl)]
  generalize s.diagnose p lanes = u at measured others now ⊢
  have lit : (u.putPort p { u.port p with up := true, holdSince := u.now }).port p = { u.port p with up := true, holdSince := u.now } :=
    State.port_putPort_self u p _
  have dim (k : Nat) (other : k ≠ p) : (u.putPort p { u.port p with up := true, holdSince := u.now }).port k = u.port k :=
    State.port_putPort_other u _ (Ne.symm other)
  generalize u.putPort p { u.port p with up := true, holdSince := u.now } = v at lit dim ⊢
  obtain ⟨changed, held⟩ := v.setRole_port p .holdoff
  rw [held, lit]
  refine ⟨rfl, rfl, now, ?_, fun k other => ?_⟩
  · rw [measured]
  · rw [State.setRole_port_other v _ other, dim k other, others k other]

theorem State.holdoffEnd_of_due (role : (s.port p).role = .holdoff) (up : (s.port p).up = true) (good : (s.port p).verdict < 4)
    (due : (s.port p).holdSince + 250000000 * s.odGet 0x2600 5 ≤ s.now) :
    s.holdoffEnd p = (s.setRole p .resync).setRole p .standby := by
  refine if_pos ?_
  rw [role, up, decide_eq_true good, decide_eq_true (show (s.port p).holdSince + second * s.odGet 0x2600 5 ≤ s.now from due)]
  rfl

/-- The last change of a role is the time of the step. -/
theorem State.setRole_twice (s : State) {p : Nat} {a b : PortRole} (fresh : (s.port p).role ≠ a) (apart : a ≠ b) :
    ((s.setRole p a).setRole p b).port p = { s.port p with role := b, lastChange := s.now } := by
  have first : (s.setRole p a).port p = { s.port p with role := a, lastChange := s.now } := by
    unfold State.port
    rw [State.setRole_of_change fresh]
    exact State.port_putPort_self s p _
  have now : (s.setRole p a).now = s.now := congrArg (fun x : Time => x.base.toNat / 2 ^ 32)
    (keeps_time (w := allBut .time) (State.setRole_mask _ _ _ (by decide)))
  have change : ((s.setRole p a).port p).role ≠ b := by
    rw [first]
    exact apart
  have second : ((s.setRole p a).setRole p b).port p = { (s.setRole p a).port p with role := b, lastChange := (s.setRole p a).now } := by
    unfold State.port
    rw [State.setRole_of_change change]
    exact State.port_putPort_self _ p _
  rw [second, first, now]

theorem State.holdoffEnd_of_not_due (not : 4 ≤ (s.port p).verdict ∨ s.now < (s.port p).holdSince + 250000000 * s.odGet 0x2600 5) :
    s.holdoffEnd p = s := by
  refine if_neg fun due => ?_
  simp only [Bool.and_eq_true, decide_eq_true_eq] at due
  obtain ⟨⟨-, good⟩, passed⟩ := due
  rcases not with bad | early
  · exact Nat.not_le.mpr good bad
  · exact Nat.not_le.mpr (show s.now < (s.port p).holdSince + second * s.odGet 0x2600 5 from early) passed

/-! ### Heartbeats, holds and replays (R422, R427, R428) -/

theorem leBytes_length (n v : Nat) : (leBytes n v).length = n := by
  induction n generalizing v with
  | zero => rfl
  | succ n ih => rw [leBytes, List.length_cons, ih]

theorem State.sendOn_out (s : State) (part : Option Nat) (p : Nat) (bs : List Byte) (fabric : bs.getD 12 0 = 0x88 ∧ bs.getD 13 0 = 0xB5) :
    (s.sendOn part p bs).out = s.out ++ [.frame p (bs ++ List.replicate (124 - bs.length) 0)] := by
  have padded : (if (decide (bs.getD 12 0 = 0x88) && decide (bs.getD 13 0 = 0xB5)) = true then 124 else 60) = 124 := by
    rw [fabric.1, fabric.2]
    rfl
  unfold State.sendOn
  dsimp only
  rw [padded]
  split
  · exact keeps_out (w := allBut .out) (State.bumpDie_mask _ _ _ _ _ (by decide))
  · rfl

theorem State.fabricFrame_type (s : State) (p type dst : Nat) (payload : List Byte) :
    (s.fabricFrame p type dst payload).getD 12 0 = 0x88 ∧ (s.fabricFrame p type dst payload).getD 13 0 = 0xB5 := by
  unfold State.fabricFrame macOf
  generalize s.odGet (0x2610 + p) 0x0E = a
  split <;> exact ⟨rfl, rfl⟩

theorem State.linkTimeout_of_due {l q : Nat} {j : Job} (awake : s.asleep = false) (shut : s.txPorts l = []) (waits : q ∈ s.waitingTx l)
    (inJobs : j ∈ (s.queue q).jobs) (phase : j.phase = .waitLink) (due : j.since + 250000 * s.odGet 0x2600 7 ≤ s.now) :
    ((s.linkTimeout l).link l).expired = true ∧ ∀ k : Nat, (s.linkTimeout l).port k = s.port k := by
  have acts : ¬ (!(s.txPorts l).isEmpty || s.asleep) = true := by
    rw [shut, awake]
    exact Bool.false_ne_true
  have late : ((s.waitingTx l).any (fun q => (s.queue q).jobs.any
      (fun j => decide (j.phase = .waitLink) && decide (j.since + ms * s.odGet 0x2600 7 ≤ s.now)))) = true := by
    refine List.any_eq_true.mpr ⟨q, waits, List.any_eq_true.mpr ⟨j, inJobs, ?_⟩⟩
    rw [decide_eq_true phase, decide_eq_true (show j.since + ms * s.odGet 0x2600 7 ≤ s.now from due)]
    rfl
  unfold State.linkTimeout
  dsimp only
  rw [if_neg acts, if_pos late]
  generalize ended : (s.waitingTx l).foldl _ s = u
  have net : u.net = s.net := by
    rw [← ended]
    exact keeps_net (w := notNet) (mask_foldl _ (fun v q => State.updQueue_mask (hw := rfl) ..) _ _)
  refine ⟨by rw [State.link_putLink_self], fun k => show u.port k = s.port k from congrArg (fun n : Net => n.ports.getD k {}) net⟩

theorem State.replayDone_of_none {l : Nat} (replaying : (s.link l).replaying = true) (empty : s.waitingTx l = []) :
    s.replayDone l = s.putLink l { s.link l with replaying := false } := by
  have waits : (s.putLink l { s.link l with replaying := false }).waitingTx l = [] := empty
  unfold State.replayDone State.sendWaiting
  rw [if_pos replaying, waits]
  rfl

theorem State.runDiagnostics_of_ok {lanes : List LaneReading} (awake : s.asleep = false) (fabric : 2 ≤ p) (four : lanes.length = 4)
    (role : (s.port p).role = .standby ∨ (s.port p).role = .down) :
    s.runDiagnostics p lanes = (s.diagnose p lanes).odSet (0x2610 + p) 0x0F 2 := by
  refine if_pos ?_
  rcases role with role | role <;> simp [role, fabric, four, awake]

end

/-- Settles O46: failures by `State.failover_of_standby` on the counted port, switches by `State.switchDone_of_due`,
returns by `State.linkUp_of_down`, with roles read off `State.setRole_port`. -/
theorem portRoles : Obligations.PortRoles := by
  unfold Obligations.PortRoles
  have linkSmall (p : Nat) : linkOfPort p < 3 := by
    unfold linkOfPort
    split
    · decide
    · split <;> decide
  refine ⟨fun s p trigger b awake on can active standby few => ?_, fun s p trigger awake on can active alone few => ?_,
    fun s p trigger awake on can standby => ?_, fun s l awake on standby idle => ?_, fun s code refused => ?_,
    fun s l a b t0 switching due active standby => ?_, fun s p lanes awake on fabric four dark down => ?_,
    fun s p role up good due => ?_, fun s p not => congrArg _ (State.holdoffEnd_of_not_due not),
    fun s p awake fabric role up => ?_, fun s l q j awake shut waits inJobs phase due => ?_,
    fun s l replaying empty => congrArg _ (State.replayDone_of_none replaying empty),
    fun s p lanes awake fabric four role => ?_, fun s p failed => ?_,
    fun s p runs => congrArg Host.Outcome.next (if_neg runs)⟩
  · have runs : (s.port p.val).role ≠ .failed := by rw [active]; decide
    have ran := State.portFails_eq awake on can runs
    rw [if_pos active] at ran
    obtain ⟨role, up, others⟩ := s.portCounted_port p.val trigger.val
    rw [if_neg (Nat.not_le.mpr few)] at role
    have found : ((s.portCounted p.val trigger.val).dropSwitch (linkOfPort p.val)).standbyPort (linkOfPort p.val) = some b :=
      (State.standbyPort_portCounted active).trans standby
    have ports := (s.portCounted p.val trigger.val).dropSwitch_port (linkOfPort p.val)
    have apart : p.val ≠ b := by
      intro same
      have stands := (State.standbyPort_found standby).2
      rw [← same, active] at stands
      cases stands
    obtain ⟨activeB, expired, switching, rest⟩ := State.failover_of_standby (old := p.val) (linkSmall p.val) found
    have frame := s.portFails_only p.val trigger.val
    rw [ran] at frame
    refine ⟨_, congrArg Host.Outcome.next ran, ?_, ?_, activeB, expired, switching, fun k h1 h2 => ?_, frame⟩
    · rw [rest _ apart, ports, role]
    · rw [rest _ apart, ports, up]
    · rw [rest _ h2, ports, others k h1]
  · have runs : (s.port p.val).role ≠ .failed := by rw [active]; decide
    have ran := State.portFails_eq awake on can runs
    rw [if_pos active] at ran
    obtain ⟨role, -, others⟩ := s.portCounted_port p.val trigger.val
    rw [if_neg (Nat.not_le.mpr few)] at role
    have ports := (s.portCounted p.val trigger.val).dropSwitch_port (linkOfPort p.val)
    obtain ⟨ring, rest⟩ := State.failover_of_none (old := p.val) ((State.standbyPort_portCounted (trigger := trigger.val) active).trans alone)
    have frame := s.portFails_only p.val trigger.val
    rw [ran] at frame
    refine ⟨_, congrArg Host.Outcome.next ran, ?_, ring, fun k other => ?_, frame⟩
    · rw [rest, ports, role]
    · rw [rest, ports, others k other]
  · have runs : (s.port p.val).role ≠ .failed := by rw [standby]; decide
    have ran := State.portFails_eq awake on can runs
    rw [if_neg (by rw [standby]; decide), if_pos standby] at ran
    obtain ⟨role, up, others⟩ := s.portCounted_port p.val trigger.val
    have ports := (s.portCounted p.val trigger.val).dropSwitch_port (linkOfPort p.val)
    have frame := s.portFails_only p.val trigger.val
    rw [ran] at frame
    refine ⟨_, congrArg Host.Outcome.next ran, ?_, ?_, fun k other => ?_, frame⟩
    · rw [ports, role]
    · rw [ports, up]
    · rw [ports, others k other]
  · refine congrArg Host.Outcome.next (if_pos ?_)
    simp [l.isLt, standby, idle, awake, on]
  · refine congrArg Host.Outcome.next (if_neg ?_)
    rcases refused with far | alone
    · simp [Nat.not_lt.mpr far]
    · simp [alone]
  · obtain ⟨roleA, roleB, ended, others⟩ := State.switchDone_of_due l.isLt switching due active standby
    exact ⟨s.switchDone l, rfl, roleA, roleB, ended, others, State.switchDone_mask _ _ (by decide)⟩
  · obtain ⟨role, up, since, verdict, others⟩ := State.linkUp_of_down awake on fabric four dark down
    exact ⟨s.linkUp p.val lanes, rfl, role, up, since, verdict, others, State.linkUp_mask _ _ _ (by decide)⟩
  · have ran := State.holdoffEnd_of_due role up good due
    have frame := State.holdoffEnd_mask s p.val (m0 := maskOf [.free, .queues, .dram, .upsets, .ecc, .tlb, .modMem, .fw, .net,
      .ev, .od]) (by decide)
    rw [ran] at frame
    exact ⟨_, congrArg Host.Outcome.next ran, s.setRole_twice (by rw [role]; decide) (by decide),
      fun k other => (State.setRole_port_other _ _ other).trans (State.setRole_port_other _ _ other), frame⟩
  · have ran : s.heartbeatOut p.val = s.sendOn none p.val (s.fabricFrame p.val 3 0xFFFF []) :=
      if_pos (by simp [fabric, role, up, awake])
    have sent : Only [.free, .out, .queues, .dram, .upsets, .ecc, .tlb, .modMem, .fw, .ev, .od] s
        (s.sendOn none p.val (s.fabricFrame p.val 3 0xFFFF [])) := State.sendOn_mask _ _ _ _ (by decide)
    exact ⟨_, congrArg Host.Outcome.next ran, s.sendOn_out none p.val _ (s.fabricFrame_type _ _ _ _),
      fun k => congrArg (fun n : Net => n.ports.getD k {}) (keeps_net sent), sent⟩
  · obtain ⟨expired, ports⟩ := State.linkTimeout_of_due awake shut waits inJobs phase due
    exact ⟨s.linkTimeout l, rfl, expired, ports, State.linkTimeout_mask _ _ (by decide)⟩
  · have ran := State.runDiagnostics_of_ok awake fabric four role
    have frame := State.runDiagnostics_mask s p.val lanes (m0 := maskOf [.free, .queues, .dram, .upsets, .ecc, .tlb, .modMem,
      .park, .fw, .net, .ev, .rel, .store, .od]) (by decide)
    rw [ran] at frame
    have measured := s.diagnose_port p.val lanes
    have others (k : Nat) (other : k ≠ p.val) : (s.diagnose p.val lanes).port k = s.port k := s.diagnose_port_other lanes other
    refine ⟨_, congrArg Host.Outcome.next ran, ?_, ?_, ?_, others, State.odGet_odSet_self _ _ _ _, frame⟩
    · exact congrArg Port.verdict measured
    · exact congrArg Port.lanes measured
    · exact (congrArg Port.role measured).trans rfl
  · have ran : s.portReturn p.val = (s.setRole p.val .down).odSet (0x2610 + p.val) 0x10 2 := if_pos failed
    have frame := State.portReturn_mask s p.val (m0 := maskOf [.free, .queues, .dram, .upsets, .ecc, .tlb, .modMem, .fw, .net,
      .ev, .od]) (by decide)
    rw [ran] at frame
    obtain ⟨changed, role⟩ := s.setRole_port p.val .down
    exact ⟨_, congrArg Host.Outcome.next ran, congrArg Port.role role, fun k other => State.setRole_port_other s _ other,
      State.odGet_odSet_self _ _ _ _, frame⟩

end Sys2Proof.Machine
end

section
/-!
Partitions (R526–R530, R539–R541): the statement O55. A scrub changes the partition's own record in two places; the cores
and subchannels that are swapped or withdrawn around it leave what the record says of its state, keys and epoch.
-/
namespace Sys2Proof.Machine

set_option Elab.async false
open Sys2Proof

/-! ### What stands in a partition's record (R526) -/

/-- State, keys and epoch of a partition. -/
def Part.identity (x : Part) : PState × Nat × AMap ModelKey × AMap (Nat × Nat) × Nat := (x.state, x.key, x.modelKeys, x.kem, x.epoch)

/-- Every partition keeps its state, keys and epoch. -/
def PartsKept (s t : State) : Prop := ∀ k : Nat, (t.part k).identity = (s.part k).identity

theorem PartsKept.refl (s : State) : PartsKept s s := fun _ => rfl

theorem PartsKept.trans {s t u : State} (h : PartsKept s t) (g : PartsKept t u) : PartsKept s u := fun k => (g k).trans (h k)

theorem PartsKept.of_parts {s t : State} (same : t.parts = s.parts) : PartsKept s t :=
  fun k => congrArg (fun m : AMap Part => (m.getD k {}).identity) same

theorem PartsKept.of_mask {s t : State} (h : t.mask (allBut .parts) = s.mask (allBut .parts)) : PartsKept s t := .of_parts (keeps_parts h)

theorem PartsKept.ite {c : Prop} [Decidable c] {s a b : State} (ha : PartsKept s a) (hb : PartsKept s b) :
    PartsKept s (if c then a else b) := by
  split
  · exact ha
  · exact hb

theorem PartsKept.foldl {α : Type} {g : State → α → State} (h : ∀ u x, PartsKept u (g u x)) (xs : List α) (s : State) :
    PartsKept s (xs.foldl g s) := by
  induction xs generalizing s with
  | nil => exact .refl s
  | cons x xs ih => exact (h s x).trans (ih _)

theorem PartsKept.mapVals {f : Nat → Part → Part} {s t : State} (h : ∀ k x, (f k x).identity = x.identity)
    (mapped : t.parts = s.parts.mapVals f) : PartsKept s t := by
  intro k
  have value : t.part k = ((s.parts.find k).map (f k)).getD {} :=
    (congrArg (fun m => AMap.getD m k ({} : Part)) mapped).trans (AMap.getD_mapVals _ _ _ _)
  rw [value]
  unfold State.part AMap.getD
  cases s.parts.find k with
  | none => rfl
  | some x => exact h k x

section
variable (s : State)

theorem State.giveCore_kept (a b : Nat) : PartsKept s (s.giveCore a b) := by
  unfold State.giveCore
  split
  · intro k
    unfold State.updPart
    rw [State.part_putPart]
    split
    · next same =>
      subst same
      rfl
    · rfl
  · exact .refl s

theorem State.swapCore_kept (n : Nat) (passed : Bool) : PartsKept s (s.swapCore n passed) := by
  unfold State.swapCore
  split
  · next b spares _ =>
    extract_lets u v w
    have down : PartsKept s u := by
      refine .ite (.of_mask ?_) (.refl s)
      simp (disch := decide) only [State.updCore_mask, State.coreDown_mask]
    refine down.trans ?_
    clear_value u
    split
    · refine (u.giveCore_kept n b).trans (.of_mask ?_)
      simp (disch := decide) only [v, w, State.commit_mask, State.coreRecord_mask, State.checkComplement_mask, State.clearSpadUpsets_mask,
        State.updCore_mask]
    · refine .of_mask ?_
      simp (disch := decide) only [State.commit_mask, State.testRecord_mask, State.checkComplement_mask, State.updCore_mask,
        State.drawInt_mask, State.drawIn_mask]
  · exact .refl s

theorem State.swapFree_kept (ns : List Nat) : PartsKept s (s.swapFree ns) := by
  induction ns generalizing s with
  | nil => exact .refl s
  | cons n ns ih =>
    unfold State.swapFree
    dsimp only
    refine .trans (.ite ?_ (.refl s)) (ih _)
    exact .trans (.of_mask (State.drawBool_mask (hw := rfl) ..)) (State.swapCore_kept _ n _)

theorem State.degradedDone_kept : PartsKept s s.degradedDone := by
  unfold State.degradedDone
  extract_lets gone u v
  have kept : PartsKept s u :=
    .foldl (fun _ n => .mapVals (f := fun _ x => { x with subs := x.subs &&& ~~~(BitVec.ofNat 68 (2 ^ n)) }) (fun _ _ => rfl) rfl) gone s
  refine kept.trans (.trans (t := v) (.of_mask rfl) (.ite (.refl v) (.of_mask ?_)))
  simp (disch := decide) only [State.commit_mask, State.checkComplement_mask, State.force_mask]

theorem State.scrubCores_kept (p : Nat) : PartsKept s (s.scrubCores p) := by
  unfold State.scrubCores
  dsimp only
  refine .trans (.foldl (fun u n => .of_mask ?_) _ _) (State.swapFree_kept _ _)
  simp (disch := decide) only [setEv_mask, State.condition_mask, State.clearSpadUpsets_mask, State.updCore_mask, mask_ite, ite_self]

end

theorem State.scrubQueues_pageMaps (s : State) (p : Nat) :
    (s.scrubQueues p).pageMaps = s.pageMaps.only (fun k _ => decide (k / 2 ^ 18 ≠ p)) := by
  unfold State.scrubQueues
  extract_lets x s1 s2 s3 s4 s5 s6 kv s7 s8 s9
  rfl

theorem State.scrubServices_values (s : State) (p : Nat) :
    (s.scrubServices p).sess = s.sess.only (fun _ x => decide (x.partition.toNat ≠ p)) ∧
      (s.scrubServices p).grammars = s.grammars.only (fun _ g => decide (g.part.toNat ≠ p)) := by
  unfold State.scrubServices
  extract_lets s1 s2 s3 s4 s5 s6
  exact ⟨rfl, rfl⟩

/-! ### A scrub (R539, R540) -/

/-- The scrub up to the partition's messages: what is cut short outside its own storage. -/
def State.scrubCut (s : State) (p : Nat) : State :=
  (((s.dropSessions (RSess.ownedBy p)).abortGroups 2 (fun e => decide (jgPart e = p))).cutFlight p).cutRequests p

/-- The scrub up to its key: what the partition had outside its storage ends. -/
def State.scrubEnds (s : State) (p : Nat) : State := (((s.scrubCut p).scrubEvents p).scrubQueues p).scrubServices p

/-- The partition's record once a scrub has drawn its key. -/
def Part.scrubbed (x : Part) (key : Nat) : Part :=
  { x with key := key, modelKeys := [], kem := [], capCeiling := 1100, issueShare := 100 }

/-- The scrub of what the partition holds: firmware, slices and memory. -/
def State.scrubStores (s : State) (p : Nat) : State := ((s.scrubFirmware p).zeroSlices (s.part p)).zeroDram (s.part p)

/-- The scrub after its stores: debug, cores, entries. -/
def State.scrubRest (s : State) (p : Nat) : State :=
  let s := if s.sec.debugOpen = some p then (s.setSec { s.sec with debugOpen := none }).odSet 0x5000 2 0 else s
  (((s.scrubCores p).scrubEntries p (s.part p).cores).degradedDone).follow

section
variable (s : State) (p : Nat)

theorem State.scrubSteps_eq : s.scrubSteps p =
    ((((s.scrubEnds p).drawKey.2.updPart p (Part.scrubbed · (s.scrubEnds p).sec.nextKey)).scrubStores p).scrubRest p) := by
  unfold State.scrubSteps
  extract_lets u v w x
  rw [show s.scrubEnds p = x from rfl]
  clear_value x
  rfl

theorem State.scrubCut_only : Only [.free, .out, .queues, .sems, .dram, .upsets, .ecc, .tlb, .modMem, .park, .fw, .ryc, .ev,
    .rel, .store, .od] s (s.scrubCut p) := by
  unfold State.scrubCut Only
  simp (disch := decide) only [State.cutRequests_mask, State.cutFlight_mask, State.abortGroups_mask, State.dropSessions_mask]

theorem State.scrubEnds_only : Only [.free, .out, .queues, .queueZero, .sems, .semWait, .dram, .upsets, .ecc, .migr, .pageMaps, .tlb,
    .kvMaps, .kvTlb, .kvDirty, .modMem, .park, .sess, .grammars, .adapters, .adapterLast, .video, .fw, .ryc, .net, .ev, .rel,
    .store, .od] s (s.scrubEnds p) := by
  unfold State.scrubEnds Only
  simp (disch := decide) only [State.scrubServices_mask, State.scrubQueues_mask, State.scrubEvents_mask]
  exact mask_mono (by decide) (s.scrubCut_only p)

theorem State.scrubEnds_ended : (s.scrubEnds p).sess = s.sess.only (fun _ x => decide (x.partition.toNat ≠ p)) ∧
    (s.scrubEnds p).grammars = s.grammars.only (fun _ g => decide (g.part.toNat ≠ p)) ∧
    (s.scrubEnds p).pageMaps = s.pageMaps.only (fun k _ => decide (k / 2 ^ 18 ≠ p)) := by
  have cut := s.scrubCut_only p
  have events : Only [.ev] (s.scrubCut p) ((s.scrubCut p).scrubEvents p) := State.scrubEvents_mask _ _ (by decide)
  unfold State.scrubEnds
  generalize (s.scrubCut p).scrubEvents p = u at events ⊢
  have queues : Only [.queues, .queueZero, .sems, .semWait, .migr, .pageMaps, .tlb, .kvMaps, .kvTlb, .kvDirty] u (u.scrubQueues p) :=
    State.scrubQueues_mask _ _ (by decide)
  have maps := State.scrubQueues_pageMaps u p
  generalize u.scrubQueues p = v at queues maps ⊢
  obtain ⟨sess, grammars⟩ := v.scrubServices_values p
  have kept : (v.scrubServices p).pageMaps = v.pageMaps :=
    keeps_pageMaps (w := allBut .pageMaps) (State.scrubServices_mask v p (by decide))
  rw [sess, grammars, kept, maps, keeps_sess queues, keeps_grammars queues, keeps_sess events, keeps_grammars events,
    keeps_pageMaps events, keeps_sess cut, keeps_grammars cut, keeps_pageMaps cut]
  exact ⟨rfl, rfl, rfl⟩

theorem State.zeroSlices_of_same {t : State} {x y : Part} (shared : t.shared = s.shared) (slices : y.slices = x.slices) :
    (t.zeroSlices y).shared = (s.zeroSlices x).shared := by
  unfold State.zeroSlices
  rw [shared, slices]
  rfl

theorem State.scrubStores_only : Only [.dram, .upsets, .shared, .fw] s (s.scrubStores p) := by
  unfold State.scrubStores Only
  simp (disch := decide) only [State.zeroDram_mask, State.zeroSlices_mask, State.scrubFirmware_mask]

theorem State.scrubStores_shared : (s.scrubStores p).shared = (s.zeroSlices (s.part p)).shared := by
  unfold State.scrubStores
  generalize same : s.scrubFirmware p = u
  have kept : u.shared = s.shared := by rw [← same]; rfl
  exact (keeps_shared (w := allBut .shared) (State.zeroDram_mask (hw := rfl) ..)).trans (State.zeroSlices_of_same s kept rfl)

theorem State.scrubRest_kept : PartsKept s (s.scrubRest p) := by
  unfold State.scrubRest
  extract_lets sec u
  have closed : PartsKept s u := .ite (.of_parts rfl) (.refl s)
  refine closed.trans ?_
  clear_value u
  have entries : PartsKept u ((u.scrubCores p).scrubEntries p (u.part p).cores) :=
    (u.scrubCores_kept p).trans (.of_mask (State.scrubEntries_mask (hw := rfl) ..))
  exact (entries.trans (State.degradedDone_kept _)).trans (.of_mask (State.follow_mask (hw := rfl) ..))

theorem State.scrubRest_only : Only [.free, .out, .mode, .idle, .cores, .queues, .sems, .semWait, .dram, .upsets, .spadUpsets, .ecc,
    .rotation, .tlb, .modMem, .parts, .park, .fw, .ev, .rel, .sec, .pow, .store, .od] s (s.scrubRest p) := by
  unfold State.scrubRest Only
  simp (disch := decide) only [State.follow_mask, State.degradedDone_mask, State.scrubEntries_mask, State.scrubCores_mask,
    State.odSet_mask, setSec_mask, mask_ite, ite_self]

theorem State.scrubRest_nextKey : (s.scrubRest p).sec.nextKey = s.sec.nextKey := by
  unfold State.scrubRest
  extract_lets sec u
  have closed : u.sec.nextKey = s.sec.nextKey := by
    show (ite _ _ _ : State).sec.nextKey = _
    split <;> rfl
  rw [← closed]
  clear_value u
  refine congrArg Sec.nextKey (keeps_sec (w := allBut .sec) ?_)
  simp (disch := decide) only [State.follow_mask, State.degradedDone_mask, State.scrubEntries_mask, State.scrubCores_mask]

/-- What a scrub leaves, from the state with its partition marked (R539). -/
theorem State.scrubSteps_result : ((s.scrubSteps p).part p).identity = ((s.part p).scrubbed s.sec.nextKey).identity ∧
    (∀ k, k ≠ p → ((s.scrubSteps p).part k).identity = (s.part k).identity) ∧
    (s.scrubSteps p).sec.nextKey = s.sec.nextKey + 1 ∧
    (s.scrubSteps p).sess = s.sess.only (fun _ x => decide (x.partition.toNat ≠ p)) ∧
    (s.scrubSteps p).grammars = s.grammars.only (fun _ g => decide (g.part.toNat ≠ p)) ∧
    (s.scrubSteps p).pageMaps = s.pageMaps.only (fun k _ => decide (k / 2 ^ 18 ≠ p)) ∧
    (s.scrubSteps p).shared = (s.zeroSlices (s.part p)).shared := by
  have ends := s.scrubEnds_only p
  have parts := keeps_parts ends
  have sec := keeps_sec ends
  have shared := keeps_shared ends
  obtain ⟨sess, grammars, maps⟩ := s.scrubEnds_ended p
  rw [State.scrubSteps_eq]
  generalize s.scrubEnds p = a at *
  generalize hb : a.drawKey.2.updPart p _ = b
  have stores := b.scrubStores_only p
  have zeroed := b.scrubStores_shared p
  generalize b.scrubStores p = c at *
  have rest := c.scrubRest_only p
  have kept := c.scrubRest_kept p
  have key := c.scrubRest_nextKey p
  generalize c.scrubRest p = t at *
  have own (k : Nat) : b.part k = if p = k then (s.part p).scrubbed s.sec.nextKey else s.part k := by
    rw [← hb, State.updPart, State.part_putPart, sec]
    unfold State.part
    rw [← parts]
    rfl
  have identity (k : Nat) : (t.part k).identity = (b.part k).identity :=
    (kept k).trans (congrArg (fun m => (AMap.getD m k ({} : Part)).identity) (keeps_parts stores))
  refine ⟨(identity p).trans (congrArg _ ((own p).trans (if_pos rfl))),
    fun k other => (identity k).trans (congrArg _ ((own k).trans (if_neg (Ne.symm other)))), ?_, ?_, ?_, ?_, ?_⟩
  · rw [key, keeps_sec stores, ← hb, ← sec]
    rfl
  · rw [keeps_sess rest, keeps_sess stores, ← sess, ← hb]
    rfl
  · rw [keeps_grammars rest, keeps_grammars stores, ← grammars, ← hb]
    rfl
  · rw [keeps_pageMaps rest, keeps_pageMaps stores, ← maps, ← hb]
    rfl
  · rw [keeps_shared rest, zeroed]
    refine State.zeroSlices_of_same s ?_ ?_
    · rw [← shared, ← hb]
      rfl
    · rw [own p, if_pos rfl]
      rfl

/-- The record of the reset that a scrub is. -/
def State.scrubRecord (s : State) (destroy : Bool) : HistRec :=
  { clock := s.park.clock, time := s.now, kind := .part, cause := if destroy then 0x0B else 0x0A, unit := p, counted := false }

/-- A partition's record once its scrub has begun. -/
def Part.scrubBegun (x : Part) (destroy : Bool) : Part := { x with state := if destroy then .destroying else .scrubbing }

theorem State.startScrub_of_active (destroy : Bool) (active : (s.part p).state = .active) : s.startScrub p destroy =
    (((s.putPart p ((s.part p).scrubBegun destroy)).recordReset (s.scrubRecord p destroy)).scrubSteps p) := by
  unfold State.startScrub
  dsimp only
  rw [active]
  rfl

theorem State.startScrub_of_running (destroy : Bool) (free : (s.part p).state ≠ .free) (active : (s.part p).state ≠ .active) :
    s.startScrub p destroy = (if destroy then s.putPart p { s.part p with state := .destroying } else s).setRst
      { s.rst with history := markMerged p s.rst.history } := by
  unfold State.startScrub
  dsimp only
  split
  · contradiction
  · contradiction
  · cases destroy <;> rfl

/-- What the scrub of an active partition leaves (R539). -/
theorem State.startScrub_result (destroy : Bool) (active : (s.part p).state = .active) :
    ((s.startScrub p destroy).part p).identity = (((s.part p).scrubBegun destroy).scrubbed s.sec.nextKey).identity ∧
    (∀ k, k ≠ p → ((s.startScrub p destroy).part k).identity = (s.part k).identity) ∧
    (s.startScrub p destroy).sec.nextKey = s.sec.nextKey + 1 ∧
    (s.startScrub p destroy).sess = s.sess.only (fun _ x => decide (x.partition.toNat ≠ p)) ∧
    (s.startScrub p destroy).grammars = s.grammars.only (fun _ g => decide (g.part.toNat ≠ p)) ∧
    (s.startScrub p destroy).pageMaps = s.pageMaps.only (fun k _ => decide (k / 2 ^ 18 ≠ p)) ∧
    (s.startScrub p destroy).shared = (s.zeroSlices (s.part p)).shared := by
  have marked : Only [.parts] s (s.putPart p ((s.part p).scrubBegun destroy)) := State.putPart_mask _ _ _ (by decide)
  have own := s.part_putPart p p ((s.part p).scrubBegun destroy)
  have others (k : Nat) := s.part_putPart p k ((s.part p).scrubBegun destroy)
  rw [State.startScrub_of_active s p destroy active]
  generalize s.putPart p ((s.part p).scrubBegun destroy) = a at *
  have recorded : Only [.free, .rst, .queues, .dram, .upsets, .ecc, .tlb, .modMem, .fw, .ev, .rel, .store, .od] a
      (a.recordReset (s.scrubRecord p destroy)) := State.recordReset_mask _ _ (by decide)
  generalize a.recordReset (s.scrubRecord p destroy) = b at *
  have parts (k : Nat) : b.part k = if p = k then (s.part p).scrubBegun destroy else s.part k :=
    (congrArg (fun m => AMap.getD m k ({} : Part)) (keeps_parts recorded)).trans (others k)
  have self := (parts p).trans (if_pos rfl)
  have sec := (keeps_sec recorded).trans (keeps_sec marked)
  obtain ⟨identity, rest, key, sess, grammars, maps, shared⟩ := b.scrubSteps_result p
  rw [self, sec] at identity
  rw [self] at shared
  refine ⟨identity, fun k other => (rest k other).trans (congrArg _ ((parts k).trans (if_neg (Ne.symm other)))),
    key.trans (congrArg (·.nextKey + 1) sec), ?_, ?_, ?_, shared.trans ?_⟩
  · rw [sess, keeps_sess recorded, keeps_sess marked]
  · rw [grammars, keeps_grammars recorded, keeps_grammars marked]
  · rw [maps, keeps_pageMaps recorded, keeps_pageMaps marked]
  · exact State.zeroSlices_of_same s ((keeps_shared recorded).trans (keeps_shared marked)) rfl

/-- A scrub that destroys its partition, begun or merged (R539). -/
theorem State.startScrub_destroys (used : (s.part p).state ≠ .free) : ((s.startScrub p true).part p).state = .destroying ∧
    ∀ k, k ≠ p → ((s.startScrub p true).part k).state = (s.part k).state := by
  by_cases active : (s.part p).state = .active
  · obtain ⟨own, others, -⟩ := s.startScrub_result p true active
    exact ⟨congrArg Prod.fst own, fun k other => congrArg Prod.fst (others k other)⟩
  · rw [State.startScrub_of_running s p true used active]
    exact ⟨congrArg Part.state (s.part_putPart_self p _),
      fun k other => congrArg Part.state (s.part_putPart_other _ (Ne.symm other))⟩

theorem execPartitionScrub_awake {p : PartId} (awake : s.asleep = false) (due : s.rst.due = none) :
    exec (.partitionScrub p .entry) s = if (s.part p.toNat).state = .free then .next (s.odSet (wIx p.toNat 0) 0x0D 3)
      else .next ((s.startScrub p.toNat false).odSet (wIx p.toNat 0) 0x0D 1) :=
  if_neg (by rw [awake, due]; decide)

theorem execPartitionDestroy_received {u : State} {m : MbxSrc} {x : MbxIn} (received : s.receive m 0x12 = (some x, u))
    (small : bodyAt (u.body x) 0 1 ≤ 7) (due : u.rst.due = none ∨ (u.part (bodyAt (u.body x) 0 1)).state = .free) :
    exec (.partitionDestroy m) s = .next (if (u.part (bodyAt (u.body x) 0 1)).state = .free then u.answer x 0xE3 []
      else (u.keepRequest x false).startScrub (bodyAt (u.body x) 0 1) true) := by
  show execPartitionDestroy m s = _
  unfold execPartitionDestroy State.scrubMessage
  rw [received]
  dsimp only
  rw [if_neg (Nat.not_lt.mpr small)]
  split
  · rfl
  · next used =>
    rw [if_neg (by rw [due.resolve_right used]; decide)]

/-! ### The end of a scrub (R541) -/

/-- The end of a scrub after its partition's record: counts, answers and the stop that waited. -/
def State.scrubFinish (s : State) (p : Nat) : State :=
  let s := s.odInc (wIx p 0) 0x0C 1
  let s := if s.odGet (wIx p 0) 0x0D = 1 then s.odSet (wIx p 0) 0x0D 2 else s
  ((s.answerPart 0x11 p 0).answerPart 0x12 p 0).oosIfFlagged

theorem State.scrubFinish_only : Only [.free, .mode, .idle, .entry, .queues, .dram, .upsets, .ecc, .tlb, .modMem, .fw, .ev, .pow,
    .od] s (s.scrubFinish p) := by
  unfold State.scrubFinish Only
  simp (disch := decide) only [State.oosIfFlagged_mask, State.answerPart_mask, State.odSet_mask, State.odInc_mask, mask_ite, ite_self]

theorem State.scrubDone_of_scrubbing (scrubbing : (s.part p).state = .scrubbing) : s.scrubDone p =
    ((s.drawEpoch.2.putPart p { s.part p with state := .active, epoch := s.sec.epoch, debug := false }).raisePart 0 p 5 0).scrubFinish p := by
  unfold State.scrubDone
  dsimp only
  rw [scrubbing]
  rfl

/-- A destroyed partition's sources, engines and entries are free. -/
def State.releaseParts (s : State) (p : Nat) : State :=
  let s := s.setEv { s.ev with src := s.ev.src.mapVals (fun _ y => if y.owner.map BitVec.toNat = some p then { y with owner := none } else y) }
  let s := s.setVideo (s.video.mapVals (fun _ e => if e.part.map BitVec.toNat = some p then { e with part := none } else e))
  s.setOd (s.od.only (fun k _ => !(decide (wIx p 0x010 ≤ k / 256) && decide (k / 256 < wIx p 0x014))))

theorem State.scrubDone_of_destroying (destroying : (s.part p).state = .destroying) :
    s.scrubDone p = (((s.releaseParts p).commit [1]).putPart p {}).scrubFinish p := by
  unfold State.scrubDone
  dsimp only
  rw [destroying]
  rfl

theorem State.scrubDone_part (scrubbing : (s.part p).state = .scrubbing) (k : Nat) : (s.scrubDone p).part k =
    if p = k then { s.part p with state := .active, epoch := s.sec.epoch, debug := false } else s.part k := by
  rw [State.scrubDone_of_scrubbing s p scrubbing]
  refine (congrArg (fun m => AMap.getD m k ({} : Part)) (keeps_parts (State.scrubFinish_only _ p))).trans ?_
  refine (congrArg (fun m => AMap.getD m k ({} : Part)) (keeps_parts (w := allBut .parts) (State.raisePart_mask (hw := rfl) ..))).trans ?_
  exact State.part_putPart _ _ _ _

theorem State.scrubDone_epoch (scrubbing : (s.part p).state = .scrubbing) : (s.scrubDone p).sec.epoch = s.sec.epoch + 1 := by
  rw [State.scrubDone_of_scrubbing s p scrubbing, keeps_sec (State.scrubFinish_only _ p),
    keeps_sec (w := allBut .sec) (State.raisePart_mask (hw := rfl) ..)]
  rfl

theorem State.scrubDone_free (destroying : (s.part p).state = .destroying) (k : Nat) :
    (s.scrubDone p).part k = if p = k then {} else s.part k := by
  rw [State.scrubDone_of_destroying s p destroying]
  refine (congrArg (fun m => AMap.getD m k ({} : Part)) (keeps_parts (State.scrubFinish_only _ p))).trans ?_
  refine (State.part_putPart _ _ _ _).trans ?_
  exact congrArg (fun m => if p = k then ({} : Part) else AMap.getD m k ({} : Part))
    (keeps_parts (s := s.releaseParts p) (w := allBut .parts) (State.commit_mask (hw := rfl) ..))

end

/-! ### A creation (R527, R528) -/

/-- A short answer to a message that came by no queue is written in its mailbox. -/
theorem State.answer_only {s : State} {x : MbxIn} (direct : x.queue = none) (status : Nat) {body : List Byte} (short : body.length ≤ 34) :
    Only [.fw, .od] s (s.answer x status body) := by
  unfold State.answer Only
  rw [direct, decide_eq_false (Nat.not_lt.mpr short)]
  simp (disch := decide) only [State.putMbx_mask, State.odInc_mask, mask_ite, ite_self, Bool.false_eq_true, if_false]

/-- The memory of a created partition's subchannel n under a key. -/
abbrev unwrittenMem (key n : Nat) : Mem := { fill := .unwritten (128 * key + n) }

/-- A subchannel of a created partition reads as unwritten under its key. -/
def freshSub (x : Part) (key : Nat) (d : AMap Sub) (n : Nat) : AMap Sub :=
  if x.subs.getLsbD n then d.put n { d.getD n {} with mem := unwrittenMem key n } else d

theorem freshSub_fold_mem {x : Part} {n : Nat} (mine : x.subs.getLsbD n = true) (key : Nat) (ns : List Nat) (d : AMap Sub)
    (reached : n ∈ ns ∨ (d.getD n {}).mem = unwrittenMem key n) :
    ((ns.foldl (freshSub x key) d).getD n {}).mem = unwrittenMem key n := by
  induction ns generalizing d with
  | nil => exact reached.resolve_left List.not_mem_nil
  | cons k ns ih =>
    refine ih _ ?_
    unfold freshSub
    by_cases same : k = n
    · subst same
      rw [if_pos mine, AMap.getD_put_self]
      exact .inr rfl
    · refine reached.imp (fun listed => (List.mem_cons.mp listed).resolve_left (Ne.symm same)) fun fresh => ?_
      split
      · rw [AMap.getD_put_other _ _ _ same]
        exact fresh
      · exact fresh

theorem State.freshDram_mem {x : Part} {n : Nat} (small : n < 68) (mine : x.subs.getLsbD n = true) (s : State) (key : Nat) :
    ((s.freshDram x key).sub n).mem = unwrittenMem key n :=
  freshSub_fold_mem mine key (upto 68) s.dram (.inl (List.mem_range.mpr small))

/-- The record of the partition that a creation enters. -/
def State.created (s : State) (b : List Byte) : Part :=
  { Part.ofBody b with
    state := .active, d2d := (s.newSlots b).1, fabric := (s.newSlots b).2.1, parkSlots := (s.newSlots b).2.2
    epoch := s.sec.epoch, key := s.sec.nextKey }

theorem State.createPart_eq (s : State) (b : List Byte) : ∃ v q, s.createPart b =
    (((((s.drawKey.2.drawEpoch.2.putPart (bodyAt b 0 1) (s.created b)).freshDram (s.created b) s.sec.nextKey).zeroSlices
      (s.created b)).setVideo v).odDrop q) := by
  unfold State.createPart State.created
  generalize s.newSlots b = slots
  obtain ⟨d, f, k⟩ := slots
  exact ⟨_, _, rfl⟩

/-- What a creation leaves (R527). -/
theorem State.createPart_result (s : State) (b : List Byte) :
    (∀ k, (s.createPart b).part k = if bodyAt b 0 1 = k then s.created b else s.part k) ∧
    (s.createPart b).sec = { s.sec with nextKey := s.sec.nextKey + 1, epoch := s.sec.epoch + 1 } ∧
    (∀ n, n < 68 → (Part.ofBody b).subs.getLsbD n = true → ((s.createPart b).sub n).mem = unwrittenMem s.sec.nextKey n) ∧
    (s.createPart b).shared = (s.zeroSlices (Part.ofBody b)).shared := by
  obtain ⟨v, q, made⟩ := s.createPart_eq b
  rw [made]
  clear made
  generalize ha : s.drawKey.2.drawEpoch.2.putPart (bodyAt b 0 1) (s.created b) = a
  have parts (k : Nat) : a.part k = if bodyAt b 0 1 = k then s.created b else s.part k := by
    rw [← ha]
    exact State.part_putPart _ _ _ _
  have sec : a.sec = { s.sec with nextKey := s.sec.nextKey + 1, epoch := s.sec.epoch + 1 } := by
    rw [← ha]
    rfl
  have shared : a.shared = s.shared := by
    rw [← ha]
    rfl
  clear ha
  have fresh (n : Nat) (small : n < 68) (mine : (Part.ofBody b).subs.getLsbD n = true) :=
    State.freshDram_mem (x := s.created b) small mine a s.sec.nextKey
  have filled : Only [.dram, .upsets] a (a.freshDram (s.created b) s.sec.nextKey) := State.freshDram_mask _ _ _ (by decide)
  generalize a.freshDram (s.created b) s.sec.nextKey = c at *
  have zeroed : Only [.shared] c (c.zeroSlices (s.created b)) := State.zeroSlices_mask _ _ (by decide)
  have zeros : (c.zeroSlices (s.created b)).shared = (s.zeroSlices (Part.ofBody b)).shared :=
    State.zeroSlices_of_same s ((keeps_shared filled).trans shared) rfl
  generalize c.zeroSlices (s.created b) = d at *
  refine ⟨fun k => Eq.trans (congrArg (fun m => AMap.getD m k ({} : Part)) ((keeps_parts zeroed).trans (keeps_parts filled))) (parts k),
    ((keeps_sec zeroed).trans (keeps_sec filled)).trans sec, fun n small mine => ?_, zeros⟩
  exact (congrArg (fun m => (AMap.getD m n ({} : Sub)).mem) (keeps_dram zeroed)).trans (fresh n small mine)

/-- Settles O55: a creation by `State.createPart_result`, a scrub by `State.startScrub_result`, its end by the record that
`State.scrubDone` enters, and the refusals by the branches of the four operations. -/
theorem partitions : Obligations.Partitions := by
  refine ⟨fun s u m x b p received direct awake hb ok hp => ?_, fun s u m x received awake refused => ?_,
    fun s u m x received ready serving => ?_, fun s p awake due active => ?_, fun s p awake due scrubbing => ?_,
    fun s p awake due free => ?_, fun s u m x p received hp small due used => ?_, fun s u m x received small free => ?_,
    fun s p scrubbing => ?_, fun s p destroying => ?_, fun s p active => ?_⟩
  · subst hb hp
    have frame := State.receive_only received
    have runs : exec (.partitionCreate m) s = .next ((u.createPart (u.body x)).answer x 0
        (leBytes 4 ((u.createPart (u.body x)).part (bodyAt (u.body x) 0 1)).epoch ++ leBytes 4 0)) := by
      show execPartitionCreate m s = _
      unfold execPartitionCreate
      rw [received]
      dsimp only
      rw [if_neg (by rcases awake with e | e <;> rw [e] <;> decide), ok]
      exact if_neg (not_not.mpr rfl)
    have short : (leBytes 4 ((u.createPart (u.body x)).part (bodyAt (u.body x) 0 1)).epoch ++ leBytes 4 0).length ≤ 34 := by
      rw [List.length_append, leBytes_length, leBytes_length]
      decide
    have answered := State.answer_only (s := u.createPart (u.body x)) direct 0 short
    have made := State.createPart_mask u (u.body x) (m0 := maskOf [.free, .idle, .queues, .dram, .upsets, .ecc, .tlb, .shared,
          .modMem, .parts, .video, .fw, .ev, .sec, .od]) (by decide)
    obtain ⟨parts, sec, mem, shared⟩ := u.createPart_result (u.body x)
    generalize (u.createPart (u.body x)).answer x 0 _ = t at runs answered
    generalize u.createPart (u.body x) = w at *
    have same (k : Nat) : t.part k = w.part k := congrArg (fun m => AMap.getD m k ({} : Part)) (keeps_parts answered)
    refine ⟨t, runs, (same _).trans ((parts _).trans (if_pos rfl)), ?_, ?_, fun n low mine => ?_,
      (keeps_shared answered).trans shared, fun k other => (same k).trans ((parts k).trans (if_neg (Ne.symm other))), ?_⟩
    · rw [keeps_sec answered, sec]
    · rw [keeps_sec answered, sec]
    · exact (congrArg (fun m => (AMap.getD m n ({} : Sub)).mem) (keeps_dram answered)).trans (mem n low mine)
    · exact (mask_mono (by decide) answered).trans (made.trans (mask_mono (by decide) frame))
  · show execPartitionCreate m s = _
    unfold execPartitionCreate
    rw [received]
    dsimp only
    rw [if_neg (by rcases awake with e | e <;> rw [e] <;> decide), if_pos refused]
  · show execPartitionCreate m s = _
    unfold execPartitionCreate
    rw [received]
    dsimp only
    exact if_pos (by rw [decide_eq_true ready, decide_eq_true serving]; rfl)
  · refine ⟨_, (execPartitionScrub_awake s awake due).trans (if_neg (by rw [active]; decide)), ?_⟩
    obtain ⟨own, others, key, sess, grammars, maps, shared⟩ := s.startScrub_result p.toNat false active
    have frame := State.startScrub_mask s p.toNat false (m0 := maskOf [.free, .out, .mode, .idle, .rst, .cores, .queues, .queueZero,
      .sems, .semWait, .dram, .upsets, .spadUpsets, .ecc, .rotation, .migr, .pageMaps, .tlb, .kvMaps, .kvTlb, .kvDirty, .shared,
      .modMem, .parts, .park, .sess, .grammars, .adapters, .adapterLast, .video, .fw, .ryc, .net, .ev, .rel, .sec, .pow, .store,
      .od]) (by decide)
    generalize s.startScrub p.toNat false = t at *
    exact ⟨congrArg Prod.fst own, congrArg (·.2.1) own, congrArg (·.2.2.1) own, congrArg (·.2.2.2.1) own, key, sess, grammars, maps,
      shared, State.odGet_odSet_self _ _ _ _, fun k other => ⟨congrArg Prod.fst (others k other),
        congrArg (·.2.1) (others k other), congrArg (·.2.2.2.2) (others k other)⟩,
      (State.odSet_mask _ _ _ _ (by decide)).trans frame⟩
  · refine (execPartitionScrub_awake s awake due).trans ((if_neg (by rw [scrubbing]; decide)).trans (congrArg _ ?_))
    rw [State.startScrub_of_running s p.toNat false (by rw [scrubbing]; decide) (by rw [scrubbing]; decide)]
    rfl
  · exact (execPartitionScrub_awake s awake due).trans (if_pos free)
  · subst hp
    have runs := (execPartitionDestroy_received s received small (.inl due)).trans (congrArg _ (if_neg used))
    have kept : Only [.queues, .fw] u (u.keepRequest x false) := State.keepRequest_mask _ _ _ (by decide)
    have parts (k : Nat) : (u.keepRequest x false).part k = u.part k :=
      congrArg (fun m => AMap.getD m k ({} : Part)) (keeps_parts kept)
    obtain ⟨own, others⟩ := State.startScrub_destroys (u.keepRequest x false) (bodyAt (u.body x) 0 1) (by rw [parts]; exact used)
    exact ⟨_, runs, own, fun k other => (others k other).trans (congrArg Part.state (parts k)),
      (State.startScrub_mask _ _ _ (by decide)).trans ((mask_mono (by decide) kept).trans
        (mask_mono (by decide) (State.receive_only received)))⟩
  · exact (execPartitionDestroy_received s received small (.inr free)).trans (congrArg _ (if_pos free))
  · have runs : exec (.scrubComplete p) s = .next (s.scrubDone p.toNat) := by
      show execScrubComplete p s = _
      unfold execScrubComplete
      rw [scrubbing]
    have parts := State.scrubDone_part s p.toNat scrubbing
    exact ⟨_, runs, (parts _).trans (if_pos rfl), State.scrubDone_epoch s _ scrubbing,
      fun k other => (parts k).trans (if_neg (Ne.symm other)), State.scrubDone_mask _ _ (by decide)⟩
  · have runs : exec (.scrubComplete p) s = .next (s.scrubDone p.toNat) := by
      show execScrubComplete p s = _
      unfold execScrubComplete
      rw [destroying]
    have parts := State.scrubDone_free s p.toNat destroying
    exact ⟨_, runs, (parts _).trans (if_pos rfl), fun k other => (parts k).trans (if_neg (Ne.symm other)),
      State.scrubDone_mask _ _ (by decide)⟩
  · show execScrubComplete p s = _
    unfold execScrubComplete
    rw [active]

end Sys2Proof.Machine
end
